-- ==== Sys2Proof/Word.lean ====
section
/-!
DEFINITION. The word types of the FV4812's register and memory interfaces (spec/00_scope.md R14,
spec/16_register_map.md R657).
-/

namespace Sys2Proof

/-- A register word (R657: register space is accessed as 32-bit words). -/
abbrev Word := BitVec 32

/-- A byte of internal memory. -/
abbrev Byte := BitVec 8

/-- An internal address (R14: internal addresses are 40 bits wide). -/
abbrev Addr := BitVec 40

end Sys2Proof
end

