-- ==== Sys2Proof/Config.lean ====
section
/-!
DEFINITION. What an implementation fixes and the spec does not: free values. None has a body, so no proof can use a
value of one; a statement about one holds for every value (log entry 2).
-/

namespace Sys2Proof.Config

/-- A free value of at most any width, applied to the counter `State.fresh` that each use advances (log entry 2). -/
opaque freeValue : Nat → Nat

/-- A free byte of an image in memory that the spec does not determine (log entry 2). -/
opaque freeByte : Nat → BitVec 8

/-- R33: whether a correction of coefficients `c` at tick `θ` that lies between two ticks is rounded to the upper one: the spec gives
the sum and no rounding (log entry 6). -/
opaque eccentricityUp : List Int → Nat → Bool

/-- R84: the error of the equalised sample after the given ones against the target response to the detector's decisions, of the target's
taps and the equaliser's; the decisions and their scale are not stated (log entry 11). -/
opaque equaliserError : List Int → List Int → List Int → Int

/-- R150: parity bit `i` of a codeword's first 32,928 bits; the code's matrix is not stated (log entry 11). -/
opaque ldpcParity : List Bool → Nat → Bool

/-- Where DRAM holds the image of position `pos` of row `row` of zone `zone` while the row is uncommitted (R214: the
spec places the images in buffer DRAM and names no address; log entry 12). -/
opaque frameImage : Nat → Nat → Nat → Nat

/-- R239: the length in frames of a journal record with the given numbers of entries in its parts; the sizes of the entries are not stated
(log entry 25). -/
opaque recordFrames : List Nat → Nat

/-- R580: the CRC-32 of a kind of the adaptive tables, of its contents as numbers; the layout of a copy is not stated (log entry 43). -/
opaque tableCrc : List Nat → Nat

/-- Whether a quotient of a numerator and a denominator that lies between two whole numbers is shown as the upper one, where the spec
gives a quantity and no rounding (R309, R311, R323, R339; log entry 28). -/
opaque roundUp : Int → Nat → Bool

/-- R306, R312: what one step of a staged voltage demand is worth, in 10 µV; the unit is the vendor microcode's (log entry 28). -/
opaque voltageStep : Nat

/-- Whole units of worker zone `y` of the worker in slot `x`, as the worker reports its ZCAP (R604; log entry 38). -/
opaque workerUnits : Nat → Nat → Nat

/-- The place of a digital ball in the boundary-scan chain, which the spec does not order (R635; log entry 40). -/
opaque scanOrder : Nat → Nat

/-- Where the peer region holds the completion queue `q` of the worker in slot `x` (R601 places it in the peer region and names no
address; log entry 38). -/
opaque peerQueue : Nat → Nat → Nat

end Sys2Proof.Config
end

