-- ==== Sys2Proof/Machine/Store.lean ====
section
/-!
DEFINITION. The stores that State is made of: sparse maps by number, register fields and the register file
(R16–R19, R655–R660), and byte memory in its one canonical form.
-/

namespace Sys2Proof.Machine

/-! ## Sparse maps -/

/-- A sparse map from numbers, as data: entries in ascending key order. -/
abbrev NMap (α : Type) := List (Nat × α)

/-- The entry of `k`, or `d` where none is listed. -/
def NMap.get {α : Type} (d : α) : NMap α → Nat → α
  | [], _ => d
  | (j, v) :: t, k => if j = k then v else NMap.get d t k

/-- The entry of `k`, if listed. -/
def NMap.find {α : Type} : NMap α → Nat → Option α
  | [], _ => none
  | (j, v) :: t, k => if j = k then some v else NMap.find t k

/-- Set the entry of `k` to `v`. -/
def NMap.put {α : Type} : NMap α → Nat → α → NMap α
  | [], k, v => [(k, v)]
  | (j, w) :: t, k, v =>
    if j = k then (k, v) :: t
    else if k < j then (k, v) :: (j, w) :: t
    else (j, w) :: NMap.put t k v

/-- Drop the entry of `k`. -/
def NMap.del {α : Type} : NMap α → Nat → NMap α
  | [], _ => []
  | (j, w) :: t, k => if j = k then NMap.del t k else (j, w) :: NMap.del t k

/-! ## Numbers -/

/-- Read `n` as a two's-complement number of `w` bits. -/
def sgn (w n : Nat) : Int := if n % 2 ^ w < 2 ^ (w - 1) then ((n % 2 ^ w : Nat) : Int) else ((n % 2 ^ w : Nat) : Int) - 2 ^ w

/-- The `w`-bit two's-complement code of `x`. -/
def uns (w : Nat) (x : Int) : Nat := (x % (2 ^ w : Int)).toNat

/-- Bits `[lo + w - 1 : lo]` of `n`. -/
def bits (n lo w : Nat) : Nat := n / 2 ^ lo % 2 ^ w

/-- `x` held within `[lo, hi]`. -/
def clampI (lo hi x : Int) : Int := if x < lo then lo else if hi < x then hi else x

/-- Bit `i` of `n` set to `b`. -/
def withBit (n i : Nat) (b : Bool) : Nat := if b then n ||| 2 ^ i else if n.testBit i then n - 2 ^ i else n

/-! ## Register fields -/

/-- The access codes of R17. `strobe` is a W1S or RW request bit that holds no value of its own: writing 1 makes the
request and the bit reads zero; `int` marks a variable of the model that no register shows. -/
inductive Access where
  | rw | ro | w1c | w1s | wo | rc | rwl | shw | shf | shx | strobe | int
  deriving DecidableEq, Repr

/-- A register field: its block's number (the window number of R655), the byte offset of instance 0 of its register, its lowest bit and width (`REGISTER.FIELD` of R16), its
access code, whether it is sticky (R19), and its reset value for each instance. -/
structure Field where
  blk    : Nat
  off    : Nat
  lo     : Nat
  width  : Nat
  acc    : Access
  sticky : Bool
  rst    : Nat → Nat

/-- The field's number in the register file; odd for a sticky field. -/
def Field.id (f : Field) : Nat := ((f.blk * 65536 + f.off) * 256 + f.lo) * 2 + f.sticky.toNat

/-- Whether an access code is one of the shadowed classes. -/
def Access.shadowed : Access → Bool
  | .shw | .shf | .shx => true
  | _ => false

/-- The register file: every field that differs from its reset value, by field number and instance, in ascending order. -/
abbrev RegFile := List ((Nat × Nat) × Nat)

/-- The entry of a field number and instance, or `d`. -/
def RegFile.lookup (d : Nat) : RegFile → Nat → Nat → Nat
  | [], _, _ => d
  | ((a, b), v) :: t, x, i => if a = x ∧ b = i then v else RegFile.lookup d t x i

/-- Set the entry of a field number and instance. -/
def RegFile.put : RegFile → Nat → Nat → Nat → RegFile
  | [], x, i, v => [((x, i), v)]
  | ((a, b), w) :: t, x, i, v =>
    if a = x ∧ b = i then ((x, i), v) :: t
    else if x < a ∨ (x = a ∧ i < b) then ((x, i), v) :: ((a, b), w) :: t
    else ((a, b), w) :: RegFile.put t x i v

/-- Drop the entry of a field number and instance. -/
def RegFile.del : RegFile → Nat → Nat → RegFile
  | [], _, _ => []
  | ((a, b), w) :: t, x, i =>
    if a = x ∧ b = i then RegFile.del t x i else ((a, b), w) :: RegFile.del t x i

/-- The value of instance `i` of field `f`. -/
def RegFile.get (r : RegFile) (f : Field) (i : Nat) : Nat := RegFile.lookup (f.rst i % 2 ^ f.width) r f.id i

/-- Instance `i` of field `f` set to the low bits of `v`; a value equal to the reset value is not listed. -/
def RegFile.set (r : RegFile) (f : Field) (i v : Nat) : RegFile :=
  if v % 2 ^ f.width = f.rst i % 2 ^ f.width then RegFile.del r f.id i
  else RegFile.put r f.id i (v % 2 ^ f.width)

/-- The block of a field number. -/
def fieldBlk (x : Nat) : Nat := x / 33554432

/-- The register file with the fields that `p` names at their reset values. -/
def RegFile.drop (r : RegFile) (p : Nat → Bool) : RegFile := r.filter fun e => !p e.1.1

/-! ## Register layout -/

/-- How the instances of a register lie in its block's window. -/
inductive Layout where
  /-- `count` instances, `stride` bytes apart. -/
  | lin (count stride : Nat)
  /-- `outer` windows `ostride` bytes apart from `base`, with `count` instances `stride` bytes apart in each (R131, R137, R300). -/
  | nest (base outer ostride count stride : Nat)
  deriving DecidableEq, Repr

/-- A register: name, block, offset (R16, R663), layout, number of words, fields. -/
structure RegDesc where
  name   : String
  blk    : Nat
  off    : Nat
  lay    : Layout
  words  : Nat
  fields : List Field

/-- The instance and word of register `r` at byte offset `x` of the block's window. -/
def RegDesc.place (r : RegDesc) (x : Nat) : Option (Nat × Nat) :=
  match r.lay with
  | .lin count stride =>
    if r.off ≤ x ∧ (x - r.off) / stride < count ∧ (x - r.off) % stride < 4 * r.words then
      some ((x - r.off) / stride, (x - r.off) % stride / 4) else none
  | .nest base outer ostride count stride =>
    if base ≤ x ∧ (x - base) / ostride < outer ∧ r.off ≤ (x - base) % ostride
        ∧ ((x - base) % ostride - r.off) / stride < count
        ∧ ((x - base) % ostride - r.off) % stride < 4 * r.words then
      some ((x - base) / ostride * count + ((x - base) % ostride - r.off) / stride,
        ((x - base) % ostride - r.off) % stride / 4)
    else none

/-! ## Byte memory -/

/-- Memory in its one canonical form: addresses strictly rising, and no entry equal to 0x00, which is what an unlisted
address reads as (R410, R412: every store is filled with zero). -/
abbrev Memory := List (Nat × BitVec 8)

/-- Read one byte. -/
def Memory.read : Memory → Nat → BitVec 8
  | [], _ => 0
  | (j, v) :: t, k => if j = k then v else Memory.read t k

/-- Drop the entry of `k`. -/
def Memory.erase (m : Memory) (k : Nat) : Memory := m.filter fun e => e.1 ≠ k

/-- Insert in address order. -/
def Memory.insert : Memory → Nat → BitVec 8 → Memory
  | [], k, v => [(k, v)]
  | (j, w) :: t, k, v =>
    if k < j then (k, v) :: (j, w) :: t
    else if j = k then (k, v) :: t
    else (j, w) :: Memory.insert t k v

/-- Write one byte, keeping the canonical form. -/
def Memory.write (m : Memory) (k : Nat) (v : BitVec 8) : Memory :=
  if v = 0 then m.erase k else m.insert k v

/-- Write consecutive bytes from `k` on. -/
def Memory.writeList (m : Memory) (k : Nat) : List (BitVec 8) → Memory
  | [] => m
  | v :: t => Memory.writeList (m.write k v) (k + 1) t

/-- Read `n` consecutive bytes from `k` on. -/
def Memory.readList (m : Memory) (k : Nat) : Nat → List (BitVec 8)
  | 0 => []
  | n + 1 => m.read k :: Memory.readList m (k + 1) n

/-- Drop every byte that `p` names. -/
def Memory.clear (m : Memory) (p : Nat → Bool) : Memory := m.filter fun e => !p e.1

/-- The canonical form of a memory. -/
def Memory.wf : Memory → Bool
  | [] => true
  | [(_, v)] => v ≠ 0
  | (j, v) :: (k, w) :: t => v ≠ 0 && j < k && Memory.wf ((k, w) :: t)

end Sys2Proof.Machine
end

