-- ==== Sys2Proof/Machine/Catalogue.lean ====
section
/-!
DEFINITION. The registers of the FV4812: every field of every register table of the spec, with its place, access code,
stickiness and reset value, and the register table that the bus decodes (R655, R663).
A reset value that the spec prints as a dash or leaves out is 0 here unless a function below says otherwise (log entry 1).
-/

namespace Sys2Proof.Machine

/-- Default severity of source `n`, or none for a reserved number (R537). -/
def defSev (n : Nat) : Option Nat :=
  if n < 8 then [3, 1, 3, 3, 3, 1, 3, 1][n]?
  else if n < 12 then some 2
  else if n < 16 then some 1
  else if n < 24 then [1, 1, 1, 0, 1, 0, 1][n - 16]?
  else if n < 48 then [2, 2, 2, 2, 1, 1, 1, 2, 1, 1, 1, 1, 3, 1, 1, 3, 1, 1, 1][n - 24]?
  else if n < 96 then [2, 1, 1, 2, 2, 2, 2, 0, 1, 1, 1, 1][(n - 48) % 12]?
  else if n < 128 then [1, 0, 1, 2, 1, 1][(n - 96) % 8]?
  else if n < 160 then [1, 2, 2, 1, 2, 1, 2][(n - 128) % 8]?
  else if n < 192 then [1, 0, 1, 1, 1][(n - 160) % 8]?
  else if n < 196 then [1, 1][n - 192]?
  else if n < 208 then [1, 2, 1, 1, 1, 0, 1][n - 196]?
  else if n < 224 then [1, 1, 2, 1, 1, 1, 1, 2, 1, 1, 0, 1][n - 208]?
  else if n < 240 then [2, 2, 1, 1, 1, 0, 1, 0, 1, 1, 0, 1][n - 224]?
  else if n < 256 then [0, 1, 1, 2, 1, 0, 1, 1, 1, 3, 1, 1, 1, 1][n - 240]?
  else if n < 264 then [0, 0, 0, 1, 1][n - 256]?
  else if n < 272 then [1, 0, 1, 0, 1, 1, 1][n - 264]?
  else if n < 288 then [1, 1, 1, 1, 1, 0, 0][n - 272]?
  else if n < 304 then [1, 0, 1][n - 288]?
  else if n < 336 then [0, 1, 0, 1, 1, 0][n - 304]?
  else if n < 448 then [1, 1, 1, 1, 2, 2][n - 336]?
  else if n < 512 then some 0
  else none

/-- The locked sources (R539). -/
def lockedSource (n : Nat) : Bool := [0, 2, 6, 36, 39, 249].contains n

/-- Reset of `FLT_SEVn.SEV` (R537). -/
def rstSev (n : Nat) : Nat := (defSev n).getD 0
/-- Reset of `FLT_SEVn.LOCK` (R539). -/
def rstLock (n : Nat) : Nat := (lockedSource n).toNat
/-- Reset of `FLT_SEVn.AER` (R540). -/
def rstAer (n : Nat) : Nat := if 2 ≤ rstSev n then 1 else 0
/-- Reset of `FLT_SEVn.AEN` (R540). -/
def rstAen (n : Nat) : Nat := if 1 ≤ rstSev n then 1 else 0
/-- Reset of `FLT_SEVn.WAKE` (R540). -/
def rstWake (n : Nat) : Nat := if [0, 1, 208, 213].contains n then 1 else 0
/-- Reset of `FLT_SEVn.QCLASS` (R550). -/
def rstQclass (n : Nat) : Nat := match rstSev n with | 3 => 3 | 2 => 2 | _ => 0
/-- Reset of `FLT_SEVn.LIMIT` (R550; a reserved source reads 0, R537). -/
def rstLimit (n : Nat) : Nat := match defSev n with | some 3 => 3 | some 2 => 8 | some _ => 255 | none => 0
/-- Reset of `FLT_QUIETc.QUIET`, ms (R550). -/
def rstQuiet (c : Nat) : Nat := [1, 10, 100, 1000, 5000, 10000, 30000, 65535].getD c 0
/-- Reset of `FLT_QUIETc.WINDOW`, s (R550). -/
def rstWindow (c : Nat) : Nat := [1, 10, 60, 600, 3600, 3600, 3600, 3600].getD c 0
/-- Reset of `LPE_OUTCFGn.AGELIM` (R399). -/
def rstAgelim (n : Nat) : Nat := if n < 48 then 0x0600 else 0xFFFF
/-- Reset of `LPE_CGg.OUT` (R385: group 0 is the spindle torque group). -/
def rstCgOut (g : Nat) : Nat := if g = 0 then 53 else 0
/-- Reset of `LPE_CGg.NC − 1` (R385). -/
def rstCgNc (g : Nat) : Nat := if g = 0 then 3 else 0
/-- Reset of `LPE_CGg.EN` and SIGNEN (R320, R385; DEDUCED, log entry 1). -/
def rstCgEn (g : Nat) : Nat := if g = 0 then 1 else 0
/-- Reset of `LPE_CGg.OWNER`: the speed context (R385; its number DEDUCED, log entry 1). -/
def rstCgOwner (g : Nat) : Nat := if g = 0 then 53 else 0
/-- Reset of `ACD_MEMBERS` (R250). -/
def rstMembers (i : Nat) : Nat := if i = 0 then 0x00FFFFFF else 0

/-- `GLB_ID`, R1. -/
def GLB_ID : Field := ⟨0, 0x0000, 0, 32, .ro, false, fun _ => 0x4812⟩
/-- `GLB_STEP`, R1. -/
def GLB_STEP : Field := ⟨0, 0x0004, 0, 32, .ro, false, fun _ => 0xB1⟩
/-- `GLB_ROLE.ROLE`, R664. -/
def GLB_ROLE_ROLE : Field := ⟨0, 0x0010, 0, 2, .ro, false, fun _ => 0⟩
/-- `GLB_ROLE.STRAP`, R664. -/
def GLB_ROLE_STRAP : Field := ⟨0, 0x0010, 2, 1, .ro, false, fun _ => 0⟩
/-- `GLB_ROLE.MISMATCH`, R664. -/
def GLB_ROLE_MISMATCH : Field := ⟨0, 0x0010, 3, 1, .ro, false, fun _ => 0⟩
/-- `GLB_ROLE.LEVEL`, R664. -/
def GLB_ROLE_LEVEL : Field := ⟨0, 0x0010, 4, 2, .ro, false, fun _ => 0⟩
/-- `GLB_STRAP.ROLE`, R567. -/
def GLB_STRAP_ROLE : Field := ⟨0, 0x0014, 0, 1, .ro, false, fun _ => 0⟩
/-- `GLB_STRAP.BOOTCS`, R567. -/
def GLB_STRAP_BOOTCS : Field := ⟨0, 0x0014, 1, 1, .ro, false, fun _ => 0⟩
/-- `GLB_STRAP.RECOV`, R567. -/
def GLB_STRAP_RECOV : Field := ⟨0, 0x0014, 2, 1, .ro, false, fun _ => 0⟩
/-- `GLB_BOOT.PHASE`, R590. -/
def GLB_BOOT_PHASE : Field := ⟨0, 0x0018, 0, 4, .ro, false, fun _ => 0⟩
/-- `GLB_BOOT.CAUSE`, R590. -/
def GLB_BOOT_CAUSE : Field := ⟨0, 0x0018, 4, 4, .ro, false, fun _ => 0⟩
/-- `GLB_BOOT.SLOT`, R590. -/
def GLB_BOOT_SLOT : Field := ⟨0, 0x0018, 8, 2, .ro, false, fun _ => 0⟩
/-- `GLB_BOOT.CFGAREA`, R590. -/
def GLB_BOOT_CFGAREA : Field := ⟨0, 0x0018, 10, 1, .ro, false, fun _ => 0⟩
/-- `GLB_BOOT.CFGDONE`, R590. -/
def GLB_BOOT_CFGDONE : Field := ⟨0, 0x0018, 11, 1, .ro, false, fun _ => 0⟩
/-- `GLB_BOOT.COLD`, R590. -/
def GLB_BOOT_COLD : Field := ⟨0, 0x0018, 12, 1, .ro, false, fun _ => 0⟩
/-- `GLB_BOOT.UNSIGNED`, R590. -/
def GLB_BOOT_UNSIGNED : Field := ⟨0, 0x0018, 13, 1, .ro, false, fun _ => 0⟩
/-- `GLB_BOOT.RECOVERY`, R590. -/
def GLB_BOOT_RECOVERY : Field := ⟨0, 0x0018, 14, 1, .ro, false, fun _ => 0⟩
/-- `GLB_RSTCTL.WARM`, R590. -/
def GLB_RSTCTL_WARM : Field := ⟨0, 0x001C, 0, 1, .wo, false, fun _ => 0⟩
/-- `GLB_RSTCTL.COLD`, R590. -/
def GLB_RSTCTL_COLD : Field := ⟨0, 0x001C, 1, 1, .wo, false, fun _ => 0⟩
/-- `GLB_RSTCTL.KEY`, R590. -/
def GLB_RSTCTL_KEY : Field := ⟨0, 0x001C, 8, 8, .wo, false, fun _ => 0⟩
/-- `GLB_RSTCAUSE`, R590. -/
def GLB_RSTCAUSE : Field := ⟨0, 0x0020, 0, 6, .ro, true, fun _ => 0⟩
/-- `GLB_CFGDONE.GO`, R570. -/
def GLB_CFGDONE_GO : Field := ⟨0, 0x0024, 0, 1, .strobe, false, fun _ => 0⟩
/-- `GLB_FLACON_VER`, R590. -/
def GLB_FLACON_VER : Field := ⟨0, 0x0028, 0, 32, .ro, false, fun _ => 0⟩
/-- `GLB_CFG_SEQ`, R590. -/
def GLB_CFG_SEQ : Field := ⟨0, 0x002C, 0, 32, .ro, false, fun _ => 0⟩
/-- `GLB_NOR.CS0`, R590. -/
def GLB_NOR_CS0 : Field := ⟨0, 0x0030, 0, 1, .ro, false, fun _ => 0⟩
/-- `GLB_NOR.CS1`, R590. -/
def GLB_NOR_CS1 : Field := ⟨0, 0x0030, 1, 1, .ro, false, fun _ => 0⟩
/-- `GLB_NOR.SIZE0`, R590. -/
def GLB_NOR_SIZE0 : Field := ⟨0, 0x0030, 8, 8, .ro, false, fun _ => 0⟩
/-- `GLB_NOR.SIZE1`, R590. -/
def GLB_NOR_SIZE1 : Field := ⟨0, 0x0030, 16, 8, .ro, false, fun _ => 0⟩
/-- `GLB_BOOTTIME`, R569. -/
def GLB_BOOTTIME : Field := ⟨0, 0x0034, 0, 16, .ro, false, fun _ => 0⟩
/-- `GLB_WIRING.PLT0`, R590. -/
def GLB_WIRING_PLT0 : Field := ⟨0, 0x0038, 0, 1, .ro, true, fun _ => 0⟩
/-- `GLB_WIRING.PLT1`, R590. -/
def GLB_WIRING_PLT1 : Field := ⟨0, 0x0038, 1, 1, .ro, true, fun _ => 0⟩
/-- `GLB_WIRING.PHASE`, R590. -/
def GLB_WIRING_PHASE : Field := ⟨0, 0x0038, 2, 1, .ro, true, fun _ => 0⟩
/-- `GLB_WIRING.VCM`, R590. -/
def GLB_WIRING_VCM : Field := ⟨0, 0x0038, 3, 4, .ro, true, fun _ => 0⟩
/-- `GLB_WIRING.HLK`, R590. -/
def GLB_WIRING_HLK : Field := ⟨0, 0x0038, 7, 4, .ro, true, fun _ => 0⟩
/-- `GLB_WIRING.RDINV`, R590. -/
def GLB_WIRING_RDINV : Field := ⟨0, 0x0038, 12, 6, .ro, true, fun _ => 0⟩
/-- `GLB_WIRING.WRINV`, R590. -/
def GLB_WIRING_WRINV : Field := ⟨0, 0x0038, 18, 6, .ro, true, fun _ => 0⟩
/-- `GLB_WIRING.CALDONE`, R590. -/
def GLB_WIRING_CALDONE : Field := ⟨0, 0x0038, 31, 1, .ro, true, fun _ => 0⟩
/-- `GLB_SVN`, R574. -/
def GLB_SVN : Field := ⟨0, 0x003C, 0, 32, .ro, false, fun _ => 0⟩
/-- `ANG_SRC.SRC`, R50. -/
def ANG_SRC_SRC : Field := ⟨1, 0x0000, 0, 3, .ro, true, fun _ => 0⟩
/-- `ANG_SRC.REF`, R50. -/
def ANG_SRC_REF : Field := ⟨1, 0x0000, 3, 1, .ro, true, fun _ => 0⟩
/-- `ANG_SRC.DIR`, R50. -/
def ANG_SRC_DIR : Field := ⟨1, 0x0000, 4, 1, .ro, false, fun _ => 0⟩
/-- `ANG_SRC.PRECISE`, R50. -/
def ANG_SRC_PRECISE : Field := ⟨1, 0x0000, 5, 1, .ro, false, fun _ => 0⟩
/-- `ANG_SRC.SLEW`, R50. -/
def ANG_SRC_SLEW : Field := ⟨1, 0x0000, 6, 1, .ro, false, fun _ => 0⟩
/-- `ANG_SRC.STILL`, R50. -/
def ANG_SRC_STILL : Field := ⟨1, 0x0000, 7, 1, .ro, false, fun _ => 1⟩
/-- `ANG_SRC.VALID0`, R50. -/
def ANG_SRC_VALID0 : Field := ⟨1, 0x0000, 8, 1, .ro, false, fun _ => 0⟩
/-- `ANG_SRC.VALID1`, R50. -/
def ANG_SRC_VALID1 : Field := ⟨1, 0x0000, 9, 1, .ro, false, fun _ => 0⟩
/-- `ANG_SRC.CHANGES`, R50. -/
def ANG_SRC_CHANGES : Field := ⟨1, 0x0000, 16, 8, .ro, true, fun _ => 0⟩
/-- `ANG_SRCSEL.EN0`, R50. -/
def ANG_SRCSEL_EN0 : Field := ⟨1, 0x0004, 0, 1, .shx, true, fun _ => 1⟩
/-- `ANG_SRCSEL.EN1`, R50. -/
def ANG_SRCSEL_EN1 : Field := ⟨1, 0x0004, 1, 1, .shx, true, fun _ => 0⟩
/-- `ANG_SRCSEL.DUAL_EN`, R50. -/
def ANG_SRCSEL_DUAL_EN : Field := ⟨1, 0x0004, 2, 1, .shx, true, fun _ => 0⟩
/-- `ANG_SRCSEL.OBS_EN`, R50. -/
def ANG_SRCSEL_OBS_EN : Field := ⟨1, 0x0004, 3, 1, .shx, true, fun _ => 1⟩
/-- `ANG_COMMIT.COMMIT`, R59. -/
def ANG_COMMIT_COMMIT : Field := ⟨1, 0x0008, 0, 8, .strobe, false, fun _ => 0⟩
/-- `ANG_COMMIT.CANCEL`, R59. -/
def ANG_COMMIT_CANCEL : Field := ⟨1, 0x0008, 8, 8, .strobe, false, fun _ => 0⟩
/-- `ANG_CMT_STS.PENDING`, R59. -/
def ANG_CMT_STS_PENDING : Field := ⟨1, 0x000C, 0, 8, .ro, false, fun _ => 0⟩
/-- `ANG_CMT_STS.DONE`, R59. -/
def ANG_CMT_STS_DONE : Field := ⟨1, 0x000C, 8, 8, .w1c, false, fun _ => 0⟩
/-- `ANG_CMT_STS.REJECT`, R59. -/
def ANG_CMT_STS_REJECT : Field := ⟨1, 0x000C, 16, 8, .w1c, false, fun _ => 0⟩
/-- `ANG_CMT_STS.DROP`, R59. -/
def ANG_CMT_STS_DROP : Field := ⟨1, 0x000C, 24, 8, .w1c, false, fun _ => 0⟩
/-- `ANG_STAMP_LO`, R41. -/
def ANG_STAMP_LO : Field := ⟨1, 0x0010, 0, 32, .ro, true, fun _ => 0⟩
/-- `ANG_STAMP_HI`, R41. -/
def ANG_STAMP_HI : Field := ⟨1, 0x0014, 0, 32, .ro, true, fun _ => 0⟩
/-- `ANG_RATE`, R50. -/
def ANG_RATE : Field := ⟨1, 0x0018, 0, 32, .ro, false, fun _ => 0⟩
/-- `ANG_PERIOD`, R50. -/
def ANG_PERIOD : Field := ⟨1, 0x001C, 0, 32, .ro, false, fun _ => 0⟩
/-- `ANG_PLT_CFG.SWAP`, R50. -/
def ANG_PLT_CFG_SWAP : Field := ⟨1, 0x0020, 0, 1, .shx, true, fun _ => 0⟩
/-- `ANG_PLT_CFG.INV_S`, R50. -/
def ANG_PLT_CFG_INV_S : Field := ⟨1, 0x0020, 1, 1, .shx, true, fun _ => 0⟩
/-- `ANG_PLT_CFG.INV_C`, R50. -/
def ANG_PLT_CFG_INV_C : Field := ⟨1, 0x0020, 2, 1, .shx, true, fun _ => 0⟩
/-- `ANG_PLT_CFG.AMP_NOM`, R50. -/
def ANG_PLT_CFG_AMP_NOM : Field := ⟨1, 0x0020, 16, 12, .shx, true, fun _ => 0x600⟩
/-- `ANG_PLT1_OFS`, R50. -/
def ANG_PLT1_OFS : Field := ⟨1, 0x0028, 0, 22, .shx, true, fun _ => 0⟩
/-- `ANG_AMP_LIM.LO`, R50. -/
def ANG_AMP_LIM_LO : Field := ⟨1, 0x002C, 0, 8, .shx, true, fun _ => 0x32⟩
/-- `ANG_AMP_LIM.HI`, R50. -/
def ANG_AMP_LIM_HI : Field := ⟨1, 0x002C, 8, 8, .shx, true, fun _ => 0x96⟩
/-- `ANG_DIS_LIM`, R50. -/
def ANG_DIS_LIM : Field := ⟨1, 0x0030, 0, 16, .shx, true, fun _ => 0x1000⟩
/-- `ANG_ECC`, R50. -/
def ANG_ECC : Field := ⟨1, 0x0034, 0, 16, .shx, true, fun _ => 0⟩
/-- `ANG_PLT_AMP.PLT0`, R50. -/
def ANG_PLT_AMP_PLT0 : Field := ⟨1, 0x0044, 0, 12, .ro, false, fun _ => 0⟩
/-- `ANG_PLT_AMP.PLT1`, R50. -/
def ANG_PLT_AMP_PLT1 : Field := ⟨1, 0x0044, 16, 12, .ro, false, fun _ => 0⟩
/-- `ANG_PLT_TRIM.SOFS`, R50. -/
def ANG_PLT_TRIM_SOFS : Field := ⟨1, 0x0048, 0, 8, .ro, true, fun _ => 0⟩
/-- `ANG_PLT_TRIM.COFS`, R50. -/
def ANG_PLT_TRIM_COFS : Field := ⟨1, 0x0048, 8, 8, .ro, true, fun _ => 0⟩
/-- `ANG_PLT_TRIM.GAIN`, R50. -/
def ANG_PLT_TRIM_GAIN : Field := ⟨1, 0x0048, 16, 8, .ro, true, fun _ => 0⟩
/-- `ANG_PLT_TRIM.QUAD`, R50. -/
def ANG_PLT_TRIM_QUAD : Field := ⟨1, 0x0048, 24, 8, .ro, true, fun _ => 0⟩
/-- `ANG_ECC1`, R50. -/
def ANG_ECC1 : Field := ⟨1, 0x0050, 0, 16, .shx, true, fun _ => 0⟩
/-- `ANG_CMP.TARGET`, R50. -/
def ANG_CMP_TARGET : Field := ⟨1, 0x1000, 0, 64, .rw, false, fun _ => 0⟩
/-- `ANG_CMP.EN`, R50. -/
def ANG_CMP_EN : Field := ⟨1, 0x1000, 64, 1, .rw, false, fun _ => 0⟩
/-- `ANG_CMP.PERIODIC`, R50. -/
def ANG_CMP_PERIODIC : Field := ⟨1, 0x1000, 65, 1, .rw, false, fun _ => 0⟩
/-- `ANG_CMP.ACTION`, R50. -/
def ANG_CMP_ACTION : Field := ⟨1, 0x1000, 66, 2, .rw, false, fun _ => 0⟩
/-- `ANG_CMP.CTX`, R50. -/
def ANG_CMP_CTX : Field := ⟨1, 0x1000, 68, 6, .rw, false, fun _ => 0⟩
/-- `ANG_CMP.INTERVAL`, R50. -/
def ANG_CMP_INTERVAL : Field := ⟨1, 0x1000, 74, 22, .rw, false, fun _ => 0⟩
/-- `ANG_CMP.FIRED`, R50. -/
def ANG_CMP_FIRED : Field := ⟨1, 0x1000, 96, 1, .w1c, false, fun _ => 0⟩
/-- `ANG_CMP.LATE`, R50. -/
def ANG_CMP_LATE : Field := ⟨1, 0x1000, 97, 1, .w1c, false, fun _ => 0⟩
/-- `ANG_CMP.ARMERR`, R50. -/
def ANG_CMP_ARMERR : Field := ⟨1, 0x1000, 98, 1, .w1c, false, fun _ => 0⟩
/-- `ANG_CMP.COUNT`, R50. -/
def ANG_CMP_COUNT : Field := ⟨1, 0x1000, 104, 8, .ro, false, fun _ => 0⟩
/-- `SPN_CTL.START`, R359. -/
def SPN_CTL_START : Field := ⟨2, 0x0000, 0, 1, .strobe, false, fun _ => 0⟩
/-- `SPN_CTL.STOP`, R359. -/
def SPN_CTL_STOP : Field := ⟨2, 0x0000, 1, 1, .strobe, false, fun _ => 0⟩
/-- `SPN_CTL.DRYDOWN`, R359. -/
def SPN_CTL_DRYDOWN : Field := ⟨2, 0x0000, 2, 1, .strobe, false, fun _ => 0⟩
/-- `SPN_CTL.PARK`, R359. -/
def SPN_CTL_PARK : Field := ⟨2, 0x0000, 3, 1, .strobe, false, fun _ => 0⟩
/-- `SPN_CTL.PSUSP_CLR`, R359. -/
def SPN_CTL_PSUSP_CLR : Field := ⟨2, 0x0000, 4, 1, .strobe, false, fun _ => 0⟩
/-- `SPN_CTL.CAL`, R359. -/
def SPN_CTL_CAL : Field := ⟨2, 0x0000, 5, 1, .strobe, false, fun _ => 0⟩
/-- `SPN_CTL.AUTOSTART`, R359. -/
def SPN_CTL_AUTOSTART : Field := ⟨2, 0x0000, 6, 1, .rw, false, fun _ => 0⟩
/-- `SPN_STATE.STATE`, R359. -/
def SPN_STATE_STATE : Field := ⟨2, 0x0004, 0, 4, .ro, false, fun _ => 0⟩
/-- `SPN_STATE.LOADOK`, R359. -/
def SPN_STATE_LOADOK : Field := ⟨2, 0x0004, 4, 1, .ro, false, fun _ => 0⟩
/-- `SPN_STATE.OBSLOCK`, R359. -/
def SPN_STATE_OBSLOCK : Field := ⟨2, 0x0004, 5, 1, .ro, false, fun _ => 0⟩
/-- `SPN_STATE.PSUSP`, R359. -/
def SPN_STATE_PSUSP : Field := ⟨2, 0x0004, 6, 1, .ro, true, fun _ => 0⟩
/-- `SPN_STATE.PLOCK`, R359. -/
def SPN_STATE_PLOCK : Field := ⟨2, 0x0004, 7, 1, .ro, false, fun _ => 0⟩
/-- `SPN_STATE.REFLOST`, R359. -/
def SPN_STATE_REFLOST : Field := ⟨2, 0x0004, 8, 1, .ro, false, fun _ => 0⟩
/-- `SPN_STATE.LIMITER`, R359. -/
def SPN_STATE_LIMITER : Field := ⟨2, 0x0004, 9, 2, .ro, false, fun _ => 0⟩
/-- `SPN_STATE.DRYPEND`, R359. -/
def SPN_STATE_DRYPEND : Field := ⟨2, 0x0004, 11, 1, .ro, false, fun _ => 0⟩
/-- `SPN_STATE.SWAP_LEARNED`, R359. -/
def SPN_STATE_SWAP_LEARNED : Field := ⟨2, 0x0004, 12, 1, .ro, true, fun _ => 0⟩
/-- `SPN_STATE.CAL_DONE`, R359. -/
def SPN_STATE_CAL_DONE : Field := ⟨2, 0x0004, 13, 1, .ro, true, fun _ => 0⟩
/-- `SPN_STATE.LASTGASP`, R359. -/
def SPN_STATE_LASTGASP : Field := ⟨2, 0x0004, 14, 1, .ro, false, fun _ => 0⟩
/-- `SPN_STATE.FAULTLOCK`, R359. -/
def SPN_STATE_FAULTLOCK : Field := ⟨2, 0x0004, 15, 1, .ro, true, fun _ => 0⟩
/-- `SPN_STATE.REACQ`, R359. -/
def SPN_STATE_REACQ : Field := ⟨2, 0x0004, 16, 4, .ro, false, fun _ => 0⟩
/-- `SPN_COMMIT.COMMIT`, R59. -/
def SPN_COMMIT_COMMIT : Field := ⟨2, 0x0008, 0, 8, .strobe, false, fun _ => 0⟩
/-- `SPN_COMMIT.CANCEL`, R59. -/
def SPN_COMMIT_CANCEL : Field := ⟨2, 0x0008, 8, 8, .strobe, false, fun _ => 0⟩
/-- `SPN_CMT_STS.PENDING`, R59. -/
def SPN_CMT_STS_PENDING : Field := ⟨2, 0x000C, 0, 8, .ro, false, fun _ => 0⟩
/-- `SPN_CMT_STS.DONE`, R59. -/
def SPN_CMT_STS_DONE : Field := ⟨2, 0x000C, 8, 8, .w1c, false, fun _ => 0⟩
/-- `SPN_CMT_STS.REJECT`, R59. -/
def SPN_CMT_STS_REJECT : Field := ⟨2, 0x000C, 16, 8, .w1c, false, fun _ => 0⟩
/-- `SPN_CMT_STS.DROP`, R59. -/
def SPN_CMT_STS_DROP : Field := ⟨2, 0x000C, 24, 8, .w1c, false, fun _ => 0⟩
/-- `SPN_SETPT.TARGET`, R359. -/
def SPN_SETPT_TARGET : Field := ⟨2, 0x0010, 0, 16, .rw, false, fun _ => 0x1518⟩
/-- `SPN_RAMP.AMAX`, R359. -/
def SPN_RAMP_AMAX : Field := ⟨2, 0x0014, 0, 16, .shx, false, fun _ => 0x190⟩
/-- `SPN_RAMP.JMAX`, R359. -/
def SPN_RAMP_JMAX : Field := ⟨2, 0x0014, 16, 16, .shx, false, fun _ => 0xC8⟩
/-- `SPN_REFMODE.MODE`, R359. -/
def SPN_REFMODE_MODE : Field := ⟨2, 0x0018, 0, 3, .shx, false, fun _ => 0⟩
/-- `SPN_REFCFG.PPR`, R359. -/
def SPN_REFCFG_PPR : Field := ⟨2, 0x001C, 0, 6, .shx, false, fun _ => 0⟩
/-- `SPN_REFCFG.PTRIM`, R359. -/
def SPN_REFCFG_PTRIM : Field := ⟨2, 0x001C, 8, 8, .shx, false, fun _ => 0x32⟩
/-- `SPN_REFCFG.PLOCK`, R359. -/
def SPN_REFCFG_PLOCK : Field := ⟨2, 0x001C, 16, 16, .shx, false, fun _ => 0x800⟩
/-- `SPN_REFCFG2.FULL`, R359. -/
def SPN_REFCFG2_FULL : Field := ⟨2, 0x0020, 0, 16, .shx, false, fun _ => 0x1C20⟩
/-- `SPN_REFCFG2.PHASE`, R359. -/
def SPN_REFCFG2_PHASE : Field := ⟨2, 0x0020, 16, 16, .shx, false, fun _ => 0⟩
/-- `SPN_TOKENS.GRANT`, R359. -/
def SPN_TOKENS_GRANT : Field := ⟨2, 0x0024, 0, 8, .rw, false, fun _ => 0⟩
/-- `SPN_TOKENS.USED`, R359. -/
def SPN_TOKENS_USED : Field := ⟨2, 0x0024, 8, 8, .ro, false, fun _ => 0⟩
/-- `SPN_MOTOR.PP`, R359. -/
def SPN_MOTOR_PP : Field := ⟨2, 0x0028, 0, 4, .shx, false, fun _ => 4⟩
/-- `SPN_MOTOR.SWAP`, R359. -/
def SPN_MOTOR_SWAP : Field := ⟨2, 0x0028, 4, 1, .shx, false, fun _ => 0⟩
/-- `SPN_MOTOR.RS`, R359. -/
def SPN_MOTOR_RS : Field := ⟨2, 0x0028, 8, 12, .shx, false, fun _ => 0x5DC⟩
/-- `SPN_MOTOR.KE`, R359. -/
def SPN_MOTOR_KE : Field := ⟨2, 0x0028, 20, 12, .shx, false, fun _ => 0x64⟩
/-- `SPN_MOTOR2.LS`, R359. -/
def SPN_MOTOR2_LS : Field := ⟨2, 0x002C, 0, 16, .shx, false, fun _ => 0x1388⟩
/-- `SPN_PWM.DEAD`, R359. -/
def SPN_PWM_DEAD : Field := ⟨2, 0x0030, 0, 8, .shx, false, fun _ => 0x0A⟩
/-- `SPN_PWM.TMINP`, R359. -/
def SPN_PWM_TMINP : Field := ⟨2, 0x0030, 8, 8, .shx, false, fun _ => 0x14⟩
/-- `SPN_PWM.VMAXMOD`, R359. -/
def SPN_PWM_VMAXMOD : Field := ⟨2, 0x0030, 16, 8, .shx, false, fun _ => 0xF5⟩
/-- `SPN_SHUNT.RSH`, R359. -/
def SPN_SHUNT_RSH : Field := ⟨2, 0x0034, 0, 16, .shx, false, fun _ => 0x2710⟩
/-- `SPN_SHUNT.TSET`, R359. -/
def SPN_SHUNT_TSET : Field := ⟨2, 0x0034, 16, 8, .shx, false, fun _ => 0x32⟩
/-- `SPN_SHUNT.IOC`, R359. -/
def SPN_SHUNT_IOC : Field := ⟨2, 0x0034, 24, 8, .shx, false, fun _ => 0xE0⟩
/-- `SPN_OBS.BW`, R359. -/
def SPN_OBS_BW : Field := ⟨2, 0x0038, 0, 8, .shx, false, fun _ => 0x64⟩
/-- `SPN_OBS.VMIN`, R359. -/
def SPN_OBS_VMIN : Field := ⟨2, 0x0038, 8, 8, .shx, false, fun _ => 0x1E⟩
/-- `SPN_OBS.LOSSLIM`, R359. -/
def SPN_OBS_LOSSLIM : Field := ⟨2, 0x0038, 16, 8, .shx, false, fun _ => 0x2D⟩
/-- `SPN_HAND.AGREE`, R359. -/
def SPN_HAND_AGREE : Field := ⟨2, 0x003C, 0, 8, .shx, false, fun _ => 0x50⟩
/-- `SPN_HAND.NAGREE`, R359. -/
def SPN_HAND_NAGREE : Field := ⟨2, 0x003C, 8, 8, .shx, false, fun _ => 0x40⟩
/-- `SPN_HAND.SLEW`, R359. -/
def SPN_HAND_SLEW : Field := ⟨2, 0x003C, 16, 8, .shx, false, fun _ => 0x20⟩
/-- `SPN_HAND.SUSPT`, R359. -/
def SPN_HAND_SUSPT : Field := ⟨2, 0x003C, 24, 8, .shx, false, fun _ => 0x14⟩
/-- `SPN_EOFS`, R359. -/
def SPN_EOFS : Field := ⟨2, 0x0040, 0, 22, .shx, false, fun _ => 0⟩
/-- `SPN_ALIGN.IALIGN`, R359. -/
def SPN_ALIGN_IALIGN : Field := ⟨2, 0x0044, 0, 8, .shx, false, fun _ => 0x20⟩
/-- `SPN_ALIGN.TALIGN`, R359. -/
def SPN_ALIGN_TALIGN : Field := ⟨2, 0x0044, 8, 8, .shx, false, fun _ => 0x1E⟩
/-- `SPN_OPEN.IOPEN`, R359. -/
def SPN_OPEN_IOPEN : Field := ⟨2, 0x0048, 0, 8, .shx, false, fun _ => 0x30⟩
/-- `SPN_OPEN.OACC`, R359. -/
def SPN_OPEN_OACC : Field := ⟨2, 0x0048, 8, 8, .shx, false, fun _ => 0x14⟩
/-- `SPN_OPEN.VHAND`, R359. -/
def SPN_OPEN_VHAND : Field := ⟨2, 0x0048, 16, 8, .shx, false, fun _ => 0x28⟩
/-- `SPN_OPEN.TOPEN`, R359. -/
def SPN_OPEN_TOPEN : Field := ⟨2, 0x0048, 24, 8, .shx, false, fun _ => 0x32⟩
/-- `SPN_BRAKE.IMAX`, R359. -/
def SPN_BRAKE_IMAX : Field := ⟨2, 0x004C, 0, 8, .shx, false, fun _ => 0x20⟩
/-- `SPN_BRAKE.TMAX`, R359. -/
def SPN_BRAKE_TMAX : Field := ⟨2, 0x004C, 8, 8, .shx, false, fun _ => 0x64⟩
/-- `SPN_BRAKE.TSENSE`, R359. -/
def SPN_BRAKE_TSENSE : Field := ⟨2, 0x004C, 16, 8, .shx, false, fun _ => 0x1E⟩
/-- `SPN_BRAKE.VCATCH`, R359. -/
def SPN_BRAKE_VCATCH : Field := ⟨2, 0x004C, 24, 8, .shx, false, fun _ => 0x1E⟩
/-- `SPN_CATCH.TRAMP`, R359. -/
def SPN_CATCH_TRAMP : Field := ⟨2, 0x0050, 0, 8, .shx, false, fun _ => 0x14⟩
/-- `SPN_CATCH.NREACQ`, R359. -/
def SPN_CATCH_NREACQ : Field := ⟨2, 0x0050, 8, 8, .shx, false, fun _ => 0x03⟩
/-- `SPN_CATCH.TWIN`, R359. -/
def SPN_CATCH_TWIN : Field := ⟨2, 0x0050, 16, 8, .shx, false, fun _ => 0x0A⟩
/-- `SPN_CATCH.VRET`, R359. -/
def SPN_CATCH_VRET : Field := ⟨2, 0x0050, 24, 8, .shx, false, fun _ => 0x50⟩
/-- `SPN_LIMIT.ILIM`, R359. -/
def SPN_LIMIT_ILIM : Field := ⟨2, 0x0054, 0, 8, .shx, false, fun _ => 0x28⟩
/-- `SPN_LIMIT.TLIM`, R359. -/
def SPN_LIMIT_TLIM : Field := ⟨2, 0x0054, 8, 8, .shx, false, fun _ => 0x78⟩
/-- `SPN_LIMIT.TDRY`, R359. -/
def SPN_LIMIT_TDRY : Field := ⟨2, 0x0054, 16, 16, .shx, false, fun _ => 0x64⟩
/-- `SPN_LG.VHOLD`, R359. -/
def SPN_LG_VHOLD : Field := ⟨2, 0x0058, 0, 8, .shx, false, fun _ => 0x5A⟩
/-- `SPN_LG.VMINPCT`, R359. -/
def SPN_LG_VMINPCT : Field := ⟨2, 0x0058, 8, 8, .shx, false, fun _ => 0x19⟩
/-- `SPN_LG.UV`, R359. -/
def SPN_LG_UV : Field := ⟨2, 0x0058, 16, 8, .shx, false, fun _ => 0x64⟩
/-- `SPN_VBUS.OV`, R359. -/
def SPN_VBUS_OV : Field := ⟨2, 0x005C, 0, 8, .shx, false, fun _ => 0x8C⟩
/-- `SPN_VBUS.DIV`, R359. -/
def SPN_VBUS_DIV : Field := ⟨2, 0x005C, 8, 8, .shx, false, fun _ => 0x10⟩
/-- `SPN_PADV`, R359. -/
def SPN_PADV : Field := ⟨2, 0x0080, 0, 12, .shx, false, fun _ => 0⟩
/-- `SPN_SPEED`, R359. -/
def SPN_SPEED : Field := ⟨2, 0x0100, 0, 20, .ro, false, fun _ => 0⟩
/-- `SPN_RAMPV`, R359. -/
def SPN_RAMPV : Field := ⟨2, 0x0104, 0, 20, .ro, false, fun _ => 0⟩
/-- `SPN_IDQ.ID`, R359. -/
def SPN_IDQ_ID : Field := ⟨2, 0x0108, 0, 16, .ro, false, fun _ => 0⟩
/-- `SPN_IDQ.IQ`, R359. -/
def SPN_IDQ_IQ : Field := ⟨2, 0x0108, 16, 16, .ro, false, fun _ => 0⟩
/-- `SPN_BUS.VBUS`, R359. -/
def SPN_BUS_VBUS : Field := ⟨2, 0x010C, 0, 16, .ro, false, fun _ => 0⟩
/-- `SPN_BUS.IBUS`, R359. -/
def SPN_BUS_IBUS : Field := ⟨2, 0x010C, 16, 16, .ro, false, fun _ => 0⟩
/-- `SPN_PWR`, R359. -/
def SPN_PWR : Field := ⟨2, 0x0110, 0, 16, .ro, false, fun _ => 0⟩
/-- `SPN_TEMP.TEMP`, R359. -/
def SPN_TEMP_TEMP : Field := ⟨2, 0x0114, 0, 8, .ro, false, fun _ => 0⟩
/-- `SPN_TEMP.REST`, R359. -/
def SPN_TEMP_REST : Field := ⟨2, 0x0114, 8, 16, .ro, false, fun _ => 0⟩
/-- `SPN_CNT.COASTS`, R359. -/
def SPN_CNT_COASTS : Field := ⟨2, 0x0118, 0, 8, .ro, true, fun _ => 0⟩
/-- `SPN_CNT.CATCHES`, R359. -/
def SPN_CNT_CATCHES : Field := ⟨2, 0x0118, 8, 8, .ro, true, fun _ => 0⟩
/-- `SPN_CNT.OVERCUR`, R359. -/
def SPN_CNT_OVERCUR : Field := ⟨2, 0x0118, 16, 8, .ro, true, fun _ => 0⟩
/-- `SPN_CNT.STARTS`, R359. -/
def SPN_CNT_STARTS : Field := ⟨2, 0x0118, 24, 8, .ro, true, fun _ => 0⟩
/-- `SRV_FRAME.SBIT`, R300. -/
def SRV_FRAME_SBIT : Field := ⟨3, 0x0010, 0, 2, .rwl, false, fun _ => 2⟩
/-- `SRV_FRAME.SSMWIN`, R300. -/
def SRV_FRAME_SSMWIN : Field := ⟨3, 0x0010, 2, 4, .rwl, false, fun _ => 4⟩
/-- `SRV_FRAME.SSMTHR`, R300. -/
def SRV_FRAME_SSMTHR : Field := ⟨3, 0x0010, 6, 4, .rwl, false, fun _ => 2⟩
/-- `SRV_FRAME.SSMWIDE`, R300. -/
def SRV_FRAME_SSMWIDE : Field := ⟨3, 0x0010, 10, 6, .rwl, false, fun _ => 0x10⟩
/-- `SRV_FRAME.LIN`, R300. -/
def SRV_FRAME_LIN : Field := ⟨3, 0x0010, 16, 8, .rwl, false, fun _ => 0x80⟩
/-- `SRV_FRAME.TRKWIN`, R300. -/
def SRV_FRAME_TRKWIN : Field := ⟨3, 0x0010, 24, 4, .rwl, false, fun _ => 4⟩
/-- `SRV_FRAME.VSHIFT`, R300. -/
def SRV_FRAME_VSHIFT : Field := ⟨3, 0x0010, 28, 4, .rwl, false, fun _ => 4⟩
/-- `SRV_SSMPAT`, R300. -/
def SRV_SSMPAT : Field := ⟨3, 0x0014, 0, 16, .rwl, false, fun _ => 0xB8E5⟩
/-- `SRV_BAD.BMIN`, R300. -/
def SRV_BAD_BMIN : Field := ⟨3, 0x0018, 0, 8, .rwl, false, fun _ => 0x32⟩
/-- `SRV_BAD.BADLIM`, R300. -/
def SRV_BAD_BADLIM : Field := ⟨3, 0x0018, 8, 8, .rwl, false, fun _ => 6⟩
/-- `SRV_BAD.ALOST`, R300. -/
def SRV_BAD_ALOST : Field := ⟨3, 0x0018, 16, 16, .rwl, false, fun _ => 0x40⟩
/-- `SRV_RET_CFG.IRET`, R300. -/
def SRV_RET_CFG_IRET : Field := ⟨3, 0x0020, 0, 8, .rwl, true, fun _ => 0x14⟩
/-- `SRV_RET_CFG.IPARK`, R300. -/
def SRV_RET_CFG_IPARK : Field := ⟨3, 0x0020, 8, 8, .rwl, true, fun _ => 0x33⟩
/-- `SRV_RET_CFG.ILOAD`, R300. -/
def SRV_RET_CFG_ILOAD : Field := ⟨3, 0x0020, 16, 8, .rwl, true, fun _ => 0x0C⟩
/-- `SRV_RET_CFG.TRET1`, R300. -/
def SRV_RET_CFG_TRET1 : Field := ⟨3, 0x0020, 24, 5, .rwl, true, fun _ => 0x0F⟩
/-- `SRV_RET_CFG.TRET2`, R300. -/
def SRV_RET_CFG_TRET2 : Field := ⟨3, 0x0020, 29, 3, .rwl, true, fun _ => 3⟩
/-- `SRV_RET_STS.ENGAGED`, R300. -/
def SRV_RET_STS_ENGAGED : Field := ⟨3, 0x0024, 0, 4, .ro, true, fun _ => 0⟩
/-- `SRV_RET_STS.PARKED`, R300. -/
def SRV_RET_STS_PARKED : Field := ⟨3, 0x0024, 4, 4, .ro, true, fun _ => 0xF⟩
/-- `SRV_RET_STS.RETRACTS`, R300. -/
def SRV_RET_STS_RETRACTS : Field := ⟨3, 0x0024, 8, 8, .ro, true, fun _ => 0⟩
/-- `SRV_CTL.REQ`, R300. -/
def SRV_CTL_REQ : Field := ⟨3, 0x2000, 0, 2, .rw, false, fun _ => 0⟩
/-- `SRV_CTL.RETRACT`, R300. -/
def SRV_CTL_RETRACT : Field := ⟨3, 0x2000, 2, 1, .strobe, false, fun _ => 0⟩
/-- `SRV_CTL.LTRK`, R300. -/
def SRV_CTL_LTRK : Field := ⟨3, 0x2000, 8, 24, .rw, false, fun _ => 0x1800⟩
/-- `SRV_STS.STATE`, R300. -/
def SRV_STS_STATE : Field := ⟨3, 0x2004, 0, 3, .ro, false, fun _ => 0⟩
/-- `SRV_STS.INV_LEARNED`, R300. -/
def SRV_STS_INV_LEARNED : Field := ⟨3, 0x2004, 3, 1, .ro, true, fun _ => 0⟩
/-- `SRV_STS.RVLOCK`, R300. -/
def SRV_STS_RVLOCK : Field := ⟨3, 0x2004, 4, 1, .ro, false, fun _ => 0⟩
/-- `SRV_STS.BLEND`, R300. -/
def SRV_STS_BLEND : Field := ⟨3, 0x2004, 5, 1, .ro, false, fun _ => 0⟩
/-- `SRV_STS.ENGAGED`, R300. -/
def SRV_STS_ENGAGED : Field := ⟨3, 0x2004, 6, 12, .ro, false, fun _ => 0⟩
/-- `SRV_STS.LOST`, R300. -/
def SRV_STS_LOST : Field := ⟨3, 0x2004, 18, 12, .ro, false, fun _ => 0⟩
/-- `SRV_COMMIT.COMMIT`, R59. -/
def SRV_COMMIT_COMMIT : Field := ⟨3, 0x2008, 0, 8, .strobe, false, fun _ => 0⟩
/-- `SRV_COMMIT.CANCEL`, R59. -/
def SRV_COMMIT_CANCEL : Field := ⟨3, 0x2008, 8, 8, .strobe, false, fun _ => 0⟩
/-- `SRV_CMT_STS.PENDING`, R59. -/
def SRV_CMT_STS_PENDING : Field := ⟨3, 0x200C, 0, 8, .ro, false, fun _ => 0⟩
/-- `SRV_CMT_STS.DONE`, R59. -/
def SRV_CMT_STS_DONE : Field := ⟨3, 0x200C, 8, 8, .w1c, false, fun _ => 0⟩
/-- `SRV_CMT_STS.REJECT`, R59. -/
def SRV_CMT_STS_REJECT : Field := ⟨3, 0x200C, 16, 8, .w1c, false, fun _ => 0⟩
/-- `SRV_CMT_STS.DROP`, R59. -/
def SRV_CMT_STS_DROP : Field := ⟨3, 0x200C, 24, 8, .w1c, false, fun _ => 0⟩
/-- `SRV_VCMCFG.INV`, R300. -/
def SRV_VCMCFG_INV : Field := ⟨3, 0x2010, 0, 1, .shw, true, fun _ => 0⟩
/-- `SRV_VCMCFG.EN`, R300. -/
def SRV_VCMCFG_EN : Field := ⟨3, 0x2010, 1, 1, .shw, false, fun _ => 1⟩
/-- `SRV_VCMLIM.OC`, R300. -/
def SRV_VCMLIM_OC : Field := ⟨3, 0x2014, 0, 16, .shw, false, fun _ => 0x7000⟩
/-- `SRV_SEEK.VMAX`, R300. -/
def SRV_SEEK_VMAX : Field := ⟨3, 0x2020, 0, 13, .shw, false, fun _ => 0x1000⟩
/-- `SRV_SEEK.AMAX`, R300. -/
def SRV_SEEK_AMAX : Field := ⟨3, 0x2020, 16, 4, .shw, false, fun _ => 8⟩
/-- `SRV_SEEK.JMAX`, R300. -/
def SRV_SEEK_JMAX : Field := ⟨3, 0x2020, 20, 8, .shw, false, fun _ => 0x10⟩
/-- `SRV_MSEEK.MVMAX`, R300. -/
def SRV_MSEEK_MVMAX : Field := ⟨3, 0x2024, 0, 8, .shw, false, fun _ => 4⟩
/-- `SRV_MSEEK.MAMAX`, R300. -/
def SRV_MSEEK_MAMAX : Field := ⟨3, 0x2024, 8, 8, .shw, false, fun _ => 8⟩
/-- `SRV_MSEEK.TMO`, R300. -/
def SRV_MSEEK_TMO : Field := ⟨3, 0x2024, 16, 16, .shw, false, fun _ => 0x200⟩
/-- `SRV_HAND.DIST`, R300. -/
def SRV_HAND_DIST : Field := ⟨3, 0x2028, 0, 8, .shw, false, fun _ => 8⟩
/-- `SRV_HAND.VEL`, R300. -/
def SRV_HAND_VEL : Field := ⟨3, 0x2028, 8, 8, .shw, false, fun _ => 2⟩
/-- `SRV_HAND.BTHR`, R300. -/
def SRV_HAND_BTHR : Field := ⟨3, 0x2028, 16, 8, .shw, false, fun _ => 0x33⟩
/-- `SRV_HAND.NB`, R300. -/
def SRV_HAND_NB : Field := ⟨3, 0x2028, 24, 5, .shw, false, fun _ => 8⟩
/-- `SRV_SETTLE.RD`, R300. -/
def SRV_SETTLE_RD : Field := ⟨3, 0x2030, 0, 8, .shw, false, fun _ => 0x1A⟩
/-- `SRV_SETTLE.WR`, R300. -/
def SRV_SETTLE_WR : Field := ⟨3, 0x2030, 8, 8, .shw, false, fun _ => 0x14⟩
/-- `SRV_SETTLE.NRD`, R300. -/
def SRV_SETTLE_NRD : Field := ⟨3, 0x2030, 16, 4, .shw, false, fun _ => 4⟩
/-- `SRV_SETTLE.NWR`, R300. -/
def SRV_SETTLE_NWR : Field := ⟨3, 0x2030, 20, 4, .shw, false, fun _ => 8⟩
/-- `SRV_DESAT.SPAN`, R300. -/
def SRV_DESAT_SPAN : Field := ⟨3, 0x2034, 0, 8, .shw, false, fun _ => 0x58⟩
/-- `SRV_DESAT.THR`, R300. -/
def SRV_DESAT_THR : Field := ⟨3, 0x2034, 8, 8, .shw, false, fun _ => 0x28⟩
/-- `SRV_DESAT.REL`, R300. -/
def SRV_DESAT_REL : Field := ⟨3, 0x2034, 16, 8, .shw, false, fun _ => 0x20⟩
/-- `SRV_DESAT.BOOST`, R300. -/
def SRV_DESAT_BOOST : Field := ⟨3, 0x2034, 24, 3, .shw, false, fun _ => 3⟩
/-- `SRV_RVCFG.EN`, R300. -/
def SRV_RVCFG_EN : Field := ⟨3, 0x2040, 0, 1, .shw, false, fun _ => 0⟩
/-- `SRV_RVCFG.LEARN`, R300. -/
def SRV_RVCFG_LEARN : Field := ⟨3, 0x2040, 1, 1, .shw, false, fun _ => 0⟩
/-- `SRV_RVCFG.MU`, R300. -/
def SRV_RVCFG_MU : Field := ⟨3, 0x2040, 4, 4, .shw, false, fun _ => 0xA⟩
/-- `SRV_RVFF`, R300. -/
def SRV_RVFF : Field := ⟨3, 0x2044, 0, 16, .shw, false, fun _ => 0⟩
/-- `SRV_NEXT.TRACK`, R300. -/
def SRV_NEXT_TRACK : Field := ⟨3, 0x2070, 0, 21, .rw, false, fun _ => 0⟩
/-- `SRV_NEXT.VALID`, R300. -/
def SRV_NEXT_VALID : Field := ⟨3, 0x2070, 31, 1, .rw, false, fun _ => 0⟩
/-- `SRV_NEXTH`, R300. -/
def SRV_NEXTH : Field := ⟨3, 0x2074, 0, 4, .rw, false, fun _ => 0⟩
/-- `SRV_CUR`, R300. -/
def SRV_CUR : Field := ⟨3, 0x2078, 0, 16, .ro, false, fun _ => 0⟩
/-- `SRV_CNT.SEEKS`, R300. -/
def SRV_CNT_SEEKS : Field := ⟨3, 0x207C, 0, 16, .ro, false, fun _ => 0⟩
/-- `SRV_CNT.RA_DISC`, R300. -/
def SRV_CNT_RA_DISC : Field := ⟨3, 0x207C, 16, 16, .ro, false, fun _ => 0⟩
/-- `SRV_MEMADR.ENTRY`, R300. -/
def SRV_MEMADR_ENTRY : Field := ⟨3, 0x20A0, 0, 9, .rw, false, fun _ => 0⟩
/-- `SRV_MEMADR.ARM`, R300. -/
def SRV_MEMADR_ARM : Field := ⟨3, 0x20A0, 16, 4, .rw, false, fun _ => 0⟩
/-- `SRV_MEMADR.AUTOINC`, R300. -/
def SRV_MEMADR_AUTOINC : Field := ⟨3, 0x20A0, 31, 1, .rw, false, fun _ => 0⟩
/-- `SRV_HCFG.WEIGHT`, R300. -/
def SRV_HCFG_WEIGHT : Field := ⟨3, 0x2400, 0, 4, .shw, false, fun _ => 4⟩
/-- `SRV_HCFG.WINH`, R300. -/
def SRV_HCFG_WINH : Field := ⟨3, 0x2400, 4, 8, .shw, false, fun _ => 0x1F⟩
/-- `SRV_HCFG.WREL`, R300. -/
def SRV_HCFG_WREL : Field := ⟨3, 0x2400, 12, 8, .shw, false, fun _ => 0x18⟩
/-- `SRV_HCFG.NREL`, R300. -/
def SRV_HCFG_NREL : Field := ⟨3, 0x2400, 20, 4, .shw, false, fun _ => 2⟩
/-- `SRV_HGAIN.PESCAL`, R300. -/
def SRV_HGAIN_PESCAL : Field := ⟨3, 0x2404, 0, 16, .shw, false, fun _ => 0x1000⟩
/-- `SRV_HGAIN.MAGAIN`, R300. -/
def SRV_HGAIN_MAGAIN : Field := ⟨3, 0x2404, 16, 16, .shw, false, fun _ => 0x3000⟩
/-- `SRV_TGT.TRACK`, R300. -/
def SRV_TGT_TRACK : Field := ⟨3, 0x2408, 0, 21, .rw, false, fun _ => 0⟩
/-- `SRV_TGT.ENGAGE`, R300. -/
def SRV_TGT_ENGAGE : Field := ⟨3, 0x2408, 28, 1, .rw, false, fun _ => 0⟩
/-- `SRV_TGT.WRMODE`, R300. -/
def SRV_TGT_WRMODE : Field := ⟨3, 0x2408, 29, 1, .rw, false, fun _ => 0⟩
/-- `SRV_TGT.LADDER`, R300. -/
def SRV_TGT_LADDER : Field := ⟨3, 0x2408, 30, 1, .rw, false, fun _ => 0⟩
/-- `SRV_TOFS.OFFTRK`, R300. -/
def SRV_TOFS_OFFTRK : Field := ⟨3, 0x240C, 0, 16, .rw, false, fun _ => 0⟩
/-- `SRV_SAFE.GAIN`, R300. -/
def SRV_SAFE_GAIN : Field := ⟨3, 0x2410, 0, 9, .shw, false, fun _ => 0x100⟩
/-- `SRV_SAFE.CORNER`, R300. -/
def SRV_SAFE_CORNER : Field := ⟨3, 0x2410, 9, 3, .shw, false, fun _ => 4⟩
/-- `SRV_SAFE.BNOM`, R300. -/
def SRV_SAFE_BNOM : Field := ⟨3, 0x2410, 12, 12, .shw, false, fun _ => 0⟩
/-- `SRV_HOFS`, R300. -/
def SRV_HOFS : Field := ⟨3, 0x2414, 0, 16, .shw, false, fun _ => 0⟩
/-- `SRV_POS.Y`, R300. -/
def SRV_POS_Y : Field := ⟨3, 0x2418, 0, 29, .ro, false, fun _ => 0⟩
/-- `SRV_POS.GOOD`, R300. -/
def SRV_POS_GOOD : Field := ⟨3, 0x2418, 31, 1, .ro, false, fun _ => 0⟩
/-- `SRV_PES.PES`, R300. -/
def SRV_PES_PES : Field := ⟨3, 0x241C, 0, 16, .ro, false, fun _ => 0⟩
/-- `SRV_PES.S`, R300. -/
def SRV_PES_S : Field := ⟨3, 0x241C, 16, 16, .ro, false, fun _ => 0⟩
/-- `SRV_HSTS.MODE`, R300. -/
def SRV_HSTS_MODE : Field := ⟨3, 0x2420, 0, 2, .ro, false, fun _ => 0⟩
/-- `SRV_HSTS.SETTLED_RD`, R300. -/
def SRV_HSTS_SETTLED_RD : Field := ⟨3, 0x2420, 2, 1, .ro, false, fun _ => 0⟩
/-- `SRV_HSTS.SETTLED_WR`, R300. -/
def SRV_HSTS_SETTLED_WR : Field := ⟨3, 0x2420, 3, 1, .ro, false, fun _ => 0⟩
/-- `SRV_HSTS.REFUSED`, R300. -/
def SRV_HSTS_REFUSED : Field := ⟨3, 0x2420, 4, 1, .ro, false, fun _ => 0⟩
/-- `SRV_HSTS.INHIBIT`, R300. -/
def SRV_HSTS_INHIBIT : Field := ⟨3, 0x2420, 5, 1, .ro, false, fun _ => 0⟩
/-- `SRV_HSTS.SAT`, R300. -/
def SRV_HSTS_SAT : Field := ⟨3, 0x2420, 6, 1, .ro, false, fun _ => 0⟩
/-- `SRV_HSTS.TSEQ`, R300. -/
def SRV_HSTS_TSEQ : Field := ⟨3, 0x2420, 8, 8, .ro, false, fun _ => 0⟩
/-- `SRV_HSTS.WICNT`, R300. -/
def SRV_HSTS_WICNT : Field := ⟨3, 0x2420, 16, 16, .ro, false, fun _ => 0⟩
/-- `SRV_HTR.RDP`, R300. -/
def SRV_HTR_RDP : Field := ⟨3, 0x2424, 0, 8, .shw, false, fun _ => 0⟩
/-- `SRV_HTR.WRP`, R300. -/
def SRV_HTR_WRP : Field := ⟨3, 0x2424, 8, 8, .shw, false, fun _ => 0⟩
/-- `SRV_HTR.HMAX`, R300. -/
def SRV_HTR_HMAX : Field := ⟨3, 0x2424, 16, 8, .shw, false, fun _ => 0xC0⟩
/-- `SRV_HTR.CI_TGT`, R300. -/
def SRV_HTR_CI_TGT : Field := ⟨3, 0x2424, 24, 8, .shw, false, fun _ => 0⟩
/-- `SRV_HTR2.LOOP`, R300. -/
def SRV_HTR2_LOOP : Field := ⟨3, 0x2428, 0, 1, .shw, false, fun _ => 0⟩
/-- `SRV_HTR2.KI`, R300. -/
def SRV_HTR2_KI : Field := ⟨3, 0x2428, 1, 4, .shw, false, fun _ => 6⟩
/-- `SRV_HTR2.WSETTLE`, R300. -/
def SRV_HTR2_WSETTLE : Field := ⟨3, 0x2428, 8, 8, .shw, false, fun _ => 0x10⟩
/-- `SRV_HTRV.CMD`, R300. -/
def SRV_HTRV_CMD : Field := ⟨3, 0x242C, 0, 16, .ro, false, fun _ => 0⟩
/-- `SRV_HTRV.TRIM`, R300. -/
def SRV_HTRV_TRIM : Field := ⟨3, 0x242C, 16, 8, .ro, false, fun _ => 0⟩
/-- `SRV_HTRV.CI`, R300. -/
def SRV_HTRV_CI : Field := ⟨3, 0x242C, 24, 8, .ro, false, fun _ => 0⟩
/-- `LPE_CTL.RUN`, R399. -/
def LPE_CTL_RUN : Field := ⟨4, 0x0000, 0, 1, .rw, false, fun _ => 0⟩
/-- `LPE_CTL.SCRUB`, R399. -/
def LPE_CTL_SCRUB : Field := ⟨4, 0x0000, 1, 1, .rw, false, fun _ => 1⟩
/-- `LPE_STS.RUNNING`, R399. -/
def LPE_STS_RUNNING : Field := ⟨4, 0x0004, 0, 1, .ro, false, fun _ => 0⟩
/-- `LPE_STS.AGEOUT_V`, R399. -/
def LPE_STS_AGEOUT_V : Field := ⟨4, 0x0004, 1, 1, .ro, false, fun _ => 0⟩
/-- `LPE_STS.AGEOUT`, R399. -/
def LPE_STS_AGEOUT : Field := ⟨4, 0x0004, 2, 8, .ro, false, fun _ => 0⟩
/-- `LPE_COMMIT.COMMIT`, R59. -/
def LPE_COMMIT_COMMIT : Field := ⟨4, 0x0008, 0, 8, .strobe, false, fun _ => 0⟩
/-- `LPE_COMMIT.CANCEL`, R59. -/
def LPE_COMMIT_CANCEL : Field := ⟨4, 0x0008, 8, 8, .strobe, false, fun _ => 0⟩
/-- `LPE_CMT_STS.PENDING`, R59. -/
def LPE_CMT_STS_PENDING : Field := ⟨4, 0x000C, 0, 8, .ro, false, fun _ => 0⟩
/-- `LPE_CMT_STS.DONE`, R59. -/
def LPE_CMT_STS_DONE : Field := ⟨4, 0x000C, 8, 8, .w1c, false, fun _ => 0⟩
/-- `LPE_CMT_STS.REJECT`, R59. -/
def LPE_CMT_STS_REJECT : Field := ⟨4, 0x000C, 16, 8, .w1c, false, fun _ => 0⟩
/-- `LPE_CMT_STS.DROP`, R59. -/
def LPE_CMT_STS_DROP : Field := ⟨4, 0x000C, 24, 8, .w1c, false, fun _ => 0⟩
/-- `LPE_VER_V`, R399. -/
def LPE_VER_V : Field := ⟨4, 0x0010, 0, 32, .ro, true, fun _ => 0⟩
/-- `LPE_VER_C`, R399. -/
def LPE_VER_C : Field := ⟨4, 0x0014, 0, 32, .ro, true, fun _ => 0⟩
/-- `LPE_IMG.BANK`, R399. -/
def LPE_IMG_BANK : Field := ⟨4, 0x0018, 0, 1, .shx, false, fun _ => 0⟩
/-- `LPE_IMGSTS.ACTIVE`, R399. -/
def LPE_IMGSTS_ACTIVE : Field := ⟨4, 0x001C, 0, 1, .ro, true, fun _ => 0⟩
/-- `LPE_IMGSTS.OLDBUSY`, R399. -/
def LPE_IMGSTS_OLDBUSY : Field := ⟨4, 0x001C, 1, 1, .ro, true, fun _ => 0⟩
/-- `LPE_IMGSTS.IVALID_V`, R399. -/
def LPE_IMGSTS_IVALID_V : Field := ⟨4, 0x001C, 2, 1, .ro, true, fun _ => 0⟩
/-- `LPE_IMGSTS.IVALID_C`, R399. -/
def LPE_IMGSTS_IVALID_C : Field := ⟨4, 0x001C, 3, 1, .ro, true, fun _ => 0⟩
/-- `LPE_IMGSTS.IEMPTY_C`, R399. -/
def LPE_IMGSTS_IEMPTY_C : Field := ⟨4, 0x001C, 4, 1, .ro, true, fun _ => 0⟩
/-- `LPE_IMGSTS.CKEY`, R399. -/
def LPE_IMGSTS_CKEY : Field := ⟨4, 0x001C, 5, 1, .ro, true, fun _ => 0⟩
/-- `LPE_IMGSTS.AEMPTY_C`, R399. -/
def LPE_IMGSTS_AEMPTY_C : Field := ⟨4, 0x001C, 6, 1, .ro, true, fun _ => 0⟩
/-- `LPE_IVER_V`, R399. -/
def LPE_IVER_V : Field := ⟨4, 0x0020, 0, 32, .ro, true, fun _ => 0⟩
/-- `LPE_IVER_C`, R399. -/
def LPE_IVER_C : Field := ⟨4, 0x0024, 0, 32, .ro, true, fun _ => 0⟩
/-- `LPE_LDSRC_LO`, R399. -/
def LPE_LDSRC_LO : Field := ⟨4, 0x0028, 0, 32, .rw, false, fun _ => 0⟩
/-- `LPE_LDSRC_HI`, R399. -/
def LPE_LDSRC_HI : Field := ⟨4, 0x002C, 0, 8, .rw, false, fun _ => 0⟩
/-- `LPE_LDCTL.GO`, R399. -/
def LPE_LDCTL_GO : Field := ⟨4, 0x0030, 0, 1, .strobe, false, fun _ => 0⟩
/-- `LPE_LDCTL.REGION`, R399. -/
def LPE_LDCTL_REGION : Field := ⟨4, 0x0030, 1, 1, .rw, false, fun _ => 0⟩
/-- `LPE_LDCTL.COPY`, R399. -/
def LPE_LDCTL_COPY : Field := ⟨4, 0x0030, 2, 1, .strobe, false, fun _ => 0⟩
/-- `LPE_LDCTL.BUSY`, R399. -/
def LPE_LDCTL_BUSY : Field := ⟨4, 0x0030, 3, 1, .ro, false, fun _ => 0⟩
/-- `LPE_LDCTL.RESULT`, R399. -/
def LPE_LDCTL_RESULT : Field := ⟨4, 0x0030, 8, 4, .ro, false, fun _ => 0⟩
/-- `LPE_CUSTLIM.WORDS`, R399. -/
def LPE_CUSTLIM_WORDS : Field := ⟨4, 0x0034, 0, 16, .rwl, false, fun _ => 0x400⟩
/-- `LPE_CUSTLIM.CEN`, R399. -/
def LPE_CUSTLIM_CEN : Field := ⟨4, 0x0034, 16, 1, .rwl, false, fun _ => 1⟩
/-- `LPE_LOAD.LOAD`, R399. -/
def LPE_LOAD_LOAD : Field := ⟨4, 0x0038, 0, 16, .ro, false, fun _ => 0⟩
/-- `LPE_LOAD.PEAK`, R399. -/
def LPE_LOAD_PEAK : Field := ⟨4, 0x0038, 16, 16, .w1c, false, fun _ => 0⟩
/-- `LPE_TRIG`, R399. -/
def LPE_TRIG : Field := ⟨4, 0x0040, 0, 32, .strobe, false, fun _ => 0⟩
/-- `LPE_KILL`, R399. -/
def LPE_KILL : Field := ⟨4, 0x0048, 0, 32, .strobe, false, fun _ => 0⟩
/-- `LPE_ERR.CTX`, R399. -/
def LPE_ERR_CTX : Field := ⟨4, 0x0050, 0, 6, .ro, false, fun _ => 0⟩
/-- `LPE_ERR.ADDR`, R399. -/
def LPE_ERR_ADDR : Field := ⟨4, 0x0050, 6, 16, .ro, false, fun _ => 0⟩
/-- `LPE_ERR.CAUSE`, R399. -/
def LPE_ERR_CAUSE : Field := ⟨4, 0x0050, 24, 4, .ro, false, fun _ => 0⟩
/-- `LPE_ECC.CS`, R399. -/
def LPE_ECC_CS : Field := ⟨4, 0x0054, 0, 16, .ro, true, fun _ => 0⟩
/-- `LPE_ECC.DM`, R399. -/
def LPE_ECC_DM : Field := ⟨4, 0x0054, 16, 16, .ro, true, fun _ => 0⟩
/-- `LPE_CTX.ENTRY`, R399. -/
def LPE_CTX_ENTRY : Field := ⟨4, 0x0100, 0, 16, .ro, false, fun _ => 0⟩
/-- `LPE_CTX.PRIO`, R399. -/
def LPE_CTX_PRIO : Field := ⟨4, 0x0100, 16, 2, .ro, false, fun _ => 0⟩
/-- `LPE_CTX.SRC`, R399. -/
def LPE_CTX_SRC : Field := ⟨4, 0x0100, 18, 6, .ro, false, fun _ => 0⟩
/-- `LPE_CTX.EN`, R399. -/
def LPE_CTX_EN : Field := ⟨4, 0x0100, 24, 1, .rw, false, fun _ => 0⟩
/-- `LPE_CTX.CUST`, R399. -/
def LPE_CTX_CUST : Field := ⟨4, 0x0100, 25, 1, .ro, false, fun _ => 0⟩
/-- `LPE_CTXSTS.STATE`, R399. -/
def LPE_CTXSTS_STATE : Field := ⟨4, 0x0200, 0, 2, .ro, false, fun _ => 0⟩
/-- `LPE_CTXSTS.PENDING`, R399. -/
def LPE_CTXSTS_PENDING : Field := ⟨4, 0x0200, 2, 1, .ro, false, fun _ => 0⟩
/-- `LPE_CTXSTS.KILLED`, R399. -/
def LPE_CTXSTS_KILLED : Field := ⟨4, 0x0200, 3, 1, .w1c, false, fun _ => 0⟩
/-- `LPE_CTXSTS.VIOL`, R399. -/
def LPE_CTXSTS_VIOL : Field := ⟨4, 0x0200, 4, 1, .w1c, false, fun _ => 0⟩
/-- `LPE_CTXSTS.MERGE`, R399. -/
def LPE_CTXSTS_MERGE : Field := ⟨4, 0x0200, 8, 8, .ro, false, fun _ => 0⟩
/-- `LPE_CTXSTS.RUNS`, R399. -/
def LPE_CTXSTS_RUNS : Field := ⟨4, 0x0200, 16, 16, .ro, false, fun _ => 0⟩
/-- `LPE_LAT.LAST`, R399. -/
def LPE_LAT_LAST : Field := ⟨4, 0x0400, 0, 16, .ro, false, fun _ => 0⟩
/-- `LPE_LAT.WORST`, R399. -/
def LPE_LAT_WORST : Field := ⟨4, 0x0400, 16, 16, .w1c, false, fun _ => 0⟩
/-- `LPE_OUTCFG.AGELIM`, R399. -/
def LPE_OUTCFG_AGELIM : Field := ⟨4, 0x0800, 0, 16, .rw, false, rstAgelim⟩
/-- `LPE_OUTCFG.CUST`, R399. -/
def LPE_OUTCFG_CUST : Field := ⟨4, 0x0800, 16, 1, .ro, false, fun _ => 0⟩
/-- `LPE_OUTCFG.OVR`, R399. -/
def LPE_OUTCFG_OVR : Field := ⟨4, 0x0800, 17, 1, .rw, false, fun _ => 0⟩
/-- `LPE_OUTCFG.IRQ`, R399. -/
def LPE_OUTCFG_IRQ : Field := ⟨4, 0x0800, 18, 1, .rw, false, fun _ => 0⟩
/-- `LPE_OVR`, R399. -/
def LPE_OVR : Field := ⟨4, 0x0C00, 0, 32, .rw, false, fun _ => 0⟩
/-- `LPE_CG.OUT`, R399. -/
def LPE_CG_OUT : Field := ⟨4, 0x1000, 0, 8, .rw, false, rstCgOut⟩
/-- `LPE_CG.NC`, R399. -/
def LPE_CG_NC : Field := ⟨4, 0x1000, 8, 3, .rw, false, rstCgNc⟩
/-- `LPE_CG.SIGNSRC`, R399. -/
def LPE_CG_SIGNSRC : Field := ⟨4, 0x1000, 11, 3, .rw, false, fun _ => 0⟩
/-- `LPE_CG.EN`, R399. -/
def LPE_CG_EN : Field := ⟨4, 0x1000, 14, 1, .rw, false, rstCgEn⟩
/-- `LPE_CG.SIGNEN`, R399. -/
def LPE_CG_SIGNEN : Field := ⟨4, 0x1000, 15, 1, .rw, false, rstCgEn⟩
/-- `LPE_CG.OWNER`, R399. -/
def LPE_CG_OWNER : Field := ⟨4, 0x1000, 16, 6, .rw, false, rstCgOwner⟩
/-- `LPE_CG.CUSTMASK`, R399. -/
def LPE_CG_CUSTMASK : Field := ⟨4, 0x1000, 24, 8, .ro, false, fun _ => 0⟩
/-- `LPE_CG_STS.WIN`, R399. -/
def LPE_CG_STS_WIN : Field := ⟨4, 0x1004, 0, 3, .ro, false, fun _ => 0⟩
/-- `LPE_CG_STS.NOCAND`, R399. -/
def LPE_CG_STS_NOCAND : Field := ⟨4, 0x1004, 3, 1, .ro, false, fun _ => 0⟩
/-- `LPE_CG_STS.STALE`, R399. -/
def LPE_CG_STS_STALE : Field := ⟨4, 0x1004, 4, 8, .ro, false, fun _ => 0⟩
/-- `LPE_CG_STS.CHG`, R399. -/
def LPE_CG_STS_CHG : Field := ⟨4, 0x1004, 16, 16, .ro, false, fun _ => 0⟩
/-- `LPE_CG_VAL`, R399. -/
def LPE_CG_VAL : Field := ⟨4, 0x1008, 0, 32, .ro, false, fun _ => 0⟩
/-- `LPE_SIL_CFG.MODE`, R399. -/
def LPE_SIL_CFG_MODE : Field := ⟨4, 0x1200, 0, 2, .rw, false, fun _ => 0⟩
/-- `LPE_SIL_CFG.TIME`, R399. -/
def LPE_SIL_CFG_TIME : Field := ⟨4, 0x1200, 2, 1, .rw, false, fun _ => 0⟩
/-- `LPE_SIL_CFG.CTX`, R399. -/
def LPE_SIL_CFG_CTX : Field := ⟨4, 0x1200, 3, 6, .rw, false, fun _ => 0⟩
/-- `LPE_SIL_CFG.TRIG`, R399. -/
def LPE_SIL_CFG_TRIG : Field := ⟨4, 0x1200, 9, 3, .rw, false, fun _ => 0⟩
/-- `LPE_SIL_CFG.TRIGSEL`, R399. -/
def LPE_SIL_CFG_TRIGSEL : Field := ⟨4, 0x1200, 12, 9, .rw, false, fun _ => 0⟩
/-- `LPE_SIL_CFG.COND`, R399. -/
def LPE_SIL_CFG_COND : Field := ⟨4, 0x1200, 21, 2, .rw, false, fun _ => 0⟩
/-- `LPE_SIL_ADDR`, R399. -/
def LPE_SIL_ADDR : Field := ⟨4, 0x1204, 0, 24, .rw, false, fun _ => 0⟩
/-- `LPE_SIL_INT`, R399. -/
def LPE_SIL_INT : Field := ⟨4, 0x1208, 0, 22, .rw, false, fun _ => 0⟩
/-- `LPE_SIL_THR`, R399. -/
def LPE_SIL_THR : Field := ⟨4, 0x120C, 0, 32, .rw, false, fun _ => 0⟩
/-- `LPE_SIL_MASK`, R399. -/
def LPE_SIL_MASK : Field := ⟨4, 0x1210, 0, 32, .rw, false, fun _ => 0⟩
/-- `LPE_SIL_CTL.POST`, R399. -/
def LPE_SIL_CTL_POST : Field := ⟨4, 0x1214, 0, 14, .rw, false, fun _ => 0⟩
/-- `LPE_SIL_CTL.ARM`, R399. -/
def LPE_SIL_CTL_ARM : Field := ⟨4, 0x1214, 16, 1, .strobe, false, fun _ => 0⟩
/-- `LPE_SIL_CTL.FORCE`, R399. -/
def LPE_SIL_CTL_FORCE : Field := ⟨4, 0x1214, 17, 1, .strobe, false, fun _ => 0⟩
/-- `LPE_SIL_CTL.STOP`, R399. -/
def LPE_SIL_CTL_STOP : Field := ⟨4, 0x1214, 18, 1, .strobe, false, fun _ => 0⟩
/-- `LPE_SIL_STS.STATE`, R399. -/
def LPE_SIL_STS_STATE : Field := ⟨4, 0x1218, 0, 2, .ro, false, fun _ => 0⟩
/-- `LPE_SIL_STS.MARK`, R399. -/
def LPE_SIL_STS_MARK : Field := ⟨4, 0x1218, 2, 14, .ro, false, fun _ => 0⟩
/-- `LPE_SIL_STS.LOST`, R399. -/
def LPE_SIL_STS_LOST : Field := ⟨4, 0x1218, 16, 16, .ro, false, fun _ => 0⟩
/-- `LPE_SIL_FILL`, R399. -/
def LPE_SIL_FILL : Field := ⟨4, 0x121C, 0, 15, .ro, false, fun _ => 0⟩
/-- `LPE_SILRD.INDEX`, R399. -/
def LPE_SILRD_INDEX : Field := ⟨4, 0x1300, 0, 14, .rw, false, fun _ => 0⟩
/-- `LPE_SILRD.UNIT`, R399. -/
def LPE_SILRD_UNIT : Field := ⟨4, 0x1300, 16, 3, .rw, false, fun _ => 0⟩
/-- `LPE_SILRD.AUTOINC`, R399. -/
def LPE_SILRD_AUTOINC : Field := ⟨4, 0x1300, 31, 1, .rw, false, fun _ => 0⟩
/-- `LAN_CTL.REQ`, R131. -/
def LAN_CTL_REQ : Field := ⟨5, 0x0000, 0, 2, .rw, false, fun _ => 0⟩
/-- `LAN_CTL.OOS`, R131. -/
def LAN_CTL_OOS : Field := ⟨5, 0x0000, 2, 1, .rw, false, fun _ => 0⟩
/-- `LAN_STS.STATE`, R131. -/
def LAN_STS_STATE : Field := ⟨5, 0x0004, 0, 2, .ro, false, fun _ => 0⟩
/-- `LAN_STS.LOCK`, R131. -/
def LAN_STS_LOCK : Field := ⟨5, 0x0004, 2, 1, .ro, false, fun _ => 0⟩
/-- `LAN_STS.FRANGE`, R131. -/
def LAN_STS_FRANGE : Field := ⟨5, 0x0004, 3, 1, .ro, false, fun _ => 0⟩
/-- `LAN_STS.WRITING`, R131. -/
def LAN_STS_WRITING : Field := ⟨5, 0x0004, 4, 1, .ro, false, fun _ => 0⟩
/-- `LAN_STS.DEFECT`, R131. -/
def LAN_STS_DEFECT : Field := ⟨5, 0x0004, 5, 1, .ro, false, fun _ => 0⟩
/-- `LAN_STS.MEMREF`, R131. -/
def LAN_STS_MEMREF : Field := ⟨5, 0x0004, 6, 1, .w1c, false, fun _ => 0⟩
/-- `LAN_COMMIT.COMMIT`, R59. -/
def LAN_COMMIT_COMMIT : Field := ⟨5, 0x0008, 0, 8, .strobe, false, fun _ => 0⟩
/-- `LAN_COMMIT.CANCEL`, R59. -/
def LAN_COMMIT_CANCEL : Field := ⟨5, 0x0008, 8, 8, .strobe, false, fun _ => 0⟩
/-- `LAN_CMT_STS.PENDING`, R59. -/
def LAN_CMT_STS_PENDING : Field := ⟨5, 0x000C, 0, 8, .ro, false, fun _ => 0⟩
/-- `LAN_CMT_STS.DONE`, R59. -/
def LAN_CMT_STS_DONE : Field := ⟨5, 0x000C, 8, 8, .w1c, false, fun _ => 0⟩
/-- `LAN_CMT_STS.REJECT`, R59. -/
def LAN_CMT_STS_REJECT : Field := ⟨5, 0x000C, 16, 8, .w1c, false, fun _ => 0⟩
/-- `LAN_CMT_STS.DROP`, R59. -/
def LAN_CMT_STS_DROP : Field := ⟨5, 0x000C, 24, 8, .w1c, false, fun _ => 0⟩
/-- `LAN_AFE.CTF_FC`, R131. -/
def LAN_AFE_CTF_FC : Field := ⟨5, 0x0010, 0, 4, .shf, false, fun _ => 8⟩
/-- `LAN_AFE.CTF_BOOST`, R131. -/
def LAN_AFE_CTF_BOOST : Field := ⟨5, 0x0010, 4, 4, .shf, false, fun _ => 4⟩
/-- `LAN_AGC.GINIT`, R131. -/
def LAN_AGC_GINIT : Field := ⟨5, 0x0014, 0, 9, .shf, false, fun _ => 0x100⟩
/-- `LAN_AGC.TARGET`, R131. -/
def LAN_AGC_TARGET : Field := ⟨5, 0x0014, 12, 8, .shf, false, fun _ => 0x40⟩
/-- `LAN_AGC.SHIFT`, R131. -/
def LAN_AGC_SHIFT : Field := ⟨5, 0x0014, 20, 4, .shf, false, fun _ => 6⟩
/-- `LAN_AGC.FREEZE`, R131. -/
def LAN_AGC_FREEZE : Field := ⟨5, 0x0014, 31, 1, .shf, false, fun _ => 0⟩
/-- `LAN_OFS.OINIT`, R131. -/
def LAN_OFS_OINIT : Field := ⟨5, 0x0018, 0, 8, .shf, false, fun _ => 0⟩
/-- `LAN_OFS.SHIFT`, R131. -/
def LAN_OFS_SHIFT : Field := ⟨5, 0x0018, 8, 4, .shf, false, fun _ => 8⟩
/-- `LAN_OFS.FREEZE`, R131. -/
def LAN_OFS_FREEZE : Field := ⟨5, 0x0018, 31, 1, .shf, false, fun _ => 0⟩
/-- `LAN_ASYM.AINIT`, R131. -/
def LAN_ASYM_AINIT : Field := ⟨5, 0x001C, 0, 8, .shf, false, fun _ => 0⟩
/-- `LAN_ASYM.SHIFT`, R131. -/
def LAN_ASYM_SHIFT : Field := ⟨5, 0x001C, 8, 4, .shf, false, fun _ => 0xA⟩
/-- `LAN_ASYM.FREEZE`, R131. -/
def LAN_ASYM_FREEZE : Field := ⟨5, 0x001C, 31, 1, .shf, false, fun _ => 0⟩
/-- `LAN_DROP.THR`, R131. -/
def LAN_DROP_THR : Field := ⟨5, 0x0020, 0, 8, .shf, false, fun _ => 0x32⟩
/-- `LAN_DROP.WIN`, R131. -/
def LAN_DROP_WIN : Field := ⟨5, 0x0020, 8, 6, .shf, false, fun _ => 0x10⟩
/-- `LAN_DROP.HOLDX`, R131. -/
def LAN_DROP_HOLDX : Field := ⟨5, 0x0020, 16, 8, .shf, false, fun _ => 0x0C⟩
/-- `LAN_DROP.REL`, R131. -/
def LAN_DROP_REL : Field := ⟨5, 0x0020, 24, 7, .shf, false, fun _ => 0x20⟩
/-- `LAN_DROP.EN`, R131. -/
def LAN_DROP_EN : Field := ⟨5, 0x0020, 31, 1, .shf, false, fun _ => 1⟩
/-- `LAN_TA.THR`, R131. -/
def LAN_TA_THR : Field := ⟨5, 0x0024, 0, 8, .shf, false, fun _ => 0xC8⟩
/-- `LAN_TA.WIN`, R131. -/
def LAN_TA_WIN : Field := ⟨5, 0x0024, 8, 8, .shf, false, fun _ => 4⟩
/-- `LAN_TA.EN`, R131. -/
def LAN_TA_EN : Field := ⟨5, 0x0024, 31, 1, .shf, false, fun _ => 1⟩
/-- `LAN_EQTGT.TGT`, R131. -/
def LAN_EQTGT_TGT : Field := ⟨5, 0x0030, 0, 4, .shf, false, fun _ => 0⟩
/-- `LAN_EQBANK.BANK`, R131. -/
def LAN_EQBANK_BANK : Field := ⟨5, 0x0034, 0, 4, .shf, false, fun _ => 0⟩
/-- `LAN_EQADP.MU`, R131. -/
def LAN_EQADP_MU : Field := ⟨5, 0x0038, 0, 4, .shf, false, fun _ => 4⟩
/-- `LAN_EQADP.ADAPT`, R131. -/
def LAN_EQADP_ADAPT : Field := ⟨5, 0x0038, 4, 1, .shf, false, fun _ => 1⟩
/-- `LAN_EQADP.MAIN`, R131. -/
def LAN_EQADP_MAIN : Field := ⟨5, 0x0038, 5, 5, .shf, false, fun _ => 8⟩
/-- `LAN_ZRATIO`, R131. -/
def LAN_ZRATIO : Field := ⟨5, 0x0040, 0, 32, .shf, false, fun _ => 0⟩
/-- `LAN_RTTSEL.BANK`, R131. -/
def LAN_RTTSEL_BANK : Field := ⟨5, 0x0044, 0, 1, .shf, false, fun _ => 0⟩
/-- `LAN_RTTSEL.EN`, R131. -/
def LAN_RTTSEL_EN : Field := ⟨5, 0x0044, 1, 1, .shf, false, fun _ => 0⟩
/-- `LAN_RTTSEL.LEARN`, R131. -/
def LAN_RTTSEL_LEARN : Field := ⟨5, 0x0044, 2, 1, .shf, false, fun _ => 0⟩
/-- `LAN_RTTSEL.LSHIFT`, R131. -/
def LAN_RTTSEL_LSHIFT : Field := ⟨5, 0x0044, 4, 4, .shf, false, fun _ => 4⟩
/-- `LAN_PTRIM.KP`, R131. -/
def LAN_PTRIM_KP : Field := ⟨5, 0x0048, 0, 4, .shf, false, fun _ => 6⟩
/-- `LAN_PTRIM.KI`, R131. -/
def LAN_PTRIM_KI : Field := ⟨5, 0x0048, 4, 4, .shf, false, fun _ => 0xC⟩
/-- `LAN_PTRIM.CLAMP`, R131. -/
def LAN_PTRIM_CLAMP : Field := ⟨5, 0x0048, 8, 8, .shf, false, fun _ => 0x80⟩
/-- `LAN_PTRIM.HOLD`, R131. -/
def LAN_PTRIM_HOLD : Field := ⟨5, 0x0048, 31, 1, .shf, false, fun _ => 0⟩
/-- `LAN_WROFS`, R131. -/
def LAN_WROFS : Field := ⟨5, 0x004C, 0, 20, .shf, false, fun _ => 0⟩
/-- `LAN_SYNC.WIN`, R131. -/
def LAN_SYNC_WIN : Field := ⟨5, 0x0050, 0, 5, .shf, false, fun _ => 0x10⟩
/-- `LAN_SYNC.ACC`, R131. -/
def LAN_SYNC_ACC : Field := ⟨5, 0x0050, 5, 3, .shf, false, fun _ => 2⟩
/-- `LAN_SYNC.ALT`, R131. -/
def LAN_SYNC_ALT : Field := ⟨5, 0x0050, 8, 3, .shf, false, fun _ => 4⟩
/-- `LAN_SYNC.THR`, R131. -/
def LAN_SYNC_THR : Field := ⟨5, 0x0050, 11, 5, .shf, false, fun _ => 6⟩
/-- `LAN_SYNC.WIDE`, R131. -/
def LAN_SYNC_WIDE : Field := ⟨5, 0x0050, 16, 7, .shf, false, fun _ => 0x40⟩
/-- `LAN_PCMP.C0`, R131. -/
def LAN_PCMP_C0 : Field := ⟨5, 0x0060, 0, 5, .shf, false, fun _ => 0⟩
/-- `LAN_PCMP.C1`, R131. -/
def LAN_PCMP_C1 : Field := ⟨5, 0x0060, 5, 5, .shf, false, fun _ => 0⟩
/-- `LAN_PCMP.C2`, R131. -/
def LAN_PCMP_C2 : Field := ⟨5, 0x0060, 10, 5, .shf, false, fun _ => 0⟩
/-- `LAN_PCMP.C3`, R131. -/
def LAN_PCMP_C3 : Field := ⟨5, 0x0060, 15, 5, .shf, false, fun _ => 0⟩
/-- `LAN_POL.RD_INV`, R131. -/
def LAN_POL_RD_INV : Field := ⟨5, 0x0070, 0, 1, .shf, false, fun _ => 0⟩
/-- `LAN_POL.WR_INV`, R131. -/
def LAN_POL_WR_INV : Field := ⟨5, 0x0070, 1, 1, .shf, false, fun _ => 0⟩
/-- `LAN_GAINV.GAIN`, R131. -/
def LAN_GAINV_GAIN : Field := ⟨5, 0x0080, 0, 9, .ro, false, fun _ => 0⟩
/-- `LAN_GAINV.OFS`, R131. -/
def LAN_GAINV_OFS : Field := ⟨5, 0x0080, 16, 8, .ro, false, fun _ => 0⟩
/-- `LAN_GAINV.ASYM`, R131. -/
def LAN_GAINV_ASYM : Field := ⟨5, 0x0080, 24, 8, .ro, false, fun _ => 0⟩
/-- `LAN_TRIMV.TRIM`, R131. -/
def LAN_TRIMV_TRIM : Field := ⟨5, 0x0084, 0, 16, .ro, false, fun _ => 0⟩
/-- `LAN_TRIMV.AT_CLAMP`, R131. -/
def LAN_TRIMV_AT_CLAMP : Field := ⟨5, 0x0084, 16, 1, .ro, false, fun _ => 0⟩
/-- `LAN_SYNCV.OFS`, R131. -/
def LAN_SYNCV_OFS : Field := ⟨5, 0x0088, 0, 8, .ro, false, fun _ => 0⟩
/-- `LAN_SYNCV.KIND`, R131. -/
def LAN_SYNCV_KIND : Field := ⟨5, 0x0088, 8, 2, .ro, false, fun _ => 0⟩
/-- `LAN_SYNCV.DIST`, R131. -/
def LAN_SYNCV_DIST : Field := ⟨5, 0x0088, 10, 6, .ro, false, fun _ => 0⟩
/-- `LAN_SYNCV.MISSED`, R131. -/
def LAN_SYNCV_MISSED : Field := ⟨5, 0x0088, 16, 16, .ro, false, fun _ => 0⟩
/-- `LAN_DEFV.DROP`, R131. -/
def LAN_DEFV_DROP : Field := ⟨5, 0x008C, 0, 16, .ro, false, fun _ => 0⟩
/-- `LAN_DEFV.TA`, R131. -/
def LAN_DEFV_TA : Field := ⟨5, 0x008C, 16, 16, .ro, false, fun _ => 0⟩
/-- `LAN_STGV.OCC`, R131. -/
def LAN_STGV_OCC : Field := ⟨5, 0x0090, 0, 5, .ro, false, fun _ => 0⟩
/-- `LAN_STGV.OVR`, R131. -/
def LAN_STGV_OVR : Field := ⟨5, 0x0090, 16, 16, .ro, false, fun _ => 0⟩
/-- `LAN_MEMADR.WORD`, R131. -/
def LAN_MEMADR_WORD : Field := ⟨5, 0x00A0, 0, 16, .rw, false, fun _ => 0⟩
/-- `LAN_MEMADR.SPACE`, R131. -/
def LAN_MEMADR_SPACE : Field := ⟨5, 0x00A0, 16, 4, .rw, false, fun _ => 0⟩
/-- `LAN_MEMADR.AUTOINC`, R131. -/
def LAN_MEMADR_AUTOINC : Field := ⟨5, 0x00A0, 31, 1, .rw, false, fun _ => 0⟩
/-- `LAN_SYNCPAT_LO`, R131. -/
def LAN_SYNCPAT_LO : Field := ⟨5, 0xC000, 0, 32, .rwl, false, fun _ => 0x3C592E87⟩
/-- `LAN_SYNCPAT_HI`, R131. -/
def LAN_SYNCPAT_HI : Field := ⟨5, 0xC004, 0, 16, .rwl, false, fun _ => 0xA6F1⟩
/-- `LAN_TGT.T0`, R131. -/
def LAN_TGT_T0 : Field := ⟨5, 0xC100, 0, 6, .rwl, false, fun _ => 0⟩
/-- `LAN_TGT.T1`, R131. -/
def LAN_TGT_T1 : Field := ⟨5, 0xC100, 6, 6, .rwl, false, fun _ => 0⟩
/-- `LAN_TGT.T2`, R131. -/
def LAN_TGT_T2 : Field := ⟨5, 0xC100, 12, 6, .rwl, false, fun _ => 0⟩
/-- `LAN_TGT.T3`, R131. -/
def LAN_TGT_T3 : Field := ⟨5, 0xC100, 18, 6, .rwl, false, fun _ => 0⟩
/-- `LAN_TGT.T4`, R131. -/
def LAN_TGT_T4 : Field := ⟨5, 0xC100, 24, 6, .rwl, false, fun _ => 0⟩
/-- `LAN_TGT.VALID`, R131. -/
def LAN_TGT_VALID : Field := ⟨5, 0xC100, 31, 1, .rwl, false, fun _ => 0⟩
/-- `DEC_EN`, R136. -/
def DEC_EN : Field := ⟨6, 0x0000, 0, 32, .rw, false, fun _ => 0xFFFFFFFF⟩
/-- `DEC_STS.BUSY`, R136. -/
def DEC_STS_BUSY : Field := ⟨6, 0x0004, 0, 6, .ro, false, fun _ => 0⟩
/-- `DEC_STS.WAIT`, R136. -/
def DEC_STS_WAIT : Field := ⟨6, 0x0004, 16, 10, .ro, false, fun _ => 0⟩
/-- `DEC_BUDGET.IMAX`, R136. -/
def DEC_BUDGET_IMAX : Field := ⟨6, 0x0010, 0, 8, .rw, false, fun _ => 0x28⟩
/-- `DEC_BUDGET.IFLOOR`, R136. -/
def DEC_BUDGET_IFLOOR : Field := ⟨6, 0x0010, 8, 8, .rw, false, fun _ => 0x10⟩
/-- `DEC_BUDGET.RMAX`, R136. -/
def DEC_BUDGET_RMAX : Field := ⟨6, 0x0010, 16, 8, .rw, false, fun _ => 0xC8⟩
/-- `DEC_QLIM.LOW`, R136. -/
def DEC_QLIM_LOW : Field := ⟨6, 0x0014, 0, 11, .rw, false, fun _ => 0x60⟩
/-- `DEC_QLIM.HIGH`, R136. -/
def DEC_QLIM_HIGH : Field := ⟨6, 0x0014, 16, 11, .rw, false, fun _ => 0x180⟩
/-- `DEC_SCHED.AGE`, R136. -/
def DEC_SCHED_AGE : Field := ⟨6, 0x0018, 0, 16, .rw, false, fun _ => 0x32⟩
/-- `DEC_SCHED.RCV_ENG`, R136. -/
def DEC_SCHED_RCV_ENG : Field := ⟨6, 0x0018, 16, 5, .rw, false, fun _ => 2⟩
/-- `DEC_CLK`, R136. -/
def DEC_CLK : Field := ⟨6, 0x0020, 0, 32, .rw, false, fun _ => 0xFFFFFFFF⟩
/-- `DEC_CNT_OK`, R136. -/
def DEC_CNT_OK : Field := ⟨6, 0x0030, 0, 32, .ro, false, fun _ => 0⟩
/-- `DEC_CNT_INL`, R136. -/
def DEC_CNT_INL : Field := ⟨6, 0x0034, 0, 32, .ro, false, fun _ => 0⟩
/-- `DEC_CNT_FAIL`, R136. -/
def DEC_CNT_FAIL : Field := ⟨6, 0x0038, 0, 32, .ro, false, fun _ => 0⟩
/-- `DEC_CNT_TAG`, R136. -/
def DEC_CNT_TAG : Field := ⟨6, 0x003C, 0, 32, .ro, false, fun _ => 0⟩
/-- `DEC_ITERMEAN`, R136. -/
def DEC_ITERMEAN : Field := ⟨6, 0x0040, 0, 16, .ro, false, fun _ => 0⟩
/-- `FMT_CTL.RUN`, R187. -/
def FMT_CTL_RUN : Field := ⟨7, 0x0000, 0, 1, .rw, false, fun _ => 0⟩
/-- `FMT_CTL.RA_DROP`, R187. -/
def FMT_CTL_RA_DROP : Field := ⟨7, 0x0000, 1, 1, .strobe, false, fun _ => 0⟩
/-- `FMT_STS.RUNNING`, R187. -/
def FMT_STS_RUNNING : Field := ⟨7, 0x0004, 0, 1, .ro, false, fun _ => 0⟩
/-- `FMT_STS.STORE_OK`, R187. -/
def FMT_STS_STORE_OK : Field := ⟨7, 0x0004, 1, 1, .ro, false, fun _ => 0⟩
/-- `FMT_STS.DESC_OK`, R187. -/
def FMT_STS_DESC_OK : Field := ⟨7, 0x0004, 8, 24, .ro, false, fun _ => 0⟩
/-- `FMT_COMMIT.COMMIT`, R59. -/
def FMT_COMMIT_COMMIT : Field := ⟨7, 0x0008, 0, 8, .strobe, false, fun _ => 0⟩
/-- `FMT_COMMIT.CANCEL`, R59. -/
def FMT_COMMIT_CANCEL : Field := ⟨7, 0x0008, 8, 8, .strobe, false, fun _ => 0⟩
/-- `FMT_CMT_STS.PENDING`, R59. -/
def FMT_CMT_STS_PENDING : Field := ⟨7, 0x000C, 0, 8, .ro, false, fun _ => 0⟩
/-- `FMT_CMT_STS.DONE`, R59. -/
def FMT_CMT_STS_DONE : Field := ⟨7, 0x000C, 8, 8, .w1c, false, fun _ => 0⟩
/-- `FMT_CMT_STS.REJECT`, R59. -/
def FMT_CMT_STS_REJECT : Field := ⟨7, 0x000C, 16, 8, .w1c, false, fun _ => 0⟩
/-- `FMT_CMT_STS.DROP`, R59. -/
def FMT_CMT_STS_DROP : Field := ⟨7, 0x000C, 24, 8, .w1c, false, fun _ => 0⟩
/-- `FMT_VER`, R187. -/
def FMT_VER : Field := ⟨7, 0x0010, 0, 32, .ro, false, fun _ => 0⟩
/-- `FMT_INFL`, R187. -/
def FMT_INFL : Field := ⟨7, 0x0014, 0, 15, .ro, false, fun _ => 0⟩
/-- `FMT_DESC_LO`, R187. -/
def FMT_DESC_LO : Field := ⟨7, 0x0018, 0, 32, .rwl, false, fun _ => 0⟩
/-- `FMT_DESC_HI`, R187. -/
def FMT_DESC_HI : Field := ⟨7, 0x001C, 0, 8, .rwl, false, fun _ => 0⟩
/-- `FMT_LEAD`, R187. -/
def FMT_LEAD : Field := ⟨7, 0x0020, 0, 16, .rw, false, fun _ => 0x2000⟩
/-- `FMT_LADDER.STEPS`, R187. -/
def FMT_LADDER_STEPS : Field := ⟨7, 0x0030, 0, 6, .shx, false, fun _ => 0x3F⟩
/-- `FMT_LADDER.REREAD`, R187. -/
def FMT_LADDER_REREAD : Field := ⟨7, 0x0030, 8, 4, .shx, false, fun _ => 2⟩
/-- `FMT_LADDER.OFS`, R187. -/
def FMT_LADDER_OFS : Field := ⟨7, 0x0030, 16, 8, .shx, false, fun _ => 0x20⟩
/-- `FMT_LADDER.COMBINE`, R187. -/
def FMT_LADDER_COMBINE : Field := ⟨7, 0x0030, 24, 4, .shx, false, fun _ => 4⟩
/-- `FMT_LADTIME`, R187. -/
def FMT_LADTIME : Field := ⟨7, 0x0034, 0, 16, .shx, false, fun _ => 0x7D0⟩
/-- `FMT_WR.VERIFY`, R187. -/
def FMT_WR_VERIFY : Field := ⟨7, 0x0038, 0, 1, .shx, false, fun _ => 1⟩
/-- `FMT_WR.RETRY`, R187. -/
def FMT_WR_RETRY : Field := ⟨7, 0x0038, 4, 3, .shx, false, fun _ => 3⟩
/-- `FMT_WR.VITER`, R187. -/
def FMT_WR_VITER : Field := ⟨7, 0x0038, 8, 8, .shx, false, fun _ => 0x14⟩
/-- `FMT_WR.AHEAD`, R187. -/
def FMT_WR_AHEAD : Field := ⟨7, 0x0038, 16, 11, .shx, false, fun _ => 0x100⟩
/-- `FMT_RA.EN`, R187. -/
def FMT_RA_EN : Field := ⟨7, 0x003C, 0, 1, .shx, false, fun _ => 1⟩
/-- `FMT_RA.ROWS`, R187. -/
def FMT_RA_ROWS : Field := ⟨7, 0x003C, 8, 7, .shx, false, fun _ => 0x10⟩
/-- `FMT_RA.AREA`, R187. -/
def FMT_RA_AREA : Field := ⟨7, 0x003C, 16, 16, .shx, false, fun _ => 0x100⟩
/-- `FMT_CNT_SLIP`, R187. -/
def FMT_CNT_SLIP : Field := ⟨7, 0x0040, 0, 32, .ro, false, fun _ => 0⟩
/-- `FMT_CNT_UNREC`, R187. -/
def FMT_CNT_UNREC : Field := ⟨7, 0x0044, 0, 32, .ro, true, fun _ => 0⟩
/-- `FMT_CNT_GROWN`, R187. -/
def FMT_CNT_GROWN : Field := ⟨7, 0x0048, 0, 32, .ro, true, fun _ => 0⟩
/-- `FMT_CNT_RA.CLAIMED`, R187. -/
def FMT_CNT_RA_CLAIMED : Field := ⟨7, 0x004C, 0, 16, .ro, false, fun _ => 0⟩
/-- `FMT_CNT_RA.DROPPED`, R187. -/
def FMT_CNT_RA_DROPPED : Field := ⟨7, 0x004C, 16, 16, .ro, false, fun _ => 0⟩
/-- `FMT_CNT_STEP`, R187. -/
def FMT_CNT_STEP : Field := ⟨7, 0x0050, 0, 32, .ro, false, fun _ => 0⟩
/-- `ACD_CTL.RUN`, R250. -/
def ACD_CTL_RUN : Field := ⟨8, 0x0000, 0, 1, .rw, false, fun _ => 0⟩
/-- `ACD_CTL.GEN`, R250. -/
def ACD_CTL_GEN : Field := ⟨8, 0x0000, 1, 1, .strobe, false, fun _ => 0⟩
/-- `ACD_CTL.RBLD_HOLD`, R250. -/
def ACD_CTL_RBLD_HOLD : Field := ⟨8, 0x0000, 2, 1, .rw, false, fun _ => 0⟩
/-- `ACD_CTL.CLEAN`, R250. -/
def ACD_CTL_CLEAN : Field := ⟨8, 0x0000, 3, 1, .w1s, false, fun _ => 0⟩
/-- `ACD_CTL.CLEAN_CLR`, R250. -/
def ACD_CTL_CLEAN_CLR : Field := ⟨8, 0x0000, 4, 1, .strobe, false, fun _ => 0⟩
/-- `ACD_STS.RUNNING`, R250. -/
def ACD_STS_RUNNING : Field := ⟨8, 0x0004, 0, 1, .ro, false, fun _ => 0⟩
/-- `ACD_STS.ALLEMPTY`, R250. -/
def ACD_STS_ALLEMPTY : Field := ⟨8, 0x0004, 1, 1, .ro, false, fun _ => 0⟩
/-- `ACD_STS.REBUILDING`, R250. -/
def ACD_STS_REBUILDING : Field := ⟨8, 0x0004, 2, 1, .ro, false, fun _ => 0⟩
/-- `ACD_STS.RESYNC`, R250. -/
def ACD_STS_RESYNC : Field := ⟨8, 0x0004, 3, 1, .ro, false, fun _ => 0⟩
/-- `ACD_STS.JRNL_OK`, R250. -/
def ACD_STS_JRNL_OK : Field := ⟨8, 0x0004, 4, 1, .ro, false, fun _ => 0⟩
/-- `ACD_STS.SPARE_LOW`, R250. -/
def ACD_STS_SPARE_LOW : Field := ⟨8, 0x0004, 5, 1, .ro, false, fun _ => 0⟩
/-- `ACD_STS.SPARE_OUT`, R250. -/
def ACD_STS_SPARE_OUT : Field := ⟨8, 0x0004, 6, 1, .ro, false, fun _ => 0⟩
/-- `ACD_STS.UNREC_FULL`, R250. -/
def ACD_STS_UNREC_FULL : Field := ⟨8, 0x0004, 7, 1, .ro, false, fun _ => 0⟩
/-- `ACD_STS.LOST_CNT`, R250. -/
def ACD_STS_LOST_CNT : Field := ⟨8, 0x0004, 8, 6, .ro, false, fun _ => 0⟩
/-- `ACD_STS.DEGR_CNT`, R250. -/
def ACD_STS_DEGR_CNT : Field := ⟨8, 0x0004, 14, 6, .ro, false, fun _ => 0⟩
/-- `ACD_COMMIT.COMMIT`, R59. -/
def ACD_COMMIT_COMMIT : Field := ⟨8, 0x0008, 0, 8, .strobe, false, fun _ => 0⟩
/-- `ACD_COMMIT.CANCEL`, R59. -/
def ACD_COMMIT_CANCEL : Field := ⟨8, 0x0008, 8, 8, .strobe, false, fun _ => 0⟩
/-- `ACD_CMT_STS.PENDING`, R59. -/
def ACD_CMT_STS_PENDING : Field := ⟨8, 0x000C, 0, 8, .ro, false, fun _ => 0⟩
/-- `ACD_CMT_STS.DONE`, R59. -/
def ACD_CMT_STS_DONE : Field := ⟨8, 0x000C, 8, 8, .w1c, false, fun _ => 0⟩
/-- `ACD_CMT_STS.REJECT`, R59. -/
def ACD_CMT_STS_REJECT : Field := ⟨8, 0x000C, 16, 8, .w1c, false, fun _ => 0⟩
/-- `ACD_CMT_STS.DROP`, R59. -/
def ACD_CMT_STS_DROP : Field := ⟨8, 0x000C, 24, 8, .w1c, false, fun _ => 0⟩
/-- `ACD_CODE.K`, R250. -/
def ACD_CODE_K : Field := ⟨8, 0x0010, 0, 5, .shx, false, fun _ => 0x12⟩
/-- `ACD_CODE.M`, R250. -/
def ACD_CODE_M : Field := ⟨8, 0x0010, 8, 3, .shx, false, fun _ => 2⟩
/-- `ACD_MEMBERS`, R250. -/
def ACD_MEMBERS : Field := ⟨8, 0x0014, 0, 32, .shx, false, rstMembers⟩
/-- `ACD_PLC_LO`, R250. -/
def ACD_PLC_LO : Field := ⟨8, 0x0020, 0, 32, .rwl, false, fun _ => 0⟩
/-- `ACD_PLC_HI`, R250. -/
def ACD_PLC_HI : Field := ⟨8, 0x0024, 0, 8, .rwl, false, fun _ => 0⟩
/-- `ACD_PLC_CFG.SEED`, R250. -/
def ACD_PLC_CFG_SEED : Field := ⟨8, 0x0028, 0, 16, .rwl, false, fun _ => 0x5A17⟩
/-- `ACD_PLC_CFG.ZSTEP`, R250. -/
def ACD_PLC_CFG_ZSTEP : Field := ⟨8, 0x0028, 16, 16, .rwl, false, fun _ => 0x9E37⟩
/-- `ACD_PLC_STS.VALID`, R250. -/
def ACD_PLC_STS_VALID : Field := ⟨8, 0x002C, 0, 1, .ro, false, fun _ => 0⟩
/-- `ACD_PLC_STS.GEN_BUSY`, R250. -/
def ACD_PLC_STS_GEN_BUSY : Field := ⟨8, 0x002C, 1, 1, .ro, false, fun _ => 0⟩
/-- `ACD_PLC_STS.PAIR_FAIL`, R250. -/
def ACD_PLC_STS_PAIR_FAIL : Field := ⟨8, 0x002C, 2, 1, .ro, false, fun _ => 0⟩
/-- `ACD_PLC_STS.PAR_FAIL`, R250. -/
def ACD_PLC_STS_PAR_FAIL : Field := ⟨8, 0x002C, 3, 1, .ro, false, fun _ => 0⟩
/-- `ACD_PLC_STS.CRC_FAIL`, R250. -/
def ACD_PLC_STS_CRC_FAIL : Field := ⟨8, 0x002C, 4, 1, .ro, false, fun _ => 0⟩
/-- `ACD_PLC_CRC`, R250. -/
def ACD_PLC_CRC : Field := ⟨8, 0x0030, 0, 32, .ro, false, fun _ => 0⟩
/-- `ACD_LOST`, R250. -/
def ACD_LOST : Field := ⟨8, 0x0038, 0, 32, .ro, false, fun _ => 0⟩
/-- `ACD_DEGR`, R250. -/
def ACD_DEGR : Field := ⟨8, 0x0040, 0, 24, .ro, false, fun _ => 0⟩
/-- `ACD_LOSE.MEMBER`, R250. -/
def ACD_LOSE_MEMBER : Field := ⟨8, 0x0048, 0, 6, .wo, false, fun _ => 0⟩
/-- `ACD_LOSE.KEY`, R250. -/
def ACD_LOSE_KEY : Field := ⟨8, 0x0048, 8, 8, .wo, false, fun _ => 0⟩
/-- `ACD_RBLD.SHARE`, R250. -/
def ACD_RBLD_SHARE : Field := ⟨8, 0x0050, 0, 8, .shx, false, fun _ => 0x19⟩
/-- `ACD_RBLD.BATCH`, R250. -/
def ACD_RBLD_BATCH : Field := ⟨8, 0x0050, 8, 8, .shx, false, fun _ => 0x10⟩
/-- `ACD_RBLD.AUTO`, R250. -/
def ACD_RBLD_AUTO : Field := ⟨8, 0x0050, 16, 1, .shx, false, fun _ => 1⟩
/-- `ACD_RBLD.BUF`, R250. -/
def ACD_RBLD_BUF : Field := ⟨8, 0x0050, 20, 12, .shx, false, fun _ => 0x80⟩
/-- `ACD_RBLD_CUR.ROW`, R250. -/
def ACD_RBLD_CUR_ROW : Field := ⟨8, 0x0058, 0, 15, .ro, false, fun _ => 0⟩
/-- `ACD_RBLD_CUR.ZONE`, R250. -/
def ACD_RBLD_CUR_ZONE : Field := ⟨8, 0x0058, 15, 17, .ro, false, fun _ => 0⟩
/-- `ACD_RBLD_CUR.LEVEL`, R250. -/
def ACD_RBLD_CUR_LEVEL : Field := ⟨8, 0x0058, 32, 3, .ro, false, fun _ => 0⟩
/-- `ACD_RBLD_CUR.PASS`, R250. -/
def ACD_RBLD_CUR_PASS : Field := ⟨8, 0x0058, 35, 4, .ro, false, fun _ => 0⟩
/-- `ACD_RBLD_CUR.ACTIVE`, R250. -/
def ACD_RBLD_CUR_ACTIVE : Field := ⟨8, 0x0058, 39, 1, .ro, false, fun _ => 0⟩
/-- `ACD_RBLD_CUR.DONE`, R250. -/
def ACD_RBLD_CUR_DONE : Field := ⟨8, 0x0058, 40, 24, .ro, false, fun _ => 0⟩
/-- `ACD_RBLD_LEFT`, R250. -/
def ACD_RBLD_LEFT : Field := ⟨8, 0x0060, 0, 32, .ro, false, fun _ => 0⟩
/-- `ACD_RBLD_SKIP`, R250. -/
def ACD_RBLD_SKIP : Field := ⟨8, 0x0064, 0, 32, .ro, false, fun _ => 0⟩
/-- `ACD_JRNL.INTERVAL`, R250. -/
def ACD_JRNL_INTERVAL : Field := ⟨8, 0x0070, 0, 10, .shx, false, fun _ => 0xFA⟩
/-- `ACD_JRNL.LAZY`, R250. -/
def ACD_JRNL_LAZY : Field := ⟨8, 0x0070, 10, 6, .shx, false, fun _ => 2⟩
/-- `ACD_JRNL.CKPT`, R250. -/
def ACD_JRNL_CKPT : Field := ⟨8, 0x0070, 16, 8, .shx, false, fun _ => 0x0A⟩
/-- `ACD_JRNL.CKMIN`, R250. -/
def ACD_JRNL_CKMIN : Field := ⟨8, 0x0070, 24, 8, .shx, false, fun _ => 0x0A⟩
/-- `ACD_JRNL_MEM.A`, R250. -/
def ACD_JRNL_MEM_A : Field := ⟨8, 0x0074, 0, 6, .ro, false, fun _ => 0⟩
/-- `ACD_JRNL_MEM.B`, R250. -/
def ACD_JRNL_MEM_B : Field := ⟨8, 0x0074, 8, 6, .ro, false, fun _ => 0⟩
/-- `ACD_CKPT_MEM.M0`, R250. -/
def ACD_CKPT_MEM_M0 : Field := ⟨8, 0x0078, 0, 6, .ro, false, fun _ => 0⟩
/-- `ACD_CKPT_MEM.M1`, R250. -/
def ACD_CKPT_MEM_M1 : Field := ⟨8, 0x0078, 8, 6, .ro, false, fun _ => 0⟩
/-- `ACD_CKPT_MEM.M2`, R250. -/
def ACD_CKPT_MEM_M2 : Field := ⟨8, 0x0078, 16, 6, .ro, false, fun _ => 0⟩
/-- `ACD_CKPT_MEM.M3`, R250. -/
def ACD_CKPT_MEM_M3 : Field := ⟨8, 0x0078, 24, 6, .ro, false, fun _ => 0⟩
/-- `ACD_JRNL_SEQ`, R250. -/
def ACD_JRNL_SEQ : Field := ⟨8, 0x0080, 0, 64, .ro, true, fun _ => 0⟩
/-- `ACD_SPARE.LOW`, R250. -/
def ACD_SPARE_LOW : Field := ⟨8, 0x0088, 0, 16, .shx, false, fun _ => 0x80⟩
/-- `ACD_SPARE_FREE.FREE`, R250. -/
def ACD_SPARE_FREE_FREE : Field := ⟨8, 0x008C, 0, 16, .ro, false, fun _ => 0⟩
/-- `ACD_SPARE_FREE.MEMBER`, R250. -/
def ACD_SPARE_FREE_MEMBER : Field := ⟨8, 0x008C, 16, 6, .ro, false, fun _ => 0⟩
/-- `ACD_UNREC_LO`, R250. -/
def ACD_UNREC_LO : Field := ⟨8, 0x0090, 0, 32, .rwl, false, fun _ => 0⟩
/-- `ACD_UNREC_HI`, R250. -/
def ACD_UNREC_HI : Field := ⟨8, 0x0094, 0, 8, .rwl, false, fun _ => 0⟩
/-- `ACD_UNREC_CNT`, R250. -/
def ACD_UNREC_CNT : Field := ⟨8, 0x0098, 0, 21, .ro, false, fun _ => 0⟩
/-- `ACD_UNREC_BLK`, R250. -/
def ACD_UNREC_BLK : Field := ⟨8, 0x009C, 0, 32, .ro, false, fun _ => 0⟩
/-- `ACD_RESYNC.ZONES`, R250. -/
def ACD_RESYNC_ZONES : Field := ⟨8, 0x00A0, 0, 18, .ro, false, fun _ => 0⟩
/-- `ACD_RESYNC.SCAN`, R250. -/
def ACD_RESYNC_SCAN : Field := ⟨8, 0x00A0, 31, 1, .ro, false, fun _ => 0⟩
/-- `ACD_CNT_RECON`, R250. -/
def ACD_CNT_RECON : Field := ⟨8, 0x00A4, 0, 32, .ro, true, fun _ => 0⟩
/-- `ACD_CNT_RELOC`, R250. -/
def ACD_CNT_RELOC : Field := ⟨8, 0x00A8, 0, 32, .ro, true, fun _ => 0⟩
/-- `ACD_STREAM.QUANTUM`, R250. -/
def ACD_STREAM_QUANTUM : Field := ⟨8, 0x00B0, 0, 11, .shx, false, fun _ => 0x40⟩
/-- `ACD_PASS.MASK`, R250. -/
def ACD_PASS_MASK : Field := ⟨8, 0x0100, 0, 64, .ro, false, fun _ => 0⟩
/-- `ACD_PASS.START_ROW`, R250. -/
def ACD_PASS_START_ROW : Field := ⟨8, 0x0100, 64, 15, .ro, false, fun _ => 0⟩
/-- `ACD_PASS.START_ZONE`, R250. -/
def ACD_PASS_START_ZONE : Field := ⟨8, 0x0100, 79, 17, .ro, false, fun _ => 0⟩
/-- `ACD_PASS.CUR_ROW`, R250. -/
def ACD_PASS_CUR_ROW : Field := ⟨8, 0x0100, 96, 15, .ro, false, fun _ => 0⟩
/-- `ACD_PASS.CUR_ZONE`, R250. -/
def ACD_PASS_CUR_ZONE : Field := ⟨8, 0x0100, 111, 17, .ro, false, fun _ => 0⟩
/-- `ACD_PASS.LEVEL`, R250. -/
def ACD_PASS_LEVEL : Field := ⟨8, 0x0100, 128, 3, .ro, false, fun _ => 0⟩
/-- `ACD_PASS.VALID`, R250. -/
def ACD_PASS_VALID : Field := ⟨8, 0x0100, 131, 1, .ro, false, fun _ => 0⟩
/-- `ACD_PASS.DONE`, R250. -/
def ACD_PASS_DONE : Field := ⟨8, 0x0100, 132, 1, .ro, false, fun _ => 0⟩
/-- `BUF_CTL.KEEP`, R434. -/
def BUF_CTL_KEEP : Field := ⟨9, 0x0000, 0, 1, .rw, false, fun _ => 0⟩
/-- `BUF_CTL.FENCE`, R434. -/
def BUF_CTL_FENCE : Field := ⟨9, 0x0000, 1, 1, .strobe, false, fun _ => 0⟩
/-- `BUF_STS.SRAM_FILLED`, R434. -/
def BUF_STS_SRAM_FILLED : Field := ⟨9, 0x0004, 0, 1, .ro, false, fun _ => 0⟩
/-- `BUF_STS.TRAINED`, R434. -/
def BUF_STS_TRAINED : Field := ⟨9, 0x0004, 1, 1, .ro, false, fun _ => 0⟩
/-- `BUF_STS.FILLED`, R434. -/
def BUF_STS_FILLED : Field := ⟨9, 0x0004, 2, 1, .ro, false, fun _ => 0⟩
/-- `BUF_STS.KEPT`, R434. -/
def BUF_STS_KEPT : Field := ⟨9, 0x0004, 3, 1, .ro, false, fun _ => 0⟩
/-- `BUF_STS.TRNFAIL`, R434. -/
def BUF_STS_TRNFAIL : Field := ⟨9, 0x0004, 4, 4, .ro, false, fun _ => 0⟩
/-- `BUF_CFG.SIZE`, R434. -/
def BUF_CFG_SIZE : Field := ⟨9, 0x0010, 0, 6, .rwl, false, fun _ => 0⟩
/-- `BUF_CFG.RATE`, R434. -/
def BUF_CFG_RATE : Field := ⟨9, 0x0010, 8, 12, .rwl, false, fun _ => 0⟩
/-- `BUF_CFG.RANKS`, R434. -/
def BUF_CFG_RANKS : Field := ⟨9, 0x0010, 20, 1, .rwl, false, fun _ => 0⟩
/-- `BUF_ECC.MODE`, R434. -/
def BUF_ECC_MODE : Field := ⟨9, 0x0014, 0, 2, .rw, false, fun _ => 0⟩
/-- `BUF_FILL_WM`, R434. -/
def BUF_FILL_WM : Field := ⟨9, 0x0018, 0, 19, .ro, false, fun _ => 0⟩
/-- `BUF_FILL.SHARE`, R434. -/
def BUF_FILL_SHARE : Field := ⟨9, 0x001C, 0, 8, .rw, false, fun _ => 0x32⟩
/-- `BUF_FILL.OCC`, R434. -/
def BUF_FILL_OCC : Field := ⟨9, 0x001C, 8, 7, .ro, false, fun _ => 0⟩
/-- `BUF_SCRB_RATE`, R434. -/
def BUF_SCRB_RATE : Field := ⟨9, 0x0020, 0, 16, .rw, false, fun _ => 0x168⟩
/-- `BUF_SCRB_POS.PAGE`, R434. -/
def BUF_SCRB_POS_PAGE : Field := ⟨9, 0x0024, 0, 19, .ro, false, fun _ => 0⟩
/-- `BUF_SCRB_POS.PASSES`, R434. -/
def BUF_SCRB_POS_PASSES : Field := ⟨9, 0x0024, 24, 8, .ro, false, fun _ => 0⟩
/-- `BUF_MERGE.TMO`, R434. -/
def BUF_MERGE_TMO : Field := ⟨9, 0x0028, 0, 12, .rw, false, fun _ => 0xC8⟩
/-- `BUF_MERGE.OCC`, R434. -/
def BUF_MERGE_OCC : Field := ⟨9, 0x0028, 16, 7, .ro, false, fun _ => 0⟩
/-- `BUF_RETIRE_BASE`, R434. -/
def BUF_RETIRE_BASE : Field := ⟨9, 0x0030, 0, 19, .rwl, false, fun _ => 0⟩
/-- `BUF_RETIRE_CTL.INDEX`, R434. -/
def BUF_RETIRE_CTL_INDEX : Field := ⟨9, 0x0034, 0, 10, .rw, false, fun _ => 0⟩
/-- `BUF_RETIRE_CTL.PAGE`, R434. -/
def BUF_RETIRE_CTL_PAGE : Field := ⟨9, 0x0034, 10, 19, .rw, false, fun _ => 0⟩
/-- `BUF_RETIRE_CTL.GO`, R434. -/
def BUF_RETIRE_CTL_GO : Field := ⟨9, 0x0034, 29, 1, .strobe, false, fun _ => 0⟩
/-- `BUF_RETIRE_CTL.BUSY`, R434. -/
def BUF_RETIRE_CTL_BUSY : Field := ⟨9, 0x0034, 30, 1, .ro, false, fun _ => 0⟩
/-- `BUF_RETIRE_CTL.ERR`, R434. -/
def BUF_RETIRE_CTL_ERR : Field := ⟨9, 0x0034, 31, 1, .w1c, false, fun _ => 0⟩
/-- `BUF_RETIRE_CNT`, R434. -/
def BUF_RETIRE_CNT : Field := ⟨9, 0x0038, 0, 11, .ro, true, fun _ => 0⟩
/-- `BUF_ERR_CE`, R434. -/
def BUF_ERR_CE : Field := ⟨9, 0x0040, 0, 32, .ro, true, fun _ => 0⟩
/-- `BUF_ERR_UE`, R434. -/
def BUF_ERR_UE : Field := ⟨9, 0x0044, 0, 32, .ro, true, fun _ => 0⟩
/-- `BUF_SRAM_CE`, R434. -/
def BUF_SRAM_CE : Field := ⟨9, 0x0048, 0, 32, .ro, true, fun _ => 0⟩
/-- `BUF_SRAM_UE`, R434. -/
def BUF_SRAM_UE : Field := ⟨9, 0x004C, 0, 32, .ro, true, fun _ => 0⟩
/-- `BUF_ELOG_IDX`, R434. -/
def BUF_ELOG_IDX : Field := ⟨9, 0x0050, 0, 8, .rw, false, fun _ => 0⟩
/-- `BUF_ELOG_HEAD.HEAD`, R434. -/
def BUF_ELOG_HEAD_HEAD : Field := ⟨9, 0x0054, 0, 8, .ro, true, fun _ => 0⟩
/-- `BUF_ELOG_HEAD.WRAPPED`, R434. -/
def BUF_ELOG_HEAD_WRAPPED : Field := ⟨9, 0x0054, 8, 1, .ro, true, fun _ => 0⟩
/-- `BUF_DMAHALT`, R434. -/
def BUF_DMAHALT : Field := ⟨9, 0x0070, 0, 16, .w1c, false, fun _ => 0⟩
/-- `BUF_TRAFFIC.NOW`, R434. -/
def BUF_TRAFFIC_NOW : Field := ⟨9, 0x0074, 0, 16, .ro, false, fun _ => 0⟩
/-- `BUF_TRAFFIC.PEAK`, R434. -/
def BUF_TRAFFIC_PEAK : Field := ⟨9, 0x0074, 16, 16, .rc, false, fun _ => 0⟩
/-- `BUF_DIAG_ADR`, R434. -/
def BUF_DIAG_ADR : Field := ⟨9, 0x0080, 0, 32, .rw, false, fun _ => 0⟩
/-- `BUF_RMAP.PAGE`, R434. -/
def BUF_RMAP_PAGE : Field := ⟨9, 0x1000, 0, 19, .rwl, true, fun _ => 0⟩
/-- `BUF_RMAP.VALID`, R434. -/
def BUF_RMAP_VALID : Field := ⟨9, 0x1000, 31, 1, .rwl, true, fun _ => 0⟩
/-- `PCI_CFG.MAXSPD`, R531. -/
def PCI_CFG_MAXSPD : Field := ⟨10, 0x0000, 0, 3, .rwl, false, fun _ => 5⟩
/-- `PCI_CFG.MAXW`, R531. -/
def PCI_CFG_MAXW : Field := ⟨10, 0x0000, 4, 4, .rwl, false, fun _ => 8⟩
/-- `PCI_CFG.INTX_EN`, R531. -/
def PCI_CFG_INTX_EN : Field := ⟨10, 0x0000, 8, 1, .rwl, false, fun _ => 1⟩
/-- `PCI_STS.DL_UP`, R531. -/
def PCI_STS_DL_UP : Field := ⟨10, 0x0004, 0, 1, .ro, false, fun _ => 0⟩
/-- `PCI_STS.SPEED`, R531. -/
def PCI_STS_SPEED : Field := ⟨10, 0x0004, 1, 3, .ro, false, fun _ => 0⟩
/-- `PCI_STS.WIDTH`, R531. -/
def PCI_STS_WIDTH : Field := ⟨10, 0x0004, 4, 4, .ro, false, fun _ => 0⟩
/-- `PCI_STS.LANE_REV`, R531. -/
def PCI_STS_LANE_REV : Field := ⟨10, 0x0004, 8, 1, .ro, false, fun _ => 0⟩
/-- `PCI_STS.DSTATE`, R531. -/
def PCI_STS_DSTATE : Field := ⟨10, 0x0004, 9, 2, .ro, false, fun _ => 0⟩
/-- `PCI_STS.LSTATE`, R531. -/
def PCI_STS_LSTATE : Field := ⟨10, 0x0004, 11, 3, .ro, false, fun _ => 0⟩
/-- `PCI_STS.BME`, R531. -/
def PCI_STS_BME : Field := ⟨10, 0x0004, 14, 1, .ro, false, fun _ => 0⟩
/-- `PCI_STS.FROZEN`, R531. -/
def PCI_STS_FROZEN : Field := ⟨10, 0x0004, 15, 1, .ro, false, fun _ => 0⟩
/-- `PCI_IDS.SSVID`, R531. -/
def PCI_IDS_SSVID : Field := ⟨10, 0x0010, 0, 16, .rwl, false, fun _ => 0⟩
/-- `PCI_IDS.SSID`, R531. -/
def PCI_IDS_SSID : Field := ⟨10, 0x0010, 16, 16, .rwl, false, fun _ => 0⟩
/-- `PCI_FRZ.FROZEN`, R531. -/
def PCI_FRZ_FROZEN : Field := ⟨10, 0x0014, 0, 1, .ro, false, fun _ => 0⟩
/-- `PCI_FRZ.FREEZE`, R531. -/
def PCI_FRZ_FREEZE : Field := ⟨10, 0x0014, 1, 1, .strobe, false, fun _ => 0⟩
/-- `PCI_FRZ.RELEASE`, R531. -/
def PCI_FRZ_RELEASE : Field := ⟨10, 0x0014, 2, 1, .strobe, false, fun _ => 0⟩
/-- `PCI_FRZ.BY_FAULT`, R531. -/
def PCI_FRZ_BY_FAULT : Field := ⟨10, 0x0014, 3, 1, .ro, false, fun _ => 0⟩
/-- `PCI_FRZ.DROP`, R531. -/
def PCI_FRZ_DROP : Field := ⟨10, 0x0014, 16, 16, .ro, false, fun _ => 0⟩
/-- `PCI_CTO.RANGE`, R531. -/
def PCI_CTO_RANGE : Field := ⟨10, 0x0018, 0, 4, .ro, false, fun _ => 0⟩
/-- `PCI_CTO.DIS`, R531. -/
def PCI_CTO_DIS : Field := ⟨10, 0x0018, 4, 1, .ro, false, fun _ => 0⟩
/-- `PCI_CTO.VALUE`, R531. -/
def PCI_CTO_VALUE : Field := ⟨10, 0x0018, 8, 24, .ro, false, fun _ => 0xFA0⟩
/-- `PCI_TAGS.INUSE`, R531. -/
def PCI_TAGS_INUSE : Field := ⟨10, 0x001C, 0, 10, .ro, false, fun _ => 0⟩
/-- `PCI_TAGS.QUAR`, R531. -/
def PCI_TAGS_QUAR : Field := ⟨10, 0x001C, 16, 10, .ro, false, fun _ => 0⟩
/-- `PCI_CNT_UC.UC`, R531. -/
def PCI_CNT_UC_UC : Field := ⟨10, 0x0020, 0, 16, .ro, false, fun _ => 0⟩
/-- `PCI_CNT_UC.SILENT`, R531. -/
def PCI_CNT_UC_SILENT : Field := ⟨10, 0x0020, 16, 16, .ro, false, fun _ => 0⟩
/-- `PCI_CNT_CTO`, R531. -/
def PCI_CNT_CTO : Field := ⟨10, 0x0024, 0, 32, .ro, true, fun _ => 0⟩
/-- `PCI_CNT_LINK.DOWN`, R531. -/
def PCI_CNT_LINK_DOWN : Field := ⟨10, 0x0028, 0, 16, .ro, true, fun _ => 0⟩
/-- `PCI_CNT_LINK.RECOV`, R531. -/
def PCI_CNT_LINK_RECOV : Field := ⟨10, 0x0028, 16, 16, .ro, true, fun _ => 0⟩
/-- `PCI_ASPM.L1IDLE`, R531. -/
def PCI_ASPM_L1IDLE : Field := ⟨10, 0x002C, 0, 8, .rw, false, fun _ => 0x0A⟩
/-- `PCI_PME.CRIT`, R531. -/
def PCI_PME_CRIT : Field := ⟨10, 0x0030, 0, 1, .rw, false, fun _ => 1⟩
/-- `PCI_PME.FAULT`, R531. -/
def PCI_PME_FAULT : Field := ⟨10, 0x0030, 1, 1, .rw, false, fun _ => 1⟩
/-- `PCI_PME.CLAIK`, R531. -/
def PCI_PME_CLAIK : Field := ⟨10, 0x0030, 2, 1, .rw, false, fun _ => 1⟩
/-- `PCI_PME.PEND`, R531. -/
def PCI_PME_PEND : Field := ⟨10, 0x0030, 8, 1, .w1c, false, fun _ => 0⟩
/-- `PCI_CNT_BAR4.BAR4`, R531. -/
def PCI_CNT_BAR4_BAR4 : Field := ⟨10, 0x0034, 0, 16, .ro, false, fun _ => 0⟩
/-- `PCI_CNT_BAR4.BAR2`, R531. -/
def PCI_CNT_BAR4_BAR2 : Field := ⟨10, 0x0034, 16, 16, .ro, false, fun _ => 0⟩
/-- `PCI_WIN.EN`, R531. -/
def PCI_WIN_EN : Field := ⟨10, 0x0040, 0, 1, .rwl, false, fun _ => 0⟩
/-- `PCI_WIN.WREN`, R531. -/
def PCI_WIN_WREN : Field := ⟨10, 0x0040, 1, 1, .rwl, false, fun _ => 0⟩
/-- `PCI_WIN.BASE`, R531. -/
def PCI_WIN_BASE : Field := ⟨10, 0x0040, 14, 26, .rwl, false, fun _ => 0⟩
/-- `NVQ_CTL.RUN`, R487. -/
def NVQ_CTL_RUN : Field := ⟨11, 0x0000, 0, 1, .rw, false, fun _ => 0⟩
/-- `NVQ_CTL.HOLD`, R487. -/
def NVQ_CTL_HOLD : Field := ⟨11, 0x0000, 1, 1, .rw, false, fun _ => 0⟩
/-- `NVQ_STS.RDY`, R487. -/
def NVQ_STS_RDY : Field := ⟨11, 0x0004, 0, 1, .ro, false, fun _ => 0⟩
/-- `NVQ_STS.FETCH_HELD`, R487. -/
def NVQ_STS_FETCH_HELD : Field := ⟨11, 0x0004, 1, 1, .ro, false, fun _ => 0⟩
/-- `NVQ_STS.ACTIVATING`, R487. -/
def NVQ_STS_ACTIVATING : Field := ⟨11, 0x0004, 2, 1, .ro, false, fun _ => 0⟩
/-- `NVQ_STS.MEDIA_READY`, R487. -/
def NVQ_STS_MEDIA_READY : Field := ⟨11, 0x0004, 3, 1, .ro, false, fun _ => 0⟩
/-- `NVQ_STS.PS`, R487. -/
def NVQ_STS_PS : Field := ⟨11, 0x0004, 4, 3, .ro, false, fun _ => 0⟩
/-- `NVQ_STS.WCE`, R487. -/
def NVQ_STS_WCE : Field := ⟨11, 0x0004, 7, 1, .ro, false, fun _ => 1⟩
/-- `NVQ_INFL.INFL`, R487. -/
def NVQ_INFL_INFL : Field := ⟨11, 0x0010, 0, 14, .ro, false, fun _ => 0⟩
/-- `NVQ_INFL.HELD`, R487. -/
def NVQ_INFL_HELD : Field := ⟨11, 0x0010, 16, 14, .ro, false, fun _ => 0⟩
/-- `NVQ_SPINWAIT`, R487. -/
def NVQ_SPINWAIT : Field := ⟨11, 0x0014, 0, 16, .rw, false, fun _ => 0x3C⟩
/-- `NVQ_FRONT.WAIT`, R487. -/
def NVQ_FRONT_WAIT : Field := ⟨11, 0x0018, 0, 16, .rw, false, fun _ => 0x1F4⟩
/-- `NVQ_CMB.SIZE`, R487. -/
def NVQ_CMB_SIZE : Field := ⟨11, 0x001C, 0, 16, .rwl, false, fun _ => 0⟩
/-- `NVQ_SQEN`, R487. -/
def NVQ_SQEN : Field := ⟨11, 0x0020, 0, 32, .ro, false, fun _ => 0⟩
/-- `NVQ_ZACT.ACTIVE`, R487. -/
def NVQ_ZACT_ACTIVE : Field := ⟨11, 0x0040, 0, 10, .ro, false, fun _ => 0⟩
/-- `NVQ_ZACT.OPENED`, R487. -/
def NVQ_ZACT_OPENED : Field := ⟨11, 0x0040, 16, 9, .ro, false, fun _ => 0⟩
/-- `NVQ_CNT_CMD`, R487. -/
def NVQ_CNT_CMD : Field := ⟨11, 0x0050, 0, 32, .ro, false, fun _ => 0⟩
/-- `NVQ_CNT_ERR`, R487. -/
def NVQ_CNT_ERR : Field := ⟨11, 0x0054, 0, 32, .ro, false, fun _ => 0⟩
/-- `NVQ_CNT_NNR`, R487. -/
def NVQ_CNT_NNR : Field := ⟨11, 0x0058, 0, 32, .ro, false, fun _ => 0⟩
/-- `NVQ_CNT_ABRT`, R487. -/
def NVQ_CNT_ABRT : Field := ⟨11, 0x005C, 0, 32, .ro, false, fun _ => 0⟩
/-- `NVQ_CNT_DBERR.DB`, R487. -/
def NVQ_CNT_DBERR_DB : Field := ⟨11, 0x0060, 0, 16, .ro, false, fun _ => 0⟩
/-- `NVQ_CNT_DBERR.UNLK`, R487. -/
def NVQ_CNT_DBERR_UNLK : Field := ⟨11, 0x0060, 16, 16, .ro, false, fun _ => 0⟩
/-- `FLT_CTL.FIRSTSEV`, R560. -/
def FLT_CTL_FIRSTSEV : Field := ⟨12, 0x0000, 0, 2, .rw, false, fun _ => 2⟩
/-- `FLT_CTL.FAULTN`, R560. -/
def FLT_CTL_FAULTN : Field := ⟨12, 0x0000, 2, 2, .rw, false, fun _ => 3⟩
/-- `FLT_SAFE.ACTIVE`, R560. -/
def FLT_SAFE_ACTIVE : Field := ⟨12, 0x0004, 0, 1, .ro, false, fun _ => 0⟩
/-- `FLT_SAFE.LOCKED`, R560. -/
def FLT_SAFE_LOCKED : Field := ⟨12, 0x0004, 1, 1, .ro, false, fun _ => 0⟩
/-- `FLT_SAFE.ENTRIES`, R560. -/
def FLT_SAFE_ENTRIES : Field := ⟨12, 0x0004, 16, 16, .ro, true, fun _ => 0⟩
/-- `FLT_INJECT.SRC`, R560. -/
def FLT_INJECT_SRC : Field := ⟨12, 0x0008, 0, 9, .rw, false, fun _ => 0⟩
/-- `FLT_INJECT.INST`, R560. -/
def FLT_INJECT_INST : Field := ⟨12, 0x0008, 16, 8, .rw, false, fun _ => 0⟩
/-- `FLT_INJECT.ASSERT`, R560. -/
def FLT_INJECT_ASSERT : Field := ⟨12, 0x0008, 24, 1, .rw, false, fun _ => 0⟩
/-- `FLT_FIRST.SRC`, R560. -/
def FLT_FIRST_SRC : Field := ⟨12, 0x0010, 0, 9, .ro, true, fun _ => 0⟩
/-- `FLT_FIRST.SEV`, R560. -/
def FLT_FIRST_SEV : Field := ⟨12, 0x0010, 9, 2, .ro, true, fun _ => 0⟩
/-- `FLT_FIRST.INST`, R560. -/
def FLT_FIRST_INST : Field := ⟨12, 0x0010, 11, 8, .ro, true, fun _ => 0⟩
/-- `FLT_FIRST.VALID`, R560. -/
def FLT_FIRST_VALID : Field := ⟨12, 0x0010, 31, 1, .w1c, true, fun _ => 0⟩
/-- `FLT_FIRST_LO`, R560. -/
def FLT_FIRST_LO : Field := ⟨12, 0x0014, 0, 32, .ro, true, fun _ => 0⟩
/-- `FLT_FIRST_HI`, R560. -/
def FLT_FIRST_HI : Field := ⟨12, 0x0018, 0, 32, .ro, true, fun _ => 0⟩
/-- `FLT_FIRST_TIME`, R560. -/
def FLT_FIRST_TIME : Field := ⟨12, 0x001C, 0, 32, .ro, true, fun _ => 0⟩
/-- `FLT_QUIET.QUIET`, R560. -/
def FLT_QUIET_QUIET : Field := ⟨12, 0x0040, 0, 16, .rw, false, rstQuiet⟩
/-- `FLT_QUIET.WINDOW`, R560. -/
def FLT_QUIET_WINDOW : Field := ⟨12, 0x0040, 16, 16, .rw, false, rstWindow⟩
/-- `FLT_STS`, R535. -/
def FLT_STS : Field := ⟨12, 0x0100, 0, 32, .w1c, true, fun _ => 0⟩
/-- `FLT_LIVE`, R534. -/
def FLT_LIVE : Field := ⟨12, 0x0140, 0, 32, .ro, false, fun _ => 0⟩
/-- `FLT_SEV.SEV`, R560. -/
def FLT_SEV_SEV : Field := ⟨12, 0x0800, 0, 2, .rw, true, rstSev⟩
/-- `FLT_SEV.LOCK`, R560. -/
def FLT_SEV_LOCK : Field := ⟨12, 0x0800, 2, 1, .ro, true, rstLock⟩
/-- `FLT_SEV.AER`, R560. -/
def FLT_SEV_AER : Field := ⟨12, 0x0800, 3, 1, .rw, true, rstAer⟩
/-- `FLT_SEV.AEN`, R560. -/
def FLT_SEV_AEN : Field := ⟨12, 0x0800, 4, 1, .rw, true, rstAen⟩
/-- `FLT_SEV.WAKE`, R560. -/
def FLT_SEV_WAKE : Field := ⟨12, 0x0800, 5, 1, .rw, true, rstWake⟩
/-- `FLT_SEV.QCLASS`, R560. -/
def FLT_SEV_QCLASS : Field := ⟨12, 0x0800, 8, 3, .rw, true, rstQclass⟩
/-- `FLT_SEV.LIMIT`, R560. -/
def FLT_SEV_LIMIT : Field := ⟨12, 0x0800, 16, 8, .rw, true, rstLimit⟩
/-- `FLT_CNT.RCNT`, R560. -/
def FLT_CNT_RCNT : Field := ⟨12, 0x1000, 0, 8, .ro, false, fun _ => 0⟩
/-- `FLT_CNT.FSTATE`, R560. -/
def FLT_CNT_FSTATE : Field := ⟨12, 0x1000, 8, 1, .ro, false, fun _ => 0⟩
/-- `FLT_CNT.LOCKOUT`, R560. -/
def FLT_CNT_LOCKOUT : Field := ⟨12, 0x1000, 9, 1, .ro, false, fun _ => 0⟩
/-- `FLT_CNT.ASSERTS`, R560. -/
def FLT_CNT_ASSERTS : Field := ⟨12, 0x1000, 16, 16, .ro, true, fun _ => 0⟩
/-- `BNR_CTL.DUMP`, R560. -/
def BNR_CTL_DUMP : Field := ⟨13, 0x0000, 0, 1, .strobe, false, fun _ => 0⟩
/-- `BNR_STS.HEAD`, R560. -/
def BNR_STS_HEAD : Field := ⟨13, 0x0004, 0, 12, .ro, true, fun _ => 0⟩
/-- `BNR_STS.WRAPPED`, R560. -/
def BNR_STS_WRAPPED : Field := ⟨13, 0x0004, 12, 1, .ro, true, fun _ => 0⟩
/-- `BNR_STS.DUMPING`, R560. -/
def BNR_STS_DUMPING : Field := ⟨13, 0x0004, 13, 1, .ro, true, fun _ => 0⟩
/-- `BNR_STS.NOSLOT`, R560. -/
def BNR_STS_NOSLOT : Field := ⟨13, 0x0004, 14, 1, .ro, true, fun _ => 0⟩
/-- `BNR_STS.SEQ`, R560. -/
def BNR_STS_SEQ : Field := ⟨13, 0x0004, 16, 16, .ro, true, fun _ => 0⟩
/-- `BNR_RDIDX.INDEX`, R560. -/
def BNR_RDIDX_INDEX : Field := ⟨13, 0x0010, 0, 12, .rw, false, fun _ => 0⟩
/-- `BNR_RDIDX.AUTOINC`, R560. -/
def BNR_RDIDX_AUTOINC : Field := ⟨13, 0x0010, 31, 1, .rw, false, fun _ => 0⟩
/-- `BNR_FW`, R555. -/
def BNR_FW : Field := ⟨13, 0x0040, 0, 32, .rw, false, fun _ => 0⟩
/-- `BNR_FWCTL.CODE`, R555. -/
def BNR_FWCTL_CODE : Field := ⟨13, 0x0048, 0, 9, .rw, false, fun _ => 0⟩
/-- `BNR_FWCTL.GO`, R555. -/
def BNR_FWCTL_GO : Field := ⟨13, 0x0048, 31, 1, .strobe, false, fun _ => 0⟩
/-- `BNR_NOR_BASE`, R560. -/
def BNR_NOR_BASE : Field := ⟨13, 0x0050, 0, 32, .rwl, false, fun _ => 0⟩
/-- `BNR_NOR_FREE`, R556. -/
def BNR_NOR_FREE : Field := ⟨13, 0x0054, 0, 8, .w1s, true, fun _ => 0⟩
/-- `BNR_NOR_LAST.SLOT`, R560. -/
def BNR_NOR_LAST_SLOT : Field := ⟨13, 0x0058, 0, 3, .ro, true, fun _ => 0⟩
/-- `BNR_NOR_LAST.COMPLETE`, R560. -/
def BNR_NOR_LAST_COMPLETE : Field := ⟨13, 0x0058, 3, 1, .ro, true, fun _ => 0⟩
/-- `BNR_NOR_LAST.ENTRIES`, R560. -/
def BNR_NOR_LAST_ENTRIES : Field := ⟨13, 0x0058, 4, 12, .ro, true, fun _ => 0⟩
/-- `MGR_CTL.RUN`, R622. -/
def MGR_CTL_RUN : Field := ⟨14, 0x0000, 0, 1, .rw, false, fun _ => 0⟩
/-- `MGR_CTL.DISCOVER`, R622. -/
def MGR_CTL_DISCOVER : Field := ⟨14, 0x0000, 1, 1, .strobe, false, fun _ => 0⟩
/-- `MGR_CTL.SYNC_EN`, R622. -/
def MGR_CTL_SYNC_EN : Field := ⟨14, 0x0000, 2, 1, .rw, false, fun _ => 0⟩
/-- `MGR_STS.ASSIGNED`, R622. -/
def MGR_STS_ASSIGNED : Field := ⟨14, 0x0004, 0, 7, .ro, false, fun _ => 0⟩
/-- `MGR_STS.INSVC`, R622. -/
def MGR_STS_INSVC : Field := ⟨14, 0x0004, 8, 7, .ro, false, fun _ => 0⟩
/-- `MGR_STS.LOST`, R622. -/
def MGR_STS_LOST : Field := ⟨14, 0x0004, 16, 7, .ro, false, fun _ => 0⟩
/-- `MGR_STS.READY`, R622. -/
def MGR_STS_READY : Field := ⟨14, 0x0004, 23, 1, .ro, false, fun _ => 0⟩
/-- `MGR_GEOM.USHIFT`, R622. -/
def MGR_GEOM_USHIFT : Field := ⟨14, 0x0010, 0, 2, .rwl, false, fun _ => 3⟩
/-- `MGR_GEOM.G`, R622. -/
def MGR_GEOM_G : Field := ⟨14, 0x0010, 4, 4, .rwl, false, fun _ => 2⟩
/-- `MGR_GEOM.SLACK`, R622. -/
def MGR_GEOM_SLACK : Field := ⟨14, 0x0010, 8, 8, .rwl, false, fun _ => 4⟩
/-- `MGR_PEERCFG.NQ`, R622. -/
def MGR_PEERCFG_NQ : Field := ⟨14, 0x0014, 0, 4, .rwl, false, fun _ => 4⟩
/-- `MGR_PEERCFG.TMO`, R622. -/
def MGR_PEERCFG_TMO : Field := ⟨14, 0x0014, 8, 8, .rwl, false, fun _ => 0x14⟩
/-- `MGR_PEERCFG.RETRY`, R622. -/
def MGR_PEERCFG_RETRY : Field := ⟨14, 0x0014, 16, 4, .rwl, false, fun _ => 2⟩
/-- `MGR_TOK.BUDGET`, R622. -/
def MGR_TOK_BUDGET : Field := ⟨14, 0x0018, 0, 16, .ro, false, fun _ => 0⟩
/-- `MGR_TOK.START`, R622. -/
def MGR_TOK_START : Field := ⟨14, 0x0018, 16, 8, .rw, false, fun _ => 6⟩
/-- `MGR_TOK.RUN`, R622. -/
def MGR_TOK_RUN : Field := ⟨14, 0x0018, 24, 8, .rw, false, fun _ => 2⟩
/-- `MGR_TOKUSE.GRANTS`, R622. -/
def MGR_TOKUSE_GRANTS : Field := ⟨14, 0x001C, 0, 16, .ro, false, fun _ => 0⟩
/-- `MGR_TOKUSE.USED`, R622. -/
def MGR_TOKUSE_USED : Field := ⟨14, 0x001C, 16, 16, .ro, false, fun _ => 0⟩
/-- `MGR_SYNC.RPM`, R622. -/
def MGR_SYNC_RPM : Field := ⟨14, 0x0020, 0, 13, .rw, false, fun _ => 0x1518⟩
/-- `MGR_SYNC.PPR`, R622. -/
def MGR_SYNC_PPR : Field := ⟨14, 0x0020, 13, 6, .rw, false, fun _ => 0⟩
/-- `MGR_SYNC.EN`, R622. -/
def MGR_SYNC_EN : Field := ⟨14, 0x0020, 19, 1, .rw, false, fun _ => 0⟩
/-- `MGR_POLL.PERIOD`, R622. -/
def MGR_POLL_PERIOD : Field := ⟨14, 0x0024, 0, 8, .rw, false, fun _ => 0x0A⟩
/-- `MGR_POLL.HARV`, R622. -/
def MGR_POLL_HARV : Field := ⟨14, 0x0024, 8, 8, .rw, false, fun _ => 0x3C⟩
/-- `MGR_FW.PAR`, R622. -/
def MGR_FW_PAR : Field := ⟨14, 0x0028, 0, 4, .rw, false, fun _ => 4⟩
/-- `MGR_FW.GO`, R622. -/
def MGR_FW_GO : Field := ⟨14, 0x0028, 8, 1, .strobe, false, fun _ => 0⟩
/-- `MGR_FW.BUSY`, R622. -/
def MGR_FW_BUSY : Field := ⟨14, 0x0028, 9, 1, .ro, false, fun _ => 0⟩
/-- `MGR_FW.FAIL`, R622. -/
def MGR_FW_FAIL : Field := ⟨14, 0x0028, 16, 8, .ro, false, fun _ => 0⟩
/-- `MGR_HARV.SIZE`, R622. -/
def MGR_HARV_SIZE : Field := ⟨14, 0x002C, 0, 16, .rwl, false, fun _ => 0x40⟩
/-- `MGR_ORD.LOST`, R622. -/
def MGR_ORD_LOST : Field := ⟨14, 0x0030, 0, 16, .ro, false, fun _ => 0⟩
/-- `MGR_ORD.HELD`, R622. -/
def MGR_ORD_HELD : Field := ⟨14, 0x0030, 16, 16, .ro, false, fun _ => 0⟩
/-- `MGR_NODE.STATE`, R622. -/
def MGR_NODE_STATE : Field := ⟨14, 0x0100, 0, 2, .ro, false, fun _ => 0⟩
/-- `MGR_NODE.LOADOK`, R622. -/
def MGR_NODE_LOADOK : Field := ⟨14, 0x0100, 2, 1, .ro, false, fun _ => 0⟩
/-- `MGR_NODE.GRANT`, R622. -/
def MGR_NODE_GRANT : Field := ⟨14, 0x0100, 8, 8, .ro, false, fun _ => 0⟩
/-- `MGR_NODE.USED`, R622. -/
def MGR_NODE_USED : Field := ⟨14, 0x0100, 16, 8, .ro, false, fun _ => 0⟩
/-- `MGR_NODE.MISSED`, R622. -/
def MGR_NODE_MISSED : Field := ⟨14, 0x0100, 24, 8, .ro, false, fun _ => 0⟩
/-- `MGR_NODE.EUI`, R622. -/
def MGR_NODE_EUI : Field := ⟨14, 0x0100, 32, 64, .ro, false, fun _ => 0⟩
/-- `MGR_NODE.POD`, R622. -/
def MGR_NODE_POD : Field := ⟨14, 0x0100, 96, 18, .ro, false, fun _ => 0⟩
/-- `HLK_CTL.EN`, R137. -/
def HLK_CTL_EN : Field := ⟨15, 0x0000, 0, 1, .rw, false, fun _ => 0⟩
/-- `HLK_CTL.TRAIN`, R137. -/
def HLK_CTL_TRAIN : Field := ⟨15, 0x0000, 1, 1, .w1s, false, fun _ => 0⟩
/-- `HLK_CTL.SWAP_HINT`, R137. -/
def HLK_CTL_SWAP_HINT : Field := ⟨15, 0x0000, 2, 1, .rw, false, fun _ => 0⟩
/-- `HLK_STS.UP`, R137. -/
def HLK_STS_UP : Field := ⟨15, 0x0004, 0, 1, .ro, false, fun _ => 0⟩
/-- `HLK_STS.ABSENT`, R137. -/
def HLK_STS_ABSENT : Field := ⟨15, 0x0004, 1, 1, .ro, false, fun _ => 0⟩
/-- `HLK_STS.SWAPPED`, R137. -/
def HLK_STS_SWAPPED : Field := ⟨15, 0x0004, 2, 1, .ro, false, fun _ => 0⟩
/-- `HLK_STS.HINT_DIFF`, R137. -/
def HLK_STS_HINT_DIFF : Field := ⟨15, 0x0004, 3, 1, .ro, false, fun _ => 0⟩
/-- `HLK_STS.A_INV`, R137. -/
def HLK_STS_A_INV : Field := ⟨15, 0x0004, 4, 1, .ro, false, fun _ => 0⟩
/-- `HLK_STS.B_INV`, R137. -/
def HLK_STS_B_INV : Field := ⟨15, 0x0004, 5, 1, .ro, false, fun _ => 0⟩
/-- `HLK_WEN`, R137. -/
def HLK_WEN : Field := ⟨15, 0x0010, 0, 12, .rw, false, fun _ => 0⟩
/-- `HLK_REGCMD.ADDR`, R137. -/
def HLK_REGCMD_ADDR : Field := ⟨15, 0x0014, 0, 8, .rw, false, fun _ => 0⟩
/-- `HLK_REGCMD.HEAD`, R137. -/
def HLK_REGCMD_HEAD : Field := ⟨15, 0x0014, 8, 4, .rw, false, fun _ => 0⟩
/-- `HLK_REGCMD.RD`, R137. -/
def HLK_REGCMD_RD : Field := ⟨15, 0x0014, 12, 1, .rw, false, fun _ => 0⟩
/-- `HLK_REGCMD.GO`, R137. -/
def HLK_REGCMD_GO : Field := ⟨15, 0x0014, 13, 1, .strobe, false, fun _ => 0⟩
/-- `HLK_REGCMD.BUSY`, R137. -/
def HLK_REGCMD_BUSY : Field := ⟨15, 0x0014, 14, 1, .ro, false, fun _ => 0⟩
/-- `HLK_REGCMD.ERR`, R137. -/
def HLK_REGCMD_ERR : Field := ⟨15, 0x0014, 15, 1, .w1c, false, fun _ => 0⟩
/-- `HLK_REGCMD.WDATA`, R137. -/
def HLK_REGCMD_WDATA : Field := ⟨15, 0x0014, 16, 16, .rw, false, fun _ => 0⟩
/-- `HLK_REGDAT`, R137. -/
def HLK_REGDAT : Field := ⟨15, 0x0018, 0, 16, .ro, false, fun _ => 0⟩
/-- `HLK_FLAG`, R137. -/
def HLK_FLAG : Field := ⟨15, 0x0020, 0, 32, .w1c, false, fun _ => 0⟩
/-- `HLK_ERR.CRC`, R137. -/
def HLK_ERR_CRC : Field := ⟨15, 0x0030, 0, 16, .ro, false, fun _ => 0⟩
/-- `HLK_ERR.RESENDS`, R137. -/
def HLK_ERR_RESENDS : Field := ⟨15, 0x0030, 16, 16, .ro, false, fun _ => 0⟩
/-- `HLK_LAT`, R137. -/
def HLK_LAT : Field := ⟨15, 0x0034, 0, 16, .ro, false, fun _ => 0⟩
/-- `CLB_CTL.UPEN`, R622. -/
def CLB_CTL_UPEN : Field := ⟨16, 0x0000, 0, 1, .rwl, false, fun _ => 1⟩
/-- `CLB_CTL.DNEN`, R622. -/
def CLB_CTL_DNEN : Field := ⟨16, 0x0000, 1, 1, .rwl, false, fun _ => 0⟩
/-- `CLB_NODE.ADDR`, R622. -/
def CLB_NODE_ADDR : Field := ⟨16, 0x0004, 0, 7, .ro, true, fun _ => 0x7E⟩
/-- `CLB_NODE.ASSIGNED`, R622. -/
def CLB_NODE_ASSIGNED : Field := ⟨16, 0x0004, 7, 1, .ro, true, fun _ => 0⟩
/-- `CLB_NODE.POD`, R622. -/
def CLB_NODE_POD : Field := ⟨16, 0x0004, 8, 18, .ro, true, fun _ => 0⟩
/-- `CLB_NODE.LEVEL`, R622. -/
def CLB_NODE_LEVEL : Field := ⟨16, 0x0004, 26, 2, .ro, true, fun _ => 0⟩
/-- `CLB_UPCNT.VALID`, R622. -/
def CLB_UPCNT_VALID : Field := ⟨16, 0x0008, 0, 16, .ro, false, fun _ => 0⟩
/-- `CLB_UPCNT.CRC`, R622. -/
def CLB_UPCNT_CRC : Field := ⟨16, 0x0008, 16, 16, .ro, false, fun _ => 0⟩
/-- `CLB_DNCNT.VALID`, R622. -/
def CLB_DNCNT_VALID : Field := ⟨16, 0x000C, 0, 16, .ro, false, fun _ => 0⟩
/-- `CLB_DNCNT.CRC`, R622. -/
def CLB_DNCNT_CRC : Field := ⟨16, 0x000C, 16, 16, .ro, false, fun _ => 0⟩
/-- `CLB_RETRY.REPEATS`, R622. -/
def CLB_RETRY_REPEATS : Field := ⟨16, 0x0010, 0, 16, .ro, false, fun _ => 0⟩
/-- `CLB_RETRY.RESERVED`, R622. -/
def CLB_RETRY_RESERVED : Field := ⟨16, 0x0010, 16, 16, .ro, false, fun _ => 0⟩
/-- `CLB_ORDER.DRYDOWN`, R622. -/
def CLB_ORDER_DRYDOWN : Field := ⟨16, 0x0014, 0, 1, .ro, true, fun _ => 0⟩
/-- `CLB_ORDER.SPIN`, R622. -/
def CLB_ORDER_SPIN : Field := ⟨16, 0x0014, 1, 1, .ro, true, fun _ => 0⟩
/-- `CLB_ORDER.PSCAP`, R622. -/
def CLB_ORDER_PSCAP : Field := ⟨16, 0x0014, 2, 3, .ro, true, fun _ => 0⟩
/-- `CLB_ORDER.CODE`, R622. -/
def CLB_ORDER_CODE : Field := ⟨16, 0x0014, 8, 8, .ro, true, fun _ => 0⟩
/-- `CLB_ORDER.COUNT`, R622. -/
def CLB_ORDER_COUNT : Field := ⟨16, 0x0014, 16, 16, .ro, true, fun _ => 0⟩

/-- Register `GLB_ID`. -/
def reg_GLB_ID : RegDesc :=
  ⟨"GLB_ID", 0, 0x0000, .lin 1 4, 1, [GLB_ID]⟩

/-- Register `GLB_STEP`. -/
def reg_GLB_STEP : RegDesc :=
  ⟨"GLB_STEP", 0, 0x0004, .lin 1 4, 1, [GLB_STEP]⟩

/-- Register `GLB_ROLE`. -/
def reg_GLB_ROLE : RegDesc :=
  ⟨"GLB_ROLE", 0, 0x0010, .lin 1 4, 1, [GLB_ROLE_ROLE, GLB_ROLE_STRAP, GLB_ROLE_MISMATCH, GLB_ROLE_LEVEL]⟩

/-- Register `GLB_STRAP`. -/
def reg_GLB_STRAP : RegDesc :=
  ⟨"GLB_STRAP", 0, 0x0014, .lin 1 4, 1, [GLB_STRAP_ROLE, GLB_STRAP_BOOTCS, GLB_STRAP_RECOV]⟩

/-- Register `GLB_BOOT`. -/
def reg_GLB_BOOT : RegDesc :=
  ⟨"GLB_BOOT", 0, 0x0018, .lin 1 4, 1, [GLB_BOOT_PHASE, GLB_BOOT_CAUSE, GLB_BOOT_SLOT, GLB_BOOT_CFGAREA, GLB_BOOT_CFGDONE, GLB_BOOT_COLD, GLB_BOOT_UNSIGNED, GLB_BOOT_RECOVERY]⟩

/-- Register `GLB_RSTCTL`. -/
def reg_GLB_RSTCTL : RegDesc :=
  ⟨"GLB_RSTCTL", 0, 0x001C, .lin 1 4, 1, [GLB_RSTCTL_WARM, GLB_RSTCTL_COLD, GLB_RSTCTL_KEY]⟩

/-- Register `GLB_RSTCAUSE`. -/
def reg_GLB_RSTCAUSE : RegDesc :=
  ⟨"GLB_RSTCAUSE", 0, 0x0020, .lin 1 4, 1, [GLB_RSTCAUSE]⟩

/-- Register `GLB_CFGDONE`. -/
def reg_GLB_CFGDONE : RegDesc :=
  ⟨"GLB_CFGDONE", 0, 0x0024, .lin 1 4, 1, [GLB_CFGDONE_GO]⟩

/-- Register `GLB_FLACON_VER`. -/
def reg_GLB_FLACON_VER : RegDesc :=
  ⟨"GLB_FLACON_VER", 0, 0x0028, .lin 1 4, 1, [GLB_FLACON_VER]⟩

/-- Register `GLB_CFG_SEQ`. -/
def reg_GLB_CFG_SEQ : RegDesc :=
  ⟨"GLB_CFG_SEQ", 0, 0x002C, .lin 1 4, 1, [GLB_CFG_SEQ]⟩

/-- Register `GLB_NOR`. -/
def reg_GLB_NOR : RegDesc :=
  ⟨"GLB_NOR", 0, 0x0030, .lin 1 4, 1, [GLB_NOR_CS0, GLB_NOR_CS1, GLB_NOR_SIZE0, GLB_NOR_SIZE1]⟩

/-- Register `GLB_BOOTTIME`. -/
def reg_GLB_BOOTTIME : RegDesc :=
  ⟨"GLB_BOOTTIME", 0, 0x0034, .lin 1 4, 1, [GLB_BOOTTIME]⟩

/-- Register `GLB_WIRING`. -/
def reg_GLB_WIRING : RegDesc :=
  ⟨"GLB_WIRING", 0, 0x0038, .lin 1 4, 1, [GLB_WIRING_PLT0, GLB_WIRING_PLT1, GLB_WIRING_PHASE, GLB_WIRING_VCM, GLB_WIRING_HLK, GLB_WIRING_RDINV, GLB_WIRING_WRINV, GLB_WIRING_CALDONE]⟩

/-- Register `GLB_SVN`. -/
def reg_GLB_SVN : RegDesc :=
  ⟨"GLB_SVN", 0, 0x003C, .lin 1 4, 1, [GLB_SVN]⟩

/-- Register `ANG_SRC`. -/
def reg_ANG_SRC : RegDesc :=
  ⟨"ANG_SRC", 1, 0x0000, .lin 1 4, 1, [ANG_SRC_SRC, ANG_SRC_REF, ANG_SRC_DIR, ANG_SRC_PRECISE, ANG_SRC_SLEW, ANG_SRC_STILL, ANG_SRC_VALID0, ANG_SRC_VALID1, ANG_SRC_CHANGES]⟩

/-- Register `ANG_SRCSEL`. -/
def reg_ANG_SRCSEL : RegDesc :=
  ⟨"ANG_SRCSEL", 1, 0x0004, .lin 1 4, 1, [ANG_SRCSEL_EN0, ANG_SRCSEL_EN1, ANG_SRCSEL_DUAL_EN, ANG_SRCSEL_OBS_EN]⟩

/-- Register `ANG_COMMIT`. -/
def reg_ANG_COMMIT : RegDesc :=
  ⟨"ANG_COMMIT", 1, 0x0008, .lin 1 4, 1, [ANG_COMMIT_COMMIT, ANG_COMMIT_CANCEL]⟩

/-- Register `ANG_CMT_STS`. -/
def reg_ANG_CMT_STS : RegDesc :=
  ⟨"ANG_CMT_STS", 1, 0x000C, .lin 1 4, 1, [ANG_CMT_STS_PENDING, ANG_CMT_STS_DONE, ANG_CMT_STS_REJECT, ANG_CMT_STS_DROP]⟩

/-- Register `ANG_STAMP_LO`. -/
def reg_ANG_STAMP_LO : RegDesc :=
  ⟨"ANG_STAMP_LO", 1, 0x0010, .lin 1 4, 1, [ANG_STAMP_LO]⟩

/-- Register `ANG_STAMP_HI`. -/
def reg_ANG_STAMP_HI : RegDesc :=
  ⟨"ANG_STAMP_HI", 1, 0x0014, .lin 1 4, 1, [ANG_STAMP_HI]⟩

/-- Register `ANG_RATE`. -/
def reg_ANG_RATE : RegDesc :=
  ⟨"ANG_RATE", 1, 0x0018, .lin 1 4, 1, [ANG_RATE]⟩

/-- Register `ANG_PERIOD`. -/
def reg_ANG_PERIOD : RegDesc :=
  ⟨"ANG_PERIOD", 1, 0x001C, .lin 1 4, 1, [ANG_PERIOD]⟩

/-- Register `ANG_PLT_CFG`. -/
def reg_ANG_PLT_CFG : RegDesc :=
  ⟨"ANG_PLT_CFG", 1, 0x0020, .lin 2 4, 1, [ANG_PLT_CFG_SWAP, ANG_PLT_CFG_INV_S, ANG_PLT_CFG_INV_C, ANG_PLT_CFG_AMP_NOM]⟩

/-- Register `ANG_PLT1_OFS`. -/
def reg_ANG_PLT1_OFS : RegDesc :=
  ⟨"ANG_PLT1_OFS", 1, 0x0028, .lin 1 4, 1, [ANG_PLT1_OFS]⟩

/-- Register `ANG_AMP_LIM`. -/
def reg_ANG_AMP_LIM : RegDesc :=
  ⟨"ANG_AMP_LIM", 1, 0x002C, .lin 1 4, 1, [ANG_AMP_LIM_LO, ANG_AMP_LIM_HI]⟩

/-- Register `ANG_DIS_LIM`. -/
def reg_ANG_DIS_LIM : RegDesc :=
  ⟨"ANG_DIS_LIM", 1, 0x0030, .lin 1 4, 1, [ANG_DIS_LIM]⟩

/-- Register `ANG_ECC`. -/
def reg_ANG_ECC : RegDesc :=
  ⟨"ANG_ECC", 1, 0x0034, .lin 4 4, 1, [ANG_ECC]⟩

/-- Register `ANG_PLT_AMP`. -/
def reg_ANG_PLT_AMP : RegDesc :=
  ⟨"ANG_PLT_AMP", 1, 0x0044, .lin 1 4, 1, [ANG_PLT_AMP_PLT0, ANG_PLT_AMP_PLT1]⟩

/-- Register `ANG_PLT_TRIM`. -/
def reg_ANG_PLT_TRIM : RegDesc :=
  ⟨"ANG_PLT_TRIM", 1, 0x0048, .lin 2 4, 1, [ANG_PLT_TRIM_SOFS, ANG_PLT_TRIM_COFS, ANG_PLT_TRIM_GAIN, ANG_PLT_TRIM_QUAD]⟩

/-- Register `ANG_ECC1`. -/
def reg_ANG_ECC1 : RegDesc :=
  ⟨"ANG_ECC1", 1, 0x0050, .lin 4 4, 1, [ANG_ECC1]⟩

/-- Register `ANG_CMP`. -/
def reg_ANG_CMP : RegDesc :=
  ⟨"ANG_CMP", 1, 0x1000, .lin 256 16, 4, [ANG_CMP_TARGET, ANG_CMP_EN, ANG_CMP_PERIODIC, ANG_CMP_ACTION, ANG_CMP_CTX, ANG_CMP_INTERVAL, ANG_CMP_FIRED, ANG_CMP_LATE, ANG_CMP_ARMERR, ANG_CMP_COUNT]⟩

/-- Register `SPN_CTL`. -/
def reg_SPN_CTL : RegDesc :=
  ⟨"SPN_CTL", 2, 0x0000, .lin 1 4, 1, [SPN_CTL_START, SPN_CTL_STOP, SPN_CTL_DRYDOWN, SPN_CTL_PARK, SPN_CTL_PSUSP_CLR, SPN_CTL_CAL, SPN_CTL_AUTOSTART]⟩

/-- Register `SPN_STATE`. -/
def reg_SPN_STATE : RegDesc :=
  ⟨"SPN_STATE", 2, 0x0004, .lin 1 4, 1, [SPN_STATE_STATE, SPN_STATE_LOADOK, SPN_STATE_OBSLOCK, SPN_STATE_PSUSP, SPN_STATE_PLOCK, SPN_STATE_REFLOST, SPN_STATE_LIMITER, SPN_STATE_DRYPEND, SPN_STATE_SWAP_LEARNED, SPN_STATE_CAL_DONE, SPN_STATE_LASTGASP, SPN_STATE_FAULTLOCK, SPN_STATE_REACQ]⟩

/-- Register `SPN_COMMIT`. -/
def reg_SPN_COMMIT : RegDesc :=
  ⟨"SPN_COMMIT", 2, 0x0008, .lin 1 4, 1, [SPN_COMMIT_COMMIT, SPN_COMMIT_CANCEL]⟩

/-- Register `SPN_CMT_STS`. -/
def reg_SPN_CMT_STS : RegDesc :=
  ⟨"SPN_CMT_STS", 2, 0x000C, .lin 1 4, 1, [SPN_CMT_STS_PENDING, SPN_CMT_STS_DONE, SPN_CMT_STS_REJECT, SPN_CMT_STS_DROP]⟩

/-- Register `SPN_SETPT`. -/
def reg_SPN_SETPT : RegDesc :=
  ⟨"SPN_SETPT", 2, 0x0010, .lin 1 4, 1, [SPN_SETPT_TARGET]⟩

/-- Register `SPN_RAMP`. -/
def reg_SPN_RAMP : RegDesc :=
  ⟨"SPN_RAMP", 2, 0x0014, .lin 1 4, 1, [SPN_RAMP_AMAX, SPN_RAMP_JMAX]⟩

/-- Register `SPN_REFMODE`. -/
def reg_SPN_REFMODE : RegDesc :=
  ⟨"SPN_REFMODE", 2, 0x0018, .lin 1 4, 1, [SPN_REFMODE_MODE]⟩

/-- Register `SPN_REFCFG`. -/
def reg_SPN_REFCFG : RegDesc :=
  ⟨"SPN_REFCFG", 2, 0x001C, .lin 1 4, 1, [SPN_REFCFG_PPR, SPN_REFCFG_PTRIM, SPN_REFCFG_PLOCK]⟩

/-- Register `SPN_REFCFG2`. -/
def reg_SPN_REFCFG2 : RegDesc :=
  ⟨"SPN_REFCFG2", 2, 0x0020, .lin 1 4, 1, [SPN_REFCFG2_FULL, SPN_REFCFG2_PHASE]⟩

/-- Register `SPN_TOKENS`. -/
def reg_SPN_TOKENS : RegDesc :=
  ⟨"SPN_TOKENS", 2, 0x0024, .lin 1 4, 1, [SPN_TOKENS_GRANT, SPN_TOKENS_USED]⟩

/-- Register `SPN_MOTOR`. -/
def reg_SPN_MOTOR : RegDesc :=
  ⟨"SPN_MOTOR", 2, 0x0028, .lin 1 4, 1, [SPN_MOTOR_PP, SPN_MOTOR_SWAP, SPN_MOTOR_RS, SPN_MOTOR_KE]⟩

/-- Register `SPN_MOTOR2`. -/
def reg_SPN_MOTOR2 : RegDesc :=
  ⟨"SPN_MOTOR2", 2, 0x002C, .lin 1 4, 1, [SPN_MOTOR2_LS]⟩

/-- Register `SPN_PWM`. -/
def reg_SPN_PWM : RegDesc :=
  ⟨"SPN_PWM", 2, 0x0030, .lin 1 4, 1, [SPN_PWM_DEAD, SPN_PWM_TMINP, SPN_PWM_VMAXMOD]⟩

/-- Register `SPN_SHUNT`. -/
def reg_SPN_SHUNT : RegDesc :=
  ⟨"SPN_SHUNT", 2, 0x0034, .lin 1 4, 1, [SPN_SHUNT_RSH, SPN_SHUNT_TSET, SPN_SHUNT_IOC]⟩

/-- Register `SPN_OBS`. -/
def reg_SPN_OBS : RegDesc :=
  ⟨"SPN_OBS", 2, 0x0038, .lin 1 4, 1, [SPN_OBS_BW, SPN_OBS_VMIN, SPN_OBS_LOSSLIM]⟩

/-- Register `SPN_HAND`. -/
def reg_SPN_HAND : RegDesc :=
  ⟨"SPN_HAND", 2, 0x003C, .lin 1 4, 1, [SPN_HAND_AGREE, SPN_HAND_NAGREE, SPN_HAND_SLEW, SPN_HAND_SUSPT]⟩

/-- Register `SPN_EOFS`. -/
def reg_SPN_EOFS : RegDesc :=
  ⟨"SPN_EOFS", 2, 0x0040, .lin 1 4, 1, [SPN_EOFS]⟩

/-- Register `SPN_ALIGN`. -/
def reg_SPN_ALIGN : RegDesc :=
  ⟨"SPN_ALIGN", 2, 0x0044, .lin 1 4, 1, [SPN_ALIGN_IALIGN, SPN_ALIGN_TALIGN]⟩

/-- Register `SPN_OPEN`. -/
def reg_SPN_OPEN : RegDesc :=
  ⟨"SPN_OPEN", 2, 0x0048, .lin 1 4, 1, [SPN_OPEN_IOPEN, SPN_OPEN_OACC, SPN_OPEN_VHAND, SPN_OPEN_TOPEN]⟩

/-- Register `SPN_BRAKE`. -/
def reg_SPN_BRAKE : RegDesc :=
  ⟨"SPN_BRAKE", 2, 0x004C, .lin 1 4, 1, [SPN_BRAKE_IMAX, SPN_BRAKE_TMAX, SPN_BRAKE_TSENSE, SPN_BRAKE_VCATCH]⟩

/-- Register `SPN_CATCH`. -/
def reg_SPN_CATCH : RegDesc :=
  ⟨"SPN_CATCH", 2, 0x0050, .lin 1 4, 1, [SPN_CATCH_TRAMP, SPN_CATCH_NREACQ, SPN_CATCH_TWIN, SPN_CATCH_VRET]⟩

/-- Register `SPN_LIMIT`. -/
def reg_SPN_LIMIT : RegDesc :=
  ⟨"SPN_LIMIT", 2, 0x0054, .lin 1 4, 1, [SPN_LIMIT_ILIM, SPN_LIMIT_TLIM, SPN_LIMIT_TDRY]⟩

/-- Register `SPN_LG`. -/
def reg_SPN_LG : RegDesc :=
  ⟨"SPN_LG", 2, 0x0058, .lin 1 4, 1, [SPN_LG_VHOLD, SPN_LG_VMINPCT, SPN_LG_UV]⟩

/-- Register `SPN_VBUS`. -/
def reg_SPN_VBUS : RegDesc :=
  ⟨"SPN_VBUS", 2, 0x005C, .lin 1 4, 1, [SPN_VBUS_OV, SPN_VBUS_DIV]⟩

/-- Register `SPN_PADV`. -/
def reg_SPN_PADV : RegDesc :=
  ⟨"SPN_PADV", 2, 0x0080, .lin 32 4, 1, [SPN_PADV]⟩

/-- Register `SPN_SPEED`. -/
def reg_SPN_SPEED : RegDesc :=
  ⟨"SPN_SPEED", 2, 0x0100, .lin 1 4, 1, [SPN_SPEED]⟩

/-- Register `SPN_RAMPV`. -/
def reg_SPN_RAMPV : RegDesc :=
  ⟨"SPN_RAMPV", 2, 0x0104, .lin 1 4, 1, [SPN_RAMPV]⟩

/-- Register `SPN_IDQ`. -/
def reg_SPN_IDQ : RegDesc :=
  ⟨"SPN_IDQ", 2, 0x0108, .lin 1 4, 1, [SPN_IDQ_ID, SPN_IDQ_IQ]⟩

/-- Register `SPN_BUS`. -/
def reg_SPN_BUS : RegDesc :=
  ⟨"SPN_BUS", 2, 0x010C, .lin 1 4, 1, [SPN_BUS_VBUS, SPN_BUS_IBUS]⟩

/-- Register `SPN_PWR`. -/
def reg_SPN_PWR : RegDesc :=
  ⟨"SPN_PWR", 2, 0x0110, .lin 1 4, 1, [SPN_PWR]⟩

/-- Register `SPN_TEMP`. -/
def reg_SPN_TEMP : RegDesc :=
  ⟨"SPN_TEMP", 2, 0x0114, .lin 1 4, 1, [SPN_TEMP_TEMP, SPN_TEMP_REST]⟩

/-- Register `SPN_CNT`. -/
def reg_SPN_CNT : RegDesc :=
  ⟨"SPN_CNT", 2, 0x0118, .lin 1 4, 1, [SPN_CNT_COASTS, SPN_CNT_CATCHES, SPN_CNT_OVERCUR, SPN_CNT_STARTS]⟩

/-- Register `SRV_FRAME`. -/
def reg_SRV_FRAME : RegDesc :=
  ⟨"SRV_FRAME", 3, 0x0010, .lin 1 4, 1, [SRV_FRAME_SBIT, SRV_FRAME_SSMWIN, SRV_FRAME_SSMTHR, SRV_FRAME_SSMWIDE, SRV_FRAME_LIN, SRV_FRAME_TRKWIN, SRV_FRAME_VSHIFT]⟩

/-- Register `SRV_SSMPAT`. -/
def reg_SRV_SSMPAT : RegDesc :=
  ⟨"SRV_SSMPAT", 3, 0x0014, .lin 1 4, 1, [SRV_SSMPAT]⟩

/-- Register `SRV_BAD`. -/
def reg_SRV_BAD : RegDesc :=
  ⟨"SRV_BAD", 3, 0x0018, .lin 1 4, 1, [SRV_BAD_BMIN, SRV_BAD_BADLIM, SRV_BAD_ALOST]⟩

/-- Register `SRV_RET_CFG`. -/
def reg_SRV_RET_CFG : RegDesc :=
  ⟨"SRV_RET_CFG", 3, 0x0020, .lin 1 4, 1, [SRV_RET_CFG_IRET, SRV_RET_CFG_IPARK, SRV_RET_CFG_ILOAD, SRV_RET_CFG_TRET1, SRV_RET_CFG_TRET2]⟩

/-- Register `SRV_RET_STS`. -/
def reg_SRV_RET_STS : RegDesc :=
  ⟨"SRV_RET_STS", 3, 0x0024, .lin 1 4, 1, [SRV_RET_STS_ENGAGED, SRV_RET_STS_PARKED, SRV_RET_STS_RETRACTS]⟩

/-- Register `SRV_CTL`. -/
def reg_SRV_CTL : RegDesc :=
  ⟨"SRV_CTL", 3, 0x0000, .nest 0x2000 4 0x2000 1 4, 1, [SRV_CTL_REQ, SRV_CTL_RETRACT, SRV_CTL_LTRK]⟩

/-- Register `SRV_STS`. -/
def reg_SRV_STS : RegDesc :=
  ⟨"SRV_STS", 3, 0x0004, .nest 0x2000 4 0x2000 1 4, 1, [SRV_STS_STATE, SRV_STS_INV_LEARNED, SRV_STS_RVLOCK, SRV_STS_BLEND, SRV_STS_ENGAGED, SRV_STS_LOST]⟩

/-- Register `SRV_COMMIT`. -/
def reg_SRV_COMMIT : RegDesc :=
  ⟨"SRV_COMMIT", 3, 0x0008, .nest 0x2000 4 0x2000 1 4, 1, [SRV_COMMIT_COMMIT, SRV_COMMIT_CANCEL]⟩

/-- Register `SRV_CMT_STS`. -/
def reg_SRV_CMT_STS : RegDesc :=
  ⟨"SRV_CMT_STS", 3, 0x000C, .nest 0x2000 4 0x2000 1 4, 1, [SRV_CMT_STS_PENDING, SRV_CMT_STS_DONE, SRV_CMT_STS_REJECT, SRV_CMT_STS_DROP]⟩

/-- Register `SRV_VCMCFG`. -/
def reg_SRV_VCMCFG : RegDesc :=
  ⟨"SRV_VCMCFG", 3, 0x0010, .nest 0x2000 4 0x2000 1 4, 1, [SRV_VCMCFG_INV, SRV_VCMCFG_EN]⟩

/-- Register `SRV_VCMLIM`. -/
def reg_SRV_VCMLIM : RegDesc :=
  ⟨"SRV_VCMLIM", 3, 0x0014, .nest 0x2000 4 0x2000 1 4, 1, [SRV_VCMLIM_OC]⟩

/-- Register `SRV_SEEK`. -/
def reg_SRV_SEEK : RegDesc :=
  ⟨"SRV_SEEK", 3, 0x0020, .nest 0x2000 4 0x2000 1 4, 1, [SRV_SEEK_VMAX, SRV_SEEK_AMAX, SRV_SEEK_JMAX]⟩

/-- Register `SRV_MSEEK`. -/
def reg_SRV_MSEEK : RegDesc :=
  ⟨"SRV_MSEEK", 3, 0x0024, .nest 0x2000 4 0x2000 1 4, 1, [SRV_MSEEK_MVMAX, SRV_MSEEK_MAMAX, SRV_MSEEK_TMO]⟩

/-- Register `SRV_HAND`. -/
def reg_SRV_HAND : RegDesc :=
  ⟨"SRV_HAND", 3, 0x0028, .nest 0x2000 4 0x2000 1 4, 1, [SRV_HAND_DIST, SRV_HAND_VEL, SRV_HAND_BTHR, SRV_HAND_NB]⟩

/-- Register `SRV_SETTLE`. -/
def reg_SRV_SETTLE : RegDesc :=
  ⟨"SRV_SETTLE", 3, 0x0030, .nest 0x2000 4 0x2000 1 4, 1, [SRV_SETTLE_RD, SRV_SETTLE_WR, SRV_SETTLE_NRD, SRV_SETTLE_NWR]⟩

/-- Register `SRV_DESAT`. -/
def reg_SRV_DESAT : RegDesc :=
  ⟨"SRV_DESAT", 3, 0x0034, .nest 0x2000 4 0x2000 1 4, 1, [SRV_DESAT_SPAN, SRV_DESAT_THR, SRV_DESAT_REL, SRV_DESAT_BOOST]⟩

/-- Register `SRV_RVCFG`. -/
def reg_SRV_RVCFG : RegDesc :=
  ⟨"SRV_RVCFG", 3, 0x0040, .nest 0x2000 4 0x2000 1 4, 1, [SRV_RVCFG_EN, SRV_RVCFG_LEARN, SRV_RVCFG_MU]⟩

/-- Register `SRV_RVFF`. -/
def reg_SRV_RVFF : RegDesc :=
  ⟨"SRV_RVFF", 3, 0x0044, .nest 0x2000 4 0x2000 8 4, 1, [SRV_RVFF]⟩

/-- Register `SRV_NEXT`. -/
def reg_SRV_NEXT : RegDesc :=
  ⟨"SRV_NEXT", 3, 0x0070, .nest 0x2000 4 0x2000 1 4, 1, [SRV_NEXT_TRACK, SRV_NEXT_VALID]⟩

/-- Register `SRV_NEXTH`. -/
def reg_SRV_NEXTH : RegDesc :=
  ⟨"SRV_NEXTH", 3, 0x0074, .nest 0x2000 4 0x2000 1 4, 1, [SRV_NEXTH]⟩

/-- Register `SRV_CUR`. -/
def reg_SRV_CUR : RegDesc :=
  ⟨"SRV_CUR", 3, 0x0078, .nest 0x2000 4 0x2000 1 4, 1, [SRV_CUR]⟩

/-- Register `SRV_CNT`. -/
def reg_SRV_CNT : RegDesc :=
  ⟨"SRV_CNT", 3, 0x007C, .nest 0x2000 4 0x2000 1 4, 1, [SRV_CNT_SEEKS, SRV_CNT_RA_DISC]⟩

/-- Register `SRV_MEMADR`. -/
def reg_SRV_MEMADR : RegDesc :=
  ⟨"SRV_MEMADR", 3, 0x00A0, .nest 0x2000 4 0x2000 1 4, 1, [SRV_MEMADR_ENTRY, SRV_MEMADR_ARM, SRV_MEMADR_AUTOINC]⟩

/-- Register `SRV_MEMDAT`. -/
def reg_SRV_MEMDAT : RegDesc :=
  ⟨"SRV_MEMDAT", 3, 0x00A4, .nest 0x2000 4 0x2000 1 4, 1, []⟩

/-- Register `SRV_HCFG`. -/
def reg_SRV_HCFG : RegDesc :=
  ⟨"SRV_HCFG", 3, 0x0400, .nest 0x2000 4 0x2000 12 0x40, 1, [SRV_HCFG_WEIGHT, SRV_HCFG_WINH, SRV_HCFG_WREL, SRV_HCFG_NREL]⟩

/-- Register `SRV_HGAIN`. -/
def reg_SRV_HGAIN : RegDesc :=
  ⟨"SRV_HGAIN", 3, 0x0404, .nest 0x2000 4 0x2000 12 0x40, 1, [SRV_HGAIN_PESCAL, SRV_HGAIN_MAGAIN]⟩

/-- Register `SRV_TGT`. -/
def reg_SRV_TGT : RegDesc :=
  ⟨"SRV_TGT", 3, 0x0408, .nest 0x2000 4 0x2000 12 0x40, 1, [SRV_TGT_TRACK, SRV_TGT_ENGAGE, SRV_TGT_WRMODE, SRV_TGT_LADDER]⟩

/-- Register `SRV_TOFS`. -/
def reg_SRV_TOFS : RegDesc :=
  ⟨"SRV_TOFS", 3, 0x040C, .nest 0x2000 4 0x2000 12 0x40, 1, [SRV_TOFS_OFFTRK]⟩

/-- Register `SRV_SAFE`. -/
def reg_SRV_SAFE : RegDesc :=
  ⟨"SRV_SAFE", 3, 0x0410, .nest 0x2000 4 0x2000 12 0x40, 1, [SRV_SAFE_GAIN, SRV_SAFE_CORNER, SRV_SAFE_BNOM]⟩

/-- Register `SRV_HOFS`. -/
def reg_SRV_HOFS : RegDesc :=
  ⟨"SRV_HOFS", 3, 0x0414, .nest 0x2000 4 0x2000 12 0x40, 1, [SRV_HOFS]⟩

/-- Register `SRV_POS`. -/
def reg_SRV_POS : RegDesc :=
  ⟨"SRV_POS", 3, 0x0418, .nest 0x2000 4 0x2000 12 0x40, 1, [SRV_POS_Y, SRV_POS_GOOD]⟩

/-- Register `SRV_PES`. -/
def reg_SRV_PES : RegDesc :=
  ⟨"SRV_PES", 3, 0x041C, .nest 0x2000 4 0x2000 12 0x40, 1, [SRV_PES_PES, SRV_PES_S]⟩

/-- Register `SRV_HSTS`. -/
def reg_SRV_HSTS : RegDesc :=
  ⟨"SRV_HSTS", 3, 0x0420, .nest 0x2000 4 0x2000 12 0x40, 1, [SRV_HSTS_MODE, SRV_HSTS_SETTLED_RD, SRV_HSTS_SETTLED_WR, SRV_HSTS_REFUSED, SRV_HSTS_INHIBIT, SRV_HSTS_SAT, SRV_HSTS_TSEQ, SRV_HSTS_WICNT]⟩

/-- Register `SRV_HTR`. -/
def reg_SRV_HTR : RegDesc :=
  ⟨"SRV_HTR", 3, 0x0424, .nest 0x2000 4 0x2000 12 0x40, 1, [SRV_HTR_RDP, SRV_HTR_WRP, SRV_HTR_HMAX, SRV_HTR_CI_TGT]⟩

/-- Register `SRV_HTR2`. -/
def reg_SRV_HTR2 : RegDesc :=
  ⟨"SRV_HTR2", 3, 0x0428, .nest 0x2000 4 0x2000 12 0x40, 1, [SRV_HTR2_LOOP, SRV_HTR2_KI, SRV_HTR2_WSETTLE]⟩

/-- Register `SRV_HTRV`. -/
def reg_SRV_HTRV : RegDesc :=
  ⟨"SRV_HTRV", 3, 0x042C, .nest 0x2000 4 0x2000 12 0x40, 1, [SRV_HTRV_CMD, SRV_HTRV_TRIM, SRV_HTRV_CI]⟩

/-- Register `LPE_CTL`. -/
def reg_LPE_CTL : RegDesc :=
  ⟨"LPE_CTL", 4, 0x0000, .lin 1 4, 1, [LPE_CTL_RUN, LPE_CTL_SCRUB]⟩

/-- Register `LPE_STS`. -/
def reg_LPE_STS : RegDesc :=
  ⟨"LPE_STS", 4, 0x0004, .lin 1 4, 1, [LPE_STS_RUNNING, LPE_STS_AGEOUT_V, LPE_STS_AGEOUT]⟩

/-- Register `LPE_COMMIT`. -/
def reg_LPE_COMMIT : RegDesc :=
  ⟨"LPE_COMMIT", 4, 0x0008, .lin 1 4, 1, [LPE_COMMIT_COMMIT, LPE_COMMIT_CANCEL]⟩

/-- Register `LPE_CMT_STS`. -/
def reg_LPE_CMT_STS : RegDesc :=
  ⟨"LPE_CMT_STS", 4, 0x000C, .lin 1 4, 1, [LPE_CMT_STS_PENDING, LPE_CMT_STS_DONE, LPE_CMT_STS_REJECT, LPE_CMT_STS_DROP]⟩

/-- Register `LPE_VER_V`. -/
def reg_LPE_VER_V : RegDesc :=
  ⟨"LPE_VER_V", 4, 0x0010, .lin 1 4, 1, [LPE_VER_V]⟩

/-- Register `LPE_VER_C`. -/
def reg_LPE_VER_C : RegDesc :=
  ⟨"LPE_VER_C", 4, 0x0014, .lin 1 4, 1, [LPE_VER_C]⟩

/-- Register `LPE_IMG`. -/
def reg_LPE_IMG : RegDesc :=
  ⟨"LPE_IMG", 4, 0x0018, .lin 1 4, 1, [LPE_IMG_BANK]⟩

/-- Register `LPE_IMGSTS`. -/
def reg_LPE_IMGSTS : RegDesc :=
  ⟨"LPE_IMGSTS", 4, 0x001C, .lin 1 4, 1, [LPE_IMGSTS_ACTIVE, LPE_IMGSTS_OLDBUSY, LPE_IMGSTS_IVALID_V, LPE_IMGSTS_IVALID_C, LPE_IMGSTS_IEMPTY_C, LPE_IMGSTS_CKEY, LPE_IMGSTS_AEMPTY_C]⟩

/-- Register `LPE_IVER_V`. -/
def reg_LPE_IVER_V : RegDesc :=
  ⟨"LPE_IVER_V", 4, 0x0020, .lin 1 4, 1, [LPE_IVER_V]⟩

/-- Register `LPE_IVER_C`. -/
def reg_LPE_IVER_C : RegDesc :=
  ⟨"LPE_IVER_C", 4, 0x0024, .lin 1 4, 1, [LPE_IVER_C]⟩

/-- Register `LPE_LDSRC_LO`. -/
def reg_LPE_LDSRC_LO : RegDesc :=
  ⟨"LPE_LDSRC_LO", 4, 0x0028, .lin 1 4, 1, [LPE_LDSRC_LO]⟩

/-- Register `LPE_LDSRC_HI`. -/
def reg_LPE_LDSRC_HI : RegDesc :=
  ⟨"LPE_LDSRC_HI", 4, 0x002C, .lin 1 4, 1, [LPE_LDSRC_HI]⟩

/-- Register `LPE_LDCTL`. -/
def reg_LPE_LDCTL : RegDesc :=
  ⟨"LPE_LDCTL", 4, 0x0030, .lin 1 4, 1, [LPE_LDCTL_GO, LPE_LDCTL_REGION, LPE_LDCTL_COPY, LPE_LDCTL_BUSY, LPE_LDCTL_RESULT]⟩

/-- Register `LPE_CUSTLIM`. -/
def reg_LPE_CUSTLIM : RegDesc :=
  ⟨"LPE_CUSTLIM", 4, 0x0034, .lin 1 4, 1, [LPE_CUSTLIM_WORDS, LPE_CUSTLIM_CEN]⟩

/-- Register `LPE_LOAD`. -/
def reg_LPE_LOAD : RegDesc :=
  ⟨"LPE_LOAD", 4, 0x0038, .lin 1 4, 1, [LPE_LOAD_LOAD, LPE_LOAD_PEAK]⟩

/-- Register `LPE_TRIG`. -/
def reg_LPE_TRIG : RegDesc :=
  ⟨"LPE_TRIG", 4, 0x0040, .lin 2 4, 1, [LPE_TRIG]⟩

/-- Register `LPE_KILL`. -/
def reg_LPE_KILL : RegDesc :=
  ⟨"LPE_KILL", 4, 0x0048, .lin 2 4, 1, [LPE_KILL]⟩

/-- Register `LPE_ERR`. -/
def reg_LPE_ERR : RegDesc :=
  ⟨"LPE_ERR", 4, 0x0050, .lin 1 4, 1, [LPE_ERR_CTX, LPE_ERR_ADDR, LPE_ERR_CAUSE]⟩

/-- Register `LPE_ECC`. -/
def reg_LPE_ECC : RegDesc :=
  ⟨"LPE_ECC", 4, 0x0054, .lin 1 4, 1, [LPE_ECC_CS, LPE_ECC_DM]⟩

/-- Register `LPE_CTX`. -/
def reg_LPE_CTX : RegDesc :=
  ⟨"LPE_CTX", 4, 0x0100, .lin 64 4, 1, [LPE_CTX_ENTRY, LPE_CTX_PRIO, LPE_CTX_SRC, LPE_CTX_EN, LPE_CTX_CUST]⟩

/-- Register `LPE_CTXSTS`. -/
def reg_LPE_CTXSTS : RegDesc :=
  ⟨"LPE_CTXSTS", 4, 0x0200, .lin 64 4, 1, [LPE_CTXSTS_STATE, LPE_CTXSTS_PENDING, LPE_CTXSTS_KILLED, LPE_CTXSTS_VIOL, LPE_CTXSTS_MERGE, LPE_CTXSTS_RUNS]⟩

/-- Register `LPE_LAT`. -/
def reg_LPE_LAT : RegDesc :=
  ⟨"LPE_LAT", 4, 0x0400, .lin 256 4, 1, [LPE_LAT_LAST, LPE_LAT_WORST]⟩

/-- Register `LPE_OUTCFG`. -/
def reg_LPE_OUTCFG : RegDesc :=
  ⟨"LPE_OUTCFG", 4, 0x0800, .lin 256 4, 1, [LPE_OUTCFG_AGELIM, LPE_OUTCFG_CUST, LPE_OUTCFG_OVR, LPE_OUTCFG_IRQ]⟩

/-- Register `LPE_OVR`. -/
def reg_LPE_OVR : RegDesc :=
  ⟨"LPE_OVR", 4, 0x0C00, .lin 256 4, 1, [LPE_OVR]⟩

/-- Register `LPE_CG`. -/
def reg_LPE_CG : RegDesc :=
  ⟨"LPE_CG", 4, 0x1000, .lin 16 16, 1, [LPE_CG_OUT, LPE_CG_NC, LPE_CG_SIGNSRC, LPE_CG_EN, LPE_CG_SIGNEN, LPE_CG_OWNER, LPE_CG_CUSTMASK]⟩

/-- Register `LPE_CG_STS`. -/
def reg_LPE_CG_STS : RegDesc :=
  ⟨"LPE_CG_STS", 4, 0x1004, .lin 16 16, 1, [LPE_CG_STS_WIN, LPE_CG_STS_NOCAND, LPE_CG_STS_STALE, LPE_CG_STS_CHG]⟩

/-- Register `LPE_CG_VAL`. -/
def reg_LPE_CG_VAL : RegDesc :=
  ⟨"LPE_CG_VAL", 4, 0x1008, .lin 16 16, 1, [LPE_CG_VAL]⟩

/-- Register `LPE_SIL_CFG`. -/
def reg_LPE_SIL_CFG : RegDesc :=
  ⟨"LPE_SIL_CFG", 4, 0x1200, .lin 8 32, 1, [LPE_SIL_CFG_MODE, LPE_SIL_CFG_TIME, LPE_SIL_CFG_CTX, LPE_SIL_CFG_TRIG, LPE_SIL_CFG_TRIGSEL, LPE_SIL_CFG_COND]⟩

/-- Register `LPE_SIL_ADDR`. -/
def reg_LPE_SIL_ADDR : RegDesc :=
  ⟨"LPE_SIL_ADDR", 4, 0x1204, .lin 8 32, 1, [LPE_SIL_ADDR]⟩

/-- Register `LPE_SIL_INT`. -/
def reg_LPE_SIL_INT : RegDesc :=
  ⟨"LPE_SIL_INT", 4, 0x1208, .lin 8 32, 1, [LPE_SIL_INT]⟩

/-- Register `LPE_SIL_THR`. -/
def reg_LPE_SIL_THR : RegDesc :=
  ⟨"LPE_SIL_THR", 4, 0x120C, .lin 8 32, 1, [LPE_SIL_THR]⟩

/-- Register `LPE_SIL_MASK`. -/
def reg_LPE_SIL_MASK : RegDesc :=
  ⟨"LPE_SIL_MASK", 4, 0x1210, .lin 8 32, 1, [LPE_SIL_MASK]⟩

/-- Register `LPE_SIL_CTL`. -/
def reg_LPE_SIL_CTL : RegDesc :=
  ⟨"LPE_SIL_CTL", 4, 0x1214, .lin 8 32, 1, [LPE_SIL_CTL_POST, LPE_SIL_CTL_ARM, LPE_SIL_CTL_FORCE, LPE_SIL_CTL_STOP]⟩

/-- Register `LPE_SIL_STS`. -/
def reg_LPE_SIL_STS : RegDesc :=
  ⟨"LPE_SIL_STS", 4, 0x1218, .lin 8 32, 1, [LPE_SIL_STS_STATE, LPE_SIL_STS_MARK, LPE_SIL_STS_LOST]⟩

/-- Register `LPE_SIL_FILL`. -/
def reg_LPE_SIL_FILL : RegDesc :=
  ⟨"LPE_SIL_FILL", 4, 0x121C, .lin 8 32, 1, [LPE_SIL_FILL]⟩

/-- Register `LPE_SILRD`. -/
def reg_LPE_SILRD : RegDesc :=
  ⟨"LPE_SILRD", 4, 0x1300, .lin 1 4, 1, [LPE_SILRD_INDEX, LPE_SILRD_UNIT, LPE_SILRD_AUTOINC]⟩

/-- Register `LPE_SILDAT_LO`. -/
def reg_LPE_SILDAT_LO : RegDesc :=
  ⟨"LPE_SILDAT_LO", 4, 0x1304, .lin 1 4, 1, []⟩

/-- Register `LPE_SILDAT_HI`. -/
def reg_LPE_SILDAT_HI : RegDesc :=
  ⟨"LPE_SILDAT_HI", 4, 0x1308, .lin 1 4, 1, []⟩

/-- Register `LAN_CTL`. -/
def reg_LAN_CTL : RegDesc :=
  ⟨"LAN_CTL", 5, 0x0000, .lin 48 1024, 1, [LAN_CTL_REQ, LAN_CTL_OOS]⟩

/-- Register `LAN_STS`. -/
def reg_LAN_STS : RegDesc :=
  ⟨"LAN_STS", 5, 0x0004, .lin 48 1024, 1, [LAN_STS_STATE, LAN_STS_LOCK, LAN_STS_FRANGE, LAN_STS_WRITING, LAN_STS_DEFECT, LAN_STS_MEMREF]⟩

/-- Register `LAN_COMMIT`. -/
def reg_LAN_COMMIT : RegDesc :=
  ⟨"LAN_COMMIT", 5, 0x0008, .lin 48 1024, 1, [LAN_COMMIT_COMMIT, LAN_COMMIT_CANCEL]⟩

/-- Register `LAN_CMT_STS`. -/
def reg_LAN_CMT_STS : RegDesc :=
  ⟨"LAN_CMT_STS", 5, 0x000C, .lin 48 1024, 1, [LAN_CMT_STS_PENDING, LAN_CMT_STS_DONE, LAN_CMT_STS_REJECT, LAN_CMT_STS_DROP]⟩

/-- Register `LAN_AFE`. -/
def reg_LAN_AFE : RegDesc :=
  ⟨"LAN_AFE", 5, 0x0010, .lin 48 1024, 1, [LAN_AFE_CTF_FC, LAN_AFE_CTF_BOOST]⟩

/-- Register `LAN_AGC`. -/
def reg_LAN_AGC : RegDesc :=
  ⟨"LAN_AGC", 5, 0x0014, .lin 48 1024, 1, [LAN_AGC_GINIT, LAN_AGC_TARGET, LAN_AGC_SHIFT, LAN_AGC_FREEZE]⟩

/-- Register `LAN_OFS`. -/
def reg_LAN_OFS : RegDesc :=
  ⟨"LAN_OFS", 5, 0x0018, .lin 48 1024, 1, [LAN_OFS_OINIT, LAN_OFS_SHIFT, LAN_OFS_FREEZE]⟩

/-- Register `LAN_ASYM`. -/
def reg_LAN_ASYM : RegDesc :=
  ⟨"LAN_ASYM", 5, 0x001C, .lin 48 1024, 1, [LAN_ASYM_AINIT, LAN_ASYM_SHIFT, LAN_ASYM_FREEZE]⟩

/-- Register `LAN_DROP`. -/
def reg_LAN_DROP : RegDesc :=
  ⟨"LAN_DROP", 5, 0x0020, .lin 48 1024, 1, [LAN_DROP_THR, LAN_DROP_WIN, LAN_DROP_HOLDX, LAN_DROP_REL, LAN_DROP_EN]⟩

/-- Register `LAN_TA`. -/
def reg_LAN_TA : RegDesc :=
  ⟨"LAN_TA", 5, 0x0024, .lin 48 1024, 1, [LAN_TA_THR, LAN_TA_WIN, LAN_TA_EN]⟩

/-- Register `LAN_EQTGT`. -/
def reg_LAN_EQTGT : RegDesc :=
  ⟨"LAN_EQTGT", 5, 0x0030, .lin 48 1024, 1, [LAN_EQTGT_TGT]⟩

/-- Register `LAN_EQBANK`. -/
def reg_LAN_EQBANK : RegDesc :=
  ⟨"LAN_EQBANK", 5, 0x0034, .lin 48 1024, 1, [LAN_EQBANK_BANK]⟩

/-- Register `LAN_EQADP`. -/
def reg_LAN_EQADP : RegDesc :=
  ⟨"LAN_EQADP", 5, 0x0038, .lin 48 1024, 1, [LAN_EQADP_MU, LAN_EQADP_ADAPT, LAN_EQADP_MAIN]⟩

/-- Register `LAN_ZRATIO`. -/
def reg_LAN_ZRATIO : RegDesc :=
  ⟨"LAN_ZRATIO", 5, 0x0040, .lin 48 1024, 1, [LAN_ZRATIO]⟩

/-- Register `LAN_RTTSEL`. -/
def reg_LAN_RTTSEL : RegDesc :=
  ⟨"LAN_RTTSEL", 5, 0x0044, .lin 48 1024, 1, [LAN_RTTSEL_BANK, LAN_RTTSEL_EN, LAN_RTTSEL_LEARN, LAN_RTTSEL_LSHIFT]⟩

/-- Register `LAN_PTRIM`. -/
def reg_LAN_PTRIM : RegDesc :=
  ⟨"LAN_PTRIM", 5, 0x0048, .lin 48 1024, 1, [LAN_PTRIM_KP, LAN_PTRIM_KI, LAN_PTRIM_CLAMP, LAN_PTRIM_HOLD]⟩

/-- Register `LAN_WROFS`. -/
def reg_LAN_WROFS : RegDesc :=
  ⟨"LAN_WROFS", 5, 0x004C, .lin 48 1024, 1, [LAN_WROFS]⟩

/-- Register `LAN_SYNC`. -/
def reg_LAN_SYNC : RegDesc :=
  ⟨"LAN_SYNC", 5, 0x0050, .lin 48 1024, 1, [LAN_SYNC_WIN, LAN_SYNC_ACC, LAN_SYNC_ALT, LAN_SYNC_THR, LAN_SYNC_WIDE]⟩

/-- Register `LAN_PCMP`. -/
def reg_LAN_PCMP : RegDesc :=
  ⟨"LAN_PCMP", 5, 0x0060, .lin 48 1024, 1, [LAN_PCMP_C0, LAN_PCMP_C1, LAN_PCMP_C2, LAN_PCMP_C3]⟩

/-- Register `LAN_POL`. -/
def reg_LAN_POL : RegDesc :=
  ⟨"LAN_POL", 5, 0x0070, .lin 48 1024, 1, [LAN_POL_RD_INV, LAN_POL_WR_INV]⟩

/-- Register `LAN_GAINV`. -/
def reg_LAN_GAINV : RegDesc :=
  ⟨"LAN_GAINV", 5, 0x0080, .lin 48 1024, 1, [LAN_GAINV_GAIN, LAN_GAINV_OFS, LAN_GAINV_ASYM]⟩

/-- Register `LAN_TRIMV`. -/
def reg_LAN_TRIMV : RegDesc :=
  ⟨"LAN_TRIMV", 5, 0x0084, .lin 48 1024, 1, [LAN_TRIMV_TRIM, LAN_TRIMV_AT_CLAMP]⟩

/-- Register `LAN_SYNCV`. -/
def reg_LAN_SYNCV : RegDesc :=
  ⟨"LAN_SYNCV", 5, 0x0088, .lin 48 1024, 1, [LAN_SYNCV_OFS, LAN_SYNCV_KIND, LAN_SYNCV_DIST, LAN_SYNCV_MISSED]⟩

/-- Register `LAN_DEFV`. -/
def reg_LAN_DEFV : RegDesc :=
  ⟨"LAN_DEFV", 5, 0x008C, .lin 48 1024, 1, [LAN_DEFV_DROP, LAN_DEFV_TA]⟩

/-- Register `LAN_STGV`. -/
def reg_LAN_STGV : RegDesc :=
  ⟨"LAN_STGV", 5, 0x0090, .lin 48 1024, 1, [LAN_STGV_OCC, LAN_STGV_OVR]⟩

/-- Register `LAN_MEMADR`. -/
def reg_LAN_MEMADR : RegDesc :=
  ⟨"LAN_MEMADR", 5, 0x00A0, .lin 48 1024, 1, [LAN_MEMADR_WORD, LAN_MEMADR_SPACE, LAN_MEMADR_AUTOINC]⟩

/-- Register `LAN_MEMDAT`. -/
def reg_LAN_MEMDAT : RegDesc :=
  ⟨"LAN_MEMDAT", 5, 0x00A4, .lin 48 1024, 1, []⟩

/-- Register `LAN_SYNCPAT_LO`. -/
def reg_LAN_SYNCPAT_LO : RegDesc :=
  ⟨"LAN_SYNCPAT_LO", 5, 0xC000, .lin 1 4, 1, [LAN_SYNCPAT_LO]⟩

/-- Register `LAN_SYNCPAT_HI`. -/
def reg_LAN_SYNCPAT_HI : RegDesc :=
  ⟨"LAN_SYNCPAT_HI", 5, 0xC004, .lin 1 4, 1, [LAN_SYNCPAT_HI]⟩

/-- Register `LAN_TGT`. -/
def reg_LAN_TGT : RegDesc :=
  ⟨"LAN_TGT", 5, 0xC100, .lin 16 4, 1, [LAN_TGT_T0, LAN_TGT_T1, LAN_TGT_T2, LAN_TGT_T3, LAN_TGT_T4, LAN_TGT_VALID]⟩

/-- Register `DEC_EN`. -/
def reg_DEC_EN : RegDesc :=
  ⟨"DEC_EN", 6, 0x0000, .lin 1 4, 1, [DEC_EN]⟩

/-- Register `DEC_STS`. -/
def reg_DEC_STS : RegDesc :=
  ⟨"DEC_STS", 6, 0x0004, .lin 1 4, 1, [DEC_STS_BUSY, DEC_STS_WAIT]⟩

/-- Register `DEC_BUDGET`. -/
def reg_DEC_BUDGET : RegDesc :=
  ⟨"DEC_BUDGET", 6, 0x0010, .lin 1 4, 1, [DEC_BUDGET_IMAX, DEC_BUDGET_IFLOOR, DEC_BUDGET_RMAX]⟩

/-- Register `DEC_QLIM`. -/
def reg_DEC_QLIM : RegDesc :=
  ⟨"DEC_QLIM", 6, 0x0014, .lin 1 4, 1, [DEC_QLIM_LOW, DEC_QLIM_HIGH]⟩

/-- Register `DEC_SCHED`. -/
def reg_DEC_SCHED : RegDesc :=
  ⟨"DEC_SCHED", 6, 0x0018, .lin 1 4, 1, [DEC_SCHED_AGE, DEC_SCHED_RCV_ENG]⟩

/-- Register `DEC_CLK`. -/
def reg_DEC_CLK : RegDesc :=
  ⟨"DEC_CLK", 6, 0x0020, .lin 2 4, 1, [DEC_CLK]⟩

/-- Register `DEC_CNT_OK`. -/
def reg_DEC_CNT_OK : RegDesc :=
  ⟨"DEC_CNT_OK", 6, 0x0030, .lin 1 4, 1, [DEC_CNT_OK]⟩

/-- Register `DEC_CNT_INL`. -/
def reg_DEC_CNT_INL : RegDesc :=
  ⟨"DEC_CNT_INL", 6, 0x0034, .lin 1 4, 1, [DEC_CNT_INL]⟩

/-- Register `DEC_CNT_FAIL`. -/
def reg_DEC_CNT_FAIL : RegDesc :=
  ⟨"DEC_CNT_FAIL", 6, 0x0038, .lin 1 4, 1, [DEC_CNT_FAIL]⟩

/-- Register `DEC_CNT_TAG`. -/
def reg_DEC_CNT_TAG : RegDesc :=
  ⟨"DEC_CNT_TAG", 6, 0x003C, .lin 1 4, 1, [DEC_CNT_TAG]⟩

/-- Register `DEC_ITERMEAN`. -/
def reg_DEC_ITERMEAN : RegDesc :=
  ⟨"DEC_ITERMEAN", 6, 0x0040, .lin 1 4, 1, [DEC_ITERMEAN]⟩

/-- Register `FMT_CTL`. -/
def reg_FMT_CTL : RegDesc :=
  ⟨"FMT_CTL", 7, 0x0000, .lin 1 4, 1, [FMT_CTL_RUN, FMT_CTL_RA_DROP]⟩

/-- Register `FMT_STS`. -/
def reg_FMT_STS : RegDesc :=
  ⟨"FMT_STS", 7, 0x0004, .lin 1 4, 1, [FMT_STS_RUNNING, FMT_STS_STORE_OK, FMT_STS_DESC_OK]⟩

/-- Register `FMT_COMMIT`. -/
def reg_FMT_COMMIT : RegDesc :=
  ⟨"FMT_COMMIT", 7, 0x0008, .lin 1 4, 1, [FMT_COMMIT_COMMIT, FMT_COMMIT_CANCEL]⟩

/-- Register `FMT_CMT_STS`. -/
def reg_FMT_CMT_STS : RegDesc :=
  ⟨"FMT_CMT_STS", 7, 0x000C, .lin 1 4, 1, [FMT_CMT_STS_PENDING, FMT_CMT_STS_DONE, FMT_CMT_STS_REJECT, FMT_CMT_STS_DROP]⟩

/-- Register `FMT_VER`. -/
def reg_FMT_VER : RegDesc :=
  ⟨"FMT_VER", 7, 0x0010, .lin 1 4, 1, [FMT_VER]⟩

/-- Register `FMT_INFL`. -/
def reg_FMT_INFL : RegDesc :=
  ⟨"FMT_INFL", 7, 0x0014, .lin 1 4, 1, [FMT_INFL]⟩

/-- Register `FMT_DESC_LO`. -/
def reg_FMT_DESC_LO : RegDesc :=
  ⟨"FMT_DESC_LO", 7, 0x0018, .lin 1 4, 1, [FMT_DESC_LO]⟩

/-- Register `FMT_DESC_HI`. -/
def reg_FMT_DESC_HI : RegDesc :=
  ⟨"FMT_DESC_HI", 7, 0x001C, .lin 1 4, 1, [FMT_DESC_HI]⟩

/-- Register `FMT_LEAD`. -/
def reg_FMT_LEAD : RegDesc :=
  ⟨"FMT_LEAD", 7, 0x0020, .lin 1 4, 1, [FMT_LEAD]⟩

/-- Register `FMT_LADDER`. -/
def reg_FMT_LADDER : RegDesc :=
  ⟨"FMT_LADDER", 7, 0x0030, .lin 1 4, 1, [FMT_LADDER_STEPS, FMT_LADDER_REREAD, FMT_LADDER_OFS, FMT_LADDER_COMBINE]⟩

/-- Register `FMT_LADTIME`. -/
def reg_FMT_LADTIME : RegDesc :=
  ⟨"FMT_LADTIME", 7, 0x0034, .lin 1 4, 1, [FMT_LADTIME]⟩

/-- Register `FMT_WR`. -/
def reg_FMT_WR : RegDesc :=
  ⟨"FMT_WR", 7, 0x0038, .lin 1 4, 1, [FMT_WR_VERIFY, FMT_WR_RETRY, FMT_WR_VITER, FMT_WR_AHEAD]⟩

/-- Register `FMT_RA`. -/
def reg_FMT_RA : RegDesc :=
  ⟨"FMT_RA", 7, 0x003C, .lin 1 4, 1, [FMT_RA_EN, FMT_RA_ROWS, FMT_RA_AREA]⟩

/-- Register `FMT_CNT_SLIP`. -/
def reg_FMT_CNT_SLIP : RegDesc :=
  ⟨"FMT_CNT_SLIP", 7, 0x0040, .lin 1 4, 1, [FMT_CNT_SLIP]⟩

/-- Register `FMT_CNT_UNREC`. -/
def reg_FMT_CNT_UNREC : RegDesc :=
  ⟨"FMT_CNT_UNREC", 7, 0x0044, .lin 1 4, 1, [FMT_CNT_UNREC]⟩

/-- Register `FMT_CNT_GROWN`. -/
def reg_FMT_CNT_GROWN : RegDesc :=
  ⟨"FMT_CNT_GROWN", 7, 0x0048, .lin 1 4, 1, [FMT_CNT_GROWN]⟩

/-- Register `FMT_CNT_RA`. -/
def reg_FMT_CNT_RA : RegDesc :=
  ⟨"FMT_CNT_RA", 7, 0x004C, .lin 1 4, 1, [FMT_CNT_RA_CLAIMED, FMT_CNT_RA_DROPPED]⟩

/-- Register `FMT_CNT_STEP`. -/
def reg_FMT_CNT_STEP : RegDesc :=
  ⟨"FMT_CNT_STEP", 7, 0x0050, .lin 8 4, 1, [FMT_CNT_STEP]⟩

/-- Register `ACD_CTL`. -/
def reg_ACD_CTL : RegDesc :=
  ⟨"ACD_CTL", 8, 0x0000, .lin 1 4, 1, [ACD_CTL_RUN, ACD_CTL_GEN, ACD_CTL_RBLD_HOLD, ACD_CTL_CLEAN, ACD_CTL_CLEAN_CLR]⟩

/-- Register `ACD_STS`. -/
def reg_ACD_STS : RegDesc :=
  ⟨"ACD_STS", 8, 0x0004, .lin 1 4, 1, [ACD_STS_RUNNING, ACD_STS_ALLEMPTY, ACD_STS_REBUILDING, ACD_STS_RESYNC, ACD_STS_JRNL_OK, ACD_STS_SPARE_LOW, ACD_STS_SPARE_OUT, ACD_STS_UNREC_FULL, ACD_STS_LOST_CNT, ACD_STS_DEGR_CNT]⟩

/-- Register `ACD_COMMIT`. -/
def reg_ACD_COMMIT : RegDesc :=
  ⟨"ACD_COMMIT", 8, 0x0008, .lin 1 4, 1, [ACD_COMMIT_COMMIT, ACD_COMMIT_CANCEL]⟩

/-- Register `ACD_CMT_STS`. -/
def reg_ACD_CMT_STS : RegDesc :=
  ⟨"ACD_CMT_STS", 8, 0x000C, .lin 1 4, 1, [ACD_CMT_STS_PENDING, ACD_CMT_STS_DONE, ACD_CMT_STS_REJECT, ACD_CMT_STS_DROP]⟩

/-- Register `ACD_CODE`. -/
def reg_ACD_CODE : RegDesc :=
  ⟨"ACD_CODE", 8, 0x0010, .lin 1 4, 1, [ACD_CODE_K, ACD_CODE_M]⟩

/-- Register `ACD_MEMBERS`. -/
def reg_ACD_MEMBERS : RegDesc :=
  ⟨"ACD_MEMBERS", 8, 0x0014, .lin 2 4, 1, [ACD_MEMBERS]⟩

/-- Register `ACD_PLC_LO`. -/
def reg_ACD_PLC_LO : RegDesc :=
  ⟨"ACD_PLC_LO", 8, 0x0020, .lin 1 4, 1, [ACD_PLC_LO]⟩

/-- Register `ACD_PLC_HI`. -/
def reg_ACD_PLC_HI : RegDesc :=
  ⟨"ACD_PLC_HI", 8, 0x0024, .lin 1 4, 1, [ACD_PLC_HI]⟩

/-- Register `ACD_PLC_CFG`. -/
def reg_ACD_PLC_CFG : RegDesc :=
  ⟨"ACD_PLC_CFG", 8, 0x0028, .lin 1 4, 1, [ACD_PLC_CFG_SEED, ACD_PLC_CFG_ZSTEP]⟩

/-- Register `ACD_PLC_STS`. -/
def reg_ACD_PLC_STS : RegDesc :=
  ⟨"ACD_PLC_STS", 8, 0x002C, .lin 1 4, 1, [ACD_PLC_STS_VALID, ACD_PLC_STS_GEN_BUSY, ACD_PLC_STS_PAIR_FAIL, ACD_PLC_STS_PAR_FAIL, ACD_PLC_STS_CRC_FAIL]⟩

/-- Register `ACD_PLC_CRC`. -/
def reg_ACD_PLC_CRC : RegDesc :=
  ⟨"ACD_PLC_CRC", 8, 0x0030, .lin 1 4, 1, [ACD_PLC_CRC]⟩

/-- Register `ACD_LOST`. -/
def reg_ACD_LOST : RegDesc :=
  ⟨"ACD_LOST", 8, 0x0038, .lin 2 4, 1, [ACD_LOST]⟩

/-- Register `ACD_DEGR`. -/
def reg_ACD_DEGR : RegDesc :=
  ⟨"ACD_DEGR", 8, 0x0040, .lin 2 4, 1, [ACD_DEGR]⟩

/-- Register `ACD_LOSE`. -/
def reg_ACD_LOSE : RegDesc :=
  ⟨"ACD_LOSE", 8, 0x0048, .lin 1 4, 1, [ACD_LOSE_MEMBER, ACD_LOSE_KEY]⟩

/-- Register `ACD_RBLD`. -/
def reg_ACD_RBLD : RegDesc :=
  ⟨"ACD_RBLD", 8, 0x0050, .lin 1 4, 1, [ACD_RBLD_SHARE, ACD_RBLD_BATCH, ACD_RBLD_AUTO, ACD_RBLD_BUF]⟩

/-- Register `ACD_RBLD_CUR`. -/
def reg_ACD_RBLD_CUR : RegDesc :=
  ⟨"ACD_RBLD_CUR", 8, 0x0058, .lin 1 8, 2, [ACD_RBLD_CUR_ROW, ACD_RBLD_CUR_ZONE, ACD_RBLD_CUR_LEVEL, ACD_RBLD_CUR_PASS, ACD_RBLD_CUR_ACTIVE, ACD_RBLD_CUR_DONE]⟩

/-- Register `ACD_RBLD_LEFT`. -/
def reg_ACD_RBLD_LEFT : RegDesc :=
  ⟨"ACD_RBLD_LEFT", 8, 0x0060, .lin 1 4, 1, [ACD_RBLD_LEFT]⟩

/-- Register `ACD_RBLD_SKIP`. -/
def reg_ACD_RBLD_SKIP : RegDesc :=
  ⟨"ACD_RBLD_SKIP", 8, 0x0064, .lin 1 4, 1, [ACD_RBLD_SKIP]⟩

/-- Register `ACD_JRNL`. -/
def reg_ACD_JRNL : RegDesc :=
  ⟨"ACD_JRNL", 8, 0x0070, .lin 1 4, 1, [ACD_JRNL_INTERVAL, ACD_JRNL_LAZY, ACD_JRNL_CKPT, ACD_JRNL_CKMIN]⟩

/-- Register `ACD_JRNL_MEM`. -/
def reg_ACD_JRNL_MEM : RegDesc :=
  ⟨"ACD_JRNL_MEM", 8, 0x0074, .lin 1 4, 1, [ACD_JRNL_MEM_A, ACD_JRNL_MEM_B]⟩

/-- Register `ACD_CKPT_MEM`. -/
def reg_ACD_CKPT_MEM : RegDesc :=
  ⟨"ACD_CKPT_MEM", 8, 0x0078, .lin 1 4, 1, [ACD_CKPT_MEM_M0, ACD_CKPT_MEM_M1, ACD_CKPT_MEM_M2, ACD_CKPT_MEM_M3]⟩

/-- Register `ACD_JRNL_SEQ`. -/
def reg_ACD_JRNL_SEQ : RegDesc :=
  ⟨"ACD_JRNL_SEQ", 8, 0x0080, .lin 1 8, 2, [ACD_JRNL_SEQ]⟩

/-- Register `ACD_SPARE`. -/
def reg_ACD_SPARE : RegDesc :=
  ⟨"ACD_SPARE", 8, 0x0088, .lin 1 4, 1, [ACD_SPARE_LOW]⟩

/-- Register `ACD_SPARE_FREE`. -/
def reg_ACD_SPARE_FREE : RegDesc :=
  ⟨"ACD_SPARE_FREE", 8, 0x008C, .lin 1 4, 1, [ACD_SPARE_FREE_FREE, ACD_SPARE_FREE_MEMBER]⟩

/-- Register `ACD_UNREC_LO`. -/
def reg_ACD_UNREC_LO : RegDesc :=
  ⟨"ACD_UNREC_LO", 8, 0x0090, .lin 1 4, 1, [ACD_UNREC_LO]⟩

/-- Register `ACD_UNREC_HI`. -/
def reg_ACD_UNREC_HI : RegDesc :=
  ⟨"ACD_UNREC_HI", 8, 0x0094, .lin 1 4, 1, [ACD_UNREC_HI]⟩

/-- Register `ACD_UNREC_CNT`. -/
def reg_ACD_UNREC_CNT : RegDesc :=
  ⟨"ACD_UNREC_CNT", 8, 0x0098, .lin 1 4, 1, [ACD_UNREC_CNT]⟩

/-- Register `ACD_UNREC_BLK`. -/
def reg_ACD_UNREC_BLK : RegDesc :=
  ⟨"ACD_UNREC_BLK", 8, 0x009C, .lin 1 4, 1, [ACD_UNREC_BLK]⟩

/-- Register `ACD_RESYNC`. -/
def reg_ACD_RESYNC : RegDesc :=
  ⟨"ACD_RESYNC", 8, 0x00A0, .lin 1 4, 1, [ACD_RESYNC_ZONES, ACD_RESYNC_SCAN]⟩

/-- Register `ACD_CNT_RECON`. -/
def reg_ACD_CNT_RECON : RegDesc :=
  ⟨"ACD_CNT_RECON", 8, 0x00A4, .lin 1 4, 1, [ACD_CNT_RECON]⟩

/-- Register `ACD_CNT_RELOC`. -/
def reg_ACD_CNT_RELOC : RegDesc :=
  ⟨"ACD_CNT_RELOC", 8, 0x00A8, .lin 1 4, 1, [ACD_CNT_RELOC]⟩

/-- Register `ACD_STREAM`. -/
def reg_ACD_STREAM : RegDesc :=
  ⟨"ACD_STREAM", 8, 0x00B0, .lin 1 4, 1, [ACD_STREAM_QUANTUM]⟩

/-- Register `ACD_PASS`. -/
def reg_ACD_PASS : RegDesc :=
  ⟨"ACD_PASS", 8, 0x0100, .lin 16 32, 8, [ACD_PASS_MASK, ACD_PASS_START_ROW, ACD_PASS_START_ZONE, ACD_PASS_CUR_ROW, ACD_PASS_CUR_ZONE, ACD_PASS_LEVEL, ACD_PASS_VALID, ACD_PASS_DONE]⟩

/-- Register `BUF_CTL`. -/
def reg_BUF_CTL : RegDesc :=
  ⟨"BUF_CTL", 9, 0x0000, .lin 1 4, 1, [BUF_CTL_KEEP, BUF_CTL_FENCE]⟩

/-- Register `BUF_STS`. -/
def reg_BUF_STS : RegDesc :=
  ⟨"BUF_STS", 9, 0x0004, .lin 1 4, 1, [BUF_STS_SRAM_FILLED, BUF_STS_TRAINED, BUF_STS_FILLED, BUF_STS_KEPT, BUF_STS_TRNFAIL]⟩

/-- Register `BUF_CFG`. -/
def reg_BUF_CFG : RegDesc :=
  ⟨"BUF_CFG", 9, 0x0010, .lin 1 4, 1, [BUF_CFG_SIZE, BUF_CFG_RATE, BUF_CFG_RANKS]⟩

/-- Register `BUF_ECC`. -/
def reg_BUF_ECC : RegDesc :=
  ⟨"BUF_ECC", 9, 0x0014, .lin 1 4, 1, [BUF_ECC_MODE]⟩

/-- Register `BUF_FILL_WM`. -/
def reg_BUF_FILL_WM : RegDesc :=
  ⟨"BUF_FILL_WM", 9, 0x0018, .lin 1 4, 1, [BUF_FILL_WM]⟩

/-- Register `BUF_FILL`. -/
def reg_BUF_FILL : RegDesc :=
  ⟨"BUF_FILL", 9, 0x001C, .lin 1 4, 1, [BUF_FILL_SHARE, BUF_FILL_OCC]⟩

/-- Register `BUF_SCRB_RATE`. -/
def reg_BUF_SCRB_RATE : RegDesc :=
  ⟨"BUF_SCRB_RATE", 9, 0x0020, .lin 1 4, 1, [BUF_SCRB_RATE]⟩

/-- Register `BUF_SCRB_POS`. -/
def reg_BUF_SCRB_POS : RegDesc :=
  ⟨"BUF_SCRB_POS", 9, 0x0024, .lin 1 4, 1, [BUF_SCRB_POS_PAGE, BUF_SCRB_POS_PASSES]⟩

/-- Register `BUF_MERGE`. -/
def reg_BUF_MERGE : RegDesc :=
  ⟨"BUF_MERGE", 9, 0x0028, .lin 1 4, 1, [BUF_MERGE_TMO, BUF_MERGE_OCC]⟩

/-- Register `BUF_RETIRE_BASE`. -/
def reg_BUF_RETIRE_BASE : RegDesc :=
  ⟨"BUF_RETIRE_BASE", 9, 0x0030, .lin 1 4, 1, [BUF_RETIRE_BASE]⟩

/-- Register `BUF_RETIRE_CTL`. -/
def reg_BUF_RETIRE_CTL : RegDesc :=
  ⟨"BUF_RETIRE_CTL", 9, 0x0034, .lin 1 4, 1, [BUF_RETIRE_CTL_INDEX, BUF_RETIRE_CTL_PAGE, BUF_RETIRE_CTL_GO, BUF_RETIRE_CTL_BUSY, BUF_RETIRE_CTL_ERR]⟩

/-- Register `BUF_RETIRE_CNT`. -/
def reg_BUF_RETIRE_CNT : RegDesc :=
  ⟨"BUF_RETIRE_CNT", 9, 0x0038, .lin 1 4, 1, [BUF_RETIRE_CNT]⟩

/-- Register `BUF_ERR_CE`. -/
def reg_BUF_ERR_CE : RegDesc :=
  ⟨"BUF_ERR_CE", 9, 0x0040, .lin 1 4, 1, [BUF_ERR_CE]⟩

/-- Register `BUF_ERR_UE`. -/
def reg_BUF_ERR_UE : RegDesc :=
  ⟨"BUF_ERR_UE", 9, 0x0044, .lin 1 4, 1, [BUF_ERR_UE]⟩

/-- Register `BUF_SRAM_CE`. -/
def reg_BUF_SRAM_CE : RegDesc :=
  ⟨"BUF_SRAM_CE", 9, 0x0048, .lin 1 4, 1, [BUF_SRAM_CE]⟩

/-- Register `BUF_SRAM_UE`. -/
def reg_BUF_SRAM_UE : RegDesc :=
  ⟨"BUF_SRAM_UE", 9, 0x004C, .lin 1 4, 1, [BUF_SRAM_UE]⟩

/-- Register `BUF_ELOG_IDX`. -/
def reg_BUF_ELOG_IDX : RegDesc :=
  ⟨"BUF_ELOG_IDX", 9, 0x0050, .lin 1 4, 1, [BUF_ELOG_IDX]⟩

/-- Register `BUF_ELOG_HEAD`. -/
def reg_BUF_ELOG_HEAD : RegDesc :=
  ⟨"BUF_ELOG_HEAD", 9, 0x0054, .lin 1 4, 1, [BUF_ELOG_HEAD_HEAD, BUF_ELOG_HEAD_WRAPPED]⟩

/-- Register `BUF_ELOG_DAT`. -/
def reg_BUF_ELOG_DAT : RegDesc :=
  ⟨"BUF_ELOG_DAT", 9, 0x0058, .lin 4 4, 1, []⟩

/-- Register `BUF_DMAHALT`. -/
def reg_BUF_DMAHALT : RegDesc :=
  ⟨"BUF_DMAHALT", 9, 0x0070, .lin 1 4, 1, [BUF_DMAHALT]⟩

/-- Register `BUF_TRAFFIC`. -/
def reg_BUF_TRAFFIC : RegDesc :=
  ⟨"BUF_TRAFFIC", 9, 0x0074, .lin 1 4, 1, [BUF_TRAFFIC_NOW, BUF_TRAFFIC_PEAK]⟩

/-- Register `BUF_DIAG_ADR`. -/
def reg_BUF_DIAG_ADR : RegDesc :=
  ⟨"BUF_DIAG_ADR", 9, 0x0080, .lin 1 4, 1, [BUF_DIAG_ADR]⟩

/-- Register `BUF_DIAG_DAT`. -/
def reg_BUF_DIAG_DAT : RegDesc :=
  ⟨"BUF_DIAG_DAT", 9, 0x0084, .lin 1 4, 1, []⟩

/-- Register `BUF_RMAP`. -/
def reg_BUF_RMAP : RegDesc :=
  ⟨"BUF_RMAP", 9, 0x1000, .lin 1024 4, 1, [BUF_RMAP_PAGE, BUF_RMAP_VALID]⟩

/-- Register `PCI_CFG`. -/
def reg_PCI_CFG : RegDesc :=
  ⟨"PCI_CFG", 10, 0x0000, .lin 1 4, 1, [PCI_CFG_MAXSPD, PCI_CFG_MAXW, PCI_CFG_INTX_EN]⟩

/-- Register `PCI_STS`. -/
def reg_PCI_STS : RegDesc :=
  ⟨"PCI_STS", 10, 0x0004, .lin 1 4, 1, [PCI_STS_DL_UP, PCI_STS_SPEED, PCI_STS_WIDTH, PCI_STS_LANE_REV, PCI_STS_DSTATE, PCI_STS_LSTATE, PCI_STS_BME, PCI_STS_FROZEN]⟩

/-- Register `PCI_IDS`. -/
def reg_PCI_IDS : RegDesc :=
  ⟨"PCI_IDS", 10, 0x0010, .lin 1 4, 1, [PCI_IDS_SSVID, PCI_IDS_SSID]⟩

/-- Register `PCI_FRZ`. -/
def reg_PCI_FRZ : RegDesc :=
  ⟨"PCI_FRZ", 10, 0x0014, .lin 1 4, 1, [PCI_FRZ_FROZEN, PCI_FRZ_FREEZE, PCI_FRZ_RELEASE, PCI_FRZ_BY_FAULT, PCI_FRZ_DROP]⟩

/-- Register `PCI_CTO`. -/
def reg_PCI_CTO : RegDesc :=
  ⟨"PCI_CTO", 10, 0x0018, .lin 1 4, 1, [PCI_CTO_RANGE, PCI_CTO_DIS, PCI_CTO_VALUE]⟩

/-- Register `PCI_TAGS`. -/
def reg_PCI_TAGS : RegDesc :=
  ⟨"PCI_TAGS", 10, 0x001C, .lin 1 4, 1, [PCI_TAGS_INUSE, PCI_TAGS_QUAR]⟩

/-- Register `PCI_CNT_UC`. -/
def reg_PCI_CNT_UC : RegDesc :=
  ⟨"PCI_CNT_UC", 10, 0x0020, .lin 1 4, 1, [PCI_CNT_UC_UC, PCI_CNT_UC_SILENT]⟩

/-- Register `PCI_CNT_CTO`. -/
def reg_PCI_CNT_CTO : RegDesc :=
  ⟨"PCI_CNT_CTO", 10, 0x0024, .lin 1 4, 1, [PCI_CNT_CTO]⟩

/-- Register `PCI_CNT_LINK`. -/
def reg_PCI_CNT_LINK : RegDesc :=
  ⟨"PCI_CNT_LINK", 10, 0x0028, .lin 1 4, 1, [PCI_CNT_LINK_DOWN, PCI_CNT_LINK_RECOV]⟩

/-- Register `PCI_ASPM`. -/
def reg_PCI_ASPM : RegDesc :=
  ⟨"PCI_ASPM", 10, 0x002C, .lin 1 4, 1, [PCI_ASPM_L1IDLE]⟩

/-- Register `PCI_PME`. -/
def reg_PCI_PME : RegDesc :=
  ⟨"PCI_PME", 10, 0x0030, .lin 1 4, 1, [PCI_PME_CRIT, PCI_PME_FAULT, PCI_PME_CLAIK, PCI_PME_PEND]⟩

/-- Register `PCI_CNT_BAR4`. -/
def reg_PCI_CNT_BAR4 : RegDesc :=
  ⟨"PCI_CNT_BAR4", 10, 0x0034, .lin 1 4, 1, [PCI_CNT_BAR4_BAR4, PCI_CNT_BAR4_BAR2]⟩

/-- Register `PCI_WIN`. -/
def reg_PCI_WIN : RegDesc :=
  ⟨"PCI_WIN", 10, 0x0040, .lin 64 8, 2, [PCI_WIN_EN, PCI_WIN_WREN, PCI_WIN_BASE]⟩

/-- Register `NVQ_CTL`. -/
def reg_NVQ_CTL : RegDesc :=
  ⟨"NVQ_CTL", 11, 0x0000, .lin 1 4, 1, [NVQ_CTL_RUN, NVQ_CTL_HOLD]⟩

/-- Register `NVQ_STS`. -/
def reg_NVQ_STS : RegDesc :=
  ⟨"NVQ_STS", 11, 0x0004, .lin 1 4, 1, [NVQ_STS_RDY, NVQ_STS_FETCH_HELD, NVQ_STS_ACTIVATING, NVQ_STS_MEDIA_READY, NVQ_STS_PS, NVQ_STS_WCE]⟩

/-- Register `NVQ_INFL`. -/
def reg_NVQ_INFL : RegDesc :=
  ⟨"NVQ_INFL", 11, 0x0010, .lin 1 4, 1, [NVQ_INFL_INFL, NVQ_INFL_HELD]⟩

/-- Register `NVQ_SPINWAIT`. -/
def reg_NVQ_SPINWAIT : RegDesc :=
  ⟨"NVQ_SPINWAIT", 11, 0x0014, .lin 1 4, 1, [NVQ_SPINWAIT]⟩

/-- Register `NVQ_FRONT`. -/
def reg_NVQ_FRONT : RegDesc :=
  ⟨"NVQ_FRONT", 11, 0x0018, .lin 1 4, 1, [NVQ_FRONT_WAIT]⟩

/-- Register `NVQ_CMB`. -/
def reg_NVQ_CMB : RegDesc :=
  ⟨"NVQ_CMB", 11, 0x001C, .lin 1 4, 1, [NVQ_CMB_SIZE]⟩

/-- Register `NVQ_SQEN`. -/
def reg_NVQ_SQEN : RegDesc :=
  ⟨"NVQ_SQEN", 11, 0x0020, .lin 8 4, 1, [NVQ_SQEN]⟩

/-- Register `NVQ_ZACT`. -/
def reg_NVQ_ZACT : RegDesc :=
  ⟨"NVQ_ZACT", 11, 0x0040, .lin 1 4, 1, [NVQ_ZACT_ACTIVE, NVQ_ZACT_OPENED]⟩

/-- Register `NVQ_CNT_CMD`. -/
def reg_NVQ_CNT_CMD : RegDesc :=
  ⟨"NVQ_CNT_CMD", 11, 0x0050, .lin 1 4, 1, [NVQ_CNT_CMD]⟩

/-- Register `NVQ_CNT_ERR`. -/
def reg_NVQ_CNT_ERR : RegDesc :=
  ⟨"NVQ_CNT_ERR", 11, 0x0054, .lin 1 4, 1, [NVQ_CNT_ERR]⟩

/-- Register `NVQ_CNT_NNR`. -/
def reg_NVQ_CNT_NNR : RegDesc :=
  ⟨"NVQ_CNT_NNR", 11, 0x0058, .lin 1 4, 1, [NVQ_CNT_NNR]⟩

/-- Register `NVQ_CNT_ABRT`. -/
def reg_NVQ_CNT_ABRT : RegDesc :=
  ⟨"NVQ_CNT_ABRT", 11, 0x005C, .lin 1 4, 1, [NVQ_CNT_ABRT]⟩

/-- Register `NVQ_CNT_DBERR`. -/
def reg_NVQ_CNT_DBERR : RegDesc :=
  ⟨"NVQ_CNT_DBERR", 11, 0x0060, .lin 1 4, 1, [NVQ_CNT_DBERR_DB, NVQ_CNT_DBERR_UNLK]⟩

/-- Register `FLT_CTL`. -/
def reg_FLT_CTL : RegDesc :=
  ⟨"FLT_CTL", 12, 0x0000, .lin 1 4, 1, [FLT_CTL_FIRSTSEV, FLT_CTL_FAULTN]⟩

/-- Register `FLT_SAFE`. -/
def reg_FLT_SAFE : RegDesc :=
  ⟨"FLT_SAFE", 12, 0x0004, .lin 1 4, 1, [FLT_SAFE_ACTIVE, FLT_SAFE_LOCKED, FLT_SAFE_ENTRIES]⟩

/-- Register `FLT_INJECT`. -/
def reg_FLT_INJECT : RegDesc :=
  ⟨"FLT_INJECT", 12, 0x0008, .lin 1 4, 1, [FLT_INJECT_SRC, FLT_INJECT_INST, FLT_INJECT_ASSERT]⟩

/-- Register `FLT_FIRST`. -/
def reg_FLT_FIRST : RegDesc :=
  ⟨"FLT_FIRST", 12, 0x0010, .lin 1 4, 1, [FLT_FIRST_SRC, FLT_FIRST_SEV, FLT_FIRST_INST, FLT_FIRST_VALID]⟩

/-- Register `FLT_FIRST_LO`. -/
def reg_FLT_FIRST_LO : RegDesc :=
  ⟨"FLT_FIRST_LO", 12, 0x0014, .lin 1 4, 1, [FLT_FIRST_LO]⟩

/-- Register `FLT_FIRST_HI`. -/
def reg_FLT_FIRST_HI : RegDesc :=
  ⟨"FLT_FIRST_HI", 12, 0x0018, .lin 1 4, 1, [FLT_FIRST_HI]⟩

/-- Register `FLT_FIRST_TIME`. -/
def reg_FLT_FIRST_TIME : RegDesc :=
  ⟨"FLT_FIRST_TIME", 12, 0x001C, .lin 1 4, 1, [FLT_FIRST_TIME]⟩

/-- Register `FLT_QUIET`. -/
def reg_FLT_QUIET : RegDesc :=
  ⟨"FLT_QUIET", 12, 0x0040, .lin 8 4, 1, [FLT_QUIET_QUIET, FLT_QUIET_WINDOW]⟩

/-- Register `FLT_STS`. -/
def reg_FLT_STS : RegDesc :=
  ⟨"FLT_STS", 12, 0x0100, .lin 16 4, 1, [FLT_STS]⟩

/-- Register `FLT_LIVE`. -/
def reg_FLT_LIVE : RegDesc :=
  ⟨"FLT_LIVE", 12, 0x0140, .lin 16 4, 1, [FLT_LIVE]⟩

/-- Register `FLT_SEV`. -/
def reg_FLT_SEV : RegDesc :=
  ⟨"FLT_SEV", 12, 0x0800, .lin 512 4, 1, [FLT_SEV_SEV, FLT_SEV_LOCK, FLT_SEV_AER, FLT_SEV_AEN, FLT_SEV_WAKE, FLT_SEV_QCLASS, FLT_SEV_LIMIT]⟩

/-- Register `FLT_CNT`. -/
def reg_FLT_CNT : RegDesc :=
  ⟨"FLT_CNT", 12, 0x1000, .lin 512 4, 1, [FLT_CNT_RCNT, FLT_CNT_FSTATE, FLT_CNT_LOCKOUT, FLT_CNT_ASSERTS]⟩

/-- Register `BNR_CTL`. -/
def reg_BNR_CTL : RegDesc :=
  ⟨"BNR_CTL", 13, 0x0000, .lin 1 4, 1, [BNR_CTL_DUMP]⟩

/-- Register `BNR_STS`. -/
def reg_BNR_STS : RegDesc :=
  ⟨"BNR_STS", 13, 0x0004, .lin 1 4, 1, [BNR_STS_HEAD, BNR_STS_WRAPPED, BNR_STS_DUMPING, BNR_STS_NOSLOT, BNR_STS_SEQ]⟩

/-- Register `BNR_RDIDX`. -/
def reg_BNR_RDIDX : RegDesc :=
  ⟨"BNR_RDIDX", 13, 0x0010, .lin 1 4, 1, [BNR_RDIDX_INDEX, BNR_RDIDX_AUTOINC]⟩

/-- Register `BNR_DAT`. -/
def reg_BNR_DAT : RegDesc :=
  ⟨"BNR_DAT", 13, 0x0020, .lin 8 4, 1, []⟩

/-- Register `BNR_FW`. -/
def reg_BNR_FW : RegDesc :=
  ⟨"BNR_FW", 13, 0x0040, .lin 2 4, 1, [BNR_FW]⟩

/-- Register `BNR_FWCTL`. -/
def reg_BNR_FWCTL : RegDesc :=
  ⟨"BNR_FWCTL", 13, 0x0048, .lin 1 4, 1, [BNR_FWCTL_CODE, BNR_FWCTL_GO]⟩

/-- Register `BNR_NOR_BASE`. -/
def reg_BNR_NOR_BASE : RegDesc :=
  ⟨"BNR_NOR_BASE", 13, 0x0050, .lin 1 4, 1, [BNR_NOR_BASE]⟩

/-- Register `BNR_NOR_FREE`. -/
def reg_BNR_NOR_FREE : RegDesc :=
  ⟨"BNR_NOR_FREE", 13, 0x0054, .lin 1 4, 1, [BNR_NOR_FREE]⟩

/-- Register `BNR_NOR_LAST`. -/
def reg_BNR_NOR_LAST : RegDesc :=
  ⟨"BNR_NOR_LAST", 13, 0x0058, .lin 1 4, 1, [BNR_NOR_LAST_SLOT, BNR_NOR_LAST_COMPLETE, BNR_NOR_LAST_ENTRIES]⟩

/-- Register `MGR_CTL`. -/
def reg_MGR_CTL : RegDesc :=
  ⟨"MGR_CTL", 14, 0x0000, .lin 1 4, 1, [MGR_CTL_RUN, MGR_CTL_DISCOVER, MGR_CTL_SYNC_EN]⟩

/-- Register `MGR_STS`. -/
def reg_MGR_STS : RegDesc :=
  ⟨"MGR_STS", 14, 0x0004, .lin 1 4, 1, [MGR_STS_ASSIGNED, MGR_STS_INSVC, MGR_STS_LOST, MGR_STS_READY]⟩

/-- Register `MGR_GEOM`. -/
def reg_MGR_GEOM : RegDesc :=
  ⟨"MGR_GEOM", 14, 0x0010, .lin 1 4, 1, [MGR_GEOM_USHIFT, MGR_GEOM_G, MGR_GEOM_SLACK]⟩

/-- Register `MGR_PEERCFG`. -/
def reg_MGR_PEERCFG : RegDesc :=
  ⟨"MGR_PEERCFG", 14, 0x0014, .lin 1 4, 1, [MGR_PEERCFG_NQ, MGR_PEERCFG_TMO, MGR_PEERCFG_RETRY]⟩

/-- Register `MGR_TOK`. -/
def reg_MGR_TOK : RegDesc :=
  ⟨"MGR_TOK", 14, 0x0018, .lin 1 4, 1, [MGR_TOK_BUDGET, MGR_TOK_START, MGR_TOK_RUN]⟩

/-- Register `MGR_TOKUSE`. -/
def reg_MGR_TOKUSE : RegDesc :=
  ⟨"MGR_TOKUSE", 14, 0x001C, .lin 1 4, 1, [MGR_TOKUSE_GRANTS, MGR_TOKUSE_USED]⟩

/-- Register `MGR_SYNC`. -/
def reg_MGR_SYNC : RegDesc :=
  ⟨"MGR_SYNC", 14, 0x0020, .lin 1 4, 1, [MGR_SYNC_RPM, MGR_SYNC_PPR, MGR_SYNC_EN]⟩

/-- Register `MGR_POLL`. -/
def reg_MGR_POLL : RegDesc :=
  ⟨"MGR_POLL", 14, 0x0024, .lin 1 4, 1, [MGR_POLL_PERIOD, MGR_POLL_HARV]⟩

/-- Register `MGR_FW`. -/
def reg_MGR_FW : RegDesc :=
  ⟨"MGR_FW", 14, 0x0028, .lin 1 4, 1, [MGR_FW_PAR, MGR_FW_GO, MGR_FW_BUSY, MGR_FW_FAIL]⟩

/-- Register `MGR_HARV`. -/
def reg_MGR_HARV : RegDesc :=
  ⟨"MGR_HARV", 14, 0x002C, .lin 1 4, 1, [MGR_HARV_SIZE]⟩

/-- Register `MGR_ORD`. -/
def reg_MGR_ORD : RegDesc :=
  ⟨"MGR_ORD", 14, 0x0030, .lin 1 4, 1, [MGR_ORD_LOST, MGR_ORD_HELD]⟩

/-- Register `MGR_NODE`. -/
def reg_MGR_NODE : RegDesc :=
  ⟨"MGR_NODE", 14, 0x0100, .lin 64 16, 4, [MGR_NODE_STATE, MGR_NODE_LOADOK, MGR_NODE_GRANT, MGR_NODE_USED, MGR_NODE_MISSED, MGR_NODE_EUI, MGR_NODE_POD]⟩

/-- Register `HLK_CTL`. -/
def reg_HLK_CTL : RegDesc :=
  ⟨"HLK_CTL", 15, 0x0000, .lin 4 4096, 1, [HLK_CTL_EN, HLK_CTL_TRAIN, HLK_CTL_SWAP_HINT]⟩

/-- Register `HLK_STS`. -/
def reg_HLK_STS : RegDesc :=
  ⟨"HLK_STS", 15, 0x0004, .lin 4 4096, 1, [HLK_STS_UP, HLK_STS_ABSENT, HLK_STS_SWAPPED, HLK_STS_HINT_DIFF, HLK_STS_A_INV, HLK_STS_B_INV]⟩

/-- Register `HLK_WEN`. -/
def reg_HLK_WEN : RegDesc :=
  ⟨"HLK_WEN", 15, 0x0010, .lin 4 4096, 1, [HLK_WEN]⟩

/-- Register `HLK_REGCMD`. -/
def reg_HLK_REGCMD : RegDesc :=
  ⟨"HLK_REGCMD", 15, 0x0014, .lin 4 4096, 1, [HLK_REGCMD_ADDR, HLK_REGCMD_HEAD, HLK_REGCMD_RD, HLK_REGCMD_GO, HLK_REGCMD_BUSY, HLK_REGCMD_ERR, HLK_REGCMD_WDATA]⟩

/-- Register `HLK_REGDAT`. -/
def reg_HLK_REGDAT : RegDesc :=
  ⟨"HLK_REGDAT", 15, 0x0018, .lin 4 4096, 1, [HLK_REGDAT]⟩

/-- Register `HLK_FLAG`. -/
def reg_HLK_FLAG : RegDesc :=
  ⟨"HLK_FLAG", 15, 0x0020, .nest 0 4 4096 3 4, 1, [HLK_FLAG]⟩

/-- Register `HLK_ERR`. -/
def reg_HLK_ERR : RegDesc :=
  ⟨"HLK_ERR", 15, 0x0030, .lin 4 4096, 1, [HLK_ERR_CRC, HLK_ERR_RESENDS]⟩

/-- Register `HLK_LAT`. -/
def reg_HLK_LAT : RegDesc :=
  ⟨"HLK_LAT", 15, 0x0034, .lin 4 4096, 1, [HLK_LAT]⟩

/-- Register `CLB_CTL`. -/
def reg_CLB_CTL : RegDesc :=
  ⟨"CLB_CTL", 16, 0x0000, .lin 1 4, 1, [CLB_CTL_UPEN, CLB_CTL_DNEN]⟩

/-- Register `CLB_NODE`. -/
def reg_CLB_NODE : RegDesc :=
  ⟨"CLB_NODE", 16, 0x0004, .lin 1 4, 1, [CLB_NODE_ADDR, CLB_NODE_ASSIGNED, CLB_NODE_POD, CLB_NODE_LEVEL]⟩

/-- Register `CLB_UPCNT`. -/
def reg_CLB_UPCNT : RegDesc :=
  ⟨"CLB_UPCNT", 16, 0x0008, .lin 1 4, 1, [CLB_UPCNT_VALID, CLB_UPCNT_CRC]⟩

/-- Register `CLB_DNCNT`. -/
def reg_CLB_DNCNT : RegDesc :=
  ⟨"CLB_DNCNT", 16, 0x000C, .lin 1 4, 1, [CLB_DNCNT_VALID, CLB_DNCNT_CRC]⟩

/-- Register `CLB_RETRY`. -/
def reg_CLB_RETRY : RegDesc :=
  ⟨"CLB_RETRY", 16, 0x0010, .lin 1 4, 1, [CLB_RETRY_REPEATS, CLB_RETRY_RESERVED]⟩

/-- Register `CLB_ORDER`. -/
def reg_CLB_ORDER : RegDesc :=
  ⟨"CLB_ORDER", 16, 0x0014, .lin 1 4, 1, [CLB_ORDER_DRYDOWN, CLB_ORDER_SPIN, CLB_ORDER_PSCAP, CLB_ORDER_CODE, CLB_ORDER_COUNT]⟩

/-- Registers of GLB. -/
def regsGlb0 : List RegDesc :=
  [reg_GLB_ID, reg_GLB_STEP, reg_GLB_ROLE, reg_GLB_STRAP, reg_GLB_BOOT, reg_GLB_RSTCTL, reg_GLB_RSTCAUSE, reg_GLB_CFGDONE, reg_GLB_FLACON_VER, reg_GLB_CFG_SEQ, reg_GLB_NOR, reg_GLB_BOOTTIME, reg_GLB_WIRING, reg_GLB_SVN]

/-- Registers of ANG. -/
def regsAng0 : List RegDesc :=
  [reg_ANG_SRC, reg_ANG_SRCSEL, reg_ANG_COMMIT, reg_ANG_CMT_STS, reg_ANG_STAMP_LO, reg_ANG_STAMP_HI, reg_ANG_RATE, reg_ANG_PERIOD, reg_ANG_PLT_CFG, reg_ANG_PLT1_OFS, reg_ANG_AMP_LIM, reg_ANG_DIS_LIM, reg_ANG_ECC, reg_ANG_PLT_AMP, reg_ANG_PLT_TRIM, reg_ANG_ECC1, reg_ANG_CMP]

/-- Registers of SPN. -/
def regsSpn0 : List RegDesc :=
  [reg_SPN_CTL, reg_SPN_STATE, reg_SPN_COMMIT, reg_SPN_CMT_STS, reg_SPN_SETPT, reg_SPN_RAMP, reg_SPN_REFMODE, reg_SPN_REFCFG, reg_SPN_REFCFG2, reg_SPN_TOKENS, reg_SPN_MOTOR, reg_SPN_MOTOR2, reg_SPN_PWM, reg_SPN_SHUNT, reg_SPN_OBS, reg_SPN_HAND, reg_SPN_EOFS, reg_SPN_ALIGN, reg_SPN_OPEN, reg_SPN_BRAKE, reg_SPN_CATCH, reg_SPN_LIMIT, reg_SPN_LG, reg_SPN_VBUS]

/-- Registers of SPN. -/
def regsSpn1 : List RegDesc :=
  [reg_SPN_PADV, reg_SPN_SPEED, reg_SPN_RAMPV, reg_SPN_IDQ, reg_SPN_BUS, reg_SPN_PWR, reg_SPN_TEMP, reg_SPN_CNT]

/-- Registers of SRV. -/
def regsSrv0 : List RegDesc :=
  [reg_SRV_FRAME, reg_SRV_SSMPAT, reg_SRV_BAD, reg_SRV_RET_CFG, reg_SRV_RET_STS, reg_SRV_CTL, reg_SRV_STS, reg_SRV_COMMIT, reg_SRV_CMT_STS, reg_SRV_VCMCFG, reg_SRV_VCMLIM, reg_SRV_SEEK, reg_SRV_MSEEK, reg_SRV_HAND, reg_SRV_SETTLE, reg_SRV_DESAT, reg_SRV_RVCFG, reg_SRV_RVFF, reg_SRV_NEXT, reg_SRV_NEXTH, reg_SRV_CUR, reg_SRV_CNT, reg_SRV_MEMADR, reg_SRV_MEMDAT]

/-- Registers of SRV. -/
def regsSrv1 : List RegDesc :=
  [reg_SRV_HCFG, reg_SRV_HGAIN, reg_SRV_TGT, reg_SRV_TOFS, reg_SRV_SAFE, reg_SRV_HOFS, reg_SRV_POS, reg_SRV_PES, reg_SRV_HSTS, reg_SRV_HTR, reg_SRV_HTR2, reg_SRV_HTRV]

/-- Registers of LPE. -/
def regsLpe0 : List RegDesc :=
  [reg_LPE_CTL, reg_LPE_STS, reg_LPE_COMMIT, reg_LPE_CMT_STS, reg_LPE_VER_V, reg_LPE_VER_C, reg_LPE_IMG, reg_LPE_IMGSTS, reg_LPE_IVER_V, reg_LPE_IVER_C, reg_LPE_LDSRC_LO, reg_LPE_LDSRC_HI, reg_LPE_LDCTL, reg_LPE_CUSTLIM, reg_LPE_LOAD, reg_LPE_TRIG, reg_LPE_KILL, reg_LPE_ERR, reg_LPE_ECC, reg_LPE_CTX, reg_LPE_CTXSTS, reg_LPE_LAT, reg_LPE_OUTCFG, reg_LPE_OVR]

/-- Registers of LPE. -/
def regsLpe1 : List RegDesc :=
  [reg_LPE_CG, reg_LPE_CG_STS, reg_LPE_CG_VAL, reg_LPE_SIL_CFG, reg_LPE_SIL_ADDR, reg_LPE_SIL_INT, reg_LPE_SIL_THR, reg_LPE_SIL_MASK, reg_LPE_SIL_CTL, reg_LPE_SIL_STS, reg_LPE_SIL_FILL, reg_LPE_SILRD, reg_LPE_SILDAT_LO, reg_LPE_SILDAT_HI]

/-- Registers of LAN. -/
def regsLan0 : List RegDesc :=
  [reg_LAN_CTL, reg_LAN_STS, reg_LAN_COMMIT, reg_LAN_CMT_STS, reg_LAN_AFE, reg_LAN_AGC, reg_LAN_OFS, reg_LAN_ASYM, reg_LAN_DROP, reg_LAN_TA, reg_LAN_EQTGT, reg_LAN_EQBANK, reg_LAN_EQADP, reg_LAN_ZRATIO, reg_LAN_RTTSEL, reg_LAN_PTRIM, reg_LAN_WROFS, reg_LAN_SYNC, reg_LAN_PCMP, reg_LAN_POL, reg_LAN_GAINV, reg_LAN_TRIMV, reg_LAN_SYNCV, reg_LAN_DEFV]

/-- Registers of LAN. -/
def regsLan1 : List RegDesc :=
  [reg_LAN_STGV, reg_LAN_MEMADR, reg_LAN_MEMDAT, reg_LAN_SYNCPAT_LO, reg_LAN_SYNCPAT_HI, reg_LAN_TGT]

/-- Registers of DEC. -/
def regsDec0 : List RegDesc :=
  [reg_DEC_EN, reg_DEC_STS, reg_DEC_BUDGET, reg_DEC_QLIM, reg_DEC_SCHED, reg_DEC_CLK, reg_DEC_CNT_OK, reg_DEC_CNT_INL, reg_DEC_CNT_FAIL, reg_DEC_CNT_TAG, reg_DEC_ITERMEAN]

/-- Registers of FMT. -/
def regsFmt0 : List RegDesc :=
  [reg_FMT_CTL, reg_FMT_STS, reg_FMT_COMMIT, reg_FMT_CMT_STS, reg_FMT_VER, reg_FMT_INFL, reg_FMT_DESC_LO, reg_FMT_DESC_HI, reg_FMT_LEAD, reg_FMT_LADDER, reg_FMT_LADTIME, reg_FMT_WR, reg_FMT_RA, reg_FMT_CNT_SLIP, reg_FMT_CNT_UNREC, reg_FMT_CNT_GROWN, reg_FMT_CNT_RA, reg_FMT_CNT_STEP]

/-- Registers of ACD. -/
def regsAcd0 : List RegDesc :=
  [reg_ACD_CTL, reg_ACD_STS, reg_ACD_COMMIT, reg_ACD_CMT_STS, reg_ACD_CODE, reg_ACD_MEMBERS, reg_ACD_PLC_LO, reg_ACD_PLC_HI, reg_ACD_PLC_CFG, reg_ACD_PLC_STS, reg_ACD_PLC_CRC, reg_ACD_LOST, reg_ACD_DEGR, reg_ACD_LOSE, reg_ACD_RBLD, reg_ACD_RBLD_CUR, reg_ACD_RBLD_LEFT, reg_ACD_RBLD_SKIP, reg_ACD_JRNL, reg_ACD_JRNL_MEM, reg_ACD_CKPT_MEM, reg_ACD_JRNL_SEQ, reg_ACD_SPARE, reg_ACD_SPARE_FREE]

/-- Registers of ACD. -/
def regsAcd1 : List RegDesc :=
  [reg_ACD_UNREC_LO, reg_ACD_UNREC_HI, reg_ACD_UNREC_CNT, reg_ACD_UNREC_BLK, reg_ACD_RESYNC, reg_ACD_CNT_RECON, reg_ACD_CNT_RELOC, reg_ACD_STREAM, reg_ACD_PASS]

/-- Registers of BUF. -/
def regsBuf0 : List RegDesc :=
  [reg_BUF_CTL, reg_BUF_STS, reg_BUF_CFG, reg_BUF_ECC, reg_BUF_FILL_WM, reg_BUF_FILL, reg_BUF_SCRB_RATE, reg_BUF_SCRB_POS, reg_BUF_MERGE, reg_BUF_RETIRE_BASE, reg_BUF_RETIRE_CTL, reg_BUF_RETIRE_CNT, reg_BUF_ERR_CE, reg_BUF_ERR_UE, reg_BUF_SRAM_CE, reg_BUF_SRAM_UE, reg_BUF_ELOG_IDX, reg_BUF_ELOG_HEAD, reg_BUF_ELOG_DAT, reg_BUF_DMAHALT, reg_BUF_TRAFFIC, reg_BUF_DIAG_ADR, reg_BUF_DIAG_DAT, reg_BUF_RMAP]

/-- Registers of PCI. -/
def regsPci0 : List RegDesc :=
  [reg_PCI_CFG, reg_PCI_STS, reg_PCI_IDS, reg_PCI_FRZ, reg_PCI_CTO, reg_PCI_TAGS, reg_PCI_CNT_UC, reg_PCI_CNT_CTO, reg_PCI_CNT_LINK, reg_PCI_ASPM, reg_PCI_PME, reg_PCI_CNT_BAR4, reg_PCI_WIN]

/-- Registers of NVQ. -/
def regsNvq0 : List RegDesc :=
  [reg_NVQ_CTL, reg_NVQ_STS, reg_NVQ_INFL, reg_NVQ_SPINWAIT, reg_NVQ_FRONT, reg_NVQ_CMB, reg_NVQ_SQEN, reg_NVQ_ZACT, reg_NVQ_CNT_CMD, reg_NVQ_CNT_ERR, reg_NVQ_CNT_NNR, reg_NVQ_CNT_ABRT, reg_NVQ_CNT_DBERR]

/-- Registers of FLT. -/
def regsFlt0 : List RegDesc :=
  [reg_FLT_CTL, reg_FLT_SAFE, reg_FLT_INJECT, reg_FLT_FIRST, reg_FLT_FIRST_LO, reg_FLT_FIRST_HI, reg_FLT_FIRST_TIME, reg_FLT_QUIET, reg_FLT_STS, reg_FLT_LIVE, reg_FLT_SEV, reg_FLT_CNT]

/-- Registers of BNR. -/
def regsBnr0 : List RegDesc :=
  [reg_BNR_CTL, reg_BNR_STS, reg_BNR_RDIDX, reg_BNR_DAT, reg_BNR_FW, reg_BNR_FWCTL, reg_BNR_NOR_BASE, reg_BNR_NOR_FREE, reg_BNR_NOR_LAST]

/-- Registers of MGR. -/
def regsMgr0 : List RegDesc :=
  [reg_MGR_CTL, reg_MGR_STS, reg_MGR_GEOM, reg_MGR_PEERCFG, reg_MGR_TOK, reg_MGR_TOKUSE, reg_MGR_SYNC, reg_MGR_POLL, reg_MGR_FW, reg_MGR_HARV, reg_MGR_ORD, reg_MGR_NODE]

/-- Registers of HLK. -/
def regsHlk0 : List RegDesc :=
  [reg_HLK_CTL, reg_HLK_STS, reg_HLK_WEN, reg_HLK_REGCMD, reg_HLK_REGDAT, reg_HLK_FLAG, reg_HLK_ERR, reg_HLK_LAT]

/-- Registers of CLB. -/
def regsClb0 : List RegDesc :=
  [reg_CLB_CTL, reg_CLB_NODE, reg_CLB_UPCNT, reg_CLB_DNCNT, reg_CLB_RETRY, reg_CLB_ORDER]

/-- Every register of the 17 windows. -/
def regTable : List RegDesc :=
  regsGlb0 ++ regsAng0 ++ regsSpn0 ++ regsSpn1 ++ regsSrv0 ++ regsSrv1 ++ regsLpe0 ++ regsLpe1 ++ regsLan0 ++
  regsLan1 ++ regsDec0 ++ regsFmt0 ++ regsAcd0 ++ regsAcd1 ++ regsBuf0 ++ regsPci0 ++ regsNvq0 ++ regsFlt0 ++
  regsBnr0 ++ regsMgr0 ++ regsHlk0 ++ regsClb0

end Sys2Proof.Machine
end

