-- ==== Sys2Proof/Machine/Hidden.lean ====
section
/-!
DEFINITION. Variables of the blocks that no register shows and that the spec's rules need: timers that run, conditions
that hold, positions within a sequence. Each is a field of a pseudo-block (32 + its block's number), so it takes its
reset value with its block. The unit is in the text of each; a sticky one keeps its value across warm reset.
-/

namespace Sys2Proof.Machine

/-- Own angle of sensor n, in 1/1,024 of a ring cycle from the end of its index signature (R27). -/
def ANG_POS : Field := ⟨33, 0, 0, 24, .int, true, fun _ => 0⟩
/-- Corrected phase of the last sample of sensor n (R29). -/
def ANG_PHASE : Field := ⟨33, 1, 0, 10, .int, true, fun _ => 0⟩
/-- Sensor n has been sampled since cold reset (R28). -/
def ANG_SAMPLED : Field := ⟨33, 2, 0, 1, .int, true, fun _ => 0⟩
/-- Sensor n has met its index signature since cold reset, so its own angle is absolute (R43). -/
def ANG_HASREF : Field := ⟨33, 3, 0, 1, .int, true, fun _ => 0⟩
/-- The amplitude and clipping conditions of sensor n held at its last sample (R34). -/
def ANG_AMPOK : Field := ⟨33, 4, 0, 1, .int, true, fun _ => 0⟩
/-- Sensor n has lost validity and awaits re-qualification (R38). -/
def ANG_REQUAL : Field := ⟨33, 5, 0, 1, .int, true, fun _ => 0⟩
/-- Signed rotation seen by sensor n since it became valid again, in 1/1,024 of a ring cycle, held at a revolution (R38). -/
def ANG_OKADV : Field := ⟨33, 6, 0, 26, .int, true, fun _ => 0⟩
/-- An index passage of sensor n since it became valid again (R38). -/
def ANG_OKIDX : Field := ⟨33, 7, 0, 1, .int, true, fun _ => 0⟩
/-- The start tick of R43 has been taken (R43). -/
def ANG_STARTED : Field := ⟨33, 8, 0, 1, .int, true, fun _ => 0⟩
/-- Signed difference still to be slewed out, in ticks (R38). -/
def ANG_SLEWREM : Field := ⟨33, 9, 0, 23, .int, true, fun _ => 0⟩
/-- Forward ticks since the last slew tick fell due (R38). -/
def ANG_SLEWCNT : Field := ⟨33, 10, 0, 12, .int, true, fun _ => 0⟩
/-- A slew tick is due (R38). -/
def ANG_SLEWDUE : Field := ⟨33, 11, 0, 1, .int, true, fun _ => 0⟩
/-- Fraction of a tick accumulated while the stamp advances at a given rate (R37). -/
def ANG_FRAC : Field := ⟨33, 12, 0, 48, .int, true, fun _ => 0⟩
/-- AON time in ns of the last forward passage of tick 0 (R50). -/
def ANG_LASTIDX : Field := ⟨33, 13, 0, 64, .int, true, fun _ => 0⟩
/-- A forward passage of tick 0 has been timed and no reverse passage has followed (R50). -/
def ANG_IDXVALID : Field := ⟨33, 14, 0, 1, .int, true, fun _ => 0⟩
/-- Steps and source changes of the angle so far, modulo 2^32 (R386). -/
def ANG_EPOCH : Field := ⟨33, 15, 0, 32, .int, true, fun _ => 0⟩
/-- Signed ticks by which the tracking filter of sensor n projects its angle beyond the last sample (R34). -/
def ANG_PROJ : Field := ⟨33, 16, 0, 23, .int, true, fun _ => 0⟩
/-- Signed difference that stands between the angle of a source that is not absolute and the stamp (R43). -/
def ANG_SRCOFS : Field := ⟨33, 17, 0, 23, .int, true, fun _ => 0⟩
/-- Length of the forward step of the present angle-clock cycle (R30). -/
def ANG_STEPLEN : Field := ⟨33, 18, 0, 22, .int, false, fun _ => 0⟩
/-- Stamp at the previous pilot sample (R36). -/
def ANG_PREVSTAMP : Field := ⟨33, 19, 0, 64, .int, true, fun _ => 0⟩
/-- AON time in ns of the previous pilot sample (R36). -/
def ANG_PREVNS : Field := ⟨33, 20, 0, 64, .int, true, fun _ => 0⟩
/-- Sensor n has been sampled since the last reset (R44). -/
def ANG_SEEN : Field := ⟨33, 21, 0, 1, .int, false, fun _ => 0⟩
/-- An interval of the averaging of STILL has begun (R50). -/
def ANG_STILLOK : Field := ⟨33, 22, 0, 1, .int, false, fun _ => 0⟩
/-- AON time in ns at which it began (R50). -/
def ANG_STILLNS : Field := ⟨33, 23, 0, 64, .int, false, fun _ => 0⟩
/-- Stamp at which it began, moved along with forward steps (R50). -/
def ANG_STILLPOS : Field := ⟨33, 24, 0, 64, .int, false, fun _ => 0⟩
/-- Comparator n was armed behind the stamp or was passed by a step (R46). -/
def ANG_CMPLATE : Field := ⟨33, 25, 0, 1, .int, false, fun _ => 0⟩
/-- Groups of ANG whose pending commit has passed its check at the decision point (R62). -/
def ANG_DECIDED : Field := ⟨33, 26, 0, 8, .int, false, fun _ => 0⟩
/-- Groups of SPN whose pending commit has passed its check at the decision point (R62). -/
def SPN_DECIDED : Field := ⟨34, 0, 0, 8, .int, false, fun _ => 0⟩
/-- Groups of actuator a whose pending commit has passed its check at the decision point (R62). -/
def SRV_DECIDED : Field := ⟨35, 0, 0, 8, .int, false, fun _ => 0⟩
/-- Groups of LPE whose pending commit has passed its check at the decision point (R62). -/
def LPE_DECIDED : Field := ⟨36, 0, 0, 8, .int, false, fun _ => 0⟩
/-- Groups of lane n whose pending commit has passed its check at the decision point (R62). -/
def LAN_DECIDED : Field := ⟨37, 0, 0, 8, .int, false, fun _ => 0⟩
/-- Groups of FMT whose pending commit has passed its check at the decision point (R62). -/
def FMT_DECIDED : Field := ⟨39, 0, 0, 8, .int, false, fun _ => 0⟩
/-- Groups of ACD whose pending commit has passed its check at the decision point (R62). -/
def ACD_DECIDED : Field := ⟨40, 0, 0, 8, .int, false, fun _ => 0⟩
/-- Severity with which source n entered its fault state (R545). -/
def FLT_CURSEV : Field := ⟨44, 0, 0, 2, .int, false, fun _ => 0⟩
/-- Assertions and deassertions of source n within its fault state (R552). -/
def FLT_EDGES : Field := ⟨44, 1, 0, 32, .int, false, fun _ => 0⟩
/-- Assertions of source n within its fault state, counted up to nine (R554). -/
def FLT_ASN : Field := ⟨44, 2, 0, 4, .int, false, fun _ => 0⟩
/-- The maceration timer of source n runs (R548). -/
def FLT_TIMER : Field := ⟨44, 3, 0, 1, .int, false, fun _ => 0⟩
/-- The counting window of source n is open (R549). -/
def FLT_WINOPEN : Field := ⟨44, 4, 0, 1, .int, false, fun _ => 0⟩
/-- Source that locked last (R549). -/
def FLT_LOCKSRC : Field := ⟨44, 5, 0, 9, .int, false, fun _ => 0⟩
/-- The condition of the injected source and instance holds by itself (R538). -/
def FLT_INJREAL : Field := ⟨44, 6, 0, 1, .int, false, fun _ => 0⟩
/-- SEQ of the next entry when the running dump started (R558). -/
def BNR_DUMPSEQ : Field := ⟨45, 0, 0, 16, .int, true, fun _ => 0⟩
/-- The head of lane n is populated (R7). -/
def LAN_POP : Field := ⟨37, 1, 0, 1, .int, true, fun _ => 1⟩
/-- State that the transition of lane n leaves (R68). -/
def LAN_FROM : Field := ⟨37, 2, 0, 2, .int, false, fun _ => 0⟩
/-- State that the transition of lane n reaches (R68). -/
def LAN_TO : Field := ⟨37, 3, 0, 2, .int, false, fun _ => 0⟩
/-- Consecutive ring cycles of lane n within a quarter bit, up to 16 (R669). -/
def LAN_LOCKN : Field := ⟨37, 4, 0, 5, .int, false, fun _ => 0⟩
/-- Signed integrator of the phase trim of lane n, in 1/64 bit with 16 fraction bits (R77). -/
def LAN_TRIMI : Field := ⟨37, 5, 0, 64, .int, false, fun _ => 0⟩
/-- Consecutive updates of the phase trim of lane n at its clamp, up to 1,024 (R79). -/
def LAN_TRIMN : Field := ⟨37, 6, 0, 11, .int, false, fun _ => 0⟩
/-- 32-bit blocks of the present frame of lane n that have passed (R78). -/
def LAN_BLOCKS : Field := ⟨37, 7, 0, 16, .int, false, fun _ => 0⟩
/-- A wedge window of lane n is open (R94). -/
def LAN_WEDGE : Field := ⟨37, 8, 0, 1, .int, false, fun _ => 0⟩
/-- The dropout flag of lane n is asserted (R89). -/
def LAN_FDROP : Field := ⟨37, 9, 0, 1, .int, false, fun _ => 0⟩
/-- The asperity flag of lane n is asserted (R90). -/
def LAN_FTA : Field := ⟨37, 10, 0, 1, .int, false, fun _ => 0⟩
/-- A defect flag of lane n was asserted in the present wedge interval (R80). -/
def LAN_IVDEF : Field := ⟨37, 11, 0, 1, .int, false, fun _ => 0⟩
/-- A wedge window has dropped the write gate of lane n within a frame (R115). -/
def LAN_SPLIT : Field := ⟨37, 12, 0, 1, .int, false, fun _ => 0⟩
/-- The present write of lane n is truncated (R116). -/
def LAN_TRUNC : Field := ⟨37, 13, 0, 1, .int, false, fun _ => 0⟩
/-- Bit offset of that truncation (R116). -/
def LAN_TRUNCOFF : Field := ⟨37, 14, 0, 32, .int, false, fun _ => 0⟩
/-- Signed bit position of bit 0 of the present frame of lane n, in 2^-27 bit (R73). -/
def LAN_FB0 : Field := ⟨37, 15, 0, 100, .int, false, fun _ => 0⟩
/-- Bits of it that wedge windows have left out so far (R146). -/
def LAN_SKIP : Field := ⟨37, 16, 0, 32, .int, false, fun _ => 0⟩
/-- Signed bit position at which the open wedge window of lane n has interrupted it (R146). -/
def LAN_GAPB : Field := ⟨37, 17, 0, 80, .int, false, fun _ => 0⟩
/-- Bit of the present frame of lane n at which the present wedge interval began, 0 where the frame began within it (R80). -/
def LAN_IVBIT : Field := ⟨37, 18, 0, 32, .int, false, fun _ => 0⟩
/-- The write-data pair of lane n is driven, not idle (R114). -/
def LAN_PAIR : Field := ⟨37, 19, 0, 1, .int, false, fun _ => 0⟩
/-- Signed sum of the trim integrator of lane n over the updates of the present wedge interval (R80). -/
def LAN_TRIMSUM : Field := ⟨37, 20, 0, 96, .int, false, fun _ => 0⟩
/-- Updates in that interval (R80). -/
def LAN_TRIMCNT : Field := ⟨37, 21, 0, 32, .int, false, fun _ => 0⟩
/-- Number of the next frame record (R95). -/
def DEC_FID : Field := ⟨38, 0, 0, 32, .int, false, fun _ => 0⟩
/-- Failed training rounds of link a (R127). -/
def HLK_ROUND : Field := ⟨47, 0, 0, 2, .int, false, fun _ => 0⟩
/-- Training of link a tries the second orientation of its round (R127). -/
def HLK_ORIENT : Field := ⟨47, 1, 0, 1, .int, false, fun _ => 0⟩
/-- A training of link a is in progress (R127). -/
def HLK_TRAINING : Field := ⟨47, 2, 0, 1, .int, false, fun _ => 0⟩
/-- A training response of link a was found and a heartbeat is awaited (R127). -/
def HLK_ANSWER : Field := ⟨47, 3, 0, 1, .int, false, fun _ => 0⟩
/-- Sequence number of the next packet of link a (R120). -/
def HLK_SEQ : Field := ⟨47, 4, 0, 8, .int, false, fun _ => 0⟩
/-- A write-enable mask of link a awaits its acknowledgement (R123). -/
def HLK_WENWAIT : Field := ⟨47, 5, 0, 1, .int, false, fun _ => 0⟩
/-- Its sequence number (R123). -/
def HLK_WENSEQ : Field := ⟨47, 6, 0, 8, .int, false, fun _ => 0⟩
/-- Its resends (R123). -/
def HLK_WENTRY : Field := ⟨47, 7, 0, 2, .int, false, fun _ => 0⟩
/-- AON time in ns at which it was last sent (R123). -/
def HLK_WENTIME : Field := ⟨47, 8, 0, 64, .int, false, fun _ => 0⟩
/-- The mask sent when link a came up has been acknowledged (R668). -/
def HLK_WENOK : Field := ⟨47, 9, 0, 1, .int, false, fun _ => 0⟩
/-- A register command of link a awaits its response (R123). -/
def HLK_REGWAIT : Field := ⟨47, 10, 0, 1, .int, false, fun _ => 0⟩
/-- Its sequence number (R123). -/
def HLK_REGSEQ : Field := ⟨47, 11, 0, 8, .int, false, fun _ => 0⟩
/-- Its resends (R123). -/
def HLK_REGTRY : Field := ⟨47, 12, 0, 2, .int, false, fun _ => 0⟩
/-- The register command outstanding, as it was written (R123). -/
def HLK_REGREQ : Field := ⟨47, 13, 0, 32, .int, false, fun _ => 0⟩
/-- AON time in ns at which it was last sent (R123). -/
def HLK_REGTIME : Field := ⟨47, 14, 0, 64, .int, false, fun _ => 0⟩
/-- Present preamplifier flags of head h as last received (R126). -/
def HLK_PRESENT : Field := ⟨47, 15, 0, 8, .int, false, fun _ => 0⟩
/-- Link a has trained successfully since cold reset (R127). -/
def HLK_TRAINED : Field := ⟨47, 16, 0, 1, .int, true, fun _ => 0⟩
/-- SWAPPED, A_INV and B_INV of that training (R127). -/
def HLK_LASTORI : Field := ⟨47, 17, 0, 3, .int, true, fun _ => 0⟩
/-- Stamp at the last bit of the last microactuator command of head h (R122). -/
def HLK_MICRO : Field := ⟨47, 18, 0, 64, .int, false, fun _ => 0⟩
/-- Head h's servo sync marks are found in inverted polarity, as the demodulator reports (R128). -/
def SRV_SYNCINV : Field := ⟨35, 1, 0, 1, .int, true, fun _ => 0⟩
/-- Retract phase of actuator a: 0 none, 1 brake, 2 retract, 3 park (R291). -/
def SRV_PHASE : Field := ⟨35, 2, 0, 2, .int, true, fun _ => 0⟩
/-- Driver enable of actuator a (R290). -/
def SRV_DRVEN : Field := ⟨35, 3, 0, 1, .int, true, fun _ => 0⟩
/-- The coil of actuator a is open; the retract engine cannot move it (R295). -/
def SRV_OPEN : Field := ⟨35, 4, 0, 1, .int, true, fun _ => 0⟩
/-- Bits [63:0] of the newest error-log entry (R553). -/
def BUF_ELOGNEW : Field := ⟨41, 0, 0, 64, .int, false, fun _ => 0⟩
/-- Trigger stamp of context c's present or waiting run (R371). -/
def CTX_STAMP : Field := ⟨36, 1, 0, 64, .int, false, fun _ => 0⟩
/-- Trigger stamp that waits with PENDING (R373). -/
def CTX_PSTAMP : Field := ⟨36, 2, 0, 64, .int, false, fun _ => 0⟩
/-- Mailbox page that context c latched at its last run start (R372). -/
def CTX_LATCH : Field := ⟨36, 3, 0, 1, .int, false, fun _ => 0⟩
/-- Angle epoch at the trigger of the present run (R386). -/
def CTX_EPOCH : Field := ⟨36, 4, 0, 32, .int, false, fun _ => 0⟩
/-- Angle epoch at the pending trigger (R386). -/
def CTX_PEPOCH : Field := ⟨36, 5, 0, 32, .int, false, fun _ => 0⟩
/-- Revolution in which merges are counted (R373). -/
def CTX_MREV : Field := ⟨36, 6, 0, 42, .int, false, fun _ => 0⟩
/-- Merges of context c within that revolution (R373). -/
def CTX_MCNT : Field := ⟨36, 7, 0, 5, .int, false, fun _ => 0⟩
/-- Index of the next entry of unit u (R397). -/
def SIL_HEAD : Field := ⟨36, 8, 0, 14, .int, false, fun _ => 0⟩
/-- Entries that unit u still captures past its marker (R397). -/
def SIL_LEFT : Field := ⟨36, 9, 0, 14, .int, false, fun _ => 0⟩
/-- Captures lost since the last entry of unit u (R398). -/
def SIL_GAP : Field := ⟨36, 10, 0, 16, .int, false, fun _ => 0⟩
/-- Entries of unit u written or queued that its write port has not retired (R398). -/
def SIL_Q : Field := ⟨36, 11, 0, 3, .int, false, fun _ => 0⟩
/-- AON time in ns at which SIL_Q was counted (R398). -/
def SIL_TIME : Field := ⟨36, 12, 0, 64, .int, false, fun _ => 0⟩
/-- Signed electrical speed of the spindle observer, in rpm/16 (R37). -/
def SPN_OBSSPD : Field := ⟨34, 1, 0, 32, .int, false, fun _ => 0⟩
/-- Link a has come up and only the mask packet is sent until it is settled (R668). -/
def HLK_HOLD : Field := ⟨47, 19, 0, 1, .int, false, fun _ => 0⟩
/-- A journal record is requested (R238). -/
def ACD_JREQ : Field := ⟨40, 1, 0, 1, .int, false, fun _ => 0⟩
/-- A journal record is being written (R241). -/
def ACD_JBUSY : Field := ⟨40, 2, 0, 1, .int, false, fun _ => 0⟩
/-- Sequence number of the newest record begun (R239). -/
def ACD_JSEQ : Field := ⟨40, 3, 0, 64, .int, true, fun _ => 0⟩
/-- The record being written has CLEAN set (R239). -/
def ACD_JCLEAN : Field := ⟨40, 4, 0, 1, .int, false, fun _ => 0⟩
/-- A checkpoint is being written (R244). -/
def ACD_KBUSY : Field := ⟨40, 5, 0, 1, .int, false, fun _ => 0⟩
/-- A checkpoint is due but CKMIN has not passed since the last one started (R243). -/
def ACD_KDUE : Field := ⟨40, 6, 0, 1, .int, false, fun _ => 0⟩
/-- CKMIN has not passed since the last checkpoint started (R243). -/
def ACD_KMIN : Field := ⟨40, 7, 0, 1, .int, false, fun _ => 0⟩
/-- Sequence number of the newest checkpoint (R244). -/
def ACD_KSEQ : Field := ⟨40, 8, 0, 64, .int, false, fun _ => 0⟩
/-- The LAZY time of a commit runs (R238). -/
def ACD_LAZY : Field := ⟨40, 9, 0, 1, .int, false, fun _ => 0⟩
/-- Members that firmware has declared LOST (R199). -/
def ACD_LOSEMASK : Field := ⟨40, 10, 0, 64, .int, false, fun _ => 0⟩
/-- Rows that pass p has visited since its last cursor update (R229). -/
def ACD_VISIT : Field := ⟨40, 11, 0, 32, .int, false, fun _ => 0⟩
/-- Row that pass p visits next (R222). -/
def ACD_NOWROW : Field := ⟨40, 12, 0, 15, .int, false, fun _ => 0⟩
/-- Zone that pass p visits next (R222). -/
def ACD_NOWZONE : Field := ⟨40, 13, 0, 17, .int, false, fun _ => 0⟩
/-- Zones that pass p has processed since its last batch (R231). -/
def ACD_ZDONE : Field := ⟨40, 14, 0, 17, .int, false, fun _ => 0⟩
/-- Pass record n is kept only until its successors have been journalled (R224). -/
def ACD_OLD : Field := ⟨40, 15, 0, 1, .int, false, fun _ => 0⟩
/-- Serial number of the pass in record p, which its REBUILD segments carry (R208). -/
def ACD_PSER : Field := ⟨40, 16, 0, 32, .int, false, fun _ => 0⟩
/-- Pass p has come back to its START (R222). -/
def ACD_PEND : Field := ⟨40, 17, 0, 1, .int, false, fun _ => 0⟩
/-- Side that processes the present zone of pass p (R228). -/
def ACD_PSIDE : Field := ⟨40, 18, 0, 1, .int, false, fun _ => 0⟩
/-- Cursor updates of pass p (R250). -/
def ACD_CURN : Field := ⟨40, 19, 0, 24, .int, false, fun _ => 0⟩
/-- A record with CLEAN set waits for the row writes in progress (R245). -/
def ACD_CLEANREQ : Field := ⟨40, 20, 0, 1, .int, false, fun _ => 0⟩
/-- Frame operations that side d has issued while host commands waited (R230). -/
def ACD_SHN : Field := ⟨40, 21, 0, 32, .int, false, fun _ => 0⟩
/-- Those of them that were rebuild reads (R230). -/
def ACD_SHR : Field := ⟨40, 22, 0, 32, .int, false, fun _ => 0⟩
/-- A target of head h awaits its next wedge decision (R263). -/
def SRV_TPEND : Field := ⟨35, 5, 0, 1, .int, false, fun _ => 0⟩
/-- OFFTRK latched with that target (R263). -/
def SRV_POFS : Field := ⟨35, 6, 0, 16, .int, false, fun _ => 0⟩
/-- Track of the target in effect at head h (R263). -/
def SRV_CTRK : Field := ⟨35, 7, 0, 21, .int, false, fun _ => 0⟩
/-- Its read offset (R263). -/
def SRV_COFS : Field := ⟨35, 8, 0, 16, .int, false, fun _ => 0⟩
/-- ENGAGE of the last accepted target of head h (R264). -/
def SRV_CENG : Field := ⟨35, 9, 0, 1, .int, false, fun _ => 0⟩
/-- WRMODE of the target in effect (R283). -/
def SRV_CWR : Field := ⟨35, 10, 0, 1, .int, false, fun _ => 0⟩
/-- Consecutive BAD wedges of head h, saturating (R270). -/
def SRV_BADN : Field := ⟨35, 11, 0, 8, .int, false, fun _ => 0⟩
/-- Consecutive GOOD wedges of head h, saturating (R270). -/
def SRV_GOODN : Field := ⟨35, 12, 0, 3, .int, false, fun _ => 0⟩
/-- Consecutive wedges of head h in FOLLOW within RD, saturating (R276). -/
def SRV_RDN : Field := ⟨35, 13, 0, 4, .int, false, fun _ => 0⟩
/-- Consecutive wedges of head h in FOLLOW within WR, saturating (R276). -/
def SRV_WRN : Field := ⟨35, 14, 0, 4, .int, false, fun _ => 0⟩
/-- Consecutive wedges of head h within WREL, saturating (R280). -/
def SRV_RELN : Field := ⟨35, 15, 0, 4, .int, false, fun _ => 0⟩
/-- Consecutive wedges of head h at the clamp, saturating (R269). -/
def SRV_SATN : Field := ⟨35, 16, 0, 7, .int, false, fun _ => 0⟩
/-- Wedges that SETTLED_WR of head h still waits after a change of WRMODE (R286). -/
def SRV_HTWAIT : Field := ⟨35, 17, 0, 9, .int, false, fun _ => 0⟩
/-- The weight of head h is raised by desaturation (R268). -/
def SRV_BOOSTED : Field := ⟨35, 18, 0, 1, .int, false, fun _ => 0⟩
/-- Stroke of head h on its trajectory, signed, in 1/256 track (R273). -/
def SRV_MREF : Field := ⟨35, 19, 0, 32, .int, false, fun _ => 0⟩
/-- Its velocity, signed, in 1/256 track per wedge (R273). -/
def SRV_MVEL : Field := ⟨35, 20, 0, 32, .int, false, fun _ => 0⟩
/-- Stroke at which the trajectory ends, signed, in 1/256 track (R272). -/
def SRV_MGOAL : Field := ⟨35, 21, 0, 32, .int, false, fun _ => 0⟩
/-- Position of head h at its newest wedge, signed, in 1/256 track (R255). -/
def SRV_YPOS : Field := ⟨35, 22, 0, 40, .int, false, fun _ => 0⟩
/-- Stamp of the newest sample of head h (R267). -/
def SRV_WSTAMP : Field := ⟨35, 23, 0, 64, .int, false, fun _ => 0⟩
/-- Sum of the clearance indices of head h since its wedge 0 (R284). -/
def SRV_CISUM : Field := ⟨35, 24, 0, 17, .int, false, fun _ => 0⟩
/-- Their number (R284). -/
def SRV_CIN : Field := ⟨35, 25, 0, 10, .int, false, fun _ => 0⟩
/-- AON time in ns, plus 1, of the newest valid velocity estimate of actuator a; 0 for none (R291). -/
def SRV_VELT : Field := ⟨35, 26, 0, 64, .int, false, fun _ => 0⟩
/-- Estimated arm position of actuator a, signed, in 1/256 track (R265). -/
def SRV_X : Field := ⟨35, 27, 0, 40, .int, false, fun _ => 0⟩
/-- Its change over the last wedge of the reference head (R275). -/
def SRV_VEL : Field := ⟨35, 28, 0, 40, .int, false, fun _ => 0⟩
/-- The estimate was updated at the last wedge of the reference head (R275). -/
def SRV_XOK : Field := ⟨35, 29, 0, 1, .int, false, fun _ => 0⟩
/-- Position on the seek trajectory of actuator a, signed, in 1/256 track (R272). -/
def SRV_TP : Field := ⟨35, 30, 0, 40, .int, false, fun _ => 0⟩
/-- Velocity on it, signed, in 1/256 track per wedge (R272). -/
def SRV_TV : Field := ⟨35, 31, 0, 32, .int, false, fun _ => 0⟩
/-- Acceleration on it, signed, in 1/256 track per wedge squared (R272). -/
def SRV_TA : Field := ⟨35, 32, 0, 32, .int, false, fun _ => 0⟩
/-- The trajectory of the present seek has ended (R277). -/
def SRV_TDONE : Field := ⟨35, 33, 0, 1, .int, false, fun _ => 0⟩
/-- Wedges of the reference head since then, saturating (R277). -/
def SRV_TDN : Field := ⟨35, 34, 0, 16, .int, false, fun _ => 0⟩
/-- The step test of actuator a runs (R298). -/
def SRV_STEPT : Field := ⟨35, 35, 0, 1, .int, false, fun _ => 0⟩
/-- Arm position at which it began, signed, in 1/256 track (R298). -/
def SRV_STEPX : Field := ⟨35, 36, 0, 40, .int, false, fun _ => 0⟩
/-- Consecutive wedges at which the PES of actuator a's reference head has grown in the direction of the commanded current, saturating (R299). -/
def SRV_RUNN : Field := ⟨35, 37, 0, 5, .int, false, fun _ => 0⟩
/-- Its PES at the wedge before (R299). -/
def SRV_LASTP : Field := ⟨35, 38, 0, 16, .int, false, fun _ => 0⟩
/-- Arm position that the present seek of actuator a approaches, signed, in 1/256 track (R265). -/
def SRV_ARM : Field := ⟨35, 39, 0, 40, .int, false, fun _ => 0⟩
/-- Error of the VCM loop of actuator a, signed, in 1/256 track (R267). -/
def SRV_EA : Field := ⟨35, 40, 0, 40, .int, false, fun _ => 0⟩
/-- Failed tries of the present load of actuator a (R288). -/
def SRV_LOADS : Field := ⟨35, 41, 0, 2, .int, false, fun _ => 0⟩
/-- The load of actuator a is tried again once it is PARKED (R288). -/
def SRV_RELOAD : Field := ⟨35, 42, 0, 1, .int, false, fun _ => 0⟩
/-- The load of actuator a is being tried with INV inverted (R298). -/
def SRV_INVTRY : Field := ⟨35, 43, 0, 1, .int, false, fun _ => 0⟩
/-- The present seek of actuator a has timed out once (R277). -/
def SRV_SEEKTO : Field := ⟨35, 44, 0, 1, .int, false, fun _ => 0⟩
/-- The present seek of actuator a ends in unloading (R289). -/
def SRV_UNLOAD : Field := ⟨35, 45, 0, 1, .int, false, fun _ => 0⟩
/-- The next VCM output of actuator a is the first of track following (R275). -/
def SRV_FIRSTTF : Field := ⟨35, 46, 0, 1, .int, false, fun _ => 0⟩
/-- Blend wedges of actuator a so far (R275). -/
def SRV_BLI : Field := ⟨35, 47, 0, 5, .int, false, fun _ => 0⟩
/-- Signed difference that the blend removes, in DAC codes (R275). -/
def SRV_BLDIFF : Field := ⟨35, 48, 0, 17, .int, false, fun _ => 0⟩
/-- VCM command of actuator a in effect, signed DAC codes (R266). -/
def SRV_DAC : Field := ⟨35, 49, 0, 16, .int, true, fun _ => 0⟩
/-- VCM command of the other actuator at the last eight updates of actuator a, newest first (R281). -/
def SRV_UHIST : Field := ⟨35, 50, 0, 16, .int, false, fun _ => 0⟩
/-- A trajectory computed for SRVa_NEXT waits (R278). -/
def SRV_NEXTOK : Field := ⟨35, 51, 0, 1, .int, false, fun _ => 0⟩
/-- Arm position from which it starts (R278). -/
def SRV_NEXTPOS : Field := ⟨35, 52, 0, 40, .int, false, fun _ => 0⟩
/-- Consecutive wedge intervals with every in-service head of actuator a LOST, saturating (R271). -/
def SRV_ALOSTN : Field := ⟨35, 53, 0, 16, .int, false, fun _ => 0⟩
/-- Actuator a awaits its test after an overcurrent (R296). -/
def SRV_OCWAIT : Field := ⟨35, 54, 0, 1, .int, true, fun _ => 0⟩
/-- Wedge timing entry w of head h at 512 h + w, signed, in 1/16 tick (R259). -/
def SRV_WTAB : Field := ⟨35, 55, 0, 16, .int, false, fun _ => 0⟩
/-- Recording zone last loaded into lane n, plus 1; 0 for none (R164). -/
def FMT_LZONE : Field := ⟨39, 1, 0, 7, .int, false, fun _ => 0⟩
/-- Recording zone of the lane load of lane n that has been refused once, plus 1; 0 for none (R164). -/
def FMT_LREF : Field := ⟨39, 2, 0, 7, .int, false, fun _ => 0⟩
/-- A record with CLEAN clear must be written before the next row write (R245). -/
def ACD_PRECLEAR : Field := ⟨40, 23, 0, 1, .int, false, fun _ => 0⟩
/-- Both journal copies lie on one stack (R240). -/
def ACD_TURNOUT : Field := ⟨40, 24, 0, 1, .int, false, fun _ => 0⟩
/-- A command waits for durability (R238). -/
def NVQ_DURWAIT : Field := ⟨43, 0, 0, 1, .int, false, fun _ => 0⟩
/-- What drives the bridge: 0 high impedance, 1 brake, 2 fixed vector, 3 rotating vector, 4 field-oriented, 5 regeneration (R304). -/
def SPN_BRIDGE : Field := ⟨34, 2, 0, 3, .int, false, fun _ => 0⟩
/-- Kind of the drydown under way: 0 none, 1 stop, 2 coast, 3 urgent (R346). -/
def SPN_DDKIND : Field := ⟨34, 3, 0, 2, .int, false, fun _ => 0⟩
/-- The drydown request has been given to the retract engine (R347). -/
def SPN_DDREQ : Field := ⟨34, 4, 0, 1, .int, false, fun _ => 0⟩
/-- A START written during DRYDOWN waits for the actuators (R350). -/
def SPN_HELD : Field := ⟨34, 5, 0, 1, .int, false, fun _ => 0⟩
/-- Standalone grant GSTD of the SPIN record (R584). -/
def SPN_GSTD : Field := ⟨34, 6, 0, 8, .int, false, fun _ => 0⟩
/-- Minimum start grant TMIN of the SPIN record (R584). -/
def SPN_TMIN : Field := ⟨34, 7, 0, 8, .int, false, fun _ => 2⟩
/-- MODE of the SPIN record (R584). -/
def SPN_SMODE : Field := ⟨34, 8, 0, 2, .int, false, fun _ => 0⟩
/-- The switches await their test after an overcurrent (R357). -/
def SPN_OCWAIT : Field := ⟨34, 9, 0, 1, .int, false, fun _ => 0⟩
/-- That test fails because the phases are shorted or a second overcurrent followed (R356). -/
def SPN_OCFAIL : Field := ⟨34, 10, 0, 1, .int, false, fun _ => 0⟩
/-- AON time in ns, plus 1, of the last overcurrent; 0 for none (R357). -/
def SPN_OCTIME : Field := ⟨34, 11, 0, 64, .int, false, fun _ => 0⟩
/-- Ramp value at power loss, in rpm/16 (R353). -/
def SPN_LGREF : Field := ⟨34, 12, 0, 20, .int, false, fun _ => 0⟩
/-- Failed starts since the last successful one (R336). -/
def SPN_FAILS : Field := ⟨34, 13, 0, 2, .int, false, fun _ => 0⟩
/-- Consecutive invalid current samples, saturating (R308). -/
def SPN_INVN : Field := ⟨34, 14, 0, 4, .int, false, fun _ => 0⟩
/-- Consecutive periods in which the two angles agree, saturating (R316). -/
def SPN_AGREEN : Field := ⟨34, 15, 0, 8, .int, false, fun _ => 0⟩
/-- Consecutive periods in which they do not, saturating (R317). -/
def SPN_DISN : Field := ⟨34, 16, 0, 8, .int, false, fun _ => 0⟩
/-- The commutation angle moves toward its source (R316). -/
def SPN_SLEWING : Field := ⟨34, 17, 0, 1, .int, false, fun _ => 0⟩
/-- Signed difference still to be slewed, in 1/64 electrical degree (R316). -/
def SPN_COMDIF : Field := ⟨34, 18, 0, 17, .int, false, fun _ => 0⟩
/-- Electrical angle of the observer, in 1/64 degree (R313). -/
def SPN_OBSANG : Field := ⟨34, 19, 0, 15, .int, false, fun _ => 0⟩
/-- Consecutive periods that qualify for lock, saturating (R314). -/
def SPN_LOCKN : Field := ⟨34, 20, 0, 6, .int, false, fun _ => 0⟩
/-- Consecutive periods with the loop error above its limit, saturating (R314). -/
def SPN_ERRN : Field := ⟨34, 21, 0, 4, .int, false, fun _ => 0⟩
/-- Consecutive periods with an EMF mismatch, saturating (R314). -/
def SPN_EMFN : Field := ⟨34, 22, 0, 7, .int, false, fun _ => 0⟩
/-- Lock was lost in OBSERVER, CATCH or DRYDOWN and commutation goes on with the pilot angle (R341). -/
def SPN_OBSLOST : Field := ⟨34, 23, 0, 1, .int, false, fun _ => 0⟩
/-- Target of the selected source, signed, in rpm/16 (R325). -/
def SPN_TGT : Field := ⟨34, 24, 0, 21, .int, false, fun _ => 86400⟩
/-- Ramp value, signed, in 1/1,600,000,000 rpm (R326). -/
def SPN_RAMPX : Field := ⟨34, 25, 0, 52, .int, false, fun _ => 0⟩
/-- Rate of the ramp, signed, in 1/40,000 rpm/s (R326). -/
def SPN_RAMPA : Field := ⟨34, 26, 0, 32, .int, false, fun _ => 0⟩
/-- Measured rate of change of speed, signed, in 1/40,000 rpm/s (R327). -/
def SPN_DSPD : Field := ⟨34, 27, 0, 32, .int, false, fun _ => 0⟩
/-- A calibration of EOFS is running (R338). -/
def SPN_CALRUN : Field := ⟨34, 28, 0, 1, .int, false, fun _ => 0⟩
/-- AON time in ns at which the present window of failed attempts opened (R344). -/
def SPN_RQTIME : Field := ⟨34, 29, 0, 64, .int, false, fun _ => 0⟩
/-- d-axis current demand, signed, in 1/32,768 of full scale (R323). -/
def SPN_IDDEM : Field := ⟨34, 30, 0, 16, .int, false, fun _ => 0⟩
/-- q-axis current demand, signed (R323). -/
def SPN_IQDEM : Field := ⟨34, 31, 0, 16, .int, false, fun _ => 0⟩
/-- Output of the integrator of loop n, signed (R321). -/
def SPN_INTEG : Field := ⟨34, 32, 0, 16, .int, false, fun _ => 0⟩
/-- Staged voltage demand, d and q (R312). -/
def SPN_VDEM : Field := ⟨34, 33, 0, 16, .int, false, fun _ => 0⟩
/-- Voltage applied in the present period, d and q (R306). -/
def SPN_VAPP : Field := ⟨34, 34, 0, 16, .int, false, fun _ => 0⟩
/-- The staged voltage demand carries an age (R386). -/
def SPN_VAGE : Field := ⟨34, 35, 0, 1, .int, false, fun _ => 0⟩
/-- Its trigger stamp (R386). -/
def SPN_VSTAMP : Field := ⟨34, 36, 0, 64, .int, false, fun _ => 0⟩
/-- Its angle epoch (R386). -/
def SPN_VEPOCH : Field := ⟨34, 37, 0, 32, .int, false, fun _ => 0⟩
/-- Gate output n (UH, UL, VH, VL, WH, WL) is asserted at some time of the present PWM period (R304). -/
def SPN_GATE : Field := ⟨34, 38, 0, 1, .int, false, fun _ => 0⟩
/-- On-time of the high side of phase n in the present period, in counts of 5 ns (R305). -/
def SPN_ON : Field := ⟨34, 39, 0, 13, .int, false, fun _ => 0⟩
/-- On-time of phase n carried into the next period for an omitted pulse, signed, in counts (R305). -/
def SPN_CARRY : Field := ⟨34, 40, 0, 14, .int, false, fun _ => 0⟩
/-- The part of SPN_ON that lies in the first half-period (R308). -/
def SPN_FIRST : Field := ⟨34, 41, 0, 12, .int, false, fun _ => 0⟩
/-- Duty of the brake in the present period, in counts (R334). -/
def SPN_BRAKED : Field := ⟨34, 42, 0, 13, .int, false, fun _ => 0⟩
/-- Regeneration and brake duty are being reduced for bus overvoltage (R356). -/
def SPN_OVRED : Field := ⟨34, 43, 0, 1, .int, false, fun _ => 0⟩
/-- Voltage of phase n, in 10 mV (R311). -/
def SPN_VPH : Field := ⟨34, 44, 0, 16, .int, false, fun _ => 0⟩
/-- Current-loop integrators that CATCH preloads, d and q, signed, in 10 µV (R339). -/
def SPN_VINT : Field := ⟨34, 45, 0, 32, .int, false, fun _ => 0⟩
/-- AON time in ns at which CATCH was entered (R339). -/
def SPN_CATCHT : Field := ⟨34, 46, 0, 64, .int, false, fun _ => 0⟩
/-- The commutation angle takes θ_P as its source (R316). -/
def SPN_ONPILOT : Field := ⟨34, 47, 0, 1, .int, false, fun _ => 0⟩
/-- Imposed electrical angle, in 1/640,000,000 degree (R335). -/
def SPN_IMPANG : Field := ⟨34, 48, 0, 38, .int, false, fun _ => 0⟩
/-- Imposed speed, in 1/4,000 rpm (R335). -/
def SPN_IMPSPD : Field := ⟨34, 49, 0, 32, .int, false, fun _ => 0⟩
/-- The last update left the ramp value unchanged (R338). -/
def SPN_RAMPK : Field := ⟨34, 50, 0, 1, .int, false, fun _ => 0⟩
/-- First lead of θ_P at EOFS 0 over the observer angle in the calibration, in 1/64 degree (R338). -/
def SPN_CALREF : Field := ⟨34, 51, 0, 15, .int, false, fun _ => 0⟩
/-- Sum of the later leads less that one, signed (R338). -/
def SPN_CALSUM : Field := ⟨34, 52, 0, 64, .int, false, fun _ => 0⟩
/-- Number of leads taken (R338). -/
def SPN_CALN : Field := ⟨34, 53, 0, 32, .int, false, fun _ => 0⟩
/-- Reference speed at the last eight SPD_REF edges, newest first, in rpm/16 (R329). -/
def SPN_FHIST : Field := ⟨34, 54, 0, 20, .int, false, fun _ => 0⟩
/-- AON time in ns of those edges (R329). -/
def SPN_FTIME : Field := ⟨34, 55, 0, 64, .int, false, fun _ => 0⟩
/-- Number of edges in that list (R329). -/
def SPN_FEDGES : Field := ⟨34, 56, 0, 4, .int, false, fun _ => 0⟩
/-- The phase loop is stopped (R329). -/
def SPN_PHOFF : Field := ⟨34, 57, 0, 1, .int, false, fun _ => 0⟩
/-- Phase trim, signed, in rpm/16 (R328). -/
def SPN_TRIM : Field := ⟨34, 58, 0, 20, .int, false, fun _ => 0⟩
/-- AON time in ns of the last trim (R328). -/
def SPN_TRIMT : Field := ⟨34, 59, 0, 64, .int, false, fun _ => 0⟩
/-- Consecutive edges within PLOCK, saturating (R328). -/
def SPN_LOCKE : Field := ⟨34, 60, 0, 5, .int, false, fun _ => 0⟩
/-- Consecutive edges with a steady reference, saturating (R329). -/
def SPN_STEADY : Field := ⟨34, 61, 0, 7, .int, false, fun _ => 0⟩
/-- Reference speed that they are compared with (R329). -/
def SPN_STEADYF : Field := ⟨34, 62, 0, 20, .int, false, fun _ => 0⟩
/-- Latest samples of SPD_REF in MODE 2 and 3, newest first (R330). -/
def SPN_SMP : Field := ⟨34, 63, 0, 17, .int, false, fun _ => 0⟩
/-- Their number (R330). -/
def SPN_SMPN : Field := ⟨34, 64, 0, 5, .int, false, fun _ => 0⟩
/-- Register Xn of context c at 32 c + n (R369). -/
def CTX_X : Field := ⟨36, 13, 0, 32, .int, false, fun _ => 0⟩
/-- Base register Bn of context c at 8 c + n (R369). -/
def CTX_B : Field := ⟨36, 14, 0, 24, .int, false, fun _ => 0⟩
/-- Accumulator n of context c at 4 c + n (R369). -/
def CTX_ACC : Field := ⟨36, 15, 0, 64, .int, false, fun _ => 0⟩
/-- Flag N of context c (R369). -/
def CTX_N : Field := ⟨36, 16, 0, 1, .int, false, fun _ => 0⟩
/-- Flag Z of context c (R369). -/
def CTX_Z : Field := ⟨36, 17, 0, 1, .int, false, fun _ => 0⟩
/-- Flag V of context c (R369). -/
def CTX_V : Field := ⟨36, 18, 0, 1, .int, false, fun _ => 0⟩
/-- Program counter of context c (R369). -/
def CTX_PC : Field := ⟨36, 19, 0, 16, .int, false, fun _ => 0⟩
/-- Core on which context c runs (R374). -/
def CTX_CORE : Field := ⟨36, 20, 0, 2, .int, false, fun _ => 0⟩
/-- Order in which the present run of context c started (R374). -/
def CTX_SEQ : Field := ⟨36, 21, 0, 32, .int, false, fun _ => 0⟩
/-- Bank on which the present run of context c executes (R393). -/
def CTX_BANK : Field := ⟨36, 22, 0, 1, .int, false, fun _ => 0⟩
/-- Context c takes the new configuration at the end of its run (R393). -/
def CTX_OLD : Field := ⟨36, 23, 0, 1, .int, false, fun _ => 0⟩
/-- Words executed in the present run of context c (R383). -/
def CTX_WORDS : Field := ⟨36, 24, 0, 32, .int, false, fun _ => 0⟩
/-- A word of context c waits for register-space data (R368). -/
def CTX_STALL : Field := ⟨36, 25, 0, 1, .int, false, fun _ => 0⟩
/-- Context c is killed when that word completes (R381). -/
def CTX_KILLP : Field := ⟨36, 26, 0, 1, .int, false, fun _ => 0⟩
/-- X register, plus 1, that load slot n of that word fills, at 2 c + n; 0 for none (R368). -/
def CTX_LDX : Field := ⟨36, 27, 0, 6, .int, false, fun _ => 0⟩
/-- Engine address that it reads (R368). -/
def CTX_LDA : Field := ⟨36, 28, 0, 24, .int, false, fun _ => 0⟩
/-- Runs started so far (R374). -/
def LPE_SEQN : Field := ⟨36, 29, 0, 32, .int, false, fun _ => 0⟩
/-- Fresh candidates of group g (R384). -/
def LPE_FRESH : Field := ⟨36, 30, 0, 8, .int, false, fun _ => 0⟩
/-- Region r of bank b is VALID, at 2 b + r (R391). -/
def LPE_VALID : Field := ⟨36, 31, 0, 1, .int, true, fun _ => 0⟩
/-- Customer region of bank b is EMPTY (R391). -/
def LPE_EMPTY : Field := ⟨36, 32, 0, 1, .int, true, fun _ => 1⟩
/-- VERSION of the image at 2 b + r (R399). -/
def LPE_VERS : Field := ⟨36, 33, 0, 32, .int, true, fun _ => 0⟩
/-- DLAYOUT of the image at 2 b + r (R392). -/
def LPE_DLAY : Field := ⟨36, 34, 0, 32, .int, true, fun _ => 0⟩
/-- Controller Configuration (R438). -/
def NVQ_CC : Field := ⟨43, 1, 0, 32, .int, false, fun _ => 0⟩
/-- CSTS.CFS (R438). -/
def NVQ_CFS : Field := ⟨43, 2, 0, 1, .int, false, fun _ => 0⟩
/-- CSTS.SHST (R472). -/
def NVQ_SHST : Field := ⟨43, 3, 0, 2, .int, false, fun _ => 0⟩
/-- CSTS.NSSRO, an NVM Subsystem Reset occurred (R471). -/
def NVQ_NSSRO : Field := ⟨43, 4, 0, 1, .int, true, fun _ => 0⟩
/-- Interrupt mask of INTMS and INTMC (R530). -/
def NVQ_INTM : Field := ⟨43, 5, 0, 32, .int, false, fun _ => 0⟩
/-- Admin Queue Attributes (R440). -/
def NVQ_AQA : Field := ⟨43, 6, 0, 32, .int, false, fun _ => 0⟩
/-- Admin Submission Queue base (R440). -/
def NVQ_ASQ : Field := ⟨43, 7, 0, 64, .int, false, fun _ => 0⟩
/-- Admin Completion Queue base (R440). -/
def NVQ_ACQ : Field := ⟨43, 8, 0, 64, .int, false, fun _ => 0⟩
/-- Controller Memory Buffer Memory Space Control (R437). -/
def NVQ_CMBMSC : Field := ⟨43, 9, 0, 64, .int, false, fun _ => 0⟩
/-- CC.EN has taken effect (R439). -/
def NVQ_EN : Field := ⟨43, 10, 0, 1, .int, false, fun _ => 0⟩
/-- CC.EN was set with refused settings (R438). -/
def NVQ_BADCC : Field := ⟨43, 11, 0, 1, .int, false, fun _ => 0⟩
/-- A controller reset waits for committed rows (R471). -/
def NVQ_RESETTING : Field := ⟨43, 12, 0, 1, .int, false, fun _ => 0⟩
/-- A shutdown runs: 1 normal, 2 abrupt (R472). -/
def NVQ_SHUT : Field := ⟨43, 13, 0, 2, .int, false, fun _ => 0⟩
/-- Nothing more is fetched until the controller is reset (R506). -/
def NVQ_FETCHOFF : Field := ⟨43, 14, 0, 1, .int, false, fun _ => 0⟩
/-- The entry whose fetch was issued has arrived (R506). -/
def NVQ_FETCHED : Field := ⟨43, 15, 0, 1, .int, false, fun _ => 0⟩
/-- Queue that round robin served last (R442). -/
def NVQ_RRQ : Field := ⟨43, 16, 0, 9, .int, false, fun _ => 0⟩
/-- Entries fetched from it in this turn (R442). -/
def NVQ_RRN : Field := ⟨43, 17, 0, 8, .int, false, fun _ => 0⟩
/-- Number of the next command in fetch order (R455). -/
def NVQ_ORDER : Field := ⟨43, 18, 0, 32, .int, false, fun _ => 0⟩
/-- Arbitration Burst (R485). -/
def NVQ_AB : Field := ⟨43, 19, 0, 3, .int, false, fun _ => 0⟩
/-- Over and under temperature thresholds in K (R485). -/
def NVQ_TMPTH : Field := ⟨43, 20, 0, 16, .int, false, (373*(1-·))⟩
/-- Interrupt Coalescing: threshold [7:0], time [15:8] (R485). -/
def NVQ_COAL : Field := ⟨43, 21, 0, 16, .int, false, fun _ => 0⟩
/-- Coalescing is disabled for vector n (R485). -/
def NVQ_IVC : Field := ⟨43, 22, 0, 1, .int, false, fun _ => 0⟩
/-- Asynchronous Event Configuration (R485). -/
def NVQ_AEC : Field := ⟨43, 23, 0, 32, .int, false, fun _ => 0⟩
/-- Number of Queues has been set (R485). -/
def NVQ_NQSET : Field := ⟨43, 24, 0, 1, .int, false, fun _ => 0⟩
/-- I/O submission queues granted, 0-based (R485). -/
def NVQ_NSQ : Field := ⟨43, 25, 0, 16, .int, false, fun _ => 255⟩
/-- I/O completion queues granted, 0-based (R485). -/
def NVQ_NCQ : Field := ⟨43, 26, 0, 16, .int, false, fun _ => 255⟩
/-- Diagnostic unlock (R486). -/
def NVQ_UNLOCK : Field := ⟨43, 27, 0, 1, .int, false, fun _ => 0⟩
/-- Last operational power state (R478). -/
def NVQ_OPPS : Field := ⟨43, 28, 0, 3, .int, false, fun _ => 0⟩
/-- The controller is leaving PS3 or PS4 (R478). -/
def NVQ_LEAVING : Field := ⟨43, 29, 0, 1, .int, false, fun _ => 0⟩
/-- Critical warning last reported (R481). -/
def NVQ_CRITW : Field := ⟨43, 30, 0, 8, .int, false, fun _ => 0⟩
/-- Composite temperature in K (R481). -/
def NVQ_TEMP : Field := ⟨43, 31, 0, 16, .int, false, fun _ => 0⟩
/-- Extents ever added to the unrecovered list (R481). -/
def NVQ_EXTENTS : Field := ⟨43, 32, 0, 64, .int, true, fun _ => 0⟩
/-- Changes of the unrecovered list (R482). -/
def NVQ_UNRCHG : Field := ⟨43, 33, 0, 64, .int, true, fun _ => 0⟩
/-- Errors logged (R459). -/
def NVQ_ERRCNT : Field := ⟨43, 34, 0, 64, .int, true, fun _ => 0⟩
/-- Tag of the next media operation (R160). -/
def NVQ_MTAG : Field := ⟨43, 35, 0, 24, .int, false, fun _ => 0⟩
/-- Command register (R491). -/
def CFG_CMD : Field := ⟨92, 0, 0, 16, .int, false, fun _ => 0⟩
/-- Error bits of the Status register (R491). -/
def CFG_STATUS : Field := ⟨92, 1, 0, 16, .int, false, fun _ => 0⟩
/-- Cache Line Size (R491). -/
def CFG_CLS : Field := ⟨92, 2, 0, 8, .int, false, fun _ => 0⟩
/-- Base address registers, address bits (R495). -/
def CFG_BAR : Field := ⟨92, 3, 0, 32, .int, false, fun _ => 0⟩
/-- Interrupt Line (R491). -/
def CFG_INTLINE : Field := ⟨92, 4, 0, 8, .int, false, fun _ => 0⟩
/-- Power state (R523). -/
def CFG_PMSTATE : Field := ⟨92, 5, 0, 2, .int, false, fun _ => 0⟩
/-- PME_En (R525). -/
def CFG_PMEEN : Field := ⟨92, 6, 0, 1, .int, true, fun _ => 0⟩
/-- PME_Status (R525). -/
def CFG_PMESTS : Field := ⟨92, 7, 0, 1, .int, true, fun _ => 0⟩
/-- MSI-X Enable (R529). -/
def CFG_MSIXEN : Field := ⟨92, 8, 0, 1, .int, false, fun _ => 0⟩
/-- MSI-X Function Mask (R529). -/
def CFG_FMASK : Field := ⟨92, 9, 0, 1, .int, false, fun _ => 0⟩
/-- Device Control (R493). -/
def CFG_DEVCTL : Field := ⟨92, 10, 0, 16, .int, false, fun _ => 0x2810⟩
/-- Device Status error bits (R520). -/
def CFG_DEVSTS : Field := ⟨92, 11, 0, 4, .int, false, fun _ => 0⟩
/-- Device Control 2 (R504). -/
def CFG_DEVCTL2 : Field := ⟨92, 12, 0, 16, .int, false, fun _ => 0⟩
/-- Link Control (R489). -/
def CFG_LNKCTL : Field := ⟨92, 13, 0, 16, .int, false, fun _ => 0⟩
/-- Link Control 2 (R514). -/
def CFG_LNKCTL2 : Field := ⟨92, 14, 0, 16, .int, true, fun _ => 5⟩
/-- AER Uncorrectable Error Status (R514). -/
def CFG_UES : Field := ⟨92, 15, 0, 32, .int, true, fun _ => 0⟩
/-- AER Uncorrectable Error Mask (R514). -/
def CFG_UEM : Field := ⟨92, 16, 0, 32, .int, true, fun _ => 0x400000⟩
/-- AER Uncorrectable Error Severity (R520). -/
def CFG_UESEV : Field := ⟨92, 17, 0, 32, .int, true, fun _ => 0x00462030⟩
/-- AER Correctable Error Status (R514). -/
def CFG_CES : Field := ⟨92, 18, 0, 32, .int, true, fun _ => 0⟩
/-- AER Correctable Error Mask (R514). -/
def CFG_CEM : Field := ⟨92, 19, 0, 32, .int, true, fun _ => 0x6000⟩
/-- AER Capabilities and Control, writable bits (R522). -/
def CFG_AERCTL : Field := ⟨92, 20, 0, 32, .int, true, fun _ => 0⟩
/-- First Error Pointer (R514). -/
def CFG_FEP : Field := ⟨92, 21, 0, 5, .int, true, fun _ => 0⟩
/-- AER Header Log (R514). -/
def CFG_HLOG : Field := ⟨92, 22, 0, 32, .int, true, fun _ => 0⟩
/-- LTR maximum latencies (R528). -/
def CFG_LTR : Field := ⟨92, 23, 0, 32, .int, false, fun _ => 0⟩
/-- L1 PM Substates Control 1 (R527). -/
def CFG_L1SS1 : Field := ⟨92, 24, 0, 32, .int, false, fun _ => 0⟩
/-- L1 PM Substates Control 2 (R527). -/
def CFG_L1SS2 : Field := ⟨92, 25, 0, 32, .int, false, fun _ => 0⟩
/-- MSI-X message address of vector n (R529). -/
def MSIX_ADDR : Field := ⟨92, 26, 0, 64, .int, false, fun _ => 0⟩
/-- MSI-X message data (R529). -/
def MSIX_DATA : Field := ⟨92, 27, 0, 32, .int, false, fun _ => 0⟩
/-- Mask of vector n (R529). -/
def MSIX_MASK : Field := ⟨92, 28, 0, 1, .int, false, fun _ => 1⟩
/-- Pending bit of vector n (R529). -/
def MSIX_PBA : Field := ⟨92, 29, 0, 1, .int, false, fun _ => 0⟩
/-- INTA is asserted (R530). -/
def CFG_INTA : Field := ⟨92, 30, 0, 1, .int, false, fun _ => 0⟩
/-- Bus Master Enable was cleared and has not been set again (R512). -/
def CFG_BMEOFF : Field := ⟨92, 31, 0, 1, .int, false, fun _ => 0⟩
/-- WAKE_N is asserted (R525). -/
def PAD_WAKE : Field := ⟨91, 0, 0, 1, .int, false, fun _ => 0⟩
/-- PERST_N is asserted (R519). -/
def PAD_PERST : Field := ⟨91, 1, 0, 1, .int, true, fun _ => 0⟩
/-- CLKREQ_N is deasserted (R527). -/
def PAD_CLKREQ : Field := ⟨91, 2, 0, 1, .int, false, fun _ => 0⟩
/-- FAULT_N is asserted (R547). -/
def PAD_FAULT : Field := ⟨91, 3, 0, 1, .int, false, fun _ => 0⟩
/-- Core n is held in reset by contain (R541). -/
def GLB_HELD : Field := ⟨32, 0, 0, 1, .int, false, fun _ => 0⟩
/-- SYNC_OUT is held low (R541). -/
def MGR_SYNCLOW : Field := ⟨46, 0, 0, 1, .int, false, fun _ => 0⟩
/-- Block (data-space offset / 64) that the scrubber reads next (R427). -/
def BUF_SCRBLK : Field := ⟨41, 1, 0, 29, .int, false, fun _ => 0⟩
/-- Address, plus 1, of the word whose failed read is being repeated; 0 for none (R409). -/
def BUF_SRAMFAIL : Field := ⟨41, 2, 0, 48, .int, false, fun _ => 0⟩
/-- Bytes of data traffic in the present ms (R434). -/
def BUF_TRFB : Field := ⟨41, 3, 0, 40, .int, false, fun _ => 0⟩
/-- AON time of that ms (R434). -/
def BUF_TRFMS : Field := ⟨41, 4, 0, 48, .int, false, fun _ => 0⟩
/-- Zone size in blocks (R452). -/
def NVQ_ZSZE : Field := ⟨43, 36, 0, 32, .int, false, fun _ => 65536⟩
/-- Diagnostic unlock code of the configuration records (R485). -/
def NVQ_UNLKC : Field := ⟨43, 37, 0, 16, .int, false, fun _ => 0⟩
/-- NGUID of the configuration records (R479). -/
def NVQ_NGUID : Field := ⟨43, 38, 0, 128, .int, false, fun _ => 0⟩
/-- An activation awaits the next controller reset (R474). -/
def NVQ_ACTNEXT : Field := ⟨43, 39, 0, 1, .int, false, fun _ => 0⟩
/-- The activation has asked for its bank swap (R474). -/
def NVQ_ACTHELD : Field := ⟨43, 40, 0, 1, .int, false, fun _ => 0⟩
/-- Bytes of the firmware image downloaded so far (R473). -/
def NVQ_FWLEN : Field := ⟨43, 41, 0, 32, .int, false, fun _ => 0⟩
/-- VERSION of the flacon in slot n + 1 (R573). -/
def NVM_VER : Field := ⟨93, 0, 0, 32, .int, true, fun _ => 0⟩
/-- Active flacon slot of the directory, 0 or 1 (R571). -/
def NVM_ACTIVE : Field := ⟨93, 1, 0, 1, .int, true, fun _ => 0⟩
/-- The flacon in slot n + 1 was written by a Firmware Commit (R574). -/
def NVM_FRESH : Field := ⟨93, 2, 0, 1, .int, true, fun _ => 0⟩
/-- Zones of a worker (R604). -/
def MGR_WNZ : Field := ⟨46, 1, 0, 32, .int, false, fun _ => 0⟩
/-- Zone size of a worker, as log2 (R605). -/
def MGR_WZS : Field := ⟨46, 2, 0, 6, .int, false, fun _ => 0⟩
/-- Identifier of the next peer command (R602). -/
def MGR_CID : Field := ⟨46, 3, 0, 16, .int, false, fun _ => 0⟩
/-- Zones of the shelf (R605). -/
def MGR_NZS : Field := ⟨46, 4, 0, 32, .int, false, fun _ => 0⟩
/-- The queues of the worker in slot n are set up (R601). -/
def MGR_UP : Field := ⟨46, 5, 0, 1, .int, false, fun _ => 0⟩
/-- Next entry of completion queue q of slot n, at 9 n + q (R602). -/
def PEER_HEAD : Field := ⟨46, 6, 0, 6, .int, false, fun _ => 0⟩
/-- Phase tag expected there (R602). -/
def PEER_PH : Field := ⟨46, 7, 0, 1, .int, false, fun _ => 1⟩
/-- A shutdown waits for its clean record (R472). -/
def NVQ_SHSEQ : Field := ⟨43, 42, 0, 1, .int, false, fun _ => 0⟩
/-- AON time in ns at which Bus Master Enable was cleared (R512). -/
def CFG_BMETIME : Field := ⟨92, 32, 0, 64, .int, false, fun _ => 0⟩
/-- EUI-64 of the configuration records (R492). -/
def GLB_EUI : Field := ⟨32, 1, 0, 64, .int, false, fun _ => 0⟩
/-- RESET_N is asserted (R565). -/
def PAD_RSTN : Field := ⟨91, 4, 0, 1, .int, true, fun _ => 0⟩
/-- PWR_GOOD is deasserted (R644). -/
def PAD_PWRBAD : Field := ⟨91, 5, 0, 1, .int, true, fun _ => 0⟩
/-- VDD_AON lies below 0.60 V (R645). -/
def PAD_AONLOW : Field := ⟨91, 6, 0, 1, .int, true, fun _ => 0⟩
/-- Rails outside their limits, by number (R645). -/
def PAD_RAIL : Field := ⟨91, 7, 0, 10, .int, true, fun _ => 0⟩
/-- TESTEN was asserted at the rising edge of PWR_GOOD (R634). -/
def PAD_TEST : Field := ⟨91, 8, 0, 1, .int, false, fun _ => 0⟩
/-- Instruction of the test access port: 0 BYPASS, 1 IDCODE, 2 SAMPLE/PRELOAD, 3 EXTEST, 4 CLAMP, 5 HIGHZ (R635). -/
def PAD_TAP : Field := ⟨91, 9, 0, 3, .int, true, fun _ => 0⟩
/-- Value preloaded into the boundary-scan cells (R635). -/
def PAD_SCAN : Field := ⟨91, 10, 0, 1024, .int, true, fun _ => 0⟩
/-- Set-point of VDD_CORE in mV (R630). -/
def PAD_AVS : Field := ⟨91, 11, 0, 10, .int, false, fun _ => 750⟩
/-- No regulator responds; nothing further is requested (R630). -/
def PAD_AVSOFF : Field := ⟨91, 12, 0, 1, .int, false, fun _ => 0⟩
/-- AON time in ns, plus 1, of the last request; 0 for none (R643). -/
def PAD_AVSMS : Field := ⟨91, 13, 0, 64, .int, false, fun _ => 0⟩
/-- The status word of an abandoned dump is erased (R558). -/
def NVM_DUMPBAD : Field := ⟨93, 3, 0, 1, .int, true, fun _ => 0⟩
/-- A cold reset reaches the dump sequencer when the running dump ends (R667). -/
def BNR_CARRY : Field := ⟨45, 1, 0, 1, .int, false, fun _ => 0⟩
/-- Security version that the fused minimum is raised to at configuration-complete, or 0 (R574). -/
def GLB_SVNUP : Field := ⟨32, 2, 0, 32, .int, false, fun _ => 0⟩
/-- ROLE.ADDR is a fixed address (R593). -/
def CLB_FIXED : Field := ⟨48, 0, 0, 1, .int, false, fun _ => 0⟩
/-- ROLE.FLAGS bit 1: no upstream manager (R593). -/
def CLB_TOP : Field := ⟨48, 1, 0, 1, .int, false, fun _ => 0⟩
/-- SEQ, plus 1, of the last request acted on; 0 for none (R595). -/
def CLB_LAST : Field := ⟨48, 2, 0, 5, .int, false, fun _ => 0⟩
/-- Safe-state entries when the last STATUS was sent (R597). -/
def CLB_SAFESEEN : Field := ⟨48, 3, 0, 16, .int, false, fun _ => 0⟩
/-- A response slot of a discovery round is awaited (R599). -/
def CLB_HELLO : Field := ⟨48, 4, 0, 1, .int, false, fun _ => 0⟩
/-- SLOTMAP entry of slot n (R593). -/
def MGR_SLOTMAP : Field := ⟨46, 8, 0, 64, .int, false, fun _ => 0⟩
/-- ROLE.FLAGS bit 0: the slot map is present (R593). -/
def MGR_MAPPED : Field := ⟨46, 9, 0, 1, .int, false, fun _ => 0⟩
/-- ROLE.BUDGET (R593). -/
def MGR_BUDGETR : Field := ⟨46, 10, 0, 16, .int, false, fun _ => 0⟩
/-- Discovery runs (R599). -/
def MGR_DISC : Field := ⟨46, 11, 0, 1, .int, false, fun _ => 0⟩
/-- Consecutive rounds without a HELLO (R599). -/
def MGR_EMPTY : Field := ⟨46, 12, 0, 2, .int, false, fun _ => 0⟩
/-- SEQ of the next request (R594). -/
def MGR_SEQ : Field := ⟨46, 13, 0, 4, .int, false, fun _ => 0⟩
/-- Tokens that the child in slot n wants (R597). -/
def MGR_CWANT : Field := ⟨46, 14, 0, 8, .int, false, fun _ => 0⟩
/-- It holds host commands (R597). -/
def MGR_CHELD : Field := ⟨46, 15, 0, 1, .int, false, fun _ => 0⟩
/-- Its LOST members (R597). -/
def MGR_CLOST : Field := ⟨46, 16, 0, 8, .int, false, fun _ => 0⟩
/-- Its degraded members (R597). -/
def MGR_CDEGR : Field := ⟨46, 17, 0, 8, .int, false, fun _ => 0⟩
/-- Its unrecovered extents (R597). -/
def MGR_CUNREC : Field := ⟨46, 18, 0, 32, .int, false, fun _ => 0⟩
/-- Its next base-note SEQ (R597). -/
def MGR_CNEXT : Field := ⟨46, 19, 0, 16, .int, false, fun _ => 0⟩
/-- Next SEQ to be harvested from it (R621). -/
def MGR_CSEQ : Field := ⟨46, 20, 0, 16, .int, false, fun _ => 0⟩
/-- Next slot of the roll-out (R620). -/
def MGR_FWNEXT : Field := ⟨46, 21, 0, 7, .int, false, fun _ => 0⟩
/-- The child in slot n is being served by the roll-out (R620). -/
def MGR_FWACT : Field := ⟨46, 22, 0, 1, .int, false, fun _ => 0⟩
/-- Epoch of the newest SYNC frame in µs (R615). -/
def MGR_EPOCH : Field := ⟨46, 23, 0, 64, .int, false, fun _ => 0⟩
/-- Its SYNC_OUT period in ns (R615). -/
def MGR_PERIOD : Field := ⟨46, 24, 0, 32, .int, false, fun _ => 0⟩
/-- LENGTH of the flacon that FWDATA delivers, or 0 (R620). -/
def CLB_FWLEN : Field := ⟨48, 5, 0, 32, .int, false, fun _ => 0⟩
/-- Verify result of the last commit by FWCTL (R620). -/
def CLB_FWOK : Field := ⟨48, 6, 0, 1, .int, false, fun _ => 0⟩
/-- Journal zone of worker n that takes the next record (R611). -/
def MGR_JRNLA : Field := ⟨46, 25, 0, 1, .int, false, fun _ => 0⟩
/-- Blocks appended to journal zone a of worker n since its reset, at 2 n + a (R611). -/
def MGR_JRNLWP : Field := ⟨46, 26, 0, 32, .int, false, fun _ => 0⟩
/-- Newest record in journal zone a of worker n, at 2 n + a (R611). -/
def MGR_JRNLSEQ : Field := ⟨46, 27, 0, 32, .int, false, fun _ => 0⟩
/-- Active parity-log zone of worker n (R609). -/
def MGR_PLOGA : Field := ⟨46, 28, 0, 1, .int, false, fun _ => 0⟩
/-- Blocks appended to parity-log zone a of worker n since its reset, at 2 n + a (R609). -/
def MGR_PLOGWP : Field := ⟨46, 29, 0, 32, .int, false, fun _ => 0⟩

end Sys2Proof.Machine
end

