-- ==== Sys2Proof/Syntax.lean ====
section
/-!
DEFINITION. The commands of the FV4812 block: one constructor of `Instr` per row of spec/opcode_table.json.
A command is an event at the block's boundary (a register access, a tick, a packet, a sample, a timer that
has run out) and carries as operands what the event brings with it. Quantities that the spec lets the
analog parts, the media, the host's memory or the crypto units determine are operands of the event that
delivers them (log entry 3); indices are bounded by their types, and `WellFormed` states the rest.
-/

namespace Sys2Proof

/-- A block with shadow registers and commit groups (R663). -/
inductive ShBlk where
  | ang | spn | srv | lpe | lan | fmt | acd
  deriving DecidableEq, Repr

/-- The requesters of register and memory accesses, in the fixed order of R659. -/
inductive Master where
  | m0 | m1 | m2 | m3 | lpe | bar4
  deriving DecidableEq, Repr

/-- What an engine found when it stopped on a codeword (R106, R107): whether its syndrome is all zero, the 4,116 bytes before the
parity as decoded (data, protection information, frame tag: R150), and the iterations used. -/
structure DecodeOut where
  conv  : Bool
  bytes : List Byte
  iters : Nat
  deriving DecidableEq, Repr

/-- A wedge as the demodulator reads it (R253–R257): burst amplitudes, the track and wedge numbers read, the dibit check, the places at which it
looks for the sync mark, as offset in ticks from the predicted one and the 16 decisions there (R256), the position and velocity that the loop's
estimator predicts, in 1/256 track and 1/256 track per wedge (R257, R270), and the clearance index (R284). -/
structure Wedge where
  a     : Nat
  b     : Nat
  c     : Nat
  d     : Nat
  track : BitVec 21
  num   : BitVec 9
  dibit : Bool
  sync  : List (Int × BitVec 16)
  pred  : Int
  vel   : Nat
  ci    : BitVec 8
  deriving DecidableEq, Repr

/-- A codeword position's correction word error: byte position in the 68-byte code word and the XOR (R405). -/
structure ByteErr where
  pos : Fin 68
  x   : Byte
  deriving DecidableEq, Repr

/-- Who issues a buffer access (R424, R430); a DMA channel with the command that owns its descriptor (R422), as queue and
command identifier. -/
inductive BufMaster where
  | dma (ch : Fin 16) (owner : Option (Nat × BitVec 16)) | lane (l : Fin 48) | dec | acd | fmt | core (m : Fin 4) | scrub | host
  deriving DecidableEq, Repr

/-- What of a journal record could not be written and verified (R240, R241): copy A, copy B, the entries of its grown skips in the members'
skip lists. -/
structure RecordFail where
  copyA : Bool
  copyB : Bool
  skips : Bool
  deriving DecidableEq, Repr

/-- One of the SRAMs of R409. -/
inductive SramKind where
  | insn | data | zone | lpe | fmtStore | staging | writeBuf | other
  deriving DecidableEq, Repr

/-- An ordinary read or write command's fields (R447–R451, R465), with the outcome of the end-to-end checks
that the data in host memory decide. -/
structure IoArgs where
  sqid    : Nat
  cid     : BitVec 16
  slba    : Nat
  nlb     : Nat
  fua     : Bool
  pract   : Bool
  prchk   : BitVec 3
  ilbrt   : BitVec 48
  piremap : Bool
  lbat    : BitVec 16
  lbatm   : BitVec 16
  deriving DecidableEq, Repr

/-- What a Get Features command selects (R485): SEL, and the CDW11 that selects a threshold or an interrupt vector. -/
structure FeatureSel where
  sel  : BitVec 3
  dw11 : Word
  deriving DecidableEq, Repr

/-- An end-to-end check outcome of the blocks of a command (R451). -/
inductive PiCheck where
  | ok | guard | app | ref
  deriving DecidableEq, Repr

/-- A submission queue entry as fetched (R442, R446): the fields that every command's check reads. -/
structure SqEntry where
  sqid   : Nat
  opcode : BitVec 8
  cid    : BitVec 16
  fuse   : BitVec 2
  psdt   : BitVec 2
  nsid   : Word
  deriving DecidableEq, Repr

/-- What the loader cannot compute from the bytes of an image (R391): whether its source could be read, and the outcomes of the key hash and
signature checks, which the fuses and the crypto unit decide. -/
structure ImageChecks where
  readOk : Bool
  keyOk  : Bool
  sigOk  : Bool
  deriving DecidableEq, Repr

/-- A flacon slot as the boot engine's checks find it (R573). -/
structure FlaconSlot where
  formatOk : Bool
  sections : Bool
  keyOk    : Bool
  svn      : Nat
  /-- FLAGS bit 0 of its TYPE 1 section (R574). -/
  svnCommit : Bool
  sigOk    : Bool
  version  : Word
  /-- Its TYPE 1, 2 and 4 sections: internal address and bytes. -/
  images   : List (Nat × List Byte)
  deriving DecidableEq, Repr

/-- A copy of the boot directory (R571): its magic and CRC are valid, its sequence number, and the active flacon slot, 0 for slot 1. -/
structure DirCopy where
  ok     : Bool
  seq    : Word
  active : Fin 2
  deriving DecidableEq, Repr

/-- A SPIN record (R576, R584): target speed in rpm, `SPN_REFMODE`, the grants GSTD and TMIN, and MODE. -/
structure SpinRec where
  rpm     : BitVec 16
  refmode : Fin 4
  gstd    : BitVec 8
  tmin    : BitVec 8
  mode    : Fin 3
  deriving DecidableEq, Repr

/-- A configuration area as the boot engine's checks find it (R575–R577), with its records; `recordsOk` says of the checks of R577 those
that the operand does not show. -/
structure CfgArea where
  formatOk  : Bool
  recordsOk : Bool
  sigOk     : Bool
  seq       : Word
  mandatory : Bool
  role      : Fin 3
  level     : Fin 4
  claikAddr : BitVec 7
  roleFlags : BitVec 8
  budget    : BitVec 16
  slotmap   : List (Nat × BitVec 64)
  bufCfg    : Word
  retBase   : Word
  pciCfg    : Option Word
  pciIds    : Option Word
  eui       : Option (BitVec 64)
  /-- NGUID, ZSZE in blocks and diagnostic unlock code of the NVME record. -/
  nvme      : Option (BitVec 128 × Nat × BitVec 16)
  /-- `NVQ_CMB.SIZE`, the windows by number, and the spin-wait default of the NVME record. -/
  cmbSize   : Option (BitVec 16)
  wins      : List (Nat × BitVec 64)
  spinwait  : Option (BitVec 16)
  /-- Populated-head mask, pilot sensors fitted, PP and member mask of the GEOMETRY record. -/
  heads     : BitVec 48
  pilots    : BitVec 2
  polePairs : BitVec 4
  members   : BitVec 64
  spin      : Option SpinRec
  /-- k, m, SEED and ZSTEP of the ACCORD record. -/
  accord    : Option (BitVec 5 × BitVec 3 × BitVec 16 × BitVec 16)
  /-- The pairs of the REGS record: internal address and value. -/
  regs      : List (Nat × Word)
  /-- The words of the LPEPAR record: data-memory word address and word. -/
  lpepar    : List (Nat × Word)
  deriving DecidableEq, Repr

/-- The supply rails with monitors (R645). -/
inductive Rail where
  | vddCore | vddSram | vddAfe | vdda1v2 | vddIo | vddMio | vddPe | vddaPe | lpddr | vddAonLow
  deriving DecidableEq, Repr

/-- The kinds of request that reach the function (R510). -/
inductive ReqKind where
  | memory | locked | io | atomicOp
  deriving DecidableEq, Repr

/-- A received request of the host (R510): its kind, BAR, offset, length in bytes, data words, the EP bit, whether it is malformed, and whether its
ECRC does not match. -/
structure MemReq where
  kind : ReqKind
  bar  : Fin 6
  off  : Nat
  len  : Nat
  data : List Byte
  ep   : Bool
  malformed : Bool
  ecrcBad : Bool
  deriving DecidableEq, Repr

/-- The consumer of a non-posted request the endpoint issued (R506). -/
inductive TagUse where
  | sqFetch | cmdFetch (sqid : Nat) (cid : BitVec 16) (order : Nat)
  deriving DecidableEq, Repr

/-- The kinds of configuration request that reach the endpoint (R491–R494, R504, R510, R519, R522). -/
inductive CfgReq where
  | read (off : Nat)
  | write (off : Nat) (v : Word)
  | type1
  deriving DecidableEq, Repr

/-- Link errors of R520. -/
inductive LinkErr where
  | receiver | badTlp | badDllp | replayTimeout | replayRollover
  | dlProtocol | fcProtocol | rxOverflow
  deriving DecidableEq, Repr

/-- A received message (R510). -/
inductive Msg where
  | vendorType1 | other
  deriving DecidableEq, Repr

/-- A completion's status (R506). -/
inductive CplStatus where
  | ok | ur | ca | poisoned
  deriving DecidableEq, Repr

/-- A loop-engine branch condition (R367). -/
inductive Cond where
  | n | z | v | always
  deriving DecidableEq, Repr

/-- The causes of a spindle sensing result (R333). -/
inductive SenseFinding where
  | forward | backward | unresolvedEmf | still
  deriving DecidableEq, Repr

/-- The conversions of the shunt ADC in a PWM period: two in each of its two active-vector windows (R307). -/
structure ShuntReading where
  a1 : BitVec 14
  b1 : BitVec 14
  a2 : BitVec 14
  b2 : BitVec 14
  deriving DecidableEq, Repr

/-- The conversions of the three phase voltages (R311). -/
structure PhaseReading where
  u : BitVec 12
  v : BitVec 12
  w : BitVec 12
  deriving DecidableEq, Repr

/-- What the back-EMF zero crossings give of a turning rotor (R333, R342): electrical angle in 1/64 degree, speed in rpm/16. -/
structure Crossings where
  angle : Nat
  speed : Nat
  deriving DecidableEq, Repr

/-- Identify structures (R479). -/
structure IdentifyArgs where
  cid : BitVec 16
  cns : BitVec 8
  csi : BitVec 8
  nsid : Word
  deriving DecidableEq, Repr

/-- A STATUS payload (R597). -/
structure StatusMsg where
  role   : BitVec 2
  level  : BitVec 2
  loadok : Bool
  safe   : Bool
  safeSeen : Bool
  held   : Bool
  locked : Bool
  spn    : BitVec 8
  used   : BitVec 8
  grant  : BitVec 8
  want   : BitVec 8
  lost   : BitVec 8
  degr   : BitVec 8
  unrec  : Word
  nextSeq : BitVec 16
  deriving DecidableEq, Repr

/-- Samples of a lane as they come to its ADC, in the ADC's codes (R83). -/
structure LaneSamples where
  lane    : Fin 48
  samples : List Int
  deriving DecidableEq, Repr

/-- The soft decisions of a codeword that a lane has read, with 4 bits before it and 4 after (R86, R87). -/
structure StagedBits where
  lane : Fin 48
  soft : List (BitVec 4)
  deriving DecidableEq, Repr

/-- A turn of a rebuild pass: the side that reads, and the tag of the media operation (R225, R228). -/
structure RebuildTurn where
  side : Fin 2
  mtag : BitVec 24
  deriving DecidableEq, Repr

/-- Head h = 12a + p: that of actuator `a` at arm position `p` (R4). -/
def headAt (a : Fin 4) (p : Fin 12) : Fin 48 := ⟨12 * a + p, by omega⟩

/-- The surface of stack `k` at arm position `p` (R4). -/
def surfaceAt (k : Fin 2) (p : Fin 12) : Fin 24 := ⟨12 * k + p, by omega⟩

/-- The commands: one constructor per row of spec/opcode_table.json, in the table's order. -/
inductive Instr where
  -- Angle timebase (spec/01_angle_timebase.md)
  /-- R28, R34: a sample of sensor `n`: the phase within the ring cycle of the trimmed raw pair, the live
  amplitude, whether a sample clips, whether it lies in the index signature, the filter's speed and
  direction, and the other sensor's projected advance since its own last sample. -/
  | pilotSample (n : Fin 2) (phase : BitVec 10) (amp : BitVec 12) (clip sig rev : Bool) (rate : Word) (proj : Int)
  /-- R30: how many ticks beyond its last sample the filter of each sensor shows it. -/
  | angleClockCycle (p : Int × Int)
  | indexSignature (n : Fin 2)
  | sensorRequalify (n : Fin 2)
  | stampLoRead
  | multiwordLowRead (addr : Addr)
  | angCmpWrite (n : Fin 256) (word : Fin 4) (v : Word)
  | comparatorFire (n : Fin 256)
  | groupCommit (b : ShBlk) (i : Fin 48) (g : Fin 8) (cancel : Bool)
  | groupCancel (b : ShBlk) (i : Fin 48) (g : Fin 8)
  | shadowWrite (addr : Addr) (v : Word)
  | decisionPoint (b : ShBlk) (i : Fin 48) (g : Fin 8)
  | boundarySwap (b : ShBlk) (i : Fin 48) (g : Fin 8)
  -- Channel lanes and the decoder pool (spec/02_channel_lanes.md)
  | laneStateRequest (l : Fin 48) (req : Fin 4)
  | laneOosWrite (l : Fin 48) (oos : Bool)
  | laneTransitionDone (l : Fin 48)
  /-- R72, R669: the synthesiser's phase error at this edge, in 1/64 bit. -/
  | ringCycleEdge (l : Fin 48) (err : Int)
  | synthLock (l : Fin 48)
  | ringEdgeTimeout (l : Fin 48)
  /-- R77: the Mueller–Müller timing error of 32 bits, in units of 1/64 bit; and the samples of those bits as they come to the ADC, in its
  codes, with the 23 before them (R82–R84). -/
  | phaseTrimUpdate (b : LaneSamples) (te : Int)
  /-- R80: the lane of actuator `a` at arm position `p`, and the wedge. -/
  | rttLearn (a : Fin 4) (p : Fin 12) (w : Fin 512)
  /-- R89, R90: the samples of the detector's window. -/
  | dropoutFlag (b : LaneSamples)
  | asperityFlag (b : LaneSamples)
  | defectFlagRelease (b : LaneSamples) (ta : Bool)
  | wedgeWindow (l : Fin 48) (opens : Bool)
  /-- R161: the 64 bytes of a frame operation. -/
  | frameOpRead (l : Fin 48) (op : BitVec 512)
  | frameOpWrite (a : Fin 4) (p : Fin 12) (op : BitVec 512)
  /-- R95: the hard decisions from 127 bits before the predicted sync position to 127 bits after its last bit, the first in the most
  significant place. -/
  | frameReadStart (a : Fin 4) (p : Fin 12) (hard : BitVec 302)
  | codewordStaged (b : StagedBits)
  | engineDispatch (d : Fin 32)
  | decodeDone (d : Fin 32) (o : DecodeOut)
  | frameOpCancel (l : Fin 48) (mtag : BitVec 24)
  | frameWriteStart (l : Fin 48)
  | frameWriteEnd (l : Fin 48)
  | laneMemdatWrite (l : Fin 48) (v : Word)
  | laneMemdatRead (l : Fin 48)
  | hlkEnable (a : Fin 4)
  | hlkDisable (a : Fin 4)
  | hlkTrain (a : Fin 4)
  | hlkWenWrite (a : Fin 4) (mask : BitVec 12)
  | hlkRegcmdGo (a : Fin 4) (v : Word)
  | hlkPacketSent (a : Fin 4)
  | hlkResponseRx (a : Fin 4) (pkt : BitVec 48)
  | hlkFaultFlagsRx (a : Fin 4) (pkt : BitVec 48)
  | hlkHeartbeatRx (a : Fin 4) (pkt : BitVec 48)
  /-- R127: a training response, heard inverted or not on each pair. -/
  | hlkTrainingRx (a : Fin 4) (aInv bInv : Bool)
  | hlkAckTimeout (a : Fin 4)
  | hlkLinkDown (a : Fin 4)
  | hlkOrientTimeout (a : Fin 4)
  | hlkTrainHbTimeout (a : Fin 4)
  -- Media format and the format sequencer (spec/03_media_format.md)
  | hostRead (zone : Nat) (off len : Nat) (mtag : BitVec 24)
  | raRead (zone : Nat) (row : Nat) (mtag : BitVec 24)
  | writeRow (zone : Nat) (row : Nat) (mtag : BitVec 24)
  | reconRead (zone row pos : Nat) (host : Bool) (mtag : BitVec 24)
  | rebuildRead (zone row pos : Nat) (mtag : BitVec 24)
  | patrol (zone row pos : Nat) (mtag : BitVec 24)
  | sysRead (surface : Fin 24) (track : BitVec 21) (slot : BitVec 8) (mtag : BitVec 24)
  | sysWrite (surface : Fin 24) (track : BitVec 21) (slot : BitVec 8) (mtag : BitVec 24)
  | cal (head : Fin 48) (write : Bool) (track : BitVec 21) (slot : BitVec 8) (mtag : BitVec 24)
  | frameOpIssue (head : Fin 48)
  | frameResult
  | ladderTimeout (mtag : BitVec 24)
  | rowCommit (zone : Nat)
  | frontierWrite (zone : Nat)
  | raDrop
  | fmtRunSet
  | fmtRunClear
  /-- R144: the surface of stack `k` at arm position `p`. -/
  | descriptorLoad (k : Fin 2) (p : Fin 12)
  | fmtStoreWrite (addr : Addr) (v : Word)
  -- Accords, rebuild and resynchronisation (spec/04_accords.md)
  | acdRun (run : Bool)
  | placementGen
  | placementGenDone
  | rbldHold (hold : Bool)
  | acdClean
  | acdCleanClr
  | acdLose (v : Word)
  | streamTurn (side : Fin 2)
  | rowSubmit (zone : Nat)
  | rebuildRow (r : RebuildTurn)
  | cursorUpdate
  | rebuildBatchWrite
  | journalInterval
  | journalLazy
  /-- R240, R241, R611: what of the record could not be written. -/
  | journalWritten (failed : RecordFail)
  | checkpointTimer
  /-- R244: the checkpoint could not be written. -/
  | checkpointWritten (failed : Bool)
  /-- R246, R249: the copies on media that are not readable or fail their check: checkpoints by member and slot, journal records by
  member and sequence number. -/
  | checkpointRestore (badSaves badRecords : List (Nat × Nat))
  /-- R247, R249: the frames (row, position) whose stored contents differ or cannot be read; what a forward scan reads of row 0 and of the
  rows from its start on, as row and the GEN of each frame that decodes with matching position fields; and the blocks of the last row
  adopted up to its last one that is not a pad block, of a shelf the block after the last one adopted (R612). -/
  | resyncZone (side : Fin 2) (bad : List (Nat × Nat)) (scan : List (Nat × List (BitVec 9))) (last : Nat)
  -- Servo and actuators (spec/05_servo_actuators.md)
  | wedgeDecision (h : Fin 48) (w : Wedge)
  | blendEnd (a : Fin 4)
  | settleReached (h : Fin 48)
  | inhibitRelease (h : Fin 48)
  | microactuatorSaturation (h : Fin 48)
  | headLost (h : Fin 48)
  | headRecover (h : Fin 48)
  | actuatorLost (a : Fin 4)
  | seekTimeout (a : Fin 4)
  | targetWrite (h : Fin 48) (v : Word)
  | seekRunAhead (a : Fin 4) (v : Word)
  | loadRequest (a : Fin 4)
  | loadTimeout (a : Fin 4)
  | unloadRequest (a : Fin 4)
  | retractRequest (a : Fin 4)
  | retractPhaseEnd (a : Fin 4)
  | linkDownRetract (a : Fin 4)
  | vcmOpenCoil (a : Fin 4)
  | vcmOvercurrent (a : Fin 4)
  | vcmOcTest (a : Fin 4) (pass : Bool)
  | vcmLeadShort (a : Fin 4)
  | vcmPolarityRunaway (a : Fin 4)
  -- Spindle control (spec/06_spindle.md)
  /-- R305–R316: one PWM period: the conversions of the shunt, of the phase voltages and of the bus voltage, and what the observer
  estimates from them: electrical angle (1/64 degree), electrical speed (rpm/16), loop error (1/64 degree) and EMF magnitude
  (10 µV). -/
  | pwmPeriod (shunt : ShuntReading) (phases : PhaseReading) (vbus : BitVec 12) (obsAngle : Nat) (obsSpeed : Int)
      (loopErr : Nat) (emf : Nat)
  | currentSenseFault
  | shuntOvercurrent (shorted : Bool)
  | observerLock
  | observerLockLoss
  | pilotHandover
  | angleDisagreement
  | pilotSuspect
  /-- R320–R323: the demands of the four loops (1/32,768 of full scale), the measured speed (rpm/16), the ticks since the trigger of the
  run that made the demands, whether the angle epoch is still that of the trigger (R386), and the resistance estimate (mΩ). -/
  | speedLoopUpdate (d0 : Int) (d1 d2 d3 : Nat) (speed : BitVec 20) (age : BitVec 16) (sameEpoch : Bool) (rest : BitVec 16)
  /-- R328: the frequency of SPD_REF at this edge, in mHz. -/
  | spdRefEdge (freq : Nat)
  | phaseLock
  | referenceLost
  /-- R330: the duty cycle of one reference period in 1/65,536, 0 or 65,536 for a level held for 100 ms (MODE 2), or one voltage
  sample in mV (MODE 3). -/
  | spdRefSample (value : Nat)
  | autostart
  | spnStart
  | spnStop
  | spnDrydown
  | spnPark
  | psuspClear
  | spnCal
  /-- R338: the revolutions over which the calibration has run. -/
  | eofsCalDone (revs : BitVec 32)
  | speedTargetWrite (v : BitVec 16)
  /-- R333: what the back-EMF shows at the end of SENSE, with the angle and speed by its zero crossings. -/
  | senseEnd (f : SenseFinding) (c : Crossings)
  | brakeEnd
  | brakeTimeout
  /-- R335, R356, R640: whether ALIGN drew current, and whether the shunt read it with the wrong sign. -/
  | alignEnd (drew wrongSign : Bool)
  | openloopHandover
  | startFailure
  | phaseOrderLearn
  | catchEnd
  | loadokSet
  /-- R342: what the zero crossings gave, if the attempt succeeded. -/
  | reacqAttemptEnd (found : Option Crossings)
  | reacqFailure
  | speedFallback
  | lowSpeedDrydown
  | drydownTimeout
  | actuatorsParked
  | spindleStopped
  | powerLoss
  | regenEnd
  | phaseShortGround (phase : Fin 3)
  | openPhase (phase : Fin 3)
  | busOvervoltage
  | overcurrentTest (pass : Bool)
  -- Loop engine and Sillage trace (spec/07_loop_engine.md)
  | contextDispatch (core : Fin 4)
  | nop (c : Fin 64) (slot : Fin 4) (last : Bool)
  | mul (c : Fin 64) (slot : Fin 4) (a b : Fin 32) (q : Fin 4) (last : Bool)
  | mac (c : Fin 64) (slot : Fin 4) (a b : Fin 32) (q : Fin 4) (last : Bool)
  | msu (c : Fin 64) (slot : Fin 4) (a b : Fin 32) (q : Fin 4) (last : Bool)
  | add (c : Fin 64) (slot : Fin 4) (a : Fin 32) (last : Bool)
  | lda (c : Fin 64) (slot : Fin 4) (a : Fin 32) (last : Bool)
  | clr (c : Fin 64) (slot : Fin 4) (last : Bool)
  | abs (c : Fin 64) (slot : Fin 4) (last : Bool)
  | wr (c : Fin 64) (slot : Fin 4) (a b : Fin 32) (q : Fin 4) (last : Bool)
  | min (c : Fin 64) (slot : Fin 4) (a : Fin 32) (last : Bool)
  | max (c : Fin 64) (slot : Fin 4) (a : Fin 32) (last : Bool)
  | ld (c : Fin 64) (ls : Fin 2) (x : Fin 32) (b : Fin 8) (off : BitVec 9) (last : Bool)
  | loadDataReturn (c : Fin 64)
  | st (c : Fin 64) (ls : Fin 2) (x : Fin 32) (b : Fin 8) (off : BitVec 9) (last : Bool)
  | stg (c : Fin 64) (ls : Fin 2) (x : Fin 32) (b : Fin 8) (off : BitVec 9) (last : Bool)
  | dir (c : Fin 64) (ls : Fin 2) (x : Fin 32) (b : Fin 8) (off : BitVec 9) (last : Bool)
  | movb (c : Fin 64) (ls : Fin 2) (x : Fin 32) (b : Fin 8) (off : BitVec 9) (last : Bool)
  | jmp (c : Fin 64) (target : BitVec 16) (last : Bool)
  | br (c : Fin 64) (cond : Cond) (target : BitVec 16) (last : Bool)
  | brn (c : Fin 64) (cond : Cond) (target : BitVec 16) (last : Bool)
  | loop (c : Fin 64) (target : BitVec 16) (last : Bool)
  | setx (c : Fin 64) (x : Fin 32) (v : BitVec 13) (last : Bool)
  | cmt (c : Fin 64) (last : Bool)
  | endOp (c : Fin 64) (last : Bool)
  | cmtend (c : Fin 64) (last : Bool)
  | sig (c : Fin 64) (target : Fin 64) (last : Bool)
  | kill (c : Fin 64) (target : Fin 64) (last : Bool)
  | ovr (c : Fin 64) (x : Fin 32) (out : Fin 256) (last : Bool)
  | ovrrel (c : Fin 64) (out : Fin 256) (last : Bool)
  | trc (c : Fin 64) (x : Fin 32) (unit : Fin 8) (last : Bool)
  | customerWordLimit (c : Fin 64)
  | lpeTrig (hi : Bool) (v : Word)
  | lpeKill (hi : Bool) (v : Word)
  | fwOverrideSet (o : Fin 256) (v : Word)
  | fwOverrideRelease (o : Fin 256)
  | lpeRun (run : Bool)
  | imageLoad (region : Fin 2)
  | imageLoadDone (found : ImageChecks)
  | imageCopy (region : Fin 2)
  /-- R394: what one walk of the control store found: corrected words and uncorrectable ones. -/
  | controlStoreScrub (corrected : Nat) (uncorrectable : List (Nat × Nat))
  | sillageArm (u : Fin 8)
  | sillageForce (u : Fin 8)
  | sillageStop (u : Fin 8)
  | sillagePeriodCapture (u : Fin 8)
  | sillageDone (u : Fin 8)
  | sildatRead
  -- Buffer manager and memory protection (spec/08_buffer_memory.md)
  | dramRead (who : BufMaster) (addr : Addr) (errs : List ByteErr)
  | dramWrite (who : BufMaster) (addr : Addr) (data : List Byte) (errs : List ByteErr)
  | sramFillDone
  | backgroundFillPage
  | mergeTimeout (errs : List ByteErr)
  | bufFence
  | scrubBlock (errs : List ByteErr)
  | sramScrub (found : List (SramKind × Nat × Bool))
  | retireGo (v : Word)
  | retireDone (bad : List Nat)
  | dmaResume (mask : BitVec 16)
  | wck2dqTracking
  -- NVMe queues and commands (spec/09_nvme_queues.md)
  | sqTailDoorbell (y : Nat) (v : Word)
  | cqHeadDoorbell (y : Nat) (v : Word)
  | vendorDoorbell (off : Nat) (v : Word)
  | ccEnable (v : Word)
  | controllerReady
  | ccDisable
  | nvmSubsystemReset
  | resetDrainTimeout
  | shutdownNormal
  | shutdownAbrupt
  | commandFetch (e : SqEntry)
  | deleteIoSq (cid : BitVec 16) (qid : Nat)
  | createIoSq (cid : BitVec 16) (qid size cqid : Nat)
  | deleteIoCq (cid : BitVec 16) (qid : Nat)
  | createIoCq (cid : BitVec 16) (qid size iv : Nat) (ien : Bool)
  | getLogPage (cid : BitVec 16) (lid : BitVec 8) (rae : Bool) (off len : Nat)
  | identify (i : IdentifyArgs)
  | abort (cid : BitVec 16)
  | setFeatures (cid : BitVec 16) (fid : BitVec 8) (dw11 : Word)
  | powerManagement (cid : BitVec 16) (ps : Nat)
  | numberOfQueues (cid : BitVec 16) (nsq ncq : BitVec 16)
  | volatileWriteCache (cid : BitVec 16) (wce : Bool)
  | spinWaitLimit (cid : BitVec 16) (sec : BitVec 16)
  | diagnosticUnlock (cid : BitVec 16) (code : BitVec 16) (set : Bool)
  | mediaPolicy (cid : BitVec 16) (verify ra : Bool) (share : BitVec 8)
  | getFeatures (cid : BitVec 16) (fid : BitVec 8) (sel : FeatureSel)
  | asyncEventRequest (cid : BitVec 16)
  | firmwareImageDownload (cid : BitVec 16) (off len : Nat)
  | firmwareCommit (cid : BitVec 16) (action slot : Nat) (imageOk isCfg : Bool)
  | firmwareActivation
  | activationTimeout
  | flush (sqid : Nat) (cid : BitVec 16)
  | write (a : IoArgs) (pi : PiCheck)
  | read (a : IoArgs) (pi : PiCheck)
  | zoneAppend (a : IoArgs) (pi : PiCheck)
  | zoneClose (sqid : Nat) (cid : BitVec 16) (zone : Nat) (all : Bool)
  | zoneFinish (sqid : Nat) (cid : BitVec 16) (zone : Nat) (all : Bool)
  | zoneOpen (sqid : Nat) (cid : BitVec 16) (zone : Nat) (all : Bool)
  | zoneReset (sqid : Nat) (cid : BitVec 16) (zone : Nat) (all : Bool)
  | zoneOffline (sqid : Nat) (cid : BitVec 16) (zone : Nat)
  | setZoneDescriptorExtension (sqid : Nat) (cid : BitVec 16) (zone : Nat)
  | reportZones (sqid : Nat) (cid : BitVec 16) (zone : Nat) (opt : BitVec 8) (partialReport extended : Bool) (max : Nat)
  | spinWaitExpiry (sqid : Nat) (cid : BitVec 16)
  | frontierWaitExpiry (zone : Nat)
  | nvqRun (run : Bool)
  -- PCIe endpoint (spec/10_pcie_endpoint.md)
  | linkDown
  | perstAssert
  | perstDeassert
  | memoryReadRequest (r : MemReq)
  | memoryWriteRequest (r : MemReq)
  | configRequest (r : CfgReq)
  | messageReceived (m : Msg)
  | pmeTurnOff
  | completionReceived (tag : BitVec 10) (st : CplStatus) (last : Bool)
  | completionTimeout (tag : BitVec 10)
  | quarantineEnd (tag : BitVec 10)
  | busMasterDisable
  | busMasterEnable (inTime : Bool)
  | functionLevelReset
  | d3hotEntry
  | d0Entry
  | egressFreeze
  | freezeRelease
  | l1Entry
  | msixUnmask (v : Fin 260)
  -- Faults and the base-note record (spec/11_faults_record.md)
  | railMonitorTrip (r : Rail)
  | railMonitorClear (r : Rail)
  | macerationExpiry (n : Fin 512)
  | recoveryWindowClose (n : Fin 512)
  | faultInject (v : Word)
  | firstCaptureRearm
  | bnrFirmwareEntry (v : Word)
  | bnrDat7Read
  | bnrDump
  | dumpComplete
  -- Start-up and configuration (spec/12_start_up_configuration.md)
  | pwrGoodRise (role bootcs recov testen : Bool)
  | pwrGoodFall
  | resetNAssert
  | resetNDeassert (role bootcs recov : Bool)
  | glbWarmReset (v : Word) (role bootcs recov : Bool)
  | glbColdReset (v : Word) (role bootcs recov : Bool)
  | vddAonLow
  | vddAonReturn (role bootcs recov : Bool)
  /-- R571–R577: what the boot engine reads: whether a directory copy is valid, its active slot, both slots, both
  configuration areas and whether the customer key hash is fused; the NOR devices that it finds, as `GLB_NOR` shows them; and whether
  a read error persists (R586). -/
  | flaconLoadDone (dirA dirB : DirCopy) (slots : FlaconSlot × FlaconSlot) (areas : CfgArea × CfgArea)
      (custKey : Bool) (nor : Word) (readErr : Bool)
  /-- R435, R569: channels that fail, and the time from PWR_GOOD to core release in 10 µs. -/
  | dramTrainingDone (fail : BitVec 4) (time : BitVec 16)
  | configurationComplete
  | cfgdoneTimeout
  -- Signals, electrical (spec/14_signals_package.md, spec/15_electrical.md)
  | avsVoltageRequest (mv : Nat) (responds : Bool)
  | dieTemperatureTrip (celsius : Int)
  | bypass
  | idcode
  | samplePreload (v : Nat)
  | extest
  | clamp
  | highz
  -- Manager role and hierarchy (spec/13_manager_hierarchy.md)
  /-- R601, R604: with RUN, the zones of a worker and the log2 of its ZSZE, as PEERINFO gives them. -/
  | mgrRun (run : Bool) (nzw : Nat) (zsw : Nat)
  | mgrDiscover (seed : Byte)
  | mgrFwGo
  | pollPeriod
  | claikReplyTimeout
  | upstreamSilence
  | discoverResponseSlot
  | poll (addr : BitVec 7) (seq : BitVec 4)
  | discover (seed : Byte)
  | assign (eui : BitVec 64) (addr : BitVec 7) (pod : BitVec 18) (level : BitVec 2) (seq : BitVec 4)
  | grant (addr : BitVec 7) (seq : BitVec 4) (tokens : Byte)
  | drydown (addr : BitVec 7) (seq : BitVec 4)
  | release (addr : BitVec 7) (seq : BitVec 4)
  | spin (addr : BitVec 7) (seq : BitVec 4)
  | pscap (addr : BitVec 7) (seq : BitVec 4) (ps : BitVec 3)
  | setref (addr : BitVec 7) (seq : BitVec 4) (mode : BitVec 3) (ppr : BitVec 6) (phase : BitVec 16)
  | fwactivate (addr : BitVec 7) (seq : BitVec 4)
  | sync (epoch : BitVec 64) (period : Word)
  | fwdata (off : Word) (data : List Byte)
  | fwctlQuery (addr : BitVec 7) (seq : BitVec 4)
  | fwctlCommit (addr : BitVec 7) (seq : BitVec 4) (imageOk : Bool)
  | harvest (addr : BitVec 7) (seq : BitVec 4) (first : BitVec 16) (count : Nat)
  | peerinfo (addr : BitVec 7) (seq : BitVec 4)
  | wake (addr : BitVec 7) (seq : BitVec 4)
  | reservedType (up : Bool)
  | status (addr : BitVec 7) (m : StatusMsg)
  | hello (eui : BitVec 64) (role level : BitVec 2)
  | ack (addr : BitVec 7) (seq : BitVec 4) (value : Byte)
  | fwstat (addr : BitVec 7) (missing : List Nat) (verified : Bool)
  | record (addr : BitVec 7) (entries : List (BitVec 256))
  | harvestTimer
  | peerCommandTimeout (slot : Fin 64) (attempts : Nat)
  | workerSilent (slot : Fin 64)
  | syncOutFault
  -- Register access and events across chapters (spec/16_register_map.md and others)
  | registerWrite (m : Master) (addr : Addr) (v : Word)
  | referenceClockLost (pcie : Bool)
  | referenceClockReturn (pcie : Bool)
  | watchdogExpiry (m : Fin 4)
  | sramRead (k : SramKind) (addr : Addr) (who : BufMaster) (err : Fin 3)
  | clearingRead (addr : Addr) (quiet : Bool)
  | srvMemdatWrite (a : Fin 4) (v : Word)
  | srvMemdatRead (a : Fin 4)
  | vcmSensePairExchanged (a : Fin 4)
  | claikFrameCrcError (up : Bool)
  | addressConflict (twoHello : Bool)
  | discoverRoundEnd
  | ckminExpiry
  | dataLinkUp (speed : Fin 6) (width : Nat) (rev : Bool)
  | linkError (e : LinkErr)
  | aggregationTimeExpiry (q : Nat)
  deriving DecidableEq, Repr

end Sys2Proof
end

