-- ==== Sys2Proof/Machine/State.lean ====
section
/-!
DEFINITION. The state of the FV4812, as plain data: the register files, memory, and the queues, tables and records of the
blocks that are more than a number. Registers and single variables live in the register files (Catalogue, Hidden).
-/

namespace Sys2Proof.Machine

/-! ## Frame operations and format descriptors (spec/02, spec/03) -/

/-- A lane load (R133): the groups that it replaces, and the words of `LANn_AFE` to `LANn_PCMP` in the order of their offsets. -/
structure LaneLoad where
  groups : List Nat
  words  : List Nat
  deriving DecidableEq, Repr

/-- A defect window (R152): first bit and length. -/
structure DefWin where
  start : Nat
  len   : Nat
  deriving DecidableEq, Repr

/-- A frame operation (R161). -/
structure FrameOp where
  write    : Bool
  cls      : Fin 2
  cwmask   : BitVec 8
  gen      : BitVec 9
  track    : BitVec 21
  slot     : BitVec 8
  defs     : List DefWin
  dataAddr : BitVec 40
  rcvAddr  : BitVec 40
  offtrk   : BitVec 16
  load     : BitVec 16
  mtag     : BitVec 24
  deriving DecidableEq, Repr

/-- A zone record of a format descriptor (R143). -/
structure ZoneRec where
  firstTrack : Nat
  firstBand  : Nat
  nbands     : Nat
  zratio     : Nat
  f          : Nat
  dtp        : Nat
  dpb        : Nat
  guardTr    : Nat
  bandPitch  : Nat
  loadA      : Nat
  loadB      : Nat
  deriving DecidableEq, Repr

/-- A format descriptor (R143), without its CRC. -/
structure Descriptor where
  fmtId    : Nat
  w0a      : Nat
  w0b      : Nat
  ntrack   : Nat
  srvTicks : Nat
  sysEnd   : Nat
  sysDtp   : Nat
  nb       : Nat
  nz       : Nat
  cBand    : Nat
  skew     : Nat
  defSkip  : Nat
  defWin   : Nat
  zones    : List ZoneRec
  deriving DecidableEq, Repr

/-! ## Lanes, decoder pool, head links (spec/02) -/

/-- What a lane remembers of a frame it has started to read, until its last codeword is reported (R95–R98). -/
structure FrameRec where
  fid     : Nat
  lane    : Nat
  op      : FrameOp
  /-- What the sync search found, while a flag over the sync window may still undo it (R94): the best hit, with its distance, and whether a
  hit of the inverted pattern reached the threshold (R130). -/
  seen    : Option (Option (Int × Nat) × Bool)
  /-- Offset of the alignment used first, in bits from the prediction. -/
  base    : Int
  /-- The prediction stands as second hypothesis (R96, PROVISIONAL). -/
  prov    : Bool
  /-- The alignment at which a codeword decoded with matching position fields. -/
  hit     : Option Int
  /-- Codewords of the frame that are not reported yet. -/
  left    : Nat
  ovr     : Bool
  cancel  : Bool
  deriving DecidableEq, Repr

/-- A codeword that waits for an engine (R103). -/
structure Waiting where
  fid   : Nat
  lane  : Nat
  mtag  : Nat
  cw    : Nat
  cls   : Nat
  /-- AON time in ns at which it began to wait. -/
  since : Nat
  off   : Int
  /-- Its soft decisions, with the margins of 4 bits (R86, R87). -/
  soft  : List (BitVec 4)
  deriving DecidableEq, Repr

/-- A codeword in an engine, with its budget and the alignments tried (R98, R105). -/
structure EngineJob where
  w      : Waiting
  budget : Nat
  tried  : List Int
  /-- Result code and iterations of the failure at the alignment used first (R99). -/
  fail0  : Option (Nat × Nat)
  deriving DecidableEq, Repr

/-- A result posted to FMT (R107, R110). -/
structure CwResult where
  lane  : Nat
  mtag  : Nat
  track : Nat
  slot  : Nat
  write : Bool
  cw    : Nat
  code  : Nat
  iters : Nat
  /-- Alignment offset of a read; bit offset of the truncation of a write. -/
  off   : Int
  erase : Nat
  deriving DecidableEq, Repr

/-- A region that a defect detector of the lane flags (R89, R90), in bits of the frame: which detector, first bit, and the bit at which the
flag was released. -/
structure FlagSpan where
  ta    : Bool
  first : Nat
  last  : Option Nat
  deriving DecidableEq, Repr

/-- A lane's queues: frame operations accepted (R162: at most 32), the read in progress with its next codeword, the
encoded frames of the write buffer (two, R112), the write in progress, the write that is to start and its tick while the frame before it
still passes, and the flagged regions of the present frame. -/
structure LaneQ where
  queue : List FrameOp
  cur   : Option (Nat × Nat)
  wbuf  : List (FrameOp × List Bool)
  wcur  : Option (FrameOp × List Bool)
  wnext : Option (FrameOp × List Bool × Nat)
  flags : List FlagSpan
  deriving DecidableEq, Repr

/-- An idle lane. -/
def LaneQ.empty : LaneQ := ⟨[], none, [], none, none, []⟩

/-- A head-link packet that waits to be sent: TYPE, HEAD, ADDR, DATA (R120), with the age data of a loop output
(R376): its output number and the trigger stamp and angle epoch of the run that produced it. -/
structure HlkReq where
  typ  : Nat
  head : Nat
  addr : Nat
  data : Nat
  age  : Option (Nat × Nat × Nat)
  deriving DecidableEq, Repr

/-! ## Format sequencer and accord engine (spec/03, spec/04) -/

/-- The media operations of R159. -/
inductive MediaKind where
  | hostRead | raRead | writeRow | reconRead | rebuildRead | patrol | sysRead | sysWrite | cal
  deriving DecidableEq, Repr

/-- Where a frame of the media is in its handling. -/
inductive JobState where
  /-- Not issued to the lane. -/
  | wait
  | issued
  /-- In a recovery decode (ladder steps 2 and 7). -/
  | recovery
  /-- Awaiting the reconstruction of its position (step 5). -/
  | recon
  /-- Awaiting steps 6 and 7 on the other lost frames of its row (R167). -/
  | held
  deriving DecidableEq, Repr

/-- A frame, or the failing codewords of one, that a media operation works on (R161–R169). -/
structure FrameJob where
  mtag    : Nat
  kind    : MediaKind
  head    : Nat
  write   : Bool
  verify  : Bool
  cls     : Nat
  track   : Nat
  slot    : Nat
  offtrk  : Nat
  gen     : Nat
  mask    : Nat
  zone    : Nat
  row     : Nat
  /-- Position of the frame in its row: data 0 to k − 1, parity k to W − 1. -/
  pos     : Nat
  st      : JobState
  reissue : Nat
  /-- Codewords to be reissued once the operation has reported all its codewords (R165). -/
  redo    : Nat
  /-- The stamp at which the slot planned for the operation starts; 0 while none is (R163). -/
  due     : Nat
  retry   : Nat
  /-- The ladder step that it runs (R166). -/
  step    : Nat
  rereads : Nat
  /-- Soft decisions of the saved reads, newest first (R166). -/
  saved   : List (List (BitVec 4))
  /-- How often step 5 has been run (R167). -/
  runs    : Nat
  /-- The time of the ladder has run out (R168). -/
  late    : Bool
  /-- The frame is unavailable to the read: no read of it has been made (R219). -/
  away    : Bool
  /-- A lost frame of a row that steps 6 and 7 are run on for another (R167). -/
  helper  : Bool
  /-- The write of a relocated frame (R208). -/
  reloc   : Bool
  /-- The frame has changed since its write or verify was issued: what that reports no longer counts (R183). -/
  stale   : Bool
  /-- The operation as issued carries a lane load. -/
  loaded  : Bool
  deriving DecidableEq, Repr

/-- A media operation in flight (R159): its frames still open and the codewords it has lost. -/
structure MediaOp where
  mtag : Nat
  kind : MediaKind
  zone : Nat
  row  : Nat
  off  : Nat
  len  : Nat
  side : Nat
  /-- Submitted for a host command. -/
  host : Bool
  /-- Positions of the row that a reconstruction has taken for reading (R219, R226). -/
  used : List Nat
  /-- Frames, as (row, position), that the operation has obtained whole. -/
  got  : List (Nat × Nat)
  /-- Frames of which a codeword was obtained by ladder step 6 or 7 (R220). -/
  deep : List (Nat × Nat)
  /-- The reads of a row that the accord engine makes whole: the serial number of the rebuild pass that takes it (R225), 0 for none. -/
  pass : Option Nat
  lost : List (Nat × Nat × Nat)
  deriving DecidableEq, Repr

/-- A frame of an uncommitted row (R175–R180). -/
structure RowFrame where
  pos      : Nat
  member   : Nat
  band     : Nat
  idx      : Nat
  written  : Bool
  verified : Bool
  /-- The frame holds 8 blocks (R175, R218). -/
  full     : Bool
  /-- The head that wrote the frame (R176). -/
  head     : Nat
  deriving DecidableEq, Repr

/-- An uncommitted row: its frames, the blocks it holds, whether FMT has its WRITE_ROW, the sequence number of the
journal record that must be written first because a new grown skip placed one of its frames (R179), and whether it has held a frontier
frame (R184). -/
structure RowRec where
  zone    : Nat
  row     : Nat
  blocks  : Nat
  submitted : Bool
  frames  : List RowFrame
  skipSeq : Option Nat
  front   : Bool
  deriving DecidableEq, Repr

/-- A run-ahead frame (R173): zone, data frame index, whether it has been decoded or has failed, and the operation that
has claimed it. -/
structure RaFrame where
  zone  : Nat
  frame : Nat
  mtag  : Nat
  ready : Bool
  failed : Bool
  claim : Option Nat
  deriving DecidableEq, Repr

/-- A skip-list entry (R152). -/
structure Skip where
  surface : Nat
  track   : Nat
  slot    : Nat
  grown   : Bool
  defer   : Bool
  deriving DecidableEq, Repr

/-- A window-list entry (R152). -/
structure Window where
  surface : Nat
  track   : Nat
  slot    : Nat
  win     : DefWin
  deriving DecidableEq, Repr

/-- A zone's frontier frame (R182–R184): its row, data position and valid blocks, 0 when it is full, the blocks on media, whether the
row's parity on media matches (PARITY_STABLE, R239), and the earlier frontier frames, by row and position, that hold 8 blocks and are not
yet written and verified so. -/
structure Frontier where
  row     : Nat
  pos     : Nat
  blocks  : Nat
  onMedia : Nat
  stable  : Bool
  filled  : List (Nat × Nat)
  deriving DecidableEq, Repr

/-- The kinds of segment (R208). -/
inductive SegKind where
  | rebuild | redirect | frame
  deriving DecidableEq, Repr

/-- A frame of a segment: zone, row, position, whether it is dead (R212), whether its write has passed verify (R211), and whether it lies
before the segment's write position as last recorded (R229). -/
structure SegFrame where
  zone   : Nat
  row    : Nat
  pos    : Nat
  dead   : Bool
  placed : Bool
  kept   : Bool
  deriving DecidableEq, Repr

/-- A segment: kind, target, source member (REDIRECT), serial number of its pass (REBUILD), its spare bands in order and its frames in the
order of R208; a band that is freed leaves with its frames (R212). -/
structure Segment where
  kind   : SegKind
  target : Nat
  source : Nat
  pass   : Nat
  bands  : List Nat
  frames : List SegFrame
  deriving DecidableEq, Repr

/-- The accord engine's lists: REDIRECT records (member, zone, r0) (R215), segments, frames recorded unreadable (R221),
unrecovered extents (zone, first, count, GEN) in list order (R232), rebuilt frames collected, as (zone, row, position, target, serial number
of the pass) (R231), rows deferred to a side, as (serial number of the pass, zone, row, side) (R228), zones still to resynchronise, zone events since the checkpoint (R239), and the
waiting write data in the order of their arrival: zone and the block after them. -/
structure Acd where
  redirect : List (Nat × Nat × Nat)
  segs     : List Segment
  bad      : List (Nat × Nat × Nat)
  unrec    : List (Nat × Nat × Nat × Nat)
  rebuilt  : List (Nat × Nat × Nat × Nat × Nat)
  deferred : List (Nat × Nat × Nat × Nat)
  resync   : List Nat
  held     : List Nat
  waiting  : List (Nat × Nat)
  /-- Zone served by each side, with the rows committed in this turn. -/
  turn     : NMap (Nat × Nat)
  /-- Grown skips that a journal record has not carried yet. -/
  skips    : List Skip
  events   : List (Nat × Nat)
  /-- Entries of the parity logs that belong to incomplete rows (R609): worker, its log zone 0 or 1, shelf zone, row. -/
  plogs    : List (Nat × Nat × Nat × Nat)
  deriving DecidableEq, Repr

/-- A zone's entry of the zone state table (R452–R456). -/
structure Zone where
  /-- 0 Empty, 1 Implicitly Opened, 2 Explicitly Opened, 3 Closed, 4 Full, 5 Read Only, 6 Offline. -/
  state    : Nat
  gen      : Nat
  /-- Write pointer: the block after the last committed one. -/
  wp       : Nat
  /-- Durable write pointer (R241). -/
  durable  : Nat
  /-- Accept pointer (R455). -/
  accept   : Nat
  /-- End of the data that lie in DRAM without a gap from the write pointer on. -/
  ready    : Nat
  cap      : Nat
  /-- Finished by the controller (R157). -/
  finished : Bool
  opened   : Nat
  deriving DecidableEq, Repr

/-- A zone nothing has been written to. -/
def Zone.fresh : Zone := ⟨0, 0, 0, 0, 0, 0, 0, false, 0⟩

/-- What a journal record or a checkpoint restores (R239, R244). A record is cumulative since its checkpoint, so the two together are this
whole image: the zones, the accord engine's lists, the frontier frames, the pass records, the placement table's CRC. A copy whose CRC-32 does
not match is one that the restore command names as unreadable (log entry 11). -/
structure AcdImage where
  magic  : Nat
  format : Nat
  /-- Sequence number of the record, in a checkpoint of the newest one begun before it. -/
  seq    : Nat
  stamp  : Nat
  /-- Sequence number of the checkpoint, in a record of the one that it follows. -/
  ckpt   : Nat
  /-- Length in frames, 1 to 64. -/
  len    : Nat
  clean  : Bool
  lost   : Nat
  degr0  : Nat
  degr1  : Nat
  zones  : NMap Zone
  acd    : Acd
  fronts : NMap Frontier
  passes : RegFile
  /-- The pass records that newer ones had replaced when the image was taken (R224). -/
  olds   : List Nat
  crc    : Nat
  /-- The stream positions that a shelf has abandoned (R606). -/
  slips  : List (Nat × Nat × Nat)
  deriving DecidableEq, Repr

/-- The accord engine's state on media (R239–R246): by member, the records in its journal area, newest first; by 2 · member + slot, the
checkpoints; and the record and the checkpoint that are being written. It outlives every reset. -/
structure AcdMedia where
  journal    : NMap (List AcdImage)
  saves      : NMap AcdImage
  recording  : Option AcdImage
  saving     : Option AcdImage
  deriving DecidableEq, Repr

/-! ## Faults and the base-note record (spec/11) -/

/-- A base-note entry (R552); its CRC is computed when it is read. -/
structure Entry where
  stamp  : Nat
  time   : Nat
  seq    : Nat
  source : Nat
  typ    : Nat
  sev    : Nat
  angv   : Bool
  inst   : Nat
  rcnt   : Nat
  data0  : Nat
  data1  : Nat
  deriving DecidableEq, Repr

/-- An asserted instance of a source, and whether its assertion was entered in the record (R554). -/
structure LiveInst where
  inst    : Nat
  entered : Bool
  deriving DecidableEq, Repr

/-- A dump to NOR under way or queued (R556–R558): cause code, slot, newest sequence number, entries. -/
structure Dump where
  cause : Nat
  slot  : Nat
  seq   : Nat
  count : Nat
  deriving DecidableEq, Repr

/-! ## Loop engine (spec/07) -/

/-- An entry of an image's context table (R390). -/
structure CtxEntry where
  ctx   : Nat
  prio  : Nat
  src   : Nat
  entry : Nat
  x30   : Nat
  b     : List Nat
  deriving DecidableEq, Repr

/-- An image as its bytes give it (R390); `signed` where its SIG field is not all zeros. -/
structure Image where
  magic    : Nat
  region   : Nat
  format   : Nat
  version  : Nat
  dlayout  : Nat
  base     : Nat
  nwords   : Nat
  outgrant : Nat
  cggrant  : List Nat
  signed   : Bool
  table    : List CtxEntry
  body     : List Nat
  deriving DecidableEq, Repr

/-- What a region of a control-store bank holds beside its words (R390): context table, output grants, and group grants by
group. -/
structure LpeImage where
  table : List CtxEntry
  outs  : List Nat
  cgs   : List Nat
  deriving DecidableEq, Repr

/-- A region never loaded. -/
def LpeImage.empty : LpeImage := ⟨[], [], []⟩

/-! ## NVMe queues (spec/09) -/

/-- The status of a completion, by its name. -/
inductive NvStatus where
  | success | invalidOpcode | invalidField | dataTransferError | abortedSqDeletion | invalidNamespace | commandSequence
  | lbaOutOfRange | namespaceNotReady | cqInvalid | invalidQueueId | invalidQueueSize | abortLimit | aerLimit
  | invalidFirmwareSlot | invalidFirmwareImage | invalidVector | invalidLogPage | invalidQueueDeletion
  | activationNeedsReset | activationMaxTime | activationNeedsControllerReset | invalidPi
  | zoneBoundary | zoneFull | zoneOffline | zoneInvalidWrite | tooManyActive | tooManyOpen | invalidZoneTransition
  | unrecoveredRead | guardCheck | appTagCheck | refTagCheck
  deriving DecidableEq, Repr

/-- Asynchronous events (R444, R484). -/
inductive NvEvent where
  | invalidDoorbellRegister | invalidDoorbellValue | smart (warning : Nat) | activationStarting | zoneChanged
  | vendorFault (source : Nat)
  deriving DecidableEq, Repr

/-- A submission queue: size, head and tail. -/
structure Sq where
  size : Nat
  head : Nat
  tail : Nat
  deriving DecidableEq, Repr

/-- A completion queue: size, head (host) and tail (controller), vector, IEN, entries not yet signalled. -/
structure Cq where
  size : Nat
  head : Nat
  tail : Nat
  iv   : Nat
  ien  : Bool
  agg  : Nat
  deriving DecidableEq, Repr

/-- Where a command in flight stands. -/
inductive CmdPhase where
  /-- Fetched and checked (R446). -/
  | fetched
  /-- Held for the media (R475). -/
  | held
  /-- Its data reads wait for a tag or for permission to be issued. -/
  | waitData
  /-- Its data reads are issued. -/
  | data
  /-- A write whose data are in DRAM; on its way through the rows. -/
  | rows
  /-- A read with media operations in flight. -/
  | media
  /-- Waits for the journal record of this sequence number. -/
  | journal (seq : Nat)
  /-- A zone action that waits for the zone's rows. -/
  | zone
  /-- A Delete I/O Submission Queue past its drain line. -/
  | delete
  /-- A Power Management feature that waits for its state. -/
  | power
  /-- An activation. -/
  | activate
  /-- A Media Policy that waits for its groups. -/
  | policy
  /-- An outstanding Asynchronous Event Request. -/
  | event
  /-- Its completion was discarded by a freeze (R516). -/
  | dropped
  deriving DecidableEq, Repr

/-- A command in flight (R443). -/
structure NvCmd where
  sqid  : Nat
  cid   : Nat
  op    : Nat
  order : Nat
  phase : CmdPhase
  io    : IoArgs
  pi    : PiCheck
  zone  : Nat
  act   : Nat
  all   : Bool
  /-- Tags of its media operations. -/
  mtags : List Nat
  /-- It has lost data to a freeze short of its commit point (R516). -/
  lost  : Bool
  /-- Read requests for its data that are still to be issued (R502). -/
  reqs  : Nat
  deriving DecidableEq, Repr

/-- An Error Information log entry. -/
structure NvError where
  count : Nat
  sqid  : Nat
  cid   : Nat
  st    : NvStatus
  lba   : Nat
  deriving DecidableEq, Repr

/-! ## Manager role (spec/13) -/

/-- A row of a shelf zone (R604, R608): zone, row, blocks it holds, and the positions whose units have not completed. -/
structure ShelfRow where
  zone   : Nat
  row    : Nat
  blocks : Nat
  left   : List Nat
  deriving DecidableEq, Repr

/-- What a peer command does. -/
inductive PeerKind where
  /-- An admin command of the bring-up of R601, by its step. -/
  | setup (step : Nat)
  /-- A unit of a row (R604). -/
  | unit (zone row pos : Nat)
  /-- A parity-log entry of a partial row (R609). -/
  | plog (zone row i : Nat)
  /-- A read of a unit for the media operation of a tag (R606, R610). -/
  | fetch (mtag zone row pos : Nat)
  /-- A reset of a worker zone (R605). -/
  | zreset (zone i : Nat)
  /-- A reset of a reserved zone: parity log 0 or 1 (R609), journal 2 or 3, checkpoint 4 or 5 (R611). -/
  | logReset (i : Nat)
  /-- An append of a journal record (R611). -/
  | journal (seq : Nat)
  /-- A write of a checkpoint (R611). -/
  | ckpt (seq : Nat)
  /-- A piece of a flacon and its commit (R620). -/
  | firmware (commit : Bool)
  /-- A read of the worker's log page 0xC2 (R621). -/
  | log
  deriving DecidableEq, Repr

/-- A peer command: worker slot, queue, command identifier, worker zone, block and blocks it names, attempts, and whether it has been issued to
the queue, which takes up to 32 (R602). -/
structure PeerCmd where
  slot  : Nat
  qid   : Nat
  cid   : Nat
  kind  : PeerKind
  wzone : Nat
  off   : Nat
  len   : Nat
  tries : Nat
  sent  : Bool
  deriving DecidableEq, Repr

/-- A request of the Claik master that awaits its reply (R595): address, type, sequence number, payload, repeats. -/
structure ClaikReq where
  addr    : Nat
  typ     : Nat
  seq     : Nat
  payload : List (BitVec 8)
  tries   : Nat
  deriving DecidableEq, Repr

/-! ## Buffer manager (spec/08) -/

/-- A merge entry (R417): its line number, the bytes written (position and value), and AON time in ns of its allocation. -/
structure MergeEntry where
  line  : Nat
  bytes : List (Nat × BitVec 8)
  since : Nat
  deriving DecidableEq, Repr

/-- An error-log entry (R430), with its place in the order of allocation. -/
structure LogEntry where
  seq      : Nat
  block    : Nat
  space    : Nat
  syndrome : Nat
  count    : Nat
  ue       : Bool
  poisoned : Bool
  master   : Nat
  time     : Nat
  deriving DecidableEq, Repr

/-- A retirement copy under way (R432): index, page, and the writes it holds. -/
structure Retire where
  index : Nat
  page  : Nat
  held  : List (Nat × List (BitVec 8))
  deriving DecidableEq, Repr

/-! ## Adaptive tables and NOR (R559, R579, R580) -/

/-- The kinds of the adaptive tables (R579). -/
inductive TableKind where
  | wiring | angle | spindle | servo | lane | format | defect | placement | retire
  deriving DecidableEq, Repr

/-- What a kind holds: register fields that differ from their reset values, lane memory, the skip and window lists, and bytes of DRAM by
internal address. -/
structure TableData where
  regs  : RegFile
  lmem  : NMap Nat
  skips : List Skip
  wins  : List Window
  bytes : Memory
  deriving DecidableEq, Repr

/-- A copy of a kind, with its generation and CRC-32 (R580). -/
structure TableCopy where
  gen  : Nat
  crc  : Nat
  data : TableData
  deriving DecidableEq, Repr

/-- A dump in a slot of the black-box area (R557): cause code and newest sequence number of its header, its entries, newest first, and whether its
status word is programmed. -/
structure BlackBox where
  cause    : Nat
  seq      : Nat
  entries  : List Entry
  complete : Bool
  deriving DecidableEq, Repr

/-- What NOR and the system areas hold: the adaptive tables and the dumps. `stage` is 1 when the NOR copy has been applied since the reset, and 2 when the media copy has been read. -/
structure Tables where
  /-- Copies in NOR, by area · 16 + kind. -/
  nor   : NMap TableCopy
  /-- Copies in the system areas, by (2 · member + slot) · 16 + kind. -/
  media : NMap TableCopy
  /-- AON time in ns of the last NOR write of a kind. -/
  norAt : NMap Nat
  stage : Nat
  /-- Dumps by slot of the black-box area (R556). -/
  boxes : NMap BlackBox
  deriving DecidableEq, Repr

/-- A firmware operation on NOR that a dump has preempted and that firmware repeats after it (R559). -/
inductive NorWork where
  /-- A Firmware Commit: command identifier, action, slot, whether the image verifies, whether it is a configuration area. -/
  | commit (cid : BitVec 16) (action slot : Nat) (imageOk isCfg : Bool)
  /-- The commit of a flacon that the manager above has sent: address and sequence number of its frame. -/
  | fwctl (addr seq : Nat)
  deriving DecidableEq, Repr

/-! ## What leaves the block -/

/-- What a command sends out of the block or signals to firmware. -/
inductive Out where
  /-- An interrupt to the management cores: a source (R539) or a comparator (R47). -/
  | coreIrq (source : Option Nat) (comparator : Option Nat)
  /-- A pulse on the GLB event line (R47). -/
  | eventLine
  /-- A head-link packet (R120). -/
  | headLink (link : Nat) (packet : BitVec 48)
  /-- The drydown event to the management cores (R347). -/
  | drydownEvent
  /-- Bits on the write-data pair of a lane (R81, R113, R118, R149): the bit position of frame bit 0 in 2^-27 bit, the level of the first bit,
  the transitions in 1/32 bit from frame bit 0 on, and the bits written. -/
  | writeData (lane : Nat) (at0 : Int) (level : Bool) (transitions : List Int) (bits : Nat)
  /-- The interrupt of a commit to output `n` (R376). -/
  | outputIrq (n : Nat)
  /-- A completion entry: queue, command, status, DW0 and DW1. -/
  | completion (sqid cid : Nat) (st : NvStatus) (dw : List Nat)
  /-- An Asynchronous Event Request completed by an event. -/
  | event (cid : Nat) (e : NvEvent)
  /-- Data transferred to host memory for a command. -/
  | hostData (sqid cid : Nat) (bytes : List (BitVec 8))
  /-- Blocks transferred to host memory: first LBA and number (their content is that of the media, log entry 11). -/
  | hostBlocks (sqid cid slba nlb : Nat) (pi : Bool)
  /-- An MSI-X message of a vector. -/
  | msix (v : Nat)
  /-- Assert_INTx or Deassert_INTx. -/
  | intx (on : Bool)
  /-- An error message: 0 correctable, 1 non-fatal, 2 fatal. -/
  | errMsg (kind : Nat)
  /-- A PM_PME message. -/
  | pmPme
  /-- PME_TO_Ack. -/
  | pmeToAck
  /-- An LTR message with the latency in µs (R528). -/
  | ltr (us : Nat)
  /-- A memory read request of the endpoint with its tag. -/
  | memRead (tag : Nat)
  /-- A completion of a received request: 0 success, 1 UR, 2 CRS, with data. -/
  | cplOut (st : Nat) (data : List (BitVec 8))
  /-- A trap of management core `m` with an address (R421). -/
  | coreTrap (m addr : Nat)
  /-- A media operation has ended; the lost codewords as (row, position, codeword) (R160). -/
  | mediaDone (mtag : Nat) (lost : List (Nat × Nat × Nat))
  /-- A command written to a worker's queue (R601, R602). -/
  | peer (p : PeerCmd)
  /-- A Claik frame (R594): on the upstream port or the downstream one, address, type, sequence number, payload, and its bytes. -/
  | claik (up : Bool) (addr typ seq : Nat) (payload frame : List (BitVec 8))
  /-- A level driven on SYNC_OUT changes its period (R615): half-period in ns, 0 for held low. -/
  | syncOut (half : Nat)
  /-- Data shifted out of TDO by an instruction of the test port (R635). -/
  | tdo (v : Nat)
  deriving DecidableEq, Repr

/-- A completion entry that waits for its queue, with the data transfers that precede it (R501). -/
structure Cpl where
  sqid : Nat
  cid  : Nat
  st   : NvStatus
  dw   : List Nat
  data : List Out
  deriving DecidableEq, Repr

/-! ## The state -/

/-- The state of the FV4812. -/
structure State where
  /-- Active copies of every register field, and the variables of Hidden. -/
  regs    : RegFile
  /-- Shadow copies of the shadowed fields (R58). -/
  shadow  : RegFile
  /-- Captured higher words of multi-word registers, by byte offset in register space (R658). -/
  cap     : NMap Nat
  /-- SRAMs and buffer DRAM, by internal address (R655). -/
  mem     : Memory
  /-- The value the last reading command returned. -/
  rdata   : Nat
  /-- What has left the block, oldest first. -/
  out     : List Out
  /-- Counter of the free values used (log entry 2). -/
  fresh   : Nat
  /-- Always-on time in ns since cold reset (R552). -/
  aonNs   : Nat
  /-- Asserted instances of each source (R534, R536, R666). -/
  live    : NMap (List LiveInst)
  /-- The base-note ring by index (R551). -/
  ring    : NMap Entry
  /-- Dumps: the one under way first, then one queued (R558). -/
  dumps   : List Dump
  /-- Lane memory by lane · 2^20 + space · 2^16 + word (R135). -/
  lmem    : NMap Nat
  lanes   : NMap LaneQ
  frames  : List FrameRec
  waiting : List Waiting
  engines : NMap EngineJob
  results : List CwResult
  /-- Iterations of the last 65,536 in-line codewords, newest first (R136). -/
  iters   : List Nat
  /-- By head link, the packets that wait; by 4 + link, the one in transmission (R121, R122). -/
  hlkTx   : NMap (List HlkReq)
  ops     : List MediaOp
  jobs    : List FrameJob
  rows    : List RowRec
  ra      : List RaFrame
  /-- By zone, the data frame after the last one that a host read has named (R171). -/
  raRow   : NMap Nat
  /-- Media operations that have ended and that their submitter has not taken note of: tag and lost codewords. -/
  ended   : List (Nat × List (Nat × Nat × Nat))
  fronts  : NMap Frontier
  descs   : NMap Descriptor
  skips   : List Skip
  wins    : List Window
  acd     : Acd
  zones   : NMap Zone
  media   : AcdMedia
  /-- Mailbox words by context · 64 + page · 32 + word (R372). -/
  mbox    : NMap Nat
  /-- Slots of the word that context c's core has fetched and not yet executed (R364, R368). -/
  word    : NMap (List Instr)
  /-- Control-store words by bank · 2^16 + word (R363). -/
  cs      : NMap Nat
  /-- Loop-engine words found uncorrectable (R394): control-store words by bank · 2^16 + word, and 64-bit words of data memory from
  131,072 on. -/
  csBad   : List Nat
  /-- Context tables and grants by 2 · bank + region. -/
  images  : NMap LpeImage
  /-- Output ports by output · 16 + word (R376). -/
  ports   : NMap Nat
  /-- Candidate slots by group · 8 + slot (R384). -/
  cands   : NMap Nat
  /-- Stage buffers by context: engine address and value, oldest first (R377). -/
  stage   : NMap (List (Nat × Nat))
  /-- Sillage entries by unit · 2^14 + index (R396). -/
  sil     : NMap Nat
  sqs     : NMap Sq
  cqs     : NMap Cq
  cmds    : List NvCmd
  cpls    : List Cpl
  /-- Asynchronous events not yet reported, oldest first. -/
  events  : List NvEvent
  /-- Event types reported and not cleared yet (0 error, 1 SMART, 2 notice, 7 vendor). -/
  evMask  : List Nat
  errs    : List NvError
  /-- The Changed Zone List (R462); more than 511 is an overflow. -/
  changed : List Nat
  /-- Tags in use, by tag, and tags in quarantine (R503), with whether a late completion is discarded silently (R513). -/
  tags    : NMap TagUse
  quar    : List (Nat × Bool)
  /-- Zones whose committed rows from before a controller reset are unfinished (R471). -/
  linger  : List Nat
  /-- Shelf rows in the manager role (R604, R608). -/
  shelf   : List ShelfRow
  /-- Peer commands in flight to workers (R602). -/
  peers   : List PeerCmd
  /-- Slips (R606): zone, member and stream position. -/
  slips   : List (Nat × Nat × Nat)
  /-- Ring of harvested entries (R621): pod member number, AON time in µs, entry. -/
  harvest : List (Nat × Nat × BitVec 256)
  /-- Chunk offsets of the flacon distributed by FWDATA that have arrived (R596, R620). -/
  fwMiss  : List Nat
  /-- Requests of the Claik master; the first has been sent (R595). -/
  dnQ     : List ClaikReq
  /-- The last reply on the upstream port (R595). -/
  upReply : Option Out
  /-- EUI-64 values of the HELLO frames of the present discovery round (R599). -/
  hellos  : List Nat
  merge   : List MergeEntry
  /-- Pages filled out of order (R414). -/
  prefill : List Nat
  /-- By data-space line: stored check XOR correct check, where it is not zero; the pattern of R423 marks a poisoned line. -/
  chkx    : NMap Nat
  /-- Writes that wait for the background fill (R414). -/
  fillQ   : List (Nat × List (BitVec 8))
  elog    : NMap LogEntry
  retire  : Option Retire
  /-- The stored adaptive tables, which stay through every reset (R579). -/
  tables  : Tables
  /-- NOR operations of firmware that wait for the end of a dump (R559). -/
  norWait : List NorWork
  /-- Commands that wait, first in first out. -/
  pending : List Instr
  deriving DecidableEq, Repr

/-! ## Reset -/

/-- Every field at its reset value, nothing listed anywhere: the state before the entry that a cold reset makes. -/
def State.blank : State :=
  { regs := [], shadow := [], cap := [], mem := [], rdata := 0, out := [], fresh := 0, aonNs := 0, live := [], ring := [], dumps := []
    lmem := [], lanes := [], frames := [], waiting := [], engines := [], results := [], iters := [], hlkTx := [], ops := [], jobs := []
    rows := [], ra := [], raRow := [], ended := [], fronts := [], descs := [], skips := [], wins := []
    acd := ⟨[], [], [], [], [], [], [], [], [], [], [], [], []⟩
    zones := [], media := ⟨[], [], none, none⟩, mbox := [], word := [], cs := [], csBad := [], images := [], ports := []
    cands := [], stage := [], sil := [], sqs := [], cqs := [], cmds := [], cpls := [], events := [], evMask := [], errs := []
    changed := [], tags := [], quar := [], linger := [], shelf := [], peers := [], slips := [], harvest := [], fwMiss := [], dnQ := [], upReply := none, hellos := []
    merge := [], prefill := [], chkx := [], fillQ := [], elog := [], retire := none, tables := ⟨[], [], [], 0, []⟩, norWait := [], pending := [] }

/-- The state right after a cold reset (R565, R568 step 1): PWR_GOOD has risen with every strap deasserted, and the base-note record
holds marker 1 (R554). -/
def State.reset : State :=
  { State.blank with
    regs := ((((RegFile.set [] GLB_BOOT_PHASE 0 1).set GLB_BOOT_COLD 0 1).set GLB_RSTCAUSE 0 1).set BNR_STS_HEAD 0 1).set BNR_STS_SEQ 0 1
    ring := [(0, ⟨0, 0, 0, 0, 7, 0, false, 255, 0, 1, 0⟩)] }

/-! ## How a step can stop -/

/-- The reasons for a fault. There is none: an access that the spec lets fail is answered by the decode-error source, by a status or
by an error message, and the block goes on (R656, R510, R446). -/
inductive Fault where
  deriving DecidableEq, Repr

/-- The reasons for a refusal. -/
inductive Refusal where
  /-- The command has no meaning in this model. Raised by a refused arm of `exec` only; safe. -/
  | notModelled (mnemonic : String)
  deriving DecidableEq, Repr

end Sys2Proof.Machine
end

