-- ==== Sys2Proof/Machine/Ops.lean ====
section
/-!
DEFINITION. The named operations over the state: register fields and words, the angle stamp, memory in its byte order,
what leaves the block, and free values.
-/

namespace Sys2Proof.Machine

/-! ## Register fields -/

/-- The active copy of instance `i` of field `f`. -/
def State.get (s : State) (f : Field) (i : Nat) : Nat := s.regs.get f i

/-- Set the active copy of instance `i` of field `f` to the low bits of `v`. -/
def State.set (s : State) (f : Field) (i v : Nat) : State := { s with regs := s.regs.set f i v }

/-- The field is not zero. -/
def State.on (s : State) (f : Field) (i : Nat) : Bool := s.get f i != 0

/-- The field reads `v`. -/
def State.is (s : State) (f : Field) (i v : Nat) : Bool := s.get f i == v

/-- The field as a two's-complement number. -/
def State.getI (s : State) (f : Field) (i : Nat) : Int := sgn f.width (s.get f i)

/-- Set the field to the low bits of a two's-complement number. -/
def State.setI (s : State) (f : Field) (i : Nat) (x : Int) : State := s.set f i (uns f.width x)

/-- Add `n` to the field, modulo its width. -/
def State.add (s : State) (f : Field) (i n : Nat) : State := s.set f i (s.get f i + n)

/-- Increment a counter, modulo its width. -/
def State.bump (s : State) (f : Field) (i : Nat) : State := s.add f i 1

/-- Add `n` to the field, holding it at its greatest value. -/
def State.addSat (s : State) (f : Field) (i n : Nat) : State := s.set f i (Nat.min (s.get f i + n) (2 ^ f.width - 1))

/-- Decrement the field, stopping at zero. -/
def State.dec (s : State) (f : Field) (i : Nat) : State := s.set f i (s.get f i - 1)

/-- Bit `b` of the field. -/
def State.bit (s : State) (f : Field) (i b : Nat) : Bool := (s.get f i).testBit b

/-- Set bit `b` of the field to `v`. -/
def State.setBit (s : State) (f : Field) (i b : Nat) (v : Bool) : State := s.set f i (withBit (s.get f i) b v)

/-- The field returned to its reset value. -/
def State.unset (s : State) (f : Field) (i : Nat) : State := s.set f i (f.rst i)

/-- The shadow copy of instance `i` of field `f` (R58). -/
def State.getSh (s : State) (f : Field) (i : Nat) : Nat := s.shadow.get f i

/-- Set the shadow copy. -/
def State.setSh (s : State) (f : Field) (i v : Nat) : State := { s with shadow := s.shadow.set f i v }

/-- The shadow copy as a two's-complement number. -/
def State.getShI (s : State) (f : Field) (i : Nat) : Int := sgn f.width (s.getSh f i)

/-- Set a list of fields, one instance. -/
def State.setMany (s : State) (i : Nat) : List (Field × Nat) → State
  | [] => s
  | (f, v) :: t => (s.set f i v).setMany i t

/-! ## Register words -/

/-- What a field shows in its register: request bits and write-only fields read zero (R17). -/
def State.shown (s : State) (f : Field) (i : Nat) : Nat :=
  match f.acc with
  | .strobe | .wo => 0
  | _ => s.get f i

/-- Word `w` of instance `i` of a register, active copies; reserved bits read zero (R18). -/
def State.regWord (s : State) (r : RegDesc) (i w : Nat) : Nat :=
  r.fields.foldl (fun a f => a + s.shown f i * 2 ^ f.lo) 0 / 2 ^ (32 * w) % 2 ^ 32

/-- Word `w` of the shadow copy of a register; a field that is not shadowed reads zero there. -/
def State.shadowWord (s : State) (r : RegDesc) (i w : Nat) : Nat :=
  r.fields.foldl (fun a f => a + (if f.acc.shadowed then s.getSh f i * 2 ^ f.lo else 0)) 0 / 2 ^ (32 * w) % 2 ^ 32

/-! ## Ratios and sines -/

/-- The whole number that stands for `n`/`d`: that quotient, or one of the two next to it (log entry 28). -/
def ratio (n : Int) (d : Nat) : Int := n / d + if n % d = 0 then 0 else (Config.roundUp n d).toNat

/-- The Taylor terms of the sine: `x` is the angle and `t` the present term in units of 2^-60, `n` its order. -/
def sineTerms (x : Int) : Nat → Nat → Int → Int
  | 0, _, _ => 0
  | k + 1, n, t => t + sineTerms x k (n + 2) (-(t * x / 2 ^ 60 * x / 2 ^ 60 / ((n + 1) * (n + 2))))

/-- The sine of `n`/`d` of a turn, at most a quarter, in units of 2^-60 (π · 2^60 = 3,622,009,729,038,561,421); that of a quarter turn
and of a twelfth are exact. -/
def quadrantSine (n d : Nat) : Int :=
  let x : Int := n * 7244019458077122842 / d
  if 4 * n = d then 2 ^ 60 else if 12 * n = d then 2 ^ 59 else sineTerms x 14 1 x

/-- The sine of `n`/`d` of a turn, in units of 2^-60. -/
def sineTurn (n d : Nat) : Int :=
  let m := n % d
  if 4 * m ≤ d then quadrantSine m d
  else if 2 * m ≤ d then quadrantSine (d - 2 * m) (2 * d)
  else if 4 * m ≤ 3 * d then -quadrantSine (2 * m - d) (2 * d)
  else -quadrantSine (d - m) d

/-- The cosine of `n`/`d` of a turn, in units of 2^-60. -/
def cosineTurn (n d : Nat) : Int := sineTurn (4 * n + d) (4 * d)

/-- The greatest number of at most `top`, below 2^17, that satisfies a property which holds up to some number. -/
def greatestWith (top : Nat) (ok : Nat → Bool) : Nat :=
  (List.range 17).reverse.foldl (fun r b => if r + 2 ^ b ≤ top && ok (r + 2 ^ b) then r + 2 ^ b else r) 0

/-! ## Angle stamp and time -/

/-- The angle stamp: revolution count above a 22-bit tick (R41). -/
def State.stamp (s : State) : Nat := s.get ANG_STAMP_LO 0 + s.get ANG_STAMP_HI 0 * 2 ^ 32

/-- Set the angle stamp, modulo 2^64. -/
def State.setStamp (s : State) (v : Nat) : State :=
  (s.set ANG_STAMP_LO 0 v).set ANG_STAMP_HI 0 (v / 2 ^ 32)

/-- Ticks per revolution (R15). -/
def revTicks : Nat := 4194304

/-- The tick of the stamp. -/
def State.tick (s : State) : Nat := s.stamp % revTicks

/-- AON time in µs, 48 bits (R552). -/
def State.timeUs (s : State) : Nat := s.aonNs / 1000 % 2 ^ 48

/-! ## Outputs and free values -/

/-- Send something out of the block. -/
def State.emit (s : State) (o : Out) : State := { s with out := s.out ++ [o] }

/-- Return a value to the reader. -/
def State.ret (s : State) (v : Nat) : State := { s with rdata := v }

/-- A free value (log entry 2). -/
def State.free (s : State) : Nat := Config.freeValue s.fresh

/-- The state after a free value was used. -/
def State.used (s : State) : State := { s with fresh := s.fresh + 1 }

/-! ## Memory words, little-endian -/

/-- The `n` low bytes of `v`, lowest first. -/
def bytesOf : Nat → Nat → List (BitVec 8)
  | 0, _ => []
  | n + 1, v => BitVec.ofNat 8 v :: bytesOf n (v / 256)

/-- The number that a list of bytes spells, lowest first. -/
def ofBytes : List (BitVec 8) → Nat
  | [] => 0
  | b :: t => b.toNat + 256 * ofBytes t

/-- Read an `n`-byte word. -/
def Memory.word (m : Memory) (a n : Nat) : Nat := ofBytes (m.readList a n)

/-- Write an `n`-byte word. -/
def Memory.setWord (m : Memory) (a n v : Nat) : Memory := m.writeList a (bytesOf n v)

/-! ## CRC -/

/-- One bit of the reflected CRC-32 of IEEE 802.3. -/
def crc32Bit (c : Nat) : Nat := if c % 2 = 1 then c / 2 ^^^ 0xEDB88320 else c / 2

/-- One byte of the CRC-32 register. -/
def crc32Byte (c : Nat) (b : BitVec 8) : Nat := Nat.repeat crc32Bit 8 (c ^^^ b.toNat)

/-- CRC-32 of IEEE 802.3 over bytes, first byte first (R552). -/
def crc32 (l : List (BitVec 8)) : Nat := l.foldl crc32Byte 0xFFFFFFFF ^^^ 0xFFFFFFFF

/-- One bit of the Claik bus's CRC-16, polynomial 0x1021, most significant bit first (R594). -/
def crc16Bit (c : Nat) : Nat := if 0x8000 ≤ c then (2 * c ^^^ 0x1021) % 65536 else 2 * c

/-- The Claik bus's CRC-16 over bytes (R594). -/
def crc16 (l : List (BitVec 8)) : Nat := l.foldl (fun c b => Nat.repeat crc16Bit 8 (c ^^^ b.toNat * 256)) 0xFFFF

/-- The bytes of a Claik frame (R594). -/
def claikFrame (addr typ seq : Nat) (payload : List (BitVec 8)) : List (BitVec 8) :=
  let body := bytesOf 1 addr ++ bytesOf 1 (typ * 16 + seq % 16) ++ bytesOf 1 payload.length ++ payload
  [0x55, 0x55, 0x7E] ++ body ++ (bytesOf 2 (crc16 body)).reverse

/-- A Claik frame that is sent. -/
def claikOut (up : Bool) (addr typ seq : Nat) (payload : List (BitVec 8)) : Out :=
  .claik up addr typ seq payload (claikFrame addr typ seq payload)

/-- One bit of the head link's CRC-8, polynomial x^8 + x^2 + x + 1, most significant bit first (R120). -/
def crc8Bit (c : Nat) (b : Bool) : Nat :=
  let t := 2 * c % 256
  if (128 ≤ c) != b then t ^^^ 0x07 else t

/-- The head link's CRC-8 over bits `n + 7 … 8` of a packet (R120). -/
def crc8 (p : BitVec 48) : Nat → Nat → Nat
  | 0, c => c
  | n + 1, c => crc8 p n (crc8Bit c (p.getLsbD (n + 8)))

/-- The CRC field that a packet must carry. -/
def headLinkCrc (p : BitVec 48) : Nat := crc8 p 40 0xFF

/-! ## Lists -/

/-- Apply `f` for every number below `n`, in ascending order. -/
def forBelow (n : Nat) (f : Nat → State → State) (s : State) : State := (List.range n).foldl (fun t i => f i t) s

/-- Apply `f` for every element of a list in order. -/
def forAll {α : Type} (l : List α) (f : α → State → State) (s : State) : State := l.foldl (fun t x => f x t) s

/-- Insert into a list at the end unless `n` elements are there already. -/
def pushMax {α : Type} (n : Nat) (l : List α) (x : α) : List α := if l.length < n then l ++ [x] else l

end Sys2Proof.Machine
end

