-- ==== Sys2Proof/Machine/Gf.lean ====
section
/-!
DEFINITION. Arithmetic over GF(2^8) with polynomial 0x11D, used by the accord code (R190) and by DRAM ECC (R404).
-/

namespace Sys2Proof.Machine

/-- Multiply by x. -/
def gfX (a : Nat) : Nat := if 128 ≤ a then (2 * a) % 256 ^^^ 0x1D else 2 * a

/-- Product over the low `n` bits of `b`. -/
def gfMulN : Nat → Nat → Nat → Nat
  | 0, _, _ => 0
  | n + 1, a, b => (if b % 2 = 1 then a else 0) ^^^ gfMulN n (gfX a) (b / 2)

/-- The product of two field elements. -/
def gfMul (a b : Nat) : Nat := gfMulN 8 a b

/-- a to the power n. -/
def gfPow (a : Nat) : Nat → Nat
  | 0 => 1
  | n + 1 => gfMul a (gfPow a n)

/-- The inverse of a field element that is not zero: its 254th power. -/
def gfInv (a : Nat) : Nat :=
  let a2 := gfMul a a
  let a4 := gfMul a2 a2
  let a8 := gfMul a4 a4
  let a16 := gfMul a8 a8
  let a32 := gfMul a16 a16
  let a64 := gfMul a32 a32
  let a128 := gfMul a64 a64
  gfMul a128 (gfMul a64 (gfMul a32 (gfMul a16 (gfMul a8 (gfMul a4 a2)))))

/-- The generator coefficient of parity row `i` and data column `j` (R191). -/
def accordCoef (i j : Nat) : Nat := gfMul (j + 4) (gfInv (i ^^^ (j + 4)))

/-- Parity symbol `i` of a list of data symbols, the first being D_0 (R190). -/
def paritySym (i : Nat) (d : List Nat) : Nat :=
  (List.range d.length).foldl (fun a j => a ^^^ gfMul (accordCoef i j) (d.getD j 0)) 0

/-- One step of the NVMe 64-bit guard, reflected polynomial 0x9A6C9329AC4BC9B5 (R106). -/
def crc64Bit (c : Nat) : Nat := if c % 2 = 1 then c / 2 ^^^ 0x9A6C9329AC4BC9B5 else c / 2

/-- The 64-bit guard over bytes, first byte first (R106; the NVMe 64-bit guard format). -/
def guard64 (l : List (BitVec 8)) : Nat :=
  l.foldl (fun c b => Nat.repeat crc64Bit 8 (c ^^^ b.toNat)) (2 ^ 64 - 1) ^^^ (2 ^ 64 - 1)

end Sys2Proof.Machine
end

