-- ==== Sys2Proof/Machine/Record.lean ====
section
/-!
DEFINITION. The base-note record (R551–R558): entries, markers, dumps to NOR.
-/

namespace Sys2Proof.Machine

/-- Make an entry at HEAD (R551, R554): the oldest is overwritten when the ring is full. -/
def State.enter (s : State) (typ source sev inst rcnt d0 d1 : Nat) : State :=
  let e : Entry := ⟨s.stamp, s.timeUs, s.get BNR_STS_SEQ 0, source % 512, typ, sev, s.on ANG_SRC_REF 0, inst % 256, rcnt,
    d0, d1⟩
  let h := s.get BNR_STS_HEAD 0
  let t := { s with ring := s.ring.put h e }
  let t := if h = 4095 then t.set BNR_STS_WRAPPED 0 1 else t
  (t.bump BNR_STS_HEAD 0).bump BNR_STS_SEQ 0

/-- A marker entry (R554): 1 cold reset, 2 warm reset, 3 power loss, 4 dump start, 5 dump end. -/
def State.marker (s : State) (code : Nat) : State := s.enter 7 0 0 0xFF 0 code 0

/-- Bits [223:0] of an entry as a number (R552). -/
def Entry.body (e : Entry) : Nat :=
  e.stamp + e.time * 2 ^ 64 + e.seq * 2 ^ 112 + e.source * 2 ^ 128 + e.typ * 2 ^ 137 + e.sev * 2 ^ 140
    + e.angv.toNat * 2 ^ 142 + e.inst * 2 ^ 144 + e.rcnt * 2 ^ 152 + e.data0 * 2 ^ 160 + e.data1 * 2 ^ 192

/-- The 256 bits of an entry, its CRC over bytes 0 to 27 included (R552). -/
def Entry.bits (e : Entry) : Nat := e.body + crc32 (bytesOf 28 e.body) * 2 ^ 224

/-- The entry at ring index `i`; an index never written reads as zero. -/
def State.ringBits (s : State) (i : Nat) : Nat :=
  match s.ring.find (i % 4096) with
  | some e => e.bits
  | none => 0

/-- The number of entries in the ring. -/
def State.ringCount (s : State) : Nat := if s.on BNR_STS_WRAPPED 0 then 4096 else s.get BNR_STS_HEAD 0

/-- The newest `n` entries, the newest first (R557). -/
def State.newest (s : State) (n : Nat) : List Entry :=
  (List.range n).filterMap fun i => s.ring.find ((s.get BNR_STS_HEAD 0 + 8191 - i) % 4096)

/-- The lowest bit set among the eight slots. -/
def freeSlot (m : Nat) : Option Nat := (List.range 8).find? fun i => m.testBit i

/-- Start a dump of at most `limit` entries as they stand now into the lowest free slot (R556–R558), or report that no slot is free: source 277 is in the list. -/
def startDump (cause limit : Nat) (s : State) : State × List (Nat × Nat) :=
  match freeSlot (s.get BNR_NOR_FREE 0) with
  | none => (s.set BNR_STS_NOSLOT 0 1, [(277, 0xFF)])
  | some k =>
    let seq0 := s.get BNR_STS_SEQ 0
    let t := s.marker 4
    let t := (t.setBit BNR_NOR_FREE 0 k false).set BNR_STS_NOSLOT 0 0
    let d : Dump := ⟨cause, k, seq0, Nat.min (limit + 1) (Nat.min 1024 t.ringCount)⟩
    let box : BlackBox := ⟨cause, seq0, t.newest d.count, false⟩
    ({ t with dumps := d :: t.dumps, tables := { t.tables with boxes := t.tables.boxes.put k box } }.setMany 0 [(BNR_STS_DUMPING, 1), (BNR_DUMPSEQ, seq0), (BNR_NOR_LAST_SLOT, k), (BNR_NOR_LAST_COMPLETE, 0),
      (BNR_NOR_LAST_ENTRIES, 0)], [])

/-- A dump trigger (R556, R558): it starts at once, or waits for the dump under way. -/
def dumpTrigger (cause : Nat) (s : State) : State × List (Nat × Nat) :=
  match s.dumps with
  | [] => startDump cause 1023 s
  | [d] => ({ s with dumps := [d, ⟨cause, 0, 0, 0⟩] }, [])
  | _ => (s, [])

end Sys2Proof.Machine
end

