-- ==== Sys2Proof/Machine/Timing.lean ====
section
/-!
DEFINITION. Where the angle is: heads and surfaces (R4, R5), the wedges that a head meets (R259), the bit position of an angle on a lane
(R72, R73, R75, R76), and the bits of a frame that have passed (R146).
-/

namespace Sys2Proof.Machine

/-! ## Heads and surfaces -/

/-- The actuator, head link and lane group of head `h` (R4). -/
def actOf (h : Nat) : Nat := h / 12

/-- The surface of head `h` (R4). -/
def surfaceOf (h : Nat) : Nat := 12 * (actOf h / 2) + h % 12

/-- The side of head `h` (R4). -/
def sideOf (h : Nat) : Nat := actOf h % 2

/-- The head of surface `s` on side `d` (R5). -/
def headOf (s d : Nat) : Nat := (if s ≤ 11 then s else s + 12) + 12 * d

/-- The format descriptor of surface `x`, when accepted (R144). -/
def State.desc (s : State) (x : Nat) : Option Descriptor :=
  if s.bit FMT_STS_DESC_OK 0 x then s.descs.find x else none

/-- The tick at which the heads of a side meet the start of W0 (R143). -/
def w0Tick (d : Descriptor) (side : Nat) : Nat := if side = 0 then d.w0a else d.w0b

/-! ## Angles that are met -/

/-- The stamp stands at tick `t`, or a forward step of this cycle has passed over it (R30). -/
def angleMet (t : Nat) (s : State) : Bool :=
  decide ((s.tick + revTicks - t % revTicks) % revTicks ≤ s.get ANG_STEPLEN 0)

/-- Ticks per ns of the angle stamp, as numerator and denominator (R37): the observer's speed over the pole pairs under OBSERVER,
otherwise the measured rate. -/
def stampRate (s : State) : Nat × Nat :=
  if s.is ANG_SRC_SRC 0 4 then
    ((s.getI SPN_OBSSPD 0).natAbs * 4194304, 960000000000 * Nat.max 1 (s.get SPN_MOTOR_PP 0))
  else (s.get ANG_RATE 0, 1048576000)

/-- Wedge that head `h` is predicted to pass at the present stamp (R259), from the accepted descriptor of its surface. -/
def predictedWedge (h : Nat) (s : State) : Option Nat :=
  (s.desc (surfaceOf h)).map fun d => (s.tick + revTicks - w0Tick d (sideOf h)) % revTicks / 8192

/-- The start of wedge `w` at head `h` (R259), in 1/16 tick summed and rounded to the nearest tick, a half up. -/
def wedgeStart (h w : Nat) (s : State) : Option Nat :=
  (s.desc (surfaceOf h)).map fun d =>
    let t : Int := ((w0Tick d (sideOf h) + 8192 * w : Nat) : Int) * 16 + s.getI SRV_WTAB (512 * h + w)
    ((t + 8) / 16 % 4194304).toNat

/-- The wedge that the stamp lies in at head `h` by the predicted starts: the one by W0, or a neighbour of it. -/
def wedgeAt (h : Nat) (s : State) : Option Nat :=
  (predictedWedge h s).bind fun p => [p, (p + 1) % 512, (p + 511) % 512].find? fun w =>
    match wedgeStart h w s, wedgeStart h ((w + 1) % 512) s with
    | some a, some b => decide ((s.tick + revTicks - a) % revTicks < (b + revTicks - a) % revTicks)
    | _, _ => false

/-- The wedge whose decision head `h` may make now (R25, R253, R258, R259): burst D's last sample, the end of servo bit 232, has passed since its
predicted start, and none has been made since. -/
def wedgeDue (h : Nat) (s : State) : Option Nat :=
  (wedgeAt h s).filter fun w => match wedgeStart h w s with
    | some a =>
      let n := (s.tick + revTicks - a) % revTicks
      decide (233 * s.get SRV_FRAME_SBIT 0 ≤ n)
        && decide (n - 233 * s.get SRV_FRAME_SBIT 0 < (s.stamp + 2 ^ 64 - s.get SRV_WSTAMP h) % 2 ^ 64)
    | none => false

/-- A wedge of head `h` starts `early` ticks after an angle that is met now. -/
def wedgeMet (h early : Nat) (s : State) : Bool :=
  (List.range 512).any fun w => match wedgeStart h w s with
    | some a => angleMet (a + revTicks - early) s
    | none => false

/-! ## Sync hits (R95, R256) -/

/-- A sync hit: offset from the prediction, and Hamming distance (R95). -/
abbrev Hit := Int × Nat

/-- A better sync hit: lower distance, then nearer, then earlier (R95). -/
def betterHit (a b : Hit) : Hit :=
  if a.2 < b.2 then a
  else if b.2 < a.2 then b
  else if a.1.natAbs < b.1.natAbs then a
  else if b.1.natAbs < a.1.natAbs then b
  else if a.1 ≤ b.1 then a else b

/-- The best hit of a list at a threshold (R95). -/
def bestHit (thr : Nat) (l : List Hit) : Option Hit :=
  (l.filter fun h => h.2 ≤ thr).foldl (fun b h => some (match b with
    | none => h
    | some x => betterHit x h)) none

/-! ## Lane memory -/

/-- The key of a lane-memory word. -/
def lmemKey (l space w : Nat) : Nat := l * 1048576 + space * 65536 + w

/-- A lane-memory word (R135). -/
def State.lword (s : State) (l space w : Nat) : Nat := NMap.get 0 s.lmem (lmemKey l space w)

/-- Set a lane-memory word. -/
def State.setLword (s : State) (l space w v : Nat) : State := { s with lmem := s.lmem.put (lmemKey l space w) v }

/-! ## Bit positions (R73, R75, R76) -/

/-- Entry `e` of the active timing table bank, in 1/256 bit. -/
def rttEntry (l e : Nat) (s : State) : Int := sgn 24 (s.lword l (s.get LAN_RTTSEL_BANK l) (e % 512))

/-- The repeatable timing table term at the present angle, in units of 2^-27 bit (R75, R76): linear from the entry of the wedge that the
head is in to the next one, 511 to 0; zero while EN is clear, and where no wedge is predicted. -/
def tableTerm (l : Nat) (s : State) : Int :=
  if !s.on LAN_RTTSEL_EN l then 0
  else
    match wedgeAt l s with
    | none => 0
    | some e =>
      let a := (wedgeStart l e s).getD 0
      let n : Int := (((wedgeStart l ((e + 1) % 512) s).getD 0 + revTicks - a) % revTicks : Nat)
      let t : Int := ((s.tick + revTicks - a) % revTicks : Nat)
      rttEntry l e s * 524288 + (rttEntry l (e + 1) s - rttEntry l e s) * 524288 * t / n

/-- P(t) of R73 in units of 2^-27 bit: the table term and the phase trim. -/
def bitShift (l : Nat) (s : State) : Int := tableTerm l s + s.getI LAN_TRIMV_TRIM l * 2097152

/-- The bit position of the present angle in units of 2^-27 bit (R73): B = t · RATIO ÷ 256 + P, with the revolutions counted on. -/
def bitPosition (l : Nat) (s : State) : Int := (s.stamp * s.get LAN_ZRATIO l : Nat) + bitShift l s

/-- The first bit position at or after an angle's. -/
def nextBit (b : Int) : Int := -(-b / 134217728)

/-- The frame of lane `l` starts with its bit 0 at the bit position `b`; one that starts at the end of a wedge window that is still open
waits for that end (R147). -/
def startFrame (l : Nat) (b : Int) (s : State) : State :=
  (((s.setI LAN_FB0 l b).setMany l [(LAN_SKIP, 0), (LAN_IVBIT, 0)]).setI LAN_GAPB l (nextBit b))

/-- Bits of the present frame of lane `l` that have passed, those within wedge windows left out (R146). -/
def frameBit (l : Nat) (s : State) : Nat :=
  let now := if s.on LAN_WEDGE l then s.getI LAN_GAPB l else nextBit (bitPosition l s)
  (now - nextBit (s.getI LAN_FB0 l) - s.get LAN_SKIP l).toNat

/-- The bit stream is interrupted at the first bit position at or after a window's start (R146). -/
def openGap (l : Nat) (s : State) : State := s.setI LAN_GAPB l (nextBit (bitPosition l s))

/-- It resumes at the first bit position at or after the window's end (R146). -/
def closeGap (l : Nat) (s : State) : State :=
  s.add LAN_SKIP l (nextBit (bitPosition l s) - s.getI LAN_GAPB l).toNat

end Sys2Proof.Machine
end

