-- ==== Sys2Proof/Machine/Slots.lean ====
section
/-!
DEFINITION. Frame slots (spec/03, R138–R147): bands, data tracks, the angle of a slot and of its frame's start; the lane loads of the
recording zones (R133, R143), usable slots (R154), and the 64 bytes of a frame operation (R161).
-/

namespace Sys2Proof.Machine

/-! ## Tracks -/

/-- The recording zone of a band (R140). -/
def zoneOfBand (d : Descriptor) (b : Nat) : Option (Nat × ZoneRec) :=
  ((List.range d.zones.length).zip d.zones).find? fun z =>
    z.2.nbands ≠ 0 && z.2.firstBand ≤ b && b < z.2.firstBand + z.2.nbands

/-- Servo track of data track `i` of band `b` (R140). -/
def bandTrack (z : ZoneRec) (b i : Nat) : Nat := z.firstTrack + (b - z.firstBand) * z.bandPitch + i * z.dtp

/-- The zone record whose parameters the system area takes: the first used one (R139 names Z0; that an unused record 0 is passed over is
this model's choice, log entry 10). -/
def zone0 (d : Descriptor) : Option (Nat × ZoneRec) := ((List.range d.zones.length).zip d.zones).find? fun z => z.2.nbands ≠ 0

/-- The data track that a servo track is the centre of: its index (within its band or the system area), its zone's number and its zone
(R55, R140, R145). -/
def dataTrack (d : Descriptor) (track : Nat) : Option (Nat × Nat × ZoneRec) :=
  if track < d.sysEnd then
    if d.sysDtp ≠ 0 && track % d.sysDtp == 0 then (zone0 d).map fun z => (track / d.sysDtp, z) else none
  else
    ((List.range d.zones.length).zip d.zones).findSome? fun p =>
      let z := p.2
      if z.nbands ≠ 0 && z.firstTrack ≤ track && track < z.firstTrack + z.nbands * z.bandPitch && z.dtp ≠ 0 then
        let o := (track - z.firstTrack) % z.bandPitch
        if o % z.dtp == 0 && o / z.dtp < z.dpb + z.guardTr then some (o / z.dtp, p) else none
      else none

/-! ## Slots -/

/-- Slot `k` of data track `i` starts at this angle relative to W0 (R145). -/
def slotAngle (d : Descriptor) (f i k : Nat) : Nat := (i * d.skew + k * revTicks / f) % revTicks

/-- The tick at which head `h` meets a slot: the frame boundary of its lane (R145). -/
def slotTick (h track slot : Nat) (s : State) : Option Nat :=
  (s.desc (surfaceOf h)).bind fun d =>
    (dataTrack d track).map fun p => (w0Tick d (sideOf h) + slotAngle d (Nat.max 1 p.2.2.f) p.1 slot) % revTicks

/-- The angle at which the frame of a slot at angle `a` starts (R147): the end of the wedge window that holds `a`, or of the next one if the
first 64 bits would not end before it starts. -/
def frameAngle (d : Descriptor) (z : ZoneRec) (a : Nat) : Nat :=
  if a % 8192 < d.srvTicks then a / 8192 * 8192 + d.srvTicks
  else if (8192 - a % 8192) * z.zratio ≤ 64 * 134217728 then (a / 8192 + 1) * 8192 + d.srvTicks
  else a

/-- The tick at which the frame of a slot starts at head `h` (R147). -/
def frameTick (h track slot : Nat) (s : State) : Option Nat :=
  (s.desc (surfaceOf h)).bind fun d =>
    (dataTrack d track).map fun p =>
      (w0Tick d (sideOf h) + frameAngle d p.2.2 (slotAngle d (Nat.max 1 p.2.2.f) p.1 slot)) % revTicks

/-- A wedge window of head `h` starts, `late` ticks before an angle that is met now (R146): at the wedge's predicted start (R259). -/
def windowMet (h late : Nat) (s : State) : Bool :=
  (List.range 512).any fun w => match wedgeStart h w s with
    | some a => angleMet (a + late) s
    | none => false

/-- Length of the wedge windows of head `h` (R143, R146). -/
def windowTicks (h : Nat) (s : State) : Nat := ((s.desc (surfaceOf h)).map (·.srvTicks)).getD 0

/-- Bits from the present bit position B(t) to frame bit 0 of a frame that starts at tick `t`, in 2^-27 bit: bit 0 has the bit position
that the format gives its angle, t · RATIO ÷ 256, and a write lies `LANn_WROFS` later (R73, R81). -/
def bitsTo (l t : Nat) (write : Bool) (s : State) : Int :=
  let d : Nat := (t + revTicks - s.tick) % revTicks
  let n : Int := if d < revTicks / 2 then d else (d : Int) - revTicks
  n * s.get LAN_ZRATIO l - bitShift l s + if write then s.getI LAN_WROFS l * 2097152 else 0

/-- The bit position `lead` bits before frame bit 0 has been reached in this cycle, within the bit by which P(t) may have moved (R73,
R112). -/
def bitMet (l t lead : Nat) (write : Bool) (s : State) : Bool :=
  let n := bitsTo l t write s - lead * 134217728
  decide (n ≤ 0) && decide (-((s.get ANG_STEPLEN 0 + 1) * s.get LAN_ZRATIO l + 134217728 : Nat) < n)

/-! ## Usable slots (R152–R156) -/

/-- The skip list holds an effective entry of a slot (R152, R154). -/
def slotSkipped (x track slot : Nat) (s : State) : Bool :=
  (s.skips.any fun e => e.surface == x && e.track == track && e.slot == slot && !e.defer)
    || decide (4 < s.wins.countP fun e => e.surface == x && e.track == track && e.slot == slot)

/-- The ordinals of a band's slots that are not usable (R153, R154). -/
def deadOrdinals (x b : Nat) (z : ZoneRec) (s : State) : List Nat :=
  let cand := (s.skips.filter fun e => e.surface == x && !e.defer).map (fun e => (e.track, e.slot))
    ++ (s.wins.filter fun e => e.surface == x).map fun e => (e.track, e.slot)
  ((cand.filterMap fun c =>
    let t0 := bandTrack z b 0
    if t0 ≤ c.1 && (c.1 - t0) % z.dtp == 0 && (c.1 - t0) / z.dtp < z.dpb && c.2 < z.f && slotSkipped x c.1 c.2 s then
      some ((c.1 - t0) / z.dtp * z.f + c.2) else none)).eraseDups

/-- The ordinal of the `j`-th usable slot, given the ordinals that are not usable: the least fixed point of adding those at or
below it. -/
def usableOrdinal (dead : List Nat) (j : Nat) : Nat :=
  Nat.repeat (fun o => j + dead.countP (· ≤ o)) (dead.length + 1) j

/-- Track, slot and data track index of member frame index `j` in band `b` of surface `x` (R154); none when the band is full. -/
def slotOf (x b j : Nat) (s : State) : Option (Nat × Nat × Nat) :=
  match s.desc x with
  | none => none
  | some d =>
    match zoneOfBand d b with
    | none => none
    | some (_, z) =>
      let o := usableOrdinal (deadOrdinals x b z s) j
      if z.f = 0 || z.dpb * z.f ≤ o then none else some (bandTrack z b (o / z.f), o % z.f, o / z.f)

/-- Usable slots of band `b` of surface `x` (R156). -/
def bandUsable (x b : Nat) (s : State) : Nat :=
  match s.desc x with
  | none => 0
  | some d =>
    match zoneOfBand d b with
    | none => 0
    | some (_, z) => z.dpb * z.f - (deadOrdinals x b z s).length

/-! ## Lane loads (R133, R143) -/

/-- The lane load at an address in DRAM: a word with a bit for each group, then one word for each of the twelve registers (log entry 10);
`LANn_ZRATIO` takes the zone record's ZRATIO (R143). -/
def readLoad (a zratio : Nat) (m : Memory) : LaneLoad :=
  let w (i : Nat) : Nat := m.word (a + 4 * i) 4
  ⟨(List.range 8).filter fun g => (w 0).testBit g, (List.range 12).map fun i => if i = 7 then zratio else w (i + 1)⟩

/-- The lane load that index `i` of a frame operation names for lane `l`: that of recording zone i − 1 (log entry 10); 0 names none (R161). -/
def State.laneLoad (s : State) (l i : Nat) : Option LaneLoad :=
  if i = 0 then none
  else ((s.desc (surfaceOf l)).bind fun d => d.zones[i - 1]?).map fun z =>
    readLoad (if sideOf l = 0 then z.loadA else z.loadB) z.zratio s.mem

/-! ## The 64 bytes of a frame operation (R161) -/

/-- A window entry's 64 bits (R152). -/
def DefWin.entry (d : DefWin) (track slot : Nat) : Nat :=
  track % 2 ^ 21 + slot % 256 * 2 ^ 21 + d.start % 2 ^ 19 * 2 ^ 29 + d.len % 2 ^ 11 * 2 ^ 48

/-- The defect windows in words 6 to 13, as a number. -/
def defWords (track slot : Nat) : List DefWin → Nat
  | [] => 0
  | d :: t => d.entry track slot + 2 ^ 64 * defWords track slot t

/-- The 64 bytes of a frame operation (R161). -/
def FrameOp.word (op : FrameOp) : BitVec 512 :=
  BitVec.ofNat 512 ((if op.write then 2 else 1) + op.cls.val * 2 ^ 4 + op.cwmask.toNat * 2 ^ 8 + op.gen.toNat * 2 ^ 16
    + op.track.toNat * 2 ^ 32 + op.slot.toNat * 2 ^ 53 + op.defs.length % 8 * 2 ^ 61 + op.dataAddr.toNat * 2 ^ 64
    + op.rcvAddr.toNat * 2 ^ 128 + defWords op.track.toNat op.slot.toNat op.defs % 2 ^ 256 * 2 ^ 192
    + op.offtrk.toNat * 2 ^ 448 + op.load.toNat * 2 ^ 464 + op.mtag.toNat * 2 ^ 480)

/-- The frame operation of 64 bytes (R161): none for a reserved OP, more than four windows, or a class that is not one of a frame operation
(R103; log entry 10). -/
def FrameOp.ofWord (w : BitVec 512) : Option FrameOp :=
  let n := w.toNat
  let f (lo width : Nat) : BitVec width := BitVec.ofNat width (bits n lo width)
  let nd := bits n 61 3
  if (bits n 0 4 = 1 ∨ bits n 0 4 = 2) ∧ bits n 4 2 < 2 ∧ nd ≤ 4 then
    some ⟨bits n 0 4 == 2, Fin.ofNat 2 (bits n 4 2), f 8 8, f 16 9, f 32 21, f 53 8,
      (List.range nd).map fun i => ⟨bits n (192 + 64 * i + 29) 19, bits n (192 + 64 * i + 48) 11⟩,
      f 64 40, f 128 40, f 448 16, f 464 16, f 480 24⟩
  else none

end Sys2Proof.Machine
end

