-- ==== Sys2Proof/Machine/Gates.lean ====
section
/-!
DEFINITION. The write gates of the lanes (R113–R116): the conditions under which a gate may be asserted, and the
truncation of a frame when one of them fails.
-/

namespace Sys2Proof.Machine

/-- The queues of lane `l`. -/
def State.lane (s : State) (l : Nat) : LaneQ := NMap.get LaneQ.empty s.lanes l

/-- Set the queues of lane `l`. -/
def State.setLane (s : State) (l : Nat) (q : LaneQ) : State := { s with lanes := s.lanes.put l q }

/-- The lane is ACTIVE, or finishes its last frame operation on the way out of ACTIVE (R68). -/
def laneActive (l : Nat) (s : State) : Bool :=
  s.is LAN_STS_STATE l 2 || (s.is LAN_STS_STATE l 3 && s.is LAN_FROM l 2)

/-- Every condition of R113 but the scheduled ones: write permit, no safe state, no inhibit, head link up with its mask
acknowledged and the head's write-enable set, no write-unsafe flag, lane active and in service, locked and in range. -/
def writeAllowed (l : Nat) (s : State) : Bool :=
  s.on ANG_SRC_PRECISE 0 && !s.on FLT_SAFE_ACTIVE 0 && !s.on SRV_HSTS_INHIBIT l
    && s.on HLK_STS_UP (actOf l) && s.on HLK_WENOK (actOf l) && s.bit HLK_WEN (actOf l) (l % 12)
    && !s.bit HLK_PRESENT l 0
    && laneActive l s && !s.on LAN_CTL_OOS l && s.on LAN_STS_LOCK l && !s.on LAN_STS_FRANGE l

/-- The write gate is asserted, and the write-data pair driven; when it drops the pair goes to its idle state of zero differential
(R113, R114). -/
def setGate (l : Nat) (on : Bool) (s : State) : State := s.setMany l [(LAN_STS_WRITING, on.toNat), (LAN_PAIR, on.toNat)]

/-- Truncate the write of lane `l` (R116): the gate stays deasserted until the operation ends. The bit offset counts from frame bit 0,
wedge windows left out. -/
def truncate (l : Nat) (s : State) : State :=
  (setGate l false s).setMany l [(LAN_SPLIT, 0), (LAN_TRUNC, 1), (LAN_TRUNCOFF, frameBit l s)]

/-- Truncate the write of lane `l` if a condition has failed. -/
def recheckWrite (l : Nat) (s : State) : State :=
  if (s.on LAN_STS_WRITING l || s.on LAN_SPLIT l) && !writeAllowed l s then truncate l s else s

/-- Look at every lane after a condition has changed (R113). -/
def recheckWrites (s : State) : State := forBelow 48 recheckWrite s

/-- Look at the lanes of actuator `a`. -/
def recheckActuator (a : Nat) (s : State) : State := forBelow 12 (fun p => recheckWrite (12 * a + p)) s

/-! ## Head-link requests -/

/-- The packets that wait on link `a`. -/
def State.linkQ (s : State) (a : Nat) : List HlkReq := NMap.get [] s.hlkTx a

/-- Set the packets that wait on link `a`. -/
def State.setLinkQ (s : State) (a : Nat) (q : List HlkReq) : State := { s with hlkTx := s.hlkTx.put a q }

/-- Send priority of a packet type (R121). -/
def linkPrio (t : Nat) : Nat :=
  match t with
  | 7 => 1 | 4 => 2 | 6 => 3 | 5 => 4 | 1 => 5 | 2 => 5 | _ => 6

/-- Put a request behind those of its priority and before those of lower ones (R121, R122). -/
def insertReq : List HlkReq → HlkReq → List HlkReq
  | [], r => [r]
  | x :: t, r => if linkPrio r.typ < linkPrio x.typ then r :: x :: t else x :: insertReq t r

/-- Request a packet on link `a`; a link that is not UP discards microactuator, heater and write-inhibit packets (R668). -/
def linkSend (a : Nat) (r : HlkReq) (s : State) : State :=
  if s.on HLK_STS_UP a then s.setLinkQ a (insertReq (s.linkQ a) r) else s

/-- A changed write-enable mask: sent as a type 0x6 packet on each change (R121, R137). A mask that waits already is
replaced, and the resends of the new one count from zero (R123). -/
def sendMask (a : Nat) (s : State) : State :=
  linkSend a ⟨6, 0xF, 0, s.get HLK_WEN a, none⟩ ((s.setLinkQ a ((s.linkQ a).filter fun r => r.typ ≠ 6)).set HLK_WENTRY a 0)

/-- Write `HLKa_WEN`, send the mask if it changed, and drop the gates of heads that lost their enable (R113). In the safe state it stays
clear (R544). -/
def setWen (a m : Nat) (s : State) : State :=
  let m := if s.on FLT_SAFE_ACTIVE 0 then 0 else m
  if m % 4096 = s.get HLK_WEN a then s else recheckActuator a (sendMask a (s.set HLK_WEN a m))

/-- The safe-state broadcast of R124 on one link: WEN cleared, the write-inhibit packet three times. -/
def inhibitLink (a : Nat) (s : State) : State :=
  let r : HlkReq := ⟨7, 0xF, 0, 0, none⟩
  linkSend a r (linkSend a r (linkSend a r (setWen a 0 s)))

end Sys2Proof.Machine
end

