-- ==== Sys2Proof/Machine/Trigger.lean ====
section
/-!
DEFINITION. Triggers of loop-engine contexts (R371–R373) and the capture and trigger of Sillage units (R395–R398).
-/

namespace Sys2Proof.Machine

/-! ## Sillage -/

/-- The time field of an entry (R396): tick and revolution, or 20 ns units with TIME set. -/
def silTick (u : Nat) (s : State) : Nat :=
  (if s.on LPE_SIL_CFG_TIME u then s.aonNs / 20 else s.stamp) % 2 ^ 27

/-- Write one entry into unit `u`'s ring. -/
def silPut (u value aux kind : Nat) (s : State) : State :=
  let h := s.get SIL_HEAD u
  let e := value % 2 ^ 32 + silTick u s * 2 ^ 32 + aux % 8 * 2 ^ 59 + kind * 2 ^ 62
  ({ s with sil := s.sil.put (u * 16384 + h) e }.bump SIL_HEAD u).set LPE_SIL_FILL u
    (Nat.min 16384 (s.get LPE_SIL_FILL u + 1))

/-- The unit captures: ARMED, or TRIGGERED with entries left (R397). -/
def silActive (u : Nat) (s : State) : Bool :=
  s.is LPE_SIL_STS_STATE u 1 || (s.is LPE_SIL_STS_STATE u 2 && s.on SIL_LEFT u)

/-- Trigger unit `u` (R397), and with it the units that it triggers; `k` bounds the cascade by the number of units. -/
def silTrigger : Nat → Nat → State → State
  | 0, _, s => s
  | k + 1, u, s =>
    if s.is LPE_SIL_STS_STATE u 1 then
      let t := (s.set LPE_SIL_STS_MARK u (s.get SIL_HEAD u)).set LPE_SIL_STS_STATE u 2
      let t := silPut u 0 0 1 (t.set SIL_LEFT u (t.get LPE_SIL_CTL_POST u))
      forBelow 8 (fun v x => if x.is LPE_SIL_CFG_TRIG v 4 && x.is LPE_SIL_CFG_TRIGSEL v u && v != u then silTrigger k v x else x) t
    else s

/-- Trigger the units that wait for a trigger of kind `trig` with selector `sel` (R397). -/
def silTriggerAll (trig sel : Nat) (s : State) : State :=
  forBelow 8 (fun u t => if t.is LPE_SIL_CFG_TRIG u trig && t.is LPE_SIL_CFG_TRIGSEL u sel then silTrigger 8 u t else t) s

/-- The condition of a unit on a captured value, signed (R399, COND). -/
def silCond (u value : Nat) (s : State) : Bool :=
  let v := sgn 32 value
  let thr := sgn 32 (s.get LPE_SIL_THR u)
  match s.get LPE_SIL_CFG_COND u with
  | 0 => decide (v > thr)
  | 1 => decide (v < thr)
  | 2 => decide ((v.natAbs : Int) > thr)
  | _ => value &&& s.get LPE_SIL_MASK u == s.get LPE_SIL_THR u

/-- Unit `u` captures a value (R395–R398): one entry per cycle leaves for the ring and four wait; a further one is lost
and a gap entry follows it. The lost capture fires the capture-loss source where the caller collects it. -/
def silCapture (u value aux kind : Nat) (s : State) : State :=
  if !silActive u s then s
  else
    let q := s.get SIL_Q u - (s.aonNs - s.get SIL_TIME u)
    let t := s.set SIL_TIME u s.aonNs
    if 5 ≤ q then ((t.set SIL_Q u q).bump SIL_GAP u).bump LPE_SIL_STS_LOST u
    else
      let t := t.set SIL_Q u (q + 1)
      let t := if t.on SIL_GAP u then (silPut u (t.get SIL_GAP u) 0 3 t).set SIL_GAP u 0 else t
      let armed := t.is LPE_SIL_STS_STATE u 1
      let t := silPut u value aux kind t
      if armed then
        if t.is LPE_SIL_CFG_TRIG u 2 && silCond u value t then silTrigger 8 u t else t
      else t.dec SIL_LEFT u

/-- Units that watch engine address `a` in mode WRITE capture a write of `v` (R395). -/
def silWatch (a v : Nat) (s : State) : State :=
  forBelow 8 (fun u t => if t.is LPE_SIL_CFG_MODE u 0 && t.is LPE_SIL_ADDR u a then silCapture u v 0 0 t else t) s

/-! ## Triggers -/

/-- A mailbox word. -/
def State.mail (s : State) (c page w : Nat) : Nat := NMap.get 0 s.mbox (c * 64 + page * 32 + w)

/-- Write a list of mailbox words from word `w` on. -/
def putMail (c page : Nat) : Nat → List Nat → State → State
  | _, [], s => s
  | w, v :: t, s => putMail c page (w + 1) t { s with mbox := s.mbox.put (c * 64 + page * 32 + w) (v % 2 ^ 32) }

/-- Count a merged trigger (R373); the caller fires the trigger-merge source when the sixteenth of a revolution is counted. -/
def countMerge (c : Nat) (s : State) : State :=
  let r := s.stamp / revTicks
  let t := s.bump LPE_CTXSTS_MERGE c
  if t.is CTX_MREV c r then t.addSat CTX_MCNT c 1 else (t.set CTX_MREV c r).set CTX_MCNT c 1

/-- Trigger context `c` with stamp `st`, source code `src` and the words 3 and up of its page (R371–R373). A context that
is not enabled, or an engine that does not run, takes no trigger (R401; DEDUCED for the other triggers, log entry 7), nor does
a customer context while CEN is clear (R389). -/
def trigger (c st src : Nat) (words : List Nat) (s : State) : State :=
  if !(s.on LPE_CTL_RUN 0 && s.on LPE_CTX_EN c && (s.on LPE_CUSTLIM_CEN 0 || !s.on LPE_CTX_CUST c)) then s
  else
    let t := putMail c (1 - s.get CTX_LATCH c) 0 (st % 2 ^ 32 :: st / 2 ^ 32 :: src :: words) s
    match t.get LPE_CTXSTS_STATE c with
    | 0 => t.setMany c [(LPE_CTXSTS_STATE, 1), (CTX_STAMP, st), (CTX_EPOCH, t.get ANG_EPOCH 0)]
    | 1 => (countMerge c t).setMany c [(CTX_STAMP, st), (CTX_EPOCH, t.get ANG_EPOCH 0)]
    | _ =>
      let t := if t.on LPE_CTXSTS_PENDING c then countMerge c t else t.set LPE_CTXSTS_PENDING c 1
      t.setMany c [(CTX_PSTAMP, st), (CTX_PEPOCH, t.get ANG_EPOCH 0)]

/-- Trigger every context whose SRC names the event (R371). -/
def triggerSrc (src st : Nat) (words : List Nat) (s : State) : State :=
  forBelow 64 (fun c t => if t.is LPE_CTX_SRC c src && t.on LPE_CTX_EN c then trigger c st src words t else t) s

end Sys2Proof.Machine
end

