-- ==== Sys2Proof/Machine/Members.lean ====
section
/-!
DEFINITION. The members of the accord code (spec/04): placement table, place of a frame, pass records and member states. What
follows from a change of state is answered as a list of assertions for the fault collector.
-/

namespace Sys2Proof.Machine

/-- Assertions that follow from a reaction: source and instance, each ended at once. -/
abbrev Follow := List (Nat × Nat)

/-! ## Code and placement table -/

/-- Data frames of a row. -/
def State.k (s : State) : Nat := s.get ACD_CODE_K 0

/-- Parity frames of a row. -/
def State.m (s : State) : Nat := s.get ACD_CODE_M 0

/-- Accord width W. -/
def State.w (s : State) : Nat := s.k + s.m

/-- Row and pod managers, LEVEL 2 and 3, have no members, and their accord engine stays clear (R11, R592). -/
def noMembers (s : State) : Bool := s.is GLB_ROLE_ROLE 0 2 && decide (2 ≤ s.get GLB_ROLE_LEVEL 0)

/-- The populated members. -/
def State.memberMask (s : State) : Nat := if noMembers s then 0 else s.get ACD_MEMBERS 0 + s.get ACD_MEMBERS 1 * 2 ^ 32

/-- The LOST members. -/
def State.lostMask (s : State) : Nat := s.get ACD_LOST 0 + s.get ACD_LOST 1 * 2 ^ 32

/-- The number of bits set among the low 64. -/
def popCount (m : Nat) : Nat := (List.range 64).countP fun i => m.testBit i

/-- The members of a mask in ascending order. -/
def membersOf (m : Nat) : List Nat := (List.range 64).filter fun i => m.testBit i

/-- The controller runs in the drive role (R8). -/
def driveRole (s : State) : Bool := !s.is GLB_ROLE_ROLE 0 2

/-- Blocks of a frame: 8, or the unit of a shelf (R604). -/
def State.fb (s : State) : Nat := if driveRole s then 8 else 2 ^ (5 + s.get MGR_GEOM_USHIFT 0)

/-- Base address of the placement table. -/
def plcBase (s : State) : Nat := s.get ACD_PLC_LO 0 + s.get ACD_PLC_HI 0 * 2 ^ 32

/-- Byte `p` of entry `e` (R201). -/
def plcByte (e p : Nat) (s : State) : Nat := (s.mem.read (plcBase s + 32 * e + p)).toNat

/-- The entry of row `r` of zone `z` (R202); one entry serves every row of a shelf zone (R604). -/
def entryOf (z r : Nat) (s : State) : Nat := (z * s.get ACD_PLC_CFG_ZSTEP 0 + if driveRole s then r else 0) % 65536

/-- The member at position `p` of an entry. -/
def entryMember (e p : Nat) (s : State) : Nat := plcByte e p s % 64

/-- The entry holds member `x` in a data or parity position. -/
def entryHolds (e x : Nat) (s : State) : Bool := (List.range s.w).any fun p => entryMember e p s == x

/-- The spare candidates of an entry in order of preference. -/
def entrySpares (e : Nat) (s : State) : List Nat :=
  (((List.range 32).drop s.w).filter fun p => 128 ≤ plcByte e p s).map fun p => entryMember e p s

/-- The member frame index of row `r` of zone `z` on member `x` (R203). -/
def frameIndex (z r x : Nat) (s : State) : Nat := (List.range r).countP fun q => entryHolds (entryOf z q s) x s

/-! ## Bands and segments -/

/-- Worker zones that a worker offers for streams and spares: all but the last six (R604). -/
def shelfAlloc (s : State) : Nat := s.get MGR_WNZ 0 - 6

/-- Spare worker zones of each worker (R605). -/
def shelfSpare (s : State) : Nat :=
  let n := popCount s.memberMask - 1
  if n = 0 then 0 else (103 * shelfAlloc s + 100 * n - 1) / (100 * n)

/-- Frames that spare band `b` of member `x` takes: its usable slots (R154, R209), in the manager role the units of the worker zone (R610). -/
def bandCap (x b : Nat) (s : State) : Nat := if driveRole s then bandUsable x b s else Config.workerUnits x b

/-- Spare bands of member `x` that a segment owns. -/
def bandsUsed (x : Nat) (s : State) : List Nat := (s.acd.segs.filter fun g => g.target == x).flatMap (·.bands)

/-- Free spare bands of member `x` in ascending order (R207, R212). -/
def bandsFree (x : Nat) (s : State) : List Nat :=
  if driveRole s then
    match s.desc x with
    | none => []
    | some d => ((List.range d.nb).drop d.nz).filter fun b => !(bandsUsed x s).contains b
  else ((List.range (shelfAlloc s)).drop (shelfAlloc s - shelfSpare s)).filter fun b => !(bandsUsed x s).contains b

/-- The frame of a row as a segment holds it. -/
def SegFrame.holds (f : SegFrame) (z r pos : Nat) : Bool := f.zone == z && f.row == r && f.pos == pos && !f.dead

/-- The band that holds place `i` of a segment on member `x`, and the index in it: its bands fill one after another (R209). -/
def bandAt (x : Nat) (s : State) : List Nat → Nat → Option (Nat × Nat)
  | [], _ => none
  | b :: t, i => if i < bandCap x b s then some (b, i) else bandAt x s t (i - bandCap x b s)

/-- The place of the frame at index `i` of a segment: target, spare band and index in it (R209). In a REBUILD or REDIRECT segment, whose
frames stand in their order, the index is the frame's rank. -/
def segIndex (g : Segment) (i : Nat) (s : State) : Option (Nat × Nat × Nat) := (bandAt g.target s g.bands i).map fun p => (g.target, p)

/-- The place of a relocated frame within a segment, of those whose write has passed verify or, `all`, of any (R209, R211). -/
def segPlace (g : Segment) (all : Bool) (z r pos : Nat) (s : State) : Option (Nat × Nat × Nat) :=
  (g.frames.findIdx? fun f => f.holds z r pos && (all || f.placed)).bind fun i => segIndex g i s

/-- Streams per member of a shelf zone (R604, R622). -/
def shelfG (s : State) : Nat := Nat.max 1 (Nat.min 8 (s.get MGR_GEOM_G 0))

/-- Stream position of unit `r` of member `x`: the positions before it that are slips are passed over (R606). -/
def streamPos (z r x : Nat) (s : State) : Nat :=
  let dead := (s.slips.filter fun e => e.1 == z && e.2.1 == x).map (·.2.2)
  Nat.repeat (fun o => r + dead.countP (· ≤ o)) (dead.length + 1) r

/-- The worker zone of a stream and the unit within it of stream position `p`; `n` bounds the worker zones tried. -/
def streamZone (x base : Nat) : Nat → Nat → Nat × Nat
  | 0, p => (base, p)
  | n + 1, p =>
    let u := Config.workerUnits x base
    if p < u then (base, p) else streamZone x (base + 1) n (p - u)

/-- Worker zone and unit of unit `r` of member `x` in shelf zone `z` (R604, R606). -/
def shelfPlace (z r x : Nat) (s : State) : Nat × Nat :=
  let c := (List.range z).countP fun q => entryHolds (entryOf q 0 s) x s
  streamZone x (c * shelfG s) (shelfG s - 1) (streamPos z r x s)

/-- Where a frame lies: member, band and index in the band (R185, R211, R604); the newest relocation whose write has passed verify
stands. -/
def placeOf (z r pos : Nat) (s : State) : Nat × Nat × Nat :=
  match s.acd.segs.reverse.findSome? fun g => segPlace g false z r pos s with
  | some p => p
  | none =>
    let x := entryMember (entryOf z r s) pos s
    if driveRole s then (x, z, frameIndex z r x s) else (x, shelfPlace z r x s)

/-! ## Member states -/

/-- Head `h` is out of service (R198). -/
def headOut (h : Nat) (s : State) : Bool :=
  s.on LAN_CTL_OOS h || !s.on LAN_POP h || s.bit HLK_PRESENT h 1 || s.bit HLK_PRESENT h 2 || s.on HLK_STS_ABSENT (actOf h)

/-- Member `x` is LOST. -/
def isLost (x : Nat) (s : State) : Bool := s.lostMask.testBit x

/-- Member `x` has a head in service on side `d`; a worker drive has no heads of its own here. -/
def sideServed (x d : Nat) (s : State) : Bool := !driveRole s || !headOut (headOf x d) s

/-- A frame is available to a read on side `d` (R219). -/
def frameAvailable (z r pos d : Nat) (s : State) : Bool :=
  let p := placeOf z r pos s
  !isLost p.1 s && sideServed p.1 d s && !s.acd.bad.contains (z, r, pos)

/-! ## What a row holds (R195, R221) -/

/-- Blocks that a row holds: those of its record while it is being written, else those below the write pointer. -/
def blocksOf (z r : Nat) (s : State) : Nat :=
  match s.rows.find? fun x => x.zone == z && x.row == r with
  | some x => x.blocks
  | none => Nat.min (s.fb * s.k) ((NMap.get Zone.fresh s.zones z).wp - s.fb * s.k * r)

/-- Data frames that a row of `blocks` blocks holds. -/
def dataFrames (blocks : Nat) (s : State) : Nat := (blocks + s.fb - 1) / s.fb

/-- The positions of a row that hold a frame: data frames as far as it has blocks, and the parity frames (R195, R217). -/
def heldPositions (z r : Nat) (s : State) : List Nat :=
  let n := Nat.min s.k (dataFrames (blocksOf z r s) s)
  if n = 0 then [] else List.range n ++ (List.range s.m).map (s.k + ·)

/-- The frame at a position is unreadable and not relocated (R221). -/
def frameLost (z r pos : Nat) (s : State) : Bool := isLost (placeOf z r pos s).1 s || s.acd.bad.contains (z, r, pos)

/-- The lost positions of a row (R221). -/
def lostPositions (z r : Nat) (s : State) : List Nat := (heldPositions z r s).filter fun pos => frameLost z r pos s

/-- The loss count of a row (R221). -/
def lossCount (z r : Nat) (s : State) : Nat := (lostPositions z r s).length

/-! ## Passes (R222–R224) -/

/-- Pass `p` is incomplete and in force. -/
def passOpen (s : State) (p : Nat) : Bool := s.on ACD_PASS_VALID p && !s.on ACD_PASS_DONE p && !s.on ACD_OLD p

/-- The pass that runs: the highest LEVEL, then the lowest index (R223). -/
def runningPass (s : State) : Option Nat :=
  (List.range 16).foldl (fun (b : Option Nat) p =>
    if passOpen s p then
      match b with
      | none => some p
      | some q => if s.get ACD_PASS_LEVEL q < s.get ACD_PASS_LEVEL p then some p else some q
    else b) none

/-- `ACD_RBLD_CUR` and REBUILDING show the running pass (R250). -/
def showPass (s : State) : State :=
  match runningPass s with
  | none => s.setMany 0 [(ACD_RBLD_CUR_ACTIVE, 0), (ACD_STS_REBUILDING, 0)]
  | some p => s.setMany 0 [(ACD_RBLD_CUR_ACTIVE, 1), (ACD_STS_REBUILDING, 1), (ACD_RBLD_CUR_PASS, p),
      (ACD_RBLD_CUR_LEVEL, s.get ACD_PASS_LEVEL p), (ACD_RBLD_CUR_ROW, s.get ACD_PASS_CUR_ROW p),
      (ACD_RBLD_CUR_ZONE, s.get ACD_PASS_CUR_ZONE p), (ACD_RBLD_CUR_DONE, s.get ACD_CURN p)]

/-- Rows of a zone that rebuild covers: the committed rows and the frontier row. -/
def zoneRows (z : Nat) (s : State) : Nat :=
  let zr := NMap.get Zone.fresh s.zones z
  if zr.state = 0 then 0 else (zr.wp + s.fb * Nat.max 1 s.k - 1) / (s.fb * Nat.max 1 s.k)

/-- Member `x` has frames that are not yet relocated (R224). -/
def hasFrames (x : Nat) (s : State) : Bool :=
  s.zones.any fun e => (List.range (zoneRows e.1 s)).any fun r => (heldPositions e.1 r s).any fun pos => (placeOf e.1 r pos s).1 == x

/-- The LOST members that have frames not yet relocated (R224). -/
def passMask (s : State) : Nat := ((membersOf s.lostMask).filter fun x => hasFrames x s).foldl (fun a x => a + 2 ^ x) 0

/-- The record that a new pass takes: one that is unused, else one whose pass is complete, else one that newer passes have replaced
(log entry 12). -/
def freePass (s : State) : Option Nat :=
  match (List.range 16).find? fun p => !s.on ACD_PASS_VALID p with
  | some p => some p
  | none => match (List.range 16).find? fun p => s.on ACD_PASS_DONE p with
    | some p => some p
    | none => (List.range 16).find? fun p => s.on ACD_OLD p

/-- The serial number of a new pass, above those of every record and segment: passes that take one record after another have segments of
their own (R208). -/
def newSerial (s : State) : Nat := ((List.range 16).map (s.get ACD_PSER) ++ s.acd.segs.map (·.pass)).foldl Nat.max 0 + 1

/-- The record of the pass of a serial number. -/
def passRecord (n : Nat) (s : State) : Option Nat := (List.range 16).find? fun p => n != 0 && s.on ACD_PASS_VALID p && s.is ACD_PSER p n

/-- One new pass record of level `lv` (R222, R224). -/
def addPass (lv mask row zone : Nat) (s : State) : State :=
  match freePass s with
  | none => s
  | some p => s.setMany p [(ACD_PASS_VALID, 1), (ACD_PASS_DONE, 0), (ACD_PASS_LEVEL, lv), (ACD_PASS_MASK, mask),
      (ACD_PASS_START_ROW, row), (ACD_PASS_START_ZONE, zone), (ACD_PASS_CUR_ROW, row), (ACD_PASS_CUR_ZONE, zone),
      (ACD_NOWROW, row), (ACD_NOWZONE, zone), (ACD_VISIT, 0), (ACD_PEND, 0), (ACD_PSIDE, 0), (ACD_CURN, 0), (ACD_ZDONE, 0), (ACD_OLD, 0),
      (ACD_PSER, newSerial s)]

/-- One new pass for each level from m down to 1, from a position on (R224). -/
def addPasses (row zone : Nat) (s : State) : State :=
  let mask := passMask s
  showPass (forAll ((List.range s.m).map (s.m - ·)) (fun lv x => addPass lv mask row zone x) (s.set ACD_JREQ 0 1))

/-- Position (zone, row) lies before another. -/
def posLt (a b : Nat × Nat) : Bool := decide (a.1 < b.1) || (a.1 == b.1 && decide (a.2 < b.2))

/-- START of pass `p`. -/
def passStart (p : Nat) (s : State) : Nat × Nat := (s.get ACD_PASS_START_ZONE p, s.get ACD_PASS_START_ROW p)

/-- CURSOR of pass `p`. -/
def passCursor (p : Nat) (s : State) : Nat × Nat := (s.get ACD_PASS_CUR_ZONE p, s.get ACD_PASS_CUR_ROW p)

/-- Pass `p` comes to position `a` before it comes to `b`: it wraps to the positions before its START (R222). -/
def passBefore (p : Nat) (a b : Nat × Nat) (s : State) : Bool :=
  let wa := posLt a (passStart p s)
  let wb := posLt b (passStart p s)
  if wa = wb then posLt a b else wb

/-- Pass `p` stops at its CURSOR and is replaced (R224): what it has collected or put off is given up, its segments stay valid for the rows
before the CURSOR. -/
def stopPass (p : Nat) (s : State) : State :=
  let n := s.get ACD_PSER p
  let segs := s.acd.segs.map fun g => if g.kind = .rebuild ∧ g.pass = n then
      { g with frames := g.frames.map fun f => if passBefore p (f.zone, f.row) (passCursor p s) s then f else { f with dead := true } }
    else g
  { s with acd := { s.acd with
      segs := segs, rebuilt := s.acd.rebuilt.filter (fun q => q.2.2.2.2 != n), deferred := s.acd.deferred.filter fun e => e.1 != n } }.set ACD_OLD p 1

/-- A new loss replaces every incomplete pass by one per level from m down to 1, starting at the stopped pass's cursor
(R224); the old records wait for the journal. -/
def replacePasses (s : State) : State :=
  let at0 := ((runningPass s).map fun p => passCursor p s).getD (0, 0)
  addPasses at0.2 at0.1 (forAll ((List.range 16).filter (passOpen s)) stopPass s)

/-- Uncommitted frames of a lost member that have not passed verify are to be written anew (R216): their writes are dropped. Where they go
is settled with the next command's end (R215). -/
def dropWrites (x : Nat) (s : State) : State :=
  let hit (f : RowFrame) : Bool := f.member == x && !f.verified
  { s with
    rows := s.rows.map fun r => { r with frames := r.frames.map fun f => if hit f then { f with written := false } else f }
    jobs := s.jobs.filter fun j =>
      !(j.write || j.verify) || !s.rows.any fun r => r.zone == j.zone && r.row == j.row && r.frames.any fun f => hit f && f.pos == j.pos }

/-- Member `x` becomes LOST (R200, R216, R224, R238). -/
def memberLoss (x : Nat) (s : State) : State × Follow :=
  if isLost x s then (s, [])
  else
    let t := (s.setBit ACD_LOST (x / 32) (x % 32) true).bump ACD_STS_LOST_CNT 0
    (replacePasses (dropWrites x t), [(208, x)])

/-- FMT has not accepted the descriptor of member `x` (R144, R199). The engine judges it while it runs: before that the descriptors are still
being loaded (R585; log entry 12). -/
def unserved (x : Nat) (s : State) : Bool := s.on ACD_CTL_RUN 0 && !s.bit FMT_STS_DESC_OK 0 x

/-- One member's state after a change of its heads (R198–R200): a head newly out of service degrades it, both make it LOST. -/
def memberStep (x : Nat) (s : State) : State × Follow :=
  let o0 := headOut (headOf x 0) s
  let o1 := headOut (headOf x 1) s
  let was := s.bit ACD_DEGR 0 x || s.bit ACD_DEGR 1 x
  let t := (s.setBit ACD_DEGR 0 x o0).setBit ACD_DEGR 1 x o1
  if (o0 && o1) || s.bit ACD_LOSEMASK 0 x || unserved x s then memberLoss x t
  else if (o0 || o1) && !was then (t.set ACD_JREQ 0 1, [(209, x)])
  else (t, [])

/-- Run a list of reactions in order, gathering what follows. -/
def chain : List (State → State × Follow) → State → State × Follow
  | [], s => (s, [])
  | f :: t, s => ((chain t (f s).1).1, (f s).2 ++ (chain t (f s).1).2)

/-- Recompute the member states from the heads (R198–R200). A manager's members are workers and are not served by heads
(R11). -/
def memberStates (s : State) : State × Follow :=
  if !driveRole s then (s, [])
  else
    let r := chain (((membersOf s.memberMask).filter (· < 24)).map memberStep) s
    (r.1.set ACD_STS_DEGR_CNT 0 ((membersOf r.1.memberMask).countP fun x =>
      !isLost x r.1 && (r.1.bit ACD_DEGR 0 x || r.1.bit ACD_DEGR 1 x)), r.2)

end Sys2Proof.Machine
end

