-- ==== Sys2Proof/Machine/Retract.lean ====
section
/-!
DEFINITION. The retract engine of the always-on domain (R290–R292).
-/

namespace Sys2Proof.Machine

/-- Actuator `a` had a valid velocity estimate within the last 1 ms (R291). -/
def velocityKnown (a : Nat) (s : State) : Bool :=
  s.on SRV_VELT a && decide (s.aonNs + 1 ≤ s.get SRV_VELT a + 1000000)

/-- What `SRVa_CUR` shows: the driver's current follows the DAC, in DAC codes, and is 0 while the driver is off (spec/05_servo_actuators.md; log entry 18). -/
def sensedCurrent (a : Nat) (s : State) : Nat := if s.on SRV_DRVEN a then s.get SRV_DAC a else 0

/-- Drive the VCM with `i` DAC codes, inverted with INV (R291). -/
def vcmDrive (a : Nat) (i : Int) (s : State) : State := s.setI SRV_DAC a (if s.on SRV_VCMCFG_INV a then -i else i)

/-- The current of a retract phase (R291): −IRET in phase 2, −IPARK in phase 3; while the engine brakes one of at most IPARK that the
spec does not state (log entry 18). -/
def retractDrive (a : Nat) (s : State) : State :=
  let park := s.get SRV_RET_CFG_IPARK 0
  match s.get SRV_PHASE a with
  | 1 => vcmDrive a (((s.free % (256 * park + 1) : Nat) : Int) - park * 128) s.used
  | 2 => vcmDrive a (-(s.get SRV_RET_CFG_IRET 0 * 128)) s
  | 3 => vcmDrive a (-(park * 128)) s
  | _ => s

/-- The retract engine takes actuator `a` (R290, R291): driver and DAC are the engine's, the microactuators are zeroed, and
the first phase starts. A parked actuator is only held; an open coil cannot be moved (R295); a retract under way goes on. -/
def retract (a : Nat) (s : State) : State × Follow :=
  if s.on SRV_OPEN a then (s, [])
  else if s.is SRV_STS_STATE a 0 then (s.setBit SRV_RET_STS_ENGAGED 0 a true, [])
  else if s.is SRV_STS_STATE a 4 then (s, [])
  else
    let t := s.setMany a [(SRV_STS_STATE, 4), (SRV_STS_BLEND, 0), (SRV_STS_RVLOCK, 0), (SRV_DRVEN, 1), (SRV_UNLOAD, 0),
      (SRV_PHASE, if velocityKnown a s then 1 else 2)]
    let t := ((t.setBit SRV_RET_STS_ENGAGED 0 a true).setBit SRV_RET_STS_PARKED 0 a false).bump SRV_RET_STS_RETRACTS 0
    let t := forBelow 12 (fun p u => u.setMany (12 * a + p) [(SRV_HSTS_SAT, 0), (SRV_SATN, 0), (SRV_PES_S, 0)]) (retractDrive a t)
    (linkSend a ⟨4, 0xF, 0, 0, none⟩ t, [(48 + 12 * a + 7, 0xFF)])

/-- Retract every actuator. -/
def retractAll : State → State × Follow := chain ((List.range 4).map retract)

/-- The heads of actuator `a` are taken out of service (R295, R541). -/
def headsOut (a : Nat) (s : State) : State × Follow :=
  memberStates (recheckActuator a (forBelow 12 (fun p t => t.set LAN_CTL_OOS (12 * a + p) 1) s))

/-- Retract, with the actuator's heads out of service (R297, R541). -/
def retractOut (a : Nat) : State → State × Follow := chain [retract a, headsOut a]

end Sys2Proof.Machine
end

