-- ==== Sys2Proof/Machine/SpindleCore.lean ====
section
/-!
DEFINITION. The spindle's states and drydowns (R304, R313, R341–R353, R356–R358), as far as the fault reactions need them.
-/

namespace Sys2Proof.Machine

/-- Every actuator is PARKED. -/
def allParked (s : State) : Bool := s.is SRV_RET_STS_PARKED 0 15

/-! ## Angles (R315, R316) -/

/-- θ_P exists (R315). -/
def pilotExists (s : State) : Bool := 1 ≤ s.get ANG_SRC_SRC 0 && s.get ANG_SRC_SRC 0 ≤ 3 && s.on ANG_SRC_REF 0

/-- θ_P for the electrical zero at tick `eofs`, in 1/64 electrical degree (R315). -/
def pilotAngleAt (eofs : Nat) (s : State) : Nat :=
  s.get SPN_MOTOR_PP 0 * ((s.tick + revTicks - eofs) % revTicks) % revTicks * 23040 / revTicks

/-- θ_P (R315). -/
def pilotAngle (s : State) : Nat := pilotAngleAt (s.get SPN_EOFS 0) s

/-- A difference of electrical angles, wrapped to half a turn. -/
def wrapElec (d : Int) : Int := (d + 11520) % 23040 - 11520

/-- The angle that the commutation angle moves to (R316, R318, R335, R341): the imposed one in ALIGN and OPENLOOP, θ_P while that is its
source, else the observer angle. -/
def angleSource (s : State) : Nat :=
  if s.is SPN_STATE_STATE 0 3 || s.is SPN_STATE_STATE 0 4 then s.get SPN_IMPANG 0 / 10000000
  else if s.on SPN_ONPILOT 0 && pilotExists s then pilotAngle s
  else s.get SPN_OBSANG 0

/-- The commutation angle (R316): its source with the difference still to be slewed. -/
def commAngle (s : State) : Nat := (((angleSource s : Int) + s.getI SPN_COMDIF 0) % 23040).toNat

/-- A change of the angle's source that leaves the commutation angle where it is, the difference to be slewed (R316, R318). -/
def keepAngle (f : State → State) (s : State) : State :=
  let t := f s
  t.setI SPN_COMDIF 0 (wrapElec ((commAngle s : Int) - angleSource t))

/-! ## States and the bridge -/

/-- The observer runs: the bridge is driven with a commutated vector in OPENLOOP, OBSERVER, PILOT and CATCH, or in DRYDOWN while
torque is held (R313). -/
def observerRuns (s : State) : Bool :=
  match s.get SPN_STATE_STATE 0 with
  | 4 => s.is SPN_BRIDGE 0 3
  | 5 | 6 | 8 => s.is SPN_BRIDGE 0 4
  | 9 => s.is SPN_BRIDGE 0 4 || s.is SPN_BRIDGE 0 5
  | _ => false

/-- A held observer has no lock (R313). -/
def holdObserver (s : State) : State :=
  if observerRuns s then s
  else s.setMany 0 [(SPN_STATE_OBSLOCK, 0), (SPN_LOCKN, 0), (SPN_ERRN, 0), (SPN_EMFN, 0), (SPN_OBSLOST, 0), (SPN_OBSSPD, 0)]

/-- Set what drives the bridge (R304): at high impedance no gate output is asserted. -/
def setBridge (b : Nat) (s : State) : State :=
  let t := s.set SPN_BRIDGE 0 b
  let t := if b = 1 then t.set SPN_BRAKED 0 0 else t
  holdObserver (if b = 0 then forBelow 6 (fun g u => u.set SPN_GATE g 0) (forBelow 3 (fun p u => u.setMany p
    [(SPN_ON, 0), (SPN_FIRST, 0), (SPN_CARRY, 0)]) t) else t)

/-- Enter a spindle state with the bridge driven as `b` (R332, R338, R340). A drydown under way is held in COAST, CATCH and DRYDOWN
alone (R343, R350). -/
def spnGo (st b : Nat) (s : State) : State :=
  let t := s.setMany 0 [(SPN_STATE_STATE, st), (SPN_AGREEN, 0), (SPN_DISN, 0), (SPN_SLEWING, 0), (SPN_INVN, 0)]
  let t := if st = 5 ∨ st = 6 then t else t.set SPN_STATE_LOADOK 0 0
  let t := if st = 5 then t else t.set SPN_CALRUN 0 0
  let t := if 7 ≤ st then t else t.setMany 0 [(SPN_DDKIND, 0), (SPN_DDREQ, 0)]
  let t := if st = 6 then t.setMany 0 [(SPN_ONPILOT, 1), (SPN_OBSLOST, 0)] else if st ≤ 4 ∨ st = 7 then t.set SPN_ONPILOT 0 0 else t
  setBridge b t

/-- The bridge is driven field-oriented or in regeneration. -/
def torqueHeld (s : State) : Bool := s.is SPN_BRIDGE 0 4

/-- An orderly drydown (R346, R347): the speed is held where torque is. -/
def orderlyDrydown (kind : Nat) (s : State) : State :=
  if s.is SPN_STATE_STATE 0 0 || s.is SPN_STATE_STATE 0 9 || s.is SPN_DDKIND 0 3 then s
  else
    (spnGo 9 (if torqueHeld s then 4 else 0) (s.setMany 0 [(SPN_DDKIND, kind), (SPN_DDREQ, 0), (SPN_STATE_DRYPEND, 1)])).emit
      .drydownEvent

/-- Apply the target (R325); while STOPPED or in DRYDOWN it is held. -/
def applyTarget (s : State) : State :=
  if s.is SPN_STATE_STATE 0 0 || s.is SPN_STATE_STATE 0 9 then s
  else
    let t := s.getI SPN_TGT 0
    if t < 0 then orderlyDrydown 1 s else if t < 48000 then orderlyDrydown 2 s else s

/-- What follows once every actuator is parked in a drydown that has requested it (R349, R350): a held START leads to SENSE, where the
target held takes effect (R325); a stop drydown brakes, any other sets the bridge to high impedance, but for regeneration, which runs until R353 ends it. -/
def parkedEnd (s : State) : State :=
  if !(s.is SPN_STATE_STATE 0 9 && s.on SPN_DDREQ 0 && allParked s) then s
  else if s.on SPN_HELD 0 then
    applyTarget (spnGo 1 0 (s.setMany 0 [(SPN_HELD, 0), (SPN_STATE_DRYPEND, 0), (SPN_STATE_LASTGASP, 0)]))
  else if s.is SPN_BRIDGE 0 5 then s
  else setBridge (if s.is SPN_DDKIND 0 1 then 1 else 0) s

/-- The drydown request to the retract engine (R347, R290). -/
def drydownRequest (s : State) : State × Follow :=
  let r := retractAll (s.setMany 0 [(SPN_DDREQ, 1), (SPN_STATE_DRYPEND, 0)])
  (parkedEnd r.1, r.2)

/-- DRYDOWN by an urgent cause, with the bridge driven as `b` (R348). -/
def enterDrydown (b : Nat) (s : State) : State × Follow := drydownRequest (spnGo 9 b (s.set SPN_DDKIND 0 3))

/-- An urgent drydown (R346, R348); `hiz` where its cause requires high impedance. None while STOPPED. -/
def urgentDrydown (hiz : Bool) (s : State) : State × Follow :=
  if s.is SPN_STATE_STATE 0 0 then (if hiz then setBridge 0 s else s, [])
  else
    enterDrydown (if !hiz && (torqueHeld s || s.is SPN_BRIDGE 0 5) then s.get SPN_BRIDGE 0 else 0) s

/-- Enter COAST (R341): the gates are deasserted and the coast source fires. -/
def enterCoast (s : State) : State × Follow := (spnGo 7 0 (s.bump SPN_CNT_COASTS 0), [(35, 0xFF)])

/-- A current-sense fault (R308): COAST, or high impedance in a drydown. -/
def senseLost (s : State) : State × Follow :=
  match s.get SPN_STATE_STATE 0 with
  | 0 | 1 | 7 => (s, [])
  | 9 => (setBridge 0 s, [])
  | _ => enterCoast s

/-- The first reaction to an overcurrent (R356, R357): all gates off, the switches await their test; a second one within 10 s,
or a phase-to-phase short, fails it. -/
def overcurrentOff (fails : Bool) (s : State) : State :=
  let t := setBridge 0 s
  if s.is SPN_STATE_STATE 0 0 then t
  else
    let again := s.on SPN_OCTIME 0 && decide (s.aonNs < s.get SPN_OCTIME 0 - 1 + 10000000000) && !s.on SPN_OCWAIT 0
    let t := if s.on SPN_OCWAIT 0 then t else t.set SPN_OCTIME 0 (s.aonNs + 1)
    (if fails || again then t.set SPN_OCFAIL 0 1 else t).set SPN_OCWAIT 0 1

/-- An urgent drydown with lock-out (R356–R358). -/
def lockOut (s : State) : State × Follow :=
  urgentDrydown true (s.setMany 0 [(SPN_STATE_FAULTLOCK, 1), (SPN_OCWAIT, 0), (SPN_OCFAIL, 0)])

/-- The contain reaction of the spindle's sources 24–27 and 31 (R541). -/
def containSpindle (n : Nat) (s : State) : State × Follow :=
  match n with
  | 24 => if s.on SPN_OCWAIT 0 then (s, []) else (overcurrentOff false s, [])
  | 26 => if s.on SPN_OCWAIT 0 then (s, []) else (overcurrentOff true s, [])
  | 31 => senseLost s
  | _ => lockOut s

/-- Regeneration can be used (R352, R353): there is a commutation angle, no overcurrent or wiring fault, and no drydown that has let the
bridge go (R344, R349). -/
def canRegenerate (s : State) : Bool :=
  (torqueHeld s || pilotExists s) && !s.on SPN_OCWAIT 0 && !s.on SPN_STATE_FAULTLOCK 0
    && !(s.is SPN_STATE_STATE 0 9 && s.is SPN_BRIDGE 0 0)

/-- Regeneration (R352): the regulator starts from no current, on the commutation angle in use or on θ_P. -/
def regenerate (s : State) : State × Follow :=
  let t := if torqueHeld s then s else s.setMany 0 [(SPN_ONPILOT, 1), (SPN_COMDIF, 0)]
  enterDrydown 5 (t.setMany 0 [(SPN_IDDEM, 0), (SPN_IQDEM, 0)])

/-- The spindle's part of a safe-state entry by source `n` (R351, R352, R543). A held START is dropped. -/
def spindleSafe (n : Nat) (s : State) : State × Follow :=
  if s.is SPN_STATE_STATE 0 0 then (setBridge 0 (s.set SPN_HELD 0 0), [])
  else
    let t := s.setMany 0 [(SPN_HELD, 0), (SPN_LGREF, s.get SPN_RAMPV 0)]
    if n = 39 && canRegenerate s then regenerate t else urgentDrydown true t

end Sys2Proof.Machine
end

