-- ==== Sys2Proof/Machine/HostCore.lean ====
section
/-!
DEFINITION. What the host side does on behalf of other blocks (spec/09, spec/10): completions and interrupts, asynchronous
events, error reporting, power-management events, the egress freeze, and the DMA halt (R422).
-/

namespace Sys2Proof.Machine

/-! ## Interrupts (R529, R530) -/

/-- The endpoint may originate a message: Bus Master Enable set, not frozen, in D0 (R511, R515, R523). -/
def mayIssue (s : State) : Bool := s.on PCI_STS_BME 0 && !s.on PCI_FRZ_FROZEN 0 && s.is PCI_STS_DSTATE 0 0 && s.on PCI_STS_DL_UP 0

/-- Some completion queue with IEN set holds entries that the host has not acknowledged. -/
def unacknowledged (s : State) : Bool := s.cqs.any fun q => q.2.ien && q.2.head != q.2.tail && q.2.agg == 0

/-- INTA follows its condition (R530). -/
def updateInta (s : State) : State :=
  let want := !s.on CFG_MSIXEN 0 && !(s.bit CFG_CMD 0 10) && s.on PCI_CFG_INTX_EN 0 && !(s.bit NVQ_INTM 0 0) && unacknowledged s
  if want = s.on CFG_INTA 0 then s
  else if mayIssue s then (s.set CFG_INTA 0 want.toNat).emit (.intx want) else s

/-- Signal MSI-X vector `v`: sent, or recorded in the PBA while it is masked or messages may not be issued (R511, R529). A message
produced during a freeze is discarded and counted (R516). -/
def signalVector (v : Nat) (s : State) : State :=
  if 256 < v then s
  else if !s.on CFG_MSIXEN 0 then updateInta s
  else if s.on PCI_FRZ_FROZEN 0 then s.bump PCI_FRZ_DROP 0
  else if s.on CFG_FMASK 0 || s.on MSIX_MASK v || !mayIssue s then s.set MSIX_PBA v 1
  else s.emit (.msix v)

/-- Send the vectors that are pending and may be sent. -/
def sendPending (s : State) : State :=
  if !mayIssue s || s.on CFG_FMASK 0 || !s.on CFG_MSIXEN 0 then s
  else forBelow 257 (fun v t => if t.on MSIX_PBA v && !t.on MSIX_MASK v then (t.set MSIX_PBA v 0).emit (.msix v) else t) s

/-! ## Completions (R443, R445, R501, R511, R516) -/

/-- The queue is full for one more entry. -/
def Cq.full (q : Cq) : Bool := (q.tail + 1) % Nat.max 2 q.size == q.head

/-- Interrupt Coalescing applies to a completion queue (R445). -/
def coalesced (qid : Nat) (q : Cq) (s : State) : Bool :=
  qid != 0 && s.get NVQ_COAL 0 % 256 != 0 && !s.on NVQ_IVC q.iv

/-- Write a completion entry into its queue and signal it; with an error status its first operand is the LBA of the Error Information entry
(R459). -/
def postEntry (c : Cpl) (s : State) : State :=
  match s.cqs.find c.sqid with
  | none => s
  | some q =>
    let bad := c.st != .success
    let t := s.bump NVQ_CNT_CMD 0
    let t := if bad then (t.bump NVQ_CNT_ERR 0).bump NVQ_ERRCNT 0 else t
    let t := if bad then { t with errs := (⟨t.get NVQ_ERRCNT 0, c.sqid, c.cid, c.st, c.dw.headD 0⟩ :: t.errs).take 64 } else t
    let hold := q.ien && coalesced c.sqid q s && decide (q.agg < s.get NVQ_COAL 0 % 256)
    let q' := { q with tail := (q.tail + 1) % Nat.max 2 q.size, agg := if hold then q.agg + 1 else 0 }
    let t := { t with cqs := t.cqs.put c.sqid q', out := t.out ++ c.data }.emit (.completion c.sqid c.cid c.st (if bad then [] else c.dw))
    if q.ien && !hold then signalVector q.iv t else t

/-- Post the entries of a list that can be posted, in order; those whose queue is full, or that follow one held for its queue,
stay. -/
def drainList : List Cpl → List Cpl → State → State
  | [], kept, s => { s with cpls := kept }
  | c :: t, kept, s =>
    match s.cqs.find c.sqid with
    | none => drainList t kept s
    | some q =>
      if q.full || kept.any (fun k => k.sqid == c.sqid) then drainList t (kept ++ [c]) s else drainList t kept (postEntry c s)

/-- Post what waits (R443, R512). -/
def drainCpls (s : State) : State := if mayIssue s then drainList s.cpls [] s else s

/-- Complete a command after its data transfers (R443, R501, R511): the entry is posted or becomes pending. During a freeze it is
discarded with the data and the command is not completed (R516). A command in flight of that identifier ends. -/
def completeWith (data : List Out) (sqid cid : Nat) (st : NvStatus) (dw : List Nat) (s : State) : State :=
  if s.on PCI_FRZ_FROZEN 0 then
    { s.add PCI_FRZ_DROP 0 (data.length + 1) with cmds := s.cmds.map fun c => if c.sqid = sqid ∧ c.cid = cid then { c with phase := .dropped } else c }
  else
    drainCpls { s with
      cmds := s.cmds.filter fun c => !(c.sqid == sqid && c.cid == cid)
      cpls := s.cpls ++ [⟨sqid, cid, st, dw, data⟩] }

/-- Complete a command that transfers no data. -/
def complete (sqid cid : Nat) (st : NvStatus) (dw : List Nat) (s : State) : State := completeWith [] sqid cid st dw s

/-! ## Asynchronous events (R484) -/

/-- The type of an event in the numbering of `State.evMask`. -/
def NvEvent.typ : NvEvent → Nat
  | .invalidDoorbellRegister | .invalidDoorbellValue => 0
  | .smart _ => 1
  | .activationStarting | .zoneChanged => 2
  | .vendorFault _ => 7

/-- The Asynchronous Event Configuration lets an event through. -/
def eventEnabled (e : NvEvent) (s : State) : Bool :=
  match e with
  | .invalidDoorbellRegister | .invalidDoorbellValue | .vendorFault _ => true
  | .smart w => (s.get NVQ_AEC 0 &&& w) % 256 != 0
  | .activationStarting => s.bit NVQ_AEC 0 9
  | .zoneChanged => s.bit NVQ_AEC 0 27

/-- Report queued events to outstanding requests; a reported type is not reported again until its log has been read. -/
def deliverEvents : List NvEvent → List NvEvent → State → State
  | [], kept, s => { s with events := kept }
  | e :: t, kept, s =>
    match s.cmds.find? fun c => c.phase == .event with
    | some c =>
      if s.evMask.contains e.typ then deliverEvents t (kept ++ [e]) s
      else deliverEvents t kept
        (complete c.sqid c.cid .success [] ({ s with evMask := e.typ :: s.evMask }.emit (.event c.cid e)))
    | none => deliverEvents t (kept ++ [e]) s

/-- Raise an asynchronous event; the same event is queued once. -/
def raiseEvent (e : NvEvent) (s : State) : State :=
  if !eventEnabled e s then s
  else
    let l := if s.events.contains e then s.events else s.events ++ [e]
    deliverEvents l [] s

/-! ## Error reporting (R520, R521) -/

/-- Send an error message if the Device Control register enables its kind; none leaves in D3hot (R523), nor during a freeze, which counts it
as discarded (R515, R516). -/
def errorMessage (kind : Nat) (s : State) : State :=
  let t := s.setBit CFG_DEVSTS 0 kind true
  if (s.bit CFG_DEVCTL 0 kind || (kind != 0 && s.bit CFG_CMD 0 8)) && s.on PCI_STS_DL_UP 0 && s.is PCI_STS_DSTATE 0 0 then
    let u := if kind = 0 then t else t.setBit CFG_STATUS 0 14 true
    if s.on PCI_FRZ_FROZEN 0 then u.bump PCI_FRZ_DROP 0 else u.emit (.errMsg kind)
  else t

/-- A correctable error of AER bit `b`. -/
def aerCorrectable (b : Nat) (s : State) : State :=
  let t := s.setBit CFG_CES 0 b true
  if s.bit CFG_CEM 0 b then t.setBit CFG_DEVSTS 0 0 true else errorMessage 0 t

/-- Log a request's header with an uncorrectable error that is the first to be held; the header's words are not stated. -/
def logHeader (b : Nat) (s : State) : State :=
  if s.on CFG_UES 0 then s
  else { s.setMany 0 [(CFG_FEP, b)] with fresh := s.fresh + 4 }.set CFG_HLOG 0 (Config.freeValue s.fresh)
    |>.set CFG_HLOG 1 (Config.freeValue (s.fresh + 1)) |>.set CFG_HLOG 2 (Config.freeValue (s.fresh + 2))
    |>.set CFG_HLOG 3 (Config.freeValue (s.fresh + 3))

/-- An uncorrectable error of AER bit `b`; `advisory` while its severity is non-fatal (R507). -/
def aerUncorrectable (b : Nat) (advisory : Bool) (s : State) : State :=
  let t := (logHeader b s).setBit CFG_UES 0 b true
  if s.bit CFG_UEM 0 b then t
  else if s.bit CFG_UESEV 0 b then errorMessage 2 t
  else if advisory then aerCorrectable 13 t else errorMessage 1 t

/-! ## Power-management events (R525) -/

/-- A PME event of an enabled kind: PEND, and with PME_En PME_Status and the message, unless a freeze discards it (R515, R516), or the pin. -/
def pmeEvent (enabled : Bool) (s : State) : State :=
  if !enabled then s
  else
    let t := s.set PCI_PME_PEND 0 1
    if !t.on CFG_PMEEN 0 then t
    else
      let t := t.set CFG_PMESTS 0 1
      if t.is PCI_STS_LSTATE 0 5 || t.on PAD_PWRBAD 0 then t.set PAD_WAKE 0 1
      else if !t.is PCI_STS_DSTATE 0 3 then t
      else if t.on PCI_FRZ_FROZEN 0 then t.bump PCI_FRZ_DROP 0 else t.emit .pmPme

/-! ## Egress freeze (R515, R516) and DMA halt (R422) -/

/-- Freeze egress. -/
def freezeEgress (byFault : Bool) (s : State) : State × Follow :=
  let t := s.setMany 0 [(PCI_FRZ_FROZEN, 1), (PCI_STS_FROZEN, 1)]
  let t := if byFault then t.setMany 0 [(PCI_FRZ_BY_FAULT, 1), (NVQ_CFS, 1)] else t
  (t, if s.on PCI_FRZ_FROZEN 0 then [] else [(267, 0xFF)])

/-- Halt DMA channels by mask. -/
def haltDma (m : Nat) (s : State) : State := s.set BUF_DMAHALT 0 (s.get BUF_DMAHALT 0 ||| m)

/-! ## Loop-engine contexts that are killed (R381, R392, R393) -/

/-- The image of a bank's region. -/
def State.image (s : State) (bank region : Nat) : LpeImage := NMap.get LpeImage.empty s.images (2 * bank + region)

/-- The context-table entry of context `c` in a bank, and whether it is a customer one. -/
def tableEntry (bank c : Nat) (s : State) : Option (CtxEntry × Bool) :=
  match (s.image bank 0).table.find? fun e => e.ctx == c with
  | some e => some (e, false)
  | none => match (s.image bank 1).table.find? fun e => e.ctx == c with
    | some e => if s.on LPE_EMPTY bank then none else some (e, true)
    | none => none

/-- A context takes the configuration of the active bank's table (R392). -/
def takeConfig (c : Nat) (s : State) : State :=
  let t := forBelow 32 (fun i u => u.set CTX_X (32 * c + i) 0) s
  let t := forBelow 4 (fun i u => u.set CTX_ACC (4 * c + i) 0) t
  let t := t.setMany c [(CTX_N, 0), (CTX_Z, 0), (CTX_V, 0), (CTX_OLD, 0)]
  match tableEntry (t.get LPE_IMGSTS_ACTIVE 0) c t with
  | none => t.set LPE_CTX_EN c 0
  | some (e, cust) =>
    let t := t.setMany c [(LPE_CTX_ENTRY, e.entry), (LPE_CTX_PRIO, e.prio), (LPE_CTX_SRC, e.src), (LPE_CTX_EN, 1),
      (LPE_CTX_CUST, cust.toNat), (CTX_PC, e.entry)]
    let t := t.set CTX_X (32 * c + 30) e.x30
    forBelow 8 (fun i u => u.set CTX_B (8 * c + i) (e.b.getD i 0)) t

/-- OLDBUSY holds while a run of the old bank has not ended (R393). -/
def showOld (s : State) : State :=
  s.set LPE_IMGSTS_OLDBUSY 0 ((List.range 64).any fun c => s.on CTX_OLD c).toNat

/-- A run has ended or was killed while the bank had been swapped: the context takes the new configuration. -/
def afterRun (c : Nat) (s : State) : State := if s.on CTX_OLD c then showOld (takeConfig c s) else s

/-- Kill a context (R381): at its next word boundary if a word of it is stalled. An IDLE context has nothing to end. -/
def killContext (c : Nat) (s : State) : State :=
  if s.is LPE_CTXSTS_STATE c 0 then s
  else if s.on CTX_STALL c then s.set CTX_KILLP c 1
  else
    let t := { s with stage := s.stage.del c, word := s.word.del c }
    afterRun c (t.setMany c [(LPE_CTXSTS_PENDING, 0), (LPE_CTXSTS_STATE, 0), (LPE_CTXSTS_KILLED, 1), (CTX_KILLP, 0), (CTX_WORDS, 0),
      (CTX_PC, s.get LPE_CTX_ENTRY c)])

end Sys2Proof.Machine
end

