-- ==== Sys2Proof/Machine/Reactions.lean ====
section
/-!
DEFINITION. The reactions of other blocks to a fault (R540–R543): contain, safe state, notifications. Each answers the new
state and the sources that the reaction itself makes assert, for the collector to take next.
-/

namespace Sys2Proof.Machine

/-- FAULT_N (R547): asserted while a source whose severity is at least FAULTN is in its fault state; with FAULTN at 3 exactly
while the safe state holds. -/
def updateFaultN (s : State) : State :=
  let lim := s.get FLT_CTL_FAULTN 0
  let on := if lim = 3 then s.on FLT_SAFE_ACTIVE 0
    else (List.range 512).any fun n => s.on FLT_CNT_FSTATE n && decide (lim ≤ s.get FLT_CURSEV n)
  s.set PAD_FAULT 0 on.toNat

/-- Host notification of an entry into a fault state at severity `sev` (R540, R521, R484, R525). -/
def notify (n sev : Nat) (s : State) : State :=
  let t := if s.on FLT_SEV_AER n then if sev = 1 then aerCorrectable 14 s else aerUncorrectable 22 false s else s
  let t := if t.on FLT_SEV_AEN n then raiseEvent (.vendorFault n) t else t
  if t.on FLT_SEV_WAKE n then pmeEvent (t.on PCI_PME_FAULT 0) t else t

/-- The contain reaction of R541. -/
def contain (n inst : Nat) (s : State) : State × Follow :=
  if 8 ≤ n ∧ n ≤ 11 then (s.set GLB_HELD (n - 8) 1, [])
  else if (24 ≤ n ∧ n ≤ 27) ∨ n = 31 then containSpindle n s
  else if 48 ≤ n ∧ n < 96 then
    let k := (n - 48) % 12
    if k = 0 ∨ (3 ≤ k ∧ k ≤ 6) then retractOut ((n - 48) / 12) s else (s, [])
  else if 96 ≤ n ∧ n < 128 then if (n - 96) % 8 = 3 then (setWen ((n - 96) / 8) 0 s, []) else (s, [])
  else if 128 ≤ n ∧ n < 160 then
    let a := (n - 128) / 8
    let k := (n - 128) % 8
    if (k = 1 ∨ k = 2 ∨ k = 4 ∨ k = 6) ∧ inst < 12 then
      let t := setWen a (withBit (s.get HLK_WEN a) inst false) s
      if k ≤ 2 then memberStates (recheckWrite (12 * a + inst) (t.set LAN_CTL_OOS (12 * a + inst) 1)) else (t, [])
    else (s, [])
  else if n = 197 then (s.setMany 0 [(FMT_CTL_RUN, 0), (FMT_STS_RUNNING, 0)], [])
  else if n = 210 ∨ n = 215 then (s.setMany 0 [(ACD_CTL_RUN, 0), (ACD_STS_RUNNING, 0)], [])
  else if n = 224 ∨ n = 225 then if inst < 64 then (killContext inst s, []) else (s, [])
  else if n = 243 then if inst < 16 then (haltDma (2 ^ inst) s, []) else (s, [])
  else if n = 341 then (s.set MGR_SYNCLOW 0 1, [])
  else (s, [])

/-- The safe-state reactions of R542, for an entry by source `n`: write gates, DMA, egress, head links, spindle, retract engine,
and the dump (R556; cause 3 at a power loss, 6 otherwise, R557). -/
def safeReactions (n : Nat) (s : State) : State × Follow :=
  chain [fun t => (haltDma 0xFFFF (recheckWrites t), []), freezeEgress true,
    fun t => (forBelow 4 inhibitLink t, []), spindleSafe n, retractAll,
    dumpTrigger (if n = 39 && s.on SPN_STATE_LASTGASP 0 then 3 else 6)] s

/-- What ends when the safe state is left (R544): the retract engine lets go of the actuators that it has parked. DMA channels,
egress and spindle resume by their own rules. -/
def safeExit (s : State) : State :=
  forBelow 4 (fun a t => if t.is SRV_STS_STATE a 0 then t.setBit SRV_RET_STS_ENGAGED 0 a false else t) s

end Sys2Proof.Machine
end

