-- ==== Sys2Proof/Machine/Faults.lean ====
section
/-!
DEFINITION. The fault collector (R533–R549): assertion and deassertion of a source's instances, fault states, severities,
first capture, maceration, lock-out.
-/

namespace Sys2Proof.Machine

/-- The block snapshot of an entry (R553). -/
def snapshot (n inst : Nat) (s : State) : Nat × Nat :=
  let w r i := s.regWord r i 0
  if n < 16 then (w reg_GLB_BOOT 0, 0)
  else if n < 24 then (w reg_ANG_SRC 0, w reg_ANG_PLT_AMP 0)
  else if n < 48 then (w reg_SPN_STATE 0, w reg_SPN_BUS 0)
  else if n < 96 then
    if (n - 48) % 12 < 9 then (w reg_SRV_STS ((n - 48) / 12), sensedCurrent ((n - 48) / 12) s)
    else (w reg_SRV_HSTS (12 * ((n - 48) / 12) + inst), w reg_SRV_PES (12 * ((n - 48) / 12) + inst))
  else if n < 160 then
    let a := (n - 96) / 8 % 4
    (w reg_HLK_STS a, w reg_HLK_FLAG (3 * a + inst / 4))
  else if n < 192 then
    let l := 12 * ((n - 160) / 8) + inst
    (w reg_LAN_STS l, w reg_LAN_SYNCV l)
  else if n < 196 then (w reg_DEC_STS 0, 0)
  else if n < 208 then (w reg_FMT_STS 0, 0)
  else if n < 224 then (w reg_ACD_STS 0, 0)
  else if n < 240 then (w reg_LPE_STS 0, 0)
  else if n < 256 then (s.get BUF_ELOGNEW 0 % 2 ^ 32, s.get BUF_ELOGNEW 0 / 2 ^ 32)
  else if n < 264 then (w reg_NVQ_STS 0, 0)
  else if n < 272 then (w reg_PCI_STS 0, w reg_PCI_TAGS 0)
  else if n < 288 then (w reg_GLB_BOOT 0, 0)
  else if n = 288 then (s.get FLT_LOCKSRC 0, 0)
  else if n = 289 then (w reg_FLT_SAFE 0, 0)
  else if n = 290 then (w reg_BNR_STS 0, 0)
  else if n < 336 then (w reg_CLB_NODE 0, w reg_CLB_ORDER 0)
  else if n < 448 then (w reg_MGR_STS 0, 0)
  else (0, 0)

/-- The asserted instances of source `n`. -/
def State.liveOf (s : State) (n : Nat) : List LiveInst := NMap.get [] s.live n

/-- Set the asserted instances and the live level with them (R534). -/
def State.setLive (s : State) (n : Nat) (l : List LiveInst) : State :=
  { s with live := if l.isEmpty then s.live.del n else s.live.put n l }.setBit FLT_LIVE (n / 32) (n % 32) !l.isEmpty

/-- An entry of an edge or state of source `n`. -/
def State.enterSource (s : State) (typ n inst : Nat) : State :=
  let d := snapshot n inst s
  s.enter typ n (s.get FLT_CURSEV n) inst (s.get FLT_CNT_RCNT n) d.1 d.2

/-- First capture (R546). -/
def capture (n inst : Nat) (s : State) : State :=
  if !s.on FLT_FIRST_VALID 0 && s.get FLT_CTL_FIRSTSEV 0 ≤ s.get FLT_SEV_SEV n then
    s.setMany 0 [(FLT_FIRST_SRC, n), (FLT_FIRST_SEV, s.get FLT_SEV_SEV n), (FLT_FIRST_INST, inst), (FLT_FIRST_VALID, 1),
      (FLT_FIRST_LO, s.stamp), (FLT_FIRST_HI, s.stamp / 2 ^ 32), (FLT_FIRST_TIME, s.timeUs)]
  else s

/-- A severity-3 entry: the safe state is entered if it does not hold yet (R542). A spindle wiring fault during regeneration
sets the bridge to high impedance (R543). -/
def safeEnter (n : Nat) (s : State) : State × Follow :=
  if s.on FLT_SAFE_ACTIVE 0 then (if 24 ≤ n ∧ n ≤ 27 then setBridge 0 s else s, [])
  else safeReactions n (((s.set FLT_SAFE_ACTIVE 0 1).bump FLT_SAFE_ENTRIES 0).enterSource 4 n 0xFF)

/-- The reaction of an assertion (R539, R666): `entering` when it enters the source's fault state. -/
def react (entering : Bool) (n inst : Nat) (s : State) : State × Follow :=
  let sev := s.get FLT_CURSEV n
  if entering then
    if sev = 0 then (s, [])
    else
      let t := notify n sev (s.emit (.coreIrq (some n) none))
      let t := if 2 ≤ sev then triggerSrc 56 t.stamp [] t else t
      if sev = 2 then contain n inst t else if sev = 3 then safeEnter n t else (t, [])
  else if sev = 2 then contain n inst s
  else (s, [])

/-- Whether an edge is entered in the record (R549, R554). -/
def edgeEntered (n : Nat) (s : State) : Bool :=
  !(s.on FLT_CNT_LOCKOUT n && s.get FLT_CURSEV n ≤ 1) && s.get FLT_ASN n < 8

/-- An instance of a source asserts (R535, R548, R666). A reserved source never asserts (R537); an instance that is
asserted already has no new edge. -/
def assertSource (n inst : Nat) (s : State) : State × Follow :=
  if (defSev n).isNone || (s.liveOf n).any (fun e => e.inst == inst) then (s, [])
  else
    let entering := !s.on FLT_CNT_FSTATE n
    let t := capture n inst ((s.setBit FLT_STS (n / 32) (n % 32) true).bump FLT_CNT_ASSERTS n)
    let t := if entering then t.setMany n [(FLT_CNT_FSTATE, 1), (FLT_CURSEV, s.get FLT_SEV_SEV n), (FLT_EDGES, 0),
      (FLT_ASN, 0)] else t
    let ent := edgeEntered n t
    let t := if ent then t.enterSource 0 n inst else t
    let t := t.setLive n (t.liveOf n ++ [⟨inst, ent⟩])
    let t := ((t.bump FLT_EDGES n).set FLT_ASN n (Nat.min 9 (t.get FLT_ASN n + 1))).set FLT_TIMER n 0
    let r := react entering n inst (silTriggerAll 3 n t)
    (updateFaultN r.1, r.2)

/-- An instance of a source deasserts (R548, R554). -/
def deassertSource (n inst : Nat) (s : State) : State :=
  match (s.liveOf n).find? (fun e => e.inst == inst) with
  | none => s
  | some e =>
    let t := if e.entered then s.enterSource 1 n inst else s
    let t := t.setLive n ((t.liveOf n).filter fun x => x.inst != inst)
    let t := t.bump FLT_EDGES n
    if (t.liveOf n).isEmpty then t.set FLT_TIMER n 1 else t

/-- `FLT_INJECT` holds the instance live (R538). -/
def injected (n inst : Nat) (s : State) : Bool := s.on FLT_INJECT_ASSERT 0 && s.is FLT_INJECT_SRC 0 n && s.is FLT_INJECT_INST 0 inst

/-- The condition of an instance ends; an injected one stays live until its injection ends (R538). -/
def lower (n inst : Nat) (s : State) : State := if injected n inst s then s.set FLT_INJREAL 0 0 else deassertSource n inst s

/-- Collect a list of assertions that end at once, with what follows from each, for `k` assertions at most. -/
def collect : Nat → Follow → State → State
  | 0, _, s => s
  | _, [], s => s
  | k + 1, (n, i) :: q, s =>
    let r := assertSource n i s
    collect k (q ++ r.2) (if injected n i r.1 then r.1 else deassertSource n i r.1)

/-- The most assertions that one command can bring about in this model. -/
def collectFuel : Nat := 256

/-- A source asserts and stays live (a condition that holds until `lower`), beside an injection of the same instance (R538). -/
def raise (n inst : Nat) (s : State) : State :=
  let r := assertSource n inst (if injected n inst s && (s.liveOf n).any (fun e => e.inst == inst) then s.set FLT_INJREAL 0 1 else s)
  collect collectFuel r.2 r.1

/-- A source fires: it asserts and deasserts at once (log entry 5). -/
def pulse (n inst : Nat) (s : State) : State := collect collectFuel [(n, inst)] s

/-- Run a reaction and collect what follows from it. -/
def withFollow (r : State × Follow) : State := collect collectFuel r.2 r.1

/-- Fire what triggers and captures have brought about between `s` and `t`: the trigger-merge source of a context whose
sixteenth merge within a revolution was counted (R373), and the capture-loss source of a unit (R398). -/
def settleTrace (s t : State) : State :=
  let t := forBelow 64 (fun c x => if x.is CTX_MCNT c 16 && !s.is CTX_MCNT c 16 then pulse 229 c x else x) t
  forBelow 8 (fun u x => if x.get LPE_SIL_STS_LOST u != s.get LPE_SIL_STS_LOST u then pulse 234 u x else x) t

/-- Raise or lower by a condition. -/
def level (n inst : Nat) (c : Bool) (s : State) : State := if c then raise n inst s else lower n inst s

end Sys2Proof.Machine
end

