-- ==== Sys2Proof/Machine/Buffer.lean ====
section
/-!
DEFINITION. The buffer manager (spec/08): the DRAM check and its decoding, the merge buffer, fill, poison, scrubbers, the error
log, page retirement, and errors in SRAM.

Memory is held by data-space address, before the retirement map: a mapped page and its spare page are one page here, and the spare
pool cannot be addressed (R431; log entry 36).
-/

namespace Sys2Proof.Machine

/-! ## The check (R404–R406, R423) -/

/-- α to the powers 67, 66, …, 0: the locators of byte positions 0 to 67 of a code word. -/
def rsLocators : List Nat := ((List.range 67).foldl (fun l _ => gfMul 2 (l.headD 1) :: l) [1])

/-- Syndrome `j` of an error vector over the 68 positions. -/
def rsSyndrome (e : List Nat) (j : Nat) : Nat :=
  (e.zip rsLocators).foldl (fun a x => if x.1 = 0 then a else a ^^^ gfMul x.1 (gfPow x.2 j)) 0

/-- The four syndromes. -/
def rsSyndromes (e : List Nat) : List Nat := (List.range 4).map (rsSyndrome e)

/-- Byte `i` of a 4-byte check. -/
def checkByte (v i : Nat) : Nat := v / 2 ^ (8 * i) % 256

/-- The error vector of the errors met by an access and of what the stored check differs by. -/
def errorVector (errs : List ByteErr) (chk : Nat) : List Nat :=
  (List.range 68).map fun p =>
    (errs.foldl (fun a e => if e.pos.val = p then a ^^^ e.x.toNat else a) 0) ^^^ (if 64 ≤ p then checkByte chk (p - 64) else 0)

/-- The pattern that marks a poisoned line (R423). -/
def poisonPattern : Nat := 0xA5C33C5A

/-- The one-byte error of the syndromes: position and value. -/
def rsOne (s : List Nat) : Option (List (Nat × Nat)) :=
  let s0 := s.getD 0 0
  let s1 := s.getD 1 0
  if s0 = 0 then none
  else
    let x := gfMul s1 (gfInv s0)
    if gfMul s1 x = s.getD 2 0 ∧ gfMul (gfMul s1 x) x = s.getD 3 0 then
      (rsLocators.findIdx? (· == x)).map fun p => [(p, s0)]
    else none

/-- The two-byte error of the syndromes. -/
def rsTwo (s : List Nat) : Option (List (Nat × Nat)) :=
  let s0 := s.getD 0 0
  let s1 := s.getD 1 0
  let s2 := s.getD 2 0
  let s3 := s.getD 3 0
  let det := gfMul s1 s1 ^^^ gfMul s0 s2
  if det = 0 then none
  else
    let d := gfInv det
    let a := gfMul (gfMul s1 s2 ^^^ gfMul s0 s3) d
    let b := gfMul (gfMul s1 s3 ^^^ gfMul s2 s2) d
    match (rsLocators.zipIdx.filter fun l => (gfMul l.1 l.1 ^^^ gfMul a l.1 ^^^ b) == 0) with
    | [x, y] =>
      let u := gfMul (s1 ^^^ gfMul y.1 s0) (gfInv (x.1 ^^^ y.1))
      if u = 0 ∨ u = s0 then none else some [(x.2, u), (y.2, s0 ^^^ u)]
    | _ => none

/-- The outcome of decoding a line. -/
inductive LineRes where
  | clean | corrected | uncorrectable | poisoned
  deriving DecidableEq, Repr

/-- The error that a decode of mode `mode` takes the syndromes for, if it corrects one (R406). -/
def rsCorrection (mode : Nat) (syn : List Nat) : Option (List (Nat × Nat)) :=
  match mode with
  | 0 => match rsOne syn with
    | some c => some c
    | none => rsTwo syn
  | 1 => rsOne syn
  | _ => none

/-- Decode an error vector (R406, R423): the outcome, and what the 64 data bytes delivered differ by from those stored. -/
def decodeLine (mode : Nat) (e : List Nat) : LineRes × List Nat :=
  let syn := rsSyndromes e
  let zero := List.replicate 64 0
  if syn.all (· == 0) then (.clean, e.take 64)
  else if syn = rsSyndromes (errorVector [] poisonPattern) then (.poisoned, zero)
  else match rsCorrection mode syn with
    | some c => (.corrected, (e.take 64).zipIdx.map fun x => c.foldl (fun a y => if y.1 = x.2 then a ^^^ y.2 else a) x.1)
    | none => (.uncorrectable, zero)

/-- The check of 64 data bytes, as its four bytes (R405): the one that makes the syndromes zero. -/
def rsCheck (d : List Nat) : Nat :=
  let step (r : List Nat) (b : Nat) : List Nat :=
    let f := b ^^^ r.getD 0 0
    -- the generator (x + 1)(x + 2)(x + 4)(x + 8) = x^4 + 15 x^3 + 54 x^2 + 120 x + 64
    [r.getD 1 0 ^^^ gfMul f 15, r.getD 2 0 ^^^ gfMul f 54, r.getD 3 0 ^^^ gfMul f 120, gfMul f 64]
  let r := d.foldl step [0, 0, 0, 0]
  r.getD 0 0 + r.getD 1 0 * 2 ^ 8 + r.getD 2 0 * 2 ^ 16 + r.getD 3 0 * 2 ^ 24

/-! ## Places (R403, R431) -/

/-- The internal address of data-space offset 0. -/
def dramBase : Nat := 0x1000000000

/-- The end of the data space. -/
def dataEnd (s : State) : Nat := s.get BUF_CFG_SIZE 0 * 1006632960

/-- The page lies in the spare pool. -/
def inPool (page : Nat) (s : State) : Bool :=
  decide (s.get BUF_RETIRE_BASE 0 ≤ page) && decide (page < s.get BUF_RETIRE_BASE 0 + 1024)

/-- The data-space offset that an access may go to. -/
def dataOffset (addr : Nat) (s : State) : Option Nat :=
  if dramBase ≤ addr ∧ addr - dramBase < dataEnd s ∧ !inPool ((addr - dramBase) / 65536) s then some (addr - dramBase) else none

/-- The channel of a DMA master, as the instance of its sources. -/
def masterInst : BufMaster → Nat
  | .dma ch _ => ch.val
  | _ => 0xFF

/-- The MASTER code of the error log (R430). A host access through a window is logged as a DMA channel's (log entry 36). -/
def masterCode : BufMaster → Nat
  | .dma _ _ | .host => 0
  | .lane _ => 1
  | .dec => 2
  | .acd => 3
  | .fmt => 4
  | .core _ => 5
  | .scrub => 6

/-- A DMA channel halts on data that it may not deliver (R422). -/
def dmaFails (who : BufMaster) (s : State) : State :=
  match who with
  | .dma ch _ => pulse 252 ch.val (haltDma (2 ^ ch.val) s)
  | _ => s

/-- An access that is refused (R403, R656). -/
def decodeError (who : BufMaster) (s : State) : State := dmaFails who (pulse 243 (masterInst who) s)

/-! ## Error log (R430) -/

/-- Bits [63:0] of an entry. -/
def LogEntry.low (e : LogEntry) : Nat := e.block % 2 ^ 29 + e.space % 8 * 2 ^ 29 + e.syndrome % 2 ^ 32 * 2 ^ 32

/-- The entry that a full log gives up: the oldest with UE clear, or the oldest. -/
def elogVictim (l : NMap LogEntry) : Nat :=
  let older (a b : Nat × LogEntry) : Nat × LogEntry := if b.2.seq < a.2.seq then b else a
  match l.filter fun x => !x.2.ue with
  | x :: t => (t.foldl older x).1
  | [] => match l with
    | x :: t => (t.foldl older x).1
    | [] => 0

/-- Log a finding. -/
def elogAdd (space block syn : Nat) (ue pois : Bool) (master : Nat) (s : State) : State :=
  match s.elog.find? fun x => x.2.space == space && x.2.block == block with
  | some (i, e) =>
    { s with elog := s.elog.put i { e with count := Nat.min 0xFFFF (e.count + 1), ue := e.ue || ue, poisoned := e.poisoned || pois } }
  | none =>
    let full := decide (256 ≤ s.elog.length)
    let i := if full then elogVictim s.elog else s.elog.length
    let n := s.elog.foldl (fun a x => Nat.max a (x.2.seq + 1)) 0
    let e : LogEntry := ⟨n, block, space, syn, 1, ue, pois, master, s.aonNs / 1000000 % 2 ^ 32⟩
    let t := { s with elog := s.elog.put i e }.setMany 0 [(BUF_ELOG_HEAD_HEAD, i), (BUF_ELOGNEW, e.low)]
    if full then t.set BUF_ELOG_HEAD_WRAPPED 0 1 else t

/-- A block at a DRAM address whose protection information does not match at an internal stage (R425, R426): the source, and the address in the
error log, with a syndrome that the spec does not state. -/
def piMismatch (a master : Nat) (s : State) : State :=
  pulse 251 0xFF (elogAdd 0 ((a - dramBase) / 64) (s.free % 2 ^ 32) false false master s.used)

/-! ## Lines -/

/-- The stored check of a line differs by the pattern of poison. -/
def poisonLine (line : Nat) (s : State) : State := { s with chkx := s.chkx.put line poisonPattern }

/-- A line written whole takes a correct check (R423). -/
def cleanLine (line : Nat) (s : State) : State := { s with chkx := s.chkx.del line }

/-- The 64 bytes of a line. -/
def lineBytes (line : Nat) (s : State) : List (BitVec 8) := s.mem.readList (dramBase + 64 * line) 64

/-- Bytes with a difference applied to each. -/
def applyDelta (l : List (BitVec 8)) (d : List Nat) : List (BitVec 8) := l.zipWith (fun b x => b ^^^ BitVec.ofNat 8 x) d

/-- Positions of a line that its merge entry covers keep their bytes: the difference there is none. -/
def maskDelta (line : Nat) (d : List Nat) (s : State) : List Nat :=
  match s.merge.find? fun m => m.line == line with
  | some m => d.zipIdx.map fun x => if m.bytes.any (fun b => b.1 == x.2) then 0 else x.1
  | none => d

/-- Write a line back as a decode has delivered it. -/
def writeBack (line : Nat) (d : List Nat) (s : State) : State :=
  cleanLine line { s with mem := s.mem.writeList (dramBase + 64 * line) (applyDelta (lineBytes line s) (maskDelta line d s)) }

/-- The syndrome word of the error log. -/
def synWord (e : List Nat) : Nat := ofBytes ((rsSyndromes e).map (BitVec.ofNat 8))

/-- The errors that a read of a line meets. -/
def lineErrors (line : Nat) (errs : List ByteErr) (s : State) : List Nat := errorVector errs (NMap.get 0 s.chkx line)

/-- Count and log what a decode found (R424, R430): an uncorrectable line is poisoned. -/
def recordLine (res : LineRes) (line : Nat) (e : List Nat) (pois : Bool) (master : Nat) (s : State) : State :=
  match res with
  | .clean => s
  | .corrected => elogAdd 0 line (synWord e) false false master (s.bump BUF_ERR_CE 0)
  | .uncorrectable =>
    let t := elogAdd 0 line (synWord e) true pois master (s.bump BUF_ERR_UE 0)
    pulse 241 0xFF (if pois then poisonLine line t else t)
  | .poisoned => elogAdd 0 line (synWord e) true true master s

/-! ## Merge buffer (R417–R420) -/

/-- Show the number of merge entries. -/
def showMerge (s : State) : State := s.set BUF_MERGE_OCC 0 s.merge.length

/-- Drop the entry of a line. -/
def dropEntry (line : Nat) (s : State) : State := showMerge { s with merge := s.merge.filter fun m => m.line != line }

/-- Flush an entry (R419, R420): a complete one as a full line; an incomplete one over the line as it decodes. -/
def flushEntry (m : MergeEntry) (errs : List ByteErr) (s : State) : State :=
  if m.bytes.length = 64 then dropEntry m.line (cleanLine m.line s)
  else
    let e := lineErrors m.line errs s
    let r := decodeLine (s.get BUF_ECC_MODE 0) e
    match r.1 with
    | .clean | .corrected => dropEntry m.line (writeBack m.line r.2 (recordLine r.1 m.line e false 7 s))
    | _ => pulse 250 0xFF (dropEntry m.line (recordLine r.1 m.line e true 7 s))

/-- Flush every entry: a barrier (R419). -/
def barrier (s : State) : State := s.merge.foldl (fun t m => flushEntry m [] t) s

/-- Set byte `p` in a list of bytes by position. -/
def putByte : List (Nat × BitVec 8) → Nat × BitVec 8 → List (Nat × BitVec 8)
  | [], x => [x]
  | y :: t, x => if y.1 = x.1 then x :: t else y :: putByte t x

/-- A write within one line, from byte `off` of it on (R417). -/
def writeLine (line off : Nat) (data : List (BitVec 8)) (errs : List ByteErr) (s : State) : State :=
  let put (t : State) : State := { t with mem := t.mem.writeList (dramBase + 64 * line + off) data }
  if off = 0 ∧ data.length = 64 then dropEntry line (cleanLine line (put s))
  else
    let new := data.zipIdx.map fun x => (off + x.2, x.1)
    match s.merge.find? fun m => m.line == line with
    | some m =>
      let m' := { m with bytes := new.foldl putByte m.bytes }
      let t := put { s with merge := s.merge.map fun x => if x.line = line then m' else x }
      if m'.bytes.length = 64 then flushEntry m' [] t else t
    | none =>
      let t := match s.merge with
        | m :: _ => if 64 ≤ s.merge.length then flushEntry m errs s else s
        | [] => s
      showMerge (put { t with merge := t.merge ++ [⟨line, new, t.aonNs⟩] })

/-- A write from data-space offset `o` on, line by line. -/
def writeLines (o : Nat) (errs : List ByteErr) : Nat → List (BitVec 8) → State → State
  | 0, _, s => s
  | k + 1, data, s =>
    match data with
    | [] => s
    | _ =>
      let n := 64 - o % 64
      writeLines (o + n) errs k (data.drop n) (writeLine (o / 64) (o % 64) (data.take n) errs s)

/-! ## Fill (R412–R415) -/

/-- The page has not been filled: neither below the watermark nor in the pre-filled list. -/
def unfilled (page : Nat) (s : State) : Bool := s.get BUF_FILL_WM 0 ≤ page && !s.prefill.contains page

/-- The pages of `n` bytes from data-space offset `o` on. -/
def pagesOf (o n : Nat) : List Nat := (List.range ((o % 65536 + n + 65535) / 65536)).map (o / 65536 + ·)

/-- Count data traffic: what the last ms moved is shown (R434). -/
def countTraffic (n : Nat) (s : State) : State :=
  let ms := s.aonNs / 1000000 % 2 ^ 48
  let t := if s.is BUF_TRFMS 0 ms then s
    else
      let m := Nat.min 0xFFFF (s.get BUF_TRFB 0 / 100000)
      let v := if s.get BUF_TRFMS 0 + 1 = ms then m else 0
      s.setMany 0 [(BUF_TRAFFIC_NOW, v), (BUF_TRAFFIC_PEAK, Nat.max m (s.get BUF_TRAFFIC_PEAK 0)), (BUF_TRFB, 0), (BUF_TRFMS, ms)]
  t.add BUF_TRFB 0 n

/-- A write of the data space that may take place (R414, R432): it is held while its page is being retired or the pre-filled
list is full. -/
def storeData (o : Nat) (data : List (BitVec 8)) (errs : List ByteErr) (s : State) : State :=
  let ps := pagesOf o data.length
  let new := ps.filter fun p => unfilled p s
  match s.retire with
  | some r =>
    if ps.contains r.page then { s with retire := some { r with held := r.held ++ [(o, data)] } }
    else if 64 < s.prefill.length + new.length then { s with fillQ := s.fillQ ++ [(o, data)] }
    else
      let t := { s with prefill := s.prefill ++ new }
      writeLines o errs (data.length / 64 + 2) data (t.set BUF_FILL_OCC 0 t.prefill.length)
  | none =>
    if 64 < s.prefill.length + new.length then { s with fillQ := s.fillQ ++ [(o, data)] }
    else
      let t := { s with prefill := s.prefill ++ new }
      writeLines o errs (data.length / 64 + 2) data (t.set BUF_FILL_OCC 0 t.prefill.length)

/-- Every byte of a write lies at a data-space offset that may be accessed. -/
def writable (addr n : Nat) (s : State) : Bool :=
  (dataOffset addr s).isSome && (dataOffset (addr + n - 1) s).isSome && (pagesOf (addr - dramBase) n).all fun p => !inPool p s

/-- DRAM_WRITE (R403, R414, R417, R432). -/
def dramWrite (who : BufMaster) (addr : Nat) (data : List (BitVec 8)) (errs : List ByteErr) (s : State) : State :=
  if data.isEmpty then s
  else if !writable addr data.length s then decodeError who s
  else storeData (addr - dramBase) data errs (countTraffic data.length s)

/-- What a reader does on an instruction or load that cannot be delivered (R421), or a DMA channel (R422). -/
def readFails (who : BufMaster) (addr : Nat) (s : State) : State :=
  match who with
  | .core m => pulse (12 + m.val) 0xFF (s.emit (.coreTrap m.val addr))
  | _ => dmaFails who s

/-- A master whose uncorrectable reads BUF poisons (R424). -/
def poisons : BufMaster → Bool
  | .core _ | .dma _ _ => false
  | _ => true

/-- DRAM_READ of the line at an address (R403, R406, R413, R418, R421–R424): the line is returned as one number. -/
def dramRead (who : BufMaster) (addr : Nat) (errs : List ByteErr) (s : State) : State :=
  match dataOffset addr s with
  | none => (decodeError who s).ret 0
  | some o =>
    let s := countTraffic 64 s
    if unfilled (o / 65536) s then s.ret 0
    else
      let line := o / 64
      let e := lineErrors line errs s
      let r := decodeLine (s.get BUF_ECC_MODE 0) e
      let t := recordLine r.1 line e (poisons who) (masterCode who) s
      match r.1 with
      | .clean | .corrected => t.ret (ofBytes (applyDelta (lineBytes line s) (maskDelta line r.2 s)))
      | .uncorrectable => readFails who addr t
      | .poisoned => readFails who addr (pulse 242 (masterInst who) t)

/-- BACKGROUND_FILL_PAGE (R412, R414, R415): the next page is filled, and the writes whose pages the watermark has passed take place. -/
def backgroundFillPage (s : State) : State :=
  let page := s.get BUF_FILL_WM 0
  let last := dataEnd s / 65536
  if !s.on BUF_STS_TRAINED 0 || s.on BUF_STS_FILLED 0 || last ≤ page then s
  else
    let t := { s with prefill := s.prefill.filter (· != page) }.setMany 0 [(BUF_FILL_WM, page + 1)]
    let t := t.setMany 0 [(BUF_FILL_OCC, t.prefill.length), (BUF_STS_FILLED, (decide (last ≤ page + 1)).toNat)]
    let late (w : Nat × List (BitVec 8)) : Bool := (pagesOf w.1 w.2.length).any fun p => unfilled p t
    (t.fillQ.filter fun w => !late w).foldl (fun u w => storeData w.1 w.2 [] u) { t with fillQ := t.fillQ.filter late }

/-- SRAM_FILL_DONE (R410): the flag; the boot engine goes on by itself. -/
def sramFilled (s : State) : State := s.set BUF_STS_SRAM_FILLED 0 1

/-- MERGE_TIMEOUT (R419): the oldest entry whose time has passed is flushed. -/
def mergeTimeout (errs : List ByteErr) (s : State) : State :=
  match s.merge.find? fun m => decide (m.since + 10 * s.get BUF_MERGE_TMO 0 ≤ s.aonNs) with
  | some m => flushEntry m errs s
  | none => s

/-- BUF_FENCE (R419). -/
def bufFence (s : State) : State := barrier s

/-- Whatever a barrier's action makes visible follows the entries (R419): a completion or an MSI-X message has left. -/
def settleBarrier (s t : State) : State :=
  if (t.out.drop s.out.length).any fun o => match o with
    | .completion _ _ _ _ | .msix _ => true
    | _ => false
  then barrier t else t

/-! ## Scrubbers (R427–R429) -/

/-- The scrubber's next block. -/
def scrubNext (blk : Nat) (s : State) : State :=
  let wrap := decide (dataEnd s / 64 ≤ blk) || decide (s.get BUF_FILL_WM 0 * 1024 ≤ blk)
  let b := if wrap then 0 else blk
  let t := s.setMany 0 [(BUF_SCRBLK, b), (BUF_SCRB_POS_PAGE, b / 1024)]
  if wrap then t.bump BUF_SCRB_POS_PASSES 0 else t

/-- The page is being retired. -/
def retiring (page : Nat) (s : State) : Bool := match s.retire with | some r => r.page == page | none => false

/-- SCRUB_BLOCK (R427, R428): pages being retired and the spare pool are passed over. -/
def scrubBlock (errs : List ByteErr) (s : State) : State :=
  let blk := s.get BUF_SCRBLK 0
  let page := blk / 1024
  if !s.on BUF_SCRB_RATE 0 || !s.on BUF_STS_TRAINED 0 || s.get BUF_FILL_WM 0 ≤ page then s
  else if inPool page s || retiring page s then scrubNext ((page + 1) * 1024) s
  else
    let e := lineErrors blk errs s
    let r := decodeLine (s.get BUF_ECC_MODE 0) e
    let t := recordLine r.1 blk e true 6 s
    scrubNext (blk + 1) (if r.1 = .corrected then writeBack blk r.2 t else t)

/-- The SPACE code of an SRAM (R430). -/
def sramSpace : SramKind → Nat
  | .insn => 2
  | .data => 3
  | .zone => 4
  | _ => 5

/-- The internal address lies in a loop-engine bank, the active one first (R370, R655). -/
def controlStore (a : Nat) : Bool := decide (0x10000000 ≤ a) && decide (a < 0x10200000)

/-- The source of an uncorrectable word of an SRAM (R394, R409, R537), by internal byte address. -/
def sramSource (k : SramKind) (addr : Nat) : Nat :=
  match k with
  | .insn => 246
  | .data => 247
  | .zone => 249
  | .lpe => if controlStore addr then 224 else 225
  | .fmtStore => 197
  | _ => 248

/-- The word of a loop-engine bank at an internal address: bank · 2^16 + word. -/
def bankWord (a : Nat) (s : State) : Nat :=
  65536 * (if a < 0x10100000 then s.get LPE_IMGSTS_ACTIVE 0 else 1 - s.get LPE_IMGSTS_ACTIVE 0) + (a - 0x10000000) / 16 % 65536

/-- The mark of an uncorrectable loop-engine word: that of its bank word, or 131,072 and more for a 64-bit word of data memory. -/
def lpeMark (a : Nat) (s : State) : Nat := if controlStore a then bankWord a s else 131072 + (a - 0x10400000) / 8

/-- What an error does to the SRAM's own block: loop-engine words are counted or marked (R394), an uncorrectable word of the format
sequencer's store clears STORE_OK (R187, R409). -/
def sramOwner (k : SramKind) (addr : Nat) (ue : Bool) (s : State) : State :=
  match k with
  | .lpe =>
    if ue then { s with csBad := (s.csBad ++ [lpeMark addr s]).eraseDups }
    else if controlStore addr then s.bump LPE_ECC_CS 0 else s.bump LPE_ECC_DM 0
  | .fmtStore => if ue then s.set FMT_STS_STORE_OK 0 0 else s
  | _ => s

/-- Count and log an error of an SRAM word; the SECDED syndrome is not stated (log entry 36). -/
def sramError (k : SramKind) (word : Nat) (ue : Bool) (master : Nat) (s : State) : State :=
  let t := elogAdd (sramSpace k) word (s.free % 256) ue false master s.used
  sramOwner k (8 * word) ue (if ue then t.bump BUF_SRAM_UE 0 else t.bump BUF_SRAM_CE 0)

/-- SRAM_SCRUB (R429): what one pass has found; the loop-engine control stores have their own walker. -/
def sramScrub (found : List (SramKind × Nat × Bool)) (s : State) : State :=
  forAll (found.filter fun f => !(f.1 == .lpe && controlStore (8 * f.2.1))) (fun (f : SramKind × Nat × Bool) t =>
    let u := sramError f.1 f.2.1 f.2.2 6 t
    if f.2.2 then pulse (sramSource f.1 (8 * f.2.1)) 0xFF u else u) s

/-- A frame whose word in the write buffer cannot be read (R409): not started, or truncated before the word. -/
def writeBufferError (l : Nat) (s : State) : State :=
  if s.on LAN_STS_WRITING l || s.on LAN_SPLIT l then truncate l s
  else s.setLane l { s.lane l with wbuf := (s.lane l).wbuf.drop 1 }

/-- An uncorrectable word of a staging buffer (R409): its 16 channel bits have reliability 0. DEDUCED: the buffers lie in the order of their lanes, and
the codewords of a lane that wait take them in the order in which they were staged (log entry 36). -/
def stagingError (addr : Nat) (s : State) : State :=
  let b := addr / 18576
  let first := 4 + 16 * (addr % 18576 / 8)
  let lost (soft : List (BitVec 4)) : List (BitVec 4) :=
    soft.zipIdx.map fun x => if first ≤ x.2 && x.2 < first + 16 then x.1 &&& 8#4 else x.1
  match (s.waiting.filter fun w => w.lane == b / 16 && w.cls < 2)[b % 16]? with
  | some v => { s with waiting := s.waiting.map fun w => if w = v then { w with soft := lost w.soft } else w }
  | none => s

/-- SRAM_READ (R409, R421, R422): `err` 0 none, 1 corrected, 2 uncorrectable. A failed operation of the last row of R409 is
repeated once before its source fires. -/
def sramRead (k : SramKind) (addr : Nat) (who : BufMaster) (err : Nat) (s : State) : State :=
  let word := addr / 8
  let data (t : State) : State := t.ret (t.mem.word (word * 8) 8)
  match err with
  | 0 => data (if s.is BUF_SRAMFAIL 0 (addr + 1) then s.set BUF_SRAMFAIL 0 0 else s)
  | 1 => data (sramError k word false (masterCode who) s)
  | _ =>
    let t := sramError k word true (masterCode who) s
    match k with
    | .insn | .data => readFails who addr (pulse (sramSource k addr) 0xFF t)
    | .zone | .lpe | .fmtStore => pulse (sramSource k addr) 0xFF t
    | .staging => stagingError addr t
    | .writeBuf => match who with
      | .lane l => writeBufferError l.val t
      | _ => t
    | .other =>
      if t.is BUF_SRAMFAIL 0 (addr + 1) then pulse 248 0xFF (t.set BUF_SRAMFAIL 0 0) else t.set BUF_SRAMFAIL 0 (addr + 1)

/-! ## Retirement (R431–R433) -/

/-- The map entry that holds a page, if any. -/
def mapEntryOf (page : Nat) (s : State) : Option Nat :=
  (List.range 1024).find? fun i => s.on BUF_RMAP_VALID i && s.is BUF_RMAP_PAGE i page

/-- The number of valid map entries. -/
def mapCount (s : State) : Nat := (List.range 1024).countP fun i => s.on BUF_RMAP_VALID i

/-- RETIRE_GO (R432). -/
def retireGo (v : Nat) (s : State) : State :=
  let i := bits v 0 10
  let p := bits v 10 19
  let s := if v.testBit 31 then s.set BUF_RETIRE_CTL_ERR 0 0 else s
  let s := s.setMany 0 [(BUF_RETIRE_CTL_INDEX, i), (BUF_RETIRE_CTL_PAGE, p)]
  if !v.testBit 29 then s
  else if s.on BUF_RMAP_VALID i || inPool p s || decide (dataEnd s ≤ p * 65536) || s.retire.isSome then
    s.set BUF_RETIRE_CTL_ERR 0 1
  else
    let t := (s.merge.filter fun m => m.line / 1024 == p).foldl (fun u m => flushEntry m [] u) s
    { t with retire := some ⟨i, p, []⟩ }.set BUF_RETIRE_CTL_BUSY 0 1

/-- RETIRE_DONE (R431–R433): `bad` are the lines of the page that the copy could not read. -/
def retireDone (bad : List Nat) (s : State) : State :=
  match s.retire with
  | none => s
  | some r =>
    let t := forAll bad (fun n u =>
      let line := r.page * 1024 + n % 1024
      pulse 241 0xFF (poisonLine line (elogAdd 0 line u.free true true 8 (u.used.bump BUF_ERR_UE 0)))) s
    let t := match mapEntryOf r.page t with
      | some j => t.set BUF_RMAP_VALID j 0
      | none => t
    let t := { t.setMany r.index [(BUF_RMAP_PAGE, r.page), (BUF_RMAP_VALID, 1)] with retire := none }
    let n := mapCount t
    let t := t.setMany 0 [(BUF_RETIRE_CTL_BUSY, 0), (BUF_RETIRE_CNT, n)]
    let t := r.held.foldl (fun u w => storeData w.1 w.2 [] u) t
    if 1024 < n + 16 then pulse 253 0xFF t else t

/-- DMA_RESUME (R422). -/
def dmaResume (mask : Nat) (s : State) : State :=
  s.set BUF_DMAHALT 0 ((List.range 16).foldl (fun a i => if s.bit BUF_DMAHALT 0 i && !mask.testBit i then a + 2 ^ i else a) 0)

/-- WCK2DQ_TRACKING (R402): the oscillator tracking has no effect that the spec gives to any state. -/
def wck2dqTracking (s : State) : State := s

/-! ## Diagnostic path (R403, R404, R434) -/

/-- The line whose check lies at a word of the check region: the words of channel 0 first, in ascending local order
(log entry 36). -/
def diagLine (w : Nat) (s : State) : Nat :=
  let per := s.get BUF_CFG_SIZE 0 * 4194304
  let c := w / Nat.max 1 per % 4
  let o' := w % Nat.max 1 per * 64
  let g := o' / 1024
  -- the 4 KiB granule g holds one KiB of each channel; bits [11:10] follow from the channel and bits [21:20] (R404)
  let hi := g * 4096
  (hi + (c ^^^ hi / 1048576 % 4) * 1024 + o' % 1024) / 64

/-- The check word at `BUF_DIAG_ADR`, with the diagnostic unlock; zero without it (R434, log entry 36). -/
def diagRead (s : State) : Nat :=
  if !s.on NVQ_UNLOCK 0 then 0 else
  let l := diagLine (s.get BUF_DIAG_ADR 0) s
  rsCheck ((lineBytes l s).map BitVec.toNat) ^^^ NMap.get 0 s.chkx l

/-- Write that check word, with the diagnostic unlock (R434). -/
def diagWrite (v : Nat) (s : State) : State :=
  if !s.on NVQ_UNLOCK 0 then s else
  let l := diagLine (s.get BUF_DIAG_ADR 0) s
  let x := rsCheck ((lineBytes l s).map BitVec.toNat) ^^^ v % 2 ^ 32
  { s with chkx := if x = 0 then s.chkx.del l else s.chkx.put l x }

/-! ## Lines written and read whole (R406, R423) -/

/-- The DRAM lines that `n` bytes from an internal address on lie in. -/
def linesOf (a n : Nat) : List Nat :=
  let l := (a - dramBase) / 64
  (List.range ((a + n - 1 - dramBase) / 64 + 1 - l)).map (l + ·)

/-- A read of the line finds its data lost (R406, R423). -/
def lineLost (line : Nat) (s : State) : Bool :=
  NMap.get 0 s.chkx line != 0 && match (decodeLine (s.get BUF_ECC_MODE 0) (lineErrors line [] s)).1 with
    | .uncorrectable | .poisoned => true
    | _ => false

/-- The lines of `n` bytes from an internal address on take correct checks: they are written whole (R423). -/
def cleanRange (a n : Nat) (s : State) : State := { s with chkx := s.chkx.filter fun e => !(linesOf a n).contains e.1 }

end Sys2Proof.Machine
end

