-- ==== Sys2Proof/Machine/Angle.lean ====
section
/-!
DEFINITION. The angle timebase (spec/01): pilot samples, source selection, the stamp, index references, comparators.
-/

namespace Sys2Proof.Machine

/-- The phase that a sensor's polarity fields make of the raw one (R29): the exchange first, then the inversions. The raw
phase is that of (sine, cosine); exchanging them reflects it about an eighth of a cycle. -/
def correctPhase (n phase : Nat) (s : State) : Nat :=
  let p : Int := phase
  let p := if s.on ANG_PLT_CFG_SWAP n then 256 - p else p
  let p := if s.on ANG_PLT_CFG_INV_S n then -p else p
  let p := if s.on ANG_PLT_CFG_INV_C n then 512 - p else p
  (p % 1024).toNat

/-- The difference of two 10-bit phases, wrapped to half a ring cycle. -/
def phaseStep (new old : Nat) : Int := ((new : Int) - old + 512) % 1024 - 512

/-- A tick difference wrapped to half a revolution. -/
def wrapTicks (d : Int) : Int := (d + 2097152) % 4194304 - 2097152

/-- A sensor's own angle in ticks (R27). -/
def ownAngle (n : Nat) (s : State) : Nat := s.get ANG_POS n / 4

/-- The angle seen through sensor `n` (R27), projected by its tracking filter to the present cycle. -/
def seenAngle (n : Nat) (s : State) : Nat :=
  (((ownAngle n s + (if n = 1 then s.get ANG_PLT1_OFS 0 else 0) : Nat) + s.getI ANG_PROJ n) % 4194304).toNat

/-- The four correction coefficients of sensor `n` (R33): C1, S1, C2, S2. -/
def eccCoeffs (n : Nat) (s : State) : List Int :=
  (List.range 4).map fun i => if n = 0 then s.getI ANG_ECC i else s.getI ANG_ECC1 i

/-- The sine of tick `t` of a revolution, in units of 2^-60. -/
def sineTick (t : Nat) : Int := sineTurn t revTicks

/-- C1·cos θ + S1·sin θ + C2·cos 2θ + S2·sin 2θ in units of 2^-60 tick, of coefficients C1, S1, C2, S2 at tick `θ` (R33). -/
def eccSum (c : List Int) (θ : Nat) : Int :=
  (c.zipWith (· * ·) [sineTick (θ + 1048576), sineTick θ, sineTick (2 * θ + 1048576), sineTick (2 * θ)]).sum

/-- The correction in whole ticks: the spec gives no rounding, so a sum between two ticks becomes one of them (log entry 6). -/
def eccTicks (c : List Int) (θ : Nat) : Int :=
  let v := eccSum c θ
  v / 2 ^ 60 + (if v % 2 ^ 60 = 0 then 0 else (Config.eccentricityUp c θ).toNat)

/-- The angle of sensor `n` after its eccentricity correction (R33). -/
def singleAngle (n : Nat) (s : State) : Nat :=
  let θ := seenAngle n s
  (((θ : Int) - eccTicks (eccCoeffs n s) θ) % 4194304).toNat

/-- The mean of both sensors over their wrapped difference (R32). DESIGN CHOICE: of an odd difference the lower of the two middle ticks
is taken, for which the spec gives no rounding (log entry 6). -/
def dualAngle (s : State) : Nat :=
  let d := wrapTicks ((seenAngle 1 s : Int) - seenAngle 0 s)
  (((seenAngle 0 s : Int) + d / 2) % 4194304).toNat

/-- The angle of a pilot source (R32, R33, R35). -/
def sourceAngle (src : Nat) (s : State) : Nat :=
  if src = 1 then dualAngle s else if src = 2 then singleAngle 0 s else singleAngle 1 s

/-- The source is DUAL, PLT0 or PLT1. -/
def pilotSource (src : Nat) : Bool := decide (1 ≤ src) && decide (src ≤ 3)

/-- The source takes its angle from sensor `n`. -/
def usesSensor (src n : Nat) : Bool := src == 1 || src == 2 + n

/-- Every sensor of the source has met its index signature, so that its angle is absolute (R27). -/
def referenced (src : Nat) (s : State) : Bool :=
  (!usesSensor src 0 || s.on ANG_HASREF 0) && (!usesSensor src 1 || s.on ANG_HASREF 1)

/-- Sensor `n` is enabled. -/
def plotEnabled (n : Nat) (s : State) : Bool := if n = 0 then s.on ANG_SRCSEL_EN0 0 else s.on ANG_SRCSEL_EN1 0

/-- The VALID flag of sensor `n`. -/
def validField (n : Nat) : Field := if n = 0 then ANG_SRC_VALID0 else ANG_SRC_VALID1

/-- Sensor `n` is enabled, valid and not awaiting re-qualification (R35, R36, R38). The source that ANG keeps over a warm reset (R44)
counts as valid until its sensor is sampled again (DEDUCED, log entry 6). -/
def usable (n : Nat) (s : State) : Bool :=
  plotEnabled n s && (s.on (validField n) 0 || (!s.on ANG_SEEN n && usesSensor (s.get ANG_SRC_SRC 0) n)) && !s.on ANG_REQUAL n

/-- The source table of R35. -/
def chooseSource (s : State) : Nat :=
  if usable 0 s && usable 1 s && s.on ANG_SRCSEL_DUAL_EN 0 then 1
  else if usable 0 s then 2
  else if usable 1 s then 3
  else if s.on ANG_SRCSEL_OBS_EN 0 && s.on SPN_STATE_OBSLOCK 0 then 4
  else 0

/-- The condition of PRECISE (R40). -/
def preciseNow (s : State) : Bool := pilotSource (s.get ANG_SRC_SRC 0) && s.on ANG_SRC_REF 0 && !s.on ANG_SRC_SLEW 0

/-- PRECISE and the write-permit line (R40). -/
def updatePrecise (s : State) : State := recheckWrites (s.set ANG_SRC_PRECISE 0 (preciseNow s).toNat)

/-- Mark the comparators that a step from stamp `a` to `b` passes over (R30, R46). -/
def markPassed (a b : Nat) (s : State) : State :=
  forBelow 256 (fun n t =>
    if t.on ANG_CMP_EN n && decide (a < t.get ANG_CMP_TARGET n) && decide (t.get ANG_CMP_TARGET n < b)
    then t.set ANG_CMPLATE n 1 else t) s

/-- Tick 0 passes forward (R42, R50, R371): `ANG_PERIOD` takes the time since the passage before, and the index event is raised.
DESIGN CHOICE: a revolution that began before a warm reset counts as the first complete one after it, for which the spec gives no rule:
the passage before is sticky, as the angle is (log entry 6). -/
def passIndex (s : State) : State :=
  let t := if s.on ANG_IDXVALID 0 then s.set ANG_PERIOD 0 (Nat.min 0xFFFFFFFF ((s.aonNs - s.get ANG_LASTIDX 0) / 20)) else s
  settleTrace t (triggerSrc 55 t.stamp [] ((t.set ANG_LASTIDX 0 t.aonNs).set ANG_IDXVALID 0 1))

/-- A forward step of the stamp to tick `target` (R30, R38): every receiver treats the angles that it passes over as passed. The
comparators passed are late, ages that span it are not recorded (R386), the index event is raised if tick 0 is passed, and
`ANG_STEPLEN` keeps its length for the boundaries passed in this cycle. -/
def forwardStep (target : Nat) (s : State) : State :=
  let n := (target + revTicks - s.tick) % revTicks
  let b := s.stamp + n
  let t := ((markPassed s.stamp b (s.setStamp b)).bump ANG_EPOCH 0).set ANG_STEPLEN 0 n
  let t := t.add ANG_STILLPOS 0 n
  if s.stamp / revTicks = b / revTicks then t else passIndex t

/-- Remove the difference between the stamp and an absolute tick (R38): nothing, a slew, or one forward step, which fires
the forward-step source. -/
def approach (target : Nat) (s : State) : State :=
  let d := wrapTicks ((target : Int) - s.tick)
  if d = 0 then s.setMany 0 [(ANG_SRC_SLEW, 0), (ANG_SLEWREM, 0), (ANG_SLEWDUE, 0)]
  else if d.natAbs ≤ 0x80000 then
    ((s.setI ANG_SLEWREM 0 d).set ANG_SRC_SLEW 0 1).setMany 0 [(ANG_SLEWDUE, 0), (ANG_SLEWCNT, 0)]
  else pulse 20 0xFF ((forwardStep target s).setMany 0 [(ANG_SRC_SLEW, 0), (ANG_SLEWREM, 0), (ANG_SLEWDUE, 0)])

/-- The stamp goes on from its current value on a source whose angle is not absolute: their difference stands (R37, R43). -/
def standOff (src : Nat) (s : State) : State :=
  (s.setI ANG_SRCOFS 0 (wrapTicks ((sourceAngle src s : Int) - s.tick))).setMany 0
    [(ANG_SRC_SLEW, 0), (ANG_SLEWREM, 0), (ANG_SLEWDUE, 0)]

/-- Join the stamp to a newly selected source (R37, R38): to the angle of a pilot source once both are absolute; otherwise it goes on
as it stands. The fraction of a tick that a rate had accumulated is dropped (log entry 6). -/
def joinSource (src : Nat) (s : State) : State :=
  let t := s.setMany 0 [(ANG_SRCOFS, 0), (ANG_FRAC, 0)]
  if !pilotSource src then t.setMany 0 [(ANG_SRC_SLEW, 0), (ANG_SLEWREM, 0), (ANG_SLEWDUE, 0)]
  else if t.on ANG_SRC_REF 0 && referenced src t then approach (sourceAngle src t) t
  else standOff src t

/-- Select the source by R35 and act on a change (R37, R38, R40). -/
def selectSource (s : State) : State :=
  let new := chooseSource s
  if new = s.get ANG_SRC_SRC 0 then s
  else pulse 19 0xFF (updatePrecise (joinSource new (((s.set ANG_SRC_SRC 0 new).bump ANG_SRC_CHANGES 0).bump ANG_EPOCH 0)))

/-- Validity of sensor `n` set or cleared, with its source 16 + n (R34, R36): a sensor that loses validity must be
re-qualified before it is selected again. -/
def setValid (n : Nat) (v : Bool) (s : State) : State :=
  if s.on (validField n) 0 = v then s
  else if v then lower (16 + n) 0xFF ((s.set (validField n) 0 1).setMany n [(ANG_OKADV, 0), (ANG_OKIDX, 0)])
  else
    let t := (s.set (validField n) 0 0).set ANG_REQUAL n 1
    if plotEnabled n t then raise (16 + n) 0xFF t else t

/-- A disagreeing sensor is declared invalid (R36): it must be re-qualified, also where it was not valid yet. -/
def declareInvalid (n : Nat) (s : State) : State := (setValid n false s).set ANG_REQUAL n 1

/-- The first tick after cold reset (R43). -/
def startTick (n : Nat) (s : State) : State :=
  if s.on ANG_STARTED 0 || !s.on (validField n) 0 || (n = 1 && s.on ANG_SRC_VALID0 0) then s
  else (s.setStamp (s.stamp - s.tick + s.get ANG_PHASE n / 4)).set ANG_STARTED 0 1

/-- The third condition of R34 fails: both sensors are enabled and their corrected angles, the one of this sample and the other
projected to the same instant, differ by more than the limit. A sensor not sampled yet has no angle to compare. -/
def disagree (s : State) : Bool :=
  plotEnabled 0 s && plotEnabled 1 s && s.on ANG_SAMPLED 0 && s.on ANG_SAMPLED 1
    && decide ((s.get ANG_DIS_LIM 0 : Int) < (wrapTicks ((singleAngle 0 s : Int) - singleAngle 1 s)).natAbs)

/-- Ticks in units of 2^-20/1,000 tick, in which `ANG_RATE` counts per ns (R50). -/
def fineTick : Int := 1048576000

/-- The tick predicted from the previous stamp and `ANG_RATE` (R36), in fine units: the stamp at the previous sample of either sensor,
advanced at the last rate for the time since (DEDUCED, log entry 6). -/
def predicted (s : State) : Int :=
  let d : Int := (s.get ANG_RATE 0 * (s.aonNs - s.get ANG_PREVNS 0) : Nat)
  (s.get ANG_PREVSTAMP 0 % revTicks : Nat) * fineTick + (if s.on ANG_SRC_DIR 0 then -d else d)

/-- Distance of sensor `k` from the predicted tick, in fine units. -/
def predictionError (k : Nat) (s : State) : Nat :=
  let rev := 4194304 * fineTick
  (((singleAngle k s : Int) * fineTick - predicted s + rev / 2) % rev - rev / 2).natAbs

/-- Of two disagreeing sensors, the one that is declared invalid (R36): of two valid in amplitude the farther one from the predicted
tick, PLT1 on a tie; otherwise the one whose amplitude is not valid (DEDUCED, log entry 6). -/
def outvoted (s : State) : Nat :=
  if s.on ANG_AMPOK 0 && s.on ANG_AMPOK 1 then (if predictionError 1 s < predictionError 0 s then 0 else 1)
  else if s.on ANG_AMPOK 0 then 1 else 0

/-- What a sample of sensor `n` measures: its corrected phase, the ticks it has moved, its amplitude and whether both conditions of R34
on the signal hold (R28, R29, R31, R34). -/
def takeSample (n phase amp : Nat) (clip sig : Bool) (proj : Int) (s : State) : State :=
  let p := correctPhase n phase s
  let step := if s.on ANG_SAMPLED n then phaseStep p (s.get ANG_PHASE n) else 0
  let t := if s.on ANG_SAMPLED n then s.setI ANG_POS n ((s.get ANG_POS n : Int) + step) else s.set ANG_POS n p
  let nom := s.get ANG_PLT_CFG_AMP_NOM n
  let inBand := decide (nom * s.get ANG_AMP_LIM_LO 0 ≤ amp * 100) && decide (amp * 100 ≤ nom * s.get ANG_AMP_LIM_HI 0)
  let t := (t.set (if n = 0 then ANG_PLT_AMP_PLT0 else ANG_PLT_AMP_PLT1) 0 amp).setMany n
    [(ANG_PHASE, p), (ANG_SAMPLED, 1), (ANG_PROJ, 0), (ANG_AMPOK, ((sig || inBand) && !clip).toNat)]
  let t := if t.on (validField n) 0 then t.setI ANG_OKADV n (clampI (-16777216) 16777216 (t.getI ANG_OKADV n + step)) else t
  t.setI ANG_PROJ (1 - n) (wrapTicks proj)

/-- The validity of both sensors after a sample of sensor `n` (R34, R36). -/
def judgeSample (n : Nat) (s : State) : State :=
  let bad := disagree s
  let t := if bad then pulse 18 0xFF (declareInvalid (outvoted s) s) else s
  setValid n (t.on ANG_AMPOK n && !(bad && outvoted s = n)) t

/-- PILOT_SAMPLE (R28, R29, R31, R34–R36, R43): of a valid sensor the measured speed and direction are taken. -/
def pilotSample (n phase amp : Nat) (clip sig rev : Bool) (rate : Nat) (proj : Int) (s : State) : State :=
  let t := startTick n ((judgeSample n (takeSample n phase amp clip sig proj s)).set ANG_SEEN n 1)
  let t := if t.on (validField n) 0 then t.setMany 0 [(ANG_RATE, rate), (ANG_SRC_DIR, rev.toNat)] else t
  selectSource (t.setMany 0 [(ANG_PREVSTAMP, t.stamp), (ANG_PREVNS, t.aonNs)])

/-- The tick that passes at one angle-clock cycle while the stamp advances at a given rate (R37): `num / den` ticks per ns. -/
def rateTick (num den : Nat) (s : State) : State × Bool :=
  let f := s.get ANG_FRAC 0 + num
  if den ≤ f then (s.set ANG_FRAC 0 (f - den), true) else (s.set ANG_FRAC 0 f, false)

/-- Move the stamp one tick forward (R42). -/
def tickForward (s : State) : State :=
  let t := s.setStamp (s.stamp + 1)
  if t.tick ≠ 0 then t else passIndex t

/-- Move the stamp one tick backward (R42). -/
def tickBack (s : State) : State :=
  let t := s.setStamp (s.stamp + 2 ^ 64 - 1)
  if t.tick = revTicks - 1 then t.set ANG_IDXVALID 0 0 else t

/-- Count a forward tick towards the slew (R38): one tick of the difference falls due per 4,096. -/
def countSlew (s : State) : State :=
  if !s.on ANG_SRC_SLEW 0 then s
  else if s.get ANG_SLEWCNT 0 = 4095 then (s.set ANG_SLEWCNT 0 0).set ANG_SLEWDUE 0 1
  else s.bump ANG_SLEWCNT 0

/-- One tick of the difference has been removed; at zero SLEW clears (R38, R40). -/
def slewed (s : State) : State :=
  let r := s.getI ANG_SLEWREM 0
  let r' := if 0 < r then r - 1 else r + 1
  let t := (s.setI ANG_SLEWREM 0 r').set ANG_SLEWDUE 0 0
  if r' = 0 then updatePrecise (t.set ANG_SRC_SLEW 0 0) else t

/-- The stamp follows a pilot source (R30, R32, R33, R38, R39): it moves by at most one tick towards the source's angle less the
difference that still stands, and backward only while DIR reads reverse. A slew tick that is due is taken off the difference; the tick
by which the stamp then moves for the slew alone is no tick of rotation, and one that it omits for the slew is. -/
def followPilot (s : State) : State :=
  let extra := s.on ANG_SLEWDUE 0 && decide (0 < s.getI ANG_SLEWREM 0)
  let t := if !s.on ANG_SLEWDUE 0 then s else if extra then slewed s else slewed (countSlew s)
  let d := wrapTicks ((sourceAngle (t.get ANG_SRC_SRC 0) t : Int) - t.getI ANG_SRCOFS 0 - t.getI ANG_SLEWREM 0 - t.tick)
  if 0 < d then (if extra then tickForward t else countSlew (tickForward t))
  else if d < 0 && t.on ANG_SRC_DIR 0 then tickBack t else t

/-- The stamp advances at a given rate (R37) in direction DIR. A load of the tick that came before a pilot source was selected is slewed
out (R38): while the stamp is ahead a forward tick that is due is left out, while it lies behind an idle cycle adds one. -/
def followRate (num den : Nat) (s : State) : State :=
  let q := rateTick num den s
  let due := q.1.on ANG_SLEWDUE 0
  let ahead := decide (q.1.getI ANG_SLEWREM 0 < 0)
  if !q.2 then (if due && !ahead then slewed (tickForward q.1) else q.1)
  else if q.1.on ANG_SRC_DIR 0 then tickBack q.1
  else if due && ahead then slewed (countSlew q.1)
  else countSlew (tickForward q.1)

/-- The movement of the stamp in one cycle (R30, R37): under OBSERVER at the observer's speed over the pole pairs, whose sign is the
direction, under NONE at the last measured rate. -/
def moveStamp (s : State) : State :=
  match s.get ANG_SRC_SRC 0 with
  | 0 => followRate (s.get ANG_RATE 0) 1048576000 s
  | 4 =>
    let e := s.getI SPN_OBSSPD 0
    followRate (e.natAbs * 4194304) (960000000000 * Nat.max 1 (s.get SPN_MOTOR_PP 0)) (s.set ANG_SRC_DIR 0 (decide (e < 0)).toNat)
  | _ => followPilot s

/-- STILL (R50): the mean speed over each 100 ms lies below 60 rpm, that is, the stamp has moved by less than a tenth of a revolution,
forward steps left out. DESIGN CHOICE: the 100 ms follow each other without overlap (log entry 6). -/
def judgeStill (s : State) : State :=
  if !s.on ANG_STILLOK 0 then s.setMany 0 [(ANG_STILLOK, 1), (ANG_STILLNS, s.aonNs), (ANG_STILLPOS, s.stamp)]
  else if s.aonNs < s.get ANG_STILLNS 0 + 100000000 then s
  else
    let d := (sgn 64 ((s.stamp + 2 ^ 64 - s.get ANG_STILLPOS 0) % 2 ^ 64)).natAbs
    s.setMany 0 [(ANG_SRC_STILL, (decide (d * 10 < revTicks)).toNat), (ANG_STILLNS, s.aonNs), (ANG_STILLPOS, s.stamp)]

/-- SLEW and PRECISE show the slew that ANG keeps over a warm reset (R44), which returns the two bits themselves to 0 (R50). -/
def showSlew (s : State) : State :=
  let t := if s.on ANG_SLEWREM 0 && !s.on ANG_SRC_SLEW 0 then s.set ANG_SRC_SLEW 0 1 else s
  if preciseNow t == t.on ANG_SRC_PRECISE 0 then t else updatePrecise t

/-- ANGLE_CLOCK_CYCLE (R30, R37–R40, R42, R50): one ns passes, the tracking filters project both sensors to it, `p0` and `p1` ticks
beyond their last samples, and the stamp moves by at most one tick. -/
def angleCycle (p0 p1 : Int) (s : State) : State :=
  let t := { s with aonNs := s.aonNs + 1 }.setMany 0 [(ANG_STARTED, 1), (ANG_STEPLEN, 0)]
  let t := (t.setI ANG_PROJ 0 (wrapTicks p0)).setI ANG_PROJ 1 (wrapTicks p1)
  judgeStill (moveStamp (showSlew t))

/-- The trims of sensor `n` follow the Lissajous figure of each revolution (R28): four free values. -/
def adaptTrims (n : Nat) (s : State) : State :=
  [ANG_PLT_TRIM_SOFS, ANG_PLT_TRIM_COFS, ANG_PLT_TRIM_GAIN, ANG_PLT_TRIM_QUAD].foldl (fun t f => (t.set f n t.free).used) s

/-- The stamp takes the absolute tick at the first index signature of either sensor (R43): that of the source where it is a pilot
source whose sensors have all met theirs, otherwise the tick of the signature, and the source's own angle keeps its difference
to it. -/
def loadTick (n : Nat) (s : State) : State :=
  let src := s.get ANG_SRC_SRC 0
  let own := if n = 0 then 0 else s.get ANG_PLT1_OFS 0
  if !pilotSource src then approach own s
  else
    let target := if referenced src s then sourceAngle src s else own
    approach target (s.setI ANG_SRCOFS 0 (wrapTicks ((sourceAngle src s : Int) - target)))

/-- INDEX_SIGNATURE (R26–R28, R43): the end of a sensor's signature is the zero of its own angle; the first one of an
enabled sensor loads the absolute tick and sets REF. A pilot source that becomes absolute later is joined then. -/
def indexSignature (n : Nat) (s : State) : State :=
  if !plotEnabled n s then s
  else
    let first := !s.on ANG_HASREF n
    let t := adaptTrims n (s.setMany n [(ANG_POS, 0), (ANG_PROJ, 0), (ANG_HASREF, 1), (ANG_OKIDX, 1)])
    let src := t.get ANG_SRC_SRC 0
    if !t.on ANG_SRC_REF 0 then updatePrecise ((loadTick n t).set ANG_SRC_REF 0 1)
    else if first && pilotSource src && usesSensor src n && referenced src t then
      updatePrecise (approach (sourceAngle src t) (t.set ANG_SRCOFS 0 0))
    else t

/-- SENSOR_REQUALIFY (R38): a revolution of validity, in one direction, with an index passage. -/
def sensorRequalify (n : Nat) (s : State) : State :=
  if s.on ANG_REQUAL n && s.on (validField n) 0 && s.on ANG_OKIDX n && decide (16777216 ≤ (s.getI ANG_OKADV n).natAbs)
  then selectSource (s.set ANG_REQUAL n 0) else s

/-- STAMP_LO_READ (R41, R658). -/
def stampLoRead (s : State) : State :=
  { s with rdata := s.get ANG_STAMP_LO 0, cap := s.cap.put 0x10014 (s.get ANG_STAMP_HI 0) }

/-- ANG_CMP_WRITE, words 0 and 1 (R49). -/
def cmpTarget (n : Nat) (hi : Bool) (v : Nat) (s : State) : State :=
  if s.on ANG_CMP_EN n then pulse 21 0xFF (s.set ANG_CMP_ARMERR n 1)
  else
    let t := s.get ANG_CMP_TARGET n
    s.set ANG_CMP_TARGET n (if hi then t % 2 ^ 32 + v * 2 ^ 32 else t / 2 ^ 32 * 2 ^ 32 + v % 2 ^ 32)

/-- ANG_CMP_WRITE, word 2 (R48): EN is refused while REF is clear; the other fields take the written values. A target that
lies behind the stamp when the comparator is enabled is late (R46). -/
def cmpControl (n v : Nat) (s : State) : State :=
  let t := s.setMany n [(ANG_CMP_PERIODIC, bits v 1 1), (ANG_CMP_ACTION, bits v 2 2), (ANG_CMP_CTX, bits v 4 6),
    (ANG_CMP_INTERVAL, bits v 10 22)]
  if bits v 0 1 = 0 then t.setMany n [(ANG_CMP_EN, 0), (ANG_CMPLATE, 0)]
  else if !t.on ANG_SRC_REF 0 then pulse 21 0xFF (t.set ANG_CMP_ARMERR n 1)
  else if t.on ANG_CMP_EN n then t
  else t.setMany n [(ANG_CMP_EN, 1), (ANG_CMPLATE, (decide (t.get ANG_CMP_TARGET n < t.stamp)).toNat)]

/-- ANG_CMP_WRITE, word 3: FIRED, LATE and ARMERR clear where 1 is written (R50). -/
def cmpClear (n v : Nat) (s : State) : State :=
  let c (f : Field) (b : Nat) (t : State) : State := if v.testBit b then t.set f n 0 else t
  c ANG_CMP_ARMERR 2 (c ANG_CMP_LATE 1 (c ANG_CMP_FIRED 0 s))

/-- ANG_CMP_WRITE (R48–R50). -/
def cmpWrite (n word v : Nat) (s : State) : State :=
  match word with
  | 0 => cmpTarget n false v s
  | 1 => cmpTarget n true v s
  | 2 => cmpControl n v s
  | _ => cmpClear n v s

/-- The action of comparator `n` (R47, R50). -/
def cmpAction (n : Nat) (s : State) : State :=
  match s.get ANG_CMP_ACTION n with
  | 0 => s.emit (.coreIrq none (some n))
  | 1 => settleTrace s (trigger (s.get ANG_CMP_CTX n) s.stamp 0 [] s)
  | 2 => silTriggerAll 1 n s
  | _ => s.emit .eventLine

/-- The comparator's condition (R46). -/
def cmpDue (n : Nat) (s : State) : Bool :=
  s.on ANG_CMP_EN n && !s.on ANG_SRC_DIR 0 && decide (s.get ANG_CMP_TARGET n ≤ s.stamp)

/-- COMPARATOR_FIRE (R46, R47): PERIODIC with a zero INTERVAL acts as if it were clear. -/
def comparatorFire (n : Nat) (s : State) : State :=
  if !cmpDue n s then s
  else
    let t := (s.bump ANG_CMP_COUNT n).setMany n [(ANG_CMP_FIRED, 1),
      (ANG_CMP_LATE, Nat.max (s.get ANG_CMP_LATE n) (s.get ANG_CMPLATE n)), (ANG_CMPLATE, 0)]
    let t :=
      if t.on ANG_CMP_PERIODIC n && t.on ANG_CMP_INTERVAL n then
        let t := t.add ANG_CMP_TARGET n (t.get ANG_CMP_INTERVAL n)
        t.set ANG_CMPLATE n (decide (t.get ANG_CMP_TARGET n < t.stamp)).toNat
      else t.set ANG_CMP_EN n 0
    cmpAction n t

end Sys2Proof.Machine
end

