-- ==== Sys2Proof/Machine/AccordCore.lean ====
section
/-!
DEFINITION. Shared operations of the accord engine (spec/04) that can fire sources: member states, spare space, the unrecovered list.
-/

namespace Sys2Proof.Machine

/-- The members that `SPARE_FREE` looks at: those not LOST, with an accepted descriptor in the drive role (R212; log entry 41). -/
def spareMembers (s : State) : List Nat :=
  (membersOf s.memberMask).filter fun x => !s.lostMask.testBit x && (!driveRole s || (s.desc x).isSome)

/-- The lesser of two counts of free bands, the first on a tie. -/
def fewer (b : Option (Nat × Nat)) (p : Nat × Nat) : Option (Nat × Nat) :=
  match b with
  | none => some p
  | some q => if p.1 < q.1 then some p else some q

/-- Show the least count of free bands and its member, with the sources 211 and 212 (R212). -/
def showSpare (f x : Nat) (s : State) : State :=
  let low := decide (f < s.get ACD_SPARE_LOW 0)
  level 212 0xFF (f == 0) (level 211 0xFF low (s.setMany 0 [(ACD_SPARE_FREE_FREE, f), (ACD_SPARE_FREE_MEMBER, x),
    (ACD_STS_SPARE_LOW, low.toNat), (ACD_STS_SPARE_OUT, (f == 0).toNat)]))

/-- `SPARE_FREE`, SPARE_LOW and SPARE_OUT after a change, with the sources 211 and 212 (R212). -/
def updateSpare (s : State) : State :=
  (((spareMembers s).map fun x => ((bandsFree x s).length, x)).foldl fewer none).elim s fun p => showSpare p.1 p.2 s

/-- After a change of the LOST members the spare bands are counted anew (R212). -/
def respare (s t : State) : State := if t.lostMask = s.lostMask then t else updateSpare t

/-- Member `x` becomes LOST (R200, R212, R216, R224, R238). -/
def loseMember (x : Nat) (s : State) : State := respare s (withFollow (memberLoss x s))

/-- Recompute the member states from the heads (R198–R200, R212). -/
def updateMembers (s : State) : State := respare s (withFollow (memberStates s))

/-! ## Unrecovered list (R232–R237) -/

/-- Zone record. -/
def State.zone (s : State) (z : Nat) : Zone := NMap.get Zone.fresh s.zones z

/-- Set a zone record. -/
def State.setZone (s : State) (z : Nat) (r : Zone) : State := { s with zones := s.zones.put z r }

/-- The block is in the unrecovered list (R234). -/
def isUnrec (z off : Nat) (s : State) : Bool := s.acd.unrec.any fun e => e.1 == z && e.2.1 ≤ off && off < e.2.1 + e.2.2.1

/-- Extents that the list holds at most (R232). -/
def unrecMax : Nat := 1048576

/-- The 16 bytes of an extent in the list (R232). -/
def extentBytes (e : Nat × Nat × Nat × Nat) : List (BitVec 8) :=
  bytesOf 16 (e.1 % 2 ^ 17 + e.2.1 % 2 ^ 28 * 2 ^ 17 + (e.2.2.1 - 1) % 2 ^ 28 * 2 ^ 45 + e.2.2.2 % 512 * 2 ^ 73)

/-- Address of the list in buffer DRAM (R232). -/
def unrecBase (s : State) : Nat := s.get ACD_UNREC_LO 0 + s.get ACD_UNREC_HI 0 * 2 ^ 32

/-- The list as it stands in buffer DRAM, once its base lies there (R232). -/
def storeUnrec (s : State) : State :=
  if s.acd.unrec.isEmpty || decide (unrecBase s < dramBase) then s
  else cleanRange (unrecBase s) (16 * s.acd.unrec.length) { s with mem := s.mem.writeList (unrecBase s) (s.acd.unrec.flatMap extentBytes) }

/-- The list is shown (R232, R236, R250): `ACD_UNREC_CNT`, `ACD_UNREC_BLK`, UNREC_FULL and the extents in buffer DRAM. -/
def showUnrec (s : State) : State :=
  storeUnrec (s.setMany 0 [(ACD_UNREC_CNT, s.acd.unrec.length), (ACD_UNREC_BLK, (s.acd.unrec.map fun e => e.2.2.1).sum),
    (ACD_STS_UNREC_FULL, (s.on ACD_STS_UNREC_FULL 0 && decide (unrecMax ≤ s.acd.unrec.length)).toNat)])

/-- The extents with one more block of a zone, recorded with generation `gen` (R233): the extents that end before it and start after it are one
with it. -/
def joinExtents (z off gen : Nat) (l : List (Nat × Nat × Nat × Nat)) : List (Nat × Nat × Nat × Nat) :=
  let ends (e : Nat × Nat × Nat × Nat) : Bool := e.1 == z && e.2.1 + e.2.2.1 == off
  let starts (e : Nat × Nat × Nat × Nat) : Bool := e.1 == z && e.2.1 == off + 1
  match l.find? ends, l.find? starts with
  | some a, some b => (l.erase b).map fun e => if e = a then (z, a.2.1, a.2.2.1 + 1 + b.2.2.1, a.2.2.2) else e
  | some a, none => l.map fun e => if e = a then (z, a.2.1, a.2.2.1 + 1, a.2.2.2) else e
  | none, some b => l.map fun e => if e = b then (z, off, b.2.2.1 + 1, b.2.2.2) else e
  | none, none => l ++ [(z, off, 1, gen)]

/-- List one unrecovered block (R233, R235). A full list takes the zone offline instead and fires source 214 (R236, R239). -/
def addUnrec (z off : Nat) (s : State) : State :=
  if isUnrec z off s then s
  else
    let l := joinExtents z off (s.zone z).gen s.acd.unrec
    if l.length ≤ unrecMax then showUnrec ({ s with acd := { s.acd with unrec := l } }.set ACD_JREQ 0 1)
    else
      let zr := s.zone z
      let t := s.setZone z { zr with state := 6 }
      pulse 214 0xFF ({ t with acd := { t.acd with events := t.acd.events ++ [(z, 6)] } }.setMany 0 [(ACD_STS_UNREC_FULL, 1), (ACD_JREQ, 1)])

end Sys2Proof.Machine
end

