-- ==== Sys2Proof/Machine/Lanes.lean ====
section
/-!
DEFINITION. The channel lanes (spec/02, R68–R119, R131–R135): states, timing, defects, frame operations, lane memory.
-/

namespace Sys2Proof.Machine

/-- Post a result to FMT (R107, R110). -/
def post (r : CwResult) (s : State) : State := { s with results := s.results ++ [r] }

/-- The codewords that a mask names, in order (R161). -/
def maskCws (m : Nat) : List Nat := (List.range 8).filter fun c => m.testBit c

/-- The result of a codeword or frame of an operation. -/
def resultOf (l : Nat) (op : FrameOp) (cw code iters : Nat) (off : Int) (erase : Nat) : CwResult :=
  ⟨l, op.mtag.toNat, op.track.toNat, op.slot.toNat, op.write, cw, code, iters, off, erase⟩

/-- Post one code for every codeword of a read, or for the frame of a write (R110). -/
def postAll (l : Nat) (op : FrameOp) (code : Nat) (s : State) : State :=
  if op.write then post (resultOf l op 0 code 0 0 0) s
  else forAll (maskCws op.cwmask.toNat) (fun c t => post (resultOf l op c code 0 0 0) t) s

/-! ## Lane states (R68–R71) -/

/-- Start the transition to state `dst` (R68). -/
def startTrans (l dst : Nat) (s : State) : State :=
  s.setMany l [(LAN_FROM, s.get LAN_STS_STATE l), (LAN_TO, dst), (LAN_STS_STATE, 3)]

/-- LANE_STATE_REQUEST (R68, R71): the reserved value and an unpopulated head's lane leave REQ alone; a transition in
progress is not interrupted. -/
def laneStateRequest (l req : Nat) (s : State) : State :=
  if req = 3 || !s.on LAN_POP l then s
  else
    let t := s.set LAN_CTL_REQ l req
    if t.is LAN_STS_STATE l 3 || t.is LAN_STS_STATE l req then t else startTrans l req t

/-- LANE_OOS_WRITE (R71, R198): the lane's write gate drops and the member states follow. -/
def laneOos (l : Nat) (oos : Bool) (s : State) : State :=
  updateMembers (recheckWrite l (s.set LAN_CTL_OOS l oos.toNat))

/-- A lane in OFF shows no live values and is not locked (R662, R669). The trim integrator and the run at the clamp survive OFF: the spec
does not say (log entry 9). -/
def laneOff (l : Nat) (s : State) : State :=
  s.setMany l [(LAN_STS_LOCK, 0), (LAN_LOCKN, 0), (LAN_GAINV_GAIN, 0), (LAN_GAINV_OFS, 0), (LAN_GAINV_ASYM, 0),
    (LAN_TRIMV_TRIM, 0), (LAN_TRIMV_AT_CLAMP, 0)]

/-- LANE_TRANSITION_DONE (R68): a lane leaves ACTIVE at the end of its frame operation; a request made meanwhile starts the
next transition. -/
def laneTransitionDone (l : Nat) (s : State) : State :=
  if !s.is LAN_STS_STATE l 3 || (s.is LAN_FROM l 2 && ((s.lane l).cur.isSome || (s.lane l).wcur.isSome || (s.lane l).wnext.isSome)) then s
  else
    let dst := s.get LAN_TO l
    let t := s.set LAN_STS_STATE l dst
    let t := if dst = 0 then laneOff l t else t
    if t.is LAN_CTL_REQ l dst then recheckWrite l t else recheckWrite l (startTrans l (t.get LAN_CTL_REQ l) t)

/-! ## Clock (R72–R74, R669) -/

/-- The sample clock at ratio `ratio` lies outside 1.5–6.0 GHz (R72, R74): f = ratio ÷ 2^19 · 16,384 · n, where the stamp turns at
`rate` ticks per ns, a numerator and a denominator. -/
def outOfRange (ratio : Nat) (rate : Nat × Nat) : Bool :=
  decide (2 * (ratio * rate.1) < 3 * (rate.2 * 134217728)) || decide (6 * (rate.2 * 134217728) < ratio * rate.1)

/-- FRANGE takes a value, with its source 160 + 8a + 4 (R74). -/
def setFrange (l : Nat) (o : Bool) (s : State) : State :=
  if s.on LAN_STS_FRANGE l = o then s
  else recheckWrite l (level (164 + 8 * actOf l) (l % 12) o (s.set LAN_STS_FRANGE l o.toNat))

/-- FRANGE follows the present ratio and the rate of the stamp (R72, R74). It is judged at every edge, at a change of the ratio, and when
the edges stop; a lane in OFF keeps it: the spec does not say whether it is live there (log entry 9). -/
def updateFrange (l : Nat) (s : State) : State := setFrange l (outOfRange (s.get LAN_ZRATIO l) (stampRate s)) s

/-- The lane's synthesiser runs: outside OFF. -/
def laneClocked (l : Nat) (s : State) : Bool := !s.is LAN_STS_STATE l 0

/-- RING_CYCLE_EDGE (R72, R74, R669): `err` in 1/64 bit. -/
def ringCycleEdge (l : Nat) (err : Int) (s : State) : State :=
  if !laneClocked l s then s
  else
    let t := updateFrange l s
    let t := if err.natAbs ≤ 16 then t.set LAN_LOCKN l (Nat.min 16 (t.get LAN_LOCKN l + 1)) else t.set LAN_LOCKN l 0
    if 64 < err.natAbs then recheckWrite l (t.set LAN_STS_LOCK l 0) else t

/-- SYNTH_LOCK (R669). -/
def synthLock (l : Nat) (s : State) : State :=
  if laneClocked l s && s.is LAN_LOCKN l 16 then s.set LAN_STS_LOCK l 1 else s

/-- RING_EDGE_TIMEOUT (R74, R669): without edges the lane is not locked, and the frequency that follows them is out of range. -/
def ringEdgeTimeout (l : Nat) (s : State) : State :=
  let t := recheckWrite l ((s.set LAN_STS_LOCK l 0).set LAN_LOCKN l 0)
  if laneClocked l t then setFrange l true t else t

/-! ## Flagged regions (R89–R93) -/

/-- The operation that the lane is reading or writing. -/
def currentOp (l : Nat) (s : State) : Option FrameOp :=
  match (s.lane l).wcur with
  | some w => some w.1
  | none => (s.lane l).cur.bind fun c => (s.frames.find? fun f => f.fid == c.1).map (·.op)

/-- A defect window of the present operation covers one of the frame bits from `a` up to, not including, `b` (R93). -/
def windowOver (l a b : Nat) (s : State) : Bool :=
  match currentOp l s with
  | some op => op.defs.any fun d => decide (d.start < b) && decide (a < d.start + d.len)
  | none => false

/-- A flag of the lane is asserted: a detector's, or that over a defect window of the operation (R91, R93). -/
def defectNow (l : Nat) (s : State) : Bool :=
  s.on LAN_FDROP l || s.on LAN_FTA l || windowOver l (frameBit l s) (frameBit l s + 1) s

/-- A detected bit is flagged, or lies within HOLDX bits of a flagged region (R92, R93). -/
def bitErased (op : FrameOp) (flags : List FlagSpan) (holdx : Nat) (n : Int) : Bool :=
  (flags.any fun f => decide ((f.first : Int) ≤ n + holdx) && (f.last.all fun e => decide (n < e + holdx)))
    || op.defs.any fun d => decide ((d.start : Int) ≤ n + holdx) && decide (n < d.start + d.len + holdx)

/-- DEFECT shows either detector's flag. -/
def updateDefect (l : Nat) (s : State) : State :=
  s.set LAN_STS_DEFECT l (s.on LAN_FDROP l || s.on LAN_FTA l).toNat

/-- A detector's flag is asserted over the `n` bits that triggered it (R89, R90). -/
def openSpan (l : Nat) (ta : Bool) (n : Nat) (s : State) : State :=
  s.setLane l { s.lane l with flags := (s.lane l).flags ++ [⟨ta, frameBit l s - n, none⟩] }

/-- A detector's flag is released at the present bit. -/
def closeSpan (l : Nat) (ta : Bool) (s : State) : State :=
  s.setLane l { s.lane l with flags := (s.lane l).flags.map fun f =>
    if f.ta = ta ∧ f.last = none then { f with last := some (frameBit l s) } else f }

/-- The flagged regions of a frame that starts: those of the flags still asserted. -/
def newSpans (l : Nat) (s : State) : List FlagSpan :=
  (if s.on LAN_FDROP l then [⟨false, 0, none⟩] else []) ++ (if s.on LAN_FTA l then [⟨true, 0, none⟩] else [])

/-- A sample as the ADC gives it (R83). -/
def adc (x : Int) : Int := clampI (-127) 127 x

/-- The sum of the samples' magnitudes. -/
def magnitude (l : List Int) : Nat := (l.map fun x => (adc x).natAbs).sum

/-- The dropout detector's condition on the samples of its window (R89). -/
def dropoutMet (l : Nat) (x : List Int) (s : State) : Bool :=
  decide (x.length = s.get LAN_DROP_WIN l)
    && decide (100 * magnitude x < s.get LAN_DROP_THR l * s.get LAN_AGC_TARGET l * x.length)

/-- The asperity detector's condition on the samples of its window (R90). -/
def asperityMet (l : Nat) (x : List Int) (s : State) : Bool :=
  decide (x.length = s.get LAN_TA_WIN l) && x.all fun v => decide (s.get LAN_TA_THR l * s.get LAN_AGC_TARGET l ≤ 100 * (adc v).natAbs)

/-- The release condition of both flags on the last REL samples (R89, R90). -/
def releaseMet (l : Nat) (x : List Int) (s : State) : Bool :=
  decide (x.length = s.get LAN_DROP_REL l)
    && decide ((s.get LAN_DROP_THR l + 10) * s.get LAN_AGC_TARGET l * x.length ≤ 100 * magnitude x)

/-- DROPOUT_FLAG (R89, R91). -/
def dropoutFlag (l : Nat) (x : List Int) (s : State) : State :=
  if !s.on LAN_DROP_EN l || s.on LAN_FDROP l || !laneClocked l s || !dropoutMet l x s then s
  else openSpan l false x.length (updateDefect l ((s.bump LAN_DEFV_DROP l).setMany l [(LAN_FDROP, 1), (LAN_IVDEF, 1)]))

/-- ASPERITY_FLAG (R90, R91). -/
def asperityFlag (l : Nat) (x : List Int) (s : State) : State :=
  if !s.on LAN_TA_EN l || s.on LAN_FTA l || !laneClocked l s || !asperityMet l x s then s
  else openSpan l true x.length (updateDefect l ((s.bump LAN_DEFV_TA l).setMany l [(LAN_FTA, 1), (LAN_IVDEF, 1)]))

/-- DEFECT_FLAG_RELEASE (R89, R90). -/
def defectRelease (l : Nat) (ta : Bool) (x : List Int) (s : State) : State :=
  let f := if ta then LAN_FTA else LAN_FDROP
  if s.on f l && releaseMet l x s then closeSpan l ta (updateDefect l (s.set f l 0)) else s

/-! ## Loops and equaliser (R82–R85, R91) -/

/-- A loop that is not frozen takes a free value within `lo` and `lo + n`: how far a loop moves is not stated (log entry 11). -/
def moveLoop (f : Field) (l : Nat) (frozen : Bool) (lo : Int) (n : Nat) (s : State) : State :=
  if frozen then s else (s.setI f l (lo + (s.free % (n + 1) : Nat))).used

/-- The gain loop drives the mean magnitude of the block's 32 samples towards TARGET (R82): a higher code where it is below, a lower one
where it is above. -/
def moveGain (l : Nat) (x : List Int) (s : State) : State :=
  let g := s.get LAN_GAINV_GAIN l
  let goal := s.get LAN_AGC_TARGET l * x.length
  if magnitude x < goal then moveLoop LAN_GAINV_GAIN l (s.on LAN_AGC_FREEZE l) g (383 - g) s
  else if goal < magnitude x then moveLoop LAN_GAINV_GAIN l (s.on LAN_AGC_FREEZE l) 0 g s
  else s

/-- A tap of the active coefficient bank (R84, R131). -/
def tapOf (l i : Nat) (s : State) : Int := sgn 12 (s.lword l 2 (32 * s.get LAN_EQBANK_BANK l + i))

/-- The taps of the selected target response, in 1/16 (R85, R131). -/
def targetTaps (l : Nat) (s : State) : List Int :=
  let t := s.get LAN_EQTGT_TGT l
  [LAN_TGT_T0, LAN_TGT_T1, LAN_TGT_T2, LAN_TGT_T3, LAN_TGT_T4].map fun f => s.getI f t

/-- The sign of the error at sample `n` of a block of 55: the equaliser's output against the target response of the detector's delayed
decisions; the decisions and their scale are not stated (R84, R85; log entry 11). -/
def errorSign (l : Nat) (x : List Int) (n : Nat) (s : State) : Int :=
  clampI (-1) 1 (Config.equaliserError (targetTaps l s) ((List.range 24).map fun i => tapOf l i s) (x.take (n + 1)))

/-- The sum over a block of the sign errors times the samples under tap `i` (R84). -/
def signSum (l i : Nat) (x : List Int) (s : State) : Int :=
  ((List.range 32).map fun n => errorSign l x (n + 23) s * x.getD (n + 23 - i) 0).sum

/-- Tap `i` after a block (R84): sign-error LMS with step 2^-(10 + MU), a tap's unit being 1/1,024; a fraction of a unit goes up or down
freely, and the tap keeps within its 12 bits (log entry 11). -/
def adaptTap (l : Nat) (x : List Int) (s0 : State) (i : Nat) (s : State) : State :=
  if i = s0.get LAN_EQADP_MAIN l then s
  else
    let d := signSum l i x s0
    let m : Int := 2 ^ s0.get LAN_EQADP_MU l
    let up : Int := if d % m = 0 then 0 else (s.free % 2 : Nat)
    let t := if d % m = 0 then s else s.used
    t.setLword l 2 (32 * s0.get LAN_EQBANK_BANK l + i) (uns 12 (clampI (-2048) 2047 (tapOf l i s0 + d / m + up)))

/-- The data loops and the equaliser after a block of 32 bits (R82–R84): held within wedge windows and under a defect flag (R91, R94). -/
def adaptLane (l : Nat) (samples : List Int) (s : State) : State :=
  if defectNow l s || s.on LAN_WEDGE l then s
  else
    let x := samples.map adc
    let t := moveGain l (x.drop 23) s
    let t := moveLoop LAN_GAINV_OFS l (s.on LAN_OFS_FREEZE l) (-127) 254 t
    let t := moveLoop LAN_GAINV_ASYM l (s.on LAN_ASYM_FREEZE l) (-127) 254 t
    if s.on LAN_EQADP_ADAPT l && s.is LAN_STS_STATE l 2 then forBelow 24 (adaptTap l x s) t else t

/-! ## Phase trim and timing table (R75–R80) -/

/-- A trim update is suspended (R78). -/
def trimHeld (l : Nat) (s : State) : Bool :=
  s.on LAN_PTRIM_HOLD l || s.on LAN_WEDGE l || defectNow l s || decide (s.get LAN_BLOCKS l < 2)

/-- The integrator after timing error `te` (1/64 bit), in 1/64 bit with 16 fraction bits (R77). -/
def trimIntegral (l : Nat) (te : Int) (s : State) : Int := s.getI LAN_TRIMI l + te * 2 ^ (16 - s.get LAN_PTRIM_KI l)

/-- The loop's output before its clamp: proportional term and integrator. -/
def trimRaw (l : Nat) (te : Int) (s : State) : Int :=
  (te * 2 ^ (16 - s.get LAN_PTRIM_KP l) + trimIntegral l te s) / 65536

/-- The wedge interval counts as one that held a flag when one is asserted, or a defect window has covered one of its bits (R80). -/
def noteFlag (l : Nat) (s : State) : State :=
  if defectNow l s || windowOver l (s.get LAN_IVBIT l) (frameBit l s + 1) s then s.set LAN_IVDEF l 1 else s

/-- The interval's mean takes in the present integrator (R80). -/
def sumTrim (l : Nat) (s : State) : State := (s.setI LAN_TRIMSUM l (s.getI LAN_TRIMSUM l + s.getI LAN_TRIMI l)).bump LAN_TRIMCNT l

/-- A trim update (R77, R79). AT_CLAMP clears at the first update whose output is not at the clamp, and at OFF: the spec gives only its
setting (log entry 9). -/
def trimUpdate (l : Nat) (te : Int) (s : State) : State :=
  let c : Int := s.get LAN_PTRIM_CLAMP l
  let raw := trimRaw l te s
  let out := clampI (-c) c raw
  let at0 := out.natAbs == s.get LAN_PTRIM_CLAMP l
  let n := if at0 then Nat.min 1024 (s.get LAN_TRIMN l + 1) else 0
  let t := (s.setI LAN_TRIMI l (trimIntegral l te s)).setI LAN_TRIMV_TRIM l out
  let t := (t.set LAN_TRIMN l n).addSat LAN_BLOCKS l 1
  if n = 1024 then
    let u := t.set LAN_TRIMV_AT_CLAMP l 1
    if s.on LAN_TRIMV_AT_CLAMP l then u else pulse (160 + 8 * actOf l) (l % 12) u
  else t.set LAN_TRIMV_AT_CLAMP l 0

/-- PHASE_TRIM_UPDATE (R77–R80, R82–R84): a block of 32 bits of a frame being read. -/
def phaseTrimUpdate (l : Nat) (te : Int) (samples : List Int) (s : State) : State :=
  if (s.lane l).cur.isNone then s
  else
    let t := adaptLane l samples (noteFlag l s)
    sumTrim l (if trimHeld l t then t.addSat LAN_BLOCKS l 1 else trimUpdate l te t)

/-- The angle at which wedge interval `w` of lane `l` ends is met: the start of the next wedge (R75, R80). -/
def intervalEnds (l w : Nat) (s : State) : Bool :=
  match wedgeStart l ((w + 1) % 512) s with
  | some t => angleMet t s
  | none => false

/-- The mean of the trim integrator over the interval, in 1/64 bit with 16 fraction bits, as a sum and a count; without an update it is the
integrator itself. -/
def trimMean (l : Nat) (s : State) : Int × Nat :=
  if s.is LAN_TRIMCNT l 0 then (s.getI LAN_TRIMI l, 1) else (s.getI LAN_TRIMSUM l, s.get LAN_TRIMCNT l)

/-- The next interval begins: it holds a flag if one is still asserted. -/
def newInterval (l : Nat) (s : State) : State :=
  s.setMany l [(LAN_IVDEF, (defectNow l s).toNat), (LAN_TRIMSUM, 0), (LAN_TRIMCNT, 0), (LAN_IVBIT, frameBit l s)]

/-- RTT_LEARN (R80): the entry keeps within its 24 bits, and the integrator gives up what the table takes. The amount d is rounded down to
1/256 bit: the spec gives no rounding (log entry 9). -/
def rttLearn (l w : Nat) (s : State) : State :=
  let flagged := (noteFlag l s).on LAN_IVDEF l
  if !intervalEnds l w s then s
  else if s.on LAN_RTTSEL_LEARN l && s.is LAN_STS_STATE l 2 && (s.lane l).cur.isSome && !flagged then
    let m := trimMean l s
    let d := m.1 / ((m.2 * 16384 * 2 ^ s.get LAN_RTTSEL_LSHIFT l : Nat) : Int)
    let b := s.get LAN_RTTSEL_BANK l
    let e := clampI (-8388608) 8388607 (sgn 24 (s.lword l b w) + d)
    newInterval l ((s.setLword l b w (uns 24 e)).setI LAN_TRIMI l (s.getI LAN_TRIMI l - d * 16384))
  else newInterval l s

/-! ## Wedge windows (R94, R115, R146) -/

/-- A wedge window opens: the bit stream stops, and a frame being written drops its gate (R115). -/
def openWindow (l : Nat) (s : State) : State :=
  let t := (openGap l s).set LAN_WEDGE l 1
  if t.on LAN_STS_WRITING l then (setGate l false t).set LAN_SPLIT l 1 else t

/-- A wedge window closes: the bit stream goes on, and a split frame's gate is asserted again. -/
def closeWindow (l : Nat) (s : State) : State :=
  let t := (closeGap l s).set LAN_WEDGE l 0
  if t.on LAN_SPLIT l then recheckWrite l ((setGate l true t).set LAN_SPLIT l 0) else t

/-- WEDGE_WINDOW (R94, R115, R146): at the angles of the windows only. -/
def wedgeWindow (l : Nat) (opens : Bool) (s : State) : State :=
  if s.on LAN_WEDGE l = opens then s
  else if opens then (if windowMet l 0 s then openWindow l s else s)
  else if windowMet l (windowTicks l s) s then closeWindow l s else s

/-! ## Group checks and lane loads (R132, R133) -/

/-- The consistency check of lane group `g` on the register contents `r` (R132). -/
def laneCheck (l g : Nat) (r : RegFile) (s : State) : Bool :=
  let v f := r.get f l
  match g with
  | 0 => v LAN_AGC_GINIT ≤ 383 && 16 ≤ v LAN_AGC_TARGET && v LAN_AGC_TARGET ≤ 100 && v LAN_AGC_SHIFT ≤ 12
      && v LAN_OFS_SHIFT ≤ 12 && v LAN_ASYM_SHIFT ≤ 12
  | 1 => 4 ≤ v LAN_DROP_WIN && v LAN_DROP_THR < 100 && v LAN_DROP_HOLDX ≤ 64 && (v LAN_TA_EN == 0 || 100 < v LAN_TA_THR)
  | 2 => s.lword l 2 (32 * v LAN_EQBANK_BANK + 24) % 16 == v LAN_EQTGT_TGT && s.on LAN_TGT_VALID (v LAN_EQTGT_TGT)
      && v LAN_EQADP_MAIN ≤ 23
  | 3 => 700 ≤ v LAN_ZRATIO / 524288 && v LAN_ZRATIO / 524288 ≤ 6200 && v LAN_PTRIM_CLAMP != 0
  | 4 => v LAN_SYNC_ACC ≤ v LAN_SYNC_WIN && v LAN_SYNC_ALT ≤ v LAN_SYNC_WIN && v LAN_SYNC_THR ≤ 16
  | 5 => [LAN_PCMP_C0, LAN_PCMP_C1, LAN_PCMP_C2, LAN_PCMP_C3].all fun f => (sgn 5 (v f)).natAbs ≤ 12
  | _ => true

/-- Write the fields of word `w` of a register into a register file. -/
def putWord (r : RegFile) (d : RegDesc) (i w v : Nat) : RegFile :=
  d.fields.foldl (fun a f =>
    if f.lo / 32 = w then a.set f i (bits v (f.lo - 32 * w) f.width) else a) r

/-- The registers of a lane load with their groups (R132, R133): FRONT, EQ, TIMING and WRITE. -/
def loadRegs : List (Nat × RegDesc) :=
  [(0, reg_LAN_AFE), (0, reg_LAN_AGC), (0, reg_LAN_OFS), (0, reg_LAN_ASYM), (2, reg_LAN_EQTGT), (2, reg_LAN_EQBANK), (2, reg_LAN_EQADP),
   (3, reg_LAN_ZRATIO), (3, reg_LAN_RTTSEL), (3, reg_LAN_PTRIM), (3, reg_LAN_WROFS), (5, reg_LAN_PCMP)]

/-- The active copies after a lane load: every register of the groups that it names, and no other (R133). -/
def loadedRegs (l : Nat) (ld : LaneLoad) (r : RegFile) : RegFile :=
  (loadRegs.zip ld.words).foldl (fun a w => if ld.groups.contains w.1.1 then putWord a w.1.2 l 0 w.2 else a) r

/-- A lane load passes when every group it names is one of the four and passes its check (R133). -/
def loadPasses (l : Nat) (ld : LaneLoad) (s : State) : Bool :=
  ld.groups.all fun g => [0, 2, 3, 5].contains g && laneCheck l g (loadedRegs l ld s.regs) s

/-- Apply a lane load (R133, R134): active copies only; a commit of the same group that was decided for this boundary stays
pending for the next. -/
def applyLoad (l : Nat) (ld : LaneLoad) (s : State) : State :=
  updateFrange l (forAll ld.groups (fun g t => t.setBit LAN_DECIDED l g false) { s with regs := loadedRegs l ld s.regs })

/-- The load of an operation is refused: its index names none, or a check fails (R133). -/
def loadBad (l : Nat) (op : FrameOp) (s : State) : Bool :=
  op.load.toNat ≠ 0 && match s.laneLoad l op.load.toNat with
    | some ld => !loadPasses l ld s
    | none => true

/-- Apply the load of an operation, if it carries one. -/
def takeLoad (l : Nat) (op : FrameOp) (s : State) : State :=
  match s.laneLoad l op.load.toNat with
  | some ld => applyLoad l ld s
  | none => s

/-- A frame boundary of lane `l`, `early` ticks ahead, at which the operation that waits next replaces group `g` by its load (R134). -/
def loadMeets (l g early : Nat) (s : State) : Bool :=
  match (s.lane l).queue with
  | [] => false
  | op :: _ => (match slotTick l op.track.toNat op.slot.toNat s with | some t => angleMet (t + revTicks - early) s | none => false)
      && match s.laneLoad l op.load.toNat with | some ld => ld.groups.contains g | none => false

/-! ## Frame operations (R70, R74, R82, R95–R97, R110–R116) -/

/-- The lane can take a frame operation (R70, R71, R74). -/
def laneReady (l : Nat) (s : State) : Bool :=
  s.is LAN_STS_STATE l 2 && !s.on LAN_CTL_OOS l && s.on LAN_STS_LOCK l && !s.on LAN_STS_FRANGE l

/-- There is no angle to read by (R97). -/
def noAngle (s : State) : Bool :=
  s.is ANG_SRC_SRC 0 4 || s.is ANG_SRC_SRC 0 0 || !s.on ANG_SRC_REF 0

/-- The result code with which the lane refuses an operation (R70, R71, R74, R97), at its acceptance and at its start (log entry 11).
DESIGN CHOICE: where both hold, NOT_READY comes before NO_ANGLE, for which the spec gives no order (log entry 11). -/
def refusal (l : Nat) (op : FrameOp) (s : State) : Option Nat :=
  if !laneReady l s then some 0xA else if !op.write && noAngle s then some 0x9 else none

/-- A frame operation enters the lane's queue of 32, or is refused (R70, R74, R97, R162). One that comes to a full queue ends with
NOT_READY: the spec gives no answer for it (log entry 11). -/
def acceptOp (l : Nat) (op : FrameOp) (s : State) : State :=
  match refusal l op s with
  | some c => postAll l op c s
  | none =>
    if 32 ≤ (s.lane l).queue.length then postAll l op 0xA s
    else s.setLane l { s.lane l with queue := (s.lane l).queue ++ [op] }

/-- The 64 bytes of a frame operation come to the lane (R161); bytes that spell none are discarded (log entry 10). -/
def acceptWord (l : Nat) (w : BitVec 512) (s : State) : State :=
  match FrameOp.ofWord w with
  | some op => acceptOp l op s
  | none => s

/-! ## The write path (R112, R118, R119, R149, R150, R425) -/

/-- The `w` bits of a number, most significant first (R149). -/
def bitsMsb (w n : Nat) : List Bool := (List.range w).map fun i => n.testBit (w - 1 - i)

/-- The frame tag of codeword `c` (R100, R151). -/
def frameTag (op : FrameOp) (c : Nat) : Nat :=
  op.track.toNat % 4096 * 2 ^ 20 + op.slot.toNat * 2 ^ 12 + c % 8 * 2 ^ 9 + op.gen.toNat

/-- Codeword `c` of a frame (R150): data and protection information as they lie in DRAM, the frame tag, and the parity. -/
def codewordBits (op : FrameOp) (c : Nat) (m : Memory) : List Bool :=
  let d := (m.readList (op.dataAddr.toNat + 4112 * c) 4112).flatMap (fun b => bitsMsb 8 b.toNat) ++ bitsMsb 32 (frameTag op c)
  d ++ (List.range 4224).map (Config.ldpcParity d)

/-- A frame (R149): lead gap, sync mark, eight codewords and tail pad. -/
def frameBits (op : FrameOp) (s : State) : List Bool :=
  bitsMsb 16 0x3333 ++ bitsMsb 16 (s.get LAN_SYNCPAT_HI 0) ++ bitsMsb 32 (s.get LAN_SYNCPAT_LO 0)
    ++ (List.range 8).flatMap (fun c => codewordBits op c s.mem) ++ bitsMsb 32 0x33333333

/-- The guard of codeword `c` of the payload in DRAM matches its data (R425). -/
def guardMatches (a c : Nat) (m : Memory) : Bool :=
  (m.readList (a + 4112 * c + 4096) 8).reverse == bytesOf 8 (guard64 (m.readList (a + 4112 * c) 4096))

/-- A lane fetches the frame at an address (R406, R424): a line whose stored check is not its own goes through the decoder. -/
def fetchFrame (l a : Nat) (s : State) : State :=
  let t := forAll ((linesOf a 32896).filter fun x => NMap.get 0 s.chkx x != 0)
    (fun x t => dramRead (.lane (Fin.ofNat 48 l)) (dramBase + 64 * x) [] t) s
  t.ret s.rdata

/-- The bits of an operation's frame enter the write buffer. -/
def putFrame (l : Nat) (op : FrameOp) (b : List Bool) (s : State) : State :=
  s.setLane l { s.lane l with wbuf := (s.lane l).wbuf ++ [(op, b)] }

/-- FRAME_OP_WRITE (R112, R424, R425): the operation is queued unless FMT has handed it over already, its payload is fetched and the
encoded frame enters the write buffer, which holds two. A frame with lost data, or with a guard mismatch (source 251), stays there without
its bits, so that its write does not start. -/
def frameOpWrite (l : Nat) (op : FrameOp) (s : State) : State :=
  let t := if (s.lane l).queue.contains op then s else acceptOp l op s
  if !(t.lane l).queue.contains op || decide (2 ≤ (t.lane l).wbuf.length) || (t.lane l).wbuf.any (fun w => w.1 == op) then t
  else
    let a := op.dataAddr.toNat
    let t := fetchFrame l a t
    if (linesOf a 32896).any fun x => lineLost x t then putFrame l op [] t
    else
      let bad := (List.range 8).filter fun c => !guardMatches a c t.mem
      if bad.isEmpty then putFrame l op (frameBits op t) t
      else putFrame l op [] (forAll bad (fun c u => piMismatch (a + 4112 * c) 1 u) t)

/-- The 64 bytes of a write come to the lane (R161). -/
def writeWord (l : Nat) (w : BitVec 512) (s : State) : State :=
  match FrameOp.ofWord w with
  | some op => frameOpWrite l op s
  | none => s

/-- The precompensation of a transition in 1/32 bit, by the transitions one and two cells before (R118): earlier by the class value. -/
def precomp (l : Nat) (t1 t2 : Bool) (s : State) : Int :=
  s.getI (if t1 then (if t2 then LAN_PCMP_C3 else LAN_PCMP_C2) else if t2 then LAN_PCMP_C1 else LAN_PCMP_C0) l

/-- The transitions of NRZ bits from cell `n` on, in 1/32 bit: `b` is the bit before, `t1` and `t2` whether the two cells before hold a
transition (R118). -/
def transitionsFrom (l : Nat) (s : State) : Nat → Bool → Bool → Bool → List Bool → List Int
  | _, _, _, _, [] => []
  | n, b, t1, t2, x :: r =>
    if x = b then transitionsFrom l s (n + 1) x false t1 r
    else (32 * (n : Int) - precomp l t1 t2 s) :: transitionsFrom l s (n + 1) x true t1 r

/-- What the write-data pair carries for bits of a frame (R81, R118, R119): inverted under WR_INV, then precompensated. The first bit makes
no transition (log entry 11). -/
def writeData (l : Nat) (b : List Bool) (s : State) : Out :=
  let d := b.map fun x => x != s.on LAN_POL_WR_INV l
  .writeData l (s.getI LAN_FB0 l) (d.headD false) (transitionsFrom l s 0 (d.headD false) false false d) d.length

/-- The loops load their initial values at the start of a frame operation (R82). -/
def loadLoops (l : Nat) (s : State) : State :=
  s.setMany l [(LAN_GAINV_GAIN, s.get LAN_AGC_GINIT l), (LAN_GAINV_OFS, s.get LAN_OFS_OINIT l),
    (LAN_GAINV_ASYM, s.get LAN_ASYM_AINIT l)]

/-- The 48 hard decisions at offset `o` of a search, with the read polarity of `LANn_POL` (R95, R128). -/
def syncBits (l : Nat) (hard : BitVec 302) (o : Int) (s : State) : Nat :=
  let v := hard.toNat / 2 ^ (127 - o).toNat % 2 ^ 48
  if s.on LAN_POL_RD_INV l then 2 ^ 48 - 1 - v else v

/-- The sync pattern (R95). -/
def syncPattern (s : State) : Nat := s.get LAN_SYNCPAT_HI 0 % 65536 * 2 ^ 32 + s.get LAN_SYNCPAT_LO 0

/-- The Hamming distance of two 48-bit words. -/
def hamming (a b : Nat) : Nat := (List.range 48).countP fun i => a.testBit i != b.testBit i

/-- The positions of a search within ±`win` bits, with the distances of their decisions from the pattern, or from its inverse (R95, R130). -/
def searched (l win : Nat) (hard : BitVec 302) (inv : Bool) (s : State) : List Hit :=
  (List.range (2 * win + 1)).map fun i =>
    let o : Int := i - win
    let d := hamming (syncBits l hard o s) (syncPattern s)
    (o, if inv then 48 - d else d)

/-- The search window (R95, R97): WIDE while the angle is referenced and not precise. -/
def syncWindow (l : Nat) (s : State) : Nat :=
  if !s.on ANG_SRC_PRECISE 0 && !noAngle s then s.get LAN_SYNC_WIDE l else s.get LAN_SYNC_WIN l

/-- A flag covers a bit of the 48-bit window at the predicted sync position, frame bits 16 to 63 (R93, R94): a detector's flagged region, or
a defect window of the operation. -/
def syncCovered (l : Nat) (op : FrameOp) (s : State) : Bool :=
  ((s.lane l).flags.any fun f => decide (f.first < 64) && f.last.all fun e => decide (16 < e))
    || op.defs.any fun d => decide (d.start < 64) && decide (16 < d.start + d.len)

/-- Show the last frame's sync (R131): KIND 0 ACCEPTED, 1 PROVISIONAL, 2 MISSED, 3 ALT. -/
def showSync (l : Nat) (off : Int) (kind dist : Nat) (s : State) : State :=
  let t := (s.setI LAN_SYNCV_OFS l off).setMany l [(LAN_SYNCV_KIND, kind), (LAN_SYNCV_DIST, dist)]
  if kind = 2 then t.bump LAN_SYNCV_MISSED l else t

/-- The frame has no codeword left to report: its record is dropped. -/
def trimFrames (s : State) : State := { s with frames := s.frames.filter fun f => f.left ≠ 0 }

/-- What a search finds (R95, R97, R130): the best hit, and whether without one a hit of the inverted pattern reaches the threshold. -/
def searchSync (l : Nat) (hard : BitVec 302) (s : State) : Option Hit × Bool :=
  let hits (inv : Bool) : Option Hit := bestHit (s.get LAN_SYNC_THR l) (searched l (syncWindow l s) hard inv s)
  (hits false, (hits false).isNone && (hits true).isSome && s.on GLB_WIRING_CALDONE 0)

/-- The kind of a search's outcome (R96), and the position used with its distance. -/
def syncKind (l : Nat) (best : Option Hit) (s : State) : Nat × Hit :=
  match best with
  | none => (2, 0, 0)
  | some h => (if h.1.natAbs ≤ s.get LAN_SYNC_ACC l then 0 else 1, h)

/-- The outcome of a search counts unless a flag has covered the sync window (R94–R96, R130). -/
def countSync (l : Nat) (op : FrameOp) (x : Option Hit × Bool) (s : State) : State × (Nat × Hit) :=
  let c := syncCovered l op s
  let k := syncKind l (if c then none else x.1) s
  let t := showSync l k.2.1 k.1 k.2.2 s
  (if !c && x.2 then pulse (163 + 8 * actOf l) (l % 12) t else t, k)

/-- The frame of a read starts (R73, R82, R95, R97): loops, bit count and search. The outcome counts once it is known which bits of the
sync window a flag has covered. -/
def startLaneRead (l t0 : Nat) (op : FrameOp) (hard : BitVec 302) (s : State) : State :=
  let s := startFrame l (bitPosition l s + bitsTo l t0 false s) (loadLoops l s)
  let x := searchSync l hard s
  let n := (maskCws op.cwmask.toNat).length
  let fid := s.get DEC_FID 0
  let fr : FrameRec := ⟨fid, l, op, some x, 0, false, none, n, false, false⟩
  let t := { (s.bump DEC_FID 0) with frames := if n = 0 then s.frames else s.frames ++ [fr] }
  let t := t.setLane l { (t.lane l) with cur := if n = 0 then none else some (fid, 0), flags := newSpans l t }
  let t := t.set LAN_BLOCKS l 0
  if n = 0 then (countSync l op x t).1 else t

/-- An operation whose lane load is refused ends with NOT_READY, and the lane's commit-reject source fires (R133). -/
def refuseLoad (l : Nat) (op : FrameOp) (s : State) : State := pulse (162 + 8 * actOf l) (l % 12) (postAll l op 0xA s)

/-- FRAME_READ_START (R68, R70, R73, R97, R133, R147): the operation that waits next starts at the angle of its frame; one that the lane
cannot read then, or whose lane load fails, is refused. -/
def frameReadStart (l : Nat) (hard : BitVec 302) (s : State) : State :=
  let q := s.lane l
  match q.queue with
  | [] => s
  | op :: rest =>
    match frameTick l op.track.toNat op.slot.toNat s with
    | none => s
    | some t0 =>
      if op.write || q.cur.isSome || q.wcur.isSome || q.wnext.isSome || !bitMet l t0 0 false s then s
      else
        let t := s.setLane l { q with queue := rest }
        match refusal l op t with
        | some c => postAll l op c t
        | none => if loadBad l op t then refuseLoad l op t else startLaneRead l t0 op hard (takeLoad l op t)

/-- The in-line codewords that wait (R136). -/
def showWait (s : State) : State := s.set DEC_STS_WAIT 0 (s.waiting.countP fun w => w.cls < 2)

/-- Change the record of a frame. -/
def State.modFrame (s : State) (fid : Nat) (f : FrameRec → FrameRec) : State :=
  { s with frames := s.frames.map fun x => if x.fid = fid then f x else x }

/-- The record of a frame. -/
def State.frame (s : State) (fid : Nat) : Option FrameRec := s.frames.find? fun x => x.fid == fid

/-- Report a codeword of a frame. -/
def report (fr : FrameRec) (cw code iters : Nat) (off : Int) (erase : Nat) (s : State) : State :=
  trimFrames ((post (resultOf fr.lane fr.op cw code iters off erase) s).modFrame fr.fid fun x => { x with left := x.left - 1 })

/-- The frame bit that entry `i` of the staged decisions of codeword `c` lies on, for a frame aligned at `base` (R87, R149). -/
def softBit (base : Int) (c i : Nat) : Int := 64 + 37152 * (c : Int) + i - 4 + base

/-- The detector's output with reliability 0 in and around flagged regions (R86, R92, R93). -/
def erased (l : Nat) (fr : FrameRec) (c : Nat) (soft : List (BitVec 4)) (s : State) : List (BitVec 4) :=
  let flags := (s.lane l).flags
  let h := s.get LAN_DROP_HOLDX l
  ((List.range soft.length).zip soft).map fun p => if bitErased fr.op flags h (softBit fr.base c p.1) then p.2 &&& 8#4 else p.2

/-- Codewords of the lane in its staging buffer: in line and not taken by an engine (R87). -/
def stagedCount (l : Nat) (s : State) : Nat := s.waiting.countP fun w => w.lane == l && w.cls < 2

/-- `LANn_STGV.OCC` follows the staging buffer. -/
def showStaged (l : Nat) (s : State) : State := s.set LAN_STGV_OCC l (stagedCount l s)

/-- The alignment of a frame is settled with its first codeword (R94–R96): by then every flag over its sync window is known. -/
def judgeSync (l fid : Nat) (s : State) : State :=
  match (s.frame fid).bind fun fr => fr.seen.map fun x => (fr, x) with
  | none => s
  | some (fr, x) =>
    let y := countSync l fr.op x s
    y.1.modFrame fid fun f => { f with seen := none, base := y.2.2.1, prov := y.2.1 == 1 }

/-- The encoded frame of an operation leaves the write buffer. -/
def dropFrame (l : Nat) (op : FrameOp) (s : State) : State :=
  s.setLane l { s.lane l with wbuf := (s.lane l).wbuf.filter fun w => w.1 ≠ op }

/-- The write whose start has been decided begins once no other frame passes (R81, R82, R113): the gate is asserted, or at the end of the
wedge window that its frame starts at (R115, R147). -/
def beginLaneWrite (l : Nat) (s : State) : State :=
  let q := s.lane l
  match q.wnext with
  | none => s
  | some (op, b, t0) =>
    if q.cur.isSome || q.wcur.isSome then s
    else
      let t := takeLoad l op (s.setLane l { q with wcur := some (op, b), wnext := none, flags := newSpans l s })
      let t := startFrame l (bitPosition l t + bitsTo l t0 true t) (loadLoops l t)
      let w := t.on LAN_WEDGE l
      recheckWrite l ((setGate l (!w) t).setMany l [(LAN_TRUNC, 0), (LAN_SPLIT, w.toNat)])

/-- The read in progress goes on with codeword `c`, or ends (R80): the wedge interval keeps what the frame's windows have covered. -/
def readNext (l : Nat) (next : Option (Nat × Nat)) (s : State) : State :=
  match next with
  | none => beginLaneWrite l ((noteFlag l s).setLane l { s.lane l with cur := none })
  | some _ => s.setLane l { s.lane l with cur := next }

/-- CODEWORD_STAGED (R68, R86–R88, R92): the next codeword of the frame being read is staged for the pool, or reported OVERRUN with the
rest of its frame. -/
def codewordStaged (l : Nat) (soft : List (BitVec 4)) (s : State) : State :=
  match (s.lane l).cur with
  | none => s
  | some (fid, n) =>
    if !laneActive l s then s
    else
    let s := judgeSync l fid s
    match s.frame fid with
    | none => readNext l none s
    | some fr =>
      match (maskCws fr.op.cwmask.toNat).filter (n ≤ ·) with
      | [] => readNext l none s
      | c :: rest =>
        let flagged := erased l fr c soft s
        let s := readNext l (if rest.isEmpty then none else some (fid, c + 1)) s
        if fr.cancel then report fr c 0xE 0 0 0 s
        else if fr.ovr then report fr c 0x8 0 0 0 s
        else if 16 ≤ stagedCount l s then
          let t := report fr c 0x8 0 0 0 ((s.modFrame fid fun x => { x with ovr := true }).bump LAN_STGV_OVR l)
          pulse (161 + 8 * actOf l) (l % 12) t
        else
          let w : Waiting := ⟨fid, l, fr.op.mtag.toNat, c, fr.op.cls.val, s.aonNs, (fr.hit.getD fr.base), flagged⟩
          showStaged l (showWait { s with waiting := s.waiting ++ [w] })

/-- FRAME_OP_CANCEL (R109): operations not started and codewords not dispatched are removed and reported CANCELLED; the output
of those in engines is discarded when they finish. -/
def frameOpCancel (l mtag : Nat) (s : State) : State :=
  let q := s.lane l
  let mine := q.queue.filter fun o => o.mtag.toNat == mtag
  let t := s.setLane l { q with queue := q.queue.filter (fun o => o.mtag.toNat != mtag), wbuf := q.wbuf.filter (fun o => o.1.mtag.toNat != mtag) }
  let t := forAll mine (fun o u => postAll l o 0xE u) t
  let gone := t.waiting.filter fun w => w.lane == l && w.mtag == mtag
  let t := { t with waiting := t.waiting.filter fun w => !(w.lane == l && w.mtag == mtag) }
  let t := showStaged l t
  let t := forAll gone (fun w u => match u.frame w.fid with | some fr => report fr w.cw 0xE 0 0 0 u | none => u) t
  showWait { t with frames := t.frames.map fun f => if f.lane == l && f.op.mtag.toNat == mtag then { f with cancel := true } else f }

/-- Whether the write of an operation starts is decided (R68, R112, R113): the whole frame is encoded, the lane is ACTIVE and every condition
of the write gate holds. -/
def startLaneWrite (l t0 : Nat) (op : FrameOp) (s : State) : State :=
  match (s.lane l).wbuf.find? fun w => w.1 == op with
  | some w =>
    if !w.2.isEmpty && writeAllowed l s && s.is LAN_STS_STATE l 2 then
      beginLaneWrite l (s.setLane l { s.lane l with wnext := some (op, w.2, t0) })
    else postAll l op 0xD (dropFrame l op s)
  | none => postAll l op 0xD s

/-- FRAME_WRITE_START (R73, R81, R112, R133, R147): 64 bits before the lead gap of the frame, moved by the write offset. The frame before it
may still pass; its lane load then applies when that has ended. -/
def frameWriteStart (l : Nat) (s : State) : State :=
  let q := s.lane l
  match q.queue with
  | [] => s
  | op :: rest =>
    match frameTick l op.track.toNat op.slot.toNat s with
    | none => s
    | some t0 =>
      if !op.write || q.wnext.isSome || !bitMet l t0 64 true s then s
      else
        let t := s.setLane l { q with queue := rest }
        if loadBad l op t then refuseLoad l op (dropFrame l op t)
        else startLaneWrite l t0 op (if q.cur.isSome || q.wcur.isSome then t else takeLoad l op t)

/-- The bits of the frame have passed (R149). -/
def framePassed (l : Nat) (s : State) : Bool := decide (297312 ≤ frameBit l s)

/-- FRAME_WRITE_END (R110, R116): W_OK, or W_TRUNC with the bit offset of the truncation; the write-data pair has carried the bits up to
there. -/
def frameWriteEnd (l : Nat) (s : State) : State :=
  match (s.lane l).wcur with
  | none => s
  | some (op, b) =>
    if !framePassed l s then s
    else
      let code := if s.on LAN_TRUNC l then 0xC else 0xB
      let n := if s.on LAN_TRUNC l then s.get LAN_TRUNCOFF l else b.length
      let off : Int := if s.on LAN_TRUNC l then s.get LAN_TRUNCOFF l else 0
      let t := dropFrame l op (s.emit (writeData l (b.take n) s))
      let t := t.setLane l { t.lane l with wcur := none }
      beginLaneWrite l (post (resultOf l op 0 code 0 off 0) ((setGate l false t).setMany l [(LAN_TRUNC, 0), (LAN_SPLIT, 0)]))

/-! ## Lane memory (R135) -/

/-- The word holds defined content (R135). -/
def lmemDefined (space w : Nat) : Bool := w < 512 && (space < 2 || (space == 2 && w % 32 < 25))

/-- The width of a lane-memory word: an RTT entry, a tap, TRAINED (R131). -/
def lmemWidth (space w : Nat) : Nat := if space < 2 then 24 else if w % 32 = 24 then 4 else 12

/-- A write to a defined word of the bank in use is refused (R135; the words without content come first, log entry 9). -/
def lmemRefused (l space w : Nat) (s : State) : Bool :=
  lmemDefined space w && ((space < 2 && s.on LAN_RTTSEL_EN l && s.is LAN_RTTSEL_BANK l space)
    || (space == 2 && w / 32 == s.get LAN_EQBANK_BANK l))

/-- The address advances with AUTOINC after every access (R135). -/
def lmemAdvance (l : Nat) (s : State) : State := if s.on LAN_MEMADR_AUTOINC l then s.bump LAN_MEMADR_WORD l else s

/-- LAN_MEMDAT_WRITE (R135). -/
def lanMemdatWrite (l v : Nat) (s : State) : State :=
  let sp := s.get LAN_MEMADR_SPACE l
  let w := s.get LAN_MEMADR_WORD l
  lmemAdvance l
    (if lmemRefused l sp w s then s.set LAN_STS_MEMREF l 1
     else if lmemDefined sp w then s.setLword l sp w (v % 2 ^ lmemWidth sp w)
     else s)

/-- LANE_MEMDAT_READ (R135). -/
def lanMemdatRead (l : Nat) (s : State) : State :=
  let sp := s.get LAN_MEMADR_SPACE l
  let w := s.get LAN_MEMADR_WORD l
  lmemAdvance l (s.ret (if lmemDefined sp w then s.lword l sp w else 0))

end Sys2Proof.Machine
end

