-- ==== Sys2Proof/Machine/HeadLink.lean ====
section
/-!
DEFINITION. The head links (spec/02, R120–R127, R137, R668): packets, acknowledgement, training, fault flags.
-/

namespace Sys2Proof.Machine

/-- A packet with its CRC (R120). -/
def packet (typ head addr data seq : Nat) : BitVec 48 :=
  let body : BitVec 48 := BitVec.ofNat 48
    (typ % 16 * 2 ^ 44 + head % 16 * 2 ^ 40 + addr % 256 * 2 ^ 32 + data % 65536 * 2 ^ 16 + seq % 256 * 256)
  BitVec.ofNat 48 (body.toNat + headLinkCrc body)

/-- The CRC of a received packet matches (R120). -/
def crcOk (p : BitVec 48) : Bool := headLinkCrc p == p.toNat % 256

/-- Fields of a packet (R120). -/
def pktType (p : BitVec 48) : Nat := bits p.toNat 44 4
/-- HEAD of a packet. -/
def pktHead (p : BitVec 48) : Nat := bits p.toNat 40 4
/-- DATA of a packet. -/
def pktData (p : BitVec 48) : Nat := bits p.toNat 16 16
/-- SEQ of a packet. -/
def pktSeq (p : BitVec 48) : Nat := bits p.toNat 8 8

/-- A packet with a CRC error is discarded and counted, and source 97 + 8a fires (R123). -/
def crcError (a : Nat) (s : State) : State := pulse (97 + 8 * a) 0xFF (s.bump HLK_ERR_CRC a)

/-- Link `a` hears its receiver: a disabled link is stopped (R137). -/
def linkHears (a : Nat) (s : State) : Bool := s.on HLK_CTL_EN a

/-- Record the age of output `n` (R386, R387): the trigger stamp of its run to the present stamp. An age across a step or a
change of the angle source is not recorded. Above AGELIM source 232 fires. -/
def recordAge (n trig epoch : Nat) (s : State) : State :=
  if epoch ≠ s.get ANG_EPOCH 0 then s
  else
    let age := Nat.min 0xFFFF ((s.stamp + 2 ^ 64 - trig) % 2 ^ 64)
    let t := (s.set LPE_LAT_LAST n age).set LPE_LAT_WORST n (Nat.max age (s.get LPE_LAT_WORST n))
    if t.get LPE_OUTCFG_AGELIM n < age then pulse 232 n ((t.set LPE_STS_AGEOUT 0 n).set LPE_STS_AGEOUT_V 0 1) else t

/-! ## Training (R127, R137) -/

/-- Start a training of link `a` from its first round, in the orientation of the hint. -/
def startTraining (a : Nat) (s : State) : State :=
  (s.setLinkQ (4 + a) []).setMany a [(HLK_TRAINING, 1), (HLK_CTL_TRAIN, 1), (HLK_ROUND, 0), (HLK_ORIENT, 0), (HLK_ANSWER, 0)]

/-- The link is no longer UP: requests are discarded, an outstanding register command ends in error, gates drop (R125, R668). -/
def linkUnup (a : Nat) (s : State) : State :=
  let t := if s.on HLK_REGCMD_BUSY a then s.setMany a [(HLK_REGCMD_BUSY, 0), (HLK_REGCMD_ERR, 1), (HLK_REGWAIT, 0)] else s
  recheckActuator a (((t.setLinkQ a []).setLinkQ (4 + a) []).setMany a [(HLK_STS_UP, 0), (HLK_WENOK, 0), (HLK_WENWAIT, 0), (HLK_WENTRY, 0), (HLK_HOLD, 0)])

/-- HLK_ENABLE (R127, R137): setting EN starts training; EN already set starts nothing. -/
def hlkEnable (a : Nat) (s : State) : State :=
  if s.on HLK_CTL_EN a then s else startTraining a (s.set HLK_CTL_EN a 1)

/-- HLK_DISABLE (R137). -/
def hlkDisable (a : Nat) (s : State) : State :=
  let t := s.setMany a [(HLK_CTL_EN, 0), (HLK_TRAINING, 0), (HLK_CTL_TRAIN, 0), (HLK_ANSWER, 0)]
  lower (96 + 8 * a) 0xFF (linkUnup a t)

/-- HLK_TRAIN (R127, R137): an enabled link trains; one that was UP is not UP meanwhile. -/
def hlkTrain (a : Nat) (s : State) : State :=
  if !s.on HLK_CTL_EN a || s.on HLK_TRAINING a then s else startTraining a (linkUnup a s)

/-- A round has failed (R127): after the third the preamplifier is missing. -/
def roundFailed (a : Nat) (s : State) : State :=
  if s.get HLK_ROUND a < 2 then (s.bump HLK_ROUND a).setMany a [(HLK_ORIENT, 0), (HLK_ANSWER, 0)]
  else
    let t := s.setMany a [(HLK_STS_ABSENT, 1), (HLK_TRAINING, 0), (HLK_CTL_TRAIN, 0), (HLK_ANSWER, 0)]
    updateMembers (raise (100 + 8 * a) 0xFF t)

/-- HLK_ORIENT_TIMEOUT (R127). -/
def hlkOrientTimeout (a : Nat) (s : State) : State :=
  if !s.on HLK_TRAINING a || s.on HLK_ANSWER a then s
  else if s.on HLK_ORIENT a then roundFailed a s
  else s.set HLK_ORIENT a 1

/-- HLK_TRAIN_HB_TIMEOUT (R127): a response without a heartbeat fails the round. -/
def hlkHbTimeout (a : Nat) (s : State) : State :=
  if s.on HLK_TRAINING a && s.on HLK_ANSWER a then roundFailed a s else s

/-- HLK_TRAINING_RX (R127): the response's inversions are recorded; the orientation is the one being tried. -/
def hlkTrainingRx (a : Nat) (aInv bInv : Bool) (s : State) : State :=
  if !s.on HLK_TRAINING a || s.on HLK_ANSWER a then s
  else s.setMany a [(HLK_ANSWER, 1), (HLK_STS_A_INV, aInv.toNat), (HLK_STS_B_INV, bInv.toNat),
    (HLK_STS_SWAPPED, (s.on HLK_CTL_SWAP_HINT a != s.on HLK_ORIENT a).toNat)]

/-- The three wiring findings of a training as one number. -/
def wiringOf (a : Nat) (s : State) : Nat :=
  s.get HLK_STS_SWAPPED a + 2 * s.get HLK_STS_A_INV a + 4 * s.get HLK_STS_B_INV a

/-- The orientation-change source fires on this training (R127). -/
def orientationChanged (a : Nat) (s : State) : Bool :=
  if s.on HLK_TRAINED a then s.get HLK_LASTORI a != wiringOf a s
  else s.on GLB_WIRING_CALDONE 0 && s.get HLK_STS_SWAPPED a != s.get HLK_CTL_SWAP_HINT a

/-- The link comes up (R127, R668): the present mask is sent first, and the gates wait for its acknowledgement. -/
def linkUp (a : Nat) (s : State) : State :=
  let ch := orientationChanged a s
  let t := s.setMany a [(HLK_STS_UP, 1), (HLK_STS_ABSENT, 0), (HLK_TRAINING, 0), (HLK_CTL_TRAIN, 0), (HLK_ANSWER, 0),
    (HLK_STS_HINT_DIFF, (s.get HLK_STS_SWAPPED a != s.get HLK_CTL_SWAP_HINT a).toNat), (HLK_TRAINED, 1),
    (HLK_LASTORI, wiringOf a s), (HLK_HOLD, 1), (HLK_WENOK, 0), (HLK_WENWAIT, 0), (HLK_WENTRY, 0)]
  let t := (t.setLinkQ a [⟨6, 0xF, 0, t.get HLK_WEN a, none⟩]).setLinkQ (4 + a) []
  let t := t.setBit GLB_WIRING_HLK 0 a (t.on HLK_STS_SWAPPED a)
  let t := updateMembers (lower (100 + 8 * a) 0xFF (lower (96 + 8 * a) 0xFF t))
  if ch then pulse (101 + 8 * a) 0xFF t else t

/-- HLK_HEARTBEAT_RX (R123, R125, R127). -/
def hlkHeartbeatRx (a : Nat) (p : BitVec 48) (s : State) : State :=
  if !linkHears a s then s
  else if !crcOk p then crcError a s
  else if pktType p ≠ 9 then s
  else if s.on HLK_TRAINING a && s.on HLK_ANSWER a then linkUp a s
  else s

/-- HLK_LINK_DOWN (R125, R668). -/
def hlkLinkDown (a : Nat) (s : State) : State :=
  if !s.on HLK_STS_UP a then s else raise (96 + 8 * a) 0xFF (startTraining a (linkUnup a s))

/-! ## Sending and acknowledgement (R121–R123, R668) -/

/-- HLK_WEN_WRITE (R121). -/
def hlkWenWrite (a m : Nat) (s : State) : State := setWen a m s

/-- The packet of a register command as written to `HLKa_REGCMD` (R120, R137). -/
def regPacket (v : Nat) : HlkReq := ⟨if v.testBit 12 then 2 else 1, bits v 8 4, bits v 0 8, bits v 16 16, none⟩

/-- HLK_REGCMD_GO (R123, R137, R668): the fields and the W1C of ERR take effect; a command for a link that is not UP ends in error; GO while
one is outstanding starts none, and that one goes on as it was started. -/
def hlkRegcmdGo (a v : Nat) (s : State) : State :=
  let t := s.setMany a [(HLK_REGCMD_ADDR, bits v 0 8), (HLK_REGCMD_HEAD, bits v 8 4), (HLK_REGCMD_RD, bits v 12 1),
    (HLK_REGCMD_WDATA, bits v 16 16)]
  let t := if v.testBit 15 then t.set HLK_REGCMD_ERR a 0 else t
  if !v.testBit 13 || t.on HLK_REGCMD_BUSY a then t
  else if !t.on HLK_STS_UP a then t.set HLK_REGCMD_ERR a 1
  else linkSend a (regPacket v) (t.setMany a [(HLK_REGCMD_BUSY, 1), (HLK_REGTRY, 0), (HLK_REGREQ, v)])

/-- What the sending of a packet starts (R122, R123). -/
def afterSend (a : Nat) (r : HlkReq) (seq : Nat) (s : State) : State :=
  match r.typ with
  | 6 => s.setMany a [(HLK_WENWAIT, 1), (HLK_WENSEQ, seq), (HLK_WENTIME, s.aonNs)]
  | 1 => s.setMany a [(HLK_REGWAIT, 1), (HLK_REGSEQ, seq), (HLK_REGTIME, s.aonNs)]
  | 2 => s.setMany a [(HLK_REGWAIT, 1), (HLK_REGSEQ, seq), (HLK_REGTIME, s.aonNs)]
  | 4 =>
    let t := if r.head < 12 then s.set HLK_MICRO (12 * a + r.head) s.stamp else s
    match r.age with | some (n, trig, ep) => recordAge n trig ep t | none => t
  | 5 => match r.age with | some (n, trig, ep) => recordAge n trig ep s | none => s
  | _ => s

/-- The packet that is sent next (R121, R668): training packets while the link trains, the mask alone until it is settled
after the link has come up, a heartbeat when nothing waits. -/
def nextPacket (a : Nat) (s : State) : Option HlkReq :=
  if s.on HLK_TRAINING a then some ⟨0xA, 0xF, 0, 0, none⟩
  else if !s.on HLK_STS_UP a then none
  else if s.on HLK_HOLD a then (s.linkQ a).find? fun r => r.typ == 6
  else match s.linkQ a with
    | [] => some ⟨9, 0xF, 0, 0, none⟩
    | r :: _ => some r

/-- The transmission of the next packet begins: it leaves those that wait, and none preempts it (R122). -/
def beginSend (a : Nat) (s : State) : State :=
  match nextPacket a s with
  | none => s.setLinkQ (4 + a) []
  | some r => (s.setLinkQ a ((s.linkQ a).erase r)).setLinkQ (4 + a) [r]

/-- HLK_PACKET_SENT (R121, R122, R668): the last bit of the packet in transmission, and the beginning of the next one. A link on which none
has begun sends the first by its priority. -/
def hlkPacketSent (a : Nat) (s : State) : State :=
  let s := if (s.linkQ (4 + a)).isEmpty then beginSend a s else s
  match s.linkQ (4 + a) with
  | [] => s
  | r :: _ =>
    let seq := s.get HLK_SEQ a
    beginSend a (afterSend a r seq ((s.bump HLK_SEQ a).emit (.headLink a (packet r.typ r.head r.addr r.data seq))))

/-- HLK_RESPONSE_RX (R123): a response whose sequence number matches completes what is outstanding. What makes a response a matching one is not
stated: SEQ alone is compared, and each resend carries a sequence number of its own (log entry 8). -/
def hlkResponseRx (a : Nat) (p : BitVec 48) (s : State) : State :=
  if !linkHears a s then s
  else if !crcOk p then crcError a s
  else if pktType p ≠ 3 then s
  else if s.on HLK_WENWAIT a && s.is HLK_WENSEQ a (pktSeq p) then
    s.setMany a [(HLK_WENWAIT, 0), (HLK_WENOK, 1), (HLK_WENTRY, 0), (HLK_HOLD, 0), (HLK_LAT, s.aonNs - s.get HLK_WENTIME a)]
  else if s.on HLK_REGWAIT a && s.is HLK_REGSEQ a (pktSeq p) then
    s.setMany a [(HLK_REGWAIT, 0), (HLK_REGCMD_BUSY, 0), (HLK_REGDAT, pktData p), (HLK_LAT, s.aonNs - s.get HLK_REGTIME a)]
  else s

/-- No acknowledgement of the mask (R123): resend it, or after three resends fire source 99 + 8a. A mask that a newer one has replaced is
not resent. -/
def maskTimeout (a : Nat) (s : State) : State :=
  let t := s.set HLK_WENWAIT a 0
  if (s.linkQ a ++ s.linkQ (4 + a)).any fun r => r.typ == 6 then t
  else if s.get HLK_WENTRY a < 3 then
    ((t.bump HLK_WENTRY a).bump HLK_ERR_RESENDS a).setLinkQ a (insertReq (t.linkQ a) ⟨6, 0xF, 0, t.get HLK_WEN a, none⟩)
  else pulse (99 + 8 * a) 0xFF (t.setMany a [(HLK_WENTRY, 0), (HLK_HOLD, 0)])

/-- No response to the register command (R123): resend it, or after three resends ERR sets and source 98 + 8a fires. -/
def regTimeout (a : Nat) (s : State) : State :=
  let t := s.set HLK_REGWAIT a 0
  if s.get HLK_REGTRY a < 3 then
    ((t.bump HLK_REGTRY a).bump HLK_ERR_RESENDS a).setLinkQ a (insertReq (t.linkQ a) (regPacket (t.get HLK_REGREQ a)))
  else pulse (98 + 8 * a) 0xFF (t.setMany a [(HLK_REGCMD_BUSY, 0), (HLK_REGCMD_ERR, 1)])

/-- HLK_ACK_TIMEOUT (R123): of two packets outstanding, the one sent first. -/
def hlkAckTimeout (a : Nat) (s : State) : State :=
  if s.on HLK_WENWAIT a && (!s.on HLK_REGWAIT a || decide (s.get HLK_WENTIME a ≤ s.get HLK_REGTIME a)) then maskTimeout a s
  else if s.on HLK_REGWAIT a then regTimeout a s
  else s

/-! ## Fault flags (R126, R287) -/

/-- Fire the sources of the flags that are newly set and end those that are newly clear (R126, R537). -/
def flagSources (a p old new : Nat) (s : State) : State :=
  forBelow 7 (fun b t =>
    if new.testBit b && !old.testBit b then raise (128 + 8 * a + b) p t
    else if old.testBit b && !new.testBit b then lower (128 + 8 * a + b) p t else t) s

/-- HLK_FAULT_FLAGS_RX (R123, R126, R198). A packet whose HEAD names no arm position, 12 to 15, is ignored: the spec does not say what it does
(log entry 8). -/
def hlkFaultFlagsRx (a : Nat) (p : BitVec 48) (s : State) : State :=
  if !linkHears a s then s
  else if !crcOk p then crcError a s
  else if pktType p ≠ 8 || 12 ≤ pktHead p then s
  else
    let i := pktHead p
    let h := 12 * a + i
    let old := s.get HLK_PRESENT h
    let new := pktData p % 128
    let r := 3 * a + i / 4
    let t := s.set HLK_PRESENT h new
    let t := t.set HLK_FLAG r (t.get HLK_FLAG r ||| new * 2 ^ (8 * (i % 4)))
    let t := flagSources a i old new t
    updateMembers (recheckWrite h t)

end Sys2Proof.Machine
end

