-- ==== Sys2Proof/Machine/Servo.lean ====
section
/-!
DEFINITION. Servo and actuators (spec/05): demodulation, targets, track following and seeks, write inhibit, heaters, loading,
the retract phases, VCM faults.
-/

namespace Sys2Proof.Machine

/-! ## Heads and arms -/

/-- The lowest-numbered populated head of actuator `a` (R53, R267). -/
def refHead (a : Nat) (s : State) : Option Nat :=
  ((List.range 12).map (12 * a + ·)).find? fun h => s.on LAN_POP h

/-- The heads of actuator `a`. -/
def headsOf (a : Nat) : List Nat := (List.range 12).map (12 * a + ·)

/-- The actuator's loops are closed: SEEK or FOLLOW. -/
def loopsClosed (a : Nat) (s : State) : Bool := s.is SRV_STS_STATE a 2 || s.is SRV_STS_STATE a 3

/-- Head `h` is engaged (R264). -/
def engaged (h : Nat) (s : State) : Bool := s.on SRV_CENG h && !headOut h s && !s.is SRV_HSTS_MODE h 3

/-- The target of head `h` in 1/256 servo track, read offset included. -/
def targetPos (h : Nat) (s : State) : Int := (s.get SRV_CTRK h : Int) * 256 + s.getI SRV_COFS h

/-- The arm demand of head `h` for a target position (R265), in 1/256 track. -/
def armDemand (h : Nat) (target : Int) (s : State) : Int := target - s.getI SRV_HOFS h * 16

/-- The arm position that head `h`'s newest sample shows, in 1/256 track: its demand plus the position error, not saturated, and the stroke
(R265, R267). -/
def armSeen (h : Nat) (s : State) : Int := armDemand h (s.getI SRV_YPOS h) s + s.getI SRV_PES_S h

/-- The newest sample of head `h` is no older than two wedge intervals (R267). -/
def sampleFresh (h : Nat) (s : State) : Bool := decide ((s.stamp + 2 ^ 64 - s.get SRV_WSTAMP h) % 2 ^ 64 ≤ 16384)

/-- The weight of head `h` (R267, R268). -/
def weightOf (h : Nat) (s : State) : Nat :=
  s.get SRV_HCFG_WEIGHT h * 2 ^ (if s.on SRV_BOOSTED h then s.get SRV_DESAT_BOOST (actOf h) else 0)

/-- The heads and weights over which the VCM loop of actuator `a` sums (R267, R272): engaged heads in FOLLOW, those engaged in a VCM seek; failing
any weight, every in-service head in FOLLOW, with weight 1. -/
def loopHeads (a : Nat) (s : State) : List (Nat × Nat) :=
  let l := (headsOf a).filter fun h => engaged h s && sampleFresh h s && (s.is SRV_STS_STATE a 2 || s.is SRV_HSTS_MODE h 2)
  if (l.map fun h => weightOf h s).sum ≠ 0 then l.map fun h => (h, weightOf h s)
  else ((headsOf a).filter fun h => !headOut h s && s.is SRV_HSTS_MODE h 2 && sampleFresh h s).map fun h => (h, 1)

/-- The heads and weights of the arm estimate: those of the loop. DESIGN CHOICE: where the loop has none, as in a load before any target, every
in-service head that is not LOST, with weight 1; the spec does not say from which samples its estimator takes the arm's position then (log entry
15). -/
def armHeads (a : Nat) (s : State) : List (Nat × Nat) :=
  let l := loopHeads a s
  if !l.isEmpty then l
  else ((headsOf a).filter fun h => !headOut h s && !s.is SRV_HSTS_MODE h 3 && sampleFresh h s).map fun h => (h, 1)

/-- A weighted mean over heads, rounded down. -/
def weightedMean (l : List (Nat × Nat)) (f : Nat → Int) : Option Int :=
  let w := (l.map (·.2)).sum
  if w = 0 then none else some ((l.map fun p => (p.2 : Int) * f p.1).sum / w)

/-- Show which heads are engaged and which are LOST. -/
def showHeads (a : Nat) (s : State) : State :=
  let mask (p : Nat → Bool) : Nat := ((List.range 12).map fun i => if p (12 * a + i) then 2 ^ i else 0).sum
  s.setMany a [(SRV_STS_ENGAGED, mask fun h => engaged h s), (SRV_STS_LOST, mask fun h => s.is SRV_HSTS_MODE h 3)]

/-- The preamplifier reports a heater fault of head `h` (R287). -/
def heaterFault (h : Nat) (s : State) : Bool := s.bit HLK_PRESENT h 3

/-! ## Write inhibit (R279, R280) -/

/-- The conditions of R279 other than the PES. -/
def inhibitCause (h : Nat) (s : State) : Bool :=
  !s.on SRV_POS_GOOD h || s.on SRV_HSTS_SAT h || s.is SRV_HSTS_MODE h 3 || !engaged h s
    || !(s.is SRV_STS_STATE (actOf h) 3 && s.is SRV_HSTS_MODE h 2) || heaterFault h s

/-- Set head `h`'s write inhibit (R279, R280): its lane drops the gate, and SETTLED_WR ends (R276). -/
def setInhibit (h : Nat) (s : State) : State :=
  if s.on SRV_HSTS_INHIBIT h then s
  else recheckWrite h ((s.setMany h [(SRV_HSTS_INHIBIT, 1), (SRV_HSTS_SETTLED_WR, 0)]).bump SRV_HSTS_WICNT h)

/-- INHIBIT_RELEASE (R280). -/
def inhibitRelease (h : Nat) (s : State) : State :=
  if s.on SRV_HSTS_INHIBIT h && !inhibitCause h s && decide (s.get SRV_HCFG_NREL h ≤ s.get SRV_RELN h)
      && decide ((s.getI SRV_PES_PES h).natAbs ≤ s.get SRV_HCFG_WINH h)
  then s.set SRV_HSTS_INHIBIT h 0 else s

/-! ## Targets and seeks (R263–R265, R272–R278) -/

/-- TARGET_WRITE (R263, R278): ignored with REFUSED while the actuator is neither SEEK nor FOLLOW. LADDER discards the
run-ahead trajectory. -/
def targetWrite (h v : Nat) (s : State) : State :=
  let a := actOf h
  if !loopsClosed a s then s.set SRV_HSTS_REFUSED h 1
  else
    let t := s.setMany h [(SRV_TGT_TRACK, bits v 0 21), (SRV_TGT_ENGAGE, bits v 28 1), (SRV_TGT_WRMODE, bits v 29 1),
      (SRV_TGT_LADDER, bits v 30 1), (SRV_POFS, s.get SRV_TOFS_OFFTRK h), (SRV_TPEND, 1), (SRV_HSTS_SETTLED_RD, 0),
      (SRV_HSTS_SETTLED_WR, 0), (SRV_HSTS_REFUSED, 0), (SRV_RDN, 0), (SRV_WRN, 0)]
    let t := t.bump SRV_HSTS_TSEQ h
    if v.testBit 30 && t.on SRV_NEXTOK a then (t.setMany a [(SRV_NEXTOK, 0), (SRV_NEXT_VALID, 0)]).bump SRV_CNT_RA_DISC a else t

/-- The demands of the engaged heads of an actuator. -/
def demands (a : Nat) (s : State) : List Int :=
  ((headsOf a).filter fun h => engaged h s).map fun h => armDemand h (targetPos h s) s

/-- The least and the greatest of a list, or a default. -/
def spanOf (d : Int) (l : List Int) : Int × Int :=
  match l with
  | [] => (d, d)
  | x :: t => t.foldl (fun p y => (min p.1 y, max p.2 y)) (x, x)

/-- The arm position of the present targets: the centre of the span of the demands, where no head is engaged the last one sought (R265, R278). -/
def targetArm (a : Nat) (s : State) : Int :=
  match demands a s with
  | [] => s.getI SRV_ARM a
  | l => ((spanOf 0 l).1 + (spanOf 0 l).2) / 2

/-- The stroke of head `h` is to move along a trajectory to `goal` (R272, R273): from its estimate, or, on a trajectory already, from that one's
position and velocity (R274). -/
def startStroke (h : Nat) (goal : Int) (s : State) : State :=
  let t := if s.is SRV_HSTS_MODE h 1 then s else (s.set SRV_MVEL h 0).setI SRV_MREF h (s.getI SRV_PES_S h)
  (t.setI SRV_MGOAL h goal).setMany h [(SRV_HSTS_MODE, 1), (SRV_RDN, 0), (SRV_WRN, 0), (SRV_HSTS_SETTLED_RD, 0), (SRV_HSTS_SETTLED_WR, 0)]

/-- Start a micro seek of head `h` (R273): to the stroke that its target needs at the arm's present position. -/
def microSeek (h : Nat) (s : State) : State := startStroke h (s.getI SRV_X (actOf h) - armDemand h (targetPos h s) s) s

/-- The trajectory of a seek starts from the estimator's present state; one under way goes on from its own position, velocity and acceleration
(R274). -/
def startTrajectory (a : Nat) (s : State) : State :=
  let t := if s.is SRV_STS_STATE a 2 then s
    else ((s.set SRV_TA a 0).setI SRV_TP a (s.getI SRV_X a)).setI SRV_TV a (if s.on SRV_XOK a then s.getI SRV_VEL a else 0)
  t.setMany a [(SRV_TDONE, 0), (SRV_TDN, 0)]

/-- Start a VCM seek of actuator `a` to an arm position, from the arm position `from0` of the targets so far (R272, R274, R275, R278): a blend
ends; a waiting trajectory is used when the seek starts from rest where it starts and goes where it leads, and is discarded otherwise. -/
def vcmSeek (a : Nat) (from0 target : Int) (s : State) : State :=
  let nh := 12 * a + Nat.min 11 (s.get SRV_NEXTH a)
  let fits := s.is SRV_STS_STATE a 3 && s.getI SRV_NEXTPOS a == from0
    && armDemand nh ((s.get SRV_NEXT_TRACK a : Int) * 256) s == target
  let t := if s.on SRV_NEXTOK a then
      let u := s.setMany a [(SRV_NEXTOK, 0), (SRV_NEXT_VALID, 0)]
      if fits then u else u.bump SRV_CNT_RA_DISC a
    else s
  let t := ((startTrajectory a t).setI SRV_ARM a target).setMany a [(SRV_STS_STATE, 2), (SRV_STS_BLEND, 0), (SRV_FIRSTTF, 0),
    (SRV_SEEKTO, 0), (SRV_STS_RVLOCK, 0)]
  forAll (headsOf a) (fun h u => if engaged h u then startStroke h (target - armDemand h (targetPos h u) u) u else u) (t.bump SRV_CNT_SEEKS a)

/-- A target takes effect at the head's wedge decision (R263–R265, R275, R286). -/
def acceptTarget (h : Nat) (s : State) : State :=
  let a := actOf h
  let old := s
  let t := s.setMany h [(SRV_TPEND, 0), (SRV_CTRK, s.get SRV_TGT_TRACK h), (SRV_COFS, s.get SRV_POFS h),
    (SRV_CENG, s.get SRV_TGT_ENGAGE h), (SRV_CWR, s.get SRV_TGT_WRMODE h)]
  let t := if old.get SRV_CWR h ≠ t.get SRV_CWR h then t.set SRV_HTWAIT h (t.get SRV_HTR2_WSETTLE h + 1) else t
  if !t.on SRV_CENG h then if t.is SRV_HSTS_MODE h 3 then t else t.set SRV_HSTS_MODE h 0
  else if !engaged h t || !loopsClosed a t then t
  else
    let sp := spanOf 0 (demands a t)
    if sp.2 - sp.1 > (s.get SRV_DESAT_SPAN a : Int) * 256 then
      t.setMany h [(SRV_HSTS_REFUSED, 1), (SRV_CENG, 0), (SRV_HSTS_MODE, 0), (SRV_CTRK, old.get SRV_CTRK h), (SRV_COFS, old.get SRV_COFS h)]
    else if (demands a t).all fun d => decide ((d - t.getI SRV_X a).natAbs ≤ s.get SRV_DESAT_THR a * 256) then
      microSeek h (t.set SRV_STS_BLEND a 0)
    else vcmSeek a (targetArm a old) (targetArm a t) t

/-- SEEK_RUN_AHEAD (R278): the trajectory starts from rest at the present targets' arm position. -/
def seekRunAhead (a v : Nat) (s : State) : State :=
  let t := s.setMany a [(SRV_NEXT_TRACK, bits v 0 21), (SRV_NEXT_VALID, bits v 31 1), (SRV_NEXTOK, bits v 31 1)]
  t.setI SRV_NEXTPOS a (targetArm a t)

/-- The settle point is overdue (R277): TMO wedges of the reference head have passed since the trajectory ended. -/
def seekOverdue (a : Nat) (s : State) : Bool :=
  s.is SRV_STS_STATE a 2 && s.on SRV_TDONE a && decide (s.get SRV_MSEEK_TMO a ≤ s.get SRV_TDN a)

/-- SEEK_TIMEOUT (R277): the seek is repeated once from the present state; the second time the actuator is retracted. -/
def seekTimeout (a : Nat) (s : State) : State :=
  if !seekOverdue a s then s
  else if !s.on SRV_SEEKTO a then
    let t := ((s.bump SRV_CNT_SEEKS a).setI SRV_TP a (s.getI SRV_X a)).setI SRV_TV a (s.getI SRV_VEL a)
    pulse (48 + 12 * a + 1) 0xFF (t.setMany a [(SRV_TA, 0), (SRV_TDONE, 0), (SRV_TDN, 0), (SRV_SEEKTO, 1)])
  else withFollow (retract a (pulse (48 + 12 * a + 1) 0xFF s))

/-- BLEND_END (R275). -/
def blendEnd (a : Nat) (s : State) : State :=
  if s.on SRV_STS_BLEND a && decide (s.get SRV_HAND_NB a ≤ s.get SRV_BLI a) then s.set SRV_STS_BLEND a 0 else s

/-- The stroke of head `h` has come to the end of its trajectory. -/
def strokeDone (h : Nat) (s : State) : Bool := s.is SRV_MREF h (s.get SRV_MGOAL h)

/-- The settle point (R275): the actuator follows, its engaged heads too, once their strokes are where they are to be (R272, R273); an unloading
actuator goes to the retract engine instead (R289). -/
def settlePoint (a : Nat) (s : State) : State :=
  if s.on SRV_UNLOAD a then withFollow (retract a (s.set SRV_UNLOAD a 0))
  else
    let t := s.setMany a [(SRV_STS_STATE, 3), (SRV_FIRSTTF, 1), (SRV_SEEKTO, 0)]
    forAll (headsOf a) (fun h u => if engaged h u && strokeDone h u then u.set SRV_HSTS_MODE h 2 else u) t

/-- The settle condition of R275. -/
def atSettle (a : Nat) (s : State) : Bool :=
  s.is SRV_STS_STATE a 2 && s.on SRV_XOK a
    && decide ((s.getI SRV_X a - s.getI SRV_ARM a).natAbs ≤ s.get SRV_HAND_DIST a * 256)
    && decide ((s.getI SRV_VEL a).natAbs < s.get SRV_HAND_VEL a * 256)

/-- SETTLE_REACHED (R276, R286). -/
def settleReached (h : Nat) (s : State) : State :=
  let a := actOf h
  if !s.is SRV_STS_STATE a 3 || !s.is SRV_HSTS_MODE h 2 || s.on SRV_HSTS_SAT h then s
  else
    let t := if s.get SRV_SETTLE_NRD a ≤ s.get SRV_RDN h then s.set SRV_HSTS_SETTLED_RD h 1 else s
    if s.get SRV_SETTLE_NWR a ≤ s.get SRV_WRN h && !s.on SRV_HSTS_INHIBIT h && !s.on SRV_HTWAIT h
    then t.set SRV_HSTS_SETTLED_WR h 1 else t

/-! ## Loss and recovery (R269–R271) -/

/-- MICROACTUATOR_SATURATION (R269): at the 64th consecutive wedge. -/
def microSaturation (h : Nat) (s : State) : State :=
  if s.is SRV_SATN h 64 then pulse (48 + 12 * actOf h + 11) (h % 12) (s.set SRV_SATN h 65) else s

/-- HEAD_LOST (R270), while the actuator's loops are closed. -/
def headLost (h : Nat) (s : State) : State :=
  let a := actOf h
  if loopsClosed a s && !s.is SRV_HSTS_MODE h 3 && decide (s.get SRV_BAD_BADLIM 0 ≤ s.get SRV_BADN h) && s.on SRV_BADN h then
    let t := setInhibit h (s.setMany h [(SRV_HSTS_MODE, 3), (SRV_HSTS_SETTLED_RD, 0), (SRV_HSTS_SETTLED_WR, 0), (SRV_RDN, 0), (SRV_WRN, 0)])
    pulse (48 + 12 * a + 10) (h % 12) (showHeads a t)
  else s

/-- HEAD_RECOVER (R270). -/
def headRecover (h : Nat) (s : State) : State :=
  let a := actOf h
  if s.is SRV_HSTS_MODE h 3 && decide (3 ≤ s.get SRV_GOODN h) then
    let t := s.set SRV_HSTS_MODE h 0
    let t := if !t.on SRV_CENG h then t
      else if t.is SRV_STS_STATE a 3 && decide ((t.getI SRV_PES_PES h).natAbs ≤ t.get SRV_HAND_DIST a * 256) then t.set SRV_HSTS_MODE h 2
      else microSeek h t
    showHeads a t
  else s

/-- ACTUATOR_LOST (R271). -/
def actuatorLost (a : Nat) (s : State) : State :=
  if loopsClosed a s && s.on SRV_ALOSTN a && decide (s.get SRV_BAD_ALOST 0 ≤ s.get SRV_ALOSTN a) then
    pulse (48 + 12 * a) 0xFF (withFollow (retract a (s.set SRV_ALOSTN a 0)))
  else s

/-! ## The wedge decision (R255–R262, R266–R270, R279, R283–R288) -/

/-- The places within the search window, ±SSMWIN or under OBSERVER ±SSMWIDE servo bits, with the distances of their decisions from the mark, or
from its inverse (R128, R256, R261). -/
def markPlaces (w : Wedge) (inv : Bool) (s : State) : List Hit :=
  let win := if s.is ANG_SRC_SRC 0 4 then s.get SRV_FRAME_SSMWIDE 0 else s.get SRV_FRAME_SSMWIN 0
  (w.sync.filter fun p => decide (p.1.natAbs ≤ win * s.get SRV_FRAME_SBIT 0)).map fun p =>
    let d := popCount (p.2.toNat ^^^ s.get SRV_SSMPAT 0)
    (p.1, if inv then 16 - d else d)

/-- The sync mark as it is found, by R95's choice among the places at most SSMTHR bits from it (R256): its offset in ticks, and whether it is
inverted (R128). -/
def markFound (w : Wedge) (s : State) : Option (Int × Bool) :=
  let thr := s.get SRV_FRAME_SSMTHR 0
  match bestHit thr (markPlaces w false s), bestHit thr (markPlaces w true s) with
  | some a, some b => if betterHit a b = a then some (a.1, false) else some (b.1, true)
  | some a, none => some (a.1, false)
  | none, some b => some (b.1, true)
  | none, none => none

/-- GOOD (R257, R259, R261). -/
def wedgeGood (h : Nat) (w : Wedge) (s : State) : Bool :=
  let lim := s.get SRV_BAD_BMIN 0 * s.get SRV_SAFE_BNOM h
  !s.is ANG_SRC_SRC 0 0 && s.on ANG_SRC_REF 0 && (markFound w s).isSome && w.dibit && wedgeAt h s == some w.num.toNat
    && decide (((w.track.toNat : Int) * 256 - w.pred).natAbs * 8 ≤ s.get SRV_FRAME_TRKWIN 0 * 2048 + w.vel)
    && decide (lim ≤ (w.a + w.b) * 100) && decide (lim ≤ (w.c + w.d) * 100)

/-- The fine offset from the centre of the track read, as a fraction (R255). -/
def fineOffset (w : Wedge) (s : State) : Int × Int :=
  let n : Int := (w.a : Int) - w.b
  let even := w.track.toNat % 2 = 0
  if n.natAbs * 256 ≤ s.get SRV_FRAME_LIN 0 * (w.a + w.b) then
    (if even then n else -n, 2 * ((w.a : Int) + w.b))
  else
    let q : Int := if even then w.d else w.c
    (if (0 < n) = even then q else -q, (w.c : Int) + w.d)

/-- The position in 1/256 track, rounded down (R255); where a quotient has no value the position is free. -/
def demodulate (h : Nat) (w : Wedge) (s : State) : Int :=
  let e := fineOffset w s
  if e.2 = 0 || w.a + w.b = 0 then sgn 29 s.free
  else (w.track.toNat : Int) * 256 + e.1 * s.get SRV_HGAIN_PESCAL h / (e.2 * 16)

/-- The PES (R262). -/
def pesOf (h : Nat) (y : Int) (s : State) : Int := clampI (-0x7FFF) 0x7FFF (y - targetPos h s)

/-- The predictor learns from a GOOD wedge (R260). -/
def learnWedge (h : Nat) (w : Wedge) (s : State) : State :=
  match markFound w s with
  | none => s
  | some (d, _) =>
    let i := 512 * h + w.num.toNat
    s.setI SRV_WTAB i (clampI (-32768) 32767 (s.getI SRV_WTAB i + d * 16 / 2 ^ s.get SRV_FRAME_VSHIFT 0))

/-- The heater command of head `h` (R283, R287). -/
def heaterCommand (h : Nat) (s : State) : Nat :=
  if heaterFault h s then 0
  else
    let base : Int := if s.on SRV_CWR h then s.get SRV_HTR_WRP h else s.get SRV_HTR_RDP h
    (clampI 0 (s.get SRV_HTR_HMAX h) (base + s.getI SRV_HTRV_TRIM h)).toNat

/-- A changed heater command is sent at the wedge decision (R283); with the loop engine stopped the heater holds its reset state (R401). -/
def sendHeater (h : Nat) (s : State) : State :=
  let c := if s.on LPE_CTL_RUN 0 then heaterCommand h s else 0
  if s.is SRV_HTRV_CMD h c then s else linkSend (actOf h) ⟨5, h % 12, 0, c, none⟩ (s.set SRV_HTRV_CMD h c)

/-- Clearance index and trim (R284): once per revolution, at the wedge predicted as the head's wedge 0, the trim integrates the error of the
mean. -/
def clearance (h : Nat) (w : Wedge) (good : Bool) (s : State) : State :=
  let s := if wedgeAt h s = some 0 && s.on SRV_CIN h then
      let t := s.setMany h [(SRV_CISUM, 0), (SRV_CIN, 0)]
      if s.on SRV_HTR2_LOOP h then
        let m : Int := s.get SRV_CISUM h / s.get SRV_CIN h
        let lim : Int := s.get SRV_HTR_HMAX h / 4
        t.setI SRV_HTRV_TRIM h (clampI (-lim) lim (s.getI SRV_HTRV_TRIM h + (m - s.get SRV_HTR_CI_TGT h) / 2 ^ s.get SRV_HTR2_KI h))
      else t
    else s
  if good then ((s.set SRV_HTRV_CI h w.ci.toNat).add SRV_CISUM h w.ci.toNat).addSat SRV_CIN h 1 else s

/-- Desaturation of head `h` (R268). -/
def desaturate (h : Nat) (s : State) : State :=
  let m := (s.getI SRV_PES_S h).natAbs
  let a := actOf h
  if s.get SRV_DESAT_THR a * 256 < m then s.set SRV_BOOSTED h 1
  else if m < s.get SRV_DESAT_REL a * 256 then s.set SRV_BOOSTED h 0 else s

/-- The stroke of a head advances one wedge along its trajectory, within `SRVa_MSEEK` (R272–R274), and a micro seek ends in FOLLOW with it; the
sampling of the trajectory is the model's (log entry 15). -/
def microAdvance (h : Nat) (s : State) : State :=
  let a := actOf h
  if !s.is SRV_HSTS_MODE h 1 || !loopsClosed a s then s
  else
    let d := s.getI SRV_MGOAL h - s.getI SRV_MREF h
    let dir : Int := if d < 0 then -1 else 1
    let acc : Int := 16 * s.get SRV_MSEEK_MAMAX a
    let v := dir * s.getI SRV_MVEL h
    let fits (x : Int) : Bool := decide (x * x ≤ 2 * acc * d.natAbs)
    let v := if v < 0 then v + acc else if fits (v + acc) then v + acc else if fits v then v else v - acc
    let v := if v < 0 then v else max 1 (min v (s.get SRV_MSEEK_MVMAX a * 256))
    if decide ((d.natAbs : Int) ≤ v) then
      let t := (s.set SRV_MVEL h 0).setI SRV_MREF h (s.getI SRV_MGOAL h)
      if s.is SRV_STS_STATE a 3 then t.set SRV_HSTS_MODE h 2 else t
    else (s.setI SRV_MREF h (s.getI SRV_MREF h + dir * v)).setI SRV_MVEL h (dir * v)

/-! ### The trajectory of a VCM seek (R272, R274)

Positions, velocities and accelerations are in 1/256 track, at the wedges of the reference head, and point toward the target. The rule gives the
limits and the least time; the sampling is the model's (log entry 15). -/

/-- One wedge of braking from velocity `v` and acceleration `acc`, within `top` and jerk `j`. -/
def brakeStep (top j : Int) (p : Int × Int) : Int × Int :=
  let a := if p.2 < 0 ∧ p.1 * 2 * j ≤ p.2 * p.2 then min 0 (p.2 + j) else max (-top) (p.2 - j)
  (p.1 + a, a)

/-- The distance within which braking ends in rest; `n` bounds the wedges. -/
def brakeWay (top j : Int) : Nat → Int × Int → Int
  | 0, _ => 0
  | n + 1, p => let q := brakeStep top j p; if q.1 ≤ 0 then 0 else q.1 + brakeWay top j n q

/-- The velocity and acceleration after a wedge with jerk `x`, the velocity kept within `vmax`. -/
def jerkStep (vmax top x : Int) (p : Int × Int) : Int × Int :=
  let a := max (-top) (min (min top (p.2 + x)) (vmax - p.1))
  (p.1 + a, a)

/-- A step from which the arm can keep within `vmax` and rest within `rem`. -/
def stepFits (vmax top j rem : Int) (q : Int × Int) : Bool :=
  decide (0 < q.1) && (decide (q.2 ≤ j) || decide (q.2 * q.2 ≤ 2 * j * (vmax - q.1))) && decide (q.1 + brakeWay top j 4096 q ≤ rem)

/-- The next velocity and acceleration of the trajectory with `rem` to go: the greatest jerk after which the arm can still stop; an arm that moves
away from its target is stopped first (R274). None: the trajectory ends here. -/
def trajStep (vmax top j rem : Int) (p : Int × Int) : Option (Int × Int) :=
  if p.1 < 0 then some (p.1 + min top (p.2 + j), min top (p.2 + j))
  else match ([j, 0, -j].map fun x => jerkStep vmax top x p).find? (stepFits vmax top j rem) with
    | some q => some q
    | none => if (brakeStep top j p).1 ≤ 0 then none else some (brakeStep top j p)

/-- The trajectory of a VCM seek advances by one wedge of the reference head within `SRVa_SEEK` (R272, R274), of an unload within VMAX ÷ 8 (R289);
the wedges after its end are counted (R277). -/
def seekAdvance (a : Nat) (s : State) : State :=
  if !s.is SRV_STS_STATE a 2 then s
  else if s.on SRV_TDONE a then s.set SRV_TDN a (Nat.min 0xFFFF (s.get SRV_TDN a + 1))
  else
    let d := s.getI SRV_ARM a - s.getI SRV_TP a
    let dir : Int := if d < 0 then -1 else 1
    let vmax : Int := s.get SRV_SEEK_VMAX a * (if s.on SRV_UNLOAD a then 32 else 256)
    match trajStep vmax (s.get SRV_SEEK_AMAX a * 256) (s.get SRV_SEEK_JMAX a * 16) d.natAbs (dir * s.getI SRV_TV a, dir * s.getI SRV_TA a) with
    | none => (s.setMany a [(SRV_TV, 0), (SRV_TA, 0), (SRV_TDONE, 1)]).setI SRV_TP a (s.getI SRV_ARM a)
    | some q => ((s.setI SRV_TP a (s.getI SRV_TP a + dir * q.1)).setI SRV_TV a (dir * q.1)).setI SRV_TA a (dir * q.2)

/-- Consecutive-wedge counters, and the settle flags that a wedge breaks (R269, R276, R280, R286). DEDUCED: the wedges that R280 counts are GOOD and
within WREL, and its other conditions are tested at the wedge that clears the inhibit (`inhibitRelease`), not at every wedge counted (log
entry 15). -/
def countWedge (h : Nat) (good : Bool) (s : State) : State :=
  let a := actOf h
  let p := (s.getI SRV_PES_PES h).natAbs
  let follow := s.is SRV_STS_STATE a 3 && s.is SRV_HSTS_MODE h 2
  let n (f : Field) (top : Nat) (c : Bool) (t : State) : State := t.set f h (if c then Nat.min top (t.get f h + 1) else 0)
  let t := n SRV_BADN 255 (!good) s
  let t := n SRV_GOODN 7 good t
  let t := n SRV_RDN 15 (follow && decide (p ≤ s.get SRV_SETTLE_RD a)) t
  let t := n SRV_WRN 15 (follow && decide (p ≤ s.get SRV_SETTLE_WR a)) t
  let t := n SRV_RELN 15 (good && decide (p ≤ s.get SRV_HCFG_WREL h)) t
  let t := n SRV_SATN 65 (s.on SRV_HSTS_SAT h) t
  let t := t.dec SRV_HTWAIT h
  let t := if t.on SRV_RDN h && !t.on SRV_HSTS_SAT h then t else t.set SRV_HSTS_SETTLED_RD h 0
  if t.on SRV_WRN h && !t.on SRV_HSTS_SAT h && !t.on SRV_HTWAIT h then t else t.set SRV_HSTS_SETTLED_WR h 0

/-- The error and the arm estimate at a wedge of the reference head (R265, R267, R275, R291); with no head the arm holds on its estimator. -/
def estimateArm (a : Nat) (s : State) : State :=
  let s := s.setI SRV_EA a ((weightedMean (loopHeads a s) fun h => s.getI SRV_PES_PES h + s.getI SRV_PES_S h).getD 0)
  match weightedMean (armHeads a s) fun h => armSeen h s with
  | none => s.set SRV_XOK a 0
  | some x =>
    let t := if s.on SRV_XOK a then (s.setI SRV_VEL a (x - s.getI SRV_X a)).set SRV_VELT a (s.aonNs + 1)
      else s.setI SRV_VEL a (sgn 40 (256 * 8192))
    (t.setI SRV_X a x).set SRV_XOK a 1

/-- Heads with four consecutive GOOD wedges, and how many a load needs (R288). -/
def acquired (a : Nat) (s : State) : Bool :=
  let inS := (headsOf a).filter fun h => !headOut h s
  !inS.isEmpty && decide (Nat.min 3 inS.length ≤ inS.countP fun h => decide (4 ≤ s.get SRV_GOODN h))

/-- The actuator enters SEEK toward LTRK (R288). -/
def enterSeek (a : Nat) (s : State) : State :=
  vcmSeek a (s.getI SRV_X a) ((s.get SRV_CTL_LTRK a : Int) * 256) (s.setMany a [(SRV_LOADS, 0), (SRV_INVTRY, 0)])

/-- Position is acquired (R288); at first calibration the step test begins: 0.5 % of full scale, inward (R298). -/
def loadAcquired (a : Nat) (s : State) : State :=
  if s.on GLB_WIRING_CALDONE 0 || s.on SRV_STS_INV_LEARNED a then enterSeek a s
  else if s.on SRV_STEPT a || !s.on SRV_XOK a then s
  else vcmDrive a 164 ((s.setI SRV_STEPX a (s.getI SRV_X a)).set SRV_STEPT a 1)

/-- A load has failed: the actuator is retracted and the load tried again, twice at most (R288). -/
def loadFailed (a : Nat) (s : State) : State :=
  let n := s.get SRV_LOADS a + 1
  let t := withFollow (retract a s)
  if n < 3 then t.setMany a [(SRV_LOADS, n), (SRV_RELOAD, 1)]
  else pulse (48 + 12 * a + 2) 0xFF (t.setMany a [(SRV_LOADS, 0), (SRV_RELOAD, 0)])

/-- The step test ends when the arm has moved (R298): inward, INV is confirmed and stored. DESIGN CHOICE: a test that moves the arm outward is a
load that has failed; the spec does not say what follows (log entry 17). -/
def stepTest (a : Nat) (s : State) : State :=
  if !s.on SRV_STEPT a || !s.on SRV_XOK a || s.is SRV_X a (s.get SRV_STEPX a) then s
  else
    let t := s.set SRV_STEPT a 0
    if s.getI SRV_STEPX a < s.getI SRV_X a then
      enterSeek a ((t.set SRV_STS_INV_LEARNED a 1).setBit GLB_WIRING_VCM 0 a (t.on SRV_VCMCFG_INV a))
    else loadFailed a t

/-- Wedges at which the PES of the reference head `h` has grown in the direction of the commanded current (R299). -/
def countRunaway (a h : Nat) (s : State) : State :=
  let p := s.getI SRV_PES_PES h
  let u := s.getI SRV_DAC a
  let last := s.getI SRV_LASTP a
  let grown := (decide (0 < u) && decide (last < p)) || (decide (u < 0) && decide (p < last))
  (s.set SRV_RUNN a (if loopsClosed a s && grown then Nat.min 16 (s.get SRV_RUNN a + 1) else 0)).setI SRV_LASTP a p

/-- The reference head's part of a wedge decision (R267, R271, R272, R275, R281, R298, R299). -/
def refWedge (a h : Nat) (s : State) : State :=
  let t := countRunaway a h (seekAdvance a (estimateArm a s))
  let inS := (headsOf a).filter fun x => !headOut x t
  let all := !inS.isEmpty && inS.all fun x => t.is SRV_HSTS_MODE x 3
  let t := t.set SRV_ALOSTN a (if all then Nat.min 0xFFFF (t.get SRV_ALOSTN a + 1) else 0)
  let t := if t.on SRV_STS_BLEND a then t.set SRV_BLI a (Nat.min 31 (t.get SRV_BLI a + 1)) else t
  let t := if t.is SRV_STS_STATE a 1 then stepTest a t else if atSettle a t then settlePoint a t else t
  triggerSrc (49 + a) t.stamp [h % 12] t

/-- A position error signal exists (R69): the lane is IDLE or ACTIVE, or on its way between these two, which both run what the signal needs
(R68). -/
def signalExists (h : Nat) (s : State) : Bool :=
  if s.is LAN_STS_STATE h 3 then !s.is LAN_FROM h 0 && !s.is LAN_TO h 0 else !s.is LAN_STS_STATE h 0

/-- The demodulator reports the polarity in which it found the sync mark (R128). -/
def reportPolarity (h : Nat) (w : Wedge) (s : State) : State :=
  match markFound w s with
  | some (_, inv) => s.set SRV_SYNCINV h inv.toNat
  | none => s

/-- WEDGE_DECISION (R25, R69, R94, R128, R255–R262, R266–R270, R279, R283–R288): once a wedge, at its angle. -/
def wedgeDecision (h : Nat) (w : Wedge) (s : State) : State :=
  let a := actOf h
  if !s.on LAN_POP h || !signalExists h s || (wedgeDue h s).isNone then s
  else
    let s := reportPolarity h w s
    let t := if s.on SRV_TPEND h then acceptTarget h s else s
    let good := wedgeGood h w t
    let y := if good then demodulate h w t else w.pred
    let u := if good && ((fineOffset w t).2 = 0 || w.a + w.b = 0) then t.used else t
    let u := if good then learnWedge h w u else u
    let u := ((u.setI SRV_POS_Y h y).setI SRV_YPOS h y).setMany h [(SRV_POS_GOOD, good.toNat), (SRV_WSTAMP, t.stamp)]
    let u := u.setI SRV_PES_PES h (pesOf h y t)
    let u := countWedge h good (microAdvance h (desaturate h u))
    let u := sendHeater h (clearance h w good u)
    let u := if u.is SRV_STS_STATE a 1 && acquired a u then loadAcquired a u else u
    let u := if inhibitCause h u || decide (u.get SRV_HCFG_WINH h < (u.getI SRV_PES_PES h).natAbs) then setInhibit h u else u
    let u := showHeads a u
    let v := triggerSrc (h + 1) u.stamp [u.get SRV_POS_Y h, uns 32 (u.getI SRV_PES_PES h), good.toNat, uns 32 (u.getI SRV_PES_S h)] u
    settleTrace u (if refHead a v = some h then refWedge a h v else v)

/-! ## Outputs that reach the servo (R266, R269, R275, R281, R282, R290) -/

/-- A microactuator command `dac` of head `h` (R264, R266, R269): the stroke estimate follows it; a head that is not engaged is
commanded to zero, and a LOST head's command is held. -/
def microSink (h : Nat) (dac : Int) (age : Option (Nat × Nat × Nat)) (s : State) : State :=
  if s.is SRV_HSTS_MODE h 3 || s.is SRV_STS_STATE (actOf h) 4 then s
  else
    let c := if engaged h s then clampI (-32767) 32767 dac else 0
    let t := s.setI SRV_PES_S h (c * s.get SRV_HGAIN_MAGAIN h / 32767)
    let t := t.set SRV_HSTS_SAT h (c.natAbs == 32767).toNat
    let t := if c.natAbs = 32767 then setInhibit h (t.setMany h [(SRV_HSTS_SETTLED_RD, 0), (SRV_HSTS_SETTLED_WR, 0)]) else t
    linkSend (actOf h) ⟨4, h % 12, 0, uns 16 c, age⟩ t

/-- The other actuator of a stack. -/
def otherAct (a : Nat) : Nat := if a % 2 = 0 then a + 1 else a - 1

/-- The feed-forward term of R281 over the commands recorded, the newest among them. -/
def feedForward (a : Nat) (s : State) : Int :=
  ((List.range 8).map fun i => s.getI SRV_RVFF (8 * a + i) * s.getI SRV_UHIST (8 * a + i)).sum / 4096

/-- Record the other actuator's command (R281). -/
def shiftHistory (a : Nat) (s : State) : State :=
  let l := s.get SRV_DAC (otherAct a) :: (List.range 7).map fun i => s.get SRV_UHIST (8 * a + i)
  (List.range 8).foldl (fun t i => t.set SRV_UHIST (8 * a + i) (l.getD i 0)) s

/-- Sign-error LMS (R282): each coefficient moves by the sign of the error times its tap, by 2^−MU. DESIGN CHOICE: it moves with the sign of
e_a as R267 has it, and the step is rounded down; the spec gives the step's size only (log entry 16). -/
def adaptFeed (a : Nat) (s : State) : State :=
  if !s.on SRV_RVCFG_LEARN a || !s.is SRV_STS_STATE a 3 then s
  else
    let e := s.getI SRV_EA a
    let sg : Int := if 0 < e then 1 else if e < 0 then -1 else 0
    (List.range 8).foldl (fun t i =>
      t.setI SRV_RVFF (8 * a + i) (clampI (-32768) 32767
        (t.getI SRV_RVFF (8 * a + i) + sg * t.getI SRV_UHIST (8 * a + i) / 2 ^ t.get SRV_RVCFG_MU a))) s

/-- A VCM command of actuator `a` (R275, R281, R282, R290): ignored while the retract engine holds it; the first output of
track following starts a blend when it differs too much; the blend and the feed-forward are added. -/
def vcmSink (a : Nat) (dac : Int) (s : State) : State :=
  if s.bit SRV_RET_STS_ENGAGED 0 a || !s.on SRV_DRVEN a then s
  else
    let s := adaptFeed a (shiftHistory a s)
    let diff := s.getI SRV_DAC a - dac
    let t := if s.on SRV_FIRSTTF a then
        let u := s.set SRV_FIRSTTF a 0
        if decide (s.get SRV_HAND_BTHR a * 32768 < diff.natAbs * 256) then
          (u.setI SRV_BLDIFF a diff).setMany a [(SRV_STS_BLEND, 1), (SRV_BLI, 1)] else u
      else s
    let nb : Int := Nat.max 1 (t.get SRV_HAND_NB a)
    let b := if t.on SRV_STS_BLEND a then t.getI SRV_BLDIFF a * (nb - Nat.min (t.get SRV_BLI a) nb.toNat) / nb else 0
    let ff := t.on SRV_RVCFG_EN a && t.is SRV_STS_STATE a 3
    let t := t.set SRV_STS_RVLOCK a ff.toNat
    t.setI SRV_DAC a (clampI (-32768) 32767 (dac + b + if ff then feedForward a t else 0))

/-- A heater command from the loop engine's output 54 + `h` (R283, R285, R287, R376). -/
def heaterSink (h v : Nat) (age : Option (Nat × Nat × Nat)) (s : State) : State :=
  let c := if heaterFault h s then 0 else v % 65536
  linkSend (actOf h) ⟨5, h % 12, 0, c, age⟩ (s.set SRV_HTRV_CMD h c)

/-! ## Loading, unloading, retract (R288–R293, R298) -/

/-- A load is permitted (R288, R293, R544). -/
def loadAllowed (a : Nat) (s : State) : Bool :=
  let inS := (headsOf a).filter fun h => !headOut h s
  s.on SPN_STATE_LOADOK 0 && s.on HLK_STS_UP a && !s.on HLK_STS_ABSENT a && s.is SRV_STS_STATE a 0 && !s.on SRV_OPEN a
    && !s.on FLT_SAFE_ACTIVE 0 && !inS.isEmpty && inS.all fun h => s.is LAN_STS_STATE h 1 || s.is LAN_STS_STATE h 2

/-- Start driving ILOAD (R288). -/
def startLoad (a : Nat) (s : State) : State :=
  let t := s.setMany a [(SRV_STS_STATE, 1), (SRV_DRVEN, 1), (SRV_RELOAD, 0), (SRV_XOK, 0), (SRV_STEPT, 0)]
  let t := (t.setBit SRV_RET_STS_PARKED 0 a false).setBit SRV_RET_STS_ENGAGED 0 a false
  let i : Int := s.get SRV_RET_CFG_ILOAD 0 * 128
  let t := t.setI SRV_DAC a (if s.on SRV_VCMCFG_INV a then -i else i)
  forAll (headsOf a) (fun h u => u.setMany h [(SRV_GOODN, 0), (SRV_BADN, 0)]) t

/-- LOAD_REQUEST (R288). -/
def loadRequest (a : Nat) (s : State) : State :=
  if loadAllowed a s then startLoad a (s.setMany a [(SRV_LOADS, 0), (SRV_INVTRY, 0)]) else s

/-- LOAD_TIMEOUT (R288, R298). -/
def loadTimeout (a : Nat) (s : State) : State :=
  if !s.is SRV_STS_STATE a 1 then s
  else if !s.on GLB_WIRING_CALDONE 0 && !s.on SRV_STS_INV_LEARNED a && !s.on SRV_INVTRY a then
    let t := withFollow (retract a s)
    let v := 1 - s.get SRV_VCMCFG_INV a
    ((t.set SRV_VCMCFG_INV a v).setSh SRV_VCMCFG_INV a v).setMany a [(SRV_INVTRY, 1), (SRV_RELOAD, 1)]
  else
    loadFailed a s

/-- UNLOAD_REQUEST (R289): given in FOLLOW. -/
def unloadRequest (a : Nat) (s : State) : State :=
  if s.is SRV_STS_STATE a 3 then (vcmSeek a (targetArm a s) 0 s).set SRV_UNLOAD a 1 else s

/-- RETRACT_REQUEST (R290); a parked actuator has nothing to retract. -/
def retractRequest (a : Nat) (s : State) : State :=
  if s.is SRV_STS_STATE a 0 then s else withFollow (retract a s)

/-- The end of the park phase (R291): driver off, PARKED; the engine lets go unless the safe state holds (R544). The
settle flags of the actuator's heads have no loop any more; their last accepted targets stay (R264, R302). A load to be retried starts again
(R288). -/
def parked (a : Nat) (s : State) : State :=
  let t := s.setMany a [(SRV_PHASE, 0), (SRV_DRVEN, 0), (SRV_STS_STATE, 0), (SRV_DAC, 0), (SRV_XOK, 0)]
  let t := (t.setBit SRV_RET_STS_PARKED 0 a true).setBit SRV_RET_STS_ENGAGED 0 a (s.on FLT_SAFE_ACTIVE 0)
  let t := forAll (headsOf a) (fun h u => u.setMany h [(SRV_HSTS_MODE, 0), (SRV_HSTS_SETTLED_RD, 0), (SRV_HSTS_SETTLED_WR, 0),
    (SRV_TPEND, 0), (SRV_HSTS_SAT, 0), (SRV_PES_S, 0), (SRV_BOOSTED, 0)]) t
  let t := showHeads a t
  if t.on SRV_RELOAD a then if loadAllowed a t then startLoad a t else t.set SRV_RELOAD a 0 else t

/-- RETRACT_PHASE_END (R291, R292): the command is the moment at which the phase has lasted its time. -/
def retractPhaseEnd (a : Nat) (s : State) : State :=
  match s.get SRV_PHASE a with
  | 0 => s
  | 1 => retractDrive a (s.set SRV_PHASE a 2)
  | 2 => retractDrive a (s.set SRV_PHASE a 3)
  | _ => parked a s

/-- LINK_DOWN_RETRACT (R293). -/
def linkDownRetract (a : Nat) (s : State) : State :=
  if s.on HLK_STS_UP a || s.is SRV_STS_STATE a 0 then s else withFollow (retract a s)

/-! ## VCM faults (R294–R299, R640) -/

/-- The handling of an open coil (R295): driver off, heads disengaged and out of service. -/
def coilOpen (a : Nat) (s : State) : State :=
  let t := s.setMany a [(SRV_DRVEN, 0), (SRV_OPEN, 1), (SRV_STS_STATE, 5), (SRV_PHASE, 0), (SRV_OCWAIT, 0), (SRV_DAC, 0)]
  let t := t.setBit SRV_RET_STS_ENGAGED 0 a false
  let t := forAll (headsOf a) (fun h u => u.setMany h [(SRV_CENG, 0), (SRV_HSTS_MODE, 0), (SRV_HSTS_SETTLED_RD, 0), (SRV_HSTS_SETTLED_WR, 0)]) t
  pulse (48 + 12 * a + 3) 0xFF (withFollow (headsOut a (showHeads a t)))

/-- VCM_OPEN_COIL (R295). -/
def vcmOpenCoil (a : Nat) (s : State) : State := if s.on SRV_DRVEN a then coilOpen a s else s

/-- VCM_OVERCURRENT (R296): driver off; the retract engine waits for the test. -/
def vcmOvercurrent (a : Nat) (s : State) : State :=
  if !s.on SRV_DRVEN a then s
  else
    let t := s.setMany a [(SRV_DRVEN, 0), (SRV_OCWAIT, 1), (SRV_STS_STATE, 4), (SRV_PHASE, 0), (SRV_DAC, 0), (SRV_STS_BLEND, 0)]
    pulse (48 + 12 * a + 4) 0xFF ((t.setBit SRV_RET_STS_ENGAGED 0 a true).setBit SRV_RET_STS_PARKED 0 a false)

/-- VCM_OC_TEST (R296): a passed test retracts the actuator under R291, a failed one is an open coil. -/
def vcmOcTest (a : Nat) (pass : Bool) (s : State) : State :=
  if !s.on SRV_OCWAIT a then s
  else if pass then withFollow (retract a (s.setMany a [(SRV_OCWAIT, 0), (SRV_STS_STATE, 5)]))
  else coilOpen a s

/-- VCM_LEAD_SHORT (R297). -/
def vcmLeadShort (a : Nat) (s : State) : State :=
  if s.is SRV_STS_STATE a 2 then pulse (48 + 12 * a + 5) 0xFF (withFollow (retractOut a s)) else s

/-- VCM_POLARITY_RUNAWAY (R299): after 16 consecutive wedges. -/
def vcmPolarityRunaway (a : Nat) (s : State) : State :=
  if loopsClosed a s && s.is SRV_RUNN a 16 then pulse (48 + 12 * a + 6) 0xFF (withFollow (retract a s)) else s

/-- VCM_SENSE_PAIR_EXCHANGED (R640): driver off, source 48 + 12a + 6. -/
def vcmSensePair (a : Nat) (s : State) : State :=
  if s.on SRV_DRVEN a then pulse (48 + 12 * a + 6) 0xFF (s.set SRV_DRVEN a 0) else s

/-! ## Wedge timing tables (R300) -/

/-- The address of `SRVa_MEMADR` advances with AUTOINC. -/
def srvMemAdvance (a : Nat) (s : State) : State := if s.on SRV_MEMADR_AUTOINC a then s.bump SRV_MEMADR_ENTRY a else s

/-- SRV_MEMDAT_WRITE (R300): refused for a loaded head unless the actuator is PARKED. -/
def srvMemdatWrite (a v : Nat) (s : State) : State :=
  let p := s.get SRV_MEMADR_ARM a
  srvMemAdvance a
    (if p < 12 && s.is SRV_STS_STATE a 0 then s.set SRV_WTAB (512 * (12 * a + p) + s.get SRV_MEMADR_ENTRY a) v else s)

/-- SRV_MEMDAT_READ (R300). -/
def srvMemdatRead (a : Nat) (s : State) : State :=
  let p := s.get SRV_MEMADR_ARM a
  srvMemAdvance a (s.ret (if p < 12 then s.get SRV_WTAB (512 * (12 * a + p) + s.get SRV_MEMADR_ENTRY a) else 0))

end Sys2Proof.Machine
end

