-- ==== Sys2Proof/Machine/Peek.lean ====
section
/-!
DEFINITION. Register space as the bus decodes it (R655–R663): where a byte offset leads, which windows are powered off, and reads
without side effects.
-/

namespace Sys2Proof.Machine

/-- What lies at a byte offset of register space. -/
inductive RegPlace where
  | nothing
  | active (r : RegDesc) (i w : Nat)
  | shadow (r : RegDesc) (i w : Nat)

/-- The base of register space, and its length: 17 windows of 64 KiB. -/
def regBase : Nat := 0x20000000

/-- The offset in register space of an internal address. -/
def regOffset (a : Nat) : Option Nat := if regBase ≤ a ∧ a < regBase + 0x110000 then some (a - regBase) else none

/-- The field overlaps word `w`. -/
def Field.inWord (f : Field) (w : Nat) : Bool := decide (f.lo < 32 * w + 32) && decide (32 * w < f.lo + f.width)

/-- The value that field `f` would take from word `v` at word `w`, the bits outside the word kept. -/
def Field.splice (f : Field) (w v old : Nat) : Nat :=
  let full := old * 2 ^ f.lo
  (full - bits full (32 * w) 32 * 2 ^ (32 * w) + v % 2 ^ 32 * 2 ^ (32 * w)) / 2 ^ f.lo % 2 ^ f.width

/-- The bits of field `f` that a write of `v` at word `w` sets to 1. -/
def Field.ones (f : Field) (w v : Nat) : Nat := v % 2 ^ 32 * 2 ^ (32 * w) / 2 ^ f.lo % 2 ^ f.width

/-- The offset of the active copy that a shadow offset stands for (R58, R663). -/
def shadowOf (blk x : Nat) : Option Nat :=
  if blk = 3 then if 0x2000 ≤ x ∧ 0x1000 ≤ x % 0x2000 then some (x - 0x1000) else none
  else if blk = 5 then if x < 0xC000 ∧ 0x200 ≤ x % 0x400 then some (x - 0x200) else none
  else if blk = 1 ∨ blk = 2 ∨ blk = 4 ∨ blk = 7 ∨ blk = 8 then if 0x8000 ≤ x then some (x - 0x8000) else none
  else none

/-- The first register of a list at offset `x` of block `blk`. -/
def findIn (blk x : Nat) : List RegDesc → Option (RegDesc × Nat × Nat)
  | [] => none
  | r :: t =>
    if r.blk = blk then
      match r.place x with
      | some (i, w) => some (r, i, w)
      | none => findIn blk x t
    else findIn blk x t

/-- The register has a shadow copy. -/
def RegDesc.shadowed (r : RegDesc) : Bool := r.fields.any fun f => f.acc.shadowed

/-- Decode a byte offset of register space. -/
def findReg (off : Nat) : RegPlace :=
  let blk := off / 65536
  let x := off % 65536
  match shadowOf blk x with
  | some y => match findIn blk y regTable with
    | some (r, i, w) => if r.shadowed then .shadow r i w else .nothing
    | none => .nothing
  | none => match findIn blk x regTable with
    | some (r, i, w) => .active r i w
    | none => .nothing

/-- The windows that read zero because their block is powered off (R10, R587, R622, R661): the Motion and Media clusters in the
manager role and in recovery boot, the manager block outside its role. -/
def poweredOff (blk : Nat) (s : State) : Bool :=
  let dark := s.is GLB_ROLE_ROLE 0 2 || s.on GLB_BOOT_RECOVERY 0
  match blk with
  | 1 | 2 | 3 | 4 | 5 | 6 | 15 => dark
  | 7 | 8 => s.on GLB_BOOT_RECOVERY 0
  | 14 => !s.is GLB_ROLE_ROLE 0 2
  | _ => false

/-- The registers whose value is not held in fields: memory windows, entries of the record, the trace and the error log. -/
def specialWord (r : RegDesc) (i : Nat) (s : State) : Option Nat :=
  if r.blk = 5 && r.off = 0x00A4 then
    let sp := s.get LAN_MEMADR_SPACE i
    let w := s.get LAN_MEMADR_WORD i
    some (if lmemDefined sp w then s.lword i sp w else 0)
  else if r.blk = 3 && r.off = 0x00A4 then
    some (if s.get SRV_MEMADR_ARM i < 12 then s.get SRV_WTAB (512 * (12 * i + s.get SRV_MEMADR_ARM i) + s.get SRV_MEMADR_ENTRY i) else 0)
  else if r.blk = 13 && r.off = 0x0020 then some (bits (s.ringBits (s.get BNR_RDIDX_INDEX 0)) (32 * i) 32)
  else if r.blk = 4 && (r.off = 0x1304 || r.off = 0x1308) then
    let e := NMap.get 0 s.sil (16384 * s.get LPE_SILRD_UNIT 0 + s.get LPE_SILRD_INDEX 0)
    some (bits e (if r.off = 0x1304 then 0 else 32) 32)
  else if r.blk = 9 && r.off = 0x0058 then
    match s.elog.find (s.get BUF_ELOG_IDX 0) with
    | some e => some (bits (e.block % 2 ^ 29 + e.space % 8 * 2 ^ 29 + e.syndrome % 2 ^ 32 * 2 ^ 32 + e.count % 65536 * 2 ^ 64
        + e.ue.toNat * 2 ^ 80 + e.poisoned.toNat * 2 ^ 81 + e.master % 16 * 2 ^ 82 + e.time % 2 ^ 32 * 2 ^ 96) (32 * i) 32)
    | none => some 0
  else if r.blk = 9 && r.off = 0x0084 then some (diagRead s)
  else if r.blk = 9 && r.off = 0x0074 then some ((countTraffic 0 s).regWord r i 0)
  else if r.blk = 3 && r.off = 0x0078 then some (sensedCurrent i s)
  else if r.blk = 4 && r.off = 0x0038 then some (s.free % 2 ^ 32)
  else none

/-- The live fields of a lane in OFF read zero (R662). -/
def laneDark (r : RegDesc) (i : Nat) (s : State) : Bool :=
  r.blk == 5 && s.is LAN_STS_STATE i 0 && (r.off == 0x0080 || r.off == 0x0084)

/-- What a register word shows, without side effect; `LANn_STS.DEFECT` shows the flag over a defect window too (R93). -/
def showWord (r : RegDesc) (i w : Nat) (s : State) : Nat :=
  if laneDark r i s then 0
  else match specialWord r i s with
    | some v => v
    | none =>
      let v := s.regWord r i w
      if r.blk == 5 && r.off == 0x0090 && s.is LAN_STS_STATE i 0 then v / 32 * 32
      else if r.blk == 5 && r.off == 0x0004 then withBit v 5 (defectNow i s)
      else v

/-- A register that shows one instant over several words (R658). -/
def RegDesc.captured (r : RegDesc) : Bool := decide (1 < r.words) && r.fields.all fun f => match f.acc with | .ro => true | _ => false

/-- A word that shows what the read of a lower one has captured: the higher words of such a register, `ANG_STAMP_HI` and `FLT_FIRST_HI`
(R41, R658). -/
def capturedPlace (r : RegDesc) (w : Nat) : Bool :=
  (r.captured && w != 0) || (r.blk == 1 && r.off == 0x0014) || (r.blk == 12 && r.off == 0x0018)

/-- The captured word at an offset; before the first capture its value is not stated (log entry 41). -/
def capturedValue (off : Nat) (s : State) : Nat := (s.cap.find off).getD (s.free % 2 ^ 32)

/-- Read a word of register space without side effect (R388, R395, R500). -/
def peekReg (off : Nat) (s : State) : Nat :=
  if poweredOff (off / 65536) s then 0
  else match findReg (off / 4 * 4) with
    | .nothing => 0
    | .active r i w => if capturedPlace r w then capturedValue (off / 4 * 4) s else showWord r i w s
    | .shadow r i w => s.shadowWord r i w

/-- The value shown is a free one: the busy fraction of the loop engine's cores (R399; log entry 41), or a captured word that nothing has
captured yet. -/
def freeReg (off : Nat) (s : State) : Bool :=
  off == 0x40038 || (match findReg off with | .active r _ w => capturedPlace r w && (s.cap.find off).isNone | _ => false)

/-- Read a word of register space without side effect; a free value is one of its own. -/
def lookReg (off : Nat) (s : State) : State := (if freeReg off s then s.used else s).ret (peekReg off s)

end Sys2Proof.Machine
end

