-- ==== Sys2Proof/Machine/Operands.lean ====
section
/-!
DEFINITION. Operands of the loop engine's operations (R365, R366, R369, R370): registers, accumulators, shifts, addresses, and the
engine address space.
-/

namespace Sys2Proof.Machine

/-- Register Xn of context `c`, signed. -/
def xreg (c n : Nat) (s : State) : Int := s.getI CTX_X (32 * c + n)

/-- Base register Bn of context `c`. -/
def breg (c n : Nat) (s : State) : Nat := s.get CTX_B (8 * c + n)

/-- Accumulator n of context `c`, signed. -/
def acc (c n : Nat) (s : State) : Int := s.getI CTX_ACC (4 * c + n)

/-- Set an accumulator, saturating at 64 bits (R365). -/
def setAcc (c n : Nat) (v : Int) (s : State) : State := s.setI CTX_ACC (4 * c + n) (clampI (-2 ^ 63) (2 ^ 63 - 1) v)

/-- SHIFT of a Q field (R365). -/
def shiftOf (q : Nat) : Nat := match q with | 0 => 0 | 1 => 15 | 2 => 16 | _ => 31

/-- (XA · XB) >> SHIFT (R365). -/
def product (c a b q : Nat) (s : State) : Int := xreg c a s * xreg c b s / 2 ^ shiftOf q

/-- The engine address of a load/store slot (R366), 24 bits. -/
def slotAddr (c b : Nat) (off : Nat) (s : State) : Nat := (breg c b s + off) % 2 ^ 24

/-- Internal byte address of a data-memory word (R370). -/
def dmByte (a : Nat) : Nat := 0x10400000 + 4 * a

/-- Byte offset in register space of an engine address. -/
def regByte (a : Nat) : Nat := 4 * (a - 0x400000)

/-- The address is in data memory. -/
def inData (a : Nat) : Bool := decide (a < 0x10000)

/-- The address is an output port. -/
def inPorts (a : Nat) : Bool := decide (0x20000 ≤ a) && decide (a < 0x21000)

/-- The address is a candidate slot. -/
def inCands (a : Nat) : Bool := decide (0x21000 ≤ a) && decide (a < 0x21080)

/-- The address is in register space. -/
def inRegs (a : Nat) : Bool := decide (0x400000 ≤ a) && decide (a < 0x800000)

/-- The word at an engine address as context `c` sees it, without side effect. -/
def engineWord (c a : Nat) (s : State) : Nat :=
  if inData a then s.mem.word (dmByte a) 4
  else if 0x10000 ≤ a ∧ a < 0x11000 then NMap.get 0 s.mbox (a - 0x10000)
  else if 0x11000 ≤ a ∧ a < 0x11020 then s.mail c (s.get CTX_LATCH c) (a - 0x11000)
  else if inPorts a then NMap.get 0 s.ports (a - 0x20000)
  else if inCands a then NMap.get 0 s.cands (a - 0x21000)
  else if 0x21100 ≤ a ∧ a < 0x21110 then s.get LPE_CG_VAL (a - 0x21100)
  else if inRegs a then peekReg (regByte a) s
  else 0

/-- A load may name the address (R370). -/
def loadable (a : Nat) : Bool :=
  inData a || (decide (0x10000 ≤ a) && decide (a < 0x11020)) || inPorts a
    || (decide (0x21100 ≤ a) && decide (a < 0x21110)) || inRegs a

end Sys2Proof.Machine
end

