-- ==== Sys2Proof/Machine/Flags.lean ====
section
/-!
DEFINITION. The result and the flags of the loop engine's `wr` operation (R365).
-/

namespace Sys2Proof.Machine

/-- ACC >> B, rounded to nearest with `rnd`. The direction in which an exact half rounds is not stated: `tie` decides it
(log entry 27). -/
def shiftRound (v : Int) (b : Nat) (rnd : Bool) (tie : Nat) : Int :=
  if !rnd || b = 0 then v / 2 ^ b
  else
    let r := v % 2 ^ b
    let half : Int := 2 ^ (b - 1)
    v / 2 ^ b + (if half < r then 1 else if r = half then tie % 2 else 0)

/-- Saturation to 32 bits. -/
def sat32 (v : Int) : Int := clampI (-2 ^ 31) (2 ^ 31 - 1) v

/-- The flags N, Z and V of a result; V where it was saturated (DEDUCED, log entry 27). -/
def setFlags (c : Nat) (v : Int) (s : State) : State :=
  s.setMany c [(CTX_N, (decide (sat32 v < 0)).toNat), (CTX_Z, (decide (sat32 v = 0)).toNat), (CTX_V, (decide (sat32 v ≠ v)).toNat)]

/-- A branch condition (R367). -/
def condHolds (c : Nat) (k : Cond) (s : State) : Bool :=
  match k with
  | .n => s.on CTX_N c
  | .z => s.on CTX_Z c
  | .v => s.on CTX_V c
  | .always => true

end Sys2Proof.Machine
end

