-- ==== Sys2Proof/Machine/LoopCore.lean ====
section
/-!
DEFINITION. Outputs of the loop engine (R376–R380, R384–R387): sinks and ages, overrides, staged entries and their commit, the
competition groups.
-/

namespace Sys2Proof.Machine

/-! ## Sinks (R376, R380) -/

/-- The part of a torque demand that CATCH lets through: it is ramped from zero over TRAMP (R339). -/
def catchShare (i : Int) (s : State) : Int :=
  let full := s.get SPN_CATCH_TRAMP 0 * 1000000
  let t := s.aonNs - s.get SPN_CATCHT 0
  if s.is SPN_STATE_STATE 0 8 && decide (t < full) then ratio (i * t) full else i

/-- The applied torque demand of magnitude and sign `i` at the advance angle of the present speed (R323). Where the bridge is driven with a
vector that is not the torque loop's (R335, R352) it has no effect. -/
def setTorque (i : Int) (s : State) : State :=
  let i := catchShare i s
  let v := (s.getI SPN_SPEED 0).natAbs
  let n := v / 4096
  let beta := if 31 ≤ n then 4096 * s.get SPN_PADV 31
    else s.get SPN_PADV n * (4096 - v % 4096) + s.get SPN_PADV (n + 1) * (v % 4096)
  if s.is SPN_BRIDGE 0 2 || s.is SPN_BRIDGE 0 3 || s.is SPN_BRIDGE 0 5 then s
  else
    (s.setI SPN_IDDEM 0 (clampI (-32768) 32767 (ratio (-i * sineTurn beta 94371840) (2 ^ 60)))).setI SPN_IQDEM 0
      (clampI (-32768) 32767 (ratio (i * cosineTurn beta 94371840) (2 ^ 60)))

/-- A value reaches the sink of output `o`, word `w`; `age` is the trigger stamp and angle epoch of the run that produced it. While
the engine does not run no sink receives a value (R401). -/
def toSink (o w v : Nat) (age : Option (Nat × Nat)) (s : State) : State :=
  let done (t : State) : State := match age with | some (st, ep) => recordAge o st ep t | none => t
  if !s.on LPE_CTL_RUN 0 then s
  else if o < 48 then if w = 0 then microSink o (sgn 16 v) (age.map fun a => (o, a.1, a.2)) s else s
  else if o < 52 then
    if w = 0 && !s.bit SRV_RET_STS_ENGAGED 0 (o - 48) && s.on SRV_DRVEN (o - 48) then done (vcmSink (o - 48) (sgn 16 v) s) else s
  else if o = 52 then
    if w < 2 then
      let t := s.set SPN_VDEM w v
      match age with
      | some (st, ep) => t.setMany 0 [(SPN_VAGE, 1), (SPN_VSTAMP, st), (SPN_VEPOCH, ep)]
      | none => t.set SPN_VAGE 0 0
    else s
  else if o = 53 then if w = 0 then done (setTorque (sgn 32 v) s) else s
  else if o < 102 then if w = 0 then heaterSink (o - 54) v (age.map fun a => (o, a.1, a.2)) s else s
  else done s

/-- A write of an output port word reaches the port and the units that watch it. -/
def putPort (o w v : Nat) (s : State) : State :=
  silWatch (0x20000 + 16 * o + w) v { s with ports := s.ports.put (16 * o + w) (v % 2 ^ 32) }

/-- A value written to a port word is passed to the sink, unless the output is overridden (R380). -/
def passPort (o w v : Nat) (age : Option (Nat × Nat)) (s : State) : State := if s.on LPE_OUTCFG_OVR o then s else toSink o w v age s

/-- A write of an output port word, at the end of which its value stands (R378–R380). -/
def writePort (o w v : Nat) (age : Option (Nat × Nat)) (s : State) : State := passPort o w v age (putPort o w v s)

/-- The override value of an output reaches its sink (R380); for output 52 both words. -/
def overrideSink (o : Nat) (s : State) : State :=
  let v := s.get LPE_OVR o
  if o = 52 then toSink o 1 (v / 65536) none (toSink o 0 (v % 65536) none s) else toSink o 0 v none s

/-! ## Competition groups (R384, R385) -/

/-- The candidate of slot `i` of group `g`, signed. -/
def candidate (g i : Nat) (s : State) : Int := sgn 32 (NMap.get 0 s.cands (8 * g + i))

/-- The slot of least magnitude of a list, the first among equals. -/
def leastMagnitude (g : Nat) (s : State) : List Nat → Option Nat
  | [] => none
  | i :: t => match leastMagnitude g s t with
    | some j => if (candidate g j s).natAbs < (candidate g i s).natAbs then some j else some i
    | none => some i

/-- Units in mode CGWIN capture a resolution (R395). -/
def captureGroup (g v win : Nat) (s : State) : State :=
  forBelow 8 (fun u t => if t.is LPE_SIL_CFG_MODE u 3 && t.get LPE_SIL_CFG_CTX u % 16 == g then silCapture u v win 2 t else t) s

/-- The value of a resolution by winner `win` (R384). A magnitude of 2^31 has no positive value of 32 bits, so that one is free. -/
def groupValue (g win : Nat) (s : State) : Int :=
  let c := candidate g win s
  if !s.on LPE_CG_SIGNEN g then c
  else if candidate g (s.get LPE_CG_SIGNSRC g) s < 0 then -(c.natAbs : Int)
  else if c.natAbs = 2 ^ 31 then sgn 32 s.free
  else c.natAbs

/-- Group `g` resolves (R384, R385): the state with the result shown, and the entry for its OUT, if there is a result. -/
def resolveGroup (g : Nat) (s : State) : State × Option (Nat × Nat) :=
  let slots := List.range (s.get LPE_CG_NC g + 1)
  let fresh := slots.filter fun i => s.bit LPE_FRESH g i
  let stale := (slots.filter fun i => !s.bit LPE_FRESH g i).foldl (fun a i => a + 2 ^ i) 0
  let src := s.get LPE_CG_SIGNSRC g
  let t := s.setMany g [(LPE_FRESH, 0), (LPE_CG_STS_STALE, stale)]
  match leastMagnitude g s fresh with
  | none => (t.set LPE_CG_STS_NOCAND g 1, none)
  | some win =>
    if s.on LPE_CG_SIGNEN g && !s.bit LPE_FRESH g src then (t.set LPE_CG_STS_NOCAND g 1, none)
    else
      let v := groupValue g win s
      let t := if (candidate g win s).natAbs = 2 ^ 31 then t.used else t
      let t := if t.is LPE_CG_STS_WIN g win then t else t.bump LPE_CG_STS_CHG g
      let t := (t.setMany g [(LPE_CG_STS_NOCAND, 0), (LPE_CG_STS_WIN, win)]).setI LPE_CG_VAL g v
      let t := if g = 0 then t.set SPN_STATE_LIMITER 0 win else t
      (captureGroup g (uns 32 v) win t, some (0x20000 + 16 * t.get LPE_CG_OUT g, uns 32 v))

/-! ## Staging and commit (R377, R379) -/

/-- The entries of a stage buffer that a commit applies: of two for one word the later. -/
def lastEntries : List (Nat × Nat) → List (Nat × Nat)
  | [] => []
  | e :: t => if t.any fun x => x.1 == e.1 then lastEntries t else e :: lastEntries t

/-- A committed entry for a port. -/
def applyEntry (age : Option (Nat × Nat)) (e : Nat × Nat) (s : State) : State :=
  writePort ((e.1 - 0x20000) / 16) ((e.1 - 0x20000) % 16) e.2 age s

/-- A committed entry for a candidate slot, which is fresh with it (R384). -/
def applyCandidate (e : Nat × Nat) (s : State) : State :=
  { s with cands := s.cands.put (e.1 - 0x21000) e.2 }.setBit LPE_FRESH ((e.1 - 0x21000) / 8) (e.1 % 8) true

/-- The outputs that a commit reaches and that interrupt the management cores (R376). -/
def commitIrqs (l : List (Nat × Nat)) (s : State) : State :=
  forAll ((l.map fun (e : Nat × Nat) => (e.1 - 0x20000) / 16).eraseDups)
    (fun o t => if t.on LPE_OUTCFG_IRQ o then t.emit (.outputIrq o) else t) s

/-- The groups that a commit of context `c` resolves, in the order of their numbers: the state, and the entries for their outputs. -/
def resolveOwned (c : Nat) : List Nat → State → State × List (Nat × Nat)
  | [], s => (s, [])
  | g :: l, s =>
    if s.on LPE_CG_EN g && s.is LPE_CG_OWNER g c then
      let r := resolveGroup g s
      let x := resolveOwned c l r.1
      (x.1, r.2.toList ++ x.2)
    else resolveOwned c l s

/-- A commit of context `c` up to its ports (R377, R384): the candidates are applied, the groups resolve, and what remains is an entry for each
port word, the results after the staged ones. -/
def commitPlan (c : Nat) (s : State) : State × List (Nat × Nat) :=
  let l := NMap.get [] s.stage c
  let t := forAll (lastEntries (l.filter fun e => inCands e.1)) applyCandidate { s with stage := s.stage.del c }
  let r := resolveOwned c (List.range 16) t
  (r.1, lastEntries ((l.filter fun e => inPorts e.1) ++ r.2))

/-- Commit of context `c` (R376, R377, R384). -/
def commitStage (c : Nat) (s : State) : State :=
  let p := commitPlan c s
  commitIrqs p.2 (forAll p.2 (applyEntry (some (s.get CTX_STAMP c, s.get CTX_EPOCH c))) p.1)

/-- Place an entry in the stage buffer (R377): a 17th is discarded and source 230 fires. -/
def stageEntry (c a v : Nat) (s : State) : State :=
  let l := NMap.get [] s.stage c
  if 16 ≤ l.length then pulse 230 c s else { s with stage := s.stage.put c (l ++ [(a, v)]) }

/-! ## Firmware overrides (R380) -/

/-- FW_OVERRIDE_SET. -/
def fwOverrideSet (o v : Nat) (s : State) : State :=
  overrideSink o ((s.set LPE_OVR o v).set LPE_OUTCFG_OVR o 1)

/-- FW_OVERRIDE_RELEASE: the sink takes the next value written to the port. -/
def fwOverrideRelease (o : Nat) (s : State) : State := s.set LPE_OUTCFG_OVR o 0

end Sys2Proof.Machine
end

