-- ==== Sys2Proof/Machine/LoopEngine.lean ====
section
/-!
DEFINITION. The loop engine's cores and operations (R362–R375, R377–R383, R388–R394, R401). A command of an operation places it in
the word that its context has fetched; the last one of a word executes the whole word (R368), so that every slot reads the
state before the word.
-/

namespace Sys2Proof.Machine

/-! ## Slots of a word (R364–R367) -/

/-- The slot of an operation: 0–3 MAC, 4 and 5 load/store, 6 control. -/
def slotOfOp : Instr → Option Nat
  | .nop _ i _ | .mul _ i _ _ _ _ | .mac _ i _ _ _ _ | .msu _ i _ _ _ _ | .add _ i _ _ | .lda _ i _ _ | .clr _ i _
  | .abs _ i _ | .wr _ i _ _ _ _ | .min _ i _ _ | .max _ i _ _ => some i.val
  | .ld _ i _ _ _ _ | .st _ i _ _ _ _ | .stg _ i _ _ _ _ | .dir _ i _ _ _ _ | .movb _ i _ _ _ _ => some (4 + i.val)
  | .jmp _ _ _ | .br _ _ _ _ | .brn _ _ _ _ | .loop _ _ _ | .setx _ _ _ _ | .cmt _ _ | .endOp _ _ | .cmtend _ _
  | .sig _ _ _ | .kill _ _ _ | .ovr _ _ _ _ | .ovrrel _ _ _ | .trc _ _ _ _ => some 6
  | _ => none

/-- The control-store word at the program counter of context `c`, in the bank that its run fetches from (R363, R393). -/
def fetchWord (c : Nat) (s : State) : Nat := NMap.get 0 s.cs (65536 * s.get CTX_BANK c + s.get CTX_PC c)

/-- The field of a word that slot `n` has (R364). -/
def slotField (n w : Nat) : Nat := if n < 4 then bits w (16 * n) 16 else if n < 6 then bits w (64 + 20 * (n - 4)) 20 else bits w 104 24

/-- The operation code of slot `n`: OP, KIND or COP (R364–R367). -/
def slotCode (n w : Nat) : Nat := slotField n w / (if n < 4 then 2 ^ 12 else if n < 6 then 2 ^ 17 else 2 ^ 18)

/-- A reserved encoding (R365–R367). -/
def reservedSlot (n w : Nat) : Bool :=
  let k := slotCode n w
  if n < 4 then decide (11 ≤ k) else if n < 6 then decide (6 ≤ k)
  else !([0, 1, 2, 3, 4, 5, 8, 9, 10, 12, 13, 16, 17, 20].contains k)

/-- A word has a reserved encoding (R382). -/
def reservedWord (w : Nat) : Bool := (List.range 7).any fun n => reservedSlot n w

/-- A MAC slot's bits (R365). -/
def macBits (op a b q : Nat) : Nat := op * 2 ^ 12 + a * 2 ^ 7 + b * 2 ^ 2 + q

/-- A load/store slot's bits (R366). -/
def lsBits (kind x b off : Nat) : Nat := kind * 2 ^ 17 + x * 2 ^ 12 + b * 2 ^ 9 + off

/-- COP and CARG (R367). -/
def copBits (cop carg : Nat) : Nat := cop * 2 ^ 18 + carg

/-- The code of a branch condition (R367). -/
def condCode : Cond → Nat
  | .n => 0 | .z => 1 | .v => 2 | .always => 3

/-- The bits of its slot that an operation has, and which of them it says (R365–R367): a mask and a pattern. -/
def opPattern : Instr → Nat × Nat
  | .nop _ _ _ => (0xF000, 0)
  | .mul _ _ a b q _ => (0xFFFF, macBits 1 a.val b.val q.val)
  | .mac _ _ a b q _ => (0xFFFF, macBits 2 a.val b.val q.val)
  | .msu _ _ a b q _ => (0xFFFF, macBits 3 a.val b.val q.val)
  | .add _ _ a _ => (0xFF80, macBits 4 a.val 0 0)
  | .lda _ _ a _ => (0xFF80, macBits 5 a.val 0 0)
  | .clr _ _ _ => (0xF000, macBits 6 0 0 0)
  | .abs _ _ _ => (0xF000, macBits 7 0 0 0)
  | .wr _ _ a b q _ => (0xFFFF, macBits 8 a.val b.val q.val)
  | .min _ _ a _ => (0xFF80, macBits 9 a.val 0 0)
  | .max _ _ a _ => (0xFF80, macBits 10 a.val 0 0)
  | .ld _ _ x b off _ => (0xFFFFF, lsBits 1 x.val b.val off.toNat)
  | .st _ _ x b off _ => (0xFFFFF, lsBits 2 x.val b.val off.toNat)
  | .stg _ _ x b off _ => (0xFFFFF, lsBits 3 x.val b.val off.toNat)
  | .dir _ _ x b off _ => (0xFFFFF, lsBits 4 x.val b.val off.toNat)
  | .movb _ _ x b off _ => (0xFFFFF, lsBits 5 x.val b.val off.toNat)
  | .jmp _ t _ => (0xFCFFFF, copBits 1 t.toNat)
  | .br _ k t _ => (0xFFFFFF, copBits 2 (condCode k * 2 ^ 16 + t.toNat))
  | .brn _ k t _ => (0xFFFFFF, copBits 3 (condCode k * 2 ^ 16 + t.toNat))
  | .loop _ t _ => (0xFCFFFF, copBits 4 t.toNat)
  | .setx _ x v _ => (0xFFFFFF, copBits 5 (x.val * 2 ^ 13 + v.toNat))
  | .cmt _ _ => (0xFC0000, copBits 8 0)
  | .endOp _ _ => (0xFC0000, copBits 9 0)
  | .cmtend _ _ => (0xFC0000, copBits 10 0)
  | .sig _ n _ => (0xFC003F, copBits 12 n.val)
  | .kill _ n _ => (0xFC003F, copBits 13 n.val)
  | .ovr _ x o _ => (0xFC1FFF, copBits 16 (x.val * 2 ^ 8 + o.val))
  | .ovrrel _ o _ => (0xFC00FF, copBits 17 o.val)
  | .trc _ x u _ => (0xFC00FF, copBits 20 (x.val * 2 ^ 3 + u.val))
  | _ => (0, 1)

/-- A word holds operation `i` in its slot. -/
def spells (w : Nat) (i : Instr) : Bool :=
  match slotOfOp i with
  | some n => slotField n w &&& (opPattern i).1 == (opPattern i).2
  | none => false

/-- The operations `ops` are all that a word holds, slots without an operation and reserved encodings apart. -/
def wordComplete (w : Nat) (ops : List Instr) : Bool :=
  (List.range 7).all fun n => slotCode n w == 0 || reservedSlot n w || ops.any fun i => slotOfOp i == some n

/-- The X register that an operation writes. -/
def writesX : Instr → Option Nat
  | .wr _ _ a _ _ _ => some a.val
  | .ld _ _ x _ _ _ => some x.val
  | .setx _ x _ _ => some x.val
  | .loop _ _ _ => some 30
  | _ => none

/-- The base register that an operation writes. -/
def writesB : Instr → Option Nat
  | .movb _ _ _ b _ _ => some b.val
  | _ => none

/-- The region of a control-store word (R363). -/
def regionOf (a : Nat) : Nat := if a < 0xC000 then 0 else 1

/-- The region of context `c`'s entry. -/
def regionOfCtx (c : Nat) (s : State) : Nat := regionOf (s.get LPE_CTX_ENTRY c)

/-- A store or stage of context `c` is within its grants (R370, R388). -/
def storeAllowed (c a : Nat) (s : State) : Bool :=
  inData a && (!s.on LPE_CTX_CUST c || decide (0xC000 ≤ a))

/-- The target of a stage is permitted. -/
def stageAllowed (c a : Nat) (s : State) : Bool :=
  let cust := s.on LPE_CTX_CUST c
  (inPorts a && (!cust || s.on LPE_OUTCFG_CUST ((a - 0x20000) / 16)))
    || (inCands a && (!cust || s.bit LPE_CG_CUSTMASK ((a - 0x21000) / 8) (a % 8)))

/-- The branch of an operation is taken, with its target. -/
def takenBranch (c : Nat) (s : State) : Instr → Option Nat
  | .jmp _ t _ => some t.toNat
  | .br _ k t _ => if condHolds c k s then some t.toNat else none
  | .brn _ k t _ => if condHolds c k s then none else some t.toNat
  | .loop _ t _ => if (s.get CTX_X (32 * c + 30) + 2 ^ 32 - 1) % 2 ^ 32 ≠ 0 then some t.toNat else none
  | _ => none

/-- An operation is a violation (R382, R388); a branch outside the region counts where it is taken. -/
def violates (c : Nat) (s : State) (i : Instr) : Bool :=
  let cust := s.on LPE_CTX_CUST c
  let p3 := s.is LPE_CTX_PRIO c 3
  match i with
  | .ld _ _ _ b off _ => !loadable (slotAddr c b.val off.toNat s)
  | .st _ _ _ b off _ => !storeAllowed c (slotAddr c b.val off.toNat s) s
  | .stg _ _ _ b off _ => !stageAllowed c (slotAddr c b.val off.toNat s) s
  | .dir _ _ _ b off _ => cust || !(inPorts (slotAddr c b.val off.toNat s) || inRegs (slotAddr c b.val off.toNat s))
  | .sig _ t _ => cust && decide (t.val < 57)
  | .kill _ _ _ | .ovr _ _ _ _ | .ovrrel _ _ _ => !p3
  | j => match takenBranch c s j with
    | some t => regionOf t != regionOfCtx c s
    | none => false

/-- A word is a violation: it has a reserved encoding, one of its operations is one, two of them write one register, or it was fetched outside its
region. -/
def wordViolates (c : Nat) (ops : List Instr) (s : State) : Bool :=
  reservedWord (fetchWord c s) || regionOf (s.get CTX_PC c) != regionOfCtx c s || ops.any (violates c s)
    || !decide (ops.filterMap writesX).Nodup || !decide (ops.filterMap writesB).Nodup

/-! ## Effects of slots; `s` is the state before the word -/

/-- A MAC slot (R365). -/
def macSlot (c : Nat) (s : State) (i : Instr) (t : State) : State :=
  match i with
  | .mul _ n a b q _ => setAcc c n.val (product c a.val b.val q.val s) t
  | .mac _ n a b q _ => setAcc c n.val (acc c n.val s + product c a.val b.val q.val s) t
  | .msu _ n a b q _ => setAcc c n.val (acc c n.val s - product c a.val b.val q.val s) t
  | .add _ n a _ => setAcc c n.val (acc c n.val s + xreg c a.val s) t
  | .lda _ n a _ => setAcc c n.val (xreg c a.val s) t
  | .clr _ n _ => setAcc c n.val 0 t
  | .abs _ n _ => setAcc c n.val (acc c n.val s).natAbs t
  | .min _ n a _ => setAcc c n.val (Min.min (acc c n.val s) (xreg c a.val s)) t
  | .max _ n a _ => setAcc c n.val (Max.max (acc c n.val s) (xreg c a.val s)) t
  | .wr _ n a b q _ =>
    let v := shiftRound (acc c n.val s) b.val (q.val.testBit 0) t.free
    let u := (if q.val.testBit 0 then t.used else t).setI CTX_X (32 * c + a.val) (sat32 v)
    if q.val.testBit 1 then setFlags c v u else u
  | _ => t

/-- A load/store slot (R366, R377, R378); `bus` writes a register-space word. A register-space load is left pending (R368); a port written at once
reaches its sink with the word (`passDirect`). -/
def lsSlot (bus : Nat → Nat → State → State) (c : Nat) (s : State) (i : Instr) (t : State) : State :=
  match i with
  | .ld _ n x b off _ =>
    let a := slotAddr c b.val off.toNat s
    if inRegs a then
      ((t.set CTX_LDX (2 * c + n.val) (x.val + 1)).set CTX_LDA (2 * c + n.val) a).set CTX_STALL c 1
    else t.set CTX_X (32 * c + x.val) (engineWord c a s)
  | .st _ _ x b off _ =>
    let a := slotAddr c b.val off.toNat s
    let v := s.get CTX_X (32 * c + x.val)
    silWatch a v { t with mem := t.mem.setWord (dmByte a) 4 v }
  | .stg _ _ x b off _ => stageEntry c (slotAddr c b.val off.toNat s) (s.get CTX_X (32 * c + x.val)) t
  | .dir _ _ x b off _ =>
    let a := slotAddr c b.val off.toNat s
    let v := s.get CTX_X (32 * c + x.val)
    if inPorts a then putPort ((a - 0x20000) / 16) ((a - 0x20000) % 16) v t
    else bus (regByte a) v t
  | .movb _ _ x b off _ => t.set CTX_B (8 * c + b.val) (s.get CTX_X (32 * c + x.val) + off.toNat)
  | _ => t

/-- End of a run (R369, R373, R377, R392, R393, R395). -/
def endRun (c : Nat) (s : State) : State :=
  let t := if (NMap.get [] s.stage c).isEmpty then s else pulse 231 c { s with stage := s.stage.del c }
  let t := forBelow 8 (fun u x => if x.is LPE_SIL_CFG_MODE u 2 && x.is LPE_SIL_CFG_CTX u c
    then silCapture u (engineWord c (x.get LPE_SIL_ADDR u) x) 0 0 x else x) t
  let t := (t.bump LPE_CTXSTS_RUNS c).set CTX_WORDS c 0
  let t := if t.on LPE_CTXSTS_PENDING c then
      t.setMany c [(LPE_CTXSTS_PENDING, 0), (LPE_CTXSTS_STATE, 1), (CTX_STAMP, t.get CTX_PSTAMP c), (CTX_EPOCH, t.get CTX_PEPOCH c)]
    else t.set LPE_CTXSTS_STATE c 0
  afterRun c t

/-- A control operation (R367); the program counter is set by `runWord`. -/
def copSlot (c : Nat) (s : State) (i : Instr) (t : State) : State :=
  match i with
  | .loop _ _ _ => t.set CTX_X (32 * c + 30) (s.get CTX_X (32 * c + 30) + 2 ^ 32 - 1)
  | .setx _ x v _ => t.set CTX_X (32 * c + x.val) v.toNat
  | .cmt _ _ => commitStage c t
  | .endOp _ _ => endRun c t
  | .cmtend _ _ => endRun c (commitStage c t)
  | .sig _ n _ => trigger n.val t.stamp 0 [] t
  | .kill _ n _ => killContext n.val t
  | .ovr _ x o _ => fwOverrideSet o.val (s.get CTX_X (32 * c + x.val)) t
  | .ovrrel _ o _ => fwOverrideRelease o.val t
  | .trc _ x u _ => silCapture u.val (s.get CTX_X (32 * c + x.val)) 0 0 t
  | _ => t

/-! ## Executing a word -/

/-- Record an error of context `c` (R382, R394, R399). -/
def recordErr (c cause : Nat) (s : State) : State :=
  s.setMany 0 [(LPE_ERR_CTX, c), (LPE_ERR_ADDR, s.get CTX_PC c), (LPE_ERR_CAUSE, cause)]

/-- A violation (R382). -/
def violation (c : Nat) (s : State) : State :=
  pulse 227 c (killContext c ((recordErr c 3 s).set LPE_CTXSTS_VIOL c 1))

/-- An uncorrectable fetch or data-memory load (R394): cause 1 or 2. -/
def uncorrectable (c cause : Nat) (s : State) : State :=
  pulse (223 + cause) c (killContext c (recordErr c cause s))

/-- The operations of a word in slot order. -/
def inOrder (ops : List Instr) : List Instr :=
  (List.range 7).flatMap fun n => ops.filter fun i => slotOfOp i == some n

/-- A load from a data-memory word that is uncorrectable (R394). -/
def badLoad (c : Nat) (s : State) (i : Instr) : Bool :=
  match i with
  | .ld _ _ _ b off _ =>
    let a := slotAddr c b.val off.toNat s
    inData a && s.csBad.contains (131072 + a / 2)
  | _ => false

/-- The port words that the `dir` operations of a word write, with their values. -/
def directWrites (c : Nat) (ops : List Instr) (s : State) : List (Nat × Nat) :=
  ops.filterMap fun i => match i with
    | .dir _ _ x b off _ =>
      let a := slotAddr c b.val off.toNat s
      if inPorts a then some (a, s.get CTX_X (32 * c + x.val)) else none
    | _ => none

/-- The word commits. -/
def commits (ops : List Instr) : Bool := ops.any fun i => match i with
  | .cmt _ _ => true
  | .cmtend _ _ => true
  | _ => false

/-- What the `dir` operations of a word wrote to ports is passed to the sinks, but for what the word's commit, or its later `dir`, overwrites in the
same cycle (R379). `s` is the state before the word, `t` that before its control operation. -/
def passDirect (c : Nat) (ops : List Instr) (s t : State) : State :=
  let later := if commits ops then (commitPlan c t).2 else []
  forAll ((lastEntries (directWrites c ops s)).filter fun e => !later.any fun x => x.1 == e.1) (fun (e : Nat × Nat) u =>
    passPort ((e.1 - 0x20000) / 16) ((e.1 - 0x20000) % 16) e.2 (some (s.get CTX_STAMP c, s.get CTX_EPOCH c)) u) t

/-- Execute a whole word of context `c`. -/
def runWord (bus : Nat → Nat → State → State) (c : Nat) (ops : List Instr) (s : State) : State :=
  if wordViolates c ops s then violation c s
  else if ops.any (badLoad c s) then uncorrectable c 2 s
  else
    let next := match ops.findSome? (takenBranch c s) with
      | some t => t
      | none => s.get CTX_PC c + 1
    let t := (s.bump CTX_WORDS c).set CTX_PC c next
    let t := passDirect c (inOrder ops) s (forAll (inOrder ops) (fun i u => lsSlot bus c s i (macSlot c s i u)) t)
    settleTrace s (forAll ops (copSlot c s) t)

/-- A customer run has used its words (R383). -/
def wordsUsed (c : Nat) (s : State) : Bool :=
  s.on LPE_CTX_CUST c && decide (s.get LPE_CUSTLIM_WORDS 0 ≤ s.get CTX_WORDS c)

/-- An operation is fetched for context `c`: one that the word at its program counter holds. Nothing is fetched unless the context is RUNNING and its
core is not stalled, in a customer run past its limit, or into a slot that the word has filled already; an uncorrectable word cannot be (R394). The
word executes with the last of its operations. -/
def lpeOp (bus : Nat → Nat → State → State) (c : Nat) (i : Instr) (last : Bool) (s : State) : State :=
  let ops := NMap.get [] s.word c
  if !s.is LPE_CTXSTS_STATE c 2 || s.on CTX_STALL c || wordsUsed c s || ops.any (fun j => slotOfOp j == slotOfOp i) then s
  else if s.csBad.contains (65536 * s.get CTX_BANK c + s.get CTX_PC c) then uncorrectable c 1 s
  else if !spells (fetchWord c s) i then s
  else if last && wordComplete (fetchWord c s) (ops ++ [i]) then runWord bus c (ops ++ [i]) { s with word := s.word.del c }
  else { s with word := s.word.put c (ops ++ [i]) }

/-- LOAD_DATA_RETURN (R368, R388): the data of the pending register-space loads arrive; `rd` reads a word, with its side effects
for a vendor context. A kill that waited takes place. -/
def loadDataReturn (rd : Nat → State → State) (c : Nat) (s : State) : State :=
  if !s.on CTX_STALL c then s
  else
    let t := forBelow 2 (fun n u =>
      if u.on CTX_LDX (2 * c + n) then
        let v := if u.on LPE_CTX_CUST c then lookReg (regByte (u.get CTX_LDA (2 * c + n))) u
          else rd (regByte (u.get CTX_LDA (2 * c + n))) u
        (v.set CTX_X (32 * c + u.get CTX_LDX (2 * c + n) - 1) v.rdata).set CTX_LDX (2 * c + n) 0
      else u) s
    let t := t.set CTX_STALL c 0
    if t.on CTX_KILLP c then killContext c t else t

/-! ## Dispatch (R374) -/

/-- The context that runs on a core. -/
def runningOn (core : Nat) (s : State) : Option Nat :=
  (List.range 64).find? fun c => s.is LPE_CTXSTS_STATE c 2 && s.is CTX_CORE c core

/-- Context `x` ranks before `y` (R374). -/
def ranksBefore (s : State) (x y : Nat) : Bool :=
  let p c := s.get LPE_CTX_PRIO c
  let v c := s.get LPE_CTX_CUST c
  let st c := s.get CTX_STAMP c
  decide (p y < p x) || (p x == p y && (decide (v x < v y) || (v x == v y
    && (decide (st x < st y) || (st x == st y && decide (x < y))))))

/-- The first of a list by rank. -/
def bestContext (s : State) : List Nat → Option Nat
  | [] => none
  | c :: t => match bestContext s t with
    | some d => if ranksBefore s d c then some d else some c
    | none => some c

/-- The contexts that wait for a core. -/
def readyContexts (s : State) : List Nat :=
  (List.range 64).filter fun c => (s.is LPE_CTXSTS_STATE c 1 || s.is LPE_CTXSTS_STATE c 3) && !s.on CTX_STALL c

/-- Context `c` takes a core: a READY one starts its run at ENTRY with the newest page, a PREEMPTED one resumes (R372, R374). -/
def takeCore (core c : Nat) (s : State) : State :=
  let t := s.setMany c [(LPE_CTXSTS_STATE, 2), (CTX_CORE, core)]
  if s.is LPE_CTXSTS_STATE c 3 then t
  else
    (t.setMany c [(CTX_LATCH, 1 - s.get CTX_LATCH c), (CTX_PC, s.get LPE_CTX_ENTRY c), (CTX_WORDS, 0),
      (CTX_BANK, s.get LPE_IMGSTS_ACTIVE 0), (CTX_SEQ, s.get LPE_SEQN 0)]).bump LPE_SEQN 0

/-- The running context that is preempted first: lowest priority, then the one that started last. -/
def victim (s : State) : Option Nat :=
  ((List.range 64).filter fun c => s.is LPE_CTXSTS_STATE c 2).foldl (fun b c => match b with
    | none => some c
    | some d => if s.get LPE_CTX_PRIO c < s.get LPE_CTX_PRIO d
        ∨ (s.get LPE_CTX_PRIO c = s.get LPE_CTX_PRIO d ∧ s.get CTX_SEQ d < s.get CTX_SEQ c) then some c else some d) none

/-- CONTEXT_DISPATCH (R374): an idle core takes the best waiting context; with no idle core the best READY one preempts the victim, if
that runs on this core, at a word boundary. -/
def contextDispatch (core : Nat) (s : State) : State :=
  if !s.on LPE_CTL_RUN 0 then s
  else
    match runningOn core s with
    | none => match bestContext s (readyContexts s) with
      | none => s
      | some c => takeCore core c s
    | some v => match bestContext s ((readyContexts s).filter fun c => s.is LPE_CTXSTS_STATE c 1) with
      | none => s
      | some c =>
        if (List.range 4).all (fun k => (runningOn k s).isSome) && victim s == some v
            && decide (s.get LPE_CTX_PRIO v < s.get LPE_CTX_PRIO c) && !s.on CTX_STALL v && (s.word.find v).isNone then
          takeCore core c (s.set LPE_CTXSTS_STATE v 3)
        else s

/-- CUSTOMER_WORD_LIMIT (R383). -/
def customerWordLimit (c : Nat) (s : State) : State :=
  if s.is LPE_CTXSTS_STATE c 2 && wordsUsed c s then pulse 228 c (killContext c (recordErr c 4 s)) else s

/-! ## Requests (R371, R381, R401) -/

/-- LPE_TRIG: writes of 1 trigger their contexts. -/
def lpeTrig (hi : Bool) (v : Nat) (s : State) : State :=
  settleTrace s (forBelow 32 (fun b t => if v.testBit b then trigger (b + if hi then 32 else 0) t.stamp 0 [] t else t) s)

/-- LPE_KILL: a context that runs or waits is killed; an IDLE one has nothing to end. -/
def lpeKill (hi : Bool) (v : Nat) (s : State) : State :=
  forBelow 32 (fun b t =>
    let c := b + if hi then 32 else 0
    if v.testBit b then killContext c t else t) s

/-- LPE_RUN (R401). With RUN cleared each sink holds its reset state and the retract engine holds the actuators. -/
def lpeRun (run : Bool) (s : State) : State :=
  let t := s.setMany 0 [(LPE_CTL_RUN, run.toNat), (LPE_STS_RUNNING, run.toNat)]
  if run || !s.on LPE_CTL_RUN 0 then t
  else
    let t := forBelow 48 sendHeater ((t.set SPN_VDEM 0 0).set SPN_VDEM 1 0)
    withFollow (retractAll (t.setMany 0 [(SPN_VAGE, 0), (SPN_IDDEM, 0), (SPN_IQDEM, 0)]))

/-! ## Images (R389–R394) -/

/-- The banks' validity and versions as the registers show them (R399). -/
def showImages (s : State) : State :=
  let a := s.get LPE_IMGSTS_ACTIVE 0
  let i := 1 - a
  s.setMany 0 [(LPE_IMGSTS_IVALID_V, s.get LPE_VALID (2 * i)), (LPE_IMGSTS_IVALID_C, s.get LPE_VALID (2 * i + 1)),
    (LPE_IMGSTS_IEMPTY_C, s.get LPE_EMPTY i), (LPE_IMGSTS_AEMPTY_C, s.get LPE_EMPTY a),
    (LPE_VER_V, s.get LPE_VERS (2 * a)), (LPE_VER_C, if s.on LPE_EMPTY a then 0 else s.get LPE_VERS (2 * a + 1)),
    (LPE_IVER_V, s.get LPE_VERS (2 * i)), (LPE_IVER_C, if s.on LPE_EMPTY i then 0 else s.get LPE_VERS (2 * i + 1))]

/-- A load or copy ends with a RESULT; a failed one fires source 233. -/
def endLoad (res : Nat) (s : State) : State :=
  let t := s.setMany 0 [(LPE_LDCTL_BUSY, 0), (LPE_LDCTL_RESULT, res)]
  if res = 0 then t else pulse 233 0xFF t

/-- IMAGE_LOAD (R391, R393): a GO while BUSY is ignored; into a bank whose old runs have not ended it ends with RESULT 7. -/
def imageLoad (region : Nat) (s : State) : State :=
  if s.on LPE_LDCTL_BUSY 0 then s
  else
    let t := s.set LPE_LDCTL_REGION 0 region
    if s.on LPE_IMGSTS_OLDBUSY 0 then endLoad 7 t
    else showImages ((t.set LPE_VALID (2 * (1 - s.get LPE_IMGSTS_ACTIVE 0) + region) 0).set LPE_LDCTL_BUSY 0 1)

/-- Entry `i` of the context table of an image at address `a` (R390). -/
def tableEntryAt (a i : Nat) (m : Memory) : CtxEntry :=
  let e := a + 0x200 + 44 * i
  { ctx := m.word e 1, prio := m.word (e + 1) 1, src := m.word (e + 2) 1, entry := m.word (e + 4) 2, x30 := m.word (e + 8) 4,
    b := (List.range 8).map fun k => m.word (e + 12 + 4 * k) 4 }

/-- The image at address `a` (R390). -/
def imageAtAddr (a : Nat) (m : Memory) : Image :=
  let n := m.word (a + 6) 2
  let w := m.word (a + 0x14) 4
  { magic := m.word a 4, region := m.word (a + 4) 1, format := m.word (a + 5) 1, version := m.word (a + 8) 4, dlayout := m.word (a + 0xC) 4,
    base := m.word (a + 0x10) 4, nwords := w, outgrant := m.word (a + 0x20) 32, cggrant := (List.range 16).map fun g => m.word (a + 0x40 + g) 1,
    signed := m.word (a + 0x180) 96 != 0, table := (List.range n).map fun i => tableEntryAt a i m,
    body := (List.range (Nat.min w 0x10000)).map fun i => m.word (a + 0x200 + 44 * n + 16 * i) 16 }

/-- The image that `LPE_LDSRC` names (R391). -/
def loadSource (s : State) : Image := imageAtAddr (s.get LPE_LDSRC_LO 0 + 2 ^ 32 * s.get LPE_LDSRC_HI 0) s.mem

/-- MAGIC, FORMAT (R390, R391). -/
def Image.formatOk (img : Image) : Bool := img.magic == 0x4C504549 && img.format == 1

/-- Contexts, entries and priorities of a table are permitted (R375, R388). -/
def tableOk (img : Image) : Bool :=
  decide (img.table.length ≤ 64) && img.table.all fun e =>
    decide (e.ctx < 64) && decide (e.prio ≤ 3) && regionOf e.entry == img.region
      && (img.region == 0 || (decide (57 ≤ e.ctx) && decide (e.prio ≤ 1)))

/-- BASE and NWORDS lie within the region. -/
def boundsOk (img : Image) : Bool :=
  if img.region = 0 then decide (img.base + img.nwords ≤ 0xC000)
  else decide (0xC000 ≤ img.base) && decide (img.base + img.nwords ≤ 0x10000)

/-- The image that marks the customer region EMPTY (R391). -/
def emptyImage (img : Image) : Bool := img.region == 1 && img.nwords == 0 && !img.signed

/-- RESULT of a load of region `region` (R391). -/
def loadResult (region : Nat) (found : ImageChecks) (s : State) : Nat :=
  let img := loadSource s
  if !found.readOk then 8
  else if !img.formatOk then 1
  else if img.region ≠ region || (!emptyImage img && !boundsOk img) then 2
  else if emptyImage img then 0
  else if !tableOk img then 3
  else if region = 1 && !s.on LPE_IMGSTS_CKEY 0 then 6
  else if !found.keyOk then 4
  else if !found.sigOk then 5 else 0

/-- Write an image's body into a bank: words of the store, whose uncorrectable marks go (R394). -/
def writeBody (bank : Nat) (img : Image) (s : State) : State :=
  let at0 := 65536 * bank + img.base
  { s with
    cs := img.body.zipIdx.foldl (fun m e => m.put (at0 + e.2) e.1) s.cs
    csBad := s.csBad.filter fun a => !(decide (at0 ≤ a) && decide (a < at0 + img.nwords)) }

/-- IMAGE_LOAD_DONE (R391). -/
def imageLoadDone (found : ImageChecks) (s : State) : State :=
  if !s.on LPE_LDCTL_BUSY 0 then s
  else
    let region := s.get LPE_LDCTL_REGION 0
    let img := loadSource s
    let bank := 1 - s.get LPE_IMGSTS_ACTIVE 0
    let res := loadResult region found s
    let k := 2 * bank + region
    let t := if found.readOk && img.formatOk && boundsOk img && img.region == region then writeBody bank img s else s
    let t := if res ≠ 0 then t
      else if emptyImage img then
        { t with images := t.images.put k LpeImage.empty }.setMany bank [(LPE_EMPTY, 1)] |>.set LPE_VERS k 0
      else
        let grants := (List.range 256).filter fun o => img.outgrant.testBit o
        let u := { t with images := t.images.put k ⟨img.table, grants, img.cggrant⟩ }
        let u := ((u.set LPE_VALID k 1).set LPE_VERS k img.version).set LPE_DLAY k img.dlayout
        if region = 1 then u.set LPE_EMPTY bank 0 else u
    endLoad res (showImages t)

/-- IMAGE_COPY (R391, R393): a region of the active bank is copied with table, version and validity. -/
def imageCopy (region : Nat) (s : State) : State :=
  if s.on LPE_LDCTL_BUSY 0 then s
  else if s.on LPE_IMGSTS_OLDBUSY 0 then endLoad 7 s
  else
    let a := s.get LPE_IMGSTS_ACTIVE 0
    let i := 1 - a
    let lo := if region = 0 then 0 else 0xC000
    let hi := if region = 0 then 0xC000 else 0x10000
    let mine (bank x : Nat) : Bool := decide (65536 * bank + lo ≤ x) && decide (x < 65536 * bank + hi)
    let keep := s.cs.filter fun e => !mine i e.1
    let move := (s.cs.filter fun e => mine a e.1).map fun (e : Nat × Nat) => (e.1 % 65536 + 65536 * i, e.2)
    let t := { s with
      cs := move.foldl (fun m (e : Nat × Nat) => m.put e.1 e.2) keep
      csBad := (s.csBad.filter fun x => !mine i x) ++ (s.csBad.filter fun x => mine a x).map fun x => x % 65536 + 65536 * i
      images := s.images.put (2 * i + region) (s.image a region) }
    let t := ((t.set LPE_VALID (2 * i + region) (s.get LPE_VALID (2 * a + region))).set LPE_VERS (2 * i + region)
      (s.get LPE_VERS (2 * a + region))).set LPE_DLAY (2 * i + region) (s.get LPE_DLAY (2 * a + region))
    let t := if region = 1 then t.set LPE_EMPTY i (s.get LPE_EMPTY a) else t
    endLoad 0 (showImages t)

/-- The check of group IMAGE (R392) for the bank `b`. -/
def imageCheck (b : Nat) (s : State) : Bool :=
  let a := s.get LPE_IMGSTS_ACTIVE 0
  b == a || (s.on LPE_VALID (2 * b) && (s.on LPE_VALID (2 * b + 1) || s.on LPE_EMPTY b) && !s.on LPE_LDCTL_BUSY 0
    && !s.on LPE_IMGSTS_OLDBUSY 0
    && (s.get LPE_DLAY (2 * b) == s.get LPE_DLAY (2 * a) || (allParked s && s.is SPN_STATE_STATE 0 0)))

/-- Grants of the active vendor image (R388). -/
def takeGrants (s : State) : State :=
  let g := s.image (s.get LPE_IMGSTS_ACTIVE 0) 0
  let t := forBelow 256 (fun o u => u.set LPE_OUTCFG_CUST o (g.outs.contains o).toNat) s
  forBelow 16 (fun i u => u.set LPE_CG_CUSTMASK i (g.cgs.getD i 0)) t

/-- The bank swap (R392, R393): idle and ready contexts take the new configuration; the others at the end of their runs. -/
def bankSwap (b : Nat) (s : State) : State :=
  if s.is LPE_IMGSTS_ACTIVE 0 b then s
  else
    let t := takeGrants (s.set LPE_IMGSTS_ACTIVE 0 b)
    let t := forBelow 64 (fun c u => if u.get LPE_CTXSTS_STATE c < 2 then takeConfig c u else u.set CTX_OLD c 1) t
    showImages (showOld t)

/-- CONTROL_STORE_SCRUB (R394): corrected words are counted; uncorrectable ones (bank, word) stay until the next load of their
region, and a fetch of one is uncorrectable. -/
def controlStoreScrub (corrected : Nat) (bad : List (Nat × Nat)) (s : State) : State :=
  if !s.on LPE_CTL_SCRUB 0 then s
  else
    let t := s.add LPE_ECC_CS 0 corrected
    { t with csBad := (t.csBad ++ bad.map fun (e : Nat × Nat) => 65536 * (e.1 % 2) + e.2 % 65536).eraseDups }

/-! ## Sillage (R395–R398) -/

/-- SILLAGE_ARM. -/
def sillageArm (u : Nat) (s : State) : State :=
  s.setMany u [(LPE_SIL_STS_STATE, 1), (LPE_SIL_FILL, 0), (SIL_HEAD, 0), (SIL_GAP, 0), (SIL_Q, 0), (SIL_LEFT, 0)]

/-- SILLAGE_FORCE: ignored unless the unit is ARMED. -/
def sillageForce (u : Nat) (s : State) : State := settleTrace s (silTrigger 8 u s)

/-- SILLAGE_STOP: capture ends in any state. -/
def sillageStop (u : Nat) (s : State) : State := s.set LPE_SIL_STS_STATE u 0

/-- SILLAGE_PERIOD_CAPTURE. -/
def sillagePeriod (u : Nat) (s : State) : State :=
  if s.is LPE_SIL_CFG_MODE u 1 then settleTrace s (silCapture u (engineWord (s.get LPE_SIL_CFG_CTX u) (s.get LPE_SIL_ADDR u) s) 0 0 s)
  else s

/-- SILLAGE_DONE: POST entries past the marker have been captured. -/
def sillageDone (u : Nat) (s : State) : State :=
  if s.is LPE_SIL_STS_STATE u 2 && !s.on SIL_LEFT u then s.set LPE_SIL_STS_STATE u 3 else s

/-- SILDAT_READ (R398, R399): the upper word of the selected entry; what a unit that is not IDLE or DONE returns is not stated. -/
def sildatRead (s : State) : State :=
  let u := s.get LPE_SILRD_UNIT 0
  let e := NMap.get 0 s.sil (16384 * u + s.get LPE_SILRD_INDEX 0)
  let open0 := s.is LPE_SIL_STS_STATE u 0 || s.is LPE_SIL_STS_STATE u 3
  let t := if open0 then s.ret (bits e 32 32) else s.used.ret (s.free % 2 ^ 32)
  if s.on LPE_SILRD_AUTOINC 0 then t.bump LPE_SILRD_INDEX 0 else t

end Sys2Proof.Machine
end

