-- ==== Sys2Proof/Machine/Decoder.lean ====
section
/-!
DEFINITION. The decoder pool (spec/02, R98–R111, R136): dispatch, budgets, the alignment search, results.
-/

namespace Sys2Proof.Machine

/-- A limited register value: a value of 0 acts as 1, one above the limit as the limit (R105). -/
def limited (hi v : Nat) : Nat := if v = 0 then 1 else Nat.min hi v

/-- The in-line budget when `q` in-line codewords wait (R105). -/
def inlineBudget (q : Nat) (s : State) : Nat :=
  let imax := limited 40 (s.get DEC_BUDGET_IMAX 0)
  let ifl := Nat.min imax (limited 40 (s.get DEC_BUDGET_IFLOOR 0))
  let lo := s.get DEC_QLIM_LOW 0
  let hi := s.get DEC_QLIM_HIGH 0
  if hi ≤ lo then (if q < hi then imax else ifl)
  else if q ≤ lo then imax
  else if hi ≤ q then ifl
  else imax - ((imax - ifl) * (q - lo) + (hi - lo) - 1) / (hi - lo)

/-- The recovery budget (R105). -/
def recoveryBudget (s : State) : Nat := limited 200 (s.get DEC_BUDGET_RMAX 0)

/-- Engines that hold class-2 work. -/
def recoveryBusy (s : State) : Nat := s.engines.countP fun e => e.2.w.cls == 2

/-- The longest-waiting codeword of a list. -/
def oldest (l : List Waiting) : Option Waiting :=
  l.foldl (fun b w => match b with
    | none => some w
    | some x => if w.since < x.since then some w else some x) none

/-- The codeword that a free engine takes (R103, R104). -/
def nextCodeword (s : State) : Option Waiting :=
  let l := s.waiting.filter fun w => w.cls ≠ 2 || decide (recoveryBusy s < s.get DEC_SCHED_RCV_ENG 0)
  let aged := l.filter fun w => decide (s.get DEC_SCHED_AGE 0 * 1000 < s.aonNs - w.since)
  match oldest aged with
  | some w => some w
  | none =>
    match oldest (l.filter fun w => w.cls == 0) with
    | some w => some w
    | none =>
      match oldest (l.filter fun w => w.cls == 1) with
      | some w => some w
      | none => oldest (l.filter fun w => w.cls == 2)

/-- Show the engines that are busy. -/
def showBusy (s : State) : State := s.set DEC_STS_BUSY 0 s.engines.length

/-- Engine `d` is free to take work: enabled, its clock not gated, and idle (R111, R136). -/
def engineFree (d : Nat) (s : State) : Bool :=
  s.bit DEC_EN 0 d && bits (s.get DEC_CLK (d / 16)) (2 * (d % 16)) 2 != 0 && (s.engines.find d).isNone

/-- ENGINE_DISPATCH (R87, R104, R105, R111). -/
def engineDispatch (d : Nat) (s : State) : State :=
  if !engineFree d s then s
  else
    match nextCodeword s with
    | none => s
    | some w =>
      let t := { s with waiting := s.waiting.erase w }
      let q := t.waiting.countP fun x => x.cls < 2
      let b := if w.cls = 2 then recoveryBudget s else inlineBudget q s
      showStaged w.lane (showWait (showBusy { t with engines := t.engines.put d ⟨w, b, [w.off], none⟩ }))

/-- The candidate alignments of R98 in order: the prediction when the kind was PROVISIONAL, then prediction ±1, ±2, …. -/
def candidates (fr : FrameRec) (alt : Nat) : List Int :=
  (if fr.prov then [0] else []) ++ (List.range alt).flatMap fun (i : Nat) => [Int.ofNat i + 1, -(Int.ofNat i + 1)]

/-- The next alignment for a codeword that failed in line (R98): the one adopted for the frame, or the next candidate while
the search is open. -/
def nextAlign (fr : FrameRec) (tried : List Int) (alt : Nat) : Option Int :=
  match fr.hit with
  | some h => if tried.contains h then none else some h
  | none => (candidates fr alt).find? fun c => !tried.contains c

/-! ## What a decoded codeword holds (R100, R106, R150) -/

/-- The frame tag of a decoded codeword: its last four bytes, bit 31 first (R150). -/
def readTag (o : DecodeOut) : Nat := ofBytes ((o.bytes.drop 4112).take 4).reverse

/-- The position fields of the tag that was read match the expected ones (R100, R101). -/
def positionMatch (fr : FrameRec) (cw : Nat) (o : DecodeOut) : Bool :=
  bits (readTag o) 9 23 == frameTag fr.op cw / 512

/-- The generation of the tag that was read is the expected one (R102). -/
def genMatch (fr : FrameRec) (o : DecodeOut) : Bool := bits (readTag o) 0 9 == fr.op.gen.toNat

/-- The guard in the protection information is the CRC-64 of the data (R106). -/
def guardOk (o : DecodeOut) : Bool :=
  ((o.bytes.drop 4096).take 8).reverse == bytesOf 8 (guard64 (o.bytes.take 4096))

/-- The result of a converged codeword whose position fields match (R102, R106, R110). -/
def matchCode (fr : FrameRec) (w : Waiting) (off : Int) (o : DecodeOut) : Nat :=
  if !genMatch fr o then 3
  else if !guardOk o then 7
  else if w.cls = 2 then 2
  else if off ≠ fr.base then 1
  else 0

/-- The soft decisions of a codeword at an alignment (R87, R98): within the margins of the staged ones; beyond them nothing is held. -/
def alignedSoft (fr : FrameRec) (w : Waiting) (off : Int) : Option (List (BitVec 4)) :=
  if (off - fr.base).natAbs ≤ 4 then some ((w.soft.drop (4 + off - fr.base).toNat).take 37152) else none

/-- The erasure count of a codeword at an alignment (R86, R107): bits of reliability 0; beyond the margins it is not stated
(log entry 11). -/
def erasures (fr : FrameRec) (w : Waiting) (off : Int) (s : State) : Nat :=
  match alignedSoft fr w off with
  | some l => l.countP fun b => b &&& 7#4 == 0#4
  | none => s.free % 37153

/-- Count a result (R136). -/
def countResult (code : Nat) (s : State) : State :=
  if code ≤ 2 then s.bump DEC_CNT_OK 0
  else if code = 5 then s.bump DEC_CNT_INL 0
  else if code = 6 || code = 7 then s.bump DEC_CNT_FAIL 0
  else if code = 3 || code = 4 then s.bump DEC_CNT_TAG 0
  else s

/-- Mean iterations × 256 over the last 65,536 in-line codewords (R136). -/
def countIters (w : Waiting) (n : Nat) (s : State) : State :=
  if w.cls = 2 then s
  else
    let l := (n :: s.iters).take 65536
    { s with iters := l }.set DEC_ITERMEAN 0 (l.sum * 256 / l.length)

/-- `n` free bytes: what a device held (log entry 11). -/
def freeBytes (start n : Nat) : List (BitVec 8) := (List.range n).map fun i => Config.freeByte (start + i)

/-- The engine writes the 4,096 data and 16 protection bytes of codeword `cw` to DRAM, and not the frame tag (R107). -/
def writePayload (fr : FrameRec) (cw : Nat) (o : DecodeOut) (s : State) : State :=
  let a := fr.op.dataAddr.toNat + 4112 * cw
  cleanRange a 4112 { s with mem := s.mem.writeList a (o.bytes.take 4112) }

/-- Soft decisions as bytes, two to a byte, the first in the high half (R108; the order is this model's choice, log entry 11). -/
def packSoft : List (BitVec 4) → List (BitVec 8)
  | a :: b :: t => (a ++ b : BitVec 8) :: packSoft t
  | [a] => [(a ++ 0#4 : BitVec 8)]
  | [] => []

/-- Bytes of soft decisions, with the margins of four bits that the recovery area does not hold. -/
def unpackSoft (l : List (BitVec 8)) : List (BitVec 4) :=
  List.replicate 4 0#4 ++ l.flatMap (fun b => [b.extractLsb' 4 4, b.extractLsb' 0 4]) ++ List.replicate 4 0#4

/-- The soft decisions of a codeword are copied to the recovery area, at an alignment (R99, R108); where the staged ones do not reach,
free ones. -/
def writeRecovery (fr : FrameRec) (w : Waiting) (off : Int) (s : State) : State :=
  let a := fr.op.rcvAddr.toNat + 18576 * w.cw
  let s := cleanRange a 18576 s
  match alignedSoft fr w off with
  | some l => { s with mem := s.mem.writeList a (packSoft l) }
  | none => { s with mem := s.mem.writeList a (freeBytes s.fresh 18576), fresh := s.fresh + 18576 }

/-- A first codeword that decodes with matching position fields fixes the alignment of the frame's others (R98). Its sync kind and offset
are shown even where the lane has begun a newer frame, whose distance stays: the spec does not say which frame is shown then
(log entry 11). -/
def adoptAlign (fr : FrameRec) (w : Waiting) (off : Int) (s : State) : State :=
  if fr.hit.isSome || w.cls = 2 then s
  else
    let t := s.modFrame fr.fid fun x => { x with hit := some off }
    let t := { t with waiting := t.waiting.map fun x => if x.fid = fr.fid then { x with off := off } else x }
    if off = fr.base then t else (t.setI LAN_SYNCV_OFS fr.lane off).set LAN_SYNCV_KIND fr.lane 3

/-- The engine's work ends with a result code, at alignment `off` after `n` iterations (R107); a guard mismatch is one of an internal stage (R425). -/
def endDecode (d : Nat) (fr : FrameRec) (j : EngineJob) (code n : Nat) (off : Int) (o : DecodeOut) (s : State) : State :=
  let t := showBusy { s with engines := s.engines.del d }
  let t := countIters j.w n (countResult code t)
  let t := if code ≤ 3 then writePayload fr j.w.cw o t else if code = 5 then writeRecovery fr j.w off t else t
  let e := erasures fr j.w off t
  let t := report fr j.w.cw code n off e (if (alignedSoft fr j.w off).isNone then t.used else t)
  if code = 7 then piMismatch (fr.op.dataAddr.toNat + 4112 * j.w.cw) 2 (pulse 193 0xFF t) else t

/-- The alignment that an engine used first. -/
def firstAlign (j : EngineJob) : Int := (j.tried.getLast?).getD j.w.off

/-- DECODE_DONE (R98, R99, R101, R102, R105–R109): an engine stops within its budget. After a search without success the codeword ends
with the result, the iterations and the erasures of the alignment used first; the spec names the alignment alone (log entry 11). -/
def decodeDone (d : Nat) (o : DecodeOut) (s : State) : State :=
  match s.engines.find d with
  | none => s
  | some j =>
    match s.frame j.w.fid with
    | none => showBusy { s with engines := s.engines.del d }
    | some fr =>
      let n := Nat.min o.iters j.budget
      let conv := o.conv && decide (o.iters ≤ j.budget)
      if fr.cancel then endDecode d fr j 0xE n j.w.off o s
      else if conv && positionMatch fr j.w.cw o then
        endDecode d fr j (matchCode fr j.w j.w.off o) n j.w.off o (adoptAlign fr j.w j.w.off s)
      else
        let fail := (if conv then 4 else if j.w.cls = 2 then 6 else 5, n)
        if j.w.cls = 2 then endDecode d fr j fail.1 n j.w.off o s
        else
          match nextAlign fr j.tried (s.get LAN_SYNC_ALT fr.lane) with
          | some a => { s with engines := s.engines.put d ⟨{ j.w with off := a }, j.budget, a :: j.tried, some (j.fail0.getD fail)⟩ }
          | none => endDecode d fr j (j.fail0.getD fail).1 (j.fail0.getD fail).2 (firstAlign j) o s

/-- FMT queues a class-2 recovery decode of soft decisions (R103, R108). -/
def queueRecovery (l : Nat) (op : FrameOp) (cw : Nat) (soft : List (BitVec 4)) (s : State) : State :=
  let fid := s.get DEC_FID 0
  { (s.bump DEC_FID 0) with
    frames := s.frames ++ [⟨fid, l, op, none, 0, false, some 0, 1, false, false⟩]
    waiting := s.waiting ++ [⟨fid, l, op.mtag.toNat, cw, 2, s.aonNs, 0, soft⟩] }

/-- The soft decisions that the recovery area of an operation holds for a codeword (R108, R161). -/
def savedSoft (op : FrameOp) (cw : Nat) (s : State) : List (BitVec 4) :=
  unpackSoft (s.mem.readList (op.rcvAddr.toNat + 18576 * cw) 18576)

end Sys2Proof.Machine
end

