-- ==== Sys2Proof/Machine/FormatMap.lean ====
section
/-!
DEFINITION. Where a frame lies (spec/03, R138–R157): bands, slots, usable slots, the descriptor check, and the code of a row over
the images in DRAM (R190–R195).
-/

namespace Sys2Proof.Machine

/-- Two slots of neighbouring data tracks overlap in angle (R175). -/
def slotsOverlap (d : Descriptor) (f i k i' k' : Nat) : Bool :=
  let a := slotAngle d f i k
  let b := slotAngle d f i' k'
  let len (x : Nat) : Nat := (x + 1) * revTicks / f - x * revTicks / f
  decide ((b + revTicks - a) % revTicks < len k) || decide ((a + revTicks - b) % revTicks < len k')

/-! ## Descriptor check (R144, R148) -/

/-- The used records are contiguous in tracks and bands and end within the surface (R144). -/
def zonesContiguous (d : Descriptor) : Nat → Nat → List ZoneRec → Bool
  | track, band, [] => band == d.nb && track ≤ d.ntrack
  | track, band, z :: t =>
    z.firstTrack == track && z.firstBand == band
      && zonesContiguous d (track + z.nbands * z.bandPitch) (band + z.nbands) t

/-- The fit rule (R148), over the common denominator ZRATIO. -/
def zoneFits (d : Descriptor) (z : ZoneRec) : Bool :=
  let pmin := revTicks / z.f
  let pmax := (revTicks + z.f - 1) / z.f
  let used := (pmax + 8191) / 8192 * d.srvTicks + 2
  z.f ≠ 0 && used ≤ pmin && 297376 * 2 ^ 27 ≤ z.zratio * (pmin - used)

/-- The check of R144 on a descriptor's fields. -/
def descriptorOk (d : Descriptor) : Bool :=
  let l := d.zones.filter fun z => z.nbands ≠ 0
  d.fmtId == 3 && zonesContiguous d d.sysEnd 0 l && d.nz ≤ 131072 && d.nz ≤ d.nb
    && l.all fun z => d.cBand ≤ z.dpb * z.f && (z.dpb + z.guardTr) * z.dtp ≤ z.bandPitch && zoneFits d z

/-! ## The descriptor in DRAM (R143, R144, R152) -/

/-- Address of the descriptor of surface `x` (R143). -/
def descAddr (x : Nat) (s : State) : Nat := s.get FMT_DESC_LO 0 + s.get FMT_DESC_HI 0 * 2 ^ 32 + 4096 * x

/-- A zone record (R143), of its 256 bits. -/
def zoneRec (v : Nat) : ZoneRec :=
  { firstTrack := bits v 0 21, firstBand := bits v 21 18, nbands := bits v 39 18, zratio := bits v 64 32, f := bits v 96 8
    dtp := bits v 104 3, dpb := bits v 107 6, guardTr := bits v 113 2, bandPitch := bits v 115 13, loadA := bits v 128 64
    loadB := bits v 192 64 }

/-- The descriptor that lies at an address (R143). -/
def readDescriptor (a : Nat) (m : Memory) : Descriptor :=
  let f (o w : Nat) : Nat := bits (m.word (a + o) 8) 0 w
  { fmtId := f 0x000 16, w0a := f 0x004 22, w0b := f 0x008 22, ntrack := f 0x00C 21, srvTicks := f 0x010 12, sysEnd := f 0x014 21
    sysDtp := f 0x018 3, nb := f 0x01C 18, nz := f 0x020 18, cBand := f 0x024 16, skew := f 0x028 22, defSkip := f 0x030 40
    defWin := f 0x038 40, zones := (List.range 64).map fun z => zoneRec (m.word (a + 0x40 + 32 * z) 32) }

/-- The CRC of the descriptor at an address matches (R143, R144). -/
def descriptorCrc (a : Nat) (m : Memory) : Bool := m.word (a + 0xFFC) 4 == crc32 (m.readList a 0xFFC)

/-- FMT accepts the descriptor at an address (R144). -/
def descriptorAccepted (a : Nat) (m : Memory) : Bool := descriptorCrc a m && descriptorOk (readDescriptor a m)

/-- A skip entry as read (R152). -/
def skipEntry (x v : Nat) : Skip := ⟨x, bits v 0 21, bits v 21 8, v.testBit 29, v.testBit 30⟩

/-- A window entry as read (R152). -/
def windowEntry (x v : Nat) : Window := ⟨x, bits v 0 21, bits v 21 8, ⟨bits v 29 19, bits v 48 11⟩⟩

/-- The skip list at an address: a count and that many 32-bit entries, which follow it at once (R152; log entry 10). -/
def readSkips (x a : Nat) (m : Memory) : List Skip := (List.range (m.word a 4)).map fun i => skipEntry x (m.word (a + 4 + 4 * i) 4)

/-- The window list at an address: a count and that many 64-bit entries (R152; log entry 10). -/
def readWindows (x a : Nat) (m : Memory) : List Window := (List.range (m.word a 4)).map fun i => windowEntry x (m.word (a + 4 + 8 * i) 8)

/-- The lists of a surface are replaced by those of its descriptor. -/
def replaceLists (x : Nat) (d : Descriptor) (s : State) : State :=
  { s with
    skips := s.skips.filter (fun e => e.surface ≠ x) ++ readSkips x d.defSkip s.mem
    wins := s.wins.filter (fun e => e.surface ≠ x) ++ readWindows x d.defWin s.mem }

/-- DESCRIPTOR_LOAD (R143, R144, R152, R199): the descriptor of a surface is read from DRAM and checked; one that fails leaves the surface
unserved. -/
def descriptorLoad (x : Nat) (s : State) : State :=
  let a := descAddr x s
  if descriptorAccepted a s.mem then
    let d := readDescriptor a s.mem
    updateSpare (updateMembers ((replaceLists x d { s with descs := s.descs.put x d }).setBit FMT_STS_DESC_OK 0 x true))
  else
    let t : State := { s with descs := s.descs.del x, skips := s.skips.filter (fun e => e.surface ≠ x), wins := s.wins.filter (fun e => e.surface ≠ x) }
    updateMembers (pulse 196 x (t.setBit FMT_STS_DESC_OK 0 x false))

/-! ## The code of a row over its images (R190–R195) -/

/-- Bytes of one codeword in DRAM: data, guard, application tag, reference tag (R150, R161). -/
def cwBytes : Nat := 4112

/-- Address of codeword `c` of the image of a frame. -/
def imageAt (z r pos c : Nat) : Nat := Config.frameImage z r pos + cwBytes * c

/-- The frame is the zone's frontier frame (R182). -/
def isFrontier (z r pos : Nat) (s : State) : Bool := (s.fronts.find z).any fun f => f.row == r && f.pos == pos && f.blocks != 0

/-- Address of the frame that is written for a position of a row: the frontier image, with its pad blocks, lies apart from the accepted data
(R182; log entry 12). -/
def writeImage (z r pos : Nat) (s : State) : Nat :=
  if isFrontier z r pos s then Config.frameImage (z + 4194304) r pos else Config.frameImage z r pos

/-- The offset within a codeword's image of byte `i` of its coded vector (R192): data, application tag, reference tag. -/
def codedByte (i : Nat) : Nat := if i < 4096 then i else i + 8

/-- Coded bytes of a block (R192); in the manager role the data and the application tag (R607). -/
def codedLen (s : State) : Nat := if driveRole s then 4104 else 4098

/-- One coded symbol of data position `d` at codeword `c`; a frame the row does not hold yet enters as zero, and pad blocks with their
contents (R195). -/
def dataSymbol (z r blocks d c i : Nat) (s : State) : Nat :=
  if d < dataFrames blocks s then (s.mem.read (writeImage z r d s + cwBytes * c + codedByte i)).toNat else 0

/-- The guard of a codeword image is computed over its data, most significant byte first (R150, R193, R194). -/
def writeGuard (a : Nat) (m : Memory) : Memory :=
  m.writeList (a + 4096) (bytesOf 8 (guard64 (m.readList a 4096))).reverse

/-- Parity frame `i` of a row (R193). -/
def writeParity (z r blocks i : Nat) (s : State) : State :=
  cleanRange (imageAt z r (s.k + i) 0) (s.fb * cwBytes) (forBelow s.fb (fun c t =>
    let a := imageAt z r (s.k + i) c
    let m := (List.range (codedLen s)).foldl (fun m b =>
      m.write (a + codedByte b) (BitVec.ofNat 8 (paritySym i ((List.range s.k).map fun d => dataSymbol z r blocks d c b s)))) t.mem
    { t with mem := writeGuard a m }) s)

/-- Every parity frame of a row (R190, R214). -/
def writeParities (z r blocks : Nat) (s : State) : State := forBelow s.m (fun i t => writeParity z r blocks i t) s

/-- A pad block (R182). -/
def writePad (a : Nat) (m : Memory) : Memory :=
  let m := m.writeList a (List.replicate 4096 0)
  let m := m.writeList (a + 4104) (List.replicate 8 0xFF)
  writeGuard a m

/-- Pad blocks for the codewords of a frame at an address, from `n` on (R182). -/
def padFrom (a n : Nat) (s : State) : State :=
  cleanRange (a + cwBytes * n) ((s.fb - n) * cwBytes)
    { s with mem := ((List.range s.fb).filter (n ≤ ·)).foldl (fun m c => writePad (a + cwBytes * c) m) s.mem }

/-- The lines of a copy of `n` bytes are poisoned where those of the source are lost (R423). -/
def copyPoison (a b n : Nat) (s : State) : State :=
  forAll ((linesOf a n).filter fun x => lineLost x s) (fun x t => poisonLine (x + (b - dramBase) / 64 - (a - dramBase) / 64) t)
    (cleanRange b n s)

/-- The image of a frontier frame: its `n` valid blocks, then pad blocks (R182). -/
def frontierImage (z r pos n : Nat) (s : State) : State :=
  let a := Config.frameImage (z + 4194304) r pos
  let t := copyPoison (imageAt z r pos 0) a (cwBytes * n) s
  padFrom a n { t with mem := t.mem.writeList a (t.mem.readList (imageAt z r pos 0) (cwBytes * n)) }

/-! ### Erasure decoding -/

/-- Multiply a row by a field element. -/
def gfScale (a : Nat) (l : List Nat) : List Nat := l.map fun x => gfMul a x

/-- Add two rows. -/
def gfAdd (l m : List Nat) : List Nat := List.zipWith (· ^^^ ·) l m

/-- Solve a square system given as augmented rows, for `n` unknowns, by elimination: the values of the unknowns in order. -/
def gfSolve : Nat → List (List Nat) → List Nat
  | 0, _ => []
  | n + 1, rows =>
    match rows.find? fun r => r.headD 0 ≠ 0 with
    | none => []
    | some p =>
      let p := gfScale (gfInv (p.headD 0)) p
      let rest := ((rows.erase (rows.find? (fun r => r.headD 0 ≠ 0) |>.getD [])).map fun r => gfAdd r (gfScale (r.headD 0) p)).map List.tail
      let xs := gfSolve n rest
      let v := (List.zipWith gfMul p.tail xs).foldl (· ^^^ ·) (p.getLastD 0)
      v :: xs

/-- The data symbols at the positions `lost`, from the surviving data and the parity positions `par` (R190, R225). -/
def solveSymbols (k : Nat) (lost par : List Nat) (sym : Nat → Nat) : List Nat :=
  let rows := (par.take lost.length).map fun i =>
    (lost.map fun u => accordCoef i u) ++
      [((List.range k).filter fun j => !lost.contains j).foldl (fun a j => a ^^^ gfMul (accordCoef i j) (sym j)) (sym (k + i))]
  gfSolve lost.length rows

/-- Data frame `d` of a row is known without a read: the row does not hold it (R195). -/
def notHeld (z r d : Nat) (s : State) : Bool := decide (d < s.k) && !(heldPositions z r s).contains d

/-- Reconstruct the frames at the positions `want` of a row from the images of the positions `have0`, which have been read (R190, R194, R219,
R225): data from the code, then parity from the data; guards are recomputed. -/
def reconstructRow (z r : Nat) (have0 want : List Nat) (s : State) : State :=
  let blocks := blocksOf z r s
  let ld := (List.range s.k).filter fun d => !have0.contains d && !notHeld z r d s
  let par := (List.range s.m).filter fun i => have0.contains (s.k + i)
  let one (c b : Nat) (m : Memory) : Memory :=
    let sym (j : Nat) : Nat := if j < s.k then dataSymbol z r blocks j c b s else (s.mem.read (imageAt z r j c + codedByte b)).toNat
    let x := solveSymbols s.k ld par sym
    let data (d : Nat) : Nat := match ld.idxOf? d with | some i => x.getD i 0 | none => sym d
    want.foldl (fun m p => m.write (imageAt z r p c + codedByte b)
      (BitVec.ofNat 8 (if p < s.k then data p else paritySym (p - s.k) ((List.range s.k).map data)))) m
  forBelow s.fb (fun c t =>
    let m := (List.range (codedLen s)).foldl (fun m b => one c b m) t.mem
    { t with mem := want.foldl (fun m p => writeGuard (imageAt z r p c) m) m })
    (forAll want (fun p t => cleanRange (imageAt z r p 0) (s.fb * cwBytes) t) s)

/-- Zone size in blocks. -/
def zsze (s : State) : Nat := Nat.max 1 (s.get NVQ_ZSZE 0)

/-- The reference tags of a reconstructed data frame are those of its blocks (R425, R426): a block whose application tag is 0xFFFF is not looked at. -/
def refTagsOk (z r pos : Nat) (s : State) : Bool :=
  (List.range s.fb).all fun c =>
    let a := imageAt z r pos c
    let i := s.fb * pos + c
    decide (blocksOf z r s ≤ i) || s.mem.word (a + 4104) 2 == 0xFFFF
      || ofBytes (s.mem.readList (a + 4106) 6).reverse == (z * zsze s + s.fb * s.k * r + i) % 2 ^ 48

/-- The positions of a row whose reconstruction does not hold (R425): such a frame is treated as lost. Only the drive's rows carry reference
tags (R607). -/
def wrongFrames (z r : Nat) (want : List Nat) (s : State) : List Nat :=
  if driveRole s then want.filter fun p => decide (p < s.k) && !refTagsOk z r p s else []

/-- The accord engine reports the frames whose reconstruction does not hold (R425, R426). -/
def reportWrong (z r : Nat) (l : List Nat) (s : State) : State := forAll l (fun p t => piMismatch (imageAt z r p 0) 3 t) s

/-- The positions read suffice to reconstruct the row: with the data frames it does not hold they are `k` (R191, R219). -/
def enoughRead (z r : Nat) (have0 : List Nat) (s : State) : Bool :=
  decide (s.k ≤ have0.length + (List.range s.k).countP fun d => notHeld z r d s)

end Sys2Proof.Machine
end

