-- ==== Sys2Proof/Machine/Segments.lean ====
section
/-!
DEFINITION. Relocation (spec/04, R207–R216, R237): segments and their order, targets, REDIRECT frames, spare bands that come free, rows that
cannot be recovered.
-/

namespace Sys2Proof.Machine

/-! ## Order within a segment (R208, R209) -/

/-- Lexicographic order of (zone, row, position). -/
def rowLe (a b : Nat × Nat × Nat) : Bool :=
  decide (a.1 < b.1) || (a.1 == b.1 && (decide (a.2.1 < b.2.1) || (a.2.1 == b.2.1 && decide (a.2.2 ≤ b.2.2))))

/-- A frame may come after another in a segment: pass order of the pass of a serial number, or zone order then row order, or the order of
relocation (R208). -/
def segOrder (kind : SegKind) (pass : Nat) (a b : Nat × Nat × Nat) (s : State) : Bool :=
  match kind with
  | .frame => true
  | .redirect => rowLe a b
  | .rebuild =>
    match passRecord pass s with
    | some p => if (a.1, a.2.1) = (b.1, b.2.1) then rowLe a b else passBefore p (a.1, a.2.1) (b.1, b.2.1) s
    | none => rowLe a b

/-- A segment takes frames of a kind, target, source and pass. -/
def segTakes (kind : SegKind) (target source pass : Nat) (g : Segment) : Bool :=
  g.kind == kind && g.target == target && (kind != .redirect || g.source == source) && (kind != .rebuild || g.pass == pass)

/-- The segment that a frame goes to: the newest one of its kind whose last frame it may follow. A frame that would stand before frames
already placed opens a segment of its own, so that no rank changes (log entry 12). -/
def findSeg (kind : SegKind) (target source pass z r pos : Nat) (s : State) : Option Nat :=
  (List.range s.acd.segs.length).reverse.find? fun i =>
    (s.acd.segs[i]?).any fun g => segTakes kind target source pass g
      && (g.frames.getLast?).all fun f => segOrder kind pass (f.zone, f.row, f.pos) (z, r, pos) s

/-- Frames that a segment's bands take (R154, R209). -/
def segCap (g : Segment) (s : State) : Nat := (g.bands.map fun b => bandCap g.target b s).sum

/-- The segment has room for one more frame without a further band. -/
def segRoom (g : Segment) (s : State) : Bool := decide (g.frames.length < segCap g s)

/-- The spare band that a segment takes next: the first free one with a usable slot (R209). -/
def nextBand (x : Nat) (s : State) : Option Nat := (bandsFree x s).find? fun b => bandCap x b s != 0

/-! ## Targets (R210) -/

/-- A member already holds a frame of the row, or is to take one. -/
def holdsRow (z r x : Nat) (s : State) : Bool :=
  !isLost x s && ((List.range s.w).any (fun p => (placeOf z r p s).1 == x)
    || (s.acd.segs.any fun g => g.target == x && g.frames.any fun f => f.zone == z && f.row == r && !f.dead && !f.placed)
    || s.acd.rebuilt.any fun q => q.1 == z && q.2.1 == r && q.2.2.2.1 == x)

/-- Target `x` can take a frame beside the rebuilt frames collected for it: room in its segment or in its free spare bands (R210). -/
def canTake (kind : SegKind) (x source pass z r pos : Nat) (s : State) : Bool :=
  let room := (((findSeg kind x source pass z r pos s).bind fun i => s.acd.segs[i]?).map fun g => segCap g s - g.frames.length).getD 0
  decide (s.acd.rebuilt.countP (fun q => q.2.2.2.1 == x) < room + ((bandsFree x s).map fun b => bandCap x b s).sum)

/-- The member has a head in service on the writing side (R210): the side that serves the zone's stream. DESIGN CHOICE: for a frame that no
stream writes, of a rebuild or relocated by itself, the spec names no side, and either head will do; the side-0 head writes while it is in
service (`serviceHead`, log entry 26). -/
def hasWriter (x : Nat) (d : Option Nat) (s : State) : Bool :=
  match d with
  | some d => sideServed x d s
  | none => sideServed x 0 s || sideServed x 1 s

/-- The target of a relocated frame of row `r` of zone `z` written on a side (R210). -/
def relocTarget (kind : SegKind) (z r pos : Nat) (d : Option Nat) (source pass : Nat) (s : State) : Option Nat :=
  (entrySpares (entryOf z r s) s).find? fun x =>
    !isLost x s && hasWriter x d s && !holdsRow z r x s && canTake kind x source pass z r pos s

/-! ## Spare bands that come free (R210, R212) -/

/-- The bands of a segment on member `x` and its frames, without the bands whose frames are all dead and without those frames (R212); the other
frames keep their places. -/
def freeDead (x : Nat) (s : State) : List Nat → List SegFrame → List Nat × List SegFrame
  | [], l => ([], l)
  | b :: t, l =>
    let here := l.take (bandCap x b s)
    let rest := freeDead x s t (l.drop (bandCap x b s))
    if !here.isEmpty && here.all (·.dead) then rest else (b :: rest.1, here ++ rest.2)

/-- Spare bands whose frames are all dead are freed (R212), and a new pass takes up the rows that were left for want of a place (R210). -/
def freeBands (s : State) : State :=
  let free (g : Segment) : Segment := { g with bands := (freeDead g.target s g.bands g.frames).1, frames := (freeDead g.target s g.bands g.frames).2 }
  let segs := (s.acd.segs.map free).filter fun g => g.frames.any fun f => !f.dead
  let t := updateSpare { s with acd := { s.acd with segs := segs } }
  if decide ((segs.flatMap (·.bands)).length < (s.acd.segs.flatMap (·.bands)).length) && s.on ACD_RBLD_SKIP 0 then addPasses 0 0 (t.set ACD_RBLD_SKIP 0 0)
  else t

/-! ## Relocating a frame (R208–R212) -/

/-- Change the frames of every segment. -/
def State.modSegs (s : State) (f : SegFrame → SegFrame) : State :=
  { s with acd := { s.acd with segs := s.acd.segs.map fun g => { g with frames := g.frames.map f } } }

/-- A relocation of the frame is under way. -/
def relocPending (z r pos : Nat) (s : State) : Bool :=
  s.acd.segs.any fun g => !isLost g.target s && g.frames.any fun f => f.holds z r pos && !f.placed

/-- Put a frame at the end of a segment, with a further free spare band when the segment is full (R209); without one it has no place. -/
def appendSeg (i z r pos : Nat) (s : State) : State :=
  match s.acd.segs[i]? with
  | none => s
  | some g =>
    let g := if segRoom g s then g else { g with bands := g.bands ++ (nextBand g.target s).toList }
    if segRoom g s then
      { s with acd := { s.acd with segs := s.acd.segs.set i { g with frames := g.frames ++ [⟨z, r, pos, false, false, false⟩] } } }
    else s

/-- Segment `i` still has a place for each of its frames after a grown skip in its last band: it takes a further band, and without one its
last frame has no place any more (R178, R209, R210). -/
def growSeg (i : Nat) (s : State) : State :=
  match s.acd.segs[i]? with
  | none => s
  | some g =>
    if g.frames.length ≤ segCap g s then s
    else match nextBand g.target s with
      | some b => updateSpare { s with acd := { s.acd with segs := s.acd.segs.set i { g with bands := g.bands ++ [b] } } }
      | none =>
        let t : State := { s with acd := { s.acd with segs := s.acd.segs.set i { g with frames := g.frames.take (segCap g s) } } }
        if g.kind = .rebuild then t.bump ACD_RBLD_SKIP 0 else t

/-- Add a frame to a segment of its target (R208, R209). An earlier relocation of it that has not been written is dropped. -/
def addToSeg (kind : SegKind) (target source pass z r pos : Nat) (s : State) : State :=
  let t := s.modSegs fun f => if f.holds z r pos && !f.placed then { f with dead := true } else f
  match findSeg kind target source pass z r pos t with
  | some i => freeBands (appendSeg i z r pos t)
  | none => freeBands (appendSeg t.acd.segs.length z r pos
      { t with acd := { t.acd with segs := t.acd.segs ++ [⟨kind, target, source, pass, [], []⟩] } })

/-- The place that a frame is to be written to: that of a relocation under way, else where it lies (R211). -/
def newPlace (z r pos : Nat) (s : State) : Nat × Nat × Nat :=
  (s.acd.segs.reverse.findSome? fun g => segPlace g true z r pos s).getD (placeOf z r pos s)

/-- The write of a relocated frame has passed verify (R211, R212, R250): the frame is at its new place, its earlier relocation dies, and it
no longer counts as unreadable. -/
def markPlaced (z r pos : Nat) (s : State) : State :=
  if !relocPending z r pos s then s
  else
    let single := s.acd.segs.any fun g => g.kind == .frame && g.frames.any fun f => f.holds z r pos && !f.placed
    let t := s.modSegs fun f => if f.holds z r pos then (if f.placed then { f with dead := true } else { f with placed := true }) else f
    let t := { t with acd := { t.acd with bad := t.acd.bad.filter (· ≠ (z, r, pos)) } }
    let p := placeOf z r pos t
    let t := { t with rows := t.rows.map fun x => if x.zone = z ∧ x.row = r then
        { x with frames := x.frames.map fun f => if f.pos = pos then { f with member := p.1, band := p.2.1, idx := p.2.2 } else f }
      else x }
    freeBands (if single then t.bump ACD_CNT_RELOC 0 else t)

/-- A reconstructed frame goes to a FRAME segment (R220), once; without a target it stays where it is. -/
def relocateFrame (z r pos : Nat) (s : State) : State :=
  if relocPending z r pos s then s
  else
    match relocTarget .frame z r pos none 0 0 s with
    | none => s
    | some x => addToSeg .frame x 0 0 z r pos s

/-! ## REDIRECT frames (R215, R216) -/

/-- The frame is recorded as redirected: a record of its member and zone stands from row r0 on. -/
def redirected (x z r : Nat) (s : State) : Bool := s.acd.redirect.any fun q => q.1 == x && q.2.1 == z && q.2.2 ≤ r

/-- A frame of a row to be written on side `d` goes to a REDIRECT segment where its member is degraded on that side or LOST, or where its
zone's frames of that member already do (R215); without a target it counts as a loss (R210). -/
def redirectFrame (z r d pos : Nat) (s : State) : State :=
  let x := entryMember (entryOf z r s) pos s
  let have0 := redirected x z r s
  if !(have0 || isLost x s || !sideServed x d s) then s
  else
    let t := if have0 then s else { s with acd := { s.acd with redirect := s.acd.redirect ++ [(x, z, r)] } }
    let y := newPlace z r pos t
    if y.1 ≠ x && !isLost y.1 t && sideServed y.1 d t then t
    else
      match relocTarget .redirect z r pos (some d) x 0 t with
      | some y => addToSeg .redirect y x 0 z r pos t
      | none => if t.acd.bad.contains (z, r, pos) then t else { t with acd := { t.acd with bad := t.acd.bad ++ [(z, r, pos)] } }

/-- The frames of a row that go to REDIRECT segments (R215): of those it holds, the ones at `todo`. -/
def redirectFrames (z r d : Nat) (todo : List Nat) (s : State) : State := forAll todo (redirectFrame z r d) s

/-! ## Rows that cannot be recovered (R233, R237) -/

/-- A row whose loss count exceeds m (R237): every block of its lost data frames is listed, fillers and new parity go to
FRAME segments, and source 213 fires. A row that lost only parity frames has them recomputed and relocated. -/
def unrecoverableRow (z r : Nat) (s : State) : State :=
  let lost := lostPositions z r s
  let data := lost.filter (· < s.k)
  let t := forAll data (fun d x => forBelow s.fb (fun c y => addUnrec z (s.fb * (r * s.k + d) + c) y) x) s
  let t := forAll data (fun d x => padFrom (imageAt z r d 0) 0 x) t
  let t := writeParities z r (blocksOf z r s) t
  let par := if data.isEmpty then lost else (List.range s.m).map (s.k + ·)
  let t := forAll (data ++ par) (fun pos x => relocateFrame z r pos x) t
  if data.isEmpty then t else pulse 213 0xFF t

end Sys2Proof.Machine
end

