-- ==== Sys2Proof/Machine/Format.lean ====
section
/-!
DEFINITION. The format sequencer (spec/03, R159–R189): media operations, reads and run-ahead, writing, frontier frames, issue to the
lanes. The results and the retry ladder follow in Ladder.
-/

namespace Sys2Proof.Machine

/-! ## Media operations in flight (R159) -/

/-- `FMT_INFL`: operations in flight, at most 16,384. -/
def showInfl (s : State) : State := s.set FMT_INFL 0 (Nat.min 16384 s.ops.length)

/-- A media operation enters; those beyond 16,384 wait (R159). -/
def addOp (o : MediaOp) (s : State) : State := showInfl { s with ops := s.ops ++ [o] }

/-- The operation is in flight, not waiting in its ring. -/
def opInFlight (mtag : Nat) (s : State) : Bool := (s.ops.take 16384).any fun o => o.mtag == mtag

/-- The operation of a tag. -/
def State.op (s : State) (mtag : Nat) : Option MediaOp := s.ops.find? fun o => o.mtag == mtag

/-- Change the operations of a tag. -/
def State.modOp (s : State) (mtag : Nat) (f : MediaOp → MediaOp) : State :=
  { s with ops := s.ops.map fun o => if o.mtag = mtag then f o else o }

/-- An operation of no command of a ring: the writes that FMT and the accord engine start themselves (R178, R182, R211). Its tag lies
outside the 24 bits of the others (log entry 12). -/
def ownTag : Nat := 16777216

/-- A new media operation. -/
def newOp (mtag : Nat) (kind : MediaKind) (z r off len side : Nat) (host : Bool) : MediaOp :=
  ⟨mtag, kind, z, r, off, len, side, host, [], [], [], none, []⟩

/-- A peer command reads for the operation (R606, R610). -/
def fetching (mtag : Nat) (s : State) : Bool := s.peers.any fun p => match p.kind with | .fetch g _ _ _ => g == mtag | _ => false

/-- The operation still has frames to read or write. -/
def opBusy (mtag : Nat) (s : State) : Bool :=
  (s.jobs.any fun j => j.mtag == mtag) || (s.ra.any fun r => r.claim == some mtag) || fetching mtag s

/-- The operation reads the frames of a row for the accord engine, which goes on with them when it ends (R219, R225). -/
def opGathers (o : MediaOp) (s : State) : Bool := o.pass.isSome || (driveRole s && o.kind == .reconRead)

/-- The operation leaves: its submitter is told, with the codewords it has lost (R160). -/
def closeOp (mtag : Nat) (s : State) : State :=
  match s.op mtag with
  | none => s
  | some o =>
    let t := { s with ops := s.ops.filter (fun x => x.mtag ≠ mtag), ended := s.ended ++ [(mtag, o.lost)] }
    showInfl (t.emit (.mediaDone mtag o.lost))

/-- An operation with no work left ends (R160); one that gathers a row ends when the command settles. -/
def endOp (mtag : Nat) (s : State) : State :=
  if opBusy mtag s || (s.op mtag).any (fun o => opGathers o s) then s else closeOp mtag s

/-- Decoder class of an operation (R159). -/
def classOf (k : MediaKind) (host : Bool) : Nat :=
  match k with
  | .hostRead => 0
  | .reconRead => if host then 0 else 1
  | _ => 1

/-- The last ladder step that an operation runs (R159). -/
def lastStep (k : MediaKind) : Nat :=
  match k with
  | .hostRead => 8
  | .raRead => 1
  | .reconRead | .rebuildRead => 4
  | _ => 3

/-! ## Peer commands (R601, R602) -/

/-- I/O queue pairs with each worker (R601). -/
def peerQueues (s : State) : Nat := Nat.max 1 (Nat.min 8 (s.get MGR_PEERCFG_NQ 0))

/-- A worker's queue has room for one more command (R602). -/
def peerRoom (slot qid : Nat) (s : State) : Bool := decide ((s.peers.countP fun p => p.slot == slot && p.qid == qid && p.sent) < 32)

/-- Issue a command to a worker, or let it wait for room in its queue (R602); a LOST worker gets none. -/
def peerSend (slot qid : Nat) (kind : PeerKind) (wz off len : Nat) (s : State) : State :=
  if isLost slot s then s
  else
    let p : PeerCmd := ⟨slot, qid, s.get MGR_CID 0, kind, wz, off, len, 0, peerRoom slot qid s⟩
    let t := { s with peers := s.peers ++ [p] }.bump MGR_CID 0
    if p.sent then t.emit (.peer p) else t

/-- The next command that waits for a worker's queue is issued, where there is room (R602). -/
def peerNext (slot qid : Nat) (s : State) : State :=
  match s.peers.find? fun p => p.slot == slot && p.qid == qid && !p.sent with
  | none => s
  | some p =>
    if peerRoom slot qid s then
      let q := { p with sent := true }
      { s with peers := s.peers.map fun x => if x = p then q else x }.emit (.peer q)
    else s

/-- A worker's queue for one of its zones (R602). -/
def zoneQueue (y : Nat) (s : State) : Nat := y % peerQueues s + 1

/-- A command to a reserved zone of a worker (R604, R609, R611). -/
def reservedSend (slot y : Nat) (kind : PeerKind) (off len : Nat) (s : State) : State := peerSend slot (zoneQueue y s) kind y off len s

/-- A command to the worker zone of a unit: blocks `[b, b + n)` of it (R602). -/
def unitCmd (p : Nat × Nat × Nat) (kind : PeerKind) (b n : Nat) (s : State) : State :=
  peerSend p.1 (p.2.1 % peerQueues s + 1) kind p.2.1 (p.2.2 * s.fb + b) n s

/-! ## Frame jobs -/

/-- A new frame job. -/
def newJob (mtag : Nat) (kind : MediaKind) (head : Nat) (write : Bool) (cls track slot gen mask z r pos : Nat) : FrameJob :=
  { mtag := mtag, kind := kind, head := head, write := write, verify := false, cls := cls, track := track, slot := slot
    offtrk := 0, gen := gen, mask := mask, zone := z, row := r, pos := pos, st := .wait, reissue := 0, redo := 0, due := 0
    retry := 0, step := 1, rereads := 0, saved := [], runs := 0, late := false, away := false, helper := false, reloc := false
    stale := false, loaded := false }

/-- The side that reads or writes a zone: the one that serves its stream, else side 0 (R213, R228). -/
def sideFor (z : Nat) (s : State) : Nat := if (NMap.get (0, 0) s.acd.turn 1).1 = z ∧ (s.acd.turn.find 1).isSome then 1 else 0

/-! ## Reads (R159, R160, R170, R181, R219, R234) -/

/-- The parity frames of a zone's last row match the row's data (R239). -/
def parityStable (z r : Nat) (s : State) : Bool :=
  match s.fronts.find z with
  | some f => f.row != r || f.stable
  | none => !s.rows.any fun x => x.zone == z && x.row == r && x.frames.any fun f => decide (s.k ≤ f.pos) && !f.written

/-- The frame at a position of a row may be read: nothing at or beyond the committed write pointer (R181), and the parity of an incomplete
row only while it matches the row's data (R247); that of a shelf is in the parity log (R609). -/
def readable (z r pos : Nat) (s : State) : Bool :=
  let wp := (s.zone z).wp
  if pos < s.k then decide (s.fb * (r * s.k + pos) < wp)
  else decide (s.fb * s.k * (r + 1) ≤ wp) || (driveRole s && decide (s.fb * s.k * r < wp) && parityStable z r s)

/-- The head that reads or writes the frame at a position of a row on side `d`. -/
def placeHead (z r pos d : Nat) (s : State) : Nat := headOf (placeOf z r pos s).1 d

/-- A read of the frame at a position of a row on side `d` (R154, R185, R211). Where it is unavailable a host read awaits its reconstruction
(R219), and another operation has none. -/
def readJob (mtag : Nat) (kind : MediaKind) (host : Bool) (z r pos mask d : Nat) (s : State) : Option FrameJob :=
  let p := placeOf z r pos s
  let q := slotOf p.1 p.2.1 p.2.2 s
  let at0 := q.getD (0, 0, 0)
  let j := newJob mtag kind (headOf p.1 d) false (classOf kind host) at0.1 at0.2.1 ((s.zone z).gen % 512) mask z r pos
  if q.isSome && frameAvailable z r pos d s && readable z r pos s then some j
  else if kind == .hostRead then some { j with st := .recon, step := 5, runs := 1, away := true }
  else none

/-- Codewords as an operation reports them lost (R160). -/
def lostCws (r pos mask : Nat) : List (Nat × Nat × Nat) := (maskCws mask).map fun c => (r, pos, c)

/-- The codewords of a frame that a read takes from media: not those of a frontier image (R170), nor those at or beyond the write pointer
(R181). -/
def mediaMask (z r pos m : Nat) (s : State) : Nat :=
  if s.k ≤ pos then m
  else
    let imaged (c : Nat) : Bool := match s.fronts.find z with
      | some fr => (fr.row == r && fr.pos == pos && decide (c < fr.blocks)) || fr.filled.contains (r, pos)
      | none => false
    ((maskCws m).filter fun c => !imaged c && decide (8 * (r * s.k + pos) + c < (s.zone z).wp)).foldl (fun a c => a + 2 ^ c) 0

/-- Add a read of one frame: what lies in a frontier image is obtained at once (R170), and what an operation cannot read is lost to its
submitter (R160). In the manager role a unit is read from its worker (R610). -/
def addRead (mtag : Nat) (kind : MediaKind) (host : Bool) (z r pos mask d : Nat) (s : State) : State :=
  let m := mediaMask z r pos mask s
  if !driveRole s then unitCmd (placeOf z r pos s) (.fetch mtag z r pos) 0 s.fb s
  else if m = 0 then (if (heldPositions z r s).contains pos then s.modOp mtag fun o => { o with got := (r, pos) :: o.got } else s)
  else
    match readJob mtag kind host z r pos m d s with
    | some j => { s with jobs := s.jobs ++ [j] }
    | none => s.modOp mtag fun o => { o with lost := o.lost ++ lostCws r pos m }

/-- Blocks of frame `f` that lie in `[off, off + len)`, as a codeword mask. -/
def maskFor (f off len : Nat) : Nat :=
  ((List.range 8).map fun c => if off ≤ 8 * f + c ∧ 8 * f + c < off + len then 2 ^ c else 0).sum

/-- A mask without the blocks that are listed as unrecovered, for which there is no media read (R234). -/
def unlisted (z f m : Nat) (s : State) : Nat :=
  ((maskCws m).filter fun c => !isUnrec z (8 * f + c) s).foldl (fun a c => a + 2 ^ c) 0

/-- One frame of a host read (R170, R173, R234). -/
def readFrame (mtag z f off len : Nat) (s : State) : State :=
  let k := Nat.max 1 s.k
  let m := unlisted z f (maskFor f off len) s
  if m = 0 then s
  else
    match s.ra.find? fun a => a.zone == z && a.frame == f && a.claim.isNone && !a.failed with
    | some a =>
      let t := s.bump FMT_CNT_RA_CLAIMED 0
      if a.ready then { t with ra := t.ra.filter fun x => x ≠ a }.modOp mtag fun o => { o with got := (f / k, f % k) :: o.got }
      else { t with ra := t.ra.map fun x => if x = a then { x with claim := some mtag } else x }
    | none =>
      let s := { s with ra := s.ra.filter fun a => !(a.zone == z && a.frame == f && a.failed && a.claim.isNone) }
      addRead mtag .hostRead true z (f / k) (f % k) m (sideFor z s) s

/-- HOST_READ (R166, R170, R171, R173, R185, R219, R234). -/
def hostRead (z off len mtag : Nat) (s : State) : State :=
  if len = 0 then endOp mtag (addOp (newOp mtag .hostRead z 0 off len 0 true) s)
  else
    let f0 := off / 8
    let n := (off + len - 1) / 8 + 1 - f0
    let t := addOp (newOp mtag .hostRead z (f0 / Nat.max 1 s.k) off len (sideFor z s) true) s
    let t := forBelow n (fun i u => readFrame mtag z (f0 + i) off len u) t
    endOp mtag { t with raRow := t.raRow.put z (f0 + n) }

/-! ## Run-ahead (R171–R174) -/

/-- Frames that the run-ahead area holds. -/
def raCapacity (s : State) : Nat := s.get FMT_RA_AREA 0 * 1048576 / 32896

/-- Cancel or remove the frame jobs of a run-ahead frame (R174). -/
def cancelRa (a : RaFrame) (s : State) : State :=
  let k := Nat.max 1 s.k
  let mine (j : FrameJob) : Bool := j.kind == .raRead && j.zone == a.zone && j.row * k + j.pos == a.frame && j.mtag == a.mtag
  let t : State := forAll (s.jobs.filter fun j => mine j && j.st == .issued) (fun j u => frameOpCancel j.head j.mtag u) s
  { t with jobs := t.jobs.filter fun j => !mine j, ra := t.ra.filter fun x => x ≠ a }

/-- Drop one unclaimed run-ahead frame. -/
def dropOne (a : RaFrame) (s : State) : State := endOp a.mtag ((cancelRa a s).bump FMT_CNT_RA_DROPPED 0)

/-- Drop the unclaimed run-ahead frames that `p` names (R174). -/
def dropRa (p : Nat → Bool) (s : State) : State :=
  forAll (s.ra.filter fun a => a.claim.isNone && p a.zone) dropOne s

/-- RA_DROP (R174). -/
def raDrop (s : State) : State := dropRa (fun _ => true) s

/-- Read ahead one data frame (R171, R173, R234). -/
def raFrame (mtag z f : Nat) (s : State) : State :=
  let m := unlisted z f 0xFF s
  if m = 0 || decide ((s.zone z).wp < 8 * f + 8) || (s.ra.any fun a => a.zone == z && a.frame == f) then s
  else
    match readJob mtag .raRead false z (f / Nat.max 1 s.k) (f % Nat.max 1 s.k) m (sideFor z s) s with
    | none => s
    | some j =>
      let t := match s.ra.find? fun a => a.claim.isNone with
        | some a => if raCapacity s ≤ s.ra.length then dropOne a s else s
        | none => s
      if raCapacity s ≤ t.ra.length then t
      else { t with ra := t.ra ++ [⟨z, f, mtag, false, false, none⟩], jobs := t.jobs ++ [j] }

/-- RA_READ (R171): the data frames of a row that follow the last frame a host read has named, up to ROWS rows past it. -/
def raRead (z r mtag : Nat) (s : State) : State :=
  match s.raRow.find z with
  | none => s
  | some f0 =>
    let l := (List.range s.k).map fun d => r * s.k + d
    let l := l.filter fun f => decide (f0 ≤ f) && decide (f < f0 + s.get FMT_RA_ROWS 0 * s.k)
    if !s.on FMT_RA_EN 0 || l.isEmpty then s
    else endOp mtag (forAll l (fun f t => raFrame mtag z f t) (addOp (newOp mtag .raRead z r 0 0 (sideFor z s) false) s))

/-! ## Reads for the accord engine and firmware (R159, R160, R219, R225) -/

/-- The survivors of a row in rank order: the frames that are not lost, by member number (R225; log entry 12). -/
def survivors (z r : Nat) (s : State) : List Nat :=
  let l := (heldPositions z r s).filter fun p => !frameLost z r p s
  (List.range 64).flatMap fun x => l.filter fun p => (placeOf z r p s).1 == x

/-- Frames of a row that a reconstruction needs: k, without those that the row does not hold and that are known to be zero (R195). -/
def framesNeeded (z r : Nat) (s : State) : Nat := s.k - (List.range s.k).countP fun d => notHeld z r d s

/-- The order in which a rebuild takes the survivors of a row: those at positions (r + t) mod n of the n survivors, for the t beyond the
need, come last (R225). -/
def rebuildOrder (z r : Nat) (s : State) : List Nat :=
  let l := survivors z r s
  let n := Nat.max 1 l.length
  let skip := (List.range (l.length - framesNeeded z r s)).map fun t => (r + t) % n
  let ranked := (List.range l.length).zip l
  ((ranked.filter fun p => !skip.contains p.1) ++ ranked.filter fun p => skip.contains p.1).map (·.2)

/-- The order in which an operation takes the frames of its row: R225 of a rebuild; else parity frame 0, the other parity frames, then the
data frames (R219). -/
def sourceOrder (o : MediaOp) (s : State) : List Nat :=
  if o.pass.isSome then rebuildOrder o.zone o.row s else (List.range s.m).map (s.k + ·) ++ List.range s.k

/-- The next frame that an operation takes for its row (R219, R225). -/
def nextSource (o : MediaOp) (s : State) : Option Nat :=
  (sourceOrder o s).find? fun p => !o.used.contains p && frameAvailable o.zone o.row p o.side s && readable o.zone o.row p s
    && (heldPositions o.zone o.row s).contains p

/-- Take up to `n` further frames for the operation of a tag. -/
def takeSources (mtag : Nat) : Nat → State → State
  | 0, s => s
  | n + 1, s =>
    match s.op mtag with
    | none => s
    | some o =>
      match nextSource o s with
      | none => s
      | some p => takeSources mtag n
          (addRead mtag o.kind o.host o.zone o.row p 0xFF o.side (s.modOp mtag fun x => { x with used := p :: x.used }))

/-- The positions of a row that the operation of a tag has obtained. -/
def MediaOp.positions (o : MediaOp) (z r : Nat) : List Nat :=
  if o.zone = z then o.got.filterMap fun g => if g.1 = r then some g.2 else none else []

/-- The frames of a row that the reads awaiting a position of it have fetched already (R219). -/
def fetched (z r pos : Nat) (s : State) : List Nat :=
  let tags := (s.jobs.filter fun j => j.st == .recon && j.zone == z && j.row == r && j.pos == pos).map (·.mtag)
  ((s.ops.filter fun o => tags.contains o.mtag).flatMap fun o => (o.positions z r).filter (· ≠ pos)).eraseDups

/-- RECON_READ (R159, R219): the frames that the reconstruction of position `pos` needs beyond those already fetched. -/
def reconRead (z r pos : Nat) (host : Bool) (mtag : Nat) (s : State) : State :=
  let have0 := fetched z r pos s
  let o := { newOp mtag .reconRead z r pos 0 (sideFor z s) host with used := pos :: have0, got := have0.map fun p => (r, p) }
  takeSources mtag (framesNeeded z r s - have0.length) (addOp o s)

/-- REBUILD_READ (R159, R225): one frame of a row. -/
def rebuildRead (z r pos mtag : Nat) (s : State) : State :=
  let d := sideFor z s
  endOp mtag (addRead mtag .rebuildRead false z r pos 0xFF d (addOp (newOp mtag .rebuildRead z r pos 0 d false) s))

/-- Frames of a row that can be read through side `d`. -/
def sideFrames (z r d : Nat) (s : State) : Nat :=
  (heldPositions z r s).countP fun pos => frameAvailable z r pos d s && readable z r pos s

/-- The row can be reconstructed from the frames that side `d` reads. -/
def sideSuffices (z r d : Nat) (s : State) : Bool := decide (framesNeeded z r s ≤ sideFrames z r d s)

/-- Take the data frames of a row that can be read through the operation's side (R237). -/
def takeData (o : MediaOp) (s : State) : State :=
  let l := (heldPositions o.zone o.row s).filter fun p => decide (p < s.k) && frameAvailable o.zone o.row p o.side s && readable o.zone o.row p s
  forAll l (fun p t => addRead o.mtag o.kind o.host o.zone o.row p 0xFF o.side t) (s.modOp o.mtag fun x => { x with used := l })

/-- The reads of a row for pass `n`, 0 for none (R225, R237): the frames that its reconstruction needs, or, of a row whose losses exceed m, the
data frames that can be read. -/
def gatherRow (z r n mtag d : Nat) (s : State) : State :=
  let o := { newOp mtag .rebuildRead z r 0 0 d false with pass := some n }
  if s.m < lossCount z r s then takeData o (addOp o s) else takeSources mtag (framesNeeded z r s) (addOp o s)

/-- A tag above those of every operation, for one that the accord engine starts by itself (log entry 12). -/
def ownReadTag (s : State) : Nat := (s.ops.map (·.mtag)).foldl Nat.max ownTag + 1

/-- A row with a frame found unreadable is read, through a side that suffices, to be written as reconstructed, or as R237 has it (R220). -/
def repairRow (z r : Nat) (s : State) : State :=
  let d := sideFor z s
  if s.ops.any fun o => o.pass.isSome && o.zone == z && o.row == r then s
  else gatherRow z r 0 (ownReadTag s) (if !sideSuffices z r d s && sideSuffices z r (1 - d) s then 1 - d else d) s

/-- PATROL (R159, R160). -/
def patrolRead (z r pos mtag : Nat) (s : State) : State :=
  let d := sideFor z s
  endOp mtag (addRead mtag .patrol false z r pos 0xFF d (addOp (newOp mtag .patrol z r pos 0 d false) s))

/-- The head that serves a surface: its side-0 head, else its side-1 head. -/
def serviceHead (x : Nat) (s : State) : Nat := if headOut (headOf x 0) s then headOf x 1 else headOf x 0

/-- A system-area frame has no zone: its image is told apart by a zone number above every zone's. -/
def sysZone (x : Nat) : Nat := 1048576 + x

/-- A slot of the system area of surface `x` (R139): every frame in it may be rewritten at any time, which holds of no frame of a band or of
a guard track (R140). -/
def sysSlot (x track slot : Nat) (s : State) : Bool :=
  (s.desc x).any fun d => decide (track < d.sysEnd) && (dataTrack d track).any fun p => decide (slot < p.2.2.f)

/-- SYS_READ, SYS_WRITE and CAL (R139, R140, R151, R159): a frame of the system area, generation 0. A write to any other slot is not made, and
its frame is reported lost: the spec names no other answer (log entry 12). -/
def sysOp (kind : MediaKind) (head track slot : Nat) (write : Bool) (mtag : Nat) (s : State) : State :=
  let x := surfaceOf head
  let t := addOp (newOp mtag kind (sysZone x) track slot 0 (sideOf head) false) s
  if write && !sysSlot x track slot s then endOp mtag (t.modOp mtag fun o => { o with lost := o.lost ++ lostCws track slot 1 })
  else { t with jobs := t.jobs ++ [newJob mtag kind head write 1 track slot 0 0xFF (sysZone x) track slot] }

/-! ## Writing rows (R175–R180, R184, R218) -/

/-- Change the frames of rows. -/
def State.modFrames (s : State) (p : RowRec → RowFrame → Bool) (f : RowFrame → RowFrame) : State :=
  { s with rows := s.rows.map fun r => { r with frames := r.frames.map fun x => if p r x then f x else x } }

/-- The frame is on media and, with verify on, has passed verify (R180). -/
def RowFrame.done (f : RowFrame) (verify : Bool) : Bool := f.written && (!verify || f.verified)

/-- The data frames of a row are all on media as its images have them (R184). -/
def dataDone (k : Nat) (verify : Bool) (r : RowRec) : Bool := r.frames.all fun f => decide (k ≤ f.pos) || f.done verify

/-- A row holds a frontier frame, or one that was it and is not on media whole (R183, R184). -/
def holdsFrontier (z r : Nat) (s : State) : Bool :=
  (s.fronts.find z).any fun f => (f.row == r && f.blocks != 0) || f.filled.any fun p => p.1 == r

/-- A journal record that a row waits for has not been written (R179). -/
def skipWaits (r : RowRec) (s : State) : Bool := r.skipSeq.any fun n => decide (s.get ACD_JRNL_SEQ 0 < n)

/-- The parity of a row that has held a frontier frame waits for its data frames, and for the journal while a skip that a rewrite has entered
has not reached it (R184). -/
def parityWaits (r : RowRec) (s : State) : Bool :=
  (decide (r.blocks < 8 * s.k) || r.front) && (!dataDone s.k (s.on FMT_WR_VERIFY 0) r || (r.front && skipWaits r s))

/-- The tag of the operation that writes a row. -/
def rowTag (r : RowRec) (s : State) : Nat :=
  ((s.ops.find? fun o => o.kind == .writeRow && o.zone == r.zone && o.row == r.row).map (·.mtag)).getD ownTag

/-- A write or verify of the frame is on its way. -/
def frameBusy (z r pos : Nat) (s : State) : Bool :=
  s.jobs.any fun j => (j.write || j.verify) && j.zone == z && j.row == r && j.pos == pos

/-- A write, or verify, of the frame at a position of a row, with the head that is given. -/
def writeJob (mtag h z r pos track slot : Nat) (verify : Bool) (s : State) : FrameJob :=
  { newJob mtag .writeRow h (!verify) 1 track slot ((s.zone z).gen % 512) 0xFF z r pos with verify := verify }

/-- The write or verify that a frame of a submitted row needs next and has no job for (R175, R176, R184); the head that wrote a frame
verifies it. -/
def frameJob (r : RowRec) (f : RowFrame) (s : State) : Option FrameJob :=
  if frameBusy r.zone r.row f.pos s || (decide (s.k ≤ f.pos) && parityWaits r s) || f.done (s.on FMT_WR_VERIFY 0) then none
  else
    (slotOf f.member f.band f.idx s).map fun q =>
      writeJob (rowTag r s) (if f.written then f.head else headOf f.member (sideFor r.zone s)) r.zone r.row f.pos q.1 q.2.1 f.written s

/-- FMT clears DEFER for every skip of a band when it next writes that band's member frame index 0 (R155). -/
def clearDefer (x b : Nat) (s : State) : State :=
  match s.desc x with
  | none => s
  | some d =>
    match zoneOfBand d b with
    | none => s
    | some (_, z) =>
      let lo := bandTrack z b 0
      { s with skips := s.skips.map fun e =>
          if e.surface = x ∧ lo ≤ e.track ∧ e.track < lo + z.bandPitch then { e with defer := false } else e }

/-- The member frame indices 0 of a row that are to be written next (R155). -/
def clearFirst (r : RowRec) (s : State) : State :=
  forAll (r.frames.filter fun f => f.idx == 0 && !f.written && !frameBusy r.zone r.row f.pos s) (fun f u => clearDefer f.member f.band u) s

/-- Give FMT's rows the jobs that they need. -/
def fillJobs (s : State) : State :=
  let l := s.rows.filter (·.submitted)
  forAll l (fun r t => { t with jobs := t.jobs ++ r.frames.filterMap fun f => frameJob r f t }) (forAll l clearFirst s)

/-- A band has no place for a frame of a row (R154). -/
def rowOverflows (r : RowRec) (s : State) : Bool := r.frames.any fun f => (slotOf f.member f.band f.idx s).isNone

/-- Rows of a zone from row `r` on leave FMT, with their writes and operations. -/
def dropRows (z r : Nat) (s : State) : State :=
  let tags := (s.ops.filter fun o => o.kind == .writeRow && o.zone == z && r ≤ o.row).map (·.mtag)
  forAll tags endOp { s with
    rows := s.rows.filter fun x => !(x.zone == z && r ≤ x.row)
    jobs := s.jobs.filter fun j => !((j.write || j.verify) && !j.reloc && j.zone == z && r ≤ j.row) }

/-- The controller finishes a zone whose band is full (R157): a zone event of the journal (R239), and a checkpoint is due (R243). -/
def finishByController (z r : Nat) (s : State) : State :=
  let zr := s.zone z
  let t := s.setZone z { zr with state := 4, finished := true, accept := zr.wp }
  pulse 199 0xFF (dropRows z r ({ t with acd := { t.acd with events := t.acd.events ++ [(z, 4)] } }.set ACD_KDUE 0 1))

/-- FMT takes a row with its record as given: it becomes ready to be written, or its zone is full (R154, R155, R157). -/
def takeRow (m : RowRec) (s : State) : State :=
  let t := clearFirst m s
  if rowOverflows m t then finishByController m.zone m.row t
  else fillJobs { t with rows := t.rows.map fun x => if x.zone = m.zone ∧ x.row = m.row then { x with submitted := true } else x }

/-- WRITE_ROW (R154, R155, R157, R159, R175): FMT takes a row that the accord engine has submitted; of a zone that it has finished it takes
none. -/
def writeRow (z r mtag : Nat) (s : State) : State :=
  match s.rows.find? fun x => x.zone == z && x.row == r with
  | none => s
  | some m =>
    if (s.zone z).finished || (m.submitted && s.ops.any fun o => o.kind == .writeRow && o.zone == z && o.row == r) then s
    else endOp mtag (takeRow m (addOp (newOp mtag .writeRow z r 0 0 (sideFor z s) false) s))

/-- The row frame that a job writes or verifies. -/
def frameOfJob (j : FrameJob) (s : State) : Option RowFrame :=
  s.rows.findSome? fun r => if r.zone == j.zone && r.row == j.row then r.frames.find? fun f => f.pos == j.pos else none

/-- A write to data track `i` + 1 may run: every frame of track `i` that it overlaps is written, full and, with verify on,
verified (R175). -/
def shingleOk (j : FrameJob) (s : State) : Bool :=
  match s.desc (surfaceOf j.head), frameOfJob j s with
  | some d, some f =>
    match slotOf f.member f.band f.idx s with
    | none => false
    | some q =>
      let sectors := ((zoneOfBand d f.band).map fun p => p.2.f).getD 1
      s.rows.all fun r => r.frames.all fun g =>
        g.member ≠ f.member || g.band ≠ f.band ||
          (match slotOf g.member g.band g.idx s with
           | none => true
           | some p => p.2.2 + 1 ≠ q.2.2 || !slotsOverlap d sectors p.2.2 p.2.1 q.2.2 q.2.1
               || (g.full && g.done (s.on FMT_WR_VERIFY 0)))
  | _, _ => true

/-! ## Issue (R162–R164, R172, R189) -/

/-- The job's target as a `SRV_TGTh` value (R162). -/
def targetWord (j : FrameJob) : Nat :=
  j.track + 2 ^ 28 + (if j.write then 2 ^ 29 else 0) + (if 3 ≤ j.step && !j.write && !j.verify then 2 ^ 30 else 0)

/-- The servo has the job's target. -/
def targetSet (j : FrameJob) (s : State) : Bool :=
  s.is SRV_TGT_TRACK j.head j.track && s.is SRV_POFS j.head j.offtrk && s.on SRV_TGT_ENGAGE j.head
    && s.get SRV_TGT_WRMODE j.head == j.write.toNat && !s.on SRV_HSTS_REFUSED j.head

/-- The servo reports the head settled for the job on its target (R162, R276). -/
def targetSettled (j : FrameJob) (s : State) : Bool :=
  !s.on SRV_TPEND j.head && (if j.write then s.on SRV_HSTS_SETTLED_WR j.head else s.on SRV_HSTS_SETTLED_RD j.head)

/-- The index of the lane load of the job's zone (R161, R164). -/
def loadIndex (j : FrameJob) (s : State) : Nat :=
  (((s.desc (surfaceOf j.head)).bind fun d => dataTrack d j.track).map fun p => p.2.1 + 1).getD 0

/-- The index of the lane load that the job's zone and head need (R164): 0 when the lane has that zone's parameters. -/
def loadFor (j : FrameJob) (s : State) : Nat := if s.is FMT_LZONE j.head (loadIndex j s) then 0 else loadIndex j s

/-- The windows of a slot, at most four (R153). -/
def slotWindows (x track slot : Nat) (s : State) : List DefWin :=
  ((s.wins.filter fun e => e.surface == x && e.track == track && e.slot == slot).map (·.win)).take 4

/-- Where a job's data lie: the image of the frame, of a verify read a buffer of its own (log entry 12). -/
def jobData (j : FrameJob) (s : State) : Nat :=
  if j.write then writeImage j.zone j.row j.pos s
  else Config.frameImage (if j.verify then j.zone + 6291456 else j.zone) j.row j.pos

/-- The frame operation of a job (R161). -/
def opOf (j : FrameJob) (s : State) : FrameOp :=
  { write := j.write, cls := Fin.ofNat 2 j.cls, cwmask := BitVec.ofNat 8 j.mask, gen := BitVec.ofNat 9 j.gen
    track := BitVec.ofNat 21 j.track, slot := BitVec.ofNat 8 j.slot, defs := slotWindows (surfaceOf j.head) j.track j.slot s
    dataAddr := BitVec.ofNat 40 (jobData j s), rcvAddr := BitVec.ofNat 40 (Config.frameImage (j.zone + 2097152) j.row j.pos)
    offtrk := BitVec.ofNat 16 j.offtrk, load := BitVec.ofNat 16 (loadFor j s), mtag := BitVec.ofNat 24 j.mtag }

/-- Host commands are waiting (R230). -/
def hostWaiting (s : State) : Bool := (s.cmds.any fun c => c.sqid != 0) || s.ops.any (·.host)

/-- A rebuild read keeps within `ACD_RBLD.SHARE` percent of the frame slots of side `d` while host commands wait (R230). DESIGN CHOICE: the
share is that of the slots passed since host commands began to wait (log entry 24). -/
def withinShare (d : Nat) (s : State) : Bool :=
  !hostWaiting s || decide ((s.get ACD_SHR d + 1) * 100 ≤ s.get ACD_RBLD_SHARE 0 * (s.get ACD_SHN d + 1))

/-- A frame slot of side `d` passes, with a rebuild read or without (R230). -/
def countSlot (d : Nat) (rebuild : Bool) (s : State) : State :=
  if !hostWaiting s then s.setMany d [(ACD_SHN, 0), (ACD_SHR, 0)]
  else (s.bump ACD_SHN d).add ACD_SHR d rebuild.toNat

/-- The jobs that a head's lane may be given: of operations in flight, writes in shingle order, rebuild reads within their share (R159, R175,
R230). -/
def readyJobs (h : Nat) (s : State) : List FrameJob :=
  s.jobs.filter fun j => j.head == h && j.st == .wait && (j.mtag == ownTag || opInFlight j.mtag s) && (!j.write || shingleOk j s)
    && (j.kind != .rebuildRead || withinShare (sideOf h) s)

/-- The job that a head's lane is given next: class 0 before the others, run-ahead last (R172). -/
def nextJob (h : Nat) (s : State) : Option FrameJob :=
  let l := readyJobs h s
  match l.find? fun j => j.cls == 0 with
  | some j => some j
  | none => match l.find? fun j => j.kind != .raRead with
    | some j => some j
    | none => l.head?

/-- Queued run-ahead operations that would delay a class-0 operation on a different track of the head are cancelled (R172). -/
def yieldRa (j : FrameJob) (s : State) : State :=
  if j.cls ≠ 0 then s
  else
    let l := s.jobs.filter fun x => x.head == j.head && x.kind == .raRead && x.st == .issued && x.track != j.track
    forAll l (fun x t =>
      match t.ra.find? fun a => a.mtag == x.mtag && a.zone == x.zone && a.frame == x.row * t.k + x.pos with
      | some a => if a.claim.isNone then dropOne a t else t
      | none => t) s

/-- Ticks from now to the slot of a job (R145). -/
def slotAhead (j : FrameJob) (s : State) : Option Nat :=
  (slotTick j.head j.track j.slot s).map fun a => (a + revTicks - s.tick) % revTicks

/-- The stamp of the slot that a job can be issued for, `n` ticks before the slot comes next: that slot, or the one a revolution later
when FMT_LEAD is not left (R162, R163). DESIGN CHOICE: a value of `FMT_LEAD` below 0x0400, for which R187 gives the range and no effect, is
stored and used as it is written (log entry 10). -/
def slotStamp (n : Nat) (s : State) : Nat := s.stamp + n + if n < s.get FMT_LEAD 0 then revTicks else 0

/-- The job is planned for a slot: each revolution that it slips is counted once (R163). -/
def planSlot (j : FrameJob) (n : Nat) (s : State) : State :=
  let at0 := slotStamp n s
  let was := if j.due = 0 then s.stamp + n else j.due
  { s with jobs := s.jobs.map fun x => if x = j then { x with due := at0 } else x }.add FMT_CNT_SLIP 0 ((at0 - was) / revTicks)

/-- The job goes to its lane with its frame operation, and with the lane load where one is attached (R161, R164). -/
def issueJob (j : FrameJob) (s : State) : State :=
  let t := countSlot (sideOf j.head) (j.kind == .rebuildRead) (yieldRa j s)
  let op := opOf j t
  let n := loadFor j t
  let t := if n = 0 then t else t.set FMT_LZONE j.head n
  acceptWord j.head op.word { t with jobs := t.jobs.map fun x => if x = j then { x with st := .issued, loaded := n != 0 } else x }

/-- FRAME_OP_ISSUE (R162–R164, R172, R175, R189): the head's target is set before the first operation on it; the operation is
issued while the head is settled and the slot is at least FMT_LEAD ticks away, and slips a revolution otherwise. -/
def frameOpIssue (h : Nat) (s : State) : State :=
  if !s.on FMT_CTL_RUN 0 then s
  else
    match nextJob h s with
    | none => if s.jobs.any fun j => j.head == h && j.st == .wait then countSlot (sideOf h) false s else s
    | some j =>
      if !targetSet j s then targetWrite h (targetWord j) (s.set SRV_TOFS_OFFTRK h j.offtrk)
      else
        match slotAhead j s with
        | none => s
        | some n =>
          if n < s.get FMT_LEAD 0 then planSlot j n s
          else if !targetSettled j s then planSlot j n s
          else issueJob { j with due := slotStamp n s } (planSlot j n s)

/-! ## Grown skips (R152, R155, R177–R179) -/

/-- A skip comes after another of its surface in the list's order (R152). -/
def skipAfter (a b : Skip) : Bool :=
  a.surface == b.surface && (decide (b.track < a.track) || (a.track == b.track && decide (b.slot < a.slot)))

/-- A skip list with an entry at its place (R152). -/
def insertSkip (e : Skip) (l : List Skip) : List Skip := l.takeWhile (fun x => !skipAfter x e) ++ e :: l.dropWhile fun x => !skipAfter x e

/-- Enter a grown skip (R152, R155). -/
def enterSkip (x track slot : Nat) (defer : Bool) (s : State) : State :=
  let e : Skip := ⟨x, track, slot, true, defer⟩
  ({ s with skips := insertSkip e s.skips, acd := { s.acd with skips := s.acd.skips ++ [e] } }).bump FMT_CNT_GROWN 0

/-- The relocated frames of a band from an index on are to be written anew (R178). -/
def unplace (x b i : Nat) (s : State) : State :=
  { s with acd := { s.acd with segs := s.acd.segs.map fun g => { g with
      frames := ((List.range g.frames.length).zip g.frames).map fun p =>
        match segIndex g p.1 s with
        | some q => if q.1 = x ∧ q.2.1 = b ∧ i ≤ q.2.2 then { p.2 with placed := false } else p.2
        | none => p.2 } } }

/-- A verify failure at index `i` of band `b` (R178, R179): the skip takes effect at once, the failed frame and the written frames of the
band with a higher index are rewritten at their new slots, and their rows wait for a journal record. DESIGN CHOICE: a write or verify of a
moved frame that the lane already holds runs at the old slot, and its result counts for nothing; the spec does not say what becomes of it
(log entry 12). -/
def grownSkip (x b i track slot : Nat) (s : State) : State :=
  let t := enterSkip x track slot false (unplace x b i s)
  let t := forBelow t.acd.segs.length growSeg t
  let hit (g : RowFrame) : Bool := g.member == x && g.band == b && decide (i ≤ g.idx)
  let seq := t.get ACD_JSEQ 0 + 1
  let rows := t.rows.map fun r =>
    if r.frames.any hit then
      { r with skipSeq := some seq, frames := r.frames.map fun g => if hit g then { g with written := false, verified := false } else g }
    else r
  let moved (j : FrameJob) : Bool := (j.write || j.verify) && t.rows.any fun r =>
    r.zone == j.zone && r.row == j.row && r.frames.any fun g => hit g && g.pos == j.pos
  let t := { t with rows := rows, jobs := t.jobs.filter fun j => !moved j }.set ACD_JREQ 0 1
  let spill := t.rows.filter fun r => r.submitted && rowOverflows r t
  fillJobs (forAll spill (fun r u => finishByController r.zone r.row u) t)

/-! ## Commit and frontier (R179, R180, R182–R184, R217) -/

/-- The first uncommitted row of a zone is ready to commit (R179, R180). -/
def rowReady (z : Nat) (s : State) : Option RowRec :=
  match s.rows.filter fun r => r.zone == z with
  | [] => none
  | r :: _ => if r.submitted && (r.frames.all fun f => f.done (s.on FMT_WR_VERIFY 0)) && !skipWaits r s then some r else none

/-- ROW_COMMIT (R179, R180, R183): the write pointer advances; a row that is not complete stays as the frontier row. -/
def rowCommit (z : Nat) (s : State) : State :=
  match rowReady z s with
  | none => s
  | some r =>
    let zr := s.zone z
    let t := s.setZone z { zr with wp := Nat.max zr.wp (8 * s.k * r.row + r.blocks) }
    let t := if 8 * s.k ≤ r.blocks then { t with rows := t.rows.erase r }
      else match t.fronts.find z with
        | some fr => { t with fronts := t.fronts.put z { fr with stable := true } }
        | none => t
    let t := match t.acd.turn.find (sideFor z t) with
      | some (zz, n) => if zz = z then { t with acd := { t.acd with turn := t.acd.turn.put (sideFor z t) (z, n + 1) } } else t
      | none => t
    t.set ACD_LAZY 0 1

/-- The frames of a row as the accord engine names them (R185, R211, R215, R218); those without a place are left out (R210). What lies below
the write pointer is on media (R181). -/
def rowFrames (z r blocks : Nat) (s : State) : List RowFrame :=
  let per := 8 * s.k
  let one (pos : Nat) (full old : Bool) : RowFrame :=
    let p := newPlace z r pos s
    ⟨pos, p.1, p.2.1, p.2.2, old, old, full, placeHead z r pos (sideFor z s) s⟩
  (((List.range (dataFrames blocks s)).map fun d => one d (decide (8 * d + 8 ≤ blocks)) (decide (per * r + 8 * d + 8 ≤ (s.zone z).wp)))
    ++ (List.range s.m).map fun i => one (s.k + i) (decide (per ≤ blocks)) false).filter fun f => !s.acd.bad.contains (z, r, f.pos)

/-- A row with the blocks it now holds: frames that were written and have not changed keep their state (R183, R217). -/
def mergeRow (z r blocks : Nat) (s : State) : RowRec :=
  let new := rowFrames z r blocks s
  match s.rows.find? fun x => x.zone == z && x.row == r with
  | none => ⟨z, r, blocks, false, new, none, holdsFrontier z r s⟩
  | some old =>
    { old with blocks := blocks, front := old.front || holdsFrontier z r s, frames := new.map fun f =>
        match old.frames.find? fun g => g.pos == f.pos with
        | none => f
        | some g => if g.full && f.full || old.blocks = blocks then g
          else { f with member := g.member, band := g.band, idx := g.idx } }

/-- The writes and verifies of frames of a row that have changed (R183, R184): those not issued are dropped, and what the others report counts
no longer. -/
def staleJobs (m : RowRec) (s : State) : State :=
  let old := ((s.rows.find? fun x => x.zone == m.zone && x.row == m.row).map (·.frames)).getD []
  let hit (j : FrameJob) : Bool := (j.write || j.verify) && !j.reloc && j.zone == m.zone && j.row == m.row
    && m.frames.any fun f => f.pos == j.pos && !old.contains f
  { s with jobs := (s.jobs.filter fun j => !(hit j && j.st == .wait)).map fun j => if hit j then { j with stale := true } else j }

/-- Enter a row among those that are written. -/
def putRow (m : RowRec) (s : State) : State :=
  if s.rows.any fun x => x.zone == m.zone && x.row == m.row then
    { staleJobs m s with rows := s.rows.map fun x => if x.zone = m.zone ∧ x.row = m.row then m else x }
  else { s with rows := s.rows ++ [m] }

/-- The positions of a row of `blocks` blocks that are still to be written. -/
def rowTodo (z r blocks : Nat) (s : State) : List Nat := ((mergeRow z r blocks s).frames.filter fun f => !f.written).map (·.pos)

/-- Uncommitted rows of a zone other than row `r` leave room for it under FMT_WR.AHEAD (R180). -/
def aheadOk (z r : Nat) (s : State) : Bool :=
  decide ((s.rows.countP fun x => x.zone == z && x.row != r && decide ((s.zone z).wp < 8 * s.k * x.row + x.blocks)) < s.get FMT_WR_AHEAD 0)

/-- The frontier frame of a zone is full: its image stays until the frame has been written and verified whole (R183). -/
def fillFront (z : Nat) (s : State) : State :=
  match s.fronts.find z with
  | some f => if f.blocks = 0 then s else { s with fronts := s.fronts.put z { f with blocks := 0, filled := f.filled ++ [(f.row, f.pos)] } }
  | none => s

/-- The frontier frame of a zone: `part` blocks at a position of its last row (R182). -/
def setFront (z r pos part : Nat) (s : State) : State :=
  match s.fronts.find z with
  | none => { s with fronts := s.fronts.put z ⟨r, pos, part, 0, false, []⟩ }
  | some f =>
    if f.row = r ∧ f.pos = pos then { s with fronts := s.fronts.put z { f with blocks := part, stable := false } }
    else
      let t := fillFront z s
      { t with fronts := t.fronts.put z { NMap.get f t.fronts z with row := r, pos := pos, blocks := part, onMedia := 0, stable := false } }

/-- The frontier of a zone with `blocks` blocks in row `r`: its frame, with its image; none when the last frame is whole (R182, R183). -/
def showFront (z r blocks : Nat) (s : State) : State :=
  if blocks % 8 = 0 then fillFront z s else frontierImage z r (blocks / 8) (blocks % 8) (setFront z r (blocks / 8) (blocks % 8) s)

/-- A frame of a row is on media for good: the image of a frontier frame that is full and written and verified is released (R183). -/
def releaseFront (z r pos : Nat) (s : State) : State :=
  match s.fronts.find z with
  | none => s
  | some f =>
    let g := { f with filled := f.filled.filter (· ≠ (r, pos)), onMedia := if f.row = r ∧ f.pos = pos then f.blocks else f.onMedia }
    { s with fronts := if g.blocks = 0 ∧ g.filled = [] then s.fronts.del z else s.fronts.put z g }

/-- The images of a row with `blocks` blocks, and its record: frames of degraded and LOST members are redirected (R215), the parity is that
of the row as it stands (R195, R214, R217). -/
def layRow (z r blocks : Nat) (s : State) : State :=
  let t := redirectFrames z r (sideFor z s) (rowTodo z r blocks s) s
  let t := writeParities z r blocks t
  putRow (mergeRow z r blocks t) t

/-- FRONTIER_WRITE (R182–R184, R195, R215, R217): the zone's incomplete last row goes to media as it stands, within AHEAD rows. -/
def frontierWrite (z : Nat) (s : State) : State :=
  let zr := s.zone z
  let per := 8 * Nat.max 1 s.k
  let r := zr.ready / per
  let blocks := zr.ready % per
  if blocks = 0 || zr.finished || !aheadOk z r s then s
  else
    let t := layRow z r blocks (showFront z r blocks s)
    takeRow (mergeRow z r blocks t) t

/-! ## Relocated and redirected frames are written (R208, R209, R211, R215, R216) -/

/-- The write of the frame at index `i` of a segment, when it is the first of its band that is not placed (R175, R209). A frame of a row that
is being written has the row's own jobs. -/
def relocJob (g : Segment) (i : Nat) (s : State) : Option FrameJob :=
  match g.frames[i]?, segIndex g i s with
  | some f, some q =>
    let before := (g.frames.take i).drop (i - q.2.2)
    if f.dead || f.placed || (before.any fun x => !x.dead && !x.placed) || frameBusy f.zone f.row f.pos s
        || (s.rows.any fun r => r.zone == f.zone && r.row == f.row && r.frames.any fun x => x.pos == f.pos) then none
    else
      (slotOf q.1 q.2.1 q.2.2 s).map fun p =>
        { writeJob ownTag (serviceHead q.1 s) f.zone f.row f.pos p.1 p.2.1 false s with reloc := true }
  | _, _ => none

/-- The band that frame `i` of a segment begins with its write is cleared of deferred skips (R155). -/
def clearReloc (g : Segment) (i : Nat) (s : State) : State :=
  match segIndex g i s with
  | some q => if q.2.2 = 0 && (relocJob g i s).isSome then clearDefer q.1 q.2.1 s else s
  | none => s

/-- The writes of relocated frames that can run now (R155, R208, R211), while the accord engine runs (R252). -/
def fillRelocs (s : State) : State :=
  if !driveRole s || !s.on ACD_CTL_RUN 0 then s
  else
    let l := s.acd.segs.filter fun g => !isLost g.target s
    let t := forAll l (fun g u => forBelow g.frames.length (clearReloc g) u) s
    { t with jobs := t.jobs ++ l.flatMap fun g => (List.range g.frames.length).filterMap fun i => relocJob g i t }

/-- A frame of an uncommitted row that is not written and cannot be on its member now (R215, R216). -/
def misplaced (r : RowRec) (f : RowFrame) (s : State) : Bool :=
  r.submitted && !f.written && (isLost f.member s || !sideServed f.member (sideFor r.zone s) s)

/-- Frames of uncommitted rows whose member has been lost, or is not served on the serving side, are redirected (R215, R216). -/
def redirectLost (s : State) : State :=
  let l := s.rows.filter fun r => r.frames.any fun f => misplaced r f s
  if l.isEmpty then s
  else
    let t := forAll l (fun r u =>
      let todo := (r.frames.filter fun f => misplaced r f u).map (·.pos)
      let v := redirectFrames r.zone r.row (sideFor r.zone u) todo u
      let go (f : RowFrame) : RowFrame :=
        let p := newPlace r.zone r.row f.pos v
        if todo.contains f.pos then { f with member := p.1, band := p.2.1, idx := p.2.2 } else f
      let m := { r with frames := (r.frames.map go).filter fun f => !v.acd.bad.contains (r.zone, r.row, f.pos) }
      let stale (j : FrameJob) : Bool := (j.write || j.verify) && j.zone == r.zone && j.row == r.row && todo.contains j.pos
      { putRow m v with jobs := v.jobs.filter fun j => !stale j }) s
    fillJobs t

/-! ## Control and the control store (R158, R189) -/

/-- FMT_RUN_SET and FMT_RUN_CLEAR (R189). The format sequencer of a manager does not run (R592). -/
def fmtRun (run : Bool) (s : State) : State :=
  let on := run && driveRole s
  s.setMany 0 [(FMT_CTL_RUN, on.toNat), (FMT_STS_RUNNING, on.toNat)]

/-- FMT_STORE_WRITE (R158). -/
def fmtStoreWrite (s : State) : State := pulse 197 0xFF s

end Sys2Proof.Machine
end

