-- ==== Sys2Proof/Machine/Ladder.lean ====
section
/-!
DEFINITION. Results of frame operations (spec/03, R164–R169, R176–R178; spec/04, R219, R220): writing and verify, the retry ladder,
reconstruction.
-/

namespace Sys2Proof.Machine

/-! ## Changing jobs -/

/-- Replace a job by others. -/
def swapJob (j : FrameJob) (l : List FrameJob) (s : State) : State := { s with jobs := (s.jobs.filter fun x => x ≠ j) ++ l }

/-- A job is to be issued anew, at a slot not yet planned. -/
def FrameJob.anew (j : FrameJob) : FrameJob := { j with st := .wait, due := 0, loaded := false }

/-! ## Writing and verify (R165, R176–R178, R183, R184) -/

/-- A write or verify of a frame has failed for good (R177, R178). A frame of the system area has no other slot: its skip is
entered and the operation reports it lost. -/
def frameFailed (j : FrameJob) (s : State) : State :=
  let t := swapJob j [] s
  match frameOfJob j t with
  | some f => grownSkip f.member f.band f.idx j.track j.slot t
  | none =>
    if j.reloc then
      let p := newPlace j.zone j.row j.pos t
      grownSkip p.1 p.2.1 p.2.2 j.track j.slot t
    else
      endOp j.mtag ((enterSkip (surfaceOf j.head) j.track j.slot false t).modOp j.mtag fun o => { o with lost := o.lost ++ lostCws j.row j.pos 1 })

/-- A frame is on media (R176, R180, R183, R184, R211): its write has ended W_OK, or its verify has passed. -/
def frameWritten (j : FrameJob) (s : State) : State :=
  let t := s.modFrames (fun r f => r.zone == j.zone && r.row == j.row && f.pos == j.pos)
    fun f => { f with written := true, verified := j.verify, head := j.head }
  if j.verify || !s.on FMT_WR_VERIFY 0 then fillJobs (releaseFront j.zone j.row j.pos (markPlaced j.zone j.row j.pos t)) else fillJobs t

/-- The lane load that a job has carried has been refused (R164): the lane has no zone's parameters, and the load is attached once more to the
head's next operation that needs it. -/
def refuseOnce (j : FrameJob) (s : State) : State :=
  (s.set FMT_LZONE j.head 0).set FMT_LREF j.head (loadIndex j s)

/-- The load of a job has been refused before (R164). -/
def refusedTwice (j : FrameJob) (s : State) : Bool := s.is FMT_LREF j.head (loadIndex j s)

/-- The second refusal of a lane load (R164) takes the lane out of service and fires the fault source. -/
def loadFault (h : Nat) (s : State) : State := pulse 198 h (laneOos h true ((s.set FMT_LZONE h 0).set FMT_LREF h 0))

/-- The writes and verify reads of a head end (R164): a system-area frame as a loss; the accord engine redirects the others (R215). -/
def endWrites (h : Nat) (s : State) : State :=
  forAll (s.jobs.filter fun x => x.head == h && (x.write || x.verify)) (fun x u =>
    endOp x.mtag ((swapJob x [] u).modOp x.mtag fun o =>
      if o.kind == .writeRow then o else { o with lost := o.lost ++ lostCws x.row x.pos 1 })) s

/-- The result of a write (R165, R177). -/
def writeResult (j : FrameJob) (code : Nat) (s : State) : State :=
  let again (n : FrameJob) : State := { s with jobs := s.jobs.map fun x => if x = j then n else x }
  if j.stale then endOp j.mtag (fillJobs (swapJob j [] s))
  else if code = 0xB then
    if (frameOfJob j s).isSome then endOp j.mtag (frameWritten j (swapJob j [] s))
    else if s.on FMT_WR_VERIFY 0 then again { j.anew with write := false, verify := true, retry := 0, reissue := 0 }
    else endOp j.mtag (frameWritten j (swapJob j [] s))
  else if code = 0xC || code = 0xD then
    if s.get FMT_WR_RETRY 0 ≤ j.retry + 1 then frameFailed j s else again { j.anew with retry := j.retry + 1, reissue := 0 }
  else if code = 0xE then endOp j.mtag (swapJob j [] s)
  else if code = 0xA && j.loaded then refuseOnce j (again j.anew)
  else if j.reissue < 8 then again { j.anew with reissue := j.reissue + 1 }
  else frameFailed j s

/-- The result of a codeword of a verify read (R165, R176): codewords that the lane could not take are reissued together. -/
def verifyResult (j : FrameJob) (r : CwResult) (s : State) : State :=
  let again (n : FrameJob) (t : State) : State := { t with jobs := t.jobs.map fun x => if x = j then n else x }
  let refused := r.code = 8 || r.code = 9 || r.code = 0xA
  let m := withBit j.mask r.cw false
  let redo := if refused then withBit j.redo r.cw true else j.redo
  if j.stale then (if m ≠ 0 then again { j with mask := m } s else endOp j.mtag (fillJobs (swapJob j [] s)))
  else if !refused && !(r.code ≤ 1 && r.iters ≤ s.get FMT_WR_VITER 0) then frameFailed j s
  else if m ≠ 0 then again { j with mask := m, redo := redo } s
  else if redo = 0 then endOp j.mtag (frameWritten j (swapJob j [] s))
  else if r.code = 0xA && j.loaded then refuseOnce j (again { j.anew with mask := redo, redo := 0 } s)
  else if j.reissue < 8 then again { j.anew with mask := redo, redo := 0, reissue := j.reissue + 1 } s
  else frameFailed j s

/-! ## What a read has obtained or lost (R155, R160, R187, R219, R220, R226) -/

/-- Codewords of a job have ended at its step (R187). -/
def endedAt (step n : Nat) (s : State) : State := s.add FMT_CNT_STEP (Nat.min 7 (step - 1)) n

/-- The row's losses do not exceed its parity (R221). -/
def rowSafe (z r : Nat) (s : State) : Bool := decide (lossCount z r s ≤ s.m)

/-- The accord engine's part when a frame has been found unreadable by an operation that stops before step 8 (R220, R226, R237): the row is
read and the frame written as reconstructed, which an operation that gathers the row does with its end. -/
def frameUnreadable (z r pos : Nat) (s : State) : State :=
  if s.acd.bad.contains (z, r, pos) then s
  else
    let t := { s with acd := { s.acd with bad := s.acd.bad ++ [(z, r, pos)] } }
    if rowSafe z r t && (t.ops.any fun o => opGathers o t && o.zone == z && o.row == r) then t else repairRow z r t

/-- The codewords that a read of a frame was to obtain, without the blocks listed as unrecovered (R234). -/
def wanted (o : MediaOp) (r pos : Nat) (s : State) : Nat :=
  if o.kind == .hostRead then unlisted o.zone (r * s.k + pos) (maskFor (r * s.k + pos) o.off o.len) s else 0xFF

/-- A run-ahead frame has failed: a read that has claimed it reads it anew (R173, R234). -/
def raFailed (z f : Nat) (s : State) : State :=
  let t : State := { s with ra := s.ra.map fun a => if a.zone = z ∧ a.frame = f then { a with failed := true } else a }
  match t.ra.find? fun a => a.failed && a.claim.isSome && a.zone == z && a.frame == f with
  | some a =>
    let k := Nat.max 1 t.k
    let m := ((t.op (a.claim.getD 0)).map fun o => wanted o (f / k) (f % k) t).getD 0
    addRead (a.claim.getD 0) .hostRead true z (f / k) (f % k) m (sideFor z t) { t with ra := t.ra.filter fun x => x ≠ a }
  | none => t

/-- A frame's codewords are lost to the submitter (R160): the frames of rows are recorded unreadable, an operation that gathers a row takes
another frame instead, once for a frame (R219, R226). -/
def reportLost (j : FrameJob) (s : State) : State :=
  let lost := lostCws j.row j.pos j.mask
  let first := !(s.op j.mtag).any fun o => o.lost.any fun e => e.1 == j.row && e.2.1 == j.pos
  let t : State := (endedAt j.step lost.length (swapJob j [] s)).modOp j.mtag fun o => { o with lost := o.lost ++ lost }
  let t : State := match j.kind with
    | .raRead => raFailed j.zone (j.row * t.k + j.pos) t
    | .patrol => frameUnreadable j.zone j.row j.pos t
    | .reconRead | .rebuildRead =>
      let u := frameUnreadable j.zone j.row j.pos t
      if first && (u.op j.mtag).any (fun o => opGathers o u) then takeSources j.mtag 1 u else u
    | _ => t
  endOp j.mtag t

/-- The place of a frame is still the slot that a job reads. -/
def sameSlot (j : FrameJob) (s : State) : Bool :=
  let p := placeOf j.zone j.row j.pos s
  p.1 == surfaceOf j.head && (slotOf p.1 p.2.1 p.2.2 s).any fun q => q.1 == j.track && q.2.1 == j.slot

/-- The slot of a committed frame that needed step 4 or later is entered as a deferred skip (R155). -/
def deferSlot (j : FrameJob) (s : State) : State :=
  if decide (4 ≤ j.step) && !j.away && readable j.zone j.row j.pos s && sameSlot j s
      && !(s.skips.any fun e => e.surface == surfaceOf j.head && e.track == j.track && e.slot == j.slot) then
    enterSkip (surfaceOf j.head) j.track j.slot true s
  else s

/-- A job's frame has been obtained whole (R219). -/
def noteGot (j : FrameJob) (s : State) : State :=
  let open0 := s.jobs.any fun x => x.mtag == j.mtag && x.zone == j.zone && x.row == j.row && x.pos == j.pos
  s.modOp j.mtag fun o =>
    if open0 || (o.lost.any fun e => e.1 == j.row && e.2.1 == j.pos) || (wanted o j.row j.pos s ≠ 0xFF && !j.helper) then o
    else { o with got := (j.row, j.pos) :: o.got }

/-- The run-ahead frame of a job has been decoded: a read that has claimed it is handed it (R173). -/
def raDone (j : FrameJob) (s : State) : State :=
  if j.kind == .raRead && !(s.jobs.any fun x => x.kind == .raRead && x.zone == j.zone && x.row == j.row && x.pos == j.pos) then
    { s with ra := s.ra.filterMap fun a =>
        if a.zone = j.zone ∧ a.frame = j.row * s.k + j.pos ∧ !a.failed then
          if a.claim.isSome then none else some { a with ready := true }
        else some a }
  else s

/-- A codeword of the frame has been obtained at step 6 or 7 (R220). -/
def noteDeep (j : FrameJob) (s : State) : State :=
  s.modOp j.mtag fun o => if 6 ≤ j.step ∧ !o.deep.contains (j.row, j.pos) then { o with deep := (j.row, j.pos) :: o.deep } else o

/-- The frame of a job is there whole, with ladder step 5 or later (R220): reconstructed at step 5, or read whole with a codeword obtained at
step 6 or 7. -/
def obtainedDeep (j : FrameJob) (s : State) : Bool :=
  j.step == 5 || (s.op j.mtag).any fun o => o.deep.contains (j.row, j.pos) && o.got.contains (j.row, j.pos)

/-- A codeword has been obtained (R155, R187, R220): at step 4 or later its slot is entered as a deferred skip; a frame obtained at step 5 or
later the accord engine relocates. -/
def codewordDone (j : FrameJob) (s : State) : State :=
  let t := noteGot j (noteDeep j (deferSlot j (endedAt j.step (maskCws j.mask).length (swapJob j [] s))))
  let t := if obtainedDeep j t && !j.away && readable j.zone j.row j.pos t && sameSlot j t then relocateFrame j.zone j.row j.pos t else t
  let owner := ((s.ra.find? fun a => a.zone == j.zone && a.frame == j.row * s.k + j.pos).bind (·.claim)).getD j.mtag
  endOp owner (endOp j.mtag (raDone j t))

/-! ## The retry ladder (R165–R169) -/

/-- Step `n` is enabled and permitted for the operation (R159, R166). -/
def stepOn (j : FrameJob) (n : Nat) (s : State) : Bool :=
  n ≤ lastStep j.kind && (n = 1 || n = 8 || s.bit FMT_LADDER_STEPS 0 (n - 2))

/-- The row of a job can be reconstructed (R166, R219, R221): with the job's frame, its losses that the read has not recovered do not exceed
its parity. -/
def reconstructable (j : FrameJob) (s : State) : Bool :=
  let have0 := ((s.op j.mtag).map fun o => o.positions j.zone j.row).getD []
  decide (((lostPositions j.zone j.row s).filter fun p => p ≠ j.pos && !have0.contains p).length + 1 ≤ s.m)

/-- The other head of a surface. -/
def otherHead (h : Nat) : Nat := headOf (surfaceOf h) (1 - sideOf h)

/-- The reads of step 6: each in-service head at −OFS and −2 × OFS (R166). A frame that has no slot, or whose member is LOST, has none. -/
def offsetReads (j : FrameJob) (s : State) : List (Nat × Nat) :=
  let o : Int := s.get FMT_LADDER_OFS 0
  let p := placeOf j.zone j.row j.pos s
  if j.away && (isLost p.1 s || (slotOf p.1 p.2.1 p.2.2 s).isNone) then []
  else ((List.range 2).map fun d => headOf (surfaceOf j.head) d).flatMap fun h =>
    if headOut h s then [] else [(h, uns 16 (-o)), (h, uns 16 (-2 * o))]

/-- A soft decision as a signed reliability (R86). -/
def softValue (b : BitVec 4) : Int := if b.getLsbD 3 then (b.toNat % 8 : Nat) else -(b.toNat % 8 : Nat)

/-- A signed reliability, saturated at 7, as a soft decision; none is an erasure. -/
def valueSoft (v : Int) : BitVec 4 := if 0 < v then BitVec.ofNat 4 (8 + Nat.min 7 v.toNat) else BitVec.ofNat 4 (Nat.min 7 (-v).toNat)

/-- The combined soft decisions of saved reads: per bit the sum, saturated (R166). -/
def combineSoft : List (List (BitVec 4)) → List (BitVec 4)
  | [] => []
  | a :: t => ((t.map fun l => l.map softValue).foldl (fun x y => List.zipWith (· + ·) x y) (a.map softValue)).map valueSoft

/-- Step 8 (R169, R233). -/
def stepEight (j : FrameJob) (s : State) : State :=
  let t := swapJob j [] s
  let t : State := forAll (maskCws j.mask) (fun c u =>
    pulse 200 0xFF ((addUnrec j.zone (8 * (j.row * u.k + j.pos) + c) (endedAt 8 1 u)).bump FMT_CNT_UNREC 0)) t
  endOp j.mtag (t.modOp j.mtag fun o => { o with lost := o.lost ++ lostCws j.row j.pos j.mask })

/-- A further lost frame could not be recovered by steps 6 and 7 (R167): nothing more is read of it. -/
def dropHelper (j : FrameJob) (s : State) : State :=
  { s with jobs := s.jobs.filter fun x => !(x.helper && x.mtag == j.mtag && x.zone == j.zone && x.row == j.row && x.pos == j.pos) }

/-- Steps 6 and 7 still run on other lost frames of a job's row (R167). -/
def helpersRun (j : FrameJob) (s : State) : Bool :=
  s.jobs.any fun x => x.helper && x.mtag == j.mtag && x.zone == j.zone && x.row == j.row

/-- The other lost frames of the row that lie on members in service run steps 6 and 7 too, where step 6 is enabled, for their codewords below
the write pointer (R166, R167, R181). -/
def recoverOthers (j : FrameJob) (s : State) : State :=
  let have0 := ((s.op j.mtag).map fun o => o.positions j.zone j.row).getD []
  let l := s.acd.bad.filter fun b => b.1 == j.zone && b.2.1 == j.row && b.2.2 != j.pos && !have0.contains b.2.2
    && !isLost (placeOf b.1 b.2.1 b.2.2 s).1 s && readable b.1 b.2.1 b.2.2 s && mediaMask b.1 b.2.1 b.2.2 0xFF s != 0 && !(s.jobs.any fun x => x.zone == b.1 && x.row == b.2.1 && x.pos == b.2.2)
  if !stepOn j 6 s then s
  else forAll l (fun b t =>
    let p := placeOf b.1 b.2.1 b.2.2 t
    match slotOf p.1 p.2.1 p.2.2 t with
    | none => t
    | some q =>
      let n := newJob j.mtag .hostRead (headOf p.1 (sideOf j.head)) false 0 q.1 q.2.1 j.gen (mediaMask b.1 b.2.1 b.2.2 0xFF t) b.1 b.2.1 b.2.2
      match offsetReads n t with
      | [] => t
      | o :: _ => { t with jobs := t.jobs ++ [{ n with step := 6, head := o.1, offtrk := o.2, helper := true, runs := 2 }] }) s

/-- The last step of a job (R166–R168): step 5 once more where other lost frames have been tried, after them; else step 8. -/
def ladderEnd (j : FrameJob) (s : State) : State :=
  if j.helper then dropHelper j s
  else if j.runs = 1 && !j.late && stepOn j 5 s then
    if helpersRun j s then swapJob j [{ j with step := 8, st := .held }] s
    else if reconstructable j s then swapJob j [{ j with step := 5, runs := 2, st := .recon }] s
    else stepEight j s
  else stepEight j s

/-- The job goes on at the first step from `n` on that can run; `fuel` bounds the steps left (R166–R168). -/
def ladderFrom : Nat → Nat → FrameJob → State → State
  | 0, _, j, s => if lastStep j.kind = 8 then ladderEnd j s else reportLost j s
  | fuel + 1, n, j, s =>
    if lastStep j.kind < n then reportLost j s
    else if n ≠ 8 && (!stepOn j n s || (j.late && n != 5)) then ladderFrom fuel (n + 1) j s
    else
      match n with
      | 3 =>
        if j.rereads < s.get FMT_LADDER_REREAD 0 then swapJob j [{ j.anew with step := 3, rereads := j.rereads + 1, reissue := 0 }] s
        else ladderFrom fuel 4 j s
      | 4 =>
        let h := otherHead j.head
        if headOut h s then ladderFrom fuel 5 j s else swapJob j [{ j.anew with step := 4, head := h, reissue := 0 }] s
      | 5 =>
        if 0 < j.runs then ladderFrom fuel 6 j s
        else if reconstructable j s then swapJob j [{ j with step := 5, runs := 1, st := .recon }] s
        else ladderFrom fuel 6 { j with runs := 1 } (swapJob j [{ j with runs := 1 }] (if j.late then s else recoverOthers j s))
      | 6 =>
        match offsetReads j s with
        | [] => ladderFrom fuel 7 j s
        | o :: _ => swapJob j [{ j.anew with step := 6, rereads := 0, reissue := 0, head := o.1, offtrk := o.2 }] s
      | 7 =>
        if 2 ≤ j.saved.length then
          swapJob j [{ j with step := 7, st := .recovery }]
            (forAll (maskCws j.mask) (fun c u => queueRecovery j.head (opOf j u) c (combineSoft j.saved) u) s)
        else ladderFrom fuel 8 j s
      | 8 => ladderEnd j s
      | _ => ladderFrom fuel (n + 1) j s

/-- What follows the failure of a job's step (R166): further reads of steps 3 and 6, else the next step. -/
def ladderNext (j : FrameJob) (s : State) : State :=
  if j.step = 3 then ladderFrom 8 3 j s
  else if j.step = 6 && !j.late then
    match (offsetReads j s)[j.rereads + 1]? with
    | some o => swapJob j [{ j.anew with rereads := j.rereads + 1, reissue := 0, head := o.1, offtrk := o.2 }] s
    | none => ladderFrom 8 7 j s
  else ladderFrom 8 (j.step + 1) j s

/-- The codeword of a job that carries one. -/
def FrameJob.cw (j : FrameJob) : Nat := ((maskCws j.mask).head?).getD 0

/-- Codeword of a job whose generation differs lies below the committed write pointer (R166): its block, or the row of a parity frame. -/
def cwCommitted (j : FrameJob) (s : State) : Bool :=
  if j.pos < s.k then decide (8 * (j.row * s.k + j.pos) + j.cw < (s.zone j.zone).wp) else readable j.zone j.row j.pos s

/-- A failed codeword (R166): a read that ended FAIL_INLINE has saved its soft decisions and goes to their recovery decode, else the ladder
goes on. A wrong generation at or above the write pointer is lost without a ladder. -/
def codewordFailed (j : FrameJob) (code : Nat) (s : State) : State :=
  if code = 3 && !cwCommitted j s then reportLost j s
  else if code = 5 then
    let soft := savedSoft (opOf j s) j.cw s
    let n := { j with saved := (soft :: j.saved).take (s.get FMT_LADDER_COMBINE 0) }
    let t := swapJob j [n] s
    if stepOn n 2 t && !n.late then
      swapJob n [{ n with st := .recovery, step := if n.step = 1 then 2 else n.step }] (queueRecovery n.head (opOf n t) n.cw soft t)
    else ladderNext n t
  else ladderNext j s

/-- The codewords to be reissued join those of the same frame that wait for it already (R165). -/
def reissue (j : FrameJob) (s : State) : State :=
  match s.jobs.find? fun x => x == { j with mask := x.mask } with
  | some x => { s with jobs := s.jobs.map fun y => if y = x then { x with mask := x.mask ||| j.mask } else y }
  | none => { s with jobs := s.jobs ++ [j] }

/-- A refused lane load of a read (R164): the operation is issued once more; a second refusal takes the lane out of service and ends the
head's operations as losses. -/
def loadRefused (j : FrameJob) (s : State) : State :=
  let h := j.head
  if !refusedTwice j s then refuseOnce j (reissue j.anew s)
  else
    let t := loadFault h s
    let mine := t.jobs.filter fun x => x.head == h && !x.write && !x.verify && (x.st == .wait || x.st == .issued)
    endWrites h (forAll mine reportLost (reportLost j { t with jobs := t.jobs ++ [j] }))

/-- The result of a codeword of a read (R165, R166). -/
def readResult (j : FrameJob) (r : CwResult) (s : State) : State :=
  let m := withBit j.mask r.cw false
  let c : FrameJob := { j with mask := 2 ^ r.cw }
  let s := { s with jobs := s.jobs.filterMap fun x => if x = j then (if m = 0 then none else some { j with mask := m }) else some x }
  let with1 (t : State) : State := { t with jobs := t.jobs ++ [c] }
  if r.code ≤ 2 then codewordDone c (with1 s)
  else if r.code = 0xA && j.loaded then loadRefused c s
  else if r.code = 8 || r.code = 9 || r.code = 0xA then
    if j.reissue < 8 then reissue { c.anew with reissue := j.reissue + 1 } s else codewordFailed c 6 (with1 s)
  else if r.code = 0xE then endOp j.mtag (s.modOp j.mtag fun o => { o with lost := o.lost ++ lostCws j.row j.pos c.mask })
  else codewordFailed c r.code (with1 s)

/-- The second refusal of a lane load that a write or verify carries (R164). -/
def writeLoadRefused (j : FrameJob) (s : State) : State :=
  let t := loadFault j.head s
  let mine := t.jobs.filter fun x => x.head == j.head && !x.write && !x.verify && (x.st == .wait || x.st == .issued)
  endWrites j.head (forAll mine reportLost t)

/-- The result belongs to this job. -/
def resultFor (r : CwResult) (j : FrameJob) : Bool :=
  j.mtag % 16777216 == r.mtag && j.track == r.track && j.slot == r.slot && j.write == r.write && j.head == r.lane
    && (j.st == .issued || j.st == .recovery) && (r.write || j.mask.testBit r.cw)

/-- FRAME_RESULT (R164–R169, R176–R178, R183, R184): the oldest posted result. -/
def frameResult (s : State) : State :=
  match s.results with
  | [] => s
  | r :: t =>
    let s := { s with results := t }
    match s.jobs.find? (resultFor r) with
    | none => s
    | some j =>
      let s := if j.loaded && r.code ≠ 0xA then s.set FMT_LREF j.head 0 else s
      if (j.write || j.verify) && j.loaded && refusedTwice j s && r.code == 0xA then writeLoadRefused j s
      else if j.write then writeResult j r.code s
      else if j.verify then verifyResult j r s
      else readResult j r s

/-- The time of a job's ladder has run out (R168): to step 5 if it has not run; one that runs goes on; after it step 8. DESIGN CHOICE: an
operation that the lane already holds for it is not cancelled, and its result counts for nothing; the spec does not say what becomes of it
(log entry 12). -/
def jobTimeout (j : FrameJob) (s : State) : State :=
  let n := { j with late := true }
  let t := swapJob j [n] s
  if j.st == .recon then t
  else if j.runs = 0 then ladderFrom 8 5 n t
  else if lastStep j.kind = 8 then ladderEnd n t
  else reportLost n t

/-- LADDER_TIMEOUT (R168). -/
def ladderTimeout (mtag : Nat) (s : State) : State :=
  forAll (s.jobs.filter fun j => j.mtag == mtag && !j.write && !j.verify && (2 ≤ j.step || j.st == .recovery)) jobTimeout s

/-! ## Reconstruction (R167, R194, R219, R220, R226) -/

/-- A reconstruction has found too few frames: the ladder goes on (R167), after the second time, or with its time over, to step 8. -/
def reconFailed (j : FrameJob) (s : State) : State :=
  if j.late || 2 ≤ j.runs then stepEight j s else ladderFrom 8 6 j (recoverOthers j s)

/-- A reconstruction has read the frames `have0`: the positions that wait for it are obtained at step 5, from the code over the images; a
frame of the row recorded unreadable is written elsewhere as reconstructed. A frame whose reconstruction does not hold is lost still (R425). -/
def reconDone (z r pos : Nat) (have0 : List Nat) (s : State) : State :=
  let l := s.jobs.filter fun j => j.st == .recon && j.zone == z && j.row == r && j.pos == pos
  let bad := (lostPositions z r s).filter fun p => s.acd.bad.contains (z, r, p)
  let want := (pos :: bad).eraseDups
  let t := reconstructRow z r have0 want s
  let wrong := wrongFrames z r want t
  let t := forAll (bad.filter fun p => !wrong.contains p) (relocateFrame z r) (reportWrong z r wrong t)
  if wrong.contains pos then forAll l reconFailed t else forAll l codewordDone (if l.isEmpty then t else t.bump ACD_CNT_RECON 0)

/-- An operation has read the frames for a reconstruction (R219). -/
def endRecon (o : MediaOp) (s : State) : State :=
  let have0 := o.positions o.zone o.row
  let t := closeOp o.mtag s
  if enoughRead o.zone o.row have0 t then reconDone o.zone o.row o.off have0 t
  else forAll (t.jobs.filter fun j => j.st == .recon && j.zone == o.zone && j.row == o.row && j.pos == o.off) reconFailed t

/-- Reconstructions whose reads have ended (R219). -/
def settleRecon (s : State) : State :=
  if driveRole s then forAll (s.ops.filter fun o => o.kind == .reconRead && !opBusy o.mtag s) endRecon s else s

/-- Jobs that wait for other lost frames of their row go on when none is left (R167). -/
def releaseHeld (s : State) : State :=
  forAll (s.jobs.filter fun j => j.st == .held && !helpersRun j s) ladderEnd s

end Sys2Proof.Machine
end

