-- ==== Sys2Proof/Machine/Accord.lean ====
section
/-!
DEFINITION. The accord engine's commands (spec/04): placement, streams and rows, rebuild, journal and checkpoints,
resynchronisation.
-/

namespace Sys2Proof.Machine

/-! ## Placement table (R201–R206) -/

/-- The counters of the generation rule (R204). -/
structure PlcGen where
  lfsr : Nat
  use  : NMap Nat
  pcnt : NMap Nat
  scnt : NMap Nat
  pair : NMap Nat
  tab  : Memory

/-- One step of the Galois LFSR (R205). -/
def galoisStep (x mask : Nat) : Nat := if x % 2 = 1 then x / 2 ^^^ mask else x / 2

/-- Lexicographic comparison of triples. -/
def tripleLt (a b : Nat × Nat × Nat) : Bool :=
  decide (a.1 < b.1) || (a.1 == b.1 && (decide (a.2.1 < b.2.1) || (a.2.1 == b.2.1 && decide (a.2.2 < b.2.2))))

/-- The element of least key. -/
def leastBy (key : Nat → Nat × Nat × Nat) (l : List Nat) : Option Nat :=
  l.foldl (fun b x => match b with
    | none => some x
    | some y => if tripleLt (key x) (key y) then some x else some y) none

/-- The `n` elements of least key, in order. -/
def leastN (key : Nat → Nat × Nat × Nat) : Nat → List Nat → List Nat
  | 0, _ => []
  | n + 1, l => match leastBy key l with
    | none => []
    | some x => x :: leastN key n (l.erase x)

/-- Choose the members of an entry (R204): each the least used, then the least paired with those chosen, then by key. -/
def chooseMembers (ms : List Nat) (key : Nat → Nat) (pair : NMap Nat) : Nat → NMap Nat → List Nat → NMap Nat × List Nat
  | 0, use, ch => (use, ch)
  | n + 1, use, ch =>
    match leastBy (fun x => (NMap.get 0 use x, (ch.map fun y => NMap.get 0 pair (64 * x + y)).sum, key x)) (ms.filter fun x => !ch.contains x) with
    | none => (use, ch)
    | some x => chooseMembers ms key pair n (use.put x (NMap.get 0 use x + 1)) (ch ++ [x])

/-- Add one to the counts of a list of keys. -/
def countAll (l : List Nat) (m : NMap Nat) : NMap Nat := l.foldl (fun a x => a.put x (NMap.get 0 a x + 1)) m

/-- One entry of the table (R201, R204). -/
def genEntry (k m base : Nat) (ms : List Nat) (e : Nat) (g : PlcGen) : PlcGen :=
  let lf := galoisStep g.lfsr 0xB400
  let key (x : Nat) : Nat := ((ms.idxOf x) + lf) % Nat.max 1 ms.length
  let c := chooseMembers ms key g.pair (k + m) g.use []
  let par := leastN (fun x => (NMap.get 0 g.pcnt x, key x, 0)) m c.2
  let parKey := leastN (fun x => (key x, 0, 0)) m par
  let rest := ms.filter fun x => !c.2.contains x
  let sp := leastN (fun x => (NMap.get 0 g.scnt x, key x, 0)) (32 - (k + m)) rest
  let bytes := ((c.2.filter fun x => !par.contains x) ++ parKey ++ sp).map fun x => BitVec.ofNat 8 (x + 128)
  let bytes := bytes ++ List.replicate (32 - bytes.length) 0
  { lfsr := lf, use := c.1, pcnt := countAll par g.pcnt, scnt := countAll (sp.take 1) g.scnt
    pair := countAll (c.2.flatMap fun x => (c.2.filter (· ≠ x)).map fun y => 64 * x + y) g.pair
    tab := g.tab.writeList (base + 32 * e) bytes }

/-- The generated table in memory (R204). -/
def genTable (s : State) : Memory :=
  ((List.range 65536).foldl (fun g e => genEntry s.k s.m (plcBase s) (membersOf s.memberMask) e g)
    ⟨s.get ACD_PLC_CFG_SEED 0, [], [], [], [], s.mem⟩).tab

/-- The members that an entry holds in data and parity positions. -/
def entryList (e : Nat) (s : State) : List Nat := (List.range s.w).map fun p => entryMember e p s

/-- P1 (R206). -/
def plcP1 (s : State) : Bool := (List.range 65536).all fun e => decide (entryList e s ++ entrySpares e s).Nodup

/-- P2 (R206): over every prefix the use counts differ by at most one. -/
def plcP2 (s : State) : Bool :=
  ((List.range 65536).foldl (fun (a : NMap Nat × Bool) e =>
    let c := countAll (entryList e s) a.1
    let l := (membersOf s.memberMask).map fun x => NMap.get 0 c x
    (c, a.2 && l.all fun u => l.all fun v => decide (u ≤ v + 1))) ([], true)).2

/-- P3 (R206): every pair within ±3 % of its mean. -/
def plcP3 (s : State) : Bool :=
  let ms := membersOf s.memberMask
  let n := ms.length
  let mean := 65536 * s.w * (s.w - 1)
  ms.all fun x => ms.all fun y => x == y ||
    (let c := (List.range 65536).countP fun e => entryHolds e x s && entryHolds e y s
     decide (97 * mean ≤ 100 * c * (n * (n - 1))) && decide (100 * c * (n * (n - 1)) ≤ 103 * mean))

/-- P4 (R206): parity counts within 16. -/
def plcP4 (s : State) : Bool :=
  let l := (membersOf s.memberMask).map fun x =>
    ((List.range 65536).map fun e => ((List.range s.m).countP fun i => entryMember e (s.k + i) s == x)).sum
  l.all fun u => l.all fun v => decide (u ≤ v + 16)

/-- CRC-32 of the table. -/
def plcCrc (s : State) : Nat := crc32 (s.mem.readList (plcBase s) 2097152)

/-- Check the table and report (R206); `crcOk` is the comparison of a load. -/
def checkTable (crcOk : Bool) (s : State) : State :=
  let c := !(plcP1 s && plcP2 s) || !crcOk
  let ok := !c && plcP3 s && plcP4 s
  let t := s.setMany 0 [(ACD_PLC_STS_CRC_FAIL, c.toNat), (ACD_PLC_STS_PAIR_FAIL, (!plcP3 s).toNat),
    (ACD_PLC_STS_PAR_FAIL, (!plcP4 s).toNat), (ACD_PLC_STS_VALID, ok.toNat), (ACD_PLC_CRC, plcCrc s)]
  if ok then t else pulse 210 0xFF t

/-- PLACEMENT_GEN (R204): a SEED of zero generates nothing, nor does the engine of a row or pod manager (R11). -/
def placementGen (s : State) : State :=
  if s.on ACD_PLC_CFG_SEED 0 && !noMembers s then s.setMany 0 [(ACD_PLC_STS_GEN_BUSY, 1), (ACD_PLC_STS_VALID, 0)] else s

/-- PLACEMENT_GEN_DONE (R200, R206): with every zone empty the LOST members are cleared. -/
def placementGenDone (s : State) : State :=
  if !s.on ACD_PLC_STS_GEN_BUSY 0 then s
  else
    let t := checkTable true ({ s with mem := genTable s }.set ACD_PLC_STS_GEN_BUSY 0 0)
    if t.on ACD_STS_ALLEMPTY 0 then
      let u := ((t.set ACD_LOST 0 0).set ACD_LOST 1 0).setMany 0 [(ACD_STS_LOST_CNT, 0), (ACD_LOSEMASK, 0)]
      updateSpare (updateMembers { u with acd := { u.acd with segs := [], redirect := [], bad := [], rebuilt := [], deferred := [] } })
    else t

/-! ## Journal and checkpoints (R238–R245) -/

/-- The fields of the pass records. -/
def passFields : List Field :=
  [ACD_PASS_MASK, ACD_PASS_START_ROW, ACD_PASS_START_ZONE, ACD_PASS_CUR_ROW, ACD_PASS_CUR_ZONE, ACD_PASS_LEVEL,
   ACD_PASS_VALID, ACD_PASS_DONE, ACD_PSER, ACD_CURN]

/-- The later of two images by a number of theirs. -/
def laterBy (key : AcdImage → Nat) (b : Option AcdImage) (i : AcdImage) : Option AcdImage :=
  match b with
  | none => some i
  | some a => if key a < key i then some i else some a

/-- The newest image of a list by a number. -/
def newestBy (key : AcdImage → Nat) (l : List AcdImage) : Option AcdImage := l.foldl (laterBy key) none

/-- The newest checkpoint on media (R244). -/
def newestSave (s : State) : Option AcdImage := newestBy (·.ckpt) (s.media.saves.map (·.2))

/-- The newest record on media (R239). -/
def newestRecord (s : State) : Option AcdImage := newestBy (·.seq) (s.media.journal.flatMap (·.2))

/-- No row write is in progress (R245): no frame is being written or verified, and no row that FMT or a worker has is unfinished. -/
def rowsIdle (s : State) : Bool :=
  !(s.jobs.any fun j => (j.write || j.verify) && j.kind == .writeRow) && s.shelf.isEmpty
    && s.rows.all fun r => !r.submitted || r.frames.all fun f => f.done (s.on FMT_WR_VERIFY 0)

/-- The entries that a record begun now holds in its parts since the checkpoint (R239): active zones, zone events, segments and their frames,
REDIRECT records, grown skips, extents. -/
def recordParts (s : State) : List Nat :=
  let old : Acd := ((newestSave s).map (·.acd)).getD State.blank.acd
  [s.zones.countP fun e => 1 ≤ e.2.state && e.2.state ≤ 3, s.acd.events.length, s.acd.segs.length - old.segs.length,
   (s.acd.segs.flatMap (·.frames)).length - (old.segs.flatMap (·.frames)).length, s.acd.redirect.length - old.redirect.length,
   s.acd.skips.length, s.acd.unrec.length - old.unrec.length]

/-- The content since the last checkpoint exceeds 64 frames (R243); that of at most 64 entries does not. -/
def recordTooLong (s : State) : Bool := decide (64 < (recordParts s).sum) && decide (64 < Config.recordFrames (recordParts s))

/-- The image that a record or checkpoint begun now carries: magic and format of R239, the record and checkpoint numbers, CLEAN only while no
row write is in progress (R245). -/
def acdImage (seq ckpt : Nat) (s : State) : AcdImage :=
  { magic := 0x4A4E, format := 1, seq := seq, stamp := s.stamp, ckpt := ckpt, len := Nat.max 1 (Nat.min 64 (Config.recordFrames (recordParts s)))
    clean := s.on ACD_CTL_CLEAN 0 && rowsIdle s, lost := s.lostMask, degr0 := s.get ACD_DEGR 0, degr1 := s.get ACD_DEGR 1, zones := s.zones, acd := s.acd, fronts := s.fronts
    passes := s.regs.filter fun e => passFields.any fun f => f.id == e.1.1
    olds := (List.range 16).filter fun p => s.on ACD_OLD p, crc := s.get ACD_PLC_CRC 0, slips := s.slips }

/-- Populated members of a stack, or slots of a half of the shelf (R611), that are not LOST. -/
def stackMembers (st : Nat) (s : State) : List Nat :=
  (membersOf s.memberMask).filter fun x => decide (x / (if driveRole s then 12 else 32) = st) && !isLost x s

/-- Journal members (R240): both copies on one stack fire source 216. -/
def placeJournal (s : State) : State :=
  let u := stackMembers 0 s
  let l := stackMembers 1 s
  let p := match u, l with
    | a :: _, b :: _ => (a, b, false)
    | a :: t, [] => (a, t.headD a, true)
    | [], b :: t => (b, t.headD b, true)
    | [], [] => (0, 0, true)
  let t := s.setMany 0 [(ACD_JRNL_MEM_A, p.1), (ACD_JRNL_MEM_B, p.2.1), (ACD_TURNOUT, p.2.2.toNat)]
  if p.2.2 && !s.on ACD_TURNOUT 0 then pulse 216 0xFF t else t

/-- The worker zone of journal zone `a` of a worker, and of checkpoint zone `a`: of its six reserved zones the first two and the next two
(R604; log entry 38). -/
def journalZone (a : Nat) (s : State) : Nat := s.get MGR_WNZ 0 - 6 + a

/-- The worker zone of checkpoint zone `a`. -/
def saveZone (a : Nat) (s : State) : Nat := s.get MGR_WNZ 0 - 4 + a

/-- On a shelf the record begun is appended to a journal zone of each of its two workers (R611); a zone without room gives way to the other.
Its length in blocks is that of R239 (log entry 38). -/
def shelfRecord (s : State) : State :=
  match s.media.recording with
  | none => s
  | some r =>
    if driveRole s then s
    else forAll [s.get ACD_JRNL_MEM_A 0, s.get ACD_JRNL_MEM_B 0].eraseDups (fun x t =>
      let a := t.get MGR_JRNLA x
      let a := if Config.workerUnits x (journalZone a t) * t.fb < t.get MGR_JRNLWP (2 * x + a) + r.len then 1 - a else a
      let u := reservedSend x (journalZone a t) (.journal r.seq) (t.get MGR_JRNLWP (2 * x + a)) r.len t
      ((u.set MGR_JRNLA x a).add MGR_JRNLWP (2 * x + a) r.len).set MGR_JRNLSEQ (2 * x + a) r.seq) s

/-- On a shelf the checkpoint begun is written to a checkpoint zone of its workers, by turns to their two (R244, R611). -/
def shelfSave (s : State) : State :=
  match s.media.saving with
  | none => s
  | some c =>
    if driveRole s then s
    else forAll (([ACD_CKPT_MEM_M0, ACD_CKPT_MEM_M1, ACD_CKPT_MEM_M2, ACD_CKPT_MEM_M3].map fun f => s.get f 0).eraseDups) (fun x t =>
      let y := saveZone (c.ckpt % 2) t
      reservedSend x y (.ckpt c.ckpt) 0 c.len (reservedSend x y (.logReset (4 + c.ckpt % 2)) 0 0 t)) s

/-- A journal zone all of whose records a newer checkpoint covers is reset (R611). -/
def shelfCovered (seq : Nat) (s : State) : State :=
  if driveRole s then s
  else forBelow 128 (fun i t =>
    if t.on MGR_JRNLWP i && decide (t.get MGR_JRNLSEQ i ≤ seq) then
      (reservedSend (i / 2) (journalZone (i % 2) t) (.logReset (2 + i % 2)) 0 0 t).set MGR_JRNLWP i 0
    else t) s

/-- Begin a checkpoint (R243, R244), or note that it is due. DESIGN CHOICE: the checkpoint that follows a lost copy within one INTERVAL (R242)
waits for CKMIN like every other; the spec does not say which of the two bounds gives way (log entry 25). -/
def startCheckpoint (s : State) : State :=
  if s.on ACD_KBUSY 0 || s.on ACD_KMIN 0 then s.set ACD_KDUE 0 1
  else
    let u := stackMembers 0 s
    let l := stackMembers 1 s
    let t := (s.bump ACD_KSEQ 0).setMany 0 [(ACD_KBUSY, 1), (ACD_KMIN, 1), (ACD_KDUE, 0), (ACD_CKPT_MEM_M0, u.headD 0),
      (ACD_CKPT_MEM_M1, (u.drop 1).headD 0), (ACD_CKPT_MEM_M2, l.headD 0), (ACD_CKPT_MEM_M3, (l.drop 1).headD 0)]
    shelfSave { t with media := { t.media with saving := some (acdImage (t.get ACD_JSEQ 0) (t.get ACD_KSEQ 0) t) } }

/-- Begin a journal record (R238–R242), or ask for one after that being written. A lost copy is replaced, and a checkpoint follows, as it does
when the content becomes too long (R243). -/
def startRecord (s : State) : State :=
  if s.on ACD_JBUSY 0 then s.set ACD_JREQ 0 1
  else
    let moved := s.on ACD_JRNL_SEQ 0 && (isLost (s.get ACD_JRNL_MEM_A 0) s || isLost (s.get ACD_JRNL_MEM_B 0) s)
    let t := placeJournal ((s.bump ACD_JSEQ 0).setMany 0 [(ACD_JBUSY, 1), (ACD_JREQ, 0), (ACD_LAZY, 0),
      (ACD_JCLEAN, (s.on ACD_CTL_CLEAN 0 && rowsIdle s).toNat)])
    let t := shelfRecord { t with media := { t.media with recording := some (acdImage (t.get ACD_JSEQ 0) (((newestSave t).map (·.ckpt)).getD 0) t) } }
    if moved || recordTooLong t then startCheckpoint t else t

/-- The record with CLEAN set is begun once no row write is in progress (R245). -/
def startClean (s : State) : State :=
  if s.on ACD_CLEANREQ 0 && !s.on ACD_JBUSY 0 && rowsIdle s then startRecord (s.set ACD_CLEANREQ 0 0) else s

/-- A checkpoint that is due is begun once CKMIN has passed (R243). -/
def dueCheckpoint (s : State) : State :=
  if s.on ACD_KDUE 0 && !s.on ACD_KBUSY 0 && !s.on ACD_KMIN 0 then startCheckpoint s else s

/-- A record that has been requested is begun (R179, R238), and a checkpoint that is due (R243). -/
def runRequests (s : State) : State :=
  let t := startClean s
  dueCheckpoint (if t.on ACD_JREQ 0 && !t.on ACD_JBUSY 0 then startRecord t else t)

/-- JOURNAL_INTERVAL (R238). -/
def journalInterval (s : State) : State := startRecord s

/-- JOURNAL_LAZY (R238). -/
def journalLazy (s : State) : State := if s.on ACD_LAZY 0 && s.on NVQ_DURWAIT 0 then startRecord s else s

/-- A record lies in the journal area of a member (R240), before those of its checkpoint and of the one before; log entry 25. -/
def putRecord (x : Nat) (r : AcdImage) (m : AcdMedia) : AcdMedia :=
  { m with journal := m.journal.put x (r :: (NMap.get [] m.journal x).filter fun o => r.ckpt ≤ o.ckpt + 1) }

/-- The copies of a record that have been written, on their two members (R240). -/
def putCopies (f : RecordFail) (r : AcdImage) (s : State) : State :=
  let m := if f.copyA then s.media else putRecord (s.get ACD_JRNL_MEM_A 0) r s.media
  { s with media := { (if f.copyB then m else putRecord (s.get ACD_JRNL_MEM_B 0) r m) with recording := none } }

/-- A record that could not be written whole is no written record (R241): one is requested anew. Source 215 fires, of a shelf 340 when both
copies have failed (R611). DEDUCED: the spec does not say which failures source 215 stands for (log entry 25). -/
def recordFailed (f : RecordFail) (s : State) : State :=
  let t := s.set ACD_JREQ 0 1
  if driveRole t then pulse 215 0xFF t else if f.copyA && f.copyB then pulse 340 0xFF t else t

/-- JOURNAL_WRITTEN (R179, R224, R240, R241, R250, R611). -/
def journalWritten (f : RecordFail) (s : State) : State :=
  match s.media.recording with
  | none => s
  | some r =>
    let s := (putCopies f r s).setMany 0 [(ACD_JBUSY, 0), (ACD_STS_JRNL_OK, (!(f.copyA || f.copyB)).toNat)]
    if f.copyA || f.copyB || f.skips then recordFailed f s
    else
    let t := s.set ACD_JRNL_SEQ 0 r.seq
    let t := { t with
      zones := t.zones.map fun e => (e.1, { e.2 with durable := match r.zones.find e.1 with
        | some z => if z.gen = e.2.gen then Nat.max e.2.durable z.wp else e.2.durable
        | none => e.2.durable })
      acd := { t.acd with skips := t.acd.skips.filter fun k => !r.acd.skips.contains k } }
    let t := if r.clean then t else t.set ACD_PRECLEAR 0 0
    let t := forAll r.olds (fun p u => if u.on ACD_OLD p then u.setMany p [(ACD_OLD, 0), (ACD_PASS_VALID, 0)] else u) t
    runRequests t

/-- CHECKPOINT_TIMER (R243). -/
def checkpointTimer (s : State) : State := startCheckpoint s

/-- The places of a checkpoint on its four members (R244): by turns in the members' two slots, as 2 · member + slot. -/
def saveSlots (c : AcdImage) (s : State) : List Nat :=
  ([ACD_CKPT_MEM_M0, ACD_CKPT_MEM_M1, ACD_CKPT_MEM_M2, ACD_CKPT_MEM_M3].map fun f => 2 * s.get f 0 + c.ckpt % 2).eraseDups

/-- CHECKPOINT_WRITTEN (R235, R243, R244): one that fails leaves the previous one in the other slots and fires source 217. -/
def checkpointWritten (failed : Bool) (s : State) : State :=
  match s.media.saving with
  | none => s
  | some c =>
    let slots := saveSlots c s
    if failed then
      pulse 217 0xFF { s.set ACD_KBUSY 0 0 with media := { s.media with saves := slots.foldl (fun m i => m.del i) s.media.saves, saving := none } }
    else
      dueCheckpoint <| shelfCovered c.seq { s.set ACD_KBUSY 0 0 with
        media := { s.media with saves := slots.foldl (fun m i => m.put i c) s.media.saves, saving := none }
        acd := { s.acd with events := s.acd.events.drop c.acd.events.length } }

/-- CKMIN_EXPIRY (R243). -/
def ckminExpiry (s : State) : State := dueCheckpoint (s.set ACD_KMIN 0 0)

/-- ACD_CLEAN (R245): a record with CLEAN set, once no row write is in progress. -/
def acdClean (s : State) : State := startClean (s.setMany 0 [(ACD_CTL_CLEAN, 1), (ACD_CLEANREQ, 1)])

/-- The newest written record has CLEAN set, and so has the engine (R245, R472). -/
def cleanWritten (s : State) : Bool :=
  s.on ACD_CTL_CLEAN 0 && !s.on ACD_CLEANREQ 0 && (newestRecord s).any fun r => r.clean && s.is ACD_JRNL_SEQ 0 r.seq

/-- ACD_CLEAN_CLR (R245): the first row write waits for a record with CLEAN clear. -/
def acdCleanClr (s : State) : State :=
  if s.on ACD_CTL_CLEAN 0 then startRecord (s.setMany 0 [(ACD_CTL_CLEAN, 0), (ACD_CLEANREQ, 0), (ACD_PRECLEAR, 1)]) else s

/-! ## Control (R199, R227, R252) -/

/-- `ACD_RESYNC` and RESYNC (R248, R250): nothing is resynchronised before the engine runs (R252). DESIGN CHOICE: SCAN clears when no zone is
left to resynchronise; the spec does not say when (log entry 24). -/
def showResync (s : State) : State :=
  let t := s.setMany 0 [(ACD_RESYNC_ZONES, s.acd.resync.length), (ACD_STS_RESYNC, (s.on ACD_CTL_RUN 0 && !s.acd.resync.isEmpty).toNat)]
  if s.acd.resync.isEmpty then t.set ACD_RESYNC_SCAN 0 0 else t

/-- The engine starts (R199, R245, R252): it judges its members, the zones restored for it are resynchronised from now on, and where the newest
record has CLEAN set the first row write waits for one with CLEAN clear. -/
def startEngine (s : State) : State :=
  let t := updateMembers (showResync s)
  let t := if t.acd.resync.isEmpty then t else pulse 218 0xFF t
  if !t.on ACD_CTL_CLEAN 0 && (newestRecord t).any (·.clean) then t.setMany 0 [(ACD_PRECLEAR, 1), (ACD_JREQ, 1)] else t

/-- ACD_RUN (R199, R252); the engine of a row or pod manager stays clear (R11, R592). -/
def acdRun (run : Bool) (s : State) : State :=
  let on := run && !noMembers s
  let t := s.setMany 0 [(ACD_CTL_RUN, on.toNat), (ACD_STS_RUNNING, on.toNat)]
  if on && !s.on ACD_CTL_RUN 0 then startEngine t else showResync t

/-- RBLD_HOLD (R227). -/
def rbldHold (hold : Bool) (s : State) : State := s.set ACD_CTL_RBLD_HOLD 0 hold.toNat

/-- ACD_LOSE (R199, R200, R250): without the key the write is ignored. -/
def acdLose (v : Nat) (s : State) : State :=
  let x := bits v 0 6
  if bits v 8 8 = 0xA5 ∧ s.memberMask.testBit x then loseMember x (s.setBit ACD_LOSEMASK 0 x true) else s

/-! ## Streams and rows (R213–R218) -/

/-- A side misses a head of some member that is not LOST. -/
def sideDegraded (d : Nat) (s : State) : Bool :=
  (membersOf s.memberMask).any fun x => !isLost x s && !sideServed x d s

/-- The zone that a side serves. -/
def servedBy (d : Nat) (s : State) : Option Nat := (s.acd.turn.find d).map (·.1)

/-- The next row of a zone to submit: its partial row, else the one after its newest, else the one at the write pointer. -/
def nextRow (z : Nat) (s : State) : Nat :=
  match (s.rows.filter fun r => r.zone == z).getLast? with
  | some r => if r.blocks < s.fb * s.k then r.row else r.row + 1
  | none => (s.zone z).wp / (s.fb * Nat.max 1 s.k)

/-- A zone has write data waiting that a side can serve: they complete its next row; a row in want of blocks waits for them, not for a side
(R213; log entry 12). -/
def dataWaits (z : Nat) (s : State) : Bool :=
  (s.acd.waiting.any fun w => w.1 == z) && decide (s.fb * s.k * (nextRow z s + 1) ≤ (s.zone z).ready)

/-- The zone has a REDIRECT segment (R213, R215). -/
def zoneRedirects (z : Nat) (s : State) : Bool := s.acd.redirect.any fun r => r.2.1 == z

/-- The zone that a turn goes to: the one whose data has waited longest and that no side serves (R213). A degraded side takes one with REDIRECT
records before the others, and leaves the first of the others to the side that is not degraded while that side serves none. -/
def streamPick (d : Nat) (s : State) : Option Nat :=
  let l := ((s.acd.waiting.map (·.1)).filter fun z => dataWaits z s && servedBy (1 - d) s != some z && servedBy d s != some z).eraseDups
  if sideDegraded d s && !sideDegraded (1 - d) s then
    match l.find? fun z => zoneRedirects z s with
    | some z => some z
    | none => if (servedBy (1 - d) s).isSome then l.head? else l[1]?
  else l.head?

/-- The present turn of side `d` goes on (R213). -/
def streamStays (d : Nat) (s : State) : Bool :=
  match s.acd.turn.find d with
  | some (z, n) => dataWaits z s && (decide (n < s.get ACD_STREAM_QUANTUM 0)
      || !s.acd.waiting.any fun w => w.1 != z && servedBy (1 - d) s != some w.1 && dataWaits w.1 s)
  | none => false

/-- Side `d` serves a zone from now on, or none. -/
def setTurn (d : Nat) (o : Option Nat) (s : State) : State :=
  match o with
  | some z => { s with acd := { s.acd with turn := s.acd.turn.put d (z, 0) } }
  | none => { s with acd := { s.acd with turn := s.acd.turn.del d } }

/-- STREAM_TURN (R213). -/
def streamTurn (d : Nat) (s : State) : State := if streamStays d s then s else setTurn d (streamPick d s) s

/-- ACD accepts row writes (R197, R245, R252); none is begun while an activation drains (R474). -/
def rowsAllowed (s : State) : Bool :=
  s.on ACD_CTL_RUN 0 && !s.on NVQ_STS_ACTIVATING 0 && !s.on ACD_CTL_CLEAN 0 && !s.on ACD_PRECLEAR 0 && s.on ACD_PLC_STS_VALID 0

/-- The data of a row no longer wait for a side. -/
def dropWaiting (z e : Nat) (s : State) : State :=
  { s with acd := { s.acd with waiting := s.acd.waiting.filter fun w => !(w.1 == z && decide (w.2 ≤ e)) } }

/-- ROW_SUBMIT (R157, R180, R195, R202, R203, R214, R215): the next row of the zone whose blocks are all there, served by a side, within
AHEAD uncommitted rows. -/
def rowSubmit (z : Nat) (s : State) : State :=
  let r := nextRow z s
  let per := s.fb * s.k
  let served := servedBy 0 s == some z || servedBy 1 s == some z
  let zr := s.zone z
  if !rowsAllowed s || zr.finished || !served || !aheadOk z r s || s.acd.resync.contains z || decide (zr.ready < per * (r + 1)) || s.k = 0 then s
  else dropWaiting z (per * (r + 1)) (layRow z r per (showFront z r per s))

/-! ## Rebuild (R221–R231) -/

/-- Zones of the drive (R141): those of the lowest accepted descriptor; those of the shelf in the manager role (R605). -/
def zoneTotal (s : State) : Nat :=
  if driveRole s then ((s.descs.head?).map fun d => d.2.nz).getD s.zones.length else s.get MGR_NZS 0

/-- Rows of the zones with rows, before a position (zone, row). -/
def rowsBefore (p : Nat × Nat) (s : State) : Nat :=
  (s.zones.map fun e => if e.1 < p.1 then zoneRows e.1 s else if e.1 = p.1 then Nat.min p.2 (zoneRows e.1 s) else 0).sum

/-- The position of pass `p`: the row that it visits next. -/
def passNow (p : Nat) (s : State) : Nat × Nat := (s.get ACD_NOWZONE p, s.get ACD_NOWROW p)

/-- Rows that pass `p` has still to visit: from its position on to its START, over the last zone to zone 0 (R222). -/
def rowsLeft (p : Nat) (s : State) : Nat :=
  let now := rowsBefore (passNow p s) s
  let start := rowsBefore (passStart p s) s
  if s.on ACD_PEND p then 0
  else if posLt (passNow p s) (passStart p s) then start - now
  else (s.zones.map fun e => zoneRows e.1 s).sum - now + start

/-- `ACD_RBLD_LEFT` (R250). -/
def showLeft (s : State) : State := s.set ACD_RBLD_LEFT 0 (((List.range 16).filter (passOpen s)).map fun p => rowsLeft p s).sum

/-- Pass `p` leaves its zone for position `n`: the other side processes the next zone (R228). -/
def enterZone (p : Nat) (n : Nat × Nat) (s : State) : State :=
  if n.1 = s.get ACD_NOWZONE p then s.set ACD_NOWROW p n.2
  else (s.bump ACD_ZDONE p).setMany p [(ACD_NOWZONE, n.1), (ACD_NOWROW, n.2), (ACD_PSIDE, 1 - s.get ACD_PSIDE p)]

/-- Pass `p` enters zone and row `n`, having come round the last zone or not; it ends when that takes it back to its START (R222). -/
def passTo (p : Nat) (n : Nat × Nat) (lap : Bool) (s : State) : State :=
  let t := enterZone p n s
  if (lap || posLt (passNow p s) (passStart p s)) && !posLt n (passStart p s) then t.set ACD_PEND p 1 else t

/-- Pass `p` goes to row `r` of its zone, or, where the zone has no such row, to row 0 of the next zone that has rows; it ends when it comes
back to its START (R222). -/
def movePass (p r : Nat) (s : State) : State :=
  let old := passNow p s
  let l := (s.zones.filter fun e => zoneRows e.1 s != 0).map (·.1)
  if r < zoneRows old.1 s then passTo p (old.1, r) false s
  else match l.find? (old.1 < ·), l.head? with
    | some z, _ => passTo p (z, 0) false s
    | none, some z => passTo p (z, 0) true s
    | none, none => s.set ACD_PEND p 1

/-- The pass has visited a row and goes to the next (R222, R229). -/
def advancePass (p : Nat) (s : State) : State := showLeft (movePass p (s.get ACD_NOWROW p + 1) (s.bump ACD_VISIT p))

/-- The pass stands on a row that exists: it leaves a zone whose rows have gone (R231). -/
def seatPass (p : Nat) (s : State) : State :=
  if s.get ACD_NOWROW p < zoneRows (s.get ACD_NOWZONE p) s then s else showLeft (movePass p (s.get ACD_NOWROW p) s)

/-- Rebuild is halted (R227): by RBLD_HOLD, by a spin-down, or in PS3 and PS4, which leave no lanes. -/
def rebuildHalted (s : State) : Bool :=
  s.on ACD_CTL_RBLD_HOLD 0 || (driveRole s && (!s.on SPN_STATE_LOADOK 0 || decide (3 ≤ s.get NVQ_STS_PS 0)))

/-- A halted pass resumes at its CURSOR (R227): what it has read or collected since is given up. -/
def rewindPass (p : Nat) (s : State) : State :=
  let n := s.get ACD_PSER p
  { s with acd := { s.acd with rebuilt := s.acd.rebuilt.filter (fun q => q.2.2.2.2 != n), deferred := s.acd.deferred.filter fun e => e.1 != n } }.setMany p
    [(ACD_NOWROW, s.get ACD_PASS_CUR_ROW p), (ACD_NOWZONE, s.get ACD_PASS_CUR_ZONE p), (ACD_VISIT, 0), (ACD_ZDONE, 0), (ACD_PEND, 0)]

/-- Every pass that is incomplete stands at its CURSOR while rebuild is halted (R227). -/
def haltRebuild (s : State) : State :=
  if rebuildHalted s && (runningPass s).isSome then showLeft (forAll ((List.range 16).filter (passOpen s)) rewindPass s) else s

/-- The segments of pass `p`. -/
def ofPass (p : Nat) (g : Segment) (s : State) : Bool := g.kind == .rebuild && s.is ACD_PSER p g.pass

/-- Nothing of a pass is left on its way: no row read, deferred, collected or being written (R229). -/
def passSettled (p : Nat) (s : State) : Bool :=
  let n := s.get ACD_PSER p
  !(s.ops.any fun o => o.pass == some n) && !(s.acd.deferred.any fun e => e.1 == n) && !(s.acd.rebuilt.any fun e => e.2.2.2.2 == n)
    && !(s.acd.segs.any fun g => ofPass p g s && !isLost g.target s && g.frames.any fun f => !f.dead && !f.placed)

/-- The CURSOR of pass `p` is its position, and the write positions of its segments are recorded (R229). -/
def recordCursor (p : Nat) (s : State) : State :=
  let keep (g : Segment) : Segment := if ofPass p g s then { g with frames := g.frames.map fun f => { f with kept := true } } else g
  { s with acd := { s.acd with segs := s.acd.segs.map keep } }.setMany p
    [(ACD_PASS_CUR_ROW, s.get ACD_NOWROW p), (ACD_PASS_CUR_ZONE, s.get ACD_NOWZONE p)]

/-- A pass that has come back to its START and whose frames are all written is complete (R222, R229). -/
def finishPass (p : Nat) (s : State) : State :=
  if s.on ACD_PEND p && passSettled p s then
    showLeft (showPass (((recordCursor p s).set ACD_PASS_DONE p 1).set ACD_JREQ 0 1))
  else s

/-- Frame `pos` of a row has been rebuilt and awaits its write (R231). -/
def collected (z r pos : Nat) (s : State) : Bool := s.acd.rebuilt.any fun q => q.1 == z && q.2.1 == r && q.2.2.1 == pos

/-- Rebuild one row for pass `n` from the frames `have0` (R225, R226): frames of LOST members are collected for the pass's segments, frames
recorded unreadable go to FRAME segments; a row with a frame without place is counted (R210). For `n` = 0 the row has no pass, and frames of
LOST members stay for one. A frame whose reconstruction does not hold is lost still (R425). -/
def rebuildOne (n z r : Nat) (have0 lost : List Nat) (s : State) : State :=
  let t := reconstructRow z r have0 lost s
  let wrong := wrongFrames z r lost t
  let todo := lost.filter fun pos => !relocPending z r pos s && !collected z r pos s
  let t := forAll (todo.filter fun pos => !wrong.contains pos) (fun pos u =>
    if !isLost (placeOf z r pos u).1 u then relocateFrame z r pos u
    else if n = 0 then u
    else match relocTarget .rebuild z r pos none 0 n u with
      | some y => { u with acd := { u.acd with rebuilt := u.acd.rebuilt ++ [(z, r, pos, y, n)] } }
      | none => u) (reportWrong z r wrong t)
  if n != 0 && todo.any fun pos => !relocPending z r pos t && !collected z r pos t then t.bump ACD_RBLD_SKIP 0 else t

/-- A row is put off to the other side's turn (R228); one that it has been put off to this side for already is left, and counted
(log entry 12). -/
def deferRow (n z r d : Nat) (again : Bool) (s : State) : State :=
  if again then s.bump ACD_RBLD_SKIP 0 else { s with acd := { s.acd with deferred := s.acd.deferred ++ [(n, z, r, 1 - d)] } }

/-- The pass takes the row (R222): its losses, with a frame not on its way elsewhere that is of a member of the mask or recorded unreadable among
them, are as many as its LEVEL; the pass of level m takes rows with more as well. -/
def passTakes (p z r : Nat) (s : State) : Bool :=
  let lost := lostPositions z r s
  let lv := s.get ACD_PASS_LEVEL p
  (lost.any fun pos => !relocPending z r pos s && !collected z r pos s
      && ((s.get ACD_PASS_MASK p).testBit (placeOf z r pos s).1 || s.acd.bad.contains (z, r, pos)))
    && (lost.length == lv || (lv == s.m && decide (s.m < lost.length)))

/-- Work on a row that pass `n` takes, through side `d` (R225, R228, R237): the reads of its survivors. -/
def startRow (n z r mtag d : Nat) (again : Bool) (s : State) : State :=
  if decide (lossCount z r s ≤ s.m) && !sideSuffices z r d s then deferRow n z r d again s else gatherRow z r n mtag d s

/-- The buffer has room for the rebuilt frames of one more row (R231). -/
def bufferRoom (s : State) : Bool := decide ((s.acd.rebuilt.length + s.m) * (4096 * s.fb) ≤ s.get ACD_RBLD_BUF 0 * 16777216)

/-- Rebuild goes on (R223, R227, R231, R252): the engine runs, AUTO is set, nothing halts it, and no row of a pass is being read. -/
def rebuildRuns (s : State) : Bool :=
  s.on ACD_CTL_RUN 0 && s.on ACD_RBLD_AUTO 0 && !rebuildHalted s && bufferRoom s && !(s.ops.any fun o => o.pass.any (· != 0))

/-- REBUILD_ROW (R222–R228, R231, R237), through one side: a row deferred to it, else the running pass's present row, whose zone that side
processes. A pass works on one row at a time. -/
def rebuildRow (d mtag : Nat) (s : State) : State :=
  if !rebuildRuns s then haltRebuild s
  else
    match runningPass s with
    | none => s
    | some p =>
      let n := s.get ACD_PSER p
      match s.acd.deferred.find? fun e => e.1 == n && e.2.2.2 == d with
      | some e =>
        let t := { s with acd := { s.acd with deferred := s.acd.deferred.erase e } }
        if passTakes p e.2.1 e.2.2.1 t then startRow n e.2.1 e.2.2.1 mtag d true t else t
      | none =>
        let t := seatPass p s
        if t.on ACD_PEND p then finishPass p t
        else if t.get ACD_PSIDE p ≠ d then t
        else
          let x := passNow p t
          if passTakes p x.1 x.2 t then startRow n x.1 x.2 mtag d false (advancePass p t) else advancePass p t

/-- The reads of a row have ended (R225, R226, R237): it is reconstructed, or dealt with as unrecoverable; with too few frames left on this side
it is put off. Those of a pass that has been replaced or is halted come to nothing (R224, R227). -/
def endRebuild (o : MediaOp) (s : State) : State :=
  let n := o.pass.getD 0
  let t := closeOp o.mtag s
  let live := n == 0 || ((passRecord n t).any (passOpen t) && !rebuildHalted t)
  if !live || !decide (o.row < zoneRows o.zone t) then t
  else if t.m < lossCount o.zone o.row t then unrecoverableRow o.zone o.row t
  else if enoughRead o.zone o.row (o.positions o.zone o.row) t then
    rebuildOne n o.zone o.row (o.positions o.zone o.row) (lostPositions o.zone o.row t) t
  else if n = 0 then t
  else deferRow n o.zone o.row o.side false t

/-- Rows whose reads have ended, and a pass that has ended with them (R222, R225, R227). -/
def settleRebuild (s : State) : State :=
  let t := haltRebuild (forAll (s.ops.filter fun o => o.pass.isSome && !opBusy o.mtag s) endRebuild s)
  match runningPass t with
  | some p => if t.on ACD_CTL_RUN 0 then finishPass p t else t
  | none => t

/-- A rebuilt frame comes before another in pass order (R208). -/
def rebuiltLe (a b : Nat × Nat × Nat × Nat × Nat) (s : State) : Bool :=
  segOrder .rebuild a.2.2.2.2 (a.1, a.2.1, a.2.2.1) (b.1, b.2.1, b.2.2.1) s

/-- A rebuilt frame among others in pass order. -/
def insertRebuilt (a : Nat × Nat × Nat × Nat × Nat) (s : State) : List (Nat × Nat × Nat × Nat × Nat) → List (Nat × Nat × Nat × Nat × Nat)
  | [] => [a]
  | b :: l => if rebuiltLe a b s then a :: b :: l else b :: insertRebuilt a s l

/-- The rebuilt frames collected, in pass order; those whose target has become LOST are lost again (R231). -/
def rebuiltInOrder (s : State) : List (Nat × Nat × Nat × Nat × Nat) :=
  (s.acd.rebuilt.filter fun q => !isLost q.2.2.2.1 s).foldr (fun a l => insertRebuilt a s l) []

/-- A rebuilt frame goes to its target's segment of the pass that has rebuilt it (R208); one that finds no place there is counted (R210). -/
def fileRebuilt (q : Nat × Nat × Nat × Nat × Nat) (s : State) : State :=
  let t := addToSeg .rebuild q.2.2.2.1 0 q.2.2.2.2 q.1 q.2.1 q.2.2.1 s
  if relocPending q.1 q.2.1 q.2.2.1 t then t else t.bump ACD_RBLD_SKIP 0

/-- REBUILD_BATCH_WRITE (R208, R231, R252): after BATCH zones, with a full buffer, or at the end of the pass. -/
def rebuildBatchWrite (s : State) : State :=
  let p := (runningPass s).getD 16
  let due := p = 16 || decide (s.get ACD_RBLD_BATCH 0 ≤ s.get ACD_ZDONE p) || s.on ACD_PEND p
  if !s.on ACD_CTL_RUN 0 || s.acd.rebuilt.isEmpty || !(!bufferRoom s || due) then s
  else (forAll (rebuiltInOrder s) fileRebuilt { s with acd := { s.acd with rebuilt := [] } }).set ACD_ZDONE p 0

/-- CURSOR_UPDATE (R229): every 1,024 rows visited, once the rows before it are rebuilt and verified. -/
def cursorUpdate (s : State) : State :=
  match runningPass s with
  | none => s
  | some p =>
    if s.get ACD_VISIT p < 1024 || s.on ACD_PEND p || !passSettled p s then s
    else showPass ((((recordCursor p s).set ACD_VISIT p (s.get ACD_VISIT p - 1024)).bump ACD_CURN p).set ACD_JREQ 0 1)

/-! ## Restart and resynchronisation (R246–R249) -/

/-- A zone is active: implicitly or explicitly opened, or closed (R452). -/
def zoneActive (z : Zone) : Bool := z.state == 1 || z.state == 2 || z.state == 3

/-- ALLEMPTY and the zone counts (R197, R454). -/
def showZones (s : State) : State :=
  s.setMany 0 [(ACD_STS_ALLEMPTY, (s.zones.all fun e => e.2.state == 0).toNat),
    (NVQ_ZACT_ACTIVE, s.zones.countP fun e => zoneActive e.2), (NVQ_ZACT_OPENED, s.zones.countP fun e => e.2.state == 1 || e.2.state == 2)]

/-- A segment as a restart finds it (R229): a REBUILD segment resumes at its recorded write position, another at its written frames; what lies
beyond is overwritten. -/
def resumeSeg (g : Segment) : Segment :=
  let l := if g.kind = .rebuild then g.frames.takeWhile (·.kept) else (g.frames.reverse.dropWhile fun f => !f.placed).reverse
  { g with frames := l.map fun f => if f.placed then f else { f with dead := true } }

/-- The engine's state is that of an image (R229, R246): pointers are the committed ones, opened zones are closed by the stop. A LOST member
stays so (R200). -/
def applyImage (i : AcdImage) (s : State) : State :=
  let regs := i.passes.foldl (fun r e => RegFile.put r e.1.1 e.1.2 e.2) (s.regs.drop fun x => passFields.any fun f => f.id == x)
  let t := { s with
    zones := i.zones.map fun (e : Nat × Zone) => (e.1, { e.2 with accept := e.2.wp, ready := e.2.wp, durable := e.2.wp })
    acd := { i.acd with
      segs := i.acd.segs.map resumeSeg, rebuilt := [], deferred := [], turn := [], waiting := [], held := s.acd.held, resync := [] }
    fronts := i.fronts, rows := [], regs := regs, slips := i.slips }
  let lost := i.lost ||| s.lostMask
  let t := (t.set ACD_LOST 0 lost).set ACD_LOST 1 (lost / 2 ^ 32)
  let t := t.set ACD_STS_LOST_CNT 0 (popCount lost)
  let t := forAll i.olds (fun p u => u.setMany p [(ACD_OLD, 0), (ACD_PASS_VALID, 0)]) t
  let t := forBelow 16 (fun p u => u.setMany p [(ACD_NOWROW, u.get ACD_PASS_CUR_ROW p), (ACD_NOWZONE, u.get ACD_PASS_CUR_ZONE p)]) t
  showUnrec (showPass (showZones t))

/-- The checkpoints that can be read: by member and slot (R244, R246). -/
def readableSaves (bad : List (Nat × Nat)) (s : State) : List AcdImage :=
  (s.media.saves.filter fun e => !bad.contains (e.1 / 2, e.1 % 2)).map (·.2)

/-- The records of a checkpoint that can be read: by member and sequence number (R240, R246). -/
def readableRecords (bad : List (Nat × Nat)) (ckpt : Nat) (s : State) : List AcdImage :=
  (s.media.journal.flatMap fun e => e.2.filter fun r => !bad.contains (e.1, r.seq)).filter fun r => r.ckpt == ckpt

/-- The zones that a restart resynchronises (R246, R247, R249): with a record, the active ones unless it has CLEAN set; else every zone that is
not full in the checkpoint. -/
def resyncZones (r : Option AcdImage) (s : State) : List Nat :=
  match r with
  | some r => if r.clean then [] else (s.zones.filter fun e => zoneActive e.2).map (·.1)
  | none => (List.range (zoneTotal s)).filter fun z => (s.zone z).state != 4

/-- CHECKPOINT_RESTORE (R206, R246, R247, R249, R252). Without a readable checkpoint nothing can be restored. -/
def checkpointRestore (badSaves badRecords : List (Nat × Nat)) (s : State) : State :=
  match newestBy (·.ckpt) (readableSaves badSaves s) with
  | none => s
  | some c =>
    let r := newestBy (·.seq) (readableRecords badRecords c.ckpt s)
    let t := applyImage (r.getD c) s
    let t := t.setMany 0 [(ACD_JRNL_SEQ, (r.map (·.seq)).getD (s.get ACD_JRNL_SEQ 0)),
      (ACD_JSEQ, Nat.max (s.get ACD_JSEQ 0) (r.getD c).seq), (ACD_KSEQ, c.ckpt)]
    let t := checkTable (plcCrc t == c.crc) t
    let t := { t with acd := { t.acd with resync := resyncZones r t } }.set ACD_RESYNC_SCAN 0 r.isNone.toNat
    updateSpare (updateMembers (showResync t))

/-- The zone that a side resynchronises next (R248). -/
def nextResync (s : State) : Option Nat :=
  match s.acd.held.find? fun z => s.acd.resync.contains z with
  | some z => some z
  | none => s.acd.resync.min?

/-- The stream positions that a shelf resynchronisation abandons become slips, and the pointer is that of the last adopted block
(R612). -/
def adoptShelf (z ptr : Nat) (bad : List (Nat × Nat)) (s : State) : State :=
  let zr := s.zone z
  let t := s.setZone z { zr with wp := Nat.max zr.wp ptr, accept := Nat.max zr.wp ptr, ready := Nat.max zr.wp ptr, durable := Nat.max zr.wp ptr }
  { t with slips := t.slips ++ bad.map fun (b : Nat × Nat) =>
      (z, entryMember (entryOf z b.1 s) b.2 s, streamPos z b.1 (entryMember (entryOf z b.1 s) b.2 s) s) }

/-- What a scan has read of row `r`: it is present, with a GEN, when at least k of its frames decode with that GEN (R249). -/
def scanGen (scan : List (Nat × List (BitVec 9))) (r : Nat) (s : State) : Option Nat :=
  let l := ((scan.find? fun e => e.1 == r).map (·.2)).getD []
  (l.find? fun g => decide (s.k ≤ l.count g)).map BitVec.toNat

/-- The row at which the scan of a zone starts, and the zone's GEN (R249). -/
def scanStart (z : Nat) (scan : List (Nat × List (BitVec 9))) (s : State) : Nat × Nat :=
  let zr := s.zone z
  match scanGen scan 0 s with
  | some g => if g = zr.gen % 512 then (zr.wp / (s.fb * Nat.max 1 s.k), zr.gen) else (0, g)
  | none => (zr.wp / (s.fb * Nat.max 1 s.k), zr.gen)

/-- Rows that a scan adopts: those present with the zone's GEN, up to the first that is not (R249). -/
def scanRows (z : Nat) (scan : List (Nat × List (BitVec 9))) (s : State) : Nat :=
  let st := scanStart z scan s
  ((List.range scan.length).takeWhile fun i => scanGen scan (st.1 + i) s == some (st.2 % 512)).length

/-- The pointer that a scan finds (R249): after the last block of the last row adopted that is no pad block. -/
def scanPointer (z : Nat) (scan : List (Nat × List (BitVec 9))) (last : Nat) (s : State) : Nat :=
  let per := s.fb * Nat.max 1 s.k
  let n := scanRows z scan s
  if n = 0 then (s.zone z).wp else ((scanStart z scan s).1 + n - 1) * per + Nat.min last per

/-- The state of a zone whose pointer a scan has set: one with data is not empty, and one with all its data is full; the spec states the pointer
only (log entry 24). -/
def scanState (ptr : Nat) (zr : Zone) : Nat := if ptr = 0 then zr.state else if zr.cap ≠ 0 ∧ zr.cap ≤ ptr then 4 else if zr.state = 0 then 3 else zr.state

/-- A zone takes the pointer and GEN of its scan (R249), with the frontier frame that they give. -/
def scanZone (z : Nat) (scan : List (Nat × List (BitVec 9))) (last : Nat) (s : State) : State :=
  let zr := s.zone z
  let ptr := scanPointer z scan last s
  let per := s.fb * Nat.max 1 s.k
  let t := s.setZone z { zr with
    state := scanState ptr zr, gen := (scanStart z scan s).2, wp := ptr, accept := ptr, ready := ptr, durable := ptr }
  { t with fronts := if ptr % s.fb = 0 then t.fronts.del z else t.fronts.put z ⟨ptr / per, ptr % per / s.fb, ptr % s.fb, ptr % s.fb, false, []⟩ }

/-- Frames of a row that a resynchronisation reads have the contents of the media, which are free here (log entry 11). -/
def fetchRow (z r : Nat) (l : List Nat) (s : State) : State :=
  forAll l (fun pos t => forBelow t.fb (fun c u =>
    let a := imageAt z r pos c
    cleanRange a cwBytes { u with mem := writeGuard a (u.mem.writeList a (freeBytes u.fresh cwBytes)), fresh := u.fresh + cwBytes }) t) s

/-- The stored parity frames of a zone's frontier row that count as unreadable (R247, R249): all of them, unless PARITY_STABLE is set and the
zone is not scanned. -/
def frontierBad (z : Nat) (scan : Bool) (s : State) : List (Nat × Nat) :=
  let per := s.fb * Nat.max 1 s.k
  let r := (s.zone z).wp / per
  if (s.zone z).wp % per = 0 || (!scan && parityStable z r s) then [] else (List.range s.m).map fun i => (r, s.k + i)

/-- One row of a zone under resynchronisation with frames that differ or cannot be read (R237, R247): its readable frames are read, its data
reconstructed or listed, its parity recomputed, and what changes goes to FRAME segments. The side that resynchronises reads; frames that it has
no heads for are read by the other where it could not do without them. -/
def resyncRow (d z r : Nat) (bad : List Nat) (s : State) : State :=
  let new := (bad.filter fun p => !s.acd.bad.contains (z, r, p)).map fun p => (z, r, p)
  let t := { s with acd := { s.acd with bad := s.acd.bad ++ new } }
  let lost := lostPositions z r t
  let mine := (heldPositions z r t).filter fun p => frameAvailable z r p d t
  let good := if enoughRead z r mine t then mine else (heldPositions z r t).filter fun p => !lost.contains p
  let t := fetchRow z r good t
  if t.m < lost.length then unrecoverableRow z r t else rebuildOne 0 z r good lost t

/-- RESYNC_ZONE (R181, R247–R249, R252); on a shelf R612. -/
def resyncZone (d : Nat) (bad : List (Nat × Nat)) (scan : List (Nat × List (BitVec 9))) (last : Nat) (s : State) : State :=
  if !s.on ACD_CTL_RUN 0 then s
  else
    match nextResync s with
    | none => s
    | some z =>
      let scanned := s.on ACD_RESYNC_SCAN 0
      let t := if !driveRole s then adoptShelf z last bad s
        else
          let t := if scanned then scanZone z scan last s else s
          let all := bad ++ frontierBad z scanned t
          forAll ((all.map (·.1)).eraseDups.filter fun r => decide (r < zoneRows z t))
            (fun r u => resyncRow d z r ((all.filter fun b => b.1 == r).map (·.2)).eraseDups u) t
      showZones (showResync { t with acd := { t.acd with resync := t.acd.resync.erase z, held := t.acd.held.filter (· ≠ z) } })

end Sys2Proof.Machine
end

