-- ==== Sys2Proof/Machine/Shelf.lean ====
section
/-!
DEFINITION. The shelf namespace of the manager role (R601–R612): rows over worker zones, peer commands and their completions.
-/

namespace Sys2Proof.Machine

/-- Blocks of a row. -/
def rowBlocks (s : State) : Nat := s.fb * Nat.max 1 s.k

/-! ## Writing rows (R602, R604, R608, R609) -/

/-- Write blocks `[b, b + n)` of a unit; the unit of a LOST worker is recorded unreadable. -/
def unitSend (z r pos b n : Nat) (s : State) : State :=
  let p := placeOf z r pos s
  if isLost p.1 s then
    if s.acd.bad.contains (z, r, pos) then s else { s with acd := { s.acd with bad := s.acd.bad ++ [(z, r, pos)] } }
  else unitCmd p (.unit z r pos) b n s

/-- Write the data blocks `[b0, b1)` of a row. -/
def sendData (z r b0 b1 : Nat) (s : State) : State :=
  forBelow s.k (fun d t =>
    let lo := Nat.max b0 (d * t.fb)
    let hi := Nat.min b1 ((d + 1) * t.fb)
    if lo < hi then unitSend z r d (lo - d * t.fb) (hi - lo) t else t) s

/-- The positions of a row with a peer command in flight. -/
def unitsLeft (z r : Nat) (s : State) : List Nat :=
  (List.range s.w).filter fun pos => s.peers.any fun p => p.kind == .unit z r pos || p.kind == .plog z r (pos - s.k) && decide (s.k ≤ pos)

/-- Enter or change the record of a row. -/
def putShelf (z r blocks : Nat) (s : State) : State :=
  let row : ShelfRow := ⟨z, r, blocks, unitsLeft z r s⟩
  if s.shelf.any fun x => x.zone == z && x.row == r then
    { s with shelf := s.shelf.map fun x => if x.zone = z ∧ x.row = r then row else x }
  else { s with shelf := s.shelf ++ [row] }

/-- The block after the last one that lies in a row being written (R466, R608). -/
def rowEnd (z : Nat) (s : State) : Nat :=
  let a := s.rows.foldl (fun n r => if r.zone = z ∧ r.submitted then Nat.max n (rowBlocks s * r.row + r.blocks) else n) (s.zone z).wp
  s.shelf.foldl (fun n r => if r.zone = z then Nat.max n (rowBlocks s * r.row + r.blocks) else n) a

/-- ROW_SUBMIT in the manager role (R604, R608): the zone's next row, once its blocks are all there. -/
def shelfSubmit (z : Nat) (s : State) : State :=
  let per := rowBlocks s
  let done := rowEnd z s
  let r := done / per
  if !rowsAllowed s || s.acd.resync.contains z || s.k = 0 || decide ((s.zone z).ready < per * (r + 1)) then s
  else
    let t := sendData z r (done - per * r) per (writeParities z r per s)
    putShelf z r per (forBelow s.m (fun i u => unitSend z r (s.k + i) 0 s.fb u) t)

/-- The worker zone of parity log `a` of a worker: its last two zones (R604; log entry 38). -/
def logZone (a : Nat) (s : State) : Nat := s.get MGR_WNZ 0 - 2 + a

/-- Append the current parity unit `i` of a partial row to the active parity-log zone of its parity member: a header block and the unit's
blocks (R609). A log zone without room gives way to the other. -/
def logParity (z r i : Nat) (s : State) : State :=
  let x := entryMember (entryOf z r s) (s.k + i) s
  let a := s.get MGR_PLOGA x
  let n := 1 + s.fb
  let a := if Config.workerUnits x (logZone a s) * s.fb < s.get MGR_PLOGWP (2 * x + a) + n then 1 - a else a
  let y := logZone a s
  let t := reservedSend x y (.plog z r i) (s.get MGR_PLOGWP (2 * x + a)) n s
  ({ t with acd := { t.acd with plogs := t.acd.plogs ++ [(x, a, z, r)] } }.set MGR_PLOGA x a).add MGR_PLOGWP (2 * x + a) n

/-- Rows have become complete or are gone: a parity-log zone that has entries, none of them of an incomplete row, is reset (R609). -/
def dropLogs (gone : Nat → Nat → Bool) (s : State) : State :=
  let l := s.acd.plogs.filter fun e => gone e.2.2.1 e.2.2.2
  let t := { s with acd := { s.acd with plogs := s.acd.plogs.filter fun e => !gone e.2.2.1 e.2.2.2 } }
  forAll ((l.map fun e => (e.1, e.2.1)).eraseDups) (fun k u =>
    if u.acd.plogs.any fun e => e.1 == k.1 && e.2.1 == k.2 then u
    else (reservedSend k.1 (logZone k.2 u) (.logReset k.2) 0 0 u).set MGR_PLOGWP (2 * k.1 + k.2) 0) t

/-- The frontier of a shelf zone (R609): the new data of the partial row, and its parity units in the parity log. -/
def shelfFrontier (z : Nat) (s : State) : State :=
  let per := rowBlocks s
  let done := rowEnd z s
  let ready := (s.zone z).ready
  let r := ready / per
  if done < per * r || ready ≤ done || !rowsAllowed s then s
  else
    let t := sendData z r (done - per * r) (ready - per * r) (writeParities z r (ready - per * r) s)
    putShelf z r (ready - per * r) (forBelow s.m (fun i u => logParity z r i u) t)

/-- RESYNC_ZONE; on a shelf the parity of the frontier row, recomputed from its data units as the workers hold them, is logged (R609,
R612). -/
def resyncLogged (d : Nat) (bad : List (Nat × Nat)) (scan : List (Nat × List (BitVec 9))) (last : Nat) (s : State) : State :=
  let t := resyncZone d bad scan last s
  if driveRole s || !s.on ACD_CTL_RUN 0 then t
  else match nextResync s with
    | none => t
    | some z =>
      let b := (t.zone z).wp % rowBlocks t
      let r := (t.zone z).wp / rowBlocks t
      if b = 0 then t
      else forBelow t.m (fun i u => logParity z r i u)
        (writeParities z r b (fetchRow z r ((List.range t.k).filter fun d => decide (d * t.fb < b)) t))

/-- Commit the first rows of a zone whose units have all completed (R608); `n` bounds them. -/
def shelfCommit (z : Nat) : Nat → State → State
  | 0, s => s
  | n + 1, s =>
    match s.shelf.find? fun x => x.zone == z with
    | none => s
    | some x =>
      if !x.left.isEmpty then s
      else
        let zr := s.zone z
        let t := { s.setZone z { zr with wp := Nat.max zr.wp (rowBlocks s * x.row + x.blocks) } with shelf := s.shelf.erase x }.set ACD_LAZY 0 1
        shelfCommit z n (if x.blocks = rowBlocks s then dropLogs (fun y q => y == z && q == x.row) t else t)

/-- A Finish completes the partial last row of a shelf zone (R217, R609): its parity goes to the parity members' streams. -/
def shelfFinish (z : Nat) (s : State) : State :=
  let b := (s.zone z).wp % rowBlocks s
  let r := (s.zone z).wp / rowBlocks s
  if driveRole s || b = 0 then s
  else dropLogs (fun y q => y == z && q == r) (forBelow s.m (fun i u => unitSend z r (s.k + i) 0 s.fb u) (writeParities z r b s))

/-- A unit of a row has completed. -/
def unitDone (z r pos : Nat) (s : State) : State :=
  shelfCommit z s.shelf.length { s with shelf := s.shelf.map fun x =>
    if x.zone = z ∧ x.row = r then { x with left := x.left.filter (· ≠ pos) } else x }

/-! ## Reading (R606, R610) -/

/-- Serve blocks `[b, b + n)` of a unit from `k` other units of the row (R219, R610); with fewer they are unrecovered (R233). -/
def shelfRecon (mtag z r pos b n : Nat) (s : State) : State :=
  let used := match s.ops.find? fun o => o.mtag == mtag with | some o => o.used | none => []
  let l := (List.range s.w).filter fun p =>
    p != pos && !used.contains (64 * r + p) && !isLost (placeOf z r p s).1 s && !s.acd.bad.contains (z, r, p)
  let busy := s.peers.countP fun p => match p.kind with | .fetch g zz rr _ => g == mtag && zz == z && rr == r | _ => false
  if l.length + busy < s.k then
    let t := forBelow n (fun i u => addUnrec z (u.fb * (r * u.k + pos) + b + i) u) s
    t.modOp mtag fun o => { o with lost := o.lost ++ (List.range n).map fun i => (r, pos, b + i) }
  else
    let t := s.modOp mtag fun o => { o with used := o.used ++ (64 * r + pos) :: (l.take s.k).map fun p => 64 * r + p }
    let t := (if isLost (placeOf z r pos s).1 s then t else relocateFrame z r pos t).bump ACD_CNT_RECON 0
    forAll (l.take (s.k - busy)) (fun p u => unitCmd (placeOf z r p u) (.fetch mtag z r p) b n u) t

/-- Read blocks `[b, b + n)` of a unit for the operation of a tag. -/
def unitRead (mtag z r pos b n : Nat) (s : State) : State :=
  let p := placeOf z r pos s
  if isLost p.1 s || s.acd.bad.contains (z, r, pos) then shelfRecon mtag z r pos b n s
  else unitCmd p (.fetch mtag z r pos) b n s

/-- The runs of blocks of `[lo, lo + n)` of a zone that are not listed as unrecovered, as first block and length (R234). -/
def unlistedRuns (z : Nat) (s : State) : Nat → Nat → List (Nat × Nat)
  | 0, _ => []
  | n + 1, lo =>
    let rest := unlistedRuns z s n (lo + 1)
    if isUnrec z lo s then rest
    else match rest with
      | (b, m) :: l => if b = lo + 1 then (lo, m + 1) :: l else (lo, 1) :: rest
      | [] => [(lo, 1)]

/-- A host read of blocks `[off, off + len)` of a shelf zone (R606); blocks listed as unrecovered are not read (R234). -/
def shelfRead (z off len mtag : Nat) (s : State) : State :=
  let t := addOp (newOp mtag .hostRead z 0 off len 0 true) s
  endOp mtag (forAll ((List.range (len / s.fb + 2)).map fun i => off / s.fb + i) (fun u x =>
    let lo := Nat.max off (u * x.fb)
    let hi := Nat.min (off + len) ((u + 1) * x.fb)
    forAll (unlistedRuns z x (hi - lo) lo) (fun q y => unitRead mtag z (u / Nat.max 1 y.k) (u % Nat.max 1 y.k) (q.1 - u * y.fb) q.2 y) x) t)

/-! ## Relocated units and rebuild (R610) -/

/-- A unit that a rebuild reads cannot be had: it is recorded unreadable, and another is read (R226). -/
def gatherFailed (mtag z r pos : Nat) (s : State) : State := takeSources mtag 1 (frameUnreadable z r pos s)

/-- The read of blocks of a unit has failed (R610): a rebuild takes another unit, and a read is served by the others. -/
def fetchFailed (mtag z r pos b n : Nat) (s : State) : State :=
  endOp mtag (if (s.op mtag).any (fun o => o.pass.isSome) then gatherFailed mtag z r pos s else shelfRecon mtag z r pos b n s)

/-- Relocated units that are not yet written, and have no write on its way, are sent to their worker zones (R220, R610). -/
def shelfRelocs (s : State) : State :=
  let busy (f : SegFrame) : Bool := (s.peers.any fun p => p.kind == .unit f.zone f.row f.pos)
    || s.shelf.any fun x => x.zone == f.zone && x.row == f.row
  let l := (s.acd.segs.filter fun g => !isLost g.target s).flatMap fun g =>
    g.frames.filter fun f => !f.dead && !f.placed && !busy f
  if driveRole s then s
  else forAll l (fun f t => unitCmd (newPlace f.zone f.row f.pos t) (.unit f.zone f.row f.pos) 0 t.fb t) s

/-! ## Capacity (R605) -/

/-- Rows that a shelf zone's streams take, and its capacity. -/
def shelfCapacity (z : Nat) (s : State) : Nat :=
  let units (x : Nat) : Nat :=
    let c := (List.range z).countP fun q => entryHolds (entryOf q 0 s) x s
    ((List.range (shelfG s)).map fun i => Config.workerUnits x (c * shelfG s + i)).sum
  let l := (List.range s.w).map fun pos => units (entryMember (entryOf z 0 s) pos s)
  (l.foldl Nat.min (l.headD 0) - s.get MGR_GEOM_SLACK 0) * rowBlocks s

/-- The member worker zones of a shelf zone are reset with it (R605). -/
def shelfReset (z : Nat) (s : State) : State :=
  let t := dropLogs (fun y _ => y == z) { s with slips := s.slips.filter fun e => e.1 ≠ z }
  forBelow s.w (fun pos u =>
    let x := entryMember (entryOf z 0 u) pos u
    let c := (List.range z).countP fun q => entryHolds (entryOf q 0 u) x u
    forBelow (shelfG u) (fun i v =>
      peerSend x ((c * shelfG v + i) % peerQueues v + 1) (.zreset z i) (c * shelfG v + i) 0 0 v) u) t

/-! ## Completions of peer commands (R602, R603, R606, R608, R610) -/

/-- The next command of a worker's bring-up (R601): 1 Number of Queues, then NQ completion and NQ submission queues, then Volatile
Write Cache; its vectors are pointed last. -/
def setupNext (slot step : Nat) (s : State) : State :=
  if step ≤ 2 * peerQueues s + 2 then peerSend slot 0 (.setup step) 0 0 0 s
  else (s.set MGR_UP slot 1).emit (.peer ⟨slot, 0, 0, .setup step, 0, 0, 0, 0, true⟩)

/-- A worker's status other than success. -/
def peerFailed (p : PeerCmd) (st : Nat) (s : State) : State :=
  match p.kind with
  | .unit z r pos =>
    let x := p.slot
    if relocPending z r pos s then pulse 339 x s
    else
    let t := pulse 339 x { s with slips := s.slips ++ [(z, x, streamPos z r x s)] }
    if t.get MGR_GEOM_SLACK 0 < (t.slips.countP fun e => e.1 == z && e.2.1 == x) then
      finishByController z r { t with shelf := t.shelf.filter fun q => !(q.zone == z && r ≤ q.row) }
    else unitSend z r pos (p.off % t.fb) p.len t
  | .plog z r i => peerSend p.slot p.qid (.plog z r i) p.wzone p.off p.len (pulse 339 p.slot s)
  | .fetch g z r pos =>
    let t := if st = 0x281 ∨ st = 0x004 then s else pulse 339 p.slot s
    fetchFailed g z r pos (p.off % t.fb) p.len t
  | .firmware _ => (pulse 339 p.slot s).addSat MGR_FW_FAIL 0 1
  | _ => pulse 339 p.slot s

/-- A peer command has completed. -/
def peerDone (p : PeerCmd) (st : Nat) (s : State) : State :=
  let t := { s with peers := s.peers.erase p }
  if st ≠ 0 then peerFailed p st t
  else
    match p.kind with
    | .setup n => setupNext p.slot (n + 1) t
    | .unit z r pos => if t.peers.any fun q => q.kind == p.kind then t else unitDone z r pos (markPlaced z r pos t)
    | .plog z r i => unitDone z r (t.k + i) t
    | .fetch g _ r pos => endOp g (t.modOp g fun o => if o.pass.isSome then { o with got := (r, pos) :: o.got } else o)
    | .firmware false => peerSend p.slot 0 (.firmware true) 0 0 0 t
    | .log => { t.used with harvest := t.harvest ++ [(t.get MGR_NODE_POD p.slot, t.timeUs, BitVec.ofNat 256 t.free)] }
    | _ => t

/-- Take the new entries of a completion queue in the peer region (R601, R602): an entry is new while it carries the expected phase
tag. Its layout is that of NVMe 2.0 (PRESUMED, log entry 38). -/
def serviceQueue (slot q : Nat) : Nat → State → State
  | 0, s => s
  | n + 1, s =>
    let i := 9 * slot + q
    let a := Config.peerQueue slot q + 16 * s.get PEER_HEAD i
    let w := s.mem.word (a + 14) 2
    if w % 2 ≠ s.get PEER_PH i then s
    else
      let t := if s.get PEER_HEAD i = 32 then (s.set PEER_HEAD i 0).set PEER_PH i (1 - s.get PEER_PH i) else s.bump PEER_HEAD i
      let cid := s.mem.word (a + 12) 2
      serviceQueue slot q n (match t.peers.find? fun p => p.slot == slot && p.qid == q && p.cid == cid with
        | some p => peerNext slot q (peerDone p (w / 2 % 2048) t)
        | none => t)

/-- A LOST worker's commands end: its units are missing, and reads are served by other units. -/
def dropPeers (slot : Nat) (s : State) : State :=
  forAll (s.peers.filter fun p => p.slot == slot) (fun p t =>
    let t := { t with peers := t.peers.erase p }
    match p.kind with
    | .unit z r pos => unitDone z r pos { t with acd := { t.acd with bad := t.acd.bad ++ [(z, r, pos)] } }
    | .plog z r i => unitDone z r (t.k + i) t
    | .fetch g z r pos => fetchFailed g z r pos (p.off % t.fb) p.len t
    | .firmware _ => t.addSat MGR_FW_FAIL 0 1
    | _ => t) s

/-- A worker becomes LOST (R603). -/
def loseWorker (slot : Nat) (s : State) : State :=
  if isLost slot s || !s.memberMask.testBit slot then s
  else dropPeers slot (pulse 336 slot ((loseMember slot s).set MGR_NODE_STATE slot 3))

/-- PEER_COMMAND_TIMEOUT (R603): the oldest command of the worker is tried again, or the worker is LOST after RETRY + 1 attempts. -/
def peerTimeout (slot attempts : Nat) (s : State) : State :=
  if s.get MGR_PEERCFG_RETRY 0 < attempts then loseWorker slot s
  else
    match s.peers.find? fun p => p.slot == slot with
    | none => s
    | some p =>
      let q := { p with tries := attempts }
      { s with peers := s.peers.map fun x => if x = p then q else x }.emit (.peer q)

end Sys2Proof.Machine
end

