-- ==== Sys2Proof/Machine/Spindle.lean ====
section
/-!
DEFINITION. Spindle control (spec/06): PWM periods, the observer and the hand-over between angles, torque demand, ramp, reference
input, starts, loss of the rotor, drydown, last gasp and wiring faults.
-/

namespace Sys2Proof.Machine

/-! ## Speed and angle by ANG -/

/-- The speed by ANG, signed, in rpm/16 (R50: `ANG_RATE` is in ticks per µs × 2^20). -/
def pilotSpeed (s : State) : Int :=
  let v : Int := (s.get ANG_RATE 0 * 960000000000 / (1048576000 * 4194304) : Nat)
  if s.on ANG_SRC_DIR 0 then -v else v

/-- ANG gives direction and speed (R333). -/
def pilotMeasures (s : State) : Bool := s.on ANG_SRC_VALID0 0 || s.on ANG_SRC_VALID1 0

/-- The speed is below 30 rpm by ANG, or no pilot is valid and the back-EMF decides (R334). -/
def slowByPilot (s : State) : Bool := !pilotMeasures s || decide ((pilotSpeed s).natAbs < 480)

/-- The rotor turns backward by ANG or by the observer (R337). -/
def turnsBackward (s : State) : Bool := (pilotMeasures s && decide (pilotSpeed s < 0)) || decide (s.getI SPN_OBSSPD 0 < 0)

/-- The observer angle less θ_P. -/
def angleDiff (s : State) : Int := wrapElec ((s.get SPN_OBSANG 0 : Int) - pilotAngle s)

/-- The observer starts from θ_P and the pilot speed (R319, R339). -/
def observerFromPilot (s : State) : State :=
  (s.setMany 0 [(SPN_OBSANG, pilotAngle s), (SPN_ERRN, 0), (SPN_EMFN, 0)]).setI SPN_OBSSPD 0 (pilotSpeed s * s.get SPN_MOTOR_PP 0)

/-! ## Ramp (R326, R327) -/

/-- The speed that a target asks for, in rpm/16 (R325). -/
def speedOf (t : Int) : Int := clampI 57600 115200 t

/-- The word that shows the ramp value: the generator's with the trim of the phase loop (R328). -/
def showRamp (s : State) : State :=
  s.setI SPN_RAMPV 0 (s.getI SPN_RAMPX 0 / 100000000 + if s.is SPN_REFMODE_MODE 0 1 then s.getI SPN_TRIM 0 else 0)

/-- The ramp value set, with the word that shows it. -/
def setRamp (x : Int) (s : State) : State := showRamp (s.setI SPN_RAMPX 0 x)

/-- The ramp starts from a speed in rpm/16 with zero rate and acceleration (R335, R339). -/
def startRamp (v : Int) (s : State) : State := setRamp (v * 100000000) (s.set SPN_RAMPA 0 0)

/-- The next rate in the direction of the target, of the present one `m` and the distance `e`, with jerk step `j` and limit
`top`: raised, kept or lowered so that the rate can be brought to zero within the distance (R326). -/
def nextRate (m e j top : Int) : Int :=
  let room (r : Int) : Bool := decide (r * (r + j) ≤ 2 * j * e)
  if m < top && room (Min.min (m + j) top) then Min.min (m + j) top
  else if m ≤ top && room m then m
  else if m ≤ top then m - j
  else if room m then Max.max top (m - j) else m - j

/-- One update of the ramp towards `goal` (R326). -/
def rampMove (goal : Int) (s : State) : State :=
  let x := s.getI SPN_RAMPX 0
  let a := s.getI SPN_RAMPA 0
  let j : Int := s.get SPN_RAMP_JMAX 0
  let top : Int := s.get SPN_RAMP_AMAX 0 * 40000
  let e := goal - x
  if (e.natAbs : Int) ≤ j ∧ (a.natAbs : Int) ≤ j then setRamp goal (s.set SPN_RAMPA 0 0)
  else
    let d : Int := if e < 0 then -1 else 1
    let m := a * d
    let r := if m < 0 then Min.min (m + j) 0 else nextRate m (e.natAbs : Int) j top
    setRamp (x + d * r) (s.setI SPN_RAMPA 0 (d * r))

/-- R327: while another loop limits, the ramp is held at the measured speed + 1 %. -/
def rampHold (old : Int) (s : State) : State :=
  let cap := s.getI SPN_SPEED 0 * 101000000
  if !s.on SPN_STATE_LIMITER 0 || s.getI SPN_RAMPX 0 ≤ cap then s
  else
    let top : Int := s.get SPN_RAMP_AMAX 0 * 40000
    let r := clampI (-top) top (s.getI SPN_DSPD 0)
    setRamp (if old ≤ cap then cap else Max.max cap (old + Min.min 0 r)) (s.setI SPN_RAMPA 0 r)

/-- The ramp generator's update in OBSERVER, PILOT and CATCH. -/
def rampStep (s : State) : State :=
  let st := s.get SPN_STATE_STATE 0
  if st = 5 ∨ st = 6 ∨ st = 8 then
    let t := rampHold (s.getI SPN_RAMPX 0) (rampMove (speedOf (s.getI SPN_TGT 0) * 100000000) s)
    t.set SPN_RAMPK 0 (t.getI SPN_RAMPX 0 == s.getI SPN_RAMPX 0).toNat
  else s

/-- The ramp value equals the target (R340). -/
def rampAtTarget (s : State) : Bool := s.getI SPN_RAMPX 0 == speedOf (s.getI SPN_TGT 0) * 100000000

/-- The measured speed is within 1 % of `v`. -/
def nearSpeed (v : Int) (s : State) : Bool := decide ((s.getI SPN_SPEED 0 - v).natAbs * 100 ≤ v.natAbs)

/-- The speed is steady: the ramp value is constant and the measured speed lies within 1 % of it (R338). -/
def speedSteady (s : State) : Bool := s.on SPN_RAMPK 0 && nearSpeed (s.getI SPN_RAMPV 0) s

/-! ## States -/

/-- The commutation angle is given to the observer, from θ_P that has ceased: the difference is slewed out (R318). -/
def toObserver (s : State) : State :=
  (s.setMany 0 [(SPN_ONPILOT, 0), (SPN_OBSLOST, 0), (SPN_SLEWING, 0)]).setI SPN_COMDIF 0 (wrapElec (s.getI SPN_COMDIF 0 - angleDiff s))

/-- What follows when θ_P has ceased (R318, R341): where it was the commutation angle's source, that is the observer angle if the observer
has lock, or in CATCH has not lost it; else COAST. A drydown that holds torque without an angle lets the bridge go (log entry 31). -/
def pilotLoss (s : State) : State :=
  if pilotExists s || !s.on SPN_ONPILOT 0 then s
  else match s.get SPN_STATE_STATE 0 with
  | 6 => if s.on SPN_STATE_OBSLOCK 0 then toObserver (spnGo 5 4 s) else withFollow (enterCoast s)
  | 5 | 8 => if s.on SPN_OBSLOST 0 && !s.on SPN_STATE_OBSLOCK 0 then withFollow (enterCoast s) else toObserver s
  | 9 => if s.on SPN_STATE_OBSLOCK 0 then toObserver s else if observerRuns s then setBridge 0 s else s
  | _ => s

/-- 2π · 2^59, for speeds in revolutions: ω in rad/s is this × rpm/16 ÷ (960 · 2^59). -/
def twoPi : Nat := 3622009729038561421

/-- The back-EMF KE × ω of an electrical speed in rpm/16, in 10 µV times 960 · 2^59 (R314, R339). -/
def emfOf (v : Int) (s : State) : Int := (s.get SPN_MOTOR_KE 0 : Int) * v * twoPi

/-- CATCH (R339): the observer and the ramp start from the present rotation, of θ_P where it exists, else at the speed `v` rpm/16 and the
angle that the zero crossings gave; the current loop's integrators are preloaded with the back-EMF. -/
def enterCatch (v : Int) (angle : Nat) (s : State) : State :=
  let t := spnGo 8 4 (s.bump SPN_CNT_CATCHES 0)
  let t := t.setMany 0 [(SPN_OBSLOST, 0), (SPN_COMDIF, 0), (SPN_ONPILOT, (pilotExists t).toNat), (SPN_CATCHT, t.aonNs),
    (SPN_IDDEM, 0), (SPN_IQDEM, 0)]
  let t := if pilotExists t then observerFromPilot t
    else (t.set SPN_OBSANG 0 (angle % 23040)).setI SPN_OBSSPD 0 (v * t.get SPN_MOTOR_PP 0)
  let t := (t.set SPN_VINT 0 0).setI SPN_VINT 1 (ratio (emfOf (t.getI SPN_OBSSPD 0) t) (960 * 2 ^ 59))
  startRamp v (t.setI SPN_SPEED 0 v)

/-- ALIGN (R335): a current of IALIGN at the fixed electrical angle 0°. -/
def enterAlign (s : State) : State :=
  (spnGo 3 2 s).setMany 0 [(SPN_IMPANG, 0), (SPN_IMPSPD, 0), (SPN_COMDIF, 0), (SPN_IDDEM, s.get SPN_ALIGN_IALIGN 0 * 128), (SPN_IQDEM, 0)]

/-- OPENLOOP (R335): a current of IOPEN that rotates from 0°. -/
def enterOpenloop (s : State) : State :=
  (spnGo 4 3 s).setMany 0 [(SPN_IMPANG, 0), (SPN_IMPSPD, 0), (SPN_COMDIF, 0), (SPN_IDDEM, s.get SPN_OPEN_IOPEN 0 * 128), (SPN_IQDEM, 0),
    (SPN_LOCKN, 0), (SPN_ERRN, 0), (SPN_EMFN, 0)]

/-- A new target in rpm/16 (R324, R325, R340). -/
def newTarget (v : Int) (s : State) : State :=
  let w := clampI (-1048576) 1048575 v
  let t := if w = s.getI SPN_TGT 0 then s else s.set SPN_STATE_LOADOK 0 0
  applyTarget (t.setI SPN_TGT 0 w)

/-- A start has failed (R336): SENSE, or STOPPED after the third. -/
def failStart (s : State) : State :=
  if s.get SPN_FAILS 0 < 2 then spnGo 1 0 (s.bump SPN_FAILS 0)
  else pulse 29 0xFF (spnGo 0 0 (s.set SPN_FAILS 0 0))

/-! ## PWM period (R304–R313) -/

/-- The imposed speed and angle of OPENLOOP (R335): OACC adds to the speed in every period of 25 µs. -/
def imposedStep (s : State) : State :=
  if !s.is SPN_STATE_STATE 0 4 then s
  else
    let v := s.get SPN_IMPSPD 0 + s.get SPN_OPEN_OACC 0
    s.setMany 0 [(SPN_IMPSPD, v), (SPN_IMPANG, (s.get SPN_IMPANG 0 + 24 * s.get SPN_MOTOR_PP 0 * v) % 230400000000)]

/-- The applied vector of a demand (R306): its magnitude is at most VMAXMOD ÷ 256 × Vbus ÷ √3, the d-axis component being kept first. -/
def limitVector (vbus : Nat) (d q : Int) (s : State) : Int × Int :=
  let fits (a b : Nat) : Bool :=
    decide (Config.voltageStep * (Config.voltageStep * ((a * a + b * b) * 196608)) ≤ (s.get SPN_PWM_VMAXMOD 0 * vbus * 1000) ^ 2)
  if fits d.natAbs q.natAbs then (d, q)
  else
    let a := greatestWith d.natAbs fun x => fits x 0
    (d.sign * a, q.sign * greatestWith q.natAbs fun x => fits a x)

/-- The staged voltage reaches the modulator (R306, R312, R386). In regeneration the voltage is that of the regulator `SPN.lg`, which the
spec does not give (R352, log entry 31). -/
def applyVoltage (vbus : Nat) (s : State) : State :=
  if s.get SPN_BRIDGE 0 < 2 then s
  else
    let regen := s.is SPN_BRIDGE 0 5
    let v := if regen then limitVector vbus (sgn 16 s.free) (sgn 16 s.used.free) s else limitVector vbus (s.getI SPN_VDEM 0) (s.getI SPN_VDEM 1) s
    let t := ((if regen then s.used.used else s).setI SPN_VAPP 0 v.1).setI SPN_VAPP 1 v.2
    if t.on SPN_VAGE 0 then recordAge 52 (t.get SPN_VSTAMP 0) (t.get SPN_VEPOCH 0) (t.set SPN_VAGE 0 0) else t

/-- The winding at terminal `p`: SWAP exchanges V and W (R337). -/
def windingAt (p : Nat) (s : State) : Nat := if s.on SPN_MOTOR_SWAP 0 && p ≠ 0 then 3 - p else p

/-- The voltage that the applied vector asks of winding `k`, in 2^-60 of a step. -/
def windingVoltage (k : Nat) (s : State) : Int :=
  let a := commAngle s + 23040 - 7680 * k
  s.getI SPN_VAPP 0 * cosineTurn a 23040 - s.getI SPN_VAPP 1 * sineTurn a 23040

/-- The on-time of terminal `p` that the vector asks for, in counts (R305): both zero vectors of equal length (PRESUMED, log entry 28). -/
def onTime (vbus p : Nat) (s : State) : Int :=
  let v (i : Nat) : Int := windingVoltage (windingAt i s) s
  let mid := Max.max (v 0) (Max.max (v 1) (v 2)) + Min.min (v 0) (Min.min (v 1) (v 2))
  if vbus = 0 then 2500 else 2500 + ratio (Config.voltageStep * ((2 * v p - mid) * 2500)) (vbus * 1000 * 2 ^ 60)

/-- The on-time of a phase and what is carried into the next period, of the on-time wanted (R305): a switch-on pulse, shorter by DEAD, of
less than TMINP is omitted. -/
def pulseTime (want : Int) (s : State) : Nat × Int :=
  let dead : Int := s.get SPN_PWM_DEAD 0
  let least : Int := s.get SPN_PWM_TMINP 0
  if want ≤ 0 then (0, 0)
  else if want - dead < least then (0, want)
  else if 5000 ≤ want then (5000, 0)
  else if 5000 - want - dead < least then (5000, want - 5000)
  else (want.toNat, 0)

/-- The modulator's period (R304, R305): on-times, what is carried, and which outputs are asserted. BRAKE turns on the low sides alone
(R334). -/
def modulate (vbus : Nat) (s : State) : State :=
  if s.is SPN_BRIDGE 0 0 then s
  else if s.is SPN_BRIDGE 0 1 then
    forBelow 3 (fun p t => ((t.set SPN_ON p 0).set SPN_GATE (2 * p) 0).set SPN_GATE (2 * p + 1) (s.on SPN_BRAKED 0).toNat) s
  else
    forBelow 3 (fun p t =>
      let x := pulseTime (onTime vbus p s + s.getI SPN_CARRY p) s
      (((t.set SPN_ON p x.1).setI SPN_CARRY p x.2).set SPN_GATE (2 * p) (decide (0 < x.1)).toNat).set SPN_GATE (2 * p + 1)
        (decide (x.1 < 5000)).toNat) s

/-- The terminal of the longest on-time, the first among equals: the one switched high in the first active vector. -/
def highPhase (s : State) : Nat :=
  if s.get SPN_ON 1 ≤ s.get SPN_ON 0 ∧ s.get SPN_ON 2 ≤ s.get SPN_ON 0 then 0 else if s.get SPN_ON 2 ≤ s.get SPN_ON 1 then 1 else 2

/-- The terminal of the shortest on-time, the last among equals: the one switched low in the second active vector. -/
def lowPhase (s : State) : Nat :=
  if s.get SPN_ON 2 ≤ s.get SPN_ON 0 ∧ s.get SPN_ON 2 ≤ s.get SPN_ON 1 then 2 else if s.get SPN_ON 1 ≤ s.get SPN_ON 0 then 1 else 0

/-- T_MIN in counts (R307): TSET + 200 ns. -/
def windowMin (s : State) : Nat := 4 * s.get SPN_SHUNT_TSET 0 + 40

/-- The parts of the on-times in the first half-period (R308): halves, or, where a window would be shorter than T_MIN, edges moved to
lengthen it with each on-time kept by the second half; none where the second half cannot absorb that. Which edges move the spec
leaves open: the middle phase is moved least (DESIGN CHOICE, log entry 28). -/
def firstHalf (s : State) : Option (List Nat) :=
  let h := highPhase s
  let l := lowPhase s
  let m := 3 - h - l
  let half (p : Nat) : Nat := s.get SPN_ON p / 2
  let least (p : Nat) : Nat := s.get SPN_ON p - 2500
  let most (p : Nat) : Nat := Nat.min (s.get SPN_ON p) 2500
  let w := windowMin s
  if half m + w ≤ half h ∧ half l + w ≤ half m then some ((List.range 3).map half)
  else
    let lo := Nat.max (least m) (least l + w)
    let hi := Nat.min (most m) (most h - w)
    if w ≤ most h ∧ lo ≤ hi then
      let x := Nat.max lo (Nat.min (half m) hi)
      some ((List.range 3).map fun p => if p = m then x else if p = h then Nat.max (half h) (x + w) else Nat.min (half l) (x - w))
    else none

/-- A voltage by the converter, in 10 mV (R311): 1.2 V of input, times DIV, over 4,096 codes. -/
def voltageOf (code : Nat) (s : State) : Nat := (ratio (code * s.get SPN_VBUS_DIV 0 * 15) 512).toNat

/-- The phase voltages (R311), of the windings: SWAP exchanges V and W (R337). -/
def sensePhases (r : PhaseReading) (s : State) : State :=
  let code (p : Nat) : Nat := match windingAt p s with | 0 => r.u.toNat | 1 => r.v.toNat | _ => r.w.toNat
  forBelow 3 (fun p t => t.set SPN_VPH p (voltageOf (code p) s)) s

/-- The sector of the applied vector, of the windings that it switches high and low. -/
def sectorOf (h l : Nat) : Nat :=
  match h, l with
  | 0, 2 => 0 | 1, 2 => 1 | 1, 0 => 2 | 2, 0 => 3 | 2, 1 => 4 | _, _ => 5

/-- The current of terminal `p` of the two samples (R309): the phase switched high in the first window, the one switched low, negated,
in the second, and the third by the sum rule. -/
def phaseCurrent (h l : Nat) (i1 i2 : Int) (p : Nat) : Int := if p = h then i1 else if p = l then -i2 else i2 - i1

/-- The mean of a window's two conversions, in 1/32,768 of full scale (R307). -/
def windowMean (a b : BitVec 14) : Int := 2 * (a.toInt + b.toInt)

/-- The d- and q-axis currents of three phase currents at an electrical angle in 1/64 degree (R309; the amplitude-invariant transform is
PRESUMED, log entry 28). -/
def parkCurrents (i : Nat → Int) (angle : Nat) : Int × Int :=
  let at' (k : Nat) : Nat := angle + 23040 - 7680 * k
  let d := i 0 * cosineTurn (at' 0) 23040 + i 1 * cosineTurn (at' 1) 23040 + i 2 * cosineTurn (at' 2) 23040
  let q := i 0 * sineTurn (at' 0) 23040 + i 1 * sineTurn (at' 1) 23040 + i 2 * sineTurn (at' 2) 23040
  (clampI (-32768) 32767 (ratio (2 * d) (3 * 2 ^ 60)), clampI (-32768) 32767 (ratio (-2 * q) (3 * 2 ^ 60)))

/-- Bus current and power (R309), of the samples and the counts for which the shunt carried them: 0.3 V ÷ RSH is full scale, and a token is
6 W. -/
def showPower (i1 i2 : Int) (w1 w2 : Nat) (s : State) : State :=
  let full := 5000 * 32768 * Nat.max 1 (s.get SPN_SHUNT_RSH 0)
  let t := s.setI SPN_BUS_IBUS 0 (clampI (-32768) 32767 (ratio ((i1 * w1 + i2 * w2) * 300000000) full))
  let t := t.setI SPN_PWR 0 (clampI (-32768) 32767 (ratio (t.get SPN_BUS_VBUS 0 * t.getI SPN_BUS_IBUS 0) 1000))
  t.set SPN_TOKENS_USED 0 (Nat.min 255 (((t.getI SPN_PWR 0).toNat + 599) / 600))

/-- The current samples of the period (R307–R309, R312): the loop context starts on them, or, where a window cannot be made long
enough, on the predicted current, which is the microcode's. -/
def takeSamples (r : ShuntReading) (s : State) : State :=
  let i1 := windowMean r.a1 r.b1
  let i2 := windowMean r.a2 r.b2
  let vb := s.get SPN_BUS_VBUS 0
  let h := highPhase s
  let l := lowPhase s
  let sector := sectorOf (windingAt h s) (windingAt l s)
  if s.is SPN_BRIDGE 0 0 then showPower 0 0 0 0 s
  else if s.is SPN_BRIDGE 0 1 then showPower i1 0 (5000 - s.get SPN_BRAKED 0) 0 s
  else match firstHalf s with
    | none =>
      let a := s.free
      let t := s.used
      settleTrace t (triggerSrc 53 t.stamp [a, t.free, sector, vb] (t.used.set SPN_INVN 0 (Nat.min 15 (t.get SPN_INVN 0 + 1))))
    | some f =>
      let t := f.zipIdx.foldl (fun u e => u.set SPN_FIRST e.2 e.1) (s.set SPN_INVN 0 0)
      let i (k : Nat) : Int := phaseCurrent h l i1 i2 (windingAt k s)
      let x := parkCurrents i (commAngle s)
      let t := (t.setI SPN_IDQ_ID 0 x.1).setI SPN_IDQ_IQ 0 x.2
      let m := s.get SPN_ON (3 - h - l)
      let t := showPower i1 i2 (s.get SPN_ON h - m) (m - s.get SPN_ON l) t
      settleTrace t (triggerSrc 53 t.stamp [uns 32 i1, uns 32 i2, sector, vb] t)

/-- A magnitude that a regulator sets next, whose law the spec does not state: free, but less than the present one while its limit is
passed (log entry 31). -/
def regulated (past : Bool) (old top : Nat) (s : State) : Nat :=
  let v := s.free % (top + 1)
  if past then Nat.min v (old - 1) else v

/-- The brake's duty (R334, R356): the current and the bus voltage are held to IMAX and OV. -/
def brakeDuty (r : ShuntReading) (vbus : Nat) (s : State) : State :=
  if !s.is SPN_BRIDGE 0 1 then s
  else
    let past := decide (s.get SPN_BRAKE_IMAX 0 * 128 < (windowMean r.a1 r.b1).natAbs) || decide (s.get SPN_VBUS_OV 0 * 10 < vbus) || s.on SPN_OVRED 0
    s.used.set SPN_BRAKED 0 (regulated past (s.get SPN_BRAKED 0) 5000 s)

/-- The regulator `SPN.lg` (R352, R356): a negative q-axis current, lowered while the bus is above VHOLD and raised while it is below. -/
def regenStep (vbus : Nat) (s : State) : State :=
  if !s.is SPN_BRIDGE 0 5 then s
  else
    let old := (s.getI SPN_IQDEM 0).natAbs
    let v := regulated (s.on SPN_OVRED 0 || decide (s.get SPN_LG_VHOLD 0 * 10 < vbus)) old 32767 s
    let v := if !s.on SPN_OVRED 0 && decide (vbus < s.get SPN_LG_VHOLD 0 * 10) then Nat.max v old else v
    s.used.setI SPN_IQDEM 0 (-(v : Int))

/-- The observer's period: what qualifies for lock and what counts towards its loss (R313, R314). -/
def observerPeriod (angle : Nat) (speed : Int) (err emf : Nat) (s : State) : State :=
  if !observerRuns s then s
  else
    let fast := decide (s.get SPN_OBS_VMIN 0 * 160 * s.get SPN_MOTOR_PP 0 ≤ speed.natAbs)
    let lim := s.get SPN_OBS_LOSSLIM 0
    let due := emfOf speed.natAbs s
    let count (f : Field) (c : Bool) (t : State) : State := if c then t.addSat f 0 1 else t.set f 0 0
    let t := (s.set SPN_OBSANG 0 (angle % 23040)).setI SPN_OBSSPD 0 speed
    let t := count SPN_LOCKN (fast && decide (err < lim * 16)) t
    let t := count SPN_ERRN (decide (lim * 64 < err)) t
    let t := count SPN_EMFN (fast && decide (due < 2 * ((emf * (960 * 2 ^ 59) : Nat) - due).natAbs)) t
    if fast then t else t.set SPN_STATE_OBSLOCK 0 0

/-- Agreement of the two angles (R316, R317). -/
def agreement (s : State) : State :=
  let st := s.get SPN_STATE_STATE 0
  if !(st = 5 || st = 8) || !pilotExists s then s.setMany 0 [(SPN_AGREEN, 0), (SPN_DISN, 0)]
  else if (angleDiff s).natAbs ≤ s.get SPN_HAND_AGREE 0 * 4 && s.on SPN_STATE_OBSLOCK 0 then
    (s.addSat SPN_AGREEN 0 1).set SPN_DISN 0 0
  else (s.addSat SPN_DISN 0 1).set SPN_AGREEN 0 0

/-- R319: in PILOT the observer departs from θ_P. -/
def crossCheck (s : State) : State :=
  if s.is SPN_STATE_STATE 0 6 && pilotExists s && observerRuns s
      && decide (s.get SPN_OBS_LOSSLIM 0 * 64 < (angleDiff s).natAbs) then
    pulse 34 0xFF (observerFromPilot s)
  else s

/-- The commutation angle moves toward its source by at most SLEW (R316); a slew to θ_P that ends enters PILOT. -/
def slewAngle (s : State) : State :=
  let d := s.getI SPN_COMDIF 0
  let m : Int := s.get SPN_HAND_SLEW 0
  let d' := if 0 < d then Max.max 0 (d - m) else Min.min 0 (d + m)
  let t := s.setI SPN_COMDIF 0 d'
  if d' = 0 && t.on SPN_SLEWING 0 then
    if t.is SPN_STATE_STATE 0 5 && t.on SPN_ONPILOT 0 && pilotExists t then spnGo 6 4 t else t.set SPN_SLEWING 0 0
  else t

/-- The bus conditions that end with the voltage measured (R355, R356). -/
def busLevels (vbus : Nat) (s : State) : State :=
  let t := if s.get SPN_LG_UV 0 * 10 + 50 < vbus then
      let t := lower 39 0xFF s
      if t.is SPN_STATE_STATE 0 0 then t.set SPN_STATE_LASTGASP 0 0 else t
    else s
  if vbus + 50 < t.get SPN_VBUS_OV 0 * 10 then lower 40 0xFF (t.set SPN_OVRED 0 0) else t

/-- An abandoned calibration of EOFS (R338). -/
def calWatch (s : State) : State :=
  if s.on SPN_CALRUN 0 && !(s.is SPN_STATE_STATE 0 5 && pilotExists s && speedSteady s) then s.set SPN_CALRUN 0 0 else s

/-- A running calibration takes the lead of θ_P at EOFS 0 over the observer angle (R338); the later ones are measured from the first, so that
none wraps. -/
def calStep (s : State) : State :=
  if !s.on SPN_CALRUN 0 then s
  else
    let d := wrapElec ((pilotAngleAt 0 s : Int) - s.get SPN_OBSANG 0)
    if s.is SPN_CALN 0 0 then s.setMany 0 [(SPN_CALREF, (d % 23040).toNat), (SPN_CALSUM, 0), (SPN_CALN, 1)]
    else (s.add SPN_CALN 0 1).setI SPN_CALSUM 0 (s.getI SPN_CALSUM 0 + wrapElec (d - s.get SPN_CALREF 0))

/-- PWM_PERIOD: the vector staged is applied by the bus voltage of the previous period, then the period's conversions are taken. -/
def pwmPeriod (r : ShuntReading) (ph : PhaseReading) (code angle : Nat) (speed : Int) (err emf : Nat) (s : State) : State :=
  let old := s.get SPN_BUS_VBUS 0
  let t := modulate old (applyVoltage old (imposedStep s))
  let vbus := voltageOf code s
  let t := busLevels vbus (sensePhases ph (t.set SPN_BUS_VBUS 0 vbus))
  let t := regenStep vbus (brakeDuty r vbus (takeSamples r t))
  let t := observerPeriod angle speed err emf t
  let t := agreement (crossCheck t)
  calStep (calWatch (rampStep (slewAngle (pilotLoss t))))

/-- CURRENT_SENSE_FAULT (R308). -/
def currentSenseFault (s : State) : State :=
  if s.get SPN_INVN 0 < 8 then s
  else pulse 31 0xFF (withFollow (senseLost (s.set SPN_INVN 0 0)))

/-- OBSERVER_LOCK (R314); after a loss the commutation angle stays with θ_P until PILOT (R341). -/
def observerLock (s : State) : State :=
  if observerRuns s && decide (32 ≤ s.get SPN_LOCKN 0) then s.set SPN_STATE_OBSLOCK 0 1 else s

/-- OBSERVER_LOCK_LOSS (R314, R319, R341). -/
def observerLockLoss (s : State) : State :=
  if !(s.on SPN_STATE_OBSLOCK 0 && (decide (8 ≤ s.get SPN_ERRN 0) || decide (64 ≤ s.get SPN_EMFN 0))) then s
  else
    let t := s.setMany 0 [(SPN_STATE_OBSLOCK, 0), (SPN_LOCKN, 0), (SPN_ERRN, 0), (SPN_EMFN, 0)]
    let st := s.get SPN_STATE_STATE 0
    if st = 5 ∨ st = 6 ∨ st = 8 ∨ st = 9 then
      if pilotExists t then
        pulse 34 0xFF (observerFromPilot (if st = 6 then t else t.setMany 0 [(SPN_OBSLOST, 1), (SPN_ONPILOT, 1), (SPN_SLEWING, 0), (SPN_COMDIF, 0)]))
      else if st = 9 then setBridge 0 t else withFollow (enterCoast t)
    else t

/-- The condition of R316 holds. -/
def agreed (s : State) : Bool :=
  pilotExists s && decide (s.get SPN_HAND_NAGREE 0 ≤ s.get SPN_AGREEN 0) && s.on SPN_STATE_OBSLOCK 0 && !s.on SPN_STATE_PSUSP 0

/-- PILOT_HANDOVER (R316). -/
def pilotHandover (s : State) : State :=
  if s.is SPN_STATE_STATE 0 5 && agreed s then
    let t := keepAngle (fun u => u.setMany 0 [(SPN_SLEWING, 1), (SPN_ONPILOT, 1)]) s
    if t.on SPN_COMDIF 0 then t else spnGo 6 4 t
  else s

/-- ANGLE_DISAGREEMENT (R317). -/
def angleDisagreement (s : State) : State :=
  if s.is SPN_STATE_STATE 0 5 && decide (s.get SPN_HAND_NAGREE 0 ≤ s.get SPN_DISN 0) then pulse 32 0xFF s else s

/-- PILOT_SUSPECT (R317): a hand-over under way is given up. -/
def pilotSuspect (s : State) : State :=
  if s.is SPN_STATE_STATE 0 5 && s.on SPN_DISN 0 then
    pulse 33 0xFF (if s.on SPN_SLEWING 0 then keepAngle (fun u => u.setMany 0 [(SPN_STATE_PSUSP, 1), (SPN_SLEWING, 0), (SPN_ONPILOT, 0)]) s
      else s.set SPN_STATE_PSUSP 0 1)
  else s

/-! ## Speed loop (R320–R323) -/

/-- Winding temperature in °C of a resistance estimate (R322). -/
def windingTemp (rest rs : Nat) : Int := 25 + ((rest : Int) - rs) * 100000 / (393 * rs)

/-- Present the four demands and resolve the torque group (R320, R321, R384). -/
def presentDemands (d0 : Int) (d1 d2 d3 : Nat) (age : Option (Nat × Nat)) (s : State) : State :=
  if !torqueHeld s || !s.on LPE_CTL_RUN 0 then s
  else
    let put (i : Nat) (v : Int) (t : State) : State :=
      ({ t with cands := t.cands.put i (uns 32 v) }.setBit LPE_FRESH 0 i true).setI SPN_INTEG i v
    let r := resolveGroup 0 (put 3 d3 (put 2 d2 (put 1 d1 (put 0 d0 s))))
    let t := forAll r.2.toList (applyEntry age) r.1
    let v := t.getI LPE_CG_VAL 0
    forBelow 4 (fun i u => if t.is SPN_STATE_LIMITER 0 i then u else u.setI SPN_INTEG i v) t

/-- LOADOK clears on a departure of more than 1 % (R340). -/
def loadWatch (s : State) : State :=
  if s.on SPN_STATE_LOADOK 0 && !nearSpeed (speedOf (s.getI SPN_TGT 0)) s then s.set SPN_STATE_LOADOK 0 0 else s

/-- SPEED_LOOP_UPDATE. -/
def speedLoopUpdate (d0 : Int) (d1 d2 d3 speed age : Nat) (sameEpoch : Bool) (rest : Nat) (s : State) : State :=
  let d := sgn 20 speed - s.getI SPN_SPEED 0
  let temp := windingTemp rest (Nat.max 1 (s.get SPN_MOTOR_RS 0))
  let t := s.setMany 0 [(SPN_SPEED, speed), (SPN_TEMP_REST, rest)]
  let t := (t.setI SPN_TEMP_TEMP 0 (clampI 0 255 temp)).setI SPN_DSPD 0 (clampI (-2147483648) 2147483647 (d * 6250000))
  let t := level 41 0xFF (decide ((t.get SPN_LIMIT_TLIM 0 : Int) ≤ temp)) t
  let t := presentDemands d0 d1 d2 d3 (if sameEpoch then some ((s.stamp + 2 ^ 64 - age) % 2 ^ 64, s.get ANG_EPOCH 0) else none) t
  let t := calWatch (loadWatch t)
  settleTrace t (triggerSrc 54 t.stamp [] t)

/-! ## Reference (R324–R331) -/

/-- SPEED_TARGET_WRITE. -/
def speedTargetWrite (v : Nat) (s : State) : State :=
  let t := s.set SPN_SETPT_TARGET 0 v
  if t.is SPN_REFMODE_MODE 0 0 then newTarget (t.getI SPN_SETPT_TARGET 0 * 16) t else t

/-- The list of eight values of a field with `v` put in front. -/
def pushField (f : Field) (n v : Nat) (s : State) : State :=
  ((List.range n).map fun i => if i = 0 then v else s.get f (i - 1)).zipIdx.foldl (fun t e => t.set f e.2 e.1) s

/-- The reference frequency changes faster than AMAX allows, over eight edges (R329); the list's newest entry is `v`. -/
def tooFast (v : Nat) (s : State) : Bool :=
  s.is SPN_FEDGES 0 8 &&
    decide (s.get SPN_RAMP_AMAX 0 * 16 * (s.aonNs - s.get SPN_FTIME 7) < ((v : Int) - s.get SPN_FHIST 7).natAbs * 1000000000)

/-- The phase error times the number of pulses, in ticks, wrapped to half an interval (R328). -/
def phaseError (s : State) : Int :=
  let n := s.get SPN_REFCFG_PPR 0 + 1
  wrapTicks (((s.tick * n % revTicks : Nat) : Int) - 64 * s.get SPN_REFCFG2_PHASE 0 * n)

/-- A trim by the phase loop (R328): its law is not stated, so it is free within the limits of size and rate. -/
def phaseTrim (s : State) : State :=
  let old := s.getI SPN_TRIM 0
  let rate : Int := (s.get SPN_RAMP_AMAX 0 * (s.aonNs - s.get SPN_TRIMT 0) / 1000000000 : Nat)
  let lim : Int := ((s.getI SPN_RAMPX 0 / 100000000).natAbs * s.get SPN_REFCFG_PTRIM 0 / 10000 : Nat)
  let v := clampI (-lim) lim (clampI (old - rate) (old + rate) (sgn 20 s.free))
  showRamp ((s.used.setI SPN_TRIM 0 v).set SPN_TRIMT 0 s.aonNs)

/-- SPD_REF_EDGE (R328–R330). -/
def spdRefEdge (freq : Nat) (s : State) : State :=
  if !s.is SPN_REFMODE_MODE 0 1 then s
  else
    let v := Nat.min 1048575 (freq * 960 / (1000 * (s.get SPN_REFCFG_PPR 0 + 1)))
    let bad := tooFast v s
    let t := lower 38 0xFF (s.set SPN_STATE_REFLOST 0 0)
    let t := pushField SPN_FTIME 8 s.aonNs (pushField SPN_FHIST 8 v t)
    let t := t.set SPN_FEDGES 0 (Nat.min 8 (s.get SPN_FEDGES 0 + 1))
    let t := newTarget v t
    if bad then
      let u := t.setMany 0 [(SPN_STATE_PLOCK, 0), (SPN_PHOFF, 1), (SPN_TRIM, 0), (SPN_LOCKE, 0), (SPN_STEADY, 0), (SPN_STEADYF, v)]
      if s.on SPN_PHOFF 0 then u else pulse 37 0xFF (showRamp u)
    else if t.on SPN_PHOFF 0 then
      let near := decide (((v : Int) - t.get SPN_STEADYF 0).natAbs * 1000 ≤ t.get SPN_STEADYF 0)
      let t := if near then t.addSat SPN_STEADY 0 1 else t.setMany 0 [(SPN_STEADY, 0), (SPN_STEADYF, v)]
      if 64 ≤ t.get SPN_STEADY 0 && rampAtTarget t then t.setMany 0 [(SPN_PHOFF, 0), (SPN_TRIMT, t.aonNs)] else t
    else
      let near := decide ((phaseError t).natAbs < t.get SPN_REFCFG_PLOCK 0 * (t.get SPN_REFCFG_PPR 0 + 1))
      phaseTrim (if near then t.addSat SPN_LOCKE 0 1 else t.set SPN_LOCKE 0 0)

/-- PHASE_LOCK (R328). -/
def phaseLock (s : State) : State :=
  if s.is SPN_REFMODE_MODE 0 1 && decide (16 ≤ s.get SPN_LOCKE 0) && !s.on SPN_PHOFF 0 then s.set SPN_STATE_PLOCK 0 1 else s

/-- REFERENCE_LOST (R330): the target is kept. -/
def referenceLost (s : State) : State :=
  if s.is SPN_REFMODE_MODE 0 1 then raise 38 0xFF (s.setMany 0 [(SPN_STATE_REFLOST, 1), (SPN_FEDGES, 0)]) else s

/-- The sum of the latest `n` samples. -/
def sampleSum (n : Nat) (s : State) : Nat := (List.range n).foldl (fun a i => a + s.get SPN_SMP i) 0

/-- SPD_REF_SAMPLE (R324, R330). In MODE 2 a level held for 100 ms counts at once. -/
def spdRefSample (value : Nat) (s : State) : State :=
  let mode := s.get SPN_REFMODE_MODE 0
  if mode = 2 ∧ (value = 0 ∨ 65536 ≤ value) then
    let t := forBelow 8 (fun i u => u.set SPN_SMP i (Nat.min 65536 value)) (s.set SPN_SMPN 0 8)
    newTarget (if value = 0 then 0 else (t.get SPN_REFCFG2_FULL 0 * 16 : Nat)) t
  else if mode = 2 ∨ mode = 3 then
    let n := if mode = 2 then 8 else 16
    let top := if mode = 2 then 65536 else 1200
    let t := (pushField SPN_SMP 16 (Nat.min top value) s).set SPN_SMPN 0 (Nat.min n (s.get SPN_SMPN 0 + 1))
    if t.get SPN_SMPN 0 < n then t else newTarget (sampleSum n t * t.get SPN_REFCFG2_FULL 0 * 16 / (n * top) : Nat) t
  else s

/-! ## Start (R331–R340) -/

/-- SPN_START (R332, R350, R351, R358): the target held takes effect. -/
def spnStart (s : State) : State :=
  if s.on SPN_STATE_FAULTLOCK 0 || s.on FLT_SAFE_ACTIVE 0 then s
  else match s.get SPN_STATE_STATE 0 with
  | 0 => applyTarget (spnGo 1 0 (s.bump SPN_CNT_STARTS 0))
  | 9 => parkedEnd (s.set SPN_HELD 0 1)
  | _ => s

/-- START as an order of the local policy (R617, R619): against a standing DRYDOWN it is dropped and counted. -/
def startOrder (s : State) : State := if s.on CLB_ORDER_DRYDOWN 0 then s.bump MGR_ORD_LOST 0 else spnStart s

/-- AUTOSTART (R331). -/
def autostart (s : State) : State :=
  if s.on SPN_CTL_AUTOSTART 0 && s.on SPN_REFMODE_MODE 0 && s.is SPN_STATE_STATE 0 0 && decide (57600 ≤ s.getI SPN_TGT 0)
  then startOrder s else s

/-- The finding of SENSE (R333): by ANG where a pilot is valid. A rotor that ANG sees turning has a direction; else `ANG_SRC.STILL`, or the
back-EMF where that does not resolve either, decides. -/
def senseFinding (f : SenseFinding) (s : State) : SenseFinding :=
  if !pilotMeasures s then f
  else if s.on ANG_RATE 0 then (if s.on ANG_SRC_DIR 0 then .backward else .forward)
  else if !s.on ANG_SRC_STILL 0 && f == .unresolvedEmf then .unresolvedEmf else .still

/-- SENSE_END (R333). -/
def senseEnd (f : SenseFinding) (c : Crossings) (s : State) : State :=
  if !s.is SPN_STATE_STATE 0 1 || s.on SPN_OCWAIT 0 then s
  else
    let v : Int := if pilotMeasures s then pilotSpeed s else c.speed
    match senseFinding f s with
    | .still => enterAlign s
    | .forward => if (s.get SPN_BRAKE_VCATCH 0 * 160 : Nat) < v then enterCatch v c.angle s else spnGo 2 1 s
    | .backward => spnGo 2 1 s
    | .unresolvedEmf => spnGo 2 1 s

/-- BRAKE_END (R334). -/
def brakeEnd (s : State) : State := if s.is SPN_STATE_STATE 0 2 && slowByPilot s then enterAlign s else s

/-- BRAKE_TIMEOUT (R334, R349). -/
def brakeTimeout (s : State) : State :=
  if s.is SPN_STATE_STATE 0 2 then pulse 30 0xFF (enterAlign s)
  else if s.is SPN_STATE_STATE 0 9 && s.is SPN_BRIDGE 0 1 then pulse 30 0xFF (setBridge 0 s)
  else s

/-- ALIGN_END (R335, R356, R640). -/
def alignEnd (drew wrongSign : Bool) (s : State) : State :=
  if !s.is SPN_STATE_STATE 0 3 then s
  else if wrongSign then pulse 31 0xFF (failStart s)
  else if !drew then pulse 27 0xFF (spnGo 0 0 (s.set SPN_STATE_FAULTLOCK 0 1))
  else enterOpenloop s

/-- The imposed speed has reached VHAND (R335). -/
def imposedReached (s : State) : Bool := decide (s.get SPN_OPEN_VHAND 0 * 40000 ≤ s.get SPN_IMPSPD 0)

/-- OPENLOOP_HANDOVER (R335): the difference from the imposed angle is slewed out. -/
def openloopHandover (s : State) : State :=
  if s.is SPN_STATE_STATE 0 4 && s.on SPN_STATE_OBSLOCK 0 && imposedReached s then
    let v := s.getI SPN_OBSSPD 0 / (Nat.max 1 (s.get SPN_MOTOR_PP 0) : Nat)
    startRamp v (keepAngle (fun u => (spnGo 5 4 (u.set SPN_FAILS 0 0)).set SPN_ONPILOT 0 0) s)
  else s

/-- START_FAILURE (R336). -/
def startFailure (s : State) : State := if s.is SPN_STATE_STATE 0 4 then failStart s else s

/-- PHASE_ORDER_LEARN (R337, R590). -/
def phaseOrderLearn (s : State) : State :=
  if s.is SPN_STATE_STATE 0 4 && turnsBackward s then
    pulse 28 0xFF (spnGo 1 0 (s.setMany 0 [(SPN_MOTOR_SWAP, 1 - s.get SPN_MOTOR_SWAP 0), (SPN_STATE_SWAP_LEARNED, 1),
      (GLB_WIRING_PHASE, 1 - s.get SPN_MOTOR_SWAP 0)]))
  else s

/-- CATCH_END (R339, R343). -/
def catchEnd (s : State) : State :=
  if !s.is SPN_STATE_STATE 0 8 then s
  else
    let t := s.set SPN_FAILS 0 0
    if s.is SPN_DDKIND 0 3 then parkedEnd (spnGo 9 4 t)
    else if agreed t then keepAngle (spnGo 6 4) t
    else if s.on SPN_OBSLOST 0 then spnGo 5 4 t
    else keepAngle (fun u => (spnGo 5 4 u).set SPN_ONPILOT 0 0) t

/-- LOADOK_SET (R340). -/
def loadokSet (s : State) : State :=
  if (s.is SPN_STATE_STATE 0 5 || s.is SPN_STATE_STATE 0 6) && rampAtTarget s && nearSpeed (speedOf (s.getI SPN_TGT 0)) s
  then s.set SPN_STATE_LOADOK 0 1 else s

/-- SPN_CAL (R338). -/
def spnCal (s : State) : State :=
  if s.is SPN_STATE_STATE 0 5 && decide (16000 ≤ s.getI SPN_SPEED 0) && speedSteady s && pilotExists s
  then s.setMany 0 [(SPN_STATE_CAL_DONE, 0), (SPN_CALRUN, 1), (SPN_CALN, 0), (SPN_CALSUM, 0), (SPN_CALREF, 0)] else s

/-- EOFS of a calibration (R338): the mean lead of θ_P at EOFS 0 over the observer angle, in ticks, the least non-negative one of its class
modulo 2^22 ÷ PP, rounded to the nearest tick. -/
def calibratedEofs (s : State) : Nat :=
  let n := Nat.max 1 (s.get SPN_CALN 0)
  let lead := (((s.get SPN_CALREF 0 * n : Nat) + s.getI SPN_CALSUM 0) % (23040 * n : Nat)).toNat
  let d := 23040 * n * Nat.max 1 (s.get SPN_MOTOR_PP 0)
  (2 * lead * revTicks + d) / (2 * d)

/-- EOFS_CAL_DONE (R338): before 256 revolutions have run nothing is written. -/
def eofsCalDone (revs : Nat) (s : State) : State :=
  if !s.on SPN_CALRUN 0 then s
  else if s.is SPN_STATE_STATE 0 5 && pilotExists s && speedSteady s then
    if revs < 256 then s else s.setMany 0 [(SPN_EOFS, calibratedEofs s), (SPN_STATE_CAL_DONE, 1), (SPN_CALRUN, 0)]
  else s.set SPN_CALRUN 0 0

/-! ## Loss of the rotor and drydown (R341–R355) -/

/-- REACQ_ATTEMPT_END (R342): the rotor is caught at the angle and speed found, or the failure is counted in its window. -/
def reacqAttemptEnd (found : Option Crossings) (s : State) : State :=
  if !s.is SPN_STATE_STATE 0 7 || s.on SPN_OCWAIT 0 then s
  else match found with
  | some c => enterCatch (if pilotExists s then pilotSpeed s else c.speed) c.angle s
  | none =>
    if !s.on SPN_STATE_REACQ 0 || decide (s.get SPN_RQTIME 0 + s.get SPN_CATCH_TWIN 0 * 1000000000 < s.aonNs) then
      s.setMany 0 [(SPN_STATE_REACQ, 1), (SPN_RQTIME, s.aonNs)]
    else s.addSat SPN_STATE_REACQ 0 1

/-- REACQ_FAILURE (R344). -/
def reacqFailure (s : State) : State :=
  if s.is SPN_STATE_STATE 0 7 && s.get SPN_CATCH_NREACQ 0 ≤ s.get SPN_STATE_REACQ 0 then
    pulse 36 0xFF (withFollow (urgentDrydown true (s.set SPN_STATE_REACQ 0 0)))
  else s

/-- SPEED_FALLBACK (R343): the retract is requested and catching continues. -/
def speedFallback (s : State) : State :=
  if (s.is SPN_STATE_STATE 0 7 || s.is SPN_STATE_STATE 0 8) && !s.is SPN_DDKIND 0 3
      && decide (s.getI SPN_SPEED 0 * 100 < (s.get SPN_CATCH_VRET 0 : Nat) * s.getI SPN_RAMPV 0) then
    withFollow (drydownRequest (s.setMany 0 [(SPN_DDKIND, 3), (SPN_STATE_LOADOK, 0)]))
  else s

/-- LOW_SPEED_DRYDOWN (R345). -/
def lowSpeedDrydown (s : State) : State :=
  if (s.getI SPN_SPEED 0).natAbs < 48000 && !allParked s && !s.is SPN_DDKIND 0 3 then withFollow (urgentDrydown false s) else s

/-- SPN_STOP (R346, R347). -/
def spnStop (s : State) : State := orderlyDrydown 1 s

/-- SPN_DRYDOWN (R346, R347). -/
def spnDrydown (s : State) : State := orderlyDrydown 2 s

/-- SPN_PARK (R347). -/
def spnPark (s : State) : State :=
  if s.is SPN_STATE_STATE 0 9 && s.on SPN_STATE_DRYPEND 0 then withFollow (drydownRequest s) else s

/-- DRYDOWN_TIMEOUT (R347). -/
def drydownTimeout (s : State) : State :=
  if s.is SPN_STATE_STATE 0 9 && s.on SPN_STATE_DRYPEND 0 then withFollow (drydownRequest s) else s

/-- ACTUATORS_PARKED (R349, R350). -/
def actuatorsParked (s : State) : State := parkedEnd s

/-- SPINDLE_STOPPED (R349): a held START keeps the drydown until the actuators are parked (R350). -/
def spindleStopped (s : State) : State :=
  if s.is SPN_STATE_STATE 0 9 && !s.on SPN_HELD 0 && slowByPilot s then
    spnGo 0 0 (s.setMany 0 [(SPN_STATE_DRYPEND, 0), (SPN_STATE_LASTGASP, 0), (SPN_OCWAIT, 0), (SPN_OCFAIL, 0)])
  else s

/-- POWER_LOSS (R346, R352, R353, R543): the record's marker, the last gasp, and regeneration. In a safe state that holds already
the spindle and the dump react on their own. -/
def powerLoss (s : State) : State :=
  if (s.liveOf 39).any (fun e => e.inst == 0xFF) then s
  else
    let t := (s.set SPN_STATE_LASTGASP 0 1).marker 3
    if s.on FLT_SAFE_ACTIVE 0 then withFollow (chain [spindleSafe 39, dumpTrigger 3] (raise 39 0xFF t)) else raise 39 0xFF t

/-- The condition that ends regeneration (R353): a speed below VMINPCT percent of the ramp value at power loss, or a bus that is not held
above VHOLD − 1 V. -/
def regenSpent (s : State) : Bool :=
  decide (s.getI SPN_SPEED 0 * 100 < (s.get SPN_LG_VMINPCT 0 : Nat) * sgn 20 (s.get SPN_LGREF 0))
    || decide (s.get SPN_BUS_VBUS 0 + 100 ≤ s.get SPN_LG_VHOLD 0 * 10)

/-- REGEN_END (R353). -/
def regenEnd (s : State) : State :=
  if s.is SPN_BRIDGE 0 5 && regenSpent s then parkedEnd (setBridge 0 s) else s

/-! ## Wiring faults (R356–R358) -/

/-- PHASE_SHORT_GROUND (R356). -/
def phaseShortGround (s : State) : State :=
  if s.is SPN_BRIDGE 0 0 && !s.on SPN_OCWAIT 0 then s else pulse 25 0xFF (withFollow (lockOut s))

/-- OPEN_PHASE (R356): at a demand, in ALIGN, or in a test vector of R357. -/
def openPhase (s : State) : State :=
  if s.is SPN_BRIDGE 0 0 && !s.on SPN_OCWAIT 0 then s else pulse 27 0xFF (withFollow (lockOut s))

/-- SHUNT_OVERCURRENT (R310, R356, R357). -/
def shuntOvercurrent (shorted : Bool) (s : State) : State :=
  pulse (if shorted then 26 else 24) 0xFF (overcurrentOff shorted (s.bump SPN_CNT_OVERCUR 0))

/-- OVERCURRENT_TEST (R357): after a pass a drydown goes on, that of R343 too (R350). -/
def overcurrentTest (pass : Bool) (s : State) : State :=
  if !s.on SPN_OCWAIT 0 then s
  else if pass && !s.on SPN_OCFAIL 0 then
    let t := s.setMany 0 [(SPN_OCWAIT, 0), (SPN_OCFAIL, 0)]
    if t.is SPN_STATE_STATE 0 9 then t else if t.is SPN_DDKIND 0 3 then parkedEnd (spnGo 9 0 t) else spnGo 1 0 t
  else withFollow (lockOut s)

/-- BUS_OVERVOLTAGE (R356): regeneration and brake duty are reduced until the bus has fallen. -/
def busOvervoltage (s : State) : State := raise 40 0xFF (s.set SPN_OVRED 0 1)

/-- PSUSP_CLEAR (R317). -/
def psuspClear (s : State) : State := s.set SPN_STATE_PSUSP 0 0

end Sys2Proof.Machine
end

