-- ==== Sys2Proof/Machine/NvmeCore.lean ====
section
/-!
DEFINITION. The shared operations of the NVMe queue engine (spec/09): tags, zones, holds, the life of a command, and what follows
in NVQ from a change elsewhere.
-/

namespace Sys2Proof.Machine

/-! ## Tags of non-posted requests (R503) -/

/-- The tags that may be used. -/
def tagRange (s : State) : List Nat :=
  if s.bit CFG_DEVCTL2 0 12 then (List.range 768).map (256 + ·) else if s.bit CFG_DEVCTL 0 8 then List.range 256 else List.range 32

/-- The lowest free tag. -/
def freeTag (s : State) : Option Nat := (tagRange s).find? fun t => (s.tags.find t).isNone && !(s.quar.any fun q => q.1 == t)

/-- `PCI_TAGS`. -/
def showTags (s : State) : State := s.setMany 0 [(PCI_TAGS_INUSE, s.tags.length), (PCI_TAGS_QUAR, s.quar.length)]

/-- Issue a read request, if a tag is free. -/
def issueRead (u : TagUse) (s : State) : State :=
  match freeTag s with
  | none => s
  | some t => showTags ({ s with tags := s.tags.put t u }.emit (.memRead t))

/-- Free a tag. -/
def dropTag (t : Nat) (s : State) : State := showTags { s with tags := s.tags.del t }

/-! ## Zones (R452–R455, R156, R605) -/

/-- Blocks of the namespace (R452). -/
def nsze (s : State) : Nat := zoneTotal s * zsze s

/-- Rows of a zone, from row `r` on, that fit the members' bands (R156); `n` bounds them. -/
def bandRows (z : Nat) (usable : NMap Nat) (s : State) : Nat → Nat → NMap Nat → Nat
  | 0, r, _ => r
  | n + 1, r, c =>
    let c' := countAll (entryList (entryOf z r s) s) c
    if c'.all fun e => decide (e.2 ≤ NMap.get 0 usable e.1) then bandRows z usable s n (r + 1) c' else r

/-- Zone capacity (R156, R453, R605): whole rows, capped at the zone size. -/
def zoneCapacity (z : Nat) (s : State) : Nat :=
  Nat.min (zsze s) (if driveRole s then
      bandRows z ((membersOf s.memberMask).map fun x => (x, bandUsable x z s)) s (zsze s / rowBlocks s + 1) 0 [] * rowBlocks s
    else shelfCapacity z s)

/-- A zone with its capacity computed. -/
def zoneView (z : Nat) (s : State) : Zone :=
  let r := s.zone z
  if r.cap = 0 then { r with cap := zoneCapacity z s } else r

/-- Zones in an opened state. -/
def openedCount (s : State) : Nat := s.zones.countP fun e => e.2.state == 1 || e.2.state == 2

/-- Active zones. -/
def activeCount (s : State) : Nat := s.zones.countP fun e => zoneActive e.2

/-- Most opened and most active zones (R454, R612). -/
def maxOpen (s : State) : Nat := if driveRole s then 256 else 252

/-- Most active zones. -/
def maxActive (s : State) : Nat := if driveRole s then 512 else 508

/-- Set the state of a zone; an action enters the events of the journal (R239). -/
def zoneTo (z st : Nat) (s : State) : State :=
  let t := s.setZone z { zoneView z s with state := st }
  showZones { t with acd := { t.acd with events := t.acd.events ++ [(z, st)] } }

/-- Require the frontier frame of a zone on media (R464), once every full row before it is on its way. -/
def tryFrontier (z : Nat) (s : State) : State :=
  let per := rowBlocks s
  let e := rowEnd z s
  let ready := (s.zone z).ready
  if !driveRole s then shelfFrontier z s
  else if rowsAllowed s && decide (per * (ready / per) ≤ e) && decide (e < ready) then dropWaiting z ready (frontierWrite z s) else s

/-- The incomplete last rows of every zone go to media (R217, R464). -/
def placeFrontiers (s : State) : State := s.zones.foldl (fun (u : State) e => tryFrontier e.1 u) s

/-! ## Commands -/

/-- The fields of a command that has none of an I/O command's. -/
def noIo (sqid : Nat) (cid : BitVec 16) : IoArgs := ⟨sqid, cid, 0, 0, false, false, 0, 0, false, 0, 0⟩

/-- The command in flight of a queue and identifier. -/
def cmdOf (sqid : Nat) (cid : BitVec 16) (s : State) : Option NvCmd := s.cmds.find? fun c => c.sqid == sqid && c.cid == cid.toNat

/-- Change a command in flight. -/
def State.modCmd (s : State) (c : NvCmd) (f : NvCmd → NvCmd) : State :=
  { s with cmds := s.cmds.map fun x => if x.sqid = c.sqid ∧ x.cid = c.cid then f x else x }

/-- Run a command's meaning if it has been fetched with that opcode and has not begun. -/
def withCmd (sqid : Nat) (cid : BitVec 16) (op : Nat) (f : NvCmd → State → State) (s : State) : State :=
  match cmdOf sqid cid s with
  | some c => if c.op = op ∧ c.phase = .fetched then f c s else s
  | none => s

/-- End a command. -/
def finish (c : NvCmd) (st : NvStatus) (s : State) : State := complete c.sqid c.cid st [] s

/-- The command is a Write or Zone Append. -/
def isWrite (c : NvCmd) : Bool := c.sqid != 0 && (c.op == 1 || c.op == 0x7D)

/-- Zone of an LBA. -/
def zoneOf (lba : Nat) (s : State) : Nat := lba / zsze s

/-- First block of a Write or Append within its zone. -/
def cmdOff (c : NvCmd) (s : State) : Nat := c.io.slba % zsze s

/-- Block after its last. -/
def cmdEnd (c : NvCmd) (s : State) : Nat := cmdOff c s + c.io.nlb

/-- A Write or Append that has been accepted (R455). -/
def accepted (c : NvCmd) : Bool := isWrite c && (c.phase == .waitData || c.phase == .data || c.phase == .rows)

/-- A command past its commit point (R466). A Read is short of it until its data are transferred. -/
def pastCommit (c : NvCmd) (s : State) : Bool := isWrite c && c.phase == .rows && decide (cmdEnd c s ≤ rowEnd c.zone s)

/-- R456: the accept pointer returns to block `off`; what has entered a row stays (log entry 37). -/
def returnAccept (z off : Nat) (s : State) : State :=
  let zr := zoneView z s
  let p := Nat.max off (Nat.max zr.wp (rowEnd z s))
  s.setZone z { zr with accept := Nat.min zr.accept p, ready := Nat.min zr.ready p }

/-- The later-accepted commands of a zone from block `off` on fail (R456). -/
def rollback (z off : Nat) (s : State) : State :=
  forAll (s.cmds.filter fun c => accepted c && c.zone == z && decide (off ≤ cmdOff c s) && !pastCommit c s)
    (fun c t => finish c .zoneInvalidWrite t) (returnAccept z off s)

/-- A Write or Append fails short of its commit point (R456). -/
def failWrite (c : NvCmd) (st : NvStatus) (s : State) : State :=
  if accepted c then rollback c.zone (cmdOff c s) (finish c st s) else finish c st s

/-- Fail a command, with what R456 asks. -/
def failCmd (c : NvCmd) (st : NvStatus) (s : State) : State := if isWrite c then failWrite c st s else finish c st s

/-! ## Holding (R475, R617–R619) -/

/-- Every actuator with heads in service has them loaded. -/
def headsLoaded (s : State) : Bool :=
  (List.range 4).all fun a => (2 ≤ s.get SRV_STS_STATE a && s.get SRV_STS_STATE a ≤ 3)
    || (List.range 12).all fun p => headOut (12 * a + p) s

/-- The media path is up: spindle, actuators and accord engine, or the shelf. -/
def mediaUp (s : State) : Bool :=
  s.on ACD_CTL_RUN 0 && !s.on NVQ_LEAVING 0 && !s.on CLB_ORDER_DRYDOWN 0
    && (if driveRole s then s.on SPN_STATE_LOADOK 0 && headsLoaded s else s.on MGR_STS_READY 0)

/-- A command that needs the media and touches the zones `zs` is held; so is every command short of its commit point while an activation is in
progress (R474). -/
def mediaHold (writes : Bool) (zs : List Nat) (s : State) : Bool :=
  s.on NVQ_STS_ACTIVATING 0 || !mediaUp s || (writes && s.on ACD_CTL_CLEAN 0) || zs.any fun z => s.acd.resync.contains z || s.linger.contains z

/-- Zones that a range of blocks touches. -/
def zonesOf (lba n : Nat) (s : State) : List Nat :=
  let a := zoneOf lba s
  (List.range (zoneOf (lba + n - 1) s + 1 - a)).map (a + ·)

/-- Hold a command, with every zone that it touches (R248); one that an order holds is counted (R619). -/
def holdCmd (c : NvCmd) (s : State) : State :=
  let t := s.modCmd c fun x => { x with phase := .held }
  if c.phase == .held then t
  else
    let t := if t.on CLB_ORDER_DRYDOWN 0 then t.bump MGR_ORD_HELD 0 else t
    let zs := if c.op = 2 then zonesOf c.io.slba c.io.nlb t else if c.all then c.mtags else [c.zone]
    { t with acd := { t.acd with held := t.acd.held ++ zs.filter fun z => !t.acd.held.contains z } }

/-! ## Requests for a command's data (R494, R502) -/

/-- Bytes of the largest read request (R494, R502). -/
def readRequestSize (s : State) : Nat := Nat.min 4096 (128 * 2 ^ bits (s.get CFG_DEVCTL 0) 12 3)

/-- Pieces of at most `m` of a length. -/
def pieces (n m : Nat) : Nat := (n + m - 1) / m

/-- Read requests that the data of a command take (R446, R502): its pages, its metadata where PRACT is clear, and its PRP list, each split at
the largest request; the buffers are taken to be aligned (log entry 32). -/
def fetchRequests (c : NvCmd) (s : State) : Nat :=
  let size := readRequestSize s
  let pages := pieces (4096 * c.io.nlb) (2 ^ (12 + bits (s.get NVQ_CC 0) 7 4))
  c.io.nlb * (4096 / size) + (if c.io.pract then 0 else pieces (16 * c.io.nlb) size) + (if 2 < pages then pieces (8 * (pages - 1)) size else 0)

/-! ## Write and Zone Append (R447, R449, R455–R458, R465) -/

/-- Close the Implicitly Opened zone whose last accepted write is oldest among those without writes in flight (R458). -/
def implicitClose (s : State) : Option State :=
  let l := s.zones.filter fun e => e.2.state == 1 && e.2.accept == e.2.wp
  let best := l.foldl (fun (b : Option (Nat × Zone)) e => match b with
    | none => some e
    | some q => if e.2.opened < q.2.opened then some e else some q) none
  best.map fun e => dropRa (· == e.1) (zoneTo e.1 3 s)

/-- The first check of R457 that fails; `start` is the first block that the command would write. -/
def writeStatus (append : Bool) (z start n lba : Nat) (s : State) : NvStatus :=
  let zr := zoneView z s
  if zr.state = 6 then .zoneOffline
  else if zr.state = 4 then .zoneFull
  else if Nat.min zr.cap (zsze s) < start + n then .zoneBoundary
  else if !append && start ≠ zr.accept then .zoneInvalidWrite
  else if append && lba % zsze s ≠ 0 then .invalidField
  else if (zr.state = 0 ∨ zr.state = 3) ∧ maxOpen s ≤ openedCount s ∧ (implicitClose s).isNone then .tooManyOpen
  else if zr.state = 0 ∧ maxActive s ≤ activeCount s then .tooManyActive
  else .success

/-- Open a zone implicitly for a write (R458). -/
def openForWrite (z : Nat) (s : State) : State :=
  let st := (s.zone z).state
  if st = 0 ∨ st = 3 then
    let t := if maxOpen s ≤ openedCount s then (implicitClose s).getD s else s
    zoneTo z 1 t
  else s

/-- Accept a Write or Append: the checks, then the accept pointer (R455). -/
def startWrite (c : NvCmd) (s : State) : State :=
  let append := c.op == 0x7D
  let a := c.io
  let z := zoneOf a.slba s
  let zr := zoneView z s
  let start := if append then zr.accept else a.slba % zsze s
  if 256 < a.nlb then finish c .invalidField s
  else if nsze s < a.slba + a.nlb then finish c .lbaOutOfRange s
  else if !append && a.prchk.getLsbD 0 && a.ilbrt.toNat ≠ a.slba % 2 ^ 48 then finish c .invalidPi s
  else if append && !a.pract && !a.piremap then finish c .invalidField s
  else
    match writeStatus append z start a.nlb a.slba s with
    | .success =>
      let t := dropRa (· == z) (openForWrite z s)
      let t := t.setZone z { zoneView z t with accept := start + a.nlb, opened := c.order }
      t.modCmd c fun x => { x with phase := .waitData, zone := z, reqs := fetchRequests c s, io := { a with slba := z * zsze s + start } }
    | st => finish c st s

/-- WRITE and ZONE_APPEND as they arrive: held, or accepted. -/
def beginWrite (c : NvCmd) (s : State) : State :=
  if mediaHold true (zonesOf c.io.slba c.io.nlb s) s then holdCmd { c with zone := zoneOf c.io.slba s } s else startWrite c s

/-- The application tag that a block of a command is stored with (R450): LBAT where PRACT is set; else the host's, which is free here, and which
the check under PRCHK bit 1 holds to LBAT under LBATM. -/
def storedAppTag (c : NvCmd) (s : State) : List Byte :=
  let host := ofBytes (freeBytes (s.fresh + 4096) 2)
  let keep := if c.io.prchk.getLsbD 1 then c.io.lbatm.toNat else 0
  let tag := if c.io.pract then c.io.lbat.toNat else (host &&& (0xFFFF ^^^ keep)) ||| (c.io.lbat.toNat &&& keep)
  (bytesOf 2 tag).reverse

/-- The image of block `b` of a zone. -/
def blockImage (z b : Nat) (s : State) : Nat := imageAt z (b / rowBlocks s) (b / s.fb % Nat.max 1 s.k) (b % s.fb)

/-- Store one block of a command in its image (R150, R190, R193, R450): the payload is the host's, the guard is valid, the reference tag
is the LBA. Its lines take correct checks (R423). -/
def storeBlock (c : NvCmd) (z b : Nat) (s : State) : State :=
  let a := blockImage z b s
  let m := s.mem.writeList a (freeBytes s.fresh 4096)
  let m := m.writeList (a + 4104) (storedAppTag c s ++ (bytesOf 6 (z * zsze s + b)).reverse)
  cleanRange a cwBytes { s with mem := writeGuard a m, fresh := s.fresh + 4098 }

/-- The end of a zone's data without a gap (R466). -/
def advanceReady (z : Nat) (s : State) : State :=
  let l := s.cmds.filter fun c => isWrite c && c.phase == .rows && c.zone == z
  let r := Nat.repeat (fun p => match l.find? fun c => decide (cmdOff c s ≤ p) && decide (p < cmdEnd c s) with
    | some c => cmdEnd c s
    | none => p) (l.length + 1) (s.zone z).ready
  s.setZone z { s.zone z with ready := r }

/-- The status of a protection-information mismatch (R451). -/
def piStatus : PiCheck → NvStatus
  | .ok => .success
  | .guard => .guardCheck
  | .app => .appTagCheck
  | .ref => .refTagCheck

/-- The check that the host's protection information fails at ingress (R450): none where PRACT is set, as NVQ then generates it; a guard and a
reference tag count always, an application tag as PRCHK bit 1 asks. -/
def ingressCheck (c : NvCmd) : PiCheck :=
  if c.io.pract then .ok
  else match c.pi with
    | .app => if c.io.prchk.getLsbD 1 then .app else .ok
    | x => x

/-- The data of a Write or Append have arrived: every block is checked, then they enter the zone's data (R451, R456). -/
def dataArrived (c : NvCmd) (s : State) : State :=
  if ingressCheck c ≠ .ok then failWrite c (piStatus (ingressCheck c)) (pulse 258 0xFF s)
  else
    let t := forBelow c.io.nlb (fun i u => storeBlock c c.zone (cmdOff c s + i) u) s
    let t := advanceReady c.zone (t.modCmd c fun x => { x with phase := .rows })
    { t with acd := { t.acd with waiting := t.acd.waiting ++ [(c.zone, cmdEnd c s)] } }

/-- A Write or Append whose blocks lie below the write pointer completes, durable where that is asked (R463). -/
def durableEnough (c : NvCmd) (s : State) : Bool :=
  (s.on NVQ_STS_WCE 0 && !c.io.fua) || decide (cmdEnd c s ≤ (s.zone c.zone).durable)

/-- Completion of a Write or Append. -/
def writeDone (c : NvCmd) (s : State) : State :=
  if cmdEnd c s ≤ (s.zone c.zone).wp && durableEnough c s then
    complete c.sqid c.cid .success (if c.op = 0x7D then [c.io.slba % 2 ^ 32, c.io.slba / 2 ^ 32] else []) s
  else s

/-! ## Read (R447, R449, R450, R459) -/

/-- Submit the media operations of a read: by zone, the blocks below the write pointer. -/
def readZones (c : NvCmd) : List Nat → State → State
  | [], s => s
  | z :: l, s =>
    let lo := if z = zoneOf c.io.slba s then c.io.slba % zsze s else 0
    let hi := Nat.min (zsze s) (lo + (c.io.slba + c.io.nlb - (z * zsze s + lo)))
    let hi := Nat.min hi (s.zone z).wp
    if hi ≤ lo ∨ (s.zone z).state = 6 then readZones c l s
    else
      let tag := s.get NVQ_MTAG 0
      let t := (s.bump NVQ_MTAG 0).modCmd c fun x => { x with mtags := x.mtags ++ [tag] }
      readZones c l (if driveRole t then hostRead z lo (hi - lo) tag t else shelfRead z lo (hi - lo) tag t)

/-- Start a read. -/
def startRead (c : NvCmd) (s : State) : State :=
  let a := c.io
  if 256 < a.nlb then finish c .invalidField s
  else if nsze s < a.slba + a.nlb then finish c .lbaOutOfRange s
  else if a.prchk.getLsbD 0 && a.ilbrt.toNat ≠ a.slba % 2 ^ 48 then finish c .invalidPi s
  else
    let t := s.modCmd c fun x => { x with phase := .media, zone := zoneOf a.slba s, mtags := [] }
    readZones c (zonesOf a.slba a.nlb t) t

/-- READ as it arrives: held, or started. -/
def beginRead (c : NvCmd) (s : State) : State :=
  if mediaHold false (zonesOf c.io.slba c.io.nlb s) s then holdCmd { c with zone := zoneOf c.io.slba s } s else startRead c s

/-- The first block of a read that fails it, with the status (R459): in an Offline zone, or lost below the write pointer. -/
def readFault (c : NvCmd) (s : State) : Option (Nat × NvStatus) :=
  let lost := (s.ended.filter fun e => c.mtags.contains e.1).flatMap (·.2)
  (List.range c.io.nlb).findSome? fun i =>
    let lba := c.io.slba + i
    let z := zoneOf lba s
    let b := lba % zsze s
    if (s.zone z).state = 6 then some (lba, .zoneOffline)
    else if (s.zone z).wp ≤ b then none
    else if isUnrec z b s || lost.contains (b / rowBlocks s, b / s.fb % Nat.max 1 s.k, b % s.fb) then some (lba, .unrecoveredRead)
    else none

/-- The check that a stored block fails at egress (R449, R450): guard, application tag and reference tag as PRCHK bits 2, 1 and 0 ask; a block
with application tag 0xFFFF is not checked. -/
def blockCheck (c : NvCmd) (i a : Nat) (s : State) : PiCheck :=
  let app := s.mem.word (a + 4104) 2
  let tag := app % 256 * 256 + app / 256
  if app = 0xFFFF then .ok
  else if c.io.prchk.getLsbD 2 && !guardMatches a 0 s.mem then .guard
  else if c.io.prchk.getLsbD 1 && (tag &&& c.io.lbatm.toNat) ≠ (c.io.lbat.toNat &&& c.io.lbatm.toNat) then .app
  else if c.io.prchk.getLsbD 0 && ofBytes (s.mem.readList (a + 4106) 6).reverse ≠ (c.io.ilbrt.toNat + i) % 2 ^ 48 then .ref
  else .ok

/-- The first check that a read's blocks fail (R450, R451): in the drive role over their images; in the manager role the blocks come from the
units and the outcome is the command's. Blocks at or beyond the write pointer are pad blocks. -/
def egressCheck (c : NvCmd) (s : State) : PiCheck :=
  if driveRole s then
    ((List.range c.io.nlb).findSome? fun i =>
      let lba := c.io.slba + i
      let z := zoneOf lba s
      if (s.zone z).wp ≤ lba % zsze s then none
      else match blockCheck c i (blockImage z (lba % zsze s) s) s with
        | .ok => none
        | x => some x).getD .ok
  else match c.pi with
    | .guard => if c.io.prchk.getLsbD 2 then .guard else .ok
    | .app => if c.io.prchk.getLsbD 1 then .app else .ok
    | .ref => if c.io.prchk.getLsbD 0 then .ref else .ok
    | .ok => .ok

/-- A read whose media operations have ended transfers its data, or fails (R451, R459); with PRACT its protection information stays (R450). -/
def readDone (c : NvCmd) (s : State) : State :=
  if c.mtags.any fun g => s.ops.any fun o => o.mtag == g then s
  else
    match readFault c s with
    | some (lba, st) => complete c.sqid c.cid st (if st = .unrecoveredRead then [lba] else []) s
    | none =>
      if egressCheck c s ≠ .ok then finish c (piStatus (egressCheck c s)) s
      else completeWith [.hostBlocks c.sqid c.cid c.io.slba c.io.nlb (!c.io.pract)] c.sqid c.cid .success [] s

/-! ## Flush (R470) -/

/-- The last rows go to media, and the record that a Flush waits for is requested (R217, R470). -/
def startFlush (c : NvCmd) (s : State) : State :=
  let s := placeFrontiers s
  startRecord (s.modCmd c fun x => { x with phase := .journal (s.get ACD_JSEQ 0 + 1) })

/-- FLUSH as it arrives. -/
def beginFlush (c : NvCmd) (s : State) : State := if mediaHold false [] s then holdCmd c s else startFlush c s

/-! ## Zone Management Send (R460, R461) -/

/-- The states to which an action applies with Select All set. -/
def actStates (act : Nat) : List Nat :=
  match act with
  | 1 => [1, 2]
  | 2 => [1, 2, 3]
  | 3 => [3]
  | 4 => [1, 2, 3, 4]
  | _ => []

/-- The status that an action meets at a zone in state `st`. -/
def actStatus (act st : Nat) : NvStatus :=
  let ok := match act with
    | 1 => st == 1 || st == 2 || st == 3
    | 2 => decide (st ≤ 4)
    | 3 => decide (st ≤ 3)
    | 4 => decide (st ≤ 4)
    | _ => false
  if ok then .success else .invalidZoneTransition

/-- Writes of a zone past their commit point, or on their way through rows that are. -/
def zoneBusy (z : Nat) (s : State) : Bool := s.cmds.any fun c => accepted c && c.zone == z && pastCommit c s

/-- Writes of a zone short of their commit point fail. -/
def failShort (z : Nat) (st : NvStatus) (s : State) : State :=
  let t := forAll (s.cmds.filter fun c => accepted c && c.zone == z && !pastCommit c s) (fun c u => finish c st u) s
  returnAccept z 0 t

/-- The update of the zone table at a Finish; on a shelf the last row's parity leaves the parity log (R217, R609). -/
def finishZone (z : Nat) (s : State) : State :=
  let t := dropRa (· == z) (failShort z .zoneFull s)
  startCheckpoint (zoneTo z 4 (shelfFinish z (t.setZone z { zoneView z t with accept := (t.zone z).wp })))

/-- The update of the zone table at a Reset (R151, R174, R212, R231, R235, R605). -/
def resetZone (z : Nat) (s : State) : State :=
  let t := dropRa (· == z) (failShort z .zoneInvalidWrite s)
  let gone := (t.ops.filter fun o => o.pass.isSome && o.zone == z).map (·.mtag)
  let t := dropRows z 0 t
  let t := { t with
    jobs := t.jobs.filter fun j => !((j.reloc && j.zone == z) || gone.contains j.mtag)
    ops := t.ops.filter fun o => !gone.contains o.mtag
    shelf := t.shelf.filter fun r => r.zone ≠ z
    fronts := t.fronts.del z
    raRow := t.raRow.del z
    acd := { t.acd with
      unrec := t.acd.unrec.filter fun e => e.1 ≠ z
      bad := t.acd.bad.filter fun e => e.1 ≠ z
      redirect := t.acd.redirect.filter fun e => e.2.1 ≠ z
      rebuilt := t.acd.rebuilt.filter fun e => e.1 ≠ z
      deferred := t.acd.deferred.filter fun e => e.2.1 ≠ z
      waiting := t.acd.waiting.filter fun e => e.1 ≠ z
      resync := t.acd.resync.erase z
      held := t.acd.held.filter (· ≠ z) } }
  let t := showInfl (t.modSegs fun f => if f.zone = z then { f with dead := true } else f)
  let t := showResync (showUnrec (freeBands t))
  let t := if driveRole t then t else shelfReset z t
  let zr := t.zone z
  let t := t.setZone z { Zone.fresh with gen := (zr.gen + 1) % 512 }
  zoneTo z 0 t

/-- One zone of an action: answers the state and whether the action is done there. -/
def actZone (act z : Nat) (s : State) : State × Bool :=
  let zr := zoneView z s
  if act = 1 then
    if zr.state = 3 then (s, true)
    else
      let t := tryFrontier z s
      if zr.ready ≤ zr.wp then (dropRa (· == z) (zoneTo z 3 t), true) else (t, false)
  else if act = 2 then
    if zr.state = 4 then (s, true)
    else
      let t := tryFrontier z s
      if zoneBusy z t || decide ((t.zone z).wp < rowEnd z t) then (t, false) else (finishZone z t, true)
  else if act = 3 then
    if zr.state = 2 then (s, true) else (zoneTo z 2 s, true)
  else if zoneBusy z s || decide (zr.wp < rowEnd z s) then (s, false) else (resetZone z s, true)

/-- The limits that an explicit open of the zones `l` meets (R454, R460): no zone is closed to make room, as R458 does for a Write or Append. -/
def openStatus (l : List Nat) (s : State) : NvStatus :=
  let empty := l.countP fun z => (s.zone z).state == 0
  let opening := empty + l.countP fun z => (s.zone z).state == 3
  if opening ≠ 0 ∧ maxOpen s < openedCount s + opening then .tooManyOpen
  else if empty ≠ 0 ∧ maxActive s < activeCount s + empty then .tooManyActive
  else .success

/-- An action goes on at the zones where it is not done (R461). -/
def actStep (c : NvCmd) (s : State) : State :=
  let r := c.mtags.foldl (fun (p : State × List Nat) z =>
    let q := actZone c.act z p.1
    (q.1, if q.2 then p.2 else p.2 ++ [z])) (s, [])
  if r.2.isEmpty then finish c .success r.1 else r.1.modCmd c fun x => { x with phase := .zone, mtags := r.2 }

/-- Close and Finish need the media when they must place a frontier frame (R475). -/
def actNeedsMedia (act : Nat) (l : List Nat) (s : State) : Bool :=
  (act == 1 || act == 2) && l.any fun z => decide ((s.zone z).wp < (s.zone z).ready)

/-- Start an action at one zone or at those to which Select All applies; it is held while one of them is being resynchronised (R248)
and during an activation (R474). -/
def startAct (c : NvCmd) (s : State) : State :=
  let l := if c.all then (s.zones.filter fun e => (actStates c.act).contains e.2.state).map (·.1) else [c.zone]
  if c.act = 5 then finish c .invalidZoneTransition s
  else if !c.all && decide (zoneTotal s ≤ c.zone) then finish c .lbaOutOfRange s
  else if !c.all && actStatus c.act (s.zone c.zone).state ≠ .success then finish c .invalidZoneTransition s
  else if s.on NVQ_STS_ACTIVATING 0 || (l.any fun z => s.acd.resync.contains z) || (actNeedsMedia c.act l s && mediaHold true l s) then holdCmd { c with mtags := l } s
  else if c.act = 3 ∧ openStatus l s ≠ .success then finish c (openStatus l s) s
  else actStep { c with mtags := l } s

/-! ## Fetch (R440, R442) -/

/-- A Delete I/O Submission Queue has drawn the drain line of queue `q` (R467). -/
def draining (q : Nat) (s : State) : Bool := s.cmds.any fun c => c.phase == .delete && c.zone == q

/-- Admin commands that are executed; an outstanding Asynchronous Event Request is not. -/
def adminBusy (s : State) : Nat := s.cmds.countP fun c => c.sqid == 0 && c.phase != .event

/-- The queue has an entry that arbitration may take. -/
def hasEntry (q : Nat) (s : State) : Bool :=
  match s.sqs.find q with
  | none => false
  | some x => x.head != x.tail && !draining q s && (q != 0 || decide (adminBusy s < 8))

/-- Entries that one queue gives in its turn. -/
def burst (s : State) : Nat := if s.is NVQ_AB 0 7 then 65536 else 2 ^ s.get NVQ_AB 0

/-- The queue that round robin serves next (R442). -/
def nextQueue (s : State) : Option Nat :=
  let q := s.get NVQ_RRQ 0
  if hasEntry q s && s.get NVQ_RRN 0 < burst s && s.on NVQ_RRN 0 then some q
  else
    let ids := s.sqs.map (·.1)
    ((ids.filter (q < ·)) ++ (ids.filter (· ≤ q))).find? fun i => hasEntry i s

/-- NVQ fetches (R439, R471, R472, R474, R506). -/
def fetchOn (s : State) : Bool :=
  s.on NVQ_EN 0 && s.on NVQ_STS_RDY 0 && !s.on NVQ_FETCHOFF 0 && !s.on NVQ_CTL_HOLD 0 && !s.on NVQ_STS_ACTIVATING 0
    && !s.on NVQ_RESETTING 0 && s.is NVQ_SHUT 0 0

/-- A fetch request for a submission queue entry is outstanding. -/
def sqFetchOut (s : State) : Bool := s.tags.any fun e => e.2 == .sqFetch

/-- Issue the read requests of a command, as far as there are tags (R503). -/
def issueData (c : NvCmd) : Nat → State → State
  | 0, s => s.modCmd c fun x => { x with phase := .data, reqs := 0 }
  | n + 1, s =>
    if (freeTag s).isNone then s.modCmd c fun x => { x with reqs := n + 1 }
    else issueData c n (issueRead (.cmdFetch c.sqid (BitVec.ofNat 16 c.cid) c.order) s)

/-- Requests that NVQ has to issue: an entry's fetch, and the data of commands (R501, R503, R511). -/
def issueRequests (s : State) : State :=
  if !mayIssue s then s
  else
    let t := if fetchOn s && !s.on NVQ_FETCHED 0 && !sqFetchOut s && (nextQueue s).isSome then issueRead .sqFetch s else s
    forAll (t.cmds.filter fun c => c.phase == .waitData) (fun c u => issueData c c.reqs u) t

/-! ## Power states (R477, R478, R528) -/

/-- Lanes in ACTIVE. -/
def activeLanes (s : State) : Nat := (List.range 48).countP fun l => s.is LAN_STS_STATE l 2

/-- The lane limit of a power state. -/
def laneLimit (ps : Nat) : Nat := match ps with | 0 => 48 | 1 => 24 | 2 => 12 | _ => 48

/-- Send the latency report of the present power state (R528). -/
def sendLtr (s : State) : State :=
  if !s.on PCI_STS_DL_UP 0 || s.on PCI_FRZ_FROZEN 0 then s
  else s.emit (.ltr (if s.is PCI_STS_DSTATE 0 3 ∨ s.is NVQ_STS_PS 0 4 then 3000 else if s.is NVQ_STS_PS 0 3 then 1000 else 10))

/-- Enter a power state; the operational one is kept to return to (R478). -/
def setPower (ps : Nat) (s : State) : State :=
  if s.is NVQ_STS_PS 0 ps then s
  else
    let t := s.set NVQ_STS_PS 0 ps
    sendLtr (if ps ≤ 2 then t.set NVQ_OPPS 0 ps else t)

/-- A Power Management feature completes when its state holds (R478). -/
def powerDone (c : NvCmd) (s : State) : State :=
  if c.zone ≤ 2 then if activeLanes s ≤ laneLimit c.zone then finish c .success s else s
  else if !driveRole s || allParked s then finish c .success s else s

/-- A Power Management feature selects its state, or is held while a standing order contradicts it (R478, R619). -/
def startPower (c : NvCmd) (s : State) : State :=
  let ps := c.zone
  if (2 < ps && s.on CLB_ORDER_SPIN 0) || decide (ps < s.get CLB_ORDER_PSCAP 0) then holdCmd c s
  else
    let up := ps ≤ 2 && 2 < s.get NVQ_STS_PS 0
    let t := setPower ps (s.modCmd c fun x => { x with phase := .power })
    let t := if up then t.set NVQ_LEAVING 0 1 else t
    let t := if 2 < ps && driveRole t then orderlyDrydown 2 t else t
    powerDone { c with phase := .power } t

/-- An I/O command returns the controller from PS3 or PS4 (R478), as far as a standing order permits (R618). -/
def leavePower (s : State) : State :=
  if s.get NVQ_STS_PS 0 ≤ 2 || !(s.get CLB_ORDER_PSCAP 0 ≤ 2) then s
  else (setPower (Nat.max (s.get NVQ_OPPS 0) (s.get CLB_ORDER_PSCAP 0)) s).set NVQ_LEAVING 0 1

/-! ## Controller reset (R471) -/

/-- The features that are not saved return to their defaults. -/
def defaultFeatures (s : State) : State :=
  forBelow 260 (fun v t => t.unset NVQ_IVC v)
    ([NVQ_AB, NVQ_TMPTH, NVQ_COAL, NVQ_AEC, NVQ_NQSET, NVQ_STS_WCE].foldl (fun t f => t.unset f 0) (s.unset NVQ_TMPTH 1))

/-- Discard the commands (R471): the data that have not entered a row go, every accept pointer returns to the write pointer (R455), and zones
with rows on their way are remembered. -/
def discardCmds (s : State) : State :=
  let short := s.cmds.countP fun c => !pastCommit c s
  let zs := (s.zones.filter fun e => decide (e.2.wp < rowEnd e.1 s)).map (·.1)
  let t := s.zones.foldl (fun (u : State) e =>
    let v := returnAccept e.1 0 u
    v.setZone e.1 { v.zone e.1 with accept := (v.zone e.1).wp }) s
  let t := raDrop ((t.add NVQ_CNT_ABRT 0 short))
  { t with cmds := [], cpls := [], events := [], evMask := [], linger := zs
           acd := { t.acd with held := [], waiting := [] } }

/-- Ask for the bank swap of an activation (R474 step 4): at once in the manager role (R620), else at the next index boundary. -/
def askSwap (s : State) : State :=
  let b := 1 - s.get LPE_IMGSTS_ACTIVE 0
  let t := s.set NVQ_ACTHELD 0 1
  if driveRole t then (t.setSh LPE_IMG_BANK 0 b).setBit LPE_CMT_STS_PENDING 0 0 true else bankSwap b t

/-- An activation begins: fetch is held (R474 step 1). -/
def startActivation (s : State) : State :=
  (raiseEvent .activationStarting s).setMany 0 [(NVQ_STS_ACTIVATING, 1), (NVQ_ACTHELD, 0), (NVQ_ACTNEXT, 0)]

/-- An activation ends with a status; fetch resumes. -/
def endActivation (st : NvStatus) (s : State) : State :=
  let t := s.setMany 0 [(NVQ_STS_ACTIVATING, 0), (NVQ_ACTHELD, 0)]
  forAll (t.cmds.filter fun c => c.phase == .activate) (fun c u => finish c st u) t

/-- An activation fails (R474): source 260. -/
def failActivation (st : NvStatus) (s : State) : State := endActivation st (pulse 260 0xFF s)

/-- An activation goes on: when no command past its commit point is left, the swap is asked for; when the bank has swapped it ends. -/
def stepActivation (s : State) : State :=
  if !s.on NVQ_STS_ACTIVATING 0 then s
  else if s.cmds.any fun c => pastCommit c s then s
  else if !s.on NVQ_ACTHELD 0 then
    if imageCheck (1 - s.get LPE_IMGSTS_ACTIVE 0) s then askSwap s else failActivation .activationNeedsControllerReset s
  else if s.bit LPE_CMT_STS_PENDING 0 0 then s
  else endActivation .success s

/-- The controller is reset (R471): by CC.EN, NVM Subsystem Reset, FLR, hot reset, link down or PERST_N. -/
def nvqReset (s : State) : State :=
  let t := defaultFeatures (discardCmds s)
  let t := { t with sqs := [], cqs := [] }
  let t := forBelow 8 (fun i u => u.set NVQ_SQEN i 0) t
  let t := t.setMany 0 [(NVQ_EN, 0), (NVQ_CFS, 0), (NVQ_BADCC, 0), (NVQ_FETCHOFF, 0), (NVQ_FETCHED, 0), (NVQ_RRQ, 0), (NVQ_RRN, 0),
    (NVQ_SHUT, 0), (NVQ_SHST, 0), (NVQ_STS_ACTIVATING, 0), (NVQ_INTM, 0), (NVQ_RESETTING, s.get NVQ_STS_RDY 0)]
  let t := t.setBit NVQ_CC 0 0 false
  if t.on NVQ_ACTNEXT 0 then startActivation t else t

/-! ## Conditions that are reported (R481, R484, R525) -/

/-- Critical Warning of the SMART / Health page (R481). -/
def criticalWarning (s : State) : Nat :=
  s.get ACD_STS_SPARE_LOW 0 + (if 373 ≤ s.get NVQ_TEMP 0 then 2 else 0)
    + (if s.lostMask ≠ 0 || !s.acd.unrec.isEmpty then 4 else 0)

/-- Report a change of the critical warning. -/
def reportWarning (s : State) : State :=
  let w := criticalWarning s
  let old := s.get NVQ_CRITW 0
  if w = old then s
  else pmeEvent (s.on PCI_PME_CRIT 0) (raiseEvent (.smart (w ^^^ old)) (s.set NVQ_CRITW 0 w))

/-- Zones that the controller itself has changed since `s` (R462): finished, or taken offline. -/
def reportZones (s t : State) : State :=
  let l := (t.zones.filter fun e => let o := (s.zone e.1)
    o.state != e.2.state && ((e.2.state == 4 && e.2.finished) || e.2.state == 6)).map (·.1)
  let add (u : State) (z : Nat) : State := if u.changed.contains z || 511 < u.changed.length then u else { u with changed := u.changed ++ [z] }
  let t' := showZones (l.foldl (fun u z => dropRa (· == z) (add u z)) t)
  if l.isEmpty then t else raiseEvent .zoneChanged t'

/-- Additions to and removals from the unrecovered list since `s` (R481, R482). -/
def countExtents (s t : State) : State :=
  if t.acd.unrec = s.acd.unrec then t
  else
    let new := t.acd.unrec.filter fun e => !s.acd.unrec.contains e
    let gone := s.acd.unrec.filter fun e => !t.acd.unrec.contains e
    let fresh := new.filter fun e => !(gone.any fun o => o.1 == e.1 && (o.2.1 == e.2.1 || o.2.1 + o.2.2.1 == e.2.1 + e.2.2.1))
    ((t.add NVQ_EXTENTS 0 fresh.length).add NVQ_UNRCHG 0 (Nat.max new.length gone.length))

/-- The accept pointer is never below the write pointer (R455). -/
def liftAccept (s : State) : State :=
  { s with zones := s.zones.map fun (e : Nat × Zone) =>
      (e.1, { e.2 with accept := Nat.max e.2.accept e.2.wp, ready := Nat.max e.2.ready e.2.wp }) }

/-! ## What a change elsewhere brings about -/

/-- A command of a queue whose drain line is drawn, short of its commit point, is aborted (R467). -/
def abortShort (q : Nat) (s : State) : State :=
  forAll (s.cmds.filter fun c => c.sqid == q && !pastCommit c s && c.phase != .dropped) (fun c t =>
    failCmd c .abortedSqDeletion (t.bump NVQ_CNT_ABRT 0)) s

/-- A Delete I/O Submission Queue completes when its queue has no entry and no command left (R467). -/
def deleteDone (c : NvCmd) (s : State) : State :=
  match s.sqs.find c.zone with
  | none => finish c .success s
  | some q =>
    if q.head ≠ c.act || (s.cmds.any fun x => x.sqid == c.zone) || (s.cpls.any fun x => x.sqid == c.zone) then s
    else
      let i := c.zone - 1
      finish c .success ({ s with sqs := s.sqs.del c.zone }.setBit NVQ_SQEN (i / 32) (i % 32) false)

/-- One command goes on as far as it can; a Read and a zone action short of their commit points stand still during an activation (R466,
R474). -/
def progress (c : NvCmd) (s : State) : State :=
  match cmdOf c.sqid (BitVec.ofNat 16 c.cid) s with
  | none => s
  | some c =>
    match c.phase with
    | .held =>
      if c.sqid = 0 then startPower c s
      else if c.op = 0 then beginFlush c s
      else if c.op = 2 then beginRead c s
      else if isWrite c then beginWrite c s
      else startAct c s
    | .rows => writeDone c s
    | .media => if s.on NVQ_STS_ACTIVATING 0 then s else readDone c s
    | .journal seq => if seq ≤ s.get ACD_JRNL_SEQ 0 then finish c .success s else s
    | .zone => if s.on NVQ_STS_ACTIVATING 0 then s else actStep c s
    | .delete => deleteDone c s
    | .power => powerDone c s
    | _ => s

/-- A shutdown goes on (R472): frontier frames, then the clean record. -/
def stepShutdown (s : State) : State :=
  if s.is NVQ_SHUT 0 0 || s.is NVQ_SHST 0 2 then s
  else if s.on NVQ_SHSEQ 0 then
    if cleanWritten s then s.setMany 0 [(NVQ_SHST, 2), (NVQ_SHSEQ, 0)] else s
  else if s.is NVQ_SHUT 0 1 && s.cmds.any fun c => c.phase != .event && c.phase != .dropped then s
  else if !s.on ACD_CTL_RUN 0 then s.set NVQ_SHST 0 2
  else
    let t := placeFrontiers s
    if t.zones.any fun e => decide (e.2.wp < rowEnd e.1 t) then t
    else acdClean (t.set NVQ_SHSEQ 0 1)

/-- A controller reset ends when the committed rows are done (R471). -/
def stepReset (s : State) : State :=
  let t := { s with linger := s.linger.filter fun z => decide ((s.zone z).wp < rowEnd z s) }
  if t.on NVQ_RESETTING 0 && t.linger.isEmpty then t.setMany 0 [(NVQ_RESETTING, 0), (NVQ_STS_RDY, 0)] else t

/-- The controller has left PS3 or PS4 when the media are up (R478). -/
def stepLeaving (s : State) : State :=
  if s.on NVQ_LEAVING 0 && mediaUp (s.set NVQ_LEAVING 0 0) then s.set NVQ_LEAVING 0 0 else s

/-- One round over the commands in the order of their fetch. -/
def settleRound (s : State) : State :=
  stepReset (stepShutdown (stepActivation (forAll s.cmds progress (stepLeaving s))))

/-- The NVQ registers that show what the queues hold (R487). -/
def showNvq (s : State) : State :=
  let io := s.cmds.filter fun c => c.sqid != 0
  s.setMany 0 [(NVQ_INFL_INFL, io.length), (NVQ_INFL_HELD, io.countP fun c => c.phase == .held),
    (NVQ_STS_MEDIA_READY, (mediaUp s && !s.on ACD_CTL_CLEAN 0).toNat),
    (NVQ_STS_FETCH_HELD, (s.on NVQ_CTL_HOLD 0 || s.on NVQ_STS_ACTIVATING 0 || s.on NVQ_RESETTING 0).toNat),
    (NVQ_DURWAIT, (io.any fun c => isWrite c && c.phase == .rows && decide (cmdEnd c s ≤ (s.zone c.zone).wp) && !durableEnough c s).toNat)]

/-- Forget the media operations whose submitter has taken note of their end. -/
def forgetEnded (s : State) : State :=
  { s with ended := s.ended.filter fun e => s.cmds.any fun c => c.mtags.contains e.1 && c.phase == .media }

/-- Under MODE 1 of the SPIN record the first command that needs the media starts the spindle, once the links, the loop engine and the format
sequencer run, and with a grant of at least TMIN (R584, R585). -/
def startForMedia (s : State) : State :=
  if driveRole s && s.is SPN_SMODE 0 1 && s.on LPE_CTL_RUN 0 && s.on FMT_CTL_RUN 0 && s.is SPN_STATE_STATE 0 0
      && decide (s.get SPN_TMIN 0 ≤ s.get SPN_TOKENS_GRANT 0) && s.cmds.any (fun c => c.sqid != 0 && c.phase == .held) then startOrder s
  else s

/-- Everything that follows in NVQ from a command that has taken the block from `s` to `t`. -/
def nvqSettle (s t : State) : State :=
  let t := reportWarning (countExtents s (reportZones s (liftAccept t)))
  let t := Nat.repeat settleRound 4 t
  showNvq (issueRequests (forgetEnded (drainCpls (startForMedia t))))

end Sys2Proof.Machine
end

