-- ==== Sys2Proof/Machine/LostData.lean ====
section
/-!
DEFINITION. Data on their way to media that buffer DRAM has lost (R424, R425, R562, R564): the command fails, the block is listed with a pad
block in its place, or the image is restored from media.
-/

namespace Sys2Proof.Machine

/-! ## Which frame -/

/-- The rows of a zone that the accord engine is writing, by number. -/
def rowOf (z r : Nat) (s : State) : Option RowRec := s.rows.find? fun x => x.zone == z && x.row == r

/-- The command short of its commit point whose data hold block `b` of a zone (R466). -/
def uncommitted (z b : Nat) (s : State) : Option NvCmd :=
  s.cmds.find? fun c => isWrite c && c.phase == .rows && c.zone == z && decide (cmdOff c s ≤ b) && decide (b < cmdEnd c s) && !pastCommit c s

/-- The frames whose images wait to go to media: those of rows being written, then those of data that have entered no row. -/
def imageFrames (s : State) : List (Nat × Nat × Nat) :=
  (s.rows.flatMap fun r => r.frames.map fun f => (r.zone, r.row, f.pos)) ++
    ((s.cmds.filter fun c => isWrite c && c.phase == .rows).flatMap fun c =>
      (List.range c.io.nlb).map fun i => (c.zone, (cmdOff c s + i) / rowBlocks s, (cmdOff c s + i) / s.fb % Nat.max 1 s.k))

/-- An address lies in the image of a frame: that of the accepted data, or the one that is written. -/
def inImage (a : Nat) (x : Nat × Nat × Nat) (s : State) : Bool :=
  [imageAt x.1 x.2.1 x.2.2 0, writeImage x.1 x.2.1 x.2.2 s].any fun b => decide (b ≤ a) && decide (a < b + s.fb * cwBytes)

/-- The codeword image at an address cannot be used: a line of it is lost, or its guard does not match (R424, R425). -/
def imageLost (a : Nat) (s : State) : Bool := ((linesOf a cwBytes).any fun x => lineLost x s) || !guardMatches a 0 s.mem

/-- Codeword `c` of a frame holds what is to go to media: parity, or a block that the zone's data reach. -/
def holdsBlock (z r pos c : Nat) (s : State) : Bool :=
  decide (s.k ≤ pos) || decide (s.fb * (r * s.k + pos) + c < (s.zone z).ready)

/-- The codewords of a frame whose images are lost. -/
def lostCodewords (z r pos : Nat) (s : State) : List Nat :=
  (List.range s.fb).filter fun c => holdsBlock z r pos c s
    && (imageLost (imageAt z r pos c) s || imageLost (writeImage z r pos s + cwBytes * c) s)

/-! ## What becomes of a lost block (R424) -/

/-- The block of a codeword is on media as its image has it: it is committed (R463), or a frontier frame on media holds it. -/
def onMediaNow (z r pos c : Nat) (s : State) : Bool :=
  decide (s.fb * (r * s.k + pos) + c < (s.zone z).wp)
    || (s.fronts.find z).any fun f => f.row == r && f.pos == pos && decide (c < f.onMedia)

/-- A codeword's image is restored from media: its lines take correct checks; where a guard mismatch shows that the bytes have changed they
are those of the media, which are free here (log entry 11). -/
def restoreImage (a : Nat) (s : State) : State :=
  let t := cleanRange a cwBytes s
  if guardMatches a 0 t.mem then t
  else { t with mem := writeGuard a (t.mem.writeList a (freeBytes t.fresh 4096)), fresh := t.fresh + 4096 }

/-- Both images of a codeword by `f`. -/
def onImages (z r pos c : Nat) (f : Nat → State → State) (s : State) : State :=
  let t := f (imageAt z r pos c) s
  if isFrontier z r pos s then f (writeImage z r pos s + cwBytes * c) t else t

/-- The parity of a row is computed anew from its images, and goes to media again (R195, R424). -/
def parityAnew (x : RowRec) (s : State) : State :=
  let t := writeParities x.zone x.row x.blocks s
  let t := t.modFrames (fun r f => r.zone == x.zone && r.row == x.row && decide (s.k ≤ f.pos)) fun f => { f with written := false, verified := false }
  let hit (j : FrameJob) : Bool := (j.write || j.verify) && j.zone == x.zone && j.row == x.row && decide (s.k ≤ j.pos)
  fillJobs { t with jobs := (t.jobs.filter fun j => !(hit j && j.st == .wait)).map fun j => if hit j then { j with stale := true } else j }

/-- A block past its commit point is lost: it is listed, a pad block takes its place, and the parity follows (R424, R564). -/
def listLost (x : RowRec) (pos c : Nat) (s : State) : State :=
  let t := addUnrec x.zone (s.fb * (x.row * s.k + pos) + c) s
  parityAnew x (onImages x.zone x.row pos c (fun a u => cleanRange a cwBytes { u with mem := writePad a u.mem }) t)

/-- The DRAM copy of codeword `c` of a frame is lost (R424). What has been written with W_OK needs none; a parity frame is computed anew. -/
def loseBlock (z r pos c : Nat) (s : State) : State :=
  let written := (rowOf z r s).any fun x => x.frames.any fun f => f.pos == pos && f.written
  match rowOf z r s, uncommitted z (s.fb * (r * s.k + pos) + c) s with
  | some x, none =>
    if written then s
    else if s.k ≤ pos then writeParities z r x.blocks s
    else if onMediaNow z r pos c s then onImages z r pos c restoreImage s
    else listLost x pos c s
  | some x, some d => if s.k ≤ pos then (if written then s else writeParities z r x.blocks s) else failWrite d .dataTransferError s
  | none, some d => failWrite d .dataTransferError s
  | none, none => s

/-- The lost codewords of a frame's images are dealt with. -/
def loseFrame (x : Nat × Nat × Nat) (s : State) : State :=
  forAll (lostCodewords x.1 x.2.1 x.2.2 s) (fun c t => loseBlock x.1 x.2.1 x.2.2 c t) s

/-- A frame that a reconstruction or rebuild has read is lost in DRAM: it counts as a loss, and another is read (R219, R226, R424). -/
def loseSource (a : Nat) (s : State) : State :=
  let hit (o : MediaOp) (g : Nat × Nat) : Bool :=
    opGathers o s && decide (imageAt o.zone g.1 g.2 0 ≤ a) && decide (a < imageAt o.zone g.1 g.2 0 + s.fb * cwBytes)
  forAll (s.ops.filter fun o => o.got.any (hit o)) (fun o t =>
    takeSources o.mtag 1 (t.modOp o.mtag fun x => { x with got := x.got.filter fun g => !hit o g })) s

/-- Data at an address in buffer DRAM are lost to the block that needs them. -/
def loseAt (a : Nat) (s : State) : State :=
  match (imageFrames s).find? fun x => inImage a x s with
  | some x => loseFrame x s
  | none => loseSource a s

/-- A block of the drive whose reads are handled under R424. -/
def BufMaster.media : BufMaster → Bool
  | .lane _ | .dec | .acd | .fmt => true
  | _ => false

/-- A read by a block of the drive may have found its data lost (R424). -/
def afterRead (who : BufMaster) (a : Nat) (s : State) : State :=
  if BufMaster.media who && (dataOffset a s).isSome && lineLost ((a - dramBase) / 64) s then loseAt a s else s

/-- The lane has found the frame of an operation lost when it fetched it (R112, R425). -/
def afterFetch (l : Nat) (w : BitVec 512) (s : State) : State :=
  match FrameOp.ofWord w with
  | some op => if (s.lane l).wbuf.any fun x => x.1 == op && x.2.isEmpty then loseAt op.dataAddr.toNat s else s
  | none => s

/-- The accord engine reads the images of the data frames of a zone's next full row, which it needs for its parity: it submits no row while
one of them is lost (R424, R425). -/
def lostForRow (z : Nat) (s : State) : List (Nat × Nat × Nat) :=
  if (s.zone z).ready < s.fb * s.k * (nextRow z s + 1) then []
  else (((rowTodo z (nextRow z s) (s.fb * s.k) s).filter (· < s.k)).map fun d => (z, nextRow z s, d)).filter fun x => !(lostCodewords x.1 x.2.1 x.2.2 s).isEmpty

/-- The accord engine reports the blocks of a frame whose guards do not match (R425, R426). -/
def reportGuards (x : Nat × Nat × Nat) (s : State) : State :=
  forAll ((lostCodewords x.1 x.2.1 x.2.2 s).filter fun c => !guardMatches (imageAt x.1 x.2.1 x.2.2 c) 0 s.mem)
    (fun c t => piMismatch (imageAt x.1 x.2.1 x.2.2 c) 3 t) s

/-- ROW_SUBMIT with the reads that the accord engine makes for it. -/
def submitRow (z : Nat) (s : State) : State :=
  let l := lostForRow z s
  if l.isEmpty || !rowsAllowed s then rowSubmit z s else forAll l (fun x t => loseFrame x (reportGuards x t)) s

end Sys2Proof.Machine
end

