-- ==== Sys2Proof/Machine/NvmeAdmin.lean ====
section
/-!
DEFINITION. The commands of the NVMe queue engine (spec/09): doorbells, controller states, queues, features, firmware and I/O.
-/

namespace Sys2Proof.Machine

/-! ## Doorbells (R443, R444) -/

/-- A doorbell error. -/
def doorbellError (e : NvEvent) (s : State) : State := raiseEvent e (pulse 256 0xFF (s.bump NVQ_CNT_DBERR_DB 0))

/-- Room of an I/O submission queue: 32 unfetched and in-flight commands (R443; log entry 37 for the commands in flight). -/
def sqRoom (y n : Nat) (s : State) : Bool := y == 0 || decide (n + (s.cmds.countP fun c => c.sqid == y) ≤ 32)

/-- SQ_TAIL_DOORBELL (R444). -/
def sqTail (y v : Nat) (s : State) : State :=
  match s.sqs.find y with
  | none => doorbellError .invalidDoorbellRegister s
  | some q =>
    if q.size ≤ v || !sqRoom y ((v + q.size - q.head) % q.size) s then doorbellError .invalidDoorbellValue s
    else { s with sqs := s.sqs.put y { q with tail := v } }

/-- CQ_HEAD_DOORBELL (R443, R444, R530). -/
def cqHead (y v : Nat) (s : State) : State :=
  match s.cqs.find y with
  | none => doorbellError .invalidDoorbellRegister s
  | some q =>
    if q.size ≤ v || decide ((q.tail + q.size - q.head) % q.size < (v + q.size - q.head) % q.size) then
      doorbellError .invalidDoorbellValue s
    else updateInta { s with cqs := s.cqs.put y { q with head := v } }

/-- AGGREGATION_TIME_EXPIRY (R445): the pending interrupt is signalled. -/
def aggregationExpiry (q : Nat) (s : State) : State :=
  match s.cqs.find q with
  | none => s
  | some c => if c.agg = 0 then s else signalVector c.iv { s with cqs := s.cqs.put q { c with agg := 0 } }

/-! ## Controller states (R438, R439, R471, R472, R488) -/

/-- CC settings that are accepted (R438). -/
def ccOk (v : Nat) : Bool := bits v 16 4 == 6 && bits v 20 4 == 4 && bits v 4 3 == 6 && decide (bits v 7 4 ≤ 4) && bits v 11 3 == 0

/-- CC.EN takes effect. -/
def takeEnable (s : State) : State :=
  if !ccOk (s.get NVQ_CC 0) then s.setMany 0 [(NVQ_CFS, 1), (NVQ_BADCC, 1)]
  else
    let aqa := s.get NVQ_AQA 0
    { s.set NVQ_EN 0 1 with
      sqs := s.sqs.put 0 ⟨Nat.max 2 (bits aqa 0 12 + 1), 0, 0⟩
      cqs := s.cqs.put 0 ⟨Nat.max 2 (bits aqa 16 12 + 1), 0, 0, 0, true, 0⟩ }

/-- CC_ENABLE (R438, R488): while RUN is clear it waits. -/
def ccEnable (v : Nat) (s : State) : State :=
  if s.on NVQ_EN 0 || s.on NVQ_BADCC 0 then s
  else
    let t := s.set NVQ_CC 0 (withBit v 0 true)
    if t.on NVQ_CTL_RUN 0 then takeEnable t else t

/-- NVQ_RUN (R488). -/
def nvqRun (run : Bool) (s : State) : State :=
  let t := s.set NVQ_CTL_RUN 0 run.toNat
  if run && t.bit NVQ_CC 0 0 && !t.on NVQ_EN 0 && !t.on NVQ_BADCC 0 then takeEnable t else t

/-- CONTROLLER_READY (R439). -/
def controllerReady (s : State) : State :=
  if s.on NVQ_EN 0 && !s.on NVQ_CFS 0 && !s.on NVQ_RESETTING 0 then s.set NVQ_STS_RDY 0 1 else s

/-- A freeze ends (R517): every tag in use is quarantined, and the commands that it kept from completing are discarded,
under R456 those that lost data short of their commit point (R471). -/
def endFreeze (s : State) : State :=
  let q := s.tags.map fun e => (e.1, true)
  let t := showTags { s with tags := [], quar := s.quar ++ q }
  let gone := t.cmds.filter fun c => c.phase == .dropped
  let t := { t with cmds := t.cmds.filter fun c => !(c.phase == CmdPhase.dropped) }.setMany 0
    [(PCI_FRZ_FROZEN, 0), (PCI_FRZ_BY_FAULT, 0), (PCI_STS_FROZEN, 0)]
  forAll (gone.filter (·.lost)) (fun c u => if isWrite c then rollback c.zone (cmdOff c u) u else u) (t.add NVQ_CNT_ABRT 0 gone.length)

/-- CC_DISABLE (R471, R517). -/
def ccDisable (s : State) : State :=
  let t := nvqReset s
  if t.on PCI_FRZ_BY_FAULT 0 && !t.on FLT_SAFE_ACTIVE 0 then endFreeze t else t

/-- NVM_SUBSYSTEM_RESET (R471). -/
def nvmSubsystemReset (s : State) : State := (nvqReset s).set NVQ_NSSRO 0 1

/-- RESET_DRAIN_TIMEOUT (R471): source 259 fires; the rows complete in the background. -/
def resetDrainTimeout (s : State) : State :=
  if s.on NVQ_RESETTING 0 then pulse 259 0xFF (s.setMany 0 [(NVQ_RESETTING, 0), (NVQ_STS_RDY, 0)]) else s

/-- SHUTDOWN_NORMAL (R472). -/
def shutdownNormal (s : State) : State :=
  if s.on NVQ_EN 0 then s.setMany 0 [(NVQ_SHUT, 1), (NVQ_SHST, 1), (NVQ_SHSEQ, 0)] else s

/-- SHUTDOWN_ABRUPT (R472). -/
def shutdownAbrupt (s : State) : State :=
  if s.on NVQ_EN 0 then (discardCmds s).setMany 0 [(NVQ_SHUT, 2), (NVQ_SHST, 1), (NVQ_SHSEQ, 0)] else s

/-! ## COMMAND_FETCH (R440, R442, R446) -/

/-- I/O queues may be created and commands other than admin ones run (R587, R592). -/
def ioAllowed (s : State) : Bool := !s.on GLB_BOOT_RECOVERY 0 && s.get GLB_ROLE_LEVEL 0 ≤ 1

/-- The opcodes of R446; recovery boot serves the admin commands of R587 and refuses queue creation by its own status. -/
def opcodeOk (q op : Nat) (s : State) : Bool :=
  if q = 0 then
    if s.on GLB_BOOT_RECOVERY 0 then [0x01, 0x02, 0x05, 0x06, 0x10, 0x11].contains op
    else [0x00, 0x01, 0x02, 0x04, 0x05, 0x06, 0x08, 0x09, 0x0A, 0x0C, 0x10, 0x11].contains op
  else [0x00, 0x01, 0x02, 0x79, 0x7A, 0x7D].contains op

/-- The check of a fetched entry. -/
def entryStatus (e : SqEntry) (s : State) : NvStatus :=
  if !opcodeOk e.sqid e.opcode.toNat s then .invalidOpcode
  else if e.fuse ≠ 0 || e.psdt ≠ 0 then .invalidField
  else if e.sqid ≠ 0 && !(e.nsid = 1 || (e.opcode = 0 && e.nsid = 0xFFFFFFFF)) then .invalidNamespace
  else .success

/-- An entry leaves its queue and becomes a command in flight. -/
def takeEntry (e : SqEntry) (q : Sq) (s : State) : State :=
  let same := s.get NVQ_RRQ 0 == e.sqid && s.on NVQ_RRN 0
  let t := s.setMany 0 [(NVQ_RRQ, e.sqid), (NVQ_RRN, if same then s.get NVQ_RRN 0 + 1 else 1), (NVQ_FETCHED, 0)]
  let t := showTags { t with
    sqs := t.sqs.put e.sqid { q with head := (q.head + 1) % Nat.max 1 q.size }
    tags := t.tags.filter fun x => x.2 != .sqFetch
    cmds := t.cmds ++ [⟨e.sqid, e.cid.toNat, e.opcode.toNat, s.get NVQ_ORDER 0, .fetched, noIo e.sqid e.cid, .ok, 0, 0, false, [], false, 0⟩] }
  t.bump NVQ_ORDER 0

/-- COMMAND_FETCH: the entry that arbitration takes, or one before the drain line of a queue that is being deleted (R467). -/
def commandFetch (e : SqEntry) (s : State) : State :=
  match s.sqs.find e.sqid with
  | none => s
  | some q =>
    if !(s.on NVQ_FETCHED 0 || sqFetchOut s || mayIssue s) || !s.on NVQ_EN 0 then s
    else
      match s.cmds.find? fun c => c.phase == .delete && c.zone == e.sqid with
      | some d =>
        if q.head = d.act then s
        else complete e.sqid e.cid.toNat .abortedSqDeletion [] ((takeEntry e q s).bump NVQ_CNT_ABRT 0)
      | none =>
        if !fetchOn s || nextQueue s ≠ some e.sqid then s
        else
          let t := takeEntry e q s
          match entryStatus e s with
          | .success => if e.sqid = 0 then t else leavePower t
          | st => complete e.sqid e.cid.toNat st [] t

/-! ## Queues (R441, R445, R467) -/

/-- Show whether queue pair `q` exists. -/
def showQueue (q : Nat) (on : Bool) (s : State) : State := s.setBit NVQ_SQEN ((q - 1) / 32) ((q - 1) % 32) on

/-- CREATE_IO_SQ (R441). -/
def createSq (qid size cqid : Nat) (c : NvCmd) (s : State) : State :=
  if !ioAllowed s || qid = 0 || s.get NVQ_NSQ 0 + 1 < qid || 256 < qid || (s.sqs.find qid).isSome then finish c .invalidQueueId s
  else if size < 2 || 33 < size then finish c .invalidQueueSize s
  else if cqid ≠ qid || (s.cqs.find cqid).isNone then finish c .cqInvalid s
  else finish c .success (showQueue qid true { s with sqs := s.sqs.put qid ⟨size, 0, 0⟩ })

/-- CREATE_IO_CQ (R441, R445). -/
def createCq (qid size iv : Nat) (ien : Bool) (c : NvCmd) (s : State) : State :=
  if !ioAllowed s || qid = 0 || s.get NVQ_NCQ 0 + 1 < qid || 256 < qid || (s.cqs.find qid).isSome then finish c .invalidQueueId s
  else if size < 2 || 33 < size then finish c .invalidQueueSize s
  else if 256 < iv then finish c .invalidVector s
  else finish c .success { s with cqs := s.cqs.put qid ⟨size, 0, 0, iv, ien, 0⟩ }

/-- DELETE_IO_CQ (R441). -/
def deleteCq (qid : Nat) (c : NvCmd) (s : State) : State :=
  if qid = 0 || (s.cqs.find qid).isNone then finish c .invalidQueueId s
  else if (s.sqs.find qid).isSome then finish c .invalidQueueDeletion s
  else finish c .success { s with cqs := s.cqs.del qid }

/-- DELETE_IO_SQ (R467, R468): the drain line is drawn. -/
def deleteSq (qid : Nat) (c : NvCmd) (s : State) : State :=
  match s.sqs.find qid with
  | none => finish c .invalidQueueId s
  | some q =>
    if qid = 0 || draining qid s then finish c .invalidQueueId s
    else abortShort qid (s.modCmd c fun x => { x with phase := .delete, zone := qid, act := q.tail })

/-! ## Other admin commands -/

/-- ABORT (R469). -/
def abortCmd (c : NvCmd) (s : State) : State :=
  if 4 < (s.cmds.countP fun x => x.sqid == 0 && x.op == 8) then finish c .abortLimit s
  else complete c.sqid c.cid .success [1] s

/-- ASYNC_EVENT_REQUEST (R479 AERL, R484). -/
def asyncEvent (c : NvCmd) (s : State) : State :=
  if 4 ≤ (s.cmds.countP fun x => x.phase == .event) then finish c .aerLimit s
  else
    let t := s.modCmd c fun x => { x with phase := .event }
    deliverEvents t.events [] t

/-- Power Management (R478). -/
def setPowerState (ps : Nat) (c : NvCmd) (s : State) : State :=
  if 4 < ps then finish c .invalidField s else startPower { c with zone := ps } (s.modCmd c fun x => { x with zone := ps })

/-- Number of Queues (R485): 256 of each are granted. -/
def setQueues (nsq ncq : Nat) (c : NvCmd) (s : State) : State :=
  if s.sqs.any (fun q => q.1 != 0) || s.cqs.any fun q => q.1 != 0 then finish c .commandSequence s
  else if nsq = 65535 || ncq = 65535 then finish c .invalidField s
  else complete c.sqid c.cid .success [255 + 255 * 65536] (s.set NVQ_NQSET 0 1)

/-- Volatile Write Cache (R463): commands that no longer wait for the journal complete. -/
def setCache (wce : Bool) (c : NvCmd) (s : State) : State := finish c .success (s.set NVQ_STS_WCE 0 wce.toNat)

/-- Spin-wait limit (R485). -/
def setSpinWait (sec : Nat) (c : NvCmd) (s : State) : State :=
  if sec = 0 || 600 < sec then finish c .invalidField s else finish c .success (s.set NVQ_SPINWAIT 0 sec)

/-- Diagnostic unlock (R486). -/
def setUnlock (code : Nat) (on : Bool) (c : NvCmd) (s : State) : State :=
  if code = s.get NVQ_UNLKC 0 then finish c .success (s.set NVQ_UNLOCK 0 on.toNat)
  else finish c .invalidField (s.bump NVQ_CNT_DBERR_UNLK 0)

/-- The other features (R485). -/
def setFeature (fid dw11 : Nat) (c : NvCmd) (s : State) : State :=
  match fid with
  | 0x01 => finish c .success (s.set NVQ_AB 0 (bits dw11 0 3))
  | 0x02 => setPowerState (bits dw11 0 5) c s
  | 0x04 =>
    if bits dw11 16 4 ≠ 0 || 1 < bits dw11 20 2 then finish c .invalidField s
    else finish c .success (s.set NVQ_TMPTH (bits dw11 20 2) (bits dw11 0 16))
  | 0x06 => setCache (dw11.testBit 0) c s
  | 0x07 => setQueues (bits dw11 0 16) (bits dw11 16 16) c s
  | 0x08 => finish c .success (s.set NVQ_COAL 0 (bits dw11 0 16))
  | 0x09 =>
    if 256 < bits dw11 0 16 then finish c .invalidField s
    else finish c .success (s.set NVQ_IVC (bits dw11 0 16) (bits dw11 16 1))
  | 0x0B => finish c .success (s.set NVQ_AEC 0 dw11)
  | 0xC0 => setSpinWait (bits dw11 0 16) c s
  | 0xC1 => setUnlock (bits dw11 0 16) (dw11.testBit 31) c s
  | _ => finish c .invalidField s

/-- The value of a feature; CDW11 selects the threshold of the Temperature Threshold feature (THSEL) and the vector of the Interrupt Vector
Configuration (R485, Standard). -/
def featureValue (fid dw11 : Nat) (s : State) : Option Nat :=
  match fid with
  | 0x01 => some (s.get NVQ_AB 0)
  | 0x02 => some (s.get NVQ_STS_PS 0)
  | 0x04 => if bits dw11 16 4 ≠ 0 || 1 < bits dw11 20 2 then none else some (s.get NVQ_TMPTH (bits dw11 20 2))
  | 0x06 => some (s.get NVQ_STS_WCE 0)
  | 0x07 => some (255 + 255 * 65536)
  | 0x08 => some (s.get NVQ_COAL 0)
  | 0x09 => if 256 < bits dw11 0 16 then none else some (bits dw11 0 16 + s.get NVQ_IVC (bits dw11 0 16) * 65536)
  | 0x0B => some (s.get NVQ_AEC 0)
  | 0xC0 => some (s.get NVQ_SPINWAIT 0)
  | 0xC1 => some (s.get NVQ_UNLOCK 0 * 2 ^ 31)
  | 0xC2 => some (s.get FMT_WR_VERIFY 0 + 2 * s.get FMT_RA_EN 0 + 256 * s.get ACD_RBLD_SHARE 0)
  | _ => none

/-- GET_FEATURES (R485): current, default, or supported capabilities (changeable). -/
def getFeature (fid sel dw11 : Nat) (c : NvCmd) (s : State) : State :=
  match featureValue fid dw11 s, (if sel = 1 then featureValue fid dw11 State.blank else featureValue fid dw11 s) with
  | some _, some v =>
    if sel = 0 ∨ sel = 1 then complete c.sqid c.cid .success [v] s
    else if sel = 3 then complete c.sqid c.cid .success [4] s
    else finish c .invalidField s
  | _, _ => finish c .invalidField s

/-! ## Firmware (R473, R474, R588) -/

/-- FIRMWARE_IMAGE_DOWNLOAD (R473): pieces are aligned to 4 KiB. -/
def imageDownload (off len : Nat) (c : NvCmd) (s : State) : State :=
  if off % 4096 ≠ 0 || len % 4096 ≠ 0 || len = 0 then finish c .invalidField s
  else finish c .success (s.set NVQ_FWLEN 0 (Nat.max (s.get NVQ_FWLEN 0) (off + len)))

/-- FIRMWARE_COMMIT (R473, R474, R588): the image is verified and written; actions 1 and 3 make the slot active in the directory;
action 2 activates the slot at the next controller reset, action 3 without a reset. A configuration area is accepted in recovery
boot. The version of the new image comes with it and is free here. -/
def firmwareCommit (action slot : Nat) (imageOk isCfg : Bool) (c : NvCmd) (s : State) : State :=
  let cfg := isCfg && s.on GLB_BOOT_RECOVERY 0
  if 3 < action then finish c .invalidField s
  else if !cfg && slot ≠ 1 && slot ≠ 2 then finish c .invalidFirmwareSlot s
  else if (action ≠ 2 && !imageOk) || (isCfg && !cfg) then finish c .invalidFirmwareImage s
  else
    let t := if action = 2 || cfg || !s.on NVQ_FWLEN 0 then s else (s.used.set NVM_VER (slot - 1) s.free).set NVM_FRESH (slot - 1) 1
    let t := t.set NVQ_FWLEN 0 0
    let t := if !cfg && (action = 1 || action = 3) then t.set NVM_ACTIVE 0 (slot - 1) else t
    if action = 3 && !s.on GLB_BOOT_RECOVERY 0 then t.modCmd c fun x => { x with phase := .activate }
    else
      let t := if action = 2 then (t.set NVM_ACTIVE 0 (slot - 1)).set NVQ_ACTNEXT 0 1 else t
      finish c .success t

/-- FIRMWARE_ACTIVATION (R474). -/
def firmwareActivation (s : State) : State := if s.on NVQ_STS_ACTIVATING 0 then s else startActivation s

/-- ACTIVATION_TIMEOUT (R474): the old image stays active; a swap that has been asked for is withdrawn. -/
def activationTimeout (s : State) : State :=
  if !s.on NVQ_STS_ACTIVATING 0 then s
  else failActivation .activationMaxTime (if s.on NVQ_ACTHELD 0 then s.setBit LPE_CMT_STS_PENDING 0 0 false else s)

/-! ## I/O commands -/

/-- Give a fetched command its operands. -/
def withIo (a : IoArgs) (op : Nat) (pi : PiCheck) (f : NvCmd → State → State) (s : State) : State :=
  withCmd a.sqid a.cid op (fun c t => f { c with io := a, pi := pi } (t.modCmd c fun x => { x with io := a, pi := pi })) s

/-- A Zone Management Send action. -/
def zoneSend (sqid : Nat) (cid : BitVec 16) (act zone : Nat) (all : Bool) (s : State) : State :=
  withCmd sqid cid 0x79 (fun c t =>
    startAct { c with act := act, zone := zone, all := all } (t.modCmd c fun x => { x with act := act, zone := zone, all := all })) s

/-- A zone's state in the numbering of the zone descriptor (PRESUMED: Zoned Namespace Command Set, log entry 32). -/
def zoneCode (st : Nat) : Nat := match st with | 0 => 1 | 1 => 2 | 2 => 3 | 3 => 4 | 4 => 14 | 5 => 13 | _ => 15

/-- Report Zones selects a zone by its reporting option. -/
def reported (opt st : Nat) : Bool :=
  match opt with
  | 0 => true
  | 1 => st == 0
  | 2 => st == 1
  | 3 => st == 2
  | 4 => st == 3
  | 5 => st == 4
  | 6 => st == 5
  | _ => st == 6

/-- A zone descriptor (R453, R455, R462), 64 bytes. -/
def zoneDescriptor (z : Nat) (s : State) : List (BitVec 8) :=
  let zr := zoneView z s
  let rzr := s.acd.unrec.any fun e => e.1 == z
  bytesOf 8 (2 + zoneCode zr.state * 4096 + (if zr.finished then 1 else 0) * 65536 + (if rzr then 4 else 0) * 65536)
    ++ bytesOf 8 zr.cap ++ bytesOf 8 (z * zsze s) ++ bytesOf 8 (z * zsze s + zr.wp) ++ List.replicate 32 0

/-- REPORT_ZONES (R462): `max` descriptors fit the buffer. During an activation the command waits, short of its commit point (R466, R474). -/
def reportZonesCmd (zone opt : Nat) (part ext : Bool) (max : Nat) (c : NvCmd) (s : State) : State :=
  if s.on NVQ_STS_ACTIVATING 0 then s
  else if ext || 7 < opt then finish c .invalidField s
  else if zoneTotal s ≤ zone then finish c .lbaOutOfRange s
  else
    let l := ((List.range (zoneTotal s - zone)).map (zone + ·)).filter fun z => reported opt (s.zone z).state
    let n := if part then Nat.min max l.length else l.length
    completeWith [.hostData c.sqid c.cid (bytesOf 64 n ++ (l.take max).flatMap fun z => zoneDescriptor z s)] c.sqid c.cid .success [] s

/-- SPIN_WAIT_EXPIRY (R476). A hold that stands for an activation alone is not limited. -/
def spinWaitExpiry (sqid : Nat) (cid : BitVec 16) (s : State) : State :=
  match cmdOf sqid cid s with
  | some c => if c.phase = .held && !(s.on NVQ_STS_ACTIVATING 0 && mediaUp s) then finish c .namespaceNotReady (pulse 257 0xFF (s.bump NVQ_CNT_NNR 0)) else s
  | none => s

end Sys2Proof.Machine
end

