-- ==== Sys2Proof/Machine/Groups.lean ====
section
/-!
DEFINITION. Shadow registers and commit groups (R58–R67): membership and checks of the groups (R51, R52, R132, R188, R251, R301, R360,
R400), commit, cancel, decision and swap, and the Media Policy feature that commits three of them (R486).
-/

namespace Sys2Proof.Machine

/-! ## Membership -/

/-- The number of a block with groups in the address map (R655). -/
def blkNum : ShBlk → Nat
  | .ang => 1 | .spn => 2 | .srv => 3 | .lpe => 4 | .lan => 5 | .fmt => 7 | .acd => 8

/-- The registers of a group (R663). -/
def groupRegs (b : ShBlk) (g : Nat) : List RegDesc :=
  match b, g with
  | .ang, 0 => [reg_ANG_SRCSEL, reg_ANG_PLT_CFG, reg_ANG_PLT1_OFS, reg_ANG_AMP_LIM, reg_ANG_DIS_LIM]
  | .ang, 1 => [reg_ANG_ECC, reg_ANG_ECC1]
  | .spn, 0 => [reg_SPN_MOTOR, reg_SPN_MOTOR2, reg_SPN_PWM, reg_SPN_SHUNT]
  | .spn, 1 => [reg_SPN_RAMP, reg_SPN_REFMODE, reg_SPN_REFCFG, reg_SPN_REFCFG2]
  | .spn, 2 => [reg_SPN_OBS, reg_SPN_HAND, reg_SPN_EOFS]
  | .spn, 3 => [reg_SPN_ALIGN, reg_SPN_OPEN, reg_SPN_BRAKE, reg_SPN_CATCH]
  | .spn, 4 => [reg_SPN_LIMIT]
  | .spn, 5 => [reg_SPN_PADV]
  | .spn, 6 => [reg_SPN_LG, reg_SPN_VBUS]
  | .srv, 0 => [reg_SRV_VCMCFG, reg_SRV_VCMLIM]
  | .srv, 1 => [reg_SRV_SEEK, reg_SRV_MSEEK, reg_SRV_HAND]
  | .srv, 2 => [reg_SRV_HCFG, reg_SRV_HGAIN, reg_SRV_SAFE, reg_SRV_HOFS]
  | .srv, 3 => [reg_SRV_SETTLE]
  | .srv, 4 => [reg_SRV_DESAT]
  | .srv, 5 => [reg_SRV_RVCFG, reg_SRV_RVFF]
  | .srv, 6 => [reg_SRV_HTR, reg_SRV_HTR2]
  | .lpe, 0 => [reg_LPE_IMG]
  | .lan, 0 => [reg_LAN_AFE, reg_LAN_AGC, reg_LAN_OFS, reg_LAN_ASYM]
  | .lan, 1 => [reg_LAN_DROP, reg_LAN_TA]
  | .lan, 2 => [reg_LAN_EQTGT, reg_LAN_EQBANK, reg_LAN_EQADP]
  | .lan, 3 => [reg_LAN_ZRATIO, reg_LAN_RTTSEL, reg_LAN_PTRIM, reg_LAN_WROFS]
  | .lan, 4 => [reg_LAN_SYNC]
  | .lan, 5 => [reg_LAN_PCMP]
  | .lan, 6 => [reg_LAN_POL]
  | .fmt, 0 => [reg_FMT_LADDER, reg_FMT_LADTIME]
  | .fmt, 1 => [reg_FMT_WR]
  | .fmt, 2 => [reg_FMT_RA]
  | .acd, 0 => [reg_ACD_CODE, reg_ACD_MEMBERS]
  | .acd, 1 => [reg_ACD_RBLD]
  | .acd, 2 => [reg_ACD_JRNL]
  | .acd, 3 => [reg_ACD_SPARE]
  | .acd, 4 => [reg_ACD_STREAM]
  | _, _ => []

/-- Block instances (R663). -/
def shInstances : ShBlk → Nat
  | .srv => 4
  | .lan => 48
  | _ => 1

/-- Instances of a register in the catalogue. -/
def RegDesc.instances (r : RegDesc) : Nat :=
  match r.lay with
  | .lin n _ => n
  | .nest _ o _ c _ => o * c

/-- The instances of a register that belong to block instance `i`: its share, in order. -/
def ownInstances (b : ShBlk) (i : Nat) (r : RegDesc) : List Nat :=
  let n := r.instances / shInstances b
  (List.range n).map fun j => i * n + j

/-- The fields of a group with their instances. -/
def groupFields (b : ShBlk) (i g : Nat) : List (Field × Nat) :=
  (groupRegs b g).flatMap fun r => (r.fields.filter fun f => f.acc.shadowed).flatMap fun f => (ownInstances b i r).map fun j => (f, j)

/-- PENDING, DONE, REJECT and DROP of a block. -/
def pendF : ShBlk → Field
  | .ang => ANG_CMT_STS_PENDING | .spn => SPN_CMT_STS_PENDING | .srv => SRV_CMT_STS_PENDING | .lpe => LPE_CMT_STS_PENDING
  | .lan => LAN_CMT_STS_PENDING | .fmt => FMT_CMT_STS_PENDING | .acd => ACD_CMT_STS_PENDING

/-- DONE of a block. -/
def doneF : ShBlk → Field
  | .ang => ANG_CMT_STS_DONE | .spn => SPN_CMT_STS_DONE | .srv => SRV_CMT_STS_DONE | .lpe => LPE_CMT_STS_DONE
  | .lan => LAN_CMT_STS_DONE | .fmt => FMT_CMT_STS_DONE | .acd => ACD_CMT_STS_DONE

/-- REJECT of a block. -/
def rejectF : ShBlk → Field
  | .ang => ANG_CMT_STS_REJECT | .spn => SPN_CMT_STS_REJECT | .srv => SRV_CMT_STS_REJECT | .lpe => LPE_CMT_STS_REJECT
  | .lan => LAN_CMT_STS_REJECT | .fmt => FMT_CMT_STS_REJECT | .acd => ACD_CMT_STS_REJECT

/-- DROP of a block. -/
def dropF : ShBlk → Field
  | .ang => ANG_CMT_STS_DROP | .spn => SPN_CMT_STS_DROP | .srv => SRV_CMT_STS_DROP | .lpe => LPE_CMT_STS_DROP
  | .lan => LAN_CMT_STS_DROP | .fmt => FMT_CMT_STS_DROP | .acd => ACD_CMT_STS_DROP

/-- The groups whose pending commit has passed its check at the decision point. -/
def decidedF : ShBlk → Field
  | .ang => ANG_DECIDED | .spn => SPN_DECIDED | .srv => SRV_DECIDED | .lpe => LPE_DECIDED
  | .lan => LAN_DECIDED | .fmt => FMT_DECIDED | .acd => ACD_DECIDED

/-- The commit-reject source of a block instance, and the instance number it carries. -/
def rejectSource (b : ShBlk) (i : Nat) : Nat × Nat :=
  match b with
  | .ang => (22, 0xFF)
  | .spn => (42, 0xFF)
  | .srv => (48 + 12 * i + 8, 0xFF)
  | .lan => (160 + 8 * actOf i + 2, i % 12)
  | .fmt => (202, 0xFF)
  | .acd => (219, 0xFF)
  | .lpe => (235, 0xFF)

/-! ## Consistency checks on the shadow contents -/

/-- Groups of ANG (R51, R52). -/
def angCheck (g : Nat) (s : State) : Bool :=
  let v f i := s.getSh f i
  match g with
  | 0 => (v ANG_SRCSEL_DUAL_EN 0 == 0 || (v ANG_SRCSEL_EN0 0 == 1 && v ANG_SRCSEL_EN1 0 == 1))
      && (v ANG_SRCSEL_EN0 0 == 1 || v ANG_SRCSEL_EN1 0 == 1 || v ANG_SRCSEL_OBS_EN 0 == 1)
      && (v ANG_SRCSEL_EN1 0 == 0 || (0x1F8C00 ≤ v ANG_PLT1_OFS 0 && v ANG_PLT1_OFS 0 ≤ 0x207400))
      && 10 ≤ v ANG_AMP_LIM_LO 0 && v ANG_AMP_LIM_LO 0 < v ANG_AMP_LIM_HI 0 && v ANG_DIS_LIM 0 != 0
  | 1 => (List.range 4).all fun i => (s.getShI ANG_ECC i).natAbs ≤ 0x2000 && (s.getShI ANG_ECC1 i).natAbs ≤ 0x2000
  | _ => true

/-- Groups of SPN (R360). -/
def spnCheck (g : Nat) (s : State) : Bool :=
  let v f := s.getSh f 0
  let a f := s.get f 0
  match g with
  | 0 => 1 ≤ v SPN_MOTOR_PP && v SPN_MOTOR_PP ≤ 12 && v SPN_MOTOR_RS != 0 && v SPN_MOTOR_KE != 0 && v SPN_MOTOR2_LS != 0
      && v SPN_SHUNT_RSH != 0 && 0x80 ≤ v SPN_PWM_VMAXMOD && 0x40 ≤ v SPN_SHUNT_IOC && 0x0A ≤ v SPN_SHUNT_TSET
      && (s.is SPN_STATE_STATE 0 0 || (v SPN_MOTOR_PP == a SPN_MOTOR_PP && v SPN_MOTOR_SWAP == a SPN_MOTOR_SWAP
        && v SPN_SHUNT_RSH == a SPN_SHUNT_RSH))
  | 1 => 10 ≤ v SPN_RAMP_AMAX && v SPN_RAMP_AMAX ≤ 2000 && 10 ≤ v SPN_RAMP_JMAX && v SPN_REFMODE_MODE ≤ 3
      && 3600 ≤ v SPN_REFCFG2_FULL && v SPN_REFCFG2_FULL ≤ 7200 && v SPN_REFCFG_PLOCK != 0
  | 2 => 10 ≤ v SPN_OBS_VMIN && v SPN_HAND_AGREE ≤ 0x1E0 && 8 ≤ v SPN_HAND_NAGREE && v SPN_HAND_SLEW != 0 && v SPN_HAND_SUSPT != 0
  | 3 => v SPN_ALIGN_IALIGN < a SPN_SHUNT_IOC && v SPN_OPEN_IOPEN < a SPN_SHUNT_IOC && v SPN_BRAKE_IMAX < a SPN_SHUNT_IOC
      && a SPN_OBS_VMIN < v SPN_OPEN_VHAND && 10 ≤ v SPN_BRAKE_TSENSE && 50 ≤ v SPN_CATCH_VRET && v SPN_CATCH_VRET ≤ 95
      && 1 ≤ v SPN_CATCH_NREACQ && v SPN_CATCH_NREACQ ≤ 15
  | 4 => 5 ≤ v SPN_LIMIT_ILIM && 60 ≤ v SPN_LIMIT_TLIM && v SPN_LIMIT_TLIM ≤ 150 && 10 ≤ v SPN_LIMIT_TDRY
  | 5 => (List.range 32).all fun i => s.getSh SPN_PADV i ≤ 0xF00
  | 6 => v SPN_LG_VHOLD + 5 ≤ v SPN_LG_UV && v SPN_LG_UV < v SPN_VBUS_OV && v SPN_LG_VMINPCT ≤ 50 && 4 ≤ v SPN_VBUS_DIV
      && v SPN_VBUS_DIV ≤ 32
  | _ => true

/-- The least active MAGAIN of the populated heads of an actuator (R301). -/
def leastGain (a : Nat) (s : State) : Nat :=
  let l := ((List.range 12).filter fun p => s.on LAN_POP (12 * a + p)).map fun p => s.get SRV_HGAIN_MAGAIN (12 * a + p)
  l.foldl Nat.min (l.headD 0)

/-- Groups of an actuator (R301). -/
def srvCheck (a g : Nat) (s : State) : Bool :=
  let v f := s.getSh f a
  let heads (p : Nat → Bool) : Bool := (List.range 12).all fun h => p (12 * a + h)
  match g with
  | 0 => 0x1000 ≤ v SRV_VCMLIM_OC && (v SRV_VCMCFG_INV == s.get SRV_VCMCFG_INV a || s.is SRV_STS_STATE a 0)
  | 1 => [SRV_SEEK_VMAX, SRV_SEEK_AMAX, SRV_SEEK_JMAX, SRV_MSEEK_MVMAX, SRV_MSEEK_MAMAX, SRV_HAND_DIST, SRV_HAND_VEL].all (fun f => v f != 0)
      && 1 ≤ v SRV_HAND_NB && 16 ≤ v SRV_MSEEK_TMO
  | 2 => heads fun h => s.getSh SRV_HCFG_WREL h ≤ s.getSh SRV_HCFG_WINH h && 1 ≤ s.getSh SRV_HCFG_NREL h
      && 0x800 ≤ s.getSh SRV_HGAIN_PESCAL h && s.getSh SRV_HGAIN_PESCAL h ≤ 0x2000 && 0x1000 ≤ s.getSh SRV_HGAIN_MAGAIN h
      && s.getSh SRV_SAFE_GAIN h ≤ 383
  | 3 => v SRV_SETTLE_WR ≤ v SRV_SETTLE_RD && 1 ≤ v SRV_SETTLE_NRD && 1 ≤ v SRV_SETTLE_NWR
  | 4 => v SRV_DESAT_REL < v SRV_DESAT_THR && 2 * v SRV_DESAT_THR ≤ v SRV_DESAT_SPAN
      && 128 * v SRV_DESAT_SPAN + 1024 ≤ leastGain a s
  | 5 => 4 ≤ v SRV_RVCFG_MU
  | 6 => heads fun h => s.getSh SRV_HTR_RDP h ≤ s.getSh SRV_HTR_HMAX h && s.getSh SRV_HTR_WRP h ≤ s.getSh SRV_HTR_HMAX h
  | _ => true

/-- Groups of FMT (R188). -/
def fmtCheck (g : Nat) (s : State) : Bool :=
  let v f := s.getSh f 0
  match g with
  | 0 => v FMT_LADDER_REREAD ≤ 8 && 1 ≤ v FMT_LADDER_OFS && v FMT_LADDER_OFS ≤ 0x80 && 2 ≤ v FMT_LADDER_COMBINE
      && v FMT_LADDER_COMBINE ≤ 8 && 100 ≤ v FMT_LADTIME && v FMT_LADTIME ≤ 10000
  | 1 => 1 ≤ v FMT_WR_RETRY && 1 ≤ v FMT_WR_VITER && v FMT_WR_VITER ≤ 40 && 1 ≤ v FMT_WR_AHEAD
  | 2 => 1 ≤ v FMT_RA_ROWS && v FMT_RA_ROWS ≤ 64 && 16 ≤ v FMT_RA_AREA && v FMT_RA_AREA ≤ 8192
  | _ => true

/-- Groups of ACD (R251). -/
def acdCheck (g : Nat) (s : State) : Bool :=
  let v f := s.getSh f 0
  match g with
  | 0 =>
    let k := v ACD_CODE_K
    let m := v ACD_CODE_M
    let mask := s.getSh ACD_MEMBERS 0 + s.getSh ACD_MEMBERS 1 * 2 ^ 32
    4 ≤ k && k ≤ 20 && 1 ≤ m && m ≤ 4 && k + m ≤ (if driveRole s then 22 else 28) && k + m + 1 ≤ popCount mask
      && (!driveRole s || mask < 2 ^ 24) && s.on ACD_STS_ALLEMPTY 0
  | 1 => v ACD_RBLD_SHARE ≤ 100 && 1 ≤ v ACD_RBLD_BATCH && v ACD_RBLD_BATCH ≤ 64 && 4 ≤ v ACD_RBLD_BUF
  | 2 => 10 ≤ v ACD_JRNL_INTERVAL && v ACD_JRNL_INTERVAL ≤ 1000 && v ACD_JRNL_LAZY ≤ v ACD_JRNL_INTERVAL && 1 ≤ v ACD_JRNL_CKPT
      && v ACD_JRNL_CKPT ≤ 60 && 1 ≤ v ACD_JRNL_CKMIN
  | 3 => 1 ≤ v ACD_SPARE_LOW
  | 4 => 1 ≤ v ACD_STREAM_QUANTUM
  | _ => true

/-- The consistency check of a group on its shadow contents (R62). -/
def groupCheck (b : ShBlk) (i g : Nat) (s : State) : Bool :=
  match b with
  | .ang => angCheck g s
  | .spn => spnCheck g s
  | .srv => srvCheck i g s
  | .lpe => imageCheck (s.getSh LPE_IMG_BANK 0) s
  | .lan => laneCheck i g s.shadow s
  | .fmt => fmtCheck g s
  | .acd => acdCheck g s

/-! ## Swap, decision, commit -/

/-- A new reference mode (R324, R328–R330): what the old one had measured goes; MODE 0 takes the set point. -/
def newMode (old : Nat) (s : State) : State :=
  if s.is SPN_REFMODE_MODE 0 old then s
  else
    let t := s.setMany 0 [(SPN_SMPN, 0), (SPN_FEDGES, 0), (SPN_LOCKE, 0), (SPN_STEADY, 0), (SPN_TRIM, 0), (SPN_PHOFF, 0),
      (SPN_STATE_PLOCK, 0)]
    if t.is SPN_REFMODE_MODE 0 0 then newTarget (t.getI SPN_SETPT_TARGET 0 * 16) t else t

/-- Lanes in which a field of `LANn_POL` is set. -/
def polCount (f : Field) (s : State) : Nat := ((List.range 48).map fun l => s.get f l).sum

/-- What a block does when a group's new values have become active; `GLB_WIRING` follows the wiring fields (R583, R590). -/
def afterSwap (b : ShBlk) (i g : Nat) (old : State) (s : State) : State :=
  match b, g with
  | .ang, 0 => selectSource (s.setMany 0 [(GLB_WIRING_PLT0, s.get ANG_PLT_CFG_INV_S 0), (GLB_WIRING_PLT1, s.get ANG_PLT_CFG_INV_S 1)])
  | .spn, 0 => s.set GLB_WIRING_PHASE 0 (s.get SPN_MOTOR_SWAP 0)
  | .srv, 0 => s.setBit GLB_WIRING_VCM 0 i (s.on SRV_VCMCFG_INV i)
  | .lan, 6 => s.setMany 0 [(GLB_WIRING_RDINV, polCount LAN_POL_RD_INV s), (GLB_WIRING_WRINV, polCount LAN_POL_WR_INV s)]
  | .spn, 1 => newMode (old.get SPN_REFMODE_MODE 0) s
  | .lpe, 0 => bankSwap (s.get LPE_IMG_BANK 0) s
  | .lan, 3 => updateFrange i s
  | .acd, 0 => updateSpare (updateMembers (s.set ACD_PLC_STS_VALID 0 0))
  | .acd, 3 => updateSpare s
  | _, _ => s

/-- The whole group is copied into the active copy (R62). -/
def copyGroup (b : ShBlk) (i g : Nat) (s : State) : State :=
  (groupFields b i g).foldl (fun t e => t.set e.1 e.2 (s.getSh e.1 e.2)) s

/-- Swap a group whose check has passed: PENDING clears and DONE sets. -/
def swapGroup (b : ShBlk) (i g : Nat) (s : State) : State :=
  let t := copyGroup b i g s
  let t := ((t.setBit (pendF b) i g false).setBit (decidedF b) i g false).setBit (doneF b) i g true
  afterSwap b i g s t

/-- Refuse a group whose check has failed: PENDING clears, REJECT sets and the block's source fires. -/
def rejectGroup (b : ShBlk) (i g : Nat) (s : State) : State :=
  let t := (s.setBit (pendF b) i g false).setBit (rejectF b) i g true
  pulse (rejectSource b i).1 (rejectSource b i).2 t

/-- A committed group swaps at once (R56, R57): before configuration is complete, at rest, or without a source and without forward
rotation. -/
def swapsAtOnce (s : State) : Bool :=
  !s.on GLB_BOOT_CFGDONE 0 || s.on ANG_SRC_STILL 0 || (s.is ANG_SRC_SRC 0 0 && (s.is ANG_RATE 0 0 || s.on ANG_SRC_DIR 0))

/-- A group exists in its block. -/
def groupExists (b : ShBlk) (i g : Nat) : Bool := !(groupRegs b g).isEmpty && decide (i < shInstances b)

/-- Cancel a pending commit before its decision point (R64). -/
def cancelGroup (b : ShBlk) (i g : Nat) (s : State) : State :=
  if s.bit (decidedF b) i g then s else s.setBit (pendF b) i g false

/-- Commit a group (R60); one that is pending stays as it is. A COMMIT bit of a group that the block does not have leaves no trace: the spec says
nothing of such a bit (log entry 7). DESIGN CHOICE: the conditions of R56 are tested at the commit write, from which the rule bounds the
swap; a group that is pending when STILL sets waits for a boundary (log entry 7). -/
def commitGroup (b : ShBlk) (i g : Nat) (s : State) : State :=
  if !groupExists b i g || s.bit (pendF b) i g then s
  else
    let t := ((s.setBit (pendF b) i g true).setBit (doneF b) i g false).setBit (rejectF b) i g false
    if swapsAtOnce t then (if groupCheck b i g t then swapGroup b i g t else rejectGroup b i g t) else t

/-- GROUP_COMMIT (R60, R64): a write that sets both bits is a CANCEL followed by a COMMIT. -/
def groupCommit (b : ShBlk) (i g : Nat) (cancel : Bool) (s : State) : State :=
  commitGroup b i g (if cancel then cancelGroup b i g s else s)

/-! ## Boundaries (R53–R55, R61) -/

/-- The boundary class of a group: the access code of its registers (R53). -/
def groupClass (b : ShBlk) (g : Nat) : Option Access :=
  (groupRegs b g).findSome? fun r => (r.fields.find? fun f => f.acc.shadowed).map (·.acc)

/-- The index boundary, `early` ticks ahead, is met: tick 0 passing forward (R53). -/
def indexMet (early : Nat) (s : State) : Bool := angleMet (revTicks - early) s && !s.on ANG_SRC_DIR 0

/-- Boundaries of head `h` can be predicted: its surface's descriptor is loaded, it is populated and its lane is powered (R55). -/
def headPredicts (h : Nat) (s : State) : Bool :=
  (s.desc (surfaceOf h)).isSome && s.on LAN_POP h && !s.is LAN_STS_STATE h 0

/-- The data track that the present target of head `h` is the centre of (R55, R263): its index in its band and its frame slots. -/
def targetSlots (h : Nat) (s : State) : Option (Nat × Nat) :=
  (s.desc (surfaceOf h)).bind fun d => (dataTrack d (s.get SRV_TGT_TRACK h)).map fun p => (p.1, p.2.2.f)

/-- Frame boundaries of head `h` can be predicted (R55). -/
def framePredicts (h : Nat) (s : State) : Bool := headPredicts h s && (targetSlots h s).isSome

/-- A frame boundary of head `h`, `early` ticks ahead, is met (R53, R55, R145). -/
def slotMet (h early : Nat) (s : State) : Bool :=
  match targetSlots h s with
  | none => false
  | some p => (List.range p.2).any fun k => match slotTick h (s.get SRV_TGT_TRACK h) k s with
    | some t => angleMet (t + revTicks - early) s
    | none => false

/-- The head that places the wedge boundaries of a block instance: the lane's own, or the actuator's lowest populated one (R53). -/
def wedgeHead (b : ShBlk) (i : Nat) (s : State) : Option Nat :=
  match b with
  | .lan => some i
  | .srv => ((List.range 12).map (12 * i + ·)).find? fun h => s.on LAN_POP h
  | _ => none

/-- A boundary of a group, `early` ticks ahead, is met (R53–R55). -/
def boundaryMet (b : ShBlk) (i g early : Nat) (s : State) : Bool :=
  match groupClass b g with
  | some .shw => match (wedgeHead b i s).filter fun h => headPredicts h s with
    | some h => wedgeMet h early s
    | none => indexMet early s
  | some .shf =>
    match (if b = .lan then [i] else List.range 48).filter fun h => framePredicts h s with
    | [] => indexMet early s
    | l => l.any fun h => slotMet h early s
  | _ => indexMet early s

/-- DECISION_POINT (R61, R62, R134): 32 ticks before a boundary of the group. At a frame boundary to which a frame operation brings a load of
the group, the commit is not decided. -/
def decisionPoint (b : ShBlk) (i g : Nat) (s : State) : State :=
  if !s.bit (pendF b) i g || s.bit (decidedF b) i g || !boundaryMet b i g 32 s then s
  else if b = .lan ∧ loadMeets i g 32 s then s
  else if groupCheck b i g s then s.setBit (decidedF b) i g true else rejectGroup b i g s

/-- BOUNDARY_SWAP (R53–R55, R62, R134): at a boundary of the group. Where a frame operation brings a load of the group to the same frame
boundary, the commit stays pending and undecided. -/
def boundarySwap (b : ShBlk) (i g : Nat) (s : State) : State :=
  if !s.bit (decidedF b) i g || !s.bit (pendF b) i g || !boundaryMet b i g 0 s then s
  else if b = .lan ∧ loadMeets i g 0 s then s.setBit (decidedF b) i g false
  else swapGroup b i g s

/-! ## Writes to shadow registers (R58, R63) -/

/-- The block with groups of a number. -/
def shBlk (n : Nat) : Option ShBlk :=
  match n with
  | 1 => some .ang | 2 => some .spn | 3 => some .srv | 4 => some .lpe | 5 => some .lan | 7 => some .fmt | 8 => some .acd
  | _ => none

/-- The block instance of instance `j` of a register. -/
def instanceOf (b : ShBlk) (r : RegDesc) (j : Nat) : Nat := j / Nat.max 1 (r.instances / shInstances b)

/-- The group of a register. -/
def groupOf (b : ShBlk) (r : RegDesc) : Option Nat := (List.range 8).find? fun g => (groupRegs b g).any fun x => x.off == r.off

/-- Write word `w` of instance `j` of a shadowed register (R58, R63): while its group is pending the write is discarded and DROP
sets. -/
def writeShadow (r : RegDesc) (j w v : Nat) (s : State) : State :=
  match shBlk r.blk with
  | none => s
  | some b =>
    match groupOf b r with
    | none => s
    | some g =>
      let i := instanceOf b r j
      if s.bit (pendF b) i g then s.setBit (dropF b) i g true
      else r.fields.foldl (fun t f => if f.acc.shadowed && f.lo / 32 == w then t.setSh f j (bits v (f.lo - 32 * w) f.width) else t) s

/-! ## Media policy (R485, R486) -/

/-- The groups that the feature commits. -/
def policyGroups : List (ShBlk × Nat) := [(.fmt, 1), (.fmt, 2), (.acd, 1)]

/-- One of them is pending. -/
def policyBusy (s : State) : Bool := policyGroups.any fun p => s.bit (pendF p.1) 0 p.2

/-- Write and commit the groups, unless one of them would be rejected: then every group stays unchanged. -/
def applyPolicy (v : Nat) (c : NvCmd) (s : State) : State :=
  let t := ((s.setSh FMT_WR_VERIFY 0 (bits v 0 1)).setSh FMT_RA_EN 0 (bits v 1 1)).setSh ACD_RBLD_SHARE 0 (bits v 8 8)
  if policyGroups.all fun p => groupCheck p.1 0 p.2 t then
    policyGroups.foldl (fun u p => commitGroup p.1 0 p.2 u) (t.modCmd c fun x => { x with phase := .policy, zone := 1, act := v })
  else finish c .invalidField s

/-- A Media Policy command goes on: it waits until its groups are free, commits them, and completes after their swap. -/
def stepPolicy (s : State) : State :=
  match s.cmds.find? fun c => c.phase == .policy with
  | none => s
  | some c =>
    if policyBusy s then s
    else if c.zone = 0 then
      let t := applyPolicy c.act c s
      if policyBusy t || !(t.cmds.any fun x => x.phase == .policy) then t else finish c .success t
    else finish c (if policyGroups.any fun p => s.bit (rejectF p.1) 0 p.2 then .invalidField else .success) s

/-- MEDIA_POLICY (R486). -/
def mediaPolicy (v : Nat) (c : NvCmd) (s : State) : State :=
  stepPolicy (s.modCmd c fun x => { x with phase := .policy, zone := 0, act := v })

end Sys2Proof.Machine
end

