-- ==== Sys2Proof/Machine/Pages.lean ====
section
/-!
DEFINITION. The structures that Identify returns and the log pages (spec/09 R479–R483). The spec gives their values; where each field
lies is the layout of NVMe 2.0 and its command sets (PRESUMED, log entry 32).
-/

namespace Sys2Proof.Machine

/-- A page of `n` bytes from fields of (offset, bytes, value). -/
def page (n : Nat) (l : List (Nat × Nat × Nat)) : List (BitVec 8) :=
  Memory.readList (l.foldl (fun (m : Memory) f => m.setWord f.1 f.2.1 f.2.2) []) 0 n

/-- The bytes of a text, padded with spaces. -/
def text (t : String) (n : Nat) : Nat :=
  ofBytes ((t.toList.map fun c => BitVec.ofNat 8 c.toNat) ++ List.replicate (n - t.length) 0x20)

/-- Eight hexadecimal digits of a word, as a text. -/
def hexText (v : Nat) : Nat :=
  ofBytes ((List.range 8).map fun i => let d := v / 16 ^ (7 - i) % 16; BitVec.ofNat 8 (if d < 10 then 48 + d else 55 + d))

/-- Power state descriptor `i` (R477): maximum power in 10 mW, non-operational, entry and exit latency in µs. -/
def powerDesc (i mp nops enlat exlat : Nat) : List (Nat × Nat × Nat) :=
  [(2048 + 32 * i, 2, mp), (2048 + 32 * i + 3, 1, 2 * nops), (2048 + 32 * i + 4, 4, enlat), (2048 + 32 * i + 8, 4, exlat)]

/-- Namespaces that the controller has. -/
def namespaces (s : State) : Nat := if ioAllowed s then 1 else 0

/-- Identify Controller (R479). -/
def identifyController (s : State) : List (BitVec 8) :=
  page 4096 ([(0, 2, 0x1F3B), (2, 2, s.get PCI_IDS_SSVID 0), (24, 40, text "APNISOL FV4812" 40), (64, 8, hexText (s.get GLB_FLACON_VER 0)),
    (77, 1, 8), (78, 2, 1), (80, 4, 0x20000), (84, 4, 30000000), (88, 4, 10000000), (92, 4, 0x8000200), (111, 1, 1), (256, 2, 4),
    (258, 1, 3), (259, 1, 3), (260, 1, 0x14), (261, 1, 6), (262, 1, 63), (263, 1, 4), (266, 2, 373), (268, 2, 378), (319, 1, 1),
    (512, 1, 0x66), (513, 1, 0x44), (516, 4, namespaces s), (520, 2, 0), (525, 1, 7), (536, 4, 0)]
    ++ powerDesc 0 1950 0 0 0 ++ powerDesc 1 1100 0 1000 1000 ++ powerDesc 2 700 0 1000 1000
    ++ powerDesc 3 50 1 2000000 30000000 ++ powerDesc 4 35 1 2010000 30010000)

/-- Identify Namespace (R448, R452, R479). -/
def identifyNamespace (s : State) : List (BitVec 8) :=
  page 4096 [(0, 8, nsze s), (8, 8, nsze s), (16, 8, nsze s), (25, 1, 0), (26, 1, 0), (27, 1, 2), (28, 1, 1), (29, 1, 1),
    (104, 16, s.get NVQ_NGUID 0), (128, 4, 16 + 12 * 65536)]

/-- Zoned namespace (R454, R479, R612). -/
def identifyZoned (s : State) : List (BitVec 8) :=
  page 4096 [(0, 2, 1), (2, 2, 1), (4, 4, maxActive s - 1), (8, 4, maxOpen s - 1), (2816, 8, zsze s), (2824, 1, 0)]

/-- The structure that Identify returns for a CNS, a command set and a namespace, or the status (R479). -/
def identifyPage (cns csi nsid : Nat) (s : State) : Except NvStatus (List (BitVec 8)) :=
  let ns (l : List (BitVec 8)) : Except NvStatus (List (BitVec 8)) := if nsid = 1 ∧ namespaces s = 1 then .ok l else .error .invalidNamespace
  match cns with
  | 0x00 => ns (identifyNamespace s)
  | 0x01 => .ok (identifyController s)
  | 0x02 | 0x07 => .ok (page 4096 [(0, 4, if nsid = 0 then namespaces s else 0)])
  | 0x03 => ns (page 4096 [(0, 1, 2), (1, 1, 16), (4, 16, s.get NVQ_NGUID 0), (20, 1, 4), (21, 1, 1), (24, 1, 2)])
  | 0x05 => if csi = 0 then ns (page 4096 [(12, 4, 0x100)]) else if csi = 2 then ns (identifyZoned s) else .error .invalidField
  | 0x06 => if csi = 0 then .ok (page 4096 []) else if csi = 2 then .ok (page 4096 [(0, 1, 8)]) else .error .invalidField
  | 0x1C => .ok (page 4096 [(0, 8, 5)])
  | _ => .error .invalidField

/-- IDENTIFY (R479). -/
def identifyCmd (cns csi nsid : Nat) (c : NvCmd) (s : State) : State :=
  match identifyPage cns csi nsid s with
  | .ok l => completeWith [.hostData c.sqid c.cid l] c.sqid c.cid .success [] s
  | .error e => finish c e s

/-! ## Log pages (R480–R483, R621) -/

/-- Status code type and code of a status. -/
def NvStatus.code : NvStatus → Nat
  | .success => 0 | .invalidOpcode => 1 | .invalidField => 2 | .dataTransferError => 4 | .abortedSqDeletion => 8
  | .invalidNamespace => 0xB | .commandSequence => 0xC | .lbaOutOfRange => 0x80 | .namespaceNotReady => 0x82
  | .cqInvalid => 0x100 | .invalidQueueId => 0x101 | .invalidQueueSize => 0x102 | .abortLimit => 0x103 | .aerLimit => 0x105
  | .invalidFirmwareSlot => 0x106 | .invalidFirmwareImage => 0x107 | .invalidVector => 0x108 | .invalidLogPage => 0x109
  | .activationNeedsReset => 0x10B | .invalidQueueDeletion => 0x10C | .activationNeedsControllerReset => 0x111
  | .activationMaxTime => 0x112 | .invalidPi => 0x181 | .zoneBoundary => 0x1B8 | .zoneFull => 0x1B9 | .zoneOffline => 0x1BB
  | .zoneInvalidWrite => 0x1BC | .tooManyActive => 0x1BD | .tooManyOpen => 0x1BE | .invalidZoneTransition => 0x1BF
  | .unrecoveredRead => 0x281 | .guardCheck => 0x282 | .appTagCheck => 0x283 | .refTagCheck => 0x284

/-- Error Information, 64 entries. -/
def errorPage (s : State) : List (BitVec 8) :=
  (List.range 64).flatMap fun i => match s.errs[i]? with
    | some e => bytesOf 64 (e.count % 2 ^ 64 + e.sqid % 65536 * 2 ^ 64 + e.cid % 65536 * 2 ^ 80 + e.st.code * 2 ^ 97 + e.lba % 2 ^ 64 * 2 ^ 128)
    | none => bytesOf 64 0

/-- Spare bands of the member that `ACD_SPARE_FREE` names. -/
def spareTotal (s : State) : Nat :=
  let x := s.get ACD_SPARE_FREE_MEMBER 0
  (bandsFree x s).length + (bandsUsed x s).length

/-- Available Spare as a percentage, rounded down. -/
def percent (n : Nat) (s : State) : Nat := if spareTotal s = 0 then 0 else 100 * n / spareTotal s

/-- SMART / Health Information (R481). The counters that R481 does not name are those of NVMe 2.0, which the spec does not derive: free
bytes. -/
def smartPage (s : State) : List (BitVec 8) :=
  let a := percent (s.get ACD_SPARE_FREE_FREE 0) s
  bytesOf 6 (criticalWarning s + s.get NVQ_TEMP 0 * 256 + a * 2 ^ 24 + percent (s.get ACD_SPARE_LOW 0) s * 2 ^ 32 + (100 - a) * 2 ^ 40)
    ++ List.replicate 26 0 ++ freeBytes s.fresh 128 ++ bytesOf 16 (s.get NVQ_EXTENTS 0) ++ bytesOf 16 (s.get NVQ_ERRCNT 0)
    ++ List.replicate 320 0

/-- Firmware Slot Information: the slot that booted, the directory's slot where it differs, and the slots' versions (R573). -/
def firmwarePage (s : State) : List (BitVec 8) :=
  let next := s.get NVM_ACTIVE 0 + 1
  page 512 [(0, 1, s.get GLB_BOOT_SLOT 0 + if next = s.get GLB_BOOT_SLOT 0 then 0 else 16 * next),
    (8, 8, hexText (s.get NVM_VER 0)), (16, 8, hexText (s.get NVM_VER 1))]

/-- Commands Supported and Effects: supported, and for those that write, the change of logical block content. -/
def effectsPage : List (BitVec 8) :=
  page 4096 (([0x00, 0x01, 0x02, 0x04, 0x05, 0x06, 0x08, 0x09, 0x0A, 0x0C, 0x10, 0x11].map fun o => (4 * o, 4, 1))
    ++ [(1024, 4, 1), (1024 + 4 * 1, 4, 3), (1024 + 4 * 2, 4, 1), (1024 + 4 * 0x79, 4, 3), (1024 + 4 * 0x7A, 4, 1), (1024 + 4 * 0x7D, 4, 3)])

/-- Changed Zone List. -/
def changedPage (s : State) : List (BitVec 8) :=
  if 511 < s.changed.length then page 4096 [(0, 2, 0xFFFF)]
  else page 4096 ((0, 2, s.changed.length) :: ((List.range s.changed.length).zip s.changed).map fun e => (8 + 8 * e.1, 8, e.2 * zsze s))

/-- Unrecovered blocks (R482). -/
def unrecPage (s : State) : List (BitVec 8) :=
  let l := s.acd.unrec.mergeSort fun a b => decide (a.1 * zsze s + a.2.1 ≤ b.1 * zsze s + b.2.1)
  bytesOf 8 l.length ++ bytesOf 8 (l.map fun e => e.2.2.1).sum ++ bytesOf 8 (s.get NVQ_UNRCHG 0) ++ List.replicate 40 0
    ++ l.flatMap fun e => bytesOf 8 (e.1 * zsze s + e.2.1) ++ bytesOf 4 e.2.2.1 ++ bytesOf 4 (e.2.2.2 % 512)

/-- Lanes out of service. -/
def oosMask (s : State) : Nat := ((List.range 48).map fun l => s.get LAN_CTL_OOS l * 2 ^ l).sum

/-- Drive health (R483). -/
def healthPage (s : State) : List (BitVec 8) :=
  let w r := s.regWord r 0 0
  page 512 [(0x00, 4, s.get ACD_LOST 0), (0x04, 4, s.get ACD_LOST 1), (0x08, 8, s.get ACD_DEGR 0),
    (0x10, 8, s.get ACD_DEGR 1), (0x18, 8, oosMask s),
    (0x20, 8, w reg_ACD_RBLD_CUR + s.regWord reg_ACD_RBLD_CUR 0 1 * 2 ^ 32), (0x28, 4, w reg_ACD_RBLD_LEFT), (0x2C, 4, w reg_ACD_RBLD_SKIP),
    (0x30, 4, w reg_ACD_SPARE_FREE), (0x34, 4, w reg_ACD_RESYNC), (0x38, 4, w reg_ACD_UNREC_CNT), (0x3C, 4, w reg_ACD_UNREC_BLK),
    (0x40, 4, w reg_ANG_SRC), (0x44, 4, w reg_SPN_STATE), (0x48, 4, w reg_SRV_RET_STS), (0x4C, 4, w reg_SPN_SPEED),
    (0x50, 4, w reg_ACD_CNT_RECON), (0x54, 4, w reg_ACD_CNT_RELOC), (0x58, 4, w reg_FMT_CNT_UNREC), (0x5C, 4, w reg_FMT_CNT_GROWN)]

/-- The base-note record, by ring index. -/
def recordPage (s : State) : List (BitVec 8) := (List.range 4096).flatMap fun i => bytesOf 32 (s.ringBits i)

/-- Fault collector snapshot. -/
def faultPage (s : State) : List (BitVec 8) :=
  ((List.range 16).flatMap fun i => bytesOf 4 (s.get FLT_STS i)) ++ ((List.range 16).flatMap fun i => bytesOf 4 (s.get FLT_LIVE i))
    ++ bytesOf 4 (s.regWord reg_FLT_FIRST 0 0) ++ bytesOf 4 (s.get FLT_FIRST_LO 0) ++ bytesOf 4 (s.get FLT_FIRST_HI 0)
    ++ bytesOf 4 (s.get FLT_FIRST_TIME 0)

/-- The harvest ring (R621): 64-byte records. -/
def harvestPage (s : State) : List (BitVec 8) :=
  s.harvest.flatMap fun r => bytesOf 8 (r.1 % 2 ^ 24) ++ bytesOf 8 r.2.1 ++ List.replicate 16 0 ++ bytesOf 32 r.2.2.toNat

/-- The `MGR_NODEs` table (R621). -/
def nodePage (s : State) : List (BitVec 8) :=
  (List.range 64).flatMap fun i => (List.range 4).flatMap fun w => bytesOf 4 (s.regWord reg_MGR_NODE i w)

/-- A log page, where it is supported (R480, R587, R621). -/
def logPage (lid : Nat) (s : State) : Option (List (BitVec 8)) :=
  if s.on GLB_BOOT_RECOVERY 0 && !([0x01, 0x03, 0xC2, 0xC3].contains lid) then none
  else
    match lid with
    | 0x01 => some (errorPage s)
    | 0x02 => some (smartPage s)
    | 0x03 => some (firmwarePage s)
    | 0x05 => some effectsPage
    | 0xBF => some (changedPage s)
    | 0xC0 => some (unrecPage s)
    | 0xC1 => some (healthPage s)
    | 0xC2 => some (recordPage s)
    | 0xC3 => some (faultPage s)
    | 0xC4 => if driveRole s then none else some (harvestPage s)
    | 0xC5 => if driveRole s then none else some (nodePage s)
    | _ => none

/-- The type of asynchronous event whose log a page is (R484). -/
def logEvent (lid : Nat) : Nat :=
  match lid with | 0x01 => 0 | 0x02 => 1 | 0x03 => 2 | 0xBF => 2 | 0xC3 => 7 | _ => 8

/-- A log that has been read with RAE clear may be reported again. -/
def clearEvent (lid : Nat) (s : State) : State :=
  let t := { s with evMask := s.evMask.filter (· ≠ logEvent lid), changed := if lid = 0xBF then [] else s.changed }
  deliverEvents t.events [] t

/-- GET_LOG_PAGE (R480); bytes beyond the page read zero. -/
def getLog (lid : Nat) (rae : Bool) (off len : Nat) (c : NvCmd) (s : State) : State :=
  match logPage lid s with
  | none => finish c .invalidLogPage s
  | some l =>
    if off % 4 ≠ 0 then finish c .invalidField s
    else
      let d := (l.drop off).take len
      let t := completeWith [.hostData c.sqid c.cid (d ++ List.replicate (len - d.length) 0)] c.sqid c.cid .success [] s
      let t := if lid = 0x02 then { t with fresh := t.fresh + 128 } else t
      if rae then t else clearEvent lid t

end Sys2Proof.Machine
end

