-- ==== Sys2Proof/Machine/Pcie.lean ====
section
/-!
DEFINITION. The PCIe endpoint (spec/10) but for its memory windows: configuration space, tags, Bus Master Enable, resets, containment,
link states and errors. Offsets and bits that the spec leaves to PCI Express are those of its Base Specification (log entry 32).
-/

namespace Sys2Proof.Machine

/-! ## Configuration space (R491–R495) -/

/-- The least power of two that is not below `n`. -/
def pow2Above (n : Nat) : Nat := Nat.repeat (fun p => if p < n then 2 * p else p) 20 1

/-- Size of BAR2 in bytes (R495); 0 where it is not implemented. -/
def bar2Size (s : State) : Nat :=
  if s.is NVQ_CMB_SIZE 0 0 || s.on GLB_BOOT_RECOVERY 0 then 0 else 2 ^ 20 * pow2Above (s.get NVQ_CMB_SIZE 0)

/-- Size of the BAR whose lower half is `b`. -/
def barSize (b : Nat) (s : State) : Nat := match b with | 0 => 2 ^ 16 | 2 => bar2Size s | _ => 2 ^ 20

/-- A BAR register as it reads: address bits above the size, and the type in the lower half. -/
def barWord (i : Nat) (s : State) : Nat :=
  let size := barSize (i / 2 * 2) s
  if size = 0 then 0
  else
    let a := s.get CFG_BAR (i / 2 * 2) + s.get CFG_BAR (i / 2 * 2 + 1) * 2 ^ 32
    let a := a / size * size
    if i % 2 = 0 then a % 2 ^ 32 + (if i = 2 then 12 else 4) else a / 2 ^ 32

/-- Header of an extended capability. -/
def capHead (id ver next : Nat) : Nat := id + ver * 2 ^ 16 + next * 2 ^ 20

/-- A doubleword of configuration space. -/
def cfgWord (off : Nat) (s : State) : Nat :=
  match off / 4 * 4 with
  | 0x00 => 0x48121F3B
  | 0x04 => s.get CFG_CMD 0 + (s.get CFG_STATUS 0 ||| 0x10 ||| (s.get CFG_INTA 0 * 8)) * 2 ^ 16
  | 0x08 => 0x010802B1
  | 0x0C => s.get CFG_CLS 0
  | 0x10 => barWord 0 s
  | 0x14 => barWord 1 s
  | 0x18 => barWord 2 s
  | 0x1C => barWord 3 s
  | 0x20 => barWord 4 s
  | 0x24 => barWord 5 s
  | 0x2C => s.get PCI_IDS_SSVID 0 + s.get PCI_IDS_SSID 0 * 2 ^ 16
  | 0x34 => 0x40
  | 0x3C => s.get CFG_INTLINE 0 + s.get PCI_CFG_INTX_EN 0 * 2 ^ 8
  | 0x40 => 0xC0035001
  | 0x44 => s.get CFG_PMSTATE 0 + 8 + s.get CFG_PMEEN 0 * 2 ^ 8 + s.get CFG_PMESTS 0 * 2 ^ 15
  | 0x50 => 0x7011 + 259 * 2 ^ 16 + s.get CFG_FMASK 0 * 2 ^ 30 + s.get CFG_MSIXEN 0 * 2 ^ 31
  | 0x54 => 0x2000
  | 0x58 => 0x3800
  | 0x70 => 0x00020010
  | 0x74 => 2 + 2 ^ 5 + 3 * 2 ^ 9 + 2 ^ 15 + 2 ^ 28
  | 0x78 => s.get CFG_DEVCTL 0 + (s.get CFG_DEVSTS 0 + 16 + (if s.tags.isEmpty then 0 else 32)) * 2 ^ 16
  | 0x7C => 5 + 8 * 2 ^ 4 + 2 * 2 ^ 10 + 3 * 2 ^ 15 + 2 ^ 18 + 2 ^ 22
  | 0x80 => s.get CFG_LNKCTL 0 + (s.get PCI_STS_SPEED 0 + s.get PCI_STS_WIDTH 0 * 2 ^ 4 + 2 ^ 12) * 2 ^ 16
  | 0x94 => 15 + 2 ^ 4 + 2 ^ 11 + 2 ^ 16 + 2 ^ 17
  | 0x98 => s.get CFG_DEVCTL2 0
  | 0x9C => 0x3E
  | 0xA0 => s.get CFG_LNKCTL2 0
  | 0x100 => capHead 1 2 0x148
  | 0x104 => s.get CFG_UES 0
  | 0x108 => s.get CFG_UEM 0
  | 0x10C => s.get CFG_UESEV 0
  | 0x110 => s.get CFG_CES 0
  | 0x114 => s.get CFG_CEM 0
  | 0x118 => s.get CFG_FEP 0 + 0xA0 + s.get CFG_AERCTL 0
  | 0x11C => s.get CFG_HLOG 0
  | 0x120 => s.get CFG_HLOG 1
  | 0x124 => s.get CFG_HLOG 2
  | 0x128 => s.get CFG_HLOG 3
  | 0x148 => capHead 3 1 0x158
  | 0x14C => s.get GLB_EUI 0 % 2 ^ 32
  | 0x150 => s.get GLB_EUI 0 / 2 ^ 32
  | 0x158 => capHead 0x19 1 0x178
  | 0x178 => capHead 0x25 1 0x188
  | 0x17C => 1
  | 0x188 => capHead 0x26 1 0x1B0
  | 0x1B0 => capHead 0x2A 1 0x1D8
  | 0x1D8 => capHead 0x27 1 0x200
  | 0x200 => capHead 0x18 1 0x210
  | 0x204 => s.get CFG_LTR 0
  | 0x210 => capHead 0x1E 1 0
  | 0x214 => 31 + 30 * 2 ^ 8 + 2 ^ 16 + 10 * 2 ^ 19
  | 0x218 => s.get CFG_L1SS1 0
  | 0x21C => s.get CFG_L1SS2 0
  | _ => 0

/-! ## Link states (R527) -/

/-- The link leaves L1 and its substates: CLKREQ_N is asserted. -/
def linkAwake (s : State) : State :=
  if 1 ≤ s.get PCI_STS_LSTATE 0 ∧ s.get PCI_STS_LSTATE 0 ≤ 3 then s.setMany 0 [(PCI_STS_LSTATE, 0), (PAD_CLKREQ, 0)] else s

/-- An output that needs the link. -/
def Out.onLink : Out → Bool
  | .completion .. | .event .. | .hostData .. | .hostBlocks .. | .msix _ | .intx _ | .errMsg _ | .pmPme | .pmeToAck | .ltr _ | .memRead _
  | .cplOut .. => true
  | _ => false

/-- The link wakes for what a command has sent between `s` and `t`. -/
def wakeLink (s t : State) : State := if (t.out.drop s.out.length).any Out.onLink then linkAwake t else t

/-- What follows on the host side from a command that has taken the block from `s` to `t`. -/
def hostEnd (s t : State) : State := wakeLink s (nvqSettle s t)

/-! ## Completion timeout (R504–R507) -/

/-- The timeout of a Completion Timeout Value, in 10 µs (R504). -/
def ctoValue (v : Nat) : Nat :=
  match v with
  | 1 => 9
  | 2 => 900
  | 5 => 5000
  | 6 => 20000
  | 9 => 85000
  | 10 => 320000
  | 13 => 1200000
  | 14 => 6000000
  | _ => 4000

/-- Show the completion timeout in use. -/
def showCto (s : State) : State :=
  let v := s.get CFG_DEVCTL2 0
  s.setMany 0 [(PCI_CTO_RANGE, v % 16), (PCI_CTO_DIS, bits v 4 1), (PCI_CTO_VALUE, ctoValue (v % 16))]

/-- Nothing more is fetched until the controller is reset, and CFS is set (R506). -/
def fetchFails (s : State) : State := s.setMany 0 [(NVQ_CFS, 1), (NVQ_FETCHOFF, 1)]

/-- Tell the consumer of a request that its data do not come (R506). -/
def tellConsumer (u : TagUse) (s : State) : State :=
  match u with
  | .sqFetch => fetchFails s
  | .cmdFetch q cid order => match cmdOf q cid s with
    | some c => if c.order = order ∧ (c.phase = .waitData ∨ c.phase = .data) then failCmd c .dataTransferError s else s
    | none => s

/-- An unexpected completion (R507). -/
def unexpected (s : State) : State := pulse 265 0xFF (aerUncorrectable 16 true (s.bump PCI_CNT_UC_UC 0))

/-- Poisoned TLP Received. -/
def poisonedTlp (s : State) : State := pulse 270 0xFF (aerUncorrectable 12 false s)

/-- A command loses data to a freeze (R516). -/
def loseToFreeze (u : TagUse) (s : State) : State :=
  match u with
  | .sqFetch => s
  | .cmdFetch q cid order =>
    { s with cmds := s.cmds.map fun c =>
        if c.sqid = q ∧ c.cid = cid.toNat ∧ c.order = order ∧ (c.phase = .waitData ∨ c.phase = .data) then { c with phase := .dropped, lost := true }
        else c }

/-- The data of a request are used; a command's data have arrived with those of its last request. -/
def useData (u : TagUse) (s : State) : State :=
  match u with
  | .sqFetch => s.set NVQ_FETCHED 0 1
  | .cmdFetch q cid order => match cmdOf q cid s with
    | some c => if c.order = order ∧ c.phase = .data ∧ s.tags.all (fun e => e.2 != u) then dataArrived c s else s
    | none => s

/-- COMPLETION_RECEIVED (R503, R506, R507, R513, R516). -/
def completionReceived (tag : Nat) (st : CplStatus) (last : Bool) (s : State) : State :=
  match s.quar.find? fun q => q.1 == tag with
  | some q => if q.2 then s.bump PCI_CNT_UC_SILENT 0 else unexpected s
  | none => match s.tags.find tag with
    | none => unexpected s
    | some u =>
      match st with
      | .ok =>
        if !last then s
        else if s.on PCI_FRZ_FROZEN 0 then loseToFreeze u (dropTag tag s)
        else useData u (dropTag tag s)
      | .poisoned => tellConsumer u (poisonedTlp (dropTag tag s))
      | _ => tellConsumer u (dropTag tag s)

/-- COMPLETION_TIMEOUT (R505–R507). -/
def completionTimeout (tag : Nat) (s : State) : State :=
  match s.tags.find tag with
  | none => s
  | some u =>
    if s.on PCI_CTO_DIS 0 then s
    else
      let t := (aerUncorrectable 14 true s).bump PCI_CNT_CTO 0
      let t := pulse 264 0xFF (showTags { t with tags := t.tags.del tag, quar := t.quar ++ [(tag, false)] })
      tellConsumer u t

/-- QUARANTINE_END (R507, R513). -/
def quarantineEnd (tag : Nat) (s : State) : State := showTags { s with quar := s.quar.filter fun q => q.1 != tag }

/-! ## Bus Master Enable (R511, R512) -/

/-- BUS_MASTER_DISABLE. -/
def busMasterDisable (s : State) : State :=
  if s.on PCI_STS_BME 0 then
    (s.setBit CFG_CMD 0 2 false).setMany 0 [(PCI_STS_BME, 0), (CFG_BMEOFF, 1), (CFG_BMETIME, s.aonNs)]
  else s

/-- What was held for the bit may be issued. -/
def resumeIssue (s : State) : State := updateInta (sendPending (drainCpls s))

/-- The held fetches fail, in the order of the commands (R512). -/
def failHeld (s : State) : State :=
  let held := fetchOn s && !s.on NVQ_FETCHED 0 && !sqFetchOut s && (nextQueue s).isSome
  let t := forAll (s.cmds.filter fun c => c.phase == .waitData) (fun c u => match cmdOf c.sqid (BitVec.ofNat 16 c.cid) u with
    | some x => failCmd x .dataTransferError u
    | none => u) s
  if held then fetchFails t else t

/-- BUS_MASTER_ENABLE: `inTime` while it was clear for no longer than the limit. -/
def busMasterEnable (inTime : Bool) (s : State) : State :=
  if s.on PCI_STS_BME 0 then s
  else
    let late := s.on CFG_BMEOFF 0 && !inTime
    let t := (s.setBit CFG_CMD 0 2 true).setMany 0 [(PCI_STS_BME, 1), (CFG_BMEOFF, 0)]
    resumeIssue (if late then failHeld t else t)

/-! ## Resets of the function (R513, R514, R518, R519, R532) -/

/-- The non-sticky configuration fields and the fields of PCI that follow them. -/
def resetCfg (s : State) : State :=
  showCto ({ s with regs := s.regs.drop fun x => fieldBlk x == 92 && x % 2 == 0 }.setMany 0 [(PCI_STS_BME, 0), (PCI_STS_DSTATE, 0)])

/-- Free every tag. -/
def freeTags (s : State) : State := showTags { s with tags := [], quar := [] }

/-- FUNCTION_LEVEL_RESET (R513, R517). -/
def functionLevelReset (s : State) : State :=
  resetCfg (nvqReset (endFreeze { s with cpls := [] }))

/-- The link falls: tags freed, the controller reset, the freeze ended, non-sticky configuration at reset. -/
def linkFalls (s : State) : State :=
  let t := resetCfg (nvqReset (endFreeze (freeTags { s with cpls := [] })))
  t.setMany 0 [(PCI_STS_DL_UP, 0), (PCI_STS_SPEED, 0), (PCI_STS_WIDTH, 0), (PCI_STS_LANE_REV, 0), (PCI_STS_LSTATE, 6), (PAD_CLKREQ, 0)]

/-- LINK_DOWN (R518). -/
def linkDown (s : State) : State := raise 268 0xFF ((linkFalls s).bump PCI_CNT_LINK_DOWN 0)

/-- A field of PCI that PERST_N returns to its reset value (R532): not a sticky one, and not a locked one. -/
def perstField (x : Nat) : Bool :=
  fieldBlk x == 10 && x % 2 == 0 && !(let off := x / 512 % 65536
    off == 0 || off == 0x10 || (0x40 ≤ off && off < 0x240))

/-- PERST_ASSERT (R514, R519, R525, R532): PME_En and PME_Status outlive it. -/
def perstAssert (s : State) : State :=
  let en := s.get CFG_PMEEN 0
  let sts := s.get CFG_PMESTS 0
  let t := linkFalls s
  let t := { t with regs := (t.regs.drop fun x => fieldBlk x == 92).drop perstField }
  showTags (showCto (t.setMany 0 [(CFG_PMEEN, en), (CFG_PMESTS, sts), (PAD_PERST, 1), (PCI_STS_LSTATE, 6)]))

/-- PERST_DEASSERT (R519, R525). -/
def perstDeassert (s : State) : State :=
  if s.on PAD_PERST 0 then s.setMany 0 [(PAD_PERST, 0), (PAD_WAKE, 0)] else s

/-- DATA_LINK_UP (R490, R518). -/
def dataLinkUp (speed width : Nat) (rev : Bool) (s : State) : State :=
  if s.on PAD_PERST 0 then s
  else lower 268 0xFF (s.setMany 0 [(PCI_STS_DL_UP, 1), (PCI_STS_SPEED, Nat.min speed (s.get PCI_CFG_MAXSPD 0)),
    (PCI_STS_WIDTH, Nat.min width (s.get PCI_CFG_MAXW 0)), (PCI_STS_LANE_REV, rev.toNat), (PCI_STS_LSTATE, 0)])

/-! ## Power states of the function (R523, R526–R528) -/

/-- D3HOT_ENTRY. -/
def d3hotEntry (s : State) : State :=
  if s.is PCI_STS_DSTATE 0 3 then s else sendLtr (s.setMany 0 [(PCI_STS_DSTATE, 3), (CFG_PMSTATE, 3)])

/-- D0_ENTRY. -/
def d0Entry (s : State) : State :=
  if s.is PCI_STS_DSTATE 0 0 then s else resumeIssue (sendLtr (s.setMany 0 [(PCI_STS_DSTATE, 0), (CFG_PMSTATE, 0)]))

/-- PME_TURN_OFF (R526). -/
def pmeTurnOff (s : State) : State :=
  if s.on PCI_STS_DL_UP 0 then (s.emit .pmeToAck).setMany 0 [(PCI_STS_LSTATE, 5), (PCI_STS_DL_UP, 0)] else s

/-- L1_ENTRY (R527). -/
def l1Entry (s : State) : State :=
  let d3 := s.is PCI_STS_DSTATE 0 3
  if !s.on PCI_STS_DL_UP 0 || !s.is PCI_STS_LSTATE 0 0 || !s.tags.isEmpty || !(s.bit CFG_LNKCTL 0 1 || d3) then s
  else
    let l12 := s.bit CFG_L1SS1 0 2 || (d3 && s.bit CFG_L1SS1 0 0)
    let l11 := s.bit CFG_L1SS1 0 3 || (d3 && s.bit CFG_L1SS1 0 1)
    s.setMany 0 [(PCI_STS_LSTATE, if l12 && (s.is NVQ_STS_PS 0 4 || d3) then 3 else if l11 then 2 else 1), (PAD_CLKREQ, (l12 || l11).toNat)]

/-! ## Containment (R515–R517) -/

/-- EGRESS_FREEZE by firmware. -/
def egressFreeze (s : State) : State := withFollow (freezeEgress false s)

/-- FREEZE_RELEASE: a freeze by firmware only. -/
def freezeRelease (s : State) : State :=
  if s.on PCI_FRZ_FROZEN 0 && !s.on PCI_FRZ_BY_FAULT 0 then resumeIssue (endFreeze s) else s

/-! ## Interrupts (R529) -/

/-- MSIX_UNMASK. -/
def msixUnmask (v : Nat) (s : State) : State := sendPending (s.set MSIX_MASK v 0)

/-! ## Errors (R510, R520) -/

/-- Unsupported Request. -/
def unsupported (s : State) : State := aerUncorrectable 20 false s

/-- LINK_ERROR. -/
def linkError (e : LinkErr) (s : State) : State :=
  match e with
  | .receiver => aerCorrectable 0 s
  | .badTlp => aerCorrectable 6 s
  | .badDllp => aerCorrectable 7 s
  | .replayTimeout => aerCorrectable 12 s
  | .replayRollover => aerCorrectable 8 (s.bump PCI_CNT_LINK_RECOV 0)
  | .dlProtocol => pulse 269 0xFF (aerUncorrectable 4 false s)
  | .fcProtocol => pulse 269 0xFF (aerUncorrectable 13 false s)
  | .rxOverflow => pulse 269 0xFF (aerUncorrectable 17 false s)

/-- MESSAGE_RECEIVED (R510). -/
def messageReceived (m : Msg) (s : State) : State := match m with | .vendorType1 => s | .other => unsupported s

/-! ## Configuration requests (R491–R494, R519) -/

/-- Clear the bits that a W1C write names. -/
def clearBits (f : Field) (v : Nat) (s : State) : State := s.set f 0 (s.get f 0 - (s.get f 0 &&& v))

/-- A write of Command and Status. -/
def writeCommand (v : Nat) (s : State) : State :=
  let t := clearBits CFG_STATUS (v / 65536 &&& 0xF900) s
  let bme := v.testBit 2
  let t := t.set CFG_CMD 0 ((v &&& 0x0542) + (s.get CFG_CMD 0 &&& 4))
  let t := if bme && !s.on PCI_STS_BME 0 then
      busMasterEnable (decide (s.aonNs - s.get CFG_BMETIME 0 ≤ 10000 * s.get PCI_CTO_VALUE 0)) t
    else if !bme then busMasterDisable t else t
  updateInta t

/-- A write of a doubleword of configuration space. -/
def cfgWrite (off v : Nat) (s : State) : State :=
  match off / 4 * 4 with
  | 0x04 => writeCommand v s
  | 0x0C => s.set CFG_CLS 0 v
  | 0x10 => s.set CFG_BAR 0 (v / 65536 * 65536)
  | 0x14 => s.set CFG_BAR 1 v
  | 0x18 => s.set CFG_BAR 2 (v / 1048576 * 1048576)
  | 0x1C => s.set CFG_BAR 3 v
  | 0x20 => s.set CFG_BAR 4 (v / 1048576 * 1048576)
  | 0x24 => s.set CFG_BAR 5 v
  | 0x3C => s.set CFG_INTLINE 0 v
  | 0x44 =>
    let t := s.set CFG_PMEEN 0 (bits v 8 1)
    let t := if v.testBit 15 then t.set CFG_PMESTS 0 0 else t
    if v % 4 = 3 then d3hotEntry t else if v % 4 = 0 then d0Entry t else t
  | 0x50 => updateInta (sendPending (s.setMany 0 [(CFG_MSIXEN, bits v 31 1), (CFG_FMASK, bits v 30 1)]))
  | 0x78 =>
    let t := clearBits CFG_DEVSTS (bits v 16 4) (s.set CFG_DEVCTL 0 (v % 32768))
    if v.testBit 15 then functionLevelReset t else t
  | 0x80 => s.set CFG_LNKCTL 0 v
  | 0x98 => showCto (s.set CFG_DEVCTL2 0 v)
  | 0xA0 => s.set CFG_LNKCTL2 0 v
  | 0x104 => clearBits CFG_UES v s
  | 0x108 => s.set CFG_UEM 0 v
  | 0x10C => s.set CFG_UESEV 0 v
  | 0x110 => clearBits CFG_CES v s
  | 0x114 => s.set CFG_CEM 0 v
  | 0x118 => s.set CFG_AERCTL 0 (v &&& 0x140)
  | 0x204 => s.set CFG_LTR 0 v
  | 0x218 => s.set CFG_L1SS1 0 v
  | 0x21C => s.set CFG_L1SS2 0 v
  | _ => s

/-- The endpoint accepts configuration requests: PERST_N is deasserted, and the configuration is complete or the controller is in
recovery boot. -/
def cfgReady (s : State) : Bool := !s.on PAD_PERST 0 && (s.on GLB_BOOT_CFGDONE 0 || s.on GLB_BOOT_RECOVERY 0)

/-- CONFIG_REQUEST. -/
def configRequest (r : CfgReq) (s : State) : State :=
  let s := linkAwake s
  if !cfgReady s then s.emit (.cplOut 2 [])
  else match r with
    | .read off => s.emit (.cplOut 0 (bytesOf 4 (cfgWord off s)))
    | .write off v => (cfgWrite off v.toNat s).emit (.cplOut 0 [])
    | .type1 => (unsupported s).emit (.cplOut 1 [])

end Sys2Proof.Machine
end

