-- ==== Sys2Proof/Machine/Collector.lean ====
section
/-!
DEFINITION. The commands of the fault collector and of the base-note record (spec/11, R645): rail monitors, maceration, recovery
windows, injection, firmware entries, dumps.
-/

namespace Sys2Proof.Machine

/-! ## Rail monitors (R645) -/

/-- A rail's bit in `PAD_RAIL`. -/
def railBit : Rail → Nat
  | .vddCore => 0 | .vddSram => 1 | .vddAfe => 2 | .vdda1v2 => 3 | .vddIo => 4 | .vddMio => 5 | .vddPe => 6 | .vddaPe => 7
  | .lpddr => 8 | .vddAonLow => 9

/-- The source of a rail (R537). -/
def railSource : Rail → Nat
  | .vddCore | .vddSram => 2
  | .vddAfe | .vdda1v2 | .vddIo | .vddMio | .vddPe | .vddaPe => 3
  | .lpddr => 4
  | .vddAonLow => 5

/-- The rails of a source, as bits. -/
def railMask (n : Nat) : Nat := match n with | 2 => 0x003 | 3 => 0x0FC | 4 => 0x100 | _ => 0x200

/-- The monitors that are masked while LASTGASP is set: VDD_AFE, VDD_PE, VDDA_PE and LPDDR5X. -/
def railMasked (s : State) : Nat := if s.on SPN_STATE_LASTGASP 0 then 0x1C4 else 0

/-- RAIL_MONITOR_TRIP. -/
def railTrip (r : Rail) (s : State) : State :=
  let t := s.setBit PAD_RAIL 0 (railBit r) true
  if (railMasked s).testBit (railBit r) then t else raise (railSource r) 0xFF t

/-- RAIL_MONITOR_CLEAR: the source deasserts when every rail of it is back. -/
def railClear (r : Rail) (s : State) : State :=
  let t := s.setBit PAD_RAIL 0 (railBit r) false
  if t.get PAD_RAIL 0 &&& railMask (railSource r) = 0 then lower (railSource r) 0xFF t else t

/-- DIE_TEMPERATURE_TRIP (R654, R481): the sensor's reading, with the levels of sources 0 and 1. -/
def dieTemperature (celsius : Int) (s : State) : State :=
  let t := s.set NVQ_TEMP 0 (celsius + 273).toNat
  level 0 0xFF (decide (115 ≤ celsius)) (level 1 0xFF (decide (100 ≤ celsius)) t)

/-! ## Maceration and lock-out (R544, R548, R549) -/

/-- No source of severity 3 is in its fault state. -/
def noSafeCause (s : State) : Bool := !(List.range 512).any fun n => s.on FLT_CNT_FSTATE n && s.is FLT_CURSEV n 3

/-- The safe state is left (R544). -/
def leaveSafe (n : Nat) (s : State) : State :=
  if s.on FLT_SAFE_ACTIVE 0 && noSafeCause s then safeExit ((s.set FLT_SAFE_ACTIVE 0 0).enterSource 5 n 0xFF) else s

/-- A source leaves its fault state. -/
def exitFault (n : Nat) (s : State) : State :=
  let open? := s.is FLT_CNT_RCNT n 0
  let t := s.setMany n [(FLT_CNT_FSTATE, 0), (FLT_TIMER, 0), (FLT_CNT_RCNT, Nat.min 255 (s.get FLT_CNT_RCNT n + 1)),
    (FLT_WINOPEN, if open? then 1 else s.get FLT_WINOPEN n)]
  let t := t.enter 2 n (s.get FLT_CURSEV n) 0xFF (t.get FLT_CNT_RCNT n) (s.get FLT_EDGES n) 0
  updateFaultN (leaveSafe n t)

/-- A source locks in its fault state, and source 288 fires. -/
def lockSource (n : Nat) (s : State) : State :=
  let t := (s.setMany n [(FLT_CNT_LOCKOUT, 1), (FLT_TIMER, 0)]).set FLT_LOCKSRC 0 n
  let t := if s.is FLT_CURSEV n 3 then t.set FLT_SAFE_LOCKED 0 1 else t
  pulse 288 (n % 256) (t.enterSource 3 n 0xFF)

/-- MACERATION_EXPIRY. -/
def macerationExpiry (n : Nat) (s : State) : State :=
  if !s.on FLT_CNT_FSTATE n || !s.on FLT_TIMER n || s.on FLT_CNT_LOCKOUT n then s
  else
    let lim := s.get FLT_SEV_LIMIT n
    if lim ≠ 255 ∧ lim < s.get FLT_CNT_RCNT n + 1 then lockSource n s else exitFault n s

/-- RECOVERY_WINDOW_CLOSE. -/
def recoveryWindowClose (n : Nat) (s : State) : State :=
  if s.on FLT_WINOPEN n then s.setMany n [(FLT_WINOPEN, 0), (FLT_CNT_RCNT, 0)] else s

/-! ## Injection and first capture (R538, R546) -/

/-- FAULT_INJECT: a write of `FLT_INJECT`. -/
def faultInject (v : Nat) (s : State) : State :=
  let src := bits v 0 9
  let inst := bits v 16 8
  let a := v.testBit 24
  if s.on FLT_INJECT_ASSERT 0 then
    if src ≠ s.get FLT_INJECT_SRC 0 ∨ inst ≠ s.get FLT_INJECT_INST 0 ∨ a then s
    else
      let t := s.setMany 0 [(FLT_INJECT_ASSERT, 0), (FLT_INJREAL, 0)]
      let t := if s.on FLT_INJREAL 0 then t else lower src inst t
      if src < 448 then lower 289 0xFF t else t
  else
    let t := s.setMany 0 [(FLT_INJECT_SRC, src), (FLT_INJECT_INST, inst), (FLT_INJECT_ASSERT, a.toNat), (FLT_INJREAL, 0)]
    if !a then t
    else
      let t := raise src inst t
      if src < 448 then raise 289 0xFF t else t

/-- FIRST_CAPTURE_REARM. -/
def firstCaptureRearm (s : State) : State := s.set FLT_FIRST_VALID 0 0

/-! ## The record (R551, R555–R558, R583, R667) -/

/-- BNR_FIRMWARE_ENTRY: a write of `BNR_FWCTL`. An entry of code 0x101 reports what firmware has learned: its CALDONE bit shows in
`GLB_WIRING`. -/
def firmwareEntry (v : Nat) (s : State) : State :=
  let code := bits v 0 9
  let t := s.set BNR_FWCTL_CODE 0 code
  if !v.testBit 31 then t
  else
    let t := t.enter 6 code 0 0xFF 0 (s.get BNR_FW 0) (s.get BNR_FW 1)
    if code = 0x101 then t.set GLB_WIRING_CALDONE 0 (bits (s.get BNR_FW 0) 31 1) else t

/-- BNR_DAT7_READ. -/
def bnrDat7Read (s : State) : State :=
  let t := s.ret (bits (s.ringBits (s.get BNR_RDIDX_INDEX 0)) 224 32)
  if s.on BNR_RDIDX_AUTOINC 0 then t.bump BNR_RDIDX_INDEX 0 else t

/-- BNR_DUMP: a firmware request. -/
def bnrDump (s : State) : State := withFollow (dumpTrigger 7 s)

/-- A power loss has been declared and regeneration has ended (R353, R558). -/
def regenOver (s : State) : Bool := s.on SPN_STATE_LASTGASP 0 && !s.is SPN_BRIDGE 0 5

/-- A queued dump starts with the entries made since the first dump started, or is dropped (R558). -/
def startQueued (d : Dump) (s : State) : State :=
  if regenOver s then s
  else withFollow (startDump d.cause ((s.get BNR_STS_SEQ 0 + 65536 - (s.get BNR_DUMPSEQ 0 + 1)) % 65536) s)

/-- DUMP_COMPLETE (R557): the status word of the header is programmed. -/
def dumpComplete (s : State) : State :=
  match s.dumps with
  | [] => s
  | d :: rest =>
    let carry := s.on BNR_CARRY 0
    let t := { s with dumps := [], tables := { s.tables with boxes := s.tables.boxes.map fun (b : Nat × BlackBox) =>
      if b.1 = d.slot then (b.1, { b.2 with complete := true }) else b } }.setMany 0 [(BNR_STS_DUMPING, 0), (BNR_CARRY, 0)]
    let t := if carry then t
      else t.setMany 0 [(BNR_NOR_LAST_SLOT, d.slot), (BNR_NOR_LAST_COMPLETE, 1), (BNR_NOR_LAST_ENTRIES, d.count)]
    let t := t.marker 5
    match rest with
    | q :: _ => startQueued q t
    | [] => t

end Sys2Proof.Machine
end

