-- ==== Sys2Proof/Machine/Startup.lean ====
section
/-!
DEFINITION. Resets and start-up (spec/12, R634, R644, R645, R665): what each reset leaves, the straps, the boot engine, recovery boot and
the configuration-complete event.
-/

namespace Sys2Proof.Machine

/-! ## Reset levels (R565, R644, R645) -/

/-- VDD_AON lies below 0.60 V: the whole controller is held in reset. -/
def aonDown (s : State) : Bool := s.on PAD_AONLOW 0

/-- Every domain but the always-on one is held in reset. -/
def inReset (s : State) : Bool := s.on PAD_RSTN 0 || s.on PAD_PWRBAD 0 || s.on PAD_AONLOW 0

/-- The blocks of the always-on domain: the angle, the collector, the record, the pads and what NOR holds. -/
def aonBlk (b : Nat) : Bool := b == 1 || b == 12 || b == 13 || b == 91 || b == 93

/-- The reset of every domain but the always-on one (R19, R401, R411, R416, R665): sticky fields, the loop engine's banks, the error
log and, with KEEP, the DRAM stay. -/
def resetDomains (s : State) : State :=
  let keep := s.on BUF_CTL_KEEP 0
  let s := if keep then barrier s else s
  let gone := fun x => x % 2 == 0 && !aonBlk (fieldBlk x)
  let t := { State.blank with
    regs := s.regs.drop gone, shadow := s.shadow.drop gone
    mem := s.mem.clear fun a => !keep || a < dramBase
    chkx := if keep then s.chkx else [], prefill := if keep then s.prefill else [], fillQ := if keep then s.fillQ else []
    cs := s.cs, csBad := s.csBad.filter fun a => decide (a < 131072), images := s.images, elog := s.elog
    rdata := s.rdata, out := s.out, fresh := s.fresh, aonNs := s.aonNs, live := s.live, ring := s.ring, dumps := s.dumps
    media := s.media, tables := { s.tables with stage := 0 }, pending := s.pending }
  let t := t.set GLB_SVN 0 (s.get GLB_SVN 0)
  if keep then t.setMany 0 [(BUF_FILL_WM, s.get BUF_FILL_WM 0), (BUF_FILL_OCC, s.get BUF_FILL_OCC 0),
    (BUF_STS_FILLED, s.get BUF_STS_FILLED 0), (BUF_STS_KEPT, 1)] else t

/-- Sources whose condition lies outside the domains that a reset reaches: supplies, temperature, clocks, and those of ANG. -/
def outlives (angle : Bool) (n : Nat) : Bool := n ≤ 7 || (angle && 16 ≤ n && n ≤ 22)

/-- A source that is live when the collector starts is a new assertion (R561). -/
def reassert (angle : Bool) (l : NMap (List LiveInst)) (s : State) : State :=
  updateFaultN (l.foldl (fun t e => if outlives angle e.1 then e.2.foldl (fun u x => raise e.1 x.inst u) t else t) s)

/-- A dump left incomplete is found at the next start (R558). -/
def reportDump (s : State) : State := if s.on NVM_DUMPBAD 0 then pulse 278 0xFF (s.set NVM_DUMPBAD 0 0) else s

/-- The actuators that a reset finds not PARKED. -/
def unparked (s : State) : List Nat := (List.range 4).filter fun a => !s.is SRV_STS_STATE a 0 && !s.on SRV_OPEN a

/-! ## Straps and recovery boot (R567, R586, R587, R591) -/

/-- Recovery boot. -/
def enterRecovery (cause : Nat) (s : State) : State :=
  let t := [PCI_CFG_MAXSPD, PCI_CFG_MAXW, PCI_CFG_INTX_EN, PCI_IDS_SSVID, PCI_IDS_SSID].foldl (fun (u : State) f => u.unset f 0) s
  let t := t.setMany 0 [(GLB_BOOT_RECOVERY, 1), (GLB_BOOT_CAUSE, cause), (GLB_ROLE_ROLE, 0), (GLB_ROLE_LEVEL, 0),
    (BUF_CFG_SIZE, if cause = 7 then 0 else 8), (BUF_CFG_RATE, 400)]
  let t := forBelow 3 (fun i u => u.set GLB_HELD (i + 1) 1) t
  t.enter 6 0x102 0 0xFF 0 cause 0

/-- The straps are sampled; STRAP_RECOV leads to recovery boot. -/
def sampleStraps (role bootcs recov : Bool) (s : State) : State :=
  let t := s.setMany 0 [(GLB_STRAP_ROLE, role.toNat), (GLB_STRAP_BOOTCS, bootcs.toNat), (GLB_STRAP_RECOV, recov.toNat),
    (GLB_ROLE_STRAP, role.toNat)]
  if recov then enterRecovery 1 t else t

/-- The straps as they were sampled last. -/
def heldStraps (s : State) (f : Bool → Bool → Bool → State → State) : State → State :=
  f (s.on GLB_STRAP_ROLE 0) (s.on GLB_STRAP_BOOTCS 0) (s.on GLB_STRAP_RECOV 0)

/-! ## Cold and warm reset -/

/-- What a cold reset leaves before its marker (R19, R561, R565, R665): what lies on media and in NOR, the fused minimum, and the
pads. -/
def coldClear (s : State) : State :=
  let pads := s.regs.filter fun e => fieldBlk e.1.1 == 93 || (fieldBlk e.1.1 == 91 && e.1.1 % 2 == 1)
  { State.blank with
    regs := pads, rdata := s.rdata, out := s.out, fresh := s.fresh, media := s.media
    tables := { s.tables with norAt := [], stage := 0 }, pending := s.pending }.set GLB_SVN 0 (s.get GLB_SVN 0)

/-- The registers that say how a reset came about. -/
def showReset (cause : Nat) (cold : Bool) (s : State) : State :=
  s.setMany 0 [(GLB_BOOT_PHASE, 1), (GLB_BOOT_COLD, cold.toNat), (GLB_RSTCAUSE, 2 ^ cause)]

/-- A cold reset. A running dump goes on where its supplies stay (R667). -/
def coldReset (cause : Nat) (keepDump : Bool) (role bootcs recov : Bool) (s : State) : State :=
  let t := showReset cause true (coldClear s)
  let d := if keepDump then s.dumps.take 1 else []
  let t := if d.isEmpty then t
    else { t with dumps := d }.setMany 0 [(BNR_STS_DUMPING, 1), (BNR_CARRY, 1)]
  let t := sampleStraps role bootcs recov (t.marker 1)
  let t := if d.isEmpty then reportDump t else t
  reassert false s.live t

/-- The fields of the collector, the record and the angle that a warm reset clears (R44, R561, R667). -/
def warmAon (s : State) : State :=
  let gone := fun x => x % 2 == 0 && (fieldBlk x == 1 || fieldBlk x == 12 || fieldBlk x == 13 || fieldBlk x == 91)
  let t := { s with regs := s.regs.drop gone, shadow := s.shadow.drop gone, live := [], dumps := s.dumps.take 1 }
  t.set BNR_STS_DUMPING 0 (if s.dumps.isEmpty then 0 else 1)

/-- A warm reset up to its marker and the assertions that follow it: an actuator that is not PARKED is retracted, and the link
falls. -/
def warmBase (cause : Nat) (s : State) : State :=
  let un := unparked s
  let r := chain (un.map retract) s
  let t := showReset cause false (warmAon (resetDomains r.1))
  let t := un.foldl (fun (u : State) a => u.set SRV_STS_STATE a 4) t
  let t := withFollow (t.marker 2, r.2)
  let t := if s.on PCI_STS_DL_UP 0 then raise 268 0xFF (t.bump PCI_CNT_LINK_DOWN 0) else t
  reassert true s.live t

/-- A warm reset that ends at once. -/
def warmReset (cause : Nat) (role bootcs recov : Bool) (s : State) : State := sampleStraps role bootcs recov (warmBase cause s)

/-! ## The reset commands -/

/-- PWR_GOOD_RISE (R565, R568, R634). -/
def pwrGoodRise (role bootcs recov testen : Bool) (s : State) : State :=
  if aonDown s then s.set PAD_PWRBAD 0 0
  else
    let t := coldReset 0 false role bootcs recov (s.set PAD_PWRBAD 0 0)
    t.set PAD_TEST 0 testen.toNat

/-- Every source that a domain in reset drives falls. -/
def dropLive (s : State) : State :=
  s.live.foldl (fun t e => if outlives true e.1 then t else e.2.foldl (fun u x => deassertSource e.1 x.inst u) t) s

/-- A running dump is abandoned (R667). -/
def abandonDump (s : State) : State :=
  if s.dumps.isEmpty then s else { s with dumps := [] }.setMany 0 [(NVM_DUMPBAD, 1), (BNR_STS_DUMPING, 0)]

/-- PWR_GOOD_FALL (R644): the retract engine keeps its actuators. -/
def pwrGoodFall (s : State) : State :=
  if inReset s then s.set PAD_PWRBAD 0 1
  else
    let held := (List.range 4).filter fun a => s.is SRV_STS_STATE a 4
    let t := resetDomains (dropLive (abandonDump s))
    let t := held.foldl (fun (u : State) a => u.set SRV_STS_STATE a 4) t
    t.set PAD_PWRBAD 0 1

/-- RESET_N_ASSERT (R565). -/
def resetNAssert (s : State) : State := if inReset s then s.set PAD_RSTN 0 1 else (warmBase 2 s).set PAD_RSTN 0 1

/-- RESET_N_DEASSERT (R567). -/
def resetNDeassert (role bootcs recov : Bool) (s : State) : State :=
  let t := s.set PAD_RSTN 0 0
  if s.on PAD_RSTN 0 && !inReset t then sampleStraps role bootcs recov t else t

/-- A write of `GLB_RSTCTL` (R565). -/
def rstctl (v : Nat) (role bootcs recov : Bool) (s : State) : State :=
  if bits v 8 8 ≠ 0x5A then s
  else if v.testBit 1 then coldReset 4 true role bootcs recov s
  else if v.testBit 0 then warmReset 3 role bootcs recov s
  else s

/-- VDD_AON_LOW (R645, R667). -/
def vddAonLow (s : State) : State := if aonDown s then s else (coldClear (abandonDump s)).set PAD_AONLOW 0 1

/-- VDD_AON_RETURN (R645): the power-on cold reset. -/
def vddAonReturn (role bootcs recov : Bool) (s : State) : State :=
  if aonDown s then coldReset 1 false role bootcs recov (s.set PAD_AONLOW 0 0) else s

/-! ## The boot engine (R568–R577) -/

/-- The boot engine runs: out of reset, not in test, not in recovery boot. -/
def booting (s : State) : Bool := !inReset s && !s.on PAD_TEST 0 && !s.on GLB_BOOT_RECOVERY 0

/-- SRAM_FILL_DONE (R410, R568 step 2). -/
def sramFillDone (s : State) : State :=
  let t := sramFilled s
  if s.is GLB_BOOT_PHASE 0 1 && booting s then t.set GLB_BOOT_PHASE 0 2 else t

/-- A flacon slot verifies (R573). -/
def slotOk (f : FlaconSlot) (s : State) : Bool := f.formatOk && f.sections && f.keyOk && decide (s.get GLB_SVN 0 ≤ f.svn) && f.sigOk

/-- An address that a REGS record may name (R577): one of register space, of a register that is neither RO nor WO. -/
def recordable (a : Nat) : Bool :=
  match regOffset a with
  | none => false
  | some off =>
    match findReg off with
    | .active r _ _ | .shadow r _ _ =>
      off % 4 == 0 && (r.fields.isEmpty || r.fields.any (fun f => f.acc != .ro) && r.fields.any (fun f => f.acc != .wo))
    | .nothing => off % 4 == 0

/-- A configuration area is accepted (R575, R577). -/
def areaOk (c : CfgArea) (custKey : Bool) : Bool :=
  c.formatOk && c.recordsOk && (c.regs.all fun e => recordable e.1) && (c.sigOk || !custKey)

/-- A field takes its part of a word of a record: until configuration is complete a shadowed one swaps at its write (R57, R577). -/
def recordField (f : Field) (i w v : Nat) (s : State) : State :=
  if !f.inWord w then s
  else match f.acc with
    | .rw | .rwl => s.set f i (f.splice w v (s.get f i))
    | .shw | .shf | .shx => (s.setSh f i (f.splice w v (s.getSh f i))).set f i (f.splice w v (s.getSh f i))
    | _ => s

/-- A field takes a value of a record, in both its copies. -/
def recordValue (f : Field) (i v : Nat) (s : State) : State := (if f.acc.shadowed then s.setSh f i v else s).set f i v

/-- A pair of a REGS record (R576). Requests that a register's bits make are firmware's own register writes (log entry 40). -/
def recordPair (a v : Nat) (s : State) : State :=
  match regOffset a with
  | none => s
  | some off =>
    if poweredOff (off / 65536) s then s
    else match findReg off with
      | .active r i w | .shadow r i w => r.fields.foldl (fun t f => recordField f i w v t) s
      | .nothing => s

/-- An address of instruction or data SRAM, where the boot engine places sections (R572). -/
def bootRam (a : Nat) : Bool := decide (a < 0x400000) || (decide (0x1000000 ≤ a) && decide (a < 0x1800000))

/-- The sections of a flacon are placed in SRAM (R572, R573). -/
def placeImages (l : List (Nat × List (BitVec 8))) (m : Memory) : Memory :=
  l.foldl (fun m e => if bootRam e.1 && bootRam (e.1 + e.2.length) then m.writeList e.1 e.2 else m) m

/-- A slot has booted (R187, R573, R574): its sections and its control-store image are placed. The version of that image has no place in the layout of R572
and is free (log entry 40). -/
def bootSlot (i : Nat) (f : FlaconSlot) (s : State) : State :=
  let up := if s.on NVM_FRESH i && f.svnCommit then f.svn else 0
  let t := { (s.set FMT_VER 0 s.free).used.set FMT_STS_STORE_OK 0 1 with mem := placeImages f.images s.mem }
  (t.setMany 0 [(GLB_BOOT_SLOT, i + 1), (GLB_FLACON_VER, f.version.toNat), (GLB_BOOT_PHASE, 4), (GLB_SVNUP, up)]).set NVM_VER i f.version.toNat

/-- The slot that boots: the active one first. A slot that fails fires source 275, and what it placed is zero again. -/
def chooseSlot (active : Nat) (slots : FlaconSlot × FlaconSlot) (s : State) : State × Bool :=
  let slot (i : Nat) := if i = 0 then slots.1 else slots.2
  if slotOk (slot active) s then (bootSlot active (slot active) s, true)
  else
    let t := pulse 275 (active + 1) s
    if slotOk (slot (1 - active)) t then (bootSlot (1 - active) (slot (1 - active)) t, true)
    else (pulse 275 (2 - active) t, false)

/-- Apply the ROLE record (R592, R593). -/
def applyRole (c : CfgArea) (s : State) : State :=
  let fixed : Bool := c.claikAddr != 0x7E
  let t := s.setMany 0 [(GLB_ROLE_ROLE, c.role.val), (GLB_ROLE_LEVEL, c.level.val), (CLB_NODE_LEVEL, c.level.val), (CLB_FIXED, fixed.toNat),
    (CLB_TOP, c.roleFlags.getLsbD 1 |>.toNat), (MGR_MAPPED, c.roleFlags.getLsbD 0 |>.toNat), (MGR_BUDGETR, c.budget.toNat)]
  let t := if fixed then t.set CLB_NODE_ADDR 0 c.claikAddr.toNat else t
  let t := c.slotmap.foldl (fun (u : State) e => if e.1 < 64 then u.set MGR_SLOTMAP e.1 e.2.toNat else u) t
  if c.role ≠ 2 then t
  else
    let t := if c.roleFlags.getLsbD 1 then t.set MGR_TOK_BUDGET 0 c.budget.toNat else t
    if c.level = 1 then
      { t.setMany 0 [(ACD_CODE_K, 20), (ACD_CODE_M, 3)] with shadow := (t.shadow.set ACD_CODE_K 0 20).set ACD_CODE_M 0 3 }
    else t

/-- The GEOMETRY and ACCORD records, which a drive must have (R576). -/
def applyGeometry (c : CfgArea) (s : State) : State :=
  if !driveRole s then s
  else
    let t := recordValue ANG_SRCSEL_EN0 0 (c.pilots.getLsbD 0).toNat (recordValue ANG_SRCSEL_EN1 0 (c.pilots.getLsbD 1).toNat s)
    let t := recordValue ANG_SRCSEL_DUAL_EN 0 (c.pilots == 3).toNat (recordValue SPN_MOTOR_PP 0 c.polePairs.toNat t)
    let t := recordValue ACD_MEMBERS 0 (bits c.members.toNat 0 32) (recordValue ACD_MEMBERS 1 (bits c.members.toNat 32 32) t)
    match c.accord with
    | some v => (recordValue ACD_CODE_K 0 v.1.toNat (recordValue ACD_CODE_M 0 v.2.1.toNat t)).setMany 0
        [(ACD_PLC_CFG_SEED, v.2.2.1.toNat), (ACD_PLC_CFG_ZSTEP, v.2.2.2.toNat)]
    | none => t

/-- What the NVME record holds beside the identity (R576): the controller memory buffer, the windows, the spin-wait default. -/
def applyNvme (c : CfgArea) (s : State) : State :=
  let t := match c.cmbSize with
    | some v => s.set NVQ_CMB_SIZE 0 v.toNat
    | none => s
  let t := match c.spinwait with
    | some v => t.set NVQ_SPINWAIT 0 v.toNat
    | none => t
  c.wins.foldl (fun (u : State) e => if e.1 < 64 then
    u.setMany e.1 [(PCI_WIN_EN, bits e.2.toNat 0 1), (PCI_WIN_WREN, bits e.2.toNat 1 1), (PCI_WIN_BASE, bits e.2.toNat 14 26)] else u) t

/-- The REGS record in its order, and the words of the LPEPAR record in the loop engine's data memory (R576). -/
def applyWords (c : CfgArea) (s : State) : State :=
  let t := c.regs.foldl (fun (u : State) e => recordPair e.1 e.2.toNat u) s
  c.lpepar.foldl (fun (u : State) e =>
    if driveRole u && decide (e.1 < 65536) then { u with mem := u.mem.setWord (0x10400000 + 4 * e.1) 4 e.2.toNat } else u) t

/-- Apply the records of the accepted area (R576). -/
def applyArea (i : Nat) (c : CfgArea) (custKey : Bool) (s : State) : State :=
  let t := s.setMany 0 [(GLB_BOOT_CFGAREA, i), (GLB_CFG_SEQ, c.seq.toNat), (GLB_BOOT_UNSIGNED, (!custKey).toNat), (GLB_BOOT_PHASE, 5)]
  let t := applyRole c t
  let t := t.setMany 0 [(BUF_CFG_SIZE, bits c.bufCfg.toNat 0 6), (BUF_CFG_RATE, bits c.bufCfg.toNat 8 12),
    (BUF_CFG_RANKS, bits c.bufCfg.toNat 20 1), (BUF_RETIRE_BASE, c.retBase.toNat)]
  let t := match c.pciCfg with
    | some v => t.setMany 0 [(PCI_CFG_MAXSPD, bits v.toNat 0 3), (PCI_CFG_MAXW, bits v.toNat 4 4), (PCI_CFG_INTX_EN, bits v.toNat 8 1)]
    | none => t
  let t := match c.pciIds with
    | some v => t.setMany 0 [(PCI_IDS_SSVID, bits v.toNat 0 16), (PCI_IDS_SSID, bits v.toNat 16 16)]
    | none => t
  let t := match c.eui with
    | some v => t.set GLB_EUI 0 v.toNat
    | none => t
  let t := match c.nvme with
    | some v => t.setMany 0 [(NVQ_NGUID, v.1.toNat), (NVQ_ZSZE, v.2.1), (NVQ_UNLKC, v.2.2.toNat)]
    | none => t
  let t := match c.spin with
    | some v =>
      let u := t.setMany 0 [(SPN_SETPT_TARGET, v.rpm.toNat), (SPN_REFMODE_MODE, v.refmode.val), (SPN_GSTD, v.gstd.toNat), (SPN_TMIN, v.tmin.toNat),
        (SPN_SMODE, v.mode.val)]
      let u := { u with shadow := u.shadow.set SPN_REFMODE_MODE 0 v.refmode.val }
      if v.refmode = 0 then u.setI SPN_TGT 0 (v.rpm.toInt * 16) else u
    | none => t
  let t := applyGeometry c (applyNvme c (forBelow 48 (fun l u => u.set LAN_POP l (c.heads.getLsbD l).toNat) t))
  applyWords c t

/-- The area that is used: the accepted one with the higher sequence number, A where they are equal (R575). -/
def chooseArea (areas : CfgArea × CfgArea) (custKey : Bool) : Option (Nat × CfgArea) :=
  match areaOk areas.1 custKey, areaOk areas.2 custKey with
  | true, true => if areas.1.seq.toNat < areas.2.seq.toNat then some (1, areas.2) else some (0, areas.1)
  | true, false => some (0, areas.1)
  | false, true => some (1, areas.2)
  | false, false => none

/-- Recovery boot with source 276. -/
def rejectConfig (cause inst : Nat) (s : State) : State := enterRecovery cause (pulse 276 inst s)

/-- The configuration area (R575–R577, R586, R9). -/
def loadConfig (areas : CfgArea × CfgArea) (custKey : Bool) (s : State) : State :=
  let t := if areaOk areas.1 custKey then s else pulse 276 0 s
  let t := if areaOk areas.2 custKey then t else pulse 276 1 t
  match chooseArea areas custKey with
  | none => enterRecovery 4 t
  | some (i, c) =>
    if !c.mandatory then rejectConfig 5 i t
    else if c.role.val ≠ 1 + t.get GLB_STRAP_ROLE 0 then (rejectConfig 6 i t).set GLB_ROLE_MISMATCH 0 1
    else applyArea i c custKey t

/-- What the boot engine finds (R399, R571, R589): the NOR devices, the fused customer key hash, and the slot that the directory names. A
read error that persists fires source 273 (R586). -/
def bootFinds (active : Nat) (custKey : Bool) (nor : Nat) (readErr : Bool) (s : State) : State :=
  let t := s.setMany 0 [(GLB_BOOT_PHASE, 3), (NVM_ACTIVE, active), (LPE_IMGSTS_CKEY, custKey.toNat), (GLB_NOR_CS0, bits nor 0 1),
    (GLB_NOR_CS1, bits nor 1 1), (GLB_NOR_SIZE0, bits nor 8 8), (GLB_NOR_SIZE1, bits nor 16 8)]
  if readErr then pulse 273 0xFF t else t

/-- The active slot of the directory copy that is used: the valid one with the higher sequence number (R571). -/
def chooseDir (a b : DirCopy) : Option (Fin 2) :=
  match a.ok, b.ok with
  | true, true => some (if a.seq.toNat < b.seq.toNat then b.active else a.active)
  | true, false => some a.active
  | false, true => some b.active
  | false, false => none

/-- FLACON_LOAD_DONE (R569, R571–R577, R586): the first access of NOR waits for a running dump (R667). -/
def flaconLoadDone (dirA dirB : DirCopy) (slots : FlaconSlot × FlaconSlot) (areas : CfgArea × CfgArea) (custKey : Bool)
    (nor : Nat) (readErr : Bool) (s : State) : State :=
  if !booting s || !s.is GLB_BOOT_PHASE 0 2 || !s.dumps.isEmpty then s
  else
    match chooseDir dirA dirB with
    | none => enterRecovery 2 (pulse 272 0xFF (bootFinds (s.get NVM_ACTIVE 0) custKey nor readErr s))
    | some active =>
      let r := chooseSlot active.val slots (bootFinds active.val custKey nor readErr s)
      if r.2 then loadConfig areas custKey r.1 else enterRecovery 3 r.1

/-- DRAM_TRAINING_DONE (R412, R416, R435, R568 step 6, R569): in recovery boot the DRAM is trained as well. -/
def dramTrainingDone (fail time : Nat) (s : State) : State :=
  if inReset s || s.on PAD_TEST 0 || s.on BUF_STS_TRAINED 0 then s
  else if !(s.is GLB_BOOT_PHASE 0 5 || s.on GLB_BOOT_RECOVERY 0) || s.is GLB_BOOT_CAUSE 0 7 then s
  else if fail ≠ 0 then
    let t := pulse 244 0xFF (s.set BUF_STS_TRNFAIL 0 fail)
    if t.on GLB_BOOT_RECOVERY 0 then t.set BUF_CFG_SIZE 0 0 else enterRecovery 7 t
  else
    let t := s.set BUF_STS_TRAINED 0 1
    let t := if s.on BUF_STS_KEPT 0 then t else t.set BUF_FILL_WM 0 4096
    if t.on GLB_BOOT_RECOVERY 0 then t else t.setMany 0 [(GLB_BOOT_PHASE, 6), (GLB_BOOTTIME, time)]

/-! ## Configuration-complete (R498, R570, R574) -/

/-- A window keeps the rules of R498. -/
def windowOk (n : Nat) (s : State) : Bool :=
  let slot := bar2Size s / 64
  let base := s.get PCI_WIN_BASE n * 16384
  (slot == 0 || base % slot == 0) && decide (dramBase ≤ base) && decide (base + slot ≤ dramBase + dataEnd s)

/-- The windows are checked at the event: a refused one reads EN clear, and source 266 fires. -/
def checkWindows (s : State) : State :=
  let bad := (List.range 64).filter fun n => s.on PCI_WIN_EN n && !windowOk n s
  if bad.isEmpty then s else pulse 266 0xFF (bad.foldl (fun (t : State) n => t.set PCI_WIN_EN n 0) s)

/-- CONFIGURATION_COMPLETE: ignored before core release, in recovery boot, and the second time. -/
def configurationComplete (s : State) : State :=
  if inReset s || s.on PAD_TEST 0 || s.on GLB_BOOT_RECOVERY 0 || s.on GLB_BOOT_CFGDONE 0 || !s.is GLB_BOOT_PHASE 0 6 then s
  else
    let up := s.get GLB_SVNUP 0
    let t := s.setMany 0 [(GLB_BOOT_CFGDONE, 1), (GLB_BOOT_PHASE, 7)]
    let t := if s.get GLB_SVN 0 < up then t.set GLB_SVN 0 up else t
    let t := if up = 0 then t else t.set NVM_FRESH (s.get GLB_BOOT_SLOT 0 - 1) 0
    checkWindows t

/-- CFGDONE_TIMEOUT. -/
def cfgdoneTimeout (s : State) : State :=
  let t := configurationComplete s
  if s.on GLB_BOOT_CFGDONE 0 || !t.on GLB_BOOT_CFGDONE 0 then s else pulse 276 0xFE t

/-- Show a later step of R568 reached. -/
def reachPhase (n : Nat) (s : State) : State := if s.is GLB_BOOT_PHASE 0 (n - 1) then s.set GLB_BOOT_PHASE 0 n else s

end Sys2Proof.Machine
end

