-- ==== Sys2Proof/Machine/Manager.lean ====
section
/-!
DEFINITION. The Claik bus, orders, spin tokens and the manager role (spec/13). What the hierarchy's firmware sends is modelled as the
commands' effect (log entry 39).
-/

namespace Sys2Proof.Machine

/-! ## Frames (R594–R596) -/

/-- This controller's address on the upstream segment (R587, R595). -/
def ownAddr (s : State) : Nat := if s.on GLB_BOOT_RECOVERY 0 then 0x7E else s.get CLB_NODE_ADDR 0

/-- A valid frame on the upstream port: it is counted, and acted on when its address is the node's own or the broadcast one. -/
def upFrame (addr : Nat) (f : State → State) (s : State) : State :=
  if !s.on CLB_CTL_UPEN 0 then s
  else
    let t := s.bump CLB_UPCNT_VALID 0
    if addr = ownAddr s ∨ addr = 0x7F then f (lower 305 0xFF t) else t

/-- Send a reply and keep it. -/
def reply (typ seq : Nat) (payload : List (BitVec 8)) (s : State) : State :=
  let o : Out := claikOut true (ownAddr s + 128) typ seq payload
  { s with upReply := some o }.emit o

/-- An addressed request (R595): a repeated SEQ is answered as before and not acted on again; a broadcast is not answered. -/
def upRequest (addr typ seq : Nat) (act : State → State × List (BitVec 8)) (s : State) : State :=
  upFrame addr (fun t =>
    if addr = 0x7F then (act t).1
    else if t.is CLB_LAST 0 (seq + 1) then
      match t.upReply with
      | some o => t.emit o
      | none => t
    else
      let r := act (t.set CLB_LAST 0 (seq + 1))
      reply typ seq r.2 r.1) s

/-- The controller is a manager whose downstream port is enabled. -/
def masterOn (s : State) : Bool := s.is GLB_ROLE_ROLE 0 2 && s.on CLB_CTL_DNEN 0

/-- Send the request at the front. -/
def sendFront (s : State) : State :=
  match s.dnQ with
  | r :: _ => s.emit (claikOut false r.addr r.typ r.seq r.payload)
  | [] => s

/-- Queue an addressed request of the master. -/
def claikSend (addr typ : Nat) (payload : List (BitVec 8)) (s : State) : State :=
  if !masterOn s then s
  else
    let r : ClaikReq := ⟨addr, typ, s.get MGR_SEQ 0, payload, 0⟩
    let t := { s with dnQ := s.dnQ ++ [r] }.bump MGR_SEQ 0
    if s.dnQ.isEmpty then sendFront t else t

/-- Broadcast a frame of the master. -/
def claikCast (typ : Nat) (payload : List (BitVec 8)) (s : State) : State :=
  if masterOn s then (s.emit (claikOut false 0x7F typ (s.get MGR_SEQ 0) payload)).bump MGR_SEQ 0 else s

/-- A reply has arrived on the downstream port: the request that it answers ends, and the next is sent. -/
def downFrame (addr typ : Nat) (f : State → State) (s : State) : State :=
  if !masterOn s then s
  else
    let t := s.bump CLB_DNCNT_VALID 0
    let t := if 1 ≤ addr ∧ addr ≤ 64 then lower 307 addr (t.set MGR_NODE_MISSED (addr - 1) 0) else t
    match t.dnQ with
    | r :: q => if r.addr = addr ∧ r.typ = typ then f (sendFront { t with dnQ := q }) else f t
    | [] => f t

/-! ## Nodes of a manager (R597, R598, R603, R613) -/

/-- The slots with an assigned node. -/
def nodes (s : State) : List Nat := (List.range 64).filter fun n => s.on MGR_NODE_STATE n

/-- Sum of a per-slot field over the assigned nodes. -/
def nodeSum (f : Field) (s : State) : Nat := ((nodes s).map fun n => s.get f n).sum

/-- `MGR_STS` and `MGR_TOKUSE`. The shelf is ready while RUN is set and the queues of every member in service are set up. -/
def showMgr (s : State) : State :=
  let cnt (v : Nat) := (List.range 64).countP fun n => s.is MGR_NODE_STATE n v
  let up := (membersOf s.memberMask).filter fun n => !isLost n s
  s.setMany 0 [(MGR_STS_ASSIGNED, (nodes s).length), (MGR_STS_INSVC, cnt 1), (MGR_STS_LOST, cnt 3),
    (MGR_STS_READY, (s.on MGR_CTL_RUN 0 && !up.isEmpty && up.all fun n => s.on MGR_UP n).toNat),
    (MGR_TOKUSE_GRANTS, nodeSum MGR_NODE_GRANT s), (MGR_TOKUSE_USED, nodeSum MGR_NODE_USED s)]

/-! ### Spin tokens (R613, R614) -/

/-- Grant tokens to a child. -/
def setGrant (n v : Nat) (s : State) : State :=
  if s.is MGR_NODE_GRANT n v then s else claikSend (n + 1) 3 (bytesOf 1 v) (s.set MGR_NODE_GRANT n v)

/-- The grant that a child keeps in operation. -/
def runGrant (n : Nat) (s : State) : Nat := Nat.max (s.get MGR_TOK_RUN 0) (s.get MGR_NODE_USED n)

/-- Send an order to a child. -/
def sendOrder (n code arg : Nat) (s : State) : State := claikSend (n + 1) 4 (bytesOf 1 code ++ bytesOf 4 arg) s

/-- A child wants tokens that it has not been granted. -/
def wants (n : Nat) (s : State) : Bool :=
  s.on MGR_NODE_STATE n && s.on MGR_CWANT n && !s.on MGR_NODE_LOADOK n && decide (s.get MGR_NODE_GRANT n < s.get MGR_TOK_START 0)

/-- Serve the children that want tokens: those with held commands first, then in ascending slot order. -/
def serveWants (s : State) : State :=
  let order := ((List.range 64).filter fun n => s.on MGR_CHELD n) ++ (List.range 64).filter fun n => !s.on MGR_CHELD n
  order.foldl (fun t n =>
    let sum := nodeSum MGR_NODE_GRANT t - t.get MGR_NODE_GRANT n + t.get MGR_TOK_START 0
    if wants n t && decide (sum ≤ t.get MGR_TOK_BUDGET 0) then setGrant n (t.get MGR_TOK_START 0) t else t) s

/-- The budget has fallen below the sum of the grants (R614). -/
def overcommit (s : State) : State :=
  if nodeSum MGR_NODE_GRANT s ≤ s.get MGR_TOK_BUDGET 0 then s
  else
    let t := (nodes s).foldl (fun t n => setGrant n (Nat.min (t.get MGR_NODE_GRANT n) (runGrant n t)) t) (pulse 338 0xFF s)
    (nodes s).reverse.foldl (fun t n =>
      if nodeSum MGR_NODE_GRANT t ≤ t.get MGR_TOK_BUDGET 0 || t.on MGR_CHELD n || t.is MGR_NODE_GRANT n 0 then t
      else setGrant n 0 (sendOrder n 1 0 t)) t

/-- The budget of a manager changes. -/
def setBudget (v : Nat) (s : State) : State := showMgr (serveWants (overcommit (s.set MGR_TOK_BUDGET 0 v)))

/-! ## STATUS and the other requests of a node (R596, R597) -/

/-- Host commands are held. -/
def hasHeld (s : State) : Bool := s.cmds.any fun c => c.phase == .held

/-- Tokens wanted. A drive that is not at speed wants tokens, whose number is not stated; a manager wants its children's unmet
starts. -/
def tokensWanted (s : State) : Nat × State :=
  if s.is GLB_ROLE_ROLE 0 2 then (((nodes s).countP fun n => wants n s) * s.get MGR_TOK_START 0, s)
  else if s.on SPN_STATE_LOADOK 0 || s.on CLB_ORDER_DRYDOWN 0 then (0, s)
  else (s.free, s.used)

/-- The STATUS payload. -/
def statusPayload (s : State) : State × List (BitVec 8) :=
  let mgr := s.is GLB_ROLE_ROLE 0 2
  let seen := !s.is CLB_SAFESEEN 0 (s.get FLT_SAFE_ENTRIES 0)
  let b0 := s.get GLB_ROLE_ROLE 0 + 4 * s.get GLB_ROLE_LEVEL 0 + 16 * (if mgr then 0 else s.get SPN_STATE_LOADOK 0)
    + 32 * s.get FLT_SAFE_ACTIVE 0 + 64 * seen.toNat + 128 * (hasHeld s).toNat
  let w := tokensWanted s
  let b (x : Nat) := bytesOf 1 (Nat.min 255 x)
  let t := w.2.set CLB_SAFESEEN 0 (s.get FLT_SAFE_ENTRIES 0)
  (t, bytesOf 1 b0 ++ bytesOf 1 (if mgr then 0 else s.get SPN_STATE_STATE 0)
    ++ b (if mgr then nodeSum MGR_NODE_USED s else s.get SPN_TOKENS_USED 0)
    ++ b (if mgr then nodeSum MGR_NODE_GRANT s else s.get SPN_TOKENS_GRANT 0) ++ b w.1
    ++ b (if mgr then nodeSum MGR_CLOST s else s.get ACD_STS_LOST_CNT 0) ++ b (if mgr then nodeSum MGR_CDEGR s else s.get ACD_STS_DEGR_CNT 0)
    ++ bytesOf 1 0 ++ bytesOf 4 (if mgr then nodeSum MGR_CUNREC s else s.get ACD_UNREC_CNT 0) ++ bytesOf 2 (s.get BNR_STS_SEQ 0) ++ bytesOf 2 0)

/-- POLL. -/
def poll (addr seq : Nat) (s : State) : State := upRequest addr 0 seq statusPayload s

/-- DISCOVER (R599): an unassigned node awaits its response slot. -/
def discover (s : State) : State :=
  upFrame 0x7F (fun t => if ownAddr t = 0x7E ∧ !(t.on CLB_FIXED 0) then t.set CLB_HELLO 0 1 else t) s

/-- DISCOVER_RESPONSE_SLOT: HELLO. -/
def discoverSlot (s : State) : State :=
  if s.on CLB_HELLO 0 && s.on CLB_CTL_UPEN 0 then
    (s.set CLB_HELLO 0 0).emit (claikOut true (0x7E + 128) 1 0
      (bytesOf 8 (s.get GLB_EUI 0) ++ bytesOf 1 (s.get GLB_ROLE_ROLE 0) ++ bytesOf 1 (s.get GLB_ROLE_LEVEL 0)))
  else s

/-- ASSIGN (R599). -/
def assign (eui addr pod level seq : Nat) (s : State) : State :=
  if ownAddr s ≠ 0x7E ∨ s.get GLB_EUI 0 ≠ eui ∨ s.on CLB_FIXED 0 then upFrame 0x7E (fun t => t) s
  else upRequest 0x7E 2 seq (fun t =>
    (t.setMany 0 [(CLB_NODE_ADDR, addr), (CLB_NODE_ASSIGNED, 1), (CLB_NODE_POD, pod), (CLB_NODE_LEVEL, level)], [])) s

/-- GRANT (R613, R614). -/
def grant (addr seq tokens : Nat) (s : State) : State :=
  upRequest addr 3 seq (fun t =>
    if t.is GLB_ROLE_ROLE 0 2 then
      let u := if t.on CLB_TOP 0 then t else setBudget tokens t
      (u, bytesOf 1 (Nat.min 255 (nodeSum MGR_NODE_USED u)))
    else
      let u := t.set SPN_TOKENS_GRANT 0 tokens
      (u, bytesOf 1 (u.get SPN_TOKENS_USED 0))) s

/-- WAKE (R525): a wake event, and source 309. -/
def wake (addr seq : Nat) (s : State) : State :=
  upRequest addr 10 seq (fun t => (pmeEvent (t.on PCI_PME_CLAIK 0) (pulse 309 0xFF t), [])) s

/-- The least number of bits that hold `n - 1`. -/
def log2Up (n : Nat) : Nat := Nat.repeat (fun p => if 2 ^ p < n then p + 1 else p) 40 0

/-- PEERINFO. -/
def peerinfo (addr seq : Nat) (s : State) : State :=
  upRequest addr 9 seq (fun t =>
    (t, bytesOf 8 (t.get CFG_BAR 0 + t.get CFG_BAR 1 * 2 ^ 32) ++ bytesOf 8 (t.get CFG_BAR 2 + t.get CFG_BAR 3 * 2 ^ 32)
      ++ bytesOf 2 (t.get NVQ_CMB_SIZE 0) ++ bytesOf 4 (zoneTotal t) ++ bytesOf 2 (log2Up (zsze t)))) s

/-- HARVEST (R621): up to two entries of the ring from a sequence number on. -/
def harvestReply (addr seq first count : Nat) (s : State) : State :=
  upRequest addr 8 seq (fun t =>
    let es := (List.range (Nat.min 2 count)).filterMap fun i => (t.ring.find? fun e => e.2.seq == (first + i) % 65536).map (·.2)
    (t, es.flatMap fun e => bytesOf 32 e.bits)) s

/-- SYNC (R615). -/
def syncHalf (s : State) : Nat :=
  if s.on MGR_PERIOD 0 then s.get MGR_PERIOD 0 / 2
  else if s.is MGR_SYNC_RPM 0 0 then 0
  else 30000000000 / (s.get MGR_SYNC_RPM 0 * (s.get MGR_SYNC_PPR 0 + 1))

/-- A shelf manager drives SYNC_OUT, unless it is held low (R615, R616). -/
def driveSync (s : State) : State :=
  if s.is GLB_ROLE_ROLE 0 2 && s.is GLB_ROLE_LEVEL 0 1 then
    s.emit (.syncOut (if s.on MGR_SYNC_EN 0 && !s.on MGR_SYNCLOW 0 then syncHalf s else 0))
  else s

/-- SYNC. -/
def sync (epoch period : Nat) (s : State) : State :=
  upFrame 0x7F (fun t => driveSync (t.setMany 0 [(MGR_EPOCH, epoch), (MGR_PERIOD, period)])) s

/-- SYNC_OUT is switched by `MGR_CTL.SYNC_EN` or `MGR_SYNC.EN` (R615, R622): the workers are ordered to MODE 1 with its PPR and their
phase. -/
def setSync (on : Bool) (s : State) : State :=
  let t := driveSync (s.setMany 0 [(MGR_SYNC_EN, on.toNat), (MGR_CTL_SYNC_EN, on.toNat)])
  if !on then t
  else (nodes t).foldl (fun u n =>
    sendOrder n 5 (1 + u.get MGR_SYNC_PPR 0 * 2 ^ 8 + 1024 * n / (u.get MGR_SYNC_PPR 0 + 1) % 65536 * 2 ^ 16) u) t

/-- SYNC_OUT_FAULT (R616, R541). -/
def syncOutFault (s : State) : State :=
  if s.is GLB_ROLE_ROLE 0 2 && s.on MGR_SYNC_EN 0 && !s.on MGR_SYNCLOW 0 then driveSync (pulse 341 0xFF s) else s

/-! ## Orders (R617–R619) -/

/-- A standing order is brought about; a safety reaction wins over it and it waits (R619). -/
def applyOrders (s : State) : State :=
  if s.on FLT_SAFE_ACTIVE 0 || !driveRole s || s.on GLB_BOOT_RECOVERY 0 then s
  else if s.on CLB_ORDER_DRYDOWN 0 then orderlyDrydown 2 (placeFrontiers s)
  else if s.on CLB_ORDER_SPIN 0 then spnStart s
  else s

/-- A power state below the cap is left (R618). -/
def applyCap (s : State) : State :=
  let ps := s.get CLB_ORDER_PSCAP 0
  if ps ≤ s.get NVQ_STS_PS 0 then s
  else
    let t := setPower ps s
    if 2 < ps && driveRole t && !t.on FLT_SAFE_ACTIVE 0 then orderlyDrydown 2 t else t

/-- An ORDER frame. -/
def order (addr seq code : Nat) (act : State → State) (s : State) : State :=
  upRequest addr 4 seq (fun t => (act ((t.set CLB_ORDER_CODE 0 code).bump CLB_ORDER_COUNT 0), [])) s

/-- DRYDOWN. -/
def orderDrydown (s : State) : State := applyOrders (s.setMany 0 [(CLB_ORDER_DRYDOWN, 1), (CLB_ORDER_SPIN, 0)])

/-- RELEASE. -/
def orderRelease (s : State) : State := s.setMany 0 [(CLB_ORDER_DRYDOWN, 0), (CLB_ORDER_SPIN, 0), (CLB_ORDER_PSCAP, 0)]

/-- SPIN; it loses to a safety reaction and applies once the safe state has been left (R617, R619). -/
def orderSpin (s : State) : State :=
  let t := if s.on FLT_SAFE_ACTIVE 0 then s.bump MGR_ORD_LOST 0 else s
  applyOrders (t.setMany 0 [(CLB_ORDER_DRYDOWN, 0), (CLB_ORDER_SPIN, 1)])

/-- PSCAP; a cap at PS3 or PS4 contradicts a standing SPIN and, being newer, replaces it. -/
def orderPscap (ps : Nat) (s : State) : State :=
  let t := s.set CLB_ORDER_PSCAP 0 ps
  applyCap (if 2 < ps then t.set CLB_ORDER_SPIN 0 0 else t)

/-- SETREF: the reference group is written and committed. -/
def orderSetref (mode ppr phase : Nat) (s : State) : State :=
  if !driveRole s then s
  else if s.bit SPN_CMT_STS_PENDING 0 1 then s.setBit SPN_CMT_STS_DROP 0 1 true
  else commitGroup .spn 0 1 (((s.setSh SPN_REFMODE_MODE 0 mode).setSh SPN_REFCFG_PPR 0 ppr).setSh SPN_REFCFG2_PHASE 0 phase)

/-! ## Flacon distribution, as a node (R620) -/

/-- FWDATA: a chunk arrives; the first one names the length. -/
def fwdata (off : Nat) (data : List (BitVec 8)) (s : State) : State :=
  upFrame 0x7F (fun t =>
    let t := if off = 0 then t.set CLB_FWLEN 0 (ofBytes ((data.drop 16).take 4)) else t
    if t.fwMiss.contains off then t else { t with fwMiss := t.fwMiss ++ [off] }) s

/-- Chunks that have not arrived; the first while the length is not known. -/
def missingChunks (s : State) : List Nat :=
  if !s.fwMiss.contains 0 then [0]
  else ((List.range ((s.get CLB_FWLEN 0 + 55) / 56)).map (56 * ·)).filter fun o => !s.fwMiss.contains o

/-- The FWSTAT payload. -/
def fwstatPayload (s : State) : List (BitVec 8) :=
  let m := missingChunks s
  bytesOf 4 m.length ++ ((m.take 15).flatMap fun o => bytesOf 4 o) ++ bytesOf 1 (s.get CLB_FWOK 0)

/-- FWCTL_QUERY. -/
def fwctlQuery (addr seq : Nat) (s : State) : State := upRequest addr 7 seq (fun t => (t, fwstatPayload t)) s

/-- A distributed flacon is written to the slot not booted and activated, when it is whole and verifies (R620): FWSTAT. -/
def fwctlAct (ok : Bool) (t : State) : State × List (BitVec 8) :=
  if !ok || !(missingChunks t).isEmpty then (t.set CLB_FWOK 0 0, fwstatPayload (t.set CLB_FWOK 0 0))
  else
    let i := 2 - t.get GLB_BOOT_SLOT 0
    let u := ((t.used.set NVM_VER i t.free).set NVM_FRESH i 1).setMany 0 [(NVM_ACTIVE, i), (CLB_FWOK, 1)]
    (firmwareActivation u, fwstatPayload u)

/-- FWCTL_COMMIT (R596, R620). -/
def fwctlCommit (addr seq : Nat) (ok : Bool) (s : State) : State := upRequest addr 7 seq (fwctlAct ok) s

/-- The commit of a flacon that a dump has preempted (R559): it is answered now. -/
def fwctlAgain (addr seq : Nat) (s : State) : State :=
  if addr = 0x7F then (fwctlAct true s).1
  else
    let r := fwctlAct true (s.set CLB_LAST 0 (seq + 1))
    reply 7 seq r.2 r.1

/-- RESERVED_TYPE (R596). -/
def reservedType (up : Bool) (s : State) : State :=
  if up then if s.on CLB_CTL_UPEN 0 then (s.bump CLB_UPCNT_VALID 0).bump CLB_RETRY_RESERVED 0 else s
  else if masterOn s then (s.bump CLB_DNCNT_VALID 0).bump CLB_RETRY_RESERVED 0 else s

/-- UPSTREAM_SILENCE (R598). -/
def upstreamSilence (s : State) : State := if s.on CLB_CTL_UPEN 0 then raise 305 0xFF s else s

/-- CLAIK_FRAME_CRC_ERROR (R595). -/
def claikCrc (up : Bool) (s : State) : State :=
  if up then if s.on CLB_CTL_UPEN 0 then pulse 304 0xFF (s.bump CLB_UPCNT_CRC 0) else s
  else if masterOn s then pulse 306 0xFF (s.bump CLB_DNCNT_CRC 0) else s

/-- ADDRESS_CONFLICT (R598). -/
def addressConflict (s : State) : State := pulse 308 0xFF s

/-! ## Discovery, as the master (R599) -/

/-- The pod member number of child `n` (R12): the number of the manager itself, with the child's place at the level below. DESIGN CHOICE
(log entry 44): how a manager with a fixed Claik address, which no ASSIGN reaches, learns its own number the spec leaves open; its
`CLB_NODE` keeps the number 0, so that it numbers its children from shelf 0 and row 0. -/
def podNumber (n : Nat) (s : State) : Nat :=
  let lv := s.get GLB_ROLE_LEVEL 0
  s.get CLB_NODE_POD 0 / 64 ^ lv * 64 ^ lv + n * 64 ^ (lv - 1)

/-- A node that has lost no service counts in service. -/
def takeNode (eui n : Nat) (s : State) : State :=
  let lv := s.get GLB_ROLE_LEVEL 0
  let pod := podNumber n s
  let t := (s.setMany n [(MGR_NODE_EUI, eui), (MGR_NODE_POD, pod), (MGR_NODE_STATE, if isLost n s then 3 else 1), (MGR_NODE_MISSED, 0)])
  claikSend 0x7E 2 (bytesOf 8 eui ++ bytesOf 1 (n + 1) ++ bytesOf 3 pod ++ bytesOf 1 (lv - 1)) t

/-- The slot that the map names for a node, or the one that it has had. -/
def mappedSlot (eui : Nat) (s : State) : Option Nat :=
  match (List.range 64).find? fun n => s.on MGR_NODE_STATE n && s.is MGR_NODE_EUI n eui with
  | some n => some n
  | none => if s.on MGR_MAPPED 0 then (List.range 64).find? fun n => s.is MGR_SLOTMAP n eui && eui != 0 else none

/-- The lowest free slot for any node. -/
def freeNode (s : State) : Option Nat :=
  (List.range 64).find? fun n => !s.on MGR_NODE_STATE n && (!s.on MGR_MAPPED 0 || s.is MGR_SLOTMAP n 0)

/-- MGR_DISCOVER. -/
def mgrDiscover (seed : Nat) (s : State) : State :=
  if masterOn s then claikCast 1 (bytesOf 1 seed) ({ s with hellos := [] }.setMany 0 [(MGR_DISC, 1), (MGR_EMPTY, 0)]) else s

/-- HELLO: two of one EUI-64 in a round conflict; a node that the map names is assigned at once. -/
def hello (eui : Nat) (s : State) : State :=
  if !masterOn s then s
  else
    let t := s.bump CLB_DNCNT_VALID 0
    if !t.on MGR_DISC 0 then t
    else if t.hellos.contains eui then addressConflict t
    else
      let t := { t with hellos := t.hellos ++ [eui] }
      match mappedSlot eui t with
      | some n => showMgr (takeNode eui n t)
      | none => t

/-- Insert in ascending order. -/
def insertAsc (x : Nat) : List Nat → List Nat
  | [] => [x]
  | y :: t => if x ≤ y then x :: y :: t else y :: insertAsc x t

/-- DISCOVER_ROUND_END: the remaining nodes fill the free slots in ascending order of EUI-64; a new round starts, or discovery stops
after three empty rounds. -/
def discoverRoundEnd (s : State) : State :=
  if !masterOn s || !s.on MGR_DISC 0 then s
  else
    let rest := (s.hellos.filter fun e => (mappedSlot e s).isNone).foldl (fun l e => insertAsc e l) []
    let t := rest.foldl (fun t e => match freeNode t with
      | some n => takeNode e n t
      | none => t) s
    let empty := if s.hellos.isEmpty then s.get MGR_EMPTY 0 + 1 else 0
    let t := showMgr ({ t with hellos := [] }.set MGR_EMPTY 0 empty)
    if empty = 3 then t.set MGR_DISC 0 0 else claikCast 1 (bytesOf 1 t.free) t.used

/-! ## Polling and replies, as the master (R595, R598, R603) -/

/-- POLL_PERIOD: every assigned node is polled, unless its last poll still waits. -/
def pollPeriod (s : State) : State :=
  (nodes s).foldl (fun t n => if t.dnQ.any fun r => r.addr == n + 1 && r.typ == 0 then t else claikSend (n + 1) 0 [] t) s

/-- Ask a child manager for its next entries, or a worker for its log (R621). -/
def harvestChild (n : Nat) (s : State) : State :=
  if s.is GLB_ROLE_LEVEL 0 1 then peerSend n 0 .log 0 0 0 s
  else if s.get MGR_CSEQ n = s.get MGR_CNEXT n then s
  else claikSend (n + 1) 8 (bytesOf 2 (s.get MGR_CSEQ n) ++ bytesOf 1 (Nat.min 2 ((s.get MGR_CNEXT n + 65536 - s.get MGR_CSEQ n) % 65536))) s

/-- HARVEST_TIMER. -/
def harvestTimer (s : State) : State := if masterOn s then (nodes s).foldl (fun t n => harvestChild n t) s else s

/-- STATUS (R12, R597, R599, R603, R613, R621): a node with a fixed address is adopted, under its pod member number. -/
def status (addr : Nat) (m : StatusMsg) (s : State) : State :=
  downFrame addr 0 (fun t =>
    if addr = 0 ∨ 64 < addr then t
    else
      let n := addr - 1
      let was := t.get MGR_NODE_STATE n
      let worse : Bool := m.lost != 0 || m.unrec != 0
      let st := if was = 3 then 3 else if worse then 2 else 1
      let newly := m.loadok && !t.on MGR_NODE_LOADOK n
      let t := if was = 0 then t.set MGR_NODE_POD n (podNumber n t) else t
      let t := t.setMany n [(MGR_NODE_STATE, st), (MGR_NODE_LOADOK, m.loadok.toNat), (MGR_NODE_USED, m.used.toNat),
        (MGR_CWANT, m.want.toNat), (MGR_CHELD, m.held.toNat), (MGR_CLOST, m.lost.toNat), (MGR_CDEGR, m.degr.toNat),
        (MGR_CUNREC, m.unrec.toNat), (MGR_CNEXT, m.nextSeq.toNat)]
      let t := if st = 2 && was != 2 then pulse 337 n t else t
      let t := if m.locked then loseWorker n t else t
      let t := if newly then setGrant n (Nat.min (t.get MGR_NODE_GRANT n) (runGrant n t)) t else t
      let t := if m.safeSeen then harvestChild n t else t
      showMgr (serveWants t)) s

/-- ACK: the reply to a grant names the tokens in use. -/
def ack (addr value : Nat) (s : State) : State :=
  match s.dnQ with
  | r :: _ => if r.addr = addr then
      downFrame addr r.typ (fun t => if r.typ = 3 && 1 ≤ addr && addr ≤ 64 then showMgr (t.set MGR_NODE_USED (addr - 1) value) else t) s
    else downFrame addr 2 (fun t => t) s
  | [] => downFrame addr 2 (fun t => t) s

/-- WORKER_SILENT (R603). -/
def workerSilent (n : Nat) (s : State) : State := if s.is GLB_ROLE_ROLE 0 2 then showMgr (loseWorker n s) else s

/-! ## Roll-out of a flacon, as the master (R620) -/

/-- The roll-out serves a child: a worker by peer commands, a manager by FWCTL. -/
def fwServe (n : Nat) (s : State) : State :=
  let t := s.set MGR_FWACT n 1
  if t.is GLB_ROLE_LEVEL 0 1 then peerSend n 0 (.firmware false) 0 0 0 t else claikSend (n + 1) 7 (bytesOf 1 0) t

/-- Workers whose peer commands have ended are done. -/
def fwClear (s : State) : State :=
  if !s.is GLB_ROLE_LEVEL 0 1 then s
  else forBelow 64 (fun n t =>
    if t.peers.any fun p => p.slot == n && (p.kind == .firmware false || p.kind == .firmware true) then t else t.set MGR_FWACT n 0) s

/-- The roll-out goes on: in ascending slot order, with at most PAR children at once. -/
def fwStep (s : State) : State :=
  if !s.on MGR_FW_BUSY 0 then s
  else
    let t := (List.range 64).foldl (fun t n =>
      let t := fwClear t
      if t.get MGR_FWNEXT 0 = n && decide ((List.range 64).countP (fun i => t.on MGR_FWACT i) < Nat.max 1 (t.get MGR_FW_PAR 0)) then
        let u := t.set MGR_FWNEXT 0 (n + 1)
        if t.on MGR_NODE_STATE n && !isLost n t then fwServe n u else u
      else t) s
    let t := fwClear t
    if t.is MGR_FWNEXT 0 64 && (List.range 64).all fun n => !t.on MGR_FWACT n then t.set MGR_FW_BUSY 0 0 else t

/-- MGR_FW_GO: the flacon is broadcast to child managers, whose chunks are one frame here (log entry 39), and the children are
served. -/
def mgrFwGo (s : State) : State :=
  if !masterOn s || s.on MGR_FW_BUSY 0 then s
  else
    let t := forBelow 64 (fun n u => u.set MGR_FWACT n 0) (s.setMany 0 [(MGR_FW_BUSY, 1), (MGR_FW_FAIL, 0), (MGR_FWNEXT, 0)])
    fwStep (if t.is GLB_ROLE_LEVEL 0 1 then t else claikCast 6 [] t)

/-- FWSTAT: missing chunks are sent again and asked for again; a complete flacon is committed; the result ends the child's turn. -/
def fwstat (addr : Nat) (missing : List Nat) (verified : Bool) (s : State) : State :=
  let commit := s.dnQ.any fun r => r.addr == addr && r.typ == 7 && r.payload == bytesOf 1 1
  downFrame addr 7 (fun t =>
    if addr = 0 ∨ 64 < addr ∨ !(t.on MGR_FWACT (addr - 1)) then t
    else if !missing.isEmpty then
      claikSend addr 7 (bytesOf 1 0) (missing.foldl (fun u o => claikCast 6 (bytesOf 4 o) u) t)
    else if !commit then claikSend addr 7 (bytesOf 1 1) t
    else
      let u := if verified then t else t.addSat MGR_FW_FAIL 0 1
      fwStep (u.set MGR_FWACT (addr - 1) 0)) s

/-- CLAIK_REPLY_TIMEOUT (R595, R598): the request is repeated up to twice; a poll that fails three times in a row fires source 307. -/
def claikTimeout (s : State) : State :=
  match s.dnQ with
  | [] => s
  | r :: q =>
    if r.tries < 2 then sendFront ({ s with dnQ := { r with tries := r.tries + 1 } :: q }.bump CLB_RETRY_REPEATS 0)
    else
      let t := sendFront { s with dnQ := q }
      let n := r.addr - 1
      if r.addr = 0 ∨ 64 < r.addr then t
      else if r.typ = 0 then
        let u := t.addSat MGR_NODE_MISSED n 1
        if u.is MGR_NODE_MISSED n 3 then raise 307 r.addr u else u
      else if r.typ = 7 && t.on MGR_FWACT n then fwStep ((t.set MGR_FWACT n 0).addSat MGR_FW_FAIL 0 1)
      else t

/-- RECORD (R621): the entries enter the ring, whose oldest give way. -/
def record (addr : Nat) (entries : List (BitVec 256)) (s : State) : State :=
  downFrame addr 8 (fun t =>
    if addr = 0 ∨ 64 < addr then t
    else
      let n := addr - 1
      let h := t.harvest ++ entries.map fun e => (t.get MGR_NODE_POD n, t.timeUs, e)
      let t := { t with harvest := h.drop (h.length - 16384 * t.get MGR_HARV_SIZE 0) }
      harvestChild n (t.set MGR_CSEQ n (t.get MGR_CSEQ n + entries.length))) s

/-! ## RUN (R601, R605) -/

/-- Zones of the shelf. -/
def shelfZones (s : State) : Nat :=
  Nat.min 131072 (popCount s.memberMask * ((shelfAlloc s - shelfSpare s) / shelfG s) / Nat.max 1 s.w)

/-- The first step of a worker's bring-up (R601): its admin queues are set and CC.EN with them, by writes to its controller registers. -/
def queueSetup (n : Nat) (s : State) : State := s.emit (.peer ⟨n, 0, 0, .setup 0, 0, 0, 0, 0, true⟩)

/-- MGR_RUN (R11, R601, R605): a row or pod manager has no workers to bring up. -/
def mgrRun (run : Bool) (nzw zsw : Nat) (s : State) : State :=
  if !s.is GLB_ROLE_ROLE 0 2 then s
  else if !run || noMembers s then showMgr (s.set MGR_CTL_RUN 0 run.toNat)
  else
    let t := s.setMany 0 [(MGR_CTL_RUN, 1), (MGR_WNZ, nzw), (MGR_WZS, zsw)]
    let t := t.setMany 0 [(MGR_NZS, shelfZones t), (NVQ_ZSZE, 2 ^ log2Up (t.k * shelfG t * 2 ^ zsw))]
    showMgr ((membersOf t.memberMask).foldl (fun u n =>
      if u.is MGR_NODE_STATE n 1 || u.is MGR_NODE_STATE n 2 then setupNext n 1 (queueSetup n (u.set MGR_UP n 0)) else u) t)

/-- VENDOR_DOORBELL (R602): outside the manager role it is ignored. A write is a barrier and marks the slot's completion queue for
service. -/
def vendorDoorbell (off : Nat) (s : State) : State :=
  if !s.is GLB_ROLE_ROLE 0 2 || off < 0x8000 || 0x9000 ≤ off then s
  else
    let slot := (off - 0x8000) / 0x40
    let q := off % 0x40 / 4
    let t := barrier s
    if q ≤ peerQueues t then showMgr (fwStep (serviceQueue slot q 33 t)) else t

/-- PEER_COMMAND_TIMEOUT (R603). -/
def peerCommandTimeout (slot attempts : Nat) (s : State) : State :=
  if s.is GLB_ROLE_ROLE 0 2 then showMgr (fwStep (peerTimeout slot attempts s)) else s

end Sys2Proof.Machine
end

