-- ==== Sys2Proof/Machine/Tables.lean ====
section
/-!
DEFINITION. The adaptive tables (R206, R579–R581): what each kind holds, its copies in NOR and in the system areas, applying them and
writing them back. Firmware's part is taken as done at once with the command that brings it about (log entry 43).
-/

namespace Sys2Proof.Machine

/-! ## What a kind holds (R579) -/

/-- The number of a kind, in the order of R579. -/
def TableKind.code : TableKind → Nat
  | .wiring => 0 | .angle => 1 | .spindle => 2 | .servo => 3 | .lane => 4 | .format => 5 | .defect => 6 | .placement => 7 | .retire => 8

/-- The kinds that a controller stores: a manager has no surfaces (R10, R579). -/
def tableKinds (s : State) : List TableKind :=
  if driveRole s then [.wiring, .angle, .spindle, .servo, .lane, .format, .defect, .placement, .retire] else [.placement, .retire]

/-- The kind has a copy in NOR. -/
def TableKind.inNor (k : TableKind) : Bool := k != .defect

/-- The kind has a copy on the media of a drive. -/
def TableKind.onMedia (k : TableKind) (s : State) : Bool := k != .retire && driveRole s

/-- The register fields of a kind. -/
def TableKind.fields : TableKind → List Field
  | .wiring => [ANG_PLT_CFG_SWAP, ANG_PLT_CFG_INV_S, ANG_PLT_CFG_INV_C, SPN_MOTOR_SWAP, SRV_VCMCFG_INV, HLK_CTL_SWAP_HINT,
      LAN_POL_RD_INV, LAN_POL_WR_INV, GLB_WIRING_CALDONE]
  | .angle => [ANG_PLT1_OFS, ANG_PLT_CFG_AMP_NOM, ANG_ECC, ANG_ECC1]
  | .spindle => [SPN_EOFS]
  | .servo => [SRV_WTAB, SRV_HOFS, SRV_HGAIN_PESCAL, SRV_HGAIN_MAGAIN, SRV_SAFE_GAIN, SRV_SAFE_CORNER, SRV_SAFE_BNOM,
      SRV_HTR_RDP, SRV_HTR_WRP, SRV_HTR_HMAX, SRV_HTR_CI_TGT, SRV_HTR2_LOOP, SRV_HTR2_KI, SRV_HTR2_WSETTLE, SRV_RVFF]
  | .lane => [LAN_AGC_GINIT, LAN_OFS_OINIT, LAN_ASYM_AINIT, LAN_PCMP_C0, LAN_PCMP_C1, LAN_PCMP_C2, LAN_PCMP_C3, LAN_WROFS]
  | .placement => [ACD_PLC_CRC]
  | .retire => [BUF_RMAP_PAGE, BUF_RMAP_VALID]
  | .format | .defect => []

/-- A register-file entry is of the kind. -/
def TableKind.holds (k : TableKind) (e : (Nat × Nat) × Nat) : Bool := k.fields.any fun f => f.id == e.1.1

/-- The commit groups that a kind's shadowed fields lie in. -/
def TableKind.groups : TableKind → List (ShBlk × Nat)
  | .wiring => [(.ang, 0), (.spn, 0), (.srv, 0), (.lan, 6)]
  | .angle => [(.ang, 0), (.ang, 1)]
  | .spindle => [(.spn, 2)]
  | .servo => [(.srv, 2), (.srv, 5), (.srv, 6)]
  | .lane => [(.lan, 0), (.lan, 3), (.lan, 5)]
  | _ => []

/-- The commit groups of a kind, with their instances. -/
def TableKind.commits (k : TableKind) : List (ShBlk × Nat × Nat) :=
  k.groups.flatMap fun p => (List.range (shInstances p.1)).map fun i => (p.1, i, p.2)

/-- The parts of DRAM that a kind holds: the descriptors and the lane loads they name (R133, R143), the placement table (R201). -/
def kindRanges (k : TableKind) (s : State) : List (Nat × Nat) :=
  match k with
  | .format => (if s.descs.isEmpty then [] else [(descAddr 0 s, 98304)]) ++ s.descs.flatMap fun d => d.2.zones.flatMap fun z => [(z.loadA, 52), (z.loadB, 52)]
  | .placement => [(plcBase s, 2097152)]
  | _ => []

/-- An address lies in one of the ranges. -/
def inRanges (l : List (Nat × Nat)) (a : Nat) : Bool := l.any fun r => decide (r.1 ≤ a) && decide (a < r.1 + r.2)

/-- The present contents of a kind. -/
def captureKind (k : TableKind) (s : State) : TableData :=
  { regs := s.regs.filter k.holds
    lmem := if k = .lane then s.lmem else []
    skips := if k = .defect then s.skips else []
    wins := if k = .defect then s.wins else []
    bytes := s.mem.filter fun e => inRanges (kindRanges k s) e.1 }

/-- The contents that go to NOR: of the RTT banks the active one (R579). -/
def TableData.forNor (d : TableData) (s : State) : TableData :=
  { d with lmem := d.lmem.filter fun e => 2 ≤ e.1 / 65536 % 16 || s.is LAN_RTTSEL_BANK (e.1 / 1048576) (e.1 / 65536 % 16) }

/-- A kind without contents. -/
def TableData.empty : TableData := ⟨[], [], [], [], []⟩

/-! ## Copies (R580) -/

/-- The contents as numbers. -/
def TableData.words (d : TableData) : List Nat :=
  d.regs.flatMap (fun e => [e.1.1, e.1.2, e.2]) ++ d.lmem.flatMap (fun e => [e.1, e.2])
    ++ d.skips.flatMap (fun e => [e.surface, e.track, e.slot, e.grown.toNat, e.defer.toNat])
    ++ d.wins.flatMap (fun e => [e.surface, e.track, e.slot, e.win.start, e.win.len]) ++ d.bytes.flatMap fun e => [e.1, e.2.toNat]

/-- A copy of contents. -/
def newCopy (gen : Nat) (d : TableData) : TableCopy := ⟨gen, Config.tableCrc d.words, d⟩

/-- The CRC of a copy matches. -/
def TableCopy.valid (c : TableCopy) : Bool := c.crc == Config.tableCrc c.data.words

/-- The valid copy with the highest generation under the given keys, with its key. -/
def newestCopy (m : NMap TableCopy) (keys : List Nat) : Option (Nat × TableCopy) :=
  (keys.filterMap fun x => (m.find x).map fun c => (x, c)).foldl (fun b e =>
    if !e.2.valid then b
    else match b with
      | none => some e
      | some p => if p.2.gen < e.2.gen then some e else some p) none

/-- The keys of the two NOR areas of a kind. -/
def norKeys (k : TableKind) : List Nat := [k.code, 16 + k.code]

/-- The keys of the two slots of a member for a kind. -/
def slotKeys (x : Nat) (k : TableKind) : List Nat := [32 * x + k.code, 32 * x + 16 + k.code]

/-- The members whose system areas hold the media copy: the two lowest of each stack that are not LOST (R579). -/
def tableHomes (s : State) : List Nat := (stackMembers 0 s).take 2 ++ (stackMembers 1 s).take 2

/-- The keys of the media copies of a kind. -/
def mediaKeys (k : TableKind) (s : State) : List Nat := (tableHomes s).flatMap fun x => slotKeys x k

/-- The generation of a copy, 0 without one. -/
def copyGen (c : Option (Nat × TableCopy)) : Nat := (c.map fun e => e.2.gen).getD 0

/-! ## Applying (R206, R580) -/

/-- Register-file entries of a kind are replaced. -/
def putFields (k : TableKind) (p : Field → Bool) (d r : RegFile) : RegFile :=
  let own (e : (Nat × Nat) × Nat) : Bool := k.fields.any fun f => f.id == e.1.1 && p f
  (d.filter own).foldl (fun a e => a.put e.1.1 e.1.2 e.2) (r.filter fun e => !own e)

/-- The kind's fields of a group instance differ between the two copies. -/
def groupDiffers (k : TableKind) (c : ShBlk × Nat × Nat) (s : State) : Bool :=
  (groupFields c.1 c.2.1 c.2.2).any fun e => (k.fields.any fun f => f.id == e.1.id) && s.getSh e.1 e.2 != s.get e.1 e.2

/-- Shadowed fields go to their blocks through group commit (R580); until configuration is complete they swap at once (R57). -/
def commitKind (k : TableKind) (s : State) : State :=
  k.commits.foldl (fun t c => if groupDiffers k c s then groupCommit c.1 c.2.1 c.2.2 false t else t) s

/-- The bytes of a kind go to DRAM. -/
def putBytes (k : TableKind) (d : TableData) (s : State) : State :=
  let l := kindRanges k s
  { s with mem := d.bytes.foldl (fun m e => m.write e.1 e.2) (s.mem.clear (inRanges l)) }

/-- The contents of a copy are applied; a placement table that has been loaded is checked, its CRC-32 against the stored one (R206). -/
def loadKind (k : TableKind) (d : TableData) (s : State) : State :=
  match k with
  | .lane => commitKind k { s with shadow := putFields k (fun f => f.acc.shadowed) d.regs s.shadow, lmem := d.lmem }
  | .defect => { s with skips := d.skips, wins := d.wins }
  | .format => putBytes k d s
  | .placement =>
    let t := putBytes k d s
    checkTable (plcCrc t == d.regs.get ACD_PLC_CRC 0) t
  | _ => commitKind k { s with
      regs := putFields k (fun f => !f.acc.shadowed) d.regs s.regs, shadow := putFields k (fun f => f.acc.shadowed) d.regs s.shadow }

/-- The NOR copies are applied (R580, step 7 of R568). -/
def applyNor (s : State) : State :=
  forAll (tableKinds s) (fun k t => match newestCopy t.tables.nor (norKeys k) with
    | some e => loadKind k e.2.data t
    | none => t) { s with tables := { s.tables with stage := 1 } }

/-- The media copy is read: every kind whose generation there is higher is applied (R580). -/
def applyMedia (s : State) : State :=
  forAll ((tableKinds s).filter fun k => k.onMedia s) (fun k t =>
    match newestCopy t.tables.media (mediaKeys k t) with
    | some e => if copyGen (newestCopy t.tables.nor (norKeys k)) < e.2.gen then loadKind k e.2.data t else t
    | none => t) { s with tables := { s.tables with stage := 2 } }

/-! ## Writing back (R580) -/

/-- A commit of the kind waits for its boundary. -/
def committing (k : TableKind) (s : State) : Bool := k.commits.any fun c => s.bit (pendF c.1) c.2.1 c.2.2

/-- The media can be read and written by firmware (R585). -/
def mediaReadable (s : State) : Bool := s.on SPN_STATE_LOADOK 0 && driveRole s && headsLoaded s

/-- A copy goes to the slot of a home that does not hold its newest one (R579). -/
def writeHome (k : TableKind) (c : TableCopy) (s : State) (x : Nat) : State :=
  let e := newestCopy s.tables.media (slotKeys x k)
  if copyGen e = c.gen then s
  else
    let i := if e.any (fun p => p.1 == 32 * x + k.code) then 16 else 0
    { s with tables := { s.tables with media := s.tables.media.put (32 * x + i + k.code) c } }

/-- NOR may be written for the kind now: not during a dump (R559), and for SERVO and LANE at most once per hour (R580). -/
def norDue (k : TableKind) (s : State) : Bool :=
  s.dumps.isEmpty && k.inNor && (!(k == .servo || k == .lane)
    || (s.tables.norAt.find k.code).all fun n => decide (n + 3600000000000 ≤ s.aonNs))

/-- A copy goes to the NOR area not in use. -/
def writeNor (k : TableKind) (c : TableCopy) (s : State) : State :=
  let e := newestCopy s.tables.nor (norKeys k)
  if copyGen e = c.gen || !norDue k s then s
  else
    let i := if e.any (fun p => p.1 == k.code) then 16 else 0
    { s with tables := { s.tables with
        nor := s.tables.nor.put (i + k.code) (newCopy c.gen (c.data.forNor s)), norAt := s.tables.norAt.put k.code s.aonNs } }

/-- The newest copy of a kind, the media copy before that in NOR. -/
def newestKind (k : TableKind) (s : State) : Option TableCopy :=
  match (if k.onMedia s then newestCopy s.tables.media (mediaKeys k s) else none), newestCopy s.tables.nor (norKeys k) with
  | some a, some b => some (if a.2.gen < b.2.gen then b.2 else a.2)
  | some a, none => some a.2
  | none, b => b.map (·.2)

/-- The copy that a kind's present contents ask for: the newest one, or one of the next generation. -/
def wantedCopy (k : TableKind) (s : State) : Option TableCopy :=
  let d := captureKind k s
  match newestKind k s with
  | some c => some (if c.data = d then c else newCopy (c.gen + 1) d)
  | none => if d = TableData.empty then none else some (newCopy 1 d)

/-- A kind that has changed is written, the media copy first (R580). A placement table that has not passed its checks is not stored. -/
def saveKind (k : TableKind) (s : State) : State :=
  if committing k s || (k.onMedia s && !(s.tables.stage == 2 && mediaReadable s)) || (k == .placement && !s.on ACD_PLC_STS_VALID 0) then s
  else match wantedCopy k s with
    | none => s
    | some c => writeNor k c (if k.onMedia s then (tableHomes s).foldl (writeHome k c) s else s)

/-- What has changed in the adaptive tables is written, after configuration-complete. -/
def settleTables (s : State) : State :=
  if !s.on GLB_BOOT_CFGDONE 0 || s.tables.stage == 0 then s else forAll (tableKinds s) saveKind s

/-- Step 7 of R585, before the checkpoint is read and the accord engine runs: the media copy is read. -/
def readTables (s : State) : State := if s.tables.stage == 1 && mediaReadable s then applyMedia s else s

/-- CONFIGURATION_COMPLETE (R498, R568, R570, R574, R580): firmware has applied the NOR copy before it signals it. -/
def signalComplete (s : State) : State :=
  let t := configurationComplete (applyNor s)
  if !s.on GLB_BOOT_CFGDONE 0 && t.on GLB_BOOT_CFGDONE 0 then t else s

end Sys2Proof.Machine
end

