-- ==== Sys2Proof/Machine/Signals.lean ====
section
/-!
DEFINITION. What enters by the pins (spec/14_signals_package.md, spec/15_electrical.md): the regulator's bus, the test access port, the
reference clocks and the watchdogs; and which commands reach a block at all.
-/

namespace Sys2Proof.Machine

/-! ## Commands that reach their block -/

/-- A block that is held in reset or powered off takes no command (R565, R644, R661; log entry 40). -/
def reaches (blk : Nat) (s : State) : Bool := !inReset s && !poweredOff blk s

/-- A command of block `blk`. -/
def onBlock (blk : Nat) (f : State → State) (s : State) : State := if reaches blk s then f s else s

/-- A command of the angle block, which lies in the always-on domain (R663). -/
def onAngle (f : State → State) (s : State) : State := if aonDown s || poweredOff 1 s then s else f s

/-- A command of the rest of the always-on domain. -/
def onAon (f : State → State) (s : State) : State := if aonDown s then s else f s

/-! ## Signals -/

/-- AVS_VOLTAGE_REQUEST (R630, R643): a set-point within 650–850 mV, at most 10 mV away, at most once per ms, and only while no lane
writes. Without a responding regulator nothing further is requested, and the set-point is 750 mV. -/
def avsRequest (mv : Nat) (responds : Bool) (s : State) : State :=
  let old := s.get PAD_AVS 0
  let early := s.on PAD_AVSMS 0 && decide (s.aonNs < s.get PAD_AVSMS 0 - 1 + 1000000)
  if s.on PAD_AVSOFF 0 || mv < 650 || 850 < mv || 10 < (mv - old) + (old - mv) || early
      || (List.range 48).any (fun l => s.on LAN_STS_WRITING l) then s
  else if responds then s.setMany 0 [(PAD_AVS, mv), (PAD_AVSMS, s.aonNs + 1)]
  else s.setMany 0 [(PAD_AVS, 750), (PAD_AVSOFF, 1), (PAD_AVSMS, s.aonNs + 1)]

/-- An instruction of the test access port (R635). -/
def tapTo (n : Nat) (s : State) : State := s.set PAD_TAP 0 n

/-- IDCODE (R635). -/
def tapIdcode (s : State) : State := (tapTo 1 s).emit (.tdo 0x2481234B)

/-- SAMPLE/PRELOAD (R635): the levels of the signals are shifted out, and the cells take a value. The levels are the board's, so they
are free. -/
def tapSample (v : Nat) (s : State) : State := ((tapTo 2 s).set PAD_SCAN 0 v).used.emit (.tdo s.free)

/-- REFERENCE_CLOCK_LOST (R537): source 6 for the 50 MHz clock, 7 for that of PCIe. -/
def clockLost (pcie : Bool) (s : State) : State := raise (if pcie then 7 else 6) 0xFF s

/-- REFERENCE_CLOCK_RETURN (R537, R552). -/
def clockReturn (pcie : Bool) (s : State) : State := lower (if pcie then 7 else 6) 0xFF s

/-- WATCHDOG_EXPIRY (R537, R541). -/
def watchdog (m : Nat) (s : State) : State := pulse (8 + m) 0xFF s

end Sys2Proof.Machine
end

