-- ==== Sys2Proof/Machine/Bus.lean ====
section
/-!
DEFINITION. Accesses to internal addresses by the management cores, the loop engine and the host's diagnostic window (R17, R18,
R655–R661), register by register; the host's requests to BAR0, BAR2 and BAR4 (R436, R437, R495–R500, R509, R510).
-/

namespace Sys2Proof.Machine

/-! ## Settling -/

/-- What follows within the media path: reads of rows that have ended, frames that cannot be written where they were to go, relocated frames
that are to be written. -/
def settleMedia (t : State) : State := shelfRelocs (fillRelocs (redirectLost (releaseHeld (settleRebuild (settleRecon t)))))

/-- What follows from a command that has taken the block from `s` to `t`: the adaptive tables are kept, the media path settles,
the spare bands are counted anew where a member has become LOST (R212), records that have been asked for, host commands, and the barrier that a completion is (R419). -/
def settle (s t : State) : State := settleBarrier s (hostEnd s (runRequests (respare s (settleMedia (settleTables t)))))

/-- The next state of a command: a command never changes the queue of those that wait. -/
def done (s t : State) : Host.Outcome State Fault Refusal := .next { t with pending := s.pending }

/-- A command of block `blk` after which the media path and the host side are settled. -/
def onMedia (blk : Nat) (f : State → State) (s : State) : State := if reaches blk s then settle s (f s) else s

/-- A read of a register of block `blk`: of one that is powered off it returns zero (R661). -/
def readOn (blk : Nat) (f : State → State) (s : State) : State :=
  if inReset s then s else if poweredOff blk s then s.ret 0 else f s

/-- What follows from a change of the angle sources: the source table of R35, then the pilot angle (R318). -/
def settleAngle (t : State) : State := pilotLoss (selectSource t)

/-! ## Fields by their access codes -/

/-- A write to a field by its access code (R17, R660). Request bits hold nothing; what they ask for is in `strobes`. -/
def writeField (f : Field) (i w v : Nat) (s : State) : State :=
  if !f.inWord w then s
  else match f.acc with
    | .rw => s.set f i (f.splice w v (s.get f i))
    | .rwl => if s.on GLB_BOOT_CFGDONE 0 then s else s.set f i (f.splice w v (s.get f i))
    | .w1c => s.set f i (s.get f i - (s.get f i &&& f.ones w v))
    | .w1s => s.set f i (s.get f i ||| f.ones w v)
    | _ => s

/-- A write to a register by the access codes of its fields. -/
def writeFields (r : RegDesc) (i w v : Nat) (s : State) : State := r.fields.foldl (fun t f => writeField f i w v t) s

/-- Apply `f` when bit `b` of the word is written 1. -/
def when1 (v b : Nat) (f : State → State) (s : State) : State := if v.testBit b then f s else s

/-! ## Registers whose write does more -/

/-- A write of `<BLK>_COMMIT` (R60, R64): group after group. -/
def writeCommit (b : ShBlk) (i v : Nat) (s : State) : State :=
  forBelow 8 (fun g t =>
    if v.testBit g then groupCommit b i g (v.testBit (8 + g)) t else if v.testBit (8 + g) then cancelGroup b i g t else t) s

/-- STOP as an order of the local policy (R617, R619): against a standing SPIN it is dropped and counted. -/
def stopOrder (s : State) : State := if s.on CLB_ORDER_SPIN 0 then s.bump MGR_ORD_LOST 0 else spnStop (placeFrontiers s)

/-- DRYDOWN as an order of the local policy (R617, R619). -/
def drydownOrder (s : State) : State := if s.on CLB_ORDER_SPIN 0 then s.bump MGR_ORD_LOST 0 else spnDrydown (placeFrontiers s)

/-- `SPN_CTL` (R359). -/
def writeSpnCtl (v : Nat) (s : State) : State :=
  when1 v 5 spnCal (when1 v 4 psuspClear (when1 v 3 spnPark (when1 v 2 drydownOrder (when1 v 1 stopOrder (when1 v 0 startOrder s)))))

/-- `SRVa_CTL` (R300): REQ 1 asks for a load, 2 for an unload. -/
def writeSrvCtl (a v : Nat) (s : State) : State :=
  let t := when1 v 2 (retractRequest a) s
  match v % 4 with
  | 1 => loadRequest a t
  | 2 => unloadRequest a t
  | _ => t

/-- `LPE_LDCTL` (R399). -/
def writeLdCtl (v : Nat) (s : State) : State :=
  when1 v 2 (imageCopy (bits v 1 1)) (when1 v 0 (imageLoad (bits v 1 1)) s)

/-- `LPE_SILu_CTL` (R397). -/
def writeSilCtl (u v : Nat) (s : State) : State := when1 v 18 (sillageStop u) (when1 v 17 (sillageForce u) (when1 v 16 (sillageArm u) s))

/-- `LPE_OUTCFGo.OVR` (R380). -/
def writeOutCfg (o v : Nat) (s t : State) : State :=
  if t.on LPE_OUTCFG_OVR o && !s.on LPE_OUTCFG_OVR o then fwOverrideSet o (t.get LPE_OVR o) t
  else if !v.testBit 17 && s.on LPE_OUTCFG_OVR o then fwOverrideRelease o t else t

/-- A write of `ACD_LOSE` (R199, R200, R250); in the manager role the member is a worker, whose commands end (R603). -/
def loseByWrite (v : Nat) (s : State) : State :=
  let x := bits v 0 6
  if driveRole s then acdLose v s
  else if bits v 8 8 = 0xA5 ∧ s.memberMask.testBit x then loseWorker x (s.setBit ACD_LOSEMASK 0 x true) else s

/-- `ACD_CTL` (R250). -/
def writeAcdCtl (v : Nat) (s : State) : State :=
  let t := if v.testBit 0 == s.on ACD_CTL_RUN 0 then s else if v.testBit 0 then reachPhase 9 (acdRun true (readTables s)) else acdRun false s
  let t := when1 v 1 placementGen t
  let t := if v.testBit 2 == s.on ACD_CTL_RBLD_HOLD 0 then t else rbldHold (v.testBit 2) t
  when1 v 4 acdCleanClr (when1 v 3 acdClean t)

/-- `MGR_CTL` (R622); the worker geometry is the one last given, and the seed of a round that firmware starts this way is free (log
entry 41). -/
def writeMgrCtl (v : Nat) (s : State) : State :=
  let t := if v.testBit 0 == s.on MGR_CTL_RUN 0 then s else mgrRun (v.testBit 0) (s.get MGR_WNZ 0) (s.get MGR_WZS 0) s
  let t := when1 v 1 (fun u => mgrDiscover (u.free % 256) u.used) t
  if v.testBit 2 == s.on MGR_SYNC_EN 0 then t else setSync (v.testBit 2) t

/-- At step 8 a drive without an upstream manager takes its standalone grant (R584). One that has no Claik address of its own has none. -/
def standaloneGrant (s : State) : State :=
  if driveRole s && !s.on CLB_FIXED 0 && s.is CLB_NODE_ADDR 0 0x7E && s.on SPN_GSTD 0 then s.set SPN_TOKENS_GRANT 0 (s.get SPN_GSTD 0) else s

/-- `NVQ_CTL.RUN` (R488, R568, R584). -/
def runHost (run : Bool) (s : State) : State := if run then standaloneGrant (reachPhase 8 (nvqRun true s)) else nvqRun false s

/-- `HLKa_CTL` (R137). -/
def writeHlkCtl (a v : Nat) (s : State) : State :=
  let t := s.set HLK_CTL_SWAP_HINT a (bits v 2 1)
  let t := if v.testBit 0 then hlkEnable a t else hlkDisable a t
  when1 v 1 (hlkTrain a) t

/-- A request for a lane state (R68, R477): one for ACTIVE is not taken up while the power state's lane limit is reached (log
entry 37). -/
def laneRequest (l req : Nat) (s : State) : State :=
  let going := (List.range 48).countP fun n => n != l && (s.is LAN_STS_STATE n 2 || (s.is LAN_STS_STATE n 3 && s.is LAN_TO n 2))
  if req = 2 && decide (laneLimit (s.get NVQ_STS_PS 0) ≤ going) then s else laneStateRequest l req s

/-- `LANn_CTL` (R131). -/
def writeLanCtl (l v : Nat) (s : State) : State :=
  let t := if v.testBit 2 == s.on LAN_CTL_OOS l then s else laneOos l (v.testBit 2) s
  laneRequest l (v % 4) t

/-- `FLT_SEVn` (R539, R560): SEV of a locked source does not change. -/
def writeSev (r : RegDesc) (n v : Nat) (s : State) : State :=
  let t := writeFields r n 0 v s
  if s.on FLT_SEV_LOCK n then t.set FLT_SEV_SEV n (s.get FLT_SEV_SEV n) else t

/-- What a write of word `w` of instance `i` of register `r` does beside, or in place of, the access codes: `t` is the state after the
access codes have taken effect. -/
def strobes (r : RegDesc) (i w v : Nat) (s t : State) : State :=
  match r.blk, r.off with
  | 0, 0x001C => heldStraps s (rstctl v) s
  | 0, 0x0024 => when1 v 0 signalComplete t
  | 1, 0x0008 => writeCommit .ang 0 v t
  | 1, 0x1000 => cmpWrite i w v s
  | 2, 0x0000 => writeSpnCtl v t
  | 2, 0x0008 => writeCommit .spn 0 v t
  | 2, 0x0010 => speedTargetWrite (v % 65536) s
  | 3, 0x0000 => writeSrvCtl i v t
  | 3, 0x0008 => writeCommit .srv i v t
  | 3, 0x0070 => seekRunAhead i v s
  | 3, 0x00A4 => srvMemdatWrite i v s
  | 3, 0x0408 => targetWrite i v s
  | 4, 0x0000 => if v.testBit 0 == s.on LPE_CTL_RUN 0 then t else lpeRun (v.testBit 0) (t.set LPE_CTL_RUN 0 (s.get LPE_CTL_RUN 0))
  | 4, 0x0008 => writeCommit .lpe 0 v t
  | 4, 0x0030 => writeLdCtl v (t.set LPE_LDCTL_REGION 0 (if s.on LPE_LDCTL_BUSY 0 then s.get LPE_LDCTL_REGION 0 else bits v 1 1))
  | 4, 0x0040 => lpeTrig (i == 1) v t
  | 4, 0x0048 => lpeKill (i == 1) v t
  | 4, 0x0800 => writeOutCfg i v s t
  | 4, 0x0C00 => if s.on LPE_OUTCFG_OVR i then fwOverrideSet i v t else t
  | 4, 0x1214 => writeSilCtl i v t
  | 5, 0x0000 => writeLanCtl i v s
  | 5, 0x0008 => writeCommit .lan i v t
  | 5, 0x00A4 => lanMemdatWrite i v s
  | 7, 0x0000 => when1 v 1 raDrop (if v.testBit 0 == s.on FMT_CTL_RUN 0 then s else fmtRun (v.testBit 0) s)
  | 7, 0x0008 => writeCommit .fmt 0 v t
  | 8, 0x0000 => writeAcdCtl v s
  | 8, 0x0008 => writeCommit .acd 0 v t
  | 8, 0x0048 => loseByWrite v s
  | 9, 0x0000 => when1 v 1 bufFence t
  | 9, 0x0034 => retireGo v s
  | 9, 0x0070 => dmaResume (v % 65536) s
  | 9, 0x0080 => if s.on NVQ_UNLOCK 0 then t else s
  | 9, 0x0084 => diagWrite v s
  | 10, 0x0014 => when1 v 2 freezeRelease (when1 v 1 egressFreeze t)
  | 11, 0x0000 => if v.testBit 0 == s.on NVQ_CTL_RUN 0 then t else runHost (v.testBit 0) (t.set NVQ_CTL_RUN 0 (s.get NVQ_CTL_RUN 0))
  | 12, 0x0000 => updateFaultN t
  | 12, 0x0008 => faultInject v s
  | 12, 0x0800 => writeSev r i v s
  | 13, 0x0000 => when1 v 0 bnrDump t
  | 13, 0x0048 => firmwareEntry v s
  | 14, 0x0000 => writeMgrCtl v s
  | 14, 0x0020 => if v.testBit 19 == s.on MGR_SYNC_EN 0 then driveSync t else setSync (v.testBit 19) t
  | 14, 0x0028 => when1 v 8 mgrFwGo t
  | 15, 0x0000 => writeHlkCtl i v s
  | 15, 0x0010 => setWen i v s
  | 15, 0x0014 => hlkRegcmdGo i v s
  | _, _ => t

/-- A write of a word of register space that has been let through (R17, R58, R63, R660, R661). -/
def writeReg (off v : Nat) (s : State) : State :=
  if poweredOff (off / 65536) s then s
  else match findReg off with
    | .nothing => s
    | .shadow r i w => writeShadow r i w v s
    | .active r i w =>
      if r.shadowed then strobes r i w v s (writeFields r i w v (writeShadow r i w v s))
      else strobes r i w v s (writeFields r i w v s)

/-! ## Reads with their side effects -/

/-- Capture the words 1 up to `n` of a register at offset `off`. -/
def captureWords (r : RegDesc) (i off : Nat) (s : State) : State :=
  (List.range (r.words - 1)).foldl (fun t k => { t with cap := t.cap.put (off + 4 * (k + 1)) (showWord r i (k + 1) s) }) s

/-- A read that clears the RC fields of the register (R17). -/
def readClear (r : RegDesc) (i w : Nat) (s : State) : State :=
  r.fields.foldl (fun t f => match f.acc with | .rc => if f.inWord w then t.set f i 0 else t | _ => t) (s.ret (showWord r i w s))

/-- Read a word of register space with its side effects. -/
def readReg (off : Nat) (s : State) : State :=
  if poweredOff (off / 65536) s then s.ret 0
  else match findReg off with
    | .nothing => s.ret 0
    | .shadow r i w => s.ret (s.shadowWord r i w)
    | .active r i w =>
      match r.blk, r.off with
      | 1, 0x0010 => stampLoRead s
      | 3, 0x00A4 => srvMemdatRead i s
      | 4, 0x0038 => lookReg off s
      | 4, 0x1308 => sildatRead s
      | 5, 0x00A4 => lanMemdatRead i s
      | 9, 0x0074 => readClear r i w (countTraffic 0 s)
      | 12, 0x0014 => { s.ret (s.get FLT_FIRST_LO 0) with cap := s.cap.put (off + 4) (s.get FLT_FIRST_HI 0) }
      | 13, 0x0020 => if i = 7 then bnrDat7Read s else s.ret (showWord r i w s)
      | _, _ =>
        if capturedPlace r w then lookReg off s
        else if !r.captured then readClear r i w s
        else captureWords r i off (s.ret (showWord r i 0 s))

/-! ## Internal addresses (R655, R656) -/

/-- The address lies in an SRAM that the cores may write word by word: instruction and data SRAM, zone state table, loop-engine data
memory. -/
def coreRam (a : Nat) : Bool :=
  decide (a < 0x400000) || (decide (0x1000000 ≤ a) && decide (a < 0x1800000)) || (decide (0x2000000 ≤ a) && decide (a < 0x2200000))
    || (decide (0x10400000 ≤ a) && decide (a < 0x10440000))

/-- The address lies in the format-sequencer store. -/
def fmtStore (a : Nat) : Bool := decide (0x11000000 ≤ a) && decide (a < 0x11040000)

/-- The address lies in buffer DRAM. -/
def inDram (a : Nat) : Bool := decide (dramBase ≤ a) && decide (a < dramBase + 0x800000000)

/-- The core of a master. -/
def masterCore : Master → Option (Fin 4)
  | .m0 => some 0
  | .m1 => some 1
  | .m2 => some 2
  | .m3 => some 3
  | _ => none

/-- The refusal of an access to an unmapped address (R656). -/
def refuseAccess (s : State) : State := pulse 243 0xFF s

/-- A word write by a management core. -/
def coreWrite (m : Fin 4) (a v : Nat) (s : State) : State :=
  match regOffset a with
  | some off => if off % 4 = 0 then writeReg off v s else refuseAccess s
  | none =>
    if coreRam a then { s with mem := s.mem.setWord a 4 v }
    else if controlStore a then pulse 226 0xFF s
    else if fmtStore a then fmtStoreWrite s
    else if inDram a then dramWrite (.core m) a (bytesOf 4 v) [] s
    else refuseAccess s

/-- A write by BAR4 (R500): only with the diagnostic unlock, otherwise discarded and counted. -/
def bar4Write (off v : Nat) (s : State) : State :=
  if s.on NVQ_UNLOCK 0 then writeReg off v s else s.bump PCI_CNT_BAR4_BAR4 0

/-- A core that is held in reset makes no access. An access of a core that a watchdog has stopped shows that another core has
restarted it (R541; log entry 41). -/
def coreAlive (m : Fin 4) (s : State) : Option State :=
  if s.on PAD_TEST 0 then none
  else if !s.on GLB_HELD m.val then some s
  else if s.on GLB_BOOT_RECOVERY 0 then none
  else some (s.set GLB_HELD m.val 0)

/-- REGISTER_WRITE (R17, R656–R661): a word write to an internal address by a master. -/
def registerWrite (m : Master) (a v : Nat) (s : State) : State :=
  match m with
  | .lpe => match regOffset a with
    | some off => if off % 4 = 0 then writeReg off v s else refuseAccess s
    | none => refuseAccess s
  | .bar4 => match regOffset a with
    | some off => if off < 0x100000 && off % 4 == 0 then bar4Write off v s else s
    | none => s
  | _ => match masterCore m with
    | some k => match coreAlive k s with
      | some t => coreWrite k a v t
      | none => s
    | none => s

/-- What follows from a register write that has taken the block from `s` to `t`: the angle sources, a media policy that waits, the media
path and the host side are settled. After a reset there is nothing to settle. -/
def afterWrite (off : Nat) (s t : State) : State := if off / 4 = 7 then t else settle s (stepPolicy (settleAngle t))

/-- A write of the loop engine into register space (R366, R370); beyond its windows the access is refused (R656). -/
def engineBus (off v : Nat) (s : State) : State :=
  afterWrite off s (if off < 0x110000 then writeReg (off / 4 * 4) v s else refuseAccess s)

/-- A read of the loop engine from register space (R366, R388, R656). -/
def engineRead (off : Nat) (s : State) : State :=
  if off < 0x110000 then readReg (off / 4 * 4) s else (refuseAccess s).ret 0

/-- A word read of an internal address outside register space (R370, R655, R656): an SRAM or buffer DRAM without an error, a word of a
loop-engine bank; what the format sequencer's store holds is not stated and is free (log entry 41). -/
def internalRead (a : Nat) (s : State) : State :=
  if coreRam a || inDram a then s.ret (s.mem.word a 4)
  else if controlStore a then s.ret (bits (NMap.get 0 s.cs (bankWord a s)) (32 * (a / 4 % 4)) 32)
  else if fmtStore a then s.used.ret (s.free % 2 ^ 32)
  else (refuseAccess s).ret 0

/-- A read by a core, at an internal address (R656, R657): `quiet` by the path without side effects (R500). -/
def registerRead (a : Nat) (quiet : Bool) (s : State) : State :=
  match regOffset a with
  | some off => if off % 4 ≠ 0 then (refuseAccess s).ret 0 else if quiet then lookReg off s else readReg off s
  | none => internalRead a s

/-- SHADOW_WRITE (R58, R63, R65): a write that lands in a shadow copy, at the register's own address or at that of the copy. -/
def shadowWrite (a v : Nat) (s : State) : State :=
  match regOffset a with
  | none => s
  | some off =>
    if poweredOff (off / 65536) s then s
    else match findReg off with
      | .active r i w => if r.shadowed then writeShadow r i w v s else s
      | .shadow r i w => writeShadow r i w v s
      | .nothing => s

/-- MULTIWORD_LOW_READ (R658): a read of the lowest word of a register that is captured whole. -/
def multiwordLowRead (a : Nat) (s : State) : State :=
  match regOffset a with
  | none => (refuseAccess s).ret 0
  | some off => readReg (off / 4 * 4) s

/-! ## The host's requests -/

/-- CAP (R437). The layout of the controller registers is that of NVMe 2.0 (PRESUMED, log entry 32). -/
def capValue : Nat :=
  32 + 2 ^ 16 + 2 * 2 ^ 24 + 2 ^ 36 + 0x41 * 2 ^ 37 + 4 * 2 ^ 52 + 2 ^ 57 + 3 * 2 ^ 59

/-- CMBSZ (R437). -/
def cmbsz (s : State) : Nat :=
  let size := if s.is GLB_ROLE_ROLE 0 2 then s.get NVQ_CMB_SIZE 0 / 2 else s.get NVQ_CMB_SIZE 0
  1 + 4 + 8 + 16 + 2 * 2 ^ 8 + size * 2 ^ 12

/-- A doubleword of the controller registers. -/
def nvmeWord (off : Nat) (s : State) : Nat :=
  match off with
  | 0x00 => capValue % 2 ^ 32
  | 0x04 => capValue / 2 ^ 32
  | 0x08 => 0x00020000
  | 0x0C | 0x10 => s.get NVQ_INTM 0
  | 0x14 => s.get NVQ_CC 0
  | 0x1C => s.get NVQ_STS_RDY 0 + s.get NVQ_CFS 0 * 2 + s.get NVQ_SHST 0 * 4 + s.get NVQ_NSSRO 0 * 16
  | 0x24 => s.get NVQ_AQA 0
  | 0x28 => s.get NVQ_ASQ 0 % 2 ^ 32
  | 0x2C => s.get NVQ_ASQ 0 / 2 ^ 32
  | 0x30 => s.get NVQ_ACQ 0 % 2 ^ 32
  | 0x34 => s.get NVQ_ACQ 0 / 2 ^ 32
  | 0x38 => 2
  | 0x3C => cmbsz s
  | 0x50 => s.get NVQ_CMBMSC 0 % 2 ^ 32
  | 0x54 => s.get NVQ_CMBMSC 0 / 2 ^ 32
  | 0x68 => 2 + 2 * 2 ^ 16
  | _ => 0

/-- A doubleword of BAR0 (R436, R496). -/
def bar0Word (off : Nat) (s : State) : Nat :=
  if off < 0x1000 then nvmeWord off s
  else if 0x2000 ≤ off ∧ off < 0x3040 then
    let v := (off - 0x2000) / 16
    match off % 16 with
    | 0 => s.get MSIX_ADDR v % 2 ^ 32
    | 4 => s.get MSIX_ADDR v / 2 ^ 32
    | 8 => s.get MSIX_DATA v
    | _ => s.get MSIX_MASK v
  else if 0x3800 ≤ off ∧ off < 0x3848 then
    (List.range 32).foldl (fun a b => let v := (off - 0x3800) * 8 + b
      if v < 260 then a + s.get MSIX_PBA v * 2 ^ b else a) 0
  else 0

/-- A write of CC (R438, R471, R472): EN first, then SHN. -/
def writeCc (v : Nat) (s : State) : State :=
  let old := s.get NVQ_CC 0
  let t :=
    if v.testBit 0 && !old.testBit 0 then ccEnable v s
    else if !v.testBit 0 && old.testBit 0 then (ccDisable s).set NVQ_CC 0 v
    else s.set NVQ_CC 0 v
  if bits v 14 2 = bits old 14 2 then t
  else match bits v 14 2 with
    | 1 => shutdownNormal t
    | 2 => shutdownAbrupt t
    | _ => t

/-- A write of a doubleword of the controller registers. -/
def nvmeWrite (off v : Nat) (s : State) : State :=
  let low (f : Field) := s.set f 0 (s.get f 0 / 2 ^ 32 * 2 ^ 32 + v)
  let high (f : Field) := s.set f 0 (s.get f 0 % 2 ^ 32 + v * 2 ^ 32)
  match off with
  | 0x0C => updateInta (s.set NVQ_INTM 0 (s.get NVQ_INTM 0 ||| v))
  | 0x10 => updateInta (s.set NVQ_INTM 0 (s.get NVQ_INTM 0 - (s.get NVQ_INTM 0 &&& v)))
  | 0x14 => writeCc v s
  | 0x1C => if v.testBit 4 then s.set NVQ_NSSRO 0 0 else s
  | 0x20 => if v = 0x4E564D65 then nvmSubsystemReset s else s
  | 0x24 => s.set NVQ_AQA 0 v
  | 0x28 => low NVQ_ASQ
  | 0x2C => high NVQ_ASQ
  | 0x30 => low NVQ_ACQ
  | 0x34 => high NVQ_ACQ
  | 0x50 => low NVQ_CMBMSC
  | 0x54 => high NVQ_CMBMSC
  | _ => s

/-- A write of a doubleword of the MSI-X table (R529). -/
def msixWrite (off v : Nat) (s : State) : State :=
  let n := (off - 0x2000) / 16
  match off % 16 with
  | 0 => s.set MSIX_ADDR n (s.get MSIX_ADDR n / 2 ^ 32 * 2 ^ 32 + v)
  | 4 => s.set MSIX_ADDR n (s.get MSIX_ADDR n % 2 ^ 32 + v * 2 ^ 32)
  | 8 => s.set MSIX_DATA n v
  | _ => if v.testBit 0 then s.set MSIX_MASK n 1 else msixUnmask n s

/-- A write of a doubleword of BAR0 (R436, R499, R602). -/
def bar0Write (off v : Nat) (s : State) : State :=
  if off < 0x1000 then nvmeWrite off v s
  else if off < 0x1808 then
    if off % 8 = 0 then sqTail ((off - 0x1000) / 8) v (barrier s) else cqHead ((off - 0x1000) / 8) v (barrier s)
  else if 0x2000 ≤ off ∧ off < 0x3040 then msixWrite off v s
  else if 0x8000 ≤ off ∧ off < 0x10000 then vendorDoorbell off s
  else s

/-- The internal address of a BAR2 access of `n` bytes, where it is not refused (R497). -/
def bar2Address (x n : Nat) (write : Bool) (s : State) : Option Nat :=
  let slot := bar2Size s / 64
  let w := x / slot
  if slot = 0 ∨ n = 0 ∨ s.get NVQ_CMB_SIZE 0 * 2 ^ 20 < x + n ∨ x / slot ≠ (x + n - 1) / slot ∨ 64 ≤ w then none
  else if !s.on PCI_WIN_EN w || (write && !s.on PCI_WIN_WREN w) then none
  else some (s.get PCI_WIN_BASE w * 16384 + x % slot)

/-- The bytes of a BAR2 read, line by line; a line that cannot be read is completed with free bytes (log entry 41). -/
def bar2Read (a n : Nat) : Nat → State → State × List (BitVec 8)
  | 0, s => (s, [])
  | k + 1, s =>
    if n = 0 then (s, [])
    else
      let p := a % 64
      let m := Nat.min n (64 - p)
      let t := dramRead .host (a - p) [] s
      let line := (a - p - dramBase) / 64
      let bad := match (decodeLine (s.get BUF_ECC_MODE 0) (lineErrors line [] s)).1 with
        | .uncorrectable | .poisoned => true
        | _ => false
      let u := if bad then t.used else t
      let bytes := if bad then (freeBytes t.fresh 64) else bytesOf 64 t.rdata
      let r := bar2Read (a + m) (n - m) k { u with rdata := s.rdata }
      (r.1, (bytes.drop p).take m ++ r.2)

/-- Poison the lines that a write touches (R510). -/
def poisonRange (a n : Nat) (s : State) : State :=
  let l0 := (a - dramBase) / 64
  forBelow ((a + n - 1 - dramBase) / 64 + 1 - l0) (fun i t => poisonLine (l0 + i) t) (barrier s)

/-- A memory request reaches the function: memory space is enabled and the function is in D0 (R510, R523). -/
def memoryOpen (s : State) : Bool := s.bit CFG_CMD 0 1 && !s.is CFG_PMSTATE 0 3

/-- A BAR0 access of a permitted form (R496). -/
def bar0Form (r : MemReq) : Bool := (r.len == 4 || r.len == 8) && r.off % r.len == 0 && decide (r.off + r.len ≤ 0x10000)

/-- The words of a write's data. -/
def reqWord (r : MemReq) (i : Nat) : Nat := ofBytes ((r.data.drop (4 * i)).take 4)

/-- The Unsupported Request answer to a read. -/
def refuseRead (s : State) : State := (unsupported s).emit (.cplOut 1 [])

/-- The lengths of the completions of a read of `n` bytes at `off` (R509): at most `mps` bytes each, ending at a Read Completion Boundary but
for the last. -/
def cplLengths (mps rcb : Nat) : Nat → Nat → Nat → List Nat
  | 0, _, n => [n]
  | k + 1, off, n => if n ≤ mps then [n] else
    let m := (off + mps) / rcb * rcb - off
    m :: cplLengths mps rcb k (off + m) (n - m)

/-- Complete a read in pieces (R494, R509). -/
def emitPieces : List Nat → List (BitVec 8) → State → State
  | [], _, s => s
  | n :: l, d, s => emitPieces l (d.drop n) (s.emit (.cplOut 0 (d.take n)))

/-- Max_Payload_Size in use (R494). -/
def payloadSize (s : State) : Nat := Nat.min 512 (128 * 2 ^ bits (s.get CFG_DEVCTL 0) 5 3)

/-- Answer a read of BAR2 or BAR4 (R509). -/
def completeRead (off : Nat) (d : List (BitVec 8)) (s : State) : State :=
  emitPieces (cplLengths (payloadSize s) (if s.bit CFG_LNKCTL 0 3 then 128 else 64) d.length off d.length) d s

/-- A request that the first lines of R510 take: malformed, with an ECRC error while the check is enabled, or of a kind that is not supported.
All but memory writes are answered. -/
def refusedRequest (r : MemReq) (read : Bool) (s : State) : Option State :=
  if r.malformed then some (aerUncorrectable 18 false s)
  else if r.ecrcBad && s.bit CFG_AERCTL 0 8 then some (aerUncorrectable 19 false s)
  else match r.kind with
    | .memory => none
    | .locked => some (if read then refuseRead s else unsupported s)
    | .io | .atomicOp => some (refuseRead s)

/-- Read `n` words of register space from `off` on without side effect (R500). -/
def lookWords : Nat → Nat → State → State × List (BitVec 8)
  | 0, _, s => (s, [])
  | n + 1, off, s =>
    let t := lookReg off s
    let x := lookWords n (off + 4) t
    (x.1, bytesOf 4 t.rdata ++ x.2)

/-- MEMORY_READ_REQUEST (R496, R497, R500, R509, R510). -/
def memoryRead (r : MemReq) (s : State) : State :=
  let s := linkAwake s
  match refusedRequest r true s with
  | some t => t
  | none =>
    if !memoryOpen s then refuseRead s
    else match r.bar.val with
    | 0 =>
      if !bar0Form r then refuseRead s
      else s.emit (.cplOut 0 ((List.range (r.len / 4)).flatMap fun i => bytesOf 4 (bar0Word (r.off + 4 * i) s)))
    | 2 => match bar2Address r.off r.len false s with
      | none => refuseRead (s.bump PCI_CNT_BAR4_BAR2 0)
      | some a =>
        let x := bar2Read a r.len (r.len / 64 + 2) s
        completeRead r.off x.2 x.1
    | 4 =>
      if r.off % 4 ≠ 0 ∨ r.len % 4 ≠ 0 ∨ r.len = 0 ∨ 64 < r.len ∨ 0x100000 < r.off + r.len then refuseRead s
      else
        let x := lookWords (r.len / 4) r.off s
        completeRead r.off x.2 (x.1.ret s.rdata)
    | _ => refuseRead s

/-- A write that reaches the register window of BAR4: it is no malformed or refused request, and memory space is open (R495, R510). -/
def reachesBar4 (r : MemReq) (s : State) : Bool :=
  r.bar.val == 4 && (refusedRequest r false (linkAwake s)).isNone && memoryOpen (linkAwake s)

/-- MEMORY_WRITE_REQUEST (R496, R497, R499, R500, R510). -/
def memoryWrite (r : MemReq) (s : State) : State :=
  let s := linkAwake s
  match refusedRequest r false s with
  | some t => t
  | none =>
    if !memoryOpen s then unsupported s
    else match r.bar.val with
    | 0 =>
      if !bar0Form r || r.data.length ≠ r.len then unsupported s
      else if r.ep then poisonedTlp s
      else forBelow (r.len / 4) (fun i t => bar0Write (r.off + 4 * i) (reqWord r i) t) s
    | 2 => match bar2Address r.off r.len true s with
      | none => unsupported (s.bump PCI_CNT_BAR4_BAR2 0)
      | some a =>
        let t := dramWrite .host a (r.data.take r.len) [] s
        if r.ep then poisonedTlp (poisonRange a r.len t) else t
    | 4 =>
      if r.off % 4 ≠ 0 ∨ r.len ≠ 4 ∨ r.data.length ≠ 4 ∨ 0x100000 ≤ r.off then unsupported s
      else if r.ep then poisonedTlp s
      else bar4Write r.off (reqWord r 0) s
    | _ => unsupported s

end Sys2Proof.Machine
end

