-- ==== Sys2Proof/Machine/AngleCmds.lean ====
section
/-!
DEFINITION. The meanings of the commands of the angle timebase and of the commit groups (spec/01_angle_timebase.md).
-/

namespace Sys2Proof.Machine

/-- PILOT_SAMPLE (R28, R29, R31, R34–R36, R43). -/
def execPilotSample (n : Fin 2) (phase : BitVec 10) (amp : BitVec 12) (clip sig rev : Bool) (rate : Word) (proj : Int) (s : State) :
    Host.Outcome State Fault Refusal :=
  done s (onAngle (fun t => pilotLoss (pilotSample n.val phase.toNat amp.toNat clip sig rev rate.toNat proj t)) s)

/-- ANGLE_CLOCK_CYCLE (R30, R37–R40, R42). AON time passes also while the angle block is powered off (R552). -/
def execAngleClockCycle (p : Int × Int) (s : State) : Host.Outcome State Fault Refusal :=
  done s (if aonDown s then s else if poweredOff 1 s then { s with aonNs := s.aonNs + 1 } else angleCycle p.1 p.2 s)

/-- INDEX_SIGNATURE (R26–R28, R43). -/
def execIndexSignature (n : Fin 2) (s : State) : Host.Outcome State Fault Refusal :=
  done s (onAngle (fun t => pilotLoss (indexSignature n.val t)) s)

/-- SENSOR_REQUALIFY (R38). -/
def execSensorRequalify (n : Fin 2) (s : State) : Host.Outcome State Fault Refusal :=
  done s (onAngle (fun t => pilotLoss (sensorRequalify n.val t)) s)

/-- STAMP_LO_READ (R41, R658). -/
def execStampLoRead (s : State) : Host.Outcome State Fault Refusal := done s (readOn 1 stampLoRead s)

/-- MULTIWORD_LOW_READ (R658). -/
def execMultiwordLowRead (addr : Addr) (s : State) : Host.Outcome State Fault Refusal :=
  done s (if inReset s then s else multiwordLowRead addr.toNat s)

/-- ANG_CMP_WRITE (R48–R50). -/
def execAngCmpWrite (n : Fin 256) (word : Fin 4) (v : Word) (s : State) : Host.Outcome State Fault Refusal :=
  done s (onBlock 1 (cmpWrite n.val word.val v.toNat) s)

/-- COMPARATOR_FIRE (R46, R47). -/
def execComparatorFire (n : Fin 256) (s : State) : Host.Outcome State Fault Refusal := done s (onAngle (comparatorFire n.val) s)

/-- What follows from a change of a group (R62, R486): the angle sources, a media policy that waits for its groups, the media path. -/
def settleGroup (s t : State) : State := settle s (stepPolicy (settleAngle t))

/-- GROUP_COMMIT (R60, R64). -/
def execGroupCommit (b : ShBlk) (i : Fin 48) (g : Fin 8) (cancel : Bool) (s : State) : Host.Outcome State Fault Refusal :=
  done s (onBlock (blkNum b) (fun t => settleGroup t (groupCommit b i.val g.val cancel t)) s)

/-- GROUP_CANCEL (R64). -/
def execGroupCancel (b : ShBlk) (i : Fin 48) (g : Fin 8) (s : State) : Host.Outcome State Fault Refusal :=
  done s (onBlock (blkNum b) (fun t => settleGroup t (cancelGroup b i.val g.val t)) s)

/-- SHADOW_WRITE (R58, R63, R65). -/
def execShadowWrite (addr : Addr) (v : Word) (s : State) : Host.Outcome State Fault Refusal :=
  done s (if inReset s then s else shadowWrite addr.toNat v.toNat s)

/-- DECISION_POINT (R61, R62). -/
def execDecisionPoint (b : ShBlk) (i : Fin 48) (g : Fin 8) (s : State) : Host.Outcome State Fault Refusal :=
  done s (onBlock (blkNum b) (fun t => settleGroup t (decisionPoint b i.val g.val t)) s)

/-- BOUNDARY_SWAP (R62). -/
def execBoundarySwap (b : ShBlk) (i : Fin 48) (g : Fin 8) (s : State) : Host.Outcome State Fault Refusal :=
  done s (onBlock (blkNum b) (fun t => settleGroup t (boundarySwap b i.val g.val t)) s)

end Sys2Proof.Machine
end

