-- ==== Sys2Proof/Machine/BootCmds.lean ====
section
/-!
DEFINITION. The meanings of the commands of start-up and configuration (spec/12_start_up_configuration.md) and of the pins
(spec/14_signals_package.md, spec/15_electrical.md).
-/

namespace Sys2Proof.Machine

/-- PWR_GOOD_RISE (R565, R568, R634). -/
def execPwrGoodRise (role bootcs recov testen : Bool) (s : State) : Host.Outcome State Fault Refusal :=
  done s (pwrGoodRise role bootcs recov testen s)

/-- PWR_GOOD_FALL (R644). -/
def execPwrGoodFall (s : State) : Host.Outcome State Fault Refusal := done s (pwrGoodFall s)

/-- RESET_N_ASSERT (R565). -/
def execResetNAssert (s : State) : Host.Outcome State Fault Refusal := done s (resetNAssert s)

/-- RESET_N_DEASSERT (R567). -/
def execResetNDeassert (role bootcs recov : Bool) (s : State) : Host.Outcome State Fault Refusal :=
  done s (resetNDeassert role bootcs recov s)

/-- GLB_WARM_RESET (R565, R590): a write of `GLB_RSTCTL` with WARM set. -/
def execGlbWarmReset (v : Word) (role bootcs recov : Bool) (s : State) : Host.Outcome State Fault Refusal :=
  done s (if inReset s || !v.toNat.testBit 0 then s else rstctl v.toNat role bootcs recov s)

/-- GLB_COLD_RESET (R565, R590): a write of `GLB_RSTCTL` with COLD set. -/
def execGlbColdReset (v : Word) (role bootcs recov : Bool) (s : State) : Host.Outcome State Fault Refusal :=
  done s (if inReset s || !v.toNat.testBit 1 then s else rstctl v.toNat role bootcs recov s)

/-- VDD_AON_LOW (R645, R667). -/
def execVddAonLow (s : State) : Host.Outcome State Fault Refusal := done s (vddAonLow s)

/-- VDD_AON_RETURN (R645). -/
def execVddAonReturn (role bootcs recov : Bool) (s : State) : Host.Outcome State Fault Refusal :=
  done s (vddAonReturn role bootcs recov s)

/-- FLACON_LOAD_DONE (R569, R571–R577, R586, R667). -/
def execFlaconLoadDone (dirA dirB : DirCopy) (slots : FlaconSlot × FlaconSlot) (areas : CfgArea × CfgArea) (custKey : Bool)
    (nor : Word) (readErr : Bool) (s : State) : Host.Outcome State Fault Refusal :=
  done s (flaconLoadDone dirA dirB slots areas custKey nor.toNat readErr s)

/-- DRAM_TRAINING_DONE (R412, R416, R435, R568, R569). -/
def execDramTrainingDone (fail : BitVec 4) (time : BitVec 16) (s : State) : Host.Outcome State Fault Refusal :=
  done s (dramTrainingDone fail.toNat time.toNat s)

/-- CONFIGURATION_COMPLETE (R498, R568, R570, R574, R580). -/
def execConfigurationComplete (s : State) : Host.Outcome State Fault Refusal := done s (signalComplete s)

/-- CFGDONE_TIMEOUT (R570). -/
def execCfgdoneTimeout (s : State) : Host.Outcome State Fault Refusal := done s (cfgdoneTimeout s)

/-- AVS_VOLTAGE_REQUEST (R630, R643). -/
def execAvsVoltageRequest (mv : Nat) (responds : Bool) (s : State) : Host.Outcome State Fault Refusal :=
  done s (onBlock 0 (avsRequest mv responds) s)

/-- BYPASS (R635). -/
def execBypass (s : State) : Host.Outcome State Fault Refusal := done s (tapTo 0 s)

/-- IDCODE (R635). -/
def execIdcode (s : State) : Host.Outcome State Fault Refusal := done s (tapIdcode s)

/-- SAMPLE_PRELOAD (R635). -/
def execSamplePreload (v : Nat) (s : State) : Host.Outcome State Fault Refusal := done s (tapSample v s)

/-- EXTEST (R635). -/
def execExtest (s : State) : Host.Outcome State Fault Refusal := done s (tapTo 3 s)

/-- CLAMP (R635). -/
def execClamp (s : State) : Host.Outcome State Fault Refusal := done s (tapTo 4 s)

/-- HIGHZ (R635). -/
def execHighz (s : State) : Host.Outcome State Fault Refusal := done s (tapTo 5 s)

end Sys2Proof.Machine
end

