-- ==== Sys2Proof/Machine/BufferCmds.lean ====
section
/-!
DEFINITION. The meanings of the commands of the buffer manager (spec/08_buffer_memory.md).
-/

namespace Sys2Proof.Machine

/-- A DMA channel that halts on the data of a command fails that command (R422). -/
def failOwner (who : BufMaster) (s t : State) : State :=
  match who with
  | .dma ch (some o) =>
    if t.bit BUF_DMAHALT 0 ch.val && !s.bit BUF_DMAHALT 0 ch.val then
      match cmdOf o.1 o.2 t with
      | some c => failCmd c .dataTransferError t
      | none => t
    else t
  | _ => t

/-- DRAM_READ (R403, R406, R413, R418, R421–R424). -/
def execDramRead (who : BufMaster) (addr : Addr) (errs : List ByteErr) (s : State) : Host.Outcome State Fault Refusal :=
  done s (onMedia 9 (fun t => afterRead who addr.toNat (failOwner who t (dramRead who addr.toNat errs t))) s)

/-- DRAM_WRITE (R403, R414, R417, R432). -/
def execDramWrite (who : BufMaster) (addr : Addr) (data : List Byte) (errs : List ByteErr) (s : State) :
    Host.Outcome State Fault Refusal :=
  done s (onMedia 9 (fun t => failOwner who t (dramWrite who addr.toNat data errs t)) s)

/-- SRAM_FILL_DONE (R410, R568). -/
def execSramFillDone (s : State) : Host.Outcome State Fault Refusal := done s (onBlock 9 sramFillDone s)

/-- BACKGROUND_FILL_PAGE (R412, R414, R415). -/
def execBackgroundFillPage (s : State) : Host.Outcome State Fault Refusal := done s (onBlock 9 backgroundFillPage s)

/-- MERGE_TIMEOUT (R419). -/
def execMergeTimeout (errs : List ByteErr) (s : State) : Host.Outcome State Fault Refusal := done s (onBlock 9 (mergeTimeout errs) s)

/-- BUF_FENCE (R419). -/
def execBufFence (s : State) : Host.Outcome State Fault Refusal := done s (onBlock 9 bufFence s)

/-- SCRUB_BLOCK (R427, R428). -/
def execScrubBlock (errs : List ByteErr) (s : State) : Host.Outcome State Fault Refusal := done s (onBlock 9 (scrubBlock errs) s)

/-- SRAM_SCRUB (R429). -/
def execSramScrub (found : List (SramKind × Nat × Bool)) (s : State) : Host.Outcome State Fault Refusal :=
  done s (onMedia 9 (sramScrub found) s)

/-- RETIRE_GO (R432). -/
def execRetireGo (v : Word) (s : State) : Host.Outcome State Fault Refusal := done s (onBlock 9 (retireGo v.toNat) s)

/-- RETIRE_DONE (R431–R433). -/
def execRetireDone (bad : List Nat) (s : State) : Host.Outcome State Fault Refusal := done s (onBlock 9 (retireDone bad) s)

/-- DMA_RESUME (R422). -/
def execDmaResume (mask : BitVec 16) (s : State) : Host.Outcome State Fault Refusal := done s (onMedia 9 (dmaResume mask.toNat) s)

/-- WCK2DQ_TRACKING (R402). -/
def execWck2dqTracking (s : State) : Host.Outcome State Fault Refusal := done s (onBlock 9 wck2dqTracking s)

/-- SRAM_READ (R409, R421, R422). -/
def execSramRead (k : SramKind) (addr : Addr) (who : BufMaster) (err : Fin 3) (s : State) : Host.Outcome State Fault Refusal :=
  done s (onMedia 9 (fun t => failOwner who t (sramRead k addr.toNat who err.val t)) s)

end Sys2Proof.Machine
end

