-- ==== Sys2Proof/Machine/NorWork.lean ====
section
/-!
DEFINITION. Firmware's operations on NOR while a dump has the xSPI controller (R559): they end preempted, and firmware repeats them after the
dump.
-/

namespace Sys2Proof.Machine

/-- A dump has the xSPI controller. -/
def norTaken (s : State) : Bool := !s.dumps.isEmpty

/-- An operation waits for the end of the dump, once. -/
def holdNor (w : NorWork) (s : State) : State := if s.norWait.contains w then s else { s with norWait := s.norWait ++ [w] }

/-- FIRMWARE_COMMIT once NOR is free (R473, R474, R588): in recovery boot an image that is written and activated starts by a warm reset. -/
def commitImage (cid : BitVec 16) (action slot : Nat) (imageOk isCfg : Bool) (s : State) : State :=
  let t := onMedia 11 (withCmd 0 cid 0x10 (firmwareCommit action slot imageOk isCfg)) s
  let ran := match cmdOf 0 cid s with
    | some c => c.op == 0x10 && c.phase == .fetched
    | none => false
  if ran && s.on GLB_BOOT_RECOVERY 0 && action == 3 && imageOk && (isCfg || slot == 1 || slot == 2) then
    heldStraps t (warmReset 5) t
  else t

/-- A Firmware Commit writes NOR: it is not refused for its action, slot or image (R473, R588). -/
def commitWrites (action slot : Nat) (imageOk isCfg : Bool) (s : State) : Bool :=
  let cfg := isCfg && s.on GLB_BOOT_RECOVERY 0
  decide (action ≤ 3) && (cfg || slot == 1 || slot == 2) && (action == 2 || imageOk) && (cfg || !isCfg)

/-- FIRMWARE_COMMIT as it comes. -/
def beginCommit (cid : BitVec 16) (action slot : Nat) (imageOk isCfg : Bool) (s : State) : State :=
  if norTaken s && commitWrites action slot imageOk isCfg s then
    (match cmdOf 0 cid s with
      | some c => if c.op = 0x10 ∧ c.phase = .fetched then holdNor (.commit cid action slot imageOk isCfg) s else s
      | none => s)
  else commitImage cid action slot imageOk isCfg s

/-- FWCTL_COMMIT as it comes: during a dump the reply waits; a repeated sequence number is answered as before (R595). -/
def beginFwctl (addr seq : Nat) (ok : Bool) (s : State) : State :=
  if norTaken s && ok && (missingChunks s).isEmpty && (addr == 0x7F || !s.is CLB_LAST 0 (seq + 1)) then
    upFrame addr (holdNor (.fwctl addr seq)) s
  else fwctlCommit addr seq ok s

/-- Firmware repeats an operation. -/
def repeatNor (w : NorWork) (s : State) : State :=
  match w with
  | .commit cid action slot imageOk isCfg => commitImage cid action slot imageOk isCfg s
  | .fwctl addr seq => onMedia 16 (fwctlAgain addr seq) s

/-- The operations that wait are repeated when no dump runs; a reset that one of them brings about ends the others. -/
def repeatAll : List NorWork → State → State
  | [], s => s
  | w :: l, s =>
    let t := repeatNor w s
    if s.on GLB_BOOT_RECOVERY 0 && !t.on GLB_BOOT_RECOVERY 0 then t else repeatAll l t

/-- What follows when a dump has ended. -/
def norFree (s : State) : State := if norTaken s then s else repeatAll s.norWait { s with norWait := [] }

end Sys2Proof.Machine
end

