-- ==== Sys2Proof/Machine/FaultCmds.lean ====
section
/-!
DEFINITION. The meanings of the commands of the fault collector and of the base-note record (spec/11_faults_record.md), and of the
signals that reach them (spec/14_signals_package.md, spec/15_electrical.md).
-/

namespace Sys2Proof.Machine

/-- An event of the collector, which lies in the always-on domain; what it brings about is settled unless the other domains are in
reset. -/
def onCollector (f : State → State) (s : State) : State :=
  if aonDown s then s else if inReset s then f s else settle s (settleAngle (f s))

/-- RAIL_MONITOR_TRIP (R537, R645). -/
def execRailMonitorTrip (r : Rail) (s : State) : Host.Outcome State Fault Refusal := done s (onCollector (railTrip r) s)

/-- RAIL_MONITOR_CLEAR (R537, R645). -/
def execRailMonitorClear (r : Rail) (s : State) : Host.Outcome State Fault Refusal := done s (onCollector (railClear r) s)

/-- MACERATION_EXPIRY (R544, R548, R549): where the safe state is left, a standing order is brought about (R619). -/
def execMacerationExpiry (n : Fin 512) (s : State) : Host.Outcome State Fault Refusal :=
  done s (onCollector (fun t =>
    let u := macerationExpiry n.val t
    if t.on FLT_SAFE_ACTIVE 0 && !u.on FLT_SAFE_ACTIVE 0 then applyOrders u else u) s)

/-- RECOVERY_WINDOW_CLOSE (R549). -/
def execRecoveryWindowClose (n : Fin 512) (s : State) : Host.Outcome State Fault Refusal := done s (onAon (recoveryWindowClose n.val) s)

/-- FAULT_INJECT (R538). -/
def execFaultInject (v : Word) (s : State) : Host.Outcome State Fault Refusal :=
  done s (if inReset s then s else onCollector (faultInject v.toNat) s)

/-- FIRST_CAPTURE_REARM (R546). -/
def execFirstCaptureRearm (s : State) : Host.Outcome State Fault Refusal := done s (if inReset s then s else firstCaptureRearm s)

/-- BNR_FIRMWARE_ENTRY (R555). -/
def execBnrFirmwareEntry (v : Word) (s : State) : Host.Outcome State Fault Refusal :=
  done s (if inReset s then s else firmwareEntry v.toNat s)

/-- BNR_DAT7_READ (R551). -/
def execBnrDat7Read (s : State) : Host.Outcome State Fault Refusal := done s (if inReset s then s else bnrDat7Read s)

/-- BNR_DUMP (R556, R558). -/
def execBnrDump (s : State) : Host.Outcome State Fault Refusal := done s (if inReset s then s else onCollector bnrDump s)

/-- DUMP_COMPLETE (R557–R559, R667): firmware then repeats what the dump has preempted. -/
def execDumpComplete (s : State) : Host.Outcome State Fault Refusal :=
  let t := onCollector dumpComplete s
  done s (if inReset t then t else norFree t)

/-- DIE_TEMPERATURE_TRIP (R481, R654). -/
def execDieTemperatureTrip (celsius : Int) (s : State) : Host.Outcome State Fault Refusal :=
  done s (onCollector (dieTemperature celsius) s)

/-- REFERENCE_CLOCK_LOST (R537). -/
def execReferenceClockLost (pcie : Bool) (s : State) : Host.Outcome State Fault Refusal := done s (onCollector (clockLost pcie) s)

/-- REFERENCE_CLOCK_RETURN (R537, R552). -/
def execReferenceClockReturn (pcie : Bool) (s : State) : Host.Outcome State Fault Refusal := done s (onCollector (clockReturn pcie) s)

/-- WATCHDOG_EXPIRY (R537, R541): a core in reset has no watchdog that runs. -/
def execWatchdogExpiry (m : Fin 4) (s : State) : Host.Outcome State Fault Refusal :=
  done s (if inReset s || s.on PAD_TEST 0 then s else onCollector (watchdog m.val) s)

end Sys2Proof.Machine
end

