-- ==== Sys2Proof/Machine/LaneCmds.lean ====
section
/-!
DEFINITION. The meanings of the commands of the lanes, the decoder pool and the head links (spec/02_channel_lanes.md).
-/

namespace Sys2Proof.Machine

/-- LANE_STATE_REQUEST (R68, R71, R477). -/
def execLaneStateRequest (l : Fin 48) (req : Fin 4) (s : State) : Host.Outcome State Fault Refusal :=
  done s (onMedia 5 (laneRequest l.val req.val) s)

/-- LANE_OOS_WRITE (R71, R198). -/
def execLaneOosWrite (l : Fin 48) (oos : Bool) (s : State) : Host.Outcome State Fault Refusal :=
  done s (onMedia 5 (laneOos l.val oos) s)

/-- LANE_TRANSITION_DONE (R68). -/
def execLaneTransitionDone (l : Fin 48) (s : State) : Host.Outcome State Fault Refusal :=
  done s (onMedia 5 (laneTransitionDone l.val) s)

/-- RING_CYCLE_EDGE (R72, R669). -/
def execRingCycleEdge (l : Fin 48) (err : Int) (s : State) : Host.Outcome State Fault Refusal :=
  done s (onBlock 5 (ringCycleEdge l.val err) s)

/-- SYNTH_LOCK (R669). -/
def execSynthLock (l : Fin 48) (s : State) : Host.Outcome State Fault Refusal := done s (onBlock 5 (synthLock l.val) s)

/-- RING_EDGE_TIMEOUT (R669). -/
def execRingEdgeTimeout (l : Fin 48) (s : State) : Host.Outcome State Fault Refusal := done s (onBlock 5 (ringEdgeTimeout l.val) s)

/-- PHASE_TRIM_UPDATE (R77–R80, R82–R84). -/
def execPhaseTrimUpdate (b : LaneSamples) (te : Int) (s : State) : Host.Outcome State Fault Refusal :=
  done s (onBlock 5 (phaseTrimUpdate b.lane.val te b.samples) s)

/-- RTT_LEARN (R80). -/
def execRttLearn (a : Fin 4) (p : Fin 12) (w : Fin 512) (s : State) : Host.Outcome State Fault Refusal :=
  done s (onBlock 5 (rttLearn (headAt a p).val w.val) s)

/-- DROPOUT_FLAG (R89, R91). -/
def execDropoutFlag (b : LaneSamples) (s : State) : Host.Outcome State Fault Refusal :=
  done s (onBlock 5 (dropoutFlag b.lane.val b.samples) s)

/-- ASPERITY_FLAG (R90, R91). -/
def execAsperityFlag (b : LaneSamples) (s : State) : Host.Outcome State Fault Refusal :=
  done s (onBlock 5 (asperityFlag b.lane.val b.samples) s)

/-- DEFECT_FLAG_RELEASE (R89, R90). -/
def execDefectFlagRelease (b : LaneSamples) (ta : Bool) (s : State) : Host.Outcome State Fault Refusal :=
  done s (onBlock 5 (defectRelease b.lane.val ta b.samples) s)

/-- WEDGE_WINDOW (R94, R115, R146). -/
def execWedgeWindow (l : Fin 48) (opens : Bool) (s : State) : Host.Outcome State Fault Refusal :=
  done s (onBlock 5 (wedgeWindow l.val opens) s)

/-- FRAME_OP_READ (R70, R74, R97, R161, R162). -/
def execFrameOpRead (l : Fin 48) (op : BitVec 512) (s : State) : Host.Outcome State Fault Refusal :=
  done s (onMedia 5 (acceptWord l.val op) s)

/-- FRAME_OP_WRITE (R112, R149, R150, R161, R425). -/
def execFrameOpWrite (a : Fin 4) (p : Fin 12) (op : BitVec 512) (s : State) : Host.Outcome State Fault Refusal :=
  done s (onMedia 5 (fun t => afterFetch (headAt a p).val op (writeWord (headAt a p).val op t)) s)

/-- FRAME_READ_START (R68, R73, R82, R94–R98, R130, R133, R147). -/
def execFrameReadStart (a : Fin 4) (p : Fin 12) (hard : BitVec 302) (s : State) : Host.Outcome State Fault Refusal :=
  done s (onMedia 5 (frameReadStart (headAt a p).val hard) s)

/-- CODEWORD_STAGED (R86–R88, R92). -/
def execCodewordStaged (b : StagedBits) (s : State) : Host.Outcome State Fault Refusal :=
  done s (onMedia 5 (codewordStaged b.lane.val b.soft) s)

/-- ENGINE_DISPATCH (R87, R104, R105, R111). -/
def execEngineDispatch (d : Fin 32) (s : State) : Host.Outcome State Fault Refusal := done s (onMedia 6 (engineDispatch d.val) s)

/-- DECODE_DONE (R98, R99, R101, R102, R106–R109). -/
def execDecodeDone (d : Fin 32) (o : DecodeOut) (s : State) : Host.Outcome State Fault Refusal := done s (onMedia 6 (decodeDone d.val o) s)

/-- FRAME_OP_CANCEL (R109). -/
def execFrameOpCancel (l : Fin 48) (mtag : BitVec 24) (s : State) : Host.Outcome State Fault Refusal :=
  done s (onMedia 5 (frameOpCancel l.val mtag.toNat) s)

/-- FRAME_WRITE_START (R73, R81, R82, R112, R133, R147). -/
def execFrameWriteStart (l : Fin 48) (s : State) : Host.Outcome State Fault Refusal := done s (onMedia 5 (frameWriteStart l.val) s)

/-- FRAME_WRITE_END (R81, R110, R116, R118, R119, R149). -/
def execFrameWriteEnd (l : Fin 48) (s : State) : Host.Outcome State Fault Refusal := done s (onMedia 5 (frameWriteEnd l.val) s)

/-- LANE_MEMDAT_WRITE (R135). -/
def execLaneMemdatWrite (l : Fin 48) (v : Word) (s : State) : Host.Outcome State Fault Refusal :=
  done s (onBlock 5 (lanMemdatWrite l.val v.toNat) s)

/-- LANE_MEMDAT_READ (R135). -/
def execLaneMemdatRead (l : Fin 48) (s : State) : Host.Outcome State Fault Refusal := done s (readOn 5 (lanMemdatRead l.val) s)

/-- HLK_ENABLE (R127, R137). -/
def execHlkEnable (a : Fin 4) (s : State) : Host.Outcome State Fault Refusal := done s (onMedia 15 (hlkEnable a.val) s)

/-- HLK_DISABLE (R137). -/
def execHlkDisable (a : Fin 4) (s : State) : Host.Outcome State Fault Refusal := done s (onMedia 15 (hlkDisable a.val) s)

/-- HLK_TRAIN (R127, R137). -/
def execHlkTrain (a : Fin 4) (s : State) : Host.Outcome State Fault Refusal := done s (onMedia 15 (hlkTrain a.val) s)

/-- HLK_WEN_WRITE (R121). -/
def execHlkWenWrite (a : Fin 4) (mask : BitVec 12) (s : State) : Host.Outcome State Fault Refusal :=
  done s (onMedia 15 (hlkWenWrite a.val mask.toNat) s)

/-- HLK_REGCMD_GO (R123, R668). -/
def execHlkRegcmdGo (a : Fin 4) (v : Word) (s : State) : Host.Outcome State Fault Refusal :=
  done s (onMedia 15 (hlkRegcmdGo a.val v.toNat) s)

/-- HLK_PACKET_SENT (R121, R122, R668). -/
def execHlkPacketSent (a : Fin 4) (s : State) : Host.Outcome State Fault Refusal := done s (onMedia 15 (hlkPacketSent a.val) s)

/-- HLK_RESPONSE_RX (R123). -/
def execHlkResponseRx (a : Fin 4) (pkt : BitVec 48) (s : State) : Host.Outcome State Fault Refusal :=
  done s (onMedia 15 (hlkResponseRx a.val pkt) s)

/-- HLK_FAULT_FLAGS_RX (R123, R126, R198). -/
def execHlkFaultFlagsRx (a : Fin 4) (pkt : BitVec 48) (s : State) : Host.Outcome State Fault Refusal :=
  done s (onMedia 15 (hlkFaultFlagsRx a.val pkt) s)

/-- HLK_HEARTBEAT_RX (R123, R125, R127). -/
def execHlkHeartbeatRx (a : Fin 4) (pkt : BitVec 48) (s : State) : Host.Outcome State Fault Refusal :=
  done s (onMedia 15 (hlkHeartbeatRx a.val pkt) s)

/-- HLK_TRAINING_RX (R127). -/
def execHlkTrainingRx (a : Fin 4) (aInv bInv : Bool) (s : State) : Host.Outcome State Fault Refusal :=
  done s (onMedia 15 (hlkTrainingRx a.val aInv bInv) s)

/-- HLK_ACK_TIMEOUT (R123). -/
def execHlkAckTimeout (a : Fin 4) (s : State) : Host.Outcome State Fault Refusal := done s (onMedia 15 (hlkAckTimeout a.val) s)

/-- HLK_LINK_DOWN (R125, R668). -/
def execHlkLinkDown (a : Fin 4) (s : State) : Host.Outcome State Fault Refusal := done s (onMedia 15 (hlkLinkDown a.val) s)

/-- HLK_ORIENT_TIMEOUT (R127). -/
def execHlkOrientTimeout (a : Fin 4) (s : State) : Host.Outcome State Fault Refusal := done s (onMedia 15 (hlkOrientTimeout a.val) s)

/-- HLK_TRAIN_HB_TIMEOUT (R127). -/
def execHlkTrainHbTimeout (a : Fin 4) (s : State) : Host.Outcome State Fault Refusal := done s (onMedia 15 (hlkHbTimeout a.val) s)

end Sys2Proof.Machine
end

