-- ==== Sys2Proof/Machine/LoopCmds.lean ====
section
/-!
DEFINITION. The meanings of the commands of the loop engine and the Sillage trace (spec/07_loop_engine.md). An operation's command
carries what the fetch has delivered: the word of its context gathers it, and its last operation executes the word (R364, R368;
log entry 29).
-/

namespace Sys2Proof.Machine

/-- An operation is fetched for context `c`. -/
def engineOp (c : Fin 64) (i : Instr) (last : Bool) (s : State) : Host.Outcome State Fault Refusal :=
  done s (onBlock 4 (lpeOp engineBus c.val i last) s)

/-- CONTEXT_DISPATCH (R374). -/
def execContextDispatch (core : Fin 4) (s : State) : Host.Outcome State Fault Refusal := done s (onBlock 4 (contextDispatch core.val) s)

/-- NOP (R364, R365). -/
def execNop (c : Fin 64) (slot : Fin 4) (last : Bool) (s : State) : Host.Outcome State Fault Refusal :=
  engineOp c (.nop c slot last) last s

/-- MUL (R365). -/
def execMul (c : Fin 64) (slot : Fin 4) (a b : Fin 32) (q : Fin 4) (last : Bool) (s : State) : Host.Outcome State Fault Refusal :=
  engineOp c (.mul c slot a b q last) last s

/-- MAC (R365). -/
def execMac (c : Fin 64) (slot : Fin 4) (a b : Fin 32) (q : Fin 4) (last : Bool) (s : State) : Host.Outcome State Fault Refusal :=
  engineOp c (.mac c slot a b q last) last s

/-- MSU (R365). -/
def execMsu (c : Fin 64) (slot : Fin 4) (a b : Fin 32) (q : Fin 4) (last : Bool) (s : State) : Host.Outcome State Fault Refusal :=
  engineOp c (.msu c slot a b q last) last s

/-- ADD (R365). -/
def execAdd (c : Fin 64) (slot : Fin 4) (a : Fin 32) (last : Bool) (s : State) : Host.Outcome State Fault Refusal :=
  engineOp c (.add c slot a last) last s

/-- LDA (R365). -/
def execLda (c : Fin 64) (slot : Fin 4) (a : Fin 32) (last : Bool) (s : State) : Host.Outcome State Fault Refusal :=
  engineOp c (.lda c slot a last) last s

/-- CLR (R365). -/
def execClr (c : Fin 64) (slot : Fin 4) (last : Bool) (s : State) : Host.Outcome State Fault Refusal :=
  engineOp c (.clr c slot last) last s

/-- ABS (R365). -/
def execAbs (c : Fin 64) (slot : Fin 4) (last : Bool) (s : State) : Host.Outcome State Fault Refusal :=
  engineOp c (.abs c slot last) last s

/-- WR (R365). -/
def execWr (c : Fin 64) (slot : Fin 4) (a b : Fin 32) (q : Fin 4) (last : Bool) (s : State) : Host.Outcome State Fault Refusal :=
  engineOp c (.wr c slot a b q last) last s

/-- MIN (R365). -/
def execMin (c : Fin 64) (slot : Fin 4) (a : Fin 32) (last : Bool) (s : State) : Host.Outcome State Fault Refusal :=
  engineOp c (.min c slot a last) last s

/-- MAX (R365). -/
def execMax (c : Fin 64) (slot : Fin 4) (a : Fin 32) (last : Bool) (s : State) : Host.Outcome State Fault Refusal :=
  engineOp c (.max c slot a last) last s

/-- LD (R366, R368, R370). -/
def execLd (c : Fin 64) (ls : Fin 2) (x : Fin 32) (b : Fin 8) (off : BitVec 9) (last : Bool) (s : State) : Host.Outcome State Fault Refusal :=
  engineOp c (.ld c ls x b off last) last s

/-- ST (R366, R370). -/
def execSt (c : Fin 64) (ls : Fin 2) (x : Fin 32) (b : Fin 8) (off : BitVec 9) (last : Bool) (s : State) : Host.Outcome State Fault Refusal :=
  engineOp c (.st c ls x b off last) last s

/-- STG (R366, R377). -/
def execStg (c : Fin 64) (ls : Fin 2) (x : Fin 32) (b : Fin 8) (off : BitVec 9) (last : Bool) (s : State) : Host.Outcome State Fault Refusal :=
  engineOp c (.stg c ls x b off last) last s

/-- DIR (R366, R378). -/
def execDir (c : Fin 64) (ls : Fin 2) (x : Fin 32) (b : Fin 8) (off : BitVec 9) (last : Bool) (s : State) : Host.Outcome State Fault Refusal :=
  engineOp c (.dir c ls x b off last) last s

/-- MOVB (R366). -/
def execMovb (c : Fin 64) (ls : Fin 2) (x : Fin 32) (b : Fin 8) (off : BitVec 9) (last : Bool) (s : State) : Host.Outcome State Fault Refusal :=
  engineOp c (.movb c ls x b off last) last s

/-- JMP (R367). -/
def execJmp (c : Fin 64) (target : BitVec 16) (last : Bool) (s : State) : Host.Outcome State Fault Refusal :=
  engineOp c (.jmp c target last) last s

/-- BR (R367). -/
def execBr (c : Fin 64) (cond : Cond) (target : BitVec 16) (last : Bool) (s : State) : Host.Outcome State Fault Refusal :=
  engineOp c (.br c cond target last) last s

/-- BRN (R367). -/
def execBrn (c : Fin 64) (cond : Cond) (target : BitVec 16) (last : Bool) (s : State) : Host.Outcome State Fault Refusal :=
  engineOp c (.brn c cond target last) last s

/-- LOOP (R367). -/
def execLoop (c : Fin 64) (target : BitVec 16) (last : Bool) (s : State) : Host.Outcome State Fault Refusal :=
  engineOp c (.loop c target last) last s

/-- SETX (R367). -/
def execSetx (c : Fin 64) (x : Fin 32) (v : BitVec 13) (last : Bool) (s : State) : Host.Outcome State Fault Refusal :=
  engineOp c (.setx c x v last) last s

/-- CMT (R367, R377). -/
def execCmt (c : Fin 64) (last : Bool) (s : State) : Host.Outcome State Fault Refusal :=
  engineOp c (.cmt c last) last s

/-- END (R367, R369, R377). -/
def execEndOp (c : Fin 64) (last : Bool) (s : State) : Host.Outcome State Fault Refusal :=
  engineOp c (.endOp c last) last s

/-- CMTEND (R367, R377). -/
def execCmtend (c : Fin 64) (last : Bool) (s : State) : Host.Outcome State Fault Refusal :=
  engineOp c (.cmtend c last) last s

/-- SIG (R367, R371). -/
def execSig (c : Fin 64) (target : Fin 64) (last : Bool) (s : State) : Host.Outcome State Fault Refusal :=
  engineOp c (.sig c target last) last s

/-- KILL (R367, R381). -/
def execKill (c : Fin 64) (target : Fin 64) (last : Bool) (s : State) : Host.Outcome State Fault Refusal :=
  engineOp c (.kill c target last) last s

/-- OVR (R367, R380). -/
def execOvr (c : Fin 64) (x : Fin 32) (out : Fin 256) (last : Bool) (s : State) : Host.Outcome State Fault Refusal :=
  engineOp c (.ovr c x out last) last s

/-- OVRREL (R367, R380). -/
def execOvrrel (c : Fin 64) (out : Fin 256) (last : Bool) (s : State) : Host.Outcome State Fault Refusal :=
  engineOp c (.ovrrel c out last) last s

/-- TRC (R367, R395). -/
def execTrc (c : Fin 64) (x : Fin 32) (unit : Fin 8) (last : Bool) (s : State) : Host.Outcome State Fault Refusal :=
  engineOp c (.trc c x unit last) last s

/-- LOAD_DATA_RETURN (R368, R388). -/
def execLoadDataReturn (c : Fin 64) (s : State) : Host.Outcome State Fault Refusal :=
  done s (onBlock 4 (loadDataReturn engineRead c.val) s)

/-- CUSTOMER_WORD_LIMIT (R383). -/
def execCustomerWordLimit (c : Fin 64) (s : State) : Host.Outcome State Fault Refusal :=
  done s (onBlock 4 (customerWordLimit c.val) s)

/-- LPE_TRIG (R371). -/
def execLpeTrig (hi : Bool) (v : Word) (s : State) : Host.Outcome State Fault Refusal := done s (onBlock 4 (lpeTrig hi v.toNat) s)

/-- LPE_KILL (R381). -/
def execLpeKill (hi : Bool) (v : Word) (s : State) : Host.Outcome State Fault Refusal := done s (onBlock 4 (lpeKill hi v.toNat) s)

/-- FW_OVERRIDE_SET (R380). -/
def execFwOverrideSet (o : Fin 256) (v : Word) (s : State) : Host.Outcome State Fault Refusal :=
  done s (onBlock 4 (fwOverrideSet o.val v.toNat) s)

/-- FW_OVERRIDE_RELEASE (R380). -/
def execFwOverrideRelease (o : Fin 256) (s : State) : Host.Outcome State Fault Refusal :=
  done s (onBlock 4 (fwOverrideRelease o.val) s)

/-- LPE_RUN (R401). -/
def execLpeRun (run : Bool) (s : State) : Host.Outcome State Fault Refusal := done s (onMedia 4 (lpeRun run) s)

/-- IMAGE_LOAD (R391, R393). -/
def execImageLoad (region : Fin 2) (s : State) : Host.Outcome State Fault Refusal := done s (onBlock 4 (imageLoad region.val) s)

/-- IMAGE_LOAD_DONE (R391). -/
def execImageLoadDone (found : ImageChecks) (s : State) : Host.Outcome State Fault Refusal := done s (onMedia 4 (imageLoadDone found) s)

/-- IMAGE_COPY (R391, R393). -/
def execImageCopy (region : Fin 2) (s : State) : Host.Outcome State Fault Refusal := done s (onMedia 4 (imageCopy region.val) s)

/-- CONTROL_STORE_SCRUB (R394). -/
def execControlStoreScrub (corrected : Nat) (uncorrectable : List (Nat × Nat)) (s : State) : Host.Outcome State Fault Refusal :=
  done s (onBlock 4 (controlStoreScrub corrected uncorrectable) s)

/-- SILLAGE_ARM (R397). -/
def execSillageArm (u : Fin 8) (s : State) : Host.Outcome State Fault Refusal := done s (onBlock 4 (sillageArm u.val) s)

/-- SILLAGE_FORCE (R397). -/
def execSillageForce (u : Fin 8) (s : State) : Host.Outcome State Fault Refusal := done s (onBlock 4 (sillageForce u.val) s)

/-- SILLAGE_STOP (R397). -/
def execSillageStop (u : Fin 8) (s : State) : Host.Outcome State Fault Refusal := done s (onBlock 4 (sillageStop u.val) s)

/-- SILLAGE_PERIOD_CAPTURE (R395). -/
def execSillagePeriodCapture (u : Fin 8) (s : State) : Host.Outcome State Fault Refusal := done s (onBlock 4 (sillagePeriod u.val) s)

/-- SILLAGE_DONE (R397). -/
def execSillageDone (u : Fin 8) (s : State) : Host.Outcome State Fault Refusal := done s (onBlock 4 (sillageDone u.val) s)

/-- SILDAT_READ (R398, R399). -/
def execSildatRead (s : State) : Host.Outcome State Fault Refusal := done s (readOn 4 sildatRead s)

end Sys2Proof.Machine
end

