-- ==== Sys2Proof/Machine/ManagerCmds.lean ====
section
/-!
DEFINITION. The meanings of the commands of the manager role and of the Claik bus (spec/13_manager_hierarchy.md).
-/

namespace Sys2Proof.Machine

/-- A command of the Claik ports or of the manager. -/
def onClaik (f : State → State) (s : State) : State := onMedia 16 f s

/-- A frame that may order the spindle: its angle sources are looked at too. -/
def onOrder (f : State → State) (s : State) : State := onMedia 16 (fun t => settleAngle (f t)) s

/-- MGR_RUN (R601, R604, R605). -/
def execMgrRun (run : Bool) (nzw zsw : Nat) (s : State) : Host.Outcome State Fault Refusal := done s (onClaik (mgrRun run nzw zsw) s)

/-- MGR_DISCOVER (R599). -/
def execMgrDiscover (seed : Byte) (s : State) : Host.Outcome State Fault Refusal := done s (onClaik (mgrDiscover seed.toNat) s)

/-- MGR_FW_GO (R620). -/
def execMgrFwGo (s : State) : Host.Outcome State Fault Refusal := done s (onClaik mgrFwGo s)

/-- POLL_PERIOD (R598). -/
def execPollPeriod (s : State) : Host.Outcome State Fault Refusal := done s (onClaik pollPeriod s)

/-- CLAIK_REPLY_TIMEOUT (R595, R598). -/
def execClaikReplyTimeout (s : State) : Host.Outcome State Fault Refusal := done s (onClaik claikTimeout s)

/-- UPSTREAM_SILENCE (R598). -/
def execUpstreamSilence (s : State) : Host.Outcome State Fault Refusal := done s (onClaik upstreamSilence s)

/-- DISCOVER_RESPONSE_SLOT (R599). -/
def execDiscoverResponseSlot (s : State) : Host.Outcome State Fault Refusal := done s (onClaik discoverSlot s)

/-- POLL (R597). -/
def execPoll (addr : BitVec 7) (seq : BitVec 4) (s : State) : Host.Outcome State Fault Refusal :=
  done s (onClaik (poll addr.toNat seq.toNat) s)

/-- DISCOVER (R599): the seed decides the response slot, whose turn is DISCOVER_RESPONSE_SLOT. -/
def execDiscover (_seed : Byte) (s : State) : Host.Outcome State Fault Refusal := done s (onClaik discover s)

/-- ASSIGN (R599). -/
def execAssign (eui : BitVec 64) (addr : BitVec 7) (pod : BitVec 18) (level : BitVec 2) (seq : BitVec 4) (s : State) :
    Host.Outcome State Fault Refusal :=
  done s (onClaik (assign eui.toNat addr.toNat pod.toNat level.toNat seq.toNat) s)

/-- GRANT (R613, R614). -/
def execGrant (addr : BitVec 7) (seq : BitVec 4) (tokens : Byte) (s : State) : Host.Outcome State Fault Refusal :=
  done s (onClaik (grant addr.toNat seq.toNat tokens.toNat) s)

/-- DRYDOWN (R618). -/
def execDrydown (addr : BitVec 7) (seq : BitVec 4) (s : State) : Host.Outcome State Fault Refusal :=
  done s (onOrder (order addr.toNat seq.toNat 1 orderDrydown) s)

/-- RELEASE (R618, R619). -/
def execRelease (addr : BitVec 7) (seq : BitVec 4) (s : State) : Host.Outcome State Fault Refusal :=
  done s (onOrder (order addr.toNat seq.toNat 2 orderRelease) s)

/-- SPIN (R618). -/
def execSpin (addr : BitVec 7) (seq : BitVec 4) (s : State) : Host.Outcome State Fault Refusal :=
  done s (onOrder (order addr.toNat seq.toNat 3 orderSpin) s)

/-- PSCAP (R618). -/
def execPscap (addr : BitVec 7) (seq : BitVec 4) (ps : BitVec 3) (s : State) : Host.Outcome State Fault Refusal :=
  done s (onOrder (order addr.toNat seq.toNat 4 (orderPscap ps.toNat)) s)

/-- SETREF (R618). -/
def execSetref (addr : BitVec 7) (seq : BitVec 4) (mode : BitVec 3) (ppr : BitVec 6) (phase : BitVec 16) (s : State) :
    Host.Outcome State Fault Refusal :=
  done s (onOrder (order addr.toNat seq.toNat 5 (orderSetref mode.toNat ppr.toNat phase.toNat)) s)

/-- FWACTIVATE (R474, R618). -/
def execFwactivate (addr : BitVec 7) (seq : BitVec 4) (s : State) : Host.Outcome State Fault Refusal :=
  done s (onClaik (order addr.toNat seq.toNat 6 firmwareActivation) s)

/-- SYNC (R615). -/
def execSync (epoch : BitVec 64) (period : Word) (s : State) : Host.Outcome State Fault Refusal :=
  done s (onClaik (sync epoch.toNat period.toNat) s)

/-- FWDATA (R596, R620). -/
def execFwdata (off : Word) (data : List Byte) (s : State) : Host.Outcome State Fault Refusal :=
  done s (onClaik (fwdata off.toNat data) s)

/-- FWCTL_QUERY (R596, R620). -/
def execFwctlQuery (addr : BitVec 7) (seq : BitVec 4) (s : State) : Host.Outcome State Fault Refusal :=
  done s (onClaik (fwctlQuery addr.toNat seq.toNat) s)

/-- FWCTL_COMMIT (R559, R596, R620). -/
def execFwctlCommit (addr : BitVec 7) (seq : BitVec 4) (imageOk : Bool) (s : State) : Host.Outcome State Fault Refusal :=
  done s (onClaik (beginFwctl addr.toNat seq.toNat imageOk) s)

/-- HARVEST (R621). -/
def execHarvest (addr : BitVec 7) (seq : BitVec 4) (start : BitVec 16) (count : Nat) (s : State) : Host.Outcome State Fault Refusal :=
  done s (onClaik (harvestReply addr.toNat seq.toNat start.toNat count) s)

/-- PEERINFO (R596). -/
def execPeerinfo (addr : BitVec 7) (seq : BitVec 4) (s : State) : Host.Outcome State Fault Refusal :=
  done s (onClaik (peerinfo addr.toNat seq.toNat) s)

/-- WAKE (R525, R596). -/
def execWake (addr : BitVec 7) (seq : BitVec 4) (s : State) : Host.Outcome State Fault Refusal :=
  done s (onClaik (wake addr.toNat seq.toNat) s)

/-- RESERVED_TYPE (R596). -/
def execReservedType (up : Bool) (s : State) : Host.Outcome State Fault Refusal := done s (onClaik (reservedType up) s)

/-- STATUS (R597, R603, R613, R621). -/
def execStatus (addr : BitVec 7) (m : StatusMsg) (s : State) : Host.Outcome State Fault Refusal :=
  done s (onClaik (status addr.toNat m) s)

/-- HELLO (R599): the role and level that it gives change nothing here. -/
def execHello (eui : BitVec 64) (_role _level : BitVec 2) (s : State) : Host.Outcome State Fault Refusal :=
  done s (onClaik (hello eui.toNat) s)

/-- ACK (R596, R613): its sequence number is that of the request, of which there is one at a time. -/
def execAck (addr : BitVec 7) (_seq : BitVec 4) (value : Byte) (s : State) : Host.Outcome State Fault Refusal :=
  done s (onClaik (ack addr.toNat value.toNat) s)

/-- FWSTAT (R620). -/
def execFwstat (addr : BitVec 7) (missing : List Nat) (verified : Bool) (s : State) : Host.Outcome State Fault Refusal :=
  done s (onClaik (fwstat addr.toNat missing verified) s)

/-- RECORD (R621). -/
def execRecord (addr : BitVec 7) (entries : List (BitVec 256)) (s : State) : Host.Outcome State Fault Refusal :=
  done s (onClaik (record addr.toNat entries) s)

/-- HARVEST_TIMER (R621). -/
def execHarvestTimer (s : State) : Host.Outcome State Fault Refusal := done s (onClaik harvestTimer s)

/-- PEER_COMMAND_TIMEOUT (R603). -/
def execPeerCommandTimeout (slot : Fin 64) (attempts : Nat) (s : State) : Host.Outcome State Fault Refusal :=
  done s (onClaik (peerCommandTimeout slot.val attempts) s)

/-- WORKER_SILENT (R603). -/
def execWorkerSilent (slot : Fin 64) (s : State) : Host.Outcome State Fault Refusal := done s (onClaik (workerSilent slot.val) s)

/-- SYNC_OUT_FAULT (R541, R616). -/
def execSyncOutFault (s : State) : Host.Outcome State Fault Refusal := done s (onClaik syncOutFault s)

/-- CLAIK_FRAME_CRC_ERROR (R595). -/
def execClaikFrameCrcError (up : Bool) (s : State) : Host.Outcome State Fault Refusal := done s (onClaik (claikCrc up) s)

/-- ADDRESS_CONFLICT (R598, R599): by two HELLO frames of one EUI-64, or by two replies at one address. -/
def execAddressConflict (_twoHello : Bool) (s : State) : Host.Outcome State Fault Refusal := done s (onClaik addressConflict s)

/-- DISCOVER_ROUND_END (R599). -/
def execDiscoverRoundEnd (s : State) : Host.Outcome State Fault Refusal := done s (onClaik discoverRoundEnd s)

end Sys2Proof.Machine
end

