-- ==== Sys2Proof/Machine/MediaCmds.lean ====
section
/-!
DEFINITION. The meanings of the commands of the format sequencer and of the accord engine (spec/03_media_format.md,
spec/04_accords.md). In the manager role a media operation goes to the workers (spec/13_manager_hierarchy.md).
-/

namespace Sys2Proof.Machine

/-- A media operation that only a drive has: the lanes of a manager are powered off (R10). -/
def onDrive (f : State → State) (s : State) : State := if driveRole s then f s else s

/-- HOST_READ (R166, R170, R171, R173, R185, R219, R234; R606 in the manager role). -/
def execHostRead (zone off len : Nat) (mtag : BitVec 24) (s : State) : Host.Outcome State Fault Refusal :=
  done s (onMedia 7 (fun t => if driveRole t then hostRead zone off len mtag.toNat t else shelfRead zone off len mtag.toNat t) s)

/-- RA_READ (R171). -/
def execRaRead (zone row : Nat) (mtag : BitVec 24) (s : State) : Host.Outcome State Fault Refusal :=
  done s (onMedia 7 (onDrive (raRead zone row mtag.toNat)) s)

/-- WRITE_ROW (R154, R155, R157, R159, R175). -/
def execWriteRow (zone row : Nat) (mtag : BitVec 24) (s : State) : Host.Outcome State Fault Refusal :=
  done s (onMedia 7 (onDrive (writeRow zone row mtag.toNat)) s)

/-- RECON_READ (R159, R160, R219; R610 in the manager role). -/
def execReconRead (zone row pos : Nat) (host : Bool) (mtag : BitVec 24) (s : State) : Host.Outcome State Fault Refusal :=
  done s (onMedia 7 (fun t => if driveRole t then reconRead zone row pos host mtag.toNat t
    else endOp mtag.toNat (shelfRecon mtag.toNat zone row pos 0 t.fb (addOp (newOp mtag.toNat .reconRead zone row pos 0 0 host) t))) s)

/-- REBUILD_READ (R159, R160, R225; R610 in the manager role). -/
def execRebuildRead (zone row pos : Nat) (mtag : BitVec 24) (s : State) : Host.Outcome State Fault Refusal :=
  done s (onMedia 7 (fun t => if driveRole t then rebuildRead zone row pos mtag.toNat t
    else endOp mtag.toNat (unitRead mtag.toNat zone row pos 0 t.fb (addOp (newOp mtag.toNat .rebuildRead zone row pos 0 0 false) t))) s)

/-- PATROL (R159, R160). -/
def execPatrol (zone row pos : Nat) (mtag : BitVec 24) (s : State) : Host.Outcome State Fault Refusal :=
  done s (onMedia 7 (onDrive (patrolRead zone row pos mtag.toNat)) s)

/-- SYS_READ (R139, R151, R159): by the head that serves the surface. -/
def execSysRead (surface : Fin 24) (track : BitVec 21) (slot : BitVec 8) (mtag : BitVec 24) (s : State) :
    Host.Outcome State Fault Refusal :=
  done s (onMedia 7 (onDrive fun t => sysOp .sysRead (serviceHead surface.val t) track.toNat slot.toNat false mtag.toNat t) s)

/-- SYS_WRITE (R139, R151, R159). -/
def execSysWrite (surface : Fin 24) (track : BitVec 21) (slot : BitVec 8) (mtag : BitVec 24) (s : State) :
    Host.Outcome State Fault Refusal :=
  done s (onMedia 7 (onDrive fun t => sysOp .sysWrite (serviceHead surface.val t) track.toNat slot.toNat true mtag.toNat t) s)

/-- CAL (R159). -/
def execCal (head : Fin 48) (write : Bool) (track : BitVec 21) (slot : BitVec 8) (mtag : BitVec 24) (s : State) :
    Host.Outcome State Fault Refusal :=
  done s (onMedia 7 (onDrive (sysOp .cal head.val track.toNat slot.toNat write mtag.toNat)) s)

/-- FRAME_OP_ISSUE (R162–R164, R172, R175, R189). -/
def execFrameOpIssue (head : Fin 48) (s : State) : Host.Outcome State Fault Refusal :=
  done s (onMedia 7 (onDrive (frameOpIssue head.val)) s)

/-- FRAME_RESULT (R165–R169, R176–R178, R183, R184). -/
def execFrameResult (s : State) : Host.Outcome State Fault Refusal := done s (onMedia 7 frameResult s)

/-- LADDER_TIMEOUT (R168). -/
def execLadderTimeout (mtag : BitVec 24) (s : State) : Host.Outcome State Fault Refusal :=
  done s (onMedia 7 (ladderTimeout mtag.toNat) s)

/-- ROW_COMMIT (R179, R180, R183). A shelf commits a row at the completion of its last unit (R608). -/
def execRowCommit (zone : Nat) (s : State) : Host.Outcome State Fault Refusal := done s (onMedia 7 (onDrive (rowCommit zone)) s)

/-- FRONTIER_WRITE (R182–R184, R195, R217; R609 in the manager role): once every full row before it is on its way. -/
def execFrontierWrite (zone : Nat) (s : State) : Host.Outcome State Fault Refusal := done s (onMedia 7 (tryFrontier zone) s)

/-- RA_DROP (R174). -/
def execRaDrop (s : State) : Host.Outcome State Fault Refusal := done s (onMedia 7 raDrop s)

/-- FMT_RUN_SET (R189). -/
def execFmtRunSet (s : State) : Host.Outcome State Fault Refusal := done s (onMedia 7 (fmtRun true) s)

/-- FMT_RUN_CLEAR (R189). -/
def execFmtRunClear (s : State) : Host.Outcome State Fault Refusal := done s (onMedia 7 (fmtRun false) s)

/-- DESCRIPTOR_LOAD (R143, R144, R152, R199). -/
def execDescriptorLoad (k : Fin 2) (p : Fin 12) (s : State) : Host.Outcome State Fault Refusal :=
  done s (onMedia 7 (descriptorLoad (surfaceAt k p).val) s)

/-- FMT_STORE_WRITE (R158). -/
def execFmtStoreWrite (_addr : Addr) (_v : Word) (s : State) : Host.Outcome State Fault Refusal := done s (onMedia 7 fmtStoreWrite s)

/-- ACD_RUN (R252, R568, R585). -/
def execAcdRun (run : Bool) (s : State) : Host.Outcome State Fault Refusal :=
  done s (onMedia 8 (fun t => if run then reachPhase 9 (acdRun run (readTables t)) else acdRun run t) s)

/-- PLACEMENT_GEN (R204). -/
def execPlacementGen (s : State) : Host.Outcome State Fault Refusal := done s (onMedia 8 placementGen s)

/-- PLACEMENT_GEN_DONE (R200, R206). -/
def execPlacementGenDone (s : State) : Host.Outcome State Fault Refusal := done s (onMedia 8 placementGenDone s)

/-- RBLD_HOLD (R227). -/
def execRbldHold (hold : Bool) (s : State) : Host.Outcome State Fault Refusal := done s (onMedia 8 (rbldHold hold) s)

/-- ACD_CLEAN (R245). -/
def execAcdClean (s : State) : Host.Outcome State Fault Refusal := done s (onMedia 8 acdClean s)

/-- ACD_CLEAN_CLR (R245). -/
def execAcdCleanClr (s : State) : Host.Outcome State Fault Refusal := done s (onMedia 8 acdCleanClr s)

/-- ACD_LOSE (R199, R200, R250; a worker is lost as in R603). -/
def execAcdLose (v : Word) (s : State) : Host.Outcome State Fault Refusal := done s (onMedia 8 (loseByWrite v.toNat) s)

/-- STREAM_TURN (R213). -/
def execStreamTurn (side : Fin 2) (s : State) : Host.Outcome State Fault Refusal := done s (onMedia 8 (streamTurn side.val) s)

/-- ROW_SUBMIT (R195, R202, R203, R214, R215, R424, R425; R604, R608 in the manager role). -/
def execRowSubmit (zone : Nat) (s : State) : Host.Outcome State Fault Refusal :=
  done s (onMedia 8 (fun t => if driveRole t then submitRow zone t else shelfSubmit zone t) s)

/-- REBUILD_ROW (R222–R228, R231, R237). The reads of the row take the tag that is given. -/
def execRebuildRow (r : RebuildTurn) (s : State) : Host.Outcome State Fault Refusal :=
  done s (onMedia 8 (rebuildRow r.side.val r.mtag.toNat) s)

/-- CURSOR_UPDATE (R229). -/
def execCursorUpdate (s : State) : Host.Outcome State Fault Refusal := done s (onMedia 8 cursorUpdate s)

/-- REBUILD_BATCH_WRITE (R231). -/
def execRebuildBatchWrite (s : State) : Host.Outcome State Fault Refusal := done s (onMedia 8 rebuildBatchWrite s)

/-- JOURNAL_INTERVAL (R238). -/
def execJournalInterval (s : State) : Host.Outcome State Fault Refusal := done s (onMedia 8 journalInterval s)

/-- JOURNAL_LAZY (R238). -/
def execJournalLazy (s : State) : Host.Outcome State Fault Refusal := done s (onMedia 8 journalLazy s)

/-- JOURNAL_WRITTEN (R179, R224, R240, R241, R250, R611). -/
def execJournalWritten (failed : RecordFail) (s : State) : Host.Outcome State Fault Refusal := done s (onMedia 8 (journalWritten failed) s)

/-- CHECKPOINT_TIMER (R243). -/
def execCheckpointTimer (s : State) : Host.Outcome State Fault Refusal := done s (onMedia 8 checkpointTimer s)

/-- CHECKPOINT_WRITTEN (R235, R243, R244). -/
def execCheckpointWritten (failed : Bool) (s : State) : Host.Outcome State Fault Refusal := done s (onMedia 8 (checkpointWritten failed) s)

/-- CHECKPOINT_RESTORE (R206, R246, R247, R249, R580, R585). -/
def execCheckpointRestore (badSaves badRecords : List (Nat × Nat)) (s : State) : Host.Outcome State Fault Refusal :=
  done s (onMedia 8 (fun t => checkpointRestore badSaves badRecords (readTables t)) s)

/-- RESYNC_ZONE (R181, R247–R249, R609, R612). -/
def execResyncZone (side : Fin 2) (bad : List (Nat × Nat)) (scan : List (Nat × List (BitVec 9))) (last : Nat) (s : State) :
    Host.Outcome State Fault Refusal :=
  done s (onMedia 8 (resyncLogged side.val bad scan last) s)

/-- CKMIN_EXPIRY (R243). -/
def execCkminExpiry (s : State) : Host.Outcome State Fault Refusal := done s (onMedia 8 ckminExpiry s)

end Sys2Proof.Machine
end

