-- ==== Sys2Proof/Machine/NvmeCmds.lean ====
section
/-!
DEFINITION. The meanings of the commands of the NVMe queues (spec/09_nvme_queues.md). A command's row takes effect on the command in
flight that its queue and identifier name.
-/

namespace Sys2Proof.Machine

/-- A command of the host side. -/
def onHost (f : State → State) (s : State) : State := onMedia 11 f s

/-- An admin command of an opcode. -/
def adminCmd (cid : BitVec 16) (op : Nat) (f : NvCmd → State → State) (s : State) : Host.Outcome State Fault Refusal :=
  done s (onHost (withCmd 0 cid op f) s)

/-- SQ_TAIL_DOORBELL (R419, R444): a write of the doorbell area is a barrier. -/
def execSqTailDoorbell (y : Nat) (v : Word) (s : State) : Host.Outcome State Fault Refusal :=
  done s (onHost (fun t => sqTail y v.toNat (barrier t)) s)

/-- CQ_HEAD_DOORBELL (R419, R443, R444, R530). -/
def execCqHeadDoorbell (y : Nat) (v : Word) (s : State) : Host.Outcome State Fault Refusal :=
  done s (onHost (fun t => cqHead y v.toNat (barrier t)) s)

/-- VENDOR_DOORBELL (R602); the value that the worker writes is not used. -/
def execVendorDoorbell (off : Nat) (_v : Word) (s : State) : Host.Outcome State Fault Refusal := done s (onHost (vendorDoorbell off) s)

/-- CC_ENABLE (R438, R488). -/
def execCcEnable (v : Word) (s : State) : Host.Outcome State Fault Refusal := done s (onHost (ccEnable v.toNat) s)

/-- CONTROLLER_READY (R439). -/
def execControllerReady (s : State) : Host.Outcome State Fault Refusal := done s (onHost controllerReady s)

/-- CC_DISABLE (R471, R517). -/
def execCcDisable (s : State) : Host.Outcome State Fault Refusal := done s (onHost ccDisable s)

/-- NVM_SUBSYSTEM_RESET (R471). -/
def execNvmSubsystemReset (s : State) : Host.Outcome State Fault Refusal := done s (onHost nvmSubsystemReset s)

/-- RESET_DRAIN_TIMEOUT (R471). -/
def execResetDrainTimeout (s : State) : Host.Outcome State Fault Refusal := done s (onHost resetDrainTimeout s)

/-- SHUTDOWN_NORMAL (R472). -/
def execShutdownNormal (s : State) : Host.Outcome State Fault Refusal := done s (onHost shutdownNormal s)

/-- SHUTDOWN_ABRUPT (R472). -/
def execShutdownAbrupt (s : State) : Host.Outcome State Fault Refusal := done s (onHost shutdownAbrupt s)

/-- COMMAND_FETCH (R442, R443, R446, R467). -/
def execCommandFetch (e : SqEntry) (s : State) : Host.Outcome State Fault Refusal := done s (onHost (commandFetch e) s)

/-- DELETE_IO_SQ (R467, R468). -/
def execDeleteIoSq (cid : BitVec 16) (qid : Nat) (s : State) : Host.Outcome State Fault Refusal := adminCmd cid 0x00 (deleteSq qid) s

/-- CREATE_IO_SQ (R441). -/
def execCreateIoSq (cid : BitVec 16) (qid size cqid : Nat) (s : State) : Host.Outcome State Fault Refusal :=
  adminCmd cid 0x01 (createSq qid size cqid) s

/-- DELETE_IO_CQ (R441). -/
def execDeleteIoCq (cid : BitVec 16) (qid : Nat) (s : State) : Host.Outcome State Fault Refusal := adminCmd cid 0x04 (deleteCq qid) s

/-- CREATE_IO_CQ (R441, R445). -/
def execCreateIoCq (cid : BitVec 16) (qid size iv : Nat) (ien : Bool) (s : State) : Host.Outcome State Fault Refusal :=
  adminCmd cid 0x05 (createCq qid size iv ien) s

/-- GET_LOG_PAGE (R480–R484). -/
def execGetLogPage (cid : BitVec 16) (lid : BitVec 8) (rae : Bool) (off len : Nat) (s : State) : Host.Outcome State Fault Refusal :=
  adminCmd cid 0x02 (getLog lid.toNat rae off len) s

/-- IDENTIFY (R479). -/
def execIdentify (i : IdentifyArgs) (s : State) : Host.Outcome State Fault Refusal :=
  adminCmd i.cid 0x06 (identifyCmd i.cns.toNat i.csi.toNat i.nsid.toNat) s

/-- ABORT (R469). -/
def execAbort (cid : BitVec 16) (s : State) : Host.Outcome State Fault Refusal := adminCmd cid 0x08 abortCmd s

/-- SET_FEATURES (R485): the Media Policy feature among them (R486). -/
def execSetFeatures (cid : BitVec 16) (fid : BitVec 8) (dw11 : Word) (s : State) : Host.Outcome State Fault Refusal :=
  adminCmd cid 0x09 (if fid = 0xC2 then mediaPolicy dw11.toNat else setFeature fid.toNat dw11.toNat) s

/-- POWER_MANAGEMENT (R478). -/
def execPowerManagement (cid : BitVec 16) (ps : Nat) (s : State) : Host.Outcome State Fault Refusal :=
  adminCmd cid 0x09 (setPowerState ps) s

/-- NUMBER_OF_QUEUES (R485). -/
def execNumberOfQueues (cid : BitVec 16) (nsq ncq : BitVec 16) (s : State) : Host.Outcome State Fault Refusal :=
  adminCmd cid 0x09 (setQueues nsq.toNat ncq.toNat) s

/-- VOLATILE_WRITE_CACHE (R463). -/
def execVolatileWriteCache (cid : BitVec 16) (wce : Bool) (s : State) : Host.Outcome State Fault Refusal :=
  adminCmd cid 0x09 (setCache wce) s

/-- SPIN_WAIT_LIMIT (R485). -/
def execSpinWaitLimit (cid : BitVec 16) (sec : BitVec 16) (s : State) : Host.Outcome State Fault Refusal :=
  adminCmd cid 0x09 (setSpinWait sec.toNat) s

/-- DIAGNOSTIC_UNLOCK (R486). -/
def execDiagnosticUnlock (cid : BitVec 16) (code : BitVec 16) (on : Bool) (s : State) : Host.Outcome State Fault Refusal :=
  adminCmd cid 0x09 (setUnlock code.toNat on) s

/-- MEDIA_POLICY (R486). -/
def execMediaPolicy (cid : BitVec 16) (verify ra : Bool) (share : BitVec 8) (s : State) : Host.Outcome State Fault Refusal :=
  adminCmd cid 0x09 (mediaPolicy (verify.toNat + ra.toNat * 2 + share.toNat * 2 ^ 8)) s

/-- GET_FEATURES (R485). -/
def execGetFeatures (cid : BitVec 16) (fid : BitVec 8) (sel : FeatureSel) (s : State) : Host.Outcome State Fault Refusal :=
  adminCmd cid 0x0A (getFeature fid.toNat sel.sel.toNat sel.dw11.toNat) s

/-- ASYNC_EVENT_REQUEST (R479, R484). -/
def execAsyncEventRequest (cid : BitVec 16) (s : State) : Host.Outcome State Fault Refusal := adminCmd cid 0x0C asyncEvent s

/-- FIRMWARE_IMAGE_DOWNLOAD (R473). -/
def execFirmwareImageDownload (cid : BitVec 16) (off len : Nat) (s : State) : Host.Outcome State Fault Refusal :=
  adminCmd cid 0x11 (imageDownload off len) s

/-- FIRMWARE_COMMIT (R473, R474, R559, R588). -/
def execFirmwareCommit (cid : BitVec 16) (action slot : Nat) (imageOk isCfg : Bool) (s : State) : Host.Outcome State Fault Refusal :=
  done s (if inReset s then s else beginCommit cid action slot imageOk isCfg s)

/-- FIRMWARE_ACTIVATION (R474). -/
def execFirmwareActivation (s : State) : Host.Outcome State Fault Refusal := done s (onHost firmwareActivation s)

/-- ACTIVATION_TIMEOUT (R474). -/
def execActivationTimeout (s : State) : Host.Outcome State Fault Refusal := done s (onHost activationTimeout s)

/-- FLUSH (R470). -/
def execFlush (sqid : Nat) (cid : BitVec 16) (s : State) : Host.Outcome State Fault Refusal :=
  done s (onHost (withCmd sqid cid 0x00 beginFlush) s)

/-- WRITE (R447–R451, R455–R458, R475). -/
def execWrite (a : IoArgs) (pi : PiCheck) (s : State) : Host.Outcome State Fault Refusal :=
  done s (onHost (withIo a 0x01 pi beginWrite) s)

/-- READ (R447–R451, R459, R475). -/
def execRead (a : IoArgs) (pi : PiCheck) (s : State) : Host.Outcome State Fault Refusal := done s (onHost (withIo a 0x02 pi beginRead) s)

/-- ZONE_APPEND (R465). -/
def execZoneAppend (a : IoArgs) (pi : PiCheck) (s : State) : Host.Outcome State Fault Refusal :=
  done s (onHost (withIo a 0x7D pi beginWrite) s)

/-- CLOSE (R460, R461, R464). -/
def execZoneClose (sqid : Nat) (cid : BitVec 16) (zone : Nat) (all : Bool) (s : State) : Host.Outcome State Fault Refusal :=
  done s (onHost (zoneSend sqid cid 1 zone all) s)

/-- FINISH (R217, R460, R461). -/
def execZoneFinish (sqid : Nat) (cid : BitVec 16) (zone : Nat) (all : Bool) (s : State) : Host.Outcome State Fault Refusal :=
  done s (onHost (zoneSend sqid cid 2 zone all) s)

/-- OPEN (R454, R460). -/
def execZoneOpen (sqid : Nat) (cid : BitVec 16) (zone : Nat) (all : Bool) (s : State) : Host.Outcome State Fault Refusal :=
  done s (onHost (zoneSend sqid cid 3 zone all) s)

/-- RESET (R151, R174, R212, R235, R460). -/
def execZoneReset (sqid : Nat) (cid : BitVec 16) (zone : Nat) (all : Bool) (s : State) : Host.Outcome State Fault Refusal :=
  done s (onHost (zoneSend sqid cid 4 zone all) s)

/-- OFFLINE (R460). -/
def execZoneOffline (sqid : Nat) (cid : BitVec 16) (zone : Nat) (s : State) : Host.Outcome State Fault Refusal :=
  done s (onHost (zoneSend sqid cid 5 zone false) s)

/-- SET_ZONE_DESCRIPTOR_EXTENSION (R460): Invalid Field in Command, for every zone. -/
def execSetZoneDescriptorExtension (sqid : Nat) (cid : BitVec 16) (_zone : Nat) (s : State) : Host.Outcome State Fault Refusal :=
  done s (onHost (withCmd sqid cid 0x79 fun c t => finish c .invalidField t) s)

/-- REPORT_ZONES (R462). -/
def execReportZones (sqid : Nat) (cid : BitVec 16) (zone : Nat) (opt : BitVec 8) (part ext : Bool) (max : Nat) (s : State) :
    Host.Outcome State Fault Refusal :=
  done s (onHost (withCmd sqid cid 0x7A (reportZonesCmd zone opt.toNat part ext max)) s)

/-- SPIN_WAIT_EXPIRY (R476). -/
def execSpinWaitExpiry (sqid : Nat) (cid : BitVec 16) (s : State) : Host.Outcome State Fault Refusal :=
  done s (onHost (spinWaitExpiry sqid cid) s)

/-- FRONTIER_WAIT_EXPIRY (R464). -/
def execFrontierWaitExpiry (zone : Nat) (s : State) : Host.Outcome State Fault Refusal := done s (onHost (tryFrontier zone) s)

/-- NVQ_RUN (R488, R568). -/
def execNvqRun (run : Bool) (s : State) : Host.Outcome State Fault Refusal := done s (onHost (runHost run) s)

/-- AGGREGATION_TIME_EXPIRY (R445). -/
def execAggregationTimeExpiry (q : Nat) (s : State) : Host.Outcome State Fault Refusal := done s (onHost (aggregationExpiry q) s)

end Sys2Proof.Machine
end

