-- ==== Sys2Proof/Machine/PcieCmds.lean ====
section
/-!
DEFINITION. The meanings of the commands of the PCIe endpoint (spec/10_pcie_endpoint.md).
-/

namespace Sys2Proof.Machine

/-- A command of the endpoint. -/
def onPcie (f : State → State) (s : State) : State := onMedia 10 f s

/-- LINK_DOWN (R518). -/
def execLinkDown (s : State) : Host.Outcome State Fault Refusal := done s (onPcie linkDown s)

/-- PERST_ASSERT (R514, R519, R525, R532, R566): while the controller is in reset only the level of the pin is noted. -/
def execPerstAssert (s : State) : Host.Outcome State Fault Refusal :=
  done s (if inReset s then s.set PAD_PERST 0 1 else onPcie perstAssert s)

/-- PERST_DEASSERT (R519, R525). -/
def execPerstDeassert (s : State) : Host.Outcome State Fault Refusal :=
  done s (if inReset s then s.set PAD_PERST 0 0 else onPcie perstDeassert s)

/-- MEMORY_READ_REQUEST (R436, R437, R496, R497, R500, R509, R510). -/
def execMemoryReadRequest (r : MemReq) (s : State) : Host.Outcome State Fault Refusal := done s (onPcie (memoryRead r) s)

/-- MEMORY_WRITE_REQUEST (R436, R496, R497, R499, R500, R510). -/
def execMemoryWriteRequest (r : MemReq) (s : State) : Host.Outcome State Fault Refusal :=
  done s (if inReset s then s else if reachesBar4 r s then afterWrite r.off s (memoryWrite r s) else settle s (memoryWrite r s))

/-- CONFIG_REQUEST (R491–R494, R504, R519). -/
def execConfigRequest (r : CfgReq) (s : State) : Host.Outcome State Fault Refusal := done s (onPcie (configRequest r) s)

/-- MESSAGE_RECEIVED (R510). -/
def execMessageReceived (m : Msg) (s : State) : Host.Outcome State Fault Refusal := done s (onPcie (messageReceived m) s)

/-- PME_TURN_OFF (R526). -/
def execPmeTurnOff (s : State) : Host.Outcome State Fault Refusal := done s (onPcie pmeTurnOff s)

/-- COMPLETION_RECEIVED (R503, R506, R507, R513, R516). -/
def execCompletionReceived (tag : BitVec 10) (st : CplStatus) (last : Bool) (s : State) : Host.Outcome State Fault Refusal :=
  done s (onPcie (completionReceived tag.toNat st last) s)

/-- COMPLETION_TIMEOUT (R505–R507). -/
def execCompletionTimeout (tag : BitVec 10) (s : State) : Host.Outcome State Fault Refusal :=
  done s (onPcie (completionTimeout tag.toNat) s)

/-- QUARANTINE_END (R507, R513). -/
def execQuarantineEnd (tag : BitVec 10) (s : State) : Host.Outcome State Fault Refusal := done s (onPcie (quarantineEnd tag.toNat) s)

/-- BUS_MASTER_DISABLE (R511). -/
def execBusMasterDisable (s : State) : Host.Outcome State Fault Refusal := done s (onPcie busMasterDisable s)

/-- BUS_MASTER_ENABLE (R512). -/
def execBusMasterEnable (inTime : Bool) (s : State) : Host.Outcome State Fault Refusal := done s (onPcie (busMasterEnable inTime) s)

/-- FUNCTION_LEVEL_RESET (R513, R517). -/
def execFunctionLevelReset (s : State) : Host.Outcome State Fault Refusal := done s (onPcie functionLevelReset s)

/-- D3HOT_ENTRY (R523). -/
def execD3hotEntry (s : State) : Host.Outcome State Fault Refusal := done s (onPcie d3hotEntry s)

/-- D0_ENTRY (R523). -/
def execD0Entry (s : State) : Host.Outcome State Fault Refusal := done s (onPcie d0Entry s)

/-- EGRESS_FREEZE (R515, R516). -/
def execEgressFreeze (s : State) : Host.Outcome State Fault Refusal := done s (onPcie egressFreeze s)

/-- FREEZE_RELEASE (R517). -/
def execFreezeRelease (s : State) : Host.Outcome State Fault Refusal := done s (onPcie freezeRelease s)

/-- L1_ENTRY (R527): nothing leaves on the link by it. -/
def execL1Entry (s : State) : Host.Outcome State Fault Refusal := done s (onBlock 10 l1Entry s)

/-- MSIX_UNMASK (R529). -/
def execMsixUnmask (v : Fin 260) (s : State) : Host.Outcome State Fault Refusal := done s (onPcie (msixUnmask v.val) s)

/-- DATA_LINK_UP (R490, R518). -/
def execDataLinkUp (speed : Fin 6) (width : Nat) (rev : Bool) (s : State) : Host.Outcome State Fault Refusal :=
  done s (onPcie (dataLinkUp speed.val width rev) s)

/-- LINK_ERROR (R520, R521). -/
def execLinkError (e : LinkErr) (s : State) : Host.Outcome State Fault Refusal := done s (onPcie (linkError e) s)

end Sys2Proof.Machine
end

