-- ==== Sys2Proof/Machine/RegisterCmds.lean ====
section
/-!
DEFINITION. The meanings of the register accesses that have no row of their own (spec/16_register_map.md).
-/

namespace Sys2Proof.Machine

/-- REGISTER_WRITE (R17, R656–R661). -/
def execRegisterWrite (m : Master) (addr : Addr) (v : Word) (s : State) : Host.Outcome State Fault Refusal :=
  done s (if inReset s then s else afterWrite (addr.toNat - regBase) s (registerWrite m addr.toNat v.toNat s))

/-- CLEARING_READ (R17, R500): a read that clears RC fields, or by the path without side effects does not. -/
def execClearingRead (addr : Addr) (quiet : Bool) (s : State) : Host.Outcome State Fault Refusal :=
  done s (if inReset s then s else registerRead addr.toNat quiet s)

end Sys2Proof.Machine
end

