-- ==== Sys2Proof/Machine/ServoCmds.lean ====
section
/-!
DEFINITION. The meanings of the commands of the servo and the actuators (spec/05_servo_actuators.md).
-/

namespace Sys2Proof.Machine

/-- A command of the retract engine, which lies in the always-on domain (R663). -/
def onRetract (f : State → State) (s : State) : State := if aonDown s then s else settle s (f s)

/-- WEDGE_DECISION (R94, R255–R262, R266–R270, R279, R283–R288). -/
def execWedgeDecision (h : Fin 48) (w : Wedge) (s : State) : Host.Outcome State Fault Refusal :=
  done s (onMedia 3 (wedgeDecision h.val w) s)

/-- BLEND_END (R275). -/
def execBlendEnd (a : Fin 4) (s : State) : Host.Outcome State Fault Refusal := done s (onMedia 3 (blendEnd a.val) s)

/-- SETTLE_REACHED (R276, R286). -/
def execSettleReached (h : Fin 48) (s : State) : Host.Outcome State Fault Refusal := done s (onMedia 3 (settleReached h.val) s)

/-- INHIBIT_RELEASE (R280). -/
def execInhibitRelease (h : Fin 48) (s : State) : Host.Outcome State Fault Refusal := done s (onMedia 3 (inhibitRelease h.val) s)

/-- MICROACTUATOR_SATURATION (R269). -/
def execMicroactuatorSaturation (h : Fin 48) (s : State) : Host.Outcome State Fault Refusal :=
  done s (onMedia 3 (microSaturation h.val) s)

/-- HEAD_LOST (R270). -/
def execHeadLost (h : Fin 48) (s : State) : Host.Outcome State Fault Refusal := done s (onMedia 3 (headLost h.val) s)

/-- HEAD_RECOVER (R270). -/
def execHeadRecover (h : Fin 48) (s : State) : Host.Outcome State Fault Refusal := done s (onMedia 3 (headRecover h.val) s)

/-- ACTUATOR_LOST (R271). -/
def execActuatorLost (a : Fin 4) (s : State) : Host.Outcome State Fault Refusal := done s (onMedia 3 (actuatorLost a.val) s)

/-- SEEK_TIMEOUT (R277). -/
def execSeekTimeout (a : Fin 4) (s : State) : Host.Outcome State Fault Refusal := done s (onMedia 3 (seekTimeout a.val) s)

/-- TARGET_WRITE (R263, R265, R278). -/
def execTargetWrite (h : Fin 48) (v : Word) (s : State) : Host.Outcome State Fault Refusal :=
  done s (onBlock 3 (targetWrite h.val v.toNat) s)

/-- SEEK_RUN_AHEAD (R278). -/
def execSeekRunAhead (a : Fin 4) (v : Word) (s : State) : Host.Outcome State Fault Refusal :=
  done s (onBlock 3 (seekRunAhead a.val v.toNat) s)

/-- LOAD_REQUEST (R288). -/
def execLoadRequest (a : Fin 4) (s : State) : Host.Outcome State Fault Refusal := done s (onMedia 3 (loadRequest a.val) s)

/-- LOAD_TIMEOUT (R288, R298). -/
def execLoadTimeout (a : Fin 4) (s : State) : Host.Outcome State Fault Refusal := done s (onMedia 3 (loadTimeout a.val) s)

/-- UNLOAD_REQUEST (R289). -/
def execUnloadRequest (a : Fin 4) (s : State) : Host.Outcome State Fault Refusal := done s (onMedia 3 (unloadRequest a.val) s)

/-- RETRACT_REQUEST (R290). -/
def execRetractRequest (a : Fin 4) (s : State) : Host.Outcome State Fault Refusal := done s (onMedia 3 (retractRequest a.val) s)

/-- RETRACT_PHASE_END (R291, R292). -/
def execRetractPhaseEnd (a : Fin 4) (s : State) : Host.Outcome State Fault Refusal := done s (onRetract (retractPhaseEnd a.val) s)

/-- LINK_DOWN_RETRACT (R293). -/
def execLinkDownRetract (a : Fin 4) (s : State) : Host.Outcome State Fault Refusal := done s (onMedia 3 (linkDownRetract a.val) s)

/-- VCM_OPEN_COIL (R295). -/
def execVcmOpenCoil (a : Fin 4) (s : State) : Host.Outcome State Fault Refusal := done s (onMedia 3 (vcmOpenCoil a.val) s)

/-- VCM_OVERCURRENT (R296). -/
def execVcmOvercurrent (a : Fin 4) (s : State) : Host.Outcome State Fault Refusal := done s (onMedia 3 (vcmOvercurrent a.val) s)

/-- VCM_OC_TEST (R296). -/
def execVcmOcTest (a : Fin 4) (pass : Bool) (s : State) : Host.Outcome State Fault Refusal :=
  done s (onRetract (vcmOcTest a.val pass) s)

/-- VCM_LEAD_SHORT (R297). -/
def execVcmLeadShort (a : Fin 4) (s : State) : Host.Outcome State Fault Refusal := done s (onMedia 3 (vcmLeadShort a.val) s)

/-- VCM_POLARITY_RUNAWAY (R299). -/
def execVcmPolarityRunaway (a : Fin 4) (s : State) : Host.Outcome State Fault Refusal :=
  done s (onMedia 3 (vcmPolarityRunaway a.val) s)

/-- SRV_MEMDAT_WRITE (R300). -/
def execSrvMemdatWrite (a : Fin 4) (v : Word) (s : State) : Host.Outcome State Fault Refusal :=
  done s (onBlock 3 (srvMemdatWrite a.val v.toNat) s)

/-- SRV_MEMDAT_READ (R300). -/
def execSrvMemdatRead (a : Fin 4) (s : State) : Host.Outcome State Fault Refusal := done s (readOn 3 (srvMemdatRead a.val) s)

/-- VCM_SENSE_PAIR_EXCHANGED (R640). -/
def execVcmSensePairExchanged (a : Fin 4) (s : State) : Host.Outcome State Fault Refusal := done s (onMedia 3 (vcmSensePair a.val) s)

end Sys2Proof.Machine
end

