-- ==== Sys2Proof/Machine/SpindleCmds.lean ====
section
/-!
DEFINITION. The meanings of the commands of the spindle (spec/06_spindle.md).
-/

namespace Sys2Proof.Machine

/-- A spindle event: what it changes of the observer reaches the source table (R35), and the media path is settled. -/
def onSpindle (f : State → State) (s : State) : State := onMedia 2 (fun t => settleAngle (f t)) s

/-- A periodic spindle event, after which the angle sources alone are looked at. -/
def onSpinTick (f : State → State) (s : State) : State := onBlock 2 (fun t => settleAngle (f t)) s

/-- PWM_PERIOD (R305–R316, R318, R355, R356). -/
def execPwmPeriod (shunt : ShuntReading) (phases : PhaseReading) (vbus : BitVec 12) (obsAngle : Nat) (obsSpeed : Int) (loopErr emf : Nat)
    (s : State) : Host.Outcome State Fault Refusal :=
  done s (onSpinTick (pwmPeriod shunt phases vbus.toNat obsAngle obsSpeed loopErr emf) s)

/-- CURRENT_SENSE_FAULT (R308). -/
def execCurrentSenseFault (s : State) : Host.Outcome State Fault Refusal := done s (onSpindle currentSenseFault s)

/-- SHUNT_OVERCURRENT (R310, R356, R357). -/
def execShuntOvercurrent (shorted : Bool) (s : State) : Host.Outcome State Fault Refusal :=
  done s (onSpindle (shuntOvercurrent shorted) s)

/-- OBSERVER_LOCK (R314). -/
def execObserverLock (s : State) : Host.Outcome State Fault Refusal := done s (onSpindle observerLock s)

/-- OBSERVER_LOCK_LOSS (R314, R319, R341). -/
def execObserverLockLoss (s : State) : Host.Outcome State Fault Refusal := done s (onSpindle observerLockLoss s)

/-- PILOT_HANDOVER (R316). -/
def execPilotHandover (s : State) : Host.Outcome State Fault Refusal := done s (onSpindle pilotHandover s)

/-- ANGLE_DISAGREEMENT (R317). -/
def execAngleDisagreement (s : State) : Host.Outcome State Fault Refusal := done s (onSpindle angleDisagreement s)

/-- PILOT_SUSPECT (R317). -/
def execPilotSuspect (s : State) : Host.Outcome State Fault Refusal := done s (onSpindle pilotSuspect s)

/-- SPEED_LOOP_UPDATE (R320–R323, R326, R327). -/
def execSpeedLoopUpdate (d0 : Int) (d1 d2 d3 : Nat) (speed : BitVec 20) (age : BitVec 16) (sameEpoch : Bool) (rest : BitVec 16)
    (s : State) : Host.Outcome State Fault Refusal :=
  done s (onSpinTick (speedLoopUpdate d0 d1 d2 d3 speed.toNat age.toNat sameEpoch rest.toNat) s)

/-- SPD_REF_EDGE (R328–R330). -/
def execSpdRefEdge (freq : Nat) (s : State) : Host.Outcome State Fault Refusal := done s (onBlock 2 (spdRefEdge freq) s)

/-- PHASE_LOCK (R328). -/
def execPhaseLock (s : State) : Host.Outcome State Fault Refusal := done s (onBlock 2 phaseLock s)

/-- REFERENCE_LOST (R330). -/
def execReferenceLost (s : State) : Host.Outcome State Fault Refusal := done s (onBlock 2 referenceLost s)

/-- SPD_REF_SAMPLE (R324, R330). -/
def execSpdRefSample (value : Nat) (s : State) : Host.Outcome State Fault Refusal := done s (onBlock 2 (spdRefSample value) s)

/-- AUTOSTART (R331). -/
def execAutostart (s : State) : Host.Outcome State Fault Refusal := done s (onSpindle autostart s)

/-- SPN_START (R332, R350, R351, R358). -/
def execSpnStart (s : State) : Host.Outcome State Fault Refusal := done s (onSpindle startOrder s)

/-- SPN_STOP (R346, R347, R464, R619). -/
def execSpnStop (s : State) : Host.Outcome State Fault Refusal := done s (onSpindle stopOrder s)

/-- SPN_DRYDOWN (R346, R347, R464, R619). -/
def execSpnDrydown (s : State) : Host.Outcome State Fault Refusal := done s (onSpindle drydownOrder s)

/-- SPN_PARK (R347). -/
def execSpnPark (s : State) : Host.Outcome State Fault Refusal := done s (onSpindle spnPark s)

/-- PSUSP_CLEAR (R317). -/
def execPsuspClear (s : State) : Host.Outcome State Fault Refusal := done s (onSpindle psuspClear s)

/-- SPN_CAL (R338). -/
def execSpnCal (s : State) : Host.Outcome State Fault Refusal := done s (onSpindle spnCal s)

/-- EOFS_CAL_DONE (R338). -/
def execEofsCalDone (revs : BitVec 32) (s : State) : Host.Outcome State Fault Refusal := done s (onSpindle (eofsCalDone revs.toNat) s)

/-- SPEED_TARGET_WRITE (R324, R325). -/
def execSpeedTargetWrite (v : BitVec 16) (s : State) : Host.Outcome State Fault Refusal :=
  done s (onBlock 2 (speedTargetWrite v.toNat) s)

/-- SENSE_END (R333). -/
def execSenseEnd (f : SenseFinding) (c : Crossings) (s : State) : Host.Outcome State Fault Refusal := done s (onSpindle (senseEnd f c) s)

/-- BRAKE_END (R334). -/
def execBrakeEnd (s : State) : Host.Outcome State Fault Refusal := done s (onSpindle brakeEnd s)

/-- BRAKE_TIMEOUT (R334, R349). -/
def execBrakeTimeout (s : State) : Host.Outcome State Fault Refusal := done s (onSpindle brakeTimeout s)

/-- ALIGN_END (R335, R356, R640). -/
def execAlignEnd (drew wrongSign : Bool) (s : State) : Host.Outcome State Fault Refusal := done s (onSpindle (alignEnd drew wrongSign) s)

/-- OPENLOOP_HANDOVER (R335). -/
def execOpenloopHandover (s : State) : Host.Outcome State Fault Refusal := done s (onSpindle openloopHandover s)

/-- START_FAILURE (R336). -/
def execStartFailure (s : State) : Host.Outcome State Fault Refusal := done s (onSpindle startFailure s)

/-- PHASE_ORDER_LEARN (R337, R590). -/
def execPhaseOrderLearn (s : State) : Host.Outcome State Fault Refusal := done s (onSpindle phaseOrderLearn s)

/-- CATCH_END (R339, R343). -/
def execCatchEnd (s : State) : Host.Outcome State Fault Refusal := done s (onSpindle catchEnd s)

/-- LOADOK_SET (R340). -/
def execLoadokSet (s : State) : Host.Outcome State Fault Refusal := done s (onSpindle loadokSet s)

/-- REACQ_ATTEMPT_END (R342). -/
def execReacqAttemptEnd (found : Option Crossings) (s : State) : Host.Outcome State Fault Refusal :=
  done s (onSpindle (reacqAttemptEnd found) s)

/-- REACQ_FAILURE (R344). -/
def execReacqFailure (s : State) : Host.Outcome State Fault Refusal := done s (onSpindle reacqFailure s)

/-- SPEED_FALLBACK (R343). -/
def execSpeedFallback (s : State) : Host.Outcome State Fault Refusal := done s (onSpindle speedFallback s)

/-- LOW_SPEED_DRYDOWN (R345). -/
def execLowSpeedDrydown (s : State) : Host.Outcome State Fault Refusal := done s (onSpindle lowSpeedDrydown s)

/-- DRYDOWN_TIMEOUT (R347). -/
def execDrydownTimeout (s : State) : Host.Outcome State Fault Refusal := done s (onSpindle drydownTimeout s)

/-- ACTUATORS_PARKED (R349, R350). -/
def execActuatorsParked (s : State) : Host.Outcome State Fault Refusal := done s (onSpindle actuatorsParked s)

/-- SPINDLE_STOPPED (R349, R350). -/
def execSpindleStopped (s : State) : Host.Outcome State Fault Refusal := done s (onSpindle spindleStopped s)

/-- POWER_LOSS (R346, R352, R353, R543). -/
def execPowerLoss (s : State) : Host.Outcome State Fault Refusal := done s (onSpindle powerLoss s)

/-- REGEN_END (R353). -/
def execRegenEnd (s : State) : Host.Outcome State Fault Refusal := done s (onSpindle regenEnd s)

/-- PHASE_SHORT_GROUND (R356): whichever phase it is. -/
def execPhaseShortGround (_phase : Fin 3) (s : State) : Host.Outcome State Fault Refusal := done s (onSpindle phaseShortGround s)

/-- OPEN_PHASE (R356): whichever phase it is. -/
def execOpenPhase (_phase : Fin 3) (s : State) : Host.Outcome State Fault Refusal := done s (onSpindle openPhase s)

/-- BUS_OVERVOLTAGE (R356). -/
def execBusOvervoltage (s : State) : Host.Outcome State Fault Refusal := done s (onSpindle busOvervoltage s)

/-- OVERCURRENT_TEST (R357). -/
def execOvercurrentTest (pass : Bool) (s : State) : Host.Outcome State Fault Refusal := done s (onSpindle (overcurrentTest pass) s)

end Sys2Proof.Machine
end

