-- ==== Sys2Proof/Machine/Dispatch.lean ====
section
/-!
DEFINITION. The effect of each command: one arm per constructor of `Instr`, each one call of its meaning.
-/

namespace Sys2Proof.Machine

/-- The effect of a command on everything but the queue of waiting commands. -/
def exec (i : Instr) (s : State) : Host.Outcome State Fault Refusal :=
  match i with
  | .pilotSample x0 x1 x2 x3 x4 x5 x6 x7 => Sys2Proof.Machine.execPilotSample x0 x1 x2 x3 x4 x5 x6 x7 s
  | .angleClockCycle x0 => Sys2Proof.Machine.execAngleClockCycle x0 s
  | .indexSignature x0 => Sys2Proof.Machine.execIndexSignature x0 s
  | .sensorRequalify x0 => Sys2Proof.Machine.execSensorRequalify x0 s
  | .stampLoRead => Sys2Proof.Machine.execStampLoRead s
  | .multiwordLowRead x0 => Sys2Proof.Machine.execMultiwordLowRead x0 s
  | .angCmpWrite x0 x1 x2 => Sys2Proof.Machine.execAngCmpWrite x0 x1 x2 s
  | .comparatorFire x0 => Sys2Proof.Machine.execComparatorFire x0 s
  | .groupCommit x0 x1 x2 x3 => Sys2Proof.Machine.execGroupCommit x0 x1 x2 x3 s
  | .groupCancel x0 x1 x2 => Sys2Proof.Machine.execGroupCancel x0 x1 x2 s
  | .shadowWrite x0 x1 => Sys2Proof.Machine.execShadowWrite x0 x1 s
  | .decisionPoint x0 x1 x2 => Sys2Proof.Machine.execDecisionPoint x0 x1 x2 s
  | .boundarySwap x0 x1 x2 => Sys2Proof.Machine.execBoundarySwap x0 x1 x2 s
  | .laneStateRequest x0 x1 => Sys2Proof.Machine.execLaneStateRequest x0 x1 s
  | .laneOosWrite x0 x1 => Sys2Proof.Machine.execLaneOosWrite x0 x1 s
  | .laneTransitionDone x0 => Sys2Proof.Machine.execLaneTransitionDone x0 s
  | .ringCycleEdge x0 x1 => Sys2Proof.Machine.execRingCycleEdge x0 x1 s
  | .synthLock x0 => Sys2Proof.Machine.execSynthLock x0 s
  | .ringEdgeTimeout x0 => Sys2Proof.Machine.execRingEdgeTimeout x0 s
  | .phaseTrimUpdate x0 x1 => Sys2Proof.Machine.execPhaseTrimUpdate x0 x1 s
  | .rttLearn x0 x1 x2 => Sys2Proof.Machine.execRttLearn x0 x1 x2 s
  | .dropoutFlag x0 => Sys2Proof.Machine.execDropoutFlag x0 s
  | .asperityFlag x0 => Sys2Proof.Machine.execAsperityFlag x0 s
  | .defectFlagRelease x0 x1 => Sys2Proof.Machine.execDefectFlagRelease x0 x1 s
  | .wedgeWindow x0 x1 => Sys2Proof.Machine.execWedgeWindow x0 x1 s
  | .frameOpRead x0 x1 => Sys2Proof.Machine.execFrameOpRead x0 x1 s
  | .frameOpWrite x0 x1 x2 => Sys2Proof.Machine.execFrameOpWrite x0 x1 x2 s
  | .frameReadStart x0 x1 x2 => Sys2Proof.Machine.execFrameReadStart x0 x1 x2 s
  | .codewordStaged x0 => Sys2Proof.Machine.execCodewordStaged x0 s
  | .engineDispatch x0 => Sys2Proof.Machine.execEngineDispatch x0 s
  | .decodeDone x0 x1 => Sys2Proof.Machine.execDecodeDone x0 x1 s
  | .frameOpCancel x0 x1 => Sys2Proof.Machine.execFrameOpCancel x0 x1 s
  | .frameWriteStart x0 => Sys2Proof.Machine.execFrameWriteStart x0 s
  | .frameWriteEnd x0 => Sys2Proof.Machine.execFrameWriteEnd x0 s
  | .laneMemdatWrite x0 x1 => Sys2Proof.Machine.execLaneMemdatWrite x0 x1 s
  | .laneMemdatRead x0 => Sys2Proof.Machine.execLaneMemdatRead x0 s
  | .hlkEnable x0 => Sys2Proof.Machine.execHlkEnable x0 s
  | .hlkDisable x0 => Sys2Proof.Machine.execHlkDisable x0 s
  | .hlkTrain x0 => Sys2Proof.Machine.execHlkTrain x0 s
  | .hlkWenWrite x0 x1 => Sys2Proof.Machine.execHlkWenWrite x0 x1 s
  | .hlkRegcmdGo x0 x1 => Sys2Proof.Machine.execHlkRegcmdGo x0 x1 s
  | .hlkPacketSent x0 => Sys2Proof.Machine.execHlkPacketSent x0 s
  | .hlkResponseRx x0 x1 => Sys2Proof.Machine.execHlkResponseRx x0 x1 s
  | .hlkFaultFlagsRx x0 x1 => Sys2Proof.Machine.execHlkFaultFlagsRx x0 x1 s
  | .hlkHeartbeatRx x0 x1 => Sys2Proof.Machine.execHlkHeartbeatRx x0 x1 s
  | .hlkTrainingRx x0 x1 x2 => Sys2Proof.Machine.execHlkTrainingRx x0 x1 x2 s
  | .hlkAckTimeout x0 => Sys2Proof.Machine.execHlkAckTimeout x0 s
  | .hlkLinkDown x0 => Sys2Proof.Machine.execHlkLinkDown x0 s
  | .hlkOrientTimeout x0 => Sys2Proof.Machine.execHlkOrientTimeout x0 s
  | .hlkTrainHbTimeout x0 => Sys2Proof.Machine.execHlkTrainHbTimeout x0 s
  | .hostRead x0 x1 x2 x3 => Sys2Proof.Machine.execHostRead x0 x1 x2 x3 s
  | .raRead x0 x1 x2 => Sys2Proof.Machine.execRaRead x0 x1 x2 s
  | .writeRow x0 x1 x2 => Sys2Proof.Machine.execWriteRow x0 x1 x2 s
  | .reconRead x0 x1 x2 x3 x4 => Sys2Proof.Machine.execReconRead x0 x1 x2 x3 x4 s
  | .rebuildRead x0 x1 x2 x3 => Sys2Proof.Machine.execRebuildRead x0 x1 x2 x3 s
  | .patrol x0 x1 x2 x3 => Sys2Proof.Machine.execPatrol x0 x1 x2 x3 s
  | .sysRead x0 x1 x2 x3 => Sys2Proof.Machine.execSysRead x0 x1 x2 x3 s
  | .sysWrite x0 x1 x2 x3 => Sys2Proof.Machine.execSysWrite x0 x1 x2 x3 s
  | .cal x0 x1 x2 x3 x4 => Sys2Proof.Machine.execCal x0 x1 x2 x3 x4 s
  | .frameOpIssue x0 => Sys2Proof.Machine.execFrameOpIssue x0 s
  | .frameResult => Sys2Proof.Machine.execFrameResult s
  | .ladderTimeout x0 => Sys2Proof.Machine.execLadderTimeout x0 s
  | .rowCommit x0 => Sys2Proof.Machine.execRowCommit x0 s
  | .frontierWrite x0 => Sys2Proof.Machine.execFrontierWrite x0 s
  | .raDrop => Sys2Proof.Machine.execRaDrop s
  | .fmtRunSet => Sys2Proof.Machine.execFmtRunSet s
  | .fmtRunClear => Sys2Proof.Machine.execFmtRunClear s
  | .descriptorLoad x0 x1 => Sys2Proof.Machine.execDescriptorLoad x0 x1 s
  | .fmtStoreWrite x0 x1 => Sys2Proof.Machine.execFmtStoreWrite x0 x1 s
  | .acdRun x0 => Sys2Proof.Machine.execAcdRun x0 s
  | .placementGen => Sys2Proof.Machine.execPlacementGen s
  | .placementGenDone => Sys2Proof.Machine.execPlacementGenDone s
  | .rbldHold x0 => Sys2Proof.Machine.execRbldHold x0 s
  | .acdClean => Sys2Proof.Machine.execAcdClean s
  | .acdCleanClr => Sys2Proof.Machine.execAcdCleanClr s
  | .acdLose x0 => Sys2Proof.Machine.execAcdLose x0 s
  | .streamTurn x0 => Sys2Proof.Machine.execStreamTurn x0 s
  | .rowSubmit x0 => Sys2Proof.Machine.execRowSubmit x0 s
  | .rebuildRow x0 => Sys2Proof.Machine.execRebuildRow x0 s
  | .cursorUpdate => Sys2Proof.Machine.execCursorUpdate s
  | .rebuildBatchWrite => Sys2Proof.Machine.execRebuildBatchWrite s
  | .journalInterval => Sys2Proof.Machine.execJournalInterval s
  | .journalLazy => Sys2Proof.Machine.execJournalLazy s
  | .journalWritten x0 => Sys2Proof.Machine.execJournalWritten x0 s
  | .checkpointTimer => Sys2Proof.Machine.execCheckpointTimer s
  | .checkpointWritten x0 => Sys2Proof.Machine.execCheckpointWritten x0 s
  | .checkpointRestore x0 x1 => Sys2Proof.Machine.execCheckpointRestore x0 x1 s
  | .resyncZone x0 x1 x2 x3 => Sys2Proof.Machine.execResyncZone x0 x1 x2 x3 s
  | .wedgeDecision x0 x1 => Sys2Proof.Machine.execWedgeDecision x0 x1 s
  | .blendEnd x0 => Sys2Proof.Machine.execBlendEnd x0 s
  | .settleReached x0 => Sys2Proof.Machine.execSettleReached x0 s
  | .inhibitRelease x0 => Sys2Proof.Machine.execInhibitRelease x0 s
  | .microactuatorSaturation x0 => Sys2Proof.Machine.execMicroactuatorSaturation x0 s
  | .headLost x0 => Sys2Proof.Machine.execHeadLost x0 s
  | .headRecover x0 => Sys2Proof.Machine.execHeadRecover x0 s
  | .actuatorLost x0 => Sys2Proof.Machine.execActuatorLost x0 s
  | .seekTimeout x0 => Sys2Proof.Machine.execSeekTimeout x0 s
  | .targetWrite x0 x1 => Sys2Proof.Machine.execTargetWrite x0 x1 s
  | .seekRunAhead x0 x1 => Sys2Proof.Machine.execSeekRunAhead x0 x1 s
  | .loadRequest x0 => Sys2Proof.Machine.execLoadRequest x0 s
  | .loadTimeout x0 => Sys2Proof.Machine.execLoadTimeout x0 s
  | .unloadRequest x0 => Sys2Proof.Machine.execUnloadRequest x0 s
  | .retractRequest x0 => Sys2Proof.Machine.execRetractRequest x0 s
  | .retractPhaseEnd x0 => Sys2Proof.Machine.execRetractPhaseEnd x0 s
  | .linkDownRetract x0 => Sys2Proof.Machine.execLinkDownRetract x0 s
  | .vcmOpenCoil x0 => Sys2Proof.Machine.execVcmOpenCoil x0 s
  | .vcmOvercurrent x0 => Sys2Proof.Machine.execVcmOvercurrent x0 s
  | .vcmOcTest x0 x1 => Sys2Proof.Machine.execVcmOcTest x0 x1 s
  | .vcmLeadShort x0 => Sys2Proof.Machine.execVcmLeadShort x0 s
  | .vcmPolarityRunaway x0 => Sys2Proof.Machine.execVcmPolarityRunaway x0 s
  | .pwmPeriod x0 x1 x2 x3 x4 x5 x6 => Sys2Proof.Machine.execPwmPeriod x0 x1 x2 x3 x4 x5 x6 s
  | .currentSenseFault => Sys2Proof.Machine.execCurrentSenseFault s
  | .shuntOvercurrent x0 => Sys2Proof.Machine.execShuntOvercurrent x0 s
  | .observerLock => Sys2Proof.Machine.execObserverLock s
  | .observerLockLoss => Sys2Proof.Machine.execObserverLockLoss s
  | .pilotHandover => Sys2Proof.Machine.execPilotHandover s
  | .angleDisagreement => Sys2Proof.Machine.execAngleDisagreement s
  | .pilotSuspect => Sys2Proof.Machine.execPilotSuspect s
  | .speedLoopUpdate x0 x1 x2 x3 x4 x5 x6 x7 => Sys2Proof.Machine.execSpeedLoopUpdate x0 x1 x2 x3 x4 x5 x6 x7 s
  | .spdRefEdge x0 => Sys2Proof.Machine.execSpdRefEdge x0 s
  | .phaseLock => Sys2Proof.Machine.execPhaseLock s
  | .referenceLost => Sys2Proof.Machine.execReferenceLost s
  | .spdRefSample x0 => Sys2Proof.Machine.execSpdRefSample x0 s
  | .autostart => Sys2Proof.Machine.execAutostart s
  | .spnStart => Sys2Proof.Machine.execSpnStart s
  | .spnStop => Sys2Proof.Machine.execSpnStop s
  | .spnDrydown => Sys2Proof.Machine.execSpnDrydown s
  | .spnPark => Sys2Proof.Machine.execSpnPark s
  | .psuspClear => Sys2Proof.Machine.execPsuspClear s
  | .spnCal => Sys2Proof.Machine.execSpnCal s
  | .eofsCalDone x0 => Sys2Proof.Machine.execEofsCalDone x0 s
  | .speedTargetWrite x0 => Sys2Proof.Machine.execSpeedTargetWrite x0 s
  | .senseEnd x0 x1 => Sys2Proof.Machine.execSenseEnd x0 x1 s
  | .brakeEnd => Sys2Proof.Machine.execBrakeEnd s
  | .brakeTimeout => Sys2Proof.Machine.execBrakeTimeout s
  | .alignEnd x0 x1 => Sys2Proof.Machine.execAlignEnd x0 x1 s
  | .openloopHandover => Sys2Proof.Machine.execOpenloopHandover s
  | .startFailure => Sys2Proof.Machine.execStartFailure s
  | .phaseOrderLearn => Sys2Proof.Machine.execPhaseOrderLearn s
  | .catchEnd => Sys2Proof.Machine.execCatchEnd s
  | .loadokSet => Sys2Proof.Machine.execLoadokSet s
  | .reacqAttemptEnd x0 => Sys2Proof.Machine.execReacqAttemptEnd x0 s
  | .reacqFailure => Sys2Proof.Machine.execReacqFailure s
  | .speedFallback => Sys2Proof.Machine.execSpeedFallback s
  | .lowSpeedDrydown => Sys2Proof.Machine.execLowSpeedDrydown s
  | .drydownTimeout => Sys2Proof.Machine.execDrydownTimeout s
  | .actuatorsParked => Sys2Proof.Machine.execActuatorsParked s
  | .spindleStopped => Sys2Proof.Machine.execSpindleStopped s
  | .powerLoss => Sys2Proof.Machine.execPowerLoss s
  | .regenEnd => Sys2Proof.Machine.execRegenEnd s
  | .phaseShortGround x0 => Sys2Proof.Machine.execPhaseShortGround x0 s
  | .openPhase x0 => Sys2Proof.Machine.execOpenPhase x0 s
  | .busOvervoltage => Sys2Proof.Machine.execBusOvervoltage s
  | .overcurrentTest x0 => Sys2Proof.Machine.execOvercurrentTest x0 s
  | .contextDispatch x0 => Sys2Proof.Machine.execContextDispatch x0 s
  | .nop x0 x1 x2 => Sys2Proof.Machine.execNop x0 x1 x2 s
  | .mul x0 x1 x2 x3 x4 x5 => Sys2Proof.Machine.execMul x0 x1 x2 x3 x4 x5 s
  | .mac x0 x1 x2 x3 x4 x5 => Sys2Proof.Machine.execMac x0 x1 x2 x3 x4 x5 s
  | .msu x0 x1 x2 x3 x4 x5 => Sys2Proof.Machine.execMsu x0 x1 x2 x3 x4 x5 s
  | .add x0 x1 x2 x3 => Sys2Proof.Machine.execAdd x0 x1 x2 x3 s
  | .lda x0 x1 x2 x3 => Sys2Proof.Machine.execLda x0 x1 x2 x3 s
  | .clr x0 x1 x2 => Sys2Proof.Machine.execClr x0 x1 x2 s
  | .abs x0 x1 x2 => Sys2Proof.Machine.execAbs x0 x1 x2 s
  | .wr x0 x1 x2 x3 x4 x5 => Sys2Proof.Machine.execWr x0 x1 x2 x3 x4 x5 s
  | .min x0 x1 x2 x3 => Sys2Proof.Machine.execMin x0 x1 x2 x3 s
  | .max x0 x1 x2 x3 => Sys2Proof.Machine.execMax x0 x1 x2 x3 s
  | .ld x0 x1 x2 x3 x4 x5 => Sys2Proof.Machine.execLd x0 x1 x2 x3 x4 x5 s
  | .loadDataReturn x0 => Sys2Proof.Machine.execLoadDataReturn x0 s
  | .st x0 x1 x2 x3 x4 x5 => Sys2Proof.Machine.execSt x0 x1 x2 x3 x4 x5 s
  | .stg x0 x1 x2 x3 x4 x5 => Sys2Proof.Machine.execStg x0 x1 x2 x3 x4 x5 s
  | .dir x0 x1 x2 x3 x4 x5 => Sys2Proof.Machine.execDir x0 x1 x2 x3 x4 x5 s
  | .movb x0 x1 x2 x3 x4 x5 => Sys2Proof.Machine.execMovb x0 x1 x2 x3 x4 x5 s
  | .jmp x0 x1 x2 => Sys2Proof.Machine.execJmp x0 x1 x2 s
  | .br x0 x1 x2 x3 => Sys2Proof.Machine.execBr x0 x1 x2 x3 s
  | .brn x0 x1 x2 x3 => Sys2Proof.Machine.execBrn x0 x1 x2 x3 s
  | .loop x0 x1 x2 => Sys2Proof.Machine.execLoop x0 x1 x2 s
  | .setx x0 x1 x2 x3 => Sys2Proof.Machine.execSetx x0 x1 x2 x3 s
  | .cmt x0 x1 => Sys2Proof.Machine.execCmt x0 x1 s
  | .endOp x0 x1 => Sys2Proof.Machine.execEndOp x0 x1 s
  | .cmtend x0 x1 => Sys2Proof.Machine.execCmtend x0 x1 s
  | .sig x0 x1 x2 => Sys2Proof.Machine.execSig x0 x1 x2 s
  | .kill x0 x1 x2 => Sys2Proof.Machine.execKill x0 x1 x2 s
  | .ovr x0 x1 x2 x3 => Sys2Proof.Machine.execOvr x0 x1 x2 x3 s
  | .ovrrel x0 x1 x2 => Sys2Proof.Machine.execOvrrel x0 x1 x2 s
  | .trc x0 x1 x2 x3 => Sys2Proof.Machine.execTrc x0 x1 x2 x3 s
  | .customerWordLimit x0 => Sys2Proof.Machine.execCustomerWordLimit x0 s
  | .lpeTrig x0 x1 => Sys2Proof.Machine.execLpeTrig x0 x1 s
  | .lpeKill x0 x1 => Sys2Proof.Machine.execLpeKill x0 x1 s
  | .fwOverrideSet x0 x1 => Sys2Proof.Machine.execFwOverrideSet x0 x1 s
  | .fwOverrideRelease x0 => Sys2Proof.Machine.execFwOverrideRelease x0 s
  | .lpeRun x0 => Sys2Proof.Machine.execLpeRun x0 s
  | .imageLoad x0 => Sys2Proof.Machine.execImageLoad x0 s
  | .imageLoadDone x0 => Sys2Proof.Machine.execImageLoadDone x0 s
  | .imageCopy x0 => Sys2Proof.Machine.execImageCopy x0 s
  | .controlStoreScrub x0 x1 => Sys2Proof.Machine.execControlStoreScrub x0 x1 s
  | .sillageArm x0 => Sys2Proof.Machine.execSillageArm x0 s
  | .sillageForce x0 => Sys2Proof.Machine.execSillageForce x0 s
  | .sillageStop x0 => Sys2Proof.Machine.execSillageStop x0 s
  | .sillagePeriodCapture x0 => Sys2Proof.Machine.execSillagePeriodCapture x0 s
  | .sillageDone x0 => Sys2Proof.Machine.execSillageDone x0 s
  | .sildatRead => Sys2Proof.Machine.execSildatRead s
  | .dramRead x0 x1 x2 => Sys2Proof.Machine.execDramRead x0 x1 x2 s
  | .dramWrite x0 x1 x2 x3 => Sys2Proof.Machine.execDramWrite x0 x1 x2 x3 s
  | .sramFillDone => Sys2Proof.Machine.execSramFillDone s
  | .backgroundFillPage => Sys2Proof.Machine.execBackgroundFillPage s
  | .mergeTimeout x0 => Sys2Proof.Machine.execMergeTimeout x0 s
  | .bufFence => Sys2Proof.Machine.execBufFence s
  | .scrubBlock x0 => Sys2Proof.Machine.execScrubBlock x0 s
  | .sramScrub x0 => Sys2Proof.Machine.execSramScrub x0 s
  | .retireGo x0 => Sys2Proof.Machine.execRetireGo x0 s
  | .retireDone x0 => Sys2Proof.Machine.execRetireDone x0 s
  | .dmaResume x0 => Sys2Proof.Machine.execDmaResume x0 s
  | .wck2dqTracking => Sys2Proof.Machine.execWck2dqTracking s
  | .sqTailDoorbell x0 x1 => Sys2Proof.Machine.execSqTailDoorbell x0 x1 s
  | .cqHeadDoorbell x0 x1 => Sys2Proof.Machine.execCqHeadDoorbell x0 x1 s
  | .vendorDoorbell x0 x1 => Sys2Proof.Machine.execVendorDoorbell x0 x1 s
  | .ccEnable x0 => Sys2Proof.Machine.execCcEnable x0 s
  | .controllerReady => Sys2Proof.Machine.execControllerReady s
  | .ccDisable => Sys2Proof.Machine.execCcDisable s
  | .nvmSubsystemReset => Sys2Proof.Machine.execNvmSubsystemReset s
  | .resetDrainTimeout => Sys2Proof.Machine.execResetDrainTimeout s
  | .shutdownNormal => Sys2Proof.Machine.execShutdownNormal s
  | .shutdownAbrupt => Sys2Proof.Machine.execShutdownAbrupt s
  | .commandFetch x0 => Sys2Proof.Machine.execCommandFetch x0 s
  | .deleteIoSq x0 x1 => Sys2Proof.Machine.execDeleteIoSq x0 x1 s
  | .createIoSq x0 x1 x2 x3 => Sys2Proof.Machine.execCreateIoSq x0 x1 x2 x3 s
  | .deleteIoCq x0 x1 => Sys2Proof.Machine.execDeleteIoCq x0 x1 s
  | .createIoCq x0 x1 x2 x3 x4 => Sys2Proof.Machine.execCreateIoCq x0 x1 x2 x3 x4 s
  | .getLogPage x0 x1 x2 x3 x4 => Sys2Proof.Machine.execGetLogPage x0 x1 x2 x3 x4 s
  | .identify x0 => Sys2Proof.Machine.execIdentify x0 s
  | .abort x0 => Sys2Proof.Machine.execAbort x0 s
  | .setFeatures x0 x1 x2 => Sys2Proof.Machine.execSetFeatures x0 x1 x2 s
  | .powerManagement x0 x1 => Sys2Proof.Machine.execPowerManagement x0 x1 s
  | .numberOfQueues x0 x1 x2 => Sys2Proof.Machine.execNumberOfQueues x0 x1 x2 s
  | .volatileWriteCache x0 x1 => Sys2Proof.Machine.execVolatileWriteCache x0 x1 s
  | .spinWaitLimit x0 x1 => Sys2Proof.Machine.execSpinWaitLimit x0 x1 s
  | .diagnosticUnlock x0 x1 x2 => Sys2Proof.Machine.execDiagnosticUnlock x0 x1 x2 s
  | .mediaPolicy x0 x1 x2 x3 => Sys2Proof.Machine.execMediaPolicy x0 x1 x2 x3 s
  | .getFeatures x0 x1 x2 => Sys2Proof.Machine.execGetFeatures x0 x1 x2 s
  | .asyncEventRequest x0 => Sys2Proof.Machine.execAsyncEventRequest x0 s
  | .firmwareImageDownload x0 x1 x2 => Sys2Proof.Machine.execFirmwareImageDownload x0 x1 x2 s
  | .firmwareCommit x0 x1 x2 x3 x4 => Sys2Proof.Machine.execFirmwareCommit x0 x1 x2 x3 x4 s
  | .firmwareActivation => Sys2Proof.Machine.execFirmwareActivation s
  | .activationTimeout => Sys2Proof.Machine.execActivationTimeout s
  | .flush x0 x1 => Sys2Proof.Machine.execFlush x0 x1 s
  | .write x0 x1 => Sys2Proof.Machine.execWrite x0 x1 s
  | .read x0 x1 => Sys2Proof.Machine.execRead x0 x1 s
  | .zoneAppend x0 x1 => Sys2Proof.Machine.execZoneAppend x0 x1 s
  | .zoneClose x0 x1 x2 x3 => Sys2Proof.Machine.execZoneClose x0 x1 x2 x3 s
  | .zoneFinish x0 x1 x2 x3 => Sys2Proof.Machine.execZoneFinish x0 x1 x2 x3 s
  | .zoneOpen x0 x1 x2 x3 => Sys2Proof.Machine.execZoneOpen x0 x1 x2 x3 s
  | .zoneReset x0 x1 x2 x3 => Sys2Proof.Machine.execZoneReset x0 x1 x2 x3 s
  | .zoneOffline x0 x1 x2 => Sys2Proof.Machine.execZoneOffline x0 x1 x2 s
  | .setZoneDescriptorExtension x0 x1 x2 => Sys2Proof.Machine.execSetZoneDescriptorExtension x0 x1 x2 s
  | .reportZones x0 x1 x2 x3 x4 x5 x6 => Sys2Proof.Machine.execReportZones x0 x1 x2 x3 x4 x5 x6 s
  | .spinWaitExpiry x0 x1 => Sys2Proof.Machine.execSpinWaitExpiry x0 x1 s
  | .frontierWaitExpiry x0 => Sys2Proof.Machine.execFrontierWaitExpiry x0 s
  | .nvqRun x0 => Sys2Proof.Machine.execNvqRun x0 s
  | .linkDown => Sys2Proof.Machine.execLinkDown s
  | .perstAssert => Sys2Proof.Machine.execPerstAssert s
  | .perstDeassert => Sys2Proof.Machine.execPerstDeassert s
  | .memoryReadRequest x0 => Sys2Proof.Machine.execMemoryReadRequest x0 s
  | .memoryWriteRequest x0 => Sys2Proof.Machine.execMemoryWriteRequest x0 s
  | .configRequest x0 => Sys2Proof.Machine.execConfigRequest x0 s
  | .messageReceived x0 => Sys2Proof.Machine.execMessageReceived x0 s
  | .pmeTurnOff => Sys2Proof.Machine.execPmeTurnOff s
  | .completionReceived x0 x1 x2 => Sys2Proof.Machine.execCompletionReceived x0 x1 x2 s
  | .completionTimeout x0 => Sys2Proof.Machine.execCompletionTimeout x0 s
  | .quarantineEnd x0 => Sys2Proof.Machine.execQuarantineEnd x0 s
  | .busMasterDisable => Sys2Proof.Machine.execBusMasterDisable s
  | .busMasterEnable x0 => Sys2Proof.Machine.execBusMasterEnable x0 s
  | .functionLevelReset => Sys2Proof.Machine.execFunctionLevelReset s
  | .d3hotEntry => Sys2Proof.Machine.execD3hotEntry s
  | .d0Entry => Sys2Proof.Machine.execD0Entry s
  | .egressFreeze => Sys2Proof.Machine.execEgressFreeze s
  | .freezeRelease => Sys2Proof.Machine.execFreezeRelease s
  | .l1Entry => Sys2Proof.Machine.execL1Entry s
  | .msixUnmask x0 => Sys2Proof.Machine.execMsixUnmask x0 s
  | .railMonitorTrip x0 => Sys2Proof.Machine.execRailMonitorTrip x0 s
  | .railMonitorClear x0 => Sys2Proof.Machine.execRailMonitorClear x0 s
  | .macerationExpiry x0 => Sys2Proof.Machine.execMacerationExpiry x0 s
  | .recoveryWindowClose x0 => Sys2Proof.Machine.execRecoveryWindowClose x0 s
  | .faultInject x0 => Sys2Proof.Machine.execFaultInject x0 s
  | .firstCaptureRearm => Sys2Proof.Machine.execFirstCaptureRearm s
  | .bnrFirmwareEntry x0 => Sys2Proof.Machine.execBnrFirmwareEntry x0 s
  | .bnrDat7Read => Sys2Proof.Machine.execBnrDat7Read s
  | .bnrDump => Sys2Proof.Machine.execBnrDump s
  | .dumpComplete => Sys2Proof.Machine.execDumpComplete s
  | .pwrGoodRise x0 x1 x2 x3 => Sys2Proof.Machine.execPwrGoodRise x0 x1 x2 x3 s
  | .pwrGoodFall => Sys2Proof.Machine.execPwrGoodFall s
  | .resetNAssert => Sys2Proof.Machine.execResetNAssert s
  | .resetNDeassert x0 x1 x2 => Sys2Proof.Machine.execResetNDeassert x0 x1 x2 s
  | .glbWarmReset x0 x1 x2 x3 => Sys2Proof.Machine.execGlbWarmReset x0 x1 x2 x3 s
  | .glbColdReset x0 x1 x2 x3 => Sys2Proof.Machine.execGlbColdReset x0 x1 x2 x3 s
  | .vddAonLow => Sys2Proof.Machine.execVddAonLow s
  | .vddAonReturn x0 x1 x2 => Sys2Proof.Machine.execVddAonReturn x0 x1 x2 s
  | .flaconLoadDone x0 x1 x2 x3 x4 x5 x6 => Sys2Proof.Machine.execFlaconLoadDone x0 x1 x2 x3 x4 x5 x6 s
  | .dramTrainingDone x0 x1 => Sys2Proof.Machine.execDramTrainingDone x0 x1 s
  | .configurationComplete => Sys2Proof.Machine.execConfigurationComplete s
  | .cfgdoneTimeout => Sys2Proof.Machine.execCfgdoneTimeout s
  | .avsVoltageRequest x0 x1 => Sys2Proof.Machine.execAvsVoltageRequest x0 x1 s
  | .dieTemperatureTrip x0 => Sys2Proof.Machine.execDieTemperatureTrip x0 s
  | .bypass => Sys2Proof.Machine.execBypass s
  | .idcode => Sys2Proof.Machine.execIdcode s
  | .samplePreload x0 => Sys2Proof.Machine.execSamplePreload x0 s
  | .extest => Sys2Proof.Machine.execExtest s
  | .clamp => Sys2Proof.Machine.execClamp s
  | .highz => Sys2Proof.Machine.execHighz s
  | .mgrRun x0 x1 x2 => Sys2Proof.Machine.execMgrRun x0 x1 x2 s
  | .mgrDiscover x0 => Sys2Proof.Machine.execMgrDiscover x0 s
  | .mgrFwGo => Sys2Proof.Machine.execMgrFwGo s
  | .pollPeriod => Sys2Proof.Machine.execPollPeriod s
  | .claikReplyTimeout => Sys2Proof.Machine.execClaikReplyTimeout s
  | .upstreamSilence => Sys2Proof.Machine.execUpstreamSilence s
  | .discoverResponseSlot => Sys2Proof.Machine.execDiscoverResponseSlot s
  | .poll x0 x1 => Sys2Proof.Machine.execPoll x0 x1 s
  | .discover x0 => Sys2Proof.Machine.execDiscover x0 s
  | .assign x0 x1 x2 x3 x4 => Sys2Proof.Machine.execAssign x0 x1 x2 x3 x4 s
  | .grant x0 x1 x2 => Sys2Proof.Machine.execGrant x0 x1 x2 s
  | .drydown x0 x1 => Sys2Proof.Machine.execDrydown x0 x1 s
  | .release x0 x1 => Sys2Proof.Machine.execRelease x0 x1 s
  | .spin x0 x1 => Sys2Proof.Machine.execSpin x0 x1 s
  | .pscap x0 x1 x2 => Sys2Proof.Machine.execPscap x0 x1 x2 s
  | .setref x0 x1 x2 x3 x4 => Sys2Proof.Machine.execSetref x0 x1 x2 x3 x4 s
  | .fwactivate x0 x1 => Sys2Proof.Machine.execFwactivate x0 x1 s
  | .sync x0 x1 => Sys2Proof.Machine.execSync x0 x1 s
  | .fwdata x0 x1 => Sys2Proof.Machine.execFwdata x0 x1 s
  | .fwctlQuery x0 x1 => Sys2Proof.Machine.execFwctlQuery x0 x1 s
  | .fwctlCommit x0 x1 x2 => Sys2Proof.Machine.execFwctlCommit x0 x1 x2 s
  | .harvest x0 x1 x2 x3 => Sys2Proof.Machine.execHarvest x0 x1 x2 x3 s
  | .peerinfo x0 x1 => Sys2Proof.Machine.execPeerinfo x0 x1 s
  | .wake x0 x1 => Sys2Proof.Machine.execWake x0 x1 s
  | .reservedType x0 => Sys2Proof.Machine.execReservedType x0 s
  | .status x0 x1 => Sys2Proof.Machine.execStatus x0 x1 s
  | .hello x0 x1 x2 => Sys2Proof.Machine.execHello x0 x1 x2 s
  | .ack x0 x1 x2 => Sys2Proof.Machine.execAck x0 x1 x2 s
  | .fwstat x0 x1 x2 => Sys2Proof.Machine.execFwstat x0 x1 x2 s
  | .record x0 x1 => Sys2Proof.Machine.execRecord x0 x1 s
  | .harvestTimer => Sys2Proof.Machine.execHarvestTimer s
  | .peerCommandTimeout x0 x1 => Sys2Proof.Machine.execPeerCommandTimeout x0 x1 s
  | .workerSilent x0 => Sys2Proof.Machine.execWorkerSilent x0 s
  | .syncOutFault => Sys2Proof.Machine.execSyncOutFault s
  | .registerWrite x0 x1 x2 => Sys2Proof.Machine.execRegisterWrite x0 x1 x2 s
  | .referenceClockLost x0 => Sys2Proof.Machine.execReferenceClockLost x0 s
  | .referenceClockReturn x0 => Sys2Proof.Machine.execReferenceClockReturn x0 s
  | .watchdogExpiry x0 => Sys2Proof.Machine.execWatchdogExpiry x0 s
  | .sramRead x0 x1 x2 x3 => Sys2Proof.Machine.execSramRead x0 x1 x2 x3 s
  | .clearingRead x0 x1 => Sys2Proof.Machine.execClearingRead x0 x1 s
  | .srvMemdatWrite x0 x1 => Sys2Proof.Machine.execSrvMemdatWrite x0 x1 s
  | .srvMemdatRead x0 => Sys2Proof.Machine.execSrvMemdatRead x0 s
  | .vcmSensePairExchanged x0 => Sys2Proof.Machine.execVcmSensePairExchanged x0 s
  | .claikFrameCrcError x0 => Sys2Proof.Machine.execClaikFrameCrcError x0 s
  | .addressConflict x0 => Sys2Proof.Machine.execAddressConflict x0 s
  | .discoverRoundEnd => Sys2Proof.Machine.execDiscoverRoundEnd s
  | .ckminExpiry => Sys2Proof.Machine.execCkminExpiry s
  | .dataLinkUp x0 x1 x2 => Sys2Proof.Machine.execDataLinkUp x0 x1 x2 s
  | .linkError x0 => Sys2Proof.Machine.execLinkError x0 s
  | .aggregationTimeExpiry x0 => Sys2Proof.Machine.execAggregationTimeExpiry x0 s

end Sys2Proof.Machine
end

