-- ==== Sys2Proof/Machine/Step.lean ====
section
/-!
DEFINITION. A step: the command at the front of the queue takes effect.
-/

namespace Sys2Proof.Machine

/-- A step (log entry 4): the command at the front of the queue is executed with the queue's rest; on an empty queue the block
idles. -/
def step (s : State) : Host.Outcome State Fault Refusal :=
  match s.pending with
  | [] => .next s
  | c :: t => exec c { s with pending := t }

/-- The state with the command that a word spells at the front of its queue. No row of the command table has bits, so no word
spells a command. -/
def State.withFetchWord (s : State) (_nbits _w : Nat) : State := s

end Sys2Proof.Machine
end

