-- ==== Sys2Proof/Machine/Pins.lean ====
section
/-!
DEFINITION. The level of each output ball in a state (R304, R525, R527, R547, R615, R627, R630, R634–R636): what its owner drives, what the
test access port puts in its place, and the states from reset.
-/

namespace Sys2Proof.Machine

/-- The outputs of R636: GATE_UH to GATE_WL by number, the VCM enables and commands by actuator, the write pairs by lane, the head links by link,
chip selects by number, the Claik ports by name. -/
inductive OutPin where
  | gate (n : Fin 6)
  | vcmEn (a : Fin 4)
  | vcmDac (a : Fin 4)
  | writePair (l : Fin 48)
  | headLink (a : Fin 4)
  | syncOut
  | xspiCs (n : Fin 2)
  | xspiClk
  | xspiRst
  | clbDe (up : Bool)
  | clbTx (up : Bool)
  | faultN
  | wakeN
  | clkreqN
  | peTx
  | ddrReset
  | avs
  | tdo
  deriving DecidableEq, Repr

/-- What an output ball shows: a level, high impedance, zero differential or electrical idle, a DAC code, or the traffic of its owner. -/
inductive Level where
  | low | high | z | idle
  | code (v : Int)
  | active
  deriving DecidableEq, Repr

/-- A digital level. -/
def Level.ofBit (b : Bool) : Level := if b then .high else .low

/-- The states of R636 from a cold reset; PE_TXk are idle while PERST_N is asserted. -/
def resetLevel (p : OutPin) : Level :=
  match p with
  | .gate _ | .vcmEn _ | .headLink _ | .syncOut | .xspiClk | .xspiRst | .clbDe _ | .clkreqN | .ddrReset | .avs => .low
  | .vcmDac _ => .code 0
  | .writePair _ | .peTx => .idle
  | .xspiCs _ | .clbTx _ => .high
  | .faultN | .wakeN | .tdo => .z

/-- What the owner of an output drives. Frames, NOR accesses and shifts of the test port are over within a command (log entry 40). -/
def ownLevel (p : OutPin) (s : State) : Level :=
  match p with
  | .gate n => if s.on SPN_GATE n then .active else .low
  | .vcmEn a => .ofBit (s.on SRV_DRVEN a)
  | .vcmDac a => .code (s.getI SRV_DAC a)
  | .writePair l => if s.on LAN_STS_WRITING l then .active else .idle
  | .headLink a => if s.on HLK_CTL_EN a then .active else .low
  | .syncOut => if s.is GLB_ROLE_ROLE 0 2 && s.is GLB_ROLE_LEVEL 0 1 && s.on MGR_SYNC_EN 0 && !s.on MGR_SYNCLOW 0 then .active else .low
  | .xspiCs _ | .clbTx _ => .high
  | .xspiClk | .clbDe _ => .low
  | .xspiRst => .ofBit (decide (100000 ≤ s.aonNs))
  | .faultN => if s.on PAD_FAULT 0 then .low else .z
  | .wakeN => if s.on PAD_WAKE 0 then .low else .z
  | .clkreqN => if s.on PAD_CLKREQ 0 then .z else .low
  | .peTx => if s.on PAD_PERST 0 || inReset s then .idle else .active
  | .ddrReset => .ofBit (s.on BUF_STS_TRAINED 0 || decide (5 ≤ s.get GLB_BOOT_PHASE 0) || s.on GLB_BOOT_RECOVERY 0)
  | .avs => if s.on PAD_AVSMS 0 then .active else .low
  | .tdo => .z

/-- The place of a ball in the boundary-scan chain, which the spec does not order; lanes, head links, PCIe lanes and analog balls have none
(R635). -/
def scanCell (p : OutPin) : Option Nat :=
  match p with
  | .gate n => some (Config.scanOrder n)
  | .vcmEn a => some (Config.scanOrder (8 + a))
  | .syncOut => some (Config.scanOrder 12)
  | .xspiCs n => some (Config.scanOrder (14 + n))
  | .xspiClk => some (Config.scanOrder 16)
  | .xspiRst => some (Config.scanOrder 17)
  | .clbDe up => some (Config.scanOrder (18 + up.toNat))
  | .clbTx up => some (Config.scanOrder (20 + up.toNat))
  | .faultN => some (Config.scanOrder 22)
  | .wakeN => some (Config.scanOrder 23)
  | .clkreqN => some (Config.scanOrder 24)
  | .ddrReset => some (Config.scanOrder 25)
  | .avs => some (Config.scanOrder 26)
  | .vcmDac _ | .writePair _ | .headLink _ | .peTx | .tdo => none

/-- The level of an output: with TESTEN every output but TDO is at high impedance (R634); EXTEST and CLAMP drive what has been preloaded, HIGHZ
nothing (R635); else its owner drives it. -/
def pinLevel (p : OutPin) (s : State) : Level :=
  if s.on PAD_TEST 0 && p != .tdo then .z
  else match scanCell p with
    | none => ownLevel p s
    | some c =>
      if s.is PAD_TAP 0 3 || s.is PAD_TAP 0 4 then .ofBit ((s.get PAD_SCAN 0).testBit c)
      else if s.is PAD_TAP 0 5 then .z
      else ownLevel p s

end Sys2Proof.Machine
end

