-- ==== Sys2Proof/Safety.lean ====
section
/-!
DEFINITION. What counts as a safe state, and the terms that statements use: memory in its canonical form, what a command leaves of the
queue, when a block takes commands, and what a command leaves unchanged.
-/

namespace Sys2Proof.Machine

/-- Memory is in its canonical form. -/
def State.memOk (s : State) : Prop := s.mem.wf = true

/-- The outcome is a next state. -/
def Runs (o : Host.Outcome State Fault Refusal) : Prop := ∃ t, o = .next t

/-- `t` with the queue of `s`: a command never changes the queue of those that wait. -/
def State.after (s t : State) : State := { t with pending := s.pending }

/-- `t` once the media path and the host side have settled, with the queue of `s`: what a command of those leaves (R165, R446). -/
def State.settled (s t : State) : State := s.after (settle s t)

/-- The angle block takes commands: its domain has supply and its window is not powered off (R661, R663). -/
def angleAwake (s : State) : Prop := aonDown s = false ∧ poweredOff 1 s = false

/-- From `s` to `t` no register field changes but those of `fs`, and no byte of memory. -/
def Keeps (fs : List Field) (s t : State) : Prop :=
  (∀ f i, (∀ g ∈ fs, g.id ≠ f.id) → t.get f i = s.get f i) ∧ t.mem = s.mem

/-- Context `c` executes the next word it fetches: it runs and is not stalled, has gathered no operation yet and has words left, and the
word at its program counter is readable and lies in the region of its entry (R364, R368, R382, R383, R394). -/
structure Fetches (c : Nat) (s : State) : Prop where
  runs : s.is LPE_CTXSTS_STATE c 2 = true
  free : s.on CTX_STALL c = false
  left : wordsUsed c s = false
  empty : NMap.get [] s.word c = []
  good : s.csBad.contains (65536 * s.get CTX_BANK c + s.get CTX_PC c) = false
  region : regionOf (s.get CTX_PC c) = regionOfCtx c s

/-- The next word that context `c` executes holds operation `i` and no other, and no reserved encoding (R364, R365–R367). -/
structure FetchesOnly (c : Nat) (i : Instr) (s : State) : Prop where
  fetch : Fetches c s
  held : spells (fetchWord c s) i = true
  whole : wordComplete (fetchWord c s) [i] = true
  plain : reservedWord (fetchWord c s) = false

/-- `s` with the word of context `c` taken: nothing gathered, the word counted, the program counter behind it. -/
def wordTaken (c : Nat) (s : State) : State :=
  ({ s with word := s.word.del c }.bump CTX_WORDS c).set CTX_PC c (s.get CTX_PC c + 1)

end Sys2Proof.Machine
end

