-- ==== Sys2Proof/Certificates/Slice0/Obligations.lean ====
section
/-!
DEFINITION. The statements about the FV4812: what a step does, what the commands of each family do, and what the machine keeps.
-/

open Sys2Proof Sys2Proof.Machine

/-! ## The machine as a whole -/

/-- Step: the command at the front of the queue takes effect, with the queue's rest; with an empty queue the block idles (the block's
own form; log entry 4). -/
def Obligations.StepTakesFront : Prop :=
  (∀ (c : Instr) (q : List Instr) (s : State), step { s with pending := c :: q } = exec c { s with pending := q }) ∧
  (∀ s : State, s.pending = [] → step s = .next s)

/-- Every command of the table ends in a next state, whatever the state, and leaves the queue of the waiting commands as it is. -/
def Obligations.EveryCommandCompletes : Prop :=
  ∀ (c : Instr) (s : State), ∃ t, exec c s = .next t ∧ t.pending = s.pending

/-- A run of `n` steps never stops and takes the first `n` waiting commands, in order; idle steps take none. -/
def Obligations.RunsTakeCommandsInOrder : Prop :=
  ∀ (n : Nat) (s : State), ∃ t, Sys2Proof.core.run n s = .next t ∧ t.pending = s.pending.drop n

/-- The canonical form of memory is an invariant of every step, from every state that has it. -/
def Obligations.MemoryStaysCanonical : Prop :=
  ∀ s t : State, s.memOk → step s = .next t → t.memOk

/-- Memory is in its canonical form at reset. -/
def Obligations.ResetMemoryCanonical : Prop := State.reset.memOk

/-- No step takes back what has left the block, and none uses a free value twice: outputs are only added, and the counter of free
values only rises (log entries 2, 3). -/
def Obligations.OutputsOnlyGrow : Prop :=
  ∀ s t : State, step s = .next t → s.out <+: t.out ∧ s.fresh ≤ t.fresh

/-! ## The angle timebase -/

/-- R41: the stamp is 64 bits, revolutions above a 22-bit tick; a read of `ANG_STAMP_LO` returns bits 31..0 and captures `ANG_STAMP_HI`
of the same instant, and a read of `ANG_STAMP_HI` that follows returns the captured value. -/
def Obligations.StampReadCapturesHigh : Prop :=
  (∀ (s : State) (v : Nat), (s.setStamp v).stamp = v % 2 ^ 64 ∧ (s.setStamp v).tick = v % 2 ^ 22 ∧
    (s.setStamp v).stamp / 2 ^ 22 = v % 2 ^ 64 / 2 ^ 22 ∧
    (s.setStamp v).get ANG_STAMP_LO 0 = v % 2 ^ 32 ∧ (s.setStamp v).get ANG_STAMP_HI 0 = v / 2 ^ 32 % 2 ^ 32) ∧
  (∀ s : State, reaches 1 s = true → ∃ t, exec .stampLoRead s = .next t ∧ t.rdata = s.get ANG_STAMP_LO 0 ∧
    ∀ u : State, u.cap = t.cap → reaches 1 u = true →
      exec (.multiwordLowRead 0x20010014) u = .next (u.after (u.ret (s.get ANG_STAMP_HI 0))))

/-- A pilot sample that an awake angle block takes is recorded: phase after the polarity fields, amplitude (R29, R34). -/
def Obligations.PilotSampleRecorded : Prop :=
  ∀ (s : State) (n : Fin 2) (phase : BitVec 10) (amp : BitVec 12) (clip sig rev : Bool) (rate : Word) (proj : Int), angleAwake s →
    ∃ t, exec (.pilotSample n phase amp clip sig rev rate proj) s = .next t ∧ t.get ANG_PHASE n = correctPhase n phase.toNat s ∧
      t.get ANG_SAMPLED n = 1 ∧ (n = 0 → t.get ANG_PLT_AMP_PLT0 0 = amp.toNat) ∧ (n = 1 → t.get ANG_PLT_AMP_PLT1 0 = amp.toNat) ∧
      t.get ANG_AMPOK n = ((sig || (decide (s.get ANG_PLT_CFG_AMP_NOM n * s.get ANG_AMP_LIM_LO 0 ≤ amp.toNat * 100) &&
        decide (amp.toNat * 100 ≤ s.get ANG_PLT_CFG_AMP_NOM n * s.get ANG_AMP_LIM_HI 0))) && !clip).toNat

/-- One angle-clock cycle under a pilot source: a nanosecond passes, and the stamp moves towards the source's angle, less the difference
that stands, by one tick at most, backward only while DIR reads reverse (R30, R32, R33, R39, R42). Where no slew runs and tick 0 is not
passed; a powered-off angle block only lets the time pass. -/
def Obligations.ClockCycleMovesStamp : Prop :=
  (∀ (s : State) (p0 p1 : Int), angleAwake s → 1 ≤ s.get ANG_SRC_SRC 0 → s.get ANG_SRC_SRC 0 ≤ 3 → s.on ANG_SRC_SLEW 0 = false →
    s.get ANG_SLEWREM 0 = 0 → s.on ANG_SLEWDUE 0 = false → preciseNow s = s.on ANG_SRC_PRECISE 0 →
    let u := (s.setI ANG_PROJ 0 (wrapTicks p0)).setI ANG_PROJ 1 (wrapTicks p1)
    let d := wrapTicks ((sourceAngle (s.get ANG_SRC_SRC 0) u : Int) - s.getI ANG_SRCOFS 0 - s.tick)
    let moves (n : Nat) : Prop := ∃ t, exec (.angleClockCycle (p0, p1)) s = .next t ∧ t.stamp = n ∧ t.aonNs = s.aonNs + 1 ∧ t.mem = s.mem ∧ t.out = s.out
    (d = 0 → moves s.stamp) ∧ (0 < d → (s.stamp + 1) % 2 ^ 22 ≠ 0 → moves (s.stamp + 1)) ∧
    (d < 0 → s.on ANG_SRC_DIR 0 = false → moves s.stamp) ∧ (d < 0 → s.on ANG_SRC_DIR 0 = true → s.tick ≠ 0 → moves (s.stamp - 1))) ∧
  (∀ (s : State) (p0 p1 : Int), aonDown s = false → poweredOff 1 s = true →
    exec (.angleClockCycle (p0, p1)) s = .next { s with aonNs := s.aonNs + 1 })

/-- An index signature of an enabled sensor is the zero of its angle and sets REF (R26, R27); a sensor that waits for
re-qualification is selectable again once it has been valid over a revolution with an index passage (R38). -/
def Obligations.IndexAndRequalification : Prop :=
  (∀ (s : State) (n : Fin 2), angleAwake s → plotEnabled n s = true →
    ∃ t, exec (.indexSignature n) s = .next t ∧ t.get ANG_POS n = 0 ∧ t.get ANG_HASREF n = 1 ∧ t.on ANG_SRC_REF 0 = true) ∧
  (∀ (s : State) (n : Fin 2), angleAwake s → s.on ANG_REQUAL n = true → s.on (validField n) 0 = true → s.on ANG_OKIDX n = true →
    16777216 ≤ (s.getI ANG_OKADV n).natAbs →
    exec (.sensorRequalify n) s = .next (s.after (pilotLoss (selectSource (s.set ANG_REQUAL n 0)))))

/-- R49: a target is written only while its comparator is disabled; while EN is set the write is ignored and sets ARMERR. -/
def Obligations.ComparatorTargetLocked : Prop :=
  ∀ (s : State) (n : Fin 256) (v : Word), reaches 1 s = true →
    (s.on ANG_CMP_EN n = true →
      (∃ t, exec (.angCmpWrite n 0 v) s = .next t ∧ t.get ANG_CMP_ARMERR n = 1 ∧ ∀ k, t.get ANG_CMP_TARGET k = s.get ANG_CMP_TARGET k) ∧
      (∃ t, exec (.angCmpWrite n 1 v) s = .next t ∧ t.get ANG_CMP_ARMERR n = 1 ∧ ∀ k, t.get ANG_CMP_TARGET k = s.get ANG_CMP_TARGET k)) ∧
    (s.on ANG_CMP_EN n = false →
      (exec (.angCmpWrite n 0 v) s = .next (s.after (s.set ANG_CMP_TARGET n (s.get ANG_CMP_TARGET n / 2 ^ 32 * 2 ^ 32 + v.toNat)))) ∧
      (exec (.angCmpWrite n 1 v) s = .next (s.after (s.set ANG_CMP_TARGET n (s.get ANG_CMP_TARGET n % 2 ^ 32 + v.toNat * 2 ^ 32)))))

/-- A comparator that is due counts, sets FIRED, advances by INTERVAL or is disabled, and takes its action (R46, R47); one that is not
due does nothing. -/
def Obligations.ComparatorFires : Prop :=
  (∀ (s : State) (n : Fin 256), angleAwake s → s.on ANG_CMP_EN n = true → s.on ANG_SRC_DIR 0 = false →
    s.get ANG_CMP_TARGET n ≤ s.stamp → s.on ANG_CMP_PERIODIC n = false → (s.get ANG_CMP_ACTION n = 0 ∨ s.get ANG_CMP_ACTION n = 3) →
    ∃ t, exec (.comparatorFire n) s = .next t ∧ t.get ANG_CMP_FIRED n = 1 ∧ t.get ANG_CMP_EN n = 0 ∧
      t.get ANG_CMP_COUNT n = (s.get ANG_CMP_COUNT n + 1) % 2 ^ ANG_CMP_COUNT.width ∧
      t.get ANG_CMP_TARGET n = s.get ANG_CMP_TARGET n ∧
      t.out = s.out ++ [if s.get ANG_CMP_ACTION n = 0 then .coreIrq none (some n.val) else .eventLine]) ∧
  (∀ (s : State) (n : Fin 256), angleAwake s → s.on ANG_CMP_EN n = true → s.on ANG_SRC_DIR 0 = false →
    s.get ANG_CMP_TARGET n ≤ s.stamp → s.on ANG_CMP_PERIODIC n = true → s.on ANG_CMP_INTERVAL n = true →
    (s.get ANG_CMP_ACTION n = 0 ∨ s.get ANG_CMP_ACTION n = 3) →
    ∃ t, exec (.comparatorFire n) s = .next t ∧ t.get ANG_CMP_FIRED n = 1 ∧ t.get ANG_CMP_EN n = s.get ANG_CMP_EN n ∧
      t.get ANG_CMP_TARGET n = (s.get ANG_CMP_TARGET n + s.get ANG_CMP_INTERVAL n) % 2 ^ ANG_CMP_TARGET.width ∧
      t.out = s.out ++ [if s.get ANG_CMP_ACTION n = 0 then .coreIrq none (some n.val) else .eventLine]) ∧
  (∀ (s : State) (n : Fin 256), cmpDue n s = false → exec (.comparatorFire n) s = .next s)

/-- Commit groups: COMMIT sets PENDING and clears DONE and REJECT (R60); CANCEL before the decision point clears PENDING (R64); the
decision point, 32 ticks before a boundary of the group, decides a group whose check holds and refuses one whose check fails; the boundary
swaps a decided group (R53, R61, R62), but for a lane group that a frame operation loads there, which stays pending undecided (R134). Away
from the angles of its boundaries a group does neither. -/
def Obligations.CommitGroupSteps : Prop :=
  ∀ (s : State) (b : ShBlk) (i : Fin 48) (g : Fin 8), reaches (blkNum b) s = true →
    (Sys2Proof.Machine.groupExists b i g = true → s.bit (pendF b) i g = false → swapsAtOnce (((s.setBit (pendF b) i g true).setBit (doneF b) i g
        false).setBit (rejectF b) i g false) = false →
      exec (.groupCommit b i g false) s = .next (s.after (settleGroup s (((s.setBit (pendF b) i g true).setBit (doneF b) i g
        false).setBit (rejectF b) i g false)))) ∧
    (s.bit (decidedF b) i g = false →
      exec (.groupCancel b i g) s = .next (s.after (settleGroup s (s.setBit (pendF b) i g false)))) ∧
    (s.bit (pendF b) i g = true → s.bit (decidedF b) i g = false → boundaryMet b i g 32 s = true → b = .lan → loadMeets i g 32 s = true →
      exec (.decisionPoint b i g) s = .next (s.after (settleGroup s s))) ∧
    (s.bit (pendF b) i g = true → s.bit (decidedF b) i g = false → boundaryMet b i g 32 s = true → ¬(b = .lan ∧ loadMeets i g 32 s = true) →
      exec (.decisionPoint b i g) s = .next (s.after (settleGroup s (if groupCheck b i g s then s.setBit (decidedF b) i g true
        else pulse (rejectSource b i).1 (rejectSource b i).2 ((s.setBit (pendF b) i g false).setBit (rejectF b) i g true))))) ∧
    (boundaryMet b i g 32 s = false → exec (.decisionPoint b i g) s = .next (s.after (settleGroup s s))) ∧
    (boundaryMet b i g 0 s = false → exec (.boundarySwap b i g) s = .next (s.after (settleGroup s s))) ∧
    (s.bit (pendF b) i g = true → s.bit (decidedF b) i g = true → boundaryMet b i g 0 s = true → b = .lan → loadMeets i g 0 s = true →
      exec (.boundarySwap b i g) s = .next (s.after (settleGroup s (s.setBit (decidedF b) i g false)))) ∧
    (s.bit (pendF b) i g = true → s.bit (decidedF b) i g = true → boundaryMet b i g 0 s = true → ¬(b = .lan ∧ loadMeets i g 0 s = true) →
      exec (.boundarySwap b i g) s = .next (s.after (settleGroup s (afterSwap b i g s ((((copyGroup b i g s).setBit (pendF b) i g
        false).setBit (decidedF b) i g false).setBit (doneF b) i g true)))))

/-- R62, R63, R58: a swap copies every shadow field of the group into the active copy; a write to a shadowed register completes, at its own address or
at that of the copy, lands in the shadow copy alone, and while the group is pending it is discarded and sets DROP. A write that names no
shadowed register does nothing. -/
def Obligations.ShadowWrites : Prop :=
  (∀ (b : ShBlk) (i g : Nat) (s : State), ∀ e ∈ groupFields b i g, (copyGroup b i g s).get e.1 e.2 = s.getSh e.1 e.2 % 2 ^ e.1.width) ∧
  (∀ (s : State) (v : Word), reaches 1 s = true → s.bit ANG_CMT_STS_PENDING 0 0 = false →
    (∃ t, exec (.shadowWrite 0x20010030 v) s = .next t ∧ t.getSh ANG_DIS_LIM 0 = v.toNat % 2 ^ 16 ∧ t.get ANG_DIS_LIM 0 = s.get ANG_DIS_LIM 0) ∧
    (∃ t, exec (.shadowWrite 0x20018030 v) s = .next t ∧ t.getSh ANG_DIS_LIM 0 = v.toNat % 2 ^ 16 ∧ t.get ANG_DIS_LIM 0 = s.get ANG_DIS_LIM 0)) ∧
  (∀ (s : State) (v : Word), reaches 1 s = true →
    (s.bit ANG_CMT_STS_PENDING 0 0 = false → exec (.shadowWrite 0x20010030 v) s = .next (s.after (s.setSh ANG_DIS_LIM 0 (v.toNat % 2 ^ 16)))) ∧
    (s.bit ANG_CMT_STS_PENDING 0 0 = true → exec (.shadowWrite 0x20010030 v) s = .next (s.after (s.setBit ANG_CMT_STS_DROP 0 0 true)))) ∧
  (∀ (s : State) (a : Addr) (v : Word) (off : Nat) (r : RegDesc) (j w : Nat) (b : ShBlk) (g : Nat), inReset s = false →
    regOffset a.toNat = some off → poweredOff (off / 65536) s = false →
    (findReg off = .shadow r j w ∨ (findReg off = .active r j w ∧ r.shadowed = true)) → shBlk r.blk = some b → groupOf b r = some g →
    (s.bit (pendF b) (instanceOf b r j) g = true →
      exec (.shadowWrite a v) s = .next (s.after (s.setBit (dropF b) (instanceOf b r j) g true))) ∧
    (s.bit (pendF b) (instanceOf b r j) g = false →
      exec (.shadowWrite a v) s = .next (s.after ((r.fields.filter fun f => f.acc.shadowed && f.lo / 32 == w).foldl
        (fun t f => t.setSh f j (bits v.toNat (f.lo - 32 * w) f.width)) s)))) ∧
  (∀ (s : State) (a : Addr) (v : Word), (inReset s = true ∨ regOffset a.toNat = none ∨
      ∃ off, regOffset a.toNat = some off ∧ (poweredOff (off / 65536) s = true ∨ findReg off = .nothing ∨
        ∃ r j w, findReg off = .active r j w ∧ r.shadowed = false)) →
    exec (.shadowWrite a v) s = .next s)

/-! ## The channel lanes, the decoder pool and the head links -/

/-- Lane states (R68, R71): a request of a populated lane starts the transition, which ends in the state asked for; OOS is set and drops
the lane's write gate. -/
def Obligations.LaneStateChanges : Prop :=
  ∀ (s : State) (l : Fin 48), reaches 5 s = true →
    (∀ req : Fin 4, req.val < 2 → s.on LAN_POP l = true → s.is LAN_STS_STATE l 3 = false → s.is LAN_STS_STATE l req = false →
      exec (.laneStateRequest l req) s = .next (s.settled ((s.set LAN_CTL_REQ l req).setMany l
        [(LAN_FROM, s.get LAN_STS_STATE l), (LAN_TO, req), (LAN_STS_STATE, 3)]))) ∧
    (∀ oos : Bool, exec (.laneOosWrite l oos) s = .next (s.settled (updateMembers (recheckWrite l (s.set LAN_CTL_OOS l oos.toNat))))) ∧
    (s.is LAN_STS_STATE l 3 = true → (s.lane l).cur = none → (s.lane l).wcur = none → (s.lane l).wnext = none → s.get LAN_TO l = s.get LAN_CTL_REQ l →
      s.get LAN_TO l = 1 ∨ s.get LAN_TO l = 2 →
      exec (.laneTransitionDone l) s = .next (s.settled (recheckWrite l (s.set LAN_STS_STATE l (s.get LAN_TO l)))))

/-- Lane clock and timing (R72, R74, R75, R77, R78, R80, R669): the edge counter, the lock, the frequency range; the phase-trim loop, which is
clamped and held; the learned timing table, which takes the mean of the trim integrator at the end of an interval without a flag (its
rounding is the model's, log entry 9). -/
def Obligations.LaneTiming : Prop :=
  ∀ (s : State) (a : Fin 4) (p : Fin 12) (l : Fin 48), l = headAt a p → reaches 5 s = true →
    (∀ err : Int, s.is LAN_STS_STATE l 0 = false → s.on LAN_STS_FRANGE l = outOfRange (s.get LAN_ZRATIO l) (stampRate s) →
      (err.natAbs ≤ 16 → exec (.ringCycleEdge l err) s = .next (s.after (s.set LAN_LOCKN l (Nat.min 16 (s.get LAN_LOCKN l + 1))))) ∧
      (16 < err.natAbs → err.natAbs ≤ 64 → exec (.ringCycleEdge l err) s = .next (s.after (s.set LAN_LOCKN l 0))) ∧
      (64 < err.natAbs →
        exec (.ringCycleEdge l err) s = .next (s.after (recheckWrite l ((s.set LAN_LOCKN l 0).set LAN_STS_LOCK l 0))))) ∧
    (s.is LAN_STS_STATE l 0 = false → s.is LAN_LOCKN l 16 = true → exec (.synthLock l) s = .next (s.after (s.set LAN_STS_LOCK l 1))) ∧
    (s.is LAN_STS_STATE l 0 = false → exec (.ringEdgeTimeout l) s =
      .next (s.after (setFrange l true (recheckWrite l ((s.set LAN_STS_LOCK l 0).set LAN_LOCKN l 0))))) ∧
    (s.is LAN_STS_STATE l 0 = true → exec (.ringEdgeTimeout l) s =
      .next (s.after (recheckWrite l ((s.set LAN_STS_LOCK l 0).set LAN_LOCKN l 0)))) ∧
    (∀ (te : Int) (x : List Int), (s.lane l).cur.isSome = true → trimHeld l (adaptLane l x (noteFlag l s)) = false →
      (trimRaw l te s).natAbs < s.get LAN_PTRIM_CLAMP l → s.get LAN_PTRIM_CLAMP l < 2 ^ 15 →
      ∃ t, exec (.phaseTrimUpdate ⟨l, x⟩ te) s = .next t ∧ t.get LAN_TRIMN l = 0 ∧ t.get LAN_TRIMV_AT_CLAMP l = 0 ∧
        t.get LAN_TRIMV_TRIM l = uns LAN_TRIMV_TRIM.width (trimRaw l te s) % 2 ^ LAN_TRIMV_TRIM.width ∧
        Keeps [LAN_GAINV_GAIN, LAN_GAINV_OFS, LAN_GAINV_ASYM, LAN_IVDEF, LAN_TRIMI, LAN_TRIMV_TRIM, LAN_TRIMN, LAN_BLOCKS,
          LAN_TRIMV_AT_CLAMP, LAN_TRIMSUM, LAN_TRIMCNT] s t) ∧
    (∀ (te : Int) (x : List Int), (s.lane l).cur.isSome = true → trimHeld l (adaptLane l x (noteFlag l s)) = true →
      ∃ t, exec (.phaseTrimUpdate ⟨l, x⟩ te) s = .next t ∧
        Keeps [LAN_GAINV_GAIN, LAN_GAINV_OFS, LAN_GAINV_ASYM, LAN_IVDEF, LAN_BLOCKS, LAN_TRIMSUM, LAN_TRIMCNT] s t) ∧
    (∀ w : Fin 512, intervalEnds l w s = true → s.on LAN_RTTSEL_LEARN l = true → s.is LAN_STS_STATE l 2 = true →
      (s.lane l).cur.isSome = true → (noteFlag l s).on LAN_IVDEF l = false →
      ∃ t, exec (.rttLearn a p w) s = .next t ∧ t.lword l (s.get LAN_RTTSEL_BANK l) w =
          uns 24 (clampI (-8388608) 8388607 (sgn 24 (s.lword l (s.get LAN_RTTSEL_BANK l) w)
            + (trimMean l s).1 / (((trimMean l s).2 * 16384 * 2 ^ s.get LAN_RTTSEL_LSHIFT l : Nat) : Int))) ∧
        Keeps [LAN_TRIMI, LAN_IVDEF, LAN_TRIMSUM, LAN_TRIMCNT, LAN_IVBIT] s t) ∧
    (∀ w : Fin 512, intervalEnds l w s = false → exec (.rttLearn a p w) s = .next s)

/-- Defect flags and wedge windows (R89, R90, R91, R94, R115, R146): a flag whose condition the samples meet sets DEFECT and counts, its
release clears it when the other is clear too; at the angles of the windows, one that opens drops a gate and one that closes asserts it
again where the write conditions hold, and elsewhere none opens or closes. -/
def Obligations.LaneDefects : Prop :=
  ∀ (s : State) (l : Fin 48), reaches 5 s = true →
    (∀ x : List Int, s.on LAN_DROP_EN l = true → s.on LAN_FDROP l = false → s.is LAN_STS_STATE l 0 = false → dropoutMet l x s = true →
      ∃ t, exec (.dropoutFlag ⟨l, x⟩) s = .next t ∧ t.get LAN_STS_DEFECT l = 1 ∧ t.get LAN_FDROP l = 1 ∧
        t.get LAN_DEFV_DROP l = (s.get LAN_DEFV_DROP l + 1) % 2 ^ LAN_DEFV_DROP.width ∧
        Keeps [LAN_DEFV_DROP, LAN_FDROP, LAN_IVDEF, LAN_STS_DEFECT] s t) ∧
    (∀ x : List Int, dropoutMet l x s = false → exec (.dropoutFlag ⟨l, x⟩) s = .next s) ∧
    (∀ x : List Int, s.on LAN_TA_EN l = true → s.on LAN_FTA l = false → s.is LAN_STS_STATE l 0 = false → asperityMet l x s = true →
      ∃ t, exec (.asperityFlag ⟨l, x⟩) s = .next t ∧ t.get LAN_STS_DEFECT l = 1 ∧ t.get LAN_FTA l = 1 ∧
        t.get LAN_DEFV_TA l = (s.get LAN_DEFV_TA l + 1) % 2 ^ LAN_DEFV_TA.width ∧
        Keeps [LAN_DEFV_TA, LAN_FTA, LAN_IVDEF, LAN_STS_DEFECT] s t) ∧
    (∀ x : List Int, asperityMet l x s = false → exec (.asperityFlag ⟨l, x⟩) s = .next s) ∧
    (∀ x : List Int, s.on LAN_FDROP l = true → releaseMet l x s = true → s.on LAN_FTA l = false →
      ∃ t, exec (.defectFlagRelease ⟨l, x⟩ false) s = .next t ∧ t.get LAN_STS_DEFECT l = 0 ∧ t.get LAN_FDROP l = 0 ∧
        Keeps [LAN_FDROP, LAN_STS_DEFECT] s t) ∧
    (∀ x : List Int, s.on LAN_FTA l = true → releaseMet l x s = true → s.on LAN_FDROP l = false →
      ∃ t, exec (.defectFlagRelease ⟨l, x⟩ true) s = .next t ∧ t.get LAN_STS_DEFECT l = 0 ∧ t.get LAN_FTA l = 0 ∧
        Keeps [LAN_FTA, LAN_STS_DEFECT] s t) ∧
    (∀ (ta : Bool) (x : List Int), releaseMet l x s = false → exec (.defectFlagRelease ⟨l, x⟩ ta) s = .next s) ∧
    (s.on LAN_WEDGE l = false → windowMet l 0 s = true → s.on LAN_STS_WRITING l = true → exec (.wedgeWindow l true) s = .next (s.after
      ((((openGap l s).set LAN_WEDGE l 1).setMany l [(LAN_STS_WRITING, 0), (LAN_PAIR, 0)]).set LAN_SPLIT l 1))) ∧
    (s.on LAN_WEDGE l = true → windowMet l (windowTicks l s) s = true → s.on LAN_SPLIT l = true →
      exec (.wedgeWindow l false) s = .next (s.after (recheckWrite l ((((closeGap l s).set LAN_WEDGE l 0).setMany l
        [(LAN_STS_WRITING, 1), (LAN_PAIR, 1)]).set LAN_SPLIT l 0)))) ∧
    (s.on LAN_WEDGE l = true → windowMet l (windowTicks l s) s = true → s.on LAN_SPLIT l = false →
      exec (.wedgeWindow l false) s = .next (s.after ((closeGap l s).set LAN_WEDGE l 0))) ∧
    (windowMet l 0 s = false → exec (.wedgeWindow l true) s = .next s) ∧
    (windowMet l (windowTicks l s) s = false → exec (.wedgeWindow l false) s = .next s)

/-- Frame operations, read from their 64 bytes (R161), enter a lane's queue of 32 (R70, R162), or are posted back as not accepted (R74,
R97; that a full queue answers NOT_READY is the model's choice, log entry 11); a write's encoded frame enters the write buffer (R112, R149),
unless a guard does not match (R425); a cancelled operation that has not started leaves the queue (R109). -/
def Obligations.FrameOperationsQueue : Prop :=
  ∀ (s : State) (a : Fin 4) (p : Fin 12) (l : Fin 48) (w : BitVec 512), l = headAt a p → reaches 5 s = true →
    (FrameOp.ofWord w = none → exec (.frameOpRead l w) s = .next (s.settled s)) ∧
    (∀ op : FrameOp, FrameOp.ofWord w = some op →
      (refusal l op s = none → (s.lane l).queue.length < 32 →
        exec (.frameOpRead l w) s = .next (s.settled (s.setLane l { s.lane l with queue := (s.lane l).queue ++ [op] }))) ∧
      (laneReady l s = false → exec (.frameOpRead l w) s = .next (s.settled (postAll l op 0xA s))) ∧
      (laneReady l s = true → op.write = false → noAngle s = true → exec (.frameOpRead l w) s = .next (s.settled (postAll l op 0x9 s))) ∧
      (refusal l op s = none → 32 ≤ (s.lane l).queue.length → exec (.frameOpRead l w) s = .next (s.settled (postAll l op 0xA s))) ∧
      ((s.lane l).queue.contains op = true → (s.lane l).wbuf.length < 2 → ((s.lane l).wbuf.any fun x => x.1 == op) = false →
        (∀ x ∈ linesOf op.dataAddr.toNat 32896, NMap.get 0 s.chkx x = 0) →
        (((List.range 8).all fun c => guardMatches op.dataAddr.toNat c s.mem) = true →
          exec (.frameOpWrite a p w) s = .next (s.settled (s.setLane l { s.lane l with wbuf := (s.lane l).wbuf ++ [(op, frameBits op s)] }))) ∧
        (((List.range 8).all fun c => guardMatches op.dataAddr.toNat c s.mem) = false →
          exec (.frameOpWrite a p w) s = .next (s.settled (loseAt op.dataAddr.toNat (putFrame l op []
            (forAll ((List.range 8).filter fun c => !guardMatches op.dataAddr.toNat c s.mem)
              (fun c u => piMismatch (op.dataAddr.toNat + 4112 * c) 1 u) s))))))) ∧
    (∀ mtag : BitVec 24, ∃ u : State, exec (.frameOpCancel l mtag) s = .next (s.settled u) ∧
      (u.lane l).queue = (s.lane l).queue.filter (fun o => o.mtag.toNat != mtag.toNat) ∧ (u.lane l).cur = (s.lane l).cur ∧
      u.waiting = s.waiting.filter (fun w => !(w.lane == l.val && w.mtag == mtag.toNat)))

/-- Writing a frame (R81, R112, R113, R114, R116, R118, R119, R149): 64 bits before the frame, the gate is asserted when the frame is encoded and
the lane is ACTIVE and every condition holds, and elsewhere nothing starts; when the frame's bits have passed, the end reports W_OK or the
truncation, the write-data pair has carried the bits up to there, and a frame whose start was decided meanwhile begins. -/
def Obligations.FrameWrites : Prop :=
  ∀ (s : State) (l : Fin 48), reaches 5 s = true →
    (∀ (op : FrameOp) (q : List FrameOp) (b : List Bool) (t0 : Nat), (s.lane l).queue = op :: q → op.write = true → op.load = 0 →
      (s.lane l).cur = none → (s.lane l).wcur = none → (s.lane l).wnext = none →
      ((s.lane l).wbuf.find? fun w => w.1 == op) = some (op, b) → b ≠ [] → s.is LAN_STS_STATE l 2 = true → writeAllowed l s = true →
      frameTick l op.track.toNat op.slot.toNat s = some t0 → bitMet l t0 64 true s = true → s.on LAN_WEDGE l = false →
      exec (.frameWriteStart l) s = .next (s.settled ((setGate l true (startFrame l (bitPosition l s + bitsTo l t0 true s) (loadLoops l
        (s.setLane l { s.lane l with queue := q, wcur := some (op, b), wnext := none, flags := newSpans l s })))).setMany l
          [(LAN_TRUNC, 0), (LAN_SPLIT, 0)]))) ∧
    (∀ (op : FrameOp) (q : List FrameOp) (t0 : Nat), (s.lane l).queue = op :: q → frameTick l op.track.toNat op.slot.toNat s = some t0 →
      bitMet l t0 64 true s = false → exec (.frameWriteStart l) s = .next (s.settled s)) ∧
    (∀ (op : FrameOp) (b : List Bool), (s.lane l).wcur = some (op, b) → framePassed l s = false →
      exec (.frameWriteEnd l) s = .next (s.settled s)) ∧
    (∀ (op op' : FrameOp) (b b' : List Bool) (t0 : Nat), (s.lane l).wcur = some (op, b) → framePassed l s = true → (s.lane l).cur = none →
      (s.lane l).wnext = some (op', b', t0) →
      ∃ u : State, exec (.frameWriteEnd l) s = .next (s.settled u) ∧ (u.lane l).wcur = some (op', b') ∧ (u.lane l).wnext = none) ∧
    (∀ (op : FrameOp) (b : List Bool), (s.lane l).wcur = some (op, b) → framePassed l s = true → (s.lane l).wnext = none →
      ∃ u : State, exec (.frameWriteEnd l) s = .next (s.settled u) ∧ (u.lane l).wcur = none ∧
        (s.on LAN_TRUNC l = false → u.results = s.results ++ [resultOf l op 0 0xB 0 0 0] ∧ u.out = s.out ++ [writeData l b s]) ∧
        (s.on LAN_TRUNC l = true → u.results = s.results ++ [resultOf l op 0 0xC 0 (s.get LAN_TRUNCOFF l) 0] ∧
          u.out = s.out ++ [writeData l (b.take (s.get LAN_TRUNCOFF l)) s]) ∧
        Keeps [LAN_STS_WRITING, LAN_PAIR, LAN_TRUNC, LAN_SPLIT] s u)

/-- Reading a frame (R73, R82, R86, R87, R92, R95, R96): at the bit position of the frame the loops take their initial values and the frame gets a
record with the best match of the 48 decisions with the sync pattern in the window, which decides the alignment where no flag has covered
the sync window; its codewords are then staged with their soft decisions. Away from that position nothing starts. -/
def Obligations.FrameReads : Prop :=
  (∀ (s : State) (a : Fin 4) (p : Fin 12) (l : Fin 48) (op : FrameOp) (q : List FrameOp) (t0 : Nat) (hard : BitVec 302), l = headAt a p →
    reaches 5 s = true →
    (s.lane l).queue = op :: q → op.write = false → op.load = 0 → (s.lane l).cur = none → (s.lane l).wcur = none →
    (s.lane l).wnext = none → maskCws op.cwmask.toNat ≠ [] → frameTick l op.track.toNat op.slot.toNat s = some t0 →
    (bitMet l t0 0 false s = false → exec (.frameReadStart a p hard) s = .next (s.settled s)) ∧
    (bitMet l t0 0 false s = true → refusal l op s = none →
      let t := startFrame l (bitPosition l s + bitsTo l t0 false s) (loadLoops l (s.setLane l { s.lane l with queue := q }))
      exec (.frameReadStart a p hard) s = .next (s.settled ((({ (t.bump DEC_FID 0) with
        frames := s.frames ++ [(⟨s.get DEC_FID 0, l, op, some (searchSync l hard t), 0, false, none, (maskCws op.cwmask.toNat).length, false,
          false⟩ : FrameRec)] }.setLane l { t.lane l with cur := some (s.get DEC_FID 0, 0), flags := newSpans l t })).set LAN_BLOCKS l 0)))) ∧
  (∀ (s : State) (l : Fin 48) (hard : BitVec 302) (h : Hit), bestHit (s.get LAN_SYNC_THR l) (searched l (syncWindow l s) hard false s) = some h →
    searchSync l hard s = (some h, false)) ∧
  (∀ (s : State) (l : Fin 48) (fid : Nat) (fr : FrameRec) (h : Hit), s.frame fid = some fr → fr.seen = some (some h, false) →
    syncCovered l fr.op s = false → h.1.natAbs ≤ s.get LAN_SYNC_ACC l →
    ∃ f : FrameRec, (judgeSync l fid s).frame fid = some f ∧ f.base = h.1 ∧ f.prov = false ∧ f.seen = none) ∧
  (∀ (s : State) (l : Fin 48) (soft : List (BitVec 4)) (fid : Nat) (fr : FrameRec) (c : Nat), reaches 5 s = true →
    laneActive l s = true → (s.lane l).cur = some (fid, 0) →
    s.frame fid = some fr → fr.seen = none → (s.lane l).wnext = none → fr.cancel = false → fr.ovr = false → maskCws fr.op.cwmask.toNat = [c] → stagedCount l s < 16 →
    ∃ u : State, exec (.codewordStaged ⟨l, soft⟩) s = .next (s.settled u) ∧
      u.waiting = s.waiting ++ [⟨fid, l, fr.op.mtag.toNat, c, fr.op.cls.val, s.aonNs, fr.hit.getD fr.base, erased l fr c soft s⟩] ∧
      (u.lane l).cur = none ∧ u.get LAN_STGV_OCC l = (stagedCount l s + 1) % 2 ^ LAN_STGV_OCC.width)

/-- The decoder pool (R87, R100, R104, R105, R106, R107): a free engine takes the next waiting codeword with its budget; a codeword that
converges within it, whose tag has the position and generation and whose guard is the CRC-64 of its data, is posted, and its 4,112 bytes are
written at its place; one of recovery class whose tag has another position is reported as such. -/
def Obligations.DecoderPool : Prop :=
  (∀ (s : State) (d : Fin 32) (w : Waiting), reaches 6 s = true → engineFree d s = true → nextCodeword s = some w → w.cls = 2 →
    exec (.engineDispatch d) s = .next (s.settled (showStaged w.lane (showWait (showBusy
      { s with waiting := s.waiting.erase w, engines := s.engines.put d ⟨w, recoveryBudget s, [w.off], none⟩ }))))) ∧
  (∀ (s : State) (d : Fin 32) (o : DecodeOut) (j : EngineJob) (fr : FrameRec) (x : List (BitVec 4)), reaches 6 s = true →
    s.engines.find d = some j → s.frame j.w.fid = some fr → fr.cancel = false → o.conv = true → o.iters ≤ j.budget → j.w.cls = 2 →
    alignedSoft fr j.w j.w.off = some x →
    (positionMatch fr j.w.cw o = true → genMatch fr o = true → guardOk o = true →
      ∃ u : State, exec (.decodeDone d o) s = .next (s.settled u) ∧
        u.results = s.results ++ [resultOf fr.lane fr.op j.w.cw 2 o.iters j.w.off (x.countP fun b => b &&& 7#4 == 0#4)] ∧
        u.get DEC_CNT_OK 0 = (s.get DEC_CNT_OK 0 + 1) % 2 ^ DEC_CNT_OK.width ∧ u.engines = s.engines.del d ∧
        u.mem = s.mem.writeList (fr.op.dataAddr.toNat + 4112 * j.w.cw) (o.bytes.take 4112)) ∧
    (positionMatch fr j.w.cw o = false →
      ∃ u : State, exec (.decodeDone d o) s = .next (s.settled u) ∧
        u.results = s.results ++ [resultOf fr.lane fr.op j.w.cw 4 o.iters j.w.off (x.countP fun b => b &&& 7#4 == 0#4)] ∧
        u.get DEC_CNT_TAG 0 = (s.get DEC_CNT_TAG 0 + 1) % 2 ^ DEC_CNT_TAG.width ∧ u.engines = s.engines.del d ∧ u.mem = s.mem))

/-- Lane memory (R135): a write stores the word unless it belongs to the bank in use, when it sets MEMREF; a read returns it; words
without content read 0 and discard writes; the address advances with AUTOINC after either. -/
def Obligations.LaneMemoryAccess : Prop :=
  (∀ (s : State) (l : Fin 48), reaches 5 s = true → s.on LAN_MEMADR_AUTOINC l = true →
    (∀ v : Word, ∃ t, exec (.laneMemdatWrite l v) s = .next t ∧
      t.get LAN_MEMADR_WORD l = (s.get LAN_MEMADR_WORD l + 1) % 2 ^ LAN_MEMADR_WORD.width) ∧
    (∃ t, exec (.laneMemdatRead l) s = .next t ∧
      t.get LAN_MEMADR_WORD l = (s.get LAN_MEMADR_WORD l + 1) % 2 ^ LAN_MEMADR_WORD.width)) ∧
  ∀ (s : State) (l : Fin 48), reaches 5 s = true → s.on LAN_MEMADR_AUTOINC l = false →
    (∀ v : Word, lmemRefused l (s.get LAN_MEMADR_SPACE l) (s.get LAN_MEMADR_WORD l) s = true →
      exec (.laneMemdatWrite l v) s = .next (s.after (s.set LAN_STS_MEMREF l 1))) ∧
    (∀ v : Word, lmemRefused l (s.get LAN_MEMADR_SPACE l) (s.get LAN_MEMADR_WORD l) s = false →
      lmemDefined (s.get LAN_MEMADR_SPACE l) (s.get LAN_MEMADR_WORD l) = true →
      exec (.laneMemdatWrite l v) s = .next (s.after (s.setLword l (s.get LAN_MEMADR_SPACE l) (s.get LAN_MEMADR_WORD l)
        (v.toNat % 2 ^ lmemWidth (s.get LAN_MEMADR_SPACE l) (s.get LAN_MEMADR_WORD l))))) ∧
    (∀ v : Word, lmemRefused l (s.get LAN_MEMADR_SPACE l) (s.get LAN_MEMADR_WORD l) s = false →
      lmemDefined (s.get LAN_MEMADR_SPACE l) (s.get LAN_MEMADR_WORD l) = false → exec (.laneMemdatWrite l v) s = .next (s.after s)) ∧
    (lmemDefined (s.get LAN_MEMADR_SPACE l) (s.get LAN_MEMADR_WORD l) = true →
      exec (.laneMemdatRead l) s = .next (s.after (s.ret (s.lword l (s.get LAN_MEMADR_SPACE l) (s.get LAN_MEMADR_WORD l))))) ∧
    (lmemDefined (s.get LAN_MEMADR_SPACE l) (s.get LAN_MEMADR_WORD l) = false → exec (.laneMemdatRead l) s = .next (s.after (s.ret 0)))

/-- Training of a head link (R125, R127, R137, R668): enabling starts it, a response and a heartbeat bring the link up, three failed
rounds set ABSENT with its source, disabling ends it; a link that falls trains again with its source raised. -/
def Obligations.HeadLinkTraining : Prop :=
  ∀ (s : State) (a : Fin 4), reaches 15 s = true →
    (s.on HLK_CTL_EN a = false → exec (.hlkEnable a) s = .next (s.settled (startTraining a (s.set HLK_CTL_EN a 1)))) ∧
    (exec (.hlkDisable a) s = .next (s.settled (lower (96 + 8 * a) 0xFF (linkUnup a (s.setMany a [(HLK_CTL_EN, 0), (HLK_TRAINING, 0),
      (HLK_CTL_TRAIN, 0), (HLK_ANSWER, 0)]))))) ∧
    (s.on HLK_CTL_EN a = true → s.on HLK_TRAINING a = false →
      exec (.hlkTrain a) s = .next (s.settled (startTraining a (linkUnup a s)))) ∧
    (∀ ai bi : Bool, s.on HLK_TRAINING a = true → s.on HLK_ANSWER a = false →
      exec (.hlkTrainingRx a ai bi) s = .next (s.settled (s.setMany a [(HLK_ANSWER, 1), (HLK_STS_A_INV, ai.toNat),
        (HLK_STS_B_INV, bi.toNat), (HLK_STS_SWAPPED, (s.on HLK_CTL_SWAP_HINT a != s.on HLK_ORIENT a).toNat)]))) ∧
    (∀ p : BitVec 48, s.on HLK_CTL_EN a = true → crcOk p = true → pktType p = 9 → s.on HLK_TRAINING a = true → s.on HLK_ANSWER a = true →
      orientationChanged a s = false →
      exec (.hlkHeartbeatRx a p) s = .next (s.settled (updateMembers (lower (100 + 8 * a) 0xFF (lower (96 + 8 * a) 0xFF
        ((((s.setMany a [(HLK_STS_UP, 1), (HLK_STS_ABSENT, 0), (HLK_TRAINING, 0), (HLK_CTL_TRAIN, 0), (HLK_ANSWER, 0),
          (HLK_STS_HINT_DIFF, (s.get HLK_STS_SWAPPED a != s.get HLK_CTL_SWAP_HINT a).toNat), (HLK_TRAINED, 1),
          (HLK_LASTORI, wiringOf a s), (HLK_HOLD, 1), (HLK_WENOK, 0), (HLK_WENWAIT, 0), (HLK_WENTRY, 0)]).setLinkQ a [⟨6, 0xF, 0, s.get HLK_WEN a, none⟩]).setLinkQ (4 + a) []).setBit GLB_WIRING_HLK 0 a (s.on HLK_STS_SWAPPED a))))))) ∧
    (∀ p : BitVec 48, s.on HLK_CTL_EN a = false → exec (.hlkHeartbeatRx a p) s = .next (s.settled s)) ∧
    (∀ p : BitVec 48, s.on HLK_CTL_EN a = true → crcOk p = false → exec (.hlkHeartbeatRx a p) s =
      .next (s.settled (pulse (97 + 8 * a) 0xFF (s.bump HLK_ERR_CRC a)))) ∧
    (s.on HLK_TRAINING a = true → s.on HLK_ANSWER a = false → s.on HLK_ORIENT a = false →
      exec (.hlkOrientTimeout a) s = .next (s.settled (s.set HLK_ORIENT a 1))) ∧
    (s.on HLK_TRAINING a = true → s.on HLK_ANSWER a = true → s.get HLK_ROUND a < 2 →
      exec (.hlkTrainHbTimeout a) s = .next (s.settled ((s.bump HLK_ROUND a).setMany a [(HLK_ORIENT, 0), (HLK_ANSWER, 0)]))) ∧
    (s.on HLK_TRAINING a = true → s.on HLK_ANSWER a = true → 2 ≤ s.get HLK_ROUND a →
      exec (.hlkTrainHbTimeout a) s = .next (s.settled (updateMembers (raise (100 + 8 * a) 0xFF (s.setMany a [(HLK_STS_ABSENT, 1),
        (HLK_TRAINING, 0), (HLK_CTL_TRAIN, 0), (HLK_ANSWER, 0)]))))) ∧
    (s.on HLK_STS_UP a = true →
      exec (.hlkLinkDown a) s = .next (s.settled (raise (96 + 8 * a) 0xFF (startTraining a (linkUnup a s)))))

/-- Packets of a head link (R120–R123, R126, R544, R668): the enable mask stays clear in the safe state; what is sent next carries the running sequence number; a matching response completes
what is outstanding; without one the packet is sent again, three times at most; fault flags are kept and raise their sources. -/
def Obligations.HeadLinkPackets : Prop :=
  ∀ (s : State) (a : Fin 4), reaches 15 s = true →
    (s.on FLT_SAFE_ACTIVE 0 = true → s.is HLK_WEN a 0 = true → ∀ m : BitVec 12, exec (.hlkWenWrite a m) s = .next (s.settled s)) ∧
    (∀ m : BitVec 12, s.on FLT_SAFE_ACTIVE 0 = false → m.toNat ≠ s.get HLK_WEN a →
      exec (.hlkWenWrite a m) s = .next (s.settled (recheckActuator a (sendMask a (s.set HLK_WEN a m.toNat))))) ∧
    (∀ v : Word, s.on HLK_REGCMD_BUSY a = false → s.on HLK_STS_UP a = true → v.toNat.testBit 13 = true → v.toNat.testBit 15 = false →
      ∃ u : State, exec (.hlkRegcmdGo a v) s = .next (s.settled u) ∧ u.get HLK_REGCMD_BUSY a = 1 ∧ u.linkQ a = insertReq (s.linkQ a)
          ⟨if v.toNat.testBit 12 then 2 else 1, bits v.toNat 8 4, bits v.toNat 0 8, bits v.toNat 16 16, none⟩) ∧
    (∀ r : HlkReq, s.linkQ (4 + a) = [r] → r.age = none → ∃ u : State, exec (.hlkPacketSent a) s = .next (s.settled u) ∧
      u.out = s.out ++ [.headLink a (packet r.typ r.head r.addr r.data (s.get HLK_SEQ a))] ∧
      u.get HLK_SEQ a = (s.get HLK_SEQ a + 1) % 2 ^ HLK_SEQ.width) ∧
    (s.on HLK_TRAINING a = false → s.on HLK_STS_UP a = true → s.on HLK_HOLD a = false → s.linkQ a = [] → s.linkQ (4 + a) = [] →
      ∃ u : State, exec (.hlkPacketSent a) s = .next (s.settled u) ∧
        u.out = s.out ++ [.headLink a (packet 9 0xF 0 0 (s.get HLK_SEQ a))] ∧
        u.get HLK_SEQ a = (s.get HLK_SEQ a + 1) % 2 ^ HLK_SEQ.width) ∧
    (∀ p : BitVec 48, s.on HLK_CTL_EN a = true → crcOk p = true → pktType p = 3 → s.on HLK_WENWAIT a = true → s.get HLK_WENSEQ a = pktSeq p →
      exec (.hlkResponseRx a p) s = .next (s.settled (s.setMany a [(HLK_WENWAIT, 0), (HLK_WENOK, 1), (HLK_WENTRY, 0), (HLK_HOLD, 0),
        (HLK_LAT, s.aonNs - s.get HLK_WENTIME a)]))) ∧
    (s.on HLK_WENWAIT a = true → s.on HLK_REGWAIT a = false → 3 ≤ s.get HLK_WENTRY a →
      ((s.linkQ a ++ s.linkQ (4 + a)).any fun r => r.typ == 6) = false →
      exec (.hlkAckTimeout a) s = .next (s.settled (pulse (99 + 8 * a) 0xFF ((s.set HLK_WENWAIT a 0).setMany a
        [(HLK_WENTRY, 0), (HLK_HOLD, 0)])))) ∧
    (∀ p : BitVec 48, s.on HLK_CTL_EN a = true → crcOk p = true → pktType p = 8 → pktHead p < 12 →
      exec (.hlkFaultFlagsRx a p) s = .next (s.settled (updateMembers (recheckWrite (12 * a + pktHead p) (flagSources a (pktHead p)
        (s.get HLK_PRESENT (12 * a + pktHead p)) (pktData p % 128) ((s.set HLK_PRESENT (12 * a + pktHead p) (pktData p % 128)).set
          HLK_FLAG (3 * a + pktHead p / 4) ((s.set HLK_PRESENT (12 * a + pktHead p) (pktData p % 128)).get HLK_FLAG (3 * a + pktHead p / 4)
            ||| pktData p % 128 * 2 ^ (8 * (pktHead p % 4)))))))))

/-! ## Media: the format sequencer and the accords -/

/-- Reads of media (R159, R170, R171, R173, R219, R225, R234): a read of blocks within one frame becomes one frame job with the mask of its
blocks; run-ahead takes the data frames that follow the last frame a host read has named, within ROWS rows; a reconstruction takes the other
frames of its row; a rebuild and a patrol read one frame. -/
def Obligations.MediaReads : Prop :=
  ∀ (s : State) (z r pos : Nat) (mtag : BitVec 24), reaches 7 s = true → driveRole s = true →
    (∀ off len : Nat, 0 < len → (off + len - 1) / 8 = off / 8 → s.ra = [] →
      let m := mediaMask z (off / 8 / Nat.max 1 s.k) (off / 8 % Nat.max 1 s.k) (unlisted z (off / 8) (maskFor (off / 8) off len) s) s
      unlisted z (off / 8) (maskFor (off / 8) off len) s ≠ 0 → m ≠ 0 →
      ∃ u : State, exec (.hostRead z off len mtag) s = .next (s.settled u) ∧
        u.ops = s.ops ++ [newOp mtag.toNat .hostRead z (off / 8 / Nat.max 1 s.k) off len (sideFor z s) true] ∧
        ∃ j : FrameJob, u.jobs = s.jobs ++ [j] ∧ j.mtag = mtag.toNat ∧ j.kind = .hostRead ∧ j.zone = z ∧ j.row = off / 8 / Nat.max 1 s.k ∧
          j.pos = off / 8 % Nat.max 1 s.k ∧ j.cls = 0 ∧ j.write = false ∧ j.mask = m) ∧
    (s.on FMT_RA_EN 0 = false → exec (.raRead z r mtag) s = .next (s.settled s)) ∧
    (∀ f0 : Nat, s.on FMT_RA_EN 0 = true → s.raRow.find z = some f0 →
      let l := ((List.range s.k).map fun d => r * s.k + d).filter fun f => decide (f0 ≤ f) && decide (f < f0 + s.get FMT_RA_ROWS 0 * s.k)
      (l = [] → exec (.raRead z r mtag) s = .next (s.settled s)) ∧
      (l ≠ [] → exec (.raRead z r mtag) s = .next (s.settled (endOp mtag.toNat (forAll l (fun f t => raFrame mtag.toNat z f t)
        (addOp (newOp mtag.toNat .raRead z r 0 0 (sideFor z s) false) s)))))) ∧
    (fetched z r pos s = [] → exec (.reconRead z r pos true mtag) s = .next (s.settled (takeSources mtag.toNat (framesNeeded z r s)
      (addOp { newOp mtag.toNat .reconRead z r pos 0 (sideFor z s) true with used := [pos] } s)))) ∧
    (exec (.rebuildRead z r pos mtag) s = .next (s.settled (endOp mtag.toNat (addRead mtag.toNat .rebuildRead false z r pos 0xFF (sideFor z s)
      (addOp (newOp mtag.toNat .rebuildRead z r pos 0 (sideFor z s) false) s))))) ∧
    (exec (.patrol z r pos mtag) s = .next (s.settled (endOp mtag.toNat (addRead mtag.toNat .patrol false z r pos 0xFF (sideFor z s)
      (addOp (newOp mtag.toNat .patrol z r pos 0 (sideFor z s) false) s)))))

/-- System-area and calibration operations (R139, R151, R159): one job for the frame named, by the head that serves the surface or the
head given, with generation 0; nothing is written outside the system area (R140). -/
def Obligations.SystemAreaOperations : Prop :=
  ∀ (s : State) (track : BitVec 21) (slot : BitVec 8) (mtag : BitVec 24), reaches 7 s = true → driveRole s = true →
    (∀ x : Fin 24, ∃ u : State, exec (.sysRead x track slot mtag) s = .next (s.settled u) ∧ ∃ j : FrameJob, u.jobs = s.jobs ++ [j] ∧
      j.head = serviceHead x s ∧ j.write = false ∧ j.track = track.toNat ∧ j.slot = slot.toNat ∧ j.gen = 0 ∧ j.st = .wait) ∧
    (∀ x : Fin 24, sysSlot x track.toNat slot.toNat s = true → ∃ u : State, exec (.sysWrite x track slot mtag) s = .next (s.settled u) ∧ ∃ j : FrameJob, u.jobs = s.jobs ++ [j] ∧
      j.head = serviceHead x s ∧ j.write = true ∧ j.track = track.toNat ∧ j.slot = slot.toNat ∧ j.gen = 0 ∧ j.st = .wait) ∧
    (∀ x : Fin 24, sysSlot x track.toNat slot.toNat s = false → ∃ u : State, exec (.sysWrite x track slot mtag) s = .next (s.settled u) ∧ u.jobs = s.jobs) ∧
    (∀ (h : Fin 48) (w : Bool), (w = true → sysSlot (surfaceOf h) track.toNat slot.toNat s = true) → ∃ u : State, exec (.cal h w track slot mtag) s = .next (s.settled u) ∧ ∃ j : FrameJob,
      u.jobs = s.jobs ++ [j] ∧ j.head = h ∧ j.write = w ∧ j.track = track.toNat ∧ j.slot = slot.toNat ∧ j.gen = 0 ∧ j.st = .wait)

/-- Issue and results (R161, R162, R163, R165, R168, R174, R189): RUN starts and stops the sequencer of a drive; the head's target is set
before its first operation; while the head is settled and the slot is at least LEAD ticks away the operation goes to its lane, which queues
it, and a slot too near slips; the oldest result is taken; a timed-out ladder goes to its last step; run-ahead frames without a claim are
dropped. -/
def Obligations.FormatSequencer : Prop :=
  ∀ s : State, reaches 7 s = true →
    (driveRole s = true → exec .fmtRunSet s = .next (s.settled (s.setMany 0 [(FMT_CTL_RUN, 1), (FMT_STS_RUNNING, 1)]))) ∧
    (exec .fmtRunClear s = .next (s.settled (s.setMany 0 [(FMT_CTL_RUN, 0), (FMT_STS_RUNNING, 0)]))) ∧
    (∀ (a : Addr) (v : Word), exec (.fmtStoreWrite a v) s = .next (s.settled (pulse 197 0xFF s))) ∧
    (∀ (h : Fin 48) (j : FrameJob), driveRole s = true → s.on FMT_CTL_RUN 0 = true → nextJob h s = some j →
      (targetSet j s = false →
        exec (.frameOpIssue h) s = .next (s.settled (targetWrite h (targetWord j) (s.set SRV_TOFS_OFFTRK h j.offtrk)))) ∧
      (∀ n : Nat, targetSet j s = true → slotAhead j s = some n →
        (n < s.get FMT_LEAD 0 → exec (.frameOpIssue h) s = .next (s.settled (planSlot j n s))) ∧
        (s.get FMT_LEAD 0 ≤ n → targetSettled j s = false → exec (.frameOpIssue h) s = .next (s.settled (planSlot j n s))) ∧
        (s.get FMT_LEAD 0 ≤ n → targetSettled j s = true → (∀ d ∈ (opOf j s).defs, d.start < 2 ^ 19 ∧ d.len < 2 ^ 11) →
          refusal h (opOf j s) s = none → (s.lane h).queue.length < 32 → (∀ x ∈ s.jobs, x.kind ≠ .raRead) →
          ∃ u : State, exec (.frameOpIssue h) s = .next (s.settled u) ∧ (u.lane h).queue = (s.lane h).queue ++ [opOf j s] ∧
            { j with due := slotStamp n s, st := .issued, loaded := loadFor j s != 0 } ∈ u.jobs))) ∧
    (∀ (r : CwResult) (q : List CwResult) (j : FrameJob), s.results = r :: q → s.jobs.find? (resultFor r) = some j → j.write = true →
      r.code = 0xB → j.loaded = false → j.stale = false → frameOfJob j s = none → s.on FMT_WR_VERIFY 0 = false →
      exec .frameResult s = .next (s.settled (endOp j.mtag (frameWritten j (swapJob j [] { s with results := q }))))) ∧
    (∀ (mtag : BitVec 24) (j : FrameJob), (s.jobs.filter fun j => j.mtag == mtag.toNat && !j.write && !j.verify &&
        (decide (2 ≤ j.step) || j.st == .recovery)) = [j] → j.st = .wait → j.runs = 2 → j.helper = false → j.kind = .hostRead →
      exec (.ladderTimeout mtag) s = .next (s.settled (stepEight { j with late := true } (swapJob j [{ j with late := true }] s)))) ∧
    (∃ u : State, exec .raDrop s = .next (s.settled u) ∧ ∀ a ∈ u.ra, a ∈ s.ra ∧ a.claim.isSome = true)

/-- A descriptor whose CRC and contents are good is accepted, with the skips and windows that its addresses name in place of those of its
surface; one that fails raises source 196 and leaves the surface without (R143, R144, R152, R199). -/
def Obligations.DescriptorLoads : Prop :=
  ∀ (s : State) (k : Fin 2) (p : Fin 12) (x : Fin 24), x = surfaceAt k p → reaches 7 s = true →
    (descriptorAccepted (descAddr x s) s.mem = true →
      exec (.descriptorLoad k p) s = .next (s.settled (updateSpare (updateMembers (State.setBit
        { s with
          descs := s.descs.put x (readDescriptor (descAddr x s) s.mem)
          skips := (s.skips.filter fun e => e.surface ≠ x.val) ++ readSkips x (readDescriptor (descAddr x s) s.mem).defSkip s.mem
          wins := (s.wins.filter fun e => e.surface ≠ x.val) ++ readWindows x (readDescriptor (descAddr x s) s.mem).defWin s.mem }
        FMT_STS_DESC_OK 0 x true))))) ∧
    (descriptorAccepted (descAddr x s) s.mem = false →
      exec (.descriptorLoad k p) s = .next (s.settled (updateMembers (pulse 196 x (State.setBit
        { s with
          descs := s.descs.del x
          skips := s.skips.filter fun e => e.surface ≠ x.val
          wins := s.wins.filter fun e => e.surface ≠ x.val } FMT_STS_DESC_OK 0 x false)))))

/-- Rows of a drive (R175, R179, R180, R195, R203, R214, R217): a row whose blocks are all there and in DRAM is submitted, FMT takes it, and
its commit advances the write pointer; the frontier frame is required once every full row is on its way. -/
def Obligations.RowsAdvance : Prop :=
  ∀ (s : State) (z : Nat), driveRole s = true →
    (reaches 8 s = true → rowsAllowed s = true → (s.zone z).finished = false → servedBy 0 s = some z → aheadOk z (nextRow z s) s = true →
      s.acd.resync.contains z = false → s.fb * s.k * (nextRow z s + 1) ≤ (s.zone z).ready → s.k ≠ 0 → lostForRow z s = [] →
      ∃ u : State, exec (.rowSubmit z) s = .next (s.settled u) ∧
        ∃ x ∈ u.rows, x.zone = z ∧ x.row = nextRow z s ∧ x.blocks = s.fb * s.k) ∧
    (∀ (r : Nat) (mtag : BitVec 24) (x : RowRec), reaches 7 s = true → (s.rows.find? fun x => x.zone == z && x.row == r) = some x →
      (s.zone z).finished = false → x.submitted = false → (x.frames.filter fun f => f.idx == 0 && !f.written) = [] →
      rowOverflows x s = false →
      exec (.writeRow z r mtag) s = .next (s.settled (endOp mtag.toNat (fillJobs { addOp (newOp mtag.toNat .writeRow z r 0 0 (sideFor z s) false) s with
        rows := s.rows.map fun x => if x.zone = z ∧ x.row = r then { x with submitted := true } else x })))) ∧
    (∀ x : RowRec, reaches 7 s = true → rowReady z s = some x → 8 * s.k ≤ x.blocks →
      ∃ u : State, exec (.rowCommit z) s = .next (s.settled u) ∧ (u.zone z).wp = Nat.max (s.zone z).wp (8 * s.k * x.row + x.blocks) ∧
        u.rows = s.rows.erase x ∧ u.get ACD_LAZY 0 = 1) ∧
    (reaches 7 s = true → rowReady z s = none → exec (.rowCommit z) s = .next (s.settled s)) ∧
    (reaches 7 s = true → rowsAllowed s = true → rowBlocks s * ((s.zone z).ready / rowBlocks s) ≤ rowEnd z s → rowEnd z s < (s.zone z).ready →
      exec (.frontierWrite z) s = .next (s.settled (dropWaiting z (s.zone z).ready (frontierWrite z s))))

/-- Control of the accords (R11, R200, R204, R206, R213, R227, R252): RUN judges the members, that of a row or pod manager stays clear,
and starts what a restart has left to it; the generation of the placement table, the rebuild hold, a member lost by its key, the turn of a
side's stream. -/
def Obligations.AccordControl : Prop :=
  ∀ s : State, reaches 8 s = true →
    (s.tables.stage ≠ 1 → noMembers s = false → s.on ACD_CTL_RUN 0 = false → exec (.acdRun true) s = .next (s.settled (reachPhase 9 (startEngine
      (s.setMany 0 [(ACD_CTL_RUN, 1), (ACD_STS_RUNNING, 1)]))))) ∧
    (s.tables.stage ≠ 1 → noMembers s = true →
      exec (.acdRun true) s = .next (s.settled (reachPhase 9 (showResync (s.setMany 0 [(ACD_CTL_RUN, 0), (ACD_STS_RUNNING, 0)]))))) ∧
    (exec (.acdRun false) s = .next (s.settled (showResync (s.setMany 0 [(ACD_CTL_RUN, 0), (ACD_STS_RUNNING, 0)])))) ∧
    (s.on ACD_PLC_CFG_SEED 0 = true → noMembers s = false →
      exec .placementGen s = .next (s.settled (s.setMany 0 [(ACD_PLC_STS_GEN_BUSY, 1), (ACD_PLC_STS_VALID, 0)]))) ∧
    (s.on ACD_PLC_STS_GEN_BUSY 0 = true →
      (checkTable true ({ s with mem := genTable s }.set ACD_PLC_STS_GEN_BUSY 0 0)).on ACD_STS_ALLEMPTY 0 = false →
      exec .placementGenDone s = .next (s.settled (checkTable true ({ s with mem := genTable s }.set ACD_PLC_STS_GEN_BUSY 0 0)))) ∧
    (∀ hold : Bool, exec (.rbldHold hold) s = .next (s.settled (s.set ACD_CTL_RBLD_HOLD 0 hold.toNat))) ∧
    (∀ v : Word, driveRole s = true → bits v.toNat 8 8 = 0xA5 → s.memberMask.testBit (bits v.toNat 0 6) = true →
      exec (.acdLose v) s = .next (s.settled (loseMember (bits v.toNat 0 6) (s.setBit ACD_LOSEMASK 0 (bits v.toNat 0 6) true)))) ∧
    (∀ v : Word, bits v.toNat 8 8 ≠ 0xA5 → exec (.acdLose v) s = .next (s.settled s)) ∧
    (∀ (side : Fin 2) (z : Nat), streamStays side s = false → streamPick side s = some z →
      exec (.streamTurn side) s = .next (s.settled { s with acd := { s.acd with turn := s.acd.turn.put side (z, 0) } })) ∧
    (∀ side : Fin 2, streamStays side s = true → exec (.streamTurn side) s = .next (s.settled s))

/-- Rebuild (R208, R222, R225, R227, R229, R231): the running pass takes the reads of its row where the losses are its level's, through the side
that processes its zone, and passes over the others; halted, it stands at its cursor; the batch goes to the segments of the passes that have
rebuilt the frames, in pass order; the cursor moves every 1,024 rows, once what lies before it is settled. -/
def Obligations.RebuildSteps : Prop :=
  ∀ (s : State) (p : Nat), reaches 8 s = true →
    (∀ (side : Fin 2) (mtag : BitVec 24), rebuildRuns s = true → runningPass s = some p →
      (s.acd.deferred.find? fun e => e.1 == s.get ACD_PSER p && e.2.2.2 == side.val) = none → s.on ACD_PEND p = false →
      s.get ACD_NOWROW p < zoneRows (s.get ACD_NOWZONE p) s → s.get ACD_PSIDE p = side →
      (passTakes p (s.get ACD_NOWZONE p) (s.get ACD_NOWROW p) s = true → exec (.rebuildRow ⟨side, mtag⟩) s =
        .next (s.settled (startRow (s.get ACD_PSER p) (s.get ACD_NOWZONE p) (s.get ACD_NOWROW p) mtag.toNat side false (advancePass p s)))) ∧
      (passTakes p (s.get ACD_NOWZONE p) (s.get ACD_NOWROW p) s = false →
        exec (.rebuildRow ⟨side, mtag⟩) s = .next (s.settled (advancePass p s)))) ∧
    (∀ (side : Fin 2) (mtag : BitVec 24), rebuildRuns s = false → exec (.rebuildRow ⟨side, mtag⟩) s = .next (s.settled (haltRebuild s))) ∧
    (s.on ACD_CTL_RUN 0 = true → s.acd.rebuilt ≠ [] → runningPass s = some p → s.get ACD_RBLD_BATCH 0 ≤ s.get ACD_ZDONE p →
      exec .rebuildBatchWrite s = .next (s.settled ((forAll (rebuiltInOrder s) fileRebuilt
        { s with acd := { s.acd with rebuilt := [] } }).set ACD_ZDONE p 0))) ∧
    (runningPass s = some p → 1024 ≤ s.get ACD_VISIT p → s.on ACD_PEND p = false → passSettled p s = true →
      exec .cursorUpdate s = .next (s.settled (showPass ((((recordCursor p s).set ACD_VISIT p (s.get ACD_VISIT p - 1024)).bump
        ACD_CURN p).set ACD_JREQ 0 1))))

/-- Journal and checkpoints (R238, R241, R243, R244, R245): a record is begun with the next sequence number, or asked for after the one
being written; a record written whole becomes the newest on both its members, and one that fails fires source 215; checkpoints keep their least
spacing and take the members' slots by turns; a record with CLEAN set waits for the row writes in progress. -/
def Obligations.JournalAndCheckpoints : Prop :=
  ∀ s : State, reaches 8 s = true →
    (s.on ACD_JBUSY 0 = false → ∃ u : State, exec .journalInterval s = .next (s.settled u) ∧ u.on ACD_JBUSY 0 = true ∧
      u.get ACD_JSEQ 0 = (s.get ACD_JSEQ 0 + 1) % 2 ^ ACD_JSEQ.width ∧ u.media.recording.isSome = true) ∧
    (s.on ACD_JBUSY 0 = true → exec .journalInterval s = .next (s.settled (s.set ACD_JREQ 0 1))) ∧
    (s.on ACD_LAZY 0 = true → s.on NVQ_DURWAIT 0 = true → s.on ACD_JBUSY 0 = false → ∃ u : State,
      exec .journalLazy s = .next (s.settled u) ∧ u.on ACD_JBUSY 0 = true ∧ u.get ACD_JSEQ 0 = (s.get ACD_JSEQ 0 + 1) % 2 ^ ACD_JSEQ.width) ∧
    (∀ r : AcdImage, s.media.recording = some r → ∃ u : State, exec (.journalWritten ⟨false, false, false⟩) s = .next (s.settled (runRequests u)) ∧
      r ∈ NMap.get [] u.media.journal (s.get ACD_JRNL_MEM_A 0) ∧ r ∈ NMap.get [] u.media.journal (s.get ACD_JRNL_MEM_B 0) ∧ u.media.recording = none ∧ u.get ACD_JRNL_SEQ 0 = r.seq % 2 ^ ACD_JRNL_SEQ.width ∧
      u.get ACD_JBUSY 0 = 0 ∧ u.get ACD_STS_JRNL_OK 0 = 1) ∧
    (∀ (r : AcdImage) (f : RecordFail), s.media.recording = some r → driveRole s = true → (f.copyA || f.copyB || f.skips) = true →
      exec (.journalWritten f) s = .next (s.settled (pulse 215 0xFF (((putCopies f r s).setMany 0 [(ACD_JBUSY, 0),
        (ACD_STS_JRNL_OK, (!(f.copyA || f.copyB)).toNat)]).set ACD_JREQ 0 1)))) ∧
    (s.on ACD_KBUSY 0 = false → s.on ACD_KMIN 0 = false → ∃ u : State, exec .checkpointTimer s = .next (s.settled u) ∧
      u.on ACD_KBUSY 0 = true ∧ u.on ACD_KMIN 0 = true ∧ u.get ACD_KSEQ 0 = (s.get ACD_KSEQ 0 + 1) % 2 ^ ACD_KSEQ.width ∧
      u.media.saving.isSome = true) ∧
    (s.on ACD_KMIN 0 = true → exec .checkpointTimer s = .next (s.settled (s.set ACD_KDUE 0 1))) ∧
    (∀ c : AcdImage, s.media.saving = some c → s.on ACD_KDUE 0 = false → ∃ u : State, exec (.checkpointWritten false) s = .next (s.settled u) ∧
      (∀ i ∈ saveSlots c s, u.media.saves.find i = some c) ∧ u.media.saving = none ∧ u.get ACD_KBUSY 0 = 0) ∧
    (s.on ACD_KDUE 0 = false → exec .ckminExpiry s = .next (s.settled (s.set ACD_KMIN 0 0))) ∧
    (s.on ACD_JBUSY 0 = false → rowsIdle s = true →
      exec .acdClean s = .next (s.settled (startRecord ((s.setMany 0 [(ACD_CTL_CLEAN, 1), (ACD_CLEANREQ, 1)]).set ACD_CLEANREQ 0 0)))) ∧
    (rowsIdle s = false → exec .acdClean s = .next (s.settled (s.setMany 0 [(ACD_CTL_CLEAN, 1), (ACD_CLEANREQ, 1)]))) ∧
    (s.on ACD_CTL_CLEAN 0 = true →
      exec .acdCleanClr s = .next (s.settled (startRecord (s.setMany 0 [(ACD_CTL_CLEAN, 0), (ACD_CLEANREQ, 0), (ACD_PRECLEAR, 1)]))))

/-- Restart (R246, R247, R248): without a readable checkpoint nothing is restored; with the newest of them and a readable record that follows
it the zones take that record's pointers, and the numbers of later records go on from it; a zone that has been resynchronised leaves the list of those that wait for it. -/
def Obligations.RestoreAndResync : Prop :=
  ∀ s : State, reaches 8 s = true →
    (∀ a b : List (Nat × Nat), s.tables.stage ≠ 1 → newestBy (·.ckpt) (readableSaves a s) = none →
      exec (.checkpointRestore a b) s = .next (s.settled s)) ∧
    (∀ (a b : List (Nat × Nat)) (c r : AcdImage), s.tables.stage ≠ 1 → newestBy (·.ckpt) (readableSaves a s) = some c →
      newestBy (·.seq) (readableRecords b c.ckpt s) = some r → ∃ u : State, exec (.checkpointRestore a b) s = .next (s.settled u) ∧
        u.zones = r.zones.map (fun e => (e.1, { e.2 with accept := e.2.wp, ready := e.2.wp, durable := e.2.wp })) ∧
        u.rows = [] ∧ u.fronts = r.fronts ∧ u.get ACD_JRNL_SEQ 0 = r.seq % 2 ^ ACD_JRNL_SEQ.width ∧
        u.get ACD_JSEQ 0 = Nat.max (s.get ACD_JSEQ 0) r.seq % 2 ^ ACD_JSEQ.width) ∧
    (∀ (side : Fin 2) (z last : Nat), s.on ACD_CTL_RUN 0 = true → nextResync s = some z → driveRole s = true →
      s.on ACD_RESYNC_SCAN 0 = false → frontierBad z false s = [] → ∃ u : State, exec (.resyncZone side [] [] last) s = .next (s.settled u) ∧
        u.acd.resync = s.acd.resync.erase z ∧ u.acd.held = s.acd.held.filter (· ≠ z) ∧
        u.get ACD_RESYNC_ZONES 0 = (s.acd.resync.erase z).length % 2 ^ ACD_RESYNC_ZONES.width)


/-! ## Servo and actuators -/

/-- Targets (R263, R278, R300): a write of a target while the loops are closed latches the target and the offset, counts TSEQ, and clears
the settle flags and REFUSED; otherwise it only sets REFUSED. A run-ahead trajectory starts at the arm position of the targets. A timing entry is written only
while the actuator is parked. -/
def Obligations.TargetWrites : Prop :=
  ∀ s : State, reaches 3 s = true →
    (∀ (h : Fin 48) (v : Word), loopsClosed (actOf h) s = true →
      ∃ t, exec (.targetWrite h v) s = .next t ∧ t.get SRV_TGT_TRACK h = bits v.toNat 0 21 ∧ t.get SRV_TGT_ENGAGE h = bits v.toNat 28 1 ∧
        t.get SRV_TGT_WRMODE h = bits v.toNat 29 1 ∧ t.get SRV_TGT_LADDER h = bits v.toNat 30 1 ∧ t.on SRV_TPEND h = true ∧
        t.get SRV_POFS h = s.get SRV_TOFS_OFFTRK h % 2 ^ SRV_POFS.width ∧ t.get SRV_HSTS_TSEQ h = (s.get SRV_HSTS_TSEQ h + 1) % 2 ^ SRV_HSTS_TSEQ.width ∧
        t.on SRV_HSTS_SETTLED_RD h = false ∧ t.on SRV_HSTS_SETTLED_WR h = false ∧ t.on SRV_HSTS_REFUSED h = false ∧
        Keeps [SRV_TGT_TRACK, SRV_TGT_ENGAGE, SRV_TGT_WRMODE, SRV_TGT_LADDER, SRV_POFS, SRV_TPEND, SRV_HSTS_SETTLED_RD, SRV_HSTS_SETTLED_WR,
          SRV_HSTS_REFUSED, SRV_RDN, SRV_WRN, SRV_HSTS_TSEQ, SRV_NEXTOK, SRV_NEXT_VALID, SRV_CNT_RA_DISC] s t) ∧
    (∀ (h : Fin 48) (v : Word), loopsClosed (actOf h) s = false →
      exec (.targetWrite h v) s = .next (s.after (s.set SRV_HSTS_REFUSED h 1))) ∧
    (∀ (a : Fin 4) (v : Word), ∃ t, exec (.seekRunAhead a v) s = .next t ∧ t.get SRV_NEXT_TRACK a = bits v.toNat 0 21 ∧
      t.get SRV_NEXT_VALID a = bits v.toNat 31 1 ∧ t.get SRV_NEXTPOS a = uns SRV_NEXTPOS.width (targetArm a s) % 2 ^ SRV_NEXTPOS.width ∧
      Keeps [SRV_NEXT_TRACK, SRV_NEXT_VALID, SRV_NEXTOK, SRV_NEXTPOS] s t) ∧
    (∀ (a : Fin 4) (v : Word), s.get SRV_MEMADR_ARM a < 12 → ∃ t, exec (.srvMemdatWrite a v) s = .next t ∧
      (s.is SRV_STS_STATE a 0 = true → t.get SRV_WTAB (512 * (12 * a + s.get SRV_MEMADR_ARM a) + s.get SRV_MEMADR_ENTRY a) =
        v.toNat % 2 ^ SRV_WTAB.width) ∧
      (s.is SRV_STS_STATE a 0 = false → ∀ i, t.get SRV_WTAB i = s.get SRV_WTAB i) ∧ Keeps [SRV_WTAB, SRV_MEMADR_ENTRY] s t) ∧
    (∀ a : Fin 4, s.get SRV_MEMADR_ARM a < 12 → ∃ t, exec (.srvMemdatRead a) s = .next t ∧
      t.rdata = s.get SRV_WTAB (512 * (12 * a + s.get SRV_MEMADR_ARM a) + s.get SRV_MEMADR_ENTRY a) ∧
      t.get SRV_MEMADR_ENTRY a = (if s.on SRV_MEMADR_AUTOINC a then (s.get SRV_MEMADR_ENTRY a + 1) % 2 ^ SRV_MEMADR_ENTRY.width
        else s.get SRV_MEMADR_ENTRY a) ∧
      Keeps [SRV_MEMADR_ENTRY] s t)

/-- Heads at their wedges (R25, R69, R128, R255, R257, R269, R270, R275, R276, R280): a decision of a lane without a signal, or at an angle
where none is due, changes nothing; another's
posts whether the wedge was GOOD and the polarity of its sync mark; the settle report, the inhibit, the loss and the recovery of a head have the conditions that the
rules give. -/
def Obligations.HeadsAtWedges : Prop :=
  ∀ (s : State) (h : Fin 48), reaches 3 s = true →
    (∀ w : Wedge, (s.on LAN_POP h = false ∨ signalExists h s = false ∨ wedgeDue h s = none) → exec (.wedgeDecision h w) s = .next (s.settled s)) ∧
    (∀ w : Wedge, s.on LAN_POP h = true → signalExists h s = true → (wedgeDue h s).isSome = true → ∃ t, exec (.wedgeDecision h w) s = .next t ∧
      t.get SRV_POS_GOOD h = (wedgeGood h w (if s.on SRV_TPEND h then acceptTarget h (reportPolarity h w s)
        else reportPolarity h w s)).toNat ∧
      (∀ d inv, markFound w s = some (d, inv) → t.get SRV_SYNCINV h = inv.toNat)) ∧
    (∀ w : Wedge, wedgeGood h w s = true → (markFound w s).isSome = true ∧ w.dibit = true ∧ wedgeAt h s = some w.num.toNat ∧
      ((w.track.toNat : Int) * 256 - w.pred).natAbs * 8 ≤ s.get SRV_FRAME_TRKWIN 0 * 2048 + w.vel ∧
      s.get SRV_BAD_BMIN 0 * s.get SRV_SAFE_BNOM h ≤ (w.a + w.b) * 100 ∧ s.get SRV_BAD_BMIN 0 * s.get SRV_SAFE_BNOM h ≤ (w.c + w.d) * 100) ∧
    (∀ a : Fin 4, s.on SRV_STS_BLEND a = true → s.get SRV_HAND_NB a ≤ s.get SRV_BLI a →
      exec (.blendEnd a) s = .next (s.settled (s.set SRV_STS_BLEND a 0))) ∧
    (s.is SRV_STS_STATE (actOf h) 3 = true → s.is SRV_HSTS_MODE h 2 = true → s.on SRV_HSTS_SAT h = false →
      ∃ u, exec (.settleReached h) s = .next (s.settled u) ∧
        u.on SRV_HSTS_SETTLED_RD h = (s.on SRV_HSTS_SETTLED_RD h || decide (s.get SRV_SETTLE_NRD (actOf h) ≤ s.get SRV_RDN h)) ∧
        u.on SRV_HSTS_SETTLED_WR h = (s.on SRV_HSTS_SETTLED_WR h || (decide (s.get SRV_SETTLE_NWR (actOf h) ≤ s.get SRV_WRN h)
          && !s.on SRV_HSTS_INHIBIT h && !s.on SRV_HTWAIT h)) ∧ Keeps [SRV_HSTS_SETTLED_RD, SRV_HSTS_SETTLED_WR] s u) ∧
    (∃ u, exec (.inhibitRelease h) s = .next (s.settled u) ∧ u.on SRV_HSTS_INHIBIT h = (s.on SRV_HSTS_INHIBIT h &&
      !(!inhibitCause h s && decide (s.get SRV_HCFG_NREL h ≤ s.get SRV_RELN h) &&
        decide ((s.getI SRV_PES_PES h).natAbs ≤ s.get SRV_HCFG_WINH h)) : Bool) ∧ Keeps [SRV_HSTS_INHIBIT] s u) ∧
    (s.is SRV_SATN h 64 = true →
      exec (.microactuatorSaturation h) s = .next (s.settled (pulse (48 + 12 * actOf h + 11) (h % 12) (s.set SRV_SATN h 65)))) ∧
    (loopsClosed (actOf h) s = true → s.is SRV_HSTS_MODE h 3 = false → 1 ≤ s.get SRV_BADN h → s.get SRV_BAD_BADLIM 0 ≤ s.get SRV_BADN h →
      ∃ u, exec (.headLost h) s = .next (s.settled (pulse (48 + 12 * actOf h + 10) (h % 12) u)) ∧ u.is SRV_HSTS_MODE h 3 = true ∧
        u.on SRV_HSTS_INHIBIT h = true) ∧
    (s.is SRV_HSTS_MODE h 3 = true → 3 ≤ s.get SRV_GOODN h → s.on SRV_CENG h = true → s.is SRV_STS_STATE (actOf h) 3 = true →
      ∃ u, exec (.headRecover h) s = .next (s.settled u) ∧ u.get SRV_HSTS_MODE h =
        if (s.getI SRV_PES_PES h).natAbs ≤ s.get SRV_HAND_DIST (actOf h) * 256 then 2 else 1)

/-- Loading, unloading and retract (R271, R277, R288, R289, R290, R291, R293): a permitted load starts driving; its third failure fires the
load-failure source; a retract takes the driver and begins with its first phase, the phases follow one another, and the last leaves the
actuator parked with its driver off (log entry 18 on ENGAGED). -/
def Obligations.ArmMotion : Prop :=
  ∀ (s : State) (a : Fin 4),
    (reaches 3 s = true →
      (loadAllowed a s = true → ∃ u, exec (.loadRequest a) s = .next (s.settled u) ∧ u.is SRV_STS_STATE a 1 = true ∧
        u.on SRV_DRVEN a = true ∧ u.bit SRV_RET_STS_PARKED 0 a = false ∧ u.bit SRV_RET_STS_ENGAGED 0 a = false) ∧
      (loadAllowed a s = false → exec (.loadRequest a) s = .next (s.settled s)) ∧
      (s.is SRV_STS_STATE a 1 = true → s.on GLB_WIRING_CALDONE 0 = true → 2 ≤ s.get SRV_LOADS a →
        exec (.loadTimeout a) s = .next (s.settled (pulse (48 + 12 * a + 2) 0xFF
          ((withFollow (retract a s)).setMany a [(SRV_LOADS, 0), (SRV_RELOAD, 0)])))) ∧
      (s.is SRV_STS_STATE a 3 = true → ∃ u, exec (.unloadRequest a) s = .next (s.settled u) ∧ u.is SRV_STS_STATE a 2 = true ∧
        u.getI SRV_ARM a = 0 ∧ u.on SRV_UNLOAD a = true) ∧
      (s.is SRV_STS_STATE a 2 = true → s.on SRV_SEEKTO a = false → seekOverdue a s = true → exec (.seekTimeout a) s = .next (s.settled
        (pulse (48 + 12 * a + 1) 0xFF ((((s.bump SRV_CNT_SEEKS a).setI SRV_TP a (s.getI SRV_X a)).setI SRV_TV a (s.getI SRV_VEL a)).setMany a
          [(SRV_TA, 0), (SRV_TDONE, 0), (SRV_TDN, 0), (SRV_SEEKTO, 1)])))) ∧
      (seekOverdue a s = false → exec (.seekTimeout a) s = .next (s.settled s)) ∧
      (s.is SRV_STS_STATE a 2 = true → s.on SRV_SEEKTO a = true → seekOverdue a s = true → exec (.seekTimeout a) s = .next (s.settled
        (withFollow (retract a (pulse (48 + 12 * a + 1) 0xFF s))))) ∧
      (loopsClosed a s = true → 1 ≤ s.get SRV_ALOSTN a → s.get SRV_BAD_ALOST 0 ≤ s.get SRV_ALOSTN a →
        exec (.actuatorLost a) s = .next (s.settled (pulse (48 + 12 * a) 0xFF (withFollow (retract a (s.set SRV_ALOSTN a 0)))))) ∧
      (s.is SRV_STS_STATE a 0 = false → exec (.retractRequest a) s = .next (s.settled (withFollow (retract a s)))) ∧
      (s.is SRV_STS_STATE a 0 = false → s.on HLK_STS_UP a = false →
        exec (.linkDownRetract a) s = .next (s.settled (withFollow (retract a s))))) ∧
    (s.on SRV_OPEN a = false → s.is SRV_STS_STATE a 0 = false → s.is SRV_STS_STATE a 4 = false →
      (retract a s).1.is SRV_STS_STATE a 4 = true ∧ (retract a s).1.on SRV_DRVEN a = true ∧
      (retract a s).1.bit SRV_RET_STS_ENGAGED 0 a = true ∧ (retract a s).1.bit SRV_RET_STS_PARKED 0 a = false ∧
      (retract a s).1.get SRV_PHASE a = if velocityKnown a s then 1 else 2) ∧
    (aonDown s = false → poweredOff 3 s = false →
      (s.is SRV_PHASE a 1 = true → exec (.retractPhaseEnd a) s = .next (s.settled (retractDrive a (s.set SRV_PHASE a 2)))) ∧
      (s.is SRV_PHASE a 2 = true → exec (.retractPhaseEnd a) s = .next (s.settled (retractDrive a (s.set SRV_PHASE a 3)))) ∧
      (∀ i : Int, i = (if s.on SRV_VCMCFG_INV a then 1 else -1) → s.get SRV_RET_CFG_IRET 0 < 256 → s.get SRV_RET_CFG_IPARK 0 < 256 →
        (retractDrive a (s.set SRV_PHASE a 2)).getI SRV_DAC a = i * (s.get SRV_RET_CFG_IRET 0 * 128) ∧
        (retractDrive a (s.set SRV_PHASE a 3)).getI SRV_DAC a = i * (s.get SRV_RET_CFG_IPARK 0 * 128)) ∧
      (s.is SRV_PHASE a 3 = true → s.on SRV_RELOAD a = false → ∃ u, exec (.retractPhaseEnd a) s = .next (s.settled u) ∧
        u.on SRV_PHASE a = false ∧ u.on SRV_DRVEN a = false ∧ u.is SRV_STS_STATE a 0 = true ∧ u.bit SRV_RET_STS_PARKED 0 a = true))

/-- VCM faults (R295, R296, R297, R299, R640): the driver goes off on an open coil and on an overcurrent, whose test then retracts the
actuator or makes it an open coil; a shorted lead retracts it with its heads out of service, a runaway retracts it, and an exchanged sense
pair turns the driver off; each fires its own source. -/
def Obligations.CoilFaults : Prop :=
  ∀ (s : State) (a : Fin 4), reaches 3 s = true →
    (s.on SRV_DRVEN a = true → exec (.vcmOpenCoil a) s = .next (s.settled (coilOpen a s))) ∧
    (s.on SRV_DRVEN a = false → exec (.vcmOpenCoil a) s = .next (s.settled s)) ∧
    (∃ u, coilOpen a s = pulse (48 + 12 * a + 3) 0xFF (withFollow (headsOut a u)) ∧ u.on SRV_DRVEN a = false ∧ u.on SRV_OPEN a = true ∧
      u.bit SRV_RET_STS_ENGAGED 0 a = false ∧ ∀ p < 12, u.on SRV_CENG (12 * a + p) = false) ∧
    (s.on SRV_DRVEN a = true → ∃ u, exec (.vcmOvercurrent a) s = .next (s.settled (pulse (48 + 12 * a + 4) 0xFF u)) ∧
      u.on SRV_DRVEN a = false ∧ u.on SRV_OCWAIT a = true ∧ u.bit SRV_RET_STS_ENGAGED 0 a = true) ∧
    (s.on SRV_OCWAIT a = true → exec (.vcmOcTest a true) s = .next (s.settled
      (withFollow (retract a (s.setMany a [(SRV_OCWAIT, 0), (SRV_STS_STATE, 5)]))))) ∧
    (s.on SRV_OCWAIT a = true → exec (.vcmOcTest a false) s = .next (s.settled (coilOpen a s))) ∧
    (s.is SRV_STS_STATE a 2 = true → exec (.vcmLeadShort a) s = .next (s.settled (pulse (48 + 12 * a + 5) 0xFF (withFollow (retractOut a s))))) ∧
    (loopsClosed a s = true → s.is SRV_RUNN a 16 = true →
      exec (.vcmPolarityRunaway a) s = .next (s.settled (pulse (48 + 12 * a + 6) 0xFF (withFollow (retract a s))))) ∧
    (s.on SRV_DRVEN a = true →
      exec (.vcmSensePairExchanged a) s = .next (s.settled (pulse (48 + 12 * a + 6) 0xFF (s.set SRV_DRVEN a 0))))


/-! ## Spindle -/

/-- The bridge, the observer and the angles (R308, R309, R313–R318, R338): a PWM period records the bus voltage; lock, loss, agreement, hand-over and calibration have the conditions that the rules give. -/
def Obligations.ObserverAndAngles : Prop :=
  (∀ h < 3, ∀ l < 3, h ≠ l → ∀ i1 i2 : Int, phaseCurrent h l i1 i2 0 + phaseCurrent h l i1 i2 1 + phaseCurrent h l i1 i2 2 = 0) ∧
  ∀ s : State, reaches 2 s = true →
    (∀ (x : ShuntReading) (p : PhaseReading) (vbus : BitVec 12) (a : Nat) (v : Int) (e m : Nat),
      ∃ t, exec (.pwmPeriod x p vbus a v e m) s = .next t ∧ t.get SPN_BUS_VBUS 0 = voltageOf vbus.toNat s % 2 ^ SPN_BUS_VBUS.width) ∧
    (8 ≤ s.get SPN_INVN 0 → exec .currentSenseFault s = .next (s.settled (settleAngle
      (pulse 31 0xFF (withFollow (senseLost (s.set SPN_INVN 0 0))))))) ∧
    (observerRuns s = true → 32 ≤ s.get SPN_LOCKN 0 → exec .observerLock s = .next (s.settled (settleAngle
      (s.set SPN_STATE_OBSLOCK 0 1)))) ∧
    (observerRuns s = false → exec .observerLock s = .next (s.settled (settleAngle s))) ∧
    (s.on SPN_STATE_OBSLOCK 0 = true → 8 ≤ s.get SPN_ERRN 0 → s.is SPN_STATE_STATE 0 6 = true → pilotExists s = true →
      ∃ u, exec .observerLockLoss s = .next (s.settled (settleAngle (pulse 34 0xFF u))) ∧ u.on SPN_STATE_OBSLOCK 0 = false ∧
        u.is SPN_STATE_STATE 0 6 = true ∧ u.get SPN_OBSANG 0 = pilotAngle s % 2 ^ SPN_OBSANG.width) ∧
    (s.on SPN_STATE_OBSLOCK 0 = true → 8 ≤ s.get SPN_ERRN 0 → s.is SPN_STATE_STATE 0 5 = true → pilotExists s = false →
      ∃ u, exec .observerLockLoss s = .next (s.settled (settleAngle (withFollow (u, [(35, 0xFF)])))) ∧ u.is SPN_STATE_STATE 0 7 = true ∧
        u.get SPN_BRIDGE 0 = 0) ∧
    (s.is SPN_STATE_STATE 0 5 = true → agreed s = true →
      wrapElec ((commAngle s : Int) - pilotAngle s) = 0 → ∃ u, exec .pilotHandover s = .next (s.settled (settleAngle u)) ∧
        u.is SPN_STATE_STATE 0 6 = true) ∧
    (agreed s = false → exec .pilotHandover s = .next (s.settled (settleAngle s))) ∧
    (s.is SPN_STATE_STATE 0 5 = true → s.get SPN_HAND_NAGREE 0 ≤ s.get SPN_DISN 0 →
      exec .angleDisagreement s = .next (s.settled (settleAngle (pulse 32 0xFF s)))) ∧
    (s.is SPN_STATE_STATE 0 5 = true → s.on SPN_DISN 0 = true → s.on SPN_SLEWING 0 = false → exec .pilotSuspect s =
      .next (s.settled (settleAngle (pulse 33 0xFF (s.set SPN_STATE_PSUSP 0 1))))) ∧
    (s.is SPN_STATE_STATE 0 5 = true → s.on SPN_DISN 0 = true → s.on SPN_SLEWING 0 = true → ∃ u, exec .pilotSuspect s =
      .next (s.settled (settleAngle (pulse 33 0xFF u))) ∧ u.on SPN_STATE_PSUSP 0 = true ∧ u.on SPN_ONPILOT 0 = false ∧ u.on SPN_SLEWING 0 = false) ∧
    (exec .psuspClear s = .next (s.settled (settleAngle (s.set SPN_STATE_PSUSP 0 0)))) ∧
    (s.is SPN_STATE_STATE 0 5 = true → 16000 ≤ s.getI SPN_SPEED 0 → speedSteady s = true → pilotExists s = true →
      exec .spnCal s = .next (s.settled (settleAngle (s.setMany 0 [(SPN_STATE_CAL_DONE, 0), (SPN_CALRUN, 1), (SPN_CALN, 0),
        (SPN_CALSUM, 0), (SPN_CALREF, 0)])))) ∧
    ((s.is SPN_STATE_STATE 0 5 = false ∨ s.getI SPN_SPEED 0 < 16000 ∨ speedSteady s = false ∨ pilotExists s = false) →
      exec .spnCal s = .next (s.settled (settleAngle s))) ∧
    (∀ revs : BitVec 32, s.on SPN_CALRUN 0 = true → s.is SPN_STATE_STATE 0 5 = true → pilotExists s = true → speedSteady s = true →
      256 ≤ revs.toNat → exec (.eofsCalDone revs) s = .next (s.settled (settleAngle (s.setMany 0
        [(SPN_EOFS, calibratedEofs s), (SPN_STATE_CAL_DONE, 1), (SPN_CALRUN, 0)])))) ∧
    (∀ revs : BitVec 32, s.on SPN_CALRUN 0 = true → (s.is SPN_STATE_STATE 0 5 = false ∨ pilotExists s = false ∨ speedSteady s = false) →
      exec (.eofsCalDone revs) s = .next (s.settled (settleAngle (s.set SPN_CALRUN 0 0))))

/-- Speed and its reference (R320, R322, R324, R325, R328–R330, R340): the speed loop records its measurements; an edge is ignored in
another mode; a target that is written takes effect in mode 0, a sampled one not before enough samples; LOADOK, PLOCK and REFLOST have their conditions. -/
def Obligations.SpeedAndReference : Prop :=
  ∀ s : State, reaches 2 s = true →
    (∀ (d0 : Int) (d1 d2 d3 : Nat) (speed : BitVec 20) (age : BitVec 16) (same : Bool) (rest : BitVec 16),
      ∃ t, exec (.speedLoopUpdate d0 d1 d2 d3 speed age same rest) s = .next t ∧ t.get SPN_SPEED 0 = speed.toNat ∧
        t.get SPN_TEMP_REST 0 = rest.toNat ∧
        t.get SPN_TEMP_TEMP 0 = (clampI 0 255 (windingTemp rest.toNat (Nat.max 1 (s.get SPN_MOTOR_RS 0)))).toNat) ∧
    (∀ freq : Nat, s.is SPN_REFMODE_MODE 0 1 = false → exec (.spdRefEdge freq) s = .next (s.after s)) ∧
    (∀ freq : Nat, s.is SPN_REFMODE_MODE 0 1 = true → ∃ t, exec (.spdRefEdge freq) s = .next t ∧
      t.on SPN_STATE_REFLOST 0 = false ∧ t.get SPN_FHIST 0 = Nat.min 1048575 (freq * 960 / (1000 * (s.get SPN_REFCFG_PPR 0 + 1)))) ∧
    (s.is SPN_REFMODE_MODE 0 1 = true → 16 ≤ s.get SPN_LOCKE 0 → s.on SPN_PHOFF 0 = false →
      exec .phaseLock s = .next (s.after (s.set SPN_STATE_PLOCK 0 1))) ∧
    (s.is SPN_REFMODE_MODE 0 1 = true →
      exec .referenceLost s = .next (s.after (raise 38 0xFF (s.setMany 0 [(SPN_STATE_REFLOST, 1), (SPN_FEDGES, 0)])))) ∧
    (∀ v : Nat, (s.is SPN_REFMODE_MODE 0 0 = true ∨ s.is SPN_REFMODE_MODE 0 1 = true) → exec (.spdRefSample v) s = .next (s.after s)) ∧
    (∀ v : Nat, s.is SPN_REFMODE_MODE 0 2 = true → s.get SPN_SMPN 0 < 7 → 0 < v → v < 65536 → ∃ t, exec (.spdRefSample v) s = .next t ∧
      t.get SPN_SMPN 0 = s.get SPN_SMPN 0 + 1 ∧ t.getI SPN_TGT 0 = s.getI SPN_TGT 0) ∧
    (∀ v : BitVec 16, s.on SPN_REFMODE_MODE 0 = true → exec (.speedTargetWrite v) s = .next (s.after (s.set SPN_SETPT_TARGET 0 v.toNat))) ∧
    (∀ v : BitVec 16, s.is SPN_REFMODE_MODE 0 0 = true → ∃ t, exec (.speedTargetWrite v) s = .next t ∧
      t.get SPN_SETPT_TARGET 0 = v.toNat ∧ t.getI SPN_TGT 0 = sgn 16 v.toNat * 16) ∧
    ((s.is SPN_STATE_STATE 0 5 = true ∨ s.is SPN_STATE_STATE 0 6 = true) → rampAtTarget s = true →
      nearSpeed (speedOf (s.getI SPN_TGT 0)) s = true →
      exec .loadokSet s = .next (s.settled (settleAngle (s.set SPN_STATE_LOADOK 0 1))))

/-- Starting (R331, R332, R333, R334, R335, R336, R337, R339, R358): the sequence of states from START to closed-loop running, and where
each stage fails. An automatic start acts as a write of START. Under a standing DRYDOWN order START is dropped; that the firmware's write is the
local order of R619 is the model's reading (log entry 39). -/
def Obligations.SpindleStart : Prop :=
  ∀ s : State, reaches 2 s = true →
    (s.on SPN_CTL_AUTOSTART 0 = true → s.on SPN_REFMODE_MODE 0 = true → s.is SPN_STATE_STATE 0 0 = true → 57600 ≤ s.getI SPN_TGT 0 →
      exec .autostart s = exec .spnStart s) ∧
    (s.on CLB_ORDER_DRYDOWN 0 = true → exec .spnStart s = .next (s.settled (settleAngle (s.bump MGR_ORD_LOST 0)))) ∧
    (s.on CLB_ORDER_DRYDOWN 0 = false → s.on SPN_STATE_FAULTLOCK 0 = true → exec .spnStart s = .next (s.settled (settleAngle s))) ∧
    (s.on CLB_ORDER_DRYDOWN 0 = false → s.on SPN_STATE_FAULTLOCK 0 = false → s.on FLT_SAFE_ACTIVE 0 = false → s.is SPN_STATE_STATE 0 0 = true → 48000 ≤ s.getI SPN_TGT 0 →
      ∃ u, exec .spnStart s = .next (s.settled (settleAngle u)) ∧ u.is SPN_STATE_STATE 0 1 = true ∧ u.get SPN_BRIDGE 0 = 0) ∧
    (s.on CLB_ORDER_DRYDOWN 0 = false → s.is SPN_STATE_STATE 0 0 = false → s.is SPN_STATE_STATE 0 9 = false →
      exec .spnStart s = .next (s.settled (settleAngle s))) ∧
    (s.is SPN_STATE_STATE 0 1 = true → s.on SPN_OCWAIT 0 = false → pilotMeasures s = false →
      (∀ c, exec (.senseEnd .still c) s = .next (s.settled (settleAngle (enterAlign s)))) ∧
      (∀ c : Crossings, s.get SPN_BRAKE_VCATCH 0 * 160 < c.speed → ∃ u, exec (.senseEnd .forward c) s = .next (s.settled (settleAngle u)) ∧
        u.is SPN_STATE_STATE 0 8 = true) ∧
      (∀ c : Crossings, c.speed ≤ s.get SPN_BRAKE_VCATCH 0 * 160 → exec (.senseEnd .forward c) s = .next (s.settled (settleAngle (spnGo 2 1 s)))) ∧
      (∀ c, exec (.senseEnd .backward c) s = .next (s.settled (settleAngle (spnGo 2 1 s)))) ∧
      (∀ c, exec (.senseEnd .unresolvedEmf c) s = .next (s.settled (settleAngle (spnGo 2 1 s))))) ∧
    (s.is SPN_STATE_STATE 0 1 = true → s.on SPN_OCWAIT 0 = false → pilotMeasures s = true → s.on ANG_RATE 0 = true →
      s.on ANG_SRC_DIR 0 = true → ∀ f c, exec (.senseEnd f c) s = .next (s.settled (settleAngle (spnGo 2 1 s)))) ∧
    (enterAlign s).is SPN_STATE_STATE 0 3 = true ∧
    (s.is SPN_STATE_STATE 0 2 = true →
      (slowByPilot s = true → exec .brakeEnd s = .next (s.settled (settleAngle (enterAlign s)))) ∧
      (slowByPilot s = false → exec .brakeEnd s = .next (s.settled (settleAngle s))) ∧
      (exec .brakeTimeout s = .next (s.settled (settleAngle (pulse 30 0xFF (enterAlign s)))))) ∧
    (s.is SPN_STATE_STATE 0 3 = true →
      (exec (.alignEnd true false) s = .next (s.settled (settleAngle (enterOpenloop s)))) ∧
      (exec (.alignEnd false false) s = .next (s.settled (settleAngle (pulse 27 0xFF (spnGo 0 0 (s.set SPN_STATE_FAULTLOCK 0 1)))))) ∧
      (∀ drew, exec (.alignEnd drew true) s = .next (s.settled (settleAngle (pulse 31 0xFF (failStart s)))))) ∧
    (s.is SPN_STATE_STATE 0 4 = true →
      (s.on SPN_STATE_OBSLOCK 0 = true → imposedReached s = true → ∃ u, exec .openloopHandover s = .next (s.settled (settleAngle u)) ∧
        u.is SPN_STATE_STATE 0 5 = true ∧ u.get SPN_FAILS 0 = 0) ∧
      (s.get SPN_FAILS 0 < 2 → exec .startFailure s = .next (s.settled (settleAngle (spnGo 1 0 (s.bump SPN_FAILS 0))))) ∧
      (2 ≤ s.get SPN_FAILS 0 → exec .startFailure s = .next (s.settled (settleAngle (pulse 29 0xFF (spnGo 0 0 (s.set SPN_FAILS 0 0)))))) ∧
      (s.get SPN_MOTOR_SWAP 0 ≤ 1 → turnsBackward s = true → ∃ u, exec .phaseOrderLearn s = .next (s.settled (settleAngle (pulse 28 0xFF u))) ∧
        u.get SPN_MOTOR_SWAP 0 = 1 - s.get SPN_MOTOR_SWAP 0 ∧ u.on SPN_STATE_SWAP_LEARNED 0 = true ∧ u.is SPN_STATE_STATE 0 1 = true ∧
        u.get SPN_FAILS 0 = s.get SPN_FAILS 0)) ∧
    (s.is SPN_STATE_STATE 0 8 = true → s.is SPN_DDKIND 0 3 = false → ∃ u, exec .catchEnd s = .next (s.settled (settleAngle u)) ∧
      u.get SPN_STATE_STATE 0 = if agreed s then 6 else 5)

/-- Loss of the rotor, drydowns and the end of power (R342–R350, R352, R353): reacquisition is counted and its failure dries down; an
orderly drydown waits for PARK; once the actuators are parked the drydown ends as its kind says; a power loss is the last gasp.
The bridge without an angle and the start of the reacquisition window are the model's reading (log entry 31). -/
def Obligations.Drydowns : Prop :=
  ∀ s : State, reaches 2 s = true →
    (s.is SPN_STATE_STATE 0 7 = true →
      (s.on SPN_OCWAIT 0 = false → ∀ c, ∃ u, exec (.reacqAttemptEnd (some c)) s = .next (s.settled (settleAngle u)) ∧ u.is SPN_STATE_STATE 0 8 = true) ∧
      (s.on SPN_OCWAIT 0 = false → s.on SPN_STATE_REACQ 0 = true → s.aonNs ≤ s.get SPN_RQTIME 0 + s.get SPN_CATCH_TWIN 0 * 1000000000 →
        exec (.reacqAttemptEnd none) s = .next (s.settled (settleAngle (s.addSat SPN_STATE_REACQ 0 1)))) ∧
      (s.get SPN_CATCH_NREACQ 0 ≤ s.get SPN_STATE_REACQ 0 → exec .reacqFailure s = .next (s.settled (settleAngle
        (pulse 36 0xFF (withFollow (urgentDrydown true (s.set SPN_STATE_REACQ 0 0))))))) ∧
      (s.is SPN_DDKIND 0 3 = false → s.getI SPN_SPEED 0 * 100 < (s.get SPN_CATCH_VRET 0 : Nat) * s.getI SPN_RAMPV 0 →
        exec .speedFallback s = .next (s.settled (settleAngle
          (withFollow (drydownRequest (s.setMany 0 [(SPN_DDKIND, 3), (SPN_STATE_LOADOK, 0)]))))))) ∧
    ((s.getI SPN_SPEED 0).natAbs < 48000 → allParked s = false → s.is SPN_DDKIND 0 3 = false →
      exec .lowSpeedDrydown s = .next (s.settled (settleAngle (withFollow (urgentDrydown false s))))) ∧
    (s.is SPN_STATE_STATE 0 0 = true → (urgentDrydown true s).1.is SPN_STATE_STATE 0 0 = true ∧ (urgentDrydown true s).2 = []) ∧
    (s.on CLB_ORDER_SPIN 0 = true → exec .spnStop s = .next (s.settled (settleAngle (s.bump MGR_ORD_LOST 0))) ∧
      exec .spnDrydown s = .next (s.settled (settleAngle (s.bump MGR_ORD_LOST 0)))) ∧
    (s.on CLB_ORDER_SPIN 0 = false → (placeFrontiers s).is SPN_STATE_STATE 0 0 = false → (placeFrontiers s).is SPN_STATE_STATE 0 9 = false → (placeFrontiers s).is SPN_DDKIND 0 3 = false →
      (∃ u, exec .spnStop s = .next (s.settled (settleAngle u)) ∧ u.is SPN_STATE_STATE 0 9 = true ∧ u.is SPN_DDKIND 0 1 = true ∧
        u.on SPN_STATE_DRYPEND 0 = true) ∧
      (∃ u, exec .spnDrydown s = .next (s.settled (settleAngle u)) ∧ u.is SPN_STATE_STATE 0 9 = true ∧ u.is SPN_DDKIND 0 2 = true ∧
        u.on SPN_STATE_DRYPEND 0 = true)) ∧
    (s.is SPN_STATE_STATE 0 9 = true →
      (s.on SPN_STATE_DRYPEND 0 = true → exec .spnPark s = .next (s.settled (settleAngle (withFollow (drydownRequest s))))) ∧
      (s.on SPN_STATE_DRYPEND 0 = true → exec .drydownTimeout s = .next (s.settled (settleAngle (withFollow (drydownRequest s))))) ∧
      (s.on SPN_STATE_DRYPEND 0 = false → exec .spnPark s = .next (s.settled (settleAngle s))) ∧
      (s.on SPN_DDREQ 0 = true → allParked s = true → s.on SPN_HELD 0 = true → 48000 ≤ s.getI SPN_TGT 0 → ∃ u,
        exec .actuatorsParked s = .next (s.settled (settleAngle u)) ∧ u.is SPN_STATE_STATE 0 1 = true ∧ u.on SPN_HELD 0 = false) ∧
      (s.on SPN_DDREQ 0 = true → allParked s = true → s.on SPN_HELD 0 = false → s.is SPN_BRIDGE 0 5 = false → ∃ u,
        exec .actuatorsParked s = .next (s.settled (settleAngle u)) ∧ u.get SPN_BRIDGE 0 = if s.is SPN_DDKIND 0 1 then 1 else 0) ∧
      (s.on SPN_HELD 0 = false → slowByPilot s = true → ∃ u, exec .spindleStopped s = .next (s.settled (settleAngle u)) ∧ u.is SPN_STATE_STATE 0 0 = true ∧
        u.on SPN_STATE_DRYPEND 0 = false)) ∧
    ((s.liveOf 39).any (fun e => e.inst == 0xFF) = false → s.on FLT_SAFE_ACTIVE 0 = false →
      exec .powerLoss s = .next (s.settled (settleAngle (raise 39 0xFF ((s.set SPN_STATE_LASTGASP 0 1).marker 3))))) ∧
    (s.is SPN_BRIDGE 0 5 = true → regenSpent s = true → exec .regenEnd s = .next (s.settled (settleAngle (parkedEnd (setBridge 0 s)))))

/-- Wiring faults of the motor (R310, R356, R357): the gates go off, the source of the cause fires, and a test that fails, or a short,
locks the spindle
out. That its state is kept during the wait of an overcurrent is the model's reading (log entry 31). -/
def Obligations.MotorWiringFaults : Prop :=
  ∀ s : State, reaches 2 s = true →
    (s.is SPN_STATE_STATE 0 0 = false → ∃ u, exec (.shuntOvercurrent false) s = .next (s.settled (settleAngle (pulse 24 0xFF u))) ∧
      u.get SPN_BRIDGE 0 = 0 ∧ u.on SPN_OCWAIT 0 = true) ∧
    (s.is SPN_STATE_STATE 0 0 = false → ∃ u, exec (.shuntOvercurrent true) s = .next (s.settled (settleAngle (pulse 26 0xFF u))) ∧
      u.get SPN_BRIDGE 0 = 0 ∧ u.on SPN_OCFAIL 0 = true) ∧
    (s.on SPN_OCWAIT 0 = true → s.on SPN_OCFAIL 0 = false → s.is SPN_STATE_STATE 0 9 = false → s.is SPN_DDKIND 0 3 = false → ∃ u,
      exec (.overcurrentTest true) s = .next (s.settled (settleAngle u)) ∧ u.is SPN_STATE_STATE 0 1 = true ∧ u.on SPN_OCWAIT 0 = false) ∧
    (s.on SPN_OCWAIT 0 = true → exec (.overcurrentTest false) s = .next (s.settled (settleAngle (withFollow (lockOut s))))) ∧
    (lockOut s).1.on SPN_STATE_FAULTLOCK 0 = true ∧
    (∀ p : Fin 3, (s.on SPN_BRIDGE 0 = true ∨ s.on SPN_OCWAIT 0 = true) →
      exec (.phaseShortGround p) s = .next (s.settled (settleAngle (pulse 25 0xFF (withFollow (lockOut s))))) ∧
      exec (.openPhase p) s = .next (s.settled (settleAngle (pulse 27 0xFF (withFollow (lockOut s)))))) ∧
    (exec .busOvervoltage s = .next (s.settled (settleAngle (raise 40 0xFF (s.set SPN_OVRED 0 1)))))


/-! ## Loop engine -/

/-- The MAC slots (R363, R365, R368): a word whose only operation is one of MAC works on its own accumulator only, saturated at 64 bits; `wr` writes the
shifted accumulator, saturated to 32 bits, rounded to nearest where Q bit 0 is set (the direction of an exact half is free, log entry 27),
and its flags where Q bit 1 is set (V is the saturation, the model's reading: log entry 27). An operation that the word at the program counter
does not hold is not fetched. -/
def Obligations.MacSlots : Prop :=
  ∀ (s : State) (c : Fin 64) (n : Fin 4) (a b : Fin 32) (q : Fin 4), reaches 4 s = true →
    (∀ e ∈ [(Instr.mul c n a b q true, product c a b q s), (.mac c n a b q true, acc c n s + product c a b q s),
        (.msu c n a b q true, acc c n s - product c a b q s), (.add c n a true, acc c n s + xreg c a s), (.lda c n a true, xreg c a s),
        (.clr c n true, 0), (.abs c n true, ((acc c n s).natAbs : Int)), (.min c n a true, min (acc c n s) (xreg c a s)),
        (.max c n a true, max (acc c n s) (xreg c a s))],
      (Fetches c s → spells (fetchWord c s) e.1 = false → exec e.1 s = .next (s.after s)) ∧
      (FetchesOnly c e.1 s → ∃ u, exec e.1 s = .next (s.after (settleTrace s u)) ∧ acc c n u = clampI (-2 ^ 63) (2 ^ 63 - 1) e.2 ∧
        u.get CTX_PC c = (s.get CTX_PC c + 1) % 2 ^ 16 ∧ (∀ k : Nat, k ≠ 4 * c.val + n.val → u.get CTX_ACC k = s.get CTX_ACC k) ∧
        Keeps [CTX_ACC, CTX_WORDS, CTX_PC] s u)) ∧
    (FetchesOnly c (.nop c n true) s → exec (.nop c n true) s = .next (s.after (settleTrace s (wordTaken c s)))) ∧
    (FetchesOnly c (.wr c n a b q true) s → ∃ (u : State) (r : Int), exec (.wr c n a b q true) s = .next (s.after (settleTrace s u)) ∧ xreg c a u = sat32 r ∧
      (q.val.testBit 0 = false → r = acc c n s / 2 ^ b.val) ∧
      (q.val.testBit 0 = true → (2 ^ b.val * r - acc c n s).natAbs * 2 ≤ 2 ^ b.val) ∧
      (q.val.testBit 1 = true → u.on CTX_N c = decide (sat32 r < 0) ∧ u.on CTX_Z c = decide (sat32 r = 0) ∧ u.on CTX_V c = decide (sat32 r ≠ r)) ∧
      (q.val.testBit 1 = false → u.get CTX_N c = s.get CTX_N c ∧ u.get CTX_Z c = s.get CTX_Z c ∧ u.get CTX_V c = s.get CTX_V c) ∧
      (∀ k : Nat, k ≠ 32 * c.val + a.val → u.get CTX_X k = s.get CTX_X k) ∧ Keeps [CTX_X, CTX_N, CTX_Z, CTX_V, CTX_WORDS, CTX_PC] s u) ∧
    (product c a b q s = xreg c a s * xreg c b s / (if q.val = 0 then 1 else if q.val = 1 then 2 ^ 15 else if q.val = 2 then 2 ^ 16 else 2 ^ 31))

/-- The load/store slots (R366, R368, R370, R377, R378): a word whose only operation is one of these on a permitted target loads, or waits for a register,
stores one word of data memory, stages, writes a port at once, or sets a base register; a load from an uncorrectable word of data memory
only kills its context (R394). -/
def Obligations.LoadStoreSlots : Prop :=
  ∀ (s : State) (c : Fin 64) (n : Fin 2) (x : Fin 32) (b : Fin 8) (off : BitVec 9) (a : Nat), reaches 4 s = true →
    a = slotAddr c b off.toNat s →
    (FetchesOnly c (.ld c n x b off true) s → loadable a = true → inRegs a = false → (inData a && s.csBad.contains (131072 + a / 2)) = false → ∃ u,
      exec (.ld c n x b off true) s = .next (s.after (settleTrace s u)) ∧
      u.get CTX_X (32 * c + x) = engineWord c a s % 2 ^ 32 ∧ Keeps [CTX_X, CTX_WORDS, CTX_PC] s u) ∧
    (FetchesOnly c (.ld c n x b off true) s → inData a = true → s.csBad.contains (131072 + a / 2) = true → exec (.ld c n x b off true) s =
      .next (s.after (uncorrectable c 2 { s with word := s.word.del c }))) ∧
    (FetchesOnly c (.ld c n x b off true) s → inRegs a = true → ∃ u, exec (.ld c n x b off true) s = .next (s.after (settleTrace s u)) ∧ u.on CTX_STALL c = true ∧
      u.get CTX_LDX (2 * c + n) = x + 1 ∧ u.get CTX_LDA (2 * c + n) = a ∧ Keeps [CTX_STALL, CTX_LDX, CTX_LDA, CTX_WORDS, CTX_PC] s u) ∧
    (FetchesOnly c (.st c n x b off true) s → storeAllowed c a s = true → ∃ u, exec (.st c n x b off true) s = .next (s.after (settleTrace s u)) ∧
      u.mem = s.mem.setWord (dmByte a) 4 (s.get CTX_X (32 * c + x)) ∧ ∀ k, (k < dmByte a ∨ dmByte a + 4 ≤ k) → u.mem.read k = s.mem.read k) ∧
    (FetchesOnly c (.stg c n x b off true) s → stageAllowed c a s = true → (NMap.get [] s.stage c).length < 16 → ∃ u,
      exec (.stg c n x b off true) s = .next (s.after (settleTrace s u)) ∧
      u.stage = s.stage.put c (NMap.get [] s.stage c ++ [(a, s.get CTX_X (32 * c + x))]) ∧ Keeps [CTX_WORDS, CTX_PC] s u) ∧
    (FetchesOnly c (.dir c n x b off true) s → s.on LPE_CTX_CUST c = false → inPorts a = true → exec (.dir c n x b off true) s = .next (s.after (settleTrace s
      (writePort ((a - 0x20000) / 16) ((a - 0x20000) % 16) (s.get CTX_X (32 * c + x)) (some (s.get CTX_STAMP c, s.get CTX_EPOCH c))
        (wordTaken c s))))) ∧
    (FetchesOnly c (.dir c n x b off true) s → s.on LPE_CTX_CUST c = false → inRegs a = true → exec (.dir c n x b off true) s = .next (s.after (settleTrace s
      (engineBus (regByte a) (s.get CTX_X (32 * c + x)) (wordTaken c s))))) ∧
    (FetchesOnly c (.movb c n x b off true) s → ∃ u, exec (.movb c n x b off true) s = .next (s.after (settleTrace s u)) ∧
      u.get CTX_B (8 * c + b) = (s.get CTX_X (32 * c + x) + off.toNat) % 2 ^ 24 ∧ Keeps [CTX_B, CTX_WORDS, CTX_PC] s u) ∧
    (∀ i ∈ [Instr.ld c n x b off true, .st c n x b off true, .stg c n x b off true, .dir c n x b off true], FetchesOnly c i s → violates c s i = true →
      exec i s = .next (s.after (violation c { s with word := s.word.del c })))

/-- The control operations (R367, R377, R380, R381, R382): branches set the program counter of their context, the others act on X, on the
stage buffer, on a context, on an override or on a trace unit; a violation kills the context and leaves the word without effect, and so does
a reserved encoding. -/
def Obligations.ControlOperations : Prop :=
  ∀ (s : State) (c : Fin 64), reaches 4 s = true →
    (∀ i ∈ [Instr.cmt c true, .endOp c true, .cmtend c true], Fetches c s → spells (fetchWord c s) i = true →
      wordComplete (fetchWord c s) [i] = true → reservedWord (fetchWord c s) = true →
      exec i s = .next (s.after (violation c { s with word := s.word.del c }))) ∧
    (∀ t : BitVec 16, regionOf t.toNat = regionOfCtx c s →
      (FetchesOnly c (.jmp c t true) s → ∃ u, exec (.jmp c t true) s = .next (s.after (settleTrace s u)) ∧ u.get CTX_PC c = t.toNat ∧ Keeps [CTX_WORDS, CTX_PC] s u) ∧
      (∀ k : Cond, FetchesOnly c (.br c k t true) s → ∃ u, exec (.br c k t true) s = .next (s.after (settleTrace s u)) ∧
        u.get CTX_PC c = (if condHolds c k s then t.toNat else (s.get CTX_PC c + 1) % 2 ^ 16) ∧ Keeps [CTX_WORDS, CTX_PC] s u) ∧
      (∀ k : Cond, FetchesOnly c (.brn c k t true) s → ∃ u, exec (.brn c k t true) s = .next (s.after (settleTrace s u)) ∧
        u.get CTX_PC c = (if condHolds c k s then (s.get CTX_PC c + 1) % 2 ^ 16 else t.toNat) ∧ Keeps [CTX_WORDS, CTX_PC] s u) ∧
      (FetchesOnly c (.loop c t true) s → ∃ u, exec (.loop c t true) s = .next (s.after (settleTrace s u)) ∧
        u.get CTX_X (32 * c + 30) = (s.get CTX_X (32 * c + 30) + 2 ^ 32 - 1) % 2 ^ 32 ∧
        u.get CTX_PC c = (if u.get CTX_X (32 * c + 30) ≠ 0 then t.toNat else (s.get CTX_PC c + 1) % 2 ^ 16))) ∧
    (∀ t : BitVec 16, FetchesOnly c (.jmp c t true) s → regionOf t.toNat ≠ regionOfCtx c s →
      exec (.jmp c t true) s = .next (s.after (violation c { s with word := s.word.del c }))) ∧
    (∀ (x : Fin 32) (v : BitVec 13), FetchesOnly c (.setx c x v true) s → exec (.setx c x v true) s =
      .next (s.after (settleTrace s ((wordTaken c s).set CTX_X (32 * c + x) v.toNat)))) ∧
    (FetchesOnly c (.cmt c true) s → exec (.cmt c true) s = .next (s.after (settleTrace s (commitStage c (wordTaken c s))))) ∧
    (FetchesOnly c (.endOp c true) s → exec (.endOp c true) s = .next (s.after (settleTrace s (endRun c (wordTaken c s))))) ∧
    (FetchesOnly c (.cmtend c true) s → exec (.cmtend c true) s = .next (s.after (settleTrace s (endRun c (commitStage c (wordTaken c s)))))) ∧
    (∀ v : State, (endRun c v).get LPE_CTXSTS_RUNS c = (v.get LPE_CTXSTS_RUNS c + 1) % 2 ^ LPE_CTXSTS_RUNS.width) ∧
    (∀ n : Fin 64, FetchesOnly c (.sig c n true) s → (s.on LPE_CTX_CUST c = false ∨ 57 ≤ n.val) →
      exec (.sig c n true) s = .next (s.after (settleTrace s (trigger n (wordTaken c s).stamp 0 [] (wordTaken c s))))) ∧
    (s.is LPE_CTX_PRIO c 3 = true →
      (∀ n : Fin 64, FetchesOnly c (.kill c n true) s → exec (.kill c n true) s = .next (s.after (settleTrace s (killContext n (wordTaken c s))))) ∧
      (∀ (x : Fin 32) (o : Fin 256), FetchesOnly c (.ovr c x o true) s → exec (.ovr c x o true) s =
        .next (s.after (settleTrace s (fwOverrideSet o (s.get CTX_X (32 * c + x)) (wordTaken c s))))) ∧
      (∀ o : Fin 256, FetchesOnly c (.ovrrel c o true) s → exec (.ovrrel c o true) s = .next (s.after (settleTrace s ((wordTaken c s).set LPE_OUTCFG_OVR o 0))))) ∧
    (s.is LPE_CTX_PRIO c 3 = false → ∀ n : Fin 64, FetchesOnly c (.kill c n true) s → exec (.kill c n true) s = .next (s.after (violation c { s with word := s.word.del c }))) ∧
    (∀ (x : Fin 32) (u : Fin 8), FetchesOnly c (.trc c x u true) s → exec (.trc c x u true) s =
      .next (s.after (settleTrace s (silCapture u (s.get CTX_X (32 * c + x)) 0 0 (wordTaken c s)))))

/-- The engine's own events and the requests to it (R371, R374, R380, R381, R383, R388, R391, R393, R394, R401): dispatch, the return of a
load, the word limit, triggers and kills by bit, overrides, RUN, loads and copies of
images, the scrub. That a run starts at ENTRY and what a kill of an idle context does is the model's reading (log entry 29). -/
def Obligations.EngineRequests : Prop :=
  ∀ s : State, reaches 4 s = true →
    (∀ core : Fin 4, s.on LPE_CTL_RUN 0 = false → exec (.contextDispatch core) s = .next (s.after s)) ∧
    (∀ (core : Fin 4) (c : Nat), s.on LPE_CTL_RUN 0 = true → bestContext s (readyContexts s) = some c → runningOn core s = none →
      s.is LPE_CTXSTS_STATE c 1 = true → ∃ t, exec (.contextDispatch core) s = .next t ∧ t.is LPE_CTXSTS_STATE c 2 = true ∧
        t.get CTX_CORE c = core ∧ t.get CTX_PC c = s.get LPE_CTX_ENTRY c % 2 ^ CTX_PC.width ∧ t.get CTX_WORDS c = 0 ∧
        Keeps [LPE_CTXSTS_STATE, CTX_CORE, CTX_LATCH, CTX_PC, CTX_WORDS, CTX_BANK, CTX_SEQ, LPE_SEQN] s t) ∧
    (∀ (c : Fin 64) (x : Fin 32), s.on CTX_STALL c = true → s.on LPE_CTX_CUST c = true → s.get CTX_LDX (2 * c) = x + 1 →
      s.get CTX_LDX (2 * c + 1) = 0 → s.on CTX_KILLP c = false → ∃ t, exec (.loadDataReturn c) s = .next t ∧
        t.get CTX_X (32 * c + x) = peekReg (regByte (s.get CTX_LDA (2 * c))) s % 2 ^ 32 ∧ t.on CTX_STALL c = false ∧
        Keeps [CTX_X, CTX_LDX, CTX_STALL] s t) ∧
    (∀ c : Fin 64, s.is LPE_CTXSTS_STATE c 2 = true → wordsUsed c s = true →
      exec (.customerWordLimit c) s = .next (s.after (pulse 228 c (killContext c (recordErr c 4 s))))) ∧
    (∀ (hi : Bool) (v : Word) (b : Fin 32), v.toNat = 2 ^ b.val →
      (exec (.lpeTrig hi v) s = .next (s.after (settleTrace s (trigger (b + if hi then 32 else 0) s.stamp 0 [] s)))) ∧
      (exec (.lpeKill hi v) s = .next (s.after (killContext (b + if hi then 32 else 0) s)))) ∧
    (∀ (o : Fin 256) (v : Word), ∃ t, exec (.fwOverrideSet o v) s = .next t ∧ t.get LPE_OVR o = v.toNat ∧ t.on LPE_OUTCFG_OVR o = true) ∧
    (∀ o : Fin 256, exec (.fwOverrideRelease o) s = .next (s.after (s.set LPE_OUTCFG_OVR o 0))) ∧
    (∀ r : Bool, ∃ t, exec (.lpeRun r) s = .next t ∧ t.on LPE_CTL_RUN 0 = r ∧ t.on LPE_STS_RUNNING 0 = r) ∧
    (∀ rg : Fin 2, s.on LPE_LDCTL_BUSY 0 = false →
      (s.on LPE_IMGSTS_OLDBUSY 0 = false → ∃ t, exec (.imageLoad rg) s = .next t ∧ t.on LPE_LDCTL_BUSY 0 = true ∧
        t.get LPE_LDCTL_REGION 0 = rg) ∧
      (s.on LPE_IMGSTS_OLDBUSY 0 = true → ∃ t, exec (.imageLoad rg) s = .next t ∧ t.on LPE_LDCTL_BUSY 0 = false ∧
        t.get LPE_LDCTL_RESULT 0 = 7) ∧
      (s.on LPE_IMGSTS_OLDBUSY 0 = false → ∃ t, exec (.imageCopy rg) s = .next t ∧ t.get LPE_LDCTL_RESULT 0 = 0)) ∧
    (∀ found : ImageChecks, s.on LPE_LDCTL_BUSY 0 = true → ∃ t, exec (.imageLoadDone found) s = .next t ∧ t.on LPE_LDCTL_BUSY 0 = false ∧
      t.get LPE_LDCTL_RESULT 0 = loadResult (s.get LPE_LDCTL_REGION 0) found s) ∧
    (∀ (n : Nat) (bad : List (Nat × Nat)), s.on LPE_CTL_SCRUB 0 = true → ∃ t, exec (.controlStoreScrub n bad) s = .next t ∧
      t.get LPE_ECC_CS 0 = (s.get LPE_ECC_CS 0 + n) % 2 ^ 16 ∧ Keeps [LPE_ECC_CS] s t)

/-- The Sillage units (R395, R397, R398, R399): arming empties a unit, a forced trigger marks its place, STOP ends capture, a unit with
nothing left is done; a period capture is that of its mode; the upper word of an entry is read. -/
def Obligations.TraceUnits : Prop :=
  ∀ (s : State) (u : Fin 8), reaches 4 s = true →
    (∃ t, exec (.sillageArm u) s = .next t ∧ t.is LPE_SIL_STS_STATE u 1 = true ∧ t.get LPE_SIL_FILL u = 0 ∧ t.get SIL_HEAD u = 0) ∧
    (s.is LPE_SIL_STS_STATE u 1 = false → exec (.sillageForce u) s = .next (s.after (settleTrace s s))) ∧
    (s.is LPE_SIL_STS_STATE u 1 = true → exec (.sillageForce u) s = .next (s.after (settleTrace s (silTrigger 8 u s))) ∧
      (silTrigger 8 u s).is LPE_SIL_STS_STATE u 2 = true ∧
      (silTrigger 8 u s).get LPE_SIL_STS_MARK u = s.get SIL_HEAD u % 2 ^ LPE_SIL_STS_MARK.width) ∧
    (exec (.sillageStop u) s = .next (s.after (s.set LPE_SIL_STS_STATE u 0))) ∧
    (s.is LPE_SIL_CFG_MODE u 1 = true → exec (.sillagePeriodCapture u) s = .next (s.after (settleTrace s
      (silCapture u (engineWord (s.get LPE_SIL_CFG_CTX u) (s.get LPE_SIL_ADDR u) s) 0 0 s)))) ∧
    (s.is LPE_SIL_STS_STATE u 2 = true → s.on SIL_LEFT u = false →
      exec (.sillageDone u) s = .next (s.after (s.set LPE_SIL_STS_STATE u 3))) ∧
    (s.get LPE_SILRD_UNIT 0 = u → s.is LPE_SIL_STS_STATE u 3 = true → ∃ t, exec .sildatRead s = .next t ∧
      t.rdata = bits (NMap.get 0 s.sil (16384 * u + s.get LPE_SILRD_INDEX 0)) 32 32 ∧ Keeps [LPE_SILRD_INDEX] s t)


/-! ## Buffer memory -/

/-- Accesses to DRAM and SRAM (R403, R409, R413, R414, R417, R418, R419, R421, R422, R423): where an access may not go it is refused; a page
never filled reads as zero; a clean line delivers its bytes, the merge entry's among them; a poisoned one is not delivered; a full line is
stored with a correct check, and a part of one enters the merge buffer; an entry whose time has passed goes out, and the fence empties the
merge buffer, without a change of what memory reads. A DMA channel that halts fails its command. That memory is kept by its address in data
space is the model's (log entry 36). -/
def Obligations.MemoryAccesses : Prop :=
  ∀ (s : State) (who : BufMaster) (addr : Addr), reaches 9 s = true →
    (∀ errs : List ByteErr, dataOffset addr.toNat s = none →
      exec (.dramRead who addr errs) s = .next (s.settled (failOwner who s ((decodeError who s).ret 0)))) ∧
    (∀ (o : Nat) (errs : List ByteErr), dataOffset addr.toNat s = some o → unfilled (o / 65536) s = true → NMap.get 0 s.chkx (o / 64) = 0 →
      exec (.dramRead who addr errs) s = .next (s.settled ((countTraffic 64 s).ret 0))) ∧
    (∀ o : Nat, dataOffset addr.toNat s = some o → unfilled (o / 65536) s = false → NMap.get 0 s.chkx (o / 64) = 0 →
      exec (.dramRead who addr []) s = .next (s.settled ((countTraffic 64 s).ret (ofBytes (lineBytes (o / 64) s))))) ∧
    (∀ o : Nat, dataOffset addr.toNat s = some o → unfilled (o / 65536) s = false → NMap.get 0 s.chkx (o / 64) = poisonPattern →
      BufMaster.media who = false → ∃ u,
      exec (.dramRead who addr []) s =
        .next (s.settled (failOwner who s (readFails who addr.toNat (pulse 242 (masterInst who) u)))) ∧ u.mem = s.mem) ∧
    (∀ errs : List ByteErr, exec (.dramWrite who addr [] errs) s = .next (s.settled s)) ∧
    (∀ (data : List Byte) (errs : List ByteErr), data ≠ [] → writable addr.toNat data.length s = false →
      exec (.dramWrite who addr data errs) s = .next (s.settled (failOwner who s (decodeError who s)))) ∧
    (∀ (data : List Byte) (errs : List ByteErr), data ≠ [] → writable addr.toNat data.length s = true →
      exec (.dramWrite who addr data errs) s =
        .next (s.settled (failOwner who s (storeData (addr.toNat - dramBase) data errs (countTraffic data.length s))))) ∧
    (∀ (line : Nat) (data : List Byte) (errs : List ByteErr), addr.toNat = dramBase + 64 * line → data.length = 64 →
      writable addr.toNat 64 s = true → s.retire = none → (unfilled (line / 1024) s = true → s.prefill.length < 64) →
      s.prefill.length ≤ 64 → ∃ u, exec (.dramWrite who addr data errs) s = .next (s.settled u) ∧
        u.mem = s.mem.writeList (dramBase + 64 * line) data ∧ u.chkx = s.chkx.del line ∧
        (∀ k, (k < dramBase + 64 * line ∨ dramBase + 64 * line + 64 ≤ k) → u.mem.read k = s.mem.read k)) ∧
    (∀ (line off : Nat) (data : List Byte) (errs : List ByteErr), addr.toNat = dramBase + 64 * line + off → data ≠ [] → off + data.length ≤ 64 →
      data.length ≠ 64 → writable addr.toNat data.length s = true → s.retire = none → (unfilled (line / 1024) s = true → s.prefill.length < 64) →
      s.prefill.length ≤ 64 → (s.merge.find? fun m => m.line == line) = none → s.merge.length < 64 →
      ∃ u, exec (.dramWrite who addr data errs) s = .next (s.settled u) ∧ u.mem = s.mem.writeList addr.toNat data ∧ u.chkx = s.chkx ∧
        u.merge = s.merge ++ [⟨line, data.zipIdx.map fun x => (off + x.2, x.1), s.aonNs⟩]) ∧
    (∀ k : SramKind, s.is BUF_SRAMFAIL 0 (addr.toNat + 1) = false →
      exec (.sramRead k addr who 0) s = .next (s.settled (s.ret (s.mem.word (addr.toNat / 8 * 8) 8)))) ∧
    (∀ k : SramKind, ∃ u, exec (.sramRead k addr who 1) s = .next (s.settled (failOwner who s u)) ∧
      u.rdata = s.mem.word (addr.toNat / 8 * 8) 8 ∧ u.mem = s.mem) ∧
    (∃ u, exec (.sramRead .insn addr who 2) s = .next (s.settled (failOwner who s (readFails who addr.toNat (pulse 246 0xFF u))))) ∧
    (∀ errs : List ByteErr, (s.merge.find? fun m => decide (m.since + 10 * s.get BUF_MERGE_TMO 0 ≤ s.aonNs)) = none →
      exec (.mergeTimeout errs) s = .next (s.after s)) ∧
    (∀ (errs : List ByteErr) (m : MergeEntry), (s.merge.find? fun m => decide (m.since + 10 * s.get BUF_MERGE_TMO 0 ≤ s.aonNs)) = some m →
      exec (.mergeTimeout errs) s = .next (s.after (flushEntry m errs s))) ∧
    (∀ m : MergeEntry, (s.merge.find? fun m => decide (m.since + 10 * s.get BUF_MERGE_TMO 0 ≤ s.aonNs)) = some m →
      NMap.get 0 s.chkx m.line = 0 →
      ∃ t, exec (.mergeTimeout []) s = .next t ∧ t.merge = s.merge.filter (fun x => x.line != m.line) ∧ t.chkx = s.chkx.del m.line ∧
        (∀ k, t.mem.read k = s.mem.read k) ∧ Keeps [BUF_MERGE_OCC] s { t with mem := s.mem }) ∧
    ((∀ m ∈ s.merge, NMap.get 0 s.chkx m.line = 0) →
      ∃ t, exec .bufFence s = .next t ∧ t.merge = [] ∧ (∀ k, t.mem.read k = s.mem.read k) ∧ Keeps [BUF_MERGE_OCC] s { t with mem := s.mem }) ∧
    ((∀ m ∈ s.merge, m.bytes.length = 64) → ∃ t, exec .bufFence s = .next t ∧ t.merge = [] ∧ t.mem = s.mem)

/-- Upkeep of the memory (R402, R410, R412, R415, R422, R427, R429, R431–R433): fills, scrubbers, retirement of a page, and the release of
halted DMA channels. -/
def Obligations.MemoryUpkeep : Prop :=
  ∀ s : State, reaches 9 s = true →
    (∃ t, exec .sramFillDone s = .next t ∧ t.on BUF_STS_SRAM_FILLED 0 = true ∧ Keeps [BUF_STS_SRAM_FILLED, GLB_BOOT_PHASE] s t) ∧
    (s.on BUF_STS_TRAINED 0 = true → s.on BUF_STS_FILLED 0 = false → s.get BUF_FILL_WM 0 < dataEnd s / 65536 → s.fillQ = [] →
      ∃ t, exec .backgroundFillPage s = .next t ∧ t.get BUF_FILL_WM 0 = (s.get BUF_FILL_WM 0 + 1) % 2 ^ BUF_FILL_WM.width ∧
        t.on BUF_STS_FILLED 0 = decide (dataEnd s / 65536 ≤ s.get BUF_FILL_WM 0 + 1)) ∧
    (s.on BUF_SCRB_RATE 0 = false → ∀ errs, exec (.scrubBlock errs) s = .next (s.after s)) ∧
    (s.on BUF_SCRB_RATE 0 = true → s.on BUF_STS_TRAINED 0 = true → s.get BUF_SCRBLK 0 / 1024 < s.get BUF_FILL_WM 0 →
      inPool (s.get BUF_SCRBLK 0 / 1024) s = false → retiring (s.get BUF_SCRBLK 0 / 1024) s = false →
      NMap.get 0 s.chkx (s.get BUF_SCRBLK 0) = 0 →
      exec (.scrubBlock []) s = .next (s.after (scrubNext (s.get BUF_SCRBLK 0 + 1) s))) ∧
    (exec (.sramScrub []) s = .next (s.settled s)) ∧
    (∀ (k : SramKind) (w : Nat), exec (.sramScrub [(k, w, false)]) s = .next (s.settled (sramError k w false 6 s)) ∧
      (sramError k w false 6 s).get BUF_SRAM_CE 0 = (s.get BUF_SRAM_CE 0 + 1) % 2 ^ BUF_SRAM_CE.width) ∧
    (∀ v : Word, v.toNat.testBit 29 = true → s.on BUF_RMAP_VALID (bits v.toNat 0 10) = true → ∃ t, exec (.retireGo v) s = .next t ∧
      t.on BUF_RETIRE_CTL_ERR 0 = true ∧ t.retire = s.retire) ∧
    (∀ v : Word, v.toNat.testBit 29 = true → s.on BUF_RMAP_VALID (bits v.toNat 0 10) = false → inPool (bits v.toNat 10 19) s = false →
      bits v.toNat 10 19 * 65536 < dataEnd s → s.retire = none → ∃ t, exec (.retireGo v) s = .next t ∧
      t.on BUF_RETIRE_CTL_BUSY 0 = true ∧ t.retire = some ⟨bits v.toNat 0 10, bits v.toNat 10 19, []⟩) ∧
    (s.retire = none → exec (.retireDone []) s = .next (s.after s)) ∧
    (∀ r : Retire, s.retire = some r → r.held = [] → mapEntryOf r.page s = none → ∃ t, exec (.retireDone []) s = .next t ∧
      t.get BUF_RMAP_PAGE r.index = r.page % 2 ^ BUF_RMAP_PAGE.width ∧ t.on BUF_RMAP_VALID r.index = true ∧ t.on BUF_RETIRE_CTL_BUSY 0 = false) ∧
    (∀ mask : BitVec 16, ∃ u, exec (.dmaResume mask) s = .next (s.settled u) ∧
      (∀ i < 16, u.bit BUF_DMAHALT 0 i = (s.bit BUF_DMAHALT 0 i && !mask.toNat.testBit i)) ∧ Keeps [BUF_DMAHALT] s u) ∧
    (exec .wck2dqTracking s = .next (s.after s))


/-! ## NVMe queues and commands -/

/-- Queues and controller states (R438, R439, R441, R442, R443, R444, R445, R467, R471, R472, R488, R516): doorbells within the queue move
its pointer and others are errors; enabling, readiness, resets and shutdowns; a fetched entry enters the commands in flight; queues are
created and deleted; an entry is posted only where it
may be. The order of the checks and the room of a doorbell are the model's reading (log entry 37). -/
def Obligations.QueuesAndController : Prop :=
  ∀ s : State, reaches 11 s = true →
    (∀ (y : Nat) (v : Word) (q : Sq), (barrier s).sqs.find y = some q → v.toNat < q.size →
      sqRoom y ((v.toNat + q.size - q.head) % q.size) (barrier s) = true →
      exec (.sqTailDoorbell y v) s = .next (s.settled { barrier s with sqs := (barrier s).sqs.put y { q with tail := v.toNat } })) ∧
    (∀ (y : Nat) (v : Word), (barrier s).sqs.find y = none →
      exec (.sqTailDoorbell y v) s = .next (s.settled (doorbellError .invalidDoorbellRegister (barrier s)))) ∧
    (∀ (y : Nat) (v : Word) (q : Cq), (barrier s).cqs.find y = some q → v.toNat < q.size →
      (v.toNat + q.size - q.head) % q.size ≤ (q.tail + q.size - q.head) % q.size →
      exec (.cqHeadDoorbell y v) s = .next (s.settled (updateInta { barrier s with cqs := (barrier s).cqs.put y { q with head := v.toNat } }))) ∧
    (∀ (y : Nat) (v : Word) (q : Cq), (barrier s).cqs.find y = some q → q.size ≤ v.toNat →
      exec (.cqHeadDoorbell y v) s = .next (s.settled (doorbellError .invalidDoorbellValue (barrier s)))) ∧
    (∀ v : Word, s.on NVQ_EN 0 = false → s.on NVQ_BADCC 0 = false → s.on NVQ_CTL_RUN 0 = true →
      (ccOk (withBit v.toNat 0 true) = true → ∃ u, exec (.ccEnable v) s = .next (s.settled u) ∧ u.on NVQ_EN 0 = true ∧
        u.sqs.find 0 = some ⟨Nat.max 2 (bits (s.get NVQ_AQA 0) 0 12 + 1), 0, 0⟩) ∧
      (ccOk (withBit v.toNat 0 true) = false → ∃ u, exec (.ccEnable v) s = .next (s.settled u) ∧ u.on NVQ_CFS 0 = true ∧
        u.on NVQ_EN 0 = false)) ∧
    (∀ v : Word, s.on NVQ_EN 0 = false → s.on NVQ_CTL_RUN 0 = false → ∃ u, exec (.ccEnable v) s = .next (s.settled u) ∧ u.on NVQ_EN 0 = false) ∧
    (s.on NVQ_EN 0 = true → s.on NVQ_CFS 0 = false → s.on NVQ_RESETTING 0 = false →
      exec .controllerReady s = .next (s.settled (s.set NVQ_STS_RDY 0 1))) ∧
    ((nvqReset s).on PCI_FRZ_BY_FAULT 0 = false → exec .ccDisable s = .next (s.settled (nvqReset s))) ∧
    (exec .nvmSubsystemReset s = .next (s.settled ((nvqReset s).set NVQ_NSSRO 0 1))) ∧
    (s.on NVQ_ACTNEXT 0 = false → (nvqReset s).sqs = [] ∧ (nvqReset s).cqs = [] ∧ (nvqReset s).cmds = [] ∧ (nvqReset s).on NVQ_EN 0 = false) ∧
    (s.on NVQ_RESETTING 0 = true → exec .resetDrainTimeout s =
      .next (s.settled (pulse 259 0xFF (s.setMany 0 [(NVQ_RESETTING, 0), (NVQ_STS_RDY, 0)])))) ∧
    (s.on NVQ_EN 0 = true → exec .shutdownNormal s = .next (s.settled (s.setMany 0 [(NVQ_SHUT, 1), (NVQ_SHST, 1), (NVQ_SHSEQ, 0)])) ∧
      ∃ u, exec .shutdownAbrupt s = .next (s.settled u) ∧ u.cmds = [] ∧ u.get NVQ_SHUT 0 = 2 ∧ u.get NVQ_SHST 0 = 1) ∧
    (∀ (e : SqEntry) (q : Sq), s.sqs.find e.sqid = some q → s.on NVQ_FETCHED 0 = true → fetchOn s = true →
      (s.cmds.find? fun c => c.phase == .delete && c.zone == e.sqid) = none → nextQueue s = some e.sqid →
      (entryStatus e s = .success → e.sqid = 0 → exec (.commandFetch e) s = .next (s.settled (takeEntry e q s))) ∧
      (entryStatus e s = .success → e.sqid ≠ 0 → exec (.commandFetch e) s = .next (s.settled (leavePower (takeEntry e q s)))) ∧
      (entryStatus e s ≠ .success → exec (.commandFetch e) s =
        .next (s.settled (complete e.sqid e.cid.toNat (entryStatus e s) [] (takeEntry e q s)))) ∧
      (takeEntry e q s).cmds.length = s.cmds.length + 1) ∧
    (∀ (e : SqEntry), s.sqs.find e.sqid = none → exec (.commandFetch e) s = .next (s.settled s)) ∧
    (∀ (cid : BitVec 16) (c : NvCmd) (qid size : Nat), cmdOf 0 cid s = some c → c.phase = .fetched → ioAllowed s = true → 0 < qid → qid ≤ 256 →
      2 ≤ size → size ≤ 33 →
      (c.op = 1 → qid ≤ s.get NVQ_NSQ 0 + 1 → s.sqs.find qid = none → (s.cqs.find qid).isSome = true → exec (.createIoSq cid qid size qid) s =
        .next (s.settled (finish c .success (showQueue qid true { s with sqs := s.sqs.put qid ⟨size, 0, 0⟩ })))) ∧
      (∀ (iv : Nat) (ien : Bool), c.op = 5 → qid ≤ s.get NVQ_NCQ 0 + 1 → s.cqs.find qid = none → iv ≤ 256 →
        exec (.createIoCq cid qid size iv ien) s =
          .next (s.settled (finish c .success { s with cqs := s.cqs.put qid ⟨size, 0, 0, iv, ien, 0⟩ })))) ∧
    (∀ (cid : BitVec 16) (c : NvCmd) (qid : Nat), cmdOf 0 cid s = some c → c.phase = .fetched → 0 < qid →
      (c.op = 4 → (s.cqs.find qid).isSome = true → s.sqs.find qid = none →
        exec (.deleteIoCq cid qid) s = .next (s.settled (finish c .success { s with cqs := s.cqs.del qid }))) ∧
      (c.op = 4 → (s.cqs.find qid).isSome = true → (s.sqs.find qid).isSome = true →
        exec (.deleteIoCq cid qid) s = .next (s.settled (finish c .invalidQueueDeletion s))) ∧
      (∀ q : Sq, c.op = 0 → s.sqs.find qid = some q → draining qid s = false → exec (.deleteIoSq cid qid) s =
        .next (s.settled (abortShort qid (s.modCmd c fun x => { x with phase := .delete, zone := qid, act := q.tail }))))) ∧
    (∀ q : Nat, s.cqs.find q = none → exec (.aggregationTimeExpiry q) s = .next (s.settled s)) ∧
    (∀ (q : Nat) (c : Cq), s.cqs.find q = some c → c.agg ≠ 0 → exec (.aggregationTimeExpiry q) s =
      .next (s.settled (signalVector c.iv { s with cqs := s.cqs.put q { c with agg := 0 } }))) ∧
    (exec (.nvqRun false) s = .next (s.settled (s.set NVQ_CTL_RUN 0 0))) ∧
    (∃ u, exec (.nvqRun true) s = .next (s.settled u) ∧ u.on NVQ_CTL_RUN 0 = true) ∧
    (∀ (q cid : Nat) (st : NvStatus) (dw : List Nat),
      (s.on PCI_FRZ_FROZEN 0 = true → (complete q cid st dw s).out = s.out) ∧
      (s.on PCI_FRZ_FROZEN 0 = false → mayIssue s = false → (complete q cid st dw s).out = s.out ∧
        (complete q cid st dw s).cpls = s.cpls ++ [⟨q, cid, st, dw, []⟩]))

/-- Admin commands (R463, R469, R473, R474, R478, R479, R480, R484, R485, R486, R559): of a command that has been fetched, its result by
the rules, and the status where they refuse it; while a dump has the xSPI controller a firmware image that is to be written waits for its
end (log entry 42). The layouts of the pages and what a feature of no rule returns are the model's (log entry 32). -/
def Obligations.AdminCommands : Prop :=
  ∀ s : State, reaches 11 s = true →
    (∀ (cid : BitVec 16) (c : NvCmd), cmdOf 0 cid s = some c → c.phase = .fetched →
      (∀ (lid : BitVec 8) (rae : Bool) (off len : Nat), c.op = 2 → logPage lid.toNat s = none →
        exec (.getLogPage cid lid rae off len) s = .next (s.settled (finish c .invalidLogPage s))) ∧
      (∀ (lid : BitVec 8) (off len : Nat) (l : List (BitVec 8)), c.op = 2 → logPage lid.toNat s = some l → lid ≠ 2 → off % 4 = 0 → len + off ≤ l.length →
        exec (.getLogPage cid lid true off len) s = .next (s.settled (completeWith [.hostData c.sqid c.cid ((l.drop off).take len)] c.sqid c.cid
          .success [] s))) ∧
      (∀ i : IdentifyArgs, i.cid = cid → c.op = 6 →
        (∀ l, identifyPage i.cns.toNat i.csi.toNat i.nsid.toNat s = .ok l → exec (.identify i) s =
          .next (s.settled (completeWith [.hostData c.sqid c.cid l] c.sqid c.cid .success [] s))) ∧
        (∀ e, identifyPage i.cns.toNat i.csi.toNat i.nsid.toNat s = .error e → exec (.identify i) s = .next (s.settled (finish c e s)))) ∧
      (c.op = 8 → (s.cmds.countP fun x => x.sqid == 0 && x.op == 8) ≤ 4 →
        exec (.abort cid) s = .next (s.settled (complete c.sqid c.cid .success [1] s))) ∧
      (c.op = 9 →
        (∀ dw : Word, exec (.setFeatures cid 0x0B dw) s = .next (s.settled (finish c .success (s.set NVQ_AEC 0 dw.toNat)))) ∧
        (∀ dw : Word, exec (.setFeatures cid 0x7F dw) s = .next (s.settled (finish c .invalidField s))) ∧
        (∀ ps : Nat, 4 < ps → exec (.powerManagement cid ps) s = .next (s.settled (finish c .invalidField s))) ∧
        (∀ ps : Nat, ps ≤ 4 → exec (.powerManagement cid ps) s =
          .next (s.settled (startPower { c with zone := ps } (s.modCmd c fun x => { x with zone := ps })))) ∧
        (∀ a b : BitVec 16, (s.sqs.any fun q => q.1 != 0) = false → (s.cqs.any fun q => q.1 != 0) = false → a ≠ 0xFFFF → b ≠ 0xFFFF →
          exec (.numberOfQueues cid a b) s = .next (s.settled (complete c.sqid c.cid .success [255 + 255 * 65536] (s.set NVQ_NQSET 0 1)))) ∧
        (∀ wce : Bool, exec (.volatileWriteCache cid wce) s = .next (s.settled (finish c .success (s.set NVQ_STS_WCE 0 wce.toNat)))) ∧
        (∀ sec : BitVec 16, 1 ≤ sec.toNat → sec.toNat ≤ 600 →
          exec (.spinWaitLimit cid sec) s = .next (s.settled (finish c .success (s.set NVQ_SPINWAIT 0 sec.toNat)))) ∧
        (∀ sec : BitVec 16, 600 < sec.toNat → exec (.spinWaitLimit cid sec) s = .next (s.settled (finish c .invalidField s))) ∧
        (∀ (code : BitVec 16) (on : Bool), code.toNat = s.get NVQ_UNLKC 0 →
          exec (.diagnosticUnlock cid code on) s = .next (s.settled (finish c .success (s.set NVQ_UNLOCK 0 on.toNat)))) ∧
        (∀ (code : BitVec 16) (on : Bool), code.toNat ≠ s.get NVQ_UNLKC 0 →
          exec (.diagnosticUnlock cid code on) s = .next (s.settled (finish c .invalidField (s.bump NVQ_CNT_DBERR_UNLK 0)))) ∧
        (∀ (vf ra : Bool) (share : BitVec 8), exec (.mediaPolicy cid vf ra share) s = .next (s.settled (stepPolicy (s.modCmd c fun x =>
          { x with phase := .policy, zone := 0, act := vf.toNat + ra.toNat * 2 + share.toNat * 2 ^ 8 }))))) ∧
      (∀ (fid : BitVec 8) (dw : Word) (v : Nat), c.op = 10 → featureValue fid.toNat dw.toNat s = some v →
        exec (.getFeatures cid fid ⟨0, dw⟩) s = .next (s.settled (complete c.sqid c.cid .success [v] s))) ∧
      (∀ (fid : BitVec 8) (sel : FeatureSel), c.op = 10 → featureValue fid.toNat sel.dw11.toNat s = none →
        exec (.getFeatures cid fid sel) s = .next (s.settled (finish c .invalidField s))) ∧
      (c.op = 12 → 4 ≤ (s.cmds.countP fun x => x.phase == .event) →
        exec (.asyncEventRequest cid) s = .next (s.settled (finish c .aerLimit s))) ∧
      (c.op = 12 → (s.cmds.countP fun x => x.phase == .event) < 4 → s.events = [] →
        exec (.asyncEventRequest cid) s = .next (s.settled { s.modCmd c (fun x => { x with phase := .event }) with events := [] })) ∧
      (∀ off len : Nat, c.op = 17 → off % 4096 = 0 → len % 4096 = 0 → 0 < len → exec (.firmwareImageDownload cid off len) s =
        .next (s.settled (finish c .success (s.set NVQ_FWLEN 0 (Nat.max (s.get NVQ_FWLEN 0) (off + len)))))) ∧
      (c.op = 16 → s.on GLB_BOOT_RECOVERY 0 = false →
        (∀ action slot : Nat, action ≤ 3 → (slot = 1 ∨ slot = 2) → action ≠ 2 →
          exec (.firmwareCommit cid action slot false false) s = .next (s.settled (finish c .invalidFirmwareImage s))) ∧
        (∀ slot : Nat, (slot = 1 ∨ slot = 2) → s.dumps = [] → ∃ u,
          exec (.firmwareCommit cid 1 slot true false) s = .next (s.settled (finish c .success u)) ∧
          u.get NVM_ACTIVE 0 = slot - 1 ∧ u.get NVQ_FWLEN 0 = 0) ∧
        (∀ slot : Nat, (slot = 1 ∨ slot = 2) → s.dumps ≠ [] → s.norWait.contains (.commit cid 1 slot true false) = false →
          exec (.firmwareCommit cid 1 slot true false) s =
            .next (s.after { s with norWait := s.norWait ++ [.commit cid 1 slot true false] })) ∧
        (∀ (action slot : Nat) (ok : Bool), action ≤ 3 → slot ≠ 1 → slot ≠ 2 →
          exec (.firmwareCommit cid action slot ok false) s = .next (s.settled (finish c .invalidFirmwareSlot s))))) ∧
    (s.on NVQ_STS_ACTIVATING 0 = false → ∃ u, exec .firmwareActivation s = .next (s.settled u) ∧ u.on NVQ_STS_ACTIVATING 0 = true) ∧
    (s.on NVQ_STS_ACTIVATING 0 = true → s.on NVQ_ACTHELD 0 = false →
      exec .activationTimeout s = .next (s.settled (failActivation .activationMaxTime s)))

/-- I/O commands (R217, R447, R455, R457, R458, R460, R461, R462, R464, R470, R475, R476): a command that needs the media waits while they
are not up; a Flush places the incomplete last rows and begins a record; an accepted write moves its zone's accept pointer; the zone
actions, the reports and the statuses where the rules refuse. What a zone action waits for is the model's reading (log entry 37). -/
def Obligations.IoCommands : Prop :=
  ∀ (s : State) (sqid : Nat) (cid : BitVec 16) (c : NvCmd), reaches 11 s = true → cmdOf sqid cid s = some c → c.phase = .fetched →
    (c.op = 0 → mediaHold false [] s = true → exec (.flush sqid cid) s = .next (s.settled (holdCmd c s))) ∧
    (c.op = 0 → mediaHold false [] s = false → exec (.flush sqid cid) s =
      .next (s.settled (startRecord ((placeFrontiers s).modCmd c fun x => { x with phase := .journal ((placeFrontiers s).get ACD_JSEQ 0 + 1) })))) ∧
    (s.zones = [] → placeFrontiers s = s) ∧
    (∀ (a : IoArgs) (pi : PiCheck), a.sqid = sqid → a.cid = cid → c.op = 1 →
      mediaHold true (zonesOf a.slba a.nlb s) s = false →
      (256 < a.nlb → ∃ u, exec (.write a pi) s = .next (s.settled (finish c .invalidField u))) ∧
      (a.nlb ≤ 256 → a.slba + a.nlb ≤ nsze s → (a.prchk.getLsbD 0 = false ∨ a.ilbrt.toNat = a.slba % 2 ^ 48) →
        writeStatus false (zoneOf a.slba s) (a.slba % zsze s) a.nlb a.slba s = .success → ∃ u, exec (.write a pi) s = .next (s.settled u) ∧
          (u.zone (zoneOf a.slba s)).accept = a.slba % zsze s + a.nlb)) ∧
    (∀ (a : IoArgs) (pi : PiCheck), a.sqid = sqid → a.cid = cid → c.op = 0x7D →
      mediaHold true (zonesOf a.slba a.nlb s) s = false → a.nlb ≤ 256 → a.slba + a.nlb ≤ nsze s → (a.pract = true ∨ a.piremap = true) →
      writeStatus true (zoneOf a.slba s) (zoneView (zoneOf a.slba s) s).accept a.nlb a.slba s = .success → ∃ u,
        exec (.zoneAppend a pi) s = .next (s.settled u) ∧
        (u.zone (zoneOf a.slba s)).accept = (zoneView (zoneOf a.slba s) s).accept + a.nlb) ∧
    (∀ (a : IoArgs) (pi : PiCheck), a.sqid = sqid → a.cid = cid → c.op = 2 → mediaHold false (zonesOf a.slba a.nlb s) s = false →
      (a.nlb ≤ 256 → nsze s < a.slba + a.nlb → ∃ u, exec (.read a pi) s = .next (s.settled (finish c .lbaOutOfRange u))) ∧
      (256 < a.nlb → ∃ u, exec (.read a pi) s = .next (s.settled (finish c .invalidField u))) ∧
      (a.nlb ≤ 256 → a.slba + a.nlb ≤ nsze s → (a.prchk.getLsbD 0 = false ∨ a.ilbrt.toNat = a.slba % 2 ^ 48) → ∃ u,
        exec (.read a pi) s = .next (s.settled (readZones { c with io := a, pi := pi } (zonesOf a.slba a.nlb s) u)))) ∧
    (c.op = 0x79 →
      (∀ z : Nat, exec (.setZoneDescriptorExtension sqid cid z) s = .next (s.settled (finish c .invalidField s))) ∧
      (∀ z : Nat, ∃ u, exec (.zoneOffline sqid cid z) s = .next (s.settled (finish c .invalidZoneTransition u))) ∧
      (∀ z : Nat, z < zoneTotal s → s.on NVQ_STS_ACTIVATING 0 = true → (s.zone z).state ≤ 4 →
        ∃ c' u, exec (.zoneReset sqid cid z false) s = .next (s.settled (holdCmd c' u)) ∧ c'.sqid = sqid ∧ c'.cid = cid.toNat ∧ u.zones = s.zones) ∧
      (s.on NVQ_STS_ACTIVATING 0 = false →
      (∀ z : Nat, z < zoneTotal s → s.acd.resync.contains z = false → (s.zone z).state = 1 → ∃ u, exec (.zoneOpen sqid cid z false) s =
        .next (s.settled (finish c .success (zoneTo z 2 u))) ∧ ((zoneTo z 2 u).zone z).state = 2) ∧
      (∀ z : Nat, z < zoneTotal s → s.acd.resync.contains z = false → (s.zone z).state = 3 → (s.zone z).ready ≤ (s.zone z).wp → ∃ u,
        exec (.zoneClose sqid cid z false) s = .next (s.settled (finish c .success u)) ∧ u.zones = s.zones) ∧
      (∀ z : Nat, z < zoneTotal s → s.acd.resync.contains z = false → (s.zone z).state = 4 → (s.zone z).ready ≤ (s.zone z).wp → ∃ u,
        exec (.zoneFinish sqid cid z false) s = .next (s.settled (finish c .success u)) ∧ u.zones = s.zones) ∧
      (∀ z : Nat, z < zoneTotal s → s.acd.resync.contains z = false → ((s.zone z).state = 1 ∨ (s.zone z).state = 2) → (s.zone z).ready ≤ (s.zone z).wp → ∃ u,
        exec (.zoneClose sqid cid z false) s = .next (s.settled (finish c .success (dropRa (· == z) (zoneTo z 3 u)))) ∧
        ((zoneTo z 3 u).zone z).state = 3) ∧
      (∀ (z : Nat) (t : State), t = s.modCmd c (fun x => { x with act := 2, zone := z, all := false }) → z < zoneTotal s → s.acd.resync.contains z = false →
        (s.zone z).state ≤ 3 → (s.zone z).ready ≤ (s.zone z).wp → zoneBusy z t = false → rowEnd z s ≤ (s.zone z).wp → ∃ u,
        exec (.zoneFinish sqid cid z false) s = .next (s.settled (finish c .success (startCheckpoint (zoneTo z 4 u)))) ∧
        ((zoneTo z 4 u).zone z).state = 4) ∧
      (∀ (z : Nat) (t : State), t = s.modCmd c (fun x => { x with act := 4, zone := z, all := false }) → z < zoneTotal s → s.acd.resync.contains z = false →
        (s.zone z).state ≤ 4 → zoneBusy z t = false → rowEnd z s ≤ (s.zone z).wp → ∃ u,
        exec (.zoneReset sqid cid z false) s = .next (s.settled (finish c .success (zoneTo z 0 u))) ∧
        ((zoneTo z 0 u).zone z).state = 0 ∧ ((zoneTo z 0 u).zone z).wp = 0) ∧
      (∀ z : Nat, z < zoneTotal s → s.acd.resync.contains z = true → (s.zone z).state ≤ 4 →
        ∃ c' u, exec (.zoneReset sqid cid z false) s = .next (s.settled (holdCmd c' u)) ∧ c'.sqid = sqid ∧ c'.cid = cid.toNat ∧ u.zones = s.zones) ∧
      (∀ z : Nat, z < zoneTotal s → (s.zone z).state ≤ 4 → zoneBusy z s = true → ∃ u,
        exec (.zoneReset sqid cid z false) s = .next (s.settled u) ∧ u.zones = s.zones) ∧
      (∀ z : Nat, z < zoneTotal s → (s.zone z).state = 6 → ∃ u,
        exec (.zoneReset sqid cid z false) s = .next (s.settled (finish c .invalidZoneTransition u)) ∧ u.zones = s.zones))) ∧
    (∀ (z : Nat) (opt : BitVec 8) (part : Bool) (max : Nat), c.op = 0x7A →
      (s.on NVQ_STS_ACTIVATING 0 = true → exec (.reportZones sqid cid z opt part false max) s = .next (s.settled s)) ∧
      (s.on NVQ_STS_ACTIVATING 0 = false → exec (.reportZones sqid cid z opt part true max) s = .next (s.settled (finish c .invalidField s))) ∧
      (s.on NVQ_STS_ACTIVATING 0 = false → opt.toNat ≤ 7 → zoneTotal s ≤ z → exec (.reportZones sqid cid z opt part false max) s = .next (s.settled (finish c .lbaOutOfRange s))) ∧
      (s.on NVQ_STS_ACTIVATING 0 = false → opt.toNat ≤ 7 → z < zoneTotal s → ∃ l, exec (.reportZones sqid cid z opt part false max) s =
        .next (s.settled (completeWith [.hostData c.sqid c.cid l] c.sqid c.cid .success [] s)))) ∧
    (exec (.spinWaitExpiry sqid cid) s = .next (s.settled s)) ∧
    (∀ (t : State) (d : NvCmd), reaches 11 t = true → cmdOf sqid cid t = some d → d.phase = .held →
      (t.on NVQ_STS_ACTIVATING 0 = false ∨ mediaUp t = false) → exec (.spinWaitExpiry sqid cid) t =
      .next (t.settled (finish d .namespaceNotReady (pulse 257 0xFF (t.bump NVQ_CNT_NNR 0))))) ∧
    (∀ t : State, reaches 11 t = true → t.on NVQ_STS_ACTIVATING 0 = true → mediaUp t = true →
      exec (.spinWaitExpiry sqid cid) t = .next (t.settled t)) ∧
    (∀ z : Nat, exec (.frontierWaitExpiry z) s = .next (s.settled (tryFrontier z s)))


/-! ## PCIe endpoint -/

/-- The endpoint (R493, R496, R503, R505, R507, R510, R511, R512, R513, R515, R517, R518): what each event of the link, each request and
each message does; a request that may not be taken is answered as unsupported; tags are freed, quarantined and
used again. The layouts of configuration space and the order of wake-up are the model's (log entry 32). -/
def Obligations.Endpoint : Prop :=
  (∀ s : State, inReset s = true → exec .perstAssert s = .next (s.after (s.set PAD_PERST 0 1)) ∧
    exec .perstDeassert s = .next (s.after (s.set PAD_PERST 0 0))) ∧
  ∀ s : State, reaches 10 s = true →
    (exec .linkDown s = .next (s.settled (raise 268 0xFF ((linkFalls s).bump PCI_CNT_LINK_DOWN 0)))) ∧
    (∀ (sp : Fin 6) (w : Nat) (rev : Bool), s.on PAD_PERST 0 = false → ∃ u, exec (.dataLinkUp sp w rev) s = .next (s.settled u) ∧
      u.on PCI_STS_DL_UP 0 = true ∧ u.get PCI_STS_SPEED 0 = Nat.min sp (s.get PCI_CFG_MAXSPD 0) % 2 ^ PCI_STS_SPEED.width ∧
      u.get PCI_STS_WIDTH 0 = Nat.min w (s.get PCI_CFG_MAXW 0) % 2 ^ PCI_STS_WIDTH.width) ∧
    (∃ u, exec .perstAssert s = .next (s.settled u) ∧ u.on PAD_PERST 0 = true ∧ u.on PCI_STS_DL_UP 0 = false) ∧
    (s.on PAD_PERST 0 = true → exec .perstDeassert s = .next (s.settled (s.setMany 0 [(PAD_PERST, 0), (PAD_WAKE, 0)]))) ∧
    (∀ r : MemReq, refusedRequest r true (linkAwake s) = none → memoryOpen (linkAwake s) = false →
      exec (.memoryReadRequest r) s = .next (s.settled (refuseRead (linkAwake s)))) ∧
    (∀ r : MemReq, refusedRequest r true (linkAwake s) = none → memoryOpen (linkAwake s) = true → r.bar.val = 0 → bar0Form r = true →
      exec (.memoryReadRequest r) s = .next (s.settled ((linkAwake s).emit (.cplOut 0
        ((List.range (r.len / 4)).flatMap fun i => bytesOf 4 (bar0Word (r.off + 4 * i) (linkAwake s))))))) ∧
    (∀ r : MemReq, refusedRequest r false (linkAwake s) = none → memoryOpen (linkAwake s) = false →
      exec (.memoryWriteRequest r) s = .next (s.settled (unsupported (linkAwake s)))) ∧
    (∀ r : MemReq, refusedRequest r false (linkAwake s) = none → memoryOpen (linkAwake s) = true → r.bar.val = 0 → bar0Form r = true → r.data.length = r.len →
      r.ep = false → r.len = 4 → exec (.memoryWriteRequest r) s = .next (s.settled (bar0Write (r.off + 4 * 0) (reqWord r 0) (linkAwake s)))) ∧
    (∀ r : MemReq,
      (r.kind = .memory → r.malformed = false → r.ecrcBad = false → ∀ read, refusedRequest r read s = none) ∧
      (r.malformed = true → exec (.memoryReadRequest r) s = .next (s.settled (aerUncorrectable 18 false (linkAwake s))) ∧
        exec (.memoryWriteRequest r) s = .next (s.settled (aerUncorrectable 18 false (linkAwake s)))) ∧
      (r.kind = .locked → r.malformed = false → r.ecrcBad = false →
        exec (.memoryReadRequest r) s = .next (s.settled (refuseRead (linkAwake s))) ∧
        exec (.memoryWriteRequest r) s = .next (s.settled (unsupported (linkAwake s)))) ∧
      ((r.kind = .io ∨ r.kind = .atomicOp) → r.malformed = false → r.ecrcBad = false →
        exec (.memoryReadRequest r) s = .next (s.settled (refuseRead (linkAwake s))) ∧
        exec (.memoryWriteRequest r) s = .next (s.settled (refuseRead (linkAwake s))))) ∧
    (∀ r : CfgReq, cfgReady (linkAwake s) = false → exec (.configRequest r) s = .next (s.settled ((linkAwake s).emit (.cplOut 2 [])))) ∧
    (cfgReady (linkAwake s) = true →
      (∀ off, exec (.configRequest (.read off)) s =
        .next (s.settled ((linkAwake s).emit (.cplOut 0 (bytesOf 4 (cfgWord off (linkAwake s))))))) ∧
      (∀ off v, exec (.configRequest (.write off v)) s =
        .next (s.settled ((cfgWrite off v.toNat (linkAwake s)).emit (.cplOut 0 [])))) ∧
      exec (.configRequest .type1) s = .next (s.settled ((unsupported (linkAwake s)).emit (.cplOut 1 [])))) ∧
    (exec (.messageReceived .vendorType1) s = .next (s.settled s) ∧ exec (.messageReceived .other) s = .next (s.settled (unsupported s))) ∧
    (s.on PCI_STS_DL_UP 0 = true → ∃ u, exec .pmeTurnOff s = .next (s.settled u) ∧ u.out = s.out ++ [.pmeToAck] ∧
      u.get PCI_STS_LSTATE 0 = 5) ∧
    (∀ (tag : BitVec 10) (u : TagUse), (s.quar.find? fun q => q.1 == tag.toNat) = none → s.tags.find tag.toNat = some u →
      (exec (.completionReceived tag .ok false) s = .next (s.settled s)) ∧
      (s.on PCI_FRZ_FROZEN 0 = false → exec (.completionReceived tag .ok true) s = .next (s.settled (useData u (dropTag tag.toNat s)))) ∧
      (s.on PCI_FRZ_FROZEN 0 = true → exec (.completionReceived tag .ok true) s =
        .next (s.settled (loseToFreeze u (dropTag tag.toNat s)))) ∧
      (s.on PCI_CTO_DIS 0 = false → ∃ t, exec (.completionTimeout tag) s = .next (s.settled (tellConsumer u (pulse 264 0xFF t))) ∧
        t.quar = s.quar ++ [(tag.toNat, false)] ∧ t.tags = s.tags.del tag.toNat)) ∧
    (∀ tag : BitVec 10, (s.quar.find? fun q => q.1 == tag.toNat) = none → s.tags.find tag.toNat = none → ∀ st last,
      exec (.completionReceived tag st last) s = .next (s.settled (unexpected s))) ∧
    (∀ tag : BitVec 10, ∃ u, exec (.quarantineEnd tag) s = .next (s.settled u) ∧ (∀ e ∈ u.quar, e.1 ≠ tag.toNat) ∧ u.tags = s.tags) ∧
    (s.on PCI_STS_BME 0 = true → ∃ u, exec .busMasterDisable s = .next (s.settled u) ∧ u.on PCI_STS_BME 0 = false ∧ u.bit CFG_CMD 0 2 = false) ∧
    (s.on PCI_STS_BME 0 = true → ∀ b, exec (.busMasterEnable b) s = .next (s.settled s)) ∧
    (s.on PCI_STS_BME 0 = false → ∃ u, exec (.busMasterEnable true) s = .next (s.settled (resumeIssue u)) ∧ u.on PCI_STS_BME 0 = true ∧
      u.bit CFG_CMD 0 2 = true) ∧
    (exec .functionLevelReset s = .next (s.settled (resetCfg (nvqReset (endFreeze { s with cpls := [] }))))) ∧
    (s.is PCI_STS_DSTATE 0 3 = false → exec .d3hotEntry s =
      .next (s.settled (sendLtr (s.setMany 0 [(PCI_STS_DSTATE, 3), (CFG_PMSTATE, 3)])))) ∧
    (s.is PCI_STS_DSTATE 0 0 = false → exec .d0Entry s =
      .next (s.settled (resumeIssue (sendLtr (s.setMany 0 [(PCI_STS_DSTATE, 0), (CFG_PMSTATE, 0)]))))) ∧
    (∃ u, exec .egressFreeze s = .next (s.settled (withFollow (u, if s.on PCI_FRZ_FROZEN 0 then [] else [(267, 0xFF)]))) ∧
      u.on PCI_FRZ_FROZEN 0 = true ∧ u.on PCI_STS_FROZEN 0 = true) ∧
    (s.on PCI_FRZ_FROZEN 0 = true → s.on PCI_FRZ_BY_FAULT 0 = false → exec .freezeRelease s = .next (s.settled (resumeIssue (endFreeze s)))) ∧
    (s.on PCI_FRZ_BY_FAULT 0 = true → exec .freezeRelease s = .next (s.settled s)) ∧
    (s.on PCI_STS_DL_UP 0 = true → s.is PCI_STS_LSTATE 0 0 = true → s.tags = [] → s.bit CFG_LNKCTL 0 1 = true → s.get CFG_L1SS1 0 = 0 →
      ∃ t, exec .l1Entry s = .next t ∧ t.get PCI_STS_LSTATE 0 = 1) ∧
    (∀ v : Fin 260, exec (.msixUnmask v) s = .next (s.settled (sendPending (s.set MSIX_MASK v 0)))) ∧
    (exec (.linkError .receiver) s = .next (s.settled (aerCorrectable 0 s)) ∧
      exec (.linkError .dlProtocol) s = .next (s.settled (pulse 269 0xFF (aerUncorrectable 4 false s))))


/-! ## Faults, the record, start-up, registers -/

/-- Sources of faults (R535, R537, R538, R546, R548, R549, R645): an assertion sets the source's status and counts; a rail or a
clock raises its source, and the die temperature is recorded; a source leaves its fault state at the end of its interval, or locks;
injection and first capture. -/
def Obligations.FaultCollection : Prop :=
  ∀ s : State, aonDown s = false → inReset s = false →
    (∀ n inst : Nat, (defSev n).isSome = true → s.on FLT_CNT_FSTATE n = false → s.get FLT_SEV_SEV n = 0 →
      ((s.liveOf n).any fun e => e.inst == inst) = false → ∃ u, raise n inst s = updateFaultN u ∧ u.on FLT_CNT_FSTATE n = true ∧
        u.get FLT_CNT_ASSERTS n = (s.get FLT_CNT_ASSERTS n + 1) % 2 ^ FLT_CNT_ASSERTS.width) ∧
    (∀ n inst : Nat, ((s.liveOf n).any fun e => e.inst == inst) = true → raise n inst s = s) ∧
    (∀ n inst : Nat, defSev n = none → raise n inst s = s) ∧
    (∀ r : Rail, (railMasked s).testBit (railBit r) = false → ∃ u, exec (.railMonitorTrip r) s =
      .next (s.settled (settleAngle (raise (railSource r) 0xFF u))) ∧ u.bit PAD_RAIL 0 (railBit r) = true) ∧
    (∀ r : Rail, ∃ u, exec (.railMonitorClear r) s = .next (s.settled (settleAngle u)) ∧ u.bit PAD_RAIL 0 (railBit r) = false) ∧
    (∀ c : Int, ∃ t, exec (.dieTemperatureTrip c) s = .next t ∧ t.get NVQ_TEMP 0 = (c + 273).toNat % 2 ^ NVQ_TEMP.width) ∧
    (∀ p : Bool, exec (.referenceClockLost p) s = .next (s.settled (settleAngle (raise (if p then 7 else 6) 0xFF s))) ∧
      exec (.referenceClockReturn p) s = .next (s.settled (settleAngle (lower (if p then 7 else 6) 0xFF s)))) ∧
    (∀ m : Fin 4, s.on PAD_TEST 0 = false → exec (.watchdogExpiry m) s = .next (s.settled (settleAngle (pulse (8 + m) 0xFF s)))) ∧
    (∀ n : Fin 512, s.on FLT_CNT_FSTATE n = true → s.on FLT_TIMER n = true → s.on FLT_CNT_LOCKOUT n = false →
      s.on FLT_SAFE_ACTIVE 0 = false →
      (s.get FLT_SEV_LIMIT n ≠ 255 → s.get FLT_SEV_LIMIT n < s.get FLT_CNT_RCNT n + 1 →
        exec (.macerationExpiry n) s = .next (s.settled (settleAngle (lockSource n s)))) ∧
      ((s.get FLT_SEV_LIMIT n = 255 ∨ s.get FLT_CNT_RCNT n + 1 ≤ s.get FLT_SEV_LIMIT n) →
        exec (.macerationExpiry n) s = .next (s.settled (settleAngle (exitFault n s))))) ∧
    (∀ n : Fin 512, s.on FLT_WINOPEN n = true →
      exec (.recoveryWindowClose n) s = .next (s.after (s.setMany n [(FLT_WINOPEN, 0), (FLT_CNT_RCNT, 0)]))) ∧
    (∀ v : Word, s.on FLT_INJECT_ASSERT 0 = false → v.toNat.testBit 24 = true → 448 ≤ bits v.toNat 0 9 → ∃ u,
      exec (.faultInject v) s = .next (s.settled (settleAngle (raise (bits v.toNat 0 9) (bits v.toNat 16 8) u))) ∧
        u.on FLT_INJECT_ASSERT 0 = true) ∧
    (∀ v : Word, s.on FLT_INJECT_ASSERT 0 = false → v.toNat.testBit 24 = true → bits v.toNat 0 9 < 448 → ∃ u,
      exec (.faultInject v) s = .next (s.settled (settleAngle (raise 289 0xFF (raise (bits v.toNat 0 9) (bits v.toNat 16 8) u))))) ∧
    (exec .firstCaptureRearm s = .next (s.after (s.set FLT_FIRST_VALID 0 0)))

/-- R555: firmware adds an entry of TYPE 6 with `BNR_FW0` and `BNR_FW1` as DATA0 and DATA1 by writing `BNR_FWCTL` with a 9-bit code and GO;
entries of every writer take sequence numbers in the order in which they reach the record. -/
def Obligations.FirmwareEntries : Prop :=
  (∀ (s : State) (v : Word), inReset s = false → v.toNat.testBit 31 = true → ∃ (t : State) (e : Entry),
    exec (.bnrFirmwareEntry v) s = .next t ∧ NMap.find t.ring (s.get BNR_STS_HEAD 0) = some e ∧ e.typ = 6 ∧
    e.source = bits v.toNat 0 9 ∧ e.data0 = s.get BNR_FW 0 ∧ e.data1 = s.get BNR_FW 1 ∧ e.seq = s.get BNR_STS_SEQ 0 ∧
    t.get BNR_STS_SEQ 0 = (s.get BNR_STS_SEQ 0 + 1) % 2 ^ BNR_STS_SEQ.width) ∧
  (∀ (s : State) (typ source sev inst rcnt d0 d1 : Nat), ∃ e : Entry,
    NMap.find (s.enter typ source sev inst rcnt d0 d1).ring (s.get BNR_STS_HEAD 0) = some e ∧ e.seq = s.get BNR_STS_SEQ 0 ∧
    (s.enter typ source sev inst rcnt d0 d1).get BNR_STS_SEQ 0 = (s.get BNR_STS_SEQ 0 + 1) % 2 ^ BNR_STS_SEQ.width)

/-- The record's dumps and its reading (R551, R556–R559): without GO no entry is made; the last word of an entry is read; a firmware
request triggers a dump, and the end of a dump is marked and shown, after which what firmware had begun on NOR is repeated (log entry
42). -/
def Obligations.RecordDumps : Prop :=
  ∀ s : State, aonDown s = false → inReset s = false →
    (∀ v : Word, v.toNat.testBit 31 = false → exec (.bnrFirmwareEntry v) s = .next (s.after (s.set BNR_FWCTL_CODE 0 (bits v.toNat 0 9)))) ∧
    (∃ t, exec .bnrDat7Read s = .next t ∧ t.rdata = bits (s.ringBits (s.get BNR_RDIDX_INDEX 0)) 224 32 ∧
      t.get BNR_RDIDX_INDEX 0 = (if s.on BNR_RDIDX_AUTOINC 0 then (s.get BNR_RDIDX_INDEX 0 + 1) % 2 ^ BNR_RDIDX_INDEX.width
        else s.get BNR_RDIDX_INDEX 0)) ∧
    (exec .bnrDump s = .next (s.settled (settleAngle (withFollow (dumpTrigger 7 s))))) ∧
    (s.dumps = [] → exec .dumpComplete s = .next (s.after (norFree (settle s (settleAngle s))))) ∧
    (∀ d : Dump, s.dumps = [d] → s.on BNR_CARRY 0 = false → ∃ u,
      exec .dumpComplete s = .next (s.after (norFree (settle s (settleAngle u)))) ∧ u.dumps = [] ∧
      u.on BNR_STS_DUMPING 0 = false ∧ u.get BNR_NOR_LAST_SLOT 0 = d.slot % 2 ^ BNR_NOR_LAST_SLOT.width ∧
      u.get BNR_NOR_LAST_COMPLETE 0 = 1 ∧ u.get BNR_NOR_LAST_ENTRIES 0 = d.count % 2 ^ BNR_NOR_LAST_ENTRIES.width)

/-- Resets, start-up and pins (R565, R567, R568, R570, R573, R574, R580, R586, R630, R634, R635, R636, R644, R645): where each reset leads,
what the
boot engine's steps need, the end of configuration, before which the adaptive tables are applied from NOR (log entry 43), and what the
pins do: from a cold reset each output is in its state of R636, and what TESTEN and the test port put in its place. A block in reset takes no command (log entry 40). -/
def Obligations.StartUpAndPins : Prop :=
  ∀ s : State,
    (inReset s = true → ∀ blk f, onBlock blk f s = s ∧ onMedia blk f s = s) ∧
    (∀ role cs te : Bool, aonDown s = false → ∃ t, exec (.pwrGoodRise role cs false te) s = .next t ∧ t.on PAD_PWRBAD 0 = false ∧
      t.on PAD_TEST 0 = te ∧ t.get GLB_STRAP_ROLE 0 = role.toNat ∧ t.get GLB_STRAP_BOOTCS 0 = cs.toNat) ∧
    (inReset s = false → ∃ t, exec .pwrGoodFall s = .next t ∧ inReset t = true) ∧
    (∃ t, exec .resetNAssert s = .next t ∧ inReset t = true) ∧
    (∀ role cs recov : Bool, s.on PAD_RSTN 0 = true → s.on PAD_PWRBAD 0 = false → aonDown s = false →
      exec (.resetNDeassert role cs recov) s = .next (s.after (sampleStraps role cs recov (s.set PAD_RSTN 0 0)))) ∧
    (∀ (v : Word) (role cs recov : Bool), inReset s = false → bits v.toNat 8 8 = 0x5A →
      (v.toNat.testBit 1 = true → exec (.glbColdReset v role cs recov) s = .next (s.after (coldReset 4 true role cs recov s))) ∧
      (v.toNat.testBit 0 = true → v.toNat.testBit 1 = false →
        exec (.glbWarmReset v role cs recov) s = .next (s.after (warmReset 3 role cs recov s)))) ∧
    (∀ (v : Word) (role cs recov : Bool), bits v.toNat 8 8 ≠ 0x5A → exec (.glbColdReset v role cs recov) s = .next (s.after s) ∧
      exec (.glbWarmReset v role cs recov) s = .next (s.after s)) ∧
    ((coldClear s).mem = [] ∧ (coldClear s).ring = [] ∧ (coldClear s).zones = [] ∧ ∀ (f : Field) (i : Nat), fieldBlk f.id ≠ 93 →
      fieldBlk f.id ≠ 91 → f.id ≠ GLB_SVN.id → (coldClear s).get f i = f.rst i % 2 ^ f.width) ∧
    (aonDown s = false → ∃ t, exec .vddAonLow s = .next t ∧ aonDown t = true ∧ t.mem = [] ∧ t.ring = []) ∧
    (∀ role cs recov : Bool, aonDown s = true →
      exec (.vddAonReturn role cs recov) s = .next (s.after (coldReset 1 false role cs recov (s.set PAD_AONLOW 0 0)))) ∧
    (∀ (d e : DirCopy) (k re : Bool) (nor : Word) (slots : FlaconSlot × FlaconSlot) (areas : CfgArea × CfgArea), booting s = true →
      s.is GLB_BOOT_PHASE 0 2 = true → s.dumps = [] →
      (d.ok = false → e.ok = false →
        ∃ u, exec (.flaconLoadDone d e slots areas k nor re) s = .next (s.after (enterRecovery 2 (pulse 272 0xFF u)))) ∧
      (∀ a : Fin 2, chooseDir d e = some a → slotOk (if a.val = 0 then slots.1 else slots.2) (bootFinds a k nor.toNat re s) = true →
        exec (.flaconLoadDone d e slots areas k nor re) s = .next (s.after (loadConfig areas k
          (bootSlot a (if a.val = 0 then slots.1 else slots.2) (bootFinds a k nor.toNat re s)))))) ∧
    (∀ d e : DirCopy, (d.ok = true → e.ok = false → chooseDir d e = some d.active) ∧ (d.ok = false → e.ok = true → chooseDir d e = some e.active) ∧
      (d.ok = true → e.ok = true → d.seq.toNat < e.seq.toNat → chooseDir d e = some e.active) ∧
      (d.ok = true → e.ok = true → e.seq.toNat < d.seq.toNat → chooseDir d e = some d.active)) ∧
    (∀ (k : Bool) (nor : Word) (a : Fin 2) (f : FlaconSlot), (bootFinds a k nor.toNat false s).on LPE_IMGSTS_CKEY 0 = k ∧
      (bootFinds a k nor.toNat false s).get GLB_NOR_SIZE0 0 = bits nor.toNat 8 8 ∧
      bootFinds a k nor.toNat true s = pulse 273 0xFF (bootFinds a k nor.toNat false s) ∧
      (bootSlot a f s).on FMT_STS_STORE_OK 0 = true ∧ (bootSlot a f s).get GLB_BOOT_SLOT 0 = a + 1) ∧
    (∀ time : BitVec 16, inReset s = false → s.on PAD_TEST 0 = false → s.on BUF_STS_TRAINED 0 = false → s.is GLB_BOOT_PHASE 0 5 = true →
      s.on GLB_BOOT_RECOVERY 0 = false → s.is GLB_BOOT_CAUSE 0 7 = false → ∃ t, exec (.dramTrainingDone 0 time) s = .next t ∧
        t.on BUF_STS_TRAINED 0 = true ∧ t.is GLB_BOOT_PHASE 0 6 = true ∧ t.get GLB_BOOTTIME 0 = time.toNat) ∧
    (inReset s = false → s.on PAD_TEST 0 = false → s.on GLB_BOOT_RECOVERY 0 = false → s.on GLB_BOOT_CFGDONE 0 = false →
      s.is GLB_BOOT_PHASE 0 6 = true → (s.tables.nor = [] → ∃ t, exec .configurationComplete s = .next t ∧ t.on GLB_BOOT_CFGDONE 0 = true ∧
        t.is GLB_BOOT_PHASE 0 7 = true ∧ t.tables.stage = 1) ∧
      ∃ u, exec .cfgdoneTimeout s = .next (s.after (pulse 276 0xFE u)) ∧ u.on GLB_BOOT_CFGDONE 0 = true) ∧
    (∀ a : State, a = applyNor s → s.on GLB_BOOT_CFGDONE 0 = false → inReset a = false → a.on PAD_TEST 0 = false →
      a.on GLB_BOOT_RECOVERY 0 = false → a.on GLB_BOOT_CFGDONE 0 = false → a.is GLB_BOOT_PHASE 0 6 = true → ∃ t,
      exec .configurationComplete s = .next t ∧ t.on GLB_BOOT_CFGDONE 0 = true ∧ t.is GLB_BOOT_PHASE 0 7 = true) ∧
    (s.on GLB_BOOT_CFGDONE 0 = true → exec .configurationComplete s = .next (s.after s)) ∧
    (∀ mv : Nat, reaches 0 s = true → 650 ≤ mv → mv ≤ 850 → (mv - s.get PAD_AVS 0) + (s.get PAD_AVS 0 - mv) ≤ 10 → s.on PAD_AVSOFF 0 = false →
      s.on PAD_AVSMS 0 = false → (∀ l < 48, s.on LAN_STS_WRITING l = false) → ∃ t, exec (.avsVoltageRequest mv true) s = .next t ∧
        t.get PAD_AVS 0 = mv % 2 ^ PAD_AVS.width) ∧
    (exec .bypass s = .next (s.after (s.set PAD_TAP 0 0)) ∧ exec .extest s = .next (s.after (s.set PAD_TAP 0 3)) ∧
      exec .clamp s = .next (s.after (s.set PAD_TAP 0 4)) ∧ exec .highz s = .next (s.after (s.set PAD_TAP 0 5))) ∧
    (∀ p : OutPin, s.get PAD_TAP 0 < 3 → (s.on PAD_PERST 0 = true ∨ p ≠ .peTx) → pinLevel p (coldClear s) = resetLevel p) ∧
    (∀ p : OutPin, (s.on PAD_TEST 0 = true → p ≠ .tdo → pinLevel p s = .z) ∧
      (s.on PAD_TEST 0 = false → s.get PAD_TAP 0 = 5 → scanCell p ≠ none → pinLevel p s = .z) ∧
      (s.on PAD_TEST 0 = false → s.get PAD_TAP 0 < 3 → pinLevel p s = ownLevel p s)) ∧
    (∃ t, exec .idcode s = .next t ∧ t.out = s.out ++ [.tdo 0x2481234B]) ∧
    (∀ v : Nat, ∃ t, exec (.samplePreload v) s = .next t ∧ t.get PAD_SCAN 0 = v % 2 ^ PAD_SCAN.width)

/-- Register space and internal memory (R17, R370, R500, R655, R656, R660, R661): what a write does to a field of each access code; a block that
is powered off reads as zero and takes no write; a read without side effects returns what the register shows; an unmapped address is refused
with source 243 and a bank window with 226; in reset no access has an effect. -/
def Obligations.RegisterAccesses : Prop :=
  ∀ s : State,
    (∀ (f : Field) (i : Nat) (v : Word), 0 < f.width → f.lo + f.width ≤ 32 →
      (f.acc = .rw → (writeField f i 0 v.toNat s).get f i = bits v.toNat f.lo f.width) ∧
      (f.acc = .w1c → ∀ b < f.width, (writeField f i 0 v.toNat s).bit f i b = (s.bit f i b && !v.toNat.testBit (f.lo + b))) ∧
      (f.acc = .ro → writeField f i 0 v.toNat s = s) ∧
      (f.acc = .rwl → s.on GLB_BOOT_CFGDONE 0 = true → writeField f i 0 v.toNat s = s)) ∧
    (∀ (off v : Nat), poweredOff (off / 65536) s = true → readReg off s = s.ret 0 ∧ writeReg off v s = s) ∧
    (∀ (m : Master) (a : Addr) (v : Word), inReset s = true → exec (.registerWrite m a v) s = .next (s.after s)) ∧
    (∀ (a : Addr) (q : Bool), inReset s = true → exec (.clearingRead a q) s = .next (s.after s)) ∧
    (∀ (m : Master) (a : Addr) (v : Word), inReset s = false → exec (.registerWrite m a v) s =
      .next (s.after (afterWrite (a.toNat - regBase) s (registerWrite m a.toNat v.toNat s)))) ∧
    (∀ (a : Addr) (off : Nat) (v : Nat), regOffset a.toNat = some off → off % 4 = 0 →
      registerWrite .lpe a.toNat v s = writeReg off v s ∧
      (off < 0x100000 → s.on NVQ_UNLOCK 0 = false → registerWrite .bar4 a.toNat v s = s.bump PCI_CNT_BAR4_BAR4 0)) ∧
    (∀ (a : Addr) (off : Nat), inReset s = false → regOffset a.toNat = some off → off % 4 = 0 →
      exec (.clearingRead a true) s = .next (s.after (lookReg off s)) ∧ (lookReg off s).rdata = peekReg off s ∧
      exec (.clearingRead a false) s = .next (s.after (readReg off s))) ∧
    (∀ (a : Addr) (q : Bool), inReset s = false → regOffset a.toNat = none →
      (coreRam a.toNat = true → exec (.clearingRead a q) s = .next (s.after (s.ret (s.mem.word a.toNat 4)))) ∧
      (coreRam a.toNat = false → inDram a.toNat = false → controlStore a.toNat = false → fmtStore a.toNat = false →
        exec (.clearingRead a q) s = .next (s.after ((pulse 243 0xFF s).ret 0)))) ∧
    (∀ (a : Addr) (v : Word), s.on PAD_TEST 0 = false → s.on GLB_HELD 0 = false → controlStore a.toNat = true →
      registerWrite .m0 a.toNat v.toNat s = pulse 226 0xFF s)


/-! ## The hierarchy -/

/-- The Claik bus as a node sees it (R559, R595–R599, R614, R615, R617–R620): an addressed request is counted, acted on once and answered with
its sequence number, and a repeated one is answered as before; an image that is to be written waits while a dump has NOR; what the requests and the orders do; broadcasts, silence and errors. How a
port that is off and a frame for another node count is read from R595 and the layout of the replies beyond R596 is the model's (log
entry 39). -/
def Obligations.NodeFrames : Prop :=
  ∀ s : State, reaches 16 s = true →
    (∀ (a : BitVec 7) (q : BitVec 4) (k : Byte), s.on CLB_CTL_UPEN 0 = true → a.toNat ≠ ownAddr s → a.toNat ≠ 0x7F →
      exec (.poll a q) s = .next (s.settled (s.bump CLB_UPCNT_VALID 0)) ∧
      exec (.grant a q k) s = .next (s.settled (s.bump CLB_UPCNT_VALID 0)) ∧
      exec (.drydown a q) s = .next (s.settled (settleAngle (s.bump CLB_UPCNT_VALID 0)))) ∧
    (∀ (a : BitVec 7) (q : BitVec 4), s.on CLB_CTL_UPEN 0 = false → exec (.poll a q) s = .next (s.settled s) ∧
      exec (.wake a q) s = .next (s.settled s) ∧ exec (.spin a q) s = .next (s.settled (settleAngle s))) ∧
    (∀ (a : BitVec 7) (q : BitVec 4) (o : Out) (v : State), s.on CLB_CTL_UPEN 0 = true → a.toNat = ownAddr s → a.toNat ≠ 0x7F →
      v = lower 305 0xFF (s.bump CLB_UPCNT_VALID 0) → v.is CLB_LAST 0 (q.toNat + 1) = true → v.upReply = some o →
      exec (.poll a q) s = .next (s.settled (v.emit o)) ∧ (∀ k, exec (.grant a q k) s = .next (s.settled (v.emit o))) ∧
      exec (.wake a q) s = .next (s.settled (v.emit o)) ∧ exec (.peerinfo a q) s = .next (s.settled (v.emit o)) ∧
      (∀ b n, exec (.harvest a q b n) s = .next (s.settled (v.emit o))) ∧
      exec (.fwctlQuery a q) s = .next (s.settled (v.emit o)) ∧ (∀ k, exec (.fwctlCommit a q k) s = .next (s.settled (v.emit o))) ∧
      exec (.fwactivate a q) s = .next (s.settled (v.emit o)) ∧ exec (.drydown a q) s = .next (s.settled (settleAngle (v.emit o))) ∧
      exec (.release a q) s = .next (s.settled (settleAngle (v.emit o))) ∧
      exec (.spin a q) s = .next (s.settled (settleAngle (v.emit o))) ∧
      (∀ p, exec (.pscap a q p) s = .next (s.settled (settleAngle (v.emit o)))) ∧
      ∀ m p h, exec (.setref a q m p h) s = .next (s.settled (settleAngle (v.emit o)))) ∧
    (∀ (a : BitVec 7) (q : BitVec 4) (v : State), s.on CLB_CTL_UPEN 0 = true → a.toNat = ownAddr s → a.toNat ≠ 0x7F →
      s.is CLB_LAST 0 (q.toNat + 1) = false → v = (lower 305 0xFF (s.bump CLB_UPCNT_VALID 0)).set CLB_LAST 0 (q.toNat + 1) →
      exec (.poll a q) s = .next (s.settled (reply 0 q.toNat (statusPayload v).2 (statusPayload v).1)) ∧
      ((statusPayload v).2.length = 16 ∧ (statusPayload v).2[1]? = some (BitVec.ofNat 8 (if v.is GLB_ROLE_ROLE 0 2 then 0 else
        v.get SPN_STATE_STATE 0))) ∧
      (v.is GLB_ROLE_ROLE 0 2 = false → ∀ k : Byte, exec (.grant a q k) s = .next (s.settled (reply 3 q.toNat
        (bytesOf 1 (v.get SPN_TOKENS_USED 0)) (v.set SPN_TOKENS_GRANT 0 k.toNat)))) ∧
      (v.is GLB_ROLE_ROLE 0 2 = true → v.on CLB_TOP 0 = false → ∀ k : Byte, ∃ p, exec (.grant a q k) s =
        .next (s.settled (reply 3 q.toNat p (setBudget k.toNat v)))) ∧
      (∃ p, exec (.wake a q) s = .next (s.settled (reply 10 q.toNat [] (pmeEvent p (pulse 309 0xFF v))))) ∧
      (∃ p, exec (.peerinfo a q) s = .next (s.settled (reply 9 q.toNat p v)) ∧ p.length = 24 ∧
        (p.drop 16).take 2 = bytesOf 2 (v.get NVQ_CMB_SIZE 0)) ∧
      (∀ (b : BitVec 16) (e : Entry), (v.ring.find? fun x => x.2.seq == b.toNat) = some (0, e) →
        exec (.harvest a q b 1) s = .next (s.settled (reply 8 q.toNat (bytesOf 32 e.bits) v))) ∧
      exec (.fwctlQuery a q) s = .next (s.settled (reply 7 q.toNat (fwstatPayload v) v)) ∧
      exec (.fwctlCommit a q false) s = .next (s.settled (reply 7 q.toNat (fwstatPayload (v.set CLB_FWOK 0 0)) (v.set CLB_FWOK 0 0))) ∧
      (missingChunks v = [] → s.dumps ≠ [] → exec (.fwctlCommit a q true) s =
        .next (s.settled (holdNor (.fwctl a.toNat q.toNat) (lower 305 0xFF (s.bump CLB_UPCNT_VALID 0))))) ∧
      (missingChunks v = [] → s.dumps = [] → ∃ u p, exec (.fwctlCommit a q true) s = .next (s.settled (reply 7 q.toNat p (firmwareActivation u))) ∧
        u.get NVM_ACTIVE 0 = (2 - v.get GLB_BOOT_SLOT 0) % 2 ^ NVM_ACTIVE.width ∧ u.on CLB_FWOK 0 = true)) ∧
    (∀ (a : BitVec 7) (q : BitVec 4) (o : Nat → State), s.on CLB_CTL_UPEN 0 = true → a.toNat = ownAddr s → a.toNat ≠ 0x7F →
      s.is CLB_LAST 0 (q.toNat + 1) = false →
      (∀ n, o n = (((lower 305 0xFF (s.bump CLB_UPCNT_VALID 0)).set CLB_LAST 0 (q.toNat + 1)).set CLB_ORDER_CODE 0 n).bump
        CLB_ORDER_COUNT 0) →
      exec (.drydown a q) s = .next (s.settled (settleAngle (reply 4 q.toNat []
        (applyOrders ((o 1).setMany 0 [(CLB_ORDER_DRYDOWN, 1), (CLB_ORDER_SPIN, 0)]))))) ∧
      exec (.release a q) s = .next (s.settled (settleAngle (reply 4 q.toNat []
        ((o 2).setMany 0 [(CLB_ORDER_DRYDOWN, 0), (CLB_ORDER_SPIN, 0), (CLB_ORDER_PSCAP, 0)])))) ∧
      exec (.spin a q) s = .next (s.settled (settleAngle (reply 4 q.toNat []
        (applyOrders ((if (o 3).on FLT_SAFE_ACTIVE 0 then (o 3).bump MGR_ORD_LOST 0 else o 3).setMany 0
          [(CLB_ORDER_DRYDOWN, 0), (CLB_ORDER_SPIN, 1)]))))) ∧
      (∀ p : BitVec 3, p.toNat ≤ 2 → exec (.pscap a q p) s = .next (s.settled (settleAngle (reply 4 q.toNat []
        (applyCap ((o 4).set CLB_ORDER_PSCAP 0 p.toNat)))))) ∧
      (∀ p : BitVec 3, 2 < p.toNat → exec (.pscap a q p) s = .next (s.settled (settleAngle (reply 4 q.toNat []
        (applyCap (((o 4).set CLB_ORDER_PSCAP 0 p.toNat).set CLB_ORDER_SPIN 0 0)))))) ∧
      (∀ p : BitVec 3, p.toNat ≤ s.get NVQ_STS_PS 0 → applyCap (s.set CLB_ORDER_PSCAP 0 p.toNat) = s.set CLB_ORDER_PSCAP 0 p.toNat) ∧
      (driveRole (o 5) = false → ∀ m p h, exec (.setref a q m p h) s = .next (s.settled (settleAngle (reply 4 q.toNat [] (o 5))))) ∧
      (driveRole (o 5) = true → (o 5).bit SPN_CMT_STS_PENDING 0 1 = false → ∀ m p h, exec (.setref a q m p h) s =
        .next (s.settled (settleAngle (reply 4 q.toNat [] (commitGroup .spn 0 1 ((((o 5).setSh SPN_REFMODE_MODE 0 m.toNat).setSh
          SPN_REFCFG_PPR 0 p.toNat).setSh SPN_REFCFG2_PHASE 0 h.toNat)))))) ∧
      exec (.fwactivate a q) s = .next (s.settled (reply 4 q.toNat [] (firmwareActivation (o 6))))) ∧
    (∀ t : State, t.on FLT_SAFE_ACTIVE 0 = true → applyOrders t = t) ∧
    (s.on CLB_CTL_UPEN 0 = true →
      (ownAddr s = 0x7E → s.on CLB_FIXED 0 = false → ∀ b, exec (.discover b) s =
        .next (s.settled ((lower 305 0xFF (s.bump CLB_UPCNT_VALID 0)).set CLB_HELLO 0 1))) ∧
      (ownAddr s ≠ 0x7E → ∀ b, exec (.discover b) s = .next (s.settled (lower 305 0xFF (s.bump CLB_UPCNT_VALID 0)))) ∧
      (s.on CLB_HELLO 0 = true → exec .discoverResponseSlot s = .next (s.settled ((s.set CLB_HELLO 0 0).emit (claikOut true 0xFE 1 0
        (bytesOf 8 (s.get GLB_EUI 0) ++ bytesOf 1 (s.get GLB_ROLE_ROLE 0) ++ bytesOf 1 (s.get GLB_ROLE_LEVEL 0)))))) ∧
      (∀ (e : BitVec 64) (a : BitVec 7) (p : BitVec 18) (l : BitVec 2) (q : BitVec 4), ownAddr s = 0x7E → s.get GLB_EUI 0 = e.toNat →
        s.on CLB_FIXED 0 = false → s.is CLB_LAST 0 (q.toNat + 1) = false → ∃ u, exec (.assign e a p l q) s = .next (s.settled u) ∧
        u.get CLB_NODE_ADDR 0 = a.toNat ∧ u.on CLB_NODE_ASSIGNED 0 = true ∧ u.get CLB_NODE_POD 0 = p.toNat ∧
        u.get CLB_NODE_LEVEL 0 = l.toNat) ∧
      (∀ (e : BitVec 64) (p : Word), ∃ u, exec (.sync e p) s = .next (s.settled u) ∧ u.get MGR_EPOCH 0 = e.toNat ∧
        u.get MGR_PERIOD 0 = p.toNat) ∧
      (∀ (off : Word) (d : List Byte), ∃ u, exec (.fwdata off d) s = .next (s.settled u) ∧ off.toNat ∈ u.fwMiss) ∧
      exec (.reservedType true) s = .next (s.settled ((s.bump CLB_UPCNT_VALID 0).bump CLB_RETRY_RESERVED 0)) ∧
      exec .upstreamSilence s = .next (s.settled (raise 305 0xFF s)) ∧
      exec (.claikFrameCrcError true) s = .next (s.settled (pulse 304 0xFF (s.bump CLB_UPCNT_CRC 0)))) ∧
    (∀ b, exec (.addressConflict b) s = .next (s.settled (pulse 308 0xFF s)))

/-- The manager role (R11, R595, R598, R599, R602, R603, R605, R613, R615, R616, R620, R621): running (a row or pod manager has no members to set up), discovery, polling and time-outs, what the
nodes' answers change, the workers that are lost, the harvest and the roll-out. Rounds, orders of requests and the queue of 33 entries are the model's
(log entries 38, 39). Outside the role a manager's command changes nothing
(log entry 39). -/
def Obligations.ShelfManager : Prop :=
  (∀ s : State, reaches 16 s = true →
    (s.is GLB_ROLE_ROLE 0 2 = false → (∀ r n z, exec (.mgrRun r n z) s = .next (s.settled s)) ∧
      (∀ b, exec (.mgrDiscover b) s = .next (s.settled s)) ∧ exec .mgrFwGo s = .next (s.settled s) ∧
      exec .syncOutFault s = .next (s.settled s) ∧ (∀ a m, exec (.status a m) s = .next (s.settled s)) ∧
      (∀ e r l, exec (.hello e r l) s = .next (s.settled s)) ∧ (∀ w, exec (.workerSilent w) s = .next (s.settled s)) ∧
      (∀ w n, exec (.peerCommandTimeout w n) s = .next (s.settled s))) ∧
    (s.is GLB_ROLE_ROLE 0 2 = true →
      (∀ n z, ∃ u, exec (.mgrRun false n z) s = .next (s.settled u) ∧ u.on MGR_CTL_RUN 0 = false ∧ u.on MGR_STS_READY 0 = false) ∧
      (∀ n z : Nat, noMembers s = true → ∃ u, exec (.mgrRun true n z) s = .next (s.settled u) ∧ u.on MGR_CTL_RUN 0 = true ∧
        u.get MGR_WNZ 0 = s.get MGR_WNZ 0 ∧ u.get MGR_WZS 0 = s.get MGR_WZS 0 ∧ u.dnQ = s.dnQ ∧ u.peers = s.peers) ∧
      (∀ n z : Nat, noMembers s = false → ∃ u, exec (.mgrRun true n z) s = .next (s.settled u) ∧ u.on MGR_CTL_RUN 0 = true ∧
        u.get MGR_WNZ 0 = n % 2 ^ MGR_WNZ.width ∧ u.get MGR_WZS 0 = z % 2 ^ MGR_WZS.width) ∧
      (∀ w : Fin 64, s.memberMask.testBit w = true → isLost w s = false → exec (.workerSilent w) s = .next (s.settled
        (showMgr (dropPeers w (pulse 336 w ((loseMember w s).set MGR_NODE_STATE w 3)))))) ∧
      (∀ w : Fin 64, isLost w s = true → exec (.workerSilent w) s = .next (s.settled (showMgr s))) ∧
      (∀ (w : Fin 64) (n : Nat) (p : PeerCmd), n ≤ s.get MGR_PEERCFG_RETRY 0 → (s.peers.find? fun x => x.slot == w.val) = some p →
        s.on MGR_FW_BUSY 0 = false → ∃ u, exec (.peerCommandTimeout w n) s = .next (s.settled u) ∧
        u.out = s.out ++ [.peer { p with tries := n }]) ∧
      (s.on MGR_SYNC_EN 0 = true → s.on MGR_SYNCLOW 0 = false →
        exec .syncOutFault s = .next (s.settled (driveSync (pulse 341 0xFF s))))) ∧
    (masterOn s = true →
      (∀ b : Byte, ∃ u, exec (.mgrDiscover b) s = .next (s.settled u) ∧ u.on MGR_DISC 0 = true ∧ u.get MGR_EMPTY 0 = 0 ∧ u.hellos = [] ∧
        u.out = s.out ++ [claikOut false 0x7F 1 (s.get MGR_SEQ 0) (bytesOf 1 b.toNat)]) ∧
      (∀ e r l, s.on MGR_DISC 0 = true → s.hellos.contains e.toNat = true →
        exec (.hello e r l) s = .next (s.settled (pulse 308 0xFF (s.bump CLB_DNCNT_VALID 0)))) ∧
      (∀ e r l, s.on MGR_DISC 0 = true → s.hellos.contains e.toNat = false → (∀ n < 64, s.on MGR_NODE_STATE n = false) →
        s.on MGR_MAPPED 0 = false → exec (.hello e r l) s =
        .next (s.settled { s.bump CLB_DNCNT_VALID 0 with hellos := s.hellos ++ [e.toNat] })) ∧
      (∀ e r l n, s.on MGR_DISC 0 = true → s.hellos.contains e.toNat = false →
        mappedSlot e.toNat { s.bump CLB_DNCNT_VALID 0 with hellos := s.hellos ++ [e.toNat] } = some n → exec (.hello e r l) s =
        .next (s.settled (showMgr (takeNode e.toNat n { s.bump CLB_DNCNT_VALID 0 with hellos := s.hellos ++ [e.toNat] })))) ∧
      (∀ e n : Nat, s.on MGR_DISC 0 = true → s.hellos = [e] → mappedSlot e s = none → freeNode s = some n → ∃ u,
        exec .discoverRoundEnd s = .next (s.settled u) ∧ u.get MGR_NODE_EUI n = e % 2 ^ MGR_NODE_EUI.width ∧
        u.on MGR_NODE_STATE n = true ∧ u.on MGR_DISC 0 = true) ∧
      (s.on MGR_DISC 0 = true → s.hellos = [] → s.get MGR_EMPTY 0 = 2 → ∃ u, exec .discoverRoundEnd s = .next (s.settled u) ∧
        u.on MGR_DISC 0 = false ∧ u.out = s.out) ∧
      (s.on MGR_DISC 0 = false → exec .discoverRoundEnd s = .next (s.settled s)) ∧
      (∀ n < 64, s.on MGR_NODE_STATE n = true → (∀ k < 64, k ≠ n → s.on MGR_NODE_STATE k = false) → s.dnQ = [] → ∃ u,
        exec .pollPeriod s = .next (s.settled u) ∧ u.dnQ = [⟨n + 1, 0, s.get MGR_SEQ 0, [], 0⟩] ∧
        u.out = s.out ++ [claikOut false (n + 1) 0 (s.get MGR_SEQ 0) []]) ∧
      (exec (.reservedType false) s = .next (s.settled ((s.bump CLB_DNCNT_VALID 0).bump CLB_RETRY_RESERVED 0)) ∧
        exec (.claikFrameCrcError false) s = .next (s.settled (pulse 306 0xFF (s.bump CLB_DNCNT_CRC 0)))) ∧
      (∀ n : Nat, (∀ k < 64, k ≠ n → s.on MGR_NODE_STATE k = false) → n < 64 → s.on MGR_NODE_STATE n = true →
        exec .harvestTimer s = .next (s.settled (harvestChild n s))) ∧
      (∀ (a : BitVec 7) (m : StatusMsg), s.dnQ = [] → (a.toNat = 0 ∨ 64 < a.toNat) →
        exec (.status a m) s = .next (s.settled (s.bump CLB_DNCNT_VALID 0))) ∧
      (∀ (a : BitVec 7) (m : StatusMsg), 1 ≤ a.toNat → a.toNat ≤ 64 → s.is MGR_NODE_STATE (a.toNat - 1) 3 = false → m.locked = false →
        ∃ u, exec (.status a m) s = .next (s.settled u) ∧ u.get MGR_NODE_USED (a.toNat - 1) = m.used.toNat ∧
        u.get MGR_NODE_STATE (a.toNat - 1) = (if m.lost = 0 ∧ m.unrec = 0 then 1 else 2)) ∧
      (∀ (a : BitVec 7) (q : BitVec 4) (v : Byte) (r : ClaikReq), s.dnQ = [r] → r.addr = a.toNat → r.typ = 3 → 1 ≤ a.toNat → a.toNat ≤ 64 →
        ∃ u, exec (.ack a q v) s = .next (s.settled u) ∧ u.get MGR_NODE_USED (a.toNat - 1) = v.toNat) ∧
      (∀ (a : BitVec 7) (v : Byte), s.dnQ = [] → 64 < a.toNat → exec (.ack a 0 v) s = .next (s.settled (s.bump CLB_DNCNT_VALID 0))) ∧
      (∀ (a : BitVec 7) (ok : Bool), 64 < a.toNat → s.dnQ = [] → exec (.fwstat a [] ok) s = .next (s.settled (s.bump CLB_DNCNT_VALID 0))) ∧
      (∀ (a : BitVec 7) (ok : Bool) (v : State) (r : ClaikReq), 1 ≤ a.toNat → a.toNat ≤ 64 → s.dnQ = [r] → r.addr = a.toNat → r.typ = 7 →
        v = lower 307 a.toNat ((s.bump CLB_DNCNT_VALID 0).set MGR_NODE_MISSED (a.toNat - 1) 0) → v.dnQ = [r] →
        s.on MGR_FWACT (a.toNat - 1) = true →
        (∀ o, exec (.fwstat a [o] ok) s = .next (s.settled (claikSend a.toNat 7 (bytesOf 1 0) (claikCast 6 (bytesOf 4 o)
          { v with dnQ := [] })))) ∧
        (r.payload = bytesOf 1 0 → exec (.fwstat a [] ok) s = .next (s.settled (claikSend a.toNat 7 (bytesOf 1 1) { v with dnQ := [] }))) ∧
        (r.payload = bytesOf 1 1 → exec (.fwstat a [] true) s = .next (s.settled (fwStep ({ v with dnQ := [] }.set MGR_FWACT
          (a.toNat - 1) 0))))) ∧
      (∀ (a : BitVec 7) (es : List (BitVec 256)), 64 < a.toNat → s.dnQ = [] →
        exec (.record a es) s = .next (s.settled (s.bump CLB_DNCNT_VALID 0))) ∧
      (∀ (a : BitVec 7) (es : List (BitVec 256)) (v : State), 1 ≤ a.toNat → a.toNat ≤ 64 → v.dnQ = [] →
        v = lower 307 a.toNat ((s.bump CLB_DNCNT_VALID 0).set MGR_NODE_MISSED (a.toNat - 1) 0) →
        v.harvest.length + es.length ≤ 16384 * v.get MGR_HARV_SIZE 0 → exec (.record a es) s = .next (s.settled (harvestChild (a.toNat - 1)
          ({ v with harvest := v.harvest ++ es.map fun e => (v.get MGR_NODE_POD (a.toNat - 1), v.timeUs, e) }.set MGR_CSEQ (a.toNat - 1)
            (v.get MGR_CSEQ (a.toNat - 1) + es.length))))) ∧
      (s.on MGR_FW_BUSY 0 = false → ∃ u, exec .mgrFwGo s = .next (s.settled (fwStep u)) ∧ u.on MGR_FW_BUSY 0 = true ∧
        u.get MGR_FW_FAIL 0 = 0 ∧ u.get MGR_FWNEXT 0 = 0) ∧
      (s.on MGR_FW_BUSY 0 = true → exec .mgrFwGo s = .next (s.settled s))) ∧
    (∀ (r : ClaikReq) (q : List ClaikReq), s.dnQ = r :: q → r.tries < 2 → exec .claikReplyTimeout s = .next (s.settled
      (({ s with dnQ := { r with tries := r.tries + 1 } :: q }.bump CLB_RETRY_REPEATS 0).emit (claikOut false r.addr r.typ r.seq r.payload)))) ∧
    (∀ r : ClaikReq, s.dnQ = [r] → 2 ≤ r.tries → 1 ≤ r.addr → r.addr ≤ 64 → r.typ = 0 → s.is MGR_NODE_MISSED (r.addr - 1) 2 = true →
      exec .claikReplyTimeout s = .next (s.settled (raise 307 r.addr ({ s with dnQ := [] }.addSat MGR_NODE_MISSED (r.addr - 1) 1)))) ∧
    (s.dnQ = [] → exec .claikReplyTimeout s = .next (s.settled s))) ∧
  (∀ s : State, reaches 11 s = true →
    (∀ (off : Nat) (v : Word), s.is GLB_ROLE_ROLE 0 2 = false → exec (.vendorDoorbell off v) s = .next (s.settled s)) ∧
    (∀ (off : Nat) (v : Word), s.is GLB_ROLE_ROLE 0 2 = true → 0x8000 ≤ off → off < 0x9000 →
      off % 0x40 / 4 ≤ peerQueues (barrier s) → exec (.vendorDoorbell off v) s = .next (s.settled (showMgr (fwStep
        (serviceQueue ((off - 0x8000) / 0x40) (off % 0x40 / 4) 33 (barrier s)))))))
end

