-- ==== Sys2Proof/Decode.lean ====
section
/-!
DEFINITION. The decoder over the rows of the command table that give bits: none does.
-/

namespace Sys2Proof

/-- The command that a word spells by the table's bits. No row of spec/opcode_table.json gives bits, so no word spells one. -/
def decodeTableWord (_nbits _w : Nat) : Option Instr := none

end Sys2Proof
end

