-- ==== Sys2Proof/Laws/Store.lean ====
section
/-!
SUPPORT. Laws of the stores: sparse maps, the register file and the byte memory. Reading what was written, reading elsewhere, and the
canonical form of memory.
-/

namespace Sys2Proof.Machine

set_option Elab.async false

/-! ## Sparse maps -/

@[simp] theorem NMap.get_put_self {α : Type} (d : α) (m : NMap α) (k : Nat) (v : α) : NMap.get d (NMap.put m k v) k = v := by
  induction m with
  | nil => simp [NMap.put, NMap.get]
  | cons e t ih => unfold NMap.put; split_ifs <;> simp_all [NMap.get]

theorem NMap.get_put_ne {α : Type} (d : α) (m : NMap α) {k j : Nat} (v : α) (h : k ≠ j) :
    NMap.get d (NMap.put m k v) j = NMap.get d m j := by
  induction m with
  | nil => simp [NMap.put, NMap.get, h]
  | cons e t ih => unfold NMap.put; split_ifs <;> simp_all [NMap.get]

@[simp] theorem NMap.find_put_self {α : Type} (m : NMap α) (k : Nat) (v : α) : NMap.find (NMap.put m k v) k = some v := by
  induction m with
  | nil => simp [NMap.put, NMap.find]
  | cons e t ih => unfold NMap.put; split_ifs <;> simp_all [NMap.find]

theorem NMap.find_put_ne {α : Type} (m : NMap α) {k j : Nat} (v : α) (h : k ≠ j) : NMap.find (NMap.put m k v) j = NMap.find m j := by
  induction m with
  | nil => simp [NMap.put, NMap.find, h]
  | cons e t ih => unfold NMap.put; split_ifs <;> simp_all [NMap.find]

@[simp] theorem NMap.find_del_self {α : Type} (m : NMap α) (k : Nat) : NMap.find (NMap.del m k) k = none := by
  induction m with
  | nil => rfl
  | cons e t ih => unfold NMap.del; split_ifs <;> simp_all [NMap.find]

theorem NMap.find_del_ne {α : Type} (m : NMap α) {k j : Nat} (h : k ≠ j) : NMap.find (NMap.del m k) j = NMap.find m j := by
  induction m with
  | nil => rfl
  | cons e t ih => unfold NMap.del; split_ifs <;> simp_all [NMap.find]

/-! ## Register file -/

theorem RegFile.lookup_put_self (d : Nat) (r : RegFile) (x i v : Nat) : RegFile.lookup d (RegFile.put r x i v) x i = v := by
  induction r with
  | nil => simp [RegFile.put, RegFile.lookup]
  | cons e t ih => unfold RegFile.put; split_ifs <;> simp_all [RegFile.lookup]

theorem RegFile.lookup_put_ne (d : Nat) (r : RegFile) {x i y j : Nat} (v : Nat) (h : ¬(x = y ∧ i = j)) :
    RegFile.lookup d (RegFile.put r x i v) y j = RegFile.lookup d r y j := by
  induction r with
  | nil => simp [RegFile.put, RegFile.lookup, h]
  | cons e t ih =>
    unfold RegFile.put
    split_ifs with h1 h2
    · obtain ⟨rfl, rfl⟩ := h1
      simp [RegFile.lookup, h]
    · simp [RegFile.lookup, h]
    · simp [RegFile.lookup, ih]

theorem RegFile.lookup_del_self (d : Nat) (r : RegFile) (x i : Nat) : RegFile.lookup d (RegFile.del r x i) x i = d := by
  induction r with
  | nil => rfl
  | cons e t ih => unfold RegFile.del; split_ifs <;> simp_all [RegFile.lookup]

theorem RegFile.lookup_del_ne (d : Nat) (r : RegFile) {x i y j : Nat} (h : ¬(x = y ∧ i = j)) :
    RegFile.lookup d (RegFile.del r x i) y j = RegFile.lookup d r y j := by
  induction r with
  | nil => rfl
  | cons e t ih =>
    unfold RegFile.del
    split_ifs with h1
    · obtain ⟨rfl, rfl⟩ := h1
      simp [RegFile.lookup, h, ih]
    · simp [RegFile.lookup, ih]

/-- A field reads what was last written to it, cut to its width. -/
@[simp] theorem RegFile.get_set_self (r : RegFile) (f : Field) (i v : Nat) : (r.set f i v).get f i = v % 2 ^ f.width := by
  unfold RegFile.set RegFile.get
  split_ifs with h
  · rw [RegFile.lookup_del_self, h]
  · rw [RegFile.lookup_put_self]

/-- A write leaves every other field and instance alone. -/
theorem RegFile.get_set_ne (r : RegFile) {f g : Field} {i j : Nat} (v : Nat) (h : ¬(f.id = g.id ∧ i = j)) :
    (r.set f i v).get g j = r.get g j := by
  unfold RegFile.set RegFile.get
  split_ifs
  · rw [RegFile.lookup_del_ne _ _ h]
  · rw [RegFile.lookup_put_ne _ _ _ h]

/-! ## Byte memory -/

@[simp] theorem Memory.read_insert_self (m : Memory) (k : Nat) (v : BitVec 8) : (m.insert k v).read k = v := by
  induction m with
  | nil => simp [Memory.insert, Memory.read]
  | cons e t ih => unfold Memory.insert; split_ifs <;> simp_all [Memory.read]

theorem Memory.read_insert_ne (m : Memory) {k j : Nat} (v : BitVec 8) (h : k ≠ j) : (m.insert k v).read j = m.read j := by
  induction m with
  | nil => simp [Memory.insert, Memory.read, h]
  | cons e t ih => unfold Memory.insert; split_ifs <;> simp_all [Memory.read]

theorem Memory.read_erase_self (m : Memory) (k : Nat) : (m.erase k).read k = 0 := by
  induction m with
  | nil => rfl
  | cons e t ih =>
    by_cases h : e.1 = k
    · simpa [Memory.erase, h] using ih
    · simpa [Memory.erase, h, Memory.read] using ih

theorem Memory.read_erase_ne (m : Memory) {k j : Nat} (h : k ≠ j) : (m.erase k).read j = m.read j := by
  induction m with
  | nil => rfl
  | cons e t ih =>
    by_cases h1 : e.1 = k
    · have : e.1 ≠ j := by omega
      simpa [Memory.erase, h1, Memory.read, this, h] using ih
    · by_cases h2 : e.1 = j
      · simp [Memory.erase, h2, h.symm, Memory.read]
      · simpa [Memory.erase, h1, Memory.read, h2] using ih

/-- A byte reads what was last written to it. -/
@[simp] theorem Memory.read_write_self (m : Memory) (k : Nat) (v : BitVec 8) : (m.write k v).read k = v := by
  unfold Memory.write
  split_ifs with h
  · rw [Memory.read_erase_self, h]
  · exact Memory.read_insert_self m k v

/-- A write leaves every other byte alone. -/
theorem Memory.read_write_ne (m : Memory) {k j : Nat} (v : BitVec 8) (h : k ≠ j) : (m.write k v).read j = m.read j := by
  unfold Memory.write
  split_ifs
  · exact Memory.read_erase_ne m h
  · exact Memory.read_insert_ne m v h

/-- Bytes outside the written range read as before. -/
theorem Memory.read_writeList_ne (l : List (BitVec 8)) (m : Memory) (k j : Nat) (h : j < k ∨ k + l.length ≤ j) :
    (m.writeList k l).read j = m.read j := by
  induction l generalizing m k with
  | nil => rfl
  | cons v t ih =>
    simp only [List.length_cons] at h
    rw [Memory.writeList, ih _ _ (by omega), Memory.read_write_ne _ _ (by omega)]

/-- The canonical form, as a chain of rising addresses with no zero byte. -/
theorem Memory.wf_iff (m : Memory) : m.wf = true ↔ (m.Pairwise fun a b => a.1 < b.1) ∧ ∀ e ∈ m, e.2 ≠ 0 := by
  induction m with
  | nil => simp [Memory.wf]
  | cons e t ih =>
    cases t with
    | nil => simp [Memory.wf]
    | cons f u =>
      simp only [Memory.wf, Bool.and_eq_true, decide_eq_true_eq, ih]
      constructor
      · rintro ⟨⟨h1, h2⟩, h3, h4⟩
        refine ⟨List.pairwise_cons.2 ⟨?_, h3⟩, ?_⟩
        · intro g hg
          rcases List.mem_cons.1 hg with rfl | hg
          · exact h2
          · exact lt_trans h2 ((List.pairwise_cons.1 h3).1 g hg)
        · intro g hg
          rcases List.mem_cons.1 hg with rfl | hg
          · exact h1
          · exact h4 g hg
      · rintro ⟨h1, h2⟩
        obtain ⟨ha, hb⟩ := List.pairwise_cons.1 h1
        exact ⟨⟨h2 e (by simp), ha f (by simp)⟩, hb, fun g hg => h2 g (List.mem_cons_of_mem _ hg)⟩

theorem Memory.wf_filter {m : Memory} (p : Nat × BitVec 8 → Bool) (h : m.wf = true) : Memory.wf (m.filter p) = true := by
  rw [Memory.wf_iff] at *
  exact ⟨h.1.sublist List.filter_sublist, fun e he => h.2 e (List.mem_filter.1 he).1⟩

theorem Memory.mem_insert {m : Memory} {k : Nat} {v : BitVec 8} {e : Nat × BitVec 8} (h : e ∈ m.insert k v) :
    e = (k, v) ∨ e ∈ m := by
  induction m with
  | nil => simpa [Memory.insert] using h
  | cons f t ih =>
    unfold Memory.insert at h
    split_ifs at h
    · simpa using h
    · rcases List.mem_cons.1 h with h | h
      · exact .inl h
      · exact .inr (List.mem_cons_of_mem _ h)
    · rcases List.mem_cons.1 h with h | h
      · exact .inr (by simp [h])
      · rcases ih h with h | h
        · exact .inl h
        · exact .inr (List.mem_cons_of_mem _ h)

theorem Memory.wf_insert {m : Memory} (k : Nat) {v : BitVec 8} (hv : v ≠ 0) (h : m.wf = true) : (m.insert k v).wf = true := by
  rw [Memory.wf_iff] at *
  obtain ⟨h1, h2⟩ := h
  refine ⟨?_, fun e he => ?_⟩
  · induction m with
    | nil => simp [Memory.insert]
    | cons f t ih =>
      obtain ⟨ha, hb⟩ := List.pairwise_cons.1 h1
      unfold Memory.insert
      split_ifs with c1 c2
      · refine List.pairwise_cons.2 ⟨fun g hg => ?_, h1⟩
        rcases List.mem_cons.1 hg with rfl | hg
        · exact c1
        · exact lt_trans c1 (ha g hg)
      · refine List.pairwise_cons.2 ⟨fun g hg => ?_, hb⟩
        have := ha g hg
        simp only at *
        omega
      · refine List.pairwise_cons.2 ⟨fun g hg => ?_, ih hb fun e he => h2 e (List.mem_cons_of_mem _ he)⟩
        rcases Memory.mem_insert hg with rfl | hg
        · simp only
          omega
        · exact ha g hg
  · rcases Memory.mem_insert he with rfl | he
    · exact hv
    · exact h2 e he

/-- A write keeps the canonical form. -/
theorem Memory.wf_write {m : Memory} (k : Nat) (v : BitVec 8) (h : m.wf = true) : (m.write k v).wf = true := by
  unfold Memory.write
  split_ifs with hv
  · exact Memory.wf_filter _ h
  · exact Memory.wf_insert k hv h

theorem Memory.wf_writeList (l : List (BitVec 8)) {m : Memory} (k : Nat) (h : m.wf = true) : (m.writeList k l).wf = true := by
  induction l generalizing m k with
  | nil => exact h
  | cons v t ih => exact ih (k + 1) (Memory.wf_write k v h)

theorem Memory.wf_clear {m : Memory} (p : Nat → Bool) (h : m.wf = true) : (m.clear p).wf = true := Memory.wf_filter _ h

end Sys2Proof.Machine
end

