-- ==== Sys2Proof/Laws/State.lean ====
section
/-!
SUPPORT. Laws of the state: what each update leaves alone, field by field, and what a register field reads after an update. The
updates of a register field all come down to `State.set`.
-/

namespace Sys2Proof.Machine

set_option Elab.async false

variable (s : State)

/-! ## The updates in terms of `State.set` -/

@[simp] theorem State.setMany_nil (i : Nat) : s.setMany i [] = s := rfl
@[simp] theorem State.setMany_cons (i : Nat) (e : Field × Nat) (l : List (Field × Nat)) :
    s.setMany i (e :: l) = (s.set e.1 i e.2).setMany i l := rfl
theorem State.add_eq (f : Field) (i n : Nat) : s.add f i n = s.set f i (s.get f i + n) := rfl
theorem State.bump_eq (f : Field) (i : Nat) : s.bump f i = s.set f i (s.get f i + 1) := rfl
theorem State.dec_eq (f : Field) (i : Nat) : s.dec f i = s.set f i (s.get f i - 1) := rfl
theorem State.setI_eq (f : Field) (i : Nat) (x : Int) : s.setI f i x = s.set f i (uns f.width x) := rfl
theorem State.setBit_eq (f : Field) (i b : Nat) (v : Bool) : s.setBit f i b v = s.set f i (withBit (s.get f i) b v) := rfl
theorem State.unset_eq (f : Field) (i : Nat) : s.unset f i = s.set f i (f.rst i) := rfl

/-! ## `State.set` -/

@[simp] theorem State.set_shadow (f : Field) (i v : Nat) : (s.set f i v).shadow = s.shadow := (rfl)
@[simp] theorem State.set_cap (f : Field) (i v : Nat) : (s.set f i v).cap = s.cap := (rfl)
@[simp] theorem State.set_mem (f : Field) (i v : Nat) : (s.set f i v).mem = s.mem := (rfl)
@[simp] theorem State.set_rdata (f : Field) (i v : Nat) : (s.set f i v).rdata = s.rdata := (rfl)
@[simp] theorem State.set_out (f : Field) (i v : Nat) : (s.set f i v).out = s.out := (rfl)
@[simp] theorem State.set_fresh (f : Field) (i v : Nat) : (s.set f i v).fresh = s.fresh := (rfl)
@[simp] theorem State.set_aonNs (f : Field) (i v : Nat) : (s.set f i v).aonNs = s.aonNs := (rfl)
@[simp] theorem State.set_live (f : Field) (i v : Nat) : (s.set f i v).live = s.live := (rfl)
@[simp] theorem State.set_ring (f : Field) (i v : Nat) : (s.set f i v).ring = s.ring := (rfl)
@[simp] theorem State.set_dumps (f : Field) (i v : Nat) : (s.set f i v).dumps = s.dumps := (rfl)
@[simp] theorem State.set_lmem (f : Field) (i v : Nat) : (s.set f i v).lmem = s.lmem := (rfl)
@[simp] theorem State.set_lanes (f : Field) (i v : Nat) : (s.set f i v).lanes = s.lanes := (rfl)
@[simp] theorem State.set_frames (f : Field) (i v : Nat) : (s.set f i v).frames = s.frames := (rfl)
@[simp] theorem State.set_waiting (f : Field) (i v : Nat) : (s.set f i v).waiting = s.waiting := (rfl)
@[simp] theorem State.set_engines (f : Field) (i v : Nat) : (s.set f i v).engines = s.engines := (rfl)
@[simp] theorem State.set_results (f : Field) (i v : Nat) : (s.set f i v).results = s.results := (rfl)
@[simp] theorem State.set_iters (f : Field) (i v : Nat) : (s.set f i v).iters = s.iters := (rfl)
@[simp] theorem State.set_hlkTx (f : Field) (i v : Nat) : (s.set f i v).hlkTx = s.hlkTx := (rfl)
@[simp] theorem State.set_ops (f : Field) (i v : Nat) : (s.set f i v).ops = s.ops := (rfl)
@[simp] theorem State.set_jobs (f : Field) (i v : Nat) : (s.set f i v).jobs = s.jobs := (rfl)
@[simp] theorem State.set_rows (f : Field) (i v : Nat) : (s.set f i v).rows = s.rows := (rfl)
@[simp] theorem State.set_ra (f : Field) (i v : Nat) : (s.set f i v).ra = s.ra := (rfl)
@[simp] theorem State.set_raRow (f : Field) (i v : Nat) : (s.set f i v).raRow = s.raRow := (rfl)
@[simp] theorem State.set_ended (f : Field) (i v : Nat) : (s.set f i v).ended = s.ended := (rfl)
@[simp] theorem State.set_fronts (f : Field) (i v : Nat) : (s.set f i v).fronts = s.fronts := (rfl)
@[simp] theorem State.set_descs (f : Field) (i v : Nat) : (s.set f i v).descs = s.descs := (rfl)
@[simp] theorem State.set_skips (f : Field) (i v : Nat) : (s.set f i v).skips = s.skips := (rfl)
@[simp] theorem State.set_wins (f : Field) (i v : Nat) : (s.set f i v).wins = s.wins := (rfl)
@[simp] theorem State.set_acd (f : Field) (i v : Nat) : (s.set f i v).acd = s.acd := (rfl)
@[simp] theorem State.set_zones (f : Field) (i v : Nat) : (s.set f i v).zones = s.zones := (rfl)
@[simp] theorem State.set_media (f : Field) (i v : Nat) : (s.set f i v).media = s.media := (rfl)
@[simp] theorem State.set_mbox (f : Field) (i v : Nat) : (s.set f i v).mbox = s.mbox := (rfl)
@[simp] theorem State.set_word (f : Field) (i v : Nat) : (s.set f i v).word = s.word := (rfl)
@[simp] theorem State.set_cs (f : Field) (i v : Nat) : (s.set f i v).cs = s.cs := (rfl)
@[simp] theorem State.set_csBad (f : Field) (i v : Nat) : (s.set f i v).csBad = s.csBad := (rfl)
@[simp] theorem State.set_images (f : Field) (i v : Nat) : (s.set f i v).images = s.images := (rfl)
@[simp] theorem State.set_ports (f : Field) (i v : Nat) : (s.set f i v).ports = s.ports := (rfl)
@[simp] theorem State.set_cands (f : Field) (i v : Nat) : (s.set f i v).cands = s.cands := (rfl)
@[simp] theorem State.set_stage (f : Field) (i v : Nat) : (s.set f i v).stage = s.stage := (rfl)
@[simp] theorem State.set_sil (f : Field) (i v : Nat) : (s.set f i v).sil = s.sil := (rfl)
@[simp] theorem State.set_sqs (f : Field) (i v : Nat) : (s.set f i v).sqs = s.sqs := (rfl)
@[simp] theorem State.set_cqs (f : Field) (i v : Nat) : (s.set f i v).cqs = s.cqs := (rfl)
@[simp] theorem State.set_cmds (f : Field) (i v : Nat) : (s.set f i v).cmds = s.cmds := (rfl)
@[simp] theorem State.set_cpls (f : Field) (i v : Nat) : (s.set f i v).cpls = s.cpls := (rfl)
@[simp] theorem State.set_events (f : Field) (i v : Nat) : (s.set f i v).events = s.events := (rfl)
@[simp] theorem State.set_evMask (f : Field) (i v : Nat) : (s.set f i v).evMask = s.evMask := (rfl)
@[simp] theorem State.set_errs (f : Field) (i v : Nat) : (s.set f i v).errs = s.errs := (rfl)
@[simp] theorem State.set_changed (f : Field) (i v : Nat) : (s.set f i v).changed = s.changed := (rfl)
@[simp] theorem State.set_tags (f : Field) (i v : Nat) : (s.set f i v).tags = s.tags := (rfl)
@[simp] theorem State.set_quar (f : Field) (i v : Nat) : (s.set f i v).quar = s.quar := (rfl)
@[simp] theorem State.set_linger (f : Field) (i v : Nat) : (s.set f i v).linger = s.linger := (rfl)
@[simp] theorem State.set_shelf (f : Field) (i v : Nat) : (s.set f i v).shelf = s.shelf := (rfl)
@[simp] theorem State.set_peers (f : Field) (i v : Nat) : (s.set f i v).peers = s.peers := (rfl)
@[simp] theorem State.set_slips (f : Field) (i v : Nat) : (s.set f i v).slips = s.slips := (rfl)
@[simp] theorem State.set_harvest (f : Field) (i v : Nat) : (s.set f i v).harvest = s.harvest := (rfl)
@[simp] theorem State.set_fwMiss (f : Field) (i v : Nat) : (s.set f i v).fwMiss = s.fwMiss := (rfl)
@[simp] theorem State.set_dnQ (f : Field) (i v : Nat) : (s.set f i v).dnQ = s.dnQ := (rfl)
@[simp] theorem State.set_upReply (f : Field) (i v : Nat) : (s.set f i v).upReply = s.upReply := (rfl)
@[simp] theorem State.set_hellos (f : Field) (i v : Nat) : (s.set f i v).hellos = s.hellos := (rfl)
@[simp] theorem State.set_merge (f : Field) (i v : Nat) : (s.set f i v).merge = s.merge := (rfl)
@[simp] theorem State.set_prefill (f : Field) (i v : Nat) : (s.set f i v).prefill = s.prefill := (rfl)
@[simp] theorem State.set_chkx (f : Field) (i v : Nat) : (s.set f i v).chkx = s.chkx := (rfl)
@[simp] theorem State.set_fillQ (f : Field) (i v : Nat) : (s.set f i v).fillQ = s.fillQ := (rfl)
@[simp] theorem State.set_elog (f : Field) (i v : Nat) : (s.set f i v).elog = s.elog := (rfl)
@[simp] theorem State.set_retire (f : Field) (i v : Nat) : (s.set f i v).retire = s.retire := (rfl)
@[simp] theorem State.set_tables (f : Field) (i v : Nat) : (s.set f i v).tables = s.tables := (rfl)
@[simp] theorem State.set_norWait (f : Field) (i v : Nat) : (s.set f i v).norWait = s.norWait := (rfl)
@[simp] theorem State.set_pending (f : Field) (i v : Nat) : (s.set f i v).pending = s.pending := (rfl)

/-! ## `State.setSh` -/

@[simp] theorem State.setSh_regs (f : Field) (i v : Nat) : (s.setSh f i v).regs = s.regs := (rfl)
@[simp] theorem State.setSh_cap (f : Field) (i v : Nat) : (s.setSh f i v).cap = s.cap := (rfl)
@[simp] theorem State.setSh_mem (f : Field) (i v : Nat) : (s.setSh f i v).mem = s.mem := (rfl)
@[simp] theorem State.setSh_rdata (f : Field) (i v : Nat) : (s.setSh f i v).rdata = s.rdata := (rfl)
@[simp] theorem State.setSh_out (f : Field) (i v : Nat) : (s.setSh f i v).out = s.out := (rfl)
@[simp] theorem State.setSh_fresh (f : Field) (i v : Nat) : (s.setSh f i v).fresh = s.fresh := (rfl)
@[simp] theorem State.setSh_aonNs (f : Field) (i v : Nat) : (s.setSh f i v).aonNs = s.aonNs := (rfl)
@[simp] theorem State.setSh_live (f : Field) (i v : Nat) : (s.setSh f i v).live = s.live := (rfl)
@[simp] theorem State.setSh_ring (f : Field) (i v : Nat) : (s.setSh f i v).ring = s.ring := (rfl)
@[simp] theorem State.setSh_dumps (f : Field) (i v : Nat) : (s.setSh f i v).dumps = s.dumps := (rfl)
@[simp] theorem State.setSh_lmem (f : Field) (i v : Nat) : (s.setSh f i v).lmem = s.lmem := (rfl)
@[simp] theorem State.setSh_lanes (f : Field) (i v : Nat) : (s.setSh f i v).lanes = s.lanes := (rfl)
@[simp] theorem State.setSh_frames (f : Field) (i v : Nat) : (s.setSh f i v).frames = s.frames := (rfl)
@[simp] theorem State.setSh_waiting (f : Field) (i v : Nat) : (s.setSh f i v).waiting = s.waiting := (rfl)
@[simp] theorem State.setSh_engines (f : Field) (i v : Nat) : (s.setSh f i v).engines = s.engines := (rfl)
@[simp] theorem State.setSh_results (f : Field) (i v : Nat) : (s.setSh f i v).results = s.results := (rfl)
@[simp] theorem State.setSh_iters (f : Field) (i v : Nat) : (s.setSh f i v).iters = s.iters := (rfl)
@[simp] theorem State.setSh_hlkTx (f : Field) (i v : Nat) : (s.setSh f i v).hlkTx = s.hlkTx := (rfl)
@[simp] theorem State.setSh_ops (f : Field) (i v : Nat) : (s.setSh f i v).ops = s.ops := (rfl)
@[simp] theorem State.setSh_jobs (f : Field) (i v : Nat) : (s.setSh f i v).jobs = s.jobs := (rfl)
@[simp] theorem State.setSh_rows (f : Field) (i v : Nat) : (s.setSh f i v).rows = s.rows := (rfl)
@[simp] theorem State.setSh_ra (f : Field) (i v : Nat) : (s.setSh f i v).ra = s.ra := (rfl)
@[simp] theorem State.setSh_raRow (f : Field) (i v : Nat) : (s.setSh f i v).raRow = s.raRow := (rfl)
@[simp] theorem State.setSh_ended (f : Field) (i v : Nat) : (s.setSh f i v).ended = s.ended := (rfl)
@[simp] theorem State.setSh_fronts (f : Field) (i v : Nat) : (s.setSh f i v).fronts = s.fronts := (rfl)
@[simp] theorem State.setSh_descs (f : Field) (i v : Nat) : (s.setSh f i v).descs = s.descs := (rfl)
@[simp] theorem State.setSh_skips (f : Field) (i v : Nat) : (s.setSh f i v).skips = s.skips := (rfl)
@[simp] theorem State.setSh_wins (f : Field) (i v : Nat) : (s.setSh f i v).wins = s.wins := (rfl)
@[simp] theorem State.setSh_acd (f : Field) (i v : Nat) : (s.setSh f i v).acd = s.acd := (rfl)
@[simp] theorem State.setSh_zones (f : Field) (i v : Nat) : (s.setSh f i v).zones = s.zones := (rfl)
@[simp] theorem State.setSh_media (f : Field) (i v : Nat) : (s.setSh f i v).media = s.media := (rfl)
@[simp] theorem State.setSh_mbox (f : Field) (i v : Nat) : (s.setSh f i v).mbox = s.mbox := (rfl)
@[simp] theorem State.setSh_word (f : Field) (i v : Nat) : (s.setSh f i v).word = s.word := (rfl)
@[simp] theorem State.setSh_cs (f : Field) (i v : Nat) : (s.setSh f i v).cs = s.cs := (rfl)
@[simp] theorem State.setSh_csBad (f : Field) (i v : Nat) : (s.setSh f i v).csBad = s.csBad := (rfl)
@[simp] theorem State.setSh_images (f : Field) (i v : Nat) : (s.setSh f i v).images = s.images := (rfl)
@[simp] theorem State.setSh_ports (f : Field) (i v : Nat) : (s.setSh f i v).ports = s.ports := (rfl)
@[simp] theorem State.setSh_cands (f : Field) (i v : Nat) : (s.setSh f i v).cands = s.cands := (rfl)
@[simp] theorem State.setSh_stage (f : Field) (i v : Nat) : (s.setSh f i v).stage = s.stage := (rfl)
@[simp] theorem State.setSh_sil (f : Field) (i v : Nat) : (s.setSh f i v).sil = s.sil := (rfl)
@[simp] theorem State.setSh_sqs (f : Field) (i v : Nat) : (s.setSh f i v).sqs = s.sqs := (rfl)
@[simp] theorem State.setSh_cqs (f : Field) (i v : Nat) : (s.setSh f i v).cqs = s.cqs := (rfl)
@[simp] theorem State.setSh_cmds (f : Field) (i v : Nat) : (s.setSh f i v).cmds = s.cmds := (rfl)
@[simp] theorem State.setSh_cpls (f : Field) (i v : Nat) : (s.setSh f i v).cpls = s.cpls := (rfl)
@[simp] theorem State.setSh_events (f : Field) (i v : Nat) : (s.setSh f i v).events = s.events := (rfl)
@[simp] theorem State.setSh_evMask (f : Field) (i v : Nat) : (s.setSh f i v).evMask = s.evMask := (rfl)
@[simp] theorem State.setSh_errs (f : Field) (i v : Nat) : (s.setSh f i v).errs = s.errs := (rfl)
@[simp] theorem State.setSh_changed (f : Field) (i v : Nat) : (s.setSh f i v).changed = s.changed := (rfl)
@[simp] theorem State.setSh_tags (f : Field) (i v : Nat) : (s.setSh f i v).tags = s.tags := (rfl)
@[simp] theorem State.setSh_quar (f : Field) (i v : Nat) : (s.setSh f i v).quar = s.quar := (rfl)
@[simp] theorem State.setSh_linger (f : Field) (i v : Nat) : (s.setSh f i v).linger = s.linger := (rfl)
@[simp] theorem State.setSh_shelf (f : Field) (i v : Nat) : (s.setSh f i v).shelf = s.shelf := (rfl)
@[simp] theorem State.setSh_peers (f : Field) (i v : Nat) : (s.setSh f i v).peers = s.peers := (rfl)
@[simp] theorem State.setSh_slips (f : Field) (i v : Nat) : (s.setSh f i v).slips = s.slips := (rfl)
@[simp] theorem State.setSh_harvest (f : Field) (i v : Nat) : (s.setSh f i v).harvest = s.harvest := (rfl)
@[simp] theorem State.setSh_fwMiss (f : Field) (i v : Nat) : (s.setSh f i v).fwMiss = s.fwMiss := (rfl)
@[simp] theorem State.setSh_dnQ (f : Field) (i v : Nat) : (s.setSh f i v).dnQ = s.dnQ := (rfl)
@[simp] theorem State.setSh_upReply (f : Field) (i v : Nat) : (s.setSh f i v).upReply = s.upReply := (rfl)
@[simp] theorem State.setSh_hellos (f : Field) (i v : Nat) : (s.setSh f i v).hellos = s.hellos := (rfl)
@[simp] theorem State.setSh_merge (f : Field) (i v : Nat) : (s.setSh f i v).merge = s.merge := (rfl)
@[simp] theorem State.setSh_prefill (f : Field) (i v : Nat) : (s.setSh f i v).prefill = s.prefill := (rfl)
@[simp] theorem State.setSh_chkx (f : Field) (i v : Nat) : (s.setSh f i v).chkx = s.chkx := (rfl)
@[simp] theorem State.setSh_fillQ (f : Field) (i v : Nat) : (s.setSh f i v).fillQ = s.fillQ := (rfl)
@[simp] theorem State.setSh_elog (f : Field) (i v : Nat) : (s.setSh f i v).elog = s.elog := (rfl)
@[simp] theorem State.setSh_retire (f : Field) (i v : Nat) : (s.setSh f i v).retire = s.retire := (rfl)
@[simp] theorem State.setSh_tables (f : Field) (i v : Nat) : (s.setSh f i v).tables = s.tables := (rfl)
@[simp] theorem State.setSh_norWait (f : Field) (i v : Nat) : (s.setSh f i v).norWait = s.norWait := (rfl)
@[simp] theorem State.setSh_pending (f : Field) (i v : Nat) : (s.setSh f i v).pending = s.pending := (rfl)

/-! ## `State.emit` -/

@[simp] theorem State.emit_regs (o : Out) : (s.emit o).regs = s.regs := (rfl)
@[simp] theorem State.emit_shadow (o : Out) : (s.emit o).shadow = s.shadow := (rfl)
@[simp] theorem State.emit_cap (o : Out) : (s.emit o).cap = s.cap := (rfl)
@[simp] theorem State.emit_mem (o : Out) : (s.emit o).mem = s.mem := (rfl)
@[simp] theorem State.emit_rdata (o : Out) : (s.emit o).rdata = s.rdata := (rfl)
@[simp] theorem State.emit_fresh (o : Out) : (s.emit o).fresh = s.fresh := (rfl)
@[simp] theorem State.emit_aonNs (o : Out) : (s.emit o).aonNs = s.aonNs := (rfl)
@[simp] theorem State.emit_live (o : Out) : (s.emit o).live = s.live := (rfl)
@[simp] theorem State.emit_ring (o : Out) : (s.emit o).ring = s.ring := (rfl)
@[simp] theorem State.emit_dumps (o : Out) : (s.emit o).dumps = s.dumps := (rfl)
@[simp] theorem State.emit_lmem (o : Out) : (s.emit o).lmem = s.lmem := (rfl)
@[simp] theorem State.emit_lanes (o : Out) : (s.emit o).lanes = s.lanes := (rfl)
@[simp] theorem State.emit_frames (o : Out) : (s.emit o).frames = s.frames := (rfl)
@[simp] theorem State.emit_waiting (o : Out) : (s.emit o).waiting = s.waiting := (rfl)
@[simp] theorem State.emit_engines (o : Out) : (s.emit o).engines = s.engines := (rfl)
@[simp] theorem State.emit_results (o : Out) : (s.emit o).results = s.results := (rfl)
@[simp] theorem State.emit_iters (o : Out) : (s.emit o).iters = s.iters := (rfl)
@[simp] theorem State.emit_hlkTx (o : Out) : (s.emit o).hlkTx = s.hlkTx := (rfl)
@[simp] theorem State.emit_ops (o : Out) : (s.emit o).ops = s.ops := (rfl)
@[simp] theorem State.emit_jobs (o : Out) : (s.emit o).jobs = s.jobs := (rfl)
@[simp] theorem State.emit_rows (o : Out) : (s.emit o).rows = s.rows := (rfl)
@[simp] theorem State.emit_ra (o : Out) : (s.emit o).ra = s.ra := (rfl)
@[simp] theorem State.emit_raRow (o : Out) : (s.emit o).raRow = s.raRow := (rfl)
@[simp] theorem State.emit_ended (o : Out) : (s.emit o).ended = s.ended := (rfl)
@[simp] theorem State.emit_fronts (o : Out) : (s.emit o).fronts = s.fronts := (rfl)
@[simp] theorem State.emit_descs (o : Out) : (s.emit o).descs = s.descs := (rfl)
@[simp] theorem State.emit_skips (o : Out) : (s.emit o).skips = s.skips := (rfl)
@[simp] theorem State.emit_wins (o : Out) : (s.emit o).wins = s.wins := (rfl)
@[simp] theorem State.emit_acd (o : Out) : (s.emit o).acd = s.acd := (rfl)
@[simp] theorem State.emit_zones (o : Out) : (s.emit o).zones = s.zones := (rfl)
@[simp] theorem State.emit_media (o : Out) : (s.emit o).media = s.media := (rfl)
@[simp] theorem State.emit_mbox (o : Out) : (s.emit o).mbox = s.mbox := (rfl)
@[simp] theorem State.emit_word (o : Out) : (s.emit o).word = s.word := (rfl)
@[simp] theorem State.emit_cs (o : Out) : (s.emit o).cs = s.cs := (rfl)
@[simp] theorem State.emit_csBad (o : Out) : (s.emit o).csBad = s.csBad := (rfl)
@[simp] theorem State.emit_images (o : Out) : (s.emit o).images = s.images := (rfl)
@[simp] theorem State.emit_ports (o : Out) : (s.emit o).ports = s.ports := (rfl)
@[simp] theorem State.emit_cands (o : Out) : (s.emit o).cands = s.cands := (rfl)
@[simp] theorem State.emit_stage (o : Out) : (s.emit o).stage = s.stage := (rfl)
@[simp] theorem State.emit_sil (o : Out) : (s.emit o).sil = s.sil := (rfl)
@[simp] theorem State.emit_sqs (o : Out) : (s.emit o).sqs = s.sqs := (rfl)
@[simp] theorem State.emit_cqs (o : Out) : (s.emit o).cqs = s.cqs := (rfl)
@[simp] theorem State.emit_cmds (o : Out) : (s.emit o).cmds = s.cmds := (rfl)
@[simp] theorem State.emit_cpls (o : Out) : (s.emit o).cpls = s.cpls := (rfl)
@[simp] theorem State.emit_events (o : Out) : (s.emit o).events = s.events := (rfl)
@[simp] theorem State.emit_evMask (o : Out) : (s.emit o).evMask = s.evMask := (rfl)
@[simp] theorem State.emit_errs (o : Out) : (s.emit o).errs = s.errs := (rfl)
@[simp] theorem State.emit_changed (o : Out) : (s.emit o).changed = s.changed := (rfl)
@[simp] theorem State.emit_tags (o : Out) : (s.emit o).tags = s.tags := (rfl)
@[simp] theorem State.emit_quar (o : Out) : (s.emit o).quar = s.quar := (rfl)
@[simp] theorem State.emit_linger (o : Out) : (s.emit o).linger = s.linger := (rfl)
@[simp] theorem State.emit_shelf (o : Out) : (s.emit o).shelf = s.shelf := (rfl)
@[simp] theorem State.emit_peers (o : Out) : (s.emit o).peers = s.peers := (rfl)
@[simp] theorem State.emit_slips (o : Out) : (s.emit o).slips = s.slips := (rfl)
@[simp] theorem State.emit_harvest (o : Out) : (s.emit o).harvest = s.harvest := (rfl)
@[simp] theorem State.emit_fwMiss (o : Out) : (s.emit o).fwMiss = s.fwMiss := (rfl)
@[simp] theorem State.emit_dnQ (o : Out) : (s.emit o).dnQ = s.dnQ := (rfl)
@[simp] theorem State.emit_upReply (o : Out) : (s.emit o).upReply = s.upReply := (rfl)
@[simp] theorem State.emit_hellos (o : Out) : (s.emit o).hellos = s.hellos := (rfl)
@[simp] theorem State.emit_merge (o : Out) : (s.emit o).merge = s.merge := (rfl)
@[simp] theorem State.emit_prefill (o : Out) : (s.emit o).prefill = s.prefill := (rfl)
@[simp] theorem State.emit_chkx (o : Out) : (s.emit o).chkx = s.chkx := (rfl)
@[simp] theorem State.emit_fillQ (o : Out) : (s.emit o).fillQ = s.fillQ := (rfl)
@[simp] theorem State.emit_elog (o : Out) : (s.emit o).elog = s.elog := (rfl)
@[simp] theorem State.emit_retire (o : Out) : (s.emit o).retire = s.retire := (rfl)
@[simp] theorem State.emit_tables (o : Out) : (s.emit o).tables = s.tables := (rfl)
@[simp] theorem State.emit_norWait (o : Out) : (s.emit o).norWait = s.norWait := (rfl)
@[simp] theorem State.emit_pending (o : Out) : (s.emit o).pending = s.pending := (rfl)

/-! ## `State.ret` -/

@[simp] theorem State.ret_regs (v : Nat) : (s.ret v).regs = s.regs := (rfl)
@[simp] theorem State.ret_shadow (v : Nat) : (s.ret v).shadow = s.shadow := (rfl)
@[simp] theorem State.ret_cap (v : Nat) : (s.ret v).cap = s.cap := (rfl)
@[simp] theorem State.ret_mem (v : Nat) : (s.ret v).mem = s.mem := (rfl)
@[simp] theorem State.ret_out (v : Nat) : (s.ret v).out = s.out := (rfl)
@[simp] theorem State.ret_fresh (v : Nat) : (s.ret v).fresh = s.fresh := (rfl)
@[simp] theorem State.ret_aonNs (v : Nat) : (s.ret v).aonNs = s.aonNs := (rfl)
@[simp] theorem State.ret_live (v : Nat) : (s.ret v).live = s.live := (rfl)
@[simp] theorem State.ret_ring (v : Nat) : (s.ret v).ring = s.ring := (rfl)
@[simp] theorem State.ret_dumps (v : Nat) : (s.ret v).dumps = s.dumps := (rfl)
@[simp] theorem State.ret_lmem (v : Nat) : (s.ret v).lmem = s.lmem := (rfl)
@[simp] theorem State.ret_lanes (v : Nat) : (s.ret v).lanes = s.lanes := (rfl)
@[simp] theorem State.ret_frames (v : Nat) : (s.ret v).frames = s.frames := (rfl)
@[simp] theorem State.ret_waiting (v : Nat) : (s.ret v).waiting = s.waiting := (rfl)
@[simp] theorem State.ret_engines (v : Nat) : (s.ret v).engines = s.engines := (rfl)
@[simp] theorem State.ret_results (v : Nat) : (s.ret v).results = s.results := (rfl)
@[simp] theorem State.ret_iters (v : Nat) : (s.ret v).iters = s.iters := (rfl)
@[simp] theorem State.ret_hlkTx (v : Nat) : (s.ret v).hlkTx = s.hlkTx := (rfl)
@[simp] theorem State.ret_ops (v : Nat) : (s.ret v).ops = s.ops := (rfl)
@[simp] theorem State.ret_jobs (v : Nat) : (s.ret v).jobs = s.jobs := (rfl)
@[simp] theorem State.ret_rows (v : Nat) : (s.ret v).rows = s.rows := (rfl)
@[simp] theorem State.ret_ra (v : Nat) : (s.ret v).ra = s.ra := (rfl)
@[simp] theorem State.ret_raRow (v : Nat) : (s.ret v).raRow = s.raRow := (rfl)
@[simp] theorem State.ret_ended (v : Nat) : (s.ret v).ended = s.ended := (rfl)
@[simp] theorem State.ret_fronts (v : Nat) : (s.ret v).fronts = s.fronts := (rfl)
@[simp] theorem State.ret_descs (v : Nat) : (s.ret v).descs = s.descs := (rfl)
@[simp] theorem State.ret_skips (v : Nat) : (s.ret v).skips = s.skips := (rfl)
@[simp] theorem State.ret_wins (v : Nat) : (s.ret v).wins = s.wins := (rfl)
@[simp] theorem State.ret_acd (v : Nat) : (s.ret v).acd = s.acd := (rfl)
@[simp] theorem State.ret_zones (v : Nat) : (s.ret v).zones = s.zones := (rfl)
@[simp] theorem State.ret_media (v : Nat) : (s.ret v).media = s.media := (rfl)
@[simp] theorem State.ret_mbox (v : Nat) : (s.ret v).mbox = s.mbox := (rfl)
@[simp] theorem State.ret_word (v : Nat) : (s.ret v).word = s.word := (rfl)
@[simp] theorem State.ret_cs (v : Nat) : (s.ret v).cs = s.cs := (rfl)
@[simp] theorem State.ret_csBad (v : Nat) : (s.ret v).csBad = s.csBad := (rfl)
@[simp] theorem State.ret_images (v : Nat) : (s.ret v).images = s.images := (rfl)
@[simp] theorem State.ret_ports (v : Nat) : (s.ret v).ports = s.ports := (rfl)
@[simp] theorem State.ret_cands (v : Nat) : (s.ret v).cands = s.cands := (rfl)
@[simp] theorem State.ret_stage (v : Nat) : (s.ret v).stage = s.stage := (rfl)
@[simp] theorem State.ret_sil (v : Nat) : (s.ret v).sil = s.sil := (rfl)
@[simp] theorem State.ret_sqs (v : Nat) : (s.ret v).sqs = s.sqs := (rfl)
@[simp] theorem State.ret_cqs (v : Nat) : (s.ret v).cqs = s.cqs := (rfl)
@[simp] theorem State.ret_cmds (v : Nat) : (s.ret v).cmds = s.cmds := (rfl)
@[simp] theorem State.ret_cpls (v : Nat) : (s.ret v).cpls = s.cpls := (rfl)
@[simp] theorem State.ret_events (v : Nat) : (s.ret v).events = s.events := (rfl)
@[simp] theorem State.ret_evMask (v : Nat) : (s.ret v).evMask = s.evMask := (rfl)
@[simp] theorem State.ret_errs (v : Nat) : (s.ret v).errs = s.errs := (rfl)
@[simp] theorem State.ret_changed (v : Nat) : (s.ret v).changed = s.changed := (rfl)
@[simp] theorem State.ret_tags (v : Nat) : (s.ret v).tags = s.tags := (rfl)
@[simp] theorem State.ret_quar (v : Nat) : (s.ret v).quar = s.quar := (rfl)
@[simp] theorem State.ret_linger (v : Nat) : (s.ret v).linger = s.linger := (rfl)
@[simp] theorem State.ret_shelf (v : Nat) : (s.ret v).shelf = s.shelf := (rfl)
@[simp] theorem State.ret_peers (v : Nat) : (s.ret v).peers = s.peers := (rfl)
@[simp] theorem State.ret_slips (v : Nat) : (s.ret v).slips = s.slips := (rfl)
@[simp] theorem State.ret_harvest (v : Nat) : (s.ret v).harvest = s.harvest := (rfl)
@[simp] theorem State.ret_fwMiss (v : Nat) : (s.ret v).fwMiss = s.fwMiss := (rfl)
@[simp] theorem State.ret_dnQ (v : Nat) : (s.ret v).dnQ = s.dnQ := (rfl)
@[simp] theorem State.ret_upReply (v : Nat) : (s.ret v).upReply = s.upReply := (rfl)
@[simp] theorem State.ret_hellos (v : Nat) : (s.ret v).hellos = s.hellos := (rfl)
@[simp] theorem State.ret_merge (v : Nat) : (s.ret v).merge = s.merge := (rfl)
@[simp] theorem State.ret_prefill (v : Nat) : (s.ret v).prefill = s.prefill := (rfl)
@[simp] theorem State.ret_chkx (v : Nat) : (s.ret v).chkx = s.chkx := (rfl)
@[simp] theorem State.ret_fillQ (v : Nat) : (s.ret v).fillQ = s.fillQ := (rfl)
@[simp] theorem State.ret_elog (v : Nat) : (s.ret v).elog = s.elog := (rfl)
@[simp] theorem State.ret_retire (v : Nat) : (s.ret v).retire = s.retire := (rfl)
@[simp] theorem State.ret_tables (v : Nat) : (s.ret v).tables = s.tables := (rfl)
@[simp] theorem State.ret_norWait (v : Nat) : (s.ret v).norWait = s.norWait := (rfl)
@[simp] theorem State.ret_pending (v : Nat) : (s.ret v).pending = s.pending := (rfl)

/-! ## `State.used` -/

@[simp] theorem State.used_regs : s.used.regs = s.regs := (rfl)
@[simp] theorem State.used_shadow : s.used.shadow = s.shadow := (rfl)
@[simp] theorem State.used_cap : s.used.cap = s.cap := (rfl)
@[simp] theorem State.used_mem : s.used.mem = s.mem := (rfl)
@[simp] theorem State.used_rdata : s.used.rdata = s.rdata := (rfl)
@[simp] theorem State.used_out : s.used.out = s.out := (rfl)
@[simp] theorem State.used_aonNs : s.used.aonNs = s.aonNs := (rfl)
@[simp] theorem State.used_live : s.used.live = s.live := (rfl)
@[simp] theorem State.used_ring : s.used.ring = s.ring := (rfl)
@[simp] theorem State.used_dumps : s.used.dumps = s.dumps := (rfl)
@[simp] theorem State.used_lmem : s.used.lmem = s.lmem := (rfl)
@[simp] theorem State.used_lanes : s.used.lanes = s.lanes := (rfl)
@[simp] theorem State.used_frames : s.used.frames = s.frames := (rfl)
@[simp] theorem State.used_waiting : s.used.waiting = s.waiting := (rfl)
@[simp] theorem State.used_engines : s.used.engines = s.engines := (rfl)
@[simp] theorem State.used_results : s.used.results = s.results := (rfl)
@[simp] theorem State.used_iters : s.used.iters = s.iters := (rfl)
@[simp] theorem State.used_hlkTx : s.used.hlkTx = s.hlkTx := (rfl)
@[simp] theorem State.used_ops : s.used.ops = s.ops := (rfl)
@[simp] theorem State.used_jobs : s.used.jobs = s.jobs := (rfl)
@[simp] theorem State.used_rows : s.used.rows = s.rows := (rfl)
@[simp] theorem State.used_ra : s.used.ra = s.ra := (rfl)
@[simp] theorem State.used_raRow : s.used.raRow = s.raRow := (rfl)
@[simp] theorem State.used_ended : s.used.ended = s.ended := (rfl)
@[simp] theorem State.used_fronts : s.used.fronts = s.fronts := (rfl)
@[simp] theorem State.used_descs : s.used.descs = s.descs := (rfl)
@[simp] theorem State.used_skips : s.used.skips = s.skips := (rfl)
@[simp] theorem State.used_wins : s.used.wins = s.wins := (rfl)
@[simp] theorem State.used_acd : s.used.acd = s.acd := (rfl)
@[simp] theorem State.used_zones : s.used.zones = s.zones := (rfl)
@[simp] theorem State.used_media : s.used.media = s.media := (rfl)
@[simp] theorem State.used_mbox : s.used.mbox = s.mbox := (rfl)
@[simp] theorem State.used_word : s.used.word = s.word := (rfl)
@[simp] theorem State.used_cs : s.used.cs = s.cs := (rfl)
@[simp] theorem State.used_csBad : s.used.csBad = s.csBad := (rfl)
@[simp] theorem State.used_images : s.used.images = s.images := (rfl)
@[simp] theorem State.used_ports : s.used.ports = s.ports := (rfl)
@[simp] theorem State.used_cands : s.used.cands = s.cands := (rfl)
@[simp] theorem State.used_stage : s.used.stage = s.stage := (rfl)
@[simp] theorem State.used_sil : s.used.sil = s.sil := (rfl)
@[simp] theorem State.used_sqs : s.used.sqs = s.sqs := (rfl)
@[simp] theorem State.used_cqs : s.used.cqs = s.cqs := (rfl)
@[simp] theorem State.used_cmds : s.used.cmds = s.cmds := (rfl)
@[simp] theorem State.used_cpls : s.used.cpls = s.cpls := (rfl)
@[simp] theorem State.used_events : s.used.events = s.events := (rfl)
@[simp] theorem State.used_evMask : s.used.evMask = s.evMask := (rfl)
@[simp] theorem State.used_errs : s.used.errs = s.errs := (rfl)
@[simp] theorem State.used_changed : s.used.changed = s.changed := (rfl)
@[simp] theorem State.used_tags : s.used.tags = s.tags := (rfl)
@[simp] theorem State.used_quar : s.used.quar = s.quar := (rfl)
@[simp] theorem State.used_linger : s.used.linger = s.linger := (rfl)
@[simp] theorem State.used_shelf : s.used.shelf = s.shelf := (rfl)
@[simp] theorem State.used_peers : s.used.peers = s.peers := (rfl)
@[simp] theorem State.used_slips : s.used.slips = s.slips := (rfl)
@[simp] theorem State.used_harvest : s.used.harvest = s.harvest := (rfl)
@[simp] theorem State.used_fwMiss : s.used.fwMiss = s.fwMiss := (rfl)
@[simp] theorem State.used_dnQ : s.used.dnQ = s.dnQ := (rfl)
@[simp] theorem State.used_upReply : s.used.upReply = s.upReply := (rfl)
@[simp] theorem State.used_hellos : s.used.hellos = s.hellos := (rfl)
@[simp] theorem State.used_merge : s.used.merge = s.merge := (rfl)
@[simp] theorem State.used_prefill : s.used.prefill = s.prefill := (rfl)
@[simp] theorem State.used_chkx : s.used.chkx = s.chkx := (rfl)
@[simp] theorem State.used_fillQ : s.used.fillQ = s.fillQ := (rfl)
@[simp] theorem State.used_elog : s.used.elog = s.elog := (rfl)
@[simp] theorem State.used_retire : s.used.retire = s.retire := (rfl)
@[simp] theorem State.used_tables : s.used.tables = s.tables := (rfl)
@[simp] theorem State.used_norWait : s.used.norWait = s.norWait := (rfl)
@[simp] theorem State.used_pending : s.used.pending = s.pending := (rfl)

/-! ## `State.setZone` -/

@[simp] theorem State.setZone_regs (z : Nat) (r : Zone) : (s.setZone z r).regs = s.regs := (rfl)
@[simp] theorem State.setZone_shadow (z : Nat) (r : Zone) : (s.setZone z r).shadow = s.shadow := (rfl)
@[simp] theorem State.setZone_cap (z : Nat) (r : Zone) : (s.setZone z r).cap = s.cap := (rfl)
@[simp] theorem State.setZone_mem (z : Nat) (r : Zone) : (s.setZone z r).mem = s.mem := (rfl)
@[simp] theorem State.setZone_rdata (z : Nat) (r : Zone) : (s.setZone z r).rdata = s.rdata := (rfl)
@[simp] theorem State.setZone_out (z : Nat) (r : Zone) : (s.setZone z r).out = s.out := (rfl)
@[simp] theorem State.setZone_fresh (z : Nat) (r : Zone) : (s.setZone z r).fresh = s.fresh := (rfl)
@[simp] theorem State.setZone_aonNs (z : Nat) (r : Zone) : (s.setZone z r).aonNs = s.aonNs := (rfl)
@[simp] theorem State.setZone_live (z : Nat) (r : Zone) : (s.setZone z r).live = s.live := (rfl)
@[simp] theorem State.setZone_ring (z : Nat) (r : Zone) : (s.setZone z r).ring = s.ring := (rfl)
@[simp] theorem State.setZone_dumps (z : Nat) (r : Zone) : (s.setZone z r).dumps = s.dumps := (rfl)
@[simp] theorem State.setZone_lmem (z : Nat) (r : Zone) : (s.setZone z r).lmem = s.lmem := (rfl)
@[simp] theorem State.setZone_lanes (z : Nat) (r : Zone) : (s.setZone z r).lanes = s.lanes := (rfl)
@[simp] theorem State.setZone_frames (z : Nat) (r : Zone) : (s.setZone z r).frames = s.frames := (rfl)
@[simp] theorem State.setZone_waiting (z : Nat) (r : Zone) : (s.setZone z r).waiting = s.waiting := (rfl)
@[simp] theorem State.setZone_engines (z : Nat) (r : Zone) : (s.setZone z r).engines = s.engines := (rfl)
@[simp] theorem State.setZone_results (z : Nat) (r : Zone) : (s.setZone z r).results = s.results := (rfl)
@[simp] theorem State.setZone_iters (z : Nat) (r : Zone) : (s.setZone z r).iters = s.iters := (rfl)
@[simp] theorem State.setZone_hlkTx (z : Nat) (r : Zone) : (s.setZone z r).hlkTx = s.hlkTx := (rfl)
@[simp] theorem State.setZone_ops (z : Nat) (r : Zone) : (s.setZone z r).ops = s.ops := (rfl)
@[simp] theorem State.setZone_jobs (z : Nat) (r : Zone) : (s.setZone z r).jobs = s.jobs := (rfl)
@[simp] theorem State.setZone_rows (z : Nat) (r : Zone) : (s.setZone z r).rows = s.rows := (rfl)
@[simp] theorem State.setZone_ra (z : Nat) (r : Zone) : (s.setZone z r).ra = s.ra := (rfl)
@[simp] theorem State.setZone_raRow (z : Nat) (r : Zone) : (s.setZone z r).raRow = s.raRow := (rfl)
@[simp] theorem State.setZone_ended (z : Nat) (r : Zone) : (s.setZone z r).ended = s.ended := (rfl)
@[simp] theorem State.setZone_fronts (z : Nat) (r : Zone) : (s.setZone z r).fronts = s.fronts := (rfl)
@[simp] theorem State.setZone_descs (z : Nat) (r : Zone) : (s.setZone z r).descs = s.descs := (rfl)
@[simp] theorem State.setZone_skips (z : Nat) (r : Zone) : (s.setZone z r).skips = s.skips := (rfl)
@[simp] theorem State.setZone_wins (z : Nat) (r : Zone) : (s.setZone z r).wins = s.wins := (rfl)
@[simp] theorem State.setZone_acd (z : Nat) (r : Zone) : (s.setZone z r).acd = s.acd := (rfl)
@[simp] theorem State.setZone_media (z : Nat) (r : Zone) : (s.setZone z r).media = s.media := (rfl)
@[simp] theorem State.setZone_mbox (z : Nat) (r : Zone) : (s.setZone z r).mbox = s.mbox := (rfl)
@[simp] theorem State.setZone_word (z : Nat) (r : Zone) : (s.setZone z r).word = s.word := (rfl)
@[simp] theorem State.setZone_cs (z : Nat) (r : Zone) : (s.setZone z r).cs = s.cs := (rfl)
@[simp] theorem State.setZone_csBad (z : Nat) (r : Zone) : (s.setZone z r).csBad = s.csBad := (rfl)
@[simp] theorem State.setZone_images (z : Nat) (r : Zone) : (s.setZone z r).images = s.images := (rfl)
@[simp] theorem State.setZone_ports (z : Nat) (r : Zone) : (s.setZone z r).ports = s.ports := (rfl)
@[simp] theorem State.setZone_cands (z : Nat) (r : Zone) : (s.setZone z r).cands = s.cands := (rfl)
@[simp] theorem State.setZone_stage (z : Nat) (r : Zone) : (s.setZone z r).stage = s.stage := (rfl)
@[simp] theorem State.setZone_sil (z : Nat) (r : Zone) : (s.setZone z r).sil = s.sil := (rfl)
@[simp] theorem State.setZone_sqs (z : Nat) (r : Zone) : (s.setZone z r).sqs = s.sqs := (rfl)
@[simp] theorem State.setZone_cqs (z : Nat) (r : Zone) : (s.setZone z r).cqs = s.cqs := (rfl)
@[simp] theorem State.setZone_cmds (z : Nat) (r : Zone) : (s.setZone z r).cmds = s.cmds := (rfl)
@[simp] theorem State.setZone_cpls (z : Nat) (r : Zone) : (s.setZone z r).cpls = s.cpls := (rfl)
@[simp] theorem State.setZone_events (z : Nat) (r : Zone) : (s.setZone z r).events = s.events := (rfl)
@[simp] theorem State.setZone_evMask (z : Nat) (r : Zone) : (s.setZone z r).evMask = s.evMask := (rfl)
@[simp] theorem State.setZone_errs (z : Nat) (r : Zone) : (s.setZone z r).errs = s.errs := (rfl)
@[simp] theorem State.setZone_changed (z : Nat) (r : Zone) : (s.setZone z r).changed = s.changed := (rfl)
@[simp] theorem State.setZone_tags (z : Nat) (r : Zone) : (s.setZone z r).tags = s.tags := (rfl)
@[simp] theorem State.setZone_quar (z : Nat) (r : Zone) : (s.setZone z r).quar = s.quar := (rfl)
@[simp] theorem State.setZone_linger (z : Nat) (r : Zone) : (s.setZone z r).linger = s.linger := (rfl)
@[simp] theorem State.setZone_shelf (z : Nat) (r : Zone) : (s.setZone z r).shelf = s.shelf := (rfl)
@[simp] theorem State.setZone_peers (z : Nat) (r : Zone) : (s.setZone z r).peers = s.peers := (rfl)
@[simp] theorem State.setZone_slips (z : Nat) (r : Zone) : (s.setZone z r).slips = s.slips := (rfl)
@[simp] theorem State.setZone_harvest (z : Nat) (r : Zone) : (s.setZone z r).harvest = s.harvest := (rfl)
@[simp] theorem State.setZone_fwMiss (z : Nat) (r : Zone) : (s.setZone z r).fwMiss = s.fwMiss := (rfl)
@[simp] theorem State.setZone_dnQ (z : Nat) (r : Zone) : (s.setZone z r).dnQ = s.dnQ := (rfl)
@[simp] theorem State.setZone_upReply (z : Nat) (r : Zone) : (s.setZone z r).upReply = s.upReply := (rfl)
@[simp] theorem State.setZone_hellos (z : Nat) (r : Zone) : (s.setZone z r).hellos = s.hellos := (rfl)
@[simp] theorem State.setZone_merge (z : Nat) (r : Zone) : (s.setZone z r).merge = s.merge := (rfl)
@[simp] theorem State.setZone_prefill (z : Nat) (r : Zone) : (s.setZone z r).prefill = s.prefill := (rfl)
@[simp] theorem State.setZone_chkx (z : Nat) (r : Zone) : (s.setZone z r).chkx = s.chkx := (rfl)
@[simp] theorem State.setZone_fillQ (z : Nat) (r : Zone) : (s.setZone z r).fillQ = s.fillQ := (rfl)
@[simp] theorem State.setZone_elog (z : Nat) (r : Zone) : (s.setZone z r).elog = s.elog := (rfl)
@[simp] theorem State.setZone_retire (z : Nat) (r : Zone) : (s.setZone z r).retire = s.retire := (rfl)
@[simp] theorem State.setZone_tables (z : Nat) (r : Zone) : (s.setZone z r).tables = s.tables := (rfl)
@[simp] theorem State.setZone_norWait (z : Nat) (r : Zone) : (s.setZone z r).norWait = s.norWait := (rfl)
@[simp] theorem State.setZone_pending (z : Nat) (r : Zone) : (s.setZone z r).pending = s.pending := (rfl)

/-! ## `State.setLane` -/

@[simp] theorem State.setLane_regs (l : Nat) (q : LaneQ) : (s.setLane l q).regs = s.regs := (rfl)
@[simp] theorem State.setLane_shadow (l : Nat) (q : LaneQ) : (s.setLane l q).shadow = s.shadow := (rfl)
@[simp] theorem State.setLane_cap (l : Nat) (q : LaneQ) : (s.setLane l q).cap = s.cap := (rfl)
@[simp] theorem State.setLane_mem (l : Nat) (q : LaneQ) : (s.setLane l q).mem = s.mem := (rfl)
@[simp] theorem State.setLane_rdata (l : Nat) (q : LaneQ) : (s.setLane l q).rdata = s.rdata := (rfl)
@[simp] theorem State.setLane_out (l : Nat) (q : LaneQ) : (s.setLane l q).out = s.out := (rfl)
@[simp] theorem State.setLane_fresh (l : Nat) (q : LaneQ) : (s.setLane l q).fresh = s.fresh := (rfl)
@[simp] theorem State.setLane_aonNs (l : Nat) (q : LaneQ) : (s.setLane l q).aonNs = s.aonNs := (rfl)
@[simp] theorem State.setLane_live (l : Nat) (q : LaneQ) : (s.setLane l q).live = s.live := (rfl)
@[simp] theorem State.setLane_ring (l : Nat) (q : LaneQ) : (s.setLane l q).ring = s.ring := (rfl)
@[simp] theorem State.setLane_dumps (l : Nat) (q : LaneQ) : (s.setLane l q).dumps = s.dumps := (rfl)
@[simp] theorem State.setLane_lmem (l : Nat) (q : LaneQ) : (s.setLane l q).lmem = s.lmem := (rfl)
@[simp] theorem State.setLane_frames (l : Nat) (q : LaneQ) : (s.setLane l q).frames = s.frames := (rfl)
@[simp] theorem State.setLane_waiting (l : Nat) (q : LaneQ) : (s.setLane l q).waiting = s.waiting := (rfl)
@[simp] theorem State.setLane_engines (l : Nat) (q : LaneQ) : (s.setLane l q).engines = s.engines := (rfl)
@[simp] theorem State.setLane_results (l : Nat) (q : LaneQ) : (s.setLane l q).results = s.results := (rfl)
@[simp] theorem State.setLane_iters (l : Nat) (q : LaneQ) : (s.setLane l q).iters = s.iters := (rfl)
@[simp] theorem State.setLane_hlkTx (l : Nat) (q : LaneQ) : (s.setLane l q).hlkTx = s.hlkTx := (rfl)
@[simp] theorem State.setLane_ops (l : Nat) (q : LaneQ) : (s.setLane l q).ops = s.ops := (rfl)
@[simp] theorem State.setLane_jobs (l : Nat) (q : LaneQ) : (s.setLane l q).jobs = s.jobs := (rfl)
@[simp] theorem State.setLane_rows (l : Nat) (q : LaneQ) : (s.setLane l q).rows = s.rows := (rfl)
@[simp] theorem State.setLane_ra (l : Nat) (q : LaneQ) : (s.setLane l q).ra = s.ra := (rfl)
@[simp] theorem State.setLane_raRow (l : Nat) (q : LaneQ) : (s.setLane l q).raRow = s.raRow := (rfl)
@[simp] theorem State.setLane_ended (l : Nat) (q : LaneQ) : (s.setLane l q).ended = s.ended := (rfl)
@[simp] theorem State.setLane_fronts (l : Nat) (q : LaneQ) : (s.setLane l q).fronts = s.fronts := (rfl)
@[simp] theorem State.setLane_descs (l : Nat) (q : LaneQ) : (s.setLane l q).descs = s.descs := (rfl)
@[simp] theorem State.setLane_skips (l : Nat) (q : LaneQ) : (s.setLane l q).skips = s.skips := (rfl)
@[simp] theorem State.setLane_wins (l : Nat) (q : LaneQ) : (s.setLane l q).wins = s.wins := (rfl)
@[simp] theorem State.setLane_acd (l : Nat) (q : LaneQ) : (s.setLane l q).acd = s.acd := (rfl)
@[simp] theorem State.setLane_zones (l : Nat) (q : LaneQ) : (s.setLane l q).zones = s.zones := (rfl)
@[simp] theorem State.setLane_media (l : Nat) (q : LaneQ) : (s.setLane l q).media = s.media := (rfl)
@[simp] theorem State.setLane_mbox (l : Nat) (q : LaneQ) : (s.setLane l q).mbox = s.mbox := (rfl)
@[simp] theorem State.setLane_word (l : Nat) (q : LaneQ) : (s.setLane l q).word = s.word := (rfl)
@[simp] theorem State.setLane_cs (l : Nat) (q : LaneQ) : (s.setLane l q).cs = s.cs := (rfl)
@[simp] theorem State.setLane_csBad (l : Nat) (q : LaneQ) : (s.setLane l q).csBad = s.csBad := (rfl)
@[simp] theorem State.setLane_images (l : Nat) (q : LaneQ) : (s.setLane l q).images = s.images := (rfl)
@[simp] theorem State.setLane_ports (l : Nat) (q : LaneQ) : (s.setLane l q).ports = s.ports := (rfl)
@[simp] theorem State.setLane_cands (l : Nat) (q : LaneQ) : (s.setLane l q).cands = s.cands := (rfl)
@[simp] theorem State.setLane_stage (l : Nat) (q : LaneQ) : (s.setLane l q).stage = s.stage := (rfl)
@[simp] theorem State.setLane_sil (l : Nat) (q : LaneQ) : (s.setLane l q).sil = s.sil := (rfl)
@[simp] theorem State.setLane_sqs (l : Nat) (q : LaneQ) : (s.setLane l q).sqs = s.sqs := (rfl)
@[simp] theorem State.setLane_cqs (l : Nat) (q : LaneQ) : (s.setLane l q).cqs = s.cqs := (rfl)
@[simp] theorem State.setLane_cmds (l : Nat) (q : LaneQ) : (s.setLane l q).cmds = s.cmds := (rfl)
@[simp] theorem State.setLane_cpls (l : Nat) (q : LaneQ) : (s.setLane l q).cpls = s.cpls := (rfl)
@[simp] theorem State.setLane_events (l : Nat) (q : LaneQ) : (s.setLane l q).events = s.events := (rfl)
@[simp] theorem State.setLane_evMask (l : Nat) (q : LaneQ) : (s.setLane l q).evMask = s.evMask := (rfl)
@[simp] theorem State.setLane_errs (l : Nat) (q : LaneQ) : (s.setLane l q).errs = s.errs := (rfl)
@[simp] theorem State.setLane_changed (l : Nat) (q : LaneQ) : (s.setLane l q).changed = s.changed := (rfl)
@[simp] theorem State.setLane_tags (l : Nat) (q : LaneQ) : (s.setLane l q).tags = s.tags := (rfl)
@[simp] theorem State.setLane_quar (l : Nat) (q : LaneQ) : (s.setLane l q).quar = s.quar := (rfl)
@[simp] theorem State.setLane_linger (l : Nat) (q : LaneQ) : (s.setLane l q).linger = s.linger := (rfl)
@[simp] theorem State.setLane_shelf (l : Nat) (q : LaneQ) : (s.setLane l q).shelf = s.shelf := (rfl)
@[simp] theorem State.setLane_peers (l : Nat) (q : LaneQ) : (s.setLane l q).peers = s.peers := (rfl)
@[simp] theorem State.setLane_slips (l : Nat) (q : LaneQ) : (s.setLane l q).slips = s.slips := (rfl)
@[simp] theorem State.setLane_harvest (l : Nat) (q : LaneQ) : (s.setLane l q).harvest = s.harvest := (rfl)
@[simp] theorem State.setLane_fwMiss (l : Nat) (q : LaneQ) : (s.setLane l q).fwMiss = s.fwMiss := (rfl)
@[simp] theorem State.setLane_dnQ (l : Nat) (q : LaneQ) : (s.setLane l q).dnQ = s.dnQ := (rfl)
@[simp] theorem State.setLane_upReply (l : Nat) (q : LaneQ) : (s.setLane l q).upReply = s.upReply := (rfl)
@[simp] theorem State.setLane_hellos (l : Nat) (q : LaneQ) : (s.setLane l q).hellos = s.hellos := (rfl)
@[simp] theorem State.setLane_merge (l : Nat) (q : LaneQ) : (s.setLane l q).merge = s.merge := (rfl)
@[simp] theorem State.setLane_prefill (l : Nat) (q : LaneQ) : (s.setLane l q).prefill = s.prefill := (rfl)
@[simp] theorem State.setLane_chkx (l : Nat) (q : LaneQ) : (s.setLane l q).chkx = s.chkx := (rfl)
@[simp] theorem State.setLane_fillQ (l : Nat) (q : LaneQ) : (s.setLane l q).fillQ = s.fillQ := (rfl)
@[simp] theorem State.setLane_elog (l : Nat) (q : LaneQ) : (s.setLane l q).elog = s.elog := (rfl)
@[simp] theorem State.setLane_retire (l : Nat) (q : LaneQ) : (s.setLane l q).retire = s.retire := (rfl)
@[simp] theorem State.setLane_tables (l : Nat) (q : LaneQ) : (s.setLane l q).tables = s.tables := (rfl)
@[simp] theorem State.setLane_norWait (l : Nat) (q : LaneQ) : (s.setLane l q).norWait = s.norWait := (rfl)
@[simp] theorem State.setLane_pending (l : Nat) (q : LaneQ) : (s.setLane l q).pending = s.pending := (rfl)

/-! ## `State.setLinkQ` -/

@[simp] theorem State.setLinkQ_regs (a : Nat) (q : List HlkReq) : (s.setLinkQ a q).regs = s.regs := (rfl)
@[simp] theorem State.setLinkQ_shadow (a : Nat) (q : List HlkReq) : (s.setLinkQ a q).shadow = s.shadow := (rfl)
@[simp] theorem State.setLinkQ_cap (a : Nat) (q : List HlkReq) : (s.setLinkQ a q).cap = s.cap := (rfl)
@[simp] theorem State.setLinkQ_mem (a : Nat) (q : List HlkReq) : (s.setLinkQ a q).mem = s.mem := (rfl)
@[simp] theorem State.setLinkQ_rdata (a : Nat) (q : List HlkReq) : (s.setLinkQ a q).rdata = s.rdata := (rfl)
@[simp] theorem State.setLinkQ_out (a : Nat) (q : List HlkReq) : (s.setLinkQ a q).out = s.out := (rfl)
@[simp] theorem State.setLinkQ_fresh (a : Nat) (q : List HlkReq) : (s.setLinkQ a q).fresh = s.fresh := (rfl)
@[simp] theorem State.setLinkQ_aonNs (a : Nat) (q : List HlkReq) : (s.setLinkQ a q).aonNs = s.aonNs := (rfl)
@[simp] theorem State.setLinkQ_live (a : Nat) (q : List HlkReq) : (s.setLinkQ a q).live = s.live := (rfl)
@[simp] theorem State.setLinkQ_ring (a : Nat) (q : List HlkReq) : (s.setLinkQ a q).ring = s.ring := (rfl)
@[simp] theorem State.setLinkQ_dumps (a : Nat) (q : List HlkReq) : (s.setLinkQ a q).dumps = s.dumps := (rfl)
@[simp] theorem State.setLinkQ_lmem (a : Nat) (q : List HlkReq) : (s.setLinkQ a q).lmem = s.lmem := (rfl)
@[simp] theorem State.setLinkQ_lanes (a : Nat) (q : List HlkReq) : (s.setLinkQ a q).lanes = s.lanes := (rfl)
@[simp] theorem State.setLinkQ_frames (a : Nat) (q : List HlkReq) : (s.setLinkQ a q).frames = s.frames := (rfl)
@[simp] theorem State.setLinkQ_waiting (a : Nat) (q : List HlkReq) : (s.setLinkQ a q).waiting = s.waiting := (rfl)
@[simp] theorem State.setLinkQ_engines (a : Nat) (q : List HlkReq) : (s.setLinkQ a q).engines = s.engines := (rfl)
@[simp] theorem State.setLinkQ_results (a : Nat) (q : List HlkReq) : (s.setLinkQ a q).results = s.results := (rfl)
@[simp] theorem State.setLinkQ_iters (a : Nat) (q : List HlkReq) : (s.setLinkQ a q).iters = s.iters := (rfl)
@[simp] theorem State.setLinkQ_ops (a : Nat) (q : List HlkReq) : (s.setLinkQ a q).ops = s.ops := (rfl)
@[simp] theorem State.setLinkQ_jobs (a : Nat) (q : List HlkReq) : (s.setLinkQ a q).jobs = s.jobs := (rfl)
@[simp] theorem State.setLinkQ_rows (a : Nat) (q : List HlkReq) : (s.setLinkQ a q).rows = s.rows := (rfl)
@[simp] theorem State.setLinkQ_ra (a : Nat) (q : List HlkReq) : (s.setLinkQ a q).ra = s.ra := (rfl)
@[simp] theorem State.setLinkQ_raRow (a : Nat) (q : List HlkReq) : (s.setLinkQ a q).raRow = s.raRow := (rfl)
@[simp] theorem State.setLinkQ_ended (a : Nat) (q : List HlkReq) : (s.setLinkQ a q).ended = s.ended := (rfl)
@[simp] theorem State.setLinkQ_fronts (a : Nat) (q : List HlkReq) : (s.setLinkQ a q).fronts = s.fronts := (rfl)
@[simp] theorem State.setLinkQ_descs (a : Nat) (q : List HlkReq) : (s.setLinkQ a q).descs = s.descs := (rfl)
@[simp] theorem State.setLinkQ_skips (a : Nat) (q : List HlkReq) : (s.setLinkQ a q).skips = s.skips := (rfl)
@[simp] theorem State.setLinkQ_wins (a : Nat) (q : List HlkReq) : (s.setLinkQ a q).wins = s.wins := (rfl)
@[simp] theorem State.setLinkQ_acd (a : Nat) (q : List HlkReq) : (s.setLinkQ a q).acd = s.acd := (rfl)
@[simp] theorem State.setLinkQ_zones (a : Nat) (q : List HlkReq) : (s.setLinkQ a q).zones = s.zones := (rfl)
@[simp] theorem State.setLinkQ_media (a : Nat) (q : List HlkReq) : (s.setLinkQ a q).media = s.media := (rfl)
@[simp] theorem State.setLinkQ_mbox (a : Nat) (q : List HlkReq) : (s.setLinkQ a q).mbox = s.mbox := (rfl)
@[simp] theorem State.setLinkQ_word (a : Nat) (q : List HlkReq) : (s.setLinkQ a q).word = s.word := (rfl)
@[simp] theorem State.setLinkQ_cs (a : Nat) (q : List HlkReq) : (s.setLinkQ a q).cs = s.cs := (rfl)
@[simp] theorem State.setLinkQ_csBad (a : Nat) (q : List HlkReq) : (s.setLinkQ a q).csBad = s.csBad := (rfl)
@[simp] theorem State.setLinkQ_images (a : Nat) (q : List HlkReq) : (s.setLinkQ a q).images = s.images := (rfl)
@[simp] theorem State.setLinkQ_ports (a : Nat) (q : List HlkReq) : (s.setLinkQ a q).ports = s.ports := (rfl)
@[simp] theorem State.setLinkQ_cands (a : Nat) (q : List HlkReq) : (s.setLinkQ a q).cands = s.cands := (rfl)
@[simp] theorem State.setLinkQ_stage (a : Nat) (q : List HlkReq) : (s.setLinkQ a q).stage = s.stage := (rfl)
@[simp] theorem State.setLinkQ_sil (a : Nat) (q : List HlkReq) : (s.setLinkQ a q).sil = s.sil := (rfl)
@[simp] theorem State.setLinkQ_sqs (a : Nat) (q : List HlkReq) : (s.setLinkQ a q).sqs = s.sqs := (rfl)
@[simp] theorem State.setLinkQ_cqs (a : Nat) (q : List HlkReq) : (s.setLinkQ a q).cqs = s.cqs := (rfl)
@[simp] theorem State.setLinkQ_cmds (a : Nat) (q : List HlkReq) : (s.setLinkQ a q).cmds = s.cmds := (rfl)
@[simp] theorem State.setLinkQ_cpls (a : Nat) (q : List HlkReq) : (s.setLinkQ a q).cpls = s.cpls := (rfl)
@[simp] theorem State.setLinkQ_events (a : Nat) (q : List HlkReq) : (s.setLinkQ a q).events = s.events := (rfl)
@[simp] theorem State.setLinkQ_evMask (a : Nat) (q : List HlkReq) : (s.setLinkQ a q).evMask = s.evMask := (rfl)
@[simp] theorem State.setLinkQ_errs (a : Nat) (q : List HlkReq) : (s.setLinkQ a q).errs = s.errs := (rfl)
@[simp] theorem State.setLinkQ_changed (a : Nat) (q : List HlkReq) : (s.setLinkQ a q).changed = s.changed := (rfl)
@[simp] theorem State.setLinkQ_tags (a : Nat) (q : List HlkReq) : (s.setLinkQ a q).tags = s.tags := (rfl)
@[simp] theorem State.setLinkQ_quar (a : Nat) (q : List HlkReq) : (s.setLinkQ a q).quar = s.quar := (rfl)
@[simp] theorem State.setLinkQ_linger (a : Nat) (q : List HlkReq) : (s.setLinkQ a q).linger = s.linger := (rfl)
@[simp] theorem State.setLinkQ_shelf (a : Nat) (q : List HlkReq) : (s.setLinkQ a q).shelf = s.shelf := (rfl)
@[simp] theorem State.setLinkQ_peers (a : Nat) (q : List HlkReq) : (s.setLinkQ a q).peers = s.peers := (rfl)
@[simp] theorem State.setLinkQ_slips (a : Nat) (q : List HlkReq) : (s.setLinkQ a q).slips = s.slips := (rfl)
@[simp] theorem State.setLinkQ_harvest (a : Nat) (q : List HlkReq) : (s.setLinkQ a q).harvest = s.harvest := (rfl)
@[simp] theorem State.setLinkQ_fwMiss (a : Nat) (q : List HlkReq) : (s.setLinkQ a q).fwMiss = s.fwMiss := (rfl)
@[simp] theorem State.setLinkQ_dnQ (a : Nat) (q : List HlkReq) : (s.setLinkQ a q).dnQ = s.dnQ := (rfl)
@[simp] theorem State.setLinkQ_upReply (a : Nat) (q : List HlkReq) : (s.setLinkQ a q).upReply = s.upReply := (rfl)
@[simp] theorem State.setLinkQ_hellos (a : Nat) (q : List HlkReq) : (s.setLinkQ a q).hellos = s.hellos := (rfl)
@[simp] theorem State.setLinkQ_merge (a : Nat) (q : List HlkReq) : (s.setLinkQ a q).merge = s.merge := (rfl)
@[simp] theorem State.setLinkQ_prefill (a : Nat) (q : List HlkReq) : (s.setLinkQ a q).prefill = s.prefill := (rfl)
@[simp] theorem State.setLinkQ_chkx (a : Nat) (q : List HlkReq) : (s.setLinkQ a q).chkx = s.chkx := (rfl)
@[simp] theorem State.setLinkQ_fillQ (a : Nat) (q : List HlkReq) : (s.setLinkQ a q).fillQ = s.fillQ := (rfl)
@[simp] theorem State.setLinkQ_elog (a : Nat) (q : List HlkReq) : (s.setLinkQ a q).elog = s.elog := (rfl)
@[simp] theorem State.setLinkQ_retire (a : Nat) (q : List HlkReq) : (s.setLinkQ a q).retire = s.retire := (rfl)
@[simp] theorem State.setLinkQ_tables (a : Nat) (q : List HlkReq) : (s.setLinkQ a q).tables = s.tables := (rfl)
@[simp] theorem State.setLinkQ_norWait (a : Nat) (q : List HlkReq) : (s.setLinkQ a q).norWait = s.norWait := (rfl)
@[simp] theorem State.setLinkQ_pending (a : Nat) (q : List HlkReq) : (s.setLinkQ a q).pending = s.pending := (rfl)

/-! ## Reading a field -/

/-- A field reads what was last written to it, cut to its width. -/
@[simp] theorem State.get_set_self (f : Field) (i v : Nat) : (s.set f i v).get f i = v % 2 ^ f.width :=
  RegFile.get_set_self s.regs f i v

/-- A write to another field changes nothing. -/
theorem State.get_set_id {f g : Field} (i v j : Nat) (h : f.id ≠ g.id) : (s.set f i v).get g j = s.get g j :=
  RegFile.get_set_ne s.regs v fun e => h e.1

/-- A write to another instance changes nothing. -/
theorem State.get_set_inst {f g : Field} {i j : Nat} (v : Nat) (h : i ≠ j) : (s.set f i v).get g j = s.get g j :=
  RegFile.get_set_ne s.regs v fun e => h e.2

@[simp] theorem State.get_setSh (f : Field) (i v : Nat) (g : Field) (j : Nat) : (s.setSh f i v).get g j = s.get g j := (rfl)
@[simp] theorem State.on_setSh (f : Field) (i v : Nat) (g : Field) (j : Nat) : (s.setSh f i v).on g j = s.on g j := (rfl)
@[simp] theorem State.get_emit (o : Out) (g : Field) (j : Nat) : (s.emit o).get g j = s.get g j := (rfl)
@[simp] theorem State.on_emit (o : Out) (g : Field) (j : Nat) : (s.emit o).on g j = s.on g j := (rfl)
@[simp] theorem State.get_ret (v : Nat) (g : Field) (j : Nat) : (s.ret v).get g j = s.get g j := (rfl)
@[simp] theorem State.on_ret (v : Nat) (g : Field) (j : Nat) : (s.ret v).on g j = s.on g j := (rfl)
@[simp] theorem State.get_used (g : Field) (j : Nat) : s.used.get g j = s.get g j := (rfl)
@[simp] theorem State.on_used (g : Field) (j : Nat) : s.used.on g j = s.on g j := (rfl)
@[simp] theorem State.get_setZone (z : Nat) (r : Zone) (g : Field) (j : Nat) : (s.setZone z r).get g j = s.get g j := (rfl)
@[simp] theorem State.on_setZone (z : Nat) (r : Zone) (g : Field) (j : Nat) : (s.setZone z r).on g j = s.on g j := (rfl)
@[simp] theorem State.get_setLane (l : Nat) (q : LaneQ) (g : Field) (j : Nat) : (s.setLane l q).get g j = s.get g j := (rfl)
@[simp] theorem State.on_setLane (l : Nat) (q : LaneQ) (g : Field) (j : Nat) : (s.setLane l q).on g j = s.on g j := (rfl)
@[simp] theorem State.get_setLinkQ (a : Nat) (q : List HlkReq) (g : Field) (j : Nat) : (s.setLinkQ a q).get g j = s.get g j := (rfl)
@[simp] theorem State.on_setLinkQ (a : Nat) (q : List HlkReq) (g : Field) (j : Nat) : (s.setLinkQ a q).on g j = s.on g j := (rfl)

theorem State.on_eq (f : Field) (i : Nat) : s.on f i = (s.get f i != 0) := rfl
theorem State.is_eq (f : Field) (i v : Nat) : s.is f i v = (s.get f i == v) := rfl
theorem State.getI_eq (f : Field) (i : Nat) : s.getI f i = sgn f.width (s.get f i) := rfl
theorem State.getSh_set (f : Field) (i v : Nat) (g : Field) (j : Nat) : (s.set f i v).getSh g j = s.getSh g j := rfl

/-- The shadow copy reads what was last written to it. -/
@[simp] theorem State.getSh_setSh_self (f : Field) (i v : Nat) : (s.setSh f i v).getSh f i = v % 2 ^ f.width :=
  RegFile.get_set_self s.shadow f i v

/-- A write to the shadow copy of another field changes nothing. -/
theorem State.getSh_setSh_id {f g : Field} (i v j : Nat) (h : f.id ≠ g.id) : (s.setSh f i v).getSh g j = s.getSh g j :=
  RegFile.get_set_ne s.shadow v fun e => h e.1

/-! ## Loops -/

@[simp] theorem forBelow_zero (f : Nat → State → State) : forBelow 0 f s = s := rfl
theorem forBelow_succ (n : Nat) (f : Nat → State → State) : forBelow (n + 1) f s = f n (forBelow n f s) := by
  simp [forBelow, List.range_succ]
@[simp] theorem forAll_nil {α : Type} (f : α → State → State) : forAll [] f s = s := rfl
@[simp] theorem forAll_cons {α : Type} (x : α) (l : List α) (f : α → State → State) : forAll (x :: l) f s = forAll l f (f x s) := rfl

/-- What `f` keeps, a loop over numbers keeps. -/
theorem forBelow_keeps (p : State → Prop) (n : Nat) (f : Nat → State → State) (h : ∀ i t, p t → p (f i t)) (hs : p s) :
    p (forBelow n f s) := by
  induction n with
  | zero => exact hs
  | succ n ih => rw [forBelow_succ]; exact h n _ ih

/-- What `f` keeps, a loop over a list keeps. -/
theorem forAll_keeps {α : Type} (p : State → Prop) (l : List α) (f : α → State → State) (h : ∀ x t, p t → p (f x t)) (hs : p s) :
    p (forAll l f s) := by
  induction l generalizing s with
  | nil => exact hs
  | cons x l ih => rw [forAll_cons]; exact ih _ (h x s hs)

end Sys2Proof.Machine
end

