-- ==== Sys2Proof/Laws/Closed.lean ====
section
/-!
SUPPORT. Predicates that the plain updates of State keep. `Closed T P` says which updates keep `P`: a write of a register field named
by `T`, and any change of what is no register that leaves memory in canonical form, only adds outputs and only raises the counter of
free values. The files KeepRaise, KeepSettle, KeepAll and KeepExec say once of every operation of the model that it keeps every such
predicate, so that an invariant or a frame over the whole machine is one small closure proof.
-/

set_option linter.unreachableTactic false
set_option linter.unusedTactic false
set_option linter.tactic.unusedName false
set_option linter.unusedSimpArgs false
set_option linter.unusedVariables false

namespace Sys2Proof.Machine

set_option Elab.async false

variable {P : State → Prop} {T : Nat → Bool}

/-- The predicate survives the updates that operations are made of: a write to a register field that `T` names; any change of what is
neither register, memory, output nor counter of free values, with memory kept in canonical form, outputs only added and the counter
only raised; and, where `T` names every field, a replacement of the register file. -/
structure Closed (T : Nat → Bool) (P : State → Prop) : Prop where
  set : ∀ (s : State) (f : Field) (i v : Nat), T f.id = true → P s → P (s.set f i v)
  record : ∀ s t : State, t.regs = s.regs → (s.mem.wf = true → t.mem.wf = true) → s.out <+: t.out → s.fresh ≤ t.fresh → P s → P t
  regs : (∀ x, T x = true) → ∀ s t : State, (s.mem.wf = true → t.mem.wf = true) → s.out <+: t.out → s.fresh ≤ t.fresh → P s → P t

/-- Every field. -/
abbrev anyField : Nat → Bool := fun _ => true

theorem Closed.mono {T' : Nat → Bool} (hP : Closed T' P) (h : ∀ x, T x = true → T' x = true) : Closed T P :=
  ⟨fun s f i v hf => hP.set s f i v (h _ hf), hP.record, fun hT => hP.regs fun x => h x (hT x)⟩

theorem Closed.setMany (hP : Closed T P) (s : State) (i : Nat) (l : List (Field × Nat)) (hl : (l.all fun e => T e.1.id) = true)
    (h : P s) : P (s.setMany i l) := by
  induction l generalizing s with
  | nil => exact h
  | cons e t ih =>
    simp only [List.all_cons, Bool.and_eq_true] at hl
    exact ih _ hl.2 (hP.set s e.1 i e.2 hl.1 h)

theorem Closed.setI (hP : Closed T P) (s : State) (f : Field) (i : Nat) (v : Int) (hT : T f.id = true) (h : P s) : P (s.setI f i v) :=
  hP.set s f i _ hT h
theorem Closed.add (hP : Closed T P) (s : State) (f : Field) (i n : Nat) (hT : T f.id = true) (h : P s) : P (s.add f i n) :=
  hP.set s f i _ hT h
theorem Closed.bump (hP : Closed T P) (s : State) (f : Field) (i : Nat) (hT : T f.id = true) (h : P s) : P (s.bump f i) :=
  hP.set s f i _ hT h
theorem Closed.addSat (hP : Closed T P) (s : State) (f : Field) (i n : Nat) (hT : T f.id = true) (h : P s) : P (s.addSat f i n) :=
  hP.set s f i _ hT h
theorem Closed.dec (hP : Closed T P) (s : State) (f : Field) (i : Nat) (hT : T f.id = true) (h : P s) : P (s.dec f i) :=
  hP.set s f i _ hT h
theorem Closed.setBit (hP : Closed T P) (s : State) (f : Field) (i b : Nat) (v : Bool) (hT : T f.id = true) (h : P s) :
    P (s.setBit f i b v) := hP.set s f i _ hT h
theorem Closed.unset (hP : Closed T P) (s : State) (f : Field) (i : Nat) (hT : T f.id = true) (h : P s) : P (s.unset f i) :=
  hP.set s f i _ hT h
theorem Closed.setStamp (hP : Closed T P) (s : State) (v : Nat) (h1 : T ANG_STAMP_LO.id = true) (h2 : T ANG_STAMP_HI.id = true)
    (h : P s) : P (s.setStamp v) := hP.set _ _ _ _ h2 (hP.set _ _ _ _ h1 h)
theorem Closed.setSh (hP : Closed T P) (s : State) (f : Field) (i v : Nat) (hs : P s) : P (s.setSh f i v) :=
  hP.record s _ rfl (fun h => h) List.prefix_rfl le_rfl hs
theorem Closed.emit (hP : Closed T P) (s : State) (o : Out) (hs : P s) : P (s.emit o) :=
  hP.record s _ rfl (fun h => h) (List.prefix_append _ _) le_rfl hs
theorem Closed.ret (hP : Closed T P) (s : State) (v : Nat) (hs : P s) : P (s.ret v) :=
  hP.record s _ rfl (fun h => h) List.prefix_rfl le_rfl hs
theorem Closed.used (hP : Closed T P) (s : State) (hs : P s) : P s.used :=
  hP.record s _ rfl (fun h => h) List.prefix_rfl (Nat.le_succ _) hs
theorem Closed.forBelow (n : Nat) (f : Nat → State → State) (s : State) (hf : ∀ i t, P t → P (f i t)) (h : P s) : P (forBelow n f s) :=
  forBelow_keeps s P n f hf h
theorem Closed.forAll {α : Type} (l : List α) (f : α → State → State) (s : State) (hf : ∀ x t, P t → P (f x t)) (h : P s) :
    P (forAll l f s) := forAll_keeps s P l f hf h
/-- The same for a record written out. -/
theorem Closed.build (hP : Closed T P) (s : State) {shadow' : RegFile} {cap' : NMap Nat} {mem' : Memory} {rdata' : Nat} {out' :
    List Out} {fresh' : Nat} {aonNs' : Nat} {live' : NMap (List LiveInst)} {ring' : NMap Entry} {dumps' : List Dump} {lmem' :
    NMap Nat} {lanes' : NMap LaneQ} {frames' : List FrameRec} {waiting' : List Waiting} {engines' : NMap EngineJob} {results' :
    List CwResult} {iters' : List Nat} {hlkTx' : NMap (List HlkReq)} {ops' : List MediaOp} {jobs' : List FrameJob} {rows' : List
    RowRec} {ra' : List RaFrame} {raRow' : NMap Nat} {ended' : List (Nat × List (Nat × Nat × Nat))} {fronts' : NMap Frontier}
    {descs' : NMap Descriptor} {skips' : List Skip} {wins' : List Window} {acd' : Acd} {zones' : NMap Zone} {media' : AcdMedia}
    {mbox' : NMap Nat} {word' : NMap (List Instr)} {cs' : NMap Nat} {csBad' : List Nat} {images' : NMap LpeImage} {ports' : NMap
    Nat} {cands' : NMap Nat} {stage' : NMap (List (Nat × Nat))} {sil' : NMap Nat} {sqs' : NMap Sq} {cqs' : NMap Cq} {cmds' :
    List NvCmd} {cpls' : List Cpl} {events' : List NvEvent} {evMask' : List Nat} {errs' : List NvError} {changed' : List Nat}
    {tags' : NMap TagUse} {quar' : List (Nat × Bool)} {linger' : List Nat} {shelf' : List ShelfRow} {peers' : List PeerCmd}
    {slips' : List (Nat × Nat × Nat)} {harvest' : List (Nat × Nat × BitVec 256)} {fwMiss' : List Nat} {dnQ' : List ClaikReq}
    {upReply' : Option Out} {hellos' : List Nat} {merge' : List MergeEntry} {prefill' : List Nat} {chkx' : NMap Nat} {fillQ' :
    List (Nat × List (BitVec 8))} {elog' : NMap LogEntry} {retire' : Option Retire} {tables' : Tables} {norWait' : List NorWork} {pending' : List Instr}
    (hm : s.mem.wf = true → mem'.wf = true) (ho : s.out <+: out') (hf : s.fresh ≤ fresh') (hs : P s) :
    P ⟨s.regs, shadow', cap', mem', rdata', out', fresh', aonNs', live', ring', dumps', lmem', lanes', frames', waiting',
    engines', results', iters', hlkTx', ops', jobs', rows', ra', raRow', ended', fronts', descs', skips', wins', acd', zones',
    media', mbox', word', cs', csBad', images', ports', cands', stage', sil', sqs', cqs', cmds', cpls', events', evMask', errs',
    changed', tags', quar', linger', shelf', peers', slips', harvest', fwMiss', dnQ', upReply', hellos', merge', prefill',
    chkx', fillQ', elog', retire', tables', norWait', pending'⟩ :=
  hP.record s _ rfl hm ho hf hs

theorem Closed.foldFst {α β : Type} (l : List α) (f : State × β → α → State × β) (p : State × β) (hf : ∀ q x, P q.1 → P (f q x).1)
    (h : P p.1) : P (l.foldl f p).1 := by
  induction l generalizing p with
  | nil => exact h
  | cons x l ih => exact ih _ (hf p x h)
theorem Closed.getD (o : Option State) (s : State) (ho : ∀ t, o = some t → P t) (h : P s) : P (o.getD s) := by
  cases o with
  | none => exact h
  | some t => exact ho t rfl
theorem Closed.repeat (n : Nat) (f : State → State) (s : State) (hf : ∀ t, P t → P (f t)) (h : P s) : P (Nat.repeat f n s) := by
  induction n with
  | zero => exact h
  | succ n ih => exact hf _ ih

theorem Memory.wf_foldl {α : Type} (l : List α) (f : Memory → α → Memory) (m : Memory) (hf : ∀ m x, m.wf = true → (f m x).wf = true)
    (h : m.wf = true) : (l.foldl f m).wf = true := by
  induction l generalizing m with
  | nil => exact h
  | cons x l ih => exact ih _ (hf m x h)
theorem Memory.wf_writeGuard (a : Nat) {m : Memory} (h : m.wf = true) : (writeGuard a m).wf = true := Memory.wf_writeList _ _ h
theorem Memory.wf_writePad (a : Nat) {m : Memory} (h : m.wf = true) : (writePad a m).wf = true :=
  Memory.wf_writeGuard _ (Memory.wf_writeList _ _ (Memory.wf_writeList _ _ h))
theorem Closed.foldl {α : Type} (l : List α) (f : State → α → State) (s : State) (hf : ∀ t x, P t → P (f t x)) (h : P s) :
    P (l.foldl f s) := by
  induction l generalizing s with
  | nil => exact h
  | cons x l ih => exact ih _ (hf s x h)

/-- The fields that raising or lowering a source can change, with all that follows from it. -/
def raiseFields : List Nat :=
  [ACD_CTL_RUN.id, ACD_CURN.id, ACD_DEGR.id, ACD_JREQ.id, ACD_LOST.id, ACD_NOWROW.id, ACD_NOWZONE.id, ACD_OLD.id,
   ACD_PASS_CUR_ROW.id, ACD_PASS_CUR_ZONE.id, ACD_PASS_DONE.id, ACD_PASS_LEVEL.id, ACD_PASS_MASK.id, ACD_PASS_START_ROW.id,
   ACD_PASS_START_ZONE.id, ACD_PASS_VALID.id, ACD_PEND.id, ACD_PSER.id, ACD_PSIDE.id, ACD_RBLD_CUR_ACTIVE.id,
   ACD_RBLD_CUR_DONE.id, ACD_RBLD_CUR_LEVEL.id, ACD_RBLD_CUR_PASS.id, ACD_RBLD_CUR_ROW.id, ACD_RBLD_CUR_ZONE.id,
   ACD_STS_DEGR_CNT.id, ACD_STS_LOST_CNT.id, ACD_STS_REBUILDING.id, ACD_STS_RUNNING.id, ACD_VISIT.id, ACD_ZDONE.id,
   ANG_CMPLATE.id, ANG_EPOCH.id, ANG_FRAC.id, ANG_IDXVALID.id, ANG_LASTIDX.id, ANG_PERIOD.id, ANG_SLEWCNT.id, ANG_SLEWDUE.id,
   ANG_SLEWREM.id, ANG_SRCOFS.id, ANG_SRC_CHANGES.id, ANG_SRC_PRECISE.id, ANG_SRC_SLEW.id, ANG_SRC_SRC.id, ANG_STAMP_HI.id,
   ANG_STAMP_LO.id, ANG_STEPLEN.id, ANG_STILLPOS.id, BNR_DUMPSEQ.id, BNR_NOR_FREE.id, BNR_NOR_LAST_COMPLETE.id,
   BNR_NOR_LAST_ENTRIES.id, BNR_NOR_LAST_SLOT.id, BNR_STS_DUMPING.id, BNR_STS_HEAD.id, BNR_STS_NOSLOT.id, BNR_STS_SEQ.id,
   BNR_STS_WRAPPED.id, BUF_DMAHALT.id, CFG_CES.id, CFG_DEVSTS.id, CFG_FEP.id, CFG_HLOG.id, CFG_INTA.id, CFG_PMESTS.id,
   CFG_STATUS.id, CFG_UES.id, CTX_ACC.id, CTX_B.id, CTX_EPOCH.id, CTX_KILLP.id, CTX_MCNT.id, CTX_MREV.id, CTX_N.id, CTX_OLD.id,
   CTX_PC.id, CTX_PEPOCH.id, CTX_PSTAMP.id, CTX_STAMP.id, CTX_V.id, CTX_WORDS.id, CTX_X.id, CTX_Z.id, FLT_ASN.id,
   FLT_CNT_ASSERTS.id, FLT_CNT_FSTATE.id, FLT_CURSEV.id, FLT_EDGES.id, FLT_FIRST_HI.id, FLT_FIRST_INST.id, FLT_FIRST_LO.id,
   FLT_FIRST_SEV.id, FLT_FIRST_SRC.id, FLT_FIRST_TIME.id, FLT_FIRST_VALID.id, FLT_INJREAL.id, FLT_LIVE.id, FLT_SAFE_ACTIVE.id,
   FLT_SAFE_ENTRIES.id, FLT_STS.id, FLT_TIMER.id, FMT_CTL_RUN.id, FMT_STS_RUNNING.id, GLB_HELD.id, HLK_WEN.id, HLK_WENTRY.id,
   LAN_CTL_OOS.id, LAN_PAIR.id, LAN_SPLIT.id, LAN_STS_WRITING.id, LAN_TRUNC.id, LAN_TRUNCOFF.id, LPE_CTXSTS_KILLED.id,
   LPE_CTXSTS_MERGE.id, LPE_CTXSTS_PENDING.id, LPE_CTXSTS_STATE.id, LPE_CTX_CUST.id, LPE_CTX_EN.id, LPE_CTX_ENTRY.id,
   LPE_CTX_PRIO.id, LPE_CTX_SRC.id, LPE_IMGSTS_OLDBUSY.id, LPE_SIL_FILL.id, LPE_SIL_STS_MARK.id, LPE_SIL_STS_STATE.id,
   MGR_SYNCLOW.id, MSIX_PBA.id, NVQ_CFS.id, NVQ_CNT_CMD.id, NVQ_CNT_ERR.id, NVQ_ERRCNT.id, PAD_FAULT.id, PAD_WAKE.id,
   PCI_FRZ_BY_FAULT.id, PCI_FRZ_DROP.id, PCI_FRZ_FROZEN.id, PCI_PME_PEND.id, PCI_STS_FROZEN.id, SIL_HEAD.id, SIL_LEFT.id,
   SPN_AGREEN.id, SPN_BRAKED.id, SPN_BRIDGE.id, SPN_CALRUN.id, SPN_CARRY.id, SPN_CNT_COASTS.id, SPN_COMDIF.id, SPN_DDKIND.id,
   SPN_DDREQ.id, SPN_DISN.id, SPN_EMFN.id, SPN_ERRN.id, SPN_FIRST.id, SPN_GATE.id, SPN_HELD.id, SPN_IDDEM.id, SPN_INVN.id,
   SPN_IQDEM.id, SPN_LGREF.id, SPN_LOCKN.id, SPN_OBSLOST.id, SPN_OBSSPD.id, SPN_OCFAIL.id, SPN_OCTIME.id, SPN_OCWAIT.id,
   SPN_ON.id, SPN_ONPILOT.id, SPN_SLEWING.id, SPN_STATE_DRYPEND.id, SPN_STATE_FAULTLOCK.id, SPN_STATE_LASTGASP.id,
   SPN_STATE_LOADOK.id, SPN_STATE_OBSLOCK.id, SPN_STATE_STATE.id, SRV_DAC.id, SRV_DRVEN.id, SRV_HSTS_SAT.id, SRV_PES_S.id,
   SRV_PHASE.id, SRV_RET_STS_ENGAGED.id, SRV_RET_STS_PARKED.id, SRV_RET_STS_RETRACTS.id, SRV_SATN.id, SRV_STS_BLEND.id,
   SRV_STS_RVLOCK.id, SRV_STS_STATE.id, SRV_UNLOAD.id]

/-- The fields that settling can change beside those. -/
def settleFields : List Nat :=
  [ACD_CKPT_MEM_M0.id, ACD_CKPT_MEM_M1.id, ACD_CKPT_MEM_M2.id, ACD_CKPT_MEM_M3.id, ACD_CLEANREQ.id, ACD_CNT_RECON.id,
   ACD_CTL_CLEAN.id, ACD_JBUSY.id, ACD_JCLEAN.id, ACD_JRNL_MEM_A.id, ACD_JRNL_MEM_B.id, ACD_JSEQ.id, ACD_KBUSY.id, ACD_KDUE.id,
   ACD_KMIN.id, ACD_KSEQ.id, ACD_LAZY.id, ACD_RBLD_LEFT.id, ACD_RBLD_SKIP.id, ACD_RESYNC_SCAN.id, ACD_RESYNC_ZONES.id,
   ACD_SPARE_FREE_FREE.id, ACD_SPARE_FREE_MEMBER.id, ACD_STS_ALLEMPTY.id, ACD_STS_RESYNC.id, ACD_STS_SPARE_LOW.id,
   ACD_STS_SPARE_OUT.id, ACD_STS_UNREC_FULL.id, ACD_TURNOUT.id, ACD_UNREC_BLK.id, ACD_UNREC_CNT.id, BUF_ELOGNEW.id,
   BUF_ELOG_HEAD_HEAD.id, BUF_ELOG_HEAD_WRAPPED.id, BUF_ERR_CE.id, BUF_ERR_UE.id, BUF_MERGE_OCC.id, DEC_FID.id,
   DEC_STS_WAIT.id, FMT_CNT_GROWN.id, FMT_CNT_RA_CLAIMED.id, FMT_CNT_RA_DROPPED.id, FMT_CNT_STEP.id, FMT_CNT_UNREC.id,
   FMT_INFL.id, LAN_STGV_OCC.id, LPE_CG_CUSTMASK.id, LPE_CMT_STS_PENDING.id, LPE_IMGSTS_ACTIVE.id, LPE_IMGSTS_AEMPTY_C.id,
   LPE_IMGSTS_IEMPTY_C.id, LPE_IMGSTS_IVALID_C.id, LPE_IMGSTS_IVALID_V.id, LPE_IVER_C.id, LPE_IVER_V.id, LPE_OUTCFG_CUST.id,
   LPE_VER_C.id, LPE_VER_V.id, MGR_CID.id, MGR_JRNLA.id, MGR_JRNLSEQ.id, MGR_JRNLWP.id, MGR_ORD_HELD.id, MGR_ORD_LOST.id,
   MGR_PLOGA.id, MGR_PLOGWP.id, NVQ_ACTHELD.id, NVQ_CRITW.id, NVQ_DURWAIT.id, NVQ_EXTENTS.id, NVQ_INFL_HELD.id,
   NVQ_INFL_INFL.id, NVQ_LEAVING.id, NVQ_MTAG.id, NVQ_OPPS.id, NVQ_RESETTING.id, NVQ_SHSEQ.id, NVQ_SHST.id, NVQ_SQEN.id,
   NVQ_STS_ACTIVATING.id, NVQ_STS_FETCH_HELD.id, NVQ_STS_MEDIA_READY.id, NVQ_STS_PS.id, NVQ_STS_RDY.id, NVQ_UNRCHG.id,
   NVQ_ZACT_ACTIVE.id, NVQ_ZACT_OPENED.id, PAD_CLKREQ.id, PCI_STS_LSTATE.id, PCI_TAGS_INUSE.id, PCI_TAGS_QUAR.id,
   SPN_CNT_STARTS.id]

/-- A field that raising or lowering a source can change. -/
def byRaise : Nat → Bool := fun x => raiseFields.contains x

/-- A field that settling can change. -/
def bySettle : Nat → Bool := fun x => raiseFields.contains x || settleFields.contains x

theorem Closed.ofSettle (hP : Closed bySettle P) : Closed byRaise P :=
  hP.mono fun x h => by simp only [byRaise, bySettle, Bool.or_eq_true] at *; exact .inl h
theorem Closed.ofAny (hP : Closed anyField P) : Closed bySettle P := hP.mono fun _ _ => rfl

theorem raise_named_0 : byRaise ACD_CTL_RUN.id = true ∧ byRaise ACD_CURN.id = true ∧ byRaise ACD_DEGR.id = true ∧ byRaise ACD_JREQ.id = true ∧ byRaise ACD_LOST.id = true ∧ byRaise ACD_NOWROW.id = true ∧ byRaise ACD_NOWZONE.id = true ∧ byRaise ACD_OLD.id = true ∧ byRaise ACD_PASS_CUR_ROW.id = true ∧ byRaise ACD_PASS_CUR_ZONE.id = true ∧ byRaise ACD_PASS_DONE.id = true ∧ byRaise ACD_PASS_LEVEL.id = true := by decide +kernel
theorem in_ACD_CTL_RUN : byRaise ACD_CTL_RUN.id = true := raise_named_0.1
theorem in_ACD_CURN : byRaise ACD_CURN.id = true := raise_named_0.2.1
theorem in_ACD_DEGR : byRaise ACD_DEGR.id = true := raise_named_0.2.2.1
theorem in_ACD_JREQ : byRaise ACD_JREQ.id = true := raise_named_0.2.2.2.1
theorem in_ACD_LOST : byRaise ACD_LOST.id = true := raise_named_0.2.2.2.2.1
theorem in_ACD_NOWROW : byRaise ACD_NOWROW.id = true := raise_named_0.2.2.2.2.2.1
theorem in_ACD_NOWZONE : byRaise ACD_NOWZONE.id = true := raise_named_0.2.2.2.2.2.2.1
theorem in_ACD_OLD : byRaise ACD_OLD.id = true := raise_named_0.2.2.2.2.2.2.2.1
theorem in_ACD_PASS_CUR_ROW : byRaise ACD_PASS_CUR_ROW.id = true := raise_named_0.2.2.2.2.2.2.2.2.1
theorem in_ACD_PASS_CUR_ZONE : byRaise ACD_PASS_CUR_ZONE.id = true := raise_named_0.2.2.2.2.2.2.2.2.2.1
theorem in_ACD_PASS_DONE : byRaise ACD_PASS_DONE.id = true := raise_named_0.2.2.2.2.2.2.2.2.2.2.1
theorem in_ACD_PASS_LEVEL : byRaise ACD_PASS_LEVEL.id = true := raise_named_0.2.2.2.2.2.2.2.2.2.2.2
theorem raise_named_1 : byRaise ACD_PASS_MASK.id = true ∧ byRaise ACD_PASS_START_ROW.id = true ∧ byRaise ACD_PASS_START_ZONE.id = true ∧ byRaise ACD_PASS_VALID.id = true ∧ byRaise ACD_PEND.id = true ∧ byRaise ACD_PSER.id = true ∧ byRaise ACD_PSIDE.id = true ∧ byRaise ACD_RBLD_CUR_ACTIVE.id = true ∧ byRaise ACD_RBLD_CUR_DONE.id = true ∧ byRaise ACD_RBLD_CUR_LEVEL.id = true ∧ byRaise ACD_RBLD_CUR_PASS.id = true ∧ byRaise ACD_RBLD_CUR_ROW.id = true := by decide +kernel
theorem in_ACD_PASS_MASK : byRaise ACD_PASS_MASK.id = true := raise_named_1.1
theorem in_ACD_PASS_START_ROW : byRaise ACD_PASS_START_ROW.id = true := raise_named_1.2.1
theorem in_ACD_PASS_START_ZONE : byRaise ACD_PASS_START_ZONE.id = true := raise_named_1.2.2.1
theorem in_ACD_PASS_VALID : byRaise ACD_PASS_VALID.id = true := raise_named_1.2.2.2.1
theorem in_ACD_PEND : byRaise ACD_PEND.id = true := raise_named_1.2.2.2.2.1
theorem in_ACD_PSER : byRaise ACD_PSER.id = true := raise_named_1.2.2.2.2.2.1
theorem in_ACD_PSIDE : byRaise ACD_PSIDE.id = true := raise_named_1.2.2.2.2.2.2.1
theorem in_ACD_RBLD_CUR_ACTIVE : byRaise ACD_RBLD_CUR_ACTIVE.id = true := raise_named_1.2.2.2.2.2.2.2.1
theorem in_ACD_RBLD_CUR_DONE : byRaise ACD_RBLD_CUR_DONE.id = true := raise_named_1.2.2.2.2.2.2.2.2.1
theorem in_ACD_RBLD_CUR_LEVEL : byRaise ACD_RBLD_CUR_LEVEL.id = true := raise_named_1.2.2.2.2.2.2.2.2.2.1
theorem in_ACD_RBLD_CUR_PASS : byRaise ACD_RBLD_CUR_PASS.id = true := raise_named_1.2.2.2.2.2.2.2.2.2.2.1
theorem in_ACD_RBLD_CUR_ROW : byRaise ACD_RBLD_CUR_ROW.id = true := raise_named_1.2.2.2.2.2.2.2.2.2.2.2
theorem raise_named_2 : byRaise ACD_RBLD_CUR_ZONE.id = true ∧ byRaise ACD_STS_DEGR_CNT.id = true ∧ byRaise ACD_STS_LOST_CNT.id = true ∧ byRaise ACD_STS_REBUILDING.id = true ∧ byRaise ACD_STS_RUNNING.id = true ∧ byRaise ACD_VISIT.id = true ∧ byRaise ACD_ZDONE.id = true ∧ byRaise ANG_CMPLATE.id = true ∧ byRaise ANG_EPOCH.id = true ∧ byRaise ANG_FRAC.id = true ∧ byRaise ANG_IDXVALID.id = true ∧ byRaise ANG_LASTIDX.id = true := by decide +kernel
theorem in_ACD_RBLD_CUR_ZONE : byRaise ACD_RBLD_CUR_ZONE.id = true := raise_named_2.1
theorem in_ACD_STS_DEGR_CNT : byRaise ACD_STS_DEGR_CNT.id = true := raise_named_2.2.1
theorem in_ACD_STS_LOST_CNT : byRaise ACD_STS_LOST_CNT.id = true := raise_named_2.2.2.1
theorem in_ACD_STS_REBUILDING : byRaise ACD_STS_REBUILDING.id = true := raise_named_2.2.2.2.1
theorem in_ACD_STS_RUNNING : byRaise ACD_STS_RUNNING.id = true := raise_named_2.2.2.2.2.1
theorem in_ACD_VISIT : byRaise ACD_VISIT.id = true := raise_named_2.2.2.2.2.2.1
theorem in_ACD_ZDONE : byRaise ACD_ZDONE.id = true := raise_named_2.2.2.2.2.2.2.1
theorem in_ANG_CMPLATE : byRaise ANG_CMPLATE.id = true := raise_named_2.2.2.2.2.2.2.2.1
theorem in_ANG_EPOCH : byRaise ANG_EPOCH.id = true := raise_named_2.2.2.2.2.2.2.2.2.1
theorem in_ANG_FRAC : byRaise ANG_FRAC.id = true := raise_named_2.2.2.2.2.2.2.2.2.2.1
theorem in_ANG_IDXVALID : byRaise ANG_IDXVALID.id = true := raise_named_2.2.2.2.2.2.2.2.2.2.2.1
theorem in_ANG_LASTIDX : byRaise ANG_LASTIDX.id = true := raise_named_2.2.2.2.2.2.2.2.2.2.2.2
theorem raise_named_3 : byRaise ANG_PERIOD.id = true ∧ byRaise ANG_SLEWCNT.id = true ∧ byRaise ANG_SLEWDUE.id = true ∧ byRaise ANG_SLEWREM.id = true ∧ byRaise ANG_SRCOFS.id = true ∧ byRaise ANG_SRC_CHANGES.id = true ∧ byRaise ANG_SRC_PRECISE.id = true ∧ byRaise ANG_SRC_SLEW.id = true ∧ byRaise ANG_SRC_SRC.id = true ∧ byRaise ANG_STAMP_HI.id = true ∧ byRaise ANG_STAMP_LO.id = true ∧ byRaise ANG_STEPLEN.id = true := by decide +kernel
theorem in_ANG_PERIOD : byRaise ANG_PERIOD.id = true := raise_named_3.1
theorem in_ANG_SLEWCNT : byRaise ANG_SLEWCNT.id = true := raise_named_3.2.1
theorem in_ANG_SLEWDUE : byRaise ANG_SLEWDUE.id = true := raise_named_3.2.2.1
theorem in_ANG_SLEWREM : byRaise ANG_SLEWREM.id = true := raise_named_3.2.2.2.1
theorem in_ANG_SRCOFS : byRaise ANG_SRCOFS.id = true := raise_named_3.2.2.2.2.1
theorem in_ANG_SRC_CHANGES : byRaise ANG_SRC_CHANGES.id = true := raise_named_3.2.2.2.2.2.1
theorem in_ANG_SRC_PRECISE : byRaise ANG_SRC_PRECISE.id = true := raise_named_3.2.2.2.2.2.2.1
theorem in_ANG_SRC_SLEW : byRaise ANG_SRC_SLEW.id = true := raise_named_3.2.2.2.2.2.2.2.1
theorem in_ANG_SRC_SRC : byRaise ANG_SRC_SRC.id = true := raise_named_3.2.2.2.2.2.2.2.2.1
theorem in_ANG_STAMP_HI : byRaise ANG_STAMP_HI.id = true := raise_named_3.2.2.2.2.2.2.2.2.2.1
theorem in_ANG_STAMP_LO : byRaise ANG_STAMP_LO.id = true := raise_named_3.2.2.2.2.2.2.2.2.2.2.1
theorem in_ANG_STEPLEN : byRaise ANG_STEPLEN.id = true := raise_named_3.2.2.2.2.2.2.2.2.2.2.2
theorem raise_named_4 : byRaise ANG_STILLPOS.id = true ∧ byRaise BNR_DUMPSEQ.id = true ∧ byRaise BNR_NOR_FREE.id = true ∧ byRaise BNR_NOR_LAST_COMPLETE.id = true ∧ byRaise BNR_NOR_LAST_ENTRIES.id = true ∧ byRaise BNR_NOR_LAST_SLOT.id = true ∧ byRaise BNR_STS_DUMPING.id = true ∧ byRaise BNR_STS_HEAD.id = true ∧ byRaise BNR_STS_NOSLOT.id = true ∧ byRaise BNR_STS_SEQ.id = true ∧ byRaise BNR_STS_WRAPPED.id = true ∧ byRaise BUF_DMAHALT.id = true := by decide +kernel
theorem in_ANG_STILLPOS : byRaise ANG_STILLPOS.id = true := raise_named_4.1
theorem in_BNR_DUMPSEQ : byRaise BNR_DUMPSEQ.id = true := raise_named_4.2.1
theorem in_BNR_NOR_FREE : byRaise BNR_NOR_FREE.id = true := raise_named_4.2.2.1
theorem in_BNR_NOR_LAST_COMPLETE : byRaise BNR_NOR_LAST_COMPLETE.id = true := raise_named_4.2.2.2.1
theorem in_BNR_NOR_LAST_ENTRIES : byRaise BNR_NOR_LAST_ENTRIES.id = true := raise_named_4.2.2.2.2.1
theorem in_BNR_NOR_LAST_SLOT : byRaise BNR_NOR_LAST_SLOT.id = true := raise_named_4.2.2.2.2.2.1
theorem in_BNR_STS_DUMPING : byRaise BNR_STS_DUMPING.id = true := raise_named_4.2.2.2.2.2.2.1
theorem in_BNR_STS_HEAD : byRaise BNR_STS_HEAD.id = true := raise_named_4.2.2.2.2.2.2.2.1
theorem in_BNR_STS_NOSLOT : byRaise BNR_STS_NOSLOT.id = true := raise_named_4.2.2.2.2.2.2.2.2.1
theorem in_BNR_STS_SEQ : byRaise BNR_STS_SEQ.id = true := raise_named_4.2.2.2.2.2.2.2.2.2.1
theorem in_BNR_STS_WRAPPED : byRaise BNR_STS_WRAPPED.id = true := raise_named_4.2.2.2.2.2.2.2.2.2.2.1
theorem in_BUF_DMAHALT : byRaise BUF_DMAHALT.id = true := raise_named_4.2.2.2.2.2.2.2.2.2.2.2
theorem raise_named_5 : byRaise CFG_CES.id = true ∧ byRaise CFG_DEVSTS.id = true ∧ byRaise CFG_FEP.id = true ∧ byRaise CFG_HLOG.id = true ∧ byRaise CFG_INTA.id = true ∧ byRaise CFG_PMESTS.id = true ∧ byRaise CFG_STATUS.id = true ∧ byRaise CFG_UES.id = true ∧ byRaise CTX_ACC.id = true ∧ byRaise CTX_B.id = true ∧ byRaise CTX_EPOCH.id = true ∧ byRaise CTX_KILLP.id = true := by decide +kernel
theorem in_CFG_CES : byRaise CFG_CES.id = true := raise_named_5.1
theorem in_CFG_DEVSTS : byRaise CFG_DEVSTS.id = true := raise_named_5.2.1
theorem in_CFG_FEP : byRaise CFG_FEP.id = true := raise_named_5.2.2.1
theorem in_CFG_HLOG : byRaise CFG_HLOG.id = true := raise_named_5.2.2.2.1
theorem in_CFG_INTA : byRaise CFG_INTA.id = true := raise_named_5.2.2.2.2.1
theorem in_CFG_PMESTS : byRaise CFG_PMESTS.id = true := raise_named_5.2.2.2.2.2.1
theorem in_CFG_STATUS : byRaise CFG_STATUS.id = true := raise_named_5.2.2.2.2.2.2.1
theorem in_CFG_UES : byRaise CFG_UES.id = true := raise_named_5.2.2.2.2.2.2.2.1
theorem in_CTX_ACC : byRaise CTX_ACC.id = true := raise_named_5.2.2.2.2.2.2.2.2.1
theorem in_CTX_B : byRaise CTX_B.id = true := raise_named_5.2.2.2.2.2.2.2.2.2.1
theorem in_CTX_EPOCH : byRaise CTX_EPOCH.id = true := raise_named_5.2.2.2.2.2.2.2.2.2.2.1
theorem in_CTX_KILLP : byRaise CTX_KILLP.id = true := raise_named_5.2.2.2.2.2.2.2.2.2.2.2
theorem raise_named_6 : byRaise CTX_MCNT.id = true ∧ byRaise CTX_MREV.id = true ∧ byRaise CTX_N.id = true ∧ byRaise CTX_OLD.id = true ∧ byRaise CTX_PC.id = true ∧ byRaise CTX_PEPOCH.id = true ∧ byRaise CTX_PSTAMP.id = true ∧ byRaise CTX_STAMP.id = true ∧ byRaise CTX_V.id = true ∧ byRaise CTX_WORDS.id = true ∧ byRaise CTX_X.id = true ∧ byRaise CTX_Z.id = true := by decide +kernel
theorem in_CTX_MCNT : byRaise CTX_MCNT.id = true := raise_named_6.1
theorem in_CTX_MREV : byRaise CTX_MREV.id = true := raise_named_6.2.1
theorem in_CTX_N : byRaise CTX_N.id = true := raise_named_6.2.2.1
theorem in_CTX_OLD : byRaise CTX_OLD.id = true := raise_named_6.2.2.2.1
theorem in_CTX_PC : byRaise CTX_PC.id = true := raise_named_6.2.2.2.2.1
theorem in_CTX_PEPOCH : byRaise CTX_PEPOCH.id = true := raise_named_6.2.2.2.2.2.1
theorem in_CTX_PSTAMP : byRaise CTX_PSTAMP.id = true := raise_named_6.2.2.2.2.2.2.1
theorem in_CTX_STAMP : byRaise CTX_STAMP.id = true := raise_named_6.2.2.2.2.2.2.2.1
theorem in_CTX_V : byRaise CTX_V.id = true := raise_named_6.2.2.2.2.2.2.2.2.1
theorem in_CTX_WORDS : byRaise CTX_WORDS.id = true := raise_named_6.2.2.2.2.2.2.2.2.2.1
theorem in_CTX_X : byRaise CTX_X.id = true := raise_named_6.2.2.2.2.2.2.2.2.2.2.1
theorem in_CTX_Z : byRaise CTX_Z.id = true := raise_named_6.2.2.2.2.2.2.2.2.2.2.2
theorem raise_named_7 : byRaise FLT_ASN.id = true ∧ byRaise FLT_CNT_ASSERTS.id = true ∧ byRaise FLT_CNT_FSTATE.id = true ∧ byRaise FLT_CURSEV.id = true ∧ byRaise FLT_EDGES.id = true ∧ byRaise FLT_FIRST_HI.id = true ∧ byRaise FLT_FIRST_INST.id = true ∧ byRaise FLT_FIRST_LO.id = true ∧ byRaise FLT_FIRST_SEV.id = true ∧ byRaise FLT_FIRST_SRC.id = true ∧ byRaise FLT_FIRST_TIME.id = true ∧ byRaise FLT_FIRST_VALID.id = true := by decide +kernel
theorem in_FLT_ASN : byRaise FLT_ASN.id = true := raise_named_7.1
theorem in_FLT_CNT_ASSERTS : byRaise FLT_CNT_ASSERTS.id = true := raise_named_7.2.1
theorem in_FLT_CNT_FSTATE : byRaise FLT_CNT_FSTATE.id = true := raise_named_7.2.2.1
theorem in_FLT_CURSEV : byRaise FLT_CURSEV.id = true := raise_named_7.2.2.2.1
theorem in_FLT_EDGES : byRaise FLT_EDGES.id = true := raise_named_7.2.2.2.2.1
theorem in_FLT_FIRST_HI : byRaise FLT_FIRST_HI.id = true := raise_named_7.2.2.2.2.2.1
theorem in_FLT_FIRST_INST : byRaise FLT_FIRST_INST.id = true := raise_named_7.2.2.2.2.2.2.1
theorem in_FLT_FIRST_LO : byRaise FLT_FIRST_LO.id = true := raise_named_7.2.2.2.2.2.2.2.1
theorem in_FLT_FIRST_SEV : byRaise FLT_FIRST_SEV.id = true := raise_named_7.2.2.2.2.2.2.2.2.1
theorem in_FLT_FIRST_SRC : byRaise FLT_FIRST_SRC.id = true := raise_named_7.2.2.2.2.2.2.2.2.2.1
theorem in_FLT_FIRST_TIME : byRaise FLT_FIRST_TIME.id = true := raise_named_7.2.2.2.2.2.2.2.2.2.2.1
theorem in_FLT_FIRST_VALID : byRaise FLT_FIRST_VALID.id = true := raise_named_7.2.2.2.2.2.2.2.2.2.2.2
theorem raise_named_8 : byRaise FLT_INJREAL.id = true ∧ byRaise FLT_LIVE.id = true ∧ byRaise FLT_SAFE_ACTIVE.id = true ∧ byRaise FLT_SAFE_ENTRIES.id = true ∧ byRaise FLT_STS.id = true ∧ byRaise FLT_TIMER.id = true ∧ byRaise FMT_CTL_RUN.id = true ∧ byRaise FMT_STS_RUNNING.id = true ∧ byRaise GLB_HELD.id = true ∧ byRaise HLK_WEN.id = true ∧ byRaise HLK_WENTRY.id = true ∧ byRaise LAN_CTL_OOS.id = true := by decide +kernel
theorem in_FLT_INJREAL : byRaise FLT_INJREAL.id = true := raise_named_8.1
theorem in_FLT_LIVE : byRaise FLT_LIVE.id = true := raise_named_8.2.1
theorem in_FLT_SAFE_ACTIVE : byRaise FLT_SAFE_ACTIVE.id = true := raise_named_8.2.2.1
theorem in_FLT_SAFE_ENTRIES : byRaise FLT_SAFE_ENTRIES.id = true := raise_named_8.2.2.2.1
theorem in_FLT_STS : byRaise FLT_STS.id = true := raise_named_8.2.2.2.2.1
theorem in_FLT_TIMER : byRaise FLT_TIMER.id = true := raise_named_8.2.2.2.2.2.1
theorem in_FMT_CTL_RUN : byRaise FMT_CTL_RUN.id = true := raise_named_8.2.2.2.2.2.2.1
theorem in_FMT_STS_RUNNING : byRaise FMT_STS_RUNNING.id = true := raise_named_8.2.2.2.2.2.2.2.1
theorem in_GLB_HELD : byRaise GLB_HELD.id = true := raise_named_8.2.2.2.2.2.2.2.2.1
theorem in_HLK_WEN : byRaise HLK_WEN.id = true := raise_named_8.2.2.2.2.2.2.2.2.2.1
theorem in_HLK_WENTRY : byRaise HLK_WENTRY.id = true := raise_named_8.2.2.2.2.2.2.2.2.2.2.1
theorem in_LAN_CTL_OOS : byRaise LAN_CTL_OOS.id = true := raise_named_8.2.2.2.2.2.2.2.2.2.2.2
theorem raise_named_9 : byRaise LAN_PAIR.id = true ∧ byRaise LAN_SPLIT.id = true ∧ byRaise LAN_STS_WRITING.id = true ∧ byRaise LAN_TRUNC.id = true ∧ byRaise LAN_TRUNCOFF.id = true ∧ byRaise LPE_CTXSTS_KILLED.id = true ∧ byRaise LPE_CTXSTS_MERGE.id = true ∧ byRaise LPE_CTXSTS_PENDING.id = true ∧ byRaise LPE_CTXSTS_STATE.id = true ∧ byRaise LPE_CTX_CUST.id = true ∧ byRaise LPE_CTX_EN.id = true ∧ byRaise LPE_CTX_ENTRY.id = true := by decide +kernel
theorem in_LAN_PAIR : byRaise LAN_PAIR.id = true := raise_named_9.1
theorem in_LAN_SPLIT : byRaise LAN_SPLIT.id = true := raise_named_9.2.1
theorem in_LAN_STS_WRITING : byRaise LAN_STS_WRITING.id = true := raise_named_9.2.2.1
theorem in_LAN_TRUNC : byRaise LAN_TRUNC.id = true := raise_named_9.2.2.2.1
theorem in_LAN_TRUNCOFF : byRaise LAN_TRUNCOFF.id = true := raise_named_9.2.2.2.2.1
theorem in_LPE_CTXSTS_KILLED : byRaise LPE_CTXSTS_KILLED.id = true := raise_named_9.2.2.2.2.2.1
theorem in_LPE_CTXSTS_MERGE : byRaise LPE_CTXSTS_MERGE.id = true := raise_named_9.2.2.2.2.2.2.1
theorem in_LPE_CTXSTS_PENDING : byRaise LPE_CTXSTS_PENDING.id = true := raise_named_9.2.2.2.2.2.2.2.1
theorem in_LPE_CTXSTS_STATE : byRaise LPE_CTXSTS_STATE.id = true := raise_named_9.2.2.2.2.2.2.2.2.1
theorem in_LPE_CTX_CUST : byRaise LPE_CTX_CUST.id = true := raise_named_9.2.2.2.2.2.2.2.2.2.1
theorem in_LPE_CTX_EN : byRaise LPE_CTX_EN.id = true := raise_named_9.2.2.2.2.2.2.2.2.2.2.1
theorem in_LPE_CTX_ENTRY : byRaise LPE_CTX_ENTRY.id = true := raise_named_9.2.2.2.2.2.2.2.2.2.2.2
theorem raise_named_10 : byRaise LPE_CTX_PRIO.id = true ∧ byRaise LPE_CTX_SRC.id = true ∧ byRaise LPE_IMGSTS_OLDBUSY.id = true ∧ byRaise LPE_SIL_FILL.id = true ∧ byRaise LPE_SIL_STS_MARK.id = true ∧ byRaise LPE_SIL_STS_STATE.id = true ∧ byRaise MGR_SYNCLOW.id = true ∧ byRaise MSIX_PBA.id = true ∧ byRaise NVQ_CFS.id = true ∧ byRaise NVQ_CNT_CMD.id = true ∧ byRaise NVQ_CNT_ERR.id = true ∧ byRaise NVQ_ERRCNT.id = true := by decide +kernel
theorem in_LPE_CTX_PRIO : byRaise LPE_CTX_PRIO.id = true := raise_named_10.1
theorem in_LPE_CTX_SRC : byRaise LPE_CTX_SRC.id = true := raise_named_10.2.1
theorem in_LPE_IMGSTS_OLDBUSY : byRaise LPE_IMGSTS_OLDBUSY.id = true := raise_named_10.2.2.1
theorem in_LPE_SIL_FILL : byRaise LPE_SIL_FILL.id = true := raise_named_10.2.2.2.1
theorem in_LPE_SIL_STS_MARK : byRaise LPE_SIL_STS_MARK.id = true := raise_named_10.2.2.2.2.1
theorem in_LPE_SIL_STS_STATE : byRaise LPE_SIL_STS_STATE.id = true := raise_named_10.2.2.2.2.2.1
theorem in_MGR_SYNCLOW : byRaise MGR_SYNCLOW.id = true := raise_named_10.2.2.2.2.2.2.1
theorem in_MSIX_PBA : byRaise MSIX_PBA.id = true := raise_named_10.2.2.2.2.2.2.2.1
theorem in_NVQ_CFS : byRaise NVQ_CFS.id = true := raise_named_10.2.2.2.2.2.2.2.2.1
theorem in_NVQ_CNT_CMD : byRaise NVQ_CNT_CMD.id = true := raise_named_10.2.2.2.2.2.2.2.2.2.1
theorem in_NVQ_CNT_ERR : byRaise NVQ_CNT_ERR.id = true := raise_named_10.2.2.2.2.2.2.2.2.2.2.1
theorem in_NVQ_ERRCNT : byRaise NVQ_ERRCNT.id = true := raise_named_10.2.2.2.2.2.2.2.2.2.2.2
theorem raise_named_11 : byRaise PAD_FAULT.id = true ∧ byRaise PAD_WAKE.id = true ∧ byRaise PCI_FRZ_BY_FAULT.id = true ∧ byRaise PCI_FRZ_DROP.id = true ∧ byRaise PCI_FRZ_FROZEN.id = true ∧ byRaise PCI_PME_PEND.id = true ∧ byRaise PCI_STS_FROZEN.id = true ∧ byRaise SIL_HEAD.id = true ∧ byRaise SIL_LEFT.id = true ∧ byRaise SPN_AGREEN.id = true ∧ byRaise SPN_BRAKED.id = true ∧ byRaise SPN_BRIDGE.id = true := by decide +kernel
theorem in_PAD_FAULT : byRaise PAD_FAULT.id = true := raise_named_11.1
theorem in_PAD_WAKE : byRaise PAD_WAKE.id = true := raise_named_11.2.1
theorem in_PCI_FRZ_BY_FAULT : byRaise PCI_FRZ_BY_FAULT.id = true := raise_named_11.2.2.1
theorem in_PCI_FRZ_DROP : byRaise PCI_FRZ_DROP.id = true := raise_named_11.2.2.2.1
theorem in_PCI_FRZ_FROZEN : byRaise PCI_FRZ_FROZEN.id = true := raise_named_11.2.2.2.2.1
theorem in_PCI_PME_PEND : byRaise PCI_PME_PEND.id = true := raise_named_11.2.2.2.2.2.1
theorem in_PCI_STS_FROZEN : byRaise PCI_STS_FROZEN.id = true := raise_named_11.2.2.2.2.2.2.1
theorem in_SIL_HEAD : byRaise SIL_HEAD.id = true := raise_named_11.2.2.2.2.2.2.2.1
theorem in_SIL_LEFT : byRaise SIL_LEFT.id = true := raise_named_11.2.2.2.2.2.2.2.2.1
theorem in_SPN_AGREEN : byRaise SPN_AGREEN.id = true := raise_named_11.2.2.2.2.2.2.2.2.2.1
theorem in_SPN_BRAKED : byRaise SPN_BRAKED.id = true := raise_named_11.2.2.2.2.2.2.2.2.2.2.1
theorem in_SPN_BRIDGE : byRaise SPN_BRIDGE.id = true := raise_named_11.2.2.2.2.2.2.2.2.2.2.2
theorem raise_named_12 : byRaise SPN_CALRUN.id = true ∧ byRaise SPN_CARRY.id = true ∧ byRaise SPN_CNT_COASTS.id = true ∧ byRaise SPN_COMDIF.id = true ∧ byRaise SPN_DDKIND.id = true ∧ byRaise SPN_DDREQ.id = true ∧ byRaise SPN_DISN.id = true ∧ byRaise SPN_EMFN.id = true ∧ byRaise SPN_ERRN.id = true ∧ byRaise SPN_FIRST.id = true ∧ byRaise SPN_GATE.id = true ∧ byRaise SPN_HELD.id = true := by decide +kernel
theorem in_SPN_CALRUN : byRaise SPN_CALRUN.id = true := raise_named_12.1
theorem in_SPN_CARRY : byRaise SPN_CARRY.id = true := raise_named_12.2.1
theorem in_SPN_CNT_COASTS : byRaise SPN_CNT_COASTS.id = true := raise_named_12.2.2.1
theorem in_SPN_COMDIF : byRaise SPN_COMDIF.id = true := raise_named_12.2.2.2.1
theorem in_SPN_DDKIND : byRaise SPN_DDKIND.id = true := raise_named_12.2.2.2.2.1
theorem in_SPN_DDREQ : byRaise SPN_DDREQ.id = true := raise_named_12.2.2.2.2.2.1
theorem in_SPN_DISN : byRaise SPN_DISN.id = true := raise_named_12.2.2.2.2.2.2.1
theorem in_SPN_EMFN : byRaise SPN_EMFN.id = true := raise_named_12.2.2.2.2.2.2.2.1
theorem in_SPN_ERRN : byRaise SPN_ERRN.id = true := raise_named_12.2.2.2.2.2.2.2.2.1
theorem in_SPN_FIRST : byRaise SPN_FIRST.id = true := raise_named_12.2.2.2.2.2.2.2.2.2.1
theorem in_SPN_GATE : byRaise SPN_GATE.id = true := raise_named_12.2.2.2.2.2.2.2.2.2.2.1
theorem in_SPN_HELD : byRaise SPN_HELD.id = true := raise_named_12.2.2.2.2.2.2.2.2.2.2.2
theorem raise_named_13 : byRaise SPN_IDDEM.id = true ∧ byRaise SPN_INVN.id = true ∧ byRaise SPN_IQDEM.id = true ∧ byRaise SPN_LGREF.id = true ∧ byRaise SPN_LOCKN.id = true ∧ byRaise SPN_OBSLOST.id = true ∧ byRaise SPN_OBSSPD.id = true ∧ byRaise SPN_OCFAIL.id = true ∧ byRaise SPN_OCTIME.id = true ∧ byRaise SPN_OCWAIT.id = true ∧ byRaise SPN_ON.id = true ∧ byRaise SPN_ONPILOT.id = true := by decide +kernel
theorem in_SPN_IDDEM : byRaise SPN_IDDEM.id = true := raise_named_13.1
theorem in_SPN_INVN : byRaise SPN_INVN.id = true := raise_named_13.2.1
theorem in_SPN_IQDEM : byRaise SPN_IQDEM.id = true := raise_named_13.2.2.1
theorem in_SPN_LGREF : byRaise SPN_LGREF.id = true := raise_named_13.2.2.2.1
theorem in_SPN_LOCKN : byRaise SPN_LOCKN.id = true := raise_named_13.2.2.2.2.1
theorem in_SPN_OBSLOST : byRaise SPN_OBSLOST.id = true := raise_named_13.2.2.2.2.2.1
theorem in_SPN_OBSSPD : byRaise SPN_OBSSPD.id = true := raise_named_13.2.2.2.2.2.2.1
theorem in_SPN_OCFAIL : byRaise SPN_OCFAIL.id = true := raise_named_13.2.2.2.2.2.2.2.1
theorem in_SPN_OCTIME : byRaise SPN_OCTIME.id = true := raise_named_13.2.2.2.2.2.2.2.2.1
theorem in_SPN_OCWAIT : byRaise SPN_OCWAIT.id = true := raise_named_13.2.2.2.2.2.2.2.2.2.1
theorem in_SPN_ON : byRaise SPN_ON.id = true := raise_named_13.2.2.2.2.2.2.2.2.2.2.1
theorem in_SPN_ONPILOT : byRaise SPN_ONPILOT.id = true := raise_named_13.2.2.2.2.2.2.2.2.2.2.2
theorem raise_named_14 : byRaise SPN_SLEWING.id = true ∧ byRaise SPN_STATE_DRYPEND.id = true ∧ byRaise SPN_STATE_FAULTLOCK.id = true ∧ byRaise SPN_STATE_LASTGASP.id = true ∧ byRaise SPN_STATE_LOADOK.id = true ∧ byRaise SPN_STATE_OBSLOCK.id = true ∧ byRaise SPN_STATE_STATE.id = true ∧ byRaise SRV_DAC.id = true ∧ byRaise SRV_DRVEN.id = true ∧ byRaise SRV_HSTS_SAT.id = true ∧ byRaise SRV_PES_S.id = true ∧ byRaise SRV_PHASE.id = true := by decide +kernel
theorem in_SPN_SLEWING : byRaise SPN_SLEWING.id = true := raise_named_14.1
theorem in_SPN_STATE_DRYPEND : byRaise SPN_STATE_DRYPEND.id = true := raise_named_14.2.1
theorem in_SPN_STATE_FAULTLOCK : byRaise SPN_STATE_FAULTLOCK.id = true := raise_named_14.2.2.1
theorem in_SPN_STATE_LASTGASP : byRaise SPN_STATE_LASTGASP.id = true := raise_named_14.2.2.2.1
theorem in_SPN_STATE_LOADOK : byRaise SPN_STATE_LOADOK.id = true := raise_named_14.2.2.2.2.1
theorem in_SPN_STATE_OBSLOCK : byRaise SPN_STATE_OBSLOCK.id = true := raise_named_14.2.2.2.2.2.1
theorem in_SPN_STATE_STATE : byRaise SPN_STATE_STATE.id = true := raise_named_14.2.2.2.2.2.2.1
theorem in_SRV_DAC : byRaise SRV_DAC.id = true := raise_named_14.2.2.2.2.2.2.2.1
theorem in_SRV_DRVEN : byRaise SRV_DRVEN.id = true := raise_named_14.2.2.2.2.2.2.2.2.1
theorem in_SRV_HSTS_SAT : byRaise SRV_HSTS_SAT.id = true := raise_named_14.2.2.2.2.2.2.2.2.2.1
theorem in_SRV_PES_S : byRaise SRV_PES_S.id = true := raise_named_14.2.2.2.2.2.2.2.2.2.2.1
theorem in_SRV_PHASE : byRaise SRV_PHASE.id = true := raise_named_14.2.2.2.2.2.2.2.2.2.2.2
theorem raise_named_15 : byRaise SRV_RET_STS_ENGAGED.id = true ∧ byRaise SRV_RET_STS_PARKED.id = true ∧ byRaise SRV_RET_STS_RETRACTS.id = true ∧ byRaise SRV_SATN.id = true ∧ byRaise SRV_STS_BLEND.id = true ∧ byRaise SRV_STS_RVLOCK.id = true ∧ byRaise SRV_STS_STATE.id = true ∧ byRaise SRV_UNLOAD.id = true := by decide +kernel
theorem in_SRV_RET_STS_ENGAGED : byRaise SRV_RET_STS_ENGAGED.id = true := raise_named_15.1
theorem in_SRV_RET_STS_PARKED : byRaise SRV_RET_STS_PARKED.id = true := raise_named_15.2.1
theorem in_SRV_RET_STS_RETRACTS : byRaise SRV_RET_STS_RETRACTS.id = true := raise_named_15.2.2.1
theorem in_SRV_SATN : byRaise SRV_SATN.id = true := raise_named_15.2.2.2.1
theorem in_SRV_STS_BLEND : byRaise SRV_STS_BLEND.id = true := raise_named_15.2.2.2.2.1
theorem in_SRV_STS_RVLOCK : byRaise SRV_STS_RVLOCK.id = true := raise_named_15.2.2.2.2.2.1
theorem in_SRV_STS_STATE : byRaise SRV_STS_STATE.id = true := raise_named_15.2.2.2.2.2.2.1
theorem in_SRV_UNLOAD : byRaise SRV_UNLOAD.id = true := raise_named_15.2.2.2.2.2.2.2
theorem settle_named_0 : bySettle ACD_CTL_RUN.id = true ∧ bySettle ACD_CURN.id = true ∧ bySettle ACD_DEGR.id = true ∧ bySettle ACD_JREQ.id = true ∧ bySettle ACD_LOST.id = true ∧ bySettle ACD_NOWROW.id = true ∧ bySettle ACD_NOWZONE.id = true ∧ bySettle ACD_OLD.id = true ∧ bySettle ACD_PASS_CUR_ROW.id = true ∧ bySettle ACD_PASS_CUR_ZONE.id = true ∧ bySettle ACD_PASS_DONE.id = true ∧ bySettle ACD_PASS_LEVEL.id = true := by decide +kernel
theorem into_ACD_CTL_RUN : bySettle ACD_CTL_RUN.id = true := settle_named_0.1
theorem into_ACD_CURN : bySettle ACD_CURN.id = true := settle_named_0.2.1
theorem into_ACD_DEGR : bySettle ACD_DEGR.id = true := settle_named_0.2.2.1
theorem into_ACD_JREQ : bySettle ACD_JREQ.id = true := settle_named_0.2.2.2.1
theorem into_ACD_LOST : bySettle ACD_LOST.id = true := settle_named_0.2.2.2.2.1
theorem into_ACD_NOWROW : bySettle ACD_NOWROW.id = true := settle_named_0.2.2.2.2.2.1
theorem into_ACD_NOWZONE : bySettle ACD_NOWZONE.id = true := settle_named_0.2.2.2.2.2.2.1
theorem into_ACD_OLD : bySettle ACD_OLD.id = true := settle_named_0.2.2.2.2.2.2.2.1
theorem into_ACD_PASS_CUR_ROW : bySettle ACD_PASS_CUR_ROW.id = true := settle_named_0.2.2.2.2.2.2.2.2.1
theorem into_ACD_PASS_CUR_ZONE : bySettle ACD_PASS_CUR_ZONE.id = true := settle_named_0.2.2.2.2.2.2.2.2.2.1
theorem into_ACD_PASS_DONE : bySettle ACD_PASS_DONE.id = true := settle_named_0.2.2.2.2.2.2.2.2.2.2.1
theorem into_ACD_PASS_LEVEL : bySettle ACD_PASS_LEVEL.id = true := settle_named_0.2.2.2.2.2.2.2.2.2.2.2
theorem settle_named_1 : bySettle ACD_PASS_MASK.id = true ∧ bySettle ACD_PASS_START_ROW.id = true ∧ bySettle ACD_PASS_START_ZONE.id = true ∧ bySettle ACD_PASS_VALID.id = true ∧ bySettle ACD_PEND.id = true ∧ bySettle ACD_PSER.id = true ∧ bySettle ACD_PSIDE.id = true ∧ bySettle ACD_RBLD_CUR_ACTIVE.id = true ∧ bySettle ACD_RBLD_CUR_DONE.id = true ∧ bySettle ACD_RBLD_CUR_LEVEL.id = true ∧ bySettle ACD_RBLD_CUR_PASS.id = true ∧ bySettle ACD_RBLD_CUR_ROW.id = true := by decide +kernel
theorem into_ACD_PASS_MASK : bySettle ACD_PASS_MASK.id = true := settle_named_1.1
theorem into_ACD_PASS_START_ROW : bySettle ACD_PASS_START_ROW.id = true := settle_named_1.2.1
theorem into_ACD_PASS_START_ZONE : bySettle ACD_PASS_START_ZONE.id = true := settle_named_1.2.2.1
theorem into_ACD_PASS_VALID : bySettle ACD_PASS_VALID.id = true := settle_named_1.2.2.2.1
theorem into_ACD_PEND : bySettle ACD_PEND.id = true := settle_named_1.2.2.2.2.1
theorem into_ACD_PSER : bySettle ACD_PSER.id = true := settle_named_1.2.2.2.2.2.1
theorem into_ACD_PSIDE : bySettle ACD_PSIDE.id = true := settle_named_1.2.2.2.2.2.2.1
theorem into_ACD_RBLD_CUR_ACTIVE : bySettle ACD_RBLD_CUR_ACTIVE.id = true := settle_named_1.2.2.2.2.2.2.2.1
theorem into_ACD_RBLD_CUR_DONE : bySettle ACD_RBLD_CUR_DONE.id = true := settle_named_1.2.2.2.2.2.2.2.2.1
theorem into_ACD_RBLD_CUR_LEVEL : bySettle ACD_RBLD_CUR_LEVEL.id = true := settle_named_1.2.2.2.2.2.2.2.2.2.1
theorem into_ACD_RBLD_CUR_PASS : bySettle ACD_RBLD_CUR_PASS.id = true := settle_named_1.2.2.2.2.2.2.2.2.2.2.1
theorem into_ACD_RBLD_CUR_ROW : bySettle ACD_RBLD_CUR_ROW.id = true := settle_named_1.2.2.2.2.2.2.2.2.2.2.2
theorem settle_named_2 : bySettle ACD_RBLD_CUR_ZONE.id = true ∧ bySettle ACD_STS_DEGR_CNT.id = true ∧ bySettle ACD_STS_LOST_CNT.id = true ∧ bySettle ACD_STS_REBUILDING.id = true ∧ bySettle ACD_STS_RUNNING.id = true ∧ bySettle ACD_VISIT.id = true ∧ bySettle ACD_ZDONE.id = true ∧ bySettle ANG_CMPLATE.id = true ∧ bySettle ANG_EPOCH.id = true ∧ bySettle ANG_FRAC.id = true ∧ bySettle ANG_IDXVALID.id = true ∧ bySettle ANG_LASTIDX.id = true := by decide +kernel
theorem into_ACD_RBLD_CUR_ZONE : bySettle ACD_RBLD_CUR_ZONE.id = true := settle_named_2.1
theorem into_ACD_STS_DEGR_CNT : bySettle ACD_STS_DEGR_CNT.id = true := settle_named_2.2.1
theorem into_ACD_STS_LOST_CNT : bySettle ACD_STS_LOST_CNT.id = true := settle_named_2.2.2.1
theorem into_ACD_STS_REBUILDING : bySettle ACD_STS_REBUILDING.id = true := settle_named_2.2.2.2.1
theorem into_ACD_STS_RUNNING : bySettle ACD_STS_RUNNING.id = true := settle_named_2.2.2.2.2.1
theorem into_ACD_VISIT : bySettle ACD_VISIT.id = true := settle_named_2.2.2.2.2.2.1
theorem into_ACD_ZDONE : bySettle ACD_ZDONE.id = true := settle_named_2.2.2.2.2.2.2.1
theorem into_ANG_CMPLATE : bySettle ANG_CMPLATE.id = true := settle_named_2.2.2.2.2.2.2.2.1
theorem into_ANG_EPOCH : bySettle ANG_EPOCH.id = true := settle_named_2.2.2.2.2.2.2.2.2.1
theorem into_ANG_FRAC : bySettle ANG_FRAC.id = true := settle_named_2.2.2.2.2.2.2.2.2.2.1
theorem into_ANG_IDXVALID : bySettle ANG_IDXVALID.id = true := settle_named_2.2.2.2.2.2.2.2.2.2.2.1
theorem into_ANG_LASTIDX : bySettle ANG_LASTIDX.id = true := settle_named_2.2.2.2.2.2.2.2.2.2.2.2
theorem settle_named_3 : bySettle ANG_PERIOD.id = true ∧ bySettle ANG_SLEWCNT.id = true ∧ bySettle ANG_SLEWDUE.id = true ∧ bySettle ANG_SLEWREM.id = true ∧ bySettle ANG_SRCOFS.id = true ∧ bySettle ANG_SRC_CHANGES.id = true ∧ bySettle ANG_SRC_PRECISE.id = true ∧ bySettle ANG_SRC_SLEW.id = true ∧ bySettle ANG_SRC_SRC.id = true ∧ bySettle ANG_STAMP_HI.id = true ∧ bySettle ANG_STAMP_LO.id = true ∧ bySettle ANG_STEPLEN.id = true := by decide +kernel
theorem into_ANG_PERIOD : bySettle ANG_PERIOD.id = true := settle_named_3.1
theorem into_ANG_SLEWCNT : bySettle ANG_SLEWCNT.id = true := settle_named_3.2.1
theorem into_ANG_SLEWDUE : bySettle ANG_SLEWDUE.id = true := settle_named_3.2.2.1
theorem into_ANG_SLEWREM : bySettle ANG_SLEWREM.id = true := settle_named_3.2.2.2.1
theorem into_ANG_SRCOFS : bySettle ANG_SRCOFS.id = true := settle_named_3.2.2.2.2.1
theorem into_ANG_SRC_CHANGES : bySettle ANG_SRC_CHANGES.id = true := settle_named_3.2.2.2.2.2.1
theorem into_ANG_SRC_PRECISE : bySettle ANG_SRC_PRECISE.id = true := settle_named_3.2.2.2.2.2.2.1
theorem into_ANG_SRC_SLEW : bySettle ANG_SRC_SLEW.id = true := settle_named_3.2.2.2.2.2.2.2.1
theorem into_ANG_SRC_SRC : bySettle ANG_SRC_SRC.id = true := settle_named_3.2.2.2.2.2.2.2.2.1
theorem into_ANG_STAMP_HI : bySettle ANG_STAMP_HI.id = true := settle_named_3.2.2.2.2.2.2.2.2.2.1
theorem into_ANG_STAMP_LO : bySettle ANG_STAMP_LO.id = true := settle_named_3.2.2.2.2.2.2.2.2.2.2.1
theorem into_ANG_STEPLEN : bySettle ANG_STEPLEN.id = true := settle_named_3.2.2.2.2.2.2.2.2.2.2.2
theorem settle_named_4 : bySettle ANG_STILLPOS.id = true ∧ bySettle BNR_DUMPSEQ.id = true ∧ bySettle BNR_NOR_FREE.id = true ∧ bySettle BNR_NOR_LAST_COMPLETE.id = true ∧ bySettle BNR_NOR_LAST_ENTRIES.id = true ∧ bySettle BNR_NOR_LAST_SLOT.id = true ∧ bySettle BNR_STS_DUMPING.id = true ∧ bySettle BNR_STS_HEAD.id = true ∧ bySettle BNR_STS_NOSLOT.id = true ∧ bySettle BNR_STS_SEQ.id = true ∧ bySettle BNR_STS_WRAPPED.id = true ∧ bySettle BUF_DMAHALT.id = true := by decide +kernel
theorem into_ANG_STILLPOS : bySettle ANG_STILLPOS.id = true := settle_named_4.1
theorem into_BNR_DUMPSEQ : bySettle BNR_DUMPSEQ.id = true := settle_named_4.2.1
theorem into_BNR_NOR_FREE : bySettle BNR_NOR_FREE.id = true := settle_named_4.2.2.1
theorem into_BNR_NOR_LAST_COMPLETE : bySettle BNR_NOR_LAST_COMPLETE.id = true := settle_named_4.2.2.2.1
theorem into_BNR_NOR_LAST_ENTRIES : bySettle BNR_NOR_LAST_ENTRIES.id = true := settle_named_4.2.2.2.2.1
theorem into_BNR_NOR_LAST_SLOT : bySettle BNR_NOR_LAST_SLOT.id = true := settle_named_4.2.2.2.2.2.1
theorem into_BNR_STS_DUMPING : bySettle BNR_STS_DUMPING.id = true := settle_named_4.2.2.2.2.2.2.1
theorem into_BNR_STS_HEAD : bySettle BNR_STS_HEAD.id = true := settle_named_4.2.2.2.2.2.2.2.1
theorem into_BNR_STS_NOSLOT : bySettle BNR_STS_NOSLOT.id = true := settle_named_4.2.2.2.2.2.2.2.2.1
theorem into_BNR_STS_SEQ : bySettle BNR_STS_SEQ.id = true := settle_named_4.2.2.2.2.2.2.2.2.2.1
theorem into_BNR_STS_WRAPPED : bySettle BNR_STS_WRAPPED.id = true := settle_named_4.2.2.2.2.2.2.2.2.2.2.1
theorem into_BUF_DMAHALT : bySettle BUF_DMAHALT.id = true := settle_named_4.2.2.2.2.2.2.2.2.2.2.2
theorem settle_named_5 : bySettle CFG_CES.id = true ∧ bySettle CFG_DEVSTS.id = true ∧ bySettle CFG_FEP.id = true ∧ bySettle CFG_HLOG.id = true ∧ bySettle CFG_INTA.id = true ∧ bySettle CFG_PMESTS.id = true ∧ bySettle CFG_STATUS.id = true ∧ bySettle CFG_UES.id = true ∧ bySettle CTX_ACC.id = true ∧ bySettle CTX_B.id = true ∧ bySettle CTX_EPOCH.id = true ∧ bySettle CTX_KILLP.id = true := by decide +kernel
theorem into_CFG_CES : bySettle CFG_CES.id = true := settle_named_5.1
theorem into_CFG_DEVSTS : bySettle CFG_DEVSTS.id = true := settle_named_5.2.1
theorem into_CFG_FEP : bySettle CFG_FEP.id = true := settle_named_5.2.2.1
theorem into_CFG_HLOG : bySettle CFG_HLOG.id = true := settle_named_5.2.2.2.1
theorem into_CFG_INTA : bySettle CFG_INTA.id = true := settle_named_5.2.2.2.2.1
theorem into_CFG_PMESTS : bySettle CFG_PMESTS.id = true := settle_named_5.2.2.2.2.2.1
theorem into_CFG_STATUS : bySettle CFG_STATUS.id = true := settle_named_5.2.2.2.2.2.2.1
theorem into_CFG_UES : bySettle CFG_UES.id = true := settle_named_5.2.2.2.2.2.2.2.1
theorem into_CTX_ACC : bySettle CTX_ACC.id = true := settle_named_5.2.2.2.2.2.2.2.2.1
theorem into_CTX_B : bySettle CTX_B.id = true := settle_named_5.2.2.2.2.2.2.2.2.2.1
theorem into_CTX_EPOCH : bySettle CTX_EPOCH.id = true := settle_named_5.2.2.2.2.2.2.2.2.2.2.1
theorem into_CTX_KILLP : bySettle CTX_KILLP.id = true := settle_named_5.2.2.2.2.2.2.2.2.2.2.2
theorem settle_named_6 : bySettle CTX_MCNT.id = true ∧ bySettle CTX_MREV.id = true ∧ bySettle CTX_N.id = true ∧ bySettle CTX_OLD.id = true ∧ bySettle CTX_PC.id = true ∧ bySettle CTX_PEPOCH.id = true ∧ bySettle CTX_PSTAMP.id = true ∧ bySettle CTX_STAMP.id = true ∧ bySettle CTX_V.id = true ∧ bySettle CTX_WORDS.id = true ∧ bySettle CTX_X.id = true ∧ bySettle CTX_Z.id = true := by decide +kernel
theorem into_CTX_MCNT : bySettle CTX_MCNT.id = true := settle_named_6.1
theorem into_CTX_MREV : bySettle CTX_MREV.id = true := settle_named_6.2.1
theorem into_CTX_N : bySettle CTX_N.id = true := settle_named_6.2.2.1
theorem into_CTX_OLD : bySettle CTX_OLD.id = true := settle_named_6.2.2.2.1
theorem into_CTX_PC : bySettle CTX_PC.id = true := settle_named_6.2.2.2.2.1
theorem into_CTX_PEPOCH : bySettle CTX_PEPOCH.id = true := settle_named_6.2.2.2.2.2.1
theorem into_CTX_PSTAMP : bySettle CTX_PSTAMP.id = true := settle_named_6.2.2.2.2.2.2.1
theorem into_CTX_STAMP : bySettle CTX_STAMP.id = true := settle_named_6.2.2.2.2.2.2.2.1
theorem into_CTX_V : bySettle CTX_V.id = true := settle_named_6.2.2.2.2.2.2.2.2.1
theorem into_CTX_WORDS : bySettle CTX_WORDS.id = true := settle_named_6.2.2.2.2.2.2.2.2.2.1
theorem into_CTX_X : bySettle CTX_X.id = true := settle_named_6.2.2.2.2.2.2.2.2.2.2.1
theorem into_CTX_Z : bySettle CTX_Z.id = true := settle_named_6.2.2.2.2.2.2.2.2.2.2.2
theorem settle_named_7 : bySettle FLT_ASN.id = true ∧ bySettle FLT_CNT_ASSERTS.id = true ∧ bySettle FLT_CNT_FSTATE.id = true ∧ bySettle FLT_CURSEV.id = true ∧ bySettle FLT_EDGES.id = true ∧ bySettle FLT_FIRST_HI.id = true ∧ bySettle FLT_FIRST_INST.id = true ∧ bySettle FLT_FIRST_LO.id = true ∧ bySettle FLT_FIRST_SEV.id = true ∧ bySettle FLT_FIRST_SRC.id = true ∧ bySettle FLT_FIRST_TIME.id = true ∧ bySettle FLT_FIRST_VALID.id = true := by decide +kernel
theorem into_FLT_ASN : bySettle FLT_ASN.id = true := settle_named_7.1
theorem into_FLT_CNT_ASSERTS : bySettle FLT_CNT_ASSERTS.id = true := settle_named_7.2.1
theorem into_FLT_CNT_FSTATE : bySettle FLT_CNT_FSTATE.id = true := settle_named_7.2.2.1
theorem into_FLT_CURSEV : bySettle FLT_CURSEV.id = true := settle_named_7.2.2.2.1
theorem into_FLT_EDGES : bySettle FLT_EDGES.id = true := settle_named_7.2.2.2.2.1
theorem into_FLT_FIRST_HI : bySettle FLT_FIRST_HI.id = true := settle_named_7.2.2.2.2.2.1
theorem into_FLT_FIRST_INST : bySettle FLT_FIRST_INST.id = true := settle_named_7.2.2.2.2.2.2.1
theorem into_FLT_FIRST_LO : bySettle FLT_FIRST_LO.id = true := settle_named_7.2.2.2.2.2.2.2.1
theorem into_FLT_FIRST_SEV : bySettle FLT_FIRST_SEV.id = true := settle_named_7.2.2.2.2.2.2.2.2.1
theorem into_FLT_FIRST_SRC : bySettle FLT_FIRST_SRC.id = true := settle_named_7.2.2.2.2.2.2.2.2.2.1
theorem into_FLT_FIRST_TIME : bySettle FLT_FIRST_TIME.id = true := settle_named_7.2.2.2.2.2.2.2.2.2.2.1
theorem into_FLT_FIRST_VALID : bySettle FLT_FIRST_VALID.id = true := settle_named_7.2.2.2.2.2.2.2.2.2.2.2
theorem settle_named_8 : bySettle FLT_INJREAL.id = true ∧ bySettle FLT_LIVE.id = true ∧ bySettle FLT_SAFE_ACTIVE.id = true ∧ bySettle FLT_SAFE_ENTRIES.id = true ∧ bySettle FLT_STS.id = true ∧ bySettle FLT_TIMER.id = true ∧ bySettle FMT_CTL_RUN.id = true ∧ bySettle FMT_STS_RUNNING.id = true ∧ bySettle GLB_HELD.id = true ∧ bySettle HLK_WEN.id = true ∧ bySettle HLK_WENTRY.id = true ∧ bySettle LAN_CTL_OOS.id = true := by decide +kernel
theorem into_FLT_INJREAL : bySettle FLT_INJREAL.id = true := settle_named_8.1
theorem into_FLT_LIVE : bySettle FLT_LIVE.id = true := settle_named_8.2.1
theorem into_FLT_SAFE_ACTIVE : bySettle FLT_SAFE_ACTIVE.id = true := settle_named_8.2.2.1
theorem into_FLT_SAFE_ENTRIES : bySettle FLT_SAFE_ENTRIES.id = true := settle_named_8.2.2.2.1
theorem into_FLT_STS : bySettle FLT_STS.id = true := settle_named_8.2.2.2.2.1
theorem into_FLT_TIMER : bySettle FLT_TIMER.id = true := settle_named_8.2.2.2.2.2.1
theorem into_FMT_CTL_RUN : bySettle FMT_CTL_RUN.id = true := settle_named_8.2.2.2.2.2.2.1
theorem into_FMT_STS_RUNNING : bySettle FMT_STS_RUNNING.id = true := settle_named_8.2.2.2.2.2.2.2.1
theorem into_GLB_HELD : bySettle GLB_HELD.id = true := settle_named_8.2.2.2.2.2.2.2.2.1
theorem into_HLK_WEN : bySettle HLK_WEN.id = true := settle_named_8.2.2.2.2.2.2.2.2.2.1
theorem into_HLK_WENTRY : bySettle HLK_WENTRY.id = true := settle_named_8.2.2.2.2.2.2.2.2.2.2.1
theorem into_LAN_CTL_OOS : bySettle LAN_CTL_OOS.id = true := settle_named_8.2.2.2.2.2.2.2.2.2.2.2
theorem settle_named_9 : bySettle LAN_PAIR.id = true ∧ bySettle LAN_SPLIT.id = true ∧ bySettle LAN_STS_WRITING.id = true ∧ bySettle LAN_TRUNC.id = true ∧ bySettle LAN_TRUNCOFF.id = true ∧ bySettle LPE_CTXSTS_KILLED.id = true ∧ bySettle LPE_CTXSTS_MERGE.id = true ∧ bySettle LPE_CTXSTS_PENDING.id = true ∧ bySettle LPE_CTXSTS_STATE.id = true ∧ bySettle LPE_CTX_CUST.id = true ∧ bySettle LPE_CTX_EN.id = true ∧ bySettle LPE_CTX_ENTRY.id = true := by decide +kernel
theorem into_LAN_PAIR : bySettle LAN_PAIR.id = true := settle_named_9.1
theorem into_LAN_SPLIT : bySettle LAN_SPLIT.id = true := settle_named_9.2.1
theorem into_LAN_STS_WRITING : bySettle LAN_STS_WRITING.id = true := settle_named_9.2.2.1
theorem into_LAN_TRUNC : bySettle LAN_TRUNC.id = true := settle_named_9.2.2.2.1
theorem into_LAN_TRUNCOFF : bySettle LAN_TRUNCOFF.id = true := settle_named_9.2.2.2.2.1
theorem into_LPE_CTXSTS_KILLED : bySettle LPE_CTXSTS_KILLED.id = true := settle_named_9.2.2.2.2.2.1
theorem into_LPE_CTXSTS_MERGE : bySettle LPE_CTXSTS_MERGE.id = true := settle_named_9.2.2.2.2.2.2.1
theorem into_LPE_CTXSTS_PENDING : bySettle LPE_CTXSTS_PENDING.id = true := settle_named_9.2.2.2.2.2.2.2.1
theorem into_LPE_CTXSTS_STATE : bySettle LPE_CTXSTS_STATE.id = true := settle_named_9.2.2.2.2.2.2.2.2.1
theorem into_LPE_CTX_CUST : bySettle LPE_CTX_CUST.id = true := settle_named_9.2.2.2.2.2.2.2.2.2.1
theorem into_LPE_CTX_EN : bySettle LPE_CTX_EN.id = true := settle_named_9.2.2.2.2.2.2.2.2.2.2.1
theorem into_LPE_CTX_ENTRY : bySettle LPE_CTX_ENTRY.id = true := settle_named_9.2.2.2.2.2.2.2.2.2.2.2
theorem settle_named_10 : bySettle LPE_CTX_PRIO.id = true ∧ bySettle LPE_CTX_SRC.id = true ∧ bySettle LPE_IMGSTS_OLDBUSY.id = true ∧ bySettle LPE_SIL_FILL.id = true ∧ bySettle LPE_SIL_STS_MARK.id = true ∧ bySettle LPE_SIL_STS_STATE.id = true ∧ bySettle MGR_SYNCLOW.id = true ∧ bySettle MSIX_PBA.id = true ∧ bySettle NVQ_CFS.id = true ∧ bySettle NVQ_CNT_CMD.id = true ∧ bySettle NVQ_CNT_ERR.id = true ∧ bySettle NVQ_ERRCNT.id = true := by decide +kernel
theorem into_LPE_CTX_PRIO : bySettle LPE_CTX_PRIO.id = true := settle_named_10.1
theorem into_LPE_CTX_SRC : bySettle LPE_CTX_SRC.id = true := settle_named_10.2.1
theorem into_LPE_IMGSTS_OLDBUSY : bySettle LPE_IMGSTS_OLDBUSY.id = true := settle_named_10.2.2.1
theorem into_LPE_SIL_FILL : bySettle LPE_SIL_FILL.id = true := settle_named_10.2.2.2.1
theorem into_LPE_SIL_STS_MARK : bySettle LPE_SIL_STS_MARK.id = true := settle_named_10.2.2.2.2.1
theorem into_LPE_SIL_STS_STATE : bySettle LPE_SIL_STS_STATE.id = true := settle_named_10.2.2.2.2.2.1
theorem into_MGR_SYNCLOW : bySettle MGR_SYNCLOW.id = true := settle_named_10.2.2.2.2.2.2.1
theorem into_MSIX_PBA : bySettle MSIX_PBA.id = true := settle_named_10.2.2.2.2.2.2.2.1
theorem into_NVQ_CFS : bySettle NVQ_CFS.id = true := settle_named_10.2.2.2.2.2.2.2.2.1
theorem into_NVQ_CNT_CMD : bySettle NVQ_CNT_CMD.id = true := settle_named_10.2.2.2.2.2.2.2.2.2.1
theorem into_NVQ_CNT_ERR : bySettle NVQ_CNT_ERR.id = true := settle_named_10.2.2.2.2.2.2.2.2.2.2.1
theorem into_NVQ_ERRCNT : bySettle NVQ_ERRCNT.id = true := settle_named_10.2.2.2.2.2.2.2.2.2.2.2
theorem settle_named_11 : bySettle PAD_FAULT.id = true ∧ bySettle PAD_WAKE.id = true ∧ bySettle PCI_FRZ_BY_FAULT.id = true ∧ bySettle PCI_FRZ_DROP.id = true ∧ bySettle PCI_FRZ_FROZEN.id = true ∧ bySettle PCI_PME_PEND.id = true ∧ bySettle PCI_STS_FROZEN.id = true ∧ bySettle SIL_HEAD.id = true ∧ bySettle SIL_LEFT.id = true ∧ bySettle SPN_AGREEN.id = true ∧ bySettle SPN_BRAKED.id = true ∧ bySettle SPN_BRIDGE.id = true := by decide +kernel
theorem into_PAD_FAULT : bySettle PAD_FAULT.id = true := settle_named_11.1
theorem into_PAD_WAKE : bySettle PAD_WAKE.id = true := settle_named_11.2.1
theorem into_PCI_FRZ_BY_FAULT : bySettle PCI_FRZ_BY_FAULT.id = true := settle_named_11.2.2.1
theorem into_PCI_FRZ_DROP : bySettle PCI_FRZ_DROP.id = true := settle_named_11.2.2.2.1
theorem into_PCI_FRZ_FROZEN : bySettle PCI_FRZ_FROZEN.id = true := settle_named_11.2.2.2.2.1
theorem into_PCI_PME_PEND : bySettle PCI_PME_PEND.id = true := settle_named_11.2.2.2.2.2.1
theorem into_PCI_STS_FROZEN : bySettle PCI_STS_FROZEN.id = true := settle_named_11.2.2.2.2.2.2.1
theorem into_SIL_HEAD : bySettle SIL_HEAD.id = true := settle_named_11.2.2.2.2.2.2.2.1
theorem into_SIL_LEFT : bySettle SIL_LEFT.id = true := settle_named_11.2.2.2.2.2.2.2.2.1
theorem into_SPN_AGREEN : bySettle SPN_AGREEN.id = true := settle_named_11.2.2.2.2.2.2.2.2.2.1
theorem into_SPN_BRAKED : bySettle SPN_BRAKED.id = true := settle_named_11.2.2.2.2.2.2.2.2.2.2.1
theorem into_SPN_BRIDGE : bySettle SPN_BRIDGE.id = true := settle_named_11.2.2.2.2.2.2.2.2.2.2.2
theorem settle_named_12 : bySettle SPN_CALRUN.id = true ∧ bySettle SPN_CARRY.id = true ∧ bySettle SPN_CNT_COASTS.id = true ∧ bySettle SPN_COMDIF.id = true ∧ bySettle SPN_DDKIND.id = true ∧ bySettle SPN_DDREQ.id = true ∧ bySettle SPN_DISN.id = true ∧ bySettle SPN_EMFN.id = true ∧ bySettle SPN_ERRN.id = true ∧ bySettle SPN_FIRST.id = true ∧ bySettle SPN_GATE.id = true ∧ bySettle SPN_HELD.id = true := by decide +kernel
theorem into_SPN_CALRUN : bySettle SPN_CALRUN.id = true := settle_named_12.1
theorem into_SPN_CARRY : bySettle SPN_CARRY.id = true := settle_named_12.2.1
theorem into_SPN_CNT_COASTS : bySettle SPN_CNT_COASTS.id = true := settle_named_12.2.2.1
theorem into_SPN_COMDIF : bySettle SPN_COMDIF.id = true := settle_named_12.2.2.2.1
theorem into_SPN_DDKIND : bySettle SPN_DDKIND.id = true := settle_named_12.2.2.2.2.1
theorem into_SPN_DDREQ : bySettle SPN_DDREQ.id = true := settle_named_12.2.2.2.2.2.1
theorem into_SPN_DISN : bySettle SPN_DISN.id = true := settle_named_12.2.2.2.2.2.2.1
theorem into_SPN_EMFN : bySettle SPN_EMFN.id = true := settle_named_12.2.2.2.2.2.2.2.1
theorem into_SPN_ERRN : bySettle SPN_ERRN.id = true := settle_named_12.2.2.2.2.2.2.2.2.1
theorem into_SPN_FIRST : bySettle SPN_FIRST.id = true := settle_named_12.2.2.2.2.2.2.2.2.2.1
theorem into_SPN_GATE : bySettle SPN_GATE.id = true := settle_named_12.2.2.2.2.2.2.2.2.2.2.1
theorem into_SPN_HELD : bySettle SPN_HELD.id = true := settle_named_12.2.2.2.2.2.2.2.2.2.2.2
theorem settle_named_13 : bySettle SPN_IDDEM.id = true ∧ bySettle SPN_INVN.id = true ∧ bySettle SPN_IQDEM.id = true ∧ bySettle SPN_LGREF.id = true ∧ bySettle SPN_LOCKN.id = true ∧ bySettle SPN_OBSLOST.id = true ∧ bySettle SPN_OBSSPD.id = true ∧ bySettle SPN_OCFAIL.id = true ∧ bySettle SPN_OCTIME.id = true ∧ bySettle SPN_OCWAIT.id = true ∧ bySettle SPN_ON.id = true ∧ bySettle SPN_ONPILOT.id = true := by decide +kernel
theorem into_SPN_IDDEM : bySettle SPN_IDDEM.id = true := settle_named_13.1
theorem into_SPN_INVN : bySettle SPN_INVN.id = true := settle_named_13.2.1
theorem into_SPN_IQDEM : bySettle SPN_IQDEM.id = true := settle_named_13.2.2.1
theorem into_SPN_LGREF : bySettle SPN_LGREF.id = true := settle_named_13.2.2.2.1
theorem into_SPN_LOCKN : bySettle SPN_LOCKN.id = true := settle_named_13.2.2.2.2.1
theorem into_SPN_OBSLOST : bySettle SPN_OBSLOST.id = true := settle_named_13.2.2.2.2.2.1
theorem into_SPN_OBSSPD : bySettle SPN_OBSSPD.id = true := settle_named_13.2.2.2.2.2.2.1
theorem into_SPN_OCFAIL : bySettle SPN_OCFAIL.id = true := settle_named_13.2.2.2.2.2.2.2.1
theorem into_SPN_OCTIME : bySettle SPN_OCTIME.id = true := settle_named_13.2.2.2.2.2.2.2.2.1
theorem into_SPN_OCWAIT : bySettle SPN_OCWAIT.id = true := settle_named_13.2.2.2.2.2.2.2.2.2.1
theorem into_SPN_ON : bySettle SPN_ON.id = true := settle_named_13.2.2.2.2.2.2.2.2.2.2.1
theorem into_SPN_ONPILOT : bySettle SPN_ONPILOT.id = true := settle_named_13.2.2.2.2.2.2.2.2.2.2.2
theorem settle_named_14 : bySettle SPN_SLEWING.id = true ∧ bySettle SPN_STATE_DRYPEND.id = true ∧ bySettle SPN_STATE_FAULTLOCK.id = true ∧ bySettle SPN_STATE_LASTGASP.id = true ∧ bySettle SPN_STATE_LOADOK.id = true ∧ bySettle SPN_STATE_OBSLOCK.id = true ∧ bySettle SPN_STATE_STATE.id = true ∧ bySettle SRV_DAC.id = true ∧ bySettle SRV_DRVEN.id = true ∧ bySettle SRV_HSTS_SAT.id = true ∧ bySettle SRV_PES_S.id = true ∧ bySettle SRV_PHASE.id = true := by decide +kernel
theorem into_SPN_SLEWING : bySettle SPN_SLEWING.id = true := settle_named_14.1
theorem into_SPN_STATE_DRYPEND : bySettle SPN_STATE_DRYPEND.id = true := settle_named_14.2.1
theorem into_SPN_STATE_FAULTLOCK : bySettle SPN_STATE_FAULTLOCK.id = true := settle_named_14.2.2.1
theorem into_SPN_STATE_LASTGASP : bySettle SPN_STATE_LASTGASP.id = true := settle_named_14.2.2.2.1
theorem into_SPN_STATE_LOADOK : bySettle SPN_STATE_LOADOK.id = true := settle_named_14.2.2.2.2.1
theorem into_SPN_STATE_OBSLOCK : bySettle SPN_STATE_OBSLOCK.id = true := settle_named_14.2.2.2.2.2.1
theorem into_SPN_STATE_STATE : bySettle SPN_STATE_STATE.id = true := settle_named_14.2.2.2.2.2.2.1
theorem into_SRV_DAC : bySettle SRV_DAC.id = true := settle_named_14.2.2.2.2.2.2.2.1
theorem into_SRV_DRVEN : bySettle SRV_DRVEN.id = true := settle_named_14.2.2.2.2.2.2.2.2.1
theorem into_SRV_HSTS_SAT : bySettle SRV_HSTS_SAT.id = true := settle_named_14.2.2.2.2.2.2.2.2.2.1
theorem into_SRV_PES_S : bySettle SRV_PES_S.id = true := settle_named_14.2.2.2.2.2.2.2.2.2.2.1
theorem into_SRV_PHASE : bySettle SRV_PHASE.id = true := settle_named_14.2.2.2.2.2.2.2.2.2.2.2
theorem settle_named_15 : bySettle SRV_RET_STS_ENGAGED.id = true ∧ bySettle SRV_RET_STS_PARKED.id = true ∧ bySettle SRV_RET_STS_RETRACTS.id = true ∧ bySettle SRV_SATN.id = true ∧ bySettle SRV_STS_BLEND.id = true ∧ bySettle SRV_STS_RVLOCK.id = true ∧ bySettle SRV_STS_STATE.id = true ∧ bySettle SRV_UNLOAD.id = true ∧ bySettle ACD_CKPT_MEM_M0.id = true ∧ bySettle ACD_CKPT_MEM_M1.id = true ∧ bySettle ACD_CKPT_MEM_M2.id = true ∧ bySettle ACD_CKPT_MEM_M3.id = true := by decide +kernel
theorem into_SRV_RET_STS_ENGAGED : bySettle SRV_RET_STS_ENGAGED.id = true := settle_named_15.1
theorem into_SRV_RET_STS_PARKED : bySettle SRV_RET_STS_PARKED.id = true := settle_named_15.2.1
theorem into_SRV_RET_STS_RETRACTS : bySettle SRV_RET_STS_RETRACTS.id = true := settle_named_15.2.2.1
theorem into_SRV_SATN : bySettle SRV_SATN.id = true := settle_named_15.2.2.2.1
theorem into_SRV_STS_BLEND : bySettle SRV_STS_BLEND.id = true := settle_named_15.2.2.2.2.1
theorem into_SRV_STS_RVLOCK : bySettle SRV_STS_RVLOCK.id = true := settle_named_15.2.2.2.2.2.1
theorem into_SRV_STS_STATE : bySettle SRV_STS_STATE.id = true := settle_named_15.2.2.2.2.2.2.1
theorem into_SRV_UNLOAD : bySettle SRV_UNLOAD.id = true := settle_named_15.2.2.2.2.2.2.2.1
theorem into_ACD_CKPT_MEM_M0 : bySettle ACD_CKPT_MEM_M0.id = true := settle_named_15.2.2.2.2.2.2.2.2.1
theorem into_ACD_CKPT_MEM_M1 : bySettle ACD_CKPT_MEM_M1.id = true := settle_named_15.2.2.2.2.2.2.2.2.2.1
theorem into_ACD_CKPT_MEM_M2 : bySettle ACD_CKPT_MEM_M2.id = true := settle_named_15.2.2.2.2.2.2.2.2.2.2.1
theorem into_ACD_CKPT_MEM_M3 : bySettle ACD_CKPT_MEM_M3.id = true := settle_named_15.2.2.2.2.2.2.2.2.2.2.2
theorem settle_named_16 : bySettle ACD_CLEANREQ.id = true ∧ bySettle ACD_CNT_RECON.id = true ∧ bySettle ACD_CTL_CLEAN.id = true ∧ bySettle ACD_JBUSY.id = true ∧ bySettle ACD_JCLEAN.id = true ∧ bySettle ACD_JRNL_MEM_A.id = true ∧ bySettle ACD_JRNL_MEM_B.id = true ∧ bySettle ACD_JSEQ.id = true ∧ bySettle ACD_KBUSY.id = true ∧ bySettle ACD_KDUE.id = true ∧ bySettle ACD_KMIN.id = true ∧ bySettle ACD_KSEQ.id = true := by decide +kernel
theorem into_ACD_CLEANREQ : bySettle ACD_CLEANREQ.id = true := settle_named_16.1
theorem into_ACD_CNT_RECON : bySettle ACD_CNT_RECON.id = true := settle_named_16.2.1
theorem into_ACD_CTL_CLEAN : bySettle ACD_CTL_CLEAN.id = true := settle_named_16.2.2.1
theorem into_ACD_JBUSY : bySettle ACD_JBUSY.id = true := settle_named_16.2.2.2.1
theorem into_ACD_JCLEAN : bySettle ACD_JCLEAN.id = true := settle_named_16.2.2.2.2.1
theorem into_ACD_JRNL_MEM_A : bySettle ACD_JRNL_MEM_A.id = true := settle_named_16.2.2.2.2.2.1
theorem into_ACD_JRNL_MEM_B : bySettle ACD_JRNL_MEM_B.id = true := settle_named_16.2.2.2.2.2.2.1
theorem into_ACD_JSEQ : bySettle ACD_JSEQ.id = true := settle_named_16.2.2.2.2.2.2.2.1
theorem into_ACD_KBUSY : bySettle ACD_KBUSY.id = true := settle_named_16.2.2.2.2.2.2.2.2.1
theorem into_ACD_KDUE : bySettle ACD_KDUE.id = true := settle_named_16.2.2.2.2.2.2.2.2.2.1
theorem into_ACD_KMIN : bySettle ACD_KMIN.id = true := settle_named_16.2.2.2.2.2.2.2.2.2.2.1
theorem into_ACD_KSEQ : bySettle ACD_KSEQ.id = true := settle_named_16.2.2.2.2.2.2.2.2.2.2.2
theorem settle_named_17 : bySettle ACD_LAZY.id = true ∧ bySettle ACD_RBLD_LEFT.id = true ∧ bySettle ACD_RBLD_SKIP.id = true ∧ bySettle ACD_RESYNC_SCAN.id = true ∧ bySettle ACD_RESYNC_ZONES.id = true ∧ bySettle ACD_SPARE_FREE_FREE.id = true ∧ bySettle ACD_SPARE_FREE_MEMBER.id = true ∧ bySettle ACD_STS_ALLEMPTY.id = true ∧ bySettle ACD_STS_RESYNC.id = true ∧ bySettle ACD_STS_SPARE_LOW.id = true ∧ bySettle ACD_STS_SPARE_OUT.id = true ∧ bySettle ACD_STS_UNREC_FULL.id = true := by decide +kernel
theorem into_ACD_LAZY : bySettle ACD_LAZY.id = true := settle_named_17.1
theorem into_ACD_RBLD_LEFT : bySettle ACD_RBLD_LEFT.id = true := settle_named_17.2.1
theorem into_ACD_RBLD_SKIP : bySettle ACD_RBLD_SKIP.id = true := settle_named_17.2.2.1
theorem into_ACD_RESYNC_SCAN : bySettle ACD_RESYNC_SCAN.id = true := settle_named_17.2.2.2.1
theorem into_ACD_RESYNC_ZONES : bySettle ACD_RESYNC_ZONES.id = true := settle_named_17.2.2.2.2.1
theorem into_ACD_SPARE_FREE_FREE : bySettle ACD_SPARE_FREE_FREE.id = true := settle_named_17.2.2.2.2.2.1
theorem into_ACD_SPARE_FREE_MEMBER : bySettle ACD_SPARE_FREE_MEMBER.id = true := settle_named_17.2.2.2.2.2.2.1
theorem into_ACD_STS_ALLEMPTY : bySettle ACD_STS_ALLEMPTY.id = true := settle_named_17.2.2.2.2.2.2.2.1
theorem into_ACD_STS_RESYNC : bySettle ACD_STS_RESYNC.id = true := settle_named_17.2.2.2.2.2.2.2.2.1
theorem into_ACD_STS_SPARE_LOW : bySettle ACD_STS_SPARE_LOW.id = true := settle_named_17.2.2.2.2.2.2.2.2.2.1
theorem into_ACD_STS_SPARE_OUT : bySettle ACD_STS_SPARE_OUT.id = true := settle_named_17.2.2.2.2.2.2.2.2.2.2.1
theorem into_ACD_STS_UNREC_FULL : bySettle ACD_STS_UNREC_FULL.id = true := settle_named_17.2.2.2.2.2.2.2.2.2.2.2
theorem settle_named_18 : bySettle ACD_TURNOUT.id = true ∧ bySettle ACD_UNREC_BLK.id = true ∧ bySettle ACD_UNREC_CNT.id = true ∧ bySettle BUF_ELOGNEW.id = true ∧ bySettle BUF_ELOG_HEAD_HEAD.id = true ∧ bySettle BUF_ELOG_HEAD_WRAPPED.id = true ∧ bySettle BUF_ERR_CE.id = true ∧ bySettle BUF_ERR_UE.id = true ∧ bySettle BUF_MERGE_OCC.id = true ∧ bySettle DEC_FID.id = true ∧ bySettle DEC_STS_WAIT.id = true ∧ bySettle FMT_CNT_GROWN.id = true := by decide +kernel
theorem into_ACD_TURNOUT : bySettle ACD_TURNOUT.id = true := settle_named_18.1
theorem into_ACD_UNREC_BLK : bySettle ACD_UNREC_BLK.id = true := settle_named_18.2.1
theorem into_ACD_UNREC_CNT : bySettle ACD_UNREC_CNT.id = true := settle_named_18.2.2.1
theorem into_BUF_ELOGNEW : bySettle BUF_ELOGNEW.id = true := settle_named_18.2.2.2.1
theorem into_BUF_ELOG_HEAD_HEAD : bySettle BUF_ELOG_HEAD_HEAD.id = true := settle_named_18.2.2.2.2.1
theorem into_BUF_ELOG_HEAD_WRAPPED : bySettle BUF_ELOG_HEAD_WRAPPED.id = true := settle_named_18.2.2.2.2.2.1
theorem into_BUF_ERR_CE : bySettle BUF_ERR_CE.id = true := settle_named_18.2.2.2.2.2.2.1
theorem into_BUF_ERR_UE : bySettle BUF_ERR_UE.id = true := settle_named_18.2.2.2.2.2.2.2.1
theorem into_BUF_MERGE_OCC : bySettle BUF_MERGE_OCC.id = true := settle_named_18.2.2.2.2.2.2.2.2.1
theorem into_DEC_FID : bySettle DEC_FID.id = true := settle_named_18.2.2.2.2.2.2.2.2.2.1
theorem into_DEC_STS_WAIT : bySettle DEC_STS_WAIT.id = true := settle_named_18.2.2.2.2.2.2.2.2.2.2.1
theorem into_FMT_CNT_GROWN : bySettle FMT_CNT_GROWN.id = true := settle_named_18.2.2.2.2.2.2.2.2.2.2.2
theorem settle_named_19 : bySettle FMT_CNT_RA_CLAIMED.id = true ∧ bySettle FMT_CNT_RA_DROPPED.id = true ∧ bySettle FMT_CNT_STEP.id = true ∧ bySettle FMT_CNT_UNREC.id = true ∧ bySettle FMT_INFL.id = true ∧ bySettle LAN_STGV_OCC.id = true ∧ bySettle LPE_CG_CUSTMASK.id = true ∧ bySettle LPE_CMT_STS_PENDING.id = true ∧ bySettle LPE_IMGSTS_ACTIVE.id = true ∧ bySettle LPE_IMGSTS_AEMPTY_C.id = true ∧ bySettle LPE_IMGSTS_IEMPTY_C.id = true ∧ bySettle LPE_IMGSTS_IVALID_C.id = true := by decide +kernel
theorem into_FMT_CNT_RA_CLAIMED : bySettle FMT_CNT_RA_CLAIMED.id = true := settle_named_19.1
theorem into_FMT_CNT_RA_DROPPED : bySettle FMT_CNT_RA_DROPPED.id = true := settle_named_19.2.1
theorem into_FMT_CNT_STEP : bySettle FMT_CNT_STEP.id = true := settle_named_19.2.2.1
theorem into_FMT_CNT_UNREC : bySettle FMT_CNT_UNREC.id = true := settle_named_19.2.2.2.1
theorem into_FMT_INFL : bySettle FMT_INFL.id = true := settle_named_19.2.2.2.2.1
theorem into_LAN_STGV_OCC : bySettle LAN_STGV_OCC.id = true := settle_named_19.2.2.2.2.2.1
theorem into_LPE_CG_CUSTMASK : bySettle LPE_CG_CUSTMASK.id = true := settle_named_19.2.2.2.2.2.2.1
theorem into_LPE_CMT_STS_PENDING : bySettle LPE_CMT_STS_PENDING.id = true := settle_named_19.2.2.2.2.2.2.2.1
theorem into_LPE_IMGSTS_ACTIVE : bySettle LPE_IMGSTS_ACTIVE.id = true := settle_named_19.2.2.2.2.2.2.2.2.1
theorem into_LPE_IMGSTS_AEMPTY_C : bySettle LPE_IMGSTS_AEMPTY_C.id = true := settle_named_19.2.2.2.2.2.2.2.2.2.1
theorem into_LPE_IMGSTS_IEMPTY_C : bySettle LPE_IMGSTS_IEMPTY_C.id = true := settle_named_19.2.2.2.2.2.2.2.2.2.2.1
theorem into_LPE_IMGSTS_IVALID_C : bySettle LPE_IMGSTS_IVALID_C.id = true := settle_named_19.2.2.2.2.2.2.2.2.2.2.2
theorem settle_named_20 : bySettle LPE_IMGSTS_IVALID_V.id = true ∧ bySettle LPE_IVER_C.id = true ∧ bySettle LPE_IVER_V.id = true ∧ bySettle LPE_OUTCFG_CUST.id = true ∧ bySettle LPE_VER_C.id = true ∧ bySettle LPE_VER_V.id = true ∧ bySettle MGR_CID.id = true ∧ bySettle MGR_JRNLA.id = true ∧ bySettle MGR_JRNLSEQ.id = true ∧ bySettle MGR_JRNLWP.id = true ∧ bySettle MGR_ORD_HELD.id = true ∧ bySettle MGR_ORD_LOST.id = true := by decide +kernel
theorem into_LPE_IMGSTS_IVALID_V : bySettle LPE_IMGSTS_IVALID_V.id = true := settle_named_20.1
theorem into_LPE_IVER_C : bySettle LPE_IVER_C.id = true := settle_named_20.2.1
theorem into_LPE_IVER_V : bySettle LPE_IVER_V.id = true := settle_named_20.2.2.1
theorem into_LPE_OUTCFG_CUST : bySettle LPE_OUTCFG_CUST.id = true := settle_named_20.2.2.2.1
theorem into_LPE_VER_C : bySettle LPE_VER_C.id = true := settle_named_20.2.2.2.2.1
theorem into_LPE_VER_V : bySettle LPE_VER_V.id = true := settle_named_20.2.2.2.2.2.1
theorem into_MGR_CID : bySettle MGR_CID.id = true := settle_named_20.2.2.2.2.2.2.1
theorem into_MGR_JRNLA : bySettle MGR_JRNLA.id = true := settle_named_20.2.2.2.2.2.2.2.1
theorem into_MGR_JRNLSEQ : bySettle MGR_JRNLSEQ.id = true := settle_named_20.2.2.2.2.2.2.2.2.1
theorem into_MGR_JRNLWP : bySettle MGR_JRNLWP.id = true := settle_named_20.2.2.2.2.2.2.2.2.2.1
theorem into_MGR_ORD_HELD : bySettle MGR_ORD_HELD.id = true := settle_named_20.2.2.2.2.2.2.2.2.2.2.1
theorem into_MGR_ORD_LOST : bySettle MGR_ORD_LOST.id = true := settle_named_20.2.2.2.2.2.2.2.2.2.2.2
theorem settle_named_21 : bySettle MGR_PLOGA.id = true ∧ bySettle MGR_PLOGWP.id = true ∧ bySettle NVQ_ACTHELD.id = true ∧ bySettle NVQ_CRITW.id = true ∧ bySettle NVQ_DURWAIT.id = true ∧ bySettle NVQ_EXTENTS.id = true ∧ bySettle NVQ_INFL_HELD.id = true ∧ bySettle NVQ_INFL_INFL.id = true ∧ bySettle NVQ_LEAVING.id = true ∧ bySettle NVQ_MTAG.id = true ∧ bySettle NVQ_OPPS.id = true ∧ bySettle NVQ_RESETTING.id = true := by decide +kernel
theorem into_MGR_PLOGA : bySettle MGR_PLOGA.id = true := settle_named_21.1
theorem into_MGR_PLOGWP : bySettle MGR_PLOGWP.id = true := settle_named_21.2.1
theorem into_NVQ_ACTHELD : bySettle NVQ_ACTHELD.id = true := settle_named_21.2.2.1
theorem into_NVQ_CRITW : bySettle NVQ_CRITW.id = true := settle_named_21.2.2.2.1
theorem into_NVQ_DURWAIT : bySettle NVQ_DURWAIT.id = true := settle_named_21.2.2.2.2.1
theorem into_NVQ_EXTENTS : bySettle NVQ_EXTENTS.id = true := settle_named_21.2.2.2.2.2.1
theorem into_NVQ_INFL_HELD : bySettle NVQ_INFL_HELD.id = true := settle_named_21.2.2.2.2.2.2.1
theorem into_NVQ_INFL_INFL : bySettle NVQ_INFL_INFL.id = true := settle_named_21.2.2.2.2.2.2.2.1
theorem into_NVQ_LEAVING : bySettle NVQ_LEAVING.id = true := settle_named_21.2.2.2.2.2.2.2.2.1
theorem into_NVQ_MTAG : bySettle NVQ_MTAG.id = true := settle_named_21.2.2.2.2.2.2.2.2.2.1
theorem into_NVQ_OPPS : bySettle NVQ_OPPS.id = true := settle_named_21.2.2.2.2.2.2.2.2.2.2.1
theorem into_NVQ_RESETTING : bySettle NVQ_RESETTING.id = true := settle_named_21.2.2.2.2.2.2.2.2.2.2.2
theorem settle_named_22 : bySettle NVQ_SHSEQ.id = true ∧ bySettle NVQ_SHST.id = true ∧ bySettle NVQ_SQEN.id = true ∧ bySettle NVQ_STS_ACTIVATING.id = true ∧ bySettle NVQ_STS_FETCH_HELD.id = true ∧ bySettle NVQ_STS_MEDIA_READY.id = true ∧ bySettle NVQ_STS_PS.id = true ∧ bySettle NVQ_STS_RDY.id = true ∧ bySettle NVQ_UNRCHG.id = true ∧ bySettle NVQ_ZACT_ACTIVE.id = true ∧ bySettle NVQ_ZACT_OPENED.id = true ∧ bySettle PAD_CLKREQ.id = true := by decide +kernel
theorem into_NVQ_SHSEQ : bySettle NVQ_SHSEQ.id = true := settle_named_22.1
theorem into_NVQ_SHST : bySettle NVQ_SHST.id = true := settle_named_22.2.1
theorem into_NVQ_SQEN : bySettle NVQ_SQEN.id = true := settle_named_22.2.2.1
theorem into_NVQ_STS_ACTIVATING : bySettle NVQ_STS_ACTIVATING.id = true := settle_named_22.2.2.2.1
theorem into_NVQ_STS_FETCH_HELD : bySettle NVQ_STS_FETCH_HELD.id = true := settle_named_22.2.2.2.2.1
theorem into_NVQ_STS_MEDIA_READY : bySettle NVQ_STS_MEDIA_READY.id = true := settle_named_22.2.2.2.2.2.1
theorem into_NVQ_STS_PS : bySettle NVQ_STS_PS.id = true := settle_named_22.2.2.2.2.2.2.1
theorem into_NVQ_STS_RDY : bySettle NVQ_STS_RDY.id = true := settle_named_22.2.2.2.2.2.2.2.1
theorem into_NVQ_UNRCHG : bySettle NVQ_UNRCHG.id = true := settle_named_22.2.2.2.2.2.2.2.2.1
theorem into_NVQ_ZACT_ACTIVE : bySettle NVQ_ZACT_ACTIVE.id = true := settle_named_22.2.2.2.2.2.2.2.2.2.1
theorem into_NVQ_ZACT_OPENED : bySettle NVQ_ZACT_OPENED.id = true := settle_named_22.2.2.2.2.2.2.2.2.2.2.1
theorem into_PAD_CLKREQ : bySettle PAD_CLKREQ.id = true := settle_named_22.2.2.2.2.2.2.2.2.2.2.2
theorem settle_named_23 : bySettle PCI_STS_LSTATE.id = true ∧ bySettle PCI_TAGS_INUSE.id = true ∧ bySettle PCI_TAGS_QUAR.id = true ∧ bySettle SPN_CNT_STARTS.id = true := by decide +kernel
theorem into_PCI_STS_LSTATE : bySettle PCI_STS_LSTATE.id = true := settle_named_23.1
theorem into_PCI_TAGS_INUSE : bySettle PCI_TAGS_INUSE.id = true := settle_named_23.2.1
theorem into_PCI_TAGS_QUAR : bySettle PCI_TAGS_QUAR.id = true := settle_named_23.2.2.1
theorem into_SPN_CNT_STARTS : bySettle SPN_CNT_STARTS.id = true := settle_named_23.2.2.2
end Sys2Proof.Machine
end

