-- ==== Sys2Proof/Laws/Exec.lean ====
section
/-!
SUPPORT. The arms of `exec` as equations.
-/

namespace Sys2Proof.Machine

set_option Elab.async false

variable (s : State)

@[simp] theorem exec_pilotSample x0 x1 x2 x3 x4 x5 x6 x7 : exec (.pilotSample x0 x1 x2 x3 x4 x5 x6 x7) s = execPilotSample x0 x1 x2 x3 x4 x5 x6 x7 s := rfl
@[simp] theorem exec_angleClockCycle x0 : exec (.angleClockCycle x0) s = execAngleClockCycle x0 s := rfl
@[simp] theorem exec_indexSignature x0 : exec (.indexSignature x0) s = execIndexSignature x0 s := rfl
@[simp] theorem exec_sensorRequalify x0 : exec (.sensorRequalify x0) s = execSensorRequalify x0 s := rfl
@[simp] theorem exec_stampLoRead : exec (.stampLoRead) s = execStampLoRead s := rfl
@[simp] theorem exec_multiwordLowRead x0 : exec (.multiwordLowRead x0) s = execMultiwordLowRead x0 s := rfl
@[simp] theorem exec_angCmpWrite x0 x1 x2 : exec (.angCmpWrite x0 x1 x2) s = execAngCmpWrite x0 x1 x2 s := rfl
@[simp] theorem exec_comparatorFire x0 : exec (.comparatorFire x0) s = execComparatorFire x0 s := rfl
@[simp] theorem exec_groupCommit x0 x1 x2 x3 : exec (.groupCommit x0 x1 x2 x3) s = execGroupCommit x0 x1 x2 x3 s := rfl
@[simp] theorem exec_groupCancel x0 x1 x2 : exec (.groupCancel x0 x1 x2) s = execGroupCancel x0 x1 x2 s := rfl
@[simp] theorem exec_shadowWrite x0 x1 : exec (.shadowWrite x0 x1) s = execShadowWrite x0 x1 s := rfl
@[simp] theorem exec_decisionPoint x0 x1 x2 : exec (.decisionPoint x0 x1 x2) s = execDecisionPoint x0 x1 x2 s := rfl
@[simp] theorem exec_boundarySwap x0 x1 x2 : exec (.boundarySwap x0 x1 x2) s = execBoundarySwap x0 x1 x2 s := rfl
@[simp] theorem exec_laneStateRequest x0 x1 : exec (.laneStateRequest x0 x1) s = execLaneStateRequest x0 x1 s := rfl
@[simp] theorem exec_laneOosWrite x0 x1 : exec (.laneOosWrite x0 x1) s = execLaneOosWrite x0 x1 s := rfl
@[simp] theorem exec_laneTransitionDone x0 : exec (.laneTransitionDone x0) s = execLaneTransitionDone x0 s := rfl
@[simp] theorem exec_ringCycleEdge x0 x1 : exec (.ringCycleEdge x0 x1) s = execRingCycleEdge x0 x1 s := rfl
@[simp] theorem exec_synthLock x0 : exec (.synthLock x0) s = execSynthLock x0 s := rfl
@[simp] theorem exec_ringEdgeTimeout x0 : exec (.ringEdgeTimeout x0) s = execRingEdgeTimeout x0 s := rfl
@[simp] theorem exec_phaseTrimUpdate x0 x1 : exec (.phaseTrimUpdate x0 x1) s = execPhaseTrimUpdate x0 x1 s := rfl
@[simp] theorem exec_rttLearn x0 x1 x2 : exec (.rttLearn x0 x1 x2) s = execRttLearn x0 x1 x2 s := rfl
@[simp] theorem exec_dropoutFlag x0 : exec (.dropoutFlag x0) s = execDropoutFlag x0 s := rfl
@[simp] theorem exec_asperityFlag x0 : exec (.asperityFlag x0) s = execAsperityFlag x0 s := rfl
@[simp] theorem exec_defectFlagRelease x0 x1 : exec (.defectFlagRelease x0 x1) s = execDefectFlagRelease x0 x1 s := rfl
@[simp] theorem exec_wedgeWindow x0 x1 : exec (.wedgeWindow x0 x1) s = execWedgeWindow x0 x1 s := rfl
@[simp] theorem exec_frameOpRead x0 x1 : exec (.frameOpRead x0 x1) s = execFrameOpRead x0 x1 s := rfl
@[simp] theorem exec_frameOpWrite x0 x1 x2 : exec (.frameOpWrite x0 x1 x2) s = execFrameOpWrite x0 x1 x2 s := rfl
@[simp] theorem exec_frameReadStart x0 x1 x2 : exec (.frameReadStart x0 x1 x2) s = execFrameReadStart x0 x1 x2 s := rfl
@[simp] theorem exec_codewordStaged x0 : exec (.codewordStaged x0) s = execCodewordStaged x0 s := rfl
@[simp] theorem exec_engineDispatch x0 : exec (.engineDispatch x0) s = execEngineDispatch x0 s := rfl
@[simp] theorem exec_decodeDone x0 x1 : exec (.decodeDone x0 x1) s = execDecodeDone x0 x1 s := rfl
@[simp] theorem exec_frameOpCancel x0 x1 : exec (.frameOpCancel x0 x1) s = execFrameOpCancel x0 x1 s := rfl
@[simp] theorem exec_frameWriteStart x0 : exec (.frameWriteStart x0) s = execFrameWriteStart x0 s := rfl
@[simp] theorem exec_frameWriteEnd x0 : exec (.frameWriteEnd x0) s = execFrameWriteEnd x0 s := rfl
@[simp] theorem exec_laneMemdatWrite x0 x1 : exec (.laneMemdatWrite x0 x1) s = execLaneMemdatWrite x0 x1 s := rfl
@[simp] theorem exec_laneMemdatRead x0 : exec (.laneMemdatRead x0) s = execLaneMemdatRead x0 s := rfl
@[simp] theorem exec_hlkEnable x0 : exec (.hlkEnable x0) s = execHlkEnable x0 s := rfl
@[simp] theorem exec_hlkDisable x0 : exec (.hlkDisable x0) s = execHlkDisable x0 s := rfl
@[simp] theorem exec_hlkTrain x0 : exec (.hlkTrain x0) s = execHlkTrain x0 s := rfl
@[simp] theorem exec_hlkWenWrite x0 x1 : exec (.hlkWenWrite x0 x1) s = execHlkWenWrite x0 x1 s := rfl
@[simp] theorem exec_hlkRegcmdGo x0 x1 : exec (.hlkRegcmdGo x0 x1) s = execHlkRegcmdGo x0 x1 s := rfl
@[simp] theorem exec_hlkPacketSent x0 : exec (.hlkPacketSent x0) s = execHlkPacketSent x0 s := rfl
@[simp] theorem exec_hlkResponseRx x0 x1 : exec (.hlkResponseRx x0 x1) s = execHlkResponseRx x0 x1 s := rfl
@[simp] theorem exec_hlkFaultFlagsRx x0 x1 : exec (.hlkFaultFlagsRx x0 x1) s = execHlkFaultFlagsRx x0 x1 s := rfl
@[simp] theorem exec_hlkHeartbeatRx x0 x1 : exec (.hlkHeartbeatRx x0 x1) s = execHlkHeartbeatRx x0 x1 s := rfl
@[simp] theorem exec_hlkTrainingRx x0 x1 x2 : exec (.hlkTrainingRx x0 x1 x2) s = execHlkTrainingRx x0 x1 x2 s := rfl
@[simp] theorem exec_hlkAckTimeout x0 : exec (.hlkAckTimeout x0) s = execHlkAckTimeout x0 s := rfl
@[simp] theorem exec_hlkLinkDown x0 : exec (.hlkLinkDown x0) s = execHlkLinkDown x0 s := rfl
@[simp] theorem exec_hlkOrientTimeout x0 : exec (.hlkOrientTimeout x0) s = execHlkOrientTimeout x0 s := rfl
@[simp] theorem exec_hlkTrainHbTimeout x0 : exec (.hlkTrainHbTimeout x0) s = execHlkTrainHbTimeout x0 s := rfl
@[simp] theorem exec_hostRead x0 x1 x2 x3 : exec (.hostRead x0 x1 x2 x3) s = execHostRead x0 x1 x2 x3 s := rfl
@[simp] theorem exec_raRead x0 x1 x2 : exec (.raRead x0 x1 x2) s = execRaRead x0 x1 x2 s := rfl
@[simp] theorem exec_writeRow x0 x1 x2 : exec (.writeRow x0 x1 x2) s = execWriteRow x0 x1 x2 s := rfl
@[simp] theorem exec_reconRead x0 x1 x2 x3 x4 : exec (.reconRead x0 x1 x2 x3 x4) s = execReconRead x0 x1 x2 x3 x4 s := rfl
@[simp] theorem exec_rebuildRead x0 x1 x2 x3 : exec (.rebuildRead x0 x1 x2 x3) s = execRebuildRead x0 x1 x2 x3 s := rfl
@[simp] theorem exec_patrol x0 x1 x2 x3 : exec (.patrol x0 x1 x2 x3) s = execPatrol x0 x1 x2 x3 s := rfl
@[simp] theorem exec_sysRead x0 x1 x2 x3 : exec (.sysRead x0 x1 x2 x3) s = execSysRead x0 x1 x2 x3 s := rfl
@[simp] theorem exec_sysWrite x0 x1 x2 x3 : exec (.sysWrite x0 x1 x2 x3) s = execSysWrite x0 x1 x2 x3 s := rfl
@[simp] theorem exec_cal x0 x1 x2 x3 x4 : exec (.cal x0 x1 x2 x3 x4) s = execCal x0 x1 x2 x3 x4 s := rfl
@[simp] theorem exec_frameOpIssue x0 : exec (.frameOpIssue x0) s = execFrameOpIssue x0 s := rfl
@[simp] theorem exec_frameResult : exec (.frameResult) s = execFrameResult s := rfl
@[simp] theorem exec_ladderTimeout x0 : exec (.ladderTimeout x0) s = execLadderTimeout x0 s := rfl
@[simp] theorem exec_rowCommit x0 : exec (.rowCommit x0) s = execRowCommit x0 s := rfl
@[simp] theorem exec_frontierWrite x0 : exec (.frontierWrite x0) s = execFrontierWrite x0 s := rfl
@[simp] theorem exec_raDrop : exec (.raDrop) s = execRaDrop s := rfl
@[simp] theorem exec_fmtRunSet : exec (.fmtRunSet) s = execFmtRunSet s := rfl
@[simp] theorem exec_fmtRunClear : exec (.fmtRunClear) s = execFmtRunClear s := rfl
@[simp] theorem exec_descriptorLoad x0 x1 : exec (.descriptorLoad x0 x1) s = execDescriptorLoad x0 x1 s := rfl
@[simp] theorem exec_fmtStoreWrite x0 x1 : exec (.fmtStoreWrite x0 x1) s = execFmtStoreWrite x0 x1 s := rfl
@[simp] theorem exec_acdRun x0 : exec (.acdRun x0) s = execAcdRun x0 s := rfl
@[simp] theorem exec_placementGen : exec (.placementGen) s = execPlacementGen s := rfl
@[simp] theorem exec_placementGenDone : exec (.placementGenDone) s = execPlacementGenDone s := rfl
@[simp] theorem exec_rbldHold x0 : exec (.rbldHold x0) s = execRbldHold x0 s := rfl
@[simp] theorem exec_acdClean : exec (.acdClean) s = execAcdClean s := rfl
@[simp] theorem exec_acdCleanClr : exec (.acdCleanClr) s = execAcdCleanClr s := rfl
@[simp] theorem exec_acdLose x0 : exec (.acdLose x0) s = execAcdLose x0 s := rfl
@[simp] theorem exec_streamTurn x0 : exec (.streamTurn x0) s = execStreamTurn x0 s := rfl
@[simp] theorem exec_rowSubmit x0 : exec (.rowSubmit x0) s = execRowSubmit x0 s := rfl
@[simp] theorem exec_rebuildRow x0 : exec (.rebuildRow x0) s = execRebuildRow x0 s := rfl
@[simp] theorem exec_cursorUpdate : exec (.cursorUpdate) s = execCursorUpdate s := rfl
@[simp] theorem exec_rebuildBatchWrite : exec (.rebuildBatchWrite) s = execRebuildBatchWrite s := rfl
@[simp] theorem exec_journalInterval : exec (.journalInterval) s = execJournalInterval s := rfl
@[simp] theorem exec_journalLazy : exec (.journalLazy) s = execJournalLazy s := rfl
@[simp] theorem exec_journalWritten x0 : exec (.journalWritten x0) s = execJournalWritten x0 s := rfl
@[simp] theorem exec_checkpointTimer : exec (.checkpointTimer) s = execCheckpointTimer s := rfl
@[simp] theorem exec_checkpointWritten x0 : exec (.checkpointWritten x0) s = execCheckpointWritten x0 s := rfl
@[simp] theorem exec_checkpointRestore x0 x1 : exec (.checkpointRestore x0 x1) s = execCheckpointRestore x0 x1 s := rfl
@[simp] theorem exec_resyncZone x0 x1 x2 x3 : exec (.resyncZone x0 x1 x2 x3) s = execResyncZone x0 x1 x2 x3 s := rfl
@[simp] theorem exec_wedgeDecision x0 x1 : exec (.wedgeDecision x0 x1) s = execWedgeDecision x0 x1 s := rfl
@[simp] theorem exec_blendEnd x0 : exec (.blendEnd x0) s = execBlendEnd x0 s := rfl
@[simp] theorem exec_settleReached x0 : exec (.settleReached x0) s = execSettleReached x0 s := rfl
@[simp] theorem exec_inhibitRelease x0 : exec (.inhibitRelease x0) s = execInhibitRelease x0 s := rfl
@[simp] theorem exec_microactuatorSaturation x0 : exec (.microactuatorSaturation x0) s = execMicroactuatorSaturation x0 s := rfl
@[simp] theorem exec_headLost x0 : exec (.headLost x0) s = execHeadLost x0 s := rfl
@[simp] theorem exec_headRecover x0 : exec (.headRecover x0) s = execHeadRecover x0 s := rfl
@[simp] theorem exec_actuatorLost x0 : exec (.actuatorLost x0) s = execActuatorLost x0 s := rfl
@[simp] theorem exec_seekTimeout x0 : exec (.seekTimeout x0) s = execSeekTimeout x0 s := rfl
@[simp] theorem exec_targetWrite x0 x1 : exec (.targetWrite x0 x1) s = execTargetWrite x0 x1 s := rfl
@[simp] theorem exec_seekRunAhead x0 x1 : exec (.seekRunAhead x0 x1) s = execSeekRunAhead x0 x1 s := rfl
@[simp] theorem exec_loadRequest x0 : exec (.loadRequest x0) s = execLoadRequest x0 s := rfl
@[simp] theorem exec_loadTimeout x0 : exec (.loadTimeout x0) s = execLoadTimeout x0 s := rfl
@[simp] theorem exec_unloadRequest x0 : exec (.unloadRequest x0) s = execUnloadRequest x0 s := rfl
@[simp] theorem exec_retractRequest x0 : exec (.retractRequest x0) s = execRetractRequest x0 s := rfl
@[simp] theorem exec_retractPhaseEnd x0 : exec (.retractPhaseEnd x0) s = execRetractPhaseEnd x0 s := rfl
@[simp] theorem exec_linkDownRetract x0 : exec (.linkDownRetract x0) s = execLinkDownRetract x0 s := rfl
@[simp] theorem exec_vcmOpenCoil x0 : exec (.vcmOpenCoil x0) s = execVcmOpenCoil x0 s := rfl
@[simp] theorem exec_vcmOvercurrent x0 : exec (.vcmOvercurrent x0) s = execVcmOvercurrent x0 s := rfl
@[simp] theorem exec_vcmOcTest x0 x1 : exec (.vcmOcTest x0 x1) s = execVcmOcTest x0 x1 s := rfl
@[simp] theorem exec_vcmLeadShort x0 : exec (.vcmLeadShort x0) s = execVcmLeadShort x0 s := rfl
@[simp] theorem exec_vcmPolarityRunaway x0 : exec (.vcmPolarityRunaway x0) s = execVcmPolarityRunaway x0 s := rfl
@[simp] theorem exec_pwmPeriod x0 x1 x2 x3 x4 x5 x6 : exec (.pwmPeriod x0 x1 x2 x3 x4 x5 x6) s = execPwmPeriod x0 x1 x2 x3 x4 x5 x6 s := rfl
@[simp] theorem exec_currentSenseFault : exec (.currentSenseFault) s = execCurrentSenseFault s := rfl
@[simp] theorem exec_shuntOvercurrent x0 : exec (.shuntOvercurrent x0) s = execShuntOvercurrent x0 s := rfl
@[simp] theorem exec_observerLock : exec (.observerLock) s = execObserverLock s := rfl
@[simp] theorem exec_observerLockLoss : exec (.observerLockLoss) s = execObserverLockLoss s := rfl
@[simp] theorem exec_pilotHandover : exec (.pilotHandover) s = execPilotHandover s := rfl
@[simp] theorem exec_angleDisagreement : exec (.angleDisagreement) s = execAngleDisagreement s := rfl
@[simp] theorem exec_pilotSuspect : exec (.pilotSuspect) s = execPilotSuspect s := rfl
@[simp] theorem exec_speedLoopUpdate x0 x1 x2 x3 x4 x5 x6 x7 : exec (.speedLoopUpdate x0 x1 x2 x3 x4 x5 x6 x7) s = execSpeedLoopUpdate x0 x1 x2 x3 x4 x5 x6 x7 s := rfl
@[simp] theorem exec_spdRefEdge x0 : exec (.spdRefEdge x0) s = execSpdRefEdge x0 s := rfl
@[simp] theorem exec_phaseLock : exec (.phaseLock) s = execPhaseLock s := rfl
@[simp] theorem exec_referenceLost : exec (.referenceLost) s = execReferenceLost s := rfl
@[simp] theorem exec_spdRefSample x0 : exec (.spdRefSample x0) s = execSpdRefSample x0 s := rfl
@[simp] theorem exec_autostart : exec (.autostart) s = execAutostart s := rfl
@[simp] theorem exec_spnStart : exec (.spnStart) s = execSpnStart s := rfl
@[simp] theorem exec_spnStop : exec (.spnStop) s = execSpnStop s := rfl
@[simp] theorem exec_spnDrydown : exec (.spnDrydown) s = execSpnDrydown s := rfl
@[simp] theorem exec_spnPark : exec (.spnPark) s = execSpnPark s := rfl
@[simp] theorem exec_psuspClear : exec (.psuspClear) s = execPsuspClear s := rfl
@[simp] theorem exec_spnCal : exec (.spnCal) s = execSpnCal s := rfl
@[simp] theorem exec_eofsCalDone x0 : exec (.eofsCalDone x0) s = execEofsCalDone x0 s := rfl
@[simp] theorem exec_speedTargetWrite x0 : exec (.speedTargetWrite x0) s = execSpeedTargetWrite x0 s := rfl
@[simp] theorem exec_senseEnd x0 x1 : exec (.senseEnd x0 x1) s = execSenseEnd x0 x1 s := rfl
@[simp] theorem exec_brakeEnd : exec (.brakeEnd) s = execBrakeEnd s := rfl
@[simp] theorem exec_brakeTimeout : exec (.brakeTimeout) s = execBrakeTimeout s := rfl
@[simp] theorem exec_alignEnd x0 x1 : exec (.alignEnd x0 x1) s = execAlignEnd x0 x1 s := rfl
@[simp] theorem exec_openloopHandover : exec (.openloopHandover) s = execOpenloopHandover s := rfl
@[simp] theorem exec_startFailure : exec (.startFailure) s = execStartFailure s := rfl
@[simp] theorem exec_phaseOrderLearn : exec (.phaseOrderLearn) s = execPhaseOrderLearn s := rfl
@[simp] theorem exec_catchEnd : exec (.catchEnd) s = execCatchEnd s := rfl
@[simp] theorem exec_loadokSet : exec (.loadokSet) s = execLoadokSet s := rfl
@[simp] theorem exec_reacqAttemptEnd x0 : exec (.reacqAttemptEnd x0) s = execReacqAttemptEnd x0 s := rfl
@[simp] theorem exec_reacqFailure : exec (.reacqFailure) s = execReacqFailure s := rfl
@[simp] theorem exec_speedFallback : exec (.speedFallback) s = execSpeedFallback s := rfl
@[simp] theorem exec_lowSpeedDrydown : exec (.lowSpeedDrydown) s = execLowSpeedDrydown s := rfl
@[simp] theorem exec_drydownTimeout : exec (.drydownTimeout) s = execDrydownTimeout s := rfl
@[simp] theorem exec_actuatorsParked : exec (.actuatorsParked) s = execActuatorsParked s := rfl
@[simp] theorem exec_spindleStopped : exec (.spindleStopped) s = execSpindleStopped s := rfl
@[simp] theorem exec_powerLoss : exec (.powerLoss) s = execPowerLoss s := rfl
@[simp] theorem exec_regenEnd : exec (.regenEnd) s = execRegenEnd s := rfl
@[simp] theorem exec_phaseShortGround x0 : exec (.phaseShortGround x0) s = execPhaseShortGround x0 s := rfl
@[simp] theorem exec_openPhase x0 : exec (.openPhase x0) s = execOpenPhase x0 s := rfl
@[simp] theorem exec_busOvervoltage : exec (.busOvervoltage) s = execBusOvervoltage s := rfl
@[simp] theorem exec_overcurrentTest x0 : exec (.overcurrentTest x0) s = execOvercurrentTest x0 s := rfl
@[simp] theorem exec_contextDispatch x0 : exec (.contextDispatch x0) s = execContextDispatch x0 s := rfl
@[simp] theorem exec_nop x0 x1 x2 : exec (.nop x0 x1 x2) s = execNop x0 x1 x2 s := rfl
@[simp] theorem exec_mul x0 x1 x2 x3 x4 x5 : exec (.mul x0 x1 x2 x3 x4 x5) s = execMul x0 x1 x2 x3 x4 x5 s := rfl
@[simp] theorem exec_mac x0 x1 x2 x3 x4 x5 : exec (.mac x0 x1 x2 x3 x4 x5) s = execMac x0 x1 x2 x3 x4 x5 s := rfl
@[simp] theorem exec_msu x0 x1 x2 x3 x4 x5 : exec (.msu x0 x1 x2 x3 x4 x5) s = execMsu x0 x1 x2 x3 x4 x5 s := rfl
@[simp] theorem exec_add x0 x1 x2 x3 : exec (.add x0 x1 x2 x3) s = execAdd x0 x1 x2 x3 s := rfl
@[simp] theorem exec_lda x0 x1 x2 x3 : exec (.lda x0 x1 x2 x3) s = execLda x0 x1 x2 x3 s := rfl
@[simp] theorem exec_clr x0 x1 x2 : exec (.clr x0 x1 x2) s = execClr x0 x1 x2 s := rfl
@[simp] theorem exec_abs x0 x1 x2 : exec (.abs x0 x1 x2) s = execAbs x0 x1 x2 s := rfl
@[simp] theorem exec_wr x0 x1 x2 x3 x4 x5 : exec (.wr x0 x1 x2 x3 x4 x5) s = execWr x0 x1 x2 x3 x4 x5 s := rfl
@[simp] theorem exec_min x0 x1 x2 x3 : exec (.min x0 x1 x2 x3) s = execMin x0 x1 x2 x3 s := rfl
@[simp] theorem exec_max x0 x1 x2 x3 : exec (.max x0 x1 x2 x3) s = execMax x0 x1 x2 x3 s := rfl
@[simp] theorem exec_ld x0 x1 x2 x3 x4 x5 : exec (.ld x0 x1 x2 x3 x4 x5) s = execLd x0 x1 x2 x3 x4 x5 s := rfl
@[simp] theorem exec_loadDataReturn x0 : exec (.loadDataReturn x0) s = execLoadDataReturn x0 s := rfl
@[simp] theorem exec_st x0 x1 x2 x3 x4 x5 : exec (.st x0 x1 x2 x3 x4 x5) s = execSt x0 x1 x2 x3 x4 x5 s := rfl
@[simp] theorem exec_stg x0 x1 x2 x3 x4 x5 : exec (.stg x0 x1 x2 x3 x4 x5) s = execStg x0 x1 x2 x3 x4 x5 s := rfl
@[simp] theorem exec_dir x0 x1 x2 x3 x4 x5 : exec (.dir x0 x1 x2 x3 x4 x5) s = execDir x0 x1 x2 x3 x4 x5 s := rfl
@[simp] theorem exec_movb x0 x1 x2 x3 x4 x5 : exec (.movb x0 x1 x2 x3 x4 x5) s = execMovb x0 x1 x2 x3 x4 x5 s := rfl
@[simp] theorem exec_jmp x0 x1 x2 : exec (.jmp x0 x1 x2) s = execJmp x0 x1 x2 s := rfl
@[simp] theorem exec_br x0 x1 x2 x3 : exec (.br x0 x1 x2 x3) s = execBr x0 x1 x2 x3 s := rfl
@[simp] theorem exec_brn x0 x1 x2 x3 : exec (.brn x0 x1 x2 x3) s = execBrn x0 x1 x2 x3 s := rfl
@[simp] theorem exec_loop x0 x1 x2 : exec (.loop x0 x1 x2) s = execLoop x0 x1 x2 s := rfl
@[simp] theorem exec_setx x0 x1 x2 x3 : exec (.setx x0 x1 x2 x3) s = execSetx x0 x1 x2 x3 s := rfl
@[simp] theorem exec_cmt x0 x1 : exec (.cmt x0 x1) s = execCmt x0 x1 s := rfl
@[simp] theorem exec_endOp x0 x1 : exec (.endOp x0 x1) s = execEndOp x0 x1 s := rfl
@[simp] theorem exec_cmtend x0 x1 : exec (.cmtend x0 x1) s = execCmtend x0 x1 s := rfl
@[simp] theorem exec_sig x0 x1 x2 : exec (.sig x0 x1 x2) s = execSig x0 x1 x2 s := rfl
@[simp] theorem exec_kill x0 x1 x2 : exec (.kill x0 x1 x2) s = execKill x0 x1 x2 s := rfl
@[simp] theorem exec_ovr x0 x1 x2 x3 : exec (.ovr x0 x1 x2 x3) s = execOvr x0 x1 x2 x3 s := rfl
@[simp] theorem exec_ovrrel x0 x1 x2 : exec (.ovrrel x0 x1 x2) s = execOvrrel x0 x1 x2 s := rfl
@[simp] theorem exec_trc x0 x1 x2 x3 : exec (.trc x0 x1 x2 x3) s = execTrc x0 x1 x2 x3 s := rfl
@[simp] theorem exec_customerWordLimit x0 : exec (.customerWordLimit x0) s = execCustomerWordLimit x0 s := rfl
@[simp] theorem exec_lpeTrig x0 x1 : exec (.lpeTrig x0 x1) s = execLpeTrig x0 x1 s := rfl
@[simp] theorem exec_lpeKill x0 x1 : exec (.lpeKill x0 x1) s = execLpeKill x0 x1 s := rfl
@[simp] theorem exec_fwOverrideSet x0 x1 : exec (.fwOverrideSet x0 x1) s = execFwOverrideSet x0 x1 s := rfl
@[simp] theorem exec_fwOverrideRelease x0 : exec (.fwOverrideRelease x0) s = execFwOverrideRelease x0 s := rfl
@[simp] theorem exec_lpeRun x0 : exec (.lpeRun x0) s = execLpeRun x0 s := rfl
@[simp] theorem exec_imageLoad x0 : exec (.imageLoad x0) s = execImageLoad x0 s := rfl
@[simp] theorem exec_imageLoadDone x0 : exec (.imageLoadDone x0) s = execImageLoadDone x0 s := rfl
@[simp] theorem exec_imageCopy x0 : exec (.imageCopy x0) s = execImageCopy x0 s := rfl
@[simp] theorem exec_controlStoreScrub x0 x1 : exec (.controlStoreScrub x0 x1) s = execControlStoreScrub x0 x1 s := rfl
@[simp] theorem exec_sillageArm x0 : exec (.sillageArm x0) s = execSillageArm x0 s := rfl
@[simp] theorem exec_sillageForce x0 : exec (.sillageForce x0) s = execSillageForce x0 s := rfl
@[simp] theorem exec_sillageStop x0 : exec (.sillageStop x0) s = execSillageStop x0 s := rfl
@[simp] theorem exec_sillagePeriodCapture x0 : exec (.sillagePeriodCapture x0) s = execSillagePeriodCapture x0 s := rfl
@[simp] theorem exec_sillageDone x0 : exec (.sillageDone x0) s = execSillageDone x0 s := rfl
@[simp] theorem exec_sildatRead : exec (.sildatRead) s = execSildatRead s := rfl
@[simp] theorem exec_dramRead x0 x1 x2 : exec (.dramRead x0 x1 x2) s = execDramRead x0 x1 x2 s := rfl
@[simp] theorem exec_dramWrite x0 x1 x2 x3 : exec (.dramWrite x0 x1 x2 x3) s = execDramWrite x0 x1 x2 x3 s := rfl
@[simp] theorem exec_sramFillDone : exec (.sramFillDone) s = execSramFillDone s := rfl
@[simp] theorem exec_backgroundFillPage : exec (.backgroundFillPage) s = execBackgroundFillPage s := rfl
@[simp] theorem exec_mergeTimeout x0 : exec (.mergeTimeout x0) s = execMergeTimeout x0 s := rfl
@[simp] theorem exec_bufFence : exec (.bufFence) s = execBufFence s := rfl
@[simp] theorem exec_scrubBlock x0 : exec (.scrubBlock x0) s = execScrubBlock x0 s := rfl
@[simp] theorem exec_sramScrub x0 : exec (.sramScrub x0) s = execSramScrub x0 s := rfl
@[simp] theorem exec_retireGo x0 : exec (.retireGo x0) s = execRetireGo x0 s := rfl
@[simp] theorem exec_retireDone x0 : exec (.retireDone x0) s = execRetireDone x0 s := rfl
@[simp] theorem exec_dmaResume x0 : exec (.dmaResume x0) s = execDmaResume x0 s := rfl
@[simp] theorem exec_wck2dqTracking : exec (.wck2dqTracking) s = execWck2dqTracking s := rfl
@[simp] theorem exec_sqTailDoorbell x0 x1 : exec (.sqTailDoorbell x0 x1) s = execSqTailDoorbell x0 x1 s := rfl
@[simp] theorem exec_cqHeadDoorbell x0 x1 : exec (.cqHeadDoorbell x0 x1) s = execCqHeadDoorbell x0 x1 s := rfl
@[simp] theorem exec_vendorDoorbell x0 x1 : exec (.vendorDoorbell x0 x1) s = execVendorDoorbell x0 x1 s := rfl
@[simp] theorem exec_ccEnable x0 : exec (.ccEnable x0) s = execCcEnable x0 s := rfl
@[simp] theorem exec_controllerReady : exec (.controllerReady) s = execControllerReady s := rfl
@[simp] theorem exec_ccDisable : exec (.ccDisable) s = execCcDisable s := rfl
@[simp] theorem exec_nvmSubsystemReset : exec (.nvmSubsystemReset) s = execNvmSubsystemReset s := rfl
@[simp] theorem exec_resetDrainTimeout : exec (.resetDrainTimeout) s = execResetDrainTimeout s := rfl
@[simp] theorem exec_shutdownNormal : exec (.shutdownNormal) s = execShutdownNormal s := rfl
@[simp] theorem exec_shutdownAbrupt : exec (.shutdownAbrupt) s = execShutdownAbrupt s := rfl
@[simp] theorem exec_commandFetch x0 : exec (.commandFetch x0) s = execCommandFetch x0 s := rfl
@[simp] theorem exec_deleteIoSq x0 x1 : exec (.deleteIoSq x0 x1) s = execDeleteIoSq x0 x1 s := rfl
@[simp] theorem exec_createIoSq x0 x1 x2 x3 : exec (.createIoSq x0 x1 x2 x3) s = execCreateIoSq x0 x1 x2 x3 s := rfl
@[simp] theorem exec_deleteIoCq x0 x1 : exec (.deleteIoCq x0 x1) s = execDeleteIoCq x0 x1 s := rfl
@[simp] theorem exec_createIoCq x0 x1 x2 x3 x4 : exec (.createIoCq x0 x1 x2 x3 x4) s = execCreateIoCq x0 x1 x2 x3 x4 s := rfl
@[simp] theorem exec_getLogPage x0 x1 x2 x3 x4 : exec (.getLogPage x0 x1 x2 x3 x4) s = execGetLogPage x0 x1 x2 x3 x4 s := rfl
@[simp] theorem exec_identify x0 : exec (.identify x0) s = execIdentify x0 s := rfl
@[simp] theorem exec_abort x0 : exec (.abort x0) s = execAbort x0 s := rfl
@[simp] theorem exec_setFeatures x0 x1 x2 : exec (.setFeatures x0 x1 x2) s = execSetFeatures x0 x1 x2 s := rfl
@[simp] theorem exec_powerManagement x0 x1 : exec (.powerManagement x0 x1) s = execPowerManagement x0 x1 s := rfl
@[simp] theorem exec_numberOfQueues x0 x1 x2 : exec (.numberOfQueues x0 x1 x2) s = execNumberOfQueues x0 x1 x2 s := rfl
@[simp] theorem exec_volatileWriteCache x0 x1 : exec (.volatileWriteCache x0 x1) s = execVolatileWriteCache x0 x1 s := rfl
@[simp] theorem exec_spinWaitLimit x0 x1 : exec (.spinWaitLimit x0 x1) s = execSpinWaitLimit x0 x1 s := rfl
@[simp] theorem exec_diagnosticUnlock x0 x1 x2 : exec (.diagnosticUnlock x0 x1 x2) s = execDiagnosticUnlock x0 x1 x2 s := rfl
@[simp] theorem exec_mediaPolicy x0 x1 x2 x3 : exec (.mediaPolicy x0 x1 x2 x3) s = execMediaPolicy x0 x1 x2 x3 s := rfl
@[simp] theorem exec_getFeatures x0 x1 x2 : exec (.getFeatures x0 x1 x2) s = execGetFeatures x0 x1 x2 s := rfl
@[simp] theorem exec_asyncEventRequest x0 : exec (.asyncEventRequest x0) s = execAsyncEventRequest x0 s := rfl
@[simp] theorem exec_firmwareImageDownload x0 x1 x2 : exec (.firmwareImageDownload x0 x1 x2) s = execFirmwareImageDownload x0 x1 x2 s := rfl
@[simp] theorem exec_firmwareCommit x0 x1 x2 x3 x4 : exec (.firmwareCommit x0 x1 x2 x3 x4) s = execFirmwareCommit x0 x1 x2 x3 x4 s := rfl
@[simp] theorem exec_firmwareActivation : exec (.firmwareActivation) s = execFirmwareActivation s := rfl
@[simp] theorem exec_activationTimeout : exec (.activationTimeout) s = execActivationTimeout s := rfl
@[simp] theorem exec_flush x0 x1 : exec (.flush x0 x1) s = execFlush x0 x1 s := rfl
@[simp] theorem exec_write x0 x1 : exec (.write x0 x1) s = execWrite x0 x1 s := rfl
@[simp] theorem exec_read x0 x1 : exec (.read x0 x1) s = execRead x0 x1 s := rfl
@[simp] theorem exec_zoneAppend x0 x1 : exec (.zoneAppend x0 x1) s = execZoneAppend x0 x1 s := rfl
@[simp] theorem exec_zoneClose x0 x1 x2 x3 : exec (.zoneClose x0 x1 x2 x3) s = execZoneClose x0 x1 x2 x3 s := rfl
@[simp] theorem exec_zoneFinish x0 x1 x2 x3 : exec (.zoneFinish x0 x1 x2 x3) s = execZoneFinish x0 x1 x2 x3 s := rfl
@[simp] theorem exec_zoneOpen x0 x1 x2 x3 : exec (.zoneOpen x0 x1 x2 x3) s = execZoneOpen x0 x1 x2 x3 s := rfl
@[simp] theorem exec_zoneReset x0 x1 x2 x3 : exec (.zoneReset x0 x1 x2 x3) s = execZoneReset x0 x1 x2 x3 s := rfl
@[simp] theorem exec_zoneOffline x0 x1 x2 : exec (.zoneOffline x0 x1 x2) s = execZoneOffline x0 x1 x2 s := rfl
@[simp] theorem exec_setZoneDescriptorExtension x0 x1 x2 : exec (.setZoneDescriptorExtension x0 x1 x2) s = execSetZoneDescriptorExtension x0 x1 x2 s := rfl
@[simp] theorem exec_reportZones x0 x1 x2 x3 x4 x5 x6 : exec (.reportZones x0 x1 x2 x3 x4 x5 x6) s = execReportZones x0 x1 x2 x3 x4 x5 x6 s := rfl
@[simp] theorem exec_spinWaitExpiry x0 x1 : exec (.spinWaitExpiry x0 x1) s = execSpinWaitExpiry x0 x1 s := rfl
@[simp] theorem exec_frontierWaitExpiry x0 : exec (.frontierWaitExpiry x0) s = execFrontierWaitExpiry x0 s := rfl
@[simp] theorem exec_nvqRun x0 : exec (.nvqRun x0) s = execNvqRun x0 s := rfl
@[simp] theorem exec_linkDown : exec (.linkDown) s = execLinkDown s := rfl
@[simp] theorem exec_perstAssert : exec (.perstAssert) s = execPerstAssert s := rfl
@[simp] theorem exec_perstDeassert : exec (.perstDeassert) s = execPerstDeassert s := rfl
@[simp] theorem exec_memoryReadRequest x0 : exec (.memoryReadRequest x0) s = execMemoryReadRequest x0 s := rfl
@[simp] theorem exec_memoryWriteRequest x0 : exec (.memoryWriteRequest x0) s = execMemoryWriteRequest x0 s := rfl
@[simp] theorem exec_configRequest x0 : exec (.configRequest x0) s = execConfigRequest x0 s := rfl
@[simp] theorem exec_messageReceived x0 : exec (.messageReceived x0) s = execMessageReceived x0 s := rfl
@[simp] theorem exec_pmeTurnOff : exec (.pmeTurnOff) s = execPmeTurnOff s := rfl
@[simp] theorem exec_completionReceived x0 x1 x2 : exec (.completionReceived x0 x1 x2) s = execCompletionReceived x0 x1 x2 s := rfl
@[simp] theorem exec_completionTimeout x0 : exec (.completionTimeout x0) s = execCompletionTimeout x0 s := rfl
@[simp] theorem exec_quarantineEnd x0 : exec (.quarantineEnd x0) s = execQuarantineEnd x0 s := rfl
@[simp] theorem exec_busMasterDisable : exec (.busMasterDisable) s = execBusMasterDisable s := rfl
@[simp] theorem exec_busMasterEnable x0 : exec (.busMasterEnable x0) s = execBusMasterEnable x0 s := rfl
@[simp] theorem exec_functionLevelReset : exec (.functionLevelReset) s = execFunctionLevelReset s := rfl
@[simp] theorem exec_d3hotEntry : exec (.d3hotEntry) s = execD3hotEntry s := rfl
@[simp] theorem exec_d0Entry : exec (.d0Entry) s = execD0Entry s := rfl
@[simp] theorem exec_egressFreeze : exec (.egressFreeze) s = execEgressFreeze s := rfl
@[simp] theorem exec_freezeRelease : exec (.freezeRelease) s = execFreezeRelease s := rfl
@[simp] theorem exec_l1Entry : exec (.l1Entry) s = execL1Entry s := rfl
@[simp] theorem exec_msixUnmask x0 : exec (.msixUnmask x0) s = execMsixUnmask x0 s := rfl
@[simp] theorem exec_railMonitorTrip x0 : exec (.railMonitorTrip x0) s = execRailMonitorTrip x0 s := rfl
@[simp] theorem exec_railMonitorClear x0 : exec (.railMonitorClear x0) s = execRailMonitorClear x0 s := rfl
@[simp] theorem exec_macerationExpiry x0 : exec (.macerationExpiry x0) s = execMacerationExpiry x0 s := rfl
@[simp] theorem exec_recoveryWindowClose x0 : exec (.recoveryWindowClose x0) s = execRecoveryWindowClose x0 s := rfl
@[simp] theorem exec_faultInject x0 : exec (.faultInject x0) s = execFaultInject x0 s := rfl
@[simp] theorem exec_firstCaptureRearm : exec (.firstCaptureRearm) s = execFirstCaptureRearm s := rfl
@[simp] theorem exec_bnrFirmwareEntry x0 : exec (.bnrFirmwareEntry x0) s = execBnrFirmwareEntry x0 s := rfl
@[simp] theorem exec_bnrDat7Read : exec (.bnrDat7Read) s = execBnrDat7Read s := rfl
@[simp] theorem exec_bnrDump : exec (.bnrDump) s = execBnrDump s := rfl
@[simp] theorem exec_dumpComplete : exec (.dumpComplete) s = execDumpComplete s := rfl
@[simp] theorem exec_pwrGoodRise x0 x1 x2 x3 : exec (.pwrGoodRise x0 x1 x2 x3) s = execPwrGoodRise x0 x1 x2 x3 s := rfl
@[simp] theorem exec_pwrGoodFall : exec (.pwrGoodFall) s = execPwrGoodFall s := rfl
@[simp] theorem exec_resetNAssert : exec (.resetNAssert) s = execResetNAssert s := rfl
@[simp] theorem exec_resetNDeassert x0 x1 x2 : exec (.resetNDeassert x0 x1 x2) s = execResetNDeassert x0 x1 x2 s := rfl
@[simp] theorem exec_glbWarmReset x0 x1 x2 x3 : exec (.glbWarmReset x0 x1 x2 x3) s = execGlbWarmReset x0 x1 x2 x3 s := rfl
@[simp] theorem exec_glbColdReset x0 x1 x2 x3 : exec (.glbColdReset x0 x1 x2 x3) s = execGlbColdReset x0 x1 x2 x3 s := rfl
@[simp] theorem exec_vddAonLow : exec (.vddAonLow) s = execVddAonLow s := rfl
@[simp] theorem exec_vddAonReturn x0 x1 x2 : exec (.vddAonReturn x0 x1 x2) s = execVddAonReturn x0 x1 x2 s := rfl
@[simp] theorem exec_flaconLoadDone x0 x1 x2 x3 x4 x5 x6 : exec (.flaconLoadDone x0 x1 x2 x3 x4 x5 x6) s = execFlaconLoadDone x0 x1 x2 x3 x4 x5 x6 s := rfl
@[simp] theorem exec_dramTrainingDone x0 x1 : exec (.dramTrainingDone x0 x1) s = execDramTrainingDone x0 x1 s := rfl
@[simp] theorem exec_configurationComplete : exec (.configurationComplete) s = execConfigurationComplete s := rfl
@[simp] theorem exec_cfgdoneTimeout : exec (.cfgdoneTimeout) s = execCfgdoneTimeout s := rfl
@[simp] theorem exec_avsVoltageRequest x0 x1 : exec (.avsVoltageRequest x0 x1) s = execAvsVoltageRequest x0 x1 s := rfl
@[simp] theorem exec_dieTemperatureTrip x0 : exec (.dieTemperatureTrip x0) s = execDieTemperatureTrip x0 s := rfl
@[simp] theorem exec_bypass : exec (.bypass) s = execBypass s := rfl
@[simp] theorem exec_idcode : exec (.idcode) s = execIdcode s := rfl
@[simp] theorem exec_samplePreload x0 : exec (.samplePreload x0) s = execSamplePreload x0 s := rfl
@[simp] theorem exec_extest : exec (.extest) s = execExtest s := rfl
@[simp] theorem exec_clamp : exec (.clamp) s = execClamp s := rfl
@[simp] theorem exec_highz : exec (.highz) s = execHighz s := rfl
@[simp] theorem exec_mgrRun x0 x1 x2 : exec (.mgrRun x0 x1 x2) s = execMgrRun x0 x1 x2 s := rfl
@[simp] theorem exec_mgrDiscover x0 : exec (.mgrDiscover x0) s = execMgrDiscover x0 s := rfl
@[simp] theorem exec_mgrFwGo : exec (.mgrFwGo) s = execMgrFwGo s := rfl
@[simp] theorem exec_pollPeriod : exec (.pollPeriod) s = execPollPeriod s := rfl
@[simp] theorem exec_claikReplyTimeout : exec (.claikReplyTimeout) s = execClaikReplyTimeout s := rfl
@[simp] theorem exec_upstreamSilence : exec (.upstreamSilence) s = execUpstreamSilence s := rfl
@[simp] theorem exec_discoverResponseSlot : exec (.discoverResponseSlot) s = execDiscoverResponseSlot s := rfl
@[simp] theorem exec_poll x0 x1 : exec (.poll x0 x1) s = execPoll x0 x1 s := rfl
@[simp] theorem exec_discover x0 : exec (.discover x0) s = execDiscover x0 s := rfl
@[simp] theorem exec_assign x0 x1 x2 x3 x4 : exec (.assign x0 x1 x2 x3 x4) s = execAssign x0 x1 x2 x3 x4 s := rfl
@[simp] theorem exec_grant x0 x1 x2 : exec (.grant x0 x1 x2) s = execGrant x0 x1 x2 s := rfl
@[simp] theorem exec_drydown x0 x1 : exec (.drydown x0 x1) s = execDrydown x0 x1 s := rfl
@[simp] theorem exec_release x0 x1 : exec (.release x0 x1) s = execRelease x0 x1 s := rfl
@[simp] theorem exec_spin x0 x1 : exec (.spin x0 x1) s = execSpin x0 x1 s := rfl
@[simp] theorem exec_pscap x0 x1 x2 : exec (.pscap x0 x1 x2) s = execPscap x0 x1 x2 s := rfl
@[simp] theorem exec_setref x0 x1 x2 x3 x4 : exec (.setref x0 x1 x2 x3 x4) s = execSetref x0 x1 x2 x3 x4 s := rfl
@[simp] theorem exec_fwactivate x0 x1 : exec (.fwactivate x0 x1) s = execFwactivate x0 x1 s := rfl
@[simp] theorem exec_sync x0 x1 : exec (.sync x0 x1) s = execSync x0 x1 s := rfl
@[simp] theorem exec_fwdata x0 x1 : exec (.fwdata x0 x1) s = execFwdata x0 x1 s := rfl
@[simp] theorem exec_fwctlQuery x0 x1 : exec (.fwctlQuery x0 x1) s = execFwctlQuery x0 x1 s := rfl
@[simp] theorem exec_fwctlCommit x0 x1 x2 : exec (.fwctlCommit x0 x1 x2) s = execFwctlCommit x0 x1 x2 s := rfl
@[simp] theorem exec_harvest x0 x1 x2 x3 : exec (.harvest x0 x1 x2 x3) s = execHarvest x0 x1 x2 x3 s := rfl
@[simp] theorem exec_peerinfo x0 x1 : exec (.peerinfo x0 x1) s = execPeerinfo x0 x1 s := rfl
@[simp] theorem exec_wake x0 x1 : exec (.wake x0 x1) s = execWake x0 x1 s := rfl
@[simp] theorem exec_reservedType x0 : exec (.reservedType x0) s = execReservedType x0 s := rfl
@[simp] theorem exec_status x0 x1 : exec (.status x0 x1) s = execStatus x0 x1 s := rfl
@[simp] theorem exec_hello x0 x1 x2 : exec (.hello x0 x1 x2) s = execHello x0 x1 x2 s := rfl
@[simp] theorem exec_ack x0 x1 x2 : exec (.ack x0 x1 x2) s = execAck x0 x1 x2 s := rfl
@[simp] theorem exec_fwstat x0 x1 x2 : exec (.fwstat x0 x1 x2) s = execFwstat x0 x1 x2 s := rfl
@[simp] theorem exec_record x0 x1 : exec (.record x0 x1) s = execRecord x0 x1 s := rfl
@[simp] theorem exec_harvestTimer : exec (.harvestTimer) s = execHarvestTimer s := rfl
@[simp] theorem exec_peerCommandTimeout x0 x1 : exec (.peerCommandTimeout x0 x1) s = execPeerCommandTimeout x0 x1 s := rfl
@[simp] theorem exec_workerSilent x0 : exec (.workerSilent x0) s = execWorkerSilent x0 s := rfl
@[simp] theorem exec_syncOutFault : exec (.syncOutFault) s = execSyncOutFault s := rfl
@[simp] theorem exec_registerWrite x0 x1 x2 : exec (.registerWrite x0 x1 x2) s = execRegisterWrite x0 x1 x2 s := rfl
@[simp] theorem exec_referenceClockLost x0 : exec (.referenceClockLost x0) s = execReferenceClockLost x0 s := rfl
@[simp] theorem exec_referenceClockReturn x0 : exec (.referenceClockReturn x0) s = execReferenceClockReturn x0 s := rfl
@[simp] theorem exec_watchdogExpiry x0 : exec (.watchdogExpiry x0) s = execWatchdogExpiry x0 s := rfl
@[simp] theorem exec_sramRead x0 x1 x2 x3 : exec (.sramRead x0 x1 x2 x3) s = execSramRead x0 x1 x2 x3 s := rfl
@[simp] theorem exec_clearingRead x0 x1 : exec (.clearingRead x0 x1) s = execClearingRead x0 x1 s := rfl
@[simp] theorem exec_srvMemdatWrite x0 x1 : exec (.srvMemdatWrite x0 x1) s = execSrvMemdatWrite x0 x1 s := rfl
@[simp] theorem exec_srvMemdatRead x0 : exec (.srvMemdatRead x0) s = execSrvMemdatRead x0 s := rfl
@[simp] theorem exec_vcmSensePairExchanged x0 : exec (.vcmSensePairExchanged x0) s = execVcmSensePairExchanged x0 s := rfl
@[simp] theorem exec_claikFrameCrcError x0 : exec (.claikFrameCrcError x0) s = execClaikFrameCrcError x0 s := rfl
@[simp] theorem exec_addressConflict x0 : exec (.addressConflict x0) s = execAddressConflict x0 s := rfl
@[simp] theorem exec_discoverRoundEnd : exec (.discoverRoundEnd) s = execDiscoverRoundEnd s := rfl
@[simp] theorem exec_ckminExpiry : exec (.ckminExpiry) s = execCkminExpiry s := rfl
@[simp] theorem exec_dataLinkUp x0 x1 x2 : exec (.dataLinkUp x0 x1 x2) s = execDataLinkUp x0 x1 x2 s := rfl
@[simp] theorem exec_linkError x0 : exec (.linkError x0) s = execLinkError x0 s := rfl
@[simp] theorem exec_aggregationTimeExpiry x0 : exec (.aggregationTimeExpiry x0) s = execAggregationTimeExpiry x0 s := rfl

end Sys2Proof.Machine
end

