-- ==== Sys2Proof/Laws/KeepRaise.lean ====
section
/-!
SUPPORT. Operations that raise and lower fault sources, with all that follows from that (the collector's reactions), and those that
set no other register field: one lemma each, with the fields `raiseFields` (R569–R620).
-/

set_option linter.unreachableTactic false
set_option linter.unusedTactic false
set_option linter.tactic.unusedName false
set_option linter.unusedSimpArgs false
set_option linter.unusedVariables false

namespace Sys2Proof.Machine

set_option Elab.async false

variable {P : State → Prop} {T : Nat → Bool}

theorem keep_State_enter (hP : Closed byRaise P) (s : State) (typ : ℕ) (source : ℕ) (sev : ℕ) (inst : ℕ) (rcnt : ℕ) (d0 : ℕ) (d1 : ℕ) (hs : P s) :
    P (State.enter s typ source sev inst rcnt d0 d1) := by
  unfold State.enter
  repeat' first
    | with_reducible assumption
    | with_reducible refine hP.bump _ BNR_STS_HEAD _ in_BNR_STS_HEAD ?_
    | with_reducible refine hP.bump _ BNR_STS_SEQ _ in_BNR_STS_SEQ ?_
    | with_reducible refine hP.set _ BNR_STS_WRAPPED _ _ in_BNR_STS_WRAPPED ?_
    | (extract_lets +onlyGivenNames t; refine (fun (_ : P t) => ?_) ?_; (on_goal 2 => (dsimp -zeta only [t]; clear t)); (on_goal 1 => (clear_value t; rename' t => w)))
    | (extract_lets +onlyGivenNames t; refine (fun (_ : P t.1) => ?_) ?_; (on_goal 2 => (dsimp -zeta only [t]; clear t)); (on_goal 1 => (clear_value t; rename' t => w)))
    | (extract_lets +onlyGivenNames t; clear_value t; rename' t => w)
    | with_reducible rfl
    | with_reducible exact List.prefix_rfl
    | with_reducible exact le_rfl
    | with_reducible exact fun h => h
    | exact fun h => Memory.wf_writeList _ _ h
    | exact Nat.le_add_right _ _
    | with_reducible exact List.prefix_append _ _
    | with_reducible refine Closed.foldl _ _ _ (fun _ _ _ => ?_) ?_
    | split
    | with_reducible refine hP.build _ ?_ ?_ ?_ ?_

theorem keep_State_enterSource (hP : Closed byRaise P) (s : State) (typ : ℕ) (n : ℕ) (inst : ℕ) (hs : P s) :
    P (State.enterSource s typ n inst) := by
  unfold State.enterSource
  repeat' first
    | with_reducible assumption
    | with_reducible refine keep_State_enter hP _ _ _ _ _ _ _ _ ?_
    | (extract_lets +onlyGivenNames t; refine (fun (_ : P t) => ?_) ?_; (on_goal 2 => (dsimp -zeta only [t]; clear t)); (on_goal 1 => (clear_value t; rename' t => w)))
    | (extract_lets +onlyGivenNames t; refine (fun (_ : P t.1) => ?_) ?_; (on_goal 2 => (dsimp -zeta only [t]; clear t)); (on_goal 1 => (clear_value t; rename' t => w)))
    | (extract_lets +onlyGivenNames t; clear_value t; rename' t => w)
    | with_reducible refine Closed.foldl _ _ _ (fun _ _ _ => ?_) ?_
    | split

theorem keep_State_marker (hP : Closed byRaise P) (s : State) (code : ℕ) (hs : P s) :
    P (State.marker s code) := by
  unfold State.marker
  repeat' first
    | with_reducible assumption
    | with_reducible refine keep_State_enter hP _ _ _ _ _ _ _ _ ?_
    | with_reducible refine Closed.foldl _ _ _ (fun _ _ _ => ?_) ?_
    | split

theorem keep_State_modFrames (hP : Closed byRaise P) (s : State) (p : RowRec → RowFrame → Bool) (f : RowFrame → RowFrame) (hs : P s) :
    P (State.modFrames s p f) := by
  unfold State.modFrames
  repeat' first
    | with_reducible assumption
    | with_reducible rfl
    | with_reducible exact List.prefix_rfl
    | with_reducible exact le_rfl
    | with_reducible exact fun h => h
    | exact fun h => Memory.wf_writeList _ _ h
    | exact Nat.le_add_right _ _
    | with_reducible exact List.prefix_append _ _
    | with_reducible refine Closed.foldl _ _ _ (fun _ _ _ => ?_) ?_
    | split
    | with_reducible refine hP.build _ ?_ ?_ ?_ ?_

theorem keep_State_setLinkQ (hP : Closed byRaise P) (s : State) (a : ℕ) (q : List HlkReq) (hs : P s) :
    P (State.setLinkQ s a q) := by
  unfold State.setLinkQ
  repeat' first
    | with_reducible assumption
    | with_reducible rfl
    | with_reducible exact List.prefix_rfl
    | with_reducible exact le_rfl
    | with_reducible exact fun h => h
    | exact fun h => Memory.wf_writeList _ _ h
    | exact Nat.le_add_right _ _
    | with_reducible exact List.prefix_append _ _
    | with_reducible refine Closed.foldl _ _ _ (fun _ _ _ => ?_) ?_
    | split
    | with_reducible refine hP.build _ ?_ ?_ ?_ ?_

theorem keep_State_setLive (hP : Closed byRaise P) (s : State) (n : ℕ) (l : List LiveInst) (hs : P s) :
    P (State.setLive s n l) := by
  unfold State.setLive
  repeat' first
    | with_reducible assumption
    | with_reducible refine hP.setBit _ FLT_LIVE _ _ _ in_FLT_LIVE ?_
    | with_reducible rfl
    | with_reducible exact List.prefix_rfl
    | with_reducible exact le_rfl
    | with_reducible exact fun h => h
    | exact fun h => Memory.wf_writeList _ _ h
    | exact Nat.le_add_right _ _
    | with_reducible exact List.prefix_append _ _
    | with_reducible refine Closed.foldl _ _ _ (fun _ _ _ => ?_) ?_
    | split
    | with_reducible refine hP.build _ ?_ ?_ ?_ ?_

theorem keep_State_setLword (hP : Closed byRaise P) (s : State) (l : ℕ) (space : ℕ) (w : ℕ) (v : ℕ) (hs : P s) :
    P (State.setLword s l space w v) := by
  unfold State.setLword
  repeat' first
    | with_reducible assumption
    | with_reducible rfl
    | with_reducible exact List.prefix_rfl
    | with_reducible exact le_rfl
    | with_reducible exact fun h => h
    | exact fun h => Memory.wf_writeList _ _ h
    | exact Nat.le_add_right _ _
    | with_reducible exact List.prefix_append _ _
    | with_reducible refine Closed.foldl _ _ _ (fun _ _ _ => ?_) ?_
    | split
    | with_reducible refine hP.build _ ?_ ?_ ?_ ?_

theorem keep_State_withFetchWord (hP : Closed byRaise P) (s : State) (_nbits : ℕ) (_w : ℕ) (hs : P s) :
    P (State.withFetchWord s _nbits _w) := by
  unfold State.withFetchWord
  repeat' first
    | with_reducible assumption
    | with_reducible refine Closed.foldl _ _ _ (fun _ _ _ => ?_) ?_
    | split

theorem keep_updateInta (hP : Closed byRaise P) (s : State) (hs : P s) :
    P (updateInta s) := by
  unfold updateInta
  repeat' first
    | with_reducible assumption
    | with_reducible refine hP.emit _ _ ?_
    | with_reducible refine hP.set _ CFG_INTA _ _ in_CFG_INTA ?_
    | (extract_lets +onlyGivenNames t; refine (fun (_ : P t) => ?_) ?_; (on_goal 2 => (dsimp -zeta only [t]; clear t)); (on_goal 1 => (clear_value t; rename' t => w)))
    | (extract_lets +onlyGivenNames t; refine (fun (_ : P t.1) => ?_) ?_; (on_goal 2 => (dsimp -zeta only [t]; clear t)); (on_goal 1 => (clear_value t; rename' t => w)))
    | (extract_lets +onlyGivenNames t; clear_value t; rename' t => w)
    | with_reducible refine Closed.foldl _ _ _ (fun _ _ _ => ?_) ?_
    | split

theorem keep_signalVector (hP : Closed byRaise P) (v : ℕ) (s : State) (hs : P s) :
    P (signalVector v s) := by
  unfold signalVector
  repeat' first
    | with_reducible assumption
    | with_reducible refine hP.bump _ PCI_FRZ_DROP _ in_PCI_FRZ_DROP ?_
    | with_reducible refine hP.emit _ _ ?_
    | with_reducible refine hP.set _ MSIX_PBA _ _ in_MSIX_PBA ?_
    | with_reducible refine keep_updateInta hP _ ?_
    | with_reducible refine Closed.foldl _ _ _ (fun _ _ _ => ?_) ?_
    | split

theorem keep_postEntry (hP : Closed byRaise P) (c : Cpl) (s : State) (hs : P s) :
    P (postEntry c s) := by
  unfold postEntry
  repeat' first
    | with_reducible assumption
    | with_reducible refine hP.bump _ NVQ_CNT_CMD _ in_NVQ_CNT_CMD ?_
    | with_reducible refine hP.bump _ NVQ_CNT_ERR _ in_NVQ_CNT_ERR ?_
    | with_reducible refine hP.bump _ NVQ_ERRCNT _ in_NVQ_ERRCNT ?_
    | with_reducible refine hP.emit _ _ ?_
    | with_reducible refine keep_signalVector hP _ _ ?_
    | (extract_lets +onlyGivenNames t; refine (fun (_ : P t) => ?_) ?_; (on_goal 2 => (dsimp -zeta only [t]; clear t)); (on_goal 1 => (clear_value t; rename' t => w)))
    | (extract_lets +onlyGivenNames t; refine (fun (_ : P t.1) => ?_) ?_; (on_goal 2 => (dsimp -zeta only [t]; clear t)); (on_goal 1 => (clear_value t; rename' t => w)))
    | (extract_lets +onlyGivenNames t; clear_value t; rename' t => w)
    | with_reducible rfl
    | with_reducible exact List.prefix_rfl
    | with_reducible exact le_rfl
    | with_reducible exact fun h => h
    | exact fun h => Memory.wf_writeList _ _ h
    | exact Nat.le_add_right _ _
    | with_reducible exact List.prefix_append _ _
    | with_reducible refine Closed.foldl _ _ _ (fun _ _ _ => ?_) ?_
    | split
    | with_reducible refine hP.build _ ?_ ?_ ?_ ?_

theorem keep_drainList (hP : Closed byRaise P) (a : List Cpl) (a1 : List Cpl) (a2 : State) (ha2 : P a2) :
    P (drainList a a1 a2) := by
  induction a generalizing a1 a2 with
  | nil =>
    unfold drainList
    repeat' first
      | with_reducible assumption
      | with_reducible refine keep_postEntry hP _ _ ?_
      | with_reducible rfl
      | with_reducible exact List.prefix_rfl
      | with_reducible exact le_rfl
      | with_reducible exact fun h => h
      | exact fun h => Memory.wf_writeList _ _ h
      | exact Nat.le_add_right _ _
      | with_reducible exact List.prefix_append _ _
      | with_reducible refine Closed.foldl _ _ _ (fun _ _ _ => ?_) ?_
      | split
      | with_reducible refine hP.build _ ?_ ?_ ?_ ?_
  | cons e t ih =>
    unfold drainList
    repeat' first
      | with_reducible assumption
      | with_reducible refine ih _ _ ?_
      | with_reducible refine keep_postEntry hP _ _ ?_
      | with_reducible rfl
      | with_reducible exact List.prefix_rfl
      | with_reducible exact le_rfl
      | with_reducible exact fun h => h
      | exact fun h => Memory.wf_writeList _ _ h
      | exact Nat.le_add_right _ _
      | with_reducible exact List.prefix_append _ _
      | with_reducible refine Closed.foldl _ _ _ (fun _ _ _ => ?_) ?_
      | split
      | with_reducible refine hP.build _ ?_ ?_ ?_ ?_

theorem keep_drainCpls (hP : Closed byRaise P) (s : State) (hs : P s) :
    P (drainCpls s) := by
  unfold drainCpls
  repeat' first
    | with_reducible assumption
    | with_reducible refine keep_drainList hP _ _ _ ?_
    | with_reducible refine Closed.foldl _ _ _ (fun _ _ _ => ?_) ?_
    | split

theorem keep_completeWith (hP : Closed byRaise P) (data : List Out) (sqid : ℕ) (cid : ℕ) (st : NvStatus) (dw : List ℕ) (s : State) (hs : P s) :
    P (completeWith data sqid cid st dw s) := by
  unfold completeWith
  repeat' first
    | with_reducible assumption
    | with_reducible refine hP.add _ PCI_FRZ_DROP _ _ in_PCI_FRZ_DROP ?_
    | with_reducible refine keep_drainCpls hP _ ?_
    | with_reducible rfl
    | with_reducible exact List.prefix_rfl
    | with_reducible exact le_rfl
    | with_reducible exact fun h => h
    | exact fun h => Memory.wf_writeList _ _ h
    | exact Nat.le_add_right _ _
    | with_reducible exact List.prefix_append _ _
    | with_reducible refine Closed.foldl _ _ _ (fun _ _ _ => ?_) ?_
    | split
    | with_reducible refine hP.build _ ?_ ?_ ?_ ?_

theorem keep_complete (hP : Closed byRaise P) (sqid : ℕ) (cid : ℕ) (st : NvStatus) (dw : List ℕ) (s : State) (hs : P s) :
    P (complete sqid cid st dw s) := by
  unfold complete
  repeat' first
    | with_reducible assumption
    | with_reducible refine keep_completeWith hP _ _ _ _ _ _ ?_
    | with_reducible refine Closed.foldl _ _ _ (fun _ _ _ => ?_) ?_
    | split

theorem keep_capture (hP : Closed byRaise P) (n : ℕ) (inst : ℕ) (s : State) (hs : P s) :
    P (capture n inst s) := by
  unfold capture
  repeat' first
    | with_reducible assumption
    | with_reducible refine hP.setMany _ _ _ (by simp only [List.all_cons, List.all_nil, Bool.and_true, Bool.and_self, in_FLT_FIRST_HI, in_FLT_FIRST_INST, in_FLT_FIRST_LO, in_FLT_FIRST_SEV, in_FLT_FIRST_SRC, in_FLT_FIRST_TIME, in_FLT_FIRST_VALID]) ?_
    | with_reducible refine Closed.foldl _ _ _ (fun _ _ _ => ?_) ?_
    | split

theorem keep_holdObserver (hP : Closed byRaise P) (s : State) (hs : P s) :
    P (holdObserver s) := by
  unfold holdObserver
  repeat' first
    | with_reducible assumption
    | with_reducible refine hP.setMany _ _ _ (by simp only [List.all_cons, List.all_nil, Bool.and_true, Bool.and_self, in_SPN_EMFN, in_SPN_ERRN, in_SPN_LOCKN, in_SPN_OBSLOST, in_SPN_OBSSPD, in_SPN_STATE_OBSLOCK]) ?_
    | with_reducible refine Closed.foldl _ _ _ (fun _ _ _ => ?_) ?_
    | split

theorem keep_setBridge (hP : Closed byRaise P) (b : ℕ) (s : State) (hs : P s) :
    P (setBridge b s) := by
  unfold setBridge
  repeat' first
    | with_reducible assumption
    | with_reducible refine hP.set _ SPN_BRAKED _ _ in_SPN_BRAKED ?_
    | with_reducible refine hP.set _ SPN_BRIDGE _ _ in_SPN_BRIDGE ?_
    | with_reducible refine hP.set _ SPN_GATE _ _ in_SPN_GATE ?_
    | with_reducible refine hP.setMany _ _ _ (by simp only [List.all_cons, List.all_nil, Bool.and_true, Bool.and_self, in_SPN_BRAKED, in_SPN_BRIDGE, in_SPN_CARRY, in_SPN_FIRST, in_SPN_GATE, in_SPN_ON]) ?_
    | with_reducible refine Closed.forBelow _ _ _ (fun _ _ _ => ?_) ?_
    | with_reducible refine keep_holdObserver hP _ ?_
    | (extract_lets +onlyGivenNames t; refine (fun (_ : P t) => ?_) ?_; (on_goal 2 => (dsimp -zeta only [t]; clear t)); (on_goal 1 => (clear_value t; rename' t => w)))
    | (extract_lets +onlyGivenNames t; refine (fun (_ : P t.1) => ?_) ?_; (on_goal 2 => (dsimp -zeta only [t]; clear t)); (on_goal 1 => (clear_value t; rename' t => w)))
    | (extract_lets +onlyGivenNames t; clear_value t; rename' t => w)
    | with_reducible refine Closed.foldl _ _ _ (fun _ _ _ => ?_) ?_
    | split

theorem keep_spnGo (hP : Closed byRaise P) (st : ℕ) (b : ℕ) (s : State) (hs : P s) :
    P (spnGo st b s) := by
  unfold spnGo
  repeat' first
    | with_reducible assumption
    | with_reducible refine hP.set _ SPN_CALRUN _ _ in_SPN_CALRUN ?_
    | with_reducible refine hP.set _ SPN_ONPILOT _ _ in_SPN_ONPILOT ?_
    | with_reducible refine hP.set _ SPN_STATE_LOADOK _ _ in_SPN_STATE_LOADOK ?_
    | with_reducible refine hP.setMany _ _ _ (by simp only [List.all_cons, List.all_nil, Bool.and_true, Bool.and_self, in_SPN_AGREEN, in_SPN_CALRUN, in_SPN_DDKIND, in_SPN_DDREQ, in_SPN_DISN, in_SPN_INVN, in_SPN_OBSLOST, in_SPN_ONPILOT, in_SPN_SLEWING, in_SPN_STATE_LOADOK, in_SPN_STATE_STATE]) ?_
    | with_reducible refine keep_setBridge hP _ _ ?_
    | (extract_lets +onlyGivenNames t; refine (fun (_ : P t) => ?_) ?_; (on_goal 2 => (dsimp -zeta only [t]; clear t)); (on_goal 1 => (clear_value t; rename' t => w)))
    | (extract_lets +onlyGivenNames t; refine (fun (_ : P t.1) => ?_) ?_; (on_goal 2 => (dsimp -zeta only [t]; clear t)); (on_goal 1 => (clear_value t; rename' t => w)))
    | (extract_lets +onlyGivenNames t; clear_value t; rename' t => w)
    | with_reducible refine Closed.foldl _ _ _ (fun _ _ _ => ?_) ?_
    | split

theorem keep_orderlyDrydown (hP : Closed byRaise P) (kind : ℕ) (s : State) (hs : P s) :
    P (orderlyDrydown kind s) := by
  unfold orderlyDrydown
  repeat' first
    | with_reducible assumption
    | with_reducible refine hP.emit _ _ ?_
    | with_reducible refine hP.setMany _ _ _ (by simp only [List.all_cons, List.all_nil, Bool.and_true, Bool.and_self, in_SPN_DDKIND, in_SPN_DDREQ, in_SPN_STATE_DRYPEND]) ?_
    | with_reducible refine keep_spnGo hP _ _ _ ?_
    | with_reducible refine Closed.foldl _ _ _ (fun _ _ _ => ?_) ?_
    | split

theorem keep_applyTarget (hP : Closed byRaise P) (s : State) (hs : P s) :
    P (applyTarget s) := by
  unfold applyTarget
  repeat' first
    | with_reducible assumption
    | with_reducible refine keep_orderlyDrydown hP _ _ ?_
    | (extract_lets +onlyGivenNames t; refine (fun (_ : P t) => ?_) ?_; (on_goal 2 => (dsimp -zeta only [t]; clear t)); (on_goal 1 => (clear_value t; rename' t => w)))
    | (extract_lets +onlyGivenNames t; refine (fun (_ : P t.1) => ?_) ?_; (on_goal 2 => (dsimp -zeta only [t]; clear t)); (on_goal 1 => (clear_value t; rename' t => w)))
    | (extract_lets +onlyGivenNames t; clear_value t; rename' t => w)
    | with_reducible refine Closed.foldl _ _ _ (fun _ _ _ => ?_) ?_
    | split

theorem keep_parkedEnd (hP : Closed byRaise P) (s : State) (hs : P s) :
    P (parkedEnd s) := by
  unfold parkedEnd
  repeat' first
    | with_reducible assumption
    | with_reducible refine hP.setMany _ _ _ (by simp only [List.all_cons, List.all_nil, Bool.and_true, Bool.and_self, in_SPN_HELD, in_SPN_STATE_DRYPEND, in_SPN_STATE_LASTGASP]) ?_
    | with_reducible refine keep_applyTarget hP _ ?_
    | with_reducible refine keep_setBridge hP _ _ ?_
    | with_reducible refine keep_spnGo hP _ _ _ ?_
    | with_reducible refine Closed.foldl _ _ _ (fun _ _ _ => ?_) ?_
    | split

theorem keep_chain (l : List (State → State × Follow)) (s : State) (hl : ∀ f ∈ l, ∀ t, P t → P (f t).1) (hs : P s) :
    P (chain l s).1 := by
  induction l generalizing s with
  | nil => exact hs
  | cons f l ih => exact ih _ (fun g hg => hl g (List.mem_cons_of_mem _ hg)) (hl f List.mem_cons_self s hs)

theorem keep_linkSend (hP : Closed byRaise P) (a : ℕ) (r : HlkReq) (s : State) (hs : P s) :
    P (linkSend a r s) := by
  unfold linkSend
  repeat' first
    | with_reducible assumption
    | with_reducible refine keep_State_setLinkQ hP _ _ _ ?_
    | with_reducible refine Closed.foldl _ _ _ (fun _ _ _ => ?_) ?_
    | split

theorem keep_vcmDrive (hP : Closed byRaise P) (a : ℕ) (i : ℤ) (s : State) (hs : P s) :
    P (vcmDrive a i s) := by
  unfold vcmDrive
  repeat' first
    | with_reducible assumption
    | with_reducible refine hP.setI _ SRV_DAC _ _ in_SRV_DAC ?_
    | with_reducible refine Closed.foldl _ _ _ (fun _ _ _ => ?_) ?_
    | split

theorem keep_retractDrive (hP : Closed byRaise P) (a : ℕ) (s : State) (hs : P s) :
    P (retractDrive a s) := by
  unfold retractDrive
  repeat' first
    | with_reducible assumption
    | with_reducible refine hP.used _ ?_
    | with_reducible refine keep_vcmDrive hP _ _ _ ?_
    | (extract_lets +onlyGivenNames t; refine (fun (_ : P t) => ?_) ?_; (on_goal 2 => (dsimp -zeta only [t]; clear t)); (on_goal 1 => (clear_value t; rename' t => w)))
    | (extract_lets +onlyGivenNames t; refine (fun (_ : P t.1) => ?_) ?_; (on_goal 2 => (dsimp -zeta only [t]; clear t)); (on_goal 1 => (clear_value t; rename' t => w)))
    | (extract_lets +onlyGivenNames t; clear_value t; rename' t => w)
    | with_reducible refine Closed.foldl _ _ _ (fun _ _ _ => ?_) ?_
    | split

theorem keep_retract (hP : Closed byRaise P) (a : ℕ) (s : State) (hs : P s) :
    P (retract a s).1 := by
  unfold retract
  repeat' first
    | with_reducible assumption
    | with_reducible refine hP.bump _ SRV_RET_STS_RETRACTS _ in_SRV_RET_STS_RETRACTS ?_
    | with_reducible refine hP.setBit _ SRV_RET_STS_ENGAGED _ _ _ in_SRV_RET_STS_ENGAGED ?_
    | with_reducible refine hP.setBit _ SRV_RET_STS_PARKED _ _ _ in_SRV_RET_STS_PARKED ?_
    | with_reducible refine hP.setMany _ _ _ (by simp only [List.all_cons, List.all_nil, Bool.and_true, Bool.and_self, in_SRV_DRVEN, in_SRV_HSTS_SAT, in_SRV_PES_S, in_SRV_PHASE, in_SRV_RET_STS_ENGAGED, in_SRV_RET_STS_PARKED, in_SRV_RET_STS_RETRACTS, in_SRV_SATN, in_SRV_STS_BLEND, in_SRV_STS_RVLOCK, in_SRV_STS_STATE, in_SRV_UNLOAD]) ?_
    | with_reducible refine Closed.forBelow _ _ _ (fun _ _ _ => ?_) ?_
    | with_reducible refine keep_linkSend hP _ _ _ ?_
    | with_reducible refine keep_retractDrive hP _ _ ?_
    | (extract_lets +onlyGivenNames t; refine (fun (_ : P t) => ?_) ?_; (on_goal 2 => (dsimp -zeta only [t]; clear t)); (on_goal 1 => (clear_value t; rename' t => w)))
    | (extract_lets +onlyGivenNames t; refine (fun (_ : P t.1) => ?_) ?_; (on_goal 2 => (dsimp -zeta only [t]; clear t)); (on_goal 1 => (clear_value t; rename' t => w)))
    | (extract_lets +onlyGivenNames t; clear_value t; rename' t => w)
    | with_reducible refine Closed.foldl _ _ _ (fun _ _ _ => ?_) ?_
    | split

theorem keep_retractAll (hP : Closed byRaise P) (a : State) (ha : P a) :
    P (retractAll a).1 := by
  unfold retractAll
  repeat' first
    | with_reducible assumption
    | with_reducible refine keep_chain _ _ ?_ ?_
    | with_reducible refine List.forall_mem_cons.2 ⟨fun _ _ => ?_, ?_⟩
    | exact List.forall_mem_nil _
    | with_reducible refine List.forall_mem_map.2 (fun _ _ _ _ => ?_)
    | dsimp only
    | with_reducible refine keep_retract hP _ _ ?_
    | with_reducible refine Closed.foldl _ _ _ (fun _ _ _ => ?_) ?_
    | split

theorem keep_drydownRequest (hP : Closed byRaise P) (s : State) (hs : P s) :
    P (drydownRequest s).1 := by
  unfold drydownRequest
  repeat' first
    | with_reducible assumption
    | with_reducible refine hP.setMany _ _ _ (by simp only [List.all_cons, List.all_nil, Bool.and_true, Bool.and_self, in_SPN_DDREQ, in_SPN_STATE_DRYPEND]) ?_
    | with_reducible refine keep_parkedEnd hP _ ?_
    | with_reducible refine keep_retractAll hP _ ?_
    | (extract_lets +onlyGivenNames t; refine (fun (_ : P t) => ?_) ?_; (on_goal 2 => (dsimp -zeta only [t]; clear t)); (on_goal 1 => (clear_value t; rename' t => w)))
    | (extract_lets +onlyGivenNames t; refine (fun (_ : P t.1) => ?_) ?_; (on_goal 2 => (dsimp -zeta only [t]; clear t)); (on_goal 1 => (clear_value t; rename' t => w)))
    | (extract_lets +onlyGivenNames t; clear_value t; rename' t => w)
    | with_reducible refine Closed.foldl _ _ _ (fun _ _ _ => ?_) ?_
    | split

theorem keep_enterDrydown (hP : Closed byRaise P) (b : ℕ) (s : State) (hs : P s) :
    P (enterDrydown b s).1 := by
  unfold enterDrydown
  repeat' first
    | with_reducible assumption
    | with_reducible refine hP.set _ SPN_DDKIND _ _ in_SPN_DDKIND ?_
    | with_reducible refine keep_drydownRequest hP _ ?_
    | with_reducible refine keep_spnGo hP _ _ _ ?_
    | with_reducible refine Closed.foldl _ _ _ (fun _ _ _ => ?_) ?_
    | split

theorem keep_urgentDrydown (hP : Closed byRaise P) (hiz : Bool) (s : State) (hs : P s) :
    P (urgentDrydown hiz s).1 := by
  unfold urgentDrydown
  repeat' first
    | with_reducible assumption
    | with_reducible refine keep_enterDrydown hP _ _ ?_
    | with_reducible refine keep_setBridge hP _ _ ?_
    | with_reducible refine Closed.foldl _ _ _ (fun _ _ _ => ?_) ?_
    | split

theorem keep_lockOut (hP : Closed byRaise P) (s : State) (hs : P s) :
    P (lockOut s).1 := by
  unfold lockOut
  repeat' first
    | with_reducible assumption
    | with_reducible refine hP.setMany _ _ _ (by simp only [List.all_cons, List.all_nil, Bool.and_true, Bool.and_self, in_SPN_OCFAIL, in_SPN_OCWAIT, in_SPN_STATE_FAULTLOCK]) ?_
    | with_reducible refine keep_urgentDrydown hP _ _ ?_
    | with_reducible refine Closed.foldl _ _ _ (fun _ _ _ => ?_) ?_
    | split

theorem keep_overcurrentOff (hP : Closed byRaise P) (fails : Bool) (s : State) (hs : P s) :
    P (overcurrentOff fails s) := by
  unfold overcurrentOff
  repeat' first
    | with_reducible assumption
    | with_reducible refine hP.set _ SPN_OCFAIL _ _ in_SPN_OCFAIL ?_
    | with_reducible refine hP.set _ SPN_OCTIME _ _ in_SPN_OCTIME ?_
    | with_reducible refine hP.set _ SPN_OCWAIT _ _ in_SPN_OCWAIT ?_
    | with_reducible refine keep_setBridge hP _ _ ?_
    | (extract_lets +onlyGivenNames t; refine (fun (_ : P t) => ?_) ?_; (on_goal 2 => (dsimp -zeta only [t]; clear t)); (on_goal 1 => (clear_value t; rename' t => w)))
    | (extract_lets +onlyGivenNames t; refine (fun (_ : P t.1) => ?_) ?_; (on_goal 2 => (dsimp -zeta only [t]; clear t)); (on_goal 1 => (clear_value t; rename' t => w)))
    | (extract_lets +onlyGivenNames t; clear_value t; rename' t => w)
    | with_reducible refine Closed.foldl _ _ _ (fun _ _ _ => ?_) ?_
    | split

theorem keep_enterCoast (hP : Closed byRaise P) (s : State) (hs : P s) :
    P (enterCoast s).1 := by
  unfold enterCoast
  repeat' first
    | with_reducible assumption
    | with_reducible refine hP.bump _ SPN_CNT_COASTS _ in_SPN_CNT_COASTS ?_
    | with_reducible refine keep_spnGo hP _ _ _ ?_
    | with_reducible refine Closed.foldl _ _ _ (fun _ _ _ => ?_) ?_
    | split

theorem keep_senseLost (hP : Closed byRaise P) (s : State) (hs : P s) :
    P (senseLost s).1 := by
  unfold senseLost
  repeat' first
    | with_reducible assumption
    | with_reducible refine keep_enterCoast hP _ ?_
    | with_reducible refine keep_setBridge hP _ _ ?_
    | with_reducible refine Closed.foldl _ _ _ (fun _ _ _ => ?_) ?_
    | split

theorem keep_containSpindle (hP : Closed byRaise P) (n : ℕ) (s : State) (hs : P s) :
    P (containSpindle n s).1 := by
  unfold containSpindle
  repeat' first
    | with_reducible assumption
    | with_reducible refine keep_lockOut hP _ ?_
    | with_reducible refine keep_overcurrentOff hP _ _ ?_
    | with_reducible refine keep_senseLost hP _ ?_
    | with_reducible refine Closed.foldl _ _ _ (fun _ _ _ => ?_) ?_
    | split

theorem keep_haltDma (hP : Closed byRaise P) (m : ℕ) (s : State) (hs : P s) :
    P (haltDma m s) := by
  unfold haltDma
  repeat' first
    | with_reducible assumption
    | with_reducible refine hP.set _ BUF_DMAHALT _ _ in_BUF_DMAHALT ?_
    | with_reducible refine Closed.foldl _ _ _ (fun _ _ _ => ?_) ?_
    | split

theorem keep_showOld (hP : Closed byRaise P) (s : State) (hs : P s) :
    P (showOld s) := by
  unfold showOld
  repeat' first
    | with_reducible assumption
    | with_reducible refine hP.set _ LPE_IMGSTS_OLDBUSY _ _ in_LPE_IMGSTS_OLDBUSY ?_
    | with_reducible refine Closed.foldl _ _ _ (fun _ _ _ => ?_) ?_
    | split

theorem keep_takeConfig (hP : Closed byRaise P) (c : ℕ) (s : State) (hs : P s) :
    P (takeConfig c s) := by
  unfold takeConfig
  repeat' first
    | with_reducible assumption
    | with_reducible refine hP.set _ CTX_ACC _ _ in_CTX_ACC ?_
    | with_reducible refine hP.set _ CTX_B _ _ in_CTX_B ?_
    | with_reducible refine hP.set _ CTX_X _ _ in_CTX_X ?_
    | with_reducible refine hP.set _ LPE_CTX_EN _ _ in_LPE_CTX_EN ?_
    | with_reducible refine hP.setMany _ _ _ (by simp only [List.all_cons, List.all_nil, Bool.and_true, Bool.and_self, in_CTX_ACC, in_CTX_B, in_CTX_N, in_CTX_OLD, in_CTX_PC, in_CTX_V, in_CTX_X, in_CTX_Z, in_LPE_CTX_CUST, in_LPE_CTX_EN, in_LPE_CTX_ENTRY, in_LPE_CTX_PRIO, in_LPE_CTX_SRC]) ?_
    | with_reducible refine Closed.forBelow _ _ _ (fun _ _ _ => ?_) ?_
    | (extract_lets +onlyGivenNames t; refine (fun (_ : P t) => ?_) ?_; (on_goal 2 => (dsimp -zeta only [t]; clear t)); (on_goal 1 => (clear_value t; rename' t => w)))
    | (extract_lets +onlyGivenNames t; refine (fun (_ : P t.1) => ?_) ?_; (on_goal 2 => (dsimp -zeta only [t]; clear t)); (on_goal 1 => (clear_value t; rename' t => w)))
    | (extract_lets +onlyGivenNames t; clear_value t; rename' t => w)
    | with_reducible refine Closed.foldl _ _ _ (fun _ _ _ => ?_) ?_
    | split

theorem keep_afterRun (hP : Closed byRaise P) (c : ℕ) (s : State) (hs : P s) :
    P (afterRun c s) := by
  unfold afterRun
  repeat' first
    | with_reducible assumption
    | with_reducible refine keep_showOld hP _ ?_
    | with_reducible refine keep_takeConfig hP _ _ ?_
    | with_reducible refine Closed.foldl _ _ _ (fun _ _ _ => ?_) ?_
    | split

theorem keep_killContext (hP : Closed byRaise P) (c : ℕ) (s : State) (hs : P s) :
    P (killContext c s) := by
  unfold killContext
  repeat' first
    | with_reducible assumption
    | with_reducible refine hP.set _ CTX_KILLP _ _ in_CTX_KILLP ?_
    | with_reducible refine hP.setMany _ _ _ (by simp only [List.all_cons, List.all_nil, Bool.and_true, Bool.and_self, in_CTX_KILLP, in_CTX_PC, in_CTX_WORDS, in_LPE_CTXSTS_KILLED, in_LPE_CTXSTS_PENDING, in_LPE_CTXSTS_STATE]) ?_
    | with_reducible refine keep_afterRun hP _ _ ?_
    | (extract_lets +onlyGivenNames t; refine (fun (_ : P t) => ?_) ?_; (on_goal 2 => (dsimp -zeta only [t]; clear t)); (on_goal 1 => (clear_value t; rename' t => w)))
    | (extract_lets +onlyGivenNames t; refine (fun (_ : P t.1) => ?_) ?_; (on_goal 2 => (dsimp -zeta only [t]; clear t)); (on_goal 1 => (clear_value t; rename' t => w)))
    | (extract_lets +onlyGivenNames t; clear_value t; rename' t => w)
    | with_reducible rfl
    | with_reducible exact List.prefix_rfl
    | with_reducible exact le_rfl
    | with_reducible exact fun h => h
    | exact fun h => Memory.wf_writeList _ _ h
    | exact Nat.le_add_right _ _
    | with_reducible exact List.prefix_append _ _
    | with_reducible refine Closed.foldl _ _ _ (fun _ _ _ => ?_) ?_
    | split
    | with_reducible refine hP.build _ ?_ ?_ ?_ ?_

theorem keep_dropWrites (hP : Closed byRaise P) (x : ℕ) (s : State) (hs : P s) :
    P (dropWrites x s) := by
  unfold dropWrites
  repeat' first
    | with_reducible assumption
    | (extract_lets +onlyGivenNames t; refine (fun (_ : P t) => ?_) ?_; (on_goal 2 => (dsimp -zeta only [t]; clear t)); (on_goal 1 => (clear_value t; rename' t => w)))
    | (extract_lets +onlyGivenNames t; refine (fun (_ : P t.1) => ?_) ?_; (on_goal 2 => (dsimp -zeta only [t]; clear t)); (on_goal 1 => (clear_value t; rename' t => w)))
    | (extract_lets +onlyGivenNames t; clear_value t; rename' t => w)
    | with_reducible rfl
    | with_reducible exact List.prefix_rfl
    | with_reducible exact le_rfl
    | with_reducible exact fun h => h
    | exact fun h => Memory.wf_writeList _ _ h
    | exact Nat.le_add_right _ _
    | with_reducible exact List.prefix_append _ _
    | with_reducible refine Closed.foldl _ _ _ (fun _ _ _ => ?_) ?_
    | split
    | with_reducible refine hP.build _ ?_ ?_ ?_ ?_

theorem keep_addPass (hP : Closed byRaise P) (lv : ℕ) (mask : ℕ) (row : ℕ) (zone : ℕ) (s : State) (hs : P s) :
    P (addPass lv mask row zone s) := by
  unfold addPass
  repeat' first
    | with_reducible assumption
    | with_reducible refine hP.setMany _ _ _ (by simp only [List.all_cons, List.all_nil, Bool.and_true, Bool.and_self, in_ACD_CURN, in_ACD_NOWROW, in_ACD_NOWZONE, in_ACD_OLD, in_ACD_PASS_CUR_ROW, in_ACD_PASS_CUR_ZONE, in_ACD_PASS_DONE, in_ACD_PASS_LEVEL, in_ACD_PASS_MASK, in_ACD_PASS_START_ROW, in_ACD_PASS_START_ZONE, in_ACD_PASS_VALID, in_ACD_PEND, in_ACD_PSER, in_ACD_PSIDE, in_ACD_VISIT, in_ACD_ZDONE]) ?_
    | with_reducible refine Closed.foldl _ _ _ (fun _ _ _ => ?_) ?_
    | split

theorem keep_showPass (hP : Closed byRaise P) (s : State) (hs : P s) :
    P (showPass s) := by
  unfold showPass
  repeat' first
    | with_reducible assumption
    | with_reducible refine hP.setMany _ _ _ (by simp only [List.all_cons, List.all_nil, Bool.and_true, Bool.and_self, in_ACD_RBLD_CUR_ACTIVE, in_ACD_RBLD_CUR_DONE, in_ACD_RBLD_CUR_LEVEL, in_ACD_RBLD_CUR_PASS, in_ACD_RBLD_CUR_ROW, in_ACD_RBLD_CUR_ZONE, in_ACD_STS_REBUILDING]) ?_
    | with_reducible refine Closed.foldl _ _ _ (fun _ _ _ => ?_) ?_
    | split

theorem keep_addPasses (hP : Closed byRaise P) (row : ℕ) (zone : ℕ) (s : State) (hs : P s) :
    P (addPasses row zone s) := by
  unfold addPasses
  repeat' first
    | with_reducible assumption
    | with_reducible refine hP.set _ ACD_JREQ _ _ in_ACD_JREQ ?_
    | with_reducible refine keep_addPass hP _ _ _ _ _ ?_
    | with_reducible refine Closed.forAll _ _ _ (fun _ _ _ => ?_) ?_
    | with_reducible refine keep_showPass hP _ ?_
    | (extract_lets +onlyGivenNames t; refine (fun (_ : P t) => ?_) ?_; (on_goal 2 => (dsimp -zeta only [t]; clear t)); (on_goal 1 => (clear_value t; rename' t => w)))
    | (extract_lets +onlyGivenNames t; refine (fun (_ : P t.1) => ?_) ?_; (on_goal 2 => (dsimp -zeta only [t]; clear t)); (on_goal 1 => (clear_value t; rename' t => w)))
    | (extract_lets +onlyGivenNames t; clear_value t; rename' t => w)
    | with_reducible refine Closed.foldl _ _ _ (fun _ _ _ => ?_) ?_
    | split

theorem keep_stopPass (hP : Closed byRaise P) (p : ℕ) (s : State) (hs : P s) :
    P (stopPass p s) := by
  unfold stopPass
  repeat' first
    | with_reducible assumption
    | with_reducible refine hP.set _ ACD_OLD _ _ in_ACD_OLD ?_
    | (extract_lets +onlyGivenNames t; refine (fun (_ : P t) => ?_) ?_; (on_goal 2 => (dsimp -zeta only [t]; clear t)); (on_goal 1 => (clear_value t; rename' t => w)))
    | (extract_lets +onlyGivenNames t; refine (fun (_ : P t.1) => ?_) ?_; (on_goal 2 => (dsimp -zeta only [t]; clear t)); (on_goal 1 => (clear_value t; rename' t => w)))
    | (extract_lets +onlyGivenNames t; clear_value t; rename' t => w)
    | with_reducible rfl
    | with_reducible exact List.prefix_rfl
    | with_reducible exact le_rfl
    | with_reducible exact fun h => h
    | exact fun h => Memory.wf_writeList _ _ h
    | exact Nat.le_add_right _ _
    | with_reducible exact List.prefix_append _ _
    | with_reducible refine Closed.foldl _ _ _ (fun _ _ _ => ?_) ?_
    | split
    | with_reducible refine hP.build _ ?_ ?_ ?_ ?_

theorem keep_replacePasses (hP : Closed byRaise P) (s : State) (hs : P s) :
    P (replacePasses s) := by
  unfold replacePasses
  repeat' first
    | with_reducible assumption
    | with_reducible refine keep_addPasses hP _ _ _ ?_
    | with_reducible refine Closed.forAll _ _ _ (fun _ _ _ => ?_) ?_
    | with_reducible refine keep_stopPass hP _ _ ?_
    | (extract_lets +onlyGivenNames t; refine (fun (_ : P t) => ?_) ?_; (on_goal 2 => (dsimp -zeta only [t]; clear t)); (on_goal 1 => (clear_value t; rename' t => w)))
    | (extract_lets +onlyGivenNames t; refine (fun (_ : P t.1) => ?_) ?_; (on_goal 2 => (dsimp -zeta only [t]; clear t)); (on_goal 1 => (clear_value t; rename' t => w)))
    | (extract_lets +onlyGivenNames t; clear_value t; rename' t => w)
    | with_reducible refine Closed.foldl _ _ _ (fun _ _ _ => ?_) ?_
    | split

theorem keep_memberLoss (hP : Closed byRaise P) (x : ℕ) (s : State) (hs : P s) :
    P (memberLoss x s).1 := by
  unfold memberLoss
  repeat' first
    | with_reducible assumption
    | with_reducible refine hP.bump _ ACD_STS_LOST_CNT _ in_ACD_STS_LOST_CNT ?_
    | with_reducible refine hP.setBit _ ACD_LOST _ _ _ in_ACD_LOST ?_
    | with_reducible refine keep_dropWrites hP _ _ ?_
    | with_reducible refine keep_replacePasses hP _ ?_
    | (extract_lets +onlyGivenNames t; refine (fun (_ : P t) => ?_) ?_; (on_goal 2 => (dsimp -zeta only [t]; clear t)); (on_goal 1 => (clear_value t; rename' t => w)))
    | (extract_lets +onlyGivenNames t; refine (fun (_ : P t.1) => ?_) ?_; (on_goal 2 => (dsimp -zeta only [t]; clear t)); (on_goal 1 => (clear_value t; rename' t => w)))
    | (extract_lets +onlyGivenNames t; clear_value t; rename' t => w)
    | with_reducible refine Closed.foldl _ _ _ (fun _ _ _ => ?_) ?_
    | split

theorem keep_memberStep (hP : Closed byRaise P) (x : ℕ) (s : State) (hs : P s) :
    P (memberStep x s).1 := by
  unfold memberStep
  repeat' first
    | with_reducible assumption
    | with_reducible refine hP.set _ ACD_JREQ _ _ in_ACD_JREQ ?_
    | with_reducible refine hP.setBit _ ACD_DEGR _ _ _ in_ACD_DEGR ?_
    | with_reducible refine keep_memberLoss hP _ _ ?_
    | (extract_lets +onlyGivenNames t; refine (fun (_ : P t) => ?_) ?_; (on_goal 2 => (dsimp -zeta only [t]; clear t)); (on_goal 1 => (clear_value t; rename' t => w)))
    | (extract_lets +onlyGivenNames t; refine (fun (_ : P t.1) => ?_) ?_; (on_goal 2 => (dsimp -zeta only [t]; clear t)); (on_goal 1 => (clear_value t; rename' t => w)))
    | (extract_lets +onlyGivenNames t; clear_value t; rename' t => w)
    | with_reducible refine Closed.foldl _ _ _ (fun _ _ _ => ?_) ?_
    | split

theorem keep_memberStates (hP : Closed byRaise P) (s : State) (hs : P s) :
    P (memberStates s).1 := by
  unfold memberStates
  repeat' first
    | with_reducible assumption
    | with_reducible refine hP.set _ ACD_STS_DEGR_CNT _ _ in_ACD_STS_DEGR_CNT ?_
    | with_reducible refine keep_chain _ _ ?_ ?_
    | with_reducible refine List.forall_mem_cons.2 ⟨fun _ _ => ?_, ?_⟩
    | exact List.forall_mem_nil _
    | with_reducible refine List.forall_mem_map.2 (fun _ _ _ _ => ?_)
    | dsimp only
    | with_reducible refine keep_memberStep hP _ _ ?_
    | (extract_lets +onlyGivenNames t; refine (fun (_ : P t) => ?_) ?_; (on_goal 2 => (dsimp -zeta only [t]; clear t)); (on_goal 1 => (clear_value t; rename' t => w)))
    | (extract_lets +onlyGivenNames t; refine (fun (_ : P t.1) => ?_) ?_; (on_goal 2 => (dsimp -zeta only [t]; clear t)); (on_goal 1 => (clear_value t; rename' t => w)))
    | (extract_lets +onlyGivenNames t; clear_value t; rename' t => w)
    | with_reducible refine Closed.foldl _ _ _ (fun _ _ _ => ?_) ?_
    | split

theorem keep_setGate (hP : Closed byRaise P) (l : ℕ) (on : Bool) (s : State) (hs : P s) :
    P (setGate l on s) := by
  unfold setGate
  repeat' first
    | with_reducible assumption
    | with_reducible refine hP.setMany _ _ _ (by simp only [List.all_cons, List.all_nil, Bool.and_true, Bool.and_self, in_LAN_PAIR, in_LAN_STS_WRITING]) ?_
    | with_reducible refine Closed.foldl _ _ _ (fun _ _ _ => ?_) ?_
    | split

theorem keep_truncate (hP : Closed byRaise P) (l : ℕ) (s : State) (hs : P s) :
    P (truncate l s) := by
  unfold truncate
  repeat' first
    | with_reducible assumption
    | with_reducible refine hP.setMany _ _ _ (by simp only [List.all_cons, List.all_nil, Bool.and_true, Bool.and_self, in_LAN_SPLIT, in_LAN_TRUNC, in_LAN_TRUNCOFF]) ?_
    | with_reducible refine keep_setGate hP _ _ _ ?_
    | with_reducible refine Closed.foldl _ _ _ (fun _ _ _ => ?_) ?_
    | split

theorem keep_recheckWrite (hP : Closed byRaise P) (l : ℕ) (s : State) (hs : P s) :
    P (recheckWrite l s) := by
  unfold recheckWrite
  repeat' first
    | with_reducible assumption
    | with_reducible refine keep_truncate hP _ _ ?_
    | with_reducible refine Closed.foldl _ _ _ (fun _ _ _ => ?_) ?_
    | split

theorem keep_recheckActuator (hP : Closed byRaise P) (a : ℕ) (s : State) (hs : P s) :
    P (recheckActuator a s) := by
  unfold recheckActuator
  repeat' first
    | with_reducible assumption
    | with_reducible refine Closed.forBelow _ _ _ (fun _ _ _ => ?_) ?_
    | with_reducible refine keep_recheckWrite hP _ _ ?_
    | with_reducible refine Closed.foldl _ _ _ (fun _ _ _ => ?_) ?_
    | split

theorem keep_headsOut (hP : Closed byRaise P) (a : ℕ) (s : State) (hs : P s) :
    P (headsOut a s).1 := by
  unfold headsOut
  repeat' first
    | with_reducible assumption
    | with_reducible refine hP.set _ LAN_CTL_OOS _ _ in_LAN_CTL_OOS ?_
    | with_reducible refine Closed.forBelow _ _ _ (fun _ _ _ => ?_) ?_
    | with_reducible refine keep_memberStates hP _ ?_
    | with_reducible refine keep_recheckActuator hP _ _ ?_
    | with_reducible refine Closed.foldl _ _ _ (fun _ _ _ => ?_) ?_
    | split

theorem keep_retractOut (hP : Closed byRaise P) (a : ℕ) (a1 : State) (ha1 : P a1) :
    P (retractOut a a1).1 := by
  unfold retractOut
  repeat' first
    | with_reducible assumption
    | with_reducible refine keep_chain _ _ ?_ ?_
    | with_reducible refine List.forall_mem_cons.2 ⟨fun _ _ => ?_, ?_⟩
    | exact List.forall_mem_nil _
    | with_reducible refine List.forall_mem_map.2 (fun _ _ _ _ => ?_)
    | dsimp only
    | with_reducible refine keep_headsOut hP _ _ ?_
    | with_reducible refine keep_retract hP _ _ ?_
    | with_reducible refine Closed.foldl _ _ _ (fun _ _ _ => ?_) ?_
    | split

theorem keep_sendMask (hP : Closed byRaise P) (a : ℕ) (s : State) (hs : P s) :
    P (sendMask a s) := by
  unfold sendMask
  repeat' first
    | with_reducible assumption
    | with_reducible refine hP.set _ HLK_WENTRY _ _ in_HLK_WENTRY ?_
    | with_reducible refine keep_State_setLinkQ hP _ _ _ ?_
    | with_reducible refine keep_linkSend hP _ _ _ ?_
    | with_reducible refine Closed.foldl _ _ _ (fun _ _ _ => ?_) ?_
    | split

theorem keep_setWen (hP : Closed byRaise P) (a : ℕ) (m : ℕ) (s : State) (hs : P s) :
    P (setWen a m s) := by
  unfold setWen
  repeat' first
    | with_reducible assumption
    | with_reducible refine hP.set _ HLK_WEN _ _ in_HLK_WEN ?_
    | with_reducible refine keep_recheckActuator hP _ _ ?_
    | with_reducible refine keep_sendMask hP _ _ ?_
    | (extract_lets +onlyGivenNames t; refine (fun (_ : P t) => ?_) ?_; (on_goal 2 => (dsimp -zeta only [t]; clear t)); (on_goal 1 => (clear_value t; rename' t => w)))
    | (extract_lets +onlyGivenNames t; refine (fun (_ : P t.1) => ?_) ?_; (on_goal 2 => (dsimp -zeta only [t]; clear t)); (on_goal 1 => (clear_value t; rename' t => w)))
    | (extract_lets +onlyGivenNames t; clear_value t; rename' t => w)
    | with_reducible refine Closed.foldl _ _ _ (fun _ _ _ => ?_) ?_
    | split

theorem keep_contain (hP : Closed byRaise P) (n : ℕ) (inst : ℕ) (s : State) (hs : P s) :
    P (contain n inst s).1 := by
  unfold contain
  repeat' first
    | with_reducible assumption
    | with_reducible refine hP.set _ GLB_HELD _ _ in_GLB_HELD ?_
    | with_reducible refine hP.set _ LAN_CTL_OOS _ _ in_LAN_CTL_OOS ?_
    | with_reducible refine hP.set _ MGR_SYNCLOW _ _ in_MGR_SYNCLOW ?_
    | with_reducible refine hP.setMany _ _ _ (by simp only [List.all_cons, List.all_nil, Bool.and_true, Bool.and_self, in_ACD_CTL_RUN, in_ACD_STS_RUNNING, in_FMT_CTL_RUN, in_FMT_STS_RUNNING, in_GLB_HELD, in_LAN_CTL_OOS, in_MGR_SYNCLOW]) ?_
    | with_reducible refine keep_containSpindle hP _ _ ?_
    | with_reducible refine keep_haltDma hP _ _ ?_
    | with_reducible refine keep_killContext hP _ _ ?_
    | with_reducible refine keep_memberStates hP _ ?_
    | with_reducible refine keep_recheckWrite hP _ _ ?_
    | with_reducible refine keep_retractOut hP _ _ ?_
    | with_reducible refine keep_setWen hP _ _ _ ?_
    | (extract_lets +onlyGivenNames t; refine (fun (_ : P t) => ?_) ?_; (on_goal 2 => (dsimp -zeta only [t]; clear t)); (on_goal 1 => (clear_value t; rename' t => w)))
    | (extract_lets +onlyGivenNames t; refine (fun (_ : P t.1) => ?_) ?_; (on_goal 2 => (dsimp -zeta only [t]; clear t)); (on_goal 1 => (clear_value t; rename' t => w)))
    | (extract_lets +onlyGivenNames t; clear_value t; rename' t => w)
    | with_reducible refine Closed.foldl _ _ _ (fun _ _ _ => ?_) ?_
    | split

theorem keep_errorMessage (hP : Closed byRaise P) (kind : ℕ) (s : State) (hs : P s) :
    P (errorMessage kind s) := by
  unfold errorMessage
  repeat' first
    | with_reducible assumption
    | with_reducible refine hP.bump _ PCI_FRZ_DROP _ in_PCI_FRZ_DROP ?_
    | with_reducible refine hP.emit _ _ ?_
    | with_reducible refine hP.setBit _ CFG_DEVSTS _ _ _ in_CFG_DEVSTS ?_
    | with_reducible refine hP.setBit _ CFG_STATUS _ _ _ in_CFG_STATUS ?_
    | (extract_lets +onlyGivenNames t; refine (fun (_ : P t) => ?_) ?_; (on_goal 2 => (dsimp -zeta only [t]; clear t)); (on_goal 1 => (clear_value t; rename' t => w)))
    | (extract_lets +onlyGivenNames t; refine (fun (_ : P t.1) => ?_) ?_; (on_goal 2 => (dsimp -zeta only [t]; clear t)); (on_goal 1 => (clear_value t; rename' t => w)))
    | (extract_lets +onlyGivenNames t; clear_value t; rename' t => w)
    | with_reducible refine Closed.foldl _ _ _ (fun _ _ _ => ?_) ?_
    | split

theorem keep_aerCorrectable (hP : Closed byRaise P) (b : ℕ) (s : State) (hs : P s) :
    P (aerCorrectable b s) := by
  unfold aerCorrectable
  repeat' first
    | with_reducible assumption
    | with_reducible refine hP.setBit _ CFG_CES _ _ _ in_CFG_CES ?_
    | with_reducible refine hP.setBit _ CFG_DEVSTS _ _ _ in_CFG_DEVSTS ?_
    | with_reducible refine keep_errorMessage hP _ _ ?_
    | (extract_lets +onlyGivenNames t; refine (fun (_ : P t) => ?_) ?_; (on_goal 2 => (dsimp -zeta only [t]; clear t)); (on_goal 1 => (clear_value t; rename' t => w)))
    | (extract_lets +onlyGivenNames t; refine (fun (_ : P t.1) => ?_) ?_; (on_goal 2 => (dsimp -zeta only [t]; clear t)); (on_goal 1 => (clear_value t; rename' t => w)))
    | (extract_lets +onlyGivenNames t; clear_value t; rename' t => w)
    | with_reducible refine Closed.foldl _ _ _ (fun _ _ _ => ?_) ?_
    | split

theorem keep_logHeader (hP : Closed byRaise P) (b : ℕ) (s : State) (hs : P s) :
    P (logHeader b s) := by
  unfold logHeader
  repeat' first
    | with_reducible assumption
    | with_reducible refine hP.set _ CFG_HLOG _ _ in_CFG_HLOG ?_
    | with_reducible refine hP.setMany _ _ _ (by simp only [List.all_cons, List.all_nil, Bool.and_true, Bool.and_self, in_CFG_FEP, in_CFG_HLOG]) ?_
    | with_reducible rfl
    | with_reducible exact List.prefix_rfl
    | with_reducible exact le_rfl
    | with_reducible exact fun h => h
    | exact fun h => Memory.wf_writeList _ _ h
    | exact Nat.le_add_right _ _
    | with_reducible exact List.prefix_append _ _
    | with_reducible refine Closed.foldl _ _ _ (fun _ _ _ => ?_) ?_
    | split
    | with_reducible refine hP.build _ ?_ ?_ ?_ ?_

theorem keep_aerUncorrectable (hP : Closed byRaise P) (b : ℕ) (advisory : Bool) (s : State) (hs : P s) :
    P (aerUncorrectable b advisory s) := by
  unfold aerUncorrectable
  repeat' first
    | with_reducible assumption
    | with_reducible refine hP.setBit _ CFG_UES _ _ _ in_CFG_UES ?_
    | with_reducible refine keep_aerCorrectable hP _ _ ?_
    | with_reducible refine keep_errorMessage hP _ _ ?_
    | with_reducible refine keep_logHeader hP _ _ ?_
    | (extract_lets +onlyGivenNames t; refine (fun (_ : P t) => ?_) ?_; (on_goal 2 => (dsimp -zeta only [t]; clear t)); (on_goal 1 => (clear_value t; rename' t => w)))
    | (extract_lets +onlyGivenNames t; refine (fun (_ : P t.1) => ?_) ?_; (on_goal 2 => (dsimp -zeta only [t]; clear t)); (on_goal 1 => (clear_value t; rename' t => w)))
    | (extract_lets +onlyGivenNames t; clear_value t; rename' t => w)
    | with_reducible refine Closed.foldl _ _ _ (fun _ _ _ => ?_) ?_
    | split

theorem keep_pmeEvent (hP : Closed byRaise P) (enabled : Bool) (s : State) (hs : P s) :
    P (pmeEvent enabled s) := by
  unfold pmeEvent
  repeat' first
    | with_reducible assumption
    | with_reducible refine hP.bump _ PCI_FRZ_DROP _ in_PCI_FRZ_DROP ?_
    | with_reducible refine hP.emit _ _ ?_
    | with_reducible refine hP.set _ CFG_PMESTS _ _ in_CFG_PMESTS ?_
    | with_reducible refine hP.set _ PAD_WAKE _ _ in_PAD_WAKE ?_
    | with_reducible refine hP.set _ PCI_PME_PEND _ _ in_PCI_PME_PEND ?_
    | (extract_lets +onlyGivenNames t; refine (fun (_ : P t) => ?_) ?_; (on_goal 2 => (dsimp -zeta only [t]; clear t)); (on_goal 1 => (clear_value t; rename' t => w)))
    | (extract_lets +onlyGivenNames t; refine (fun (_ : P t.1) => ?_) ?_; (on_goal 2 => (dsimp -zeta only [t]; clear t)); (on_goal 1 => (clear_value t; rename' t => w)))
    | (extract_lets +onlyGivenNames t; clear_value t; rename' t => w)
    | with_reducible refine Closed.foldl _ _ _ (fun _ _ _ => ?_) ?_
    | split

theorem keep_deliverEvents (hP : Closed byRaise P) (a : List NvEvent) (a1 : List NvEvent) (a2 : State) (ha2 : P a2) :
    P (deliverEvents a a1 a2) := by
  induction a generalizing a1 a2 with
  | nil =>
    unfold deliverEvents
    repeat' first
      | with_reducible assumption
      | with_reducible refine hP.emit _ _ ?_
      | with_reducible refine keep_complete hP _ _ _ _ _ ?_
      | with_reducible rfl
      | with_reducible exact List.prefix_rfl
      | with_reducible exact le_rfl
      | with_reducible exact fun h => h
      | exact fun h => Memory.wf_writeList _ _ h
      | exact Nat.le_add_right _ _
      | with_reducible exact List.prefix_append _ _
      | with_reducible refine Closed.foldl _ _ _ (fun _ _ _ => ?_) ?_
      | split
      | with_reducible refine hP.build _ ?_ ?_ ?_ ?_
  | cons e t ih =>
    unfold deliverEvents
    repeat' first
      | with_reducible assumption
      | with_reducible refine ih _ _ ?_
      | with_reducible refine hP.emit _ _ ?_
      | with_reducible refine keep_complete hP _ _ _ _ _ ?_
      | with_reducible rfl
      | with_reducible exact List.prefix_rfl
      | with_reducible exact le_rfl
      | with_reducible exact fun h => h
      | exact fun h => Memory.wf_writeList _ _ h
      | exact Nat.le_add_right _ _
      | with_reducible exact List.prefix_append _ _
      | with_reducible refine Closed.foldl _ _ _ (fun _ _ _ => ?_) ?_
      | split
      | with_reducible refine hP.build _ ?_ ?_ ?_ ?_

theorem keep_raiseEvent (hP : Closed byRaise P) (e : NvEvent) (s : State) (hs : P s) :
    P (raiseEvent e s) := by
  unfold raiseEvent
  repeat' first
    | with_reducible assumption
    | with_reducible refine keep_deliverEvents hP _ _ _ ?_
    | (extract_lets +onlyGivenNames t; refine (fun (_ : P t) => ?_) ?_; (on_goal 2 => (dsimp -zeta only [t]; clear t)); (on_goal 1 => (clear_value t; rename' t => w)))
    | (extract_lets +onlyGivenNames t; refine (fun (_ : P t.1) => ?_) ?_; (on_goal 2 => (dsimp -zeta only [t]; clear t)); (on_goal 1 => (clear_value t; rename' t => w)))
    | (extract_lets +onlyGivenNames t; clear_value t; rename' t => w)
    | with_reducible refine Closed.foldl _ _ _ (fun _ _ _ => ?_) ?_
    | split

theorem keep_notify (hP : Closed byRaise P) (n : ℕ) (sev : ℕ) (s : State) (hs : P s) :
    P (notify n sev s) := by
  unfold notify
  repeat' first
    | with_reducible assumption
    | with_reducible refine keep_aerCorrectable hP _ _ ?_
    | with_reducible refine keep_aerUncorrectable hP _ _ _ ?_
    | with_reducible refine keep_pmeEvent hP _ _ ?_
    | with_reducible refine keep_raiseEvent hP _ _ ?_
    | (extract_lets +onlyGivenNames t; refine (fun (_ : P t) => ?_) ?_; (on_goal 2 => (dsimp -zeta only [t]; clear t)); (on_goal 1 => (clear_value t; rename' t => w)))
    | (extract_lets +onlyGivenNames t; refine (fun (_ : P t.1) => ?_) ?_; (on_goal 2 => (dsimp -zeta only [t]; clear t)); (on_goal 1 => (clear_value t; rename' t => w)))
    | (extract_lets +onlyGivenNames t; clear_value t; rename' t => w)
    | with_reducible refine Closed.foldl _ _ _ (fun _ _ _ => ?_) ?_
    | split

theorem keep_startDump (hP : Closed byRaise P) (cause : ℕ) (limit : ℕ) (s : State) (hs : P s) :
    P (startDump cause limit s).1 := by
  unfold startDump
  repeat' first
    | with_reducible assumption
    | with_reducible refine keep_State_marker hP _ _ ?_
    | with_reducible refine hP.set _ BNR_STS_NOSLOT _ _ in_BNR_STS_NOSLOT ?_
    | with_reducible refine hP.setBit _ BNR_NOR_FREE _ _ _ in_BNR_NOR_FREE ?_
    | with_reducible refine hP.setMany _ _ _ (by simp only [List.all_cons, List.all_nil, Bool.and_true, Bool.and_self, in_BNR_DUMPSEQ, in_BNR_NOR_FREE, in_BNR_NOR_LAST_COMPLETE, in_BNR_NOR_LAST_ENTRIES, in_BNR_NOR_LAST_SLOT, in_BNR_STS_DUMPING, in_BNR_STS_NOSLOT]) ?_
    | (extract_lets +onlyGivenNames t; refine (fun (_ : P t) => ?_) ?_; (on_goal 2 => (dsimp -zeta only [t]; clear t)); (on_goal 1 => (clear_value t; rename' t => w)))
    | (extract_lets +onlyGivenNames t; refine (fun (_ : P t.1) => ?_) ?_; (on_goal 2 => (dsimp -zeta only [t]; clear t)); (on_goal 1 => (clear_value t; rename' t => w)))
    | (extract_lets +onlyGivenNames t; clear_value t; rename' t => w)
    | with_reducible rfl
    | with_reducible exact List.prefix_rfl
    | with_reducible exact le_rfl
    | with_reducible exact fun h => h
    | exact fun h => Memory.wf_writeList _ _ h
    | exact Nat.le_add_right _ _
    | with_reducible exact List.prefix_append _ _
    | with_reducible refine Closed.foldl _ _ _ (fun _ _ _ => ?_) ?_
    | split
    | with_reducible refine hP.build _ ?_ ?_ ?_ ?_

theorem keep_dumpTrigger (hP : Closed byRaise P) (cause : ℕ) (s : State) (hs : P s) :
    P (dumpTrigger cause s).1 := by
  unfold dumpTrigger
  repeat' first
    | with_reducible assumption
    | with_reducible refine keep_startDump hP _ _ _ ?_
    | with_reducible rfl
    | with_reducible exact List.prefix_rfl
    | with_reducible exact le_rfl
    | with_reducible exact fun h => h
    | exact fun h => Memory.wf_writeList _ _ h
    | exact Nat.le_add_right _ _
    | with_reducible exact List.prefix_append _ _
    | with_reducible refine Closed.foldl _ _ _ (fun _ _ _ => ?_) ?_
    | split
    | with_reducible refine hP.build _ ?_ ?_ ?_ ?_

theorem keep_freezeEgress (hP : Closed byRaise P) (byFault : Bool) (s : State) (hs : P s) :
    P (freezeEgress byFault s).1 := by
  unfold freezeEgress
  repeat' first
    | with_reducible assumption
    | with_reducible refine hP.setMany _ _ _ (by simp only [List.all_cons, List.all_nil, Bool.and_true, Bool.and_self, in_NVQ_CFS, in_PCI_FRZ_BY_FAULT, in_PCI_FRZ_FROZEN, in_PCI_STS_FROZEN]) ?_
    | (extract_lets +onlyGivenNames t; refine (fun (_ : P t) => ?_) ?_; (on_goal 2 => (dsimp -zeta only [t]; clear t)); (on_goal 1 => (clear_value t; rename' t => w)))
    | (extract_lets +onlyGivenNames t; refine (fun (_ : P t.1) => ?_) ?_; (on_goal 2 => (dsimp -zeta only [t]; clear t)); (on_goal 1 => (clear_value t; rename' t => w)))
    | (extract_lets +onlyGivenNames t; clear_value t; rename' t => w)
    | with_reducible refine Closed.foldl _ _ _ (fun _ _ _ => ?_) ?_
    | split

theorem keep_inhibitLink (hP : Closed byRaise P) (a : ℕ) (s : State) (hs : P s) :
    P (inhibitLink a s) := by
  unfold inhibitLink
  repeat' first
    | with_reducible assumption
    | with_reducible refine keep_linkSend hP _ _ _ ?_
    | with_reducible refine keep_setWen hP _ _ _ ?_
    | (extract_lets +onlyGivenNames t; refine (fun (_ : P t) => ?_) ?_; (on_goal 2 => (dsimp -zeta only [t]; clear t)); (on_goal 1 => (clear_value t; rename' t => w)))
    | (extract_lets +onlyGivenNames t; refine (fun (_ : P t.1) => ?_) ?_; (on_goal 2 => (dsimp -zeta only [t]; clear t)); (on_goal 1 => (clear_value t; rename' t => w)))
    | (extract_lets +onlyGivenNames t; clear_value t; rename' t => w)
    | with_reducible refine Closed.foldl _ _ _ (fun _ _ _ => ?_) ?_
    | split

theorem keep_recheckWrites (hP : Closed byRaise P) (s : State) (hs : P s) :
    P (recheckWrites s) := by
  unfold recheckWrites
  repeat' first
    | with_reducible assumption
    | with_reducible refine Closed.forBelow _ _ _ (fun _ _ _ => ?_) ?_
    | with_reducible refine keep_recheckWrite hP _ _ ?_
    | with_reducible refine Closed.foldl _ _ _ (fun _ _ _ => ?_) ?_
    | split

theorem keep_regenerate (hP : Closed byRaise P) (s : State) (hs : P s) :
    P (regenerate s).1 := by
  unfold regenerate
  repeat' first
    | with_reducible assumption
    | with_reducible refine hP.setMany _ _ _ (by simp only [List.all_cons, List.all_nil, Bool.and_true, Bool.and_self, in_SPN_COMDIF, in_SPN_IDDEM, in_SPN_IQDEM, in_SPN_ONPILOT]) ?_
    | with_reducible refine keep_enterDrydown hP _ _ ?_
    | (extract_lets +onlyGivenNames t; refine (fun (_ : P t) => ?_) ?_; (on_goal 2 => (dsimp -zeta only [t]; clear t)); (on_goal 1 => (clear_value t; rename' t => w)))
    | (extract_lets +onlyGivenNames t; refine (fun (_ : P t.1) => ?_) ?_; (on_goal 2 => (dsimp -zeta only [t]; clear t)); (on_goal 1 => (clear_value t; rename' t => w)))
    | (extract_lets +onlyGivenNames t; clear_value t; rename' t => w)
    | with_reducible refine Closed.foldl _ _ _ (fun _ _ _ => ?_) ?_
    | split

theorem keep_spindleSafe (hP : Closed byRaise P) (n : ℕ) (s : State) (hs : P s) :
    P (spindleSafe n s).1 := by
  unfold spindleSafe
  repeat' first
    | with_reducible assumption
    | with_reducible refine hP.set _ SPN_HELD _ _ in_SPN_HELD ?_
    | with_reducible refine hP.setMany _ _ _ (by simp only [List.all_cons, List.all_nil, Bool.and_true, Bool.and_self, in_SPN_HELD, in_SPN_LGREF]) ?_
    | with_reducible refine keep_regenerate hP _ ?_
    | with_reducible refine keep_setBridge hP _ _ ?_
    | with_reducible refine keep_urgentDrydown hP _ _ ?_
    | (extract_lets +onlyGivenNames t; refine (fun (_ : P t) => ?_) ?_; (on_goal 2 => (dsimp -zeta only [t]; clear t)); (on_goal 1 => (clear_value t; rename' t => w)))
    | (extract_lets +onlyGivenNames t; refine (fun (_ : P t.1) => ?_) ?_; (on_goal 2 => (dsimp -zeta only [t]; clear t)); (on_goal 1 => (clear_value t; rename' t => w)))
    | (extract_lets +onlyGivenNames t; clear_value t; rename' t => w)
    | with_reducible refine Closed.foldl _ _ _ (fun _ _ _ => ?_) ?_
    | split

theorem keep_safeReactions (hP : Closed byRaise P) (n : ℕ) (s : State) (hs : P s) :
    P (safeReactions n s).1 := by
  unfold safeReactions
  repeat' first
    | with_reducible assumption
    | with_reducible refine keep_chain _ _ ?_ ?_
    | with_reducible refine List.forall_mem_cons.2 ⟨fun _ _ => ?_, ?_⟩
    | exact List.forall_mem_nil _
    | with_reducible refine List.forall_mem_map.2 (fun _ _ _ _ => ?_)
    | dsimp only
    | with_reducible refine keep_dumpTrigger hP _ _ ?_
    | with_reducible refine Closed.forBelow _ _ _ (fun _ _ _ => ?_) ?_
    | with_reducible refine keep_freezeEgress hP _ _ ?_
    | with_reducible refine keep_haltDma hP _ _ ?_
    | with_reducible refine keep_inhibitLink hP _ _ ?_
    | with_reducible refine keep_recheckWrites hP _ ?_
    | with_reducible refine keep_retractAll hP _ ?_
    | with_reducible refine keep_spindleSafe hP _ _ ?_
    | with_reducible refine Closed.foldl _ _ _ (fun _ _ _ => ?_) ?_
    | split

theorem keep_safeEnter (hP : Closed byRaise P) (n : ℕ) (s : State) (hs : P s) :
    P (safeEnter n s).1 := by
  unfold safeEnter
  repeat' first
    | with_reducible assumption
    | with_reducible refine hP.bump _ FLT_SAFE_ENTRIES _ in_FLT_SAFE_ENTRIES ?_
    | with_reducible refine keep_State_enterSource hP _ _ _ _ ?_
    | with_reducible refine hP.set _ FLT_SAFE_ACTIVE _ _ in_FLT_SAFE_ACTIVE ?_
    | with_reducible refine keep_safeReactions hP _ _ ?_
    | with_reducible refine keep_setBridge hP _ _ ?_
    | with_reducible refine Closed.foldl _ _ _ (fun _ _ _ => ?_) ?_
    | split

theorem keep_countMerge (hP : Closed byRaise P) (c : ℕ) (s : State) (hs : P s) :
    P (countMerge c s) := by
  unfold countMerge
  repeat' first
    | with_reducible assumption
    | with_reducible refine hP.addSat _ CTX_MCNT _ _ in_CTX_MCNT ?_
    | with_reducible refine hP.bump _ LPE_CTXSTS_MERGE _ in_LPE_CTXSTS_MERGE ?_
    | with_reducible refine hP.set _ CTX_MCNT _ _ in_CTX_MCNT ?_
    | with_reducible refine hP.set _ CTX_MREV _ _ in_CTX_MREV ?_
    | (extract_lets +onlyGivenNames t; refine (fun (_ : P t) => ?_) ?_; (on_goal 2 => (dsimp -zeta only [t]; clear t)); (on_goal 1 => (clear_value t; rename' t => w)))
    | (extract_lets +onlyGivenNames t; refine (fun (_ : P t.1) => ?_) ?_; (on_goal 2 => (dsimp -zeta only [t]; clear t)); (on_goal 1 => (clear_value t; rename' t => w)))
    | (extract_lets +onlyGivenNames t; clear_value t; rename' t => w)
    | with_reducible refine Closed.foldl _ _ _ (fun _ _ _ => ?_) ?_
    | split

theorem keep_putMail (hP : Closed byRaise P) (c : ℕ) (page : ℕ) (a : ℕ) (a3 : List ℕ) (a4 : State) (ha4 : P a4) :
    P (putMail c page a a3 a4) := by
  induction a3 generalizing a a4 with
  | nil =>
    unfold putMail
    repeat' first
      | with_reducible assumption
      | with_reducible rfl
      | with_reducible exact List.prefix_rfl
      | with_reducible exact le_rfl
      | with_reducible exact fun h => h
      | exact fun h => Memory.wf_writeList _ _ h
      | exact Nat.le_add_right _ _
      | with_reducible exact List.prefix_append _ _
      | with_reducible refine Closed.foldl _ _ _ (fun _ _ _ => ?_) ?_
      | split
      | with_reducible refine hP.build _ ?_ ?_ ?_ ?_
  | cons e t ih =>
    unfold putMail
    repeat' first
      | with_reducible assumption
      | with_reducible refine ih _ _ ?_
      | with_reducible rfl
      | with_reducible exact List.prefix_rfl
      | with_reducible exact le_rfl
      | with_reducible exact fun h => h
      | exact fun h => Memory.wf_writeList _ _ h
      | exact Nat.le_add_right _ _
      | with_reducible exact List.prefix_append _ _
      | with_reducible refine Closed.foldl _ _ _ (fun _ _ _ => ?_) ?_
      | split
      | with_reducible refine hP.build _ ?_ ?_ ?_ ?_

theorem keep_trigger (hP : Closed byRaise P) (c : ℕ) (st : ℕ) (src : ℕ) (words : List ℕ) (s : State) (hs : P s) :
    P (trigger c st src words s) := by
  unfold trigger
  repeat' first
    | with_reducible assumption
    | with_reducible refine hP.set _ LPE_CTXSTS_PENDING _ _ in_LPE_CTXSTS_PENDING ?_
    | with_reducible refine hP.setMany _ _ _ (by simp only [List.all_cons, List.all_nil, Bool.and_true, Bool.and_self, in_CTX_EPOCH, in_CTX_PEPOCH, in_CTX_PSTAMP, in_CTX_STAMP, in_LPE_CTXSTS_PENDING, in_LPE_CTXSTS_STATE]) ?_
    | with_reducible refine keep_countMerge hP _ _ ?_
    | with_reducible refine keep_putMail hP _ _ _ _ _ ?_
    | (extract_lets +onlyGivenNames t; refine (fun (_ : P t) => ?_) ?_; (on_goal 2 => (dsimp -zeta only [t]; clear t)); (on_goal 1 => (clear_value t; rename' t => w)))
    | (extract_lets +onlyGivenNames t; refine (fun (_ : P t.1) => ?_) ?_; (on_goal 2 => (dsimp -zeta only [t]; clear t)); (on_goal 1 => (clear_value t; rename' t => w)))
    | (extract_lets +onlyGivenNames t; clear_value t; rename' t => w)
    | with_reducible refine Closed.foldl _ _ _ (fun _ _ _ => ?_) ?_
    | split

theorem keep_triggerSrc (hP : Closed byRaise P) (src : ℕ) (st : ℕ) (words : List ℕ) (s : State) (hs : P s) :
    P (triggerSrc src st words s) := by
  unfold triggerSrc
  repeat' first
    | with_reducible assumption
    | with_reducible refine Closed.forBelow _ _ _ (fun _ _ _ => ?_) ?_
    | with_reducible refine keep_trigger hP _ _ _ _ _ ?_
    | with_reducible refine Closed.foldl _ _ _ (fun _ _ _ => ?_) ?_
    | split

theorem keep_react (hP : Closed byRaise P) (entering : Bool) (n : ℕ) (inst : ℕ) (s : State) (hs : P s) :
    P (react entering n inst s).1 := by
  unfold react
  repeat' first
    | with_reducible assumption
    | with_reducible refine hP.emit _ _ ?_
    | with_reducible refine keep_contain hP _ _ _ ?_
    | with_reducible refine keep_notify hP _ _ _ ?_
    | with_reducible refine keep_safeEnter hP _ _ ?_
    | with_reducible refine keep_triggerSrc hP _ _ _ _ ?_
    | (extract_lets +onlyGivenNames t; refine (fun (_ : P t) => ?_) ?_; (on_goal 2 => (dsimp -zeta only [t]; clear t)); (on_goal 1 => (clear_value t; rename' t => w)))
    | (extract_lets +onlyGivenNames t; refine (fun (_ : P t.1) => ?_) ?_; (on_goal 2 => (dsimp -zeta only [t]; clear t)); (on_goal 1 => (clear_value t; rename' t => w)))
    | (extract_lets +onlyGivenNames t; clear_value t; rename' t => w)
    | with_reducible refine Closed.foldl _ _ _ (fun _ _ _ => ?_) ?_
    | split

theorem keep_silPut (hP : Closed byRaise P) (u : ℕ) (value : ℕ) (aux : ℕ) (kind : ℕ) (s : State) (hs : P s) :
    P (silPut u value aux kind s) := by
  unfold silPut
  repeat' first
    | with_reducible assumption
    | with_reducible refine hP.bump _ SIL_HEAD _ in_SIL_HEAD ?_
    | with_reducible refine hP.set _ LPE_SIL_FILL _ _ in_LPE_SIL_FILL ?_
    | (extract_lets +onlyGivenNames t; refine (fun (_ : P t) => ?_) ?_; (on_goal 2 => (dsimp -zeta only [t]; clear t)); (on_goal 1 => (clear_value t; rename' t => w)))
    | (extract_lets +onlyGivenNames t; refine (fun (_ : P t.1) => ?_) ?_; (on_goal 2 => (dsimp -zeta only [t]; clear t)); (on_goal 1 => (clear_value t; rename' t => w)))
    | (extract_lets +onlyGivenNames t; clear_value t; rename' t => w)
    | with_reducible rfl
    | with_reducible exact List.prefix_rfl
    | with_reducible exact le_rfl
    | with_reducible exact fun h => h
    | exact fun h => Memory.wf_writeList _ _ h
    | exact Nat.le_add_right _ _
    | with_reducible exact List.prefix_append _ _
    | with_reducible refine Closed.foldl _ _ _ (fun _ _ _ => ?_) ?_
    | split
    | with_reducible refine hP.build _ ?_ ?_ ?_ ?_

theorem keep_silTrigger (hP : Closed byRaise P) (a : ℕ) (a1 : ℕ) (a2 : State) (ha2 : P a2) :
    P (silTrigger a a1 a2) := by
  induction a generalizing a1 a2 with
  | zero =>
    unfold silTrigger
    repeat' first
      | with_reducible assumption
      | with_reducible refine hP.set _ LPE_SIL_STS_MARK _ _ in_LPE_SIL_STS_MARK ?_
      | with_reducible refine hP.set _ LPE_SIL_STS_STATE _ _ in_LPE_SIL_STS_STATE ?_
      | with_reducible refine hP.set _ SIL_LEFT _ _ in_SIL_LEFT ?_
      | with_reducible refine Closed.forBelow _ _ _ (fun _ _ _ => ?_) ?_
      | with_reducible refine keep_silPut hP _ _ _ _ _ ?_
      | (extract_lets +onlyGivenNames t; refine (fun (_ : P t) => ?_) ?_; (on_goal 2 => (dsimp -zeta only [t]; clear t)); (on_goal 1 => (clear_value t; rename' t => w)))
      | (extract_lets +onlyGivenNames t; refine (fun (_ : P t.1) => ?_) ?_; (on_goal 2 => (dsimp -zeta only [t]; clear t)); (on_goal 1 => (clear_value t; rename' t => w)))
      | (extract_lets +onlyGivenNames t; clear_value t; rename' t => w)
      | with_reducible refine Closed.foldl _ _ _ (fun _ _ _ => ?_) ?_
      | split
  | succ k ih =>
    unfold silTrigger
    repeat' first
      | with_reducible assumption
      | with_reducible refine ih _ _ ?_
      | with_reducible refine hP.set _ LPE_SIL_STS_MARK _ _ in_LPE_SIL_STS_MARK ?_
      | with_reducible refine hP.set _ LPE_SIL_STS_STATE _ _ in_LPE_SIL_STS_STATE ?_
      | with_reducible refine hP.set _ SIL_LEFT _ _ in_SIL_LEFT ?_
      | with_reducible refine Closed.forBelow _ _ _ (fun _ _ _ => ?_) ?_
      | with_reducible refine keep_silPut hP _ _ _ _ _ ?_
      | (extract_lets +onlyGivenNames t; refine (fun (_ : P t) => ?_) ?_; (on_goal 2 => (dsimp -zeta only [t]; clear t)); (on_goal 1 => (clear_value t; rename' t => w)))
      | (extract_lets +onlyGivenNames t; refine (fun (_ : P t.1) => ?_) ?_; (on_goal 2 => (dsimp -zeta only [t]; clear t)); (on_goal 1 => (clear_value t; rename' t => w)))
      | (extract_lets +onlyGivenNames t; clear_value t; rename' t => w)
      | with_reducible refine Closed.foldl _ _ _ (fun _ _ _ => ?_) ?_
      | split

theorem keep_silTriggerAll (hP : Closed byRaise P) (trig : ℕ) (sel : ℕ) (s : State) (hs : P s) :
    P (silTriggerAll trig sel s) := by
  unfold silTriggerAll
  repeat' first
    | with_reducible assumption
    | with_reducible refine Closed.forBelow _ _ _ (fun _ _ _ => ?_) ?_
    | with_reducible refine keep_silTrigger hP _ _ _ ?_
    | with_reducible refine Closed.foldl _ _ _ (fun _ _ _ => ?_) ?_
    | split

theorem keep_updateFaultN (hP : Closed byRaise P) (s : State) (hs : P s) :
    P (updateFaultN s) := by
  unfold updateFaultN
  repeat' first
    | with_reducible assumption
    | with_reducible refine hP.set _ PAD_FAULT _ _ in_PAD_FAULT ?_
    | (extract_lets +onlyGivenNames t; refine (fun (_ : P t) => ?_) ?_; (on_goal 2 => (dsimp -zeta only [t]; clear t)); (on_goal 1 => (clear_value t; rename' t => w)))
    | (extract_lets +onlyGivenNames t; refine (fun (_ : P t.1) => ?_) ?_; (on_goal 2 => (dsimp -zeta only [t]; clear t)); (on_goal 1 => (clear_value t; rename' t => w)))
    | (extract_lets +onlyGivenNames t; clear_value t; rename' t => w)
    | with_reducible refine Closed.foldl _ _ _ (fun _ _ _ => ?_) ?_
    | split

theorem keep_assertSource (hP : Closed byRaise P) (n : ℕ) (inst : ℕ) (s : State) (hs : P s) :
    P (assertSource n inst s).1 := by
  unfold assertSource
  repeat' first
    | with_reducible assumption
    | with_reducible refine hP.bump _ FLT_CNT_ASSERTS _ in_FLT_CNT_ASSERTS ?_
    | with_reducible refine hP.bump _ FLT_EDGES _ in_FLT_EDGES ?_
    | with_reducible refine keep_State_enterSource hP _ _ _ _ ?_
    | with_reducible refine hP.set _ FLT_ASN _ _ in_FLT_ASN ?_
    | with_reducible refine hP.set _ FLT_TIMER _ _ in_FLT_TIMER ?_
    | with_reducible refine hP.setBit _ FLT_STS _ _ _ in_FLT_STS ?_
    | with_reducible refine keep_State_setLive hP _ _ _ ?_
    | with_reducible refine hP.setMany _ _ _ (by simp only [List.all_cons, List.all_nil, Bool.and_true, Bool.and_self, in_FLT_ASN, in_FLT_CNT_ASSERTS, in_FLT_CNT_FSTATE, in_FLT_CURSEV, in_FLT_EDGES, in_FLT_STS, in_FLT_TIMER]) ?_
    | with_reducible refine keep_capture hP _ _ _ ?_
    | with_reducible refine keep_react hP _ _ _ _ ?_
    | with_reducible refine keep_silTriggerAll hP _ _ _ ?_
    | with_reducible refine keep_updateFaultN hP _ ?_
    | (extract_lets +onlyGivenNames t; refine (fun (_ : P t) => ?_) ?_; (on_goal 2 => (dsimp -zeta only [t]; clear t)); (on_goal 1 => (clear_value t; rename' t => w)))
    | (extract_lets +onlyGivenNames t; refine (fun (_ : P t.1) => ?_) ?_; (on_goal 2 => (dsimp -zeta only [t]; clear t)); (on_goal 1 => (clear_value t; rename' t => w)))
    | (extract_lets +onlyGivenNames t; clear_value t; rename' t => w)
    | with_reducible refine Closed.foldl _ _ _ (fun _ _ _ => ?_) ?_
    | split

theorem keep_deassertSource (hP : Closed byRaise P) (n : ℕ) (inst : ℕ) (s : State) (hs : P s) :
    P (deassertSource n inst s) := by
  unfold deassertSource
  repeat' first
    | with_reducible assumption
    | with_reducible refine hP.bump _ FLT_EDGES _ in_FLT_EDGES ?_
    | with_reducible refine keep_State_enterSource hP _ _ _ _ ?_
    | with_reducible refine hP.set _ FLT_TIMER _ _ in_FLT_TIMER ?_
    | with_reducible refine keep_State_setLive hP _ _ _ ?_
    | (extract_lets +onlyGivenNames t; refine (fun (_ : P t) => ?_) ?_; (on_goal 2 => (dsimp -zeta only [t]; clear t)); (on_goal 1 => (clear_value t; rename' t => w)))
    | (extract_lets +onlyGivenNames t; refine (fun (_ : P t.1) => ?_) ?_; (on_goal 2 => (dsimp -zeta only [t]; clear t)); (on_goal 1 => (clear_value t; rename' t => w)))
    | (extract_lets +onlyGivenNames t; clear_value t; rename' t => w)
    | with_reducible refine Closed.foldl _ _ _ (fun _ _ _ => ?_) ?_
    | split

theorem keep_collect (hP : Closed byRaise P) (a : ℕ) (a1 : Follow) (a2 : State) (ha2 : P a2) :
    P (collect a a1 a2) := by
  induction a generalizing a1 a2 with
  | zero => unfold collect; exact ha2
  | succ k ih =>
    cases a1 with
    | nil => exact ha2
    | cons e q =>
      refine ih _ _ ?_
      split
      · exact keep_assertSource hP _ _ _ ha2
      · exact keep_deassertSource hP _ _ _ (keep_assertSource hP _ _ _ ha2)


theorem keep_pulse (hP : Closed byRaise P) (n : ℕ) (inst : ℕ) (s : State) (hs : P s) :
    P (pulse n inst s) := by
  unfold pulse
  repeat' first
    | with_reducible assumption
    | with_reducible refine keep_collect hP _ _ _ ?_
    | with_reducible refine Closed.foldl _ _ _ (fun _ _ _ => ?_) ?_
    | split

theorem keep_lower (hP : Closed byRaise P) (n : ℕ) (inst : ℕ) (s : State) (hs : P s) :
    P (lower n inst s) := by
  unfold lower
  repeat' first
    | with_reducible assumption
    | with_reducible refine hP.set _ FLT_INJREAL _ _ in_FLT_INJREAL ?_
    | with_reducible refine keep_deassertSource hP _ _ _ ?_
    | with_reducible refine Closed.foldl _ _ _ (fun _ _ _ => ?_) ?_
    | split

theorem keep_raise (hP : Closed byRaise P) (n : ℕ) (inst : ℕ) (s : State) (hs : P s) :
    P (raise n inst s) := by
  unfold raise
  repeat' first
    | with_reducible assumption
    | with_reducible refine hP.set _ FLT_INJREAL _ _ in_FLT_INJREAL ?_
    | with_reducible refine keep_assertSource hP _ _ _ ?_
    | with_reducible refine keep_collect hP _ _ _ ?_
    | (extract_lets +onlyGivenNames t; refine (fun (_ : P t) => ?_) ?_; (on_goal 2 => (dsimp -zeta only [t]; clear t)); (on_goal 1 => (clear_value t; rename' t => w)))
    | (extract_lets +onlyGivenNames t; refine (fun (_ : P t.1) => ?_) ?_; (on_goal 2 => (dsimp -zeta only [t]; clear t)); (on_goal 1 => (clear_value t; rename' t => w)))
    | (extract_lets +onlyGivenNames t; clear_value t; rename' t => w)
    | with_reducible refine Closed.foldl _ _ _ (fun _ _ _ => ?_) ?_
    | split

theorem keep_level (hP : Closed byRaise P) (n : ℕ) (inst : ℕ) (c : Bool) (s : State) (hs : P s) :
    P (level n inst c s) := by
  unfold level
  repeat' first
    | with_reducible assumption
    | with_reducible refine keep_lower hP _ _ _ ?_
    | with_reducible refine keep_raise hP _ _ _ ?_
    | with_reducible refine Closed.foldl _ _ _ (fun _ _ _ => ?_) ?_
    | split

theorem keep_withFollow (hP : Closed byRaise P) (r : State × Follow) (hr : P r.1) :
    P (withFollow r) := by
  unfold withFollow
  repeat' first
    | with_reducible assumption
    | with_reducible refine keep_collect hP _ _ _ ?_
    | with_reducible refine Closed.foldl _ _ _ (fun _ _ _ => ?_) ?_
    | split

theorem keep_sendFront (hP : Closed byRaise P) (s : State) (hs : P s) :
    P (sendFront s) := by
  unfold sendFront
  repeat' first
    | with_reducible assumption
    | with_reducible refine hP.emit _ _ ?_
    | with_reducible refine Closed.foldl _ _ _ (fun _ _ _ => ?_) ?_
    | split

theorem keep_actuatorsParked (hP : Closed byRaise P) (s : State) (hs : P s) :
    P (actuatorsParked s) := by
  unfold actuatorsParked
  repeat' first
    | with_reducible assumption
    | with_reducible refine keep_parkedEnd hP _ ?_
    | with_reducible refine Closed.foldl _ _ _ (fun _ _ _ => ?_) ?_
    | split

theorem keep_adaptTap (hP : Closed byRaise P) (l : ℕ) (x : List ℤ) (s0 : State) (i : ℕ) (s : State) (hs0 : P s0) (hs : P s) :
    P (adaptTap l x s0 i s) := by
  unfold adaptTap
  repeat' first
    | with_reducible assumption
    | with_reducible refine keep_State_setLword hP _ _ _ _ _ ?_
    | with_reducible refine hP.used _ ?_
    | (extract_lets +onlyGivenNames t; refine (fun (_ : P t) => ?_) ?_; (on_goal 2 => (dsimp -zeta only [t]; clear t)); (on_goal 1 => (clear_value t; rename' t => w)))
    | (extract_lets +onlyGivenNames t; refine (fun (_ : P t.1) => ?_) ?_; (on_goal 2 => (dsimp -zeta only [t]; clear t)); (on_goal 1 => (clear_value t; rename' t => w)))
    | (extract_lets +onlyGivenNames t; clear_value t; rename' t => w)
    | with_reducible refine Closed.foldl _ _ _ (fun _ _ _ => ?_) ?_
    | split

theorem keep_addressConflict (hP : Closed byRaise P) (s : State) (hs : P s) :
    P (addressConflict s) := by
  unfold addressConflict
  repeat' first
    | with_reducible assumption
    | with_reducible refine keep_pulse hP _ _ _ ?_
    | with_reducible refine Closed.foldl _ _ _ (fun _ _ _ => ?_) ?_
    | split

theorem keep_enterZone (hP : Closed byRaise P) (p : ℕ) (n : ℕ × ℕ) (s : State) (hs : P s) :
    P (enterZone p n s) := by
  unfold enterZone
  repeat' first
    | with_reducible assumption
    | with_reducible refine hP.bump _ ACD_ZDONE _ in_ACD_ZDONE ?_
    | with_reducible refine hP.set _ ACD_NOWROW _ _ in_ACD_NOWROW ?_
    | with_reducible refine hP.setMany _ _ _ (by simp only [List.all_cons, List.all_nil, Bool.and_true, Bool.and_self, in_ACD_NOWROW, in_ACD_NOWZONE, in_ACD_PSIDE, in_ACD_ZDONE]) ?_
    | with_reducible refine Closed.foldl _ _ _ (fun _ _ _ => ?_) ?_
    | split

theorem keep_passTo (hP : Closed byRaise P) (p : ℕ) (n : ℕ × ℕ) (lap : Bool) (s : State) (hs : P s) :
    P (passTo p n lap s) := by
  unfold passTo
  repeat' first
    | with_reducible assumption
    | with_reducible refine hP.set _ ACD_PEND _ _ in_ACD_PEND ?_
    | with_reducible refine keep_enterZone hP _ _ _ ?_
    | (extract_lets +onlyGivenNames t; refine (fun (_ : P t) => ?_) ?_; (on_goal 2 => (dsimp -zeta only [t]; clear t)); (on_goal 1 => (clear_value t; rename' t => w)))
    | (extract_lets +onlyGivenNames t; refine (fun (_ : P t.1) => ?_) ?_; (on_goal 2 => (dsimp -zeta only [t]; clear t)); (on_goal 1 => (clear_value t; rename' t => w)))
    | (extract_lets +onlyGivenNames t; clear_value t; rename' t => w)
    | with_reducible refine Closed.foldl _ _ _ (fun _ _ _ => ?_) ?_
    | split

theorem keep_movePass (hP : Closed byRaise P) (p : ℕ) (r : ℕ) (s : State) (hs : P s) :
    P (movePass p r s) := by
  unfold movePass
  repeat' first
    | with_reducible assumption
    | with_reducible refine hP.set _ ACD_PEND _ _ in_ACD_PEND ?_
    | with_reducible refine keep_passTo hP _ _ _ _ ?_
    | (extract_lets +onlyGivenNames t; refine (fun (_ : P t) => ?_) ?_; (on_goal 2 => (dsimp -zeta only [t]; clear t)); (on_goal 1 => (clear_value t; rename' t => w)))
    | (extract_lets +onlyGivenNames t; refine (fun (_ : P t.1) => ?_) ?_; (on_goal 2 => (dsimp -zeta only [t]; clear t)); (on_goal 1 => (clear_value t; rename' t => w)))
    | (extract_lets +onlyGivenNames t; clear_value t; rename' t => w)
    | with_reducible refine Closed.foldl _ _ _ (fun _ _ _ => ?_) ?_
    | split

theorem keep_onImages (hP : Closed byRaise P) (z : ℕ) (r : ℕ) (pos : ℕ) (c : ℕ) (f : ℕ → State → State) (s : State) (hf : ∀ y0 y1, P y1 → P (f y0 y1)) (hs : P s) :
    P (onImages z r pos c f s) := by
  unfold onImages
  repeat' first
    | with_reducible assumption
    | refine hf _ _ ?_
    | (extract_lets +onlyGivenNames t; refine (fun (_ : P t) => ?_) ?_; (on_goal 2 => (dsimp -zeta only [t]; clear t)); (on_goal 1 => (clear_value t; rename' t => w)))
    | (extract_lets +onlyGivenNames t; refine (fun (_ : P t.1) => ?_) ?_; (on_goal 2 => (dsimp -zeta only [t]; clear t)); (on_goal 1 => (clear_value t; rename' t => w)))
    | (extract_lets +onlyGivenNames t; clear_value t; rename' t => w)
    | with_reducible refine Closed.foldl _ _ _ (fun _ _ _ => ?_) ?_
    | split

theorem keep_markPassed (hP : Closed byRaise P) (a : ℕ) (b : ℕ) (s : State) (hs : P s) :
    P (markPassed a b s) := by
  unfold markPassed
  repeat' first
    | with_reducible assumption
    | with_reducible refine hP.set _ ANG_CMPLATE _ _ in_ANG_CMPLATE ?_
    | with_reducible refine Closed.forBelow _ _ _ (fun _ _ _ => ?_) ?_
    | with_reducible refine Closed.foldl _ _ _ (fun _ _ _ => ?_) ?_
    | split

theorem keep_settleTrace (hP : Closed byRaise P) (s : State) (t : State) (ht : P t) :
    P (settleTrace s t) := by
  unfold settleTrace
  repeat' first
    | with_reducible assumption
    | with_reducible refine Closed.forBelow _ _ _ (fun _ _ _ => ?_) ?_
    | with_reducible refine keep_pulse hP _ _ _ ?_
    | (extract_lets +onlyGivenNames t; refine (fun (_ : P t) => ?_) ?_; (on_goal 2 => (dsimp -zeta only [t]; clear t)); (on_goal 1 => (clear_value t; rename' t => w)))
    | (extract_lets +onlyGivenNames t; refine (fun (_ : P t.1) => ?_) ?_; (on_goal 2 => (dsimp -zeta only [t]; clear t)); (on_goal 1 => (clear_value t; rename' t => w)))
    | (extract_lets +onlyGivenNames t; clear_value t; rename' t => w)
    | with_reducible refine Closed.foldl _ _ _ (fun _ _ _ => ?_) ?_
    | split

theorem keep_passIndex (hP : Closed byRaise P) (s : State) (hs : P s) :
    P (passIndex s) := by
  unfold passIndex
  repeat' first
    | with_reducible assumption
    | with_reducible refine hP.set _ ANG_IDXVALID _ _ in_ANG_IDXVALID ?_
    | with_reducible refine hP.set _ ANG_LASTIDX _ _ in_ANG_LASTIDX ?_
    | with_reducible refine hP.set _ ANG_PERIOD _ _ in_ANG_PERIOD ?_
    | with_reducible refine keep_settleTrace hP _ _ ?_
    | with_reducible refine keep_triggerSrc hP _ _ _ _ ?_
    | (extract_lets +onlyGivenNames t; refine (fun (_ : P t) => ?_) ?_; (on_goal 2 => (dsimp -zeta only [t]; clear t)); (on_goal 1 => (clear_value t; rename' t => w)))
    | (extract_lets +onlyGivenNames t; refine (fun (_ : P t.1) => ?_) ?_; (on_goal 2 => (dsimp -zeta only [t]; clear t)); (on_goal 1 => (clear_value t; rename' t => w)))
    | (extract_lets +onlyGivenNames t; clear_value t; rename' t => w)
    | with_reducible refine Closed.foldl _ _ _ (fun _ _ _ => ?_) ?_
    | split

theorem keep_forwardStep (hP : Closed byRaise P) (target : ℕ) (s : State) (hs : P s) :
    P (forwardStep target s) := by
  unfold forwardStep
  repeat' first
    | with_reducible assumption
    | with_reducible refine hP.add _ ANG_STILLPOS _ _ in_ANG_STILLPOS ?_
    | with_reducible refine hP.bump _ ANG_EPOCH _ in_ANG_EPOCH ?_
    | with_reducible refine hP.set _ ANG_STEPLEN _ _ in_ANG_STEPLEN ?_
    | with_reducible refine hP.setStamp _ _ in_ANG_STAMP_LO in_ANG_STAMP_HI ?_
    | with_reducible refine keep_markPassed hP _ _ _ ?_
    | with_reducible refine keep_passIndex hP _ ?_
    | (extract_lets +onlyGivenNames t; refine (fun (_ : P t) => ?_) ?_; (on_goal 2 => (dsimp -zeta only [t]; clear t)); (on_goal 1 => (clear_value t; rename' t => w)))
    | (extract_lets +onlyGivenNames t; refine (fun (_ : P t.1) => ?_) ?_; (on_goal 2 => (dsimp -zeta only [t]; clear t)); (on_goal 1 => (clear_value t; rename' t => w)))
    | (extract_lets +onlyGivenNames t; clear_value t; rename' t => w)
    | with_reducible refine Closed.foldl _ _ _ (fun _ _ _ => ?_) ?_
    | split

theorem keep_approach (hP : Closed byRaise P) (target : ℕ) (s : State) (hs : P s) :
    P (approach target s) := by
  unfold approach
  repeat' first
    | with_reducible assumption
    | with_reducible refine hP.set _ ANG_SRC_SLEW _ _ in_ANG_SRC_SLEW ?_
    | with_reducible refine hP.setI _ ANG_SLEWREM _ _ in_ANG_SLEWREM ?_
    | with_reducible refine hP.setMany _ _ _ (by simp only [List.all_cons, List.all_nil, Bool.and_true, Bool.and_self, in_ANG_SLEWCNT, in_ANG_SLEWDUE, in_ANG_SLEWREM, in_ANG_SRC_SLEW]) ?_
    | with_reducible refine keep_forwardStep hP _ _ ?_
    | with_reducible refine keep_pulse hP _ _ _ ?_
    | (extract_lets +onlyGivenNames t; refine (fun (_ : P t) => ?_) ?_; (on_goal 2 => (dsimp -zeta only [t]; clear t)); (on_goal 1 => (clear_value t; rename' t => w)))
    | (extract_lets +onlyGivenNames t; refine (fun (_ : P t.1) => ?_) ?_; (on_goal 2 => (dsimp -zeta only [t]; clear t)); (on_goal 1 => (clear_value t; rename' t => w)))
    | (extract_lets +onlyGivenNames t; clear_value t; rename' t => w)
    | with_reducible refine Closed.foldl _ _ _ (fun _ _ _ => ?_) ?_
    | split

theorem keep_standOff (hP : Closed byRaise P) (src : ℕ) (s : State) (hs : P s) :
    P (standOff src s) := by
  unfold standOff
  repeat' first
    | with_reducible assumption
    | with_reducible refine hP.setI _ ANG_SRCOFS _ _ in_ANG_SRCOFS ?_
    | with_reducible refine hP.setMany _ _ _ (by simp only [List.all_cons, List.all_nil, Bool.and_true, Bool.and_self, in_ANG_SLEWDUE, in_ANG_SLEWREM, in_ANG_SRCOFS, in_ANG_SRC_SLEW]) ?_
    | with_reducible refine Closed.foldl _ _ _ (fun _ _ _ => ?_) ?_
    | split

theorem keep_joinSource (hP : Closed byRaise P) (src : ℕ) (s : State) (hs : P s) :
    P (joinSource src s) := by
  unfold joinSource
  repeat' first
    | with_reducible assumption
    | with_reducible refine hP.setMany _ _ _ (by simp only [List.all_cons, List.all_nil, Bool.and_true, Bool.and_self, in_ANG_FRAC, in_ANG_SLEWDUE, in_ANG_SLEWREM, in_ANG_SRCOFS, in_ANG_SRC_SLEW]) ?_
    | with_reducible refine keep_approach hP _ _ ?_
    | with_reducible refine keep_standOff hP _ _ ?_
    | (extract_lets +onlyGivenNames t; refine (fun (_ : P t) => ?_) ?_; (on_goal 2 => (dsimp -zeta only [t]; clear t)); (on_goal 1 => (clear_value t; rename' t => w)))
    | (extract_lets +onlyGivenNames t; refine (fun (_ : P t.1) => ?_) ?_; (on_goal 2 => (dsimp -zeta only [t]; clear t)); (on_goal 1 => (clear_value t; rename' t => w)))
    | (extract_lets +onlyGivenNames t; clear_value t; rename' t => w)
    | with_reducible refine Closed.foldl _ _ _ (fun _ _ _ => ?_) ?_
    | split

theorem keep_updatePrecise (hP : Closed byRaise P) (s : State) (hs : P s) :
    P (updatePrecise s) := by
  unfold updatePrecise
  repeat' first
    | with_reducible assumption
    | with_reducible refine hP.set _ ANG_SRC_PRECISE _ _ in_ANG_SRC_PRECISE ?_
    | with_reducible refine keep_recheckWrites hP _ ?_
    | with_reducible refine Closed.foldl _ _ _ (fun _ _ _ => ?_) ?_
    | split

theorem keep_selectSource (hP : Closed byRaise P) (s : State) (hs : P s) :
    P (selectSource s) := by
  unfold selectSource
  repeat' first
    | with_reducible assumption
    | with_reducible refine hP.bump _ ANG_EPOCH _ in_ANG_EPOCH ?_
    | with_reducible refine hP.bump _ ANG_SRC_CHANGES _ in_ANG_SRC_CHANGES ?_
    | with_reducible refine hP.set _ ANG_SRC_SRC _ _ in_ANG_SRC_SRC ?_
    | with_reducible refine keep_joinSource hP _ _ ?_
    | with_reducible refine keep_pulse hP _ _ _ ?_
    | with_reducible refine keep_updatePrecise hP _ ?_
    | (extract_lets +onlyGivenNames t; refine (fun (_ : P t) => ?_) ?_; (on_goal 2 => (dsimp -zeta only [t]; clear t)); (on_goal 1 => (clear_value t; rename' t => w)))
    | (extract_lets +onlyGivenNames t; refine (fun (_ : P t.1) => ?_) ?_; (on_goal 2 => (dsimp -zeta only [t]; clear t)); (on_goal 1 => (clear_value t; rename' t => w)))
    | (extract_lets +onlyGivenNames t; clear_value t; rename' t => w)
    | with_reducible refine Closed.foldl _ _ _ (fun _ _ _ => ?_) ?_
    | split

theorem keep_toObserver (hP : Closed byRaise P) (s : State) (hs : P s) :
    P (toObserver s) := by
  unfold toObserver
  repeat' first
    | with_reducible assumption
    | with_reducible refine hP.setI _ SPN_COMDIF _ _ in_SPN_COMDIF ?_
    | with_reducible refine hP.setMany _ _ _ (by simp only [List.all_cons, List.all_nil, Bool.and_true, Bool.and_self, in_SPN_COMDIF, in_SPN_OBSLOST, in_SPN_ONPILOT, in_SPN_SLEWING]) ?_
    | with_reducible refine Closed.foldl _ _ _ (fun _ _ _ => ?_) ?_
    | split

theorem keep_pilotLoss (hP : Closed byRaise P) (s : State) (hs : P s) :
    P (pilotLoss s) := by
  unfold pilotLoss
  repeat' first
    | with_reducible assumption
    | with_reducible refine keep_enterCoast hP _ ?_
    | with_reducible refine keep_setBridge hP _ _ ?_
    | with_reducible refine keep_spnGo hP _ _ _ ?_
    | with_reducible refine keep_toObserver hP _ ?_
    | with_reducible refine keep_withFollow hP _ ?_
    | with_reducible refine Closed.foldl _ _ _ (fun _ _ _ => ?_) ?_
    | split

theorem keep_aggregationExpiry (hP : Closed byRaise P) (q : ℕ) (s : State) (hs : P s) :
    P (aggregationExpiry q s) := by
  unfold aggregationExpiry
  repeat' first
    | with_reducible assumption
    | with_reducible refine keep_signalVector hP _ _ ?_
    | with_reducible rfl
    | with_reducible exact List.prefix_rfl
    | with_reducible exact le_rfl
    | with_reducible exact fun h => h
    | exact fun h => Memory.wf_writeList _ _ h
    | exact Nat.le_add_right _ _
    | with_reducible exact List.prefix_append _ _
    | with_reducible refine Closed.foldl _ _ _ (fun _ _ _ => ?_) ?_
    | split
    | with_reducible refine hP.build _ ?_ ?_ ?_ ?_

theorem keep_agreement (hP : Closed byRaise P) (s : State) (hs : P s) :
    P (agreement s) := by
  unfold agreement
  repeat' first
    | with_reducible assumption
    | with_reducible refine hP.addSat _ SPN_AGREEN _ _ in_SPN_AGREEN ?_
    | with_reducible refine hP.addSat _ SPN_DISN _ _ in_SPN_DISN ?_
    | with_reducible refine hP.set _ SPN_AGREEN _ _ in_SPN_AGREEN ?_
    | with_reducible refine hP.set _ SPN_DISN _ _ in_SPN_DISN ?_
    | with_reducible refine hP.setMany _ _ _ (by simp only [List.all_cons, List.all_nil, Bool.and_true, Bool.and_self, in_SPN_AGREEN, in_SPN_DISN]) ?_
    | (extract_lets +onlyGivenNames t; refine (fun (_ : P t) => ?_) ?_; (on_goal 2 => (dsimp -zeta only [t]; clear t)); (on_goal 1 => (clear_value t; rename' t => w)))
    | (extract_lets +onlyGivenNames t; refine (fun (_ : P t.1) => ?_) ?_; (on_goal 2 => (dsimp -zeta only [t]; clear t)); (on_goal 1 => (clear_value t; rename' t => w)))
    | (extract_lets +onlyGivenNames t; clear_value t; rename' t => w)
    | with_reducible refine Closed.foldl _ _ _ (fun _ _ _ => ?_) ?_
    | split

theorem keep_countSlew (hP : Closed byRaise P) (s : State) (hs : P s) :
    P (countSlew s) := by
  unfold countSlew
  repeat' first
    | with_reducible assumption
    | with_reducible refine hP.bump _ ANG_SLEWCNT _ in_ANG_SLEWCNT ?_
    | with_reducible refine hP.set _ ANG_SLEWCNT _ _ in_ANG_SLEWCNT ?_
    | with_reducible refine hP.set _ ANG_SLEWDUE _ _ in_ANG_SLEWDUE ?_
    | with_reducible refine Closed.foldl _ _ _ (fun _ _ _ => ?_) ?_
    | split

theorem keep_slewed (hP : Closed byRaise P) (s : State) (hs : P s) :
    P (slewed s) := by
  unfold slewed
  repeat' first
    | with_reducible assumption
    | with_reducible refine hP.set _ ANG_SLEWDUE _ _ in_ANG_SLEWDUE ?_
    | with_reducible refine hP.set _ ANG_SRC_SLEW _ _ in_ANG_SRC_SLEW ?_
    | with_reducible refine hP.setI _ ANG_SLEWREM _ _ in_ANG_SLEWREM ?_
    | with_reducible refine keep_updatePrecise hP _ ?_
    | (extract_lets +onlyGivenNames t; refine (fun (_ : P t) => ?_) ?_; (on_goal 2 => (dsimp -zeta only [t]; clear t)); (on_goal 1 => (clear_value t; rename' t => w)))
    | (extract_lets +onlyGivenNames t; refine (fun (_ : P t.1) => ?_) ?_; (on_goal 2 => (dsimp -zeta only [t]; clear t)); (on_goal 1 => (clear_value t; rename' t => w)))
    | (extract_lets +onlyGivenNames t; clear_value t; rename' t => w)
    | with_reducible refine Closed.foldl _ _ _ (fun _ _ _ => ?_) ?_
    | split

theorem keep_tickBack (hP : Closed byRaise P) (s : State) (hs : P s) :
    P (tickBack s) := by
  unfold tickBack
  repeat' first
    | with_reducible assumption
    | with_reducible refine hP.set _ ANG_IDXVALID _ _ in_ANG_IDXVALID ?_
    | with_reducible refine hP.setStamp _ _ in_ANG_STAMP_LO in_ANG_STAMP_HI ?_
    | (extract_lets +onlyGivenNames t; refine (fun (_ : P t) => ?_) ?_; (on_goal 2 => (dsimp -zeta only [t]; clear t)); (on_goal 1 => (clear_value t; rename' t => w)))
    | (extract_lets +onlyGivenNames t; refine (fun (_ : P t.1) => ?_) ?_; (on_goal 2 => (dsimp -zeta only [t]; clear t)); (on_goal 1 => (clear_value t; rename' t => w)))
    | (extract_lets +onlyGivenNames t; clear_value t; rename' t => w)
    | with_reducible refine Closed.foldl _ _ _ (fun _ _ _ => ?_) ?_
    | split

theorem keep_tickForward (hP : Closed byRaise P) (s : State) (hs : P s) :
    P (tickForward s) := by
  unfold tickForward
  repeat' first
    | with_reducible assumption
    | with_reducible refine hP.setStamp _ _ in_ANG_STAMP_LO in_ANG_STAMP_HI ?_
    | with_reducible refine keep_passIndex hP _ ?_
    | (extract_lets +onlyGivenNames t; refine (fun (_ : P t) => ?_) ?_; (on_goal 2 => (dsimp -zeta only [t]; clear t)); (on_goal 1 => (clear_value t; rename' t => w)))
    | (extract_lets +onlyGivenNames t; refine (fun (_ : P t.1) => ?_) ?_; (on_goal 2 => (dsimp -zeta only [t]; clear t)); (on_goal 1 => (clear_value t; rename' t => w)))
    | (extract_lets +onlyGivenNames t; clear_value t; rename' t => w)
    | with_reducible refine Closed.foldl _ _ _ (fun _ _ _ => ?_) ?_
    | split

theorem keep_followPilot (hP : Closed byRaise P) (s : State) (hs : P s) :
    P (followPilot s) := by
  unfold followPilot
  repeat' first
    | with_reducible assumption
    | with_reducible refine keep_countSlew hP _ ?_
    | with_reducible refine keep_slewed hP _ ?_
    | with_reducible refine keep_tickBack hP _ ?_
    | with_reducible refine keep_tickForward hP _ ?_
    | (extract_lets +onlyGivenNames t; refine (fun (_ : P t) => ?_) ?_; (on_goal 2 => (dsimp -zeta only [t]; clear t)); (on_goal 1 => (clear_value t; rename' t => w)))
    | (extract_lets +onlyGivenNames t; refine (fun (_ : P t.1) => ?_) ?_; (on_goal 2 => (dsimp -zeta only [t]; clear t)); (on_goal 1 => (clear_value t; rename' t => w)))
    | (extract_lets +onlyGivenNames t; clear_value t; rename' t => w)
    | with_reducible refine Closed.foldl _ _ _ (fun _ _ _ => ?_) ?_
    | split

theorem keep_rateTick (hP : Closed byRaise P) (num : ℕ) (den : ℕ) (s : State) (hs : P s) :
    P (rateTick num den s).1 := by
  unfold rateTick
  repeat' first
    | with_reducible assumption
    | with_reducible refine hP.set _ ANG_FRAC _ _ in_ANG_FRAC ?_
    | (extract_lets +onlyGivenNames t; refine (fun (_ : P t) => ?_) ?_; (on_goal 2 => (dsimp -zeta only [t]; clear t)); (on_goal 1 => (clear_value t; rename' t => w)))
    | (extract_lets +onlyGivenNames t; refine (fun (_ : P t.1) => ?_) ?_; (on_goal 2 => (dsimp -zeta only [t]; clear t)); (on_goal 1 => (clear_value t; rename' t => w)))
    | (extract_lets +onlyGivenNames t; clear_value t; rename' t => w)
    | with_reducible refine Closed.foldl _ _ _ (fun _ _ _ => ?_) ?_
    | split

theorem keep_followRate (hP : Closed byRaise P) (num : ℕ) (den : ℕ) (s : State) (hs : P s) :
    P (followRate num den s) := by
  unfold followRate
  repeat' first
    | with_reducible assumption
    | with_reducible refine keep_countSlew hP _ ?_
    | with_reducible refine keep_rateTick hP _ _ _ ?_
    | with_reducible refine keep_slewed hP _ ?_
    | with_reducible refine keep_tickBack hP _ ?_
    | with_reducible refine keep_tickForward hP _ ?_
    | (extract_lets +onlyGivenNames t; refine (fun (_ : P t) => ?_) ?_; (on_goal 2 => (dsimp -zeta only [t]; clear t)); (on_goal 1 => (clear_value t; rename' t => w)))
    | (extract_lets +onlyGivenNames t; refine (fun (_ : P t.1) => ?_) ?_; (on_goal 2 => (dsimp -zeta only [t]; clear t)); (on_goal 1 => (clear_value t; rename' t => w)))
    | (extract_lets +onlyGivenNames t; clear_value t; rename' t => w)
    | with_reducible refine Closed.foldl _ _ _ (fun _ _ _ => ?_) ?_
    | split

theorem keep_showSlew (hP : Closed byRaise P) (s : State) (hs : P s) :
    P (showSlew s) := by
  unfold showSlew
  repeat' first
    | with_reducible assumption
    | with_reducible refine hP.set _ ANG_SRC_SLEW _ _ in_ANG_SRC_SLEW ?_
    | with_reducible refine keep_updatePrecise hP _ ?_
    | (extract_lets +onlyGivenNames t; refine (fun (_ : P t) => ?_) ?_; (on_goal 2 => (dsimp -zeta only [t]; clear t)); (on_goal 1 => (clear_value t; rename' t => w)))
    | (extract_lets +onlyGivenNames t; refine (fun (_ : P t.1) => ?_) ?_; (on_goal 2 => (dsimp -zeta only [t]; clear t)); (on_goal 1 => (clear_value t; rename' t => w)))
    | (extract_lets +onlyGivenNames t; clear_value t; rename' t => w)
    | with_reducible refine Closed.foldl _ _ _ (fun _ _ _ => ?_) ?_
    | split

theorem keep_angleDisagreement (hP : Closed byRaise P) (s : State) (hs : P s) :
    P (angleDisagreement s) := by
  unfold angleDisagreement
  repeat' first
    | with_reducible assumption
    | with_reducible refine keep_pulse hP _ _ _ ?_
    | with_reducible refine Closed.foldl _ _ _ (fun _ _ _ => ?_) ?_
    | split

theorem keep_setTorque (hP : Closed byRaise P) (i : ℤ) (s : State) (hs : P s) :
    P (setTorque i s) := by
  unfold setTorque
  repeat' first
    | with_reducible assumption
    | with_reducible refine hP.setI _ SPN_IDDEM _ _ in_SPN_IDDEM ?_
    | with_reducible refine hP.setI _ SPN_IQDEM _ _ in_SPN_IQDEM ?_
    | (extract_lets +onlyGivenNames t; refine (fun (_ : P t) => ?_) ?_; (on_goal 2 => (dsimp -zeta only [t]; clear t)); (on_goal 1 => (clear_value t; rename' t => w)))
    | (extract_lets +onlyGivenNames t; refine (fun (_ : P t.1) => ?_) ?_; (on_goal 2 => (dsimp -zeta only [t]; clear t)); (on_goal 1 => (clear_value t; rename' t => w)))
    | (extract_lets +onlyGivenNames t; clear_value t; rename' t => w)
    | with_reducible refine Closed.foldl _ _ _ (fun _ _ _ => ?_) ?_
    | split

theorem keep_reply (hP : Closed byRaise P) (typ : ℕ) (seq : ℕ) (payload : List (BitVec 8)) (s : State) (hs : P s) :
    P (reply typ seq payload s) := by
  unfold reply
  repeat' first
    | with_reducible assumption
    | with_reducible refine hP.emit _ _ ?_
    | (extract_lets +onlyGivenNames t; refine (fun (_ : P t) => ?_) ?_; (on_goal 2 => (dsimp -zeta only [t]; clear t)); (on_goal 1 => (clear_value t; rename' t => w)))
    | (extract_lets +onlyGivenNames t; refine (fun (_ : P t.1) => ?_) ?_; (on_goal 2 => (dsimp -zeta only [t]; clear t)); (on_goal 1 => (clear_value t; rename' t => w)))
    | (extract_lets +onlyGivenNames t; clear_value t; rename' t => w)
    | with_reducible rfl
    | with_reducible exact List.prefix_rfl
    | with_reducible exact le_rfl
    | with_reducible exact fun h => h
    | exact fun h => Memory.wf_writeList _ _ h
    | exact Nat.le_add_right _ _
    | with_reducible exact List.prefix_append _ _
    | with_reducible refine Closed.foldl _ _ _ (fun _ _ _ => ?_) ?_
    | split
    | with_reducible refine hP.build _ ?_ ?_ ?_ ?_

theorem keep_sendPending (hP : Closed byRaise P) (s : State) (hs : P s) :
    P (sendPending s) := by
  unfold sendPending
  repeat' first
    | with_reducible assumption
    | with_reducible refine hP.emit _ _ ?_
    | with_reducible refine hP.set _ MSIX_PBA _ _ in_MSIX_PBA ?_
    | with_reducible refine Closed.forBelow _ _ _ (fun _ _ _ => ?_) ?_
    | with_reducible refine Closed.foldl _ _ _ (fun _ _ _ => ?_) ?_
    | split

theorem keep_peerNext (hP : Closed byRaise P) (slot : ℕ) (qid : ℕ) (s : State) (hs : P s) :
    P (peerNext slot qid s) := by
  unfold peerNext
  repeat' first
    | with_reducible assumption
    | with_reducible refine hP.emit _ _ ?_
    | (extract_lets +onlyGivenNames t; refine (fun (_ : P t) => ?_) ?_; (on_goal 2 => (dsimp -zeta only [t]; clear t)); (on_goal 1 => (clear_value t; rename' t => w)))
    | (extract_lets +onlyGivenNames t; refine (fun (_ : P t.1) => ?_) ?_; (on_goal 2 => (dsimp -zeta only [t]; clear t)); (on_goal 1 => (clear_value t; rename' t => w)))
    | (extract_lets +onlyGivenNames t; clear_value t; rename' t => w)
    | with_reducible rfl
    | with_reducible exact List.prefix_rfl
    | with_reducible exact le_rfl
    | with_reducible exact fun h => h
    | exact fun h => Memory.wf_writeList _ _ h
    | exact Nat.le_add_right _ _
    | with_reducible exact List.prefix_append _ _
    | with_reducible refine Closed.foldl _ _ _ (fun _ _ _ => ?_) ?_
    | split
    | with_reducible refine hP.build _ ?_ ?_ ?_ ?_

theorem keep_dmaFails (hP : Closed byRaise P) (who : BufMaster) (s : State) (hs : P s) :
    P (dmaFails who s) := by
  unfold dmaFails
  repeat' first
    | with_reducible assumption
    | with_reducible refine keep_haltDma hP _ _ ?_
    | with_reducible refine keep_pulse hP _ _ _ ?_
    | with_reducible refine Closed.foldl _ _ _ (fun _ _ _ => ?_) ?_
    | split

theorem keep_decodeError (hP : Closed byRaise P) (who : BufMaster) (s : State) (hs : P s) :
    P (decodeError who s) := by
  unfold decodeError
  repeat' first
    | with_reducible assumption
    | with_reducible refine keep_dmaFails hP _ _ ?_
    | with_reducible refine keep_pulse hP _ _ _ ?_
    | with_reducible refine Closed.foldl _ _ _ (fun _ _ _ => ?_) ?_
    | split

theorem keep_readFails (hP : Closed byRaise P) (who : BufMaster) (addr : ℕ) (s : State) (hs : P s) :
    P (readFails who addr s) := by
  unfold readFails
  repeat' first
    | with_reducible assumption
    | with_reducible refine hP.emit _ _ ?_
    | with_reducible refine keep_dmaFails hP _ _ ?_
    | with_reducible refine keep_pulse hP _ _ _ ?_
    | with_reducible refine Closed.foldl _ _ _ (fun _ _ _ => ?_) ?_
    | split

theorem keep_bnrDump (hP : Closed byRaise P) (s : State) (hs : P s) :
    P (bnrDump s) := by
  unfold bnrDump
  repeat' first
    | with_reducible assumption
    | with_reducible refine keep_dumpTrigger hP _ _ ?_
    | with_reducible refine keep_withFollow hP _ ?_
    | with_reducible refine Closed.foldl _ _ _ (fun _ _ _ => ?_) ?_
    | split

theorem keep_diagWrite (hP : Closed byRaise P) (v : ℕ) (s : State) (hs : P s) :
    P (diagWrite v s) := by
  unfold diagWrite
  repeat' first
    | with_reducible assumption
    | (extract_lets +onlyGivenNames t; refine (fun (_ : P t) => ?_) ?_; (on_goal 2 => (dsimp -zeta only [t]; clear t)); (on_goal 1 => (clear_value t; rename' t => w)))
    | (extract_lets +onlyGivenNames t; refine (fun (_ : P t.1) => ?_) ?_; (on_goal 2 => (dsimp -zeta only [t]; clear t)); (on_goal 1 => (clear_value t; rename' t => w)))
    | (extract_lets +onlyGivenNames t; clear_value t; rename' t => w)
    | with_reducible rfl
    | with_reducible exact List.prefix_rfl
    | with_reducible exact le_rfl
    | with_reducible exact fun h => h
    | exact fun h => Memory.wf_writeList _ _ h
    | exact Nat.le_add_right _ _
    | with_reducible exact List.prefix_append _ _
    | with_reducible refine Closed.foldl _ _ _ (fun _ _ _ => ?_) ?_
    | split
    | with_reducible refine hP.build _ ?_ ?_ ?_ ?_

theorem keep_dmaResume (hP : Closed byRaise P) (mask : ℕ) (s : State) (hs : P s) :
    P (dmaResume mask s) := by
  unfold dmaResume
  repeat' first
    | with_reducible assumption
    | with_reducible refine hP.set _ BUF_DMAHALT _ _ in_BUF_DMAHALT ?_
    | with_reducible refine Closed.foldl _ _ _ (fun _ _ _ => ?_) ?_
    | split

theorem keep_driveSync (hP : Closed byRaise P) (s : State) (hs : P s) :
    P (driveSync s) := by
  unfold driveSync
  repeat' first
    | with_reducible assumption
    | with_reducible refine hP.emit _ _ ?_
    | with_reducible refine Closed.foldl _ _ _ (fun _ _ _ => ?_) ?_
    | split

theorem keep_egressFreeze (hP : Closed byRaise P) (s : State) (hs : P s) :
    P (egressFreeze s) := by
  unfold egressFreeze
  repeat' first
    | with_reducible assumption
    | with_reducible refine keep_freezeEgress hP _ _ ?_
    | with_reducible refine keep_withFollow hP _ ?_
    | with_reducible refine Closed.foldl _ _ _ (fun _ _ _ => ?_) ?_
    | split

theorem keep_fmtRun (hP : Closed byRaise P) (run : Bool) (s : State) (hs : P s) :
    P (fmtRun run s) := by
  unfold fmtRun
  repeat' first
    | with_reducible assumption
    | with_reducible refine hP.setMany _ _ _ (by simp only [List.all_cons, List.all_nil, Bool.and_true, Bool.and_self, in_FMT_CTL_RUN, in_FMT_STS_RUNNING]) ?_
    | (extract_lets +onlyGivenNames t; refine (fun (_ : P t) => ?_) ?_; (on_goal 2 => (dsimp -zeta only [t]; clear t)); (on_goal 1 => (clear_value t; rename' t => w)))
    | (extract_lets +onlyGivenNames t; refine (fun (_ : P t.1) => ?_) ?_; (on_goal 2 => (dsimp -zeta only [t]; clear t)); (on_goal 1 => (clear_value t; rename' t => w)))
    | (extract_lets +onlyGivenNames t; clear_value t; rename' t => w)
    | with_reducible refine Closed.foldl _ _ _ (fun _ _ _ => ?_) ?_
    | split

theorem keep_resumeIssue (hP : Closed byRaise P) (s : State) (hs : P s) :
    P (resumeIssue s) := by
  unfold resumeIssue
  repeat' first
    | with_reducible assumption
    | with_reducible refine keep_drainCpls hP _ ?_
    | with_reducible refine keep_sendPending hP _ ?_
    | with_reducible refine keep_updateInta hP _ ?_
    | with_reducible refine Closed.foldl _ _ _ (fun _ _ _ => ?_) ?_
    | split

theorem keep_heldStraps (hP : Closed byRaise P) (s : State) (f : Bool → Bool → Bool → State → State) (a : State) (hs : P s) (hf : ∀ y0 y1 y2 y3, P y3 → P (f y0 y1 y2 y3)) (ha : P a) :
    P (heldStraps s f a) := by
  unfold heldStraps
  repeat' first
    | with_reducible assumption
    | refine hf _ _ _ _ ?_
    | with_reducible refine Closed.foldl _ _ _ (fun _ _ _ => ?_) ?_
    | split

theorem keep_lpeKill (hP : Closed byRaise P) (hi : Bool) (v : ℕ) (s : State) (hs : P s) :
    P (lpeKill hi v s) := by
  unfold lpeKill
  repeat' first
    | with_reducible assumption
    | with_reducible refine Closed.forBelow _ _ _ (fun _ _ _ => ?_) ?_
    | with_reducible refine keep_killContext hP _ _ ?_
    | (extract_lets +onlyGivenNames t; refine (fun (_ : P t) => ?_) ?_; (on_goal 2 => (dsimp -zeta only [t]; clear t)); (on_goal 1 => (clear_value t; rename' t => w)))
    | (extract_lets +onlyGivenNames t; refine (fun (_ : P t.1) => ?_) ?_; (on_goal 2 => (dsimp -zeta only [t]; clear t)); (on_goal 1 => (clear_value t; rename' t => w)))
    | (extract_lets +onlyGivenNames t; clear_value t; rename' t => w)
    | with_reducible refine Closed.foldl _ _ _ (fun _ _ _ => ?_) ?_
    | split

theorem keep_lpeTrig (hP : Closed byRaise P) (hi : Bool) (v : ℕ) (s : State) (hs : P s) :
    P (lpeTrig hi v s) := by
  unfold lpeTrig
  repeat' first
    | with_reducible assumption
    | with_reducible refine Closed.forBelow _ _ _ (fun _ _ _ => ?_) ?_
    | with_reducible refine keep_settleTrace hP _ _ ?_
    | with_reducible refine keep_trigger hP _ _ _ _ _ ?_
    | with_reducible refine Closed.foldl _ _ _ (fun _ _ _ => ?_) ?_
    | split

theorem keep_reassert (hP : Closed byRaise P) (angle : Bool) (l : NMap (List LiveInst)) (s : State) (hs : P s) :
    P (reassert angle l s) := by
  unfold reassert
  repeat' first
    | with_reducible assumption
    | with_reducible refine keep_raise hP _ _ _ ?_
    | with_reducible refine keep_updateFaultN hP _ ?_
    | with_reducible refine Closed.foldl _ _ _ (fun _ _ _ => ?_) ?_
    | split

theorem keep_when1 (hP : Closed byRaise P) (v : ℕ) (b : ℕ) (f : State → State) (s : State) (hf : ∀ y0, P y0 → P (f y0)) (hs : P s) :
    P (when1 v b f s) := by
  unfold when1
  repeat' first
    | with_reducible assumption
    | refine hf _ ?_
    | with_reducible refine Closed.foldl _ _ _ (fun _ _ _ => ?_) ?_
    | split

theorem keep_queueSetup (hP : Closed byRaise P) (n : ℕ) (s : State) (hs : P s) :
    P (queueSetup n s) := by
  unfold queueSetup
  repeat' first
    | with_reducible assumption
    | with_reducible refine hP.emit _ _ ?_
    | with_reducible refine Closed.foldl _ _ _ (fun _ _ _ => ?_) ?_
    | split

theorem keep_sillageForce (hP : Closed byRaise P) (u : ℕ) (s : State) (hs : P s) :
    P (sillageForce u s) := by
  unfold sillageForce
  repeat' first
    | with_reducible assumption
    | with_reducible refine keep_settleTrace hP _ _ ?_
    | with_reducible refine keep_silTrigger hP _ _ _ ?_
    | with_reducible refine Closed.foldl _ _ _ (fun _ _ _ => ?_) ?_
    | split

theorem keep_sillageStop (hP : Closed byRaise P) (u : ℕ) (s : State) (hs : P s) :
    P (sillageStop u s) := by
  unfold sillageStop
  repeat' first
    | with_reducible assumption
    | with_reducible refine hP.set _ LPE_SIL_STS_STATE _ _ in_LPE_SIL_STS_STATE ?_
    | with_reducible refine Closed.foldl _ _ _ (fun _ _ _ => ?_) ?_
    | split

theorem keep_spnDrydown (hP : Closed byRaise P) (s : State) (hs : P s) :
    P (spnDrydown s) := by
  unfold spnDrydown
  repeat' first
    | with_reducible assumption
    | with_reducible refine keep_orderlyDrydown hP _ _ ?_
    | with_reducible refine Closed.foldl _ _ _ (fun _ _ _ => ?_) ?_
    | split

theorem keep_spnPark (hP : Closed byRaise P) (s : State) (hs : P s) :
    P (spnPark s) := by
  unfold spnPark
  repeat' first
    | with_reducible assumption
    | with_reducible refine keep_drydownRequest hP _ ?_
    | with_reducible refine keep_withFollow hP _ ?_
    | with_reducible refine Closed.foldl _ _ _ (fun _ _ _ => ?_) ?_
    | split

theorem keep_spnStop (hP : Closed byRaise P) (s : State) (hs : P s) :
    P (spnStop s) := by
  unfold spnStop
  repeat' first
    | with_reducible assumption
    | with_reducible refine keep_orderlyDrydown hP _ _ ?_
    | with_reducible refine Closed.foldl _ _ _ (fun _ _ _ => ?_) ?_
    | split

theorem keep_retractRequest (hP : Closed byRaise P) (a : ℕ) (s : State) (hs : P s) :
    P (retractRequest a s) := by
  unfold retractRequest
  repeat' first
    | with_reducible assumption
    | with_reducible refine keep_retract hP _ _ ?_
    | with_reducible refine keep_withFollow hP _ ?_
    | with_reducible refine Closed.foldl _ _ _ (fun _ _ _ => ?_) ?_
    | split

theorem keep_withCmd (hP : Closed byRaise P) (sqid : ℕ) (cid : BitVec 16) (op : ℕ) (f : NvCmd → State → State) (s : State) (hf : ∀ y0 y1, P y1 → P (f y0 y1)) (hs : P s) :
    P (withCmd sqid cid op f s) := by
  unfold withCmd
  repeat' first
    | with_reducible assumption
    | refine hf _ _ ?_
    | with_reducible refine Closed.foldl _ _ _ (fun _ _ _ => ?_) ?_
    | split

theorem keep_holdNor (hP : Closed byRaise P) (w : NorWork) (s : State) (hs : P s) :
    P (holdNor w s) := by
  unfold holdNor
  repeat' first
    | with_reducible assumption
    | with_reducible rfl
    | with_reducible exact List.prefix_rfl
    | with_reducible exact le_rfl
    | with_reducible exact fun h => h
    | exact fun h => Memory.wf_writeList _ _ h
    | exact Nat.le_add_right _ _
    | with_reducible exact List.prefix_append _ _
    | with_reducible refine Closed.foldl _ _ _ (fun _ _ _ => ?_) ?_
    | split
    | with_reducible refine hP.build _ ?_ ?_ ?_ ?_

theorem keep_beginSend (hP : Closed byRaise P) (a : ℕ) (s : State) (hs : P s) :
    P (beginSend a s) := by
  unfold beginSend
  repeat' first
    | with_reducible assumption
    | with_reducible refine keep_State_setLinkQ hP _ _ _ ?_
    | with_reducible refine Closed.foldl _ _ _ (fun _ _ _ => ?_) ?_
    | split

theorem keep_blendEnd (hP : Closed byRaise P) (a : ℕ) (s : State) (hs : P s) :
    P (blendEnd a s) := by
  unfold blendEnd
  repeat' first
    | with_reducible assumption
    | with_reducible refine hP.set _ SRV_STS_BLEND _ _ in_SRV_STS_BLEND ?_
    | with_reducible refine Closed.foldl _ _ _ (fun _ _ _ => ?_) ?_
    | split

theorem keep_brakeDuty (hP : Closed byRaise P) (r : ShuntReading) (vbus : ℕ) (s : State) (hs : P s) :
    P (brakeDuty r vbus s) := by
  unfold brakeDuty
  repeat' first
    | with_reducible assumption
    | with_reducible refine hP.set _ SPN_BRAKED _ _ in_SPN_BRAKED ?_
    | with_reducible refine hP.used _ ?_
    | (extract_lets +onlyGivenNames t; refine (fun (_ : P t) => ?_) ?_; (on_goal 2 => (dsimp -zeta only [t]; clear t)); (on_goal 1 => (clear_value t; rename' t => w)))
    | (extract_lets +onlyGivenNames t; refine (fun (_ : P t.1) => ?_) ?_; (on_goal 2 => (dsimp -zeta only [t]; clear t)); (on_goal 1 => (clear_value t; rename' t => w)))
    | (extract_lets +onlyGivenNames t; clear_value t; rename' t => w)
    | with_reducible refine Closed.foldl _ _ _ (fun _ _ _ => ?_) ?_
    | split

theorem keep_calWatch (hP : Closed byRaise P) (s : State) (hs : P s) :
    P (calWatch s) := by
  unfold calWatch
  repeat' first
    | with_reducible assumption
    | with_reducible refine hP.set _ SPN_CALRUN _ _ in_SPN_CALRUN ?_
    | with_reducible refine Closed.foldl _ _ _ (fun _ _ _ => ?_) ?_
    | split

theorem keep_captureWords (hP : Closed byRaise P) (r : RegDesc) (i : ℕ) (off : ℕ) (s : State) (hs : P s) :
    P (captureWords r i off s) := by
  unfold captureWords
  repeat' first
    | with_reducible assumption
    | with_reducible rfl
    | with_reducible exact List.prefix_rfl
    | with_reducible exact le_rfl
    | with_reducible exact fun h => h
    | exact fun h => Memory.wf_writeList _ _ h
    | exact Nat.le_add_right _ _
    | with_reducible exact List.prefix_append _ _
    | with_reducible refine Closed.foldl _ _ _ (fun _ _ _ => ?_) ?_
    | split
    | with_reducible refine hP.build _ ?_ ?_ ?_ ?_

theorem keep_keepAngle (hP : Closed byRaise P) (f : State → State) (s : State) (hf : ∀ y0, P y0 → P (f y0)) (hs : P s) :
    P (keepAngle f s) := by
  unfold keepAngle
  repeat' first
    | with_reducible assumption
    | refine hf _ ?_
    | with_reducible refine hP.setI _ SPN_COMDIF _ _ in_SPN_COMDIF ?_
    | (extract_lets +onlyGivenNames t; refine (fun (_ : P t) => ?_) ?_; (on_goal 2 => (dsimp -zeta only [t]; clear t)); (on_goal 1 => (clear_value t; rename' t => w)))
    | (extract_lets +onlyGivenNames t; refine (fun (_ : P t.1) => ?_) ?_; (on_goal 2 => (dsimp -zeta only [t]; clear t)); (on_goal 1 => (clear_value t; rename' t => w)))
    | (extract_lets +onlyGivenNames t; clear_value t; rename' t => w)
    | with_reducible refine Closed.foldl _ _ _ (fun _ _ _ => ?_) ?_
    | split

theorem keep_clearEvent (hP : Closed byRaise P) (lid : ℕ) (s : State) (hs : P s) :
    P (clearEvent lid s) := by
  unfold clearEvent
  repeat' first
    | with_reducible assumption
    | with_reducible refine keep_deliverEvents hP _ _ _ ?_
    | (extract_lets +onlyGivenNames t; refine (fun (_ : P t) => ?_) ?_; (on_goal 2 => (dsimp -zeta only [t]; clear t)); (on_goal 1 => (clear_value t; rename' t => w)))
    | (extract_lets +onlyGivenNames t; refine (fun (_ : P t.1) => ?_) ?_; (on_goal 2 => (dsimp -zeta only [t]; clear t)); (on_goal 1 => (clear_value t; rename' t => w)))
    | (extract_lets +onlyGivenNames t; clear_value t; rename' t => w)
    | with_reducible rfl
    | with_reducible exact List.prefix_rfl
    | with_reducible exact le_rfl
    | with_reducible exact fun h => h
    | exact fun h => Memory.wf_writeList _ _ h
    | exact Nat.le_add_right _ _
    | with_reducible exact List.prefix_append _ _
    | with_reducible refine Closed.foldl _ _ _ (fun _ _ _ => ?_) ?_
    | split
    | with_reducible refine hP.build _ ?_ ?_ ?_ ?_

theorem keep_clockLost (hP : Closed byRaise P) (pcie : Bool) (s : State) (hs : P s) :
    P (clockLost pcie s) := by
  unfold clockLost
  repeat' first
    | with_reducible assumption
    | with_reducible refine keep_raise hP _ _ _ ?_
    | with_reducible refine Closed.foldl _ _ _ (fun _ _ _ => ?_) ?_
    | split

theorem keep_clockReturn (hP : Closed byRaise P) (pcie : Bool) (s : State) (hs : P s) :
    P (clockReturn pcie s) := by
  unfold clockReturn
  repeat' first
    | with_reducible assumption
    | with_reducible refine keep_lower hP _ _ _ ?_
    | with_reducible refine Closed.foldl _ _ _ (fun _ _ _ => ?_) ?_
    | split

theorem keep_cmpAction (hP : Closed byRaise P) (n : ℕ) (s : State) (hs : P s) :
    P (cmpAction n s) := by
  unfold cmpAction
  repeat' first
    | with_reducible assumption
    | with_reducible refine hP.emit _ _ ?_
    | with_reducible refine keep_settleTrace hP _ _ ?_
    | with_reducible refine keep_silTriggerAll hP _ _ _ ?_
    | with_reducible refine keep_trigger hP _ _ _ _ _ ?_
    | with_reducible refine Closed.foldl _ _ _ (fun _ _ _ => ?_) ?_
    | split

theorem keep_commitIrqs (hP : Closed byRaise P) (l : List (ℕ × ℕ)) (s : State) (hs : P s) :
    P (commitIrqs l s) := by
  unfold commitIrqs
  repeat' first
    | with_reducible assumption
    | with_reducible refine hP.emit _ _ ?_
    | with_reducible refine Closed.forAll _ _ _ (fun _ _ _ => ?_) ?_
    | with_reducible refine Closed.foldl _ _ _ (fun _ _ _ => ?_) ?_
    | split

theorem keep_emitPieces (hP : Closed byRaise P) (a : List ℕ) (a1 : List (BitVec 8)) (a2 : State) (ha2 : P a2) :
    P (emitPieces a a1 a2) := by
  induction a generalizing a1 a2 with
  | nil =>
    unfold emitPieces
    repeat' first
      | with_reducible assumption
      | with_reducible refine hP.emit _ _ ?_
      | with_reducible refine Closed.foldl _ _ _ (fun _ _ _ => ?_) ?_
      | split
  | cons e t ih =>
    unfold emitPieces
    repeat' first
      | with_reducible assumption
      | with_reducible refine ih _ _ ?_
      | with_reducible refine hP.emit _ _ ?_
      | with_reducible refine Closed.foldl _ _ _ (fun _ _ _ => ?_) ?_
      | split

theorem keep_completeRead (hP : Closed byRaise P) (off : ℕ) (d : List (BitVec 8)) (s : State) (hs : P s) :
    P (completeRead off d s) := by
  unfold completeRead
  repeat' first
    | with_reducible assumption
    | with_reducible refine keep_emitPieces hP _ _ _ ?_
    | with_reducible refine Closed.foldl _ _ _ (fun _ _ _ => ?_) ?_
    | split

theorem keep_loseToFreeze (hP : Closed byRaise P) (u : TagUse) (s : State) (hs : P s) :
    P (loseToFreeze u s) := by
  unfold loseToFreeze
  repeat' first
    | with_reducible assumption
    | with_reducible rfl
    | with_reducible exact List.prefix_rfl
    | with_reducible exact le_rfl
    | with_reducible exact fun h => h
    | exact fun h => Memory.wf_writeList _ _ h
    | exact Nat.le_add_right _ _
    | with_reducible exact List.prefix_append _ _
    | with_reducible refine Closed.foldl _ _ _ (fun _ _ _ => ?_) ?_
    | split
    | with_reducible refine hP.build _ ?_ ?_ ?_ ?_

theorem keep_poisonedTlp (hP : Closed byRaise P) (s : State) (hs : P s) :
    P (poisonedTlp s) := by
  unfold poisonedTlp
  repeat' first
    | with_reducible assumption
    | with_reducible refine keep_aerUncorrectable hP _ _ _ ?_
    | with_reducible refine keep_pulse hP _ _ _ ?_
    | with_reducible refine Closed.foldl _ _ _ (fun _ _ _ => ?_) ?_
    | split

theorem keep_unsupported (hP : Closed byRaise P) (s : State) (hs : P s) :
    P (unsupported s) := by
  unfold unsupported
  repeat' first
    | with_reducible assumption
    | with_reducible refine keep_aerUncorrectable hP _ _ _ ?_
    | with_reducible refine Closed.foldl _ _ _ (fun _ _ _ => ?_) ?_
    | split

theorem keep_fmtStoreWrite (hP : Closed byRaise P) (s : State) (hs : P s) :
    P (fmtStoreWrite s) := by
  unfold fmtStoreWrite
  repeat' first
    | with_reducible assumption
    | with_reducible refine keep_pulse hP _ _ _ ?_
    | with_reducible refine Closed.foldl _ _ _ (fun _ _ _ => ?_) ?_
    | split

theorem keep_currentSenseFault (hP : Closed byRaise P) (s : State) (hs : P s) :
    P (currentSenseFault s) := by
  unfold currentSenseFault
  repeat' first
    | with_reducible assumption
    | with_reducible refine hP.set _ SPN_INVN _ _ in_SPN_INVN ?_
    | with_reducible refine keep_pulse hP _ _ _ ?_
    | with_reducible refine keep_senseLost hP _ ?_
    | with_reducible refine keep_withFollow hP _ ?_
    | with_reducible refine Closed.foldl _ _ _ (fun _ _ _ => ?_) ?_
    | split

theorem keep_replaceLists (hP : Closed byRaise P) (x : ℕ) (d : Descriptor) (s : State) (hs : P s) :
    P (replaceLists x d s) := by
  unfold replaceLists
  repeat' first
    | with_reducible assumption
    | with_reducible rfl
    | with_reducible exact List.prefix_rfl
    | with_reducible exact le_rfl
    | with_reducible exact fun h => h
    | exact fun h => Memory.wf_writeList _ _ h
    | exact Nat.le_add_right _ _
    | with_reducible exact List.prefix_append _ _
    | with_reducible refine Closed.foldl _ _ _ (fun _ _ _ => ?_) ?_
    | split
    | with_reducible refine hP.build _ ?_ ?_ ?_ ?_

theorem keep_dropLive (hP : Closed byRaise P) (s : State) (hs : P s) :
    P (dropLive s) := by
  unfold dropLive
  repeat' first
    | with_reducible assumption
    | with_reducible refine keep_deassertSource hP _ _ _ ?_
    | with_reducible refine Closed.foldl _ _ _ (fun _ _ _ => ?_) ?_
    | split

theorem keep_drydownTimeout (hP : Closed byRaise P) (s : State) (hs : P s) :
    P (drydownTimeout s) := by
  unfold drydownTimeout
  repeat' first
    | with_reducible assumption
    | with_reducible refine keep_drydownRequest hP _ ?_
    | with_reducible refine keep_withFollow hP _ ?_
    | with_reducible refine Closed.foldl _ _ _ (fun _ _ _ => ?_) ?_
    | split

theorem keep_startQueued (hP : Closed byRaise P) (d : Dump) (s : State) (hs : P s) :
    P (startQueued d s) := by
  unfold startQueued
  repeat' first
    | with_reducible assumption
    | with_reducible refine keep_startDump hP _ _ _ ?_
    | with_reducible refine keep_withFollow hP _ ?_
    | with_reducible refine Closed.foldl _ _ _ (fun _ _ _ => ?_) ?_
    | split

theorem keep_lookReg (hP : Closed byRaise P) (off : ℕ) (s : State) (hs : P s) :
    P (lookReg off s) := by
  unfold lookReg
  repeat' first
    | with_reducible assumption
    | with_reducible refine hP.ret _ _ ?_
    | with_reducible refine hP.used _ ?_
    | with_reducible refine Closed.foldl _ _ _ (fun _ _ _ => ?_) ?_
    | split

theorem keep_stampLoRead (hP : Closed byRaise P) (s : State) (hs : P s) :
    P (stampLoRead s) := by
  unfold stampLoRead
  repeat' first
    | with_reducible assumption
    | with_reducible rfl
    | with_reducible exact List.prefix_rfl
    | with_reducible exact le_rfl
    | with_reducible exact fun h => h
    | exact fun h => Memory.wf_writeList _ _ h
    | exact Nat.le_add_right _ _
    | with_reducible exact List.prefix_append _ _
    | with_reducible refine Closed.foldl _ _ _ (fun _ _ _ => ?_) ?_
    | split
    | with_reducible refine hP.build _ ?_ ?_ ?_ ?_

theorem keep_safeExit (hP : Closed byRaise P) (s : State) (hs : P s) :
    P (safeExit s) := by
  unfold safeExit
  repeat' first
    | with_reducible assumption
    | with_reducible refine hP.setBit _ SRV_RET_STS_ENGAGED _ _ _ in_SRV_RET_STS_ENGAGED ?_
    | with_reducible refine Closed.forBelow _ _ _ (fun _ _ _ => ?_) ?_
    | with_reducible refine Closed.foldl _ _ _ (fun _ _ _ => ?_) ?_
    | split

theorem keep_leaveSafe (hP : Closed byRaise P) (n : ℕ) (s : State) (hs : P s) :
    P (leaveSafe n s) := by
  unfold leaveSafe
  repeat' first
    | with_reducible assumption
    | with_reducible refine keep_State_enterSource hP _ _ _ _ ?_
    | with_reducible refine hP.set _ FLT_SAFE_ACTIVE _ _ in_FLT_SAFE_ACTIVE ?_
    | with_reducible refine keep_safeExit hP _ ?_
    | with_reducible refine Closed.foldl _ _ _ (fun _ _ _ => ?_) ?_
    | split

theorem keep_firstCaptureRearm (hP : Closed byRaise P) (s : State) (hs : P s) :
    P (firstCaptureRearm s) := by
  unfold firstCaptureRearm
  repeat' first
    | with_reducible assumption
    | with_reducible refine hP.set _ FLT_FIRST_VALID _ _ in_FLT_FIRST_VALID ?_
    | with_reducible refine Closed.foldl _ _ _ (fun _ _ _ => ?_) ?_
    | split

theorem keep_flagSources (hP : Closed byRaise P) (a : ℕ) (p : ℕ) (old : ℕ) (new : ℕ) (s : State) (hs : P s) :
    P (flagSources a p old new s) := by
  unfold flagSources
  repeat' first
    | with_reducible assumption
    | with_reducible refine Closed.forBelow _ _ _ (fun _ _ _ => ?_) ?_
    | with_reducible refine keep_lower hP _ _ _ ?_
    | with_reducible refine keep_raise hP _ _ _ ?_
    | with_reducible refine Closed.foldl _ _ _ (fun _ _ _ => ?_) ?_
    | split

theorem keep_unplace (hP : Closed byRaise P) (x : ℕ) (b : ℕ) (i : ℕ) (s : State) (hs : P s) :
    P (unplace x b i s) := by
  unfold unplace
  repeat' first
    | with_reducible assumption
    | with_reducible rfl
    | with_reducible exact List.prefix_rfl
    | with_reducible exact le_rfl
    | with_reducible exact fun h => h
    | exact fun h => Memory.wf_writeList _ _ h
    | exact Nat.le_add_right _ _
    | with_reducible exact List.prefix_append _ _
    | with_reducible refine Closed.foldl _ _ _ (fun _ _ _ => ?_) ?_
    | split
    | with_reducible refine hP.build _ ?_ ?_ ?_ ?_

theorem keep_releaseFront (hP : Closed byRaise P) (z : ℕ) (r : ℕ) (pos : ℕ) (s : State) (hs : P s) :
    P (releaseFront z r pos s) := by
  unfold releaseFront
  repeat' first
    | with_reducible assumption
    | (extract_lets +onlyGivenNames t; refine (fun (_ : P t) => ?_) ?_; (on_goal 2 => (dsimp -zeta only [t]; clear t)); (on_goal 1 => (clear_value t; rename' t => w)))
    | (extract_lets +onlyGivenNames t; refine (fun (_ : P t.1) => ?_) ?_; (on_goal 2 => (dsimp -zeta only [t]; clear t)); (on_goal 1 => (clear_value t; rename' t => w)))
    | (extract_lets +onlyGivenNames t; clear_value t; rename' t => w)
    | with_reducible rfl
    | with_reducible exact List.prefix_rfl
    | with_reducible exact le_rfl
    | with_reducible exact fun h => h
    | exact fun h => Memory.wf_writeList _ _ h
    | exact Nat.le_add_right _ _
    | with_reducible exact List.prefix_append _ _
    | with_reducible refine Closed.foldl _ _ _ (fun _ _ _ => ?_) ?_
    | split
    | with_reducible refine hP.build _ ?_ ?_ ?_ ?_

theorem keep_hlkWenWrite (hP : Closed byRaise P) (a : ℕ) (m : ℕ) (s : State) (hs : P s) :
    P (hlkWenWrite a m s) := by
  unfold hlkWenWrite
  repeat' first
    | with_reducible assumption
    | with_reducible refine keep_setWen hP _ _ _ ?_
    | with_reducible refine Closed.foldl _ _ _ (fun _ _ _ => ?_) ?_
    | split

theorem keep_writeBody (hP : Closed byRaise P) (bank : ℕ) (img : Image) (s : State) (hs : P s) :
    P (writeBody bank img s) := by
  unfold writeBody
  repeat' first
    | with_reducible assumption
    | (extract_lets +onlyGivenNames t; refine (fun (_ : P t) => ?_) ?_; (on_goal 2 => (dsimp -zeta only [t]; clear t)); (on_goal 1 => (clear_value t; rename' t => w)))
    | (extract_lets +onlyGivenNames t; refine (fun (_ : P t.1) => ?_) ?_; (on_goal 2 => (dsimp -zeta only [t]; clear t)); (on_goal 1 => (clear_value t; rename' t => w)))
    | (extract_lets +onlyGivenNames t; clear_value t; rename' t => w)
    | with_reducible rfl
    | with_reducible exact List.prefix_rfl
    | with_reducible exact le_rfl
    | with_reducible exact fun h => h
    | exact fun h => Memory.wf_writeList _ _ h
    | exact Nat.le_add_right _ _
    | with_reducible exact List.prefix_append _ _
    | with_reducible refine Closed.foldl _ _ _ (fun _ _ _ => ?_) ?_
    | split
    | with_reducible refine hP.build _ ?_ ?_ ?_ ?_

theorem keep_loadTick (hP : Closed byRaise P) (n : ℕ) (s : State) (hs : P s) :
    P (loadTick n s) := by
  unfold loadTick
  repeat' first
    | with_reducible assumption
    | with_reducible refine hP.setI _ ANG_SRCOFS _ _ in_ANG_SRCOFS ?_
    | with_reducible refine keep_approach hP _ _ ?_
    | (extract_lets +onlyGivenNames t; refine (fun (_ : P t) => ?_) ?_; (on_goal 2 => (dsimp -zeta only [t]; clear t)); (on_goal 1 => (clear_value t; rename' t => w)))
    | (extract_lets +onlyGivenNames t; refine (fun (_ : P t.1) => ?_) ?_; (on_goal 2 => (dsimp -zeta only [t]; clear t)); (on_goal 1 => (clear_value t; rename' t => w)))
    | (extract_lets +onlyGivenNames t; clear_value t; rename' t => w)
    | with_reducible refine Closed.foldl _ _ _ (fun _ _ _ => ?_) ?_
    | split

theorem keep_putCopies (hP : Closed byRaise P) (f : RecordFail) (r : AcdImage) (s : State) (hs : P s) :
    P (putCopies f r s) := by
  unfold putCopies
  repeat' first
    | with_reducible assumption
    | (extract_lets +onlyGivenNames t; refine (fun (_ : P t) => ?_) ?_; (on_goal 2 => (dsimp -zeta only [t]; clear t)); (on_goal 1 => (clear_value t; rename' t => w)))
    | (extract_lets +onlyGivenNames t; refine (fun (_ : P t.1) => ?_) ?_; (on_goal 2 => (dsimp -zeta only [t]; clear t)); (on_goal 1 => (clear_value t; rename' t => w)))
    | (extract_lets +onlyGivenNames t; clear_value t; rename' t => w)
    | with_reducible rfl
    | with_reducible exact List.prefix_rfl
    | with_reducible exact le_rfl
    | with_reducible exact fun h => h
    | exact fun h => Memory.wf_writeList _ _ h
    | exact Nat.le_add_right _ _
    | with_reducible exact List.prefix_append _ _
    | with_reducible refine Closed.foldl _ _ _ (fun _ _ _ => ?_) ?_
    | split
    | with_reducible refine hP.build _ ?_ ?_ ?_ ?_

theorem keep_recordFailed (hP : Closed byRaise P) (f : RecordFail) (s : State) (hs : P s) :
    P (recordFailed f s) := by
  unfold recordFailed
  repeat' first
    | with_reducible assumption
    | with_reducible refine hP.set _ ACD_JREQ _ _ in_ACD_JREQ ?_
    | with_reducible refine keep_pulse hP _ _ _ ?_
    | (extract_lets +onlyGivenNames t; refine (fun (_ : P t) => ?_) ?_; (on_goal 2 => (dsimp -zeta only [t]; clear t)); (on_goal 1 => (clear_value t; rename' t => w)))
    | (extract_lets +onlyGivenNames t; refine (fun (_ : P t.1) => ?_) ?_; (on_goal 2 => (dsimp -zeta only [t]; clear t)); (on_goal 1 => (clear_value t; rename' t => w)))
    | (extract_lets +onlyGivenNames t; clear_value t; rename' t => w)
    | with_reducible refine Closed.foldl _ _ _ (fun _ _ _ => ?_) ?_
    | split

theorem keep_linkDownRetract (hP : Closed byRaise P) (a : ℕ) (s : State) (hs : P s) :
    P (linkDownRetract a s) := by
  unfold linkDownRetract
  repeat' first
    | with_reducible assumption
    | with_reducible refine keep_retract hP _ _ ?_
    | with_reducible refine keep_withFollow hP _ ?_
    | with_reducible refine Closed.foldl _ _ _ (fun _ _ _ => ?_) ?_
    | split

theorem keep_loadWatch (hP : Closed byRaise P) (s : State) (hs : P s) :
    P (loadWatch s) := by
  unfold loadWatch
  repeat' first
    | with_reducible assumption
    | with_reducible refine hP.set _ SPN_STATE_LOADOK _ _ in_SPN_STATE_LOADOK ?_
    | with_reducible refine Closed.foldl _ _ _ (fun _ _ _ => ?_) ?_
    | split

theorem keep_loadokSet (hP : Closed byRaise P) (s : State) (hs : P s) :
    P (loadokSet s) := by
  unfold loadokSet
  repeat' first
    | with_reducible assumption
    | with_reducible refine hP.set _ SPN_STATE_LOADOK _ _ in_SPN_STATE_LOADOK ?_
    | with_reducible refine Closed.foldl _ _ _ (fun _ _ _ => ?_) ?_
    | split

theorem keep_lowSpeedDrydown (hP : Closed byRaise P) (s : State) (hs : P s) :
    P (lowSpeedDrydown s) := by
  unfold lowSpeedDrydown
  repeat' first
    | with_reducible assumption
    | with_reducible refine keep_urgentDrydown hP _ _ ?_
    | with_reducible refine keep_withFollow hP _ ?_
    | with_reducible refine Closed.foldl _ _ _ (fun _ _ _ => ?_) ?_
    | split

theorem keep_setAcc (hP : Closed byRaise P) (c : ℕ) (n : ℕ) (v : ℤ) (s : State) (hs : P s) :
    P (setAcc c n v s) := by
  unfold setAcc
  repeat' first
    | with_reducible assumption
    | with_reducible refine hP.setI _ CTX_ACC _ _ in_CTX_ACC ?_
    | with_reducible refine Closed.foldl _ _ _ (fun _ _ _ => ?_) ?_
    | split

theorem keep_setFlags (hP : Closed byRaise P) (c : ℕ) (v : ℤ) (s : State) (hs : P s) :
    P (setFlags c v s) := by
  unfold setFlags
  repeat' first
    | with_reducible assumption
    | with_reducible refine hP.setMany _ _ _ (by simp only [List.all_cons, List.all_nil, Bool.and_true, Bool.and_self, in_CTX_N, in_CTX_V, in_CTX_Z]) ?_
    | with_reducible refine Closed.foldl _ _ _ (fun _ _ _ => ?_) ?_
    | split

theorem keep_refuseRead (hP : Closed byRaise P) (s : State) (hs : P s) :
    P (refuseRead s) := by
  unfold refuseRead
  repeat' first
    | with_reducible assumption
    | with_reducible refine hP.emit _ _ ?_
    | with_reducible refine keep_unsupported hP _ ?_
    | with_reducible refine Closed.foldl _ _ _ (fun _ _ _ => ?_) ?_
    | split

theorem keep_messageReceived (hP : Closed byRaise P) (m : Msg) (s : State) (hs : P s) :
    P (messageReceived m s) := by
  unfold messageReceived
  repeat' first
    | with_reducible assumption
    | with_reducible refine keep_unsupported hP _ ?_
    | with_reducible refine Closed.foldl _ _ _ (fun _ _ _ => ?_) ?_
    | split

theorem keep_microSaturation (hP : Closed byRaise P) (h_0 : ℕ) (s : State) (hs : P s) :
    P (microSaturation h_0 s) := by
  unfold microSaturation
  repeat' first
    | with_reducible assumption
    | with_reducible refine hP.set _ SRV_SATN _ _ in_SRV_SATN ?_
    | with_reducible refine keep_pulse hP _ _ _ ?_
    | with_reducible refine Closed.foldl _ _ _ (fun _ _ _ => ?_) ?_
    | split

theorem keep_modulate (hP : Closed byRaise P) (vbus : ℕ) (s : State) (hs : P s) :
    P (modulate vbus s) := by
  unfold modulate
  repeat' first
    | with_reducible assumption
    | with_reducible refine hP.set _ SPN_GATE _ _ in_SPN_GATE ?_
    | with_reducible refine hP.set _ SPN_ON _ _ in_SPN_ON ?_
    | with_reducible refine hP.setI _ SPN_CARRY _ _ in_SPN_CARRY ?_
    | with_reducible refine Closed.forBelow _ _ _ (fun _ _ _ => ?_) ?_
    | (extract_lets +onlyGivenNames t; refine (fun (_ : P t) => ?_) ?_; (on_goal 2 => (dsimp -zeta only [t]; clear t)); (on_goal 1 => (clear_value t; rename' t => w)))
    | (extract_lets +onlyGivenNames t; refine (fun (_ : P t.1) => ?_) ?_; (on_goal 2 => (dsimp -zeta only [t]; clear t)); (on_goal 1 => (clear_value t; rename' t => w)))
    | (extract_lets +onlyGivenNames t; clear_value t; rename' t => w)
    | with_reducible refine Closed.foldl _ _ _ (fun _ _ _ => ?_) ?_
    | split

theorem keep_observerLock (hP : Closed byRaise P) (s : State) (hs : P s) :
    P (observerLock s) := by
  unfold observerLock
  repeat' first
    | with_reducible assumption
    | with_reducible refine hP.set _ SPN_STATE_OBSLOCK _ _ in_SPN_STATE_OBSLOCK ?_
    | with_reducible refine Closed.foldl _ _ _ (fun _ _ _ => ?_) ?_
    | split

theorem keep_onAngle (hP : Closed byRaise P) (f : State → State) (s : State) (hf : ∀ y0, P y0 → P (f y0)) (hs : P s) :
    P (onAngle f s) := by
  unfold onAngle
  repeat' first
    | with_reducible assumption
    | refine hf _ ?_
    | with_reducible refine Closed.foldl _ _ _ (fun _ _ _ => ?_) ?_
    | split

theorem keep_onAon (hP : Closed byRaise P) (f : State → State) (s : State) (hf : ∀ y0, P y0 → P (f y0)) (hs : P s) :
    P (onAon f s) := by
  unfold onAon
  repeat' first
    | with_reducible assumption
    | refine hf _ ?_
    | with_reducible refine Closed.foldl _ _ _ (fun _ _ _ => ?_) ?_
    | split

theorem keep_onBlock (hP : Closed byRaise P) (blk : ℕ) (f : State → State) (s : State) (hf : ∀ y0, P y0 → P (f y0)) (hs : P s) :
    P (onBlock blk f s) := by
  unfold onBlock
  repeat' first
    | with_reducible assumption
    | refine hf _ ?_
    | with_reducible refine Closed.foldl _ _ _ (fun _ _ _ => ?_) ?_
    | split

theorem keep_onDrive (hP : Closed byRaise P) (f : State → State) (s : State) (hf : ∀ y0, P y0 → P (f y0)) (hs : P s) :
    P (onDrive f s) := by
  unfold onDrive
  repeat' first
    | with_reducible assumption
    | refine hf _ ?_
    | with_reducible refine Closed.foldl _ _ _ (fun _ _ _ => ?_) ?_
    | split

theorem keep_openPhase (hP : Closed byRaise P) (s : State) (hs : P s) :
    P (openPhase s) := by
  unfold openPhase
  repeat' first
    | with_reducible assumption
    | with_reducible refine keep_lockOut hP _ ?_
    | with_reducible refine keep_pulse hP _ _ _ ?_
    | with_reducible refine keep_withFollow hP _ ?_
    | with_reducible refine Closed.foldl _ _ _ (fun _ _ _ => ?_) ?_
    | split

theorem keep_overcurrentTest (hP : Closed byRaise P) (pass : Bool) (s : State) (hs : P s) :
    P (overcurrentTest pass s) := by
  unfold overcurrentTest
  repeat' first
    | with_reducible assumption
    | with_reducible refine hP.setMany _ _ _ (by simp only [List.all_cons, List.all_nil, Bool.and_true, Bool.and_self, in_SPN_OCFAIL, in_SPN_OCWAIT]) ?_
    | with_reducible refine keep_lockOut hP _ ?_
    | with_reducible refine keep_parkedEnd hP _ ?_
    | with_reducible refine keep_spnGo hP _ _ _ ?_
    | with_reducible refine keep_withFollow hP _ ?_
    | (extract_lets +onlyGivenNames t; refine (fun (_ : P t) => ?_) ?_; (on_goal 2 => (dsimp -zeta only [t]; clear t)); (on_goal 1 => (clear_value t; rename' t => w)))
    | (extract_lets +onlyGivenNames t; refine (fun (_ : P t.1) => ?_) ?_; (on_goal 2 => (dsimp -zeta only [t]; clear t)); (on_goal 1 => (clear_value t; rename' t => w)))
    | (extract_lets +onlyGivenNames t; clear_value t; rename' t => w)
    | with_reducible refine Closed.foldl _ _ _ (fun _ _ _ => ?_) ?_
    | split

theorem keep_phaseShortGround (hP : Closed byRaise P) (s : State) (hs : P s) :
    P (phaseShortGround s) := by
  unfold phaseShortGround
  repeat' first
    | with_reducible assumption
    | with_reducible refine keep_lockOut hP _ ?_
    | with_reducible refine keep_pulse hP _ _ _ ?_
    | with_reducible refine keep_withFollow hP _ ?_
    | with_reducible refine Closed.foldl _ _ _ (fun _ _ _ => ?_) ?_
    | split

theorem keep_pilotHandover (hP : Closed byRaise P) (s : State) (hs : P s) :
    P (pilotHandover s) := by
  unfold pilotHandover
  repeat' first
    | with_reducible assumption
    | with_reducible refine hP.setMany _ _ _ (by simp only [List.all_cons, List.all_nil, Bool.and_true, Bool.and_self, in_SPN_ONPILOT, in_SPN_SLEWING]) ?_
    | with_reducible refine keep_keepAngle hP _ _ (fun _ _ => ?_) ?_
    | with_reducible refine keep_spnGo hP _ _ _ ?_
    | (extract_lets +onlyGivenNames t; refine (fun (_ : P t) => ?_) ?_; (on_goal 2 => (dsimp -zeta only [t]; clear t)); (on_goal 1 => (clear_value t; rename' t => w)))
    | (extract_lets +onlyGivenNames t; refine (fun (_ : P t.1) => ?_) ?_; (on_goal 2 => (dsimp -zeta only [t]; clear t)); (on_goal 1 => (clear_value t; rename' t => w)))
    | (extract_lets +onlyGivenNames t; clear_value t; rename' t => w)
    | with_reducible refine Closed.foldl _ _ _ (fun _ _ _ => ?_) ?_
    | split

theorem keep_tokensWanted (hP : Closed byRaise P) (s : State) (hs : P s) :
    P (tokensWanted s).2 := by
  unfold tokensWanted
  repeat' first
    | with_reducible assumption
    | with_reducible refine hP.used _ ?_
    | with_reducible refine Closed.foldl _ _ _ (fun _ _ _ => ?_) ?_
    | split

theorem keep_powerLoss (hP : Closed byRaise P) (s : State) (hs : P s) :
    P (powerLoss s) := by
  unfold powerLoss
  repeat' first
    | with_reducible assumption
    | with_reducible refine keep_State_marker hP _ _ ?_
    | with_reducible refine hP.set _ SPN_STATE_LASTGASP _ _ in_SPN_STATE_LASTGASP ?_
    | with_reducible refine keep_chain _ _ ?_ ?_
    | with_reducible refine List.forall_mem_cons.2 ⟨fun _ _ => ?_, ?_⟩
    | exact List.forall_mem_nil _
    | with_reducible refine List.forall_mem_map.2 (fun _ _ _ _ => ?_)
    | dsimp only
    | with_reducible refine keep_dumpTrigger hP _ _ ?_
    | with_reducible refine keep_raise hP _ _ _ ?_
    | with_reducible refine keep_spindleSafe hP _ _ ?_
    | with_reducible refine keep_withFollow hP _ ?_
    | (extract_lets +onlyGivenNames t; refine (fun (_ : P t) => ?_) ?_; (on_goal 2 => (dsimp -zeta only [t]; clear t)); (on_goal 1 => (clear_value t; rename' t => w)))
    | (extract_lets +onlyGivenNames t; refine (fun (_ : P t.1) => ?_) ?_; (on_goal 2 => (dsimp -zeta only [t]; clear t)); (on_goal 1 => (clear_value t; rename' t => w)))
    | (extract_lets +onlyGivenNames t; clear_value t; rename' t => w)
    | with_reducible refine Closed.foldl _ _ _ (fun _ _ _ => ?_) ?_
    | split

theorem keep_regenStep (hP : Closed byRaise P) (vbus : ℕ) (s : State) (hs : P s) :
    P (regenStep vbus s) := by
  unfold regenStep
  repeat' first
    | with_reducible assumption
    | with_reducible refine hP.setI _ SPN_IQDEM _ _ in_SPN_IQDEM ?_
    | with_reducible refine hP.used _ ?_
    | (extract_lets +onlyGivenNames t; refine (fun (_ : P t) => ?_) ?_; (on_goal 2 => (dsimp -zeta only [t]; clear t)); (on_goal 1 => (clear_value t; rename' t => w)))
    | (extract_lets +onlyGivenNames t; refine (fun (_ : P t.1) => ?_) ?_; (on_goal 2 => (dsimp -zeta only [t]; clear t)); (on_goal 1 => (clear_value t; rename' t => w)))
    | (extract_lets +onlyGivenNames t; clear_value t; rename' t => w)
    | with_reducible refine Closed.foldl _ _ _ (fun _ _ _ => ?_) ?_
    | split

theorem keep_slewAngle (hP : Closed byRaise P) (s : State) (hs : P s) :
    P (slewAngle s) := by
  unfold slewAngle
  repeat' first
    | with_reducible assumption
    | with_reducible refine hP.set _ SPN_SLEWING _ _ in_SPN_SLEWING ?_
    | with_reducible refine hP.setI _ SPN_COMDIF _ _ in_SPN_COMDIF ?_
    | with_reducible refine keep_spnGo hP _ _ _ ?_
    | (extract_lets +onlyGivenNames t; refine (fun (_ : P t) => ?_) ?_; (on_goal 2 => (dsimp -zeta only [t]; clear t)); (on_goal 1 => (clear_value t; rename' t => w)))
    | (extract_lets +onlyGivenNames t; refine (fun (_ : P t.1) => ?_) ?_; (on_goal 2 => (dsimp -zeta only [t]; clear t)); (on_goal 1 => (clear_value t; rename' t => w)))
    | (extract_lets +onlyGivenNames t; clear_value t; rename' t => w)
    | with_reducible refine Closed.foldl _ _ _ (fun _ _ _ => ?_) ?_
    | split

theorem keep_readOn (hP : Closed byRaise P) (blk : ℕ) (f : State → State) (s : State) (hf : ∀ y0, P y0 → P (f y0)) (hs : P s) :
    P (readOn blk f s) := by
  unfold readOn
  repeat' first
    | with_reducible assumption
    | refine hf _ ?_
    | with_reducible refine hP.ret _ _ ?_
    | with_reducible refine Closed.foldl _ _ _ (fun _ _ _ => ?_) ?_
    | split

theorem keep_regenEnd (hP : Closed byRaise P) (s : State) (hs : P s) :
    P (regenEnd s) := by
  unfold regenEnd
  repeat' first
    | with_reducible assumption
    | with_reducible refine keep_parkedEnd hP _ ?_
    | with_reducible refine keep_setBridge hP _ _ ?_
    | with_reducible refine Closed.foldl _ _ _ (fun _ _ _ => ?_) ?_
    | split

theorem keep_setTurn (hP : Closed byRaise P) (d : ℕ) (o : Option ℕ) (s : State) (hs : P s) :
    P (setTurn d o s) := by
  unfold setTurn
  repeat' first
    | with_reducible assumption
    | with_reducible rfl
    | with_reducible exact List.prefix_rfl
    | with_reducible exact le_rfl
    | with_reducible exact fun h => h
    | exact fun h => Memory.wf_writeList _ _ h
    | exact Nat.le_add_right _ _
    | with_reducible exact List.prefix_append _ _
    | with_reducible refine Closed.foldl _ _ _ (fun _ _ _ => ?_) ?_
    | split
    | with_reducible refine hP.build _ ?_ ?_ ?_ ?_

theorem keep_sillageDone (hP : Closed byRaise P) (u : ℕ) (s : State) (hs : P s) :
    P (sillageDone u s) := by
  unfold sillageDone
  repeat' first
    | with_reducible assumption
    | with_reducible refine hP.set _ LPE_SIL_STS_STATE _ _ in_LPE_SIL_STS_STATE ?_
    | with_reducible refine Closed.foldl _ _ _ (fun _ _ _ => ?_) ?_
    | split

theorem keep_speedFallback (hP : Closed byRaise P) (s : State) (hs : P s) :
    P (speedFallback s) := by
  unfold speedFallback
  repeat' first
    | with_reducible assumption
    | with_reducible refine hP.setMany _ _ _ (by simp only [List.all_cons, List.all_nil, Bool.and_true, Bool.and_self, in_SPN_DDKIND, in_SPN_STATE_LOADOK]) ?_
    | with_reducible refine keep_drydownRequest hP _ ?_
    | with_reducible refine keep_withFollow hP _ ?_
    | with_reducible refine Closed.foldl _ _ _ (fun _ _ _ => ?_) ?_
    | split

theorem keep_spindleStopped (hP : Closed byRaise P) (s : State) (hs : P s) :
    P (spindleStopped s) := by
  unfold spindleStopped
  repeat' first
    | with_reducible assumption
    | with_reducible refine hP.setMany _ _ _ (by simp only [List.all_cons, List.all_nil, Bool.and_true, Bool.and_self, in_SPN_OCFAIL, in_SPN_OCWAIT, in_SPN_STATE_DRYPEND, in_SPN_STATE_LASTGASP]) ?_
    | with_reducible refine keep_spnGo hP _ _ _ ?_
    | with_reducible refine Closed.foldl _ _ _ (fun _ _ _ => ?_) ?_
    | split

theorem keep_stagingError (hP : Closed byRaise P) (addr : ℕ) (s : State) (hs : P s) :
    P (stagingError addr s) := by
  unfold stagingError
  repeat' first
    | with_reducible assumption
    | (extract_lets +onlyGivenNames t; refine (fun (_ : P t) => ?_) ?_; (on_goal 2 => (dsimp -zeta only [t]; clear t)); (on_goal 1 => (clear_value t; rename' t => w)))
    | (extract_lets +onlyGivenNames t; refine (fun (_ : P t.1) => ?_) ?_; (on_goal 2 => (dsimp -zeta only [t]; clear t)); (on_goal 1 => (clear_value t; rename' t => w)))
    | (extract_lets +onlyGivenNames t; clear_value t; rename' t => w)
    | with_reducible rfl
    | with_reducible exact List.prefix_rfl
    | with_reducible exact le_rfl
    | with_reducible exact fun h => h
    | exact fun h => Memory.wf_writeList _ _ h
    | exact Nat.le_add_right _ _
    | with_reducible exact List.prefix_append _ _
    | with_reducible refine Closed.foldl _ _ _ (fun _ _ _ => ?_) ?_
    | split
    | with_reducible refine hP.build _ ?_ ?_ ?_ ?_

theorem keep_streamTurn (hP : Closed byRaise P) (d : ℕ) (s : State) (hs : P s) :
    P (streamTurn d s) := by
  unfold streamTurn
  repeat' first
    | with_reducible assumption
    | with_reducible refine keep_setTurn hP _ _ _ ?_
    | with_reducible refine Closed.foldl _ _ _ (fun _ _ _ => ?_) ?_
    | split

theorem keep_syncOutFault (hP : Closed byRaise P) (s : State) (hs : P s) :
    P (syncOutFault s) := by
  unfold syncOutFault
  repeat' first
    | with_reducible assumption
    | with_reducible refine keep_driveSync hP _ ?_
    | with_reducible refine keep_pulse hP _ _ _ ?_
    | with_reducible refine Closed.foldl _ _ _ (fun _ _ _ => ?_) ?_
    | split

theorem keep_upstreamSilence (hP : Closed byRaise P) (s : State) (hs : P s) :
    P (upstreamSilence s) := by
  unfold upstreamSilence
  repeat' first
    | with_reducible assumption
    | with_reducible refine keep_raise hP _ _ _ ?_
    | with_reducible refine Closed.foldl _ _ _ (fun _ _ _ => ?_) ?_
    | split

theorem keep_vcmLeadShort (hP : Closed byRaise P) (a : ℕ) (s : State) (hs : P s) :
    P (vcmLeadShort a s) := by
  unfold vcmLeadShort
  repeat' first
    | with_reducible assumption
    | with_reducible refine keep_pulse hP _ _ _ ?_
    | with_reducible refine keep_retractOut hP _ _ ?_
    | with_reducible refine keep_withFollow hP _ ?_
    | with_reducible refine Closed.foldl _ _ _ (fun _ _ _ => ?_) ?_
    | split

theorem keep_vcmPolarityRunaway (hP : Closed byRaise P) (a : ℕ) (s : State) (hs : P s) :
    P (vcmPolarityRunaway a s) := by
  unfold vcmPolarityRunaway
  repeat' first
    | with_reducible assumption
    | with_reducible refine keep_pulse hP _ _ _ ?_
    | with_reducible refine keep_retract hP _ _ ?_
    | with_reducible refine keep_withFollow hP _ ?_
    | with_reducible refine Closed.foldl _ _ _ (fun _ _ _ => ?_) ?_
    | split

theorem keep_vcmSensePair (hP : Closed byRaise P) (a : ℕ) (s : State) (hs : P s) :
    P (vcmSensePair a s) := by
  unfold vcmSensePair
  repeat' first
    | with_reducible assumption
    | with_reducible refine hP.set _ SRV_DRVEN _ _ in_SRV_DRVEN ?_
    | with_reducible refine keep_pulse hP _ _ _ ?_
    | with_reducible refine Closed.foldl _ _ _ (fun _ _ _ => ?_) ?_
    | split

theorem keep_watchdog (hP : Closed byRaise P) (m : ℕ) (s : State) (hs : P s) :
    P (watchdog m s) := by
  unfold watchdog
  repeat' first
    | with_reducible assumption
    | with_reducible refine keep_pulse hP _ _ _ ?_
    | with_reducible refine Closed.foldl _ _ _ (fun _ _ _ => ?_) ?_
    | split

theorem keep_wck2dqTracking (hP : Closed byRaise P) (s : State) (hs : P s) :
    P (wck2dqTracking s) := by
  unfold wck2dqTracking
  repeat' first
    | with_reducible assumption
    | with_reducible refine Closed.foldl _ _ _ (fun _ _ _ => ?_) ?_
    | split

end Sys2Proof.Machine
end

