-- ==== Sys2Proof/Laws/KeepSettle.lean ====
section
/-!
SUPPORT. Operations that settle the media path and the host side after a command, with the fields `settleFields` beside those of
raising: one lemma each.
-/

set_option linter.unreachableTactic false
set_option linter.unusedTactic false
set_option linter.tactic.unusedName false
set_option linter.unusedSimpArgs false
set_option linter.unusedVariables false

namespace Sys2Proof.Machine

set_option Elab.async false

variable {P : State → Prop} {T : Nat → Bool}

theorem keep_State_modCmd (hP : Closed bySettle P) (s : State) (c : NvCmd) (f : NvCmd → NvCmd) (hs : P s) :
    P (State.modCmd s c f) := by
  unfold State.modCmd
  repeat' first
    | with_reducible assumption
    | with_reducible rfl
    | with_reducible exact List.prefix_rfl
    | with_reducible exact le_rfl
    | with_reducible exact fun h => h
    | exact fun h => Memory.wf_writeList _ _ h
    | exact Nat.le_add_right _ _
    | with_reducible exact List.prefix_append _ _
    | with_reducible refine Closed.foldl _ _ _ (fun _ _ _ => ?_) ?_
    | split
    | with_reducible refine hP.build _ ?_ ?_ ?_ ?_

theorem keep_State_modFrame (hP : Closed bySettle P) (s : State) (fid : ℕ) (f : FrameRec → FrameRec) (hs : P s) :
    P (State.modFrame s fid f) := by
  unfold State.modFrame
  repeat' first
    | with_reducible assumption
    | with_reducible rfl
    | with_reducible exact List.prefix_rfl
    | with_reducible exact le_rfl
    | with_reducible exact fun h => h
    | exact fun h => Memory.wf_writeList _ _ h
    | exact Nat.le_add_right _ _
    | with_reducible exact List.prefix_append _ _
    | with_reducible refine Closed.foldl _ _ _ (fun _ _ _ => ?_) ?_
    | split
    | with_reducible refine hP.build _ ?_ ?_ ?_ ?_

theorem keep_State_modOp (hP : Closed bySettle P) (s : State) (mtag : ℕ) (f : MediaOp → MediaOp) (hs : P s) :
    P (State.modOp s mtag f) := by
  unfold State.modOp
  repeat' first
    | with_reducible assumption
    | with_reducible rfl
    | with_reducible exact List.prefix_rfl
    | with_reducible exact le_rfl
    | with_reducible exact fun h => h
    | exact fun h => Memory.wf_writeList _ _ h
    | exact Nat.le_add_right _ _
    | with_reducible exact List.prefix_append _ _
    | with_reducible refine Closed.foldl _ _ _ (fun _ _ _ => ?_) ?_
    | split
    | with_reducible refine hP.build _ ?_ ?_ ?_ ?_

theorem keep_State_modSegs (hP : Closed bySettle P) (s : State) (f : SegFrame → SegFrame) (hs : P s) :
    P (State.modSegs s f) := by
  unfold State.modSegs
  repeat' first
    | with_reducible assumption
    | with_reducible rfl
    | with_reducible exact List.prefix_rfl
    | with_reducible exact le_rfl
    | with_reducible exact fun h => h
    | exact fun h => Memory.wf_writeList _ _ h
    | exact Nat.le_add_right _ _
    | with_reducible exact List.prefix_append _ _
    | with_reducible refine Closed.foldl _ _ _ (fun _ _ _ => ?_) ?_
    | split
    | with_reducible refine hP.build _ ?_ ?_ ?_ ?_

theorem keep_State_setLane (hP : Closed bySettle P) (s : State) (l : ℕ) (q : LaneQ) (hs : P s) :
    P (State.setLane s l q) := by
  unfold State.setLane
  repeat' first
    | with_reducible assumption
    | with_reducible rfl
    | with_reducible exact List.prefix_rfl
    | with_reducible exact le_rfl
    | with_reducible exact fun h => h
    | exact fun h => Memory.wf_writeList _ _ h
    | exact Nat.le_add_right _ _
    | with_reducible exact List.prefix_append _ _
    | with_reducible refine Closed.foldl _ _ _ (fun _ _ _ => ?_) ?_
    | split
    | with_reducible refine hP.build _ ?_ ?_ ?_ ?_

theorem keep_State_setZone (hP : Closed bySettle P) (s : State) (z : ℕ) (r : Zone) (hs : P s) :
    P (State.setZone s z r) := by
  unfold State.setZone
  repeat' first
    | with_reducible assumption
    | with_reducible rfl
    | with_reducible exact List.prefix_rfl
    | with_reducible exact le_rfl
    | with_reducible exact fun h => h
    | exact fun h => Memory.wf_writeList _ _ h
    | exact Nat.le_add_right _ _
    | with_reducible exact List.prefix_append _ _
    | with_reducible refine Closed.foldl _ _ _ (fun _ _ _ => ?_) ?_
    | split
    | with_reducible refine hP.build _ ?_ ?_ ?_ ?_

theorem keep_finish (hP : Closed bySettle P) (c : NvCmd) (st : NvStatus) (s : State) (hs : P s) :
    P (finish c st s) := by
  have hR := hP.ofSettle
  unfold finish
  repeat' first
    | with_reducible assumption
    | with_reducible refine keep_complete hR _ _ _ _ _ ?_
    | with_reducible refine Closed.foldl _ _ _ (fun _ _ _ => ?_) ?_
    | split

theorem keep_abortCmd (hP : Closed bySettle P) (c : NvCmd) (s : State) (hs : P s) :
    P (abortCmd c s) := by
  have hR := hP.ofSettle
  unfold abortCmd
  repeat' first
    | with_reducible assumption
    | with_reducible refine keep_complete hR _ _ _ _ _ ?_
    | with_reducible refine keep_finish hP _ _ _ ?_
    | with_reducible refine Closed.foldl _ _ _ (fun _ _ _ => ?_) ?_
    | split

theorem keep_returnAccept (hP : Closed bySettle P) (z : ℕ) (off : ℕ) (s : State) (hs : P s) :
    P (returnAccept z off s) := by
  unfold returnAccept
  repeat' first
    | with_reducible assumption
    | with_reducible refine keep_State_setZone hP _ _ _ ?_
    | (extract_lets +onlyGivenNames t; refine (fun (_ : P t) => ?_) ?_; (on_goal 2 => (dsimp -zeta only [t]; clear t)); (on_goal 1 => (clear_value t; rename' t => w)))
    | (extract_lets +onlyGivenNames t; refine (fun (_ : P t.1) => ?_) ?_; (on_goal 2 => (dsimp -zeta only [t]; clear t)); (on_goal 1 => (clear_value t; rename' t => w)))
    | (extract_lets +onlyGivenNames t; clear_value t; rename' t => w)
    | with_reducible rfl
    | with_reducible exact List.prefix_rfl
    | with_reducible exact le_rfl
    | with_reducible exact fun h => h
    | exact fun h => Memory.wf_writeList _ _ h
    | exact Nat.le_add_right _ _
    | with_reducible exact List.prefix_append _ _
    | with_reducible refine Closed.foldl _ _ _ (fun _ _ _ => ?_) ?_
    | split
    | with_reducible refine hP.build _ ?_ ?_ ?_ ?_

theorem keep_rollback (hP : Closed bySettle P) (z : ℕ) (off : ℕ) (s : State) (hs : P s) :
    P (rollback z off s) := by
  unfold rollback
  repeat' first
    | with_reducible assumption
    | with_reducible refine keep_finish hP _ _ _ ?_
    | with_reducible refine Closed.forAll _ _ _ (fun _ _ _ => ?_) ?_
    | with_reducible refine keep_returnAccept hP _ _ _ ?_
    | with_reducible refine Closed.foldl _ _ _ (fun _ _ _ => ?_) ?_
    | split

theorem keep_failWrite (hP : Closed bySettle P) (c : NvCmd) (st : NvStatus) (s : State) (hs : P s) :
    P (failWrite c st s) := by
  unfold failWrite
  repeat' first
    | with_reducible assumption
    | with_reducible refine keep_finish hP _ _ _ ?_
    | with_reducible refine keep_rollback hP _ _ _ ?_
    | with_reducible refine Closed.foldl _ _ _ (fun _ _ _ => ?_) ?_
    | split

theorem keep_failCmd (hP : Closed bySettle P) (c : NvCmd) (st : NvStatus) (s : State) (hs : P s) :
    P (failCmd c st s) := by
  unfold failCmd
  repeat' first
    | with_reducible assumption
    | with_reducible refine keep_failWrite hP _ _ _ ?_
    | with_reducible refine keep_finish hP _ _ _ ?_
    | with_reducible refine Closed.foldl _ _ _ (fun _ _ _ => ?_) ?_
    | split

theorem keep_post (hP : Closed bySettle P) (r : CwResult) (s : State) (hs : P s) :
    P (post r s) := by
  unfold post
  repeat' first
    | with_reducible assumption
    | with_reducible rfl
    | with_reducible exact List.prefix_rfl
    | with_reducible exact le_rfl
    | with_reducible exact fun h => h
    | exact fun h => Memory.wf_writeList _ _ h
    | exact Nat.le_add_right _ _
    | with_reducible exact List.prefix_append _ _
    | with_reducible refine Closed.foldl _ _ _ (fun _ _ _ => ?_) ?_
    | split
    | with_reducible refine hP.build _ ?_ ?_ ?_ ?_

theorem keep_postAll (hP : Closed bySettle P) (l : ℕ) (op : FrameOp) (code : ℕ) (s : State) (hs : P s) :
    P (postAll l op code s) := by
  unfold postAll
  repeat' first
    | with_reducible assumption
    | with_reducible refine Closed.forAll _ _ _ (fun _ _ _ => ?_) ?_
    | with_reducible refine keep_post hP _ _ ?_
    | with_reducible refine Closed.foldl _ _ _ (fun _ _ _ => ?_) ?_
    | split

theorem keep_acceptOp (hP : Closed bySettle P) (l : ℕ) (op : FrameOp) (s : State) (hs : P s) :
    P (acceptOp l op s) := by
  unfold acceptOp
  repeat' first
    | with_reducible assumption
    | with_reducible refine keep_State_setLane hP _ _ _ ?_
    | with_reducible refine keep_postAll hP _ _ _ _ ?_
    | with_reducible rfl
    | with_reducible exact List.prefix_rfl
    | with_reducible exact le_rfl
    | with_reducible exact fun h => h
    | exact fun h => Memory.wf_writeList _ _ h
    | exact Nat.le_add_right _ _
    | with_reducible exact List.prefix_append _ _
    | with_reducible refine Closed.foldl _ _ _ (fun _ _ _ => ?_) ?_
    | split
    | with_reducible refine hP.build _ ?_ ?_ ?_ ?_

theorem keep_acceptWord (hP : Closed bySettle P) (l : ℕ) (w : BitVec 512) (s : State) (hs : P s) :
    P (acceptWord l w s) := by
  unfold acceptWord
  repeat' first
    | with_reducible assumption
    | with_reducible refine keep_acceptOp hP _ _ _ ?_
    | with_reducible refine Closed.foldl _ _ _ (fun _ _ _ => ?_) ?_
    | split

theorem keep_placeJournal (hP : Closed bySettle P) (s : State) (hs : P s) :
    P (placeJournal s) := by
  have hR := hP.ofSettle
  unfold placeJournal
  repeat' first
    | with_reducible assumption
    | with_reducible refine hP.setMany _ _ _ (by simp only [List.all_cons, List.all_nil, Bool.and_true, Bool.and_self, into_ACD_JRNL_MEM_A, into_ACD_JRNL_MEM_B, into_ACD_TURNOUT]) ?_
    | with_reducible refine keep_pulse hR _ _ _ ?_
    | (extract_lets +onlyGivenNames t; refine (fun (_ : P t) => ?_) ?_; (on_goal 2 => (dsimp -zeta only [t]; clear t)); (on_goal 1 => (clear_value t; rename' t => w)))
    | (extract_lets +onlyGivenNames t; refine (fun (_ : P t.1) => ?_) ?_; (on_goal 2 => (dsimp -zeta only [t]; clear t)); (on_goal 1 => (clear_value t; rename' t => w)))
    | (extract_lets +onlyGivenNames t; clear_value t; rename' t => w)
    | with_reducible refine Closed.foldl _ _ _ (fun _ _ _ => ?_) ?_
    | split

theorem keep_peerSend (hP : Closed bySettle P) (slot : ℕ) (qid : ℕ) (kind : PeerKind) (wz : ℕ) (off : ℕ) (len : ℕ) (s : State) (hs : P s) :
    P (peerSend slot qid kind wz off len s) := by
  unfold peerSend
  repeat' first
    | with_reducible assumption
    | with_reducible refine hP.bump _ MGR_CID _ into_MGR_CID ?_
    | with_reducible refine hP.emit _ _ ?_
    | (extract_lets +onlyGivenNames t; refine (fun (_ : P t) => ?_) ?_; (on_goal 2 => (dsimp -zeta only [t]; clear t)); (on_goal 1 => (clear_value t; rename' t => w)))
    | (extract_lets +onlyGivenNames t; refine (fun (_ : P t.1) => ?_) ?_; (on_goal 2 => (dsimp -zeta only [t]; clear t)); (on_goal 1 => (clear_value t; rename' t => w)))
    | (extract_lets +onlyGivenNames t; clear_value t; rename' t => w)
    | with_reducible rfl
    | with_reducible exact List.prefix_rfl
    | with_reducible exact le_rfl
    | with_reducible exact fun h => h
    | exact fun h => Memory.wf_writeList _ _ h
    | exact Nat.le_add_right _ _
    | with_reducible exact List.prefix_append _ _
    | with_reducible refine Closed.foldl _ _ _ (fun _ _ _ => ?_) ?_
    | split
    | with_reducible refine hP.build _ ?_ ?_ ?_ ?_

theorem keep_reservedSend (hP : Closed bySettle P) (slot : ℕ) (y : ℕ) (kind : PeerKind) (off : ℕ) (len : ℕ) (s : State) (hs : P s) :
    P (reservedSend slot y kind off len s) := by
  unfold reservedSend
  repeat' first
    | with_reducible assumption
    | with_reducible refine keep_peerSend hP _ _ _ _ _ _ _ ?_
    | with_reducible refine Closed.foldl _ _ _ (fun _ _ _ => ?_) ?_
    | split

theorem keep_shelfRecord (hP : Closed bySettle P) (s : State) (hs : P s) :
    P (shelfRecord s) := by
  unfold shelfRecord
  repeat' first
    | with_reducible assumption
    | with_reducible refine hP.add _ MGR_JRNLWP _ _ into_MGR_JRNLWP ?_
    | with_reducible refine hP.set _ MGR_JRNLA _ _ into_MGR_JRNLA ?_
    | with_reducible refine hP.set _ MGR_JRNLSEQ _ _ into_MGR_JRNLSEQ ?_
    | with_reducible refine Closed.forAll _ _ _ (fun _ _ _ => ?_) ?_
    | with_reducible refine keep_reservedSend hP _ _ _ _ _ _ ?_
    | (extract_lets +onlyGivenNames t; refine (fun (_ : P t) => ?_) ?_; (on_goal 2 => (dsimp -zeta only [t]; clear t)); (on_goal 1 => (clear_value t; rename' t => w)))
    | (extract_lets +onlyGivenNames t; refine (fun (_ : P t.1) => ?_) ?_; (on_goal 2 => (dsimp -zeta only [t]; clear t)); (on_goal 1 => (clear_value t; rename' t => w)))
    | (extract_lets +onlyGivenNames t; clear_value t; rename' t => w)
    | with_reducible refine Closed.foldl _ _ _ (fun _ _ _ => ?_) ?_
    | split

theorem keep_shelfSave (hP : Closed bySettle P) (s : State) (hs : P s) :
    P (shelfSave s) := by
  unfold shelfSave
  repeat' first
    | with_reducible assumption
    | with_reducible refine Closed.forAll _ _ _ (fun _ _ _ => ?_) ?_
    | with_reducible refine keep_reservedSend hP _ _ _ _ _ _ ?_
    | (extract_lets +onlyGivenNames t; refine (fun (_ : P t) => ?_) ?_; (on_goal 2 => (dsimp -zeta only [t]; clear t)); (on_goal 1 => (clear_value t; rename' t => w)))
    | (extract_lets +onlyGivenNames t; refine (fun (_ : P t.1) => ?_) ?_; (on_goal 2 => (dsimp -zeta only [t]; clear t)); (on_goal 1 => (clear_value t; rename' t => w)))
    | (extract_lets +onlyGivenNames t; clear_value t; rename' t => w)
    | with_reducible refine Closed.foldl _ _ _ (fun _ _ _ => ?_) ?_
    | split

theorem keep_startCheckpoint (hP : Closed bySettle P) (s : State) (hs : P s) :
    P (startCheckpoint s) := by
  unfold startCheckpoint
  repeat' first
    | with_reducible assumption
    | with_reducible refine hP.bump _ ACD_KSEQ _ into_ACD_KSEQ ?_
    | with_reducible refine hP.set _ ACD_KDUE _ _ into_ACD_KDUE ?_
    | with_reducible refine hP.setMany _ _ _ (by simp only [List.all_cons, List.all_nil, Bool.and_true, Bool.and_self, into_ACD_CKPT_MEM_M0, into_ACD_CKPT_MEM_M1, into_ACD_CKPT_MEM_M2, into_ACD_CKPT_MEM_M3, into_ACD_KBUSY, into_ACD_KDUE, into_ACD_KMIN, into_ACD_KSEQ]) ?_
    | with_reducible refine keep_shelfSave hP _ ?_
    | (extract_lets +onlyGivenNames t; refine (fun (_ : P t) => ?_) ?_; (on_goal 2 => (dsimp -zeta only [t]; clear t)); (on_goal 1 => (clear_value t; rename' t => w)))
    | (extract_lets +onlyGivenNames t; refine (fun (_ : P t.1) => ?_) ?_; (on_goal 2 => (dsimp -zeta only [t]; clear t)); (on_goal 1 => (clear_value t; rename' t => w)))
    | (extract_lets +onlyGivenNames t; clear_value t; rename' t => w)
    | with_reducible rfl
    | with_reducible exact List.prefix_rfl
    | with_reducible exact le_rfl
    | with_reducible exact fun h => h
    | exact fun h => Memory.wf_writeList _ _ h
    | exact Nat.le_add_right _ _
    | with_reducible exact List.prefix_append _ _
    | with_reducible refine Closed.foldl _ _ _ (fun _ _ _ => ?_) ?_
    | split
    | with_reducible refine hP.build _ ?_ ?_ ?_ ?_

theorem keep_startRecord (hP : Closed bySettle P) (s : State) (hs : P s) :
    P (startRecord s) := by
  unfold startRecord
  repeat' first
    | with_reducible assumption
    | with_reducible refine hP.bump _ ACD_JSEQ _ into_ACD_JSEQ ?_
    | with_reducible refine hP.set _ ACD_JREQ _ _ into_ACD_JREQ ?_
    | with_reducible refine hP.setMany _ _ _ (by simp only [List.all_cons, List.all_nil, Bool.and_true, Bool.and_self, into_ACD_JBUSY, into_ACD_JCLEAN, into_ACD_JREQ, into_ACD_JSEQ, into_ACD_LAZY]) ?_
    | with_reducible refine keep_placeJournal hP _ ?_
    | with_reducible refine keep_shelfRecord hP _ ?_
    | with_reducible refine keep_startCheckpoint hP _ ?_
    | (extract_lets +onlyGivenNames t; refine (fun (_ : P t) => ?_) ?_; (on_goal 2 => (dsimp -zeta only [t]; clear t)); (on_goal 1 => (clear_value t; rename' t => w)))
    | (extract_lets +onlyGivenNames t; refine (fun (_ : P t.1) => ?_) ?_; (on_goal 2 => (dsimp -zeta only [t]; clear t)); (on_goal 1 => (clear_value t; rename' t => w)))
    | (extract_lets +onlyGivenNames t; clear_value t; rename' t => w)
    | with_reducible rfl
    | with_reducible exact List.prefix_rfl
    | with_reducible exact le_rfl
    | with_reducible exact fun h => h
    | exact fun h => Memory.wf_writeList _ _ h
    | exact Nat.le_add_right _ _
    | with_reducible exact List.prefix_append _ _
    | with_reducible refine Closed.foldl _ _ _ (fun _ _ _ => ?_) ?_
    | split
    | with_reducible refine hP.build _ ?_ ?_ ?_ ?_

theorem keep_startClean (hP : Closed bySettle P) (s : State) (hs : P s) :
    P (startClean s) := by
  unfold startClean
  repeat' first
    | with_reducible assumption
    | with_reducible refine hP.set _ ACD_CLEANREQ _ _ into_ACD_CLEANREQ ?_
    | with_reducible refine keep_startRecord hP _ ?_
    | with_reducible refine Closed.foldl _ _ _ (fun _ _ _ => ?_) ?_
    | split

theorem keep_acdClean (hP : Closed bySettle P) (s : State) (hs : P s) :
    P (acdClean s) := by
  unfold acdClean
  repeat' first
    | with_reducible assumption
    | with_reducible refine hP.setMany _ _ _ (by simp only [List.all_cons, List.all_nil, Bool.and_true, Bool.and_self, into_ACD_CLEANREQ, into_ACD_CTL_CLEAN]) ?_
    | with_reducible refine keep_startClean hP _ ?_
    | with_reducible refine Closed.foldl _ _ _ (fun _ _ _ => ?_) ?_
    | split

theorem keep_showSpare (hP : Closed bySettle P) (f : ℕ) (x : ℕ) (s : State) (hs : P s) :
    P (showSpare f x s) := by
  have hR := hP.ofSettle
  unfold showSpare
  repeat' first
    | with_reducible assumption
    | with_reducible refine hP.setMany _ _ _ (by simp only [List.all_cons, List.all_nil, Bool.and_true, Bool.and_self, into_ACD_SPARE_FREE_FREE, into_ACD_SPARE_FREE_MEMBER, into_ACD_STS_SPARE_LOW, into_ACD_STS_SPARE_OUT]) ?_
    | with_reducible refine keep_level hR _ _ _ _ ?_
    | (extract_lets +onlyGivenNames t; refine (fun (_ : P t) => ?_) ?_; (on_goal 2 => (dsimp -zeta only [t]; clear t)); (on_goal 1 => (clear_value t; rename' t => w)))
    | (extract_lets +onlyGivenNames t; refine (fun (_ : P t.1) => ?_) ?_; (on_goal 2 => (dsimp -zeta only [t]; clear t)); (on_goal 1 => (clear_value t; rename' t => w)))
    | (extract_lets +onlyGivenNames t; clear_value t; rename' t => w)
    | with_reducible refine Closed.foldl _ _ _ (fun _ _ _ => ?_) ?_
    | split

theorem keep_updateSpare (hP : Closed bySettle P) (s : State) (hs : P s) :
    P (updateSpare s) := by
  unfold updateSpare
  generalize (((spareMembers s).map fun x => ((bandsFree x s).length, x)).foldl fewer none) = o
  cases o with
  | none => exact hs
  | some p => exact keep_showSpare hP _ _ _ hs


theorem keep_respare (hP : Closed bySettle P) (s : State) (t : State) (ht : P t) :
    P (respare s t) := by
  unfold respare
  repeat' first
    | with_reducible assumption
    | with_reducible refine keep_updateSpare hP _ ?_
    | with_reducible refine Closed.foldl _ _ _ (fun _ _ _ => ?_) ?_
    | split

theorem keep_loseMember (hP : Closed bySettle P) (x : ℕ) (s : State) (hs : P s) :
    P (loseMember x s) := by
  have hR := hP.ofSettle
  unfold loseMember
  repeat' first
    | with_reducible assumption
    | with_reducible refine keep_memberLoss hR _ _ ?_
    | with_reducible refine keep_respare hP _ _ ?_
    | with_reducible refine keep_withFollow hR _ ?_
    | with_reducible refine Closed.foldl _ _ _ (fun _ _ _ => ?_) ?_
    | split

theorem keep_showResync (hP : Closed bySettle P) (s : State) (hs : P s) :
    P (showResync s) := by
  unfold showResync
  repeat' first
    | with_reducible assumption
    | with_reducible refine hP.set _ ACD_RESYNC_SCAN _ _ into_ACD_RESYNC_SCAN ?_
    | with_reducible refine hP.setMany _ _ _ (by simp only [List.all_cons, List.all_nil, Bool.and_true, Bool.and_self, into_ACD_RESYNC_SCAN, into_ACD_RESYNC_ZONES, into_ACD_STS_RESYNC]) ?_
    | (extract_lets +onlyGivenNames t; refine (fun (_ : P t) => ?_) ?_; (on_goal 2 => (dsimp -zeta only [t]; clear t)); (on_goal 1 => (clear_value t; rename' t => w)))
    | (extract_lets +onlyGivenNames t; refine (fun (_ : P t.1) => ?_) ?_; (on_goal 2 => (dsimp -zeta only [t]; clear t)); (on_goal 1 => (clear_value t; rename' t => w)))
    | (extract_lets +onlyGivenNames t; clear_value t; rename' t => w)
    | with_reducible refine Closed.foldl _ _ _ (fun _ _ _ => ?_) ?_
    | split

theorem keep_trimFrames (hP : Closed bySettle P) (s : State) (hs : P s) :
    P (trimFrames s) := by
  unfold trimFrames
  repeat' first
    | with_reducible assumption
    | with_reducible rfl
    | with_reducible exact List.prefix_rfl
    | with_reducible exact le_rfl
    | with_reducible exact fun h => h
    | exact fun h => Memory.wf_writeList _ _ h
    | exact Nat.le_add_right _ _
    | with_reducible exact List.prefix_append _ _
    | with_reducible refine Closed.foldl _ _ _ (fun _ _ _ => ?_) ?_
    | split
    | with_reducible refine hP.build _ ?_ ?_ ?_ ?_

theorem keep_report (hP : Closed bySettle P) (fr : FrameRec) (cw : ℕ) (code : ℕ) (iters : ℕ) (off : ℤ) (erase : ℕ) (s : State) (hs : P s) :
    P (report fr cw code iters off erase s) := by
  unfold report
  repeat' first
    | with_reducible assumption
    | with_reducible refine keep_State_modFrame hP _ _ _ ?_
    | with_reducible refine keep_post hP _ _ ?_
    | with_reducible refine keep_trimFrames hP _ ?_
    | with_reducible rfl
    | with_reducible exact List.prefix_rfl
    | with_reducible exact le_rfl
    | with_reducible exact fun h => h
    | exact fun h => Memory.wf_writeList _ _ h
    | exact Nat.le_add_right _ _
    | with_reducible exact List.prefix_append _ _
    | with_reducible refine Closed.foldl _ _ _ (fun _ _ _ => ?_) ?_
    | split
    | with_reducible refine hP.build _ ?_ ?_ ?_ ?_

theorem keep_showStaged (hP : Closed bySettle P) (l : ℕ) (s : State) (hs : P s) :
    P (showStaged l s) := by
  unfold showStaged
  repeat' first
    | with_reducible assumption
    | with_reducible refine hP.set _ LAN_STGV_OCC _ _ into_LAN_STGV_OCC ?_
    | with_reducible refine Closed.foldl _ _ _ (fun _ _ _ => ?_) ?_
    | split

theorem keep_showWait (hP : Closed bySettle P) (s : State) (hs : P s) :
    P (showWait s) := by
  unfold showWait
  repeat' first
    | with_reducible assumption
    | with_reducible refine hP.set _ DEC_STS_WAIT _ _ into_DEC_STS_WAIT ?_
    | with_reducible refine Closed.foldl _ _ _ (fun _ _ _ => ?_) ?_
    | split

theorem keep_frameOpCancel (hP : Closed bySettle P) (l : ℕ) (mtag : ℕ) (s : State) (hs : P s) :
    P (frameOpCancel l mtag s) := by
  unfold frameOpCancel
  repeat' first
    | with_reducible assumption
    | with_reducible refine keep_State_setLane hP _ _ _ ?_
    | with_reducible refine Closed.forAll _ _ _ (fun _ _ _ => ?_) ?_
    | with_reducible refine keep_postAll hP _ _ _ _ ?_
    | with_reducible refine keep_report hP _ _ _ _ _ _ _ ?_
    | with_reducible refine keep_showStaged hP _ _ ?_
    | with_reducible refine keep_showWait hP _ ?_
    | (extract_lets +onlyGivenNames t; refine (fun (_ : P t) => ?_) ?_; (on_goal 2 => (dsimp -zeta only [t]; clear t)); (on_goal 1 => (clear_value t; rename' t => w)))
    | (extract_lets +onlyGivenNames t; refine (fun (_ : P t.1) => ?_) ?_; (on_goal 2 => (dsimp -zeta only [t]; clear t)); (on_goal 1 => (clear_value t; rename' t => w)))
    | (extract_lets +onlyGivenNames t; clear_value t; rename' t => w)
    | with_reducible rfl
    | with_reducible exact List.prefix_rfl
    | with_reducible exact le_rfl
    | with_reducible exact fun h => h
    | exact fun h => Memory.wf_writeList _ _ h
    | exact Nat.le_add_right _ _
    | with_reducible exact List.prefix_append _ _
    | with_reducible refine Closed.foldl _ _ _ (fun _ _ _ => ?_) ?_
    | split
    | with_reducible refine hP.build _ ?_ ?_ ?_ ?_

theorem keep_cancelRa (hP : Closed bySettle P) (a : RaFrame) (s : State) (hs : P s) :
    P (cancelRa a s) := by
  unfold cancelRa
  repeat' first
    | with_reducible assumption
    | with_reducible refine Closed.forAll _ _ _ (fun _ _ _ => ?_) ?_
    | with_reducible refine keep_frameOpCancel hP _ _ _ ?_
    | (extract_lets +onlyGivenNames t; refine (fun (_ : P t) => ?_) ?_; (on_goal 2 => (dsimp -zeta only [t]; clear t)); (on_goal 1 => (clear_value t; rename' t => w)))
    | (extract_lets +onlyGivenNames t; refine (fun (_ : P t.1) => ?_) ?_; (on_goal 2 => (dsimp -zeta only [t]; clear t)); (on_goal 1 => (clear_value t; rename' t => w)))
    | (extract_lets +onlyGivenNames t; clear_value t; rename' t => w)
    | with_reducible rfl
    | with_reducible exact List.prefix_rfl
    | with_reducible exact le_rfl
    | with_reducible exact fun h => h
    | exact fun h => Memory.wf_writeList _ _ h
    | exact Nat.le_add_right _ _
    | with_reducible exact List.prefix_append _ _
    | with_reducible refine Closed.foldl _ _ _ (fun _ _ _ => ?_) ?_
    | split
    | with_reducible refine hP.build _ ?_ ?_ ?_ ?_

theorem keep_showInfl (hP : Closed bySettle P) (s : State) (hs : P s) :
    P (showInfl s) := by
  unfold showInfl
  repeat' first
    | with_reducible assumption
    | with_reducible refine hP.set _ FMT_INFL _ _ into_FMT_INFL ?_
    | with_reducible refine Closed.foldl _ _ _ (fun _ _ _ => ?_) ?_
    | split

theorem keep_closeOp (hP : Closed bySettle P) (mtag : ℕ) (s : State) (hs : P s) :
    P (closeOp mtag s) := by
  unfold closeOp
  repeat' first
    | with_reducible assumption
    | with_reducible refine hP.emit _ _ ?_
    | with_reducible refine keep_showInfl hP _ ?_
    | (extract_lets +onlyGivenNames t; refine (fun (_ : P t) => ?_) ?_; (on_goal 2 => (dsimp -zeta only [t]; clear t)); (on_goal 1 => (clear_value t; rename' t => w)))
    | (extract_lets +onlyGivenNames t; refine (fun (_ : P t.1) => ?_) ?_; (on_goal 2 => (dsimp -zeta only [t]; clear t)); (on_goal 1 => (clear_value t; rename' t => w)))
    | (extract_lets +onlyGivenNames t; clear_value t; rename' t => w)
    | with_reducible rfl
    | with_reducible exact List.prefix_rfl
    | with_reducible exact le_rfl
    | with_reducible exact fun h => h
    | exact fun h => Memory.wf_writeList _ _ h
    | exact Nat.le_add_right _ _
    | with_reducible exact List.prefix_append _ _
    | with_reducible refine Closed.foldl _ _ _ (fun _ _ _ => ?_) ?_
    | split
    | with_reducible refine hP.build _ ?_ ?_ ?_ ?_

theorem keep_endOp (hP : Closed bySettle P) (mtag : ℕ) (s : State) (hs : P s) :
    P (endOp mtag s) := by
  unfold endOp
  repeat' first
    | with_reducible assumption
    | with_reducible refine keep_closeOp hP _ _ ?_
    | with_reducible refine Closed.foldl _ _ _ (fun _ _ _ => ?_) ?_
    | split

theorem keep_dropOne (hP : Closed bySettle P) (a : RaFrame) (s : State) (hs : P s) :
    P (dropOne a s) := by
  unfold dropOne
  repeat' first
    | with_reducible assumption
    | with_reducible refine hP.bump _ FMT_CNT_RA_DROPPED _ into_FMT_CNT_RA_DROPPED ?_
    | with_reducible refine keep_cancelRa hP _ _ ?_
    | with_reducible refine keep_endOp hP _ _ ?_
    | with_reducible refine Closed.foldl _ _ _ (fun _ _ _ => ?_) ?_
    | split

theorem keep_dropRa (hP : Closed bySettle P) (p : ℕ → Bool) (s : State) (hs : P s) :
    P (dropRa p s) := by
  unfold dropRa
  repeat' first
    | with_reducible assumption
    | with_reducible refine keep_dropOne hP _ _ ?_
    | with_reducible refine Closed.forAll _ _ _ (fun _ _ _ => ?_) ?_
    | with_reducible refine Closed.foldl _ _ _ (fun _ _ _ => ?_) ?_
    | split

theorem keep_failShort (hP : Closed bySettle P) (z : ℕ) (st : NvStatus) (s : State) (hs : P s) :
    P (failShort z st s) := by
  unfold failShort
  repeat' first
    | with_reducible assumption
    | with_reducible refine keep_finish hP _ _ _ ?_
    | with_reducible refine Closed.forAll _ _ _ (fun _ _ _ => ?_) ?_
    | with_reducible refine keep_returnAccept hP _ _ _ ?_
    | (extract_lets +onlyGivenNames t; refine (fun (_ : P t) => ?_) ?_; (on_goal 2 => (dsimp -zeta only [t]; clear t)); (on_goal 1 => (clear_value t; rename' t => w)))
    | (extract_lets +onlyGivenNames t; refine (fun (_ : P t.1) => ?_) ?_; (on_goal 2 => (dsimp -zeta only [t]; clear t)); (on_goal 1 => (clear_value t; rename' t => w)))
    | (extract_lets +onlyGivenNames t; clear_value t; rename' t => w)
    | with_reducible refine Closed.foldl _ _ _ (fun _ _ _ => ?_) ?_
    | split

theorem keep_dropLogs (hP : Closed bySettle P) (gone : ℕ → ℕ → Bool) (s : State) (hs : P s) :
    P (dropLogs gone s) := by
  unfold dropLogs
  repeat' first
    | with_reducible assumption
    | with_reducible refine hP.set _ MGR_PLOGWP _ _ into_MGR_PLOGWP ?_
    | with_reducible refine Closed.forAll _ _ _ (fun _ _ _ => ?_) ?_
    | with_reducible refine keep_reservedSend hP _ _ _ _ _ _ ?_
    | (extract_lets +onlyGivenNames t; refine (fun (_ : P t) => ?_) ?_; (on_goal 2 => (dsimp -zeta only [t]; clear t)); (on_goal 1 => (clear_value t; rename' t => w)))
    | (extract_lets +onlyGivenNames t; refine (fun (_ : P t.1) => ?_) ?_; (on_goal 2 => (dsimp -zeta only [t]; clear t)); (on_goal 1 => (clear_value t; rename' t => w)))
    | (extract_lets +onlyGivenNames t; clear_value t; rename' t => w)
    | with_reducible rfl
    | with_reducible exact List.prefix_rfl
    | with_reducible exact le_rfl
    | with_reducible exact fun h => h
    | exact fun h => Memory.wf_writeList _ _ h
    | exact Nat.le_add_right _ _
    | with_reducible exact List.prefix_append _ _
    | with_reducible refine Closed.foldl _ _ _ (fun _ _ _ => ?_) ?_
    | split
    | with_reducible refine hP.build _ ?_ ?_ ?_ ?_

theorem keep_unitCmd (hP : Closed bySettle P) (p : ℕ × ℕ × ℕ) (kind : PeerKind) (b : ℕ) (n : ℕ) (s : State) (hs : P s) :
    P (unitCmd p kind b n s) := by
  unfold unitCmd
  repeat' first
    | with_reducible assumption
    | with_reducible refine keep_peerSend hP _ _ _ _ _ _ _ ?_
    | with_reducible refine Closed.foldl _ _ _ (fun _ _ _ => ?_) ?_
    | split

theorem keep_unitSend (hP : Closed bySettle P) (z : ℕ) (r : ℕ) (pos : ℕ) (b : ℕ) (n : ℕ) (s : State) (hs : P s) :
    P (unitSend z r pos b n s) := by
  unfold unitSend
  repeat' first
    | with_reducible assumption
    | with_reducible refine keep_unitCmd hP _ _ _ _ _ ?_
    | (extract_lets +onlyGivenNames t; refine (fun (_ : P t) => ?_) ?_; (on_goal 2 => (dsimp -zeta only [t]; clear t)); (on_goal 1 => (clear_value t; rename' t => w)))
    | (extract_lets +onlyGivenNames t; refine (fun (_ : P t.1) => ?_) ?_; (on_goal 2 => (dsimp -zeta only [t]; clear t)); (on_goal 1 => (clear_value t; rename' t => w)))
    | (extract_lets +onlyGivenNames t; clear_value t; rename' t => w)
    | with_reducible rfl
    | with_reducible exact List.prefix_rfl
    | with_reducible exact le_rfl
    | with_reducible exact fun h => h
    | exact fun h => Memory.wf_writeList _ _ h
    | exact Nat.le_add_right _ _
    | with_reducible exact List.prefix_append _ _
    | with_reducible refine Closed.foldl _ _ _ (fun _ _ _ => ?_) ?_
    | split
    | with_reducible refine hP.build _ ?_ ?_ ?_ ?_

theorem keep_cleanRange (hP : Closed bySettle P) (a : ℕ) (n : ℕ) (s : State) (hs : P s) :
    P (cleanRange a n s) := by
  unfold cleanRange
  repeat' first
    | with_reducible assumption
    | with_reducible rfl
    | with_reducible exact List.prefix_rfl
    | with_reducible exact le_rfl
    | with_reducible exact fun h => h
    | exact fun h => Memory.wf_writeList _ _ h
    | exact Nat.le_add_right _ _
    | with_reducible exact List.prefix_append _ _
    | with_reducible refine Closed.foldl _ _ _ (fun _ _ _ => ?_) ?_
    | split
    | with_reducible refine hP.build _ ?_ ?_ ?_ ?_

theorem keep_writeParity (hP : Closed bySettle P) (z : ℕ) (r : ℕ) (blocks : ℕ) (i : ℕ) (s : State) (hs : P s) :
    P (writeParity z r blocks i s) := by
  unfold writeParity
  refine keep_cleanRange hP _ _ _ (Closed.forBelow _ _ _ (fun c t ht => ?_) hs)
  exact hP.record t _ rfl (fun h => Memory.wf_writeGuard _ (Memory.wf_foldl _ _ _ (fun _ _ => Memory.wf_write _ _) h))
    List.prefix_rfl le_rfl ht


theorem keep_writeParities (hP : Closed bySettle P) (z : ℕ) (r : ℕ) (blocks : ℕ) (s : State) (hs : P s) :
    P (writeParities z r blocks s) := by
  unfold writeParities
  repeat' first
    | with_reducible assumption
    | with_reducible refine Closed.forBelow _ _ _ (fun _ _ _ => ?_) ?_
    | with_reducible refine keep_writeParity hP _ _ _ _ _ ?_
    | with_reducible refine Closed.foldl _ _ _ (fun _ _ _ => ?_) ?_
    | split

theorem keep_shelfFinish (hP : Closed bySettle P) (z : ℕ) (s : State) (hs : P s) :
    P (shelfFinish z s) := by
  unfold shelfFinish
  repeat' first
    | with_reducible assumption
    | with_reducible refine keep_dropLogs hP _ _ ?_
    | with_reducible refine Closed.forBelow _ _ _ (fun _ _ _ => ?_) ?_
    | with_reducible refine keep_unitSend hP _ _ _ _ _ _ ?_
    | with_reducible refine keep_writeParities hP _ _ _ _ ?_
    | (extract_lets +onlyGivenNames t; refine (fun (_ : P t) => ?_) ?_; (on_goal 2 => (dsimp -zeta only [t]; clear t)); (on_goal 1 => (clear_value t; rename' t => w)))
    | (extract_lets +onlyGivenNames t; refine (fun (_ : P t.1) => ?_) ?_; (on_goal 2 => (dsimp -zeta only [t]; clear t)); (on_goal 1 => (clear_value t; rename' t => w)))
    | (extract_lets +onlyGivenNames t; clear_value t; rename' t => w)
    | with_reducible refine Closed.foldl _ _ _ (fun _ _ _ => ?_) ?_
    | split

theorem keep_showZones (hP : Closed bySettle P) (s : State) (hs : P s) :
    P (showZones s) := by
  unfold showZones
  repeat' first
    | with_reducible assumption
    | with_reducible refine hP.setMany _ _ _ (by simp only [List.all_cons, List.all_nil, Bool.and_true, Bool.and_self, into_ACD_STS_ALLEMPTY, into_NVQ_ZACT_ACTIVE, into_NVQ_ZACT_OPENED]) ?_
    | with_reducible refine Closed.foldl _ _ _ (fun _ _ _ => ?_) ?_
    | split

theorem keep_zoneTo (hP : Closed bySettle P) (z : ℕ) (st : ℕ) (s : State) (hs : P s) :
    P (zoneTo z st s) := by
  unfold zoneTo
  repeat' first
    | with_reducible assumption
    | with_reducible refine keep_State_setZone hP _ _ _ ?_
    | with_reducible refine keep_showZones hP _ ?_
    | (extract_lets +onlyGivenNames t; refine (fun (_ : P t) => ?_) ?_; (on_goal 2 => (dsimp -zeta only [t]; clear t)); (on_goal 1 => (clear_value t; rename' t => w)))
    | (extract_lets +onlyGivenNames t; refine (fun (_ : P t.1) => ?_) ?_; (on_goal 2 => (dsimp -zeta only [t]; clear t)); (on_goal 1 => (clear_value t; rename' t => w)))
    | (extract_lets +onlyGivenNames t; clear_value t; rename' t => w)
    | with_reducible rfl
    | with_reducible exact List.prefix_rfl
    | with_reducible exact le_rfl
    | with_reducible exact fun h => h
    | exact fun h => Memory.wf_writeList _ _ h
    | exact Nat.le_add_right _ _
    | with_reducible exact List.prefix_append _ _
    | with_reducible refine Closed.foldl _ _ _ (fun _ _ _ => ?_) ?_
    | split
    | with_reducible refine hP.build _ ?_ ?_ ?_ ?_

theorem keep_finishZone (hP : Closed bySettle P) (z : ℕ) (s : State) (hs : P s) :
    P (finishZone z s) := by
  unfold finishZone
  repeat' first
    | with_reducible assumption
    | with_reducible refine keep_State_setZone hP _ _ _ ?_
    | with_reducible refine keep_dropRa hP _ _ ?_
    | with_reducible refine keep_failShort hP _ _ _ ?_
    | with_reducible refine keep_shelfFinish hP _ _ ?_
    | with_reducible refine keep_startCheckpoint hP _ ?_
    | with_reducible refine keep_zoneTo hP _ _ _ ?_
    | (extract_lets +onlyGivenNames t; refine (fun (_ : P t) => ?_) ?_; (on_goal 2 => (dsimp -zeta only [t]; clear t)); (on_goal 1 => (clear_value t; rename' t => w)))
    | (extract_lets +onlyGivenNames t; refine (fun (_ : P t.1) => ?_) ?_; (on_goal 2 => (dsimp -zeta only [t]; clear t)); (on_goal 1 => (clear_value t; rename' t => w)))
    | (extract_lets +onlyGivenNames t; clear_value t; rename' t => w)
    | with_reducible rfl
    | with_reducible exact List.prefix_rfl
    | with_reducible exact le_rfl
    | with_reducible exact fun h => h
    | exact fun h => Memory.wf_writeList _ _ h
    | exact Nat.le_add_right _ _
    | with_reducible exact List.prefix_append _ _
    | with_reducible refine Closed.foldl _ _ _ (fun _ _ _ => ?_) ?_
    | split
    | with_reducible refine hP.build _ ?_ ?_ ?_ ?_

theorem keep_dropRows (hP : Closed bySettle P) (z : ℕ) (r : ℕ) (s : State) (hs : P s) :
    P (dropRows z r s) := by
  unfold dropRows
  repeat' first
    | with_reducible assumption
    | with_reducible refine keep_endOp hP _ _ ?_
    | with_reducible refine Closed.forAll _ _ _ (fun _ _ _ => ?_) ?_
    | (extract_lets +onlyGivenNames t; refine (fun (_ : P t) => ?_) ?_; (on_goal 2 => (dsimp -zeta only [t]; clear t)); (on_goal 1 => (clear_value t; rename' t => w)))
    | (extract_lets +onlyGivenNames t; refine (fun (_ : P t.1) => ?_) ?_; (on_goal 2 => (dsimp -zeta only [t]; clear t)); (on_goal 1 => (clear_value t; rename' t => w)))
    | (extract_lets +onlyGivenNames t; clear_value t; rename' t => w)
    | with_reducible rfl
    | with_reducible exact List.prefix_rfl
    | with_reducible exact le_rfl
    | with_reducible exact fun h => h
    | exact fun h => Memory.wf_writeList _ _ h
    | exact Nat.le_add_right _ _
    | with_reducible exact List.prefix_append _ _
    | with_reducible refine Closed.foldl _ _ _ (fun _ _ _ => ?_) ?_
    | split
    | with_reducible refine hP.build _ ?_ ?_ ?_ ?_

theorem keep_freeBands (hP : Closed bySettle P) (s : State) (hs : P s) :
    P (freeBands s) := by
  have hR := hP.ofSettle
  unfold freeBands
  repeat' first
    | with_reducible assumption
    | with_reducible refine hP.set _ ACD_RBLD_SKIP _ _ into_ACD_RBLD_SKIP ?_
    | with_reducible refine keep_addPasses hR _ _ _ ?_
    | with_reducible refine keep_updateSpare hP _ ?_
    | (extract_lets +onlyGivenNames t; refine (fun (_ : P t) => ?_) ?_; (on_goal 2 => (dsimp -zeta only [t]; clear t)); (on_goal 1 => (clear_value t; rename' t => w)))
    | (extract_lets +onlyGivenNames t; refine (fun (_ : P t.1) => ?_) ?_; (on_goal 2 => (dsimp -zeta only [t]; clear t)); (on_goal 1 => (clear_value t; rename' t => w)))
    | (extract_lets +onlyGivenNames t; clear_value t; rename' t => w)
    | with_reducible rfl
    | with_reducible exact List.prefix_rfl
    | with_reducible exact le_rfl
    | with_reducible exact fun h => h
    | exact fun h => Memory.wf_writeList _ _ h
    | exact Nat.le_add_right _ _
    | with_reducible exact List.prefix_append _ _
    | with_reducible refine Closed.foldl _ _ _ (fun _ _ _ => ?_) ?_
    | split
    | with_reducible refine hP.build _ ?_ ?_ ?_ ?_

theorem keep_shelfReset (hP : Closed bySettle P) (z : ℕ) (s : State) (hs : P s) :
    P (shelfReset z s) := by
  unfold shelfReset
  repeat' first
    | with_reducible assumption
    | with_reducible refine keep_dropLogs hP _ _ ?_
    | with_reducible refine Closed.forBelow _ _ _ (fun _ _ _ => ?_) ?_
    | with_reducible refine keep_peerSend hP _ _ _ _ _ _ _ ?_
    | (extract_lets +onlyGivenNames t; refine (fun (_ : P t) => ?_) ?_; (on_goal 2 => (dsimp -zeta only [t]; clear t)); (on_goal 1 => (clear_value t; rename' t => w)))
    | (extract_lets +onlyGivenNames t; refine (fun (_ : P t.1) => ?_) ?_; (on_goal 2 => (dsimp -zeta only [t]; clear t)); (on_goal 1 => (clear_value t; rename' t => w)))
    | (extract_lets +onlyGivenNames t; clear_value t; rename' t => w)
    | with_reducible rfl
    | with_reducible exact List.prefix_rfl
    | with_reducible exact le_rfl
    | with_reducible exact fun h => h
    | exact fun h => Memory.wf_writeList _ _ h
    | exact Nat.le_add_right _ _
    | with_reducible exact List.prefix_append _ _
    | with_reducible refine Closed.foldl _ _ _ (fun _ _ _ => ?_) ?_
    | split
    | with_reducible refine hP.build _ ?_ ?_ ?_ ?_

theorem keep_storeUnrec (hP : Closed bySettle P) (s : State) (hs : P s) :
    P (storeUnrec s) := by
  unfold storeUnrec
  repeat' first
    | with_reducible assumption
    | with_reducible refine keep_cleanRange hP _ _ _ ?_
    | with_reducible rfl
    | with_reducible exact List.prefix_rfl
    | with_reducible exact le_rfl
    | with_reducible exact fun h => h
    | exact fun h => Memory.wf_writeList _ _ h
    | exact Nat.le_add_right _ _
    | with_reducible exact List.prefix_append _ _
    | with_reducible refine Closed.foldl _ _ _ (fun _ _ _ => ?_) ?_
    | split
    | with_reducible refine hP.build _ ?_ ?_ ?_ ?_

theorem keep_showUnrec (hP : Closed bySettle P) (s : State) (hs : P s) :
    P (showUnrec s) := by
  unfold showUnrec
  repeat' first
    | with_reducible assumption
    | with_reducible refine hP.setMany _ _ _ (by simp only [List.all_cons, List.all_nil, Bool.and_true, Bool.and_self, into_ACD_STS_UNREC_FULL, into_ACD_UNREC_BLK, into_ACD_UNREC_CNT]) ?_
    | with_reducible refine keep_storeUnrec hP _ ?_
    | with_reducible refine Closed.foldl _ _ _ (fun _ _ _ => ?_) ?_
    | split

theorem keep_resetZone (hP : Closed bySettle P) (z : ℕ) (s : State) (hs : P s) :
    P (resetZone z s) := by
  unfold resetZone
  extract_lets t1 gone t2 ac t3 t4 t5 t6 zr t7
  have h2 : P t2 := keep_dropRows hP _ _ _ (keep_dropRa hP _ _ (keep_failShort hP _ _ _ hs))
  clear_value t2 gone
  have h3 : P t3 := hP.record t2 _ rfl (fun h => h) List.prefix_rfl le_rfl h2
  clear_value t3
  have h4 : P t4 := keep_showInfl hP _ (keep_State_modSegs hP _ _ h3)
  clear_value t4
  have h5 : P t5 := keep_showResync hP _ (keep_showUnrec hP _ (keep_freeBands hP _ h4))
  clear_value t5
  have h6 : P t6 := by
    dsimp only [t6]
    split
    · exact h5
    · exact keep_shelfReset hP _ _ h5
  clear_value t6
  exact keep_zoneTo hP _ _ _ (keep_State_setZone hP _ _ _ h6)


theorem keep_dropWaiting (hP : Closed bySettle P) (z : ℕ) (e : ℕ) (s : State) (hs : P s) :
    P (dropWaiting z e s) := by
  unfold dropWaiting
  repeat' first
    | with_reducible assumption
    | with_reducible rfl
    | with_reducible exact List.prefix_rfl
    | with_reducible exact le_rfl
    | with_reducible exact fun h => h
    | exact fun h => Memory.wf_writeList _ _ h
    | exact Nat.le_add_right _ _
    | with_reducible exact List.prefix_append _ _
    | with_reducible refine Closed.foldl _ _ _ (fun _ _ _ => ?_) ?_
    | split
    | with_reducible refine hP.build _ ?_ ?_ ?_ ?_

theorem keep_staleJobs (hP : Closed bySettle P) (m : RowRec) (s : State) (hs : P s) :
    P (staleJobs m s) := by
  unfold staleJobs
  repeat' first
    | with_reducible assumption
    | (extract_lets +onlyGivenNames t; refine (fun (_ : P t) => ?_) ?_; (on_goal 2 => (dsimp -zeta only [t]; clear t)); (on_goal 1 => (clear_value t; rename' t => w)))
    | (extract_lets +onlyGivenNames t; refine (fun (_ : P t.1) => ?_) ?_; (on_goal 2 => (dsimp -zeta only [t]; clear t)); (on_goal 1 => (clear_value t; rename' t => w)))
    | (extract_lets +onlyGivenNames t; clear_value t; rename' t => w)
    | with_reducible rfl
    | with_reducible exact List.prefix_rfl
    | with_reducible exact le_rfl
    | with_reducible exact fun h => h
    | exact fun h => Memory.wf_writeList _ _ h
    | exact Nat.le_add_right _ _
    | with_reducible exact List.prefix_append _ _
    | with_reducible refine Closed.foldl _ _ _ (fun _ _ _ => ?_) ?_
    | split
    | with_reducible refine hP.build _ ?_ ?_ ?_ ?_

theorem keep_putRow (hP : Closed bySettle P) (m : RowRec) (s : State) (hs : P s) :
    P (putRow m s) := by
  unfold putRow
  repeat' first
    | with_reducible assumption
    | with_reducible refine keep_staleJobs hP _ _ ?_
    | with_reducible rfl
    | with_reducible exact List.prefix_rfl
    | with_reducible exact le_rfl
    | with_reducible exact fun h => h
    | exact fun h => Memory.wf_writeList _ _ h
    | exact Nat.le_add_right _ _
    | with_reducible exact List.prefix_append _ _
    | with_reducible refine Closed.foldl _ _ _ (fun _ _ _ => ?_) ?_
    | split
    | with_reducible refine hP.build _ ?_ ?_ ?_ ?_

theorem keep_appendSeg (hP : Closed bySettle P) (i : ℕ) (z : ℕ) (r : ℕ) (pos : ℕ) (s : State) (hs : P s) :
    P (appendSeg i z r pos s) := by
  unfold appendSeg
  repeat' first
    | with_reducible assumption
    | (extract_lets +onlyGivenNames t; refine (fun (_ : P t) => ?_) ?_; (on_goal 2 => (dsimp -zeta only [t]; clear t)); (on_goal 1 => (clear_value t; rename' t => w)))
    | (extract_lets +onlyGivenNames t; refine (fun (_ : P t.1) => ?_) ?_; (on_goal 2 => (dsimp -zeta only [t]; clear t)); (on_goal 1 => (clear_value t; rename' t => w)))
    | (extract_lets +onlyGivenNames t; clear_value t; rename' t => w)
    | with_reducible rfl
    | with_reducible exact List.prefix_rfl
    | with_reducible exact le_rfl
    | with_reducible exact fun h => h
    | exact fun h => Memory.wf_writeList _ _ h
    | exact Nat.le_add_right _ _
    | with_reducible exact List.prefix_append _ _
    | with_reducible refine Closed.foldl _ _ _ (fun _ _ _ => ?_) ?_
    | split
    | with_reducible refine hP.build _ ?_ ?_ ?_ ?_

theorem keep_addToSeg (hP : Closed bySettle P) (kind : SegKind) (target : ℕ) (source : ℕ) (pass : ℕ) (z : ℕ) (r : ℕ) (pos : ℕ) (s : State) (hs : P s) :
    P (addToSeg kind target source pass z r pos s) := by
  unfold addToSeg
  repeat' first
    | with_reducible assumption
    | with_reducible refine keep_State_modSegs hP _ _ ?_
    | with_reducible refine keep_appendSeg hP _ _ _ _ _ ?_
    | with_reducible refine keep_freeBands hP _ ?_
    | (extract_lets +onlyGivenNames t; refine (fun (_ : P t) => ?_) ?_; (on_goal 2 => (dsimp -zeta only [t]; clear t)); (on_goal 1 => (clear_value t; rename' t => w)))
    | (extract_lets +onlyGivenNames t; refine (fun (_ : P t.1) => ?_) ?_; (on_goal 2 => (dsimp -zeta only [t]; clear t)); (on_goal 1 => (clear_value t; rename' t => w)))
    | (extract_lets +onlyGivenNames t; clear_value t; rename' t => w)
    | with_reducible rfl
    | with_reducible exact List.prefix_rfl
    | with_reducible exact le_rfl
    | with_reducible exact fun h => h
    | exact fun h => Memory.wf_writeList _ _ h
    | exact Nat.le_add_right _ _
    | with_reducible exact List.prefix_append _ _
    | with_reducible refine Closed.foldl _ _ _ (fun _ _ _ => ?_) ?_
    | split
    | with_reducible refine hP.build _ ?_ ?_ ?_ ?_

theorem keep_redirectFrame (hP : Closed bySettle P) (z : ℕ) (r : ℕ) (d : ℕ) (pos : ℕ) (s : State) (hs : P s) :
    P (redirectFrame z r d pos s) := by
  unfold redirectFrame
  repeat' first
    | with_reducible assumption
    | with_reducible refine keep_addToSeg hP _ _ _ _ _ _ _ _ ?_
    | (extract_lets +onlyGivenNames t; refine (fun (_ : P t) => ?_) ?_; (on_goal 2 => (dsimp -zeta only [t]; clear t)); (on_goal 1 => (clear_value t; rename' t => w)))
    | (extract_lets +onlyGivenNames t; refine (fun (_ : P t.1) => ?_) ?_; (on_goal 2 => (dsimp -zeta only [t]; clear t)); (on_goal 1 => (clear_value t; rename' t => w)))
    | (extract_lets +onlyGivenNames t; clear_value t; rename' t => w)
    | with_reducible rfl
    | with_reducible exact List.prefix_rfl
    | with_reducible exact le_rfl
    | with_reducible exact fun h => h
    | exact fun h => Memory.wf_writeList _ _ h
    | exact Nat.le_add_right _ _
    | with_reducible exact List.prefix_append _ _
    | with_reducible refine Closed.foldl _ _ _ (fun _ _ _ => ?_) ?_
    | split
    | with_reducible refine hP.build _ ?_ ?_ ?_ ?_

theorem keep_redirectFrames (hP : Closed bySettle P) (z : ℕ) (r : ℕ) (d : ℕ) (todo : List ℕ) (s : State) (hs : P s) :
    P (redirectFrames z r d todo s) := by
  unfold redirectFrames
  repeat' first
    | with_reducible assumption
    | with_reducible refine Closed.forAll _ _ _ (fun _ _ _ => ?_) ?_
    | with_reducible refine keep_redirectFrame hP _ _ _ _ _ ?_
    | with_reducible refine Closed.foldl _ _ _ (fun _ _ _ => ?_) ?_
    | split

theorem keep_layRow (hP : Closed bySettle P) (z : ℕ) (r : ℕ) (blocks : ℕ) (s : State) (hs : P s) :
    P (layRow z r blocks s) := by
  unfold layRow
  repeat' first
    | with_reducible assumption
    | with_reducible refine keep_putRow hP _ _ ?_
    | with_reducible refine keep_redirectFrames hP _ _ _ _ _ ?_
    | with_reducible refine keep_writeParities hP _ _ _ _ ?_
    | (extract_lets +onlyGivenNames t; refine (fun (_ : P t) => ?_) ?_; (on_goal 2 => (dsimp -zeta only [t]; clear t)); (on_goal 1 => (clear_value t; rename' t => w)))
    | (extract_lets +onlyGivenNames t; refine (fun (_ : P t.1) => ?_) ?_; (on_goal 2 => (dsimp -zeta only [t]; clear t)); (on_goal 1 => (clear_value t; rename' t => w)))
    | (extract_lets +onlyGivenNames t; clear_value t; rename' t => w)
    | with_reducible refine Closed.foldl _ _ _ (fun _ _ _ => ?_) ?_
    | split

theorem keep_fillFront (hP : Closed bySettle P) (z : ℕ) (s : State) (hs : P s) :
    P (fillFront z s) := by
  unfold fillFront
  repeat' first
    | with_reducible assumption
    | with_reducible rfl
    | with_reducible exact List.prefix_rfl
    | with_reducible exact le_rfl
    | with_reducible exact fun h => h
    | exact fun h => Memory.wf_writeList _ _ h
    | exact Nat.le_add_right _ _
    | with_reducible exact List.prefix_append _ _
    | with_reducible refine Closed.foldl _ _ _ (fun _ _ _ => ?_) ?_
    | split
    | with_reducible refine hP.build _ ?_ ?_ ?_ ?_

theorem keep_poisonLine (hP : Closed bySettle P) (line : ℕ) (s : State) (hs : P s) :
    P (poisonLine line s) := by
  unfold poisonLine
  repeat' first
    | with_reducible assumption
    | with_reducible rfl
    | with_reducible exact List.prefix_rfl
    | with_reducible exact le_rfl
    | with_reducible exact fun h => h
    | exact fun h => Memory.wf_writeList _ _ h
    | exact Nat.le_add_right _ _
    | with_reducible exact List.prefix_append _ _
    | with_reducible refine Closed.foldl _ _ _ (fun _ _ _ => ?_) ?_
    | split
    | with_reducible refine hP.build _ ?_ ?_ ?_ ?_

theorem keep_copyPoison (hP : Closed bySettle P) (a : ℕ) (b : ℕ) (n : ℕ) (s : State) (hs : P s) :
    P (copyPoison a b n s) := by
  unfold copyPoison
  repeat' first
    | with_reducible assumption
    | with_reducible refine keep_cleanRange hP _ _ _ ?_
    | with_reducible refine Closed.forAll _ _ _ (fun _ _ _ => ?_) ?_
    | with_reducible refine keep_poisonLine hP _ _ ?_
    | with_reducible refine Closed.foldl _ _ _ (fun _ _ _ => ?_) ?_
    | split

theorem keep_padFrom (hP : Closed bySettle P) (a : ℕ) (n : ℕ) (s : State) (hs : P s) :
    P (padFrom a n s) := by
  exact keep_cleanRange hP _ _ _ (hP.record s _ rfl
    (fun h => Memory.wf_foldl _ _ _ (fun _ _ => Memory.wf_writePad _) h) List.prefix_rfl le_rfl hs)


theorem keep_frontierImage (hP : Closed bySettle P) (z : ℕ) (r : ℕ) (pos : ℕ) (n : ℕ) (s : State) (hs : P s) :
    P (frontierImage z r pos n s) := by
  unfold frontierImage
  repeat' first
    | with_reducible assumption
    | with_reducible refine keep_copyPoison hP _ _ _ _ ?_
    | with_reducible refine keep_padFrom hP _ _ _ ?_
    | (extract_lets +onlyGivenNames t; refine (fun (_ : P t) => ?_) ?_; (on_goal 2 => (dsimp -zeta only [t]; clear t)); (on_goal 1 => (clear_value t; rename' t => w)))
    | (extract_lets +onlyGivenNames t; refine (fun (_ : P t.1) => ?_) ?_; (on_goal 2 => (dsimp -zeta only [t]; clear t)); (on_goal 1 => (clear_value t; rename' t => w)))
    | (extract_lets +onlyGivenNames t; clear_value t; rename' t => w)
    | with_reducible rfl
    | with_reducible exact List.prefix_rfl
    | with_reducible exact le_rfl
    | with_reducible exact fun h => h
    | exact fun h => Memory.wf_writeList _ _ h
    | exact Nat.le_add_right _ _
    | with_reducible exact List.prefix_append _ _
    | with_reducible refine Closed.foldl _ _ _ (fun _ _ _ => ?_) ?_
    | split
    | with_reducible refine hP.build _ ?_ ?_ ?_ ?_

theorem keep_setFront (hP : Closed bySettle P) (z : ℕ) (r : ℕ) (pos : ℕ) (part : ℕ) (s : State) (hs : P s) :
    P (setFront z r pos part s) := by
  unfold setFront
  repeat' first
    | with_reducible assumption
    | with_reducible refine keep_fillFront hP _ _ ?_
    | (extract_lets +onlyGivenNames t; refine (fun (_ : P t) => ?_) ?_; (on_goal 2 => (dsimp -zeta only [t]; clear t)); (on_goal 1 => (clear_value t; rename' t => w)))
    | (extract_lets +onlyGivenNames t; refine (fun (_ : P t.1) => ?_) ?_; (on_goal 2 => (dsimp -zeta only [t]; clear t)); (on_goal 1 => (clear_value t; rename' t => w)))
    | (extract_lets +onlyGivenNames t; clear_value t; rename' t => w)
    | with_reducible rfl
    | with_reducible exact List.prefix_rfl
    | with_reducible exact le_rfl
    | with_reducible exact fun h => h
    | exact fun h => Memory.wf_writeList _ _ h
    | exact Nat.le_add_right _ _
    | with_reducible exact List.prefix_append _ _
    | with_reducible refine Closed.foldl _ _ _ (fun _ _ _ => ?_) ?_
    | split
    | with_reducible refine hP.build _ ?_ ?_ ?_ ?_

theorem keep_showFront (hP : Closed bySettle P) (z : ℕ) (r : ℕ) (blocks : ℕ) (s : State) (hs : P s) :
    P (showFront z r blocks s) := by
  unfold showFront
  repeat' first
    | with_reducible assumption
    | with_reducible refine keep_fillFront hP _ _ ?_
    | with_reducible refine keep_frontierImage hP _ _ _ _ _ ?_
    | with_reducible refine keep_setFront hP _ _ _ _ _ ?_
    | with_reducible refine Closed.foldl _ _ _ (fun _ _ _ => ?_) ?_
    | split

theorem keep_clearDefer (hP : Closed bySettle P) (x : ℕ) (b : ℕ) (s : State) (hs : P s) :
    P (clearDefer x b s) := by
  unfold clearDefer
  repeat' first
    | with_reducible assumption
    | (extract_lets +onlyGivenNames t; refine (fun (_ : P t) => ?_) ?_; (on_goal 2 => (dsimp -zeta only [t]; clear t)); (on_goal 1 => (clear_value t; rename' t => w)))
    | (extract_lets +onlyGivenNames t; refine (fun (_ : P t.1) => ?_) ?_; (on_goal 2 => (dsimp -zeta only [t]; clear t)); (on_goal 1 => (clear_value t; rename' t => w)))
    | (extract_lets +onlyGivenNames t; clear_value t; rename' t => w)
    | with_reducible rfl
    | with_reducible exact List.prefix_rfl
    | with_reducible exact le_rfl
    | with_reducible exact fun h => h
    | exact fun h => Memory.wf_writeList _ _ h
    | exact Nat.le_add_right _ _
    | with_reducible exact List.prefix_append _ _
    | with_reducible refine Closed.foldl _ _ _ (fun _ _ _ => ?_) ?_
    | split
    | with_reducible refine hP.build _ ?_ ?_ ?_ ?_

theorem keep_clearFirst (hP : Closed bySettle P) (r : RowRec) (s : State) (hs : P s) :
    P (clearFirst r s) := by
  unfold clearFirst
  repeat' first
    | with_reducible assumption
    | with_reducible refine keep_clearDefer hP _ _ _ ?_
    | with_reducible refine Closed.forAll _ _ _ (fun _ _ _ => ?_) ?_
    | with_reducible refine Closed.foldl _ _ _ (fun _ _ _ => ?_) ?_
    | split

theorem keep_fillJobs (hP : Closed bySettle P) (s : State) (hs : P s) :
    P (fillJobs s) := by
  unfold fillJobs
  repeat' first
    | with_reducible assumption
    | with_reducible refine keep_clearFirst hP _ _ ?_
    | with_reducible refine Closed.forAll _ _ _ (fun _ _ _ => ?_) ?_
    | (extract_lets +onlyGivenNames t; refine (fun (_ : P t) => ?_) ?_; (on_goal 2 => (dsimp -zeta only [t]; clear t)); (on_goal 1 => (clear_value t; rename' t => w)))
    | (extract_lets +onlyGivenNames t; refine (fun (_ : P t.1) => ?_) ?_; (on_goal 2 => (dsimp -zeta only [t]; clear t)); (on_goal 1 => (clear_value t; rename' t => w)))
    | (extract_lets +onlyGivenNames t; clear_value t; rename' t => w)
    | with_reducible rfl
    | with_reducible exact List.prefix_rfl
    | with_reducible exact le_rfl
    | with_reducible exact fun h => h
    | exact fun h => Memory.wf_writeList _ _ h
    | exact Nat.le_add_right _ _
    | with_reducible exact List.prefix_append _ _
    | with_reducible refine Closed.foldl _ _ _ (fun _ _ _ => ?_) ?_
    | split
    | with_reducible refine hP.build _ ?_ ?_ ?_ ?_

theorem keep_finishByController (hP : Closed bySettle P) (z : ℕ) (r : ℕ) (s : State) (hs : P s) :
    P (finishByController z r s) := by
  have hR := hP.ofSettle
  unfold finishByController
  repeat' first
    | with_reducible assumption
    | with_reducible refine hP.set _ ACD_KDUE _ _ into_ACD_KDUE ?_
    | with_reducible refine keep_State_setZone hP _ _ _ ?_
    | with_reducible refine keep_dropRows hP _ _ _ ?_
    | with_reducible refine keep_pulse hR _ _ _ ?_
    | (extract_lets +onlyGivenNames t; refine (fun (_ : P t) => ?_) ?_; (on_goal 2 => (dsimp -zeta only [t]; clear t)); (on_goal 1 => (clear_value t; rename' t => w)))
    | (extract_lets +onlyGivenNames t; refine (fun (_ : P t.1) => ?_) ?_; (on_goal 2 => (dsimp -zeta only [t]; clear t)); (on_goal 1 => (clear_value t; rename' t => w)))
    | (extract_lets +onlyGivenNames t; clear_value t; rename' t => w)
    | with_reducible rfl
    | with_reducible exact List.prefix_rfl
    | with_reducible exact le_rfl
    | with_reducible exact fun h => h
    | exact fun h => Memory.wf_writeList _ _ h
    | exact Nat.le_add_right _ _
    | with_reducible exact List.prefix_append _ _
    | with_reducible refine Closed.foldl _ _ _ (fun _ _ _ => ?_) ?_
    | split
    | with_reducible refine hP.build _ ?_ ?_ ?_ ?_

theorem keep_takeRow (hP : Closed bySettle P) (m : RowRec) (s : State) (hs : P s) :
    P (takeRow m s) := by
  unfold takeRow
  repeat' first
    | with_reducible assumption
    | with_reducible refine keep_clearFirst hP _ _ ?_
    | with_reducible refine keep_fillJobs hP _ ?_
    | with_reducible refine keep_finishByController hP _ _ _ ?_
    | (extract_lets +onlyGivenNames t; refine (fun (_ : P t) => ?_) ?_; (on_goal 2 => (dsimp -zeta only [t]; clear t)); (on_goal 1 => (clear_value t; rename' t => w)))
    | (extract_lets +onlyGivenNames t; refine (fun (_ : P t.1) => ?_) ?_; (on_goal 2 => (dsimp -zeta only [t]; clear t)); (on_goal 1 => (clear_value t; rename' t => w)))
    | (extract_lets +onlyGivenNames t; clear_value t; rename' t => w)
    | with_reducible rfl
    | with_reducible exact List.prefix_rfl
    | with_reducible exact le_rfl
    | with_reducible exact fun h => h
    | exact fun h => Memory.wf_writeList _ _ h
    | exact Nat.le_add_right _ _
    | with_reducible exact List.prefix_append _ _
    | with_reducible refine Closed.foldl _ _ _ (fun _ _ _ => ?_) ?_
    | split
    | with_reducible refine hP.build _ ?_ ?_ ?_ ?_

theorem keep_frontierWrite (hP : Closed bySettle P) (z : ℕ) (s : State) (hs : P s) :
    P (frontierWrite z s) := by
  unfold frontierWrite
  repeat' first
    | with_reducible assumption
    | with_reducible refine keep_layRow hP _ _ _ _ ?_
    | with_reducible refine keep_showFront hP _ _ _ _ ?_
    | with_reducible refine keep_takeRow hP _ _ ?_
    | (extract_lets +onlyGivenNames t; refine (fun (_ : P t) => ?_) ?_; (on_goal 2 => (dsimp -zeta only [t]; clear t)); (on_goal 1 => (clear_value t; rename' t => w)))
    | (extract_lets +onlyGivenNames t; refine (fun (_ : P t.1) => ?_) ?_; (on_goal 2 => (dsimp -zeta only [t]; clear t)); (on_goal 1 => (clear_value t; rename' t => w)))
    | (extract_lets +onlyGivenNames t; clear_value t; rename' t => w)
    | with_reducible refine Closed.foldl _ _ _ (fun _ _ _ => ?_) ?_
    | split

theorem keep_logParity (hP : Closed bySettle P) (z : ℕ) (r : ℕ) (i : ℕ) (s : State) (hs : P s) :
    P (logParity z r i s) := by
  unfold logParity
  repeat' first
    | with_reducible assumption
    | with_reducible refine hP.add _ MGR_PLOGWP _ _ into_MGR_PLOGWP ?_
    | with_reducible refine hP.set _ MGR_PLOGA _ _ into_MGR_PLOGA ?_
    | with_reducible refine keep_reservedSend hP _ _ _ _ _ _ ?_
    | (extract_lets +onlyGivenNames t; refine (fun (_ : P t) => ?_) ?_; (on_goal 2 => (dsimp -zeta only [t]; clear t)); (on_goal 1 => (clear_value t; rename' t => w)))
    | (extract_lets +onlyGivenNames t; refine (fun (_ : P t.1) => ?_) ?_; (on_goal 2 => (dsimp -zeta only [t]; clear t)); (on_goal 1 => (clear_value t; rename' t => w)))
    | (extract_lets +onlyGivenNames t; clear_value t; rename' t => w)
    | with_reducible rfl
    | with_reducible exact List.prefix_rfl
    | with_reducible exact le_rfl
    | with_reducible exact fun h => h
    | exact fun h => Memory.wf_writeList _ _ h
    | exact Nat.le_add_right _ _
    | with_reducible exact List.prefix_append _ _
    | with_reducible refine Closed.foldl _ _ _ (fun _ _ _ => ?_) ?_
    | split
    | with_reducible refine hP.build _ ?_ ?_ ?_ ?_

theorem keep_putShelf (hP : Closed bySettle P) (z : ℕ) (r : ℕ) (blocks : ℕ) (s : State) (hs : P s) :
    P (putShelf z r blocks s) := by
  unfold putShelf
  repeat' first
    | with_reducible assumption
    | (extract_lets +onlyGivenNames t; refine (fun (_ : P t) => ?_) ?_; (on_goal 2 => (dsimp -zeta only [t]; clear t)); (on_goal 1 => (clear_value t; rename' t => w)))
    | (extract_lets +onlyGivenNames t; refine (fun (_ : P t.1) => ?_) ?_; (on_goal 2 => (dsimp -zeta only [t]; clear t)); (on_goal 1 => (clear_value t; rename' t => w)))
    | (extract_lets +onlyGivenNames t; clear_value t; rename' t => w)
    | with_reducible rfl
    | with_reducible exact List.prefix_rfl
    | with_reducible exact le_rfl
    | with_reducible exact fun h => h
    | exact fun h => Memory.wf_writeList _ _ h
    | exact Nat.le_add_right _ _
    | with_reducible exact List.prefix_append _ _
    | with_reducible refine Closed.foldl _ _ _ (fun _ _ _ => ?_) ?_
    | split
    | with_reducible refine hP.build _ ?_ ?_ ?_ ?_

theorem keep_sendData (hP : Closed bySettle P) (z : ℕ) (r : ℕ) (b0 : ℕ) (b1 : ℕ) (s : State) (hs : P s) :
    P (sendData z r b0 b1 s) := by
  unfold sendData
  repeat' first
    | with_reducible assumption
    | with_reducible refine Closed.forBelow _ _ _ (fun _ _ _ => ?_) ?_
    | with_reducible refine keep_unitSend hP _ _ _ _ _ _ ?_
    | (extract_lets +onlyGivenNames t; refine (fun (_ : P t) => ?_) ?_; (on_goal 2 => (dsimp -zeta only [t]; clear t)); (on_goal 1 => (clear_value t; rename' t => w)))
    | (extract_lets +onlyGivenNames t; refine (fun (_ : P t.1) => ?_) ?_; (on_goal 2 => (dsimp -zeta only [t]; clear t)); (on_goal 1 => (clear_value t; rename' t => w)))
    | (extract_lets +onlyGivenNames t; clear_value t; rename' t => w)
    | with_reducible refine Closed.foldl _ _ _ (fun _ _ _ => ?_) ?_
    | split

theorem keep_shelfFrontier (hP : Closed bySettle P) (z : ℕ) (s : State) (hs : P s) :
    P (shelfFrontier z s) := by
  unfold shelfFrontier
  repeat' first
    | with_reducible assumption
    | with_reducible refine Closed.forBelow _ _ _ (fun _ _ _ => ?_) ?_
    | with_reducible refine keep_logParity hP _ _ _ _ ?_
    | with_reducible refine keep_putShelf hP _ _ _ _ ?_
    | with_reducible refine keep_sendData hP _ _ _ _ _ ?_
    | with_reducible refine keep_writeParities hP _ _ _ _ ?_
    | (extract_lets +onlyGivenNames t; refine (fun (_ : P t) => ?_) ?_; (on_goal 2 => (dsimp -zeta only [t]; clear t)); (on_goal 1 => (clear_value t; rename' t => w)))
    | (extract_lets +onlyGivenNames t; refine (fun (_ : P t.1) => ?_) ?_; (on_goal 2 => (dsimp -zeta only [t]; clear t)); (on_goal 1 => (clear_value t; rename' t => w)))
    | (extract_lets +onlyGivenNames t; clear_value t; rename' t => w)
    | with_reducible refine Closed.foldl _ _ _ (fun _ _ _ => ?_) ?_
    | split

theorem keep_tryFrontier (hP : Closed bySettle P) (z : ℕ) (s : State) (hs : P s) :
    P (tryFrontier z s) := by
  unfold tryFrontier
  repeat' first
    | with_reducible assumption
    | with_reducible refine keep_dropWaiting hP _ _ _ ?_
    | with_reducible refine keep_frontierWrite hP _ _ ?_
    | with_reducible refine keep_shelfFrontier hP _ _ ?_
    | (extract_lets +onlyGivenNames t; refine (fun (_ : P t) => ?_) ?_; (on_goal 2 => (dsimp -zeta only [t]; clear t)); (on_goal 1 => (clear_value t; rename' t => w)))
    | (extract_lets +onlyGivenNames t; refine (fun (_ : P t.1) => ?_) ?_; (on_goal 2 => (dsimp -zeta only [t]; clear t)); (on_goal 1 => (clear_value t; rename' t => w)))
    | (extract_lets +onlyGivenNames t; clear_value t; rename' t => w)
    | with_reducible refine Closed.foldl _ _ _ (fun _ _ _ => ?_) ?_
    | split

theorem keep_actZone (hP : Closed bySettle P) (act : ℕ) (z : ℕ) (s : State) (hs : P s) :
    P (actZone act z s).1 := by
  unfold actZone
  repeat' first
    | with_reducible assumption
    | with_reducible refine keep_dropRa hP _ _ ?_
    | with_reducible refine keep_finishZone hP _ _ ?_
    | with_reducible refine keep_resetZone hP _ _ ?_
    | with_reducible refine keep_tryFrontier hP _ _ ?_
    | with_reducible refine keep_zoneTo hP _ _ _ ?_
    | (extract_lets +onlyGivenNames t; refine (fun (_ : P t) => ?_) ?_; (on_goal 2 => (dsimp -zeta only [t]; clear t)); (on_goal 1 => (clear_value t; rename' t => w)))
    | (extract_lets +onlyGivenNames t; refine (fun (_ : P t.1) => ?_) ?_; (on_goal 2 => (dsimp -zeta only [t]; clear t)); (on_goal 1 => (clear_value t; rename' t => w)))
    | (extract_lets +onlyGivenNames t; clear_value t; rename' t => w)
    | with_reducible refine Closed.foldl _ _ _ (fun _ _ _ => ?_) ?_
    | split

theorem keep_actStep (hP : Closed bySettle P) (c : NvCmd) (s : State) (hs : P s) :
    P (actStep c s) := by
  unfold actStep
  extract_lets r
  have hr : P r.1 := Closed.foldFst _ _ _ (fun q z hq => keep_actZone hP _ _ _ hq) hs
  clear_value r
  split
  · exact keep_finish hP _ _ _ hr
  · exact keep_State_modCmd hP _ _ _ hr


theorem keep_endActivation (hP : Closed bySettle P) (st : NvStatus) (s : State) (hs : P s) :
    P (endActivation st s) := by
  unfold endActivation
  repeat' first
    | with_reducible assumption
    | with_reducible refine hP.setMany _ _ _ (by simp only [List.all_cons, List.all_nil, Bool.and_true, Bool.and_self, into_NVQ_ACTHELD, into_NVQ_STS_ACTIVATING]) ?_
    | with_reducible refine keep_finish hP _ _ _ ?_
    | with_reducible refine Closed.forAll _ _ _ (fun _ _ _ => ?_) ?_
    | (extract_lets +onlyGivenNames t; refine (fun (_ : P t) => ?_) ?_; (on_goal 2 => (dsimp -zeta only [t]; clear t)); (on_goal 1 => (clear_value t; rename' t => w)))
    | (extract_lets +onlyGivenNames t; refine (fun (_ : P t.1) => ?_) ?_; (on_goal 2 => (dsimp -zeta only [t]; clear t)); (on_goal 1 => (clear_value t; rename' t => w)))
    | (extract_lets +onlyGivenNames t; clear_value t; rename' t => w)
    | with_reducible refine Closed.foldl _ _ _ (fun _ _ _ => ?_) ?_
    | split

theorem keep_failActivation (hP : Closed bySettle P) (st : NvStatus) (s : State) (hs : P s) :
    P (failActivation st s) := by
  have hR := hP.ofSettle
  unfold failActivation
  repeat' first
    | with_reducible assumption
    | with_reducible refine keep_endActivation hP _ _ ?_
    | with_reducible refine keep_pulse hR _ _ _ ?_
    | with_reducible refine Closed.foldl _ _ _ (fun _ _ _ => ?_) ?_
    | split

theorem keep_activationTimeout (hP : Closed bySettle P) (s : State) (hs : P s) :
    P (activationTimeout s) := by
  unfold activationTimeout
  repeat' first
    | with_reducible assumption
    | with_reducible refine hP.setBit _ LPE_CMT_STS_PENDING _ _ _ into_LPE_CMT_STS_PENDING ?_
    | with_reducible refine keep_failActivation hP _ _ ?_
    | with_reducible refine Closed.foldl _ _ _ (fun _ _ _ => ?_) ?_
    | split

theorem keep_addOp (hP : Closed bySettle P) (o : MediaOp) (s : State) (hs : P s) :
    P (addOp o s) := by
  unfold addOp
  repeat' first
    | with_reducible assumption
    | with_reducible refine keep_showInfl hP _ ?_
    | with_reducible rfl
    | with_reducible exact List.prefix_rfl
    | with_reducible exact le_rfl
    | with_reducible exact fun h => h
    | exact fun h => Memory.wf_writeList _ _ h
    | exact Nat.le_add_right _ _
    | with_reducible exact List.prefix_append _ _
    | with_reducible refine Closed.foldl _ _ _ (fun _ _ _ => ?_) ?_
    | split
    | with_reducible refine hP.build _ ?_ ?_ ?_ ?_

theorem keep_addRead (hP : Closed bySettle P) (mtag : ℕ) (kind : MediaKind) (host : Bool) (z : ℕ) (r : ℕ) (pos : ℕ) (mask : ℕ) (d : ℕ) (s : State) (hs : P s) :
    P (addRead mtag kind host z r pos mask d s) := by
  unfold addRead
  repeat' first
    | with_reducible assumption
    | with_reducible refine keep_State_modOp hP _ _ _ ?_
    | with_reducible refine keep_unitCmd hP _ _ _ _ _ ?_
    | (extract_lets +onlyGivenNames t; refine (fun (_ : P t) => ?_) ?_; (on_goal 2 => (dsimp -zeta only [t]; clear t)); (on_goal 1 => (clear_value t; rename' t => w)))
    | (extract_lets +onlyGivenNames t; refine (fun (_ : P t.1) => ?_) ?_; (on_goal 2 => (dsimp -zeta only [t]; clear t)); (on_goal 1 => (clear_value t; rename' t => w)))
    | (extract_lets +onlyGivenNames t; clear_value t; rename' t => w)
    | with_reducible rfl
    | with_reducible exact List.prefix_rfl
    | with_reducible exact le_rfl
    | with_reducible exact fun h => h
    | exact fun h => Memory.wf_writeList _ _ h
    | exact Nat.le_add_right _ _
    | with_reducible exact List.prefix_append _ _
    | with_reducible refine Closed.foldl _ _ _ (fun _ _ _ => ?_) ?_
    | split
    | with_reducible refine hP.build _ ?_ ?_ ?_ ?_

theorem keep_addUnrec (hP : Closed bySettle P) (z : ℕ) (off : ℕ) (s : State) (hs : P s) :
    P (addUnrec z off s) := by
  have hR := hP.ofSettle
  unfold addUnrec
  repeat' first
    | with_reducible assumption
    | with_reducible refine hP.set _ ACD_JREQ _ _ into_ACD_JREQ ?_
    | with_reducible refine hP.setMany _ _ _ (by simp only [List.all_cons, List.all_nil, Bool.and_true, Bool.and_self, into_ACD_JREQ, into_ACD_STS_UNREC_FULL]) ?_
    | with_reducible refine keep_State_setZone hP _ _ _ ?_
    | with_reducible refine keep_pulse hR _ _ _ ?_
    | with_reducible refine keep_showUnrec hP _ ?_
    | (extract_lets +onlyGivenNames t; refine (fun (_ : P t) => ?_) ?_; (on_goal 2 => (dsimp -zeta only [t]; clear t)); (on_goal 1 => (clear_value t; rename' t => w)))
    | (extract_lets +onlyGivenNames t; refine (fun (_ : P t.1) => ?_) ?_; (on_goal 2 => (dsimp -zeta only [t]; clear t)); (on_goal 1 => (clear_value t; rename' t => w)))
    | (extract_lets +onlyGivenNames t; clear_value t; rename' t => w)
    | with_reducible rfl
    | with_reducible exact List.prefix_rfl
    | with_reducible exact le_rfl
    | with_reducible exact fun h => h
    | exact fun h => Memory.wf_writeList _ _ h
    | exact Nat.le_add_right _ _
    | with_reducible exact List.prefix_append _ _
    | with_reducible refine Closed.foldl _ _ _ (fun _ _ _ => ?_) ?_
    | split
    | with_reducible refine hP.build _ ?_ ?_ ?_ ?_

theorem keep_adoptShelf (hP : Closed bySettle P) (z : ℕ) (ptr : ℕ) (bad : List (ℕ × ℕ)) (s : State) (hs : P s) :
    P (adoptShelf z ptr bad s) := by
  unfold adoptShelf
  repeat' first
    | with_reducible assumption
    | with_reducible refine keep_State_setZone hP _ _ _ ?_
    | (extract_lets +onlyGivenNames t; refine (fun (_ : P t) => ?_) ?_; (on_goal 2 => (dsimp -zeta only [t]; clear t)); (on_goal 1 => (clear_value t; rename' t => w)))
    | (extract_lets +onlyGivenNames t; refine (fun (_ : P t.1) => ?_) ?_; (on_goal 2 => (dsimp -zeta only [t]; clear t)); (on_goal 1 => (clear_value t; rename' t => w)))
    | (extract_lets +onlyGivenNames t; clear_value t; rename' t => w)
    | with_reducible rfl
    | with_reducible exact List.prefix_rfl
    | with_reducible exact le_rfl
    | with_reducible exact fun h => h
    | exact fun h => Memory.wf_writeList _ _ h
    | exact Nat.le_add_right _ _
    | with_reducible exact List.prefix_append _ _
    | with_reducible refine Closed.foldl _ _ _ (fun _ _ _ => ?_) ?_
    | split
    | with_reducible refine hP.build _ ?_ ?_ ?_ ?_

theorem keep_showLeft (hP : Closed bySettle P) (s : State) (hs : P s) :
    P (showLeft s) := by
  unfold showLeft
  repeat' first
    | with_reducible assumption
    | with_reducible refine hP.set _ ACD_RBLD_LEFT _ _ into_ACD_RBLD_LEFT ?_
    | with_reducible refine Closed.foldl _ _ _ (fun _ _ _ => ?_) ?_
    | split

theorem keep_advancePass (hP : Closed bySettle P) (p : ℕ) (s : State) (hs : P s) :
    P (advancePass p s) := by
  have hR := hP.ofSettle
  unfold advancePass
  repeat' first
    | with_reducible assumption
    | with_reducible refine hP.bump _ ACD_VISIT _ into_ACD_VISIT ?_
    | with_reducible refine keep_movePass hR _ _ _ ?_
    | with_reducible refine keep_showLeft hP _ ?_
    | with_reducible refine Closed.foldl _ _ _ (fun _ _ _ => ?_) ?_
    | split

theorem keep_advanceReady (hP : Closed bySettle P) (z : ℕ) (s : State) (hs : P s) :
    P (advanceReady z s) := by
  unfold advanceReady
  repeat' first
    | with_reducible assumption
    | with_reducible refine keep_State_setZone hP _ _ _ ?_
    | (extract_lets +onlyGivenNames t; refine (fun (_ : P t) => ?_) ?_; (on_goal 2 => (dsimp -zeta only [t]; clear t)); (on_goal 1 => (clear_value t; rename' t => w)))
    | (extract_lets +onlyGivenNames t; refine (fun (_ : P t.1) => ?_) ?_; (on_goal 2 => (dsimp -zeta only [t]; clear t)); (on_goal 1 => (clear_value t; rename' t => w)))
    | (extract_lets +onlyGivenNames t; clear_value t; rename' t => w)
    | with_reducible rfl
    | with_reducible exact List.prefix_rfl
    | with_reducible exact le_rfl
    | with_reducible exact fun h => h
    | exact fun h => Memory.wf_writeList _ _ h
    | exact Nat.le_add_right _ _
    | with_reducible exact List.prefix_append _ _
    | with_reducible refine Closed.foldl _ _ _ (fun _ _ _ => ?_) ?_
    | with_reducible refine Closed.repeat _ _ _ (fun _ _ => ?_) ?_
    | split
    | with_reducible refine hP.build _ ?_ ?_ ?_ ?_

theorem keep_parityAnew (hP : Closed bySettle P) (x : RowRec) (s : State) (hs : P s) :
    P (parityAnew x s) := by
  have hR := hP.ofSettle
  unfold parityAnew
  repeat' first
    | with_reducible assumption
    | with_reducible refine keep_State_modFrames hR _ _ _ ?_
    | with_reducible refine keep_fillJobs hP _ ?_
    | with_reducible refine keep_writeParities hP _ _ _ _ ?_
    | (extract_lets +onlyGivenNames t; refine (fun (_ : P t) => ?_) ?_; (on_goal 2 => (dsimp -zeta only [t]; clear t)); (on_goal 1 => (clear_value t; rename' t => w)))
    | (extract_lets +onlyGivenNames t; refine (fun (_ : P t.1) => ?_) ?_; (on_goal 2 => (dsimp -zeta only [t]; clear t)); (on_goal 1 => (clear_value t; rename' t => w)))
    | (extract_lets +onlyGivenNames t; clear_value t; rename' t => w)
    | with_reducible rfl
    | with_reducible exact List.prefix_rfl
    | with_reducible exact le_rfl
    | with_reducible exact fun h => h
    | exact fun h => Memory.wf_writeList _ _ h
    | exact Nat.le_add_right _ _
    | with_reducible exact List.prefix_append _ _
    | with_reducible refine Closed.foldl _ _ _ (fun _ _ _ => ?_) ?_
    | split
    | with_reducible refine hP.build _ ?_ ?_ ?_ ?_

theorem keep_takeSources (hP : Closed bySettle P) (mtag : ℕ) (a : ℕ) (a2 : State) (ha2 : P a2) :
    P (takeSources mtag a a2) := by
  induction a generalizing a2 with
  | zero =>
    unfold takeSources
    repeat' first
      | with_reducible assumption
      | with_reducible refine keep_State_modOp hP _ _ _ ?_
      | with_reducible refine hP.used _ ?_
      | with_reducible refine keep_addRead hP _ _ _ _ _ _ _ _ _ ?_
      | with_reducible rfl
      | with_reducible exact List.prefix_rfl
      | with_reducible exact le_rfl
      | with_reducible exact fun h => h
      | exact fun h => Memory.wf_writeList _ _ h
      | exact Nat.le_add_right _ _
      | with_reducible exact List.prefix_append _ _
      | with_reducible refine Closed.foldl _ _ _ (fun _ _ _ => ?_) ?_
      | split
      | with_reducible refine hP.build _ ?_ ?_ ?_ ?_
  | succ k ih =>
    unfold takeSources
    repeat' first
      | with_reducible assumption
      | with_reducible refine ih _ ?_
      | with_reducible refine keep_State_modOp hP _ _ _ ?_
      | with_reducible refine hP.used _ ?_
      | with_reducible refine keep_addRead hP _ _ _ _ _ _ _ _ _ ?_
      | with_reducible rfl
      | with_reducible exact List.prefix_rfl
      | with_reducible exact le_rfl
      | with_reducible exact fun h => h
      | exact fun h => Memory.wf_writeList _ _ h
      | exact Nat.le_add_right _ _
      | with_reducible exact List.prefix_append _ _
      | with_reducible refine Closed.foldl _ _ _ (fun _ _ _ => ?_) ?_
      | split
      | with_reducible refine hP.build _ ?_ ?_ ?_ ?_

theorem keep_loseSource (hP : Closed bySettle P) (a : ℕ) (s : State) (hs : P s) :
    P (loseSource a s) := by
  unfold loseSource
  repeat' first
    | with_reducible assumption
    | with_reducible refine keep_State_modOp hP _ _ _ ?_
    | with_reducible refine Closed.forAll _ _ _ (fun _ _ _ => ?_) ?_
    | with_reducible refine keep_takeSources hP _ _ _ ?_
    | (extract_lets +onlyGivenNames t; refine (fun (_ : P t) => ?_) ?_; (on_goal 2 => (dsimp -zeta only [t]; clear t)); (on_goal 1 => (clear_value t; rename' t => w)))
    | (extract_lets +onlyGivenNames t; refine (fun (_ : P t.1) => ?_) ?_; (on_goal 2 => (dsimp -zeta only [t]; clear t)); (on_goal 1 => (clear_value t; rename' t => w)))
    | (extract_lets +onlyGivenNames t; clear_value t; rename' t => w)
    | with_reducible rfl
    | with_reducible exact List.prefix_rfl
    | with_reducible exact le_rfl
    | with_reducible exact fun h => h
    | exact fun h => Memory.wf_writeList _ _ h
    | exact Nat.le_add_right _ _
    | with_reducible exact List.prefix_append _ _
    | with_reducible refine Closed.foldl _ _ _ (fun _ _ _ => ?_) ?_
    | split
    | with_reducible refine hP.build _ ?_ ?_ ?_ ?_

theorem keep_showImages (hP : Closed bySettle P) (s : State) (hs : P s) :
    P (showImages s) := by
  unfold showImages
  repeat' first
    | with_reducible assumption
    | with_reducible refine hP.setMany _ _ _ (by simp only [List.all_cons, List.all_nil, Bool.and_true, Bool.and_self, into_LPE_IMGSTS_AEMPTY_C, into_LPE_IMGSTS_IEMPTY_C, into_LPE_IMGSTS_IVALID_C, into_LPE_IMGSTS_IVALID_V, into_LPE_IVER_C, into_LPE_IVER_V, into_LPE_VER_C, into_LPE_VER_V]) ?_
    | (extract_lets +onlyGivenNames t; refine (fun (_ : P t) => ?_) ?_; (on_goal 2 => (dsimp -zeta only [t]; clear t)); (on_goal 1 => (clear_value t; rename' t => w)))
    | (extract_lets +onlyGivenNames t; refine (fun (_ : P t.1) => ?_) ?_; (on_goal 2 => (dsimp -zeta only [t]; clear t)); (on_goal 1 => (clear_value t; rename' t => w)))
    | (extract_lets +onlyGivenNames t; clear_value t; rename' t => w)
    | with_reducible refine Closed.foldl _ _ _ (fun _ _ _ => ?_) ?_
    | split

theorem keep_takeGrants (hP : Closed bySettle P) (s : State) (hs : P s) :
    P (takeGrants s) := by
  unfold takeGrants
  repeat' first
    | with_reducible assumption
    | with_reducible refine hP.set _ LPE_CG_CUSTMASK _ _ into_LPE_CG_CUSTMASK ?_
    | with_reducible refine hP.set _ LPE_OUTCFG_CUST _ _ into_LPE_OUTCFG_CUST ?_
    | with_reducible refine Closed.forBelow _ _ _ (fun _ _ _ => ?_) ?_
    | (extract_lets +onlyGivenNames t; refine (fun (_ : P t) => ?_) ?_; (on_goal 2 => (dsimp -zeta only [t]; clear t)); (on_goal 1 => (clear_value t; rename' t => w)))
    | (extract_lets +onlyGivenNames t; refine (fun (_ : P t.1) => ?_) ?_; (on_goal 2 => (dsimp -zeta only [t]; clear t)); (on_goal 1 => (clear_value t; rename' t => w)))
    | (extract_lets +onlyGivenNames t; clear_value t; rename' t => w)
    | with_reducible refine Closed.foldl _ _ _ (fun _ _ _ => ?_) ?_
    | split

theorem keep_bankSwap (hP : Closed bySettle P) (b : ℕ) (s : State) (hs : P s) :
    P (bankSwap b s) := by
  have hR := hP.ofSettle
  unfold bankSwap
  repeat' first
    | with_reducible assumption
    | with_reducible refine hP.set _ CTX_OLD _ _ into_CTX_OLD ?_
    | with_reducible refine hP.set _ LPE_IMGSTS_ACTIVE _ _ into_LPE_IMGSTS_ACTIVE ?_
    | with_reducible refine Closed.forBelow _ _ _ (fun _ _ _ => ?_) ?_
    | with_reducible refine keep_showImages hP _ ?_
    | with_reducible refine keep_showOld hR _ ?_
    | with_reducible refine keep_takeConfig hR _ _ ?_
    | with_reducible refine keep_takeGrants hP _ ?_
    | (extract_lets +onlyGivenNames t; refine (fun (_ : P t) => ?_) ?_; (on_goal 2 => (dsimp -zeta only [t]; clear t)); (on_goal 1 => (clear_value t; rename' t => w)))
    | (extract_lets +onlyGivenNames t; refine (fun (_ : P t.1) => ?_) ?_; (on_goal 2 => (dsimp -zeta only [t]; clear t)); (on_goal 1 => (clear_value t; rename' t => w)))
    | (extract_lets +onlyGivenNames t; clear_value t; rename' t => w)
    | with_reducible refine Closed.foldl _ _ _ (fun _ _ _ => ?_) ?_
    | split

theorem keep_countExtents (hP : Closed bySettle P) (s : State) (t : State) (ht : P t) :
    P (countExtents s t) := by
  unfold countExtents
  repeat' first
    | with_reducible assumption
    | with_reducible refine hP.add _ NVQ_EXTENTS _ _ into_NVQ_EXTENTS ?_
    | with_reducible refine hP.add _ NVQ_UNRCHG _ _ into_NVQ_UNRCHG ?_
    | (extract_lets +onlyGivenNames t; refine (fun (_ : P t) => ?_) ?_; (on_goal 2 => (dsimp -zeta only [t]; clear t)); (on_goal 1 => (clear_value t; rename' t => w)))
    | (extract_lets +onlyGivenNames t; refine (fun (_ : P t.1) => ?_) ?_; (on_goal 2 => (dsimp -zeta only [t]; clear t)); (on_goal 1 => (clear_value t; rename' t => w)))
    | (extract_lets +onlyGivenNames t; clear_value t; rename' t => w)
    | with_reducible refine Closed.foldl _ _ _ (fun _ _ _ => ?_) ?_
    | split

theorem keep_forgetEnded (hP : Closed bySettle P) (s : State) (hs : P s) :
    P (forgetEnded s) := by
  unfold forgetEnded
  repeat' first
    | with_reducible assumption
    | with_reducible rfl
    | with_reducible exact List.prefix_rfl
    | with_reducible exact le_rfl
    | with_reducible exact fun h => h
    | exact fun h => Memory.wf_writeList _ _ h
    | exact Nat.le_add_right _ _
    | with_reducible exact List.prefix_append _ _
    | with_reducible refine Closed.foldl _ _ _ (fun _ _ _ => ?_) ?_
    | split
    | with_reducible refine hP.build _ ?_ ?_ ?_ ?_

theorem keep_showTags (hP : Closed bySettle P) (s : State) (hs : P s) :
    P (showTags s) := by
  unfold showTags
  repeat' first
    | with_reducible assumption
    | with_reducible refine hP.setMany _ _ _ (by simp only [List.all_cons, List.all_nil, Bool.and_true, Bool.and_self, into_PCI_TAGS_INUSE, into_PCI_TAGS_QUAR]) ?_
    | with_reducible refine Closed.foldl _ _ _ (fun _ _ _ => ?_) ?_
    | split

theorem keep_issueRead (hP : Closed bySettle P) (u : TagUse) (s : State) (hs : P s) :
    P (issueRead u s) := by
  unfold issueRead
  repeat' first
    | with_reducible assumption
    | with_reducible refine hP.emit _ _ ?_
    | with_reducible refine keep_showTags hP _ ?_
    | with_reducible rfl
    | with_reducible exact List.prefix_rfl
    | with_reducible exact le_rfl
    | with_reducible exact fun h => h
    | exact fun h => Memory.wf_writeList _ _ h
    | exact Nat.le_add_right _ _
    | with_reducible exact List.prefix_append _ _
    | with_reducible refine Closed.foldl _ _ _ (fun _ _ _ => ?_) ?_
    | split
    | with_reducible refine hP.build _ ?_ ?_ ?_ ?_

theorem keep_issueData (hP : Closed bySettle P) (c : NvCmd) (a : ℕ) (a2 : State) (ha2 : P a2) :
    P (issueData c a a2) := by
  induction a generalizing a2 with
  | zero =>
    unfold issueData
    repeat' first
      | with_reducible assumption
      | with_reducible refine keep_State_modCmd hP _ _ _ ?_
      | with_reducible refine keep_issueRead hP _ _ ?_
      | with_reducible rfl
      | with_reducible exact List.prefix_rfl
      | with_reducible exact le_rfl
      | with_reducible exact fun h => h
      | exact fun h => Memory.wf_writeList _ _ h
      | exact Nat.le_add_right _ _
      | with_reducible exact List.prefix_append _ _
      | with_reducible refine Closed.foldl _ _ _ (fun _ _ _ => ?_) ?_
      | split
      | with_reducible refine hP.build _ ?_ ?_ ?_ ?_
  | succ k ih =>
    unfold issueData
    repeat' first
      | with_reducible assumption
      | with_reducible refine ih _ ?_
      | with_reducible refine keep_State_modCmd hP _ _ _ ?_
      | with_reducible refine keep_issueRead hP _ _ ?_
      | with_reducible rfl
      | with_reducible exact List.prefix_rfl
      | with_reducible exact le_rfl
      | with_reducible exact fun h => h
      | exact fun h => Memory.wf_writeList _ _ h
      | exact Nat.le_add_right _ _
      | with_reducible exact List.prefix_append _ _
      | with_reducible refine Closed.foldl _ _ _ (fun _ _ _ => ?_) ?_
      | split
      | with_reducible refine hP.build _ ?_ ?_ ?_ ?_

theorem keep_issueRequests (hP : Closed bySettle P) (s : State) (hs : P s) :
    P (issueRequests s) := by
  unfold issueRequests
  repeat' first
    | with_reducible assumption
    | with_reducible refine Closed.forAll _ _ _ (fun _ _ _ => ?_) ?_
    | with_reducible refine keep_issueData hP _ _ _ ?_
    | with_reducible refine keep_issueRead hP _ _ ?_
    | (extract_lets +onlyGivenNames t; refine (fun (_ : P t) => ?_) ?_; (on_goal 2 => (dsimp -zeta only [t]; clear t)); (on_goal 1 => (clear_value t; rename' t => w)))
    | (extract_lets +onlyGivenNames t; refine (fun (_ : P t.1) => ?_) ?_; (on_goal 2 => (dsimp -zeta only [t]; clear t)); (on_goal 1 => (clear_value t; rename' t => w)))
    | (extract_lets +onlyGivenNames t; clear_value t; rename' t => w)
    | with_reducible refine Closed.foldl _ _ _ (fun _ _ _ => ?_) ?_
    | split

theorem keep_liftAccept (hP : Closed bySettle P) (s : State) (hs : P s) :
    P (liftAccept s) := by
  unfold liftAccept
  repeat' first
    | with_reducible assumption
    | with_reducible rfl
    | with_reducible exact List.prefix_rfl
    | with_reducible exact le_rfl
    | with_reducible exact fun h => h
    | exact fun h => Memory.wf_writeList _ _ h
    | exact Nat.le_add_right _ _
    | with_reducible exact List.prefix_append _ _
    | with_reducible refine Closed.foldl _ _ _ (fun _ _ _ => ?_) ?_
    | split
    | with_reducible refine hP.build _ ?_ ?_ ?_ ?_

theorem keep_reportWarning (hP : Closed bySettle P) (s : State) (hs : P s) :
    P (reportWarning s) := by
  have hR := hP.ofSettle
  unfold reportWarning
  repeat' first
    | with_reducible assumption
    | with_reducible refine hP.set _ NVQ_CRITW _ _ into_NVQ_CRITW ?_
    | with_reducible refine keep_pmeEvent hR _ _ ?_
    | with_reducible refine keep_raiseEvent hR _ _ ?_
    | (extract_lets +onlyGivenNames t; refine (fun (_ : P t) => ?_) ?_; (on_goal 2 => (dsimp -zeta only [t]; clear t)); (on_goal 1 => (clear_value t; rename' t => w)))
    | (extract_lets +onlyGivenNames t; refine (fun (_ : P t.1) => ?_) ?_; (on_goal 2 => (dsimp -zeta only [t]; clear t)); (on_goal 1 => (clear_value t; rename' t => w)))
    | (extract_lets +onlyGivenNames t; clear_value t; rename' t => w)
    | with_reducible refine Closed.foldl _ _ _ (fun _ _ _ => ?_) ?_
    | split

theorem keep_reportZones (hP : Closed bySettle P) (s : State) (t : State) (ht : P t) :
    P (reportZones s t) := by
  have hR := hP.ofSettle
  unfold reportZones
  extract_lets l add t'
  have ht' : P t' := keep_showZones hP _ (Closed.foldl _ _ _ (fun u z hu => keep_dropRa hP _ _ (by
    dsimp only [add]
    split
    · exact hu
    · exact hP.record u _ rfl (fun h => h) List.prefix_rfl le_rfl hu)) ht)
  clear_value t' l
  split
  · exact ht
  · exact keep_raiseEvent hP.ofSettle _ _ ht'


theorem keep_holdCmd (hP : Closed bySettle P) (c : NvCmd) (s : State) (hs : P s) :
    P (holdCmd c s) := by
  unfold holdCmd
  repeat' first
    | with_reducible assumption
    | with_reducible refine hP.bump _ MGR_ORD_HELD _ into_MGR_ORD_HELD ?_
    | with_reducible refine keep_State_modCmd hP _ _ _ ?_
    | (extract_lets +onlyGivenNames t; refine (fun (_ : P t) => ?_) ?_; (on_goal 2 => (dsimp -zeta only [t]; clear t)); (on_goal 1 => (clear_value t; rename' t => w)))
    | (extract_lets +onlyGivenNames t; refine (fun (_ : P t.1) => ?_) ?_; (on_goal 2 => (dsimp -zeta only [t]; clear t)); (on_goal 1 => (clear_value t; rename' t => w)))
    | (extract_lets +onlyGivenNames t; clear_value t; rename' t => w)
    | with_reducible rfl
    | with_reducible exact List.prefix_rfl
    | with_reducible exact le_rfl
    | with_reducible exact fun h => h
    | exact fun h => Memory.wf_writeList _ _ h
    | exact Nat.le_add_right _ _
    | with_reducible exact List.prefix_append _ _
    | with_reducible refine Closed.foldl _ _ _ (fun _ _ _ => ?_) ?_
    | split
    | with_reducible refine hP.build _ ?_ ?_ ?_ ?_

theorem keep_placeFrontiers (hP : Closed bySettle P) (s : State) (hs : P s) :
    P (placeFrontiers s) := by
  unfold placeFrontiers
  repeat' first
    | with_reducible assumption
    | with_reducible refine keep_tryFrontier hP _ _ ?_
    | with_reducible refine Closed.foldl _ _ _ (fun _ _ _ => ?_) ?_
    | split

theorem keep_startFlush (hP : Closed bySettle P) (c : NvCmd) (s : State) (hs : P s) :
    P (startFlush c s) := by
  unfold startFlush
  repeat' first
    | with_reducible assumption
    | with_reducible refine keep_State_modCmd hP _ _ _ ?_
    | with_reducible refine keep_placeFrontiers hP _ ?_
    | with_reducible refine keep_startRecord hP _ ?_
    | (extract_lets +onlyGivenNames t; refine (fun (_ : P t) => ?_) ?_; (on_goal 2 => (dsimp -zeta only [t]; clear t)); (on_goal 1 => (clear_value t; rename' t => w)))
    | (extract_lets +onlyGivenNames t; refine (fun (_ : P t.1) => ?_) ?_; (on_goal 2 => (dsimp -zeta only [t]; clear t)); (on_goal 1 => (clear_value t; rename' t => w)))
    | (extract_lets +onlyGivenNames t; clear_value t; rename' t => w)
    | with_reducible rfl
    | with_reducible exact List.prefix_rfl
    | with_reducible exact le_rfl
    | with_reducible exact fun h => h
    | exact fun h => Memory.wf_writeList _ _ h
    | exact Nat.le_add_right _ _
    | with_reducible exact List.prefix_append _ _
    | with_reducible refine Closed.foldl _ _ _ (fun _ _ _ => ?_) ?_
    | split
    | with_reducible refine hP.build _ ?_ ?_ ?_ ?_

theorem keep_beginFlush (hP : Closed bySettle P) (c : NvCmd) (s : State) (hs : P s) :
    P (beginFlush c s) := by
  unfold beginFlush
  repeat' first
    | with_reducible assumption
    | with_reducible refine keep_holdCmd hP _ _ ?_
    | with_reducible refine keep_startFlush hP _ _ ?_
    | with_reducible refine Closed.foldl _ _ _ (fun _ _ _ => ?_) ?_
    | split

theorem keep_readFrame (hP : Closed bySettle P) (mtag : ℕ) (z : ℕ) (f : ℕ) (off : ℕ) (len : ℕ) (s : State) (hs : P s) :
    P (readFrame mtag z f off len s) := by
  unfold readFrame
  repeat' first
    | with_reducible assumption
    | with_reducible refine hP.bump _ FMT_CNT_RA_CLAIMED _ into_FMT_CNT_RA_CLAIMED ?_
    | with_reducible refine keep_State_modOp hP _ _ _ ?_
    | with_reducible refine keep_addRead hP _ _ _ _ _ _ _ _ _ ?_
    | (extract_lets +onlyGivenNames t; refine (fun (_ : P t) => ?_) ?_; (on_goal 2 => (dsimp -zeta only [t]; clear t)); (on_goal 1 => (clear_value t; rename' t => w)))
    | (extract_lets +onlyGivenNames t; refine (fun (_ : P t.1) => ?_) ?_; (on_goal 2 => (dsimp -zeta only [t]; clear t)); (on_goal 1 => (clear_value t; rename' t => w)))
    | (extract_lets +onlyGivenNames t; clear_value t; rename' t => w)
    | with_reducible rfl
    | with_reducible exact List.prefix_rfl
    | with_reducible exact le_rfl
    | with_reducible exact fun h => h
    | exact fun h => Memory.wf_writeList _ _ h
    | exact Nat.le_add_right _ _
    | with_reducible exact List.prefix_append _ _
    | with_reducible refine Closed.foldl _ _ _ (fun _ _ _ => ?_) ?_
    | split
    | with_reducible refine hP.build _ ?_ ?_ ?_ ?_

theorem keep_hostRead (hP : Closed bySettle P) (z : ℕ) (off : ℕ) (len : ℕ) (mtag : ℕ) (s : State) (hs : P s) :
    P (hostRead z off len mtag s) := by
  unfold hostRead
  repeat' first
    | with_reducible assumption
    | with_reducible refine keep_addOp hP _ _ ?_
    | with_reducible refine keep_endOp hP _ _ ?_
    | with_reducible refine Closed.forBelow _ _ _ (fun _ _ _ => ?_) ?_
    | with_reducible refine keep_readFrame hP _ _ _ _ _ _ ?_
    | (extract_lets +onlyGivenNames t; refine (fun (_ : P t) => ?_) ?_; (on_goal 2 => (dsimp -zeta only [t]; clear t)); (on_goal 1 => (clear_value t; rename' t => w)))
    | (extract_lets +onlyGivenNames t; refine (fun (_ : P t.1) => ?_) ?_; (on_goal 2 => (dsimp -zeta only [t]; clear t)); (on_goal 1 => (clear_value t; rename' t => w)))
    | (extract_lets +onlyGivenNames t; clear_value t; rename' t => w)
    | with_reducible rfl
    | with_reducible exact List.prefix_rfl
    | with_reducible exact le_rfl
    | with_reducible exact fun h => h
    | exact fun h => Memory.wf_writeList _ _ h
    | exact Nat.le_add_right _ _
    | with_reducible exact List.prefix_append _ _
    | with_reducible refine Closed.foldl _ _ _ (fun _ _ _ => ?_) ?_
    | split
    | with_reducible refine hP.build _ ?_ ?_ ?_ ?_

theorem keep_relocateFrame (hP : Closed bySettle P) (z : ℕ) (r : ℕ) (pos : ℕ) (s : State) (hs : P s) :
    P (relocateFrame z r pos s) := by
  unfold relocateFrame
  repeat' first
    | with_reducible assumption
    | with_reducible refine keep_addToSeg hP _ _ _ _ _ _ _ _ ?_
    | with_reducible refine Closed.foldl _ _ _ (fun _ _ _ => ?_) ?_
    | split

theorem keep_shelfRecon (hP : Closed bySettle P) (mtag : ℕ) (z : ℕ) (r : ℕ) (pos : ℕ) (b : ℕ) (n : ℕ) (s : State) (hs : P s) :
    P (shelfRecon mtag z r pos b n s) := by
  unfold shelfRecon
  repeat' first
    | with_reducible assumption
    | with_reducible refine hP.bump _ ACD_CNT_RECON _ into_ACD_CNT_RECON ?_
    | with_reducible refine keep_State_modOp hP _ _ _ ?_
    | with_reducible refine keep_addUnrec hP _ _ _ ?_
    | with_reducible refine Closed.forAll _ _ _ (fun _ _ _ => ?_) ?_
    | with_reducible refine Closed.forBelow _ _ _ (fun _ _ _ => ?_) ?_
    | with_reducible refine keep_relocateFrame hP _ _ _ _ ?_
    | with_reducible refine keep_unitCmd hP _ _ _ _ _ ?_
    | (extract_lets +onlyGivenNames t; refine (fun (_ : P t) => ?_) ?_; (on_goal 2 => (dsimp -zeta only [t]; clear t)); (on_goal 1 => (clear_value t; rename' t => w)))
    | (extract_lets +onlyGivenNames t; refine (fun (_ : P t.1) => ?_) ?_; (on_goal 2 => (dsimp -zeta only [t]; clear t)); (on_goal 1 => (clear_value t; rename' t => w)))
    | (extract_lets +onlyGivenNames t; clear_value t; rename' t => w)
    | with_reducible rfl
    | with_reducible exact List.prefix_rfl
    | with_reducible exact le_rfl
    | with_reducible exact fun h => h
    | exact fun h => Memory.wf_writeList _ _ h
    | exact Nat.le_add_right _ _
    | with_reducible exact List.prefix_append _ _
    | with_reducible refine Closed.foldl _ _ _ (fun _ _ _ => ?_) ?_
    | split
    | with_reducible refine hP.build _ ?_ ?_ ?_ ?_

theorem keep_unitRead (hP : Closed bySettle P) (mtag : ℕ) (z : ℕ) (r : ℕ) (pos : ℕ) (b : ℕ) (n : ℕ) (s : State) (hs : P s) :
    P (unitRead mtag z r pos b n s) := by
  unfold unitRead
  repeat' first
    | with_reducible assumption
    | with_reducible refine keep_shelfRecon hP _ _ _ _ _ _ _ ?_
    | with_reducible refine keep_unitCmd hP _ _ _ _ _ ?_
    | (extract_lets +onlyGivenNames t; refine (fun (_ : P t) => ?_) ?_; (on_goal 2 => (dsimp -zeta only [t]; clear t)); (on_goal 1 => (clear_value t; rename' t => w)))
    | (extract_lets +onlyGivenNames t; refine (fun (_ : P t.1) => ?_) ?_; (on_goal 2 => (dsimp -zeta only [t]; clear t)); (on_goal 1 => (clear_value t; rename' t => w)))
    | (extract_lets +onlyGivenNames t; clear_value t; rename' t => w)
    | with_reducible refine Closed.foldl _ _ _ (fun _ _ _ => ?_) ?_
    | split

theorem keep_shelfRead (hP : Closed bySettle P) (z : ℕ) (off : ℕ) (len : ℕ) (mtag : ℕ) (s : State) (hs : P s) :
    P (shelfRead z off len mtag s) := by
  unfold shelfRead
  repeat' first
    | with_reducible assumption
    | with_reducible refine keep_addOp hP _ _ ?_
    | with_reducible refine keep_endOp hP _ _ ?_
    | with_reducible refine Closed.forAll _ _ _ (fun _ _ _ => ?_) ?_
    | with_reducible refine keep_unitRead hP _ _ _ _ _ _ _ ?_
    | (extract_lets +onlyGivenNames t; refine (fun (_ : P t) => ?_) ?_; (on_goal 2 => (dsimp -zeta only [t]; clear t)); (on_goal 1 => (clear_value t; rename' t => w)))
    | (extract_lets +onlyGivenNames t; refine (fun (_ : P t.1) => ?_) ?_; (on_goal 2 => (dsimp -zeta only [t]; clear t)); (on_goal 1 => (clear_value t; rename' t => w)))
    | (extract_lets +onlyGivenNames t; clear_value t; rename' t => w)
    | with_reducible refine Closed.foldl _ _ _ (fun _ _ _ => ?_) ?_
    | split

theorem keep_readZones (hP : Closed bySettle P) (c : NvCmd) (a : List ℕ) (a2 : State) (ha2 : P a2) :
    P (readZones c a a2) := by
  induction a generalizing a2 with
  | nil =>
    unfold readZones
    repeat' first
      | with_reducible assumption
      | with_reducible refine hP.bump _ NVQ_MTAG _ into_NVQ_MTAG ?_
      | with_reducible refine keep_State_modCmd hP _ _ _ ?_
      | with_reducible refine keep_hostRead hP _ _ _ _ _ ?_
      | with_reducible refine keep_shelfRead hP _ _ _ _ _ ?_
      | (extract_lets +onlyGivenNames t; refine (fun (_ : P t) => ?_) ?_; (on_goal 2 => (dsimp -zeta only [t]; clear t)); (on_goal 1 => (clear_value t; rename' t => w)))
      | (extract_lets +onlyGivenNames t; refine (fun (_ : P t.1) => ?_) ?_; (on_goal 2 => (dsimp -zeta only [t]; clear t)); (on_goal 1 => (clear_value t; rename' t => w)))
      | (extract_lets +onlyGivenNames t; clear_value t; rename' t => w)
      | with_reducible rfl
      | with_reducible exact List.prefix_rfl
      | with_reducible exact le_rfl
      | with_reducible exact fun h => h
      | exact fun h => Memory.wf_writeList _ _ h
      | exact Nat.le_add_right _ _
      | with_reducible exact List.prefix_append _ _
      | with_reducible refine Closed.foldl _ _ _ (fun _ _ _ => ?_) ?_
      | split
      | with_reducible refine hP.build _ ?_ ?_ ?_ ?_
  | cons e t ih =>
    unfold readZones
    repeat' first
      | with_reducible assumption
      | with_reducible refine ih _ ?_
      | with_reducible refine hP.bump _ NVQ_MTAG _ into_NVQ_MTAG ?_
      | with_reducible refine keep_State_modCmd hP _ _ _ ?_
      | with_reducible refine keep_hostRead hP _ _ _ _ _ ?_
      | with_reducible refine keep_shelfRead hP _ _ _ _ _ ?_
      | (extract_lets +onlyGivenNames t; refine (fun (_ : P t) => ?_) ?_; (on_goal 2 => (dsimp -zeta only [t]; clear t)); (on_goal 1 => (clear_value t; rename' t => w)))
      | (extract_lets +onlyGivenNames t; refine (fun (_ : P t.1) => ?_) ?_; (on_goal 2 => (dsimp -zeta only [t]; clear t)); (on_goal 1 => (clear_value t; rename' t => w)))
      | (extract_lets +onlyGivenNames t; clear_value t; rename' t => w)
      | with_reducible rfl
      | with_reducible exact List.prefix_rfl
      | with_reducible exact le_rfl
      | with_reducible exact fun h => h
      | exact fun h => Memory.wf_writeList _ _ h
      | exact Nat.le_add_right _ _
      | with_reducible exact List.prefix_append _ _
      | with_reducible refine Closed.foldl _ _ _ (fun _ _ _ => ?_) ?_
      | split
      | with_reducible refine hP.build _ ?_ ?_ ?_ ?_

theorem keep_startRead (hP : Closed bySettle P) (c : NvCmd) (s : State) (hs : P s) :
    P (startRead c s) := by
  unfold startRead
  repeat' first
    | with_reducible assumption
    | with_reducible refine keep_State_modCmd hP _ _ _ ?_
    | with_reducible refine keep_finish hP _ _ _ ?_
    | with_reducible refine keep_readZones hP _ _ _ ?_
    | (extract_lets +onlyGivenNames t; refine (fun (_ : P t) => ?_) ?_; (on_goal 2 => (dsimp -zeta only [t]; clear t)); (on_goal 1 => (clear_value t; rename' t => w)))
    | (extract_lets +onlyGivenNames t; refine (fun (_ : P t.1) => ?_) ?_; (on_goal 2 => (dsimp -zeta only [t]; clear t)); (on_goal 1 => (clear_value t; rename' t => w)))
    | (extract_lets +onlyGivenNames t; clear_value t; rename' t => w)
    | with_reducible rfl
    | with_reducible exact List.prefix_rfl
    | with_reducible exact le_rfl
    | with_reducible exact fun h => h
    | exact fun h => Memory.wf_writeList _ _ h
    | exact Nat.le_add_right _ _
    | with_reducible exact List.prefix_append _ _
    | with_reducible refine Closed.foldl _ _ _ (fun _ _ _ => ?_) ?_
    | split
    | with_reducible refine hP.build _ ?_ ?_ ?_ ?_

theorem keep_beginRead (hP : Closed bySettle P) (c : NvCmd) (s : State) (hs : P s) :
    P (beginRead c s) := by
  unfold beginRead
  repeat' first
    | with_reducible assumption
    | with_reducible refine keep_holdCmd hP _ _ ?_
    | with_reducible refine keep_startRead hP _ _ ?_
    | with_reducible rfl
    | with_reducible exact List.prefix_rfl
    | with_reducible exact le_rfl
    | with_reducible exact fun h => h
    | exact fun h => Memory.wf_writeList _ _ h
    | exact Nat.le_add_right _ _
    | with_reducible exact List.prefix_append _ _
    | with_reducible refine Closed.foldl _ _ _ (fun _ _ _ => ?_) ?_
    | split
    | with_reducible refine hP.build _ ?_ ?_ ?_ ?_

theorem keep_implicitClose (hP : Closed bySettle P) (s : State) (hs : P s) :
    ∀ t, (implicitClose s) = some t → P t := by
  intro t h
  unfold implicitClose at h
  obtain ⟨e, -, rfl⟩ := Option.map_eq_some_iff.1 h
  exact keep_dropRa hP _ _ (keep_zoneTo hP _ _ _ hs)


theorem keep_openForWrite (hP : Closed bySettle P) (z : ℕ) (s : State) (hs : P s) :
    P (openForWrite z s) := by
  unfold openForWrite
  repeat' first
    | with_reducible assumption
    | with_reducible refine keep_implicitClose hP _ ?_ _ (by assumption)
    | with_reducible refine keep_implicitClose hP _ ?_
    | with_reducible refine keep_zoneTo hP _ _ _ ?_
    | (extract_lets +onlyGivenNames t; refine (fun (_ : P t) => ?_) ?_; (on_goal 2 => (dsimp -zeta only [t]; clear t)); (on_goal 1 => (clear_value t; rename' t => w)))
    | (extract_lets +onlyGivenNames t; refine (fun (_ : P t.1) => ?_) ?_; (on_goal 2 => (dsimp -zeta only [t]; clear t)); (on_goal 1 => (clear_value t; rename' t => w)))
    | (extract_lets +onlyGivenNames t; clear_value t; rename' t => w)
    | with_reducible refine Closed.foldl _ _ _ (fun _ _ _ => ?_) ?_
    | with_reducible refine Closed.getD _ _ ?_ ?_
    | split

theorem keep_startWrite (hP : Closed bySettle P) (c : NvCmd) (s : State) (hs : P s) :
    P (startWrite c s) := by
  unfold startWrite
  repeat' first
    | with_reducible assumption
    | with_reducible refine keep_State_modCmd hP _ _ _ ?_
    | with_reducible refine keep_State_setZone hP _ _ _ ?_
    | with_reducible refine keep_dropRa hP _ _ ?_
    | with_reducible refine keep_finish hP _ _ _ ?_
    | with_reducible refine keep_openForWrite hP _ _ ?_
    | (extract_lets +onlyGivenNames t; refine (fun (_ : P t) => ?_) ?_; (on_goal 2 => (dsimp -zeta only [t]; clear t)); (on_goal 1 => (clear_value t; rename' t => w)))
    | (extract_lets +onlyGivenNames t; refine (fun (_ : P t.1) => ?_) ?_; (on_goal 2 => (dsimp -zeta only [t]; clear t)); (on_goal 1 => (clear_value t; rename' t => w)))
    | (extract_lets +onlyGivenNames t; clear_value t; rename' t => w)
    | with_reducible rfl
    | with_reducible exact List.prefix_rfl
    | with_reducible exact le_rfl
    | with_reducible exact fun h => h
    | exact fun h => Memory.wf_writeList _ _ h
    | exact Nat.le_add_right _ _
    | with_reducible exact List.prefix_append _ _
    | with_reducible refine Closed.foldl _ _ _ (fun _ _ _ => ?_) ?_
    | split
    | with_reducible refine hP.build _ ?_ ?_ ?_ ?_

theorem keep_beginWrite (hP : Closed bySettle P) (c : NvCmd) (s : State) (hs : P s) :
    P (beginWrite c s) := by
  unfold beginWrite
  repeat' first
    | with_reducible assumption
    | with_reducible refine keep_holdCmd hP _ _ ?_
    | with_reducible refine keep_startWrite hP _ _ ?_
    | with_reducible rfl
    | with_reducible exact List.prefix_rfl
    | with_reducible exact le_rfl
    | with_reducible exact fun h => h
    | exact fun h => Memory.wf_writeList _ _ h
    | exact Nat.le_add_right _ _
    | with_reducible exact List.prefix_append _ _
    | with_reducible refine Closed.foldl _ _ _ (fun _ _ _ => ?_) ?_
    | split
    | with_reducible refine hP.build _ ?_ ?_ ?_ ?_

theorem keep_deleteDone (hP : Closed bySettle P) (c : NvCmd) (s : State) (hs : P s) :
    P (deleteDone c s) := by
  unfold deleteDone
  repeat' first
    | with_reducible assumption
    | with_reducible refine hP.setBit _ NVQ_SQEN _ _ _ into_NVQ_SQEN ?_
    | with_reducible refine keep_finish hP _ _ _ ?_
    | (extract_lets +onlyGivenNames t; refine (fun (_ : P t) => ?_) ?_; (on_goal 2 => (dsimp -zeta only [t]; clear t)); (on_goal 1 => (clear_value t; rename' t => w)))
    | (extract_lets +onlyGivenNames t; refine (fun (_ : P t.1) => ?_) ?_; (on_goal 2 => (dsimp -zeta only [t]; clear t)); (on_goal 1 => (clear_value t; rename' t => w)))
    | (extract_lets +onlyGivenNames t; clear_value t; rename' t => w)
    | with_reducible rfl
    | with_reducible exact List.prefix_rfl
    | with_reducible exact le_rfl
    | with_reducible exact fun h => h
    | exact fun h => Memory.wf_writeList _ _ h
    | exact Nat.le_add_right _ _
    | with_reducible exact List.prefix_append _ _
    | with_reducible refine Closed.foldl _ _ _ (fun _ _ _ => ?_) ?_
    | split
    | with_reducible refine hP.build _ ?_ ?_ ?_ ?_

theorem keep_powerDone (hP : Closed bySettle P) (c : NvCmd) (s : State) (hs : P s) :
    P (powerDone c s) := by
  unfold powerDone
  repeat' first
    | with_reducible assumption
    | with_reducible refine keep_finish hP _ _ _ ?_
    | with_reducible refine Closed.foldl _ _ _ (fun _ _ _ => ?_) ?_
    | split

theorem keep_readDone (hP : Closed bySettle P) (c : NvCmd) (s : State) (hs : P s) :
    P (readDone c s) := by
  have hR := hP.ofSettle
  unfold readDone
  repeat' first
    | with_reducible assumption
    | with_reducible refine keep_complete hR _ _ _ _ _ ?_
    | with_reducible refine keep_completeWith hR _ _ _ _ _ _ ?_
    | with_reducible refine keep_finish hP _ _ _ ?_
    | with_reducible refine Closed.foldl _ _ _ (fun _ _ _ => ?_) ?_
    | split

theorem keep_startAct (hP : Closed bySettle P) (c : NvCmd) (s : State) (hs : P s) :
    P (startAct c s) := by
  unfold startAct
  extract_lets l
  clear_value l
  split
  · exact keep_finish hP _ _ _ hs
  split
  · exact keep_finish hP _ _ _ hs
  split
  · exact keep_finish hP _ _ _ hs
  split
  · exact keep_holdCmd hP _ _ hs
  split
  · exact keep_finish hP _ _ _ hs
  · exact keep_actStep hP _ _ hs


theorem keep_sendLtr (hP : Closed bySettle P) (s : State) (hs : P s) :
    P (sendLtr s) := by
  unfold sendLtr
  repeat' first
    | with_reducible assumption
    | with_reducible refine hP.emit _ _ ?_
    | with_reducible refine Closed.foldl _ _ _ (fun _ _ _ => ?_) ?_
    | split

theorem keep_setPower (hP : Closed bySettle P) (ps : ℕ) (s : State) (hs : P s) :
    P (setPower ps s) := by
  unfold setPower
  repeat' first
    | with_reducible assumption
    | with_reducible refine hP.set _ NVQ_OPPS _ _ into_NVQ_OPPS ?_
    | with_reducible refine hP.set _ NVQ_STS_PS _ _ into_NVQ_STS_PS ?_
    | with_reducible refine keep_sendLtr hP _ ?_
    | (extract_lets +onlyGivenNames t; refine (fun (_ : P t) => ?_) ?_; (on_goal 2 => (dsimp -zeta only [t]; clear t)); (on_goal 1 => (clear_value t; rename' t => w)))
    | (extract_lets +onlyGivenNames t; refine (fun (_ : P t.1) => ?_) ?_; (on_goal 2 => (dsimp -zeta only [t]; clear t)); (on_goal 1 => (clear_value t; rename' t => w)))
    | (extract_lets +onlyGivenNames t; clear_value t; rename' t => w)
    | with_reducible refine Closed.foldl _ _ _ (fun _ _ _ => ?_) ?_
    | split

theorem keep_startPower (hP : Closed bySettle P) (c : NvCmd) (s : State) (hs : P s) :
    P (startPower c s) := by
  have hR := hP.ofSettle
  unfold startPower
  repeat' first
    | with_reducible assumption
    | with_reducible refine keep_State_modCmd hP _ _ _ ?_
    | with_reducible refine hP.set _ NVQ_LEAVING _ _ into_NVQ_LEAVING ?_
    | with_reducible refine keep_holdCmd hP _ _ ?_
    | with_reducible refine keep_orderlyDrydown hR _ _ ?_
    | with_reducible refine keep_powerDone hP _ _ ?_
    | with_reducible refine keep_setPower hP _ _ ?_
    | (extract_lets +onlyGivenNames t; refine (fun (_ : P t) => ?_) ?_; (on_goal 2 => (dsimp -zeta only [t]; clear t)); (on_goal 1 => (clear_value t; rename' t => w)))
    | (extract_lets +onlyGivenNames t; refine (fun (_ : P t.1) => ?_) ?_; (on_goal 2 => (dsimp -zeta only [t]; clear t)); (on_goal 1 => (clear_value t; rename' t => w)))
    | (extract_lets +onlyGivenNames t; clear_value t; rename' t => w)
    | with_reducible rfl
    | with_reducible exact List.prefix_rfl
    | with_reducible exact le_rfl
    | with_reducible exact fun h => h
    | exact fun h => Memory.wf_writeList _ _ h
    | exact Nat.le_add_right _ _
    | with_reducible exact List.prefix_append _ _
    | with_reducible refine Closed.foldl _ _ _ (fun _ _ _ => ?_) ?_
    | split
    | with_reducible refine hP.build _ ?_ ?_ ?_ ?_

theorem keep_writeDone (hP : Closed bySettle P) (c : NvCmd) (s : State) (hs : P s) :
    P (writeDone c s) := by
  have hR := hP.ofSettle
  unfold writeDone
  repeat' first
    | with_reducible assumption
    | with_reducible refine keep_complete hR _ _ _ _ _ ?_
    | with_reducible refine Closed.foldl _ _ _ (fun _ _ _ => ?_) ?_
    | split

theorem keep_progress (hP : Closed bySettle P) (c : NvCmd) (s : State) (hs : P s) :
    P (progress c s) := by
  unfold progress
  repeat' first
    | with_reducible assumption
    | with_reducible refine keep_actStep hP _ _ ?_
    | with_reducible refine keep_beginFlush hP _ _ ?_
    | with_reducible refine keep_beginRead hP _ _ ?_
    | with_reducible refine keep_beginWrite hP _ _ ?_
    | with_reducible refine keep_deleteDone hP _ _ ?_
    | with_reducible refine keep_finish hP _ _ _ ?_
    | with_reducible refine keep_powerDone hP _ _ ?_
    | with_reducible refine keep_readDone hP _ _ ?_
    | with_reducible refine keep_startAct hP _ _ ?_
    | with_reducible refine keep_startPower hP _ _ ?_
    | with_reducible refine keep_writeDone hP _ _ ?_
    | with_reducible refine Closed.foldl _ _ _ (fun _ _ _ => ?_) ?_
    | split

theorem keep_askSwap (hP : Closed bySettle P) (s : State) (hs : P s) :
    P (askSwap s) := by
  unfold askSwap
  repeat' first
    | with_reducible assumption
    | with_reducible refine hP.set _ NVQ_ACTHELD _ _ into_NVQ_ACTHELD ?_
    | with_reducible refine hP.setBit _ LPE_CMT_STS_PENDING _ _ _ into_LPE_CMT_STS_PENDING ?_
    | with_reducible refine hP.setSh _ _ _ _ ?_
    | with_reducible refine keep_bankSwap hP _ _ ?_
    | (extract_lets +onlyGivenNames t; refine (fun (_ : P t) => ?_) ?_; (on_goal 2 => (dsimp -zeta only [t]; clear t)); (on_goal 1 => (clear_value t; rename' t => w)))
    | (extract_lets +onlyGivenNames t; refine (fun (_ : P t.1) => ?_) ?_; (on_goal 2 => (dsimp -zeta only [t]; clear t)); (on_goal 1 => (clear_value t; rename' t => w)))
    | (extract_lets +onlyGivenNames t; clear_value t; rename' t => w)
    | with_reducible refine Closed.foldl _ _ _ (fun _ _ _ => ?_) ?_
    | split

theorem keep_stepActivation (hP : Closed bySettle P) (s : State) (hs : P s) :
    P (stepActivation s) := by
  unfold stepActivation
  repeat' first
    | with_reducible assumption
    | with_reducible refine keep_askSwap hP _ ?_
    | with_reducible refine keep_endActivation hP _ _ ?_
    | with_reducible refine keep_failActivation hP _ _ ?_
    | with_reducible refine Closed.foldl _ _ _ (fun _ _ _ => ?_) ?_
    | split

theorem keep_stepLeaving (hP : Closed bySettle P) (s : State) (hs : P s) :
    P (stepLeaving s) := by
  unfold stepLeaving
  repeat' first
    | with_reducible assumption
    | with_reducible refine hP.set _ NVQ_LEAVING _ _ into_NVQ_LEAVING ?_
    | with_reducible refine Closed.foldl _ _ _ (fun _ _ _ => ?_) ?_
    | split

theorem keep_stepReset (hP : Closed bySettle P) (s : State) (hs : P s) :
    P (stepReset s) := by
  unfold stepReset
  repeat' first
    | with_reducible assumption
    | with_reducible refine hP.setMany _ _ _ (by simp only [List.all_cons, List.all_nil, Bool.and_true, Bool.and_self, into_NVQ_RESETTING, into_NVQ_STS_RDY]) ?_
    | (extract_lets +onlyGivenNames t; refine (fun (_ : P t) => ?_) ?_; (on_goal 2 => (dsimp -zeta only [t]; clear t)); (on_goal 1 => (clear_value t; rename' t => w)))
    | (extract_lets +onlyGivenNames t; refine (fun (_ : P t.1) => ?_) ?_; (on_goal 2 => (dsimp -zeta only [t]; clear t)); (on_goal 1 => (clear_value t; rename' t => w)))
    | (extract_lets +onlyGivenNames t; clear_value t; rename' t => w)
    | with_reducible rfl
    | with_reducible exact List.prefix_rfl
    | with_reducible exact le_rfl
    | with_reducible exact fun h => h
    | exact fun h => Memory.wf_writeList _ _ h
    | exact Nat.le_add_right _ _
    | with_reducible exact List.prefix_append _ _
    | with_reducible refine Closed.foldl _ _ _ (fun _ _ _ => ?_) ?_
    | split
    | with_reducible refine hP.build _ ?_ ?_ ?_ ?_

theorem keep_stepShutdown (hP : Closed bySettle P) (s : State) (hs : P s) :
    P (stepShutdown s) := by
  unfold stepShutdown
  repeat' first
    | with_reducible assumption
    | with_reducible refine hP.set _ NVQ_SHSEQ _ _ into_NVQ_SHSEQ ?_
    | with_reducible refine hP.set _ NVQ_SHST _ _ into_NVQ_SHST ?_
    | with_reducible refine hP.setMany _ _ _ (by simp only [List.all_cons, List.all_nil, Bool.and_true, Bool.and_self, into_NVQ_SHSEQ, into_NVQ_SHST]) ?_
    | with_reducible refine keep_acdClean hP _ ?_
    | with_reducible refine keep_placeFrontiers hP _ ?_
    | (extract_lets +onlyGivenNames t; refine (fun (_ : P t) => ?_) ?_; (on_goal 2 => (dsimp -zeta only [t]; clear t)); (on_goal 1 => (clear_value t; rename' t => w)))
    | (extract_lets +onlyGivenNames t; refine (fun (_ : P t.1) => ?_) ?_; (on_goal 2 => (dsimp -zeta only [t]; clear t)); (on_goal 1 => (clear_value t; rename' t => w)))
    | (extract_lets +onlyGivenNames t; clear_value t; rename' t => w)
    | with_reducible refine Closed.foldl _ _ _ (fun _ _ _ => ?_) ?_
    | split

theorem keep_settleRound (hP : Closed bySettle P) (s : State) (hs : P s) :
    P (settleRound s) := by
  unfold settleRound
  repeat' first
    | with_reducible assumption
    | with_reducible refine Closed.forAll _ _ _ (fun _ _ _ => ?_) ?_
    | with_reducible refine keep_progress hP _ _ ?_
    | with_reducible refine keep_stepActivation hP _ ?_
    | with_reducible refine keep_stepLeaving hP _ ?_
    | with_reducible refine keep_stepReset hP _ ?_
    | with_reducible refine keep_stepShutdown hP _ ?_
    | with_reducible refine Closed.foldl _ _ _ (fun _ _ _ => ?_) ?_
    | split

theorem keep_showNvq (hP : Closed bySettle P) (s : State) (hs : P s) :
    P (showNvq s) := by
  unfold showNvq
  repeat' first
    | with_reducible assumption
    | with_reducible refine hP.setMany _ _ _ (by simp only [List.all_cons, List.all_nil, Bool.and_true, Bool.and_self, into_NVQ_DURWAIT, into_NVQ_INFL_HELD, into_NVQ_INFL_INFL, into_NVQ_STS_FETCH_HELD, into_NVQ_STS_MEDIA_READY]) ?_
    | (extract_lets +onlyGivenNames t; refine (fun (_ : P t) => ?_) ?_; (on_goal 2 => (dsimp -zeta only [t]; clear t)); (on_goal 1 => (clear_value t; rename' t => w)))
    | (extract_lets +onlyGivenNames t; refine (fun (_ : P t.1) => ?_) ?_; (on_goal 2 => (dsimp -zeta only [t]; clear t)); (on_goal 1 => (clear_value t; rename' t => w)))
    | (extract_lets +onlyGivenNames t; clear_value t; rename' t => w)
    | with_reducible refine Closed.foldl _ _ _ (fun _ _ _ => ?_) ?_
    | split

theorem keep_spnStart (hP : Closed bySettle P) (s : State) (hs : P s) :
    P (spnStart s) := by
  have hR := hP.ofSettle
  unfold spnStart
  repeat' first
    | with_reducible assumption
    | with_reducible refine hP.bump _ SPN_CNT_STARTS _ into_SPN_CNT_STARTS ?_
    | with_reducible refine hP.set _ SPN_HELD _ _ into_SPN_HELD ?_
    | with_reducible refine keep_applyTarget hR _ ?_
    | with_reducible refine keep_parkedEnd hR _ ?_
    | with_reducible refine keep_spnGo hR _ _ _ ?_
    | with_reducible refine Closed.foldl _ _ _ (fun _ _ _ => ?_) ?_
    | split

theorem keep_startOrder (hP : Closed bySettle P) (s : State) (hs : P s) :
    P (startOrder s) := by
  unfold startOrder
  repeat' first
    | with_reducible assumption
    | with_reducible refine hP.bump _ MGR_ORD_LOST _ into_MGR_ORD_LOST ?_
    | with_reducible refine keep_spnStart hP _ ?_
    | with_reducible refine Closed.foldl _ _ _ (fun _ _ _ => ?_) ?_
    | split

theorem keep_startForMedia (hP : Closed bySettle P) (s : State) (hs : P s) :
    P (startForMedia s) := by
  unfold startForMedia
  repeat' first
    | with_reducible assumption
    | with_reducible refine keep_startOrder hP _ ?_
    | with_reducible refine Closed.foldl _ _ _ (fun _ _ _ => ?_) ?_
    | split

theorem keep_nvqSettle (hP : Closed bySettle P) (s : State) (t : State) (ht : P t) :
    P (nvqSettle s t) := by
  have hR := hP.ofSettle
  unfold nvqSettle
  repeat' first
    | with_reducible assumption
    | with_reducible refine keep_countExtents hP _ _ ?_
    | with_reducible refine keep_drainCpls hR _ ?_
    | with_reducible refine keep_forgetEnded hP _ ?_
    | with_reducible refine keep_issueRequests hP _ ?_
    | with_reducible refine keep_liftAccept hP _ ?_
    | with_reducible refine keep_reportWarning hP _ ?_
    | with_reducible refine keep_reportZones hP _ _ ?_
    | with_reducible refine keep_settleRound hP _ ?_
    | with_reducible refine keep_showNvq hP _ ?_
    | with_reducible refine keep_startForMedia hP _ ?_
    | (extract_lets +onlyGivenNames t; refine (fun (_ : P t) => ?_) ?_; (on_goal 2 => (dsimp -zeta only [t]; clear t)); (on_goal 1 => (clear_value t; rename' t => w)))
    | (extract_lets +onlyGivenNames t; refine (fun (_ : P t.1) => ?_) ?_; (on_goal 2 => (dsimp -zeta only [t]; clear t)); (on_goal 1 => (clear_value t; rename' t => w)))
    | (extract_lets +onlyGivenNames t; clear_value t; rename' t => w)
    | with_reducible refine Closed.foldl _ _ _ (fun _ _ _ => ?_) ?_
    | with_reducible refine Closed.repeat _ _ _ (fun _ _ => ?_) ?_
    | split

theorem keep_linkAwake (hP : Closed bySettle P) (s : State) (hs : P s) :
    P (linkAwake s) := by
  unfold linkAwake
  repeat' first
    | with_reducible assumption
    | with_reducible refine hP.setMany _ _ _ (by simp only [List.all_cons, List.all_nil, Bool.and_true, Bool.and_self, into_PAD_CLKREQ, into_PCI_STS_LSTATE]) ?_
    | with_reducible refine Closed.foldl _ _ _ (fun _ _ _ => ?_) ?_
    | split

theorem keep_wakeLink (hP : Closed bySettle P) (s : State) (t : State) (ht : P t) :
    P (wakeLink s t) := by
  unfold wakeLink
  repeat' first
    | with_reducible assumption
    | with_reducible refine keep_linkAwake hP _ ?_
    | with_reducible refine Closed.foldl _ _ _ (fun _ _ _ => ?_) ?_
    | split

theorem keep_hostEnd (hP : Closed bySettle P) (s : State) (t : State) (ht : P t) :
    P (hostEnd s t) := by
  unfold hostEnd
  repeat' first
    | with_reducible assumption
    | with_reducible refine keep_nvqSettle hP _ _ ?_
    | with_reducible refine keep_wakeLink hP _ _ ?_
    | with_reducible refine Closed.foldl _ _ _ (fun _ _ _ => ?_) ?_
    | split

theorem keep_dueCheckpoint (hP : Closed bySettle P) (s : State) (hs : P s) :
    P (dueCheckpoint s) := by
  unfold dueCheckpoint
  repeat' first
    | with_reducible assumption
    | with_reducible refine keep_startCheckpoint hP _ ?_
    | with_reducible refine Closed.foldl _ _ _ (fun _ _ _ => ?_) ?_
    | split

theorem keep_runRequests (hP : Closed bySettle P) (s : State) (hs : P s) :
    P (runRequests s) := by
  unfold runRequests
  repeat' first
    | with_reducible assumption
    | with_reducible refine keep_dueCheckpoint hP _ ?_
    | with_reducible refine keep_startClean hP _ ?_
    | with_reducible refine keep_startRecord hP _ ?_
    | (extract_lets +onlyGivenNames t; refine (fun (_ : P t) => ?_) ?_; (on_goal 2 => (dsimp -zeta only [t]; clear t)); (on_goal 1 => (clear_value t; rename' t => w)))
    | (extract_lets +onlyGivenNames t; refine (fun (_ : P t.1) => ?_) ?_; (on_goal 2 => (dsimp -zeta only [t]; clear t)); (on_goal 1 => (clear_value t; rename' t => w)))
    | (extract_lets +onlyGivenNames t; clear_value t; rename' t => w)
    | with_reducible refine Closed.foldl _ _ _ (fun _ _ _ => ?_) ?_
    | split

theorem keep_cleanLine (hP : Closed bySettle P) (line : ℕ) (s : State) (hs : P s) :
    P (cleanLine line s) := by
  unfold cleanLine
  repeat' first
    | with_reducible assumption
    | with_reducible rfl
    | with_reducible exact List.prefix_rfl
    | with_reducible exact le_rfl
    | with_reducible exact fun h => h
    | exact fun h => Memory.wf_writeList _ _ h
    | exact Nat.le_add_right _ _
    | with_reducible exact List.prefix_append _ _
    | with_reducible refine Closed.foldl _ _ _ (fun _ _ _ => ?_) ?_
    | split
    | with_reducible refine hP.build _ ?_ ?_ ?_ ?_

theorem keep_showMerge (hP : Closed bySettle P) (s : State) (hs : P s) :
    P (showMerge s) := by
  unfold showMerge
  repeat' first
    | with_reducible assumption
    | with_reducible refine hP.set _ BUF_MERGE_OCC _ _ into_BUF_MERGE_OCC ?_
    | with_reducible refine Closed.foldl _ _ _ (fun _ _ _ => ?_) ?_
    | split

theorem keep_dropEntry (hP : Closed bySettle P) (line : ℕ) (s : State) (hs : P s) :
    P (dropEntry line s) := by
  unfold dropEntry
  repeat' first
    | with_reducible assumption
    | with_reducible refine keep_showMerge hP _ ?_
    | with_reducible rfl
    | with_reducible exact List.prefix_rfl
    | with_reducible exact le_rfl
    | with_reducible exact fun h => h
    | exact fun h => Memory.wf_writeList _ _ h
    | exact Nat.le_add_right _ _
    | with_reducible exact List.prefix_append _ _
    | with_reducible refine Closed.foldl _ _ _ (fun _ _ _ => ?_) ?_
    | split
    | with_reducible refine hP.build _ ?_ ?_ ?_ ?_

theorem keep_elogAdd (hP : Closed bySettle P) (space : ℕ) (block : ℕ) (syn : ℕ) (ue : Bool) (pois : Bool) (master : ℕ) (s : State) (hs : P s) :
    P (elogAdd space block syn ue pois master s) := by
  unfold elogAdd
  repeat' first
    | with_reducible assumption
    | with_reducible refine hP.set _ BUF_ELOG_HEAD_WRAPPED _ _ into_BUF_ELOG_HEAD_WRAPPED ?_
    | with_reducible refine hP.setMany _ _ _ (by simp only [List.all_cons, List.all_nil, Bool.and_true, Bool.and_self, into_BUF_ELOGNEW, into_BUF_ELOG_HEAD_HEAD, into_BUF_ELOG_HEAD_WRAPPED]) ?_
    | (extract_lets +onlyGivenNames t; refine (fun (_ : P t) => ?_) ?_; (on_goal 2 => (dsimp -zeta only [t]; clear t)); (on_goal 1 => (clear_value t; rename' t => w)))
    | (extract_lets +onlyGivenNames t; refine (fun (_ : P t.1) => ?_) ?_; (on_goal 2 => (dsimp -zeta only [t]; clear t)); (on_goal 1 => (clear_value t; rename' t => w)))
    | (extract_lets +onlyGivenNames t; clear_value t; rename' t => w)
    | with_reducible rfl
    | with_reducible exact List.prefix_rfl
    | with_reducible exact le_rfl
    | with_reducible exact fun h => h
    | exact fun h => Memory.wf_writeList _ _ h
    | exact Nat.le_add_right _ _
    | with_reducible exact List.prefix_append _ _
    | with_reducible refine Closed.foldl _ _ _ (fun _ _ _ => ?_) ?_
    | split
    | with_reducible refine hP.build _ ?_ ?_ ?_ ?_

theorem keep_recordLine (hP : Closed bySettle P) (res : LineRes) (line : ℕ) (e : List ℕ) (pois : Bool) (master : ℕ) (s : State) (hs : P s) :
    P (recordLine res line e pois master s) := by
  have hR := hP.ofSettle
  unfold recordLine
  repeat' first
    | with_reducible assumption
    | with_reducible refine hP.bump _ BUF_ERR_CE _ into_BUF_ERR_CE ?_
    | with_reducible refine hP.bump _ BUF_ERR_UE _ into_BUF_ERR_UE ?_
    | with_reducible refine keep_elogAdd hP _ _ _ _ _ _ _ ?_
    | with_reducible refine keep_poisonLine hP _ _ ?_
    | with_reducible refine keep_pulse hR _ _ _ ?_
    | (extract_lets +onlyGivenNames t; refine (fun (_ : P t) => ?_) ?_; (on_goal 2 => (dsimp -zeta only [t]; clear t)); (on_goal 1 => (clear_value t; rename' t => w)))
    | (extract_lets +onlyGivenNames t; refine (fun (_ : P t.1) => ?_) ?_; (on_goal 2 => (dsimp -zeta only [t]; clear t)); (on_goal 1 => (clear_value t; rename' t => w)))
    | (extract_lets +onlyGivenNames t; clear_value t; rename' t => w)
    | with_reducible refine Closed.foldl _ _ _ (fun _ _ _ => ?_) ?_
    | split

theorem keep_writeBack (hP : Closed bySettle P) (line : ℕ) (d : List ℕ) (s : State) (hs : P s) :
    P (writeBack line d s) := by
  unfold writeBack
  repeat' first
    | with_reducible assumption
    | with_reducible refine keep_cleanLine hP _ _ ?_
    | with_reducible rfl
    | with_reducible exact List.prefix_rfl
    | with_reducible exact le_rfl
    | with_reducible exact fun h => h
    | exact fun h => Memory.wf_writeList _ _ h
    | exact Nat.le_add_right _ _
    | with_reducible exact List.prefix_append _ _
    | with_reducible refine Closed.foldl _ _ _ (fun _ _ _ => ?_) ?_
    | split
    | with_reducible refine hP.build _ ?_ ?_ ?_ ?_

theorem keep_flushEntry (hP : Closed bySettle P) (m : MergeEntry) (errs : List ByteErr) (s : State) (hs : P s) :
    P (flushEntry m errs s) := by
  have hR := hP.ofSettle
  unfold flushEntry
  repeat' first
    | with_reducible assumption
    | with_reducible refine keep_cleanLine hP _ _ ?_
    | with_reducible refine keep_dropEntry hP _ _ ?_
    | with_reducible refine keep_pulse hR _ _ _ ?_
    | with_reducible refine keep_recordLine hP _ _ _ _ _ _ ?_
    | with_reducible refine keep_writeBack hP _ _ _ ?_
    | (extract_lets +onlyGivenNames t; refine (fun (_ : P t) => ?_) ?_; (on_goal 2 => (dsimp -zeta only [t]; clear t)); (on_goal 1 => (clear_value t; rename' t => w)))
    | (extract_lets +onlyGivenNames t; refine (fun (_ : P t.1) => ?_) ?_; (on_goal 2 => (dsimp -zeta only [t]; clear t)); (on_goal 1 => (clear_value t; rename' t => w)))
    | (extract_lets +onlyGivenNames t; clear_value t; rename' t => w)
    | with_reducible refine Closed.foldl _ _ _ (fun _ _ _ => ?_) ?_
    | split

theorem keep_barrier (hP : Closed bySettle P) (s : State) (hs : P s) :
    P (barrier s) := by
  unfold barrier
  repeat' first
    | with_reducible assumption
    | with_reducible refine keep_flushEntry hP _ _ _ ?_
    | with_reducible refine Closed.foldl _ _ _ (fun _ _ _ => ?_) ?_
    | split

theorem keep_settleBarrier (hP : Closed bySettle P) (s : State) (t : State) (ht : P t) :
    P (settleBarrier s t) := by
  unfold settleBarrier
  repeat' first
    | with_reducible assumption
    | with_reducible refine keep_barrier hP _ ?_
    | with_reducible refine Closed.foldl _ _ _ (fun _ _ _ => ?_) ?_
    | split

theorem keep_clearReloc (hP : Closed bySettle P) (g : Segment) (i : ℕ) (s : State) (hs : P s) :
    P (clearReloc g i s) := by
  unfold clearReloc
  repeat' first
    | with_reducible assumption
    | with_reducible refine keep_clearDefer hP _ _ _ ?_
    | with_reducible refine Closed.foldl _ _ _ (fun _ _ _ => ?_) ?_
    | split

theorem keep_fillRelocs (hP : Closed bySettle P) (s : State) (hs : P s) :
    P (fillRelocs s) := by
  unfold fillRelocs
  repeat' first
    | with_reducible assumption
    | with_reducible refine keep_clearReloc hP _ _ _ ?_
    | with_reducible refine Closed.forAll _ _ _ (fun _ _ _ => ?_) ?_
    | with_reducible refine Closed.forBelow _ _ _ (fun _ _ _ => ?_) ?_
    | (extract_lets +onlyGivenNames t; refine (fun (_ : P t) => ?_) ?_; (on_goal 2 => (dsimp -zeta only [t]; clear t)); (on_goal 1 => (clear_value t; rename' t => w)))
    | (extract_lets +onlyGivenNames t; refine (fun (_ : P t.1) => ?_) ?_; (on_goal 2 => (dsimp -zeta only [t]; clear t)); (on_goal 1 => (clear_value t; rename' t => w)))
    | (extract_lets +onlyGivenNames t; clear_value t; rename' t => w)
    | with_reducible rfl
    | with_reducible exact List.prefix_rfl
    | with_reducible exact le_rfl
    | with_reducible exact fun h => h
    | exact fun h => Memory.wf_writeList _ _ h
    | exact Nat.le_add_right _ _
    | with_reducible exact List.prefix_append _ _
    | with_reducible refine Closed.foldl _ _ _ (fun _ _ _ => ?_) ?_
    | split
    | with_reducible refine hP.build _ ?_ ?_ ?_ ?_

theorem keep_redirectLost (hP : Closed bySettle P) (s : State) (hs : P s) :
    P (redirectLost s) := by
  unfold redirectLost
  repeat' first
    | with_reducible assumption
    | with_reducible refine keep_fillJobs hP _ ?_
    | with_reducible refine Closed.forAll _ _ _ (fun _ _ _ => ?_) ?_
    | with_reducible refine keep_putRow hP _ _ ?_
    | with_reducible refine keep_redirectFrames hP _ _ _ _ _ ?_
    | (extract_lets +onlyGivenNames t; refine (fun (_ : P t) => ?_) ?_; (on_goal 2 => (dsimp -zeta only [t]; clear t)); (on_goal 1 => (clear_value t; rename' t => w)))
    | (extract_lets +onlyGivenNames t; refine (fun (_ : P t.1) => ?_) ?_; (on_goal 2 => (dsimp -zeta only [t]; clear t)); (on_goal 1 => (clear_value t; rename' t => w)))
    | (extract_lets +onlyGivenNames t; clear_value t; rename' t => w)
    | with_reducible rfl
    | with_reducible exact List.prefix_rfl
    | with_reducible exact le_rfl
    | with_reducible exact fun h => h
    | exact fun h => Memory.wf_writeList _ _ h
    | exact Nat.le_add_right _ _
    | with_reducible exact List.prefix_append _ _
    | with_reducible refine Closed.foldl _ _ _ (fun _ _ _ => ?_) ?_
    | split
    | with_reducible refine hP.build _ ?_ ?_ ?_ ?_

theorem keep_dropHelper (hP : Closed bySettle P) (j : FrameJob) (s : State) (hs : P s) :
    P (dropHelper j s) := by
  unfold dropHelper
  repeat' first
    | with_reducible assumption
    | with_reducible rfl
    | with_reducible exact List.prefix_rfl
    | with_reducible exact le_rfl
    | with_reducible exact fun h => h
    | exact fun h => Memory.wf_writeList _ _ h
    | exact Nat.le_add_right _ _
    | with_reducible exact List.prefix_append _ _
    | with_reducible refine Closed.foldl _ _ _ (fun _ _ _ => ?_) ?_
    | split
    | with_reducible refine hP.build _ ?_ ?_ ?_ ?_

theorem keep_endedAt (hP : Closed bySettle P) (step : ℕ) (n : ℕ) (s : State) (hs : P s) :
    P (endedAt step n s) := by
  unfold endedAt
  repeat' first
    | with_reducible assumption
    | with_reducible refine hP.add _ FMT_CNT_STEP _ _ into_FMT_CNT_STEP ?_
    | with_reducible refine Closed.foldl _ _ _ (fun _ _ _ => ?_) ?_
    | split

theorem keep_swapJob (hP : Closed bySettle P) (j : FrameJob) (l : List FrameJob) (s : State) (hs : P s) :
    P (swapJob j l s) := by
  unfold swapJob
  repeat' first
    | with_reducible assumption
    | with_reducible rfl
    | with_reducible exact List.prefix_rfl
    | with_reducible exact le_rfl
    | with_reducible exact fun h => h
    | exact fun h => Memory.wf_writeList _ _ h
    | exact Nat.le_add_right _ _
    | with_reducible exact List.prefix_append _ _
    | with_reducible refine Closed.foldl _ _ _ (fun _ _ _ => ?_) ?_
    | split
    | with_reducible refine hP.build _ ?_ ?_ ?_ ?_

theorem keep_stepEight (hP : Closed bySettle P) (j : FrameJob) (s : State) (hs : P s) :
    P (stepEight j s) := by
  have hR := hP.ofSettle
  unfold stepEight
  repeat' first
    | with_reducible assumption
    | with_reducible refine hP.bump _ FMT_CNT_UNREC _ into_FMT_CNT_UNREC ?_
    | with_reducible refine keep_State_modOp hP _ _ _ ?_
    | with_reducible refine keep_addUnrec hP _ _ _ ?_
    | with_reducible refine keep_endOp hP _ _ ?_
    | with_reducible refine keep_endedAt hP _ _ _ ?_
    | with_reducible refine Closed.forAll _ _ _ (fun _ _ _ => ?_) ?_
    | with_reducible refine keep_pulse hR _ _ _ ?_
    | with_reducible refine keep_swapJob hP _ _ _ ?_
    | (extract_lets +onlyGivenNames t; refine (fun (_ : P t) => ?_) ?_; (on_goal 2 => (dsimp -zeta only [t]; clear t)); (on_goal 1 => (clear_value t; rename' t => w)))
    | (extract_lets +onlyGivenNames t; refine (fun (_ : P t.1) => ?_) ?_; (on_goal 2 => (dsimp -zeta only [t]; clear t)); (on_goal 1 => (clear_value t; rename' t => w)))
    | (extract_lets +onlyGivenNames t; clear_value t; rename' t => w)
    | with_reducible rfl
    | with_reducible exact List.prefix_rfl
    | with_reducible exact le_rfl
    | with_reducible exact fun h => h
    | exact fun h => Memory.wf_writeList _ _ h
    | exact Nat.le_add_right _ _
    | with_reducible exact List.prefix_append _ _
    | with_reducible refine Closed.foldl _ _ _ (fun _ _ _ => ?_) ?_
    | split
    | with_reducible refine hP.build _ ?_ ?_ ?_ ?_

theorem keep_ladderEnd (hP : Closed bySettle P) (j : FrameJob) (s : State) (hs : P s) :
    P (ladderEnd j s) := by
  unfold ladderEnd
  repeat' first
    | with_reducible assumption
    | with_reducible refine keep_dropHelper hP _ _ ?_
    | with_reducible refine keep_stepEight hP _ _ ?_
    | with_reducible refine keep_swapJob hP _ _ _ ?_
    | with_reducible rfl
    | with_reducible exact List.prefix_rfl
    | with_reducible exact le_rfl
    | with_reducible exact fun h => h
    | exact fun h => Memory.wf_writeList _ _ h
    | exact Nat.le_add_right _ _
    | with_reducible exact List.prefix_append _ _
    | with_reducible refine Closed.foldl _ _ _ (fun _ _ _ => ?_) ?_
    | split
    | with_reducible refine hP.build _ ?_ ?_ ?_ ?_

theorem keep_releaseHeld (hP : Closed bySettle P) (s : State) (hs : P s) :
    P (releaseHeld s) := by
  unfold releaseHeld
  repeat' first
    | with_reducible assumption
    | with_reducible refine Closed.forAll _ _ _ (fun _ _ _ => ?_) ?_
    | with_reducible refine keep_ladderEnd hP _ _ ?_
    | with_reducible refine Closed.foldl _ _ _ (fun _ _ _ => ?_) ?_
    | split

theorem keep_deferRow (hP : Closed bySettle P) (n : ℕ) (z : ℕ) (r : ℕ) (d : ℕ) (again : Bool) (s : State) (hs : P s) :
    P (deferRow n z r d again s) := by
  unfold deferRow
  repeat' first
    | with_reducible assumption
    | with_reducible refine hP.bump _ ACD_RBLD_SKIP _ into_ACD_RBLD_SKIP ?_
    | with_reducible rfl
    | with_reducible exact List.prefix_rfl
    | with_reducible exact le_rfl
    | with_reducible exact fun h => h
    | exact fun h => Memory.wf_writeList _ _ h
    | exact Nat.le_add_right _ _
    | with_reducible exact List.prefix_append _ _
    | with_reducible refine Closed.foldl _ _ _ (fun _ _ _ => ?_) ?_
    | split
    | with_reducible refine hP.build _ ?_ ?_ ?_ ?_

theorem keep_reconstructRow (hP : Closed bySettle P) (z : ℕ) (r : ℕ) (have0 : List ℕ) (want : List ℕ) (s : State) (hs : P s) :
    P (reconstructRow z r have0 want s) := by
  unfold reconstructRow
  refine Closed.forBelow _ _ _ (fun c t ht => ?_) (Closed.forAll _ _ _ (fun p u hu => keep_cleanRange hP _ _ _ hu) hs)
  exact hP.record t _ rfl (fun h => Memory.wf_foldl _ _ _ (fun _ _ => Memory.wf_writeGuard _)
    (Memory.wf_foldl _ _ _ (fun _ _ hm => Memory.wf_foldl _ _ _ (fun _ _ => Memory.wf_write _ _) hm) h)) List.prefix_rfl le_rfl ht


theorem keep_piMismatch (hP : Closed bySettle P) (a : ℕ) (master : ℕ) (s : State) (hs : P s) :
    P (piMismatch a master s) := by
  have hR := hP.ofSettle
  unfold piMismatch
  repeat' first
    | with_reducible assumption
    | with_reducible refine hP.used _ ?_
    | with_reducible refine keep_elogAdd hP _ _ _ _ _ _ _ ?_
    | with_reducible refine keep_pulse hR _ _ _ ?_
    | with_reducible refine Closed.foldl _ _ _ (fun _ _ _ => ?_) ?_
    | split

theorem keep_reportWrong (hP : Closed bySettle P) (z : ℕ) (r : ℕ) (l : List ℕ) (s : State) (hs : P s) :
    P (reportWrong z r l s) := by
  unfold reportWrong
  repeat' first
    | with_reducible assumption
    | with_reducible refine Closed.forAll _ _ _ (fun _ _ _ => ?_) ?_
    | with_reducible refine keep_piMismatch hP _ _ _ ?_
    | with_reducible refine Closed.foldl _ _ _ (fun _ _ _ => ?_) ?_
    | split

theorem keep_rebuildOne (hP : Closed bySettle P) (n : ℕ) (z : ℕ) (r : ℕ) (have0 : List ℕ) (lost : List ℕ) (s : State) (hs : P s) :
    P (rebuildOne n z r have0 lost s) := by
  unfold rebuildOne
  repeat' first
    | with_reducible assumption
    | with_reducible refine hP.bump _ ACD_RBLD_SKIP _ into_ACD_RBLD_SKIP ?_
    | with_reducible refine Closed.forAll _ _ _ (fun _ _ _ => ?_) ?_
    | with_reducible refine keep_reconstructRow hP _ _ _ _ _ ?_
    | with_reducible refine keep_relocateFrame hP _ _ _ _ ?_
    | with_reducible refine keep_reportWrong hP _ _ _ _ ?_
    | (extract_lets +onlyGivenNames t; refine (fun (_ : P t) => ?_) ?_; (on_goal 2 => (dsimp -zeta only [t]; clear t)); (on_goal 1 => (clear_value t; rename' t => w)))
    | (extract_lets +onlyGivenNames t; refine (fun (_ : P t.1) => ?_) ?_; (on_goal 2 => (dsimp -zeta only [t]; clear t)); (on_goal 1 => (clear_value t; rename' t => w)))
    | (extract_lets +onlyGivenNames t; clear_value t; rename' t => w)
    | with_reducible rfl
    | with_reducible exact List.prefix_rfl
    | with_reducible exact le_rfl
    | with_reducible exact fun h => h
    | exact fun h => Memory.wf_writeList _ _ h
    | exact Nat.le_add_right _ _
    | with_reducible exact List.prefix_append _ _
    | with_reducible refine Closed.foldl _ _ _ (fun _ _ _ => ?_) ?_
    | split
    | with_reducible refine hP.build _ ?_ ?_ ?_ ?_

theorem keep_unrecoverableRow (hP : Closed bySettle P) (z : ℕ) (r : ℕ) (s : State) (hs : P s) :
    P (unrecoverableRow z r s) := by
  have hR := hP.ofSettle
  unfold unrecoverableRow
  repeat' first
    | with_reducible assumption
    | with_reducible refine keep_addUnrec hP _ _ _ ?_
    | with_reducible refine Closed.forAll _ _ _ (fun _ _ _ => ?_) ?_
    | with_reducible refine Closed.forBelow _ _ _ (fun _ _ _ => ?_) ?_
    | with_reducible refine keep_padFrom hP _ _ _ ?_
    | with_reducible refine keep_pulse hR _ _ _ ?_
    | with_reducible refine keep_relocateFrame hP _ _ _ _ ?_
    | with_reducible refine keep_writeParities hP _ _ _ _ ?_
    | (extract_lets +onlyGivenNames t; refine (fun (_ : P t) => ?_) ?_; (on_goal 2 => (dsimp -zeta only [t]; clear t)); (on_goal 1 => (clear_value t; rename' t => w)))
    | (extract_lets +onlyGivenNames t; refine (fun (_ : P t.1) => ?_) ?_; (on_goal 2 => (dsimp -zeta only [t]; clear t)); (on_goal 1 => (clear_value t; rename' t => w)))
    | (extract_lets +onlyGivenNames t; clear_value t; rename' t => w)
    | with_reducible refine Closed.foldl _ _ _ (fun _ _ _ => ?_) ?_
    | split

theorem keep_endRebuild (hP : Closed bySettle P) (o : MediaOp) (s : State) (hs : P s) :
    P (endRebuild o s) := by
  unfold endRebuild
  repeat' first
    | with_reducible assumption
    | with_reducible refine keep_closeOp hP _ _ ?_
    | with_reducible refine keep_deferRow hP _ _ _ _ _ _ ?_
    | with_reducible refine keep_rebuildOne hP _ _ _ _ _ _ ?_
    | with_reducible refine keep_unrecoverableRow hP _ _ _ ?_
    | (extract_lets +onlyGivenNames t; refine (fun (_ : P t) => ?_) ?_; (on_goal 2 => (dsimp -zeta only [t]; clear t)); (on_goal 1 => (clear_value t; rename' t => w)))
    | (extract_lets +onlyGivenNames t; refine (fun (_ : P t.1) => ?_) ?_; (on_goal 2 => (dsimp -zeta only [t]; clear t)); (on_goal 1 => (clear_value t; rename' t => w)))
    | (extract_lets +onlyGivenNames t; clear_value t; rename' t => w)
    | with_reducible refine Closed.foldl _ _ _ (fun _ _ _ => ?_) ?_
    | split

theorem keep_recordCursor (hP : Closed bySettle P) (p : ℕ) (s : State) (hs : P s) :
    P (recordCursor p s) := by
  unfold recordCursor
  repeat' first
    | with_reducible assumption
    | with_reducible refine hP.setMany _ _ _ (by simp only [List.all_cons, List.all_nil, Bool.and_true, Bool.and_self, into_ACD_PASS_CUR_ROW, into_ACD_PASS_CUR_ZONE]) ?_
    | (extract_lets +onlyGivenNames t; refine (fun (_ : P t) => ?_) ?_; (on_goal 2 => (dsimp -zeta only [t]; clear t)); (on_goal 1 => (clear_value t; rename' t => w)))
    | (extract_lets +onlyGivenNames t; refine (fun (_ : P t.1) => ?_) ?_; (on_goal 2 => (dsimp -zeta only [t]; clear t)); (on_goal 1 => (clear_value t; rename' t => w)))
    | (extract_lets +onlyGivenNames t; clear_value t; rename' t => w)
    | with_reducible rfl
    | with_reducible exact List.prefix_rfl
    | with_reducible exact le_rfl
    | with_reducible exact fun h => h
    | exact fun h => Memory.wf_writeList _ _ h
    | exact Nat.le_add_right _ _
    | with_reducible exact List.prefix_append _ _
    | with_reducible refine Closed.foldl _ _ _ (fun _ _ _ => ?_) ?_
    | split
    | with_reducible refine hP.build _ ?_ ?_ ?_ ?_

theorem keep_finishPass (hP : Closed bySettle P) (p : ℕ) (s : State) (hs : P s) :
    P (finishPass p s) := by
  have hR := hP.ofSettle
  unfold finishPass
  repeat' first
    | with_reducible assumption
    | with_reducible refine hP.set _ ACD_JREQ _ _ into_ACD_JREQ ?_
    | with_reducible refine hP.set _ ACD_PASS_DONE _ _ into_ACD_PASS_DONE ?_
    | with_reducible refine keep_recordCursor hP _ _ ?_
    | with_reducible refine keep_showLeft hP _ ?_
    | with_reducible refine keep_showPass hR _ ?_
    | with_reducible refine Closed.foldl _ _ _ (fun _ _ _ => ?_) ?_
    | split

theorem keep_rewindPass (hP : Closed bySettle P) (p : ℕ) (s : State) (hs : P s) :
    P (rewindPass p s) := by
  unfold rewindPass
  repeat' first
    | with_reducible assumption
    | with_reducible refine hP.setMany _ _ _ (by simp only [List.all_cons, List.all_nil, Bool.and_true, Bool.and_self, into_ACD_NOWROW, into_ACD_NOWZONE, into_ACD_PEND, into_ACD_VISIT, into_ACD_ZDONE]) ?_
    | (extract_lets +onlyGivenNames t; refine (fun (_ : P t) => ?_) ?_; (on_goal 2 => (dsimp -zeta only [t]; clear t)); (on_goal 1 => (clear_value t; rename' t => w)))
    | (extract_lets +onlyGivenNames t; refine (fun (_ : P t.1) => ?_) ?_; (on_goal 2 => (dsimp -zeta only [t]; clear t)); (on_goal 1 => (clear_value t; rename' t => w)))
    | (extract_lets +onlyGivenNames t; clear_value t; rename' t => w)
    | with_reducible rfl
    | with_reducible exact List.prefix_rfl
    | with_reducible exact le_rfl
    | with_reducible exact fun h => h
    | exact fun h => Memory.wf_writeList _ _ h
    | exact Nat.le_add_right _ _
    | with_reducible exact List.prefix_append _ _
    | with_reducible refine Closed.foldl _ _ _ (fun _ _ _ => ?_) ?_
    | split
    | with_reducible refine hP.build _ ?_ ?_ ?_ ?_

theorem keep_haltRebuild (hP : Closed bySettle P) (s : State) (hs : P s) :
    P (haltRebuild s) := by
  unfold haltRebuild
  repeat' first
    | with_reducible assumption
    | with_reducible refine Closed.forAll _ _ _ (fun _ _ _ => ?_) ?_
    | with_reducible refine keep_rewindPass hP _ _ ?_
    | with_reducible refine keep_showLeft hP _ ?_
    | with_reducible refine Closed.foldl _ _ _ (fun _ _ _ => ?_) ?_
    | split

theorem keep_settleRebuild (hP : Closed bySettle P) (s : State) (hs : P s) :
    P (settleRebuild s) := by
  unfold settleRebuild
  repeat' first
    | with_reducible assumption
    | with_reducible refine keep_endRebuild hP _ _ ?_
    | with_reducible refine keep_finishPass hP _ _ ?_
    | with_reducible refine Closed.forAll _ _ _ (fun _ _ _ => ?_) ?_
    | with_reducible refine keep_haltRebuild hP _ ?_
    | (extract_lets +onlyGivenNames t; refine (fun (_ : P t) => ?_) ?_; (on_goal 2 => (dsimp -zeta only [t]; clear t)); (on_goal 1 => (clear_value t; rename' t => w)))
    | (extract_lets +onlyGivenNames t; refine (fun (_ : P t.1) => ?_) ?_; (on_goal 2 => (dsimp -zeta only [t]; clear t)); (on_goal 1 => (clear_value t; rename' t => w)))
    | (extract_lets +onlyGivenNames t; clear_value t; rename' t => w)
    | with_reducible refine Closed.foldl _ _ _ (fun _ _ _ => ?_) ?_
    | split

theorem keep_enterSkip (hP : Closed bySettle P) (x : ℕ) (track : ℕ) (slot : ℕ) (defer : Bool) (s : State) (hs : P s) :
    P (enterSkip x track slot defer s) := by
  unfold enterSkip
  repeat' first
    | with_reducible assumption
    | with_reducible refine hP.bump _ FMT_CNT_GROWN _ into_FMT_CNT_GROWN ?_
    | (extract_lets +onlyGivenNames t; refine (fun (_ : P t) => ?_) ?_; (on_goal 2 => (dsimp -zeta only [t]; clear t)); (on_goal 1 => (clear_value t; rename' t => w)))
    | (extract_lets +onlyGivenNames t; refine (fun (_ : P t.1) => ?_) ?_; (on_goal 2 => (dsimp -zeta only [t]; clear t)); (on_goal 1 => (clear_value t; rename' t => w)))
    | (extract_lets +onlyGivenNames t; clear_value t; rename' t => w)
    | with_reducible rfl
    | with_reducible exact List.prefix_rfl
    | with_reducible exact le_rfl
    | with_reducible exact fun h => h
    | exact fun h => Memory.wf_writeList _ _ h
    | exact Nat.le_add_right _ _
    | with_reducible exact List.prefix_append _ _
    | with_reducible refine Closed.foldl _ _ _ (fun _ _ _ => ?_) ?_
    | split
    | with_reducible refine hP.build _ ?_ ?_ ?_ ?_

theorem keep_deferSlot (hP : Closed bySettle P) (j : FrameJob) (s : State) (hs : P s) :
    P (deferSlot j s) := by
  unfold deferSlot
  repeat' first
    | with_reducible assumption
    | with_reducible refine keep_enterSkip hP _ _ _ _ _ ?_
    | with_reducible refine Closed.foldl _ _ _ (fun _ _ _ => ?_) ?_
    | split

theorem keep_noteDeep (hP : Closed bySettle P) (j : FrameJob) (s : State) (hs : P s) :
    P (noteDeep j s) := by
  unfold noteDeep
  repeat' first
    | with_reducible assumption
    | with_reducible refine keep_State_modOp hP _ _ _ ?_
    | with_reducible rfl
    | with_reducible exact List.prefix_rfl
    | with_reducible exact le_rfl
    | with_reducible exact fun h => h
    | exact fun h => Memory.wf_writeList _ _ h
    | exact Nat.le_add_right _ _
    | with_reducible exact List.prefix_append _ _
    | with_reducible refine Closed.foldl _ _ _ (fun _ _ _ => ?_) ?_
    | split
    | with_reducible refine hP.build _ ?_ ?_ ?_ ?_

theorem keep_noteGot (hP : Closed bySettle P) (j : FrameJob) (s : State) (hs : P s) :
    P (noteGot j s) := by
  unfold noteGot
  repeat' first
    | with_reducible assumption
    | with_reducible refine keep_State_modOp hP _ _ _ ?_
    | (extract_lets +onlyGivenNames t; refine (fun (_ : P t) => ?_) ?_; (on_goal 2 => (dsimp -zeta only [t]; clear t)); (on_goal 1 => (clear_value t; rename' t => w)))
    | (extract_lets +onlyGivenNames t; refine (fun (_ : P t.1) => ?_) ?_; (on_goal 2 => (dsimp -zeta only [t]; clear t)); (on_goal 1 => (clear_value t; rename' t => w)))
    | (extract_lets +onlyGivenNames t; clear_value t; rename' t => w)
    | with_reducible rfl
    | with_reducible exact List.prefix_rfl
    | with_reducible exact le_rfl
    | with_reducible exact fun h => h
    | exact fun h => Memory.wf_writeList _ _ h
    | exact Nat.le_add_right _ _
    | with_reducible exact List.prefix_append _ _
    | with_reducible refine Closed.foldl _ _ _ (fun _ _ _ => ?_) ?_
    | split
    | with_reducible refine hP.build _ ?_ ?_ ?_ ?_

theorem keep_raDone (hP : Closed bySettle P) (j : FrameJob) (s : State) (hs : P s) :
    P (raDone j s) := by
  unfold raDone
  repeat' first
    | with_reducible assumption
    | with_reducible rfl
    | with_reducible exact List.prefix_rfl
    | with_reducible exact le_rfl
    | with_reducible exact fun h => h
    | exact fun h => Memory.wf_writeList _ _ h
    | exact Nat.le_add_right _ _
    | with_reducible exact List.prefix_append _ _
    | with_reducible refine Closed.foldl _ _ _ (fun _ _ _ => ?_) ?_
    | split
    | with_reducible refine hP.build _ ?_ ?_ ?_ ?_

theorem keep_codewordDone (hP : Closed bySettle P) (j : FrameJob) (s : State) (hs : P s) :
    P (codewordDone j s) := by
  unfold codewordDone
  repeat' first
    | with_reducible assumption
    | with_reducible refine keep_deferSlot hP _ _ ?_
    | with_reducible refine keep_endOp hP _ _ ?_
    | with_reducible refine keep_endedAt hP _ _ _ ?_
    | with_reducible refine keep_noteDeep hP _ _ ?_
    | with_reducible refine keep_noteGot hP _ _ ?_
    | with_reducible refine keep_raDone hP _ _ ?_
    | with_reducible refine keep_relocateFrame hP _ _ _ _ ?_
    | with_reducible refine keep_swapJob hP _ _ _ ?_
    | (extract_lets +onlyGivenNames t; refine (fun (_ : P t) => ?_) ?_; (on_goal 2 => (dsimp -zeta only [t]; clear t)); (on_goal 1 => (clear_value t; rename' t => w)))
    | (extract_lets +onlyGivenNames t; refine (fun (_ : P t.1) => ?_) ?_; (on_goal 2 => (dsimp -zeta only [t]; clear t)); (on_goal 1 => (clear_value t; rename' t => w)))
    | (extract_lets +onlyGivenNames t; clear_value t; rename' t => w)
    | with_reducible refine Closed.foldl _ _ _ (fun _ _ _ => ?_) ?_
    | split

theorem keep_queueRecovery (hP : Closed bySettle P) (l : ℕ) (op : FrameOp) (cw : ℕ) (soft : List (BitVec 4)) (s : State) (hs : P s) :
    P (queueRecovery l op cw soft s) := by
  exact hP.record (s.bump DEC_FID 0) _ rfl (fun h => h) List.prefix_rfl le_rfl (hP.bump s DEC_FID 0 into_DEC_FID hs)


theorem keep_recoverOthers (hP : Closed bySettle P) (j : FrameJob) (s : State) (hs : P s) :
    P (recoverOthers j s) := by
  unfold recoverOthers
  repeat' first
    | with_reducible assumption
    | with_reducible refine Closed.forAll _ _ _ (fun _ _ _ => ?_) ?_
    | (extract_lets +onlyGivenNames t; refine (fun (_ : P t) => ?_) ?_; (on_goal 2 => (dsimp -zeta only [t]; clear t)); (on_goal 1 => (clear_value t; rename' t => w)))
    | (extract_lets +onlyGivenNames t; refine (fun (_ : P t.1) => ?_) ?_; (on_goal 2 => (dsimp -zeta only [t]; clear t)); (on_goal 1 => (clear_value t; rename' t => w)))
    | (extract_lets +onlyGivenNames t; clear_value t; rename' t => w)
    | with_reducible rfl
    | with_reducible exact List.prefix_rfl
    | with_reducible exact le_rfl
    | with_reducible exact fun h => h
    | exact fun h => Memory.wf_writeList _ _ h
    | exact Nat.le_add_right _ _
    | with_reducible exact List.prefix_append _ _
    | with_reducible refine Closed.foldl _ _ _ (fun _ _ _ => ?_) ?_
    | split
    | with_reducible refine hP.build _ ?_ ?_ ?_ ?_

theorem keep_reissue (hP : Closed bySettle P) (j : FrameJob) (s : State) (hs : P s) :
    P (reissue j s) := by
  unfold reissue
  repeat' first
    | with_reducible assumption
    | with_reducible rfl
    | with_reducible exact List.prefix_rfl
    | with_reducible exact le_rfl
    | with_reducible exact fun h => h
    | exact fun h => Memory.wf_writeList _ _ h
    | exact Nat.le_add_right _ _
    | with_reducible exact List.prefix_append _ _
    | with_reducible refine Closed.foldl _ _ _ (fun _ _ _ => ?_) ?_
    | split
    | with_reducible refine hP.build _ ?_ ?_ ?_ ?_

theorem keep_takeData (hP : Closed bySettle P) (o : MediaOp) (s : State) (hs : P s) :
    P (takeData o s) := by
  unfold takeData
  repeat' first
    | with_reducible assumption
    | with_reducible refine keep_State_modOp hP _ _ _ ?_
    | with_reducible refine keep_addRead hP _ _ _ _ _ _ _ _ _ ?_
    | with_reducible refine Closed.forAll _ _ _ (fun _ _ _ => ?_) ?_
    | (extract_lets +onlyGivenNames t; refine (fun (_ : P t) => ?_) ?_; (on_goal 2 => (dsimp -zeta only [t]; clear t)); (on_goal 1 => (clear_value t; rename' t => w)))
    | (extract_lets +onlyGivenNames t; refine (fun (_ : P t.1) => ?_) ?_; (on_goal 2 => (dsimp -zeta only [t]; clear t)); (on_goal 1 => (clear_value t; rename' t => w)))
    | (extract_lets +onlyGivenNames t; clear_value t; rename' t => w)
    | with_reducible rfl
    | with_reducible exact List.prefix_rfl
    | with_reducible exact le_rfl
    | with_reducible exact fun h => h
    | exact fun h => Memory.wf_writeList _ _ h
    | exact Nat.le_add_right _ _
    | with_reducible exact List.prefix_append _ _
    | with_reducible refine Closed.foldl _ _ _ (fun _ _ _ => ?_) ?_
    | split
    | with_reducible refine hP.build _ ?_ ?_ ?_ ?_

theorem keep_gatherRow (hP : Closed bySettle P) (z : ℕ) (r : ℕ) (n : ℕ) (mtag : ℕ) (d : ℕ) (s : State) (hs : P s) :
    P (gatherRow z r n mtag d s) := by
  unfold gatherRow
  repeat' first
    | with_reducible assumption
    | with_reducible refine keep_addOp hP _ _ ?_
    | with_reducible refine keep_takeData hP _ _ ?_
    | with_reducible refine keep_takeSources hP _ _ _ ?_
    | (extract_lets +onlyGivenNames t; refine (fun (_ : P t) => ?_) ?_; (on_goal 2 => (dsimp -zeta only [t]; clear t)); (on_goal 1 => (clear_value t; rename' t => w)))
    | (extract_lets +onlyGivenNames t; refine (fun (_ : P t.1) => ?_) ?_; (on_goal 2 => (dsimp -zeta only [t]; clear t)); (on_goal 1 => (clear_value t; rename' t => w)))
    | (extract_lets +onlyGivenNames t; clear_value t; rename' t => w)
    | with_reducible rfl
    | with_reducible exact List.prefix_rfl
    | with_reducible exact le_rfl
    | with_reducible exact fun h => h
    | exact fun h => Memory.wf_writeList _ _ h
    | exact Nat.le_add_right _ _
    | with_reducible exact List.prefix_append _ _
    | with_reducible refine Closed.foldl _ _ _ (fun _ _ _ => ?_) ?_
    | split
    | with_reducible refine hP.build _ ?_ ?_ ?_ ?_

theorem keep_repairRow (hP : Closed bySettle P) (z : ℕ) (r : ℕ) (s : State) (hs : P s) :
    P (repairRow z r s) := by
  unfold repairRow
  repeat' first
    | with_reducible assumption
    | with_reducible refine keep_gatherRow hP _ _ _ _ _ _ ?_
    | (extract_lets +onlyGivenNames t; refine (fun (_ : P t) => ?_) ?_; (on_goal 2 => (dsimp -zeta only [t]; clear t)); (on_goal 1 => (clear_value t; rename' t => w)))
    | (extract_lets +onlyGivenNames t; refine (fun (_ : P t.1) => ?_) ?_; (on_goal 2 => (dsimp -zeta only [t]; clear t)); (on_goal 1 => (clear_value t; rename' t => w)))
    | (extract_lets +onlyGivenNames t; clear_value t; rename' t => w)
    | with_reducible refine Closed.foldl _ _ _ (fun _ _ _ => ?_) ?_
    | split

theorem keep_frameUnreadable (hP : Closed bySettle P) (z : ℕ) (r : ℕ) (pos : ℕ) (s : State) (hs : P s) :
    P (frameUnreadable z r pos s) := by
  unfold frameUnreadable
  repeat' first
    | with_reducible assumption
    | with_reducible refine keep_repairRow hP _ _ _ ?_
    | (extract_lets +onlyGivenNames t; refine (fun (_ : P t) => ?_) ?_; (on_goal 2 => (dsimp -zeta only [t]; clear t)); (on_goal 1 => (clear_value t; rename' t => w)))
    | (extract_lets +onlyGivenNames t; refine (fun (_ : P t.1) => ?_) ?_; (on_goal 2 => (dsimp -zeta only [t]; clear t)); (on_goal 1 => (clear_value t; rename' t => w)))
    | (extract_lets +onlyGivenNames t; clear_value t; rename' t => w)
    | with_reducible rfl
    | with_reducible exact List.prefix_rfl
    | with_reducible exact le_rfl
    | with_reducible exact fun h => h
    | exact fun h => Memory.wf_writeList _ _ h
    | exact Nat.le_add_right _ _
    | with_reducible exact List.prefix_append _ _
    | with_reducible refine Closed.foldl _ _ _ (fun _ _ _ => ?_) ?_
    | split
    | with_reducible refine hP.build _ ?_ ?_ ?_ ?_

theorem keep_raFailed (hP : Closed bySettle P) (z : ℕ) (f : ℕ) (s : State) (hs : P s) :
    P (raFailed z f s) := by
  unfold raFailed
  repeat' first
    | with_reducible assumption
    | with_reducible refine keep_addRead hP _ _ _ _ _ _ _ _ _ ?_
    | (extract_lets +onlyGivenNames t; refine (fun (_ : P t) => ?_) ?_; (on_goal 2 => (dsimp -zeta only [t]; clear t)); (on_goal 1 => (clear_value t; rename' t => w)))
    | (extract_lets +onlyGivenNames t; refine (fun (_ : P t.1) => ?_) ?_; (on_goal 2 => (dsimp -zeta only [t]; clear t)); (on_goal 1 => (clear_value t; rename' t => w)))
    | (extract_lets +onlyGivenNames t; clear_value t; rename' t => w)
    | with_reducible rfl
    | with_reducible exact List.prefix_rfl
    | with_reducible exact le_rfl
    | with_reducible exact fun h => h
    | exact fun h => Memory.wf_writeList _ _ h
    | exact Nat.le_add_right _ _
    | with_reducible exact List.prefix_append _ _
    | with_reducible refine Closed.foldl _ _ _ (fun _ _ _ => ?_) ?_
    | split
    | with_reducible refine hP.build _ ?_ ?_ ?_ ?_

theorem keep_reportLost (hP : Closed bySettle P) (j : FrameJob) (s : State) (hs : P s) :
    P (reportLost j s) := by
  unfold reportLost
  repeat' first
    | with_reducible assumption
    | with_reducible refine keep_State_modOp hP _ _ _ ?_
    | with_reducible refine keep_endOp hP _ _ ?_
    | with_reducible refine keep_endedAt hP _ _ _ ?_
    | with_reducible refine keep_frameUnreadable hP _ _ _ _ ?_
    | with_reducible refine keep_raFailed hP _ _ _ ?_
    | with_reducible refine keep_swapJob hP _ _ _ ?_
    | with_reducible refine keep_takeSources hP _ _ _ ?_
    | (extract_lets +onlyGivenNames t; refine (fun (_ : P t) => ?_) ?_; (on_goal 2 => (dsimp -zeta only [t]; clear t)); (on_goal 1 => (clear_value t; rename' t => w)))
    | (extract_lets +onlyGivenNames t; refine (fun (_ : P t.1) => ?_) ?_; (on_goal 2 => (dsimp -zeta only [t]; clear t)); (on_goal 1 => (clear_value t; rename' t => w)))
    | (extract_lets +onlyGivenNames t; clear_value t; rename' t => w)
    | with_reducible rfl
    | with_reducible exact List.prefix_rfl
    | with_reducible exact le_rfl
    | with_reducible exact fun h => h
    | exact fun h => Memory.wf_writeList _ _ h
    | exact Nat.le_add_right _ _
    | with_reducible exact List.prefix_append _ _
    | with_reducible refine Closed.foldl _ _ _ (fun _ _ _ => ?_) ?_
    | split
    | with_reducible refine hP.build _ ?_ ?_ ?_ ?_

theorem keep_ladderFrom (hP : Closed bySettle P) (a : ℕ) (a1 : ℕ) (a2 : FrameJob) (a3 : State) (ha3 : P a3) :
    P (ladderFrom a a1 a2 a3) := by
  induction a generalizing a1 a2 a3 with
  | zero =>
    unfold ladderFrom
    repeat' first
      | with_reducible assumption
      | with_reducible refine Closed.forAll _ _ _ (fun _ _ _ => ?_) ?_
      | with_reducible refine keep_ladderEnd hP _ _ ?_
      | with_reducible refine keep_queueRecovery hP _ _ _ _ _ ?_
      | with_reducible refine keep_recoverOthers hP _ _ ?_
      | with_reducible refine keep_reissue hP _ _ ?_
      | with_reducible refine keep_reportLost hP _ _ ?_
      | with_reducible refine keep_swapJob hP _ _ _ ?_
      | (extract_lets +onlyGivenNames t; refine (fun (_ : P t) => ?_) ?_; (on_goal 2 => (dsimp -zeta only [t]; clear t)); (on_goal 1 => (clear_value t; rename' t => w)))
      | (extract_lets +onlyGivenNames t; refine (fun (_ : P t.1) => ?_) ?_; (on_goal 2 => (dsimp -zeta only [t]; clear t)); (on_goal 1 => (clear_value t; rename' t => w)))
      | (extract_lets +onlyGivenNames t; clear_value t; rename' t => w)
      | with_reducible rfl
      | with_reducible exact List.prefix_rfl
      | with_reducible exact le_rfl
      | with_reducible exact fun h => h
      | exact fun h => Memory.wf_writeList _ _ h
      | exact Nat.le_add_right _ _
      | with_reducible exact List.prefix_append _ _
      | with_reducible refine Closed.foldl _ _ _ (fun _ _ _ => ?_) ?_
      | split
      | with_reducible refine hP.build _ ?_ ?_ ?_ ?_
  | succ k ih =>
    unfold ladderFrom
    repeat' first
      | with_reducible assumption
      | with_reducible refine ih _ _ _ ?_
      | with_reducible refine Closed.forAll _ _ _ (fun _ _ _ => ?_) ?_
      | with_reducible refine keep_ladderEnd hP _ _ ?_
      | with_reducible refine keep_queueRecovery hP _ _ _ _ _ ?_
      | with_reducible refine keep_recoverOthers hP _ _ ?_
      | with_reducible refine keep_reissue hP _ _ ?_
      | with_reducible refine keep_reportLost hP _ _ ?_
      | with_reducible refine keep_swapJob hP _ _ _ ?_
      | (extract_lets +onlyGivenNames t; refine (fun (_ : P t) => ?_) ?_; (on_goal 2 => (dsimp -zeta only [t]; clear t)); (on_goal 1 => (clear_value t; rename' t => w)))
      | (extract_lets +onlyGivenNames t; refine (fun (_ : P t.1) => ?_) ?_; (on_goal 2 => (dsimp -zeta only [t]; clear t)); (on_goal 1 => (clear_value t; rename' t => w)))
      | (extract_lets +onlyGivenNames t; clear_value t; rename' t => w)
      | with_reducible rfl
      | with_reducible exact List.prefix_rfl
      | with_reducible exact le_rfl
      | with_reducible exact fun h => h
      | exact fun h => Memory.wf_writeList _ _ h
      | exact Nat.le_add_right _ _
      | with_reducible exact List.prefix_append _ _
      | with_reducible refine Closed.foldl _ _ _ (fun _ _ _ => ?_) ?_
      | split
      | with_reducible refine hP.build _ ?_ ?_ ?_ ?_

theorem keep_reconFailed (hP : Closed bySettle P) (j : FrameJob) (s : State) (hs : P s) :
    P (reconFailed j s) := by
  unfold reconFailed
  repeat' first
    | with_reducible assumption
    | with_reducible refine keep_ladderFrom hP _ _ _ _ ?_
    | with_reducible refine keep_recoverOthers hP _ _ ?_
    | with_reducible refine keep_stepEight hP _ _ ?_
    | with_reducible refine Closed.foldl _ _ _ (fun _ _ _ => ?_) ?_
    | split

theorem keep_reconDone (hP : Closed bySettle P) (z : ℕ) (r : ℕ) (pos : ℕ) (have0 : List ℕ) (s : State) (hs : P s) :
    P (reconDone z r pos have0 s) := by
  unfold reconDone
  repeat' first
    | with_reducible assumption
    | with_reducible refine hP.bump _ ACD_CNT_RECON _ into_ACD_CNT_RECON ?_
    | with_reducible refine keep_codewordDone hP _ _ ?_
    | with_reducible refine Closed.forAll _ _ _ (fun _ _ _ => ?_) ?_
    | with_reducible refine keep_reconFailed hP _ _ ?_
    | with_reducible refine keep_reconstructRow hP _ _ _ _ _ ?_
    | with_reducible refine keep_relocateFrame hP _ _ _ _ ?_
    | with_reducible refine keep_reportWrong hP _ _ _ _ ?_
    | (extract_lets +onlyGivenNames t; refine (fun (_ : P t) => ?_) ?_; (on_goal 2 => (dsimp -zeta only [t]; clear t)); (on_goal 1 => (clear_value t; rename' t => w)))
    | (extract_lets +onlyGivenNames t; refine (fun (_ : P t.1) => ?_) ?_; (on_goal 2 => (dsimp -zeta only [t]; clear t)); (on_goal 1 => (clear_value t; rename' t => w)))
    | (extract_lets +onlyGivenNames t; clear_value t; rename' t => w)
    | with_reducible refine Closed.foldl _ _ _ (fun _ _ _ => ?_) ?_
    | split

theorem keep_endRecon (hP : Closed bySettle P) (o : MediaOp) (s : State) (hs : P s) :
    P (endRecon o s) := by
  unfold endRecon
  repeat' first
    | with_reducible assumption
    | with_reducible refine keep_closeOp hP _ _ ?_
    | with_reducible refine Closed.forAll _ _ _ (fun _ _ _ => ?_) ?_
    | with_reducible refine keep_reconDone hP _ _ _ _ _ ?_
    | with_reducible refine keep_reconFailed hP _ _ ?_
    | (extract_lets +onlyGivenNames t; refine (fun (_ : P t) => ?_) ?_; (on_goal 2 => (dsimp -zeta only [t]; clear t)); (on_goal 1 => (clear_value t; rename' t => w)))
    | (extract_lets +onlyGivenNames t; refine (fun (_ : P t.1) => ?_) ?_; (on_goal 2 => (dsimp -zeta only [t]; clear t)); (on_goal 1 => (clear_value t; rename' t => w)))
    | (extract_lets +onlyGivenNames t; clear_value t; rename' t => w)
    | with_reducible refine Closed.foldl _ _ _ (fun _ _ _ => ?_) ?_
    | split

theorem keep_settleRecon (hP : Closed bySettle P) (s : State) (hs : P s) :
    P (settleRecon s) := by
  unfold settleRecon
  repeat' first
    | with_reducible assumption
    | with_reducible refine keep_endRecon hP _ _ ?_
    | with_reducible refine Closed.forAll _ _ _ (fun _ _ _ => ?_) ?_
    | with_reducible refine Closed.foldl _ _ _ (fun _ _ _ => ?_) ?_
    | split

theorem keep_shelfRelocs (hP : Closed bySettle P) (s : State) (hs : P s) :
    P (shelfRelocs s) := by
  unfold shelfRelocs
  repeat' first
    | with_reducible assumption
    | with_reducible refine Closed.forAll _ _ _ (fun _ _ _ => ?_) ?_
    | with_reducible refine keep_unitCmd hP _ _ _ _ _ ?_
    | (extract_lets +onlyGivenNames t; refine (fun (_ : P t) => ?_) ?_; (on_goal 2 => (dsimp -zeta only [t]; clear t)); (on_goal 1 => (clear_value t; rename' t => w)))
    | (extract_lets +onlyGivenNames t; refine (fun (_ : P t.1) => ?_) ?_; (on_goal 2 => (dsimp -zeta only [t]; clear t)); (on_goal 1 => (clear_value t; rename' t => w)))
    | (extract_lets +onlyGivenNames t; clear_value t; rename' t => w)
    | with_reducible refine Closed.foldl _ _ _ (fun _ _ _ => ?_) ?_
    | split

theorem keep_settleMedia (hP : Closed bySettle P) (t : State) (ht : P t) :
    P (settleMedia t) := by
  unfold settleMedia
  repeat' first
    | with_reducible assumption
    | with_reducible refine keep_fillRelocs hP _ ?_
    | with_reducible refine keep_redirectLost hP _ ?_
    | with_reducible refine keep_releaseHeld hP _ ?_
    | with_reducible refine keep_settleRebuild hP _ ?_
    | with_reducible refine keep_settleRecon hP _ ?_
    | with_reducible refine keep_shelfRelocs hP _ ?_
    | with_reducible refine Closed.foldl _ _ _ (fun _ _ _ => ?_) ?_
    | split

theorem keep_writeHome (hP : Closed bySettle P) (k : TableKind) (c : TableCopy) (s : State) (x : ℕ) (hs : P s) :
    P (writeHome k c s x) := by
  unfold writeHome
  repeat' first
    | with_reducible assumption
    | (extract_lets +onlyGivenNames t; refine (fun (_ : P t) => ?_) ?_; (on_goal 2 => (dsimp -zeta only [t]; clear t)); (on_goal 1 => (clear_value t; rename' t => w)))
    | (extract_lets +onlyGivenNames t; refine (fun (_ : P t.1) => ?_) ?_; (on_goal 2 => (dsimp -zeta only [t]; clear t)); (on_goal 1 => (clear_value t; rename' t => w)))
    | (extract_lets +onlyGivenNames t; clear_value t; rename' t => w)
    | with_reducible rfl
    | with_reducible exact List.prefix_rfl
    | with_reducible exact le_rfl
    | with_reducible exact fun h => h
    | exact fun h => Memory.wf_writeList _ _ h
    | exact Nat.le_add_right _ _
    | with_reducible exact List.prefix_append _ _
    | with_reducible refine Closed.foldl _ _ _ (fun _ _ _ => ?_) ?_
    | split
    | with_reducible refine hP.build _ ?_ ?_ ?_ ?_

theorem keep_writeNor (hP : Closed bySettle P) (k : TableKind) (c : TableCopy) (s : State) (hs : P s) :
    P (writeNor k c s) := by
  unfold writeNor
  repeat' first
    | with_reducible assumption
    | (extract_lets +onlyGivenNames t; refine (fun (_ : P t) => ?_) ?_; (on_goal 2 => (dsimp -zeta only [t]; clear t)); (on_goal 1 => (clear_value t; rename' t => w)))
    | (extract_lets +onlyGivenNames t; refine (fun (_ : P t.1) => ?_) ?_; (on_goal 2 => (dsimp -zeta only [t]; clear t)); (on_goal 1 => (clear_value t; rename' t => w)))
    | (extract_lets +onlyGivenNames t; clear_value t; rename' t => w)
    | with_reducible rfl
    | with_reducible exact List.prefix_rfl
    | with_reducible exact le_rfl
    | with_reducible exact fun h => h
    | exact fun h => Memory.wf_writeList _ _ h
    | exact Nat.le_add_right _ _
    | with_reducible exact List.prefix_append _ _
    | with_reducible refine Closed.foldl _ _ _ (fun _ _ _ => ?_) ?_
    | split
    | with_reducible refine hP.build _ ?_ ?_ ?_ ?_

theorem keep_saveKind (hP : Closed bySettle P) (k : TableKind) (s : State) (hs : P s) :
    P (saveKind k s) := by
  unfold saveKind
  repeat' first
    | with_reducible assumption
    | with_reducible refine keep_writeHome hP _ _ _ _ ?_
    | with_reducible refine keep_writeNor hP _ _ _ ?_
    | with_reducible refine Closed.foldl _ _ _ (fun _ _ _ => ?_) ?_
    | split

theorem keep_settleTables (hP : Closed bySettle P) (s : State) (hs : P s) :
    P (settleTables s) := by
  unfold settleTables
  repeat' first
    | with_reducible assumption
    | with_reducible refine Closed.forAll _ _ _ (fun _ _ _ => ?_) ?_
    | with_reducible refine keep_saveKind hP _ _ ?_
    | with_reducible refine Closed.foldl _ _ _ (fun _ _ _ => ?_) ?_
    | split

theorem keep_settle (hP : Closed bySettle P) (s : State) (t : State) (ht : P t) :
    P (settle s t) := by
  unfold settle
  repeat' first
    | with_reducible assumption
    | with_reducible refine keep_hostEnd hP _ _ ?_
    | with_reducible refine keep_respare hP _ _ ?_
    | with_reducible refine keep_runRequests hP _ ?_
    | with_reducible refine keep_settleBarrier hP _ _ ?_
    | with_reducible refine keep_settleMedia hP _ ?_
    | with_reducible refine keep_settleTables hP _ ?_
    | with_reducible refine Closed.foldl _ _ _ (fun _ _ _ => ?_) ?_
    | split

theorem keep_settleAngle (hP : Closed bySettle P) (t : State) (ht : P t) :
    P (settleAngle t) := by
  have hR := hP.ofSettle
  unfold settleAngle
  repeat' first
    | with_reducible assumption
    | with_reducible refine keep_pilotLoss hR _ ?_
    | with_reducible refine keep_selectSource hR _ ?_
    | with_reducible refine Closed.foldl _ _ _ (fun _ _ _ => ?_) ?_
    | split

theorem keep_applyCap (hP : Closed bySettle P) (s : State) (hs : P s) :
    P (applyCap s) := by
  have hR := hP.ofSettle
  unfold applyCap
  repeat' first
    | with_reducible assumption
    | with_reducible refine keep_orderlyDrydown hR _ _ ?_
    | with_reducible refine keep_setPower hP _ _ ?_
    | (extract_lets +onlyGivenNames t; refine (fun (_ : P t) => ?_) ?_; (on_goal 2 => (dsimp -zeta only [t]; clear t)); (on_goal 1 => (clear_value t; rename' t => w)))
    | (extract_lets +onlyGivenNames t; refine (fun (_ : P t.1) => ?_) ?_; (on_goal 2 => (dsimp -zeta only [t]; clear t)); (on_goal 1 => (clear_value t; rename' t => w)))
    | (extract_lets +onlyGivenNames t; clear_value t; rename' t => w)
    | with_reducible refine Closed.foldl _ _ _ (fun _ _ _ => ?_) ?_
    | split

theorem keep_applyOrders (hP : Closed bySettle P) (s : State) (hs : P s) :
    P (applyOrders s) := by
  have hR := hP.ofSettle
  unfold applyOrders
  repeat' first
    | with_reducible assumption
    | with_reducible refine keep_orderlyDrydown hR _ _ ?_
    | with_reducible refine keep_placeFrontiers hP _ ?_
    | with_reducible refine keep_spnStart hP _ ?_
    | with_reducible refine Closed.foldl _ _ _ (fun _ _ _ => ?_) ?_
    | split

theorem keep_openSpan (hP : Closed bySettle P) (l : ℕ) (ta : Bool) (n : ℕ) (s : State) (hs : P s) :
    P (openSpan l ta n s) := by
  unfold openSpan
  repeat' first
    | with_reducible assumption
    | with_reducible refine keep_State_setLane hP _ _ _ ?_
    | with_reducible rfl
    | with_reducible exact List.prefix_rfl
    | with_reducible exact le_rfl
    | with_reducible exact fun h => h
    | exact fun h => Memory.wf_writeList _ _ h
    | exact Nat.le_add_right _ _
    | with_reducible exact List.prefix_append _ _
    | with_reducible refine Closed.foldl _ _ _ (fun _ _ _ => ?_) ?_
    | split
    | with_reducible refine hP.build _ ?_ ?_ ?_ ?_

theorem keep_asyncEvent (hP : Closed bySettle P) (c : NvCmd) (s : State) (hs : P s) :
    P (asyncEvent c s) := by
  have hR := hP.ofSettle
  unfold asyncEvent
  repeat' first
    | with_reducible assumption
    | with_reducible refine keep_State_modCmd hP _ _ _ ?_
    | with_reducible refine keep_deliverEvents hR _ _ _ ?_
    | with_reducible refine keep_finish hP _ _ _ ?_
    | (extract_lets +onlyGivenNames t; refine (fun (_ : P t) => ?_) ?_; (on_goal 2 => (dsimp -zeta only [t]; clear t)); (on_goal 1 => (clear_value t; rename' t => w)))
    | (extract_lets +onlyGivenNames t; refine (fun (_ : P t.1) => ?_) ?_; (on_goal 2 => (dsimp -zeta only [t]; clear t)); (on_goal 1 => (clear_value t; rename' t => w)))
    | (extract_lets +onlyGivenNames t; clear_value t; rename' t => w)
    | with_reducible rfl
    | with_reducible exact List.prefix_rfl
    | with_reducible exact le_rfl
    | with_reducible exact fun h => h
    | exact fun h => Memory.wf_writeList _ _ h
    | exact Nat.le_add_right _ _
    | with_reducible exact List.prefix_append _ _
    | with_reducible refine Closed.foldl _ _ _ (fun _ _ _ => ?_) ?_
    | split
    | with_reducible refine hP.build _ ?_ ?_ ?_ ?_

theorem keep_autostart (hP : Closed bySettle P) (s : State) (hs : P s) :
    P (autostart s) := by
  unfold autostart
  repeat' first
    | with_reducible assumption
    | with_reducible refine keep_startOrder hP _ ?_
    | with_reducible refine Closed.foldl _ _ _ (fun _ _ _ => ?_) ?_
    | split

theorem keep_raDrop (hP : Closed bySettle P) (s : State) (hs : P s) :
    P (raDrop s) := by
  unfold raDrop
  repeat' first
    | with_reducible assumption
    | with_reducible refine keep_dropRa hP _ _ ?_
    | with_reducible refine Closed.foldl _ _ _ (fun _ _ _ => ?_) ?_
    | split

theorem keep_gatherFailed (hP : Closed bySettle P) (mtag : ℕ) (z : ℕ) (r : ℕ) (pos : ℕ) (s : State) (hs : P s) :
    P (gatherFailed mtag z r pos s) := by
  unfold gatherFailed
  repeat' first
    | with_reducible assumption
    | with_reducible refine keep_frameUnreadable hP _ _ _ _ ?_
    | with_reducible refine keep_takeSources hP _ _ _ ?_
    | with_reducible refine Closed.foldl _ _ _ (fun _ _ _ => ?_) ?_
    | split

theorem keep_fetchFailed (hP : Closed bySettle P) (mtag : ℕ) (z : ℕ) (r : ℕ) (pos : ℕ) (b : ℕ) (n : ℕ) (s : State) (hs : P s) :
    P (fetchFailed mtag z r pos b n s) := by
  unfold fetchFailed
  repeat' first
    | with_reducible assumption
    | with_reducible refine keep_endOp hP _ _ ?_
    | with_reducible refine keep_gatherFailed hP _ _ _ _ _ ?_
    | with_reducible refine keep_shelfRecon hP _ _ _ _ _ _ _ ?_
    | with_reducible refine Closed.foldl _ _ _ (fun _ _ _ => ?_) ?_
    | split

theorem keep_shelfCommit (hP : Closed bySettle P) (z : ℕ) (a : ℕ) (a2 : State) (ha2 : P a2) :
    P (shelfCommit z a a2) := by
  induction a generalizing a2 with
  | zero =>
    unfold shelfCommit
    repeat' first
      | with_reducible assumption
      | with_reducible refine hP.set _ ACD_LAZY _ _ into_ACD_LAZY ?_
      | with_reducible refine keep_State_setZone hP _ _ _ ?_
      | with_reducible refine keep_dropLogs hP _ _ ?_
      | (extract_lets +onlyGivenNames t; refine (fun (_ : P t) => ?_) ?_; (on_goal 2 => (dsimp -zeta only [t]; clear t)); (on_goal 1 => (clear_value t; rename' t => w)))
      | (extract_lets +onlyGivenNames t; refine (fun (_ : P t.1) => ?_) ?_; (on_goal 2 => (dsimp -zeta only [t]; clear t)); (on_goal 1 => (clear_value t; rename' t => w)))
      | (extract_lets +onlyGivenNames t; clear_value t; rename' t => w)
      | with_reducible rfl
      | with_reducible exact List.prefix_rfl
      | with_reducible exact le_rfl
      | with_reducible exact fun h => h
      | exact fun h => Memory.wf_writeList _ _ h
      | exact Nat.le_add_right _ _
      | with_reducible exact List.prefix_append _ _
      | with_reducible refine Closed.foldl _ _ _ (fun _ _ _ => ?_) ?_
      | split
      | with_reducible refine hP.build _ ?_ ?_ ?_ ?_
  | succ k ih =>
    unfold shelfCommit
    repeat' first
      | with_reducible assumption
      | with_reducible refine ih _ ?_
      | with_reducible refine hP.set _ ACD_LAZY _ _ into_ACD_LAZY ?_
      | with_reducible refine keep_State_setZone hP _ _ _ ?_
      | with_reducible refine keep_dropLogs hP _ _ ?_
      | (extract_lets +onlyGivenNames t; refine (fun (_ : P t) => ?_) ?_; (on_goal 2 => (dsimp -zeta only [t]; clear t)); (on_goal 1 => (clear_value t; rename' t => w)))
      | (extract_lets +onlyGivenNames t; refine (fun (_ : P t.1) => ?_) ?_; (on_goal 2 => (dsimp -zeta only [t]; clear t)); (on_goal 1 => (clear_value t; rename' t => w)))
      | (extract_lets +onlyGivenNames t; clear_value t; rename' t => w)
      | with_reducible rfl
      | with_reducible exact List.prefix_rfl
      | with_reducible exact le_rfl
      | with_reducible exact fun h => h
      | exact fun h => Memory.wf_writeList _ _ h
      | exact Nat.le_add_right _ _
      | with_reducible exact List.prefix_append _ _
      | with_reducible refine Closed.foldl _ _ _ (fun _ _ _ => ?_) ?_
      | split
      | with_reducible refine hP.build _ ?_ ?_ ?_ ?_

theorem keep_unitDone (hP : Closed bySettle P) (z : ℕ) (r : ℕ) (pos : ℕ) (s : State) (hs : P s) :
    P (unitDone z r pos s) := by
  unfold unitDone
  repeat' first
    | with_reducible assumption
    | with_reducible refine keep_shelfCommit hP _ _ _ ?_
    | with_reducible rfl
    | with_reducible exact List.prefix_rfl
    | with_reducible exact le_rfl
    | with_reducible exact fun h => h
    | exact fun h => Memory.wf_writeList _ _ h
    | exact Nat.le_add_right _ _
    | with_reducible exact List.prefix_append _ _
    | with_reducible refine Closed.foldl _ _ _ (fun _ _ _ => ?_) ?_
    | split
    | with_reducible refine hP.build _ ?_ ?_ ?_ ?_

theorem keep_bufFence (hP : Closed bySettle P) (s : State) (hs : P s) :
    P (bufFence s) := by
  unfold bufFence
  repeat' first
    | with_reducible assumption
    | with_reducible refine keep_barrier hP _ ?_
    | with_reducible refine Closed.foldl _ _ _ (fun _ _ _ => ?_) ?_
    | split

theorem keep_drydownOrder (hP : Closed bySettle P) (s : State) (hs : P s) :
    P (drydownOrder s) := by
  have hR := hP.ofSettle
  unfold drydownOrder
  repeat' first
    | with_reducible assumption
    | with_reducible refine hP.bump _ MGR_ORD_LOST _ into_MGR_ORD_LOST ?_
    | with_reducible refine keep_placeFrontiers hP _ ?_
    | with_reducible refine keep_spnDrydown hR _ ?_
    | with_reducible refine Closed.foldl _ _ _ (fun _ _ _ => ?_) ?_
    | split

theorem keep_stopOrder (hP : Closed bySettle P) (s : State) (hs : P s) :
    P (stopOrder s) := by
  have hR := hP.ofSettle
  unfold stopOrder
  repeat' first
    | with_reducible assumption
    | with_reducible refine hP.bump _ MGR_ORD_LOST _ into_MGR_ORD_LOST ?_
    | with_reducible refine keep_placeFrontiers hP _ ?_
    | with_reducible refine keep_spnStop hR _ ?_
    | with_reducible refine Closed.foldl _ _ _ (fun _ _ _ => ?_) ?_
    | split

theorem keep_onMedia (hP : Closed bySettle P) (blk : ℕ) (f : State → State) (s : State) (hf : ∀ y0, P y0 → P (f y0)) (hs : P s) :
    P (onMedia blk f s) := by
  unfold onMedia
  repeat' first
    | with_reducible assumption
    | refine hf _ ?_
    | with_reducible refine keep_settle hP _ _ ?_
    | with_reducible refine Closed.foldl _ _ _ (fun _ _ _ => ?_) ?_
    | split

theorem keep_checkpointTimer (hP : Closed bySettle P) (s : State) (hs : P s) :
    P (checkpointTimer s) := by
  unfold checkpointTimer
  repeat' first
    | with_reducible assumption
    | with_reducible refine keep_startCheckpoint hP _ ?_
    | with_reducible refine Closed.foldl _ _ _ (fun _ _ _ => ?_) ?_
    | split

theorem keep_shelfCovered (hP : Closed bySettle P) (seq : ℕ) (s : State) (hs : P s) :
    P (shelfCovered seq s) := by
  unfold shelfCovered
  repeat' first
    | with_reducible assumption
    | with_reducible refine hP.set _ MGR_JRNLWP _ _ into_MGR_JRNLWP ?_
    | with_reducible refine Closed.forBelow _ _ _ (fun _ _ _ => ?_) ?_
    | with_reducible refine keep_reservedSend hP _ _ _ _ _ _ ?_
    | with_reducible refine Closed.foldl _ _ _ (fun _ _ _ => ?_) ?_
    | split

theorem keep_checkpointWritten (hP : Closed bySettle P) (failed : Bool) (s : State) (hs : P s) :
    P (checkpointWritten failed s) := by
  have hR := hP.ofSettle
  unfold checkpointWritten
  repeat' first
    | with_reducible assumption
    | with_reducible refine hP.set _ ACD_KBUSY _ _ into_ACD_KBUSY ?_
    | with_reducible refine keep_dueCheckpoint hP _ ?_
    | with_reducible refine keep_pulse hR _ _ _ ?_
    | with_reducible refine keep_shelfCovered hP _ _ ?_
    | (extract_lets +onlyGivenNames t; refine (fun (_ : P t) => ?_) ?_; (on_goal 2 => (dsimp -zeta only [t]; clear t)); (on_goal 1 => (clear_value t; rename' t => w)))
    | (extract_lets +onlyGivenNames t; refine (fun (_ : P t.1) => ?_) ?_; (on_goal 2 => (dsimp -zeta only [t]; clear t)); (on_goal 1 => (clear_value t; rename' t => w)))
    | (extract_lets +onlyGivenNames t; clear_value t; rename' t => w)
    | with_reducible rfl
    | with_reducible exact List.prefix_rfl
    | with_reducible exact le_rfl
    | with_reducible exact fun h => h
    | exact fun h => Memory.wf_writeList _ _ h
    | exact Nat.le_add_right _ _
    | with_reducible exact List.prefix_append _ _
    | with_reducible refine Closed.foldl _ _ _ (fun _ _ _ => ?_) ?_
    | split
    | with_reducible refine hP.build _ ?_ ?_ ?_ ?_

theorem keep_ckminExpiry (hP : Closed bySettle P) (s : State) (hs : P s) :
    P (ckminExpiry s) := by
  unfold ckminExpiry
  repeat' first
    | with_reducible assumption
    | with_reducible refine hP.set _ ACD_KMIN _ _ into_ACD_KMIN ?_
    | with_reducible refine keep_dueCheckpoint hP _ ?_
    | with_reducible refine Closed.foldl _ _ _ (fun _ _ _ => ?_) ?_
    | split

theorem keep_closeSpan (hP : Closed bySettle P) (l : ℕ) (ta : Bool) (s : State) (hs : P s) :
    P (closeSpan l ta s) := by
  unfold closeSpan
  repeat' first
    | with_reducible assumption
    | with_reducible refine keep_State_setLane hP _ _ _ ?_
    | with_reducible rfl
    | with_reducible exact List.prefix_rfl
    | with_reducible exact le_rfl
    | with_reducible exact fun h => h
    | exact fun h => Memory.wf_writeList _ _ h
    | exact Nat.le_add_right _ _
    | with_reducible exact List.prefix_append _ _
    | with_reducible refine Closed.foldl _ _ _ (fun _ _ _ => ?_) ?_
    | split
    | with_reducible refine hP.build _ ?_ ?_ ?_ ?_

theorem keep_ladderNext (hP : Closed bySettle P) (j : FrameJob) (s : State) (hs : P s) :
    P (ladderNext j s) := by
  unfold ladderNext
  repeat' first
    | with_reducible assumption
    | with_reducible refine keep_ladderFrom hP _ _ _ _ ?_
    | with_reducible refine keep_swapJob hP _ _ _ ?_
    | with_reducible rfl
    | with_reducible exact List.prefix_rfl
    | with_reducible exact le_rfl
    | with_reducible exact fun h => h
    | exact fun h => Memory.wf_writeList _ _ h
    | exact Nat.le_add_right _ _
    | with_reducible exact List.prefix_append _ _
    | with_reducible refine Closed.foldl _ _ _ (fun _ _ _ => ?_) ?_
    | split
    | with_reducible refine hP.build _ ?_ ?_ ?_ ?_

theorem keep_codewordFailed (hP : Closed bySettle P) (j : FrameJob) (code : ℕ) (s : State) (hs : P s) :
    P (codewordFailed j code s) := by
  unfold codewordFailed
  repeat' first
    | with_reducible assumption
    | with_reducible refine keep_ladderNext hP _ _ ?_
    | with_reducible refine keep_queueRecovery hP _ _ _ _ _ ?_
    | with_reducible refine keep_reportLost hP _ _ ?_
    | with_reducible refine keep_swapJob hP _ _ _ ?_
    | (extract_lets +onlyGivenNames t; refine (fun (_ : P t) => ?_) ?_; (on_goal 2 => (dsimp -zeta only [t]; clear t)); (on_goal 1 => (clear_value t; rename' t => w)))
    | (extract_lets +onlyGivenNames t; refine (fun (_ : P t.1) => ?_) ?_; (on_goal 2 => (dsimp -zeta only [t]; clear t)); (on_goal 1 => (clear_value t; rename' t => w)))
    | (extract_lets +onlyGivenNames t; clear_value t; rename' t => w)
    | with_reducible rfl
    | with_reducible exact List.prefix_rfl
    | with_reducible exact le_rfl
    | with_reducible exact fun h => h
    | exact fun h => Memory.wf_writeList _ _ h
    | exact Nat.le_add_right _ _
    | with_reducible exact List.prefix_append _ _
    | with_reducible refine Closed.foldl _ _ _ (fun _ _ _ => ?_) ?_
    | split
    | with_reducible refine hP.build _ ?_ ?_ ?_ ?_

theorem keep_leavePower (hP : Closed bySettle P) (s : State) (hs : P s) :
    P (leavePower s) := by
  unfold leavePower
  repeat' first
    | with_reducible assumption
    | with_reducible refine hP.set _ NVQ_LEAVING _ _ into_NVQ_LEAVING ?_
    | with_reducible refine keep_setPower hP _ _ ?_
    | with_reducible refine Closed.foldl _ _ _ (fun _ _ _ => ?_) ?_
    | split

theorem keep_dropTag (hP : Closed bySettle P) (t : ℕ) (s : State) (hs : P s) :
    P (dropTag t s) := by
  unfold dropTag
  repeat' first
    | with_reducible assumption
    | with_reducible refine keep_showTags hP _ ?_
    | with_reducible rfl
    | with_reducible exact List.prefix_rfl
    | with_reducible exact le_rfl
    | with_reducible exact fun h => h
    | exact fun h => Memory.wf_writeList _ _ h
    | exact Nat.le_add_right _ _
    | with_reducible exact List.prefix_append _ _
    | with_reducible refine Closed.foldl _ _ _ (fun _ _ _ => ?_) ?_
    | split
    | with_reducible refine hP.build _ ?_ ?_ ?_ ?_

theorem keep_controllerReady (hP : Closed bySettle P) (s : State) (hs : P s) :
    P (controllerReady s) := by
  unfold controllerReady
  repeat' first
    | with_reducible assumption
    | with_reducible refine hP.set _ NVQ_STS_RDY _ _ into_NVQ_STS_RDY ?_
    | with_reducible refine Closed.foldl _ _ _ (fun _ _ _ => ?_) ?_
    | split

theorem keep_createCq (hP : Closed bySettle P) (qid : ℕ) (size : ℕ) (iv : ℕ) (ien : Bool) (c : NvCmd) (s : State) (hs : P s) :
    P (createCq qid size iv ien c s) := by
  unfold createCq
  repeat' first
    | with_reducible assumption
    | with_reducible refine keep_finish hP _ _ _ ?_
    | with_reducible rfl
    | with_reducible exact List.prefix_rfl
    | with_reducible exact le_rfl
    | with_reducible exact fun h => h
    | exact fun h => Memory.wf_writeList _ _ h
    | exact Nat.le_add_right _ _
    | with_reducible exact List.prefix_append _ _
    | with_reducible refine Closed.foldl _ _ _ (fun _ _ _ => ?_) ?_
    | split
    | with_reducible refine hP.build _ ?_ ?_ ?_ ?_

theorem keep_showQueue (hP : Closed bySettle P) (q : ℕ) (on : Bool) (s : State) (hs : P s) :
    P (showQueue q on s) := by
  unfold showQueue
  repeat' first
    | with_reducible assumption
    | with_reducible refine hP.setBit _ NVQ_SQEN _ _ _ into_NVQ_SQEN ?_
    | with_reducible refine Closed.foldl _ _ _ (fun _ _ _ => ?_) ?_
    | split

theorem keep_createSq (hP : Closed bySettle P) (qid : ℕ) (size : ℕ) (cqid : ℕ) (c : NvCmd) (s : State) (hs : P s) :
    P (createSq qid size cqid c s) := by
  unfold createSq
  repeat' first
    | with_reducible assumption
    | with_reducible refine keep_finish hP _ _ _ ?_
    | with_reducible refine keep_showQueue hP _ _ _ ?_
    | with_reducible rfl
    | with_reducible exact List.prefix_rfl
    | with_reducible exact le_rfl
    | with_reducible exact fun h => h
    | exact fun h => Memory.wf_writeList _ _ h
    | exact Nat.le_add_right _ _
    | with_reducible exact List.prefix_append _ _
    | with_reducible refine Closed.foldl _ _ _ (fun _ _ _ => ?_) ?_
    | split
    | with_reducible refine hP.build _ ?_ ?_ ?_ ?_

theorem keep_cursorUpdate (hP : Closed bySettle P) (s : State) (hs : P s) :
    P (cursorUpdate s) := by
  have hR := hP.ofSettle
  unfold cursorUpdate
  repeat' first
    | with_reducible assumption
    | with_reducible refine hP.bump _ ACD_CURN _ into_ACD_CURN ?_
    | with_reducible refine hP.set _ ACD_JREQ _ _ into_ACD_JREQ ?_
    | with_reducible refine hP.set _ ACD_VISIT _ _ into_ACD_VISIT ?_
    | with_reducible refine keep_recordCursor hP _ _ ?_
    | with_reducible refine keep_showPass hR _ ?_
    | with_reducible refine Closed.foldl _ _ _ (fun _ _ _ => ?_) ?_
    | split

theorem keep_writePayload (hP : Closed bySettle P) (fr : FrameRec) (cw : ℕ) (o : DecodeOut) (s : State) (hs : P s) :
    P (writePayload fr cw o s) := by
  unfold writePayload
  repeat' first
    | with_reducible assumption
    | with_reducible refine keep_cleanRange hP _ _ _ ?_
    | (extract_lets +onlyGivenNames t; refine (fun (_ : P t) => ?_) ?_; (on_goal 2 => (dsimp -zeta only [t]; clear t)); (on_goal 1 => (clear_value t; rename' t => w)))
    | (extract_lets +onlyGivenNames t; refine (fun (_ : P t.1) => ?_) ?_; (on_goal 2 => (dsimp -zeta only [t]; clear t)); (on_goal 1 => (clear_value t; rename' t => w)))
    | (extract_lets +onlyGivenNames t; clear_value t; rename' t => w)
    | with_reducible rfl
    | with_reducible exact List.prefix_rfl
    | with_reducible exact le_rfl
    | with_reducible exact fun h => h
    | exact fun h => Memory.wf_writeList _ _ h
    | exact Nat.le_add_right _ _
    | with_reducible exact List.prefix_append _ _
    | with_reducible refine Closed.foldl _ _ _ (fun _ _ _ => ?_) ?_
    | split
    | with_reducible refine hP.build _ ?_ ?_ ?_ ?_

theorem keep_writeRecovery (hP : Closed bySettle P) (fr : FrameRec) (w : Waiting) (off : ℤ) (s : State) (hs : P s) :
    P (writeRecovery fr w off s) := by
  unfold writeRecovery
  repeat' first
    | with_reducible assumption
    | with_reducible refine keep_cleanRange hP _ _ _ ?_
    | (extract_lets +onlyGivenNames t; refine (fun (_ : P t) => ?_) ?_; (on_goal 2 => (dsimp -zeta only [t]; clear t)); (on_goal 1 => (clear_value t; rename' t => w)))
    | (extract_lets +onlyGivenNames t; refine (fun (_ : P t.1) => ?_) ?_; (on_goal 2 => (dsimp -zeta only [t]; clear t)); (on_goal 1 => (clear_value t; rename' t => w)))
    | (extract_lets +onlyGivenNames t; clear_value t; rename' t => w)
    | with_reducible rfl
    | with_reducible exact List.prefix_rfl
    | with_reducible exact le_rfl
    | with_reducible exact fun h => h
    | exact fun h => Memory.wf_writeList _ _ h
    | exact Nat.le_add_right _ _
    | with_reducible exact List.prefix_append _ _
    | with_reducible refine Closed.foldl _ _ _ (fun _ _ _ => ?_) ?_
    | split
    | with_reducible refine hP.build _ ?_ ?_ ?_ ?_

theorem keep_deleteCq (hP : Closed bySettle P) (qid : ℕ) (c : NvCmd) (s : State) (hs : P s) :
    P (deleteCq qid c s) := by
  unfold deleteCq
  repeat' first
    | with_reducible assumption
    | with_reducible refine keep_finish hP _ _ _ ?_
    | with_reducible rfl
    | with_reducible exact List.prefix_rfl
    | with_reducible exact le_rfl
    | with_reducible exact fun h => h
    | exact fun h => Memory.wf_writeList _ _ h
    | exact Nat.le_add_right _ _
    | with_reducible exact List.prefix_append _ _
    | with_reducible refine Closed.foldl _ _ _ (fun _ _ _ => ?_) ?_
    | split
    | with_reducible refine hP.build _ ?_ ?_ ?_ ?_

theorem keep_dropFrame (hP : Closed bySettle P) (l : ℕ) (op : FrameOp) (s : State) (hs : P s) :
    P (dropFrame l op s) := by
  unfold dropFrame
  repeat' first
    | with_reducible assumption
    | with_reducible refine keep_State_setLane hP _ _ _ ?_
    | with_reducible rfl
    | with_reducible exact List.prefix_rfl
    | with_reducible exact le_rfl
    | with_reducible exact fun h => h
    | exact fun h => Memory.wf_writeList _ _ h
    | exact Nat.le_add_right _ _
    | with_reducible exact List.prefix_append _ _
    | with_reducible refine Closed.foldl _ _ _ (fun _ _ _ => ?_) ?_
    | split
    | with_reducible refine hP.build _ ?_ ?_ ?_ ?_

theorem keep_endWrites (hP : Closed bySettle P) (h_0 : ℕ) (s : State) (hs : P s) :
    P (endWrites h_0 s) := by
  unfold endWrites
  repeat' first
    | with_reducible assumption
    | with_reducible refine keep_State_modOp hP _ _ _ ?_
    | with_reducible refine keep_endOp hP _ _ ?_
    | with_reducible refine Closed.forAll _ _ _ (fun _ _ _ => ?_) ?_
    | with_reducible refine keep_swapJob hP _ _ _ ?_
    | with_reducible rfl
    | with_reducible exact List.prefix_rfl
    | with_reducible exact le_rfl
    | with_reducible exact fun h => h
    | exact fun h => Memory.wf_writeList _ _ h
    | exact Nat.le_add_right _ _
    | with_reducible exact List.prefix_append _ _
    | with_reducible refine Closed.foldl _ _ _ (fun _ _ _ => ?_) ?_
    | split
    | with_reducible refine hP.build _ ?_ ?_ ?_ ?_

theorem keep_failOwner (hP : Closed bySettle P) (who : BufMaster) (s : State) (t : State) (hs : P s) (ht : P t) :
    P (failOwner who s t) := by
  unfold failOwner
  repeat' first
    | with_reducible assumption
    | with_reducible refine keep_failCmd hP _ _ _ ?_
    | with_reducible refine Closed.foldl _ _ _ (fun _ _ _ => ?_) ?_
    | split

theorem keep_fileRebuilt (hP : Closed bySettle P) (q : ℕ × ℕ × ℕ × ℕ × ℕ) (s : State) (hs : P s) :
    P (fileRebuilt q s) := by
  unfold fileRebuilt
  repeat' first
    | with_reducible assumption
    | with_reducible refine hP.bump _ ACD_RBLD_SKIP _ into_ACD_RBLD_SKIP ?_
    | with_reducible refine keep_addToSeg hP _ _ _ _ _ _ _ _ ?_
    | (extract_lets +onlyGivenNames t; refine (fun (_ : P t) => ?_) ?_; (on_goal 2 => (dsimp -zeta only [t]; clear t)); (on_goal 1 => (clear_value t; rename' t => w)))
    | (extract_lets +onlyGivenNames t; refine (fun (_ : P t.1) => ?_) ?_; (on_goal 2 => (dsimp -zeta only [t]; clear t)); (on_goal 1 => (clear_value t; rename' t => w)))
    | (extract_lets +onlyGivenNames t; clear_value t; rename' t => w)
    | with_reducible refine Closed.foldl _ _ _ (fun _ _ _ => ?_) ?_
    | split

theorem keep_yieldRa (hP : Closed bySettle P) (j : FrameJob) (s : State) (hs : P s) :
    P (yieldRa j s) := by
  unfold yieldRa
  repeat' first
    | with_reducible assumption
    | with_reducible refine keep_dropOne hP _ _ ?_
    | with_reducible refine Closed.forAll _ _ _ (fun _ _ _ => ?_) ?_
    | (extract_lets +onlyGivenNames t; refine (fun (_ : P t) => ?_) ?_; (on_goal 2 => (dsimp -zeta only [t]; clear t)); (on_goal 1 => (clear_value t; rename' t => w)))
    | (extract_lets +onlyGivenNames t; refine (fun (_ : P t.1) => ?_) ?_; (on_goal 2 => (dsimp -zeta only [t]; clear t)); (on_goal 1 => (clear_value t; rename' t => w)))
    | (extract_lets +onlyGivenNames t; clear_value t; rename' t => w)
    | with_reducible refine Closed.foldl _ _ _ (fun _ _ _ => ?_) ?_
    | split

theorem keep_putFrame (hP : Closed bySettle P) (l : ℕ) (op : FrameOp) (b : List Bool) (s : State) (hs : P s) :
    P (putFrame l op b s) := by
  unfold putFrame
  repeat' first
    | with_reducible assumption
    | with_reducible refine keep_State_setLane hP _ _ _ ?_
    | with_reducible rfl
    | with_reducible exact List.prefix_rfl
    | with_reducible exact le_rfl
    | with_reducible exact fun h => h
    | exact fun h => Memory.wf_writeList _ _ h
    | exact Nat.le_add_right _ _
    | with_reducible exact List.prefix_append _ _
    | with_reducible refine Closed.foldl _ _ _ (fun _ _ _ => ?_) ?_
    | split
    | with_reducible refine hP.build _ ?_ ?_ ?_ ?_

theorem keep_refuseLoad (hP : Closed bySettle P) (l : ℕ) (op : FrameOp) (s : State) (hs : P s) :
    P (refuseLoad l op s) := by
  have hR := hP.ofSettle
  unfold refuseLoad
  repeat' first
    | with_reducible assumption
    | with_reducible refine keep_postAll hP _ _ _ _ ?_
    | with_reducible refine keep_pulse hR _ _ _ ?_
    | with_reducible refine Closed.foldl _ _ _ (fun _ _ _ => ?_) ?_
    | split

theorem keep_freeTags (hP : Closed bySettle P) (s : State) (hs : P s) :
    P (freeTags s) := by
  unfold freeTags
  repeat' first
    | with_reducible assumption
    | with_reducible refine keep_showTags hP _ ?_
    | with_reducible rfl
    | with_reducible exact List.prefix_rfl
    | with_reducible exact le_rfl
    | with_reducible exact fun h => h
    | exact fun h => Memory.wf_writeList _ _ h
    | exact Nat.le_add_right _ _
    | with_reducible exact List.prefix_append _ _
    | with_reducible refine Closed.foldl _ _ _ (fun _ _ _ => ?_) ?_
    | split
    | with_reducible refine hP.build _ ?_ ?_ ?_ ?_

theorem keep_getFeature (hP : Closed bySettle P) (fid : ℕ) (sel : ℕ) (dw11 : ℕ) (c : NvCmd) (s : State) (hs : P s) :
    P (getFeature fid sel dw11 c s) := by
  have hR := hP.ofSettle
  unfold getFeature
  repeat' first
    | with_reducible assumption
    | with_reducible refine keep_complete hR _ _ _ _ _ ?_
    | with_reducible refine keep_finish hP _ _ _ ?_
    | with_reducible refine Closed.foldl _ _ _ (fun _ _ _ => ?_) ?_
    | split

theorem keep_getLog (hP : Closed bySettle P) (lid : ℕ) (rae : Bool) (off : ℕ) (len : ℕ) (c : NvCmd) (s : State) (hs : P s) :
    P (getLog lid rae off len c s) := by
  have hR := hP.ofSettle
  unfold getLog
  repeat' first
    | with_reducible assumption
    | with_reducible refine keep_clearEvent hR _ _ ?_
    | with_reducible refine keep_completeWith hR _ _ _ _ _ _ ?_
    | with_reducible refine keep_finish hP _ _ _ ?_
    | (extract_lets +onlyGivenNames t; refine (fun (_ : P t) => ?_) ?_; (on_goal 2 => (dsimp -zeta only [t]; clear t)); (on_goal 1 => (clear_value t; rename' t => w)))
    | (extract_lets +onlyGivenNames t; refine (fun (_ : P t.1) => ?_) ?_; (on_goal 2 => (dsimp -zeta only [t]; clear t)); (on_goal 1 => (clear_value t; rename' t => w)))
    | (extract_lets +onlyGivenNames t; clear_value t; rename' t => w)
    | with_reducible rfl
    | with_reducible exact List.prefix_rfl
    | with_reducible exact le_rfl
    | with_reducible exact fun h => h
    | exact fun h => Memory.wf_writeList _ _ h
    | exact Nat.le_add_right _ _
    | with_reducible exact List.prefix_append _ _
    | with_reducible refine Closed.foldl _ _ _ (fun _ _ _ => ?_) ?_
    | split
    | with_reducible refine hP.build _ ?_ ?_ ?_ ?_

theorem keep_identifyCmd (hP : Closed bySettle P) (cns : ℕ) (csi : ℕ) (nsid : ℕ) (c : NvCmd) (s : State) (hs : P s) :
    P (identifyCmd cns csi nsid c s) := by
  have hR := hP.ofSettle
  unfold identifyCmd
  repeat' first
    | with_reducible assumption
    | with_reducible refine keep_completeWith hR _ _ _ _ _ _ ?_
    | with_reducible refine keep_finish hP _ _ _ ?_
    | with_reducible refine Closed.foldl _ _ _ (fun _ _ _ => ?_) ?_
    | split

theorem keep_jobTimeout (hP : Closed bySettle P) (j : FrameJob) (s : State) (hs : P s) :
    P (jobTimeout j s) := by
  unfold jobTimeout
  repeat' first
    | with_reducible assumption
    | with_reducible refine keep_ladderEnd hP _ _ ?_
    | with_reducible refine keep_ladderFrom hP _ _ _ _ ?_
    | with_reducible refine keep_reportLost hP _ _ ?_
    | with_reducible refine keep_swapJob hP _ _ _ ?_
    | (extract_lets +onlyGivenNames t; refine (fun (_ : P t) => ?_) ?_; (on_goal 2 => (dsimp -zeta only [t]; clear t)); (on_goal 1 => (clear_value t; rename' t => w)))
    | (extract_lets +onlyGivenNames t; refine (fun (_ : P t.1) => ?_) ?_; (on_goal 2 => (dsimp -zeta only [t]; clear t)); (on_goal 1 => (clear_value t; rename' t => w)))
    | (extract_lets +onlyGivenNames t; clear_value t; rename' t => w)
    | with_reducible rfl
    | with_reducible exact List.prefix_rfl
    | with_reducible exact le_rfl
    | with_reducible exact fun h => h
    | exact fun h => Memory.wf_writeList _ _ h
    | exact Nat.le_add_right _ _
    | with_reducible exact List.prefix_append _ _
    | with_reducible refine Closed.foldl _ _ _ (fun _ _ _ => ?_) ?_
    | split
    | with_reducible refine hP.build _ ?_ ?_ ?_ ?_

theorem keep_journalInterval (hP : Closed bySettle P) (s : State) (hs : P s) :
    P (journalInterval s) := by
  unfold journalInterval
  repeat' first
    | with_reducible assumption
    | with_reducible refine keep_startRecord hP _ ?_
    | with_reducible refine Closed.foldl _ _ _ (fun _ _ _ => ?_) ?_
    | split

theorem keep_journalLazy (hP : Closed bySettle P) (s : State) (hs : P s) :
    P (journalLazy s) := by
  unfold journalLazy
  repeat' first
    | with_reducible assumption
    | with_reducible refine keep_startRecord hP _ ?_
    | with_reducible refine Closed.foldl _ _ _ (fun _ _ _ => ?_) ?_
    | split

theorem keep_l1Entry (hP : Closed bySettle P) (s : State) (hs : P s) :
    P (l1Entry s) := by
  unfold l1Entry
  repeat' first
    | with_reducible assumption
    | with_reducible refine hP.setMany _ _ _ (by simp only [List.all_cons, List.all_nil, Bool.and_true, Bool.and_self, into_PAD_CLKREQ, into_PCI_STS_LSTATE]) ?_
    | (extract_lets +onlyGivenNames t; refine (fun (_ : P t) => ?_) ?_; (on_goal 2 => (dsimp -zeta only [t]; clear t)); (on_goal 1 => (clear_value t; rename' t => w)))
    | (extract_lets +onlyGivenNames t; refine (fun (_ : P t.1) => ?_) ?_; (on_goal 2 => (dsimp -zeta only [t]; clear t)); (on_goal 1 => (clear_value t; rename' t => w)))
    | (extract_lets +onlyGivenNames t; clear_value t; rename' t => w)
    | with_reducible refine Closed.foldl _ _ _ (fun _ _ _ => ?_) ?_
    | split

theorem keep_ladderTimeout (hP : Closed bySettle P) (mtag : ℕ) (s : State) (hs : P s) :
    P (ladderTimeout mtag s) := by
  unfold ladderTimeout
  repeat' first
    | with_reducible assumption
    | with_reducible refine Closed.forAll _ _ _ (fun _ _ _ => ?_) ?_
    | with_reducible refine keep_jobTimeout hP _ _ ?_
    | with_reducible refine Closed.foldl _ _ _ (fun _ _ _ => ?_) ?_
    | split

theorem keep_poisonRange (hP : Closed bySettle P) (a : ℕ) (n : ℕ) (s : State) (hs : P s) :
    P (poisonRange a n s) := by
  unfold poisonRange
  repeat' first
    | with_reducible assumption
    | with_reducible refine keep_barrier hP _ ?_
    | with_reducible refine Closed.forBelow _ _ _ (fun _ _ _ => ?_) ?_
    | with_reducible refine keep_poisonLine hP _ _ ?_
    | (extract_lets +onlyGivenNames t; refine (fun (_ : P t) => ?_) ?_; (on_goal 2 => (dsimp -zeta only [t]; clear t)); (on_goal 1 => (clear_value t; rename' t => w)))
    | (extract_lets +onlyGivenNames t; refine (fun (_ : P t.1) => ?_) ?_; (on_goal 2 => (dsimp -zeta only [t]; clear t)); (on_goal 1 => (clear_value t; rename' t => w)))
    | (extract_lets +onlyGivenNames t; clear_value t; rename' t => w)
    | with_reducible refine Closed.foldl _ _ _ (fun _ _ _ => ?_) ?_
    | split

theorem keep_mergeTimeout (hP : Closed bySettle P) (errs : List ByteErr) (s : State) (hs : P s) :
    P (mergeTimeout errs s) := by
  unfold mergeTimeout
  repeat' first
    | with_reducible assumption
    | with_reducible refine keep_flushEntry hP _ _ _ ?_
    | with_reducible refine Closed.foldl _ _ _ (fun _ _ _ => ?_) ?_
    | split

theorem keep_onClaik (hP : Closed bySettle P) (f : State → State) (s : State) (hf : ∀ y0, P y0 → P (f y0)) (hs : P s) :
    P (onClaik f s) := by
  unfold onClaik
  repeat' first
    | with_reducible assumption
    | refine hf _ ?_
    | with_reducible refine keep_onMedia hP _ _ _ (fun _ _ => ?_) ?_
    | with_reducible refine Closed.foldl _ _ _ (fun _ _ _ => ?_) ?_
    | split

theorem keep_onCollector (hP : Closed bySettle P) (f : State → State) (s : State) (hf : ∀ y0, P y0 → P (f y0)) (hs : P s) :
    P (onCollector f s) := by
  unfold onCollector
  repeat' first
    | with_reducible assumption
    | refine hf _ ?_
    | with_reducible refine keep_settle hP _ _ ?_
    | with_reducible refine keep_settleAngle hP _ ?_
    | with_reducible refine Closed.foldl _ _ _ (fun _ _ _ => ?_) ?_
    | split

theorem keep_onHost (hP : Closed bySettle P) (f : State → State) (s : State) (hf : ∀ y0, P y0 → P (f y0)) (hs : P s) :
    P (onHost f s) := by
  unfold onHost
  repeat' first
    | with_reducible assumption
    | refine hf _ ?_
    | with_reducible refine keep_onMedia hP _ _ _ (fun _ _ => ?_) ?_
    | with_reducible refine Closed.foldl _ _ _ (fun _ _ _ => ?_) ?_
    | split

theorem keep_onOrder (hP : Closed bySettle P) (f : State → State) (s : State) (hf : ∀ y0, P y0 → P (f y0)) (hs : P s) :
    P (onOrder f s) := by
  unfold onOrder
  repeat' first
    | with_reducible assumption
    | refine hf _ ?_
    | with_reducible refine keep_onMedia hP _ _ _ (fun _ _ => ?_) ?_
    | with_reducible refine keep_settleAngle hP _ ?_
    | with_reducible refine Closed.foldl _ _ _ (fun _ _ _ => ?_) ?_
    | split

theorem keep_onPcie (hP : Closed bySettle P) (f : State → State) (s : State) (hf : ∀ y0, P y0 → P (f y0)) (hs : P s) :
    P (onPcie f s) := by
  unfold onPcie
  repeat' first
    | with_reducible assumption
    | refine hf _ ?_
    | with_reducible refine keep_onMedia hP _ _ _ (fun _ _ => ?_) ?_
    | with_reducible refine Closed.foldl _ _ _ (fun _ _ _ => ?_) ?_
    | split

theorem keep_onRetract (hP : Closed bySettle P) (f : State → State) (s : State) (hf : ∀ y0, P y0 → P (f y0)) (hs : P s) :
    P (onRetract f s) := by
  unfold onRetract
  repeat' first
    | with_reducible assumption
    | refine hf _ ?_
    | with_reducible refine keep_settle hP _ _ ?_
    | with_reducible refine Closed.foldl _ _ _ (fun _ _ _ => ?_) ?_
    | split

theorem keep_onSpinTick (hP : Closed bySettle P) (f : State → State) (s : State) (hf : ∀ y0, P y0 → P (f y0)) (hs : P s) :
    P (onSpinTick f s) := by
  have hR := hP.ofSettle
  unfold onSpinTick
  repeat' first
    | with_reducible assumption
    | refine hf _ ?_
    | with_reducible refine keep_onBlock hR _ _ _ (fun _ _ => ?_) ?_
    | with_reducible refine keep_settleAngle hP _ ?_
    | with_reducible refine Closed.foldl _ _ _ (fun _ _ _ => ?_) ?_
    | split

theorem keep_onSpindle (hP : Closed bySettle P) (f : State → State) (s : State) (hf : ∀ y0, P y0 → P (f y0)) (hs : P s) :
    P (onSpindle f s) := by
  unfold onSpindle
  repeat' first
    | with_reducible assumption
    | refine hf _ ?_
    | with_reducible refine keep_onMedia hP _ _ _ (fun _ _ => ?_) ?_
    | with_reducible refine keep_settleAngle hP _ ?_
    | with_reducible refine Closed.foldl _ _ _ (fun _ _ _ => ?_) ?_
    | split

theorem keep_patrolRead (hP : Closed bySettle P) (z : ℕ) (r : ℕ) (pos : ℕ) (mtag : ℕ) (s : State) (hs : P s) :
    P (patrolRead z r pos mtag s) := by
  unfold patrolRead
  repeat' first
    | with_reducible assumption
    | with_reducible refine keep_addOp hP _ _ ?_
    | with_reducible refine keep_addRead hP _ _ _ _ _ _ _ _ _ ?_
    | with_reducible refine keep_endOp hP _ _ ?_
    | (extract_lets +onlyGivenNames t; refine (fun (_ : P t) => ?_) ?_; (on_goal 2 => (dsimp -zeta only [t]; clear t)); (on_goal 1 => (clear_value t; rename' t => w)))
    | (extract_lets +onlyGivenNames t; refine (fun (_ : P t.1) => ?_) ?_; (on_goal 2 => (dsimp -zeta only [t]; clear t)); (on_goal 1 => (clear_value t; rename' t => w)))
    | (extract_lets +onlyGivenNames t; clear_value t; rename' t => w)
    | with_reducible refine Closed.foldl _ _ _ (fun _ _ _ => ?_) ?_
    | split

theorem keep_quarantineEnd (hP : Closed bySettle P) (tag : ℕ) (s : State) (hs : P s) :
    P (quarantineEnd tag s) := by
  unfold quarantineEnd
  repeat' first
    | with_reducible assumption
    | with_reducible refine keep_showTags hP _ ?_
    | with_reducible rfl
    | with_reducible exact List.prefix_rfl
    | with_reducible exact le_rfl
    | with_reducible exact fun h => h
    | exact fun h => Memory.wf_writeList _ _ h
    | exact Nat.le_add_right _ _
    | with_reducible exact List.prefix_append _ _
    | with_reducible refine Closed.foldl _ _ _ (fun _ _ _ => ?_) ?_
    | split
    | with_reducible refine hP.build _ ?_ ?_ ?_ ?_

theorem keep_raFrame (hP : Closed bySettle P) (mtag : ℕ) (z : ℕ) (f : ℕ) (s : State) (hs : P s) :
    P (raFrame mtag z f s) := by
  unfold raFrame
  repeat' first
    | with_reducible assumption
    | with_reducible refine keep_dropOne hP _ _ ?_
    | (extract_lets +onlyGivenNames t; refine (fun (_ : P t) => ?_) ?_; (on_goal 2 => (dsimp -zeta only [t]; clear t)); (on_goal 1 => (clear_value t; rename' t => w)))
    | (extract_lets +onlyGivenNames t; refine (fun (_ : P t.1) => ?_) ?_; (on_goal 2 => (dsimp -zeta only [t]; clear t)); (on_goal 1 => (clear_value t; rename' t => w)))
    | (extract_lets +onlyGivenNames t; clear_value t; rename' t => w)
    | with_reducible rfl
    | with_reducible exact List.prefix_rfl
    | with_reducible exact le_rfl
    | with_reducible exact fun h => h
    | exact fun h => Memory.wf_writeList _ _ h
    | exact Nat.le_add_right _ _
    | with_reducible exact List.prefix_append _ _
    | with_reducible refine Closed.foldl _ _ _ (fun _ _ _ => ?_) ?_
    | split
    | with_reducible refine hP.build _ ?_ ?_ ?_ ?_

theorem keep_raRead (hP : Closed bySettle P) (z : ℕ) (r : ℕ) (mtag : ℕ) (s : State) (hs : P s) :
    P (raRead z r mtag s) := by
  unfold raRead
  repeat' first
    | with_reducible assumption
    | with_reducible refine keep_addOp hP _ _ ?_
    | with_reducible refine keep_endOp hP _ _ ?_
    | with_reducible refine Closed.forAll _ _ _ (fun _ _ _ => ?_) ?_
    | with_reducible refine keep_raFrame hP _ _ _ _ ?_
    | (extract_lets +onlyGivenNames t; refine (fun (_ : P t) => ?_) ?_; (on_goal 2 => (dsimp -zeta only [t]; clear t)); (on_goal 1 => (clear_value t; rename' t => w)))
    | (extract_lets +onlyGivenNames t; refine (fun (_ : P t.1) => ?_) ?_; (on_goal 2 => (dsimp -zeta only [t]; clear t)); (on_goal 1 => (clear_value t; rename' t => w)))
    | (extract_lets +onlyGivenNames t; clear_value t; rename' t => w)
    | with_reducible refine Closed.foldl _ _ _ (fun _ _ _ => ?_) ?_
    | split

theorem keep_rebuildBatchWrite (hP : Closed bySettle P) (s : State) (hs : P s) :
    P (rebuildBatchWrite s) := by
  unfold rebuildBatchWrite
  repeat' first
    | with_reducible assumption
    | with_reducible refine hP.set _ ACD_ZDONE _ _ into_ACD_ZDONE ?_
    | with_reducible refine keep_fileRebuilt hP _ _ ?_
    | with_reducible refine Closed.forAll _ _ _ (fun _ _ _ => ?_) ?_
    | (extract_lets +onlyGivenNames t; refine (fun (_ : P t) => ?_) ?_; (on_goal 2 => (dsimp -zeta only [t]; clear t)); (on_goal 1 => (clear_value t; rename' t => w)))
    | (extract_lets +onlyGivenNames t; refine (fun (_ : P t.1) => ?_) ?_; (on_goal 2 => (dsimp -zeta only [t]; clear t)); (on_goal 1 => (clear_value t; rename' t => w)))
    | (extract_lets +onlyGivenNames t; clear_value t; rename' t => w)
    | with_reducible rfl
    | with_reducible exact List.prefix_rfl
    | with_reducible exact le_rfl
    | with_reducible exact fun h => h
    | exact fun h => Memory.wf_writeList _ _ h
    | exact Nat.le_add_right _ _
    | with_reducible exact List.prefix_append _ _
    | with_reducible refine Closed.foldl _ _ _ (fun _ _ _ => ?_) ?_
    | split
    | with_reducible refine hP.build _ ?_ ?_ ?_ ?_

theorem keep_rebuildRead (hP : Closed bySettle P) (z : ℕ) (r : ℕ) (pos : ℕ) (mtag : ℕ) (s : State) (hs : P s) :
    P (rebuildRead z r pos mtag s) := by
  unfold rebuildRead
  repeat' first
    | with_reducible assumption
    | with_reducible refine keep_addOp hP _ _ ?_
    | with_reducible refine keep_addRead hP _ _ _ _ _ _ _ _ _ ?_
    | with_reducible refine keep_endOp hP _ _ ?_
    | (extract_lets +onlyGivenNames t; refine (fun (_ : P t) => ?_) ?_; (on_goal 2 => (dsimp -zeta only [t]; clear t)); (on_goal 1 => (clear_value t; rename' t => w)))
    | (extract_lets +onlyGivenNames t; refine (fun (_ : P t.1) => ?_) ?_; (on_goal 2 => (dsimp -zeta only [t]; clear t)); (on_goal 1 => (clear_value t; rename' t => w)))
    | (extract_lets +onlyGivenNames t; clear_value t; rename' t => w)
    | with_reducible refine Closed.foldl _ _ _ (fun _ _ _ => ?_) ?_
    | split

theorem keep_seatPass (hP : Closed bySettle P) (p : ℕ) (s : State) (hs : P s) :
    P (seatPass p s) := by
  have hR := hP.ofSettle
  unfold seatPass
  repeat' first
    | with_reducible assumption
    | with_reducible refine keep_movePass hR _ _ _ ?_
    | with_reducible refine keep_showLeft hP _ ?_
    | with_reducible refine Closed.foldl _ _ _ (fun _ _ _ => ?_) ?_
    | split

theorem keep_startRow (hP : Closed bySettle P) (n : ℕ) (z : ℕ) (r : ℕ) (mtag : ℕ) (d : ℕ) (again : Bool) (s : State) (hs : P s) :
    P (startRow n z r mtag d again s) := by
  unfold startRow
  repeat' first
    | with_reducible assumption
    | with_reducible refine keep_deferRow hP _ _ _ _ _ _ ?_
    | with_reducible refine keep_gatherRow hP _ _ _ _ _ _ ?_
    | with_reducible refine Closed.foldl _ _ _ (fun _ _ _ => ?_) ?_
    | split

theorem keep_rebuildRow (hP : Closed bySettle P) (d : ℕ) (mtag : ℕ) (s : State) (hs : P s) :
    P (rebuildRow d mtag s) := by
  unfold rebuildRow
  repeat' first
    | with_reducible assumption
    | with_reducible refine keep_advancePass hP _ _ ?_
    | with_reducible refine keep_finishPass hP _ _ ?_
    | with_reducible refine keep_haltRebuild hP _ ?_
    | with_reducible refine keep_seatPass hP _ _ ?_
    | with_reducible refine keep_startRow hP _ _ _ _ _ _ _ ?_
    | (extract_lets +onlyGivenNames t; refine (fun (_ : P t) => ?_) ?_; (on_goal 2 => (dsimp -zeta only [t]; clear t)); (on_goal 1 => (clear_value t; rename' t => w)))
    | (extract_lets +onlyGivenNames t; refine (fun (_ : P t.1) => ?_) ?_; (on_goal 2 => (dsimp -zeta only [t]; clear t)); (on_goal 1 => (clear_value t; rename' t => w)))
    | (extract_lets +onlyGivenNames t; clear_value t; rename' t => w)
    | with_reducible rfl
    | with_reducible exact List.prefix_rfl
    | with_reducible exact le_rfl
    | with_reducible exact fun h => h
    | exact fun h => Memory.wf_writeList _ _ h
    | exact Nat.le_add_right _ _
    | with_reducible exact List.prefix_append _ _
    | with_reducible refine Closed.foldl _ _ _ (fun _ _ _ => ?_) ?_
    | split
    | with_reducible refine hP.build _ ?_ ?_ ?_ ?_

theorem keep_reconRead (hP : Closed bySettle P) (z : ℕ) (r : ℕ) (pos : ℕ) (host : Bool) (mtag : ℕ) (s : State) (hs : P s) :
    P (reconRead z r pos host mtag s) := by
  unfold reconRead
  repeat' first
    | with_reducible assumption
    | with_reducible refine keep_addOp hP _ _ ?_
    | with_reducible refine keep_takeSources hP _ _ _ ?_
    | (extract_lets +onlyGivenNames t; refine (fun (_ : P t) => ?_) ?_; (on_goal 2 => (dsimp -zeta only [t]; clear t)); (on_goal 1 => (clear_value t; rename' t => w)))
    | (extract_lets +onlyGivenNames t; refine (fun (_ : P t.1) => ?_) ?_; (on_goal 2 => (dsimp -zeta only [t]; clear t)); (on_goal 1 => (clear_value t; rename' t => w)))
    | (extract_lets +onlyGivenNames t; clear_value t; rename' t => w)
    | with_reducible rfl
    | with_reducible exact List.prefix_rfl
    | with_reducible exact le_rfl
    | with_reducible exact fun h => h
    | exact fun h => Memory.wf_writeList _ _ h
    | exact Nat.le_add_right _ _
    | with_reducible exact List.prefix_append _ _
    | with_reducible refine Closed.foldl _ _ _ (fun _ _ _ => ?_) ?_
    | split
    | with_reducible refine hP.build _ ?_ ?_ ?_ ?_

theorem keep_reportGuards (hP : Closed bySettle P) (x : ℕ × ℕ × ℕ) (s : State) (hs : P s) :
    P (reportGuards x s) := by
  unfold reportGuards
  repeat' first
    | with_reducible assumption
    | with_reducible refine Closed.forAll _ _ _ (fun _ _ _ => ?_) ?_
    | with_reducible refine keep_piMismatch hP _ _ _ ?_
    | with_reducible refine Closed.foldl _ _ _ (fun _ _ _ => ?_) ?_
    | split

theorem keep_reportZonesCmd (hP : Closed bySettle P) (zone : ℕ) (opt : ℕ) (part : Bool) (ext : Bool) (max : ℕ) (c : NvCmd) (s : State) (hs : P s) :
    P (reportZonesCmd zone opt part ext max c s) := by
  have hR := hP.ofSettle
  unfold reportZonesCmd
  repeat' first
    | with_reducible assumption
    | with_reducible refine keep_completeWith hR _ _ _ _ _ _ ?_
    | with_reducible refine keep_finish hP _ _ _ ?_
    | (extract_lets +onlyGivenNames t; refine (fun (_ : P t) => ?_) ?_; (on_goal 2 => (dsimp -zeta only [t]; clear t)); (on_goal 1 => (clear_value t; rename' t => w)))
    | (extract_lets +onlyGivenNames t; refine (fun (_ : P t.1) => ?_) ?_; (on_goal 2 => (dsimp -zeta only [t]; clear t)); (on_goal 1 => (clear_value t; rename' t => w)))
    | (extract_lets +onlyGivenNames t; clear_value t; rename' t => w)
    | with_reducible refine Closed.foldl _ _ _ (fun _ _ _ => ?_) ?_
    | split

theorem keep_resetDrainTimeout (hP : Closed bySettle P) (s : State) (hs : P s) :
    P (resetDrainTimeout s) := by
  have hR := hP.ofSettle
  unfold resetDrainTimeout
  repeat' first
    | with_reducible assumption
    | with_reducible refine hP.setMany _ _ _ (by simp only [List.all_cons, List.all_nil, Bool.and_true, Bool.and_self, into_NVQ_RESETTING, into_NVQ_STS_RDY]) ?_
    | with_reducible refine keep_pulse hR _ _ _ ?_
    | with_reducible refine Closed.foldl _ _ _ (fun _ _ _ => ?_) ?_
    | split

theorem keep_scanZone (hP : Closed bySettle P) (z : ℕ) (scan : List (ℕ × List (BitVec 9))) (last : ℕ) (s : State) (hs : P s) :
    P (scanZone z scan last s) := by
  unfold scanZone
  repeat' first
    | with_reducible assumption
    | with_reducible refine keep_State_setZone hP _ _ _ ?_
    | (extract_lets +onlyGivenNames t; refine (fun (_ : P t) => ?_) ?_; (on_goal 2 => (dsimp -zeta only [t]; clear t)); (on_goal 1 => (clear_value t; rename' t => w)))
    | (extract_lets +onlyGivenNames t; refine (fun (_ : P t.1) => ?_) ?_; (on_goal 2 => (dsimp -zeta only [t]; clear t)); (on_goal 1 => (clear_value t; rename' t => w)))
    | (extract_lets +onlyGivenNames t; clear_value t; rename' t => w)
    | with_reducible rfl
    | with_reducible exact List.prefix_rfl
    | with_reducible exact le_rfl
    | with_reducible exact fun h => h
    | exact fun h => Memory.wf_writeList _ _ h
    | exact Nat.le_add_right _ _
    | with_reducible exact List.prefix_append _ _
    | with_reducible refine Closed.foldl _ _ _ (fun _ _ _ => ?_) ?_
    | split
    | with_reducible refine hP.build _ ?_ ?_ ?_ ?_

theorem keep_rowCommit (hP : Closed bySettle P) (z : ℕ) (s : State) (hs : P s) :
    P (rowCommit z s) := by
  unfold rowCommit
  repeat' first
    | with_reducible assumption
    | with_reducible refine hP.set _ ACD_LAZY _ _ into_ACD_LAZY ?_
    | with_reducible refine keep_State_setZone hP _ _ _ ?_
    | (extract_lets +onlyGivenNames t; refine (fun (_ : P t) => ?_) ?_; (on_goal 2 => (dsimp -zeta only [t]; clear t)); (on_goal 1 => (clear_value t; rename' t => w)))
    | (extract_lets +onlyGivenNames t; refine (fun (_ : P t.1) => ?_) ?_; (on_goal 2 => (dsimp -zeta only [t]; clear t)); (on_goal 1 => (clear_value t; rename' t => w)))
    | (extract_lets +onlyGivenNames t; clear_value t; rename' t => w)
    | with_reducible rfl
    | with_reducible exact List.prefix_rfl
    | with_reducible exact le_rfl
    | with_reducible exact fun h => h
    | exact fun h => Memory.wf_writeList _ _ h
    | exact Nat.le_add_right _ _
    | with_reducible exact List.prefix_append _ _
    | with_reducible refine Closed.foldl _ _ _ (fun _ _ _ => ?_) ?_
    | split
    | with_reducible refine hP.build _ ?_ ?_ ?_ ?_

theorem keep_rowSubmit (hP : Closed bySettle P) (z : ℕ) (s : State) (hs : P s) :
    P (rowSubmit z s) := by
  unfold rowSubmit
  repeat' first
    | with_reducible assumption
    | with_reducible refine keep_dropWaiting hP _ _ _ ?_
    | with_reducible refine keep_layRow hP _ _ _ _ ?_
    | with_reducible refine keep_showFront hP _ _ _ _ ?_
    | (extract_lets +onlyGivenNames t; refine (fun (_ : P t) => ?_) ?_; (on_goal 2 => (dsimp -zeta only [t]; clear t)); (on_goal 1 => (clear_value t; rename' t => w)))
    | (extract_lets +onlyGivenNames t; refine (fun (_ : P t.1) => ?_) ?_; (on_goal 2 => (dsimp -zeta only [t]; clear t)); (on_goal 1 => (clear_value t; rename' t => w)))
    | (extract_lets +onlyGivenNames t; clear_value t; rename' t => w)
    | with_reducible refine Closed.foldl _ _ _ (fun _ _ _ => ?_) ?_
    | split

theorem keep_setPowerState (hP : Closed bySettle P) (ps : ℕ) (c : NvCmd) (s : State) (hs : P s) :
    P (setPowerState ps c s) := by
  unfold setPowerState
  repeat' first
    | with_reducible assumption
    | with_reducible refine keep_State_modCmd hP _ _ _ ?_
    | with_reducible refine keep_finish hP _ _ _ ?_
    | with_reducible refine keep_startPower hP _ _ ?_
    | with_reducible rfl
    | with_reducible exact List.prefix_rfl
    | with_reducible exact le_rfl
    | with_reducible exact fun h => h
    | exact fun h => Memory.wf_writeList _ _ h
    | exact Nat.le_add_right _ _
    | with_reducible exact List.prefix_append _ _
    | with_reducible refine Closed.foldl _ _ _ (fun _ _ _ => ?_) ?_
    | split
    | with_reducible refine hP.build _ ?_ ?_ ?_ ?_

theorem keep_shelfSubmit (hP : Closed bySettle P) (z : ℕ) (s : State) (hs : P s) :
    P (shelfSubmit z s) := by
  unfold shelfSubmit
  repeat' first
    | with_reducible assumption
    | with_reducible refine Closed.forBelow _ _ _ (fun _ _ _ => ?_) ?_
    | with_reducible refine keep_putShelf hP _ _ _ _ ?_
    | with_reducible refine keep_sendData hP _ _ _ _ _ ?_
    | with_reducible refine keep_unitSend hP _ _ _ _ _ _ ?_
    | with_reducible refine keep_writeParities hP _ _ _ _ ?_
    | (extract_lets +onlyGivenNames t; refine (fun (_ : P t) => ?_) ?_; (on_goal 2 => (dsimp -zeta only [t]; clear t)); (on_goal 1 => (clear_value t; rename' t => w)))
    | (extract_lets +onlyGivenNames t; refine (fun (_ : P t.1) => ?_) ?_; (on_goal 2 => (dsimp -zeta only [t]; clear t)); (on_goal 1 => (clear_value t; rename' t => w)))
    | (extract_lets +onlyGivenNames t; clear_value t; rename' t => w)
    | with_reducible refine Closed.foldl _ _ _ (fun _ _ _ => ?_) ?_
    | split

theorem keep_writeBufferError (hP : Closed bySettle P) (l : ℕ) (s : State) (hs : P s) :
    P (writeBufferError l s) := by
  have hR := hP.ofSettle
  unfold writeBufferError
  repeat' first
    | with_reducible assumption
    | with_reducible refine keep_State_setLane hP _ _ _ ?_
    | with_reducible refine keep_truncate hR _ _ ?_
    | with_reducible rfl
    | with_reducible exact List.prefix_rfl
    | with_reducible exact le_rfl
    | with_reducible exact fun h => h
    | exact fun h => Memory.wf_writeList _ _ h
    | exact Nat.le_add_right _ _
    | with_reducible exact List.prefix_append _ _
    | with_reducible refine Closed.foldl _ _ _ (fun _ _ _ => ?_) ?_
    | split
    | with_reducible refine hP.build _ ?_ ?_ ?_ ?_

theorem keep_sysOp (hP : Closed bySettle P) (kind : MediaKind) (head : ℕ) (track : ℕ) (slot : ℕ) (write : Bool) (mtag : ℕ) (s : State) (hs : P s) :
    P (sysOp kind head track slot write mtag s) := by
  unfold sysOp
  repeat' first
    | with_reducible assumption
    | with_reducible refine keep_State_modOp hP _ _ _ ?_
    | with_reducible refine keep_addOp hP _ _ ?_
    | with_reducible refine keep_endOp hP _ _ ?_
    | (extract_lets +onlyGivenNames t; refine (fun (_ : P t) => ?_) ?_; (on_goal 2 => (dsimp -zeta only [t]; clear t)); (on_goal 1 => (clear_value t; rename' t => w)))
    | (extract_lets +onlyGivenNames t; refine (fun (_ : P t.1) => ?_) ?_; (on_goal 2 => (dsimp -zeta only [t]; clear t)); (on_goal 1 => (clear_value t; rename' t => w)))
    | (extract_lets +onlyGivenNames t; clear_value t; rename' t => w)
    | with_reducible rfl
    | with_reducible exact List.prefix_rfl
    | with_reducible exact le_rfl
    | with_reducible exact fun h => h
    | exact fun h => Memory.wf_writeList _ _ h
    | exact Nat.le_add_right _ _
    | with_reducible exact List.prefix_append _ _
    | with_reducible refine Closed.foldl _ _ _ (fun _ _ _ => ?_) ?_
    | split
    | with_reducible refine hP.build _ ?_ ?_ ?_ ?_

theorem keep_withIo (hP : Closed bySettle P) (a : IoArgs) (op : ℕ) (pi : PiCheck) (f : NvCmd → State → State) (s : State) (hf : ∀ y0 y1, P y1 → P (f y0 y1)) (hs : P s) :
    P (withIo a op pi f s) := by
  have hR := hP.ofSettle
  unfold withIo
  repeat' first
    | with_reducible assumption
    | refine hf _ _ ?_
    | with_reducible refine keep_State_modCmd hP _ _ _ ?_
    | with_reducible refine keep_withCmd hR _ _ _ _ _ (fun _ _ _ => ?_) ?_
    | with_reducible rfl
    | with_reducible exact List.prefix_rfl
    | with_reducible exact le_rfl
    | with_reducible exact fun h => h
    | exact fun h => Memory.wf_writeList _ _ h
    | exact Nat.le_add_right _ _
    | with_reducible exact List.prefix_append _ _
    | with_reducible refine Closed.foldl _ _ _ (fun _ _ _ => ?_) ?_
    | split
    | with_reducible refine hP.build _ ?_ ?_ ?_ ?_

theorem keep_writeRow (hP : Closed bySettle P) (z : ℕ) (r : ℕ) (mtag : ℕ) (s : State) (hs : P s) :
    P (writeRow z r mtag s) := by
  unfold writeRow
  repeat' first
    | with_reducible assumption
    | with_reducible refine keep_addOp hP _ _ ?_
    | with_reducible refine keep_endOp hP _ _ ?_
    | with_reducible refine keep_takeRow hP _ _ ?_
    | with_reducible refine Closed.foldl _ _ _ (fun _ _ _ => ?_) ?_
    | split

theorem keep_zoneSend (hP : Closed bySettle P) (sqid : ℕ) (cid : BitVec 16) (act : ℕ) (zone : ℕ) (all : Bool) (s : State) (hs : P s) :
    P (zoneSend sqid cid act zone all s) := by
  have hR := hP.ofSettle
  unfold zoneSend
  repeat' first
    | with_reducible assumption
    | with_reducible refine keep_State_modCmd hP _ _ _ ?_
    | with_reducible refine keep_startAct hP _ _ ?_
    | with_reducible refine keep_withCmd hR _ _ _ _ _ (fun _ _ _ => ?_) ?_
    | with_reducible rfl
    | with_reducible exact List.prefix_rfl
    | with_reducible exact le_rfl
    | with_reducible exact fun h => h
    | exact fun h => Memory.wf_writeList _ _ h
    | exact Nat.le_add_right _ _
    | with_reducible exact List.prefix_append _ _
    | with_reducible refine Closed.foldl _ _ _ (fun _ _ _ => ?_) ?_
    | split
    | with_reducible refine hP.build _ ?_ ?_ ?_ ?_

end Sys2Proof.Machine
end

