-- ==== Sys2Proof/Laws/KeepAll.lean ====
section
/-!
SUPPORT. Every other operation of the model: one lemma each.
-/

set_option linter.unreachableTactic false
set_option linter.unusedTactic false
set_option linter.tactic.unusedName false
set_option linter.unusedSimpArgs false
set_option linter.unusedVariables false

namespace Sys2Proof.Machine

set_option Elab.async false

variable {P : State → Prop} {T : Nat → Bool}

theorem wf_genEntries (k m base : Nat) (ms : List Nat) (l : List Nat) (g : PlcGen) (h : g.tab.wf = true) :
    (l.foldl (fun g e => genEntry k m base ms e g) g).tab.wf = true := by
  induction l generalizing g with
  | nil => exact h
  | cons e l ih => exact ih _ (Memory.wf_writeList _ _ h)
theorem wf_genTable (s : State) (h : s.mem.wf = true) : (genTable s).wf = true := wf_genEntries _ _ _ _ _ _ h
theorem wf_placeImages (l : List (Nat × List (BitVec 8))) {m : Memory} (h : m.wf = true) : (placeImages l m).wf = true :=
  Memory.wf_foldl _ _ _ (fun m x hm => by split; exacts [Memory.wf_writeList _ _ hm, hm]) h

theorem keep_abandonDump (hP : Closed anyField P) (s : State) (hs : P s) :
    P (abandonDump s) := by
  unfold abandonDump
  repeat' first
    | with_reducible assumption
    | with_reducible refine hP.setMany _ _ _ rfl ?_
    | with_reducible rfl
    | with_reducible exact List.prefix_rfl
    | with_reducible exact le_rfl
    | with_reducible exact fun h => h
    | exact fun h => Memory.wf_writeList _ _ h
    | exact Nat.le_add_right _ _
    | with_reducible exact List.prefix_append _ _
    | with_reducible refine Closed.foldl _ _ _ (fun _ _ _ => ?_) ?_
    | split
    | with_reducible refine hP.build _ ?_ ?_ ?_ ?_

theorem keep_abortShort (hP : Closed anyField P) (q : ℕ) (s : State) (hs : P s) :
    P (abortShort q s) := by
  have hS := hP.ofAny
  unfold abortShort
  repeat' first
    | with_reducible assumption
    | with_reducible refine hP.bump _ _ _ rfl ?_
    | with_reducible refine keep_failCmd hS _ _ _ ?_
    | with_reducible refine Closed.forAll _ _ _ (fun _ _ _ => ?_) ?_
    | with_reducible refine Closed.foldl _ _ _ (fun _ _ _ => ?_) ?_
    | split

theorem keep_startStroke (hP : Closed anyField P) (h_0 : ℕ) (goal : ℤ) (s : State) (hs : P s) :
    P (startStroke h_0 goal s) := by
  unfold startStroke
  repeat' first
    | with_reducible assumption
    | with_reducible refine hP.set _ _ _ _ rfl ?_
    | with_reducible refine hP.setI _ _ _ _ rfl ?_
    | with_reducible refine hP.setMany _ _ _ rfl ?_
    | (extract_lets +onlyGivenNames t; refine (fun (_ : P t) => ?_) ?_; (on_goal 2 => (dsimp -zeta only [t]; clear t)); (on_goal 1 => (clear_value t; rename' t => w)))
    | (extract_lets +onlyGivenNames t; refine (fun (_ : P t.1) => ?_) ?_; (on_goal 2 => (dsimp -zeta only [t]; clear t)); (on_goal 1 => (clear_value t; rename' t => w)))
    | (extract_lets +onlyGivenNames t; clear_value t; rename' t => w)
    | with_reducible refine Closed.foldl _ _ _ (fun _ _ _ => ?_) ?_
    | split

theorem keep_microSeek (hP : Closed anyField P) (h_0 : ℕ) (s : State) (hs : P s) :
    P (microSeek h_0 s) := by
  unfold microSeek
  repeat' first
    | with_reducible assumption
    | with_reducible refine keep_startStroke hP _ _ _ ?_
    | with_reducible refine Closed.foldl _ _ _ (fun _ _ _ => ?_) ?_
    | split

theorem keep_startTrajectory (hP : Closed anyField P) (a : ℕ) (s : State) (hs : P s) :
    P (startTrajectory a s) := by
  unfold startTrajectory
  repeat' first
    | with_reducible assumption
    | with_reducible refine hP.set _ _ _ _ rfl ?_
    | with_reducible refine hP.setI _ _ _ _ rfl ?_
    | with_reducible refine hP.setMany _ _ _ rfl ?_
    | (extract_lets +onlyGivenNames t; refine (fun (_ : P t) => ?_) ?_; (on_goal 2 => (dsimp -zeta only [t]; clear t)); (on_goal 1 => (clear_value t; rename' t => w)))
    | (extract_lets +onlyGivenNames t; refine (fun (_ : P t.1) => ?_) ?_; (on_goal 2 => (dsimp -zeta only [t]; clear t)); (on_goal 1 => (clear_value t; rename' t => w)))
    | (extract_lets +onlyGivenNames t; clear_value t; rename' t => w)
    | with_reducible refine Closed.foldl _ _ _ (fun _ _ _ => ?_) ?_
    | split

theorem keep_vcmSeek (hP : Closed anyField P) (a : ℕ) (from0 : ℤ) (target : ℤ) (s : State) (hs : P s) :
    P (vcmSeek a from0 target s) := by
  unfold vcmSeek
  repeat' first
    | with_reducible assumption
    | with_reducible refine hP.bump _ _ _ rfl ?_
    | with_reducible refine hP.setI _ _ _ _ rfl ?_
    | with_reducible refine hP.setMany _ _ _ rfl ?_
    | with_reducible refine Closed.forAll _ _ _ (fun _ _ _ => ?_) ?_
    | with_reducible refine keep_startStroke hP _ _ _ ?_
    | with_reducible refine keep_startTrajectory hP _ _ ?_
    | (extract_lets +onlyGivenNames t; refine (fun (_ : P t) => ?_) ?_; (on_goal 2 => (dsimp -zeta only [t]; clear t)); (on_goal 1 => (clear_value t; rename' t => w)))
    | (extract_lets +onlyGivenNames t; refine (fun (_ : P t.1) => ?_) ?_; (on_goal 2 => (dsimp -zeta only [t]; clear t)); (on_goal 1 => (clear_value t; rename' t => w)))
    | (extract_lets +onlyGivenNames t; clear_value t; rename' t => w)
    | with_reducible refine Closed.foldl _ _ _ (fun _ _ _ => ?_) ?_
    | split

theorem keep_acceptTarget (hP : Closed anyField P) (h_0 : ℕ) (s : State) (hs : P s) :
    P (acceptTarget h_0 s) := by
  unfold acceptTarget
  repeat' first
    | with_reducible assumption
    | with_reducible refine hP.set _ _ _ _ rfl ?_
    | with_reducible refine hP.setMany _ _ _ rfl ?_
    | with_reducible refine keep_microSeek hP _ _ ?_
    | with_reducible refine keep_vcmSeek hP _ _ _ _ ?_
    | (extract_lets +onlyGivenNames t; refine (fun (_ : P t) => ?_) ?_; (on_goal 2 => (dsimp -zeta only [t]; clear t)); (on_goal 1 => (clear_value t; rename' t => w)))
    | (extract_lets +onlyGivenNames t; refine (fun (_ : P t.1) => ?_) ?_; (on_goal 2 => (dsimp -zeta only [t]; clear t)); (on_goal 1 => (clear_value t; rename' t => w)))
    | (extract_lets +onlyGivenNames t; clear_value t; rename' t => w)
    | with_reducible refine Closed.foldl _ _ _ (fun _ _ _ => ?_) ?_
    | split

theorem keep_acdCleanClr (hP : Closed anyField P) (s : State) (hs : P s) :
    P (acdCleanClr s) := by
  have hS := hP.ofAny
  unfold acdCleanClr
  repeat' first
    | with_reducible assumption
    | with_reducible refine hP.setMany _ _ _ rfl ?_
    | with_reducible refine keep_startRecord hS _ ?_
    | with_reducible refine Closed.foldl _ _ _ (fun _ _ _ => ?_) ?_
    | split

theorem keep_acdLose (hP : Closed anyField P) (v : ℕ) (s : State) (hs : P s) :
    P (acdLose v s) := by
  have hS := hP.ofAny
  unfold acdLose
  repeat' first
    | with_reducible assumption
    | with_reducible refine hP.setBit _ _ _ _ _ rfl ?_
    | with_reducible refine keep_loseMember hS _ _ ?_
    | (extract_lets +onlyGivenNames t; refine (fun (_ : P t) => ?_) ?_; (on_goal 2 => (dsimp -zeta only [t]; clear t)); (on_goal 1 => (clear_value t; rename' t => w)))
    | (extract_lets +onlyGivenNames t; refine (fun (_ : P t.1) => ?_) ?_; (on_goal 2 => (dsimp -zeta only [t]; clear t)); (on_goal 1 => (clear_value t; rename' t => w)))
    | (extract_lets +onlyGivenNames t; clear_value t; rename' t => w)
    | with_reducible refine Closed.foldl _ _ _ (fun _ _ _ => ?_) ?_
    | split

theorem keep_updateMembers (hP : Closed anyField P) (s : State) (hs : P s) :
    P (updateMembers s) := by
  have hS := hP.ofAny
  have hR := hP.ofAny.ofSettle
  unfold updateMembers
  repeat' first
    | with_reducible assumption
    | with_reducible refine keep_memberStates hR _ ?_
    | with_reducible refine keep_respare hS _ _ ?_
    | with_reducible refine keep_withFollow hR _ ?_
    | with_reducible refine Closed.foldl _ _ _ (fun _ _ _ => ?_) ?_
    | split

theorem keep_startEngine (hP : Closed anyField P) (s : State) (hs : P s) :
    P (startEngine s) := by
  have hS := hP.ofAny
  have hR := hP.ofAny.ofSettle
  unfold startEngine
  repeat' first
    | with_reducible assumption
    | with_reducible refine hP.setMany _ _ _ rfl ?_
    | with_reducible refine keep_pulse hR _ _ _ ?_
    | with_reducible refine keep_showResync hS _ ?_
    | with_reducible refine keep_updateMembers hP _ ?_
    | (extract_lets +onlyGivenNames t; refine (fun (_ : P t) => ?_) ?_; (on_goal 2 => (dsimp -zeta only [t]; clear t)); (on_goal 1 => (clear_value t; rename' t => w)))
    | (extract_lets +onlyGivenNames t; refine (fun (_ : P t.1) => ?_) ?_; (on_goal 2 => (dsimp -zeta only [t]; clear t)); (on_goal 1 => (clear_value t; rename' t => w)))
    | (extract_lets +onlyGivenNames t; clear_value t; rename' t => w)
    | with_reducible refine Closed.foldl _ _ _ (fun _ _ _ => ?_) ?_
    | split

theorem keep_acdRun (hP : Closed anyField P) (run : Bool) (s : State) (hs : P s) :
    P (acdRun run s) := by
  have hS := hP.ofAny
  unfold acdRun
  repeat' first
    | with_reducible assumption
    | with_reducible refine hP.setMany _ _ _ rfl ?_
    | with_reducible refine keep_showResync hS _ ?_
    | with_reducible refine keep_startEngine hP _ ?_
    | (extract_lets +onlyGivenNames t; refine (fun (_ : P t) => ?_) ?_; (on_goal 2 => (dsimp -zeta only [t]; clear t)); (on_goal 1 => (clear_value t; rename' t => w)))
    | (extract_lets +onlyGivenNames t; refine (fun (_ : P t.1) => ?_) ?_; (on_goal 2 => (dsimp -zeta only [t]; clear t)); (on_goal 1 => (clear_value t; rename' t => w)))
    | (extract_lets +onlyGivenNames t; clear_value t; rename' t => w)
    | with_reducible refine Closed.foldl _ _ _ (fun _ _ _ => ?_) ?_
    | split

theorem keep_downFrame (hP : Closed anyField P) (addr : ℕ) (typ : ℕ) (f : State → State) (s : State) (hf : ∀ y0, P y0 → P (f y0)) (hs : P s) :
    P (downFrame addr typ f s) := by
  have hR := hP.ofAny.ofSettle
  unfold downFrame
  repeat' first
    | with_reducible assumption
    | refine hf _ ?_
    | with_reducible refine hP.bump _ _ _ rfl ?_
    | with_reducible refine hP.set _ _ _ _ rfl ?_
    | with_reducible refine keep_lower hR _ _ _ ?_
    | with_reducible refine keep_sendFront hR _ ?_
    | (extract_lets +onlyGivenNames t; refine (fun (_ : P t) => ?_) ?_; (on_goal 2 => (dsimp -zeta only [t]; clear t)); (on_goal 1 => (clear_value t; rename' t => w)))
    | (extract_lets +onlyGivenNames t; refine (fun (_ : P t.1) => ?_) ?_; (on_goal 2 => (dsimp -zeta only [t]; clear t)); (on_goal 1 => (clear_value t; rename' t => w)))
    | (extract_lets +onlyGivenNames t; clear_value t; rename' t => w)
    | with_reducible rfl
    | with_reducible exact List.prefix_rfl
    | with_reducible exact le_rfl
    | with_reducible exact fun h => h
    | exact fun h => Memory.wf_writeList _ _ h
    | exact Nat.le_add_right _ _
    | with_reducible exact List.prefix_append _ _
    | with_reducible refine Closed.foldl _ _ _ (fun _ _ _ => ?_) ?_
    | split
    | with_reducible refine hP.build _ ?_ ?_ ?_ ?_

theorem keep_showMgr (hP : Closed anyField P) (s : State) (hs : P s) :
    P (showMgr s) := by
  unfold showMgr
  repeat' first
    | with_reducible assumption
    | with_reducible refine hP.setMany _ _ _ rfl ?_
    | (extract_lets +onlyGivenNames t; refine (fun (_ : P t) => ?_) ?_; (on_goal 2 => (dsimp -zeta only [t]; clear t)); (on_goal 1 => (clear_value t; rename' t => w)))
    | (extract_lets +onlyGivenNames t; refine (fun (_ : P t.1) => ?_) ?_; (on_goal 2 => (dsimp -zeta only [t]; clear t)); (on_goal 1 => (clear_value t; rename' t => w)))
    | (extract_lets +onlyGivenNames t; clear_value t; rename' t => w)
    | with_reducible refine Closed.foldl _ _ _ (fun _ _ _ => ?_) ?_
    | split

theorem keep_ack (hP : Closed anyField P) (addr : ℕ) (value : ℕ) (s : State) (hs : P s) :
    P (ack addr value s) := by
  unfold ack
  repeat' first
    | with_reducible assumption
    | with_reducible refine hP.set _ _ _ _ rfl ?_
    | with_reducible refine keep_downFrame hP _ _ _ _ (fun _ _ => ?_) ?_
    | with_reducible refine keep_showMgr hP _ ?_
    | with_reducible refine Closed.foldl _ _ _ (fun _ _ _ => ?_) ?_
    | split

theorem keep_actuatorLost (hP : Closed anyField P) (a : ℕ) (s : State) (hs : P s) :
    P (actuatorLost a s) := by
  have hR := hP.ofAny.ofSettle
  unfold actuatorLost
  repeat' first
    | with_reducible assumption
    | with_reducible refine hP.set _ _ _ _ rfl ?_
    | with_reducible refine keep_pulse hR _ _ _ ?_
    | with_reducible refine keep_retract hR _ _ ?_
    | with_reducible refine keep_withFollow hR _ ?_
    | with_reducible refine Closed.foldl _ _ _ (fun _ _ _ => ?_) ?_
    | split

theorem keep_adaptFeed (hP : Closed anyField P) (a : ℕ) (s : State) (hs : P s) :
    P (adaptFeed a s) := by
  unfold adaptFeed
  repeat' first
    | with_reducible assumption
    | with_reducible refine hP.setI _ _ _ _ rfl ?_
    | (extract_lets +onlyGivenNames t; refine (fun (_ : P t) => ?_) ?_; (on_goal 2 => (dsimp -zeta only [t]; clear t)); (on_goal 1 => (clear_value t; rename' t => w)))
    | (extract_lets +onlyGivenNames t; refine (fun (_ : P t.1) => ?_) ?_; (on_goal 2 => (dsimp -zeta only [t]; clear t)); (on_goal 1 => (clear_value t; rename' t => w)))
    | (extract_lets +onlyGivenNames t; clear_value t; rename' t => w)
    | with_reducible refine Closed.foldl _ _ _ (fun _ _ _ => ?_) ?_
    | split

theorem keep_moveLoop (hP : Closed anyField P) (f : Field) (l : ℕ) (frozen : Bool) (lo : ℤ) (n : ℕ) (s : State) (hs : P s) :
    P (moveLoop f l frozen lo n s) := by
  unfold moveLoop
  repeat' first
    | with_reducible assumption
    | with_reducible refine hP.setI _ _ _ _ rfl ?_
    | with_reducible refine hP.used _ ?_
    | with_reducible refine Closed.foldl _ _ _ (fun _ _ _ => ?_) ?_
    | split

theorem keep_moveGain (hP : Closed anyField P) (l : ℕ) (x : List ℤ) (s : State) (hs : P s) :
    P (moveGain l x s) := by
  unfold moveGain
  repeat' first
    | with_reducible assumption
    | with_reducible refine keep_moveLoop hP _ _ _ _ _ _ ?_
    | (extract_lets +onlyGivenNames t; refine (fun (_ : P t) => ?_) ?_; (on_goal 2 => (dsimp -zeta only [t]; clear t)); (on_goal 1 => (clear_value t; rename' t => w)))
    | (extract_lets +onlyGivenNames t; refine (fun (_ : P t.1) => ?_) ?_; (on_goal 2 => (dsimp -zeta only [t]; clear t)); (on_goal 1 => (clear_value t; rename' t => w)))
    | (extract_lets +onlyGivenNames t; clear_value t; rename' t => w)
    | with_reducible refine Closed.foldl _ _ _ (fun _ _ _ => ?_) ?_
    | split

theorem keep_adaptLane (hP : Closed anyField P) (l : ℕ) (samples : List ℤ) (s : State) (hs : P s) :
    P (adaptLane l samples s) := by
  have hR := hP.ofAny.ofSettle
  unfold adaptLane
  dsimp only
  repeat' first
    | with_reducible assumption
    | with_reducible refine keep_adaptTap hR _ _ _ _ _ ?_ ?_
    | with_reducible refine Closed.forBelow _ _ _ (fun _ _ _ => ?_) ?_
    | with_reducible refine keep_moveGain hP _ _ _ ?_
    | with_reducible refine keep_moveLoop hP _ _ _ _ _ _ ?_
    | (extract_lets +onlyGivenNames t; refine (fun (_ : P t) => ?_) ?_; (on_goal 2 => (dsimp -zeta only [t]; clear t)); (on_goal 1 => (clear_value t; rename' t => w)))
    | (extract_lets +onlyGivenNames t; refine (fun (_ : P t.1) => ?_) ?_; (on_goal 2 => (dsimp -zeta only [t]; clear t)); (on_goal 1 => (clear_value t; rename' t => w)))
    | (extract_lets +onlyGivenNames t; clear_value t; rename' t => w)
    | with_reducible refine Closed.foldl _ _ _ (fun _ _ _ => ?_) ?_
    | split


theorem keep_adaptTrims (hP : Closed anyField P) (n : ℕ) (s : State) (hs : P s) :
    P (adaptTrims n s) := by
  unfold adaptTrims
  repeat' first
    | with_reducible assumption
    | with_reducible refine hP.set _ _ _ _ rfl ?_
    | with_reducible refine hP.used _ ?_
    | with_reducible refine Closed.foldl _ _ _ (fun _ _ _ => ?_) ?_
    | split

theorem keep_adoptAlign (hP : Closed anyField P) (fr : FrameRec) (w : Waiting) (off : ℤ) (s : State) (hs : P s) :
    P (adoptAlign fr w off s) := by
  have hS := hP.ofAny
  unfold adoptAlign
  repeat' first
    | with_reducible assumption
    | with_reducible refine keep_State_modFrame hS _ _ _ ?_
    | with_reducible refine hP.set _ _ _ _ rfl ?_
    | with_reducible refine hP.setI _ _ _ _ rfl ?_
    | (extract_lets +onlyGivenNames t; refine (fun (_ : P t) => ?_) ?_; (on_goal 2 => (dsimp -zeta only [t]; clear t)); (on_goal 1 => (clear_value t; rename' t => w)))
    | (extract_lets +onlyGivenNames t; refine (fun (_ : P t.1) => ?_) ?_; (on_goal 2 => (dsimp -zeta only [t]; clear t)); (on_goal 1 => (clear_value t; rename' t => w)))
    | (extract_lets +onlyGivenNames t; clear_value t; rename' t => w)
    | with_reducible rfl
    | with_reducible exact List.prefix_rfl
    | with_reducible exact le_rfl
    | with_reducible exact fun h => h
    | exact fun h => Memory.wf_writeList _ _ h
    | exact Nat.le_add_right _ _
    | with_reducible exact List.prefix_append _ _
    | with_reducible refine Closed.foldl _ _ _ (fun _ _ _ => ?_) ?_
    | split
    | with_reducible refine hP.build _ ?_ ?_ ?_ ?_

theorem keep_listLost (hP : Closed anyField P) (x : RowRec) (pos : ℕ) (c : ℕ) (s : State) (hs : P s) :
    P (listLost x pos c s) := by
  exact keep_parityAnew hP.ofAny _ _ (keep_onImages hP.ofAny.ofSettle _ _ _ _ _ _
    (fun a u hu => keep_cleanRange hP.ofAny _ _ _ (hP.record u _ rfl (fun h => Memory.wf_writePad _ h) List.prefix_rfl le_rfl hu))
    (keep_addUnrec hP.ofAny _ _ _ hs))


theorem keep_restoreImage (hP : Closed anyField P) (a : ℕ) (s : State) (hs : P s) :
    P (restoreImage a s) := by
  unfold restoreImage
  extract_lets t
  have ht : P t := keep_cleanRange hP.ofAny _ _ _ hs
  clear_value t
  split
  · exact ht
  · exact hP.record t _ rfl (fun h => Memory.wf_writeGuard _ (Memory.wf_writeList _ _ h)) List.prefix_rfl (Nat.le_add_right _ _) ht


theorem keep_loseBlock (hP : Closed anyField P) (z : ℕ) (r : ℕ) (pos : ℕ) (c : ℕ) (s : State) (hs : P s) :
    P (loseBlock z r pos c s) := by
  have hS := hP.ofAny
  have hR := hP.ofAny.ofSettle
  unfold loseBlock
  repeat' first
    | with_reducible assumption
    | with_reducible refine keep_failWrite hS _ _ _ ?_
    | with_reducible refine keep_listLost hP _ _ _ _ ?_
    | with_reducible refine keep_onImages hR _ _ _ _ _ _ (fun _ _ _ => ?_) ?_
    | with_reducible refine keep_restoreImage hP _ _ ?_
    | with_reducible refine keep_writeParities hS _ _ _ _ ?_
    | (extract_lets +onlyGivenNames t; refine (fun (_ : P t) => ?_) ?_; (on_goal 2 => (dsimp -zeta only [t]; clear t)); (on_goal 1 => (clear_value t; rename' t => w)))
    | (extract_lets +onlyGivenNames t; refine (fun (_ : P t.1) => ?_) ?_; (on_goal 2 => (dsimp -zeta only [t]; clear t)); (on_goal 1 => (clear_value t; rename' t => w)))
    | (extract_lets +onlyGivenNames t; clear_value t; rename' t => w)
    | with_reducible refine Closed.foldl _ _ _ (fun _ _ _ => ?_) ?_
    | split

theorem keep_loseFrame (hP : Closed anyField P) (x : ℕ × ℕ × ℕ) (s : State) (hs : P s) :
    P (loseFrame x s) := by
  unfold loseFrame
  repeat' first
    | with_reducible assumption
    | with_reducible refine Closed.forAll _ _ _ (fun _ _ _ => ?_) ?_
    | with_reducible refine keep_loseBlock hP _ _ _ _ _ ?_
    | with_reducible refine Closed.foldl _ _ _ (fun _ _ _ => ?_) ?_
    | split

theorem keep_loseAt (hP : Closed anyField P) (a : ℕ) (s : State) (hs : P s) :
    P (loseAt a s) := by
  have hS := hP.ofAny
  unfold loseAt
  repeat' first
    | with_reducible assumption
    | with_reducible refine keep_loseFrame hP _ _ ?_
    | with_reducible refine keep_loseSource hS _ _ ?_
    | with_reducible refine Closed.foldl _ _ _ (fun _ _ _ => ?_) ?_
    | split

theorem keep_afterFetch (hP : Closed anyField P) (l : ℕ) (w : BitVec 512) (s : State) (hs : P s) :
    P (afterFetch l w s) := by
  unfold afterFetch
  repeat' first
    | with_reducible assumption
    | with_reducible refine keep_loseAt hP _ _ ?_
    | with_reducible refine Closed.foldl _ _ _ (fun _ _ _ => ?_) ?_
    | split

theorem keep_afterRead (hP : Closed anyField P) (who : BufMaster) (a : ℕ) (s : State) (hs : P s) :
    P (afterRead who a s) := by
  unfold afterRead
  repeat' first
    | with_reducible assumption
    | with_reducible refine keep_loseAt hP _ _ ?_
    | with_reducible refine Closed.foldl _ _ _ (fun _ _ _ => ?_) ?_
    | split

theorem keep_recordAge (hP : Closed anyField P) (n : ℕ) (trig : ℕ) (epoch : ℕ) (s : State) (hs : P s) :
    P (recordAge n trig epoch s) := by
  have hR := hP.ofAny.ofSettle
  unfold recordAge
  repeat' first
    | with_reducible assumption
    | with_reducible refine hP.set _ _ _ _ rfl ?_
    | with_reducible refine keep_pulse hR _ _ _ ?_
    | (extract_lets +onlyGivenNames t; refine (fun (_ : P t) => ?_) ?_; (on_goal 2 => (dsimp -zeta only [t]; clear t)); (on_goal 1 => (clear_value t; rename' t => w)))
    | (extract_lets +onlyGivenNames t; refine (fun (_ : P t.1) => ?_) ?_; (on_goal 2 => (dsimp -zeta only [t]; clear t)); (on_goal 1 => (clear_value t; rename' t => w)))
    | (extract_lets +onlyGivenNames t; clear_value t; rename' t => w)
    | with_reducible refine Closed.foldl _ _ _ (fun _ _ _ => ?_) ?_
    | split

theorem keep_afterSend (hP : Closed anyField P) (a : ℕ) (r : HlkReq) (seq : ℕ) (s : State) (hs : P s) :
    P (afterSend a r seq s) := by
  unfold afterSend
  repeat' first
    | with_reducible assumption
    | with_reducible refine hP.set _ _ _ _ rfl ?_
    | with_reducible refine hP.setMany _ _ _ rfl ?_
    | with_reducible refine keep_recordAge hP _ _ _ _ ?_
    | (extract_lets +onlyGivenNames t; refine (fun (_ : P t) => ?_) ?_; (on_goal 2 => (dsimp -zeta only [t]; clear t)); (on_goal 1 => (clear_value t; rename' t => w)))
    | (extract_lets +onlyGivenNames t; refine (fun (_ : P t.1) => ?_) ?_; (on_goal 2 => (dsimp -zeta only [t]; clear t)); (on_goal 1 => (clear_value t; rename' t => w)))
    | (extract_lets +onlyGivenNames t; clear_value t; rename' t => w)
    | with_reducible refine Closed.foldl _ _ _ (fun _ _ _ => ?_) ?_
    | split

theorem keep_newTarget (hP : Closed anyField P) (v : ℤ) (s : State) (hs : P s) :
    P (newTarget v s) := by
  have hR := hP.ofAny.ofSettle
  unfold newTarget
  repeat' first
    | with_reducible assumption
    | with_reducible refine hP.set _ _ _ _ rfl ?_
    | with_reducible refine hP.setI _ _ _ _ rfl ?_
    | with_reducible refine keep_applyTarget hR _ ?_
    | (extract_lets +onlyGivenNames t; refine (fun (_ : P t) => ?_) ?_; (on_goal 2 => (dsimp -zeta only [t]; clear t)); (on_goal 1 => (clear_value t; rename' t => w)))
    | (extract_lets +onlyGivenNames t; refine (fun (_ : P t.1) => ?_) ?_; (on_goal 2 => (dsimp -zeta only [t]; clear t)); (on_goal 1 => (clear_value t; rename' t => w)))
    | (extract_lets +onlyGivenNames t; clear_value t; rename' t => w)
    | with_reducible refine Closed.foldl _ _ _ (fun _ _ _ => ?_) ?_
    | split

theorem keep_newMode (hP : Closed anyField P) (old : ℕ) (s : State) (hs : P s) :
    P (newMode old s) := by
  unfold newMode
  repeat' first
    | with_reducible assumption
    | with_reducible refine hP.setMany _ _ _ rfl ?_
    | with_reducible refine keep_newTarget hP _ _ ?_
    | (extract_lets +onlyGivenNames t; refine (fun (_ : P t) => ?_) ?_; (on_goal 2 => (dsimp -zeta only [t]; clear t)); (on_goal 1 => (clear_value t; rename' t => w)))
    | (extract_lets +onlyGivenNames t; refine (fun (_ : P t.1) => ?_) ?_; (on_goal 2 => (dsimp -zeta only [t]; clear t)); (on_goal 1 => (clear_value t; rename' t => w)))
    | (extract_lets +onlyGivenNames t; clear_value t; rename' t => w)
    | with_reducible refine Closed.foldl _ _ _ (fun _ _ _ => ?_) ?_
    | split

theorem keep_setFrange (hP : Closed anyField P) (l : ℕ) (o : Bool) (s : State) (hs : P s) :
    P (setFrange l o s) := by
  have hR := hP.ofAny.ofSettle
  unfold setFrange
  repeat' first
    | with_reducible assumption
    | with_reducible refine hP.set _ _ _ _ rfl ?_
    | with_reducible refine keep_level hR _ _ _ _ ?_
    | with_reducible refine keep_recheckWrite hR _ _ ?_
    | with_reducible refine Closed.foldl _ _ _ (fun _ _ _ => ?_) ?_
    | split

theorem keep_updateFrange (hP : Closed anyField P) (l : ℕ) (s : State) (hs : P s) :
    P (updateFrange l s) := by
  unfold updateFrange
  repeat' first
    | with_reducible assumption
    | with_reducible refine keep_setFrange hP _ _ _ ?_
    | with_reducible refine Closed.foldl _ _ _ (fun _ _ _ => ?_) ?_
    | split

theorem keep_afterSwap (hP : Closed anyField P) (b : ShBlk) (i : ℕ) (g : ℕ) (old : State) (s : State) (hold : P old) (hs : P s) :
    P (afterSwap b i g old s) := by
  have hS := hP.ofAny
  have hR := hP.ofAny.ofSettle
  unfold afterSwap
  repeat' first
    | with_reducible assumption
    | with_reducible refine hP.set _ _ _ _ rfl ?_
    | with_reducible refine hP.setBit _ _ _ _ _ rfl ?_
    | with_reducible refine hP.setMany _ _ _ rfl ?_
    | with_reducible refine keep_bankSwap hS _ _ ?_
    | with_reducible refine keep_newMode hP _ _ ?_
    | with_reducible refine keep_selectSource hR _ ?_
    | with_reducible refine keep_updateFrange hP _ _ ?_
    | with_reducible refine keep_updateMembers hP _ ?_
    | with_reducible refine keep_updateSpare hS _ ?_
    | with_reducible refine Closed.foldl _ _ _ (fun _ _ _ => ?_) ?_
    | split

theorem keep_rejectGroup (hP : Closed anyField P) (b : ShBlk) (i : ℕ) (g : ℕ) (s : State) (hs : P s) :
    P (rejectGroup b i g s) := by
  have hR := hP.ofAny.ofSettle
  unfold rejectGroup
  repeat' first
    | with_reducible assumption
    | with_reducible refine hP.setBit _ _ _ _ _ rfl ?_
    | with_reducible refine keep_pulse hR _ _ _ ?_
    | (extract_lets +onlyGivenNames t; refine (fun (_ : P t) => ?_) ?_; (on_goal 2 => (dsimp -zeta only [t]; clear t)); (on_goal 1 => (clear_value t; rename' t => w)))
    | (extract_lets +onlyGivenNames t; refine (fun (_ : P t.1) => ?_) ?_; (on_goal 2 => (dsimp -zeta only [t]; clear t)); (on_goal 1 => (clear_value t; rename' t => w)))
    | (extract_lets +onlyGivenNames t; clear_value t; rename' t => w)
    | with_reducible refine Closed.foldl _ _ _ (fun _ _ _ => ?_) ?_
    | split

theorem keep_copyGroup (hP : Closed anyField P) (b : ShBlk) (i : ℕ) (g : ℕ) (s : State) (hs : P s) :
    P (copyGroup b i g s) := by
  unfold copyGroup
  repeat' first
    | with_reducible assumption
    | with_reducible refine hP.set _ _ _ _ rfl ?_
    | with_reducible refine Closed.foldl _ _ _ (fun _ _ _ => ?_) ?_
    | split

theorem keep_swapGroup (hP : Closed anyField P) (b : ShBlk) (i : ℕ) (g : ℕ) (s : State) (hs : P s) :
    P (swapGroup b i g s) := by
  unfold swapGroup
  repeat' first
    | with_reducible assumption
    | with_reducible refine hP.setBit _ _ _ _ _ rfl ?_
    | with_reducible refine keep_afterSwap hP _ _ _ _ _ ?_ ?_
    | with_reducible refine keep_copyGroup hP _ _ _ _ ?_
    | (extract_lets +onlyGivenNames t; refine (fun (_ : P t) => ?_) ?_; (on_goal 2 => (dsimp -zeta only [t]; clear t)); (on_goal 1 => (clear_value t; rename' t => w)))
    | (extract_lets +onlyGivenNames t; refine (fun (_ : P t.1) => ?_) ?_; (on_goal 2 => (dsimp -zeta only [t]; clear t)); (on_goal 1 => (clear_value t; rename' t => w)))
    | (extract_lets +onlyGivenNames t; clear_value t; rename' t => w)
    | with_reducible refine Closed.foldl _ _ _ (fun _ _ _ => ?_) ?_
    | split

theorem keep_commitGroup (hP : Closed anyField P) (b : ShBlk) (i : ℕ) (g : ℕ) (s : State) (hs : P s) :
    P (commitGroup b i g s) := by
  unfold commitGroup
  repeat' first
    | with_reducible assumption
    | with_reducible refine hP.setBit _ _ _ _ _ rfl ?_
    | with_reducible refine keep_rejectGroup hP _ _ _ _ ?_
    | with_reducible refine keep_swapGroup hP _ _ _ _ ?_
    | (extract_lets +onlyGivenNames t; refine (fun (_ : P t) => ?_) ?_; (on_goal 2 => (dsimp -zeta only [t]; clear t)); (on_goal 1 => (clear_value t; rename' t => w)))
    | (extract_lets +onlyGivenNames t; refine (fun (_ : P t.1) => ?_) ?_; (on_goal 2 => (dsimp -zeta only [t]; clear t)); (on_goal 1 => (clear_value t; rename' t => w)))
    | (extract_lets +onlyGivenNames t; clear_value t; rename' t => w)
    | with_reducible refine Closed.foldl _ _ _ (fun _ _ _ => ?_) ?_
    | split

theorem keep_applyPolicy (hP : Closed anyField P) (v : ℕ) (c : NvCmd) (s : State) (hs : P s) :
    P (applyPolicy v c s) := by
  have hS := hP.ofAny
  unfold applyPolicy
  repeat' first
    | with_reducible assumption
    | with_reducible refine keep_State_modCmd hS _ _ _ ?_
    | with_reducible refine hP.setSh _ _ _ _ ?_
    | with_reducible refine keep_commitGroup hP _ _ _ _ ?_
    | with_reducible refine keep_finish hS _ _ _ ?_
    | (extract_lets +onlyGivenNames t; refine (fun (_ : P t) => ?_) ?_; (on_goal 2 => (dsimp -zeta only [t]; clear t)); (on_goal 1 => (clear_value t; rename' t => w)))
    | (extract_lets +onlyGivenNames t; refine (fun (_ : P t.1) => ?_) ?_; (on_goal 2 => (dsimp -zeta only [t]; clear t)); (on_goal 1 => (clear_value t; rename' t => w)))
    | (extract_lets +onlyGivenNames t; clear_value t; rename' t => w)
    | with_reducible rfl
    | with_reducible exact List.prefix_rfl
    | with_reducible exact le_rfl
    | with_reducible exact fun h => h
    | exact fun h => Memory.wf_writeList _ _ h
    | exact Nat.le_add_right _ _
    | with_reducible exact List.prefix_append _ _
    | with_reducible refine Closed.foldl _ _ _ (fun _ _ _ => ?_) ?_
    | split
    | with_reducible refine hP.build _ ?_ ?_ ?_ ?_

theorem keep_stepPolicy (hP : Closed anyField P) (s : State) (hs : P s) :
    P (stepPolicy s) := by
  have hS := hP.ofAny
  unfold stepPolicy
  repeat' first
    | with_reducible assumption
    | with_reducible refine keep_applyPolicy hP _ _ _ ?_
    | with_reducible refine keep_finish hS _ _ _ ?_
    | (extract_lets +onlyGivenNames t; refine (fun (_ : P t) => ?_) ?_; (on_goal 2 => (dsimp -zeta only [t]; clear t)); (on_goal 1 => (clear_value t; rename' t => w)))
    | (extract_lets +onlyGivenNames t; refine (fun (_ : P t.1) => ?_) ?_; (on_goal 2 => (dsimp -zeta only [t]; clear t)); (on_goal 1 => (clear_value t; rename' t => w)))
    | (extract_lets +onlyGivenNames t; clear_value t; rename' t => w)
    | with_reducible refine Closed.foldl _ _ _ (fun _ _ _ => ?_) ?_
    | split

theorem keep_afterWrite (hP : Closed anyField P) (off : ℕ) (s : State) (t : State) (ht : P t) :
    P (afterWrite off s t) := by
  have hS := hP.ofAny
  unfold afterWrite
  repeat' first
    | with_reducible assumption
    | with_reducible refine keep_settle hS _ _ ?_
    | with_reducible refine keep_settleAngle hS _ ?_
    | with_reducible refine keep_stepPolicy hP _ ?_
    | with_reducible refine Closed.foldl _ _ _ (fun _ _ _ => ?_) ?_
    | split

theorem keep_enterOpenloop (hP : Closed anyField P) (s : State) (hs : P s) :
    P (enterOpenloop s) := by
  have hR := hP.ofAny.ofSettle
  unfold enterOpenloop
  repeat' first
    | with_reducible assumption
    | with_reducible refine hP.setMany _ _ _ rfl ?_
    | with_reducible refine keep_spnGo hR _ _ _ ?_
    | with_reducible refine Closed.foldl _ _ _ (fun _ _ _ => ?_) ?_
    | split

theorem keep_failStart (hP : Closed anyField P) (s : State) (hs : P s) :
    P (failStart s) := by
  have hR := hP.ofAny.ofSettle
  unfold failStart
  repeat' first
    | with_reducible assumption
    | with_reducible refine hP.bump _ _ _ rfl ?_
    | with_reducible refine hP.set _ _ _ _ rfl ?_
    | with_reducible refine keep_pulse hR _ _ _ ?_
    | with_reducible refine keep_spnGo hR _ _ _ ?_
    | with_reducible refine Closed.foldl _ _ _ (fun _ _ _ => ?_) ?_
    | split

theorem keep_alignEnd (hP : Closed anyField P) (drew : Bool) (wrongSign : Bool) (s : State) (hs : P s) :
    P (alignEnd drew wrongSign s) := by
  have hR := hP.ofAny.ofSettle
  unfold alignEnd
  repeat' first
    | with_reducible assumption
    | with_reducible refine hP.set _ _ _ _ rfl ?_
    | with_reducible refine keep_enterOpenloop hP _ ?_
    | with_reducible refine keep_failStart hP _ ?_
    | with_reducible refine keep_pulse hR _ _ _ ?_
    | with_reducible refine keep_spnGo hR _ _ _ ?_
    | with_reducible refine Closed.foldl _ _ _ (fun _ _ _ => ?_) ?_
    | split

theorem keep_judgeStill (hP : Closed anyField P) (s : State) (hs : P s) :
    P (judgeStill s) := by
  unfold judgeStill
  repeat' first
    | with_reducible assumption
    | with_reducible refine hP.setMany _ _ _ rfl ?_
    | (extract_lets +onlyGivenNames t; refine (fun (_ : P t) => ?_) ?_; (on_goal 2 => (dsimp -zeta only [t]; clear t)); (on_goal 1 => (clear_value t; rename' t => w)))
    | (extract_lets +onlyGivenNames t; refine (fun (_ : P t.1) => ?_) ?_; (on_goal 2 => (dsimp -zeta only [t]; clear t)); (on_goal 1 => (clear_value t; rename' t => w)))
    | (extract_lets +onlyGivenNames t; clear_value t; rename' t => w)
    | with_reducible refine Closed.foldl _ _ _ (fun _ _ _ => ?_) ?_
    | split

theorem keep_moveStamp (hP : Closed anyField P) (s : State) (hs : P s) :
    P (moveStamp s) := by
  have hR := hP.ofAny.ofSettle
  unfold moveStamp
  repeat' first
    | with_reducible assumption
    | with_reducible refine hP.set _ _ _ _ rfl ?_
    | with_reducible refine keep_followPilot hR _ ?_
    | with_reducible refine keep_followRate hR _ _ _ ?_
    | (extract_lets +onlyGivenNames t; refine (fun (_ : P t) => ?_) ?_; (on_goal 2 => (dsimp -zeta only [t]; clear t)); (on_goal 1 => (clear_value t; rename' t => w)))
    | (extract_lets +onlyGivenNames t; refine (fun (_ : P t.1) => ?_) ?_; (on_goal 2 => (dsimp -zeta only [t]; clear t)); (on_goal 1 => (clear_value t; rename' t => w)))
    | (extract_lets +onlyGivenNames t; clear_value t; rename' t => w)
    | with_reducible refine Closed.foldl _ _ _ (fun _ _ _ => ?_) ?_
    | split

theorem keep_angleCycle (hP : Closed anyField P) (p0 : ℤ) (p1 : ℤ) (s : State) (hs : P s) :
    P (angleCycle p0 p1 s) := by
  have hR := hP.ofAny.ofSettle
  unfold angleCycle
  repeat' first
    | with_reducible assumption
    | with_reducible refine hP.setI _ _ _ _ rfl ?_
    | with_reducible refine hP.setMany _ _ _ rfl ?_
    | with_reducible refine keep_judgeStill hP _ ?_
    | with_reducible refine keep_moveStamp hP _ ?_
    | with_reducible refine keep_showSlew hR _ ?_
    | (extract_lets +onlyGivenNames t; refine (fun (_ : P t) => ?_) ?_; (on_goal 2 => (dsimp -zeta only [t]; clear t)); (on_goal 1 => (clear_value t; rename' t => w)))
    | (extract_lets +onlyGivenNames t; refine (fun (_ : P t.1) => ?_) ?_; (on_goal 2 => (dsimp -zeta only [t]; clear t)); (on_goal 1 => (clear_value t; rename' t => w)))
    | (extract_lets +onlyGivenNames t; clear_value t; rename' t => w)
    | with_reducible rfl
    | with_reducible exact List.prefix_rfl
    | with_reducible exact le_rfl
    | with_reducible exact fun h => h
    | exact fun h => Memory.wf_writeList _ _ h
    | exact Nat.le_add_right _ _
    | with_reducible exact List.prefix_append _ _
    | with_reducible refine Closed.foldl _ _ _ (fun _ _ _ => ?_) ?_
    | split
    | with_reducible refine hP.build _ ?_ ?_ ?_ ?_

theorem keep_recordValue (hP : Closed anyField P) (f : Field) (i : ℕ) (v : ℕ) (s : State) (hs : P s) :
    P (recordValue f i v s) := by
  unfold recordValue
  repeat' first
    | with_reducible assumption
    | with_reducible refine hP.set _ _ _ _ rfl ?_
    | with_reducible refine hP.setSh _ _ _ _ ?_
    | with_reducible refine Closed.foldl _ _ _ (fun _ _ _ => ?_) ?_
    | split

theorem keep_applyGeometry (hP : Closed anyField P) (c : CfgArea) (s : State) (hs : P s) :
    P (applyGeometry c s) := by
  unfold applyGeometry
  repeat' first
    | with_reducible assumption
    | with_reducible refine hP.setMany _ _ _ rfl ?_
    | with_reducible refine keep_recordValue hP _ _ _ _ ?_
    | (extract_lets +onlyGivenNames t; refine (fun (_ : P t) => ?_) ?_; (on_goal 2 => (dsimp -zeta only [t]; clear t)); (on_goal 1 => (clear_value t; rename' t => w)))
    | (extract_lets +onlyGivenNames t; refine (fun (_ : P t.1) => ?_) ?_; (on_goal 2 => (dsimp -zeta only [t]; clear t)); (on_goal 1 => (clear_value t; rename' t => w)))
    | (extract_lets +onlyGivenNames t; clear_value t; rename' t => w)
    | with_reducible refine Closed.foldl _ _ _ (fun _ _ _ => ?_) ?_
    | split

theorem keep_applyNvme (hP : Closed anyField P) (c : CfgArea) (s : State) (hs : P s) :
    P (applyNvme c s) := by
  unfold applyNvme
  repeat' first
    | with_reducible assumption
    | with_reducible refine hP.set _ _ _ _ rfl ?_
    | with_reducible refine hP.setMany _ _ _ rfl ?_
    | (extract_lets +onlyGivenNames t; refine (fun (_ : P t) => ?_) ?_; (on_goal 2 => (dsimp -zeta only [t]; clear t)); (on_goal 1 => (clear_value t; rename' t => w)))
    | (extract_lets +onlyGivenNames t; refine (fun (_ : P t.1) => ?_) ?_; (on_goal 2 => (dsimp -zeta only [t]; clear t)); (on_goal 1 => (clear_value t; rename' t => w)))
    | (extract_lets +onlyGivenNames t; clear_value t; rename' t => w)
    | with_reducible refine Closed.foldl _ _ _ (fun _ _ _ => ?_) ?_
    | split

theorem keep_applyRole (hP : Closed anyField P) (c : CfgArea) (s : State) (hs : P s) :
    P (applyRole c s) := by
  unfold applyRole
  repeat' first
    | with_reducible assumption
    | with_reducible refine hP.set _ _ _ _ rfl ?_
    | with_reducible refine hP.setMany _ _ _ rfl ?_
    | (extract_lets +onlyGivenNames t; refine (fun (_ : P t) => ?_) ?_; (on_goal 2 => (dsimp -zeta only [t]; clear t)); (on_goal 1 => (clear_value t; rename' t => w)))
    | (extract_lets +onlyGivenNames t; refine (fun (_ : P t.1) => ?_) ?_; (on_goal 2 => (dsimp -zeta only [t]; clear t)); (on_goal 1 => (clear_value t; rename' t => w)))
    | (extract_lets +onlyGivenNames t; clear_value t; rename' t => w)
    | with_reducible rfl
    | with_reducible exact List.prefix_rfl
    | with_reducible exact le_rfl
    | with_reducible exact fun h => h
    | exact fun h => Memory.wf_writeList _ _ h
    | exact Nat.le_add_right _ _
    | with_reducible exact List.prefix_append _ _
    | with_reducible refine Closed.foldl _ _ _ (fun _ _ _ => ?_) ?_
    | split
    | with_reducible refine hP.build _ ?_ ?_ ?_ ?_

theorem keep_recordField (hP : Closed anyField P) (f : Field) (i : ℕ) (w : ℕ) (v : ℕ) (s : State) (hs : P s) :
    P (recordField f i w v s) := by
  unfold recordField
  repeat' first
    | with_reducible assumption
    | with_reducible refine hP.set _ _ _ _ rfl ?_
    | with_reducible refine hP.setSh _ _ _ _ ?_
    | with_reducible refine Closed.foldl _ _ _ (fun _ _ _ => ?_) ?_
    | split

theorem keep_recordPair (hP : Closed anyField P) (a : ℕ) (v : ℕ) (s : State) (hs : P s) :
    P (recordPair a v s) := by
  unfold recordPair
  repeat' first
    | with_reducible assumption
    | with_reducible refine keep_recordField hP _ _ _ _ _ ?_
    | with_reducible refine Closed.foldl _ _ _ (fun _ _ _ => ?_) ?_
    | split

theorem keep_applyWords (hP : Closed anyField P) (c : CfgArea) (s : State) (hs : P s) :
    P (applyWords c s) := by
  unfold applyWords
  repeat' first
    | with_reducible assumption
    | with_reducible refine keep_recordPair hP _ _ _ ?_
    | (extract_lets +onlyGivenNames t; refine (fun (_ : P t) => ?_) ?_; (on_goal 2 => (dsimp -zeta only [t]; clear t)); (on_goal 1 => (clear_value t; rename' t => w)))
    | (extract_lets +onlyGivenNames t; refine (fun (_ : P t.1) => ?_) ?_; (on_goal 2 => (dsimp -zeta only [t]; clear t)); (on_goal 1 => (clear_value t; rename' t => w)))
    | (extract_lets +onlyGivenNames t; clear_value t; rename' t => w)
    | with_reducible rfl
    | with_reducible exact List.prefix_rfl
    | with_reducible exact le_rfl
    | with_reducible exact fun h => h
    | exact fun h => Memory.wf_writeList _ _ h
    | exact Nat.le_add_right _ _
    | with_reducible exact List.prefix_append _ _
    | with_reducible refine Closed.foldl _ _ _ (fun _ _ _ => ?_) ?_
    | split
    | with_reducible refine hP.build _ ?_ ?_ ?_ ?_

theorem keep_applyArea (hP : Closed anyField P) (i : ℕ) (c : CfgArea) (custKey : Bool) (s : State) (hs : P s) :
    P (applyArea i c custKey s) := by
  unfold applyArea
  repeat' first
    | with_reducible assumption
    | with_reducible refine hP.set _ _ _ _ rfl ?_
    | with_reducible refine hP.setI _ _ _ _ rfl ?_
    | with_reducible refine hP.setMany _ _ _ rfl ?_
    | with_reducible refine keep_applyGeometry hP _ _ ?_
    | with_reducible refine keep_applyNvme hP _ _ ?_
    | with_reducible refine keep_applyRole hP _ _ ?_
    | with_reducible refine keep_applyWords hP _ _ ?_
    | with_reducible refine Closed.forBelow _ _ _ (fun _ _ _ => ?_) ?_
    | (extract_lets +onlyGivenNames t; refine (fun (_ : P t) => ?_) ?_; (on_goal 2 => (dsimp -zeta only [t]; clear t)); (on_goal 1 => (clear_value t; rename' t => w)))
    | (extract_lets +onlyGivenNames t; refine (fun (_ : P t.1) => ?_) ?_; (on_goal 2 => (dsimp -zeta only [t]; clear t)); (on_goal 1 => (clear_value t; rename' t => w)))
    | (extract_lets +onlyGivenNames t; clear_value t; rename' t => w)
    | with_reducible rfl
    | with_reducible exact List.prefix_rfl
    | with_reducible exact le_rfl
    | with_reducible exact fun h => h
    | exact fun h => Memory.wf_writeList _ _ h
    | exact Nat.le_add_right _ _
    | with_reducible exact List.prefix_append _ _
    | with_reducible refine Closed.foldl _ _ _ (fun _ _ _ => ?_) ?_
    | split
    | with_reducible refine hP.build _ ?_ ?_ ?_ ?_

theorem keep_applyCandidate (hP : Closed anyField P) (e : ℕ × ℕ) (s : State) (hs : P s) :
    P (applyCandidate e s) := by
  unfold applyCandidate
  repeat' first
    | with_reducible assumption
    | with_reducible refine hP.setBit _ _ _ _ _ rfl ?_
    | with_reducible rfl
    | with_reducible exact List.prefix_rfl
    | with_reducible exact le_rfl
    | with_reducible exact fun h => h
    | exact fun h => Memory.wf_writeList _ _ h
    | exact Nat.le_add_right _ _
    | with_reducible exact List.prefix_append _ _
    | with_reducible refine Closed.foldl _ _ _ (fun _ _ _ => ?_) ?_
    | split
    | with_reducible refine hP.build _ ?_ ?_ ?_ ?_

theorem keep_heaterSink (hP : Closed anyField P) (h_0 : ℕ) (v : ℕ) (age : Option (ℕ × ℕ × ℕ)) (s : State) (hs : P s) :
    P (heaterSink h_0 v age s) := by
  have hR := hP.ofAny.ofSettle
  unfold heaterSink
  repeat' first
    | with_reducible assumption
    | with_reducible refine hP.set _ _ _ _ rfl ?_
    | with_reducible refine keep_linkSend hR _ _ _ ?_
    | (extract_lets +onlyGivenNames t; refine (fun (_ : P t) => ?_) ?_; (on_goal 2 => (dsimp -zeta only [t]; clear t)); (on_goal 1 => (clear_value t; rename' t => w)))
    | (extract_lets +onlyGivenNames t; refine (fun (_ : P t.1) => ?_) ?_; (on_goal 2 => (dsimp -zeta only [t]; clear t)); (on_goal 1 => (clear_value t; rename' t => w)))
    | (extract_lets +onlyGivenNames t; clear_value t; rename' t => w)
    | with_reducible refine Closed.foldl _ _ _ (fun _ _ _ => ?_) ?_
    | split

theorem keep_setInhibit (hP : Closed anyField P) (h_0 : ℕ) (s : State) (hs : P s) :
    P (setInhibit h_0 s) := by
  have hR := hP.ofAny.ofSettle
  unfold setInhibit
  repeat' first
    | with_reducible assumption
    | with_reducible refine hP.bump _ _ _ rfl ?_
    | with_reducible refine hP.setMany _ _ _ rfl ?_
    | with_reducible refine keep_recheckWrite hR _ _ ?_
    | with_reducible refine Closed.foldl _ _ _ (fun _ _ _ => ?_) ?_
    | split

theorem keep_microSink (hP : Closed anyField P) (h_0 : ℕ) (dac : ℤ) (age : Option (ℕ × ℕ × ℕ)) (s : State) (hs : P s) :
    P (microSink h_0 dac age s) := by
  have hR := hP.ofAny.ofSettle
  unfold microSink
  repeat' first
    | with_reducible assumption
    | with_reducible refine hP.set _ _ _ _ rfl ?_
    | with_reducible refine hP.setI _ _ _ _ rfl ?_
    | with_reducible refine hP.setMany _ _ _ rfl ?_
    | with_reducible refine keep_linkSend hR _ _ _ ?_
    | with_reducible refine keep_setInhibit hP _ _ ?_
    | (extract_lets +onlyGivenNames t; refine (fun (_ : P t) => ?_) ?_; (on_goal 2 => (dsimp -zeta only [t]; clear t)); (on_goal 1 => (clear_value t; rename' t => w)))
    | (extract_lets +onlyGivenNames t; refine (fun (_ : P t.1) => ?_) ?_; (on_goal 2 => (dsimp -zeta only [t]; clear t)); (on_goal 1 => (clear_value t; rename' t => w)))
    | (extract_lets +onlyGivenNames t; clear_value t; rename' t => w)
    | with_reducible refine Closed.foldl _ _ _ (fun _ _ _ => ?_) ?_
    | split

theorem keep_shiftHistory (hP : Closed anyField P) (a : ℕ) (s : State) (hs : P s) :
    P (shiftHistory a s) := by
  unfold shiftHistory
  repeat' first
    | with_reducible assumption
    | with_reducible refine hP.set _ _ _ _ rfl ?_
    | (extract_lets +onlyGivenNames t; refine (fun (_ : P t) => ?_) ?_; (on_goal 2 => (dsimp -zeta only [t]; clear t)); (on_goal 1 => (clear_value t; rename' t => w)))
    | (extract_lets +onlyGivenNames t; refine (fun (_ : P t.1) => ?_) ?_; (on_goal 2 => (dsimp -zeta only [t]; clear t)); (on_goal 1 => (clear_value t; rename' t => w)))
    | (extract_lets +onlyGivenNames t; clear_value t; rename' t => w)
    | with_reducible refine Closed.foldl _ _ _ (fun _ _ _ => ?_) ?_
    | split

theorem keep_vcmSink (hP : Closed anyField P) (a : ℕ) (dac : ℤ) (s : State) (hs : P s) :
    P (vcmSink a dac s) := by
  unfold vcmSink
  repeat' first
    | with_reducible assumption
    | with_reducible refine hP.set _ _ _ _ rfl ?_
    | with_reducible refine hP.setI _ _ _ _ rfl ?_
    | with_reducible refine hP.setMany _ _ _ rfl ?_
    | with_reducible refine keep_adaptFeed hP _ _ ?_
    | with_reducible refine keep_shiftHistory hP _ _ ?_
    | (extract_lets +onlyGivenNames t; refine (fun (_ : P t) => ?_) ?_; (on_goal 2 => (dsimp -zeta only [t]; clear t)); (on_goal 1 => (clear_value t; rename' t => w)))
    | (extract_lets +onlyGivenNames t; refine (fun (_ : P t.1) => ?_) ?_; (on_goal 2 => (dsimp -zeta only [t]; clear t)); (on_goal 1 => (clear_value t; rename' t => w)))
    | (extract_lets +onlyGivenNames t; clear_value t; rename' t => w)
    | with_reducible refine Closed.foldl _ _ _ (fun _ _ _ => ?_) ?_
    | split

theorem keep_toSink (hP : Closed anyField P) (o : ℕ) (w : ℕ) (v : ℕ) (age : Option (ℕ × ℕ)) (s : State) (hs : P s) :
    P (toSink o w v age s) := by
  have hR := hP.ofAny.ofSettle
  unfold toSink
  dsimp only
  repeat' first
    | with_reducible assumption
    | with_reducible refine hP.set _ _ _ _ rfl ?_
    | with_reducible refine hP.setMany _ _ _ rfl ?_
    | with_reducible refine keep_heaterSink hP _ _ _ _ ?_
    | with_reducible refine keep_microSink hP _ _ _ _ ?_
    | with_reducible refine keep_recordAge hP _ _ _ _ ?_
    | with_reducible refine keep_setTorque hR _ _ ?_
    | with_reducible refine keep_vcmSink hP _ _ _ ?_
    | (extract_lets +onlyGivenNames t; refine (fun (_ : P t) => ?_) ?_; (on_goal 2 => (dsimp -zeta only [t]; clear t)); (on_goal 1 => (clear_value t; rename' t => w)))
    | (extract_lets +onlyGivenNames t; refine (fun (_ : P t.1) => ?_) ?_; (on_goal 2 => (dsimp -zeta only [t]; clear t)); (on_goal 1 => (clear_value t; rename' t => w)))
    | (extract_lets +onlyGivenNames t; clear_value t; rename' t => w)
    | with_reducible refine Closed.foldl _ _ _ (fun _ _ _ => ?_) ?_
    | split


theorem keep_passPort (hP : Closed anyField P) (o : ℕ) (w : ℕ) (v : ℕ) (age : Option (ℕ × ℕ)) (s : State) (hs : P s) :
    P (passPort o w v age s) := by
  unfold passPort
  repeat' first
    | with_reducible assumption
    | with_reducible refine keep_toSink hP _ _ _ _ _ ?_
    | with_reducible refine Closed.foldl _ _ _ (fun _ _ _ => ?_) ?_
    | split

theorem keep_silCapture (hP : Closed anyField P) (u : ℕ) (value : ℕ) (aux : ℕ) (kind : ℕ) (s : State) (hs : P s) :
    P (silCapture u value aux kind s) := by
  have hR := hP.ofAny.ofSettle
  unfold silCapture
  repeat' first
    | with_reducible assumption
    | with_reducible refine hP.bump _ _ _ rfl ?_
    | with_reducible refine hP.dec _ _ _ rfl ?_
    | with_reducible refine hP.set _ _ _ _ rfl ?_
    | with_reducible refine keep_silPut hR _ _ _ _ _ ?_
    | with_reducible refine keep_silTrigger hR _ _ _ ?_
    | (extract_lets +onlyGivenNames t; refine (fun (_ : P t) => ?_) ?_; (on_goal 2 => (dsimp -zeta only [t]; clear t)); (on_goal 1 => (clear_value t; rename' t => w)))
    | (extract_lets +onlyGivenNames t; refine (fun (_ : P t.1) => ?_) ?_; (on_goal 2 => (dsimp -zeta only [t]; clear t)); (on_goal 1 => (clear_value t; rename' t => w)))
    | (extract_lets +onlyGivenNames t; clear_value t; rename' t => w)
    | with_reducible refine Closed.foldl _ _ _ (fun _ _ _ => ?_) ?_
    | split

theorem keep_silWatch (hP : Closed anyField P) (a : ℕ) (v : ℕ) (s : State) (hs : P s) :
    P (silWatch a v s) := by
  unfold silWatch
  repeat' first
    | with_reducible assumption
    | with_reducible refine Closed.forBelow _ _ _ (fun _ _ _ => ?_) ?_
    | with_reducible refine keep_silCapture hP _ _ _ _ _ ?_
    | with_reducible refine Closed.foldl _ _ _ (fun _ _ _ => ?_) ?_
    | split

theorem keep_putPort (hP : Closed anyField P) (o : ℕ) (w : ℕ) (v : ℕ) (s : State) (hs : P s) :
    P (putPort o w v s) := by
  unfold putPort
  repeat' first
    | with_reducible assumption
    | with_reducible refine keep_silWatch hP _ _ _ ?_
    | with_reducible rfl
    | with_reducible exact List.prefix_rfl
    | with_reducible exact le_rfl
    | with_reducible exact fun h => h
    | exact fun h => Memory.wf_writeList _ _ h
    | exact Nat.le_add_right _ _
    | with_reducible exact List.prefix_append _ _
    | with_reducible refine Closed.foldl _ _ _ (fun _ _ _ => ?_) ?_
    | split
    | with_reducible refine hP.build _ ?_ ?_ ?_ ?_

theorem keep_writePort (hP : Closed anyField P) (o : ℕ) (w : ℕ) (v : ℕ) (age : Option (ℕ × ℕ)) (s : State) (hs : P s) :
    P (writePort o w v age s) := by
  unfold writePort
  repeat' first
    | with_reducible assumption
    | with_reducible refine keep_passPort hP _ _ _ _ _ ?_
    | with_reducible refine keep_putPort hP _ _ _ _ ?_
    | with_reducible refine Closed.foldl _ _ _ (fun _ _ _ => ?_) ?_
    | split

theorem keep_applyEntry (hP : Closed anyField P) (age : Option (ℕ × ℕ)) (e : ℕ × ℕ) (s : State) (hs : P s) :
    P (applyEntry age e s) := by
  unfold applyEntry
  repeat' first
    | with_reducible assumption
    | with_reducible refine keep_writePort hP _ _ _ _ _ ?_
    | with_reducible refine Closed.foldl _ _ _ (fun _ _ _ => ?_) ?_
    | split

theorem keep_applyImage (hP : Closed anyField P) (i : AcdImage) (s : State) (hs : P s) :
    P (applyImage i s) := by
  unfold applyImage
  dsimp only
  refine keep_showUnrec hP.ofAny _ (keep_showPass hP.ofAny.ofSettle _ (keep_showZones hP.ofAny _ (Closed.forBelow _ _ _
    (fun p u hu => hP.setMany _ _ _ rfl hu) (Closed.forAll _ _ _ (fun p u hu => hP.setMany _ _ _ rfl hu)
    (hP.set _ _ _ _ rfl (hP.set _ _ _ _ rfl (hP.set _ _ _ _ rfl ?_)))))))
  exact hP.regs (fun _ => rfl) s _ (fun h => h) List.prefix_rfl le_rfl hs


theorem keep_applyLoad (hP : Closed anyField P) (l : ℕ) (ld : LaneLoad) (s : State) (hs : P s) :
    P (applyLoad l ld s) := by
  unfold applyLoad
  refine keep_updateFrange hP _ _ (Closed.forAll _ _ _ (fun g t ht => hP.setBit _ _ _ _ _ rfl ht) ?_)
  exact hP.regs (fun _ => rfl) s _ (fun h => h) List.prefix_rfl le_rfl hs


theorem keep_checkTable (hP : Closed anyField P) (crcOk : Bool) (s : State) (hs : P s) :
    P (checkTable crcOk s) := by
  have hR := hP.ofAny.ofSettle
  unfold checkTable
  repeat' first
    | with_reducible assumption
    | with_reducible refine hP.setMany _ _ _ rfl ?_
    | with_reducible refine keep_pulse hR _ _ _ ?_
    | (extract_lets +onlyGivenNames t; refine (fun (_ : P t) => ?_) ?_; (on_goal 2 => (dsimp -zeta only [t]; clear t)); (on_goal 1 => (clear_value t; rename' t => w)))
    | (extract_lets +onlyGivenNames t; refine (fun (_ : P t.1) => ?_) ?_; (on_goal 2 => (dsimp -zeta only [t]; clear t)); (on_goal 1 => (clear_value t; rename' t => w)))
    | (extract_lets +onlyGivenNames t; clear_value t; rename' t => w)
    | with_reducible refine Closed.foldl _ _ _ (fun _ _ _ => ?_) ?_
    | split

theorem keep_cancelGroup (hP : Closed anyField P) (b : ShBlk) (i : ℕ) (g : ℕ) (s : State) (hs : P s) :
    P (cancelGroup b i g s) := by
  unfold cancelGroup
  repeat' first
    | with_reducible assumption
    | with_reducible refine hP.setBit _ _ _ _ _ rfl ?_
    | with_reducible refine Closed.foldl _ _ _ (fun _ _ _ => ?_) ?_
    | split

theorem keep_groupCommit (hP : Closed anyField P) (b : ShBlk) (i : ℕ) (g : ℕ) (cancel : Bool) (s : State) (hs : P s) :
    P (groupCommit b i g cancel s) := by
  unfold groupCommit
  repeat' first
    | with_reducible assumption
    | with_reducible refine keep_cancelGroup hP _ _ _ _ ?_
    | with_reducible refine keep_commitGroup hP _ _ _ _ ?_
    | with_reducible refine Closed.foldl _ _ _ (fun _ _ _ => ?_) ?_
    | split

theorem keep_commitKind (hP : Closed anyField P) (k : TableKind) (s : State) (hs : P s) :
    P (commitKind k s) := by
  unfold commitKind
  repeat' first
    | with_reducible assumption
    | with_reducible refine keep_groupCommit hP _ _ _ _ _ ?_
    | with_reducible refine Closed.foldl _ _ _ (fun _ _ _ => ?_) ?_
    | split

theorem keep_putBytes (hP : Closed anyField P) (k : TableKind) (d : TableData) (s : State) (hs : P s) :
    P (putBytes k d s) := by
  exact hP.record s _ rfl (fun h => Memory.wf_foldl _ _ _ (fun _ _ => Memory.wf_write _ _) (Memory.wf_clear _ h)) List.prefix_rfl le_rfl hs


theorem keep_loadKind (hP : Closed anyField P) (k : TableKind) (d : TableData) (s : State) (hs : P s) :
    P (loadKind k d s) := by
  unfold loadKind
  dsimp only
  split
  · exact keep_commitKind hP _ _ (hP.record s _ rfl (fun h => h) List.prefix_rfl le_rfl hs)
  · exact hP.record s _ rfl (fun h => h) List.prefix_rfl le_rfl hs
  · exact keep_putBytes hP _ _ _ hs
  · exact keep_checkTable hP _ _ (keep_putBytes hP _ _ _ hs)
  · exact keep_commitKind hP _ _ (hP.regs (fun _ => rfl) s _ (fun h => h) List.prefix_rfl le_rfl hs)


theorem keep_applyMedia (hP : Closed anyField P) (s : State) (hs : P s) :
    P (applyMedia s) := by
  unfold applyMedia
  repeat' first
    | with_reducible assumption
    | with_reducible refine Closed.forAll _ _ _ (fun _ _ _ => ?_) ?_
    | with_reducible refine keep_loadKind hP _ _ _ ?_
    | with_reducible rfl
    | with_reducible exact List.prefix_rfl
    | with_reducible exact le_rfl
    | with_reducible exact fun h => h
    | exact fun h => Memory.wf_writeList _ _ h
    | exact Nat.le_add_right _ _
    | with_reducible exact List.prefix_append _ _
    | with_reducible refine Closed.foldl _ _ _ (fun _ _ _ => ?_) ?_
    | split
    | with_reducible refine hP.build _ ?_ ?_ ?_ ?_

theorem keep_applyNor (hP : Closed anyField P) (s : State) (hs : P s) :
    P (applyNor s) := by
  unfold applyNor
  repeat' first
    | with_reducible assumption
    | with_reducible refine Closed.forAll _ _ _ (fun _ _ _ => ?_) ?_
    | with_reducible refine keep_loadKind hP _ _ _ ?_
    | with_reducible rfl
    | with_reducible exact List.prefix_rfl
    | with_reducible exact le_rfl
    | with_reducible exact fun h => h
    | exact fun h => Memory.wf_writeList _ _ h
    | exact Nat.le_add_right _ _
    | with_reducible exact List.prefix_append _ _
    | with_reducible refine Closed.foldl _ _ _ (fun _ _ _ => ?_) ?_
    | split
    | with_reducible refine hP.build _ ?_ ?_ ?_ ?_

theorem keep_applyVoltage (hP : Closed anyField P) (vbus : ℕ) (s : State) (hs : P s) :
    P (applyVoltage vbus s) := by
  unfold applyVoltage
  repeat' first
    | with_reducible assumption
    | with_reducible refine hP.set _ _ _ _ rfl ?_
    | with_reducible refine hP.setI _ _ _ _ rfl ?_
    | with_reducible refine hP.used _ ?_
    | with_reducible refine keep_recordAge hP _ _ _ _ ?_
    | (extract_lets +onlyGivenNames t; refine (fun (_ : P t) => ?_) ?_; (on_goal 2 => (dsimp -zeta only [t]; clear t)); (on_goal 1 => (clear_value t; rename' t => w)))
    | (extract_lets +onlyGivenNames t; refine (fun (_ : P t.1) => ?_) ?_; (on_goal 2 => (dsimp -zeta only [t]; clear t)); (on_goal 1 => (clear_value t; rename' t => w)))
    | (extract_lets +onlyGivenNames t; clear_value t; rename' t => w)
    | with_reducible refine Closed.foldl _ _ _ (fun _ _ _ => ?_) ?_
    | split

theorem keep_updateDefect (hP : Closed anyField P) (l : ℕ) (s : State) (hs : P s) :
    P (updateDefect l s) := by
  unfold updateDefect
  repeat' first
    | with_reducible assumption
    | with_reducible refine hP.set _ _ _ _ rfl ?_
    | with_reducible refine Closed.foldl _ _ _ (fun _ _ _ => ?_) ?_
    | split

theorem keep_asperityFlag (hP : Closed anyField P) (l : ℕ) (x : List ℤ) (s : State) (hs : P s) :
    P (asperityFlag l x s) := by
  have hS := hP.ofAny
  unfold asperityFlag
  repeat' first
    | with_reducible assumption
    | with_reducible refine hP.bump _ _ _ rfl ?_
    | with_reducible refine hP.setMany _ _ _ rfl ?_
    | with_reducible refine keep_openSpan hS _ _ _ _ ?_
    | with_reducible refine keep_updateDefect hP _ _ ?_
    | with_reducible refine Closed.foldl _ _ _ (fun _ _ _ => ?_) ?_
    | split

theorem keep_upFrame (hP : Closed anyField P) (addr : ℕ) (f : State → State) (s : State) (hf : ∀ y0, P y0 → P (f y0)) (hs : P s) :
    P (upFrame addr f s) := by
  have hR := hP.ofAny.ofSettle
  unfold upFrame
  repeat' first
    | with_reducible assumption
    | refine hf _ ?_
    | with_reducible refine hP.bump _ _ _ rfl ?_
    | with_reducible refine keep_lower hR _ _ _ ?_
    | (extract_lets +onlyGivenNames t; refine (fun (_ : P t) => ?_) ?_; (on_goal 2 => (dsimp -zeta only [t]; clear t)); (on_goal 1 => (clear_value t; rename' t => w)))
    | (extract_lets +onlyGivenNames t; refine (fun (_ : P t.1) => ?_) ?_; (on_goal 2 => (dsimp -zeta only [t]; clear t)); (on_goal 1 => (clear_value t; rename' t => w)))
    | (extract_lets +onlyGivenNames t; clear_value t; rename' t => w)
    | with_reducible refine Closed.foldl _ _ _ (fun _ _ _ => ?_) ?_
    | split

theorem keep_upRequest (hP : Closed anyField P) (addr : ℕ) (typ : ℕ) (seq : ℕ) (act : State → State × List (BitVec 8)) (s : State) (hact : ∀ y0, P y0 → P (act y0).1) (hs : P s) :
    P (upRequest addr typ seq act s) := by
  have hR := hP.ofAny.ofSettle
  unfold upRequest
  repeat' first
    | with_reducible assumption
    | refine hact _ ?_
    | with_reducible refine hP.emit _ _ ?_
    | with_reducible refine hP.set _ _ _ _ rfl ?_
    | with_reducible refine keep_reply hR _ _ _ _ ?_
    | with_reducible refine keep_upFrame hP _ _ _ (fun _ _ => ?_) ?_
    | (extract_lets +onlyGivenNames t; refine (fun (_ : P t) => ?_) ?_; (on_goal 2 => (dsimp -zeta only [t]; clear t)); (on_goal 1 => (clear_value t; rename' t => w)))
    | (extract_lets +onlyGivenNames t; refine (fun (_ : P t.1) => ?_) ?_; (on_goal 2 => (dsimp -zeta only [t]; clear t)); (on_goal 1 => (clear_value t; rename' t => w)))
    | (extract_lets +onlyGivenNames t; clear_value t; rename' t => w)
    | with_reducible refine Closed.foldl _ _ _ (fun _ _ _ => ?_) ?_
    | split

theorem keep_assign (hP : Closed anyField P) (eui : ℕ) (addr : ℕ) (pod : ℕ) (level : ℕ) (seq : ℕ) (s : State) (hs : P s) :
    P (assign eui addr pod level seq s) := by
  unfold assign
  repeat' first
    | with_reducible assumption
    | with_reducible refine hP.setMany _ _ _ rfl ?_
    | with_reducible refine keep_upFrame hP _ _ _ (fun _ _ => ?_) ?_
    | with_reducible refine keep_upRequest hP _ _ _ _ _ (fun _ _ => ?_) ?_
    | with_reducible refine Closed.foldl _ _ _ (fun _ _ _ => ?_) ?_
    | split

theorem keep_avsRequest (hP : Closed anyField P) (mv : ℕ) (responds : Bool) (s : State) (hs : P s) :
    P (avsRequest mv responds s) := by
  unfold avsRequest
  repeat' first
    | with_reducible assumption
    | with_reducible refine hP.setMany _ _ _ rfl ?_
    | (extract_lets +onlyGivenNames t; refine (fun (_ : P t) => ?_) ?_; (on_goal 2 => (dsimp -zeta only [t]; clear t)); (on_goal 1 => (clear_value t; rename' t => w)))
    | (extract_lets +onlyGivenNames t; refine (fun (_ : P t.1) => ?_) ?_; (on_goal 2 => (dsimp -zeta only [t]; clear t)); (on_goal 1 => (clear_value t; rename' t => w)))
    | (extract_lets +onlyGivenNames t; clear_value t; rename' t => w)
    | with_reducible refine Closed.foldl _ _ _ (fun _ _ _ => ?_) ?_
    | split

theorem keep_writeLine (hP : Closed anyField P) (line : ℕ) (off : ℕ) (data : List (BitVec 8)) (errs : List ByteErr) (s : State) (hs : P s) :
    P (writeLine line off data errs s) := by
  have hS := hP.ofAny
  unfold writeLine
  dsimp only
  repeat' first
    | with_reducible assumption
    | with_reducible refine keep_cleanLine hS _ _ ?_
    | with_reducible refine keep_dropEntry hS _ _ ?_
    | with_reducible refine keep_flushEntry hS _ _ _ ?_
    | with_reducible refine keep_showMerge hS _ ?_
    | (extract_lets +onlyGivenNames t; refine (fun (_ : P t) => ?_) ?_; (on_goal 2 => (dsimp -zeta only [t]; clear t)); (on_goal 1 => (clear_value t; rename' t => w)))
    | (extract_lets +onlyGivenNames t; refine (fun (_ : P t.1) => ?_) ?_; (on_goal 2 => (dsimp -zeta only [t]; clear t)); (on_goal 1 => (clear_value t; rename' t => w)))
    | (extract_lets +onlyGivenNames t; clear_value t; rename' t => w)
    | with_reducible rfl
    | with_reducible exact List.prefix_rfl
    | with_reducible exact le_rfl
    | with_reducible exact fun h => h
    | exact fun h => Memory.wf_writeList _ _ h
    | exact Nat.le_add_right _ _
    | with_reducible exact List.prefix_append _ _
    | with_reducible refine Closed.foldl _ _ _ (fun _ _ _ => ?_) ?_
    | split
    | with_reducible refine hP.build _ ?_ ?_ ?_ ?_


theorem keep_writeLines (hP : Closed anyField P) (o : ℕ) (errs : List ByteErr) (a : ℕ) (a3 : List (BitVec 8)) (a4 : State) (ha4 : P a4) :
    P (writeLines o errs a a3 a4) := by
  induction a generalizing o a3 a4 with
  | zero => exact ha4
  | succ k ih =>
    unfold writeLines
    split
    · exact ha4
    · exact ih _ _ _ (keep_writeLine hP _ _ _ _ _ ha4)


theorem keep_storeData (hP : Closed anyField P) (o : ℕ) (data : List (BitVec 8)) (errs : List ByteErr) (s : State) (hs : P s) :
    P (storeData o data errs s) := by
  unfold storeData
  repeat' first
    | with_reducible assumption
    | with_reducible refine hP.set _ _ _ _ rfl ?_
    | with_reducible refine keep_writeLines hP _ _ _ _ _ ?_
    | (extract_lets +onlyGivenNames t; refine (fun (_ : P t) => ?_) ?_; (on_goal 2 => (dsimp -zeta only [t]; clear t)); (on_goal 1 => (clear_value t; rename' t => w)))
    | (extract_lets +onlyGivenNames t; refine (fun (_ : P t.1) => ?_) ?_; (on_goal 2 => (dsimp -zeta only [t]; clear t)); (on_goal 1 => (clear_value t; rename' t => w)))
    | (extract_lets +onlyGivenNames t; clear_value t; rename' t => w)
    | with_reducible rfl
    | with_reducible exact List.prefix_rfl
    | with_reducible exact le_rfl
    | with_reducible exact fun h => h
    | exact fun h => Memory.wf_writeList _ _ h
    | exact Nat.le_add_right _ _
    | with_reducible exact List.prefix_append _ _
    | with_reducible refine Closed.foldl _ _ _ (fun _ _ _ => ?_) ?_
    | split
    | with_reducible refine hP.build _ ?_ ?_ ?_ ?_

theorem keep_backgroundFillPage (hP : Closed anyField P) (s : State) (hs : P s) :
    P (backgroundFillPage s) := by
  unfold backgroundFillPage
  repeat' first
    | with_reducible assumption
    | with_reducible refine hP.setMany _ _ _ rfl ?_
    | with_reducible refine keep_storeData hP _ _ _ _ ?_
    | (extract_lets +onlyGivenNames t; refine (fun (_ : P t) => ?_) ?_; (on_goal 2 => (dsimp -zeta only [t]; clear t)); (on_goal 1 => (clear_value t; rename' t => w)))
    | (extract_lets +onlyGivenNames t; refine (fun (_ : P t.1) => ?_) ?_; (on_goal 2 => (dsimp -zeta only [t]; clear t)); (on_goal 1 => (clear_value t; rename' t => w)))
    | (extract_lets +onlyGivenNames t; clear_value t; rename' t => w)
    | with_reducible rfl
    | with_reducible exact List.prefix_rfl
    | with_reducible exact le_rfl
    | with_reducible exact fun h => h
    | exact fun h => Memory.wf_writeList _ _ h
    | exact Nat.le_add_right _ _
    | with_reducible exact List.prefix_append _ _
    | with_reducible refine Closed.foldl _ _ _ (fun _ _ _ => ?_) ?_
    | split
    | with_reducible refine hP.build _ ?_ ?_ ?_ ?_

theorem keep_doorbellError (hP : Closed anyField P) (e : NvEvent) (s : State) (hs : P s) :
    P (doorbellError e s) := by
  have hR := hP.ofAny.ofSettle
  unfold doorbellError
  repeat' first
    | with_reducible assumption
    | with_reducible refine hP.bump _ _ _ rfl ?_
    | with_reducible refine keep_pulse hR _ _ _ ?_
    | with_reducible refine keep_raiseEvent hR _ _ ?_
    | with_reducible refine Closed.foldl _ _ _ (fun _ _ _ => ?_) ?_
    | split

theorem keep_cqHead (hP : Closed anyField P) (y : ℕ) (v : ℕ) (s : State) (hs : P s) :
    P (cqHead y v s) := by
  have hR := hP.ofAny.ofSettle
  unfold cqHead
  repeat' first
    | with_reducible assumption
    | with_reducible refine keep_doorbellError hP _ _ ?_
    | with_reducible refine keep_updateInta hR _ ?_
    | with_reducible rfl
    | with_reducible exact List.prefix_rfl
    | with_reducible exact le_rfl
    | with_reducible exact fun h => h
    | exact fun h => Memory.wf_writeList _ _ h
    | exact Nat.le_add_right _ _
    | with_reducible exact List.prefix_append _ _
    | with_reducible refine Closed.foldl _ _ _ (fun _ _ _ => ?_) ?_
    | split
    | with_reducible refine hP.build _ ?_ ?_ ?_ ?_

theorem keep_msixUnmask (hP : Closed anyField P) (v : ℕ) (s : State) (hs : P s) :
    P (msixUnmask v s) := by
  have hR := hP.ofAny.ofSettle
  unfold msixUnmask
  repeat' first
    | with_reducible assumption
    | with_reducible refine hP.set _ _ _ _ rfl ?_
    | with_reducible refine keep_sendPending hR _ ?_
    | with_reducible refine Closed.foldl _ _ _ (fun _ _ _ => ?_) ?_
    | split

theorem keep_msixWrite (hP : Closed anyField P) (off : ℕ) (v : ℕ) (s : State) (hs : P s) :
    P (msixWrite off v s) := by
  unfold msixWrite
  repeat' first
    | with_reducible assumption
    | with_reducible refine hP.set _ _ _ _ rfl ?_
    | with_reducible refine keep_msixUnmask hP _ _ ?_
    | (extract_lets +onlyGivenNames t; refine (fun (_ : P t) => ?_) ?_; (on_goal 2 => (dsimp -zeta only [t]; clear t)); (on_goal 1 => (clear_value t; rename' t => w)))
    | (extract_lets +onlyGivenNames t; refine (fun (_ : P t.1) => ?_) ?_; (on_goal 2 => (dsimp -zeta only [t]; clear t)); (on_goal 1 => (clear_value t; rename' t => w)))
    | (extract_lets +onlyGivenNames t; clear_value t; rename' t => w)
    | with_reducible refine Closed.foldl _ _ _ (fun _ _ _ => ?_) ?_
    | split

theorem keep_defaultFeatures (hP : Closed anyField P) (s : State) (hs : P s) :
    P (defaultFeatures s) := by
  unfold defaultFeatures
  repeat' first
    | with_reducible assumption
    | with_reducible refine hP.unset _ _ _ rfl ?_
    | with_reducible refine Closed.forBelow _ _ _ (fun _ _ _ => ?_) ?_
    | with_reducible refine Closed.foldl _ _ _ (fun _ _ _ => ?_) ?_
    | split

theorem keep_discardCmds (hP : Closed anyField P) (s : State) (hs : P s) :
    P (discardCmds s) := by
  have hS := hP.ofAny
  unfold discardCmds
  repeat' first
    | with_reducible assumption
    | with_reducible refine hP.add _ _ _ _ rfl ?_
    | with_reducible refine keep_State_setZone hS _ _ _ ?_
    | with_reducible refine keep_raDrop hS _ ?_
    | with_reducible refine keep_returnAccept hS _ _ _ ?_
    | (extract_lets +onlyGivenNames t; refine (fun (_ : P t) => ?_) ?_; (on_goal 2 => (dsimp -zeta only [t]; clear t)); (on_goal 1 => (clear_value t; rename' t => w)))
    | (extract_lets +onlyGivenNames t; refine (fun (_ : P t.1) => ?_) ?_; (on_goal 2 => (dsimp -zeta only [t]; clear t)); (on_goal 1 => (clear_value t; rename' t => w)))
    | (extract_lets +onlyGivenNames t; clear_value t; rename' t => w)
    | with_reducible rfl
    | with_reducible exact List.prefix_rfl
    | with_reducible exact le_rfl
    | with_reducible exact fun h => h
    | exact fun h => Memory.wf_writeList _ _ h
    | exact Nat.le_add_right _ _
    | with_reducible exact List.prefix_append _ _
    | with_reducible refine Closed.foldl _ _ _ (fun _ _ _ => ?_) ?_
    | split
    | with_reducible refine hP.build _ ?_ ?_ ?_ ?_

theorem keep_startActivation (hP : Closed anyField P) (s : State) (hs : P s) :
    P (startActivation s) := by
  have hR := hP.ofAny.ofSettle
  unfold startActivation
  repeat' first
    | with_reducible assumption
    | with_reducible refine hP.setMany _ _ _ rfl ?_
    | with_reducible refine keep_raiseEvent hR _ _ ?_
    | with_reducible refine Closed.foldl _ _ _ (fun _ _ _ => ?_) ?_
    | split

theorem keep_nvqReset (hP : Closed anyField P) (s : State) (hs : P s) :
    P (nvqReset s) := by
  unfold nvqReset
  repeat' first
    | with_reducible assumption
    | with_reducible refine hP.set _ _ _ _ rfl ?_
    | with_reducible refine hP.setBit _ _ _ _ _ rfl ?_
    | with_reducible refine hP.setMany _ _ _ rfl ?_
    | with_reducible refine keep_defaultFeatures hP _ ?_
    | with_reducible refine keep_discardCmds hP _ ?_
    | with_reducible refine Closed.forBelow _ _ _ (fun _ _ _ => ?_) ?_
    | with_reducible refine keep_startActivation hP _ ?_
    | (extract_lets +onlyGivenNames t; refine (fun (_ : P t) => ?_) ?_; (on_goal 2 => (dsimp -zeta only [t]; clear t)); (on_goal 1 => (clear_value t; rename' t => w)))
    | (extract_lets +onlyGivenNames t; refine (fun (_ : P t.1) => ?_) ?_; (on_goal 2 => (dsimp -zeta only [t]; clear t)); (on_goal 1 => (clear_value t; rename' t => w)))
    | (extract_lets +onlyGivenNames t; clear_value t; rename' t => w)
    | with_reducible rfl
    | with_reducible exact List.prefix_rfl
    | with_reducible exact le_rfl
    | with_reducible exact fun h => h
    | exact fun h => Memory.wf_writeList _ _ h
    | exact Nat.le_add_right _ _
    | with_reducible exact List.prefix_append _ _
    | with_reducible refine Closed.foldl _ _ _ (fun _ _ _ => ?_) ?_
    | split
    | with_reducible refine hP.build _ ?_ ?_ ?_ ?_

theorem keep_nvmSubsystemReset (hP : Closed anyField P) (s : State) (hs : P s) :
    P (nvmSubsystemReset s) := by
  unfold nvmSubsystemReset
  repeat' first
    | with_reducible assumption
    | with_reducible refine hP.set _ _ _ _ rfl ?_
    | with_reducible refine keep_nvqReset hP _ ?_
    | with_reducible refine Closed.foldl _ _ _ (fun _ _ _ => ?_) ?_
    | split

theorem keep_endFreeze (hP : Closed anyField P) (s : State) (hs : P s) :
    P (endFreeze s) := by
  have hS := hP.ofAny
  unfold endFreeze
  repeat' first
    | with_reducible assumption
    | with_reducible refine hP.add _ _ _ _ rfl ?_
    | with_reducible refine hP.setMany _ _ _ rfl ?_
    | with_reducible refine Closed.forAll _ _ _ (fun _ _ _ => ?_) ?_
    | with_reducible refine keep_rollback hS _ _ _ ?_
    | with_reducible refine keep_showTags hS _ ?_
    | (extract_lets +onlyGivenNames t; refine (fun (_ : P t) => ?_) ?_; (on_goal 2 => (dsimp -zeta only [t]; clear t)); (on_goal 1 => (clear_value t; rename' t => w)))
    | (extract_lets +onlyGivenNames t; refine (fun (_ : P t.1) => ?_) ?_; (on_goal 2 => (dsimp -zeta only [t]; clear t)); (on_goal 1 => (clear_value t; rename' t => w)))
    | (extract_lets +onlyGivenNames t; clear_value t; rename' t => w)
    | with_reducible rfl
    | with_reducible exact List.prefix_rfl
    | with_reducible exact le_rfl
    | with_reducible exact fun h => h
    | exact fun h => Memory.wf_writeList _ _ h
    | exact Nat.le_add_right _ _
    | with_reducible exact List.prefix_append _ _
    | with_reducible refine Closed.foldl _ _ _ (fun _ _ _ => ?_) ?_
    | split
    | with_reducible refine hP.build _ ?_ ?_ ?_ ?_

theorem keep_ccDisable (hP : Closed anyField P) (s : State) (hs : P s) :
    P (ccDisable s) := by
  unfold ccDisable
  repeat' first
    | with_reducible assumption
    | with_reducible refine keep_endFreeze hP _ ?_
    | with_reducible refine keep_nvqReset hP _ ?_
    | (extract_lets +onlyGivenNames t; refine (fun (_ : P t) => ?_) ?_; (on_goal 2 => (dsimp -zeta only [t]; clear t)); (on_goal 1 => (clear_value t; rename' t => w)))
    | (extract_lets +onlyGivenNames t; refine (fun (_ : P t.1) => ?_) ?_; (on_goal 2 => (dsimp -zeta only [t]; clear t)); (on_goal 1 => (clear_value t; rename' t => w)))
    | (extract_lets +onlyGivenNames t; clear_value t; rename' t => w)
    | with_reducible refine Closed.foldl _ _ _ (fun _ _ _ => ?_) ?_
    | split

theorem keep_takeEnable (hP : Closed anyField P) (s : State) (hs : P s) :
    P (takeEnable s) := by
  unfold takeEnable
  split
  · exact hP.setMany _ _ _ rfl hs
  · exact hP.record (s.set NVQ_EN 0 1) _ rfl (fun h => h) List.prefix_rfl le_rfl (hP.set _ _ _ _ rfl hs)


theorem keep_ccEnable (hP : Closed anyField P) (v : ℕ) (s : State) (hs : P s) :
    P (ccEnable v s) := by
  unfold ccEnable
  repeat' first
    | with_reducible assumption
    | with_reducible refine hP.set _ _ _ _ rfl ?_
    | with_reducible refine keep_takeEnable hP _ ?_
    | (extract_lets +onlyGivenNames t; refine (fun (_ : P t) => ?_) ?_; (on_goal 2 => (dsimp -zeta only [t]; clear t)); (on_goal 1 => (clear_value t; rename' t => w)))
    | (extract_lets +onlyGivenNames t; refine (fun (_ : P t.1) => ?_) ?_; (on_goal 2 => (dsimp -zeta only [t]; clear t)); (on_goal 1 => (clear_value t; rename' t => w)))
    | (extract_lets +onlyGivenNames t; clear_value t; rename' t => w)
    | with_reducible refine Closed.foldl _ _ _ (fun _ _ _ => ?_) ?_
    | split

theorem keep_shutdownAbrupt (hP : Closed anyField P) (s : State) (hs : P s) :
    P (shutdownAbrupt s) := by
  unfold shutdownAbrupt
  repeat' first
    | with_reducible assumption
    | with_reducible refine hP.setMany _ _ _ rfl ?_
    | with_reducible refine keep_discardCmds hP _ ?_
    | with_reducible refine Closed.foldl _ _ _ (fun _ _ _ => ?_) ?_
    | split

theorem keep_shutdownNormal (hP : Closed anyField P) (s : State) (hs : P s) :
    P (shutdownNormal s) := by
  unfold shutdownNormal
  repeat' first
    | with_reducible assumption
    | with_reducible refine hP.setMany _ _ _ rfl ?_
    | with_reducible refine Closed.foldl _ _ _ (fun _ _ _ => ?_) ?_
    | split

theorem keep_writeCc (hP : Closed anyField P) (v : ℕ) (s : State) (hs : P s) :
    P (writeCc v s) := by
  unfold writeCc
  repeat' first
    | with_reducible assumption
    | with_reducible refine hP.set _ _ _ _ rfl ?_
    | with_reducible refine keep_ccDisable hP _ ?_
    | with_reducible refine keep_ccEnable hP _ _ ?_
    | with_reducible refine keep_shutdownAbrupt hP _ ?_
    | with_reducible refine keep_shutdownNormal hP _ ?_
    | (extract_lets +onlyGivenNames t; refine (fun (_ : P t) => ?_) ?_; (on_goal 2 => (dsimp -zeta only [t]; clear t)); (on_goal 1 => (clear_value t; rename' t => w)))
    | (extract_lets +onlyGivenNames t; refine (fun (_ : P t.1) => ?_) ?_; (on_goal 2 => (dsimp -zeta only [t]; clear t)); (on_goal 1 => (clear_value t; rename' t => w)))
    | (extract_lets +onlyGivenNames t; clear_value t; rename' t => w)
    | with_reducible refine Closed.foldl _ _ _ (fun _ _ _ => ?_) ?_
    | split

theorem keep_nvmeWrite (hP : Closed anyField P) (off : ℕ) (v : ℕ) (s : State) (hs : P s) :
    P (nvmeWrite off v s) := by
  have hR := hP.ofAny.ofSettle
  unfold nvmeWrite
  dsimp only
  repeat' first
    | with_reducible assumption
    | with_reducible refine hP.set _ _ _ _ rfl ?_
    | with_reducible refine keep_nvmSubsystemReset hP _ ?_
    | with_reducible refine keep_updateInta hR _ ?_
    | with_reducible refine keep_writeCc hP _ _ ?_
    | (extract_lets +onlyGivenNames t; refine (fun (_ : P t) => ?_) ?_; (on_goal 2 => (dsimp -zeta only [t]; clear t)); (on_goal 1 => (clear_value t; rename' t => w)))
    | (extract_lets +onlyGivenNames t; refine (fun (_ : P t.1) => ?_) ?_; (on_goal 2 => (dsimp -zeta only [t]; clear t)); (on_goal 1 => (clear_value t; rename' t => w)))
    | (extract_lets +onlyGivenNames t; clear_value t; rename' t => w)
    | with_reducible refine Closed.foldl _ _ _ (fun _ _ _ => ?_) ?_
    | split


theorem keep_sqTail (hP : Closed anyField P) (y : ℕ) (v : ℕ) (s : State) (hs : P s) :
    P (sqTail y v s) := by
  unfold sqTail
  repeat' first
    | with_reducible assumption
    | with_reducible refine keep_doorbellError hP _ _ ?_
    | with_reducible rfl
    | with_reducible exact List.prefix_rfl
    | with_reducible exact le_rfl
    | with_reducible exact fun h => h
    | exact fun h => Memory.wf_writeList _ _ h
    | exact Nat.le_add_right _ _
    | with_reducible exact List.prefix_append _ _
    | with_reducible refine Closed.foldl _ _ _ (fun _ _ _ => ?_) ?_
    | split
    | with_reducible refine hP.build _ ?_ ?_ ?_ ?_

theorem keep_fwClear (hP : Closed anyField P) (s : State) (hs : P s) :
    P (fwClear s) := by
  unfold fwClear
  repeat' first
    | with_reducible assumption
    | with_reducible refine hP.set _ _ _ _ rfl ?_
    | with_reducible refine Closed.forBelow _ _ _ (fun _ _ _ => ?_) ?_
    | with_reducible refine Closed.foldl _ _ _ (fun _ _ _ => ?_) ?_
    | split

theorem keep_claikSend (hP : Closed anyField P) (addr : ℕ) (typ : ℕ) (payload : List (BitVec 8)) (s : State) (hs : P s) :
    P (claikSend addr typ payload s) := by
  have hR := hP.ofAny.ofSettle
  unfold claikSend
  repeat' first
    | with_reducible assumption
    | with_reducible refine hP.bump _ _ _ rfl ?_
    | with_reducible refine keep_sendFront hR _ ?_
    | (extract_lets +onlyGivenNames t; refine (fun (_ : P t) => ?_) ?_; (on_goal 2 => (dsimp -zeta only [t]; clear t)); (on_goal 1 => (clear_value t; rename' t => w)))
    | (extract_lets +onlyGivenNames t; refine (fun (_ : P t.1) => ?_) ?_; (on_goal 2 => (dsimp -zeta only [t]; clear t)); (on_goal 1 => (clear_value t; rename' t => w)))
    | (extract_lets +onlyGivenNames t; clear_value t; rename' t => w)
    | with_reducible rfl
    | with_reducible exact List.prefix_rfl
    | with_reducible exact le_rfl
    | with_reducible exact fun h => h
    | exact fun h => Memory.wf_writeList _ _ h
    | exact Nat.le_add_right _ _
    | with_reducible exact List.prefix_append _ _
    | with_reducible refine Closed.foldl _ _ _ (fun _ _ _ => ?_) ?_
    | split
    | with_reducible refine hP.build _ ?_ ?_ ?_ ?_

theorem keep_fwServe (hP : Closed anyField P) (n : ℕ) (s : State) (hs : P s) :
    P (fwServe n s) := by
  have hS := hP.ofAny
  unfold fwServe
  repeat' first
    | with_reducible assumption
    | with_reducible refine hP.set _ _ _ _ rfl ?_
    | with_reducible refine keep_claikSend hP _ _ _ _ ?_
    | with_reducible refine keep_peerSend hS _ _ _ _ _ _ _ ?_
    | (extract_lets +onlyGivenNames t; refine (fun (_ : P t) => ?_) ?_; (on_goal 2 => (dsimp -zeta only [t]; clear t)); (on_goal 1 => (clear_value t; rename' t => w)))
    | (extract_lets +onlyGivenNames t; refine (fun (_ : P t.1) => ?_) ?_; (on_goal 2 => (dsimp -zeta only [t]; clear t)); (on_goal 1 => (clear_value t; rename' t => w)))
    | (extract_lets +onlyGivenNames t; clear_value t; rename' t => w)
    | with_reducible refine Closed.foldl _ _ _ (fun _ _ _ => ?_) ?_
    | split

theorem keep_fwStep (hP : Closed anyField P) (s : State) (hs : P s) :
    P (fwStep s) := by
  unfold fwStep
  repeat' first
    | with_reducible assumption
    | with_reducible refine hP.set _ _ _ _ rfl ?_
    | with_reducible refine keep_fwClear hP _ ?_
    | with_reducible refine keep_fwServe hP _ _ ?_
    | (extract_lets +onlyGivenNames t; refine (fun (_ : P t) => ?_) ?_; (on_goal 2 => (dsimp -zeta only [t]; clear t)); (on_goal 1 => (clear_value t; rename' t => w)))
    | (extract_lets +onlyGivenNames t; refine (fun (_ : P t.1) => ?_) ?_; (on_goal 2 => (dsimp -zeta only [t]; clear t)); (on_goal 1 => (clear_value t; rename' t => w)))
    | (extract_lets +onlyGivenNames t; clear_value t; rename' t => w)
    | with_reducible refine Closed.foldl _ _ _ (fun _ _ _ => ?_) ?_
    | split

theorem keep_markPlaced (hP : Closed anyField P) (z : ℕ) (r : ℕ) (pos : ℕ) (s : State) (hs : P s) :
    P (markPlaced z r pos s) := by
  have hS := hP.ofAny
  unfold markPlaced
  repeat' first
    | with_reducible assumption
    | with_reducible refine hP.bump _ _ _ rfl ?_
    | with_reducible refine keep_State_modSegs hS _ _ ?_
    | with_reducible refine keep_freeBands hS _ ?_
    | (extract_lets +onlyGivenNames t; refine (fun (_ : P t) => ?_) ?_; (on_goal 2 => (dsimp -zeta only [t]; clear t)); (on_goal 1 => (clear_value t; rename' t => w)))
    | (extract_lets +onlyGivenNames t; refine (fun (_ : P t.1) => ?_) ?_; (on_goal 2 => (dsimp -zeta only [t]; clear t)); (on_goal 1 => (clear_value t; rename' t => w)))
    | (extract_lets +onlyGivenNames t; clear_value t; rename' t => w)
    | with_reducible rfl
    | with_reducible exact List.prefix_rfl
    | with_reducible exact le_rfl
    | with_reducible exact fun h => h
    | exact fun h => Memory.wf_writeList _ _ h
    | exact Nat.le_add_right _ _
    | with_reducible exact List.prefix_append _ _
    | with_reducible refine Closed.foldl _ _ _ (fun _ _ _ => ?_) ?_
    | split
    | with_reducible refine hP.build _ ?_ ?_ ?_ ?_

theorem keep_peerFailed (hP : Closed anyField P) (p : PeerCmd) (st : ℕ) (s : State) (hs : P s) :
    P (peerFailed p st s) := by
  have hS := hP.ofAny
  have hR := hP.ofAny.ofSettle
  unfold peerFailed
  repeat' first
    | with_reducible assumption
    | with_reducible refine hP.addSat _ _ _ _ rfl ?_
    | with_reducible refine keep_fetchFailed hS _ _ _ _ _ _ _ ?_
    | with_reducible refine keep_finishByController hS _ _ _ ?_
    | with_reducible refine keep_peerSend hS _ _ _ _ _ _ _ ?_
    | with_reducible refine keep_pulse hR _ _ _ ?_
    | with_reducible refine keep_unitSend hS _ _ _ _ _ _ ?_
    | (extract_lets +onlyGivenNames t; refine (fun (_ : P t) => ?_) ?_; (on_goal 2 => (dsimp -zeta only [t]; clear t)); (on_goal 1 => (clear_value t; rename' t => w)))
    | (extract_lets +onlyGivenNames t; refine (fun (_ : P t.1) => ?_) ?_; (on_goal 2 => (dsimp -zeta only [t]; clear t)); (on_goal 1 => (clear_value t; rename' t => w)))
    | (extract_lets +onlyGivenNames t; clear_value t; rename' t => w)
    | with_reducible rfl
    | with_reducible exact List.prefix_rfl
    | with_reducible exact le_rfl
    | with_reducible exact fun h => h
    | exact fun h => Memory.wf_writeList _ _ h
    | exact Nat.le_add_right _ _
    | with_reducible exact List.prefix_append _ _
    | with_reducible refine Closed.foldl _ _ _ (fun _ _ _ => ?_) ?_
    | split
    | with_reducible refine hP.build _ ?_ ?_ ?_ ?_

theorem keep_setupNext (hP : Closed anyField P) (slot : ℕ) (step : ℕ) (s : State) (hs : P s) :
    P (setupNext slot step s) := by
  have hS := hP.ofAny
  unfold setupNext
  repeat' first
    | with_reducible assumption
    | with_reducible refine hP.emit _ _ ?_
    | with_reducible refine hP.set _ _ _ _ rfl ?_
    | with_reducible refine keep_peerSend hS _ _ _ _ _ _ _ ?_
    | with_reducible refine Closed.foldl _ _ _ (fun _ _ _ => ?_) ?_
    | split

theorem keep_peerDone (hP : Closed anyField P) (p : PeerCmd) (st : ℕ) (s : State) (hs : P s) :
    P (peerDone p st s) := by
  have hS := hP.ofAny
  unfold peerDone
  repeat' first
    | with_reducible assumption
    | with_reducible refine keep_State_modOp hS _ _ _ ?_
    | with_reducible refine hP.used _ ?_
    | with_reducible refine keep_endOp hS _ _ ?_
    | with_reducible refine keep_markPlaced hP _ _ _ _ ?_
    | with_reducible refine keep_peerFailed hP _ _ _ ?_
    | with_reducible refine keep_peerSend hS _ _ _ _ _ _ _ ?_
    | with_reducible refine keep_setupNext hP _ _ _ ?_
    | with_reducible refine keep_unitDone hS _ _ _ _ ?_
    | (extract_lets +onlyGivenNames t; refine (fun (_ : P t) => ?_) ?_; (on_goal 2 => (dsimp -zeta only [t]; clear t)); (on_goal 1 => (clear_value t; rename' t => w)))
    | (extract_lets +onlyGivenNames t; refine (fun (_ : P t.1) => ?_) ?_; (on_goal 2 => (dsimp -zeta only [t]; clear t)); (on_goal 1 => (clear_value t; rename' t => w)))
    | (extract_lets +onlyGivenNames t; clear_value t; rename' t => w)
    | with_reducible rfl
    | with_reducible exact List.prefix_rfl
    | with_reducible exact le_rfl
    | with_reducible exact fun h => h
    | exact fun h => Memory.wf_writeList _ _ h
    | exact Nat.le_add_right _ _
    | with_reducible exact List.prefix_append _ _
    | with_reducible refine Closed.foldl _ _ _ (fun _ _ _ => ?_) ?_
    | split
    | with_reducible refine hP.build _ ?_ ?_ ?_ ?_

theorem keep_serviceQueue (hP : Closed anyField P) (slot : ℕ) (q : ℕ) (a : ℕ) (a3 : State) (ha3 : P a3) :
    P (serviceQueue slot q a a3) := by
  have hR := hP.ofAny.ofSettle
  induction a generalizing a3 with
  | zero =>
    unfold serviceQueue
    repeat' first
      | with_reducible assumption
      | with_reducible refine hP.bump _ _ _ rfl ?_
      | with_reducible refine hP.set _ _ _ _ rfl ?_
      | with_reducible refine keep_peerDone hP _ _ _ ?_
      | with_reducible refine keep_peerNext hR _ _ _ ?_
      | (extract_lets +onlyGivenNames t; refine (fun (_ : P t) => ?_) ?_; (on_goal 2 => (dsimp -zeta only [t]; clear t)); (on_goal 1 => (clear_value t; rename' t => w)))
      | (extract_lets +onlyGivenNames t; refine (fun (_ : P t.1) => ?_) ?_; (on_goal 2 => (dsimp -zeta only [t]; clear t)); (on_goal 1 => (clear_value t; rename' t => w)))
      | (extract_lets +onlyGivenNames t; clear_value t; rename' t => w)
      | with_reducible refine Closed.foldl _ _ _ (fun _ _ _ => ?_) ?_
      | split
  | succ k ih =>
    unfold serviceQueue
    repeat' first
      | with_reducible assumption
      | with_reducible refine ih _ ?_
      | with_reducible refine hP.bump _ _ _ rfl ?_
      | with_reducible refine hP.set _ _ _ _ rfl ?_
      | with_reducible refine keep_peerDone hP _ _ _ ?_
      | with_reducible refine keep_peerNext hR _ _ _ ?_
      | (extract_lets +onlyGivenNames t; refine (fun (_ : P t) => ?_) ?_; (on_goal 2 => (dsimp -zeta only [t]; clear t)); (on_goal 1 => (clear_value t; rename' t => w)))
      | (extract_lets +onlyGivenNames t; refine (fun (_ : P t.1) => ?_) ?_; (on_goal 2 => (dsimp -zeta only [t]; clear t)); (on_goal 1 => (clear_value t; rename' t => w)))
      | (extract_lets +onlyGivenNames t; clear_value t; rename' t => w)
      | with_reducible refine Closed.foldl _ _ _ (fun _ _ _ => ?_) ?_
      | split

theorem keep_vendorDoorbell (hP : Closed anyField P) (off : ℕ) (s : State) (hs : P s) :
    P (vendorDoorbell off s) := by
  have hS := hP.ofAny
  unfold vendorDoorbell
  repeat' first
    | with_reducible assumption
    | with_reducible refine keep_barrier hS _ ?_
    | with_reducible refine keep_fwStep hP _ ?_
    | with_reducible refine keep_serviceQueue hP _ _ _ _ ?_
    | with_reducible refine keep_showMgr hP _ ?_
    | (extract_lets +onlyGivenNames t; refine (fun (_ : P t) => ?_) ?_; (on_goal 2 => (dsimp -zeta only [t]; clear t)); (on_goal 1 => (clear_value t; rename' t => w)))
    | (extract_lets +onlyGivenNames t; refine (fun (_ : P t.1) => ?_) ?_; (on_goal 2 => (dsimp -zeta only [t]; clear t)); (on_goal 1 => (clear_value t; rename' t => w)))
    | (extract_lets +onlyGivenNames t; clear_value t; rename' t => w)
    | with_reducible refine Closed.foldl _ _ _ (fun _ _ _ => ?_) ?_
    | split

theorem keep_bar0Write (hP : Closed anyField P) (off : ℕ) (v : ℕ) (s : State) (hs : P s) :
    P (bar0Write off v s) := by
  have hS := hP.ofAny
  unfold bar0Write
  repeat' first
    | with_reducible assumption
    | with_reducible refine keep_barrier hS _ ?_
    | with_reducible refine keep_cqHead hP _ _ _ ?_
    | with_reducible refine keep_msixWrite hP _ _ _ ?_
    | with_reducible refine keep_nvmeWrite hP _ _ _ ?_
    | with_reducible refine keep_sqTail hP _ _ _ ?_
    | with_reducible refine keep_vendorDoorbell hP _ _ ?_
    | with_reducible refine Closed.foldl _ _ _ (fun _ _ _ => ?_) ?_
    | split

theorem keep_countTraffic (hP : Closed anyField P) (n : ℕ) (s : State) (hs : P s) :
    P (countTraffic n s) := by
  unfold countTraffic
  repeat' first
    | with_reducible assumption
    | with_reducible refine hP.add _ _ _ _ rfl ?_
    | with_reducible refine hP.setMany _ _ _ rfl ?_
    | (extract_lets +onlyGivenNames t; refine (fun (_ : P t) => ?_) ?_; (on_goal 2 => (dsimp -zeta only [t]; clear t)); (on_goal 1 => (clear_value t; rename' t => w)))
    | (extract_lets +onlyGivenNames t; refine (fun (_ : P t.1) => ?_) ?_; (on_goal 2 => (dsimp -zeta only [t]; clear t)); (on_goal 1 => (clear_value t; rename' t => w)))
    | (extract_lets +onlyGivenNames t; clear_value t; rename' t => w)
    | with_reducible refine Closed.foldl _ _ _ (fun _ _ _ => ?_) ?_
    | split

theorem keep_dramRead (hP : Closed anyField P) (who : BufMaster) (addr : ℕ) (errs : List ByteErr) (s : State) (hs : P s) :
    P (dramRead who addr errs s) := by
  have hS := hP.ofAny
  have hR := hP.ofAny.ofSettle
  unfold dramRead
  repeat' first
    | with_reducible assumption
    | with_reducible refine hP.ret _ _ ?_
    | with_reducible refine keep_countTraffic hP _ _ ?_
    | with_reducible refine keep_decodeError hR _ _ ?_
    | with_reducible refine keep_pulse hR _ _ _ ?_
    | with_reducible refine keep_readFails hR _ _ _ ?_
    | with_reducible refine keep_recordLine hS _ _ _ _ _ _ ?_
    | (extract_lets +onlyGivenNames t; refine (fun (_ : P t) => ?_) ?_; (on_goal 2 => (dsimp -zeta only [t]; clear t)); (on_goal 1 => (clear_value t; rename' t => w)))
    | (extract_lets +onlyGivenNames t; refine (fun (_ : P t.1) => ?_) ?_; (on_goal 2 => (dsimp -zeta only [t]; clear t)); (on_goal 1 => (clear_value t; rename' t => w)))
    | (extract_lets +onlyGivenNames t; clear_value t; rename' t => w)
    | with_reducible refine Closed.foldl _ _ _ (fun _ _ _ => ?_) ?_
    | split

theorem keep_bar2Read (hP : Closed anyField P) (a : ℕ) (n : ℕ) (a2 : ℕ) (a3 : State) (ha3 : P a3) :
    P (bar2Read a n a2 a3).1 := by
  induction a2 generalizing a n a3 with
  | zero => exact ha3
  | succ k ih =>
    unfold bar2Read
    split
    · exact ha3
    · extract_lets p m t line bad u bytes r
      have ht : P t := keep_dramRead hP _ _ _ _ ha3
      have hu : P u := by
        dsimp only [u]
        split
        · exact hP.used _ ht
        · exact ht
      exact ih _ _ _ (hP.record u _ rfl (fun h => h) List.prefix_rfl le_rfl hu)


theorem keep_cmpClear (hP : Closed anyField P) (n : ℕ) (v : ℕ) (s : State) (hs : P s) :
    P (cmpClear n v s) := by
  unfold cmpClear
  dsimp only
  repeat' first
    | with_reducible assumption
    | with_reducible refine hP.set _ _ _ _ rfl ?_
    | (extract_lets +onlyGivenNames t; refine (fun (_ : P t) => ?_) ?_; (on_goal 2 => (dsimp -zeta only [t]; clear t)); (on_goal 1 => (clear_value t; rename' t => w)))
    | (extract_lets +onlyGivenNames t; refine (fun (_ : P t.1) => ?_) ?_; (on_goal 2 => (dsimp -zeta only [t]; clear t)); (on_goal 1 => (clear_value t; rename' t => w)))
    | (extract_lets +onlyGivenNames t; clear_value t; rename' t => w)
    | with_reducible refine Closed.foldl _ _ _ (fun _ _ _ => ?_) ?_
    | split


theorem keep_cmpControl (hP : Closed anyField P) (n : ℕ) (v : ℕ) (s : State) (hs : P s) :
    P (cmpControl n v s) := by
  have hR := hP.ofAny.ofSettle
  unfold cmpControl
  repeat' first
    | with_reducible assumption
    | with_reducible refine hP.set _ _ _ _ rfl ?_
    | with_reducible refine hP.setMany _ _ _ rfl ?_
    | with_reducible refine keep_pulse hR _ _ _ ?_
    | (extract_lets +onlyGivenNames t; refine (fun (_ : P t) => ?_) ?_; (on_goal 2 => (dsimp -zeta only [t]; clear t)); (on_goal 1 => (clear_value t; rename' t => w)))
    | (extract_lets +onlyGivenNames t; refine (fun (_ : P t.1) => ?_) ?_; (on_goal 2 => (dsimp -zeta only [t]; clear t)); (on_goal 1 => (clear_value t; rename' t => w)))
    | (extract_lets +onlyGivenNames t; clear_value t; rename' t => w)
    | with_reducible refine Closed.foldl _ _ _ (fun _ _ _ => ?_) ?_
    | split

theorem keep_cmpTarget (hP : Closed anyField P) (n : ℕ) (hi : Bool) (v : ℕ) (s : State) (hs : P s) :
    P (cmpTarget n hi v s) := by
  have hR := hP.ofAny.ofSettle
  unfold cmpTarget
  repeat' first
    | with_reducible assumption
    | with_reducible refine hP.set _ _ _ _ rfl ?_
    | with_reducible refine keep_pulse hR _ _ _ ?_
    | (extract_lets +onlyGivenNames t; refine (fun (_ : P t) => ?_) ?_; (on_goal 2 => (dsimp -zeta only [t]; clear t)); (on_goal 1 => (clear_value t; rename' t => w)))
    | (extract_lets +onlyGivenNames t; refine (fun (_ : P t.1) => ?_) ?_; (on_goal 2 => (dsimp -zeta only [t]; clear t)); (on_goal 1 => (clear_value t; rename' t => w)))
    | (extract_lets +onlyGivenNames t; clear_value t; rename' t => w)
    | with_reducible refine Closed.foldl _ _ _ (fun _ _ _ => ?_) ?_
    | split

theorem keep_cmpWrite (hP : Closed anyField P) (n : ℕ) (word : ℕ) (v : ℕ) (s : State) (hs : P s) :
    P (cmpWrite n word v s) := by
  unfold cmpWrite
  repeat' first
    | with_reducible assumption
    | with_reducible refine keep_cmpClear hP _ _ _ ?_
    | with_reducible refine keep_cmpControl hP _ _ _ ?_
    | with_reducible refine keep_cmpTarget hP _ _ _ _ ?_
    | with_reducible refine Closed.foldl _ _ _ (fun _ _ _ => ?_) ?_
    | split

theorem keep_faultInject (hP : Closed anyField P) (v : ℕ) (s : State) (hs : P s) :
    P (faultInject v s) := by
  have hR := hP.ofAny.ofSettle
  unfold faultInject
  repeat' first
    | with_reducible assumption
    | with_reducible refine hP.setMany _ _ _ rfl ?_
    | with_reducible refine keep_lower hR _ _ _ ?_
    | with_reducible refine keep_raise hR _ _ _ ?_
    | (extract_lets +onlyGivenNames t; refine (fun (_ : P t) => ?_) ?_; (on_goal 2 => (dsimp -zeta only [t]; clear t)); (on_goal 1 => (clear_value t; rename' t => w)))
    | (extract_lets +onlyGivenNames t; refine (fun (_ : P t.1) => ?_) ?_; (on_goal 2 => (dsimp -zeta only [t]; clear t)); (on_goal 1 => (clear_value t; rename' t => w)))
    | (extract_lets +onlyGivenNames t; clear_value t; rename' t => w)
    | with_reducible refine Closed.foldl _ _ _ (fun _ _ _ => ?_) ?_
    | split

theorem keep_firmwareEntry (hP : Closed anyField P) (v : ℕ) (s : State) (hs : P s) :
    P (firmwareEntry v s) := by
  have hR := hP.ofAny.ofSettle
  unfold firmwareEntry
  repeat' first
    | with_reducible assumption
    | with_reducible refine keep_State_enter hR _ _ _ _ _ _ _ _ ?_
    | with_reducible refine hP.set _ _ _ _ rfl ?_
    | (extract_lets +onlyGivenNames t; refine (fun (_ : P t) => ?_) ?_; (on_goal 2 => (dsimp -zeta only [t]; clear t)); (on_goal 1 => (clear_value t; rename' t => w)))
    | (extract_lets +onlyGivenNames t; refine (fun (_ : P t.1) => ?_) ?_; (on_goal 2 => (dsimp -zeta only [t]; clear t)); (on_goal 1 => (clear_value t; rename' t => w)))
    | (extract_lets +onlyGivenNames t; clear_value t; rename' t => w)
    | with_reducible refine Closed.foldl _ _ _ (fun _ _ _ => ?_) ?_
    | split

theorem keep_freezeRelease (hP : Closed anyField P) (s : State) (hs : P s) :
    P (freezeRelease s) := by
  have hR := hP.ofAny.ofSettle
  unfold freezeRelease
  repeat' first
    | with_reducible assumption
    | with_reducible refine keep_endFreeze hP _ ?_
    | with_reducible refine keep_resumeIssue hR _ ?_
    | with_reducible refine Closed.foldl _ _ _ (fun _ _ _ => ?_) ?_
    | split

theorem keep_overrideSink (hP : Closed anyField P) (o : ℕ) (s : State) (hs : P s) :
    P (overrideSink o s) := by
  unfold overrideSink
  repeat' first
    | with_reducible assumption
    | with_reducible refine keep_toSink hP _ _ _ _ _ ?_
    | (extract_lets +onlyGivenNames t; refine (fun (_ : P t) => ?_) ?_; (on_goal 2 => (dsimp -zeta only [t]; clear t)); (on_goal 1 => (clear_value t; rename' t => w)))
    | (extract_lets +onlyGivenNames t; refine (fun (_ : P t.1) => ?_) ?_; (on_goal 2 => (dsimp -zeta only [t]; clear t)); (on_goal 1 => (clear_value t; rename' t => w)))
    | (extract_lets +onlyGivenNames t; clear_value t; rename' t => w)
    | with_reducible refine Closed.foldl _ _ _ (fun _ _ _ => ?_) ?_
    | split

theorem keep_fwOverrideSet (hP : Closed anyField P) (o : ℕ) (v : ℕ) (s : State) (hs : P s) :
    P (fwOverrideSet o v s) := by
  unfold fwOverrideSet
  repeat' first
    | with_reducible assumption
    | with_reducible refine hP.set _ _ _ _ rfl ?_
    | with_reducible refine keep_overrideSink hP _ _ ?_
    | with_reducible refine Closed.foldl _ _ _ (fun _ _ _ => ?_) ?_
    | split

theorem keep_hlkRegcmdGo (hP : Closed anyField P) (a : ℕ) (v : ℕ) (s : State) (hs : P s) :
    P (hlkRegcmdGo a v s) := by
  have hR := hP.ofAny.ofSettle
  unfold hlkRegcmdGo
  repeat' first
    | with_reducible assumption
    | with_reducible refine hP.set _ _ _ _ rfl ?_
    | with_reducible refine hP.setMany _ _ _ rfl ?_
    | with_reducible refine keep_linkSend hR _ _ _ ?_
    | (extract_lets +onlyGivenNames t; refine (fun (_ : P t) => ?_) ?_; (on_goal 2 => (dsimp -zeta only [t]; clear t)); (on_goal 1 => (clear_value t; rename' t => w)))
    | (extract_lets +onlyGivenNames t; refine (fun (_ : P t.1) => ?_) ?_; (on_goal 2 => (dsimp -zeta only [t]; clear t)); (on_goal 1 => (clear_value t; rename' t => w)))
    | (extract_lets +onlyGivenNames t; clear_value t; rename' t => w)
    | with_reducible refine Closed.foldl _ _ _ (fun _ _ _ => ?_) ?_
    | split

theorem keep_lmemAdvance (hP : Closed anyField P) (l : ℕ) (s : State) (hs : P s) :
    P (lmemAdvance l s) := by
  unfold lmemAdvance
  repeat' first
    | with_reducible assumption
    | with_reducible refine hP.bump _ _ _ rfl ?_
    | with_reducible refine Closed.foldl _ _ _ (fun _ _ _ => ?_) ?_
    | split

theorem keep_lanMemdatWrite (hP : Closed anyField P) (l : ℕ) (v : ℕ) (s : State) (hs : P s) :
    P (lanMemdatWrite l v s) := by
  have hR := hP.ofAny.ofSettle
  unfold lanMemdatWrite
  repeat' first
    | with_reducible assumption
    | with_reducible refine hP.set _ _ _ _ rfl ?_
    | with_reducible refine keep_State_setLword hR _ _ _ _ _ ?_
    | with_reducible refine keep_lmemAdvance hP _ _ ?_
    | (extract_lets +onlyGivenNames t; refine (fun (_ : P t) => ?_) ?_; (on_goal 2 => (dsimp -zeta only [t]; clear t)); (on_goal 1 => (clear_value t; rename' t => w)))
    | (extract_lets +onlyGivenNames t; refine (fun (_ : P t.1) => ?_) ?_; (on_goal 2 => (dsimp -zeta only [t]; clear t)); (on_goal 1 => (clear_value t; rename' t => w)))
    | (extract_lets +onlyGivenNames t; clear_value t; rename' t => w)
    | with_reducible refine Closed.foldl _ _ _ (fun _ _ _ => ?_) ?_
    | split

theorem keep_dropPeers (hP : Closed anyField P) (slot : ℕ) (s : State) (hs : P s) :
    P (dropPeers slot s) := by
  have hS := hP.ofAny
  unfold dropPeers
  repeat' first
    | with_reducible assumption
    | with_reducible refine hP.addSat _ _ _ _ rfl ?_
    | with_reducible refine keep_fetchFailed hS _ _ _ _ _ _ _ ?_
    | with_reducible refine Closed.forAll _ _ _ (fun _ _ _ => ?_) ?_
    | with_reducible refine keep_unitDone hS _ _ _ _ ?_
    | (extract_lets +onlyGivenNames t; refine (fun (_ : P t) => ?_) ?_; (on_goal 2 => (dsimp -zeta only [t]; clear t)); (on_goal 1 => (clear_value t; rename' t => w)))
    | (extract_lets +onlyGivenNames t; refine (fun (_ : P t.1) => ?_) ?_; (on_goal 2 => (dsimp -zeta only [t]; clear t)); (on_goal 1 => (clear_value t; rename' t => w)))
    | (extract_lets +onlyGivenNames t; clear_value t; rename' t => w)
    | with_reducible rfl
    | with_reducible exact List.prefix_rfl
    | with_reducible exact le_rfl
    | with_reducible exact fun h => h
    | exact fun h => Memory.wf_writeList _ _ h
    | exact Nat.le_add_right _ _
    | with_reducible exact List.prefix_append _ _
    | with_reducible refine Closed.foldl _ _ _ (fun _ _ _ => ?_) ?_
    | split
    | with_reducible refine hP.build _ ?_ ?_ ?_ ?_

theorem keep_loseWorker (hP : Closed anyField P) (slot : ℕ) (s : State) (hs : P s) :
    P (loseWorker slot s) := by
  have hS := hP.ofAny
  have hR := hP.ofAny.ofSettle
  unfold loseWorker
  repeat' first
    | with_reducible assumption
    | with_reducible refine hP.set _ _ _ _ rfl ?_
    | with_reducible refine keep_dropPeers hP _ _ ?_
    | with_reducible refine keep_loseMember hS _ _ ?_
    | with_reducible refine keep_pulse hR _ _ _ ?_
    | with_reducible refine Closed.foldl _ _ _ (fun _ _ _ => ?_) ?_
    | split

theorem keep_loseByWrite (hP : Closed anyField P) (v : ℕ) (s : State) (hs : P s) :
    P (loseByWrite v s) := by
  unfold loseByWrite
  repeat' first
    | with_reducible assumption
    | with_reducible refine hP.setBit _ _ _ _ _ rfl ?_
    | with_reducible refine keep_acdLose hP _ _ ?_
    | with_reducible refine keep_loseWorker hP _ _ ?_
    | (extract_lets +onlyGivenNames t; refine (fun (_ : P t) => ?_) ?_; (on_goal 2 => (dsimp -zeta only [t]; clear t)); (on_goal 1 => (clear_value t; rename' t => w)))
    | (extract_lets +onlyGivenNames t; refine (fun (_ : P t.1) => ?_) ?_; (on_goal 2 => (dsimp -zeta only [t]; clear t)); (on_goal 1 => (clear_value t; rename' t => w)))
    | (extract_lets +onlyGivenNames t; clear_value t; rename' t => w)
    | with_reducible refine Closed.foldl _ _ _ (fun _ _ _ => ?_) ?_
    | split

theorem keep_sendHeater (hP : Closed anyField P) (h_0 : ℕ) (s : State) (hs : P s) :
    P (sendHeater h_0 s) := by
  have hR := hP.ofAny.ofSettle
  unfold sendHeater
  repeat' first
    | with_reducible assumption
    | with_reducible refine hP.set _ _ _ _ rfl ?_
    | with_reducible refine keep_linkSend hR _ _ _ ?_
    | (extract_lets +onlyGivenNames t; refine (fun (_ : P t) => ?_) ?_; (on_goal 2 => (dsimp -zeta only [t]; clear t)); (on_goal 1 => (clear_value t; rename' t => w)))
    | (extract_lets +onlyGivenNames t; refine (fun (_ : P t.1) => ?_) ?_; (on_goal 2 => (dsimp -zeta only [t]; clear t)); (on_goal 1 => (clear_value t; rename' t => w)))
    | (extract_lets +onlyGivenNames t; clear_value t; rename' t => w)
    | with_reducible refine Closed.foldl _ _ _ (fun _ _ _ => ?_) ?_
    | split

theorem keep_lpeRun (hP : Closed anyField P) (run : Bool) (s : State) (hs : P s) :
    P (lpeRun run s) := by
  have hR := hP.ofAny.ofSettle
  unfold lpeRun
  repeat' first
    | with_reducible assumption
    | with_reducible refine hP.set _ _ _ _ rfl ?_
    | with_reducible refine hP.setMany _ _ _ rfl ?_
    | with_reducible refine Closed.forBelow _ _ _ (fun _ _ _ => ?_) ?_
    | with_reducible refine keep_retractAll hR _ ?_
    | with_reducible refine keep_sendHeater hP _ _ ?_
    | with_reducible refine keep_withFollow hR _ ?_
    | (extract_lets +onlyGivenNames t; refine (fun (_ : P t) => ?_) ?_; (on_goal 2 => (dsimp -zeta only [t]; clear t)); (on_goal 1 => (clear_value t; rename' t => w)))
    | (extract_lets +onlyGivenNames t; refine (fun (_ : P t.1) => ?_) ?_; (on_goal 2 => (dsimp -zeta only [t]; clear t)); (on_goal 1 => (clear_value t; rename' t => w)))
    | (extract_lets +onlyGivenNames t; clear_value t; rename' t => w)
    | with_reducible refine Closed.foldl _ _ _ (fun _ _ _ => ?_) ?_
    | split

theorem keep_claikCast (hP : Closed anyField P) (typ : ℕ) (payload : List (BitVec 8)) (s : State) (hs : P s) :
    P (claikCast typ payload s) := by
  unfold claikCast
  repeat' first
    | with_reducible assumption
    | with_reducible refine hP.bump _ _ _ rfl ?_
    | with_reducible refine hP.emit _ _ ?_
    | with_reducible refine Closed.foldl _ _ _ (fun _ _ _ => ?_) ?_
    | split

theorem keep_mgrFwGo (hP : Closed anyField P) (s : State) (hs : P s) :
    P (mgrFwGo s) := by
  unfold mgrFwGo
  repeat' first
    | with_reducible assumption
    | with_reducible refine hP.set _ _ _ _ rfl ?_
    | with_reducible refine hP.setMany _ _ _ rfl ?_
    | with_reducible refine keep_claikCast hP _ _ _ ?_
    | with_reducible refine Closed.forBelow _ _ _ (fun _ _ _ => ?_) ?_
    | with_reducible refine keep_fwStep hP _ ?_
    | (extract_lets +onlyGivenNames t; refine (fun (_ : P t) => ?_) ?_; (on_goal 2 => (dsimp -zeta only [t]; clear t)); (on_goal 1 => (clear_value t; rename' t => w)))
    | (extract_lets +onlyGivenNames t; refine (fun (_ : P t.1) => ?_) ?_; (on_goal 2 => (dsimp -zeta only [t]; clear t)); (on_goal 1 => (clear_value t; rename' t => w)))
    | (extract_lets +onlyGivenNames t; clear_value t; rename' t => w)
    | with_reducible refine Closed.foldl _ _ _ (fun _ _ _ => ?_) ?_
    | split

theorem keep_retireGo (hP : Closed anyField P) (v : ℕ) (s : State) (hs : P s) :
    P (retireGo v s) := by
  have hS := hP.ofAny
  unfold retireGo
  repeat' first
    | with_reducible assumption
    | with_reducible refine hP.set _ _ _ _ rfl ?_
    | with_reducible refine hP.setMany _ _ _ rfl ?_
    | with_reducible refine keep_flushEntry hS _ _ _ ?_
    | (extract_lets +onlyGivenNames t; refine (fun (_ : P t) => ?_) ?_; (on_goal 2 => (dsimp -zeta only [t]; clear t)); (on_goal 1 => (clear_value t; rename' t => w)))
    | (extract_lets +onlyGivenNames t; refine (fun (_ : P t.1) => ?_) ?_; (on_goal 2 => (dsimp -zeta only [t]; clear t)); (on_goal 1 => (clear_value t; rename' t => w)))
    | (extract_lets +onlyGivenNames t; clear_value t; rename' t => w)
    | with_reducible rfl
    | with_reducible exact List.prefix_rfl
    | with_reducible exact le_rfl
    | with_reducible exact fun h => h
    | exact fun h => Memory.wf_writeList _ _ h
    | exact Nat.le_add_right _ _
    | with_reducible exact List.prefix_append _ _
    | with_reducible refine Closed.foldl _ _ _ (fun _ _ _ => ?_) ?_
    | split
    | with_reducible refine hP.build _ ?_ ?_ ?_ ?_

theorem keep_coldClear (hP : Closed anyField P) (s : State) (hs : P s) :
    P (coldClear s) := by
  unfold coldClear
  exact hP.set _ _ _ _ rfl (hP.regs (fun _ => rfl) s _ (fun _ => rfl) List.prefix_rfl le_rfl hs)


theorem keep_reportDump (hP : Closed anyField P) (s : State) (hs : P s) :
    P (reportDump s) := by
  have hR := hP.ofAny.ofSettle
  unfold reportDump
  repeat' first
    | with_reducible assumption
    | with_reducible refine hP.set _ _ _ _ rfl ?_
    | with_reducible refine keep_pulse hR _ _ _ ?_
    | with_reducible refine Closed.foldl _ _ _ (fun _ _ _ => ?_) ?_
    | split

theorem keep_enterRecovery (hP : Closed anyField P) (cause : ℕ) (s : State) (hs : P s) :
    P (enterRecovery cause s) := by
  have hR := hP.ofAny.ofSettle
  unfold enterRecovery
  repeat' first
    | with_reducible assumption
    | with_reducible refine keep_State_enter hR _ _ _ _ _ _ _ _ ?_
    | with_reducible refine hP.set _ _ _ _ rfl ?_
    | with_reducible refine hP.setMany _ _ _ rfl ?_
    | with_reducible refine hP.unset _ _ _ rfl ?_
    | with_reducible refine Closed.forBelow _ _ _ (fun _ _ _ => ?_) ?_
    | (extract_lets +onlyGivenNames t; refine (fun (_ : P t) => ?_) ?_; (on_goal 2 => (dsimp -zeta only [t]; clear t)); (on_goal 1 => (clear_value t; rename' t => w)))
    | (extract_lets +onlyGivenNames t; refine (fun (_ : P t.1) => ?_) ?_; (on_goal 2 => (dsimp -zeta only [t]; clear t)); (on_goal 1 => (clear_value t; rename' t => w)))
    | (extract_lets +onlyGivenNames t; clear_value t; rename' t => w)
    | with_reducible refine Closed.foldl _ _ _ (fun _ _ _ => ?_) ?_
    | split

theorem keep_sampleStraps (hP : Closed anyField P) (role : Bool) (bootcs : Bool) (recov : Bool) (s : State) (hs : P s) :
    P (sampleStraps role bootcs recov s) := by
  unfold sampleStraps
  repeat' first
    | with_reducible assumption
    | with_reducible refine hP.setMany _ _ _ rfl ?_
    | with_reducible refine keep_enterRecovery hP _ _ ?_
    | (extract_lets +onlyGivenNames t; refine (fun (_ : P t) => ?_) ?_; (on_goal 2 => (dsimp -zeta only [t]; clear t)); (on_goal 1 => (clear_value t; rename' t => w)))
    | (extract_lets +onlyGivenNames t; refine (fun (_ : P t.1) => ?_) ?_; (on_goal 2 => (dsimp -zeta only [t]; clear t)); (on_goal 1 => (clear_value t; rename' t => w)))
    | (extract_lets +onlyGivenNames t; clear_value t; rename' t => w)
    | with_reducible refine Closed.foldl _ _ _ (fun _ _ _ => ?_) ?_
    | split

theorem keep_showReset (hP : Closed anyField P) (cause : ℕ) (cold : Bool) (s : State) (hs : P s) :
    P (showReset cause cold s) := by
  unfold showReset
  repeat' first
    | with_reducible assumption
    | with_reducible refine hP.setMany _ _ _ rfl ?_
    | with_reducible refine Closed.foldl _ _ _ (fun _ _ _ => ?_) ?_
    | split

theorem keep_coldReset (hP : Closed anyField P) (cause : ℕ) (keepDump : Bool) (role : Bool) (bootcs : Bool) (recov : Bool) (s : State) (hs : P s) :
    P (coldReset cause keepDump role bootcs recov s) := by
  have hR := hP.ofAny.ofSettle
  unfold coldReset
  repeat' first
    | with_reducible assumption
    | with_reducible refine keep_State_marker hR _ _ ?_
    | with_reducible refine hP.setMany _ _ _ rfl ?_
    | with_reducible refine keep_coldClear hP _ ?_
    | with_reducible refine keep_reassert hR _ _ _ ?_
    | with_reducible refine keep_reportDump hP _ ?_
    | with_reducible refine keep_sampleStraps hP _ _ _ _ ?_
    | with_reducible refine keep_showReset hP _ _ _ ?_
    | (extract_lets +onlyGivenNames t; refine (fun (_ : P t) => ?_) ?_; (on_goal 2 => (dsimp -zeta only [t]; clear t)); (on_goal 1 => (clear_value t; rename' t => w)))
    | (extract_lets +onlyGivenNames t; refine (fun (_ : P t.1) => ?_) ?_; (on_goal 2 => (dsimp -zeta only [t]; clear t)); (on_goal 1 => (clear_value t; rename' t => w)))
    | (extract_lets +onlyGivenNames t; clear_value t; rename' t => w)
    | with_reducible rfl
    | with_reducible exact List.prefix_rfl
    | with_reducible exact le_rfl
    | with_reducible exact fun h => h
    | exact fun h => Memory.wf_writeList _ _ h
    | exact Nat.le_add_right _ _
    | with_reducible exact List.prefix_append _ _
    | with_reducible refine Closed.foldl _ _ _ (fun _ _ _ => ?_) ?_
    | split
    | with_reducible refine hP.build _ ?_ ?_ ?_ ?_

theorem keep_resetDomains (hP : Closed anyField P) (s : State) (hs : P s) :
    P (resetDomains s) := by
  have hS := hP.ofAny
  unfold resetDomains
  extract_lets keep s1 gone src tb t1 t2
  have h1 : P s1 := by
    dsimp only [s1]
    split
    · exact keep_barrier hP.ofAny _ hs
    · exact hs
  clear_value s1
  have h2 : P t1 := hP.regs (fun _ => rfl) s1 _ (fun h => by dsimp only [t1]; exact Memory.wf_clear _ h) List.prefix_rfl le_rfl h1
  clear_value t1
  have h3 : P t2 := hP.set _ _ _ _ rfl h2
  clear_value t2
  split
  · exact hP.setMany _ _ _ rfl h3
  · exact h3


theorem keep_warmAon (hP : Closed anyField P) (s : State) (hs : P s) :
    P (warmAon s) := by
  exact hP.set _ _ _ _ rfl (hP.regs (fun _ => rfl) s _ (fun h => h) List.prefix_rfl le_rfl hs)


theorem keep_warmBase (hP : Closed anyField P) (cause : ℕ) (s : State) (hs : P s) :
    P (warmBase cause s) := by
  have hR := hP.ofAny.ofSettle
  unfold warmBase
  repeat' first
    | with_reducible assumption
    | with_reducible refine hP.bump _ _ _ rfl ?_
    | with_reducible refine keep_State_marker hR _ _ ?_
    | with_reducible refine hP.set _ _ _ _ rfl ?_
    | with_reducible refine keep_chain _ _ ?_ ?_
    | with_reducible refine List.forall_mem_cons.2 ⟨fun _ _ => ?_, ?_⟩
    | exact List.forall_mem_nil _
    | with_reducible refine List.forall_mem_map.2 (fun _ _ _ _ => ?_)
    | dsimp only
    | with_reducible refine keep_raise hR _ _ _ ?_
    | with_reducible refine keep_reassert hR _ _ _ ?_
    | with_reducible refine keep_resetDomains hP _ ?_
    | with_reducible refine keep_retract hR _ _ ?_
    | with_reducible refine keep_showReset hP _ _ _ ?_
    | with_reducible refine keep_warmAon hP _ ?_
    | with_reducible refine keep_withFollow hR _ ?_
    | (extract_lets +onlyGivenNames t; refine (fun (_ : P t) => ?_) ?_; (on_goal 2 => (dsimp -zeta only [t]; clear t)); (on_goal 1 => (clear_value t; rename' t => w)))
    | (extract_lets +onlyGivenNames t; refine (fun (_ : P t.1) => ?_) ?_; (on_goal 2 => (dsimp -zeta only [t]; clear t)); (on_goal 1 => (clear_value t; rename' t => w)))
    | (extract_lets +onlyGivenNames t; clear_value t; rename' t => w)
    | with_reducible refine Closed.foldl _ _ _ (fun _ _ _ => ?_) ?_
    | split

theorem keep_warmReset (hP : Closed anyField P) (cause : ℕ) (role : Bool) (bootcs : Bool) (recov : Bool) (s : State) (hs : P s) :
    P (warmReset cause role bootcs recov s) := by
  unfold warmReset
  repeat' first
    | with_reducible assumption
    | with_reducible refine keep_sampleStraps hP _ _ _ _ ?_
    | with_reducible refine keep_warmBase hP _ _ ?_
    | with_reducible refine Closed.foldl _ _ _ (fun _ _ _ => ?_) ?_
    | split

theorem keep_rstctl (hP : Closed anyField P) (v : ℕ) (role : Bool) (bootcs : Bool) (recov : Bool) (s : State) (hs : P s) :
    P (rstctl v role bootcs recov s) := by
  unfold rstctl
  repeat' first
    | with_reducible assumption
    | with_reducible refine keep_coldReset hP _ _ _ _ _ _ ?_
    | with_reducible refine keep_warmReset hP _ _ _ _ _ ?_
    | with_reducible refine Closed.foldl _ _ _ (fun _ _ _ => ?_) ?_
    | split

theorem keep_nvqRun (hP : Closed anyField P) (run : Bool) (s : State) (hs : P s) :
    P (nvqRun run s) := by
  unfold nvqRun
  repeat' first
    | with_reducible assumption
    | with_reducible refine hP.set _ _ _ _ rfl ?_
    | with_reducible refine keep_takeEnable hP _ ?_
    | (extract_lets +onlyGivenNames t; refine (fun (_ : P t) => ?_) ?_; (on_goal 2 => (dsimp -zeta only [t]; clear t)); (on_goal 1 => (clear_value t; rename' t => w)))
    | (extract_lets +onlyGivenNames t; refine (fun (_ : P t.1) => ?_) ?_; (on_goal 2 => (dsimp -zeta only [t]; clear t)); (on_goal 1 => (clear_value t; rename' t => w)))
    | (extract_lets +onlyGivenNames t; clear_value t; rename' t => w)
    | with_reducible refine Closed.foldl _ _ _ (fun _ _ _ => ?_) ?_
    | split

theorem keep_reachPhase (hP : Closed anyField P) (n : ℕ) (s : State) (hs : P s) :
    P (reachPhase n s) := by
  unfold reachPhase
  repeat' first
    | with_reducible assumption
    | with_reducible refine hP.set _ _ _ _ rfl ?_
    | with_reducible refine Closed.foldl _ _ _ (fun _ _ _ => ?_) ?_
    | split

theorem keep_standaloneGrant (hP : Closed anyField P) (s : State) (hs : P s) :
    P (standaloneGrant s) := by
  unfold standaloneGrant
  repeat' first
    | with_reducible assumption
    | with_reducible refine hP.set _ _ _ _ rfl ?_
    | with_reducible refine Closed.foldl _ _ _ (fun _ _ _ => ?_) ?_
    | split

theorem keep_runHost (hP : Closed anyField P) (run : Bool) (s : State) (hs : P s) :
    P (runHost run s) := by
  unfold runHost
  repeat' first
    | with_reducible assumption
    | with_reducible refine keep_nvqRun hP _ _ ?_
    | with_reducible refine keep_reachPhase hP _ _ ?_
    | with_reducible refine keep_standaloneGrant hP _ ?_
    | with_reducible refine Closed.foldl _ _ _ (fun _ _ _ => ?_) ?_
    | split

theorem keep_seekRunAhead (hP : Closed anyField P) (a : ℕ) (v : ℕ) (s : State) (hs : P s) :
    P (seekRunAhead a v s) := by
  unfold seekRunAhead
  repeat' first
    | with_reducible assumption
    | with_reducible refine hP.setI _ _ _ _ rfl ?_
    | with_reducible refine hP.setMany _ _ _ rfl ?_
    | (extract_lets +onlyGivenNames t; refine (fun (_ : P t) => ?_) ?_; (on_goal 2 => (dsimp -zeta only [t]; clear t)); (on_goal 1 => (clear_value t; rename' t => w)))
    | (extract_lets +onlyGivenNames t; refine (fun (_ : P t.1) => ?_) ?_; (on_goal 2 => (dsimp -zeta only [t]; clear t)); (on_goal 1 => (clear_value t; rename' t => w)))
    | (extract_lets +onlyGivenNames t; clear_value t; rename' t => w)
    | with_reducible refine Closed.foldl _ _ _ (fun _ _ _ => ?_) ?_
    | split

theorem keep_sendOrder (hP : Closed anyField P) (n : ℕ) (code : ℕ) (arg : ℕ) (s : State) (hs : P s) :
    P (sendOrder n code arg s) := by
  unfold sendOrder
  repeat' first
    | with_reducible assumption
    | with_reducible refine keep_claikSend hP _ _ _ _ ?_
    | with_reducible refine Closed.foldl _ _ _ (fun _ _ _ => ?_) ?_
    | split

theorem keep_setSync (hP : Closed anyField P) (on : Bool) (s : State) (hs : P s) :
    P (setSync on s) := by
  have hR := hP.ofAny.ofSettle
  unfold setSync
  repeat' first
    | with_reducible assumption
    | with_reducible refine hP.setMany _ _ _ rfl ?_
    | with_reducible refine keep_driveSync hR _ ?_
    | with_reducible refine keep_sendOrder hP _ _ _ _ ?_
    | (extract_lets +onlyGivenNames t; refine (fun (_ : P t) => ?_) ?_; (on_goal 2 => (dsimp -zeta only [t]; clear t)); (on_goal 1 => (clear_value t; rename' t => w)))
    | (extract_lets +onlyGivenNames t; refine (fun (_ : P t.1) => ?_) ?_; (on_goal 2 => (dsimp -zeta only [t]; clear t)); (on_goal 1 => (clear_value t; rename' t => w)))
    | (extract_lets +onlyGivenNames t; clear_value t; rename' t => w)
    | with_reducible refine Closed.foldl _ _ _ (fun _ _ _ => ?_) ?_
    | split

theorem keep_checkWindows (hP : Closed anyField P) (s : State) (hs : P s) :
    P (checkWindows s) := by
  have hR := hP.ofAny.ofSettle
  unfold checkWindows
  repeat' first
    | with_reducible assumption
    | with_reducible refine hP.set _ _ _ _ rfl ?_
    | with_reducible refine keep_pulse hR _ _ _ ?_
    | (extract_lets +onlyGivenNames t; refine (fun (_ : P t) => ?_) ?_; (on_goal 2 => (dsimp -zeta only [t]; clear t)); (on_goal 1 => (clear_value t; rename' t => w)))
    | (extract_lets +onlyGivenNames t; refine (fun (_ : P t.1) => ?_) ?_; (on_goal 2 => (dsimp -zeta only [t]; clear t)); (on_goal 1 => (clear_value t; rename' t => w)))
    | (extract_lets +onlyGivenNames t; clear_value t; rename' t => w)
    | with_reducible refine Closed.foldl _ _ _ (fun _ _ _ => ?_) ?_
    | split

theorem keep_configurationComplete (hP : Closed anyField P) (s : State) (hs : P s) :
    P (configurationComplete s) := by
  unfold configurationComplete
  repeat' first
    | with_reducible assumption
    | with_reducible refine hP.set _ _ _ _ rfl ?_
    | with_reducible refine hP.setMany _ _ _ rfl ?_
    | with_reducible refine keep_checkWindows hP _ ?_
    | (extract_lets +onlyGivenNames t; refine (fun (_ : P t) => ?_) ?_; (on_goal 2 => (dsimp -zeta only [t]; clear t)); (on_goal 1 => (clear_value t; rename' t => w)))
    | (extract_lets +onlyGivenNames t; refine (fun (_ : P t.1) => ?_) ?_; (on_goal 2 => (dsimp -zeta only [t]; clear t)); (on_goal 1 => (clear_value t; rename' t => w)))
    | (extract_lets +onlyGivenNames t; clear_value t; rename' t => w)
    | with_reducible refine Closed.foldl _ _ _ (fun _ _ _ => ?_) ?_
    | split

theorem keep_signalComplete (hP : Closed anyField P) (s : State) (hs : P s) :
    P (signalComplete s) := by
  unfold signalComplete
  repeat' first
    | with_reducible assumption
    | with_reducible refine keep_applyNor hP _ ?_
    | with_reducible refine keep_configurationComplete hP _ ?_
    | (extract_lets +onlyGivenNames t; refine (fun (_ : P t) => ?_) ?_; (on_goal 2 => (dsimp -zeta only [t]; clear t)); (on_goal 1 => (clear_value t; rename' t => w)))
    | (extract_lets +onlyGivenNames t; refine (fun (_ : P t.1) => ?_) ?_; (on_goal 2 => (dsimp -zeta only [t]; clear t)); (on_goal 1 => (clear_value t; rename' t => w)))
    | (extract_lets +onlyGivenNames t; clear_value t; rename' t => w)
    | with_reducible refine Closed.foldl _ _ _ (fun _ _ _ => ?_) ?_
    | split

theorem keep_speedTargetWrite (hP : Closed anyField P) (v : ℕ) (s : State) (hs : P s) :
    P (speedTargetWrite v s) := by
  unfold speedTargetWrite
  repeat' first
    | with_reducible assumption
    | with_reducible refine hP.set _ _ _ _ rfl ?_
    | with_reducible refine keep_newTarget hP _ _ ?_
    | (extract_lets +onlyGivenNames t; refine (fun (_ : P t) => ?_) ?_; (on_goal 2 => (dsimp -zeta only [t]; clear t)); (on_goal 1 => (clear_value t; rename' t => w)))
    | (extract_lets +onlyGivenNames t; refine (fun (_ : P t.1) => ?_) ?_; (on_goal 2 => (dsimp -zeta only [t]; clear t)); (on_goal 1 => (clear_value t; rename' t => w)))
    | (extract_lets +onlyGivenNames t; clear_value t; rename' t => w)
    | with_reducible refine Closed.foldl _ _ _ (fun _ _ _ => ?_) ?_
    | split

theorem keep_srvMemAdvance (hP : Closed anyField P) (a : ℕ) (s : State) (hs : P s) :
    P (srvMemAdvance a s) := by
  unfold srvMemAdvance
  repeat' first
    | with_reducible assumption
    | with_reducible refine hP.bump _ _ _ rfl ?_
    | with_reducible refine Closed.foldl _ _ _ (fun _ _ _ => ?_) ?_
    | split

theorem keep_srvMemdatWrite (hP : Closed anyField P) (a : ℕ) (v : ℕ) (s : State) (hs : P s) :
    P (srvMemdatWrite a v s) := by
  unfold srvMemdatWrite
  repeat' first
    | with_reducible assumption
    | with_reducible refine hP.set _ _ _ _ rfl ?_
    | with_reducible refine keep_srvMemAdvance hP _ _ ?_
    | (extract_lets +onlyGivenNames t; refine (fun (_ : P t) => ?_) ?_; (on_goal 2 => (dsimp -zeta only [t]; clear t)); (on_goal 1 => (clear_value t; rename' t => w)))
    | (extract_lets +onlyGivenNames t; refine (fun (_ : P t.1) => ?_) ?_; (on_goal 2 => (dsimp -zeta only [t]; clear t)); (on_goal 1 => (clear_value t; rename' t => w)))
    | (extract_lets +onlyGivenNames t; clear_value t; rename' t => w)
    | with_reducible refine Closed.foldl _ _ _ (fun _ _ _ => ?_) ?_
    | split

theorem keep_targetWrite (hP : Closed anyField P) (h_0 : ℕ) (v : ℕ) (s : State) (hs : P s) :
    P (targetWrite h_0 v s) := by
  unfold targetWrite
  repeat' first
    | with_reducible assumption
    | with_reducible refine hP.bump _ _ _ rfl ?_
    | with_reducible refine hP.set _ _ _ _ rfl ?_
    | with_reducible refine hP.setMany _ _ _ rfl ?_
    | (extract_lets +onlyGivenNames t; refine (fun (_ : P t) => ?_) ?_; (on_goal 2 => (dsimp -zeta only [t]; clear t)); (on_goal 1 => (clear_value t; rename' t => w)))
    | (extract_lets +onlyGivenNames t; refine (fun (_ : P t.1) => ?_) ?_; (on_goal 2 => (dsimp -zeta only [t]; clear t)); (on_goal 1 => (clear_value t; rename' t => w)))
    | (extract_lets +onlyGivenNames t; clear_value t; rename' t => w)
    | with_reducible refine Closed.foldl _ _ _ (fun _ _ _ => ?_) ?_
    | split

theorem keep_placementGen (hP : Closed anyField P) (s : State) (hs : P s) :
    P (placementGen s) := by
  unfold placementGen
  repeat' first
    | with_reducible assumption
    | with_reducible refine hP.setMany _ _ _ rfl ?_
    | with_reducible refine Closed.foldl _ _ _ (fun _ _ _ => ?_) ?_
    | split

theorem keep_rbldHold (hP : Closed anyField P) (hold : Bool) (s : State) (hs : P s) :
    P (rbldHold hold s) := by
  unfold rbldHold
  repeat' first
    | with_reducible assumption
    | with_reducible refine hP.set _ _ _ _ rfl ?_
    | with_reducible refine Closed.foldl _ _ _ (fun _ _ _ => ?_) ?_
    | split

theorem keep_readTables (hP : Closed anyField P) (s : State) (hs : P s) :
    P (readTables s) := by
  unfold readTables
  repeat' first
    | with_reducible assumption
    | with_reducible refine keep_applyMedia hP _ ?_
    | with_reducible refine Closed.foldl _ _ _ (fun _ _ _ => ?_) ?_
    | split

theorem keep_writeAcdCtl (hP : Closed anyField P) (v : ℕ) (s : State) (hs : P s) :
    P (writeAcdCtl v s) := by
  have hS := hP.ofAny
  have hR := hP.ofAny.ofSettle
  unfold writeAcdCtl
  repeat' first
    | with_reducible assumption
    | with_reducible refine keep_acdClean hS _ ?_
    | with_reducible refine keep_acdCleanClr hP _ ?_
    | with_reducible refine keep_acdRun hP _ _ ?_
    | with_reducible refine keep_placementGen hP _ ?_
    | with_reducible refine keep_rbldHold hP _ _ ?_
    | with_reducible refine keep_reachPhase hP _ _ ?_
    | with_reducible refine keep_readTables hP _ ?_
    | with_reducible refine keep_when1 hR _ _ _ _ (fun _ _ => ?_) ?_
    | (extract_lets +onlyGivenNames t; refine (fun (_ : P t) => ?_) ?_; (on_goal 2 => (dsimp -zeta only [t]; clear t)); (on_goal 1 => (clear_value t; rename' t => w)))
    | (extract_lets +onlyGivenNames t; refine (fun (_ : P t.1) => ?_) ?_; (on_goal 2 => (dsimp -zeta only [t]; clear t)); (on_goal 1 => (clear_value t; rename' t => w)))
    | (extract_lets +onlyGivenNames t; clear_value t; rename' t => w)
    | with_reducible refine Closed.foldl _ _ _ (fun _ _ _ => ?_) ?_
    | split

theorem keep_writeCommit (hP : Closed anyField P) (b : ShBlk) (i : ℕ) (v : ℕ) (s : State) (hs : P s) :
    P (writeCommit b i v s) := by
  unfold writeCommit
  repeat' first
    | with_reducible assumption
    | with_reducible refine keep_cancelGroup hP _ _ _ _ ?_
    | with_reducible refine Closed.forBelow _ _ _ (fun _ _ _ => ?_) ?_
    | with_reducible refine keep_groupCommit hP _ _ _ _ _ ?_
    | with_reducible refine Closed.foldl _ _ _ (fun _ _ _ => ?_) ?_
    | split

theorem keep_linkUnup (hP : Closed anyField P) (a : ℕ) (s : State) (hs : P s) :
    P (linkUnup a s) := by
  have hR := hP.ofAny.ofSettle
  unfold linkUnup
  repeat' first
    | with_reducible assumption
    | with_reducible refine keep_State_setLinkQ hR _ _ _ ?_
    | with_reducible refine hP.setMany _ _ _ rfl ?_
    | with_reducible refine keep_recheckActuator hR _ _ ?_
    | (extract_lets +onlyGivenNames t; refine (fun (_ : P t) => ?_) ?_; (on_goal 2 => (dsimp -zeta only [t]; clear t)); (on_goal 1 => (clear_value t; rename' t => w)))
    | (extract_lets +onlyGivenNames t; refine (fun (_ : P t.1) => ?_) ?_; (on_goal 2 => (dsimp -zeta only [t]; clear t)); (on_goal 1 => (clear_value t; rename' t => w)))
    | (extract_lets +onlyGivenNames t; clear_value t; rename' t => w)
    | with_reducible refine Closed.foldl _ _ _ (fun _ _ _ => ?_) ?_
    | split

theorem keep_hlkDisable (hP : Closed anyField P) (a : ℕ) (s : State) (hs : P s) :
    P (hlkDisable a s) := by
  have hR := hP.ofAny.ofSettle
  unfold hlkDisable
  repeat' first
    | with_reducible assumption
    | with_reducible refine hP.setMany _ _ _ rfl ?_
    | with_reducible refine keep_linkUnup hP _ _ ?_
    | with_reducible refine keep_lower hR _ _ _ ?_
    | (extract_lets +onlyGivenNames t; refine (fun (_ : P t) => ?_) ?_; (on_goal 2 => (dsimp -zeta only [t]; clear t)); (on_goal 1 => (clear_value t; rename' t => w)))
    | (extract_lets +onlyGivenNames t; refine (fun (_ : P t.1) => ?_) ?_; (on_goal 2 => (dsimp -zeta only [t]; clear t)); (on_goal 1 => (clear_value t; rename' t => w)))
    | (extract_lets +onlyGivenNames t; clear_value t; rename' t => w)
    | with_reducible refine Closed.foldl _ _ _ (fun _ _ _ => ?_) ?_
    | split

theorem keep_startTraining (hP : Closed anyField P) (a : ℕ) (s : State) (hs : P s) :
    P (startTraining a s) := by
  have hR := hP.ofAny.ofSettle
  unfold startTraining
  repeat' first
    | with_reducible assumption
    | with_reducible refine keep_State_setLinkQ hR _ _ _ ?_
    | with_reducible refine hP.setMany _ _ _ rfl ?_
    | with_reducible refine Closed.foldl _ _ _ (fun _ _ _ => ?_) ?_
    | split

theorem keep_hlkEnable (hP : Closed anyField P) (a : ℕ) (s : State) (hs : P s) :
    P (hlkEnable a s) := by
  unfold hlkEnable
  repeat' first
    | with_reducible assumption
    | with_reducible refine hP.set _ _ _ _ rfl ?_
    | with_reducible refine keep_startTraining hP _ _ ?_
    | with_reducible refine Closed.foldl _ _ _ (fun _ _ _ => ?_) ?_
    | split

theorem keep_hlkTrain (hP : Closed anyField P) (a : ℕ) (s : State) (hs : P s) :
    P (hlkTrain a s) := by
  unfold hlkTrain
  repeat' first
    | with_reducible assumption
    | with_reducible refine keep_linkUnup hP _ _ ?_
    | with_reducible refine keep_startTraining hP _ _ ?_
    | with_reducible refine Closed.foldl _ _ _ (fun _ _ _ => ?_) ?_
    | split

theorem keep_writeHlkCtl (hP : Closed anyField P) (a : ℕ) (v : ℕ) (s : State) (hs : P s) :
    P (writeHlkCtl a v s) := by
  have hR := hP.ofAny.ofSettle
  unfold writeHlkCtl
  repeat' first
    | with_reducible assumption
    | with_reducible refine hP.set _ _ _ _ rfl ?_
    | with_reducible refine keep_hlkDisable hP _ _ ?_
    | with_reducible refine keep_hlkEnable hP _ _ ?_
    | with_reducible refine keep_hlkTrain hP _ _ ?_
    | with_reducible refine keep_when1 hR _ _ _ _ (fun _ _ => ?_) ?_
    | (extract_lets +onlyGivenNames t; refine (fun (_ : P t) => ?_) ?_; (on_goal 2 => (dsimp -zeta only [t]; clear t)); (on_goal 1 => (clear_value t; rename' t => w)))
    | (extract_lets +onlyGivenNames t; refine (fun (_ : P t.1) => ?_) ?_; (on_goal 2 => (dsimp -zeta only [t]; clear t)); (on_goal 1 => (clear_value t; rename' t => w)))
    | (extract_lets +onlyGivenNames t; clear_value t; rename' t => w)
    | with_reducible refine Closed.foldl _ _ _ (fun _ _ _ => ?_) ?_
    | split

theorem keep_laneOos (hP : Closed anyField P) (l : ℕ) (oos : Bool) (s : State) (hs : P s) :
    P (laneOos l oos s) := by
  have hR := hP.ofAny.ofSettle
  unfold laneOos
  repeat' first
    | with_reducible assumption
    | with_reducible refine hP.set _ _ _ _ rfl ?_
    | with_reducible refine keep_recheckWrite hR _ _ ?_
    | with_reducible refine keep_updateMembers hP _ ?_
    | with_reducible refine Closed.foldl _ _ _ (fun _ _ _ => ?_) ?_
    | split

theorem keep_startTrans (hP : Closed anyField P) (l : ℕ) (dst : ℕ) (s : State) (hs : P s) :
    P (startTrans l dst s) := by
  unfold startTrans
  repeat' first
    | with_reducible assumption
    | with_reducible refine hP.setMany _ _ _ rfl ?_
    | with_reducible refine Closed.foldl _ _ _ (fun _ _ _ => ?_) ?_
    | split

theorem keep_laneStateRequest (hP : Closed anyField P) (l : ℕ) (req : ℕ) (s : State) (hs : P s) :
    P (laneStateRequest l req s) := by
  unfold laneStateRequest
  repeat' first
    | with_reducible assumption
    | with_reducible refine hP.set _ _ _ _ rfl ?_
    | with_reducible refine keep_startTrans hP _ _ _ ?_
    | (extract_lets +onlyGivenNames t; refine (fun (_ : P t) => ?_) ?_; (on_goal 2 => (dsimp -zeta only [t]; clear t)); (on_goal 1 => (clear_value t; rename' t => w)))
    | (extract_lets +onlyGivenNames t; refine (fun (_ : P t.1) => ?_) ?_; (on_goal 2 => (dsimp -zeta only [t]; clear t)); (on_goal 1 => (clear_value t; rename' t => w)))
    | (extract_lets +onlyGivenNames t; clear_value t; rename' t => w)
    | with_reducible refine Closed.foldl _ _ _ (fun _ _ _ => ?_) ?_
    | split

theorem keep_laneRequest (hP : Closed anyField P) (l : ℕ) (req : ℕ) (s : State) (hs : P s) :
    P (laneRequest l req s) := by
  unfold laneRequest
  repeat' first
    | with_reducible assumption
    | with_reducible refine keep_laneStateRequest hP _ _ _ ?_
    | (extract_lets +onlyGivenNames t; refine (fun (_ : P t) => ?_) ?_; (on_goal 2 => (dsimp -zeta only [t]; clear t)); (on_goal 1 => (clear_value t; rename' t => w)))
    | (extract_lets +onlyGivenNames t; refine (fun (_ : P t.1) => ?_) ?_; (on_goal 2 => (dsimp -zeta only [t]; clear t)); (on_goal 1 => (clear_value t; rename' t => w)))
    | (extract_lets +onlyGivenNames t; clear_value t; rename' t => w)
    | with_reducible refine Closed.foldl _ _ _ (fun _ _ _ => ?_) ?_
    | split

theorem keep_writeLanCtl (hP : Closed anyField P) (l : ℕ) (v : ℕ) (s : State) (hs : P s) :
    P (writeLanCtl l v s) := by
  unfold writeLanCtl
  repeat' first
    | with_reducible assumption
    | with_reducible refine keep_laneOos hP _ _ _ ?_
    | with_reducible refine keep_laneRequest hP _ _ _ ?_
    | (extract_lets +onlyGivenNames t; refine (fun (_ : P t) => ?_) ?_; (on_goal 2 => (dsimp -zeta only [t]; clear t)); (on_goal 1 => (clear_value t; rename' t => w)))
    | (extract_lets +onlyGivenNames t; refine (fun (_ : P t.1) => ?_) ?_; (on_goal 2 => (dsimp -zeta only [t]; clear t)); (on_goal 1 => (clear_value t; rename' t => w)))
    | (extract_lets +onlyGivenNames t; clear_value t; rename' t => w)
    | with_reducible refine Closed.foldl _ _ _ (fun _ _ _ => ?_) ?_
    | split

theorem keep_endLoad (hP : Closed anyField P) (res : ℕ) (s : State) (hs : P s) :
    P (endLoad res s) := by
  have hR := hP.ofAny.ofSettle
  unfold endLoad
  repeat' first
    | with_reducible assumption
    | with_reducible refine hP.setMany _ _ _ rfl ?_
    | with_reducible refine keep_pulse hR _ _ _ ?_
    | (extract_lets +onlyGivenNames t; refine (fun (_ : P t) => ?_) ?_; (on_goal 2 => (dsimp -zeta only [t]; clear t)); (on_goal 1 => (clear_value t; rename' t => w)))
    | (extract_lets +onlyGivenNames t; refine (fun (_ : P t.1) => ?_) ?_; (on_goal 2 => (dsimp -zeta only [t]; clear t)); (on_goal 1 => (clear_value t; rename' t => w)))
    | (extract_lets +onlyGivenNames t; clear_value t; rename' t => w)
    | with_reducible refine Closed.foldl _ _ _ (fun _ _ _ => ?_) ?_
    | split

theorem keep_imageCopy (hP : Closed anyField P) (region : ℕ) (s : State) (hs : P s) :
    P (imageCopy region s) := by
  have hS := hP.ofAny
  unfold imageCopy
  repeat' first
    | with_reducible assumption
    | with_reducible refine hP.set _ _ _ _ rfl ?_
    | with_reducible refine keep_endLoad hP _ _ ?_
    | with_reducible refine keep_showImages hS _ ?_
    | (extract_lets +onlyGivenNames t; refine (fun (_ : P t) => ?_) ?_; (on_goal 2 => (dsimp -zeta only [t]; clear t)); (on_goal 1 => (clear_value t; rename' t => w)))
    | (extract_lets +onlyGivenNames t; refine (fun (_ : P t.1) => ?_) ?_; (on_goal 2 => (dsimp -zeta only [t]; clear t)); (on_goal 1 => (clear_value t; rename' t => w)))
    | (extract_lets +onlyGivenNames t; clear_value t; rename' t => w)
    | with_reducible rfl
    | with_reducible exact List.prefix_rfl
    | with_reducible exact le_rfl
    | with_reducible exact fun h => h
    | exact fun h => Memory.wf_writeList _ _ h
    | exact Nat.le_add_right _ _
    | with_reducible exact List.prefix_append _ _
    | with_reducible refine Closed.foldl _ _ _ (fun _ _ _ => ?_) ?_
    | split
    | with_reducible refine hP.build _ ?_ ?_ ?_ ?_

theorem keep_imageLoad (hP : Closed anyField P) (region : ℕ) (s : State) (hs : P s) :
    P (imageLoad region s) := by
  have hS := hP.ofAny
  unfold imageLoad
  repeat' first
    | with_reducible assumption
    | with_reducible refine hP.set _ _ _ _ rfl ?_
    | with_reducible refine keep_endLoad hP _ _ ?_
    | with_reducible refine keep_showImages hS _ ?_
    | (extract_lets +onlyGivenNames t; refine (fun (_ : P t) => ?_) ?_; (on_goal 2 => (dsimp -zeta only [t]; clear t)); (on_goal 1 => (clear_value t; rename' t => w)))
    | (extract_lets +onlyGivenNames t; refine (fun (_ : P t.1) => ?_) ?_; (on_goal 2 => (dsimp -zeta only [t]; clear t)); (on_goal 1 => (clear_value t; rename' t => w)))
    | (extract_lets +onlyGivenNames t; clear_value t; rename' t => w)
    | with_reducible refine Closed.foldl _ _ _ (fun _ _ _ => ?_) ?_
    | split

theorem keep_writeLdCtl (hP : Closed anyField P) (v : ℕ) (s : State) (hs : P s) :
    P (writeLdCtl v s) := by
  have hR := hP.ofAny.ofSettle
  unfold writeLdCtl
  repeat' first
    | with_reducible assumption
    | with_reducible refine keep_imageCopy hP _ _ ?_
    | with_reducible refine keep_imageLoad hP _ _ ?_
    | with_reducible refine keep_when1 hR _ _ _ _ (fun _ _ => ?_) ?_
    | with_reducible refine Closed.foldl _ _ _ (fun _ _ _ => ?_) ?_
    | split

theorem keep_mgrDiscover (hP : Closed anyField P) (seed : ℕ) (s : State) (hs : P s) :
    P (mgrDiscover seed s) := by
  unfold mgrDiscover
  repeat' first
    | with_reducible assumption
    | with_reducible refine hP.setMany _ _ _ rfl ?_
    | with_reducible refine keep_claikCast hP _ _ _ ?_
    | with_reducible rfl
    | with_reducible exact List.prefix_rfl
    | with_reducible exact le_rfl
    | with_reducible exact fun h => h
    | exact fun h => Memory.wf_writeList _ _ h
    | exact Nat.le_add_right _ _
    | with_reducible exact List.prefix_append _ _
    | with_reducible refine Closed.foldl _ _ _ (fun _ _ _ => ?_) ?_
    | split
    | with_reducible refine hP.build _ ?_ ?_ ?_ ?_

theorem keep_mgrRun (hP : Closed anyField P) (run : Bool) (nzw : ℕ) (zsw : ℕ) (s : State) (hs : P s) :
    P (mgrRun run nzw zsw s) := by
  have hR := hP.ofAny.ofSettle
  unfold mgrRun
  repeat' first
    | with_reducible assumption
    | with_reducible refine hP.set _ _ _ _ rfl ?_
    | with_reducible refine hP.setMany _ _ _ rfl ?_
    | with_reducible refine keep_queueSetup hR _ _ ?_
    | with_reducible refine keep_setupNext hP _ _ _ ?_
    | with_reducible refine keep_showMgr hP _ ?_
    | (extract_lets +onlyGivenNames t; refine (fun (_ : P t) => ?_) ?_; (on_goal 2 => (dsimp -zeta only [t]; clear t)); (on_goal 1 => (clear_value t; rename' t => w)))
    | (extract_lets +onlyGivenNames t; refine (fun (_ : P t.1) => ?_) ?_; (on_goal 2 => (dsimp -zeta only [t]; clear t)); (on_goal 1 => (clear_value t; rename' t => w)))
    | (extract_lets +onlyGivenNames t; clear_value t; rename' t => w)
    | with_reducible refine Closed.foldl _ _ _ (fun _ _ _ => ?_) ?_
    | split

theorem keep_writeMgrCtl (hP : Closed anyField P) (v : ℕ) (s : State) (hs : P s) :
    P (writeMgrCtl v s) := by
  have hR := hP.ofAny.ofSettle
  unfold writeMgrCtl
  repeat' first
    | with_reducible assumption
    | with_reducible refine hP.used _ ?_
    | with_reducible refine keep_mgrDiscover hP _ _ ?_
    | with_reducible refine keep_mgrRun hP _ _ _ _ ?_
    | with_reducible refine keep_setSync hP _ _ ?_
    | with_reducible refine keep_when1 hR _ _ _ _ (fun _ _ => ?_) ?_
    | (extract_lets +onlyGivenNames t; refine (fun (_ : P t) => ?_) ?_; (on_goal 2 => (dsimp -zeta only [t]; clear t)); (on_goal 1 => (clear_value t; rename' t => w)))
    | (extract_lets +onlyGivenNames t; refine (fun (_ : P t.1) => ?_) ?_; (on_goal 2 => (dsimp -zeta only [t]; clear t)); (on_goal 1 => (clear_value t; rename' t => w)))
    | (extract_lets +onlyGivenNames t; clear_value t; rename' t => w)
    | with_reducible refine Closed.foldl _ _ _ (fun _ _ _ => ?_) ?_
    | split

theorem keep_fwOverrideRelease (hP : Closed anyField P) (o : ℕ) (s : State) (hs : P s) :
    P (fwOverrideRelease o s) := by
  unfold fwOverrideRelease
  repeat' first
    | with_reducible assumption
    | with_reducible refine hP.set _ _ _ _ rfl ?_
    | with_reducible refine Closed.foldl _ _ _ (fun _ _ _ => ?_) ?_
    | split

theorem keep_writeOutCfg (hP : Closed anyField P) (o : ℕ) (v : ℕ) (s : State) (t : State) (hs : P s) (ht : P t) :
    P (writeOutCfg o v s t) := by
  unfold writeOutCfg
  repeat' first
    | with_reducible assumption
    | with_reducible refine keep_fwOverrideRelease hP _ _ ?_
    | with_reducible refine keep_fwOverrideSet hP _ _ _ ?_
    | with_reducible refine Closed.foldl _ _ _ (fun _ _ _ => ?_) ?_
    | split

theorem keep_writeField (hP : Closed anyField P) (f : Field) (i : ℕ) (w : ℕ) (v : ℕ) (s : State) (hs : P s) :
    P (writeField f i w v s) := by
  unfold writeField
  repeat' first
    | with_reducible assumption
    | with_reducible refine hP.set _ _ _ _ rfl ?_
    | with_reducible refine Closed.foldl _ _ _ (fun _ _ _ => ?_) ?_
    | split

theorem keep_writeFields (hP : Closed anyField P) (r : RegDesc) (i : ℕ) (w : ℕ) (v : ℕ) (s : State) (hs : P s) :
    P (writeFields r i w v s) := by
  unfold writeFields
  repeat' first
    | with_reducible assumption
    | with_reducible refine keep_writeField hP _ _ _ _ _ ?_
    | with_reducible refine Closed.foldl _ _ _ (fun _ _ _ => ?_) ?_
    | split

theorem keep_writeSev (hP : Closed anyField P) (r : RegDesc) (n : ℕ) (v : ℕ) (s : State) (hs : P s) :
    P (writeSev r n v s) := by
  unfold writeSev
  repeat' first
    | with_reducible assumption
    | with_reducible refine hP.set _ _ _ _ rfl ?_
    | with_reducible refine keep_writeFields hP _ _ _ _ _ ?_
    | (extract_lets +onlyGivenNames t; refine (fun (_ : P t) => ?_) ?_; (on_goal 2 => (dsimp -zeta only [t]; clear t)); (on_goal 1 => (clear_value t; rename' t => w)))
    | (extract_lets +onlyGivenNames t; refine (fun (_ : P t.1) => ?_) ?_; (on_goal 2 => (dsimp -zeta only [t]; clear t)); (on_goal 1 => (clear_value t; rename' t => w)))
    | (extract_lets +onlyGivenNames t; clear_value t; rename' t => w)
    | with_reducible refine Closed.foldl _ _ _ (fun _ _ _ => ?_) ?_
    | split

theorem keep_sillageArm (hP : Closed anyField P) (u : ℕ) (s : State) (hs : P s) :
    P (sillageArm u s) := by
  unfold sillageArm
  repeat' first
    | with_reducible assumption
    | with_reducible refine hP.setMany _ _ _ rfl ?_
    | with_reducible refine Closed.foldl _ _ _ (fun _ _ _ => ?_) ?_
    | split

theorem keep_writeSilCtl (hP : Closed anyField P) (u : ℕ) (v : ℕ) (s : State) (hs : P s) :
    P (writeSilCtl u v s) := by
  have hR := hP.ofAny.ofSettle
  unfold writeSilCtl
  repeat' first
    | with_reducible assumption
    | with_reducible refine keep_sillageArm hP _ _ ?_
    | with_reducible refine keep_sillageForce hR _ _ ?_
    | with_reducible refine keep_sillageStop hR _ _ ?_
    | with_reducible refine keep_when1 hR _ _ _ _ (fun _ _ => ?_) ?_
    | with_reducible refine Closed.foldl _ _ _ (fun _ _ _ => ?_) ?_
    | split

theorem keep_psuspClear (hP : Closed anyField P) (s : State) (hs : P s) :
    P (psuspClear s) := by
  unfold psuspClear
  repeat' first
    | with_reducible assumption
    | with_reducible refine hP.set _ _ _ _ rfl ?_
    | with_reducible refine Closed.foldl _ _ _ (fun _ _ _ => ?_) ?_
    | split

theorem keep_spnCal (hP : Closed anyField P) (s : State) (hs : P s) :
    P (spnCal s) := by
  unfold spnCal
  repeat' first
    | with_reducible assumption
    | with_reducible refine hP.setMany _ _ _ rfl ?_
    | with_reducible refine Closed.foldl _ _ _ (fun _ _ _ => ?_) ?_
    | split

theorem keep_writeSpnCtl (hP : Closed anyField P) (v : ℕ) (s : State) (hs : P s) :
    P (writeSpnCtl v s) := by
  have hS := hP.ofAny
  have hR := hP.ofAny.ofSettle
  unfold writeSpnCtl
  repeat' first
    | with_reducible assumption
    | with_reducible refine keep_drydownOrder hS _ ?_
    | with_reducible refine keep_psuspClear hP _ ?_
    | with_reducible refine keep_spnCal hP _ ?_
    | with_reducible refine keep_spnPark hR _ ?_
    | with_reducible refine keep_startOrder hS _ ?_
    | with_reducible refine keep_stopOrder hS _ ?_
    | with_reducible refine keep_when1 hR _ _ _ _ (fun _ _ => ?_) ?_
    | with_reducible refine Closed.foldl _ _ _ (fun _ _ _ => ?_) ?_
    | split

theorem keep_startLoad (hP : Closed anyField P) (a : ℕ) (s : State) (hs : P s) :
    P (startLoad a s) := by
  unfold startLoad
  repeat' first
    | with_reducible assumption
    | with_reducible refine hP.setBit _ _ _ _ _ rfl ?_
    | with_reducible refine hP.setI _ _ _ _ rfl ?_
    | with_reducible refine hP.setMany _ _ _ rfl ?_
    | with_reducible refine Closed.forAll _ _ _ (fun _ _ _ => ?_) ?_
    | (extract_lets +onlyGivenNames t; refine (fun (_ : P t) => ?_) ?_; (on_goal 2 => (dsimp -zeta only [t]; clear t)); (on_goal 1 => (clear_value t; rename' t => w)))
    | (extract_lets +onlyGivenNames t; refine (fun (_ : P t.1) => ?_) ?_; (on_goal 2 => (dsimp -zeta only [t]; clear t)); (on_goal 1 => (clear_value t; rename' t => w)))
    | (extract_lets +onlyGivenNames t; clear_value t; rename' t => w)
    | with_reducible refine Closed.foldl _ _ _ (fun _ _ _ => ?_) ?_
    | split

theorem keep_loadRequest (hP : Closed anyField P) (a : ℕ) (s : State) (hs : P s) :
    P (loadRequest a s) := by
  unfold loadRequest
  repeat' first
    | with_reducible assumption
    | with_reducible refine hP.setMany _ _ _ rfl ?_
    | with_reducible refine keep_startLoad hP _ _ ?_
    | with_reducible refine Closed.foldl _ _ _ (fun _ _ _ => ?_) ?_
    | split

theorem keep_unloadRequest (hP : Closed anyField P) (a : ℕ) (s : State) (hs : P s) :
    P (unloadRequest a s) := by
  unfold unloadRequest
  repeat' first
    | with_reducible assumption
    | with_reducible refine hP.set _ _ _ _ rfl ?_
    | with_reducible refine keep_vcmSeek hP _ _ _ _ ?_
    | with_reducible refine Closed.foldl _ _ _ (fun _ _ _ => ?_) ?_
    | split

theorem keep_writeSrvCtl (hP : Closed anyField P) (a : ℕ) (v : ℕ) (s : State) (hs : P s) :
    P (writeSrvCtl a v s) := by
  have hR := hP.ofAny.ofSettle
  unfold writeSrvCtl
  repeat' first
    | with_reducible assumption
    | with_reducible refine keep_loadRequest hP _ _ ?_
    | with_reducible refine keep_retractRequest hR _ _ ?_
    | with_reducible refine keep_unloadRequest hP _ _ ?_
    | with_reducible refine keep_when1 hR _ _ _ _ (fun _ _ => ?_) ?_
    | (extract_lets +onlyGivenNames t; refine (fun (_ : P t) => ?_) ?_; (on_goal 2 => (dsimp -zeta only [t]; clear t)); (on_goal 1 => (clear_value t; rename' t => w)))
    | (extract_lets +onlyGivenNames t; refine (fun (_ : P t.1) => ?_) ?_; (on_goal 2 => (dsimp -zeta only [t]; clear t)); (on_goal 1 => (clear_value t; rename' t => w)))
    | (extract_lets +onlyGivenNames t; clear_value t; rename' t => w)
    | with_reducible refine Closed.foldl _ _ _ (fun _ _ _ => ?_) ?_
    | split

theorem keep_strobes (hP : Closed anyField P) (r : RegDesc) (i : ℕ) (w : ℕ) (v : ℕ) (s : State) (t : State) (hs : P s) (ht : P t) :
    P (strobes r i w v s t) := by
  have hS := hP.ofAny
  have hR := hP.ofAny.ofSettle
  unfold strobes
  repeat' first
    | with_reducible assumption
    | with_reducible refine hP.set _ _ _ _ rfl ?_
    | with_reducible refine keep_bnrDump hR _ ?_
    | with_reducible refine keep_bufFence hS _ ?_
    | with_reducible refine keep_cmpWrite hP _ _ _ _ ?_
    | with_reducible refine keep_diagWrite hR _ _ ?_
    | with_reducible refine keep_dmaResume hR _ _ ?_
    | with_reducible refine keep_driveSync hR _ ?_
    | with_reducible refine keep_egressFreeze hR _ ?_
    | with_reducible refine keep_faultInject hP _ _ ?_
    | with_reducible refine keep_firmwareEntry hP _ _ ?_
    | with_reducible refine keep_fmtRun hR _ _ ?_
    | with_reducible refine keep_freezeRelease hP _ ?_
    | with_reducible refine keep_fwOverrideSet hP _ _ _ ?_
    | with_reducible refine keep_heldStraps hR _ _ _ ?_ (fun _ _ _ _ _ => ?_) ?_
    | with_reducible refine keep_hlkRegcmdGo hP _ _ _ ?_
    | with_reducible refine keep_lanMemdatWrite hP _ _ _ ?_
    | with_reducible refine keep_loseByWrite hP _ _ ?_
    | with_reducible refine keep_lpeKill hR _ _ _ ?_
    | with_reducible refine keep_lpeRun hP _ _ ?_
    | with_reducible refine keep_lpeTrig hR _ _ _ ?_
    | with_reducible refine keep_mgrFwGo hP _ ?_
    | with_reducible refine keep_raDrop hS _ ?_
    | with_reducible refine keep_retireGo hP _ _ ?_
    | with_reducible refine keep_rstctl hP _ _ _ _ _ ?_
    | with_reducible refine keep_runHost hP _ _ ?_
    | with_reducible refine keep_seekRunAhead hP _ _ _ ?_
    | with_reducible refine keep_setSync hP _ _ ?_
    | with_reducible refine keep_setWen hR _ _ _ ?_
    | with_reducible refine keep_signalComplete hP _ ?_
    | with_reducible refine keep_speedTargetWrite hP _ _ ?_
    | with_reducible refine keep_srvMemdatWrite hP _ _ _ ?_
    | with_reducible refine keep_targetWrite hP _ _ _ ?_
    | with_reducible refine keep_updateFaultN hR _ ?_
    | with_reducible refine keep_when1 hR _ _ _ _ (fun _ _ => ?_) ?_
    | with_reducible refine keep_writeAcdCtl hP _ _ ?_
    | with_reducible refine keep_writeCommit hP _ _ _ _ ?_
    | with_reducible refine keep_writeHlkCtl hP _ _ _ ?_
    | with_reducible refine keep_writeLanCtl hP _ _ _ ?_
    | with_reducible refine keep_writeLdCtl hP _ _ ?_
    | with_reducible refine keep_writeMgrCtl hP _ _ ?_
    | with_reducible refine keep_writeOutCfg hP _ _ _ _ ?_ ?_
    | with_reducible refine keep_writeSev hP _ _ _ _ ?_
    | with_reducible refine keep_writeSilCtl hP _ _ _ ?_
    | with_reducible refine keep_writeSpnCtl hP _ _ ?_
    | with_reducible refine keep_writeSrvCtl hP _ _ _ ?_
    | with_reducible refine Closed.foldl _ _ _ (fun _ _ _ => ?_) ?_
    | split

theorem keep_writeShadow (hP : Closed anyField P) (r : RegDesc) (j : ℕ) (w : ℕ) (v : ℕ) (s : State) (hs : P s) :
    P (writeShadow r j w v s) := by
  unfold writeShadow
  repeat' first
    | with_reducible assumption
    | with_reducible refine hP.setBit _ _ _ _ _ rfl ?_
    | with_reducible refine hP.setSh _ _ _ _ ?_
    | (extract_lets +onlyGivenNames t; refine (fun (_ : P t) => ?_) ?_; (on_goal 2 => (dsimp -zeta only [t]; clear t)); (on_goal 1 => (clear_value t; rename' t => w)))
    | (extract_lets +onlyGivenNames t; refine (fun (_ : P t.1) => ?_) ?_; (on_goal 2 => (dsimp -zeta only [t]; clear t)); (on_goal 1 => (clear_value t; rename' t => w)))
    | (extract_lets +onlyGivenNames t; clear_value t; rename' t => w)
    | with_reducible refine Closed.foldl _ _ _ (fun _ _ _ => ?_) ?_
    | split

theorem keep_writeReg (hP : Closed anyField P) (off : ℕ) (v : ℕ) (s : State) (hs : P s) :
    P (writeReg off v s) := by
  unfold writeReg
  repeat' first
    | with_reducible assumption
    | with_reducible refine keep_strobes hP _ _ _ _ _ _ ?_ ?_
    | with_reducible refine keep_writeFields hP _ _ _ _ _ ?_
    | with_reducible refine keep_writeShadow hP _ _ _ _ _ ?_
    | with_reducible refine Closed.foldl _ _ _ (fun _ _ _ => ?_) ?_
    | split

theorem keep_bar4Write (hP : Closed anyField P) (off : ℕ) (v : ℕ) (s : State) (hs : P s) :
    P (bar4Write off v s) := by
  unfold bar4Write
  repeat' first
    | with_reducible assumption
    | with_reducible refine hP.bump _ _ _ rfl ?_
    | with_reducible refine keep_writeReg hP _ _ _ ?_
    | with_reducible refine Closed.foldl _ _ _ (fun _ _ _ => ?_) ?_
    | split

theorem keep_firmwareCommit (hP : Closed anyField P) (action : ℕ) (slot : ℕ) (imageOk : Bool) (isCfg : Bool) (c : NvCmd) (s : State) (hs : P s) :
    P (firmwareCommit action slot imageOk isCfg c s) := by
  have hS := hP.ofAny
  unfold firmwareCommit
  repeat' first
    | with_reducible assumption
    | with_reducible refine keep_State_modCmd hS _ _ _ ?_
    | with_reducible refine hP.set _ _ _ _ rfl ?_
    | with_reducible refine hP.used _ ?_
    | with_reducible refine keep_finish hS _ _ _ ?_
    | (extract_lets +onlyGivenNames t; refine (fun (_ : P t) => ?_) ?_; (on_goal 2 => (dsimp -zeta only [t]; clear t)); (on_goal 1 => (clear_value t; rename' t => w)))
    | (extract_lets +onlyGivenNames t; refine (fun (_ : P t.1) => ?_) ?_; (on_goal 2 => (dsimp -zeta only [t]; clear t)); (on_goal 1 => (clear_value t; rename' t => w)))
    | (extract_lets +onlyGivenNames t; clear_value t; rename' t => w)
    | with_reducible rfl
    | with_reducible exact List.prefix_rfl
    | with_reducible exact le_rfl
    | with_reducible exact fun h => h
    | exact fun h => Memory.wf_writeList _ _ h
    | exact Nat.le_add_right _ _
    | with_reducible exact List.prefix_append _ _
    | with_reducible refine Closed.foldl _ _ _ (fun _ _ _ => ?_) ?_
    | split
    | with_reducible refine hP.build _ ?_ ?_ ?_ ?_

theorem keep_commitImage (hP : Closed anyField P) (cid : BitVec 16) (action : ℕ) (slot : ℕ) (imageOk : Bool) (isCfg : Bool) (s : State) (hs : P s) :
    P (commitImage cid action slot imageOk isCfg s) := by
  have hS := hP.ofAny
  have hR := hP.ofAny.ofSettle
  unfold commitImage
  repeat' first
    | with_reducible assumption
    | with_reducible refine keep_firmwareCommit hP _ _ _ _ _ _ ?_
    | with_reducible refine keep_heldStraps hR _ _ _ ?_ (fun _ _ _ _ _ => ?_) ?_
    | with_reducible refine keep_onMedia hS _ _ _ (fun _ _ => ?_) ?_
    | with_reducible refine keep_warmReset hP _ _ _ _ _ ?_
    | with_reducible refine keep_withCmd hR _ _ _ _ _ (fun _ _ _ => ?_) ?_
    | (extract_lets +onlyGivenNames t; refine (fun (_ : P t) => ?_) ?_; (on_goal 2 => (dsimp -zeta only [t]; clear t)); (on_goal 1 => (clear_value t; rename' t => w)))
    | (extract_lets +onlyGivenNames t; refine (fun (_ : P t.1) => ?_) ?_; (on_goal 2 => (dsimp -zeta only [t]; clear t)); (on_goal 1 => (clear_value t; rename' t => w)))
    | (extract_lets +onlyGivenNames t; clear_value t; rename' t => w)
    | with_reducible refine Closed.foldl _ _ _ (fun _ _ _ => ?_) ?_
    | split

theorem keep_beginCommit (hP : Closed anyField P) (cid : BitVec 16) (action : ℕ) (slot : ℕ) (imageOk : Bool) (isCfg : Bool) (s : State) (hs : P s) :
    P (beginCommit cid action slot imageOk isCfg s) := by
  have hR := hP.ofAny.ofSettle
  unfold beginCommit
  repeat' first
    | with_reducible assumption
    | with_reducible refine keep_commitImage hP _ _ _ _ _ _ ?_
    | with_reducible refine keep_holdNor hR _ _ ?_
    | with_reducible refine Closed.foldl _ _ _ (fun _ _ _ => ?_) ?_
    | split

theorem keep_firmwareActivation (hP : Closed anyField P) (s : State) (hs : P s) :
    P (firmwareActivation s) := by
  unfold firmwareActivation
  repeat' first
    | with_reducible assumption
    | with_reducible refine keep_startActivation hP _ ?_
    | with_reducible refine Closed.foldl _ _ _ (fun _ _ _ => ?_) ?_
    | split

theorem keep_fwctlAct (hP : Closed anyField P) (ok : Bool) (t : State) (ht : P t) :
    P (fwctlAct ok t).1 := by
  unfold fwctlAct
  repeat' first
    | with_reducible assumption
    | with_reducible refine hP.set _ _ _ _ rfl ?_
    | with_reducible refine hP.setMany _ _ _ rfl ?_
    | with_reducible refine hP.used _ ?_
    | with_reducible refine keep_firmwareActivation hP _ ?_
    | (extract_lets +onlyGivenNames t; refine (fun (_ : P t) => ?_) ?_; (on_goal 2 => (dsimp -zeta only [t]; clear t)); (on_goal 1 => (clear_value t; rename' t => w)))
    | (extract_lets +onlyGivenNames t; refine (fun (_ : P t.1) => ?_) ?_; (on_goal 2 => (dsimp -zeta only [t]; clear t)); (on_goal 1 => (clear_value t; rename' t => w)))
    | (extract_lets +onlyGivenNames t; clear_value t; rename' t => w)
    | with_reducible refine Closed.foldl _ _ _ (fun _ _ _ => ?_) ?_
    | split

theorem keep_fwctlCommit (hP : Closed anyField P) (addr : ℕ) (seq : ℕ) (ok : Bool) (s : State) (hs : P s) :
    P (fwctlCommit addr seq ok s) := by
  unfold fwctlCommit
  repeat' first
    | with_reducible assumption
    | with_reducible refine keep_fwctlAct hP _ _ ?_
    | with_reducible refine keep_upRequest hP _ _ _ _ _ (fun _ _ => ?_) ?_
    | with_reducible refine Closed.foldl _ _ _ (fun _ _ _ => ?_) ?_
    | split

theorem keep_beginFwctl (hP : Closed anyField P) (addr : ℕ) (seq : ℕ) (ok : Bool) (s : State) (hs : P s) :
    P (beginFwctl addr seq ok s) := by
  have hR := hP.ofAny.ofSettle
  unfold beginFwctl
  repeat' first
    | with_reducible assumption
    | with_reducible refine keep_fwctlCommit hP _ _ _ _ ?_
    | with_reducible refine keep_holdNor hR _ _ ?_
    | with_reducible refine keep_upFrame hP _ _ _ (fun _ _ => ?_) ?_
    | with_reducible refine Closed.foldl _ _ _ (fun _ _ _ => ?_) ?_
    | split

theorem keep_loadLoops (hP : Closed anyField P) (l : ℕ) (s : State) (hs : P s) :
    P (loadLoops l s) := by
  unfold loadLoops
  repeat' first
    | with_reducible assumption
    | with_reducible refine hP.setMany _ _ _ rfl ?_
    | with_reducible refine Closed.foldl _ _ _ (fun _ _ _ => ?_) ?_
    | split

theorem keep_startFrame (hP : Closed anyField P) (l : ℕ) (b : ℤ) (s : State) (hs : P s) :
    P (startFrame l b s) := by
  unfold startFrame
  repeat' first
    | with_reducible assumption
    | with_reducible refine hP.setI _ _ _ _ rfl ?_
    | with_reducible refine hP.setMany _ _ _ rfl ?_
    | with_reducible refine Closed.foldl _ _ _ (fun _ _ _ => ?_) ?_
    | split

theorem keep_takeLoad (hP : Closed anyField P) (l : ℕ) (op : FrameOp) (s : State) (hs : P s) :
    P (takeLoad l op s) := by
  unfold takeLoad
  repeat' first
    | with_reducible assumption
    | with_reducible refine keep_applyLoad hP _ _ _ ?_
    | with_reducible refine Closed.foldl _ _ _ (fun _ _ _ => ?_) ?_
    | split

theorem keep_beginLaneWrite (hP : Closed anyField P) (l : ℕ) (s : State) (hs : P s) :
    P (beginLaneWrite l s) := by
  have hS := hP.ofAny
  have hR := hP.ofAny.ofSettle
  unfold beginLaneWrite
  repeat' first
    | with_reducible assumption
    | with_reducible refine keep_State_setLane hS _ _ _ ?_
    | with_reducible refine hP.setMany _ _ _ rfl ?_
    | with_reducible refine keep_loadLoops hP _ _ ?_
    | with_reducible refine keep_recheckWrite hR _ _ ?_
    | with_reducible refine keep_setGate hR _ _ _ ?_
    | with_reducible refine keep_startFrame hP _ _ _ ?_
    | with_reducible refine keep_takeLoad hP _ _ _ ?_
    | (extract_lets +onlyGivenNames t; refine (fun (_ : P t) => ?_) ?_; (on_goal 2 => (dsimp -zeta only [t]; clear t)); (on_goal 1 => (clear_value t; rename' t => w)))
    | (extract_lets +onlyGivenNames t; refine (fun (_ : P t.1) => ?_) ?_; (on_goal 2 => (dsimp -zeta only [t]; clear t)); (on_goal 1 => (clear_value t; rename' t => w)))
    | (extract_lets +onlyGivenNames t; clear_value t; rename' t => w)
    | with_reducible rfl
    | with_reducible exact List.prefix_rfl
    | with_reducible exact le_rfl
    | with_reducible exact fun h => h
    | exact fun h => Memory.wf_writeList _ _ h
    | exact Nat.le_add_right _ _
    | with_reducible exact List.prefix_append _ _
    | with_reducible refine Closed.foldl _ _ _ (fun _ _ _ => ?_) ?_
    | split
    | with_reducible refine hP.build _ ?_ ?_ ?_ ?_

theorem keep_bnrDat7Read (hP : Closed anyField P) (s : State) (hs : P s) :
    P (bnrDat7Read s) := by
  unfold bnrDat7Read
  repeat' first
    | with_reducible assumption
    | with_reducible refine hP.bump _ _ _ rfl ?_
    | with_reducible refine hP.ret _ _ ?_
    | (extract_lets +onlyGivenNames t; refine (fun (_ : P t) => ?_) ?_; (on_goal 2 => (dsimp -zeta only [t]; clear t)); (on_goal 1 => (clear_value t; rename' t => w)))
    | (extract_lets +onlyGivenNames t; refine (fun (_ : P t.1) => ?_) ?_; (on_goal 2 => (dsimp -zeta only [t]; clear t)); (on_goal 1 => (clear_value t; rename' t => w)))
    | (extract_lets +onlyGivenNames t; clear_value t; rename' t => w)
    | with_reducible refine Closed.foldl _ _ _ (fun _ _ _ => ?_) ?_
    | split

theorem keep_bootFinds (hP : Closed anyField P) (active : ℕ) (custKey : Bool) (nor : ℕ) (readErr : Bool) (s : State) (hs : P s) :
    P (bootFinds active custKey nor readErr s) := by
  have hR := hP.ofAny.ofSettle
  unfold bootFinds
  repeat' first
    | with_reducible assumption
    | with_reducible refine hP.setMany _ _ _ rfl ?_
    | with_reducible refine keep_pulse hR _ _ _ ?_
    | (extract_lets +onlyGivenNames t; refine (fun (_ : P t) => ?_) ?_; (on_goal 2 => (dsimp -zeta only [t]; clear t)); (on_goal 1 => (clear_value t; rename' t => w)))
    | (extract_lets +onlyGivenNames t; refine (fun (_ : P t.1) => ?_) ?_; (on_goal 2 => (dsimp -zeta only [t]; clear t)); (on_goal 1 => (clear_value t; rename' t => w)))
    | (extract_lets +onlyGivenNames t; clear_value t; rename' t => w)
    | with_reducible refine Closed.foldl _ _ _ (fun _ _ _ => ?_) ?_
    | split

theorem keep_bootSlot (hP : Closed anyField P) (i : ℕ) (f : FlaconSlot) (s : State) (hs : P s) :
    P (bootSlot i f s) := by
  unfold bootSlot
  extract_lets up src t1
  have h1 : P t1 := hP.record ((s.set FMT_VER 0 s.free).used.set FMT_STS_STORE_OK 0 1) _ rfl (fun h => wf_placeImages _ h) List.prefix_rfl le_rfl
    (hP.set _ _ _ _ rfl (hP.used _ (hP.set _ _ _ _ rfl hs)))
  clear_value t1
  exact hP.set _ _ _ _ rfl (hP.setMany _ _ _ rfl h1)


theorem keep_boundarySwap (hP : Closed anyField P) (b : ShBlk) (i : ℕ) (g : ℕ) (s : State) (hs : P s) :
    P (boundarySwap b i g s) := by
  unfold boundarySwap
  repeat' first
    | with_reducible assumption
    | with_reducible refine hP.setBit _ _ _ _ _ rfl ?_
    | with_reducible refine keep_swapGroup hP _ _ _ _ ?_
    | with_reducible refine Closed.foldl _ _ _ (fun _ _ _ => ?_) ?_
    | split

theorem keep_enterAlign (hP : Closed anyField P) (s : State) (hs : P s) :
    P (enterAlign s) := by
  have hR := hP.ofAny.ofSettle
  unfold enterAlign
  repeat' first
    | with_reducible assumption
    | with_reducible refine hP.setMany _ _ _ rfl ?_
    | with_reducible refine keep_spnGo hR _ _ _ ?_
    | with_reducible refine Closed.foldl _ _ _ (fun _ _ _ => ?_) ?_
    | split

theorem keep_brakeEnd (hP : Closed anyField P) (s : State) (hs : P s) :
    P (brakeEnd s) := by
  unfold brakeEnd
  repeat' first
    | with_reducible assumption
    | with_reducible refine keep_enterAlign hP _ ?_
    | with_reducible refine Closed.foldl _ _ _ (fun _ _ _ => ?_) ?_
    | split

theorem keep_brakeTimeout (hP : Closed anyField P) (s : State) (hs : P s) :
    P (brakeTimeout s) := by
  have hR := hP.ofAny.ofSettle
  unfold brakeTimeout
  repeat' first
    | with_reducible assumption
    | with_reducible refine keep_enterAlign hP _ ?_
    | with_reducible refine keep_pulse hR _ _ _ ?_
    | with_reducible refine keep_setBridge hR _ _ ?_
    | with_reducible refine Closed.foldl _ _ _ (fun _ _ _ => ?_) ?_
    | split

theorem keep_busLevels (hP : Closed anyField P) (vbus : ℕ) (s : State) (hs : P s) :
    P (busLevels vbus s) := by
  have hR := hP.ofAny.ofSettle
  unfold busLevels
  repeat' first
    | with_reducible assumption
    | with_reducible refine hP.set _ _ _ _ rfl ?_
    | with_reducible refine keep_lower hR _ _ _ ?_
    | (extract_lets +onlyGivenNames t; refine (fun (_ : P t) => ?_) ?_; (on_goal 2 => (dsimp -zeta only [t]; clear t)); (on_goal 1 => (clear_value t; rename' t => w)))
    | (extract_lets +onlyGivenNames t; refine (fun (_ : P t.1) => ?_) ?_; (on_goal 2 => (dsimp -zeta only [t]; clear t)); (on_goal 1 => (clear_value t; rename' t => w)))
    | (extract_lets +onlyGivenNames t; clear_value t; rename' t => w)
    | with_reducible refine Closed.foldl _ _ _ (fun _ _ _ => ?_) ?_
    | split

theorem keep_busMasterDisable (hP : Closed anyField P) (s : State) (hs : P s) :
    P (busMasterDisable s) := by
  unfold busMasterDisable
  repeat' first
    | with_reducible assumption
    | with_reducible refine hP.setBit _ _ _ _ _ rfl ?_
    | with_reducible refine hP.setMany _ _ _ rfl ?_
    | with_reducible refine Closed.foldl _ _ _ (fun _ _ _ => ?_) ?_
    | split

theorem keep_fetchFails (hP : Closed anyField P) (s : State) (hs : P s) :
    P (fetchFails s) := by
  unfold fetchFails
  repeat' first
    | with_reducible assumption
    | with_reducible refine hP.setMany _ _ _ rfl ?_
    | with_reducible refine Closed.foldl _ _ _ (fun _ _ _ => ?_) ?_
    | split

theorem keep_failHeld (hP : Closed anyField P) (s : State) (hs : P s) :
    P (failHeld s) := by
  have hS := hP.ofAny
  unfold failHeld
  repeat' first
    | with_reducible assumption
    | with_reducible refine keep_failCmd hS _ _ _ ?_
    | with_reducible refine keep_fetchFails hP _ ?_
    | with_reducible refine Closed.forAll _ _ _ (fun _ _ _ => ?_) ?_
    | (extract_lets +onlyGivenNames t; refine (fun (_ : P t) => ?_) ?_; (on_goal 2 => (dsimp -zeta only [t]; clear t)); (on_goal 1 => (clear_value t; rename' t => w)))
    | (extract_lets +onlyGivenNames t; refine (fun (_ : P t.1) => ?_) ?_; (on_goal 2 => (dsimp -zeta only [t]; clear t)); (on_goal 1 => (clear_value t; rename' t => w)))
    | (extract_lets +onlyGivenNames t; clear_value t; rename' t => w)
    | with_reducible refine Closed.foldl _ _ _ (fun _ _ _ => ?_) ?_
    | split

theorem keep_busMasterEnable (hP : Closed anyField P) (inTime : Bool) (s : State) (hs : P s) :
    P (busMasterEnable inTime s) := by
  have hR := hP.ofAny.ofSettle
  unfold busMasterEnable
  repeat' first
    | with_reducible assumption
    | with_reducible refine hP.setBit _ _ _ _ _ rfl ?_
    | with_reducible refine hP.setMany _ _ _ rfl ?_
    | with_reducible refine keep_failHeld hP _ ?_
    | with_reducible refine keep_resumeIssue hR _ ?_
    | (extract_lets +onlyGivenNames t; refine (fun (_ : P t) => ?_) ?_; (on_goal 2 => (dsimp -zeta only [t]; clear t)); (on_goal 1 => (clear_value t; rename' t => w)))
    | (extract_lets +onlyGivenNames t; refine (fun (_ : P t.1) => ?_) ?_; (on_goal 2 => (dsimp -zeta only [t]; clear t)); (on_goal 1 => (clear_value t; rename' t => w)))
    | (extract_lets +onlyGivenNames t; clear_value t; rename' t => w)
    | with_reducible refine Closed.foldl _ _ _ (fun _ _ _ => ?_) ?_
    | split

theorem keep_busOvervoltage (hP : Closed anyField P) (s : State) (hs : P s) :
    P (busOvervoltage s) := by
  have hR := hP.ofAny.ofSettle
  unfold busOvervoltage
  repeat' first
    | with_reducible assumption
    | with_reducible refine hP.set _ _ _ _ rfl ?_
    | with_reducible refine keep_raise hR _ _ _ ?_
    | with_reducible refine Closed.foldl _ _ _ (fun _ _ _ => ?_) ?_
    | split

theorem keep_calStep (hP : Closed anyField P) (s : State) (hs : P s) :
    P (calStep s) := by
  unfold calStep
  repeat' first
    | with_reducible assumption
    | with_reducible refine hP.add _ _ _ _ rfl ?_
    | with_reducible refine hP.setI _ _ _ _ rfl ?_
    | with_reducible refine hP.setMany _ _ _ rfl ?_
    | (extract_lets +onlyGivenNames t; refine (fun (_ : P t) => ?_) ?_; (on_goal 2 => (dsimp -zeta only [t]; clear t)); (on_goal 1 => (clear_value t; rename' t => w)))
    | (extract_lets +onlyGivenNames t; refine (fun (_ : P t.1) => ?_) ?_; (on_goal 2 => (dsimp -zeta only [t]; clear t)); (on_goal 1 => (clear_value t; rename' t => w)))
    | (extract_lets +onlyGivenNames t; clear_value t; rename' t => w)
    | with_reducible refine Closed.foldl _ _ _ (fun _ _ _ => ?_) ?_
    | split

theorem keep_captureGroup (hP : Closed anyField P) (g : ℕ) (v : ℕ) (win : ℕ) (s : State) (hs : P s) :
    P (captureGroup g v win s) := by
  unfold captureGroup
  repeat' first
    | with_reducible assumption
    | with_reducible refine Closed.forBelow _ _ _ (fun _ _ _ => ?_) ?_
    | with_reducible refine keep_silCapture hP _ _ _ _ _ ?_
    | with_reducible refine Closed.foldl _ _ _ (fun _ _ _ => ?_) ?_
    | split

theorem keep_catchEnd (hP : Closed anyField P) (s : State) (hs : P s) :
    P (catchEnd s) := by
  have hR := hP.ofAny.ofSettle
  unfold catchEnd
  repeat' first
    | with_reducible assumption
    | with_reducible refine hP.set _ _ _ _ rfl ?_
    | with_reducible refine keep_keepAngle hR _ _ (fun _ _ => ?_) ?_
    | with_reducible refine keep_parkedEnd hR _ ?_
    | with_reducible refine keep_spnGo hR _ _ _ ?_
    | (extract_lets +onlyGivenNames t; refine (fun (_ : P t) => ?_) ?_; (on_goal 2 => (dsimp -zeta only [t]; clear t)); (on_goal 1 => (clear_value t; rename' t => w)))
    | (extract_lets +onlyGivenNames t; refine (fun (_ : P t.1) => ?_) ?_; (on_goal 2 => (dsimp -zeta only [t]; clear t)); (on_goal 1 => (clear_value t; rename' t => w)))
    | (extract_lets +onlyGivenNames t; clear_value t; rename' t => w)
    | with_reducible refine Closed.foldl _ _ _ (fun _ _ _ => ?_) ?_
    | split

theorem keep_clearBits (hP : Closed anyField P) (f : Field) (v : ℕ) (s : State) (hs : P s) :
    P (clearBits f v s) := by
  unfold clearBits
  repeat' first
    | with_reducible assumption
    | with_reducible refine hP.set _ _ _ _ rfl ?_
    | with_reducible refine Closed.foldl _ _ _ (fun _ _ _ => ?_) ?_
    | split

theorem keep_d0Entry (hP : Closed anyField P) (s : State) (hs : P s) :
    P (d0Entry s) := by
  have hS := hP.ofAny
  have hR := hP.ofAny.ofSettle
  unfold d0Entry
  repeat' first
    | with_reducible assumption
    | with_reducible refine hP.setMany _ _ _ rfl ?_
    | with_reducible refine keep_resumeIssue hR _ ?_
    | with_reducible refine keep_sendLtr hS _ ?_
    | with_reducible refine Closed.foldl _ _ _ (fun _ _ _ => ?_) ?_
    | split

theorem keep_d3hotEntry (hP : Closed anyField P) (s : State) (hs : P s) :
    P (d3hotEntry s) := by
  have hS := hP.ofAny
  unfold d3hotEntry
  repeat' first
    | with_reducible assumption
    | with_reducible refine hP.setMany _ _ _ rfl ?_
    | with_reducible refine keep_sendLtr hS _ ?_
    | with_reducible refine Closed.foldl _ _ _ (fun _ _ _ => ?_) ?_
    | split

theorem keep_showCto (hP : Closed anyField P) (s : State) (hs : P s) :
    P (showCto s) := by
  unfold showCto
  repeat' first
    | with_reducible assumption
    | with_reducible refine hP.setMany _ _ _ rfl ?_
    | (extract_lets +onlyGivenNames t; refine (fun (_ : P t) => ?_) ?_; (on_goal 2 => (dsimp -zeta only [t]; clear t)); (on_goal 1 => (clear_value t; rename' t => w)))
    | (extract_lets +onlyGivenNames t; refine (fun (_ : P t.1) => ?_) ?_; (on_goal 2 => (dsimp -zeta only [t]; clear t)); (on_goal 1 => (clear_value t; rename' t => w)))
    | (extract_lets +onlyGivenNames t; clear_value t; rename' t => w)
    | with_reducible refine Closed.foldl _ _ _ (fun _ _ _ => ?_) ?_
    | split

theorem keep_resetCfg (hP : Closed anyField P) (s : State) (hs : P s) :
    P (resetCfg s) := by
  unfold resetCfg
  exact keep_showCto hP _ (hP.setMany _ _ _ rfl (hP.regs (fun _ => rfl) s _ (fun h => h) List.prefix_rfl le_rfl hs))


theorem keep_functionLevelReset (hP : Closed anyField P) (s : State) (hs : P s) :
    P (functionLevelReset s) := by
  unfold functionLevelReset
  repeat' first
    | with_reducible assumption
    | with_reducible refine keep_endFreeze hP _ ?_
    | with_reducible refine keep_nvqReset hP _ ?_
    | with_reducible refine keep_resetCfg hP _ ?_
    | with_reducible rfl
    | with_reducible exact List.prefix_rfl
    | with_reducible exact le_rfl
    | with_reducible exact fun h => h
    | exact fun h => Memory.wf_writeList _ _ h
    | exact Nat.le_add_right _ _
    | with_reducible exact List.prefix_append _ _
    | with_reducible refine Closed.foldl _ _ _ (fun _ _ _ => ?_) ?_
    | split
    | with_reducible refine hP.build _ ?_ ?_ ?_ ?_

theorem keep_writeCommand (hP : Closed anyField P) (v : ℕ) (s : State) (hs : P s) :
    P (writeCommand v s) := by
  have hR := hP.ofAny.ofSettle
  unfold writeCommand
  repeat' first
    | with_reducible assumption
    | with_reducible refine hP.set _ _ _ _ rfl ?_
    | with_reducible refine keep_busMasterDisable hP _ ?_
    | with_reducible refine keep_busMasterEnable hP _ _ ?_
    | with_reducible refine keep_clearBits hP _ _ _ ?_
    | with_reducible refine keep_updateInta hR _ ?_
    | (extract_lets +onlyGivenNames t; refine (fun (_ : P t) => ?_) ?_; (on_goal 2 => (dsimp -zeta only [t]; clear t)); (on_goal 1 => (clear_value t; rename' t => w)))
    | (extract_lets +onlyGivenNames t; refine (fun (_ : P t.1) => ?_) ?_; (on_goal 2 => (dsimp -zeta only [t]; clear t)); (on_goal 1 => (clear_value t; rename' t => w)))
    | (extract_lets +onlyGivenNames t; clear_value t; rename' t => w)
    | with_reducible refine Closed.foldl _ _ _ (fun _ _ _ => ?_) ?_
    | split

theorem keep_cfgWrite (hP : Closed anyField P) (off : ℕ) (v : ℕ) (s : State) (hs : P s) :
    P (cfgWrite off v s) := by
  have hR := hP.ofAny.ofSettle
  unfold cfgWrite
  repeat' first
    | with_reducible assumption
    | with_reducible refine hP.set _ _ _ _ rfl ?_
    | with_reducible refine hP.setMany _ _ _ rfl ?_
    | with_reducible refine keep_clearBits hP _ _ _ ?_
    | with_reducible refine keep_d0Entry hP _ ?_
    | with_reducible refine keep_d3hotEntry hP _ ?_
    | with_reducible refine keep_functionLevelReset hP _ ?_
    | with_reducible refine keep_sendPending hR _ ?_
    | with_reducible refine keep_showCto hP _ ?_
    | with_reducible refine keep_updateInta hR _ ?_
    | with_reducible refine keep_writeCommand hP _ _ ?_
    | (extract_lets +onlyGivenNames t; refine (fun (_ : P t) => ?_) ?_; (on_goal 2 => (dsimp -zeta only [t]; clear t)); (on_goal 1 => (clear_value t; rename' t => w)))
    | (extract_lets +onlyGivenNames t; refine (fun (_ : P t.1) => ?_) ?_; (on_goal 2 => (dsimp -zeta only [t]; clear t)); (on_goal 1 => (clear_value t; rename' t => w)))
    | (extract_lets +onlyGivenNames t; clear_value t; rename' t => w)
    | with_reducible refine Closed.foldl _ _ _ (fun _ _ _ => ?_) ?_
    | split

theorem keep_cfgdoneTimeout (hP : Closed anyField P) (s : State) (hs : P s) :
    P (cfgdoneTimeout s) := by
  have hR := hP.ofAny.ofSettle
  unfold cfgdoneTimeout
  repeat' first
    | with_reducible assumption
    | with_reducible refine keep_configurationComplete hP _ ?_
    | with_reducible refine keep_pulse hR _ _ _ ?_
    | (extract_lets +onlyGivenNames t; refine (fun (_ : P t) => ?_) ?_; (on_goal 2 => (dsimp -zeta only [t]; clear t)); (on_goal 1 => (clear_value t; rename' t => w)))
    | (extract_lets +onlyGivenNames t; refine (fun (_ : P t.1) => ?_) ?_; (on_goal 2 => (dsimp -zeta only [t]; clear t)); (on_goal 1 => (clear_value t; rename' t => w)))
    | (extract_lets +onlyGivenNames t; clear_value t; rename' t => w)
    | with_reducible refine Closed.foldl _ _ _ (fun _ _ _ => ?_) ?_
    | split

theorem keep_checkpointRestore (hP : Closed anyField P) (badSaves : List (ℕ × ℕ)) (badRecords : List (ℕ × ℕ)) (s : State) (hs : P s) :
    P (checkpointRestore badSaves badRecords s) := by
  have hS := hP.ofAny
  unfold checkpointRestore
  repeat' first
    | with_reducible assumption
    | with_reducible refine hP.set _ _ _ _ rfl ?_
    | with_reducible refine hP.setMany _ _ _ rfl ?_
    | with_reducible refine keep_applyImage hP _ _ ?_
    | with_reducible refine keep_checkTable hP _ _ ?_
    | with_reducible refine keep_showResync hS _ ?_
    | with_reducible refine keep_updateMembers hP _ ?_
    | with_reducible refine keep_updateSpare hS _ ?_
    | (extract_lets +onlyGivenNames t; refine (fun (_ : P t) => ?_) ?_; (on_goal 2 => (dsimp -zeta only [t]; clear t)); (on_goal 1 => (clear_value t; rename' t => w)))
    | (extract_lets +onlyGivenNames t; refine (fun (_ : P t.1) => ?_) ?_; (on_goal 2 => (dsimp -zeta only [t]; clear t)); (on_goal 1 => (clear_value t; rename' t => w)))
    | (extract_lets +onlyGivenNames t; clear_value t; rename' t => w)
    | with_reducible rfl
    | with_reducible exact List.prefix_rfl
    | with_reducible exact le_rfl
    | with_reducible exact fun h => h
    | exact fun h => Memory.wf_writeList _ _ h
    | exact Nat.le_add_right _ _
    | with_reducible exact List.prefix_append _ _
    | with_reducible refine Closed.foldl _ _ _ (fun _ _ _ => ?_) ?_
    | split
    | with_reducible refine hP.build _ ?_ ?_ ?_ ?_

theorem keep_chooseSlot (hP : Closed anyField P) (active : ℕ) (slots : FlaconSlot × FlaconSlot) (s : State) (hs : P s) :
    P (chooseSlot active slots s).1 := by
  have hR := hP.ofAny.ofSettle
  unfold chooseSlot
  repeat' first
    | with_reducible assumption
    | with_reducible refine keep_bootSlot hP _ _ _ ?_
    | with_reducible refine keep_pulse hR _ _ _ ?_
    | (extract_lets +onlyGivenNames t; refine (fun (_ : P t) => ?_) ?_; (on_goal 2 => (dsimp -zeta only [t]; clear t)); (on_goal 1 => (clear_value t; rename' t => w)))
    | (extract_lets +onlyGivenNames t; refine (fun (_ : P t.1) => ?_) ?_; (on_goal 2 => (dsimp -zeta only [t]; clear t)); (on_goal 1 => (clear_value t; rename' t => w)))
    | (extract_lets +onlyGivenNames t; clear_value t; rename' t => w)
    | with_reducible refine Closed.foldl _ _ _ (fun _ _ _ => ?_) ?_
    | split

theorem keep_claikCrc (hP : Closed anyField P) (up : Bool) (s : State) (hs : P s) :
    P (claikCrc up s) := by
  have hR := hP.ofAny.ofSettle
  unfold claikCrc
  repeat' first
    | with_reducible assumption
    | with_reducible refine hP.bump _ _ _ rfl ?_
    | with_reducible refine keep_pulse hR _ _ _ ?_
    | with_reducible refine Closed.foldl _ _ _ (fun _ _ _ => ?_) ?_
    | split

theorem keep_claikTimeout (hP : Closed anyField P) (s : State) (hs : P s) :
    P (claikTimeout s) := by
  have hR := hP.ofAny.ofSettle
  unfold claikTimeout
  repeat' first
    | with_reducible assumption
    | with_reducible refine hP.addSat _ _ _ _ rfl ?_
    | with_reducible refine hP.bump _ _ _ rfl ?_
    | with_reducible refine hP.set _ _ _ _ rfl ?_
    | with_reducible refine keep_fwStep hP _ ?_
    | with_reducible refine keep_raise hR _ _ _ ?_
    | with_reducible refine keep_sendFront hR _ ?_
    | (extract_lets +onlyGivenNames t; refine (fun (_ : P t) => ?_) ?_; (on_goal 2 => (dsimp -zeta only [t]; clear t)); (on_goal 1 => (clear_value t; rename' t => w)))
    | (extract_lets +onlyGivenNames t; refine (fun (_ : P t.1) => ?_) ?_; (on_goal 2 => (dsimp -zeta only [t]; clear t)); (on_goal 1 => (clear_value t; rename' t => w)))
    | (extract_lets +onlyGivenNames t; clear_value t; rename' t => w)
    | with_reducible rfl
    | with_reducible exact List.prefix_rfl
    | with_reducible exact le_rfl
    | with_reducible exact fun h => h
    | exact fun h => Memory.wf_writeList _ _ h
    | exact Nat.le_add_right _ _
    | with_reducible exact List.prefix_append _ _
    | with_reducible refine Closed.foldl _ _ _ (fun _ _ _ => ?_) ?_
    | split
    | with_reducible refine hP.build _ ?_ ?_ ?_ ?_

theorem keep_clearance (hP : Closed anyField P) (h_0 : ℕ) (w : Wedge) (good : Bool) (s : State) (hs : P s) :
    P (clearance h_0 w good s) := by
  unfold clearance
  repeat' first
    | with_reducible assumption
    | with_reducible refine hP.add _ _ _ _ rfl ?_
    | with_reducible refine hP.addSat _ _ _ _ rfl ?_
    | with_reducible refine hP.set _ _ _ _ rfl ?_
    | with_reducible refine hP.setI _ _ _ _ rfl ?_
    | with_reducible refine hP.setMany _ _ _ rfl ?_
    | (extract_lets +onlyGivenNames t; refine (fun (_ : P t) => ?_) ?_; (on_goal 2 => (dsimp -zeta only [t]; clear t)); (on_goal 1 => (clear_value t; rename' t => w)))
    | (extract_lets +onlyGivenNames t; refine (fun (_ : P t.1) => ?_) ?_; (on_goal 2 => (dsimp -zeta only [t]; clear t)); (on_goal 1 => (clear_value t; rename' t => w)))
    | (extract_lets +onlyGivenNames t; clear_value t; rename' t => w)
    | with_reducible refine Closed.foldl _ _ _ (fun _ _ _ => ?_) ?_
    | split

theorem keep_closeGap (hP : Closed anyField P) (l : ℕ) (s : State) (hs : P s) :
    P (closeGap l s) := by
  unfold closeGap
  repeat' first
    | with_reducible assumption
    | with_reducible refine hP.add _ _ _ _ rfl ?_
    | with_reducible refine Closed.foldl _ _ _ (fun _ _ _ => ?_) ?_
    | split

theorem keep_closeWindow (hP : Closed anyField P) (l : ℕ) (s : State) (hs : P s) :
    P (closeWindow l s) := by
  have hR := hP.ofAny.ofSettle
  unfold closeWindow
  repeat' first
    | with_reducible assumption
    | with_reducible refine hP.set _ _ _ _ rfl ?_
    | with_reducible refine keep_closeGap hP _ _ ?_
    | with_reducible refine keep_recheckWrite hR _ _ ?_
    | with_reducible refine keep_setGate hR _ _ _ ?_
    | (extract_lets +onlyGivenNames t; refine (fun (_ : P t) => ?_) ?_; (on_goal 2 => (dsimp -zeta only [t]; clear t)); (on_goal 1 => (clear_value t; rename' t => w)))
    | (extract_lets +onlyGivenNames t; refine (fun (_ : P t.1) => ?_) ?_; (on_goal 2 => (dsimp -zeta only [t]; clear t)); (on_goal 1 => (clear_value t; rename' t => w)))
    | (extract_lets +onlyGivenNames t; clear_value t; rename' t => w)
    | with_reducible refine Closed.foldl _ _ _ (fun _ _ _ => ?_) ?_
    | split

theorem keep_showSync (hP : Closed anyField P) (l : ℕ) (off : ℤ) (kind : ℕ) (dist : ℕ) (s : State) (hs : P s) :
    P (showSync l off kind dist s) := by
  unfold showSync
  repeat' first
    | with_reducible assumption
    | with_reducible refine hP.bump _ _ _ rfl ?_
    | with_reducible refine hP.setI _ _ _ _ rfl ?_
    | with_reducible refine hP.setMany _ _ _ rfl ?_
    | (extract_lets +onlyGivenNames t; refine (fun (_ : P t) => ?_) ?_; (on_goal 2 => (dsimp -zeta only [t]; clear t)); (on_goal 1 => (clear_value t; rename' t => w)))
    | (extract_lets +onlyGivenNames t; refine (fun (_ : P t.1) => ?_) ?_; (on_goal 2 => (dsimp -zeta only [t]; clear t)); (on_goal 1 => (clear_value t; rename' t => w)))
    | (extract_lets +onlyGivenNames t; clear_value t; rename' t => w)
    | with_reducible refine Closed.foldl _ _ _ (fun _ _ _ => ?_) ?_
    | split

theorem keep_countSync (hP : Closed anyField P) (l : ℕ) (op : FrameOp) (x : Option Hit × Bool) (s : State) (hs : P s) :
    P (countSync l op x s).1 := by
  have hR := hP.ofAny.ofSettle
  unfold countSync
  repeat' first
    | with_reducible assumption
    | with_reducible refine keep_pulse hR _ _ _ ?_
    | with_reducible refine keep_showSync hP _ _ _ _ _ ?_
    | (extract_lets +onlyGivenNames t; refine (fun (_ : P t) => ?_) ?_; (on_goal 2 => (dsimp -zeta only [t]; clear t)); (on_goal 1 => (clear_value t; rename' t => w)))
    | (extract_lets +onlyGivenNames t; refine (fun (_ : P t.1) => ?_) ?_; (on_goal 2 => (dsimp -zeta only [t]; clear t)); (on_goal 1 => (clear_value t; rename' t => w)))
    | (extract_lets +onlyGivenNames t; clear_value t; rename' t => w)
    | with_reducible refine Closed.foldl _ _ _ (fun _ _ _ => ?_) ?_
    | split

theorem keep_judgeSync (hP : Closed anyField P) (l : ℕ) (fid : ℕ) (s : State) (hs : P s) :
    P (judgeSync l fid s) := by
  have hS := hP.ofAny
  unfold judgeSync
  repeat' first
    | with_reducible assumption
    | with_reducible refine keep_State_modFrame hS _ _ _ ?_
    | with_reducible refine keep_countSync hP _ _ _ _ ?_
    | (extract_lets +onlyGivenNames t; refine (fun (_ : P t) => ?_) ?_; (on_goal 2 => (dsimp -zeta only [t]; clear t)); (on_goal 1 => (clear_value t; rename' t => w)))
    | (extract_lets +onlyGivenNames t; refine (fun (_ : P t.1) => ?_) ?_; (on_goal 2 => (dsimp -zeta only [t]; clear t)); (on_goal 1 => (clear_value t; rename' t => w)))
    | (extract_lets +onlyGivenNames t; clear_value t; rename' t => w)
    | with_reducible rfl
    | with_reducible exact List.prefix_rfl
    | with_reducible exact le_rfl
    | with_reducible exact fun h => h
    | exact fun h => Memory.wf_writeList _ _ h
    | exact Nat.le_add_right _ _
    | with_reducible exact List.prefix_append _ _
    | with_reducible refine Closed.foldl _ _ _ (fun _ _ _ => ?_) ?_
    | split
    | with_reducible refine hP.build _ ?_ ?_ ?_ ?_

theorem keep_noteFlag (hP : Closed anyField P) (l : ℕ) (s : State) (hs : P s) :
    P (noteFlag l s) := by
  unfold noteFlag
  repeat' first
    | with_reducible assumption
    | with_reducible refine hP.set _ _ _ _ rfl ?_
    | with_reducible refine Closed.foldl _ _ _ (fun _ _ _ => ?_) ?_
    | split

theorem keep_readNext (hP : Closed anyField P) (l : ℕ) (next : Option (ℕ × ℕ)) (s : State) (hs : P s) :
    P (readNext l next s) := by
  have hS := hP.ofAny
  unfold readNext
  repeat' first
    | with_reducible assumption
    | with_reducible refine keep_State_setLane hS _ _ _ ?_
    | with_reducible refine keep_beginLaneWrite hP _ _ ?_
    | with_reducible refine keep_noteFlag hP _ _ ?_
    | with_reducible rfl
    | with_reducible exact List.prefix_rfl
    | with_reducible exact le_rfl
    | with_reducible exact fun h => h
    | exact fun h => Memory.wf_writeList _ _ h
    | exact Nat.le_add_right _ _
    | with_reducible exact List.prefix_append _ _
    | with_reducible refine Closed.foldl _ _ _ (fun _ _ _ => ?_) ?_
    | split
    | with_reducible refine hP.build _ ?_ ?_ ?_ ?_

theorem keep_codewordStaged (hP : Closed anyField P) (l : ℕ) (soft : List (BitVec 4)) (s : State) (hs : P s) :
    P (codewordStaged l soft s) := by
  have hS := hP.ofAny
  have hR := hP.ofAny.ofSettle
  unfold codewordStaged
  repeat' first
    | with_reducible assumption
    | with_reducible refine hP.bump _ _ _ rfl ?_
    | with_reducible refine keep_State_modFrame hS _ _ _ ?_
    | with_reducible refine keep_judgeSync hP _ _ _ ?_
    | with_reducible refine keep_pulse hR _ _ _ ?_
    | with_reducible refine keep_readNext hP _ _ _ ?_
    | with_reducible refine keep_report hS _ _ _ _ _ _ _ ?_
    | with_reducible refine keep_showStaged hS _ _ ?_
    | with_reducible refine keep_showWait hS _ ?_
    | (extract_lets +onlyGivenNames t; refine (fun (_ : P t) => ?_) ?_; (on_goal 2 => (dsimp -zeta only [t]; clear t)); (on_goal 1 => (clear_value t; rename' t => w)))
    | (extract_lets +onlyGivenNames t; refine (fun (_ : P t.1) => ?_) ?_; (on_goal 2 => (dsimp -zeta only [t]; clear t)); (on_goal 1 => (clear_value t; rename' t => w)))
    | (extract_lets +onlyGivenNames t; clear_value t; rename' t => w)
    | with_reducible rfl
    | with_reducible exact List.prefix_rfl
    | with_reducible exact le_rfl
    | with_reducible exact fun h => h
    | exact fun h => Memory.wf_writeList _ _ h
    | exact Nat.le_add_right _ _
    | with_reducible exact List.prefix_append _ _
    | with_reducible refine Closed.foldl _ _ _ (fun _ _ _ => ?_) ?_
    | split
    | with_reducible refine hP.build _ ?_ ?_ ?_ ?_

theorem keep_showHeads (hP : Closed anyField P) (a : ℕ) (s : State) (hs : P s) :
    P (showHeads a s) := by
  unfold showHeads
  repeat' first
    | with_reducible assumption
    | with_reducible refine hP.setMany _ _ _ rfl ?_
    | (extract_lets +onlyGivenNames t; refine (fun (_ : P t) => ?_) ?_; (on_goal 2 => (dsimp -zeta only [t]; clear t)); (on_goal 1 => (clear_value t; rename' t => w)))
    | (extract_lets +onlyGivenNames t; refine (fun (_ : P t.1) => ?_) ?_; (on_goal 2 => (dsimp -zeta only [t]; clear t)); (on_goal 1 => (clear_value t; rename' t => w)))
    | (extract_lets +onlyGivenNames t; clear_value t; rename' t => w)
    | with_reducible refine Closed.foldl _ _ _ (fun _ _ _ => ?_) ?_
    | split

theorem keep_coilOpen (hP : Closed anyField P) (a : ℕ) (s : State) (hs : P s) :
    P (coilOpen a s) := by
  have hR := hP.ofAny.ofSettle
  unfold coilOpen
  repeat' first
    | with_reducible assumption
    | with_reducible refine hP.setBit _ _ _ _ _ rfl ?_
    | with_reducible refine hP.setMany _ _ _ rfl ?_
    | with_reducible refine Closed.forAll _ _ _ (fun _ _ _ => ?_) ?_
    | with_reducible refine keep_headsOut hR _ _ ?_
    | with_reducible refine keep_pulse hR _ _ _ ?_
    | with_reducible refine keep_showHeads hP _ _ ?_
    | with_reducible refine keep_withFollow hR _ ?_
    | (extract_lets +onlyGivenNames t; refine (fun (_ : P t) => ?_) ?_; (on_goal 2 => (dsimp -zeta only [t]; clear t)); (on_goal 1 => (clear_value t; rename' t => w)))
    | (extract_lets +onlyGivenNames t; refine (fun (_ : P t.1) => ?_) ?_; (on_goal 2 => (dsimp -zeta only [t]; clear t)); (on_goal 1 => (clear_value t; rename' t => w)))
    | (extract_lets +onlyGivenNames t; clear_value t; rename' t => w)
    | with_reducible refine Closed.foldl _ _ _ (fun _ _ _ => ?_) ?_
    | split

theorem keep_takeEntry (hP : Closed anyField P) (e : SqEntry) (q : Sq) (s : State) (hs : P s) :
    P (takeEntry e q s) := by
  have hS := hP.ofAny
  unfold takeEntry
  repeat' first
    | with_reducible assumption
    | with_reducible refine hP.bump _ _ _ rfl ?_
    | with_reducible refine hP.setMany _ _ _ rfl ?_
    | with_reducible refine keep_showTags hS _ ?_
    | (extract_lets +onlyGivenNames t; refine (fun (_ : P t) => ?_) ?_; (on_goal 2 => (dsimp -zeta only [t]; clear t)); (on_goal 1 => (clear_value t; rename' t => w)))
    | (extract_lets +onlyGivenNames t; refine (fun (_ : P t.1) => ?_) ?_; (on_goal 2 => (dsimp -zeta only [t]; clear t)); (on_goal 1 => (clear_value t; rename' t => w)))
    | (extract_lets +onlyGivenNames t; clear_value t; rename' t => w)
    | with_reducible rfl
    | with_reducible exact List.prefix_rfl
    | with_reducible exact le_rfl
    | with_reducible exact fun h => h
    | exact fun h => Memory.wf_writeList _ _ h
    | exact Nat.le_add_right _ _
    | with_reducible exact List.prefix_append _ _
    | with_reducible refine Closed.foldl _ _ _ (fun _ _ _ => ?_) ?_
    | split
    | with_reducible refine hP.build _ ?_ ?_ ?_ ?_

theorem keep_commandFetch (hP : Closed anyField P) (e : SqEntry) (s : State) (hs : P s) :
    P (commandFetch e s) := by
  have hS := hP.ofAny
  have hR := hP.ofAny.ofSettle
  unfold commandFetch
  repeat' first
    | with_reducible assumption
    | with_reducible refine hP.bump _ _ _ rfl ?_
    | with_reducible refine keep_complete hR _ _ _ _ _ ?_
    | with_reducible refine keep_leavePower hS _ ?_
    | with_reducible refine keep_takeEntry hP _ _ _ ?_
    | (extract_lets +onlyGivenNames t; refine (fun (_ : P t) => ?_) ?_; (on_goal 2 => (dsimp -zeta only [t]; clear t)); (on_goal 1 => (clear_value t; rename' t => w)))
    | (extract_lets +onlyGivenNames t; refine (fun (_ : P t.1) => ?_) ?_; (on_goal 2 => (dsimp -zeta only [t]; clear t)); (on_goal 1 => (clear_value t; rename' t => w)))
    | (extract_lets +onlyGivenNames t; clear_value t; rename' t => w)
    | with_reducible refine Closed.foldl _ _ _ (fun _ _ _ => ?_) ?_
    | split

theorem keep_resolveGroup (hP : Closed anyField P) (g : ℕ) (s : State) (hs : P s) :
    P (resolveGroup g s).1 := by
  unfold resolveGroup
  repeat' first
    | with_reducible assumption
    | with_reducible refine hP.bump _ _ _ rfl ?_
    | with_reducible refine hP.set _ _ _ _ rfl ?_
    | with_reducible refine hP.setI _ _ _ _ rfl ?_
    | with_reducible refine hP.setMany _ _ _ rfl ?_
    | with_reducible refine hP.used _ ?_
    | with_reducible refine keep_captureGroup hP _ _ _ _ ?_
    | (extract_lets +onlyGivenNames t; refine (fun (_ : P t) => ?_) ?_; (on_goal 2 => (dsimp -zeta only [t]; clear t)); (on_goal 1 => (clear_value t; rename' t => w)))
    | (extract_lets +onlyGivenNames t; refine (fun (_ : P t.1) => ?_) ?_; (on_goal 2 => (dsimp -zeta only [t]; clear t)); (on_goal 1 => (clear_value t; rename' t => w)))
    | (extract_lets +onlyGivenNames t; clear_value t; rename' t => w)
    | with_reducible refine Closed.foldl _ _ _ (fun _ _ _ => ?_) ?_
    | split

theorem keep_resolveOwned (hP : Closed anyField P) (c : ℕ) (a : List ℕ) (a2 : State) (ha2 : P a2) :
    P (resolveOwned c a a2).1 := by
  induction a generalizing a2 with
  | nil =>
    unfold resolveOwned
    repeat' first
      | with_reducible assumption
      | with_reducible refine keep_resolveGroup hP _ _ ?_
      | (extract_lets +onlyGivenNames t; refine (fun (_ : P t) => ?_) ?_; (on_goal 2 => (dsimp -zeta only [t]; clear t)); (on_goal 1 => (clear_value t; rename' t => w)))
      | (extract_lets +onlyGivenNames t; refine (fun (_ : P t.1) => ?_) ?_; (on_goal 2 => (dsimp -zeta only [t]; clear t)); (on_goal 1 => (clear_value t; rename' t => w)))
      | (extract_lets +onlyGivenNames t; clear_value t; rename' t => w)
      | with_reducible refine Closed.foldl _ _ _ (fun _ _ _ => ?_) ?_
      | split
  | cons e t ih =>
    unfold resolveOwned
    repeat' first
      | with_reducible assumption
      | with_reducible refine ih _ ?_
      | with_reducible refine keep_resolveGroup hP _ _ ?_
      | (extract_lets +onlyGivenNames t; refine (fun (_ : P t) => ?_) ?_; (on_goal 2 => (dsimp -zeta only [t]; clear t)); (on_goal 1 => (clear_value t; rename' t => w)))
      | (extract_lets +onlyGivenNames t; refine (fun (_ : P t.1) => ?_) ?_; (on_goal 2 => (dsimp -zeta only [t]; clear t)); (on_goal 1 => (clear_value t; rename' t => w)))
      | (extract_lets +onlyGivenNames t; clear_value t; rename' t => w)
      | with_reducible refine Closed.foldl _ _ _ (fun _ _ _ => ?_) ?_
      | split

theorem keep_commitPlan (hP : Closed anyField P) (c : ℕ) (s : State) (hs : P s) :
    P (commitPlan c s).1 := by
  unfold commitPlan
  repeat' first
    | with_reducible assumption
    | with_reducible refine keep_applyCandidate hP _ _ ?_
    | with_reducible refine Closed.forAll _ _ _ (fun _ _ _ => ?_) ?_
    | with_reducible refine keep_resolveOwned hP _ _ _ ?_
    | (extract_lets +onlyGivenNames t; refine (fun (_ : P t) => ?_) ?_; (on_goal 2 => (dsimp -zeta only [t]; clear t)); (on_goal 1 => (clear_value t; rename' t => w)))
    | (extract_lets +onlyGivenNames t; refine (fun (_ : P t.1) => ?_) ?_; (on_goal 2 => (dsimp -zeta only [t]; clear t)); (on_goal 1 => (clear_value t; rename' t => w)))
    | (extract_lets +onlyGivenNames t; clear_value t; rename' t => w)
    | with_reducible rfl
    | with_reducible exact List.prefix_rfl
    | with_reducible exact le_rfl
    | with_reducible exact fun h => h
    | exact fun h => Memory.wf_writeList _ _ h
    | exact Nat.le_add_right _ _
    | with_reducible exact List.prefix_append _ _
    | with_reducible refine Closed.foldl _ _ _ (fun _ _ _ => ?_) ?_
    | split
    | with_reducible refine hP.build _ ?_ ?_ ?_ ?_

theorem keep_commitStage (hP : Closed anyField P) (c : ℕ) (s : State) (hs : P s) :
    P (commitStage c s) := by
  have hR := hP.ofAny.ofSettle
  unfold commitStage
  repeat' first
    | with_reducible assumption
    | with_reducible refine keep_applyEntry hP _ _ _ ?_
    | with_reducible refine keep_commitIrqs hR _ _ ?_
    | with_reducible refine keep_commitPlan hP _ _ ?_
    | with_reducible refine Closed.forAll _ _ _ (fun _ _ _ => ?_) ?_
    | (extract_lets +onlyGivenNames t; refine (fun (_ : P t) => ?_) ?_; (on_goal 2 => (dsimp -zeta only [t]; clear t)); (on_goal 1 => (clear_value t; rename' t => w)))
    | (extract_lets +onlyGivenNames t; refine (fun (_ : P t.1) => ?_) ?_; (on_goal 2 => (dsimp -zeta only [t]; clear t)); (on_goal 1 => (clear_value t; rename' t => w)))
    | (extract_lets +onlyGivenNames t; clear_value t; rename' t => w)
    | with_reducible refine Closed.foldl _ _ _ (fun _ _ _ => ?_) ?_
    | split

theorem keep_comparatorFire (hP : Closed anyField P) (n : ℕ) (s : State) (hs : P s) :
    P (comparatorFire n s) := by
  have hR := hP.ofAny.ofSettle
  unfold comparatorFire
  repeat' first
    | with_reducible assumption
    | with_reducible refine hP.add _ _ _ _ rfl ?_
    | with_reducible refine hP.bump _ _ _ rfl ?_
    | with_reducible refine hP.set _ _ _ _ rfl ?_
    | with_reducible refine hP.setMany _ _ _ rfl ?_
    | with_reducible refine keep_cmpAction hR _ _ ?_
    | (extract_lets +onlyGivenNames t; refine (fun (_ : P t) => ?_) ?_; (on_goal 2 => (dsimp -zeta only [t]; clear t)); (on_goal 1 => (clear_value t; rename' t => w)))
    | (extract_lets +onlyGivenNames t; refine (fun (_ : P t.1) => ?_) ?_; (on_goal 2 => (dsimp -zeta only [t]; clear t)); (on_goal 1 => (clear_value t; rename' t => w)))
    | (extract_lets +onlyGivenNames t; clear_value t; rename' t => w)
    | with_reducible refine Closed.foldl _ _ _ (fun _ _ _ => ?_) ?_
    | split

theorem keep_tellConsumer (hP : Closed anyField P) (u : TagUse) (s : State) (hs : P s) :
    P (tellConsumer u s) := by
  have hS := hP.ofAny
  unfold tellConsumer
  repeat' first
    | with_reducible assumption
    | with_reducible refine keep_failCmd hS _ _ _ ?_
    | with_reducible refine keep_fetchFails hP _ ?_
    | with_reducible refine Closed.foldl _ _ _ (fun _ _ _ => ?_) ?_
    | split

theorem keep_unexpected (hP : Closed anyField P) (s : State) (hs : P s) :
    P (unexpected s) := by
  have hR := hP.ofAny.ofSettle
  unfold unexpected
  repeat' first
    | with_reducible assumption
    | with_reducible refine hP.bump _ _ _ rfl ?_
    | with_reducible refine keep_aerUncorrectable hR _ _ _ ?_
    | with_reducible refine keep_pulse hR _ _ _ ?_
    | with_reducible refine Closed.foldl _ _ _ (fun _ _ _ => ?_) ?_
    | split

theorem keep_storeBlock (hP : Closed anyField P) (c : NvCmd) (z : ℕ) (b : ℕ) (s : State) (hs : P s) :
    P (storeBlock c z b s) := by
  unfold storeBlock
  generalize freeBytes s.fresh 4096 = l1
  generalize freeBytes (s.fresh + 4096) 2 = l2
  extract_lets a m1 m2
  have h2 : s.mem.wf = true → m2.wf = true := fun h => Memory.wf_writeList _ _ (Memory.wf_writeList _ _ h)
  clear_value a m1 m2
  exact keep_cleanRange hP.ofAny _ _ _ (hP.record s _ rfl (fun h => Memory.wf_writeGuard _ (h2 h)) List.prefix_rfl (Nat.le_add_right _ _) hs)


theorem keep_dataArrived (hP : Closed anyField P) (c : NvCmd) (s : State) (hs : P s) :
    P (dataArrived c s) := by
  have hS := hP.ofAny
  have hR := hP.ofAny.ofSettle
  unfold dataArrived
  repeat' first
    | with_reducible assumption
    | with_reducible refine keep_State_modCmd hS _ _ _ ?_
    | with_reducible refine keep_advanceReady hS _ _ ?_
    | with_reducible refine keep_failWrite hS _ _ _ ?_
    | with_reducible refine Closed.forBelow _ _ _ (fun _ _ _ => ?_) ?_
    | with_reducible refine keep_pulse hR _ _ _ ?_
    | with_reducible refine keep_storeBlock hP _ _ _ _ ?_
    | (extract_lets +onlyGivenNames t; refine (fun (_ : P t) => ?_) ?_; (on_goal 2 => (dsimp -zeta only [t]; clear t)); (on_goal 1 => (clear_value t; rename' t => w)))
    | (extract_lets +onlyGivenNames t; refine (fun (_ : P t.1) => ?_) ?_; (on_goal 2 => (dsimp -zeta only [t]; clear t)); (on_goal 1 => (clear_value t; rename' t => w)))
    | (extract_lets +onlyGivenNames t; clear_value t; rename' t => w)
    | with_reducible rfl
    | with_reducible exact List.prefix_rfl
    | with_reducible exact le_rfl
    | with_reducible exact fun h => h
    | exact fun h => Memory.wf_writeList _ _ h
    | exact Nat.le_add_right _ _
    | with_reducible exact List.prefix_append _ _
    | with_reducible refine Closed.foldl _ _ _ (fun _ _ _ => ?_) ?_
    | split
    | with_reducible refine hP.build _ ?_ ?_ ?_ ?_

theorem keep_useData (hP : Closed anyField P) (u : TagUse) (s : State) (hs : P s) :
    P (useData u s) := by
  unfold useData
  repeat' first
    | with_reducible assumption
    | with_reducible refine hP.set _ _ _ _ rfl ?_
    | with_reducible refine keep_dataArrived hP _ _ ?_
    | with_reducible refine Closed.foldl _ _ _ (fun _ _ _ => ?_) ?_
    | split

theorem keep_completionReceived (hP : Closed anyField P) (tag : ℕ) (st : CplStatus) (last : Bool) (s : State) (hs : P s) :
    P (completionReceived tag st last s) := by
  have hS := hP.ofAny
  have hR := hP.ofAny.ofSettle
  unfold completionReceived
  repeat' first
    | with_reducible assumption
    | with_reducible refine hP.bump _ _ _ rfl ?_
    | with_reducible refine keep_dropTag hS _ _ ?_
    | with_reducible refine keep_loseToFreeze hR _ _ ?_
    | with_reducible refine keep_poisonedTlp hR _ ?_
    | with_reducible refine keep_tellConsumer hP _ _ ?_
    | with_reducible refine keep_unexpected hP _ ?_
    | with_reducible refine keep_useData hP _ _ ?_
    | with_reducible refine Closed.foldl _ _ _ (fun _ _ _ => ?_) ?_
    | split

theorem keep_completionTimeout (hP : Closed anyField P) (tag : ℕ) (s : State) (hs : P s) :
    P (completionTimeout tag s) := by
  have hS := hP.ofAny
  have hR := hP.ofAny.ofSettle
  unfold completionTimeout
  repeat' first
    | with_reducible assumption
    | with_reducible refine hP.bump _ _ _ rfl ?_
    | with_reducible refine keep_aerUncorrectable hR _ _ _ ?_
    | with_reducible refine keep_pulse hR _ _ _ ?_
    | with_reducible refine keep_showTags hS _ ?_
    | with_reducible refine keep_tellConsumer hP _ _ ?_
    | (extract_lets +onlyGivenNames t; refine (fun (_ : P t) => ?_) ?_; (on_goal 2 => (dsimp -zeta only [t]; clear t)); (on_goal 1 => (clear_value t; rename' t => w)))
    | (extract_lets +onlyGivenNames t; refine (fun (_ : P t.1) => ?_) ?_; (on_goal 2 => (dsimp -zeta only [t]; clear t)); (on_goal 1 => (clear_value t; rename' t => w)))
    | (extract_lets +onlyGivenNames t; clear_value t; rename' t => w)
    | with_reducible rfl
    | with_reducible exact List.prefix_rfl
    | with_reducible exact le_rfl
    | with_reducible exact fun h => h
    | exact fun h => Memory.wf_writeList _ _ h
    | exact Nat.le_add_right _ _
    | with_reducible exact List.prefix_append _ _
    | with_reducible refine Closed.foldl _ _ _ (fun _ _ _ => ?_) ?_
    | split
    | with_reducible refine hP.build _ ?_ ?_ ?_ ?_

theorem keep_configRequest (hP : Closed anyField P) (r : CfgReq) (s : State) (hs : P s) :
    P (configRequest r s) := by
  have hS := hP.ofAny
  have hR := hP.ofAny.ofSettle
  unfold configRequest
  repeat' first
    | with_reducible assumption
    | with_reducible refine hP.emit _ _ ?_
    | with_reducible refine keep_cfgWrite hP _ _ _ ?_
    | with_reducible refine keep_linkAwake hS _ ?_
    | with_reducible refine keep_unsupported hR _ ?_
    | (extract_lets +onlyGivenNames t; refine (fun (_ : P t) => ?_) ?_; (on_goal 2 => (dsimp -zeta only [t]; clear t)); (on_goal 1 => (clear_value t; rename' t => w)))
    | (extract_lets +onlyGivenNames t; refine (fun (_ : P t.1) => ?_) ?_; (on_goal 2 => (dsimp -zeta only [t]; clear t)); (on_goal 1 => (clear_value t; rename' t => w)))
    | (extract_lets +onlyGivenNames t; clear_value t; rename' t => w)
    | with_reducible refine Closed.foldl _ _ _ (fun _ _ _ => ?_) ?_
    | split

theorem keep_takeCore (hP : Closed anyField P) (core : ℕ) (c : ℕ) (s : State) (hs : P s) :
    P (takeCore core c s) := by
  unfold takeCore
  repeat' first
    | with_reducible assumption
    | with_reducible refine hP.bump _ _ _ rfl ?_
    | with_reducible refine hP.setMany _ _ _ rfl ?_
    | (extract_lets +onlyGivenNames t; refine (fun (_ : P t) => ?_) ?_; (on_goal 2 => (dsimp -zeta only [t]; clear t)); (on_goal 1 => (clear_value t; rename' t => w)))
    | (extract_lets +onlyGivenNames t; refine (fun (_ : P t.1) => ?_) ?_; (on_goal 2 => (dsimp -zeta only [t]; clear t)); (on_goal 1 => (clear_value t; rename' t => w)))
    | (extract_lets +onlyGivenNames t; clear_value t; rename' t => w)
    | with_reducible refine Closed.foldl _ _ _ (fun _ _ _ => ?_) ?_
    | split

theorem keep_contextDispatch (hP : Closed anyField P) (core : ℕ) (s : State) (hs : P s) :
    P (contextDispatch core s) := by
  unfold contextDispatch
  repeat' first
    | with_reducible assumption
    | with_reducible refine hP.set _ _ _ _ rfl ?_
    | with_reducible refine keep_takeCore hP _ _ _ ?_
    | with_reducible refine Closed.foldl _ _ _ (fun _ _ _ => ?_) ?_
    | split

theorem keep_controlStoreScrub (hP : Closed anyField P) (corrected : ℕ) (bad : List (ℕ × ℕ)) (s : State) (hs : P s) :
    P (controlStoreScrub corrected bad s) := by
  unfold controlStoreScrub
  repeat' first
    | with_reducible assumption
    | with_reducible refine hP.add _ _ _ _ rfl ?_
    | (extract_lets +onlyGivenNames t; refine (fun (_ : P t) => ?_) ?_; (on_goal 2 => (dsimp -zeta only [t]; clear t)); (on_goal 1 => (clear_value t; rename' t => w)))
    | (extract_lets +onlyGivenNames t; refine (fun (_ : P t.1) => ?_) ?_; (on_goal 2 => (dsimp -zeta only [t]; clear t)); (on_goal 1 => (clear_value t; rename' t => w)))
    | (extract_lets +onlyGivenNames t; clear_value t; rename' t => w)
    | with_reducible rfl
    | with_reducible exact List.prefix_rfl
    | with_reducible exact le_rfl
    | with_reducible exact fun h => h
    | exact fun h => Memory.wf_writeList _ _ h
    | exact Nat.le_add_right _ _
    | with_reducible exact List.prefix_append _ _
    | with_reducible refine Closed.foldl _ _ _ (fun _ _ _ => ?_) ?_
    | split
    | with_reducible refine hP.build _ ?_ ?_ ?_ ?_

theorem keep_endRun (hP : Closed anyField P) (c : ℕ) (s : State) (hs : P s) :
    P (endRun c s) := by
  have hR := hP.ofAny.ofSettle
  unfold endRun
  repeat' first
    | with_reducible assumption
    | with_reducible refine hP.bump _ _ _ rfl ?_
    | with_reducible refine hP.set _ _ _ _ rfl ?_
    | with_reducible refine hP.setMany _ _ _ rfl ?_
    | with_reducible refine keep_afterRun hR _ _ ?_
    | with_reducible refine Closed.forBelow _ _ _ (fun _ _ _ => ?_) ?_
    | with_reducible refine keep_pulse hR _ _ _ ?_
    | with_reducible refine keep_silCapture hP _ _ _ _ _ ?_
    | (extract_lets +onlyGivenNames t; refine (fun (_ : P t) => ?_) ?_; (on_goal 2 => (dsimp -zeta only [t]; clear t)); (on_goal 1 => (clear_value t; rename' t => w)))
    | (extract_lets +onlyGivenNames t; refine (fun (_ : P t.1) => ?_) ?_; (on_goal 2 => (dsimp -zeta only [t]; clear t)); (on_goal 1 => (clear_value t; rename' t => w)))
    | (extract_lets +onlyGivenNames t; clear_value t; rename' t => w)
    | with_reducible rfl
    | with_reducible exact List.prefix_rfl
    | with_reducible exact le_rfl
    | with_reducible exact fun h => h
    | exact fun h => Memory.wf_writeList _ _ h
    | exact Nat.le_add_right _ _
    | with_reducible exact List.prefix_append _ _
    | with_reducible refine Closed.foldl _ _ _ (fun _ _ _ => ?_) ?_
    | split
    | with_reducible refine hP.build _ ?_ ?_ ?_ ?_

theorem keep_copSlot (hP : Closed anyField P) (c : ℕ) (s : State) (i : Instr) (t : State) (hs : P s) (ht : P t) :
    P (copSlot c s i t) := by
  have hR := hP.ofAny.ofSettle
  unfold copSlot
  repeat' first
    | with_reducible assumption
    | with_reducible refine hP.set _ _ _ _ rfl ?_
    | with_reducible refine keep_commitStage hP _ _ ?_
    | with_reducible refine keep_endRun hP _ _ ?_
    | with_reducible refine keep_fwOverrideRelease hP _ _ ?_
    | with_reducible refine keep_fwOverrideSet hP _ _ _ ?_
    | with_reducible refine keep_killContext hR _ _ ?_
    | with_reducible refine keep_silCapture hP _ _ _ _ _ ?_
    | with_reducible refine keep_trigger hR _ _ _ _ _ ?_
    | with_reducible refine Closed.foldl _ _ _ (fun _ _ _ => ?_) ?_
    | split

theorem keep_coreAlive (hP : Closed anyField P) (m : Fin 4) (s : State) (hs : P s) :
    ∀ t, (coreAlive m s) = some t → P t := by
  intro t h
  unfold coreAlive at h
  split at h
  · exact absurd h (by simp)
  split at h
  · exact Option.some.inj h ▸ hs
  split at h
  · exact absurd h (by simp)
  · exact Option.some.inj h ▸ hP.set _ _ _ _ rfl hs


theorem keep_dramWrite (hP : Closed anyField P) (who : BufMaster) (addr : ℕ) (data : List (BitVec 8)) (errs : List ByteErr) (s : State) (hs : P s) :
    P (dramWrite who addr data errs s) := by
  have hR := hP.ofAny.ofSettle
  unfold dramWrite
  repeat' first
    | with_reducible assumption
    | with_reducible refine keep_countTraffic hP _ _ ?_
    | with_reducible refine keep_decodeError hR _ _ ?_
    | with_reducible refine keep_storeData hP _ _ _ _ ?_
    | with_reducible refine Closed.foldl _ _ _ (fun _ _ _ => ?_) ?_
    | split

theorem keep_refuseAccess (hP : Closed anyField P) (s : State) (hs : P s) :
    P (refuseAccess s) := by
  have hR := hP.ofAny.ofSettle
  unfold refuseAccess
  repeat' first
    | with_reducible assumption
    | with_reducible refine keep_pulse hR _ _ _ ?_
    | with_reducible refine Closed.foldl _ _ _ (fun _ _ _ => ?_) ?_
    | split

theorem keep_coreWrite (hP : Closed anyField P) (m : Fin 4) (a : ℕ) (v : ℕ) (s : State) (hs : P s) :
    P (coreWrite m a v s) := by
  have hR := hP.ofAny.ofSettle
  unfold coreWrite
  repeat' first
    | with_reducible assumption
    | with_reducible refine keep_dramWrite hP _ _ _ _ _ ?_
    | with_reducible refine keep_fmtStoreWrite hR _ ?_
    | with_reducible refine keep_pulse hR _ _ _ ?_
    | with_reducible refine keep_refuseAccess hP _ ?_
    | with_reducible refine keep_writeReg hP _ _ _ ?_
    | with_reducible rfl
    | with_reducible exact List.prefix_rfl
    | with_reducible exact le_rfl
    | with_reducible exact fun h => h
    | exact fun h => Memory.wf_writeList _ _ h
    | exact Nat.le_add_right _ _
    | with_reducible exact List.prefix_append _ _
    | with_reducible refine Closed.foldl _ _ _ (fun _ _ _ => ?_) ?_
    | split
    | with_reducible refine hP.build _ ?_ ?_ ?_ ?_

theorem keep_countIters (hP : Closed anyField P) (w : Waiting) (n : ℕ) (s : State) (hs : P s) :
    P (countIters w n s) := by
  unfold countIters
  repeat' first
    | with_reducible assumption
    | with_reducible refine hP.set _ _ _ _ rfl ?_
    | (extract_lets +onlyGivenNames t; refine (fun (_ : P t) => ?_) ?_; (on_goal 2 => (dsimp -zeta only [t]; clear t)); (on_goal 1 => (clear_value t; rename' t => w)))
    | (extract_lets +onlyGivenNames t; refine (fun (_ : P t.1) => ?_) ?_; (on_goal 2 => (dsimp -zeta only [t]; clear t)); (on_goal 1 => (clear_value t; rename' t => w)))
    | (extract_lets +onlyGivenNames t; clear_value t; rename' t => w)
    | with_reducible rfl
    | with_reducible exact List.prefix_rfl
    | with_reducible exact le_rfl
    | with_reducible exact fun h => h
    | exact fun h => Memory.wf_writeList _ _ h
    | exact Nat.le_add_right _ _
    | with_reducible exact List.prefix_append _ _
    | with_reducible refine Closed.foldl _ _ _ (fun _ _ _ => ?_) ?_
    | split
    | with_reducible refine hP.build _ ?_ ?_ ?_ ?_

theorem keep_countResult (hP : Closed anyField P) (code : ℕ) (s : State) (hs : P s) :
    P (countResult code s) := by
  unfold countResult
  repeat' first
    | with_reducible assumption
    | with_reducible refine hP.bump _ _ _ rfl ?_
    | with_reducible refine Closed.foldl _ _ _ (fun _ _ _ => ?_) ?_
    | split

theorem keep_countRunaway (hP : Closed anyField P) (a : ℕ) (h_1 : ℕ) (s : State) (hs : P s) :
    P (countRunaway a h_1 s) := by
  unfold countRunaway
  repeat' first
    | with_reducible assumption
    | with_reducible refine hP.set _ _ _ _ rfl ?_
    | with_reducible refine hP.setI _ _ _ _ rfl ?_
    | (extract_lets +onlyGivenNames t; refine (fun (_ : P t) => ?_) ?_; (on_goal 2 => (dsimp -zeta only [t]; clear t)); (on_goal 1 => (clear_value t; rename' t => w)))
    | (extract_lets +onlyGivenNames t; refine (fun (_ : P t.1) => ?_) ?_; (on_goal 2 => (dsimp -zeta only [t]; clear t)); (on_goal 1 => (clear_value t; rename' t => w)))
    | (extract_lets +onlyGivenNames t; clear_value t; rename' t => w)
    | with_reducible refine Closed.foldl _ _ _ (fun _ _ _ => ?_) ?_
    | split

theorem keep_countSlot (hP : Closed anyField P) (d : ℕ) (rebuild : Bool) (s : State) (hs : P s) :
    P (countSlot d rebuild s) := by
  unfold countSlot
  repeat' first
    | with_reducible assumption
    | with_reducible refine hP.add _ _ _ _ rfl ?_
    | with_reducible refine hP.bump _ _ _ rfl ?_
    | with_reducible refine hP.setMany _ _ _ rfl ?_
    | with_reducible refine Closed.foldl _ _ _ (fun _ _ _ => ?_) ?_
    | split

theorem keep_countWedge (hP : Closed anyField P) (h_0 : ℕ) (good : Bool) (s : State) (hs : P s) :
    P (countWedge h_0 good s) := by
  unfold countWedge
  extract_lets a p follow n t1 t2 t3 t4 t5 t6 t7 t8
  have hn : ∀ f top c t, P t → P (n f top c t) := fun f top c t ht => hP.set _ _ _ _ rfl ht
  have h7 : P t7 := hP.dec _ _ _ rfl (hn _ _ _ _ (hn _ _ _ _ (hn _ _ _ _ (hn _ _ _ _ (hn _ _ _ _ (hn _ _ _ _ hs))))))
  clear_value t7
  have h8 : P t8 := by
    dsimp only [t8]
    split
    · exact h7
    · exact hP.set _ _ _ _ rfl h7
  clear_value t8
  split
  · exact h8
  · exact hP.set _ _ _ _ rfl h8


theorem keep_crcError (hP : Closed anyField P) (a : ℕ) (s : State) (hs : P s) :
    P (crcError a s) := by
  have hR := hP.ofAny.ofSettle
  unfold crcError
  repeat' first
    | with_reducible assumption
    | with_reducible refine hP.bump _ _ _ rfl ?_
    | with_reducible refine keep_pulse hR _ _ _ ?_
    | with_reducible refine Closed.foldl _ _ _ (fun _ _ _ => ?_) ?_
    | split

theorem keep_observerFromPilot (hP : Closed anyField P) (s : State) (hs : P s) :
    P (observerFromPilot s) := by
  unfold observerFromPilot
  repeat' first
    | with_reducible assumption
    | with_reducible refine hP.setI _ _ _ _ rfl ?_
    | with_reducible refine hP.setMany _ _ _ rfl ?_
    | with_reducible refine Closed.foldl _ _ _ (fun _ _ _ => ?_) ?_
    | split

theorem keep_crossCheck (hP : Closed anyField P) (s : State) (hs : P s) :
    P (crossCheck s) := by
  have hR := hP.ofAny.ofSettle
  unfold crossCheck
  repeat' first
    | with_reducible assumption
    | with_reducible refine keep_observerFromPilot hP _ ?_
    | with_reducible refine keep_pulse hR _ _ _ ?_
    | with_reducible refine Closed.foldl _ _ _ (fun _ _ _ => ?_) ?_
    | split

theorem keep_recordErr (hP : Closed anyField P) (c : ℕ) (cause : ℕ) (s : State) (hs : P s) :
    P (recordErr c cause s) := by
  unfold recordErr
  repeat' first
    | with_reducible assumption
    | with_reducible refine hP.setMany _ _ _ rfl ?_
    | with_reducible refine Closed.foldl _ _ _ (fun _ _ _ => ?_) ?_
    | split

theorem keep_customerWordLimit (hP : Closed anyField P) (c : ℕ) (s : State) (hs : P s) :
    P (customerWordLimit c s) := by
  have hR := hP.ofAny.ofSettle
  unfold customerWordLimit
  repeat' first
    | with_reducible assumption
    | with_reducible refine keep_killContext hR _ _ ?_
    | with_reducible refine keep_pulse hR _ _ _ ?_
    | with_reducible refine keep_recordErr hP _ _ _ ?_
    | with_reducible refine Closed.foldl _ _ _ (fun _ _ _ => ?_) ?_
    | split

theorem keep_dataLinkUp (hP : Closed anyField P) (speed : ℕ) (width : ℕ) (rev : Bool) (s : State) (hs : P s) :
    P (dataLinkUp speed width rev s) := by
  have hR := hP.ofAny.ofSettle
  unfold dataLinkUp
  repeat' first
    | with_reducible assumption
    | with_reducible refine hP.setMany _ _ _ rfl ?_
    | with_reducible refine keep_lower hR _ _ _ ?_
    | with_reducible refine Closed.foldl _ _ _ (fun _ _ _ => ?_) ?_
    | split

theorem keep_decisionPoint (hP : Closed anyField P) (b : ShBlk) (i : ℕ) (g : ℕ) (s : State) (hs : P s) :
    P (decisionPoint b i g s) := by
  unfold decisionPoint
  repeat' first
    | with_reducible assumption
    | with_reducible refine hP.setBit _ _ _ _ _ rfl ?_
    | with_reducible refine keep_rejectGroup hP _ _ _ _ ?_
    | with_reducible refine Closed.foldl _ _ _ (fun _ _ _ => ?_) ?_
    | split

theorem keep_setValid (hP : Closed anyField P) (n : ℕ) (v : Bool) (s : State) (hs : P s) :
    P (setValid n v s) := by
  have hR := hP.ofAny.ofSettle
  unfold setValid
  repeat' first
    | with_reducible assumption
    | with_reducible refine hP.set _ _ _ _ rfl ?_
    | with_reducible refine hP.setMany _ _ _ rfl ?_
    | with_reducible refine keep_lower hR _ _ _ ?_
    | with_reducible refine keep_raise hR _ _ _ ?_
    | (extract_lets +onlyGivenNames t; refine (fun (_ : P t) => ?_) ?_; (on_goal 2 => (dsimp -zeta only [t]; clear t)); (on_goal 1 => (clear_value t; rename' t => w)))
    | (extract_lets +onlyGivenNames t; refine (fun (_ : P t.1) => ?_) ?_; (on_goal 2 => (dsimp -zeta only [t]; clear t)); (on_goal 1 => (clear_value t; rename' t => w)))
    | (extract_lets +onlyGivenNames t; clear_value t; rename' t => w)
    | with_reducible refine Closed.foldl _ _ _ (fun _ _ _ => ?_) ?_
    | split

theorem keep_declareInvalid (hP : Closed anyField P) (n : ℕ) (s : State) (hs : P s) :
    P (declareInvalid n s) := by
  unfold declareInvalid
  repeat' first
    | with_reducible assumption
    | with_reducible refine hP.set _ _ _ _ rfl ?_
    | with_reducible refine keep_setValid hP _ _ _ ?_
    | with_reducible refine Closed.foldl _ _ _ (fun _ _ _ => ?_) ?_
    | split

theorem keep_showBusy (hP : Closed anyField P) (s : State) (hs : P s) :
    P (showBusy s) := by
  unfold showBusy
  repeat' first
    | with_reducible assumption
    | with_reducible refine hP.set _ _ _ _ rfl ?_
    | with_reducible refine Closed.foldl _ _ _ (fun _ _ _ => ?_) ?_
    | split

theorem keep_endDecode (hP : Closed anyField P) (d : ℕ) (fr : FrameRec) (j : EngineJob) (code : ℕ) (n : ℕ) (off : ℤ) (o : DecodeOut) (s : State) (hs : P s) :
    P (endDecode d fr j code n off o s) := by
  have hS := hP.ofAny
  have hR := hP.ofAny.ofSettle
  unfold endDecode
  repeat' first
    | with_reducible assumption
    | with_reducible refine hP.used _ ?_
    | with_reducible refine keep_countIters hP _ _ _ ?_
    | with_reducible refine keep_countResult hP _ _ ?_
    | with_reducible refine keep_piMismatch hS _ _ _ ?_
    | with_reducible refine keep_pulse hR _ _ _ ?_
    | with_reducible refine keep_report hS _ _ _ _ _ _ _ ?_
    | with_reducible refine keep_showBusy hP _ ?_
    | with_reducible refine keep_writePayload hS _ _ _ _ ?_
    | with_reducible refine keep_writeRecovery hS _ _ _ _ ?_
    | (extract_lets +onlyGivenNames t; refine (fun (_ : P t) => ?_) ?_; (on_goal 2 => (dsimp -zeta only [t]; clear t)); (on_goal 1 => (clear_value t; rename' t => w)))
    | (extract_lets +onlyGivenNames t; refine (fun (_ : P t.1) => ?_) ?_; (on_goal 2 => (dsimp -zeta only [t]; clear t)); (on_goal 1 => (clear_value t; rename' t => w)))
    | (extract_lets +onlyGivenNames t; clear_value t; rename' t => w)
    | with_reducible rfl
    | with_reducible exact List.prefix_rfl
    | with_reducible exact le_rfl
    | with_reducible exact fun h => h
    | exact fun h => Memory.wf_writeList _ _ h
    | exact Nat.le_add_right _ _
    | with_reducible exact List.prefix_append _ _
    | with_reducible refine Closed.foldl _ _ _ (fun _ _ _ => ?_) ?_
    | split
    | with_reducible refine hP.build _ ?_ ?_ ?_ ?_

theorem keep_decodeDone (hP : Closed anyField P) (d : ℕ) (o : DecodeOut) (s : State) (hs : P s) :
    P (decodeDone d o s) := by
  unfold decodeDone
  repeat' first
    | with_reducible assumption
    | with_reducible refine keep_adoptAlign hP _ _ _ _ ?_
    | with_reducible refine keep_endDecode hP _ _ _ _ _ _ _ _ ?_
    | with_reducible refine keep_showBusy hP _ ?_
    | (extract_lets +onlyGivenNames t; refine (fun (_ : P t) => ?_) ?_; (on_goal 2 => (dsimp -zeta only [t]; clear t)); (on_goal 1 => (clear_value t; rename' t => w)))
    | (extract_lets +onlyGivenNames t; refine (fun (_ : P t.1) => ?_) ?_; (on_goal 2 => (dsimp -zeta only [t]; clear t)); (on_goal 1 => (clear_value t; rename' t => w)))
    | (extract_lets +onlyGivenNames t; clear_value t; rename' t => w)
    | with_reducible rfl
    | with_reducible exact List.prefix_rfl
    | with_reducible exact le_rfl
    | with_reducible exact fun h => h
    | exact fun h => Memory.wf_writeList _ _ h
    | exact Nat.le_add_right _ _
    | with_reducible exact List.prefix_append _ _
    | with_reducible refine Closed.foldl _ _ _ (fun _ _ _ => ?_) ?_
    | split
    | with_reducible refine hP.build _ ?_ ?_ ?_ ?_

theorem keep_defectRelease (hP : Closed anyField P) (l : ℕ) (ta : Bool) (x : List ℤ) (s : State) (hs : P s) :
    P (defectRelease l ta x s) := by
  have hS := hP.ofAny
  unfold defectRelease
  repeat' first
    | with_reducible assumption
    | with_reducible refine hP.set _ _ _ _ rfl ?_
    | with_reducible refine keep_closeSpan hS _ _ _ ?_
    | with_reducible refine keep_updateDefect hP _ _ ?_
    | (extract_lets +onlyGivenNames t; refine (fun (_ : P t) => ?_) ?_; (on_goal 2 => (dsimp -zeta only [t]; clear t)); (on_goal 1 => (clear_value t; rename' t => w)))
    | (extract_lets +onlyGivenNames t; refine (fun (_ : P t.1) => ?_) ?_; (on_goal 2 => (dsimp -zeta only [t]; clear t)); (on_goal 1 => (clear_value t; rename' t => w)))
    | (extract_lets +onlyGivenNames t; clear_value t; rename' t => w)
    | with_reducible refine Closed.foldl _ _ _ (fun _ _ _ => ?_) ?_
    | split

theorem keep_deleteSq (hP : Closed anyField P) (qid : ℕ) (c : NvCmd) (s : State) (hs : P s) :
    P (deleteSq qid c s) := by
  have hS := hP.ofAny
  unfold deleteSq
  repeat' first
    | with_reducible assumption
    | with_reducible refine keep_State_modCmd hS _ _ _ ?_
    | with_reducible refine keep_abortShort hP _ _ ?_
    | with_reducible refine keep_finish hS _ _ _ ?_
    | with_reducible rfl
    | with_reducible exact List.prefix_rfl
    | with_reducible exact le_rfl
    | with_reducible exact fun h => h
    | exact fun h => Memory.wf_writeList _ _ h
    | exact Nat.le_add_right _ _
    | with_reducible exact List.prefix_append _ _
    | with_reducible refine Closed.foldl _ _ _ (fun _ _ _ => ?_) ?_
    | split
    | with_reducible refine hP.build _ ?_ ?_ ?_ ?_

theorem keep_desaturate (hP : Closed anyField P) (h_0 : ℕ) (s : State) (hs : P s) :
    P (desaturate h_0 s) := by
  unfold desaturate
  repeat' first
    | with_reducible assumption
    | with_reducible refine hP.set _ _ _ _ rfl ?_
    | (extract_lets +onlyGivenNames t; refine (fun (_ : P t) => ?_) ?_; (on_goal 2 => (dsimp -zeta only [t]; clear t)); (on_goal 1 => (clear_value t; rename' t => w)))
    | (extract_lets +onlyGivenNames t; refine (fun (_ : P t.1) => ?_) ?_; (on_goal 2 => (dsimp -zeta only [t]; clear t)); (on_goal 1 => (clear_value t; rename' t => w)))
    | (extract_lets +onlyGivenNames t; clear_value t; rename' t => w)
    | with_reducible refine Closed.foldl _ _ _ (fun _ _ _ => ?_) ?_
    | split

theorem keep_descriptorLoad (hP : Closed anyField P) (x : ℕ) (s : State) (hs : P s) :
    P (descriptorLoad x s) := by
  have hS := hP.ofAny
  have hR := hP.ofAny.ofSettle
  unfold descriptorLoad
  repeat' first
    | with_reducible assumption
    | with_reducible refine hP.setBit _ _ _ _ _ rfl ?_
    | with_reducible refine keep_pulse hR _ _ _ ?_
    | with_reducible refine keep_replaceLists hR _ _ _ ?_
    | with_reducible refine keep_updateMembers hP _ ?_
    | with_reducible refine keep_updateSpare hS _ ?_
    | (extract_lets +onlyGivenNames t; refine (fun (_ : P t) => ?_) ?_; (on_goal 2 => (dsimp -zeta only [t]; clear t)); (on_goal 1 => (clear_value t; rename' t => w)))
    | (extract_lets +onlyGivenNames t; refine (fun (_ : P t.1) => ?_) ?_; (on_goal 2 => (dsimp -zeta only [t]; clear t)); (on_goal 1 => (clear_value t; rename' t => w)))
    | (extract_lets +onlyGivenNames t; clear_value t; rename' t => w)
    | with_reducible rfl
    | with_reducible exact List.prefix_rfl
    | with_reducible exact le_rfl
    | with_reducible exact fun h => h
    | exact fun h => Memory.wf_writeList _ _ h
    | exact Nat.le_add_right _ _
    | with_reducible exact List.prefix_append _ _
    | with_reducible refine Closed.foldl _ _ _ (fun _ _ _ => ?_) ?_
    | split
    | with_reducible refine hP.build _ ?_ ?_ ?_ ?_

theorem keep_dieTemperature (hP : Closed anyField P) (celsius : ℤ) (s : State) (hs : P s) :
    P (dieTemperature celsius s) := by
  have hR := hP.ofAny.ofSettle
  unfold dieTemperature
  repeat' first
    | with_reducible assumption
    | with_reducible refine hP.set _ _ _ _ rfl ?_
    | with_reducible refine keep_level hR _ _ _ _ ?_
    | (extract_lets +onlyGivenNames t; refine (fun (_ : P t) => ?_) ?_; (on_goal 2 => (dsimp -zeta only [t]; clear t)); (on_goal 1 => (clear_value t; rename' t => w)))
    | (extract_lets +onlyGivenNames t; refine (fun (_ : P t.1) => ?_) ?_; (on_goal 2 => (dsimp -zeta only [t]; clear t)); (on_goal 1 => (clear_value t; rename' t => w)))
    | (extract_lets +onlyGivenNames t; clear_value t; rename' t => w)
    | with_reducible refine Closed.foldl _ _ _ (fun _ _ _ => ?_) ?_
    | split

theorem keep_discover (hP : Closed anyField P) (s : State) (hs : P s) :
    P (discover s) := by
  unfold discover
  repeat' first
    | with_reducible assumption
    | with_reducible refine hP.set _ _ _ _ rfl ?_
    | with_reducible refine keep_upFrame hP _ _ _ (fun _ _ => ?_) ?_
    | with_reducible refine Closed.foldl _ _ _ (fun _ _ _ => ?_) ?_
    | split

theorem keep_takeNode (hP : Closed anyField P) (eui : ℕ) (n : ℕ) (s : State) (hs : P s) :
    P (takeNode eui n s) := by
  unfold takeNode
  repeat' first
    | with_reducible assumption
    | with_reducible refine hP.setMany _ _ _ rfl ?_
    | with_reducible refine keep_claikSend hP _ _ _ _ ?_
    | (extract_lets +onlyGivenNames t; refine (fun (_ : P t) => ?_) ?_; (on_goal 2 => (dsimp -zeta only [t]; clear t)); (on_goal 1 => (clear_value t; rename' t => w)))
    | (extract_lets +onlyGivenNames t; refine (fun (_ : P t.1) => ?_) ?_; (on_goal 2 => (dsimp -zeta only [t]; clear t)); (on_goal 1 => (clear_value t; rename' t => w)))
    | (extract_lets +onlyGivenNames t; clear_value t; rename' t => w)
    | with_reducible refine Closed.foldl _ _ _ (fun _ _ _ => ?_) ?_
    | split

theorem keep_discoverRoundEnd (hP : Closed anyField P) (s : State) (hs : P s) :
    P (discoverRoundEnd s) := by
  unfold discoverRoundEnd
  repeat' first
    | with_reducible assumption
    | with_reducible refine hP.set _ _ _ _ rfl ?_
    | with_reducible refine hP.used _ ?_
    | with_reducible refine keep_claikCast hP _ _ _ ?_
    | with_reducible refine keep_showMgr hP _ ?_
    | with_reducible refine keep_takeNode hP _ _ _ ?_
    | (extract_lets +onlyGivenNames t; refine (fun (_ : P t) => ?_) ?_; (on_goal 2 => (dsimp -zeta only [t]; clear t)); (on_goal 1 => (clear_value t; rename' t => w)))
    | (extract_lets +onlyGivenNames t; refine (fun (_ : P t.1) => ?_) ?_; (on_goal 2 => (dsimp -zeta only [t]; clear t)); (on_goal 1 => (clear_value t; rename' t => w)))
    | (extract_lets +onlyGivenNames t; clear_value t; rename' t => w)
    | with_reducible rfl
    | with_reducible exact List.prefix_rfl
    | with_reducible exact le_rfl
    | with_reducible exact fun h => h
    | exact fun h => Memory.wf_writeList _ _ h
    | exact Nat.le_add_right _ _
    | with_reducible exact List.prefix_append _ _
    | with_reducible refine Closed.foldl _ _ _ (fun _ _ _ => ?_) ?_
    | split
    | with_reducible refine hP.build _ ?_ ?_ ?_ ?_

theorem keep_discoverSlot (hP : Closed anyField P) (s : State) (hs : P s) :
    P (discoverSlot s) := by
  unfold discoverSlot
  repeat' first
    | with_reducible assumption
    | with_reducible refine hP.emit _ _ ?_
    | with_reducible refine hP.set _ _ _ _ rfl ?_
    | with_reducible refine Closed.foldl _ _ _ (fun _ _ _ => ?_) ?_
    | split

theorem keep_dramTrainingDone (hP : Closed anyField P) (fail : ℕ) (time : ℕ) (s : State) (hs : P s) :
    P (dramTrainingDone fail time s) := by
  have hR := hP.ofAny.ofSettle
  unfold dramTrainingDone
  repeat' first
    | with_reducible assumption
    | with_reducible refine hP.set _ _ _ _ rfl ?_
    | with_reducible refine hP.setMany _ _ _ rfl ?_
    | with_reducible refine keep_enterRecovery hP _ _ ?_
    | with_reducible refine keep_pulse hR _ _ _ ?_
    | (extract_lets +onlyGivenNames t; refine (fun (_ : P t) => ?_) ?_; (on_goal 2 => (dsimp -zeta only [t]; clear t)); (on_goal 1 => (clear_value t; rename' t => w)))
    | (extract_lets +onlyGivenNames t; refine (fun (_ : P t.1) => ?_) ?_; (on_goal 2 => (dsimp -zeta only [t]; clear t)); (on_goal 1 => (clear_value t; rename' t => w)))
    | (extract_lets +onlyGivenNames t; clear_value t; rename' t => w)
    | with_reducible refine Closed.foldl _ _ _ (fun _ _ _ => ?_) ?_
    | split

theorem keep_dropoutFlag (hP : Closed anyField P) (l : ℕ) (x : List ℤ) (s : State) (hs : P s) :
    P (dropoutFlag l x s) := by
  have hS := hP.ofAny
  unfold dropoutFlag
  repeat' first
    | with_reducible assumption
    | with_reducible refine hP.bump _ _ _ rfl ?_
    | with_reducible refine hP.setMany _ _ _ rfl ?_
    | with_reducible refine keep_openSpan hS _ _ _ _ ?_
    | with_reducible refine keep_updateDefect hP _ _ ?_
    | with_reducible refine Closed.foldl _ _ _ (fun _ _ _ => ?_) ?_
    | split

theorem keep_dumpComplete (hP : Closed anyField P) (s : State) (hs : P s) :
    P (dumpComplete s) := by
  have hR := hP.ofAny.ofSettle
  unfold dumpComplete
  repeat' first
    | with_reducible assumption
    | with_reducible refine keep_State_marker hR _ _ ?_
    | with_reducible refine hP.setMany _ _ _ rfl ?_
    | with_reducible refine keep_startQueued hR _ _ ?_
    | (extract_lets +onlyGivenNames t; refine (fun (_ : P t) => ?_) ?_; (on_goal 2 => (dsimp -zeta only [t]; clear t)); (on_goal 1 => (clear_value t; rename' t => w)))
    | (extract_lets +onlyGivenNames t; refine (fun (_ : P t.1) => ?_) ?_; (on_goal 2 => (dsimp -zeta only [t]; clear t)); (on_goal 1 => (clear_value t; rename' t => w)))
    | (extract_lets +onlyGivenNames t; clear_value t; rename' t => w)
    | with_reducible rfl
    | with_reducible exact List.prefix_rfl
    | with_reducible exact le_rfl
    | with_reducible exact fun h => h
    | exact fun h => Memory.wf_writeList _ _ h
    | exact Nat.le_add_right _ _
    | with_reducible exact List.prefix_append _ _
    | with_reducible refine Closed.foldl _ _ _ (fun _ _ _ => ?_) ?_
    | split
    | with_reducible refine hP.build _ ?_ ?_ ?_ ?_

theorem keep_engineBus (hP : Closed anyField P) (off : ℕ) (v : ℕ) (s : State) (hs : P s) :
    P (engineBus off v s) := by
  unfold engineBus
  repeat' first
    | with_reducible assumption
    | with_reducible refine keep_afterWrite hP _ _ _ ?_
    | with_reducible refine keep_refuseAccess hP _ ?_
    | with_reducible refine keep_writeReg hP _ _ _ ?_
    | with_reducible refine Closed.foldl _ _ _ (fun _ _ _ => ?_) ?_
    | split

theorem keep_engineDispatch (hP : Closed anyField P) (d : ℕ) (s : State) (hs : P s) :
    P (engineDispatch d s) := by
  have hS := hP.ofAny
  unfold engineDispatch
  repeat' first
    | with_reducible assumption
    | with_reducible refine keep_showBusy hP _ ?_
    | with_reducible refine keep_showStaged hS _ _ ?_
    | with_reducible refine keep_showWait hS _ ?_
    | (extract_lets +onlyGivenNames t; refine (fun (_ : P t) => ?_) ?_; (on_goal 2 => (dsimp -zeta only [t]; clear t)); (on_goal 1 => (clear_value t; rename' t => w)))
    | (extract_lets +onlyGivenNames t; refine (fun (_ : P t.1) => ?_) ?_; (on_goal 2 => (dsimp -zeta only [t]; clear t)); (on_goal 1 => (clear_value t; rename' t => w)))
    | (extract_lets +onlyGivenNames t; clear_value t; rename' t => w)
    | with_reducible rfl
    | with_reducible exact List.prefix_rfl
    | with_reducible exact le_rfl
    | with_reducible exact fun h => h
    | exact fun h => Memory.wf_writeList _ _ h
    | exact Nat.le_add_right _ _
    | with_reducible exact List.prefix_append _ _
    | with_reducible refine Closed.foldl _ _ _ (fun _ _ _ => ?_) ?_
    | split
    | with_reducible refine hP.build _ ?_ ?_ ?_ ?_

theorem keep_lanMemdatRead (hP : Closed anyField P) (l : ℕ) (s : State) (hs : P s) :
    P (lanMemdatRead l s) := by
  unfold lanMemdatRead
  repeat' first
    | with_reducible assumption
    | with_reducible refine hP.ret _ _ ?_
    | with_reducible refine keep_lmemAdvance hP _ _ ?_
    | (extract_lets +onlyGivenNames t; refine (fun (_ : P t) => ?_) ?_; (on_goal 2 => (dsimp -zeta only [t]; clear t)); (on_goal 1 => (clear_value t; rename' t => w)))
    | (extract_lets +onlyGivenNames t; refine (fun (_ : P t.1) => ?_) ?_; (on_goal 2 => (dsimp -zeta only [t]; clear t)); (on_goal 1 => (clear_value t; rename' t => w)))
    | (extract_lets +onlyGivenNames t; clear_value t; rename' t => w)
    | with_reducible refine Closed.foldl _ _ _ (fun _ _ _ => ?_) ?_
    | split

theorem keep_readClear (hP : Closed anyField P) (r : RegDesc) (i : ℕ) (w : ℕ) (s : State) (hs : P s) :
    P (readClear r i w s) := by
  unfold readClear
  repeat' first
    | with_reducible assumption
    | with_reducible refine hP.ret _ _ ?_
    | with_reducible refine hP.set _ _ _ _ rfl ?_
    | with_reducible refine Closed.foldl _ _ _ (fun _ _ _ => ?_) ?_
    | split

theorem keep_sildatRead (hP : Closed anyField P) (s : State) (hs : P s) :
    P (sildatRead s) := by
  unfold sildatRead
  repeat' first
    | with_reducible assumption
    | with_reducible refine hP.bump _ _ _ rfl ?_
    | with_reducible refine hP.ret _ _ ?_
    | with_reducible refine hP.used _ ?_
    | (extract_lets +onlyGivenNames t; refine (fun (_ : P t) => ?_) ?_; (on_goal 2 => (dsimp -zeta only [t]; clear t)); (on_goal 1 => (clear_value t; rename' t => w)))
    | (extract_lets +onlyGivenNames t; refine (fun (_ : P t.1) => ?_) ?_; (on_goal 2 => (dsimp -zeta only [t]; clear t)); (on_goal 1 => (clear_value t; rename' t => w)))
    | (extract_lets +onlyGivenNames t; clear_value t; rename' t => w)
    | with_reducible refine Closed.foldl _ _ _ (fun _ _ _ => ?_) ?_
    | split

theorem keep_srvMemdatRead (hP : Closed anyField P) (a : ℕ) (s : State) (hs : P s) :
    P (srvMemdatRead a s) := by
  unfold srvMemdatRead
  repeat' first
    | with_reducible assumption
    | with_reducible refine hP.ret _ _ ?_
    | with_reducible refine keep_srvMemAdvance hP _ _ ?_
    | (extract_lets +onlyGivenNames t; refine (fun (_ : P t) => ?_) ?_; (on_goal 2 => (dsimp -zeta only [t]; clear t)); (on_goal 1 => (clear_value t; rename' t => w)))
    | (extract_lets +onlyGivenNames t; refine (fun (_ : P t.1) => ?_) ?_; (on_goal 2 => (dsimp -zeta only [t]; clear t)); (on_goal 1 => (clear_value t; rename' t => w)))
    | (extract_lets +onlyGivenNames t; clear_value t; rename' t => w)
    | with_reducible refine Closed.foldl _ _ _ (fun _ _ _ => ?_) ?_
    | split

theorem keep_readReg (hP : Closed anyField P) (off : ℕ) (s : State) (hs : P s) :
    P (readReg off s) := by
  have hR := hP.ofAny.ofSettle
  unfold readReg
  repeat' first
    | with_reducible assumption
    | with_reducible refine hP.ret _ _ ?_
    | with_reducible refine keep_bnrDat7Read hP _ ?_
    | with_reducible refine keep_captureWords hR _ _ _ _ ?_
    | with_reducible refine keep_countTraffic hP _ _ ?_
    | with_reducible refine keep_lanMemdatRead hP _ _ ?_
    | with_reducible refine keep_lookReg hR _ _ ?_
    | with_reducible refine keep_readClear hP _ _ _ _ ?_
    | with_reducible refine keep_sildatRead hP _ ?_
    | with_reducible refine keep_srvMemdatRead hP _ _ ?_
    | with_reducible refine keep_stampLoRead hR _ ?_
    | with_reducible rfl
    | with_reducible exact List.prefix_rfl
    | with_reducible exact le_rfl
    | with_reducible exact fun h => h
    | exact fun h => Memory.wf_writeList _ _ h
    | exact Nat.le_add_right _ _
    | with_reducible exact List.prefix_append _ _
    | with_reducible refine Closed.foldl _ _ _ (fun _ _ _ => ?_) ?_
    | split
    | with_reducible refine hP.build _ ?_ ?_ ?_ ?_

theorem keep_engineRead (hP : Closed anyField P) (off : ℕ) (s : State) (hs : P s) :
    P (engineRead off s) := by
  unfold engineRead
  repeat' first
    | with_reducible assumption
    | with_reducible refine hP.ret _ _ ?_
    | with_reducible refine keep_readReg hP _ _ ?_
    | with_reducible refine keep_refuseAccess hP _ ?_
    | with_reducible refine Closed.foldl _ _ _ (fun _ _ _ => ?_) ?_
    | split

theorem keep_showRamp (hP : Closed anyField P) (s : State) (hs : P s) :
    P (showRamp s) := by
  unfold showRamp
  repeat' first
    | with_reducible assumption
    | with_reducible refine hP.setI _ _ _ _ rfl ?_
    | with_reducible refine Closed.foldl _ _ _ (fun _ _ _ => ?_) ?_
    | split

theorem keep_setRamp (hP : Closed anyField P) (x : ℤ) (s : State) (hs : P s) :
    P (setRamp x s) := by
  unfold setRamp
  repeat' first
    | with_reducible assumption
    | with_reducible refine hP.setI _ _ _ _ rfl ?_
    | with_reducible refine keep_showRamp hP _ ?_
    | with_reducible refine Closed.foldl _ _ _ (fun _ _ _ => ?_) ?_
    | split

theorem keep_startRamp (hP : Closed anyField P) (v : ℤ) (s : State) (hs : P s) :
    P (startRamp v s) := by
  unfold startRamp
  repeat' first
    | with_reducible assumption
    | with_reducible refine hP.set _ _ _ _ rfl ?_
    | with_reducible refine keep_setRamp hP _ _ ?_
    | with_reducible refine Closed.foldl _ _ _ (fun _ _ _ => ?_) ?_
    | split

theorem keep_enterCatch (hP : Closed anyField P) (v : ℤ) (angle : ℕ) (s : State) (hs : P s) :
    P (enterCatch v angle s) := by
  have hR := hP.ofAny.ofSettle
  unfold enterCatch
  repeat' first
    | with_reducible assumption
    | with_reducible refine hP.bump _ _ _ rfl ?_
    | with_reducible refine hP.set _ _ _ _ rfl ?_
    | with_reducible refine hP.setI _ _ _ _ rfl ?_
    | with_reducible refine hP.setMany _ _ _ rfl ?_
    | with_reducible refine keep_observerFromPilot hP _ ?_
    | with_reducible refine keep_spnGo hR _ _ _ ?_
    | with_reducible refine keep_startRamp hP _ _ ?_
    | (extract_lets +onlyGivenNames t; refine (fun (_ : P t) => ?_) ?_; (on_goal 2 => (dsimp -zeta only [t]; clear t)); (on_goal 1 => (clear_value t; rename' t => w)))
    | (extract_lets +onlyGivenNames t; refine (fun (_ : P t.1) => ?_) ?_; (on_goal 2 => (dsimp -zeta only [t]; clear t)); (on_goal 1 => (clear_value t; rename' t => w)))
    | (extract_lets +onlyGivenNames t; clear_value t; rename' t => w)
    | with_reducible refine Closed.foldl _ _ _ (fun _ _ _ => ?_) ?_
    | split

theorem keep_enterSeek (hP : Closed anyField P) (a : ℕ) (s : State) (hs : P s) :
    P (enterSeek a s) := by
  unfold enterSeek
  repeat' first
    | with_reducible assumption
    | with_reducible refine hP.setMany _ _ _ rfl ?_
    | with_reducible refine keep_vcmSeek hP _ _ _ _ ?_
    | with_reducible refine Closed.foldl _ _ _ (fun _ _ _ => ?_) ?_
    | split

theorem keep_eofsCalDone (hP : Closed anyField P) (revs : ℕ) (s : State) (hs : P s) :
    P (eofsCalDone revs s) := by
  unfold eofsCalDone
  repeat' first
    | with_reducible assumption
    | with_reducible refine hP.set _ _ _ _ rfl ?_
    | with_reducible refine hP.setMany _ _ _ rfl ?_
    | with_reducible refine Closed.foldl _ _ _ (fun _ _ _ => ?_) ?_
    | split

theorem keep_estimateArm (hP : Closed anyField P) (a : ℕ) (s : State) (hs : P s) :
    P (estimateArm a s) := by
  unfold estimateArm
  repeat' first
    | with_reducible assumption
    | with_reducible refine hP.set _ _ _ _ rfl ?_
    | with_reducible refine hP.setI _ _ _ _ rfl ?_
    | (extract_lets +onlyGivenNames t; refine (fun (_ : P t) => ?_) ?_; (on_goal 2 => (dsimp -zeta only [t]; clear t)); (on_goal 1 => (clear_value t; rename' t => w)))
    | (extract_lets +onlyGivenNames t; refine (fun (_ : P t.1) => ?_) ?_; (on_goal 2 => (dsimp -zeta only [t]; clear t)); (on_goal 1 => (clear_value t; rename' t => w)))
    | (extract_lets +onlyGivenNames t; clear_value t; rename' t => w)
    | with_reducible refine Closed.foldl _ _ _ (fun _ _ _ => ?_) ?_
    | split

theorem keep_exitFault (hP : Closed anyField P) (n : ℕ) (s : State) (hs : P s) :
    P (exitFault n s) := by
  have hR := hP.ofAny.ofSettle
  unfold exitFault
  repeat' first
    | with_reducible assumption
    | with_reducible refine keep_State_enter hR _ _ _ _ _ _ _ _ ?_
    | with_reducible refine hP.setMany _ _ _ rfl ?_
    | with_reducible refine keep_leaveSafe hR _ _ ?_
    | with_reducible refine keep_updateFaultN hR _ ?_
    | (extract_lets +onlyGivenNames t; refine (fun (_ : P t) => ?_) ?_; (on_goal 2 => (dsimp -zeta only [t]; clear t)); (on_goal 1 => (clear_value t; rename' t => w)))
    | (extract_lets +onlyGivenNames t; refine (fun (_ : P t.1) => ?_) ?_; (on_goal 2 => (dsimp -zeta only [t]; clear t)); (on_goal 1 => (clear_value t; rename' t => w)))
    | (extract_lets +onlyGivenNames t; clear_value t; rename' t => w)
    | with_reducible refine Closed.foldl _ _ _ (fun _ _ _ => ?_) ?_
    | split

theorem keep_fetchFrame (hP : Closed anyField P) (l : ℕ) (a : ℕ) (s : State) (hs : P s) :
    P (fetchFrame l a s) := by
  unfold fetchFrame
  repeat' first
    | with_reducible assumption
    | with_reducible refine hP.ret _ _ ?_
    | with_reducible refine keep_dramRead hP _ _ _ _ ?_
    | with_reducible refine Closed.forAll _ _ _ (fun _ _ _ => ?_) ?_
    | (extract_lets +onlyGivenNames t; refine (fun (_ : P t) => ?_) ?_; (on_goal 2 => (dsimp -zeta only [t]; clear t)); (on_goal 1 => (clear_value t; rename' t => w)))
    | (extract_lets +onlyGivenNames t; refine (fun (_ : P t.1) => ?_) ?_; (on_goal 2 => (dsimp -zeta only [t]; clear t)); (on_goal 1 => (clear_value t; rename' t => w)))
    | (extract_lets +onlyGivenNames t; clear_value t; rename' t => w)
    | with_reducible refine Closed.foldl _ _ _ (fun _ _ _ => ?_) ?_
    | split

theorem keep_fetchRow (hP : Closed anyField P) (z : ℕ) (r : ℕ) (l : List ℕ) (s : State) (hs : P s) :
    P (fetchRow z r l s) := by
  unfold fetchRow
  refine Closed.forAll _ _ _ (fun pos t ht => Closed.forBelow _ _ _ (fun c u hu => ?_) ht) hs
  dsimp only
  generalize freeBytes u.fresh cwBytes = l
  generalize imageAt z r pos c = a
  exact keep_cleanRange hP.ofAny _ _ _ (hP.record u _ rfl (fun h => Memory.wf_writeGuard _ (Memory.wf_writeList _ _ h)) List.prefix_rfl
    (Nat.le_add_right _ _) hu)


theorem keep_rejectConfig (hP : Closed anyField P) (cause : ℕ) (inst : ℕ) (s : State) (hs : P s) :
    P (rejectConfig cause inst s) := by
  have hR := hP.ofAny.ofSettle
  unfold rejectConfig
  repeat' first
    | with_reducible assumption
    | with_reducible refine keep_enterRecovery hP _ _ ?_
    | with_reducible refine keep_pulse hR _ _ _ ?_
    | with_reducible refine Closed.foldl _ _ _ (fun _ _ _ => ?_) ?_
    | split

theorem keep_loadConfig (hP : Closed anyField P) (areas : CfgArea × CfgArea) (custKey : Bool) (s : State) (hs : P s) :
    P (loadConfig areas custKey s) := by
  have hR := hP.ofAny.ofSettle
  unfold loadConfig
  repeat' first
    | with_reducible assumption
    | with_reducible refine hP.set _ _ _ _ rfl ?_
    | with_reducible refine keep_applyArea hP _ _ _ _ ?_
    | with_reducible refine keep_enterRecovery hP _ _ ?_
    | with_reducible refine keep_pulse hR _ _ _ ?_
    | with_reducible refine keep_rejectConfig hP _ _ _ ?_
    | (extract_lets +onlyGivenNames t; refine (fun (_ : P t) => ?_) ?_; (on_goal 2 => (dsimp -zeta only [t]; clear t)); (on_goal 1 => (clear_value t; rename' t => w)))
    | (extract_lets +onlyGivenNames t; refine (fun (_ : P t.1) => ?_) ?_; (on_goal 2 => (dsimp -zeta only [t]; clear t)); (on_goal 1 => (clear_value t; rename' t => w)))
    | (extract_lets +onlyGivenNames t; clear_value t; rename' t => w)
    | with_reducible refine Closed.foldl _ _ _ (fun _ _ _ => ?_) ?_
    | split

theorem keep_flaconLoadDone (hP : Closed anyField P) (dirA : DirCopy) (dirB : DirCopy) (slots : FlaconSlot × FlaconSlot) (areas : CfgArea × CfgArea) (custKey : Bool) (nor : ℕ) (readErr : Bool) (s : State) (hs : P s) :
    P (flaconLoadDone dirA dirB slots areas custKey nor readErr s) := by
  have hR := hP.ofAny.ofSettle
  unfold flaconLoadDone
  repeat' first
    | with_reducible assumption
    | with_reducible refine keep_bootFinds hP _ _ _ _ _ ?_
    | with_reducible refine keep_chooseSlot hP _ _ _ ?_
    | with_reducible refine keep_enterRecovery hP _ _ ?_
    | with_reducible refine keep_loadConfig hP _ _ _ ?_
    | with_reducible refine keep_pulse hR _ _ _ ?_
    | (extract_lets +onlyGivenNames t; refine (fun (_ : P t) => ?_) ?_; (on_goal 2 => (dsimp -zeta only [t]; clear t)); (on_goal 1 => (clear_value t; rename' t => w)))
    | (extract_lets +onlyGivenNames t; refine (fun (_ : P t.1) => ?_) ?_; (on_goal 2 => (dsimp -zeta only [t]; clear t)); (on_goal 1 => (clear_value t; rename' t => w)))
    | (extract_lets +onlyGivenNames t; clear_value t; rename' t => w)
    | with_reducible refine Closed.foldl _ _ _ (fun _ _ _ => ?_) ?_
    | split

theorem keep_growSeg (hP : Closed anyField P) (i : ℕ) (s : State) (hs : P s) :
    P (growSeg i s) := by
  have hS := hP.ofAny
  unfold growSeg
  repeat' first
    | with_reducible assumption
    | with_reducible refine hP.bump _ _ _ rfl ?_
    | with_reducible refine keep_updateSpare hS _ ?_
    | (extract_lets +onlyGivenNames t; refine (fun (_ : P t) => ?_) ?_; (on_goal 2 => (dsimp -zeta only [t]; clear t)); (on_goal 1 => (clear_value t; rename' t => w)))
    | (extract_lets +onlyGivenNames t; refine (fun (_ : P t.1) => ?_) ?_; (on_goal 2 => (dsimp -zeta only [t]; clear t)); (on_goal 1 => (clear_value t; rename' t => w)))
    | (extract_lets +onlyGivenNames t; clear_value t; rename' t => w)
    | with_reducible rfl
    | with_reducible exact List.prefix_rfl
    | with_reducible exact le_rfl
    | with_reducible exact fun h => h
    | exact fun h => Memory.wf_writeList _ _ h
    | exact Nat.le_add_right _ _
    | with_reducible exact List.prefix_append _ _
    | with_reducible refine Closed.foldl _ _ _ (fun _ _ _ => ?_) ?_
    | split
    | with_reducible refine hP.build _ ?_ ?_ ?_ ?_

theorem keep_grownSkip (hP : Closed anyField P) (x : ℕ) (b : ℕ) (i : ℕ) (track : ℕ) (slot : ℕ) (s : State) (hs : P s) :
    P (grownSkip x b i track slot s) := by
  have hS := hP.ofAny
  have hR := hP.ofAny.ofSettle
  unfold grownSkip
  repeat' first
    | with_reducible assumption
    | with_reducible refine hP.set _ _ _ _ rfl ?_
    | with_reducible refine keep_enterSkip hS _ _ _ _ _ ?_
    | with_reducible refine keep_fillJobs hS _ ?_
    | with_reducible refine keep_finishByController hS _ _ _ ?_
    | with_reducible refine Closed.forAll _ _ _ (fun _ _ _ => ?_) ?_
    | with_reducible refine Closed.forBelow _ _ _ (fun _ _ _ => ?_) ?_
    | with_reducible refine keep_growSeg hP _ _ ?_
    | with_reducible refine keep_unplace hR _ _ _ _ ?_
    | (extract_lets +onlyGivenNames t; refine (fun (_ : P t) => ?_) ?_; (on_goal 2 => (dsimp -zeta only [t]; clear t)); (on_goal 1 => (clear_value t; rename' t => w)))
    | (extract_lets +onlyGivenNames t; refine (fun (_ : P t.1) => ?_) ?_; (on_goal 2 => (dsimp -zeta only [t]; clear t)); (on_goal 1 => (clear_value t; rename' t => w)))
    | (extract_lets +onlyGivenNames t; clear_value t; rename' t => w)
    | with_reducible rfl
    | with_reducible exact List.prefix_rfl
    | with_reducible exact le_rfl
    | with_reducible exact fun h => h
    | exact fun h => Memory.wf_writeList _ _ h
    | exact Nat.le_add_right _ _
    | with_reducible exact List.prefix_append _ _
    | with_reducible refine Closed.foldl _ _ _ (fun _ _ _ => ?_) ?_
    | split
    | with_reducible refine hP.build _ ?_ ?_ ?_ ?_

theorem keep_frameFailed (hP : Closed anyField P) (j : FrameJob) (s : State) (hs : P s) :
    P (frameFailed j s) := by
  have hS := hP.ofAny
  unfold frameFailed
  repeat' first
    | with_reducible assumption
    | with_reducible refine keep_State_modOp hS _ _ _ ?_
    | with_reducible refine keep_endOp hS _ _ ?_
    | with_reducible refine keep_enterSkip hS _ _ _ _ _ ?_
    | with_reducible refine keep_grownSkip hP _ _ _ _ _ _ ?_
    | with_reducible refine keep_swapJob hS _ _ _ ?_
    | (extract_lets +onlyGivenNames t; refine (fun (_ : P t) => ?_) ?_; (on_goal 2 => (dsimp -zeta only [t]; clear t)); (on_goal 1 => (clear_value t; rename' t => w)))
    | (extract_lets +onlyGivenNames t; refine (fun (_ : P t.1) => ?_) ?_; (on_goal 2 => (dsimp -zeta only [t]; clear t)); (on_goal 1 => (clear_value t; rename' t => w)))
    | (extract_lets +onlyGivenNames t; clear_value t; rename' t => w)
    | with_reducible rfl
    | with_reducible exact List.prefix_rfl
    | with_reducible exact le_rfl
    | with_reducible exact fun h => h
    | exact fun h => Memory.wf_writeList _ _ h
    | exact Nat.le_add_right _ _
    | with_reducible exact List.prefix_append _ _
    | with_reducible refine Closed.foldl _ _ _ (fun _ _ _ => ?_) ?_
    | split
    | with_reducible refine hP.build _ ?_ ?_ ?_ ?_

theorem keep_issueJob (hP : Closed anyField P) (j : FrameJob) (s : State) (hs : P s) :
    P (issueJob j s) := by
  have hS := hP.ofAny
  unfold issueJob
  repeat' first
    | with_reducible assumption
    | with_reducible refine hP.set _ _ _ _ rfl ?_
    | with_reducible refine keep_acceptWord hS _ _ _ ?_
    | with_reducible refine keep_countSlot hP _ _ _ ?_
    | with_reducible refine keep_yieldRa hS _ _ ?_
    | (extract_lets +onlyGivenNames t; refine (fun (_ : P t) => ?_) ?_; (on_goal 2 => (dsimp -zeta only [t]; clear t)); (on_goal 1 => (clear_value t; rename' t => w)))
    | (extract_lets +onlyGivenNames t; refine (fun (_ : P t.1) => ?_) ?_; (on_goal 2 => (dsimp -zeta only [t]; clear t)); (on_goal 1 => (clear_value t; rename' t => w)))
    | (extract_lets +onlyGivenNames t; clear_value t; rename' t => w)
    | with_reducible rfl
    | with_reducible exact List.prefix_rfl
    | with_reducible exact le_rfl
    | with_reducible exact fun h => h
    | exact fun h => Memory.wf_writeList _ _ h
    | exact Nat.le_add_right _ _
    | with_reducible exact List.prefix_append _ _
    | with_reducible refine Closed.foldl _ _ _ (fun _ _ _ => ?_) ?_
    | split
    | with_reducible refine hP.build _ ?_ ?_ ?_ ?_

theorem keep_planSlot (hP : Closed anyField P) (j : FrameJob) (n : ℕ) (s : State) (hs : P s) :
    P (planSlot j n s) := by
  unfold planSlot
  repeat' first
    | with_reducible assumption
    | with_reducible refine hP.add _ _ _ _ rfl ?_
    | (extract_lets +onlyGivenNames t; refine (fun (_ : P t) => ?_) ?_; (on_goal 2 => (dsimp -zeta only [t]; clear t)); (on_goal 1 => (clear_value t; rename' t => w)))
    | (extract_lets +onlyGivenNames t; refine (fun (_ : P t.1) => ?_) ?_; (on_goal 2 => (dsimp -zeta only [t]; clear t)); (on_goal 1 => (clear_value t; rename' t => w)))
    | (extract_lets +onlyGivenNames t; clear_value t; rename' t => w)
    | with_reducible rfl
    | with_reducible exact List.prefix_rfl
    | with_reducible exact le_rfl
    | with_reducible exact fun h => h
    | exact fun h => Memory.wf_writeList _ _ h
    | exact Nat.le_add_right _ _
    | with_reducible exact List.prefix_append _ _
    | with_reducible refine Closed.foldl _ _ _ (fun _ _ _ => ?_) ?_
    | split
    | with_reducible refine hP.build _ ?_ ?_ ?_ ?_

theorem keep_frameOpIssue (hP : Closed anyField P) (h_0 : ℕ) (s : State) (hs : P s) :
    P (frameOpIssue h_0 s) := by
  unfold frameOpIssue
  repeat' first
    | with_reducible assumption
    | with_reducible refine hP.set _ _ _ _ rfl ?_
    | with_reducible refine keep_countSlot hP _ _ _ ?_
    | with_reducible refine keep_issueJob hP _ _ ?_
    | with_reducible refine keep_planSlot hP _ _ _ ?_
    | with_reducible refine keep_targetWrite hP _ _ _ ?_
    | with_reducible rfl
    | with_reducible exact List.prefix_rfl
    | with_reducible exact le_rfl
    | with_reducible exact fun h => h
    | exact fun h => Memory.wf_writeList _ _ h
    | exact Nat.le_add_right _ _
    | with_reducible exact List.prefix_append _ _
    | with_reducible refine Closed.foldl _ _ _ (fun _ _ _ => ?_) ?_
    | split
    | with_reducible refine hP.build _ ?_ ?_ ?_ ?_

theorem keep_frameOpWrite (hP : Closed anyField P) (l : ℕ) (op : FrameOp) (s : State) (hs : P s) :
    P (frameOpWrite l op s) := by
  have hS := hP.ofAny
  unfold frameOpWrite
  repeat' first
    | with_reducible assumption
    | with_reducible refine keep_acceptOp hS _ _ _ ?_
    | with_reducible refine keep_fetchFrame hP _ _ _ ?_
    | with_reducible refine Closed.forAll _ _ _ (fun _ _ _ => ?_) ?_
    | with_reducible refine keep_piMismatch hS _ _ _ ?_
    | with_reducible refine keep_putFrame hS _ _ _ _ ?_
    | (extract_lets +onlyGivenNames t; refine (fun (_ : P t) => ?_) ?_; (on_goal 2 => (dsimp -zeta only [t]; clear t)); (on_goal 1 => (clear_value t; rename' t => w)))
    | (extract_lets +onlyGivenNames t; refine (fun (_ : P t.1) => ?_) ?_; (on_goal 2 => (dsimp -zeta only [t]; clear t)); (on_goal 1 => (clear_value t; rename' t => w)))
    | (extract_lets +onlyGivenNames t; clear_value t; rename' t => w)
    | with_reducible refine Closed.foldl _ _ _ (fun _ _ _ => ?_) ?_
    | split

theorem keep_startLaneRead (hP : Closed anyField P) (l : ℕ) (t0 : ℕ) (op : FrameOp) (hard : BitVec 302) (s : State) (hs : P s) :
    P (startLaneRead l t0 op hard s) := by
  have hS := hP.ofAny
  unfold startLaneRead
  repeat' first
    | with_reducible assumption
    | with_reducible refine hP.bump _ _ _ rfl ?_
    | with_reducible refine hP.set _ _ _ _ rfl ?_
    | with_reducible refine keep_State_setLane hS _ _ _ ?_
    | with_reducible refine keep_countSync hP _ _ _ _ ?_
    | with_reducible refine keep_loadLoops hP _ _ ?_
    | with_reducible refine keep_startFrame hP _ _ _ ?_
    | (extract_lets +onlyGivenNames t; refine (fun (_ : P t) => ?_) ?_; (on_goal 2 => (dsimp -zeta only [t]; clear t)); (on_goal 1 => (clear_value t; rename' t => w)))
    | (extract_lets +onlyGivenNames t; refine (fun (_ : P t.1) => ?_) ?_; (on_goal 2 => (dsimp -zeta only [t]; clear t)); (on_goal 1 => (clear_value t; rename' t => w)))
    | (extract_lets +onlyGivenNames t; clear_value t; rename' t => w)
    | with_reducible rfl
    | with_reducible exact List.prefix_rfl
    | with_reducible exact le_rfl
    | with_reducible exact fun h => h
    | exact fun h => Memory.wf_writeList _ _ h
    | exact Nat.le_add_right _ _
    | with_reducible exact List.prefix_append _ _
    | with_reducible refine Closed.foldl _ _ _ (fun _ _ _ => ?_) ?_
    | split
    | with_reducible refine hP.build _ ?_ ?_ ?_ ?_

theorem keep_frameReadStart (hP : Closed anyField P) (l : ℕ) (hard : BitVec 302) (s : State) (hs : P s) :
    P (frameReadStart l hard s) := by
  have hS := hP.ofAny
  unfold frameReadStart
  repeat' first
    | with_reducible assumption
    | with_reducible refine keep_State_setLane hS _ _ _ ?_
    | with_reducible refine keep_postAll hS _ _ _ _ ?_
    | with_reducible refine keep_refuseLoad hS _ _ _ ?_
    | with_reducible refine keep_startLaneRead hP _ _ _ _ _ ?_
    | with_reducible refine keep_takeLoad hP _ _ _ ?_
    | (extract_lets +onlyGivenNames t; refine (fun (_ : P t) => ?_) ?_; (on_goal 2 => (dsimp -zeta only [t]; clear t)); (on_goal 1 => (clear_value t; rename' t => w)))
    | (extract_lets +onlyGivenNames t; refine (fun (_ : P t.1) => ?_) ?_; (on_goal 2 => (dsimp -zeta only [t]; clear t)); (on_goal 1 => (clear_value t; rename' t => w)))
    | (extract_lets +onlyGivenNames t; clear_value t; rename' t => w)
    | with_reducible rfl
    | with_reducible exact List.prefix_rfl
    | with_reducible exact le_rfl
    | with_reducible exact fun h => h
    | exact fun h => Memory.wf_writeList _ _ h
    | exact Nat.le_add_right _ _
    | with_reducible exact List.prefix_append _ _
    | with_reducible refine Closed.foldl _ _ _ (fun _ _ _ => ?_) ?_
    | split
    | with_reducible refine hP.build _ ?_ ?_ ?_ ?_

theorem keep_loadFault (hP : Closed anyField P) (h_0 : ℕ) (s : State) (hs : P s) :
    P (loadFault h_0 s) := by
  have hR := hP.ofAny.ofSettle
  unfold loadFault
  repeat' first
    | with_reducible assumption
    | with_reducible refine hP.set _ _ _ _ rfl ?_
    | with_reducible refine keep_laneOos hP _ _ _ ?_
    | with_reducible refine keep_pulse hR _ _ _ ?_
    | with_reducible refine Closed.foldl _ _ _ (fun _ _ _ => ?_) ?_
    | split

theorem keep_refuseOnce (hP : Closed anyField P) (j : FrameJob) (s : State) (hs : P s) :
    P (refuseOnce j s) := by
  unfold refuseOnce
  repeat' first
    | with_reducible assumption
    | with_reducible refine hP.set _ _ _ _ rfl ?_
    | with_reducible refine Closed.foldl _ _ _ (fun _ _ _ => ?_) ?_
    | split

theorem keep_loadRefused (hP : Closed anyField P) (j : FrameJob) (s : State) (hs : P s) :
    P (loadRefused j s) := by
  have hS := hP.ofAny
  unfold loadRefused
  repeat' first
    | with_reducible assumption
    | with_reducible refine keep_endWrites hS _ _ ?_
    | with_reducible refine Closed.forAll _ _ _ (fun _ _ _ => ?_) ?_
    | with_reducible refine keep_loadFault hP _ _ ?_
    | with_reducible refine keep_refuseOnce hP _ _ ?_
    | with_reducible refine keep_reissue hS _ _ ?_
    | with_reducible refine keep_reportLost hS _ _ ?_
    | (extract_lets +onlyGivenNames t; refine (fun (_ : P t) => ?_) ?_; (on_goal 2 => (dsimp -zeta only [t]; clear t)); (on_goal 1 => (clear_value t; rename' t => w)))
    | (extract_lets +onlyGivenNames t; refine (fun (_ : P t.1) => ?_) ?_; (on_goal 2 => (dsimp -zeta only [t]; clear t)); (on_goal 1 => (clear_value t; rename' t => w)))
    | (extract_lets +onlyGivenNames t; clear_value t; rename' t => w)
    | with_reducible rfl
    | with_reducible exact List.prefix_rfl
    | with_reducible exact le_rfl
    | with_reducible exact fun h => h
    | exact fun h => Memory.wf_writeList _ _ h
    | exact Nat.le_add_right _ _
    | with_reducible exact List.prefix_append _ _
    | with_reducible refine Closed.foldl _ _ _ (fun _ _ _ => ?_) ?_
    | split
    | with_reducible refine hP.build _ ?_ ?_ ?_ ?_

theorem keep_readResult (hP : Closed anyField P) (j : FrameJob) (r : CwResult) (s : State) (hs : P s) :
    P (readResult j r s) := by
  have hS := hP.ofAny
  unfold readResult
  dsimp only
  repeat' first
    | with_reducible assumption
    | with_reducible refine keep_State_modOp hS _ _ _ ?_
    | with_reducible refine keep_codewordDone hS _ _ ?_
    | with_reducible refine keep_codewordFailed hS _ _ _ ?_
    | with_reducible refine keep_endOp hS _ _ ?_
    | with_reducible refine keep_loadRefused hP _ _ ?_
    | with_reducible refine keep_reissue hS _ _ ?_
    | (extract_lets +onlyGivenNames t; refine (fun (_ : P t) => ?_) ?_; (on_goal 2 => (dsimp -zeta only [t]; clear t)); (on_goal 1 => (clear_value t; rename' t => w)))
    | (extract_lets +onlyGivenNames t; refine (fun (_ : P t.1) => ?_) ?_; (on_goal 2 => (dsimp -zeta only [t]; clear t)); (on_goal 1 => (clear_value t; rename' t => w)))
    | (extract_lets +onlyGivenNames t; clear_value t; rename' t => w)
    | with_reducible rfl
    | with_reducible exact List.prefix_rfl
    | with_reducible exact le_rfl
    | with_reducible exact fun h => h
    | exact fun h => Memory.wf_writeList _ _ h
    | exact Nat.le_add_right _ _
    | with_reducible exact List.prefix_append _ _
    | with_reducible refine Closed.foldl _ _ _ (fun _ _ _ => ?_) ?_
    | split
    | with_reducible refine hP.build _ ?_ ?_ ?_ ?_


theorem keep_frameWritten (hP : Closed anyField P) (j : FrameJob) (s : State) (hs : P s) :
    P (frameWritten j s) := by
  have hS := hP.ofAny
  have hR := hP.ofAny.ofSettle
  unfold frameWritten
  repeat' first
    | with_reducible assumption
    | with_reducible refine keep_State_modFrames hR _ _ _ ?_
    | with_reducible refine keep_fillJobs hS _ ?_
    | with_reducible refine keep_markPlaced hP _ _ _ _ ?_
    | with_reducible refine keep_releaseFront hR _ _ _ _ ?_
    | (extract_lets +onlyGivenNames t; refine (fun (_ : P t) => ?_) ?_; (on_goal 2 => (dsimp -zeta only [t]; clear t)); (on_goal 1 => (clear_value t; rename' t => w)))
    | (extract_lets +onlyGivenNames t; refine (fun (_ : P t.1) => ?_) ?_; (on_goal 2 => (dsimp -zeta only [t]; clear t)); (on_goal 1 => (clear_value t; rename' t => w)))
    | (extract_lets +onlyGivenNames t; clear_value t; rename' t => w)
    | with_reducible rfl
    | with_reducible exact List.prefix_rfl
    | with_reducible exact le_rfl
    | with_reducible exact fun h => h
    | exact fun h => Memory.wf_writeList _ _ h
    | exact Nat.le_add_right _ _
    | with_reducible exact List.prefix_append _ _
    | with_reducible refine Closed.foldl _ _ _ (fun _ _ _ => ?_) ?_
    | split
    | with_reducible refine hP.build _ ?_ ?_ ?_ ?_

theorem keep_verifyResult (hP : Closed anyField P) (j : FrameJob) (r : CwResult) (s : State) (hs : P s) :
    P (verifyResult j r s) := by
  have hS := hP.ofAny
  unfold verifyResult
  dsimp only
  repeat' first
    | with_reducible assumption
    | with_reducible refine keep_endOp hS _ _ ?_
    | with_reducible refine keep_fillJobs hS _ ?_
    | with_reducible refine keep_frameFailed hP _ _ ?_
    | with_reducible refine keep_frameWritten hP _ _ ?_
    | with_reducible refine keep_refuseOnce hP _ _ ?_
    | with_reducible refine keep_swapJob hS _ _ _ ?_
    | (extract_lets +onlyGivenNames t; refine (fun (_ : P t) => ?_) ?_; (on_goal 2 => (dsimp -zeta only [t]; clear t)); (on_goal 1 => (clear_value t; rename' t => w)))
    | (extract_lets +onlyGivenNames t; refine (fun (_ : P t.1) => ?_) ?_; (on_goal 2 => (dsimp -zeta only [t]; clear t)); (on_goal 1 => (clear_value t; rename' t => w)))
    | (extract_lets +onlyGivenNames t; clear_value t; rename' t => w)
    | with_reducible rfl
    | with_reducible exact List.prefix_rfl
    | with_reducible exact le_rfl
    | with_reducible exact fun h => h
    | exact fun h => Memory.wf_writeList _ _ h
    | exact Nat.le_add_right _ _
    | with_reducible exact List.prefix_append _ _
    | with_reducible refine Closed.foldl _ _ _ (fun _ _ _ => ?_) ?_
    | split
    | with_reducible refine hP.build _ ?_ ?_ ?_ ?_


theorem keep_writeLoadRefused (hP : Closed anyField P) (j : FrameJob) (s : State) (hs : P s) :
    P (writeLoadRefused j s) := by
  have hS := hP.ofAny
  unfold writeLoadRefused
  repeat' first
    | with_reducible assumption
    | with_reducible refine keep_endWrites hS _ _ ?_
    | with_reducible refine Closed.forAll _ _ _ (fun _ _ _ => ?_) ?_
    | with_reducible refine keep_loadFault hP _ _ ?_
    | with_reducible refine keep_reportLost hS _ _ ?_
    | (extract_lets +onlyGivenNames t; refine (fun (_ : P t) => ?_) ?_; (on_goal 2 => (dsimp -zeta only [t]; clear t)); (on_goal 1 => (clear_value t; rename' t => w)))
    | (extract_lets +onlyGivenNames t; refine (fun (_ : P t.1) => ?_) ?_; (on_goal 2 => (dsimp -zeta only [t]; clear t)); (on_goal 1 => (clear_value t; rename' t => w)))
    | (extract_lets +onlyGivenNames t; clear_value t; rename' t => w)
    | with_reducible refine Closed.foldl _ _ _ (fun _ _ _ => ?_) ?_
    | split

theorem keep_writeResult (hP : Closed anyField P) (j : FrameJob) (code : ℕ) (s : State) (hs : P s) :
    P (writeResult j code s) := by
  have hS := hP.ofAny
  unfold writeResult
  dsimp only
  repeat' first
    | with_reducible assumption
    | with_reducible refine keep_endOp hS _ _ ?_
    | with_reducible refine keep_fillJobs hS _ ?_
    | with_reducible refine keep_frameFailed hP _ _ ?_
    | with_reducible refine keep_frameWritten hP _ _ ?_
    | with_reducible refine keep_refuseOnce hP _ _ ?_
    | with_reducible refine keep_swapJob hS _ _ _ ?_
    | (extract_lets +onlyGivenNames t; refine (fun (_ : P t) => ?_) ?_; (on_goal 2 => (dsimp -zeta only [t]; clear t)); (on_goal 1 => (clear_value t; rename' t => w)))
    | (extract_lets +onlyGivenNames t; refine (fun (_ : P t.1) => ?_) ?_; (on_goal 2 => (dsimp -zeta only [t]; clear t)); (on_goal 1 => (clear_value t; rename' t => w)))
    | (extract_lets +onlyGivenNames t; clear_value t; rename' t => w)
    | with_reducible rfl
    | with_reducible exact List.prefix_rfl
    | with_reducible exact le_rfl
    | with_reducible exact fun h => h
    | exact fun h => Memory.wf_writeList _ _ h
    | exact Nat.le_add_right _ _
    | with_reducible exact List.prefix_append _ _
    | with_reducible refine Closed.foldl _ _ _ (fun _ _ _ => ?_) ?_
    | split
    | with_reducible refine hP.build _ ?_ ?_ ?_ ?_


theorem keep_frameResult (hP : Closed anyField P) (s : State) (hs : P s) :
    P (frameResult s) := by
  unfold frameResult
  repeat' first
    | with_reducible assumption
    | with_reducible refine hP.set _ _ _ _ rfl ?_
    | with_reducible refine keep_readResult hP _ _ _ ?_
    | with_reducible refine keep_verifyResult hP _ _ _ ?_
    | with_reducible refine keep_writeLoadRefused hP _ _ ?_
    | with_reducible refine keep_writeResult hP _ _ _ ?_
    | (extract_lets +onlyGivenNames t; refine (fun (_ : P t) => ?_) ?_; (on_goal 2 => (dsimp -zeta only [t]; clear t)); (on_goal 1 => (clear_value t; rename' t => w)))
    | (extract_lets +onlyGivenNames t; refine (fun (_ : P t.1) => ?_) ?_; (on_goal 2 => (dsimp -zeta only [t]; clear t)); (on_goal 1 => (clear_value t; rename' t => w)))
    | (extract_lets +onlyGivenNames t; clear_value t; rename' t => w)
    | with_reducible rfl
    | with_reducible exact List.prefix_rfl
    | with_reducible exact le_rfl
    | with_reducible exact fun h => h
    | exact fun h => Memory.wf_writeList _ _ h
    | exact Nat.le_add_right _ _
    | with_reducible exact List.prefix_append _ _
    | with_reducible refine Closed.foldl _ _ _ (fun _ _ _ => ?_) ?_
    | split
    | with_reducible refine hP.build _ ?_ ?_ ?_ ?_

theorem keep_frameWriteEnd (hP : Closed anyField P) (l : ℕ) (s : State) (hs : P s) :
    P (frameWriteEnd l s) := by
  have hS := hP.ofAny
  have hR := hP.ofAny.ofSettle
  unfold frameWriteEnd
  repeat' first
    | with_reducible assumption
    | with_reducible refine hP.emit _ _ ?_
    | with_reducible refine keep_State_setLane hS _ _ _ ?_
    | with_reducible refine hP.setMany _ _ _ rfl ?_
    | with_reducible refine keep_beginLaneWrite hP _ _ ?_
    | with_reducible refine keep_dropFrame hS _ _ _ ?_
    | with_reducible refine keep_post hS _ _ ?_
    | with_reducible refine keep_setGate hR _ _ _ ?_
    | (extract_lets +onlyGivenNames t; refine (fun (_ : P t) => ?_) ?_; (on_goal 2 => (dsimp -zeta only [t]; clear t)); (on_goal 1 => (clear_value t; rename' t => w)))
    | (extract_lets +onlyGivenNames t; refine (fun (_ : P t.1) => ?_) ?_; (on_goal 2 => (dsimp -zeta only [t]; clear t)); (on_goal 1 => (clear_value t; rename' t => w)))
    | (extract_lets +onlyGivenNames t; clear_value t; rename' t => w)
    | with_reducible rfl
    | with_reducible exact List.prefix_rfl
    | with_reducible exact le_rfl
    | with_reducible exact fun h => h
    | exact fun h => Memory.wf_writeList _ _ h
    | exact Nat.le_add_right _ _
    | with_reducible exact List.prefix_append _ _
    | with_reducible refine Closed.foldl _ _ _ (fun _ _ _ => ?_) ?_
    | split
    | with_reducible refine hP.build _ ?_ ?_ ?_ ?_

theorem keep_startLaneWrite (hP : Closed anyField P) (l : ℕ) (t0 : ℕ) (op : FrameOp) (s : State) (hs : P s) :
    P (startLaneWrite l t0 op s) := by
  have hS := hP.ofAny
  unfold startLaneWrite
  repeat' first
    | with_reducible assumption
    | with_reducible refine keep_State_setLane hS _ _ _ ?_
    | with_reducible refine keep_beginLaneWrite hP _ _ ?_
    | with_reducible refine keep_dropFrame hS _ _ _ ?_
    | with_reducible refine keep_postAll hS _ _ _ _ ?_
    | with_reducible rfl
    | with_reducible exact List.prefix_rfl
    | with_reducible exact le_rfl
    | with_reducible exact fun h => h
    | exact fun h => Memory.wf_writeList _ _ h
    | exact Nat.le_add_right _ _
    | with_reducible exact List.prefix_append _ _
    | with_reducible refine Closed.foldl _ _ _ (fun _ _ _ => ?_) ?_
    | split
    | with_reducible refine hP.build _ ?_ ?_ ?_ ?_

theorem keep_frameWriteStart (hP : Closed anyField P) (l : ℕ) (s : State) (hs : P s) :
    P (frameWriteStart l s) := by
  have hS := hP.ofAny
  unfold frameWriteStart
  repeat' first
    | with_reducible assumption
    | with_reducible refine keep_State_setLane hS _ _ _ ?_
    | with_reducible refine keep_dropFrame hS _ _ _ ?_
    | with_reducible refine keep_refuseLoad hS _ _ _ ?_
    | with_reducible refine keep_startLaneWrite hP _ _ _ _ ?_
    | with_reducible refine keep_takeLoad hP _ _ _ ?_
    | (extract_lets +onlyGivenNames t; refine (fun (_ : P t) => ?_) ?_; (on_goal 2 => (dsimp -zeta only [t]; clear t)); (on_goal 1 => (clear_value t; rename' t => w)))
    | (extract_lets +onlyGivenNames t; refine (fun (_ : P t.1) => ?_) ?_; (on_goal 2 => (dsimp -zeta only [t]; clear t)); (on_goal 1 => (clear_value t; rename' t => w)))
    | (extract_lets +onlyGivenNames t; clear_value t; rename' t => w)
    | with_reducible rfl
    | with_reducible exact List.prefix_rfl
    | with_reducible exact le_rfl
    | with_reducible exact fun h => h
    | exact fun h => Memory.wf_writeList _ _ h
    | exact Nat.le_add_right _ _
    | with_reducible exact List.prefix_append _ _
    | with_reducible refine Closed.foldl _ _ _ (fun _ _ _ => ?_) ?_
    | split
    | with_reducible refine hP.build _ ?_ ?_ ?_ ?_

theorem keep_fwctlAgain (hP : Closed anyField P) (addr : ℕ) (seq : ℕ) (s : State) (hs : P s) :
    P (fwctlAgain addr seq s) := by
  have hR := hP.ofAny.ofSettle
  unfold fwctlAgain
  repeat' first
    | with_reducible assumption
    | with_reducible refine hP.set _ _ _ _ rfl ?_
    | with_reducible refine keep_fwctlAct hP _ _ ?_
    | with_reducible refine keep_reply hR _ _ _ _ ?_
    | (extract_lets +onlyGivenNames t; refine (fun (_ : P t) => ?_) ?_; (on_goal 2 => (dsimp -zeta only [t]; clear t)); (on_goal 1 => (clear_value t; rename' t => w)))
    | (extract_lets +onlyGivenNames t; refine (fun (_ : P t.1) => ?_) ?_; (on_goal 2 => (dsimp -zeta only [t]; clear t)); (on_goal 1 => (clear_value t; rename' t => w)))
    | (extract_lets +onlyGivenNames t; clear_value t; rename' t => w)
    | with_reducible refine Closed.foldl _ _ _ (fun _ _ _ => ?_) ?_
    | split

theorem keep_fwctlQuery (hP : Closed anyField P) (addr : ℕ) (seq : ℕ) (s : State) (hs : P s) :
    P (fwctlQuery addr seq s) := by
  unfold fwctlQuery
  repeat' first
    | with_reducible assumption
    | with_reducible refine keep_upRequest hP _ _ _ _ _ (fun _ _ => ?_) ?_
    | with_reducible refine Closed.foldl _ _ _ (fun _ _ _ => ?_) ?_
    | split

theorem keep_fwdata (hP : Closed anyField P) (off : ℕ) (data : List (BitVec 8)) (s : State) (hs : P s) :
    P (fwdata off data s) := by
  unfold fwdata
  repeat' first
    | with_reducible assumption
    | with_reducible refine hP.set _ _ _ _ rfl ?_
    | with_reducible refine keep_upFrame hP _ _ _ (fun _ _ => ?_) ?_
    | (extract_lets +onlyGivenNames t; refine (fun (_ : P t) => ?_) ?_; (on_goal 2 => (dsimp -zeta only [t]; clear t)); (on_goal 1 => (clear_value t; rename' t => w)))
    | (extract_lets +onlyGivenNames t; refine (fun (_ : P t.1) => ?_) ?_; (on_goal 2 => (dsimp -zeta only [t]; clear t)); (on_goal 1 => (clear_value t; rename' t => w)))
    | (extract_lets +onlyGivenNames t; clear_value t; rename' t => w)
    | with_reducible rfl
    | with_reducible exact List.prefix_rfl
    | with_reducible exact le_rfl
    | with_reducible exact fun h => h
    | exact fun h => Memory.wf_writeList _ _ h
    | exact Nat.le_add_right _ _
    | with_reducible exact List.prefix_append _ _
    | with_reducible refine Closed.foldl _ _ _ (fun _ _ _ => ?_) ?_
    | split
    | with_reducible refine hP.build _ ?_ ?_ ?_ ?_

theorem keep_fwstat (hP : Closed anyField P) (addr : ℕ) (missing : List ℕ) (verified : Bool) (s : State) (hs : P s) :
    P (fwstat addr missing verified s) := by
  unfold fwstat
  repeat' first
    | with_reducible assumption
    | with_reducible refine hP.addSat _ _ _ _ rfl ?_
    | with_reducible refine hP.set _ _ _ _ rfl ?_
    | with_reducible refine keep_claikCast hP _ _ _ ?_
    | with_reducible refine keep_claikSend hP _ _ _ _ ?_
    | with_reducible refine keep_downFrame hP _ _ _ _ (fun _ _ => ?_) ?_
    | with_reducible refine keep_fwStep hP _ ?_
    | (extract_lets +onlyGivenNames t; refine (fun (_ : P t) => ?_) ?_; (on_goal 2 => (dsimp -zeta only [t]; clear t)); (on_goal 1 => (clear_value t; rename' t => w)))
    | (extract_lets +onlyGivenNames t; refine (fun (_ : P t.1) => ?_) ?_; (on_goal 2 => (dsimp -zeta only [t]; clear t)); (on_goal 1 => (clear_value t; rename' t => w)))
    | (extract_lets +onlyGivenNames t; clear_value t; rename' t => w)
    | with_reducible refine Closed.foldl _ _ _ (fun _ _ _ => ?_) ?_
    | split

theorem keep_setGrant (hP : Closed anyField P) (n : ℕ) (v : ℕ) (s : State) (hs : P s) :
    P (setGrant n v s) := by
  unfold setGrant
  repeat' first
    | with_reducible assumption
    | with_reducible refine hP.set _ _ _ _ rfl ?_
    | with_reducible refine keep_claikSend hP _ _ _ _ ?_
    | with_reducible refine Closed.foldl _ _ _ (fun _ _ _ => ?_) ?_
    | split

theorem keep_overcommit (hP : Closed anyField P) (s : State) (hs : P s) :
    P (overcommit s) := by
  have hR := hP.ofAny.ofSettle
  unfold overcommit
  repeat' first
    | with_reducible assumption
    | with_reducible refine keep_pulse hR _ _ _ ?_
    | with_reducible refine keep_sendOrder hP _ _ _ _ ?_
    | with_reducible refine keep_setGrant hP _ _ _ ?_
    | (extract_lets +onlyGivenNames t; refine (fun (_ : P t) => ?_) ?_; (on_goal 2 => (dsimp -zeta only [t]; clear t)); (on_goal 1 => (clear_value t; rename' t => w)))
    | (extract_lets +onlyGivenNames t; refine (fun (_ : P t.1) => ?_) ?_; (on_goal 2 => (dsimp -zeta only [t]; clear t)); (on_goal 1 => (clear_value t; rename' t => w)))
    | (extract_lets +onlyGivenNames t; clear_value t; rename' t => w)
    | with_reducible refine Closed.foldl _ _ _ (fun _ _ _ => ?_) ?_
    | split

theorem keep_serveWants (hP : Closed anyField P) (s : State) (hs : P s) :
    P (serveWants s) := by
  unfold serveWants
  repeat' first
    | with_reducible assumption
    | with_reducible refine keep_setGrant hP _ _ _ ?_
    | (extract_lets +onlyGivenNames t; refine (fun (_ : P t) => ?_) ?_; (on_goal 2 => (dsimp -zeta only [t]; clear t)); (on_goal 1 => (clear_value t; rename' t => w)))
    | (extract_lets +onlyGivenNames t; refine (fun (_ : P t.1) => ?_) ?_; (on_goal 2 => (dsimp -zeta only [t]; clear t)); (on_goal 1 => (clear_value t; rename' t => w)))
    | (extract_lets +onlyGivenNames t; clear_value t; rename' t => w)
    | with_reducible refine Closed.foldl _ _ _ (fun _ _ _ => ?_) ?_
    | split

theorem keep_setBudget (hP : Closed anyField P) (v : ℕ) (s : State) (hs : P s) :
    P (setBudget v s) := by
  unfold setBudget
  repeat' first
    | with_reducible assumption
    | with_reducible refine hP.set _ _ _ _ rfl ?_
    | with_reducible refine keep_overcommit hP _ ?_
    | with_reducible refine keep_serveWants hP _ ?_
    | with_reducible refine keep_showMgr hP _ ?_
    | with_reducible refine Closed.foldl _ _ _ (fun _ _ _ => ?_) ?_
    | split

theorem keep_grant (hP : Closed anyField P) (addr : ℕ) (seq : ℕ) (tokens : ℕ) (s : State) (hs : P s) :
    P (grant addr seq tokens s) := by
  unfold grant
  repeat' first
    | with_reducible assumption
    | with_reducible refine hP.set _ _ _ _ rfl ?_
    | with_reducible refine keep_setBudget hP _ _ ?_
    | with_reducible refine keep_upRequest hP _ _ _ _ _ (fun _ _ => ?_) ?_
    | (extract_lets +onlyGivenNames t; refine (fun (_ : P t) => ?_) ?_; (on_goal 2 => (dsimp -zeta only [t]; clear t)); (on_goal 1 => (clear_value t; rename' t => w)))
    | (extract_lets +onlyGivenNames t; refine (fun (_ : P t.1) => ?_) ?_; (on_goal 2 => (dsimp -zeta only [t]; clear t)); (on_goal 1 => (clear_value t; rename' t => w)))
    | (extract_lets +onlyGivenNames t; clear_value t; rename' t => w)
    | with_reducible refine Closed.foldl _ _ _ (fun _ _ _ => ?_) ?_
    | split

theorem keep_harvestChild (hP : Closed anyField P) (n : ℕ) (s : State) (hs : P s) :
    P (harvestChild n s) := by
  have hS := hP.ofAny
  unfold harvestChild
  repeat' first
    | with_reducible assumption
    | with_reducible refine keep_claikSend hP _ _ _ _ ?_
    | with_reducible refine keep_peerSend hS _ _ _ _ _ _ _ ?_
    | with_reducible refine Closed.foldl _ _ _ (fun _ _ _ => ?_) ?_
    | split

theorem keep_harvestReply (hP : Closed anyField P) (addr : ℕ) (seq : ℕ) (first : ℕ) (count : ℕ) (s : State) (hs : P s) :
    P (harvestReply addr seq first count s) := by
  unfold harvestReply
  repeat' first
    | with_reducible assumption
    | with_reducible refine keep_upRequest hP _ _ _ _ _ (fun _ _ => ?_) ?_
    | (extract_lets +onlyGivenNames t; refine (fun (_ : P t) => ?_) ?_; (on_goal 2 => (dsimp -zeta only [t]; clear t)); (on_goal 1 => (clear_value t; rename' t => w)))
    | (extract_lets +onlyGivenNames t; refine (fun (_ : P t.1) => ?_) ?_; (on_goal 2 => (dsimp -zeta only [t]; clear t)); (on_goal 1 => (clear_value t; rename' t => w)))
    | (extract_lets +onlyGivenNames t; clear_value t; rename' t => w)
    | with_reducible refine Closed.foldl _ _ _ (fun _ _ _ => ?_) ?_
    | split

theorem keep_harvestTimer (hP : Closed anyField P) (s : State) (hs : P s) :
    P (harvestTimer s) := by
  unfold harvestTimer
  repeat' first
    | with_reducible assumption
    | with_reducible refine keep_harvestChild hP _ _ ?_
    | with_reducible refine Closed.foldl _ _ _ (fun _ _ _ => ?_) ?_
    | split

theorem keep_headLost (hP : Closed anyField P) (h_0 : ℕ) (s : State) (hs : P s) :
    P (headLost h_0 s) := by
  have hR := hP.ofAny.ofSettle
  unfold headLost
  repeat' first
    | with_reducible assumption
    | with_reducible refine hP.setMany _ _ _ rfl ?_
    | with_reducible refine keep_pulse hR _ _ _ ?_
    | with_reducible refine keep_setInhibit hP _ _ ?_
    | with_reducible refine keep_showHeads hP _ _ ?_
    | (extract_lets +onlyGivenNames t; refine (fun (_ : P t) => ?_) ?_; (on_goal 2 => (dsimp -zeta only [t]; clear t)); (on_goal 1 => (clear_value t; rename' t => w)))
    | (extract_lets +onlyGivenNames t; refine (fun (_ : P t.1) => ?_) ?_; (on_goal 2 => (dsimp -zeta only [t]; clear t)); (on_goal 1 => (clear_value t; rename' t => w)))
    | (extract_lets +onlyGivenNames t; clear_value t; rename' t => w)
    | with_reducible refine Closed.foldl _ _ _ (fun _ _ _ => ?_) ?_
    | split

theorem keep_headRecover (hP : Closed anyField P) (h_0 : ℕ) (s : State) (hs : P s) :
    P (headRecover h_0 s) := by
  unfold headRecover
  repeat' first
    | with_reducible assumption
    | with_reducible refine hP.set _ _ _ _ rfl ?_
    | with_reducible refine keep_microSeek hP _ _ ?_
    | with_reducible refine keep_showHeads hP _ _ ?_
    | (extract_lets +onlyGivenNames t; refine (fun (_ : P t) => ?_) ?_; (on_goal 2 => (dsimp -zeta only [t]; clear t)); (on_goal 1 => (clear_value t; rename' t => w)))
    | (extract_lets +onlyGivenNames t; refine (fun (_ : P t.1) => ?_) ?_; (on_goal 2 => (dsimp -zeta only [t]; clear t)); (on_goal 1 => (clear_value t; rename' t => w)))
    | (extract_lets +onlyGivenNames t; clear_value t; rename' t => w)
    | with_reducible refine Closed.foldl _ _ _ (fun _ _ _ => ?_) ?_
    | split

theorem keep_hello (hP : Closed anyField P) (eui : ℕ) (s : State) (hs : P s) :
    P (hello eui s) := by
  have hR := hP.ofAny.ofSettle
  unfold hello
  repeat' first
    | with_reducible assumption
    | with_reducible refine hP.bump _ _ _ rfl ?_
    | with_reducible refine keep_addressConflict hR _ ?_
    | with_reducible refine keep_showMgr hP _ ?_
    | with_reducible refine keep_takeNode hP _ _ _ ?_
    | (extract_lets +onlyGivenNames t; refine (fun (_ : P t) => ?_) ?_; (on_goal 2 => (dsimp -zeta only [t]; clear t)); (on_goal 1 => (clear_value t; rename' t => w)))
    | (extract_lets +onlyGivenNames t; refine (fun (_ : P t.1) => ?_) ?_; (on_goal 2 => (dsimp -zeta only [t]; clear t)); (on_goal 1 => (clear_value t; rename' t => w)))
    | (extract_lets +onlyGivenNames t; clear_value t; rename' t => w)
    | with_reducible rfl
    | with_reducible exact List.prefix_rfl
    | with_reducible exact le_rfl
    | with_reducible exact fun h => h
    | exact fun h => Memory.wf_writeList _ _ h
    | exact Nat.le_add_right _ _
    | with_reducible exact List.prefix_append _ _
    | with_reducible refine Closed.foldl _ _ _ (fun _ _ _ => ?_) ?_
    | split
    | with_reducible refine hP.build _ ?_ ?_ ?_ ?_

theorem keep_maskTimeout (hP : Closed anyField P) (a : ℕ) (s : State) (hs : P s) :
    P (maskTimeout a s) := by
  have hR := hP.ofAny.ofSettle
  unfold maskTimeout
  repeat' first
    | with_reducible assumption
    | with_reducible refine hP.bump _ _ _ rfl ?_
    | with_reducible refine hP.set _ _ _ _ rfl ?_
    | with_reducible refine keep_State_setLinkQ hR _ _ _ ?_
    | with_reducible refine hP.setMany _ _ _ rfl ?_
    | with_reducible refine keep_pulse hR _ _ _ ?_
    | (extract_lets +onlyGivenNames t; refine (fun (_ : P t) => ?_) ?_; (on_goal 2 => (dsimp -zeta only [t]; clear t)); (on_goal 1 => (clear_value t; rename' t => w)))
    | (extract_lets +onlyGivenNames t; refine (fun (_ : P t.1) => ?_) ?_; (on_goal 2 => (dsimp -zeta only [t]; clear t)); (on_goal 1 => (clear_value t; rename' t => w)))
    | (extract_lets +onlyGivenNames t; clear_value t; rename' t => w)
    | with_reducible refine Closed.foldl _ _ _ (fun _ _ _ => ?_) ?_
    | split

theorem keep_regTimeout (hP : Closed anyField P) (a : ℕ) (s : State) (hs : P s) :
    P (regTimeout a s) := by
  have hR := hP.ofAny.ofSettle
  unfold regTimeout
  repeat' first
    | with_reducible assumption
    | with_reducible refine hP.bump _ _ _ rfl ?_
    | with_reducible refine hP.set _ _ _ _ rfl ?_
    | with_reducible refine keep_State_setLinkQ hR _ _ _ ?_
    | with_reducible refine hP.setMany _ _ _ rfl ?_
    | with_reducible refine keep_pulse hR _ _ _ ?_
    | (extract_lets +onlyGivenNames t; refine (fun (_ : P t) => ?_) ?_; (on_goal 2 => (dsimp -zeta only [t]; clear t)); (on_goal 1 => (clear_value t; rename' t => w)))
    | (extract_lets +onlyGivenNames t; refine (fun (_ : P t.1) => ?_) ?_; (on_goal 2 => (dsimp -zeta only [t]; clear t)); (on_goal 1 => (clear_value t; rename' t => w)))
    | (extract_lets +onlyGivenNames t; clear_value t; rename' t => w)
    | with_reducible refine Closed.foldl _ _ _ (fun _ _ _ => ?_) ?_
    | split

theorem keep_hlkAckTimeout (hP : Closed anyField P) (a : ℕ) (s : State) (hs : P s) :
    P (hlkAckTimeout a s) := by
  unfold hlkAckTimeout
  repeat' first
    | with_reducible assumption
    | with_reducible refine keep_maskTimeout hP _ _ ?_
    | with_reducible refine keep_regTimeout hP _ _ ?_
    | with_reducible refine Closed.foldl _ _ _ (fun _ _ _ => ?_) ?_
    | split

theorem keep_hlkFaultFlagsRx (hP : Closed anyField P) (a : ℕ) (p : BitVec 48) (s : State) (hs : P s) :
    P (hlkFaultFlagsRx a p s) := by
  have hR := hP.ofAny.ofSettle
  unfold hlkFaultFlagsRx
  repeat' first
    | with_reducible assumption
    | with_reducible refine hP.set _ _ _ _ rfl ?_
    | with_reducible refine keep_crcError hP _ _ ?_
    | with_reducible refine keep_flagSources hR _ _ _ _ _ ?_
    | with_reducible refine keep_recheckWrite hR _ _ ?_
    | with_reducible refine keep_updateMembers hP _ ?_
    | (extract_lets +onlyGivenNames t; refine (fun (_ : P t) => ?_) ?_; (on_goal 2 => (dsimp -zeta only [t]; clear t)); (on_goal 1 => (clear_value t; rename' t => w)))
    | (extract_lets +onlyGivenNames t; refine (fun (_ : P t.1) => ?_) ?_; (on_goal 2 => (dsimp -zeta only [t]; clear t)); (on_goal 1 => (clear_value t; rename' t => w)))
    | (extract_lets +onlyGivenNames t; clear_value t; rename' t => w)
    | with_reducible refine Closed.foldl _ _ _ (fun _ _ _ => ?_) ?_
    | split

theorem keep_roundFailed (hP : Closed anyField P) (a : ℕ) (s : State) (hs : P s) :
    P (roundFailed a s) := by
  have hR := hP.ofAny.ofSettle
  unfold roundFailed
  repeat' first
    | with_reducible assumption
    | with_reducible refine hP.bump _ _ _ rfl ?_
    | with_reducible refine hP.setMany _ _ _ rfl ?_
    | with_reducible refine keep_raise hR _ _ _ ?_
    | with_reducible refine keep_updateMembers hP _ ?_
    | (extract_lets +onlyGivenNames t; refine (fun (_ : P t) => ?_) ?_; (on_goal 2 => (dsimp -zeta only [t]; clear t)); (on_goal 1 => (clear_value t; rename' t => w)))
    | (extract_lets +onlyGivenNames t; refine (fun (_ : P t.1) => ?_) ?_; (on_goal 2 => (dsimp -zeta only [t]; clear t)); (on_goal 1 => (clear_value t; rename' t => w)))
    | (extract_lets +onlyGivenNames t; clear_value t; rename' t => w)
    | with_reducible refine Closed.foldl _ _ _ (fun _ _ _ => ?_) ?_
    | split

theorem keep_hlkHbTimeout (hP : Closed anyField P) (a : ℕ) (s : State) (hs : P s) :
    P (hlkHbTimeout a s) := by
  unfold hlkHbTimeout
  repeat' first
    | with_reducible assumption
    | with_reducible refine keep_roundFailed hP _ _ ?_
    | with_reducible refine Closed.foldl _ _ _ (fun _ _ _ => ?_) ?_
    | split

theorem keep_linkUp (hP : Closed anyField P) (a : ℕ) (s : State) (hs : P s) :
    P (linkUp a s) := by
  have hR := hP.ofAny.ofSettle
  unfold linkUp
  repeat' first
    | with_reducible assumption
    | with_reducible refine hP.setBit _ _ _ _ _ rfl ?_
    | with_reducible refine keep_State_setLinkQ hR _ _ _ ?_
    | with_reducible refine hP.setMany _ _ _ rfl ?_
    | with_reducible refine keep_lower hR _ _ _ ?_
    | with_reducible refine keep_pulse hR _ _ _ ?_
    | with_reducible refine keep_updateMembers hP _ ?_
    | (extract_lets +onlyGivenNames t; refine (fun (_ : P t) => ?_) ?_; (on_goal 2 => (dsimp -zeta only [t]; clear t)); (on_goal 1 => (clear_value t; rename' t => w)))
    | (extract_lets +onlyGivenNames t; refine (fun (_ : P t.1) => ?_) ?_; (on_goal 2 => (dsimp -zeta only [t]; clear t)); (on_goal 1 => (clear_value t; rename' t => w)))
    | (extract_lets +onlyGivenNames t; clear_value t; rename' t => w)
    | with_reducible refine Closed.foldl _ _ _ (fun _ _ _ => ?_) ?_
    | split

theorem keep_hlkHeartbeatRx (hP : Closed anyField P) (a : ℕ) (p : BitVec 48) (s : State) (hs : P s) :
    P (hlkHeartbeatRx a p s) := by
  unfold hlkHeartbeatRx
  repeat' first
    | with_reducible assumption
    | with_reducible refine keep_crcError hP _ _ ?_
    | with_reducible refine keep_linkUp hP _ _ ?_
    | with_reducible refine Closed.foldl _ _ _ (fun _ _ _ => ?_) ?_
    | split

theorem keep_hlkLinkDown (hP : Closed anyField P) (a : ℕ) (s : State) (hs : P s) :
    P (hlkLinkDown a s) := by
  have hR := hP.ofAny.ofSettle
  unfold hlkLinkDown
  repeat' first
    | with_reducible assumption
    | with_reducible refine keep_linkUnup hP _ _ ?_
    | with_reducible refine keep_raise hR _ _ _ ?_
    | with_reducible refine keep_startTraining hP _ _ ?_
    | with_reducible refine Closed.foldl _ _ _ (fun _ _ _ => ?_) ?_
    | split

theorem keep_hlkOrientTimeout (hP : Closed anyField P) (a : ℕ) (s : State) (hs : P s) :
    P (hlkOrientTimeout a s) := by
  unfold hlkOrientTimeout
  repeat' first
    | with_reducible assumption
    | with_reducible refine hP.set _ _ _ _ rfl ?_
    | with_reducible refine keep_roundFailed hP _ _ ?_
    | with_reducible refine Closed.foldl _ _ _ (fun _ _ _ => ?_) ?_
    | split

theorem keep_hlkPacketSent (hP : Closed anyField P) (a : ℕ) (s : State) (hs : P s) :
    P (hlkPacketSent a s) := by
  have hR := hP.ofAny.ofSettle
  unfold hlkPacketSent
  repeat' first
    | with_reducible assumption
    | with_reducible refine hP.bump _ _ _ rfl ?_
    | with_reducible refine hP.emit _ _ ?_
    | with_reducible refine keep_afterSend hP _ _ _ _ ?_
    | with_reducible refine keep_beginSend hR _ _ ?_
    | (extract_lets +onlyGivenNames t; refine (fun (_ : P t) => ?_) ?_; (on_goal 2 => (dsimp -zeta only [t]; clear t)); (on_goal 1 => (clear_value t; rename' t => w)))
    | (extract_lets +onlyGivenNames t; refine (fun (_ : P t.1) => ?_) ?_; (on_goal 2 => (dsimp -zeta only [t]; clear t)); (on_goal 1 => (clear_value t; rename' t => w)))
    | (extract_lets +onlyGivenNames t; clear_value t; rename' t => w)
    | with_reducible refine Closed.foldl _ _ _ (fun _ _ _ => ?_) ?_
    | split

theorem keep_hlkResponseRx (hP : Closed anyField P) (a : ℕ) (p : BitVec 48) (s : State) (hs : P s) :
    P (hlkResponseRx a p s) := by
  unfold hlkResponseRx
  repeat' first
    | with_reducible assumption
    | with_reducible refine hP.setMany _ _ _ rfl ?_
    | with_reducible refine keep_crcError hP _ _ ?_
    | with_reducible refine Closed.foldl _ _ _ (fun _ _ _ => ?_) ?_
    | split

theorem keep_hlkTrainingRx (hP : Closed anyField P) (a : ℕ) (aInv : Bool) (bInv : Bool) (s : State) (hs : P s) :
    P (hlkTrainingRx a aInv bInv s) := by
  unfold hlkTrainingRx
  repeat' first
    | with_reducible assumption
    | with_reducible refine hP.setMany _ _ _ rfl ?_
    | with_reducible refine Closed.foldl _ _ _ (fun _ _ _ => ?_) ?_
    | split

theorem keep_imageDownload (hP : Closed anyField P) (off : ℕ) (len : ℕ) (c : NvCmd) (s : State) (hs : P s) :
    P (imageDownload off len c s) := by
  have hS := hP.ofAny
  unfold imageDownload
  repeat' first
    | with_reducible assumption
    | with_reducible refine hP.set _ _ _ _ rfl ?_
    | with_reducible refine keep_finish hS _ _ _ ?_
    | with_reducible refine Closed.foldl _ _ _ (fun _ _ _ => ?_) ?_
    | split

theorem keep_imageLoadDone (hP : Closed anyField P) (found : ImageChecks) (s : State) (hs : P s) :
    P (imageLoadDone found s) := by
  have hS := hP.ofAny
  have hR := hP.ofAny.ofSettle
  unfold imageLoadDone
  repeat' first
    | with_reducible assumption
    | with_reducible refine hP.set _ _ _ _ rfl ?_
    | with_reducible refine hP.setMany _ _ _ rfl ?_
    | with_reducible refine keep_endLoad hP _ _ ?_
    | with_reducible refine keep_showImages hS _ ?_
    | with_reducible refine keep_writeBody hR _ _ _ ?_
    | (extract_lets +onlyGivenNames t; refine (fun (_ : P t) => ?_) ?_; (on_goal 2 => (dsimp -zeta only [t]; clear t)); (on_goal 1 => (clear_value t; rename' t => w)))
    | (extract_lets +onlyGivenNames t; refine (fun (_ : P t.1) => ?_) ?_; (on_goal 2 => (dsimp -zeta only [t]; clear t)); (on_goal 1 => (clear_value t; rename' t => w)))
    | (extract_lets +onlyGivenNames t; clear_value t; rename' t => w)
    | with_reducible rfl
    | with_reducible exact List.prefix_rfl
    | with_reducible exact le_rfl
    | with_reducible exact fun h => h
    | exact fun h => Memory.wf_writeList _ _ h
    | exact Nat.le_add_right _ _
    | with_reducible exact List.prefix_append _ _
    | with_reducible refine Closed.foldl _ _ _ (fun _ _ _ => ?_) ?_
    | split
    | with_reducible refine hP.build _ ?_ ?_ ?_ ?_

theorem keep_imposedStep (hP : Closed anyField P) (s : State) (hs : P s) :
    P (imposedStep s) := by
  unfold imposedStep
  repeat' first
    | with_reducible assumption
    | with_reducible refine hP.setMany _ _ _ rfl ?_
    | (extract_lets +onlyGivenNames t; refine (fun (_ : P t) => ?_) ?_; (on_goal 2 => (dsimp -zeta only [t]; clear t)); (on_goal 1 => (clear_value t; rename' t => w)))
    | (extract_lets +onlyGivenNames t; refine (fun (_ : P t.1) => ?_) ?_; (on_goal 2 => (dsimp -zeta only [t]; clear t)); (on_goal 1 => (clear_value t; rename' t => w)))
    | (extract_lets +onlyGivenNames t; clear_value t; rename' t => w)
    | with_reducible refine Closed.foldl _ _ _ (fun _ _ _ => ?_) ?_
    | split

theorem keep_indexSignature (hP : Closed anyField P) (n : ℕ) (s : State) (hs : P s) :
    P (indexSignature n s) := by
  have hR := hP.ofAny.ofSettle
  unfold indexSignature
  repeat' first
    | with_reducible assumption
    | with_reducible refine hP.set _ _ _ _ rfl ?_
    | with_reducible refine hP.setMany _ _ _ rfl ?_
    | with_reducible refine keep_adaptTrims hP _ _ ?_
    | with_reducible refine keep_approach hR _ _ ?_
    | with_reducible refine keep_loadTick hR _ _ ?_
    | with_reducible refine keep_updatePrecise hR _ ?_
    | (extract_lets +onlyGivenNames t; refine (fun (_ : P t) => ?_) ?_; (on_goal 2 => (dsimp -zeta only [t]; clear t)); (on_goal 1 => (clear_value t; rename' t => w)))
    | (extract_lets +onlyGivenNames t; refine (fun (_ : P t.1) => ?_) ?_; (on_goal 2 => (dsimp -zeta only [t]; clear t)); (on_goal 1 => (clear_value t; rename' t => w)))
    | (extract_lets +onlyGivenNames t; clear_value t; rename' t => w)
    | with_reducible refine Closed.foldl _ _ _ (fun _ _ _ => ?_) ?_
    | split

theorem keep_inhibitRelease (hP : Closed anyField P) (h_0 : ℕ) (s : State) (hs : P s) :
    P (inhibitRelease h_0 s) := by
  unfold inhibitRelease
  repeat' first
    | with_reducible assumption
    | with_reducible refine hP.set _ _ _ _ rfl ?_
    | with_reducible refine Closed.foldl _ _ _ (fun _ _ _ => ?_) ?_
    | split

theorem keep_internalRead (hP : Closed anyField P) (a : ℕ) (s : State) (hs : P s) :
    P (internalRead a s) := by
  unfold internalRead
  repeat' first
    | with_reducible assumption
    | with_reducible refine hP.ret _ _ ?_
    | with_reducible refine hP.used _ ?_
    | with_reducible refine keep_refuseAccess hP _ ?_
    | with_reducible refine Closed.foldl _ _ _ (fun _ _ _ => ?_) ?_
    | split

theorem keep_journalWritten (hP : Closed anyField P) (f : RecordFail) (s : State) (hs : P s) :
    P (journalWritten f s) := by
  have hS := hP.ofAny
  have hR := hP.ofAny.ofSettle
  unfold journalWritten
  repeat' first
    | with_reducible assumption
    | with_reducible refine hP.set _ _ _ _ rfl ?_
    | with_reducible refine hP.setMany _ _ _ rfl ?_
    | with_reducible refine Closed.forAll _ _ _ (fun _ _ _ => ?_) ?_
    | with_reducible refine keep_putCopies hR _ _ _ ?_
    | with_reducible refine keep_recordFailed hR _ _ ?_
    | with_reducible refine keep_runRequests hS _ ?_
    | (extract_lets +onlyGivenNames t; refine (fun (_ : P t) => ?_) ?_; (on_goal 2 => (dsimp -zeta only [t]; clear t)); (on_goal 1 => (clear_value t; rename' t => w)))
    | (extract_lets +onlyGivenNames t; refine (fun (_ : P t.1) => ?_) ?_; (on_goal 2 => (dsimp -zeta only [t]; clear t)); (on_goal 1 => (clear_value t; rename' t => w)))
    | (extract_lets +onlyGivenNames t; clear_value t; rename' t => w)
    | with_reducible rfl
    | with_reducible exact List.prefix_rfl
    | with_reducible exact le_rfl
    | with_reducible exact fun h => h
    | exact fun h => Memory.wf_writeList _ _ h
    | exact Nat.le_add_right _ _
    | with_reducible exact List.prefix_append _ _
    | with_reducible refine Closed.foldl _ _ _ (fun _ _ _ => ?_) ?_
    | split
    | with_reducible refine hP.build _ ?_ ?_ ?_ ?_

theorem keep_judgeSample (hP : Closed anyField P) (n : ℕ) (s : State) (hs : P s) :
    P (judgeSample n s) := by
  have hR := hP.ofAny.ofSettle
  unfold judgeSample
  repeat' first
    | with_reducible assumption
    | with_reducible refine keep_declareInvalid hP _ _ ?_
    | with_reducible refine keep_pulse hR _ _ _ ?_
    | with_reducible refine keep_setValid hP _ _ _ ?_
    | (extract_lets +onlyGivenNames t; refine (fun (_ : P t) => ?_) ?_; (on_goal 2 => (dsimp -zeta only [t]; clear t)); (on_goal 1 => (clear_value t; rename' t => w)))
    | (extract_lets +onlyGivenNames t; refine (fun (_ : P t.1) => ?_) ?_; (on_goal 2 => (dsimp -zeta only [t]; clear t)); (on_goal 1 => (clear_value t; rename' t => w)))
    | (extract_lets +onlyGivenNames t; clear_value t; rename' t => w)
    | with_reducible refine Closed.foldl _ _ _ (fun _ _ _ => ?_) ?_
    | split

theorem keep_laneOff (hP : Closed anyField P) (l : ℕ) (s : State) (hs : P s) :
    P (laneOff l s) := by
  unfold laneOff
  repeat' first
    | with_reducible assumption
    | with_reducible refine hP.setMany _ _ _ rfl ?_
    | with_reducible refine Closed.foldl _ _ _ (fun _ _ _ => ?_) ?_
    | split

theorem keep_laneTransitionDone (hP : Closed anyField P) (l : ℕ) (s : State) (hs : P s) :
    P (laneTransitionDone l s) := by
  have hR := hP.ofAny.ofSettle
  unfold laneTransitionDone
  repeat' first
    | with_reducible assumption
    | with_reducible refine hP.set _ _ _ _ rfl ?_
    | with_reducible refine keep_laneOff hP _ _ ?_
    | with_reducible refine keep_recheckWrite hR _ _ ?_
    | with_reducible refine keep_startTrans hP _ _ _ ?_
    | (extract_lets +onlyGivenNames t; refine (fun (_ : P t) => ?_) ?_; (on_goal 2 => (dsimp -zeta only [t]; clear t)); (on_goal 1 => (clear_value t; rename' t => w)))
    | (extract_lets +onlyGivenNames t; refine (fun (_ : P t.1) => ?_) ?_; (on_goal 2 => (dsimp -zeta only [t]; clear t)); (on_goal 1 => (clear_value t; rename' t => w)))
    | (extract_lets +onlyGivenNames t; clear_value t; rename' t => w)
    | with_reducible refine Closed.foldl _ _ _ (fun _ _ _ => ?_) ?_
    | split

theorem keep_learnWedge (hP : Closed anyField P) (h_0 : ℕ) (w : Wedge) (s : State) (hs : P s) :
    P (learnWedge h_0 w s) := by
  unfold learnWedge
  repeat' first
    | with_reducible assumption
    | with_reducible refine hP.setI _ _ _ _ rfl ?_
    | (extract_lets +onlyGivenNames t; refine (fun (_ : P t) => ?_) ?_; (on_goal 2 => (dsimp -zeta only [t]; clear t)); (on_goal 1 => (clear_value t; rename' t => w)))
    | (extract_lets +onlyGivenNames t; refine (fun (_ : P t.1) => ?_) ?_; (on_goal 2 => (dsimp -zeta only [t]; clear t)); (on_goal 1 => (clear_value t; rename' t => w)))
    | (extract_lets +onlyGivenNames t; clear_value t; rename' t => w)
    | with_reducible refine Closed.foldl _ _ _ (fun _ _ _ => ?_) ?_
    | split

theorem keep_linkFalls (hP : Closed anyField P) (s : State) (hs : P s) :
    P (linkFalls s) := by
  have hS := hP.ofAny
  unfold linkFalls
  repeat' first
    | with_reducible assumption
    | with_reducible refine hP.setMany _ _ _ rfl ?_
    | with_reducible refine keep_endFreeze hP _ ?_
    | with_reducible refine keep_freeTags hS _ ?_
    | with_reducible refine keep_nvqReset hP _ ?_
    | with_reducible refine keep_resetCfg hP _ ?_
    | (extract_lets +onlyGivenNames t; refine (fun (_ : P t) => ?_) ?_; (on_goal 2 => (dsimp -zeta only [t]; clear t)); (on_goal 1 => (clear_value t; rename' t => w)))
    | (extract_lets +onlyGivenNames t; refine (fun (_ : P t.1) => ?_) ?_; (on_goal 2 => (dsimp -zeta only [t]; clear t)); (on_goal 1 => (clear_value t; rename' t => w)))
    | (extract_lets +onlyGivenNames t; clear_value t; rename' t => w)
    | with_reducible rfl
    | with_reducible exact List.prefix_rfl
    | with_reducible exact le_rfl
    | with_reducible exact fun h => h
    | exact fun h => Memory.wf_writeList _ _ h
    | exact Nat.le_add_right _ _
    | with_reducible exact List.prefix_append _ _
    | with_reducible refine Closed.foldl _ _ _ (fun _ _ _ => ?_) ?_
    | split
    | with_reducible refine hP.build _ ?_ ?_ ?_ ?_

theorem keep_linkDown (hP : Closed anyField P) (s : State) (hs : P s) :
    P (linkDown s) := by
  have hR := hP.ofAny.ofSettle
  unfold linkDown
  repeat' first
    | with_reducible assumption
    | with_reducible refine hP.bump _ _ _ rfl ?_
    | with_reducible refine keep_linkFalls hP _ ?_
    | with_reducible refine keep_raise hR _ _ _ ?_
    | with_reducible refine Closed.foldl _ _ _ (fun _ _ _ => ?_) ?_
    | split

theorem keep_linkError (hP : Closed anyField P) (e : LinkErr) (s : State) (hs : P s) :
    P (linkError e s) := by
  have hR := hP.ofAny.ofSettle
  unfold linkError
  repeat' first
    | with_reducible assumption
    | with_reducible refine hP.bump _ _ _ rfl ?_
    | with_reducible refine keep_aerCorrectable hR _ _ ?_
    | with_reducible refine keep_aerUncorrectable hR _ _ _ ?_
    | with_reducible refine keep_pulse hR _ _ _ ?_
    | with_reducible refine Closed.foldl _ _ _ (fun _ _ _ => ?_) ?_
    | split

theorem keep_loadAcquired (hP : Closed anyField P) (a : ℕ) (s : State) (hs : P s) :
    P (loadAcquired a s) := by
  have hR := hP.ofAny.ofSettle
  unfold loadAcquired
  repeat' first
    | with_reducible assumption
    | with_reducible refine hP.set _ _ _ _ rfl ?_
    | with_reducible refine hP.setI _ _ _ _ rfl ?_
    | with_reducible refine keep_enterSeek hP _ _ ?_
    | with_reducible refine keep_vcmDrive hR _ _ _ ?_
    | with_reducible refine Closed.foldl _ _ _ (fun _ _ _ => ?_) ?_
    | split

theorem keep_loadDataReturn (hP : Closed anyField P) (rd : ℕ → State → State) (c : ℕ) (s : State) (hrd : ∀ y0 y1, P y1 → P (rd y0 y1)) (hs : P s) :
    P (loadDataReturn rd c s) := by
  have hR := hP.ofAny.ofSettle
  unfold loadDataReturn
  repeat' first
    | with_reducible assumption
    | with_reducible refine hrd _ _ ?_
    | with_reducible refine hP.set _ _ _ _ rfl ?_
    | with_reducible refine Closed.forBelow _ _ _ (fun _ _ _ => ?_) ?_
    | with_reducible refine keep_killContext hR _ _ ?_
    | with_reducible refine keep_lookReg hR _ _ ?_
    | (extract_lets +onlyGivenNames t; refine (fun (_ : P t) => ?_) ?_; (on_goal 2 => (dsimp -zeta only [t]; clear t)); (on_goal 1 => (clear_value t; rename' t => w)))
    | (extract_lets +onlyGivenNames t; refine (fun (_ : P t.1) => ?_) ?_; (on_goal 2 => (dsimp -zeta only [t]; clear t)); (on_goal 1 => (clear_value t; rename' t => w)))
    | (extract_lets +onlyGivenNames t; clear_value t; rename' t => w)
    | with_reducible refine Closed.foldl _ _ _ (fun _ _ _ => ?_) ?_
    | split

theorem keep_loadFailed (hP : Closed anyField P) (a : ℕ) (s : State) (hs : P s) :
    P (loadFailed a s) := by
  have hR := hP.ofAny.ofSettle
  unfold loadFailed
  repeat' first
    | with_reducible assumption
    | with_reducible refine hP.setMany _ _ _ rfl ?_
    | with_reducible refine keep_pulse hR _ _ _ ?_
    | with_reducible refine keep_retract hR _ _ ?_
    | with_reducible refine keep_withFollow hR _ ?_
    | (extract_lets +onlyGivenNames t; refine (fun (_ : P t) => ?_) ?_; (on_goal 2 => (dsimp -zeta only [t]; clear t)); (on_goal 1 => (clear_value t; rename' t => w)))
    | (extract_lets +onlyGivenNames t; refine (fun (_ : P t.1) => ?_) ?_; (on_goal 2 => (dsimp -zeta only [t]; clear t)); (on_goal 1 => (clear_value t; rename' t => w)))
    | (extract_lets +onlyGivenNames t; clear_value t; rename' t => w)
    | with_reducible refine Closed.foldl _ _ _ (fun _ _ _ => ?_) ?_
    | split

theorem keep_loadTimeout (hP : Closed anyField P) (a : ℕ) (s : State) (hs : P s) :
    P (loadTimeout a s) := by
  have hR := hP.ofAny.ofSettle
  unfold loadTimeout
  repeat' first
    | with_reducible assumption
    | with_reducible refine hP.set _ _ _ _ rfl ?_
    | with_reducible refine hP.setMany _ _ _ rfl ?_
    | with_reducible refine hP.setSh _ _ _ _ ?_
    | with_reducible refine keep_loadFailed hP _ _ ?_
    | with_reducible refine keep_retract hR _ _ ?_
    | with_reducible refine keep_withFollow hR _ ?_
    | (extract_lets +onlyGivenNames t; refine (fun (_ : P t) => ?_) ?_; (on_goal 2 => (dsimp -zeta only [t]; clear t)); (on_goal 1 => (clear_value t; rename' t => w)))
    | (extract_lets +onlyGivenNames t; refine (fun (_ : P t.1) => ?_) ?_; (on_goal 2 => (dsimp -zeta only [t]; clear t)); (on_goal 1 => (clear_value t; rename' t => w)))
    | (extract_lets +onlyGivenNames t; clear_value t; rename' t => w)
    | with_reducible refine Closed.foldl _ _ _ (fun _ _ _ => ?_) ?_
    | split

theorem keep_lockSource (hP : Closed anyField P) (n : ℕ) (s : State) (hs : P s) :
    P (lockSource n s) := by
  have hR := hP.ofAny.ofSettle
  unfold lockSource
  repeat' first
    | with_reducible assumption
    | with_reducible refine keep_State_enterSource hR _ _ _ _ ?_
    | with_reducible refine hP.set _ _ _ _ rfl ?_
    | with_reducible refine hP.setMany _ _ _ rfl ?_
    | with_reducible refine keep_pulse hR _ _ _ ?_
    | (extract_lets +onlyGivenNames t; refine (fun (_ : P t) => ?_) ?_; (on_goal 2 => (dsimp -zeta only [t]; clear t)); (on_goal 1 => (clear_value t; rename' t => w)))
    | (extract_lets +onlyGivenNames t; refine (fun (_ : P t.1) => ?_) ?_; (on_goal 2 => (dsimp -zeta only [t]; clear t)); (on_goal 1 => (clear_value t; rename' t => w)))
    | (extract_lets +onlyGivenNames t; clear_value t; rename' t => w)
    | with_reducible refine Closed.foldl _ _ _ (fun _ _ _ => ?_) ?_
    | split

theorem keep_lookWords (hP : Closed anyField P) (a : ℕ) (a1 : ℕ) (a2 : State) (ha2 : P a2) :
    P (lookWords a a1 a2).1 := by
  induction a generalizing a1 a2 with
  | zero => exact ha2
  | succ k ih => exact ih _ _ (keep_lookReg hP.ofAny.ofSettle _ _ ha2)


theorem keep_stageEntry (hP : Closed anyField P) (c : ℕ) (a : ℕ) (v : ℕ) (s : State) (hs : P s) :
    P (stageEntry c a v s) := by
  have hR := hP.ofAny.ofSettle
  unfold stageEntry
  repeat' first
    | with_reducible assumption
    | with_reducible refine keep_pulse hR _ _ _ ?_
    | (extract_lets +onlyGivenNames t; refine (fun (_ : P t) => ?_) ?_; (on_goal 2 => (dsimp -zeta only [t]; clear t)); (on_goal 1 => (clear_value t; rename' t => w)))
    | (extract_lets +onlyGivenNames t; refine (fun (_ : P t.1) => ?_) ?_; (on_goal 2 => (dsimp -zeta only [t]; clear t)); (on_goal 1 => (clear_value t; rename' t => w)))
    | (extract_lets +onlyGivenNames t; clear_value t; rename' t => w)
    | with_reducible rfl
    | with_reducible exact List.prefix_rfl
    | with_reducible exact le_rfl
    | with_reducible exact fun h => h
    | exact fun h => Memory.wf_writeList _ _ h
    | exact Nat.le_add_right _ _
    | with_reducible exact List.prefix_append _ _
    | with_reducible refine Closed.foldl _ _ _ (fun _ _ _ => ?_) ?_
    | split
    | with_reducible refine hP.build _ ?_ ?_ ?_ ?_

theorem keep_lsSlot (hP : Closed anyField P) (bus : ℕ → ℕ → State → State) (c : ℕ) (s : State) (i : Instr) (t : State) (hbus : ∀ y0 y1 y2, P y2 → P (bus y0 y1 y2)) (hs : P s) (ht : P t) :
    P (lsSlot bus c s i t) := by
  cases i
  case ld c1 n x b off l =>
    unfold lsSlot
    dsimp only
    split
    · exact hP.set _ _ _ _ rfl (hP.set _ _ _ _ rfl (hP.set _ _ _ _ rfl ht))
    · exact hP.set _ _ _ _ rfl ht
  case st c1 n x b off l =>
    unfold lsSlot
    dsimp only
    exact keep_silWatch hP _ _ _ (hP.record t _ rfl (fun h => Memory.wf_writeList _ _ h) List.prefix_rfl le_rfl ht)
  case stg c1 n x b off l =>
    unfold lsSlot
    dsimp only
    exact keep_stageEntry hP _ _ _ _ ht
  case dir c1 n x b off l =>
    unfold lsSlot
    dsimp only
    split
    · exact keep_putPort hP _ _ _ _ ht
    · exact hbus _ _ _ ht
  case movb c1 n x b off l =>
    unfold lsSlot
    dsimp only
    exact hP.set _ _ _ _ rfl ht
  all_goals exact ht


theorem keep_macSlot (hP : Closed anyField P) (c : ℕ) (s : State) (i : Instr) (t : State) (hs : P s) (ht : P t) :
    P (macSlot c s i t) := by
  cases i
  case mul => exact keep_setAcc hP.ofAny.ofSettle _ _ _ _ ht
  case mac => exact keep_setAcc hP.ofAny.ofSettle _ _ _ _ ht
  case msu => exact keep_setAcc hP.ofAny.ofSettle _ _ _ _ ht
  case add => exact keep_setAcc hP.ofAny.ofSettle _ _ _ _ ht
  case lda => exact keep_setAcc hP.ofAny.ofSettle _ _ _ _ ht
  case clr => exact keep_setAcc hP.ofAny.ofSettle _ _ _ _ ht
  case abs => exact keep_setAcc hP.ofAny.ofSettle _ _ _ _ ht
  case min => exact keep_setAcc hP.ofAny.ofSettle _ _ _ _ ht
  case max => exact keep_setAcc hP.ofAny.ofSettle _ _ _ _ ht
  case wr c1 n a b q l =>
    unfold macSlot
    dsimp -zeta only
    extract_lets v u
    have hu : P u := hP.setI _ _ _ _ rfl (by
      split
      · exact hP.used _ ht
      · exact ht)
    clear_value u v
    split
    · exact keep_setFlags hP.ofAny.ofSettle _ _ _ hu
    · exact hu
  all_goals exact ht


theorem keep_passDirect (hP : Closed anyField P) (c : ℕ) (ops : List Instr) (s : State) (t : State) (hs : P s) (ht : P t) :
    P (passDirect c ops s t) := by
  unfold passDirect
  repeat' first
    | with_reducible assumption
    | with_reducible refine keep_commitPlan hP _ _ ?_
    | with_reducible refine Closed.forAll _ _ _ (fun _ _ _ => ?_) ?_
    | with_reducible refine keep_passPort hP _ _ _ _ _ ?_
    | (extract_lets +onlyGivenNames t; refine (fun (_ : P t) => ?_) ?_; (on_goal 2 => (dsimp -zeta only [t]; clear t)); (on_goal 1 => (clear_value t; rename' t => w)))
    | (extract_lets +onlyGivenNames t; refine (fun (_ : P t.1) => ?_) ?_; (on_goal 2 => (dsimp -zeta only [t]; clear t)); (on_goal 1 => (clear_value t; rename' t => w)))
    | (extract_lets +onlyGivenNames t; clear_value t; rename' t => w)
    | with_reducible refine Closed.foldl _ _ _ (fun _ _ _ => ?_) ?_
    | split

theorem keep_uncorrectable (hP : Closed anyField P) (c : ℕ) (cause : ℕ) (s : State) (hs : P s) :
    P (uncorrectable c cause s) := by
  have hR := hP.ofAny.ofSettle
  unfold uncorrectable
  repeat' first
    | with_reducible assumption
    | with_reducible refine keep_killContext hR _ _ ?_
    | with_reducible refine keep_pulse hR _ _ _ ?_
    | with_reducible refine keep_recordErr hP _ _ _ ?_
    | with_reducible refine Closed.foldl _ _ _ (fun _ _ _ => ?_) ?_
    | split

theorem keep_violation (hP : Closed anyField P) (c : ℕ) (s : State) (hs : P s) :
    P (violation c s) := by
  have hR := hP.ofAny.ofSettle
  unfold violation
  repeat' first
    | with_reducible assumption
    | with_reducible refine hP.set _ _ _ _ rfl ?_
    | with_reducible refine keep_killContext hR _ _ ?_
    | with_reducible refine keep_pulse hR _ _ _ ?_
    | with_reducible refine keep_recordErr hP _ _ _ ?_
    | with_reducible refine Closed.foldl _ _ _ (fun _ _ _ => ?_) ?_
    | split

theorem keep_runWord (hP : Closed anyField P) (bus : ℕ → ℕ → State → State) (c : ℕ) (ops : List Instr) (s : State) (hbus : ∀ y0 y1 y2, P y2 → P (bus y0 y1 y2)) (hs : P s) :
    P (runWord bus c ops s) := by
  unfold runWord
  split
  · exact keep_violation hP _ _ hs
  split
  · exact keep_uncorrectable hP _ _ _ hs
  extract_lets nx t1 t2
  have h1 : P t1 := hP.set _ _ _ _ rfl (hP.bump _ _ _ rfl hs)
  clear_value t1 nx
  have h2 : P t2 := keep_passDirect hP _ _ _ _ hs (Closed.forAll _ _ _ (fun i u hu =>
    keep_lsSlot hP _ _ _ _ _ hbus hs (keep_macSlot hP _ _ _ _ hs hu)) h1)
  clear_value t2
  exact keep_settleTrace hP.ofAny.ofSettle _ _ (Closed.forAll _ _ _ (fun i u hu => keep_copSlot hP _ _ _ _ hs hu) h2)


theorem keep_lpeOp (hP : Closed anyField P) (bus : ℕ → ℕ → State → State) (c : ℕ) (i : Instr) (last : Bool) (s : State) (hbus : ∀ y0 y1 y2, P y2 → P (bus y0 y1 y2)) (hs : P s) :
    P (lpeOp bus c i last s) := by
  unfold lpeOp
  repeat' first
    | with_reducible assumption
    | refine hbus _ _ _ ?_
    | with_reducible refine keep_runWord hP _ _ _ _ (fun _ _ _ _ => ?_) ?_
    | with_reducible refine keep_uncorrectable hP _ _ _ ?_
    | (extract_lets +onlyGivenNames t; refine (fun (_ : P t) => ?_) ?_; (on_goal 2 => (dsimp -zeta only [t]; clear t)); (on_goal 1 => (clear_value t; rename' t => w)))
    | (extract_lets +onlyGivenNames t; refine (fun (_ : P t.1) => ?_) ?_; (on_goal 2 => (dsimp -zeta only [t]; clear t)); (on_goal 1 => (clear_value t; rename' t => w)))
    | (extract_lets +onlyGivenNames t; clear_value t; rename' t => w)
    | with_reducible rfl
    | with_reducible exact List.prefix_rfl
    | with_reducible exact le_rfl
    | with_reducible exact fun h => h
    | exact fun h => Memory.wf_writeList _ _ h
    | exact Nat.le_add_right _ _
    | with_reducible exact List.prefix_append _ _
    | with_reducible refine Closed.foldl _ _ _ (fun _ _ _ => ?_) ?_
    | split
    | with_reducible refine hP.build _ ?_ ?_ ?_ ?_

theorem keep_macerationExpiry (hP : Closed anyField P) (n : ℕ) (s : State) (hs : P s) :
    P (macerationExpiry n s) := by
  unfold macerationExpiry
  repeat' first
    | with_reducible assumption
    | with_reducible refine keep_exitFault hP _ _ ?_
    | with_reducible refine keep_lockSource hP _ _ ?_
    | (extract_lets +onlyGivenNames t; refine (fun (_ : P t) => ?_) ?_; (on_goal 2 => (dsimp -zeta only [t]; clear t)); (on_goal 1 => (clear_value t; rename' t => w)))
    | (extract_lets +onlyGivenNames t; refine (fun (_ : P t.1) => ?_) ?_; (on_goal 2 => (dsimp -zeta only [t]; clear t)); (on_goal 1 => (clear_value t; rename' t => w)))
    | (extract_lets +onlyGivenNames t; clear_value t; rename' t => w)
    | with_reducible refine Closed.foldl _ _ _ (fun _ _ _ => ?_) ?_
    | split

theorem keep_mediaPolicy (hP : Closed anyField P) (v : ℕ) (c : NvCmd) (s : State) (hs : P s) :
    P (mediaPolicy v c s) := by
  have hS := hP.ofAny
  unfold mediaPolicy
  repeat' first
    | with_reducible assumption
    | with_reducible refine keep_State_modCmd hS _ _ _ ?_
    | with_reducible refine keep_stepPolicy hP _ ?_
    | with_reducible rfl
    | with_reducible exact List.prefix_rfl
    | with_reducible exact le_rfl
    | with_reducible exact fun h => h
    | exact fun h => Memory.wf_writeList _ _ h
    | exact Nat.le_add_right _ _
    | with_reducible exact List.prefix_append _ _
    | with_reducible refine Closed.foldl _ _ _ (fun _ _ _ => ?_) ?_
    | split
    | with_reducible refine hP.build _ ?_ ?_ ?_ ?_

theorem keep_refusedRequest (hP : Closed anyField P) (r : MemReq) (read : Bool) (s : State) (hs : P s) :
    ∀ t, (refusedRequest r read s) = some t → P t := by
  intro t h
  unfold refusedRequest at h
  split at h
  · exact Option.some.inj h ▸ keep_aerUncorrectable hP.ofAny.ofSettle _ _ _ hs
  split at h
  · exact Option.some.inj h ▸ keep_aerUncorrectable hP.ofAny.ofSettle _ _ _ hs
  split at h
  · exact absurd h (by simp)
  · refine Option.some.inj h ▸ ?_
    split
    · exact keep_refuseRead hP.ofAny.ofSettle _ hs
    · exact keep_unsupported hP.ofAny.ofSettle _ hs
  · exact Option.some.inj h ▸ keep_refuseRead hP.ofAny.ofSettle _ hs
  · exact Option.some.inj h ▸ keep_refuseRead hP.ofAny.ofSettle _ hs


theorem keep_memoryRead (hP : Closed anyField P) (r : MemReq) (s : State) (hs : P s) :
    P (memoryRead r s) := by
  have hS := hP.ofAny
  have hR := hP.ofAny.ofSettle
  unfold memoryRead
  repeat' first
    | with_reducible assumption
    | with_reducible refine hP.bump _ _ _ rfl ?_
    | with_reducible refine hP.emit _ _ ?_
    | with_reducible refine hP.ret _ _ ?_
    | with_reducible refine keep_bar2Read hP _ _ _ _ ?_
    | with_reducible refine keep_completeRead hR _ _ _ ?_
    | with_reducible refine keep_linkAwake hS _ ?_
    | with_reducible refine keep_lookWords hP _ _ _ ?_
    | with_reducible refine keep_refuseRead hR _ ?_
    | with_reducible refine keep_refusedRequest hP _ _ _ ?_ _ (by assumption)
    | with_reducible refine keep_refusedRequest hP _ _ _ ?_
    | (extract_lets +onlyGivenNames t; refine (fun (_ : P t) => ?_) ?_; (on_goal 2 => (dsimp -zeta only [t]; clear t)); (on_goal 1 => (clear_value t; rename' t => w)))
    | (extract_lets +onlyGivenNames t; refine (fun (_ : P t.1) => ?_) ?_; (on_goal 2 => (dsimp -zeta only [t]; clear t)); (on_goal 1 => (clear_value t; rename' t => w)))
    | (extract_lets +onlyGivenNames t; clear_value t; rename' t => w)
    | with_reducible refine Closed.foldl _ _ _ (fun _ _ _ => ?_) ?_
    | split

theorem keep_memoryWrite (hP : Closed anyField P) (r : MemReq) (s : State) (hs : P s) :
    P (memoryWrite r s) := by
  have hS := hP.ofAny
  have hR := hP.ofAny.ofSettle
  unfold memoryWrite
  repeat' first
    | with_reducible assumption
    | with_reducible refine hP.bump _ _ _ rfl ?_
    | with_reducible refine keep_bar0Write hP _ _ _ ?_
    | with_reducible refine keep_bar4Write hP _ _ _ ?_
    | with_reducible refine keep_dramWrite hP _ _ _ _ _ ?_
    | with_reducible refine Closed.forBelow _ _ _ (fun _ _ _ => ?_) ?_
    | with_reducible refine keep_linkAwake hS _ ?_
    | with_reducible refine keep_poisonRange hS _ _ _ ?_
    | with_reducible refine keep_poisonedTlp hR _ ?_
    | with_reducible refine keep_refusedRequest hP _ _ _ ?_ _ (by assumption)
    | with_reducible refine keep_refusedRequest hP _ _ _ ?_
    | with_reducible refine keep_unsupported hR _ ?_
    | (extract_lets +onlyGivenNames t; refine (fun (_ : P t) => ?_) ?_; (on_goal 2 => (dsimp -zeta only [t]; clear t)); (on_goal 1 => (clear_value t; rename' t => w)))
    | (extract_lets +onlyGivenNames t; refine (fun (_ : P t.1) => ?_) ?_; (on_goal 2 => (dsimp -zeta only [t]; clear t)); (on_goal 1 => (clear_value t; rename' t => w)))
    | (extract_lets +onlyGivenNames t; clear_value t; rename' t => w)
    | with_reducible refine Closed.foldl _ _ _ (fun _ _ _ => ?_) ?_
    | split

theorem keep_microAdvance (hP : Closed anyField P) (h_0 : ℕ) (s : State) (hs : P s) :
    P (microAdvance h_0 s) := by
  unfold microAdvance
  repeat' first
    | with_reducible assumption
    | with_reducible refine hP.set _ _ _ _ rfl ?_
    | with_reducible refine hP.setI _ _ _ _ rfl ?_
    | (extract_lets +onlyGivenNames t; refine (fun (_ : P t) => ?_) ?_; (on_goal 2 => (dsimp -zeta only [t]; clear t)); (on_goal 1 => (clear_value t; rename' t => w)))
    | (extract_lets +onlyGivenNames t; refine (fun (_ : P t.1) => ?_) ?_; (on_goal 2 => (dsimp -zeta only [t]; clear t)); (on_goal 1 => (clear_value t; rename' t => w)))
    | (extract_lets +onlyGivenNames t; clear_value t; rename' t => w)
    | with_reducible refine Closed.foldl _ _ _ (fun _ _ _ => ?_) ?_
    | split

theorem keep_multiwordLowRead (hP : Closed anyField P) (a : ℕ) (s : State) (hs : P s) :
    P (multiwordLowRead a s) := by
  unfold multiwordLowRead
  repeat' first
    | with_reducible assumption
    | with_reducible refine hP.ret _ _ ?_
    | with_reducible refine keep_readReg hP _ _ ?_
    | with_reducible refine keep_refuseAccess hP _ ?_
    | with_reducible refine Closed.foldl _ _ _ (fun _ _ _ => ?_) ?_
    | split

theorem keep_newInterval (hP : Closed anyField P) (l : ℕ) (s : State) (hs : P s) :
    P (newInterval l s) := by
  unfold newInterval
  repeat' first
    | with_reducible assumption
    | with_reducible refine hP.setMany _ _ _ rfl ?_
    | with_reducible refine Closed.foldl _ _ _ (fun _ _ _ => ?_) ?_
    | split

theorem keep_repeatNor (hP : Closed anyField P) (w : NorWork) (s : State) (hs : P s) :
    P (repeatNor w s) := by
  have hS := hP.ofAny
  unfold repeatNor
  repeat' first
    | with_reducible assumption
    | with_reducible refine keep_commitImage hP _ _ _ _ _ _ ?_
    | with_reducible refine keep_fwctlAgain hP _ _ _ ?_
    | with_reducible refine keep_onMedia hS _ _ _ (fun _ _ => ?_) ?_
    | with_reducible refine Closed.foldl _ _ _ (fun _ _ _ => ?_) ?_
    | split

theorem keep_repeatAll (hP : Closed anyField P) (a : List NorWork) (a1 : State) (ha1 : P a1) :
    P (repeatAll a a1) := by
  induction a generalizing a1 with
  | nil => exact ha1
  | cons w l ih =>
    unfold repeatAll
    dsimp only
    split
    · exact keep_repeatNor hP _ _ ha1
    · exact ih _ (keep_repeatNor hP _ _ ha1)


theorem keep_norFree (hP : Closed anyField P) (s : State) (hs : P s) :
    P (norFree s) := by
  unfold norFree
  repeat' first
    | with_reducible assumption
    | with_reducible refine keep_repeatAll hP _ _ ?_
    | with_reducible rfl
    | with_reducible exact List.prefix_rfl
    | with_reducible exact le_rfl
    | with_reducible exact fun h => h
    | exact fun h => Memory.wf_writeList _ _ h
    | exact Nat.le_add_right _ _
    | with_reducible exact List.prefix_append _ _
    | with_reducible refine Closed.foldl _ _ _ (fun _ _ _ => ?_) ?_
    | split
    | with_reducible refine hP.build _ ?_ ?_ ?_ ?_

theorem keep_observerLockLoss (hP : Closed anyField P) (s : State) (hs : P s) :
    P (observerLockLoss s) := by
  have hR := hP.ofAny.ofSettle
  unfold observerLockLoss
  repeat' first
    | with_reducible assumption
    | with_reducible refine hP.setMany _ _ _ rfl ?_
    | with_reducible refine keep_enterCoast hR _ ?_
    | with_reducible refine keep_observerFromPilot hP _ ?_
    | with_reducible refine keep_pulse hR _ _ _ ?_
    | with_reducible refine keep_setBridge hR _ _ ?_
    | with_reducible refine keep_withFollow hR _ ?_
    | (extract_lets +onlyGivenNames t; refine (fun (_ : P t) => ?_) ?_; (on_goal 2 => (dsimp -zeta only [t]; clear t)); (on_goal 1 => (clear_value t; rename' t => w)))
    | (extract_lets +onlyGivenNames t; refine (fun (_ : P t.1) => ?_) ?_; (on_goal 2 => (dsimp -zeta only [t]; clear t)); (on_goal 1 => (clear_value t; rename' t => w)))
    | (extract_lets +onlyGivenNames t; clear_value t; rename' t => w)
    | with_reducible refine Closed.foldl _ _ _ (fun _ _ _ => ?_) ?_
    | split

theorem keep_observerPeriod (hP : Closed anyField P) (angle : ℕ) (speed : ℤ) (err : ℕ) (emf : ℕ) (s : State) (hs : P s) :
    P (observerPeriod angle speed err emf s) := by
  unfold observerPeriod
  split
  · exact hs
  extract_lets fast lim due count t1 t2 t3 t4
  have hc : ∀ f c t, P t → P (count f c t) := fun f c t ht => by
    dsimp only [count]
    split
    · exact hP.addSat _ _ _ _ rfl ht
    · exact hP.set _ _ _ _ rfl ht
  have h4 : P t4 := hc _ _ _ (hc _ _ _ (hc _ _ _ (hP.setI _ _ _ _ rfl (hP.set _ _ _ _ rfl hs))))
  clear_value t4
  split
  · exact h4
  · exact hP.set _ _ _ _ rfl h4


theorem keep_openGap (hP : Closed anyField P) (l : ℕ) (s : State) (hs : P s) :
    P (openGap l s) := by
  unfold openGap
  repeat' first
    | with_reducible assumption
    | with_reducible refine hP.setI _ _ _ _ rfl ?_
    | with_reducible refine Closed.foldl _ _ _ (fun _ _ _ => ?_) ?_
    | split

theorem keep_openWindow (hP : Closed anyField P) (l : ℕ) (s : State) (hs : P s) :
    P (openWindow l s) := by
  have hR := hP.ofAny.ofSettle
  unfold openWindow
  repeat' first
    | with_reducible assumption
    | with_reducible refine hP.set _ _ _ _ rfl ?_
    | with_reducible refine keep_openGap hP _ _ ?_
    | with_reducible refine keep_setGate hR _ _ _ ?_
    | (extract_lets +onlyGivenNames t; refine (fun (_ : P t) => ?_) ?_; (on_goal 2 => (dsimp -zeta only [t]; clear t)); (on_goal 1 => (clear_value t; rename' t => w)))
    | (extract_lets +onlyGivenNames t; refine (fun (_ : P t.1) => ?_) ?_; (on_goal 2 => (dsimp -zeta only [t]; clear t)); (on_goal 1 => (clear_value t; rename' t => w)))
    | (extract_lets +onlyGivenNames t; clear_value t; rename' t => w)
    | with_reducible refine Closed.foldl _ _ _ (fun _ _ _ => ?_) ?_
    | split

theorem keep_openloopHandover (hP : Closed anyField P) (s : State) (hs : P s) :
    P (openloopHandover s) := by
  have hR := hP.ofAny.ofSettle
  unfold openloopHandover
  repeat' first
    | with_reducible assumption
    | with_reducible refine hP.set _ _ _ _ rfl ?_
    | with_reducible refine keep_keepAngle hR _ _ (fun _ _ => ?_) ?_
    | with_reducible refine keep_spnGo hR _ _ _ ?_
    | with_reducible refine keep_startRamp hP _ _ ?_
    | (extract_lets +onlyGivenNames t; refine (fun (_ : P t) => ?_) ?_; (on_goal 2 => (dsimp -zeta only [t]; clear t)); (on_goal 1 => (clear_value t; rename' t => w)))
    | (extract_lets +onlyGivenNames t; refine (fun (_ : P t.1) => ?_) ?_; (on_goal 2 => (dsimp -zeta only [t]; clear t)); (on_goal 1 => (clear_value t; rename' t => w)))
    | (extract_lets +onlyGivenNames t; clear_value t; rename' t => w)
    | with_reducible refine Closed.foldl _ _ _ (fun _ _ _ => ?_) ?_
    | split

theorem keep_order (hP : Closed anyField P) (addr : ℕ) (seq : ℕ) (code : ℕ) (act : State → State) (s : State) (hact : ∀ y0, P y0 → P (act y0)) (hs : P s) :
    P (order addr seq code act s) := by
  unfold order
  repeat' first
    | with_reducible assumption
    | refine hact _ ?_
    | with_reducible refine hP.bump _ _ _ rfl ?_
    | with_reducible refine hP.set _ _ _ _ rfl ?_
    | with_reducible refine keep_upRequest hP _ _ _ _ _ (fun _ _ => ?_) ?_
    | with_reducible refine Closed.foldl _ _ _ (fun _ _ _ => ?_) ?_
    | split

theorem keep_orderDrydown (hP : Closed anyField P) (s : State) (hs : P s) :
    P (orderDrydown s) := by
  have hS := hP.ofAny
  unfold orderDrydown
  repeat' first
    | with_reducible assumption
    | with_reducible refine hP.setMany _ _ _ rfl ?_
    | with_reducible refine keep_applyOrders hS _ ?_
    | with_reducible refine Closed.foldl _ _ _ (fun _ _ _ => ?_) ?_
    | split

theorem keep_orderPscap (hP : Closed anyField P) (ps : ℕ) (s : State) (hs : P s) :
    P (orderPscap ps s) := by
  have hS := hP.ofAny
  unfold orderPscap
  repeat' first
    | with_reducible assumption
    | with_reducible refine hP.set _ _ _ _ rfl ?_
    | with_reducible refine keep_applyCap hS _ ?_
    | (extract_lets +onlyGivenNames t; refine (fun (_ : P t) => ?_) ?_; (on_goal 2 => (dsimp -zeta only [t]; clear t)); (on_goal 1 => (clear_value t; rename' t => w)))
    | (extract_lets +onlyGivenNames t; refine (fun (_ : P t.1) => ?_) ?_; (on_goal 2 => (dsimp -zeta only [t]; clear t)); (on_goal 1 => (clear_value t; rename' t => w)))
    | (extract_lets +onlyGivenNames t; clear_value t; rename' t => w)
    | with_reducible refine Closed.foldl _ _ _ (fun _ _ _ => ?_) ?_
    | split

theorem keep_orderRelease (hP : Closed anyField P) (s : State) (hs : P s) :
    P (orderRelease s) := by
  unfold orderRelease
  repeat' first
    | with_reducible assumption
    | with_reducible refine hP.setMany _ _ _ rfl ?_
    | with_reducible refine Closed.foldl _ _ _ (fun _ _ _ => ?_) ?_
    | split

theorem keep_orderSetref (hP : Closed anyField P) (mode : ℕ) (ppr : ℕ) (phase : ℕ) (s : State) (hs : P s) :
    P (orderSetref mode ppr phase s) := by
  unfold orderSetref
  repeat' first
    | with_reducible assumption
    | with_reducible refine hP.setBit _ _ _ _ _ rfl ?_
    | with_reducible refine hP.setSh _ _ _ _ ?_
    | with_reducible refine keep_commitGroup hP _ _ _ _ ?_
    | with_reducible refine Closed.foldl _ _ _ (fun _ _ _ => ?_) ?_
    | split

theorem keep_orderSpin (hP : Closed anyField P) (s : State) (hs : P s) :
    P (orderSpin s) := by
  have hS := hP.ofAny
  unfold orderSpin
  repeat' first
    | with_reducible assumption
    | with_reducible refine hP.bump _ _ _ rfl ?_
    | with_reducible refine hP.setMany _ _ _ rfl ?_
    | with_reducible refine keep_applyOrders hS _ ?_
    | (extract_lets +onlyGivenNames t; refine (fun (_ : P t) => ?_) ?_; (on_goal 2 => (dsimp -zeta only [t]; clear t)); (on_goal 1 => (clear_value t; rename' t => w)))
    | (extract_lets +onlyGivenNames t; refine (fun (_ : P t.1) => ?_) ?_; (on_goal 2 => (dsimp -zeta only [t]; clear t)); (on_goal 1 => (clear_value t; rename' t => w)))
    | (extract_lets +onlyGivenNames t; clear_value t; rename' t => w)
    | with_reducible refine Closed.foldl _ _ _ (fun _ _ _ => ?_) ?_
    | split

theorem keep_parked (hP : Closed anyField P) (a : ℕ) (s : State) (hs : P s) :
    P (parked a s) := by
  unfold parked
  repeat' first
    | with_reducible assumption
    | with_reducible refine hP.set _ _ _ _ rfl ?_
    | with_reducible refine hP.setBit _ _ _ _ _ rfl ?_
    | with_reducible refine hP.setMany _ _ _ rfl ?_
    | with_reducible refine Closed.forAll _ _ _ (fun _ _ _ => ?_) ?_
    | with_reducible refine keep_showHeads hP _ _ ?_
    | with_reducible refine keep_startLoad hP _ _ ?_
    | (extract_lets +onlyGivenNames t; refine (fun (_ : P t) => ?_) ?_; (on_goal 2 => (dsimp -zeta only [t]; clear t)); (on_goal 1 => (clear_value t; rename' t => w)))
    | (extract_lets +onlyGivenNames t; refine (fun (_ : P t.1) => ?_) ?_; (on_goal 2 => (dsimp -zeta only [t]; clear t)); (on_goal 1 => (clear_value t; rename' t => w)))
    | (extract_lets +onlyGivenNames t; clear_value t; rename' t => w)
    | with_reducible refine Closed.foldl _ _ _ (fun _ _ _ => ?_) ?_
    | split

theorem keep_peerTimeout (hP : Closed anyField P) (slot : ℕ) (attempts : ℕ) (s : State) (hs : P s) :
    P (peerTimeout slot attempts s) := by
  unfold peerTimeout
  repeat' first
    | with_reducible assumption
    | with_reducible refine hP.emit _ _ ?_
    | with_reducible refine keep_loseWorker hP _ _ ?_
    | (extract_lets +onlyGivenNames t; refine (fun (_ : P t) => ?_) ?_; (on_goal 2 => (dsimp -zeta only [t]; clear t)); (on_goal 1 => (clear_value t; rename' t => w)))
    | (extract_lets +onlyGivenNames t; refine (fun (_ : P t.1) => ?_) ?_; (on_goal 2 => (dsimp -zeta only [t]; clear t)); (on_goal 1 => (clear_value t; rename' t => w)))
    | (extract_lets +onlyGivenNames t; clear_value t; rename' t => w)
    | with_reducible rfl
    | with_reducible exact List.prefix_rfl
    | with_reducible exact le_rfl
    | with_reducible exact fun h => h
    | exact fun h => Memory.wf_writeList _ _ h
    | exact Nat.le_add_right _ _
    | with_reducible exact List.prefix_append _ _
    | with_reducible refine Closed.foldl _ _ _ (fun _ _ _ => ?_) ?_
    | split
    | with_reducible refine hP.build _ ?_ ?_ ?_ ?_

theorem keep_peerCommandTimeout (hP : Closed anyField P) (slot : ℕ) (attempts : ℕ) (s : State) (hs : P s) :
    P (peerCommandTimeout slot attempts s) := by
  unfold peerCommandTimeout
  repeat' first
    | with_reducible assumption
    | with_reducible refine keep_fwStep hP _ ?_
    | with_reducible refine keep_peerTimeout hP _ _ _ ?_
    | with_reducible refine keep_showMgr hP _ ?_
    | with_reducible refine Closed.foldl _ _ _ (fun _ _ _ => ?_) ?_
    | split

theorem keep_peerinfo (hP : Closed anyField P) (addr : ℕ) (seq : ℕ) (s : State) (hs : P s) :
    P (peerinfo addr seq s) := by
  unfold peerinfo
  repeat' first
    | with_reducible assumption
    | with_reducible refine keep_upRequest hP _ _ _ _ _ (fun _ _ => ?_) ?_
    | with_reducible refine Closed.foldl _ _ _ (fun _ _ _ => ?_) ?_
    | split

theorem keep_perstAssert (hP : Closed anyField P) (s : State) (hs : P s) :
    P (perstAssert s) := by
  unfold perstAssert
  extract_lets en sts t1 t2
  have h1 : P t1 := keep_linkFalls hP _ hs
  clear_value t1
  have h2 : P t2 := hP.regs (fun _ => rfl) t1 _ (fun h => h) List.prefix_rfl le_rfl h1
  clear_value t2
  exact keep_showTags hP.ofAny _ (keep_showCto hP _ (hP.setMany _ _ _ rfl h2))


theorem keep_perstDeassert (hP : Closed anyField P) (s : State) (hs : P s) :
    P (perstDeassert s) := by
  unfold perstDeassert
  repeat' first
    | with_reducible assumption
    | with_reducible refine hP.setMany _ _ _ rfl ?_
    | with_reducible refine Closed.foldl _ _ _ (fun _ _ _ => ?_) ?_
    | split

theorem keep_phaseLock (hP : Closed anyField P) (s : State) (hs : P s) :
    P (phaseLock s) := by
  unfold phaseLock
  repeat' first
    | with_reducible assumption
    | with_reducible refine hP.set _ _ _ _ rfl ?_
    | with_reducible refine Closed.foldl _ _ _ (fun _ _ _ => ?_) ?_
    | split

theorem keep_phaseOrderLearn (hP : Closed anyField P) (s : State) (hs : P s) :
    P (phaseOrderLearn s) := by
  have hR := hP.ofAny.ofSettle
  unfold phaseOrderLearn
  repeat' first
    | with_reducible assumption
    | with_reducible refine hP.setMany _ _ _ rfl ?_
    | with_reducible refine keep_pulse hR _ _ _ ?_
    | with_reducible refine keep_spnGo hR _ _ _ ?_
    | with_reducible refine Closed.foldl _ _ _ (fun _ _ _ => ?_) ?_
    | split

theorem keep_phaseTrim (hP : Closed anyField P) (s : State) (hs : P s) :
    P (phaseTrim s) := by
  unfold phaseTrim
  repeat' first
    | with_reducible assumption
    | with_reducible refine hP.set _ _ _ _ rfl ?_
    | with_reducible refine hP.setI _ _ _ _ rfl ?_
    | with_reducible refine hP.used _ ?_
    | with_reducible refine keep_showRamp hP _ ?_
    | (extract_lets +onlyGivenNames t; refine (fun (_ : P t) => ?_) ?_; (on_goal 2 => (dsimp -zeta only [t]; clear t)); (on_goal 1 => (clear_value t; rename' t => w)))
    | (extract_lets +onlyGivenNames t; refine (fun (_ : P t.1) => ?_) ?_; (on_goal 2 => (dsimp -zeta only [t]; clear t)); (on_goal 1 => (clear_value t; rename' t => w)))
    | (extract_lets +onlyGivenNames t; clear_value t; rename' t => w)
    | with_reducible refine Closed.foldl _ _ _ (fun _ _ _ => ?_) ?_
    | split

theorem keep_sumTrim (hP : Closed anyField P) (l : ℕ) (s : State) (hs : P s) :
    P (sumTrim l s) := by
  unfold sumTrim
  repeat' first
    | with_reducible assumption
    | with_reducible refine hP.bump _ _ _ rfl ?_
    | with_reducible refine hP.setI _ _ _ _ rfl ?_
    | with_reducible refine Closed.foldl _ _ _ (fun _ _ _ => ?_) ?_
    | split

theorem keep_trimUpdate (hP : Closed anyField P) (l : ℕ) (te : ℤ) (s : State) (hs : P s) :
    P (trimUpdate l te s) := by
  have hR := hP.ofAny.ofSettle
  unfold trimUpdate
  repeat' first
    | with_reducible assumption
    | with_reducible refine hP.addSat _ _ _ _ rfl ?_
    | with_reducible refine hP.set _ _ _ _ rfl ?_
    | with_reducible refine hP.setI _ _ _ _ rfl ?_
    | with_reducible refine keep_pulse hR _ _ _ ?_
    | (extract_lets +onlyGivenNames t; refine (fun (_ : P t) => ?_) ?_; (on_goal 2 => (dsimp -zeta only [t]; clear t)); (on_goal 1 => (clear_value t; rename' t => w)))
    | (extract_lets +onlyGivenNames t; refine (fun (_ : P t.1) => ?_) ?_; (on_goal 2 => (dsimp -zeta only [t]; clear t)); (on_goal 1 => (clear_value t; rename' t => w)))
    | (extract_lets +onlyGivenNames t; clear_value t; rename' t => w)
    | with_reducible refine Closed.foldl _ _ _ (fun _ _ _ => ?_) ?_
    | split

theorem keep_phaseTrimUpdate (hP : Closed anyField P) (l : ℕ) (te : ℤ) (samples : List ℤ) (s : State) (hs : P s) :
    P (phaseTrimUpdate l te samples s) := by
  unfold phaseTrimUpdate
  repeat' first
    | with_reducible assumption
    | with_reducible refine hP.addSat _ _ _ _ rfl ?_
    | with_reducible refine keep_adaptLane hP _ _ _ ?_
    | with_reducible refine keep_noteFlag hP _ _ ?_
    | with_reducible refine keep_sumTrim hP _ _ ?_
    | with_reducible refine keep_trimUpdate hP _ _ _ ?_
    | (extract_lets +onlyGivenNames t; refine (fun (_ : P t) => ?_) ?_; (on_goal 2 => (dsimp -zeta only [t]; clear t)); (on_goal 1 => (clear_value t; rename' t => w)))
    | (extract_lets +onlyGivenNames t; refine (fun (_ : P t.1) => ?_) ?_; (on_goal 2 => (dsimp -zeta only [t]; clear t)); (on_goal 1 => (clear_value t; rename' t => w)))
    | (extract_lets +onlyGivenNames t; clear_value t; rename' t => w)
    | with_reducible refine Closed.foldl _ _ _ (fun _ _ _ => ?_) ?_
    | split

theorem keep_startTick (hP : Closed anyField P) (n : ℕ) (s : State) (hs : P s) :
    P (startTick n s) := by
  unfold startTick
  repeat' first
    | with_reducible assumption
    | with_reducible refine hP.set _ _ _ _ rfl ?_
    | with_reducible refine hP.setStamp _ _ rfl rfl ?_
    | with_reducible refine Closed.foldl _ _ _ (fun _ _ _ => ?_) ?_
    | split

theorem keep_takeSample (hP : Closed anyField P) (n : ℕ) (phase : ℕ) (amp : ℕ) (clip : Bool) (sig : Bool) (proj : ℤ) (s : State) (hs : P s) :
    P (takeSample n phase amp clip sig proj s) := by
  unfold takeSample
  repeat' first
    | with_reducible assumption
    | with_reducible refine hP.set _ _ _ _ rfl ?_
    | with_reducible refine hP.setI _ _ _ _ rfl ?_
    | with_reducible refine hP.setMany _ _ _ rfl ?_
    | (extract_lets +onlyGivenNames t; refine (fun (_ : P t) => ?_) ?_; (on_goal 2 => (dsimp -zeta only [t]; clear t)); (on_goal 1 => (clear_value t; rename' t => w)))
    | (extract_lets +onlyGivenNames t; refine (fun (_ : P t.1) => ?_) ?_; (on_goal 2 => (dsimp -zeta only [t]; clear t)); (on_goal 1 => (clear_value t; rename' t => w)))
    | (extract_lets +onlyGivenNames t; clear_value t; rename' t => w)
    | with_reducible refine Closed.foldl _ _ _ (fun _ _ _ => ?_) ?_
    | split

theorem keep_pilotSample (hP : Closed anyField P) (n : ℕ) (phase : ℕ) (amp : ℕ) (clip : Bool) (sig : Bool) (rev : Bool) (rate : ℕ) (proj : ℤ) (s : State) (hs : P s) :
    P (pilotSample n phase amp clip sig rev rate proj s) := by
  have hR := hP.ofAny.ofSettle
  unfold pilotSample
  repeat' first
    | with_reducible assumption
    | with_reducible refine hP.set _ _ _ _ rfl ?_
    | with_reducible refine hP.setMany _ _ _ rfl ?_
    | with_reducible refine keep_judgeSample hP _ _ ?_
    | with_reducible refine keep_selectSource hR _ ?_
    | with_reducible refine keep_startTick hP _ _ ?_
    | with_reducible refine keep_takeSample hP _ _ _ _ _ _ _ ?_
    | (extract_lets +onlyGivenNames t; refine (fun (_ : P t) => ?_) ?_; (on_goal 2 => (dsimp -zeta only [t]; clear t)); (on_goal 1 => (clear_value t; rename' t => w)))
    | (extract_lets +onlyGivenNames t; refine (fun (_ : P t.1) => ?_) ?_; (on_goal 2 => (dsimp -zeta only [t]; clear t)); (on_goal 1 => (clear_value t; rename' t => w)))
    | (extract_lets +onlyGivenNames t; clear_value t; rename' t => w)
    | with_reducible refine Closed.foldl _ _ _ (fun _ _ _ => ?_) ?_
    | split

theorem keep_pilotSuspect (hP : Closed anyField P) (s : State) (hs : P s) :
    P (pilotSuspect s) := by
  have hR := hP.ofAny.ofSettle
  unfold pilotSuspect
  repeat' first
    | with_reducible assumption
    | with_reducible refine hP.set _ _ _ _ rfl ?_
    | with_reducible refine hP.setMany _ _ _ rfl ?_
    | with_reducible refine keep_keepAngle hR _ _ (fun _ _ => ?_) ?_
    | with_reducible refine keep_pulse hR _ _ _ ?_
    | with_reducible refine Closed.foldl _ _ _ (fun _ _ _ => ?_) ?_
    | split

theorem keep_placementGenDone (hP : Closed anyField P) (s : State) (hs : P s) :
    P (placementGenDone s) := by
  unfold placementGenDone
  split
  · exact hs
  have hg := wf_genTable s
  generalize genTable s = g at hg
  extract_lets t1 u
  have h1 : P t1 := keep_checkTable hP _ _ (hP.set _ _ _ _ rfl (hP.record s _ rfl hg List.prefix_rfl le_rfl hs))
  clear_value t1
  split
  · exact keep_updateSpare hP.ofAny _ (keep_updateMembers hP _ (hP.record u _ rfl (fun h => h) List.prefix_rfl le_rfl
      (hP.setMany _ _ _ rfl (hP.set _ _ _ _ rfl (hP.set _ _ _ _ rfl h1)))))
  · exact h1


theorem keep_pmeTurnOff (hP : Closed anyField P) (s : State) (hs : P s) :
    P (pmeTurnOff s) := by
  unfold pmeTurnOff
  repeat' first
    | with_reducible assumption
    | with_reducible refine hP.emit _ _ ?_
    | with_reducible refine hP.setMany _ _ _ rfl ?_
    | with_reducible refine Closed.foldl _ _ _ (fun _ _ _ => ?_) ?_
    | split

theorem keep_statusPayload (hP : Closed anyField P) (s : State) (hs : P s) :
    P (statusPayload s).1 := by
  have hR := hP.ofAny.ofSettle
  unfold statusPayload
  repeat' first
    | with_reducible assumption
    | with_reducible refine hP.set _ _ _ _ rfl ?_
    | with_reducible refine keep_tokensWanted hR _ ?_
    | (extract_lets +onlyGivenNames t; refine (fun (_ : P t) => ?_) ?_; (on_goal 2 => (dsimp -zeta only [t]; clear t)); (on_goal 1 => (clear_value t; rename' t => w)))
    | (extract_lets +onlyGivenNames t; refine (fun (_ : P t.1) => ?_) ?_; (on_goal 2 => (dsimp -zeta only [t]; clear t)); (on_goal 1 => (clear_value t; rename' t => w)))
    | (extract_lets +onlyGivenNames t; clear_value t; rename' t => w)
    | with_reducible refine Closed.foldl _ _ _ (fun _ _ _ => ?_) ?_
    | split

theorem keep_poll (hP : Closed anyField P) (addr : ℕ) (seq : ℕ) (s : State) (hs : P s) :
    P (poll addr seq s) := by
  unfold poll
  repeat' first
    | with_reducible assumption
    | with_reducible refine keep_statusPayload hP _ ?_
    | with_reducible refine keep_upRequest hP _ _ _ _ _ (fun _ _ => ?_) ?_
    | with_reducible refine Closed.foldl _ _ _ (fun _ _ _ => ?_) ?_
    | split

theorem keep_pollPeriod (hP : Closed anyField P) (s : State) (hs : P s) :
    P (pollPeriod s) := by
  unfold pollPeriod
  repeat' first
    | with_reducible assumption
    | with_reducible refine keep_claikSend hP _ _ _ _ ?_
    | with_reducible refine Closed.foldl _ _ _ (fun _ _ _ => ?_) ?_
    | split

theorem keep_presentDemands (hP : Closed anyField P) (d0 : ℤ) (d1 : ℕ) (d2 : ℕ) (d3 : ℕ) (age : Option (ℕ × ℕ)) (s : State) (hs : P s) :
    P (presentDemands d0 d1 d2 d3 age s) := by
  unfold presentDemands
  split
  · exact hs
  extract_lets put r t1 v
  have hp : ∀ i v t, P t → P (put i v t) := fun i v t ht =>
    hP.setI _ _ _ _ rfl (hP.setBit _ _ _ _ _ rfl (hP.record t _ rfl (fun h => h) List.prefix_rfl le_rfl ht))
  have hr : P r.1 := keep_resolveGroup hP _ _ (hp _ _ _ (hp _ _ _ (hp _ _ _ (hp _ _ _ hs))))
  have h1 : P t1 := Closed.forAll _ _ _ (fun e u hu => keep_applyEntry hP _ _ _ hu) hr
  clear_value t1
  refine Closed.forBelow _ _ _ (fun i u hu => ?_) h1
  split
  · exact hu
  · exact hP.setI _ _ _ _ rfl hu


theorem keep_pushField (hP : Closed anyField P) (f : Field) (n : ℕ) (v : ℕ) (s : State) (hs : P s) :
    P (pushField f n v s) := by
  unfold pushField
  repeat' first
    | with_reducible assumption
    | with_reducible refine hP.set _ _ _ _ rfl ?_
    | with_reducible refine Closed.foldl _ _ _ (fun _ _ _ => ?_) ?_
    | split

theorem keep_rampHold (hP : Closed anyField P) (old : ℤ) (s : State) (hs : P s) :
    P (rampHold old s) := by
  unfold rampHold
  repeat' first
    | with_reducible assumption
    | with_reducible refine hP.setI _ _ _ _ rfl ?_
    | with_reducible refine keep_setRamp hP _ _ ?_
    | (extract_lets +onlyGivenNames t; refine (fun (_ : P t) => ?_) ?_; (on_goal 2 => (dsimp -zeta only [t]; clear t)); (on_goal 1 => (clear_value t; rename' t => w)))
    | (extract_lets +onlyGivenNames t; refine (fun (_ : P t.1) => ?_) ?_; (on_goal 2 => (dsimp -zeta only [t]; clear t)); (on_goal 1 => (clear_value t; rename' t => w)))
    | (extract_lets +onlyGivenNames t; clear_value t; rename' t => w)
    | with_reducible refine Closed.foldl _ _ _ (fun _ _ _ => ?_) ?_
    | split

theorem keep_rampMove (hP : Closed anyField P) (goal : ℤ) (s : State) (hs : P s) :
    P (rampMove goal s) := by
  unfold rampMove
  repeat' first
    | with_reducible assumption
    | with_reducible refine hP.set _ _ _ _ rfl ?_
    | with_reducible refine hP.setI _ _ _ _ rfl ?_
    | with_reducible refine keep_setRamp hP _ _ ?_
    | (extract_lets +onlyGivenNames t; refine (fun (_ : P t) => ?_) ?_; (on_goal 2 => (dsimp -zeta only [t]; clear t)); (on_goal 1 => (clear_value t; rename' t => w)))
    | (extract_lets +onlyGivenNames t; refine (fun (_ : P t.1) => ?_) ?_; (on_goal 2 => (dsimp -zeta only [t]; clear t)); (on_goal 1 => (clear_value t; rename' t => w)))
    | (extract_lets +onlyGivenNames t; clear_value t; rename' t => w)
    | with_reducible refine Closed.foldl _ _ _ (fun _ _ _ => ?_) ?_
    | split

theorem keep_rampStep (hP : Closed anyField P) (s : State) (hs : P s) :
    P (rampStep s) := by
  unfold rampStep
  repeat' first
    | with_reducible assumption
    | with_reducible refine hP.set _ _ _ _ rfl ?_
    | with_reducible refine keep_rampHold hP _ _ ?_
    | with_reducible refine keep_rampMove hP _ _ ?_
    | (extract_lets +onlyGivenNames t; refine (fun (_ : P t) => ?_) ?_; (on_goal 2 => (dsimp -zeta only [t]; clear t)); (on_goal 1 => (clear_value t; rename' t => w)))
    | (extract_lets +onlyGivenNames t; refine (fun (_ : P t.1) => ?_) ?_; (on_goal 2 => (dsimp -zeta only [t]; clear t)); (on_goal 1 => (clear_value t; rename' t => w)))
    | (extract_lets +onlyGivenNames t; clear_value t; rename' t => w)
    | with_reducible refine Closed.foldl _ _ _ (fun _ _ _ => ?_) ?_
    | split

theorem keep_sensePhases (hP : Closed anyField P) (r : PhaseReading) (s : State) (hs : P s) :
    P (sensePhases r s) := by
  unfold sensePhases
  repeat' first
    | with_reducible assumption
    | with_reducible refine hP.set _ _ _ _ rfl ?_
    | with_reducible refine Closed.forBelow _ _ _ (fun _ _ _ => ?_) ?_
    | (extract_lets +onlyGivenNames t; refine (fun (_ : P t) => ?_) ?_; (on_goal 2 => (dsimp -zeta only [t]; clear t)); (on_goal 1 => (clear_value t; rename' t => w)))
    | (extract_lets +onlyGivenNames t; refine (fun (_ : P t.1) => ?_) ?_; (on_goal 2 => (dsimp -zeta only [t]; clear t)); (on_goal 1 => (clear_value t; rename' t => w)))
    | (extract_lets +onlyGivenNames t; clear_value t; rename' t => w)
    | with_reducible refine Closed.foldl _ _ _ (fun _ _ _ => ?_) ?_
    | split

theorem keep_showPower (hP : Closed anyField P) (i1 : ℤ) (i2 : ℤ) (w1 : ℕ) (w2 : ℕ) (s : State) (hs : P s) :
    P (showPower i1 i2 w1 w2 s) := by
  unfold showPower
  repeat' first
    | with_reducible assumption
    | with_reducible refine hP.set _ _ _ _ rfl ?_
    | with_reducible refine hP.setI _ _ _ _ rfl ?_
    | (extract_lets +onlyGivenNames t; refine (fun (_ : P t) => ?_) ?_; (on_goal 2 => (dsimp -zeta only [t]; clear t)); (on_goal 1 => (clear_value t; rename' t => w)))
    | (extract_lets +onlyGivenNames t; refine (fun (_ : P t.1) => ?_) ?_; (on_goal 2 => (dsimp -zeta only [t]; clear t)); (on_goal 1 => (clear_value t; rename' t => w)))
    | (extract_lets +onlyGivenNames t; clear_value t; rename' t => w)
    | with_reducible refine Closed.foldl _ _ _ (fun _ _ _ => ?_) ?_
    | split

theorem keep_takeSamples (hP : Closed anyField P) (r : ShuntReading) (s : State) (hs : P s) :
    P (takeSamples r s) := by
  have hR := hP.ofAny.ofSettle
  unfold takeSamples
  repeat' first
    | with_reducible assumption
    | with_reducible refine hP.set _ _ _ _ rfl ?_
    | with_reducible refine hP.setI _ _ _ _ rfl ?_
    | with_reducible refine hP.used _ ?_
    | with_reducible refine keep_settleTrace hR _ _ ?_
    | with_reducible refine keep_showPower hP _ _ _ _ _ ?_
    | with_reducible refine keep_triggerSrc hR _ _ _ _ ?_
    | (extract_lets +onlyGivenNames t; refine (fun (_ : P t) => ?_) ?_; (on_goal 2 => (dsimp -zeta only [t]; clear t)); (on_goal 1 => (clear_value t; rename' t => w)))
    | (extract_lets +onlyGivenNames t; refine (fun (_ : P t.1) => ?_) ?_; (on_goal 2 => (dsimp -zeta only [t]; clear t)); (on_goal 1 => (clear_value t; rename' t => w)))
    | (extract_lets +onlyGivenNames t; clear_value t; rename' t => w)
    | with_reducible refine Closed.foldl _ _ _ (fun _ _ _ => ?_) ?_
    | split

theorem keep_pwmPeriod (hP : Closed anyField P) (r : ShuntReading) (ph : PhaseReading) (code : ℕ) (angle : ℕ) (speed : ℤ) (err : ℕ) (emf : ℕ) (s : State) (hs : P s) :
    P (pwmPeriod r ph code angle speed err emf s) := by
  have hR := hP.ofAny.ofSettle
  unfold pwmPeriod
  repeat' first
    | with_reducible assumption
    | with_reducible refine hP.set _ _ _ _ rfl ?_
    | with_reducible refine keep_agreement hR _ ?_
    | with_reducible refine keep_applyVoltage hP _ _ ?_
    | with_reducible refine keep_brakeDuty hR _ _ _ ?_
    | with_reducible refine keep_busLevels hP _ _ ?_
    | with_reducible refine keep_calStep hP _ ?_
    | with_reducible refine keep_calWatch hR _ ?_
    | with_reducible refine keep_crossCheck hP _ ?_
    | with_reducible refine keep_imposedStep hP _ ?_
    | with_reducible refine keep_modulate hR _ _ ?_
    | with_reducible refine keep_observerPeriod hP _ _ _ _ _ ?_
    | with_reducible refine keep_pilotLoss hR _ ?_
    | with_reducible refine keep_rampStep hP _ ?_
    | with_reducible refine keep_regenStep hR _ _ ?_
    | with_reducible refine keep_sensePhases hP _ _ ?_
    | with_reducible refine keep_slewAngle hR _ ?_
    | with_reducible refine keep_takeSamples hP _ _ ?_
    | (extract_lets +onlyGivenNames t; refine (fun (_ : P t) => ?_) ?_; (on_goal 2 => (dsimp -zeta only [t]; clear t)); (on_goal 1 => (clear_value t; rename' t => w)))
    | (extract_lets +onlyGivenNames t; refine (fun (_ : P t.1) => ?_) ?_; (on_goal 2 => (dsimp -zeta only [t]; clear t)); (on_goal 1 => (clear_value t; rename' t => w)))
    | (extract_lets +onlyGivenNames t; clear_value t; rename' t => w)
    | with_reducible refine Closed.foldl _ _ _ (fun _ _ _ => ?_) ?_
    | split

theorem keep_pwrGoodFall (hP : Closed anyField P) (s : State) (hs : P s) :
    P (pwrGoodFall s) := by
  have hR := hP.ofAny.ofSettle
  unfold pwrGoodFall
  repeat' first
    | with_reducible assumption
    | with_reducible refine hP.set _ _ _ _ rfl ?_
    | with_reducible refine keep_abandonDump hP _ ?_
    | with_reducible refine keep_dropLive hR _ ?_
    | with_reducible refine keep_resetDomains hP _ ?_
    | (extract_lets +onlyGivenNames t; refine (fun (_ : P t) => ?_) ?_; (on_goal 2 => (dsimp -zeta only [t]; clear t)); (on_goal 1 => (clear_value t; rename' t => w)))
    | (extract_lets +onlyGivenNames t; refine (fun (_ : P t.1) => ?_) ?_; (on_goal 2 => (dsimp -zeta only [t]; clear t)); (on_goal 1 => (clear_value t; rename' t => w)))
    | (extract_lets +onlyGivenNames t; clear_value t; rename' t => w)
    | with_reducible refine Closed.foldl _ _ _ (fun _ _ _ => ?_) ?_
    | split

theorem keep_pwrGoodRise (hP : Closed anyField P) (role : Bool) (bootcs : Bool) (recov : Bool) (testen : Bool) (s : State) (hs : P s) :
    P (pwrGoodRise role bootcs recov testen s) := by
  unfold pwrGoodRise
  repeat' first
    | with_reducible assumption
    | with_reducible refine hP.set _ _ _ _ rfl ?_
    | with_reducible refine keep_coldReset hP _ _ _ _ _ _ ?_
    | (extract_lets +onlyGivenNames t; refine (fun (_ : P t) => ?_) ?_; (on_goal 2 => (dsimp -zeta only [t]; clear t)); (on_goal 1 => (clear_value t; rename' t => w)))
    | (extract_lets +onlyGivenNames t; refine (fun (_ : P t.1) => ?_) ?_; (on_goal 2 => (dsimp -zeta only [t]; clear t)); (on_goal 1 => (clear_value t; rename' t => w)))
    | (extract_lets +onlyGivenNames t; clear_value t; rename' t => w)
    | with_reducible refine Closed.foldl _ _ _ (fun _ _ _ => ?_) ?_
    | split

theorem keep_railClear (hP : Closed anyField P) (r : Rail) (s : State) (hs : P s) :
    P (railClear r s) := by
  have hR := hP.ofAny.ofSettle
  unfold railClear
  repeat' first
    | with_reducible assumption
    | with_reducible refine hP.setBit _ _ _ _ _ rfl ?_
    | with_reducible refine keep_lower hR _ _ _ ?_
    | (extract_lets +onlyGivenNames t; refine (fun (_ : P t) => ?_) ?_; (on_goal 2 => (dsimp -zeta only [t]; clear t)); (on_goal 1 => (clear_value t; rename' t => w)))
    | (extract_lets +onlyGivenNames t; refine (fun (_ : P t.1) => ?_) ?_; (on_goal 2 => (dsimp -zeta only [t]; clear t)); (on_goal 1 => (clear_value t; rename' t => w)))
    | (extract_lets +onlyGivenNames t; clear_value t; rename' t => w)
    | with_reducible refine Closed.foldl _ _ _ (fun _ _ _ => ?_) ?_
    | split

theorem keep_railTrip (hP : Closed anyField P) (r : Rail) (s : State) (hs : P s) :
    P (railTrip r s) := by
  have hR := hP.ofAny.ofSettle
  unfold railTrip
  repeat' first
    | with_reducible assumption
    | with_reducible refine hP.setBit _ _ _ _ _ rfl ?_
    | with_reducible refine keep_raise hR _ _ _ ?_
    | (extract_lets +onlyGivenNames t; refine (fun (_ : P t) => ?_) ?_; (on_goal 2 => (dsimp -zeta only [t]; clear t)); (on_goal 1 => (clear_value t; rename' t => w)))
    | (extract_lets +onlyGivenNames t; refine (fun (_ : P t.1) => ?_) ?_; (on_goal 2 => (dsimp -zeta only [t]; clear t)); (on_goal 1 => (clear_value t; rename' t => w)))
    | (extract_lets +onlyGivenNames t; clear_value t; rename' t => w)
    | with_reducible refine Closed.foldl _ _ _ (fun _ _ _ => ?_) ?_
    | split

theorem keep_reacqAttemptEnd (hP : Closed anyField P) (found : Option Crossings) (s : State) (hs : P s) :
    P (reacqAttemptEnd found s) := by
  unfold reacqAttemptEnd
  repeat' first
    | with_reducible assumption
    | with_reducible refine hP.addSat _ _ _ _ rfl ?_
    | with_reducible refine hP.setMany _ _ _ rfl ?_
    | with_reducible refine keep_enterCatch hP _ _ _ ?_
    | with_reducible refine Closed.foldl _ _ _ (fun _ _ _ => ?_) ?_
    | split

theorem keep_reacqFailure (hP : Closed anyField P) (s : State) (hs : P s) :
    P (reacqFailure s) := by
  have hR := hP.ofAny.ofSettle
  unfold reacqFailure
  repeat' first
    | with_reducible assumption
    | with_reducible refine hP.set _ _ _ _ rfl ?_
    | with_reducible refine keep_pulse hR _ _ _ ?_
    | with_reducible refine keep_urgentDrydown hR _ _ ?_
    | with_reducible refine keep_withFollow hR _ ?_
    | with_reducible refine Closed.foldl _ _ _ (fun _ _ _ => ?_) ?_
    | split

theorem keep_record (hP : Closed anyField P) (addr : ℕ) (entries : List (BitVec 256)) (s : State) (hs : P s) :
    P (record addr entries s) := by
  unfold record
  repeat' first
    | with_reducible assumption
    | with_reducible refine hP.set _ _ _ _ rfl ?_
    | with_reducible refine keep_downFrame hP _ _ _ _ (fun _ _ => ?_) ?_
    | with_reducible refine keep_harvestChild hP _ _ ?_
    | (extract_lets +onlyGivenNames t; refine (fun (_ : P t) => ?_) ?_; (on_goal 2 => (dsimp -zeta only [t]; clear t)); (on_goal 1 => (clear_value t; rename' t => w)))
    | (extract_lets +onlyGivenNames t; refine (fun (_ : P t.1) => ?_) ?_; (on_goal 2 => (dsimp -zeta only [t]; clear t)); (on_goal 1 => (clear_value t; rename' t => w)))
    | (extract_lets +onlyGivenNames t; clear_value t; rename' t => w)
    | with_reducible rfl
    | with_reducible exact List.prefix_rfl
    | with_reducible exact le_rfl
    | with_reducible exact fun h => h
    | exact fun h => Memory.wf_writeList _ _ h
    | exact Nat.le_add_right _ _
    | with_reducible exact List.prefix_append _ _
    | with_reducible refine Closed.foldl _ _ _ (fun _ _ _ => ?_) ?_
    | split
    | with_reducible refine hP.build _ ?_ ?_ ?_ ?_

theorem keep_recoveryWindowClose (hP : Closed anyField P) (n : ℕ) (s : State) (hs : P s) :
    P (recoveryWindowClose n s) := by
  unfold recoveryWindowClose
  repeat' first
    | with_reducible assumption
    | with_reducible refine hP.setMany _ _ _ rfl ?_
    | with_reducible refine Closed.foldl _ _ _ (fun _ _ _ => ?_) ?_
    | split

theorem keep_seekAdvance (hP : Closed anyField P) (a : ℕ) (s : State) (hs : P s) :
    P (seekAdvance a s) := by
  unfold seekAdvance
  repeat' first
    | with_reducible assumption
    | with_reducible refine hP.set _ _ _ _ rfl ?_
    | with_reducible refine hP.setI _ _ _ _ rfl ?_
    | with_reducible refine hP.setMany _ _ _ rfl ?_
    | (extract_lets +onlyGivenNames t; refine (fun (_ : P t) => ?_) ?_; (on_goal 2 => (dsimp -zeta only [t]; clear t)); (on_goal 1 => (clear_value t; rename' t => w)))
    | (extract_lets +onlyGivenNames t; refine (fun (_ : P t.1) => ?_) ?_; (on_goal 2 => (dsimp -zeta only [t]; clear t)); (on_goal 1 => (clear_value t; rename' t => w)))
    | (extract_lets +onlyGivenNames t; clear_value t; rename' t => w)
    | with_reducible refine Closed.foldl _ _ _ (fun _ _ _ => ?_) ?_
    | split

theorem keep_settlePoint (hP : Closed anyField P) (a : ℕ) (s : State) (hs : P s) :
    P (settlePoint a s) := by
  have hR := hP.ofAny.ofSettle
  unfold settlePoint
  repeat' first
    | with_reducible assumption
    | with_reducible refine hP.set _ _ _ _ rfl ?_
    | with_reducible refine hP.setMany _ _ _ rfl ?_
    | with_reducible refine Closed.forAll _ _ _ (fun _ _ _ => ?_) ?_
    | with_reducible refine keep_retract hR _ _ ?_
    | with_reducible refine keep_withFollow hR _ ?_
    | (extract_lets +onlyGivenNames t; refine (fun (_ : P t) => ?_) ?_; (on_goal 2 => (dsimp -zeta only [t]; clear t)); (on_goal 1 => (clear_value t; rename' t => w)))
    | (extract_lets +onlyGivenNames t; refine (fun (_ : P t.1) => ?_) ?_; (on_goal 2 => (dsimp -zeta only [t]; clear t)); (on_goal 1 => (clear_value t; rename' t => w)))
    | (extract_lets +onlyGivenNames t; clear_value t; rename' t => w)
    | with_reducible refine Closed.foldl _ _ _ (fun _ _ _ => ?_) ?_
    | split

theorem keep_stepTest (hP : Closed anyField P) (a : ℕ) (s : State) (hs : P s) :
    P (stepTest a s) := by
  unfold stepTest
  repeat' first
    | with_reducible assumption
    | with_reducible refine hP.set _ _ _ _ rfl ?_
    | with_reducible refine hP.setBit _ _ _ _ _ rfl ?_
    | with_reducible refine keep_enterSeek hP _ _ ?_
    | with_reducible refine keep_loadFailed hP _ _ ?_
    | (extract_lets +onlyGivenNames t; refine (fun (_ : P t) => ?_) ?_; (on_goal 2 => (dsimp -zeta only [t]; clear t)); (on_goal 1 => (clear_value t; rename' t => w)))
    | (extract_lets +onlyGivenNames t; refine (fun (_ : P t.1) => ?_) ?_; (on_goal 2 => (dsimp -zeta only [t]; clear t)); (on_goal 1 => (clear_value t; rename' t => w)))
    | (extract_lets +onlyGivenNames t; clear_value t; rename' t => w)
    | with_reducible refine Closed.foldl _ _ _ (fun _ _ _ => ?_) ?_
    | split

theorem keep_refWedge (hP : Closed anyField P) (a : ℕ) (h_1 : ℕ) (s : State) (hs : P s) :
    P (refWedge a h_1 s) := by
  have hR := hP.ofAny.ofSettle
  unfold refWedge
  repeat' first
    | with_reducible assumption
    | with_reducible refine hP.set _ _ _ _ rfl ?_
    | with_reducible refine keep_countRunaway hP _ _ _ ?_
    | with_reducible refine keep_estimateArm hP _ _ ?_
    | with_reducible refine keep_seekAdvance hP _ _ ?_
    | with_reducible refine keep_settlePoint hP _ _ ?_
    | with_reducible refine keep_stepTest hP _ _ ?_
    | with_reducible refine keep_triggerSrc hR _ _ _ _ ?_
    | (extract_lets +onlyGivenNames t; refine (fun (_ : P t) => ?_) ?_; (on_goal 2 => (dsimp -zeta only [t]; clear t)); (on_goal 1 => (clear_value t; rename' t => w)))
    | (extract_lets +onlyGivenNames t; refine (fun (_ : P t.1) => ?_) ?_; (on_goal 2 => (dsimp -zeta only [t]; clear t)); (on_goal 1 => (clear_value t; rename' t => w)))
    | (extract_lets +onlyGivenNames t; clear_value t; rename' t => w)
    | with_reducible refine Closed.foldl _ _ _ (fun _ _ _ => ?_) ?_
    | split

theorem keep_referenceLost (hP : Closed anyField P) (s : State) (hs : P s) :
    P (referenceLost s) := by
  have hR := hP.ofAny.ofSettle
  unfold referenceLost
  repeat' first
    | with_reducible assumption
    | with_reducible refine hP.setMany _ _ _ rfl ?_
    | with_reducible refine keep_raise hR _ _ _ ?_
    | with_reducible refine Closed.foldl _ _ _ (fun _ _ _ => ?_) ?_
    | split

theorem keep_registerRead (hP : Closed anyField P) (a : ℕ) (quiet : Bool) (s : State) (hs : P s) :
    P (registerRead a quiet s) := by
  have hR := hP.ofAny.ofSettle
  unfold registerRead
  repeat' first
    | with_reducible assumption
    | with_reducible refine hP.ret _ _ ?_
    | with_reducible refine keep_internalRead hP _ _ ?_
    | with_reducible refine keep_lookReg hR _ _ ?_
    | with_reducible refine keep_readReg hP _ _ ?_
    | with_reducible refine keep_refuseAccess hP _ ?_
    | with_reducible refine Closed.foldl _ _ _ (fun _ _ _ => ?_) ?_
    | split

theorem keep_registerWrite (hP : Closed anyField P) (m : Master) (a : ℕ) (v : ℕ) (s : State) (hs : P s) :
    P (registerWrite m a v s) := by
  unfold registerWrite
  split
  · split
    · split
      · exact keep_writeReg hP _ _ _ hs
      · exact keep_refuseAccess hP _ hs
    · exact keep_refuseAccess hP _ hs
  · split
    · split
      · exact keep_bar4Write hP _ _ _ hs
      · exact hs
    · exact hs
  · split
    · split
      · exact keep_coreWrite hP _ _ _ _ (keep_coreAlive hP _ _ hs _ (by assumption))
      · exact hs
    · exact hs


theorem keep_reportPolarity (hP : Closed anyField P) (h_0 : ℕ) (w : Wedge) (s : State) (hs : P s) :
    P (reportPolarity h_0 w s) := by
  unfold reportPolarity
  repeat' first
    | with_reducible assumption
    | with_reducible refine hP.set _ _ _ _ rfl ?_
    | with_reducible refine Closed.foldl _ _ _ (fun _ _ _ => ?_) ?_
    | split

theorem keep_reservedType (hP : Closed anyField P) (up : Bool) (s : State) (hs : P s) :
    P (reservedType up s) := by
  unfold reservedType
  repeat' first
    | with_reducible assumption
    | with_reducible refine hP.bump _ _ _ rfl ?_
    | with_reducible refine Closed.foldl _ _ _ (fun _ _ _ => ?_) ?_
    | split

theorem keep_resetNAssert (hP : Closed anyField P) (s : State) (hs : P s) :
    P (resetNAssert s) := by
  unfold resetNAssert
  repeat' first
    | with_reducible assumption
    | with_reducible refine hP.set _ _ _ _ rfl ?_
    | with_reducible refine keep_warmBase hP _ _ ?_
    | with_reducible refine Closed.foldl _ _ _ (fun _ _ _ => ?_) ?_
    | split

theorem keep_resetNDeassert (hP : Closed anyField P) (role : Bool) (bootcs : Bool) (recov : Bool) (s : State) (hs : P s) :
    P (resetNDeassert role bootcs recov s) := by
  unfold resetNDeassert
  repeat' first
    | with_reducible assumption
    | with_reducible refine hP.set _ _ _ _ rfl ?_
    | with_reducible refine keep_sampleStraps hP _ _ _ _ ?_
    | (extract_lets +onlyGivenNames t; refine (fun (_ : P t) => ?_) ?_; (on_goal 2 => (dsimp -zeta only [t]; clear t)); (on_goal 1 => (clear_value t; rename' t => w)))
    | (extract_lets +onlyGivenNames t; refine (fun (_ : P t.1) => ?_) ?_; (on_goal 2 => (dsimp -zeta only [t]; clear t)); (on_goal 1 => (clear_value t; rename' t => w)))
    | (extract_lets +onlyGivenNames t; clear_value t; rename' t => w)
    | with_reducible refine Closed.foldl _ _ _ (fun _ _ _ => ?_) ?_
    | split

theorem keep_resyncRow (hP : Closed anyField P) (d : ℕ) (z : ℕ) (r : ℕ) (bad : List ℕ) (s : State) (hs : P s) :
    P (resyncRow d z r bad s) := by
  have hS := hP.ofAny
  unfold resyncRow
  repeat' first
    | with_reducible assumption
    | with_reducible refine keep_fetchRow hP _ _ _ _ ?_
    | with_reducible refine keep_rebuildOne hS _ _ _ _ _ _ ?_
    | with_reducible refine keep_unrecoverableRow hS _ _ _ ?_
    | (extract_lets +onlyGivenNames t; refine (fun (_ : P t) => ?_) ?_; (on_goal 2 => (dsimp -zeta only [t]; clear t)); (on_goal 1 => (clear_value t; rename' t => w)))
    | (extract_lets +onlyGivenNames t; refine (fun (_ : P t.1) => ?_) ?_; (on_goal 2 => (dsimp -zeta only [t]; clear t)); (on_goal 1 => (clear_value t; rename' t => w)))
    | (extract_lets +onlyGivenNames t; clear_value t; rename' t => w)
    | with_reducible rfl
    | with_reducible exact List.prefix_rfl
    | with_reducible exact le_rfl
    | with_reducible exact fun h => h
    | exact fun h => Memory.wf_writeList _ _ h
    | exact Nat.le_add_right _ _
    | with_reducible exact List.prefix_append _ _
    | with_reducible refine Closed.foldl _ _ _ (fun _ _ _ => ?_) ?_
    | split
    | with_reducible refine hP.build _ ?_ ?_ ?_ ?_

theorem keep_resyncZone (hP : Closed anyField P) (d : ℕ) (bad : List (ℕ × ℕ)) (scan : List (ℕ × List (BitVec 9))) (last : ℕ) (s : State) (hs : P s) :
    P (resyncZone d bad scan last s) := by
  have hS := hP.ofAny
  unfold resyncZone
  repeat' first
    | with_reducible assumption
    | with_reducible refine keep_adoptShelf hS _ _ _ _ ?_
    | with_reducible refine Closed.forAll _ _ _ (fun _ _ _ => ?_) ?_
    | with_reducible refine keep_resyncRow hP _ _ _ _ _ ?_
    | with_reducible refine keep_scanZone hS _ _ _ _ ?_
    | with_reducible refine keep_showResync hS _ ?_
    | with_reducible refine keep_showZones hS _ ?_
    | (extract_lets +onlyGivenNames t; refine (fun (_ : P t) => ?_) ?_; (on_goal 2 => (dsimp -zeta only [t]; clear t)); (on_goal 1 => (clear_value t; rename' t => w)))
    | (extract_lets +onlyGivenNames t; refine (fun (_ : P t.1) => ?_) ?_; (on_goal 2 => (dsimp -zeta only [t]; clear t)); (on_goal 1 => (clear_value t; rename' t => w)))
    | (extract_lets +onlyGivenNames t; clear_value t; rename' t => w)
    | with_reducible rfl
    | with_reducible exact List.prefix_rfl
    | with_reducible exact le_rfl
    | with_reducible exact fun h => h
    | exact fun h => Memory.wf_writeList _ _ h
    | exact Nat.le_add_right _ _
    | with_reducible exact List.prefix_append _ _
    | with_reducible refine Closed.foldl _ _ _ (fun _ _ _ => ?_) ?_
    | split
    | with_reducible refine hP.build _ ?_ ?_ ?_ ?_

theorem keep_resyncLogged (hP : Closed anyField P) (d : ℕ) (bad : List (ℕ × ℕ)) (scan : List (ℕ × List (BitVec 9))) (last : ℕ) (s : State) (hs : P s) :
    P (resyncLogged d bad scan last s) := by
  have hS := hP.ofAny
  unfold resyncLogged
  repeat' first
    | with_reducible assumption
    | with_reducible refine keep_fetchRow hP _ _ _ _ ?_
    | with_reducible refine Closed.forBelow _ _ _ (fun _ _ _ => ?_) ?_
    | with_reducible refine keep_logParity hS _ _ _ _ ?_
    | with_reducible refine keep_resyncZone hP _ _ _ _ _ ?_
    | with_reducible refine keep_writeParities hS _ _ _ _ ?_
    | (extract_lets +onlyGivenNames t; refine (fun (_ : P t) => ?_) ?_; (on_goal 2 => (dsimp -zeta only [t]; clear t)); (on_goal 1 => (clear_value t; rename' t => w)))
    | (extract_lets +onlyGivenNames t; refine (fun (_ : P t.1) => ?_) ?_; (on_goal 2 => (dsimp -zeta only [t]; clear t)); (on_goal 1 => (clear_value t; rename' t => w)))
    | (extract_lets +onlyGivenNames t; clear_value t; rename' t => w)
    | with_reducible refine Closed.foldl _ _ _ (fun _ _ _ => ?_) ?_
    | split

theorem keep_retireDone (hP : Closed anyField P) (bad : List ℕ) (s : State) (hs : P s) :
    P (retireDone bad s) := by
  have hS := hP.ofAny
  have hR := hP.ofAny.ofSettle
  unfold retireDone
  repeat' first
    | with_reducible assumption
    | with_reducible refine hP.bump _ _ _ rfl ?_
    | with_reducible refine hP.set _ _ _ _ rfl ?_
    | with_reducible refine hP.setMany _ _ _ rfl ?_
    | with_reducible refine hP.used _ ?_
    | with_reducible refine keep_elogAdd hS _ _ _ _ _ _ _ ?_
    | with_reducible refine Closed.forAll _ _ _ (fun _ _ _ => ?_) ?_
    | with_reducible refine keep_poisonLine hS _ _ ?_
    | with_reducible refine keep_pulse hR _ _ _ ?_
    | with_reducible refine keep_storeData hP _ _ _ _ ?_
    | (extract_lets +onlyGivenNames t; refine (fun (_ : P t) => ?_) ?_; (on_goal 2 => (dsimp -zeta only [t]; clear t)); (on_goal 1 => (clear_value t; rename' t => w)))
    | (extract_lets +onlyGivenNames t; refine (fun (_ : P t.1) => ?_) ?_; (on_goal 2 => (dsimp -zeta only [t]; clear t)); (on_goal 1 => (clear_value t; rename' t => w)))
    | (extract_lets +onlyGivenNames t; clear_value t; rename' t => w)
    | with_reducible rfl
    | with_reducible exact List.prefix_rfl
    | with_reducible exact le_rfl
    | with_reducible exact fun h => h
    | exact fun h => Memory.wf_writeList _ _ h
    | exact Nat.le_add_right _ _
    | with_reducible exact List.prefix_append _ _
    | with_reducible refine Closed.foldl _ _ _ (fun _ _ _ => ?_) ?_
    | split
    | with_reducible refine hP.build _ ?_ ?_ ?_ ?_

theorem keep_retractPhaseEnd (hP : Closed anyField P) (a : ℕ) (s : State) (hs : P s) :
    P (retractPhaseEnd a s) := by
  have hR := hP.ofAny.ofSettle
  unfold retractPhaseEnd
  repeat' first
    | with_reducible assumption
    | with_reducible refine hP.set _ _ _ _ rfl ?_
    | with_reducible refine keep_parked hP _ _ ?_
    | with_reducible refine keep_retractDrive hR _ _ ?_
    | with_reducible refine Closed.foldl _ _ _ (fun _ _ _ => ?_) ?_
    | split

theorem keep_ringCycleEdge (hP : Closed anyField P) (l : ℕ) (err : ℤ) (s : State) (hs : P s) :
    P (ringCycleEdge l err s) := by
  have hR := hP.ofAny.ofSettle
  unfold ringCycleEdge
  repeat' first
    | with_reducible assumption
    | with_reducible refine hP.set _ _ _ _ rfl ?_
    | with_reducible refine keep_recheckWrite hR _ _ ?_
    | with_reducible refine keep_updateFrange hP _ _ ?_
    | (extract_lets +onlyGivenNames t; refine (fun (_ : P t) => ?_) ?_; (on_goal 2 => (dsimp -zeta only [t]; clear t)); (on_goal 1 => (clear_value t; rename' t => w)))
    | (extract_lets +onlyGivenNames t; refine (fun (_ : P t.1) => ?_) ?_; (on_goal 2 => (dsimp -zeta only [t]; clear t)); (on_goal 1 => (clear_value t; rename' t => w)))
    | (extract_lets +onlyGivenNames t; clear_value t; rename' t => w)
    | with_reducible refine Closed.foldl _ _ _ (fun _ _ _ => ?_) ?_
    | split

theorem keep_ringEdgeTimeout (hP : Closed anyField P) (l : ℕ) (s : State) (hs : P s) :
    P (ringEdgeTimeout l s) := by
  have hR := hP.ofAny.ofSettle
  unfold ringEdgeTimeout
  repeat' first
    | with_reducible assumption
    | with_reducible refine hP.set _ _ _ _ rfl ?_
    | with_reducible refine keep_recheckWrite hR _ _ ?_
    | with_reducible refine keep_setFrange hP _ _ _ ?_
    | (extract_lets +onlyGivenNames t; refine (fun (_ : P t) => ?_) ?_; (on_goal 2 => (dsimp -zeta only [t]; clear t)); (on_goal 1 => (clear_value t; rename' t => w)))
    | (extract_lets +onlyGivenNames t; refine (fun (_ : P t.1) => ?_) ?_; (on_goal 2 => (dsimp -zeta only [t]; clear t)); (on_goal 1 => (clear_value t; rename' t => w)))
    | (extract_lets +onlyGivenNames t; clear_value t; rename' t => w)
    | with_reducible refine Closed.foldl _ _ _ (fun _ _ _ => ?_) ?_
    | split

theorem keep_rttLearn (hP : Closed anyField P) (l : ℕ) (w : ℕ) (s : State) (hs : P s) :
    P (rttLearn l w s) := by
  have hR := hP.ofAny.ofSettle
  unfold rttLearn
  repeat' first
    | with_reducible assumption
    | with_reducible refine hP.setI _ _ _ _ rfl ?_
    | with_reducible refine keep_State_setLword hR _ _ _ _ _ ?_
    | with_reducible refine keep_newInterval hP _ _ ?_
    | with_reducible refine keep_noteFlag hP _ _ ?_
    | (extract_lets +onlyGivenNames t; refine (fun (_ : P t) => ?_) ?_; (on_goal 2 => (dsimp -zeta only [t]; clear t)); (on_goal 1 => (clear_value t; rename' t => w)))
    | (extract_lets +onlyGivenNames t; refine (fun (_ : P t.1) => ?_) ?_; (on_goal 2 => (dsimp -zeta only [t]; clear t)); (on_goal 1 => (clear_value t; rename' t => w)))
    | (extract_lets +onlyGivenNames t; clear_value t; rename' t => w)
    | with_reducible refine Closed.foldl _ _ _ (fun _ _ _ => ?_) ?_
    | split

theorem keep_scrubNext (hP : Closed anyField P) (blk : ℕ) (s : State) (hs : P s) :
    P (scrubNext blk s) := by
  unfold scrubNext
  repeat' first
    | with_reducible assumption
    | with_reducible refine hP.bump _ _ _ rfl ?_
    | with_reducible refine hP.setMany _ _ _ rfl ?_
    | (extract_lets +onlyGivenNames t; refine (fun (_ : P t) => ?_) ?_; (on_goal 2 => (dsimp -zeta only [t]; clear t)); (on_goal 1 => (clear_value t; rename' t => w)))
    | (extract_lets +onlyGivenNames t; refine (fun (_ : P t.1) => ?_) ?_; (on_goal 2 => (dsimp -zeta only [t]; clear t)); (on_goal 1 => (clear_value t; rename' t => w)))
    | (extract_lets +onlyGivenNames t; clear_value t; rename' t => w)
    | with_reducible refine Closed.foldl _ _ _ (fun _ _ _ => ?_) ?_
    | split

theorem keep_scrubBlock (hP : Closed anyField P) (errs : List ByteErr) (s : State) (hs : P s) :
    P (scrubBlock errs s) := by
  have hS := hP.ofAny
  unfold scrubBlock
  repeat' first
    | with_reducible assumption
    | with_reducible refine keep_recordLine hS _ _ _ _ _ _ ?_
    | with_reducible refine keep_scrubNext hP _ _ ?_
    | with_reducible refine keep_writeBack hS _ _ _ ?_
    | (extract_lets +onlyGivenNames t; refine (fun (_ : P t) => ?_) ?_; (on_goal 2 => (dsimp -zeta only [t]; clear t)); (on_goal 1 => (clear_value t; rename' t => w)))
    | (extract_lets +onlyGivenNames t; refine (fun (_ : P t.1) => ?_) ?_; (on_goal 2 => (dsimp -zeta only [t]; clear t)); (on_goal 1 => (clear_value t; rename' t => w)))
    | (extract_lets +onlyGivenNames t; clear_value t; rename' t => w)
    | with_reducible refine Closed.foldl _ _ _ (fun _ _ _ => ?_) ?_
    | split

theorem keep_seekTimeout (hP : Closed anyField P) (a : ℕ) (s : State) (hs : P s) :
    P (seekTimeout a s) := by
  have hR := hP.ofAny.ofSettle
  unfold seekTimeout
  repeat' first
    | with_reducible assumption
    | with_reducible refine hP.bump _ _ _ rfl ?_
    | with_reducible refine hP.setI _ _ _ _ rfl ?_
    | with_reducible refine hP.setMany _ _ _ rfl ?_
    | with_reducible refine keep_pulse hR _ _ _ ?_
    | with_reducible refine keep_retract hR _ _ ?_
    | with_reducible refine keep_withFollow hR _ ?_
    | (extract_lets +onlyGivenNames t; refine (fun (_ : P t) => ?_) ?_; (on_goal 2 => (dsimp -zeta only [t]; clear t)); (on_goal 1 => (clear_value t; rename' t => w)))
    | (extract_lets +onlyGivenNames t; refine (fun (_ : P t.1) => ?_) ?_; (on_goal 2 => (dsimp -zeta only [t]; clear t)); (on_goal 1 => (clear_value t; rename' t => w)))
    | (extract_lets +onlyGivenNames t; clear_value t; rename' t => w)
    | with_reducible refine Closed.foldl _ _ _ (fun _ _ _ => ?_) ?_
    | split

theorem keep_senseEnd (hP : Closed anyField P) (f : SenseFinding) (c : Crossings) (s : State) (hs : P s) :
    P (senseEnd f c s) := by
  have hR := hP.ofAny.ofSettle
  unfold senseEnd
  repeat' first
    | with_reducible assumption
    | with_reducible refine keep_enterAlign hP _ ?_
    | with_reducible refine keep_enterCatch hP _ _ _ ?_
    | with_reducible refine keep_spnGo hR _ _ _ ?_
    | (extract_lets +onlyGivenNames t; refine (fun (_ : P t) => ?_) ?_; (on_goal 2 => (dsimp -zeta only [t]; clear t)); (on_goal 1 => (clear_value t; rename' t => w)))
    | (extract_lets +onlyGivenNames t; refine (fun (_ : P t.1) => ?_) ?_; (on_goal 2 => (dsimp -zeta only [t]; clear t)); (on_goal 1 => (clear_value t; rename' t => w)))
    | (extract_lets +onlyGivenNames t; clear_value t; rename' t => w)
    | with_reducible refine Closed.foldl _ _ _ (fun _ _ _ => ?_) ?_
    | split

theorem keep_sensorRequalify (hP : Closed anyField P) (n : ℕ) (s : State) (hs : P s) :
    P (sensorRequalify n s) := by
  have hR := hP.ofAny.ofSettle
  unfold sensorRequalify
  repeat' first
    | with_reducible assumption
    | with_reducible refine hP.set _ _ _ _ rfl ?_
    | with_reducible refine keep_selectSource hR _ ?_
    | with_reducible refine Closed.foldl _ _ _ (fun _ _ _ => ?_) ?_
    | split

theorem keep_setCache (hP : Closed anyField P) (wce : Bool) (c : NvCmd) (s : State) (hs : P s) :
    P (setCache wce c s) := by
  have hS := hP.ofAny
  unfold setCache
  repeat' first
    | with_reducible assumption
    | with_reducible refine hP.set _ _ _ _ rfl ?_
    | with_reducible refine keep_finish hS _ _ _ ?_
    | with_reducible refine Closed.foldl _ _ _ (fun _ _ _ => ?_) ?_
    | split

theorem keep_setQueues (hP : Closed anyField P) (nsq : ℕ) (ncq : ℕ) (c : NvCmd) (s : State) (hs : P s) :
    P (setQueues nsq ncq c s) := by
  have hS := hP.ofAny
  have hR := hP.ofAny.ofSettle
  unfold setQueues
  repeat' first
    | with_reducible assumption
    | with_reducible refine hP.set _ _ _ _ rfl ?_
    | with_reducible refine keep_complete hR _ _ _ _ _ ?_
    | with_reducible refine keep_finish hS _ _ _ ?_
    | with_reducible refine Closed.foldl _ _ _ (fun _ _ _ => ?_) ?_
    | split

theorem keep_setSpinWait (hP : Closed anyField P) (sec : ℕ) (c : NvCmd) (s : State) (hs : P s) :
    P (setSpinWait sec c s) := by
  have hS := hP.ofAny
  unfold setSpinWait
  repeat' first
    | with_reducible assumption
    | with_reducible refine hP.set _ _ _ _ rfl ?_
    | with_reducible refine keep_finish hS _ _ _ ?_
    | with_reducible refine Closed.foldl _ _ _ (fun _ _ _ => ?_) ?_
    | split

theorem keep_setUnlock (hP : Closed anyField P) (code : ℕ) (on : Bool) (c : NvCmd) (s : State) (hs : P s) :
    P (setUnlock code on c s) := by
  have hS := hP.ofAny
  unfold setUnlock
  repeat' first
    | with_reducible assumption
    | with_reducible refine hP.bump _ _ _ rfl ?_
    | with_reducible refine hP.set _ _ _ _ rfl ?_
    | with_reducible refine keep_finish hS _ _ _ ?_
    | with_reducible refine Closed.foldl _ _ _ (fun _ _ _ => ?_) ?_
    | split

theorem keep_setFeature (hP : Closed anyField P) (fid : ℕ) (dw11 : ℕ) (c : NvCmd) (s : State) (hs : P s) :
    P (setFeature fid dw11 c s) := by
  have hS := hP.ofAny
  unfold setFeature
  repeat' first
    | with_reducible assumption
    | with_reducible refine hP.set _ _ _ _ rfl ?_
    | with_reducible refine keep_finish hS _ _ _ ?_
    | with_reducible refine keep_setCache hP _ _ _ ?_
    | with_reducible refine keep_setPowerState hS _ _ _ ?_
    | with_reducible refine keep_setQueues hP _ _ _ _ ?_
    | with_reducible refine keep_setSpinWait hP _ _ _ ?_
    | with_reducible refine keep_setUnlock hP _ _ _ _ ?_
    | with_reducible refine Closed.foldl _ _ _ (fun _ _ _ => ?_) ?_
    | split

theorem keep_settleGroup (hP : Closed anyField P) (s : State) (t : State) (ht : P t) :
    P (settleGroup s t) := by
  have hS := hP.ofAny
  unfold settleGroup
  repeat' first
    | with_reducible assumption
    | with_reducible refine keep_settle hS _ _ ?_
    | with_reducible refine keep_settleAngle hS _ ?_
    | with_reducible refine keep_stepPolicy hP _ ?_
    | with_reducible refine Closed.foldl _ _ _ (fun _ _ _ => ?_) ?_
    | split

theorem keep_settleReached (hP : Closed anyField P) (h_0 : ℕ) (s : State) (hs : P s) :
    P (settleReached h_0 s) := by
  unfold settleReached
  repeat' first
    | with_reducible assumption
    | with_reducible refine hP.set _ _ _ _ rfl ?_
    | (extract_lets +onlyGivenNames t; refine (fun (_ : P t) => ?_) ?_; (on_goal 2 => (dsimp -zeta only [t]; clear t)); (on_goal 1 => (clear_value t; rename' t => w)))
    | (extract_lets +onlyGivenNames t; refine (fun (_ : P t.1) => ?_) ?_; (on_goal 2 => (dsimp -zeta only [t]; clear t)); (on_goal 1 => (clear_value t; rename' t => w)))
    | (extract_lets +onlyGivenNames t; clear_value t; rename' t => w)
    | with_reducible refine Closed.foldl _ _ _ (fun _ _ _ => ?_) ?_
    | split

theorem keep_shadowWrite (hP : Closed anyField P) (a : ℕ) (v : ℕ) (s : State) (hs : P s) :
    P (shadowWrite a v s) := by
  unfold shadowWrite
  repeat' first
    | with_reducible assumption
    | with_reducible refine keep_writeShadow hP _ _ _ _ _ ?_
    | with_reducible refine Closed.foldl _ _ _ (fun _ _ _ => ?_) ?_
    | split

theorem keep_shuntOvercurrent (hP : Closed anyField P) (shorted : Bool) (s : State) (hs : P s) :
    P (shuntOvercurrent shorted s) := by
  have hR := hP.ofAny.ofSettle
  unfold shuntOvercurrent
  repeat' first
    | with_reducible assumption
    | with_reducible refine hP.bump _ _ _ rfl ?_
    | with_reducible refine keep_overcurrentOff hR _ _ ?_
    | with_reducible refine keep_pulse hR _ _ _ ?_
    | with_reducible refine Closed.foldl _ _ _ (fun _ _ _ => ?_) ?_
    | split

theorem keep_sillagePeriod (hP : Closed anyField P) (u : ℕ) (s : State) (hs : P s) :
    P (sillagePeriod u s) := by
  have hR := hP.ofAny.ofSettle
  unfold sillagePeriod
  repeat' first
    | with_reducible assumption
    | with_reducible refine keep_settleTrace hR _ _ ?_
    | with_reducible refine keep_silCapture hP _ _ _ _ _ ?_
    | with_reducible refine Closed.foldl _ _ _ (fun _ _ _ => ?_) ?_
    | split

theorem keep_spdRefEdge (hP : Closed anyField P) (freq : ℕ) (s : State) (hs : P s) :
    P (spdRefEdge freq s) := by
  have hR := hP.ofAny.ofSettle
  unfold spdRefEdge
  repeat' first
    | with_reducible assumption
    | with_reducible refine hP.addSat _ _ _ _ rfl ?_
    | with_reducible refine hP.set _ _ _ _ rfl ?_
    | with_reducible refine hP.setMany _ _ _ rfl ?_
    | with_reducible refine keep_lower hR _ _ _ ?_
    | with_reducible refine keep_newTarget hP _ _ ?_
    | with_reducible refine keep_phaseTrim hP _ ?_
    | with_reducible refine keep_pulse hR _ _ _ ?_
    | with_reducible refine keep_pushField hP _ _ _ _ ?_
    | with_reducible refine keep_showRamp hP _ ?_
    | (extract_lets +onlyGivenNames t; refine (fun (_ : P t) => ?_) ?_; (on_goal 2 => (dsimp -zeta only [t]; clear t)); (on_goal 1 => (clear_value t; rename' t => w)))
    | (extract_lets +onlyGivenNames t; refine (fun (_ : P t.1) => ?_) ?_; (on_goal 2 => (dsimp -zeta only [t]; clear t)); (on_goal 1 => (clear_value t; rename' t => w)))
    | (extract_lets +onlyGivenNames t; clear_value t; rename' t => w)
    | with_reducible refine Closed.foldl _ _ _ (fun _ _ _ => ?_) ?_
    | split

theorem keep_spdRefSample (hP : Closed anyField P) (value : ℕ) (s : State) (hs : P s) :
    P (spdRefSample value s) := by
  unfold spdRefSample
  repeat' first
    | with_reducible assumption
    | with_reducible refine hP.set _ _ _ _ rfl ?_
    | with_reducible refine Closed.forBelow _ _ _ (fun _ _ _ => ?_) ?_
    | with_reducible refine keep_newTarget hP _ _ ?_
    | with_reducible refine keep_pushField hP _ _ _ _ ?_
    | (extract_lets +onlyGivenNames t; refine (fun (_ : P t) => ?_) ?_; (on_goal 2 => (dsimp -zeta only [t]; clear t)); (on_goal 1 => (clear_value t; rename' t => w)))
    | (extract_lets +onlyGivenNames t; refine (fun (_ : P t.1) => ?_) ?_; (on_goal 2 => (dsimp -zeta only [t]; clear t)); (on_goal 1 => (clear_value t; rename' t => w)))
    | (extract_lets +onlyGivenNames t; clear_value t; rename' t => w)
    | with_reducible refine Closed.foldl _ _ _ (fun _ _ _ => ?_) ?_
    | split

theorem keep_speedLoopUpdate (hP : Closed anyField P) (d0 : ℤ) (d1 : ℕ) (d2 : ℕ) (d3 : ℕ) (speed : ℕ) (age : ℕ) (sameEpoch : Bool) (rest : ℕ) (s : State) (hs : P s) :
    P (speedLoopUpdate d0 d1 d2 d3 speed age sameEpoch rest s) := by
  have hR := hP.ofAny.ofSettle
  unfold speedLoopUpdate
  repeat' first
    | with_reducible assumption
    | with_reducible refine hP.setI _ _ _ _ rfl ?_
    | with_reducible refine hP.setMany _ _ _ rfl ?_
    | with_reducible refine keep_calWatch hR _ ?_
    | with_reducible refine keep_level hR _ _ _ _ ?_
    | with_reducible refine keep_loadWatch hR _ ?_
    | with_reducible refine keep_presentDemands hP _ _ _ _ _ _ ?_
    | with_reducible refine keep_settleTrace hR _ _ ?_
    | with_reducible refine keep_triggerSrc hR _ _ _ _ ?_
    | (extract_lets +onlyGivenNames t; refine (fun (_ : P t) => ?_) ?_; (on_goal 2 => (dsimp -zeta only [t]; clear t)); (on_goal 1 => (clear_value t; rename' t => w)))
    | (extract_lets +onlyGivenNames t; refine (fun (_ : P t.1) => ?_) ?_; (on_goal 2 => (dsimp -zeta only [t]; clear t)); (on_goal 1 => (clear_value t; rename' t => w)))
    | (extract_lets +onlyGivenNames t; clear_value t; rename' t => w)
    | with_reducible refine Closed.foldl _ _ _ (fun _ _ _ => ?_) ?_
    | split

theorem keep_spinWaitExpiry (hP : Closed anyField P) (sqid : ℕ) (cid : BitVec 16) (s : State) (hs : P s) :
    P (spinWaitExpiry sqid cid s) := by
  have hS := hP.ofAny
  have hR := hP.ofAny.ofSettle
  unfold spinWaitExpiry
  repeat' first
    | with_reducible assumption
    | with_reducible refine hP.bump _ _ _ rfl ?_
    | with_reducible refine keep_finish hS _ _ _ ?_
    | with_reducible refine keep_pulse hR _ _ _ ?_
    | with_reducible refine Closed.foldl _ _ _ (fun _ _ _ => ?_) ?_
    | split

theorem keep_sramOwner (hP : Closed anyField P) (k : SramKind) (addr : ℕ) (ue : Bool) (s : State) (hs : P s) :
    P (sramOwner k addr ue s) := by
  unfold sramOwner
  repeat' first
    | with_reducible assumption
    | with_reducible refine hP.bump _ _ _ rfl ?_
    | with_reducible refine hP.set _ _ _ _ rfl ?_
    | with_reducible rfl
    | with_reducible exact List.prefix_rfl
    | with_reducible exact le_rfl
    | with_reducible exact fun h => h
    | exact fun h => Memory.wf_writeList _ _ h
    | exact Nat.le_add_right _ _
    | with_reducible exact List.prefix_append _ _
    | with_reducible refine Closed.foldl _ _ _ (fun _ _ _ => ?_) ?_
    | split
    | with_reducible refine hP.build _ ?_ ?_ ?_ ?_

theorem keep_sramError (hP : Closed anyField P) (k : SramKind) (word : ℕ) (ue : Bool) (master : ℕ) (s : State) (hs : P s) :
    P (sramError k word ue master s) := by
  have hS := hP.ofAny
  unfold sramError
  repeat' first
    | with_reducible assumption
    | with_reducible refine hP.bump _ _ _ rfl ?_
    | with_reducible refine hP.used _ ?_
    | with_reducible refine keep_elogAdd hS _ _ _ _ _ _ _ ?_
    | with_reducible refine keep_sramOwner hP _ _ _ _ ?_
    | (extract_lets +onlyGivenNames t; refine (fun (_ : P t) => ?_) ?_; (on_goal 2 => (dsimp -zeta only [t]; clear t)); (on_goal 1 => (clear_value t; rename' t => w)))
    | (extract_lets +onlyGivenNames t; refine (fun (_ : P t.1) => ?_) ?_; (on_goal 2 => (dsimp -zeta only [t]; clear t)); (on_goal 1 => (clear_value t; rename' t => w)))
    | (extract_lets +onlyGivenNames t; clear_value t; rename' t => w)
    | with_reducible refine Closed.foldl _ _ _ (fun _ _ _ => ?_) ?_
    | split

theorem keep_sramFilled (hP : Closed anyField P) (s : State) (hs : P s) :
    P (sramFilled s) := by
  unfold sramFilled
  repeat' first
    | with_reducible assumption
    | with_reducible refine hP.set _ _ _ _ rfl ?_
    | with_reducible refine Closed.foldl _ _ _ (fun _ _ _ => ?_) ?_
    | split

theorem keep_sramFillDone (hP : Closed anyField P) (s : State) (hs : P s) :
    P (sramFillDone s) := by
  unfold sramFillDone
  repeat' first
    | with_reducible assumption
    | with_reducible refine hP.set _ _ _ _ rfl ?_
    | with_reducible refine keep_sramFilled hP _ ?_
    | (extract_lets +onlyGivenNames t; refine (fun (_ : P t) => ?_) ?_; (on_goal 2 => (dsimp -zeta only [t]; clear t)); (on_goal 1 => (clear_value t; rename' t => w)))
    | (extract_lets +onlyGivenNames t; refine (fun (_ : P t.1) => ?_) ?_; (on_goal 2 => (dsimp -zeta only [t]; clear t)); (on_goal 1 => (clear_value t; rename' t => w)))
    | (extract_lets +onlyGivenNames t; clear_value t; rename' t => w)
    | with_reducible refine Closed.foldl _ _ _ (fun _ _ _ => ?_) ?_
    | split

theorem keep_sramRead (hP : Closed anyField P) (k : SramKind) (addr : ℕ) (who : BufMaster) (err : ℕ) (s : State) (hs : P s) :
    P (sramRead k addr who err s) := by
  have hS := hP.ofAny
  have hR := hP.ofAny.ofSettle
  unfold sramRead
  dsimp only
  repeat' first
    | with_reducible assumption
    | with_reducible refine hP.ret _ _ ?_
    | with_reducible refine hP.set _ _ _ _ rfl ?_
    | with_reducible refine keep_pulse hR _ _ _ ?_
    | with_reducible refine keep_readFails hR _ _ _ ?_
    | with_reducible refine keep_sramError hP _ _ _ _ _ ?_
    | with_reducible refine keep_stagingError hR _ _ ?_
    | with_reducible refine keep_writeBufferError hS _ _ ?_
    | (extract_lets +onlyGivenNames t; refine (fun (_ : P t) => ?_) ?_; (on_goal 2 => (dsimp -zeta only [t]; clear t)); (on_goal 1 => (clear_value t; rename' t => w)))
    | (extract_lets +onlyGivenNames t; refine (fun (_ : P t.1) => ?_) ?_; (on_goal 2 => (dsimp -zeta only [t]; clear t)); (on_goal 1 => (clear_value t; rename' t => w)))
    | (extract_lets +onlyGivenNames t; clear_value t; rename' t => w)
    | with_reducible refine Closed.foldl _ _ _ (fun _ _ _ => ?_) ?_
    | split


theorem keep_sramScrub (hP : Closed anyField P) (found : List (SramKind × ℕ × Bool)) (s : State) (hs : P s) :
    P (sramScrub found s) := by
  have hR := hP.ofAny.ofSettle
  unfold sramScrub
  repeat' first
    | with_reducible assumption
    | with_reducible refine Closed.forAll _ _ _ (fun _ _ _ => ?_) ?_
    | with_reducible refine keep_pulse hR _ _ _ ?_
    | with_reducible refine keep_sramError hP _ _ _ _ _ ?_
    | (extract_lets +onlyGivenNames t; refine (fun (_ : P t) => ?_) ?_; (on_goal 2 => (dsimp -zeta only [t]; clear t)); (on_goal 1 => (clear_value t; rename' t => w)))
    | (extract_lets +onlyGivenNames t; refine (fun (_ : P t.1) => ?_) ?_; (on_goal 2 => (dsimp -zeta only [t]; clear t)); (on_goal 1 => (clear_value t; rename' t => w)))
    | (extract_lets +onlyGivenNames t; clear_value t; rename' t => w)
    | with_reducible refine Closed.foldl _ _ _ (fun _ _ _ => ?_) ?_
    | split

theorem keep_startFailure (hP : Closed anyField P) (s : State) (hs : P s) :
    P (startFailure s) := by
  unfold startFailure
  repeat' first
    | with_reducible assumption
    | with_reducible refine keep_failStart hP _ ?_
    | with_reducible refine Closed.foldl _ _ _ (fun _ _ _ => ?_) ?_
    | split

theorem keep_status (hP : Closed anyField P) (addr : ℕ) (m : StatusMsg) (s : State) (hs : P s) :
    P (status addr m s) := by
  have hR := hP.ofAny.ofSettle
  unfold status
  repeat' first
    | with_reducible assumption
    | with_reducible refine hP.set _ _ _ _ rfl ?_
    | with_reducible refine hP.setMany _ _ _ rfl ?_
    | with_reducible refine keep_downFrame hP _ _ _ _ (fun _ _ => ?_) ?_
    | with_reducible refine keep_harvestChild hP _ _ ?_
    | with_reducible refine keep_loseWorker hP _ _ ?_
    | with_reducible refine keep_pulse hR _ _ _ ?_
    | with_reducible refine keep_serveWants hP _ ?_
    | with_reducible refine keep_setGrant hP _ _ _ ?_
    | with_reducible refine keep_showMgr hP _ ?_
    | (extract_lets +onlyGivenNames t; refine (fun (_ : P t) => ?_) ?_; (on_goal 2 => (dsimp -zeta only [t]; clear t)); (on_goal 1 => (clear_value t; rename' t => w)))
    | (extract_lets +onlyGivenNames t; refine (fun (_ : P t.1) => ?_) ?_; (on_goal 2 => (dsimp -zeta only [t]; clear t)); (on_goal 1 => (clear_value t; rename' t => w)))
    | (extract_lets +onlyGivenNames t; clear_value t; rename' t => w)
    | with_reducible refine Closed.foldl _ _ _ (fun _ _ _ => ?_) ?_
    | split

theorem keep_submitRow (hP : Closed anyField P) (z : ℕ) (s : State) (hs : P s) :
    P (submitRow z s) := by
  have hS := hP.ofAny
  unfold submitRow
  repeat' first
    | with_reducible assumption
    | with_reducible refine Closed.forAll _ _ _ (fun _ _ _ => ?_) ?_
    | with_reducible refine keep_loseFrame hP _ _ ?_
    | with_reducible refine keep_reportGuards hS _ _ ?_
    | with_reducible refine keep_rowSubmit hS _ _ ?_
    | (extract_lets +onlyGivenNames t; refine (fun (_ : P t) => ?_) ?_; (on_goal 2 => (dsimp -zeta only [t]; clear t)); (on_goal 1 => (clear_value t; rename' t => w)))
    | (extract_lets +onlyGivenNames t; refine (fun (_ : P t.1) => ?_) ?_; (on_goal 2 => (dsimp -zeta only [t]; clear t)); (on_goal 1 => (clear_value t; rename' t => w)))
    | (extract_lets +onlyGivenNames t; clear_value t; rename' t => w)
    | with_reducible refine Closed.foldl _ _ _ (fun _ _ _ => ?_) ?_
    | split

theorem keep_sync (hP : Closed anyField P) (epoch : ℕ) (period : ℕ) (s : State) (hs : P s) :
    P (sync epoch period s) := by
  have hR := hP.ofAny.ofSettle
  unfold sync
  repeat' first
    | with_reducible assumption
    | with_reducible refine hP.setMany _ _ _ rfl ?_
    | with_reducible refine keep_driveSync hR _ ?_
    | with_reducible refine keep_upFrame hP _ _ _ (fun _ _ => ?_) ?_
    | with_reducible refine Closed.foldl _ _ _ (fun _ _ _ => ?_) ?_
    | split

theorem keep_synthLock (hP : Closed anyField P) (l : ℕ) (s : State) (hs : P s) :
    P (synthLock l s) := by
  unfold synthLock
  repeat' first
    | with_reducible assumption
    | with_reducible refine hP.set _ _ _ _ rfl ?_
    | with_reducible refine Closed.foldl _ _ _ (fun _ _ _ => ?_) ?_
    | split

theorem keep_tapTo (hP : Closed anyField P) (n : ℕ) (s : State) (hs : P s) :
    P (tapTo n s) := by
  unfold tapTo
  repeat' first
    | with_reducible assumption
    | with_reducible refine hP.set _ _ _ _ rfl ?_
    | with_reducible refine Closed.foldl _ _ _ (fun _ _ _ => ?_) ?_
    | split

theorem keep_tapIdcode (hP : Closed anyField P) (s : State) (hs : P s) :
    P (tapIdcode s) := by
  unfold tapIdcode
  repeat' first
    | with_reducible assumption
    | with_reducible refine hP.emit _ _ ?_
    | with_reducible refine keep_tapTo hP _ _ ?_
    | with_reducible refine Closed.foldl _ _ _ (fun _ _ _ => ?_) ?_
    | split

theorem keep_tapSample (hP : Closed anyField P) (v : ℕ) (s : State) (hs : P s) :
    P (tapSample v s) := by
  unfold tapSample
  repeat' first
    | with_reducible assumption
    | with_reducible refine hP.emit _ _ ?_
    | with_reducible refine hP.set _ _ _ _ rfl ?_
    | with_reducible refine hP.used _ ?_
    | with_reducible refine keep_tapTo hP _ _ ?_
    | with_reducible refine Closed.foldl _ _ _ (fun _ _ _ => ?_) ?_
    | split

theorem keep_vcmOcTest (hP : Closed anyField P) (a : ℕ) (pass : Bool) (s : State) (hs : P s) :
    P (vcmOcTest a pass s) := by
  have hR := hP.ofAny.ofSettle
  unfold vcmOcTest
  repeat' first
    | with_reducible assumption
    | with_reducible refine hP.setMany _ _ _ rfl ?_
    | with_reducible refine keep_coilOpen hP _ _ ?_
    | with_reducible refine keep_retract hR _ _ ?_
    | with_reducible refine keep_withFollow hR _ ?_
    | with_reducible refine Closed.foldl _ _ _ (fun _ _ _ => ?_) ?_
    | split

theorem keep_vcmOpenCoil (hP : Closed anyField P) (a : ℕ) (s : State) (hs : P s) :
    P (vcmOpenCoil a s) := by
  unfold vcmOpenCoil
  repeat' first
    | with_reducible assumption
    | with_reducible refine keep_coilOpen hP _ _ ?_
    | with_reducible refine Closed.foldl _ _ _ (fun _ _ _ => ?_) ?_
    | split

theorem keep_vcmOvercurrent (hP : Closed anyField P) (a : ℕ) (s : State) (hs : P s) :
    P (vcmOvercurrent a s) := by
  have hR := hP.ofAny.ofSettle
  unfold vcmOvercurrent
  repeat' first
    | with_reducible assumption
    | with_reducible refine hP.setBit _ _ _ _ _ rfl ?_
    | with_reducible refine hP.setMany _ _ _ rfl ?_
    | with_reducible refine keep_pulse hR _ _ _ ?_
    | (extract_lets +onlyGivenNames t; refine (fun (_ : P t) => ?_) ?_; (on_goal 2 => (dsimp -zeta only [t]; clear t)); (on_goal 1 => (clear_value t; rename' t => w)))
    | (extract_lets +onlyGivenNames t; refine (fun (_ : P t.1) => ?_) ?_; (on_goal 2 => (dsimp -zeta only [t]; clear t)); (on_goal 1 => (clear_value t; rename' t => w)))
    | (extract_lets +onlyGivenNames t; clear_value t; rename' t => w)
    | with_reducible refine Closed.foldl _ _ _ (fun _ _ _ => ?_) ?_
    | split

theorem keep_vddAonLow (hP : Closed anyField P) (s : State) (hs : P s) :
    P (vddAonLow s) := by
  unfold vddAonLow
  repeat' first
    | with_reducible assumption
    | with_reducible refine hP.set _ _ _ _ rfl ?_
    | with_reducible refine keep_abandonDump hP _ ?_
    | with_reducible refine keep_coldClear hP _ ?_
    | with_reducible refine Closed.foldl _ _ _ (fun _ _ _ => ?_) ?_
    | split

theorem keep_vddAonReturn (hP : Closed anyField P) (role : Bool) (bootcs : Bool) (recov : Bool) (s : State) (hs : P s) :
    P (vddAonReturn role bootcs recov s) := by
  unfold vddAonReturn
  repeat' first
    | with_reducible assumption
    | with_reducible refine hP.set _ _ _ _ rfl ?_
    | with_reducible refine keep_coldReset hP _ _ _ _ _ _ ?_
    | with_reducible refine Closed.foldl _ _ _ (fun _ _ _ => ?_) ?_
    | split

theorem keep_wake (hP : Closed anyField P) (addr : ℕ) (seq : ℕ) (s : State) (hs : P s) :
    P (wake addr seq s) := by
  have hR := hP.ofAny.ofSettle
  unfold wake
  repeat' first
    | with_reducible assumption
    | with_reducible refine keep_pmeEvent hR _ _ ?_
    | with_reducible refine keep_pulse hR _ _ _ ?_
    | with_reducible refine keep_upRequest hP _ _ _ _ _ (fun _ _ => ?_) ?_
    | with_reducible refine Closed.foldl _ _ _ (fun _ _ _ => ?_) ?_
    | split

theorem keep_wedgeDecision (hP : Closed anyField P) (h_0 : ℕ) (w : Wedge) (s : State) (hs : P s) :
    P (wedgeDecision h_0 w s) := by
  have hR := hP.ofAny.ofSettle
  unfold wedgeDecision
  repeat' first
    | with_reducible assumption
    | with_reducible refine hP.setI _ _ _ _ rfl ?_
    | with_reducible refine hP.setMany _ _ _ rfl ?_
    | with_reducible refine hP.used _ ?_
    | with_reducible refine keep_acceptTarget hP _ _ ?_
    | with_reducible refine keep_clearance hP _ _ _ _ ?_
    | with_reducible refine keep_countWedge hP _ _ _ ?_
    | with_reducible refine keep_desaturate hP _ _ ?_
    | with_reducible refine keep_learnWedge hP _ _ _ ?_
    | with_reducible refine keep_loadAcquired hP _ _ ?_
    | with_reducible refine keep_microAdvance hP _ _ ?_
    | with_reducible refine keep_refWedge hP _ _ _ ?_
    | with_reducible refine keep_reportPolarity hP _ _ _ ?_
    | with_reducible refine keep_sendHeater hP _ _ ?_
    | with_reducible refine keep_setInhibit hP _ _ ?_
    | with_reducible refine keep_settleTrace hR _ _ ?_
    | with_reducible refine keep_showHeads hP _ _ ?_
    | with_reducible refine keep_triggerSrc hR _ _ _ _ ?_
    | (extract_lets +onlyGivenNames t; refine (fun (_ : P t) => ?_) ?_; (on_goal 2 => (dsimp -zeta only [t]; clear t)); (on_goal 1 => (clear_value t; rename' t => w)))
    | (extract_lets +onlyGivenNames t; refine (fun (_ : P t.1) => ?_) ?_; (on_goal 2 => (dsimp -zeta only [t]; clear t)); (on_goal 1 => (clear_value t; rename' t => w)))
    | (extract_lets +onlyGivenNames t; clear_value t; rename' t => w)
    | with_reducible refine Closed.foldl _ _ _ (fun _ _ _ => ?_) ?_
    | split

theorem keep_wedgeWindow (hP : Closed anyField P) (l : ℕ) (opens : Bool) (s : State) (hs : P s) :
    P (wedgeWindow l opens s) := by
  unfold wedgeWindow
  repeat' first
    | with_reducible assumption
    | with_reducible refine keep_closeWindow hP _ _ ?_
    | with_reducible refine keep_openWindow hP _ _ ?_
    | with_reducible refine Closed.foldl _ _ _ (fun _ _ _ => ?_) ?_
    | split

theorem keep_workerSilent (hP : Closed anyField P) (n : ℕ) (s : State) (hs : P s) :
    P (workerSilent n s) := by
  unfold workerSilent
  repeat' first
    | with_reducible assumption
    | with_reducible refine keep_loseWorker hP _ _ ?_
    | with_reducible refine keep_showMgr hP _ ?_
    | with_reducible refine Closed.foldl _ _ _ (fun _ _ _ => ?_) ?_
    | split

theorem keep_writeWord (hP : Closed anyField P) (l : ℕ) (w : BitVec 512) (s : State) (hs : P s) :
    P (writeWord l w s) := by
  unfold writeWord
  repeat' first
    | with_reducible assumption
    | with_reducible refine keep_frameOpWrite hP _ _ _ ?_
    | with_reducible refine Closed.foldl _ _ _ (fun _ _ _ => ?_) ?_
    | split

end Sys2Proof.Machine
end

