-- ==== Sys2Proof/Laws/KeepExec.lean ====
section
/-!
SUPPORT. Every command: one lemma each, and the lemmas for `exec` and `step`.
-/

set_option linter.unreachableTactic false
set_option linter.unusedTactic false
set_option linter.tactic.unusedName false
set_option linter.unusedSimpArgs false
set_option linter.unusedVariables false

namespace Sys2Proof.Machine

set_option Elab.async false

variable {P : State → Prop} {T : Nat → Bool}

theorem keep_done (hP : Closed T P) (s u : State) (hu : P u) : ∀ t, done s u = .next t → P t := by
  intro t h
  obtain rfl := Host.Outcome.next.inj h
  exact hP.record u _ rfl (fun h => h) List.prefix_rfl le_rfl hu

theorem keep_engineOp (hP : Closed anyField P) (c : Fin 64) (i : Instr) (last : Bool) (s : State) (hs : P s) :
    ∀ t, (engineOp c i last s) = .next t → P t := by
  have hR := hP.ofAny.ofSettle
  unfold engineOp
  repeat' first
    | with_reducible refine keep_done hP _ _ ?_
    | with_reducible assumption
    | with_reducible refine keep_engineBus hP _ _ _ ?_
    | with_reducible refine keep_lpeOp hP _ _ _ _ _ (fun _ _ _ _ => ?_) ?_
    | with_reducible refine keep_onBlock hR _ _ _ (fun _ _ => ?_) ?_
    | with_reducible refine Closed.foldl _ _ _ (fun _ _ _ => ?_) ?_
    | split

theorem keep_adminCmd (hP : Closed bySettle P) (cid : BitVec 16) (op : ℕ) (f : NvCmd → State → State) (s : State) (hf : ∀ y0 y1, P y1 → P (f y0 y1)) (hs : P s) :
    ∀ t, (adminCmd cid op f s) = .next t → P t := by
  have hR := hP.ofSettle
  unfold adminCmd
  repeat' first
    | with_reducible refine keep_done hP _ _ ?_
    | with_reducible assumption
    | refine hf _ _ ?_
    | with_reducible refine keep_onHost hP _ _ (fun _ _ => ?_) ?_
    | with_reducible refine keep_withCmd hR _ _ _ _ _ (fun _ _ _ => ?_) ?_
    | with_reducible refine Closed.foldl _ _ _ (fun _ _ _ => ?_) ?_
    | split

theorem keep_execFwctlCommit (hP : Closed anyField P) (addr : BitVec 7) (seq : BitVec 4) (imageOk : Bool) (s : State) (hs : P s) :
    ∀ t, exec (.fwctlCommit addr seq imageOk) s = .next t → P t := by
  have hS := hP.ofAny
  rw [exec_fwctlCommit]
  unfold execFwctlCommit
  repeat' first
    | with_reducible refine keep_done hP _ _ ?_
    | with_reducible assumption
    | with_reducible refine keep_beginFwctl hP _ _ _ _ ?_
    | with_reducible refine keep_onClaik hS _ _ (fun _ _ => ?_) ?_
    | with_reducible refine Closed.foldl _ _ _ (fun _ _ _ => ?_) ?_
    | split

theorem keep_execCodewordStaged (hP : Closed anyField P) (b : StagedBits) (s : State) (hs : P s) :
    ∀ t, exec (.codewordStaged b) s = .next t → P t := by
  have hS := hP.ofAny
  rw [exec_codewordStaged]
  unfold execCodewordStaged
  repeat' first
    | with_reducible refine keep_done hP _ _ ?_
    | with_reducible assumption
    | with_reducible refine keep_codewordStaged hP _ _ _ ?_
    | with_reducible refine keep_onMedia hS _ _ _ (fun _ _ => ?_) ?_
    | with_reducible refine Closed.foldl _ _ _ (fun _ _ _ => ?_) ?_
    | split

theorem keep_execHlkDisable (hP : Closed anyField P) (a : Fin 4) (s : State) (hs : P s) :
    ∀ t, exec (.hlkDisable a) s = .next t → P t := by
  have hS := hP.ofAny
  rw [exec_hlkDisable]
  unfold execHlkDisable
  repeat' first
    | with_reducible refine keep_done hP _ _ ?_
    | with_reducible assumption
    | with_reducible refine keep_hlkDisable hP _ _ ?_
    | with_reducible refine keep_onMedia hS _ _ _ (fun _ _ => ?_) ?_
    | with_reducible refine Closed.foldl _ _ _ (fun _ _ _ => ?_) ?_
    | split

theorem keep_execGroupCancel (hP : Closed anyField P) (b : ShBlk) (i : Fin 48) (g : Fin 8) (s : State) (hs : P s) :
    ∀ t, exec (.groupCancel b i g) s = .next t → P t := by
  have hR := hP.ofAny.ofSettle
  rw [exec_groupCancel]
  unfold execGroupCancel
  repeat' first
    | with_reducible refine keep_done hP _ _ ?_
    | with_reducible assumption
    | with_reducible refine keep_cancelGroup hP _ _ _ _ ?_
    | with_reducible refine keep_onBlock hR _ _ _ (fun _ _ => ?_) ?_
    | with_reducible refine keep_settleGroup hP _ _ ?_
    | with_reducible refine Closed.foldl _ _ _ (fun _ _ _ => ?_) ?_
    | split

theorem keep_execSpdRefEdge (hP : Closed anyField P) (freq : ℕ) (s : State) (hs : P s) :
    ∀ t, exec (.spdRefEdge freq) s = .next t → P t := by
  have hR := hP.ofAny.ofSettle
  rw [exec_spdRefEdge]
  unfold execSpdRefEdge
  repeat' first
    | with_reducible refine keep_done hP _ _ ?_
    | with_reducible assumption
    | with_reducible refine keep_onBlock hR _ _ _ (fun _ _ => ?_) ?_
    | with_reducible refine keep_spdRefEdge hP _ _ ?_
    | with_reducible refine Closed.foldl _ _ _ (fun _ _ _ => ?_) ?_
    | split

theorem keep_execFaultInject (hP : Closed anyField P) (v : Word) (s : State) (hs : P s) :
    ∀ t, exec (.faultInject v) s = .next t → P t := by
  have hS := hP.ofAny
  rw [exec_faultInject]
  unfold execFaultInject
  repeat' first
    | with_reducible refine keep_done hP _ _ ?_
    | with_reducible assumption
    | with_reducible refine keep_faultInject hP _ _ ?_
    | with_reducible refine keep_onCollector hS _ _ (fun _ _ => ?_) ?_
    | with_reducible refine Closed.foldl _ _ _ (fun _ _ _ => ?_) ?_
    | split

theorem keep_execZoneAppend (hP : Closed bySettle P) (a : IoArgs) (pi : PiCheck) (s : State) (hs : P s) :
    ∀ t, exec (.zoneAppend a pi) s = .next t → P t := by
  rw [exec_zoneAppend]
  unfold execZoneAppend
  repeat' first
    | with_reducible refine keep_done hP _ _ ?_
    | with_reducible assumption
    | with_reducible refine keep_beginWrite hP _ _ ?_
    | with_reducible refine keep_onHost hP _ _ (fun _ _ => ?_) ?_
    | with_reducible refine keep_withIo hP _ _ _ _ _ (fun _ _ _ => ?_) ?_
    | with_reducible refine Closed.foldl _ _ _ (fun _ _ _ => ?_) ?_
    | split

theorem keep_execAggregationTimeExpiry (hP : Closed bySettle P) (q : ℕ) (s : State) (hs : P s) :
    ∀ t, exec (.aggregationTimeExpiry q) s = .next t → P t := by
  have hR := hP.ofSettle
  rw [exec_aggregationTimeExpiry]
  unfold execAggregationTimeExpiry
  repeat' first
    | with_reducible refine keep_done hP _ _ ?_
    | with_reducible assumption
    | with_reducible refine keep_aggregationExpiry hR _ _ ?_
    | with_reducible refine keep_onHost hP _ _ (fun _ _ => ?_) ?_
    | with_reducible refine Closed.foldl _ _ _ (fun _ _ _ => ?_) ?_
    | split

theorem keep_execOvercurrentTest (hP : Closed bySettle P) (pass : Bool) (s : State) (hs : P s) :
    ∀ t, exec (.overcurrentTest pass) s = .next t → P t := by
  have hR := hP.ofSettle
  rw [exec_overcurrentTest]
  unfold execOvercurrentTest
  repeat' first
    | with_reducible refine keep_done hP _ _ ?_
    | with_reducible assumption
    | with_reducible refine keep_onSpindle hP _ _ (fun _ _ => ?_) ?_
    | with_reducible refine keep_overcurrentTest hR _ _ ?_
    | with_reducible refine Closed.foldl _ _ _ (fun _ _ _ => ?_) ?_
    | split

theorem keep_execLinkDown (hP : Closed anyField P) (s : State) (hs : P s) :
    ∀ t, exec (.linkDown) s = .next t → P t := by
  have hS := hP.ofAny
  rw [exec_linkDown]
  unfold execLinkDown
  repeat' first
    | with_reducible refine keep_done hP _ _ ?_
    | with_reducible assumption
    | with_reducible refine keep_linkDown hP _ ?_
    | with_reducible refine keep_onPcie hS _ _ (fun _ _ => ?_) ?_
    | with_reducible refine Closed.foldl _ _ _ (fun _ _ _ => ?_) ?_
    | split

theorem keep_execWedgeDecision (hP : Closed anyField P) (h_0 : Fin 48) (w : Wedge) (s : State) (hs : P s) :
    ∀ t, exec (.wedgeDecision h_0 w) s = .next t → P t := by
  have hS := hP.ofAny
  rw [exec_wedgeDecision]
  unfold execWedgeDecision
  repeat' first
    | with_reducible refine keep_done hP _ _ ?_
    | with_reducible assumption
    | with_reducible refine keep_onMedia hS _ _ _ (fun _ _ => ?_) ?_
    | with_reducible refine keep_wedgeDecision hP _ _ _ ?_
    | with_reducible refine Closed.foldl _ _ _ (fun _ _ _ => ?_) ?_
    | split

theorem keep_execFlush (hP : Closed bySettle P) (sqid : ℕ) (cid : BitVec 16) (s : State) (hs : P s) :
    ∀ t, exec (.flush sqid cid) s = .next t → P t := by
  have hR := hP.ofSettle
  rw [exec_flush]
  unfold execFlush
  repeat' first
    | with_reducible refine keep_done hP _ _ ?_
    | with_reducible assumption
    | with_reducible refine keep_beginFlush hP _ _ ?_
    | with_reducible refine keep_onHost hP _ _ (fun _ _ => ?_) ?_
    | with_reducible refine keep_withCmd hR _ _ _ _ _ (fun _ _ _ => ?_) ?_
    | with_reducible refine Closed.foldl _ _ _ (fun _ _ _ => ?_) ?_
    | split

theorem keep_execContextDispatch (hP : Closed anyField P) (core : Fin 4) (s : State) (hs : P s) :
    ∀ t, exec (.contextDispatch core) s = .next t → P t := by
  have hR := hP.ofAny.ofSettle
  rw [exec_contextDispatch]
  unfold execContextDispatch
  repeat' first
    | with_reducible refine keep_done hP _ _ ?_
    | with_reducible assumption
    | with_reducible refine keep_contextDispatch hP _ _ ?_
    | with_reducible refine keep_onBlock hR _ _ _ (fun _ _ => ?_) ?_
    | with_reducible refine Closed.foldl _ _ _ (fun _ _ _ => ?_) ?_
    | split

theorem keep_execSeekRunAhead (hP : Closed anyField P) (a : Fin 4) (v : Word) (s : State) (hs : P s) :
    ∀ t, exec (.seekRunAhead a v) s = .next t → P t := by
  have hR := hP.ofAny.ofSettle
  rw [exec_seekRunAhead]
  unfold execSeekRunAhead
  repeat' first
    | with_reducible refine keep_done hP _ _ ?_
    | with_reducible assumption
    | with_reducible refine keep_onBlock hR _ _ _ (fun _ _ => ?_) ?_
    | with_reducible refine keep_seekRunAhead hP _ _ _ ?_
    | with_reducible refine Closed.foldl _ _ _ (fun _ _ _ => ?_) ?_
    | split

theorem keep_execSpnStart (hP : Closed bySettle P) (s : State) (hs : P s) :
    ∀ t, exec (.spnStart) s = .next t → P t := by
  rw [exec_spnStart]
  unfold execSpnStart
  repeat' first
    | with_reducible refine keep_done hP _ _ ?_
    | with_reducible assumption
    | with_reducible refine keep_onSpindle hP _ _ (fun _ _ => ?_) ?_
    | with_reducible refine keep_startOrder hP _ ?_
    | with_reducible refine Closed.foldl _ _ _ (fun _ _ _ => ?_) ?_
    | split

theorem keep_execFrameReadStart (hP : Closed anyField P) (a : Fin 4) (p : Fin 12) (hard : BitVec 302) (s : State) (hs : P s) :
    ∀ t, exec (.frameReadStart a p hard) s = .next t → P t := by
  have hS := hP.ofAny
  rw [exec_frameReadStart]
  unfold execFrameReadStart
  repeat' first
    | with_reducible refine keep_done hP _ _ ?_
    | with_reducible assumption
    | with_reducible refine keep_frameReadStart hP _ _ _ ?_
    | with_reducible refine keep_onMedia hS _ _ _ (fun _ _ => ?_) ?_
    | with_reducible refine Closed.foldl _ _ _ (fun _ _ _ => ?_) ?_
    | split

theorem keep_execOvr (hP : Closed anyField P) (c : Fin 64) (x : Fin 32) (out : Fin 256) (last : Bool) (s : State) (hs : P s) :
    ∀ t, exec (.ovr c x out last) s = .next t → P t := by
  rw [exec_ovr]
  unfold execOvr
  repeat' first
    | with_reducible refine keep_done hP _ _ ?_
    | with_reducible assumption
    | with_reducible refine keep_engineOp hP _ _ _ _ ?_
    | with_reducible refine Closed.foldl _ _ _ (fun _ _ _ => ?_) ?_
    | split

theorem keep_execSynthLock (hP : Closed anyField P) (l : Fin 48) (s : State) (hs : P s) :
    ∀ t, exec (.synthLock l) s = .next t → P t := by
  have hR := hP.ofAny.ofSettle
  rw [exec_synthLock]
  unfold execSynthLock
  repeat' first
    | with_reducible refine keep_done hP _ _ ?_
    | with_reducible assumption
    | with_reducible refine keep_onBlock hR _ _ _ (fun _ _ => ?_) ?_
    | with_reducible refine keep_synthLock hP _ _ ?_
    | with_reducible refine Closed.foldl _ _ _ (fun _ _ _ => ?_) ?_
    | split

theorem keep_execBlendEnd (hP : Closed bySettle P) (a : Fin 4) (s : State) (hs : P s) :
    ∀ t, exec (.blendEnd a) s = .next t → P t := by
  have hR := hP.ofSettle
  rw [exec_blendEnd]
  unfold execBlendEnd
  repeat' first
    | with_reducible refine keep_done hP _ _ ?_
    | with_reducible assumption
    | with_reducible refine keep_blendEnd hR _ _ ?_
    | with_reducible refine keep_onMedia hP _ _ _ (fun _ _ => ?_) ?_
    | with_reducible refine Closed.foldl _ _ _ (fun _ _ _ => ?_) ?_
    | split

theorem keep_execExtest (hP : Closed anyField P) (s : State) (hs : P s) :
    ∀ t, exec (.extest) s = .next t → P t := by
  rw [exec_extest]
  unfold execExtest
  repeat' first
    | with_reducible refine keep_done hP _ _ ?_
    | with_reducible assumption
    | with_reducible refine keep_tapTo hP _ _ ?_
    | with_reducible refine Closed.foldl _ _ _ (fun _ _ _ => ?_) ?_
    | split

theorem keep_execCommandFetch (hP : Closed anyField P) (e : SqEntry) (s : State) (hs : P s) :
    ∀ t, exec (.commandFetch e) s = .next t → P t := by
  have hS := hP.ofAny
  rw [exec_commandFetch]
  unfold execCommandFetch
  repeat' first
    | with_reducible refine keep_done hP _ _ ?_
    | with_reducible assumption
    | with_reducible refine keep_commandFetch hP _ _ ?_
    | with_reducible refine keep_onHost hS _ _ (fun _ _ => ?_) ?_
    | with_reducible refine Closed.foldl _ _ _ (fun _ _ _ => ?_) ?_
    | split

theorem keep_execWck2dqTracking (hP : Closed byRaise P) (s : State) (hs : P s) :
    ∀ t, exec (.wck2dqTracking) s = .next t → P t := by
  rw [exec_wck2dqTracking]
  unfold execWck2dqTracking
  repeat' first
    | with_reducible refine keep_done hP _ _ ?_
    | with_reducible assumption
    | with_reducible refine keep_onBlock hP _ _ _ (fun _ _ => ?_) ?_
    | with_reducible refine keep_wck2dqTracking hP _ ?_
    | with_reducible refine Closed.foldl _ _ _ (fun _ _ _ => ?_) ?_
    | split

theorem keep_execHlkTrain (hP : Closed anyField P) (a : Fin 4) (s : State) (hs : P s) :
    ∀ t, exec (.hlkTrain a) s = .next t → P t := by
  have hS := hP.ofAny
  rw [exec_hlkTrain]
  unfold execHlkTrain
  repeat' first
    | with_reducible refine keep_done hP _ _ ?_
    | with_reducible assumption
    | with_reducible refine keep_hlkTrain hP _ _ ?_
    | with_reducible refine keep_onMedia hS _ _ _ (fun _ _ => ?_) ?_
    | with_reducible refine Closed.foldl _ _ _ (fun _ _ _ => ?_) ?_
    | split

theorem keep_execMsixUnmask (hP : Closed anyField P) (v : Fin 260) (s : State) (hs : P s) :
    ∀ t, exec (.msixUnmask v) s = .next t → P t := by
  have hS := hP.ofAny
  rw [exec_msixUnmask]
  unfold execMsixUnmask
  repeat' first
    | with_reducible refine keep_done hP _ _ ?_
    | with_reducible assumption
    | with_reducible refine keep_msixUnmask hP _ _ ?_
    | with_reducible refine keep_onPcie hS _ _ (fun _ _ => ?_) ?_
    | with_reducible refine Closed.foldl _ _ _ (fun _ _ _ => ?_) ?_
    | split

theorem keep_execHlkHeartbeatRx (hP : Closed anyField P) (a : Fin 4) (pkt : BitVec 48) (s : State) (hs : P s) :
    ∀ t, exec (.hlkHeartbeatRx a pkt) s = .next t → P t := by
  have hS := hP.ofAny
  rw [exec_hlkHeartbeatRx]
  unfold execHlkHeartbeatRx
  repeat' first
    | with_reducible refine keep_done hP _ _ ?_
    | with_reducible assumption
    | with_reducible refine keep_hlkHeartbeatRx hP _ _ _ ?_
    | with_reducible refine keep_onMedia hS _ _ _ (fun _ _ => ?_) ?_
    | with_reducible refine Closed.foldl _ _ _ (fun _ _ _ => ?_) ?_
    | split

theorem keep_execBoundarySwap (hP : Closed anyField P) (b : ShBlk) (i : Fin 48) (g : Fin 8) (s : State) (hs : P s) :
    ∀ t, exec (.boundarySwap b i g) s = .next t → P t := by
  have hR := hP.ofAny.ofSettle
  rw [exec_boundarySwap]
  unfold execBoundarySwap
  repeat' first
    | with_reducible refine keep_done hP _ _ ?_
    | with_reducible assumption
    | with_reducible refine keep_boundarySwap hP _ _ _ _ ?_
    | with_reducible refine keep_onBlock hR _ _ _ (fun _ _ => ?_) ?_
    | with_reducible refine keep_settleGroup hP _ _ ?_
    | with_reducible refine Closed.foldl _ _ _ (fun _ _ _ => ?_) ?_
    | split

theorem keep_execCreateIoCq (hP : Closed bySettle P) (cid : BitVec 16) (qid : ℕ) (size : ℕ) (iv : ℕ) (ien : Bool) (s : State) (hs : P s) :
    ∀ t, exec (.createIoCq cid qid size iv ien) s = .next t → P t := by
  rw [exec_createIoCq]
  unfold execCreateIoCq
  repeat' first
    | with_reducible refine keep_done hP _ _ ?_
    | with_reducible assumption
    | with_reducible refine keep_adminCmd hP _ _ _ _ (fun _ _ _ => ?_) ?_
    | with_reducible refine keep_createCq hP _ _ _ _ _ _ ?_
    | with_reducible refine Closed.foldl _ _ _ (fun _ _ _ => ?_) ?_
    | split

theorem keep_execLpeRun (hP : Closed anyField P) (run : Bool) (s : State) (hs : P s) :
    ∀ t, exec (.lpeRun run) s = .next t → P t := by
  have hS := hP.ofAny
  rw [exec_lpeRun]
  unfold execLpeRun
  repeat' first
    | with_reducible refine keep_done hP _ _ ?_
    | with_reducible assumption
    | with_reducible refine keep_lpeRun hP _ _ ?_
    | with_reducible refine keep_onMedia hS _ _ _ (fun _ _ => ?_) ?_
    | with_reducible refine Closed.foldl _ _ _ (fun _ _ _ => ?_) ?_
    | split

theorem keep_execJournalWritten (hP : Closed anyField P) (failed : RecordFail) (s : State) (hs : P s) :
    ∀ t, exec (.journalWritten failed) s = .next t → P t := by
  have hS := hP.ofAny
  rw [exec_journalWritten]
  unfold execJournalWritten
  repeat' first
    | with_reducible refine keep_done hP _ _ ?_
    | with_reducible assumption
    | with_reducible refine keep_journalWritten hP _ _ ?_
    | with_reducible refine keep_onMedia hS _ _ _ (fun _ _ => ?_) ?_
    | with_reducible refine Closed.foldl _ _ _ (fun _ _ _ => ?_) ?_
    | split

theorem keep_execDeleteIoCq (hP : Closed bySettle P) (cid : BitVec 16) (qid : ℕ) (s : State) (hs : P s) :
    ∀ t, exec (.deleteIoCq cid qid) s = .next t → P t := by
  rw [exec_deleteIoCq]
  unfold execDeleteIoCq
  repeat' first
    | with_reducible refine keep_done hP _ _ ?_
    | with_reducible assumption
    | with_reducible refine keep_adminCmd hP _ _ _ _ (fun _ _ _ => ?_) ?_
    | with_reducible refine keep_deleteCq hP _ _ _ ?_
    | with_reducible refine Closed.foldl _ _ _ (fun _ _ _ => ?_) ?_
    | split

theorem keep_execMultiwordLowRead (hP : Closed anyField P) (addr : Addr) (s : State) (hs : P s) :
    ∀ t, exec (.multiwordLowRead addr) s = .next t → P t := by
  rw [exec_multiwordLowRead]
  unfold execMultiwordLowRead
  repeat' first
    | with_reducible refine keep_done hP _ _ ?_
    | with_reducible assumption
    | with_reducible refine keep_multiwordLowRead hP _ _ ?_
    | with_reducible refine Closed.foldl _ _ _ (fun _ _ _ => ?_) ?_
    | split

theorem keep_execCompletionReceived (hP : Closed anyField P) (tag : BitVec 10) (st : CplStatus) (last : Bool) (s : State) (hs : P s) :
    ∀ t, exec (.completionReceived tag st last) s = .next t → P t := by
  have hS := hP.ofAny
  rw [exec_completionReceived]
  unfold execCompletionReceived
  repeat' first
    | with_reducible refine keep_done hP _ _ ?_
    | with_reducible assumption
    | with_reducible refine keep_completionReceived hP _ _ _ _ ?_
    | with_reducible refine keep_onPcie hS _ _ (fun _ _ => ?_) ?_
    | with_reducible refine Closed.foldl _ _ _ (fun _ _ _ => ?_) ?_
    | split

theorem keep_execBackgroundFillPage (hP : Closed anyField P) (s : State) (hs : P s) :
    ∀ t, exec (.backgroundFillPage) s = .next t → P t := by
  have hR := hP.ofAny.ofSettle
  rw [exec_backgroundFillPage]
  unfold execBackgroundFillPage
  repeat' first
    | with_reducible refine keep_done hP _ _ ?_
    | with_reducible assumption
    | with_reducible refine keep_backgroundFillPage hP _ ?_
    | with_reducible refine keep_onBlock hR _ _ _ (fun _ _ => ?_) ?_
    | with_reducible refine Closed.foldl _ _ _ (fun _ _ _ => ?_) ?_
    | split

theorem keep_execPwmPeriod (hP : Closed anyField P) (shunt : ShuntReading) (phases : PhaseReading) (vbus : BitVec 12) (obsAngle : ℕ) (obsSpeed : ℤ) (loopErr : ℕ) (emf : ℕ) (s : State) (hs : P s) :
    ∀ t, exec (.pwmPeriod shunt phases vbus obsAngle obsSpeed loopErr emf) s = .next t → P t := by
  have hS := hP.ofAny
  rw [exec_pwmPeriod]
  unfold execPwmPeriod
  repeat' first
    | with_reducible refine keep_done hP _ _ ?_
    | with_reducible assumption
    | with_reducible refine keep_onSpinTick hS _ _ (fun _ _ => ?_) ?_
    | with_reducible refine keep_pwmPeriod hP _ _ _ _ _ _ _ _ ?_
    | with_reducible refine Closed.foldl _ _ _ (fun _ _ _ => ?_) ?_
    | split

theorem keep_execFwOverrideRelease (hP : Closed anyField P) (o : Fin 256) (s : State) (hs : P s) :
    ∀ t, exec (.fwOverrideRelease o) s = .next t → P t := by
  have hR := hP.ofAny.ofSettle
  rw [exec_fwOverrideRelease]
  unfold execFwOverrideRelease
  repeat' first
    | with_reducible refine keep_done hP _ _ ?_
    | with_reducible assumption
    | with_reducible refine keep_fwOverrideRelease hP _ _ ?_
    | with_reducible refine keep_onBlock hR _ _ _ (fun _ _ => ?_) ?_
    | with_reducible refine Closed.foldl _ _ _ (fun _ _ _ => ?_) ?_
    | split

theorem keep_execRetireGo (hP : Closed anyField P) (v : Word) (s : State) (hs : P s) :
    ∀ t, exec (.retireGo v) s = .next t → P t := by
  have hR := hP.ofAny.ofSettle
  rw [exec_retireGo]
  unfold execRetireGo
  repeat' first
    | with_reducible refine keep_done hP _ _ ?_
    | with_reducible assumption
    | with_reducible refine keep_onBlock hR _ _ _ (fun _ _ => ?_) ?_
    | with_reducible refine keep_retireGo hP _ _ ?_
    | with_reducible refine Closed.foldl _ _ _ (fun _ _ _ => ?_) ?_
    | split

theorem keep_execStatus (hP : Closed anyField P) (addr : BitVec 7) (m : StatusMsg) (s : State) (hs : P s) :
    ∀ t, exec (.status addr m) s = .next t → P t := by
  have hS := hP.ofAny
  rw [exec_status]
  unfold execStatus
  repeat' first
    | with_reducible refine keep_done hP _ _ ?_
    | with_reducible assumption
    | with_reducible refine keep_onClaik hS _ _ (fun _ _ => ?_) ?_
    | with_reducible refine keep_status hP _ _ _ ?_
    | with_reducible refine Closed.foldl _ _ _ (fun _ _ _ => ?_) ?_
    | split

theorem keep_execCqHeadDoorbell (hP : Closed anyField P) (y : ℕ) (v : Word) (s : State) (hs : P s) :
    ∀ t, exec (.cqHeadDoorbell y v) s = .next t → P t := by
  have hS := hP.ofAny
  rw [exec_cqHeadDoorbell]
  unfold execCqHeadDoorbell
  repeat' first
    | with_reducible refine keep_done hP _ _ ?_
    | with_reducible assumption
    | with_reducible refine keep_barrier hS _ ?_
    | with_reducible refine keep_cqHead hP _ _ _ ?_
    | with_reducible refine keep_onHost hS _ _ (fun _ _ => ?_) ?_
    | with_reducible refine Closed.foldl _ _ _ (fun _ _ _ => ?_) ?_
    | split

theorem keep_execMgrRun (hP : Closed anyField P) (run : Bool) (nzw : ℕ) (zsw : ℕ) (s : State) (hs : P s) :
    ∀ t, exec (.mgrRun run nzw zsw) s = .next t → P t := by
  have hS := hP.ofAny
  rw [exec_mgrRun]
  unfold execMgrRun
  repeat' first
    | with_reducible refine keep_done hP _ _ ?_
    | with_reducible assumption
    | with_reducible refine keep_mgrRun hP _ _ _ _ ?_
    | with_reducible refine keep_onClaik hS _ _ (fun _ _ => ?_) ?_
    | with_reducible refine Closed.foldl _ _ _ (fun _ _ _ => ?_) ?_
    | split

theorem keep_execSig (hP : Closed anyField P) (c : Fin 64) (target : Fin 64) (last : Bool) (s : State) (hs : P s) :
    ∀ t, exec (.sig c target last) s = .next t → P t := by
  rw [exec_sig]
  unfold execSig
  repeat' first
    | with_reducible refine keep_done hP _ _ ?_
    | with_reducible assumption
    | with_reducible refine keep_engineOp hP _ _ _ _ ?_
    | with_reducible refine Closed.foldl _ _ _ (fun _ _ _ => ?_) ?_
    | split

theorem keep_execFirmwareImageDownload (hP : Closed anyField P) (cid : BitVec 16) (off : ℕ) (len : ℕ) (s : State) (hs : P s) :
    ∀ t, exec (.firmwareImageDownload cid off len) s = .next t → P t := by
  have hS := hP.ofAny
  rw [exec_firmwareImageDownload]
  unfold execFirmwareImageDownload
  repeat' first
    | with_reducible refine keep_done hP _ _ ?_
    | with_reducible assumption
    | with_reducible refine keep_adminCmd hS _ _ _ _ (fun _ _ _ => ?_) ?_
    | with_reducible refine keep_imageDownload hP _ _ _ _ ?_
    | with_reducible refine Closed.foldl _ _ _ (fun _ _ _ => ?_) ?_
    | split

theorem keep_execStg (hP : Closed anyField P) (c : Fin 64) (ls : Fin 2) (x : Fin 32) (b : Fin 8) (off : BitVec 9) (last : Bool) (s : State) (hs : P s) :
    ∀ t, exec (.stg c ls x b off last) s = .next t → P t := by
  rw [exec_stg]
  unfold execStg
  repeat' first
    | with_reducible refine keep_done hP _ _ ?_
    | with_reducible assumption
    | with_reducible refine keep_engineOp hP _ _ _ _ ?_
    | with_reducible refine Closed.foldl _ _ _ (fun _ _ _ => ?_) ?_
    | split

theorem keep_execVcmOcTest (hP : Closed anyField P) (a : Fin 4) (pass : Bool) (s : State) (hs : P s) :
    ∀ t, exec (.vcmOcTest a pass) s = .next t → P t := by
  have hS := hP.ofAny
  rw [exec_vcmOcTest]
  unfold execVcmOcTest
  repeat' first
    | with_reducible refine keep_done hP _ _ ?_
    | with_reducible assumption
    | with_reducible refine keep_onRetract hS _ _ (fun _ _ => ?_) ?_
    | with_reducible refine keep_vcmOcTest hP _ _ _ ?_
    | with_reducible refine Closed.foldl _ _ _ (fun _ _ _ => ?_) ?_
    | split

theorem keep_execSpinWaitExpiry (hP : Closed anyField P) (sqid : ℕ) (cid : BitVec 16) (s : State) (hs : P s) :
    ∀ t, exec (.spinWaitExpiry sqid cid) s = .next t → P t := by
  have hS := hP.ofAny
  rw [exec_spinWaitExpiry]
  unfold execSpinWaitExpiry
  repeat' first
    | with_reducible refine keep_done hP _ _ ?_
    | with_reducible assumption
    | with_reducible refine keep_onHost hS _ _ (fun _ _ => ?_) ?_
    | with_reducible refine keep_spinWaitExpiry hP _ _ _ ?_
    | with_reducible refine Closed.foldl _ _ _ (fun _ _ _ => ?_) ?_
    | split

theorem keep_execPsuspClear (hP : Closed anyField P) (s : State) (hs : P s) :
    ∀ t, exec (.psuspClear) s = .next t → P t := by
  have hS := hP.ofAny
  rw [exec_psuspClear]
  unfold execPsuspClear
  repeat' first
    | with_reducible refine keep_done hP _ _ ?_
    | with_reducible assumption
    | with_reducible refine keep_onSpindle hS _ _ (fun _ _ => ?_) ?_
    | with_reducible refine keep_psuspClear hP _ ?_
    | with_reducible refine Closed.foldl _ _ _ (fun _ _ _ => ?_) ?_
    | split

theorem keep_execSysWrite (hP : Closed bySettle P) (surface : Fin 24) (track : BitVec 21) (slot : BitVec 8) (mtag : BitVec 24) (s : State) (hs : P s) :
    ∀ t, exec (.sysWrite surface track slot mtag) s = .next t → P t := by
  have hR := hP.ofSettle
  rw [exec_sysWrite]
  unfold execSysWrite
  repeat' first
    | with_reducible refine keep_done hP _ _ ?_
    | with_reducible assumption
    | with_reducible refine keep_onDrive hR _ _ (fun _ _ => ?_) ?_
    | with_reducible refine keep_onMedia hP _ _ _ (fun _ _ => ?_) ?_
    | with_reducible refine keep_sysOp hP _ _ _ _ _ _ _ ?_
    | with_reducible refine Closed.foldl _ _ _ (fun _ _ _ => ?_) ?_
    | split

theorem keep_execEgressFreeze (hP : Closed bySettle P) (s : State) (hs : P s) :
    ∀ t, exec (.egressFreeze) s = .next t → P t := by
  have hR := hP.ofSettle
  rw [exec_egressFreeze]
  unfold execEgressFreeze
  repeat' first
    | with_reducible refine keep_done hP _ _ ?_
    | with_reducible assumption
    | with_reducible refine keep_egressFreeze hR _ ?_
    | with_reducible refine keep_onPcie hP _ _ (fun _ _ => ?_) ?_
    | with_reducible refine Closed.foldl _ _ _ (fun _ _ _ => ?_) ?_
    | split

theorem keep_execLaneStateRequest (hP : Closed anyField P) (l : Fin 48) (req : Fin 4) (s : State) (hs : P s) :
    ∀ t, exec (.laneStateRequest l req) s = .next t → P t := by
  have hS := hP.ofAny
  rw [exec_laneStateRequest]
  unfold execLaneStateRequest
  repeat' first
    | with_reducible refine keep_done hP _ _ ?_
    | with_reducible assumption
    | with_reducible refine keep_laneRequest hP _ _ _ ?_
    | with_reducible refine keep_onMedia hS _ _ _ (fun _ _ => ?_) ?_
    | with_reducible refine Closed.foldl _ _ _ (fun _ _ _ => ?_) ?_
    | split

theorem keep_execWr (hP : Closed anyField P) (c : Fin 64) (slot : Fin 4) (a : Fin 32) (b : Fin 32) (q : Fin 4) (last : Bool) (s : State) (hs : P s) :
    ∀ t, exec (.wr c slot a b q last) s = .next t → P t := by
  rw [exec_wr]
  unfold execWr
  repeat' first
    | with_reducible refine keep_done hP _ _ ?_
    | with_reducible assumption
    | with_reducible refine keep_engineOp hP _ _ _ _ ?_
    | with_reducible refine Closed.foldl _ _ _ (fun _ _ _ => ?_) ?_
    | split

theorem keep_execVddAonLow (hP : Closed anyField P) (s : State) (hs : P s) :
    ∀ t, exec (.vddAonLow) s = .next t → P t := by
  rw [exec_vddAonLow]
  unfold execVddAonLow
  repeat' first
    | with_reducible refine keep_done hP _ _ ?_
    | with_reducible assumption
    | with_reducible refine keep_vddAonLow hP _ ?_
    | with_reducible refine Closed.foldl _ _ _ (fun _ _ _ => ?_) ?_
    | split

theorem keep_execPilotHandover (hP : Closed bySettle P) (s : State) (hs : P s) :
    ∀ t, exec (.pilotHandover) s = .next t → P t := by
  have hR := hP.ofSettle
  rw [exec_pilotHandover]
  unfold execPilotHandover
  repeat' first
    | with_reducible refine keep_done hP _ _ ?_
    | with_reducible assumption
    | with_reducible refine keep_onSpindle hP _ _ (fun _ _ => ?_) ?_
    | with_reducible refine keep_pilotHandover hR _ ?_
    | with_reducible refine Closed.foldl _ _ _ (fun _ _ _ => ?_) ?_
    | split

theorem keep_execAngleClockCycle (hP : Closed anyField P) (p : ℤ × ℤ) (s : State) (hs : P s) :
    ∀ t, exec (.angleClockCycle p) s = .next t → P t := by
  rw [exec_angleClockCycle]
  unfold execAngleClockCycle
  repeat' first
    | with_reducible refine keep_done hP _ _ ?_
    | with_reducible assumption
    | with_reducible refine keep_angleCycle hP _ _ _ ?_
    | with_reducible rfl
    | with_reducible exact List.prefix_rfl
    | with_reducible exact le_rfl
    | with_reducible exact fun h => h
    | exact fun h => Memory.wf_writeList _ _ h
    | exact Nat.le_add_right _ _
    | with_reducible exact List.prefix_append _ _
    | with_reducible refine Closed.foldl _ _ _ (fun _ _ _ => ?_) ?_
    | split
    | with_reducible refine hP.build _ ?_ ?_ ?_ ?_

theorem keep_execBnrDat7Read (hP : Closed anyField P) (s : State) (hs : P s) :
    ∀ t, exec (.bnrDat7Read) s = .next t → P t := by
  rw [exec_bnrDat7Read]
  unfold execBnrDat7Read
  repeat' first
    | with_reducible refine keep_done hP _ _ ?_
    | with_reducible assumption
    | with_reducible refine keep_bnrDat7Read hP _ ?_
    | with_reducible refine Closed.foldl _ _ _ (fun _ _ _ => ?_) ?_
    | split

theorem keep_execRingEdgeTimeout (hP : Closed anyField P) (l : Fin 48) (s : State) (hs : P s) :
    ∀ t, exec (.ringEdgeTimeout l) s = .next t → P t := by
  have hR := hP.ofAny.ofSettle
  rw [exec_ringEdgeTimeout]
  unfold execRingEdgeTimeout
  repeat' first
    | with_reducible refine keep_done hP _ _ ?_
    | with_reducible assumption
    | with_reducible refine keep_onBlock hR _ _ _ (fun _ _ => ?_) ?_
    | with_reducible refine keep_ringEdgeTimeout hP _ _ ?_
    | with_reducible refine Closed.foldl _ _ _ (fun _ _ _ => ?_) ?_
    | split

theorem keep_execFmtStoreWrite (hP : Closed bySettle P) (_addr : Addr) (_v : Word) (s : State) (hs : P s) :
    ∀ t, exec (.fmtStoreWrite _addr _v) s = .next t → P t := by
  have hR := hP.ofSettle
  rw [exec_fmtStoreWrite]
  unfold execFmtStoreWrite
  repeat' first
    | with_reducible refine keep_done hP _ _ ?_
    | with_reducible assumption
    | with_reducible refine keep_fmtStoreWrite hR _ ?_
    | with_reducible refine keep_onMedia hP _ _ _ (fun _ _ => ?_) ?_
    | with_reducible refine Closed.foldl _ _ _ (fun _ _ _ => ?_) ?_
    | split

theorem keep_execRbldHold (hP : Closed anyField P) (hold : Bool) (s : State) (hs : P s) :
    ∀ t, exec (.rbldHold hold) s = .next t → P t := by
  have hS := hP.ofAny
  rw [exec_rbldHold]
  unfold execRbldHold
  repeat' first
    | with_reducible refine keep_done hP _ _ ?_
    | with_reducible assumption
    | with_reducible refine keep_onMedia hS _ _ _ (fun _ _ => ?_) ?_
    | with_reducible refine keep_rbldHold hP _ _ ?_
    | with_reducible refine Closed.foldl _ _ _ (fun _ _ _ => ?_) ?_
    | split

theorem keep_execFrameWriteEnd (hP : Closed anyField P) (l : Fin 48) (s : State) (hs : P s) :
    ∀ t, exec (.frameWriteEnd l) s = .next t → P t := by
  have hS := hP.ofAny
  rw [exec_frameWriteEnd]
  unfold execFrameWriteEnd
  repeat' first
    | with_reducible refine keep_done hP _ _ ?_
    | with_reducible assumption
    | with_reducible refine keep_frameWriteEnd hP _ _ ?_
    | with_reducible refine keep_onMedia hS _ _ _ (fun _ _ => ?_) ?_
    | with_reducible refine Closed.foldl _ _ _ (fun _ _ _ => ?_) ?_
    | split

theorem keep_execBusOvervoltage (hP : Closed anyField P) (s : State) (hs : P s) :
    ∀ t, exec (.busOvervoltage) s = .next t → P t := by
  have hS := hP.ofAny
  rw [exec_busOvervoltage]
  unfold execBusOvervoltage
  repeat' first
    | with_reducible refine keep_done hP _ _ ?_
    | with_reducible assumption
    | with_reducible refine keep_busOvervoltage hP _ ?_
    | with_reducible refine keep_onSpindle hS _ _ (fun _ _ => ?_) ?_
    | with_reducible refine Closed.foldl _ _ _ (fun _ _ _ => ?_) ?_
    | split

theorem keep_execJournalInterval (hP : Closed bySettle P) (s : State) (hs : P s) :
    ∀ t, exec (.journalInterval) s = .next t → P t := by
  rw [exec_journalInterval]
  unfold execJournalInterval
  repeat' first
    | with_reducible refine keep_done hP _ _ ?_
    | with_reducible assumption
    | with_reducible refine keep_journalInterval hP _ ?_
    | with_reducible refine keep_onMedia hP _ _ _ (fun _ _ => ?_) ?_
    | with_reducible refine Closed.foldl _ _ _ (fun _ _ _ => ?_) ?_
    | split

theorem keep_execFwstat (hP : Closed anyField P) (addr : BitVec 7) (missing : List ℕ) (verified : Bool) (s : State) (hs : P s) :
    ∀ t, exec (.fwstat addr missing verified) s = .next t → P t := by
  have hS := hP.ofAny
  rw [exec_fwstat]
  unfold execFwstat
  repeat' first
    | with_reducible refine keep_done hP _ _ ?_
    | with_reducible assumption
    | with_reducible refine keep_fwstat hP _ _ _ _ ?_
    | with_reducible refine keep_onClaik hS _ _ (fun _ _ => ?_) ?_
    | with_reducible refine Closed.foldl _ _ _ (fun _ _ _ => ?_) ?_
    | split

theorem keep_execSetx (hP : Closed anyField P) (c : Fin 64) (x : Fin 32) (v : BitVec 13) (last : Bool) (s : State) (hs : P s) :
    ∀ t, exec (.setx c x v last) s = .next t → P t := by
  rw [exec_setx]
  unfold execSetx
  repeat' first
    | with_reducible refine keep_done hP _ _ ?_
    | with_reducible assumption
    | with_reducible refine keep_engineOp hP _ _ _ _ ?_
    | with_reducible refine Closed.foldl _ _ _ (fun _ _ _ => ?_) ?_
    | split

theorem keep_execSpeedTargetWrite (hP : Closed anyField P) (v : BitVec 16) (s : State) (hs : P s) :
    ∀ t, exec (.speedTargetWrite v) s = .next t → P t := by
  have hR := hP.ofAny.ofSettle
  rw [exec_speedTargetWrite]
  unfold execSpeedTargetWrite
  repeat' first
    | with_reducible refine keep_done hP _ _ ?_
    | with_reducible assumption
    | with_reducible refine keep_onBlock hR _ _ _ (fun _ _ => ?_) ?_
    | with_reducible refine keep_speedTargetWrite hP _ _ ?_
    | with_reducible refine Closed.foldl _ _ _ (fun _ _ _ => ?_) ?_
    | split

theorem keep_execFrontierWrite (hP : Closed bySettle P) (zone : ℕ) (s : State) (hs : P s) :
    ∀ t, exec (.frontierWrite zone) s = .next t → P t := by
  rw [exec_frontierWrite]
  unfold execFrontierWrite
  repeat' first
    | with_reducible refine keep_done hP _ _ ?_
    | with_reducible assumption
    | with_reducible refine keep_onMedia hP _ _ _ (fun _ _ => ?_) ?_
    | with_reducible refine keep_tryFrontier hP _ _ ?_
    | with_reducible refine Closed.foldl _ _ _ (fun _ _ _ => ?_) ?_
    | split

theorem keep_execVendorDoorbell (hP : Closed anyField P) (off : ℕ) (_v : Word) (s : State) (hs : P s) :
    ∀ t, exec (.vendorDoorbell off _v) s = .next t → P t := by
  have hS := hP.ofAny
  rw [exec_vendorDoorbell]
  unfold execVendorDoorbell
  repeat' first
    | with_reducible refine keep_done hP _ _ ?_
    | with_reducible assumption
    | with_reducible refine keep_onHost hS _ _ (fun _ _ => ?_) ?_
    | with_reducible refine keep_vendorDoorbell hP _ _ ?_
    | with_reducible refine Closed.foldl _ _ _ (fun _ _ _ => ?_) ?_
    | split

theorem keep_execSpnPark (hP : Closed bySettle P) (s : State) (hs : P s) :
    ∀ t, exec (.spnPark) s = .next t → P t := by
  have hR := hP.ofSettle
  rw [exec_spnPark]
  unfold execSpnPark
  repeat' first
    | with_reducible refine keep_done hP _ _ ?_
    | with_reducible assumption
    | with_reducible refine keep_onSpindle hP _ _ (fun _ _ => ?_) ?_
    | with_reducible refine keep_spnPark hR _ ?_
    | with_reducible refine Closed.foldl _ _ _ (fun _ _ _ => ?_) ?_
    | split

theorem keep_execLoadDataReturn (hP : Closed anyField P) (c : Fin 64) (s : State) (hs : P s) :
    ∀ t, exec (.loadDataReturn c) s = .next t → P t := by
  have hR := hP.ofAny.ofSettle
  rw [exec_loadDataReturn]
  unfold execLoadDataReturn
  repeat' first
    | with_reducible refine keep_done hP _ _ ?_
    | with_reducible assumption
    | with_reducible refine keep_engineRead hP _ _ ?_
    | with_reducible refine keep_loadDataReturn hP _ _ _ (fun _ _ _ => ?_) ?_
    | with_reducible refine keep_onBlock hR _ _ _ (fun _ _ => ?_) ?_
    | with_reducible refine Closed.foldl _ _ _ (fun _ _ _ => ?_) ?_
    | split

theorem keep_execSrvMemdatWrite (hP : Closed anyField P) (a : Fin 4) (v : Word) (s : State) (hs : P s) :
    ∀ t, exec (.srvMemdatWrite a v) s = .next t → P t := by
  have hR := hP.ofAny.ofSettle
  rw [exec_srvMemdatWrite]
  unfold execSrvMemdatWrite
  repeat' first
    | with_reducible refine keep_done hP _ _ ?_
    | with_reducible assumption
    | with_reducible refine keep_onBlock hR _ _ _ (fun _ _ => ?_) ?_
    | with_reducible refine keep_srvMemdatWrite hP _ _ _ ?_
    | with_reducible refine Closed.foldl _ _ _ (fun _ _ _ => ?_) ?_
    | split

theorem keep_execDefectFlagRelease (hP : Closed anyField P) (b : LaneSamples) (ta : Bool) (s : State) (hs : P s) :
    ∀ t, exec (.defectFlagRelease b ta) s = .next t → P t := by
  have hR := hP.ofAny.ofSettle
  rw [exec_defectFlagRelease]
  unfold execDefectFlagRelease
  repeat' first
    | with_reducible refine keep_done hP _ _ ?_
    | with_reducible assumption
    | with_reducible refine keep_defectRelease hP _ _ _ _ ?_
    | with_reducible refine keep_onBlock hR _ _ _ (fun _ _ => ?_) ?_
    | with_reducible refine Closed.foldl _ _ _ (fun _ _ _ => ?_) ?_
    | split

theorem keep_execSetZoneDescriptorExtension (hP : Closed bySettle P) (sqid : ℕ) (cid : BitVec 16) (_zone : ℕ) (s : State) (hs : P s) :
    ∀ t, exec (.setZoneDescriptorExtension sqid cid _zone) s = .next t → P t := by
  have hR := hP.ofSettle
  rw [exec_setZoneDescriptorExtension]
  unfold execSetZoneDescriptorExtension
  repeat' first
    | with_reducible refine keep_done hP _ _ ?_
    | with_reducible assumption
    | with_reducible refine keep_finish hP _ _ _ ?_
    | with_reducible refine keep_onHost hP _ _ (fun _ _ => ?_) ?_
    | with_reducible refine keep_withCmd hR _ _ _ _ _ (fun _ _ _ => ?_) ?_
    | with_reducible refine Closed.foldl _ _ _ (fun _ _ _ => ?_) ?_
    | split

theorem keep_execIdcode (hP : Closed anyField P) (s : State) (hs : P s) :
    ∀ t, exec (.idcode) s = .next t → P t := by
  rw [exec_idcode]
  unfold execIdcode
  repeat' first
    | with_reducible refine keep_done hP _ _ ?_
    | with_reducible assumption
    | with_reducible refine keep_tapIdcode hP _ ?_
    | with_reducible refine Closed.foldl _ _ _ (fun _ _ _ => ?_) ?_
    | split

theorem keep_execReacqAttemptEnd (hP : Closed anyField P) (found : Option Crossings) (s : State) (hs : P s) :
    ∀ t, exec (.reacqAttemptEnd found) s = .next t → P t := by
  have hS := hP.ofAny
  rw [exec_reacqAttemptEnd]
  unfold execReacqAttemptEnd
  repeat' first
    | with_reducible refine keep_done hP _ _ ?_
    | with_reducible assumption
    | with_reducible refine keep_onSpindle hS _ _ (fun _ _ => ?_) ?_
    | with_reducible refine keep_reacqAttemptEnd hP _ _ ?_
    | with_reducible refine Closed.foldl _ _ _ (fun _ _ _ => ?_) ?_
    | split

theorem keep_execRingCycleEdge (hP : Closed anyField P) (l : Fin 48) (err : ℤ) (s : State) (hs : P s) :
    ∀ t, exec (.ringCycleEdge l err) s = .next t → P t := by
  have hR := hP.ofAny.ofSettle
  rw [exec_ringCycleEdge]
  unfold execRingCycleEdge
  repeat' first
    | with_reducible refine keep_done hP _ _ ?_
    | with_reducible assumption
    | with_reducible refine keep_onBlock hR _ _ _ (fun _ _ => ?_) ?_
    | with_reducible refine keep_ringCycleEdge hP _ _ _ ?_
    | with_reducible refine Closed.foldl _ _ _ (fun _ _ _ => ?_) ?_
    | split

theorem keep_execPatrol (hP : Closed bySettle P) (zone : ℕ) (row : ℕ) (pos : ℕ) (mtag : BitVec 24) (s : State) (hs : P s) :
    ∀ t, exec (.patrol zone row pos mtag) s = .next t → P t := by
  have hR := hP.ofSettle
  rw [exec_patrol]
  unfold execPatrol
  repeat' first
    | with_reducible refine keep_done hP _ _ ?_
    | with_reducible assumption
    | with_reducible refine keep_onDrive hR _ _ (fun _ _ => ?_) ?_
    | with_reducible refine keep_onMedia hP _ _ _ (fun _ _ => ?_) ?_
    | with_reducible refine keep_patrolRead hP _ _ _ _ _ ?_
    | with_reducible refine Closed.foldl _ _ _ (fun _ _ _ => ?_) ?_
    | split

theorem keep_execWatchdogExpiry (hP : Closed bySettle P) (m : Fin 4) (s : State) (hs : P s) :
    ∀ t, exec (.watchdogExpiry m) s = .next t → P t := by
  have hR := hP.ofSettle
  rw [exec_watchdogExpiry]
  unfold execWatchdogExpiry
  repeat' first
    | with_reducible refine keep_done hP _ _ ?_
    | with_reducible assumption
    | with_reducible refine keep_onCollector hP _ _ (fun _ _ => ?_) ?_
    | with_reducible refine keep_watchdog hR _ _ ?_
    | with_reducible refine Closed.foldl _ _ _ (fun _ _ _ => ?_) ?_
    | split

theorem keep_execStampLoRead (hP : Closed byRaise P) (s : State) (hs : P s) :
    ∀ t, exec (.stampLoRead) s = .next t → P t := by
  rw [exec_stampLoRead]
  unfold execStampLoRead
  repeat' first
    | with_reducible refine keep_done hP _ _ ?_
    | with_reducible assumption
    | with_reducible refine keep_readOn hP _ _ _ (fun _ _ => ?_) ?_
    | with_reducible refine keep_stampLoRead hP _ ?_
    | with_reducible refine Closed.foldl _ _ _ (fun _ _ _ => ?_) ?_
    | split

theorem keep_execFrameOpIssue (hP : Closed anyField P) (head : Fin 48) (s : State) (hs : P s) :
    ∀ t, exec (.frameOpIssue head) s = .next t → P t := by
  have hS := hP.ofAny
  have hR := hP.ofAny.ofSettle
  rw [exec_frameOpIssue]
  unfold execFrameOpIssue
  repeat' first
    | with_reducible refine keep_done hP _ _ ?_
    | with_reducible assumption
    | with_reducible refine keep_frameOpIssue hP _ _ ?_
    | with_reducible refine keep_onDrive hR _ _ (fun _ _ => ?_) ?_
    | with_reducible refine keep_onMedia hS _ _ _ (fun _ _ => ?_) ?_
    | with_reducible refine Closed.foldl _ _ _ (fun _ _ _ => ?_) ?_
    | split

theorem keep_execHlkEnable (hP : Closed anyField P) (a : Fin 4) (s : State) (hs : P s) :
    ∀ t, exec (.hlkEnable a) s = .next t → P t := by
  have hS := hP.ofAny
  rw [exec_hlkEnable]
  unfold execHlkEnable
  repeat' first
    | with_reducible refine keep_done hP _ _ ?_
    | with_reducible assumption
    | with_reducible refine keep_hlkEnable hP _ _ ?_
    | with_reducible refine keep_onMedia hS _ _ _ (fun _ _ => ?_) ?_
    | with_reducible refine Closed.foldl _ _ _ (fun _ _ _ => ?_) ?_
    | split

theorem keep_execVcmSensePairExchanged (hP : Closed bySettle P) (a : Fin 4) (s : State) (hs : P s) :
    ∀ t, exec (.vcmSensePairExchanged a) s = .next t → P t := by
  have hR := hP.ofSettle
  rw [exec_vcmSensePairExchanged]
  unfold execVcmSensePairExchanged
  repeat' first
    | with_reducible refine keep_done hP _ _ ?_
    | with_reducible assumption
    | with_reducible refine keep_onMedia hP _ _ _ (fun _ _ => ?_) ?_
    | with_reducible refine keep_vcmSensePair hR _ _ ?_
    | with_reducible refine Closed.foldl _ _ _ (fun _ _ _ => ?_) ?_
    | split

theorem keep_execMgrDiscover (hP : Closed anyField P) (seed : Byte) (s : State) (hs : P s) :
    ∀ t, exec (.mgrDiscover seed) s = .next t → P t := by
  have hS := hP.ofAny
  rw [exec_mgrDiscover]
  unfold execMgrDiscover
  repeat' first
    | with_reducible refine keep_done hP _ _ ?_
    | with_reducible assumption
    | with_reducible refine keep_mgrDiscover hP _ _ ?_
    | with_reducible refine keep_onClaik hS _ _ (fun _ _ => ?_) ?_
    | with_reducible refine Closed.foldl _ _ _ (fun _ _ _ => ?_) ?_
    | split

theorem keep_execFwOverrideSet (hP : Closed anyField P) (o : Fin 256) (v : Word) (s : State) (hs : P s) :
    ∀ t, exec (.fwOverrideSet o v) s = .next t → P t := by
  have hR := hP.ofAny.ofSettle
  rw [exec_fwOverrideSet]
  unfold execFwOverrideSet
  repeat' first
    | with_reducible refine keep_done hP _ _ ?_
    | with_reducible assumption
    | with_reducible refine keep_fwOverrideSet hP _ _ _ ?_
    | with_reducible refine keep_onBlock hR _ _ _ (fun _ _ => ?_) ?_
    | with_reducible refine Closed.foldl _ _ _ (fun _ _ _ => ?_) ?_
    | split

theorem keep_execCcDisable (hP : Closed anyField P) (s : State) (hs : P s) :
    ∀ t, exec (.ccDisable) s = .next t → P t := by
  have hS := hP.ofAny
  rw [exec_ccDisable]
  unfold execCcDisable
  repeat' first
    | with_reducible refine keep_done hP _ _ ?_
    | with_reducible assumption
    | with_reducible refine keep_ccDisable hP _ ?_
    | with_reducible refine keep_onHost hS _ _ (fun _ _ => ?_) ?_
    | with_reducible refine Closed.foldl _ _ _ (fun _ _ _ => ?_) ?_
    | split

theorem keep_execPerstAssert (hP : Closed anyField P) (s : State) (hs : P s) :
    ∀ t, exec (.perstAssert) s = .next t → P t := by
  have hS := hP.ofAny
  rw [exec_perstAssert]
  unfold execPerstAssert
  repeat' first
    | with_reducible refine keep_done hP _ _ ?_
    | with_reducible assumption
    | with_reducible refine hP.set _ _ _ _ rfl ?_
    | with_reducible refine keep_onPcie hS _ _ (fun _ _ => ?_) ?_
    | with_reducible refine keep_perstAssert hP _ ?_
    | with_reducible refine Closed.foldl _ _ _ (fun _ _ _ => ?_) ?_
    | split

theorem keep_execHarvestTimer (hP : Closed anyField P) (s : State) (hs : P s) :
    ∀ t, exec (.harvestTimer) s = .next t → P t := by
  have hS := hP.ofAny
  rw [exec_harvestTimer]
  unfold execHarvestTimer
  repeat' first
    | with_reducible refine keep_done hP _ _ ?_
    | with_reducible assumption
    | with_reducible refine keep_harvestTimer hP _ ?_
    | with_reducible refine keep_onClaik hS _ _ (fun _ _ => ?_) ?_
    | with_reducible refine Closed.foldl _ _ _ (fun _ _ _ => ?_) ?_
    | split

theorem keep_execPscap (hP : Closed anyField P) (addr : BitVec 7) (seq : BitVec 4) (ps : BitVec 3) (s : State) (hs : P s) :
    ∀ t, exec (.pscap addr seq ps) s = .next t → P t := by
  have hS := hP.ofAny
  rw [exec_pscap]
  unfold execPscap
  repeat' first
    | with_reducible refine keep_done hP _ _ ?_
    | with_reducible assumption
    | with_reducible refine keep_onOrder hS _ _ (fun _ _ => ?_) ?_
    | with_reducible refine keep_order hP _ _ _ _ _ (fun _ _ => ?_) ?_
    | with_reducible refine keep_orderPscap hP _ _ ?_
    | with_reducible refine Closed.foldl _ _ _ (fun _ _ _ => ?_) ?_
    | split

theorem keep_execBrn (hP : Closed anyField P) (c : Fin 64) (cond : Cond) (target : BitVec 16) (last : Bool) (s : State) (hs : P s) :
    ∀ t, exec (.brn c cond target last) s = .next t → P t := by
  rw [exec_brn]
  unfold execBrn
  repeat' first
    | with_reducible refine keep_done hP _ _ ?_
    | with_reducible assumption
    | with_reducible refine keep_engineOp hP _ _ _ _ ?_
    | with_reducible refine Closed.foldl _ _ _ (fun _ _ _ => ?_) ?_
    | split

theorem keep_execLoadRequest (hP : Closed anyField P) (a : Fin 4) (s : State) (hs : P s) :
    ∀ t, exec (.loadRequest a) s = .next t → P t := by
  have hS := hP.ofAny
  rw [exec_loadRequest]
  unfold execLoadRequest
  repeat' first
    | with_reducible refine keep_done hP _ _ ?_
    | with_reducible assumption
    | with_reducible refine keep_loadRequest hP _ _ ?_
    | with_reducible refine keep_onMedia hS _ _ _ (fun _ _ => ?_) ?_
    | with_reducible refine Closed.foldl _ _ _ (fun _ _ _ => ?_) ?_
    | split

theorem keep_execSillageStop (hP : Closed byRaise P) (u : Fin 8) (s : State) (hs : P s) :
    ∀ t, exec (.sillageStop u) s = .next t → P t := by
  rw [exec_sillageStop]
  unfold execSillageStop
  repeat' first
    | with_reducible refine keep_done hP _ _ ?_
    | with_reducible assumption
    | with_reducible refine keep_onBlock hP _ _ _ (fun _ _ => ?_) ?_
    | with_reducible refine keep_sillageStop hP _ _ ?_
    | with_reducible refine Closed.foldl _ _ _ (fun _ _ _ => ?_) ?_
    | split

theorem keep_execSramFillDone (hP : Closed anyField P) (s : State) (hs : P s) :
    ∀ t, exec (.sramFillDone) s = .next t → P t := by
  have hR := hP.ofAny.ofSettle
  rw [exec_sramFillDone]
  unfold execSramFillDone
  repeat' first
    | with_reducible refine keep_done hP _ _ ?_
    | with_reducible assumption
    | with_reducible refine keep_onBlock hR _ _ _ (fun _ _ => ?_) ?_
    | with_reducible refine keep_sramFillDone hP _ ?_
    | with_reducible refine Closed.foldl _ _ _ (fun _ _ _ => ?_) ?_
    | split

theorem keep_execNumberOfQueues (hP : Closed anyField P) (cid : BitVec 16) (nsq : BitVec 16) (ncq : BitVec 16) (s : State) (hs : P s) :
    ∀ t, exec (.numberOfQueues cid nsq ncq) s = .next t → P t := by
  have hS := hP.ofAny
  rw [exec_numberOfQueues]
  unfold execNumberOfQueues
  repeat' first
    | with_reducible refine keep_done hP _ _ ?_
    | with_reducible assumption
    | with_reducible refine keep_adminCmd hS _ _ _ _ (fun _ _ _ => ?_) ?_
    | with_reducible refine keep_setQueues hP _ _ _ _ ?_
    | with_reducible refine Closed.foldl _ _ _ (fun _ _ _ => ?_) ?_
    | split

theorem keep_execDramRead (hP : Closed anyField P) (who : BufMaster) (addr : Addr) (errs : List ByteErr) (s : State) (hs : P s) :
    ∀ t, exec (.dramRead who addr errs) s = .next t → P t := by
  have hS := hP.ofAny
  rw [exec_dramRead]
  unfold execDramRead
  repeat' first
    | with_reducible refine keep_done hP _ _ ?_
    | with_reducible assumption
    | with_reducible refine keep_afterRead hP _ _ _ ?_
    | with_reducible refine keep_dramRead hP _ _ _ _ ?_
    | with_reducible refine keep_failOwner hS _ _ _ ?_ ?_
    | with_reducible refine keep_onMedia hS _ _ _ (fun _ _ => ?_) ?_
    | with_reducible refine Closed.foldl _ _ _ (fun _ _ _ => ?_) ?_
    | split

theorem keep_execPeerCommandTimeout (hP : Closed anyField P) (slot : Fin 64) (attempts : ℕ) (s : State) (hs : P s) :
    ∀ t, exec (.peerCommandTimeout slot attempts) s = .next t → P t := by
  have hS := hP.ofAny
  rw [exec_peerCommandTimeout]
  unfold execPeerCommandTimeout
  repeat' first
    | with_reducible refine keep_done hP _ _ ?_
    | with_reducible assumption
    | with_reducible refine keep_onClaik hS _ _ (fun _ _ => ?_) ?_
    | with_reducible refine keep_peerCommandTimeout hP _ _ _ ?_
    | with_reducible refine Closed.foldl _ _ _ (fun _ _ _ => ?_) ?_
    | split

theorem keep_execSillageDone (hP : Closed byRaise P) (u : Fin 8) (s : State) (hs : P s) :
    ∀ t, exec (.sillageDone u) s = .next t → P t := by
  rw [exec_sillageDone]
  unfold execSillageDone
  repeat' first
    | with_reducible refine keep_done hP _ _ ?_
    | with_reducible assumption
    | with_reducible refine keep_onBlock hP _ _ _ (fun _ _ => ?_) ?_
    | with_reducible refine keep_sillageDone hP _ _ ?_
    | with_reducible refine Closed.foldl _ _ _ (fun _ _ _ => ?_) ?_
    | split

theorem keep_execVolatileWriteCache (hP : Closed anyField P) (cid : BitVec 16) (wce : Bool) (s : State) (hs : P s) :
    ∀ t, exec (.volatileWriteCache cid wce) s = .next t → P t := by
  have hS := hP.ofAny
  rw [exec_volatileWriteCache]
  unfold execVolatileWriteCache
  repeat' first
    | with_reducible refine keep_done hP _ _ ?_
    | with_reducible assumption
    | with_reducible refine keep_adminCmd hS _ _ _ _ (fun _ _ _ => ?_) ?_
    | with_reducible refine keep_setCache hP _ _ _ ?_
    | with_reducible refine Closed.foldl _ _ _ (fun _ _ _ => ?_) ?_
    | split

theorem keep_execAddressConflict (hP : Closed bySettle P) (_twoHello : Bool) (s : State) (hs : P s) :
    ∀ t, exec (.addressConflict _twoHello) s = .next t → P t := by
  have hR := hP.ofSettle
  rw [exec_addressConflict]
  unfold execAddressConflict
  repeat' first
    | with_reducible refine keep_done hP _ _ ?_
    | with_reducible assumption
    | with_reducible refine keep_addressConflict hR _ ?_
    | with_reducible refine keep_onClaik hP _ _ (fun _ _ => ?_) ?_
    | with_reducible refine Closed.foldl _ _ _ (fun _ _ _ => ?_) ?_
    | split

theorem keep_execRelease (hP : Closed anyField P) (addr : BitVec 7) (seq : BitVec 4) (s : State) (hs : P s) :
    ∀ t, exec (.release addr seq) s = .next t → P t := by
  have hS := hP.ofAny
  rw [exec_release]
  unfold execRelease
  repeat' first
    | with_reducible refine keep_done hP _ _ ?_
    | with_reducible assumption
    | with_reducible refine keep_onOrder hS _ _ (fun _ _ => ?_) ?_
    | with_reducible refine keep_order hP _ _ _ _ _ (fun _ _ => ?_) ?_
    | with_reducible refine keep_orderRelease hP _ ?_
    | with_reducible refine Closed.foldl _ _ _ (fun _ _ _ => ?_) ?_
    | split

theorem keep_execImageLoad (hP : Closed anyField P) (region : Fin 2) (s : State) (hs : P s) :
    ∀ t, exec (.imageLoad region) s = .next t → P t := by
  have hR := hP.ofAny.ofSettle
  rw [exec_imageLoad]
  unfold execImageLoad
  repeat' first
    | with_reducible refine keep_done hP _ _ ?_
    | with_reducible assumption
    | with_reducible refine keep_imageLoad hP _ _ ?_
    | with_reducible refine keep_onBlock hR _ _ _ (fun _ _ => ?_) ?_
    | with_reducible refine Closed.foldl _ _ _ (fun _ _ _ => ?_) ?_
    | split

theorem keep_execPilotSample (hP : Closed anyField P) (n : Fin 2) (phase : BitVec 10) (amp : BitVec 12) (clip : Bool) (sig : Bool) (rev : Bool) (rate : Word) (proj : ℤ) (s : State) (hs : P s) :
    ∀ t, exec (.pilotSample n phase amp clip sig rev rate proj) s = .next t → P t := by
  have hR := hP.ofAny.ofSettle
  rw [exec_pilotSample]
  unfold execPilotSample
  repeat' first
    | with_reducible refine keep_done hP _ _ ?_
    | with_reducible assumption
    | with_reducible refine keep_onAngle hR _ _ (fun _ _ => ?_) ?_
    | with_reducible refine keep_pilotLoss hR _ ?_
    | with_reducible refine keep_pilotSample hP _ _ _ _ _ _ _ _ _ ?_
    | with_reducible refine Closed.foldl _ _ _ (fun _ _ _ => ?_) ?_
    | split

theorem keep_execRetractRequest (hP : Closed bySettle P) (a : Fin 4) (s : State) (hs : P s) :
    ∀ t, exec (.retractRequest a) s = .next t → P t := by
  have hR := hP.ofSettle
  rw [exec_retractRequest]
  unfold execRetractRequest
  repeat' first
    | with_reducible refine keep_done hP _ _ ?_
    | with_reducible assumption
    | with_reducible refine keep_onMedia hP _ _ _ (fun _ _ => ?_) ?_
    | with_reducible refine keep_retractRequest hR _ _ ?_
    | with_reducible refine Closed.foldl _ _ _ (fun _ _ _ => ?_) ?_
    | split

theorem keep_execLaneTransitionDone (hP : Closed anyField P) (l : Fin 48) (s : State) (hs : P s) :
    ∀ t, exec (.laneTransitionDone l) s = .next t → P t := by
  have hS := hP.ofAny
  rw [exec_laneTransitionDone]
  unfold execLaneTransitionDone
  repeat' first
    | with_reducible refine keep_done hP _ _ ?_
    | with_reducible assumption
    | with_reducible refine keep_laneTransitionDone hP _ _ ?_
    | with_reducible refine keep_onMedia hS _ _ _ (fun _ _ => ?_) ?_
    | with_reducible refine Closed.foldl _ _ _ (fun _ _ _ => ?_) ?_
    | split

theorem keep_execPlacementGenDone (hP : Closed anyField P) (s : State) (hs : P s) :
    ∀ t, exec (.placementGenDone) s = .next t → P t := by
  have hS := hP.ofAny
  rw [exec_placementGenDone]
  unfold execPlacementGenDone
  repeat' first
    | with_reducible refine keep_done hP _ _ ?_
    | with_reducible assumption
    | with_reducible refine keep_onMedia hS _ _ _ (fun _ _ => ?_) ?_
    | with_reducible refine keep_placementGenDone hP _ ?_
    | with_reducible refine Closed.foldl _ _ _ (fun _ _ _ => ?_) ?_
    | split

theorem keep_execHeadRecover (hP : Closed anyField P) (h_0 : Fin 48) (s : State) (hs : P s) :
    ∀ t, exec (.headRecover h_0) s = .next t → P t := by
  have hS := hP.ofAny
  rw [exec_headRecover]
  unfold execHeadRecover
  repeat' first
    | with_reducible refine keep_done hP _ _ ?_
    | with_reducible assumption
    | with_reducible refine keep_headRecover hP _ _ ?_
    | with_reducible refine keep_onMedia hS _ _ _ (fun _ _ => ?_) ?_
    | with_reducible refine Closed.foldl _ _ _ (fun _ _ _ => ?_) ?_
    | split

theorem keep_execMovb (hP : Closed anyField P) (c : Fin 64) (ls : Fin 2) (x : Fin 32) (b : Fin 8) (off : BitVec 9) (last : Bool) (s : State) (hs : P s) :
    ∀ t, exec (.movb c ls x b off last) s = .next t → P t := by
  rw [exec_movb]
  unfold execMovb
  repeat' first
    | with_reducible refine keep_done hP _ _ ?_
    | with_reducible assumption
    | with_reducible refine keep_engineOp hP _ _ _ _ ?_
    | with_reducible refine Closed.foldl _ _ _ (fun _ _ _ => ?_) ?_
    | split

theorem keep_execAlignEnd (hP : Closed anyField P) (drew : Bool) (wrongSign : Bool) (s : State) (hs : P s) :
    ∀ t, exec (.alignEnd drew wrongSign) s = .next t → P t := by
  have hS := hP.ofAny
  rw [exec_alignEnd]
  unfold execAlignEnd
  repeat' first
    | with_reducible refine keep_done hP _ _ ?_
    | with_reducible assumption
    | with_reducible refine keep_alignEnd hP _ _ _ ?_
    | with_reducible refine keep_onSpindle hS _ _ (fun _ _ => ?_) ?_
    | with_reducible refine Closed.foldl _ _ _ (fun _ _ _ => ?_) ?_
    | split

theorem keep_execHello (hP : Closed anyField P) (eui : BitVec 64) (_role : BitVec 2) (_level : BitVec 2) (s : State) (hs : P s) :
    ∀ t, exec (.hello eui _role _level) s = .next t → P t := by
  have hS := hP.ofAny
  rw [exec_hello]
  unfold execHello
  repeat' first
    | with_reducible refine keep_done hP _ _ ?_
    | with_reducible assumption
    | with_reducible refine keep_hello hP _ _ ?_
    | with_reducible refine keep_onClaik hS _ _ (fun _ _ => ?_) ?_
    | with_reducible refine Closed.foldl _ _ _ (fun _ _ _ => ?_) ?_
    | split

theorem keep_execStartFailure (hP : Closed anyField P) (s : State) (hs : P s) :
    ∀ t, exec (.startFailure) s = .next t → P t := by
  have hS := hP.ofAny
  rw [exec_startFailure]
  unfold execStartFailure
  repeat' first
    | with_reducible refine keep_done hP _ _ ?_
    | with_reducible assumption
    | with_reducible refine keep_onSpindle hS _ _ (fun _ _ => ?_) ?_
    | with_reducible refine keep_startFailure hP _ ?_
    | with_reducible refine Closed.foldl _ _ _ (fun _ _ _ => ?_) ?_
    | split

theorem keep_execLowSpeedDrydown (hP : Closed bySettle P) (s : State) (hs : P s) :
    ∀ t, exec (.lowSpeedDrydown) s = .next t → P t := by
  have hR := hP.ofSettle
  rw [exec_lowSpeedDrydown]
  unfold execLowSpeedDrydown
  repeat' first
    | with_reducible refine keep_done hP _ _ ?_
    | with_reducible assumption
    | with_reducible refine keep_lowSpeedDrydown hR _ ?_
    | with_reducible refine keep_onSpindle hP _ _ (fun _ _ => ?_) ?_
    | with_reducible refine Closed.foldl _ _ _ (fun _ _ _ => ?_) ?_
    | split

theorem keep_execShutdownNormal (hP : Closed anyField P) (s : State) (hs : P s) :
    ∀ t, exec (.shutdownNormal) s = .next t → P t := by
  have hS := hP.ofAny
  rw [exec_shutdownNormal]
  unfold execShutdownNormal
  repeat' first
    | with_reducible refine keep_done hP _ _ ?_
    | with_reducible assumption
    | with_reducible refine keep_onHost hS _ _ (fun _ _ => ?_) ?_
    | with_reducible refine keep_shutdownNormal hP _ ?_
    | with_reducible refine Closed.foldl _ _ _ (fun _ _ _ => ?_) ?_
    | split

theorem keep_execHlkTrainHbTimeout (hP : Closed anyField P) (a : Fin 4) (s : State) (hs : P s) :
    ∀ t, exec (.hlkTrainHbTimeout a) s = .next t → P t := by
  have hS := hP.ofAny
  rw [exec_hlkTrainHbTimeout]
  unfold execHlkTrainHbTimeout
  repeat' first
    | with_reducible refine keep_done hP _ _ ?_
    | with_reducible assumption
    | with_reducible refine keep_hlkHbTimeout hP _ _ ?_
    | with_reducible refine keep_onMedia hS _ _ _ (fun _ _ => ?_) ?_
    | with_reducible refine Closed.foldl _ _ _ (fun _ _ _ => ?_) ?_
    | split

theorem keep_execRebuildBatchWrite (hP : Closed bySettle P) (s : State) (hs : P s) :
    ∀ t, exec (.rebuildBatchWrite) s = .next t → P t := by
  rw [exec_rebuildBatchWrite]
  unfold execRebuildBatchWrite
  repeat' first
    | with_reducible refine keep_done hP _ _ ?_
    | with_reducible assumption
    | with_reducible refine keep_onMedia hP _ _ _ (fun _ _ => ?_) ?_
    | with_reducible refine keep_rebuildBatchWrite hP _ ?_
    | with_reducible refine Closed.foldl _ _ _ (fun _ _ _ => ?_) ?_
    | split

theorem keep_execSramRead (hP : Closed anyField P) (k : SramKind) (addr : Addr) (who : BufMaster) (err : Fin 3) (s : State) (hs : P s) :
    ∀ t, exec (.sramRead k addr who err) s = .next t → P t := by
  have hS := hP.ofAny
  rw [exec_sramRead]
  unfold execSramRead
  repeat' first
    | with_reducible refine keep_done hP _ _ ?_
    | with_reducible assumption
    | with_reducible refine keep_failOwner hS _ _ _ ?_ ?_
    | with_reducible refine keep_onMedia hS _ _ _ (fun _ _ => ?_) ?_
    | with_reducible refine keep_sramRead hP _ _ _ _ _ ?_
    | with_reducible refine Closed.foldl _ _ _ (fun _ _ _ => ?_) ?_
    | split

theorem keep_execCfgdoneTimeout (hP : Closed anyField P) (s : State) (hs : P s) :
    ∀ t, exec (.cfgdoneTimeout) s = .next t → P t := by
  rw [exec_cfgdoneTimeout]
  unfold execCfgdoneTimeout
  repeat' first
    | with_reducible refine keep_done hP _ _ ?_
    | with_reducible assumption
    | with_reducible refine keep_cfgdoneTimeout hP _ ?_
    | with_reducible refine Closed.foldl _ _ _ (fun _ _ _ => ?_) ?_
    | split

theorem keep_execUpstreamSilence (hP : Closed bySettle P) (s : State) (hs : P s) :
    ∀ t, exec (.upstreamSilence) s = .next t → P t := by
  have hR := hP.ofSettle
  rw [exec_upstreamSilence]
  unfold execUpstreamSilence
  repeat' first
    | with_reducible refine keep_done hP _ _ ?_
    | with_reducible assumption
    | with_reducible refine keep_onClaik hP _ _ (fun _ _ => ?_) ?_
    | with_reducible refine keep_upstreamSilence hR _ ?_
    | with_reducible refine Closed.foldl _ _ _ (fun _ _ _ => ?_) ?_
    | split

theorem keep_execVcmPolarityRunaway (hP : Closed bySettle P) (a : Fin 4) (s : State) (hs : P s) :
    ∀ t, exec (.vcmPolarityRunaway a) s = .next t → P t := by
  have hR := hP.ofSettle
  rw [exec_vcmPolarityRunaway]
  unfold execVcmPolarityRunaway
  repeat' first
    | with_reducible refine keep_done hP _ _ ?_
    | with_reducible assumption
    | with_reducible refine keep_onMedia hP _ _ _ (fun _ _ => ?_) ?_
    | with_reducible refine keep_vcmPolarityRunaway hR _ _ ?_
    | with_reducible refine Closed.foldl _ _ _ (fun _ _ _ => ?_) ?_
    | split

theorem keep_execZoneClose (hP : Closed bySettle P) (sqid : ℕ) (cid : BitVec 16) (zone : ℕ) (all : Bool) (s : State) (hs : P s) :
    ∀ t, exec (.zoneClose sqid cid zone all) s = .next t → P t := by
  rw [exec_zoneClose]
  unfold execZoneClose
  repeat' first
    | with_reducible refine keep_done hP _ _ ?_
    | with_reducible assumption
    | with_reducible refine keep_onHost hP _ _ (fun _ _ => ?_) ?_
    | with_reducible refine keep_zoneSend hP _ _ _ _ _ _ ?_
    | with_reducible refine Closed.foldl _ _ _ (fun _ _ _ => ?_) ?_
    | split

theorem keep_execPhaseTrimUpdate (hP : Closed anyField P) (b : LaneSamples) (te : ℤ) (s : State) (hs : P s) :
    ∀ t, exec (.phaseTrimUpdate b te) s = .next t → P t := by
  have hR := hP.ofAny.ofSettle
  rw [exec_phaseTrimUpdate]
  unfold execPhaseTrimUpdate
  repeat' first
    | with_reducible refine keep_done hP _ _ ?_
    | with_reducible assumption
    | with_reducible refine keep_onBlock hR _ _ _ (fun _ _ => ?_) ?_
    | with_reducible refine keep_phaseTrimUpdate hP _ _ _ _ ?_
    | with_reducible refine Closed.foldl _ _ _ (fun _ _ _ => ?_) ?_
    | split

theorem keep_execClaikFrameCrcError (hP : Closed anyField P) (up : Bool) (s : State) (hs : P s) :
    ∀ t, exec (.claikFrameCrcError up) s = .next t → P t := by
  have hS := hP.ofAny
  rw [exec_claikFrameCrcError]
  unfold execClaikFrameCrcError
  repeat' first
    | with_reducible refine keep_done hP _ _ ?_
    | with_reducible assumption
    | with_reducible refine keep_claikCrc hP _ _ ?_
    | with_reducible refine keep_onClaik hS _ _ (fun _ _ => ?_) ?_
    | with_reducible refine Closed.foldl _ _ _ (fun _ _ _ => ?_) ?_
    | split

theorem keep_execZoneFinish (hP : Closed bySettle P) (sqid : ℕ) (cid : BitVec 16) (zone : ℕ) (all : Bool) (s : State) (hs : P s) :
    ∀ t, exec (.zoneFinish sqid cid zone all) s = .next t → P t := by
  rw [exec_zoneFinish]
  unfold execZoneFinish
  repeat' first
    | with_reducible refine keep_done hP _ _ ?_
    | with_reducible assumption
    | with_reducible refine keep_onHost hP _ _ (fun _ _ => ?_) ?_
    | with_reducible refine keep_zoneSend hP _ _ _ _ _ _ ?_
    | with_reducible refine Closed.foldl _ _ _ (fun _ _ _ => ?_) ?_
    | split

theorem keep_execGetLogPage (hP : Closed bySettle P) (cid : BitVec 16) (lid : BitVec 8) (rae : Bool) (off : ℕ) (len : ℕ) (s : State) (hs : P s) :
    ∀ t, exec (.getLogPage cid lid rae off len) s = .next t → P t := by
  rw [exec_getLogPage]
  unfold execGetLogPage
  repeat' first
    | with_reducible refine keep_done hP _ _ ?_
    | with_reducible assumption
    | with_reducible refine keep_adminCmd hP _ _ _ _ (fun _ _ _ => ?_) ?_
    | with_reducible refine keep_getLog hP _ _ _ _ _ _ ?_
    | with_reducible refine Closed.foldl _ _ _ (fun _ _ _ => ?_) ?_
    | split

theorem keep_execEndOp (hP : Closed anyField P) (c : Fin 64) (last : Bool) (s : State) (hs : P s) :
    ∀ t, exec (.endOp c last) s = .next t → P t := by
  rw [exec_endOp]
  unfold execEndOp
  repeat' first
    | with_reducible refine keep_done hP _ _ ?_
    | with_reducible assumption
    | with_reducible refine keep_engineOp hP _ _ _ _ ?_
    | with_reducible refine Closed.foldl _ _ _ (fun _ _ _ => ?_) ?_
    | split

theorem keep_execBnrDump (hP : Closed bySettle P) (s : State) (hs : P s) :
    ∀ t, exec (.bnrDump) s = .next t → P t := by
  have hR := hP.ofSettle
  rw [exec_bnrDump]
  unfold execBnrDump
  repeat' first
    | with_reducible refine keep_done hP _ _ ?_
    | with_reducible assumption
    | with_reducible refine keep_bnrDump hR _ ?_
    | with_reducible refine keep_onCollector hP _ _ (fun _ _ => ?_) ?_
    | with_reducible refine Closed.foldl _ _ _ (fun _ _ _ => ?_) ?_
    | split

theorem keep_execRailMonitorClear (hP : Closed anyField P) (r : Rail) (s : State) (hs : P s) :
    ∀ t, exec (.railMonitorClear r) s = .next t → P t := by
  have hS := hP.ofAny
  rw [exec_railMonitorClear]
  unfold execRailMonitorClear
  repeat' first
    | with_reducible refine keep_done hP _ _ ?_
    | with_reducible assumption
    | with_reducible refine keep_onCollector hS _ _ (fun _ _ => ?_) ?_
    | with_reducible refine keep_railClear hP _ _ ?_
    | with_reducible refine Closed.foldl _ _ _ (fun _ _ _ => ?_) ?_
    | split

theorem keep_execLd (hP : Closed anyField P) (c : Fin 64) (ls : Fin 2) (x : Fin 32) (b : Fin 8) (off : BitVec 9) (last : Bool) (s : State) (hs : P s) :
    ∀ t, exec (.ld c ls x b off last) s = .next t → P t := by
  rw [exec_ld]
  unfold execLd
  repeat' first
    | with_reducible refine keep_done hP _ _ ?_
    | with_reducible assumption
    | with_reducible refine keep_engineOp hP _ _ _ _ ?_
    | with_reducible refine Closed.foldl _ _ _ (fun _ _ _ => ?_) ?_
    | split

theorem keep_execZoneOpen (hP : Closed bySettle P) (sqid : ℕ) (cid : BitVec 16) (zone : ℕ) (all : Bool) (s : State) (hs : P s) :
    ∀ t, exec (.zoneOpen sqid cid zone all) s = .next t → P t := by
  rw [exec_zoneOpen]
  unfold execZoneOpen
  repeat' first
    | with_reducible refine keep_done hP _ _ ?_
    | with_reducible assumption
    | with_reducible refine keep_onHost hP _ _ (fun _ _ => ?_) ?_
    | with_reducible refine keep_zoneSend hP _ _ _ _ _ _ ?_
    | with_reducible refine Closed.foldl _ _ _ (fun _ _ _ => ?_) ?_
    | split

theorem keep_execSpdRefSample (hP : Closed anyField P) (value : ℕ) (s : State) (hs : P s) :
    ∀ t, exec (.spdRefSample value) s = .next t → P t := by
  have hR := hP.ofAny.ofSettle
  rw [exec_spdRefSample]
  unfold execSpdRefSample
  repeat' first
    | with_reducible refine keep_done hP _ _ ?_
    | with_reducible assumption
    | with_reducible refine keep_onBlock hR _ _ _ (fun _ _ => ?_) ?_
    | with_reducible refine keep_spdRefSample hP _ _ ?_
    | with_reducible refine Closed.foldl _ _ _ (fun _ _ _ => ?_) ?_
    | split

theorem keep_execMemoryWriteRequest (hP : Closed anyField P) (r : MemReq) (s : State) (hs : P s) :
    ∀ t, exec (.memoryWriteRequest r) s = .next t → P t := by
  have hS := hP.ofAny
  rw [exec_memoryWriteRequest]
  unfold execMemoryWriteRequest
  repeat' first
    | with_reducible refine keep_done hP _ _ ?_
    | with_reducible assumption
    | with_reducible refine keep_afterWrite hP _ _ _ ?_
    | with_reducible refine keep_memoryWrite hP _ _ ?_
    | with_reducible refine keep_settle hS _ _ ?_
    | with_reducible refine Closed.foldl _ _ _ (fun _ _ _ => ?_) ?_
    | split

theorem keep_execRecord (hP : Closed anyField P) (addr : BitVec 7) (entries : List (BitVec 256)) (s : State) (hs : P s) :
    ∀ t, exec (.record addr entries) s = .next t → P t := by
  have hS := hP.ofAny
  rw [exec_record]
  unfold execRecord
  repeat' first
    | with_reducible refine keep_done hP _ _ ?_
    | with_reducible assumption
    | with_reducible refine keep_onClaik hS _ _ (fun _ _ => ?_) ?_
    | with_reducible refine keep_record hP _ _ _ ?_
    | with_reducible refine Closed.foldl _ _ _ (fun _ _ _ => ?_) ?_
    | split

theorem keep_execHlkLinkDown (hP : Closed anyField P) (a : Fin 4) (s : State) (hs : P s) :
    ∀ t, exec (.hlkLinkDown a) s = .next t → P t := by
  have hS := hP.ofAny
  rw [exec_hlkLinkDown]
  unfold execHlkLinkDown
  repeat' first
    | with_reducible refine keep_done hP _ _ ?_
    | with_reducible assumption
    | with_reducible refine keep_hlkLinkDown hP _ _ ?_
    | with_reducible refine keep_onMedia hS _ _ _ (fun _ _ => ?_) ?_
    | with_reducible refine Closed.foldl _ _ _ (fun _ _ _ => ?_) ?_
    | split

theorem keep_execBnrFirmwareEntry (hP : Closed anyField P) (v : Word) (s : State) (hs : P s) :
    ∀ t, exec (.bnrFirmwareEntry v) s = .next t → P t := by
  rw [exec_bnrFirmwareEntry]
  unfold execBnrFirmwareEntry
  repeat' first
    | with_reducible refine keep_done hP _ _ ?_
    | with_reducible assumption
    | with_reducible refine keep_firmwareEntry hP _ _ ?_
    | with_reducible refine Closed.foldl _ _ _ (fun _ _ _ => ?_) ?_
    | split

theorem keep_execActuatorsParked (hP : Closed bySettle P) (s : State) (hs : P s) :
    ∀ t, exec (.actuatorsParked) s = .next t → P t := by
  have hR := hP.ofSettle
  rw [exec_actuatorsParked]
  unfold execActuatorsParked
  repeat' first
    | with_reducible refine keep_done hP _ _ ?_
    | with_reducible assumption
    | with_reducible refine keep_actuatorsParked hR _ ?_
    | with_reducible refine keep_onSpindle hP _ _ (fun _ _ => ?_) ?_
    | with_reducible refine Closed.foldl _ _ _ (fun _ _ _ => ?_) ?_
    | split

theorem keep_execSensorRequalify (hP : Closed anyField P) (n : Fin 2) (s : State) (hs : P s) :
    ∀ t, exec (.sensorRequalify n) s = .next t → P t := by
  have hR := hP.ofAny.ofSettle
  rw [exec_sensorRequalify]
  unfold execSensorRequalify
  repeat' first
    | with_reducible refine keep_done hP _ _ ?_
    | with_reducible assumption
    | with_reducible refine keep_onAngle hR _ _ (fun _ _ => ?_) ?_
    | with_reducible refine keep_pilotLoss hR _ ?_
    | with_reducible refine keep_sensorRequalify hP _ _ ?_
    | with_reducible refine Closed.foldl _ _ _ (fun _ _ _ => ?_) ?_
    | split

theorem keep_execVddAonReturn (hP : Closed anyField P) (role : Bool) (bootcs : Bool) (recov : Bool) (s : State) (hs : P s) :
    ∀ t, exec (.vddAonReturn role bootcs recov) s = .next t → P t := by
  rw [exec_vddAonReturn]
  unfold execVddAonReturn
  repeat' first
    | with_reducible refine keep_done hP _ _ ?_
    | with_reducible assumption
    | with_reducible refine keep_vddAonReturn hP _ _ _ _ ?_
    | with_reducible refine Closed.foldl _ _ _ (fun _ _ _ => ?_) ?_
    | split

theorem keep_execLinkError (hP : Closed anyField P) (e : LinkErr) (s : State) (hs : P s) :
    ∀ t, exec (.linkError e) s = .next t → P t := by
  have hS := hP.ofAny
  rw [exec_linkError]
  unfold execLinkError
  repeat' first
    | with_reducible refine keep_done hP _ _ ?_
    | with_reducible assumption
    | with_reducible refine keep_linkError hP _ _ ?_
    | with_reducible refine keep_onPcie hS _ _ (fun _ _ => ?_) ?_
    | with_reducible refine Closed.foldl _ _ _ (fun _ _ _ => ?_) ?_
    | split

theorem keep_execSpin (hP : Closed anyField P) (addr : BitVec 7) (seq : BitVec 4) (s : State) (hs : P s) :
    ∀ t, exec (.spin addr seq) s = .next t → P t := by
  have hS := hP.ofAny
  rw [exec_spin]
  unfold execSpin
  repeat' first
    | with_reducible refine keep_done hP _ _ ?_
    | with_reducible assumption
    | with_reducible refine keep_onOrder hS _ _ (fun _ _ => ?_) ?_
    | with_reducible refine keep_order hP _ _ _ _ _ (fun _ _ => ?_) ?_
    | with_reducible refine keep_orderSpin hP _ ?_
    | with_reducible refine Closed.foldl _ _ _ (fun _ _ _ => ?_) ?_
    | split

theorem keep_execWedgeWindow (hP : Closed anyField P) (l : Fin 48) (opens : Bool) (s : State) (hs : P s) :
    ∀ t, exec (.wedgeWindow l opens) s = .next t → P t := by
  have hR := hP.ofAny.ofSettle
  rw [exec_wedgeWindow]
  unfold execWedgeWindow
  repeat' first
    | with_reducible refine keep_done hP _ _ ?_
    | with_reducible assumption
    | with_reducible refine keep_onBlock hR _ _ _ (fun _ _ => ?_) ?_
    | with_reducible refine keep_wedgeWindow hP _ _ _ ?_
    | with_reducible refine Closed.foldl _ _ _ (fun _ _ _ => ?_) ?_
    | split

theorem keep_execPwrGoodFall (hP : Closed anyField P) (s : State) (hs : P s) :
    ∀ t, exec (.pwrGoodFall) s = .next t → P t := by
  rw [exec_pwrGoodFall]
  unfold execPwrGoodFall
  repeat' first
    | with_reducible refine keep_done hP _ _ ?_
    | with_reducible assumption
    | with_reducible refine keep_pwrGoodFall hP _ ?_
    | with_reducible refine Closed.foldl _ _ _ (fun _ _ _ => ?_) ?_
    | split

theorem keep_execSetref (hP : Closed anyField P) (addr : BitVec 7) (seq : BitVec 4) (mode : BitVec 3) (ppr : BitVec 6) (phase : BitVec 16) (s : State) (hs : P s) :
    ∀ t, exec (.setref addr seq mode ppr phase) s = .next t → P t := by
  have hS := hP.ofAny
  rw [exec_setref]
  unfold execSetref
  repeat' first
    | with_reducible refine keep_done hP _ _ ?_
    | with_reducible assumption
    | with_reducible refine keep_onOrder hS _ _ (fun _ _ => ?_) ?_
    | with_reducible refine keep_order hP _ _ _ _ _ (fun _ _ => ?_) ?_
    | with_reducible refine keep_orderSetref hP _ _ _ _ ?_
    | with_reducible refine Closed.foldl _ _ _ (fun _ _ _ => ?_) ?_
    | split

theorem keep_execTargetWrite (hP : Closed anyField P) (h_0 : Fin 48) (v : Word) (s : State) (hs : P s) :
    ∀ t, exec (.targetWrite h_0 v) s = .next t → P t := by
  have hR := hP.ofAny.ofSettle
  rw [exec_targetWrite]
  unfold execTargetWrite
  repeat' first
    | with_reducible refine keep_done hP _ _ ?_
    | with_reducible assumption
    | with_reducible refine keep_onBlock hR _ _ _ (fun _ _ => ?_) ?_
    | with_reducible refine keep_targetWrite hP _ _ _ ?_
    | with_reducible refine Closed.foldl _ _ _ (fun _ _ _ => ?_) ?_
    | split

theorem keep_execRaDrop (hP : Closed bySettle P) (s : State) (hs : P s) :
    ∀ t, exec (.raDrop) s = .next t → P t := by
  rw [exec_raDrop]
  unfold execRaDrop
  repeat' first
    | with_reducible refine keep_done hP _ _ ?_
    | with_reducible assumption
    | with_reducible refine keep_onMedia hP _ _ _ (fun _ _ => ?_) ?_
    | with_reducible refine keep_raDrop hP _ ?_
    | with_reducible refine Closed.foldl _ _ _ (fun _ _ _ => ?_) ?_
    | split

theorem keep_execEngineDispatch (hP : Closed anyField P) (d : Fin 32) (s : State) (hs : P s) :
    ∀ t, exec (.engineDispatch d) s = .next t → P t := by
  have hS := hP.ofAny
  rw [exec_engineDispatch]
  unfold execEngineDispatch
  repeat' first
    | with_reducible refine keep_done hP _ _ ?_
    | with_reducible assumption
    | with_reducible refine keep_engineDispatch hP _ _ ?_
    | with_reducible refine keep_onMedia hS _ _ _ (fun _ _ => ?_) ?_
    | with_reducible refine Closed.foldl _ _ _ (fun _ _ _ => ?_) ?_
    | split

theorem keep_execMediaPolicy (hP : Closed anyField P) (cid : BitVec 16) (verify : Bool) (ra : Bool) (share : BitVec 8) (s : State) (hs : P s) :
    ∀ t, exec (.mediaPolicy cid verify ra share) s = .next t → P t := by
  have hS := hP.ofAny
  rw [exec_mediaPolicy]
  unfold execMediaPolicy
  repeat' first
    | with_reducible refine keep_done hP _ _ ?_
    | with_reducible assumption
    | with_reducible refine keep_adminCmd hS _ _ _ _ (fun _ _ _ => ?_) ?_
    | with_reducible refine keep_mediaPolicy hP _ _ _ ?_
    | with_reducible refine Closed.foldl _ _ _ (fun _ _ _ => ?_) ?_
    | split

theorem keep_execZoneOffline (hP : Closed bySettle P) (sqid : ℕ) (cid : BitVec 16) (zone : ℕ) (s : State) (hs : P s) :
    ∀ t, exec (.zoneOffline sqid cid zone) s = .next t → P t := by
  rw [exec_zoneOffline]
  unfold execZoneOffline
  repeat' first
    | with_reducible refine keep_done hP _ _ ?_
    | with_reducible assumption
    | with_reducible refine keep_onHost hP _ _ (fun _ _ => ?_) ?_
    | with_reducible refine keep_zoneSend hP _ _ _ _ _ _ ?_
    | with_reducible refine Closed.foldl _ _ _ (fun _ _ _ => ?_) ?_
    | split

theorem keep_execNop (hP : Closed anyField P) (c : Fin 64) (slot : Fin 4) (last : Bool) (s : State) (hs : P s) :
    ∀ t, exec (.nop c slot last) s = .next t → P t := by
  rw [exec_nop]
  unfold execNop
  repeat' first
    | with_reducible refine keep_done hP _ _ ?_
    | with_reducible assumption
    | with_reducible refine keep_engineOp hP _ _ _ _ ?_
    | with_reducible refine Closed.foldl _ _ _ (fun _ _ _ => ?_) ?_
    | split

theorem keep_execAcdCleanClr (hP : Closed anyField P) (s : State) (hs : P s) :
    ∀ t, exec (.acdCleanClr) s = .next t → P t := by
  have hS := hP.ofAny
  rw [exec_acdCleanClr]
  unfold execAcdCleanClr
  repeat' first
    | with_reducible refine keep_done hP _ _ ?_
    | with_reducible assumption
    | with_reducible refine keep_acdCleanClr hP _ ?_
    | with_reducible refine keep_onMedia hS _ _ _ (fun _ _ => ?_) ?_
    | with_reducible refine Closed.foldl _ _ _ (fun _ _ _ => ?_) ?_
    | split

theorem keep_execRetractPhaseEnd (hP : Closed anyField P) (a : Fin 4) (s : State) (hs : P s) :
    ∀ t, exec (.retractPhaseEnd a) s = .next t → P t := by
  have hS := hP.ofAny
  rw [exec_retractPhaseEnd]
  unfold execRetractPhaseEnd
  repeat' first
    | with_reducible refine keep_done hP _ _ ?_
    | with_reducible assumption
    | with_reducible refine keep_onRetract hS _ _ (fun _ _ => ?_) ?_
    | with_reducible refine keep_retractPhaseEnd hP _ _ ?_
    | with_reducible refine Closed.foldl _ _ _ (fun _ _ _ => ?_) ?_
    | split

theorem keep_execVcmOpenCoil (hP : Closed anyField P) (a : Fin 4) (s : State) (hs : P s) :
    ∀ t, exec (.vcmOpenCoil a) s = .next t → P t := by
  have hS := hP.ofAny
  rw [exec_vcmOpenCoil]
  unfold execVcmOpenCoil
  repeat' first
    | with_reducible refine keep_done hP _ _ ?_
    | with_reducible assumption
    | with_reducible refine keep_onMedia hS _ _ _ (fun _ _ => ?_) ?_
    | with_reducible refine keep_vcmOpenCoil hP _ _ ?_
    | with_reducible refine Closed.foldl _ _ _ (fun _ _ _ => ?_) ?_
    | split

theorem keep_execControlStoreScrub (hP : Closed anyField P) (corrected : ℕ) (uncorrectable : List (ℕ × ℕ)) (s : State) (hs : P s) :
    ∀ t, exec (.controlStoreScrub corrected uncorrectable) s = .next t → P t := by
  have hR := hP.ofAny.ofSettle
  rw [exec_controlStoreScrub]
  unfold execControlStoreScrub
  repeat' first
    | with_reducible refine keep_done hP _ _ ?_
    | with_reducible assumption
    | with_reducible refine keep_controlStoreScrub hP _ _ _ ?_
    | with_reducible refine keep_onBlock hR _ _ _ (fun _ _ => ?_) ?_
    | with_reducible refine Closed.foldl _ _ _ (fun _ _ _ => ?_) ?_
    | split

theorem keep_execAssign (hP : Closed anyField P) (eui : BitVec 64) (addr : BitVec 7) (pod : BitVec 18) (level : BitVec 2) (seq : BitVec 4) (s : State) (hs : P s) :
    ∀ t, exec (.assign eui addr pod level seq) s = .next t → P t := by
  have hS := hP.ofAny
  rw [exec_assign]
  unfold execAssign
  repeat' first
    | with_reducible refine keep_done hP _ _ ?_
    | with_reducible assumption
    | with_reducible refine keep_assign hP _ _ _ _ _ _ ?_
    | with_reducible refine keep_onClaik hS _ _ (fun _ _ => ?_) ?_
    | with_reducible refine Closed.foldl _ _ _ (fun _ _ _ => ?_) ?_
    | split

theorem keep_execSettleReached (hP : Closed anyField P) (h_0 : Fin 48) (s : State) (hs : P s) :
    ∀ t, exec (.settleReached h_0) s = .next t → P t := by
  have hS := hP.ofAny
  rw [exec_settleReached]
  unfold execSettleReached
  repeat' first
    | with_reducible refine keep_done hP _ _ ?_
    | with_reducible assumption
    | with_reducible refine keep_onMedia hS _ _ _ (fun _ _ => ?_) ?_
    | with_reducible refine keep_settleReached hP _ _ ?_
    | with_reducible refine Closed.foldl _ _ _ (fun _ _ _ => ?_) ?_
    | split

theorem keep_execCreateIoSq (hP : Closed bySettle P) (cid : BitVec 16) (qid : ℕ) (size : ℕ) (cqid : ℕ) (s : State) (hs : P s) :
    ∀ t, exec (.createIoSq cid qid size cqid) s = .next t → P t := by
  rw [exec_createIoSq]
  unfold execCreateIoSq
  repeat' first
    | with_reducible refine keep_done hP _ _ ?_
    | with_reducible assumption
    | with_reducible refine keep_adminCmd hP _ _ _ _ (fun _ _ _ => ?_) ?_
    | with_reducible refine keep_createSq hP _ _ _ _ _ ?_
    | with_reducible refine Closed.foldl _ _ _ (fun _ _ _ => ?_) ?_
    | split

theorem keep_execLaneMemdatRead (hP : Closed anyField P) (l : Fin 48) (s : State) (hs : P s) :
    ∀ t, exec (.laneMemdatRead l) s = .next t → P t := by
  have hR := hP.ofAny.ofSettle
  rw [exec_laneMemdatRead]
  unfold execLaneMemdatRead
  repeat' first
    | with_reducible refine keep_done hP _ _ ?_
    | with_reducible assumption
    | with_reducible refine keep_lanMemdatRead hP _ _ ?_
    | with_reducible refine keep_readOn hR _ _ _ (fun _ _ => ?_) ?_
    | with_reducible refine Closed.foldl _ _ _ (fun _ _ _ => ?_) ?_
    | split

theorem keep_execSpinWaitLimit (hP : Closed anyField P) (cid : BitVec 16) (sec : BitVec 16) (s : State) (hs : P s) :
    ∀ t, exec (.spinWaitLimit cid sec) s = .next t → P t := by
  have hS := hP.ofAny
  rw [exec_spinWaitLimit]
  unfold execSpinWaitLimit
  repeat' first
    | with_reducible refine keep_done hP _ _ ?_
    | with_reducible assumption
    | with_reducible refine keep_adminCmd hS _ _ _ _ (fun _ _ _ => ?_) ?_
    | with_reducible refine keep_setSpinWait hP _ _ _ ?_
    | with_reducible refine Closed.foldl _ _ _ (fun _ _ _ => ?_) ?_
    | split

theorem keep_execDrydown (hP : Closed anyField P) (addr : BitVec 7) (seq : BitVec 4) (s : State) (hs : P s) :
    ∀ t, exec (.drydown addr seq) s = .next t → P t := by
  have hS := hP.ofAny
  rw [exec_drydown]
  unfold execDrydown
  repeat' first
    | with_reducible refine keep_done hP _ _ ?_
    | with_reducible assumption
    | with_reducible refine keep_onOrder hS _ _ (fun _ _ => ?_) ?_
    | with_reducible refine keep_order hP _ _ _ _ _ (fun _ _ => ?_) ?_
    | with_reducible refine keep_orderDrydown hP _ ?_
    | with_reducible refine Closed.foldl _ _ _ (fun _ _ _ => ?_) ?_
    | split

theorem keep_execNvmSubsystemReset (hP : Closed anyField P) (s : State) (hs : P s) :
    ∀ t, exec (.nvmSubsystemReset) s = .next t → P t := by
  have hS := hP.ofAny
  rw [exec_nvmSubsystemReset]
  unfold execNvmSubsystemReset
  repeat' first
    | with_reducible refine keep_done hP _ _ ?_
    | with_reducible assumption
    | with_reducible refine keep_nvmSubsystemReset hP _ ?_
    | with_reducible refine keep_onHost hS _ _ (fun _ _ => ?_) ?_
    | with_reducible refine Closed.foldl _ _ _ (fun _ _ _ => ?_) ?_
    | split

theorem keep_execMemoryReadRequest (hP : Closed anyField P) (r : MemReq) (s : State) (hs : P s) :
    ∀ t, exec (.memoryReadRequest r) s = .next t → P t := by
  have hS := hP.ofAny
  rw [exec_memoryReadRequest]
  unfold execMemoryReadRequest
  repeat' first
    | with_reducible refine keep_done hP _ _ ?_
    | with_reducible assumption
    | with_reducible refine keep_memoryRead hP _ _ ?_
    | with_reducible refine keep_onPcie hS _ _ (fun _ _ => ?_) ?_
    | with_reducible refine Closed.foldl _ _ _ (fun _ _ _ => ?_) ?_
    | split

theorem keep_execDrydownTimeout (hP : Closed bySettle P) (s : State) (hs : P s) :
    ∀ t, exec (.drydownTimeout) s = .next t → P t := by
  have hR := hP.ofSettle
  rw [exec_drydownTimeout]
  unfold execDrydownTimeout
  repeat' first
    | with_reducible refine keep_done hP _ _ ?_
    | with_reducible assumption
    | with_reducible refine keep_drydownTimeout hR _ ?_
    | with_reducible refine keep_onSpindle hP _ _ (fun _ _ => ?_) ?_
    | with_reducible refine Closed.foldl _ _ _ (fun _ _ _ => ?_) ?_
    | split

theorem keep_execCatchEnd (hP : Closed anyField P) (s : State) (hs : P s) :
    ∀ t, exec (.catchEnd) s = .next t → P t := by
  have hS := hP.ofAny
  rw [exec_catchEnd]
  unfold execCatchEnd
  repeat' first
    | with_reducible refine keep_done hP _ _ ?_
    | with_reducible assumption
    | with_reducible refine keep_catchEnd hP _ ?_
    | with_reducible refine keep_onSpindle hS _ _ (fun _ _ => ?_) ?_
    | with_reducible refine Closed.foldl _ _ _ (fun _ _ _ => ?_) ?_
    | split

theorem keep_execHarvest (hP : Closed anyField P) (addr : BitVec 7) (seq : BitVec 4) (start : BitVec 16) (count : ℕ) (s : State) (hs : P s) :
    ∀ t, exec (.harvest addr seq start count) s = .next t → P t := by
  have hS := hP.ofAny
  rw [exec_harvest]
  unfold execHarvest
  repeat' first
    | with_reducible refine keep_done hP _ _ ?_
    | with_reducible assumption
    | with_reducible refine keep_harvestReply hP _ _ _ _ _ ?_
    | with_reducible refine keep_onClaik hS _ _ (fun _ _ => ?_) ?_
    | with_reducible refine Closed.foldl _ _ _ (fun _ _ _ => ?_) ?_
    | split

theorem keep_execPmeTurnOff (hP : Closed anyField P) (s : State) (hs : P s) :
    ∀ t, exec (.pmeTurnOff) s = .next t → P t := by
  have hS := hP.ofAny
  rw [exec_pmeTurnOff]
  unfold execPmeTurnOff
  repeat' first
    | with_reducible refine keep_done hP _ _ ?_
    | with_reducible assumption
    | with_reducible refine keep_onPcie hS _ _ (fun _ _ => ?_) ?_
    | with_reducible refine keep_pmeTurnOff hP _ ?_
    | with_reducible refine Closed.foldl _ _ _ (fun _ _ _ => ?_) ?_
    | split

theorem keep_execShuntOvercurrent (hP : Closed anyField P) (shorted : Bool) (s : State) (hs : P s) :
    ∀ t, exec (.shuntOvercurrent shorted) s = .next t → P t := by
  have hS := hP.ofAny
  rw [exec_shuntOvercurrent]
  unfold execShuntOvercurrent
  repeat' first
    | with_reducible refine keep_done hP _ _ ?_
    | with_reducible assumption
    | with_reducible refine keep_onSpindle hS _ _ (fun _ _ => ?_) ?_
    | with_reducible refine keep_shuntOvercurrent hP _ _ ?_
    | with_reducible refine Closed.foldl _ _ _ (fun _ _ _ => ?_) ?_
    | split

theorem keep_execControllerReady (hP : Closed bySettle P) (s : State) (hs : P s) :
    ∀ t, exec (.controllerReady) s = .next t → P t := by
  rw [exec_controllerReady]
  unfold execControllerReady
  repeat' first
    | with_reducible refine keep_done hP _ _ ?_
    | with_reducible assumption
    | with_reducible refine keep_controllerReady hP _ ?_
    | with_reducible refine keep_onHost hP _ _ (fun _ _ => ?_) ?_
    | with_reducible refine Closed.foldl _ _ _ (fun _ _ _ => ?_) ?_
    | split

theorem keep_execTrc (hP : Closed anyField P) (c : Fin 64) (x : Fin 32) (unit : Fin 8) (last : Bool) (s : State) (hs : P s) :
    ∀ t, exec (.trc c x unit last) s = .next t → P t := by
  rw [exec_trc]
  unfold execTrc
  repeat' first
    | with_reducible refine keep_done hP _ _ ?_
    | with_reducible assumption
    | with_reducible refine keep_engineOp hP _ _ _ _ ?_
    | with_reducible refine Closed.foldl _ _ _ (fun _ _ _ => ?_) ?_
    | split

theorem keep_execDecisionPoint (hP : Closed anyField P) (b : ShBlk) (i : Fin 48) (g : Fin 8) (s : State) (hs : P s) :
    ∀ t, exec (.decisionPoint b i g) s = .next t → P t := by
  have hR := hP.ofAny.ofSettle
  rw [exec_decisionPoint]
  unfold execDecisionPoint
  repeat' first
    | with_reducible refine keep_done hP _ _ ?_
    | with_reducible assumption
    | with_reducible refine keep_decisionPoint hP _ _ _ _ ?_
    | with_reducible refine keep_onBlock hR _ _ _ (fun _ _ => ?_) ?_
    | with_reducible refine keep_settleGroup hP _ _ ?_
    | with_reducible refine Closed.foldl _ _ _ (fun _ _ _ => ?_) ?_
    | split

theorem keep_execIndexSignature (hP : Closed anyField P) (n : Fin 2) (s : State) (hs : P s) :
    ∀ t, exec (.indexSignature n) s = .next t → P t := by
  have hR := hP.ofAny.ofSettle
  rw [exec_indexSignature]
  unfold execIndexSignature
  repeat' first
    | with_reducible refine keep_done hP _ _ ?_
    | with_reducible assumption
    | with_reducible refine keep_indexSignature hP _ _ ?_
    | with_reducible refine keep_onAngle hR _ _ (fun _ _ => ?_) ?_
    | with_reducible refine keep_pilotLoss hR _ ?_
    | with_reducible refine Closed.foldl _ _ _ (fun _ _ _ => ?_) ?_
    | split

theorem keep_execCkminExpiry (hP : Closed bySettle P) (s : State) (hs : P s) :
    ∀ t, exec (.ckminExpiry) s = .next t → P t := by
  rw [exec_ckminExpiry]
  unfold execCkminExpiry
  repeat' first
    | with_reducible refine keep_done hP _ _ ?_
    | with_reducible assumption
    | with_reducible refine keep_ckminExpiry hP _ ?_
    | with_reducible refine keep_onMedia hP _ _ _ (fun _ _ => ?_) ?_
    | with_reducible refine Closed.foldl _ _ _ (fun _ _ _ => ?_) ?_
    | split

theorem keep_execDiscover (hP : Closed anyField P) (_seed : Byte) (s : State) (hs : P s) :
    ∀ t, exec (.discover _seed) s = .next t → P t := by
  have hS := hP.ofAny
  rw [exec_discover]
  unfold execDiscover
  repeat' first
    | with_reducible refine keep_done hP _ _ ?_
    | with_reducible assumption
    | with_reducible refine keep_discover hP _ ?_
    | with_reducible refine keep_onClaik hS _ _ (fun _ _ => ?_) ?_
    | with_reducible refine Closed.foldl _ _ _ (fun _ _ _ => ?_) ?_
    | split

theorem keep_execPhaseLock (hP : Closed anyField P) (s : State) (hs : P s) :
    ∀ t, exec (.phaseLock) s = .next t → P t := by
  have hR := hP.ofAny.ofSettle
  rw [exec_phaseLock]
  unfold execPhaseLock
  repeat' first
    | with_reducible refine keep_done hP _ _ ?_
    | with_reducible assumption
    | with_reducible refine keep_onBlock hR _ _ _ (fun _ _ => ?_) ?_
    | with_reducible refine keep_phaseLock hP _ ?_
    | with_reducible refine Closed.foldl _ _ _ (fun _ _ _ => ?_) ?_
    | split

theorem keep_execMax (hP : Closed anyField P) (c : Fin 64) (slot : Fin 4) (a : Fin 32) (last : Bool) (s : State) (hs : P s) :
    ∀ t, exec (.max c slot a last) s = .next t → P t := by
  rw [exec_max]
  unfold execMax
  repeat' first
    | with_reducible refine keep_done hP _ _ ?_
    | with_reducible assumption
    | with_reducible refine keep_engineOp hP _ _ _ _ ?_
    | with_reducible refine Closed.foldl _ _ _ (fun _ _ _ => ?_) ?_
    | split

theorem keep_execCheckpointTimer (hP : Closed bySettle P) (s : State) (hs : P s) :
    ∀ t, exec (.checkpointTimer) s = .next t → P t := by
  rw [exec_checkpointTimer]
  unfold execCheckpointTimer
  repeat' first
    | with_reducible refine keep_done hP _ _ ?_
    | with_reducible assumption
    | with_reducible refine keep_checkpointTimer hP _ ?_
    | with_reducible refine keep_onMedia hP _ _ _ (fun _ _ => ?_) ?_
    | with_reducible refine Closed.foldl _ _ _ (fun _ _ _ => ?_) ?_
    | split

theorem keep_execPlacementGen (hP : Closed anyField P) (s : State) (hs : P s) :
    ∀ t, exec (.placementGen) s = .next t → P t := by
  have hS := hP.ofAny
  rw [exec_placementGen]
  unfold execPlacementGen
  repeat' first
    | with_reducible refine keep_done hP _ _ ?_
    | with_reducible assumption
    | with_reducible refine keep_onMedia hS _ _ _ (fun _ _ => ?_) ?_
    | with_reducible refine keep_placementGen hP _ ?_
    | with_reducible refine Closed.foldl _ _ _ (fun _ _ _ => ?_) ?_
    | split

theorem keep_execHlkResponseRx (hP : Closed anyField P) (a : Fin 4) (pkt : BitVec 48) (s : State) (hs : P s) :
    ∀ t, exec (.hlkResponseRx a pkt) s = .next t → P t := by
  have hS := hP.ofAny
  rw [exec_hlkResponseRx]
  unfold execHlkResponseRx
  repeat' first
    | with_reducible refine keep_done hP _ _ ?_
    | with_reducible assumption
    | with_reducible refine keep_hlkResponseRx hP _ _ _ ?_
    | with_reducible refine keep_onMedia hS _ _ _ (fun _ _ => ?_) ?_
    | with_reducible refine Closed.foldl _ _ _ (fun _ _ _ => ?_) ?_
    | split

theorem keep_execSeekTimeout (hP : Closed anyField P) (a : Fin 4) (s : State) (hs : P s) :
    ∀ t, exec (.seekTimeout a) s = .next t → P t := by
  have hS := hP.ofAny
  rw [exec_seekTimeout]
  unfold execSeekTimeout
  repeat' first
    | with_reducible refine keep_done hP _ _ ?_
    | with_reducible assumption
    | with_reducible refine keep_onMedia hS _ _ _ (fun _ _ => ?_) ?_
    | with_reducible refine keep_seekTimeout hP _ _ ?_
    | with_reducible refine Closed.foldl _ _ _ (fun _ _ _ => ?_) ?_
    | split

theorem keep_execRetireDone (hP : Closed anyField P) (bad : List ℕ) (s : State) (hs : P s) :
    ∀ t, exec (.retireDone bad) s = .next t → P t := by
  have hR := hP.ofAny.ofSettle
  rw [exec_retireDone]
  unfold execRetireDone
  repeat' first
    | with_reducible refine keep_done hP _ _ ?_
    | with_reducible assumption
    | with_reducible refine keep_onBlock hR _ _ _ (fun _ _ => ?_) ?_
    | with_reducible refine keep_retireDone hP _ _ ?_
    | with_reducible refine Closed.foldl _ _ _ (fun _ _ _ => ?_) ?_
    | split

theorem keep_execStreamTurn (hP : Closed bySettle P) (side : Fin 2) (s : State) (hs : P s) :
    ∀ t, exec (.streamTurn side) s = .next t → P t := by
  have hR := hP.ofSettle
  rw [exec_streamTurn]
  unfold execStreamTurn
  repeat' first
    | with_reducible refine keep_done hP _ _ ?_
    | with_reducible assumption
    | with_reducible refine keep_onMedia hP _ _ _ (fun _ _ => ?_) ?_
    | with_reducible refine keep_streamTurn hR _ _ ?_
    | with_reducible refine Closed.foldl _ _ _ (fun _ _ _ => ?_) ?_
    | split

theorem keep_execDiagnosticUnlock (hP : Closed anyField P) (cid : BitVec 16) (code : BitVec 16) (on : Bool) (s : State) (hs : P s) :
    ∀ t, exec (.diagnosticUnlock cid code on) s = .next t → P t := by
  have hS := hP.ofAny
  rw [exec_diagnosticUnlock]
  unfold execDiagnosticUnlock
  repeat' first
    | with_reducible refine keep_done hP _ _ ?_
    | with_reducible assumption
    | with_reducible refine keep_adminCmd hS _ _ _ _ (fun _ _ _ => ?_) ?_
    | with_reducible refine keep_setUnlock hP _ _ _ _ ?_
    | with_reducible refine Closed.foldl _ _ _ (fun _ _ _ => ?_) ?_
    | split

theorem keep_execWorkerSilent (hP : Closed anyField P) (slot : Fin 64) (s : State) (hs : P s) :
    ∀ t, exec (.workerSilent slot) s = .next t → P t := by
  have hS := hP.ofAny
  rw [exec_workerSilent]
  unfold execWorkerSilent
  repeat' first
    | with_reducible refine keep_done hP _ _ ?_
    | with_reducible assumption
    | with_reducible refine keep_onClaik hS _ _ (fun _ _ => ?_) ?_
    | with_reducible refine keep_workerSilent hP _ _ ?_
    | with_reducible refine Closed.foldl _ _ _ (fun _ _ _ => ?_) ?_
    | split

theorem keep_execAbs (hP : Closed anyField P) (c : Fin 64) (slot : Fin 4) (last : Bool) (s : State) (hs : P s) :
    ∀ t, exec (.abs c slot last) s = .next t → P t := by
  rw [exec_abs]
  unfold execAbs
  repeat' first
    | with_reducible refine keep_done hP _ _ ?_
    | with_reducible assumption
    | with_reducible refine keep_engineOp hP _ _ _ _ ?_
    | with_reducible refine Closed.foldl _ _ _ (fun _ _ _ => ?_) ?_
    | split

theorem keep_execPowerManagement (hP : Closed bySettle P) (cid : BitVec 16) (ps : ℕ) (s : State) (hs : P s) :
    ∀ t, exec (.powerManagement cid ps) s = .next t → P t := by
  rw [exec_powerManagement]
  unfold execPowerManagement
  repeat' first
    | with_reducible refine keep_done hP _ _ ?_
    | with_reducible assumption
    | with_reducible refine keep_adminCmd hP _ _ _ _ (fun _ _ _ => ?_) ?_
    | with_reducible refine keep_setPowerState hP _ _ _ ?_
    | with_reducible refine Closed.foldl _ _ _ (fun _ _ _ => ?_) ?_
    | split

theorem keep_execResetNAssert (hP : Closed anyField P) (s : State) (hs : P s) :
    ∀ t, exec (.resetNAssert) s = .next t → P t := by
  rw [exec_resetNAssert]
  unfold execResetNAssert
  repeat' first
    | with_reducible refine keep_done hP _ _ ?_
    | with_reducible assumption
    | with_reducible refine keep_resetNAssert hP _ ?_
    | with_reducible refine Closed.foldl _ _ _ (fun _ _ _ => ?_) ?_
    | split

theorem keep_execAcdLose (hP : Closed anyField P) (v : Word) (s : State) (hs : P s) :
    ∀ t, exec (.acdLose v) s = .next t → P t := by
  have hS := hP.ofAny
  rw [exec_acdLose]
  unfold execAcdLose
  repeat' first
    | with_reducible refine keep_done hP _ _ ?_
    | with_reducible assumption
    | with_reducible refine keep_loseByWrite hP _ _ ?_
    | with_reducible refine keep_onMedia hS _ _ _ (fun _ _ => ?_) ?_
    | with_reducible refine Closed.foldl _ _ _ (fun _ _ _ => ?_) ?_
    | split

theorem keep_execLaneMemdatWrite (hP : Closed anyField P) (l : Fin 48) (v : Word) (s : State) (hs : P s) :
    ∀ t, exec (.laneMemdatWrite l v) s = .next t → P t := by
  have hR := hP.ofAny.ofSettle
  rw [exec_laneMemdatWrite]
  unfold execLaneMemdatWrite
  repeat' first
    | with_reducible refine keep_done hP _ _ ?_
    | with_reducible assumption
    | with_reducible refine keep_lanMemdatWrite hP _ _ _ ?_
    | with_reducible refine keep_onBlock hR _ _ _ (fun _ _ => ?_) ?_
    | with_reducible refine Closed.foldl _ _ _ (fun _ _ _ => ?_) ?_
    | split

theorem keep_execMsu (hP : Closed anyField P) (c : Fin 64) (slot : Fin 4) (a : Fin 32) (b : Fin 32) (q : Fin 4) (last : Bool) (s : State) (hs : P s) :
    ∀ t, exec (.msu c slot a b q last) s = .next t → P t := by
  rw [exec_msu]
  unfold execMsu
  repeat' first
    | with_reducible refine keep_done hP _ _ ?_
    | with_reducible assumption
    | with_reducible refine keep_engineOp hP _ _ _ _ ?_
    | with_reducible refine Closed.foldl _ _ _ (fun _ _ _ => ?_) ?_
    | split

theorem keep_execShadowWrite (hP : Closed anyField P) (addr : Addr) (v : Word) (s : State) (hs : P s) :
    ∀ t, exec (.shadowWrite addr v) s = .next t → P t := by
  rw [exec_shadowWrite]
  unfold execShadowWrite
  repeat' first
    | with_reducible refine keep_done hP _ _ ?_
    | with_reducible assumption
    | with_reducible refine keep_shadowWrite hP _ _ _ ?_
    | with_reducible refine Closed.foldl _ _ _ (fun _ _ _ => ?_) ?_
    | split

theorem keep_execIdentify (hP : Closed bySettle P) (i : IdentifyArgs) (s : State) (hs : P s) :
    ∀ t, exec (.identify i) s = .next t → P t := by
  rw [exec_identify]
  unfold execIdentify
  repeat' first
    | with_reducible refine keep_done hP _ _ ?_
    | with_reducible assumption
    | with_reducible refine keep_adminCmd hP _ _ _ _ (fun _ _ _ => ?_) ?_
    | with_reducible refine keep_identifyCmd hP _ _ _ _ _ ?_
    | with_reducible refine Closed.foldl _ _ _ (fun _ _ _ => ?_) ?_
    | split

theorem keep_execBrakeTimeout (hP : Closed anyField P) (s : State) (hs : P s) :
    ∀ t, exec (.brakeTimeout) s = .next t → P t := by
  have hS := hP.ofAny
  rw [exec_brakeTimeout]
  unfold execBrakeTimeout
  repeat' first
    | with_reducible refine keep_done hP _ _ ?_
    | with_reducible assumption
    | with_reducible refine keep_brakeTimeout hP _ ?_
    | with_reducible refine keep_onSpindle hS _ _ (fun _ _ => ?_) ?_
    | with_reducible refine Closed.foldl _ _ _ (fun _ _ _ => ?_) ?_
    | split

theorem keep_execMacerationExpiry (hP : Closed anyField P) (n : Fin 512) (s : State) (hs : P s) :
    ∀ t, exec (.macerationExpiry n) s = .next t → P t := by
  have hS := hP.ofAny
  rw [exec_macerationExpiry]
  unfold execMacerationExpiry
  repeat' first
    | with_reducible refine keep_done hP _ _ ?_
    | with_reducible assumption
    | with_reducible refine keep_applyOrders hS _ ?_
    | with_reducible refine keep_macerationExpiry hP _ _ ?_
    | with_reducible refine keep_onCollector hS _ _ (fun _ _ => ?_) ?_
    | (extract_lets +onlyGivenNames t; refine (fun (_ : P t) => ?_) ?_; (on_goal 2 => (dsimp -zeta only [t]; clear t)); (on_goal 1 => (clear_value t; rename' t => w)))
    | (extract_lets +onlyGivenNames t; refine (fun (_ : P t.1) => ?_) ?_; (on_goal 2 => (dsimp -zeta only [t]; clear t)); (on_goal 1 => (clear_value t; rename' t => w)))
    | (extract_lets +onlyGivenNames t; clear_value t; rename' t => w)
    | with_reducible refine Closed.foldl _ _ _ (fun _ _ _ => ?_) ?_
    | split

theorem keep_execSillageArm (hP : Closed anyField P) (u : Fin 8) (s : State) (hs : P s) :
    ∀ t, exec (.sillageArm u) s = .next t → P t := by
  have hR := hP.ofAny.ofSettle
  rw [exec_sillageArm]
  unfold execSillageArm
  repeat' first
    | with_reducible refine keep_done hP _ _ ?_
    | with_reducible assumption
    | with_reducible refine keep_onBlock hR _ _ _ (fun _ _ => ?_) ?_
    | with_reducible refine keep_sillageArm hP _ _ ?_
    | with_reducible refine Closed.foldl _ _ _ (fun _ _ _ => ?_) ?_
    | split

theorem keep_execSpnDrydown (hP : Closed bySettle P) (s : State) (hs : P s) :
    ∀ t, exec (.spnDrydown) s = .next t → P t := by
  rw [exec_spnDrydown]
  unfold execSpnDrydown
  repeat' first
    | with_reducible refine keep_done hP _ _ ?_
    | with_reducible assumption
    | with_reducible refine keep_drydownOrder hP _ ?_
    | with_reducible refine keep_onSpindle hP _ _ (fun _ _ => ?_) ?_
    | with_reducible refine Closed.foldl _ _ _ (fun _ _ _ => ?_) ?_
    | split

theorem keep_execHostRead (hP : Closed bySettle P) (zone : ℕ) (off : ℕ) (len : ℕ) (mtag : BitVec 24) (s : State) (hs : P s) :
    ∀ t, exec (.hostRead zone off len mtag) s = .next t → P t := by
  rw [exec_hostRead]
  unfold execHostRead
  repeat' first
    | with_reducible refine keep_done hP _ _ ?_
    | with_reducible assumption
    | with_reducible refine keep_hostRead hP _ _ _ _ _ ?_
    | with_reducible refine keep_onMedia hP _ _ _ (fun _ _ => ?_) ?_
    | with_reducible refine keep_shelfRead hP _ _ _ _ _ ?_
    | with_reducible refine Closed.foldl _ _ _ (fun _ _ _ => ?_) ?_
    | split

theorem keep_execObserverLockLoss (hP : Closed anyField P) (s : State) (hs : P s) :
    ∀ t, exec (.observerLockLoss) s = .next t → P t := by
  have hS := hP.ofAny
  rw [exec_observerLockLoss]
  unfold execObserverLockLoss
  repeat' first
    | with_reducible refine keep_done hP _ _ ?_
    | with_reducible assumption
    | with_reducible refine keep_observerLockLoss hP _ ?_
    | with_reducible refine keep_onSpindle hS _ _ (fun _ _ => ?_) ?_
    | with_reducible refine Closed.foldl _ _ _ (fun _ _ _ => ?_) ?_
    | split

theorem keep_execGetFeatures (hP : Closed bySettle P) (cid : BitVec 16) (fid : BitVec 8) (sel : FeatureSel) (s : State) (hs : P s) :
    ∀ t, exec (.getFeatures cid fid sel) s = .next t → P t := by
  rw [exec_getFeatures]
  unfold execGetFeatures
  repeat' first
    | with_reducible refine keep_done hP _ _ ?_
    | with_reducible assumption
    | with_reducible refine keep_adminCmd hP _ _ _ _ (fun _ _ _ => ?_) ?_
    | with_reducible refine keep_getFeature hP _ _ _ _ _ ?_
    | with_reducible refine Closed.foldl _ _ _ (fun _ _ _ => ?_) ?_
    | split

theorem keep_execPoll (hP : Closed anyField P) (addr : BitVec 7) (seq : BitVec 4) (s : State) (hs : P s) :
    ∀ t, exec (.poll addr seq) s = .next t → P t := by
  have hS := hP.ofAny
  rw [exec_poll]
  unfold execPoll
  repeat' first
    | with_reducible refine keep_done hP _ _ ?_
    | with_reducible assumption
    | with_reducible refine keep_onClaik hS _ _ (fun _ _ => ?_) ?_
    | with_reducible refine keep_poll hP _ _ _ ?_
    | with_reducible refine Closed.foldl _ _ _ (fun _ _ _ => ?_) ?_
    | split

theorem keep_execFreezeRelease (hP : Closed anyField P) (s : State) (hs : P s) :
    ∀ t, exec (.freezeRelease) s = .next t → P t := by
  have hS := hP.ofAny
  rw [exec_freezeRelease]
  unfold execFreezeRelease
  repeat' first
    | with_reducible refine keep_done hP _ _ ?_
    | with_reducible assumption
    | with_reducible refine keep_freezeRelease hP _ ?_
    | with_reducible refine keep_onPcie hS _ _ (fun _ _ => ?_) ?_
    | with_reducible refine Closed.foldl _ _ _ (fun _ _ _ => ?_) ?_
    | split

theorem keep_execInhibitRelease (hP : Closed anyField P) (h_0 : Fin 48) (s : State) (hs : P s) :
    ∀ t, exec (.inhibitRelease h_0) s = .next t → P t := by
  have hS := hP.ofAny
  rw [exec_inhibitRelease]
  unfold execInhibitRelease
  repeat' first
    | with_reducible refine keep_done hP _ _ ?_
    | with_reducible assumption
    | with_reducible refine keep_inhibitRelease hP _ _ ?_
    | with_reducible refine keep_onMedia hS _ _ _ (fun _ _ => ?_) ?_
    | with_reducible refine Closed.foldl _ _ _ (fun _ _ _ => ?_) ?_
    | split

theorem keep_execAngCmpWrite (hP : Closed anyField P) (n : Fin 256) (word : Fin 4) (v : Word) (s : State) (hs : P s) :
    ∀ t, exec (.angCmpWrite n word v) s = .next t → P t := by
  have hR := hP.ofAny.ofSettle
  rw [exec_angCmpWrite]
  unfold execAngCmpWrite
  repeat' first
    | with_reducible refine keep_done hP _ _ ?_
    | with_reducible assumption
    | with_reducible refine keep_cmpWrite hP _ _ _ _ ?_
    | with_reducible refine keep_onBlock hR _ _ _ (fun _ _ => ?_) ?_
    | with_reducible refine Closed.foldl _ _ _ (fun _ _ _ => ?_) ?_
    | split

theorem keep_execRailMonitorTrip (hP : Closed anyField P) (r : Rail) (s : State) (hs : P s) :
    ∀ t, exec (.railMonitorTrip r) s = .next t → P t := by
  have hS := hP.ofAny
  rw [exec_railMonitorTrip]
  unfold execRailMonitorTrip
  repeat' first
    | with_reducible refine keep_done hP _ _ ?_
    | with_reducible assumption
    | with_reducible refine keep_onCollector hS _ _ (fun _ _ => ?_) ?_
    | with_reducible refine keep_railTrip hP _ _ ?_
    | with_reducible refine Closed.foldl _ _ _ (fun _ _ _ => ?_) ?_
    | split

theorem keep_execLpeTrig (hP : Closed byRaise P) (hi : Bool) (v : Word) (s : State) (hs : P s) :
    ∀ t, exec (.lpeTrig hi v) s = .next t → P t := by
  rw [exec_lpeTrig]
  unfold execLpeTrig
  repeat' first
    | with_reducible refine keep_done hP _ _ ?_
    | with_reducible assumption
    | with_reducible refine keep_lpeTrig hP _ _ _ ?_
    | with_reducible refine keep_onBlock hP _ _ _ (fun _ _ => ?_) ?_
    | with_reducible refine Closed.foldl _ _ _ (fun _ _ _ => ?_) ?_
    | split

theorem keep_execActivationTimeout (hP : Closed bySettle P) (s : State) (hs : P s) :
    ∀ t, exec (.activationTimeout) s = .next t → P t := by
  rw [exec_activationTimeout]
  unfold execActivationTimeout
  repeat' first
    | with_reducible refine keep_done hP _ _ ?_
    | with_reducible assumption
    | with_reducible refine keep_activationTimeout hP _ ?_
    | with_reducible refine keep_onHost hP _ _ (fun _ _ => ?_) ?_
    | with_reducible refine Closed.foldl _ _ _ (fun _ _ _ => ?_) ?_
    | split

theorem keep_execSamplePreload (hP : Closed anyField P) (v : ℕ) (s : State) (hs : P s) :
    ∀ t, exec (.samplePreload v) s = .next t → P t := by
  rw [exec_samplePreload]
  unfold execSamplePreload
  repeat' first
    | with_reducible refine keep_done hP _ _ ?_
    | with_reducible assumption
    | with_reducible refine keep_tapSample hP _ _ ?_
    | with_reducible refine Closed.foldl _ _ _ (fun _ _ _ => ?_) ?_
    | split

theorem keep_execDumpComplete (hP : Closed anyField P) (s : State) (hs : P s) :
    ∀ t, exec (.dumpComplete) s = .next t → P t := by
  have hS := hP.ofAny
  rw [exec_dumpComplete]
  unfold execDumpComplete
  repeat' first
    | with_reducible refine keep_done hP _ _ ?_
    | with_reducible assumption
    | with_reducible refine keep_dumpComplete hP _ ?_
    | with_reducible refine keep_norFree hP _ ?_
    | with_reducible refine keep_onCollector hS _ _ (fun _ _ => ?_) ?_
    | (extract_lets +onlyGivenNames t; refine (fun (_ : P t) => ?_) ?_; (on_goal 2 => (dsimp -zeta only [t]; clear t)); (on_goal 1 => (clear_value t; rename' t => w)))
    | (extract_lets +onlyGivenNames t; refine (fun (_ : P t.1) => ?_) ?_; (on_goal 2 => (dsimp -zeta only [t]; clear t)); (on_goal 1 => (clear_value t; rename' t => w)))
    | (extract_lets +onlyGivenNames t; clear_value t; rename' t => w)
    | with_reducible refine Closed.foldl _ _ _ (fun _ _ _ => ?_) ?_
    | split

theorem keep_execAvsVoltageRequest (hP : Closed anyField P) (mv : ℕ) (responds : Bool) (s : State) (hs : P s) :
    ∀ t, exec (.avsVoltageRequest mv responds) s = .next t → P t := by
  have hR := hP.ofAny.ofSettle
  rw [exec_avsVoltageRequest]
  unfold execAvsVoltageRequest
  repeat' first
    | with_reducible refine keep_done hP _ _ ?_
    | with_reducible assumption
    | with_reducible refine keep_avsRequest hP _ _ _ ?_
    | with_reducible refine keep_onBlock hR _ _ _ (fun _ _ => ?_) ?_
    | with_reducible refine Closed.foldl _ _ _ (fun _ _ _ => ?_) ?_
    | split

theorem keep_execReacqFailure (hP : Closed anyField P) (s : State) (hs : P s) :
    ∀ t, exec (.reacqFailure) s = .next t → P t := by
  have hS := hP.ofAny
  rw [exec_reacqFailure]
  unfold execReacqFailure
  repeat' first
    | with_reducible refine keep_done hP _ _ ?_
    | with_reducible assumption
    | with_reducible refine keep_onSpindle hS _ _ (fun _ _ => ?_) ?_
    | with_reducible refine keep_reacqFailure hP _ ?_
    | with_reducible refine Closed.foldl _ _ _ (fun _ _ _ => ?_) ?_
    | split

theorem keep_execDmaResume (hP : Closed bySettle P) (mask : BitVec 16) (s : State) (hs : P s) :
    ∀ t, exec (.dmaResume mask) s = .next t → P t := by
  have hR := hP.ofSettle
  rw [exec_dmaResume]
  unfold execDmaResume
  repeat' first
    | with_reducible refine keep_done hP _ _ ?_
    | with_reducible assumption
    | with_reducible refine keep_dmaResume hR _ _ ?_
    | with_reducible refine keep_onMedia hP _ _ _ (fun _ _ => ?_) ?_
    | with_reducible refine Closed.foldl _ _ _ (fun _ _ _ => ?_) ?_
    | split

theorem keep_execOpenloopHandover (hP : Closed anyField P) (s : State) (hs : P s) :
    ∀ t, exec (.openloopHandover) s = .next t → P t := by
  have hS := hP.ofAny
  rw [exec_openloopHandover]
  unfold execOpenloopHandover
  repeat' first
    | with_reducible refine keep_done hP _ _ ?_
    | with_reducible assumption
    | with_reducible refine keep_onSpindle hS _ _ (fun _ _ => ?_) ?_
    | with_reducible refine keep_openloopHandover hP _ ?_
    | with_reducible refine Closed.foldl _ _ _ (fun _ _ _ => ?_) ?_
    | split

theorem keep_execAbort (hP : Closed bySettle P) (cid : BitVec 16) (s : State) (hs : P s) :
    ∀ t, exec (.abort cid) s = .next t → P t := by
  rw [exec_abort]
  unfold execAbort
  repeat' first
    | with_reducible refine keep_done hP _ _ ?_
    | with_reducible assumption
    | with_reducible refine keep_abortCmd hP _ _ ?_
    | with_reducible refine keep_adminCmd hP _ _ _ _ (fun _ _ _ => ?_) ?_
    | with_reducible refine Closed.foldl _ _ _ (fun _ _ _ => ?_) ?_
    | split

theorem keep_execWake (hP : Closed anyField P) (addr : BitVec 7) (seq : BitVec 4) (s : State) (hs : P s) :
    ∀ t, exec (.wake addr seq) s = .next t → P t := by
  have hS := hP.ofAny
  rw [exec_wake]
  unfold execWake
  repeat' first
    | with_reducible refine keep_done hP _ _ ?_
    | with_reducible assumption
    | with_reducible refine keep_onClaik hS _ _ (fun _ _ => ?_) ?_
    | with_reducible refine keep_wake hP _ _ _ ?_
    | with_reducible refine Closed.foldl _ _ _ (fun _ _ _ => ?_) ?_
    | split

theorem keep_execDeleteIoSq (hP : Closed anyField P) (cid : BitVec 16) (qid : ℕ) (s : State) (hs : P s) :
    ∀ t, exec (.deleteIoSq cid qid) s = .next t → P t := by
  have hS := hP.ofAny
  rw [exec_deleteIoSq]
  unfold execDeleteIoSq
  repeat' first
    | with_reducible refine keep_done hP _ _ ?_
    | with_reducible assumption
    | with_reducible refine keep_adminCmd hS _ _ _ _ (fun _ _ _ => ?_) ?_
    | with_reducible refine keep_deleteSq hP _ _ _ ?_
    | with_reducible refine Closed.foldl _ _ _ (fun _ _ _ => ?_) ?_
    | split

theorem keep_execNvqRun (hP : Closed anyField P) (run : Bool) (s : State) (hs : P s) :
    ∀ t, exec (.nvqRun run) s = .next t → P t := by
  have hS := hP.ofAny
  rw [exec_nvqRun]
  unfold execNvqRun
  repeat' first
    | with_reducible refine keep_done hP _ _ ?_
    | with_reducible assumption
    | with_reducible refine keep_onHost hS _ _ (fun _ _ => ?_) ?_
    | with_reducible refine keep_runHost hP _ _ ?_
    | with_reducible refine Closed.foldl _ _ _ (fun _ _ _ => ?_) ?_
    | split

theorem keep_execFirmwareCommit (hP : Closed anyField P) (cid : BitVec 16) (action : ℕ) (slot : ℕ) (imageOk : Bool) (isCfg : Bool) (s : State) (hs : P s) :
    ∀ t, exec (.firmwareCommit cid action slot imageOk isCfg) s = .next t → P t := by
  rw [exec_firmwareCommit]
  unfold execFirmwareCommit
  repeat' first
    | with_reducible refine keep_done hP _ _ ?_
    | with_reducible assumption
    | with_reducible refine keep_beginCommit hP _ _ _ _ _ _ ?_
    | with_reducible refine Closed.foldl _ _ _ (fun _ _ _ => ?_) ?_
    | split

theorem keep_execSetFeatures (hP : Closed anyField P) (cid : BitVec 16) (fid : BitVec 8) (dw11 : Word) (s : State) (hs : P s) :
    ∀ t, exec (.setFeatures cid fid dw11) s = .next t → P t := by
  have hS := hP.ofAny
  rw [exec_setFeatures]
  unfold execSetFeatures
  repeat' first
    | with_reducible refine keep_done hP _ _ ?_
    | with_reducible assumption
    | with_reducible refine keep_adminCmd hS _ _ _ _ (fun _ _ _ => ?_) ?_
    | with_reducible refine keep_mediaPolicy hP _ _ _ ?_
    | with_reducible refine keep_setFeature hP _ _ _ _ ?_
    | with_reducible refine Closed.foldl _ _ _ (fun _ _ _ => ?_) ?_
    | split

theorem keep_execFwdata (hP : Closed anyField P) (off : Word) (data : List Byte) (s : State) (hs : P s) :
    ∀ t, exec (.fwdata off data) s = .next t → P t := by
  have hS := hP.ofAny
  rw [exec_fwdata]
  unfold execFwdata
  repeat' first
    | with_reducible refine keep_done hP _ _ ?_
    | with_reducible assumption
    | with_reducible refine keep_fwdata hP _ _ _ ?_
    | with_reducible refine keep_onClaik hS _ _ (fun _ _ => ?_) ?_
    | with_reducible refine Closed.foldl _ _ _ (fun _ _ _ => ?_) ?_
    | split

theorem keep_execDieTemperatureTrip (hP : Closed anyField P) (celsius : ℤ) (s : State) (hs : P s) :
    ∀ t, exec (.dieTemperatureTrip celsius) s = .next t → P t := by
  have hS := hP.ofAny
  rw [exec_dieTemperatureTrip]
  unfold execDieTemperatureTrip
  repeat' first
    | with_reducible refine keep_done hP _ _ ?_
    | with_reducible assumption
    | with_reducible refine keep_dieTemperature hP _ _ ?_
    | with_reducible refine keep_onCollector hS _ _ (fun _ _ => ?_) ?_
    | with_reducible refine Closed.foldl _ _ _ (fun _ _ _ => ?_) ?_
    | split

theorem keep_execCurrentSenseFault (hP : Closed bySettle P) (s : State) (hs : P s) :
    ∀ t, exec (.currentSenseFault) s = .next t → P t := by
  have hR := hP.ofSettle
  rw [exec_currentSenseFault]
  unfold execCurrentSenseFault
  repeat' first
    | with_reducible refine keep_done hP _ _ ?_
    | with_reducible assumption
    | with_reducible refine keep_currentSenseFault hR _ ?_
    | with_reducible refine keep_onSpindle hP _ _ (fun _ _ => ?_) ?_
    | with_reducible refine Closed.foldl _ _ _ (fun _ _ _ => ?_) ?_
    | split

theorem keep_execSpnCal (hP : Closed anyField P) (s : State) (hs : P s) :
    ∀ t, exec (.spnCal) s = .next t → P t := by
  have hS := hP.ofAny
  rw [exec_spnCal]
  unfold execSpnCal
  repeat' first
    | with_reducible refine keep_done hP _ _ ?_
    | with_reducible assumption
    | with_reducible refine keep_onSpindle hS _ _ (fun _ _ => ?_) ?_
    | with_reducible refine keep_spnCal hP _ ?_
    | with_reducible refine Closed.foldl _ _ _ (fun _ _ _ => ?_) ?_
    | split

theorem keep_execHlkWenWrite (hP : Closed bySettle P) (a : Fin 4) (mask : BitVec 12) (s : State) (hs : P s) :
    ∀ t, exec (.hlkWenWrite a mask) s = .next t → P t := by
  have hR := hP.ofSettle
  rw [exec_hlkWenWrite]
  unfold execHlkWenWrite
  repeat' first
    | with_reducible refine keep_done hP _ _ ?_
    | with_reducible assumption
    | with_reducible refine keep_hlkWenWrite hR _ _ _ ?_
    | with_reducible refine keep_onMedia hP _ _ _ (fun _ _ => ?_) ?_
    | with_reducible refine Closed.foldl _ _ _ (fun _ _ _ => ?_) ?_
    | split

theorem keep_execFlaconLoadDone (hP : Closed anyField P) (dirA : DirCopy) (dirB : DirCopy) (slots : FlaconSlot × FlaconSlot) (areas : CfgArea × CfgArea) (custKey : Bool) (nor : Word) (readErr : Bool) (s : State) (hs : P s) :
    ∀ t, exec (.flaconLoadDone dirA dirB slots areas custKey nor readErr) s = .next t → P t := by
  rw [exec_flaconLoadDone]
  unfold execFlaconLoadDone
  repeat' first
    | with_reducible refine keep_done hP _ _ ?_
    | with_reducible assumption
    | with_reducible refine keep_flaconLoadDone hP _ _ _ _ _ _ _ _ ?_
    | with_reducible refine Closed.foldl _ _ _ (fun _ _ _ => ?_) ?_
    | split

theorem keep_execReferenceClockLost (hP : Closed bySettle P) (pcie : Bool) (s : State) (hs : P s) :
    ∀ t, exec (.referenceClockLost pcie) s = .next t → P t := by
  have hR := hP.ofSettle
  rw [exec_referenceClockLost]
  unfold execReferenceClockLost
  repeat' first
    | with_reducible refine keep_done hP _ _ ?_
    | with_reducible assumption
    | with_reducible refine keep_clockLost hR _ _ ?_
    | with_reducible refine keep_onCollector hP _ _ (fun _ _ => ?_) ?_
    | with_reducible refine Closed.foldl _ _ _ (fun _ _ _ => ?_) ?_
    | split

theorem keep_execSync (hP : Closed anyField P) (epoch : BitVec 64) (period : Word) (s : State) (hs : P s) :
    ∀ t, exec (.sync epoch period) s = .next t → P t := by
  have hS := hP.ofAny
  rw [exec_sync]
  unfold execSync
  repeat' first
    | with_reducible refine keep_done hP _ _ ?_
    | with_reducible assumption
    | with_reducible refine keep_onClaik hS _ _ (fun _ _ => ?_) ?_
    | with_reducible refine keep_sync hP _ _ _ ?_
    | with_reducible refine Closed.foldl _ _ _ (fun _ _ _ => ?_) ?_
    | split

theorem keep_execAsperityFlag (hP : Closed anyField P) (b : LaneSamples) (s : State) (hs : P s) :
    ∀ t, exec (.asperityFlag b) s = .next t → P t := by
  have hR := hP.ofAny.ofSettle
  rw [exec_asperityFlag]
  unfold execAsperityFlag
  repeat' first
    | with_reducible refine keep_done hP _ _ ?_
    | with_reducible assumption
    | with_reducible refine keep_asperityFlag hP _ _ _ ?_
    | with_reducible refine keep_onBlock hR _ _ _ (fun _ _ => ?_) ?_
    | with_reducible refine Closed.foldl _ _ _ (fun _ _ _ => ?_) ?_
    | split

theorem keep_execFirmwareActivation (hP : Closed anyField P) (s : State) (hs : P s) :
    ∀ t, exec (.firmwareActivation) s = .next t → P t := by
  have hS := hP.ofAny
  rw [exec_firmwareActivation]
  unfold execFirmwareActivation
  repeat' first
    | with_reducible refine keep_done hP _ _ ?_
    | with_reducible assumption
    | with_reducible refine keep_firmwareActivation hP _ ?_
    | with_reducible refine keep_onHost hS _ _ (fun _ _ => ?_) ?_
    | with_reducible refine Closed.foldl _ _ _ (fun _ _ _ => ?_) ?_
    | split

theorem keep_execRegenEnd (hP : Closed bySettle P) (s : State) (hs : P s) :
    ∀ t, exec (.regenEnd) s = .next t → P t := by
  have hR := hP.ofSettle
  rw [exec_regenEnd]
  unfold execRegenEnd
  repeat' first
    | with_reducible refine keep_done hP _ _ ?_
    | with_reducible assumption
    | with_reducible refine keep_onSpindle hP _ _ (fun _ _ => ?_) ?_
    | with_reducible refine keep_regenEnd hR _ ?_
    | with_reducible refine Closed.foldl _ _ _ (fun _ _ _ => ?_) ?_
    | split

theorem keep_execFmtRunSet (hP : Closed bySettle P) (s : State) (hs : P s) :
    ∀ t, exec (.fmtRunSet) s = .next t → P t := by
  have hR := hP.ofSettle
  rw [exec_fmtRunSet]
  unfold execFmtRunSet
  repeat' first
    | with_reducible refine keep_done hP _ _ ?_
    | with_reducible assumption
    | with_reducible refine keep_fmtRun hR _ _ ?_
    | with_reducible refine keep_onMedia hP _ _ _ (fun _ _ => ?_) ?_
    | with_reducible refine Closed.foldl _ _ _ (fun _ _ _ => ?_) ?_
    | split

theorem keep_execHlkTrainingRx (hP : Closed anyField P) (a : Fin 4) (aInv : Bool) (bInv : Bool) (s : State) (hs : P s) :
    ∀ t, exec (.hlkTrainingRx a aInv bInv) s = .next t → P t := by
  have hS := hP.ofAny
  rw [exec_hlkTrainingRx]
  unfold execHlkTrainingRx
  repeat' first
    | with_reducible refine keep_done hP _ _ ?_
    | with_reducible assumption
    | with_reducible refine keep_hlkTrainingRx hP _ _ _ _ ?_
    | with_reducible refine keep_onMedia hS _ _ _ (fun _ _ => ?_) ?_
    | with_reducible refine Closed.foldl _ _ _ (fun _ _ _ => ?_) ?_
    | split

theorem keep_execShutdownAbrupt (hP : Closed anyField P) (s : State) (hs : P s) :
    ∀ t, exec (.shutdownAbrupt) s = .next t → P t := by
  have hS := hP.ofAny
  rw [exec_shutdownAbrupt]
  unfold execShutdownAbrupt
  repeat' first
    | with_reducible refine keep_done hP _ _ ?_
    | with_reducible assumption
    | with_reducible refine keep_onHost hS _ _ (fun _ _ => ?_) ?_
    | with_reducible refine keep_shutdownAbrupt hP _ ?_
    | with_reducible refine Closed.foldl _ _ _ (fun _ _ _ => ?_) ?_
    | split

theorem keep_execBusMasterDisable (hP : Closed anyField P) (s : State) (hs : P s) :
    ∀ t, exec (.busMasterDisable) s = .next t → P t := by
  have hS := hP.ofAny
  rw [exec_busMasterDisable]
  unfold execBusMasterDisable
  repeat' first
    | with_reducible refine keep_done hP _ _ ?_
    | with_reducible assumption
    | with_reducible refine keep_busMasterDisable hP _ ?_
    | with_reducible refine keep_onPcie hS _ _ (fun _ _ => ?_) ?_
    | with_reducible refine Closed.foldl _ _ _ (fun _ _ _ => ?_) ?_
    | split

theorem keep_execRowCommit (hP : Closed bySettle P) (zone : ℕ) (s : State) (hs : P s) :
    ∀ t, exec (.rowCommit zone) s = .next t → P t := by
  have hR := hP.ofSettle
  rw [exec_rowCommit]
  unfold execRowCommit
  repeat' first
    | with_reducible refine keep_done hP _ _ ?_
    | with_reducible assumption
    | with_reducible refine keep_onDrive hR _ _ (fun _ _ => ?_) ?_
    | with_reducible refine keep_onMedia hP _ _ _ (fun _ _ => ?_) ?_
    | with_reducible refine keep_rowCommit hP _ _ ?_
    | with_reducible refine Closed.foldl _ _ _ (fun _ _ _ => ?_) ?_
    | split

theorem keep_execConfigurationComplete (hP : Closed anyField P) (s : State) (hs : P s) :
    ∀ t, exec (.configurationComplete) s = .next t → P t := by
  rw [exec_configurationComplete]
  unfold execConfigurationComplete
  repeat' first
    | with_reducible refine keep_done hP _ _ ?_
    | with_reducible assumption
    | with_reducible refine keep_signalComplete hP _ ?_
    | with_reducible refine Closed.foldl _ _ _ (fun _ _ _ => ?_) ?_
    | split

theorem keep_execMul (hP : Closed anyField P) (c : Fin 64) (slot : Fin 4) (a : Fin 32) (b : Fin 32) (q : Fin 4) (last : Bool) (s : State) (hs : P s) :
    ∀ t, exec (.mul c slot a b q last) s = .next t → P t := by
  rw [exec_mul]
  unfold execMul
  repeat' first
    | with_reducible refine keep_done hP _ _ ?_
    | with_reducible assumption
    | with_reducible refine keep_engineOp hP _ _ _ _ ?_
    | with_reducible refine Closed.foldl _ _ _ (fun _ _ _ => ?_) ?_
    | split

theorem keep_execPollPeriod (hP : Closed anyField P) (s : State) (hs : P s) :
    ∀ t, exec (.pollPeriod) s = .next t → P t := by
  have hS := hP.ofAny
  rw [exec_pollPeriod]
  unfold execPollPeriod
  repeat' first
    | with_reducible refine keep_done hP _ _ ?_
    | with_reducible assumption
    | with_reducible refine keep_onClaik hS _ _ (fun _ _ => ?_) ?_
    | with_reducible refine keep_pollPeriod hP _ ?_
    | with_reducible refine Closed.foldl _ _ _ (fun _ _ _ => ?_) ?_
    | split

theorem keep_execRebuildRead (hP : Closed bySettle P) (zone : ℕ) (row : ℕ) (pos : ℕ) (mtag : BitVec 24) (s : State) (hs : P s) :
    ∀ t, exec (.rebuildRead zone row pos mtag) s = .next t → P t := by
  rw [exec_rebuildRead]
  unfold execRebuildRead
  repeat' first
    | with_reducible refine keep_done hP _ _ ?_
    | with_reducible assumption
    | with_reducible refine keep_addOp hP _ _ ?_
    | with_reducible refine keep_endOp hP _ _ ?_
    | with_reducible refine keep_onMedia hP _ _ _ (fun _ _ => ?_) ?_
    | with_reducible refine keep_rebuildRead hP _ _ _ _ _ ?_
    | with_reducible refine keep_unitRead hP _ _ _ _ _ _ _ ?_
    | with_reducible refine Closed.foldl _ _ _ (fun _ _ _ => ?_) ?_
    | split

theorem keep_execReconRead (hP : Closed bySettle P) (zone : ℕ) (row : ℕ) (pos : ℕ) (host : Bool) (mtag : BitVec 24) (s : State) (hs : P s) :
    ∀ t, exec (.reconRead zone row pos host mtag) s = .next t → P t := by
  rw [exec_reconRead]
  unfold execReconRead
  repeat' first
    | with_reducible refine keep_done hP _ _ ?_
    | with_reducible assumption
    | with_reducible refine keep_addOp hP _ _ ?_
    | with_reducible refine keep_endOp hP _ _ ?_
    | with_reducible refine keep_onMedia hP _ _ _ (fun _ _ => ?_) ?_
    | with_reducible refine keep_reconRead hP _ _ _ _ _ _ ?_
    | with_reducible refine keep_shelfRecon hP _ _ _ _ _ _ _ ?_
    | with_reducible refine Closed.foldl _ _ _ (fun _ _ _ => ?_) ?_
    | split

theorem keep_execDataLinkUp (hP : Closed anyField P) (speed : Fin 6) (width : ℕ) (rev : Bool) (s : State) (hs : P s) :
    ∀ t, exec (.dataLinkUp speed width rev) s = .next t → P t := by
  have hS := hP.ofAny
  rw [exec_dataLinkUp]
  unfold execDataLinkUp
  repeat' first
    | with_reducible refine keep_done hP _ _ ?_
    | with_reducible assumption
    | with_reducible refine keep_dataLinkUp hP _ _ _ _ ?_
    | with_reducible refine keep_onPcie hS _ _ (fun _ _ => ?_) ?_
    | with_reducible refine Closed.foldl _ _ _ (fun _ _ _ => ?_) ?_
    | split

theorem keep_execAsyncEventRequest (hP : Closed bySettle P) (cid : BitVec 16) (s : State) (hs : P s) :
    ∀ t, exec (.asyncEventRequest cid) s = .next t → P t := by
  rw [exec_asyncEventRequest]
  unfold execAsyncEventRequest
  repeat' first
    | with_reducible refine keep_done hP _ _ ?_
    | with_reducible assumption
    | with_reducible refine keep_adminCmd hP _ _ _ _ (fun _ _ _ => ?_) ?_
    | with_reducible refine keep_asyncEvent hP _ _ ?_
    | with_reducible refine Closed.foldl _ _ _ (fun _ _ _ => ?_) ?_
    | split

theorem keep_execMgrFwGo (hP : Closed anyField P) (s : State) (hs : P s) :
    ∀ t, exec (.mgrFwGo) s = .next t → P t := by
  have hS := hP.ofAny
  rw [exec_mgrFwGo]
  unfold execMgrFwGo
  repeat' first
    | with_reducible refine keep_done hP _ _ ?_
    | with_reducible assumption
    | with_reducible refine keep_mgrFwGo hP _ ?_
    | with_reducible refine keep_onClaik hS _ _ (fun _ _ => ?_) ?_
    | with_reducible refine Closed.foldl _ _ _ (fun _ _ _ => ?_) ?_
    | split

theorem keep_execFrameOpWrite (hP : Closed anyField P) (a : Fin 4) (p : Fin 12) (op : BitVec 512) (s : State) (hs : P s) :
    ∀ t, exec (.frameOpWrite a p op) s = .next t → P t := by
  have hS := hP.ofAny
  rw [exec_frameOpWrite]
  unfold execFrameOpWrite
  repeat' first
    | with_reducible refine keep_done hP _ _ ?_
    | with_reducible assumption
    | with_reducible refine keep_afterFetch hP _ _ _ ?_
    | with_reducible refine keep_onMedia hS _ _ _ (fun _ _ => ?_) ?_
    | with_reducible refine keep_writeWord hP _ _ _ ?_
    | with_reducible refine Closed.foldl _ _ _ (fun _ _ _ => ?_) ?_
    | split

theorem keep_execGroupCommit (hP : Closed anyField P) (b : ShBlk) (i : Fin 48) (g : Fin 8) (cancel : Bool) (s : State) (hs : P s) :
    ∀ t, exec (.groupCommit b i g cancel) s = .next t → P t := by
  have hR := hP.ofAny.ofSettle
  rw [exec_groupCommit]
  unfold execGroupCommit
  repeat' first
    | with_reducible refine keep_done hP _ _ ?_
    | with_reducible assumption
    | with_reducible refine keep_groupCommit hP _ _ _ _ _ ?_
    | with_reducible refine keep_onBlock hR _ _ _ (fun _ _ => ?_) ?_
    | with_reducible refine keep_settleGroup hP _ _ ?_
    | with_reducible refine Closed.foldl _ _ _ (fun _ _ _ => ?_) ?_
    | split

theorem keep_execMergeTimeout (hP : Closed bySettle P) (errs : List ByteErr) (s : State) (hs : P s) :
    ∀ t, exec (.mergeTimeout errs) s = .next t → P t := by
  have hR := hP.ofSettle
  rw [exec_mergeTimeout]
  unfold execMergeTimeout
  repeat' first
    | with_reducible refine keep_done hP _ _ ?_
    | with_reducible assumption
    | with_reducible refine keep_mergeTimeout hP _ _ ?_
    | with_reducible refine keep_onBlock hR _ _ _ (fun _ _ => ?_) ?_
    | with_reducible refine Closed.foldl _ _ _ (fun _ _ _ => ?_) ?_
    | split

theorem keep_execKill (hP : Closed anyField P) (c : Fin 64) (target : Fin 64) (last : Bool) (s : State) (hs : P s) :
    ∀ t, exec (.kill c target last) s = .next t → P t := by
  rw [exec_kill]
  unfold execKill
  repeat' first
    | with_reducible refine keep_done hP _ _ ?_
    | with_reducible assumption
    | with_reducible refine keep_engineOp hP _ _ _ _ ?_
    | with_reducible refine Closed.foldl _ _ _ (fun _ _ _ => ?_) ?_
    | split

theorem keep_execResyncZone (hP : Closed anyField P) (side : Fin 2) (bad : List (ℕ × ℕ)) (scan : List (ℕ × List (BitVec 9))) (last : ℕ) (s : State) (hs : P s) :
    ∀ t, exec (.resyncZone side bad scan last) s = .next t → P t := by
  have hS := hP.ofAny
  rw [exec_resyncZone]
  unfold execResyncZone
  repeat' first
    | with_reducible refine keep_done hP _ _ ?_
    | with_reducible assumption
    | with_reducible refine keep_onMedia hS _ _ _ (fun _ _ => ?_) ?_
    | with_reducible refine keep_resyncLogged hP _ _ _ _ _ ?_
    | with_reducible refine Closed.foldl _ _ _ (fun _ _ _ => ?_) ?_
    | split

theorem keep_execCompletionTimeout (hP : Closed anyField P) (tag : BitVec 10) (s : State) (hs : P s) :
    ∀ t, exec (.completionTimeout tag) s = .next t → P t := by
  have hS := hP.ofAny
  rw [exec_completionTimeout]
  unfold execCompletionTimeout
  repeat' first
    | with_reducible refine keep_done hP _ _ ?_
    | with_reducible assumption
    | with_reducible refine keep_completionTimeout hP _ _ ?_
    | with_reducible refine keep_onPcie hS _ _ (fun _ _ => ?_) ?_
    | with_reducible refine Closed.foldl _ _ _ (fun _ _ _ => ?_) ?_
    | split

theorem keep_execPeerinfo (hP : Closed anyField P) (addr : BitVec 7) (seq : BitVec 4) (s : State) (hs : P s) :
    ∀ t, exec (.peerinfo addr seq) s = .next t → P t := by
  have hS := hP.ofAny
  rw [exec_peerinfo]
  unfold execPeerinfo
  repeat' first
    | with_reducible refine keep_done hP _ _ ?_
    | with_reducible assumption
    | with_reducible refine keep_onClaik hS _ _ (fun _ _ => ?_) ?_
    | with_reducible refine keep_peerinfo hP _ _ _ ?_
    | with_reducible refine Closed.foldl _ _ _ (fun _ _ _ => ?_) ?_
    | split

theorem keep_execWrite (hP : Closed bySettle P) (a : IoArgs) (pi : PiCheck) (s : State) (hs : P s) :
    ∀ t, exec (.write a pi) s = .next t → P t := by
  rw [exec_write]
  unfold execWrite
  repeat' first
    | with_reducible refine keep_done hP _ _ ?_
    | with_reducible assumption
    | with_reducible refine keep_beginWrite hP _ _ ?_
    | with_reducible refine keep_onHost hP _ _ (fun _ _ => ?_) ?_
    | with_reducible refine keep_withIo hP _ _ _ _ _ (fun _ _ _ => ?_) ?_
    | with_reducible refine Closed.foldl _ _ _ (fun _ _ _ => ?_) ?_
    | split

theorem keep_execSrvMemdatRead (hP : Closed anyField P) (a : Fin 4) (s : State) (hs : P s) :
    ∀ t, exec (.srvMemdatRead a) s = .next t → P t := by
  have hR := hP.ofAny.ofSettle
  rw [exec_srvMemdatRead]
  unfold execSrvMemdatRead
  repeat' first
    | with_reducible refine keep_done hP _ _ ?_
    | with_reducible assumption
    | with_reducible refine keep_readOn hR _ _ _ (fun _ _ => ?_) ?_
    | with_reducible refine keep_srvMemdatRead hP _ _ ?_
    | with_reducible refine Closed.foldl _ _ _ (fun _ _ _ => ?_) ?_
    | split

theorem keep_execLoop (hP : Closed anyField P) (c : Fin 64) (target : BitVec 16) (last : Bool) (s : State) (hs : P s) :
    ∀ t, exec (.loop c target last) s = .next t → P t := by
  rw [exec_loop]
  unfold execLoop
  repeat' first
    | with_reducible refine keep_done hP _ _ ?_
    | with_reducible assumption
    | with_reducible refine keep_engineOp hP _ _ _ _ ?_
    | with_reducible refine Closed.foldl _ _ _ (fun _ _ _ => ?_) ?_
    | split

theorem keep_execSyncOutFault (hP : Closed bySettle P) (s : State) (hs : P s) :
    ∀ t, exec (.syncOutFault) s = .next t → P t := by
  have hR := hP.ofSettle
  rw [exec_syncOutFault]
  unfold execSyncOutFault
  repeat' first
    | with_reducible refine keep_done hP _ _ ?_
    | with_reducible assumption
    | with_reducible refine keep_onClaik hP _ _ (fun _ _ => ?_) ?_
    | with_reducible refine keep_syncOutFault hR _ ?_
    | with_reducible refine Closed.foldl _ _ _ (fun _ _ _ => ?_) ?_
    | split

theorem keep_execScrubBlock (hP : Closed anyField P) (errs : List ByteErr) (s : State) (hs : P s) :
    ∀ t, exec (.scrubBlock errs) s = .next t → P t := by
  have hR := hP.ofAny.ofSettle
  rw [exec_scrubBlock]
  unfold execScrubBlock
  repeat' first
    | with_reducible refine keep_done hP _ _ ?_
    | with_reducible assumption
    | with_reducible refine keep_onBlock hR _ _ _ (fun _ _ => ?_) ?_
    | with_reducible refine keep_scrubBlock hP _ _ ?_
    | with_reducible refine Closed.foldl _ _ _ (fun _ _ _ => ?_) ?_
    | split

theorem keep_execFwactivate (hP : Closed anyField P) (addr : BitVec 7) (seq : BitVec 4) (s : State) (hs : P s) :
    ∀ t, exec (.fwactivate addr seq) s = .next t → P t := by
  have hS := hP.ofAny
  rw [exec_fwactivate]
  unfold execFwactivate
  repeat' first
    | with_reducible refine keep_done hP _ _ ?_
    | with_reducible assumption
    | with_reducible refine keep_firmwareActivation hP _ ?_
    | with_reducible refine keep_onClaik hS _ _ (fun _ _ => ?_) ?_
    | with_reducible refine keep_order hP _ _ _ _ _ (fun _ _ => ?_) ?_
    | with_reducible refine Closed.foldl _ _ _ (fun _ _ _ => ?_) ?_
    | split

theorem keep_execOvrrel (hP : Closed anyField P) (c : Fin 64) (out : Fin 256) (last : Bool) (s : State) (hs : P s) :
    ∀ t, exec (.ovrrel c out last) s = .next t → P t := by
  rw [exec_ovrrel]
  unfold execOvrrel
  repeat' first
    | with_reducible refine keep_done hP _ _ ?_
    | with_reducible assumption
    | with_reducible refine keep_engineOp hP _ _ _ _ ?_
    | with_reducible refine Closed.foldl _ _ _ (fun _ _ _ => ?_) ?_
    | split

theorem keep_execEofsCalDone (hP : Closed anyField P) (revs : BitVec 32) (s : State) (hs : P s) :
    ∀ t, exec (.eofsCalDone revs) s = .next t → P t := by
  have hS := hP.ofAny
  rw [exec_eofsCalDone]
  unfold execEofsCalDone
  repeat' first
    | with_reducible refine keep_done hP _ _ ?_
    | with_reducible assumption
    | with_reducible refine keep_eofsCalDone hP _ _ ?_
    | with_reducible refine keep_onSpindle hS _ _ (fun _ _ => ?_) ?_
    | with_reducible refine Closed.foldl _ _ _ (fun _ _ _ => ?_) ?_
    | split

theorem keep_execGlbWarmReset (hP : Closed anyField P) (v : Word) (role : Bool) (bootcs : Bool) (recov : Bool) (s : State) (hs : P s) :
    ∀ t, exec (.glbWarmReset v role bootcs recov) s = .next t → P t := by
  rw [exec_glbWarmReset]
  unfold execGlbWarmReset
  repeat' first
    | with_reducible refine keep_done hP _ _ ?_
    | with_reducible assumption
    | with_reducible refine keep_rstctl hP _ _ _ _ _ ?_
    | with_reducible refine Closed.foldl _ _ _ (fun _ _ _ => ?_) ?_
    | split

theorem keep_execDropoutFlag (hP : Closed anyField P) (b : LaneSamples) (s : State) (hs : P s) :
    ∀ t, exec (.dropoutFlag b) s = .next t → P t := by
  have hR := hP.ofAny.ofSettle
  rw [exec_dropoutFlag]
  unfold execDropoutFlag
  repeat' first
    | with_reducible refine keep_done hP _ _ ?_
    | with_reducible assumption
    | with_reducible refine keep_dropoutFlag hP _ _ _ ?_
    | with_reducible refine keep_onBlock hR _ _ _ (fun _ _ => ?_) ?_
    | with_reducible refine Closed.foldl _ _ _ (fun _ _ _ => ?_) ?_
    | split

theorem keep_execLda (hP : Closed anyField P) (c : Fin 64) (slot : Fin 4) (a : Fin 32) (last : Bool) (s : State) (hs : P s) :
    ∀ t, exec (.lda c slot a last) s = .next t → P t := by
  rw [exec_lda]
  unfold execLda
  repeat' first
    | with_reducible refine keep_done hP _ _ ?_
    | with_reducible assumption
    | with_reducible refine keep_engineOp hP _ _ _ _ ?_
    | with_reducible refine Closed.foldl _ _ _ (fun _ _ _ => ?_) ?_
    | split

theorem keep_execD0Entry (hP : Closed anyField P) (s : State) (hs : P s) :
    ∀ t, exec (.d0Entry) s = .next t → P t := by
  have hS := hP.ofAny
  rw [exec_d0Entry]
  unfold execD0Entry
  repeat' first
    | with_reducible refine keep_done hP _ _ ?_
    | with_reducible assumption
    | with_reducible refine keep_d0Entry hP _ ?_
    | with_reducible refine keep_onPcie hS _ _ (fun _ _ => ?_) ?_
    | with_reducible refine Closed.foldl _ _ _ (fun _ _ _ => ?_) ?_
    | split

theorem keep_execDramTrainingDone (hP : Closed anyField P) (fail : BitVec 4) (time : BitVec 16) (s : State) (hs : P s) :
    ∀ t, exec (.dramTrainingDone fail time) s = .next t → P t := by
  rw [exec_dramTrainingDone]
  unfold execDramTrainingDone
  repeat' first
    | with_reducible refine keep_done hP _ _ ?_
    | with_reducible assumption
    | with_reducible refine keep_dramTrainingDone hP _ _ _ ?_
    | with_reducible refine Closed.foldl _ _ _ (fun _ _ _ => ?_) ?_
    | split

theorem keep_execCursorUpdate (hP : Closed bySettle P) (s : State) (hs : P s) :
    ∀ t, exec (.cursorUpdate) s = .next t → P t := by
  rw [exec_cursorUpdate]
  unfold execCursorUpdate
  repeat' first
    | with_reducible refine keep_done hP _ _ ?_
    | with_reducible assumption
    | with_reducible refine keep_cursorUpdate hP _ ?_
    | with_reducible refine keep_onMedia hP _ _ _ (fun _ _ => ?_) ?_
    | with_reducible refine Closed.foldl _ _ _ (fun _ _ _ => ?_) ?_
    | split

theorem keep_execAcdRun (hP : Closed anyField P) (run : Bool) (s : State) (hs : P s) :
    ∀ t, exec (.acdRun run) s = .next t → P t := by
  have hS := hP.ofAny
  rw [exec_acdRun]
  unfold execAcdRun
  repeat' first
    | with_reducible refine keep_done hP _ _ ?_
    | with_reducible assumption
    | with_reducible refine keep_acdRun hP _ _ ?_
    | with_reducible refine keep_onMedia hS _ _ _ (fun _ _ => ?_) ?_
    | with_reducible refine keep_reachPhase hP _ _ ?_
    | with_reducible refine keep_readTables hP _ ?_
    | with_reducible refine Closed.foldl _ _ _ (fun _ _ _ => ?_) ?_
    | split

theorem keep_execLpeKill (hP : Closed byRaise P) (hi : Bool) (v : Word) (s : State) (hs : P s) :
    ∀ t, exec (.lpeKill hi v) s = .next t → P t := by
  rw [exec_lpeKill]
  unfold execLpeKill
  repeat' first
    | with_reducible refine keep_done hP _ _ ?_
    | with_reducible assumption
    | with_reducible refine keep_lpeKill hP _ _ _ ?_
    | with_reducible refine keep_onBlock hP _ _ _ (fun _ _ => ?_) ?_
    | with_reducible refine Closed.foldl _ _ _ (fun _ _ _ => ?_) ?_
    | split

theorem keep_execResetNDeassert (hP : Closed anyField P) (role : Bool) (bootcs : Bool) (recov : Bool) (s : State) (hs : P s) :
    ∀ t, exec (.resetNDeassert role bootcs recov) s = .next t → P t := by
  rw [exec_resetNDeassert]
  unfold execResetNDeassert
  repeat' first
    | with_reducible refine keep_done hP _ _ ?_
    | with_reducible assumption
    | with_reducible refine keep_resetNDeassert hP _ _ _ _ ?_
    | with_reducible refine Closed.foldl _ _ _ (fun _ _ _ => ?_) ?_
    | split

theorem keep_execSysRead (hP : Closed bySettle P) (surface : Fin 24) (track : BitVec 21) (slot : BitVec 8) (mtag : BitVec 24) (s : State) (hs : P s) :
    ∀ t, exec (.sysRead surface track slot mtag) s = .next t → P t := by
  have hR := hP.ofSettle
  rw [exec_sysRead]
  unfold execSysRead
  repeat' first
    | with_reducible refine keep_done hP _ _ ?_
    | with_reducible assumption
    | with_reducible refine keep_onDrive hR _ _ (fun _ _ => ?_) ?_
    | with_reducible refine keep_onMedia hP _ _ _ (fun _ _ => ?_) ?_
    | with_reducible refine keep_sysOp hP _ _ _ _ _ _ _ ?_
    | with_reducible refine Closed.foldl _ _ _ (fun _ _ _ => ?_) ?_
    | split

theorem keep_execGrant (hP : Closed anyField P) (addr : BitVec 7) (seq : BitVec 4) (tokens : Byte) (s : State) (hs : P s) :
    ∀ t, exec (.grant addr seq tokens) s = .next t → P t := by
  have hS := hP.ofAny
  rw [exec_grant]
  unfold execGrant
  repeat' first
    | with_reducible refine keep_done hP _ _ ?_
    | with_reducible assumption
    | with_reducible refine keep_grant hP _ _ _ _ ?_
    | with_reducible refine keep_onClaik hS _ _ (fun _ _ => ?_) ?_
    | with_reducible refine Closed.foldl _ _ _ (fun _ _ _ => ?_) ?_
    | split

theorem keep_execBr (hP : Closed anyField P) (c : Fin 64) (cond : Cond) (target : BitVec 16) (last : Bool) (s : State) (hs : P s) :
    ∀ t, exec (.br c cond target last) s = .next t → P t := by
  rw [exec_br]
  unfold execBr
  repeat' first
    | with_reducible refine keep_done hP _ _ ?_
    | with_reducible assumption
    | with_reducible refine keep_engineOp hP _ _ _ _ ?_
    | with_reducible refine Closed.foldl _ _ _ (fun _ _ _ => ?_) ?_
    | split

theorem keep_execActuatorLost (hP : Closed anyField P) (a : Fin 4) (s : State) (hs : P s) :
    ∀ t, exec (.actuatorLost a) s = .next t → P t := by
  have hS := hP.ofAny
  rw [exec_actuatorLost]
  unfold execActuatorLost
  repeat' first
    | with_reducible refine keep_done hP _ _ ?_
    | with_reducible assumption
    | with_reducible refine keep_actuatorLost hP _ _ ?_
    | with_reducible refine keep_onMedia hS _ _ _ (fun _ _ => ?_) ?_
    | with_reducible refine Closed.foldl _ _ _ (fun _ _ _ => ?_) ?_
    | split

theorem keep_execCmt (hP : Closed anyField P) (c : Fin 64) (last : Bool) (s : State) (hs : P s) :
    ∀ t, exec (.cmt c last) s = .next t → P t := by
  rw [exec_cmt]
  unfold execCmt
  repeat' first
    | with_reducible refine keep_done hP _ _ ?_
    | with_reducible assumption
    | with_reducible refine keep_engineOp hP _ _ _ _ ?_
    | with_reducible refine Closed.foldl _ _ _ (fun _ _ _ => ?_) ?_
    | split

theorem keep_execHlkOrientTimeout (hP : Closed anyField P) (a : Fin 4) (s : State) (hs : P s) :
    ∀ t, exec (.hlkOrientTimeout a) s = .next t → P t := by
  have hS := hP.ofAny
  rw [exec_hlkOrientTimeout]
  unfold execHlkOrientTimeout
  repeat' first
    | with_reducible refine keep_done hP _ _ ?_
    | with_reducible assumption
    | with_reducible refine keep_hlkOrientTimeout hP _ _ ?_
    | with_reducible refine keep_onMedia hS _ _ _ (fun _ _ => ?_) ?_
    | with_reducible refine Closed.foldl _ _ _ (fun _ _ _ => ?_) ?_
    | split

theorem keep_execDecodeDone (hP : Closed anyField P) (d : Fin 32) (o : DecodeOut) (s : State) (hs : P s) :
    ∀ t, exec (.decodeDone d o) s = .next t → P t := by
  have hS := hP.ofAny
  rw [exec_decodeDone]
  unfold execDecodeDone
  repeat' first
    | with_reducible refine keep_done hP _ _ ?_
    | with_reducible assumption
    | with_reducible refine keep_decodeDone hP _ _ _ ?_
    | with_reducible refine keep_onMedia hS _ _ _ (fun _ _ => ?_) ?_
    | with_reducible refine Closed.foldl _ _ _ (fun _ _ _ => ?_) ?_
    | split

theorem keep_execRebuildRow (hP : Closed bySettle P) (r : RebuildTurn) (s : State) (hs : P s) :
    ∀ t, exec (.rebuildRow r) s = .next t → P t := by
  rw [exec_rebuildRow]
  unfold execRebuildRow
  repeat' first
    | with_reducible refine keep_done hP _ _ ?_
    | with_reducible assumption
    | with_reducible refine keep_onMedia hP _ _ _ (fun _ _ => ?_) ?_
    | with_reducible refine keep_rebuildRow hP _ _ _ ?_
    | with_reducible refine Closed.foldl _ _ _ (fun _ _ _ => ?_) ?_
    | split

theorem keep_execResetDrainTimeout (hP : Closed bySettle P) (s : State) (hs : P s) :
    ∀ t, exec (.resetDrainTimeout) s = .next t → P t := by
  rw [exec_resetDrainTimeout]
  unfold execResetDrainTimeout
  repeat' first
    | with_reducible refine keep_done hP _ _ ?_
    | with_reducible assumption
    | with_reducible refine keep_onHost hP _ _ (fun _ _ => ?_) ?_
    | with_reducible refine keep_resetDrainTimeout hP _ ?_
    | with_reducible refine Closed.foldl _ _ _ (fun _ _ _ => ?_) ?_
    | split

theorem keep_execClearingRead (hP : Closed anyField P) (addr : Addr) (quiet : Bool) (s : State) (hs : P s) :
    ∀ t, exec (.clearingRead addr quiet) s = .next t → P t := by
  rw [exec_clearingRead]
  unfold execClearingRead
  repeat' first
    | with_reducible refine keep_done hP _ _ ?_
    | with_reducible assumption
    | with_reducible refine keep_registerRead hP _ _ _ ?_
    | with_reducible refine Closed.foldl _ _ _ (fun _ _ _ => ?_) ?_
    | split

theorem keep_execCmtend (hP : Closed anyField P) (c : Fin 64) (last : Bool) (s : State) (hs : P s) :
    ∀ t, exec (.cmtend c last) s = .next t → P t := by
  rw [exec_cmtend]
  unfold execCmtend
  repeat' first
    | with_reducible refine keep_done hP _ _ ?_
    | with_reducible assumption
    | with_reducible refine keep_engineOp hP _ _ _ _ ?_
    | with_reducible refine Closed.foldl _ _ _ (fun _ _ _ => ?_) ?_
    | split

theorem keep_execFmtRunClear (hP : Closed bySettle P) (s : State) (hs : P s) :
    ∀ t, exec (.fmtRunClear) s = .next t → P t := by
  have hR := hP.ofSettle
  rw [exec_fmtRunClear]
  unfold execFmtRunClear
  repeat' first
    | with_reducible refine keep_done hP _ _ ?_
    | with_reducible assumption
    | with_reducible refine keep_fmtRun hR _ _ ?_
    | with_reducible refine keep_onMedia hP _ _ _ (fun _ _ => ?_) ?_
    | with_reducible refine Closed.foldl _ _ _ (fun _ _ _ => ?_) ?_
    | split

theorem keep_execBypass (hP : Closed anyField P) (s : State) (hs : P s) :
    ∀ t, exec (.bypass) s = .next t → P t := by
  rw [exec_bypass]
  unfold execBypass
  repeat' first
    | with_reducible refine keep_done hP _ _ ?_
    | with_reducible assumption
    | with_reducible refine keep_tapTo hP _ _ ?_
    | with_reducible refine Closed.foldl _ _ _ (fun _ _ _ => ?_) ?_
    | split

theorem keep_execAck (hP : Closed anyField P) (addr : BitVec 7) (_seq : BitVec 4) (value : Byte) (s : State) (hs : P s) :
    ∀ t, exec (.ack addr _seq value) s = .next t → P t := by
  have hS := hP.ofAny
  rw [exec_ack]
  unfold execAck
  repeat' first
    | with_reducible refine keep_done hP _ _ ?_
    | with_reducible assumption
    | with_reducible refine keep_ack hP _ _ _ ?_
    | with_reducible refine keep_onClaik hS _ _ (fun _ _ => ?_) ?_
    | with_reducible refine Closed.foldl _ _ _ (fun _ _ _ => ?_) ?_
    | split

theorem keep_execImageLoadDone (hP : Closed anyField P) (found : ImageChecks) (s : State) (hs : P s) :
    ∀ t, exec (.imageLoadDone found) s = .next t → P t := by
  have hS := hP.ofAny
  rw [exec_imageLoadDone]
  unfold execImageLoadDone
  repeat' first
    | with_reducible refine keep_done hP _ _ ?_
    | with_reducible assumption
    | with_reducible refine keep_imageLoadDone hP _ _ ?_
    | with_reducible refine keep_onMedia hS _ _ _ (fun _ _ => ?_) ?_
    | with_reducible refine Closed.foldl _ _ _ (fun _ _ _ => ?_) ?_
    | split

theorem keep_execBrakeEnd (hP : Closed anyField P) (s : State) (hs : P s) :
    ∀ t, exec (.brakeEnd) s = .next t → P t := by
  have hS := hP.ofAny
  rw [exec_brakeEnd]
  unfold execBrakeEnd
  repeat' first
    | with_reducible refine keep_done hP _ _ ?_
    | with_reducible assumption
    | with_reducible refine keep_brakeEnd hP _ ?_
    | with_reducible refine keep_onSpindle hS _ _ (fun _ _ => ?_) ?_
    | with_reducible refine Closed.foldl _ _ _ (fun _ _ _ => ?_) ?_
    | split

theorem keep_execCheckpointRestore (hP : Closed anyField P) (badSaves : List (ℕ × ℕ)) (badRecords : List (ℕ × ℕ)) (s : State) (hs : P s) :
    ∀ t, exec (.checkpointRestore badSaves badRecords) s = .next t → P t := by
  have hS := hP.ofAny
  rw [exec_checkpointRestore]
  unfold execCheckpointRestore
  repeat' first
    | with_reducible refine keep_done hP _ _ ?_
    | with_reducible assumption
    | with_reducible refine keep_checkpointRestore hP _ _ _ ?_
    | with_reducible refine keep_onMedia hS _ _ _ (fun _ _ => ?_) ?_
    | with_reducible refine keep_readTables hP _ ?_
    | with_reducible refine Closed.foldl _ _ _ (fun _ _ _ => ?_) ?_
    | split

theorem keep_execL1Entry (hP : Closed bySettle P) (s : State) (hs : P s) :
    ∀ t, exec (.l1Entry) s = .next t → P t := by
  have hR := hP.ofSettle
  rw [exec_l1Entry]
  unfold execL1Entry
  repeat' first
    | with_reducible refine keep_done hP _ _ ?_
    | with_reducible assumption
    | with_reducible refine keep_l1Entry hP _ ?_
    | with_reducible refine keep_onBlock hR _ _ _ (fun _ _ => ?_) ?_
    | with_reducible refine Closed.foldl _ _ _ (fun _ _ _ => ?_) ?_
    | split

theorem keep_execHlkAckTimeout (hP : Closed anyField P) (a : Fin 4) (s : State) (hs : P s) :
    ∀ t, exec (.hlkAckTimeout a) s = .next t → P t := by
  have hS := hP.ofAny
  rw [exec_hlkAckTimeout]
  unfold execHlkAckTimeout
  repeat' first
    | with_reducible refine keep_done hP _ _ ?_
    | with_reducible assumption
    | with_reducible refine keep_hlkAckTimeout hP _ _ ?_
    | with_reducible refine keep_onMedia hS _ _ _ (fun _ _ => ?_) ?_
    | with_reducible refine Closed.foldl _ _ _ (fun _ _ _ => ?_) ?_
    | split

theorem keep_execD3hotEntry (hP : Closed anyField P) (s : State) (hs : P s) :
    ∀ t, exec (.d3hotEntry) s = .next t → P t := by
  have hS := hP.ofAny
  rw [exec_d3hotEntry]
  unfold execD3hotEntry
  repeat' first
    | with_reducible refine keep_done hP _ _ ?_
    | with_reducible assumption
    | with_reducible refine keep_d3hotEntry hP _ ?_
    | with_reducible refine keep_onPcie hS _ _ (fun _ _ => ?_) ?_
    | with_reducible refine Closed.foldl _ _ _ (fun _ _ _ => ?_) ?_
    | split

theorem keep_execWriteRow (hP : Closed bySettle P) (zone : ℕ) (row : ℕ) (mtag : BitVec 24) (s : State) (hs : P s) :
    ∀ t, exec (.writeRow zone row mtag) s = .next t → P t := by
  have hR := hP.ofSettle
  rw [exec_writeRow]
  unfold execWriteRow
  repeat' first
    | with_reducible refine keep_done hP _ _ ?_
    | with_reducible assumption
    | with_reducible refine keep_onDrive hR _ _ (fun _ _ => ?_) ?_
    | with_reducible refine keep_onMedia hP _ _ _ (fun _ _ => ?_) ?_
    | with_reducible refine keep_writeRow hP _ _ _ _ ?_
    | with_reducible refine Closed.foldl _ _ _ (fun _ _ _ => ?_) ?_
    | split

theorem keep_execDiscoverResponseSlot (hP : Closed anyField P) (s : State) (hs : P s) :
    ∀ t, exec (.discoverResponseSlot) s = .next t → P t := by
  have hS := hP.ofAny
  rw [exec_discoverResponseSlot]
  unfold execDiscoverResponseSlot
  repeat' first
    | with_reducible refine keep_done hP _ _ ?_
    | with_reducible assumption
    | with_reducible refine keep_discoverSlot hP _ ?_
    | with_reducible refine keep_onClaik hS _ _ (fun _ _ => ?_) ?_
    | with_reducible refine Closed.foldl _ _ _ (fun _ _ _ => ?_) ?_
    | split

theorem keep_execClaikReplyTimeout (hP : Closed anyField P) (s : State) (hs : P s) :
    ∀ t, exec (.claikReplyTimeout) s = .next t → P t := by
  have hS := hP.ofAny
  rw [exec_claikReplyTimeout]
  unfold execClaikReplyTimeout
  repeat' first
    | with_reducible refine keep_done hP _ _ ?_
    | with_reducible assumption
    | with_reducible refine keep_claikTimeout hP _ ?_
    | with_reducible refine keep_onClaik hS _ _ (fun _ _ => ?_) ?_
    | with_reducible refine Closed.foldl _ _ _ (fun _ _ _ => ?_) ?_
    | split

theorem keep_execHlkFaultFlagsRx (hP : Closed anyField P) (a : Fin 4) (pkt : BitVec 48) (s : State) (hs : P s) :
    ∀ t, exec (.hlkFaultFlagsRx a pkt) s = .next t → P t := by
  have hS := hP.ofAny
  rw [exec_hlkFaultFlagsRx]
  unfold execHlkFaultFlagsRx
  repeat' first
    | with_reducible refine keep_done hP _ _ ?_
    | with_reducible assumption
    | with_reducible refine keep_hlkFaultFlagsRx hP _ _ _ ?_
    | with_reducible refine keep_onMedia hS _ _ _ (fun _ _ => ?_) ?_
    | with_reducible refine Closed.foldl _ _ _ (fun _ _ _ => ?_) ?_
    | split

theorem keep_execClamp (hP : Closed anyField P) (s : State) (hs : P s) :
    ∀ t, exec (.clamp) s = .next t → P t := by
  rw [exec_clamp]
  unfold execClamp
  repeat' first
    | with_reducible refine keep_done hP _ _ ?_
    | with_reducible assumption
    | with_reducible refine keep_tapTo hP _ _ ?_
    | with_reducible refine Closed.foldl _ _ _ (fun _ _ _ => ?_) ?_
    | split

theorem keep_execSillagePeriodCapture (hP : Closed anyField P) (u : Fin 8) (s : State) (hs : P s) :
    ∀ t, exec (.sillagePeriodCapture u) s = .next t → P t := by
  have hR := hP.ofAny.ofSettle
  rw [exec_sillagePeriodCapture]
  unfold execSillagePeriodCapture
  repeat' first
    | with_reducible refine keep_done hP _ _ ?_
    | with_reducible assumption
    | with_reducible refine keep_onBlock hR _ _ _ (fun _ _ => ?_) ?_
    | with_reducible refine keep_sillagePeriod hP _ _ ?_
    | with_reducible refine Closed.foldl _ _ _ (fun _ _ _ => ?_) ?_
    | split

theorem keep_execGlbColdReset (hP : Closed anyField P) (v : Word) (role : Bool) (bootcs : Bool) (recov : Bool) (s : State) (hs : P s) :
    ∀ t, exec (.glbColdReset v role bootcs recov) s = .next t → P t := by
  rw [exec_glbColdReset]
  unfold execGlbColdReset
  repeat' first
    | with_reducible refine keep_done hP _ _ ?_
    | with_reducible assumption
    | with_reducible refine keep_rstctl hP _ _ _ _ _ ?_
    | with_reducible refine Closed.foldl _ _ _ (fun _ _ _ => ?_) ?_
    | split

theorem keep_execReferenceClockReturn (hP : Closed bySettle P) (pcie : Bool) (s : State) (hs : P s) :
    ∀ t, exec (.referenceClockReturn pcie) s = .next t → P t := by
  have hR := hP.ofSettle
  rw [exec_referenceClockReturn]
  unfold execReferenceClockReturn
  repeat' first
    | with_reducible refine keep_done hP _ _ ?_
    | with_reducible assumption
    | with_reducible refine keep_clockReturn hR _ _ ?_
    | with_reducible refine keep_onCollector hP _ _ (fun _ _ => ?_) ?_
    | with_reducible refine Closed.foldl _ _ _ (fun _ _ _ => ?_) ?_
    | split

theorem keep_execLadderTimeout (hP : Closed bySettle P) (mtag : BitVec 24) (s : State) (hs : P s) :
    ∀ t, exec (.ladderTimeout mtag) s = .next t → P t := by
  rw [exec_ladderTimeout]
  unfold execLadderTimeout
  repeat' first
    | with_reducible refine keep_done hP _ _ ?_
    | with_reducible assumption
    | with_reducible refine keep_ladderTimeout hP _ _ ?_
    | with_reducible refine keep_onMedia hP _ _ _ (fun _ _ => ?_) ?_
    | with_reducible refine Closed.foldl _ _ _ (fun _ _ _ => ?_) ?_
    | split

theorem keep_execFrameWriteStart (hP : Closed anyField P) (l : Fin 48) (s : State) (hs : P s) :
    ∀ t, exec (.frameWriteStart l) s = .next t → P t := by
  have hS := hP.ofAny
  rw [exec_frameWriteStart]
  unfold execFrameWriteStart
  repeat' first
    | with_reducible refine keep_done hP _ _ ?_
    | with_reducible assumption
    | with_reducible refine keep_frameWriteStart hP _ _ ?_
    | with_reducible refine keep_onMedia hS _ _ _ (fun _ _ => ?_) ?_
    | with_reducible refine Closed.foldl _ _ _ (fun _ _ _ => ?_) ?_
    | split

theorem keep_execJmp (hP : Closed anyField P) (c : Fin 64) (target : BitVec 16) (last : Bool) (s : State) (hs : P s) :
    ∀ t, exec (.jmp c target last) s = .next t → P t := by
  rw [exec_jmp]
  unfold execJmp
  repeat' first
    | with_reducible refine keep_done hP _ _ ?_
    | with_reducible assumption
    | with_reducible refine keep_engineOp hP _ _ _ _ ?_
    | with_reducible refine Closed.foldl _ _ _ (fun _ _ _ => ?_) ?_
    | split

theorem keep_execHlkPacketSent (hP : Closed anyField P) (a : Fin 4) (s : State) (hs : P s) :
    ∀ t, exec (.hlkPacketSent a) s = .next t → P t := by
  have hS := hP.ofAny
  rw [exec_hlkPacketSent]
  unfold execHlkPacketSent
  repeat' first
    | with_reducible refine keep_done hP _ _ ?_
    | with_reducible assumption
    | with_reducible refine keep_hlkPacketSent hP _ _ ?_
    | with_reducible refine keep_onMedia hS _ _ _ (fun _ _ => ?_) ?_
    | with_reducible refine Closed.foldl _ _ _ (fun _ _ _ => ?_) ?_
    | split

theorem keep_execBufFence (hP : Closed bySettle P) (s : State) (hs : P s) :
    ∀ t, exec (.bufFence) s = .next t → P t := by
  have hR := hP.ofSettle
  rw [exec_bufFence]
  unfold execBufFence
  repeat' first
    | with_reducible refine keep_done hP _ _ ?_
    | with_reducible assumption
    | with_reducible refine keep_bufFence hP _ ?_
    | with_reducible refine keep_onBlock hR _ _ _ (fun _ _ => ?_) ?_
    | with_reducible refine Closed.foldl _ _ _ (fun _ _ _ => ?_) ?_
    | split

theorem keep_execLoadTimeout (hP : Closed anyField P) (a : Fin 4) (s : State) (hs : P s) :
    ∀ t, exec (.loadTimeout a) s = .next t → P t := by
  have hS := hP.ofAny
  rw [exec_loadTimeout]
  unfold execLoadTimeout
  repeat' first
    | with_reducible refine keep_done hP _ _ ?_
    | with_reducible assumption
    | with_reducible refine keep_loadTimeout hP _ _ ?_
    | with_reducible refine keep_onMedia hS _ _ _ (fun _ _ => ?_) ?_
    | with_reducible refine Closed.foldl _ _ _ (fun _ _ _ => ?_) ?_
    | split

theorem keep_execDramWrite (hP : Closed anyField P) (who : BufMaster) (addr : Addr) (data : List Byte) (errs : List ByteErr) (s : State) (hs : P s) :
    ∀ t, exec (.dramWrite who addr data errs) s = .next t → P t := by
  have hS := hP.ofAny
  rw [exec_dramWrite]
  unfold execDramWrite
  repeat' first
    | with_reducible refine keep_done hP _ _ ?_
    | with_reducible assumption
    | with_reducible refine keep_dramWrite hP _ _ _ _ _ ?_
    | with_reducible refine keep_failOwner hS _ _ _ ?_ ?_
    | with_reducible refine keep_onMedia hS _ _ _ (fun _ _ => ?_) ?_
    | with_reducible refine Closed.foldl _ _ _ (fun _ _ _ => ?_) ?_
    | split

theorem keep_execHighz (hP : Closed anyField P) (s : State) (hs : P s) :
    ∀ t, exec (.highz) s = .next t → P t := by
  rw [exec_highz]
  unfold execHighz
  repeat' first
    | with_reducible refine keep_done hP _ _ ?_
    | with_reducible assumption
    | with_reducible refine keep_tapTo hP _ _ ?_
    | with_reducible refine Closed.foldl _ _ _ (fun _ _ _ => ?_) ?_
    | split

theorem keep_execPowerLoss (hP : Closed bySettle P) (s : State) (hs : P s) :
    ∀ t, exec (.powerLoss) s = .next t → P t := by
  have hR := hP.ofSettle
  rw [exec_powerLoss]
  unfold execPowerLoss
  repeat' first
    | with_reducible refine keep_done hP _ _ ?_
    | with_reducible assumption
    | with_reducible refine keep_onSpindle hP _ _ (fun _ _ => ?_) ?_
    | with_reducible refine keep_powerLoss hR _ ?_
    | with_reducible refine Closed.foldl _ _ _ (fun _ _ _ => ?_) ?_
    | split

theorem keep_execSillageForce (hP : Closed byRaise P) (u : Fin 8) (s : State) (hs : P s) :
    ∀ t, exec (.sillageForce u) s = .next t → P t := by
  rw [exec_sillageForce]
  unfold execSillageForce
  repeat' first
    | with_reducible refine keep_done hP _ _ ?_
    | with_reducible assumption
    | with_reducible refine keep_onBlock hP _ _ _ (fun _ _ => ?_) ?_
    | with_reducible refine keep_sillageForce hP _ _ ?_
    | with_reducible refine Closed.foldl _ _ _ (fun _ _ _ => ?_) ?_
    | split

theorem keep_execRecoveryWindowClose (hP : Closed anyField P) (n : Fin 512) (s : State) (hs : P s) :
    ∀ t, exec (.recoveryWindowClose n) s = .next t → P t := by
  have hR := hP.ofAny.ofSettle
  rw [exec_recoveryWindowClose]
  unfold execRecoveryWindowClose
  repeat' first
    | with_reducible refine keep_done hP _ _ ?_
    | with_reducible assumption
    | with_reducible refine keep_onAon hR _ _ (fun _ _ => ?_) ?_
    | with_reducible refine keep_recoveryWindowClose hP _ _ ?_
    | with_reducible refine Closed.foldl _ _ _ (fun _ _ _ => ?_) ?_
    | split

theorem keep_execClr (hP : Closed anyField P) (c : Fin 64) (slot : Fin 4) (last : Bool) (s : State) (hs : P s) :
    ∀ t, exec (.clr c slot last) s = .next t → P t := by
  rw [exec_clr]
  unfold execClr
  repeat' first
    | with_reducible refine keep_done hP _ _ ?_
    | with_reducible assumption
    | with_reducible refine keep_engineOp hP _ _ _ _ ?_
    | with_reducible refine Closed.foldl _ _ _ (fun _ _ _ => ?_) ?_
    | split

theorem keep_execReservedType (hP : Closed anyField P) (up : Bool) (s : State) (hs : P s) :
    ∀ t, exec (.reservedType up) s = .next t → P t := by
  have hS := hP.ofAny
  rw [exec_reservedType]
  unfold execReservedType
  repeat' first
    | with_reducible refine keep_done hP _ _ ?_
    | with_reducible assumption
    | with_reducible refine keep_onClaik hS _ _ (fun _ _ => ?_) ?_
    | with_reducible refine keep_reservedType hP _ _ ?_
    | with_reducible refine Closed.foldl _ _ _ (fun _ _ _ => ?_) ?_
    | split

theorem keep_execBusMasterEnable (hP : Closed anyField P) (inTime : Bool) (s : State) (hs : P s) :
    ∀ t, exec (.busMasterEnable inTime) s = .next t → P t := by
  have hS := hP.ofAny
  rw [exec_busMasterEnable]
  unfold execBusMasterEnable
  repeat' first
    | with_reducible refine keep_done hP _ _ ?_
    | with_reducible assumption
    | with_reducible refine keep_busMasterEnable hP _ _ ?_
    | with_reducible refine keep_onPcie hS _ _ (fun _ _ => ?_) ?_
    | with_reducible refine Closed.foldl _ _ _ (fun _ _ _ => ?_) ?_
    | split

theorem keep_execCcEnable (hP : Closed anyField P) (v : Word) (s : State) (hs : P s) :
    ∀ t, exec (.ccEnable v) s = .next t → P t := by
  have hS := hP.ofAny
  rw [exec_ccEnable]
  unfold execCcEnable
  repeat' first
    | with_reducible refine keep_done hP _ _ ?_
    | with_reducible assumption
    | with_reducible refine keep_ccEnable hP _ _ ?_
    | with_reducible refine keep_onHost hS _ _ (fun _ _ => ?_) ?_
    | with_reducible refine Closed.foldl _ _ _ (fun _ _ _ => ?_) ?_
    | split

theorem keep_execCheckpointWritten (hP : Closed bySettle P) (failed : Bool) (s : State) (hs : P s) :
    ∀ t, exec (.checkpointWritten failed) s = .next t → P t := by
  rw [exec_checkpointWritten]
  unfold execCheckpointWritten
  repeat' first
    | with_reducible refine keep_done hP _ _ ?_
    | with_reducible assumption
    | with_reducible refine keep_checkpointWritten hP _ _ ?_
    | with_reducible refine keep_onMedia hP _ _ _ (fun _ _ => ?_) ?_
    | with_reducible refine Closed.foldl _ _ _ (fun _ _ _ => ?_) ?_
    | split

theorem keep_execRowSubmit (hP : Closed anyField P) (zone : ℕ) (s : State) (hs : P s) :
    ∀ t, exec (.rowSubmit zone) s = .next t → P t := by
  have hS := hP.ofAny
  rw [exec_rowSubmit]
  unfold execRowSubmit
  repeat' first
    | with_reducible refine keep_done hP _ _ ?_
    | with_reducible assumption
    | with_reducible refine keep_onMedia hS _ _ _ (fun _ _ => ?_) ?_
    | with_reducible refine keep_shelfSubmit hS _ _ ?_
    | with_reducible refine keep_submitRow hP _ _ ?_
    | with_reducible refine Closed.foldl _ _ _ (fun _ _ _ => ?_) ?_
    | split

theorem keep_execLoadokSet (hP : Closed bySettle P) (s : State) (hs : P s) :
    ∀ t, exec (.loadokSet) s = .next t → P t := by
  have hR := hP.ofSettle
  rw [exec_loadokSet]
  unfold execLoadokSet
  repeat' first
    | with_reducible refine keep_done hP _ _ ?_
    | with_reducible assumption
    | with_reducible refine keep_loadokSet hR _ ?_
    | with_reducible refine keep_onSpindle hP _ _ (fun _ _ => ?_) ?_
    | with_reducible refine Closed.foldl _ _ _ (fun _ _ _ => ?_) ?_
    | split

theorem keep_execDiscoverRoundEnd (hP : Closed anyField P) (s : State) (hs : P s) :
    ∀ t, exec (.discoverRoundEnd) s = .next t → P t := by
  have hS := hP.ofAny
  rw [exec_discoverRoundEnd]
  unfold execDiscoverRoundEnd
  repeat' first
    | with_reducible refine keep_done hP _ _ ?_
    | with_reducible assumption
    | with_reducible refine keep_discoverRoundEnd hP _ ?_
    | with_reducible refine keep_onClaik hS _ _ (fun _ _ => ?_) ?_
    | with_reducible refine Closed.foldl _ _ _ (fun _ _ _ => ?_) ?_
    | split

theorem keep_execSpeedLoopUpdate (hP : Closed anyField P) (d0 : ℤ) (d1 : ℕ) (d2 : ℕ) (d3 : ℕ) (speed : BitVec 20) (age : BitVec 16) (sameEpoch : Bool) (rest : BitVec 16) (s : State) (hs : P s) :
    ∀ t, exec (.speedLoopUpdate d0 d1 d2 d3 speed age sameEpoch rest) s = .next t → P t := by
  have hS := hP.ofAny
  rw [exec_speedLoopUpdate]
  unfold execSpeedLoopUpdate
  repeat' first
    | with_reducible refine keep_done hP _ _ ?_
    | with_reducible assumption
    | with_reducible refine keep_onSpinTick hS _ _ (fun _ _ => ?_) ?_
    | with_reducible refine keep_speedLoopUpdate hP _ _ _ _ _ _ _ _ _ ?_
    | with_reducible refine Closed.foldl _ _ _ (fun _ _ _ => ?_) ?_
    | split

theorem keep_execLinkDownRetract (hP : Closed bySettle P) (a : Fin 4) (s : State) (hs : P s) :
    ∀ t, exec (.linkDownRetract a) s = .next t → P t := by
  have hR := hP.ofSettle
  rw [exec_linkDownRetract]
  unfold execLinkDownRetract
  repeat' first
    | with_reducible refine keep_done hP _ _ ?_
    | with_reducible assumption
    | with_reducible refine keep_linkDownRetract hR _ _ ?_
    | with_reducible refine keep_onMedia hP _ _ _ (fun _ _ => ?_) ?_
    | with_reducible refine Closed.foldl _ _ _ (fun _ _ _ => ?_) ?_
    | split

theorem keep_execRegisterWrite (hP : Closed anyField P) (m : Master) (addr : Addr) (v : Word) (s : State) (hs : P s) :
    ∀ t, exec (.registerWrite m addr v) s = .next t → P t := by
  rw [exec_registerWrite]
  unfold execRegisterWrite
  repeat' first
    | with_reducible refine keep_done hP _ _ ?_
    | with_reducible assumption
    | with_reducible refine keep_afterWrite hP _ _ _ ?_
    | with_reducible refine keep_registerWrite hP _ _ _ _ ?_
    | with_reducible refine Closed.foldl _ _ _ (fun _ _ _ => ?_) ?_
    | split

theorem keep_execFrameOpRead (hP : Closed bySettle P) (l : Fin 48) (op : BitVec 512) (s : State) (hs : P s) :
    ∀ t, exec (.frameOpRead l op) s = .next t → P t := by
  rw [exec_frameOpRead]
  unfold execFrameOpRead
  repeat' first
    | with_reducible refine keep_done hP _ _ ?_
    | with_reducible assumption
    | with_reducible refine keep_acceptWord hP _ _ _ ?_
    | with_reducible refine keep_onMedia hP _ _ _ (fun _ _ => ?_) ?_
    | with_reducible refine Closed.foldl _ _ _ (fun _ _ _ => ?_) ?_
    | split

theorem keep_execConfigRequest (hP : Closed anyField P) (r : CfgReq) (s : State) (hs : P s) :
    ∀ t, exec (.configRequest r) s = .next t → P t := by
  have hS := hP.ofAny
  rw [exec_configRequest]
  unfold execConfigRequest
  repeat' first
    | with_reducible refine keep_done hP _ _ ?_
    | with_reducible assumption
    | with_reducible refine keep_configRequest hP _ _ ?_
    | with_reducible refine keep_onPcie hS _ _ (fun _ _ => ?_) ?_
    | with_reducible refine Closed.foldl _ _ _ (fun _ _ _ => ?_) ?_
    | split

theorem keep_execDescriptorLoad (hP : Closed anyField P) (k : Fin 2) (p : Fin 12) (s : State) (hs : P s) :
    ∀ t, exec (.descriptorLoad k p) s = .next t → P t := by
  have hS := hP.ofAny
  rw [exec_descriptorLoad]
  unfold execDescriptorLoad
  repeat' first
    | with_reducible refine keep_done hP _ _ ?_
    | with_reducible assumption
    | with_reducible refine keep_descriptorLoad hP _ _ ?_
    | with_reducible refine keep_onMedia hS _ _ _ (fun _ _ => ?_) ?_
    | with_reducible refine Closed.foldl _ _ _ (fun _ _ _ => ?_) ?_
    | split

theorem keep_execSqTailDoorbell (hP : Closed anyField P) (y : ℕ) (v : Word) (s : State) (hs : P s) :
    ∀ t, exec (.sqTailDoorbell y v) s = .next t → P t := by
  have hS := hP.ofAny
  rw [exec_sqTailDoorbell]
  unfold execSqTailDoorbell
  repeat' first
    | with_reducible refine keep_done hP _ _ ?_
    | with_reducible assumption
    | with_reducible refine keep_barrier hS _ ?_
    | with_reducible refine keep_onHost hS _ _ (fun _ _ => ?_) ?_
    | with_reducible refine keep_sqTail hP _ _ _ ?_
    | with_reducible refine Closed.foldl _ _ _ (fun _ _ _ => ?_) ?_
    | split

theorem keep_execPhaseShortGround (hP : Closed bySettle P) (_phase : Fin 3) (s : State) (hs : P s) :
    ∀ t, exec (.phaseShortGround _phase) s = .next t → P t := by
  have hR := hP.ofSettle
  rw [exec_phaseShortGround]
  unfold execPhaseShortGround
  repeat' first
    | with_reducible refine keep_done hP _ _ ?_
    | with_reducible assumption
    | with_reducible refine keep_onSpindle hP _ _ (fun _ _ => ?_) ?_
    | with_reducible refine keep_phaseShortGround hR _ ?_
    | with_reducible refine Closed.foldl _ _ _ (fun _ _ _ => ?_) ?_
    | split

theorem keep_execAcdClean (hP : Closed bySettle P) (s : State) (hs : P s) :
    ∀ t, exec (.acdClean) s = .next t → P t := by
  rw [exec_acdClean]
  unfold execAcdClean
  repeat' first
    | with_reducible refine keep_done hP _ _ ?_
    | with_reducible assumption
    | with_reducible refine keep_acdClean hP _ ?_
    | with_reducible refine keep_onMedia hP _ _ _ (fun _ _ => ?_) ?_
    | with_reducible refine Closed.foldl _ _ _ (fun _ _ _ => ?_) ?_
    | split

theorem keep_execFunctionLevelReset (hP : Closed anyField P) (s : State) (hs : P s) :
    ∀ t, exec (.functionLevelReset) s = .next t → P t := by
  have hS := hP.ofAny
  rw [exec_functionLevelReset]
  unfold execFunctionLevelReset
  repeat' first
    | with_reducible refine keep_done hP _ _ ?_
    | with_reducible assumption
    | with_reducible refine keep_functionLevelReset hP _ ?_
    | with_reducible refine keep_onPcie hS _ _ (fun _ _ => ?_) ?_
    | with_reducible refine Closed.foldl _ _ _ (fun _ _ _ => ?_) ?_
    | split

theorem keep_execImageCopy (hP : Closed anyField P) (region : Fin 2) (s : State) (hs : P s) :
    ∀ t, exec (.imageCopy region) s = .next t → P t := by
  have hS := hP.ofAny
  rw [exec_imageCopy]
  unfold execImageCopy
  repeat' first
    | with_reducible refine keep_done hP _ _ ?_
    | with_reducible assumption
    | with_reducible refine keep_imageCopy hP _ _ ?_
    | with_reducible refine keep_onMedia hS _ _ _ (fun _ _ => ?_) ?_
    | with_reducible refine Closed.foldl _ _ _ (fun _ _ _ => ?_) ?_
    | split

theorem keep_execOpenPhase (hP : Closed bySettle P) (_phase : Fin 3) (s : State) (hs : P s) :
    ∀ t, exec (.openPhase _phase) s = .next t → P t := by
  have hR := hP.ofSettle
  rw [exec_openPhase]
  unfold execOpenPhase
  repeat' first
    | with_reducible refine keep_done hP _ _ ?_
    | with_reducible assumption
    | with_reducible refine keep_onSpindle hP _ _ (fun _ _ => ?_) ?_
    | with_reducible refine keep_openPhase hR _ ?_
    | with_reducible refine Closed.foldl _ _ _ (fun _ _ _ => ?_) ?_
    | split

theorem keep_execFirstCaptureRearm (hP : Closed byRaise P) (s : State) (hs : P s) :
    ∀ t, exec (.firstCaptureRearm) s = .next t → P t := by
  rw [exec_firstCaptureRearm]
  unfold execFirstCaptureRearm
  repeat' first
    | with_reducible refine keep_done hP _ _ ?_
    | with_reducible assumption
    | with_reducible refine keep_firstCaptureRearm hP _ ?_
    | with_reducible refine Closed.foldl _ _ _ (fun _ _ _ => ?_) ?_
    | split

theorem keep_execFrameResult (hP : Closed anyField P) (s : State) (hs : P s) :
    ∀ t, exec (.frameResult) s = .next t → P t := by
  have hS := hP.ofAny
  rw [exec_frameResult]
  unfold execFrameResult
  repeat' first
    | with_reducible refine keep_done hP _ _ ?_
    | with_reducible assumption
    | with_reducible refine keep_frameResult hP _ ?_
    | with_reducible refine keep_onMedia hS _ _ _ (fun _ _ => ?_) ?_
    | with_reducible refine Closed.foldl _ _ _ (fun _ _ _ => ?_) ?_
    | split

theorem keep_execMac (hP : Closed anyField P) (c : Fin 64) (slot : Fin 4) (a : Fin 32) (b : Fin 32) (q : Fin 4) (last : Bool) (s : State) (hs : P s) :
    ∀ t, exec (.mac c slot a b q last) s = .next t → P t := by
  rw [exec_mac]
  unfold execMac
  repeat' first
    | with_reducible refine keep_done hP _ _ ?_
    | with_reducible assumption
    | with_reducible refine keep_engineOp hP _ _ _ _ ?_
    | with_reducible refine Closed.foldl _ _ _ (fun _ _ _ => ?_) ?_
    | split

theorem keep_execCustomerWordLimit (hP : Closed anyField P) (c : Fin 64) (s : State) (hs : P s) :
    ∀ t, exec (.customerWordLimit c) s = .next t → P t := by
  have hR := hP.ofAny.ofSettle
  rw [exec_customerWordLimit]
  unfold execCustomerWordLimit
  repeat' first
    | with_reducible refine keep_done hP _ _ ?_
    | with_reducible assumption
    | with_reducible refine keep_customerWordLimit hP _ _ ?_
    | with_reducible refine keep_onBlock hR _ _ _ (fun _ _ => ?_) ?_
    | with_reducible refine Closed.foldl _ _ _ (fun _ _ _ => ?_) ?_
    | split

theorem keep_execZoneReset (hP : Closed bySettle P) (sqid : ℕ) (cid : BitVec 16) (zone : ℕ) (all : Bool) (s : State) (hs : P s) :
    ∀ t, exec (.zoneReset sqid cid zone all) s = .next t → P t := by
  rw [exec_zoneReset]
  unfold execZoneReset
  repeat' first
    | with_reducible refine keep_done hP _ _ ?_
    | with_reducible assumption
    | with_reducible refine keep_onHost hP _ _ (fun _ _ => ?_) ?_
    | with_reducible refine keep_zoneSend hP _ _ _ _ _ _ ?_
    | with_reducible refine Closed.foldl _ _ _ (fun _ _ _ => ?_) ?_
    | split

theorem keep_execLaneOosWrite (hP : Closed anyField P) (l : Fin 48) (oos : Bool) (s : State) (hs : P s) :
    ∀ t, exec (.laneOosWrite l oos) s = .next t → P t := by
  have hS := hP.ofAny
  rw [exec_laneOosWrite]
  unfold execLaneOosWrite
  repeat' first
    | with_reducible refine keep_done hP _ _ ?_
    | with_reducible assumption
    | with_reducible refine keep_laneOos hP _ _ _ ?_
    | with_reducible refine keep_onMedia hS _ _ _ (fun _ _ => ?_) ?_
    | with_reducible refine Closed.foldl _ _ _ (fun _ _ _ => ?_) ?_
    | split

theorem keep_execAngleDisagreement (hP : Closed bySettle P) (s : State) (hs : P s) :
    ∀ t, exec (.angleDisagreement) s = .next t → P t := by
  have hR := hP.ofSettle
  rw [exec_angleDisagreement]
  unfold execAngleDisagreement
  repeat' first
    | with_reducible refine keep_done hP _ _ ?_
    | with_reducible assumption
    | with_reducible refine keep_angleDisagreement hR _ ?_
    | with_reducible refine keep_onSpindle hP _ _ (fun _ _ => ?_) ?_
    | with_reducible refine Closed.foldl _ _ _ (fun _ _ _ => ?_) ?_
    | split

theorem keep_execSenseEnd (hP : Closed anyField P) (f : SenseFinding) (c : Crossings) (s : State) (hs : P s) :
    ∀ t, exec (.senseEnd f c) s = .next t → P t := by
  have hS := hP.ofAny
  rw [exec_senseEnd]
  unfold execSenseEnd
  repeat' first
    | with_reducible refine keep_done hP _ _ ?_
    | with_reducible assumption
    | with_reducible refine keep_onSpindle hS _ _ (fun _ _ => ?_) ?_
    | with_reducible refine keep_senseEnd hP _ _ _ ?_
    | with_reducible refine Closed.foldl _ _ _ (fun _ _ _ => ?_) ?_
    | split

theorem keep_execPilotSuspect (hP : Closed anyField P) (s : State) (hs : P s) :
    ∀ t, exec (.pilotSuspect) s = .next t → P t := by
  have hS := hP.ofAny
  rw [exec_pilotSuspect]
  unfold execPilotSuspect
  repeat' first
    | with_reducible refine keep_done hP _ _ ?_
    | with_reducible assumption
    | with_reducible refine keep_onSpindle hS _ _ (fun _ _ => ?_) ?_
    | with_reducible refine keep_pilotSuspect hP _ ?_
    | with_reducible refine Closed.foldl _ _ _ (fun _ _ _ => ?_) ?_
    | split

theorem keep_execHlkRegcmdGo (hP : Closed anyField P) (a : Fin 4) (v : Word) (s : State) (hs : P s) :
    ∀ t, exec (.hlkRegcmdGo a v) s = .next t → P t := by
  have hS := hP.ofAny
  rw [exec_hlkRegcmdGo]
  unfold execHlkRegcmdGo
  repeat' first
    | with_reducible refine keep_done hP _ _ ?_
    | with_reducible assumption
    | with_reducible refine keep_hlkRegcmdGo hP _ _ _ ?_
    | with_reducible refine keep_onMedia hS _ _ _ (fun _ _ => ?_) ?_
    | with_reducible refine Closed.foldl _ _ _ (fun _ _ _ => ?_) ?_
    | split

theorem keep_execRaRead (hP : Closed bySettle P) (zone : ℕ) (row : ℕ) (mtag : BitVec 24) (s : State) (hs : P s) :
    ∀ t, exec (.raRead zone row mtag) s = .next t → P t := by
  have hR := hP.ofSettle
  rw [exec_raRead]
  unfold execRaRead
  repeat' first
    | with_reducible refine keep_done hP _ _ ?_
    | with_reducible assumption
    | with_reducible refine keep_onDrive hR _ _ (fun _ _ => ?_) ?_
    | with_reducible refine keep_onMedia hP _ _ _ (fun _ _ => ?_) ?_
    | with_reducible refine keep_raRead hP _ _ _ _ ?_
    | with_reducible refine Closed.foldl _ _ _ (fun _ _ _ => ?_) ?_
    | split

theorem keep_execMin (hP : Closed anyField P) (c : Fin 64) (slot : Fin 4) (a : Fin 32) (last : Bool) (s : State) (hs : P s) :
    ∀ t, exec (.min c slot a last) s = .next t → P t := by
  rw [exec_min]
  unfold execMin
  repeat' first
    | with_reducible refine keep_done hP _ _ ?_
    | with_reducible assumption
    | with_reducible refine keep_engineOp hP _ _ _ _ ?_
    | with_reducible refine Closed.foldl _ _ _ (fun _ _ _ => ?_) ?_
    | split

theorem keep_execSildatRead (hP : Closed anyField P) (s : State) (hs : P s) :
    ∀ t, exec (.sildatRead) s = .next t → P t := by
  have hR := hP.ofAny.ofSettle
  rw [exec_sildatRead]
  unfold execSildatRead
  repeat' first
    | with_reducible refine keep_done hP _ _ ?_
    | with_reducible assumption
    | with_reducible refine keep_readOn hR _ _ _ (fun _ _ => ?_) ?_
    | with_reducible refine keep_sildatRead hP _ ?_
    | with_reducible refine Closed.foldl _ _ _ (fun _ _ _ => ?_) ?_
    | split

theorem keep_execVcmOvercurrent (hP : Closed anyField P) (a : Fin 4) (s : State) (hs : P s) :
    ∀ t, exec (.vcmOvercurrent a) s = .next t → P t := by
  have hS := hP.ofAny
  rw [exec_vcmOvercurrent]
  unfold execVcmOvercurrent
  repeat' first
    | with_reducible refine keep_done hP _ _ ?_
    | with_reducible assumption
    | with_reducible refine keep_onMedia hS _ _ _ (fun _ _ => ?_) ?_
    | with_reducible refine keep_vcmOvercurrent hP _ _ ?_
    | with_reducible refine Closed.foldl _ _ _ (fun _ _ _ => ?_) ?_
    | split

theorem keep_execAutostart (hP : Closed bySettle P) (s : State) (hs : P s) :
    ∀ t, exec (.autostart) s = .next t → P t := by
  rw [exec_autostart]
  unfold execAutostart
  repeat' first
    | with_reducible refine keep_done hP _ _ ?_
    | with_reducible assumption
    | with_reducible refine keep_autostart hP _ ?_
    | with_reducible refine keep_onSpindle hP _ _ (fun _ _ => ?_) ?_
    | with_reducible refine Closed.foldl _ _ _ (fun _ _ _ => ?_) ?_
    | split

theorem keep_execUnloadRequest (hP : Closed anyField P) (a : Fin 4) (s : State) (hs : P s) :
    ∀ t, exec (.unloadRequest a) s = .next t → P t := by
  have hS := hP.ofAny
  rw [exec_unloadRequest]
  unfold execUnloadRequest
  repeat' first
    | with_reducible refine keep_done hP _ _ ?_
    | with_reducible assumption
    | with_reducible refine keep_onMedia hS _ _ _ (fun _ _ => ?_) ?_
    | with_reducible refine keep_unloadRequest hP _ _ ?_
    | with_reducible refine Closed.foldl _ _ _ (fun _ _ _ => ?_) ?_
    | split

theorem keep_execRttLearn (hP : Closed anyField P) (a : Fin 4) (p : Fin 12) (w : Fin 512) (s : State) (hs : P s) :
    ∀ t, exec (.rttLearn a p w) s = .next t → P t := by
  have hR := hP.ofAny.ofSettle
  rw [exec_rttLearn]
  unfold execRttLearn
  repeat' first
    | with_reducible refine keep_done hP _ _ ?_
    | with_reducible assumption
    | with_reducible refine keep_onBlock hR _ _ _ (fun _ _ => ?_) ?_
    | with_reducible refine keep_rttLearn hP _ _ _ ?_
    | with_reducible refine Closed.foldl _ _ _ (fun _ _ _ => ?_) ?_
    | split

theorem keep_execFwctlQuery (hP : Closed anyField P) (addr : BitVec 7) (seq : BitVec 4) (s : State) (hs : P s) :
    ∀ t, exec (.fwctlQuery addr seq) s = .next t → P t := by
  have hS := hP.ofAny
  rw [exec_fwctlQuery]
  unfold execFwctlQuery
  repeat' first
    | with_reducible refine keep_done hP _ _ ?_
    | with_reducible assumption
    | with_reducible refine keep_fwctlQuery hP _ _ _ ?_
    | with_reducible refine keep_onClaik hS _ _ (fun _ _ => ?_) ?_
    | with_reducible refine Closed.foldl _ _ _ (fun _ _ _ => ?_) ?_
    | split

theorem keep_execPwrGoodRise (hP : Closed anyField P) (role : Bool) (bootcs : Bool) (recov : Bool) (testen : Bool) (s : State) (hs : P s) :
    ∀ t, exec (.pwrGoodRise role bootcs recov testen) s = .next t → P t := by
  rw [exec_pwrGoodRise]
  unfold execPwrGoodRise
  repeat' first
    | with_reducible refine keep_done hP _ _ ?_
    | with_reducible assumption
    | with_reducible refine keep_pwrGoodRise hP _ _ _ _ _ ?_
    | with_reducible refine Closed.foldl _ _ _ (fun _ _ _ => ?_) ?_
    | split

theorem keep_execMessageReceived (hP : Closed bySettle P) (m : Msg) (s : State) (hs : P s) :
    ∀ t, exec (.messageReceived m) s = .next t → P t := by
  have hR := hP.ofSettle
  rw [exec_messageReceived]
  unfold execMessageReceived
  repeat' first
    | with_reducible refine keep_done hP _ _ ?_
    | with_reducible assumption
    | with_reducible refine keep_messageReceived hR _ _ ?_
    | with_reducible refine keep_onPcie hP _ _ (fun _ _ => ?_) ?_
    | with_reducible refine Closed.foldl _ _ _ (fun _ _ _ => ?_) ?_
    | split

theorem keep_execPhaseOrderLearn (hP : Closed anyField P) (s : State) (hs : P s) :
    ∀ t, exec (.phaseOrderLearn) s = .next t → P t := by
  have hS := hP.ofAny
  rw [exec_phaseOrderLearn]
  unfold execPhaseOrderLearn
  repeat' first
    | with_reducible refine keep_done hP _ _ ?_
    | with_reducible assumption
    | with_reducible refine keep_onSpindle hS _ _ (fun _ _ => ?_) ?_
    | with_reducible refine keep_phaseOrderLearn hP _ ?_
    | with_reducible refine Closed.foldl _ _ _ (fun _ _ _ => ?_) ?_
    | split

theorem keep_execObserverLock (hP : Closed bySettle P) (s : State) (hs : P s) :
    ∀ t, exec (.observerLock) s = .next t → P t := by
  have hR := hP.ofSettle
  rw [exec_observerLock]
  unfold execObserverLock
  repeat' first
    | with_reducible refine keep_done hP _ _ ?_
    | with_reducible assumption
    | with_reducible refine keep_observerLock hR _ ?_
    | with_reducible refine keep_onSpindle hP _ _ (fun _ _ => ?_) ?_
    | with_reducible refine Closed.foldl _ _ _ (fun _ _ _ => ?_) ?_
    | split

theorem keep_execSpeedFallback (hP : Closed bySettle P) (s : State) (hs : P s) :
    ∀ t, exec (.speedFallback) s = .next t → P t := by
  have hR := hP.ofSettle
  rw [exec_speedFallback]
  unfold execSpeedFallback
  repeat' first
    | with_reducible refine keep_done hP _ _ ?_
    | with_reducible assumption
    | with_reducible refine keep_onSpindle hP _ _ (fun _ _ => ?_) ?_
    | with_reducible refine keep_speedFallback hR _ ?_
    | with_reducible refine Closed.foldl _ _ _ (fun _ _ _ => ?_) ?_
    | split

theorem keep_execComparatorFire (hP : Closed anyField P) (n : Fin 256) (s : State) (hs : P s) :
    ∀ t, exec (.comparatorFire n) s = .next t → P t := by
  have hR := hP.ofAny.ofSettle
  rw [exec_comparatorFire]
  unfold execComparatorFire
  repeat' first
    | with_reducible refine keep_done hP _ _ ?_
    | with_reducible assumption
    | with_reducible refine keep_comparatorFire hP _ _ ?_
    | with_reducible refine keep_onAngle hR _ _ (fun _ _ => ?_) ?_
    | with_reducible refine Closed.foldl _ _ _ (fun _ _ _ => ?_) ?_
    | split

theorem keep_execCal (hP : Closed bySettle P) (head : Fin 48) (write : Bool) (track : BitVec 21) (slot : BitVec 8) (mtag : BitVec 24) (s : State) (hs : P s) :
    ∀ t, exec (.cal head write track slot mtag) s = .next t → P t := by
  have hR := hP.ofSettle
  rw [exec_cal]
  unfold execCal
  repeat' first
    | with_reducible refine keep_done hP _ _ ?_
    | with_reducible assumption
    | with_reducible refine keep_onDrive hR _ _ (fun _ _ => ?_) ?_
    | with_reducible refine keep_onMedia hP _ _ _ (fun _ _ => ?_) ?_
    | with_reducible refine keep_sysOp hP _ _ _ _ _ _ _ ?_
    | with_reducible refine Closed.foldl _ _ _ (fun _ _ _ => ?_) ?_
    | split

theorem keep_execSpnStop (hP : Closed bySettle P) (s : State) (hs : P s) :
    ∀ t, exec (.spnStop) s = .next t → P t := by
  rw [exec_spnStop]
  unfold execSpnStop
  repeat' first
    | with_reducible refine keep_done hP _ _ ?_
    | with_reducible assumption
    | with_reducible refine keep_onSpindle hP _ _ (fun _ _ => ?_) ?_
    | with_reducible refine keep_stopOrder hP _ ?_
    | with_reducible refine Closed.foldl _ _ _ (fun _ _ _ => ?_) ?_
    | split

theorem keep_execQuarantineEnd (hP : Closed bySettle P) (tag : BitVec 10) (s : State) (hs : P s) :
    ∀ t, exec (.quarantineEnd tag) s = .next t → P t := by
  rw [exec_quarantineEnd]
  unfold execQuarantineEnd
  repeat' first
    | with_reducible refine keep_done hP _ _ ?_
    | with_reducible assumption
    | with_reducible refine keep_onPcie hP _ _ (fun _ _ => ?_) ?_
    | with_reducible refine keep_quarantineEnd hP _ _ ?_
    | with_reducible refine Closed.foldl _ _ _ (fun _ _ _ => ?_) ?_
    | split

theorem keep_execHeadLost (hP : Closed anyField P) (h_0 : Fin 48) (s : State) (hs : P s) :
    ∀ t, exec (.headLost h_0) s = .next t → P t := by
  have hS := hP.ofAny
  rw [exec_headLost]
  unfold execHeadLost
  repeat' first
    | with_reducible refine keep_done hP _ _ ?_
    | with_reducible assumption
    | with_reducible refine keep_headLost hP _ _ ?_
    | with_reducible refine keep_onMedia hS _ _ _ (fun _ _ => ?_) ?_
    | with_reducible refine Closed.foldl _ _ _ (fun _ _ _ => ?_) ?_
    | split

theorem keep_execReferenceLost (hP : Closed anyField P) (s : State) (hs : P s) :
    ∀ t, exec (.referenceLost) s = .next t → P t := by
  have hR := hP.ofAny.ofSettle
  rw [exec_referenceLost]
  unfold execReferenceLost
  repeat' first
    | with_reducible refine keep_done hP _ _ ?_
    | with_reducible assumption
    | with_reducible refine keep_onBlock hR _ _ _ (fun _ _ => ?_) ?_
    | with_reducible refine keep_referenceLost hP _ ?_
    | with_reducible refine Closed.foldl _ _ _ (fun _ _ _ => ?_) ?_
    | split

theorem keep_execAdd (hP : Closed anyField P) (c : Fin 64) (slot : Fin 4) (a : Fin 32) (last : Bool) (s : State) (hs : P s) :
    ∀ t, exec (.add c slot a last) s = .next t → P t := by
  rw [exec_add]
  unfold execAdd
  repeat' first
    | with_reducible refine keep_done hP _ _ ?_
    | with_reducible assumption
    | with_reducible refine keep_engineOp hP _ _ _ _ ?_
    | with_reducible refine Closed.foldl _ _ _ (fun _ _ _ => ?_) ?_
    | split

theorem keep_execSramScrub (hP : Closed anyField P) (found : List (SramKind × ℕ × Bool)) (s : State) (hs : P s) :
    ∀ t, exec (.sramScrub found) s = .next t → P t := by
  have hS := hP.ofAny
  rw [exec_sramScrub]
  unfold execSramScrub
  repeat' first
    | with_reducible refine keep_done hP _ _ ?_
    | with_reducible assumption
    | with_reducible refine keep_onMedia hS _ _ _ (fun _ _ => ?_) ?_
    | with_reducible refine keep_sramScrub hP _ _ ?_
    | with_reducible refine Closed.foldl _ _ _ (fun _ _ _ => ?_) ?_
    | split

theorem keep_execFrameOpCancel (hP : Closed bySettle P) (l : Fin 48) (mtag : BitVec 24) (s : State) (hs : P s) :
    ∀ t, exec (.frameOpCancel l mtag) s = .next t → P t := by
  rw [exec_frameOpCancel]
  unfold execFrameOpCancel
  repeat' first
    | with_reducible refine keep_done hP _ _ ?_
    | with_reducible assumption
    | with_reducible refine keep_frameOpCancel hP _ _ _ ?_
    | with_reducible refine keep_onMedia hP _ _ _ (fun _ _ => ?_) ?_
    | with_reducible refine Closed.foldl _ _ _ (fun _ _ _ => ?_) ?_
    | split

theorem keep_execDir (hP : Closed anyField P) (c : Fin 64) (ls : Fin 2) (x : Fin 32) (b : Fin 8) (off : BitVec 9) (last : Bool) (s : State) (hs : P s) :
    ∀ t, exec (.dir c ls x b off last) s = .next t → P t := by
  rw [exec_dir]
  unfold execDir
  repeat' first
    | with_reducible refine keep_done hP _ _ ?_
    | with_reducible assumption
    | with_reducible refine keep_engineOp hP _ _ _ _ ?_
    | with_reducible refine Closed.foldl _ _ _ (fun _ _ _ => ?_) ?_
    | split

theorem keep_execFrontierWaitExpiry (hP : Closed bySettle P) (zone : ℕ) (s : State) (hs : P s) :
    ∀ t, exec (.frontierWaitExpiry zone) s = .next t → P t := by
  rw [exec_frontierWaitExpiry]
  unfold execFrontierWaitExpiry
  repeat' first
    | with_reducible refine keep_done hP _ _ ?_
    | with_reducible assumption
    | with_reducible refine keep_onHost hP _ _ (fun _ _ => ?_) ?_
    | with_reducible refine keep_tryFrontier hP _ _ ?_
    | with_reducible refine Closed.foldl _ _ _ (fun _ _ _ => ?_) ?_
    | split

theorem keep_execRead (hP : Closed bySettle P) (a : IoArgs) (pi : PiCheck) (s : State) (hs : P s) :
    ∀ t, exec (.read a pi) s = .next t → P t := by
  rw [exec_read]
  unfold execRead
  repeat' first
    | with_reducible refine keep_done hP _ _ ?_
    | with_reducible assumption
    | with_reducible refine keep_beginRead hP _ _ ?_
    | with_reducible refine keep_onHost hP _ _ (fun _ _ => ?_) ?_
    | with_reducible refine keep_withIo hP _ _ _ _ _ (fun _ _ _ => ?_) ?_
    | with_reducible refine Closed.foldl _ _ _ (fun _ _ _ => ?_) ?_
    | split

theorem keep_execJournalLazy (hP : Closed bySettle P) (s : State) (hs : P s) :
    ∀ t, exec (.journalLazy) s = .next t → P t := by
  rw [exec_journalLazy]
  unfold execJournalLazy
  repeat' first
    | with_reducible refine keep_done hP _ _ ?_
    | with_reducible assumption
    | with_reducible refine keep_journalLazy hP _ ?_
    | with_reducible refine keep_onMedia hP _ _ _ (fun _ _ => ?_) ?_
    | with_reducible refine Closed.foldl _ _ _ (fun _ _ _ => ?_) ?_
    | split

theorem keep_execSt (hP : Closed anyField P) (c : Fin 64) (ls : Fin 2) (x : Fin 32) (b : Fin 8) (off : BitVec 9) (last : Bool) (s : State) (hs : P s) :
    ∀ t, exec (.st c ls x b off last) s = .next t → P t := by
  rw [exec_st]
  unfold execSt
  repeat' first
    | with_reducible refine keep_done hP _ _ ?_
    | with_reducible assumption
    | with_reducible refine keep_engineOp hP _ _ _ _ ?_
    | with_reducible refine Closed.foldl _ _ _ (fun _ _ _ => ?_) ?_
    | split

theorem keep_execSpindleStopped (hP : Closed bySettle P) (s : State) (hs : P s) :
    ∀ t, exec (.spindleStopped) s = .next t → P t := by
  have hR := hP.ofSettle
  rw [exec_spindleStopped]
  unfold execSpindleStopped
  repeat' first
    | with_reducible refine keep_done hP _ _ ?_
    | with_reducible assumption
    | with_reducible refine keep_onSpindle hP _ _ (fun _ _ => ?_) ?_
    | with_reducible refine keep_spindleStopped hR _ ?_
    | with_reducible refine Closed.foldl _ _ _ (fun _ _ _ => ?_) ?_
    | split

theorem keep_execMicroactuatorSaturation (hP : Closed bySettle P) (h_0 : Fin 48) (s : State) (hs : P s) :
    ∀ t, exec (.microactuatorSaturation h_0) s = .next t → P t := by
  have hR := hP.ofSettle
  rw [exec_microactuatorSaturation]
  unfold execMicroactuatorSaturation
  repeat' first
    | with_reducible refine keep_done hP _ _ ?_
    | with_reducible assumption
    | with_reducible refine keep_microSaturation hR _ _ ?_
    | with_reducible refine keep_onMedia hP _ _ _ (fun _ _ => ?_) ?_
    | with_reducible refine Closed.foldl _ _ _ (fun _ _ _ => ?_) ?_
    | split

theorem keep_execVcmLeadShort (hP : Closed bySettle P) (a : Fin 4) (s : State) (hs : P s) :
    ∀ t, exec (.vcmLeadShort a) s = .next t → P t := by
  have hR := hP.ofSettle
  rw [exec_vcmLeadShort]
  unfold execVcmLeadShort
  repeat' first
    | with_reducible refine keep_done hP _ _ ?_
    | with_reducible assumption
    | with_reducible refine keep_onMedia hP _ _ _ (fun _ _ => ?_) ?_
    | with_reducible refine keep_vcmLeadShort hR _ _ ?_
    | with_reducible refine Closed.foldl _ _ _ (fun _ _ _ => ?_) ?_
    | split

theorem keep_execReportZones (hP : Closed bySettle P) (sqid : ℕ) (cid : BitVec 16) (zone : ℕ) (opt : BitVec 8) (part : Bool) (ext : Bool) (max : ℕ) (s : State) (hs : P s) :
    ∀ t, exec (.reportZones sqid cid zone opt part ext max) s = .next t → P t := by
  have hR := hP.ofSettle
  rw [exec_reportZones]
  unfold execReportZones
  repeat' first
    | with_reducible refine keep_done hP _ _ ?_
    | with_reducible assumption
    | with_reducible refine keep_onHost hP _ _ (fun _ _ => ?_) ?_
    | with_reducible refine keep_reportZonesCmd hP _ _ _ _ _ _ _ ?_
    | with_reducible refine keep_withCmd hR _ _ _ _ _ (fun _ _ _ => ?_) ?_
    | with_reducible refine Closed.foldl _ _ _ (fun _ _ _ => ?_) ?_
    | split

theorem keep_execPerstDeassert (hP : Closed anyField P) (s : State) (hs : P s) :
    ∀ t, exec (.perstDeassert) s = .next t → P t := by
  have hS := hP.ofAny
  rw [exec_perstDeassert]
  unfold execPerstDeassert
  repeat' first
    | with_reducible refine keep_done hP _ _ ?_
    | with_reducible assumption
    | with_reducible refine hP.set _ _ _ _ rfl ?_
    | with_reducible refine keep_onPcie hS _ _ (fun _ _ => ?_) ?_
    | with_reducible refine keep_perstDeassert hP _ ?_
    | with_reducible refine Closed.foldl _ _ _ (fun _ _ _ => ?_) ?_
    | split

/-- Every command keeps a predicate that all updates keep. -/
theorem keep_exec (hP : Closed anyField P) (c : Instr) (s : State) (hs : P s) : ∀ t, exec c s = .next t → P t :=
  have hS := hP.ofAny
  have hR := hP.ofAny.ofSettle
  match c with
  | .pilotSample x0 x1 x2 x3 x4 x5 x6 x7 => keep_execPilotSample hP x0 x1 x2 x3 x4 x5 x6 x7 s hs
  | .angleClockCycle x0 => keep_execAngleClockCycle hP x0 s hs
  | .indexSignature x0 => keep_execIndexSignature hP x0 s hs
  | .sensorRequalify x0 => keep_execSensorRequalify hP x0 s hs
  | .stampLoRead => keep_execStampLoRead hR s hs
  | .multiwordLowRead x0 => keep_execMultiwordLowRead hP x0 s hs
  | .angCmpWrite x0 x1 x2 => keep_execAngCmpWrite hP x0 x1 x2 s hs
  | .comparatorFire x0 => keep_execComparatorFire hP x0 s hs
  | .groupCommit x0 x1 x2 x3 => keep_execGroupCommit hP x0 x1 x2 x3 s hs
  | .groupCancel x0 x1 x2 => keep_execGroupCancel hP x0 x1 x2 s hs
  | .shadowWrite x0 x1 => keep_execShadowWrite hP x0 x1 s hs
  | .decisionPoint x0 x1 x2 => keep_execDecisionPoint hP x0 x1 x2 s hs
  | .boundarySwap x0 x1 x2 => keep_execBoundarySwap hP x0 x1 x2 s hs
  | .laneStateRequest x0 x1 => keep_execLaneStateRequest hP x0 x1 s hs
  | .laneOosWrite x0 x1 => keep_execLaneOosWrite hP x0 x1 s hs
  | .laneTransitionDone x0 => keep_execLaneTransitionDone hP x0 s hs
  | .ringCycleEdge x0 x1 => keep_execRingCycleEdge hP x0 x1 s hs
  | .synthLock x0 => keep_execSynthLock hP x0 s hs
  | .ringEdgeTimeout x0 => keep_execRingEdgeTimeout hP x0 s hs
  | .phaseTrimUpdate x0 x1 => keep_execPhaseTrimUpdate hP x0 x1 s hs
  | .rttLearn x0 x1 x2 => keep_execRttLearn hP x0 x1 x2 s hs
  | .dropoutFlag x0 => keep_execDropoutFlag hP x0 s hs
  | .asperityFlag x0 => keep_execAsperityFlag hP x0 s hs
  | .defectFlagRelease x0 x1 => keep_execDefectFlagRelease hP x0 x1 s hs
  | .wedgeWindow x0 x1 => keep_execWedgeWindow hP x0 x1 s hs
  | .frameOpRead x0 x1 => keep_execFrameOpRead hS x0 x1 s hs
  | .frameOpWrite x0 x1 x2 => keep_execFrameOpWrite hP x0 x1 x2 s hs
  | .frameReadStart x0 x1 x2 => keep_execFrameReadStart hP x0 x1 x2 s hs
  | .codewordStaged x0 => keep_execCodewordStaged hP x0 s hs
  | .engineDispatch x0 => keep_execEngineDispatch hP x0 s hs
  | .decodeDone x0 x1 => keep_execDecodeDone hP x0 x1 s hs
  | .frameOpCancel x0 x1 => keep_execFrameOpCancel hS x0 x1 s hs
  | .frameWriteStart x0 => keep_execFrameWriteStart hP x0 s hs
  | .frameWriteEnd x0 => keep_execFrameWriteEnd hP x0 s hs
  | .laneMemdatWrite x0 x1 => keep_execLaneMemdatWrite hP x0 x1 s hs
  | .laneMemdatRead x0 => keep_execLaneMemdatRead hP x0 s hs
  | .hlkEnable x0 => keep_execHlkEnable hP x0 s hs
  | .hlkDisable x0 => keep_execHlkDisable hP x0 s hs
  | .hlkTrain x0 => keep_execHlkTrain hP x0 s hs
  | .hlkWenWrite x0 x1 => keep_execHlkWenWrite hS x0 x1 s hs
  | .hlkRegcmdGo x0 x1 => keep_execHlkRegcmdGo hP x0 x1 s hs
  | .hlkPacketSent x0 => keep_execHlkPacketSent hP x0 s hs
  | .hlkResponseRx x0 x1 => keep_execHlkResponseRx hP x0 x1 s hs
  | .hlkFaultFlagsRx x0 x1 => keep_execHlkFaultFlagsRx hP x0 x1 s hs
  | .hlkHeartbeatRx x0 x1 => keep_execHlkHeartbeatRx hP x0 x1 s hs
  | .hlkTrainingRx x0 x1 x2 => keep_execHlkTrainingRx hP x0 x1 x2 s hs
  | .hlkAckTimeout x0 => keep_execHlkAckTimeout hP x0 s hs
  | .hlkLinkDown x0 => keep_execHlkLinkDown hP x0 s hs
  | .hlkOrientTimeout x0 => keep_execHlkOrientTimeout hP x0 s hs
  | .hlkTrainHbTimeout x0 => keep_execHlkTrainHbTimeout hP x0 s hs
  | .hostRead x0 x1 x2 x3 => keep_execHostRead hS x0 x1 x2 x3 s hs
  | .raRead x0 x1 x2 => keep_execRaRead hS x0 x1 x2 s hs
  | .writeRow x0 x1 x2 => keep_execWriteRow hS x0 x1 x2 s hs
  | .reconRead x0 x1 x2 x3 x4 => keep_execReconRead hS x0 x1 x2 x3 x4 s hs
  | .rebuildRead x0 x1 x2 x3 => keep_execRebuildRead hS x0 x1 x2 x3 s hs
  | .patrol x0 x1 x2 x3 => keep_execPatrol hS x0 x1 x2 x3 s hs
  | .sysRead x0 x1 x2 x3 => keep_execSysRead hS x0 x1 x2 x3 s hs
  | .sysWrite x0 x1 x2 x3 => keep_execSysWrite hS x0 x1 x2 x3 s hs
  | .cal x0 x1 x2 x3 x4 => keep_execCal hS x0 x1 x2 x3 x4 s hs
  | .frameOpIssue x0 => keep_execFrameOpIssue hP x0 s hs
  | .frameResult => keep_execFrameResult hP s hs
  | .ladderTimeout x0 => keep_execLadderTimeout hS x0 s hs
  | .rowCommit x0 => keep_execRowCommit hS x0 s hs
  | .frontierWrite x0 => keep_execFrontierWrite hS x0 s hs
  | .raDrop => keep_execRaDrop hS s hs
  | .fmtRunSet => keep_execFmtRunSet hS s hs
  | .fmtRunClear => keep_execFmtRunClear hS s hs
  | .descriptorLoad x0 x1 => keep_execDescriptorLoad hP x0 x1 s hs
  | .fmtStoreWrite x0 x1 => keep_execFmtStoreWrite hS x0 x1 s hs
  | .acdRun x0 => keep_execAcdRun hP x0 s hs
  | .placementGen => keep_execPlacementGen hP s hs
  | .placementGenDone => keep_execPlacementGenDone hP s hs
  | .rbldHold x0 => keep_execRbldHold hP x0 s hs
  | .acdClean => keep_execAcdClean hS s hs
  | .acdCleanClr => keep_execAcdCleanClr hP s hs
  | .acdLose x0 => keep_execAcdLose hP x0 s hs
  | .streamTurn x0 => keep_execStreamTurn hS x0 s hs
  | .rowSubmit x0 => keep_execRowSubmit hP x0 s hs
  | .rebuildRow x0 => keep_execRebuildRow hS x0 s hs
  | .cursorUpdate => keep_execCursorUpdate hS s hs
  | .rebuildBatchWrite => keep_execRebuildBatchWrite hS s hs
  | .journalInterval => keep_execJournalInterval hS s hs
  | .journalLazy => keep_execJournalLazy hS s hs
  | .journalWritten x0 => keep_execJournalWritten hP x0 s hs
  | .checkpointTimer => keep_execCheckpointTimer hS s hs
  | .checkpointWritten x0 => keep_execCheckpointWritten hS x0 s hs
  | .checkpointRestore x0 x1 => keep_execCheckpointRestore hP x0 x1 s hs
  | .resyncZone x0 x1 x2 x3 => keep_execResyncZone hP x0 x1 x2 x3 s hs
  | .wedgeDecision x0 x1 => keep_execWedgeDecision hP x0 x1 s hs
  | .blendEnd x0 => keep_execBlendEnd hS x0 s hs
  | .settleReached x0 => keep_execSettleReached hP x0 s hs
  | .inhibitRelease x0 => keep_execInhibitRelease hP x0 s hs
  | .microactuatorSaturation x0 => keep_execMicroactuatorSaturation hS x0 s hs
  | .headLost x0 => keep_execHeadLost hP x0 s hs
  | .headRecover x0 => keep_execHeadRecover hP x0 s hs
  | .actuatorLost x0 => keep_execActuatorLost hP x0 s hs
  | .seekTimeout x0 => keep_execSeekTimeout hP x0 s hs
  | .targetWrite x0 x1 => keep_execTargetWrite hP x0 x1 s hs
  | .seekRunAhead x0 x1 => keep_execSeekRunAhead hP x0 x1 s hs
  | .loadRequest x0 => keep_execLoadRequest hP x0 s hs
  | .loadTimeout x0 => keep_execLoadTimeout hP x0 s hs
  | .unloadRequest x0 => keep_execUnloadRequest hP x0 s hs
  | .retractRequest x0 => keep_execRetractRequest hS x0 s hs
  | .retractPhaseEnd x0 => keep_execRetractPhaseEnd hP x0 s hs
  | .linkDownRetract x0 => keep_execLinkDownRetract hS x0 s hs
  | .vcmOpenCoil x0 => keep_execVcmOpenCoil hP x0 s hs
  | .vcmOvercurrent x0 => keep_execVcmOvercurrent hP x0 s hs
  | .vcmOcTest x0 x1 => keep_execVcmOcTest hP x0 x1 s hs
  | .vcmLeadShort x0 => keep_execVcmLeadShort hS x0 s hs
  | .vcmPolarityRunaway x0 => keep_execVcmPolarityRunaway hS x0 s hs
  | .pwmPeriod x0 x1 x2 x3 x4 x5 x6 => keep_execPwmPeriod hP x0 x1 x2 x3 x4 x5 x6 s hs
  | .currentSenseFault => keep_execCurrentSenseFault hS s hs
  | .shuntOvercurrent x0 => keep_execShuntOvercurrent hP x0 s hs
  | .observerLock => keep_execObserverLock hS s hs
  | .observerLockLoss => keep_execObserverLockLoss hP s hs
  | .pilotHandover => keep_execPilotHandover hS s hs
  | .angleDisagreement => keep_execAngleDisagreement hS s hs
  | .pilotSuspect => keep_execPilotSuspect hP s hs
  | .speedLoopUpdate x0 x1 x2 x3 x4 x5 x6 x7 => keep_execSpeedLoopUpdate hP x0 x1 x2 x3 x4 x5 x6 x7 s hs
  | .spdRefEdge x0 => keep_execSpdRefEdge hP x0 s hs
  | .phaseLock => keep_execPhaseLock hP s hs
  | .referenceLost => keep_execReferenceLost hP s hs
  | .spdRefSample x0 => keep_execSpdRefSample hP x0 s hs
  | .autostart => keep_execAutostart hS s hs
  | .spnStart => keep_execSpnStart hS s hs
  | .spnStop => keep_execSpnStop hS s hs
  | .spnDrydown => keep_execSpnDrydown hS s hs
  | .spnPark => keep_execSpnPark hS s hs
  | .psuspClear => keep_execPsuspClear hP s hs
  | .spnCal => keep_execSpnCal hP s hs
  | .eofsCalDone x0 => keep_execEofsCalDone hP x0 s hs
  | .speedTargetWrite x0 => keep_execSpeedTargetWrite hP x0 s hs
  | .senseEnd x0 x1 => keep_execSenseEnd hP x0 x1 s hs
  | .brakeEnd => keep_execBrakeEnd hP s hs
  | .brakeTimeout => keep_execBrakeTimeout hP s hs
  | .alignEnd x0 x1 => keep_execAlignEnd hP x0 x1 s hs
  | .openloopHandover => keep_execOpenloopHandover hP s hs
  | .startFailure => keep_execStartFailure hP s hs
  | .phaseOrderLearn => keep_execPhaseOrderLearn hP s hs
  | .catchEnd => keep_execCatchEnd hP s hs
  | .loadokSet => keep_execLoadokSet hS s hs
  | .reacqAttemptEnd x0 => keep_execReacqAttemptEnd hP x0 s hs
  | .reacqFailure => keep_execReacqFailure hP s hs
  | .speedFallback => keep_execSpeedFallback hS s hs
  | .lowSpeedDrydown => keep_execLowSpeedDrydown hS s hs
  | .drydownTimeout => keep_execDrydownTimeout hS s hs
  | .actuatorsParked => keep_execActuatorsParked hS s hs
  | .spindleStopped => keep_execSpindleStopped hS s hs
  | .powerLoss => keep_execPowerLoss hS s hs
  | .regenEnd => keep_execRegenEnd hS s hs
  | .phaseShortGround x0 => keep_execPhaseShortGround hS x0 s hs
  | .openPhase x0 => keep_execOpenPhase hS x0 s hs
  | .busOvervoltage => keep_execBusOvervoltage hP s hs
  | .overcurrentTest x0 => keep_execOvercurrentTest hS x0 s hs
  | .contextDispatch x0 => keep_execContextDispatch hP x0 s hs
  | .nop x0 x1 x2 => keep_execNop hP x0 x1 x2 s hs
  | .mul x0 x1 x2 x3 x4 x5 => keep_execMul hP x0 x1 x2 x3 x4 x5 s hs
  | .mac x0 x1 x2 x3 x4 x5 => keep_execMac hP x0 x1 x2 x3 x4 x5 s hs
  | .msu x0 x1 x2 x3 x4 x5 => keep_execMsu hP x0 x1 x2 x3 x4 x5 s hs
  | .add x0 x1 x2 x3 => keep_execAdd hP x0 x1 x2 x3 s hs
  | .lda x0 x1 x2 x3 => keep_execLda hP x0 x1 x2 x3 s hs
  | .clr x0 x1 x2 => keep_execClr hP x0 x1 x2 s hs
  | .abs x0 x1 x2 => keep_execAbs hP x0 x1 x2 s hs
  | .wr x0 x1 x2 x3 x4 x5 => keep_execWr hP x0 x1 x2 x3 x4 x5 s hs
  | .min x0 x1 x2 x3 => keep_execMin hP x0 x1 x2 x3 s hs
  | .max x0 x1 x2 x3 => keep_execMax hP x0 x1 x2 x3 s hs
  | .ld x0 x1 x2 x3 x4 x5 => keep_execLd hP x0 x1 x2 x3 x4 x5 s hs
  | .loadDataReturn x0 => keep_execLoadDataReturn hP x0 s hs
  | .st x0 x1 x2 x3 x4 x5 => keep_execSt hP x0 x1 x2 x3 x4 x5 s hs
  | .stg x0 x1 x2 x3 x4 x5 => keep_execStg hP x0 x1 x2 x3 x4 x5 s hs
  | .dir x0 x1 x2 x3 x4 x5 => keep_execDir hP x0 x1 x2 x3 x4 x5 s hs
  | .movb x0 x1 x2 x3 x4 x5 => keep_execMovb hP x0 x1 x2 x3 x4 x5 s hs
  | .jmp x0 x1 x2 => keep_execJmp hP x0 x1 x2 s hs
  | .br x0 x1 x2 x3 => keep_execBr hP x0 x1 x2 x3 s hs
  | .brn x0 x1 x2 x3 => keep_execBrn hP x0 x1 x2 x3 s hs
  | .loop x0 x1 x2 => keep_execLoop hP x0 x1 x2 s hs
  | .setx x0 x1 x2 x3 => keep_execSetx hP x0 x1 x2 x3 s hs
  | .cmt x0 x1 => keep_execCmt hP x0 x1 s hs
  | .endOp x0 x1 => keep_execEndOp hP x0 x1 s hs
  | .cmtend x0 x1 => keep_execCmtend hP x0 x1 s hs
  | .sig x0 x1 x2 => keep_execSig hP x0 x1 x2 s hs
  | .kill x0 x1 x2 => keep_execKill hP x0 x1 x2 s hs
  | .ovr x0 x1 x2 x3 => keep_execOvr hP x0 x1 x2 x3 s hs
  | .ovrrel x0 x1 x2 => keep_execOvrrel hP x0 x1 x2 s hs
  | .trc x0 x1 x2 x3 => keep_execTrc hP x0 x1 x2 x3 s hs
  | .customerWordLimit x0 => keep_execCustomerWordLimit hP x0 s hs
  | .lpeTrig x0 x1 => keep_execLpeTrig hR x0 x1 s hs
  | .lpeKill x0 x1 => keep_execLpeKill hR x0 x1 s hs
  | .fwOverrideSet x0 x1 => keep_execFwOverrideSet hP x0 x1 s hs
  | .fwOverrideRelease x0 => keep_execFwOverrideRelease hP x0 s hs
  | .lpeRun x0 => keep_execLpeRun hP x0 s hs
  | .imageLoad x0 => keep_execImageLoad hP x0 s hs
  | .imageLoadDone x0 => keep_execImageLoadDone hP x0 s hs
  | .imageCopy x0 => keep_execImageCopy hP x0 s hs
  | .controlStoreScrub x0 x1 => keep_execControlStoreScrub hP x0 x1 s hs
  | .sillageArm x0 => keep_execSillageArm hP x0 s hs
  | .sillageForce x0 => keep_execSillageForce hR x0 s hs
  | .sillageStop x0 => keep_execSillageStop hR x0 s hs
  | .sillagePeriodCapture x0 => keep_execSillagePeriodCapture hP x0 s hs
  | .sillageDone x0 => keep_execSillageDone hR x0 s hs
  | .sildatRead => keep_execSildatRead hP s hs
  | .dramRead x0 x1 x2 => keep_execDramRead hP x0 x1 x2 s hs
  | .dramWrite x0 x1 x2 x3 => keep_execDramWrite hP x0 x1 x2 x3 s hs
  | .sramFillDone => keep_execSramFillDone hP s hs
  | .backgroundFillPage => keep_execBackgroundFillPage hP s hs
  | .mergeTimeout x0 => keep_execMergeTimeout hS x0 s hs
  | .bufFence => keep_execBufFence hS s hs
  | .scrubBlock x0 => keep_execScrubBlock hP x0 s hs
  | .sramScrub x0 => keep_execSramScrub hP x0 s hs
  | .retireGo x0 => keep_execRetireGo hP x0 s hs
  | .retireDone x0 => keep_execRetireDone hP x0 s hs
  | .dmaResume x0 => keep_execDmaResume hS x0 s hs
  | .wck2dqTracking => keep_execWck2dqTracking hR s hs
  | .sqTailDoorbell x0 x1 => keep_execSqTailDoorbell hP x0 x1 s hs
  | .cqHeadDoorbell x0 x1 => keep_execCqHeadDoorbell hP x0 x1 s hs
  | .vendorDoorbell x0 x1 => keep_execVendorDoorbell hP x0 x1 s hs
  | .ccEnable x0 => keep_execCcEnable hP x0 s hs
  | .controllerReady => keep_execControllerReady hS s hs
  | .ccDisable => keep_execCcDisable hP s hs
  | .nvmSubsystemReset => keep_execNvmSubsystemReset hP s hs
  | .resetDrainTimeout => keep_execResetDrainTimeout hS s hs
  | .shutdownNormal => keep_execShutdownNormal hP s hs
  | .shutdownAbrupt => keep_execShutdownAbrupt hP s hs
  | .commandFetch x0 => keep_execCommandFetch hP x0 s hs
  | .deleteIoSq x0 x1 => keep_execDeleteIoSq hP x0 x1 s hs
  | .createIoSq x0 x1 x2 x3 => keep_execCreateIoSq hS x0 x1 x2 x3 s hs
  | .deleteIoCq x0 x1 => keep_execDeleteIoCq hS x0 x1 s hs
  | .createIoCq x0 x1 x2 x3 x4 => keep_execCreateIoCq hS x0 x1 x2 x3 x4 s hs
  | .getLogPage x0 x1 x2 x3 x4 => keep_execGetLogPage hS x0 x1 x2 x3 x4 s hs
  | .identify x0 => keep_execIdentify hS x0 s hs
  | .abort x0 => keep_execAbort hS x0 s hs
  | .setFeatures x0 x1 x2 => keep_execSetFeatures hP x0 x1 x2 s hs
  | .powerManagement x0 x1 => keep_execPowerManagement hS x0 x1 s hs
  | .numberOfQueues x0 x1 x2 => keep_execNumberOfQueues hP x0 x1 x2 s hs
  | .volatileWriteCache x0 x1 => keep_execVolatileWriteCache hP x0 x1 s hs
  | .spinWaitLimit x0 x1 => keep_execSpinWaitLimit hP x0 x1 s hs
  | .diagnosticUnlock x0 x1 x2 => keep_execDiagnosticUnlock hP x0 x1 x2 s hs
  | .mediaPolicy x0 x1 x2 x3 => keep_execMediaPolicy hP x0 x1 x2 x3 s hs
  | .getFeatures x0 x1 x2 => keep_execGetFeatures hS x0 x1 x2 s hs
  | .asyncEventRequest x0 => keep_execAsyncEventRequest hS x0 s hs
  | .firmwareImageDownload x0 x1 x2 => keep_execFirmwareImageDownload hP x0 x1 x2 s hs
  | .firmwareCommit x0 x1 x2 x3 x4 => keep_execFirmwareCommit hP x0 x1 x2 x3 x4 s hs
  | .firmwareActivation => keep_execFirmwareActivation hP s hs
  | .activationTimeout => keep_execActivationTimeout hS s hs
  | .flush x0 x1 => keep_execFlush hS x0 x1 s hs
  | .write x0 x1 => keep_execWrite hS x0 x1 s hs
  | .read x0 x1 => keep_execRead hS x0 x1 s hs
  | .zoneAppend x0 x1 => keep_execZoneAppend hS x0 x1 s hs
  | .zoneClose x0 x1 x2 x3 => keep_execZoneClose hS x0 x1 x2 x3 s hs
  | .zoneFinish x0 x1 x2 x3 => keep_execZoneFinish hS x0 x1 x2 x3 s hs
  | .zoneOpen x0 x1 x2 x3 => keep_execZoneOpen hS x0 x1 x2 x3 s hs
  | .zoneReset x0 x1 x2 x3 => keep_execZoneReset hS x0 x1 x2 x3 s hs
  | .zoneOffline x0 x1 x2 => keep_execZoneOffline hS x0 x1 x2 s hs
  | .setZoneDescriptorExtension x0 x1 x2 => keep_execSetZoneDescriptorExtension hS x0 x1 x2 s hs
  | .reportZones x0 x1 x2 x3 x4 x5 x6 => keep_execReportZones hS x0 x1 x2 x3 x4 x5 x6 s hs
  | .spinWaitExpiry x0 x1 => keep_execSpinWaitExpiry hP x0 x1 s hs
  | .frontierWaitExpiry x0 => keep_execFrontierWaitExpiry hS x0 s hs
  | .nvqRun x0 => keep_execNvqRun hP x0 s hs
  | .linkDown => keep_execLinkDown hP s hs
  | .perstAssert => keep_execPerstAssert hP s hs
  | .perstDeassert => keep_execPerstDeassert hP s hs
  | .memoryReadRequest x0 => keep_execMemoryReadRequest hP x0 s hs
  | .memoryWriteRequest x0 => keep_execMemoryWriteRequest hP x0 s hs
  | .configRequest x0 => keep_execConfigRequest hP x0 s hs
  | .messageReceived x0 => keep_execMessageReceived hS x0 s hs
  | .pmeTurnOff => keep_execPmeTurnOff hP s hs
  | .completionReceived x0 x1 x2 => keep_execCompletionReceived hP x0 x1 x2 s hs
  | .completionTimeout x0 => keep_execCompletionTimeout hP x0 s hs
  | .quarantineEnd x0 => keep_execQuarantineEnd hS x0 s hs
  | .busMasterDisable => keep_execBusMasterDisable hP s hs
  | .busMasterEnable x0 => keep_execBusMasterEnable hP x0 s hs
  | .functionLevelReset => keep_execFunctionLevelReset hP s hs
  | .d3hotEntry => keep_execD3hotEntry hP s hs
  | .d0Entry => keep_execD0Entry hP s hs
  | .egressFreeze => keep_execEgressFreeze hS s hs
  | .freezeRelease => keep_execFreezeRelease hP s hs
  | .l1Entry => keep_execL1Entry hS s hs
  | .msixUnmask x0 => keep_execMsixUnmask hP x0 s hs
  | .railMonitorTrip x0 => keep_execRailMonitorTrip hP x0 s hs
  | .railMonitorClear x0 => keep_execRailMonitorClear hP x0 s hs
  | .macerationExpiry x0 => keep_execMacerationExpiry hP x0 s hs
  | .recoveryWindowClose x0 => keep_execRecoveryWindowClose hP x0 s hs
  | .faultInject x0 => keep_execFaultInject hP x0 s hs
  | .firstCaptureRearm => keep_execFirstCaptureRearm hR s hs
  | .bnrFirmwareEntry x0 => keep_execBnrFirmwareEntry hP x0 s hs
  | .bnrDat7Read => keep_execBnrDat7Read hP s hs
  | .bnrDump => keep_execBnrDump hS s hs
  | .dumpComplete => keep_execDumpComplete hP s hs
  | .pwrGoodRise x0 x1 x2 x3 => keep_execPwrGoodRise hP x0 x1 x2 x3 s hs
  | .pwrGoodFall => keep_execPwrGoodFall hP s hs
  | .resetNAssert => keep_execResetNAssert hP s hs
  | .resetNDeassert x0 x1 x2 => keep_execResetNDeassert hP x0 x1 x2 s hs
  | .glbWarmReset x0 x1 x2 x3 => keep_execGlbWarmReset hP x0 x1 x2 x3 s hs
  | .glbColdReset x0 x1 x2 x3 => keep_execGlbColdReset hP x0 x1 x2 x3 s hs
  | .vddAonLow => keep_execVddAonLow hP s hs
  | .vddAonReturn x0 x1 x2 => keep_execVddAonReturn hP x0 x1 x2 s hs
  | .flaconLoadDone x0 x1 x2 x3 x4 x5 x6 => keep_execFlaconLoadDone hP x0 x1 x2 x3 x4 x5 x6 s hs
  | .dramTrainingDone x0 x1 => keep_execDramTrainingDone hP x0 x1 s hs
  | .configurationComplete => keep_execConfigurationComplete hP s hs
  | .cfgdoneTimeout => keep_execCfgdoneTimeout hP s hs
  | .avsVoltageRequest x0 x1 => keep_execAvsVoltageRequest hP x0 x1 s hs
  | .dieTemperatureTrip x0 => keep_execDieTemperatureTrip hP x0 s hs
  | .bypass => keep_execBypass hP s hs
  | .idcode => keep_execIdcode hP s hs
  | .samplePreload x0 => keep_execSamplePreload hP x0 s hs
  | .extest => keep_execExtest hP s hs
  | .clamp => keep_execClamp hP s hs
  | .highz => keep_execHighz hP s hs
  | .mgrRun x0 x1 x2 => keep_execMgrRun hP x0 x1 x2 s hs
  | .mgrDiscover x0 => keep_execMgrDiscover hP x0 s hs
  | .mgrFwGo => keep_execMgrFwGo hP s hs
  | .pollPeriod => keep_execPollPeriod hP s hs
  | .claikReplyTimeout => keep_execClaikReplyTimeout hP s hs
  | .upstreamSilence => keep_execUpstreamSilence hS s hs
  | .discoverResponseSlot => keep_execDiscoverResponseSlot hP s hs
  | .poll x0 x1 => keep_execPoll hP x0 x1 s hs
  | .discover x0 => keep_execDiscover hP x0 s hs
  | .assign x0 x1 x2 x3 x4 => keep_execAssign hP x0 x1 x2 x3 x4 s hs
  | .grant x0 x1 x2 => keep_execGrant hP x0 x1 x2 s hs
  | .drydown x0 x1 => keep_execDrydown hP x0 x1 s hs
  | .release x0 x1 => keep_execRelease hP x0 x1 s hs
  | .spin x0 x1 => keep_execSpin hP x0 x1 s hs
  | .pscap x0 x1 x2 => keep_execPscap hP x0 x1 x2 s hs
  | .setref x0 x1 x2 x3 x4 => keep_execSetref hP x0 x1 x2 x3 x4 s hs
  | .fwactivate x0 x1 => keep_execFwactivate hP x0 x1 s hs
  | .sync x0 x1 => keep_execSync hP x0 x1 s hs
  | .fwdata x0 x1 => keep_execFwdata hP x0 x1 s hs
  | .fwctlQuery x0 x1 => keep_execFwctlQuery hP x0 x1 s hs
  | .fwctlCommit x0 x1 x2 => keep_execFwctlCommit hP x0 x1 x2 s hs
  | .harvest x0 x1 x2 x3 => keep_execHarvest hP x0 x1 x2 x3 s hs
  | .peerinfo x0 x1 => keep_execPeerinfo hP x0 x1 s hs
  | .wake x0 x1 => keep_execWake hP x0 x1 s hs
  | .reservedType x0 => keep_execReservedType hP x0 s hs
  | .status x0 x1 => keep_execStatus hP x0 x1 s hs
  | .hello x0 x1 x2 => keep_execHello hP x0 x1 x2 s hs
  | .ack x0 x1 x2 => keep_execAck hP x0 x1 x2 s hs
  | .fwstat x0 x1 x2 => keep_execFwstat hP x0 x1 x2 s hs
  | .record x0 x1 => keep_execRecord hP x0 x1 s hs
  | .harvestTimer => keep_execHarvestTimer hP s hs
  | .peerCommandTimeout x0 x1 => keep_execPeerCommandTimeout hP x0 x1 s hs
  | .workerSilent x0 => keep_execWorkerSilent hP x0 s hs
  | .syncOutFault => keep_execSyncOutFault hS s hs
  | .registerWrite x0 x1 x2 => keep_execRegisterWrite hP x0 x1 x2 s hs
  | .referenceClockLost x0 => keep_execReferenceClockLost hS x0 s hs
  | .referenceClockReturn x0 => keep_execReferenceClockReturn hS x0 s hs
  | .watchdogExpiry x0 => keep_execWatchdogExpiry hS x0 s hs
  | .sramRead x0 x1 x2 x3 => keep_execSramRead hP x0 x1 x2 x3 s hs
  | .clearingRead x0 x1 => keep_execClearingRead hP x0 x1 s hs
  | .srvMemdatWrite x0 x1 => keep_execSrvMemdatWrite hP x0 x1 s hs
  | .srvMemdatRead x0 => keep_execSrvMemdatRead hP x0 s hs
  | .vcmSensePairExchanged x0 => keep_execVcmSensePairExchanged hS x0 s hs
  | .claikFrameCrcError x0 => keep_execClaikFrameCrcError hP x0 s hs
  | .addressConflict x0 => keep_execAddressConflict hS x0 s hs
  | .discoverRoundEnd => keep_execDiscoverRoundEnd hP s hs
  | .ckminExpiry => keep_execCkminExpiry hS s hs
  | .dataLinkUp x0 x1 x2 => keep_execDataLinkUp hP x0 x1 x2 s hs
  | .linkError x0 => keep_execLinkError hP x0 s hs
  | .aggregationTimeExpiry x0 => keep_execAggregationTimeExpiry hS x0 s hs

/-- Every step keeps a predicate that all updates keep. -/
theorem keep_step (hP : Closed anyField P) (s : State) (hs : P s) : ∀ t, step s = .next t → P t := by
  intro t h
  unfold step at h
  split at h
  · exact Host.Outcome.next.inj h ▸ hs
  · refine keep_exec hP _ _ ?_ t h
    exact hP.record s _ rfl (fun h => h) List.prefix_rfl le_rfl hs

end Sys2Proof.Machine
end

