-- ==== Sys2Proof/Laws/Frames.lean ====
section
/-!
SUPPORT. Predicates that the whole machine keeps: the canonical form of memory, what has left the block, the counter of free values, and
any register field that an operation's list does not name; and the one form in which every command ends.
-/

namespace Sys2Proof.Machine

set_option Elab.async false

/-- The canonical form of memory survives every update. -/
theorem closed_memOk (T : Nat → Bool) : Closed T State.memOk :=
  ⟨fun _ _ _ _ _ h => h, fun _ _ _ h _ _ hs => h hs, fun _ _ _ h _ _ hs => h hs⟩

/-- What has left the block stays. -/
theorem closed_out (T : Nat → Bool) (o : List Out) : Closed T (fun s => o <+: s.out) :=
  ⟨fun _ _ _ _ _ h => h, fun _ _ _ _ h _ hs => hs.trans h, fun _ _ _ _ h _ hs => hs.trans h⟩

/-- The counter of free values only rises. -/
theorem closed_fresh (T : Nat → Bool) (n : Nat) : Closed T (fun s => n ≤ s.fresh) :=
  ⟨fun _ _ _ _ _ h => h, fun _ _ _ _ _ h hs => hs.trans h, fun _ _ _ _ _ h hs => hs.trans h⟩

/-- A field that the list does not name keeps its value. -/
theorem closed_get {T : Nat → Bool} {f : Field} (h : T f.id = false) (i v : Nat) : Closed T (fun s => s.get f i = v) where
  set s g j w hg hs := by
    rw [State.get_set_id s j w i fun e => by rw [e, h] at hg; cases hg]
    exact hs
  record s t hr _ _ _ hs := by
    show t.regs.get f i = v
    rw [hr]
    exact hs
  regs hT := by have := hT f.id; rw [h] at this; cases this

/-- Raising a source changes no field outside `raiseFields`. -/
theorem raise_get {f : Field} (h : byRaise f.id = false) (n inst : Nat) (s : State) (i : Nat) : (raise n inst s).get f i = s.get f i :=
  keep_raise (closed_get h i _) n inst s rfl

/-- The end of a source's condition changes no field outside `raiseFields`. -/
theorem lower_get {f : Field} (h : byRaise f.id = false) (n inst : Nat) (s : State) (i : Nat) : (lower n inst s).get f i = s.get f i :=
  keep_lower (closed_get h i _) n inst s rfl

/-- A pulse of a source changes no field outside `raiseFields`. -/
theorem pulse_get {f : Field} (h : byRaise f.id = false) (n inst : Nat) (s : State) (i : Nat) : (pulse n inst s).get f i = s.get f i :=
  keep_pulse (closed_get h i _) n inst s rfl

/-- A level of a source changes no field outside `raiseFields`. -/
theorem level_get {f : Field} (h : byRaise f.id = false) (n inst : Nat) (c : Bool) (s : State) (i : Nat) :
    (level n inst c s).get f i = s.get f i := keep_level (closed_get h i _) n inst c s rfl

/-- Settling changes no field outside the two lists. -/
theorem settle_get {f : Field} (h : bySettle f.id = false) (s t : State) (i : Nat) : (settle s t).get f i = t.get f i :=
  keep_settle (closed_get h i _) s t rfl

/-- Every command ends in a next state with the queue as it was. -/
theorem exec_done (c : Instr) (s : State) : ∃ u, exec c s = done s u := by
  cases c <;> exact ⟨_, rfl⟩

theorem done_next (s u : State) : done s u = .next (s.after u) := rfl
@[simp] theorem State.after_get (s u : State) (f : Field) (i : Nat) : (s.after u).get f i = u.get f i := (rfl)
@[simp] theorem State.after_pending (s u : State) : (s.after u).pending = s.pending := (rfl)
@[simp] theorem State.after_mem (s u : State) : (s.after u).mem = u.mem := (rfl)
@[simp] theorem State.after_out (s u : State) : (s.after u).out = u.out := (rfl)
@[simp] theorem State.after_rdata (s u : State) : (s.after u).rdata = u.rdata := (rfl)

/-! ## How a command reaches its block -/

theorem after_eq {s u : State} (h : u.pending = s.pending) : s.after u = u := by cases u; cases h; rfl
theorem reaches_inReset {b : Nat} {s : State} (h : reaches b s = true) : inReset s = false := by
  simp only [reaches, Bool.and_eq_true, Bool.not_eq_true'] at h; exact h.1
theorem reaches_powered {b : Nat} {s : State} (h : reaches b s = true) : poweredOff b s = false := by
  simp only [reaches, Bool.and_eq_true, Bool.not_eq_true'] at h; exact h.2
theorem onBlock_of {b : Nat} {s : State} (h : reaches b s = true) (f : State → State) : onBlock b f s = f s := by simp [onBlock, h]
theorem onBlock_not {b : Nat} {s : State} (h : reaches b s = false) (f : State → State) : onBlock b f s = s := by simp [onBlock, h]
theorem onMedia_of {b : Nat} {s : State} (h : reaches b s = true) (f : State → State) : onMedia b f s = settle s (f s) := by
  simp [onMedia, h]
theorem onMedia_not {b : Nat} {s : State} (h : reaches b s = false) (f : State → State) : onMedia b f s = s := by simp [onMedia, h]
theorem onAngle_of {s : State} (h : angleAwake s) (f : State → State) : onAngle f s = f s := by simp [onAngle, h.1, h.2]
theorem onAon_of {s : State} (h : aonDown s = false) (f : State → State) : onAon f s = f s := by simp [onAon, h]
theorem readOn_of {b : Nat} {s : State} (h : reaches b s = true) (f : State → State) : readOn b f s = f s := by
  simp [readOn, reaches_inReset h, reaches_powered h]

/-! ## Reading a field after the updates that come down to `State.set` -/

section
variable {f g : Field} (s : State) (i j : Nat)

theorem get_set_other (v : Nat) (h : f.id ≠ g.id) : (s.set f i v).get g j = s.get g j := State.get_set_id s i v j h
theorem get_setI_other (v : Int) (h : f.id ≠ g.id) : (s.setI f i v).get g j = s.get g j := State.get_set_id s i _ j h
theorem get_add_other (n : Nat) (h : f.id ≠ g.id) : (s.add f i n).get g j = s.get g j := State.get_set_id s i _ j h
theorem get_bump_other (h : f.id ≠ g.id) : (s.bump f i).get g j = s.get g j := State.get_set_id s i _ j h
theorem get_addSat_other (n : Nat) (h : f.id ≠ g.id) : (s.addSat f i n).get g j = s.get g j := State.get_set_id s i _ j h
theorem get_dec_other (h : f.id ≠ g.id) : (s.dec f i).get g j = s.get g j := State.get_set_id s i _ j h
theorem get_setBit_other (b : Nat) (v : Bool) (h : f.id ≠ g.id) : (s.setBit f i b v).get g j = s.get g j := State.get_set_id s i _ j h
theorem get_unset_other (h : f.id ≠ g.id) : (s.unset f i).get g j = s.get g j := State.get_set_id s i _ j h
theorem get_setStamp_other (v : Nat) (h : ANG_STAMP_LO.id ≠ g.id) (h' : ANG_STAMP_HI.id ≠ g.id) :
    (s.setStamp v).get g j = s.get g j := by
  unfold State.setStamp
  rw [get_set_other _ _ _ _ h', get_set_other _ _ _ _ h]
theorem get_setMany_cons (e : Field × Nat) (l : List (Field × Nat)) :
    (s.setMany i (e :: l)).get g j = ((s.set e.1 i e.2).setMany i l).get g j := (rfl)
theorem get_setMany_nil : (s.setMany i []).get g j = s.get g j := (rfl)
theorem get_setI_self (v : Int) : (s.setI f i v).get f i = uns f.width v % 2 ^ f.width := State.get_set_self s f i _
theorem get_add_self (n : Nat) : (s.add f i n).get f i = (s.get f i + n) % 2 ^ f.width := State.get_set_self s f i _
theorem get_bump_self : (s.bump f i).get f i = (s.get f i + 1) % 2 ^ f.width := State.get_set_self s f i _
theorem get_dec_self : (s.dec f i).get f i = (s.get f i - 1) % 2 ^ f.width := State.get_set_self s f i _
theorem get_setBit_self (b : Nat) (v : Bool) : (s.setBit f i b v).get f i = withBit (s.get f i) b v % 2 ^ f.width :=
  State.get_set_self s f i _
theorem get_addSat_self (n : Nat) : (s.addSat f i n).get f i = Nat.min (s.get f i + n) (2 ^ f.width - 1) % 2 ^ f.width :=
  State.get_set_self s f i _
@[simp] theorem State.emit_out (o : Out) : (s.emit o).out = s.out ++ [o] := rfl
@[simp] theorem State.ret_rdata (v : Nat) : (s.ret v).rdata = v := rfl
end

end Sys2Proof.Machine
end

