-- ==== Sys2Proof/WellFormed.lean ====
section
/-!
DEFINITION. Which commands are well formed: what the types of the operands do not say already about what an event can bring with
it. A value that the spec has the block check itself (a zone, a queue identifier, a length) is no matter of form: the command's
meaning answers for it.
-/

namespace Sys2Proof

/-- Block `b` has instance `i`, and group `g` holds a register (R58, R663). -/
def groupExists (b : ShBlk) (i g : Nat) : Bool :=
  decide (i < Machine.shInstances b) && !(Machine.groupRegs b g).isEmpty

/-- Addresses of registers name whole 32-bit words (R16, R658). -/
def wordAligned (a : Addr) : Bool := a.toNat % 4 == 0

/-- The 64 bytes spell a frame operation, of the direction named (R161). -/
def spellsOp (w : BitVec 512) (write : Bool) : Bool := (Machine.FrameOp.ofWord w).any fun op => op.write == write

/-- The errors of a code word stand at distinct positions, and each changes its byte (R405). -/
def errorsWellFormed : List ByteErr → Bool
  | [] => true
  | e :: t => e.x != 0 && (t.all fun f => f.pos != e.pos) && errorsWellFormed t

/-- A buffer access lies within one 64-byte line (R404, R430). -/
def withinLine (a : Addr) (n : Nat) : Bool := decide (1 ≤ n) && decide (a.toNat % 64 + n ≤ 64)

/-- A memory request carries `len` bytes of data, or none if it is a read (R510). -/
def MemReq.wellFormed (r : MemReq) (write : Bool) : Bool :=
  decide (1 ≤ r.len) && decide (r.data.length = if write then r.len else 0)

/-- The command is well formed. -/
def Instr.wellFormed : Instr → Bool
  | .groupCommit b i g _ => groupExists b i.val g.val
  | .groupCancel b i g => groupExists b i.val g.val
  | .decisionPoint b i g => groupExists b i.val g.val
  | .boundarySwap b i g => groupExists b i.val g.val
  | .multiwordLowRead a => wordAligned a
  | .shadowWrite a _ => wordAligned a
  | .registerWrite _ a _ => wordAligned a
  | .clearingRead a _ => wordAligned a
  | .fmtStoreWrite a _ => wordAligned a
  | .frameOpRead _ op => spellsOp op false
  | .frameOpWrite _ _ op => spellsOp op true
  | .phaseTrimUpdate b _ => decide (b.samples.length = 55)
  | .codewordStaged b => decide (b.soft.length = 37160)
  | .decodeDone _ o => decide (o.bytes.length = 4116)
  | .dramRead _ a errs => withinLine a 1 && errorsWellFormed errs
  | .dramWrite _ a data errs => withinLine a data.length && errorsWellFormed errs
  | .mergeTimeout errs => errorsWellFormed errs
  | .scrubBlock errs => errorsWellFormed errs
  | .memoryReadRequest r => r.wellFormed false
  | .memoryWriteRequest r => r.wellFormed true
  | .pwmPeriod _ _ _ obsAngle _ _ _ => decide (obsAngle < 23040)
  | .speedLoopUpdate d0 d1 d2 d3 _ _ _ _ =>
    decide (-32768 ≤ d0) && decide (d0 ≤ 32767) && decide (d1 ≤ 32767) && decide (d2 ≤ 32767) && decide (d3 ≤ 32767)
  | .getLogPage _ _ _ off len => decide (off % 4 = 0) && decide (len % 4 = 0)
  | .firmwareImageDownload _ off len => decide (off % 4 = 0) && decide (len % 4 = 0)
  | .fwdata _ data => decide (data.length = 56)
  | .record _ entries => decide (entries.length ≤ 2)
  | .harvest _ _ _ count => decide (1 ≤ count) && decide (count ≤ 2)
  | _ => true

end Sys2Proof
end

