-- ==== Sys2Proof/Laws/PerInstr.lean ====
section
/-!
SUPPORT. Laws that hold of every command as syntax, one lemma per constructor. `Aligned`: a well-formed command that names a register by
its address names a whole 32-bit word (R16, R658).
-/

namespace Sys2Proof

set_option Elab.async false

/-- The register address that a command carries. -/
def Instr.regAddr : Instr → Option Addr
  | .multiwordLowRead a => some a
  | .shadowWrite a _ => some a
  | .registerWrite _ a _ => some a
  | .clearingRead a _ => some a
  | .fmtStoreWrite a _ => some a
  | _ => none

end Sys2Proof

namespace Sys2Proof.Laws.Aligned

/-- The register address of a well-formed command is a multiple of four. -/
def Statement (i : Instr) : Prop := i.wellFormed = true → ∀ a, i.regAddr = some a → a.toNat % 4 = 0

/-- A command that carries no register address. -/
theorem of_none {i : Instr} (h : i.regAddr = none) : Statement i := fun _ a e => by rw [h] at e; cases e

/-- A command whose check is that its register address is aligned. -/
theorem of_some {i : Instr} {b : Addr} (h : i.regAddr = some b) (w : i.wellFormed = wordAligned b) : Statement i := fun hw a e => by
  rw [h] at e; cases e; rw [w] at hw; exact of_decide_eq_true hw

theorem pilotSample : ∀ x0 x1 x2 x3 x4 x5 x6 x7, Statement (.pilotSample x0 x1 x2 x3 x4 x5 x6 x7) := fun _ _ _ _ _ _ _ _ => of_none rfl
theorem angleClockCycle : ∀ x0, Statement (.angleClockCycle x0) := fun _ => of_none rfl
theorem indexSignature : ∀ x0, Statement (.indexSignature x0) := fun _ => of_none rfl
theorem sensorRequalify : ∀ x0, Statement (.sensorRequalify x0) := fun _ => of_none rfl
theorem stampLoRead : Statement .stampLoRead := of_none rfl
theorem multiwordLowRead : ∀ x0, Statement (.multiwordLowRead x0) := fun _ => of_some rfl rfl
theorem angCmpWrite : ∀ x0 x1 x2, Statement (.angCmpWrite x0 x1 x2) := fun _ _ _ => of_none rfl
theorem comparatorFire : ∀ x0, Statement (.comparatorFire x0) := fun _ => of_none rfl
theorem groupCommit : ∀ x0 x1 x2 x3, Statement (.groupCommit x0 x1 x2 x3) := fun _ _ _ _ => of_none rfl
theorem groupCancel : ∀ x0 x1 x2, Statement (.groupCancel x0 x1 x2) := fun _ _ _ => of_none rfl
theorem shadowWrite : ∀ x0 x1, Statement (.shadowWrite x0 x1) := fun _ _ => of_some rfl rfl
theorem decisionPoint : ∀ x0 x1 x2, Statement (.decisionPoint x0 x1 x2) := fun _ _ _ => of_none rfl
theorem boundarySwap : ∀ x0 x1 x2, Statement (.boundarySwap x0 x1 x2) := fun _ _ _ => of_none rfl
theorem laneStateRequest : ∀ x0 x1, Statement (.laneStateRequest x0 x1) := fun _ _ => of_none rfl
theorem laneOosWrite : ∀ x0 x1, Statement (.laneOosWrite x0 x1) := fun _ _ => of_none rfl
theorem laneTransitionDone : ∀ x0, Statement (.laneTransitionDone x0) := fun _ => of_none rfl
theorem ringCycleEdge : ∀ x0 x1, Statement (.ringCycleEdge x0 x1) := fun _ _ => of_none rfl
theorem synthLock : ∀ x0, Statement (.synthLock x0) := fun _ => of_none rfl
theorem ringEdgeTimeout : ∀ x0, Statement (.ringEdgeTimeout x0) := fun _ => of_none rfl
theorem phaseTrimUpdate : ∀ x0 x1, Statement (.phaseTrimUpdate x0 x1) := fun _ _ => of_none rfl
theorem rttLearn : ∀ x0 x1 x2, Statement (.rttLearn x0 x1 x2) := fun _ _ _ => of_none rfl
theorem dropoutFlag : ∀ x0, Statement (.dropoutFlag x0) := fun _ => of_none rfl
theorem asperityFlag : ∀ x0, Statement (.asperityFlag x0) := fun _ => of_none rfl
theorem defectFlagRelease : ∀ x0 x1, Statement (.defectFlagRelease x0 x1) := fun _ _ => of_none rfl
theorem wedgeWindow : ∀ x0 x1, Statement (.wedgeWindow x0 x1) := fun _ _ => of_none rfl
theorem frameOpRead : ∀ x0 x1, Statement (.frameOpRead x0 x1) := fun _ _ => of_none rfl
theorem frameOpWrite : ∀ x0 x1 x2, Statement (.frameOpWrite x0 x1 x2) := fun _ _ _ => of_none rfl
theorem frameReadStart : ∀ x0 x1 x2, Statement (.frameReadStart x0 x1 x2) := fun _ _ _ => of_none rfl
theorem codewordStaged : ∀ x0, Statement (.codewordStaged x0) := fun _ => of_none rfl
theorem engineDispatch : ∀ x0, Statement (.engineDispatch x0) := fun _ => of_none rfl
theorem decodeDone : ∀ x0 x1, Statement (.decodeDone x0 x1) := fun _ _ => of_none rfl
theorem frameOpCancel : ∀ x0 x1, Statement (.frameOpCancel x0 x1) := fun _ _ => of_none rfl
theorem frameWriteStart : ∀ x0, Statement (.frameWriteStart x0) := fun _ => of_none rfl
theorem frameWriteEnd : ∀ x0, Statement (.frameWriteEnd x0) := fun _ => of_none rfl
theorem laneMemdatWrite : ∀ x0 x1, Statement (.laneMemdatWrite x0 x1) := fun _ _ => of_none rfl
theorem laneMemdatRead : ∀ x0, Statement (.laneMemdatRead x0) := fun _ => of_none rfl
theorem hlkEnable : ∀ x0, Statement (.hlkEnable x0) := fun _ => of_none rfl
theorem hlkDisable : ∀ x0, Statement (.hlkDisable x0) := fun _ => of_none rfl
theorem hlkTrain : ∀ x0, Statement (.hlkTrain x0) := fun _ => of_none rfl
theorem hlkWenWrite : ∀ x0 x1, Statement (.hlkWenWrite x0 x1) := fun _ _ => of_none rfl
theorem hlkRegcmdGo : ∀ x0 x1, Statement (.hlkRegcmdGo x0 x1) := fun _ _ => of_none rfl
theorem hlkPacketSent : ∀ x0, Statement (.hlkPacketSent x0) := fun _ => of_none rfl
theorem hlkResponseRx : ∀ x0 x1, Statement (.hlkResponseRx x0 x1) := fun _ _ => of_none rfl
theorem hlkFaultFlagsRx : ∀ x0 x1, Statement (.hlkFaultFlagsRx x0 x1) := fun _ _ => of_none rfl
theorem hlkHeartbeatRx : ∀ x0 x1, Statement (.hlkHeartbeatRx x0 x1) := fun _ _ => of_none rfl
theorem hlkTrainingRx : ∀ x0 x1 x2, Statement (.hlkTrainingRx x0 x1 x2) := fun _ _ _ => of_none rfl
theorem hlkAckTimeout : ∀ x0, Statement (.hlkAckTimeout x0) := fun _ => of_none rfl
theorem hlkLinkDown : ∀ x0, Statement (.hlkLinkDown x0) := fun _ => of_none rfl
theorem hlkOrientTimeout : ∀ x0, Statement (.hlkOrientTimeout x0) := fun _ => of_none rfl
theorem hlkTrainHbTimeout : ∀ x0, Statement (.hlkTrainHbTimeout x0) := fun _ => of_none rfl
theorem hostRead : ∀ x0 x1 x2 x3, Statement (.hostRead x0 x1 x2 x3) := fun _ _ _ _ => of_none rfl
theorem raRead : ∀ x0 x1 x2, Statement (.raRead x0 x1 x2) := fun _ _ _ => of_none rfl
theorem writeRow : ∀ x0 x1 x2, Statement (.writeRow x0 x1 x2) := fun _ _ _ => of_none rfl
theorem reconRead : ∀ x0 x1 x2 x3 x4, Statement (.reconRead x0 x1 x2 x3 x4) := fun _ _ _ _ _ => of_none rfl
theorem rebuildRead : ∀ x0 x1 x2 x3, Statement (.rebuildRead x0 x1 x2 x3) := fun _ _ _ _ => of_none rfl
theorem patrol : ∀ x0 x1 x2 x3, Statement (.patrol x0 x1 x2 x3) := fun _ _ _ _ => of_none rfl
theorem sysRead : ∀ x0 x1 x2 x3, Statement (.sysRead x0 x1 x2 x3) := fun _ _ _ _ => of_none rfl
theorem sysWrite : ∀ x0 x1 x2 x3, Statement (.sysWrite x0 x1 x2 x3) := fun _ _ _ _ => of_none rfl
theorem cal : ∀ x0 x1 x2 x3 x4, Statement (.cal x0 x1 x2 x3 x4) := fun _ _ _ _ _ => of_none rfl
theorem frameOpIssue : ∀ x0, Statement (.frameOpIssue x0) := fun _ => of_none rfl
theorem frameResult : Statement .frameResult := of_none rfl
theorem ladderTimeout : ∀ x0, Statement (.ladderTimeout x0) := fun _ => of_none rfl
theorem rowCommit : ∀ x0, Statement (.rowCommit x0) := fun _ => of_none rfl
theorem frontierWrite : ∀ x0, Statement (.frontierWrite x0) := fun _ => of_none rfl
theorem raDrop : Statement .raDrop := of_none rfl
theorem fmtRunSet : Statement .fmtRunSet := of_none rfl
theorem fmtRunClear : Statement .fmtRunClear := of_none rfl
theorem descriptorLoad : ∀ x0 x1, Statement (.descriptorLoad x0 x1) := fun _ _ => of_none rfl
theorem fmtStoreWrite : ∀ x0 x1, Statement (.fmtStoreWrite x0 x1) := fun _ _ => of_some rfl rfl
theorem acdRun : ∀ x0, Statement (.acdRun x0) := fun _ => of_none rfl
theorem placementGen : Statement .placementGen := of_none rfl
theorem placementGenDone : Statement .placementGenDone := of_none rfl
theorem rbldHold : ∀ x0, Statement (.rbldHold x0) := fun _ => of_none rfl
theorem acdClean : Statement .acdClean := of_none rfl
theorem acdCleanClr : Statement .acdCleanClr := of_none rfl
theorem acdLose : ∀ x0, Statement (.acdLose x0) := fun _ => of_none rfl
theorem streamTurn : ∀ x0, Statement (.streamTurn x0) := fun _ => of_none rfl
theorem rowSubmit : ∀ x0, Statement (.rowSubmit x0) := fun _ => of_none rfl
theorem rebuildRow : ∀ x0, Statement (.rebuildRow x0) := fun _ => of_none rfl
theorem cursorUpdate : Statement .cursorUpdate := of_none rfl
theorem rebuildBatchWrite : Statement .rebuildBatchWrite := of_none rfl
theorem journalInterval : Statement .journalInterval := of_none rfl
theorem journalLazy : Statement .journalLazy := of_none rfl
theorem journalWritten : ∀ x0, Statement (.journalWritten x0) := fun _ => of_none rfl
theorem checkpointTimer : Statement .checkpointTimer := of_none rfl
theorem checkpointWritten : ∀ x0, Statement (.checkpointWritten x0) := fun _ => of_none rfl
theorem checkpointRestore : ∀ x0 x1, Statement (.checkpointRestore x0 x1) := fun _ _ => of_none rfl
theorem resyncZone : ∀ x0 x1 x2 x3, Statement (.resyncZone x0 x1 x2 x3) := fun _ _ _ _ => of_none rfl
theorem wedgeDecision : ∀ x0 x1, Statement (.wedgeDecision x0 x1) := fun _ _ => of_none rfl
theorem blendEnd : ∀ x0, Statement (.blendEnd x0) := fun _ => of_none rfl
theorem settleReached : ∀ x0, Statement (.settleReached x0) := fun _ => of_none rfl
theorem inhibitRelease : ∀ x0, Statement (.inhibitRelease x0) := fun _ => of_none rfl
theorem microactuatorSaturation : ∀ x0, Statement (.microactuatorSaturation x0) := fun _ => of_none rfl
theorem headLost : ∀ x0, Statement (.headLost x0) := fun _ => of_none rfl
theorem headRecover : ∀ x0, Statement (.headRecover x0) := fun _ => of_none rfl
theorem actuatorLost : ∀ x0, Statement (.actuatorLost x0) := fun _ => of_none rfl
theorem seekTimeout : ∀ x0, Statement (.seekTimeout x0) := fun _ => of_none rfl
theorem targetWrite : ∀ x0 x1, Statement (.targetWrite x0 x1) := fun _ _ => of_none rfl
theorem seekRunAhead : ∀ x0 x1, Statement (.seekRunAhead x0 x1) := fun _ _ => of_none rfl
theorem loadRequest : ∀ x0, Statement (.loadRequest x0) := fun _ => of_none rfl
theorem loadTimeout : ∀ x0, Statement (.loadTimeout x0) := fun _ => of_none rfl
theorem unloadRequest : ∀ x0, Statement (.unloadRequest x0) := fun _ => of_none rfl
theorem retractRequest : ∀ x0, Statement (.retractRequest x0) := fun _ => of_none rfl
theorem retractPhaseEnd : ∀ x0, Statement (.retractPhaseEnd x0) := fun _ => of_none rfl
theorem linkDownRetract : ∀ x0, Statement (.linkDownRetract x0) := fun _ => of_none rfl
theorem vcmOpenCoil : ∀ x0, Statement (.vcmOpenCoil x0) := fun _ => of_none rfl
theorem vcmOvercurrent : ∀ x0, Statement (.vcmOvercurrent x0) := fun _ => of_none rfl
theorem vcmOcTest : ∀ x0 x1, Statement (.vcmOcTest x0 x1) := fun _ _ => of_none rfl
theorem vcmLeadShort : ∀ x0, Statement (.vcmLeadShort x0) := fun _ => of_none rfl
theorem vcmPolarityRunaway : ∀ x0, Statement (.vcmPolarityRunaway x0) := fun _ => of_none rfl
theorem pwmPeriod : ∀ x0 x1 x2 x3 x4 x5 x6, Statement (.pwmPeriod x0 x1 x2 x3 x4 x5 x6) := fun _ _ _ _ _ _ _ => of_none rfl
theorem currentSenseFault : Statement .currentSenseFault := of_none rfl
theorem shuntOvercurrent : ∀ x0, Statement (.shuntOvercurrent x0) := fun _ => of_none rfl
theorem observerLock : Statement .observerLock := of_none rfl
theorem observerLockLoss : Statement .observerLockLoss := of_none rfl
theorem pilotHandover : Statement .pilotHandover := of_none rfl
theorem angleDisagreement : Statement .angleDisagreement := of_none rfl
theorem pilotSuspect : Statement .pilotSuspect := of_none rfl
theorem speedLoopUpdate : ∀ x0 x1 x2 x3 x4 x5 x6 x7, Statement (.speedLoopUpdate x0 x1 x2 x3 x4 x5 x6 x7) := fun _ _ _ _ _ _ _ _ => of_none rfl
theorem spdRefEdge : ∀ x0, Statement (.spdRefEdge x0) := fun _ => of_none rfl
theorem phaseLock : Statement .phaseLock := of_none rfl
theorem referenceLost : Statement .referenceLost := of_none rfl
theorem spdRefSample : ∀ x0, Statement (.spdRefSample x0) := fun _ => of_none rfl
theorem autostart : Statement .autostart := of_none rfl
theorem spnStart : Statement .spnStart := of_none rfl
theorem spnStop : Statement .spnStop := of_none rfl
theorem spnDrydown : Statement .spnDrydown := of_none rfl
theorem spnPark : Statement .spnPark := of_none rfl
theorem psuspClear : Statement .psuspClear := of_none rfl
theorem spnCal : Statement .spnCal := of_none rfl
theorem eofsCalDone : ∀ x0, Statement (.eofsCalDone x0) := fun _ => of_none rfl
theorem speedTargetWrite : ∀ x0, Statement (.speedTargetWrite x0) := fun _ => of_none rfl
theorem senseEnd : ∀ x0 x1, Statement (.senseEnd x0 x1) := fun _ _ => of_none rfl
theorem brakeEnd : Statement .brakeEnd := of_none rfl
theorem brakeTimeout : Statement .brakeTimeout := of_none rfl
theorem alignEnd : ∀ x0 x1, Statement (.alignEnd x0 x1) := fun _ _ => of_none rfl
theorem openloopHandover : Statement .openloopHandover := of_none rfl
theorem startFailure : Statement .startFailure := of_none rfl
theorem phaseOrderLearn : Statement .phaseOrderLearn := of_none rfl
theorem catchEnd : Statement .catchEnd := of_none rfl
theorem loadokSet : Statement .loadokSet := of_none rfl
theorem reacqAttemptEnd : ∀ x0, Statement (.reacqAttemptEnd x0) := fun _ => of_none rfl
theorem reacqFailure : Statement .reacqFailure := of_none rfl
theorem speedFallback : Statement .speedFallback := of_none rfl
theorem lowSpeedDrydown : Statement .lowSpeedDrydown := of_none rfl
theorem drydownTimeout : Statement .drydownTimeout := of_none rfl
theorem actuatorsParked : Statement .actuatorsParked := of_none rfl
theorem spindleStopped : Statement .spindleStopped := of_none rfl
theorem powerLoss : Statement .powerLoss := of_none rfl
theorem regenEnd : Statement .regenEnd := of_none rfl
theorem phaseShortGround : ∀ x0, Statement (.phaseShortGround x0) := fun _ => of_none rfl
theorem openPhase : ∀ x0, Statement (.openPhase x0) := fun _ => of_none rfl
theorem busOvervoltage : Statement .busOvervoltage := of_none rfl
theorem overcurrentTest : ∀ x0, Statement (.overcurrentTest x0) := fun _ => of_none rfl
theorem contextDispatch : ∀ x0, Statement (.contextDispatch x0) := fun _ => of_none rfl
theorem nop : ∀ x0 x1 x2, Statement (.nop x0 x1 x2) := fun _ _ _ => of_none rfl
theorem mul : ∀ x0 x1 x2 x3 x4 x5, Statement (.mul x0 x1 x2 x3 x4 x5) := fun _ _ _ _ _ _ => of_none rfl
theorem mac : ∀ x0 x1 x2 x3 x4 x5, Statement (.mac x0 x1 x2 x3 x4 x5) := fun _ _ _ _ _ _ => of_none rfl
theorem msu : ∀ x0 x1 x2 x3 x4 x5, Statement (.msu x0 x1 x2 x3 x4 x5) := fun _ _ _ _ _ _ => of_none rfl
theorem add : ∀ x0 x1 x2 x3, Statement (.add x0 x1 x2 x3) := fun _ _ _ _ => of_none rfl
theorem lda : ∀ x0 x1 x2 x3, Statement (.lda x0 x1 x2 x3) := fun _ _ _ _ => of_none rfl
theorem clr : ∀ x0 x1 x2, Statement (.clr x0 x1 x2) := fun _ _ _ => of_none rfl
theorem abs : ∀ x0 x1 x2, Statement (.abs x0 x1 x2) := fun _ _ _ => of_none rfl
theorem wr : ∀ x0 x1 x2 x3 x4 x5, Statement (.wr x0 x1 x2 x3 x4 x5) := fun _ _ _ _ _ _ => of_none rfl
theorem min : ∀ x0 x1 x2 x3, Statement (.min x0 x1 x2 x3) := fun _ _ _ _ => of_none rfl
theorem max : ∀ x0 x1 x2 x3, Statement (.max x0 x1 x2 x3) := fun _ _ _ _ => of_none rfl
theorem ld : ∀ x0 x1 x2 x3 x4 x5, Statement (.ld x0 x1 x2 x3 x4 x5) := fun _ _ _ _ _ _ => of_none rfl
theorem loadDataReturn : ∀ x0, Statement (.loadDataReturn x0) := fun _ => of_none rfl
theorem st : ∀ x0 x1 x2 x3 x4 x5, Statement (.st x0 x1 x2 x3 x4 x5) := fun _ _ _ _ _ _ => of_none rfl
theorem stg : ∀ x0 x1 x2 x3 x4 x5, Statement (.stg x0 x1 x2 x3 x4 x5) := fun _ _ _ _ _ _ => of_none rfl
theorem dir : ∀ x0 x1 x2 x3 x4 x5, Statement (.dir x0 x1 x2 x3 x4 x5) := fun _ _ _ _ _ _ => of_none rfl
theorem movb : ∀ x0 x1 x2 x3 x4 x5, Statement (.movb x0 x1 x2 x3 x4 x5) := fun _ _ _ _ _ _ => of_none rfl
theorem jmp : ∀ x0 x1 x2, Statement (.jmp x0 x1 x2) := fun _ _ _ => of_none rfl
theorem br : ∀ x0 x1 x2 x3, Statement (.br x0 x1 x2 x3) := fun _ _ _ _ => of_none rfl
theorem brn : ∀ x0 x1 x2 x3, Statement (.brn x0 x1 x2 x3) := fun _ _ _ _ => of_none rfl
theorem loop : ∀ x0 x1 x2, Statement (.loop x0 x1 x2) := fun _ _ _ => of_none rfl
theorem setx : ∀ x0 x1 x2 x3, Statement (.setx x0 x1 x2 x3) := fun _ _ _ _ => of_none rfl
theorem cmt : ∀ x0 x1, Statement (.cmt x0 x1) := fun _ _ => of_none rfl
theorem endOp : ∀ x0 x1, Statement (.endOp x0 x1) := fun _ _ => of_none rfl
theorem cmtend : ∀ x0 x1, Statement (.cmtend x0 x1) := fun _ _ => of_none rfl
theorem sig : ∀ x0 x1 x2, Statement (.sig x0 x1 x2) := fun _ _ _ => of_none rfl
theorem kill : ∀ x0 x1 x2, Statement (.kill x0 x1 x2) := fun _ _ _ => of_none rfl
theorem ovr : ∀ x0 x1 x2 x3, Statement (.ovr x0 x1 x2 x3) := fun _ _ _ _ => of_none rfl
theorem ovrrel : ∀ x0 x1 x2, Statement (.ovrrel x0 x1 x2) := fun _ _ _ => of_none rfl
theorem trc : ∀ x0 x1 x2 x3, Statement (.trc x0 x1 x2 x3) := fun _ _ _ _ => of_none rfl
theorem customerWordLimit : ∀ x0, Statement (.customerWordLimit x0) := fun _ => of_none rfl
theorem lpeTrig : ∀ x0 x1, Statement (.lpeTrig x0 x1) := fun _ _ => of_none rfl
theorem lpeKill : ∀ x0 x1, Statement (.lpeKill x0 x1) := fun _ _ => of_none rfl
theorem fwOverrideSet : ∀ x0 x1, Statement (.fwOverrideSet x0 x1) := fun _ _ => of_none rfl
theorem fwOverrideRelease : ∀ x0, Statement (.fwOverrideRelease x0) := fun _ => of_none rfl
theorem lpeRun : ∀ x0, Statement (.lpeRun x0) := fun _ => of_none rfl
theorem imageLoad : ∀ x0, Statement (.imageLoad x0) := fun _ => of_none rfl
theorem imageLoadDone : ∀ x0, Statement (.imageLoadDone x0) := fun _ => of_none rfl
theorem imageCopy : ∀ x0, Statement (.imageCopy x0) := fun _ => of_none rfl
theorem controlStoreScrub : ∀ x0 x1, Statement (.controlStoreScrub x0 x1) := fun _ _ => of_none rfl
theorem sillageArm : ∀ x0, Statement (.sillageArm x0) := fun _ => of_none rfl
theorem sillageForce : ∀ x0, Statement (.sillageForce x0) := fun _ => of_none rfl
theorem sillageStop : ∀ x0, Statement (.sillageStop x0) := fun _ => of_none rfl
theorem sillagePeriodCapture : ∀ x0, Statement (.sillagePeriodCapture x0) := fun _ => of_none rfl
theorem sillageDone : ∀ x0, Statement (.sillageDone x0) := fun _ => of_none rfl
theorem sildatRead : Statement .sildatRead := of_none rfl
theorem dramRead : ∀ x0 x1 x2, Statement (.dramRead x0 x1 x2) := fun _ _ _ => of_none rfl
theorem dramWrite : ∀ x0 x1 x2 x3, Statement (.dramWrite x0 x1 x2 x3) := fun _ _ _ _ => of_none rfl
theorem sramFillDone : Statement .sramFillDone := of_none rfl
theorem backgroundFillPage : Statement .backgroundFillPage := of_none rfl
theorem mergeTimeout : ∀ x0, Statement (.mergeTimeout x0) := fun _ => of_none rfl
theorem bufFence : Statement .bufFence := of_none rfl
theorem scrubBlock : ∀ x0, Statement (.scrubBlock x0) := fun _ => of_none rfl
theorem sramScrub : ∀ x0, Statement (.sramScrub x0) := fun _ => of_none rfl
theorem retireGo : ∀ x0, Statement (.retireGo x0) := fun _ => of_none rfl
theorem retireDone : ∀ x0, Statement (.retireDone x0) := fun _ => of_none rfl
theorem dmaResume : ∀ x0, Statement (.dmaResume x0) := fun _ => of_none rfl
theorem wck2dqTracking : Statement .wck2dqTracking := of_none rfl
theorem sqTailDoorbell : ∀ x0 x1, Statement (.sqTailDoorbell x0 x1) := fun _ _ => of_none rfl
theorem cqHeadDoorbell : ∀ x0 x1, Statement (.cqHeadDoorbell x0 x1) := fun _ _ => of_none rfl
theorem vendorDoorbell : ∀ x0 x1, Statement (.vendorDoorbell x0 x1) := fun _ _ => of_none rfl
theorem ccEnable : ∀ x0, Statement (.ccEnable x0) := fun _ => of_none rfl
theorem controllerReady : Statement .controllerReady := of_none rfl
theorem ccDisable : Statement .ccDisable := of_none rfl
theorem nvmSubsystemReset : Statement .nvmSubsystemReset := of_none rfl
theorem resetDrainTimeout : Statement .resetDrainTimeout := of_none rfl
theorem shutdownNormal : Statement .shutdownNormal := of_none rfl
theorem shutdownAbrupt : Statement .shutdownAbrupt := of_none rfl
theorem commandFetch : ∀ x0, Statement (.commandFetch x0) := fun _ => of_none rfl
theorem deleteIoSq : ∀ x0 x1, Statement (.deleteIoSq x0 x1) := fun _ _ => of_none rfl
theorem createIoSq : ∀ x0 x1 x2 x3, Statement (.createIoSq x0 x1 x2 x3) := fun _ _ _ _ => of_none rfl
theorem deleteIoCq : ∀ x0 x1, Statement (.deleteIoCq x0 x1) := fun _ _ => of_none rfl
theorem createIoCq : ∀ x0 x1 x2 x3 x4, Statement (.createIoCq x0 x1 x2 x3 x4) := fun _ _ _ _ _ => of_none rfl
theorem getLogPage : ∀ x0 x1 x2 x3 x4, Statement (.getLogPage x0 x1 x2 x3 x4) := fun _ _ _ _ _ => of_none rfl
theorem identify : ∀ x0, Statement (.identify x0) := fun _ => of_none rfl
theorem abort : ∀ x0, Statement (.abort x0) := fun _ => of_none rfl
theorem setFeatures : ∀ x0 x1 x2, Statement (.setFeatures x0 x1 x2) := fun _ _ _ => of_none rfl
theorem powerManagement : ∀ x0 x1, Statement (.powerManagement x0 x1) := fun _ _ => of_none rfl
theorem numberOfQueues : ∀ x0 x1 x2, Statement (.numberOfQueues x0 x1 x2) := fun _ _ _ => of_none rfl
theorem volatileWriteCache : ∀ x0 x1, Statement (.volatileWriteCache x0 x1) := fun _ _ => of_none rfl
theorem spinWaitLimit : ∀ x0 x1, Statement (.spinWaitLimit x0 x1) := fun _ _ => of_none rfl
theorem diagnosticUnlock : ∀ x0 x1 x2, Statement (.diagnosticUnlock x0 x1 x2) := fun _ _ _ => of_none rfl
theorem mediaPolicy : ∀ x0 x1 x2 x3, Statement (.mediaPolicy x0 x1 x2 x3) := fun _ _ _ _ => of_none rfl
theorem getFeatures : ∀ x0 x1 x2, Statement (.getFeatures x0 x1 x2) := fun _ _ _ => of_none rfl
theorem asyncEventRequest : ∀ x0, Statement (.asyncEventRequest x0) := fun _ => of_none rfl
theorem firmwareImageDownload : ∀ x0 x1 x2, Statement (.firmwareImageDownload x0 x1 x2) := fun _ _ _ => of_none rfl
theorem firmwareCommit : ∀ x0 x1 x2 x3 x4, Statement (.firmwareCommit x0 x1 x2 x3 x4) := fun _ _ _ _ _ => of_none rfl
theorem firmwareActivation : Statement .firmwareActivation := of_none rfl
theorem activationTimeout : Statement .activationTimeout := of_none rfl
theorem flush : ∀ x0 x1, Statement (.flush x0 x1) := fun _ _ => of_none rfl
theorem write : ∀ x0 x1, Statement (.write x0 x1) := fun _ _ => of_none rfl
theorem read : ∀ x0 x1, Statement (.read x0 x1) := fun _ _ => of_none rfl
theorem zoneAppend : ∀ x0 x1, Statement (.zoneAppend x0 x1) := fun _ _ => of_none rfl
theorem zoneClose : ∀ x0 x1 x2 x3, Statement (.zoneClose x0 x1 x2 x3) := fun _ _ _ _ => of_none rfl
theorem zoneFinish : ∀ x0 x1 x2 x3, Statement (.zoneFinish x0 x1 x2 x3) := fun _ _ _ _ => of_none rfl
theorem zoneOpen : ∀ x0 x1 x2 x3, Statement (.zoneOpen x0 x1 x2 x3) := fun _ _ _ _ => of_none rfl
theorem zoneReset : ∀ x0 x1 x2 x3, Statement (.zoneReset x0 x1 x2 x3) := fun _ _ _ _ => of_none rfl
theorem zoneOffline : ∀ x0 x1 x2, Statement (.zoneOffline x0 x1 x2) := fun _ _ _ => of_none rfl
theorem setZoneDescriptorExtension : ∀ x0 x1 x2, Statement (.setZoneDescriptorExtension x0 x1 x2) := fun _ _ _ => of_none rfl
theorem reportZones : ∀ x0 x1 x2 x3 x4 x5 x6, Statement (.reportZones x0 x1 x2 x3 x4 x5 x6) := fun _ _ _ _ _ _ _ => of_none rfl
theorem spinWaitExpiry : ∀ x0 x1, Statement (.spinWaitExpiry x0 x1) := fun _ _ => of_none rfl
theorem frontierWaitExpiry : ∀ x0, Statement (.frontierWaitExpiry x0) := fun _ => of_none rfl
theorem nvqRun : ∀ x0, Statement (.nvqRun x0) := fun _ => of_none rfl
theorem linkDown : Statement .linkDown := of_none rfl
theorem perstAssert : Statement .perstAssert := of_none rfl
theorem perstDeassert : Statement .perstDeassert := of_none rfl
theorem memoryReadRequest : ∀ x0, Statement (.memoryReadRequest x0) := fun _ => of_none rfl
theorem memoryWriteRequest : ∀ x0, Statement (.memoryWriteRequest x0) := fun _ => of_none rfl
theorem configRequest : ∀ x0, Statement (.configRequest x0) := fun _ => of_none rfl
theorem messageReceived : ∀ x0, Statement (.messageReceived x0) := fun _ => of_none rfl
theorem pmeTurnOff : Statement .pmeTurnOff := of_none rfl
theorem completionReceived : ∀ x0 x1 x2, Statement (.completionReceived x0 x1 x2) := fun _ _ _ => of_none rfl
theorem completionTimeout : ∀ x0, Statement (.completionTimeout x0) := fun _ => of_none rfl
theorem quarantineEnd : ∀ x0, Statement (.quarantineEnd x0) := fun _ => of_none rfl
theorem busMasterDisable : Statement .busMasterDisable := of_none rfl
theorem busMasterEnable : ∀ x0, Statement (.busMasterEnable x0) := fun _ => of_none rfl
theorem functionLevelReset : Statement .functionLevelReset := of_none rfl
theorem d3hotEntry : Statement .d3hotEntry := of_none rfl
theorem d0Entry : Statement .d0Entry := of_none rfl
theorem egressFreeze : Statement .egressFreeze := of_none rfl
theorem freezeRelease : Statement .freezeRelease := of_none rfl
theorem l1Entry : Statement .l1Entry := of_none rfl
theorem msixUnmask : ∀ x0, Statement (.msixUnmask x0) := fun _ => of_none rfl
theorem railMonitorTrip : ∀ x0, Statement (.railMonitorTrip x0) := fun _ => of_none rfl
theorem railMonitorClear : ∀ x0, Statement (.railMonitorClear x0) := fun _ => of_none rfl
theorem macerationExpiry : ∀ x0, Statement (.macerationExpiry x0) := fun _ => of_none rfl
theorem recoveryWindowClose : ∀ x0, Statement (.recoveryWindowClose x0) := fun _ => of_none rfl
theorem faultInject : ∀ x0, Statement (.faultInject x0) := fun _ => of_none rfl
theorem firstCaptureRearm : Statement .firstCaptureRearm := of_none rfl
theorem bnrFirmwareEntry : ∀ x0, Statement (.bnrFirmwareEntry x0) := fun _ => of_none rfl
theorem bnrDat7Read : Statement .bnrDat7Read := of_none rfl
theorem bnrDump : Statement .bnrDump := of_none rfl
theorem dumpComplete : Statement .dumpComplete := of_none rfl
theorem pwrGoodRise : ∀ x0 x1 x2 x3, Statement (.pwrGoodRise x0 x1 x2 x3) := fun _ _ _ _ => of_none rfl
theorem pwrGoodFall : Statement .pwrGoodFall := of_none rfl
theorem resetNAssert : Statement .resetNAssert := of_none rfl
theorem resetNDeassert : ∀ x0 x1 x2, Statement (.resetNDeassert x0 x1 x2) := fun _ _ _ => of_none rfl
theorem glbWarmReset : ∀ x0 x1 x2 x3, Statement (.glbWarmReset x0 x1 x2 x3) := fun _ _ _ _ => of_none rfl
theorem glbColdReset : ∀ x0 x1 x2 x3, Statement (.glbColdReset x0 x1 x2 x3) := fun _ _ _ _ => of_none rfl
theorem vddAonLow : Statement .vddAonLow := of_none rfl
theorem vddAonReturn : ∀ x0 x1 x2, Statement (.vddAonReturn x0 x1 x2) := fun _ _ _ => of_none rfl
theorem flaconLoadDone : ∀ x0 x1 x2 x3 x4 x5 x6, Statement (.flaconLoadDone x0 x1 x2 x3 x4 x5 x6) := fun _ _ _ _ _ _ _ => of_none rfl
theorem dramTrainingDone : ∀ x0 x1, Statement (.dramTrainingDone x0 x1) := fun _ _ => of_none rfl
theorem configurationComplete : Statement .configurationComplete := of_none rfl
theorem cfgdoneTimeout : Statement .cfgdoneTimeout := of_none rfl
theorem avsVoltageRequest : ∀ x0 x1, Statement (.avsVoltageRequest x0 x1) := fun _ _ => of_none rfl
theorem dieTemperatureTrip : ∀ x0, Statement (.dieTemperatureTrip x0) := fun _ => of_none rfl
theorem bypass : Statement .bypass := of_none rfl
theorem idcode : Statement .idcode := of_none rfl
theorem samplePreload : ∀ x0, Statement (.samplePreload x0) := fun _ => of_none rfl
theorem extest : Statement .extest := of_none rfl
theorem clamp : Statement .clamp := of_none rfl
theorem highz : Statement .highz := of_none rfl
theorem mgrRun : ∀ x0 x1 x2, Statement (.mgrRun x0 x1 x2) := fun _ _ _ => of_none rfl
theorem mgrDiscover : ∀ x0, Statement (.mgrDiscover x0) := fun _ => of_none rfl
theorem mgrFwGo : Statement .mgrFwGo := of_none rfl
theorem pollPeriod : Statement .pollPeriod := of_none rfl
theorem claikReplyTimeout : Statement .claikReplyTimeout := of_none rfl
theorem upstreamSilence : Statement .upstreamSilence := of_none rfl
theorem discoverResponseSlot : Statement .discoverResponseSlot := of_none rfl
theorem poll : ∀ x0 x1, Statement (.poll x0 x1) := fun _ _ => of_none rfl
theorem discover : ∀ x0, Statement (.discover x0) := fun _ => of_none rfl
theorem assign : ∀ x0 x1 x2 x3 x4, Statement (.assign x0 x1 x2 x3 x4) := fun _ _ _ _ _ => of_none rfl
theorem grant : ∀ x0 x1 x2, Statement (.grant x0 x1 x2) := fun _ _ _ => of_none rfl
theorem drydown : ∀ x0 x1, Statement (.drydown x0 x1) := fun _ _ => of_none rfl
theorem release : ∀ x0 x1, Statement (.release x0 x1) := fun _ _ => of_none rfl
theorem spin : ∀ x0 x1, Statement (.spin x0 x1) := fun _ _ => of_none rfl
theorem pscap : ∀ x0 x1 x2, Statement (.pscap x0 x1 x2) := fun _ _ _ => of_none rfl
theorem setref : ∀ x0 x1 x2 x3 x4, Statement (.setref x0 x1 x2 x3 x4) := fun _ _ _ _ _ => of_none rfl
theorem fwactivate : ∀ x0 x1, Statement (.fwactivate x0 x1) := fun _ _ => of_none rfl
theorem sync : ∀ x0 x1, Statement (.sync x0 x1) := fun _ _ => of_none rfl
theorem fwdata : ∀ x0 x1, Statement (.fwdata x0 x1) := fun _ _ => of_none rfl
theorem fwctlQuery : ∀ x0 x1, Statement (.fwctlQuery x0 x1) := fun _ _ => of_none rfl
theorem fwctlCommit : ∀ x0 x1 x2, Statement (.fwctlCommit x0 x1 x2) := fun _ _ _ => of_none rfl
theorem harvest : ∀ x0 x1 x2 x3, Statement (.harvest x0 x1 x2 x3) := fun _ _ _ _ => of_none rfl
theorem peerinfo : ∀ x0 x1, Statement (.peerinfo x0 x1) := fun _ _ => of_none rfl
theorem wake : ∀ x0 x1, Statement (.wake x0 x1) := fun _ _ => of_none rfl
theorem reservedType : ∀ x0, Statement (.reservedType x0) := fun _ => of_none rfl
theorem status : ∀ x0 x1, Statement (.status x0 x1) := fun _ _ => of_none rfl
theorem hello : ∀ x0 x1 x2, Statement (.hello x0 x1 x2) := fun _ _ _ => of_none rfl
theorem ack : ∀ x0 x1 x2, Statement (.ack x0 x1 x2) := fun _ _ _ => of_none rfl
theorem fwstat : ∀ x0 x1 x2, Statement (.fwstat x0 x1 x2) := fun _ _ _ => of_none rfl
theorem record : ∀ x0 x1, Statement (.record x0 x1) := fun _ _ => of_none rfl
theorem harvestTimer : Statement .harvestTimer := of_none rfl
theorem peerCommandTimeout : ∀ x0 x1, Statement (.peerCommandTimeout x0 x1) := fun _ _ => of_none rfl
theorem workerSilent : ∀ x0, Statement (.workerSilent x0) := fun _ => of_none rfl
theorem syncOutFault : Statement .syncOutFault := of_none rfl
theorem registerWrite : ∀ x0 x1 x2, Statement (.registerWrite x0 x1 x2) := fun _ _ _ => of_some rfl rfl
theorem referenceClockLost : ∀ x0, Statement (.referenceClockLost x0) := fun _ => of_none rfl
theorem referenceClockReturn : ∀ x0, Statement (.referenceClockReturn x0) := fun _ => of_none rfl
theorem watchdogExpiry : ∀ x0, Statement (.watchdogExpiry x0) := fun _ => of_none rfl
theorem sramRead : ∀ x0 x1 x2 x3, Statement (.sramRead x0 x1 x2 x3) := fun _ _ _ _ => of_none rfl
theorem clearingRead : ∀ x0 x1, Statement (.clearingRead x0 x1) := fun _ _ => of_some rfl rfl
theorem srvMemdatWrite : ∀ x0 x1, Statement (.srvMemdatWrite x0 x1) := fun _ _ => of_none rfl
theorem srvMemdatRead : ∀ x0, Statement (.srvMemdatRead x0) := fun _ => of_none rfl
theorem vcmSensePairExchanged : ∀ x0, Statement (.vcmSensePairExchanged x0) := fun _ => of_none rfl
theorem claikFrameCrcError : ∀ x0, Statement (.claikFrameCrcError x0) := fun _ => of_none rfl
theorem addressConflict : ∀ x0, Statement (.addressConflict x0) := fun _ => of_none rfl
theorem discoverRoundEnd : Statement .discoverRoundEnd := of_none rfl
theorem ckminExpiry : Statement .ckminExpiry := of_none rfl
theorem dataLinkUp : ∀ x0 x1 x2, Statement (.dataLinkUp x0 x1 x2) := fun _ _ _ => of_none rfl
theorem linkError : ∀ x0, Statement (.linkError x0) := fun _ => of_none rfl
theorem aggregationTimeExpiry : ∀ x0, Statement (.aggregationTimeExpiry x0) := fun _ => of_none rfl

end Sys2Proof.Laws.Aligned
end

