-- ==== Sys2Proof/Laws/Slots.lean ====
section
/-!
SUPPORT. Fields of numbers put together from fields, and the 64 bytes of a frame operation (R161), which are read as what was written.
-/

namespace Sys2Proof.Machine

set_option Elab.async false

/-- A number put together from fields, each a value and its width, the lowest first. -/
def packed : List (Nat × Nat) → Nat
  | [] => 0
  | f :: l => f.1 + packed l * 2 ^ f.2

/-- The whole of a number. -/
theorem bits_all {a w : Nat} (h : a < 2 ^ w) : bits a 0 w = a := by simp [bits, Nat.mod_eq_of_lt h]

/-- Bits that lie below `k` are those of the part below `2^k`. -/
theorem bits_low {a b k lo w : Nat} (h : lo + w ≤ k) : bits (a + b * 2 ^ k) lo w = bits a lo w := by
  unfold bits
  rw [show b * 2 ^ k = 2 ^ lo * (2 ^ w * (b * 2 ^ (k - lo - w))) by
    rw [mul_left_comm (2 ^ w), mul_left_comm (2 ^ lo), ← pow_add, ← pow_add]; congr 2; omega,
    Nat.add_mul_div_left _ _ (Nat.two_pow_pos lo), Nat.add_mul_mod_self_left]

/-- Bits from `k` on are those of the part above. -/
theorem bits_high {a b k lo w : Nat} (ha : a < 2 ^ k) (h : k ≤ lo) : bits (a + b * 2 ^ k) lo w = bits b (lo - k) w := by
  unfold bits
  rw [show (2 : Nat) ^ lo = 2 ^ k * 2 ^ (lo - k) by rw [← pow_add]; congr 1; omega, ← Nat.div_div_eq_div_mul,
    Nat.add_mul_div_right _ _ (Nat.two_pow_pos k), Nat.div_eq_of_lt ha, Nat.zero_add]

/-- Bits within a field are that field's. -/
theorem bits_packed {l : List (Nat × Nat)} (hl : ∀ f ∈ l, f.1 < 2 ^ f.2) {i : Nat} {f : Nat × Nat} (hi : l[i]? = some f) {lo w : Nat}
    (hw : lo + w ≤ f.2) : bits (packed l) (((l.take i).map (·.2)).sum + lo) w = bits f.1 lo w := by
  induction l generalizing i with
  | nil => simp at hi
  | cons x l ih =>
    cases i with
    | zero => simp at hi; subst hi; simpa [packed] using bits_low hw
    | succ i =>
      rw [packed, List.take_succ_cons, List.map_cons, List.sum_cons, Nat.add_assoc,
        bits_high (hl x (List.mem_cons_self ..)) (Nat.le_add_right _ _), Nat.add_sub_cancel_left]
      exact ih (fun f hf => hl f (List.mem_cons_of_mem _ hf)) (by simpa using hi)

/-- A number of fields stays below their widths. -/
theorem packed_lt {l : List (Nat × Nat)} (hl : ∀ f ∈ l, f.1 < 2 ^ f.2) : packed l < 2 ^ (l.map (·.2)).sum := by
  induction l with
  | nil => simp [packed]
  | cons x l ih =>
    have h := ih fun f hf => hl f (List.mem_cons_of_mem _ hf)
    rw [packed, List.map_cons, List.sum_cons, pow_add]
    calc x.1 + packed l * 2 ^ x.2 < (packed l + 1) * 2 ^ x.2 := by
          rw [Nat.add_mul, Nat.one_mul, Nat.add_comm]
          exact Nat.add_lt_add_left (hl x (List.mem_cons_self ..)) _
      _ ≤ 2 ^ (l.map (·.2)).sum * 2 ^ x.2 := Nat.mul_le_mul_right _ h
      _ = _ := Nat.mul_comm _ _

/-- A window's entry is put together from its fields (R152). -/
theorem DefWin.entry_lt (d : DefWin) (t k : Nat) : d.entry t k < 2 ^ 64 := by unfold DefWin.entry; omega

/-- The windows of an operation take 64 bits each. -/
theorem defWords_packed (t k : Nat) (l : List DefWin) : defWords t k l = packed (l.map fun d => (d.entry t k, 64)) := by
  induction l with
  | nil => rfl
  | cons d l ih => rw [defWords, ih, List.map_cons, packed, Nat.mul_comm]

/-- The words of a frame operation spell it (R161): at most four windows, each within its fields. -/
theorem FrameOp.ofWord_word (op : FrameOp) (h4 : op.defs.length ≤ 4) (hd : ∀ d ∈ op.defs, d.start < 2 ^ 19 ∧ d.len < 2 ^ 11) :
    FrameOp.ofWord op.word = some op := by
  obtain ⟨wr, cls, mask, gen, track, slot, defs, data, rcv, off, ld, mtag⟩ := op
  dsimp only at h4 hd
  have hwin : ∀ f ∈ defs.map fun d => (d.entry track.toNat slot.toNat, 64), f.1 < 2 ^ f.2 := by
    intro f hf
    obtain ⟨d, -, rfl⟩ := List.mem_map.1 hf
    exact d.entry_lt _ _
  have hD : defWords track.toNat slot.toNat defs < 2 ^ 256 := by
    rw [defWords_packed]
    refine lt_of_lt_of_le (packed_lt hwin) (Nat.pow_le_pow_right (by decide) ?_)
    simp [Function.comp_def]; omega
  have hb := mask.isLt; have hg := gen.isLt; have ht := track.isLt; have hs := slot.isLt; have ha := data.isLt; have hr := rcv.isLt
  have ho := off.isLt; have hm := ld.isLt; have hn := mtag.isLt; have hc := cls.isLt
  have h0 : (if wr then 2 else 1 : Nat) < 2 ^ 4 := by split <;> decide
  have key : (FrameOp.word ⟨wr, cls, mask, gen, track, slot, defs, data, rcv, off, ld, mtag⟩).toNat = packed [(if wr then 2 else 1, 4),
      (cls.val, 4), (mask.toNat, 8), (gen.toNat, 16), (track.toNat, 21), (slot.toNat, 8), (defs.length, 3), (data.toNat, 64), (rcv.toNat, 64),
      (defWords track.toNat slot.toNat defs, 256), (off.toNat, 16), (ld.toNat, 16), (mtag.toNat, 32)] := by
    unfold FrameOp.word
    simp only [packed]
    rw [BitVec.toNat_ofNat, Nat.mod_eq_of_lt hD, Nat.mod_eq_of_lt (show defs.length < 8 by omega)]
    rw [Nat.mod_eq_of_lt]
    · split <;> omega
    · split <;> omega
  generalize FrameOp.word ⟨wr, cls, mask, gen, track, slot, defs, data, rcv, off, ld, mtag⟩ = n at key ⊢
  generalize hL : [_, _, _, _, _, _, _, _, _, _, _, _, _] = l at key
  have hl : ∀ f ∈ l, f.1 < 2 ^ f.2 := by
    subst hL
    simp only [List.mem_cons, List.not_mem_nil, or_false]
    rintro f (rfl | rfl | rfl | rfl | rfl | rfl | rfl | rfl | rfl | rfl | rfl | rfl | rfl) <;> first | exact h0 | exact hD | (dsimp only; omega)
  have field (i lo v w w' : Nat) (hi : l[i]? = some (v, w)) (hs : ((l.take i).map (·.2)).sum = lo) (hv : v < 2 ^ w') (hw : w' ≤ w) :
      bits n.toNat lo w' = v := by
    have h := bits_packed hl hi (lo := 0) (w := w') (by omega)
    rw [key, ← hs]
    exact h.trans (bits_all hv)
  have e0 := field 0 0 _ _ 4 (by subst hL; rfl) (by subst hL; rfl) h0 (by decide)
  have e1 := field 1 4 _ _ 2 (by subst hL; rfl) (by subst hL; rfl) (by omega) (by decide)
  have e2 := field 2 8 _ _ 8 (by subst hL; rfl) (by subst hL; rfl) hb (by decide)
  have e3 := field 3 16 _ _ 9 (by subst hL; rfl) (by subst hL; rfl) hg (by decide)
  have e4 := field 4 32 _ _ 21 (by subst hL; rfl) (by subst hL; rfl) ht (by decide)
  have e5 := field 5 53 _ _ 8 (by subst hL; rfl) (by subst hL; rfl) hs (by decide)
  have e6 := field 6 61 _ _ 3 (by subst hL; rfl) (by subst hL; rfl) (by omega) (by decide)
  have e7 := field 7 64 _ _ 40 (by subst hL; rfl) (by subst hL; rfl) ha (by decide)
  have e8 := field 8 128 _ _ 40 (by subst hL; rfl) (by subst hL; rfl) hr (by decide)
  have e10 := field 10 448 _ _ 16 (by subst hL; rfl) (by subst hL; simp) ho (by decide)
  have e11 := field 11 464 _ _ 16 (by subst hL; rfl) (by subst hL; simp) hm (by decide)
  have e12 := field 12 480 _ _ 24 (by subst hL; rfl) (by subst hL; simp) hn (by decide)
  have e9 : ∀ i d, defs[i]? = some d → ∀ lo w, lo + w ≤ 64 →
      bits n.toNat (192 + (64 * i + lo)) w = bits (d.entry track.toNat slot.toNat) lo w := by
    intro i d hi lo w hw
    have hi4 : i < 4 := by have := (List.getElem?_eq_some_iff.1 hi).1; omega
    have h := bits_packed hl (i := 9) (lo := 64 * i + lo) (w := w) (by subst hL; rfl) (by dsimp only; omega)
    have h2 := bits_packed hwin (i := i) (f := (d.entry track.toNat slot.toNat, 64)) (by simp [hi]) hw
    have hs : (((defs.map fun d => (d.entry track.toNat slot.toNat, 64)).take i).map (·.2)).sum = 64 * i := by
      have : i ≤ defs.length := (List.getElem?_eq_some_iff.1 hi).1.le
      simp [← List.map_take, Function.comp_def]; omega
    rw [hs, ← defWords_packed] at h2
    rw [key, ← h2, ← h]
    subst hL; rfl
  have hlist : ((List.range defs.length).map fun i => (⟨bits n.toNat (192 + 64 * i + 29) 19, bits n.toNat (192 + 64 * i + 48) 11⟩ : DefWin))
      = defs := by
    refine List.ext_getElem (by simp) fun i h1 h2 => ?_
    have hi : defs[i]? = some defs[i] := List.getElem?_eq_getElem h2
    have hs := hd _ (List.getElem_mem h2)
    rw [List.getElem_map, List.getElem_range, Nat.add_assoc, Nat.add_assoc, e9 i _ hi 29 19 (by decide), e9 i _ hi 48 11 (by decide)]
    generalize defs[i] = d at hs
    obtain ⟨a, b⟩ := d
    simp only [DefWin.mk.injEq, DefWin.entry, bits] at hs ⊢
    omega
  have hf : Fin.ofNat 2 cls.val = cls := Fin.ext (Nat.mod_eq_of_lt hc)
  simp only [FrameOp.ofWord, e0, e1, e2, e3, e4, e5, e6, e7, e8, e10, e11, e12, hlist, h4, hc, hf, and_true, BitVec.ofNat_toNat, BitVec.setWidth_eq]
  cases wr <;> rfl

end Sys2Proof.Machine
end

