-- ==== Sys2Proof/Tests/Slice0.lean ====
section
/-!
SUPPORT. The package's own tests: the well-formedness smoke test, a few steps whose results the spec gives, and for the hypotheses of the
statements of Certificates/Slice0 a concrete state that meets them, clause by clause.
-/

namespace Sys2Proof.Tests

set_option Elab.async false
open Sys2Proof.Machine

/-! ## Small states -/

/-- A drive in operation: started up, its configuration complete. -/
def up : State := State.reset.setMany 0 [(GLB_BOOT_PHASE, 8), (GLB_BOOT_CFGDONE, 1), (GLB_ROLE_ROLE, 1)]

/-- `up` with register fields of instance 0 set. -/
def st (l : List (Field × Nat)) : State := up.setMany 0 l

/-- A shelf manager with its downstream port enabled. -/
def mgr (l : List (Field × Nat)) : State := st ([(GLB_ROLE_ROLE, 2), (GLB_ROLE_LEVEL, 1), (CLB_CTL_DNEN, 1)] ++ l)

/-- A state meets a condition. -/
def meets (s : State) (p : State → Bool) : Bool := p s

/-- A descriptor of one zone: 100 frames a revolution, windows of 200 ticks. -/
def dsc : Descriptor := ⟨3, 0, 0, 64, 200, 0, 0, 1, 1, 0, 0, 0, 0, [⟨0, 0, 1, 67108864, 100, 1, 4, 0, 8, 0, 0⟩]⟩

/-- `st` with `dsc` accepted for surface 0 and its RATIO on lane 0. -/
def onTrack (l : List (Field × Nat)) : State := { st ([(FMT_STS_DESC_OK, 1), (LAN_ZRATIO, 67108864), (LAN_POP, 1)] ++ l) with descs := [(0, dsc)] }

/-- A frame operation that reads block 0 of slot 1 of track 0, which starts at tick 41,943, at the recovery class. -/
def rd : FrameOp := ⟨false, 1, 1, 0, 0, 1, [], 0x40000000, 0, 0, 0, 7⟩

/-- One that writes. -/
def wr : FrameOp := { rd with write := true }

/-! ## Well-formedness: an ill-formed command for each check -/

/-- A word that flips one byte twice. -/
def twice : List ByteErr := [⟨0, 1⟩, ⟨0, 1⟩]

theorem test_illformed_shadow : ([Instr.groupCommit .ang 0 31 false, .groupCancel .ang 1 0, .decisionPoint .ang 0 31, .boundarySwap .ang 0 31,
    .multiwordLowRead 2, .shadowWrite 2 0, .registerWrite .m0 1 0, .clearingRead 3 false, .fmtStoreWrite 2 0].all fun i => !i.wellFormed) = true := by
  decide +kernel

theorem test_illformed_data : ([Instr.frameOpRead 0 0, .frameOpRead 0 wr.word, .frameOpWrite 0 0 rd.word, .frameOpRead 0 (rd.word + 0x20),
    .codewordStaged ⟨0, []⟩, .phaseTrimUpdate ⟨0, []⟩ 0, .decodeDone 0 ⟨true, [], 4⟩, .dramRead .host 0 twice,
    .dramWrite .host 1 (List.replicate 64 0) [], .dramWrite .host 0 [] [], .mergeTimeout [⟨0, 0⟩], .scrubBlock twice,
    .memoryReadRequest ⟨.memory, 0, 0, 4, [0], false, false, false⟩, .memoryWriteRequest ⟨.memory, 0, 0, 4, [0], false, false, false⟩,
    .memoryReadRequest ⟨.memory, 0, 0, 0, [], false, false, false⟩].all fun i => !i.wellFormed) = true := by decide +kernel

theorem test_illformed_values : ([Instr.pwmPeriod ⟨0, 0, 0, 0⟩ ⟨0, 0, 0⟩ 0 23040 0 0 0, .speedLoopUpdate (-32769) 0 0 0 0 0 true 0,
    .speedLoopUpdate 0 32768 0 0 0 0 true 0, .getLogPage 5 1 true 2 4, .firmwareImageDownload 5 0 6, .fwdata 0 [], .record 5 [0, 0, 0],
    .harvest 5 0 0 0, .harvest 5 0 0 3].all fun i => !i.wellFormed) = true := by decide +kernel

theorem test_wellformed : ([Instr.groupCommit .ang 0 0 false, .multiwordLowRead 4, .frameOpRead 0 rd.word, .frameOpWrite 0 0 wr.word,
    .phaseTrimUpdate ⟨0, List.replicate 55 0⟩ 0,
    .dramWrite .host 0 (List.replicate 64 0) [⟨0, 1⟩, ⟨67, 1⟩], .memoryReadRequest ⟨.memory, 0, 0, 4, [], false, false, false⟩,
    .pwmPeriod ⟨0, 0, 0, 0⟩ ⟨0, 0, 0⟩ 0 23039 0 0 0, .getLogPage 5 1 true 4 8, .fwdata 0 (List.replicate 56 0), .record 5 [0, 0],
    .harvest 5 0 0 2].all Instr.wellFormed) = true := by decide +kernel


/-! ## Witnesses: the angle timebase, the lanes, the decoders, the head links -/

theorem w_reaches : ([1, 2, 3, 4, 5, 6, 7, 8, 9, 10, 11, 12, 15, 16].all fun b => reaches b up) = true ∧ reaches 14 (mgr []) = true ∧
    aonDown up = false ∧ inReset up = false ∧ driveRole up = true := by decide +kernel

/-- The difference that `ClockCycleMovesStamp` names, for the advances `p` of both sensors. -/
def turn (p : Int) (s : State) : Int :=
  let u := (s.setI ANG_PROJ 0 (wrapTicks p)).setI ANG_PROJ 1 (wrapTicks p)
  wrapTicks ((sourceAngle (s.get ANG_SRC_SRC 0) u : Int) - s.getI ANG_SRCOFS 0 - s.tick)

theorem w_ClockCycleMovesStamp :
    ([st [(ANG_SRC_SRC, 1)], st [(ANG_SRC_SRC, 1), (ANG_SRC_DIR, 1), (ANG_STAMP_LO, 1)]].all (fun s => reaches 1 s && !aonDown s
      && s.is ANG_SRC_SRC 0 1 && !s.on ANG_SRC_SLEW 0 && s.is ANG_SLEWREM 0 0 && !s.on ANG_SLEWDUE 0 && preciseNow s == s.on ANG_SRC_PRECISE 0) &&
    meets (st [(ANG_SRC_SRC, 1)]) (fun s => turn 0 s == 0 && decide (0 < turn 5 s) && decide ((s.stamp + 1) % 2 ^ 22 ≠ 0)
      && decide (turn (-5) s < 0) && !s.on ANG_SRC_DIR 0) &&
    meets (st [(ANG_SRC_SRC, 1), (ANG_SRC_DIR, 1), (ANG_STAMP_LO, 1)]) (fun s => decide (turn (-5) s < 0) && s.on ANG_SRC_DIR 0
      && decide (s.tick ≠ 0)) &&
    meets (st [(GLB_BOOT_RECOVERY, 1)]) (fun s => !aonDown s && poweredOff 1 s)) = true := by decide +kernel

theorem w_IndexAndRequalification :
    (meets (st [(ANG_SRCSEL_EN0, 1)]) (fun s => plotEnabled 0 s) &&
    meets (st [(ANG_REQUAL, 1), (ANG_SRC_VALID0, 1), (ANG_OKIDX, 1), (ANG_OKADV, 16777216)]) (fun s => s.on ANG_REQUAL 0
      && s.on (validField 0) 0 && s.on ANG_OKIDX 0 && decide (16777216 ≤ (s.getI ANG_OKADV 0).natAbs))) = true := by decide +kernel

theorem w_Comparators :
    (meets (st [(ANG_CMP_EN, 1)]) (fun s => s.on ANG_CMP_EN 0 && !s.on ANG_SRC_DIR 0 && decide (s.get ANG_CMP_TARGET 0 ≤ s.stamp)
      && !s.on ANG_CMP_PERIODIC 0 && s.is ANG_CMP_ACTION 0 0) &&
    meets (st [(ANG_CMP_EN, 1), (ANG_CMP_ACTION, 3), (ANG_CMP_PERIODIC, 1), (ANG_CMP_INTERVAL, 9)]) (fun s => s.on ANG_CMP_EN 0
      && decide (s.get ANG_CMP_TARGET 0 ≤ s.stamp) && s.on ANG_CMP_PERIODIC 0 && s.on ANG_CMP_INTERVAL 0 && s.is ANG_CMP_ACTION 0 3) &&
    !up.on ANG_CMP_EN 0 && !cmpDue 0 up) = true := by decide +kernel

theorem w_CommitGroupSteps :
    (meets (st [(ANG_SRC_SRC, 1), (ANG_SRC_STILL, 0)]) (fun s => reaches (blkNum .ang) s && Machine.groupExists .ang 0 0 && !s.bit (pendF .ang) 0 0
      && !swapsAtOnce (((s.setBit (pendF .ang) 0 0 true).setBit (doneF .ang) 0 0 false).setBit (rejectF .ang) 0 0 false)) &&
    meets (st [(ANG_CMT_STS_PENDING, 1), (ANG_STAMP_LO, 4194272)]) (fun s => s.bit (pendF .ang) 0 0 && !s.bit (decidedF .ang) 0 0
      && boundaryMet .ang 0 0 32 s) &&
    meets (st [(ANG_STAMP_LO, 100)]) (fun s => !boundaryMet .ang 0 0 32 s && !boundaryMet .ang 0 0 0 s) &&
    meets ((st [(ANG_CMT_STS_PENDING, 1)]).setBit (decidedF .ang) 0 0 true) (fun s => s.bit (pendF .ang) 0 0 && s.bit (decidedF .ang) 0 0
      && boundaryMet .ang 0 0 0 s) &&
    meets { (((onTrack [(LAN_CMT_STS_PENDING, 1), (LAN_STS_STATE, 2)]).setBit (decidedF .lan) 0 0 true).setLane 0 { LaneQ.empty with
        queue := [{ rd with slot := 0, load := 1 }] }) with mem := [(0, 1)] } (fun s => reaches (blkNum .lan) s && s.bit (pendF .lan) 0 0
      && s.bit (decidedF .lan) 0 0 && boundaryMet .lan 0 0 0 s && loadMeets 0 0 0 s) &&
    meets { ((onTrack [(LAN_CMT_STS_PENDING, 1), (LAN_STS_STATE, 2), (ANG_STAMP_LO, 4194272)]).setLane 0 { LaneQ.empty with
        queue := [{ rd with slot := 0, load := 1 }] }) with mem := [(0, 1)] } (fun s => s.bit (pendF .lan) 0 0
      && !s.bit (decidedF .lan) 0 0 && boundaryMet .lan 0 0 32 s && loadMeets 0 0 32 s)) = true := by decide +kernel

/-- Whether the group of the shadowed register at an offset is pending. -/
def pends (off : Nat) (s : State) : Option Bool :=
  let at1 (r : RegDesc) (j : Nat) : Option Bool := (shBlk r.blk).bind fun b => (groupOf b r).map fun g => s.bit (pendF b) (instanceOf b r j) g
  match findReg off with
  | .shadow r j _ => at1 r j
  | .active r j _ => if r.shadowed then at1 r j else none
  | .nothing => none

theorem w_ShadowWrites :
    (reaches 1 up && !inReset up && inReset (up.set PAD_RSTN 0 1) && regOffset 0x20010030 == some 0x10030 && !poweredOff 1 up &&
    ([0x10030, 0x18030].all fun off => pends off up == some false && pends off (st [(ANG_CMT_STS_PENDING, 1)]) == some true) &&
    regOffset 0 == none && poweredOff 3 (mgr []) && (match findReg 0xFFFC with | .nothing => true | _ => false) &&
    (match findReg 0 with | .active r _ _ => !r.shadowed | _ => false)) = true := by decide +kernel

theorem w_Lanes :
    (meets (st [(LAN_POP, 1), (LAN_STS_STATE, 1)]) (fun s => s.on LAN_POP 0 && !s.is LAN_STS_STATE 0 3 && !s.is LAN_STS_STATE 0 0) &&
    meets (st [(LAN_STS_STATE, 3), (LAN_TO, 2), (LAN_CTL_REQ, 2)]) (fun s => s.is LAN_STS_STATE 0 3 && (s.lane 0).cur.isNone
      && (s.lane 0).wcur.isNone && (s.lane 0).wnext.isNone && s.get LAN_TO 0 == s.get LAN_CTL_REQ 0 && s.is LAN_TO 0 2) &&
    meets (st [(LAN_STS_STATE, 1), (LAN_STS_FRANGE, 1), (LAN_LOCKN, 16)]) (fun s => !s.is LAN_STS_STATE 0 0
      && s.on LAN_STS_FRANGE 0 == outOfRange (s.get LAN_ZRATIO 0) (stampRate s) && s.is LAN_LOCKN 0 16) && up.is LAN_STS_STATE 0 0 &&
    meets ((st [(LAN_BLOCKS, 2), (LAN_PTRIM_CLAMP, 5), (LAN_AGC_FREEZE, 1), (LAN_OFS_FREEZE, 1), (LAN_ASYM_FREEZE, 1)]).setLane 0 { LaneQ.empty with cur := some (0, 0) })
      (fun s => (s.lane 0).cur.isSome
      && !trimHeld 0 (adaptLane 0 [] (noteFlag 0 s)) && decide ((trimRaw 0 0 s).natAbs < s.get LAN_PTRIM_CLAMP 0)
      && decide (s.get LAN_PTRIM_CLAMP 0 < 2 ^ 15)) &&
    meets ((st [(LAN_PTRIM_HOLD, 1), (LAN_WEDGE, 1)]).setLane 0 { LaneQ.empty with cur := some (0, 0) })
      (fun s => (s.lane 0).cur.isSome
      && trimHeld 0 (adaptLane 0 [] (noteFlag 0 s))) &&
    meets ((onTrack [(LAN_RTTSEL_LEARN, 1), (LAN_STS_STATE, 2), (ANG_STAMP_LO, 8192)]).setLane 0 { LaneQ.empty with cur := some (0, 0) })
      (fun s =>
      intervalEnds 0 0 s && s.on LAN_RTTSEL_LEARN 0 && s.is LAN_STS_STATE 0 2 && (s.lane 0).cur.isSome && !(noteFlag 0 s).on LAN_IVDEF 0
      && !intervalEnds 0 1 s)) = true := by decide +kernel

theorem w_LaneDefects :
    (meets (st [(LAN_DROP_EN, 1), (LAN_TA_EN, 1), (LAN_STS_STATE, 1), (LAN_DROP_WIN, 1), (LAN_DROP_THR, 50), (LAN_AGC_TARGET, 100), (LAN_TA_WIN, 1),
        (LAN_TA_THR, 100)]) (fun s => s.on LAN_DROP_EN 0 && !s.on LAN_FDROP 0 && s.on LAN_TA_EN 0 && !s.on LAN_FTA 0 && !s.is LAN_STS_STATE 0 0
      && dropoutMet 0 [0] s && !dropoutMet 0 [100] s && asperityMet 0 [100] s && !asperityMet 0 [99] s) &&
    ([LAN_FDROP, LAN_FTA].all fun f => meets (st [(f, 1), (LAN_DROP_REL, 1), (LAN_DROP_THR, 50), (LAN_AGC_TARGET, 100)]) (fun s => s.on f 0
      && releaseMet 0 [60] s && !releaseMet 0 [59] s && !(s.on LAN_FDROP 0 && s.on LAN_FTA 0))) &&
    meets (onTrack [(LAN_STS_WRITING, 1)]) (fun s => windowMet 0 0 s && s.on LAN_STS_WRITING 0 && !s.on LAN_WEDGE 0) &&
    ([0, 1].all fun p => meets (onTrack [(LAN_SPLIT, p), (LAN_WEDGE, 1), (ANG_STAMP_LO, 200)]) (fun s => s.is LAN_SPLIT 0 p && s.on LAN_WEDGE 0
      && windowMet 0 (windowTicks 0 s) s && !windowMet 0 0 s)) && !windowMet 0 (windowTicks 0 (onTrack [])) (onTrack [])) = true := by decide +kernel

/-- A lane that takes frame operations. -/
def ready (l : List (Field × Nat)) : State :=
  onTrack ([(LAN_STS_STATE, 2), (LAN_STS_LOCK, 1), (LAN_STS_FRANGE, 0), (ANG_SRC_SRC, 1), (ANG_SRC_REF, 1), (ANG_SRC_PRECISE, 1), (HLK_STS_UP, 1),
    (HLK_WENOK, 1), (HLK_WEN, 1), (SRV_HSTS_INHIBIT, 0)] ++ l)

theorem w_FrameOperations :
    (FrameOp.ofWord 0 == none && FrameOp.ofWord rd.word == some rd && FrameOp.ofWord wr.word == some wr &&
    meets (ready []) (fun s => refusal 0 rd s == none && decide ((s.lane 0).queue.length < 32)) && !laneReady 0 up &&
    meets (ready [(ANG_SRC_SRC, 0)]) (fun s => laneReady 0 s && !rd.write && noAngle s) &&
    meets ((ready []).setLane 0 { LaneQ.empty with queue := List.replicate 32 rd }) (fun s => refusal 0 rd s == none
      && decide (32 ≤ (s.lane 0).queue.length)) &&
    meets (up.setLane 0 { LaneQ.empty with queue := [wr] }) (fun s => (s.lane 0).queue.contains wr && decide ((s.lane 0).wbuf.length < 2)
      && !((s.lane 0).wbuf.any fun x => x.1 == wr) && s.chkx == [])) = true := by decide +kernel

theorem w_FrameWrites :
    (meets ((ready [(ANG_STAMP_LO, 41815)]).setLane 0 { LaneQ.empty with queue := [wr], wbuf := [(wr, [true])] }) (fun s =>
      (s.lane 0).queue == [wr] && wr.write && wr.load == 0 && (s.lane 0).cur.isNone && (s.lane 0).wcur.isNone
        && (s.lane 0).wnext.isNone && s.is LAN_STS_STATE 0 2 && ((s.lane 0).wbuf.find? fun w => w.1 == wr) == some (wr, [true]) && frameTick 0 wr.track.toNat wr.slot.toNat s == some 41943
        && bitMet 0 41943 64 true s && !s.on LAN_WEDGE 0
        && writeAllowed 0 s) &&
    meets ((ready [(ANG_STAMP_LO, 41814)]).setLane 0 { LaneQ.empty with queue := [wr] }) (fun s => !bitMet 0 41943 64 true s) &&
    ([0, 1].all fun p => [0, 600000].all fun t => meets ((ready [(LAN_TRUNC, p), (ANG_STAMP_LO, t)]).setLane 0 { LaneQ.empty with
      wcur := some (wr, [true]) }) (fun s => (s.lane 0).wcur == some (wr, [true]) && s.is LAN_TRUNC 0 p && (s.lane 0).wnext.isNone && framePassed 0 s == (t != 0))) &&
    meets ((ready [(ANG_STAMP_LO, 600000)]).setLane 0 { LaneQ.empty with wcur := some (wr, [true]), wnext := some (wr, [true], 5) }) (fun s =>
      (s.lane 0).wcur == some (wr, [true]) && (s.lane 0).cur.isNone && framePassed 0 s && (s.lane 0).wnext == some (wr, [true], 5)))
      = true := by decide +kernel

/-- Hard decisions that hold the sync pattern at its predicted place. -/
def atSync (s : State) : BitVec 302 := BitVec.ofNat 302 (syncPattern s * 2 ^ 127)

theorem w_FrameReads :
    (meets ((ready [(ANG_STAMP_LO, 41943)]).setLane 0 { LaneQ.empty with queue := [rd] }) (fun s => (s.lane 0).queue == [rd] && !rd.write && rd.load == 0
      && maskCws rd.cwmask.toNat != [] && frameTick 0 rd.track.toNat rd.slot.toNat s == some 41943 && bitMet 0 41943 0 false s && refusal 0 rd s == none
      && (let t := startFrame 0 (bitPosition 0 s + bitsTo 0 41943 false s) (loadLoops 0 (s.setLane 0 { s.lane 0 with queue := [] }))
        !syncCovered 0 rd t && (bestHit (s.get LAN_SYNC_THR 0) (searched 0 (syncWindow 0 t) (atSync s) false t)).any fun h =>
          h.1 == 0 && decide (h.1.natAbs ≤ s.get LAN_SYNC_ACC 0))) &&
    !bitMet 0 41943 0 false (ready []) && (ready []).lane 0 == LaneQ.empty &&
    meets { (ready []).setLane 0 { LaneQ.empty with cur := some (0, 0) } with frames := [⟨0, 0, rd, none, 0, false, none, 1, false, false⟩] } (fun s =>
      (s.lane 0).cur == some (0, 0) && laneActive 0 s && (s.frame 0) == some ⟨0, 0, rd, none, 0, false, none, 1, false, false⟩ && maskCws 1 == [0]
        && (s.lane 0).wnext.isNone
        && decide (stagedCount 0 s < 16)) &&
    meets { ready [] with frames := [⟨0, 0, rd, some (some (0, 0), false), 0, false, none, 1, false, false⟩] } (fun s =>
      s.frame 0 == some ⟨0, 0, rd, some (some (0, 0), false), 0, false, none, 1, false, false⟩ && !syncCovered 0 rd s)) = true := by decide +kernel

/-- A codeword of the recovery class that waits. -/
def waits : Waiting := ⟨0, 0, 7, 0, 2, 0, 0, []⟩

/-- What an engine puts out for it: data whose guard is right, and the tag of `rd`. -/
def decoded : DecodeOut := ⟨true, List.replicate 8 255 ++ (List.replicate 4088 0 ++ (List.replicate 8 255 ++ (List.replicate 8 0 ++ [0, 0, 0x10, 0]))), 4⟩

/-- The record of its frame, with an operation. -/
def frameOf (op : FrameOp) : FrameRec := ⟨0, 0, op, none, 0, false, none, 1, false, false⟩

theorem w_DecoderPool :
    (meets { (st [(DEC_EN, 1), (DEC_CLK, 1), (DEC_SCHED_RCV_ENG, 1)]) with waiting := [waits] } (fun s => engineFree 0 s
      && nextCodeword s == some waits && waits.cls == 2) &&
    meets { up with engines := [(0, ⟨waits, 4, [0], none⟩)], frames := [frameOf rd] } (fun s =>
      s.engines.find 0 == some ⟨waits, 4, [0], none⟩ && s.frame 0 == some (frameOf rd) && decoded.conv && decide (decoded.iters ≤ 4)
      && alignedSoft (frameOf rd) waits 0 == some []) && genMatch (frameOf rd) decoded && positionMatch (frameOf rd) 0 decoded &&
    !positionMatch (frameOf { rd with slot := 2 }) 0 decoded) = true := by decide +kernel

/-- The guard of eight bytes 0xFF and zeros: the CRC register stays zero. -/
theorem guard_ff (n : Nat) : guard64 (List.replicate 8 255 ++ List.replicate n 0) = 2 ^ 64 - 1 := by
  have h : ∀ n, (List.replicate n (0 : BitVec 8)).foldl (fun c b => Nat.repeat crc64Bit 8 (c ^^^ b.toNat)) 0 = 0 := by
    intro n
    induction n with
    | zero => rfl
    | succ n ih => exact ih
  rw [guard64, List.foldl_append, show (List.replicate 8 (255 : BitVec 8)).foldl (fun c b => Nat.repeat crc64Bit 8 (c ^^^ b.toNat)) (2 ^ 64 - 1)
    = 0 by decide +kernel, h, Nat.zero_xor]

theorem w_guardOk : guardOk decoded = true := by
  have h1 : decoded.bytes.take 4096 = List.replicate 8 255 ++ List.replicate 4088 0 := by
    rw [decoded, ← List.append_assoc, List.take_left' (by rw [List.length_append, List.length_replicate, List.length_replicate])]
  have h2 : decoded.bytes.drop 4096 = List.replicate 8 255 ++ (List.replicate 8 0 ++ [0, 0, 0x10, 0]) := by
    rw [decoded, ← List.append_assoc, List.drop_left' (by rw [List.length_append, List.length_replicate, List.length_replicate])]
  rw [guardOk, h1, h2, guard_ff]
  decide +kernel

/-! ### Payloads in DRAM whose guards match -/

/-- The bytes of `decoded` at the eight codewords from `a` on, or at the first one without its guard. -/
def payload (a : Nat) (guards : Bool) : Memory :=
  let ff (x : Nat) : Memory := (List.range 8).map fun i => (x + i, 255)
  if guards then (List.range 8).flatMap fun c => ff (a + 4112 * c) ++ ff (a + 4112 * c + 4096) else ff a

theorem readList_add (m : Memory) (k a b : Nat) : m.readList k (a + b) = m.readList k a ++ m.readList (k + a) b := by
  induction a generalizing k with
  | zero => simp [Memory.readList]
  | succ a ih => rw [Nat.succ_add, Memory.readList, Memory.readList, ih, Nat.add_right_comm]; rfl

theorem readList_zeros (m : Memory) (k n : Nat) (h : (m.all fun e => decide (e.1 < k) || decide (k + n ≤ e.1)) = true) :
    m.readList k n = List.replicate n 0 := by
  induction n generalizing k with
  | zero => rfl
  | succ n ih =>
    have hr : m.read k = 0 := by
      clear ih
      induction m with
      | nil => rfl
      | cons e m im =>
        simp only [List.all_cons, Bool.and_eq_true, Bool.or_eq_true, decide_eq_true_eq] at h
        rw [Memory.read, if_neg (by omega)]
        exact im h.2
    rw [Memory.readList, hr, ih (k + 1) (by
      rw [List.all_eq_true] at h ⊢
      intro e he
      have := h e he
      simp only [Bool.or_eq_true, decide_eq_true_eq] at this ⊢
      omega)]
    rfl

theorem guard_of_ff {m : Memory} {x : Nat} (h1 : m.readList x 8 = List.replicate 8 255)
    (h2 : (m.all fun e => decide (e.1 < x + 8) || decide (x + 8 + 4088 ≤ e.1)) = true) : guard64 (m.readList x 4096) = 2 ^ 64 - 1 := by
  rw [show (4096 : Nat) = 8 + 4088 from rfl, readList_add, h1, readList_zeros m _ _ h2, guard_ff]

theorem w_guardMatches : ((List.range 8).all fun c => guardMatches rd.dataAddr.toNat c (payload 0x40000000 true)) = true := by
  have h : ∀ c ∈ List.range 8, ((payload 0x40000000 true).readList (0x40000000 + 4112 * c) 8 = List.replicate 8 255 ∧
      ((payload 0x40000000 true).all fun e => decide (e.1 < 0x40000000 + 4112 * c + 8) || decide (0x40000000 + 4112 * c + 8 + 4088 ≤ e.1)) = true) ∧
      ((payload 0x40000000 true).readList (0x40000000 + 4112 * c + 4096) 8).reverse = bytesOf 8 (2 ^ 64 - 1) := by decide +kernel
  rw [List.all_eq_true]
  intro c hc
  have := h c hc
  rw [guardMatches, show rd.dataAddr.toNat = 0x40000000 from rfl, guard_of_ff this.1.1 this.1.2, beq_iff_eq]
  exact this.2

theorem w_guardMismatch : ((List.range 8).all fun c => guardMatches rd.dataAddr.toNat c (payload 0x40000000 false)) = false := by
  rw [List.all_eq_false]
  refine ⟨0, by decide, ?_⟩
  rw [guardMatches, show rd.dataAddr.toNat + 4112 * 0 = 0x40000000 from rfl, guard_of_ff (by decide +kernel) (by decide +kernel)]
  decide +kernel

theorem w_LaneMemoryAccess :
    (meets (st [(LAN_MEMADR_SPACE, 2)]) (fun s => !s.on LAN_MEMADR_AUTOINC 0 && lmemRefused 0 2 0 s) &&
    meets up (fun s => !lmemRefused 0 0 0 s && lmemDefined 0 0) &&
    meets (st [(LAN_MEMADR_WORD, 512)]) (fun s => !lmemRefused 0 0 512 s && !lmemDefined 0 512) &&
    (st [(LAN_MEMADR_AUTOINC, 1)]).on LAN_MEMADR_AUTOINC 0) = true := by decide +kernel

theorem w_HeadLink :
    (meets (st [(HLK_CTL_EN, 0)]) (fun s => !s.on HLK_CTL_EN 0) && meets (st [(HLK_CTL_EN, 1)]) (fun s => s.on HLK_CTL_EN 0 && !s.on HLK_TRAINING 0
      && !crcOk (packet 9 0xF 0 0 0 ^^^ 1)) &&
    meets (st [(HLK_TRAINING, 1)]) (fun s => s.on HLK_TRAINING 0 && !s.on HLK_ANSWER 0 && !s.on HLK_ORIENT 0) &&
    meets (st [(HLK_CTL_EN, 1), (HLK_TRAINING, 1), (HLK_ANSWER, 1)]) (fun s => s.on HLK_CTL_EN 0 && s.on HLK_TRAINING 0 && s.on HLK_ANSWER 0 && !orientationChanged 0 s && decide (s.get HLK_ROUND 0 < 2)
      && crcOk (packet 9 0xF 0 0 0) && pktType (packet 9 0xF 0 0 0) == 9) &&
    meets (st [(HLK_TRAINING, 1), (HLK_ANSWER, 1), (HLK_ROUND, 2)]) (fun s => decide (2 ≤ s.get HLK_ROUND 0)) &&
    meets (st [(FLT_SAFE_ACTIVE, 1)]) (fun s => reaches 15 s && s.on FLT_SAFE_ACTIVE 0 && s.is HLK_WEN 0 0) && !up.on FLT_SAFE_ACTIVE 0 &&
    meets (st [(HLK_STS_UP, 1)]) (fun s => s.on HLK_STS_UP 0 && decide (s.get HLK_WEN 0 ≠ 5) && !s.on HLK_REGCMD_BUSY 0
      && (0x2000 : Word).toNat.testBit 13 && !(0x2000 : Word).toNat.testBit 15 && !s.on HLK_TRAINING 0 && !s.on HLK_HOLD 0 && s.linkQ 0 == [] && s.linkQ 4 == []) &&
    meets (up.setLinkQ 4 [⟨5, 0, 0, 0, none⟩]) (fun s => s.linkQ 4 == [⟨5, 0, 0, 0, none⟩]) &&
    meets (st [(HLK_CTL_EN, 1), (HLK_WENWAIT, 1), (HLK_WENSEQ, 4)]) (fun s => s.on HLK_CTL_EN 0 && s.on HLK_WENWAIT 0 && crcOk (packet 3 0 0 0 4) && pktType (packet 3 0 0 0 4) == 3
      && s.get HLK_WENSEQ 0 == pktSeq (packet 3 0 0 0 4)) &&
    meets (st [(HLK_WENWAIT, 1), (HLK_WENTRY, 3)]) (fun s => s.on HLK_WENWAIT 0 && !s.on HLK_REGWAIT 0 && decide (3 ≤ s.get HLK_WENTRY 0)
      && !((s.linkQ 0 ++ s.linkQ 4).any fun r => r.typ == 6)) &&
    (crcOk (packet 8 11 0 1 0) && pktType (packet 8 11 0 1 0) == 8 && decide (pktHead (packet 8 11 0 1 0) < 12))) = true := by decide +kernel

/-! ## Witnesses: media, servo, spindle -/

/-- A job of the frame of slot 1 of track 0 that waits at head 0. -/
def job : FrameJob := newJob 7 .hostRead 0 false 0 0 1 0 1 0 0 0

/-- A media operation. -/
def mop : MediaOp := newOp 7 .hostRead 0 0 0 1 0 true

theorem w_MediaReads :
    (meets { (st [(ACD_CODE_K, 1)]) with zones := [(0, { Zone.fresh with wp := 8 })] } (fun s => reaches 7 s && driveRole s && s.ra == []
      && unlisted 0 0 (maskFor 0 0 1) s == 1 && decide ((0 + 1 - 1) / 8 = 0 / 8) && mediaMask 0 0 0 1 s == 1 && fetched 0 0 0 s == []) &&
    !(st [(FMT_RA_EN, 0)]).on FMT_RA_EN 0 &&
    ([0, 5].all fun r => meets { (st [(FMT_RA_EN, 1), (FMT_RA_ROWS, 2), (ACD_CODE_K, 1)]) with raRow := [(0, 0)] } (fun s => s.on FMT_RA_EN 0
      && s.raRow.find 0 == some 0 && (((List.range s.k).map fun d => r * s.k + d).filter fun f => decide (0 ≤ f)
        && decide (f < 0 + s.get FMT_RA_ROWS 0 * s.k)) == if r = 0 then [0] else []))) = true := by decide +kernel

theorem w_SystemAreaOperations :
    meets { (onTrack []) with descs := [(0, { dsc with sysEnd := 64, sysDtp := 1 })] } (fun s => reaches 7 s && driveRole s && sysSlot 0 0 1 s && !sysSlot 0 64 1 s
      && sysSlot (surfaceOf 0) 0 1 s) = true := by decide +kernel

/-- `ready` with `job` and its operation, FMT running, LEAD 100, and the head on its track. -/
def issuing (l : List (Field × Nat)) : State :=
  { (ready ([(FMT_CTL_RUN, 1), (FMT_LEAD, 100), (SRV_TGT_ENGAGE, 1)] ++ l)) with jobs := [job], ops := [mop] }

/-- A job whose step 5 has run twice. -/
def late : FrameJob := { job with step := 7, runs := 2 }

theorem w_FormatSequencer :
    (meets (issuing [(SRV_TGT_ENGAGE, 0)]) (fun s => driveRole s && s.on FMT_CTL_RUN 0 && nextJob 0 s == some job && !targetSet job s) &&
    meets (issuing [(ANG_STAMP_LO, 41900)]) (fun s => nextJob 0 s == some job && targetSet job s && slotAhead job s == some 43
      && decide (43 < s.get FMT_LEAD 0)) &&
    ([0, 1].all fun p => meets (issuing [(SRV_HSTS_SETTLED_RD, p)]) (fun s => nextJob 0 s == some job && targetSet job s
      && slotAhead job s == some 41943 && decide (s.get FMT_LEAD 0 ≤ 41943) && targetSettled job s == (p == 1)
      && ((opOf job s).defs.all fun d => decide (d.start < 2 ^ 19) && decide (d.len < 2 ^ 11)) && refusal 0 (opOf job s) s == none
      && decide ((s.lane 0).queue.length < 32) && s.jobs.all fun x => x.kind != .raRead)) &&
    meets { (st [(FMT_WR_VERIFY, 0)]) with jobs := [{ job with write := true, st := .issued }], results := [⟨0, 7, 0, 1, true, 0, 0xB, 0, 0, 0⟩] }
      (fun s => s.jobs.find? (resultFor ⟨0, 7, 0, 1, true, 0, 0xB, 0, 0, 0⟩) == some { job with write := true, st := .issued }
        && frameOfJob job s == none && !s.on FMT_WR_VERIFY 0) &&
    meets { up with jobs := [late] } (fun s => (s.jobs.filter fun j => j.mtag == 7 && !j.write && !j.verify
      && (decide (2 ≤ j.step) || j.st == .recovery)) == [late] && late.st == .wait && late.runs == 2 && !late.helper && late.kind == .hostRead)) = true := by
  decide +kernel

/-- The first bytes of a descriptor without zones, chosen so that they leave the CRC register zero, and its CRC. -/
def descBytes : Memory :=
  [(0, 3)] ++ ((bytesOf 4 ([3, 0, 0, 0].foldl crc32Byte 0xFFFFFFFF)).zipIdx.map fun b => (4 + b.2, b.1)) ++ (List.range 4).map fun i => (0xFFC + i, 255)

theorem w_DescriptorLoads : descriptorAccepted 0 descBytes = true ∧ descriptorAccepted 0 [] = false ∧ reaches 7 up = true ∧ descAddr 0 up = 0 := by
  have hz : ∀ n, (List.replicate n (0 : BitVec 8)).foldl crc32Byte 0 = 0 := by
    intro n
    induction n with
    | zero => rfl
    | succ n ih => exact ih
  have h8 : (descBytes.readList 0 8).foldl crc32Byte 0xFFFFFFFF = 0 := by decide +kernel
  have hr : descBytes.readList 8 4084 = List.replicate 4084 0 := readList_zeros _ _ _ (by decide +kernel)
  have hc : crc32 (descBytes.readList 0 0xFFC) = 0xFFFFFFFF := by
    rw [show (0xFFC : Nat) = 8 + 4084 from rfl, readList_add, hr, crc32, List.foldl_append, h8, hz, Nat.zero_xor]
  refine ⟨?_, ?_, by decide +kernel, by decide +kernel⟩
  · rw [descriptorAccepted, descriptorCrc, hc]
    decide +kernel
  · rw [descriptorAccepted, show descriptorOk (readDescriptor 0 []) = false by decide +kernel, Bool.and_false]

theorem w_RowsAdvance :
    (meets { (st [(ACD_CTL_RUN, 1), (ACD_PLC_STS_VALID, 1), (ACD_CODE_K, 1)]) with
        acd := { up.acd with turn := [(0, (3, 0))], bad := [(3, 0, 0)] }, zones := [(3, { Zone.fresh with ready := 8 })] } (fun s =>
        driveRole s && reaches 8 s && rowsAllowed s && !(s.zone 3).finished && servedBy 0 s == some 3
        && aheadOk 3 (nextRow 3 s) s && !s.acd.resync.contains 3 && decide (s.fb * s.k * (nextRow 3 s + 1) ≤ (s.zone 3).ready) && s.k != 0
        && lostForRow 3 s == []) &&
    meets { up with rows := [⟨3, 0, 8, false, [], none, false⟩] } (fun s => (s.rows.find? fun x => x.zone == 3 && x.row == 0) == some ⟨3, 0, 8, false, [],
      none, false⟩ && !(s.zone 3).finished && !rowOverflows ⟨3, 0, 8, false, [], none, false⟩ s) &&
    meets { (st [(ACD_CODE_K, 1)]) with rows := [⟨3, 0, 8, true, [], none, false⟩] } (fun s => rowReady 3 s == some ⟨3, 0, 8, true, [], none, false⟩
      && decide (8 * s.k ≤ 8)) && rowReady 3 up == none &&
    meets { (st [(ACD_CTL_RUN, 1), (ACD_PLC_STS_VALID, 1)]) with zones := [(3, { Zone.fresh with ready := 1 })] } (fun s => rowsAllowed s
      && decide (rowBlocks s * ((s.zone 3).ready / rowBlocks s) ≤ rowEnd 3 s) && decide (rowEnd 3 s < (s.zone 3).ready))) = true := by
  decide +kernel

/-- Zone 3 has data that wait for a side. -/
def waitsFor (turn : NMap (Nat × Nat)) : State :=
  { (st [(ACD_CODE_K, 1)]) with acd := { up.acd with waiting := [(3, 0)], turn := turn }, zones := [(3, { Zone.fresh with ready := 8 })] }

theorem w_AccordControl :
    (up.tables.stage != 1 && !noMembers up && !up.on ACD_CTL_RUN 0 && (st [(ACD_PLC_STS_GEN_BUSY, 1)]).on ACD_PLC_STS_GEN_BUSY 0 && noMembers (mgr [(GLB_ROLE_LEVEL, 2)]) && reaches 8 (mgr [(GLB_ROLE_LEVEL, 2)]) &&
    (st [(ACD_PLC_CFG_SEED, 1)]).on ACD_PLC_CFG_SEED 0 &&
    meets (st [(ACD_MEMBERS, 1)]) (fun s => driveRole s && bits (0xA500 : Word).toNat 8 8 == 0xA5 && s.memberMask.testBit 0
      && bits (0 : Word).toNat 8 8 != 0xA5) &&
    !streamStays 0 (waitsFor []) && streamPick 0 (waitsFor []) == some 3 && streamStays 0 (waitsFor [(0, (3, 0))])) = true := by
  decide +kernel

/-- A pass of level 1 at row 0 of zone 0, whose frame 0 is recorded unreadable or not. -/
def passing (bad : List (Nat × Nat × Nat)) : State :=
  { (st [(ACD_CTL_RUN, 1), (ACD_RBLD_AUTO, 1), (ACD_RBLD_BUF, 1), (SPN_STATE_LOADOK, 1), (SPN_STATE_STATE, 5), (ACD_PASS_VALID, 1), (ACD_PASS_LEVEL, 1),
      (ACD_CODE_K, 1), (ACD_CODE_M, 1), (LAN_POP, 1)]) with
    acd := { up.acd with bad := bad }, zones := [(0, { Zone.fresh with state := 1, wp := 8 })] }

theorem w_RebuildSteps :
    ([[], [(0, 0, 0)]].all fun bad => meets (passing bad) (fun s => reaches 8 s && rebuildRuns s && runningPass s == some 0
      && (s.acd.deferred.find? fun e => e.1 == s.get ACD_PSER 0 && e.2.2.2 == (0 : Fin 2).val) == none && !s.on ACD_PEND 0
      && decide (s.get ACD_NOWROW 0 < zoneRows (s.get ACD_NOWZONE 0) s) && decide (s.get ACD_PSIDE 0 = (0 : Fin 2))
      && passTakes 0 (s.get ACD_NOWZONE 0) (s.get ACD_NOWROW 0) s == (bad != []))) = true ∧ rebuildRuns up = false ∧
    (meets { (st [(ACD_CTL_RUN, 1), (ACD_PASS_VALID, 1), (ACD_RBLD_BATCH, 4), (ACD_ZDONE, 4)]) with acd := { up.acd with rebuilt := [(0, 0, 0, 0, 0)] } }
      (fun s => s.on ACD_CTL_RUN 0 && s.acd.rebuilt != [] && runningPass s == some 0 && decide (s.get ACD_RBLD_BATCH 0 ≤ s.get ACD_ZDONE 0)) &&
    meets (st [(ACD_PASS_VALID, 1), (ACD_VISIT, 1024)]) (fun s => runningPass s == some 0 && decide (1024 ≤ s.get ACD_VISIT 0) && !s.on ACD_PEND 0
      && passSettled 0 s)) = true := by refine ⟨?_, ?_, ?_⟩ <;> decide +kernel

/-- An image of an empty engine: record 1, which follows checkpoint 0. -/
def img0 : AcdImage := ⟨0, 0, 1, 0, 0, 1, true, 0, 0, 0, [], up.acd, [], [], [], 0, []⟩

theorem w_JournalAndCheckpoints :
    (!up.on ACD_JBUSY 0 && (st [(ACD_JBUSY, 1)]).on ACD_JBUSY 0 &&
    meets (st [(ACD_LAZY, 1), (NVQ_DURWAIT, 1)]) (fun s => s.on ACD_LAZY 0 && s.on NVQ_DURWAIT 0 && !s.on ACD_JBUSY 0) &&
    meets { up with media := { up.media with recording := some img0, saving := some img0 } } (fun s => s.media.recording == some img0 && driveRole s
      && s.media.saving == some img0 && !s.on ACD_KDUE 0) &&
    ([⟨true, false, false⟩, ⟨false, true, false⟩, ⟨false, false, true⟩].all fun f : RecordFail => f.copyA || f.copyB || f.skips) &&
    !up.on ACD_KBUSY 0 && !up.on ACD_KMIN 0 && (st [(ACD_KMIN, 1)]).on ACD_KMIN 0 && (st [(ACD_CTL_CLEAN, 1)]).on ACD_CTL_CLEAN 0 &&
    rowsIdle up && !rowsIdle { up with jobs := [{ job with write := true, kind := .writeRow }] }) = true := by decide +kernel

theorem w_RestoreAndResync :
    (reaches 8 up && up.tables.stage != 1 && newestBy (·.ckpt) (readableSaves [] up) == none &&
    meets { up with media := { up.media with saves := [(0, img0)], journal := [(0, [img0])] } } (fun s => s.tables.stage != 1
      && newestBy (·.ckpt) (readableSaves [] s) == some img0 && newestBy (·.seq) (readableRecords [] img0.ckpt s) == some img0) &&
    meets { (st [(ACD_CTL_RUN, 1)]) with acd := { up.acd with resync := [4] } } (fun s => s.on ACD_CTL_RUN 0 && nextResync s == some 4 && driveRole s
      && !s.on ACD_RESYNC_SCAN 0 && frontierBad 4 false s == [])) = true := by decide +kernel

theorem w_TargetWrites :
    (loopsClosed 0 (st [(SRV_STS_STATE, 2)]) && !loopsClosed 0 up && decide ((st [(SRV_MEMADR_ARM, 11)]).get SRV_MEMADR_ARM 0 < 12)
      && up.is SRV_STS_STATE 0 0) = true := by decide +kernel

/-- A wedge 5 of the format, read with its sync mark at the place predicted, on track 5. -/
def mark (num : BitVec 9) : Wedge := ⟨100, 100, 100, 100, 5, num, true, [(0, 0x1234)], 1280, 0, 0⟩

/-- Head 0 over its surface, with a pilot angle, at the end of its wedge 0. -/
def atWedge (l : List (Field × Nat)) : State :=
  onTrack ([(ANG_SRC_SRC, 1), (ANG_SRC_REF, 1), (SRV_SAFE_BNOM, 1), (SRV_SSMPAT, 0x1234), (SRV_FRAME_SBIT, 1), (ANG_STAMP_LO, 300),
    (LAN_STS_STATE, 1)] ++ l)

theorem w_HeadsAtWedges :
    (!(st [(LAN_POP, 0)]).on LAN_POP 0 && !signalExists 0 (st [(LAN_STS_STATE, 0)]) && !signalExists 0 (st [(LAN_STS_STATE, 3), (LAN_TO, 0)]) &&
    wedgeDue 0 up == none &&
    meets (atWedge []) (fun s => s.on LAN_POP 0 && signalExists 0 s && (wedgeDue 0 s).isSome && markFound (mark 0) s == some (0, false)
      && wedgeGood 0 (mark 0) s) && markFound (mark 0) (atWedge [(SRV_SSMPAT, 0xEDCB)]) == some (0, true) &&
    meets (st [(SRV_STS_BLEND, 1), (SRV_HAND_NB, 4), (SRV_BLI, 4)]) (fun s => s.on SRV_STS_BLEND 0 && decide (s.get SRV_HAND_NB 0 ≤ s.get SRV_BLI 0)) &&
    meets (st [(SRV_STS_STATE, 3), (SRV_HSTS_MODE, 2)]) (fun s => s.is SRV_STS_STATE (actOf 0) 3 && s.is SRV_HSTS_MODE 0 2 && !s.on SRV_HSTS_SAT 0) &&
    (st [(SRV_SATN, 64)]).is SRV_SATN 0 64 &&
    meets (st [(SRV_STS_STATE, 2), (SRV_BADN, 255), (SRV_BAD_BADLIM, 255)]) (fun s => loopsClosed 0 s && !s.is SRV_HSTS_MODE 0 3
      && decide (1 ≤ s.get SRV_BADN 0) && decide (s.get SRV_BAD_BADLIM 0 ≤ s.get SRV_BADN 0)) &&
    meets (st [(SRV_HSTS_MODE, 3), (SRV_GOODN, 3), (SRV_CENG, 1), (SRV_STS_STATE, 3)]) (fun s => s.is SRV_HSTS_MODE 0 3
      && decide (3 ≤ s.get SRV_GOODN 0) && s.on SRV_CENG 0 && s.is SRV_STS_STATE (actOf 0) 3)) = true := by decide +kernel

/-- One head on the arm of actuator 0. -/
def oneHead (l : List (Field × Nat)) : State := ((List.range 11).map (· + 1)).foldl (fun s h => s.set LAN_POP h 0) (st l)

theorem w_ArmMotion :
    (loadAllowed 0 (oneHead [(SPN_STATE_LOADOK, 1), (HLK_STS_UP, 1), (LAN_STS_STATE, 1)]) && !loadAllowed 0 up &&
    meets (st [(SRV_STS_STATE, 1), (GLB_WIRING_CALDONE, 1), (SRV_LOADS, 2)]) (fun s => s.is SRV_STS_STATE 0 1 && s.on GLB_WIRING_CALDONE 0
      && decide (2 ≤ s.get SRV_LOADS 0)) &&
    meets (st [(SRV_STS_STATE, 3)]) (fun s => s.is SRV_STS_STATE 0 3 && !s.is SRV_STS_STATE 0 0 && !s.on HLK_STS_UP 0 && !s.on SRV_OPEN 0
      && !s.is SRV_STS_STATE 0 4) &&
    ([0, 1].all fun o => meets (st [(SRV_STS_STATE, 2), (SRV_SEEKTO, o), (SRV_TDONE, 1), (SRV_TDN, 255), (SRV_MSEEK_TMO, 200)]) (fun s =>
      s.is SRV_STS_STATE 0 2 && s.is SRV_SEEKTO 0 o && seekOverdue 0 s)) && !seekOverdue 0 up &&
    meets (st [(SRV_STS_STATE, 2), (SRV_ALOSTN, 255), (SRV_BAD_ALOST, 255)]) (fun s => loopsClosed 0 s && decide (1 ≤ s.get SRV_ALOSTN 0)
      && decide (s.get SRV_BAD_ALOST 0 ≤ s.get SRV_ALOSTN 0)) &&
    ([1, 2, 3].all fun p => (st [(SRV_PHASE, p)]).is SRV_PHASE 0 p && !(st [(SRV_PHASE, p)]).on SRV_RELOAD 0) && !poweredOff 3 up &&
    !aonDown up && ([0, 255].all fun v => meets (st [(SRV_PHASE, 1), (SRV_RET_CFG_IRET, v), (SRV_RET_CFG_IPARK, v)]) fun s =>
      decide (s.get SRV_RET_CFG_IRET 0 < 256) && decide (s.get SRV_RET_CFG_IPARK 0 < 256) && !s.on SRV_VCMCFG_INV 0)) = true := by
  decide +kernel

theorem w_CoilFaults :
    ((st [(SRV_DRVEN, 1)]).on SRV_DRVEN 0 && !up.on SRV_DRVEN 0 && (st [(SRV_OCWAIT, 1)]).on SRV_OCWAIT 0 && (st [(SRV_STS_STATE, 2)]).is
      SRV_STS_STATE 0 2 && meets (st [(SRV_STS_STATE, 2), (SRV_RUNN, 16)]) (fun s => loopsClosed 0 s && s.is SRV_RUNN 0 16)) = true := by
  decide +kernel

/-- A spindle in state `n` with a pilot angle, a lock, and the two in agreement. -/
def spin (n : Nat) (l : List (Field × Nat)) : State :=
  st ([(SPN_STATE_STATE, n), (ANG_SRC_SRC, 1), (ANG_SRC_REF, 1), (SPN_STATE_OBSLOCK, 1), (SPN_HAND_NAGREE, 1), (SPN_AGREEN, 1)] ++ l)

theorem w_ObserverAndAngles :
    (decide (8 ≤ (st [(SPN_INVN, 8)]).get SPN_INVN 0) &&
    meets (spin 5 [(SPN_BRIDGE, 4), (SPN_LOCKN, 32)]) (fun s => observerRuns s && decide (32 ≤ s.get SPN_LOCKN 0)) && !observerRuns up &&
    meets (spin 6 [(SPN_ERRN, 8)]) (fun s => s.on SPN_STATE_OBSLOCK 0 && decide (8 ≤ s.get SPN_ERRN 0) && s.is SPN_STATE_STATE 0 6 && pilotExists s) &&
    meets (st [(SPN_STATE_STATE, 5), (SPN_STATE_OBSLOCK, 1), (SPN_ERRN, 8)]) (fun s => s.on SPN_STATE_OBSLOCK 0 && decide (8 ≤ s.get SPN_ERRN 0)
      && s.is SPN_STATE_STATE 0 5 && !pilotExists s) &&
    meets (spin 5 []) (fun s => s.is SPN_STATE_STATE 0 5 && agreed s && decide (wrapElec ((commAngle s : Int) - pilotAngle s) = 0)) && !agreed up &&
    ([0, 1].all fun w => meets (spin 5 [(SPN_DISN, 255), (SPN_HAND_NAGREE, 255), (SPN_SLEWING, w)]) (fun s => s.is SPN_STATE_STATE 0 5
      && decide (s.get SPN_HAND_NAGREE 0 ≤ s.get SPN_DISN 0) && s.on SPN_DISN 0 && s.is SPN_SLEWING 0 w)) &&
    meets (spin 5 [(SPN_SPEED, 86400), (SPN_RAMPV, 86400), (SPN_RAMPK, 1), (SPN_CALRUN, 1)]) (fun s => s.is SPN_STATE_STATE 0 5
      && decide (16000 ≤ s.getI SPN_SPEED 0) && speedSteady s && pilotExists s && s.on SPN_CALRUN 0 && decide (256 ≤ (256 : BitVec 32).toNat)) &&
    meets (spin 5 [(SPN_CALRUN, 1)]) (fun s => s.on SPN_CALRUN 0 && !speedSteady s && decide (s.getI SPN_SPEED 0 < 16000)) && !up.is SPN_STATE_STATE 0 5 &&
    !pilotExists up) = true := by decide +kernel

theorem w_SpeedAndReference :
    ((st [(SPN_REFMODE_MODE, 1)]).is SPN_REFMODE_MODE 0 1 && up.is SPN_REFMODE_MODE 0 0 && (st [(SPN_REFMODE_MODE, 2)]).is SPN_REFMODE_MODE 0 2 &&
    meets (st [(SPN_REFMODE_MODE, 1), (SPN_LOCKE, 16)]) (fun s => decide (16 ≤ s.get SPN_LOCKE 0) && !s.on SPN_PHOFF 0) &&
    meets (st [(SPN_REFMODE_MODE, 2), (SPN_SMPN, 6)]) (fun s => decide (s.get SPN_SMPN 0 < 7) && decide (0 < 1 ∧ 65535 < 65536)) &&
    ([5, 6].all fun n => meets (st [(SPN_STATE_STATE, n), (SPN_TGT, 86400), (SPN_SPEED, 86400), (SPN_RAMPX, 8640000000000)]) (fun s =>
      s.is SPN_STATE_STATE 0 n && rampAtTarget s && nearSpeed (speedOf (s.getI SPN_TGT 0)) s))) = true := by
  decide +kernel

theorem w_SpindleStart :
    (meets (st [(SPN_CTL_AUTOSTART, 1), (SPN_REFMODE_MODE, 1), (SPN_TGT, 57600)]) (fun s => s.on SPN_CTL_AUTOSTART 0 && s.on SPN_REFMODE_MODE 0
      && s.is SPN_STATE_STATE 0 0 && decide (57600 ≤ s.getI SPN_TGT 0)) &&
    (st [(CLB_ORDER_DRYDOWN, 1)]).on CLB_ORDER_DRYDOWN 0 && meets (st [(SPN_STATE_FAULTLOCK, 1)]) (fun s => s.on SPN_STATE_FAULTLOCK 0
      && !s.on CLB_ORDER_DRYDOWN 0) &&
    meets (st [(SPN_TGT, 48000)]) (fun s => !s.on CLB_ORDER_DRYDOWN 0 && !s.on SPN_STATE_FAULTLOCK 0 && !s.on FLT_SAFE_ACTIVE 0 && s.is SPN_STATE_STATE 0 0
      && decide (48000 ≤ s.getI SPN_TGT 0)) &&
    meets (st [(SPN_STATE_STATE, 1)]) (fun s => !s.is SPN_STATE_STATE 0 0 && !s.is SPN_STATE_STATE 0 9 && s.is SPN_STATE_STATE 0 1 && !s.on SPN_OCWAIT 0
      && !pilotMeasures s && decide (s.get SPN_BRAKE_VCATCH 0 * 160 < 1048575) && decide (0 ≤ s.get SPN_BRAKE_VCATCH 0 * 160)) &&
    meets (st [(SPN_STATE_STATE, 1), (ANG_SRC_VALID0, 1), (ANG_RATE, 1000), (ANG_SRC_DIR, 1)]) (fun s => s.is SPN_STATE_STATE 0 1 && !s.on SPN_OCWAIT 0
      && pilotMeasures s && s.on ANG_RATE 0 && s.on ANG_SRC_DIR 0) &&
    ([2, 3, 4].all fun n => (st [(SPN_STATE_STATE, n)]).is SPN_STATE_STATE 0 n) && slowByPilot (st [(SPN_STATE_STATE, 2)]) &&
    !slowByPilot (st [(SPN_STATE_STATE, 2), (ANG_SRC_VALID0, 1), (ANG_RATE, 1000000000)]) &&
    meets (spin 4 [(SPN_OPEN_VHAND, 1), (SPN_IMPSPD, 40000)]) (fun s => s.is SPN_STATE_STATE 0 4 && s.on SPN_STATE_OBSLOCK 0 && imposedReached s
      && decide (s.get SPN_FAILS 0 < 2)) &&
    meets ((st [(SPN_STATE_STATE, 4)]).setI SPN_OBSSPD 0 (-1)) (fun s => s.is SPN_STATE_STATE 0 4 && decide (s.get SPN_MOTOR_SWAP 0 ≤ 1) && turnsBackward s) &&
    decide (2 ≤ (st [(SPN_FAILS, 2)]).get SPN_FAILS 0) &&
    meets (st [(SPN_STATE_STATE, 8)]) (fun s => s.is SPN_STATE_STATE 0 8 && !s.is SPN_DDKIND 0 3)) = true := by decide +kernel

theorem w_Drydowns :
    (meets (st [(SPN_STATE_STATE, 7), (SPN_STATE_REACQ, 1), (SPN_CATCH_TWIN, 1)]) (fun s => s.is SPN_STATE_STATE 0 7 && !s.on SPN_OCWAIT 0
      && s.on SPN_STATE_REACQ 0 && decide (s.aonNs ≤ s.get SPN_RQTIME 0 + s.get SPN_CATCH_TWIN 0 * 1000000000)) &&
    meets (st [(SPN_STATE_STATE, 7), (SPN_STATE_REACQ, 3), (SPN_CATCH_NREACQ, 3)]) (fun s => decide (s.get SPN_CATCH_NREACQ 0 ≤ s.get SPN_STATE_REACQ 0)) &&
    meets (st [(SPN_STATE_STATE, 7), (SPN_CATCH_VRET, 50), (SPN_RAMPV, 80000), (SPN_SPEED, 100)]) (fun s => !s.is SPN_DDKIND 0 3
      && decide (s.getI SPN_SPEED 0 * 100 < (s.get SPN_CATCH_VRET 0 : Nat) * s.getI SPN_RAMPV 0)) &&
    meets (st [(SRV_RET_STS_PARKED, 0)]) (fun s => decide ((s.getI SPN_SPEED 0).natAbs < 48000) && !allParked s && !s.is SPN_DDKIND 0 3) &&
    up.is SPN_STATE_STATE 0 0 &&
    (st [(CLB_ORDER_SPIN, 1)]).on CLB_ORDER_SPIN 0 &&
    meets (st [(SPN_STATE_STATE, 5)]) (fun s => !s.on CLB_ORDER_SPIN 0 && !(placeFrontiers s).is SPN_STATE_STATE 0 0
      && !(placeFrontiers s).is SPN_STATE_STATE 0 9
      && !(placeFrontiers s).is SPN_DDKIND 0 3) &&
    meets (st [(SPN_STATE_STATE, 9), (SPN_STATE_DRYPEND, 1)]) (fun s => s.is SPN_STATE_STATE 0 9 && s.on SPN_STATE_DRYPEND 0) &&
    ([0, 1].all fun h => meets (st [(SPN_STATE_STATE, 9), (SPN_DDREQ, 1), (SRV_RET_STS_PARKED, 15), (SPN_HELD, h), (SPN_DDKIND, 1), (SPN_TGT, 48000)])
      (fun s => s.is SPN_STATE_STATE 0 9 && !s.on SPN_STATE_DRYPEND 0 && s.on SPN_DDREQ 0 && allParked s && s.is SPN_HELD 0 h
        && decide (48000 ≤ s.getI SPN_TGT 0) && !s.is SPN_BRIDGE 0 5 && slowByPilot s)) &&
    meets up (fun s => !((s.liveOf 39).any fun e => e.inst == 0xFF) && !s.on FLT_SAFE_ACTIVE 0) &&
    meets (st [(SPN_BRIDGE, 5), (SPN_LG_VMINPCT, 50), (SPN_LGREF, 86400)]) (fun s => s.is SPN_BRIDGE 0 5 && regenSpent s)) = true := by
  decide +kernel

theorem w_MotorWiringFaults :
    (!(st [(SPN_STATE_STATE, 5)]).is SPN_STATE_STATE 0 0 && meets (st [(SPN_OCWAIT, 1)]) (fun s => s.on SPN_OCWAIT 0 && !s.on SPN_OCFAIL 0
      && !s.is SPN_STATE_STATE 0 9 && !s.is SPN_DDKIND 0 3) && (st [(SPN_BRIDGE, 1)]).on SPN_BRIDGE 0) = true := by decide +kernel

/-! ## Witnesses: loop engine, memory -/

/-- Context 0 runs at its program counter 0, where the control store holds the word `w`. -/
def word0 (w : Nat) (l : List (Field × Nat)) : State := { (st ([(LPE_CTXSTS_STATE, 2)] ++ l)) with cs := [(0, w)] }

/-- Context 0 fetches its next word. -/
def fetching (s : State) : Bool :=
  s.is LPE_CTXSTS_STATE 0 2 && !s.on CTX_STALL 0 && !wordsUsed 0 s && NMap.get [] s.word 0 == [] && !s.csBad.contains (65536 * s.get CTX_BANK 0 + s.get CTX_PC 0)
    && regionOf (s.get CTX_PC 0) == regionOfCtx 0 s

/-- It is at a word whose only operation is `i`. -/
def only (i : Instr) (s : State) : Bool :=
  fetching s && spells (fetchWord 0 s) i && wordComplete (fetchWord 0 s) [i] && !reservedWord (fetchWord 0 s)

theorem fetching_fetches (s : State) (h : fetching s = true) : Fetches 0 s := by
  simp only [fetching, Bool.and_eq_true, Bool.not_eq_true', beq_iff_eq] at h
  exact ⟨h.1.1.1.1.1, h.1.1.1.1.2, h.1.1.1.2, h.1.1.2, h.1.2, h.2⟩

theorem only_fetchesOnly (i : Instr) (s : State) (h : only i s = true) : FetchesOnly 0 i s := by
  simp only [only, Bool.and_eq_true, Bool.not_eq_true'] at h
  exact ⟨fetching_fetches s h.1.1.1, h.1.1.2, h.1.2, h.2⟩

/-- The words of the spec's example routine (R364–R367). -/
theorem test_words :
    (meets (word0 0x10C0_4400_0000_0000_0000_0000_0000_2084 []) (fun s => spells (fetchWord 0 s) (.mac 0 0 1 1 0 true)
      && spells (fetchWord 0 s) (.loop 0 0xC044 true) && wordComplete (fetchWord 0 s) [.mac 0 0 1 1 0 true, .loop 0 0xC044 true]
      && !wordComplete (fetchWord 0 s) [.loop 0 0xC044 true]) &&
    meets (word0 0x2800_0000_0006_2400_0000_0000_0000_6000 []) (fun s => [Instr.clr 0 0 true, .stg 0 0 2 2 0 true, .cmtend 0 true].all fun i =>
      spells (fetchWord 0 s) i)) = true := by decide +kernel

theorem w_MacSlots :
    (meets (word0 0 []) (fun s => reaches 4 s && fetching s && !spells (fetchWord 0 s) (.mul 0 3 5 6 1 true)) &&
    ([(Instr.mul 0 3 5 6 1 true, 0x1299000000000000), (.mac 0 3 5 6 1 true, 0x2299000000000000), (.msu 0 3 5 6 1 true, 0x3299000000000000), 
      (.add 0 3 5 true, 0x4280000000000000), (.lda 0 3 5 true, 0x5280000000000000), (.clr 0 3 true, 0x6000000000000000), (.abs 0 3 true, 
      0x7000000000000000), (.min 0 3 5 true, 0x9280000000000000), (.max 0 3 5 true, 0xA280000000000000), (.nop 0 3 true, 0x0), 
      (.wr 0 3 5 6 0 true, 0x8298000000000000), (.wr 0 3 5 6 3 true, 0x829B000000000000)].all fun e =>
      only e.1 (word0 e.2 [])) && (0 : Fin 4).val.testBit 0 == false && (3 : Fin 4).val.testBit 0 && (3 : Fin 4).val.testBit 1 && (0 : Fin 4).val.testBit 1 == false)
      = true := by decide +kernel

/-- Context 0 runs at a word of one load/store operation, with `a` in base register 2. -/
def based (w a : Nat) (l : List (Field × Nat)) : State := (word0 w l).set CTX_B 2 a

theorem w_LoadStoreSlots :
    (([0, 3].all fun a => meets (based 0x27403000000000000000000000 a []) (fun s => reaches 4 s && only (.ld 0 1 7 2 3 true) s && loadable (slotAddr 0 2 3 s) && !inRegs (slotAddr 0 2 3 s)
      && !(inData (slotAddr 0 2 3 s) && s.csBad.contains (131072 + slotAddr 0 2 3 s / 2)))) &&
    meets { (based 0x27403000000000000000000000 0xFFFC []) with csBad := [163839] } (fun s => only (.ld 0 1 7 2 3 true) s && inData (slotAddr 0 2 3 s)
      && s.csBad.contains (131072 + slotAddr 0 2 3 s / 2)) &&
    ([0x3FFFFD, 0x7FFFFC].all fun a => meets (based 0x27403000000000000000000000 a []) (fun s => only (.ld 0 1 7 2 3 true) s && inRegs (slotAddr 0 2 3 s))) && !inRegs 0x800000 &&
    ([0, 0xFFFC].all fun a => meets (based 0x47403000000000000000000000 a []) (fun s => only (.st 0 1 7 2 3 true) s && storeAllowed 0 (slotAddr 0 2 3 s) s)) &&
    meets (based 0x67403000000000000000000000 0x1FFFD []) (fun s => only (.stg 0 1 7 2 3 true) s && stageAllowed 0 (slotAddr 0 2 3 s) s
      && decide ((NMap.get [] s.stage 0).length < 16)) &&
    meets (based 0x87403000000000000000000000 0x1FFFD []) (fun s => only (.dir 0 1 7 2 3 true) s && inPorts (slotAddr 0 2 3 s) && !s.on LPE_CTX_CUST 0) &&
    meets (based 0x87403000000000000000000000 0x3FFFFD []) (fun s => only (.dir 0 1 7 2 3 true) s && inRegs (slotAddr 0 2 3 s)) &&
    only (.movb 0 1 7 2 3 true) (based 0xA7403000000000000000000000 0 []) &&
    meets (based 0x47403000000000000000000000 0xBFFC [(LPE_CTX_CUST, 1), (LPE_CUSTLIM_WORDS, 256)]) (fun s => only (.st 0 1 7 2 3 true) s && violates 0 s (.st 0 1 7 2 3 true)) &&
    ([(Instr.ld 0 1 7 2 3 true, 0x27403000000000000000000000), (.st 0 1 7 2 3 true, 0x47403000000000000000000000), (.stg 0 1 7 2 3 true, 
      0x67403000000000000000000000), (.dir 0 1 7 2 3 true, 0x87403000000000000000000000)].all fun e =>
      meets (based e.2 0x30000 []) (fun s => only e.1 s && violates 0 s e.1))) = true := by decide +kernel

theorem w_ControlOperations :
    (([(Instr.jmp 0 0x1234 true, 0x4123400000000000000000000000000), (.br 0 .z 0x1234 true, 0x9123400000000000000000000000000), 
      (.brn 0 .always 0x1234 true, 0xF123400000000000000000000000000), (.loop 0 0x1234 true, 0x10123400000000000000000000000000), 
      (.setx 0 5 0x1FFF true, 0x14BFFF00000000000000000000000000), (.cmt 0 true, 0x20000000000000000000000000000000), (.endOp 0 true, 
      0x24000000000000000000000000000000), (.cmtend 0 true, 0x28000000000000000000000000000000), (.sig 0 9 true, 
      0x30000900000000000000000000000000), (.kill 0 9 true, 0x34000900000000000000000000000000), (.ovr 0 5 200 true, 
      0x4005C800000000000000000000000000), (.ovrrel 0 200 true, 0x4400C800000000000000000000000000), (.trc 0 5 6 true, 
      0x50002E00000000000000000000000000)].all fun e =>
      meets (word0 e.2 [(LPE_CTX_PRIO, 3)]) (fun s => reaches 4 s && only e.1 s && s.is LPE_CTX_PRIO 0 3 && !s.on LPE_CTX_CUST 0)) &&
    meets (word0 0x4BFFF00000000000000000000000000 []) (fun s => only (.jmp 0 0xBFFF true) s && regionOf 0xBFFF == regionOfCtx 0 s) &&
    meets (word0 0x4C00000000000000000000000000000 []) (fun s => only (.jmp 0 0xC000 true) s && regionOf 0xC000 != regionOfCtx 0 s) &&
    ([(Instr.cmt 0 true, 0x2000000000000000000000000000B000), (.endOp 0 true, 0x24000000000C00000000000000000000), (.cmtend 0 true, 
      0x28000000000000000000F00000000000)].all fun e =>
      meets (word0 e.2 []) (fun s => fetching s && spells (fetchWord 0 s) e.1 && wordComplete (fetchWord 0 s) [e.1] && reservedWord (fetchWord 0 s))) &&
    meets (word0 0x30003900000000000000000000000000 [(LPE_CTX_CUST, 1), (LPE_CUSTLIM_WORDS, 256)]) (fun s => only (.sig 0 57 true) s && s.on LPE_CTX_CUST 0 && decide (57 ≤ (57 : Fin 64).val)) &&
    meets (word0 0x34000900000000000000000000000000 [(LPE_CTX_PRIO, 0)]) (fun s => only (.kill 0 9 true) s && !s.is LPE_CTX_PRIO 0 3)) = true := by decide +kernel

theorem w_EngineRequests :
    (!(st [(LPE_CTL_RUN, 0)]).on LPE_CTL_RUN 0 &&
    meets (st [(LPE_CTL_RUN, 1), (LPE_CTXSTS_STATE, 1)]) (fun s => reaches 4 s && s.on LPE_CTL_RUN 0 && bestContext s (readyContexts s) == some 0
      && runningOn 3 s == none && s.is LPE_CTXSTS_STATE 0 1) &&
    meets (st [(CTX_STALL, 1), (LPE_CTX_CUST, 1), (CTX_LDX, 32), (CTX_LDA, 0x400000)]) (fun s => s.on CTX_STALL 0 && s.on LPE_CTX_CUST 0
      && decide (s.get CTX_LDX (2 * 0) = (31 : Fin 32).val + 1) && s.is CTX_LDX 1 0 && !s.on CTX_KILLP 0) &&
    meets (st [(LPE_CTXSTS_STATE, 2), (LPE_CTX_CUST, 1), (LPE_CUSTLIM_WORDS, 256), (CTX_WORDS, 256)]) (fun s => s.is LPE_CTXSTS_STATE 0 2
      && wordsUsed 0 s) &&
    decide ((0x80000000 : Word).toNat = 2 ^ (31 : Fin 32).val) &&
    meets up (fun s => !s.on LPE_LDCTL_BUSY 0 && !s.on LPE_IMGSTS_OLDBUSY 0) && !up.on LPE_LDCTL_BUSY 0 && (st [(LPE_IMGSTS_OLDBUSY, 1)]).on LPE_IMGSTS_OLDBUSY 0 &&
    (st [(LPE_LDCTL_BUSY, 1)]).on LPE_LDCTL_BUSY 0 && (st [(LPE_CTL_SCRUB, 1)]).on LPE_CTL_SCRUB 0) = true := by decide +kernel

theorem w_TraceUnits :
    ((st [(LPE_SIL_STS_STATE, 1)]).is LPE_SIL_STS_STATE 0 1 && !up.is LPE_SIL_STS_STATE 0 1 && (st [(LPE_SIL_CFG_MODE, 1)]).is LPE_SIL_CFG_MODE 0 1 &&
    meets (st [(LPE_SIL_STS_STATE, 2), (SIL_LEFT, 0)]) (fun s => s.is LPE_SIL_STS_STATE 0 2 && !s.on SIL_LEFT 0) &&
    meets (st [(LPE_SIL_STS_STATE, 3), (LPE_SILRD_UNIT, 0)]) (fun s => s.is LPE_SIL_STS_STATE 0 3 && s.is LPE_SILRD_UNIT 0 0)) = true := by
  decide +kernel

/-- DRAM is up and filled, and holds nothing. -/
def ram (l : List (Field × Nat)) : State := st ([(BUF_STS_TRAINED, 1), (BUF_FILL_WM, 1024), (BUF_RETIRE_BASE, 0x70000), (BUF_CFG_SIZE, 4)] ++ l)

theorem w_MemoryAccesses :
    (!BufMaster.media .host &&
    meets (ram []) (fun s => reaches 9 s && dataOffset (dramBase - 1) s == none && dataOffset dramBase s == some 0 && !unfilled 0 s
      && NMap.get 0 s.chkx 0 == 0 && writable dramBase 64 s && writable (dramBase + 60) 4 s && !writable (dramBase - 1) 1 s && s.retire == none
      && decide (s.prefill.length ≤ 64) && s.merge == [] && !s.is BUF_SRAMFAIL 0 (0x1000 + 1)
      && (s.merge.find? fun m => decide (m.since + 10 * s.get BUF_MERGE_TMO 0 ≤ s.aonNs)) == none) &&
    meets (ram [(BUF_FILL_WM, 0)]) (fun s => dataOffset dramBase s == some 0 && unfilled 0 s && NMap.get 0 s.chkx 0 == 0 && writable dramBase 64 s
      && decide (s.prefill.length < 64)) &&
    meets { (ram []) with chkx := [(0, poisonPattern)] } (fun s => !unfilled 0 s && NMap.get 0 s.chkx 0 == poisonPattern) &&
    meets { (ram [(BUF_MERGE_TMO, 1)]) with merge := [⟨0, [(0, 1)], 0⟩, ⟨5, [(63, 2)], 3⟩], aonNs := 10 } (fun s =>
      (s.merge.find? fun m => decide (m.since + 10 * s.get BUF_MERGE_TMO 0 ≤ s.aonNs)) == some ⟨0, [(0, 1)], 0⟩
      && (s.merge.find? fun m => m.line == 1) == none && s.merge.all fun m => NMap.get 0 s.chkx m.line == 0) &&
    meets { (ram []) with merge := [⟨0, (List.range 64).map fun i => (i, 1), 0⟩] } (fun s => s.merge.all (·.bytes.length == 64))) = true := by
  decide +kernel

theorem w_MemoryUpkeep :
    (meets (ram [(BUF_FILL_WM, 0), (BUF_STS_FILLED, 0)]) (fun s => s.on BUF_STS_TRAINED 0 && !s.on BUF_STS_FILLED 0
      && decide (s.get BUF_FILL_WM 0 < dataEnd s / 65536) && s.fillQ == []) &&
    !(ram [(BUF_SCRB_RATE, 0)]).on BUF_SCRB_RATE 0 &&
    meets (ram [(BUF_SCRB_RATE, 1)]) (fun s => s.on BUF_SCRB_RATE 0 && s.on BUF_STS_TRAINED 0 && decide (s.get BUF_SCRBLK 0 / 1024 < s.get BUF_FILL_WM 0)
      && !inPool (s.get BUF_SCRBLK 0 / 1024) s && !retiring (s.get BUF_SCRBLK 0 / 1024) s && NMap.get 0 s.chkx (s.get BUF_SCRBLK 0) == 0) &&
    (0x20000000 : Word).toNat.testBit 29 && (ram [(BUF_RMAP_VALID, 1)]).on BUF_RMAP_VALID (bits (0x20000000 : Word).toNat 0 10) &&
    meets (ram []) (fun s => !s.on BUF_RMAP_VALID (bits (0x20000000 : Word).toNat 0 10) && !inPool (bits (0x20000000 : Word).toNat 10 19) s
      && decide (bits (0x20000000 : Word).toNat 10 19 * 65536 < dataEnd s) && s.retire == none) &&
    meets { (ram []) with retire := some ⟨0, 0, []⟩ } (fun s => s.retire == some ⟨0, 0, []⟩ && mapEntryOf 0 s == none)) = true := by
  decide +kernel

/-! ## Witnesses: NVMe, PCIe -/

/-- A fetched command of queue `q` with identifier 5. -/
def cmd (q op : Nat) : NvCmd := ⟨q, 5, op, 0, .fetched, ⟨q, 5, 0, 0, false, true, 0, 0, false, 0, 0⟩, .ok, 0, 0, false, [], false, 0⟩

/-- A controller that is enabled and ready, with an admin queue pair and I/O queue pair 1, and commands in flight. -/
def ctl (l : List (Field × Nat)) (cs : List NvCmd) : State :=
  { (st ([(NVQ_EN, 1), (NVQ_STS_RDY, 1), (NVQ_CTL_RUN, 1), (NVQ_NSQ, 254), (NVQ_NCQ, 254)] ++ l)) with
    sqs := [(0, ⟨32, 0, 1⟩), (1, ⟨33, 0, 1⟩)], cqs := [(0, ⟨32, 0, 0, 0, true, 0⟩), (1, ⟨33, 0, 1, 1, true, 1⟩)], cmds := cs }

theorem w_QueuesAndController :
    (meets (ctl [] []) (fun s => reaches 11 s && (barrier s).sqs.find 1 == some ⟨33, 0, 1⟩ && decide ((32 : Word).toNat < 33)
      && sqRoom 1 ((32 + 33 - 0) % 33) (barrier s) && (barrier s).sqs.find 2 == none && (barrier s).cqs.find 1 == some ⟨33, 0, 1, 1, true, 1⟩
      && decide (((1 : Word).toNat + 33 - 0) % 33 ≤ (1 + 33 - 0) % 33) && decide (33 ≤ (33 : Word).toNat) && s.cqs.find 2 == none
      && s.on NVQ_EN 0 && !s.on NVQ_CFS 0 && !s.on NVQ_RESETTING 0 && !(nvqReset s).on PCI_FRZ_BY_FAULT 0 && !s.on NVQ_ACTNEXT 0) &&
    meets (st [(NVQ_CTL_RUN, 1)]) (fun s => !s.on NVQ_EN 0 && !s.on NVQ_BADCC 0 && s.on NVQ_CTL_RUN 0) && ccOk (withBit 0x460060 0 true)
      && !ccOk (withBit 0 0 true) && meets up (fun s => !s.on NVQ_EN 0 && !s.on NVQ_CTL_RUN 0) &&
    (st [(NVQ_RESETTING, 1)]).on NVQ_RESETTING 0 &&
    ([0, 1].all fun q => meets (ctl [(NVQ_FETCHED, 1), (NVQ_RRQ, 1 - q), (NVQ_RRN, 63)] []) (fun s => s.on NVQ_FETCHED 0 && fetchOn s
      && s.cmds.find? (fun c => c.phase == .delete && c.zone == q) == none && nextQueue s == some q
      && decide (entryStatus ⟨q, if q = 0 then 6 else 2, 9, 0, 0, 1⟩ s = .success) && decide (entryStatus ⟨q, 0x33, 9, 0, 0, 1⟩ s ≠ .success))) &&
    ([2, 255].all fun q => meets (ctl [] [cmd 0 5]) (fun s => cmdOf 0 5 s == some (cmd 0 5) && ioAllowed s && decide (q ≤ s.get NVQ_NCQ 0 + 1)
      && s.cqs.find q == none)) &&
    ([2, 255].all fun q => meets { (ctl [] [cmd 0 1]) with cqs := [(q, ⟨33, 0, 0, 0, true, 0⟩)] } (fun s => cmdOf 0 5 s == some (cmd 0 1)
      && decide (q ≤ s.get NVQ_NSQ 0 + 1) && s.sqs.find q == none && (s.cqs.find q).isSome)) &&
    meets { (ctl [] [cmd 0 4]) with sqs := [(0, ⟨32, 0, 1⟩)] } (fun s => cmdOf 0 5 s == some (cmd 0 4) && (s.cqs.find 1).isSome && s.sqs.find 1 == none) &&
    meets (ctl [] [cmd 0 4]) (fun s => (s.cqs.find 1).isSome && (s.sqs.find 1).isSome) &&
    meets (ctl [] [cmd 0 0]) (fun s => cmdOf 0 5 s == some (cmd 0 0) && s.sqs.find 1 == some ⟨33, 0, 1⟩ && !draining 1 s) &&
    meets up (fun s => !s.on PCI_FRZ_FROZEN 0 && !mayIssue s) && (st [(PCI_FRZ_FROZEN, 1)]).on PCI_FRZ_FROZEN 0) = true := by decide +kernel

theorem w_AdminCommands :
    ([2, 6, 8, 9, 10, 12, 16, 17].all fun o => meets (ctl [] [cmd 0 o]) (fun s => reaches 11 s && cmdOf 0 5 s == some (cmd 0 o)
      && decide ((s.cmds.countP fun x => x.sqid == 0 && x.op == 8) ≤ 4) && decide ((s.cmds.countP fun x => x.phase == .event) < 4) && s.events == []
      && !s.on GLB_BOOT_RECOVERY 0 && !s.on NVQ_STS_ACTIVATING 0 && s.dumps == [])) = true ∧
    (meets { (ctl [] [cmd 0 16]) with dumps := [⟨7, 3, 0, 4⟩] } (fun s => s.dumps != [] && !s.norWait.contains (.commit 5 1 2 true false)
      && cmdOf 0 5 s == some (cmd 0 16))) = true ∧
    (logPage 0x77 (ctl [] [cmd 0 2]) == none && (logPage 1 (ctl [] [cmd 0 2])).any (fun l => decide (4 + 0 ≤ l.length))) = true ∧
    (meets (ctl [] [cmd 0 6]) (fun s => (match identifyPage 1 0 0 s with | .ok l => l.length == 4096 | .error _ => false)
      && (match identifyPage 0xFF 0 0 s with | .ok _ => false | .error _ => true))) = true ∧
    (meets { (ctl [(NVQ_UNLKC, 7)] [cmd 0 9]) with sqs := [(0, ⟨32, 0, 1⟩)], cqs := [(0, ⟨32, 0, 0, 0, true, 0⟩)] } (fun s =>
      !(s.sqs.any fun q => q.1 != 0) && !(s.cqs.any fun q => q.1 != 0) && decide ((7 : BitVec 16).toNat = s.get NVQ_UNLKC 0)
      && decide ((8 : BitVec 16).toNat ≠ s.get NVQ_UNLKC 0)) && featureValue 1 0 up == some (up.get NVQ_AB 0) && featureValue 0x55 0 up == none) = true ∧
    (decide (4 ≤ ({ up with cmds := List.replicate 4 { cmd 0 12 with phase := .event } } : State).cmds.countP fun x => x.phase == .event)
      && (st [(NVQ_STS_ACTIVATING, 1)]).on NVQ_STS_ACTIVATING 0 && !(st [(NVQ_STS_ACTIVATING, 1)]).on NVQ_ACTHELD 0) = true := by
  refine ⟨?_, ?_, ?_, ?_, ?_, ?_⟩ <;> decide +kernel

/-- A shelf whose media are up, of two zones, with zone 0 in state `z` and a command `op` in flight. -/
def shelf (z op : Nat) : State :=
  { (mgr [(ACD_CTL_RUN, 1), (MGR_STS_READY, 1), (MGR_NZS, 2)]) with cmds := [cmd 1 op], zones := [(0, { Zone.fresh with state := z, cap := 100 })] }

/-- Arguments of an I/O command over `n` blocks from `a` on. -/
def io (a n : Nat) : IoArgs := ⟨1, 5, a, n, false, true, 0, 0, false, 0, 0⟩

theorem w_IoCommands :
    (up.zones == [] && meets { up with cmds := [cmd 1 0] } (fun s => reaches 11 s && cmdOf 1 5 s == some (cmd 1 0) && mediaHold false [] s) &&
    meets (shelf 1 0) (fun s => reaches 11 s && !mediaHold false [] s && cmdOf 1 5 s == some (cmd 1 0)) &&
    ([(0, 1), (0, 100)].all fun p => meets (shelf 1 1) (fun s => !mediaHold true (zonesOf (io p.1 p.2).slba (io p.1 p.2).nlb s) s
      && decide (p.2 ≤ 256) && decide (p.1 + p.2 ≤ nsze s) && (io p.1 p.2).prchk.getLsbD 0 == false
      && decide (writeStatus false (zoneOf p.1 s) (p.1 % zsze s) p.2 p.1 s = .success)
      && decide (writeStatus true (zoneOf p.1 s) (zoneView (zoneOf p.1 s) s).accept p.2 p.1 s = .success))) &&
    meets (shelf 1 2) (fun s => !mediaHold false (zonesOf 131071 2 s) s && decide (nsze s < 131071 + 2) && !mediaHold true (zonesOf 0 257 s) s
      && decide (131071 + 1 ≤ nsze s)) &&
    ([0, 1, 2, 3, 4, 6].all fun z => meets (shelf z 0x79) (fun s => decide (0 < zoneTotal s) && decide ((s.zone 0).state = z)
      && decide ((s.zone 0).ready ≤ (s.zone 0).wp) && !zoneBusy 0 (s.modCmd (cmd 1 0x79) (fun x => { x with act := 2, zone := 0, all := false }))
      && decide (rowEnd 0 s ≤ (s.zone 0).wp) && !s.acd.resync.contains 0)) &&
    meets { (shelf 1 0x79) with acd := { up.acd with resync := [0] } } (fun s => decide (0 < zoneTotal s) && s.acd.resync.contains 0
      && decide ((s.zone 0).state ≤ 4) && cmdOf 1 5 s == some (cmd 1 0x79)) &&
    ((io 0 1).pract && (io 0 1).ilbrt.toNat == 0 % 2 ^ 48) &&
    meets { (shelf 1 0x79) with cmds := [cmd 1 0x79, { cmd 1 1 with cid := 6, phase := .rows }] } (fun s => zoneBusy 0 s
      && cmdOf 1 5 s == some (cmd 1 0x79)) &&
    meets { (shelf 1 0x79) with regs := ((shelf 1 0x79).set NVQ_STS_ACTIVATING 0 1).regs } (fun s => s.on NVQ_STS_ACTIVATING 0 && mediaUp s
      && decide (0 < zoneTotal s) && decide ((s.zone 0).state ≤ 4) && cmdOf 1 5 s == some (cmd 1 0x79)) && !up.on NVQ_STS_ACTIVATING 0 &&
    !mediaUp (st [(NVQ_STS_ACTIVATING, 1)]) &&
    meets (shelf 1 0x7A) (fun s => decide (zoneTotal s ≤ 2) && cmdOf 1 5 s == some (cmd 1 0x7A)) &&
    meets { up with cmds := [{ cmd 1 2 with phase := .held }] } (fun t => reaches 11 t && cmdOf 1 5 t == some { cmd 1 2 with phase := .held })) = true := by
  decide +kernel

/-- The endpoint with its link up. -/
def link (l : List (Field × Nat)) : State := st ([(PCI_STS_DL_UP, 1), (PAD_PERST, 0)] ++ l)

/-- A 4-byte request of BAR0 at offset 0x14. -/
def req (k : ReqKind) (d : List Byte) : MemReq := ⟨k, 0, 0x14, 4, d, false, false, false⟩

theorem w_Endpoint :
    (meets (up.set PAD_RSTN 0 1) inReset &&
    meets (link []) (fun s => reaches 10 s && !s.on PAD_PERST 0 && !memoryOpen (linkAwake s) && s.on PCI_STS_DL_UP 0 && cfgReady (linkAwake s)
      && (s.quar.find? fun q => q.1 == 3) == none && s.tags.find 3 == none && !s.on PCI_STS_BME 0 && s.is PCI_STS_DSTATE 0 0
      && !s.is PCI_STS_DSTATE 0 3 && bar0Form (req .memory []) && refusedRequest (req .memory []) true (linkAwake s) == none
      && refusedRequest (req .memory [0, 0, 0, 0]) false (linkAwake s) == none) &&
    meets (link [(CFG_CMD, 2)]) (fun s => memoryOpen (linkAwake s) && bar0Form (req .memory [0, 0, 0, 0]) && (req .memory [0, 0, 0, 0]).data.length == 4
      && refusedRequest (req .memory []) true (linkAwake s) == none && refusedRequest (req .memory [0, 0, 0, 0]) false (linkAwake s) == none) &&
    ([ReqKind.memory, .locked, .io, .atomicOp].all fun k => (req k []).kind == k && !(req k []).malformed && !(req k []).ecrcBad) &&
    (st [(PAD_PERST, 1)]).on PAD_PERST 0 && !cfgReady (linkAwake (st [(PAD_PERST, 1)])) &&
    meets { (link [(PCI_CTO_DIS, 0)]) with tags := [(3, .sqFetch)] } (fun s => s.tags.find 3 == some .sqFetch && !s.on PCI_FRZ_FROZEN 0
      && !s.on PCI_CTO_DIS 0) &&
    meets { (link [(PCI_FRZ_FROZEN, 1)]) with tags := [(3, .sqFetch)] } (fun s => s.on PCI_FRZ_FROZEN 0 && !s.on PCI_FRZ_BY_FAULT 0) &&
    (link [(PCI_FRZ_BY_FAULT, 1)]).on PCI_FRZ_BY_FAULT 0 && (link [(PCI_STS_BME, 1)]).on PCI_STS_BME 0 && !(link [(PCI_STS_DSTATE, 3)]).is PCI_STS_DSTATE 0 0 &&
    meets (link [(CFG_LNKCTL, 2)]) (fun s => s.on PCI_STS_DL_UP 0 && s.is PCI_STS_LSTATE 0 0 && s.tags == [] && s.bit CFG_LNKCTL 0 1
      && decide (s.get CFG_L1SS1 0 = 0))) = true := by decide +kernel

/-! ## Witnesses: faults, start-up, registers, the hierarchy -/

/-- A rail in its last gasp's mask, and one that is not. -/
theorem w_FaultCollection :
    (meets up (fun s => !aonDown s && !inReset s && (defSev 511).isSome && !s.on FLT_CNT_FSTATE 511 && !((s.liveOf 2).any fun e => e.inst == 0xFF)
      && defSev 23 == none && !(railMasked s).testBit 9 && !s.on PAD_TEST 0 && !s.on FLT_INJECT_ASSERT 0) &&
    meets (st [(FLT_SEV_SEV, 0)]) (fun s => s.get FLT_SEV_SEV 0 == 0) &&
    meets { up with live := [(2, [⟨0xFF, false⟩])] } (fun s => (s.liveOf 2).any fun e => e.inst == 0xFF) &&
    ([(254, 255), (255, 255), (0, 0)].all fun p => meets (st [(FLT_CNT_FSTATE, 1), (FLT_TIMER, 1), (FLT_SEV_LIMIT, p.1), (FLT_CNT_RCNT, p.2)]) (fun s =>
      s.on FLT_CNT_FSTATE 0 && s.on FLT_TIMER 0 && !s.on FLT_CNT_LOCKOUT 0 && !s.on FLT_SAFE_ACTIVE 0
      && (p.1 == 255 || decide (s.get FLT_SEV_LIMIT 0 < s.get FLT_CNT_RCNT 0 + 1)))) &&
    (st [(FLT_WINOPEN, 1)]).on FLT_WINOPEN 0 && (0x010001C0 : Word).toNat.testBit 24 && bits (0x010001C0 : Word).toNat 0 9 == 448
      && bits (0x010001BF : Word).toNat 0 9 == 447) = true := by decide +kernel

theorem w_FirmwareEntries : (!inReset up && (0x80000000 : Word).toNat.testBit 31) = true := by decide +kernel

theorem w_RecordDumps :
    (meets up (fun s => !aonDown s && !inReset s && s.dumps == [] && !s.on BNR_CARRY 0) && !(0x7FFFFFFF : Word).toNat.testBit 31 &&
    meets { up with dumps := [⟨7, 3, 0, 4⟩] } (fun s => s.dumps == [⟨7, 3, 0, 4⟩] && !s.on BNR_CARRY 0)) = true := by decide +kernel

/-- A slot that verifies. -/
def slot0 : FlaconSlot := ⟨true, true, true, 0, false, true, 0, []⟩

theorem w_StartUpAndPins :
    (meets (up.set PAD_RSTN 0 1) (fun s => inReset s && s.on PAD_RSTN 0 && !s.on PAD_PWRBAD 0 && !aonDown s) && !inReset up &&
    (bits (0x5A02 : Word).toNat 8 8 == 0x5A && (0x5A02 : Word).toNat.testBit 1 && (0x5A01 : Word).toNat.testBit 0 && !(0x5A01 : Word).toNat.testBit 1
      && bits (0x5902 : Word).toNat 8 8 != 0x5A) &&
    fieldBlk GLB_BOOT_PHASE.id != 93 && fieldBlk GLB_BOOT_PHASE.id != 91 && GLB_BOOT_PHASE.id != GLB_SVN.id &&
    aonDown (up.set PAD_AONLOW 0 1) &&
    meets (State.reset.set GLB_BOOT_PHASE 0 2) (fun s => booting s && s.is GLB_BOOT_PHASE 0 2 && s.dumps == []
      && slotOk slot0 (bootFinds 0 false 1 false s)) && chooseDir ⟨true, 1, 0⟩ ⟨false, 0, 1⟩ == some 0 && chooseDir ⟨true, 1, 0⟩ ⟨true, 2, 1⟩ == some 1 &&
    meets (State.reset.setMany 0 [(GLB_BOOT_PHASE, 5), (BUF_STS_TRAINED, 0)]) (fun s => !inReset s && !s.on PAD_TEST 0 && !s.on BUF_STS_TRAINED 0
      && s.is GLB_BOOT_PHASE 0 5 && !s.on GLB_BOOT_RECOVERY 0 && !s.is GLB_BOOT_CAUSE 0 7) &&
    meets (State.reset.set GLB_BOOT_PHASE 0 6) (fun s => !s.on GLB_BOOT_CFGDONE 0 && s.is GLB_BOOT_PHASE 0 6 && !s.on GLB_BOOT_RECOVERY 0
      && s.tables.nor == [] && meets (applyNor s) (fun a => !inReset a && !a.on PAD_TEST 0 && !a.on GLB_BOOT_RECOVERY 0 && !a.on GLB_BOOT_CFGDONE 0
      && a.is GLB_BOOT_PHASE 0 6)) && up.on GLB_BOOT_CFGDONE 0 &&
    ([650, 850].all fun mv => meets (st [(PAD_AVS, mv)]) (fun s => reaches 0 s && decide ((mv - s.get PAD_AVS 0) + (s.get PAD_AVS 0 - mv) ≤ 10)
      && !s.on PAD_AVSOFF 0 && !s.on PAD_AVSMS 0 && (List.range 48).all fun l => !s.on LAN_STS_WRITING l)) &&
    meets (st [(PAD_TAP, 2), (PAD_PERST, 1)]) (fun s => decide (s.get PAD_TAP 0 < 3) && s.on PAD_PERST 0 && !s.on PAD_TEST 0) &&
    (st [(PAD_TEST, 1)]).on PAD_TEST 0 && meets (st [(PAD_TAP, 5)]) (fun s => !s.on PAD_TEST 0 && decide (s.get PAD_TAP 0 = 5)) &&
    (scanCell (.gate 0)).isSome && (scanCell .avs).isSome) = true := by decide +kernel

theorem w_RegisterAccesses :
    (decide (GLB_BOOT_PHASE.lo + GLB_BOOT_PHASE.width ≤ 32) && ([(LPE_CTL_RUN, Access.rw), (FLT_STS, .w1c), (GLB_BOOT_PHASE, .ro), (SRV_FRAME_SBIT, .rwl)].all
      fun p => decide (p.1.acc = p.2) && decide (0 < p.1.width) && decide (p.1.lo + p.1.width ≤ 32)) && up.on GLB_BOOT_CFGDONE 0 &&
    poweredOff (0x30000 / 65536) (mgr []) && inReset (up.set PAD_RSTN 0 1) && !inReset up &&
    regOffset regBase == some 0 && regOffset (regBase + 0x10FFFC) == some 0x10FFFC && regOffset (regBase + 0x110000) == none &&
    decide (0x10FFFC % 4 = 0) && !up.on NVQ_UNLOCK 0 && regOffset 0x3FFFFC == none && coreRam 0x3FFFFC && regOffset 0x400000 == none &&
    !coreRam 0x400000 && !inDram 0x400000 && !controlStore 0x400000 && !fmtStore 0x400000 && controlStore 0x10000000 &&
    controlStore 0x101FFFFC && !controlStore 0x10200000 && !up.on PAD_TEST 0 && !up.on GLB_HELD 0) = true := by decide +kernel

/-- A node with its upstream port enabled and address 5. -/
def node (l : List (Field × Nat)) : State := st ([(CLB_CTL_UPEN, 1), (CLB_NODE_ADDR, 5)] ++ l)

/-- `s` after the count of a frame addressed to it, with sequence number 2 kept as answered. -/
def heard (s : State) : State := (lower 305 0xFF (s.bump CLB_UPCNT_VALID 0)).set CLB_LAST 0 (2 + 1)

theorem w_NodeFrames :
    (meets (node []) (fun s => reaches 16 s && s.on CLB_CTL_UPEN 0 && decide (4 ≠ ownAddr s) && decide (5 = ownAddr s) && !s.is CLB_LAST 0 (2 + 1)
      && !(heard s).is GLB_ROLE_ROLE 0 2 && decide (missingChunks { heard s with fwMiss := [0] } = []) && s.dumps == []
      && driveRole ((heard s).set CLB_ORDER_CODE 0 5) && !((heard s).bit SPN_CMT_STS_PENDING 0 1) && decide ((2 : BitVec 3).toNat ≤ 2)
      && decide (2 < (3 : BitVec 3).toNat) && decide (ownAddr s ≠ 0x7E)) &&
    meets { (node []) with dumps := [⟨7, 3, 0, 4⟩], fwMiss := [0] } (fun s => decide (missingChunks (heard s) = []) && s.dumps != []) &&
    (st [(CLB_CTL_UPEN, 0)]).is CLB_CTL_UPEN 0 0 &&
    meets { (node [(CLB_LAST, 3)]) with upReply := some (claikOut true 5 4 2 []) } (fun s => (lower 305 0xFF (s.bump CLB_UPCNT_VALID 0)).is CLB_LAST 0 3
      && (lower 305 0xFF (s.bump CLB_UPCNT_VALID 0)).upReply == some (claikOut true 5 4 2 [])) &&
    meets (node [(GLB_ROLE_ROLE, 2), (CLB_TOP, 0)]) (fun s => (heard s).is GLB_ROLE_ROLE 0 2 && !(heard s).on CLB_TOP 0
      && !driveRole ((heard s).set CLB_ORDER_CODE 0 5)) &&
    meets { (node []) with ring := [(0, ⟨0, 0, 7, 0, 6, 0, false, 0, 0, 0, 0⟩)] } (fun s => ((heard s).ring.find? fun x => x.2.seq == 7) ==
      some (0, ⟨0, 0, 7, 0, 6, 0, false, 0, 0, 0, 0⟩)) &&
    meets (node [(CLB_NODE_ADDR, 0x7E)]) (fun s => decide (ownAddr s = 0x7E) && !s.on CLB_FIXED 0 && decide (s.get GLB_EUI 0 = (0 : BitVec 64).toNat)
      && !s.is CLB_LAST 0 (2 + 1)) &&
    (node [(CLB_HELLO, 1)]).on CLB_HELLO 0 && (node [(FLT_SAFE_ACTIVE, 1)]).on FLT_SAFE_ACTIVE 0) = true := by decide +kernel

theorem w_ShelfManager :
    (!up.is GLB_ROLE_ROLE 0 2 && noMembers (mgr [(GLB_ROLE_LEVEL, 2)]) && (mgr [(GLB_ROLE_LEVEL, 2)]).is GLB_ROLE_ROLE 0 2 &&
    meets (mgr [(ACD_MEMBERS, 1)]) (fun s => reaches 16 s && reaches 11 s && s.is GLB_ROLE_ROLE 0 2 && masterOn s && !noMembers s
      && s.memberMask.testBit 0 && !isLost 0 s && !s.on MGR_FW_BUSY 0 && !s.on MGR_DISC 0 && s.dnQ == []) &&
    meets { (mgr []) with peers := [⟨63, 0, 0, .setup 1, 0, 0, 0, 0, true⟩] } (fun s => decide (1 ≤ s.get MGR_PEERCFG_RETRY 0 + 1)
      && (s.peers.find? fun x => x.slot == 63) == some ⟨63, 0, 0, .setup 1, 0, 0, 0, 0, true⟩) &&
    meets (mgr [(MGR_SYNC_EN, 1)]) (fun s => s.on MGR_SYNC_EN 0 && !s.on MGR_SYNCLOW 0) &&
    isLost 0 (mgr [(ACD_MEMBERS, 1), (ACD_LOST, 1)]) &&
    meets { (mgr [(MGR_DISC, 1)]) with hellos := [9] } (fun s => s.on MGR_DISC 0 && s.hellos.contains 9 && !s.hellos.contains 8
      && !s.on MGR_MAPPED 0 && (List.range 64).all (fun n => !s.on MGR_NODE_STATE n) && mappedSlot 9 s == none && freeNode s == some 0) &&
    meets (mgr [(MGR_DISC, 1), (MGR_NODE_STATE, 1), (MGR_NODE_EUI, 9)]) (fun s => mappedSlot 9 { s.bump CLB_DNCNT_VALID 0 with hellos := [9] } == some 0) &&
    meets (mgr [(MGR_DISC, 1), (MGR_EMPTY, 2)]) (fun s => s.on MGR_DISC 0 && s.hellos == [] && s.get MGR_EMPTY 0 == 2) &&
    meets (mgr [(MGR_NODE_STATE, 1)]) (fun s => s.on MGR_NODE_STATE 0 && (List.range 64).all (fun k => k == 0 || !s.on MGR_NODE_STATE k)
      && s.dnQ == [] && !s.is MGR_NODE_STATE 0 3) &&
    meets { (mgr [(MGR_NODE_STATE, 1), (MGR_FWACT, 1)]) with dnQ := [⟨1, 7, 2, bytesOf 1 1, 0⟩] } (fun s => s.dnQ == [⟨1, 7, 2, bytesOf 1 1, 0⟩]
      && s.on MGR_FWACT 0 && (lower 307 1 ((s.bump CLB_DNCNT_VALID 0).set MGR_NODE_MISSED 0 0)).dnQ == [⟨1, 7, 2, bytesOf 1 1, 0⟩]) &&
    meets { (mgr []) with dnQ := [⟨1, 3, 2, [], 0⟩] } (fun s => s.dnQ == [⟨1, 3, 2, [], 0⟩]) &&
    meets (mgr []) (fun s => decide ((lower 307 1 ((s.bump CLB_DNCNT_VALID 0).set MGR_NODE_MISSED 0 0)).harvest.length + 0 ≤
      16384 * s.get MGR_HARV_SIZE 0)) &&
    (mgr [(MGR_FW_BUSY, 1)]).on MGR_FW_BUSY 0 &&
    meets { (mgr [(MGR_NODE_MISSED, 2)]) with dnQ := [⟨1, 0, 2, [], 2⟩] } (fun s => s.dnQ == [⟨1, 0, 2, [], 2⟩] && s.is MGR_NODE_MISSED 0 2) &&
    decide (0x9000 - 4 < 0x9000) && decide ((0x9000 - 0x40) % 0x40 / 4 ≤ peerQueues (barrier (mgr [])))) = true := by decide +kernel

/-! ## One step -/

/-- What a step answers, if it is a next state. -/
def next (o : Host.Outcome State Fault Refusal) : Option State := match o with | .next t => some t | _ => none

/-- A step takes the command in front, and leaves the rest waiting. -/
theorem test_step_front : ((next (step { up with pending := [.stampLoRead, .idcode] })).any fun t => t.pending == [.idcode]) = true := by decide +kernel

/-- On an empty queue the block idles. -/
theorem test_step_idle : (next (step State.reset)).any (fun t => t.pending == [] && t.out == []) = true := by decide +kernel

/-- R635: IDCODE shifts out the word that the spec gives. -/
theorem test_idcode : (next (exec .idcode State.reset)).any (fun t => t.out == [.tdo 0x2481234B]) = true := by decide +kernel

/-- R565, R568: after a cold reset the boot phase is 1 and the record holds its first entry. -/
theorem test_reset : (State.reset.is GLB_BOOT_PHASE 0 1 && State.reset.ring.length == 1 && State.reset.mem == [] && State.reset.pending == []) = true := by
  decide +kernel

/-- R573: data that do not parse as a flacon lead to recovery boot. -/
theorem test_flacon_bad : (next (exec (.flaconLoadDone ⟨false, 0, 0⟩ ⟨false, 0, 0⟩
    (⟨false, false, false, 0, false, false, 0, []⟩, ⟨false, false, false, 0, false, false, 0, []⟩)
    (⟨false, false, false, 0, false, 0, 0, 0, 0, 0, [], 0, 0, none, none, none, none, none, [], none, 0, 0, 0, 0, none, none, [], []⟩,
     ⟨false, false, false, 0, false, 0, 0, 0, 0, 0, [], 0, 0, none, none, none, none, none, [], none, 0, 0, 0, 0, none, none, [], []⟩) false 1 false) (State.reset.set GLB_BOOT_PHASE 0 2))).any
    (fun t => t.on GLB_BOOT_RECOVERY 0) = true := by decide +kernel

/-- R334: braking that has ended leads to alignment. -/
theorem test_brake_end : (next (exec .brakeEnd (st [(SPN_STATE_STATE, 2)]))).any (fun t => t.is SPN_STATE_STATE 0 3) = true := by decide +kernel

/-- R660: a status bit written with 1 is cleared; one written with 0 stays. -/
theorem test_w1c : ((writeField FLT_STS 0 0 1 (up.set FLT_STS 0 3)).get FLT_STS 0) = 2 := by decide +kernel

/-- R365: a product of Q15 operands, accumulated. -/
theorem test_mac : (next (exec (.mac 0 0 0 1 1 true) ((word0 0x2005 [(CTX_X, 0x8000), (CTX_ACC, 5)]).set CTX_X 1 0x10000))).any
    (fun t => acc 0 0 t == 0x10005) = true := by decide +kernel

/-- R4: the first and the last head and surface. -/
theorem test_heads : headAt 0 0 = 0 ∧ headAt 3 11 = 47 ∧ surfaceAt 0 0 = 0 ∧ surfaceAt 1 11 = 23 := by decide

/-- R30: a tick forward moves the stamp, a cycle without one does not. -/
theorem test_tick : ((next (exec (.angleClockCycle (1, 1)) (st [(ANG_SRC_SRC, 1)]))).any (fun t => t.stamp == 1) &&
    (next (exec (.angleClockCycle (0, 0)) (st [(ANG_SRC_SRC, 1)]))).any (fun t => t.stamp == 0)) = true := by decide +kernel

/-- An implicitly opened zone that the host opens is explicitly opened, and the command is completed. -/
theorem test_zone_open : (next (exec (.zoneOpen 1 5 0 false) (shelf 1 0x79))).any (fun t => (t.zone 0).state == 2 && t.cmds == []) = true := by
  decide +kernel

/-- R370: a write of a control-store window is discarded and fires source 226. -/
theorem test_bank_write : (next (exec (.registerWrite .m0 0x10000000 5) up)).any (fun t => t.bit FLT_STS 7 2 && t.cs == []) = true := by
  decide +kernel

/-- R291: the retract phase drives −IRET, 20/256 of full scale after reset. -/
theorem test_retract_drive : (next (exec (.retractPhaseEnd 0) (st [(SRV_PHASE, 1), (SRV_DRVEN, 1)]))).any
    (fun t => t.getI SRV_DAC 0 == -2560 && t.is SRV_PHASE 0 2) = true := by decide +kernel

/-- R394: a load from an uncorrectable 64-bit word of data memory is found, one from the next is not. -/
theorem test_bad_load : (badLoad 0 { (based 0 1 []) with csBad := [131072] } (.ld 0 0 1 2 0 true) &&
    !badLoad 0 { (based 0 2 []) with csBad := [131072] } (.ld 0 0 1 2 0 true)) = true := by decide +kernel

end Sys2Proof.Tests
end

section
/-!
PROOFS. The angle timebase (spec/01_angle_timebase.md): the stamp and the captured read of its high word (R41), and the comparator
whose target is locked while it is enabled (R49).
-/

namespace Sys2Proof.Machine

/-! ## The stamp (R41) -/

section
variable (s : State) (v : Nat)

@[simp] theorem State.setStamp_get_lo : (s.setStamp v).get ANG_STAMP_LO 0 = v % 2 ^ 32 := by
  unfold State.setStamp
  rw [get_set_other _ _ _ _ (by decide), State.get_set_self]
  rfl

@[simp] theorem State.setStamp_get_hi : (s.setStamp v).get ANG_STAMP_HI 0 = v / 2 ^ 32 % 2 ^ 32 := State.get_set_self ..

/-- The two words of the stamp make up its 64 bits. -/
@[simp] theorem State.setStamp_stamp : (s.setStamp v).stamp = v % 2 ^ 64 := by
  rw [State.stamp, State.setStamp_get_lo, State.setStamp_get_hi]
  omega

/-- The tick is the stamp's 22 low bits. -/
theorem State.setStamp_tick : (s.setStamp v).tick = v % 2 ^ 22 := by
  rw [State.tick, State.setStamp_stamp, revTicks]
  omega

end

/-! ## Reads of its two words (R41, R658) -/

theorem exec_stampLoRead_of {s : State} (h : reaches 1 s = true) : exec .stampLoRead s = .next (s.after (stampLoRead s)) := by
  rw [exec_stampLoRead, execStampLoRead, readOn_of h, done_next]

/-- After a read of the low word the captured high word is that of the same instant. -/
theorem stampLoRead_captures_hi (s : State) : (stampLoRead s).cap.find 0x10014 = some (s.get ANG_STAMP_HI 0) :=
  NMap.find_put_self ..

/-- The offset of `ANG_STAMP_HI` decodes to that register. -/
theorem findReg_stamp_hi : findReg 0x10014 = .active reg_ANG_STAMP_HI 0 0 := rfl

/-- A read of `ANG_STAMP_HI` that follows a capture returns the captured value and does nothing else. -/
theorem readReg_stamp_hi {u : State} {v : Nat} (hp : poweredOff 1 u = false) (hc : u.cap.find 0x10014 = some v) :
    readReg 0x10014 u = u.ret v := by
  have hread : readReg 0x10014 u = lookReg 0x10014 u := by
    simp [readReg, hp, findReg_stamp_hi, reg_ANG_STAMP_HI, capturedPlace]
  have hfree : freeReg 0x10014 u = false := by simp [freeReg, findReg_stamp_hi, hc]
  have hpeek : peekReg 0x10014 u = v := by
    simp [peekReg, hp, findReg_stamp_hi, reg_ANG_STAMP_HI, capturedPlace, capturedValue, hc]
  rw [hread, lookReg, hfree, hpeek]
  rfl

/-- The same at the register's internal address. -/
theorem exec_multiwordLowRead_stamp_hi {u : State} {v : Nat} (h : reaches 1 u = true) (hc : u.cap.find 0x10014 = some v) :
    exec (.multiwordLowRead 0x20010014) u = .next (u.after (u.ret v)) := by
  have hread : multiwordLowRead (0x20010014 : Addr).toNat u = readReg 0x10014 u := rfl
  rw [exec_multiwordLowRead, execMultiwordLowRead, reaches_inReset h, hread, readReg_stamp_hi (reaches_powered h) hc]
  rfl

/-- Settles O7: the words of a stamp that is set, and what a read of the low word leaves captured for that of the high word. -/
theorem stampReadCapturesHigh : Obligations.StampReadCapturesHigh := by
  refine ⟨fun s v => ⟨s.setStamp_stamp v, s.setStamp_tick v, ?_, s.setStamp_get_lo v, s.setStamp_get_hi v⟩, fun s hs => ?_⟩
  · rw [State.setStamp_stamp]
  · refine ⟨_, exec_stampLoRead_of hs, rfl, fun u hcap hu => exec_multiwordLowRead_stamp_hi hu ?_⟩
    rw [hcap]
    exact stampLoRead_captures_hi s

/-! ## Writes of a comparator's target (R49) -/

section
variable {s : State} (n : Fin 256) (v : Word)

theorem exec_angCmpWrite_low (h : reaches 1 s = true) :
    exec (.angCmpWrite n 0 v) s = .next (s.after (cmpTarget n false v.toNat s)) := by
  rw [exec_angCmpWrite, execAngCmpWrite, onBlock_of h, done_next]
  rfl

theorem exec_angCmpWrite_high (h : reaches 1 s = true) :
    exec (.angCmpWrite n 1 v) s = .next (s.after (cmpTarget n true v.toNat s)) := by
  rw [exec_angCmpWrite, execAngCmpWrite, onBlock_of h, done_next]
  rfl

end

section
variable {s : State} {n : Nat} (hi : Bool) (v : Nat)

/-- While EN is set, a write of either word of the target sets ARMERR and fires source 21. -/
theorem cmpTarget_enabled (h : s.on ANG_CMP_EN n = true) : cmpTarget n hi v s = pulse 21 0xFF (s.set ANG_CMP_ARMERR n 1) := by
  simp [cmpTarget, h]

/-- ARMERR stays set through the reactions to source 21. -/
theorem cmpTarget_enabled_armerr (h : s.on ANG_CMP_EN n = true) : (cmpTarget n hi v s).get ANG_CMP_ARMERR n = 1 := by
  rw [cmpTarget_enabled hi v h, pulse_get (by decide +kernel), State.get_set_self]
  rfl

/-- No target changes, that of another comparator neither. -/
theorem cmpTarget_enabled_target (h : s.on ANG_CMP_EN n = true) (k : Nat) :
    (cmpTarget n hi v s).get ANG_CMP_TARGET k = s.get ANG_CMP_TARGET k := by
  rw [cmpTarget_enabled hi v h, pulse_get (by decide +kernel), get_set_other _ _ _ _ (by decide)]

theorem cmpTarget_disabled_low (h : s.on ANG_CMP_EN n = false) :
    cmpTarget n false v s = s.set ANG_CMP_TARGET n (s.get ANG_CMP_TARGET n / 2 ^ 32 * 2 ^ 32 + v % 2 ^ 32) := by
  simp [cmpTarget, h]

theorem cmpTarget_disabled_high (h : s.on ANG_CMP_EN n = false) :
    cmpTarget n true v s = s.set ANG_CMP_TARGET n (s.get ANG_CMP_TARGET n % 2 ^ 32 + v * 2 ^ 32) := by
  simp [cmpTarget, h]

end

/-- Settles O11: while EN is set both words are refused with ARMERR, while it is clear each replaces its half of the target. -/
theorem comparatorTargetLocked : Obligations.ComparatorTargetLocked := by
  intro s n v hr
  refine ⟨fun hen => ⟨?_, ?_⟩, fun hen => ⟨?_, ?_⟩⟩
  · exact ⟨_, exec_angCmpWrite_low n v hr, cmpTarget_enabled_armerr false _ hen, cmpTarget_enabled_target false _ hen⟩
  · exact ⟨_, exec_angCmpWrite_high n v hr, cmpTarget_enabled_armerr true _ hen, cmpTarget_enabled_target true _ hen⟩
  · rw [exec_angCmpWrite_low n v hr, cmpTarget_disabled_low _ hen, Nat.mod_eq_of_lt v.isLt]
  · rw [exec_angCmpWrite_high n v hr, cmpTarget_disabled_high _ hen]

end Sys2Proof.Machine
end

section
/-!
PROOFS. The base-note record (spec/11): what an entry leaves in the ring and in its sequence counter (R551, R554), and the entries that
firmware adds (R555).
-/

namespace Sys2Proof.Machine

/-! ## An entry of any writer (R551, R554) -/

/-- The entry that a writer makes in a state: stamped there, numbered by its sequence counter. -/
def State.nextEntry (s : State) (typ source sev inst rcnt d0 d1 : Nat) : Entry :=
  ⟨s.stamp, s.timeUs, s.get BNR_STS_SEQ 0, source % 512, typ, sev, s.on ANG_SRC_REF 0, inst % 256, rcnt, d0, d1⟩

section
variable (s : State) (typ source sev inst rcnt d0 d1 : Nat)

/-- The entry goes to HEAD, whether or not the ring wraps there. -/
theorem State.enter_ring : (s.enter typ source sev inst rcnt d0 d1).ring =
    s.ring.put (s.get BNR_STS_HEAD 0) (s.nextEntry typ source sev inst rcnt d0 d1) := by
  unfold State.enter
  dsimp only
  split <;> rfl

theorem State.enter_find_head : (s.enter typ source sev inst rcnt d0 d1).ring.find (s.get BNR_STS_HEAD 0) =
    some (s.nextEntry typ source sev inst rcnt d0 d1) := by
  rw [State.enter_ring, NMap.find_put_self]

/-- The sequence counter moves on by one: WRAPPED and HEAD, which an entry also writes, are fields of their own. -/
theorem State.enter_get_seq : (s.enter typ source sev inst rcnt d0 d1).get BNR_STS_SEQ 0 =
    (s.get BNR_STS_SEQ 0 + 1) % 2 ^ BNR_STS_SEQ.width := by
  unfold State.enter
  dsimp only
  rw [get_bump_self, get_bump_other _ _ _ (by decide)]
  split
  · rw [get_set_other _ _ _ _ (by decide)]; rfl
  · rfl

end

/-! ## Firmware's entries (R555) -/

/-- Bits taken from a number already fit their width: an entry keeps the whole of a code. -/
theorem bits_mod_width (n lo w : Nat) : bits n lo w % 2 ^ w = bits n lo w := Nat.mod_mod ..

theorem exec_bnrFirmwareEntry_of {s : State} (v : Word) (h : inReset s = false) :
    exec (.bnrFirmwareEntry v) s = .next (s.after (firmwareEntry v.toNat s)) := by
  simp [execBnrFirmwareEntry, h, done_next]

section
variable {v : Nat} (s : State) (hgo : v.testBit 31 = true)
include hgo

/-- With GO the code is kept and an entry of TYPE 6 made; one of code 0x101 also shows its CALDONE bit. -/
theorem firmwareEntry_go : firmwareEntry v s =
    let t := (s.set BNR_FWCTL_CODE 0 (bits v 0 9)).enter 6 (bits v 0 9) 0 0xFF 0 (s.get BNR_FW 0) (s.get BNR_FW 1)
    if bits v 0 9 = 0x101 then t.set GLB_WIRING_CALDONE 0 (bits (s.get BNR_FW 0) 31 1) else t := by
  simp [firmwareEntry, hgo]

theorem firmwareEntry_find_head : (firmwareEntry v s).ring.find (s.get BNR_STS_HEAD 0) =
    some ((s.set BNR_FWCTL_CODE 0 (bits v 0 9)).nextEntry 6 (bits v 0 9) 0 0xFF 0 (s.get BNR_FW 0) (s.get BNR_FW 1)) := by
  have hhead : s.get BNR_STS_HEAD 0 = (s.set BNR_FWCTL_CODE 0 (bits v 0 9)).get BNR_STS_HEAD 0 :=
    (get_set_other _ _ _ _ (by decide)).symm
  rw [firmwareEntry_go s hgo, hhead]
  dsimp only
  split
  · rw [State.set_ring, State.enter_find_head]
  · rw [State.enter_find_head]

theorem firmwareEntry_get_seq :
    (firmwareEntry v s).get BNR_STS_SEQ 0 = (s.get BNR_STS_SEQ 0 + 1) % 2 ^ BNR_STS_SEQ.width := by
  have hseq : (s.set BNR_FWCTL_CODE 0 (bits v 0 9)).get BNR_STS_SEQ 0 = s.get BNR_STS_SEQ 0 := get_set_other _ _ _ _ (by decide)
  rw [firmwareEntry_go s hgo]
  dsimp only
  split
  · rw [get_set_other _ _ _ _ (by decide), State.enter_get_seq, hseq]
  · rw [State.enter_get_seq, hseq]

end

/-- Settles O55: firmware's entry is the next one of the record, and an entry of any writer takes the sequence counter's number. -/
theorem firmwareEntries : Obligations.FirmwareEntries := by
  refine ⟨fun s v hr hgo => ?_, fun s typ source sev inst rcnt d0 d1 => ?_⟩
  · exact ⟨_, _, exec_bnrFirmwareEntry_of v hr, firmwareEntry_find_head s hgo, rfl, bits_mod_width v.toNat 0 9, rfl, rfl,
      get_set_other _ _ _ _ (by decide), firmwareEntry_get_seq s hgo⟩
  · exact ⟨_, State.enter_find_head .., rfl, State.enter_get_seq ..⟩

end Sys2Proof.Machine
end

section
/-!
PROOFS. The machine as a whole: that every command completes, runs, and what every step keeps.
-/

namespace Sys2Proof.Machine

set_option Elab.async false

/-- A step that ends in a next state goes on from there. -/
theorem run_succ_of_step {M : Host.Core} {s t : M.State} (n : Nat) (h : M.step s = .next t) : M.run (n + 1) s = M.run n t := by
  rw [Host.Core.run, h]

/-- Every step ends in a next state and takes at most the command at the front of the queue. -/
theorem step_next (s : State) : ∃ t, step s = .next t ∧ t.pending = s.pending.drop 1 := by
  cases h : s.pending with
  | nil => exact ⟨s, by simp [step, h], h⟩
  | cons c q =>
    obtain ⟨u, hu⟩ := exec_done c { s with pending := q }
    exact ⟨_, by simp only [step, h]; exact hu, rfl⟩

/-- Settles O2: every meaning ends in `done`, which puts the queue back. -/
theorem everyCommandCompletes : Obligations.EveryCommandCompletes := fun c s => by
  obtain ⟨u, hu⟩ := exec_done c s
  exact ⟨_, hu, rfl⟩

/-- Settles O3, by induction on the number of steps: each takes one command off the queue. -/
theorem runsTakeCommandsInOrder : Obligations.RunsTakeCommandsInOrder := fun n => by
  induction n with
  | zero => exact fun s => ⟨s, rfl, rfl⟩
  | succ n ih =>
    intro s
    obtain ⟨u, hu, hq⟩ := step_next s
    obtain ⟨t, ht, hr⟩ := ih u
    refine ⟨t, ?_, by rw [hr, hq, List.drop_drop, Nat.add_comm]⟩
    exact (run_succ_of_step (M := Sys2Proof.core) n hu).trans ht

/-- Settles O4: the canonical form is one of the predicates that every update keeps. -/
theorem memoryStaysCanonical : Obligations.MemoryStaysCanonical := fun s t h hs =>
  keep_step (closed_memOk anyField) s h t hs

/-- Settles O6: what has left the block and the counter of free values are two more of them. -/
theorem outputsOnlyGrow : Obligations.OutputsOnlyGrow := fun s t hs =>
  ⟨keep_step (closed_out anyField s.out) s List.prefix_rfl t hs, keep_step (closed_fresh anyField s.fresh) s le_rfl t hs⟩

/-- Settles O1: both cases of `step`. -/
theorem stepTakesFront : Obligations.StepTakesFront :=
  ⟨fun _ _ _ => rfl, fun s h => by rw [step, h]⟩

/-- Settles O5: nothing is listed in memory at reset. -/
theorem resetMemoryCanonical : Obligations.ResetMemoryCanonical := rfl

end Sys2Proof.Machine
end

section
/-!
PROOFS. How a command that reaches its block ends, what `Keeps` says of the plain updates, and reads of a field after the operations that
leave it alone: the lemmas that the proofs of all families use.
-/

namespace Sys2Proof.Machine

set_option Elab.async false

/-! ## The end of a command -/

section
variable {b : Nat} {s u : State} {f : State → State}

/-- A command of a block that takes commands, and after which the media path and the host side settle. -/
theorem done_onMedia (h : reaches b s = true) (hf : f s = u) : done s (onMedia b f s) = .next (s.settled u) := by
  rw [onMedia_of h, hf]; rfl

/-- A command of a block that takes commands, after which nothing settles. -/
theorem done_onBlock (h : reaches b s = true) (hf : f s = u) : done s (onBlock b f s) = .next (s.after u) := by
  rw [onBlock_of h, hf]; rfl

/-- A read of a register of a block that takes commands. -/
theorem done_readOn (h : reaches b s = true) (hf : f s = u) : done s (readOn b f s) = .next (s.after u) := by
  rw [readOn_of h, hf]; rfl

/-- A command that leaves the state as it is. -/
theorem done_self : done s s = .next s := by rw [done_next, after_eq rfl]

/-- A command of a block that leaves the state as it is. -/
theorem done_onBlock_self (hf : f s = s) : done s (onBlock b f s) = .next s := by
  unfold onBlock
  rw [hf, ite_self, done_self]

end

/-! ## Bits of a field -/

/-- Taking a mask's bits off a number clears them and no other. -/
theorem testBit_sub_and (n m i : Nat) : (n - (n &&& m)).testBit i = (n.testBit i && !m.testBit i) := by
  have hle : n &&& m ≤ n := Nat.and_le_left
  have hodd : (n &&& m) % 2 = 1 ↔ n % 2 = 1 ∧ m % 2 = 1 := Nat.and_mod_two_eq_one
  induction i generalizing n m with
  | zero =>
    rw [Bool.eq_iff_iff]
    simp only [Nat.testBit_zero, Bool.and_eq_true, Bool.not_eq_true', decide_eq_true_eq, decide_eq_false_iff_not]
    omega
  | succ i ih =>
    have hhalf : (n - (n &&& m)) / 2 = n / 2 - (n / 2 &&& m / 2) := by
      rw [← Nat.and_div_two]
      omega
    rw [Nat.testBit_add_one, hhalf, ih _ _ Nat.and_le_left Nat.and_mod_two_eq_one, Nat.testBit_add_one, Nat.testBit_add_one]

/-- A bit that is set or cleared, and any other. -/
theorem testBit_withBit (n i j : Nat) (b : Bool) : (withBit n i b).testBit j = if i = j then b else n.testBit j := by
  have hand : n.testBit i = true → n &&& 2 ^ i = 2 ^ i := fun h => by
    refine Nat.eq_of_testBit_eq fun k => ?_
    rw [Nat.testBit_and, Nat.testBit_two_pow]
    by_cases hk : i = k <;> simp [hk]
    rw [← hk, h]
  unfold withBit
  cases b
  · by_cases h : n.testBit i = true
    · rw [if_neg (by decide), if_pos h, ← hand h, testBit_sub_and, Nat.testBit_two_pow]
      by_cases hk : i = j <;> simp [hk]
    · by_cases hk : i = j
      · subst hk; simp [h]
      · simp [h, hk]
  · rw [if_pos rfl, Nat.testBit_or, Nat.testBit_two_pow]
    by_cases hk : i = j <;> simp [hk]

/-! ## Reading a field after a write of a field -/

section
variable {f g : Field} (s : State) (i j v n : Nat)

theorem State.bit_eq : s.bit f i n = (s.get f i).testBit n := rfl
theorem State.addSat_eq : s.addSat f i n = s.set f i (Nat.min (s.get f i + n) (2 ^ f.width - 1)) := rfl

@[simp] theorem get_set_ne (h : f.id ≠ g.id) : (s.set f i v).get g j = s.get g j := State.get_set_id s i v j h
@[simp] theorem on_set_ne (h : f.id ≠ g.id) : (s.set f i v).on g j = s.on g j := by rw [State.on_eq, get_set_ne s i j v h, State.on_eq]
@[simp] theorem is_set_ne (h : f.id ≠ g.id) : (s.set f i v).is g j n = s.is g j n := by rw [State.is_eq, get_set_ne s i j v h, State.is_eq]
@[simp] theorem bit_set_ne (h : f.id ≠ g.id) : (s.set f i v).bit g j n = s.bit g j n := by rw [State.bit_eq, get_set_ne s i j v h, State.bit_eq]
@[simp] theorem getI_set_ne (h : f.id ≠ g.id) : (s.set f i v).getI g j = s.getI g j := by rw [State.getI_eq, get_set_ne s i j v h, State.getI_eq]
@[simp] theorem on_set_self : (s.set f i v).on f i = (v % 2 ^ f.width != 0) := by rw [State.on_eq, State.get_set_self]
@[simp] theorem is_set_self : (s.set f i v).is f i n = (v % 2 ^ f.width == n) := by rw [State.is_eq, State.get_set_self]
@[simp] theorem bit_set_self : (s.set f i v).bit f i n = (v % 2 ^ f.width).testBit n := by rw [State.bit_eq, State.get_set_self]
@[simp] theorem getI_set_self : (s.set f i v).getI f i = sgn f.width (v % 2 ^ f.width) := by rw [State.getI_eq, State.get_set_self]

end

/-! ## The queues of a lane -/

/-- Of two values given to a key the later one stays. -/
@[simp] theorem put_put {α : Type} (m : NMap α) (k : Nat) (v w : α) : (m.put k v).put k w = m.put k w := by
  induction m with
  | nil => simp [NMap.put]
  | cons e m ih =>
    obtain ⟨j, x⟩ := e
    by_cases hj : j = k
    · simp [NMap.put, hj]
    · by_cases hk : k < j <;> simp [NMap.put, hj, hk, ih]

section
variable (s : State) (l : Nat) (q r : LaneQ)

@[simp] theorem lane_setLane_self : (s.setLane l q).lane l = q := NMap.get_put_self ..
@[simp] theorem setLane_setLane : (s.setLane l q).setLane l r = s.setLane l r := by simp [State.setLane]
@[simp] theorem lane_set (f : Field) (i v : Nat) : (s.set f i v).lane l = s.lane l := rfl
@[simp] theorem is_setLane (f : Field) (i n : Nat) : (s.setLane l q).is f i n = s.is f i n := rfl
@[simp] theorem bit_setLane (f : Field) (i n : Nat) : (s.setLane l q).bit f i n = s.bit f i n := rfl

end

/-! ## Lane memory -/

section
variable (s : State) (l sp w v : Nat)

@[simp] theorem get_setLword (f : Field) (i : Nat) : (s.setLword l sp w v).get f i = s.get f i := rfl
@[simp] theorem lword_setLword_self : (s.setLword l sp w v).lword l sp w = v := NMap.get_put_self ..
@[simp] theorem lword_set (f : Field) (i x : Nat) : (s.set f i x).lword l sp w = s.lword l sp w := rfl
@[simp] theorem lword_after (u : State) : (s.after u).lword l sp w = u.lword l sp w := rfl

end

/-! ## Reading a state that a condition decides -/

section
variable {c : Prop} [Decidable c] (s t : State) (f : Field) (i n : Nat)

@[simp] theorem get_ite : (if c then s else t).get f i = if c then s.get f i else t.get f i := apply_ite (State.get · f i) ..
@[simp] theorem on_ite : (if c then s else t).on f i = if c then s.on f i else t.on f i := apply_ite (State.on · f i) ..
@[simp] theorem is_ite : (if c then s else t).is f i n = if c then s.is f i n else t.is f i n := apply_ite (State.is · f i n) ..
@[simp] theorem bit_ite : (if c then s else t).bit f i n = if c then s.bit f i n else t.bit f i n := apply_ite (State.bit · f i n) ..
@[simp] theorem getI_ite : (if c then s else t).getI f i = if c then s.getI f i else t.getI f i := apply_ite (State.getI · f i) ..
@[simp] theorem out_ite : (if c then s else t).out = if c then s.out else t.out := apply_ite State.out ..
@[simp] theorem mem_ite : (if c then s else t).mem = if c then s.mem else t.mem := apply_ite State.mem ..

end

/-! ## Operations that leave a field alone -/

section
variable {f : Field} (s : State) (i : Nat)

@[simp] theorem get_raise (h : byRaise f.id = false) (n x : Nat) : (raise n x s).get f i = s.get f i := raise_get h n x s i
@[simp] theorem get_lower (h : byRaise f.id = false) (n x : Nat) : (lower n x s).get f i = s.get f i := lower_get h n x s i
@[simp] theorem get_pulse (h : byRaise f.id = false) (n x : Nat) : (pulse n x s).get f i = s.get f i := pulse_get h n x s i
@[simp] theorem get_level (h : byRaise f.id = false) (n x : Nat) (c : Bool) : (level n x c s).get f i = s.get f i := level_get h n x c s i
@[simp] theorem get_selectSource (h : byRaise f.id = false) : (selectSource s).get f i = s.get f i :=
  keep_selectSource (closed_get h i _) s rfl
@[simp] theorem get_pilotLoss (h : byRaise f.id = false) : (pilotLoss s).get f i = s.get f i := keep_pilotLoss (closed_get h i _) s rfl

end

/-! ## `Keeps` -/

section
variable {fs : List Field} {s t : State} {g : Field}

theorem Keeps.refl : Keeps fs s s := ⟨fun _ _ _ => rfl, rfl⟩
theorem Keeps.symm (h : Keeps fs s t) : Keeps fs t s := ⟨fun f i hf => (h.1 f i hf).symm, h.2.symm⟩
theorem Keeps.trans {u : State} (h : Keeps fs s t) (h' : Keeps fs t u) : Keeps fs s u :=
  ⟨fun f i hf => (h'.1 f i hf).trans (h.1 f i hf), h'.2.trans h.2⟩

/-- Every field of the one list is a field of the other. -/
def fieldsIn (gs fs : List Field) : Bool := gs.all fun g => fs.any fun f => f.id == g.id

/-- A longer list says less. -/
theorem Keeps.mono {gs : List Field} (h : Keeps gs s t) (hs : fieldsIn gs fs = true) : Keeps fs s t := by
  refine ⟨fun f i hf => h.1 f i fun g hg e => ?_, h.2⟩
  obtain ⟨x, hx, hxg⟩ := List.any_eq_true.1 (List.all_eq_true.1 hs g hg)
  exact hf x hx ((beq_iff_eq.1 hxg).trans e)

/-- What changes listed fields only makes no difference to `Keeps`. -/
theorem Keeps.iff {u : State} {gs : List Field} (h : Keeps gs t u) (hs : fieldsIn gs fs = true) : Keeps fs s u ↔ Keeps fs s t :=
  ⟨fun k => k.trans (h.mono hs).symm, fun k => k.trans (h.mono hs)⟩

theorem Keeps.get {f : Field} (h : Keeps fs s t) (i : Nat) (hf : ∀ g ∈ fs, g.id ≠ f.id) : t.get f i = s.get f i := h.1 f i hf
theorem Keeps.on {f : Field} (h : Keeps fs s t) (i : Nat) (hf : ∀ g ∈ fs, g.id ≠ f.id) : t.on f i = s.on f i := by
  rw [State.on_eq, h.get i hf, State.on_eq]
theorem Keeps.is {f : Field} (h : Keeps fs s t) (i n : Nat) (hf : ∀ g ∈ fs, g.id ≠ f.id) : t.is f i n = s.is f i n := by
  rw [State.is_eq, h.get i hf, State.is_eq]
theorem Keeps.getI {f : Field} (h : Keeps fs s t) (i : Nat) (hf : ∀ g ∈ fs, g.id ≠ f.id) : t.getI f i = s.getI f i := by
  rw [State.getI_eq, h.get i hf, State.getI_eq]

/-- A write of a field that the list names makes no difference to `Keeps`. -/
@[simp] theorem keeps_set (h : (fs.any fun f => f.id == g.id) = true) (i v : Nat) : Keeps fs s (t.set g i v) ↔ Keeps fs s t := by
  obtain ⟨x, hx, he⟩ := List.any_eq_true.1 h
  refine and_congr (forall_congr' fun f => forall_congr' fun j => imp_congr_right fun hf => ?_) Iff.rfl
  rw [State.get_set_id _ _ _ _ fun e => hf x hx ((beq_iff_eq.1 he).trans e)]

/-- What changes neither a register nor memory makes no difference to `Keeps`. -/
theorem keeps_congr {u : State} (hr : u.regs = t.regs) (hm : u.mem = t.mem) : Keeps fs s u ↔ Keeps fs s t := by
  simp only [Keeps, State.get, hr, hm]

@[simp] theorem keeps_after (u : State) : Keeps fs s (u.after t) ↔ Keeps fs s t := Iff.rfl
@[simp] theorem keeps_emit (o : Out) : Keeps fs s (t.emit o) ↔ Keeps fs s t := Iff.rfl
@[simp] theorem keeps_used : Keeps fs s t.used ↔ Keeps fs s t := Iff.rfl
@[simp] theorem keeps_setLane (l : Nat) (q : LaneQ) : Keeps fs s (t.setLane l q) ↔ Keeps fs s t := Iff.rfl
@[simp] theorem keeps_setLword (l sp w v : Nat) : Keeps fs s (t.setLword l sp w v) ↔ Keeps fs s t := Iff.rfl

end

end Sys2Proof.Machine
end

section
/-!
PROOFS. The angle timebase (spec/01): pilot samples, index signatures, re-qualification, comparators, commit groups, shadow registers.
-/

namespace Sys2Proof.Machine

set_option Elab.async false

/-! ## Pilot samples (R29, R34) -/

section
variable {f : Field} (s : State) (i : Nat)

/-- The two VALID flags are no fields but those. -/
theorem validField_ne (n : Nat) (h0 : ANG_SRC_VALID0.id ≠ f.id) (h1 : ANG_SRC_VALID1.id ≠ f.id) : (validField n).id ≠ f.id := by
  unfold validField; split <;> assumption

variable (hf : byRaise f.id = false) (h0 : ANG_SRC_VALID0.id ≠ f.id) (h1 : ANG_SRC_VALID1.id ≠ f.id) (hq : ANG_REQUAL.id ≠ f.id)
  (ha : ANG_OKADV.id ≠ f.id) (hx : ANG_OKIDX.id ≠ f.id)
include hf h0 h1 hq ha hx

/-- Validity set or cleared reaches its flag, the counts of re-qualification and what follows from source 16 + n. -/
theorem get_setValid (n : Nat) (v : Bool) : (setValid n v s).get f i = s.get f i := by
  have hv := validField_ne n h0 h1
  unfold setValid
  split
  · rfl
  split
  · simp [hf, hv, ha, hx]
  · dsimp only
    split <;> simp [hf, hv, hq]

theorem get_judgeSample (n : Nat) : (judgeSample n s).get f i = s.get f i := by
  unfold judgeSample declareInvalid
  rw [get_setValid _ _ hf h0 h1 hq ha hx]
  split
  · rw [get_pulse _ _ hf, get_set_ne _ _ _ _ hq, get_setValid _ _ hf h0 h1 hq ha hx]
  · rfl

end

/-- The first tick after a cold reset sets the stamp only. -/
theorem get_startTick {f : Field} (s : State) (i n : Nat) (h0 : ANG_STAMP_LO.id ≠ f.id) (h1 : ANG_STAMP_HI.id ≠ f.id)
    (hs : ANG_STARTED.id ≠ f.id) : (startTick n s).get f i = s.get f i := by
  unfold startTick
  split
  · rfl
  · rw [get_set_ne _ _ _ _ hs, get_setStamp_other _ _ _ h0 h1]

/-- What a sample records stays as the validity, the start tick, the speed and the source follow from it. -/
theorem get_pilotSample {f : Field} (i n phase amp : Nat) (clip sig rev : Bool) (rate : Nat) (proj : Int) (s : State)
    (hf : byRaise f.id = false)
    (hown : ∀ g ∈ [ANG_SRC_VALID0, ANG_SRC_VALID1, ANG_REQUAL, ANG_OKADV, ANG_OKIDX, ANG_STARTED, ANG_SEEN, ANG_RATE, ANG_SRC_DIR,
      ANG_PREVSTAMP, ANG_PREVNS, ANG_STAMP_LO, ANG_STAMP_HI], g.id ≠ f.id) :
    (pilotLoss (pilotSample n phase amp clip sig rev rate proj s)).get f i = (takeSample n phase amp clip sig proj s).get f i := by
  simp only [List.forall_mem_cons] at hown
  obtain ⟨h0, h1, hq, ha, hx, hst, hse, hra, hd, hp, hns, hlo, hhi, -⟩ := hown
  unfold pilotSample
  rw [get_pilotLoss _ _ hf, get_selectSource _ _ hf]
  split <;> simp [hp, hns, hra, hd, hse, get_startTick _ _ _ hlo hhi hst, get_judgeSample _ _ hf h0 h1 hq ha hx]

section
variable (n : Fin 2) (phase amp : Nat) (clip sig : Bool) (proj : Int) (s : State)

theorem takeSample_phase : (takeSample n phase amp clip sig proj s).get ANG_PHASE n = correctPhase n phase s % 2 ^ ANG_PHASE.width := by
  unfold takeSample
  fin_cases n <;> simp (disch := decide +kernel) [State.setI_eq]

theorem takeSample_sampled : (takeSample n phase amp clip sig proj s).get ANG_SAMPLED n = 1 := by
  unfold takeSample
  fin_cases n <;> simp (disch := decide +kernel) [State.setI_eq]

theorem takeSample_amp : (takeSample n phase amp clip sig proj s).get (if n.val = 0 then ANG_PLT_AMP_PLT0 else ANG_PLT_AMP_PLT1) 0 =
    amp % 2 ^ ANG_PLT_AMP_PLT0.width := by
  have hw : ANG_PLT_AMP_PLT1.width = ANG_PLT_AMP_PLT0.width := rfl
  unfold takeSample
  fin_cases n <;> simp (disch := decide +kernel) [State.setI_eq, hw]

theorem takeSample_ampok : (takeSample n phase amp clip sig proj s).get ANG_AMPOK n =
    ((sig || (decide (s.get ANG_PLT_CFG_AMP_NOM n * s.get ANG_AMP_LIM_LO 0 ≤ amp * 100) &&
      decide (amp * 100 ≤ s.get ANG_PLT_CFG_AMP_NOM n * s.get ANG_AMP_LIM_HI 0))) && !clip).toNat := by
  have hw (b : Bool) : b.toNat % 2 ^ ANG_AMPOK.width = b.toNat := by cases b <;> rfl
  unfold takeSample
  fin_cases n <;> simp (disch := decide +kernel) [State.setI_eq, hw]

end

/-- A corrected phase fits its field. -/
theorem correctPhase_lt (n phase : Nat) (s : State) : correctPhase n phase s < 2 ^ ANG_PHASE.width := by
  show (_ % (1024 : Int)).toNat < 1024
  omega

theorem exec_pilotSample_of {s : State} (h : angleAwake s) (n : Fin 2) (phase : BitVec 10) (amp : BitVec 12) (clip sig rev : Bool)
    (rate : Word) (proj : Int) : exec (.pilotSample n phase amp clip sig rev rate proj) s =
      .next (s.after (pilotLoss (pilotSample n phase.toNat amp.toNat clip sig rev rate.toNat proj s))) := by
  rw [exec_pilotSample, execPilotSample, onAngle_of h, done_next]

/-- Settles O8: what `takeSample` records stays through the rest of the sample. -/
theorem pilotSampleRecorded : Obligations.PilotSampleRecorded := by
  intro s n phase amp clip sig rev rate proj h
  have hw : amp.toNat % 2 ^ ANG_PLT_AMP_PLT0.width = amp.toNat := Nat.mod_eq_of_lt amp.isLt
  have hamp := takeSample_amp n phase.toNat amp.toNat clip sig proj s
  refine ⟨_, exec_pilotSample_of h .., ?_, ?_, fun hn => ?_, fun hn => ?_, ?_⟩ <;>
    rw [State.after_get, get_pilotSample _ _ _ _ _ _ _ _ _ _ (by decide +kernel) (by decide +kernel)]
  · rw [takeSample_phase, Nat.mod_eq_of_lt (correctPhase_lt ..)]
  · exact takeSample_sampled ..
  · simpa [hn, hw] using hamp
  · simpa [hn, hw] using hamp
  · exact takeSample_ampok ..

/-! ## Index signatures and re-qualification (R26, R27, R38) -/

theorem exec_indexSignature_of {s : State} (h : angleAwake s) (n : Fin 2) :
    exec (.indexSignature n) s = .next (s.after (pilotLoss (indexSignature n s))) := by
  rw [exec_indexSignature, execIndexSignature, onAngle_of h, done_next]

section
variable {f : Field} (s : State) (i n : Nat) (hf : byRaise f.id = false)
include hf

theorem get_updatePrecise : (updatePrecise s).get f i = s.get f i := keep_updatePrecise (closed_get hf i _) s rfl
theorem get_approach : (approach n s).get f i = s.get f i := keep_approach (closed_get hf i _) n s rfl
theorem get_loadTick : (loadTick n s).get f i = s.get f i := keep_loadTick (closed_get hf i _) n s rfl

end

/-- The trims are the only fields that follow the Lissajous figure. -/
theorem get_adaptTrims {f : Field} (s : State) (i n : Nat)
    (h : ∀ g ∈ [ANG_PLT_TRIM_SOFS, ANG_PLT_TRIM_COFS, ANG_PLT_TRIM_GAIN, ANG_PLT_TRIM_QUAD], g.id ≠ f.id) :
    (adaptTrims n s).get f i = s.get f i := by
  simp only [List.forall_mem_cons] at h
  obtain ⟨h1, h2, h3, h4, -⟩ := h
  simp [adaptTrims, h1, h2, h3, h4]

/-- A field that neither the trims nor the stamp's join reach reads as the signature sets it. -/
theorem get_indexSignature {f : Field} (s : State) (i n : Nat) (he : plotEnabled n s = true) (hf : byRaise f.id = false)
    (h : ∀ g ∈ [ANG_PLT_TRIM_SOFS, ANG_PLT_TRIM_COFS, ANG_PLT_TRIM_GAIN, ANG_PLT_TRIM_QUAD, ANG_SRC_REF], g.id ≠ f.id) :
    (indexSignature n s).get f i = (s.setMany n [(ANG_POS, 0), (ANG_PROJ, 0), (ANG_HASREF, 1), (ANG_OKIDX, 1)]).get f i := by
  have ht := get_adaptTrims (f := f) (s.setMany n [(ANG_POS, 0), (ANG_PROJ, 0), (ANG_HASREF, 1), (ANG_OKIDX, 1)]) i n
    fun g hg => h g (by simp only [List.mem_cons] at hg ⊢; tauto)
  have hs : ANG_SRC_REF.id ≠ f.id := h _ (by simp)
  have ho : ANG_SRCOFS.id ≠ f.id := fun e => by rw [← e] at hf; exact absurd hf (by decide +kernel)
  unfold indexSignature
  simp only [he, Bool.not_true, Bool.false_eq_true, if_false]
  split
  · rw [get_updatePrecise _ _ hf, get_set_ne _ _ _ _ hs, get_loadTick _ _ _ hf, ht]
  split
  · rw [get_updatePrecise _ _ hf, get_approach _ _ _ hf, get_set_ne _ _ _ _ ho, ht]
  · exact ht

/-- After an index signature of an enabled sensor the stamp is absolute: REF is set now or was before. -/
theorem indexSignature_ref (s : State) (n : Nat) (he : plotEnabled n s = true) : (indexSignature n s).on ANG_SRC_REF 0 = true := by
  unfold indexSignature
  simp only [he, Bool.not_true, Bool.false_eq_true, if_false]
  split
  · rw [State.on_eq, get_updatePrecise _ _ (by decide +kernel), State.get_set_self]; rfl
  next h =>
    rw [Bool.not_eq_true', Bool.not_eq_false] at h
    split
    · rw [State.on_eq, get_updatePrecise _ _ (by decide +kernel), get_approach _ _ _ (by decide +kernel),
        get_set_ne _ _ _ _ (by decide)]
      exact h
    · exact h

/-- Settles O10: the fields that a signature sets stay as it loads the stamp; the condition of R38 is the one the re-qualification tests. -/
theorem indexAndRequalification : Obligations.IndexAndRequalification := by
  refine ⟨fun s n ha he => ⟨_, exec_indexSignature_of ha n, ?_, ?_, ?_⟩, fun s n ha hq hv hx hok => ?_⟩
  · rw [State.after_get, get_pilotLoss _ _ (by decide +kernel), get_indexSignature _ _ _ he (by decide +kernel) (by decide +kernel)]
    simp (disch := decide +kernel)
  · rw [State.after_get, get_pilotLoss _ _ (by decide +kernel), get_indexSignature _ _ _ he (by decide +kernel) (by decide +kernel)]
    simp (disch := decide +kernel)
  · rw [State.on_eq, State.after_get, get_pilotLoss _ _ (by decide +kernel)]
    exact indexSignature_ref s n he
  · rw [exec_sensorRequalify, execSensorRequalify, onAngle_of ha, done_next]
    simp [sensorRequalify, hq, hv, hx, hok]

/-! ## Comparators (R46, R47) -/

/-- An action that is an interrupt or the event line only adds its output. -/
theorem cmpAction_emit {n : Nat} {s : State} (h : s.get ANG_CMP_ACTION n = 0 ∨ s.get ANG_CMP_ACTION n = 3) :
    cmpAction n s = s.emit (if s.get ANG_CMP_ACTION n = 0 then .coreIrq none (some n) else .eventLine) := by
  unfold cmpAction
  rcases h with h | h <;> simp [h]

/-- The comparator as it stands when its action is taken. -/
def firedOnce (n : Nat) (s : State) : State :=
  (s.bump ANG_CMP_COUNT n).setMany n [(ANG_CMP_FIRED, 1), (ANG_CMP_LATE, Nat.max (s.get ANG_CMP_LATE n) (s.get ANG_CMPLATE n)), (ANG_CMPLATE, 0)]

theorem comparatorFire_once {n : Nat} {s : State} (hd : cmpDue n s = true) (hp : s.on ANG_CMP_PERIODIC n = false) :
    comparatorFire n s = cmpAction n ((firedOnce n s).set ANG_CMP_EN n 0) := by
  have h : (firedOnce n s).on ANG_CMP_PERIODIC n = false := by simpa (disch := decide +kernel) [firedOnce, State.bump_eq] using hp
  unfold comparatorFire
  rw [if_neg (by simp [hd])]
  dsimp only
  rw [← firedOnce, if_neg (by simp [h])]

theorem comparatorFire_periodic {n : Nat} {s : State} (hd : cmpDue n s = true) (hp : s.on ANG_CMP_PERIODIC n = true)
    (hi : s.on ANG_CMP_INTERVAL n = true) : ∃ v, comparatorFire n s =
      cmpAction n (((firedOnce n s).add ANG_CMP_TARGET n (s.get ANG_CMP_INTERVAL n)).set ANG_CMPLATE n v) := by
  have h : (firedOnce n s).on ANG_CMP_PERIODIC n = true := by simpa (disch := decide +kernel) [firedOnce, State.bump_eq] using hp
  have h' : (firedOnce n s).on ANG_CMP_INTERVAL n = true := by simpa (disch := decide +kernel) [firedOnce, State.bump_eq] using hi
  have h'' : (firedOnce n s).get ANG_CMP_INTERVAL n = s.get ANG_CMP_INTERVAL n := by simp (disch := decide +kernel) [firedOnce, State.bump_eq]
  rw [← h'']
  unfold comparatorFire
  rw [if_neg (by simp [hd])]
  dsimp only
  rw [← firedOnce, if_pos (by simp [h, h'])]
  exact ⟨_, rfl⟩

theorem exec_comparatorFire_of {s : State} (h : angleAwake s) (n : Fin 256) :
    exec (.comparatorFire n) s = .next (s.after (comparatorFire n s)) := by
  rw [exec_comparatorFire, execComparatorFire, onAngle_of h, done_next]

/-- Settles O12: one shot or periodic, the comparator is read as its firing and its action leave it. -/
theorem comparatorFires : Obligations.ComparatorFires := by
  refine ⟨fun s n ha he hd ht hp hact => ?_, fun s n ha he hd ht hp hi hact => ?_, fun s n hd => ?_⟩
  · have hdue : cmpDue n s = true := by simp [cmpDue, he, hd, ht]
    have hsame : ((firedOnce n s).set ANG_CMP_EN n 0).get ANG_CMP_ACTION n = s.get ANG_CMP_ACTION n := by
      simp (disch := decide +kernel) [firedOnce, State.bump_eq]
    refine ⟨_, exec_comparatorFire_of ha n, ?_⟩
    rw [comparatorFire_once hdue hp, cmpAction_emit (by rwa [hsame]), hsame]
    simp (disch := decide +kernel) [firedOnce, State.bump_eq]
  · have hdue : cmpDue n s = true := by simp [cmpDue, he, hd, ht]
    obtain ⟨v, hv⟩ := comparatorFire_periodic hdue hp hi
    have hsame : (((firedOnce n s).add ANG_CMP_TARGET n (s.get ANG_CMP_INTERVAL n)).set ANG_CMPLATE n v).get ANG_CMP_ACTION n =
        s.get ANG_CMP_ACTION n := by
      simp (disch := decide +kernel) [firedOnce, State.bump_eq, State.add_eq]
    refine ⟨_, exec_comparatorFire_of ha n, ?_⟩
    rw [hv, cmpAction_emit (by rwa [hsame]), hsame]
    simp (disch := decide +kernel) [firedOnce, State.bump_eq, State.add_eq]
  · rw [exec_comparatorFire, execComparatorFire, onAngle]
    simp [comparatorFire, hd, done_self]

/-! ## Commit groups (R53, R60–R64, R134) -/

section
variable {s t : State} {b : ShBlk} {i : Fin 48} {g : Fin 8} (h : reaches (blkNum b) s = true)
include h

theorem exec_groupCommit_of {c : Bool} (ht : groupCommit b i g c s = t) :
    exec (.groupCommit b i g c) s = .next (s.after (settleGroup s t)) := by
  rw [exec_groupCommit, execGroupCommit]
  exact done_onBlock h (by rw [ht])

theorem exec_groupCancel_of (ht : cancelGroup b i g s = t) : exec (.groupCancel b i g) s = .next (s.after (settleGroup s t)) := by
  rw [exec_groupCancel, execGroupCancel]
  exact done_onBlock h (by rw [ht])

theorem exec_decisionPoint_of (ht : decisionPoint b i g s = t) : exec (.decisionPoint b i g) s = .next (s.after (settleGroup s t)) := by
  rw [exec_decisionPoint, execDecisionPoint]
  exact done_onBlock h (by rw [ht])

theorem exec_boundarySwap_of (ht : boundarySwap b i g s = t) : exec (.boundarySwap b i g) s = .next (s.after (settleGroup s t)) := by
  rw [exec_boundarySwap, execBoundarySwap]
  exact done_onBlock h (by rw [ht])

end

/-- Settles O13: each command of a group is its operation on the state, by the case of the group's flags and of the boundary. -/
theorem commitGroupSteps : Obligations.CommitGroupSteps := by
  intro s b i g h
  refine ⟨fun hex hp hat => exec_groupCommit_of h ?_, fun hd => exec_groupCancel_of h ?_,
    fun hp hd hb hlan hl => exec_decisionPoint_of h ?_, fun hp hd hb hl => exec_decisionPoint_of h ?_,
    fun hb => exec_decisionPoint_of h ?_, fun hb => exec_boundarySwap_of h ?_,
    fun hp hd hb hlan hl => exec_boundarySwap_of h ?_, fun hp hd hb hl => exec_boundarySwap_of h ?_⟩
  · simp [groupCommit, commitGroup, hex, hp, hat]
  · simp [cancelGroup, hd]
  · rw [decisionPoint, if_neg (by simp [hp, hd, hb]), if_pos ⟨hlan, hl⟩]
  · simp [decisionPoint, hp, hd, hb, hl, rejectGroup]
  · simp [decisionPoint, hb]
  · simp [boundarySwap, hb]
  · rw [boundarySwap, if_neg (by simp [hp, hd, hb]), if_pos ⟨hlan, hl⟩]
  · simp [boundarySwap, hp, hd, hb, hl, swapGroup]

/-! ## Shadow registers (R58, R62, R63) -/

/-- A list of fields written one after another: where no two of them share a number but equal ones, each reads what it was given. -/
theorem get_foldl_set (v : Field × Nat → Nat) (s : State) (l : List (Field × Nat)) {e : Field × Nat}
    (hid : ∀ x ∈ l, x.1.id = e.1.id → x.1 = e.1) (he : e ∈ l) :
    (l.foldl (fun t x => t.set x.1 x.2 (v x)) s).get e.1 e.2 = v e % 2 ^ e.1.width := by
  induction l using List.reverseRecOn with
  | nil => simp at he
  | append_singleton l x ih =>
    rw [List.foldl_append, List.foldl_cons, List.foldl_nil]
    by_cases hx : x.1.id = e.1.id ∧ x.2 = e.2
    · have hxe : x = e := Prod.ext (hid x (by simp) hx.1) hx.2
      rw [hxe, State.get_set_self]
    · have hel : e ∈ l := by
        rcases List.mem_append.1 he with he | he
        · exact he
        · exact absurd (by rw [List.mem_singleton.1 he]; exact ⟨rfl, rfl⟩) hx
      have hne : ∀ t : State, (t.set x.1 x.2 (v x)).get e.1 e.2 = t.get e.1 e.2 := fun t => RegFile.get_set_ne _ _ hx
      rw [hne, ih (fun y hy => hid y (List.mem_append_left _ hy)) hel]

/-- The fields of a group's registers differ in their numbers. -/
theorem group_ids_nodup (b : ShBlk) (g : Nat) : (((groupRegs b g).flatMap RegDesc.fields).map Field.id).Nodup := by
  by_cases hg : g < 8
  · have h : ∀ g : Fin 8, (((groupRegs b g).flatMap RegDesc.fields).map Field.id).Nodup := by cases b <;> decide +kernel
    exact h ⟨g, hg⟩
  · obtain ⟨k, rfl⟩ := Nat.exists_eq_add_of_le' (Nat.le_of_not_lt hg)
    have h : groupRegs b (k + 8) = [] := by cases b <;> rfl
    simp [h]

theorem groupFields_field_mem {b : ShBlk} {i g : Nat} {e : Field × Nat} (h : e ∈ groupFields b i g) :
    e.1 ∈ (groupRegs b g).flatMap RegDesc.fields := by
  simp only [groupFields, List.mem_flatMap, List.mem_filter, List.mem_map] at h ⊢
  obtain ⟨r, hr, f, ⟨hf, -⟩, j, -, rfl⟩ := h
  exact ⟨r, hr, hf⟩

/-- A swap brings each shadow field of the group into the active copy. -/
theorem get_copyGroup (b : ShBlk) (i g : Nat) (s : State) {e : Field × Nat} (he : e ∈ groupFields b i g) :
    (copyGroup b i g s).get e.1 e.2 = s.getSh e.1 e.2 % 2 ^ e.1.width :=
  get_foldl_set (fun e => s.getSh e.1 e.2) s _ (fun _ hx hid =>
    List.inj_on_of_nodup_map (group_ids_nodup b g) (groupFields_field_mem hx) (groupFields_field_mem he) hid) he

theorem exec_shadowWrite_of {s t : State} {a : Addr} {v : Word} (hr : inReset s = false) (ht : shadowWrite a.toNat v.toNat s = t) :
    exec (.shadowWrite a v) s = .next (s.after t) := by
  rw [exec_shadowWrite, execShadowWrite, hr, ht]
  exact done_next ..

/-- A write that names word `w` of instance `j` of a shadowed register, at either of its addresses. -/
theorem shadowWrite_of {a v off j w : Nat} {r : RegDesc} {s : State} (ho : regOffset a = some off) (hp : poweredOff (off / 65536) s = false)
    (hf : findReg off = .shadow r j w ∨ (findReg off = .active r j w ∧ r.shadowed = true)) :
    shadowWrite a v s = writeShadow r j w v s := by
  unfold shadowWrite
  rcases hf with hf | ⟨hf, hs⟩ <;> simp_all

section
variable {r : RegDesc} {j w v g : Nat} {b : ShBlk} {s : State} (hb : shBlk r.blk = some b) (hg : groupOf b r = some g)
include hb hg

theorem writeShadow_pending (h : s.bit (pendF b) (instanceOf b r j) g = true) :
    writeShadow r j w v s = s.setBit (dropF b) (instanceOf b r j) g true := by
  simp [writeShadow, hb, hg, h]

theorem writeShadow_free (h : s.bit (pendF b) (instanceOf b r j) g = false) : writeShadow r j w v s =
    (r.fields.filter fun f => f.acc.shadowed && f.lo / 32 == w).foldl (fun t f => t.setSh f j (bits v (f.lo - 32 * w) f.width)) s := by
  simp [writeShadow, hb, hg, h, List.foldl_filter]

end

theorem findReg_disLim : findReg 0x10030 = .active reg_ANG_DIS_LIM 0 0 := rfl
theorem findReg_disLim_shadow : findReg 0x18030 = .shadow reg_ANG_DIS_LIM 0 0 := rfl

section
variable {s : State} {a : Addr} {v : Word} {off : Nat} {r : RegDesc} {j w : Nat} {b : ShBlk} {g : Nat} (hr : inReset s = false)
  (ho : regOffset a.toNat = some off) (hp : poweredOff (off / 65536) s = false)
  (hf : findReg off = .shadow r j w ∨ (findReg off = .active r j w ∧ r.shadowed = true)) (hb : shBlk r.blk = some b)
  (hg : groupOf b r = some g)
include hr ho hp hf hb hg

theorem exec_shadowWrite_pending (h : s.bit (pendF b) (instanceOf b r j) g = true) :
    exec (.shadowWrite a v) s = .next (s.after (s.setBit (dropF b) (instanceOf b r j) g true)) :=
  exec_shadowWrite_of hr ((shadowWrite_of ho hp hf).trans (writeShadow_pending hb hg h))

theorem exec_shadowWrite_free (h : s.bit (pendF b) (instanceOf b r j) g = false) :
    exec (.shadowWrite a v) s = .next (s.after ((r.fields.filter fun f => f.acc.shadowed && f.lo / 32 == w).foldl
      (fun t f => t.setSh f j (bits v.toNat (f.lo - 32 * w) f.width)) s)) :=
  exec_shadowWrite_of hr ((shadowWrite_of ho hp hf).trans (writeShadow_free hb hg h))

end

section
variable {s : State} {v : Word} (hr : reaches 1 s = true)
include hr

theorem exec_shadowWrite_disLim {a : Addr} (ha : a = 0x20010030 ∨ a = 0x20018030) (h : s.bit ANG_CMT_STS_PENDING 0 0 = false) :
    exec (.shadowWrite a v) s = .next (s.after (s.setSh ANG_DIS_LIM 0 (v.toNat % 2 ^ 16))) := by
  have hv : bits v.toNat 0 16 = v.toNat % 2 ^ 16 := by simp [bits]
  rw [← hv]
  rcases ha with rfl | rfl
  · exact exec_shadowWrite_free (reaches_inReset hr) (off := 0x10030) rfl (reaches_powered hr) (.inr ⟨findReg_disLim, rfl⟩) rfl rfl h
  · exact exec_shadowWrite_free (reaches_inReset hr) (off := 0x18030) rfl (reaches_powered hr) (.inl findReg_disLim_shadow) rfl rfl h

end

/-- Settles O14: a swap is a list of writes of distinct fields; a write is decided by the register that its address names and by PENDING. -/
theorem shadowWrites : Obligations.ShadowWrites := by
  refine ⟨fun b i g s e he => get_copyGroup b i g s he, fun s v hr h => ?_, fun s v hr => ⟨?_, fun h => ?_⟩,
    fun s a v off r j w b g hr ho hp hf hb hg => ⟨?_, ?_⟩, fun s a v h => ?_⟩
  · have hw : (s.setSh ANG_DIS_LIM 0 (v.toNat % 2 ^ 16)).getSh ANG_DIS_LIM 0 = v.toNat % 2 ^ 16 :=
      (State.getSh_setSh_self ..).trans (Nat.mod_mod _ _)
    exact ⟨⟨_, exec_shadowWrite_disLim hr (.inl rfl) h, hw, rfl⟩, ⟨_, exec_shadowWrite_disLim hr (.inr rfl) h, hw, rfl⟩⟩
  · exact exec_shadowWrite_disLim hr (.inl rfl)
  · exact exec_shadowWrite_pending (reaches_inReset hr) (off := 0x10030) rfl (reaches_powered hr) (.inr ⟨findReg_disLim, rfl⟩) rfl rfl h
  · exact exec_shadowWrite_pending hr ho hp hf hb hg
  · exact exec_shadowWrite_free hr ho hp hf hb hg
  · rw [exec_shadowWrite, execShadowWrite]
    rcases h with h | h | ⟨off, ho, h⟩
    · rw [if_pos h, done_self]
    · simp [shadowWrite, h, done_self]
    · have hs : shadowWrite a.toNat v.toNat s = s := by
        rcases h with h | h | ⟨r, j, w, h, hs⟩ <;> simp_all [shadowWrite]
      rw [hs, ite_self, done_self]
end Sys2Proof.Machine
end

section
/-!
PROOFS. The channel lanes (spec/02): states, clock and timing, defects and windows.
-/

namespace Sys2Proof.Machine

set_option Elab.async false

/-! ## Lane states (R68, R71) -/

/-- Settles O15: a request that is no request of ACTIVE starts the transition, whose end takes over what has been asked for. -/
theorem laneStateChanges : Obligations.LaneStateChanges := by
  refine fun s l hr => ⟨fun req hq hp h3 hne => ?_, fun oos => ?_, fun h3 hc hw hn hto hdst => ?_⟩
  · rw [exec_laneStateRequest, execLaneStateRequest]
    refine done_onMedia hr ?_
    have hne3 : req.val ≠ 3 := by omega
    have hne2 : req.val ≠ 2 := by omega
    simp (disch := decide +kernel) [laneRequest, laneStateRequest, startTrans, hp, h3, hne, hne3, hne2]
  · rw [exec_laneOosWrite, execLaneOosWrite]
    exact done_onMedia hr rfl
  · rw [exec_laneTransitionDone, execLaneTransitionDone]
    refine done_onMedia hr ?_
    have h0 : s.get LAN_TO l ≠ 0 := by omega
    have hreq : s.is LAN_CTL_REQ l (s.get LAN_TO l) = true := by simp [State.is_eq, hto]
    simp (disch := decide +kernel) [laneTransitionDone, h3, hc, hw, hn, h0, hreq]

/-! ## Clock (R72, R74, R669) -/

/-- FRANGE that stands as the ratio and the stamp's rate give it stays. -/
theorem updateFrange_eq {s : State} {l : Nat} (hf : s.on LAN_STS_FRANGE l = outOfRange (s.get LAN_ZRATIO l) (stampRate s)) :
    updateFrange l s = s := by simp [updateFrange, setFrange, hf]

section
variable {s : State} {l : Nat} {err : Int} (hc : s.is LAN_STS_STATE l 0 = false)
  (hf : s.on LAN_STS_FRANGE l = outOfRange (s.get LAN_ZRATIO l) (stampRate s))
include hc hf

theorem ringCycleEdge_small (he : err.natAbs ≤ 16) :
    ringCycleEdge l err s = s.set LAN_LOCKN l (Nat.min 16 (s.get LAN_LOCKN l + 1)) := by
  simp [ringCycleEdge, laneClocked, hc, updateFrange_eq hf, he, show ¬ 64 < err.natAbs by omega]

theorem ringCycleEdge_middle (h1 : 16 < err.natAbs) (h2 : err.natAbs ≤ 64) : ringCycleEdge l err s = s.set LAN_LOCKN l 0 := by
  simp [ringCycleEdge, laneClocked, hc, updateFrange_eq hf, show ¬ err.natAbs ≤ 16 by omega, show ¬ 64 < err.natAbs by omega]

theorem ringCycleEdge_large (h : 64 < err.natAbs) :
    ringCycleEdge l err s = recheckWrite l ((s.set LAN_LOCKN l 0).set LAN_STS_LOCK l 0) := by
  simp [ringCycleEdge, laneClocked, hc, updateFrange_eq hf, show ¬ err.natAbs ≤ 16 by omega, h]

end

theorem exec_ringCycleEdge_of {s t : State} {l : Fin 48} {err : Int} (hr : reaches 5 s = true) (h : ringCycleEdge l err s = t) :
    exec (.ringCycleEdge l err) s = .next (s.after t) := by
  rw [exec_ringCycleEdge, execRingCycleEdge]
  exact done_onBlock hr h

theorem exec_ringEdgeTimeout_of {s t : State} {l : Fin 48} (hr : reaches 5 s = true) (h : ringEdgeTimeout l s = t) :
    exec (.ringEdgeTimeout l) s = .next (s.after t) := by
  rw [exec_ringEdgeTimeout, execRingEdgeTimeout]
  exact done_onBlock hr h

/-- Whether the synthesiser runs does not depend on the lock, or on a write that is truncated. -/
theorem laneClocked_unlock (l : Nat) (s : State) :
    laneClocked l (recheckWrite l ((s.set LAN_STS_LOCK l 0).set LAN_LOCKN l 0)) = laneClocked l s := by
  have h (t : State) : (recheckWrite l t).get LAN_STS_STATE l = t.get LAN_STS_STATE l :=
    keep_recheckWrite (closed_get (by decide +kernel) l _) l t rfl
  rw [laneClocked, State.is_eq, h]
  simp (disch := decide +kernel) [laneClocked, State.is_eq]

/-! ## The data loops and the phase trim (R77, R78, R80) -/

theorem noteFlag_keeps (l : Nat) (s : State) : Keeps [LAN_IVDEF] s (noteFlag l s) := by
  unfold noteFlag
  split <;> simp (disch := decide +kernel) [Keeps.refl]

section
variable {fs : List Field} {s t : State} {l : Nat}

theorem keeps_moveLoop {f : Field} (hf : (fs.any fun g => g.id == f.id) = true) (frozen : Bool) (lo : Int) (n : Nat) :
    Keeps fs s (moveLoop f l frozen lo n t) ↔ Keeps fs s t := by
  unfold moveLoop
  split <;> simp [State.setI_eq, hf]

theorem keeps_adaptTap (x : List Int) (u : State) (i : Nat) : Keeps fs s (adaptTap l x u i t) ↔ Keeps fs s t := by
  unfold adaptTap
  dsimp only
  split
  · rfl
  · split <;> simp

end

/-- A block of samples moves the three loops and the taps. -/
theorem adaptLane_keeps (l : Nat) (x : List Int) (s : State) :
    Keeps [LAN_GAINV_GAIN, LAN_GAINV_OFS, LAN_GAINV_ASYM] s (adaptLane l x s) := by
  have hgain (y : List Int) : Keeps [LAN_GAINV_GAIN, LAN_GAINV_OFS, LAN_GAINV_ASYM] s (moveGain l y s) := by
    unfold moveGain
    dsimp only
    split
    · exact (keeps_moveLoop (by decide +kernel) ..).2 Keeps.refl
    split
    · exact (keeps_moveLoop (by decide +kernel) ..).2 Keeps.refl
    · exact Keeps.refl
  unfold adaptLane
  split
  · exact Keeps.refl
  dsimp only
  have hloops := (keeps_moveLoop (fs := [LAN_GAINV_GAIN, LAN_GAINV_OFS, LAN_GAINV_ASYM]) (f := LAN_GAINV_ASYM) (l := l)
    (by decide +kernel) (s.on LAN_ASYM_FREEZE l) (-127) 254).2 ((keeps_moveLoop (l := l) (f := LAN_GAINV_OFS) (by decide +kernel)
      (s.on LAN_OFS_FREEZE l) (-127) 254).2 (hgain ((x.map adc).drop 23)))
  split
  · exact forBelow_keeps _ _ _ _ (fun i t ht => (keeps_adaptTap ..).2 ht) hloops
  · exact hloops

/-- What a trim update reads stays through the block's other loops. -/
theorem trimInputs_keeps (l : Nat) (x : List Int) (s : State) :
    Keeps [LAN_IVDEF, LAN_GAINV_GAIN, LAN_GAINV_OFS, LAN_GAINV_ASYM] s (adaptLane l x (noteFlag l s)) :=
  ((noteFlag_keeps l s).mono (by decide +kernel)).trans ((adaptLane_keeps l x _).mono (by decide +kernel))

theorem trimRaw_congr {s t : State} (l : Nat) (te : Int) (hi : t.getI LAN_TRIMI l = s.getI LAN_TRIMI l)
    (hki : t.get LAN_PTRIM_KI l = s.get LAN_PTRIM_KI l) (hkp : t.get LAN_PTRIM_KP l = s.get LAN_PTRIM_KP l) :
    trimRaw l te t = trimRaw l te s := by simp only [trimRaw, trimIntegral, hi, hki, hkp]

/-- A value within the clamp is the output, and is not at the clamp. -/
theorem clampI_of_lt {c : Nat} {x : Int} (h : x.natAbs < c) : clampI (-c) c x = x := by
  unfold clampI; split <;> [omega; (split <;> [omega; rfl])]

/-- A trim update within the clamp. -/
theorem trimUpdate_within {l : Nat} {te : Int} {s : State} (h : (trimRaw l te s).natAbs < s.get LAN_PTRIM_CLAMP l) :
    trimUpdate l te s = ((((((s.setI LAN_TRIMI l (trimIntegral l te s)).setI LAN_TRIMV_TRIM l (trimRaw l te s)).set LAN_TRIMN l 0).addSat
      LAN_BLOCKS l 1)).set LAN_TRIMV_AT_CLAMP l 0) := by
  have hne : ((trimRaw l te s).natAbs == s.get LAN_PTRIM_CLAMP l) = false := beq_eq_false_iff_ne.2 h.ne
  simp [trimUpdate, clampI_of_lt h, hne]

theorem exec_phaseTrimUpdate_of {s : State} {l : Fin 48} {te : Int} {x : List Int} (hr : reaches 5 s = true) :
    exec (.phaseTrimUpdate ⟨l, x⟩ te) s = .next (s.after (phaseTrimUpdate l te x s)) := by
  rw [exec_phaseTrimUpdate, execPhaseTrimUpdate]
  exact done_onBlock hr rfl

/-! ## The timing table (R80) -/

theorem exec_rttLearn_of {s t : State} {a : Fin 4} {p : Fin 12} {w : Fin 512} (hr : reaches 5 s = true)
    (h : rttLearn (headAt a p) w s = t) : exec (.rttLearn a p w) s = .next (s.after t) := by
  rw [exec_rttLearn, execRttLearn]
  exact done_onBlock hr h

/-- Settles O16: each command is its operation on the lane; a block's other loops leave what the trim update reads. -/
theorem laneTiming : Obligations.LaneTiming := by
  rintro s a p l rfl hr
  refine ⟨fun err hc hf => ⟨fun he => ?_, fun h1 h2 => ?_, fun he => ?_⟩, fun hc hl => ?_, fun hc => ?_, fun hc => ?_,
    fun te x hcur hh hlt hcl => ?_, fun te x hcur hh => ?_, fun w he hl ha hcur hflag => ?_, fun w he => ?_⟩
  · exact exec_ringCycleEdge_of hr (ringCycleEdge_small hc hf he)
  · exact exec_ringCycleEdge_of hr (ringCycleEdge_middle hc hf h1 h2)
  · exact exec_ringCycleEdge_of hr (ringCycleEdge_large hc hf he)
  · rw [exec_synthLock, execSynthLock]
    exact done_onBlock hr (by simp [synthLock, laneClocked, hc, hl])
  · exact exec_ringEdgeTimeout_of hr (by simp [ringEdgeTimeout, laneClocked_unlock]; simp [laneClocked, hc])
  · exact exec_ringEdgeTimeout_of hr (by simp [ringEdgeTimeout, laneClocked_unlock]; simp [laneClocked, hc])
  · have hk := trimInputs_keeps (headAt a p) x s
    have hraw := trimRaw_congr (headAt a p) te (hk.getI (f := LAN_TRIMI) (headAt a p) (by decide +kernel))
      (hk.get (f := LAN_PTRIM_KI) (headAt a p) (by decide +kernel)) (hk.get (f := LAN_PTRIM_KP) (headAt a p) (by decide +kernel))
    have hcur' : ((s.lane (headAt a p)).cur.isNone) = false := by rwa [Option.isNone_eq_false_iff]
    refine ⟨_, exec_phaseTrimUpdate_of hr, ?_⟩
    rw [phaseTrimUpdate, if_neg (by simp [hcur'])]
    dsimp only
    rw [if_neg (by simp [hh]), trimUpdate_within (by rwa [hraw, hk.get _ (by decide +kernel)]), hraw]
    refine ⟨?_, ?_, ?_, ?_⟩
    · simp (disch := decide +kernel) [sumTrim, State.setI_eq, State.bump_eq, State.addSat_eq]
    · simp (disch := decide +kernel) [sumTrim, State.setI_eq, State.bump_eq, State.addSat_eq]
    · simp (disch := decide +kernel) [sumTrim, State.setI_eq, State.bump_eq, State.addSat_eq]
    · simp (disch := decide +kernel) [sumTrim, State.setI_eq, State.bump_eq, State.addSat_eq, hk.mono]
  · have hk := trimInputs_keeps (headAt a p) x s
    have hcur' : ((s.lane (headAt a p)).cur.isNone) = false := by rwa [Option.isNone_eq_false_iff]
    refine ⟨_, exec_phaseTrimUpdate_of hr, ?_⟩
    rw [phaseTrimUpdate, if_neg (by simp [hcur'])]
    dsimp only
    rw [if_pos hh]
    simp (disch := decide +kernel) [sumTrim, State.setI_eq, State.bump_eq, State.addSat_eq, hk.mono]
  · refine ⟨_, exec_rttLearn_of hr rfl, ?_⟩
    simp (disch := decide +kernel) [rttLearn, he, hl, ha, hcur, hflag, newInterval, State.setI_eq, Keeps.refl]
  · rw [exec_rttLearn, execRttLearn]
    exact done_onBlock_self (by simp [rttLearn, he])

/-! ## Defect flags (R89–R91) -/

section
variable (s : State) (l : Nat) (ta : Bool) (n : Nat) (f : Field) (i : Nat) {fs : List Field} (t : State)

@[simp] theorem get_openSpan : (openSpan l ta n s).get f i = s.get f i := rfl
@[simp] theorem get_closeSpan : (closeSpan l ta s).get f i = s.get f i := rfl
@[simp] theorem keeps_openSpan : Keeps fs s (openSpan l ta n t) ↔ Keeps fs s t := Iff.rfl
@[simp] theorem keeps_closeSpan : Keeps fs s (closeSpan l ta t) ↔ Keeps fs s t := Iff.rfl

end

section
variable {s : State} {l : Fin 48} {x : List Int} (hr : reaches 5 s = true)
include hr

theorem exec_dropoutFlag_of : exec (.dropoutFlag ⟨l, x⟩) s = .next (s.after (dropoutFlag l x s)) := by
  rw [exec_dropoutFlag, execDropoutFlag]
  exact done_onBlock hr rfl

theorem exec_asperityFlag_of : exec (.asperityFlag ⟨l, x⟩) s = .next (s.after (asperityFlag l x s)) := by
  rw [exec_asperityFlag, execAsperityFlag]
  exact done_onBlock hr rfl

theorem exec_defectFlagRelease_of (ta : Bool) : exec (.defectFlagRelease ⟨l, x⟩ ta) s = .next (s.after (defectRelease l ta x s)) := by
  rw [exec_defectFlagRelease, execDefectFlagRelease]
  exact done_onBlock hr rfl

theorem exec_wedgeWindow_of {opens : Bool} {t : State} (h : wedgeWindow l opens s = t) :
    exec (.wedgeWindow l opens) s = .next (s.after t) := by
  rw [exec_wedgeWindow, execWedgeWindow]
  exact done_onBlock hr h

end

/-- Settles O17: the detectors and the windows by the cases of their conditions. -/
theorem laneDefects : Obligations.LaneDefects := by
  intro s l hr
  refine ⟨fun x he hf hc hm => ⟨_, exec_dropoutFlag_of hr, ?_⟩, fun x hm => ?_, fun x he hf hc hm => ⟨_, exec_asperityFlag_of hr, ?_⟩,
    fun x hm => ?_, fun x hf hm hn => ⟨_, exec_defectFlagRelease_of hr false, ?_⟩,
    fun x hf hm hn => ⟨_, exec_defectFlagRelease_of hr true, ?_⟩, fun ta x hm => ?_, fun hw hm hg => exec_wedgeWindow_of hr ?_,
    fun hw hm hs => exec_wedgeWindow_of hr ?_, fun hw hm hs => exec_wedgeWindow_of hr ?_, fun hm => ?_, fun hm => ?_⟩
  · simp (disch := decide +kernel) [dropoutFlag, he, hf, hm, laneClocked, hc, updateDefect, State.bump_eq, Keeps.refl]
  · rw [exec_dropoutFlag, execDropoutFlag]
    exact done_onBlock_self (by simp [dropoutFlag, hm])
  · simp (disch := decide +kernel) [asperityFlag, he, hf, hm, laneClocked, hc, updateDefect, State.bump_eq, Keeps.refl]
  · rw [exec_asperityFlag, execAsperityFlag]
    exact done_onBlock_self (by simp [asperityFlag, hm])
  · simp (disch := decide +kernel) [defectRelease, hf, hm, updateDefect, hn, Keeps.refl]
  · simp (disch := decide +kernel) [defectRelease, hf, hm, updateDefect, hn, Keeps.refl]
  · rw [exec_defectFlagRelease, execDefectFlagRelease]
    exact done_onBlock_self (by simp [defectRelease, hm])
  · simp (disch := decide +kernel) [wedgeWindow, hw, hm, openWindow, openGap, State.setI_eq, hg, setGate]
  · simp (disch := decide +kernel) [wedgeWindow, hw, hm, closeWindow, closeGap, State.add_eq, hs, setGate]
  · simp (disch := decide +kernel) [wedgeWindow, hw, hm, closeWindow, closeGap, State.add_eq, hs]
  · rw [exec_wedgeWindow, execWedgeWindow]
    exact done_onBlock_self (by simp [wedgeWindow, hm])
  · rw [exec_wedgeWindow, execWedgeWindow]
    exact done_onBlock_self (by simp [wedgeWindow, hm])

/-! ## Lane memory (R135) -/

section
variable {s t : State} {l : Fin 48} (hr : reaches 5 s = true)
include hr

theorem exec_laneMemdatWrite_of {v : Word} (h : lanMemdatWrite l v.toNat s = t) : exec (.laneMemdatWrite l v) s = .next (s.after t) := by
  rw [exec_laneMemdatWrite, execLaneMemdatWrite]
  exact done_onBlock hr h

theorem exec_laneMemdatRead_of (h : lanMemdatRead l s = t) : exec (.laneMemdatRead l) s = .next (s.after t) := by
  rw [exec_laneMemdatRead, execLaneMemdatRead]
  exact done_readOn hr h

end

/-- With AUTOINC set the address of a lane's window advances. -/
theorem get_lmemAdvance {l : Nat} {s : State} (h : s.on LAN_MEMADR_AUTOINC l = true) :
    (lmemAdvance l s).get LAN_MEMADR_WORD l = (s.get LAN_MEMADR_WORD l + 1) % 2 ^ LAN_MEMADR_WORD.width := by
  simp [lmemAdvance, h, State.bump_eq]

/-- Settles O22: an access advances the address or not, and takes one of the cases of R135. -/
theorem laneMemoryAccess : Obligations.LaneMemoryAccess := by
  refine ⟨fun s l hr ha => ⟨fun v => ⟨_, exec_laneMemdatWrite_of hr rfl, ?_⟩, ⟨_, exec_laneMemdatRead_of hr rfl, ?_⟩⟩,
    fun s l hr ha => ⟨fun v h => exec_laneMemdatWrite_of hr ?_, fun v h hd => exec_laneMemdatWrite_of hr ?_,
      fun v h hd => exec_laneMemdatWrite_of hr ?_, fun hd => exec_laneMemdatRead_of hr ?_, fun hd => exec_laneMemdatRead_of hr ?_⟩⟩
  · rw [State.after_get, lanMemdatWrite]
    split
    · rw [get_lmemAdvance (by rw [on_set_ne _ _ _ _ (by decide +kernel), ha]), get_set_ne _ _ _ _ (by decide +kernel)]
    split
    · exact get_lmemAdvance ha
    · exact get_lmemAdvance ha
  · exact get_lmemAdvance ha
  · simp (disch := decide +kernel) [lanMemdatWrite, h, lmemAdvance, ha]
  · have : (s.setLword l (s.get LAN_MEMADR_SPACE l) (s.get LAN_MEMADR_WORD l)
        (v.toNat % 2 ^ lmemWidth (s.get LAN_MEMADR_SPACE l) (s.get LAN_MEMADR_WORD l))).on LAN_MEMADR_AUTOINC l = false := ha
    simp [lanMemdatWrite, h, hd, lmemAdvance, this]
  · simp [lanMemdatWrite, h, hd, lmemAdvance, ha]
  · simp [lanMemdatRead, hd, lmemAdvance, ha]
  · simp [lanMemdatRead, hd, lmemAdvance, ha]

end Sys2Proof.Machine
end

section
/-!
PROOFS. Frame operations of the lanes (spec/02): the queue, writing, reading.
-/

namespace Sys2Proof.Machine

set_option Elab.async false

/-! ## The queue (R70, R109, R161, R162) -/

section
variable (l : Nat) (op : FrameOp) (c : Nat) (s : State)

/-- Posting results changes the list of the results alone. -/
theorem postAll_eq : ∃ r, postAll l op c s = { s with results := s.results ++ r } := by
  unfold postAll
  split
  · exact ⟨_, rfl⟩
  · refine forAll_keeps s (fun t => ∃ r, t = { s with results := s.results ++ r }) _ _ (fun n t ht => ?_) ⟨[], by simp⟩
    obtain ⟨r, rfl⟩ := ht
    exact ⟨r ++ [_], by rw [post, List.append_assoc]⟩

theorem postAll_lanes : (postAll l op c s).lanes = s.lanes := by obtain ⟨r, h⟩ := postAll_eq l op c s; rw [h]
theorem postAll_waiting : (postAll l op c s).waiting = s.waiting := by obtain ⟨r, h⟩ := postAll_eq l op c s; rw [h]

end

theorem exec_frameOpRead_of {s t : State} {l : Fin 48} {w : BitVec 512} (hr : reaches 5 s = true) (h : acceptWord l w s = t) :
    exec (.frameOpRead l w) s = .next (s.settled t) := by
  rw [exec_frameOpRead, execFrameOpRead]
  exact done_onMedia hr h

section
variable {l : Nat} {op : FrameOp} {s : State}

theorem acceptOp_queued (hf : refusal l op s = none) (hq : (s.lane l).queue.length < 32) :
    acceptOp l op s = s.setLane l { s.lane l with queue := (s.lane l).queue ++ [op] } := by
  simp [acceptOp, hf, Nat.not_le.2 hq]

theorem acceptOp_full (hf : refusal l op s = none) (hq : 32 ≤ (s.lane l).queue.length) : acceptOp l op s = postAll l op 0xA s := by
  simp [acceptOp, hf, hq]

theorem acceptOp_refused {c : Nat} (hf : refusal l op s = some c) : acceptOp l op s = postAll l op c s := by simp [acceptOp, hf]

end

/-! ### The payload of a write (R112, R425) -/

section
variable {l a : Nat} {op : FrameOp} {s : State} (hc : ∀ x ∈ linesOf a 32896, NMap.get 0 s.chkx x = 0)
include hc

/-- A payload whose lines hold their own checks is fetched as it is. -/
theorem fetchFrame_clean : fetchFrame l a s = s := by
  have h : (linesOf a 32896).filter (fun x => NMap.get 0 s.chkx x != 0) = [] := List.filter_eq_nil_iff.2 fun x hx => by simp [hc x hx]
  rw [fetchFrame, h]
  rfl

theorem lineLost_clean : (linesOf a 32896).any (fun x => lineLost x s) = false :=
  List.any_eq_false.2 fun x hx => by simp [lineLost, hc x hx]

end

section
variable {l : Nat} {op : FrameOp} {s : State} (hin : (s.lane l).queue.contains op = true) (hroom : (s.lane l).wbuf.length < 2)
  (hnew : ((s.lane l).wbuf.any fun x => x.1 == op) = false)
  (hc : ∀ x ∈ linesOf op.dataAddr.toNat 32896, NMap.get 0 s.chkx x = 0)
include hin hroom hnew hc

theorem frameOpWrite_good (hg : ((List.range 8).all fun c => guardMatches op.dataAddr.toNat c s.mem) = true) :
    frameOpWrite l op s = putFrame l op (frameBits op s) s := by
  have hb : (List.range 8).filter (fun c => !guardMatches op.dataAddr.toNat c s.mem) = [] :=
    List.filter_eq_nil_iff.2 fun c hm => by simp [List.all_eq_true.1 hg c hm]
  simp only [frameOpWrite, hin, if_true, hnew, fetchFrame_clean hc, lineLost_clean hc, hb, decide_eq_false (Nat.not_le.2 hroom)]
  rfl

theorem frameOpWrite_bad (hg : ((List.range 8).all fun c => guardMatches op.dataAddr.toNat c s.mem) = false) :
    frameOpWrite l op s = putFrame l op [] (forAll ((List.range 8).filter fun c => !guardMatches op.dataAddr.toNat c s.mem)
      (fun c u => piMismatch (op.dataAddr.toNat + 4112 * c) 1 u) s) := by
  have hb : ((List.range 8).filter (fun c => !guardMatches op.dataAddr.toNat c s.mem)).isEmpty = false := by
    obtain ⟨c, hm, hx⟩ := List.all_eq_false.1 hg
    exact List.isEmpty_eq_false_iff.2 (List.ne_nil_of_mem (List.mem_filter.2 ⟨hm, by simpa using hx⟩))
  simp only [frameOpWrite, hin, if_true, hnew, fetchFrame_clean hc, lineLost_clean hc, hb, decide_eq_false (Nat.not_le.2 hroom)]
  rfl

end

/-- The bits of a frame are not none. -/
theorem frameBits_ne (op : FrameOp) (s : State) : (frameBits op s).isEmpty = false := rfl

/-- A frame that has its bits loses no data at its fetch. -/
theorem afterFetch_good {l : Nat} {w : BitVec 512} {op : FrameOp} {s : State} (hw : FrameOp.ofWord w = some op)
    (hnew : ((s.lane l).wbuf.any fun x => x.1 == op) = false) :
    afterFetch l w (putFrame l op (frameBits op s) s) = putFrame l op (frameBits op s) s := by
  have h : ((putFrame l op (frameBits op s) s).lane l).wbuf.any (fun x => x.1 == op && x.2.isEmpty) = false := by
    rw [putFrame, lane_setLane_self, List.any_append, Bool.or_eq_false_iff]
    refine ⟨List.any_eq_false.2 fun x hx => ?_, by simp [frameBits_ne]⟩
    simpa using fun e => absurd e (by simpa using List.any_eq_false.1 hnew x hx)
  rw [afterFetch, hw]
  simp only [h]
  rfl

theorem afterFetch_bad {l : Nat} {w : BitVec 512} {op : FrameOp} (s : State) (hw : FrameOp.ofWord w = some op) :
    afterFetch l w (putFrame l op [] s) = loseAt op.dataAddr.toNat (putFrame l op [] s) := by
  rw [afterFetch, hw]
  simp [putFrame]

/-! ### Cancelling (R109) -/

/-- Cancelling takes an operation's entries out of the queues and out of the codewords that wait; what it reports changes neither. -/
theorem frameOpCancel_lanes (l mtag : Nat) (s : State) :
    (frameOpCancel l mtag s).lanes = s.lanes.put l { s.lane l with
      queue := (s.lane l).queue.filter (fun o => o.mtag.toNat != mtag), wbuf := (s.lane l).wbuf.filter (fun o => o.1.mtag.toNat != mtag) } ∧
    (frameOpCancel l mtag s).waiting = s.waiting.filter (fun w => !(w.lane == l && w.mtag == mtag)) := by
  unfold frameOpCancel
  extract_lets q mine t t2 gone t3 t4 t5
  have h2 : t2.lanes = t.lanes ∧ t2.waiting = s.waiting := forAll_keeps _ (fun u => u.lanes = t.lanes ∧ u.waiting = s.waiting) _ _
    (fun o u hu => by rwa [postAll_lanes, postAll_waiting]) ⟨rfl, rfl⟩
  have h5 : t5.lanes = t4.lanes ∧ t5.waiting = t4.waiting := forAll_keeps _ (fun u => u.lanes = t4.lanes ∧ u.waiting = t4.waiting) _ _
    (fun w u hu => by split <;> exact hu) ⟨rfl, rfl⟩
  refine ⟨h5.1.trans h2.1, h5.2.trans ?_⟩
  show t2.waiting.filter _ = _
  rw [h2.2]

theorem exec_frameOpWrite_of {s t : State} {a : Fin 4} {p : Fin 12} {w : BitVec 512} (hr : reaches 5 s = true)
    (h : afterFetch (headAt a p) w (writeWord (headAt a p) w s) = t) : exec (.frameOpWrite a p w) s = .next (s.settled t) := by
  rw [exec_frameOpWrite, execFrameOpWrite]
  exact done_onMedia hr h

/-- Settles O18: the word's operation, whether the lane takes it, and what its payload holds decide. -/
theorem frameOperationsQueue : Obligations.FrameOperationsQueue := by
  rintro s a p l w rfl hr
  refine ⟨fun hw => exec_frameOpRead_of hr (by simp [acceptWord, hw]), fun op hw => ⟨fun hf hq => ?_, fun hn => ?_, fun hy hwr hna => ?_,
    fun hf hq => ?_, fun hin hroom hnew hc => ⟨fun hg => ?_, fun hg => ?_⟩⟩, fun mtag => ⟨frameOpCancel (headAt a p) mtag.toNat s, ?_, ?_, ?_, ?_⟩⟩
  · exact exec_frameOpRead_of hr (by rw [acceptWord, hw]; exact acceptOp_queued hf hq)
  · exact exec_frameOpRead_of hr (by rw [acceptWord, hw]; exact acceptOp_refused (by simp [refusal, hn]))
  · exact exec_frameOpRead_of hr (by rw [acceptWord, hw]; exact acceptOp_refused (by simp [refusal, hy, hwr, hna]))
  · exact exec_frameOpRead_of hr (by rw [acceptWord, hw]; exact acceptOp_full hf hq)
  · refine exec_frameOpWrite_of hr ?_
    rw [writeWord, hw]
    exact (congrArg _ (frameOpWrite_good hin hroom hnew hc hg)).trans (afterFetch_good hw hnew)
  · refine exec_frameOpWrite_of hr ?_
    rw [writeWord, hw]
    exact (congrArg _ (frameOpWrite_bad hin hroom hnew hc hg)).trans (afterFetch_bad _ hw)
  · rw [exec_frameOpCancel, execFrameOpCancel]
    exact done_onMedia hr rfl
  · rw [State.lane, (frameOpCancel_lanes ..).1, NMap.get_put_self]
  · rw [State.lane, (frameOpCancel_lanes ..).1, NMap.get_put_self]
  · exact (frameOpCancel_lanes ..).2

/-! ## Writing a frame (R81, R112–R119, R149) -/

/-- Where every condition of the gate holds, looking at it again changes nothing. -/
theorem recheckWrite_allowed {l : Nat} {s : State} (h : writeAllowed l s = true) : recheckWrite l s = s := by simp [recheckWrite, h]

section
variable {s t : State} {l : Fin 48} (hr : reaches 5 s = true)
include hr

theorem exec_frameWriteStart_of (h : frameWriteStart l s = t) : exec (.frameWriteStart l) s = .next (s.settled t) := by
  rw [exec_frameWriteStart, execFrameWriteStart]
  exact done_onMedia hr h

theorem exec_frameWriteEnd_of (h : frameWriteEnd l s = t) : exec (.frameWriteEnd l) s = .next (s.settled t) := by
  rw [exec_frameWriteEnd, execFrameWriteEnd]
  exact done_onMedia hr h

end

section
variable {l : Nat} {op : FrameOp} {s : State} (h : op.load = 0)
include h

theorem laneLoad_zero : s.laneLoad l op.load.toNat = none := by simp [State.laneLoad, h]
theorem loadBad_zero : loadBad l op s = false := by simp [loadBad, h]
theorem takeLoad_zero : takeLoad l op s = s := by rw [takeLoad, laneLoad_zero h]

end

/-- A write that begins outside a wedge window while its conditions hold. -/
theorem beginLaneWrite_of {l t0 : Nat} {op : FrameOp} {b : List Bool} {s : State} (hn : (s.lane l).wnext = some (op, b, t0))
    (hc : (s.lane l).cur = none) (hw : (s.lane l).wcur = none) (hl : op.load = 0) (hwin : s.on LAN_WEDGE l = false)
    (ha : writeAllowed l s = true) : beginLaneWrite l s = (setGate l true (startFrame l (bitPosition l s + bitsTo l t0 true s) (loadLoops l
      (s.setLane l { s.lane l with wcur := some (op, b), wnext := none, flags := newSpans l s })))).setMany l
        [(LAN_TRUNC, 0), (LAN_SPLIT, 0)] := by
  have hwin' (x : Int) (q : LaneQ) : (startFrame l x (loadLoops l (s.setLane l q))).on LAN_WEDGE l = false := by
    simp (disch := decide +kernel) [startFrame, loadLoops, State.setI_eq, hwin]
  rw [beginLaneWrite]
  simp only [hn, hc, hw, takeLoad_zero hl]
  rw [if_neg (by simp)]
  refine (recheckWrite_allowed ?_).trans ?_
  · simp (disch := decide +kernel) only [writeAllowed, laneActive, startFrame, loadLoops, setGate, State.setI_eq, State.setMany_cons,
      State.setMany_nil, on_set_ne, is_set_ne, bit_set_ne, State.on_setLane, is_setLane, bit_setLane]
    exact ha
  · rw [show bitPosition l (s.setLane l _) = bitPosition l s from rfl, show bitsTo l t0 true (s.setLane l _) = bitsTo l t0 true s from rfl]
    simp only [hwin']
    rfl

section
variable {l t0 : Nat} {op : FrameOp} {q : List FrameOp} {s : State} (hq : (s.lane l).queue = op :: q)
  (ht : frameTick l op.track.toNat op.slot.toNat s = some t0)
include hq ht

theorem frameWriteStart_away (hb : bitMet l t0 64 true s = false) : frameWriteStart l s = s := by
  simp only [frameWriteStart, hq, ht]
  rw [if_pos (by simp [hb])]

theorem frameWriteStart_of {b : List Bool} (hwr : op.write = true) (hl : op.load = 0) (hc : (s.lane l).cur = none)
    (hw : (s.lane l).wcur = none) (hn : (s.lane l).wnext = none) (hf : ((s.lane l).wbuf.find? fun w => w.1 == op) = some (op, b))
    (hb : b ≠ []) (ha : s.is LAN_STS_STATE l 2 = true) (hal : writeAllowed l s = true) (hm : bitMet l t0 64 true s = true)
    (hwin : s.on LAN_WEDGE l = false) : frameWriteStart l s =
      (setGate l true (startFrame l (bitPosition l s + bitsTo l t0 true s) (loadLoops l
        (s.setLane l { s.lane l with queue := q, wcur := some (op, b), wnext := none, flags := newSpans l s })))).setMany l
          [(LAN_TRUNC, 0), (LAN_SPLIT, 0)] := by
  have hbe : b.isEmpty = false := List.isEmpty_eq_false_iff.2 hb
  simp only [frameWriteStart, hq, ht]
  rw [if_neg (by simp [hwr, hn, hm]), loadBad_zero hl, if_neg (by simp), if_neg (by simp [hc, hw]), takeLoad_zero hl, startLaneWrite]
  simp only [lane_setLane_self, hf, hbe]
  rw [if_pos (by simp only [Bool.not_false, Bool.true_and, Bool.and_eq_true]; exact ⟨hal, ha⟩)]
  rw [beginLaneWrite_of (op := op) (b := b) (t0 := t0) (by simp) (by simp [hc]) (by simp [hw]) hl (by exact hwin) (by exact hal)]
  simp only [lane_setLane_self, setLane_setLane]
  rfl

end

/-! ## Reading a frame (R73, R82, R86, R87, R92–R96) -/

section
variable {s t : State} (hr : reaches 5 s = true)
include hr

theorem exec_frameReadStart_of {a : Fin 4} {p : Fin 12} {hard : BitVec 302} (h : frameReadStart (headAt a p) hard s = t) :
    exec (.frameReadStart a p hard) s = .next (s.settled t) := by
  rw [exec_frameReadStart, execFrameReadStart]
  exact done_onMedia hr h

theorem exec_codewordStaged_of {l : Fin 48} {x : List (BitVec 4)} (h : codewordStaged l x s = t) :
    exec (.codewordStaged ⟨l, x⟩) s = .next (s.settled t) := by
  rw [exec_codewordStaged, execCodewordStaged]
  exact done_onMedia hr h

end

section
variable {l t0 : Nat} {op : FrameOp} {q : List FrameOp} {hard : BitVec 302} {s : State} (hq : (s.lane l).queue = op :: q)
  (ht : frameTick l op.track.toNat op.slot.toNat s = some t0)
include hq ht

theorem frameReadStart_away (hb : bitMet l t0 0 false s = false) : frameReadStart l hard s = s := by
  simp only [frameReadStart, hq, ht]
  rw [if_pos (by simp [hb])]

theorem frameReadStart_of (hw : op.write = false) (hl : op.load = 0) (hc : (s.lane l).cur = none) (hwc : (s.lane l).wcur = none)
    (hwn : (s.lane l).wnext = none) (hb : bitMet l t0 0 false s = true) (hf : refusal l op s = none) :
    frameReadStart l hard s = startLaneRead l t0 op hard (s.setLane l { s.lane l with queue := q }) := by
  have hf' : refusal l op (s.setLane l { s.lane l with queue := q }) = none := hf
  simp only [frameReadStart, hq, ht]
  rw [if_neg (by simp [hw, hc, hwc, hwn, hb])]
  simp only [hf', loadBad_zero hl, takeLoad_zero hl]
  rfl

end

/-- A read of a frame with codewords gets its record and becomes the lane's present one. -/
theorem startLaneRead_of {l t0 : Nat} {op : FrameOp} {hard : BitVec 302} {s : State} (hm : maskCws op.cwmask.toNat ≠ []) :
    startLaneRead l t0 op hard s =
      let t := startFrame l (bitPosition l s + bitsTo l t0 false s) (loadLoops l s)
      ({ (t.bump DEC_FID 0) with frames := s.frames ++ [(⟨s.get DEC_FID 0, l, op, some (searchSync l hard t), 0, false, none,
        (maskCws op.cwmask.toNat).length, false, false⟩ : FrameRec)] }.setLane l
          { t.lane l with cur := some (s.get DEC_FID 0, 0), flags := newSpans l t }).set LAN_BLOCKS l 0 := by
  have hn : (maskCws op.cwmask.toNat).length ≠ 0 := fun h => hm (List.length_eq_zero_iff.1 h)
  have hfid (x : Int) : (startFrame l x (loadLoops l s)).get DEC_FID 0 = s.get DEC_FID 0 := by
    simp (disch := decide +kernel) [startFrame, loadLoops, State.setI_eq]
  have hspans (t : State) (fr : List FrameRec) : newSpans l { (t.bump DEC_FID 0) with frames := fr } = newSpans l t := by
    show newSpans l (t.bump DEC_FID 0) = _
    simp (disch := decide +kernel) [newSpans, State.bump_eq]
  simp only [startLaneRead, hn, if_false, hfid]
  rw [hspans]
  rfl

/-! ### The frame records -/

/-- A frame's record after a change of it that keeps its number. -/
theorem frame_modFrame (s : State) (fid : Nat) (f : FrameRec → FrameRec) (hf : ∀ x, (f x).fid = x.fid) :
    (s.modFrame fid f).frame fid = (s.frame fid).map f := by
  have hp : ((fun x : FrameRec => x.fid == fid) ∘ fun x => if x.fid = fid then f x else x) = fun x => x.fid == fid := by
    funext x
    by_cases h : x.fid = fid <;> simp [h, hf]
  rw [State.frame, State.modFrame, List.find?_map, hp]
  refine Option.map_congr fun x hx => ?_
  rw [if_pos (by simpa using List.find?_some hx)]

theorem judgeSync_of_seen {l fid : Nat} {s : State} {fr : FrameRec} {x : Option Hit × Bool} (hf : s.frame fid = some fr)
    (hs : fr.seen = some x) : judgeSync l fid s = (countSync l fr.op x s).1.modFrame fid fun f =>
      { f with seen := none, base := (countSync l fr.op x s).2.2.1, prov := (countSync l fr.op x s).2.1 == 1 } := by
  simp [judgeSync, hf, hs]

theorem judgeSync_judged {l fid : Nat} {s : State} {fr : FrameRec} (hf : s.frame fid = some fr) (hs : fr.seen = none) :
    judgeSync l fid s = s := by simp [judgeSync, hf, hs]

theorem showSync_frames (l : Nat) (off : Int) (k d : Nat) (s : State) : (showSync l off k d s).frames = s.frames := by
  unfold showSync
  dsimp only
  split <;> rfl

/-- A hit within the acceptance window, in a sync window without a flag, is counted as ACCEPTED. -/
theorem countSync_accepted {l : Nat} {op : FrameOp} {h : Hit} {s : State} (hc : syncCovered l op s = false)
    (ha : h.1.natAbs ≤ s.get LAN_SYNC_ACC l) : countSync l op (some h, false) s = (showSync l h.1 0 h.2 s, (0, h)) := by
  simp [countSync, hc, syncKind, ha]

/-! ### Staging -/

/-- A codeword joins those that wait, and what shows their numbers follows. -/
def stage (l : Nat) (w : Waiting) (s : State) : State := showStaged l (showWait { s with waiting := s.waiting ++ [w] })

section
variable (l : Nat) (w : Waiting) (s : State)

theorem stage_waiting : (stage l w s).waiting = s.waiting ++ [w] := rfl
theorem stage_lane (k : Nat) : (stage l w s).lane k = s.lane k := rfl
theorem stage_occ (hl : w.lane = l) (hc : w.cls < 2) :
    (stage l w s).get LAN_STGV_OCC l = (stagedCount l s + 1) % 2 ^ LAN_STGV_OCC.width := by
  rw [stage, showStaged, State.get_set_self]
  show ((s.waiting ++ [w]).countP _) % _ = _
  rw [List.countP_append, List.countP_singleton, if_pos (by simp [hl, hc])]
  rfl

/-- The mark of the wedge interval is a register field. -/
theorem noteFlag_beside : (noteFlag l s).waiting = s.waiting ∧ (noteFlag l s).aonNs = s.aonNs := by
  unfold noteFlag
  split <;> exact ⟨rfl, rfl⟩

end

/-- The read ends where no write waits to begin. -/
theorem readNext_none {l : Nat} {s : State} (h : (s.lane l).wnext = none) :
    readNext l none s = (noteFlag l s).setLane l { s.lane l with cur := none } := by
  simp [readNext, beginLaneWrite, h]

theorem codewordStaged_last {l fid c : Nat} {x : List (BitVec 4)} {s : State} {fr : FrameRec} (ha : laneActive l s = true)
    (hc : (s.lane l).cur = some (fid, 0)) (hf : s.frame fid = some fr) (hs : fr.seen = none) (hn : (s.lane l).wnext = none)
    (hcan : fr.cancel = false) (hov : fr.ovr = false) (hm : maskCws fr.op.cwmask.toNat = [c]) (hroom : stagedCount l s < 16) :
    codewordStaged l x s = stage l ⟨fid, l, fr.op.mtag.toNat, c, fr.op.cls.val, s.aonNs, fr.hit.getD fr.base, erased l fr c x s⟩
      ((noteFlag l s).setLane l { s.lane l with cur := none }) := by
  have hroom' : ¬ 16 ≤ stagedCount l ((noteFlag l s).setLane l { s.lane l with cur := none }) := by
    rw [stagedCount, State.setLane_waiting, (noteFlag_beside l s).1]
    exact Nat.not_le.2 hroom
  simp only [codewordStaged, hc, judgeSync_judged hf hs]
  rw [if_neg (by simp [ha])]
  simp only [hf, hm]
  simp [hcan, hov, readNext_none hn, hroom', (noteFlag_beside l s).2, stage]

/-- Settles O20: the read starts where its bit position is met, its alignment is that of the best hit, and its last codeword is staged. -/
theorem frameReads : Obligations.FrameReads := by
  refine ⟨fun s a p l op q t0 hard hl hr hq hw hld hc hwc hwn hm ht => ⟨fun hb => ?_, fun hb hf => ?_⟩, fun s l hard h hb => ?_,
    fun s l fid fr h hf hs hcov hacc => ⟨{ fr with seen := none, base := h.1, prov := false }, ?_, rfl, rfl, rfl⟩,
    fun s l x fid fr c hr ha hc hf hs hn hcan hov hm hroom => ⟨_, exec_codewordStaged_of hr (codewordStaged_last ha hc hf hs hn hcan
      hov hm hroom), ?_, ?_, ?_⟩⟩
  · subst hl
    exact exec_frameReadStart_of hr (frameReadStart_away hq ht hb)
  · subst hl
    refine exec_frameReadStart_of hr ((frameReadStart_of hq ht hw hld hc hwc hwn hb hf).trans (startLaneRead_of hm))
  · simp [searchSync, hb]
  · rw [judgeSync_of_seen hf hs, countSync_accepted hcov hacc, frame_modFrame _ _ _ (by exact fun _ => rfl), State.frame, showSync_frames]
    exact congrArg (Option.map _) hf
  · rw [stage_waiting, State.setLane_waiting, (noteFlag_beside l s).1]
  · rw [stage_lane, lane_setLane_self]
  · rw [stage_occ _ _ _ (by rfl) (by exact fr.op.cls.isLt), stagedCount, State.setLane_waiting, (noteFlag_beside l s).1, stagedCount]

/-! ## The decoder pool (R87, R100, R104–R107) -/

section
variable {s t : State} (hr : reaches 6 s = true)
include hr

theorem exec_engineDispatch_of {d : Fin 32} (h : engineDispatch d s = t) : exec (.engineDispatch d) s = .next (s.settled t) := by
  rw [exec_engineDispatch, execEngineDispatch]
  exact done_onMedia hr h

theorem exec_decodeDone_of {d : Fin 32} {o : DecodeOut} (h : decodeDone d o s = t) : exec (.decodeDone d o) s = .next (s.settled t) := by
  rw [exec_decodeDone, execDecodeDone]
  exact done_onMedia hr h

end

section
variable {d : Nat} {o : DecodeOut} {j : EngineJob} {s : State} {fr : FrameRec} (hj : s.engines.find d = some j)
  (hf : s.frame j.w.fid = some fr) (hcan : fr.cancel = false) (hcv : o.conv = true) (hi : o.iters ≤ j.budget) (h2 : j.w.cls = 2)
include hj hf hcan hcv hi h2

/-- A codeword of recovery class that converges within its budget, at its place. -/
theorem decodeDone_match (hp : positionMatch fr j.w.cw o = true) :
    decodeDone d o s = endDecode d fr j (matchCode fr j.w j.w.off o) o.iters j.w.off o s := by
  simp [decodeDone, hj, hf, hcan, hcv, hi, hp, adoptAlign, h2]

/-- One whose tag has another position. -/
theorem decodeDone_mismatch (hp : positionMatch fr j.w.cw o = false) :
    decodeDone d o s = endDecode d fr j 4 o.iters j.w.off o s := by
  simp [decodeDone, hj, hf, hcan, hcv, hi, hp, h2]

end

section
variable {d n : Nat} {o : DecodeOut} {j : EngineJob} {s : State} {fr : FrameRec} {x : List (BitVec 4)} (h2 : j.w.cls = 2)
  (hx : alignedSoft fr j.w j.w.off = some x)
include h2 hx

/-- The end of a codeword of recovery class that decodes: it is counted, written and reported. -/
theorem endDecode_ok : endDecode d fr j 2 n j.w.off o s = report fr j.w.cw 2 n j.w.off (x.countP fun b => b &&& 7#4 == 0#4)
    (writePayload fr j.w.cw o ((showBusy { s with engines := s.engines.del d }).bump DEC_CNT_OK 0)) := by
  simp [endDecode, countResult, countIters, h2, erasures, hx]

/-- The end of one whose tag names another place. -/
theorem endDecode_tag : endDecode d fr j 4 n j.w.off o s = report fr j.w.cw 4 n j.w.off (x.countP fun b => b &&& 7#4 == 0#4)
    ((showBusy { s with engines := s.engines.del d }).bump DEC_CNT_TAG 0) := by
  simp [endDecode, countResult, countIters, h2, erasures, hx]

end

/-- A codeword of recovery class with its generation and its guard. -/
theorem matchCode_ok {fr : FrameRec} {w : Waiting} {off : Int} {o : DecodeOut} (h2 : w.cls = 2) (hg : genMatch fr o = true)
    (hok : guardOk o = true) : matchCode fr w off o = 2 := by simp [matchCode, h2, hg, hok]

/-- Settles O21: the engine's result is decided by the tag and the guard, and the report adds it alone. -/
theorem decoderPool : Obligations.DecoderPool := by
  refine ⟨fun s d w hr hfree hnext h2 => exec_engineDispatch_of hr ?_, fun s d o j fr x hr hj hf hcan hcv hi h2 hx =>
    ⟨fun hp hg hok => ?_, fun hp => ?_⟩⟩
  · simp [engineDispatch, hfree, hnext, h2]
  · have h := decodeDone_match hj hf hcan hcv hi h2 hp
    rw [matchCode_ok h2 hg hok, endDecode_ok h2 hx] at h
    refine ⟨_, exec_decodeDone_of hr h, rfl, ?_, rfl, rfl⟩
    exact (State.get_set_self ..).trans (by rw [showBusy, get_set_ne _ _ _ _ (by decide)]; rfl)
  · have h := decodeDone_mismatch hj hf hcan hcv hi h2 hp
    rw [endDecode_tag h2 hx] at h
    refine ⟨_, exec_decodeDone_of hr h, rfl, ?_, rfl, rfl⟩
    exact (State.get_set_self ..).trans (by rw [showBusy, get_set_ne _ _ _ _ (by decide)]; rfl)

end Sys2Proof.Machine
end

section
/-!
PROOFS. The head links (spec/02): training, packets, acknowledgement, fault flags.
-/

namespace Sys2Proof.Machine

set_option Elab.async false

/-! ## The packets that wait on a link -/

section
variable (s : State) (a : Nat) (q : List HlkReq)

@[simp] theorem linkQ_setLinkQ_self : (s.setLinkQ a q).linkQ a = q := NMap.get_put_self ..
@[simp] theorem linkQ_set (f : Field) (i v : Nat) : (s.set f i v).linkQ a = s.linkQ a := rfl
@[simp] theorem linkQ_emit (o : Out) : (s.emit o).linkQ a = s.linkQ a := rfl

end

/-! ## Training (R125, R127, R137, R668) -/

section
variable {a : Nat} {s : State}

theorem hlkHeartbeatRx_up {p : BitVec 48} (he : s.on HLK_CTL_EN a = true) (hc : crcOk p = true) (ht : pktType p = 9)
    (htr : s.on HLK_TRAINING a = true) (hans : s.on HLK_ANSWER a = true) : hlkHeartbeatRx a p s = linkUp a s := by
  simp [hlkHeartbeatRx, linkHears, he, hc, ht, htr, hans]

/-- A link that comes up in the orientation that it had. -/
theorem linkUp_same (ho : orientationChanged a s = false) : linkUp a s = updateMembers (lower (100 + 8 * a) 0xFF (lower (96 + 8 * a) 0xFF
    ((((s.setMany a [(HLK_STS_UP, 1), (HLK_STS_ABSENT, 0), (HLK_TRAINING, 0), (HLK_CTL_TRAIN, 0), (HLK_ANSWER, 0),
      (HLK_STS_HINT_DIFF, (s.get HLK_STS_SWAPPED a != s.get HLK_CTL_SWAP_HINT a).toNat), (HLK_TRAINED, 1),
      (HLK_LASTORI, wiringOf a s), (HLK_HOLD, 1), (HLK_WENOK, 0), (HLK_WENWAIT, 0), (HLK_WENTRY, 0)]).setLinkQ a
        [⟨6, 0xF, 0, s.get HLK_WEN a, none⟩]).setLinkQ (4 + a) []).setBit GLB_WIRING_HLK 0 a (s.on HLK_STS_SWAPPED a)))) := by
  simp (disch := decide +kernel) [linkUp, ho]

/-- A training that answers and fails its third round. -/
theorem roundFailed_last (h : 2 ≤ s.get HLK_ROUND a) : roundFailed a s = updateMembers (raise (100 + 8 * a) 0xFF
    (s.setMany a [(HLK_STS_ABSENT, 1), (HLK_TRAINING, 0), (HLK_CTL_TRAIN, 0), (HLK_ANSWER, 0)])) := by
  simp [roundFailed, Nat.not_lt.2 h]

end

/-- Settles O23: each event of a training by the flags of the link. -/
theorem headLinkTraining : Obligations.HeadLinkTraining := by
  intro s a hr
  refine ⟨fun he => ?_, ?_, fun he ht => ?_, fun ai bi ht hans => ?_, fun p he hc ht htr hans ho => ?_, fun p he => ?_, fun p he hc => ?_,
    fun htr hans ho => ?_, fun htr hans hround => ?_, fun htr hans hround => ?_, fun hup => ?_⟩
  · rw [exec_hlkEnable, execHlkEnable]
    exact done_onMedia hr (by simp [hlkEnable, he])
  · rw [exec_hlkDisable, execHlkDisable]
    exact done_onMedia hr rfl
  · rw [exec_hlkTrain, execHlkTrain]
    exact done_onMedia hr (by simp [hlkTrain, he, ht])
  · rw [exec_hlkTrainingRx, execHlkTrainingRx]
    exact done_onMedia hr (by simp [hlkTrainingRx, ht, hans])
  · rw [exec_hlkHeartbeatRx, execHlkHeartbeatRx]
    exact done_onMedia hr ((hlkHeartbeatRx_up he hc ht htr hans).trans (linkUp_same ho))
  · rw [exec_hlkHeartbeatRx, execHlkHeartbeatRx]
    exact done_onMedia hr (by simp [hlkHeartbeatRx, linkHears, he])
  · rw [exec_hlkHeartbeatRx, execHlkHeartbeatRx]
    exact done_onMedia hr (by simp [hlkHeartbeatRx, linkHears, he, hc, crcError])
  · rw [exec_hlkOrientTimeout, execHlkOrientTimeout]
    exact done_onMedia hr (by simp [hlkOrientTimeout, htr, hans, ho])
  · rw [exec_hlkTrainHbTimeout, execHlkTrainHbTimeout]
    exact done_onMedia hr (by simp [hlkHbTimeout, htr, hans, roundFailed, hround])
  · rw [exec_hlkTrainHbTimeout, execHlkTrainHbTimeout]
    exact done_onMedia hr (by rw [hlkHbTimeout, if_pos (by simp [htr, hans]), roundFailed_last hround])
  · rw [exec_hlkLinkDown, execHlkLinkDown]
    exact done_onMedia hr (by simp [hlkLinkDown, hup])

/-! ## Packets (R120–R123, R126, R668) -/

section
variable {a : Nat} {s : State}

theorem setWen_safe (hs : s.on FLT_SAFE_ACTIVE 0 = true) (hw : s.is HLK_WEN a 0 = true) (m : Nat) : setWen a m s = s := by
  have h : s.get HLK_WEN a = 0 := by simpa [State.is_eq] using hw
  simp [setWen, hs, h]

theorem setWen_new {m : Nat} (hs : s.on FLT_SAFE_ACTIVE 0 = false) (hlt : m < 4096) (hne : m ≠ s.get HLK_WEN a) :
    setWen a m s = recheckActuator a (sendMask a (s.set HLK_WEN a m)) := by
  simp [setWen, hs, Nat.mod_eq_of_lt hlt, hne]

theorem hlkRegcmdGo_starts {v : Nat} (hb : s.on HLK_REGCMD_BUSY a = false) (hu : s.on HLK_STS_UP a = true) (h13 : v.testBit 13 = true)
    (h15 : v.testBit 15 = false) : (hlkRegcmdGo a v s).get HLK_REGCMD_BUSY a = 1 ∧
      (hlkRegcmdGo a v s).linkQ a = insertReq (s.linkQ a) (regPacket v) := by
  have h1 : 1 % 2 ^ HLK_REGCMD_BUSY.width = 1 := rfl
  simp (disch := decide +kernel) [hlkRegcmdGo, h13, h15, hb, hu, linkSend, h1]

/-- What the sending of a packet without age data starts is in register fields other than the sequence number. -/
theorem afterSend_plain {r : HlkReq} (hage : r.age = none) (seq : Nat) (s : State) :
    (afterSend a r seq s).out = s.out ∧ (afterSend a r seq s).get HLK_SEQ a = s.get HLK_SEQ a := by
  unfold afterSend
  simp only [hage]
  split <;> simp (disch := decide +kernel)

/-- The transmission of the next packet only moves what waits. -/
theorem beginSend_plain (s : State) : (beginSend a s).out = s.out ∧ (beginSend a s).get HLK_SEQ a = s.get HLK_SEQ a := by
  unfold beginSend
  split <;> simp

theorem hlkPacketSent_of {r : HlkReq} (h : s.linkQ (4 + a) = [r]) : hlkPacketSent a s = beginSend a (afterSend a r (s.get HLK_SEQ a)
    ((s.bump HLK_SEQ a).emit (.headLink a (packet r.typ r.head r.addr r.data (s.get HLK_SEQ a))))) := by
  simp [hlkPacketSent, h]

/-- The packet in transmission goes out with the running number. -/
theorem hlkPacketSent_out {r : HlkReq} (h : s.linkQ (4 + a) = [r]) (hage : r.age = none) :
    (hlkPacketSent a s).out = s.out ++ [.headLink a (packet r.typ r.head r.addr r.data (s.get HLK_SEQ a))] ∧
      (hlkPacketSent a s).get HLK_SEQ a = (s.get HLK_SEQ a + 1) % 2 ^ HLK_SEQ.width := by
  rw [hlkPacketSent_of h, (beginSend_plain _).1, (beginSend_plain _).2, (afterSend_plain hage _ _).1, (afterSend_plain hage _ _).2]
  simp [State.bump_eq]

/-- On a link on which nothing waits a heartbeat begins. -/
theorem beginSend_idle (ht : s.on HLK_TRAINING a = false) (hu : s.on HLK_STS_UP a = true) (hh : s.on HLK_HOLD a = false)
    (hq : s.linkQ a = []) : beginSend a s = (s.setLinkQ a []).setLinkQ (4 + a) [⟨9, 0xF, 0, 0, none⟩] := by
  simp [beginSend, nextPacket, ht, hu, hh, hq]

theorem hlkPacketSent_begins (hq : s.linkQ (4 + a) = []) (hb : ((beginSend a s).linkQ (4 + a)).isEmpty = false) :
    hlkPacketSent a s = hlkPacketSent a (beginSend a s) := by
  simp [hlkPacketSent, hq, hb]

theorem hlkAckTimeout_mask (hw : s.on HLK_WENWAIT a = true) (hg : s.on HLK_REGWAIT a = false) (h3 : 3 ≤ s.get HLK_WENTRY a)
    (hq : ((s.linkQ a ++ s.linkQ (4 + a)).any fun r => r.typ == 6) = false) : hlkAckTimeout a s =
      pulse (99 + 8 * a) 0xFF ((s.set HLK_WENWAIT a 0).setMany a [(HLK_WENTRY, 0), (HLK_HOLD, 0)]) := by
  rw [hlkAckTimeout, if_pos (by simp [hw, hg]), maskTimeout]
  simp (disch := decide +kernel) only [linkQ_set, hq, get_set_ne, Nat.not_lt.2 h3]
  rfl

end

/-- Settles O24: each packet by its type, and by what waits and what is outstanding. -/
theorem headLinkPackets : Obligations.HeadLinkPackets := by
  intro s a hr
  refine ⟨fun hs hw m => ?_, fun m hs hne => ?_, fun v hb hu h13 h15 => ?_, fun r hq hage => ?_, fun ht hu hh hq hq' => ?_,
    fun p he hc ht hw hseq => ?_, fun hw hg h3 hq => ?_, fun p he hc ht hlt => ?_⟩
  · rw [exec_hlkWenWrite, execHlkWenWrite]
    exact done_onMedia hr (setWen_safe hs hw _)
  · rw [exec_hlkWenWrite, execHlkWenWrite]
    exact done_onMedia hr (setWen_new hs m.isLt hne)
  · rw [exec_hlkRegcmdGo, execHlkRegcmdGo]
    exact ⟨_, done_onMedia hr rfl, hlkRegcmdGo_starts hb hu h13 h15⟩
  · rw [exec_hlkPacketSent, execHlkPacketSent]
    exact ⟨_, done_onMedia hr rfl, hlkPacketSent_out hq hage⟩
  · have hidle := beginSend_idle ht hu hh hq
    have hsent := hlkPacketSent_out (s := beginSend a s) (r := ⟨9, 0xF, 0, 0, none⟩) (by rw [hidle, linkQ_setLinkQ_self]) rfl
    rw [(beginSend_plain s).1, (beginSend_plain s).2, ← hlkPacketSent_begins hq' (by rw [hidle, linkQ_setLinkQ_self]; rfl)] at hsent
    rw [exec_hlkPacketSent, execHlkPacketSent]
    exact ⟨_, done_onMedia hr rfl, hsent⟩
  · rw [exec_hlkResponseRx, execHlkResponseRx]
    exact done_onMedia hr (by simp [hlkResponseRx, linkHears, he, hc, ht, hw, State.is_eq, hseq])
  · rw [exec_hlkAckTimeout, execHlkAckTimeout]
    exact done_onMedia hr (hlkAckTimeout_mask hw hg h3 hq)
  · rw [exec_hlkFaultFlagsRx, execHlkFaultFlagsRx]
    exact done_onMedia hr (by simp [hlkFaultFlagsRx, linkHears, he, hc, ht, Nat.not_le.2 hlt])

end Sys2Proof.Machine
end

section
namespace Sys2Proof.Machine

set_option Elab.async false

section
variable (s : State) (o : MediaOp)

@[simp] theorem addOp_ops : (addOp o s).ops = s.ops ++ [o] := rfl
@[simp] theorem addOp_jobs : (addOp o s).jobs = s.jobs := rfl
@[simp] theorem addOp_ra : (addOp o s).ra = s.ra := rfl
@[simp] theorem addOp_raRow : (addOp o s).raRow = s.raRow := rfl
@[simp] theorem addOp_fronts : (addOp o s).fronts = s.fronts := rfl
@[simp] theorem addOp_zone (z : Nat) : (addOp o s).zone z = s.zone z := rfl
@[simp] theorem addOp_unlisted (z f m : Nat) : unlisted z f m (addOp o s) = unlisted z f m s := rfl
@[simp] theorem addOp_sideFor (z : Nat) : sideFor z (addOp o s) = sideFor z s := rfl
theorem addOp_get {f : Field} (h : FMT_INFL.id ≠ f.id) (i : Nat) : (addOp o s).get f i = s.get f i := get_set_ne _ _ _ _ h
@[simp] theorem addOp_k : (addOp o s).k = s.k := addOp_get s o (by decide +kernel) 0
@[simp] theorem addOp_driveRole : driveRole (addOp o s) = driveRole s :=
  congrArg (! · == 2) (addOp_get s o (f := GLB_ROLE_ROLE) (by decide +kernel) 0)
@[simp] theorem addOp_mediaMask (z r pos m : Nat) : mediaMask z r pos m (addOp o s) = mediaMask z r pos m s := by
  unfold mediaMask; rw [addOp_k]; rfl

end

/-- An operation that has a frame job does not end. -/
theorem endOp_of_job {mtag : Nat} {s : State} {j : FrameJob} (h : j ∈ s.jobs) (hm : j.mtag = mtag) : endOp mtag s = s := by
  have : opBusy mtag s = true := by
    unfold opBusy
    rw [Bool.or_assoc, Bool.or_eq_true]
    exact .inl (List.any_eq_true.2 ⟨j, h, by simp [hm]⟩)
  unfold endOp
  rw [this, Bool.true_or, if_pos rfl]

/-- The job of a host read: it reads the frame, or waits for the reconstruction of it. -/
theorem readJob_hostRead (mtag z r pos m d : Nat) (s : State) : ∃ j : FrameJob, readJob mtag .hostRead true z r pos m d s = some j ∧
    j.mtag = mtag ∧ j.kind = .hostRead ∧ j.zone = z ∧ j.row = r ∧ j.pos = pos ∧ j.cls = 0 ∧ j.write = false ∧ j.mask = m := by
  unfold readJob
  dsimp only
  split
  · exact ⟨_, rfl, rfl, rfl, rfl, rfl, rfl, rfl, rfl, rfl⟩
  · exact ⟨_, if_pos rfl, rfl, rfl, rfl, rfl, rfl, rfl, rfl, rfl⟩

/-- A host read's frame of which media has codewords. -/
theorem addRead_hostRead {mtag z r pos mask d : Nat} {s : State} (hd : driveRole s = true) (hm : mediaMask z r pos mask s ≠ 0) :
    ∃ j : FrameJob, addRead mtag .hostRead true z r pos mask d s = { s with jobs := s.jobs ++ [j] } ∧
      j.mtag = mtag ∧ j.kind = .hostRead ∧ j.zone = z ∧ j.row = r ∧ j.pos = pos ∧ j.cls = 0 ∧ j.write = false ∧
      j.mask = mediaMask z r pos mask s := by
  obtain ⟨j, hj, hall⟩ := readJob_hostRead mtag z r pos (mediaMask z r pos mask s) d s
  refine ⟨j, ?_, hall⟩
  simp [addRead, hd, hm, hj]


/-- The state of a host read of blocks of one frame, with its job. -/
def hostReadOne (z off len mtag : Nat) (j : FrameJob) (s : State) : State :=
  let t := addOp (newOp mtag .hostRead z (off / 8 / Nat.max 1 s.k) off len (sideFor z s) true) s
  { t with jobs := s.jobs ++ [j], raRow := s.raRow.put z (off / 8 + 1) }

/-- One frame of a host read that no run-ahead frame serves. -/
theorem readFrame_media {mtag z f off len : Nat} {s : State} (hra : s.ra = []) (hm : unlisted z f (maskFor f off len) s ≠ 0) :
    readFrame mtag z f off len s = addRead mtag .hostRead true z (f / Nat.max 1 s.k) (f % Nat.max 1 s.k)
      (unlisted z f (maskFor f off len) s) (sideFor z s) s := by
  unfold readFrame
  simp only [hm, if_false, hra, List.find?_nil, List.filter_nil]
  rw [show ({ s with ra := [] } : State) = s by rw [← hra]]

theorem hostRead_one {z off len mtag : Nat} {s : State} (hd : driveRole s = true) (hlen : 0 < len)
    (hone : (off + len - 1) / 8 = off / 8) (hra : s.ra = [])
    (hu : unlisted z (off / 8) (maskFor (off / 8) off len) s ≠ 0)
    (hm : mediaMask z (off / 8 / Nat.max 1 s.k) (off / 8 % Nat.max 1 s.k) (unlisted z (off / 8) (maskFor (off / 8) off len) s) s ≠ 0) :
    ∃ j : FrameJob, hostRead z off len mtag s = hostReadOne z off len mtag j s ∧ j.mtag = mtag ∧ j.kind = .hostRead ∧ j.zone = z ∧
      j.row = off / 8 / Nat.max 1 s.k ∧ j.pos = off / 8 % Nat.max 1 s.k ∧ j.cls = 0 ∧ j.write = false ∧
      j.mask = mediaMask z (off / 8 / Nat.max 1 s.k) (off / 8 % Nat.max 1 s.k) (unlisted z (off / 8) (maskFor (off / 8) off len) s) s := by
  have hn : (off + len - 1) / 8 + 1 - off / 8 = 1 := by omega
  obtain ⟨j, hj, hjm, hall⟩ := addRead_hostRead (mtag := mtag) (d := sideFor z s) 
    (s := addOp (newOp mtag .hostRead z (off / 8 / Nat.max 1 s.k) off len (sideFor z s) true) s) (by rw [addOp_driveRole, hd])
    (by rw [addOp_mediaMask]; exact hm)
  rw [addOp_mediaMask] at hall
  refine ⟨j, ?_, hjm, hall⟩
  unfold hostRead
  rw [if_neg (by omega)]
  dsimp only
  rw [hn, forBelow_succ, forBelow_zero, Nat.add_zero, readFrame_media (by exact hra) (by exact hu), addOp_k, addOp_unlisted,
    addOp_sideFor, hj]
  exact endOp_of_job (j := j) (List.mem_append_right _ (List.mem_singleton.2 rfl)) hjm

/-- Settles O25: a host read within one frame is one job, run-ahead follows the last frame named, and the others are one job each. -/
theorem mediaReads : Obligations.MediaReads := by
  unfold Obligations.MediaReads
  intro s z r pos mtag hr hd
  refine ⟨fun off len hlen hone hra => ?_, fun he => ?_, fun f0 he hf => ⟨fun hl => ?_, fun hl => ?_⟩, fun hf => ?_, ?_, ?_⟩
  · intro m hu hm
    obtain ⟨j, hj, hall⟩ := hostRead_one (mtag := mtag.toNat) hd hlen hone hra hu hm
    refine ⟨hostReadOne z off len mtag.toNat j s, ?_, rfl, j, rfl, hall⟩
    rw [exec_hostRead, execHostRead]
    exact done_onMedia hr (by rw [if_pos hd]; exact hj)
  · rw [exec_raRead, execRaRead]
    exact done_onMedia hr (by cases hf : s.raRow.find z <;> simp [onDrive, hd, raRead, hf, he])
  · rw [exec_raRead, execRaRead]
    exact done_onMedia hr (by simp only [onDrive, hd, raRead, hf, he, hl]; rfl)
  · rw [exec_raRead, execRaRead]
    refine done_onMedia hr ?_
    rw [onDrive, if_pos hd, raRead, hf]
    exact if_neg (by simpa [he] using hl)
  · rw [exec_reconRead, execReconRead]
    exact done_onMedia hr (by rw [if_pos hd, reconRead, hf]; rfl)
  · rw [exec_rebuildRead, execRebuildRead]
    exact done_onMedia hr (if_pos hd)
  · rw [exec_patrol, execPatrol]
    exact done_onMedia hr (if_pos hd)

end Sys2Proof.Machine
end

section
namespace Sys2Proof.Machine

set_option Elab.async false

/-- The end of an operation leaves the frame jobs, the run-ahead frames and the rows as they are. -/
theorem endOp_jobs (mtag : Nat) (s : State) : (endOp mtag s).jobs = s.jobs := by
  unfold endOp closeOp
  split
  · rfl
  · split <;> rfl

/-- The head that serves a surface is one of the surface's. -/
theorem surfaceOf_serviceHead (x : Fin 24) (s : State) : surfaceOf (serviceHead x s) = x := by
  have h : ∀ x : Fin 24, surfaceOf (headOf x 0) = x ∧ surfaceOf (headOf x 1) = x := by decide
  unfold serviceHead
  split
  · exact (h x).2
  · exact (h x).1

/-- An operation on a slot of the system area, or a read, gets one job. -/
theorem sysOp_job {kind : MediaKind} {head track slot mtag : Nat} {write : Bool} {s : State}
    (h : write = true → sysSlot (surfaceOf head) track slot s = true) :
    ∃ j : FrameJob, (sysOp kind head track slot write mtag s).jobs = s.jobs ++ [j] ∧ j.head = head ∧ j.write = write ∧
      j.track = track ∧ j.slot = slot ∧ j.gen = 0 ∧ j.st = .wait := by
  refine ⟨newJob mtag kind head write 1 track slot 0 0xFF (sysZone (surfaceOf head)) track slot, ?_, rfl, rfl, rfl, rfl, rfl, rfl⟩
  have hb : (write && !sysSlot (surfaceOf head) track slot s) = false := by
    cases write
    · rfl
    · simp [h rfl]
  unfold sysOp
  simp [hb]

/-- A write outside the system area gets none. -/
theorem sysOp_outside {kind : MediaKind} {head track slot mtag : Nat} {s : State} (h : sysSlot (surfaceOf head) track slot s = false) :
    (sysOp kind head track slot true mtag s).jobs = s.jobs := by
  unfold sysOp
  simp only [h, Bool.not_false, Bool.and_true, if_true]
  exact endOp_jobs ..

/-- Settles O26: one job each on the surface that the service head serves, and none outside the system area. -/
theorem systemAreaOperations : Obligations.SystemAreaOperations := by
  unfold Obligations.SystemAreaOperations
  intro s track slot mtag hr hd
  refine ⟨fun x => ⟨_, done_onMedia hr (if_pos hd), sysOp_job (by simp)⟩, fun x h => ⟨_, done_onMedia hr (if_pos hd), ?_⟩,
    fun x h => ⟨_, done_onMedia hr (if_pos hd), ?_⟩, fun h w hw => ⟨_, done_onMedia hr (if_pos hd), sysOp_job hw⟩⟩
  · exact sysOp_job fun _ => by rw [surfaceOf_serviceHead]; exact h
  · exact sysOp_outside (by rw [surfaceOf_serviceHead]; exact h)

end Sys2Proof.Machine
end

section
namespace Sys2Proof.Machine

set_option Elab.async false

/-! ## Issue (R161–R164) -/

/-- A field that is set or added to changes the registers alone. -/
theorem set_regs (s : State) (f : Field) (i v : Nat) : ∃ r, s.set f i v = { s with regs := r } := ⟨_, rfl⟩
theorem add_regs (s : State) (f : Field) (i v : Nat) : ∃ r, s.add f i v = { s with regs := r } := ⟨_, rfl⟩

/-- The fields that the planning of a slot and its count change. -/
def planFields : List Field := [FMT_CNT_SLIP, ACD_SHN, ACD_SHR]

section
variable (j : FrameJob) (n d : Nat) (b : Bool) (s : State)

theorem planSlot_keeps : Keeps planFields s (planSlot j n s) := by
  rw [planSlot, State.add_eq, keeps_set (by decide +kernel)]
  exact Keeps.refl

/-- The slot of a job is planned in the registers and in its job. -/
theorem planSlot_eq : ∃ r, planSlot j n s = { s with
    regs := r, jobs := s.jobs.map fun x => if x = j then { x with due := slotStamp n s } else x } := by
  obtain ⟨r, h⟩ := add_regs { s with jobs := s.jobs.map fun x => if x = j then { x with due := slotStamp n s } else x } FMT_CNT_SLIP 0
    ((slotStamp n s - if j.due = 0 then s.stamp + n else j.due) / revTicks)
  exact ⟨r, h⟩

theorem countSlot_regs : ∃ r, countSlot d b s = { s with regs := r } := by
  unfold countSlot
  split
  · exact ⟨_, rfl⟩
  · exact ⟨_, rfl⟩

theorem countSlot_keeps : Keeps planFields s (countSlot d b s) := by
  unfold countSlot
  split
  · exact (keeps_set (by decide +kernel) _ _).2 ((keeps_set (by decide +kernel) _ _).2 Keeps.refl)
  · exact (keeps_set (by decide +kernel) _ _).2 ((keeps_set (by decide +kernel) _ _).2 Keeps.refl)

end

section
variable {s t : State} (h : Keeps planFields s t)
include h

theorem loadFor_keeps (j : FrameJob) (hd : t.descs = s.descs) : loadFor j t = loadFor j s := by
  have hdesc (x : Nat) : t.desc x = s.desc x := by
    rw [State.desc, State.desc, State.bit_eq, h.get 0 (by decide +kernel), hd, State.bit_eq]
  have hi : loadIndex j t = loadIndex j s := by rw [loadIndex, hdesc, loadIndex]
  rw [loadFor, hi, h.is _ _ (by decide +kernel), loadFor]

/-- A job's frame operation does not depend on the counts of slots. -/
theorem opOf_keeps (j : FrameJob) (hd : t.descs = s.descs) (hw : t.wins = s.wins) (hf : t.fronts = s.fronts) : opOf j t = opOf j s := by
  have hfr : jobData j t = jobData j s := by
    have : isFrontier j.zone j.row j.pos t = isFrontier j.zone j.row j.pos s := by rw [isFrontier, hf, isFrontier]
    rw [jobData, writeImage, this, jobData, writeImage]
  rw [opOf, slotWindows, hw, hfr, loadFor_keeps h j hd, opOf, slotWindows]

end

/-- A lane's readiness, and with it whether it takes an operation, does not depend on the sequencer's fields. -/
theorem refusal_keeps {s t : State} (h : Keeps (FMT_LZONE :: planFields) s t) (l : Nat) (op : FrameOp) : refusal l op t = refusal l op s := by
  have hl : laneReady l t = laneReady l s := by simp (disch := decide +kernel) only [laneReady, h.is, h.on]
  have ha : noAngle t = noAngle s := by simp (disch := decide +kernel) only [noAngle, h.is, h.on]
  rw [refusal, hl, ha, refusal]

theorem yieldRa_of_none {j : FrameJob} {s : State} (h : ∀ x ∈ s.jobs, x.kind ≠ .raRead) : yieldRa j s = s := by
  have hnil : s.jobs.filter (fun x => x.head == j.head && x.kind == .raRead && x.st == .issued && x.track != j.track) = [] :=
    List.filter_eq_nil_iff.2 fun x hx => by simp [h x hx]
  unfold yieldRa
  rw [hnil]
  exact ite_self s

/-- The frame slot of a job is counted, and the lane's load `v` is noted. -/
def countedLoad (j : FrameJob) (v : Nat) (u : State) : State :=
  if v = 0 then countSlot (sideOf j.head) (j.kind == .rebuildRead) u
  else (countSlot (sideOf j.head) (j.kind == .rebuildRead) u).set FMT_LZONE j.head v

/-- The state in which a job goes to its lane: the slot is planned and counted, and the lane's load is noted. -/
def issueState (j : FrameJob) (n : Nat) (s : State) : State := countedLoad j (loadFor j s) (planSlot j n s)

theorem acceptWord_of {l : Nat} {w : BitVec 512} {op : FrameOp} {s : State} (hw : FrameOp.ofWord w = some op) :
    acceptWord l w s = acceptOp l op s := by
  rw [acceptWord, hw]

/-- A job that is issued: its operation comes to the lane as it stands. -/
theorem issueJob_of {j : FrameJob} {u : State} {op : FrameOp} {v : Nat} (hy : yieldRa j u = u)
    (ho : opOf j (countSlot (sideOf j.head) (j.kind == .rebuildRead) u) = op)
    (hl : loadFor j (countSlot (sideOf j.head) (j.kind == .rebuildRead) u) = v) (hw : FrameOp.ofWord op.word = some op) :
    issueJob j u = acceptOp j.head op { countedLoad j v u with
      jobs := (countedLoad j v u).jobs.map fun x => if x = j then { x with st := .issued, loaded := v != 0 } else x } := by
  rw [← acceptWord_of hw, issueJob, hy, ho, hl, countedLoad]

section
variable {j : FrameJob} {n : Nat} {s : State}

theorem countedLoad_keeps (v : Nat) : Keeps (FMT_LZONE :: planFields) s (countedLoad j v s) := by
  have h := (countSlot_keeps (sideOf j.head) (j.kind == .rebuildRead) s).mono (fs := FMT_LZONE :: planFields) (by decide +kernel)
  unfold countedLoad
  split
  · exact h
  · exact (keeps_set (by decide +kernel) _ _).2 h

theorem countedLoad_regs (v : Nat) : ∃ r, countedLoad j v s = { s with regs := r } := by
  obtain ⟨q, h⟩ := countSlot_regs (sideOf j.head) (j.kind == .rebuildRead) s
  unfold countedLoad
  rw [h]
  split
  · exact ⟨_, rfl⟩
  · obtain ⟨p, h'⟩ := set_regs { s with regs := q } FMT_LZONE j.head v
    exact ⟨p, h'⟩

theorem issueState_keeps : Keeps (FMT_LZONE :: planFields) s (issueState j n s) :=
  ((planSlot_keeps j n s).mono (by decide +kernel)).trans (countedLoad_keeps _)

theorem issueState_eq : ∃ r, issueState j n s = { s with
    regs := r, jobs := s.jobs.map fun x => if x = j then { x with due := slotStamp n s } else x } := by
  obtain ⟨r, h⟩ := planSlot_eq j n s
  obtain ⟨q, h'⟩ := countedLoad_regs (j := j) (s := planSlot j n s) (loadFor j s)
  rw [issueState, h', h]
  exact ⟨q, rfl⟩

/-- When a job is due is not part of its operation. -/
theorem opOf_due (d : Nat) (j : FrameJob) (s : State) : opOf { j with due := d } s = opOf j s := rfl
theorem loadFor_due (d : Nat) (j : FrameJob) (s : State) : loadFor { j with due := d } s = loadFor j s := rfl

theorem issueJob_planned (hra : ∀ x ∈ s.jobs, x.kind ≠ .raRead) (hdefs : ∀ d ∈ (opOf j s).defs, d.start < 2 ^ 19 ∧ d.len < 2 ^ 11) :
    issueJob { j with due := slotStamp n s } (planSlot j n s) = acceptOp j.head (opOf j s) { issueState j n s with
      jobs := (issueState j n s).jobs.map fun x => if x = { j with due := slotStamp n s } then
        { x with st := .issued, loaded := loadFor j s != 0 } else x } := by
  generalize hd : slotStamp n s = d
  obtain ⟨r, hp⟩ := planSlot_eq j n s
  rw [hd] at hp
  obtain ⟨q, hc⟩ := countSlot_regs (sideOf j.head) (j.kind == .rebuildRead) (planSlot j n s)
  have hy : yieldRa { j with due := d } (planSlot j n s) = planSlot j n s := by
    refine yieldRa_of_none fun x hx => ?_
    rw [hp] at hx
    obtain ⟨y, hy, rfl⟩ := List.mem_map.1 hx
    have := hra y hy
    split <;> exact this
  have hk : Keeps planFields s (countSlot (sideOf j.head) (j.kind == .rebuildRead) (planSlot j n s)) :=
    (planSlot_keeps j n s).trans (countSlot_keeps ..)
  have ho : opOf { j with due := d } (countSlot (sideOf j.head) (j.kind == .rebuildRead) (planSlot j n s)) = opOf j s :=
    (opOf_due ..).trans <| opOf_keeps hk j (by rw [hc, hp]) (by rw [hc, hp]) (by rw [hc, hp])
  have hl : loadFor { j with due := d } (countSlot (sideOf j.head) (j.kind == .rebuildRead) (planSlot j n s)) = loadFor j s :=
    (loadFor_due ..).trans <| loadFor_keeps hk j (by rw [hc, hp])
  exact issueJob_of hy ho hl (FrameOp.ofWord_word _ (List.length_take_le ..) hdefs)

theorem frameOpIssue_issues {h : Nat} (hrun : s.on FMT_CTL_RUN 0 = true) (hj : nextJob h s = some j) (ht : targetSet j s = true)
    (ha : slotAhead j s = some n) (hn : s.get FMT_LEAD 0 ≤ n) (hs : targetSettled j s = true) :
    frameOpIssue h s = issueJob { j with due := slotStamp n s } (planSlot j n s) := by
  simp [frameOpIssue, hrun, hj, ht, ha, Nat.not_lt.2 hn, hs]

end

/-! ## Results, the ladder's time and run-ahead (R165, R168, R174) -/

/-- The end of an operation leaves the run-ahead frames as they are. -/
theorem endOp_ra (mtag : Nat) (s : State) : (endOp mtag s).ra = s.ra := by
  unfold endOp closeOp
  split
  · rfl
  · split <;> rfl

theorem frameOpCancel_ra (l mtag : Nat) (s : State) : (frameOpCancel l mtag s).ra = s.ra := by
  unfold frameOpCancel
  extract_lets q mine t t2 gone t3 t4 t5
  have hpost (u : State) (op : FrameOp) (c : Nat) : (postAll l op c u).ra = u.ra := by obtain ⟨r, h⟩ := postAll_eq l op c u; rw [h]
  have h2 : t2.ra = s.ra := forAll_keeps _ (fun u => u.ra = s.ra) _ _ (fun o u hu => by rwa [hpost]) rfl
  have h5 : t5.ra = t4.ra := forAll_keeps _ (fun u => u.ra = t4.ra) _ _ (fun w u hu => by split <;> exact hu) rfl
  exact h5.trans h2

theorem dropOne_ra (a : RaFrame) (s : State) : (dropOne a s).ra = s.ra.filter fun x => x ≠ a := by
  have hc : (forAll (s.jobs.filter fun j => j.kind == .raRead && j.zone == a.zone && j.row * Nat.max 1 s.k + j.pos == a.frame &&
      j.mtag == a.mtag && j.st == .issued) (fun j u => frameOpCancel j.head j.mtag u) s).ra = s.ra :=
    forAll_keeps _ (fun u => u.ra = s.ra) _ _ (fun j u hu => by rwa [frameOpCancel_ra]) rfl
  rw [dropOne, endOp_ra]
  exact congrArg (List.filter _) hc

theorem forAll_dropOne_ra (l : List RaFrame) (s : State) : (forAll l dropOne s).ra = s.ra.filter fun x => x ∉ l := by
  induction l generalizing s with
  | nil => simp
  | cons a l ih =>
    rw [forAll_cons, ih, dropOne_ra, List.filter_filter]
    exact List.filter_congr fun x _ => by by_cases hx : x = a <;> simp [hx]

/-- What is left of the run-ahead frames has been claimed. -/
theorem raDrop_ra {a : RaFrame} {s : State} (h : a ∈ (raDrop s).ra) : a ∈ s.ra ∧ a.claim.isSome = true := by
  rw [raDrop, dropRa, forAll_dropOne_ra, List.mem_filter] at h
  refine ⟨h.1, ?_⟩
  cases hc : a.claim with
  | none => simp [h.1, hc] at h
  | some => rfl

theorem frameResult_written {r : CwResult} {q : List CwResult} {j : FrameJob} {s : State} (hr : s.results = r :: q)
    (hj : s.jobs.find? (resultFor r) = some j) (hw : j.write = true) (hc : r.code = 0xB) (hl : j.loaded = false) (hs : j.stale = false)
    (hf : frameOfJob j s = none) (hv : s.on FMT_WR_VERIFY 0 = false) :
    frameResult s = endOp j.mtag (frameWritten j (swapJob j [] { s with results := q })) := by
  have hf' : frameOfJob j { s with results := q } = none := hf
  have hv' : ({ s with results := q } : State).on FMT_WR_VERIFY 0 = false := hv
  unfold frameResult
  rw [hr]
  dsimp only
  rw [hj]
  simp only [hl, hw, hc, writeResult, hs, hf', hv', Bool.false_and, Bool.and_false, Bool.false_eq_true, if_false, if_true,
    Option.isSome_none]

theorem ladderTimeout_last {mtag : Nat} {j : FrameJob} {s : State} (hj : (s.jobs.filter fun j => j.mtag == mtag && !j.write && !j.verify &&
    (decide (2 ≤ j.step) || j.st == .recovery)) = [j]) (hst : j.st = .wait) (hruns : j.runs = 2) (hh : j.helper = false)
    (hk : j.kind = .hostRead) :
    ladderTimeout mtag s = stepEight { j with late := true } (swapJob j [{ j with late := true }] s) := by
  unfold ladderTimeout
  rw [hj, forAll_cons, forAll_nil]
  simp [jobTimeout, hst, hruns, hk, lastStep, ladderEnd, hh]

/-- A job that is given next waits for the head. -/
theorem nextJob_mem {h : Nat} {j : FrameJob} {s : State} (hj : nextJob h s = some j) : j ∈ s.jobs ∧ j.head = h := by
  have hm : j ∈ readyJobs h s := by
    unfold nextJob at hj
    dsimp only at hj
    split at hj
    · next x hx => exact Option.some.inj hj ▸ List.mem_of_find?_eq_some hx
    · split at hj
      · next x hx => exact Option.some.inj hj ▸ List.mem_of_find?_eq_some hx
      · exact List.mem_of_head? hj
  rw [readyJobs, List.mem_filter] at hm
  refine ⟨hm.1, ?_⟩
  have := hm.2
  simp only [Bool.and_eq_true, beq_iff_eq] at this
  exact this.1.1.1.1

section
variable {s t : State} {h : Fin 48} (hr : reaches 7 s = true) (hd : driveRole s = true)
include hr hd

theorem exec_frameOpIssue_of (hf : frameOpIssue h s = t) : exec (.frameOpIssue h) s = .next (s.settled t) := by
  rw [exec_frameOpIssue, execFrameOpIssue]
  exact done_onMedia hr (by rw [onDrive, if_pos hd]; exact hf)

end

/-- An operation that a lane takes stands at the end of the lane's queue, and its job is issued. -/
theorem frameOpIssue_queued {h : Nat} {j : FrameJob} {n : Nat} {s : State} (hrun : s.on FMT_CTL_RUN 0 = true)
    (hj : nextJob h s = some j) (ht : targetSet j s = true) (ha : slotAhead j s = some n) (hn : s.get FMT_LEAD 0 ≤ n)
    (hs : targetSettled j s = true) (hdefs : ∀ d ∈ (opOf j s).defs, d.start < 2 ^ 19 ∧ d.len < 2 ^ 11)
    (hf : refusal h (opOf j s) s = none) (hq : (s.lane h).queue.length < 32) (hra : ∀ x ∈ s.jobs, x.kind ≠ .raRead) :
    ((frameOpIssue h s).lane h).queue = (s.lane h).queue ++ [opOf j s] ∧
      { j with due := slotStamp n s, st := .issued, loaded := loadFor j s != 0 } ∈ (frameOpIssue h s).jobs := by
  obtain ⟨hmem, rfl⟩ := nextJob_mem hj
  obtain ⟨r, hi⟩ := issueState_eq (j := j) (n := n) (s := s)
  have hlane (m : List FrameJob) : ({ issueState j n s with jobs := m } : State).lane j.head = s.lane j.head := by rw [hi]; rfl
  have href (m : List FrameJob) : refusal j.head (opOf j s) { issueState j n s with jobs := m } = none :=
    (refusal_keeps ((keeps_congr rfl rfl).2 issueState_keeps) _ _).trans hf
  rw [frameOpIssue_issues hrun hj ht ha hn hs, issueJob_planned hra hdefs, acceptOp_queued (href _) (by rw [hlane]; exact hq)]
  refine ⟨by rw [lane_setLane_self, hlane], List.mem_map.2 ⟨{ j with due := slotStamp n s }, ?_, if_pos rfl⟩⟩
  rw [hi]
  exact List.mem_map.2 ⟨j, hmem, if_pos rfl⟩

/-- Settles O27: an issue by where its slot lies from the angle, a result by the job it ends. -/
theorem formatSequencer : Obligations.FormatSequencer := by
  unfold Obligations.FormatSequencer
  intro s hr
  refine ⟨fun hd => ?_, ?_, fun a v => ?_, fun h j hd hrun hj => ⟨fun ht => ?_, fun n ht ha => ⟨fun hn => ?_, fun hn hs => ?_,
    fun hn hs hdefs hf hq hra => ?_⟩⟩, fun r q j hres hj hw hc hl hs hf hv => ?_, fun mtag j hj hst hruns hh hk => ?_,
    ⟨raDrop s, ?_, fun a ha => raDrop_ra ha⟩⟩
  · rw [exec_fmtRunSet, execFmtRunSet]
    exact done_onMedia hr (by simp [fmtRun, hd])
  · rw [exec_fmtRunClear, execFmtRunClear]
    exact done_onMedia hr rfl
  · rw [exec_fmtStoreWrite, execFmtStoreWrite]
    exact done_onMedia hr rfl
  · exact exec_frameOpIssue_of hr hd (by simp [frameOpIssue, hrun, hj, ht])
  · exact exec_frameOpIssue_of hr hd (by simp [frameOpIssue, hrun, hj, ht, ha, hn])
  · exact exec_frameOpIssue_of hr hd (by simp [frameOpIssue, hrun, hj, ht, ha, Nat.not_lt.2 hn, hs])
  · exact ⟨_, exec_frameOpIssue_of hr hd rfl, frameOpIssue_queued hrun hj ht ha hn hs hdefs hf hq hra⟩
  · rw [exec_frameResult, execFrameResult]
    exact done_onMedia hr (frameResult_written hres hj hw hc hl hs hf hv)
  · rw [exec_ladderTimeout, execLadderTimeout]
    exact done_onMedia hr (ladderTimeout_last hj hst hruns hh hk)
  · rw [exec_raDrop, execRaDrop]
    exact done_onMedia hr rfl

end Sys2Proof.Machine
end

section
/-! PROOFS. The load of a format descriptor (spec/03, R143, R144, R152). -/

namespace Sys2Proof.Machine

set_option Elab.async false

/-- Settles O28: FMT's check of the descriptor decides. -/
theorem descriptorLoads : Obligations.DescriptorLoads := by
  rintro s k p x rfl hr
  refine ⟨fun h => ?_, fun h => ?_⟩
  · rw [exec_descriptorLoad, execDescriptorLoad]
    exact done_onMedia hr (if_pos h)
  · rw [exec_descriptorLoad, execDescriptorLoad]
    exact done_onMedia hr (if_neg (by simp [h]))

end Sys2Proof.Machine
end

section
/-! PROOFS. Rows of a drive: submission, writing, commit, frontier (spec/03, R175–R183; spec/04, R195, R203, R214, R217). -/

namespace Sys2Proof.Machine

set_option Elab.async false

/-! ## Submission -/

/-- A row with the blocks it now holds is that of its zone and number. -/
theorem mergeRow_of (z r blocks : Nat) (s : State) :
    (mergeRow z r blocks s).zone = z ∧ (mergeRow z r blocks s).row = r ∧ (mergeRow z r blocks s).blocks = blocks := by
  unfold mergeRow
  dsimp only
  split
  · exact ⟨rfl, rfl, rfl⟩
  · next old h =>
    have := List.find?_some h
    rw [Bool.and_eq_true, beq_iff_eq, beq_iff_eq] at this
    exact ⟨this.1, this.2, rfl⟩

/-- A row that is entered is among those that are written. -/
theorem mem_putRow (m : RowRec) (s : State) : m ∈ (putRow m s).rows := by
  unfold putRow
  split
  · next h =>
    obtain ⟨x, hx, hm⟩ := List.any_eq_true.1 h
    rw [Bool.and_eq_true, beq_iff_eq, beq_iff_eq] at hm
    exact List.mem_map.2 ⟨x, hx, if_pos hm⟩
  · exact List.mem_append_right _ (List.mem_singleton.2 rfl)

theorem dropWaiting_rows (z e : Nat) (s : State) : (dropWaiting z e s).rows = s.rows := rfl

theorem mem_layRow (z r blocks : Nat) (s : State) : ∃ x ∈ (layRow z r blocks s).rows, x.zone = z ∧ x.row = r ∧ x.blocks = blocks := by
  unfold layRow
  exact ⟨_, mem_putRow _ _, mergeRow_of ..⟩

/-- The next row of a zone whose blocks are all there is entered among the rows. -/
theorem rowSubmit_row {z : Nat} {s : State} (ha : rowsAllowed s = true) (hf : (s.zone z).finished = false)
    (hs : servedBy 0 s = some z) (hahead : aheadOk z (nextRow z s) s = true) (hres : s.acd.resync.contains z = false)
    (hready : s.fb * s.k * (nextRow z s + 1) ≤ (s.zone z).ready) (hk : s.k ≠ 0) :
    ∃ x ∈ (rowSubmit z s).rows, x.zone = z ∧ x.row = nextRow z s ∧ x.blocks = s.fb * s.k := by
  have h : rowSubmit z s = dropWaiting z (s.fb * s.k * (nextRow z s + 1))
      (layRow z (nextRow z s) (s.fb * s.k) (showFront z (nextRow z s) (s.fb * s.k) s)) := by
    rw [rowSubmit, ha, hf, hs, hahead, hres, decide_eq_false (Nat.not_lt.2 hready), decide_eq_false hk,
      beq_self_eq_true]
    rfl
  rw [h, dropWaiting_rows]
  exact mem_layRow z (nextRow z s) (s.fb * s.k) _

/-! ## Writing -/

/-- Where a frame lies does not change with the operations in flight. -/
theorem addOp_slotOf (o : MediaOp) (x b i : Nat) (s : State) : slotOf x b i (addOp o s) = slotOf x b i s := by
  have hd : (addOp o s).desc x = s.desc x := by
    rw [State.desc, State.bit_eq, addOp_get s o (by decide +kernel), State.desc, State.bit_eq]
    rfl
  unfold slotOf
  rw [hd]
  rfl

theorem addOp_rowOverflows (o : MediaOp) (m : RowRec) (s : State) : rowOverflows m (addOp o s) = rowOverflows m s := by
  simp only [rowOverflows, addOp_slotOf]

/-- A row without a frame that begins a band clears no deferred skips. -/
theorem clearFirst_none {m : RowRec} {s : State} (h : m.frames.filter (fun f => f.idx == 0 && !f.written) = []) : clearFirst m s = s := by
  have hn : m.frames.filter (fun f => f.idx == 0 && !f.written && !frameBusy m.zone m.row f.pos s) = [] :=
    List.filter_eq_nil_iff.2 fun f hf hx => List.filter_eq_nil_iff.1 h f hf (Bool.and_eq_true_iff.1 hx).1
  rw [clearFirst, hn, forAll_nil]

theorem takeRow_fits {m : RowRec} {s : State} (h : m.frames.filter (fun f => f.idx == 0 && !f.written) = [])
    (ho : rowOverflows m s = false) : takeRow m s = fillJobs { s with
      rows := s.rows.map fun x => if x.zone = m.zone ∧ x.row = m.row then { x with submitted := true } else x } := by
  rw [takeRow, clearFirst_none h, if_neg (by rw [ho]; decide)]

/-! ## Commit -/

/-- A full row that is committed leaves the rows, and its zone's write pointer stands behind it. -/
theorem rowCommit_full {z : Nat} {x : RowRec} {s : State} (h : rowReady z s = some x) (hb : 8 * s.k ≤ x.blocks) :
    ((rowCommit z s).zone z).wp = Nat.max (s.zone z).wp (8 * s.k * x.row + x.blocks) ∧ (rowCommit z s).rows = s.rows.erase x ∧
      (rowCommit z s).get ACD_LAZY 0 = 1 := by
  unfold rowCommit
  rw [h]
  simp only [hb, if_true]
  refine ⟨?_, ?_, State.get_set_self ..⟩
  · split
    · split <;> exact congrArg Zone.wp (NMap.get_put_self ..)
    · exact congrArg Zone.wp (NMap.get_put_self ..)
  · split
    · split <;> rfl
    · rfl

/-- Settles O29: the submission, the writing and the commit of a row of the zone, and its frontier. -/
theorem rowsAdvance : Obligations.RowsAdvance := by
  unfold Obligations.RowsAdvance
  intro s z hd
  refine ⟨fun hr ha hf hs hahead hres hready hk hl => ⟨rowSubmit z s, ?_, rowSubmit_row ha hf hs hahead hres hready hk⟩,
    fun r mtag x hr hx hfin hsub hfirst ho => ?_, fun x hr hx hb => ⟨rowCommit z s, ?_, rowCommit_full hx hb⟩, fun hr hx => ?_,
    fun hr ha he hlt => ?_⟩
  · rw [exec_rowSubmit, execRowSubmit]
    exact done_onMedia hr (by simp [hd, submitRow, hl])
  · have hm := List.find?_some hx
    rw [Bool.and_eq_true, beq_iff_eq, beq_iff_eq] at hm
    obtain ⟨rfl, rfl⟩ := hm
    rw [exec_writeRow, execWriteRow]
    refine done_onMedia hr ?_
    rw [onDrive, if_pos hd, writeRow, hx]
    simp only [hfin, hsub, Bool.false_and, Bool.or_self, Bool.false_eq_true, if_false]
    rw [takeRow_fits hfirst (by rw [addOp_rowOverflows, ho])]
    rfl
  · rw [exec_rowCommit, execRowCommit]
    exact done_onMedia hr (if_pos hd)
  · rw [exec_rowCommit, execRowCommit]
    exact done_onMedia hr (by rw [onDrive, if_pos hd, rowCommit, hx])
  · rw [exec_frontierWrite, execFrontierWrite]
    exact done_onMedia hr (by simp [tryFrontier, hd, ha, he, hlt])

end Sys2Proof.Machine
end

section
/-! PROOFS. The accord engine (spec/04): its control, its passes, its journal and its restart. -/

namespace Sys2Proof.Machine

set_option Elab.async false

/-! ## Control (R11, R199, R204, R206, R213, R227, R252) -/

/-- Tables that firmware is not to read from media are not read. -/
theorem readTables_of {s : State} (h : s.tables.stage ≠ 1) : readTables s = s := by
  rw [readTables, beq_false_of_ne h]
  rfl

section
variable {s t : State} (hr : reaches 8 s = true)
include hr

theorem exec_acdRun_of (hs : s.tables.stage ≠ 1) (h : reachPhase 9 (acdRun true s) = t) :
    exec (.acdRun true) s = .next (s.settled t) := by
  rw [exec_acdRun, execAcdRun]
  exact done_onMedia hr (by rw [if_pos rfl, readTables_of hs]; exact h)

theorem exec_acdLose_of {v : Word} (h : loseByWrite v.toNat s = t) : exec (.acdLose v) s = .next (s.settled t) := by
  rw [exec_acdLose, execAcdLose]
  exact done_onMedia hr h

theorem exec_streamTurn_of {d : Fin 2} (h : streamTurn d s = t) : exec (.streamTurn d) s = .next (s.settled t) := by
  rw [exec_streamTurn, execStreamTurn]
  exact done_onMedia hr h

end

/-- Settles O30: the engine's run by its role, the table and the members by the guards of each command. -/
theorem accordControl : Obligations.AccordControl := by
  unfold Obligations.AccordControl
  intro s hr
  refine ⟨fun hs hn hrun => exec_acdRun_of hr hs ?_, fun hs hn => exec_acdRun_of hr hs ?_, ?_, fun hseed hn => ?_, fun hb he => ?_, fun hold => ?_,
    fun v hd hk hm => exec_acdLose_of hr ?_, fun v hk => exec_acdLose_of hr ?_, fun side z hst hp => exec_streamTurn_of hr ?_,
    fun side hst => exec_streamTurn_of hr ?_⟩
  · simp [acdRun, hn, hrun]
  · simp [acdRun, hn]
  · rw [exec_acdRun, execAcdRun]
    exact done_onMedia hr (by simp [acdRun])
  · rw [exec_placementGen, execPlacementGen]
    exact done_onMedia hr (by simp [placementGen, hseed, hn])
  · rw [exec_placementGenDone, execPlacementGenDone]
    exact done_onMedia hr (by rw [placementGenDone, if_neg (by simp [hb]), if_neg (by simp [he])])
  · rw [exec_rbldHold, execRbldHold]
    exact done_onMedia hr rfl
  · rw [loseByWrite, if_pos hd, acdLose]
    exact if_pos ⟨hk, hm⟩
  · simp [loseByWrite, acdLose, hk]
  · rw [streamTurn, if_neg (by simp [hst]), hp]
    rfl
  · rw [streamTurn, if_pos hst]

/-! ## The steps of a rebuild pass (R208, R222–R231) -/

/-- The running pass on a row that exists, through the side that processes its zone. -/
theorem rebuildRow_of {p d mtag : Nat} {s : State} (hruns : rebuildRuns s = true) (hp : runningPass s = some p)
    (hdef : (s.acd.deferred.find? fun e => e.1 == s.get ACD_PSER p && e.2.2.2 == d) = none) (hend : s.on ACD_PEND p = false)
    (hrow : s.get ACD_NOWROW p < zoneRows (s.get ACD_NOWZONE p) s) (hside : s.get ACD_PSIDE p = d) :
    rebuildRow d mtag s = if passTakes p (s.get ACD_NOWZONE p) (s.get ACD_NOWROW p) s then
      startRow (s.get ACD_PSER p) (s.get ACD_NOWZONE p) (s.get ACD_NOWROW p) mtag d false (advancePass p s) else advancePass p s := by
  have hseat : seatPass p s = s := if_pos hrow
  rw [rebuildRow, if_neg (by simp [hruns]), hp]
  dsimp only
  rw [hdef]
  dsimp only
  rw [hseat, if_neg (by simp [hend]), if_neg (by simp [hside])]
  rfl

section
variable {s t : State} (hr : reaches 8 s = true)
include hr

theorem exec_rebuildRow_of {d : Fin 2} {mtag : BitVec 24} (h : rebuildRow d mtag.toNat s = t) :
    exec (.rebuildRow ⟨d, mtag⟩) s = .next (s.settled t) := by
  rw [exec_rebuildRow, execRebuildRow]
  exact done_onMedia hr h

end

/-- Settles O31: a row by the losses of its positions, the batch and the cursor by their guards. -/
theorem rebuildSteps : Obligations.RebuildSteps := by
  unfold Obligations.RebuildSteps
  intro s p hr
  refine ⟨fun side mtag hruns hp hdef hend hrow hside => ⟨fun ht => exec_rebuildRow_of hr ?_, fun ht => exec_rebuildRow_of hr ?_⟩,
    fun side mtag hruns => exec_rebuildRow_of hr ?_, fun hrun hne hp hb => ?_, fun hp hv hend hset => ?_⟩
  · rw [rebuildRow_of hruns hp hdef hend hrow hside, if_pos ht]
  · rw [rebuildRow_of hruns hp hdef hend hrow hside, if_neg (by simp [ht])]
  · rw [rebuildRow, if_pos (by simp [hruns])]
  · rw [exec_rebuildBatchWrite, execRebuildBatchWrite]
    refine done_onMedia hr ?_
    rw [rebuildBatchWrite, hp, Option.getD_some, if_neg (by simp [hrun, hne, hb])]
  · rw [exec_cursorUpdate, execCursorUpdate]
    refine done_onMedia hr ?_
    rw [cursorUpdate, hp]
    exact if_neg (by simp [Nat.not_lt.2 hv, hend, hset])

end Sys2Proof.Machine
end

section
/-! PROOFS. The journal and the checkpoints of the accord engine (spec/04, R238–R245). -/

namespace Sys2Proof.Machine

set_option Elab.async false

/-! ## Commands to the workers of a shelf -/

@[simp] theorem media_set (s : State) (f : Field) (i v : Nat) : (s.set f i v).media = s.media := rfl
@[simp] theorem media_add (s : State) (f : Field) (i v : Nat) : (s.add f i v).media = s.media := rfl
@[simp] theorem media_bump (s : State) (f : Field) (i : Nat) : (s.bump f i).media = s.media := rfl
@[simp] theorem media_setMany (s : State) (i : Nat) (l : List (Field × Nat)) : (s.setMany i l).media = s.media := by
  induction l generalizing s with
  | nil => rfl
  | cons e l ih => rw [State.setMany_cons, ih, media_set]

theorem peerSend_keeps (slot qid : Nat) (kind : PeerKind) (wz off len : Nat) (s : State) :
    Keeps [MGR_CID] s (peerSend slot qid kind wz off len s) ∧ (peerSend slot qid kind wz off len s).media = s.media := by
  unfold peerSend
  split
  · exact ⟨Keeps.refl, rfl⟩
  · dsimp only
    split
    · exact ⟨(keeps_emit _).2 ((keeps_set (by decide +kernel) _ _).2 Keeps.refl), rfl⟩
    · exact ⟨(keeps_set (by decide +kernel) _ _).2 Keeps.refl, rfl⟩

theorem reservedSend_keeps (slot y : Nat) (kind : PeerKind) (off len : Nat) (s : State) :
    Keeps [MGR_CID] s (reservedSend slot y kind off len s) ∧ (reservedSend slot y kind off len s).media = s.media :=
  peerSend_keeps ..

/-- The fields that the journal of a shelf changes. -/
def shelfFields : List Field := [MGR_CID, MGR_JRNLA, MGR_JRNLWP, MGR_JRNLSEQ]

theorem shelfRecord_keeps (s : State) : Keeps shelfFields s (shelfRecord s) ∧ (shelfRecord s).media = s.media := by
  unfold shelfRecord
  split
  · exact ⟨Keeps.refl, rfl⟩
  · split
    · exact ⟨Keeps.refl, rfl⟩
    · refine forAll_keeps s (fun t => Keeps shelfFields s t ∧ t.media = s.media) _ _ (fun x t ht => ?_) ⟨Keeps.refl, rfl⟩
      extract_lets a b u
      obtain ⟨hk, hm⟩ := reservedSend_keeps x (journalZone b t) (.journal _) (t.get MGR_JRNLWP (2 * x + b)) _ t
      exact ⟨(keeps_set (by decide +kernel) _ _).2 ((keeps_set (by decide +kernel) _ _).2 ((keeps_set (by decide +kernel) _ _).2
        (ht.1.trans (hk.mono (by decide +kernel))))), by rw [media_set, media_add, media_set]; exact hm.trans ht.2⟩

theorem shelfSave_keeps (s : State) : Keeps shelfFields s (shelfSave s) ∧ (shelfSave s).media = s.media := by
  unfold shelfSave
  split
  · exact ⟨Keeps.refl, rfl⟩
  · split
    · exact ⟨Keeps.refl, rfl⟩
    · refine forAll_keeps s (fun t => Keeps shelfFields s t ∧ t.media = s.media) _ _ (fun x t ht => ?_) ⟨Keeps.refl, rfl⟩
      extract_lets y
      obtain ⟨hk, hm⟩ := reservedSend_keeps x y (.logReset _) 0 0 t
      obtain ⟨hk', hm'⟩ := reservedSend_keeps x y (.ckpt _) 0 _ (reservedSend x y (.logReset _) 0 0 t)
      exact ⟨ht.1.trans ((hk.trans hk').mono (by decide +kernel)), hm'.trans (hm.trans ht.2)⟩

theorem shelfCovered_keeps (n : Nat) (s : State) : Keeps shelfFields s (shelfCovered n s) ∧ (shelfCovered n s).media = s.media := by
  unfold shelfCovered
  split
  · exact ⟨Keeps.refl, rfl⟩
  · refine forBelow_keeps s (fun t => Keeps shelfFields s t ∧ t.media = s.media) _ _ (fun i t ht => ?_) ⟨Keeps.refl, rfl⟩
    split
    · obtain ⟨hk, hm⟩ := reservedSend_keeps (i / 2) (journalZone (i % 2) t) (.logReset (2 + i % 2)) 0 0 t
      exact ⟨(keeps_set (by decide +kernel) _ _).2 (ht.1.trans (hk.mono (by decide +kernel))), by rw [media_set]; exact hm.trans ht.2⟩
    · exact ht

/-! ## Checkpoints (R243, R244) -/

/-- The fields of a checkpoint. -/
def saveFields : List Field := shelfFields ++ [ACD_KSEQ, ACD_KBUSY, ACD_KMIN, ACD_KDUE, ACD_CKPT_MEM_M0, ACD_CKPT_MEM_M1, ACD_CKPT_MEM_M2,
  ACD_CKPT_MEM_M3]

/-- The fields of a checkpoint that is begun. -/
def saveHeader (s : State) : State :=
  (s.bump ACD_KSEQ 0).setMany 0 [(ACD_KBUSY, 1), (ACD_KMIN, 1), (ACD_KDUE, 0), (ACD_CKPT_MEM_M0, (stackMembers 0 s).headD 0),
    (ACD_CKPT_MEM_M1, ((stackMembers 0 s).drop 1).headD 0), (ACD_CKPT_MEM_M2, (stackMembers 1 s).headD 0),
    (ACD_CKPT_MEM_M3, ((stackMembers 1 s).drop 1).headD 0)]

/-- A checkpoint is being written to media. -/
def saveMedia (t : State) : State := { t with media := { t.media with saving := some (acdImage (t.get ACD_JSEQ 0) (t.get ACD_KSEQ 0) t) } }

theorem startCheckpoint_eq (s : State) : startCheckpoint s =
    if s.on ACD_KBUSY 0 || s.on ACD_KMIN 0 then s.set ACD_KDUE 0 1 else shelfSave (saveMedia (saveHeader s)) := by
  unfold startCheckpoint saveMedia saveHeader
  rfl

theorem get_saveMedia (t : State) (f : Field) (i : Nat) : (saveMedia t).get f i = t.get f i := rfl
theorem on_saveMedia (t : State) (f : Field) (i : Nat) : (saveMedia t).on f i = t.on f i := rfl
theorem keeps_saveMedia {fs : List Field} {s : State} (t : State) : Keeps fs s (saveMedia t) ↔ Keeps fs s t := Iff.rfl

theorem saveHeader_keeps (s : State) : Keeps saveFields s (saveHeader s) := by
  simp (disch := decide +kernel) [saveHeader, State.bump_eq, Keeps.refl]

theorem startCheckpoint_keeps (s : State) :
    Keeps saveFields s (startCheckpoint s) ∧ (startCheckpoint s).media.recording = s.media.recording := by
  rw [startCheckpoint_eq]
  split
  · exact ⟨(keeps_set (by decide +kernel) _ _).2 Keeps.refl, rfl⟩
  · obtain ⟨hk, hm⟩ := shelfSave_keeps (saveMedia (saveHeader s))
    refine ⟨((keeps_saveMedia _).2 (saveHeader_keeps s)).trans (hk.mono (by decide +kernel)), ?_⟩
    rw [hm, saveMedia, saveHeader, media_setMany, media_bump]

/-- A checkpoint that is begun while none is written and CKMIN has passed. -/
theorem startCheckpoint_begun {s : State} (hb : s.on ACD_KBUSY 0 = false) (hm : s.on ACD_KMIN 0 = false) :
    (startCheckpoint s).on ACD_KBUSY 0 = true ∧ (startCheckpoint s).on ACD_KMIN 0 = true ∧
      (startCheckpoint s).get ACD_KSEQ 0 = (s.get ACD_KSEQ 0 + 1) % 2 ^ ACD_KSEQ.width ∧ (startCheckpoint s).media.saving.isSome = true := by
  obtain ⟨hk, hmed⟩ := shelfSave_keeps (saveMedia (saveHeader s))
  rw [startCheckpoint_eq, hb, hm, Bool.or_self, if_neg (by decide), hk.on 0 (by decide +kernel), hk.on 0 (by decide +kernel),
    hk.get 0 (by decide +kernel), hmed, on_saveMedia, on_saveMedia, get_saveMedia]
  refine ⟨?_, ?_, ?_, rfl⟩
  · simp (disch := decide +kernel) [saveHeader, State.bump_eq]
  · simp (disch := decide +kernel) [saveHeader, State.bump_eq]
  · simp (disch := decide +kernel) [saveHeader, State.bump_eq]

/-! ## Records (R238–R242) -/

/-- The fields of a record that is begun. -/
def recordHeader (s : State) : State :=
  (s.bump ACD_JSEQ 0).setMany 0 [(ACD_JBUSY, 1), (ACD_JREQ, 0), (ACD_LAZY, 0), (ACD_JCLEAN, (s.on ACD_CTL_CLEAN 0 && rowsIdle s).toNat)]

/-- A record is being written to media. -/
def recordMedia (t : State) : State :=
  { t with media := { t.media with recording := some (acdImage (t.get ACD_JSEQ 0) (((newestSave t).map (·.ckpt)).getD 0) t) } }

theorem get_recordMedia (t : State) (f : Field) (i : Nat) : (recordMedia t).get f i = t.get f i := rfl

/-- The journal's members are chosen anew with each record. -/
theorem placeJournal_get {f : Field} (hf : ([ACD_JRNL_MEM_A, ACD_JRNL_MEM_B, ACD_TURNOUT].any fun g => g.id == f.id) = false)
    (hb : byRaise f.id = false) (i : Nat) (s : State) : (placeJournal s).get f i = s.get f i := by
  simp only [List.any_cons, List.any_nil, Bool.or_false, Bool.or_eq_false_iff, beq_eq_false_iff_ne] at hf
  unfold placeJournal
  extract_lets u l p t
  have ht : t.get f i = s.get f i := by
    simp only [t, State.setMany_cons, State.setMany_nil, get_set_ne _ _ _ _ hf.1, get_set_ne _ _ _ _ hf.2.1, get_set_ne _ _ _ _ hf.2.2]
  split
  · rw [get_pulse _ _ hb, ht]
  · exact ht

/-- A record is begun. -/
def recordBegun (s : State) : State := shelfRecord (recordMedia (placeJournal (recordHeader s)))

/-- A checkpoint may follow a record that is begun. -/
theorem startRecord_eq {s : State} (h : s.on ACD_JBUSY 0 = false) :
    startRecord s = startCheckpoint (recordBegun s) ∨ startRecord s = recordBegun s := by
  unfold startRecord
  rw [if_neg (by simp [h])]
  extract_lets moved t t'
  split
  · exact .inl rfl
  · exact .inr rfl

/-- What a record begun keeps of its header. -/
theorem startRecord_get {f : Field} {s : State} (h : s.on ACD_JBUSY 0 = false) (hf : ([ACD_JRNL_MEM_A, ACD_JRNL_MEM_B, ACD_TURNOUT].any fun g => g.id == f.id) = false)
    (hb : byRaise f.id = false) (hs : ∀ g ∈ saveFields, g.id ≠ f.id) (i : Nat) : (startRecord s).get f i = (recordHeader s).get f i := by
  have hts : (recordBegun s).get f i = (recordHeader s).get f i := by
    rw [recordBegun, ((shelfRecord_keeps _).1.mono (fs := saveFields) (by decide +kernel)).get i hs, get_recordMedia, placeJournal_get hf hb]
  rcases startRecord_eq h with hr | hr
  · rw [hr, (startCheckpoint_keeps _).1.get i hs, hts]
  · rw [hr, hts]

theorem startRecord_begun {s : State} (h : s.on ACD_JBUSY 0 = false) : (startRecord s).on ACD_JBUSY 0 = true ∧
    (startRecord s).get ACD_JSEQ 0 = (s.get ACD_JSEQ 0 + 1) % 2 ^ ACD_JSEQ.width ∧ (startRecord s).media.recording.isSome = true := by
  refine ⟨?_, ?_, ?_⟩
  · rw [State.on_eq, startRecord_get h (by decide +kernel) (by decide +kernel) (by decide +kernel)]
    simp (disch := decide +kernel) [recordHeader, State.bump_eq]
  · rw [startRecord_get h (by decide +kernel) (by decide +kernel) (by decide +kernel)]
    simp (disch := decide +kernel) [recordHeader, State.bump_eq]
  · have hm : (recordBegun s).media.recording.isSome = true := by
      rw [recordBegun, (shelfRecord_keeps _).2]
      rfl
    rcases startRecord_eq h with hr | hr
    · rw [hr, (startCheckpoint_keeps _).2, hm]
    · rw [hr, hm]

/-! ## What has been written -/

/-- A record stands in the journal of the member it is put to. -/
theorem mem_putRecord (x : Nat) (r : AcdImage) (m : AcdMedia) : r ∈ NMap.get [] (putRecord x r m).journal x := by
  rw [putRecord, NMap.get_put_self]
  exact List.mem_cons_self ..

/-- The newest record is not dropped from a journal when it is put to another. -/
theorem mem_putRecord_of {x y : Nat} {r : AcdImage} {m : AcdMedia} (h : r ∈ NMap.get [] m.journal x) :
    r ∈ NMap.get [] (putRecord y r m).journal x := by
  by_cases hxy : y = x
  · subst hxy
    exact mem_putRecord ..
  · rw [putRecord, NMap.get_put_ne _ _ _ hxy]
    exact h

/-- A record that has been written whole, before what it has been asked for is begun. -/
def recordWritten (r : AcdImage) (s : State) : State :=
  let s := (putCopies ⟨false, false, false⟩ r s).setMany 0 [(ACD_JBUSY, 0), (ACD_STS_JRNL_OK, 1)]
  let t := s.set ACD_JRNL_SEQ 0 r.seq
  let t := { t with
    zones := t.zones.map fun e => (e.1, { e.2 with durable := match r.zones.find e.1 with
      | some z => if z.gen = e.2.gen then Nat.max e.2.durable z.wp else e.2.durable
      | none => e.2.durable })
    acd := { t.acd with skips := t.acd.skips.filter fun k => !r.acd.skips.contains k } }
  let t := if r.clean then t else t.set ACD_PRECLEAR 0 0
  forAll r.olds (fun p u => if u.on ACD_OLD p then u.setMany p [(ACD_OLD, 0), (ACD_PASS_VALID, 0)] else u) t

theorem journalWritten_whole {r : AcdImage} {s : State} (h : s.media.recording = some r) :
    journalWritten ⟨false, false, false⟩ s = runRequests (recordWritten r s) := by
  rw [journalWritten, h]
  rfl

/-- Passes that a record has replaced are given up. -/
theorem dropOlds_keeps (l : List Nat) (s : State) :
    Keeps [ACD_OLD, ACD_PASS_VALID] s (forAll l (fun p u => if u.on ACD_OLD p then u.setMany p [(ACD_OLD, 0), (ACD_PASS_VALID, 0)] else u) s) ∧
      (forAll l (fun p u => if u.on ACD_OLD p then u.setMany p [(ACD_OLD, 0), (ACD_PASS_VALID, 0)] else u) s).media = s.media := by
  refine forAll_keeps s (fun t => Keeps [ACD_OLD, ACD_PASS_VALID] s t ∧ t.media = s.media) _ _ (fun p t ht => ?_) ⟨Keeps.refl, rfl⟩
  split
  · refine ⟨?_, by rw [media_setMany]; exact ht.2⟩
    rw [State.setMany_cons, State.setMany_cons, State.setMany_nil, keeps_set (by decide +kernel), keeps_set (by decide +kernel)]
    exact ht.1
  · exact ht

theorem recordWritten_media (r : AcdImage) (s : State) : (recordWritten r s).media =
    { putRecord (s.get ACD_JRNL_MEM_B 0) r (putRecord (s.get ACD_JRNL_MEM_A 0) r s.media) with recording := none } := by
  unfold recordWritten
  extract_lets a b e c d
  rw [(dropOlds_keeps ..).2]
  have hd : d.media = a.media := by unfold d; split <;> rfl
  rw [hd]
  exact media_setMany ..

theorem recordWritten_get {f : Field} (hf : ∀ g ∈ [ACD_OLD, ACD_PASS_VALID, ACD_PRECLEAR], g.id ≠ f.id) (i : Nat) (r : AcdImage) (s : State) :
    (recordWritten r s).get f i = (((s.set ACD_JBUSY 0 0).set ACD_STS_JRNL_OK 0 1).set ACD_JRNL_SEQ 0 r.seq).get f i := by
  unfold recordWritten
  extract_lets a b e c d
  have hd : Keeps [ACD_OLD, ACD_PASS_VALID, ACD_PRECLEAR] c d := by
    unfold d
    split
    · exact Keeps.refl
    · exact (keeps_set (by decide +kernel) _ _).2 Keeps.refl
  rw [((dropOlds_keeps _ d).1.mono (fs := [ACD_OLD, ACD_PASS_VALID, ACD_PRECLEAR]) (by decide +kernel)).get i hf, hd.get i hf]
  rfl

/-! ## Checkpoints that have been written (R243, R244) -/

/-- An image that is put to a list of places stands at each of them. -/
theorem find_putAll {l : List Nat} {i : Nat} (h : i ∈ l) (c : AcdImage) (m : NMap AcdImage) :
    (l.foldl (fun m i => m.put i c) m).find i = some c := by
  induction l generalizing m with
  | nil => cases h
  | cons x l ih =>
    rw [List.foldl_cons]
    by_cases hi : i ∈ l
    · exact ih hi _
    · obtain rfl : i = x := (List.mem_cons.1 h).resolve_right hi
      have hn (m : NMap AcdImage) : (l.foldl (fun m i => m.put i c) m).find i = m.find i := by
        clear ih h
        induction l generalizing m with
        | nil => rfl
        | cons y l ih =>
          rw [List.foldl_cons, ih (fun h => hi (List.mem_cons_of_mem _ h)),
            NMap.find_put_ne _ _ fun e : y = i => hi (e ▸ List.mem_cons_self ..)]
      rw [hn, NMap.find_put_self]

/-- A checkpoint that has been written on its members, before one that is due is begun. -/
def saveWritten (c : AcdImage) (s : State) : State := { s.set ACD_KBUSY 0 0 with
  media := { s.media with saves := (saveSlots c s).foldl (fun m i => m.put i c) s.media.saves, saving := none }
  acd := { s.acd with events := s.acd.events.drop c.acd.events.length } }

theorem get_saveWritten (c : AcdImage) (s : State) (f : Field) (i : Nat) : (saveWritten c s).get f i = (s.set ACD_KBUSY 0 0).get f i := rfl

theorem checkpointWritten_whole {c : AcdImage} {s : State} (h : s.media.saving = some c) (hd : s.on ACD_KDUE 0 = false) :
    checkpointWritten false s = shelfCovered c.seq (saveWritten c s) := by
  have hdue : (shelfCovered c.seq (saveWritten c s)).on ACD_KDUE 0 = false := by
    rw [(shelfCovered_keeps ..).1.on 0 (by decide +kernel), State.on_eq, get_saveWritten, get_set_ne _ _ _ _ (by decide +kernel), ← State.on_eq, hd]
  have hw : checkpointWritten false s = dueCheckpoint (shelfCovered c.seq (saveWritten c s)) := by
    rw [checkpointWritten, h]
    rfl
  rw [hw, dueCheckpoint, hdue]
  rfl

/-! ## The obligation -/

theorem recordFailed_drive {f : RecordFail} {s : State} (h : driveRole s = true) : recordFailed f s = pulse 215 0xFF (s.set ACD_JREQ 0 1) := by
  have : driveRole (s.set ACD_JREQ 0 1) = true := by
    rw [driveRole, is_set_ne _ _ _ _ _ (by decide +kernel), ← driveRole, h]
  rw [recordFailed, if_pos this]

/-- Whether row writes are in progress does not depend on the engine's fields. -/
theorem rowsIdle_set {f : Field} (h : f.id ≠ FMT_WR_VERIFY.id) (s : State) (i v : Nat) : rowsIdle (s.set f i v) = rowsIdle s := by
  rw [rowsIdle, on_set_ne _ _ _ _ h, rowsIdle]
  rfl

/-- Settles O32: a record and a checkpoint are begun when none is under way, and end as what their members hold. -/
theorem journalAndCheckpoints : Obligations.JournalAndCheckpoints := by
  unfold Obligations.JournalAndCheckpoints
  intro s hr
  refine ⟨fun hb => ⟨startRecord s, ?_, startRecord_begun hb⟩, fun hb => ?_, fun hl hd hb => ⟨startRecord s, ?_, (startRecord_begun hb).1,
    (startRecord_begun hb).2.1⟩, fun r hrec => ⟨recordWritten r s, ?_, ?_, ?_, ?_, ?_, ?_, ?_⟩, fun r f hrec hd hf => ?_,
    fun hb hm => ⟨startCheckpoint s, ?_, startCheckpoint_begun hb hm⟩, fun hm => ?_,
    fun c hc hd => ⟨shelfCovered c.seq (saveWritten c s), ?_, fun i hi => ?_, ?_, ?_⟩, fun hd => ?_, fun hb hi => ?_, fun hi => ?_, fun hc => ?_⟩
  · rw [exec_journalInterval, execJournalInterval]
    exact done_onMedia hr rfl
  · rw [exec_journalInterval, execJournalInterval]
    exact done_onMedia hr (by rw [journalInterval, startRecord, if_pos hb])
  · rw [exec_journalLazy, execJournalLazy]
    exact done_onMedia hr (by rw [journalLazy, hl, hd]; rfl)
  · rw [exec_journalWritten, execJournalWritten]
    exact done_onMedia hr (journalWritten_whole hrec)
  · rw [recordWritten_media]
    exact mem_putRecord_of (mem_putRecord ..)
  · rw [recordWritten_media]
    exact mem_putRecord ..
  · rw [recordWritten_media]
  · rw [recordWritten_get (by decide +kernel), State.get_set_self]
  · rw [recordWritten_get (by decide +kernel)]
    simp (disch := decide +kernel)
  · rw [recordWritten_get (by decide +kernel), get_set_ne _ _ _ _ (by decide +kernel), State.get_set_self]
    rfl
  · rw [exec_journalWritten, execJournalWritten]
    refine done_onMedia hr ?_
    rw [journalWritten, hrec]
    dsimp only
    rw [if_pos hf, recordFailed_drive]
    simp (disch := decide +kernel) only [driveRole, State.setMany_cons, State.setMany_nil, is_set_ne]
    exact hd
  · rw [exec_checkpointTimer, execCheckpointTimer]
    exact done_onMedia hr rfl
  · rw [exec_checkpointTimer, execCheckpointTimer]
    exact done_onMedia hr (by rw [checkpointTimer, startCheckpoint, hm, Bool.or_true, if_pos rfl])
  · rw [exec_checkpointWritten, execCheckpointWritten]
    exact done_onMedia hr (checkpointWritten_whole hc hd)
  · rw [(shelfCovered_keeps ..).2]
    exact find_putAll hi ..
  · rw [(shelfCovered_keeps ..).2]
    rfl
  · rw [(shelfCovered_keeps ..).1.get 0 (by decide +kernel), get_saveWritten, State.get_set_self]
    rfl
  · rw [exec_ckminExpiry, execCkminExpiry]
    refine done_onMedia hr ?_
    rw [ckminExpiry, dueCheckpoint, on_set_ne _ _ _ _ (by decide +kernel), hd]
    rfl
  · rw [exec_acdClean, execAcdClean]
    exact done_onMedia hr (by simp (disch := decide +kernel) [acdClean, startClean, rowsIdle_set, hb, hi])
  · rw [exec_acdClean, execAcdClean]
    exact done_onMedia hr (by simp (disch := decide +kernel) [acdClean, startClean, rowsIdle_set, hi])
  · rw [exec_acdCleanClr, execAcdCleanClr]
    exact done_onMedia hr (if_pos hc)

end Sys2Proof.Machine
end

section
/-! PROOFS. Targets, run-ahead targets and the timing table of the servo (spec/05, R263, R278, R300). -/

namespace Sys2Proof.Machine

set_option Elab.async false

section
variable {s t u : State}

/-- Reads of the state that a command leaves. -/
@[simp] theorem on_after (f : Field) (i : Nat) : (s.after u).on f i = u.on f i := rfl
@[simp] theorem is_after (f : Field) (i n : Nat) : (s.after u).is f i n = u.is f i n := rfl
@[simp] theorem bit_after (f : Field) (i n : Nat) : (s.after u).bit f i n = u.bit f i n := rfl
@[simp] theorem getI_after (f : Field) (i : Nat) : (s.after u).getI f i = u.getI f i := rfl

end

theorem Keeps.bit {fs : List Field} {s t : State} {f : Field} (h : Keeps fs s t) (i n : Nat) (hf : ∀ g ∈ fs, g.id ≠ f.id) :
    t.bit f i n = s.bit f i n := by
  rw [State.bit_eq, h.get i hf, State.bit_eq]

/-- The bits of a number stay within their width. -/
theorem bits_mod {v lo w n : Nat} (h : w ≤ n) : bits v lo w % 2 ^ n = bits v lo w :=
  Nat.mod_eq_of_lt (lt_of_lt_of_le (Nat.mod_lt _ (Nat.two_pow_pos w)) (Nat.pow_le_pow_right (by decide) h))

/-- The fields that a write of a target changes. -/
def targetFields : List Field := [SRV_TGT_TRACK, SRV_TGT_ENGAGE, SRV_TGT_WRMODE, SRV_TGT_LADDER, SRV_POFS, SRV_TPEND, SRV_HSTS_SETTLED_RD,
  SRV_HSTS_SETTLED_WR, SRV_HSTS_REFUSED, SRV_RDN, SRV_WRN, SRV_HSTS_TSEQ, SRV_NEXTOK, SRV_NEXT_VALID, SRV_CNT_RA_DISC]

/-- A target of head `h` is latched. -/
def latchTarget (h v : Nat) (s : State) : State :=
  (s.setMany h [(SRV_TGT_TRACK, bits v 0 21), (SRV_TGT_ENGAGE, bits v 28 1), (SRV_TGT_WRMODE, bits v 29 1),
    (SRV_TGT_LADDER, bits v 30 1), (SRV_POFS, s.get SRV_TOFS_OFFTRK h), (SRV_TPEND, 1), (SRV_HSTS_SETTLED_RD, 0),
    (SRV_HSTS_SETTLED_WR, 0), (SRV_HSTS_REFUSED, 0), (SRV_RDN, 0), (SRV_WRN, 0)]).bump SRV_HSTS_TSEQ h

section
variable (h v : Nat) (s : State)

theorem latchTarget_keeps : Keeps targetFields s (latchTarget h v s) := by
  simp (disch := decide +kernel) [latchTarget, State.bump_eq, Keeps.refl]

/-- A write of a target while the loops are closed latches it; a run-ahead trajectory may be given up for it. -/
theorem targetWrite_closed (hc : loopsClosed (actOf h) s = true) :
    Keeps [SRV_NEXTOK, SRV_NEXT_VALID, SRV_CNT_RA_DISC] (latchTarget h v s) (targetWrite h v s) := by
  have ht : targetWrite h v s = if v.testBit 30 && (latchTarget h v s).on SRV_NEXTOK (actOf h) then
      ((latchTarget h v s).setMany (actOf h) [(SRV_NEXTOK, 0), (SRV_NEXT_VALID, 0)]).bump SRV_CNT_RA_DISC (actOf h)
      else latchTarget h v s := by
    rw [targetWrite, hc]
    rfl
  rw [ht]
  split
  · simp (disch := decide +kernel) [State.bump_eq, Keeps.refl]
  · exact Keeps.refl

end

/-- The arm position of the targets does not depend on a run-ahead target. -/
theorem targetArm_keeps {s t : State} (a : Nat) (h : Keeps [SRV_NEXT_TRACK, SRV_NEXT_VALID, SRV_NEXTOK] s t) :
    targetArm a t = targetArm a s := by
  have he (x : Nat) : engaged x t = engaged x s := by simp (disch := decide +kernel) only [engaged, headOut, h.on, h.is, h.bit]
  have hd : demands a t = demands a s := by
    simp (disch := decide +kernel) only [demands, he, armDemand, targetPos, h.get, h.getI]
  simp (disch := decide +kernel) only [targetArm, hd, h.getI]

/-- Settles O34: a latched target by the fields it sets, and a timing entry by whether the actuator is parked. -/
theorem targetWrites : Obligations.TargetWrites := by
  unfold Obligations.TargetWrites
  intro s hr
  refine ⟨fun h v hc => ⟨s.after (targetWrite h v.toNat s), ?_, ?_⟩, fun h v hc => ?_, fun a v => ⟨s.after (seekRunAhead a v.toNat s), ?_, ?_⟩,
    fun a v hm => ⟨s.after (srvMemdatWrite a v.toNat s), ?_, ?_⟩, fun a hm => ⟨s.after (srvMemdatRead a s), ?_, ?_⟩⟩
  · rw [exec_targetWrite, execTargetWrite]
    exact done_onBlock hr rfl
  · have hk := targetWrite_closed h v.toNat s hc
    simp (disch := decide +kernel) only [State.after_get, on_after, hk.get, hk.on, keeps_after]
    refine ⟨?_, ?_, ?_, ?_, ?_, ?_, ?_, ?_, ?_, ?_, (latchTarget_keeps ..).trans (hk.mono (by decide +kernel))⟩ <;>
      simp (disch := decide +kernel) [latchTarget, State.bump_eq, bits_mod]
  · rw [exec_targetWrite, execTargetWrite]
    exact done_onBlock hr (by rw [targetWrite, hc]; rfl)
  · rw [exec_seekRunAhead, execSeekRunAhead]
    exact done_onBlock hr rfl
  · rw [seekRunAhead, targetArm_keeps (s := s) _ (by simp (disch := decide +kernel) [Keeps.refl])]
    simp (disch := decide +kernel) [State.setI_eq, Keeps.refl, bits_mod]
  · rw [exec_srvMemdatWrite, execSrvMemdatWrite]
    exact done_onBlock hr rfl
  · refine ⟨fun hp => ?_, fun hp i => ?_, ?_⟩
    · simp (disch := decide +kernel) [srvMemdatWrite, srvMemAdvance, hm, hp, State.bump_eq]
    · simp (disch := decide +kernel) [srvMemdatWrite, srvMemAdvance, hp, State.bump_eq]
    · simp only [srvMemdatWrite, srvMemAdvance, keeps_after]
      split <;> split <;> simp (disch := decide +kernel) [State.bump_eq, Keeps.refl]
  · rw [exec_srvMemdatRead, execSrvMemdatRead]
    exact done_readOn hr rfl
  · refine ⟨?_, ?_, ?_⟩
    · simp only [srvMemdatRead, srvMemAdvance, hm, if_true, State.after_rdata]
      split <;> rfl
    · simp (disch := decide +kernel) [srvMemdatRead, srvMemAdvance, State.bump_eq]
    · simp only [srvMemdatRead, srvMemAdvance, hm, if_true, keeps_after]
      split
      · exact (keeps_set (by decide +kernel) _ _).2 ((keeps_congr rfl rfl).2 Keeps.refl)
      · exact (keeps_congr rfl rfl).2 Keeps.refl

end Sys2Proof.Machine
end

section
/-! PROOFS. Heads at their wedges (spec/05, R255–R287). -/

namespace Sys2Proof.Machine

set_option Elab.async false

/-! ## What a wedge decision leaves alone

The parts of a wedge decision after the demodulation change neither `SRV_POS_GOOD` nor `SRV_SYNCINV`. -/

/-- Every field but the two in which the demodulator reports. -/
def wedgeField : Nat → Bool := fun x => x != SRV_POS_GOOD.id && x != SRV_SYNCINV.id

section
variable {P : State → Prop} (hP : Closed wedgeField P)
include hP

theorem Closed.bySettle_of_wedge : Closed bySettle P := hP.mono fun x hx => by
  have h : ∀ f : Field, bySettle f.id = false → x ≠ f.id := fun f hf e => by rw [e, hf] at hx; cases hx
  simp [wedgeField, h SRV_POS_GOOD (by decide +kernel), h SRV_SYNCINV (by decide +kernel)]

theorem Closed.byRaise_of_wedge : Closed byRaise P := hP.bySettle_of_wedge.ofSettle

theorem wedge_startStroke (h : Nat) (goal : Int) {s : State} (hs : P s) : P (startStroke h goal s) := by
  unfold startStroke
  extract_lets t
  have ht : P t := by
    unfold t
    split
    · exact hs
    · exact hP.setI _ _ _ _ (by decide +kernel) (hP.set _ _ _ _ (by decide +kernel) hs)
  exact hP.setMany _ _ _ (by decide +kernel) (hP.setI _ _ _ _ (by decide +kernel) ht)

theorem wedge_vcmSeek (a : Nat) (from0 target : Int) {s : State} (hs : P s) : P (vcmSeek a from0 target s) := by
  unfold vcmSeek
  extract_lets nh fits u t t2
  have hu : P u := hP.setMany _ _ _ (by decide +kernel) hs
  have ht : P t := by
    unfold t
    split
    · split
      · exact hu
      · exact hP.bump _ _ _ (by decide +kernel) hu
    · exact hs
  have hstart : P (startTrajectory a t) := by
    unfold startTrajectory
    extract_lets u
    refine hP.setMany _ _ _ (by decide +kernel) ?_
    unfold u
    split
    · exact ht
    · exact hP.setI _ _ _ _ (by decide +kernel) (hP.setI _ _ _ _ (by decide +kernel) (hP.set _ _ _ _ (by decide +kernel) ht))
  have ht2 : P t2 := hP.setMany _ _ _ (by decide +kernel) (hP.setI _ _ _ _ (by decide +kernel) hstart)
  refine Closed.forAll _ _ _ (fun x u hu => ?_) (hP.bump _ _ _ (by decide +kernel) ht2)
  split
  · exact wedge_startStroke hP _ _ hu
  · exact hu

theorem wedge_acceptTarget (h : Nat) {s : State} (hs : P s) : P (acceptTarget h s) := by
  unfold acceptTarget
  extract_lets a old t t2 sp
  have ht : P t := hP.setMany _ _ _ (by simp only [List.all_cons, List.all_nil, Bool.and_true]; decide +kernel) hs
  have ht2 : P t2 := by
    unfold t2
    split
    · exact hP.set _ _ _ _ (by decide +kernel) ht
    · exact ht
  split
  · split
    · exact ht2
    · exact hP.set _ _ _ _ (by decide +kernel) ht2
  · split
    · exact ht2
    · split
      · exact hP.setMany _ _ _ (by simp only [List.all_cons, List.all_nil, Bool.and_true]; decide +kernel) ht2
      · split
        · exact wedge_startStroke hP _ _ (hP.set _ _ _ _ (by decide +kernel) ht2)
        · exact wedge_vcmSeek hP _ _ _ ht2

theorem wedge_desaturate (h : Nat) {s : State} (hs : P s) : P (desaturate h s) := by
  unfold desaturate
  extract_lets m a
  split
  · exact hP.set _ _ _ _ (by decide +kernel) hs
  · split
    · exact hP.set _ _ _ _ (by decide +kernel) hs
    · exact hs

theorem wedge_microAdvance (h : Nat) {s : State} (hs : P s) : P (microAdvance h s) := by
  unfold microAdvance
  extract_lets a d dir acc v fits v2 v3 t
  have ht : P t := hP.setI _ _ _ _ (by decide +kernel) (hP.set _ _ _ _ (by decide +kernel) hs)
  split
  · exact hs
  · split
    · split
      · exact hP.set _ _ _ _ (by decide +kernel) ht
      · exact ht
    · exact hP.setI _ _ _ _ (by decide +kernel) (hP.setI _ _ _ _ (by decide +kernel) hs)

theorem wedge_countWedge (h : Nat) (good : Bool) {s : State} (hs : P s) : P (countWedge h good s) := by
  unfold countWedge
  extract_lets a p follow n t1 t2 t3 t4 t5 t6 t7 t8
  have hn (f : Field) (hf : wedgeField f.id = true) (top : Nat) (c : Bool) (t : State) (ht : P t) : P (n f top c t) :=
    hP.set _ _ _ _ hf ht
  have h6 : P t6 := hn _ (by decide +kernel) _ _ _ (hn _ (by decide +kernel) _ _ _ (hn _ (by decide +kernel) _ _ _
    (hn _ (by decide +kernel) _ _ _ (hn _ (by decide +kernel) _ _ _ (hn _ (by decide +kernel) _ _ _ hs)))))
  have h7 : P t7 := hP.dec _ _ _ (by decide +kernel) h6
  have h8 : P t8 := by
    unfold t8
    split
    · exact h7
    · exact hP.set _ _ _ _ (by decide +kernel) h7
  split
  · exact h8
  · exact hP.set _ _ _ _ (by decide +kernel) h8

theorem wedge_clearance (h : Nat) (w : Wedge) (good : Bool) {s : State} (hs : P s) : P (clearance h w good s) := by
  unfold clearance
  extract_lets t m lim u
  have ht : P t := hP.setMany _ _ _ (by decide +kernel) hs
  have hu : P u := by
    unfold u
    split
    · split
      · exact hP.setI _ _ _ _ (by decide +kernel) ht
      · exact ht
    · exact hs
  split
  · exact hP.addSat _ _ _ _ (by decide +kernel) (hP.add _ _ _ _ (by decide +kernel) (hP.set _ _ _ _ (by decide +kernel) hu))
  · exact hu

theorem wedge_sendHeater (h : Nat) {s : State} (hs : P s) : P (sendHeater h s) := by
  unfold sendHeater
  extract_lets c
  split
  · exact hs
  · exact keep_linkSend hP.byRaise_of_wedge _ _ _ (hP.set _ _ _ _ (by decide +kernel) hs)

theorem wedge_enterSeek (a : Nat) {s : State} (hs : P s) : P (enterSeek a s) :=
  wedge_vcmSeek hP _ _ _ (hP.setMany _ _ _ (by decide +kernel) hs)

theorem wedge_loadAcquired (a : Nat) {s : State} (hs : P s) : P (loadAcquired a s) := by
  unfold loadAcquired
  split
  · exact wedge_enterSeek hP _ hs
  · split
    · exact hs
    · exact keep_vcmDrive hP.byRaise_of_wedge _ _ _ (hP.set _ _ _ _ (by decide +kernel) (hP.setI _ _ _ _ (by decide +kernel) hs))

theorem wedge_setInhibit (h : Nat) {s : State} (hs : P s) : P (setInhibit h s) := by
  unfold setInhibit
  split
  · exact hs
  · exact keep_recheckWrite hP.byRaise_of_wedge _ _ (hP.bump _ _ _ (by decide +kernel) (hP.setMany _ _ _ (by decide +kernel) hs))

theorem wedge_showHeads (a : Nat) {s : State} (hs : P s) : P (showHeads a s) := hP.setMany _ _ _ (by simp only [List.all_cons, List.all_nil, Bool.and_true]; decide +kernel) hs

theorem wedge_loadFailed (a : Nat) {s : State} (hs : P s) : P (loadFailed a s) := by
  unfold loadFailed
  extract_lets n t
  have ht : P t := keep_withFollow hP.byRaise_of_wedge _ (keep_retract hP.byRaise_of_wedge _ _ hs)
  split
  · exact hP.setMany _ _ _ (by simp only [List.all_cons, List.all_nil, Bool.and_true]; decide +kernel) ht
  · exact keep_pulse hP.byRaise_of_wedge _ _ _ (hP.setMany _ _ _ (by decide +kernel) ht)

theorem wedge_stepTest (a : Nat) {s : State} (hs : P s) : P (stepTest a s) := by
  unfold stepTest
  extract_lets t
  have ht : P t := hP.set _ _ _ _ (by decide +kernel) hs
  split
  · exact hs
  · split
    · exact wedge_enterSeek hP _ (hP.setBit _ _ _ _ _ (by decide +kernel) (hP.set _ _ _ _ (by decide +kernel) ht))
    · exact wedge_loadFailed hP _ ht

theorem wedge_settlePoint (a : Nat) {s : State} (hs : P s) : P (settlePoint a s) := by
  unfold settlePoint
  split
  · exact keep_withFollow hP.byRaise_of_wedge _ (keep_retract hP.byRaise_of_wedge _ _ (hP.set _ _ _ _ (by decide +kernel) hs))
  · refine Closed.forAll _ _ _ (fun x u hu => ?_) (hP.setMany _ _ _ (by decide +kernel) hs)
    split
    · exact hP.set _ _ _ _ (by decide +kernel) hu
    · exact hu

theorem wedge_estimateArm (a : Nat) {s : State} (hs : P s) : P (estimateArm a s) := by
  unfold estimateArm
  extract_lets u
  have hu : P u := hP.setI _ _ _ _ (by decide +kernel) hs
  split
  · exact hP.set _ _ _ _ (by decide +kernel) hu
  · extract_lets t
    refine hP.set _ _ _ _ (by decide +kernel) (hP.setI _ _ _ _ (by decide +kernel) ?_)
    unfold t
    split
    · exact hP.set _ _ _ _ (by decide +kernel) (hP.setI _ _ _ _ (by decide +kernel) hu)
    · exact hP.setI _ _ _ _ (by decide +kernel) hu

theorem wedge_seekAdvance (a : Nat) {s : State} (hs : P s) : P (seekAdvance a s) := by
  unfold seekAdvance
  extract_lets d dir vmax
  split
  · exact hs
  · split
    · exact hP.set _ _ _ _ (by decide +kernel) hs
    · split
      · exact hP.setI _ _ _ _ (by decide +kernel) (hP.setMany _ _ _ (by decide +kernel) hs)
      · exact hP.setI _ _ _ _ (by decide +kernel) (hP.setI _ _ _ _ (by decide +kernel) (hP.setI _ _ _ _ (by decide +kernel) hs))

theorem wedge_refWedge (a h : Nat) {s : State} (hs : P s) : P (refWedge a h s) := by
  unfold refWedge
  extract_lets t inS all t2 t3 t4
  have ht : P t := hP.setI _ _ _ _ (by decide +kernel) (hP.set _ _ _ _ (by decide +kernel) (wedge_seekAdvance hP _ (wedge_estimateArm hP _ hs)))
  have ht2 : P t2 := hP.set _ _ _ _ (by decide +kernel) ht
  have ht3 : P t3 := by
    unfold t3
    split
    · exact hP.set _ _ _ _ (by decide +kernel) ht2
    · exact ht2
  have ht4 : P t4 := by
    unfold t4
    split
    · exact wedge_stepTest hP _ ht3
    · split
      · exact wedge_settlePoint hP _ ht3
      · exact ht3
  exact keep_triggerSrc hP.byRaise_of_wedge _ _ _ _ ht4

theorem wedge_learnWedge (h : Nat) (w : Wedge) {s : State} (hs : P s) : P (learnWedge h w s) := by
  unfold learnWedge
  split
  · exact hs
  · exact hP.setI _ _ _ _ (by decide +kernel) hs

end

/-- The state in which a wedge is demodulated: a pending target has taken effect. -/
def wedgeState (h : Nat) (w : Wedge) (s : State) : State :=
  if s.on SRV_TPEND h then acceptTarget h (reportPolarity h w s) else reportPolarity h w s

/-- A wedge that is decided: what is demodulated is reported, and no part of the decision after that changes the report. -/
theorem wedgeDecision_report {h : Nat} {w : Wedge} {s : State} (hpop : s.on LAN_POP h = true) (hsig : signalExists h s = true)
    (hdue : (wedgeDue h s).isSome = true) : ∃ u n,
      (∀ P, Closed wedgeField P → P (reportPolarity h w s) → P u) ∧
      (∀ P, Closed wedgeField P → P (u.setMany h [(SRV_POS_GOOD, (wedgeGood h w (wedgeState h w s)).toNat), (SRV_WSTAMP, n)]) →
        P (wedgeDecision h w s)) := by
  have hn : (wedgeDue h s).isNone = false := by rw [← Option.not_isSome, hdue]; rfl
  have htp : (reportPolarity h w s).on SRV_TPEND h = s.on SRV_TPEND h := by
    unfold reportPolarity
    split
    · exact on_set_ne _ _ _ _ (by decide +kernel)
    · rfl
  unfold wedgeDecision
  rw [hpop, hsig, hn]
  extract_lets a s1 t good y u1 u2 u3 u4 u5 u6 u7 u8 u9 v
  have ht : t = wedgeState h w s := by
    unfold t s1 wedgeState
    rw [htp]
  refine ⟨(u2.setI SRV_POS_Y h y).setI SRV_YPOS h y, t.stamp, fun P hP hs => ?_, fun P hP hs => ?_⟩
  · have ht' : P t := by
      unfold t
      split
      · exact wedge_acceptTarget hP _ hs
      · exact hs
    have hu1 : P u1 := by
      unfold u1
      split
      · exact hP.byRaise_of_wedge.used _ ht'
      · exact ht'
    have hu2 : P u2 := by
      unfold u2
      split
      · exact wedge_learnWedge hP _ _ hu1
      · exact hu1
    exact hP.setI _ _ _ _ (by decide +kernel) (hP.setI _ _ _ _ (by decide +kernel) hu2)
  · have hu4 : P u4 := hP.setI _ _ _ _ (by decide +kernel) (by rw [← ht] at hs; exact hs)
    have hu5 : P u5 := wedge_countWedge hP _ _ (wedge_microAdvance hP _ (wedge_desaturate hP _ hu4))
    have hu6 : P u6 := wedge_sendHeater hP _ (wedge_clearance hP _ _ _ hu5)
    have hu7 : P u7 := by
      unfold u7
      split
      · exact wedge_loadAcquired hP _ hu6
      · exact hu6
    have hu8 : P u8 := by
      unfold u8
      split
      · exact wedge_setInhibit hP _ hu7
      · exact hu7
    have hu9 : P u9 := wedge_showHeads hP _ hu8
    have hv : P v := keep_triggerSrc hP.byRaise_of_wedge _ _ _ _ hu9
    rw [if_neg (by decide)]
    refine keep_settleTrace hP.byRaise_of_wedge _ _ ?_
    split
    · exact wedge_refWedge hP _ _ hv
    · exact hv

theorem wedgeGood_parts {s : State} {h : Nat} {w : Wedge} (hg : wedgeGood h w s = true) : (markFound w s).isSome = true ∧ w.dibit = true ∧
    wedgeAt h s = some w.num.toNat ∧
    ((w.track.toNat : Int) * 256 - w.pred).natAbs * 8 ≤ s.get SRV_FRAME_TRKWIN 0 * 2048 + w.vel ∧
    s.get SRV_BAD_BMIN 0 * s.get SRV_SAFE_BNOM h ≤ (w.a + w.b) * 100 ∧ s.get SRV_BAD_BMIN 0 * s.get SRV_SAFE_BNOM h ≤ (w.c + w.d) * 100 := by
  simp only [wedgeGood, Bool.and_eq_true, decide_eq_true_eq, beq_iff_eq] at hg
  obtain ⟨⟨⟨⟨⟨⟨⟨-, -⟩, hm⟩, hd⟩, ha⟩, ht⟩, hab⟩, hcd⟩ := hg
  exact ⟨hm, hd, ha, ht, hab, hcd⟩

/-! ## Settling, inhibit, loss and recovery (R269, R270, R275, R276, R280) -/

theorem settleReached_of {h : Nat} {s : State} (hst : s.is SRV_STS_STATE (actOf h) 3 = true) (hm : s.is SRV_HSTS_MODE h 2 = true)
    (hsat : s.on SRV_HSTS_SAT h = false) :
    (settleReached h s).on SRV_HSTS_SETTLED_RD h = (s.on SRV_HSTS_SETTLED_RD h || decide (s.get SRV_SETTLE_NRD (actOf h) ≤ s.get SRV_RDN h)) ∧
      (settleReached h s).on SRV_HSTS_SETTLED_WR h = (s.on SRV_HSTS_SETTLED_WR h ||
        (decide (s.get SRV_SETTLE_NWR (actOf h) ≤ s.get SRV_WRN h) && !s.on SRV_HSTS_INHIBIT h && !s.on SRV_HTWAIT h)) ∧
      Keeps [SRV_HSTS_SETTLED_RD, SRV_HSTS_SETTLED_WR] s (settleReached h s) := by
  simp only [settleReached, hst, hm, hsat]
  by_cases hrd : s.get SRV_SETTLE_NRD (actOf h) ≤ s.get SRV_RDN h <;>
    by_cases hwr : (decide (s.get SRV_SETTLE_NWR (actOf h) ≤ s.get SRV_WRN h) && !s.on SRV_HSTS_INHIBIT h && !s.on SRV_HTWAIT h) = true <;>
    simp (disch := decide +kernel) [hrd, hwr, Keeps.refl]

/-- A field that neither the gate's conditions nor the inhibit's own fields name. -/
theorem setInhibit_get {f : Field} (hb : byRaise f.id = false)
    (hf : ([SRV_HSTS_INHIBIT, SRV_HSTS_SETTLED_WR, SRV_HSTS_WICNT].any fun g => g.id == f.id) = false) (h i : Nat) (s : State) :
    (setInhibit h s).get f i = s.get f i := by
  simp only [List.any_cons, List.any_nil, Bool.or_false, Bool.or_eq_false_iff, beq_eq_false_iff_ne] at hf
  unfold setInhibit
  split
  · rfl
  · rw [keep_recheckWrite (closed_get hb i _) h _ rfl, State.bump_eq, get_set_ne _ _ _ _ hf.2.2, State.setMany_cons, State.setMany_cons,
      State.setMany_nil, get_set_ne _ _ _ _ hf.2.1, get_set_ne _ _ _ _ hf.1]

theorem setInhibit_on (h : Nat) (s : State) : (setInhibit h s).on SRV_HSTS_INHIBIT h = true := by
  unfold setInhibit
  split
  · assumption
  · rw [State.on_eq, keep_recheckWrite (closed_get (by decide +kernel) h _) h _ rfl]
    simp (disch := decide +kernel) [State.bump_eq]

/-- A head that is LOST, with its gate inhibited. -/
def lostHead (h : Nat) (s : State) : State :=
  showHeads (actOf h) (setInhibit h (s.setMany h [(SRV_HSTS_MODE, 3), (SRV_HSTS_SETTLED_RD, 0), (SRV_HSTS_SETTLED_WR, 0), (SRV_RDN, 0),
    (SRV_WRN, 0)]))

theorem showHeads_get {f : Field} (h1 : SRV_STS_ENGAGED.id ≠ f.id) (h2 : SRV_STS_LOST.id ≠ f.id) (a i : Nat) (s : State) :
    (showHeads a s).get f i = s.get f i := by
  rw [showHeads, State.setMany_cons, State.setMany_cons, State.setMany_nil, get_set_ne _ _ _ _ h2, get_set_ne _ _ _ _ h1]

theorem lostHead_of (h : Nat) (s : State) : (lostHead h s).is SRV_HSTS_MODE h 3 = true ∧ (lostHead h s).on SRV_HSTS_INHIBIT h = true := by
  constructor
  · rw [State.is_eq, lostHead, showHeads_get (by decide +kernel) (by decide +kernel), setInhibit_get (by decide +kernel) (by decide +kernel)]
    simp (disch := decide +kernel)
    rfl
  · rw [State.on_eq, lostHead, showHeads_get (by decide +kernel) (by decide +kernel), ← State.on_eq, setInhibit_on]

theorem headLost_of {h : Nat} {s : State} (hc : loopsClosed (actOf h) s = true) (hm : s.is SRV_HSTS_MODE h 3 = false)
    (h1 : 1 ≤ s.get SRV_BADN h) (hb : s.get SRV_BAD_BADLIM 0 ≤ s.get SRV_BADN h) :
    headLost h s = pulse (48 + 12 * actOf h + 10) (h % 12) (lostHead h s) := by
  have hon : s.on SRV_BADN h = true := by rw [State.on_eq]; simp; omega
  simp only [headLost, hc, hm, hon, hb]
  rfl

/-- A stroke that is to move is in its micro seek. -/
theorem startStroke_mode (h : Nat) (goal : Int) (s : State) : (startStroke h goal s).get SRV_HSTS_MODE h = 1 := by
  simp (disch := decide +kernel) [startStroke]

theorem headRecover_of {h : Nat} {s : State} (hm : s.is SRV_HSTS_MODE h 3 = true) (hg : 3 ≤ s.get SRV_GOODN h) (he : s.on SRV_CENG h = true)
    (hst : s.is SRV_STS_STATE (actOf h) 3 = true) : (headRecover h s).get SRV_HSTS_MODE h =
      if (s.getI SRV_PES_PES h).natAbs ≤ s.get SRV_HAND_DIST (actOf h) * 256 then 2 else 1 := by
  rw [headRecover, if_pos (by simp [hm, hg]), showHeads_get (by decide +kernel) (by decide +kernel)]
  by_cases hp : (s.getI SRV_PES_PES h).natAbs ≤ s.get SRV_HAND_DIST (actOf h) * 256
  · simp (disch := decide +kernel) [he, hst, hp]
    rfl
  · simp (disch := decide +kernel) [he, hst, hp, microSeek, startStroke_mode]

section
variable {s t : State} {h : Fin 48} (hr : reaches 3 s = true)
include hr

theorem exec_wedgeDecision_of {w : Wedge} (hf : wedgeDecision h w s = t) : exec (.wedgeDecision h w) s = .next (s.settled t) := by
  rw [exec_wedgeDecision, execWedgeDecision]
  exact done_onMedia hr hf

end

/-- Settles O35: what a decision reports is kept by the recovery and the inhibit that follow it in the same wedge. -/
theorem headsAtWedges : Obligations.HeadsAtWedges := by
  unfold Obligations.HeadsAtWedges
  intro s h hr
  refine ⟨fun w hn => exec_wedgeDecision_of hr ?_, fun w hpop hsig hdue => ⟨_, exec_wedgeDecision_of hr rfl, ?_, fun d inv hmark => ?_⟩,
    fun w => wedgeGood_parts, fun a hb hn => ?_, fun hst hm hsat => ⟨settleReached h s, ?_, settleReached_of hst hm hsat⟩,
    ⟨inhibitRelease h s, ?_, ?_, ?_⟩, fun hs => ?_, fun hc hm h1 hb => ⟨lostHead h s, ?_, lostHead_of ..⟩,
    fun hm hg he hst => ⟨headRecover h s, ?_, headRecover_of hm hg he hst⟩⟩
  · exact if_pos (by rcases hn with hn | hn | hn <;> simp [hn])
  · obtain ⟨u, n, -, hw⟩ := wedgeDecision_report hpop hsig hdue
    rw [State.settled, State.after_get, settle_get (by decide +kernel)]
    refine hw _ (closed_get (by decide +kernel) h _) ?_
    rw [wedgeState]
    simp (disch := decide +kernel) only [State.setMany_cons, State.setMany_nil, get_set_ne, State.get_set_self]
    exact Nat.mod_eq_of_lt (Bool.toNat_lt _)
  · obtain ⟨u, n, hu, hw⟩ := wedgeDecision_report hpop hsig hdue
    rw [State.settled, State.after_get, settle_get (by decide +kernel)]
    refine hw _ (closed_get (by decide +kernel) h _) ?_
    simp (disch := decide +kernel) only [State.setMany_cons, State.setMany_nil, get_set_ne]
    refine hu _ (closed_get (by decide +kernel) h _) ?_
    rw [reportPolarity, hmark]
    simp only [State.get_set_self]
    cases inv <;> rfl
  · rw [exec_blendEnd, execBlendEnd]
    exact done_onMedia hr (by simp [blendEnd, hb, hn])
  · rw [exec_settleReached, execSettleReached]
    exact done_onMedia hr rfl
  · rw [exec_inhibitRelease, execInhibitRelease]
    exact done_onMedia hr rfl
  · rw [inhibitRelease]
    by_cases hi : s.on SRV_HSTS_INHIBIT h = true <;> by_cases hc : inhibitCause h s = true <;>
      by_cases hn : s.get SRV_HCFG_NREL h ≤ s.get SRV_RELN h <;>
      by_cases hp : (s.getI SRV_PES_PES h).natAbs ≤ s.get SRV_HCFG_WINH h <;> simp [hi, hc, hn, hp]
  · rw [inhibitRelease]
    split
    · exact (keeps_set (by decide +kernel) _ _).2 Keeps.refl
    · exact Keeps.refl
  · rw [exec_microactuatorSaturation, execMicroactuatorSaturation]
    exact done_onMedia hr (if_pos hs)
  · rw [exec_headLost, execHeadLost]
    exact done_onMedia hr (headLost_of hc hm h1 hb)
  · rw [exec_headRecover, execHeadRecover]
    exact done_onMedia hr rfl

end Sys2Proof.Machine
end

section
/-! PROOFS. Loading, unloading and retract of an actuator, and its coil (spec/05, R271, R277, R288–R299). -/

namespace Sys2Proof.Machine

set_option Elab.async false

/-! ## Reads after a loop, and after an entry in a link's queue -/

section
variable {f : Field} {i : Nat}

theorem forAll_get {α : Type} {g : α → State → State} (hg : ∀ x t, (g x t).get f i = t.get f i) (l : List α) (s : State) :
    (forAll l g s).get f i = s.get f i :=
  forAll_keeps s (fun t => t.get f i = s.get f i) l g (fun x t ht => (hg x t).trans ht) rfl

theorem forBelow_get {g : Nat → State → State} (hg : ∀ n t, (g n t).get f i = t.get f i) (n : Nat) (s : State) :
    (forBelow n g s).get f i = s.get f i :=
  forBelow_keeps s (fun t => t.get f i = s.get f i) n g (fun x t ht => (hg x t).trans ht) rfl

theorem linkSend_get (a : Nat) (r : HlkReq) (s : State) : (linkSend a r s).get f i = s.get f i := by
  unfold linkSend
  split <;> rfl

end

/-- A number that fits its field is read back. -/
theorem sgn_uns {w : Nat} {v : Int} (h1 : -(2 ^ w : Int) ≤ v) (h2 : v < 2 ^ w) : sgn (w + 1) (uns (w + 1) v % 2 ^ (w + 1)) = v := by
  have hp : (0 : Int) < 2 ^ w := by positivity
  have he : ((2 ^ w : Nat) : Int) = 2 ^ w := by push_cast; rfl
  have hs : (2 ^ (w + 1) : Int) = 2 * 2 ^ w := by ring
  have hsn : (2 ^ (w + 1) : Nat) = 2 * 2 ^ w := by ring
  have hlt : uns (w + 1) v < 2 ^ (w + 1) := by
    have := Int.emod_lt_of_pos v (show (0 : Int) < 2 ^ (w + 1) by positivity)
    have h0 := Int.emod_nonneg v (show (2 ^ (w + 1) : Int) ≠ 0 by positivity)
    unfold uns
    omega
  unfold sgn
  rw [Nat.mod_mod, Nat.mod_eq_of_lt hlt, Nat.add_sub_cancel]
  unfold uns
  rcases lt_or_ge v 0 with hv | hv
  · have hm : v % 2 ^ (w + 1) = v + 2 ^ (w + 1) := by
      rw [← Int.add_emod_right, Int.emod_eq_of_lt (by omega) (by omega)]
    rw [hm, if_neg (by omega)]
    omega
  · have hm : v % 2 ^ (w + 1) = v := Int.emod_eq_of_lt hv (by omega)
    rw [hm, if_pos (by omega)]
    omega

/-! ## Loading and unloading (R288, R289) -/

/-- The driver and the state of an actuator that starts to load. -/
theorem startLoad_of (a : Fin 4) (s : State) : (startLoad a s).is SRV_STS_STATE a 1 = true ∧ (startLoad a s).on SRV_DRVEN a = true ∧
    (startLoad a s).bit SRV_RET_STS_PARKED 0 a = false ∧ (startLoad a s).bit SRV_RET_STS_ENGAGED 0 a = false := by
  have hf {f : Field} {i : Nat} (h1 : SRV_GOODN.id ≠ f.id) (h2 : SRV_BADN.id ≠ f.id) (x : Nat) (t : State) :
      (t.setMany x [(SRV_GOODN, 0), (SRV_BADN, 0)]).get f i = t.get f i := by
    rw [State.setMany_cons, State.setMany_cons, State.setMany_nil, get_set_ne _ _ _ _ h2, get_set_ne _ _ _ _ h1]
  unfold startLoad
  extract_lets t t2 i t3
  rw [State.is_eq, State.on_eq, State.bit_eq, State.bit_eq, forAll_get (hf (by decide +kernel) (by decide +kernel)),
    forAll_get (hf (by decide +kernel) (by decide +kernel)), forAll_get (hf (by decide +kernel) (by decide +kernel)),
    forAll_get (hf (by decide +kernel) (by decide +kernel))]
  refine ⟨?_, ?_, ?_, ?_⟩
  · simp (disch := decide +kernel) [t3, t2, t, State.setI_eq, State.setBit_eq]
  · simp (disch := decide +kernel) [t3, t2, t, State.setI_eq, State.setBit_eq]
  · simp (disch := decide +kernel) [t3, t2, t, State.setI_eq, State.setBit_eq, testBit_withBit]
  · simp (disch := decide +kernel) [t3, t2, t, State.setI_eq, State.setBit_eq, testBit_withBit]

/-- A stroke that starts to move changes the head's own fields. -/
theorem startStroke_get {f : Field} (hf : ([SRV_MVEL, SRV_MREF, SRV_MGOAL, SRV_HSTS_MODE, SRV_RDN, SRV_WRN, SRV_HSTS_SETTLED_RD,
    SRV_HSTS_SETTLED_WR].any fun g => g.id == f.id) = false) (h i : Nat) (goal : Int) (s : State) :
    (startStroke h goal s).get f i = s.get f i := by
  simp only [List.any_cons, List.any_nil, Bool.or_false, Bool.or_eq_false_iff, beq_eq_false_iff_ne] at hf
  obtain ⟨h1, h2, h3, h4, h5, h6, h7, h8⟩ := hf
  unfold startStroke
  extract_lets t
  have ht : t.get f i = s.get f i := by
    unfold t
    split
    · rfl
    · rw [State.setI_eq, get_set_ne _ _ _ _ h2, get_set_ne _ _ _ _ h1]
  simp only [State.setMany_cons, State.setMany_nil, State.setI_eq, get_set_ne _ _ _ _ h3, get_set_ne _ _ _ _ h4, get_set_ne _ _ _ _ h5,
    get_set_ne _ _ _ _ h6, get_set_ne _ _ _ _ h7, get_set_ne _ _ _ _ h8, ht]

/-- A VCM seek puts the actuator in SEEK, toward its target. -/
theorem vcmSeek_of (a : Nat) (from0 target : Int) (s : State) : (vcmSeek a from0 target s).get SRV_STS_STATE a = 2 ∧
    (vcmSeek a from0 target s).get SRV_ARM a = uns SRV_ARM.width target % 2 ^ SRV_ARM.width := by
  unfold vcmSeek
  extract_lets nh fits u t t2
  have hf {f : Field} {i : Nat} (hs : ([SRV_MVEL, SRV_MREF, SRV_MGOAL, SRV_HSTS_MODE, SRV_RDN, SRV_WRN, SRV_HSTS_SETTLED_RD,
      SRV_HSTS_SETTLED_WR].any fun g => g.id == f.id) = false) (x : Nat) (v : State) :
      (if engaged x v then startStroke x (target - armDemand x (targetPos x v) v) v else v).get f i = v.get f i := by
    split
    · exact startStroke_get hs ..
    · rfl
  rw [forAll_get (hf (by decide +kernel)), forAll_get (hf (by decide +kernel))]
  constructor
  · simp (disch := decide +kernel) [t2, State.setI_eq, State.bump_eq]
    rfl
  · simp (disch := decide +kernel) [t2, State.setI_eq, State.bump_eq]

/-! ## Retract (R290–R292) -/

/-- The engine's drive changes the DAC alone. -/
theorem retractDrive_get {f : Field} (h : SRV_DAC.id ≠ f.id) (a i : Nat) (s : State) : (retractDrive a s).get f i = s.get f i := by
  unfold retractDrive vcmDrive
  split
  · exact get_set_ne _ _ _ _ h
  · exact get_set_ne _ _ _ _ h
  · exact get_set_ne _ _ _ _ h
  · rfl

/-- An actuator that the retract engine takes. -/
theorem retract_of {a : Fin 4} {s : State} (ho : s.on SRV_OPEN a = false) (h0 : s.is SRV_STS_STATE a 0 = false)
    (h4 : s.is SRV_STS_STATE a 4 = false) : (retract a s).1.is SRV_STS_STATE a 4 = true ∧ (retract a s).1.on SRV_DRVEN a = true ∧
      (retract a s).1.bit SRV_RET_STS_ENGAGED 0 a = true ∧ (retract a s).1.bit SRV_RET_STS_PARKED 0 a = false ∧
      (retract a s).1.get SRV_PHASE a = if velocityKnown a s then 1 else 2 := by
  have hf {f : Field} {i : Nat} (h1 : SRV_HSTS_SAT.id ≠ f.id) (h2 : SRV_SATN.id ≠ f.id) (h3 : SRV_PES_S.id ≠ f.id) (x : Nat) (t : State) :
      (t.setMany (12 * a + x) [(SRV_HSTS_SAT, 0), (SRV_SATN, 0), (SRV_PES_S, 0)]).get f i = t.get f i := by
    rw [State.setMany_cons, State.setMany_cons, State.setMany_cons, State.setMany_nil, get_set_ne _ _ _ _ h3, get_set_ne _ _ _ _ h2,
      get_set_ne _ _ _ _ h1]
  have hend {f : Field} {i : Nat} (h1 : SRV_HSTS_SAT.id ≠ f.id) (h2 : SRV_SATN.id ≠ f.id) (h3 : SRV_PES_S.id ≠ f.id) (hd : SRV_DAC.id ≠ f.id)
      (u : State) : (linkSend a ⟨4, 0xF, 0, 0, none⟩ (forBelow 12 (fun p u => u.setMany (12 * a + p) [(SRV_HSTS_SAT, 0), (SRV_SATN, 0), (SRV_PES_S, 0)])
        (retractDrive a u))).get f i = u.get f i := by
    rw [linkSend_get, forBelow_get (hf h1 h2 h3), retractDrive_get hd]
  unfold retract
  rw [ho, h0, h4]
  dsimp only
  rw [if_neg (by decide), if_neg (by decide), if_neg (by decide), State.is_eq, State.on_eq, State.bit_eq, State.bit_eq]
  simp (disch := decide +kernel) only [hend]
  refine ⟨?_, ?_, ?_, ?_, ?_⟩
  · simp (disch := decide +kernel) [State.setBit_eq, State.bump_eq]
    rfl
  · simp (disch := decide +kernel) [State.setBit_eq, State.bump_eq]
  · simp (disch := decide +kernel) [State.setBit_eq, State.bump_eq, testBit_withBit]
    exact lt_of_lt_of_eq a.isLt rfl
  · simp (disch := decide +kernel) [State.setBit_eq, State.bump_eq, testBit_withBit]
  · simp (disch := decide +kernel) [State.setBit_eq, State.bump_eq]
    split <;> rfl

/-- The current of the phases in which the engine drives the arm. -/
theorem retractDrive_dac {a : Nat} {s : State} (hret : s.get SRV_RET_CFG_IRET 0 < 256) (hpark : s.get SRV_RET_CFG_IPARK 0 < 256) :
    (retractDrive a (s.set SRV_PHASE a 2)).getI SRV_DAC a = (if s.on SRV_VCMCFG_INV a then 1 else -1) * (s.get SRV_RET_CFG_IRET 0 * 128) ∧
      (retractDrive a (s.set SRV_PHASE a 3)).getI SRV_DAC a = (if s.on SRV_VCMCFG_INV a then 1 else -1) * (s.get SRV_RET_CFG_IPARK 0 * 128) := by
  have hv (v : Int) (h1 : -(2 ^ 15 : Int) ≤ v) (h2 : v < 2 ^ 15) (t : State) : (t.setI SRV_DAC a v).getI SRV_DAC a = v := by
    rw [State.setI_eq, getI_set_self]
    exact sgn_uns h1 h2
  have hp2 : (s.set SRV_PHASE a 2).get SRV_PHASE a = 2 := by rw [State.get_set_self]; rfl
  have hp3 : (s.set SRV_PHASE a 3).get SRV_PHASE a = 3 := by rw [State.get_set_self]; rfl
  unfold retractDrive
  rw [hp2, hp3]
  dsimp only
  simp (disch := decide +kernel) only [vcmDrive, on_set_ne, get_set_ne]
  constructor
  · split
    · rw [hv] <;> omega
    · rw [hv] <;> omega
  · split
    · rw [hv] <;> omega
    · rw [hv] <;> omega

/-- The fields of an actuator's heads that the end of a retract clears. -/
def parkFields : List Field := [SRV_HSTS_MODE, SRV_HSTS_SETTLED_RD, SRV_HSTS_SETTLED_WR, SRV_TPEND, SRV_HSTS_SAT, SRV_PES_S, SRV_BOOSTED,
  SRV_STS_ENGAGED, SRV_STS_LOST]

/-- The end of the park phase, where no load is to be tried again. -/
theorem parked_of {a : Fin 4} {s : State} (h : s.on SRV_RELOAD a = false) : (parked a s).on SRV_PHASE a = false ∧
    (parked a s).on SRV_DRVEN a = false ∧ (parked a s).is SRV_STS_STATE a 0 = true ∧ (parked a s).bit SRV_RET_STS_PARKED 0 a = true := by
  unfold parked
  extract_lets t t2 t3 t4
  have h2 (f : Field) (i : Nat) (hf : ∀ g ∈ parkFields, g.id ≠ f.id) : t4.get f i = t2.get f i := by
    have hh (x : Nat) (v : State) : (v.setMany x [(SRV_HSTS_MODE, 0), (SRV_HSTS_SETTLED_RD, 0), (SRV_HSTS_SETTLED_WR, 0), (SRV_TPEND, 0),
        (SRV_HSTS_SAT, 0), (SRV_PES_S, 0), (SRV_BOOSTED, 0)]).get f i = v.get f i :=
      Keeps.get (fs := parkFields) (by simp (disch := decide +kernel) [Keeps.refl]) i hf
    exact (showHeads_get (hf _ (by simp [parkFields])) (hf _ (by simp [parkFields])) ..).trans (forAll_get hh ..)
  have hr : t4.on SRV_RELOAD a = false := by
    rw [State.on_eq, h2 _ _ (by decide +kernel)]
    simp (disch := decide +kernel) only [t2, t, State.setBit_eq, State.setMany_cons, State.setMany_nil, get_set_ne]
    exact h
  rw [if_neg (by simp [hr]), State.on_eq, State.on_eq, State.is_eq, State.bit_eq]
  simp (disch := decide +kernel) only [h2]
  refine ⟨?_, ?_, ?_, ?_⟩
  · simp (disch := decide +kernel) [t2, t, State.setBit_eq]
  · simp (disch := decide +kernel) [t2, t, State.setBit_eq]
  · simp (disch := decide +kernel) [t2, t, State.setBit_eq]
  · simp (disch := decide +kernel) [t2, t, State.setBit_eq, testBit_withBit]
    exact lt_of_lt_of_eq a.isLt rfl

/-! ## The commands -/

/-- A command of the retract engine while the always-on domain has its supply. -/
theorem done_onRetract {s u : State} {f : State → State} (h : aonDown s = false) (hf : f s = u) :
    done s (onRetract f s) = .next (s.settled u) := by
  rw [onRetract, h, hf, if_neg (by decide)]
  rfl

/-- Settles O36: each phase of loading, unloading and retract by the fields it sets, which the reactions after it keep. -/
theorem armMotion : Obligations.ArmMotion := by
  unfold Obligations.ArmMotion
  intro s a
  refine ⟨fun hr => ⟨fun hl => ⟨startLoad a (s.setMany a [(SRV_LOADS, 0), (SRV_INVTRY, 0)]), ?_, startLoad_of ..⟩, fun hl => ?_,
    fun hst hcal hn => ?_, fun hst => ⟨(vcmSeek a (targetArm a s) 0 s).set SRV_UNLOAD a 1, ?_, ?_, ?_, ?_⟩, fun hst hto hov => ?_, fun hov => ?_,
    fun hst hto hov => ?_, fun hc h1 hn => ?_, fun hst => ?_, fun hst hup => ?_⟩, fun ho h0 h4 => retract_of ho h0 h4,
    fun haon hpow => ⟨fun hp => ?_, fun hp => ?_, fun i hi hret hpark => hi ▸ retractDrive_dac hret hpark,
      fun hp hre => ⟨parked a s, ?_, parked_of hre⟩⟩⟩
  · rw [exec_loadRequest, execLoadRequest]
    exact done_onMedia hr (if_pos hl)
  · rw [exec_loadRequest, execLoadRequest]
    exact done_onMedia hr (if_neg (by simp [hl]))
  · rw [exec_loadTimeout, execLoadTimeout]
    refine done_onMedia hr ?_
    have hlast : ¬ s.get SRV_LOADS a + 1 < 3 := by omega
    simp [loadTimeout, hst, hcal, loadFailed, hlast]
  · rw [exec_unloadRequest, execUnloadRequest]
    exact done_onMedia hr (if_pos hst)
  · rw [is_set_ne _ _ _ _ _ (by decide +kernel), State.is_eq, (vcmSeek_of ..).1]
    rfl
  · rw [getI_set_ne _ _ _ _ (by decide +kernel), State.getI_eq, (vcmSeek_of ..).2]
    rfl
  · rw [on_set_self]
    rfl
  · rw [exec_seekTimeout, execSeekTimeout]
    exact done_onMedia hr (by simp [seekTimeout, hov, hto])
  · rw [exec_seekTimeout, execSeekTimeout]
    exact done_onMedia hr (by simp [seekTimeout, hov])
  · rw [exec_seekTimeout, execSeekTimeout]
    exact done_onMedia hr (by simp [seekTimeout, hov, hto])
  · rw [exec_actuatorLost, execActuatorLost]
    have hon : s.on SRV_ALOSTN a = true := by rw [State.on_eq]; simp; omega
    exact done_onMedia hr (if_pos (by simp [hc, hon, hn]))
  · rw [exec_retractRequest, execRetractRequest]
    exact done_onMedia hr (if_neg (by simp [hst]))
  · rw [exec_linkDownRetract, execLinkDownRetract]
    exact done_onMedia hr (if_neg (by simp [hst, hup]))
  · rw [exec_retractPhaseEnd, execRetractPhaseEnd]
    refine done_onRetract haon ?_
    rw [retractPhaseEnd, show s.get SRV_PHASE a = 1 by simpa [State.is_eq] using hp]
    rfl
  · rw [exec_retractPhaseEnd, execRetractPhaseEnd]
    refine done_onRetract haon ?_
    rw [retractPhaseEnd, show s.get SRV_PHASE a = 2 by simpa [State.is_eq] using hp]
    rfl
  · rw [exec_retractPhaseEnd, execRetractPhaseEnd]
    refine done_onRetract haon ?_
    rw [retractPhaseEnd, show s.get SRV_PHASE a = 3 by simpa [State.is_eq] using hp]
    rfl

end Sys2Proof.Machine
end

section
/-! PROOFS. Faults of an actuator's coil (spec/05, R295–R299; spec/15, R640). -/

namespace Sys2Proof.Machine

set_option Elab.async false

/-- What a step establishes of its element, and every other step keeps, holds of each element of the list. -/
theorem forAll_mem {α : Type} {g : α → State → State} {Q : α → State → Prop} (h1 : ∀ x t, Q x (g x t)) (h2 : ∀ x y t, Q x t → Q x (g y t))
    {l : List α} {x : α} (hx : x ∈ l) (s : State) : Q x (forAll l g s) := by
  induction l generalizing s with
  | nil => cases hx
  | cons y l ih =>
    rw [forAll_cons]
    rcases List.mem_cons.1 hx with rfl | hx
    · exact forAll_keeps _ (Q x) l g (fun y t ht => h2 x y t ht) (h1 x s)
    · exact ih hx _

/-- The actuator's driver is off, as for an open coil, and its heads are disengaged. -/
def coilOff (a : Nat) (s : State) : State :=
  showHeads a (forAll (headsOf a) (fun h u => u.setMany h [(SRV_CENG, 0), (SRV_HSTS_MODE, 0), (SRV_HSTS_SETTLED_RD, 0), (SRV_HSTS_SETTLED_WR, 0)])
    ((s.setMany a [(SRV_DRVEN, 0), (SRV_OPEN, 1), (SRV_STS_STATE, 5), (SRV_PHASE, 0), (SRV_OCWAIT, 0), (SRV_DAC, 0)]).setBit
      SRV_RET_STS_ENGAGED 0 a false))

theorem coilOpen_eq (a : Nat) (s : State) : coilOpen a s = pulse (48 + 12 * a + 3) 0xFF (withFollow (headsOut a (coilOff a s))) := rfl

/-- A field outside those of the heads' targets and modes. -/
theorem coilOff_get {f : Field} {i : Nat} (hf : ∀ g ∈ [SRV_CENG, SRV_HSTS_MODE, SRV_HSTS_SETTLED_RD, SRV_HSTS_SETTLED_WR, SRV_STS_ENGAGED,
    SRV_STS_LOST], g.id ≠ f.id) (a : Nat) (s : State) : (coilOff a s).get f i =
      ((s.setMany a [(SRV_DRVEN, 0), (SRV_OPEN, 1), (SRV_STS_STATE, 5), (SRV_PHASE, 0), (SRV_OCWAIT, 0), (SRV_DAC, 0)]).setBit
        SRV_RET_STS_ENGAGED 0 a false).get f i := by
  have hh (x : Nat) (v : State) : (v.setMany x [(SRV_CENG, 0), (SRV_HSTS_MODE, 0), (SRV_HSTS_SETTLED_RD, 0), (SRV_HSTS_SETTLED_WR, 0)]).get f i
      = v.get f i :=
    Keeps.get (by simp (disch := decide +kernel) [Keeps.refl]) i hf
  rw [coilOff, showHeads_get (hf _ (by simp)) (hf _ (by simp)), forAll_get hh]

/-- The engagement of each head of the actuator has ended. -/
theorem coilOff_heads {a p : Nat} (hp : p < 12) (s : State) : (coilOff a s).on SRV_CENG (12 * a + p) = false := by
  have hx : 12 * a + p ∈ headsOf a := List.mem_map.2 ⟨p, List.mem_range.2 hp, rfl⟩
  rw [coilOff, State.on_eq, showHeads_get (by decide +kernel) (by decide +kernel)]
  refine forAll_mem (Q := fun x t => (t.get SRV_CENG x != 0) = false) (fun x t => ?_) (fun x y t ht => ?_) hx _
  · simp (disch := decide +kernel)
  · by_cases hxy : y = x
    · subst hxy
      simp (disch := decide +kernel)
    · simp (disch := decide +kernel) only [State.setMany_cons, State.setMany_nil, get_set_ne]
      rw [State.get_set_inst _ _ hxy]
      exact ht

/-- The driver is off after an overcurrent, and the retract engine waits for the test. -/
def coilWaits (a : Nat) (s : State) : State :=
  ((s.setMany a [(SRV_DRVEN, 0), (SRV_OCWAIT, 1), (SRV_STS_STATE, 4), (SRV_PHASE, 0), (SRV_DAC, 0), (SRV_STS_BLEND, 0)]).setBit
    SRV_RET_STS_ENGAGED 0 a true).setBit SRV_RET_STS_PARKED 0 a false

/-- A block that takes commands has the supply of its always-on domain. -/
theorem aon_of_reaches {b : Nat} {s : State} (h : reaches b s = true) : aonDown s = false := by
  have hr := reaches_inReset h
  simp only [inReset, Bool.or_eq_false_iff] at hr
  exact hr.2

/-- Settles O37: each fault as the driver off, or the retract, with its source; the heads keep what the driver does not own. -/
theorem coilFaults : Obligations.CoilFaults := by
  unfold Obligations.CoilFaults
  intro s a hr
  refine ⟨fun hd => ?_, fun hd => ?_, ⟨coilOff a s, coilOpen_eq .., ?_, ?_, ?_, fun p hp => coilOff_heads hp s⟩, fun hd => ⟨coilWaits a s, ?_, ?_, ?_, ?_⟩,
    fun hw => ?_, fun hw => ?_, fun hst => ?_, fun hc hn => ?_, fun hd => ?_⟩
  · rw [exec_vcmOpenCoil, execVcmOpenCoil]
    exact done_onMedia hr (if_pos hd)
  · rw [exec_vcmOpenCoil, execVcmOpenCoil]
    exact done_onMedia hr (if_neg (by simp [hd]))
  · rw [State.on_eq, coilOff_get (by decide +kernel)]
    simp (disch := decide +kernel) [State.setBit_eq]
  · rw [State.on_eq, coilOff_get (by decide +kernel)]
    simp (disch := decide +kernel) [State.setBit_eq]
  · rw [State.bit_eq, coilOff_get (by decide +kernel)]
    simp (disch := decide +kernel) [State.setBit_eq, testBit_withBit]
  · rw [exec_vcmOvercurrent, execVcmOvercurrent]
    exact done_onMedia hr (if_neg (by simp [hd]))
  · simp (disch := decide +kernel) [coilWaits, State.setBit_eq]
  · simp (disch := decide +kernel) [coilWaits, State.setBit_eq]
  · simp (disch := decide +kernel) [coilWaits, State.setBit_eq, testBit_withBit]
    exact lt_of_lt_of_eq a.isLt rfl
  · rw [exec_vcmOcTest, execVcmOcTest]
    exact done_onRetract (aon_of_reaches hr) (by rw [vcmOcTest, hw]; rfl)
  · rw [exec_vcmOcTest, execVcmOcTest]
    exact done_onRetract (aon_of_reaches hr) (by rw [vcmOcTest, hw]; rfl)
  · rw [exec_vcmLeadShort, execVcmLeadShort]
    exact done_onMedia hr (if_pos hst)
  · rw [exec_vcmPolarityRunaway, execVcmPolarityRunaway]
    exact done_onMedia hr (if_pos (by simp [hc, hn]))
  · rw [exec_vcmSensePairExchanged, execVcmSensePairExchanged]
    exact done_onMedia hr (if_pos hd)

end Sys2Proof.Machine
end

section
/-! PROOFS. Spindle (spec/06): states and the bridge, starts, drydowns, wiring faults. -/

namespace Sys2Proof.Machine

set_option Elab.async false

/-! ## The bridge and the states -/

/-- The fields of the observer that is held without lock. -/
def heldFields : List Field := [SPN_STATE_OBSLOCK, SPN_LOCKN, SPN_ERRN, SPN_EMFN, SPN_OBSLOST, SPN_OBSSPD]

/-- The fields that the bridge's new drive can change beside its own. -/
def bridgeFields : List Field := [SPN_BRAKED, SPN_ON, SPN_FIRST, SPN_CARRY, SPN_GATE] ++ heldFields

/-- The fields that entering a state can change beside the state and the bridge. -/
def enteredFields : List Field := [SPN_AGREEN, SPN_DISN, SPN_SLEWING, SPN_INVN, SPN_STATE_LOADOK, SPN_CALRUN, SPN_DDKIND, SPN_DDREQ, SPN_ONPILOT,
  SPN_OBSLOST]

/-- The fields that entering a state can change. -/
def spnGoFields : List Field := SPN_STATE_STATE :: SPN_BRIDGE :: (bridgeFields ++ enteredFields)

/-- The fields of an actuator that the retract engine can change as it takes it. -/
def armFields : List Field := [SRV_STS_STATE, SRV_STS_BLEND, SRV_STS_RVLOCK, SRV_DRVEN, SRV_UNLOAD, SRV_PHASE, SRV_RET_STS_ENGAGED,
  SRV_RET_STS_PARKED, SRV_RET_STS_RETRACTS, SRV_HSTS_SAT, SRV_SATN, SRV_PES_S, SRV_DAC]

/-- The fields that a drydown can change. -/
def drydownFields : List Field := [SPN_HELD, SPN_STATE_DRYPEND, SPN_STATE_LASTGASP] ++ spnGoFields ++ armFields

/-- A state of a choice of two. -/
theorem keeps_ite {fs : List Field} {c : Prop} [Decidable c] {s t u : State} (ht : Keeps fs s t) (hu : Keeps fs s u) :
    Keeps fs s (if c then t else u) := by
  split
  · exact ht
  · exact hu

theorem holdObserver_keeps (s : State) : Keeps heldFields s (holdObserver s) := by
  unfold holdObserver
  exact keeps_ite .refl (by simp (disch := decide +kernel) [Keeps.refl])

/-- The bridge is driven as asked, and beside it the modulator's and the observer's fields change. -/
theorem setBridge_keeps (b : Nat) (s : State) : Keeps bridgeFields (s.set SPN_BRIDGE 0 b) (setBridge b s) := by
  unfold setBridge
  extract_lets t t2
  have ht2 : Keeps bridgeFields (s.set SPN_BRIDGE 0 b) t2 := keeps_ite (by simp (disch := decide +kernel) [t, Keeps.refl]) .refl
  refine Keeps.trans (keeps_ite ?_ ht2) ((holdObserver_keeps _).mono (by decide +kernel))
  refine forBelow_keeps _ _ _ _ (fun i u hu => ?_) (forBelow_keeps _ _ _ _ (fun i u hu => ?_) ht2)
  · simpa (disch := decide +kernel) using hu
  · simpa (disch := decide +kernel) using hu

theorem setBridge_keepsAll (b : Nat) (s : State) : Keeps (SPN_BRIDGE :: bridgeFields) s (setBridge b s) :=
  Keeps.trans (by simp (disch := decide +kernel) [Keeps.refl]) ((setBridge_keeps b s).mono (by decide +kernel))

theorem setBridge_bridge (b : Nat) (s : State) : (setBridge b s).get SPN_BRIDGE 0 = b % 2 ^ SPN_BRIDGE.width := by
  rw [(setBridge_keeps b s).get 0 (by decide +kernel), State.get_set_self]

/-- A field that is not the bridge's. -/
theorem setBridge_get {f : Field} (h : (SPN_BRIDGE :: bridgeFields).all (fun g => g.id != f.id) = true) (b i : Nat) (s : State) :
    (setBridge b s).get f i = s.get f i := by
  simp only [List.all_cons, Bool.and_eq_true, bne_iff_ne, List.all_eq_true] at h
  rw [(setBridge_keeps b s).get i h.2, get_set_ne _ _ _ _ h.1]

/-- A state entered: the state, then what entering changes, then the bridge. -/
theorem spnGo_eq (st b : Nat) (s : State) : ∃ t, spnGo st b s = setBridge b t ∧ Keeps enteredFields (s.set SPN_STATE_STATE 0 st) t ∧
    (7 ≤ st → t.get SPN_DDKIND 0 = s.get SPN_DDKIND 0 ∧ t.get SPN_DDREQ 0 = s.get SPN_DDREQ 0) := by
  unfold spnGo
  extract_lets t t2 t3 t4 t5
  have h1 : Keeps enteredFields (s.set SPN_STATE_STATE 0 st) t := by
    simp (disch := decide +kernel) [t, Keeps.refl]
  have h2 : Keeps enteredFields t t2 := keeps_ite .refl (by simp (disch := decide +kernel) [Keeps.refl])
  have h3 : Keeps enteredFields t2 t3 := keeps_ite .refl (by simp (disch := decide +kernel) [Keeps.refl])
  have h4 : Keeps enteredFields t3 t4 := keeps_ite .refl (by simp (disch := decide +kernel) [Keeps.refl])
  have h5 : Keeps enteredFields t4 t5 :=
    keeps_ite (by simp (disch := decide +kernel) [Keeps.refl]) (keeps_ite (by simp (disch := decide +kernel) [Keeps.refl]) .refl)
  refine ⟨t5, rfl, h1.trans (h2.trans (h3.trans (h4.trans h5))), fun h7 => ?_⟩
  constructor <;> simp (disch := decide +kernel) [t5, t4, t3, t2, t, h7]

theorem spnGo_state (st b : Nat) (s : State) : (spnGo st b s).get SPN_STATE_STATE 0 = st % 2 ^ SPN_STATE_STATE.width := by
  obtain ⟨t, he, hk, -⟩ := spnGo_eq st b s
  rw [he, setBridge_get (by decide +kernel), hk.get 0 (by decide +kernel), State.get_set_self]

theorem spnGo_is {st : Nat} (h : st < 16) (b : Nat) (s : State) : (spnGo st b s).is SPN_STATE_STATE 0 st = true := by
  rw [State.is_eq, spnGo_state, Nat.mod_eq_of_lt (show st < 2 ^ SPN_STATE_STATE.width from h), beq_self_eq_true]

theorem spnGo_bridge (st b : Nat) (s : State) : (spnGo st b s).get SPN_BRIDGE 0 = b % 2 ^ SPN_BRIDGE.width := by
  obtain ⟨t, he, -, -⟩ := spnGo_eq st b s
  rw [he, setBridge_bridge]

theorem spnGo_keeps (st b : Nat) (s : State) : Keeps spnGoFields s (spnGo st b s) := by
  obtain ⟨t, he, hk, -⟩ := spnGo_eq st b s
  rw [he]
  refine Keeps.trans (t := s.set SPN_STATE_STATE 0 st) ?_ ((hk.mono (by decide +kernel)).trans ((setBridge_keepsAll _ _).mono (by decide +kernel)))
  simp (disch := decide +kernel) [Keeps.refl]

/-- A field that entering a state leaves as it is. -/
theorem spnGo_get {f : Field} (h : ∀ g ∈ spnGoFields, g.id ≠ f.id) (st b i : Nat) (s : State) : (spnGo st b s).get f i = s.get f i :=
  (spnGo_keeps st b s).get i h

/-- COAST, CATCH and DRYDOWN hold the drydown under way. -/
theorem spnGo_ddkind {st : Nat} (h : 7 ≤ st) (b : Nat) (s : State) : (spnGo st b s).get SPN_DDKIND 0 = s.get SPN_DDKIND 0 := by
  obtain ⟨t, he, -, hd⟩ := spnGo_eq st b s
  rw [he, setBridge_get (by decide +kernel), (hd h).1]

/-! ## The end of a command of the spindle -/

/-- A spindle command of a block that takes commands. -/
theorem done_onSpindle {s u : State} {f : State → State} (h : reaches 2 s = true) (hf : f s = u) :
    done s (onSpindle f s) = .next (s.settled (settleAngle u)) := by
  unfold onSpindle
  exact done_onMedia h (by rw [hf])

/-- A periodic one. -/
theorem done_onSpinTick {s u : State} {f : State → State} (h : reaches 2 s = true) (hf : f s = u) :
    done s (onSpinTick f s) = .next (s.after (settleAngle u)) := by
  unfold onSpinTick
  exact done_onBlock h (by rw [hf])

/-! ## Wiring faults (R310, R356, R357) -/

/-- An overcurrent turns the gates off, and one of a running spindle awaits its test. -/
theorem overcurrentOff_of {fails : Bool} {s : State} (h : s.is SPN_STATE_STATE 0 0 = false) :
    (overcurrentOff fails s).get SPN_BRIDGE 0 = 0 ∧ (overcurrentOff fails s).on SPN_OCWAIT 0 = true ∧
      (fails = true → (overcurrentOff fails s).on SPN_OCFAIL 0 = true) := by
  have hb : (setBridge 0 s).get SPN_BRIDGE 0 = 0 := by rw [setBridge_bridge, Nat.zero_mod]
  unfold overcurrentOff
  rw [h]
  refine ⟨?_, ?_, fun hf => ?_⟩
  · simp (disch := decide +kernel) [hb]
  · simp (disch := decide +kernel)
  · subst hf
    simp (disch := decide +kernel)

theorem retractDrive_keeps (a : Nat) (s : State) : Keeps armFields s (retractDrive a s) := by
  unfold retractDrive vcmDrive
  split <;> simp (disch := decide +kernel) [State.setI_eq, Keeps.refl]

theorem linkSend_keeps (fs : List Field) (a : Nat) (r : HlkReq) (s : State) : Keeps fs s (linkSend a r s) := by
  unfold linkSend
  split
  · exact (keeps_congr rfl rfl).2 .refl
  · exact .refl

/-- The retract engine takes an actuator with that actuator's fields alone. -/
theorem retract_keeps (a : Nat) (s : State) : Keeps armFields s (retract a s).1 := by
  have hheads (u : State) : Keeps armFields u
      (forBelow 12 (fun p v => v.setMany (12 * a + p) [(SRV_HSTS_SAT, 0), (SRV_SATN, 0), (SRV_PES_S, 0)]) u) :=
    forBelow_keeps _ _ _ _ (fun i v hv => by simpa (disch := decide +kernel) using hv) .refl
  unfold retract
  split
  · exact .refl
  · split
    · simp (disch := decide +kernel) [State.setBit_eq, Keeps.refl]
    · split
      · exact .refl
      · extract_lets t t2 t3
        have h2 : Keeps armFields s t2 := by
          simp (disch := decide +kernel) [t2, t, State.setBit_eq, State.bump_eq, Keeps.refl]
        clear_value t2
        dsimp only
        exact h2.trans ((retractDrive_keeps a t2).trans ((hheads _).trans (linkSend_keeps _ a _ t3)))

theorem retractAll_keeps (s : State) : Keeps armFields s (retractAll s).1 := by
  unfold retractAll
  refine keep_chain _ _ (fun f hf t ht => ?_) .refl
  obtain ⟨a, -, rfl⟩ := List.mem_map.1 hf
  exact ht.trans (retract_keeps a t)

theorem orderlyDrydown_keeps (k : Nat) (s : State) : Keeps drydownFields s (orderlyDrydown k s) := by
  unfold orderlyDrydown
  refine keeps_ite .refl ?_
  rw [keeps_emit]
  refine Keeps.trans (t := s.setMany 0 [(SPN_DDKIND, k), (SPN_DDREQ, 0), (SPN_STATE_DRYPEND, 1)]) ?_
    ((spnGo_keeps _ _ _).mono (by decide +kernel))
  simp (disch := decide +kernel) [Keeps.refl]

theorem applyTarget_keeps (s : State) : Keeps drydownFields s (applyTarget s) := by
  unfold applyTarget
  exact keeps_ite .refl (keeps_ite (orderlyDrydown_keeps _ _) (keeps_ite (orderlyDrydown_keeps _ _) .refl))

theorem parkedEnd_keeps (s : State) : Keeps drydownFields s (parkedEnd s) := by
  unfold parkedEnd
  refine keeps_ite .refl (keeps_ite ?_ (keeps_ite .refl ((setBridge_keepsAll _ _).mono (by decide +kernel))))
  refine Keeps.trans (t := s.setMany 0 [(SPN_HELD, 0), (SPN_STATE_DRYPEND, 0), (SPN_STATE_LASTGASP, 0)]) ?_
    (((spnGo_keeps _ _ _).mono (by decide +kernel)).trans (applyTarget_keeps _))
  simp (disch := decide +kernel) [Keeps.refl]

theorem drydownRequest_keeps (s : State) : Keeps drydownFields s (drydownRequest s).1 := by
  have h1 : Keeps drydownFields s (s.setMany 0 [(SPN_DDREQ, 1), (SPN_STATE_DRYPEND, 0)]) := by
    simp (disch := decide +kernel) [Keeps.refl]
  unfold drydownRequest
  dsimp only
  generalize s.setMany 0 [(SPN_DDREQ, 1), (SPN_STATE_DRYPEND, 0)] = t at h1 ⊢
  exact h1.trans (((retractAll_keeps t).mono (by decide +kernel)).trans (parkedEnd_keeps _))

theorem enterDrydown_keeps (b : Nat) (s : State) : Keeps drydownFields s (enterDrydown b s).1 := by
  refine Keeps.trans (t := s.set SPN_DDKIND 0 3) ?_ (((spnGo_keeps 9 b _).mono (by decide +kernel)).trans (drydownRequest_keeps _))
  simp (disch := decide +kernel) [Keeps.refl]

/-- An urgent drydown changes what a drydown can change. -/
theorem urgentDrydown_keeps (z : Bool) (s : State) : Keeps drydownFields s (urgentDrydown z s).1 := by
  unfold urgentDrydown
  by_cases h : s.is SPN_STATE_STATE 0 0 = true
  · rw [if_pos h]
    exact keeps_ite ((setBridge_keepsAll _ _).mono (by decide +kernel)) .refl
  · rw [if_neg h]
    exact enterDrydown_keeps _ s

/-- A lock-out locks the spindle. -/
theorem lockOut_of (s : State) : (lockOut s).1.on SPN_STATE_FAULTLOCK 0 = true := by
  unfold lockOut
  rw [(urgentDrydown_keeps _ _).on 0 (by decide +kernel)]
  simp (disch := decide +kernel)

/-- A bridge that drives, or a test that is due. -/
theorem drives_of {s : State} (h : s.on SPN_BRIDGE 0 = true ∨ s.on SPN_OCWAIT 0 = true) :
    ¬(s.is SPN_BRIDGE 0 0 && !s.on SPN_OCWAIT 0) = true := by
  rw [State.on_eq] at h
  rw [State.is_eq]
  rcases h with h | h <;> simp_all

/-- Settles O42: the bridge goes off before the test, and the test by its outcome. -/
theorem motorWiringFaults : Obligations.MotorWiringFaults := by
  unfold Obligations.MotorWiringFaults
  intro s hr
  refine ⟨fun h => ?_, fun h => ?_, fun hw hf h9 h3 => ?_, fun hw => ?_, lockOut_of s, fun p h => ⟨?_, ?_⟩, ?_⟩
  · have h' : (s.bump SPN_CNT_OVERCUR 0).is SPN_STATE_STATE 0 0 = false := by
      rw [State.bump_eq, is_set_ne _ _ _ _ _ (by decide +kernel), h]
    obtain ⟨hb, hw, -⟩ := overcurrentOff_of (fails := false) h'
    refine ⟨overcurrentOff false (s.bump SPN_CNT_OVERCUR 0), ?_, hb, hw⟩
    rw [exec_shuntOvercurrent, execShuntOvercurrent]
    exact done_onSpindle hr rfl
  · have h' : (s.bump SPN_CNT_OVERCUR 0).is SPN_STATE_STATE 0 0 = false := by
      rw [State.bump_eq, is_set_ne _ _ _ _ _ (by decide +kernel), h]
    obtain ⟨hb, -, hf⟩ := overcurrentOff_of (fails := true) h'
    refine ⟨overcurrentOff true (s.bump SPN_CNT_OVERCUR 0), ?_, hb, hf rfl⟩
    rw [exec_shuntOvercurrent, execShuntOvercurrent]
    exact done_onSpindle hr rfl
  · refine ⟨spnGo 1 0 (s.setMany 0 [(SPN_OCWAIT, 0), (SPN_OCFAIL, 0)]), ?_, spnGo_is (by decide) .., ?_⟩
    · rw [exec_overcurrentTest, execOvercurrentTest]
      exact done_onSpindle hr (by simp (disch := decide +kernel) [overcurrentTest, hw, hf, h9, h3])
    · rw [State.on_eq, spnGo_get (by decide +kernel)]
      simp (disch := decide +kernel)
  · rw [exec_overcurrentTest, execOvercurrentTest]
    exact done_onSpindle hr (by simp [overcurrentTest, hw])
  · rw [exec_phaseShortGround, execPhaseShortGround]
    exact done_onSpindle hr (by unfold phaseShortGround; rw [if_neg (drives_of h)])
  · rw [exec_openPhase, execOpenPhase]
    exact done_onSpindle hr (by unfold openPhase; rw [if_neg (drives_of h)])
  · rw [exec_busOvervoltage, execBusOvervoltage]
    exact done_onSpindle hr rfl

/-! ## Starts (R331–R340) -/

/-- The fields that CATCH sets as it starts. -/
def catchFields : List Field := [SPN_OBSLOST, SPN_COMDIF, SPN_ONPILOT, SPN_CATCHT, SPN_IDDEM, SPN_IQDEM, SPN_OBSANG, SPN_ERRN, SPN_EMFN,
  SPN_OBSSPD, SPN_VINT, SPN_SPEED, SPN_RAMPA, SPN_RAMPX, SPN_RAMPV]

/-- The ramp's own fields. -/
def rampFields : List Field := [SPN_RAMPA, SPN_RAMPX, SPN_RAMPV]

theorem startRamp_keeps (v : Int) (s : State) : Keeps rampFields s (startRamp v s) := by
  unfold startRamp setRamp showRamp
  simp (disch := decide +kernel) [State.setI_eq, Keeps.refl]

theorem observerFromPilot_keeps (s : State) : Keeps catchFields s (observerFromPilot s) := by
  unfold observerFromPilot
  simp (disch := decide +kernel) [State.setI_eq, Keeps.refl]

/-- CATCH is entered with the bridge driven, and then starts the observer and the ramp. -/
theorem enterCatch_keeps (v : Int) (a : Nat) (s : State) : Keeps catchFields (spnGo 8 4 (s.bump SPN_CNT_CATCHES 0)) (enterCatch v a s) := by
  unfold enterCatch
  extract_lets t t2 t3 t4
  have ho (u : State) (n : Nat) (x : Int) : Keeps catchFields u ((u.set SPN_OBSANG 0 n).setI SPN_OBSSPD 0 x) := by
    simp (disch := decide +kernel) [State.setI_eq, Keeps.refl]
  have hm (u : State) (m n : Nat) : Keeps catchFields u
      (u.setMany 0 [(SPN_OBSLOST, 0), (SPN_COMDIF, 0), (SPN_ONPILOT, m), (SPN_CATCHT, n), (SPN_IDDEM, 0), (SPN_IQDEM, 0)]) := by
    simp (disch := decide +kernel) [Keeps.refl]
  have h2 : Keeps catchFields t t2 := hm t _ _
  have h3 : Keeps catchFields t2 t3 :=
    keeps_ite (observerFromPilot_keeps t2) (ho t2 _ _)
  have hv (u : State) (x : Int) : Keeps catchFields u ((u.set SPN_VINT 0 0).setI SPN_VINT 1 x) := by
    simp (disch := decide +kernel) [State.setI_eq, Keeps.refl]
  have h5 : Keeps catchFields t4 (t4.setI SPN_SPEED 0 v) := by
    simp (disch := decide +kernel) [State.setI_eq, Keeps.refl]
  exact h2.trans (h3.trans ((hv t3 _).trans (h5.trans ((startRamp_keeps v _).mono (by decide +kernel)))))

theorem enterCatch_is (v : Int) (a : Nat) (s : State) : (enterCatch v a s).is SPN_STATE_STATE 0 8 = true := by
  rw [(enterCatch_keeps v a s).is 0 8 (by decide +kernel)]
  exact spnGo_is (by decide) ..

theorem enterAlign_is (s : State) : (enterAlign s).is SPN_STATE_STATE 0 3 = true := by
  unfold enterAlign
  simp (disch := decide +kernel) only [State.setMany_cons, State.setMany_nil, is_set_ne]
  exact spnGo_is (by decide) ..

/-- A target that keeps the spindle running. -/
theorem applyTarget_of {s : State} (h : 48000 ≤ s.getI SPN_TGT 0) : applyTarget s = s := by
  unfold applyTarget
  dsimp only
  rw [if_neg (by omega : ¬s.getI SPN_TGT 0 < 0), if_neg (by omega : ¬s.getI SPN_TGT 0 < 48000), ite_self]

/-- START of a stopped spindle. -/
theorem spnStart_stopped {s : State} (hl : s.on SPN_STATE_FAULTLOCK 0 = false) (hs : s.on FLT_SAFE_ACTIVE 0 = false)
    (h : s.is SPN_STATE_STATE 0 0 = true) (ht : 48000 ≤ s.getI SPN_TGT 0) : spnStart s = spnGo 1 0 (s.bump SPN_CNT_STARTS 0) := by
  have hst : s.get SPN_STATE_STATE 0 = 0 := by simpa [State.is_eq] using h
  unfold spnStart
  rw [hl, hs, hst, if_neg (by decide)]
  show applyTarget (spnGo 1 0 (s.bump SPN_CNT_STARTS 0)) = _
  refine applyTarget_of ?_
  rw [State.getI_eq, spnGo_get (by decide +kernel), State.bump_eq, get_set_ne _ _ _ _ (by decide +kernel), ← State.getI_eq]
  exact ht

/-- START of a spindle that neither is stopped nor dries down. -/
theorem spnStart_running {s : State} (h0 : s.is SPN_STATE_STATE 0 0 = false) (h9 : s.is SPN_STATE_STATE 0 9 = false) : spnStart s = s := by
  have hst0 : s.get SPN_STATE_STATE 0 ≠ 0 := by simpa [State.is_eq] using h0
  have hst9 : s.get SPN_STATE_STATE 0 ≠ 9 := by simpa [State.is_eq] using h9
  unfold spnStart
  split
  · rfl
  · split
    · exact absurd ‹_› hst0
    · exact absurd ‹_› hst9
    · rfl

/-- A hand-over keeps the commutation angle, and changes the difference alone beside what it does. -/
theorem keepAngle_keeps (f : State → State) (s : State) : Keeps [SPN_COMDIF] (f s) (keepAngle f s) := by
  unfold keepAngle
  simp (disch := decide +kernel) [State.setI_eq, Keeps.refl]

/-- The hand-over from the imposed angle to the observer's. -/
def handOver (s : State) : State := (spnGo 5 4 (s.set SPN_FAILS 0 0)).set SPN_ONPILOT 0 0

/-- The hand-over with the ramp's start. -/
theorem handOver_keeps (v : Int) (s : State) : Keeps (SPN_COMDIF :: SPN_ONPILOT :: rampFields) (spnGo 5 4 (s.set SPN_FAILS 0 0))
    (startRamp v (keepAngle handOver s)) := by
  refine Keeps.trans (t := handOver s) ?_ (((keepAngle_keeps handOver s).mono (by decide +kernel)).trans
    ((startRamp_keeps v _).mono (by decide +kernel)))
  unfold handOver
  simp (disch := decide +kernel) [Keeps.refl]

/-- The states that CATCH ends in. -/
theorem catchEnd_state {s : State} (h : s.is SPN_STATE_STATE 0 8 = true) (hk : s.is SPN_DDKIND 0 3 = false) :
    (catchEnd s).get SPN_STATE_STATE 0 = if agreed s then 6 else 5 := by
  have ha : agreed (s.set SPN_FAILS 0 0) = agreed s := by
    simp (disch := decide +kernel) [agreed, pilotExists]
  have h5 (u : State) : (keepAngle (fun v => (spnGo 5 4 v).set SPN_ONPILOT 0 0) u).get SPN_STATE_STATE 0 = 5 := by
    rw [(keepAngle_keeps _ u).get 0 (by decide +kernel), get_set_ne _ _ _ _ (by decide +kernel), spnGo_state]
    rfl
  unfold catchEnd
  dsimp only
  rw [h, hk, ha]
  cases agreed s with
  | true =>
    rw [if_neg (by decide), if_neg (by decide), if_pos rfl, if_pos rfl, (keepAngle_keeps _ _).get 0 (by decide +kernel), spnGo_state]
    rfl
  | false =>
    rw [if_neg (by decide), if_neg (by decide), if_neg (by decide), get_ite, h5, spnGo_state]
    exact ite_self _

/-- Settles O40: each state of the start by the findings of its stage. -/
theorem spindleStart : Obligations.SpindleStart := by
  unfold Obligations.SpindleStart
  intro s hr
  refine ⟨fun ha hm h0 ht => ?_, fun hd => ?_, fun hd hl => ?_, fun hd hl hs h0 ht => ?_, fun hd h0 h9 => ?_,
    fun h1 hw hp => ⟨fun c => ?_, fun c hv => ?_, fun c hv => ?_, fun c => ?_, fun c => ?_⟩, fun h1 hw hp hra hdir f c => ?_,
    enterAlign_is s, fun h2 => ⟨fun hsl => ?_, fun hsl => ?_, ?_⟩, fun h3 => ⟨?_, ?_, fun d => ?_⟩,
    fun h4 => ⟨fun ho hi => ?_, fun hf => ?_, fun hf => ?_, fun hsw hb => ?_⟩, fun h8 hk => ?_⟩
  · rw [exec_autostart, execAutostart, exec_spnStart, execSpnStart, done_onSpindle hr rfl, done_onSpindle hr rfl]
    simp [autostart, ha, hm, h0, ht]
  · rw [exec_spnStart, execSpnStart]
    exact done_onSpindle hr (by simp [startOrder, hd])
  · rw [exec_spnStart, execSpnStart]
    exact done_onSpindle hr (by simp [startOrder, spnStart, hd, hl])
  · refine ⟨spnGo 1 0 (s.bump SPN_CNT_STARTS 0), ?_, spnGo_is (by decide) .., ?_⟩
    · rw [exec_spnStart, execSpnStart]
      exact done_onSpindle hr (by rw [startOrder, hd]; exact spnStart_stopped hl hs h0 ht)
    · rw [spnGo_bridge, Nat.zero_mod]
  · rw [exec_spnStart, execSpnStart]
    exact done_onSpindle hr (by rw [startOrder, hd]; exact spnStart_running h0 h9)
  · rw [exec_senseEnd, execSenseEnd]
    exact done_onSpindle hr (by simp [senseEnd, senseFinding, h1, hw, hp])
  · refine ⟨enterCatch c.speed c.angle s, ?_, enterCatch_is ..⟩
    rw [exec_senseEnd, execSenseEnd]
    exact done_onSpindle hr (by simp [senseEnd, senseFinding, h1, hw, hp]; omega)
  · rw [exec_senseEnd, execSenseEnd]
    exact done_onSpindle hr (by simp [senseEnd, senseFinding, h1, hw, hp]; omega)
  · rw [exec_senseEnd, execSenseEnd]
    exact done_onSpindle hr (by simp [senseEnd, senseFinding, h1, hw, hp])
  · rw [exec_senseEnd, execSenseEnd]
    exact done_onSpindle hr (by simp [senseEnd, senseFinding, h1, hw, hp])
  · rw [exec_senseEnd, execSenseEnd]
    exact done_onSpindle hr (by simp [senseEnd, senseFinding, h1, hw, hp, hra, hdir])
  · rw [exec_brakeEnd, execBrakeEnd]
    exact done_onSpindle hr (by simp [brakeEnd, h2, hsl])
  · rw [exec_brakeEnd, execBrakeEnd]
    exact done_onSpindle hr (by simp [brakeEnd, hsl])
  · rw [exec_brakeTimeout, execBrakeTimeout]
    exact done_onSpindle hr (by simp [brakeTimeout, h2])
  · rw [exec_alignEnd, execAlignEnd]
    exact done_onSpindle hr (by simp [alignEnd, h3])
  · rw [exec_alignEnd, execAlignEnd]
    exact done_onSpindle hr (by simp [alignEnd, h3])
  · rw [exec_alignEnd, execAlignEnd]
    exact done_onSpindle hr (by simp [alignEnd, h3])
  · refine ⟨startRamp (s.getI SPN_OBSSPD 0 / (Nat.max 1 (s.get SPN_MOTOR_PP 0) : Nat)) (keepAngle handOver s), ?_, ?_, ?_⟩
    · rw [exec_openloopHandover, execOpenloopHandover]
      exact done_onSpindle hr (by rw [openloopHandover, if_pos (by simp [h4, ho, hi])]; rfl)
    · rw [(handOver_keeps _ s).is 0 5 (by decide +kernel)]
      exact spnGo_is (by decide) ..
    · rw [(handOver_keeps _ s).get 0 (by decide +kernel), spnGo_get (by decide +kernel), State.get_set_self, Nat.zero_mod]
  · rw [exec_startFailure, execStartFailure]
    exact done_onSpindle hr (by simp [startFailure, failStart, h4, hf])
  · rw [exec_startFailure, execStartFailure]
    exact done_onSpindle hr (by simp [startFailure, failStart, h4, Nat.not_lt.2 hf])
  · have hg (f : Field) (i : Nat) (hf : ∀ g ∈ spnGoFields, g.id ≠ f.id) := spnGo_get hf 1 0 i (s.setMany 0
      [(SPN_MOTOR_SWAP, 1 - s.get SPN_MOTOR_SWAP 0), (SPN_STATE_SWAP_LEARNED, 1), (GLB_WIRING_PHASE, 1 - s.get SPN_MOTOR_SWAP 0)])
    refine ⟨spnGo 1 0 (s.setMany 0 [(SPN_MOTOR_SWAP, 1 - s.get SPN_MOTOR_SWAP 0), (SPN_STATE_SWAP_LEARNED, 1),
      (GLB_WIRING_PHASE, 1 - s.get SPN_MOTOR_SWAP 0)]), ?_, ?_, ?_, spnGo_is (by decide) .., ?_⟩
    · rw [exec_phaseOrderLearn, execPhaseOrderLearn]
      exact done_onSpindle hr (by rw [phaseOrderLearn, if_pos (by simp [h4, hb])])
    · rw [hg _ _ (by decide +kernel)]
      simp (disch := decide +kernel)
      exact Nat.mod_eq_of_lt (Nat.lt_of_le_of_lt (Nat.sub_le _ _) (by decide))
    · rw [State.on_eq, hg _ _ (by decide +kernel)]
      simp (disch := decide +kernel)
    · rw [hg _ _ (by decide +kernel)]
      simp (disch := decide +kernel)
  · refine ⟨catchEnd s, ?_, catchEnd_state h8 hk⟩
    rw [exec_catchEnd, execCatchEnd]
    exact done_onSpindle hr rfl

/-! ## Drydowns and the end of power (R342–R353) -/

/-- An orderly drydown of a running spindle. -/
theorem orderlyDrydown_of {k : Nat} {s : State} (hk : k < 4) (h0 : s.is SPN_STATE_STATE 0 0 = false) (h9 : s.is SPN_STATE_STATE 0 9 = false)
    (h3 : s.is SPN_DDKIND 0 3 = false) : (orderlyDrydown k s).is SPN_STATE_STATE 0 9 = true ∧ (orderlyDrydown k s).is SPN_DDKIND 0 k = true ∧
      (orderlyDrydown k s).on SPN_STATE_DRYPEND 0 = true := by
  have he : orderlyDrydown k s = (spnGo 9 (if torqueHeld s then 4 else 0)
      (s.setMany 0 [(SPN_DDKIND, k), (SPN_DDREQ, 0), (SPN_STATE_DRYPEND, 1)])).emit .drydownEvent := by
    rw [orderlyDrydown, h0, h9, h3]
    rfl
  rw [he]
  refine ⟨spnGo_is (by decide) .., ?_, ?_⟩
  · show (spnGo 9 _ _).is SPN_DDKIND 0 k = true
    rw [State.is_eq, spnGo_ddkind (by decide)]
    simp (disch := decide +kernel)
    exact Nat.mod_eq_of_lt hk
  · show (spnGo 9 _ _).on SPN_STATE_DRYPEND 0 = true
    rw [State.on_eq, spnGo_get (by decide +kernel)]
    simp (disch := decide +kernel)

/-- A held START once the actuators are parked. -/
theorem parkedEnd_held {s : State} (h9 : s.is SPN_STATE_STATE 0 9 = true) (hd : s.on SPN_DDREQ 0 = true) (hp : allParked s = true)
    (hh : s.on SPN_HELD 0 = true) (ht : 48000 ≤ s.getI SPN_TGT 0) :
    (parkedEnd s).is SPN_STATE_STATE 0 1 = true ∧ (parkedEnd s).on SPN_HELD 0 = false := by
  have hu : (s.setMany 0 [(SPN_HELD, 0), (SPN_STATE_DRYPEND, 0), (SPN_STATE_LASTGASP, 0)]).getI SPN_TGT 0 = s.getI SPN_TGT 0 ∧
      (s.setMany 0 [(SPN_HELD, 0), (SPN_STATE_DRYPEND, 0), (SPN_STATE_LASTGASP, 0)]).on SPN_HELD 0 = false := by
    constructor <;> simp (disch := decide +kernel)
  unfold parkedEnd
  rw [h9, hd, hp, hh, if_neg (by decide), if_pos rfl]
  generalize s.setMany 0 [(SPN_HELD, 0), (SPN_STATE_DRYPEND, 0), (SPN_STATE_LASTGASP, 0)] = u at hu ⊢
  rw [applyTarget_of (by rw [State.getI_eq, spnGo_get (by decide +kernel), ← State.getI_eq, hu.1]; exact ht)]
  exact ⟨spnGo_is (by decide) .., by rw [State.on_eq, spnGo_get (by decide +kernel), ← State.on_eq, hu.2]⟩

/-- Settles O41: reacquisition by its attempts, a drydown by what stands parked and its kind. -/
theorem drydowns : Obligations.Drydowns := by
  unfold Obligations.Drydowns
  intro s hr
  refine ⟨fun h7 => ⟨fun hw c => ?_, fun hw hq ht => ?_, fun hn => ?_, fun hk hv => ?_⟩, fun hs hp hk => ?_, fun h0 => ⟨?_, ?_⟩, fun ho => ⟨?_, ?_⟩,
    fun ho h0 h9 h3 => ⟨?_, ?_⟩, fun h9 => ⟨fun hp => ?_, fun hp => ?_, fun hp => ?_, fun hd hp hh ht => ?_, fun hd hp hh hb => ?_, fun hh hsl => ?_⟩,
    fun hl hs => ?_, fun hb hsp => ?_⟩
  · refine ⟨enterCatch (if pilotExists s then pilotSpeed s else c.speed) c.angle s, ?_, enterCatch_is ..⟩
    rw [exec_reacqAttemptEnd, execReacqAttemptEnd]
    exact done_onSpindle hr (by simp [reacqAttemptEnd, h7, hw])
  · rw [exec_reacqAttemptEnd, execReacqAttemptEnd]
    exact done_onSpindle hr (by simp [reacqAttemptEnd, h7, hw, hq, Nat.not_lt.2 ht])
  · rw [exec_reacqFailure, execReacqFailure]
    exact done_onSpindle hr (by simp [reacqFailure, h7, hn])
  · rw [exec_speedFallback, execSpeedFallback]
    exact done_onSpindle hr (by simp [speedFallback, h7, hk, hv])
  · rw [exec_lowSpeedDrydown, execLowSpeedDrydown]
    exact done_onSpindle hr (by simp [lowSpeedDrydown, hs, hk, hp])
  · rw [urgentDrydown, if_pos h0, if_pos rfl, State.is_eq, setBridge_get (by decide +kernel), ← State.is_eq, h0]
  · rw [urgentDrydown, if_pos h0]
  · rw [exec_spnStop, execSpnStop]
    exact done_onSpindle hr (by rw [stopOrder, if_pos ho])
  · rw [exec_spnDrydown, execSpnDrydown]
    exact done_onSpindle hr (by rw [drydownOrder, if_pos ho])
  · refine ⟨orderlyDrydown 1 (placeFrontiers s), ?_, orderlyDrydown_of (by decide) h0 h9 h3⟩
    rw [exec_spnStop, execSpnStop]
    exact done_onSpindle hr (by rw [stopOrder, ho]; rfl)
  · refine ⟨orderlyDrydown 2 (placeFrontiers s), ?_, orderlyDrydown_of (by decide) h0 h9 h3⟩
    rw [exec_spnDrydown, execSpnDrydown]
    exact done_onSpindle hr (by rw [drydownOrder, ho]; rfl)
  · rw [exec_spnPark, execSpnPark]
    exact done_onSpindle hr (by rw [spnPark, h9, hp, if_pos (by decide)])
  · rw [exec_drydownTimeout, execDrydownTimeout]
    exact done_onSpindle hr (by rw [drydownTimeout, h9, hp, if_pos (by decide)])
  · rw [exec_spnPark, execSpnPark]
    exact done_onSpindle hr (by rw [spnPark, h9, hp, if_neg (by decide)])
  · refine ⟨parkedEnd s, ?_, parkedEnd_held h9 hd hp hh ht⟩
    rw [exec_actuatorsParked, execActuatorsParked]
    exact done_onSpindle hr rfl
  · refine ⟨setBridge (if s.is SPN_DDKIND 0 1 then 1 else 0) s, ?_, ?_⟩
    · rw [exec_actuatorsParked, execActuatorsParked]
      exact done_onSpindle hr (by rw [actuatorsParked, parkedEnd, h9, hd, hp, hh, hb, if_neg (by decide), if_neg (by decide), if_neg (by decide)])
    · rw [setBridge_bridge]
      cases s.is SPN_DDKIND 0 1 <;> rfl
  · refine ⟨spnGo 0 0 (s.setMany 0 [(SPN_STATE_DRYPEND, 0), (SPN_STATE_LASTGASP, 0), (SPN_OCWAIT, 0), (SPN_OCFAIL, 0)]), ?_,
      spnGo_is (by decide) .., ?_⟩
    · rw [exec_spindleStopped, execSpindleStopped]
      exact done_onSpindle hr (by rw [spindleStopped, h9, hh, hsl, if_pos (by decide)])
    · rw [State.on_eq, spnGo_get (by decide +kernel)]
      simp (disch := decide +kernel)
  · rw [exec_powerLoss, execPowerLoss]
    exact done_onSpindle hr (by rw [powerLoss, hl, hs, if_neg (by decide)]; exact if_neg (by decide))
  · rw [exec_regenEnd, execRegenEnd]
    exact done_onSpindle hr (by rw [regenEnd, hb, hsp, if_pos (by decide)])

end Sys2Proof.Machine
end

section
/-! PROOFS. Spindle (spec/06): the observer and the angles, the speed loop and its reference. -/

namespace Sys2Proof.Machine

set_option Elab.async false

/-! ## What a capture of a trace unit leaves alone -/

/-- The fields that a capture can change. -/
def bySil : Nat → Bool := fun x => byRaise x || (x == SIL_TIME.id || x == SIL_Q.id || x == SIL_GAP.id || x == LPE_SIL_STS_LOST.id)

theorem Closed.byRaise_of_sil {P : State → Prop} (hP : Closed bySil P) : Closed byRaise P := hP.mono fun x h => by simp [bySil, h]

theorem silCapture_closed {P : State → Prop} (hP : Closed bySil P) (u v aux kind : Nat) {s : State} (hs : P s) : P (silCapture u v aux kind s) := by
  have hR := hP.byRaise_of_sil
  unfold silCapture
  split
  · exact hs
  · extract_lets q t t2 t3 armed t4
    have ht : P t := hP.set _ _ _ _ (by decide +kernel) hs
    have h2 : P t2 := hP.set _ _ _ _ (by decide +kernel) ht
    have h3 : P t3 := by
      unfold t3
      split
      · exact hP.set _ _ _ _ (by decide +kernel) (keep_silPut hR _ _ _ _ _ h2)
      · exact h2
    have h4 : P t4 := keep_silPut hR _ _ _ _ _ h3
    split
    · exact hP.bump _ _ _ (by decide +kernel) (hP.bump _ _ _ (by decide +kernel) (hP.set _ _ _ _ (by decide +kernel) ht))
    · split
      · split
        · exact keep_silTrigger hR _ _ _ h4
        · exact h4
      · exact hP.dec _ _ _ (by decide +kernel) h4

/-! ## What a period of the spindle leaves alone

A PWM period changes the bus voltage, and an update of the speed loop the speed and the temperature, at one place each: nothing else that
they do touches those fields. -/

/-- Every field but those of the four measurements and of the overrides of outputs. -/
def unmeasured : Nat → Bool := fun x =>
  x != SPN_BUS_VBUS.id && x != SPN_SPEED.id && x != SPN_TEMP_REST.id && x != SPN_TEMP_TEMP.id && x != LPE_OVR.id && x != LPE_OUTCFG_OVR.id

section
variable {P : State → Prop} (hP : Closed unmeasured P)
include hP

theorem Closed.bySettle_of_unmeasured : Closed bySettle P := hP.mono fun x hx => by
  have h : ∀ f : Field, bySettle f.id = false → x ≠ f.id := fun f hf e => by rw [e, hf] at hx; cases hx
  simp [unmeasured, h SPN_BUS_VBUS (by decide +kernel), h SPN_SPEED (by decide +kernel), h SPN_TEMP_REST (by decide +kernel),
    h SPN_TEMP_TEMP (by decide +kernel), h LPE_OVR (by decide +kernel), h LPE_OUTCFG_OVR (by decide +kernel)]

theorem Closed.byRaise_of_unmeasured : Closed byRaise P := hP.bySettle_of_unmeasured.ofSettle

/-! ### The PWM period -/

theorem unmeasured_showPower (i1 i2 : Int) (w1 w2 : Nat) {s : State} (hs : P s) : P (showPower i1 i2 w1 w2 s) := by
  unfold showPower
  exact hP.set _ _ _ _ (by decide +kernel) (hP.setI _ _ _ _ (by decide +kernel) (hP.setI _ _ _ _ (by decide +kernel) hs))

theorem unmeasured_takeSamples (r : ShuntReading) {s : State} (hs : P s) : P (takeSamples r s) := by
  have hR := hP.byRaise_of_unmeasured
  unfold takeSamples
  extract_lets i1 i2 vb h l sector
  split
  · exact unmeasured_showPower hP _ _ _ _ hs
  · split
    · exact unmeasured_showPower hP _ _ _ _ hs
    · split
      · exact keep_settleTrace hR _ _ (keep_triggerSrc hR _ _ _ _ (hP.set _ _ _ _ (by decide +kernel) (hP.used _ (hP.used _ hs))))
      · refine keep_settleTrace hR _ _ (keep_triggerSrc hR _ _ _ _ (unmeasured_showPower hP _ _ _ _ ?_))
        refine hP.setI _ _ _ _ (by decide +kernel) (hP.setI _ _ _ _ (by decide +kernel) ?_)
        exact Closed.foldl _ _ _ (fun t x ht => hP.set _ _ _ _ (by decide +kernel) ht) (hP.set _ _ _ _ (by decide +kernel) hs)

theorem unmeasured_busLevels (v : Nat) {s : State} (hs : P s) : P (busLevels v s) := by
  have hR := hP.byRaise_of_unmeasured
  unfold busLevels
  extract_lets t1 t2
  have h1 : P t1 := keep_lower hR _ _ _ hs
  have h2 : P t2 := by
    unfold t2
    split
    · split
      · exact hP.set _ _ _ _ (by decide +kernel) h1
      · exact h1
    · exact hs
  split
  · exact keep_lower hR _ _ _ (hP.set _ _ _ _ (by decide +kernel) h2)
  · exact h2

theorem unmeasured_observerPeriod (a : Nat) (v : Int) (err emf : Nat) {s : State} (hs : P s) : P (observerPeriod a v err emf s) := by
  have hcount (f : Field) (hf : unmeasured f.id = true) (c : Bool) (t : State) (ht : P t) :
      P (if c then t.addSat f 0 1 else t.set f 0 0) := by
    split
    · exact hP.addSat _ _ _ _ hf ht
    · exact hP.set _ _ _ _ hf ht
  unfold observerPeriod
  split
  · exact hs
  · extract_lets fast lim due count t t2 t3 t4
    have ht : P t := hP.setI _ _ _ _ (by decide +kernel) (hP.set _ _ _ _ (by decide +kernel) hs)
    have h4 : P t4 := hcount _ (by decide +kernel) _ _ (hcount _ (by decide +kernel) _ _ (hcount _ (by decide +kernel) _ _ ht))
    split
    · exact h4
    · exact hP.set _ _ _ _ (by decide +kernel) h4

theorem unmeasured_observerFromPilot {s : State} (hs : P s) : P (observerFromPilot s) :=
  hP.setI _ _ _ _ (by decide +kernel) (hP.setMany _ _ _ (by simp only [List.all_cons, List.all_nil, Bool.and_true]; decide +kernel) hs)

theorem unmeasured_crossCheck {s : State} (hs : P s) : P (crossCheck s) := by
  unfold crossCheck
  split
  · exact keep_pulse hP.byRaise_of_unmeasured _ _ _ (unmeasured_observerFromPilot hP hs)
  · exact hs

theorem unmeasured_setRamp (x : Int) {s : State} (hs : P s) : P (setRamp x s) :=
  hP.setI _ _ _ _ (by decide +kernel) (hP.setI _ _ _ _ (by decide +kernel) hs)

theorem unmeasured_rampStep {s : State} (hs : P s) : P (rampStep s) := by
  have hmove (g : Int) : P (rampMove g s) := by
    unfold rampMove
    extract_lets x a j top e d m r
    split
    · exact unmeasured_setRamp hP _ (hP.set _ _ _ _ (by decide +kernel) hs)
    · exact unmeasured_setRamp hP _ (hP.setI _ _ _ _ (by decide +kernel) hs)
  have hhold (o : Int) (t : State) (ht : P t) : P (rampHold o t) := by
    unfold rampHold
    extract_lets cap top r
    split
    · exact ht
    · exact unmeasured_setRamp hP _ (hP.setI _ _ _ _ (by decide +kernel) ht)
  unfold rampStep
  extract_lets st t
  split
  · exact hP.set _ _ _ _ (by decide +kernel) (hhold _ _ (hmove _))
  · exact hs

theorem unmeasured_sensePhases (ph : PhaseReading) {s : State} (hs : P s) : P (sensePhases ph s) := by
  unfold sensePhases
  extract_lets code
  exact Closed.forBelow _ _ _ (fun i u hu => hP.set _ _ _ _ (by decide +kernel) hu) hs

theorem unmeasured_calStep {s : State} (hs : P s) : P (calStep s) := by
  unfold calStep
  split
  · exact hs
  · extract_lets d
    split
    · exact hP.setMany _ _ _ (by simp only [List.all_cons, List.all_nil, Bool.and_true]; decide +kernel) hs
    · exact hP.setI _ _ _ _ (by decide +kernel) (hP.add _ _ _ _ (by decide +kernel) hs)

/-! ### The sinks of the loop engine's outputs -/

theorem Closed.bySil_of_unmeasured : Closed bySil P := hP.mono fun x hx => by
  have h : ∀ f : Field, bySil f.id = false → x ≠ f.id := fun f hf e => by rw [e, hf] at hx; cases hx
  simp [unmeasured, h SPN_BUS_VBUS (by decide +kernel), h SPN_SPEED (by decide +kernel), h SPN_TEMP_REST (by decide +kernel),
    h SPN_TEMP_TEMP (by decide +kernel), h LPE_OVR (by decide +kernel), h LPE_OUTCFG_OVR (by decide +kernel)]

theorem unmeasured_silCapture (u v aux kind : Nat) {s : State} (hs : P s) : P (silCapture u v aux kind s) :=
  silCapture_closed hP.bySil_of_unmeasured u v aux kind hs

theorem unmeasured_putPort (o w v : Nat) {s : State} (hs : P s) : P (putPort o w v s) := by
  unfold putPort silWatch
  refine Closed.forBelow _ _ _ (fun u t ht => ?_) (hP.record s _ rfl (fun h => h) List.prefix_rfl le_rfl hs)
  split
  · exact unmeasured_silCapture hP _ _ _ _ ht
  · exact ht

theorem unmeasured_recordAge (n trig ep : Nat) {s : State} (hs : P s) : P (recordAge n trig ep s) := by
  unfold recordAge
  split
  · exact hs
  · extract_lets age t
    have ht : P t := hP.set _ _ _ _ (by decide +kernel) (hP.set _ _ _ _ (by decide +kernel) hs)
    split
    · exact keep_pulse hP.byRaise_of_unmeasured _ _ _ (hP.set _ _ _ _ (by decide +kernel) (hP.set _ _ _ _ (by decide +kernel) ht))
    · exact ht

theorem unmeasured_microSink (h : Nat) (dac : Int) (age : Option (Nat × Nat × Nat)) {s : State} (hs : P s) : P (microSink h dac age s) := by
  have hR := hP.byRaise_of_unmeasured
  have hinh (t : State) (ht : P t) : P (setInhibit h t) := by
    unfold setInhibit
    split
    · exact ht
    · exact keep_recheckWrite hR _ _ (hP.bump _ _ _ (by decide +kernel) (hP.setMany _ _ _ (by decide +kernel) ht))
  unfold microSink
  split
  · exact hs
  · extract_lets c t t2 t3
    have h2 : P t2 := hP.set _ _ _ _ (by decide +kernel) (hP.setI _ _ _ _ (by decide +kernel) hs)
    refine keep_linkSend hR _ _ _ ?_
    unfold t3
    split
    · exact hinh _ (hP.setMany _ _ _ (by decide +kernel) h2)
    · exact h2

theorem unmeasured_vcmSink (a : Nat) (dac : Int) {s : State} (hs : P s) : P (vcmSink a dac s) := by
  have hshift : P (shiftHistory a s) := Closed.foldl _ _ _ (fun t x ht => hP.set _ _ _ _ (by decide +kernel) ht) hs
  have hadapt : P (adaptFeed a (shiftHistory a s)) := by
    unfold adaptFeed
    split
    · exact hshift
    · exact Closed.foldl _ _ _ (fun t x ht => hP.setI _ _ _ _ (by decide +kernel) ht) hshift
  unfold vcmSink
  split
  · exact hs
  · extract_lets s2 diff u t nb b ff t2
    have hu : P u := hP.set _ _ _ _ (by decide +kernel) hadapt
    have ht : P t := by
      unfold t
      split
      · split
        · exact hP.setMany _ _ _ (by decide +kernel) (hP.setI _ _ _ _ (by decide +kernel) hu)
        · exact hu
      · exact hadapt
    exact hP.setI _ _ _ _ (by decide +kernel) (hP.set _ _ _ _ (by decide +kernel) ht)

theorem unmeasured_toSink (o w v : Nat) (age : Option (Nat × Nat)) {s : State} (hs : P s) : P (toSink o w v age s) := by
  have hR := hP.byRaise_of_unmeasured
  have hdone (t : State) (ht : P t) : P (match age with | some (st, ep) => recordAge o st ep t | none => t) := by
    split
    · exact unmeasured_recordAge hP _ _ _ ht
    · exact ht
  unfold toSink
  extract_lets done t
  split
  · exact hs
  split
  · split
    · exact unmeasured_microSink hP _ _ _ hs
    · exact hs
  split
  · split
    · exact hdone _ (unmeasured_vcmSink hP _ _ hs)
    · exact hs
  split
  · split
    · have ht : P t := hP.set _ _ _ _ (by decide +kernel) hs
      split
      · exact hP.setMany _ _ _ (by simp only [List.all_cons, List.all_nil, Bool.and_true]; decide +kernel) ht
      · exact hP.set _ _ _ _ (by decide +kernel) ht
    · exact hs
  split
  · split
    · exact hdone _ (keep_setTorque hR _ _ hs)
    · exact hs
  split
  · split
    · exact keep_linkSend hR _ _ _ (hP.set _ _ _ _ (by decide +kernel) hs)
    · exact hs
  · exact hdone _ hs

theorem unmeasured_applyEntry (age : Option (Nat × Nat)) (e : Nat × Nat) {s : State} (hs : P s) : P (applyEntry age e s) := by
  have hp := unmeasured_putPort hP ((e.1 - 0x20000) / 16) ((e.1 - 0x20000) % 16) e.2 hs
  unfold applyEntry writePort passPort
  split
  · exact hp
  · exact unmeasured_toSink hP _ _ _ _ hp

theorem unmeasured_captureGroup (g v win : Nat) {s : State} (hs : P s) : P (captureGroup g v win s) := by
  unfold captureGroup
  refine Closed.forBelow _ _ _ (fun u t ht => ?_) hs
  split
  · exact unmeasured_silCapture hP _ _ _ _ ht
  · exact ht

theorem unmeasured_resolveGroup (g : Nat) {s : State} (hs : P s) : P (resolveGroup g s).1 := by
  unfold resolveGroup
  extract_lets slots fresh stale src t
  have ht : P t := hP.setMany _ _ _ (by simp only [List.all_cons, List.all_nil, Bool.and_true]; decide +kernel) hs
  split
  · exact hP.set _ _ _ _ (by decide +kernel) ht
  · split
    · exact hP.set _ _ _ _ (by decide +kernel) ht
    · extract_lets v t1 t2 t3 t4
      have h1 : P t1 := by
        unfold t1
        split
        · exact hP.used _ ht
        · exact ht
      have h2 : P t2 := by
        unfold t2
        split
        · exact h1
        · exact hP.bump _ _ _ (by decide +kernel) h1
      have h3 : P t3 :=
        hP.setI _ _ _ _ (by decide +kernel) (hP.setMany _ _ _ (by simp only [List.all_cons, List.all_nil, Bool.and_true]; decide +kernel) h2)
      have h4 : P t4 := by
        unfold t4
        split
        · exact hP.set _ _ _ _ (by decide +kernel) h3
        · exact h3
      clear_value t4 v
      dsimp only
      exact unmeasured_captureGroup hP g (uns 32 v) _ h4

theorem unmeasured_presentDemands (d0 : Int) (d1 d2 d3 : Nat) (age : Option (Nat × Nat)) {s : State} (hs : P s) :
    P (presentDemands d0 d1 d2 d3 age s) := by
  unfold presentDemands
  split
  · exact hs
  · extract_lets put r t v
    have hput (i : Nat) (v : Int) (t : State) (ht : P t) : P (put i v t) :=
      hP.setI _ _ _ _ (by decide +kernel) (hP.setBit _ _ _ _ _ (by decide +kernel)
        (hP.record t _ rfl (fun h => h) List.prefix_rfl le_rfl ht))
    have h4 : P (put 3 d3 (put 2 d2 (put 1 d1 (put 0 d0 s)))) := hput _ _ _ (hput _ _ _ (hput _ _ _ (hput _ _ _ hs)))
    have hr : P r.1 := unmeasured_resolveGroup hP 0 h4
    have ht : P t := Closed.forAll _ _ _ (fun e u hu => unmeasured_applyEntry hP _ _ hu) hr
    refine Closed.forBelow _ _ _ (fun i u hu => ?_) ht
    split
    · exact hu
    · exact hP.setI _ _ _ _ (by decide +kernel) hu

end

/-! ## The bridge, the observer and the angles (R308–R318, R338) -/

/-- A PWM period records the bus voltage that it measures. -/
theorem pwmPeriod_vbus (r : ShuntReading) (ph : PhaseReading) (code a : Nat) (v : Int) (e m : Nat) (s : State) :
    (pwmPeriod r ph code a v e m s).get SPN_BUS_VBUS 0 = voltageOf code s % 2 ^ SPN_BUS_VBUS.width := by
  have hP : Closed unmeasured (fun t => t.get SPN_BUS_VBUS 0 = voltageOf code s % 2 ^ SPN_BUS_VBUS.width) :=
    closed_get (by decide +kernel) 0 _
  have hR := hP.byRaise_of_unmeasured
  unfold pwmPeriod
  extract_lets old t vbus t2 t3 t4 t5
  have h1 : (t.set SPN_BUS_VBUS 0 vbus).get SPN_BUS_VBUS 0 = voltageOf code s % 2 ^ SPN_BUS_VBUS.width := State.get_set_self ..
  have hs : (sensePhases ph (t.set SPN_BUS_VBUS 0 vbus)).get SPN_BUS_VBUS 0 = voltageOf code s % 2 ^ SPN_BUS_VBUS.width :=
    unmeasured_sensePhases hP ph h1
  have h2 : t2.get SPN_BUS_VBUS 0 = voltageOf code s % 2 ^ SPN_BUS_VBUS.width := unmeasured_busLevels hP _ hs
  have h3 : t3.get SPN_BUS_VBUS 0 = voltageOf code s % 2 ^ SPN_BUS_VBUS.width :=
    keep_regenStep hR _ _ (keep_brakeDuty hR _ _ _ (unmeasured_takeSamples hP _ h2))
  have h4 : t4.get SPN_BUS_VBUS 0 = voltageOf code s % 2 ^ SPN_BUS_VBUS.width := unmeasured_observerPeriod hP _ _ _ _ h3
  have h5 : t5.get SPN_BUS_VBUS 0 = voltageOf code s % 2 ^ SPN_BUS_VBUS.width := keep_agreement hR _ (unmeasured_crossCheck hP h4)
  exact unmeasured_calStep hP (keep_calWatch hR _ (unmeasured_rampStep hP (keep_slewAngle hR _ (keep_pilotLoss hR _ h5))))

/-- A field that settling the angle sources leaves as it is. -/
theorem settleAngle_get {f : Field} (h : bySettle f.id = false) (i : Nat) (s : State) : (settleAngle s).get f i = s.get f i :=
  keep_settleAngle (closed_get h i _) s rfl

/-- What an observer that has lost its lock forgets. -/
def unlocked (s : State) : State := s.setMany 0 [(SPN_STATE_OBSLOCK, 0), (SPN_LOCKN, 0), (SPN_ERRN, 0), (SPN_EMFN, 0)]

theorem unlocked_keeps (s : State) : Keeps [SPN_STATE_OBSLOCK, SPN_LOCKN, SPN_ERRN, SPN_EMFN] s (unlocked s) := by
  unfold unlocked
  simp (disch := decide +kernel) [Keeps.refl]

/-- θ_P depends on four fields. -/
theorem pilotAngle_keeps {fs : List Field} {s t : State} (h : Keeps fs s t)
    (hf : ∀ g ∈ fs, g.id ≠ SPN_MOTOR_PP.id ∧ g.id ≠ SPN_EOFS.id ∧ g.id ≠ ANG_STAMP_LO.id ∧ g.id ≠ ANG_STAMP_HI.id) :
    pilotAngle t = pilotAngle s := by
  unfold pilotAngle pilotAngleAt State.tick State.stamp
  rw [h.get 0 fun g hg => (hf g hg).1, h.get 0 fun g hg => (hf g hg).2.1, h.get 0 fun g hg => (hf g hg).2.2.1,
    h.get 0 fun g hg => (hf g hg).2.2.2]

/-- Whether θ_P exists depends on two fields. -/
theorem pilotExists_keeps {fs : List Field} {s t : State} (h : Keeps fs s t)
    (hf : ∀ g ∈ fs, g.id ≠ ANG_SRC_SRC.id ∧ g.id ≠ ANG_SRC_REF.id) : pilotExists t = pilotExists s := by
  unfold pilotExists
  rw [h.get 0 fun g hg => (hf g hg).1, h.on 0 fun g hg => (hf g hg).2]

/-- The observer loses its lock with θ_P in PILOT: it starts again from θ_P. -/
theorem observerLockLoss_pilot {s : State} (hl : s.on SPN_STATE_OBSLOCK 0 = true) (he : 8 ≤ s.get SPN_ERRN 0)
    (h6 : s.is SPN_STATE_STATE 0 6 = true) (hp : pilotExists s = true) :
    observerLockLoss s = pulse 34 0xFF (observerFromPilot (unlocked s)) := by
  have h6' : s.get SPN_STATE_STATE 0 = 6 := by simpa [State.is_eq] using h6
  have hp' : pilotExists (unlocked s) = true := (pilotExists_keeps (unlocked_keeps s) (by decide +kernel)).trans hp
  unfold observerLockLoss
  rw [hl, h6', decide_eq_true he, if_neg (by simp)]
  extract_lets t st
  rw [if_pos (by decide), if_pos (show pilotExists t = true from hp'), if_pos rfl]
  rfl

/-- The observer loses its lock without θ_P in OBSERVER: the spindle coasts. -/
theorem observerLockLoss_coast {s : State} (hl : s.on SPN_STATE_OBSLOCK 0 = true) (he : 8 ≤ s.get SPN_ERRN 0)
    (h5 : s.is SPN_STATE_STATE 0 5 = true) (hp : pilotExists s = false) :
    observerLockLoss s = withFollow (enterCoast (unlocked s)) := by
  have h5' : s.get SPN_STATE_STATE 0 = 5 := by simpa [State.is_eq] using h5
  have hp' : pilotExists (unlocked s) = false := (pilotExists_keeps (unlocked_keeps s) (by decide +kernel)).trans hp
  unfold observerLockLoss
  rw [hl, h5', decide_eq_true he, if_neg (by simp)]
  extract_lets t st
  rw [if_pos (by decide), if_neg (by rw [show pilotExists t = false from hp']; decide), if_neg (by decide)]
  rfl

/-- The hand-over to θ_P: the angle is to be slewed, and θ_P becomes its source. -/
def toPilot (s : State) : State := s.setMany 0 [(SPN_SLEWING, 1), (SPN_ONPILOT, 1)]

theorem toPilot_keeps (s : State) : Keeps [SPN_SLEWING, SPN_ONPILOT] s (toPilot s) := by
  unfold toPilot
  simp (disch := decide +kernel) [Keeps.refl]

/-- A hand-over at no difference of the angles enters PILOT at once. -/
theorem pilotHandover_of {s : State} (h5 : s.is SPN_STATE_STATE 0 5 = true) (ha : agreed s = true)
    (hw : wrapElec ((commAngle s : Int) - pilotAngle s) = 0) : pilotHandover s = spnGo 6 4 (keepAngle toPilot s) := by
  have hp : pilotExists (toPilot s) = true := by
    rw [pilotExists_keeps (toPilot_keeps s) (by decide +kernel)]
    simp only [agreed, Bool.and_eq_true] at ha
    exact ha.1.1.1
  have hst (n : Nat) (hn : n ≠ 5) : (toPilot s).is SPN_STATE_STATE 0 n = false := by
    have h5' : s.get SPN_STATE_STATE 0 = 5 := by simpa [State.is_eq] using h5
    rw [(toPilot_keeps s).is 0 n (by decide +kernel), State.is_eq, h5']
    simpa using hn.symm
  have hon : (toPilot s).on SPN_ONPILOT 0 = true := by
    unfold toPilot
    simp (disch := decide +kernel)
  have hsrc : angleSource (toPilot s) = pilotAngle s := by
    rw [angleSource, hst 3 (by decide), hst 4 (by decide), hon, hp, if_neg (by decide), if_pos (by decide),
      pilotAngle_keeps (toPilot_keeps s) (by decide +kernel)]
  have hdif : (keepAngle toPilot s).on SPN_COMDIF 0 = false := by
    unfold keepAngle
    dsimp only
    rw [hsrc, hw, State.setI_eq, on_set_self]
    rfl
  unfold pilotHandover
  rw [h5, ha, if_pos (by decide)]
  show (if (keepAngle toPilot s).on SPN_COMDIF 0 = true then keepAngle toPilot s else spnGo 6 4 (keepAngle toPilot s)) = _
  rw [hdif, if_neg (by decide)]

/-- A hand-over under way that is given up. -/
def offPilot (s : State) : State := s.setMany 0 [(SPN_STATE_PSUSP, 1), (SPN_SLEWING, 0), (SPN_ONPILOT, 0)]

/-- Settles O38: the conditions of lock, loss and hand-over one by one, and the fields that the angle after them keeps. -/
theorem observerAndAngles : Obligations.ObserverAndAngles := by
  unfold Obligations.ObserverAndAngles
  refine ⟨fun h hh l hl hne i1 i2 => ?_, fun s hr => ⟨fun x p vbus a v e m => ?_, fun hn => ?_, fun ho hk => ?_, fun ho => ?_, fun hl he h6 hp => ?_,
    fun hl he h5 hp => ?_, fun h5 ha hw => ?_, fun ha => ?_, fun h5 hd => ?_, fun h5 hd hsl => ?_, fun h5 hd hsl => ?_, ?_, fun h5 hv hs hp => ?_,
    fun h => ?_, fun revs hc h5 hp hs hn => ?_, fun revs hc h => ?_⟩⟩
  · unfold phaseCurrent
    split_ifs <;> omega
  · refine ⟨s.after (settleAngle (pwmPeriod x p vbus.toNat a v e m s)), ?_, ?_⟩
    · rw [exec_pwmPeriod, execPwmPeriod]
      exact done_onSpinTick hr rfl
    · rw [State.after_get, settleAngle_get (by decide +kernel), pwmPeriod_vbus]
  · rw [exec_currentSenseFault, execCurrentSenseFault]
    exact done_onSpindle hr (by rw [currentSenseFault, if_neg (by omega)])
  · rw [exec_observerLock, execObserverLock]
    exact done_onSpindle hr (by simp [observerLock, ho, hk])
  · rw [exec_observerLock, execObserverLock]
    exact done_onSpindle hr (by simp [observerLock, ho])
  · refine ⟨observerFromPilot (unlocked s), ?_, ?_, ?_, ?_⟩
    · rw [exec_observerLockLoss, execObserverLockLoss]
      exact done_onSpindle hr (observerLockLoss_pilot hl he h6 hp)
    · rw [(observerFromPilot_keeps _).on 0 (by decide +kernel), unlocked]
      simp (disch := decide +kernel)
    · rw [(observerFromPilot_keeps _).is 0 6 (by decide +kernel), (unlocked_keeps s).is 0 6 (by decide +kernel), h6]
    · rw [← pilotAngle_keeps (unlocked_keeps s) (by decide +kernel), observerFromPilot]
      simp (disch := decide +kernel) [State.setI_eq]
  · refine ⟨spnGo 7 0 ((unlocked s).bump SPN_CNT_COASTS 0), ?_, spnGo_is (by decide) .., by rw [spnGo_bridge, Nat.zero_mod]⟩
    rw [exec_observerLockLoss, execObserverLockLoss]
    exact done_onSpindle hr (observerLockLoss_coast hl he h5 hp)
  · refine ⟨spnGo 6 4 (keepAngle toPilot s), ?_, spnGo_is (by decide) ..⟩
    rw [exec_pilotHandover, execPilotHandover]
    exact done_onSpindle hr (pilotHandover_of h5 ha hw)
  · rw [exec_pilotHandover, execPilotHandover]
    exact done_onSpindle hr (by simp [pilotHandover, ha])
  · rw [exec_angleDisagreement, execAngleDisagreement]
    exact done_onSpindle hr (by simp [angleDisagreement, h5, hd])
  · rw [exec_pilotSuspect, execPilotSuspect]
    exact done_onSpindle hr (by simp [pilotSuspect, h5, hd, hsl])
  · refine ⟨keepAngle offPilot s, ?_, ?_, ?_, ?_⟩
    · rw [exec_pilotSuspect, execPilotSuspect]
      exact done_onSpindle hr (by rw [pilotSuspect, h5, hd, hsl, if_pos (by decide), if_pos rfl]; rfl)
    · rw [(keepAngle_keeps _ s).on 0 (by decide +kernel), offPilot]
      simp (disch := decide +kernel)
    · rw [(keepAngle_keeps _ s).on 0 (by decide +kernel), offPilot]
      simp (disch := decide +kernel)
    · rw [(keepAngle_keeps _ s).on 0 (by decide +kernel), offPilot]
      simp (disch := decide +kernel)
  · rw [exec_psuspClear, execPsuspClear]
    exact done_onSpindle hr rfl
  · rw [exec_spnCal, execSpnCal]
    exact done_onSpindle hr (by rw [spnCal, if_pos (by simp [h5, hv, hs, hp])])
  · rw [exec_spnCal, execSpnCal]
    exact done_onSpindle hr (by
      rw [spnCal, if_neg]
      rcases h with h | h | h | h <;> simp [h])
  · rw [exec_eofsCalDone, execEofsCalDone]
    exact done_onSpindle hr (by rw [eofsCalDone, hc, h5, hp, hs, if_neg (by decide), if_pos (by decide), if_neg (by omega)])
  · rw [exec_eofsCalDone, execEofsCalDone]
    exact done_onSpindle hr (by 
      rw [eofsCalDone, hc, if_neg (by decide), if_neg]
      rcases h with h | h | h <;> simp [h])

/-! ## The speed loop and its reference (R320–R330, R340) -/

/-- An update of the speed loop records its measurements. -/
theorem speedLoopUpdate_of (d0 : Int) (d1 d2 d3 age : Nat) (same : Bool) (speed : BitVec 20) (rest : BitVec 16) (s : State) :
    (speedLoopUpdate d0 d1 d2 d3 speed.toNat age same rest.toNat s).get SPN_SPEED 0 = speed.toNat ∧
    (speedLoopUpdate d0 d1 d2 d3 speed.toNat age same rest.toNat s).get SPN_TEMP_REST 0 = rest.toNat ∧
    (speedLoopUpdate d0 d1 d2 d3 speed.toNat age same rest.toNat s).get SPN_TEMP_TEMP 0 =
      (clampI 0 255 (windingTemp rest.toNat (Nat.max 1 (s.get SPN_MOTOR_RS 0)))).toNat := by
  have hclamp (v : Int) : uns 8 (clampI 0 255 v) % 2 ^ 8 = (clampI 0 255 v).toNat := by
    have h : 0 ≤ clampI 0 255 v ∧ clampI 0 255 v < 256 := by
      unfold clampI
      omega
    unfold uns
    omega
  unfold speedLoopUpdate
  extract_lets d temp t t2 t3 t4 t5
  have hkeep {f : Field} {v : Nat} (hf : unmeasured f.id = false) (h2 : t2.get f 0 = v) :
      (settleTrace t5 (triggerSrc 54 t5.stamp [] t5)).get f 0 = v := by
    have hP : Closed unmeasured (fun u => u.get f 0 = v) := closed_get hf 0 v
    have hR := hP.byRaise_of_unmeasured
    have h3 : t3.get f 0 = v := keep_level hR _ _ _ _ h2
    have h4 : t4.get f 0 = v := unmeasured_presentDemands hP _ _ _ _ _ h3
    have h5 : t5.get f 0 = v := keep_calWatch hR _ (keep_loadWatch hR _ h4)
    exact keep_settleTrace hR _ _ (keep_triggerSrc hR _ _ _ _ h5)
  refine ⟨hkeep (by decide +kernel) ?_, hkeep (by decide +kernel) ?_, hkeep (by decide +kernel) ?_⟩
  · simp (disch := decide +kernel) [t2, t, State.setI_eq]
    exact Nat.mod_eq_of_lt speed.isLt
  · simp (disch := decide +kernel) [t2, t, State.setI_eq]
    exact Nat.mod_eq_of_lt rest.isLt
  · simp (disch := decide +kernel) [t2, t, State.setI_eq]
    exact hclamp temp

/-- Writes of a field's instances from `k` on leave the earlier ones as they are. -/
theorem foldl_zipIdx_get (f : Field) (l : List Nat) (k j : Nat) (hj : j < k) (s : State) :
    ((l.zipIdx k).foldl (fun t e => t.set f e.2 e.1) s).get f j = s.get f j := by
  induction l generalizing k s with
  | nil => rfl
  | cons x l ih =>
    rw [List.zipIdx_cons, List.foldl_cons, ih (k + 1) (by omega), State.get_set_inst _ _ (by omega)]

/-- The newest of a list of values. -/
theorem pushField_newest (f : Field) (n v : Nat) (s : State) : (pushField f (n + 1) v s).get f 0 = v % 2 ^ f.width := by
  unfold pushField
  rw [List.range_succ_eq_map, List.map_cons, List.zipIdx_cons, List.foldl_cons, foldl_zipIdx_get _ _ _ _ (by omega)]
  exact State.get_set_self ..

/-- Putting a value in front of a list changes that list alone. -/
theorem pushField_keeps (f : Field) (n v : Nat) (s : State) : Keeps [f] s (pushField f n v s) := by
  unfold pushField
  exact Closed.foldl (P := fun t => Keeps [f] s t) _ _ _ (fun t e ht => (keeps_set (by simp) _ _).2 ht) .refl

/-- A new target shows in the target, and a drydown can follow. -/
theorem newTarget_keeps (v : Int) (s : State) : Keeps (SPN_STATE_LOADOK :: SPN_TGT :: drydownFields) s (newTarget v s) := by
  unfold newTarget
  extract_lets w t
  have ht : Keeps (SPN_STATE_LOADOK :: SPN_TGT :: drydownFields) s t :=
    keeps_ite .refl (by simp (disch := decide +kernel) [Keeps.refl])
  refine Keeps.trans (t := t.setI SPN_TGT 0 w) ?_ ((applyTarget_keeps _).mono (by decide +kernel))
  rw [State.setI_eq]
  exact (keeps_set (by decide +kernel) _ _).2 ht

/-- The target of a value in range. -/
theorem newTarget_tgt {v : Int} (h1 : -1048576 ≤ v) (h2 : v < 1048576) (s : State) : (newTarget v s).getI SPN_TGT 0 = v := by
  have hc : clampI (-1048576) 1048575 v = v := by
    unfold clampI
    rw [if_neg (by omega), if_neg (by omega)]
  unfold newTarget
  extract_lets w t
  rw [(applyTarget_keeps _).getI 0 (by decide +kernel), State.setI_eq, getI_set_self, show w = v from hc]
  exact sgn_uns (w := 20) h1 (by omega)

/-! ### An edge of the reference (R328–R330) -/

/-- Every field but those of the reference's presence and its history. -/
def unreferenced : Nat → Bool := fun x => x != SPN_STATE_REFLOST.id && x != SPN_FHIST.id

theorem Closed.byRaise_of_unreferenced {P : State → Prop} (hP : Closed unreferenced P) : Closed byRaise P := hP.mono fun x hx => by
  have h : ∀ f : Field, byRaise f.id = false → x ≠ f.id := fun f hf e => by rw [e, hf] at hx; cases hx
  simp [unreferenced, h SPN_STATE_REFLOST (by decide +kernel), h SPN_FHIST (by decide +kernel)]

/-- What an edge does with the phase loop leaves the reference's history as it is. -/
theorem unreferenced_spdRefEdge {P : State → Prop} (hP : Closed unreferenced P) {freq : Nat} {s : State} (hm : s.is SPN_REFMODE_MODE 0 1 = true)
    (h : ∀ u, u = lower 38 0xFF (s.set SPN_STATE_REFLOST 0 0) → ∀ n m x,
      P (newTarget n ((pushField SPN_FTIME 8 m (pushField SPN_FHIST 8 (Nat.min 1048575 (freq * 960 / (1000 * (s.get SPN_REFCFG_PPR 0 + 1)))) u)).set
        SPN_FEDGES 0 x))) : P (spdRefEdge freq s) := by
  have hR := hP.byRaise_of_unreferenced
  have hramp (t : State) (ht : P t) : P (showRamp t) := hP.setI _ _ _ _ (by decide +kernel) ht
  unfold spdRefEdge
  rw [hm, if_neg (by decide)]
  extract_lets v bad t t2 t3 t4 u near t5 near2
  have h4 : P t4 := h _ rfl _ _ _
  split
  · have hu : P u := hP.setMany _ _ _ (by simp only [List.all_cons, List.all_nil, Bool.and_true]; decide +kernel) h4
    split
    · exact hu
    · exact keep_pulse hR _ _ _ (hramp _ hu)
  · split
    · have h5 : P t5 := by
        unfold t5
        split
        · exact hP.addSat _ _ _ _ (by decide +kernel) h4
        · exact hP.setMany _ _ _ (by simp only [List.all_cons, List.all_nil, Bool.and_true]; decide +kernel) h4
      split
      · exact hP.setMany _ _ _ (by simp only [List.all_cons, List.all_nil, Bool.and_true]; decide +kernel) h5
      · exact h5
    · refine hramp _ (hP.set _ _ _ _ (by decide +kernel) (hP.setI _ _ _ _ (by decide +kernel) (hP.used _ ?_)))
      split
      · exact hP.addSat _ _ _ _ (by decide +kernel) h4
      · exact hP.set _ _ _ _ (by decide +kernel) h4

/-- An edge in its mode ends the loss of the reference, and is the newest of the history. -/
theorem spdRefEdge_of {freq : Nat} {s : State} (hm : s.is SPN_REFMODE_MODE 0 1 = true) :
    (spdRefEdge freq s).on SPN_STATE_REFLOST 0 = false ∧
      (spdRefEdge freq s).get SPN_FHIST 0 = Nat.min 1048575 (freq * 960 / (1000 * (s.get SPN_REFCFG_PPR 0 + 1))) := by
  have hR : Closed unreferenced (fun t => t.get SPN_STATE_REFLOST 0 = 0) := closed_get (by decide +kernel) 0 _
  have hF : Closed unreferenced (fun t => t.get SPN_FHIST 0 = Nat.min 1048575 (freq * 960 / (1000 * (s.get SPN_REFCFG_PPR 0 + 1)))) :=
    closed_get (by decide +kernel) 0 _
  constructor
  · rw [State.on_eq, unreferenced_spdRefEdge hR hm]
    · rfl
    · intro u hu n m x
      rw [(newTarget_keeps n _).get 0 (by decide +kernel), get_set_ne _ _ _ _ (by decide +kernel), (pushField_keeps ..).get 0 (by decide +kernel),
        (pushField_keeps ..).get 0 (by decide +kernel), hu, get_lower _ _ (by decide +kernel), State.get_set_self, Nat.zero_mod]
  · refine unreferenced_spdRefEdge hF hm fun u hu n m x => ?_
    rw [(newTarget_keeps n _).get 0 (by decide +kernel), get_set_ne _ _ _ _ (by decide +kernel), (pushField_keeps ..).get 0 (by decide +kernel),
      pushField_newest]
    exact Nat.mod_eq_of_lt (Nat.lt_of_le_of_lt (Nat.min_le_left _ _) (by decide))

/-- A sample before there are enough of them is recorded alone. -/
theorem spdRefSample_of {v : Nat} {s : State} (hm : s.is SPN_REFMODE_MODE 0 2 = true) (hn : s.get SPN_SMPN 0 < 7) (h0 : 0 < v) (h1 : v < 65536) :
    spdRefSample v s = (pushField SPN_SMP 16 (Nat.min 65536 v) s).set SPN_SMPN 0 (s.get SPN_SMPN 0 + 1) := by
  have hm' : s.get SPN_REFMODE_MODE 0 = 2 := by simpa [State.is_eq] using hm
  have hmin : Nat.min 8 (s.get SPN_SMPN 0 + 1) = s.get SPN_SMPN 0 + 1 := Nat.min_eq_right (by omega)
  have hlt : ((pushField SPN_SMP 16 (Nat.min 65536 v) s).set SPN_SMPN 0 (s.get SPN_SMPN 0 + 1)).get SPN_SMPN 0 < 8 := by
    rw [State.get_set_self]
    exact Nat.lt_of_le_of_lt (Nat.mod_le _ _) (by omega)
  unfold spdRefSample
  dsimp only
  rw [hm', if_neg (by omega), if_pos (.inl rfl), if_pos rfl, if_pos rfl, hmin, if_pos hlt]

/-- Settles O39: what the speed loop and the reference record is kept by the angle that settles after them. -/
theorem speedAndReference : Obligations.SpeedAndReference := by
  unfold Obligations.SpeedAndReference
  intro s hr
  refine ⟨fun d0 d1 d2 d3 speed age same rest => ?_, fun freq hm => ?_, fun freq hm => ?_, fun hm hl hp => ?_, fun hm => ?_, fun v hm => ?_,
    fun v hm hn h0 h1 => ?_, fun v hm => ?_, fun v hm => ?_, fun hst hra hn => ?_⟩
  · obtain ⟨h1, h2, h3⟩ := speedLoopUpdate_of d0 d1 d2 d3 age.toNat same speed rest s
    refine ⟨s.after (settleAngle (speedLoopUpdate d0 d1 d2 d3 speed.toNat age.toNat same rest.toNat s)), ?_, ?_, ?_, ?_⟩
    · rw [exec_speedLoopUpdate, execSpeedLoopUpdate]
      exact done_onSpinTick hr rfl
    · rw [State.after_get, settleAngle_get (by decide +kernel), h1]
    · rw [State.after_get, settleAngle_get (by decide +kernel), h2]
    · rw [State.after_get, settleAngle_get (by decide +kernel), h3]
  · rw [exec_spdRefEdge, execSpdRefEdge]
    exact done_onBlock hr (by rw [spdRefEdge, hm, if_pos (by decide)])
  · obtain ⟨h1, h2⟩ := spdRefEdge_of (freq := freq) hm
    refine ⟨s.after (spdRefEdge freq s), ?_, h1, h2⟩
    rw [exec_spdRefEdge, execSpdRefEdge]
    exact done_onBlock hr rfl
  · rw [exec_phaseLock, execPhaseLock]
    exact done_onBlock hr (by rw [phaseLock, hm, hp, decide_eq_true hl, if_pos (by decide)])
  · rw [exec_referenceLost, execReferenceLost]
    exact done_onBlock hr (by rw [referenceLost, if_pos hm])
  · rw [exec_spdRefSample, execSpdRefSample]
    refine done_onBlock hr ?_
    have h2 : s.get SPN_REFMODE_MODE 0 ≠ 2 ∧ s.get SPN_REFMODE_MODE 0 ≠ 3 := by
      simp only [State.is_eq, beq_iff_eq] at hm
      omega
    unfold spdRefSample
    dsimp only
    rw [if_neg (fun h => h2.1 h.1), if_neg (fun h => h.elim h2.1 h2.2)]
  · refine ⟨s.after (spdRefSample v s), ?_, ?_, ?_⟩
    · rw [exec_spdRefSample, execSpdRefSample]
      exact done_onBlock hr rfl
    · rw [State.after_get, spdRefSample_of hm hn h0 h1, State.get_set_self]
      exact Nat.mod_eq_of_lt (Nat.lt_of_lt_of_le (show _ < 8 by omega) (by decide))
    · rw [getI_after, spdRefSample_of hm hn h0 h1, getI_set_ne _ _ _ _ (by decide +kernel), (pushField_keeps ..).getI 0 (by decide +kernel)]
  · rw [exec_speedTargetWrite, execSpeedTargetWrite]
    refine done_onBlock hr ?_
    have h0 : (s.set SPN_SETPT_TARGET 0 v.toNat).is SPN_REFMODE_MODE 0 0 = false := by
      rw [is_set_ne _ _ _ _ _ (by decide +kernel), State.is_eq]
      simpa [State.on_eq] using hm
    rw [speedTargetWrite, h0, if_neg (by decide)]
  · have h0 : (s.set SPN_SETPT_TARGET 0 v.toNat).is SPN_REFMODE_MODE 0 0 = true := by
      rw [is_set_ne _ _ _ _ _ (by decide +kernel), hm]
    have hv : (s.set SPN_SETPT_TARGET 0 v.toNat).getI SPN_SETPT_TARGET 0 = sgn 16 v.toNat := by
      rw [getI_set_self, sgn, sgn]
      simp only [Nat.mod_mod]
      rfl
    have hle : -32768 ≤ sgn 16 v.toNat ∧ sgn 16 v.toNat < 32768 := by
      have := v.isLt
      unfold sgn
      omega
    refine ⟨s.after (newTarget (sgn 16 v.toNat * 16) (s.set SPN_SETPT_TARGET 0 v.toNat)), ?_, ?_, ?_⟩
    · rw [exec_speedTargetWrite, execSpeedTargetWrite]
      exact done_onBlock hr (by rw [speedTargetWrite, h0, if_pos rfl, hv])
    · rw [State.after_get, (newTarget_keeps ..).get 0 (by decide +kernel), State.get_set_self]
      exact Nat.mod_eq_of_lt v.isLt
    · rw [getI_after, newTarget_tgt (by omega) (by omega)]
  · rw [exec_loadokSet, execLoadokSet]
    refine done_onSpindle hr ?_
    rw [loadokSet, hra, hn, if_pos]
    rcases hst with h | h <;> simp [h]

end Sys2Proof.Machine
end

section
/-! PROOFS. The words of the loop engine (spec/07): what a word of one operation does, and its MAC slots. -/

namespace Sys2Proof.Machine

set_option Elab.async false

/-! ## A word of one operation (R364, R368, R382) -/

/-- The state in which a word of context `c` executes: nothing gathered. -/
def wordOut (c : Nat) (s : State) : State := { s with word := s.word.del c }

/-- The state in which the slots of a word write: the word is counted, and the program counter is at the next one. -/
def wordAt (c next : Nat) (s : State) : State := ((wordOut c s).bump CTX_WORDS c).set CTX_PC c next

theorem wordTaken_eq (c : Nat) (s : State) : wordTaken c s = wordAt c (s.get CTX_PC c + 1) s := rfl

theorem wordOut_get (c : Nat) (s : State) (f : Field) (i : Nat) : (wordOut c s).get f i = s.get f i := rfl

theorem wordAt_keeps (c next : Nat) (s : State) : Keeps [CTX_WORDS, CTX_PC] s (wordAt c next s) := by
  unfold wordAt
  rw [keeps_set (by decide +kernel), State.bump_eq, keeps_set (by decide +kernel)]
  exact (keeps_congr rfl rfl).2 .refl

theorem wordAt_pc (c next : Nat) (s : State) : (wordAt c next s).get CTX_PC c = next % 2 ^ CTX_PC.width := State.get_set_self ..

theorem wordTaken_keeps (c : Nat) (s : State) : Keeps [CTX_WORDS, CTX_PC] s (wordTaken c s) := wordAt_keeps ..

theorem wordTaken_pc (c : Nat) (s : State) : (wordTaken c s).get CTX_PC c = (s.get CTX_PC c + 1) % 2 ^ 16 := wordAt_pc ..

/-- An operation that its word may hold: no violation and no uncorrectable load. -/
structure Permitted (c : Nat) (i : Instr) (s : State) : Prop where
  allowed : violates c s i = false
  readable : badLoad c s i = false

/-- The only operation of a word is in its order. -/
theorem inOrder_single {i : Instr} {n : Nat} (h : slotOfOp i = some n) (hn : n < 7) : inOrder [i] = [i] := by
  unfold inOrder
  interval_cases n <;> simp [h, List.range_succ]

theorem slot_lt {i : Instr} {n : Nat} (h : slotOfOp i = some n) : n < 7 := by
  unfold slotOfOp at h
  split at h <;> simp only [Option.some.injEq, reduceCtorEq] at h <;> omega

/-- The operation that completes a word executes it. -/
theorem lpeOp_whole {bus : Nat → Nat → State → State} {c : Nat} {i : Instr} {s : State} (h : Fetches c s)
    (hs : spells (fetchWord c s) i = true) (hw : wordComplete (fetchWord c s) [i] = true) :
    lpeOp bus c i true s = runWord bus c [i] (wordOut c s) := by
  obtain ⟨hruns, hfree, hleft, hempty, hgood, -⟩ := h
  unfold lpeOp
  dsimp only
  rw [hruns, hfree, hleft, hempty, hgood, hs, List.nil_append, hw, if_neg (by simp), if_neg (by decide), if_neg (by decide),
    if_pos (by decide)]
  rfl

theorem lpeOp_of {bus : Nat → Nat → State → State} {c : Nat} {i : Instr} {s : State} (h : FetchesOnly c i s) :
    lpeOp bus c i true s = runWord bus c [i] (wordOut c s) := lpeOp_whole h.fetch h.held h.whole

/-- An operation that the word does not hold is not fetched. -/
theorem lpeOp_other {bus : Nat → Nat → State → State} {c : Nat} {i : Instr} {s : State} (h : Fetches c s) (hs : spells (fetchWord c s) i = false) :
    lpeOp bus c i true s = s := by
  obtain ⟨hruns, hfree, hleft, hempty, hgood, -⟩ := h
  unfold lpeOp
  dsimp only
  rw [hruns, hfree, hleft, hempty, hgood, hs, if_neg (by simp), if_neg (by decide), if_pos (by decide)]

/-- One operation writes one register at most. -/
theorem nodup_single {α : Type} [DecidableEq α] (f : Instr → Option α) (i : Instr) : decide ([i].filterMap f).Nodup = true := by
  cases h : f i <;> simp [h]

/-- A word of one permitted operation is no violation. -/
theorem wordViolates_of {c : Nat} {i : Instr} {s : State} (h : FetchesOnly c i s) :
    wordViolates c [i] (wordOut c s) = violates c (wordOut c s) i := by
  have hp : reservedWord (fetchWord c (wordOut c s)) = false := h.plain
  have hr : regionOf ((wordOut c s).get CTX_PC c) = regionOfCtx c (wordOut c s) := h.fetch.region
  unfold wordViolates
  rw [hp, hr, nodup_single, nodup_single]
  simp

/-- What a word of one operation does. -/
theorem runWord_of {bus : Nat → Nat → State → State} {c n : Nat} {i : Instr} {s : State} (h : FetchesOnly c i s)
    (hi : slotOfOp i = some n) (hp : Permitted c i (wordOut c s)) :
    runWord bus c [i] (wordOut c s) = settleTrace (wordOut c s) (copSlot c (wordOut c s) i (passDirect c [i] (wordOut c s)
      (lsSlot bus c (wordOut c s) i (macSlot c (wordOut c s) i
        (wordAt c ((takenBranch c (wordOut c s) i).getD (s.get CTX_PC c + 1)) s))))) := by
  unfold runWord
  rw [wordViolates_of h, hp.allowed, if_neg (by decide), List.any_cons, List.any_nil, hp.readable, if_neg (by decide),
    inOrder_single hi (slot_lt hi)]
  cases hb : takenBranch c (wordOut c s) i with
  | none =>
    rw [List.findSome?_cons, hb]
    rfl
  | some t =>
    rw [List.findSome?_cons, hb]
    rfl

/-- A word that does not write a port at once. -/
theorem passDirect_none {c : Nat} {i : Instr} {s : State} (h : directWrites c [i] s = []) (t : State) : passDirect c [i] s t = t := by
  unfold passDirect
  rw [h]
  rfl

/-- The end of a word's command. -/
theorem engineOp_of {c : Fin 64} {i : Instr} {s u : State} (hr : reaches 4 s = true) (hx : exec i s = engineOp c i true s)
    (h : FetchesOnly c i s) (hu : runWord engineBus c [i] (wordOut c s) = settleTrace (wordOut c s) u) :
    exec i s = .next (s.after (settleTrace s u)) := by
  rw [hx, engineOp]
  refine done_onBlock hr ?_
  rw [lpeOp_of h, hu]
  rfl

/-! ## The MAC slots (R365) -/

/-- An operation of a MAC slot: it is permitted, it goes on to the next word, and the other slots are empty. -/
structure InMac (c : Nat) (i : Instr) (s : State) : Prop where
  permitted : Permitted c i (wordOut c s)
  next : takenBranch c (wordOut c s) i = none
  direct : directWrites c [i] (wordOut c s) = []
  alone : ∀ t, copSlot c (wordOut c s) i (lsSlot engineBus c (wordOut c s) i t) = t

/-- A word of one MAC operation. -/
theorem macWord_of {c : Fin 64} {n : Nat} {i : Instr} {s : State} (hr : reaches 4 s = true) (hx : exec i s = engineOp c i true s)
    (hi : slotOfOp i = some n) (h : FetchesOnly c i s) (hm : InMac c i s) :
    exec i s = .next (s.after (settleTrace s (macSlot c (wordOut c s) i (wordTaken c s)))) := by
  refine engineOp_of hr hx h ?_
  rw [runWord_of h hi hm.permitted, passDirect_none hm.direct, hm.next, hm.alone]
  rfl

/-- What one operation does to its accumulator. -/
theorem setAcc_of (c n : Nat) (v : Int) (s : State) : acc c n (setAcc c n v s) = clampI (-2 ^ 63) (2 ^ 63 - 1) v ∧
    (∀ k : Nat, k ≠ 4 * c + n → (setAcc c n v s).get CTX_ACC k = s.get CTX_ACC k) ∧ Keeps [CTX_ACC] s (setAcc c n v s) := by
  have hc : -(2 ^ 63 : Int) ≤ clampI (-2 ^ 63) (2 ^ 63 - 1) v ∧ clampI (-2 ^ 63) (2 ^ 63 - 1) v < 2 ^ 63 := by
    unfold clampI
    split_ifs <;> omega
  unfold acc setAcc
  rw [State.setI_eq]
  refine ⟨?_, fun k hk => State.get_set_inst _ _ (by omega), ?_⟩
  · rw [getI_set_self]
    exact sgn_uns (w := 63) hc.1 hc.2
  · simp (disch := decide +kernel) [Keeps.refl]

/-- The operations that work on their accumulator: their word leaves everything else as it is. -/
theorem accWord_of {c : Fin 64} {n : Fin 4} {i : Instr} {v : Int} {s : State} (hr : reaches 4 s = true) (hx : exec i s = engineOp c i true s)
    (hi : slotOfOp i = some n.val) (hm : InMac c i s) (hv : ∀ t, macSlot c (wordOut c s) i t = setAcc c n v t) :
    (Fetches c s → spells (fetchWord c s) i = false → exec i s = .next (s.after s)) ∧
    (FetchesOnly c i s → ∃ u, exec i s = .next (s.after (settleTrace s u)) ∧ acc c n u = clampI (-2 ^ 63) (2 ^ 63 - 1) v ∧
      u.get CTX_PC c = (s.get CTX_PC c + 1) % 2 ^ 16 ∧ (∀ k : Nat, k ≠ 4 * c.val + n.val → u.get CTX_ACC k = s.get CTX_ACC k) ∧
      Keeps [CTX_ACC, CTX_WORDS, CTX_PC] s u) := by
  refine ⟨fun hf hs => ?_, fun h => ?_⟩
  · rw [hx, engineOp]
    exact done_onBlock hr (lpeOp_other hf hs)
  · obtain ⟨ha, hk, hkeep⟩ := setAcc_of c n v (wordTaken c s)
    refine ⟨setAcc c n v (wordTaken c s), ?_, ha, ?_, fun k hne => ?_, ?_⟩
    · rw [macWord_of hr hx hi h hm, hv]
    · rw [hkeep.get _ (by decide +kernel), wordTaken_pc]
    · rw [hk k hne, (wordTaken_keeps c s).get _ (by decide +kernel)]
    · exact ((wordTaken_keeps c s).mono (by decide +kernel)).trans (hkeep.mono (by decide +kernel))

/-- A shifted accumulator is rounded down, or to nearest. -/
theorem shiftRound_down (v : Int) (b tie : Nat) : shiftRound v b false tie = v / 2 ^ b := rfl

theorem shiftRound_nearest (v : Int) (b tie : Nat) : (2 ^ b * shiftRound v b true tie - v).natAbs * 2 ≤ 2 ^ b := by
  unfold shiftRound
  cases b with
  | zero => simp
  | succ k =>
    have hk : (2 ^ (k + 1) : Nat) = 2 * 2 ^ k := by ring
    have hki : (2 ^ (k + 1) : Int) = 2 * 2 ^ k := by ring
    have hc : ((2 ^ k : Nat) : Int) = 2 ^ k := by push_cast; rfl
    have hpos : (0 : Int) < 2 ^ (k + 1) := by positivity
    have hr := Int.emod_add_mul_ediv v (2 ^ (k + 1))
    have h0 := Int.emod_nonneg v (ne_of_gt hpos)
    have h1 := Int.emod_lt_of_pos v hpos
    rw [if_neg (by simp)]
    dsimp only
    rw [Nat.add_sub_cancel, mul_add]
    generalize hm : v % 2 ^ (k + 1) = r at hr h0 h1 ⊢
    generalize hq : (2 : Int) ^ (k + 1) * (v / 2 ^ (k + 1)) = p at hr ⊢
    rcases Nat.mod_two_eq_zero_or_one tie with ht | ht <;> rw [ht] <;> split_ifs <;> omega

/-- What `wr` writes of its result: the register, and the flags where it is to. -/
def macWrite (c a : Nat) (flags : Bool) (r : Int) (s : State) : State :=
  if flags then setFlags c r (s.setI CTX_X (32 * c + a) (sat32 r)) else s.setI CTX_X (32 * c + a) (sat32 r)

theorem wrSlot_eq (c : Fin 64) (n : Fin 4) (a b : Fin 32) (q : Fin 4) (s t : State) :
    macSlot c (wordOut c s) (.wr c n a b q true) t = macWrite c a (q.val.testBit 1) (shiftRound (acc c n s) b (q.val.testBit 0) t.free)
      (if q.val.testBit 0 then t.used else t) := rfl

theorem setFlags_keeps (c : Nat) (r : Int) (s : State) : Keeps [CTX_N, CTX_Z, CTX_V] s (setFlags c r s) := by
  unfold setFlags
  simp (disch := decide +kernel) [Keeps.refl]

theorem writeX_keeps (i : Nat) (v : Int) (s : State) : Keeps [CTX_X] s (s.setI CTX_X i v) := by
  rw [State.setI_eq]
  simp (disch := decide +kernel) [Keeps.refl]

theorem macWrite_keeps (c a : Nat) (flags : Bool) (r : Int) (s : State) :
    Keeps [CTX_X, CTX_N, CTX_Z, CTX_V] s (macWrite c a flags r s) :=
  keeps_ite (((writeX_keeps _ _ s).mono (by decide +kernel)).trans ((setFlags_keeps _ _ _).mono (by decide +kernel)))
    ((writeX_keeps _ _ s).mono (by decide +kernel))

/-- The registers are those of the write. -/
theorem macWrite_x (c a i : Nat) (flags : Bool) (r : Int) (s : State) :
    (macWrite c a flags r s).get CTX_X i = (s.setI CTX_X (32 * c + a) (sat32 r)).get CTX_X i := by
  unfold macWrite
  rw [get_ite, (setFlags_keeps _ _ _).get _ (by decide +kernel), ite_self]

/-- The register written reads as the saturated result. -/
theorem macWrite_xreg (c a : Nat) (flags : Bool) (r : Int) (s : State) : xreg c a (macWrite c a flags r s) = sat32 r := by
  have h : -(2 ^ 31 : Int) ≤ sat32 r ∧ sat32 r < 2 ^ 31 := by
    unfold sat32 clampI
    split_ifs <;> omega
  rw [xreg, State.getI_eq, macWrite_x, State.setI_eq, State.get_set_self]
  exact sgn_uns (w := 31) h.1 h.2

/-- The flags of the result. -/
theorem setFlags_of (c : Nat) (r : Int) (s : State) : (setFlags c r s).on CTX_N c = decide (sat32 r < 0) ∧
    (setFlags c r s).on CTX_Z c = decide (sat32 r = 0) ∧ (setFlags c r s).on CTX_V c = decide (sat32 r ≠ r) := by
  have hb (b : Bool) : (b.toNat % 2 ^ 1 != 0) = b := by cases b <;> rfl
  unfold setFlags
  refine ⟨?_, ?_, ?_⟩
  · simp (disch := decide +kernel) only [State.setMany_cons, State.setMany_nil, on_set_ne, on_set_self]
    exact hb _
  · simp (disch := decide +kernel) only [State.setMany_cons, State.setMany_nil, on_set_ne, on_set_self]
    exact hb _
  · simp (disch := decide +kernel) only [State.setMany_cons, State.setMany_nil, on_set_self]
    exact hb _

/-- Settles O43: a word of one MAC operation is that operation on the state after its fetch, which `accWord_of` and `macWord_of` say once. -/
theorem macSlots : Obligations.MacSlots := by
  unfold Obligations.MacSlots
  intro s c n a b q hr
  refine ⟨?_, fun h => ?_, fun h => ?_, ?_⟩
  · simp only [List.forall_mem_cons, List.not_mem_nil, IsEmpty.forall_iff, implies_true, and_true]
    exact ⟨accWord_of hr (exec_mul ..) rfl ⟨⟨rfl, rfl⟩, rfl, rfl, fun _ => rfl⟩ fun _ => rfl,
      accWord_of hr (exec_mac ..) rfl ⟨⟨rfl, rfl⟩, rfl, rfl, fun _ => rfl⟩ fun _ => rfl,
      accWord_of hr (exec_msu ..) rfl ⟨⟨rfl, rfl⟩, rfl, rfl, fun _ => rfl⟩ fun _ => rfl,
      accWord_of hr (exec_add ..) rfl ⟨⟨rfl, rfl⟩, rfl, rfl, fun _ => rfl⟩ fun _ => rfl,
      accWord_of hr (exec_lda ..) rfl ⟨⟨rfl, rfl⟩, rfl, rfl, fun _ => rfl⟩ fun _ => rfl,
      accWord_of hr (exec_clr ..) rfl ⟨⟨rfl, rfl⟩, rfl, rfl, fun _ => rfl⟩ fun _ => rfl,
      accWord_of hr (exec_abs ..) rfl ⟨⟨rfl, rfl⟩, rfl, rfl, fun _ => rfl⟩ fun _ => rfl,
      accWord_of hr (exec_min ..) rfl ⟨⟨rfl, rfl⟩, rfl, rfl, fun _ => rfl⟩ fun _ => rfl,
      accWord_of hr (exec_max ..) rfl ⟨⟨rfl, rfl⟩, rfl, rfl, fun _ => rfl⟩ fun _ => rfl⟩
  · exact macWord_of hr (exec_nop ..) rfl h ⟨⟨rfl, rfl⟩, rfl, rfl, fun _ => rfl⟩
  · have hu : Keeps [] (wordTaken c s) (if q.val.testBit 0 then (wordTaken c s).used else wordTaken c s) :=
      keeps_ite (by simp [Keeps.refl]) .refl
    refine ⟨_, shiftRound (acc c n s) b (q.val.testBit 0) (wordTaken c s).free,
      (macWord_of hr (exec_wr ..) rfl h ⟨⟨rfl, rfl⟩, rfl, rfl, fun _ => rfl⟩).trans (by rw [wrSlot_eq]), macWrite_xreg .., fun h0 => ?_,
      fun h0 => ?_, fun h1 => ?_, fun h1 => ?_, fun k hk => ?_, ?_⟩
    · rw [h0, shiftRound_down]
    · rw [h0]
      exact shiftRound_nearest ..
    · rw [macWrite, if_pos h1]
      exact setFlags_of ..
    · have hk := (writeX_keeps (32 * c.val + a.val) (sat32 (shiftRound (acc c n s) b (q.val.testBit 0) (wordTaken c s).free))
        (if q.val.testBit 0 then (wordTaken c s).used else wordTaken c s))
      have hall := ((wordTaken_keeps c s).mono (fs := [CTX_X, CTX_WORDS, CTX_PC]) (by decide +kernel)).trans
        ((hu.mono (by decide +kernel)).trans (hk.mono (by decide +kernel)))
      rw [macWrite, h1, if_neg (by decide)]
      exact ⟨hall.get _ (by decide +kernel), hall.get _ (by decide +kernel), hall.get _ (by decide +kernel)⟩
    · rw [macWrite_x, State.setI_eq, State.get_set_inst _ _ (by omega), hu.get _ (by decide +kernel),
        (wordTaken_keeps c s).get _ (by decide +kernel)]
    · exact ((wordTaken_keeps c s).mono (by decide +kernel)).trans
        ((hu.mono (by decide +kernel)).trans ((macWrite_keeps ..).mono (by decide +kernel)))
  · unfold product shiftOf
    match q with
    | 0 => rfl
    | 1 => rfl
    | 2 => rfl
    | 3 => rfl

end Sys2Proof.Machine
end

section
/-! PROOFS. The load/store slots and the control operations of the loop engine (spec/07). -/

namespace Sys2Proof.Machine

set_option Elab.async false

/-! ## Words that do not execute (R382, R394) -/

/-- A word whose operation is a violation. -/
theorem runWord_violation {bus : Nat → Nat → State → State} {c : Nat} {i : Instr} {s : State} (h : FetchesOnly c i s)
    (hv : violates c (wordOut c s) i = true) : runWord bus c [i] (wordOut c s) = violation c (wordOut c s) := by
  unfold runWord
  rw [wordViolates_of h, hv, if_pos rfl]

/-- A word whose load cannot be corrected. -/
theorem runWord_unreadable {bus : Nat → Nat → State → State} {c : Nat} {i : Instr} {s : State} (h : FetchesOnly c i s)
    (hv : violates c (wordOut c s) i = false) (hb : badLoad c (wordOut c s) i = true) :
    runWord bus c [i] (wordOut c s) = uncorrectable c 2 (wordOut c s) := by
  unfold runWord
  rw [wordViolates_of h, hv, if_neg (by decide), List.any_cons, hb, Bool.true_or, if_pos rfl]

/-- The command of a word that is a violation. -/
theorem violation_of {c : Fin 64} {i : Instr} {s : State} (hr : reaches 4 s = true) (hx : exec i s = engineOp c i true s)
    (h : FetchesOnly c i s) (hv : violates c (wordOut c s) i = true) :
    exec i s = .next (s.after (violation c { s with word := s.word.del c })) := by
  rw [hx, engineOp]
  exact done_onBlock hr ((lpeOp_of h).trans (runWord_violation h hv))

/-! ## What a trace unit leaves alone -/

theorem silPut_mem (u v aux kind : Nat) (s : State) : (silPut u v aux kind s).mem = s.mem := rfl

theorem silTrigger_mem (k u : Nat) (s : State) : (silTrigger k u s).mem = s.mem := by
  induction k generalizing u s with
  | zero => rfl
  | succ k ih =>
    unfold silTrigger
    split
    · refine forBelow_keeps _ (fun t => t.mem = s.mem) _ _ (fun v t ht => ?_) rfl
      split
      · rw [ih, ht]
      · exact ht
    · rfl

theorem silCapture_mem (u v aux kind : Nat) (s : State) : (silCapture u v aux kind s).mem = s.mem := by
  unfold silCapture
  split
  · rfl
  · extract_lets q t t2 t3 armed t4
    have h3 : t3.mem = s.mem := by
      unfold t3
      split <;> rfl
    have h4 : t4.mem = s.mem := (silPut_mem ..).trans h3
    split
    · rfl
    · split
      · split
        · rw [silTrigger_mem, h4]
        · exact h4
      · exact h4

theorem silWatch_mem (a v : Nat) (s : State) : (silWatch a v s).mem = s.mem := by
  unfold silWatch
  refine forBelow_keeps _ (fun t => t.mem = s.mem) _ _ (fun u t ht => ?_) rfl
  split
  · rw [silCapture_mem, ht]
  · exact ht

/-! ## Load/store slots (R366, R377, R378) -/

/-- A word of one load/store operation that writes no port at once. -/
theorem lsWord_of {c : Fin 64} {n : Nat} {i : Instr} {s : State} (hr : reaches 4 s = true) (hx : exec i s = engineOp c i true s)
    (hi : slotOfOp i = some n) (h : FetchesOnly c i s) (hp : Permitted c i (wordOut c s)) (hd : directWrites c [i] (wordOut c s) = [])
    (hn : takenBranch c (wordOut c s) i = none) (ha : ∀ t, copSlot c (wordOut c s) i t = t) (hm : ∀ t, macSlot c (wordOut c s) i t = t) :
    exec i s = .next (s.after (settleTrace s (lsSlot engineBus c (wordOut c s) i (wordTaken c s)))) := by
  refine engineOp_of hr hx h ?_
  rw [runWord_of h hi hp, passDirect_none hd, hn, ha, hm]
  rfl

section
variable {s : State} {c : Fin 64} {n : Fin 2} {x : Fin 32} {b : Fin 8} {off : BitVec 9} {a : Nat}

theorem badLoad_ld (u : State) : badLoad c u (.ld c n x b off true) =
    (inData (slotAddr c b off.toNat u) && u.csBad.contains (131072 + slotAddr c b off.toNat u / 2)) := by
  simp only [badLoad]

theorem slotAddr_wordOut (c : Nat) : slotAddr c b off.toNat (wordOut c s) = slotAddr c b off.toNat s := by
  unfold slotAddr breg
  rw [wordOut_get]

theorem wordOut_csBad (c : Nat) : (wordOut c s).csBad = s.csBad := rfl

theorem wordOut_mem (c : Nat) : (wordOut c s).mem = s.mem := rfl
theorem wordOut_mbox (c : Nat) : (wordOut c s).mbox = s.mbox := rfl
theorem wordOut_ports (c : Nat) : (wordOut c s).ports = s.ports := rfl
theorem wordOut_cands (c : Nat) : (wordOut c s).cands = s.cands := rfl
theorem wordOut_mail (c d p w : Nat) : (wordOut c s).mail d p w = s.mail d p w := rfl

/-- A load of a word that can be read is permitted. -/
theorem permitted_ld (ha : a = slotAddr c b off.toNat s) (hl : loadable a = true)
    (hb : (inData a && s.csBad.contains (131072 + a / 2)) = false) : Permitted c (.ld c n x b off true) (wordOut c s) := by
  refine ⟨?_, ?_⟩
  · simp only [violates]
    rw [slotAddr_wordOut, ← ha, hl]
    rfl
  · rw [badLoad_ld, slotAddr_wordOut, ← ha, wordOut_csBad]
    exact hb

/-- A load of an address outside register space. -/
theorem lsSlot_ld (ha : a = slotAddr c b off.toNat s) (h : inRegs a = false) (t : State) :
    lsSlot engineBus c (wordOut c s) (.ld c n x b off true) t = t.set CTX_X (32 * c + x) (engineWord c a s) := by
  have he : engineWord c a (wordOut c s) = engineWord c a s := by
    simp only [engineWord, h, wordOut_get, wordOut_mail, wordOut_mem, wordOut_mbox, wordOut_ports, wordOut_cands, Bool.false_eq_true, if_false]
  show (if inRegs (slotAddr c b off.toNat (wordOut c s)) = true then _
    else t.set CTX_X (32 * c + x) (engineWord c (slotAddr c b off.toNat (wordOut c s)) (wordOut c s))) = _
  rw [slotAddr_wordOut, ← ha, h, he, if_neg (by decide)]

/-- A load from register space waits. -/
theorem lsSlot_ld_reg (ha : a = slotAddr c b off.toNat s) (h : inRegs a = true) (t : State) :
    lsSlot engineBus c (wordOut c s) (.ld c n x b off true) t =
      ((t.set CTX_LDX (2 * c + n) (x + 1)).set CTX_LDA (2 * c + n) a).set CTX_STALL c 1 := by
  show (if inRegs (slotAddr c b off.toNat (wordOut c s)) = true then
    ((t.set CTX_LDX (2 * c + n) (x + 1)).set CTX_LDA (2 * c + n) (slotAddr c b off.toNat (wordOut c s))).set CTX_STALL c 1 else _) = _
  rw [slotAddr_wordOut, ← ha, if_pos h]

/-- A store writes one word of data memory, and the trace units that watch it capture. -/
theorem lsSlot_st_mem (ha : a = slotAddr c b off.toNat s) (t : State) :
    (lsSlot engineBus c (wordOut c s) (.st c n x b off true) t).mem = t.mem.setWord (dmByte a) 4 (s.get CTX_X (32 * c + x)) := by
  simp only [lsSlot]
  rw [silWatch_mem, slotAddr_wordOut, ← ha, wordOut_get]

/-- A stage while its buffer has room. -/
theorem lsSlot_stg (ha : a = slotAddr c b off.toNat s) {t : State} (h : (NMap.get [] t.stage c).length < 16) :
    lsSlot engineBus c (wordOut c s) (.stg c n x b off true) t =
      { t with stage := t.stage.put c (NMap.get [] t.stage c ++ [(a, s.get CTX_X (32 * c + x))]) } := by
  simp only [lsSlot]
  rw [slotAddr_wordOut, ← ha, wordOut_get, stageEntry]
  exact if_neg (by omega)

/-- A base register that is set. -/
theorem lsSlot_movb (t : State) : lsSlot engineBus c (wordOut c s) (.movb c n x b off true) t =
    t.set CTX_B (8 * c + b) (s.get CTX_X (32 * c + x) + off.toNat) := rfl

/-- A store at once to a port, before it is passed to its sink. -/
theorem lsSlot_dir_port (ha : a = slotAddr c b off.toNat s) (h : inPorts a = true) (t : State) :
    lsSlot engineBus c (wordOut c s) (.dir c n x b off true) t =
      putPort ((a - 0x20000) / 16) ((a - 0x20000) % 16) (s.get CTX_X (32 * c + x)) t := by
  simp only [lsSlot]
  rw [slotAddr_wordOut, ← ha, wordOut_get, if_pos h]

/-- A store at once to register space. -/
theorem lsSlot_dir_reg (ha : a = slotAddr c b off.toNat s) (h : inPorts a = false) (t : State) :
    lsSlot engineBus c (wordOut c s) (.dir c n x b off true) t = engineBus (regByte a) (s.get CTX_X (32 * c + x)) t := by
  simp only [lsSlot]
  rw [slotAddr_wordOut, ← ha, wordOut_get, h, if_neg (by decide)]

/-- The port words that a word of one `dir` writes. -/
theorem directWrites_dir (ha : a = slotAddr c b off.toNat s) : directWrites c [.dir c n x b off true] (wordOut c s) =
    if inPorts a then [(a, s.get CTX_X (32 * c + x))] else [] := by
  simp only [directWrites, List.filterMap_cons, List.filterMap_nil]
  rw [slotAddr_wordOut, ← ha, wordOut_get]
  cases inPorts a <;> rfl

/-- What such a word writes is passed to its sink. -/
theorem passDirect_dir (ha : a = slotAddr c b off.toNat s) (h : inPorts a = true) (t : State) :
    passDirect c [.dir c n x b off true] (wordOut c s) t =
      passPort ((a - 0x20000) / 16) ((a - 0x20000) % 16) (s.get CTX_X (32 * c + x)) (some (s.get CTX_STAMP c, s.get CTX_EPOCH c)) t := by
  unfold passDirect
  rw [directWrites_dir ha, if_pos h]
  rfl

/-- A register-space address is no port's and no data memory's. -/
theorem inRegs_apart {a : Nat} (h : inRegs a = true) : inPorts a = false ∧ inData a = false := by
  simp only [inRegs, inPorts, inData, Bool.and_eq_true, decide_eq_true_eq, Bool.and_eq_false_iff, decide_eq_false_iff_not] at *
  omega

/-- A store at once of a vendor's context is permitted to ports and registers. -/
theorem permitted_dir (ha : a = slotAddr c b off.toNat s) (hc : s.on LPE_CTX_CUST c = false) (h : (inPorts a || inRegs a) = true) :
    Permitted c (.dir c n x b off true) (wordOut c s) := by
  refine ⟨?_, rfl⟩
  simp only [violates]
  rw [slotAddr_wordOut, ← ha, h, State.on_eq, wordOut_get, ← State.on_eq, hc]
  rfl

end

/-- Settles O44: a word of one load/store operation is that operation on the state after its fetch, by `lsWord_of`. -/
theorem loadStoreSlots : Obligations.LoadStoreSlots := by
  unfold Obligations.LoadStoreSlots
  intro s c n x b off a hr ha
  refine ⟨fun h hl hreg hb => ?_, fun h hd hb => ?_, fun h hreg => ?_, fun h hs => ?_, fun h hs hlen => ?_, fun h hc hp => ?_, fun h hc hg => ?_,
    fun h => ?_, ?_⟩
  · refine ⟨(wordTaken c s).set CTX_X (32 * c + x) (engineWord c a s), ?_, State.get_set_self .., ?_⟩
    · rw [lsWord_of hr (exec_ld ..) rfl h (permitted_ld ha hl hb) rfl rfl (fun _ => rfl) (fun _ => rfl), lsSlot_ld ha hreg]
    · rw [keeps_set (by decide +kernel)]
      exact (wordTaken_keeps c s).mono (by decide +kernel)
  · rw [exec_ld, execLd, engineOp]
    refine done_onBlock hr ((lpeOp_of h).trans (runWord_unreadable h ?_ ?_))
    · simp only [violates]
      rw [slotAddr_wordOut, ← ha, loadable, hd]
      rfl
    · rw [badLoad_ld, slotAddr_wordOut, ← ha, wordOut_csBad, hd, hb]
      rfl
  · refine ⟨((((wordTaken c s).set CTX_LDX (2 * c + n) (x + 1)).set CTX_LDA (2 * c + n) a).set CTX_STALL c 1), ?_, ?_, ?_, ?_, ?_⟩
    · have hl : loadable a = true := by rw [loadable, hreg, Bool.or_true]
      rw [lsWord_of hr (exec_ld ..) rfl h (permitted_ld ha hl (by rw [(inRegs_apart hreg).2]; rfl)) rfl rfl (fun _ => rfl) (fun _ => rfl),
        lsSlot_ld_reg ha hreg]
    · simp (disch := decide +kernel)
    · simp (disch := decide +kernel)
      exact Nat.mod_eq_of_lt (Nat.lt_of_le_of_lt x.isLt (by decide))
    · simp (disch := decide +kernel)
      rw [ha]
      exact Nat.mod_mod ..
    · simp (disch := decide +kernel)
      exact (wordTaken_keeps c s).mono (by decide +kernel)
  · have hp : Permitted c (.st c n x b off true) (wordOut c s) := by
      refine ⟨?_, rfl⟩
      simp only [violates]
      rw [slotAddr_wordOut, ← ha, show storeAllowed c a (wordOut c s) = storeAllowed c a s from rfl, hs]
      rfl
    refine ⟨_, lsWord_of hr (exec_st ..) rfl h hp rfl rfl (fun _ => rfl) (fun _ => rfl), lsSlot_st_mem ha _, fun k hk => ?_⟩
    rw [lsSlot_st_mem ha]
    exact Memory.read_writeList_ne _ _ _ _ hk
  · have hp : Permitted c (.stg c n x b off true) (wordOut c s) := by
      refine ⟨?_, rfl⟩
      simp only [violates]
      rw [slotAddr_wordOut, ← ha, show stageAllowed c a (wordOut c s) = stageAllowed c a s from rfl, hs]
      rfl
    refine ⟨_, lsWord_of hr (exec_stg ..) rfl h hp rfl rfl (fun _ => rfl) (fun _ => rfl), ?_, ?_⟩
    · rw [lsSlot_stg ha (t := wordTaken c s) hlen]
      rfl
    · rw [lsSlot_stg ha (t := wordTaken c s) hlen]
      exact (keeps_congr rfl rfl).2 (wordTaken_keeps c s)
  · refine engineOp_of hr (exec_dir ..) h ?_
    rw [runWord_of h rfl (permitted_dir ha hc (by rw [hp]; rfl)), passDirect_dir ha hp, lsSlot_dir_port ha hp]
    rfl
  · rw [lsWord_of hr (exec_dir ..) rfl h (permitted_dir ha hc (by rw [hg, Bool.or_true]))
      (by rw [directWrites_dir ha, (inRegs_apart hg).1]; rfl) rfl (fun _ => rfl) (fun _ => rfl), lsSlot_dir_reg ha (inRegs_apart hg).1]
  · refine ⟨(wordTaken c s).set CTX_B (8 * c + b) (s.get CTX_X (32 * c + x) + off.toNat), ?_, State.get_set_self .., ?_⟩
    · rw [lsWord_of hr (exec_movb ..) rfl h ⟨rfl, rfl⟩ rfl rfl (fun _ => rfl) (fun _ => rfl), lsSlot_movb]
    · rw [keeps_set (by decide +kernel)]
      exact (wordTaken_keeps c s).mono (by decide +kernel)
  · simp only [List.forall_mem_cons, List.not_mem_nil, IsEmpty.forall_iff, implies_true, and_true]
    exact ⟨violation_of hr (exec_ld ..), violation_of hr (exec_st ..), violation_of hr (exec_stg ..), violation_of hr (exec_dir ..)⟩

/-! ## Control operations (R367, R377, R380, R381) -/

/-- A word with a reserved encoding. -/
theorem runWord_reserved {bus : Nat → Nat → State → State} {c : Nat} {i : Instr} {s : State} (h : reservedWord (fetchWord c s) = true) :
    runWord bus c [i] (wordOut c s) = violation c (wordOut c s) := by
  unfold runWord wordViolates
  rw [show fetchWord c (wordOut c s) = fetchWord c s from rfl, h]
  rfl

/-- The command of a word with one. -/
theorem reserved_of {c : Fin 64} {i : Instr} {s : State} (hr : reaches 4 s = true) (hx : exec i s = engineOp c i true s)
    (hf : Fetches c s) (hs : spells (fetchWord c s) i = true) (hw : wordComplete (fetchWord c s) [i] = true)
    (h : reservedWord (fetchWord c s) = true) : exec i s = .next (s.after (violation c { s with word := s.word.del c })) := by
  rw [hx, engineOp]
  exact done_onBlock hr ((lpeOp_whole hf hs hw).trans (runWord_reserved h))

/-- A word of one control operation. -/
theorem copWord_of {c : Fin 64} {n : Nat} {i : Instr} {s : State} (hr : reaches 4 s = true) (hx : exec i s = engineOp c i true s)
    (hi : slotOfOp i = some n) (h : FetchesOnly c i s) (hp : Permitted c i (wordOut c s)) (hd : directWrites c [i] (wordOut c s) = [])
    (hl : ∀ t, lsSlot engineBus c (wordOut c s) i t = t) (hm : ∀ t, macSlot c (wordOut c s) i t = t) :
    exec i s = .next (s.after (settleTrace s (copSlot c (wordOut c s) i
      (wordAt c ((takenBranch c (wordOut c s) i).getD (s.get CTX_PC c + 1)) s)))) := by
  refine engineOp_of hr hx h ?_
  rw [runWord_of h hi hp, passDirect_none hd, hl, hm]

/-- A branch within its region is permitted. -/
theorem permitted_branch {c : Nat} {i : Instr} {s : State} {t : Nat} (hv : violates c (wordOut c s) i =
      match takenBranch c (wordOut c s) i with | some u => regionOf u != regionOfCtx c (wordOut c s) | none => false)
    (hb : badLoad c (wordOut c s) i = false) (ht : takenBranch c (wordOut c s) i = some t ∨ takenBranch c (wordOut c s) i = none)
    (hreg : regionOf t = regionOfCtx c s) : Permitted c i (wordOut c s) := by
  refine ⟨?_, hb⟩
  rw [hv]
  rcases ht with ht | ht
  · rw [ht]
    show (regionOf t != regionOfCtx c s) = false
    rw [hreg]
    simp
  · rw [ht]

/-- The program counter after a word that branches, or goes on. -/
theorem branch_pc (c : Nat) (t : BitVec 16) (s : State) : (wordAt c t.toNat s).get CTX_PC c = t.toNat ∧
    (wordAt c (s.get CTX_PC c + 1) s).get CTX_PC c = (s.get CTX_PC c + 1) % 2 ^ 16 :=
  ⟨(wordAt_pc ..).trans (Nat.mod_eq_of_lt t.isLt), wordAt_pc ..⟩

/-- A condition is that of the state before the word. -/
theorem condHolds_wordOut (c : Nat) (k : Cond) (s : State) : condHolds c k (wordOut c s) = condHolds c k s := by
  cases k <;> rfl

/-- A loop is taken while its counter has not come to 0. -/
theorem takenBranch_loop (c : Fin 64) (t : BitVec 16) (s : State) : takenBranch c (wordOut c s) (.loop c t true) =
    if (s.get CTX_X (32 * c + 30) + 2 ^ 32 - 1) % 2 ^ 32 ≠ 0 then some t.toNat else none := by
  unfold takenBranch
  rw [wordOut_get]

/-- A loop within its region is permitted. -/
theorem permitted_loop (c : Fin 64) (t : BitVec 16) (s : State) (h : regionOf t.toNat = regionOfCtx c s) :
    Permitted c (.loop c t true) (wordOut c s) := by
  have hr : (regionOf t.toNat != regionOfCtx c (wordOut c s)) = false := by
    rw [show regionOfCtx c (wordOut c s) = regionOfCtx c s from rfl, h]
    simp
  have hb : takenBranch c (wordOut c s) (.loop c t true) = some t.toNat ∨ takenBranch c (wordOut c s) (.loop c t true) = none := by
    rw [takenBranch_loop]
    split <;> simp
  refine ⟨?_, rfl⟩
  rcases hb with hb | hb
  · rw [violates, hb]
    · exact hr
    all_goals nofun
  · rw [violates, hb]
    all_goals nofun

theorem copSlot_loop (c : Fin 64) (t : BitVec 16) (s u : State) : copSlot c (wordOut c s) (.loop c t true) u =
    u.set CTX_X (32 * c + 30) (s.get CTX_X (32 * c + 30) + 2 ^ 32 - 1) := by
  simp only [copSlot, wordOut_get]

/-- A run that ends is counted. -/
theorem endRun_runs (c : Nat) (v : State) : (endRun c v).get LPE_CTXSTS_RUNS c = (v.get LPE_CTXSTS_RUNS c + 1) % 2 ^ LPE_CTXSTS_RUNS.width := by
  have hP (n : Nat) : Closed bySil (fun t => t.get LPE_CTXSTS_RUNS c = n) := closed_get (by decide +kernel) c n
  unfold endRun
  extract_lets t t2 t3 t4
  have h1 : t.get LPE_CTXSTS_RUNS c = v.get LPE_CTXSTS_RUNS c := by
    unfold t
    split
    · rfl
    · exact keep_pulse (hP _).byRaise_of_sil _ _ _ rfl
  have h2 : t2.get LPE_CTXSTS_RUNS c = v.get LPE_CTXSTS_RUNS c := by
    refine Closed.forBelow (P := fun x => x.get LPE_CTXSTS_RUNS c = v.get LPE_CTXSTS_RUNS c) _ _ _ (fun u x hx => ?_) h1
    split
    · exact silCapture_closed (hP _) _ _ _ _ hx
    · exact hx
  have h3 : t3.get LPE_CTXSTS_RUNS c = (v.get LPE_CTXSTS_RUNS c + 1) % 2 ^ LPE_CTXSTS_RUNS.width := by
    unfold t3
    rw [get_set_ne _ _ _ _ (by decide +kernel), State.bump_eq, State.get_set_self, h2]
  have h4 : t4.get LPE_CTXSTS_RUNS c = (v.get LPE_CTXSTS_RUNS c + 1) % 2 ^ LPE_CTXSTS_RUNS.width := by
    rw [← h3]
    unfold t4
    split <;> simp (disch := decide +kernel)
  exact keep_afterRun (hP _).byRaise_of_sil _ _ h4

/-- Settles O45: a word of one control operation is that operation on the state after its fetch, by `copWord_of`; a violation stops before it. -/
theorem controlOperations : Obligations.ControlOperations := by
  unfold Obligations.ControlOperations
  intro s c hr
  refine ⟨?_, fun t ht => ⟨fun h => ?_, fun k h => ?_, fun k h => ?_, fun h => ?_⟩, fun t h ht => ?_, fun x v h => ?_, fun h => ?_, fun h => ?_,
    fun h => ?_, endRun_runs c, fun n h hc => ?_, fun h3 => ⟨fun n h => ?_, fun x o h => ?_, fun o h => ?_⟩, fun h3 n h => ?_, fun x u h => ?_⟩
  · simp only [List.forall_mem_cons, List.not_mem_nil, IsEmpty.forall_iff, implies_true, and_true]
    exact ⟨reserved_of hr (exec_cmt ..), reserved_of hr (exec_endOp ..), reserved_of hr (exec_cmtend ..)⟩
  · refine ⟨wordAt c t.toNat s, copWord_of hr (exec_jmp ..) rfl h (permitted_branch rfl rfl (.inl rfl) ht) rfl (fun _ => rfl) (fun _ => rfl),
      (branch_pc c t s).1, wordAt_keeps ..⟩
  · have hb : takenBranch c (wordOut c s) (.br c k t true) = if condHolds c k s then some t.toNat else none := by
      simp only [takenBranch, condHolds_wordOut]
    refine ⟨_, copWord_of hr (exec_br ..) rfl h (permitted_branch (t := t.toNat) rfl rfl ?_ ht) rfl (fun _ => rfl) (fun _ => rfl), ?_,
      wordAt_keeps ..⟩
    · rw [hb]
      split <;> simp
    · show (wordAt c _ s).get CTX_PC c = _
      rw [hb]
      split
      · exact (branch_pc c t s).1
      · exact (branch_pc c t s).2
  · have hb : takenBranch c (wordOut c s) (.brn c k t true) = if condHolds c k s then none else some t.toNat := by
      simp only [takenBranch, condHolds_wordOut]
    refine ⟨_, copWord_of hr (exec_brn ..) rfl h (permitted_branch (t := t.toNat) rfl rfl ?_ ht) rfl (fun _ => rfl) (fun _ => rfl), ?_,
      wordAt_keeps ..⟩
    · rw [hb]
      split <;> simp
    · show (wordAt c _ s).get CTX_PC c = _
      rw [hb]
      split
      · exact (branch_pc c t s).2
      · exact (branch_pc c t s).1
  · have hb := takenBranch_loop c t s
    refine ⟨_, copWord_of hr (exec_loop ..) rfl h (permitted_loop c t s ht) rfl (fun _ => rfl) (fun _ => rfl), ?_, ?_⟩
    · rw [copSlot_loop, State.get_set_self]
      rfl
    · rw [copSlot_loop, get_set_ne _ _ _ _ (by decide +kernel), State.get_set_self, hb]
      show _ = if (s.get CTX_X (32 * c + 30) + 2 ^ 32 - 1) % 2 ^ 32 ≠ 0 then _ else _
      split
      · exact (branch_pc c t s).1
      · exact (branch_pc c t s).2
  · refine violation_of hr (exec_jmp ..) h ?_
    show (regionOf t.toNat != regionOfCtx c s) = true
    simpa using ht
  · exact copWord_of hr (exec_setx ..) rfl h ⟨rfl, rfl⟩ rfl (fun _ => rfl) (fun _ => rfl)
  · exact copWord_of hr (exec_cmt ..) rfl h ⟨rfl, rfl⟩ rfl (fun _ => rfl) (fun _ => rfl)
  · exact copWord_of hr (exec_endOp ..) rfl h ⟨rfl, rfl⟩ rfl (fun _ => rfl) (fun _ => rfl)
  · exact copWord_of hr (exec_cmtend ..) rfl h ⟨rfl, rfl⟩ rfl (fun _ => rfl) (fun _ => rfl)
  · refine copWord_of hr (exec_sig ..) rfl h ⟨?_, rfl⟩ rfl (fun _ => rfl) (fun _ => rfl)
    show (s.on LPE_CTX_CUST c && decide (n.val < 57)) = false
    rcases hc with hc | hc
    · rw [hc]; rfl
    · rw [decide_eq_false (by omega), Bool.and_false]
  · exact copWord_of hr (exec_kill ..) rfl h ⟨(congrArg (! ·) h3 :), rfl⟩ rfl (fun _ => rfl) (fun _ => rfl)
  · exact copWord_of hr (exec_ovr ..) rfl h ⟨(congrArg (! ·) h3 :), rfl⟩ rfl (fun _ => rfl) (fun _ => rfl)
  · exact copWord_of hr (exec_ovrrel ..) rfl h ⟨(congrArg (! ·) h3 :), rfl⟩ rfl (fun _ => rfl) (fun _ => rfl)
  · exact violation_of hr (exec_kill ..) h (congrArg (! ·) h3 :)
  · exact copWord_of hr (exec_trc ..) rfl h ⟨rfl, rfl⟩ rfl (fun _ => rfl) (fun _ => rfl)

end Sys2Proof.Machine
end

section
/-! PROOFS. The loop engine's events and requests, its images, and the Sillage units (spec/07). -/

namespace Sys2Proof.Machine

set_option Elab.async false

/-- A loop in which one number alone does something. -/
theorem forBelow_single {g : Nat → State → State} {n b : Nat} (hb : b < n) (h : ∀ k t, k ≠ b → g k t = t) (s : State) :
    forBelow n g s = g b s := by
  have hlow : ∀ m ≤ b, forBelow m g s = s := fun m hm => by
    induction m with
    | zero => rfl
    | succ m ih => rw [forBelow_succ, ih (by omega), h m s (by omega)]
  induction n with
  | zero => omega
  | succ n ih =>
    rw [forBelow_succ]
    by_cases hn : n = b
    · rw [hn, hlow b le_rfl]
    · rw [h n _ hn, ih (by omega)]

/-! ## Dispatch and the return of a load (R368, R374) -/

/-- A context that takes a core for a new run starts at its entry. -/
theorem takeCore_of {core c : Nat} {s : State} (h : s.is LPE_CTXSTS_STATE c 1 = true) (hc : core < 4) :
    (takeCore core c s).is LPE_CTXSTS_STATE c 2 = true ∧ (takeCore core c s).get CTX_CORE c = core ∧
    (takeCore core c s).get CTX_PC c = s.get LPE_CTX_ENTRY c % 2 ^ CTX_PC.width ∧ (takeCore core c s).get CTX_WORDS c = 0 ∧
    Keeps [LPE_CTXSTS_STATE, CTX_CORE, CTX_LATCH, CTX_PC, CTX_WORDS, CTX_BANK, CTX_SEQ, LPE_SEQN] s (takeCore core c s) := by
  have h3 : s.is LPE_CTXSTS_STATE c 3 = false := by
    rw [State.is_eq, beq_iff_eq] at h
    rw [State.is_eq, h]
    rfl
  unfold takeCore
  rw [h3]
  dsimp only
  rw [if_neg (by decide)]
  refine ⟨?_, ?_, ?_, ?_, ?_⟩
  · simp (disch := decide +kernel) [State.bump_eq]
    rfl
  · simp (disch := decide +kernel) [State.bump_eq]
    exact Nat.mod_eq_of_lt hc
  · simp (disch := decide +kernel) [State.bump_eq]
  · simp (disch := decide +kernel) [State.bump_eq]
  · simp (disch := decide +kernel) [State.bump_eq, Keeps.refl]

/-- A read without side effects changes no register and no memory. -/
theorem lookReg_keeps (a : Nat) (s : State) : Keeps [] s (lookReg a s) := by
  unfold lookReg
  exact (keeps_congr (by split <;> rfl) (by split <;> rfl)).2 .refl

/-- The data of the one load that a customer's context waits for. -/
def loadReturned (c x : Nat) (s : State) : State :=
  (((lookReg (regByte (s.get CTX_LDA (2 * c))) s).set CTX_X (32 * c + x) (peekReg (regByte (s.get CTX_LDA (2 * c))) s)).set CTX_LDX (2 * c) 0).set
    CTX_STALL c 0

theorem loadReturned_keeps (c x : Nat) (s : State) : Keeps [CTX_X, CTX_LDX, CTX_STALL] s (loadReturned c x s) := by
  unfold loadReturned
  simp (disch := decide +kernel) only [keeps_set]
  exact (lookReg_keeps _ s).mono (by decide +kernel)

/-- The data of one load slot arrive. -/
def loadStep (c n : Nat) (u : State) : State :=
  if u.on CTX_LDX (2 * c + n) then
    let v := if u.on LPE_CTX_CUST c then lookReg (regByte (u.get CTX_LDA (2 * c + n))) u else engineRead (regByte (u.get CTX_LDA (2 * c + n))) u
    (v.set CTX_X (32 * c + u.get CTX_LDX (2 * c + n) - 1) v.rdata).set CTX_LDX (2 * c + n) 0
  else u

theorem loadDataReturn_eq {c : Nat} {s : State} (h : s.on CTX_STALL c = true) : loadDataReturn engineRead c s =
    let t := (loadStep c 1 (loadStep c 0 s)).set CTX_STALL c 0
    if t.on CTX_KILLP c then killContext c t else t := by
  unfold loadDataReturn
  rw [h, if_neg (by decide)]
  rfl

/-- A slot of a customer's context that waits. -/
theorem loadStep_of {c n x : Nat} {s : State} (hc : s.on LPE_CTX_CUST c = true) (hx : s.get CTX_LDX (2 * c + n) = x + 1) : loadStep c n s =
    ((lookReg (regByte (s.get CTX_LDA (2 * c + n))) s).set CTX_X (32 * c + x) (peekReg (regByte (s.get CTX_LDA (2 * c + n))) s)).set
      CTX_LDX (2 * c + n) 0 := by
  unfold loadStep
  rw [State.on_eq, hx, hc]
  rfl

/-- A slot that waits for nothing. -/
theorem loadStep_none {c n : Nat} {s : State} (hx : s.get CTX_LDX (2 * c + n) = 0) : loadStep c n s = s := by
  unfold loadStep
  rw [State.on_eq, hx]
  rfl

theorem loadDataReturn_of {c x : Nat} {s : State} (hst : s.on CTX_STALL c = true) (hc : s.on LPE_CTX_CUST c = true)
    (hx : s.get CTX_LDX (2 * c) = x + 1) (h1 : s.get CTX_LDX (2 * c + 1) = 0) (hk : s.on CTX_KILLP c = false) :
    loadDataReturn engineRead c s = loadReturned c x s := by
  have h0 : (loadStep c 0 s).get CTX_LDX (2 * c + 1) = 0 := by
    rw [loadStep_of hc hx, State.get_set_inst _ _ (by omega), get_set_ne _ _ _ _ (by decide +kernel), (lookReg_keeps _ s).get _ (by decide +kernel), h1]
  have he : (loadStep c 0 s).set CTX_STALL c 0 = loadReturned c x s := by
    rw [loadStep_of hc hx]
    rfl
  have hkp : (loadReturned c x s).on CTX_KILLP c = false := by
    rw [(loadReturned_keeps c x s).on c (by decide +kernel), hk]
  rw [loadDataReturn_eq hst, loadStep_none h0, he]
  dsimp only
  rw [hkp, if_neg (by decide)]

/-! ## Triggers, kills, overrides (R371, R380, R381) -/

/-- The bits of a number with one bit set. -/
theorem testBit_one {v b k : Nat} (h : v = 2 ^ b) (hk : k ≠ b) : v.testBit k = false := by
  rw [h, Nat.testBit_two_pow]
  simpa using hk.symm

/-- An override that firmware sets stands. -/
theorem fwOverrideSet_of (o : Nat) (v : Word) (s : State) : (fwOverrideSet o v.toNat s).get LPE_OVR o = v.toNat ∧
    (fwOverrideSet o v.toNat s).on LPE_OUTCFG_OVR o = true := by
  have hsink {P : State → Prop} (hP : Closed unmeasured P) (t : State) (ht : P t) : P (overrideSink o t) := by
    unfold overrideSink
    extract_lets w
    split
    · exact unmeasured_toSink hP _ _ _ _ (unmeasured_toSink hP _ _ _ _ ht)
    · exact unmeasured_toSink hP _ _ _ _ ht
  unfold fwOverrideSet
  constructor
  · refine hsink (P := fun t => t.get LPE_OVR o = v.toNat) (closed_get (by decide +kernel) o _) _ ?_
    rw [get_set_ne _ _ _ _ (by decide +kernel), State.get_set_self]
    exact Nat.mod_eq_of_lt v.isLt
  · rw [State.on_eq, hsink (P := fun t => t.get LPE_OUTCFG_OVR o = 1) (closed_get (by decide +kernel) o _) _ (State.get_set_self ..)]
    rfl

/-! ## RUN, images and the scrub (R389–R394, R401) -/

/-- RUN shows in its field and in the state of the engine. -/
theorem lpeRun_get {f : Field} (hf : f = LPE_CTL_RUN ∨ f = LPE_STS_RUNNING) (r : Bool) (s : State) : (lpeRun r s).get f 0 = r.toNat := by
  have hb : bySettle f.id = false := by rcases hf with rfl | rfl <;> decide +kernel
  have hne (g : Field) (hg : g.id ≠ LPE_CTL_RUN.id ∧ g.id ≠ LPE_STS_RUNNING.id) : g.id ≠ f.id := by
    rcases hf with rfl | rfl
    · exact hg.1
    · exact hg.2
  have hheat (h : Nat) (t : State) : (sendHeater h t).get f 0 = t.get f 0 := by
    unfold sendHeater
    extract_lets c
    split
    · rfl
    · rw [linkSend_get, get_set_ne _ _ _ _ (hne _ (by decide +kernel))]
  have ht : (s.setMany 0 [(LPE_CTL_RUN, r.toNat), (LPE_STS_RUNNING, r.toNat)]).get f 0 = r.toNat := by
    have hlt : r.toNat % 2 ^ 1 = r.toNat := by cases r <;> rfl
    rcases hf with rfl | rfl <;> simp (disch := decide +kernel) <;> exact hlt
  unfold lpeRun
  extract_lets t u
  split
  · exact ht
  · have hP : Closed byRaise (fun v => v.get f 0 = r.toNat) := (closed_get hb 0 _ : Closed bySettle _).ofSettle
    refine keep_withFollow hP _ (keep_retractAll hP _ ?_)
    show (u.setMany 0 [(SPN_VAGE, 0), (SPN_IDDEM, 0), (SPN_IQDEM, 0)]).get f 0 = r.toNat
    rw [State.setMany_cons, State.setMany_cons, State.setMany_cons, State.setMany_nil, get_set_ne _ _ _ _ (hne _ (by decide +kernel)),
      get_set_ne _ _ _ _ (hne _ (by decide +kernel)), get_set_ne _ _ _ _ (hne _ (by decide +kernel))]
    show (forBelow 48 sendHeater _).get f 0 = r.toNat
    rw [forBelow_get hheat, get_set_ne _ _ _ _ (hne _ (by decide +kernel)), get_set_ne _ _ _ _ (hne _ (by decide +kernel)), ht]

/-- What the registers show of the banks leaves the load's own fields as they are. -/
theorem showImages_keeps (s : State) : Keeps [LPE_IMGSTS_IVALID_V, LPE_IMGSTS_IVALID_C, LPE_IMGSTS_IEMPTY_C, LPE_IMGSTS_AEMPTY_C, LPE_VER_V,
    LPE_VER_C, LPE_IVER_V, LPE_IVER_C] s (showImages s) := by
  unfold showImages
  simp (disch := decide +kernel) [Keeps.refl]

/-- A load that ends shows its result. -/
theorem endLoad_of {res : Nat} (h : res < 16) (s : State) : (endLoad res s).on LPE_LDCTL_BUSY 0 = false ∧
    (endLoad res s).get LPE_LDCTL_RESULT 0 = res := by
  have hm : (s.setMany 0 [(LPE_LDCTL_BUSY, 0), (LPE_LDCTL_RESULT, res)]).on LPE_LDCTL_BUSY 0 = false ∧
      (s.setMany 0 [(LPE_LDCTL_BUSY, 0), (LPE_LDCTL_RESULT, res)]).get LPE_LDCTL_RESULT 0 = res := by
    constructor
    · simp (disch := decide +kernel)
    · simp (disch := decide +kernel)
      exact Nat.mod_eq_of_lt h
  unfold endLoad
  dsimp only
  split
  · exact hm
  · rw [State.on_eq, get_pulse _ _ (by decide +kernel), get_pulse _ _ (by decide +kernel), ← State.on_eq]
    exact hm

theorem loadResult_lt (region : Nat) (found : ImageChecks) (s : State) : loadResult region found s < 16 := by
  unfold loadResult
  dsimp only
  split_ifs <;> decide

/-- A load begins into the inactive bank. -/
theorem imageLoad_begins {rg : Fin 2} {s : State} (hb : s.on LPE_LDCTL_BUSY 0 = false) (ho : s.on LPE_IMGSTS_OLDBUSY 0 = false) :
    (imageLoad rg s).on LPE_LDCTL_BUSY 0 = true ∧ (imageLoad rg s).get LPE_LDCTL_REGION 0 = rg := by
  unfold imageLoad
  rw [hb, ho]
  dsimp only
  rw [if_neg (by decide), if_neg (by decide), (showImages_keeps _).on 0 (by decide +kernel), (showImages_keeps _).get 0 (by decide +kernel)]
  constructor
  · simp (disch := decide +kernel)
  · simp (disch := decide +kernel)
    exact Nat.mod_eq_of_lt rg.isLt

/-- Settles O46: each request by the state of the context, the core or the image it names. -/
theorem engineRequests : Obligations.EngineRequests := by
  unfold Obligations.EngineRequests
  intro s hr
  refine ⟨fun core h => ?_, fun core c hrun hb hn h1 => ?_, fun c x hst hc hx h1 hk => ?_, fun c h2 hw => ?_, fun hi v b hv => ⟨?_, ?_⟩, fun o v => ?_,
    fun o => ?_, fun r => ?_, fun rg hb => ⟨fun ho => ?_, fun ho => ?_, fun ho => ?_⟩, fun found hb => ?_, fun n bad hs => ?_⟩
  · rw [exec_contextDispatch, execContextDispatch]
    exact done_onBlock hr (by rw [contextDispatch, h]; rfl)
  · obtain ⟨k1, k2, k3, k4, k5⟩ := takeCore_of h1 core.isLt
    refine ⟨s.after (takeCore core c s), ?_, k1, k2, k3, k4, (keeps_after ..).2 k5⟩
    rw [exec_contextDispatch, execContextDispatch]
    refine done_onBlock hr ?_
    unfold contextDispatch
    rw [hrun, hn, if_neg (by decide)]
    dsimp only
    rw [hb]
  · refine ⟨s.after (loadReturned c x s), ?_, ?_, ?_, (keeps_after ..).2 (loadReturned_keeps ..)⟩
    · rw [exec_loadDataReturn, execLoadDataReturn]
      exact done_onBlock hr (loadDataReturn_of hst hc hx h1 hk)
    · rw [State.after_get, loadReturned, get_set_ne _ _ _ _ (by decide +kernel), get_set_ne _ _ _ _ (by decide +kernel), State.get_set_self]
      rfl
    · rw [on_after, loadReturned, on_set_self]
      rfl
  · rw [exec_customerWordLimit, execCustomerWordLimit]
    exact done_onBlock hr (by rw [customerWordLimit, h2, hw]; exact if_pos rfl)
  · rw [exec_lpeTrig, execLpeTrig]
    refine done_onBlock hr ?_
    rw [lpeTrig, forBelow_single b.isLt (fun k t hk => if_neg (by rw [testBit_one hv hk]; decide)), if_pos (by rw [hv]; exact Nat.testBit_two_pow_self)]
  · rw [exec_lpeKill, execLpeKill]
    refine done_onBlock hr ?_
    rw [lpeKill, forBelow_single b.isLt (fun k t hk => if_neg (by rw [testBit_one hv hk]; decide))]
    exact if_pos (by rw [hv]; exact Nat.testBit_two_pow_self)
  · obtain ⟨h1, h2⟩ := fwOverrideSet_of o v s
    refine ⟨s.after (fwOverrideSet o v.toNat s), ?_, h1, h2⟩
    rw [exec_fwOverrideSet, execFwOverrideSet]
    exact done_onBlock hr rfl
  · rw [exec_fwOverrideRelease, execFwOverrideRelease]
    exact done_onBlock hr rfl
  · refine ⟨s.settled (lpeRun r s), ?_, ?_, ?_⟩
    · rw [exec_lpeRun, execLpeRun]
      exact done_onMedia hr rfl
    · rw [State.settled, on_after, State.on_eq, settle_get (by decide +kernel), lpeRun_get (.inl rfl)]
      cases r <;> rfl
    · rw [State.settled, on_after, State.on_eq, settle_get (by decide +kernel), lpeRun_get (.inr rfl)]
      cases r <;> rfl
  · obtain ⟨h1, h2⟩ := imageLoad_begins (rg := rg) hb ho
    refine ⟨s.after (imageLoad rg s), ?_, h1, h2⟩
    rw [exec_imageLoad, execImageLoad]
    exact done_onBlock hr rfl
  · obtain ⟨h1, h2⟩ := endLoad_of (res := 7) (by decide) (s.set LPE_LDCTL_REGION 0 rg)
    refine ⟨s.after (endLoad 7 (s.set LPE_LDCTL_REGION 0 rg)), ?_, h1, h2⟩
    rw [exec_imageLoad, execImageLoad]
    refine done_onBlock hr ?_
    unfold imageLoad
    rw [hb, ho]
    rfl
  · refine ⟨s.settled (imageCopy rg s), ?_, ?_⟩
    · rw [exec_imageCopy, execImageCopy]
      exact done_onMedia hr rfl
    · rw [State.settled, State.after_get, settle_get (by decide +kernel)]
      unfold imageCopy
      rw [hb, ho]
      exact (endLoad_of (res := 0) (by decide) _).2
  · have h (u : State) : (endLoad (loadResult (s.get LPE_LDCTL_REGION 0) found s) u).on LPE_LDCTL_BUSY 0 = false ∧ _ :=
      endLoad_of (loadResult_lt ..) u
    refine ⟨s.settled (imageLoadDone found s), ?_, ?_, ?_⟩
    · rw [exec_imageLoadDone, execImageLoadDone]
      exact done_onMedia hr rfl
    · rw [State.settled, on_after, State.on_eq, settle_get (by decide +kernel), ← State.on_eq]
      unfold imageLoadDone
      rw [hb]
      exact (h _).1
    · rw [State.settled, State.after_get, settle_get (by decide +kernel)]
      unfold imageLoadDone
      rw [hb]
      exact (h _).2
  · refine ⟨s.after (controlStoreScrub n bad s), ?_, ?_, ?_⟩
    · rw [exec_controlStoreScrub, execControlStoreScrub]
      exact done_onBlock hr rfl
    · rw [State.after_get, controlStoreScrub, hs]
      exact State.get_set_self ..
    · rw [keeps_after, controlStoreScrub, hs]
      refine (keeps_congr rfl rfl).2 ((?_ : Keeps [LPE_ECC_CS] s (s.add LPE_ECC_CS 0 n)))
      exact (keeps_set (by decide +kernel) _ _).2 .refl

/-! ## The Sillage units (R395–R399) -/

/-- An entry put into the ring leaves the unit's state and its mark as they are. -/
theorem silPut_keeps (u v aux kind : Nat) (s : State) : Keeps [SIL_HEAD, LPE_SIL_FILL] s (silPut u v aux kind s) := by
  unfold silPut
  rw [keeps_set (by decide +kernel), State.bump_eq, keeps_set (by decide +kernel)]
  exact (keeps_congr rfl rfl).2 .refl

/-- A unit that is triggered, before the trigger's own entry. -/
theorem silMarked_self (u n : Nat) (s : State) :
    (((s.set LPE_SIL_STS_MARK u (s.get SIL_HEAD u)).set LPE_SIL_STS_STATE u 2).set SIL_LEFT u n).get LPE_SIL_STS_STATE u = 2 ∧
    (((s.set LPE_SIL_STS_MARK u (s.get SIL_HEAD u)).set LPE_SIL_STS_STATE u 2).set SIL_LEFT u n).get LPE_SIL_STS_MARK u =
      s.get SIL_HEAD u % 2 ^ LPE_SIL_STS_MARK.width := by
  constructor <;> simp (disch := decide +kernel)
  rfl

/-- Another unit. -/
theorem silMarked_other {u v : Nat} (h : v ≠ u) (n : Nat) (s : State) :
    (((s.set LPE_SIL_STS_MARK v (s.get SIL_HEAD v)).set LPE_SIL_STS_STATE v 2).set SIL_LEFT v n).get LPE_SIL_STS_STATE u =
      s.get LPE_SIL_STS_STATE u ∧
    (((s.set LPE_SIL_STS_MARK v (s.get SIL_HEAD v)).set LPE_SIL_STS_STATE v 2).set SIL_LEFT v n).get LPE_SIL_STS_MARK u =
      s.get LPE_SIL_STS_MARK u := by
  constructor
  · rw [get_set_ne _ _ _ _ (by decide +kernel), State.get_set_inst _ _ h, get_set_ne _ _ _ _ (by decide +kernel)]
  · rw [get_set_ne _ _ _ _ (by decide +kernel), get_set_ne _ _ _ _ (by decide +kernel), State.get_set_inst _ _ h]

/-- A unit that has been triggered already is not triggered again. -/
theorem silTrigger_kept {u m : Nat} (k v : Nat) {s : State} (h : s.get LPE_SIL_STS_STATE u = 2 ∧ s.get LPE_SIL_STS_MARK u = m) :
    (silTrigger k v s).get LPE_SIL_STS_STATE u = 2 ∧ (silTrigger k v s).get LPE_SIL_STS_MARK u = m := by
  induction k generalizing v s with
  | zero => exact h
  | succ k ih =>
    unfold silTrigger
    split
    · rename_i h1
      have hvu : v ≠ u := by
        rintro rfl
        rw [State.is_eq, h.1] at h1
        cases h1
      refine forBelow_keeps _ (fun t => t.get LPE_SIL_STS_STATE u = 2 ∧ t.get LPE_SIL_STS_MARK u = m) _ _ (fun w t ht => ?_) ?_
      · split
        · exact ih w ht
        · exact ht
      · rw [(silPut_keeps ..).get _ (by decide +kernel), (silPut_keeps ..).get _ (by decide +kernel), (silMarked_other hvu _ s).1,
          (silMarked_other hvu _ s).2]
        exact h
    · exact h

/-- A trigger of an armed unit marks its place. -/
theorem silTrigger_of {u : Nat} (k : Nat) {s : State} (h : s.is LPE_SIL_STS_STATE u 1 = true) :
    (silTrigger (k + 1) u s).get LPE_SIL_STS_STATE u = 2 ∧
      (silTrigger (k + 1) u s).get LPE_SIL_STS_MARK u = s.get SIL_HEAD u % 2 ^ LPE_SIL_STS_MARK.width := by
  unfold silTrigger
  rw [if_pos h]
  refine forBelow_keeps _ (fun t => t.get LPE_SIL_STS_STATE u = 2 ∧
    t.get LPE_SIL_STS_MARK u = s.get SIL_HEAD u % 2 ^ LPE_SIL_STS_MARK.width) _ _ (fun w t ht => ?_) ?_
  · split
    · exact silTrigger_kept k w ht
    · exact ht
  · rw [(silPut_keeps ..).get _ (by decide +kernel), (silPut_keeps ..).get _ (by decide +kernel)]
    exact silMarked_self u _ s

/-- A read of the ring of a unit that is done. -/
theorem sildatRead_of {u : Nat} {s : State} (hu : s.get LPE_SILRD_UNIT 0 = u) (h : s.is LPE_SIL_STS_STATE u 3 = true) : sildatRead s =
    if s.on LPE_SILRD_AUTOINC 0 then
      (s.ret (bits (NMap.get 0 s.sil (16384 * u + s.get LPE_SILRD_INDEX 0)) 32 32)).bump LPE_SILRD_INDEX 0
    else s.ret (bits (NMap.get 0 s.sil (16384 * u + s.get LPE_SILRD_INDEX 0)) 32 32) := by
  unfold sildatRead
  rw [hu]
  dsimp only
  rw [h, Bool.or_true, if_pos rfl]

/-- Settles O47: each command of a unit by its state; what is captured is what its mode names. -/
theorem traceUnits : Obligations.TraceUnits := by
  unfold Obligations.TraceUnits
  intro s u hr
  refine ⟨?_, fun h => ?_, fun h => ⟨?_, ?_, ?_⟩, ?_, fun h => ?_, fun h2 hl => ?_, fun hu h3 => ?_⟩
  · refine ⟨s.after (sillageArm u s), ?_, ?_, ?_, ?_⟩
    · rw [exec_sillageArm, execSillageArm]
      exact done_onBlock hr rfl
    · rw [is_after, sillageArm]
      simp (disch := decide +kernel)
    · rw [State.after_get, sillageArm]
      simp (disch := decide +kernel)
    · rw [State.after_get, sillageArm]
      simp (disch := decide +kernel)
  · rw [exec_sillageForce, execSillageForce]
    refine done_onBlock hr ?_
    rw [sillageForce, silTrigger, if_neg (by rw [h]; decide)]
  · rw [exec_sillageForce, execSillageForce]
    exact done_onBlock hr rfl
  · rw [State.is_eq, (silTrigger_of 7 h).1]
    rfl
  · exact (silTrigger_of 7 h).2
  · rw [exec_sillageStop, execSillageStop]
    exact done_onBlock hr rfl
  · rw [exec_sillagePeriodCapture, execSillagePeriodCapture]
    exact done_onBlock hr (if_pos h)
  · rw [exec_sillageDone, execSillageDone]
    exact done_onBlock hr (by rw [sillageDone, h2, hl, if_pos (by decide)])
  · refine ⟨s.after (sildatRead s), ?_, ?_, ?_⟩
    · rw [exec_sildatRead, execSildatRead]
      exact done_readOn hr rfl
    · rw [sildatRead_of hu h3]
      split <;> rfl
    · rw [keeps_after, sildatRead_of hu h3]
      refine keeps_ite ?_ ((keeps_congr rfl rfl).2 .refl)
      rw [State.bump_eq, keeps_set (by decide +kernel)]
      exact (keeps_congr rfl rfl).2 .refl

end Sys2Proof.Machine
end

section
/-! PROOFS. The buffer memory (spec/08): its check, its accesses, the merge buffer, and the scrubber. -/

namespace Sys2Proof.Machine

set_option Elab.async false

/-! ## What memory reads -/

/-- Bytes written as they read are no change. -/
theorem Memory.read_write_read (m : Memory) (k j : Nat) : (m.write k (m.read k)).read j = m.read j := by
  by_cases h : k = j
  · rw [h, Memory.read_write_self]
  · exact Memory.read_write_ne m _ h

/-- Two memories that read alike still do after the same write. -/
theorem Memory.read_write_congr {m m' : Memory} (h : ∀ j, m.read j = m'.read j) (k : Nat) (v : BitVec 8) (j : Nat) :
    (m.write k v).read j = (m'.write k v).read j := by
  by_cases hk : k = j
  · rw [hk, Memory.read_write_self, Memory.read_write_self]
  · rw [Memory.read_write_ne m v hk, Memory.read_write_ne m' v hk, h]

theorem Memory.readList_congr {m m' : Memory} (h : ∀ j, m.read j = m'.read j) (n k : Nat) : m.readList k n = m'.readList k n := by
  induction n generalizing k with
  | zero => rfl
  | succ n ih => rw [Memory.readList, Memory.readList, h, ih]

theorem Memory.read_writeList_congr (l : List (BitVec 8)) {m m' : Memory} (h : ∀ j, m.read j = m'.read j) (k j : Nat) :
    (m.writeList k l).read j = (m'.writeList k l).read j := by
  induction l generalizing m m' k with
  | nil => exact h j
  | cons v t ih => exact ih (Memory.read_write_congr h k v) (k + 1)

/-- A range written back as it reads is no change. -/
theorem Memory.read_writeList_readList (n : Nat) (m : Memory) (k j : Nat) : (m.writeList k (m.readList k n)).read j = m.read j := by
  induction n generalizing k with
  | zero => rfl
  | succ n ih =>
    calc ((m.write k (m.read k)).writeList (k + 1) (m.readList (k + 1) n)).read j
      _ = (m.writeList (k + 1) (m.readList (k + 1) n)).read j :=
        Memory.read_writeList_congr _ (Memory.read_write_read m k) (k + 1) j
      _ = m.read j := ih (k + 1)

/-! ## The check of a line (R405, R406, R423) -/

theorem errorVector_none : errorVector [] 0 = List.replicate 68 0 := by decide +kernel

/-- A line without errors decodes clean, in each mode. -/
theorem decodeLine_clean (mode : Nat) : decodeLine mode (List.replicate 68 0) = (.clean, List.replicate 64 0) := by
  unfold decodeLine
  exact if_pos (by decide +kernel)

/-- A line whose check differs by the pattern is poisoned, in each mode. -/
theorem decodeLine_poison (mode : Nat) : (decodeLine mode (errorVector [] poisonPattern)).1 = .poisoned := by
  unfold decodeLine
  dsimp only
  rw [if_neg (by decide +kernel), if_pos rfl]

theorem zipWith_replicate_zero (l : List (BitVec 8)) (n : Nat) (h : l.length = n) :
    l.zipWith (fun b x => b ^^^ BitVec.ofNat 8 x) (List.replicate n 0) = l := by
  induction l generalizing n with
  | nil => simp
  | cons v t ih =>
    obtain ⟨n, rfl⟩ : ∃ m, n = m + 1 := ⟨t.length, by rw [← h, List.length_cons]⟩
    simp [List.replicate_succ, ih n (by simpa using h)]

theorem length_readList (m : Memory) (k n : Nat) : (m.readList k n).length = n := by
  induction n generalizing k with
  | zero => rfl
  | succ n ih => rw [Memory.readList, List.length_cons, ih]

theorem maskDelta_zero (line n : Nat) (s : State) : maskDelta line (List.replicate n 0) s = List.replicate n 0 := by
  unfold maskDelta
  split
  · refine List.eq_replicate_iff.2 ⟨by simp, fun x hx => ?_⟩
    obtain ⟨⟨y, i⟩, hy, rfl⟩ := List.mem_map.1 hx
    obtain ⟨-, hy0 : y = 0⟩ := List.mem_replicate.1 (List.fst_mem_of_mem_zipIdx hy)
    dsimp only
    split
    · rfl
    · exact hy0
  · rfl

/-- A decode without a difference delivers the bytes of the line as they stand. -/
theorem deliver_zero (line : Nat) (s : State) :
    applyDelta (lineBytes line s) (maskDelta line (List.replicate 64 0) s) = lineBytes line s := by
  rw [maskDelta_zero]
  exact zipWith_replicate_zero _ _ (length_readList ..)

section
variable {s : State} {line : Nat}

theorem lineErrors_clean (h : NMap.get 0 s.chkx line = 0) : lineErrors line [] s = List.replicate 68 0 := by
  rw [lineErrors, h, errorVector_none]

theorem lineErrors_poison (h : NMap.get 0 s.chkx line = poisonPattern) : lineErrors line [] s = errorVector [] poisonPattern := by
  rw [lineErrors, h]

end

/-! ## Accesses (R403, R414, R417, R418, R422) -/

section
variable {who : BufMaster} {s t : State} {a : Nat}

/-- A DMA channel that does not halt fails no command. -/
theorem failOwner_same (h : t.get BUF_DMAHALT 0 = s.get BUF_DMAHALT 0) : failOwner who s t = t := by
  unfold failOwner
  split
  · rw [State.bit_eq, State.bit_eq, h, if_neg (by simp)]
  · rfl

theorem get_failOwner {f : Field} {i : Nat} (h : bySettle f.id = false) (ht : t.get f i = s.get f i) :
    (failOwner who s t).get f i = s.get f i := keep_failOwner (closed_get h i _) who s t rfl ht

theorem afterRead_none (h : dataOffset a s = none) : afterRead who a s = s := by simp [afterRead, h]

theorem afterRead_clean (h : NMap.get 0 s.chkx ((a - dramBase) / 64) = 0) : afterRead who a s = s := by
  simp [afterRead, lineLost, h]

theorem afterRead_other (h : BufMaster.media who = false) : afterRead who a s = s := by simp [afterRead, h]

theorem dataOffset_congr (hs : t.get BUF_CFG_SIZE 0 = s.get BUF_CFG_SIZE 0) (hb : t.get BUF_RETIRE_BASE 0 = s.get BUF_RETIRE_BASE 0) :
    dataOffset a t = dataOffset a s := by
  rw [dataOffset, dataOffset, dataEnd, dataEnd, inPool, inPool, hs, hb]

theorem dataOffset_eq {o : Nat} (h : dataOffset a s = some o) : o = a - dramBase := by
  unfold dataOffset at h
  split at h
  · exact (Option.some.inj h).symm
  · cases h

/-- Counting traffic changes register fields only. -/
theorem countTraffic_eq (n : Nat) : countTraffic n s = { s with regs := (countTraffic n s).regs } := by
  unfold countTraffic
  dsimp only
  split <;> rfl

theorem countTraffic_keeps (n : Nat) : Keeps [BUF_TRFB, BUF_TRAFFIC_NOW, BUF_TRAFFIC_PEAK, BUF_TRFMS] s (countTraffic n s) := by
  unfold countTraffic
  dsimp only
  split <;> simp (disch := decide +kernel) [State.add, State.setMany, Keeps.refl]

@[simp] theorem countTraffic_mem (n : Nat) : (countTraffic n s).mem = s.mem := by rw [countTraffic_eq]
@[simp] theorem countTraffic_chkx (n : Nat) : (countTraffic n s).chkx = s.chkx := by rw [countTraffic_eq]
@[simp] theorem countTraffic_merge (n : Nat) : (countTraffic n s).merge = s.merge := by rw [countTraffic_eq]
@[simp] theorem countTraffic_prefill (n : Nat) : (countTraffic n s).prefill = s.prefill := by rw [countTraffic_eq]
@[simp] theorem countTraffic_retire (n : Nat) : (countTraffic n s).retire = s.retire := by rw [countTraffic_eq]
@[simp] theorem countTraffic_aonNs (n : Nat) : (countTraffic n s).aonNs = s.aonNs := by rw [countTraffic_eq]
@[simp] theorem countTraffic_unfilled (n p : Nat) : unfilled p (countTraffic n s) = unfilled p s := by
  rw [unfilled, unfilled, countTraffic_prefill, (countTraffic_keeps n).get 0 (by decide +kernel)]
@[simp] theorem countTraffic_halt (n : Nat) : (countTraffic n s).get BUF_DMAHALT 0 = s.get BUF_DMAHALT 0 :=
  (countTraffic_keeps n).get 0 (by decide +kernel)

theorem dramRead_none {errs : List ByteErr} (h : dataOffset a s = none) : dramRead who a errs s = (decodeError who s).ret 0 := by
  simp only [dramRead, h]

theorem dramRead_unfilled {errs : List ByteErr} {o : Nat} (h : dataOffset a s = some o) (hu : unfilled (o / 65536) s = true) :
    dramRead who a errs s = (countTraffic 64 s).ret 0 := by
  simp only [dramRead, h, countTraffic_unfilled, hu, if_true]

theorem dramRead_clean {o : Nat} (h : dataOffset a s = some o) (hu : unfilled (o / 65536) s = false)
    (hc : NMap.get 0 s.chkx (o / 64) = 0) : dramRead who a [] s = (countTraffic 64 s).ret (ofBytes (lineBytes (o / 64) s)) := by
  have he : lineErrors (o / 64) [] (countTraffic 64 s) = List.replicate 68 0 := lineErrors_clean (by simpa using hc)
  have hl := (deliver_zero (o / 64) (countTraffic 64 s)).trans (show _ = lineBytes (o / 64) s by simp [lineBytes])
  simp only [dramRead, h, countTraffic_unfilled, hu, Bool.false_eq_true, if_false, he, decodeLine_clean, recordLine, hl]

theorem dramRead_poisoned {o : Nat} {e d : List Nat} (h : dataOffset a s = some o) (hu : unfilled (o / 65536) s = false)
    (he : lineErrors (o / 64) [] (countTraffic 64 s) = e)
    (hd : decodeLine ((countTraffic 64 s).get BUF_ECC_MODE 0) e = (.poisoned, d)) :
    dramRead who a [] s = readFails who a (pulse 242 (masterInst who) (recordLine .poisoned (o / 64) e
      (poisons who) (masterCode who) (countTraffic 64 s))) := by
  rw [dramRead, h]
  dsimp only
  rw [countTraffic_unfilled, if_neg (by simp [hu]), he, hd]

@[simp] theorem elogAdd_mem (space block syn : Nat) (ue pois : Bool) (m : Nat) : (elogAdd space block syn ue pois m s).mem = s.mem := by
  unfold elogAdd
  split
  · rfl
  · dsimp only
    split <;> simp only [State.set_mem, State.setMany_cons, State.setMany_nil]

end

/-! ## Writes, line by line (R414, R417, R423) -/

section
variable {s : State} {o n line off : Nat} {data : List (BitVec 8)} {errs : List ByteErr}

/-- Bytes within one page. -/
theorem pagesOf_one (h : o % 65536 + n ≤ 65536) (hn : n ≠ 0) : pagesOf o n = [o / 65536] := by
  have : (o % 65536 + n + 65535) / 65536 = 1 := by omega
  rw [pagesOf, this]
  rfl

/-- A write within one line. -/
theorem writeLines_one (ho : o = 64 * line + off) (hfit : off + data.length ≤ 64) (hd : data ≠ []) (k : Nat) :
    writeLines o errs (k + 2) data s = writeLine line off data errs s := by
  obtain ⟨v, t, rfl⟩ : ∃ v t, data = v :: t := List.exists_cons_of_ne_nil hd
  have hpos : 0 < (v :: t).length := by simp
  have h1 : o / 64 = line := by omega
  have h2 : o % 64 = off := by omega
  rw [writeLines, h1, h2, List.take_of_length_le (by omega), List.drop_of_length_le (by omega)]
  · cases k <;> simp [writeLines]
  · simp

/-- A write of a page that is not being retired, with room in the pre-filled list, takes place. -/
theorem storeData_of (hp : pagesOf o data.length = [o / 65536]) (hr : s.retire = none)
    (hroom : unfilled (o / 65536) s = true → s.prefill.length < 64) (hle : s.prefill.length ≤ 64) :
    ∃ t : State, storeData o data errs s = writeLines o errs (data.length / 64 + 2) data t ∧ t.mem = s.mem ∧ t.chkx = s.chkx ∧
      t.merge = s.merge ∧ t.aonNs = s.aonNs ∧ t.get BUF_DMAHALT 0 = s.get BUF_DMAHALT 0 := by
  obtain ⟨p, hnew⟩ : ∃ p, p = s.prefill ++ [o / 65536].filter fun p => unfilled p s := ⟨_, rfl⟩
  refine ⟨({ s with prefill := p } : State).set BUF_FILL_OCC 0 p.length, ?_, rfl, rfl, rfl, rfl, get_set_ne _ _ _ _ (by decide +kernel)⟩
  rw [hnew]
  simp only [storeData, hp, hr]
  rw [if_neg]
  by_cases hu : unfilled (o / 65536) s = true
  · have := hroom hu
    simp [hu]; omega
  · simp [hu]; omega

/-- A full line drops its merge entry and takes a correct check. -/
theorem writeLine_full (h : data.length = 64) : writeLine line 0 data errs s =
    dropEntry line (cleanLine line { s with mem := s.mem.writeList (dramBase + 64 * line) data }) := by
  rw [writeLine, if_pos ⟨rfl, h⟩]
  rfl

/-- A part of a line enters the merge buffer. -/
theorem writeLine_part (h : data.length ≠ 64) (hm : (s.merge.find? fun m => m.line == line) = none) (hl : s.merge.length < 64) :
    writeLine line off data errs s = showMerge { s with mem := s.mem.writeList (dramBase + 64 * line + off) data
                                                        merge := s.merge ++ [⟨line, data.zipIdx.map fun x => (off + x.2, x.1), s.aonNs⟩] } := by
  rw [writeLine, if_neg (fun x => h x.2), hm]
  dsimp only
  split
  · rw [if_neg (by omega)]
  · rfl

end

/-! ## The merge buffer's entries (R419, R420) -/

section
variable {s : State} {m : MergeEntry} {errs : List ByteErr}

/-- The end of an entry shows how many are left. -/
theorem dropEntry_keeps (line : Nat) (t : State) : Keeps [BUF_MERGE_OCC] s { dropEntry line t with mem := s.mem } ↔
    Keeps [BUF_MERGE_OCC] s { t with mem := s.mem } :=
  keeps_set (t := { t with mem := s.mem }) (by decide +kernel) 0 _

/-- An entry that is complete goes out without a change of memory. -/
theorem flushEntry_full (h : m.bytes.length = 64) : flushEntry m errs s = dropEntry m.line (cleanLine m.line s) := if_pos h

/-- One over a line without errors writes the line back as it reads. -/
theorem flushEntry_part (h : m.bytes.length ≠ 64) (hc : NMap.get 0 s.chkx m.line = 0) : flushEntry m [] s =
    dropEntry m.line (cleanLine m.line { s with mem := s.mem.writeList (dramBase + 64 * m.line) (s.mem.readList (dramBase + 64 * m.line) 64) }) := by
  rw [flushEntry, if_neg h]
  simp only [lineErrors_clean hc, decodeLine_clean, recordLine, writeBack, deliver_zero]
  rfl

/-- What the end of an entry over a line without errors changes: the entry and the line's check, and no byte that memory reads. -/
theorem flushEntry_of (hc : NMap.get 0 s.chkx m.line = 0) :
    (flushEntry m [] s).merge = s.merge.filter (fun x => x.line != m.line) ∧ (flushEntry m [] s).chkx = s.chkx.del m.line ∧
    (∀ k, (flushEntry m [] s).mem.read k = s.mem.read k) ∧ Keeps [BUF_MERGE_OCC] s { flushEntry m [] s with mem := s.mem } := by
  by_cases h : m.bytes.length = 64
  · rw [flushEntry_full h]
    exact ⟨rfl, rfl, fun _ => rfl, (dropEntry_keeps _ _).2 Keeps.refl⟩
  · rw [flushEntry_part h hc]
    exact ⟨rfl, rfl, Memory.read_writeList_readList 64 s.mem _, (dropEntry_keeps _ _).2 Keeps.refl⟩

end

theorem get_eq_find {α : Type} (d : α) (l : NMap α) (k : Nat) : NMap.get d l k = (l.find k).getD d := by
  induction l with
  | nil => rfl
  | cons e t ih => rw [NMap.get, NMap.find]; split <;> simp [ih]

theorem get_del {l : NMap Nat} {j : Nat} (k : Nat) (h : NMap.get 0 l j = 0) : NMap.get 0 (l.del k) j = 0 := by
  rw [get_eq_find] at h ⊢
  by_cases hk : k = j
  · rw [hk, NMap.find_del_self]; rfl
  · rwa [NMap.find_del_ne _ hk]

/-- Entries over lines without errors, flushed one after the other. -/
theorem flushAll_of (l : List MergeEntry) {t : State} (h : ∀ m ∈ l, NMap.get 0 t.chkx m.line = 0) :
    (l.foldl (fun t m => flushEntry m [] t) t).merge = t.merge.filter (fun x => l.all fun m => x.line != m.line) ∧
    (∀ k, (l.foldl (fun t m => flushEntry m [] t) t).mem.read k = t.mem.read k) ∧
    Keeps [BUF_MERGE_OCC] t { l.foldl (fun t m => flushEntry m [] t) t with mem := t.mem } := by
  induction l generalizing t with
  | nil => exact ⟨by simp, fun _ => rfl, Keeps.refl⟩
  | cons m l ih =>
    obtain ⟨hm, hc, hread, hk⟩ := flushEntry_of (h m (by simp))
    obtain ⟨ihm, ihread, ihk⟩ := ih (t := flushEntry m [] t) fun x hx => by rw [hc]; exact get_del _ (h x (by simp [hx]))
    refine ⟨?_, fun k => (ihread k).trans (hread k), ⟨fun f i hf => (ihk.1 f i hf).trans (hk.1 f i hf), rfl⟩⟩
    rw [List.foldl_cons, ihm, hm, List.filter_filter]
    simp only [List.all_cons, Bool.and_comm]

/-- Complete entries, flushed one after the other. -/
theorem flushFull_of (l : List MergeEntry) {t : State} (h : ∀ m ∈ l, m.bytes.length = 64) :
    (l.foldl (fun t m => flushEntry m [] t) t).merge = t.merge.filter (fun x => l.all fun m => x.line != m.line) ∧
    (l.foldl (fun t m => flushEntry m [] t) t).mem = t.mem := by
  induction l generalizing t with
  | nil => exact ⟨by simp, rfl⟩
  | cons m l ih =>
    obtain ⟨ihm, ihmem⟩ := ih (t := flushEntry m [] t) fun x hx => h x (by simp [hx])
    rw [List.foldl_cons, ihm, ihmem, flushEntry_full (h m (by simp))]
    refine ⟨?_, rfl⟩
    rw [show (dropEntry m.line (cleanLine m.line t)).merge = t.merge.filter (fun x => x.line != m.line) from rfl, List.filter_filter]
    simp only [List.all_cons, Bool.and_comm]

/-- No entry differs from every entry's line. -/
theorem filter_others (l : List MergeEntry) : l.filter (fun x => l.all fun m => x.line != m.line) = [] :=
  List.filter_eq_nil_iff.2 fun x hx h => by simpa using List.all_eq_true.1 h x hx

section
variable {s : State} {k : SramKind} {who : BufMaster} {a : Nat}

@[simp] theorem sramOwner_mem (ue : Bool) : (sramOwner k a ue s).mem = s.mem := by
  cases k <;> cases ue
  case lpe.false => dsimp only [sramOwner]; rw [if_neg Bool.false_ne_true]; split <;> rfl
  all_goals rfl

@[simp] theorem sramError_mem (word m : Nat) (ue : Bool) : (sramError k word ue m s).mem = s.mem := by
  rw [sramError, sramOwner_mem]
  split <;> exact elogAdd_mem ..

theorem sramRead_good (h : s.is BUF_SRAMFAIL 0 (a + 1) = false) : sramRead k a who 0 s = s.ret (s.mem.word (a / 8 * 8) 8) := by
  unfold sramRead
  split
  · dsimp only
    rw [if_neg (by simp [h])]
  · contradiction
  · contradiction

theorem sramRead_corrected : ∃ t : State, sramRead k a who 1 s = t.ret (s.mem.word (a / 8 * 8) 8) ∧ t.mem = s.mem := by
  refine ⟨sramError k (a / 8) false (masterCode who) s, ?_, sramError_mem ..⟩
  unfold sramRead
  split
  · contradiction
  · dsimp only
    rw [sramError_mem]
  · contradiction

theorem sramRead_insn : sramRead .insn a who 2 s =
    readFails who a (pulse (sramSource .insn a) 0xFF (sramError .insn (a / 8) true (masterCode who) s)) := by
  unfold sramRead
  split
  · contradiction
  · contradiction
  · dsimp only

end

/-! ## A write within one line -/

section
variable {who : BufMaster} {s : State} {a line off : Nat} {data : List Byte} {errs : List ByteErr}

/-- A write that may go on at once and lies within one line is one of that line. -/
theorem dramWrite_fits (ha : a = dramBase + 64 * line + off) (hd : data ≠ []) (hfit : off + data.length ≤ 64)
    (hw : writable a data.length s = true) (hr : s.retire = none)
    (hroom : unfilled (line / 1024) s = true → s.prefill.length < 64) (hle : s.prefill.length ≤ 64) :
    ∃ t : State, dramWrite who a data errs s = writeLine line off data errs t ∧ t.mem = s.mem ∧ t.chkx = s.chkx ∧ t.merge = s.merge ∧
      t.aonNs = s.aonNs ∧ t.get BUF_DMAHALT 0 = s.get BUF_DMAHALT 0 := by
  have hpos : 0 < data.length := List.length_pos_iff.2 hd
  have ho : a - dramBase = 64 * line + off := by omega
  have hpage : (64 * line + off) / 65536 = line / 1024 := by omega
  obtain ⟨t, ht, hmem, hchk, hmrg, haon, hhalt⟩ := storeData_of (s := countTraffic data.length s) (o := 64 * line + off) (errs := errs)
    (pagesOf_one (n := data.length) (by omega) (by omega)) (by simpa using hr)
    (by rw [hpage, countTraffic_unfilled, countTraffic_prefill]; exact hroom) (by simpa using hle)
  refine ⟨t, ?_, by simpa using hmem, by simpa using hchk, by simpa using hmrg, by simpa using haon, by simpa using hhalt⟩
  rw [dramWrite, if_neg (by simpa using hd), hw, if_neg (by decide), ho, ht, writeLines_one rfl hfit hd]

/-- A full line that is written. -/
theorem dramWrite_line (ha : a = dramBase + 64 * line) (hd : data.length = 64) (hw : writable a 64 s = true) (hr : s.retire = none)
    (hroom : unfilled (line / 1024) s = true → s.prefill.length < 64) (hle : s.prefill.length ≤ 64) :
    (dramWrite who a data errs s).mem = s.mem.writeList (dramBase + 64 * line) data ∧ (dramWrite who a data errs s).chkx = s.chkx.del line ∧
      (dramWrite who a data errs s).get BUF_DMAHALT 0 = s.get BUF_DMAHALT 0 := by
  obtain ⟨t, ht, hmem, hchk, -, -, hhalt⟩ := dramWrite_fits (who := who) (errs := errs) (off := 0) ha (data := data)
    (fun h => by rw [h] at hd; cases hd) (by omega) (by rwa [hd]) hr hroom hle
  rw [ht, writeLine_full hd, ← hmem, ← hchk, ← hhalt]
  exact ⟨rfl, rfl, get_set_ne _ _ _ _ (by decide +kernel)⟩

/-- A part of a line that is written. -/
theorem dramWrite_part (ha : a = dramBase + 64 * line + off) (hd : data ≠ []) (hfit : off + data.length ≤ 64) (h64 : data.length ≠ 64)
    (hw : writable a data.length s = true) (hr : s.retire = none)
    (hroom : unfilled (line / 1024) s = true → s.prefill.length < 64) (hle : s.prefill.length ≤ 64)
    (hm : (s.merge.find? fun m => m.line == line) = none) (hl : s.merge.length < 64) :
    (dramWrite who a data errs s).mem = s.mem.writeList a data ∧ (dramWrite who a data errs s).chkx = s.chkx ∧
      (dramWrite who a data errs s).merge = s.merge ++ [⟨line, data.zipIdx.map fun x => (off + x.2, x.1), s.aonNs⟩] ∧
      (dramWrite who a data errs s).get BUF_DMAHALT 0 = s.get BUF_DMAHALT 0 := by
  obtain ⟨t, ht, hmem, hchk, hmrg, haon, hhalt⟩ := dramWrite_fits (who := who) (errs := errs) ha hd hfit hw hr hroom hle
  rw [ht, writeLine_part h64 (by rwa [hmrg]) (by rwa [hmrg]), ha, ← hmem, ← hchk, ← hmrg, ← haon, ← hhalt]
  exact ⟨rfl, rfl, rfl, get_set_ne _ _ _ _ (by decide +kernel)⟩

end

section
variable {who : BufMaster} {s : State} {a : Nat} {errs : List ByteErr}

/-- A refused read. -/
theorem readRefused (h : dataOffset a s = none) :
    afterRead who a (failOwner who s (dramRead who a errs s)) = failOwner who s ((decodeError who s).ret 0) := by
  have hget (f : Field) (hf : bySettle f.id = false) : (failOwner who s ((decodeError who s).ret 0)).get f 0 = s.get f 0 :=
    get_failOwner hf (keep_decodeError (closed_get hf 0 _).ofSettle who s rfl)
  rw [dramRead_none h]
  exact afterRead_none ((dataOffset_congr (hget _ (by decide +kernel)) (hget _ (by decide +kernel))).trans h)

/-- A read that returns a value halts no channel, and what it has read of a line without errors is not lost. -/
theorem readReturns {v : Nat} (h : dramRead who a errs s = (countTraffic 64 s).ret v) (hc : NMap.get 0 s.chkx ((a - dramBase) / 64) = 0) :
    afterRead who a (failOwner who s (dramRead who a errs s)) = (countTraffic 64 s).ret v := by
  rw [h, failOwner_same (t := (countTraffic 64 s).ret v) (countTraffic_halt 64)]
  exact afterRead_clean (by rw [show ((countTraffic 64 s).ret v).chkx = s.chkx from countTraffic_chkx 64]; exact hc)

end

/-- Settles O48: each access by the lemma of its case; the merge buffer by induction over its entries. -/
theorem memoryAccesses : Obligations.MemoryAccesses := by
  unfold Obligations.MemoryAccesses
  intro s who addr hr
  refine ⟨fun errs h => ?_, fun o errs h hu hc => ?_, fun o h hu hc => ?_, fun o h hu hc hm => ?_, fun errs => ?_, fun data errs hd hw => ?_,
    fun data errs hd hw => ?_, fun line data errs ha hd hw hret hroom hle => ?_, fun line off data errs ha hd hfit h64 hw hret hroom hle hm hl => ?_,
    fun k h => ?_, fun k => ?_, ?_, fun errs h => ?_, fun errs m h => ?_, fun m h hc => ?_, fun h => ?_, fun h => ?_⟩
  · rw [exec_dramRead, execDramRead]
    exact done_onMedia hr (readRefused h)
  · rw [exec_dramRead, execDramRead]
    exact done_onMedia hr (readReturns (dramRead_unfilled h hu) (dataOffset_eq h ▸ hc))
  · rw [exec_dramRead, execDramRead]
    exact done_onMedia hr (readReturns (dramRead_clean h hu hc) (dataOffset_eq h ▸ hc))
  · rw [exec_dramRead, execDramRead]
    refine ⟨_, done_onMedia hr ((afterRead_other hm).trans (congrArg _ (dramRead_poisoned h hu
      (lineErrors_poison (by rw [countTraffic_chkx]; exact hc)) (Prod.ext (decodeLine_poison _) rfl)))), ?_⟩
    rw [recordLine, elogAdd_mem, countTraffic_mem]
  · rw [exec_dramWrite, execDramWrite]
    exact done_onMedia hr (failOwner_same rfl)
  · rw [exec_dramWrite, execDramWrite]
    exact done_onMedia hr (congrArg _ (by rw [dramWrite, if_neg (by simpa using hd), hw]; rfl))
  · rw [exec_dramWrite, execDramWrite]
    exact done_onMedia hr (congrArg _ (by rw [dramWrite, if_neg (by simpa using hd), hw]; rfl))
  · rw [exec_dramWrite, execDramWrite]
    obtain ⟨hmem, hchk, hhalt⟩ := dramWrite_line (who := who) (errs := errs) ha hd hw hret hroom hle
    refine ⟨_, done_onMedia hr (failOwner_same hhalt), hmem, hchk, fun k hk => ?_⟩
    rw [hmem]
    exact Memory.read_writeList_ne data s.mem _ k (by rwa [hd])
  · rw [exec_dramWrite, execDramWrite]
    obtain ⟨hmem, hchk, hmrg, hhalt⟩ := dramWrite_part (who := who) (errs := errs) ha hd hfit h64 hw hret hroom hle hm hl
    exact ⟨_, done_onMedia hr (failOwner_same hhalt), hmem, hchk, hmrg⟩
  · rw [exec_sramRead, execSramRead]
    refine done_onMedia hr ?_
    rw [show ((0 : Fin 3) : Nat) = 0 from rfl, sramRead_good h]
    exact failOwner_same rfl
  · rw [exec_sramRead, execSramRead]
    obtain ⟨t, ht, hmem⟩ := sramRead_corrected (s := s) (k := k) (who := who) (a := addr.toNat)
    refine ⟨t.ret (s.mem.word (addr.toNat / 8 * 8) 8), done_onMedia hr ?_, State.ret_rdata .., by simpa only [State.ret] using hmem⟩
    rw [show ((1 : Fin 3) : Nat) = 1 from rfl, ht]
  · rw [exec_sramRead, execSramRead]
    refine ⟨sramError .insn (addr.toNat / 8) true (masterCode who) s, done_onMedia hr ?_⟩
    rw [show ((2 : Fin 3) : Nat) = 2 from rfl, sramRead_insn, sramSource]
  · rw [exec_mergeTimeout, execMergeTimeout]
    exact done_onBlock hr (by rw [mergeTimeout, h])
  · rw [exec_mergeTimeout, execMergeTimeout]
    exact done_onBlock hr (by rw [mergeTimeout, h])
  · rw [exec_mergeTimeout, execMergeTimeout]
    obtain ⟨hm, hchk, hread, hk⟩ := flushEntry_of hc
    exact ⟨_, done_onBlock hr (by rw [mergeTimeout, h]), hm, hchk, hread, hk⟩
  · rw [exec_bufFence, execBufFence]
    obtain ⟨hm, hread, hk⟩ := flushAll_of s.merge h
    exact ⟨_, done_onBlock hr rfl, hm.trans (filter_others s.merge), hread, hk⟩
  · rw [exec_bufFence, execBufFence]
    obtain ⟨hm, hmem⟩ := flushFull_of s.merge h
    exact ⟨_, done_onBlock hr rfl, hm.trans (filter_others s.merge), hmem⟩

/-! ## The scrubber (R429) -/

/-- A drive in operation, as its boot engine leaves it. -/
def driveUp : State := State.reset.setMany 0 [(GLB_BOOT_PHASE, 8), (GLB_BOOT_CFGDONE, 1), (GLB_ROLE_ROLE, 1)]

theorem reaches_driveUp : reaches 9 driveUp = true := by decide +kernel

/-- The scrubber passes over the control stores of the loop engine: they have a walker of their own (R429). -/
theorem sramScrub_controlStore (s : State) : sramScrub [(.lpe, 0x2000000, false)] s = s := by
  unfold sramScrub
  rw [List.filter_cons_of_neg (by decide)]
  rfl

/-- The settling of the media path leaves every other field as the command has put it. -/
theorem get_settled {f : Field} {i : Nat} (h : bySettle f.id = false) (s t : State) : (s.settled t).get f i = t.get f i := by
  rw [State.settled, State.after_get, settle_get h]

/-- Refutes O49: the SRAM scrubber passes over a word of a loop-engine control store (R429), here that of word 0x2000000, so it counts no
corrected error, where the statement has it count one in every SRAM. -/
theorem not_memoryUpkeep : ¬ Obligations.MemoryUpkeep := by
  unfold Obligations.MemoryUpkeep
  intro h
  obtain ⟨-, -, -, -, -, hscrub, -⟩ := h driveUp reaches_driveUp
  obtain ⟨hexec, hcount⟩ := hscrub .lpe 0x2000000
  rw [exec_sramScrub, execSramScrub, done_onMedia reaches_driveUp (sramScrub_controlStore driveUp)] at hexec
  have hCE := get_settled (show bySettle BUF_SRAM_CE.id = false by decide +kernel) driveUp (i := 0)
  have hsame : driveUp.get BUF_SRAM_CE 0 = (driveUp.get BUF_SRAM_CE 0 + 1) % 2 ^ BUF_SRAM_CE.width :=
    calc driveUp.get BUF_SRAM_CE 0
      _ = (driveUp.settled driveUp).get BUF_SRAM_CE 0 := (hCE _).symm
      _ = (driveUp.settled (sramError .lpe 0x2000000 false 6 driveUp)).get BUF_SRAM_CE 0 :=
        congrArg (State.get · BUF_SRAM_CE 0) (Host.Outcome.next.inj hexec)
      _ = (sramError .lpe 0x2000000 false 6 driveUp).get BUF_SRAM_CE 0 := hCE _
      _ = (driveUp.get BUF_SRAM_CE 0 + 1) % 2 ^ BUF_SRAM_CE.width := hcount
  revert hsame
  decide +kernel

end Sys2Proof.Machine
end

section
/-! PROOFS. The NVMe queues and controller states (spec/09). -/

namespace Sys2Proof.Machine

set_option Elab.async false

/-! ## Doorbells (R443, R444) -/

section
variable {s : State} {y v : Nat}

theorem sqTail_of {q : Sq} (h : s.sqs.find y = some q) (hv : v < q.size) (hr : sqRoom y ((v + q.size - q.head) % q.size) s = true) :
    sqTail y v s = { s with sqs := s.sqs.put y { q with tail := v } } := by
  simp only [sqTail, h, hr, Nat.not_le.2 hv, Bool.not_true, Bool.or_false, decide_false, Bool.false_eq_true, if_false]

theorem sqTail_none (h : s.sqs.find y = none) : sqTail y v s = doorbellError .invalidDoorbellRegister s := by simp only [sqTail, h]

theorem cqHead_of {q : Cq} (h : s.cqs.find y = some q) (hv : v < q.size)
    (hr : (v + q.size - q.head) % q.size ≤ (q.tail + q.size - q.head) % q.size) :
    cqHead y v s = updateInta { s with cqs := s.cqs.put y { q with head := v } } := by
  simp only [cqHead, h, Nat.not_le.2 hv, Nat.not_lt.2 hr, decide_false, Bool.or_false, Bool.false_eq_true, if_false]

theorem cqHead_beyond {q : Cq} (h : s.cqs.find y = some q) (hv : q.size ≤ v) : cqHead y v s = doorbellError .invalidDoorbellValue s := by
  simp only [cqHead, h, hv, decide_true, Bool.true_or, if_true]

end

/-! ## Controller states (R438, R439, R471, R472) -/

section
variable {s : State}

/-- CC.EN takes effect where the settings are accepted. -/
theorem takeEnable_ok (h : ccOk (s.get NVQ_CC 0) = true) : (takeEnable s).on NVQ_EN 0 = true ∧
    (takeEnable s).sqs.find 0 = some ⟨Nat.max 2 (bits (s.get NVQ_AQA 0) 0 12 + 1), 0, 0⟩ := by
  simp only [takeEnable, h, Bool.not_true, Bool.false_eq_true, if_false]
  refine ⟨?_, NMap.find_put_self ..⟩
  change (s.set NVQ_EN 0 1).on NVQ_EN 0 = true
  rw [on_set_self]
  rfl

/-- Settings that are not accepted stop the controller. -/
theorem takeEnable_bad (h : ccOk (s.get NVQ_CC 0) = false) :
    (takeEnable s).on NVQ_CFS 0 = true ∧ (takeEnable s).on NVQ_EN 0 = s.on NVQ_EN 0 := by
  rw [takeEnable, if_pos (by simp [h])]
  constructor <;> simp (disch := decide +kernel) [State.setMany]

theorem takeEnable_run : (takeEnable s).on NVQ_CTL_RUN 0 = s.on NVQ_CTL_RUN 0 := by
  unfold takeEnable
  split
  · simp (disch := decide +kernel)
  · exact on_set_ne (f := NVQ_EN) (g := NVQ_CTL_RUN) s 0 0 1 (by decide +kernel)

theorem withBit_lt {n i m : Nat} (b : Bool) (h : n < 2 ^ m) (hi : i < m) : withBit n i b < 2 ^ m :=
  Nat.lt_pow_two_of_testBit _ fun j hj => by
    rw [testBit_withBit, if_neg (by omega), Nat.testBit_lt_two_pow (Nat.lt_of_lt_of_le h (Nat.pow_le_pow_right (by decide) hj))]

/-- CC.EN set while RUN is set takes effect at once; else it waits. -/
theorem ccEnable_run {v : Nat} (he : s.on NVQ_EN 0 = false) (hb : s.on NVQ_BADCC 0 = false) (hr : s.on NVQ_CTL_RUN 0 = true) :
    ccEnable v s = takeEnable (s.set NVQ_CC 0 (withBit v 0 true)) := by
  have : (s.set NVQ_CC 0 (withBit v 0 true)).on NVQ_CTL_RUN 0 = true := by rw [on_set_ne _ _ _ _ (by decide +kernel), hr]
  simp only [ccEnable, he, hb, Bool.or_false, Bool.false_eq_true, if_false, this, if_true]

theorem ccEnable_waits {v : Nat} (he : s.on NVQ_EN 0 = false) (hr : s.on NVQ_CTL_RUN 0 = false) : (ccEnable v s).on NVQ_EN 0 = false := by
  have : (s.set NVQ_CC 0 (withBit v 0 true)).on NVQ_CTL_RUN 0 = false := by rw [on_set_ne _ _ _ _ (by decide +kernel), hr]
  simp only [ccEnable, this, Bool.false_eq_true, if_false]
  split
  · exact he
  · rwa [on_set_ne _ _ _ _ (by decide +kernel)]

/-- A write of CC.EN reads back the settings that came with it. -/
theorem get_cc (v : Word) : (s.set NVQ_CC 0 (withBit v.toNat 0 true)).get NVQ_CC 0 = withBit v.toNat 0 true := by
  rw [State.get_set_self]
  exact Nat.mod_eq_of_lt (withBit_lt true v.isLt (by decide))

theorem controllerReady_of (he : s.on NVQ_EN 0 = true) (hc : s.on NVQ_CFS 0 = false) (hr : s.on NVQ_RESETTING 0 = false) :
    controllerReady s = s.set NVQ_STS_RDY 0 1 := by simp [controllerReady, he, hc, hr]

theorem ccDisable_of (h : (nvqReset s).on PCI_FRZ_BY_FAULT 0 = false) : ccDisable s = nvqReset s := by simp [ccDisable, h]

theorem resetDrainTimeout_of (h : s.on NVQ_RESETTING 0 = true) :
    resetDrainTimeout s = pulse 259 0xFF (s.setMany 0 [(NVQ_RESETTING, 0), (NVQ_STS_RDY, 0)]) := if_pos h

/-- A discard ends every command. -/
theorem discardCmds_cmds : (discardCmds s).cmds = [] := rfl

theorem shutdownAbrupt_of (h : s.on NVQ_EN 0 = true) :
    shutdownAbrupt s = (discardCmds s).setMany 0 [(NVQ_SHUT, 2), (NVQ_SHST, 1), (NVQ_SHSEQ, 0)] := if_pos h

/-! ## A controller reset (R471) -/

/-- A discard leaves the fields alone that neither a settling nor the count of aborted commands changes. -/
theorem discardCmds_get {f : Field} {i : Nat} (h : bySettle f.id = false) (hc : NVQ_CNT_ABRT.id ≠ f.id) : (discardCmds s).get f i = s.get f i := by
  have hP := closed_get h i (s.get f i)
  have hzones : (s.zones.foldl (fun (u : State) e =>
      let v := returnAccept e.1 0 u
      v.setZone e.1 { v.zone e.1 with accept := (v.zone e.1).wp }) s).get f i = s.get f i :=
    Closed.foldl (P := fun t => t.get f i = s.get f i) _ _ _
      (fun _ _ ht => keep_State_setZone hP _ _ _ (keep_returnAccept hP _ _ _ ht)) rfl
  exact keep_raDrop hP _ ((get_set_ne _ _ _ _ hc).trans hzones)

/-- The defaults of the features are register fields. -/
theorem defaultFeatures_of {P : State → Prop} (hP : ∀ (t : State) (f : Field) (i : Nat), P t → P (t.unset f i)) (t : State) (h : P t) :
    P (defaultFeatures t) :=
  Closed.forBelow _ _ _ (fun _ _ ht => hP _ _ _ ht) (Closed.foldl _ _ _ (fun _ _ ht => hP _ _ _ ht) (hP _ _ _ h))

/-- No queue, no command, and the activation at the next reset as it was. -/
def Emptied (s t : State) : Prop := t.sqs = [] ∧ t.cqs = [] ∧ t.cmds = [] ∧ t.get NVQ_ACTNEXT 0 = s.get NVQ_ACTNEXT 0

theorem Emptied.set {t : State} (h : Emptied s t) {f : Field} (i v : Nat) (hf : f.id ≠ NVQ_ACTNEXT.id) : Emptied s (t.set f i v) := by
  obtain ⟨h1, h2, h3, h4⟩ := h
  exact ⟨h1, h2, h3, by rw [get_set_ne _ _ _ _ hf, h4]⟩

theorem Emptied.setMany {t : State} (h : Emptied s t) {l : List (Field × Nat)} (i : Nat) (hl : ∀ e ∈ l, e.1.id ≠ NVQ_ACTNEXT.id) :
    Emptied s (t.setMany i l) := by
  induction l generalizing t with
  | nil => exact h
  | cons e l ih => exact ih (h.set i e.2 (hl e (by simp))) fun x hx => hl x (by simp [hx])

/-- A controller reset without an activation empties the queues and disables the controller. -/
theorem nvqReset_of (h : s.on NVQ_ACTNEXT 0 = false) : (nvqReset s).sqs = [] ∧ (nvqReset s).cqs = [] ∧ (nvqReset s).cmds = [] ∧
    (nvqReset s).on NVQ_EN 0 = false := by
  have hcmds : (defaultFeatures (discardCmds s)).cmds = [] := defaultFeatures_of (P := fun t => t.cmds = []) (fun _ _ _ h => h) _ rfl
  have hnext : (defaultFeatures (discardCmds s)).get NVQ_ACTNEXT 0 = s.get NVQ_ACTNEXT 0 := by
    rw [← discardCmds_get (s := s) (show bySettle NVQ_ACTNEXT.id = false by decide +kernel) (by decide +kernel)]
    generalize discardCmds s = d
    unfold defaultFeatures
    refine Closed.forBelow _ _ _ (P := fun t => t.get NVQ_ACTNEXT 0 = d.get NVQ_ACTNEXT 0) (fun _ _ ht => ?_) ?_
    · exact (get_set_ne _ _ _ _ (by decide +kernel)).trans ht
    · simp (disch := decide +kernel) [State.unset_eq]
  unfold nvqReset
  generalize defaultFeatures (discardCmds s) = d at hcmds hnext
  dsimp only
  have hempty : Emptied s ({ d with sqs := [], cqs := [] } : State) := ⟨rfl, rfl, hcmds, hnext⟩
  generalize ({ d with sqs := [], cqs := [] } : State) = u at hempty
  have heach : Emptied s (forBelow 8 (fun i u => u.set NVQ_SQEN i 0) u) :=
    Closed.forBelow _ _ _ (fun _ _ ht => ht.set _ _ (by decide +kernel)) hempty
  generalize forBelow 8 (fun i u => u.set NVQ_SQEN i 0) u = w at heach
  generalize hx : (w.setMany 0 [(NVQ_EN, 0), (NVQ_CFS, 0), (NVQ_BADCC, 0), (NVQ_FETCHOFF, 0), (NVQ_FETCHED, 0), (NVQ_RRQ, 0), (NVQ_RRN, 0),
    (NVQ_SHUT, 0), (NVQ_SHST, 0), (NVQ_STS_ACTIVATING, 0), (NVQ_INTM, 0), (NVQ_RESETTING, s.get NVQ_STS_RDY 0)]) = x
  have hen : x.get NVQ_EN 0 = 0 := by rw [← hx]; simp (disch := decide +kernel)
  have hxe : Emptied s x := hx ▸ heach.setMany 0 (by
    simp only [List.forall_mem_cons]
    decide +kernel)
  rw [State.setBit_eq]
  obtain ⟨h1, h2, h3, h4⟩ := hxe.set (f := NVQ_CC) 0 (withBit (x.get NVQ_CC 0) 0 false) (by decide +kernel)
  rw [if_neg (by rw [State.on_eq, h4, ← State.on_eq, h]; decide)]
  refine ⟨h1, h2, h3, ?_⟩
  rw [on_set_ne _ _ _ _ (by decide +kernel), State.on_eq, hen]
  rfl

end
/-! ## Fetch and the life of a command (R440, R442, R443) -/

/-- A command that has been fetched with its opcode runs. -/
theorem withCmd_of {s : State} {q op : Nat} {cid : BitVec 16} {c : NvCmd} {f : NvCmd → State → State} (h : cmdOf q cid s = some c)
    (ho : c.op = op) (hp : c.phase = .fetched) : withCmd q cid op f s = f c s := by
  simp only [withCmd, h, ho, hp, and_self, if_true]

section
variable {s : State} {e : SqEntry} {q : Sq}

theorem commandFetch_none (h : s.sqs.find e.sqid = none) : commandFetch e s = s := by simp only [commandFetch, h]

/-- An entry that arbitration takes. -/
theorem commandFetch_of (hq : s.sqs.find e.sqid = some q) (hf : s.on NVQ_FETCHED 0 = true) (hon : fetchOn s = true)
    (hd : (s.cmds.find? fun c => c.phase == .delete && c.zone == e.sqid) = none) (hn : nextQueue s = some e.sqid) :
    commandFetch e s = match entryStatus e s with
      | .success => if e.sqid = 0 then takeEntry e q s else leavePower (takeEntry e q s)
      | st => complete e.sqid e.cid.toNat st [] (takeEntry e q s) := by
  have hen : s.on NVQ_EN 0 = true := by
    simp only [fetchOn, Bool.and_eq_true] at hon
    exact hon.1.1.1.1.1.1
  simp only [commandFetch, hq, hf, hen, hd, hon, hn, Bool.true_or, Bool.not_true, Bool.or_false, Bool.false_eq_true, ne_eq,
    not_true_eq_false, decide_false, if_false] <;> rfl

theorem takeEntry_length : (takeEntry e q s).cmds.length = s.cmds.length + 1 := by
  change (s.cmds ++ [_]).length = s.cmds.length + 1
  rw [List.length_append, List.length_singleton]

/-- A completion that may not be posted, or that a freeze discards, sends nothing. -/
theorem complete_frozen {cid sq : Nat} {st : NvStatus} {dw : List Nat} (h : s.on PCI_FRZ_FROZEN 0 = true) :
    (complete sq cid st dw s).out = s.out := by
  rw [complete, completeWith, if_pos h]
  rfl

theorem complete_waits {cid sq : Nat} {st : NvStatus} {dw : List Nat} (h : s.on PCI_FRZ_FROZEN 0 = false) (hm : mayIssue s = false) :
    (complete sq cid st dw s).out = s.out ∧ (complete sq cid st dw s).cpls = s.cpls ++ [⟨sq, cid, st, dw, []⟩] := by
  rw [complete, completeWith, if_neg (by simp [h]), drainCpls, if_neg]
  · exact ⟨rfl, rfl⟩
  · rw [Bool.not_eq_true]
    exact hm

end

/-! ## Queues (R441, R445, R467) -/

section
variable {s : State} {c : NvCmd} {qid size iv : Nat} {ien : Bool}

theorem createSq_of (ha : ioAllowed s = true) (h0 : 0 < qid) (h256 : qid ≤ 256) (h2 : 2 ≤ size) (h33 : size ≤ 33)
    (hn : qid ≤ s.get NVQ_NSQ 0 + 1) (hs : s.sqs.find qid = none) (hc : (s.cqs.find qid).isSome = true) :
    createSq qid size qid c s = finish c .success (showQueue qid true { s with sqs := s.sqs.put qid ⟨size, 0, 0⟩ }) := by
  have hid : ¬(!ioAllowed s || qid = 0 || s.get NVQ_NSQ 0 + 1 < qid || 256 < qid || (s.sqs.find qid).isSome) = true := by
    simp [ha, hs]; omega
  rw [createSq, if_neg hid, if_neg (by simp; omega), if_neg (by simpa using Option.isSome_iff_ne_none.1 hc)]

theorem createCq_of (ha : ioAllowed s = true) (h0 : 0 < qid) (h256 : qid ≤ 256) (h2 : 2 ≤ size) (h33 : size ≤ 33)
    (hn : qid ≤ s.get NVQ_NCQ 0 + 1) (hs : s.cqs.find qid = none) (hv : iv ≤ 256) :
    createCq qid size iv ien c s = finish c .success { s with cqs := s.cqs.put qid ⟨size, 0, 0, iv, ien, 0⟩ } := by
  have hid : ¬(!ioAllowed s || qid = 0 || s.get NVQ_NCQ 0 + 1 < qid || 256 < qid || (s.cqs.find qid).isSome) = true := by
    simp [ha, hs]; omega
  rw [createCq, if_neg hid, if_neg (by simp; omega), if_neg (by omega)]

theorem deleteCq_of (h0 : 0 < qid) (hc : (s.cqs.find qid).isSome = true) (hs : s.sqs.find qid = none) :
    deleteCq qid c s = finish c .success { s with cqs := s.cqs.del qid } := by
  rw [deleteCq, if_neg, if_neg (by simp [hs])]
  simpa [Nat.ne_of_gt h0] using Option.isSome_iff_ne_none.1 hc

theorem deleteCq_used (h0 : 0 < qid) (hc : (s.cqs.find qid).isSome = true) (hs : (s.sqs.find qid).isSome = true) :
    deleteCq qid c s = finish c .invalidQueueDeletion s := by
  rw [deleteCq, if_neg, if_pos hs]
  simpa [Nat.ne_of_gt h0] using Option.isSome_iff_ne_none.1 hc

theorem deleteSq_of {q : Sq} (h0 : 0 < qid) (hs : s.sqs.find qid = some q) (hd : draining qid s = false) :
    deleteSq qid c s = abortShort qid (s.modCmd c fun x => { x with phase := .delete, zone := qid, act := q.tail }) := by
  simp only [deleteSq, hs]
  rw [if_neg (by simp [hd]; omega)]

end

/-- NVQ_RUN set, and what follows from the start-up phase and the grant, leave it set. -/
theorem runHost_on (s : State) : (runHost true s).on NVQ_CTL_RUN 0 = true := by
  have hset : (s.set NVQ_CTL_RUN 0 true.toNat).on NVQ_CTL_RUN 0 = true := by rw [on_set_self]; rfl
  have hrun : (nvqRun true s).on NVQ_CTL_RUN 0 = true := by
    unfold nvqRun
    dsimp only
    split
    · rwa [takeEnable_run]
    · exact hset
  have hphase : (reachPhase 8 (nvqRun true s)).on NVQ_CTL_RUN 0 = true := by
    unfold reachPhase
    split
    · rwa [on_set_ne _ _ _ _ (by decide +kernel)]
    · exact hrun
  rw [runHost, if_pos rfl, standaloneGrant]
  split
  · rwa [on_set_ne _ _ _ _ (by decide +kernel)]
  · exact hphase

/-- Settles O50: each command by the lemma of its case. -/
theorem queuesAndController : Obligations.QueuesAndController := by
  unfold Obligations.QueuesAndController
  intro s hr
  refine ⟨fun y v q hq hv hroom => ?_, fun y v hq => ?_, fun y v q hq hv hle => ?_, fun y v q hq hv => ?_, fun v he hb hrun => ⟨fun hok => ?_, fun hok => ?_⟩,
    fun v he hrun => ?_, fun he hc hres => ?_, fun h => ?_, ?_, nvqReset_of, fun h => ?_, fun h => ⟨?_, ?_⟩,
    fun e q hq hf hon hd hn => ⟨fun hst h0 => ?_, fun hst h0 => ?_, fun hst => ?_, takeEntry_length⟩, fun e h => ?_,
    fun cid c qid size hc hp ha h0 h256 h2 h33 => ⟨fun ho hn hs hcq => ?_, fun iv ien ho hn hs hv => ?_⟩,
    fun cid c qid hc hp h0 => ⟨fun ho hcq hs => ?_, fun ho hcq hs => ?_, fun q ho hs hd => ?_⟩, fun q h => ?_, fun q c h ha => ?_, ?_, ?_,
    fun q cid st dw => ⟨complete_frozen, complete_waits⟩⟩
  · rw [exec_sqTailDoorbell, execSqTailDoorbell]
    exact done_onMedia hr (sqTail_of hq hv hroom)
  · rw [exec_sqTailDoorbell, execSqTailDoorbell]
    exact done_onMedia hr (sqTail_none hq)
  · rw [exec_cqHeadDoorbell, execCqHeadDoorbell]
    exact done_onMedia hr (cqHead_of hq hv hle)
  · rw [exec_cqHeadDoorbell, execCqHeadDoorbell]
    exact done_onMedia hr (cqHead_beyond hq hv)
  · rw [exec_ccEnable, execCcEnable]
    obtain ⟨hen, hsq⟩ := takeEnable_ok (s := s.set NVQ_CC 0 (withBit v.toNat 0 true)) (by rwa [get_cc])
    rw [get_set_ne _ _ _ _ (by decide +kernel)] at hsq
    exact ⟨_, done_onMedia hr (ccEnable_run he hb hrun), hen, hsq⟩
  · rw [exec_ccEnable, execCcEnable]
    obtain ⟨hcfs, hen⟩ := takeEnable_bad (s := s.set NVQ_CC 0 (withBit v.toNat 0 true)) (by rwa [get_cc])
    rw [on_set_ne _ _ _ _ (by decide +kernel), he] at hen
    exact ⟨_, done_onMedia hr (ccEnable_run he hb hrun), hcfs, hen⟩
  · rw [exec_ccEnable, execCcEnable]
    exact ⟨_, done_onMedia hr rfl, ccEnable_waits he hrun⟩
  · rw [exec_controllerReady, execControllerReady]
    exact done_onMedia hr (controllerReady_of he hc hres)
  · rw [exec_ccDisable, execCcDisable]
    exact done_onMedia hr (ccDisable_of h)
  · rw [exec_nvmSubsystemReset, execNvmSubsystemReset]
    exact done_onMedia hr rfl
  · rw [exec_resetDrainTimeout, execResetDrainTimeout]
    exact done_onMedia hr (resetDrainTimeout_of h)
  · rw [exec_shutdownNormal, execShutdownNormal]
    exact done_onMedia hr (if_pos h)
  · rw [exec_shutdownAbrupt, execShutdownAbrupt]
    exact ⟨_, done_onMedia hr (shutdownAbrupt_of h), discardCmds_cmds (s := s),
      by simp (disch := decide +kernel); rfl, by simp (disch := decide +kernel)⟩
  · rw [exec_commandFetch, execCommandFetch]
    exact done_onMedia hr (by rw [commandFetch_of hq hf hon hd hn, hst]; exact if_pos h0)
  · rw [exec_commandFetch, execCommandFetch]
    exact done_onMedia hr (by rw [commandFetch_of hq hf hon hd hn, hst]; exact if_neg h0)
  · rw [exec_commandFetch, execCommandFetch]
    refine done_onMedia hr ?_
    rw [commandFetch_of hq hf hon hd hn]
    split
    · contradiction
    · rfl
  · rw [exec_commandFetch, execCommandFetch]
    exact done_onMedia hr (commandFetch_none h)
  · rw [exec_createIoSq, execCreateIoSq, adminCmd]
    exact done_onMedia hr ((withCmd_of hc ho hp).trans (createSq_of ha h0 h256 h2 h33 hn hs hcq))
  · rw [exec_createIoCq, execCreateIoCq, adminCmd]
    exact done_onMedia hr ((withCmd_of hc ho hp).trans (createCq_of ha h0 h256 h2 h33 hn hs hv))
  · rw [exec_deleteIoCq, execDeleteIoCq, adminCmd]
    exact done_onMedia hr ((withCmd_of hc ho hp).trans (deleteCq_of h0 hcq hs))
  · rw [exec_deleteIoCq, execDeleteIoCq, adminCmd]
    exact done_onMedia hr ((withCmd_of hc ho hp).trans (deleteCq_used h0 hcq hs))
  · rw [exec_deleteIoSq, execDeleteIoSq, adminCmd]
    exact done_onMedia hr ((withCmd_of hc ho hp).trans (deleteSq_of h0 hs hd))
  · rw [exec_aggregationTimeExpiry, execAggregationTimeExpiry]
    exact done_onMedia hr (by simp only [aggregationExpiry, h])
  · rw [exec_aggregationTimeExpiry, execAggregationTimeExpiry]
    exact done_onMedia hr (by simp only [aggregationExpiry, h, ha, if_false])
  · rw [exec_nvqRun, execNvqRun]
    exact done_onMedia hr rfl
  · rw [exec_nvqRun, execNvqRun]
    exact ⟨_, done_onMedia hr rfl, runHost_on s⟩

end Sys2Proof.Machine
end

section
/-! PROOFS. The NVMe admin commands (spec/09). -/

namespace Sys2Proof.Machine

set_option Elab.async false

section
variable {s : State} {c : NvCmd}

/-! ## Log pages and Identify (R479, R480) -/

theorem getLog_none {lid off len : Nat} {rae : Bool} (h : logPage lid s = none) : getLog lid rae off len c s = finish c .invalidLogPage s := by
  simp only [getLog, h]

/-- A log page that is read within its length, and keeps its event masked. -/
theorem getLog_within {lid off len : Nat} {l : List (BitVec 8)} (h : logPage lid s = some l) (h2 : lid ≠ 2) (h4 : off % 4 = 0)
    (hl : len + off ≤ l.length) :
    getLog lid true off len c s = completeWith [.hostData c.sqid c.cid ((l.drop off).take len)] c.sqid c.cid .success [] s := by
  have hpad : len - ((l.drop off).take len).length = 0 := by rw [List.length_take, List.length_drop]; omega
  simp only [getLog, h, h4, h2, hpad, List.replicate_zero, List.append_nil, ne_eq, not_true_eq_false, if_true, if_false]

theorem identifyCmd_ok {cns csi nsid : Nat} {l : List (BitVec 8)} (h : identifyPage cns csi nsid s = .ok l) :
    identifyCmd cns csi nsid c s = completeWith [.hostData c.sqid c.cid l] c.sqid c.cid .success [] s := by simp only [identifyCmd, h]

theorem identifyCmd_error {cns csi nsid : Nat} {e : NvStatus} (h : identifyPage cns csi nsid s = .error e) :
    identifyCmd cns csi nsid c s = finish c e s := by simp only [identifyCmd, h]

/-! ## Features (R463, R478, R485, R486) -/

theorem setPowerState_high {ps : Nat} (h : 4 < ps) : setPowerState ps c s = finish c .invalidField s := if_pos h

theorem setPowerState_of {ps : Nat} (h : ps ≤ 4) :
    setPowerState ps c s = startPower { c with zone := ps } (s.modCmd c fun x => { x with zone := ps }) := if_neg (Nat.not_lt.2 h)

theorem setQueues_of {a b : BitVec 16} (hs : (s.sqs.any fun q => q.1 != 0) = false) (hc : (s.cqs.any fun q => q.1 != 0) = false)
    (ha : a ≠ 0xFFFF) (hb : b ≠ 0xFFFF) :
    setQueues a.toNat b.toNat c s = complete c.sqid c.cid .success [255 + 255 * 65536] (s.set NVQ_NQSET 0 1) := by
  have ha' : a.toNat ≠ 65535 := fun h => ha (BitVec.eq_of_toNat_eq h)
  have hb' : b.toNat ≠ 65535 := fun h => hb (BitVec.eq_of_toNat_eq h)
  rw [setQueues, hs, hc, if_neg (by decide), if_neg (by simp [ha', hb'])]

theorem setSpinWait_of {sec : Nat} (h1 : 1 ≤ sec) (h : sec ≤ 600) : setSpinWait sec c s = finish c .success (s.set NVQ_SPINWAIT 0 sec) := by
  rw [setSpinWait, if_neg]
  simp; omega

theorem setSpinWait_high {sec : Nat} (h : 600 < sec) : setSpinWait sec c s = finish c .invalidField s := by
  rw [setSpinWait, if_pos]
  simp; omega

/-- The value of a feature that there is. -/
theorem getFeature_value {fid dw v : Nat} (h : featureValue fid dw s = some v) :
    getFeature fid 0 dw c s = complete c.sqid c.cid .success [v] s := by
  rw [getFeature, if_neg (by decide), h]
  rfl

theorem getFeature_none {fid sel dw : Nat} (h : featureValue fid dw s = none) : getFeature fid sel dw c s = finish c .invalidField s := by
  simp only [getFeature, h]

/-! ## Abort and asynchronous events (R469, R484) -/

theorem asyncEvent_full (h : 4 ≤ (s.cmds.countP fun x => x.phase == .event)) : asyncEvent c s = finish c .aerLimit s := if_pos h

theorem asyncEvent_of (h : (s.cmds.countP fun x => x.phase == .event) < 4) (he : s.events = []) :
    asyncEvent c s = { s.modCmd c (fun x => { x with phase := .event }) with events := [] } := by
  rw [asyncEvent, if_neg (Nat.not_le.2 h)]
  change deliverEvents s.events [] _ = _
  rw [he, deliverEvents]

/-! ## Firmware (R473, R474, R559) -/

theorem imageDownload_of {off len : Nat} (ho : off % 4096 = 0) (hl : len % 4096 = 0) (hn : 0 < len) :
    imageDownload off len c s = finish c .success (s.set NVQ_FWLEN 0 (Nat.max (s.get NVQ_FWLEN 0) (off + len))) := by
  rw [imageDownload, if_neg]
  simp [ho, hl]; omega

theorem firmwareCommit_bad {action slot : Nat} (ha : action ≤ 3) (hs : slot = 1 ∨ slot = 2) (h2 : action ≠ 2) :
    firmwareCommit action slot false false c s = finish c .invalidFirmwareImage s := by
  rw [firmwareCommit]
  dsimp only
  rw [if_neg (by omega), if_neg (by rcases hs with rfl | rfl <;> simp), if_pos (by simp [h2])]

theorem firmwareCommit_slot {action slot : Nat} {ok : Bool} (ha : action ≤ 3) (h1 : slot ≠ 1) (h2 : slot ≠ 2) :
    firmwareCommit action slot ok false c s = finish c .invalidFirmwareSlot s := by
  rw [firmwareCommit]
  dsimp only
  rw [if_neg (by omega), if_pos (by simp [h1, h2])]

/-- An image that is written and made active for the next boot. -/
theorem firmwareCommit_next {slot : Nat} (hs : slot = 1 ∨ slot = 2) : ∃ u, firmwareCommit 1 slot true false c s = finish c .success u ∧
    u.get NVM_ACTIVE 0 = slot - 1 ∧ u.get NVQ_FWLEN 0 = 0 := by
  have hslot : (slot - 1) % 2 ^ NVM_ACTIVE.width = slot - 1 := by rcases hs with rfl | rfl <;> decide +kernel
  rw [firmwareCommit]
  dsimp only
  rw [if_neg (by decide), if_neg (by rcases hs with rfl | rfl <;> simp), if_neg (by simp)]
  generalize (if (decide (1 = 2) || false && s.on GLB_BOOT_RECOVERY 0 || !s.on NVQ_FWLEN 0) = true then s
    else (s.used.set NVM_VER (slot - 1) s.free).set NVM_FRESH (slot - 1) 1) = t
  rw [if_neg (by simp), if_neg (by decide), if_pos (by simp)]
  refine ⟨_, rfl, ?_, ?_⟩
  · rw [State.get_set_self, hslot]
  · rw [get_set_ne _ _ _ _ (by decide +kernel), State.get_set_self, Nat.zero_mod]

/-- Outside recovery boot a commit is no more than its command. -/
theorem commitImage_of {cid : BitVec 16} {action slot : Nat} {ok cfg : Bool} (h : s.on GLB_BOOT_RECOVERY 0 = false) :
    commitImage cid action slot ok cfg s = onMedia 11 (withCmd 0 cid 0x10 (firmwareCommit action slot ok cfg)) s := by
  rw [commitImage, h]
  exact if_neg (by simp)

theorem beginCommit_free {cid : BitVec 16} {action slot : Nat} {ok cfg : Bool} (h : (norTaken s && commitWrites action slot ok cfg s) = false) :
    beginCommit cid action slot ok cfg s = commitImage cid action slot ok cfg s := by
  rw [beginCommit, h, if_neg (by decide)]

theorem beginCommit_waits {cid : BitVec 16} {slot : Nat} (hs : slot = 1 ∨ slot = 2) (hd : s.dumps ≠ []) (hc : cmdOf 0 cid s = some c) (ho : c.op = 16)
    (hp : c.phase = .fetched) (hw : s.norWait.contains (.commit cid 1 slot true false) = false) :
    beginCommit cid 1 slot true false s = { s with norWait := s.norWait ++ [.commit cid 1 slot true false] } := by
  have htaken : (norTaken s && commitWrites 1 slot true false s) = true := by
    rcases hs with rfl | rfl <;> simp [norTaken, commitWrites, hd]
  rw [beginCommit, htaken, if_pos rfl, hc]
  dsimp only
  rw [if_pos ⟨ho, hp⟩, holdNor, hw, if_neg (by decide)]

/-- A commit that does not wait runs as a command of the host side. -/
theorem firmwareCommit_runs {cid : BitVec 16} {action slot : Nat} {ok cfg : Bool} {u : State} (hr : reaches 11 s = true) (hc : cmdOf 0 cid s = some c)
    (ho : c.op = 16) (hp : c.phase = .fetched) (hrec : s.on GLB_BOOT_RECOVERY 0 = false)
    (hw : (norTaken s && commitWrites action slot ok cfg s) = false) (hu : firmwareCommit action slot ok cfg c s = u) :
    exec (.firmwareCommit cid action slot ok cfg) s = .next (s.settled u) := by
  have hreset := reaches_inReset hr
  rw [exec_firmwareCommit, execFirmwareCommit, hreset, if_neg (by decide), beginCommit_free hw, commitImage_of hrec]
  exact done_onMedia hr ((withCmd_of hc ho hp).trans hu)

theorem startActivation_on : (startActivation s).on NVQ_STS_ACTIVATING 0 = true := by
  rw [startActivation]
  simp (disch := decide +kernel) [State.on_eq]

end

/-- Settles O51: each command by the lemma of its case. -/
theorem adminCommands : Obligations.AdminCommands := by
  unfold Obligations.AdminCommands
  intro s hr
  refine ⟨fun cid c hc hp => ⟨fun lid rae off len ho h => ?_, fun lid off len l ho h h2 h4 hl => ?_, fun i hi ho => ⟨fun l h => ?_, fun e h => ?_⟩,
    fun ho h => ?_, fun ho => ⟨fun dw => ?_, fun dw => ?_, fun ps h => ?_, fun ps h => ?_, fun a b hs hq ha hb => ?_, fun wce => ?_,
      fun sec h1 h => ?_, fun sec h => ?_, fun code on h => ?_, fun code on h => ?_, fun vf ra share => ?_⟩,
    fun fid dw v ho h => ?_, fun fid sel ho h => ?_, fun ho h => ?_, fun ho h he => ?_, fun off len ho h1 h2 h3 => ?_,
    fun ho hrec => ⟨fun action slot ha hs h2 => ?_, fun slot hs hd => ?_, fun slot hs hd hw => ?_, fun action slot ok ha h1 h2 => ?_⟩⟩,
    fun h => ?_, fun h hheld => ?_⟩
  · rw [exec_getLogPage, execGetLogPage, adminCmd]
    exact done_onMedia hr ((withCmd_of hc ho hp).trans (getLog_none h))
  · rw [exec_getLogPage, execGetLogPage, adminCmd]
    exact done_onMedia hr ((withCmd_of hc ho hp).trans (getLog_within h (fun e => h2 (BitVec.eq_of_toNat_eq e)) h4 hl))
  · rw [exec_identify, execIdentify, adminCmd, hi]
    exact done_onMedia hr ((withCmd_of hc ho hp).trans (identifyCmd_ok h))
  · rw [exec_identify, execIdentify, adminCmd, hi]
    exact done_onMedia hr ((withCmd_of hc ho hp).trans (identifyCmd_error h))
  · rw [exec_abort, execAbort, adminCmd]
    exact done_onMedia hr ((withCmd_of hc ho hp).trans (if_neg (Nat.not_lt.2 h)))
  · rw [exec_setFeatures, execSetFeatures, adminCmd, if_neg (by decide)]
    exact done_onMedia hr (withCmd_of hc ho hp)
  · rw [exec_setFeatures, execSetFeatures, adminCmd, if_neg (by decide)]
    exact done_onMedia hr (withCmd_of hc ho hp)
  · rw [exec_powerManagement, execPowerManagement, adminCmd]
    exact done_onMedia hr ((withCmd_of hc ho hp).trans (setPowerState_high h))
  · rw [exec_powerManagement, execPowerManagement, adminCmd]
    exact done_onMedia hr ((withCmd_of hc ho hp).trans (setPowerState_of h))
  · rw [exec_numberOfQueues, execNumberOfQueues, adminCmd]
    exact done_onMedia hr ((withCmd_of hc ho hp).trans (setQueues_of hs hq ha hb))
  · rw [exec_volatileWriteCache, execVolatileWriteCache, adminCmd]
    exact done_onMedia hr (withCmd_of hc ho hp)
  · rw [exec_spinWaitLimit, execSpinWaitLimit, adminCmd]
    exact done_onMedia hr ((withCmd_of hc ho hp).trans (setSpinWait_of h1 h))
  · rw [exec_spinWaitLimit, execSpinWaitLimit, adminCmd]
    exact done_onMedia hr ((withCmd_of hc ho hp).trans (setSpinWait_high h))
  · rw [exec_diagnosticUnlock, execDiagnosticUnlock, adminCmd]
    exact done_onMedia hr ((withCmd_of hc ho hp).trans (if_pos h))
  · rw [exec_diagnosticUnlock, execDiagnosticUnlock, adminCmd]
    exact done_onMedia hr ((withCmd_of hc ho hp).trans (if_neg h))
  · rw [exec_mediaPolicy, execMediaPolicy, adminCmd]
    exact done_onMedia hr (withCmd_of hc ho hp)
  · rw [exec_getFeatures, execGetFeatures, adminCmd]
    exact done_onMedia hr ((withCmd_of hc ho hp).trans (getFeature_value h))
  · rw [exec_getFeatures, execGetFeatures, adminCmd]
    exact done_onMedia hr ((withCmd_of hc ho hp).trans (getFeature_none h))
  · rw [exec_asyncEventRequest, execAsyncEventRequest, adminCmd]
    exact done_onMedia hr ((withCmd_of hc ho hp).trans (asyncEvent_full h))
  · rw [exec_asyncEventRequest, execAsyncEventRequest, adminCmd]
    exact done_onMedia hr ((withCmd_of hc ho hp).trans (asyncEvent_of h he))
  · rw [exec_firmwareImageDownload, execFirmwareImageDownload, adminCmd]
    exact done_onMedia hr ((withCmd_of hc ho hp).trans (imageDownload_of h1 h2 h3))
  · exact firmwareCommit_runs hr hc ho hp hrec (by simp [commitWrites, h2]) (firmwareCommit_bad ha hs h2)
  · obtain ⟨u, hu, hact, hlen⟩ := firmwareCommit_next (s := s) (c := c) hs
    exact ⟨u, firmwareCommit_runs hr hc ho hp hrec (by simp [norTaken, hd]) hu, hact, hlen⟩
  · have hreset := reaches_inReset hr
    rw [exec_firmwareCommit, execFirmwareCommit, hreset, if_neg (by decide), beginCommit_waits hs hd hc ho hp hw]
    rfl
  · exact firmwareCommit_runs hr hc ho hp hrec (by simp [commitWrites, h1, h2]) (firmwareCommit_slot ha h1 h2)
  · rw [exec_firmwareActivation, execFirmwareActivation]
    exact ⟨_, done_onMedia hr (if_neg (by simp [h])), startActivation_on⟩
  · rw [exec_activationTimeout, execActivationTimeout]
    exact done_onMedia hr (by rw [activationTimeout, h, hheld]; rfl)

end Sys2Proof.Machine
end

section
/-! PROOFS. The NVMe I/O commands and zone actions (spec/09). -/

namespace Sys2Proof.Machine

set_option Elab.async false

/-! ## What the commands in flight leave alone -/

section
variable {s : State} {c : NvCmd} {f : NvCmd → NvCmd} {z : Nat}

theorem bandRows_modCmd (u : NMap Nat) (n r : Nat) (l : NMap Nat) : bandRows z u (s.modCmd c f) n r l = bandRows z u s n r l := by
  induction n generalizing r l with
  | zero => rfl
  | succ n ih =>
    simp only [bandRows, ih]
    rfl

theorem zoneCapacity_modCmd : zoneCapacity z (s.modCmd c f) = zoneCapacity z s := by
  simp only [zoneCapacity, bandRows_modCmd]
  rfl

@[simp] theorem zoneView_modCmd : zoneView z (s.modCmd c f) = zoneView z s := by
  simp only [zoneView, zoneCapacity_modCmd]
  rfl

theorem implicitClose_modCmd : (implicitClose (s.modCmd c f)).isNone = (implicitClose s).isNone := by
  simp only [implicitClose, Option.isNone_map]
  rfl

theorem writeStatus_modCmd (append : Bool) (start n lba : Nat) :
    writeStatus append z start n lba (s.modCmd c f) = writeStatus append z start n lba s := by
  simp only [writeStatus, zoneView_modCmd, implicitClose_modCmd]
  rfl

/-- A zone's record as it is shown has the state that it holds. -/
theorem zoneView_state : (zoneView z s).state = (s.zone z).state := by
  unfold zoneView
  dsimp only
  split <;> rfl

theorem zoneView_wp : (zoneView z s).wp = (s.zone z).wp := by
  unfold zoneView
  dsimp only
  split <;> rfl

theorem zoneView_ready : (zoneView z s).ready = (s.zone z).ready := by
  unfold zoneView
  dsimp only
  split <;> rfl

/-- A zone that is put into a state is in it. -/
theorem zoneTo_zone (n : Nat) : (zoneTo z n s).zone z = { zoneView z s with state := n } := NMap.get_put_self ..

/-- A change of the commands that keeps what a busy zone is judged by keeps it busy. -/
theorem zoneBusy_modCmd (h : zoneBusy z s = true)
    (hf : ∀ x : NvCmd, x.zone = z → (f x).sqid = x.sqid ∧ (f x).op = x.op ∧ (f x).phase = x.phase ∧ (f x).io = x.io ∧ (f x).zone = z) :
    zoneBusy z (s.modCmd c f) = true := by
  obtain ⟨x, hx, hb⟩ := List.any_eq_true.1 h
  refine List.any_eq_true.2 ⟨_, List.mem_map.2 ⟨x, hx, rfl⟩, ?_⟩
  split
  · obtain ⟨hz, -⟩ : x.zone = z ∧ True := by simp only [Bool.and_eq_true, beq_iff_eq] at hb; exact ⟨hb.1.2, trivial⟩
    obtain ⟨h1, h2, h3, h4, h5⟩ := hf x hz
    simp only [accepted, pastCommit, isWrite, cmdEnd, cmdOff, h1, h2, h3, h4, h5] at hb ⊢
    rw [hz] at hb
    exact hb
  · exact hb

/-- The end of a zone's rows is not before its write pointer. -/
theorem wp_le_rowEnd : (s.zone z).wp ≤ rowEnd z s := by
  have hfold : ∀ {α : Type} (l : List α) (p : α → Prop) [DecidablePred p] (g : α → Nat) (a : Nat),
      a ≤ l.foldl (fun n r => if p r then Nat.max n (g r) else n) a := fun l p _ g => by
    induction l with
    | nil => exact fun a => le_rfl
    | cons r l ih =>
      intro a
      refine le_trans ?_ (ih _)
      dsimp only
      split
      · exact Nat.le_max_left ..
      · exact le_rfl
  exact le_trans (hfold s.rows (fun r => r.zone = z ∧ r.submitted) _ _) (hfold s.shelf (fun r => r.zone = z) _ _)

/-- A zone whose accepted blocks are all on media needs no frontier frame. -/
theorem tryFrontier_none (h : (s.zone z).ready ≤ (s.zone z).wp) : tryFrontier z s = s := by
  have hle := le_trans h (wp_le_rowEnd (z := z))
  rw [tryFrontier]
  split
  · rw [shelfFrontier]
    exact if_pos (by simp [hle])
  · exact if_neg (by simp; omega)

end

/-! ## Write, append and read (R447, R455, R457, R465) -/

section
variable {s : State} {c : NvCmd} {a : IoArgs} {pi : PiCheck} {sqid op : Nat} {cid : BitVec 16} {f : NvCmd → State → State}

/-- An I/O command that has been fetched runs with its operands. -/
theorem withIo_of (hs : a.sqid = sqid) (hi : a.cid = cid) (h : cmdOf sqid cid s = some c) (ho : c.op = op) (hp : c.phase = .fetched) :
    withIo a op pi f s = f { c with io := a, pi := pi } (s.modCmd c fun x => { x with io := a, pi := pi }) := by
  rw [withIo, hs, hi]
  exact withCmd_of h ho hp

variable {g : NvCmd → NvCmd}

theorem startWrite_long (h : 256 < c.io.nlb) : startWrite c s = finish c .invalidField s := if_pos h

/-- A write or append that no check refuses moves its zone's accept pointer. -/
theorem startWrite_of {start : Nat} (hstart : (if (c.op == 0x7D) = true then (zoneView (zoneOf c.io.slba s) s).accept else c.io.slba % zsze s) = start)
    (hn : c.io.nlb ≤ 256) (hz : c.io.slba + c.io.nlb ≤ nsze s)
    (hp : c.op ≠ 0x7D → c.io.prchk.getLsbD 0 = false ∨ c.io.ilbrt.toNat = c.io.slba % 2 ^ 48)
    (hr : c.op = 0x7D → c.io.pract = true ∨ c.io.piremap = true)
    (hs : writeStatus (c.op == 0x7D) (zoneOf c.io.slba s) start c.io.nlb c.io.slba s = .success) :
    ((startWrite c s).zone (zoneOf c.io.slba s)).accept = start + c.io.nlb := by
  rw [startWrite]
  dsimp only
  rw [hstart, if_neg (Nat.not_lt.2 hn), if_neg (Nat.not_lt.2 hz), if_neg, if_neg, hs]
  · dsimp only
    exact congrArg Zone.accept (NMap.get_put_self ..)
  · intro h
    simp only [Bool.and_eq_true, beq_iff_eq, Bool.not_eq_true'] at h
    obtain ⟨⟨h1, h2⟩, h3⟩ := h
    rcases hr h1 with h | h <;> simp_all
  · intro h
    simp only [Bool.and_eq_true, Bool.not_eq_true', beq_eq_false_iff_ne, ne_eq, decide_eq_true_eq] at h
    obtain ⟨⟨h1, h2⟩, h3⟩ := h
    rcases hp h1 with h | h
    · simp_all
    · exact h3 h

theorem beginWrite_of (h : mediaHold true (zonesOf c.io.slba c.io.nlb s) s = false) : beginWrite c s = startWrite c s := by
  rw [beginWrite, h, if_neg (by decide)]

theorem beginRead_of (h : mediaHold false (zonesOf c.io.slba c.io.nlb s) s = false) : beginRead c s = startRead c s := by
  rw [beginRead, h, if_neg (by decide)]

theorem startRead_long (h : 256 < c.io.nlb) : startRead c s = finish c .invalidField s := if_pos h

theorem startRead_beyond (hn : c.io.nlb ≤ 256) (h : nsze s < c.io.slba + c.io.nlb) : startRead c s = finish c .lbaOutOfRange s := by
  rw [startRead]
  dsimp only
  rw [if_neg (Nat.not_lt.2 hn), if_pos h]

theorem startRead_of (hn : c.io.nlb ≤ 256) (h : c.io.slba + c.io.nlb ≤ nsze s)
    (hp : c.io.prchk.getLsbD 0 = false ∨ c.io.ilbrt.toNat = c.io.slba % 2 ^ 48) : ∃ u,
    startRead c s = readZones c (zonesOf c.io.slba c.io.nlb s) u := by
  refine ⟨s.modCmd c fun x => { x with phase := .media, zone := zoneOf c.io.slba s, mtags := [] }, ?_⟩
  rw [startRead]
  dsimp only
  rw [if_neg (Nat.not_lt.2 hn), if_neg (Nat.not_lt.2 h), if_neg]
  · rfl
  · rcases hp with h | h
    · rw [h]; simp
    · simp [h]

end

/-! ## Zone actions (R460, R461, R474, R475) -/

section
variable {s : State} {c : NvCmd} {z act : Nat}

theorem startAct_offline (h : c.act = 5) : startAct c s = finish c .invalidZoneTransition s := by
  rw [startAct]
  exact if_pos h

section
variable (hall : c.all = false) (hz : c.zone < zoneTotal s)
include hall hz

/-- An action that its zone's state does not permit. -/
theorem startAct_refused (h : actStatus c.act (s.zone c.zone).state ≠ .success) : startAct c s = finish c .invalidZoneTransition s := by
  rw [startAct, hall]
  split
  · rfl
  · rw [if_neg (by simp [hz]), if_pos (by simp [h])]

variable (h5 : c.act ≠ 5) (hst : actStatus c.act (s.zone c.zone).state = .success)
include h5 hst

/-- One at a zone that is being resynchronised, or during an activation, is held. -/
theorem startAct_held (h : s.on NVQ_STS_ACTIVATING 0 = true ∨ s.acd.resync.contains c.zone = true) :
    startAct c s = holdCmd { c with mtags := [c.zone] } s := by
  rw [startAct, hall]
  simp only [Bool.false_eq_true, if_false]
  rw [if_neg h5, if_neg (by simp [hz]), if_neg (by simp [hst]), if_pos]
  rcases h with h | h <;> simp_all

/-- Another one goes on. -/
theorem startAct_of (ha : s.on NVQ_STS_ACTIVATING 0 = false) (hr : s.acd.resync.contains c.zone = false)
    (hm : actNeedsMedia c.act [c.zone] s = false) (ho : c.act = 3 → openStatus [c.zone] s = .success) :
    startAct c s = actStep { c with mtags := [c.zone] } s := by
  rw [startAct, hall]
  simp only [Bool.false_eq_true, if_false]
  rw [if_neg h5, if_neg (by simp [hz]), if_neg (by simp [hst]), if_neg, if_neg]
  · exact fun h => h.2 (ho h.1)
  · simp only [Bool.not_eq_true] at hr ⊢
    simp_all

end

/-- An action at one zone that is done there. -/
theorem actStep_done {u : State} (h : actZone c.act z s = (u, true)) : actStep { c with mtags := [z] } s = finish c .success u := by
  rw [actStep]
  simp only [List.foldl_cons, List.foldl_nil, h, if_true, List.isEmpty_nil]
  rfl

/-- One that is not done there goes on later. -/
theorem actStep_waits {u : State} (h : actZone c.act z s = (u, false)) :
    actStep { c with mtags := [z] } s = u.modCmd { c with mtags := [z] } fun x => { x with phase := .zone, mtags := [z] } := by
  rw [actStep]
  simp only [List.foldl_cons, List.foldl_nil, h, Bool.false_eq_true, if_false, List.nil_append]
  rfl

/-- An open zone that has been opened implicitly meets no limit. -/
theorem openStatus_open (h : (s.zone z).state = 1) : openStatus [z] s = .success := by
  simp [openStatus, h]

theorem actNeedsMedia_done (h : (s.zone z).ready ≤ (s.zone z).wp) : actNeedsMedia act [z] s = false := by
  simp [actNeedsMedia, h]

theorem actNeedsMedia_other (h1 : act ≠ 1) (h2 : act ≠ 2) (l : List Nat) : actNeedsMedia act l s = false := by
  simp [actNeedsMedia, h1, h2]

/-- A hold changes no zone. -/
theorem holdCmd_zones : (holdCmd c s).zones = s.zones := by
  unfold holdCmd
  dsimp only
  split
  · rfl
  · split <;> rfl

theorem actStatus_finish {st : Nat} (h : st ≤ 3) : actStatus 2 st = .success := by simp [actStatus, Nat.le_succ_of_le h]

theorem actStatus_reset {st : Nat} (h : st ≤ 4) : actStatus 4 st = .success := by simp [actStatus, h]

/-! ### What an action does at a zone -/

theorem actZone_open (h : (s.zone z).state = 1) : actZone 3 z s = (zoneTo z 2 s, true) := by
  rw [actZone]
  dsimp only
  rw [zoneView_state, h, if_neg (by decide), if_neg (by decide), if_pos rfl, if_neg (by decide)]

theorem actZone_closed (h : (s.zone z).state = 3) : actZone 1 z s = (s, true) := by
  rw [actZone]
  dsimp only
  rw [zoneView_state, h, if_pos rfl, if_pos rfl]

theorem actZone_close (h : (s.zone z).state = 1 ∨ (s.zone z).state = 2) (hw : (s.zone z).ready ≤ (s.zone z).wp) :
    actZone 1 z s = (dropRa (· == z) (zoneTo z 3 (tryFrontier z s)), true) := by
  rw [actZone]
  dsimp only
  rw [zoneView_state, zoneView_ready, zoneView_wp, if_pos rfl, if_neg (by omega), if_pos hw]

theorem actZone_full (h : (s.zone z).state = 4) : actZone 2 z s = (s, true) := by
  rw [actZone]
  dsimp only
  rw [zoneView_state, h, if_neg (by decide), if_pos rfl, if_pos rfl]

theorem actZone_finish (h : (s.zone z).state ≤ 3) (hw : (s.zone z).ready ≤ (s.zone z).wp) (hb : zoneBusy z s = false)
    (he : rowEnd z s ≤ (s.zone z).wp) : actZone 2 z s = (finishZone z s, true) := by
  rw [actZone]
  dsimp only
  rw [zoneView_state, if_neg (by decide), if_pos rfl, if_neg (by omega), tryFrontier_none hw, hb, if_neg]
  simp [he]

theorem actZone_reset (hb : zoneBusy z s = false) (he : rowEnd z s ≤ (s.zone z).wp) : actZone 4 z s = (resetZone z s, true) := by
  rw [actZone]
  dsimp only
  rw [zoneView_wp, hb, if_neg (by decide), if_neg (by decide), if_neg (by decide), if_neg]
  simp [he]

theorem actZone_busy (hb : zoneBusy z s = true) : actZone 4 z s = (s, false) := by
  rw [actZone]
  dsimp only
  rw [hb, if_neg (by decide), if_neg (by decide), if_neg (by decide), if_pos (by simp)]

/-- A zone that is finished, and one that is reset. -/
theorem finishZone_of : ∃ u, finishZone z s = startCheckpoint (zoneTo z 4 u) := ⟨_, rfl⟩

theorem resetZone_setZone : ∃ (u : State) (g : Nat), resetZone z s = zoneTo z 0 (u.setZone z { Zone.fresh with gen := g }) := ⟨_, _, rfl⟩

theorem resetZone_of : ∃ u : State, resetZone z s = zoneTo z 0 u ∧ (u.zone z).wp = 0 := by
  obtain ⟨u, g, hu⟩ := resetZone_setZone (z := z) (s := s)
  refine ⟨_, hu, ?_⟩
  rw [State.zone, State.setZone, NMap.get_put_self]
  rfl

end

/-! ## Reports and waiting (R462, R476) -/

section
variable {s : State} {c : NvCmd} {z opt max : Nat} {part : Bool}

theorem reportZonesCmd_waits {ext : Bool} (h : s.on NVQ_STS_ACTIVATING 0 = true) : reportZonesCmd z opt part ext max c s = s := if_pos h

theorem reportZonesCmd_extended (h : s.on NVQ_STS_ACTIVATING 0 = false) : reportZonesCmd z opt part true max c s = finish c .invalidField s := by
  rw [reportZonesCmd, h, if_neg (by decide), if_pos (by simp)]

theorem reportZonesCmd_beyond (h : s.on NVQ_STS_ACTIVATING 0 = false) (ho : opt ≤ 7) (hz : zoneTotal s ≤ z) :
    reportZonesCmd z opt part false max c s = finish c .lbaOutOfRange s := by
  rw [reportZonesCmd, h, if_neg (by decide), if_neg (by simp [ho]), if_pos hz]

theorem reportZonesCmd_of (h : s.on NVQ_STS_ACTIVATING 0 = false) (ho : opt ≤ 7) (hz : z < zoneTotal s) :
    ∃ l, reportZonesCmd z opt part false max c s = completeWith [.hostData c.sqid c.cid l] c.sqid c.cid .success [] s := by
  rw [reportZonesCmd, h, if_neg (by decide), if_neg (by simp [ho]), if_neg (Nat.not_le.2 hz)]
  exact ⟨_, rfl⟩

end

section
variable {s : State} {c : NvCmd} {sqid : Nat} {cid : BitVec 16}

theorem spinWaitExpiry_idle (h : cmdOf sqid cid s = some c) (hp : c.phase ≠ .held) : spinWaitExpiry sqid cid s = s := by
  rw [spinWaitExpiry, h]
  exact if_neg (by simp [hp])

theorem spinWaitExpiry_held (h : cmdOf sqid cid s = some c) (hp : c.phase = .held)
    (hw : s.on NVQ_STS_ACTIVATING 0 = false ∨ mediaUp s = false) :
    spinWaitExpiry sqid cid s = finish c .namespaceNotReady (pulse 257 0xFF (s.bump NVQ_CNT_NNR 0)) := by
  rw [spinWaitExpiry, h]
  refine if_pos ?_
  rcases hw with h | h <;> simp [hp, h]

theorem spinWaitExpiry_activating (ha : s.on NVQ_STS_ACTIVATING 0 = true) (hm : mediaUp s = true) : spinWaitExpiry sqid cid s = s := by
  rw [spinWaitExpiry]
  split
  · exact if_neg (by simp [ha, hm])
  · rfl

/-- A command that is found by its queue and identifier has them. -/
theorem cmdOf_ids (h : cmdOf sqid cid s = some c) : c.sqid = sqid ∧ c.cid = cid.toNat := by
  simpa [Bool.and_eq_true] using List.find?_some h

variable {act z : Nat} {all : Bool}

/-- The command of a zone action, with its operands. -/
def actCmd (c : NvCmd) (act z : Nat) (all : Bool) : NvCmd := { c with act := act, zone := z, all := all }

theorem zoneSend_of (h : cmdOf sqid cid s = some c) (ho : c.op = 0x79) (hp : c.phase = .fetched) :
    zoneSend sqid cid act z all s = startAct (actCmd c act z all) (s.modCmd c fun x => actCmd x act z all) := withCmd_of h ho hp

section
variable (hc : cmdOf sqid cid s = some c) (ho : c.op = 0x79) (hp : c.phase = .fetched) (hz : z < zoneTotal s) (h5 : act ≠ 5)
  (hst : actStatus act (s.zone z).state = .success) (ha : s.on NVQ_STS_ACTIVATING 0 = false) (hr : s.acd.resync.contains z = false)
  (hm : actNeedsMedia act [z] s = false) (hopen : act = 3 → openStatus [z] s = .success) {u : State}
include hc ho hp hz h5 hst ha hr hm hopen

/-- An action at one zone that is done there at once. -/
theorem zoneSend_done (h : actZone act z (s.modCmd c fun x => actCmd x act z false) = (u, true)) :
    zoneSend sqid cid act z false s = finish c .success u := by
  rw [zoneSend_of hc ho hp]
  exact (startAct_of (s := s.modCmd c fun x => actCmd x act z false) (c := actCmd c act z false) rfl hz h5 hst ha hr hm
    hopen).trans (actStep_done h)

/-- One that waits for what the zone has under way. -/
theorem zoneSend_waits (h : actZone act z (s.modCmd c fun x => actCmd x act z false) = (u, false)) :
    zoneSend sqid cid act z false s = u.modCmd c fun x => { x with phase := .zone, mtags := [z] } := by
  rw [zoneSend_of hc ho hp]
  exact (startAct_of (s := s.modCmd c fun x => actCmd x act z false) (c := actCmd c act z false) rfl hz h5 hst ha hr hm
    hopen).trans (actStep_waits h)

end

end

/-- Settles O52: each command by the lemma of its case. -/
theorem ioCommands : Obligations.IoCommands := by
  unfold Obligations.IoCommands
  intro s sqid cid c hr hc hp
  obtain ⟨hsq, hcid⟩ := cmdOf_ids hc
  refine ⟨fun ho h => ?_, fun ho h => ?_, fun h => ?_, fun a pi hs hi ho h => ⟨fun hn => ?_, fun hn hz hpr hst => ?_⟩, fun a pi hs hi ho h hn hz hpr hst => ?_,
    fun a pi hs hi ho h => ⟨fun hn hz => ?_, fun hn => ?_, fun hn hz hpr => ?_⟩,
    fun ho => ⟨fun z => ?_, fun z => ?_, fun z hz ha hst => ?_, fun ha => ⟨fun z hz hrs hst => ?_, fun z hz hrs hst hw => ?_, fun z hz hrs hst hw => ?_,
      fun z hz hrs hst hw => ?_, fun z t ht hz hrs hst hw hb he => ?_, fun z t ht hz hrs hst hb he => ?_, fun z hz hrs hst => ?_, fun z hz hst hb => ?_,
      fun z hz hst => ?_⟩⟩,
    fun z opt part max ho => ⟨fun ha => ?_, fun ha => ?_, fun ha hopt hz => ?_, fun ha hopt hz => ?_⟩, ?_, fun t d hrt hd hdp hw => ?_, fun t hrt ha hm => ?_,
    fun z => ?_⟩
  · rw [exec_flush, execFlush]
    exact done_onMedia hr ((withCmd_of hc ho hp).trans (by rw [beginFlush, h, if_pos rfl]))
  · rw [exec_flush, execFlush]
    exact done_onMedia hr ((withCmd_of hc ho hp).trans (by rw [beginFlush, h, if_neg (by decide)]; rfl))
  · rw [placeFrontiers, h, List.foldl_nil]
  · rw [exec_write, execWrite]
    exact ⟨_, done_onMedia hr ((withIo_of hs hi hc ho hp).trans ((beginWrite_of h).trans (startWrite_long hn)))⟩
  · rw [exec_write, execWrite]
    refine ⟨_, done_onMedia hr ((withIo_of hs hi hc ho hp).trans (beginWrite_of h)), startWrite_of ?_ hn hz (fun _ => hpr) (fun h => ?_) ?_⟩
    · rw [if_neg (by simp [ho])]
      rfl
    · rw [ho] at h; cases h
    · rw [show (c.op == 0x7D) = false by simp [ho], writeStatus_modCmd]
      exact hst
  · rw [exec_zoneAppend, execZoneAppend]
    refine ⟨_, done_onMedia hr ((withIo_of hs hi hc ho hp).trans (beginWrite_of h)), startWrite_of ?_ hn hz (fun h => absurd ho h) (fun _ => hpr) ?_⟩
    · rw [if_pos (by simp [ho]), zoneView_modCmd]
      rfl
    · rw [show (c.op == 0x7D) = true by simp [ho], writeStatus_modCmd]
      exact hst
  · rw [exec_read, execRead]
    exact ⟨_, done_onMedia hr ((withIo_of hs hi hc ho hp).trans ((beginRead_of h).trans (startRead_beyond hn hz)))⟩
  · rw [exec_read, execRead]
    exact ⟨_, done_onMedia hr ((withIo_of hs hi hc ho hp).trans ((beginRead_of h).trans (startRead_long hn)))⟩
  · rw [exec_read, execRead]
    obtain ⟨u, hu⟩ := startRead_of (s := s.modCmd c fun x => { x with io := a, pi := pi }) (c := { c with io := a, pi := pi }) hn hz hpr
    exact ⟨u, done_onMedia hr ((withIo_of hs hi hc ho hp).trans ((beginRead_of h).trans hu))⟩
  · rw [exec_setZoneDescriptorExtension, execSetZoneDescriptorExtension]
    exact done_onMedia hr (withCmd_of hc ho hp)
  · rw [exec_zoneOffline, execZoneOffline]
    exact ⟨_, done_onMedia hr ((zoneSend_of hc ho hp).trans (startAct_offline rfl))⟩
  · rw [exec_zoneReset, execZoneReset]
    exact ⟨_, _, done_onMedia hr ((zoneSend_of hc ho hp).trans (startAct_held rfl hz (show 4 ≠ 5 by decide) (actStatus_reset hst) (.inl ha))),
      hsq, hcid, rfl⟩
  · rw [exec_zoneOpen, execZoneOpen]
    refine ⟨_, done_onMedia hr (zoneSend_done hc ho hp hz (by decide) (by rw [hst]; rfl) ha hrs (actNeedsMedia_other (by decide) (by decide) _)
      (fun _ => openStatus_open hst) (actZone_open hst)), ?_⟩
    rw [zoneTo_zone]
  · rw [exec_zoneClose, execZoneClose]
    exact ⟨_, done_onMedia hr (zoneSend_done hc ho hp hz (by decide) (by rw [hst]; rfl) ha hrs (actNeedsMedia_done hw) (fun h => by cases h)
      (actZone_closed hst)), rfl⟩
  · rw [exec_zoneFinish, execZoneFinish]
    exact ⟨_, done_onMedia hr (zoneSend_done hc ho hp hz (by decide) (by rw [hst]; rfl) ha hrs (actNeedsMedia_done hw) (fun h => by cases h)
      (actZone_full hst)), rfl⟩
  · rw [exec_zoneClose, execZoneClose]
    refine ⟨_, done_onMedia hr (zoneSend_done hc ho hp hz (by decide) (by rcases hst with h | h <;> rw [h] <;> rfl) ha hrs (actNeedsMedia_done hw)
      (fun h => by cases h) (actZone_close hst hw)), ?_⟩
    rw [zoneTo_zone]
  · rw [exec_zoneFinish, execZoneFinish]
    rw [ht] at hb
    obtain ⟨u, hu⟩ := finishZone_of (s := s.modCmd c fun x => actCmd x 2 z false) (z := z)
    refine ⟨u, done_onMedia hr (zoneSend_done hc ho hp hz (by decide) (actStatus_finish hst) ha hrs (actNeedsMedia_done hw) (fun h => by cases h)
      ((actZone_finish (s := s.modCmd c fun x => actCmd x 2 z false) hst hw hb he).trans (congrArg (·, true) hu))), ?_⟩
    rw [zoneTo_zone]
  · rw [exec_zoneReset, execZoneReset]
    rw [ht] at hb
    obtain ⟨u, hu, hwp⟩ := resetZone_of (s := s.modCmd c fun x => actCmd x 4 z false) (z := z)
    refine ⟨u, done_onMedia hr (zoneSend_done hc ho hp hz (by decide) (actStatus_reset hst) ha hrs (actNeedsMedia_other (by decide) (by decide) _)
      (fun h => by cases h) ((actZone_reset (s := s.modCmd c fun x => actCmd x 4 z false) hb he).trans (congrArg (·, true) hu))), ?_, ?_⟩
    · rw [zoneTo_zone]
    · rw [zoneTo_zone]
      exact zoneView_wp.trans hwp
  · rw [exec_zoneReset, execZoneReset]
    exact ⟨_, _, done_onMedia hr ((zoneSend_of hc ho hp).trans (startAct_held rfl hz (show 4 ≠ 5 by decide) (actStatus_reset hst) (.inr hrs))),
      hsq, hcid, rfl⟩
  · rw [exec_zoneReset, execZoneReset]
    obtain hrs | hrs := Bool.eq_false_or_eq_true (s.acd.resync.contains z)
    · exact ⟨_, done_onMedia hr ((zoneSend_of hc ho hp).trans (startAct_held rfl hz (show 4 ≠ 5 by decide) (actStatus_reset hst) (.inr hrs))),
        holdCmd_zones⟩
    · exact ⟨_, done_onMedia hr (zoneSend_waits hc ho hp hz (by decide) (actStatus_reset hst) ha hrs (actNeedsMedia_other (by decide) (by decide) _)
        (fun h => by cases h) (actZone_busy (zoneBusy_modCmd hb fun x hx => ⟨rfl, rfl, rfl, rfl, rfl⟩))), rfl⟩
  · rw [exec_zoneReset, execZoneReset]
    exact ⟨_, done_onMedia hr ((zoneSend_of hc ho hp).trans (startAct_refused rfl hz (by
      rw [show ((s.modCmd c fun x => actCmd x 4 z false).zone (actCmd c 4 z false).zone).state = 6 from hst]; exact (by decide : actStatus 4 6 ≠ .success)))), rfl⟩
  · rw [exec_reportZones, execReportZones]
    exact done_onMedia hr ((withCmd_of hc ho hp).trans (reportZonesCmd_waits ha))
  · rw [exec_reportZones, execReportZones]
    exact done_onMedia hr ((withCmd_of hc ho hp).trans (reportZonesCmd_extended ha))
  · rw [exec_reportZones, execReportZones]
    exact done_onMedia hr ((withCmd_of hc ho hp).trans (reportZonesCmd_beyond ha hopt hz))
  · rw [exec_reportZones, execReportZones]
    obtain ⟨l, hl⟩ := reportZonesCmd_of (part := part) (max := max) (c := c) ha hopt hz
    exact ⟨l, done_onMedia hr ((withCmd_of hc ho hp).trans hl)⟩
  · rw [exec_spinWaitExpiry, execSpinWaitExpiry]
    exact done_onMedia hr (spinWaitExpiry_idle hc (by rw [hp]; decide))
  · rw [exec_spinWaitExpiry, execSpinWaitExpiry]
    exact done_onMedia hrt (spinWaitExpiry_held hd hdp hw)
  · rw [exec_spinWaitExpiry, execSpinWaitExpiry]
    exact done_onMedia hrt (spinWaitExpiry_activating ha hm)
  · rw [exec_frontierWaitExpiry, execFrontierWaitExpiry]
    exact done_onMedia hr rfl

end Sys2Proof.Machine
end

section
/-! PROOFS. The PCIe endpoint (spec/10). -/

namespace Sys2Proof.Machine

set_option Elab.async false

/-! ## The register file with a block at reset -/

/-- A field that is dropped reads its reset value, and the others as before. -/
theorem get_drop (r : RegFile) (p : Nat → Bool) (f : Field) (i : Nat) :
    (r.drop p).get f i = if p f.id then f.rst i % 2 ^ f.width else r.get f i := by
  have hlook : ∀ d : Nat, RegFile.lookup d (r.drop p) f.id i = if p f.id then d else RegFile.lookup d r f.id i := fun d => by
    induction r with
    | nil => simp [RegFile.drop, RegFile.lookup]
    | cons e t ih =>
      obtain ⟨⟨x, j⟩, v⟩ := e
      have hcons : RegFile.drop (((x, j), v) :: t) p = if p x then RegFile.drop t p else ((x, j), v) :: RegFile.drop t p := by
        cases hp : p x <;> simp [RegFile.drop, hp]
      rw [hcons]
      by_cases hx : x = f.id
      · subst hx
        cases hp : p f.id <;> simp_all [RegFile.lookup]
      · cases hp : p x <;> simp_all [RegFile.lookup]
  exact hlook _

/-! ## What an uncorrectable error leaves alone (R507, R520) -/

section
variable {s : State}

theorem errorMessage_tags (k : Nat) : (errorMessage k s).tags = s.tags ∧ (errorMessage k s).quar = s.quar := by
  unfold errorMessage
  dsimp only
  split
  · split <;> split <;> exact ⟨rfl, rfl⟩
  · exact ⟨rfl, rfl⟩

theorem aerCorrectable_tags (b : Nat) : (aerCorrectable b s).tags = s.tags ∧ (aerCorrectable b s).quar = s.quar := by
  unfold aerCorrectable
  dsimp only
  split
  · exact ⟨rfl, rfl⟩
  · exact errorMessage_tags (s := s.setBit CFG_CES 0 b true) 0

theorem logHeader_tags (b : Nat) : (logHeader b s).tags = s.tags ∧ (logHeader b s).quar = s.quar := by
  unfold logHeader
  split <;> exact ⟨rfl, rfl⟩

theorem aerUncorrectable_tags (b : Nat) (a : Bool) : (aerUncorrectable b a s).tags = s.tags ∧ (aerUncorrectable b a s).quar = s.quar := by
  have hlog : ((logHeader b s).setBit CFG_UES 0 b true).tags = s.tags ∧ ((logHeader b s).setBit CFG_UES 0 b true).quar = s.quar := logHeader_tags b
  unfold aerUncorrectable
  dsimp only
  generalize (logHeader b s).setBit CFG_UES 0 b true = t at hlog
  split
  · exact hlog
  · split
    · rw [(errorMessage_tags 2).1, (errorMessage_tags 2).2]; exact hlog
    · split
      · rw [(aerCorrectable_tags 13).1, (aerCorrectable_tags 13).2]; exact hlog
      · rw [(errorMessage_tags 1).1, (errorMessage_tags 1).2]; exact hlog

end
/-! ## The link (R514, R518, R519, R526, R527) -/

section
variable {s : State}

theorem dataLinkUp_of {sp w : Nat} {rev : Bool} (h : s.on PAD_PERST 0 = false) :
    (dataLinkUp sp w rev s).on PCI_STS_DL_UP 0 = true ∧
    (dataLinkUp sp w rev s).get PCI_STS_SPEED 0 = Nat.min sp (s.get PCI_CFG_MAXSPD 0) % 2 ^ PCI_STS_SPEED.width ∧
    (dataLinkUp sp w rev s).get PCI_STS_WIDTH 0 = Nat.min w (s.get PCI_CFG_MAXW 0) % 2 ^ PCI_STS_WIDTH.width := by
  rw [dataLinkUp, h, if_neg (by decide)]
  refine ⟨?_, ?_, ?_⟩ <;> simp (disch := decide +kernel) [State.on_eq]

theorem linkFalls_down : (linkFalls s).get PCI_STS_DL_UP 0 = 0 := by
  rw [linkFalls]
  simp (disch := decide +kernel)

theorem perstAssert_of : (perstAssert s).on PAD_PERST 0 = true ∧ (perstAssert s).on PCI_STS_DL_UP 0 = false := by
  have hdrop : ∀ t : State, t.get PCI_STS_DL_UP 0 = 0 →
      ({ t with regs := (t.regs.drop fun x => fieldBlk x == 92).drop perstField } : State).get PCI_STS_DL_UP 0 = 0 := fun t ht => by
    change RegFile.get _ _ _ = 0
    rw [get_drop, if_pos (by decide +kernel)]
    rfl
  have hup := hdrop (linkFalls s) linkFalls_down
  rw [perstAssert]
  generalize ({ linkFalls s with regs := ((linkFalls s).regs.drop fun x => fieldBlk x == 92).drop perstField } : State) = t at hup
  constructor <;> simp (disch := decide +kernel) [State.on_eq, showTags, showCto, hup]

theorem perstDeassert_of (h : s.on PAD_PERST 0 = true) : perstDeassert s = s.setMany 0 [(PAD_PERST, 0), (PAD_WAKE, 0)] := if_pos h

theorem pmeTurnOff_of (h : s.on PCI_STS_DL_UP 0 = true) : (pmeTurnOff s).out = s.out ++ [.pmeToAck] ∧ (pmeTurnOff s).get PCI_STS_LSTATE 0 = 5 := by
  rw [pmeTurnOff, if_pos h]
  refine ⟨rfl, ?_⟩
  simp (disch := decide +kernel)
  rfl

theorem l1Entry_of (hup : s.on PCI_STS_DL_UP 0 = true) (hl : s.is PCI_STS_LSTATE 0 0 = true) (ht : s.tags = [])
    (hc : s.bit CFG_LNKCTL 0 1 = true) (hss : s.get CFG_L1SS1 0 = 0) : (l1Entry s).get PCI_STS_LSTATE 0 = 1 := by
  have hbit (n : Nat) : s.bit CFG_L1SS1 0 n = false := by rw [State.bit_eq, hss, Nat.zero_testBit]
  rw [l1Entry]
  dsimp only
  simp only [hbit, hup, hl, ht, hc]
  rw [if_neg (by simp)]
  simp (disch := decide +kernel)

/-! ## Requests (R496, R510, R519) -/

theorem memoryRead_refused {r : MemReq} {t : State} (h : refusedRequest r true (linkAwake s) = some t) : memoryRead r s = t := by
  simp only [memoryRead, h]

theorem memoryRead_closed {r : MemReq} (h : refusedRequest r true (linkAwake s) = none) (hm : memoryOpen (linkAwake s) = false) :
    memoryRead r s = refuseRead (linkAwake s) := by
  simp only [memoryRead, h, hm, Bool.not_false, if_true]

theorem memoryRead_bar0 {r : MemReq} (h : refusedRequest r true (linkAwake s) = none) (hm : memoryOpen (linkAwake s) = true) (hb : r.bar.val = 0)
    (hf : bar0Form r = true) : memoryRead r s = (linkAwake s).emit (.cplOut 0
      ((List.range (r.len / 4)).flatMap fun i => bytesOf 4 (bar0Word (r.off + 4 * i) (linkAwake s)))) := by
  simp only [memoryRead, h, hm, hb, hf, Bool.not_true, Bool.false_eq_true, if_false]

theorem memoryWrite_refused {r : MemReq} {t : State} (h : refusedRequest r false (linkAwake s) = some t) : memoryWrite r s = t := by
  simp only [memoryWrite, h]

theorem memoryWrite_closed {r : MemReq} (h : refusedRequest r false (linkAwake s) = none) (hm : memoryOpen (linkAwake s) = false) :
    memoryWrite r s = unsupported (linkAwake s) := by
  simp only [memoryWrite, h, hm, Bool.not_false, if_true]

theorem memoryWrite_bar0 {r : MemReq} (h : refusedRequest r false (linkAwake s) = none) (hm : memoryOpen (linkAwake s) = true) (hb : r.bar.val = 0)
    (hf : bar0Form r = true) (hd : r.data.length = r.len) (he : r.ep = false) (hl : r.len = 4) :
    memoryWrite r s = bar0Write (r.off + 4 * 0) (reqWord r 0) (linkAwake s) := by
  simp only [memoryWrite, h, hm, hb, hf, hd, he, Bool.not_true, Bool.false_or, ne_eq, not_true_eq_false, decide_false, Bool.false_eq_true, if_false]
  rw [hl, forBelow_succ]
  rfl

/-- A write that does not reach the register window is settled as it is. -/
theorem memoryWriteRequest_of {r : MemReq} {t : State} (hr : reaches 10 s = true) (h4 : reachesBar4 r s = false) (ht : memoryWrite r s = t) :
    exec (.memoryWriteRequest r) s = .next (s.settled t) := by
  have hreset := reaches_inReset hr
  rw [exec_memoryWriteRequest, execMemoryWriteRequest, hreset, h4, if_neg (by decide), if_neg (by decide), ht]
  rfl

theorem reachesBar4_refused {r : MemReq} {t : State} (h : refusedRequest r false (linkAwake s) = some t) : reachesBar4 r s = false := by
  simp [reachesBar4, h]

theorem refusedRequest_malformed {r : MemReq} (read : Bool) (h : r.malformed = true) :
    refusedRequest r read s = some (aerUncorrectable 18 false s) := if_pos h

theorem refusedRequest_kind {r : MemReq} (read : Bool) (hm : r.malformed = false) (he : r.ecrcBad = false) :
    refusedRequest r read s = match r.kind with
      | .memory => none
      | .locked => some (if read then refuseRead s else unsupported s)
      | .io | .atomicOp => some (refuseRead s) := by
  simp only [refusedRequest, hm, he, Bool.false_eq_true, Bool.false_and, if_false] <;> rfl

/-! ## Tags (R503, R505, R507, R513) -/

theorem completionReceived_more {tag : Nat} {u : TagUse} (hq : (s.quar.find? fun q => q.1 == tag) = none) (ht : s.tags.find tag = some u) :
    completionReceived tag .ok false s = s := by
  simp only [completionReceived, hq, ht, Bool.not_false, if_true]

theorem completionReceived_last {tag : Nat} {u : TagUse} (hq : (s.quar.find? fun q => q.1 == tag) = none) (ht : s.tags.find tag = some u)
    (hf : s.on PCI_FRZ_FROZEN 0 = false) : completionReceived tag .ok true s = useData u (dropTag tag s) := by
  simp only [completionReceived, hq, ht, hf, Bool.not_true, Bool.false_eq_true, if_false]

theorem completionReceived_frozen {tag : Nat} {u : TagUse} (hq : (s.quar.find? fun q => q.1 == tag) = none) (ht : s.tags.find tag = some u)
    (hf : s.on PCI_FRZ_FROZEN 0 = true) : completionReceived tag .ok true s = loseToFreeze u (dropTag tag s) := by
  simp only [completionReceived, hq, ht, hf, Bool.not_true, Bool.false_eq_true, if_false, if_true]

theorem completionReceived_unexpected {tag : Nat} {st : CplStatus} {last : Bool} (hq : (s.quar.find? fun q => q.1 == tag) = none)
    (ht : s.tags.find tag = none) : completionReceived tag st last s = unexpected s := by
  simp only [completionReceived, hq, ht]

/-- A tag whose request times out is quarantined. -/
theorem completionTimeout_of {tag : Nat} {u : TagUse} (ht : s.tags.find tag = some u) (hc : s.on PCI_CTO_DIS 0 = false) :
    ∃ t : State, completionTimeout tag s = tellConsumer u (pulse 264 0xFF t) ∧ t.quar = s.quar ++ [(tag, false)] ∧ t.tags = s.tags.del tag := by
  obtain ⟨htags, hquar⟩ := aerUncorrectable_tags (s := s) 14 true
  simp only [completionTimeout, ht, hc, Bool.false_eq_true, if_false]
  refine ⟨_, rfl, ?_, ?_⟩
  · rw [← hquar]; rfl
  · rw [← htags]; rfl

theorem quarantineEnd_of {tag : Nat} : (∀ e ∈ (quarantineEnd tag s).quar, e.1 ≠ tag) ∧ (quarantineEnd tag s).tags = s.tags := by
  refine ⟨fun e he => ?_, rfl⟩
  have he : e ∈ s.quar.filter fun q => q.1 != tag := he
  simpa using (List.mem_filter.1 he).2

/-! ## Bus Master Enable, power states and the freeze (R511, R512, R515, R517, R523) -/

theorem busMasterDisable_of (h : s.on PCI_STS_BME 0 = true) :
    (busMasterDisable s).on PCI_STS_BME 0 = false ∧ (busMasterDisable s).bit CFG_CMD 0 2 = false := by
  rw [busMasterDisable, if_pos h]
  constructor
  · simp (disch := decide +kernel) [State.on_eq]
  · simp (disch := decide +kernel) [State.setBit_eq, State.bit_eq, testBit_withBit, Nat.testBit_mod_two_pow]

theorem busMasterEnable_of (h : s.on PCI_STS_BME 0 = false) : ∃ u : State, busMasterEnable true s = resumeIssue u ∧
    u.on PCI_STS_BME 0 = true ∧ u.bit CFG_CMD 0 2 = true := by
  rw [busMasterEnable, h, if_neg (by decide)]
  dsimp only
  rw [if_neg (by simp)]
  refine ⟨_, rfl, ?_, ?_⟩
  · simp (disch := decide +kernel) [State.on_eq]
  · simp (disch := decide +kernel) [State.setBit_eq, State.bit_eq, testBit_withBit, Nat.testBit_mod_two_pow]
    decide +kernel

theorem egressFreeze_of : ∃ u : State, egressFreeze s = withFollow (u, if s.on PCI_FRZ_FROZEN 0 then [] else [(267, 0xFF)]) ∧
    u.on PCI_FRZ_FROZEN 0 = true ∧ u.on PCI_STS_FROZEN 0 = true := by
  refine ⟨s.setMany 0 [(PCI_FRZ_FROZEN, 1), (PCI_STS_FROZEN, 1)], rfl, ?_, ?_⟩ <;> simp (disch := decide +kernel) [State.on_eq]

theorem freezeRelease_of (h : s.on PCI_FRZ_FROZEN 0 = true) (hb : s.on PCI_FRZ_BY_FAULT 0 = false) :
    freezeRelease s = resumeIssue (endFreeze s) := by rw [freezeRelease, h, hb]; rfl

theorem freezeRelease_fault (hb : s.on PCI_FRZ_BY_FAULT 0 = true) : freezeRelease s = s := by
  rw [freezeRelease, hb]
  exact if_neg (by simp)

end

/-- Settles O53: each command by the lemma of its case. -/
theorem endpoint : Obligations.Endpoint := by
  unfold Obligations.Endpoint
  refine ⟨fun s hi => ⟨?_, ?_⟩, fun s hr => ⟨?_, fun sp w rev h => ?_, ?_, fun h => ?_, fun r h hm => ?_, fun r h hm hb hf => ?_, fun r h hm => ?_,
    fun r h hm hb hf hd he hl => ?_, fun r => ⟨fun hk hm he read => ?_, fun hm => ⟨?_, ?_⟩, fun hk hm he => ⟨?_, ?_⟩, fun hk hm he => ⟨?_, ?_⟩⟩,
    fun r h => ?_, fun h => ⟨fun off => ?_, fun off v => ?_, ?_⟩, ⟨?_, ?_⟩, fun h => ?_,
    fun tag u hq ht => ⟨?_, fun hf => ?_, fun hf => ?_, fun hc => ?_⟩, fun tag hq ht st last => ?_, fun tag => ?_, fun h => ?_, fun h b => ?_, fun h => ?_,
    ?_, fun h => ?_, fun h => ?_, ?_, fun hf hb => ?_, fun hb => ?_, fun hup hl ht hc hss => ?_, fun v => ?_, ?_, ?_⟩⟩
  · rw [exec_perstAssert, execPerstAssert, hi]
    rfl
  · rw [exec_perstDeassert, execPerstDeassert, hi]
    rfl
  · rw [exec_linkDown, execLinkDown]
    exact done_onMedia hr rfl
  · rw [exec_dataLinkUp, execDataLinkUp]
    obtain ⟨hup, hsp, hw⟩ := dataLinkUp_of (sp := sp.val) (w := w) (rev := rev) h
    exact ⟨_, done_onMedia hr rfl, hup, hsp, hw⟩
  · have hreset := reaches_inReset hr
    rw [exec_perstAssert, execPerstAssert, hreset]
    obtain ⟨hp, hd⟩ := perstAssert_of (s := s)
    exact ⟨_, done_onMedia hr rfl, hp, hd⟩
  · have hreset := reaches_inReset hr
    rw [exec_perstDeassert, execPerstDeassert, hreset]
    exact done_onMedia hr (perstDeassert_of h)
  · rw [exec_memoryReadRequest, execMemoryReadRequest]
    exact done_onMedia hr (memoryRead_closed h hm)
  · rw [exec_memoryReadRequest, execMemoryReadRequest]
    exact done_onMedia hr (memoryRead_bar0 h hm hb hf)
  · exact memoryWriteRequest_of hr (by simp [reachesBar4, hm]) (memoryWrite_closed h hm)
  · exact memoryWriteRequest_of hr (by simp [reachesBar4, hb]) (memoryWrite_bar0 h hm hb hf hd he hl)
  · rw [refusedRequest_kind read hm he, hk]
  · rw [exec_memoryReadRequest, execMemoryReadRequest]
    exact done_onMedia hr (memoryRead_refused (refusedRequest_malformed true hm))
  · have h := refusedRequest_malformed (s := linkAwake s) false hm
    exact memoryWriteRequest_of hr (reachesBar4_refused h) (memoryWrite_refused h)
  · rw [exec_memoryReadRequest, execMemoryReadRequest]
    exact done_onMedia hr (memoryRead_refused (by rw [refusedRequest_kind true hm he, hk]; rfl))
  · have h : refusedRequest r false (linkAwake s) = some (unsupported (linkAwake s)) := by rw [refusedRequest_kind false hm he, hk]; rfl
    exact memoryWriteRequest_of hr (reachesBar4_refused h) (memoryWrite_refused h)
  · rw [exec_memoryReadRequest, execMemoryReadRequest]
    exact done_onMedia hr (memoryRead_refused (by rw [refusedRequest_kind true hm he]; rcases hk with hk | hk <;> rw [hk]))
  · have h : refusedRequest r false (linkAwake s) = some (refuseRead (linkAwake s)) := by
      rw [refusedRequest_kind false hm he]; rcases hk with hk | hk <;> rw [hk]
    exact memoryWriteRequest_of hr (reachesBar4_refused h) (memoryWrite_refused h)
  · rw [exec_configRequest, execConfigRequest]
    exact done_onMedia hr (by simp only [configRequest, h, Bool.not_false, if_true])
  · rw [exec_configRequest, execConfigRequest]
    exact done_onMedia hr (by simp only [configRequest, h, Bool.not_true, Bool.false_eq_true, if_false])
  · rw [exec_configRequest, execConfigRequest]
    exact done_onMedia hr (by simp only [configRequest, h, Bool.not_true, Bool.false_eq_true, if_false])
  · rw [exec_configRequest, execConfigRequest]
    exact done_onMedia hr (by simp only [configRequest, h, Bool.not_true, Bool.false_eq_true, if_false])
  · rw [exec_messageReceived, execMessageReceived]
    exact done_onMedia hr rfl
  · rw [exec_messageReceived, execMessageReceived]
    exact done_onMedia hr rfl
  · rw [exec_pmeTurnOff, execPmeTurnOff]
    obtain ⟨ho, hl⟩ := pmeTurnOff_of h
    exact ⟨_, done_onMedia hr rfl, ho, hl⟩
  · rw [exec_completionReceived, execCompletionReceived]
    exact done_onMedia hr (completionReceived_more hq ht)
  · rw [exec_completionReceived, execCompletionReceived]
    exact done_onMedia hr (completionReceived_last hq ht hf)
  · rw [exec_completionReceived, execCompletionReceived]
    exact done_onMedia hr (completionReceived_frozen hq ht hf)
  · rw [exec_completionTimeout, execCompletionTimeout]
    obtain ⟨t, htt, hquar, htags⟩ := completionTimeout_of ht hc
    exact ⟨t, done_onMedia hr htt, hquar, htags⟩
  · rw [exec_completionReceived, execCompletionReceived]
    exact done_onMedia hr (completionReceived_unexpected hq ht)
  · rw [exec_quarantineEnd, execQuarantineEnd]
    obtain ⟨hquar, htags⟩ := quarantineEnd_of (s := s) (tag := tag.toNat)
    exact ⟨_, done_onMedia hr rfl, hquar, htags⟩
  · rw [exec_busMasterDisable, execBusMasterDisable]
    obtain ⟨hb, hc⟩ := busMasterDisable_of h
    exact ⟨_, done_onMedia hr rfl, hb, hc⟩
  · rw [exec_busMasterEnable, execBusMasterEnable]
    exact done_onMedia hr (if_pos h)
  · rw [exec_busMasterEnable, execBusMasterEnable]
    obtain ⟨u, hu, hb, hc⟩ := busMasterEnable_of h
    exact ⟨u, done_onMedia hr hu, hb, hc⟩
  · rw [exec_functionLevelReset, execFunctionLevelReset]
    exact done_onMedia hr rfl
  · rw [exec_d3hotEntry, execD3hotEntry]
    exact done_onMedia hr (by rw [d3hotEntry, h]; rfl)
  · rw [exec_d0Entry, execD0Entry]
    exact done_onMedia hr (by rw [d0Entry, h]; rfl)
  · rw [exec_egressFreeze, execEgressFreeze]
    obtain ⟨u, hu, hf, hs⟩ := egressFreeze_of (s := s)
    exact ⟨u, done_onMedia hr hu, hf, hs⟩
  · rw [exec_freezeRelease, execFreezeRelease]
    exact done_onMedia hr (freezeRelease_of hf hb)
  · rw [exec_freezeRelease, execFreezeRelease]
    exact done_onMedia hr (freezeRelease_fault hb)
  · rw [exec_l1Entry, execL1Entry]
    exact ⟨_, done_onBlock hr rfl, l1Entry_of hup hl ht hc hss⟩
  · rw [exec_msixUnmask, execMsixUnmask]
    exact done_onMedia hr rfl
  · rw [exec_linkError, execLinkError]
    exact done_onMedia hr rfl
  · rw [exec_linkError, execLinkError]
    exact done_onMedia hr rfl

end Sys2Proof.Machine
end

section
/-! PROOFS. The fault collector (spec/11): an injected source that is raised again. -/

namespace Sys2Proof.Machine

set_option Elab.async false

/-- A drive in operation whose firmware holds instance 7 of source 448 asserted by an injection (R538). -/
def injecting : State :=
  { driveUp.setMany 0 [(FLT_INJECT_SRC, 448), (FLT_INJECT_INST, 7), (FLT_INJECT_ASSERT, 1)] with live := [(448, [⟨7, true⟩])] }

/-- A real condition of an instance that an injection holds is noted for the injection's end (R538). -/
theorem raise_injected {n inst : Nat} {s : State} (hi : injected n inst s = true) (hl : ((s.liveOf n).any fun e => e.inst == inst) = true) :
    raise n inst s = s.set FLT_INJREAL 0 1 := by
  have hl' : (((s.set FLT_INJREAL 0 1).liveOf n).any fun e => e.inst == inst) = true := hl
  have ha : assertSource n inst (s.set FLT_INJREAL 0 1) = (s.set FLT_INJREAL 0 1, []) := by
    rw [assertSource, hl', Bool.or_true, if_pos rfl]
  rw [raise, hi, hl, if_pos (by decide), ha]
  rfl

/-- Refutes O54: a source that an injection holds asserted is raised again. The statement has `raise` change nothing; it notes that the
condition is real (R538), so that the source stays asserted when the injection ends. -/
theorem not_faultCollection : ¬ Obligations.FaultCollection := by
  unfold Obligations.FaultCollection
  intro h
  obtain ⟨-, hlive, -⟩ := h injecting (by decide +kernel) (by decide +kernel)
  have hsame := hlive 448 7 (by decide +kernel)
  rw [raise_injected (by decide +kernel) (by decide +kernel)] at hsame
  have hreal : (injecting.set FLT_INJREAL 0 1).get FLT_INJREAL 0 = injecting.get FLT_INJREAL 0 := congrArg (State.get · FLT_INJREAL 0) hsame
  revert hreal
  decide +kernel

end Sys2Proof.Machine
end

section
/-! PROOFS. The base-note record's dumps and its reading (spec/11). -/

namespace Sys2Proof.Machine

set_option Elab.async false

section
variable {s : State}

/-- What a command brings about ends no domain's supply and starts no reset. -/
theorem inReset_settled (t : State) (h : inReset t = false) : inReset (settle s (settleAngle t)) = false := by
  have hget (f : Field) (hf : bySettle f.id = false) : (settle s (settleAngle t)).get f 0 = t.get f 0 := by
    rw [settle_get hf, settleAngle_get hf]
  rw [← h]
  simp only [inReset, State.on_eq]
  rw [hget _ (by decide +kernel), hget _ (by decide +kernel), hget _ (by decide +kernel)]

/-- A firmware entry is made only with GO. -/
theorem firmwareEntry_idle {v : Nat} (h : v.testBit 31 = false) : firmwareEntry v s = s.set BNR_FWCTL_CODE 0 (bits v 0 9) := by
  simp only [firmwareEntry, h, Bool.not_false, if_true]

/-- The last word of an entry moves the index where AUTOINC is set. -/
theorem bnrDat7Read_of : (bnrDat7Read s).rdata = bits (s.ringBits (s.get BNR_RDIDX_INDEX 0)) 224 32 ∧
    (bnrDat7Read s).get BNR_RDIDX_INDEX 0 = (if s.on BNR_RDIDX_AUTOINC 0 then (s.get BNR_RDIDX_INDEX 0 + 1) % 2 ^ BNR_RDIDX_INDEX.width
      else s.get BNR_RDIDX_INDEX 0) := by
  unfold bnrDat7Read
  dsimp only
  split
  · exact ⟨rfl, State.get_set_self ..⟩
  · exact ⟨rfl, rfl⟩

/-- A marker is an entry: it leaves the fields alone that do not place it. -/
theorem get_enter {f : Field} {i : Nat} (hw : BNR_STS_WRAPPED.id ≠ f.id) (hh : BNR_STS_HEAD.id ≠ f.id) (hq : BNR_STS_SEQ.id ≠ f.id)
    (typ source sev inst rcnt d0 d1 : Nat) : (s.enter typ source sev inst rcnt d0 d1).get f i = s.get f i := by
  unfold State.enter
  dsimp only
  split <;> simp (disch := assumption) [State.bump_eq] <;> rfl

theorem enter_dumps (typ source sev inst rcnt d0 d1 : Nat) : (s.enter typ source sev inst rcnt d0 d1).dumps = s.dumps := by
  unfold State.enter
  dsimp only
  split <;> rfl

/-- The end of the only dump. -/
theorem dumpComplete_of {d : Dump} (hd : s.dumps = [d]) (hc : s.on BNR_CARRY 0 = false) :
    (dumpComplete s).dumps = [] ∧ (dumpComplete s).on BNR_STS_DUMPING 0 = false ∧
    (dumpComplete s).get BNR_NOR_LAST_SLOT 0 = d.slot % 2 ^ BNR_NOR_LAST_SLOT.width ∧ (dumpComplete s).get BNR_NOR_LAST_COMPLETE 0 = 1 ∧
    (dumpComplete s).get BNR_NOR_LAST_ENTRIES 0 = d.count % 2 ^ BNR_NOR_LAST_ENTRIES.width := by
  simp only [dumpComplete, hd, hc, Bool.false_eq_true, if_false, State.marker]
  refine ⟨?_, ?_, ?_, ?_, ?_⟩
  · rw [enter_dumps]; rfl
  · rw [State.on_eq, get_enter (by decide +kernel) (by decide +kernel) (by decide +kernel)]
    simp (disch := decide +kernel)
  all_goals
    rw [get_enter (by decide +kernel) (by decide +kernel) (by decide +kernel)]
    simp (disch := decide +kernel)

/-- It starts no reset. -/
theorem dumpComplete_reset {d : Dump} (hd : s.dumps = [d]) (hc : s.on BNR_CARRY 0 = false) : inReset (dumpComplete s) = inReset s := by
  simp only [dumpComplete, hd, hc, Bool.false_eq_true, if_false, State.marker, inReset, State.on_eq]
  rw [get_enter (by decide +kernel) (by decide +kernel) (by decide +kernel), get_enter (by decide +kernel) (by decide +kernel) (by decide +kernel),
    get_enter (by decide +kernel) (by decide +kernel) (by decide +kernel)]
  simp (disch := decide +kernel)
  rfl

end

/-- Settles O56: each command by the lemma of its case. -/
theorem recordDumps : Obligations.RecordDumps := by
  unfold Obligations.RecordDumps
  intro s ha hi
  have hdump (u : State) (hu : dumpComplete s = u) (hr : inReset u = false) :
      exec .dumpComplete s = .next (s.after (norFree (settle s (settleAngle u)))) := by
    have hcoll : onCollector dumpComplete s = settle s (settleAngle u) := by
      rw [onCollector, ha, if_neg (by decide), hi, if_neg (by decide), hu]
    rw [exec_dumpComplete, execDumpComplete, hcoll, inReset_settled u hr, if_neg (by decide)]
    rfl
  refine ⟨fun v hv => ?_, ?_, ?_, fun hd => ?_, fun d hd hc => ?_⟩
  · rw [exec_bnrFirmwareEntry, execBnrFirmwareEntry, hi, if_neg (by decide), firmwareEntry_idle hv]
    rfl
  · rw [exec_bnrDat7Read, execBnrDat7Read, hi, if_neg (by decide)]
    obtain ⟨hdata, hidx⟩ := bnrDat7Read_of (s := s)
    exact ⟨_, rfl, hdata, hidx⟩
  · rw [exec_bnrDump, execBnrDump, hi, if_neg (by decide), onCollector, ha, if_neg (by decide), hi, if_neg (by decide)]
    rfl
  · exact hdump s (by simp only [dumpComplete, hd]) hi
  · obtain ⟨h1, h2, h3, h4, h5⟩ := dumpComplete_of hd hc
    exact ⟨dumpComplete s, hdump _ rfl ((dumpComplete_reset hd hc).trans hi), h1, h2, h3, h4, h5⟩

end Sys2Proof.Machine
end

section
/-! PROOFS. Accesses to register space and internal memory (spec/16). -/

namespace Sys2Proof.Machine

set_option Elab.async false

/-! ## A field in the lowest word of its register (R17, R660) -/

section
variable {f : Field} {i v : Nat} {s : State}

theorem inWord_zero (hw : 0 < f.width) (hl : f.lo + f.width ≤ 32) : f.inWord 0 = true := by
  simp only [Field.inWord, Bool.and_eq_true, decide_eq_true_eq]
  omega

/-- A field takes its part of a word, whatever it held. -/
theorem splice_zero (hl : f.lo + f.width ≤ 32) (old : Nat) : f.splice 0 v old = bits v f.lo f.width := by
  have hlow : old * 2 ^ f.lo - old * 2 ^ f.lo % 2 ^ 32 = 2 ^ 32 * (old * 2 ^ f.lo / 2 ^ 32) := by
    have := Nat.div_add_mod (old * 2 ^ f.lo) (2 ^ 32)
    omega
  have hbits (j : Nat) (hj : j < f.width) : ((2 ^ 32 * (old * 2 ^ f.lo / 2 ^ 32) + v % 2 ^ 32) / 2 ^ f.lo).testBit j = (v / 2 ^ f.lo).testBit j := by
    rw [Nat.testBit_div_two_pow, Nat.testBit_div_two_pow, Nat.testBit_two_pow_mul_add _ (Nat.mod_lt _ (by decide)), if_pos (by omega),
      Nat.testBit_mod_two_pow, decide_eq_true (by omega : j + f.lo < 32), Bool.true_and]
  simp only [Field.splice, bits, Nat.mul_zero, Nat.pow_zero, Nat.mul_one, Nat.div_one, hlow]
  refine Nat.eq_of_testBit_eq fun j => ?_
  rw [Nat.testBit_mod_two_pow, Nat.testBit_mod_two_pow]
  by_cases hj : j < f.width
  · rw [hbits j hj]
  · simp [hj]

theorem testBit_ones_zero (hl : f.lo + f.width ≤ 32) {b : Nat} (hb : b < f.width) : (f.ones 0 v).testBit b = v.testBit (f.lo + b) := by
  simp only [Field.ones, Nat.mul_zero, Nat.pow_zero, Nat.mul_one, Nat.testBit_mod_two_pow, Nat.testBit_div_two_pow, hb, decide_true,
    Bool.true_and, decide_eq_true (by omega : b + f.lo < 32)]
  rw [Nat.add_comm]

theorem writeField_rw (hw : 0 < f.width) (hl : f.lo + f.width ≤ 32) (h : f.acc = .rw) :
    (writeField f i 0 v s).get f i = bits v f.lo f.width := by
  simp only [writeField, inWord_zero hw hl, h, Bool.not_true, Bool.false_eq_true, if_false, splice_zero hl, State.get_set_self]
  exact Nat.mod_mod ..

theorem writeField_w1c (hw : 0 < f.width) (hl : f.lo + f.width ≤ 32) (h : f.acc = .w1c) {b : Nat} (hb : b < f.width) :
    (writeField f i 0 v s).bit f i b = (s.bit f i b && !v.testBit (f.lo + b)) := by
  simp only [writeField, inWord_zero hw hl, h, Bool.not_true, Bool.false_eq_true, if_false, State.bit, State.get_set_self,
    Nat.testBit_mod_two_pow, hb, decide_true, Bool.true_and, testBit_sub_and, testBit_ones_zero hl hb]

theorem writeField_ro (w : Nat) (h : f.acc = .ro) : writeField f i w v s = s := by simp only [writeField, h, ite_self]

theorem writeField_rwl (w : Nat) (h : f.acc = .rwl) (hd : s.on GLB_BOOT_CFGDONE 0 = true) : writeField f i w v s = s := by
  simp only [writeField, h, hd, if_true, ite_self]

end

/-! ## Register space -/

section
variable {off a : Nat} {s : State}

theorem readReg_dark (h : poweredOff (off / 65536) s = true) : readReg off s = s.ret 0 := by simp only [readReg, h, if_true]

theorem writeReg_dark (v : Nat) (h : poweredOff (off / 65536) s = true) : writeReg off v s = s := by simp only [writeReg, h, if_true]

/-- The read without side effects returns what the register shows. -/
theorem lookReg_rdata : (lookReg off s).rdata = peekReg off s := rfl

theorem registerWrite_engine (v : Nat) (h : regOffset a = some off) (h4 : off % 4 = 0) : registerWrite .lpe a v s = writeReg off v s := by
  simp only [registerWrite, h, h4, if_true]

/-- Without the diagnostic unlock a write of the host's window is discarded and counted (R500). -/
theorem registerWrite_window (v : Nat) (h : regOffset a = some off) (h4 : off % 4 = 0) (hlt : off < 0x100000)
    (hu : s.on NVQ_UNLOCK 0 = false) : registerWrite .bar4 a v s = s.bump PCI_CNT_BAR4_BAR4 0 := by
  simp [registerWrite, h, h4, hlt, bar4Write, hu]

theorem registerRead_reg (q : Bool) (h : regOffset a = some off) (h4 : off % 4 = 0) :
    registerRead a q s = if q then lookReg off s else readReg off s := by
  simp [registerRead, h, h4]

/-- Outside register space a read is one of a memory, or is refused. -/
theorem registerRead_ram (q : Bool) (h : regOffset a = none) (hc : coreRam a = true) : registerRead a q s = s.ret (s.mem.word a 4) := by
  simp only [registerRead, h, internalRead, hc, Bool.true_or, if_true]

theorem registerRead_unmapped (q : Bool) (h : regOffset a = none) (hc : coreRam a = false) (hd : inDram a = false)
    (hb : controlStore a = false) (hf : fmtStore a = false) : registerRead a q s = (pulse 243 0xFF s).ret 0 := by
  simp [registerRead, h, internalRead, hc, hd, hb, hf, refuseAccess]

/-- A bank window lies neither in register space nor in an SRAM that the cores write. -/
theorem controlStore_apart (h : controlStore a = true) : regOffset a = none ∧ coreRam a = false := by
  simp only [controlStore, Bool.and_eq_true, decide_eq_true_eq] at h
  constructor
  · rw [regOffset, regBase, if_neg (by omega)]
  · simp only [coreRam, Bool.or_eq_false_iff, Bool.and_eq_false_iff, decide_eq_false_iff_not]
    omega

theorem registerWrite_bank (v : Nat) (ht : s.on PAD_TEST 0 = false) (hh : s.on GLB_HELD 0 = false) (h : controlStore a = true) :
    registerWrite .m0 a v s = pulse 226 0xFF s := by
  obtain ⟨hr, hc⟩ := controlStore_apart h
  have hal : coreAlive 0 s = some s := by
    rw [coreAlive, if_neg (by rw [ht]; decide), if_pos]
    exact congrArg (!·) hh
  simp [registerWrite, masterCore, hal, coreWrite, hr, hc, h]

end

/-- Settles O58: field by field in the lowest word of a register, then the paths of a read and of a write by where the address lies. -/
theorem registerAccesses : Obligations.RegisterAccesses := by
  unfold Obligations.RegisterAccesses
  intro s
  refine ⟨fun f i v hw hl => ⟨writeField_rw hw hl, fun h b hb => writeField_w1c hw hl h hb, writeField_ro 0, writeField_rwl 0⟩,
    fun off v h => ⟨readReg_dark h, writeReg_dark v h⟩, fun m a v h => ?_, fun a q h => ?_, fun m a v h => ?_,
    fun a off v h h4 => ⟨registerWrite_engine v h h4, fun hlt hu => registerWrite_window v h h4 hlt hu⟩, fun a off hr h h4 => ?_,
    fun a q hr h => ?_, fun a v ht hh h => registerWrite_bank v.toNat ht hh h⟩
  · rw [exec_registerWrite, execRegisterWrite, h, if_pos rfl]
    rfl
  · rw [exec_clearingRead, execClearingRead, h, if_pos rfl]
    rfl
  · rw [exec_registerWrite, execRegisterWrite, h, if_neg (by decide)]
    rfl
  · refine ⟨?_, lookReg_rdata, ?_⟩
    · rw [exec_clearingRead, execClearingRead, hr, if_neg (by decide), registerRead_reg _ h h4]
      rfl
    · rw [exec_clearingRead, execClearingRead, hr, if_neg (by decide), registerRead_reg _ h h4]
      rfl
  · refine ⟨fun hc => ?_, fun hc hd hb hf => ?_⟩
    · rw [exec_clearingRead, execClearingRead, hr, if_neg (by decide), registerRead_ram q h hc]
      rfl
    · rw [exec_clearingRead, execClearingRead, hr, if_neg (by decide), registerRead_unmapped q h hc hd hb hf]
      rfl

end Sys2Proof.Machine
end

section
/-! PROOFS. What an assertion of a source leaves alone beside registers (spec/11): the state without the parts that reactions touch. -/

namespace Sys2Proof.Machine

set_option Elab.async false

/-- A row with none of its frames written. -/
def RowRec.unwritten (r : RowRec) : RowRec := { r with frames := r.frames.map fun f => { f with written := false } }

/-- The state without what the reactions to a fault may change: registers, outputs and free values, the record and its dumps, link packets,
which frames of a row are written, frame jobs, completions and events, and what the loop engine holds of its contexts. -/
def State.apart (s : State) : State :=
  { s with
    regs := [], out := [], fresh := 0, ring := [], live := [], dumps := [], hlkTx := [], rows := s.rows.map RowRec.unwritten, jobs := [], acd := State.blank.acd
    cqs := [], cmds := [], cpls := [], events := [], evMask := [], errs := [], stage := [], word := [], mbox := [], sil := []
    tables := { s.tables with boxes := [] } }

/-! ## Updates -/

section
variable (s : State)

@[simp] theorem apart_set (f : Field) (i v : Nat) : (s.set f i v).apart = s.apart := by unfold State.set; rfl
@[simp] theorem apart_setI (f : Field) (i : Nat) (v : Int) : (s.setI f i v).apart = s.apart := by unfold State.setI; rfl
@[simp] theorem apart_setBit (f : Field) (i b : Nat) (v : Bool) : (s.setBit f i b v).apart = s.apart := by unfold State.setBit; rfl
@[simp] theorem apart_add (f : Field) (i n : Nat) : (s.add f i n).apart = s.apart := by unfold State.add; rfl
@[simp] theorem apart_addSat (f : Field) (i n : Nat) : (s.addSat f i n).apart = s.apart := by unfold State.addSat; rfl
@[simp] theorem apart_bump (f : Field) (i : Nat) : (s.bump f i).apart = s.apart := by unfold State.bump; rfl
@[simp] theorem apart_emit (o : Out) : (s.emit o).apart = s.apart := by unfold State.emit; rfl
@[simp] theorem apart_used : s.used.apart = s.apart := by unfold State.used; rfl
@[simp] theorem apart_setLinkQ (a : Nat) (q : List HlkReq) : (s.setLinkQ a q).apart = s.apart := by unfold State.setLinkQ; rfl
@[simp] theorem apart_setLive (n : Nat) (l : List LiveInst) : (s.setLive n l).apart = s.apart := by unfold State.setLive; rfl

@[simp] theorem apart_setMany (i : Nat) (l : List (Field × Nat)) : (s.setMany i l).apart = s.apart := by
  induction l generalizing s with
  | nil => rfl
  | cons e t ih => exact ih _

@[simp] theorem apart_foldl {α : Type} (l : List α) (f : State → α → State) (h : ∀ t x, (f t x).apart = t.apart) :
    (l.foldl f s).apart = s.apart := by
  induction l generalizing s with
  | nil => rfl
  | cons x l ih => exact (ih _).trans (h s x)

@[simp] theorem apart_forBelow (n : Nat) (f : Nat → State → State) (h : ∀ i t, (f i t).apart = t.apart) :
    (forBelow n f s).apart = s.apart := apart_foldl _ _ _ fun t i => h i t

@[simp] theorem apart_forAll {α : Type} (l : List α) (f : α → State → State) (h : ∀ x t, (f x t).apart = t.apart) :
    (forAll l f s).apart = s.apart := apart_foldl _ _ _ fun t x => h x t

@[simp] theorem apart_chain (l : List (State → State × Follow)) (h : ∀ f ∈ l, ∀ t, (f t).1.apart = t.apart) :
    (chain l s).1.apart = s.apart := by
  induction l generalizing s with
  | nil => rfl
  | cons f l ih => exact (ih _ fun g hg => h g (List.mem_cons_of_mem _ hg)).trans (h f List.mem_cons_self s)

/-- A choice between two states. -/
theorem apart_ite {c : Prop} [Decidable c] (t u : State) : (if c then t else u).apart = if c then t.apart else u.apart := apply_ite ..
theorem fst_ite {c : Prop} [Decidable c] (t u : State × Follow) : (if c then t else u).1 = if c then t.1 else u.1 := apply_ite ..

/-! ## The record, the trace units and the loop engine -/

@[simp] theorem apart_enter (typ source sev inst rcnt d0 d1 : Nat) : (s.enter typ source sev inst rcnt d0 d1).apart = s.apart := by
  unfold State.enter
  simp only [apart_bump, apart_ite, apart_set]
  exact ite_self ..

@[simp] theorem apart_enterSource (typ n inst : Nat) : (s.enterSource typ n inst).apart = s.apart := apart_enter ..

@[simp] theorem apart_capture (n inst : Nat) : (capture n inst s).apart = s.apart := by simp [capture, apart_ite]

@[simp] theorem apart_silPut (u value aux kind : Nat) : (silPut u value aux kind s).apart = s.apart := by
  rw [silPut, apart_set, apart_bump]
  rfl

@[simp] theorem apart_silTrigger (k u : Nat) : (silTrigger k u s).apart = s.apart := by
  induction k generalizing u s with
  | zero => rfl
  | succ k ih => simp [silTrigger, apart_ite, ih]

@[simp] theorem apart_silTriggerAll (trig sel : Nat) : (silTriggerAll trig sel s).apart = s.apart := by simp [silTriggerAll, apart_ite]

@[simp] theorem apart_putMail (c page w : Nat) (l : List Nat) : (putMail c page w l s).apart = s.apart := by
  induction l generalizing w s with
  | nil => rfl
  | cons v t ih => exact (ih ..).trans rfl

@[simp] theorem apart_countMerge (c : Nat) : (countMerge c s).apart = s.apart := by simp [countMerge, apart_ite]

@[simp] theorem apart_trigger (c st src : Nat) (words : List Nat) : (trigger c st src words s).apart = s.apart := by
  unfold trigger
  dsimp only
  split
  · rfl
  · split <;> simp [apart_ite]

@[simp] theorem apart_triggerSrc (src st : Nat) (words : List Nat) : (triggerSrc src st words s).apart = s.apart := by
  simp [triggerSrc, apart_ite]

@[simp] theorem apart_takeConfig (c : Nat) : (takeConfig c s).apart = s.apart := by
  unfold takeConfig
  dsimp only
  split <;> simp

@[simp] theorem apart_afterRun (c : Nat) : (afterRun c s).apart = s.apart := by simp [afterRun, showOld, apart_ite]

@[simp] theorem apart_killContext (c : Nat) : (killContext c s).apart = s.apart := by
  unfold killContext
  simp only [apart_ite, apart_afterRun, apart_setMany, apart_set]
  split
  · rfl
  · exact ite_self ..

/-! ## Completions and events of the host side -/

@[simp] theorem apart_updateInta : (updateInta s).apart = s.apart := by simp [updateInta, apart_ite]

@[simp] theorem apart_signalVector (v : Nat) : (signalVector v s).apart = s.apart := by simp [signalVector, apart_ite]

@[simp] theorem apart_postEntry (c : Cpl) : (postEntry c s).apart = s.apart := by
  unfold postEntry
  split
  · rfl
  · next q _ =>
    extract_lets bad t₁ t₂ t₃ hold q' t₄
    have h₂ : t₂.apart = s.apart := by simp [t₂, t₁, apart_ite]
    have h₃ : t₃.apart = s.apart := by
      dsimp only [t₃]
      split
      · exact Eq.trans rfl h₂
      · exact h₂
    have h₄ : t₄.apart = s.apart := Eq.trans (apart_emit _ _) h₃
    split
    · rw [apart_signalVector, h₄]
    · exact h₄

@[simp] theorem apart_drainList (l kept : List Cpl) : (drainList l kept s).apart = s.apart := by
  induction l generalizing kept s with
  | nil => rfl
  | cons c t ih =>
    rw [drainList]
    split
    · exact ih ..
    · simp [apart_ite, ih]

@[simp] theorem apart_drainCpls : (drainCpls s).apart = s.apart := by simp [drainCpls, apart_ite]

@[simp] theorem apart_completeWith (data : List Out) (sqid cid : Nat) (st : NvStatus) (dw : List Nat) :
    (completeWith data sqid cid st dw s).apart = s.apart := by
  unfold completeWith
  split
  · rfl
  · rw [apart_drainCpls]
    rfl

@[simp] theorem apart_complete (sqid cid : Nat) (st : NvStatus) (dw : List Nat) : (complete sqid cid st dw s).apart = s.apart :=
  apart_completeWith ..

@[simp] theorem apart_deliverEvents (l kept : List NvEvent) : (deliverEvents l kept s).apart = s.apart := by
  induction l generalizing kept s with
  | nil => rfl
  | cons e t ih =>
    rw [deliverEvents]
    split
    · split
      · exact ih ..
      · rw [ih, apart_complete]
        rfl
    · exact ih ..

@[simp] theorem apart_raiseEvent (e : NvEvent) : (raiseEvent e s).apart = s.apart := by simp [raiseEvent, apart_ite]

@[simp] theorem apart_errorMessage (kind : Nat) : (errorMessage kind s).apart = s.apart := by simp [errorMessage, apart_ite]

@[simp] theorem apart_aerCorrectable (b : Nat) : (aerCorrectable b s).apart = s.apart := by simp [aerCorrectable, apart_ite]

@[simp] theorem apart_logHeader (b : Nat) : (logHeader b s).apart = s.apart := by
  unfold logHeader
  split <;> rfl

@[simp] theorem apart_aerUncorrectable (b : Nat) (advisory : Bool) : (aerUncorrectable b advisory s).apart = s.apart := by
  simp [aerUncorrectable, apart_ite]

@[simp] theorem apart_pmeEvent (enabled : Bool) : (pmeEvent enabled s).apart = s.apart := by simp [pmeEvent, apart_ite]

@[simp] theorem apart_notify (n sev : Nat) : (notify n sev s).apart = s.apart := by simp [notify, apart_ite]

/-! ## The spindle and the actuators -/

@[simp] theorem apart_holdObserver : (holdObserver s).apart = s.apart := by simp [holdObserver, apart_ite]

@[simp] theorem apart_setBridge (b : Nat) : (setBridge b s).apart = s.apart := by simp [setBridge, apart_ite]

@[simp] theorem apart_spnGo (st b : Nat) : (spnGo st b s).apart = s.apart := by simp [spnGo, apart_ite]

@[simp] theorem apart_orderlyDrydown (kind : Nat) : (orderlyDrydown kind s).apart = s.apart := by simp [orderlyDrydown, apart_ite]

@[simp] theorem apart_applyTarget : (applyTarget s).apart = s.apart := by simp [applyTarget, apart_ite]

@[simp] theorem apart_parkedEnd : (parkedEnd s).apart = s.apart := by simp [parkedEnd, apart_ite]

@[simp] theorem apart_linkSend (a : Nat) (r : HlkReq) : (linkSend a r s).apart = s.apart := by simp [linkSend, apart_ite]

@[simp] theorem apart_retractDrive (a : Nat) : (retractDrive a s).apart = s.apart := by
  unfold retractDrive
  split <;> simp [vcmDrive]

@[simp] theorem apart_retract (a : Nat) : (retract a s).1.apart = s.apart := by simp [retract, fst_ite, apart_ite]

@[simp] theorem apart_retractAll : (retractAll s).1.apart = s.apart := by simp [retractAll]

@[simp] theorem apart_enterDrydown (b : Nat) : (enterDrydown b s).1.apart = s.apart := by simp [enterDrydown, drydownRequest]

@[simp] theorem apart_urgentDrydown (hiz : Bool) : (urgentDrydown hiz s).1.apart = s.apart := by
  simp [urgentDrydown, fst_ite, apart_ite]

@[simp] theorem apart_lockOut : (lockOut s).1.apart = s.apart := by simp [lockOut]

@[simp] theorem apart_overcurrentOff (fails : Bool) : (overcurrentOff fails s).apart = s.apart := by simp [overcurrentOff, apart_ite]

@[simp] theorem apart_senseLost : (senseLost s).1.apart = s.apart := by
  unfold senseLost
  split <;> simp [enterCoast]

@[simp] theorem apart_containSpindle (n : Nat) : (containSpindle n s).1.apart = s.apart := by
  unfold containSpindle
  split <;> simp [fst_ite, apart_ite]

@[simp] theorem apart_regenerate : (regenerate s).1.apart = s.apart := by simp [regenerate, apart_ite]

@[simp] theorem apart_spindleSafe (n : Nat) : (spindleSafe n s).1.apart = s.apart := by simp [spindleSafe, fst_ite, apart_ite]

/-! ## Lanes, links and members -/

@[simp] theorem apart_recheckWrite (l : Nat) : (recheckWrite l s).apart = s.apart := by simp [recheckWrite, truncate, setGate, apart_ite]

@[simp] theorem apart_recheckActuator (a : Nat) : (recheckActuator a s).apart = s.apart := by simp [recheckActuator]

@[simp] theorem apart_setWen (a m : Nat) : (setWen a m s).apart = s.apart := by simp [setWen, sendMask, apart_ite]

@[simp] theorem apart_dropWrites (x : Nat) : (dropWrites x s).apart = s.apart := by
  have hrow (p : RowFrame → Bool) (r : RowRec) :
      ({ r with frames := r.frames.map fun f => if p f then { f with written := false } else f } : RowRec).unwritten = r.unwritten := by
    have hf (f : RowFrame) : ({ (if p f then { f with written := false } else f) with written := false } : RowFrame) = { f with written := false } := by
      split <;> rfl
    simp only [RowRec.unwritten, List.map_map, Function.comp_def, hf]
  have hrows : (dropWrites x s).rows.map RowRec.unwritten = s.rows.map RowRec.unwritten := by
    rw [dropWrites, List.map_map]
    exact List.map_congr_left fun r _ => hrow (fun f => f.member == x && !f.verified) r
  have hap : (dropWrites x s).apart = { s.apart with rows := (dropWrites x s).rows.map RowRec.unwritten } := rfl
  rw [hap, hrows]
  rfl

@[simp] theorem apart_addPasses (row zone : Nat) : (addPasses row zone s).apart = s.apart := by
  have hshow (t : State) : (showPass t).apart = t.apart := by
    unfold showPass
    split <;> simp
  have hadd (lv mask r z : Nat) (t : State) : (addPass lv mask r z t).apart = t.apart := by
    unfold addPass
    split <;> simp
  simp [addPasses, hshow, hadd]

@[simp] theorem apart_replacePasses : (replacePasses s).apart = s.apart := by
  have hstop (p : Nat) (t : State) : (stopPass p t).apart = t.apart := rfl
  simp [replacePasses, hstop]

@[simp] theorem apart_memberLoss (x : Nat) : (memberLoss x s).1.apart = s.apart := by simp [memberLoss, fst_ite, apart_ite]

@[simp] theorem apart_memberStep (x : Nat) : (memberStep x s).1.apart = s.apart := by simp [memberStep, fst_ite, apart_ite]

@[simp] theorem apart_memberStates : (memberStates s).1.apart = s.apart := by
  have hstep (l : List Nat) : (chain (l.map memberStep) s).1.apart = s.apart := apart_chain _ _ <| by simp
  simp [memberStates, fst_ite, apart_ite, hstep]

@[simp] theorem apart_retractOut (a : Nat) : (retractOut a s).1.apart = s.apart := by simp [retractOut, headsOut]

@[simp] theorem apart_contain (n inst : Nat) : (contain n inst s).1.apart = s.apart := by
  simp [contain, haltDma, fst_ite, apart_ite]

/-! ## The collector -/

@[simp] theorem apart_startDump (cause limit : Nat) : (startDump cause limit s).1.apart = s.apart := by
  have hrec (t : State) (l : List Dump) (b : NMap BlackBox) :
      ({ t with dumps := l, tables := { t.tables with boxes := b } } : State).apart = t.apart := rfl
  unfold startDump
  split
  · exact apart_set ..
  · simp only [apart_setMany, hrec, apart_set, apart_setBit, State.marker, apart_enter]

@[simp] theorem apart_dumpTrigger (cause : Nat) : (dumpTrigger cause s).1.apart = s.apart := by
  unfold dumpTrigger
  split
  · exact apart_startDump ..
  · rfl
  · rfl

@[simp] theorem apart_safeReactions (n : Nat) : (safeReactions n s).1.apart = s.apart := by
  simp [safeReactions, haltDma, recheckWrites, freezeEgress, inhibitLink]

@[simp] theorem apart_safeEnter (n : Nat) : (safeEnter n s).1.apart = s.apart := by simp [safeEnter, fst_ite, apart_ite]

@[simp] theorem apart_react (entering : Bool) (n inst : Nat) : (react entering n inst s).1.apart = s.apart := by
  simp [react, fst_ite, apart_ite]

@[simp] theorem apart_updateFaultN : (updateFaultN s).apart = s.apart := rfl

@[simp] theorem apart_assertSource (n inst : Nat) : (assertSource n inst s).1.apart = s.apart := by
  simp [assertSource, fst_ite, apart_ite]

@[simp] theorem apart_deassertSource (n inst : Nat) : (deassertSource n inst s).apart = s.apart := by
  unfold deassertSource
  split
  · rfl
  · simp [apart_ite]

@[simp] theorem apart_collect (k : Nat) (q : Follow) : (collect k q s).apart = s.apart := by
  induction k generalizing q s with
  | zero => cases q <;> rfl
  | succ k ih =>
    cases q with
    | nil => rfl
    | cons e q => simp [collect, ih, apart_ite]

@[simp] theorem apart_pulse (n inst : Nat) : (pulse n inst s).apart = s.apart := apart_collect ..

@[simp] theorem apart_raise (n inst : Nat) : (raise n inst s).apart = s.apart := by simp [raise, apart_ite]

@[simp] theorem apart_lower (n inst : Nat) : (lower n inst s).apart = s.apart := by simp [lower, apart_ite]

@[simp] theorem apart_level (n inst : Nat) (c : Bool) : (level n inst c s).apart = s.apart := by simp [level, apart_ite]

@[simp] theorem apart_withFollow (r : State × Follow) : (withFollow r).apart = r.1.apart := apart_collect ..

end

end Sys2Proof.Machine
end

section
/-! PROOFS. Resets, start-up and pins (spec/12, spec/14, spec/15). -/

namespace Sys2Proof.Machine

set_option Elab.async false

section
variable {s : State} {f : Field} {i : Nat}

/-! ## Blocks in reset -/

theorem onBlock_inReset (h : inReset s = true) (blk : Nat) (g : State → State) : onBlock blk g s = s := by
  simp [onBlock, reaches, h]

theorem onMedia_inReset (h : inReset s = true) (blk : Nat) (g : State → State) : onMedia blk g s = s := by
  simp [onMedia, reaches, h]

/-! ## What a reset leaves (R565, R644, R645) -/

/-- The fields that a cold reset clears. -/
def coldGone (x : Nat) : Bool := !(fieldBlk x == 93 || (fieldBlk x == 91 && x % 2 == 1))

theorem coldClear_regs (s : State) : (coldClear s).regs = (s.regs.drop coldGone).set GLB_SVN 0 (s.get GLB_SVN 0) := by
  have hp : s.regs.drop coldGone = s.regs.filter fun e => fieldBlk e.1.1 == 93 || (fieldBlk e.1.1 == 91 && e.1.1 % 2 == 1) := by
    simp [RegFile.drop, coldGone]
  rw [hp]
  rfl

theorem coldClear_get (hs : GLB_SVN.id ≠ f.id) (i : Nat) :
    (coldClear s).get f i = if coldGone f.id then f.rst i % 2 ^ f.width else s.get f i := by
  have h : (coldClear s).get f i = ({ s with regs := s.regs.drop coldGone }.set GLB_SVN 0 (s.get GLB_SVN 0)).get f i := by
    rw [State.get, coldClear_regs]
    rfl
  rw [h, get_set_ne _ _ _ _ hs]
  exact get_drop ..

theorem coldClear_get_gone (hs : GLB_SVN.id ≠ f.id) (hg : coldGone f.id = true) (i : Nat) :
    (coldClear s).get f i = f.rst i % 2 ^ f.width := by rw [coldClear_get hs, if_pos hg]

theorem coldClear_get_pad (hs : GLB_SVN.id ≠ f.id) (hg : coldGone f.id = false) (i : Nat) : (coldClear s).get f i = s.get f i := by
  rw [coldClear_get hs, hg, if_neg (by decide)]

/-- What a reset raises anew leaves a field alone that no reaction writes. -/
theorem get_reassert (h : byRaise f.id = false) (a : Bool) (l : NMap (List LiveInst)) (t : State) :
    (reassert a l t).get f i = t.get f i := keep_reassert (closed_get h i _) a l t rfl

theorem get_reportDump (h : byRaise f.id = false) (hd : NVM_DUMPBAD.id ≠ f.id) (t : State) : (reportDump t).get f i = t.get f i := by
  unfold reportDump
  split
  · rw [get_pulse _ _ h, get_set_ne _ _ _ _ hd]
  · rfl

/-- The power-on reset without a strap for recovery boot. -/
theorem coldReset_of (cause : Nat) (role cs : Bool) : coldReset cause false role cs false s =
    reassert false s.live (reportDump (((showReset cause true (coldClear s)).marker 1).setMany 0 [(GLB_STRAP_ROLE, role.toNat),
      (GLB_STRAP_BOOTCS, cs.toNat), (GLB_STRAP_RECOV, 0), (GLB_ROLE_STRAP, role.toNat)])) := rfl

/-- PWR_GOOD_RISE: the power-on reset, with the straps and TESTEN sampled. -/
theorem pwrGoodRise_of (role cs te : Bool) (h : aonDown s = false) :
    (pwrGoodRise role cs false te s).on PAD_PWRBAD 0 = false ∧ (pwrGoodRise role cs false te s).on PAD_TEST 0 = te ∧
    (pwrGoodRise role cs false te s).get GLB_STRAP_ROLE 0 = role.toNat ∧ (pwrGoodRise role cs false te s).get GLB_STRAP_BOOTCS 0 = cs.toNat := by
  have hp : pwrGoodRise role cs false te s = (coldReset 0 false role cs false (s.set PAD_PWRBAD 0 0)).set PAD_TEST 0 te.toNat := by
    rw [pwrGoodRise, h, if_neg (by decide)]
  rw [hp, coldReset_of]
  generalize hc : showReset 0 true (coldClear (s.set PAD_PWRBAD 0 0)) = c
  have hbad : c.get PAD_PWRBAD 0 = 0 := by
    rw [← hc, showReset]
    simp (disch := decide +kernel)
    rw [coldClear_get_pad (by decide +kernel) (by decide +kernel), State.get_set_self]
    rfl
  refine ⟨?_, ?_, ?_, ?_⟩
  · simp (disch := decide +kernel) [State.on_eq, get_reassert, get_reportDump, State.marker, get_enter, hbad]
  · cases te <;> simp [State.on_eq]
    decide
  · cases role <;> simp (disch := decide +kernel) [get_reassert, get_reportDump]
  · cases cs <;> simp (disch := decide +kernel) [get_reassert, get_reportDump]

theorem pwrGoodFall_inReset (h : inReset s = false) : inReset (pwrGoodFall s) = true := by
  rw [pwrGoodFall, h, if_neg (by decide)]
  simp [inReset, State.on_eq]
  left; right
  decide

theorem resetNAssert_inReset : inReset (resetNAssert s) = true := by
  have h (t : State) : inReset (t.set PAD_RSTN 0 1) = true := by
    rw [inReset, State.on_eq, State.get_set_self]
    rfl
  rw [resetNAssert]
  split <;> exact h _

theorem resetNDeassert_of (role cs recov : Bool) (hr : s.on PAD_RSTN 0 = true) (hb : s.on PAD_PWRBAD 0 = false) (ha : aonDown s = false) :
    resetNDeassert role cs recov s = sampleStraps role cs recov (s.set PAD_RSTN 0 0) := by
  have hi : inReset (s.set PAD_RSTN 0 0) = false := by
    rw [aonDown] at ha
    rw [inReset, on_set_ne (f := PAD_RSTN) (g := PAD_PWRBAD) _ _ _ _ (by decide +kernel),
      on_set_ne (f := PAD_RSTN) (g := PAD_AONLOW) _ _ _ _ (by decide +kernel), hb, ha, State.on_eq, State.get_set_self]
    rfl
  rw [resetNDeassert, hr, hi]
  rfl

theorem rstctl_cold {v : Nat} (role cs recov : Bool) (hk : bits v 8 8 = 0x5A) (h : v.testBit 1 = true) :
    rstctl v role cs recov s = coldReset 4 true role cs recov s := by
  rw [rstctl, if_neg (by simp [hk]), if_pos h]

theorem rstctl_warm {v : Nat} (role cs recov : Bool) (hk : bits v 8 8 = 0x5A) (h0 : v.testBit 0 = true) (h1 : v.testBit 1 = false) :
    rstctl v role cs recov s = warmReset 3 role cs recov s := by
  rw [rstctl, if_neg (by simp [hk]), if_neg (by simp [h1]), if_pos h0]

theorem rstctl_key {v : Nat} (role cs recov : Bool) (hk : bits v 8 8 ≠ 0x5A) : rstctl v role cs recov s = s := if_pos hk

theorem vddAonLow_of (h : aonDown s = false) :
    aonDown (vddAonLow s) = true ∧ (vddAonLow s).mem = [] ∧ (vddAonLow s).ring = [] := by
  rw [vddAonLow, h, if_neg (by decide)]
  refine ⟨?_, rfl, rfl⟩
  rw [aonDown, State.on_eq, State.get_set_self]
  rfl

/-! ## The boot engine (R568–R577) -/

section
variable {d e : DirCopy} {slots : FlaconSlot × FlaconSlot} {areas : CfgArea × CfgArea} {k re : Bool} {nor : Nat}

theorem flaconLoadDone_none (hb : booting s = true) (hp : s.is GLB_BOOT_PHASE 0 2 = true) (hd : s.dumps = []) (hc : chooseDir d e = none) :
    flaconLoadDone d e slots areas k nor re s =
      enterRecovery 2 (pulse 272 0xFF (bootFinds (s.get NVM_ACTIVE 0) k nor re s)) := by
  rw [flaconLoadDone, hb, hp, hd, if_neg (by decide), hc]

theorem flaconLoadDone_some {a : Fin 2} {u : State} (hb : booting s = true) (hp : s.is GLB_BOOT_PHASE 0 2 = true) (hd : s.dumps = [])
    (hc : chooseDir d e = some a) (hu : chooseSlot a.val slots (bootFinds a.val k nor re s) = (u, true)) :
    flaconLoadDone d e slots areas k nor re s = loadConfig areas k u := by
  rw [flaconLoadDone, hb, hp, hd, if_neg (by decide), hc]
  dsimp only
  rw [hu, if_pos rfl]

end

/-- The active slot boots where it verifies. -/
theorem chooseSlot_active {a : Nat} {slots : FlaconSlot × FlaconSlot} (h : slotOk (if a = 0 then slots.1 else slots.2) s = true) :
    chooseSlot a slots s = (bootSlot a (if a = 0 then slots.1 else slots.2) s, true) := if_pos h

section
variable {d e : DirCopy}

theorem chooseDir_none (hd : d.ok = false) (he : e.ok = false) : chooseDir d e = none := by simp only [chooseDir, hd, he]
theorem chooseDir_first (hd : d.ok = true) (he : e.ok = false) : chooseDir d e = some d.active := by simp only [chooseDir, hd, he]
theorem chooseDir_second (hd : d.ok = false) (he : e.ok = true) : chooseDir d e = some e.active := by simp only [chooseDir, hd, he]
theorem chooseDir_both (hd : d.ok = true) (he : e.ok = true) :
    chooseDir d e = some (if d.seq.toNat < e.seq.toNat then e.active else d.active) := by simp only [chooseDir, hd, he]

end

theorem bootFinds_of (a : Nat) (k : Bool) (nor : Nat) : (bootFinds a k nor false s).on LPE_IMGSTS_CKEY 0 = k ∧
    (bootFinds a k nor false s).get GLB_NOR_SIZE0 0 = bits nor 8 8 := by
  constructor
  · rw [bootFinds, if_neg (by decide)]
    cases k <;> simp (disch := decide +kernel) [State.on_eq]
  · rw [bootFinds, if_neg (by decide)]
    simp (disch := decide +kernel)
    exact Nat.mod_mod ..

theorem bootSlot_of (a : Fin 2) (x : FlaconSlot) :
    (bootSlot a x s).on FMT_STS_STORE_OK 0 = true ∧ (bootSlot a x s).get GLB_BOOT_SLOT 0 = a + 1 := by
  rw [bootSlot]
  constructor
  · rw [State.on_eq, get_set_ne _ _ _ _ (by decide +kernel)]
    simp (disch := decide +kernel) only [State.setMany_cons, State.setMany_nil, get_set_ne]
    change (((s.set FMT_VER 0 s.free).used.set FMT_STS_STORE_OK 0 1).get FMT_STS_STORE_OK 0 != 0) = true
    rw [State.get_set_self]
    decide
  · simp (disch := decide +kernel)
    exact Nat.mod_eq_of_lt (by have := a.isLt; simp only [GLB_BOOT_SLOT]; omega)

/-- DRAM training that passes, outside recovery boot (R568 step 6). -/
theorem dramTrainingDone_of {time : Nat} (hi : inReset s = false) (ht : s.on PAD_TEST 0 = false) (hn : s.on BUF_STS_TRAINED 0 = false)
    (hp : s.is GLB_BOOT_PHASE 0 5 = true) (hr : s.on GLB_BOOT_RECOVERY 0 = false) (hc : s.is GLB_BOOT_CAUSE 0 7 = false) :
    (dramTrainingDone 0 time s).on BUF_STS_TRAINED 0 = true ∧ (dramTrainingDone 0 time s).is GLB_BOOT_PHASE 0 6 = true ∧
    (dramTrainingDone 0 time s).get GLB_BOOTTIME 0 = time % 2 ^ GLB_BOOTTIME.width := by
  cases hk : s.on BUF_STS_KEPT 0 <;>
    simp (disch := decide +kernel) [dramTrainingDone, hi, ht, hn, hp, hr, hc, hk] <;> decide

/-! ## Configuration-complete (R570, R574, R580) -/

/-- With no copy in NOR nothing is applied. -/
theorem applyNor_empty (h : s.tables.nor = []) : applyNor s = { s with tables := { s.tables with stage := 1 } } := by
  have hnone (k : TableKind) (t : State) (ht : t = { s with tables := { s.tables with stage := 1 } }) :
      newestCopy t.tables.nor (norKeys k) = none := by
    subst ht
    simp [newestCopy, h, NMap.find]
  unfold applyNor
  refine forAll_keeps _ (fun t => t = { s with tables := { s.tables with stage := 1 } }) _ _ (fun k t ht => ?_) rfl
  rw [hnone k t ht]
  exact ht

theorem checkWindows_apart (s : State) : (checkWindows s).apart = s.apart := by
  simp [checkWindows, apart_ite]

theorem checkWindows_get (h : byRaise f.id = false) (hw : PCI_WIN_EN.id ≠ f.id) (s : State) : (checkWindows s).get f i = s.get f i := by
  have hfold (l : List Nat) (t : State) : (l.foldl (fun (t : State) n => t.set PCI_WIN_EN n 0) t).get f i = t.get f i := by
    induction l generalizing t with
    | nil => rfl
    | cons x l ih => exact (ih _).trans (get_set_ne _ _ _ _ hw)
  unfold checkWindows
  dsimp only
  split
  · rfl
  · rw [get_pulse _ _ h, hfold]

/-- The first configuration-complete after core release. -/
theorem configurationComplete_of (hi : inReset s = false) (ht : s.on PAD_TEST 0 = false) (hr : s.on GLB_BOOT_RECOVERY 0 = false)
    (hc : s.on GLB_BOOT_CFGDONE 0 = false) (hp : s.is GLB_BOOT_PHASE 0 6 = true) :
    (configurationComplete s).on GLB_BOOT_CFGDONE 0 = true ∧ (configurationComplete s).is GLB_BOOT_PHASE 0 7 = true ∧
    (configurationComplete s).tables.stage = s.tables.stage := by
  rw [configurationComplete, hi, ht, hr, hc, hp, if_neg (by decide)]
  refine ⟨?_, ?_, ?_⟩
  · rw [State.on_eq, checkWindows_get (by decide +kernel) (by decide +kernel)]
    split <;> split <;> simp (disch := decide +kernel)
  · rw [State.is_eq, checkWindows_get (by decide +kernel) (by decide +kernel)]
    split <;> split <;> simp (disch := decide +kernel) <;> decide
  · refine (congrArg (fun t : State => t.tables.stage) (checkWindows_apart _)).trans ?_
    split <;> split <;> rfl

/-- Firmware applies the NOR copies, then signals. -/
theorem signalComplete_of {a : State} (ha : a = applyNor s) (hs : s.on GLB_BOOT_CFGDONE 0 = false)
    (hd : (configurationComplete a).on GLB_BOOT_CFGDONE 0 = true) : signalComplete s = configurationComplete a := by
  rw [signalComplete, ← ha, hs, hd]
  rfl

theorem signalComplete_done (hs : s.on GLB_BOOT_CFGDONE 0 = true) : signalComplete s = s := by
  rw [signalComplete, hs]
  rfl

theorem cfgdoneTimeout_of (hs : s.on GLB_BOOT_CFGDONE 0 = false) (hd : (configurationComplete s).on GLB_BOOT_CFGDONE 0 = true) :
    cfgdoneTimeout s = pulse 276 0xFE (configurationComplete s) := by
  rw [cfgdoneTimeout, hs, hd]
  rfl

/-! ## The regulator and the pins (R630, R634–R636) -/

theorem avsRequest_of {mv : Nat} (h1 : 650 ≤ mv) (h2 : mv ≤ 850) (h3 : (mv - s.get PAD_AVS 0) + (s.get PAD_AVS 0 - mv) ≤ 10)
    (ho : s.on PAD_AVSOFF 0 = false) (hm : s.on PAD_AVSMS 0 = false) (hl : ∀ l < 48, s.on LAN_STS_WRITING l = false) :
    avsRequest mv true s = s.setMany 0 [(PAD_AVS, mv), (PAD_AVSMS, s.aonNs + 1)] := by
  have hany : (List.range 48).any (fun l => s.on LAN_STS_WRITING l) = false := by
    simp only [List.any_eq_false, List.mem_range, Bool.not_eq_true]
    exact hl
  rw [avsRequest, ho, hm, hany, if_neg, if_pos rfl]
  simp only [decide_eq_true_eq, Bool.or_eq_true, Bool.false_and, Bool.false_eq_true, false_or, or_false]
  omega

section
variable {p : OutPin}

theorem pinLevel_test (h : s.on PAD_TEST 0 = true) (hp : p ≠ .tdo) : pinLevel p s = .z := by
  rw [pinLevel, h, if_pos (by simp [hp])]

theorem pinLevel_highz (h : s.on PAD_TEST 0 = false) (ht : s.get PAD_TAP 0 = 5) (hp : scanCell p ≠ none) : pinLevel p s = .z := by
  obtain ⟨c, hc⟩ := Option.ne_none_iff_exists'.mp hp
  simp [pinLevel, h, hc, State.is_eq, ht]

theorem pinLevel_own (h : s.on PAD_TEST 0 = false) (ht : s.get PAD_TAP 0 < 3) : pinLevel p s = ownLevel p s := by
  have hne (n : Nat) (hn : 3 ≤ n) : s.is PAD_TAP 0 n = false := by
    rw [State.is_eq, beq_eq_false_iff_ne]
    omega
  rw [pinLevel, h, hne 3 (by decide), hne 4 (by decide), hne 5 (by decide)]
  cases scanCell p <;> rfl

/-- From a cold reset each output is in its state of R636. -/
theorem ownLevel_coldClear (h : s.on PAD_PERST 0 = true ∨ p ≠ .peTx) : ownLevel p (coldClear s) = resetLevel p := by
  have hoff (f : Field) (i : Nat) (hs : GLB_SVN.id ≠ f.id) (hg : coldGone f.id = true) (h0 : f.rst i % 2 ^ f.width = 0) :
      (coldClear s).on f i = false := by
    rw [State.on_eq, coldClear_get_gone hs hg, h0]
    rfl
  have hget (f : Field) (i : Nat) (hs : GLB_SVN.id ≠ f.id) (hg : coldGone f.id = true) (h0 : f.rst i % 2 ^ f.width = 0) :
      (coldClear s).get f i = 0 := by
    rw [coldClear_get_gone hs hg, h0]
  cases p with
  | peTx =>
    obtain h | h := h
    · have hp : (coldClear s).on PAD_PERST 0 = true := by
        rw [State.on_eq, coldClear_get_pad (by decide +kernel) (by decide +kernel), ← State.on_eq, h]
      simp only [ownLevel, resetLevel, hp, Bool.true_or, if_true]
    · exact absurd rfl h
  | vcmDac a =>
    have hz : (coldClear s).getI SRV_DAC a = 0 := by
      rw [State.getI_eq, hget _ _ (by decide +kernel) (by decide +kernel) rfl]
      rfl
    simp only [ownLevel, resetLevel, hz]
  | ddrReset =>
    simp only [ownLevel, resetLevel, hoff BUF_STS_TRAINED 0 (by decide +kernel) (by decide +kernel) rfl,
      hoff GLB_BOOT_RECOVERY 0 (by decide +kernel) (by decide +kernel) rfl, hget GLB_BOOT_PHASE 0 (by decide +kernel) (by decide +kernel) rfl]
    rfl
  | syncOut =>
    simp only [ownLevel, resetLevel, State.is_eq, hget GLB_ROLE_ROLE 0 (by decide +kernel) (by decide +kernel) rfl]
    rfl
  | gate n => simp only [ownLevel, resetLevel, hoff SPN_GATE n (by decide +kernel) (by decide +kernel) rfl, Bool.false_eq_true, if_false]
  | vcmEn a => simp only [ownLevel, resetLevel, hoff SRV_DRVEN a (by decide +kernel) (by decide +kernel) rfl, Level.ofBit, Bool.false_eq_true, if_false]
  | writePair l =>
    simp only [ownLevel, resetLevel, hoff LAN_STS_WRITING l (by decide +kernel) (by decide +kernel) rfl, Bool.false_eq_true, if_false]
  | headLink a => simp only [ownLevel, resetLevel, hoff HLK_CTL_EN a (by decide +kernel) (by decide +kernel) rfl, Bool.false_eq_true, if_false]
  | faultN => simp only [ownLevel, resetLevel, hoff PAD_FAULT 0 (by decide +kernel) (by decide +kernel) rfl, Bool.false_eq_true, if_false]
  | wakeN => simp only [ownLevel, resetLevel, hoff PAD_WAKE 0 (by decide +kernel) (by decide +kernel) rfl, Bool.false_eq_true, if_false]
  | clkreqN => simp only [ownLevel, resetLevel, hoff PAD_CLKREQ 0 (by decide +kernel) (by decide +kernel) rfl, Bool.false_eq_true, if_false]
  | avs => simp only [ownLevel, resetLevel, hoff PAD_AVSMS 0 (by decide +kernel) (by decide +kernel) rfl, Bool.false_eq_true, if_false]
  | xspiCs | xspiClk | xspiRst | clbDe | clbTx | tdo => rfl

theorem pinLevel_coldClear (ht : s.get PAD_TAP 0 < 3) (h : s.on PAD_PERST 0 = true ∨ p ≠ .peTx) :
    pinLevel p (coldClear s) = resetLevel p := by
  rw [pinLevel_own, ownLevel_coldClear h]
  · rw [State.on_eq, coldClear_get_gone (by decide +kernel) (by decide +kernel)]
    rfl
  · rwa [coldClear_get_pad (by decide +kernel) (by decide +kernel)]

end

end

/-- Settles O57: the resets by what each leaves, the boot engine step by step, then the pins. -/
theorem startUpAndPins : Obligations.StartUpAndPins := by
  unfold Obligations.StartUpAndPins
  intro s
  refine ⟨fun h blk f => ⟨onBlock_inReset h blk f, onMedia_inReset h blk f⟩, fun role cs te h => ⟨_, rfl, pwrGoodRise_of role cs te h⟩,
    fun h => ⟨_, rfl, pwrGoodFall_inReset h⟩, ⟨_, rfl, resetNAssert_inReset⟩, fun role cs recov hr hb ha => ?_, fun v role cs recov hi hk => ?_,
    fun v role cs recov hk => ?_, ⟨rfl, rfl, rfl, fun f i h93 h91 hs => ?_⟩, fun h => ⟨_, rfl, vddAonLow_of h⟩, fun role cs recov h => ?_,
    fun d e k re nor slots areas hb hp hd => ⟨fun hdo heo => ?_, fun a hc hok => ?_⟩, fun d e => ?_, fun k nor a f => ?_,
    fun time hi ht hn hp hr hc => ?_, fun hi ht hr hc hp => ⟨fun hn => ?_, ?_⟩, fun a ha hs hi ht hr hc hp => ?_, fun hs => ?_,
    fun mv hr h1 h2 h3 ho hm hl => ?_, ⟨rfl, rfl, rfl, rfl⟩, fun p ht h => pinLevel_coldClear ht h,
    fun p => ⟨pinLevel_test, pinLevel_highz, pinLevel_own⟩, ⟨_, rfl, rfl⟩, fun v => ⟨_, rfl, State.get_set_self ..⟩⟩
  · rw [exec_resetNDeassert, execResetNDeassert, resetNDeassert_of role cs recov hr hb ha]
    rfl
  · refine ⟨fun h => ?_, fun h0 h1 => ?_⟩
    · rw [exec_glbColdReset, execGlbColdReset, hi, h, if_neg (by decide), rstctl_cold role cs recov hk h]
      rfl
    · rw [exec_glbWarmReset, execGlbWarmReset, hi, h0, if_neg (by decide), rstctl_warm role cs recov hk h0 h1]
      rfl
  · constructor
    · rw [exec_glbColdReset, execGlbColdReset, rstctl_key role cs recov hk, ite_self]
      rfl
    · rw [exec_glbWarmReset, execGlbWarmReset, rstctl_key role cs recov hk, ite_self]
      rfl
  · exact coldClear_get_gone (Ne.symm hs) (by simp [coldGone, h93, h91]) i
  · rw [exec_vddAonReturn, execVddAonReturn, vddAonReturn, if_pos h]
    rfl
  · refine ⟨bootFinds (s.get NVM_ACTIVE 0) k nor.toNat re s, ?_⟩
    rw [exec_flaconLoadDone, execFlaconLoadDone, flaconLoadDone_none hb hp hd (chooseDir_none hdo heo)]
    rfl
  · rw [exec_flaconLoadDone, execFlaconLoadDone, flaconLoadDone_some hb hp hd hc (chooseSlot_active hok)]
    rfl
  · refine ⟨chooseDir_first, chooseDir_second, fun hd he hlt => ?_, fun hd he hlt => ?_⟩
    · rw [chooseDir_both hd he, if_pos hlt]
    · rw [chooseDir_both hd he, if_neg (by omega)]
  · obtain ⟨hk, hn⟩ := bootFinds_of (s := s) a k nor.toNat
    obtain ⟨hs, hb⟩ := bootSlot_of (s := s) a f
    exact ⟨hk, hn, rfl, hs, hb⟩
  · obtain ⟨h1, h2, h3⟩ := dramTrainingDone_of (time := time.toNat) hi ht hn hp hr hc
    exact ⟨_, rfl, h1, h2, h3.trans (Nat.mod_eq_of_lt time.isLt)⟩
  · obtain ⟨h1, h2, h3⟩ := configurationComplete_of (s := { s with tables := { s.tables with stage := 1 } }) hi ht hr hc hp
    refine ⟨s.after (configurationComplete { s with tables := { s.tables with stage := 1 } }), ?_, h1, h2, h3⟩
    rw [exec_configurationComplete, execConfigurationComplete, signalComplete_of (applyNor_empty hn).symm hc h1]
    rfl
  · obtain ⟨h1, -, -⟩ := configurationComplete_of hi ht hr hc hp
    refine ⟨configurationComplete s, ?_, h1⟩
    rw [exec_cfgdoneTimeout, execCfgdoneTimeout, cfgdoneTimeout_of hc h1]
    rfl
  · obtain ⟨h1, h2, -⟩ := configurationComplete_of hi ht hr hc hp
    refine ⟨s.after (configurationComplete a), ?_, h1, h2⟩
    rw [exec_configurationComplete, execConfigurationComplete, signalComplete_of ha hs h1]
    rfl
  · rw [exec_configurationComplete, execConfigurationComplete, signalComplete_done hs]
    rfl
  · refine ⟨s.after (s.setMany 0 [(PAD_AVS, mv), (PAD_AVSMS, s.aonNs + 1)]), ?_, ?_⟩
    · rw [exec_avsVoltageRequest, execAvsVoltageRequest]
      exact done_onBlock hr (avsRequest_of h1 h2 h3 ho hm hl)
    · simp (disch := decide +kernel) [State.after_get]

end Sys2Proof.Machine
end

section
/-! PROOFS. The Claik bus as a node sees it (spec/13). -/

namespace Sys2Proof.Machine

set_option Elab.async false

/-! ## Frames and requests (R595) -/

section
variable {s v : State} {addr typ seq : Nat} {act : State → State × List (BitVec 8)} {f : State → State}

theorem upFrame_off (h : s.on CLB_CTL_UPEN 0 = false) : upFrame addr f s = s := by
  rw [upFrame, h]
  rfl

theorem upFrame_other (h : s.on CLB_CTL_UPEN 0 = true) (ha : addr ≠ ownAddr s) (hb : addr ≠ 0x7F) :
    upFrame addr f s = s.bump CLB_UPCNT_VALID 0 := by
  rw [upFrame, h, if_neg (by decide), if_neg (by simp [ha, hb])]

theorem upRequest_off (h : s.on CLB_CTL_UPEN 0 = false) : upRequest addr typ seq act s = s := upFrame_off h

theorem upRequest_other (h : s.on CLB_CTL_UPEN 0 = true) (ha : addr ≠ ownAddr s) (hb : addr ≠ 0x7F) :
    upRequest addr typ seq act s = s.bump CLB_UPCNT_VALID 0 := upFrame_other h ha hb

theorem upFrame_own (h : s.on CLB_CTL_UPEN 0 = true) (ha : addr = ownAddr s ∨ addr = 0x7F) :
    upFrame addr f s = f (lower 305 0xFF (s.bump CLB_UPCNT_VALID 0)) := by
  rw [upFrame, h, if_neg (by decide), if_pos ha]

/-- The sequence number acted on last is not touched by the count of a frame. -/
theorem last_counted (n : Nat) : (lower 305 0xFF (s.bump CLB_UPCNT_VALID 0)).is CLB_LAST 0 n = s.is CLB_LAST 0 n := by
  simp (disch := decide +kernel) [State.is_eq, State.bump_eq]

/-- A repeated request is answered as before. -/
theorem upRequest_repeat {o : Out} (h : s.on CLB_CTL_UPEN 0 = true) (ha : addr = ownAddr s) (hb : addr ≠ 0x7F)
    (hv : v = lower 305 0xFF (s.bump CLB_UPCNT_VALID 0)) (hl : v.is CLB_LAST 0 (seq + 1) = true) (hr : v.upReply = some o) :
    upRequest addr typ seq act s = v.emit o := by
  rw [upRequest, upFrame_own h (.inl ha), ← hv, if_neg hb, if_pos hl]
  simp only [hr]

/-- A new request is acted on and answered. -/
theorem upRequest_new (h : s.on CLB_CTL_UPEN 0 = true) (ha : addr = ownAddr s) (hb : addr ≠ 0x7F)
    (hl : s.is CLB_LAST 0 (seq + 1) = false) (hv : v = (lower 305 0xFF (s.bump CLB_UPCNT_VALID 0)).set CLB_LAST 0 (seq + 1)) :
    upRequest addr typ seq act s = reply typ seq (act v).2 (act v).1 := by
  rw [upRequest, upFrame_own h (.inl ha), if_neg hb, last_counted, hl, ← hv]
  rfl

theorem order_new {code : Nat} (h : s.on CLB_CTL_UPEN 0 = true) (ha : addr = ownAddr s) (hb : addr ≠ 0x7F)
    (hl : s.is CLB_LAST 0 (seq + 1) = false)
    (hv : v = (((lower 305 0xFF (s.bump CLB_UPCNT_VALID 0)).set CLB_LAST 0 (seq + 1)).set CLB_ORDER_CODE 0 code).bump CLB_ORDER_COUNT 0) :
    order addr seq code f s = reply 4 seq [] (f v) := by
  rw [order, upRequest_new h ha hb hl rfl, ← hv]

/-! ## Replies (R596, R597) -/

theorem bytesOf_length (n x : Nat) : (bytesOf n x).length = n := by
  induction n generalizing x with
  | zero => rfl
  | succ n ih => simp [bytesOf, ih]

theorem statusPayload_length : (statusPayload v).2.length = 16 := by
  simp only [statusPayload, List.length_append, bytesOf_length]

theorem statusPayload_state : (statusPayload v).2[1]? = some (BitVec.ofNat 8 (if v.is GLB_ROLE_ROLE 0 2 then 0 else v.get SPN_STATE_STATE 0)) :=
  rfl

/-- The answer of PEERINFO. -/
theorem peerinfo_new (h : s.on CLB_CTL_UPEN 0 = true) (ha : addr = ownAddr s) (hb : addr ≠ 0x7F) (hl : s.is CLB_LAST 0 (seq + 1) = false)
    (hv : v = (lower 305 0xFF (s.bump CLB_UPCNT_VALID 0)).set CLB_LAST 0 (seq + 1)) :
    ∃ p, peerinfo addr seq s = reply 9 seq p v ∧ p.length = 24 ∧ (p.drop 16).take 2 = bytesOf 2 (v.get NVQ_CMB_SIZE 0) := by
  refine ⟨_, by rw [peerinfo, upRequest_new h ha hb hl hv], ?_, ?_⟩
  · simp only [List.length_append, bytesOf_length]
  · rfl

/-- The answer of HARVEST with the one entry asked for. -/
theorem harvestReply_one {first : Nat} {e : Entry} (h : s.on CLB_CTL_UPEN 0 = true) (ha : addr = ownAddr s) (hb : addr ≠ 0x7F)
    (hl : s.is CLB_LAST 0 (seq + 1) = false) (hv : v = (lower 305 0xFF (s.bump CLB_UPCNT_VALID 0)).set CLB_LAST 0 (seq + 1))
    (hf : first < 65536) (he : (v.ring.find? fun x => x.2.seq == first) = some (0, e)) :
    harvestReply addr seq first 1 s = reply 8 seq (bytesOf 32 e.bits) v := by
  have hmod : (first + 0) % 65536 = first := by omega
  have hr : List.range (Nat.min 2 1) = [0] := rfl
  rw [harvestReply, upRequest_new h ha hb hl hv]
  simp only [hr, List.filterMap_cons, List.filterMap_nil, hmod, he, Option.map_some, List.flatMap_cons, List.flatMap_nil, List.append_nil]

theorem grant_drive {k : Nat} (h : s.on CLB_CTL_UPEN 0 = true) (ha : addr = ownAddr s) (hb : addr ≠ 0x7F) (hl : s.is CLB_LAST 0 (seq + 1) = false)
    (hv : v = (lower 305 0xFF (s.bump CLB_UPCNT_VALID 0)).set CLB_LAST 0 (seq + 1)) (hm : v.is GLB_ROLE_ROLE 0 2 = false) :
    grant addr seq k s = reply 3 seq (bytesOf 1 (v.get SPN_TOKENS_USED 0)) (v.set SPN_TOKENS_GRANT 0 k) := by
  rw [grant, upRequest_new h ha hb hl hv, hm, if_neg (by decide)]
  dsimp only
  rw [get_set_ne _ _ _ _ (by decide +kernel)]

theorem grant_manager {k : Nat} (h : s.on CLB_CTL_UPEN 0 = true) (ha : addr = ownAddr s) (hb : addr ≠ 0x7F)
    (hl : s.is CLB_LAST 0 (seq + 1) = false) (hv : v = (lower 305 0xFF (s.bump CLB_UPCNT_VALID 0)).set CLB_LAST 0 (seq + 1))
    (hm : v.is GLB_ROLE_ROLE 0 2 = true) (ht : v.on CLB_TOP 0 = false) :
    ∃ p, grant addr seq k s = reply 3 seq p (setBudget k v) := by
  refine ⟨bytesOf 1 (Nat.min 255 (nodeSum MGR_NODE_USED (setBudget k v))), ?_⟩
  rw [grant, upRequest_new h ha hb hl hv, hm, if_pos rfl]
  dsimp only
  rw [ht, if_neg (by decide)]

/-! ## Flacon distribution (R559, R620) -/

/-- The chunks that are missing do not depend on what has been counted. -/
theorem missingChunks_counted (n : Nat) :
    missingChunks ((lower 305 0xFF (s.bump CLB_UPCNT_VALID 0)).set CLB_LAST 0 n) = missingChunks s := by
  have hm : ((lower 305 0xFF (s.bump CLB_UPCNT_VALID 0)).set CLB_LAST 0 n).fwMiss = s.fwMiss := by
    have hap : ((lower 305 0xFF (s.bump CLB_UPCNT_VALID 0)).set CLB_LAST 0 n).apart = s.apart := by
      rw [apart_set, apart_lower, apart_bump]
    have hmiss := congrArg State.fwMiss hap
    exact hmiss
  have hl : ((lower 305 0xFF (s.bump CLB_UPCNT_VALID 0)).set CLB_LAST 0 n).get CLB_FWLEN 0 = s.get CLB_FWLEN 0 := by
    simp (disch := decide +kernel) [State.bump_eq]
  rw [missingChunks, missingChunks, hm, hl]

theorem beginFwctl_repeat {ok : Bool} (hb : addr ≠ 0x7F) (hl : s.is CLB_LAST 0 (seq + 1) = true) :
    beginFwctl addr seq ok s = fwctlCommit addr seq ok s := by
  rw [beginFwctl, hl, if_neg (by simp [hb])]

theorem beginFwctl_bad : beginFwctl addr seq false s = fwctlCommit addr seq false s := by
  rw [beginFwctl, if_neg (by simp)]

theorem beginFwctl_free {ok : Bool} (hd : s.dumps = []) : beginFwctl addr seq ok s = fwctlCommit addr seq ok s := by
  rw [beginFwctl, norTaken, hd, if_neg (by simp)]

/-- An image that is whole waits while a dump has NOR. -/
theorem beginFwctl_waits (h : s.on CLB_CTL_UPEN 0 = true) (ha : addr = ownAddr s) (hl : s.is CLB_LAST 0 (seq + 1) = false)
    (hm : missingChunks s = []) (hd : s.dumps ≠ []) :
    beginFwctl addr seq true s = holdNor (.fwctl addr seq) (lower 305 0xFF (s.bump CLB_UPCNT_VALID 0)) := by
  rw [beginFwctl, if_pos, upFrame_own h (.inl ha)]
  simp [norTaken, hm, hd, hl]

theorem fwctlAct_bad : fwctlAct false v = (v.set CLB_FWOK 0 0, fwstatPayload (v.set CLB_FWOK 0 0)) := by
  rw [fwctlAct, if_pos (by simp)]

/-- The image is placed in the slot not booted and activated. -/
theorem fwctlAct_of (hm : missingChunks v = []) : ∃ u p, fwctlAct true v = (firmwareActivation u, p) ∧
    u.get NVM_ACTIVE 0 = (2 - v.get GLB_BOOT_SLOT 0) % 2 ^ NVM_ACTIVE.width ∧ u.on CLB_FWOK 0 = true := by
  refine ⟨_, _, by rw [fwctlAct, hm, if_neg (by simp)], ?_, ?_⟩
  · simp (disch := decide +kernel)
  · rw [State.on_eq]
    simp
    decide

theorem fwdata_mem (h : s.on CLB_CTL_UPEN 0 = true) (off : Nat) (d : List (BitVec 8)) : off ∈ (fwdata off d s).fwMiss := by
  rw [fwdata, upFrame_own h (.inr rfl)]
  generalize lower 305 0xFF (s.bump CLB_UPCNT_VALID 0) = t
  dsimp only
  generalize (if off = 0 then t.set CLB_FWLEN 0 (ofBytes ((d.drop 16).take 4)) else t) = u
  cases hc : u.fwMiss.contains off with
  | true => exact List.contains_iff_mem.mp hc
  | false => exact List.mem_append_right _ (List.mem_singleton_self off)

/-! ## Orders (R617–R619) -/

theorem applyOrders_safe (h : s.on FLT_SAFE_ACTIVE 0 = true) : applyOrders s = s := by
  rw [applyOrders, h]
  rfl

theorem orderPscap_low {p : Nat} (h : p ≤ 2) : orderPscap p s = applyCap (s.set CLB_ORDER_PSCAP 0 p) := by
  rw [orderPscap, if_neg (by omega)]

theorem orderPscap_high {p : Nat} (h : 2 < p) : orderPscap p s = applyCap ((s.set CLB_ORDER_PSCAP 0 p).set CLB_ORDER_SPIN 0 0) := by
  rw [orderPscap, if_pos h]

theorem applyCap_kept {p : Nat} (h : p ≤ s.get NVQ_STS_PS 0) : applyCap (s.set CLB_ORDER_PSCAP 0 p) = s.set CLB_ORDER_PSCAP 0 p := by
  rw [applyCap]
  dsimp only
  rw [State.get_set_self, get_set_ne _ _ _ _ (by decide +kernel), if_pos ((Nat.mod_le ..).trans h)]

theorem orderSetref_manager (h : driveRole s = false) (m p x : Nat) : orderSetref m p x s = s := by
  rw [orderSetref, h]
  rfl

theorem orderSetref_drive (h : driveRole s = true) (hp : s.bit SPN_CMT_STS_PENDING 0 1 = false) (m p x : Nat) : orderSetref m p x s =
    commitGroup .spn 0 1 (((s.setSh SPN_REFMODE_MODE 0 m).setSh SPN_REFCFG_PPR 0 p).setSh SPN_REFCFG2_PHASE 0 x) := by
  rw [orderSetref, h, hp]
  rfl

/-! ## Discovery and broadcasts (R599, R615) -/

theorem ownAddr_counted : ownAddr (lower 305 0xFF (s.bump CLB_UPCNT_VALID 0)) = ownAddr s := by
  simp (disch := decide +kernel) [ownAddr, State.on_eq, State.bump_eq]

theorem discover_unassigned (h : s.on CLB_CTL_UPEN 0 = true) (ha : ownAddr s = 0x7E) (hf : s.on CLB_FIXED 0 = false) :
    discover s = (lower 305 0xFF (s.bump CLB_UPCNT_VALID 0)).set CLB_HELLO 0 1 := by
  have hc : (lower 305 0xFF (s.bump CLB_UPCNT_VALID 0)).on CLB_FIXED 0 = false := by
    rw [← hf]
    simp (disch := decide +kernel) only [State.on_eq, State.bump_eq, get_lower, get_set_ne]
  rw [discover, upFrame_own h (.inr rfl), if_pos]
  rw [ownAddr_counted, hc]
  exact ⟨ha, by decide⟩

theorem discover_assigned (h : s.on CLB_CTL_UPEN 0 = true) (ha : ownAddr s ≠ 0x7E) :
    discover s = lower 305 0xFF (s.bump CLB_UPCNT_VALID 0) := by
  rw [discover, upFrame_own h (.inr rfl), if_neg]
  rw [ownAddr_counted]
  exact fun hc => ha hc.1

theorem discoverSlot_of (h : s.on CLB_CTL_UPEN 0 = true) (hh : s.on CLB_HELLO 0 = true) : discoverSlot s =
    (s.set CLB_HELLO 0 0).emit (claikOut true 0xFE 1 0 (bytesOf 8 (s.get GLB_EUI 0) ++ bytesOf 1 (s.get GLB_ROLE_ROLE 0) ++
      bytesOf 1 (s.get GLB_ROLE_LEVEL 0))) := by
  rw [discoverSlot, hh, h]
  rfl

/-- ASSIGN of this node's EUI-64. -/
theorem assign_of {e a p l : Nat} (h : s.on CLB_CTL_UPEN 0 = true) (ha : ownAddr s = 0x7E) (he : s.get GLB_EUI 0 = e)
    (hf : s.on CLB_FIXED 0 = false) (hl : s.is CLB_LAST 0 (seq + 1) = false) : ∃ v : State, assign e a p l seq s = reply 2 seq []
      (v.setMany 0 [(CLB_NODE_ADDR, a), (CLB_NODE_ASSIGNED, 1), (CLB_NODE_POD, p), (CLB_NODE_LEVEL, l)]) := by
  refine ⟨(lower 305 0xFF (s.bump CLB_UPCNT_VALID 0)).set CLB_LAST 0 (seq + 1), ?_⟩
  rw [assign, if_neg (by simp [ha, he, hf]), upRequest_new h ha.symm (by decide) hl rfl]

theorem driveSync_get (f : Field) (i : Nat) (t : State) : (driveSync t).get f i = t.get f i := by
  unfold driveSync
  split <;> rfl

/-- What an assignment and a broadcast of SYNC leave. -/
theorem assign_fields (a : BitVec 7) (p : BitVec 18) (l : BitVec 2) :
    let u := reply 2 seq [] (v.setMany 0 [(CLB_NODE_ADDR, a.toNat), (CLB_NODE_ASSIGNED, 1), (CLB_NODE_POD, p.toNat), (CLB_NODE_LEVEL, l.toNat)])
    u.get CLB_NODE_ADDR 0 = a.toNat ∧ u.on CLB_NODE_ASSIGNED 0 = true ∧ u.get CLB_NODE_POD 0 = p.toNat ∧ u.get CLB_NODE_LEVEL 0 = l.toNat := by
  have hreply (f : Field) (i : Nat) (t : State) : (reply 2 seq [] t).get f i = t.get f i := rfl
  simp (disch := decide +kernel) only [State.on_eq, hreply, State.setMany_cons, State.setMany_nil, get_set_ne, State.get_set_self]
  exact ⟨Nat.mod_eq_of_lt a.isLt, by decide, Nat.mod_eq_of_lt p.isLt, Nat.mod_eq_of_lt l.isLt⟩

theorem sync_fields (e : BitVec 64) (p : Word) :
    (driveSync (v.setMany 0 [(MGR_EPOCH, e.toNat), (MGR_PERIOD, p.toNat)])).get MGR_EPOCH 0 = e.toNat ∧
    (driveSync (v.setMany 0 [(MGR_EPOCH, e.toNat), (MGR_PERIOD, p.toNat)])).get MGR_PERIOD 0 = p.toNat := by
  simp (disch := decide +kernel) only [driveSync_get, State.setMany_cons, State.setMany_nil, get_set_ne, State.get_set_self]
  exact ⟨Nat.mod_eq_of_lt e.isLt, Nat.mod_eq_of_lt p.isLt⟩

end

section
variable {s u : State} {f : State → State}

theorem done_onClaik (hr : reaches 16 s = true) (hf : f s = u) : done s (onClaik f s) = .next (s.settled u) := done_onMedia hr hf

theorem done_onOrder (hr : reaches 16 s = true) (hf : f s = u) : done s (onOrder f s) = .next (s.settled (settleAngle u)) :=
  done_onMedia hr (congrArg settleAngle hf)

end

/-- Settles O59: frames by whether they reach the node, requests by whether they repeat, then each request and order by its effect. -/
theorem nodeFrames : Obligations.NodeFrames := by
  unfold Obligations.NodeFrames
  intro s hr
  refine ⟨fun a q k h ha hb => ?_, fun a q h => ?_, fun a q o v h ha hb hv hl ho => ?_, fun a q v h ha hb hl hv => ?_,
    fun a q o h ha hb hl ho => ?_, fun t => applyOrders_safe, fun h => ?_, fun b => ?_⟩
  · exact ⟨done_onClaik hr (upRequest_other h ha hb), done_onClaik hr (upRequest_other h ha hb), done_onOrder hr (upRequest_other h ha hb)⟩
  · exact ⟨done_onClaik hr (upRequest_off h), done_onClaik hr (upRequest_off h), done_onOrder hr (upRequest_off h)⟩
  · have hrep (typ : Nat) (act : State → State × List (BitVec 8)) : upRequest a.toNat typ q.toNat act s = v.emit o :=
      upRequest_repeat h ha hb hv hl ho
    have hls : s.is CLB_LAST 0 (q.toNat + 1) = true := by rw [← last_counted, ← hv, hl]
    exact ⟨done_onClaik hr (hrep ..), fun k => done_onClaik hr (hrep ..), done_onClaik hr (hrep ..), done_onClaik hr (hrep ..),
      fun b n => done_onClaik hr (hrep ..), done_onClaik hr (hrep ..),
      fun k => done_onClaik hr ((beginFwctl_repeat hb hls).trans (hrep ..)), done_onClaik hr (hrep ..), done_onOrder hr (hrep ..),
      done_onOrder hr (hrep ..), done_onOrder hr (hrep ..), fun p => done_onOrder hr (hrep ..), fun m p x => done_onOrder hr (hrep ..)⟩
  · have hnew (typ : Nat) (act : State → State × List (BitVec 8)) : upRequest a.toNat typ q.toNat act s = reply typ q.toNat (act v).2 (act v).1 :=
      upRequest_new h ha hb hl hv
    have hmiss : missingChunks v = missingChunks s := by rw [hv, missingChunks_counted]
    refine ⟨done_onClaik hr (hnew ..), ⟨statusPayload_length, statusPayload_state⟩, fun hm k => done_onClaik hr (grant_drive h ha hb hl hv hm),
      fun hm ht k => ?_, ⟨_, done_onClaik hr (hnew ..)⟩, ?_, fun b e he => done_onClaik hr (harvestReply_one h ha hb hl hv b.isLt he),
      done_onClaik hr (hnew ..), ?_, fun hm hd => done_onClaik hr (beginFwctl_waits h ha hl (hmiss ▸ hm) hd), fun hm hd => ?_⟩
    · obtain ⟨p, hp⟩ := grant_manager (k := k.toNat) h ha hb hl hv hm ht
      exact ⟨p, done_onClaik hr hp⟩
    · obtain ⟨p, hp, hlen, hcmb⟩ := peerinfo_new h ha hb hl hv
      exact ⟨p, done_onClaik hr hp, hlen, hcmb⟩
    · refine done_onClaik hr ?_
      rw [beginFwctl_bad, fwctlCommit, hnew, fwctlAct_bad]
    · obtain ⟨u, p, hu, ha, hw⟩ := fwctlAct_of hm
      refine ⟨u, p, done_onClaik hr ?_, ha, hw⟩
      rw [beginFwctl_free hd, fwctlCommit, hnew, hu]
  · have hnew (code : Nat) (f : State → State) : order a.toNat q.toNat code f s = reply 4 q.toNat [] (f (o code)) :=
      order_new h ha hb hl (ho code)
    refine ⟨done_onOrder hr (hnew ..), done_onOrder hr (hnew ..), done_onOrder hr (hnew ..), fun p hp => done_onOrder hr ?_,
      fun p hp => done_onOrder hr ?_, fun p hp => applyCap_kept hp, fun hd m p x => done_onOrder hr ?_, fun hd hp m p x => done_onOrder hr ?_,
      done_onClaik hr (hnew ..)⟩
    · rw [hnew, orderPscap_low hp]
    · rw [hnew, orderPscap_high hp]
    · rw [hnew, orderSetref_manager hd]
    · rw [hnew, orderSetref_drive hd hp]
  · refine ⟨fun ha hf b => done_onClaik hr (discover_unassigned h ha hf), fun ha b => done_onClaik hr (discover_assigned h ha),
      fun hh => done_onClaik hr (discoverSlot_of h hh), fun e a p l q ha he hf hl => ?_, fun e p => ?_, fun off d => ?_,
      done_onClaik hr ?_, done_onClaik hr ?_, done_onClaik hr ?_⟩
    · obtain ⟨v, hv⟩ := assign_of (a := a.toNat) (p := p.toNat) (l := l.toNat) h ha he hf hl
      exact ⟨_, done_onClaik hr hv, assign_fields a p l⟩
    · exact ⟨_, done_onClaik hr (upFrame_own h (.inr rfl)), sync_fields e p⟩
    · exact ⟨_, done_onClaik hr rfl, fwdata_mem h off.toNat d⟩
    · rw [reservedType, if_pos rfl, if_pos h]
    · rw [upstreamSilence, if_pos h]
    · rw [claikCrc, if_pos rfl, if_pos h]
  · exact done_onClaik hr rfl

end Sys2Proof.Machine
end

section
/-! PROOFS. The manager role (spec/13). -/

namespace Sys2Proof.Machine

set_option Elab.async false

/-! ## Requests of the master leave other registers alone -/

section
variable {f : Field} {i : Nat} {s : State}

theorem sendFront_get : (sendFront s).get f i = s.get f i := by
  unfold sendFront
  split <;> rfl

theorem claikSend_get (hs : MGR_SEQ.id ≠ f.id) (a t : Nat) (p : List (BitVec 8)) (s : State) : (claikSend a t p s).get f i = s.get f i := by
  have hq : ({ s with dnQ := s.dnQ ++ [⟨a, t, s.get MGR_SEQ 0, p, 0⟩] } : State).get f i = s.get f i := rfl
  unfold claikSend
  dsimp only
  split
  · rfl
  · split
    · rw [sendFront_get, State.bump_eq, get_set_ne _ _ _ _ hs, hq]
    · rw [State.bump_eq, get_set_ne _ _ _ _ hs, hq]

theorem claikCast_get (hs : MGR_SEQ.id ≠ f.id) (t : Nat) (p : List (BitVec 8)) (s : State) : (claikCast t p s).get f i = s.get f i := by
  unfold claikCast
  split
  · rw [State.bump_eq, get_set_ne _ _ _ _ hs]
    rfl
  · rfl

theorem peerSend_get (h : bySettle f.id = false) (a q : Nat) (k : PeerKind) (z o l : Nat) (s : State) :
    (peerSend a q k z o l s).get f i = s.get f i := keep_peerSend (closed_get h i _) a q k z o l s rfl

theorem setGrant_get (hs : MGR_SEQ.id ≠ f.id) (hg : MGR_NODE_GRANT.id ≠ f.id) (n v : Nat) (s : State) :
    (setGrant n v s).get f i = s.get f i := by
  unfold setGrant
  split
  · rfl
  · rw [claikSend_get hs, get_set_ne _ _ _ _ hg]

theorem serveWants_get (hs : MGR_SEQ.id ≠ f.id) (hg : MGR_NODE_GRANT.id ≠ f.id) (s : State) : (serveWants s).get f i = s.get f i := by
  refine forAll_get (g := fun n t =>
    if wants n t && decide (nodeSum MGR_NODE_GRANT t - t.get MGR_NODE_GRANT n + t.get MGR_TOK_START 0 ≤ t.get MGR_TOK_BUDGET 0)
    then setGrant n (t.get MGR_TOK_START 0) t else t) (fun n t => ?_) _ s
  split
  · exact setGrant_get hs hg ..
  · rfl

theorem harvestChild_get (h : bySettle f.id = false) (hs : MGR_SEQ.id ≠ f.id) (n : Nat) (s : State) :
    (harvestChild n s).get f i = s.get f i := by
  unfold harvestChild
  split
  · exact peerSend_get h ..
  · split
    · rfl
    · exact claikSend_get hs ..

/-- The registers that show the manager's state. -/
def shownMgr : List Nat := [MGR_STS_ASSIGNED.id, MGR_STS_INSVC.id, MGR_STS_LOST.id, MGR_STS_READY.id, MGR_TOKUSE_GRANTS.id, MGR_TOKUSE_USED.id]

theorem showMgr_get (h : f.id ∉ shownMgr) (s : State) : (showMgr s).get f i = s.get f i := by
  simp only [shownMgr, List.mem_cons, List.not_mem_nil, not_or, or_false] at h
  obtain ⟨h1, h2, h3, h4, h5, h6⟩ := h
  simp only [showMgr, State.setMany_cons, State.setMany_nil]
  rw [get_set_ne _ _ _ _ (Ne.symm h6), get_set_ne _ _ _ _ (Ne.symm h5), get_set_ne _ _ _ _ (Ne.symm h4), get_set_ne _ _ _ _ (Ne.symm h3),
    get_set_ne _ _ _ _ (Ne.symm h2), get_set_ne _ _ _ _ (Ne.symm h1)]

theorem showMgr_rest (s : State) : (showMgr s).dnQ = s.dnQ ∧ (showMgr s).peers = s.peers ∧ (showMgr s).out = s.out ∧ (showMgr s).hellos = s.hellos :=
  ⟨rfl, rfl, rfl, rfl⟩

/-! ## The role (R11, R601, R605) -/

theorem masterOn_of_role (h : s.is GLB_ROLE_ROLE 0 2 = false) : masterOn s = false := by rw [masterOn, h]; rfl

theorem role_of_masterOn (h : masterOn s = true) : s.is GLB_ROLE_ROLE 0 2 = true := by
  rw [masterOn, Bool.and_eq_true] at h
  exact h.1

/-- The role depends on two registers alone. -/
theorem masterOn_congr {t : State} (hr : t.get GLB_ROLE_ROLE 0 = s.get GLB_ROLE_ROLE 0) (hd : t.get CLB_CTL_DNEN 0 = s.get CLB_CTL_DNEN 0) :
    masterOn t = masterOn s := by
  rw [masterOn, masterOn, State.is_eq, State.is_eq, State.on_eq, State.on_eq, hr, hd]

theorem mgrRun_outside (h : s.is GLB_ROLE_ROLE 0 2 = false) (r : Bool) (n z : Nat) : mgrRun r n z s = s := by rw [mgrRun, h]; rfl

theorem mgrRun_stop (h : s.is GLB_ROLE_ROLE 0 2 = true) (n z : Nat) :
    mgrRun false n z s = showMgr (s.set MGR_CTL_RUN 0 0) := by rw [mgrRun, h]; rfl

theorem showMgr_stopped : (showMgr (s.set MGR_CTL_RUN 0 0)).on MGR_CTL_RUN 0 = false ∧ (showMgr (s.set MGR_CTL_RUN 0 0)).on MGR_STS_READY 0 = false := by
  have hrun : (s.set MGR_CTL_RUN 0 0).on MGR_CTL_RUN 0 = false := by
    rw [State.on_eq, State.get_set_self]
    rfl
  constructor
  · rw [State.on_eq, showMgr_get (by decide +kernel), ← State.on_eq, hrun]
  · rw [showMgr, State.on_eq, hrun]
    simp (disch := decide +kernel)

/-- A manager without members only shows RUN. -/
theorem mgrRun_noMembers (h : s.is GLB_ROLE_ROLE 0 2 = true) (hn : noMembers s = true) (n z : Nat) :
    mgrRun true n z s = showMgr (s.set MGR_CTL_RUN 0 1) := by rw [mgrRun, h, hn]; rfl

/-- The bring-up of the worker in a slot, where one is assigned. -/
def bringUp (n : Nat) (s : State) : State :=
  if s.is MGR_NODE_STATE n 1 || s.is MGR_NODE_STATE n 2 then setupNext n 1 (queueSetup n (s.set MGR_UP n 0)) else s

/-- A manager with members brings its workers up. -/
theorem mgrRun_members (h : s.is GLB_ROLE_ROLE 0 2 = true) (hn : noMembers s = false) (n z : Nat) :
    ∃ (v x : Nat) (l : List Nat), mgrRun true n z s = showMgr (forAll l bringUp
      ((s.setMany 0 [(MGR_CTL_RUN, 1), (MGR_WNZ, n), (MGR_WZS, z)]).setMany 0 [(MGR_NZS, v), (NVQ_ZSZE, x)])) := by
  rw [mgrRun, h, hn, if_neg (by decide), if_neg (by decide)]
  exact ⟨_, _, _, rfl⟩

theorem bringUp_get (h : bySettle f.id = false) (hu : MGR_UP.id ≠ f.id) (n : Nat) (s : State) : (bringUp n s).get f i = s.get f i := by
  have hq : (queueSetup n (s.set MGR_UP n 0)).get f i = s.get f i := by
    change (s.set MGR_UP n 0).get f i = _
    rw [get_set_ne _ _ _ _ hu]
  unfold bringUp
  split
  · unfold setupNext
    split
    · rw [peerSend_get h, hq]
    · rw [← hq]
      change ((queueSetup n (s.set MGR_UP n 0)).set MGR_UP n 1).get f i = _
      rw [get_set_ne _ _ _ _ hu]
  · rfl

theorem mgrRun_geometry (h : s.is GLB_ROLE_ROLE 0 2 = true) (hn : noMembers s = false) (n z : Nat) :
    (mgrRun true n z s).on MGR_CTL_RUN 0 = true ∧ (mgrRun true n z s).get MGR_WNZ 0 = n % 2 ^ MGR_WNZ.width ∧
    (mgrRun true n z s).get MGR_WZS 0 = z % 2 ^ MGR_WZS.width := by
  obtain ⟨v, x, l, hv⟩ := mgrRun_members h hn n z
  rw [hv]
  refine ⟨?_, ?_, ?_⟩
  · rw [State.on_eq, showMgr_get (by decide +kernel), forAll_get (bringUp_get (by decide +kernel) (by decide +kernel))]
    simp (disch := decide +kernel)
  · rw [showMgr_get (by decide +kernel), forAll_get (bringUp_get (by decide +kernel) (by decide +kernel))]
    simp (disch := decide +kernel)
  · rw [showMgr_get (by decide +kernel), forAll_get (bringUp_get (by decide +kernel) (by decide +kernel))]
    simp (disch := decide +kernel)

/-! ## Workers (R602, R603, R616) -/

theorem workerSilent_member {w : Nat} (h : s.is GLB_ROLE_ROLE 0 2 = true) (hm : s.memberMask.testBit w = true) (hl : isLost w s = false) :
    workerSilent w s = showMgr (dropPeers w (pulse 336 w ((loseMember w s).set MGR_NODE_STATE w 3))) := by
  rw [workerSilent, if_pos h, loseWorker, hl, hm, if_neg (by decide)]

theorem workerSilent_lost {w : Nat} (h : s.is GLB_ROLE_ROLE 0 2 = true) (hl : isLost w s = true) : workerSilent w s = showMgr s := by
  rw [workerSilent, if_pos h, loseWorker, hl, if_pos (by simp)]

theorem fwStep_idle (h : s.on MGR_FW_BUSY 0 = false) : fwStep s = s := by rw [fwStep, h]; rfl

/-- A peer command that is tried again goes out again. -/
theorem peerCommandTimeout_out {w n : Nat} {p : PeerCmd} (h : s.is GLB_ROLE_ROLE 0 2 = true) (hn : n ≤ s.get MGR_PEERCFG_RETRY 0)
    (hp : (s.peers.find? fun x => x.slot == w) = some p) (hb : s.on MGR_FW_BUSY 0 = false) :
    (peerCommandTimeout w n s).out = s.out ++ [.peer { p with tries := n }] := by
  have ht : peerTimeout w n s = { s with peers := s.peers.map fun x => if x = p then { p with tries := n } else x }.emit (.peer { p with tries := n }) := by
    rw [peerTimeout, if_neg (by omega), hp]
  have hidle : fwStep (peerTimeout w n s) = peerTimeout w n s := fwStep_idle (by rw [ht]; exact hb)
  rw [peerCommandTimeout, if_pos h, hidle, ht]
  rfl

theorem syncOutFault_outside (h : s.is GLB_ROLE_ROLE 0 2 = false) : syncOutFault s = s := by rw [syncOutFault, h]; rfl

theorem syncOutFault_of (h : s.is GLB_ROLE_ROLE 0 2 = true) (he : s.on MGR_SYNC_EN 0 = true) (hl : s.on MGR_SYNCLOW 0 = false) :
    syncOutFault s = driveSync (pulse 341 0xFF s) := by rw [syncOutFault, h, he, hl]; rfl

/-! ## Discovery (R599) -/

theorem downFrame_outside (h : masterOn s = false) (a t : Nat) (g : State → State) : downFrame a t g s = s := by rw [downFrame, h]; rfl

theorem hello_outside (h : masterOn s = false) (e : Nat) : hello e s = s := by rw [hello, h]; rfl

theorem claikCast_of (h : masterOn s = true) (t : Nat) (p : List (BitVec 8)) :
    claikCast t p s = (s.emit (claikOut false 0x7F t (s.get MGR_SEQ 0) p)).bump MGR_SEQ 0 := if_pos h

theorem mgrDiscover_of (h : masterOn s = true) (b : Nat) : (mgrDiscover b s).on MGR_DISC 0 = true ∧ (mgrDiscover b s).get MGR_EMPTY 0 = 0 ∧
    (mgrDiscover b s).hellos = [] ∧ (mgrDiscover b s).out = s.out ++ [claikOut false 0x7F 1 (s.get MGR_SEQ 0) (bytesOf 1 b)] := by
  let t := ({ s with hellos := [] } : State).setMany 0 [(MGR_DISC, 1), (MGR_EMPTY, 0)]
  have hm : masterOn t = true := by
    rw [← h]
    refine masterOn_congr ?_ ?_ <;> simp (disch := decide +kernel) [t] <;> rfl
  have hq : t.get MGR_SEQ 0 = s.get MGR_SEQ 0 := by
    simp (disch := decide +kernel) [t]
    rfl
  have hd : mgrDiscover b s = (t.emit (claikOut false 0x7F 1 (s.get MGR_SEQ 0) (bytesOf 1 b))).bump MGR_SEQ 0 := by
    rw [mgrDiscover, if_pos h, claikCast_of hm, hq]
  rw [hd]
  refine ⟨?_, ?_, rfl, rfl⟩
  · simp (disch := decide +kernel) [State.on_eq, State.bump_eq, t]
  · simp (disch := decide +kernel) [State.bump_eq, t]

theorem hello_of (h : masterOn s = true) (hd : s.on MGR_DISC 0 = true) (e : Nat) : hello e s =
    if s.hellos.contains e then pulse 308 0xFF (s.bump CLB_DNCNT_VALID 0)
    else match mappedSlot e { s.bump CLB_DNCNT_VALID 0 with hellos := s.hellos ++ [e] } with
      | some n => showMgr (takeNode e n { s.bump CLB_DNCNT_VALID 0 with hellos := s.hellos ++ [e] })
      | none => { s.bump CLB_DNCNT_VALID 0 with hellos := s.hellos ++ [e] } := by
  have hdt : (s.bump CLB_DNCNT_VALID 0).on MGR_DISC 0 = true := by
    rw [State.bump_eq, on_set_ne _ _ _ _ (by decide +kernel), hd]
  rw [hello, h, if_neg (by decide)]
  dsimp only
  rw [hdt, if_neg (by decide)]
  rfl

theorem mappedSlot_none {e : Nat} (hn : ∀ n < 64, s.on MGR_NODE_STATE n = false) (hm : s.on MGR_MAPPED 0 = false) : mappedSlot e s = none := by
  have hf : (List.range 64).find? (fun n => s.on MGR_NODE_STATE n && s.is MGR_NODE_EUI n e) = none := by
    rw [List.find?_eq_none]
    intro n hm
    rw [hn n (List.mem_range.mp hm), Bool.false_and]
    decide
  rw [mappedSlot, hf]
  dsimp only
  rw [hm]
  rfl

/-- A node that is taken holds its slot. -/
theorem takeNode_get (hs : MGR_SEQ.id ≠ f.id) (e n : Nat) (s : State) : ∃ v x : Nat, (takeNode e n s).get f i =
    (s.setMany n [(MGR_NODE_EUI, e), (MGR_NODE_POD, v), (MGR_NODE_STATE, if isLost n s then 3 else 1), (MGR_NODE_MISSED, x)]).get f i :=
  ⟨_, _, claikSend_get hs ..⟩

theorem takeNode_of (e n : Nat) : (takeNode e n s).get MGR_NODE_EUI n = e % 2 ^ MGR_NODE_EUI.width ∧ (takeNode e n s).on MGR_NODE_STATE n = true ∧
    (takeNode e n s).get MGR_DISC 0 = s.get MGR_DISC 0 := by
  refine ⟨?_, ?_, ?_⟩
  · obtain ⟨v, x, h⟩ := takeNode_get (f := MGR_NODE_EUI) (i := n) (by decide +kernel) e n s
    rw [h]
    simp (disch := decide +kernel)
  · obtain ⟨v, x, h⟩ := takeNode_get (f := MGR_NODE_STATE) (i := n) (by decide +kernel) e n s
    rw [State.on_eq, h]
    simp (disch := decide +kernel)
    split <;> decide
  · obtain ⟨v, x, h⟩ := takeNode_get (f := MGR_DISC) (i := 0) (by decide +kernel) e n s
    rw [h]
    simp (disch := decide +kernel)

theorem discoverRoundEnd_stopped (hd : s.on MGR_DISC 0 = false) : discoverRoundEnd s = s := by
  rw [discoverRoundEnd, hd, if_pos (by simp)]

/-- A round that has ended with nodes found is followed by another. -/
theorem nextRound_get (hs : MGR_SEQ.id ≠ f.id) (hw : f.id ∉ shownMgr) (he : MGR_EMPTY.id ≠ f.id) (p : List (BitVec 8)) (w : State) :
    (claikCast 1 p (showMgr (({ w with hellos := [] } : State).set MGR_EMPTY 0 0)).used).get f i = w.get f i := by
  have hused (u : State) : u.used.get f i = u.get f i := rfl
  have hhello : ({ w with hellos := [] } : State).get f i = w.get f i := rfl
  rw [claikCast_get hs, hused, showMgr_get hw, get_set_ne _ _ _ _ he, hhello]

/-- The one node that the round has found takes the lowest free slot. -/
theorem discoverRoundEnd_found {e n : Nat} (h : masterOn s = true) (hd : s.on MGR_DISC 0 = true) (hh : s.hellos = [e])
    (hm : mappedSlot e s = none) (hf : freeNode s = some n) : ∃ p, discoverRoundEnd s =
      claikCast 1 p (showMgr (({ takeNode e n s with hellos := [] } : State).set MGR_EMPTY 0 0)).used := by
  have hrest : ((s.hellos.filter fun e => (mappedSlot e s).isNone).foldl (fun l e => insertAsc e l) []) = [e] := by
    simp [hh, hm, insertAsc]
  have hone : s.hellos.isEmpty = false := by rw [hh]; rfl
  refine ⟨bytesOf 1 (showMgr (({ takeNode e n s with hellos := [] } : State).set MGR_EMPTY 0 0)).free, ?_⟩
  have hz : (if (false = true) then s.get MGR_EMPTY 0 + 1 else 0) = 0 := if_neg (by decide)
  rw [discoverRoundEnd, h, hd, if_neg (by decide), hone, hrest]
  dsimp only
  rw [List.foldl_cons, List.foldl_nil, hz, if_neg (by decide)]
  split
  · next m hm' => rw [Option.some.inj (hm'.symm.trans hf)]
  · next hm' => exact absurd (hm'.symm.trans hf) (by simp)

theorem discoverRoundEnd_one {e n : Nat} (h : masterOn s = true) (hd : s.on MGR_DISC 0 = true) (hh : s.hellos = [e])
    (hm : mappedSlot e s = none) (hf : freeNode s = some n) :
    (discoverRoundEnd s).get MGR_NODE_EUI n = e % 2 ^ MGR_NODE_EUI.width ∧ (discoverRoundEnd s).on MGR_NODE_STATE n = true ∧
    (discoverRoundEnd s).on MGR_DISC 0 = true := by
  obtain ⟨p, hr⟩ := discoverRoundEnd_found h hd hh hm hf
  obtain ⟨h1, h2, h3⟩ := takeNode_of (s := s) e n
  rw [hr]
  refine ⟨?_, ?_, ?_⟩
  · rw [nextRound_get (by decide +kernel) (by decide +kernel) (by decide +kernel), h1]
  · rw [State.on_eq, nextRound_get (by decide +kernel) (by decide +kernel) (by decide +kernel), ← State.on_eq, h2]
  · rw [State.on_eq, nextRound_get (by decide +kernel) (by decide +kernel) (by decide +kernel), h3, ← State.on_eq, hd]

/-- The third empty round ends discovery. -/
theorem discoverRoundEnd_last (h : masterOn s = true) (hd : s.on MGR_DISC 0 = true) (hh : s.hellos = []) (he : s.get MGR_EMPTY 0 = 2) :
    (discoverRoundEnd s).on MGR_DISC 0 = false ∧ (discoverRoundEnd s).out = s.out := by
  have hr : discoverRoundEnd s = (showMgr (({ s with hellos := [] } : State).set MGR_EMPTY 0 3)).set MGR_DISC 0 0 := by
    rw [discoverRoundEnd, h, hd, if_neg (by decide), hh]
    simp [he]
  rw [hr]
  refine ⟨?_, rfl⟩
  rw [State.on_eq, State.get_set_self]
  rfl

/-! ## Requests and replies of the master (R595, R598, R603, R613, R621) -/

/-- The slot with the only assigned node. -/
theorem nodes_one {n : Nat} (hn : n < 64) (h : s.on MGR_NODE_STATE n = true) (ho : ∀ k < 64, k ≠ n → s.on MGR_NODE_STATE k = false) :
    nodes s = [n] := by
  have hp : ∀ k ∈ List.range 64, s.on MGR_NODE_STATE k = (k == n) := by
    intro k hk
    by_cases hkn : k = n
    · rw [hkn, h, beq_self_eq_true]
    · rw [ho k (List.mem_range.mp hk) hkn, beq_false_of_ne hkn]
  have hc : (List.range 64).count n = 1 := List.count_eq_one_of_mem List.nodup_range (List.mem_range.mpr hn)
  rw [nodes, List.filter_congr hp, List.filter_beq, hc]
  rfl

theorem pollPeriod_one {n : Nat} (hm : masterOn s = true) (hn : nodes s = [n]) (hq : s.dnQ = []) :
    (pollPeriod s).dnQ = [⟨n + 1, 0, s.get MGR_SEQ 0, [], 0⟩] ∧
    (pollPeriod s).out = s.out ++ [claikOut false (n + 1) 0 (s.get MGR_SEQ 0) []] := by
  have hp : pollPeriod s = claikSend (n + 1) 0 [] s := by
    rw [pollPeriod, hn, List.foldl_cons, List.foldl_nil, hq]
    rfl
  have hs : claikSend (n + 1) 0 [] s = sendFront (({ s with dnQ := [⟨n + 1, 0, s.get MGR_SEQ 0, [], 0⟩] } : State).bump MGR_SEQ 0) := by
    rw [claikSend, hm, if_neg (by decide), hq]
    rfl
  rw [hp, hs]
  exact ⟨rfl, rfl⟩

theorem harvestTimer_one {n : Nat} (hm : masterOn s = true) (hn : nodes s = [n]) : harvestTimer s = harvestChild n s := by
  rw [harvestTimer, if_pos hm, hn]
  rfl

/-- A reply from an address that no node has, with no request outstanding. -/
theorem downFrame_stray {a t : Nat} {g : State → State} (hm : masterOn s = true) (ha : ¬(1 ≤ a ∧ a ≤ 64)) (hq : s.dnQ = []) :
    downFrame a t g s = g (s.bump CLB_DNCNT_VALID 0) := by
  have hb : (s.bump CLB_DNCNT_VALID 0).dnQ = [] := hq
  rw [downFrame, hm, if_neg (by decide)]
  dsimp only
  rw [if_neg ha]
  simp only [hb]

/-- A reply from a node that ends the one request outstanding. -/
theorem downFrame_ends {a t : Nat} {g : State → State} {r : ClaikReq} {v : State} (hm : masterOn s = true) (ha : 1 ≤ a ∧ a ≤ 64)
    (hv : v = lower 307 a ((s.bump CLB_DNCNT_VALID 0).set MGR_NODE_MISSED (a - 1) 0)) (hq : v.dnQ = [r]) (hr : r.addr = a) (ht : r.typ = t) :
    downFrame a t g s = g { v with dnQ := [] } := by
  rw [downFrame, hm, if_neg (by decide)]
  dsimp only
  rw [if_pos ha, ← hv]
  simp only [hq, hr, ht, and_self, if_true]
  rfl

/-- A reply from a node with no request outstanding. -/
theorem downFrame_node {a t : Nat} {g : State → State} {v : State} (hm : masterOn s = true) (ha : 1 ≤ a ∧ a ≤ 64)
    (hv : v = lower 307 a ((s.bump CLB_DNCNT_VALID 0).set MGR_NODE_MISSED (a - 1) 0)) (hq : v.dnQ = []) : downFrame a t g s = g v := by
  rw [downFrame, hm, if_neg (by decide)]
  dsimp only
  rw [if_pos ha, ← hv]
  simp only [hq]

/-- Whatever is outstanding, a reply is handed on with the registers as they were, but for its count and the misses of its node. -/
theorem downFrame_get {a t : Nat} {g : State → State} (hm : masterOn s = true) (ha : 1 ≤ a ∧ a ≤ 64) :
    ∃ v : State, downFrame a t g s = g v ∧ ∀ (f : Field) (i : Nat), byRaise f.id = false → MGR_NODE_MISSED.id ≠ f.id → CLB_DNCNT_VALID.id ≠ f.id →
      v.get f i = s.get f i := by
  let v := lower 307 a ((s.bump CLB_DNCNT_VALID 0).set MGR_NODE_MISSED (a - 1) 0)
  have hv (f : Field) (i : Nat) (hb : byRaise f.id = false) (h1 : MGR_NODE_MISSED.id ≠ f.id) (h2 : CLB_DNCNT_VALID.id ≠ f.id) :
      v.get f i = s.get f i := by
    rw [get_lower _ _ hb, get_set_ne _ _ _ _ h1, State.bump_eq, get_set_ne _ _ _ _ h2]
  have hd : downFrame a t g s = match v.dnQ with
      | r :: q => if r.addr = a ∧ r.typ = t then g (sendFront { v with dnQ := q }) else g v
      | [] => g v := by
    rw [downFrame, hm, if_neg (by decide)]
    dsimp only
    rw [if_pos ha] <;> rfl
  cases hq : v.dnQ with
  | nil => exact ⟨v, by rw [hd, hq], hv⟩
  | cons r q =>
    by_cases hr : r.addr = a ∧ r.typ = t
    · refine ⟨sendFront { v with dnQ := q }, by rw [hd, hq]; exact if_pos hr, fun f i hb h1 h2 => ?_⟩
      rw [sendFront_get]
      exact hv f i hb h1 h2
    · exact ⟨v, by rw [hd, hq]; exact if_neg hr, hv⟩

/-- A node with losses is degraded. -/
theorem stateOf_losses (l : BitVec 8) (u : Word) : (if (l != 0 || u != 0) = true then 2 else 1) = if l = 0 ∧ u = 0 then 1 else 2 := by
  by_cases h : l = 0 ∧ u = 0
  · rw [if_pos h, h.1, h.2]
    rfl
  · rw [if_neg h, if_pos]
    rw [Bool.or_eq_true, bne_iff_ne, bne_iff_ne]
    exact Decidable.not_and_iff_not_or_not.mp h

/-- What the STATUS of a node in service, or in its first poll, brings about. -/
theorem status_get {a : Nat} {m : StatusMsg} (hm : masterOn s = true) (ha : 1 ≤ a ∧ a ≤ 64) (h3 : s.is MGR_NODE_STATE (a - 1) 3 = false)
    (hl : m.locked = false) : (status a m s).get MGR_NODE_USED (a - 1) = m.used.toNat ∧
    (status a m s).get MGR_NODE_STATE (a - 1) = if m.lost = 0 ∧ m.unrec = 0 then 1 else 2 := by
  rw [status]
  obtain ⟨v, hv, hget⟩ := downFrame_get (g := _) hm ha
  rw [hv, if_neg (by omega)]
  extract_lets n was worse st newly t₁ t₂ t₃ t₄ t₅ t₆
  have h₃ (f : Field) (hb : byRaise f.id = false) : t₃.get f n = t₂.get f n := by
    dsimp only [t₃]
    split
    · exact get_pulse _ _ hb ..
    · rfl
  have h₄ : t₄ = t₃ := if_neg (by simp [hl])
  have h₅ (f : Field) (hs : MGR_SEQ.id ≠ f.id) (hg : MGR_NODE_GRANT.id ≠ f.id) : t₅.get f n = t₄.get f n := by
    dsimp only [t₅]
    split
    · exact setGrant_get hs hg ..
    · rfl
  have h₆ (f : Field) (hb : bySettle f.id = false) (hs : MGR_SEQ.id ≠ f.id) : t₆.get f n = t₅.get f n := by
    dsimp only [t₆]
    split
    · exact harvestChild_get hb hs ..
    · rfl
  have hall (f : Field) (hb : byRaise f.id = false) (hb' : bySettle f.id = false) (hs : MGR_SEQ.id ≠ f.id) (hg : MGR_NODE_GRANT.id ≠ f.id)
      (hw : f.id ∉ shownMgr) : (showMgr (serveWants t₆)).get f n = t₂.get f n := by
    rw [showMgr_get hw, serveWants_get hs hg, h₆ f hb' hs, h₅ f hs hg, h₄, h₃ f hb]
  have hst : st = if m.lost = 0 ∧ m.unrec = 0 then 1 else 2 := by
    have hwas : was ≠ 3 := by
      dsimp only [was]
      rw [hget _ _ (by decide +kernel) (by decide +kernel) (by decide +kernel)]
      simpa [State.is_eq] using h3
    dsimp only [st, worse]
    rw [if_neg hwas]
    exact stateOf_losses ..
  constructor
  · rw [hall _ (by decide +kernel) (by decide +kernel) (by decide +kernel) (by decide +kernel) (by decide +kernel)]
    simp (disch := decide +kernel) [t₂]
    exact Nat.mod_eq_of_lt m.used.isLt
  · rw [hall _ (by decide +kernel) (by decide +kernel) (by decide +kernel) (by decide +kernel) (by decide +kernel), ← hst]
    simp (disch := decide +kernel) [t₂]
    rw [hst]
    split <;> decide

theorem ack_grant {a x : Nat} {r : ClaikReq} (hm : masterOn s = true) (hq : s.dnQ = [r]) (hr : r.addr = a) (ht : r.typ = 3) (ha : 1 ≤ a ∧ a ≤ 64) :
    (ack a x s).get MGR_NODE_USED (a - 1) = x % 2 ^ MGR_NODE_USED.width := by
  obtain ⟨v, hv, -⟩ := downFrame_get (t := r.typ) (g := fun t => if r.typ = 3 && 1 ≤ a && a ≤ 64 then showMgr (t.set MGR_NODE_USED (a - 1) x) else t)
    hm ha
  have hack : ack a x s = showMgr (v.set MGR_NODE_USED (a - 1) x) := by
    rw [ack, hq]
    dsimp only
    rw [if_pos hr, hv, if_pos (by simp [ht, ha])]
  rw [hack, showMgr_get (by decide +kernel), State.get_set_self]

theorem ack_stray {a x : Nat} (hm : masterOn s = true) (hq : s.dnQ = []) (ha : 64 < a) : ack a x s = s.bump CLB_DNCNT_VALID 0 := by
  rw [ack, hq]
  exact downFrame_stray hm (by omega) hq

theorem record_node {a : Nat} {es : List (BitVec 256)} {v : State} (hm : masterOn s = true) (ha : 1 ≤ a ∧ a ≤ 64) (hq : v.dnQ = [])
    (hv : v = lower 307 a ((s.bump CLB_DNCNT_VALID 0).set MGR_NODE_MISSED (a - 1) 0))
    (hroom : v.harvest.length + es.length ≤ 16384 * v.get MGR_HARV_SIZE 0) :
    record a es s = harvestChild (a - 1) (({ v with harvest := v.harvest ++ es.map fun e => (v.get MGR_NODE_POD (a - 1), v.timeUs, e) } : State).set
      MGR_CSEQ (a - 1) (v.get MGR_CSEQ (a - 1) + es.length)) := by
  have hdrop : (v.harvest ++ es.map fun e => (v.get MGR_NODE_POD (a - 1), v.timeUs, e)).length - 16384 * v.get MGR_HARV_SIZE 0 = 0 := by
    rw [List.length_append, List.length_map]
    omega
  rw [record, downFrame_node hm ha hv hq, if_neg (by omega)]
  dsimp only
  rw [hdrop, List.drop_zero]
  rfl

/-! ## The roll-out of a flacon (R620) -/

section
variable {a : Nat} {r : ClaikReq} {v : State}

/-- FWSTAT of a child that the roll-out serves. -/
theorem fwstat_of (hm : masterOn s = true) (ha : 1 ≤ a ∧ a ≤ 64) (hq : s.dnQ = [r]) (hr : r.addr = a) (ht : r.typ = 7)
    (hv : v = lower 307 a ((s.bump CLB_DNCNT_VALID 0).set MGR_NODE_MISSED (a - 1) 0)) (hvq : v.dnQ = [r])
    (hact : s.on MGR_FWACT (a - 1) = true) (missing : List Nat) (ok : Bool) : fwstat a missing ok s =
      if !missing.isEmpty then claikSend a 7 (bytesOf 1 0) (missing.foldl (fun u o => claikCast 6 (bytesOf 4 o) u) { v with dnQ := [] })
      else if !(r.payload == bytesOf 1 1) then claikSend a 7 (bytesOf 1 1) { v with dnQ := [] }
      else fwStep ((if ok then { v with dnQ := [] } else ({ v with dnQ := [] } : State).addSat MGR_FW_FAIL 0 1).set MGR_FWACT (a - 1) 0) := by
  have hon : ({ v with dnQ := [] } : State).on MGR_FWACT (a - 1) = true := by
    change v.on MGR_FWACT (a - 1) = true
    rw [← hact, hv]
    simp (disch := decide +kernel) [State.on_eq, State.bump_eq]
  have hcommit : (s.dnQ.any fun x => x.addr == a && x.typ == 7 && x.payload == bytesOf 1 1) = (r.payload == bytesOf 1 1) := by
    simp [hq, hr, ht]
  rw [fwstat]
  dsimp only
  rw [downFrame_ends hm ha hv hvq hr ht, hcommit, hon, if_neg (by simp; omega)]

end

theorem fwstat_stray {a : Nat} {ok : Bool} (hm : masterOn s = true) (ha : 64 < a) (hq : s.dnQ = []) (missing : List Nat) :
    fwstat a missing ok s = s.bump CLB_DNCNT_VALID 0 := by
  rw [fwstat]
  dsimp only
  rw [downFrame_stray hm (by omega) hq, if_pos (by omega)]

theorem mgrFwGo_busy (hb : s.on MGR_FW_BUSY 0 = true) : mgrFwGo s = s := by rw [mgrFwGo, hb, if_pos (by simp)]

theorem mgrFwGo_outside (hm : masterOn s = false) : mgrFwGo s = s := by rw [mgrFwGo, hm]; rfl

/-- The roll-out begins with no child served and no failure. -/
theorem mgrFwGo_of (hm : masterOn s = true) (hb : s.on MGR_FW_BUSY 0 = false) : ∃ u, mgrFwGo s = fwStep u ∧ u.on MGR_FW_BUSY 0 = true ∧
    u.get MGR_FW_FAIL 0 = 0 ∧ u.get MGR_FWNEXT 0 = 0 := by
  let t := forBelow 64 (fun n u => u.set MGR_FWACT n 0) (s.setMany 0 [(MGR_FW_BUSY, 1), (MGR_FW_FAIL, 0), (MGR_FWNEXT, 0)])
  have hget (f : Field) (hs : MGR_SEQ.id ≠ f.id) (hf : MGR_FWACT.id ≠ f.id) : (if t.is GLB_ROLE_LEVEL 0 1 then t else claikCast 6 [] t).get f 0 =
      (s.setMany 0 [(MGR_FW_BUSY, 1), (MGR_FW_FAIL, 0), (MGR_FWNEXT, 0)]).get f 0 := by
    have ht : t.get f 0 = (s.setMany 0 [(MGR_FW_BUSY, 1), (MGR_FW_FAIL, 0), (MGR_FWNEXT, 0)]).get f 0 :=
      forBelow_get (fun n u => get_set_ne _ _ _ _ hf) 64 _
    split
    · exact ht
    · rw [claikCast_get hs, ht]
  refine ⟨if t.is GLB_ROLE_LEVEL 0 1 then t else claikCast 6 [] t, ?_, ?_, ?_, ?_⟩
  · rw [mgrFwGo, hm, hb, if_neg (by decide)]
  · rw [State.on_eq, hget _ (by decide +kernel) (by decide +kernel)]
    simp (disch := decide +kernel)
  · rw [hget _ (by decide +kernel) (by decide +kernel)]
    simp (disch := decide +kernel)
  · rw [hget _ (by decide +kernel) (by decide +kernel)]
    simp

/-! ## Time-outs (R595, R598, R603) -/

/-- A request is repeated twice at most. -/
theorem claikTimeout_again {r : ClaikReq} {q : List ClaikReq} (hq : s.dnQ = r :: q) (ht : r.tries < 2) : claikTimeout s =
    (({ s with dnQ := { r with tries := r.tries + 1 } :: q } : State).bump CLB_RETRY_REPEATS 0).emit (claikOut false r.addr r.typ r.seq r.payload) := by
  rw [claikTimeout, hq]
  dsimp only
  rw [if_pos ht]
  rfl

/-- The third poll in a row that fails. -/
theorem claikTimeout_poll {r : ClaikReq} (hq : s.dnQ = [r]) (ht : 2 ≤ r.tries) (h1 : 1 ≤ r.addr) (h64 : r.addr ≤ 64) (h0 : r.typ = 0)
    (hm : s.is MGR_NODE_MISSED (r.addr - 1) 2 = true) :
    claikTimeout s = raise 307 r.addr (({ s with dnQ := [] } : State).addSat MGR_NODE_MISSED (r.addr - 1) 1) := by
  have hn : (({ s with dnQ := [] } : State).addSat MGR_NODE_MISSED (r.addr - 1) 1).is MGR_NODE_MISSED (r.addr - 1) 3 = true := by
    have h2 : s.get MGR_NODE_MISSED (r.addr - 1) = 2 := by simpa [State.is_eq] using hm
    have h2' : ({ s with dnQ := [] } : State).get MGR_NODE_MISSED (r.addr - 1) = 2 := h2
    rw [State.is_eq, State.addSat, State.get_set_self, h2']
    decide
  rw [claikTimeout, hq]
  dsimp only
  rw [if_neg (by omega), if_neg (by omega), if_pos h0]
  exact if_pos hn

theorem claikTimeout_idle (hq : s.dnQ = []) : claikTimeout s = s := by simp only [claikTimeout, hq]

/-! ## Doorbells (R602) -/

theorem vendorDoorbell_outside (h : s.is GLB_ROLE_ROLE 0 2 = false) (off : Nat) : vendorDoorbell off s = s := by rw [vendorDoorbell, h]; rfl

theorem vendorDoorbell_of {off : Nat} (h : s.is GLB_ROLE_ROLE 0 2 = true) (h8 : 0x8000 ≤ off) (h9 : off < 0x9000)
    (hq : off % 0x40 / 4 ≤ peerQueues (barrier s)) : vendorDoorbell off s =
      showMgr (fwStep (serviceQueue ((off - 0x8000) / 0x40) (off % 0x40 / 4) 33 (barrier s))) := by
  rw [vendorDoorbell, h, if_neg (by simp; omega)]
  exact if_pos hq

end

/-- Settles O60: outside the role nothing changes; in it, command by command. -/
theorem shelfManager : Obligations.ShelfManager := by
  unfold Obligations.ShelfManager
  refine ⟨fun s hr => ⟨fun h => ?_, fun h => ?_, fun hm => ?_, fun r q hq ht => done_onClaik hr (claikTimeout_again hq ht),
    fun r hq ht h1 h64 h0 hm => done_onClaik hr (claikTimeout_poll hq ht h1 h64 h0 hm), fun hq => done_onClaik hr (claikTimeout_idle hq)⟩,
    fun s hr => ⟨fun off v h => done_onMedia hr (vendorDoorbell_outside h off), fun off v h h8 h9 hq => done_onMedia hr (vendorDoorbell_of h h8 h9 hq)⟩⟩
  · have hm := masterOn_of_role h
    refine ⟨fun r n z => done_onClaik hr (mgrRun_outside h r n z), fun b => done_onClaik hr ?_, done_onClaik hr (mgrFwGo_outside hm),
      done_onClaik hr (syncOutFault_outside h), fun a m => done_onClaik hr (downFrame_outside hm ..),
      fun e r l => done_onClaik hr (hello_outside hm _), fun w => done_onClaik hr ?_, fun w n => done_onClaik hr ?_⟩
    · rw [mgrDiscover, hm]
      rfl
    · rw [workerSilent, h]
      rfl
    · rw [peerCommandTimeout, h]
      rfl
  · refine ⟨fun n z => ⟨_, done_onClaik hr (mgrRun_stop h n z), showMgr_stopped⟩, fun n z hn => ?_, fun n z hn => ?_,
      fun w hw hl => done_onClaik hr (workerSilent_member h hw hl), fun w hl => done_onClaik hr (workerSilent_lost h hl),
      fun w n p hn hp hb => ⟨_, done_onClaik hr rfl, peerCommandTimeout_out h hn hp hb⟩, fun he hl => done_onClaik hr (syncOutFault_of h he hl)⟩
    · refine ⟨_, done_onClaik hr (mgrRun_noMembers h hn n z), ?_, ?_, ?_, rfl, rfl⟩
      · rw [State.on_eq, showMgr_get (by decide +kernel), State.get_set_self]
        rfl
      · rw [showMgr_get (by decide +kernel), get_set_ne _ _ _ _ (by decide +kernel)]
      · rw [showMgr_get (by decide +kernel), get_set_ne _ _ _ _ (by decide +kernel)]
    · exact ⟨_, done_onClaik hr rfl, mgrRun_geometry h hn n z⟩
  · refine ⟨fun b => ⟨_, done_onClaik hr rfl, mgrDiscover_of hm b.toNat⟩, fun e r l hd hc => done_onClaik hr ?_, fun e r l hd hc hn hp => done_onClaik hr ?_,
      fun e r l n hd hc hs => done_onClaik hr ?_, fun e n hd hh hs hf => ⟨_, done_onClaik hr rfl, discoverRoundEnd_one hm hd hh hs hf⟩,
      fun hd hh he => ⟨_, done_onClaik hr rfl, discoverRoundEnd_last hm hd hh he⟩, fun hd => done_onClaik hr (discoverRoundEnd_stopped hd),
      fun n hn h ho hq => ⟨_, done_onClaik hr rfl, pollPeriod_one hm (nodes_one hn h ho) hq⟩, ⟨done_onClaik hr ?_, done_onClaik hr ?_⟩,
      fun n ho hn h => done_onClaik hr (harvestTimer_one hm (nodes_one hn h ho)), fun a m hq ha => done_onClaik hr ?_,
      fun a m h1 h64 h3 hl => ⟨_, done_onClaik hr rfl, status_get hm ⟨h1, h64⟩ h3 hl⟩,
      fun a q v r hq hra ht h1 h64 => ⟨_, done_onClaik hr rfl, (ack_grant hm hq hra ht ⟨h1, h64⟩).trans (Nat.mod_eq_of_lt v.isLt)⟩,
      fun a v hq ha => done_onClaik hr (ack_stray hm hq ha), fun a ok ha hq => done_onClaik hr (fwstat_stray hm ha hq []),
      fun a ok v r h1 h64 hq hra ht hv hvq hact => ⟨fun o => done_onClaik hr ?_, fun hp => done_onClaik hr ?_, fun hp => done_onClaik hr ?_⟩,
      fun a es ha hq => done_onClaik hr ?_, fun a es v h1 h64 hvq hv hroom => done_onClaik hr (record_node hm ⟨h1, h64⟩ hvq hv hroom),
      fun hb => ?_, fun hb => done_onClaik hr (mgrFwGo_busy hb)⟩
    · rw [hello_of hm hd, if_pos hc]
    · have hnone : mappedSlot e.toNat { s.bump CLB_DNCNT_VALID 0 with hellos := s.hellos ++ [e.toNat] } = none := by
        refine mappedSlot_none (fun n hn' => ?_) ?_
        · change (s.bump CLB_DNCNT_VALID 0).on MGR_NODE_STATE n = false
          rw [State.bump_eq, on_set_ne _ _ _ _ (by decide +kernel), hn n hn']
        · change (s.bump CLB_DNCNT_VALID 0).on MGR_MAPPED 0 = false
          rw [State.bump_eq, on_set_ne _ _ _ _ (by decide +kernel), hp]
      rw [hello_of hm hd, if_neg (by rw [hc]; decide), hnone]
    · rw [hello_of hm hd, if_neg (by rw [hc]; decide), hs]
    · rw [reservedType, if_neg (by decide), if_pos hm]
    · rw [claikCrc, if_neg (by decide), if_pos hm]
    · rw [status, downFrame_stray hm (by omega) hq, if_pos ha]
    · rw [fwstat_of hm ⟨h1, h64⟩ hq hra ht hv hvq hact]
      rfl
    · rw [fwstat_of hm ⟨h1, h64⟩ hq hra ht hv hvq hact, hp]
      rfl
    · rw [fwstat_of hm ⟨h1, h64⟩ hq hra ht hv hvq hact, hp]
      rfl
    · rw [record, downFrame_stray hm (by omega) hq, if_pos (by omega)]
    · obtain ⟨u, hu, h⟩ := mgrFwGo_of hm hb
      exact ⟨u, done_onClaik hr hu, h⟩

end Sys2Proof.Machine
end

section
/-! PROOFS. Writing a frame (spec/02, spec/03): its start and its end. -/

namespace Sys2Proof.Machine

set_option Elab.async false

/-! ## A write that begins takes its place in the lane (R81, R113) -/

section
variable {l : Nat} {s : State}

/-- The lanes are among what an assertion leaves alone. -/
theorem lanes_of_apart {t : State} (h : t.apart = s.apart) : t.lanes = s.lanes := by
  have hl := congrArg State.lanes h
  exact hl

theorem apart_updateFrange : (updateFrange l s).apart = s.apart := by
  simp [updateFrange, setFrange, apart_ite]

theorem apart_takeLoad (op : FrameOp) : (takeLoad l op s).apart = s.apart := by
  unfold takeLoad
  split
  · rw [applyLoad, apart_updateFrange, apart_forAll _ _ _ (fun _ _ => apart_setBit ..)]
    rfl
  · rfl

theorem apart_beginFrame (x : Int) : (startFrame l x (loadLoops l s)).apart = s.apart := by
  rw [startFrame, apart_setI, apart_setMany, apart_setI, loadLoops, apart_setMany]

theorem beginLaneWrite_none (h : (s.lane l).wnext = none) : beginLaneWrite l s = s := by simp only [beginLaneWrite, h]

/-- The write whose start was decided is the lane's present one. -/
theorem beginLaneWrite_lane {op : FrameOp} {b : List Bool} {t0 : Nat} (hn : (s.lane l).wnext = some (op, b, t0)) (hc : (s.lane l).cur = none)
    (hw : (s.lane l).wcur = none) :
    (beginLaneWrite l s).lane l = { s.lane l with wcur := some (op, b), wnext := none, flags := newSpans l s } := by
  let t := takeLoad l op (s.setLane l { s.lane l with wcur := some (op, b), wnext := none, flags := newSpans l s })
  have hb : (beginLaneWrite l s).apart = t.apart := by
    rw [beginLaneWrite]
    dsimp only
    rw [hn]
    dsimp only
    rw [if_neg (by rw [hc, hw]; decide), apart_recheckWrite, apart_setMany, setGate, apart_setMany, apart_beginFrame]
  have hl : (beginLaneWrite l s).lanes = (s.setLane l { s.lane l with wcur := some (op, b), wnext := none, flags := newSpans l s }).lanes :=
    lanes_of_apart (hb.trans (apart_takeLoad op))
  rw [State.lane, hl]
  exact lane_setLane_self ..

end

/-! ## The end of a frame that has been written (R110, R116, R118) -/

section
variable {l : Nat} {s : State} {op : FrameOp} {b : List Bool}

theorem frameWriteEnd_running (h : (s.lane l).wcur = some (op, b)) (hp : framePassed l s = false) : frameWriteEnd l s = s := by
  simp only [frameWriteEnd, h, hp, Bool.not_false, if_true]

/-- The lane after a frame's end: the frame leaves the write buffer, and nothing is written until the next begins. -/
def endedLane (l : Nat) (op : FrameOp) (s : State) : LaneQ :=
  { s.lane l with wbuf := (s.lane l).wbuf.filter fun w => w.1 ≠ op, wcur := none }

/-- The end of a frame: its result, what the write-data pair has carried, and the gate dropped. -/
def endFrame (l : Nat) (op : FrameOp) (r : CwResult) (o : Out) (s : State) : State :=
  post r ((setGate l false ((s.emit o).setLane l (endedLane l op s))).setMany l [(LAN_TRUNC, 0), (LAN_SPLIT, 0)])

theorem frameWriteEnd_of (h : (s.lane l).wcur = some (op, b)) (hp : framePassed l s = true) : frameWriteEnd l s =
    beginLaneWrite l (endFrame l op (resultOf l op 0 (if s.on LAN_TRUNC l then 0xC else 0xB) 0 (if s.on LAN_TRUNC l then s.get LAN_TRUNCOFF l else 0) 0)
      (writeData l (b.take (if s.on LAN_TRUNC l then s.get LAN_TRUNCOFF l else b.length)) s) s) := by
  have hd (o : Out) : (dropFrame l op (s.emit o)).setLane l { (dropFrame l op (s.emit o)).lane l with wcur := none } =
      (s.emit o).setLane l (endedLane l op s) := by
    rw [dropFrame, setLane_setLane, lane_setLane_self]
    rfl
  simp only [frameWriteEnd, h, hp, Bool.not_true, Bool.false_eq_true, if_false, hd]
  rfl

theorem endFrame_lane (r : CwResult) (o : Out) : (endFrame l op r o s).lane l = endedLane l op s := by
  change ((s.emit o).setLane l (endedLane l op s)).lane l = _
  rw [lane_setLane_self]

theorem endFrame_keeps (r : CwResult) (o : Out) : Keeps [LAN_STS_WRITING, LAN_PAIR, LAN_TRUNC, LAN_SPLIT] s (endFrame l op r o s) := by
  have hpost (t : State) : Keeps [LAN_STS_WRITING, LAN_PAIR, LAN_TRUNC, LAN_SPLIT] s (post r t) ↔
      Keeps [LAN_STS_WRITING, LAN_PAIR, LAN_TRUNC, LAN_SPLIT] s t := Iff.rfl
  rw [endFrame, hpost]
  simp (disch := decide +kernel) only [setGate, State.setMany_cons, State.setMany_nil, keeps_set, keeps_setLane, keeps_emit]
  exact Keeps.refl

end

/-- Settles O19: the start by the conditions that the model tests, the end by whether a next frame waits. -/
theorem frameWrites : Obligations.FrameWrites := by
  unfold Obligations.FrameWrites
  intro s l hr
  refine ⟨fun op q b t0 hq hwr hl hc hw hn hf hb ha hal ht hm hwin =>
      exec_frameWriteStart_of hr (frameWriteStart_of hq ht hwr hl hc hw hn hf hb ha hal hm hwin),
    fun op q t0 hq ht hb => exec_frameWriteStart_of hr (frameWriteStart_away hq ht hb),
    fun op b h hp => exec_frameWriteEnd_of hr (frameWriteEnd_running h hp), fun op op' b b' t0 h hp hc hn => ?_, fun op b h hp hn => ?_⟩
  · refine ⟨_, exec_frameWriteEnd_of hr (frameWriteEnd_of h hp), ?_⟩
    rw [beginLaneWrite_lane (op := op') (b := b') (t0 := t0) (by rw [endFrame_lane]; exact hn) (by rw [endFrame_lane]; exact hc)
      (by rw [endFrame_lane]; rfl)]
    exact ⟨rfl, rfl⟩
  · refine ⟨_, exec_frameWriteEnd_of hr ((frameWriteEnd_of h hp).trans (beginLaneWrite_none (by rw [endFrame_lane]; exact hn))), ?_, ?_, ?_, endFrame_keeps ..⟩
    · rw [endFrame_lane]
      rfl
    · intro ht
      simp only [ht, Bool.false_eq_true, if_false, List.take_length]
      exact ⟨rfl, rfl⟩
    · intro ht
      simp only [ht, if_true]
      exact ⟨rfl, rfl⟩

end Sys2Proof.Machine
end

section
/-! PROOFS. Restart of the accord engine: restore from a checkpoint and resynchronisation (spec/04, R246–R248). -/

namespace Sys2Proof.Machine

set_option Elab.async false

/-! ## What the judgement of the members and of the spare bands leaves alone (R200, R212) -/

/-- The fields of the spare bands. -/
def spareFields : List Field := [ACD_SPARE_FREE_FREE, ACD_SPARE_FREE_MEMBER, ACD_STS_SPARE_LOW, ACD_STS_SPARE_OUT]

section
variable {f : Field} {i : Nat} (s : State)

theorem showSpare_get (hr : byRaise f.id = false) (hf : ∀ g ∈ spareFields, g.id ≠ f.id) (n x : Nat) : (showSpare n x s).get f i = s.get f i := by
  have hne {g : Field} (hg : g ∈ spareFields) (t : State) (j v : Nat) : (t.set g j v).get f i = t.get f i := get_set_ne _ _ _ _ (hf g hg)
  rw [showSpare, get_level _ _ hr, get_level _ _ hr]
  simp only [get_setMany_cons, get_setMany_nil]
  rw [hne (by simp [spareFields]), hne (by simp [spareFields]), hne (by simp [spareFields]), hne (by simp [spareFields])]

theorem updateSpare_get (hr : byRaise f.id = false) (hf : ∀ g ∈ spareFields, g.id ≠ f.id) : (updateSpare s).get f i = s.get f i := by
  unfold updateSpare
  cases ((spareMembers s).map fun x => ((bandsFree x s).length, x)).foldl fewer none with
  | none => rfl
  | some p => exact showSpare_get s hr hf _ _

theorem updateMembers_get (hr : byRaise f.id = false) (hf : ∀ g ∈ spareFields, g.id ≠ f.id) : (updateMembers s).get f i = s.get f i := by
  have hm : (withFollow (memberStates s)).get f i = s.get f i :=
    keep_withFollow (closed_get hr i _) _ (keep_memberStates (closed_get hr i _) s rfl)
  rw [updateMembers, respare]
  split
  · exact hm
  · exact (updateSpare_get _ hr hf).trans hm

theorem updateSpare_apart : (updateSpare s).apart = s.apart := by
  unfold updateSpare
  cases ((spareMembers s).map fun x => ((bandsFree x s).length, x)).foldl fewer none with
  | none => rfl
  | some p => simp [showSpare]

theorem updateMembers_apart : (updateMembers s).apart = s.apart := by simp [updateMembers, respare, apart_ite, updateSpare_apart]

theorem showResync_apart : (showResync s).apart = s.apart := by simp [showResync, apart_ite]

theorem showPass_apart : (showPass s).apart = s.apart := by
  unfold showPass
  split <;> simp

theorem showZones_apart : (showZones s).apart = s.apart := apart_setMany ..

theorem checkTable_apart (ok : Bool) : (checkTable ok s).apart = s.apart := by simp [checkTable, apart_ite]

end

/-! ## The zones, rows and fronts of an image (R246) -/

/-- The zones of an image, their pointers at the committed ones. -/
def AcdImage.committed (r : AcdImage) : NMap Zone :=
  r.zones.map fun e => (e.1, { e.2 with accept := e.2.wp, ready := e.2.wp, durable := e.2.wp })

/-- State `t` has the zones and fronts of image `r`, and no row under way. -/
structure Restored (r : AcdImage) (t : State) : Prop where
  zones : t.zones = r.committed
  rows : t.rows = []
  fronts : t.fronts = r.fronts

theorem Restored.ofApart {r : AcdImage} {t u : State} (h : Restored r t) (hu : u.apart = t.apart) : Restored r u := by
  have hz : u.zones = t.zones := by have e := congrArg State.zones hu; exact e
  have hw : u.rows.map RowRec.unwritten = t.rows.map RowRec.unwritten := by have e := congrArg State.rows hu; exact e
  have hf : u.fronts = t.fronts := by have e := congrArg State.fronts hu; exact e
  exact ⟨hz.trans h.zones, List.map_eq_nil_iff.1 (hw.trans (by rw [h.rows]; rfl)), hf.trans h.fronts⟩

theorem Restored.storeUnrec {r : AcdImage} {t : State} (h : Restored r t) : Restored r (storeUnrec t) := by
  unfold Machine.storeUnrec
  split
  · exact h
  · exact ⟨h.zones, h.rows, h.fronts⟩

theorem Restored.showUnrec {r : AcdImage} {t : State} (h : Restored r t) : Restored r (showUnrec t) :=
  (h.ofApart (apart_setMany ..)).storeUnrec

theorem applyImage_restored (r : AcdImage) (s : State) : Restored r (applyImage r s) := by
  unfold applyImage
  extract_lets _regs _acd t _lost _named _count _olds _rows
  have h : Restored r t := ⟨rfl, rfl, rfl⟩
  refine (h.ofApart ?_).showUnrec
  rw [showPass_apart, showZones_apart, apart_forBelow _ _ _ fun i u => apart_setMany .., apart_forAll _ _ _ fun p u => apart_setMany .., apart_set,
    apart_set, apart_set]

/-! ## Restore (R246, R247) -/

theorem checkpointRestore_none {a b : List (Nat × Nat)} {s : State} (h : newestBy (·.ckpt) (readableSaves a s) = none) :
    checkpointRestore a b s = s := by
  simp [checkpointRestore, h]

/-- The numbers of the records after a restore. -/
def restoredNumbers (c r : AcdImage) (s : State) : State :=
  (applyImage r s).setMany 0 [(ACD_JRNL_SEQ, r.seq), (ACD_JSEQ, Nat.max (s.get ACD_JSEQ 0) r.seq), (ACD_KSEQ, c.ckpt)]

/-- The zones of record `r` wait for their resynchronisation. -/
def restoredWaiting (r : AcdImage) (s : State) : State := { s with acd := { s.acd with resync := resyncZones (some r) s } }

theorem restoredWaiting_apart (r : AcdImage) (s : State) : (restoredWaiting r s).apart = s.apart := by
  unfold restoredWaiting
  rfl

theorem restoredWaiting_get {f : Field} {i : Nat} (r : AcdImage) (s : State) : (restoredWaiting r s).get f i = s.get f i := by
  unfold restoredWaiting
  rfl

/-- The end of a restore: the table checked, the zones to resynchronise, the members judged. -/
def restoredEnd (c r : AcdImage) (t : State) : State :=
  updateSpare (updateMembers (showResync ((restoredWaiting r (checkTable (plcCrc t == c.crc) t)).set ACD_RESYNC_SCAN 0 0)))

theorem checkpointRestore_some {a b : List (Nat × Nat)} {c r : AcdImage} {s : State} (hc : newestBy (·.ckpt) (readableSaves a s) = some c)
    (hr : newestBy (·.seq) (readableRecords b c.ckpt s) = some r) :
    checkpointRestore a b s = restoredEnd c r (restoredNumbers c r s) := by
  simp only [checkpointRestore, hc, hr, Option.getD_some, Option.map_some, Option.isNone_some, Bool.toNat_false, restoredEnd, restoredWaiting,
    restoredNumbers]

theorem restoredEnd_apart (c r : AcdImage) (t : State) : (restoredEnd c r t).apart = t.apart := by
  rw [restoredEnd, updateSpare_apart, updateMembers_apart, showResync_apart, apart_set, restoredWaiting_apart,
    checkTable_apart]

/-- The fields that show the resynchronisation. -/
def resyncFields : List Field := [ACD_RESYNC_SCAN, ACD_RESYNC_ZONES, ACD_STS_RESYNC]

/-- The fields that show the check of the placement table. -/
def tableFields : List Field := [ACD_PLC_STS_CRC_FAIL, ACD_PLC_STS_PAIR_FAIL, ACD_PLC_STS_PAR_FAIL, ACD_PLC_STS_VALID, ACD_PLC_CRC]

theorem showResync_get {f : Field} {i : Nat} (hf : ∀ g ∈ resyncFields, g.id ≠ f.id) (s : State) : (showResync s).get f i = s.get f i := by
  have hne {g : Field} (hg : g ∈ resyncFields) (t : State) (j v : Nat) : (t.set g j v).get f i = t.get f i := get_set_ne _ _ _ _ (hf g hg)
  have hm : (s.setMany 0 [(ACD_RESYNC_ZONES, s.acd.resync.length),
      (ACD_STS_RESYNC, (s.on ACD_CTL_RUN 0 && !s.acd.resync.isEmpty).toNat)]).get f i = s.get f i := by
    rw [get_setMany_cons, get_setMany_cons, get_setMany_nil, hne (by simp [resyncFields]), hne (by simp [resyncFields])]
  rw [showResync]
  split
  · rw [hne (by simp [resyncFields]), hm]
  · exact hm

theorem checkTable_get {f : Field} {i : Nat} (hr : byRaise f.id = false) (hf : ∀ g ∈ tableFields, g.id ≠ f.id) (ok : Bool) (s : State) :
    (checkTable ok s).get f i = s.get f i := by
  have hne {g : Field} (hg : g ∈ tableFields) (t : State) (j v : Nat) : (t.set g j v).get f i = t.get f i := get_set_ne _ _ _ _ (hf g hg)
  have hm (a b c d e : Nat) : (s.setMany 0 [(ACD_PLC_STS_CRC_FAIL, a), (ACD_PLC_STS_PAIR_FAIL, b), (ACD_PLC_STS_PAR_FAIL, c),
      (ACD_PLC_STS_VALID, d), (ACD_PLC_CRC, e)]).get f i = s.get f i := by
    simp only [get_setMany_cons, get_setMany_nil]
    rw [hne (by simp [tableFields]), hne (by simp [tableFields]), hne (by simp [tableFields]), hne (by simp [tableFields]),
      hne (by simp [tableFields])]
  unfold checkTable
  extract_lets c v t
  split
  · exact hm ..
  · exact (get_pulse _ _ hr _ _).trans (hm ..)

theorem restoredEnd_get {f : Field} {i : Nat} (hr : byRaise f.id = false) (hf : ∀ g ∈ spareFields ++ resyncFields ++ tableFields, g.id ≠ f.id)
    (c r : AcdImage) (t : State) : (restoredEnd c r t).get f i = t.get f i := by
  have hs : ∀ g ∈ spareFields, g.id ≠ f.id := fun g hg => hf g (by simp [hg])
  have hy : ∀ g ∈ resyncFields, g.id ≠ f.id := fun g hg => hf g (by simp [hg])
  have ht : ∀ g ∈ tableFields, g.id ≠ f.id := fun g hg => hf g (by simp [hg])
  rw [restoredEnd, updateSpare_get _ hr hs, updateMembers_get _ hr hs, showResync_get hy, get_set_ne _ _ _ _ (hy _ (by simp [resyncFields])),
    restoredWaiting_get, checkTable_get hr ht]

/-! ## Resynchronisation (R248) -/

/-- A zone with nothing left to resynchronise is taken from the lists. -/
theorem resyncZone_done {d z last : Nat} {s : State} (hrun : s.on ACD_CTL_RUN 0 = true) (hz : nextResync s = some z) (hd : driveRole s = true)
    (hscan : s.on ACD_RESYNC_SCAN 0 = false) (hb : frontierBad z false s = []) : resyncZone d [] [] last s =
      showZones (showResync { s with acd := { s.acd with resync := s.acd.resync.erase z, held := s.acd.held.filter (· ≠ z) } }) := by
  simp [resyncZone, hrun, hz, hd, hscan, hb, forAll]

theorem resyncLogged_drive {d last : Nat} {bad : List (Nat × Nat)} {scan : List (Nat × List (BitVec 9))} {s : State}
    (hd : driveRole s = true) : resyncLogged d bad scan last s = resyncZone d bad scan last s := by
  simp [resyncLogged, hd]

theorem acd_setMany (s : State) (i : Nat) (l : List (Field × Nat)) : (s.setMany i l).acd = s.acd := by
  induction l generalizing s with
  | nil => rfl
  | cons e l ih => exact ih _

theorem showResync_acd (s : State) : (showResync s).acd = s.acd := by
  unfold showResync
  extract_lets t
  have ht : t.acd = s.acd := acd_setMany ..
  split
  · exact ht
  · exact ht

theorem showResync_zones (s : State) : (showResync s).get ACD_RESYNC_ZONES 0 = s.acd.resync.length % 2 ^ ACD_RESYNC_ZONES.width := by
  have hm (v : Nat) : (s.setMany 0 [(ACD_RESYNC_ZONES, s.acd.resync.length), (ACD_STS_RESYNC, v)]).get ACD_RESYNC_ZONES 0 =
      s.acd.resync.length % 2 ^ ACD_RESYNC_ZONES.width := by
    simp (disch := decide +kernel)
  rw [showResync]
  split
  · rw [get_set_ne _ _ _ _ (by decide +kernel), hm]
  · exact hm _

theorem showZones_get {f : Field} {i : Nat} (h1 : ACD_STS_ALLEMPTY.id ≠ f.id) (h2 : NVQ_ZACT_ACTIVE.id ≠ f.id) (h3 : NVQ_ZACT_OPENED.id ≠ f.id)
    (s : State) : (showZones s).get f i = s.get f i := by
  rw [showZones, get_setMany_cons, get_setMany_cons, get_setMany_cons, get_setMany_nil, get_set_ne _ _ _ _ h3, get_set_ne _ _ _ _ h2,
    get_set_ne _ _ _ _ h1]

/-- Settles O33: a restore that finds a checkpoint and a record is the image of the record, whose zones, rows, fronts and numbers the steps after
it leave alone; a resynchronised zone is erased from the lists. -/
theorem restoreAndResync : Obligations.RestoreAndResync := by
  intro s hr
  refine ⟨fun a b hst hn => ?_, fun a b c r hst hc hrec => ?_, fun side z last hrun hz hd hscan hb => ?_⟩
  · rw [exec_checkpointRestore, execCheckpointRestore]
    exact done_onMedia hr (by rw [readTables_of hst, checkpointRestore_none hn])
  · rw [exec_checkpointRestore, execCheckpointRestore]
    have himg : Restored r (restoredEnd c r (restoredNumbers c r s)) :=
      (applyImage_restored r s).ofApart ((restoredEnd_apart ..).trans (apart_setMany ..))
    refine ⟨_, done_onMedia hr (by rw [readTables_of hst, checkpointRestore_some hc hrec]), himg.zones, himg.rows, himg.fronts, ?_, ?_⟩
    · rw [restoredEnd_get (by decide +kernel) (by decide +kernel), restoredNumbers]
      simp (disch := decide +kernel)
    · rw [restoredEnd_get (by decide +kernel) (by decide +kernel), restoredNumbers]
      simp (disch := decide +kernel)
  · rw [exec_resyncZone, execResyncZone]
    refine ⟨_, done_onMedia hr ((resyncLogged_drive hd).trans (resyncZone_done hrun hz hd hscan hb)), ?_, ?_, ?_⟩
    · rw [showZones, acd_setMany, showResync_acd]
    · rw [showZones, acd_setMany, showResync_acd]
    · rw [showZones_get (by decide +kernel) (by decide +kernel) (by decide +kernel), showResync_zones]

end Sys2Proof.Machine
end
